-- ==== Sys2Proof/Syntax.lean ====
section
/-!
DEFINITION. Sys2Proof/Syntax.lean: the commands the module takes, one constructor per row of spec/opcode_table.json in the
table's order. Every command carries `t`, the MONO time in ns at which it happens (R68; log 1); a command from the host or
the monitor carries its path. What a command brings from the outside (a frame's bytes, a measured level, data read from a
source) is an operand.
-/

namespace Sys2Proof

/-- The path a register access or command comes by (R457): the host through BAR0, or the Xiyth monitor. -/
inductive Path where
  | host | monitor
  deriving DecidableEq, Repr

/-- The code of a path in registers: 0 host, 1 monitor. -/
def Path.code : Path → Nat
  | .host => 0
  | .monitor => 1

/-- A PTP message as IEEE 1588 decodes it (R74), for the device's own domain. An announce brings the port state its data-set
comparison leads to; a Sync is complete, with its follow-up where it is two-step; times are TAI ns, corrections ns. -/
inductive PtpMsg where
  | announce (portState clockClass accuracy steps gmId : Nat) (utc : Option Int) (leap61 leap59 : Bool) (inaccuracy : Nat)
  | sync (origin : Nat) (correction : Int) (stamp interval : Nat)
  | pdelay (t1 t2 t3 t4 : Nat) (correction : Int)
  | pdelayReq (stamp : Nat)
  deriving DecidableEq, Repr


/-- Who owns an uncorrectable memory word (R282): a configuration store, the state of a thread, tracker, area, alarm point in a lane or
flow point, a Loom entry (lattice, slot tag, TID), a queued packet (queue, SEQ), a staged ledger record, a page of a capture
region. -/
inductive MemOwner where
  | none
  | config
  | thread (tid : Nat)
  | tracker (k : Nat)
  | area (a : Nat)
  | point (lane ap : Nat)
  | energy (fp : Nat)
  | loom (lattice tag tid : Nat)
  | packet (q seq : Nat)
  | staging (acc : Nat)
  | capture (region page : Nat)
  deriving DecidableEq, Repr

/-- What a scrub finds (R280): a pass over the whole memory has ended after some ms; a single-bit error; an uncorrectable word, with
whether its re-read succeeded and whether the repair reserve or the region's spares are exhausted (R282). -/
inductive ScrubFind where
  | pass (ms : Nat)
  | single (element : Nat)
  | double (element : Nat) (ok spent : Bool) (owner : MemOwner)
  deriving DecidableEq, Repr

/-- A measurement of the islands (R440): least canary slack by island in 0.01 % of the clock period, ring oscillator frequency by island
in kHz, T_j in 0.1 °C. -/
structure ClockMeasure where
  slack : List (Nat × Int)
  ring : List (Nat × Nat)
  tj : Int
  deriving DecidableEq, Repr

/-- What a command given by its opcode alone may bring from the outside: the measurement of a REPLAN; the blocks a scan has done when
SCAN_STOP stops it. -/
structure CmdInput where
  measure : ClockMeasure := ⟨[], [], 0⟩
  blocks : Nat := 0
  deriving DecidableEq, Repr

/-- The commands. -/
inductive Instr where
  /-- REGISTER_WRITE (R473): A BAR0 or monitor write to a register that has no row of its own, subject to mastership, RWL locks and the block's own write rules. -/
  | registerWrite (t : Nat) (path : Path) (addr : Nat) (value : Word) (whole : Bool) (x : CmdInput)
  /-- LOW_WORD_READ (R6): Reading the low word of a 64-bit value snapshots the high word for the next read. -/
  | lowWordRead (t : Nat) (addr : Nat) (whole : Bool)
  /-- IRQ_SET (R472): A write to IRQ_SET sets the defined interrupt causes as hardware would and counts them. -/
  | irqSet (t : Nat) (path : Path) (block : Nat) (value : Word)
  /-- IRQ_STATUS_WRITE (R452): A write to IRQ_STATUS or IRQ_ENABLE clears or enables causes and signals the block's vector again if a cause remains pending. -/
  | irqStatusWrite (t : Nat) (path : Path) (block : Nat) (enable : Bool) (value : Word)
  /-- MSIX_UNMASK (R452): The host unmasks a vector whose PBA bit is set, and the device signals it. -/
  | msixUnmask (t : Nat) (path : Path) (vector : Nat)
  /-- LOAD (R52): The DRAFT LOAD command starts a draft load from the host, an Archive image or QSPI, legal only in M0 and M2. -/
  | load (t : Nat) (path : Path)
  /-- AUTOMATIC_BOOT (R52): At power-on with BOOT_SEL 01 or 10 the device starts a draft load by itself. -/
  | automaticBoot (t : Nat)
  /-- LOAD_DONE (R53): A draft load completes its checks, powers the USED domains, writes the configuration stores and enters M2. -/
  | loadDone (t : Nat) (object : List Byte) (retried : List Nat)
  /-- LOAD_FAIL (R54): A load fails a check twice, or hits a source error, and the device returns to M0 with no draft. -/
  | loadFail (t : Nat) (object : List Byte) (retried : List Nat) (at' : Option Nat)
  /-- UNLOAD (R64): The UNLOAD command takes the device from M2 to M0. -/
  | unload (t : Nat) (path : Path)
  /-- LOAD_CARD (R55): The LOAD_CARD command starts loading a card into its card slot. -/
  | loadCard (t : Nat) (path : Path)
  /-- CARD_LOADED (R55): A card passes every check and is written to the draft shadow, taking its binding. -/
  | cardLoaded (t : Nat) (object : List Byte) (retried : List Nat)
  /-- DROP_CARD (R66): The DROP_CARD command removes a held card unless it is bound to the mode in force or a pending switch. -/
  | dropCard (t : Nat) (path : Path)
  /-- PATCH (R58): The PATCH command starts loading a patch for the switch slot given in DRAFT_PATCH_SLOT. -/
  | patch (t : Nat) (path : Path)
  /-- PATCH_ACCEPTED (R58): A patch passes its checks and its switch slot and is merged into the base in the draft shadow, pending at S. -/
  | patchAccepted (t : Nat) (object : List Byte) (retried : List Nat)
  /-- CANCEL_PATCH (R66): The CANCEL_PATCH command drops a pending patch before the instant of its S. -/
  | cancelPatch (t : Nat) (path : Path)
  /-- IMAGE_WRITE (R51): The IMAGE_WRITE command marks an Archive image WRITING and starts writing it from host memory. -/
  | imageWrite (t : Nat) (path : Path)
  /-- IMAGE_ERASE (R66): The IMAGE_ERASE command marks an Archive image EMPTY. -/
  | imageErase (t : Nat) (path : Path)
  /-- IMAGE_DONE (R51): An image write completes and is read back, and the image is marked VALID or INVALID. -/
  | imageDone (t : Nat) (bytes : List Byte) (good : Bool)
  /-- CARD_LOCK (R66): Setting DRAFT_CTRL.CARD_LOCK makes later card loads, drops and patches refused. -/
  | cardLock (t : Nat) (path : Path)
  /-- REQUIRE_SIGNED (R48): Setting DRAFT_CTRL.REQUIRE_SIGNED makes later unsigned objects refused. -/
  | requireSigned (t : Nat) (path : Path)
  /-- STAGING_COMPLETE (R60): Staging of a switch decided while TEST is stopped completes, open slots close as FORCED and the new mode takes effect. -/
  | stagingComplete (t : Nat)
  /-- SWITCH_SLOT (R56): The instant of a pending switch slot S is reached and the new mode, card or patch takes effect for all blocks. -/
  | switchSlot (t : Nat)
  /-- WARM_RESET (R475): The GLOBAL WARM_RESET command with the key value starts a warm reset 100 µs after DONE. -/
  | warmReset (t : Nat) (path : Path)
  /-- WRST_N (R437): A low pulse on WRST_N of at least 1 µs starts a warm reset. -/
  | wrstN (t : Nat) (lowNs : Nat)
  /-- WARM_DONE (R437): The warm reset completes its restart of PD_CTRL and its replay of the USED domains. -/
  | warmDone (t : Nat)
  /-- REQUEST_M2 (R64): A GLOBAL_MODE_REQ write of 2 requests a switch to M2. -/
  | requestM2 (t : Nat) (path : Path)
  /-- REQUEST_M3 (R64): A GLOBAL_MODE_REQ write of 3 requests service, with the mode then set by the conditions. -/
  | requestM3 (t : Nat) (path : Path)
  /-- REQUEST_M9 (R64): A GLOBAL_MODE_REQ write of 9 requests M9 COMMISSION from M2. -/
  | requestM9 (t : Nat) (path : Path)
  /-- SET_HOST_OVERLOAD (R476): A GLOBAL_MODE_REQ write of 8 sets the host overload condition. -/
  | setHostOverload (t : Nat) (path : Path)
  /-- LIFT_HOST_OVERLOAD (R476): A GLOBAL_MODE_REQ write of 14 lifts the host overload condition. -/
  | liftHostOverload (t : Nat) (path : Path)
  /-- POWER_ON_RESET (R425): All supplies in range for 2 ms with PORST_N released gives power-on reset, sampling straps and running the ledger start-up. -/
  | powerOnReset (t : Nat) (bootSel modid claimMode : Nat) (pfwLow : Bool)
  /-- TIME_PLL_LOCK (R70): The TIME PLL locks to REF10M and MONO and GRID move onto the OCXO rate. -/
  | timePllLock (t : Nat)
  /-- PTP_MESSAGE (R75): A PTP message from a port reaches TIME and feeds qualification, offset and delay samples and the servo. -/
  | ptpMessage (t : Nat) (port : Nat) (msg : PtpMsg)
  /-- PTP_TRANSMIT (R74): The 1 s timer sends Sync, Announce and Pdelay messages on PTP ports. -/
  | ptpTransmit (t : Nat)
  /-- SOURCE_TIMEOUT (R71): A time source misses Syncs, edges or frames for its limit and is disqualified. -/
  | sourceTimeout (t : Nat) (source : Nat)
  /-- PPS_EDGE (R80): A rising edge on PPS_I is stamped and used for qualification and offset. -/
  | ppsEdge (t : Nat) (stamp : Nat)
  /-- TOD_SENTENCE (R80): A ZDA sentence on TOD_I labels the preceding PPS edge or counts as a message error. -/
  | todSentence (t : Nat) (utc : Nat) (ok : Bool)
  /-- IRIG_FRAME (R81): An IRIG-B frame on IRIG_I gives phase and seconds, with IEEE 1344 extensions when present. -/
  | irigFrame (t : Nat) (stamp : Nat) (ok : Bool) (ext : Bool) (year : Option Nat) (second : Nat) (localOffset : Int) (quality : Nat) (leapPending : Bool) (leapDelete : Bool)
  /-- CROSS_FAIL (R73): GRID and AUX differ beyond CROSS_TOL for 1 s and a source is disqualified or the servo holds over. -/
  | crossFail (t : Nat)
  /-- CROSS_AGREE (R73): Two sources agree within CROSS_TOL for 10 s and qualify again. -/
  | crossAgree (t : Nat)
  /-- LEAP_APPLIED (R84): A leap second takes effect at the end of the UTC day and TAI − UTC changes. -/
  | leapApplied (t : Nat)
  /-- PPS_O_EDGE (R81): PPS_O rises at each GRID second unless gated in FREERUN. -/
  | ppsOEdge (t : Nat)
  /-- PULSE_EDGE (R87): A programmed pulse output reaches an edge time on its base. -/
  | pulseEdge (t : Nat) (n : Nat)
  /-- SET_GRID (R89): The SET_GRID command steps GRID to a given TAI time where legal. -/
  | setGrid (t : Nat) (path : Path)
  /-- SET_TEST (R89): The SET_TEST command loads the TEST base while it is stopped. -/
  | setTest (t : Nat) (path : Path)
  /-- PATH_ACCEPT (R83): The PATH_ACCEPT command adopts the offset departure as asymmetry or as a true offset and enters ACQUIRE. -/
  | pathAccept (t : Nat) (path : Path)
  /-- CLEAR_ASYM (R89): The CLEAR_ASYM command sets TIME_ASYM_COMP to 0 in M2 or M9. -/
  | clearAsym (t : Nat) (path : Path)
  /-- SET_UTC (R84): The SET_UTC command sets TAI − UTC and leap flags when no PTP or IRIG source is qualified. -/
  | setUtc (t : Nat) (path : Path)
  /-- PULSE_ARM (R87): The PULSE_ARM command arms a programmed pulse output. -/
  | pulseArm (t : Nat) (path : Path)
  /-- PULSE_DISARM (R89): The PULSE_DISARM command disarms a pulse output and drives it low. -/
  | pulseDisarm (t : Nat) (path : Path)
  /-- FRAME_RECEIVED (R95): A frame received whole at a port is stamped, checked and classified to Heddle, TIME, the slow path or a drop. -/
  | frameReceived (t : Nat) (port : Nat) (bytes : List Byte) (latched : Nat) (fcsOk : Bool)
  /-- LINK_UP (R92): A port's link conditions hold, for 10 ms without fault at 10GBASE-R, and the link comes up. -/
  | linkUp (t : Nat) (port : Nat) (since : Nat)
  /-- LINK_DOWN (R92): A port loses a link condition and its link goes down at once. -/
  | linkDown (t : Nat) (port : Nat) (detail : Nat) (inFrame : Bool)
  /-- PRP_SUPERVISION (R104): The supervision timer sends a PRP supervision frame on both ports of a pair. -/
  | prpSupervision (t : Nat) (pair : Nat)
  /-- PRP_FORGET (R103): A PRP source entry is forgotten FORGET ms after its last frame. -/
  | prpForget (t : Nat) (pair : Nat) (mac : Nat)
  /-- HOST_FRAME_SEND (R106): A host frame from the transmit queue is sent on its port, or held while a Shuttle launch is near. -/
  | hostFrameSend (t : Nat)
  /-- MCAST_WRITE (R101): The MCAST_WRITE command replaces one multicast-table entry from the stage registers between two frames. -/
  | mcastWrite (t : Nat) (path : Path)
  /-- MCAST_CLEAR (R111): The MCAST_CLEAR command clears VALID of one multicast-table entry. -/
  | mcastClear (t : Nat) (path : Path)
  /-- LINK_RESTART (R111): The PORT LINK_RESTART command restarts a port's PCS and auto-negotiation. -/
  | linkRestart (t : Nat) (path : Path)
  /-- PRP_FLUSH (R111): The PRP_FLUSH command empties a PRP pair's duplicate table. -/
  | prpFlush (t : Nat) (path : Path)
  /-- C37_DATA_FRAME (R121): A C37.118 data frame is matched to its stream, checked and decoded into thread items. -/
  | c37DataFrame (t : Nat)
  /-- C37_CONFIG_FRAME (R126): A CFG-1, CFG-2 or CFG-3 frame is copied to the configuration queue and its signature judged against the entry. -/
  | c37ConfigFrame (t : Nat)
  /-- C37_HEADER_FRAME (R134): A C37.118 header frame is copied to the configuration queue. -/
  | c37HeaderFrame (t : Nat)
  /-- C37_COMMAND_FRAME (R121): A received C37.118 command frame, or one of reserved type, is dropped and counted. -/
  | c37CommandFrame (t : Nat)
  /-- SESSION_PDU (R127): An IEC 61850-90-5 session PDU is authenticated, checked for replay and decoded. -/
  | sessionPdu (t : Nat)
  /-- SV_FRAME (R131): An IEC 61850-9-2 frame's ASDUs are decoded into waveform samples for Reed and capture. -/
  | svFrame (t : Nat)
  /-- GOOSE_MESSAGE (R136): A subscribed GOOSE message updates its digital thread and trigger inputs on a new stNum or refreshes supervision. -/
  | gooseMessage (t : Nat)
  /-- INJECTED_FRAME (R133): A host-injected packet is checked and handled as a class 1 C37.118 frame. -/
  | injectedFrame (t : Nat)
  /-- SILENCE_TIMEOUT (R137): A stream receives no data frame for its silence timeout and goes SILENT. -/
  | silenceTimeout (t : Nat) (sid : Nat)
  /-- GOOSE_TAL_EXPIRED (R136): No accepted GOOSE message arrives within timeAllowedToLive and its thread reads STREAM_DOWN. -/
  | gooseTalExpired (t : Nat) (entry : Nat)
  /-- DATA_ON_RETRY (R137): Every 10 s a data-on command is sent to a CMD_START stream still WAITING or SILENT. -/
  | dataOnRetry (t : Nat) (sid : Nat)
  /-- STREAM_STATE (R140): The STREAM_STATE command returns a stream's state, frame rate and last stamp. -/
  | streamState (t : Nat) (path : Path)
  /-- STREAM_ENABLE (R140): The HEDDLE STREAM_ENABLE command sets or clears a stream's run-time enable. -/
  | streamEnable (t : Nat) (path : Path)
  /-- REQUEST_CFG (R140): The REQUEST_CFG command asks a source for CFG-2 or CFG-3. -/
  | requestCfg (t : Nat) (path : Path)
  /-- KEY_LOAD (R128): The KEY_LOAD command loads a 90-5 key slot from the stage registers. -/
  | keyLoad (t : Nat) (path : Path)
  /-- KEY_INVALIDATE (R140): The KEY_INVALIDATE command invalidates a key slot. -/
  | keyInvalidate (t : Nat) (path : Path)
  /-- REED_ITEM (R142): A thread item from Heddle is checked, entered into history and any outputs its kernel now covers are formed. -/
  | reedItem (t : Nat) (fails : Nat)
  /-- WAVEFORM_SAMPLE (R162): A waveform sample reaches the Reed estimator and detectors. -/
  | waveformSample (t : Nat)
  /-- THREAD_STATE (R173): The THREAD_STATE command returns a thread's taps held and last output. -/
  | threadState (t : Nat) (path : Path)
  /-- EST_STATE (R173): The EST_STATE command returns an estimator's last magnitude and frequency. -/
  | estState (t : Nat) (path : Path)
  /-- BANK_INFO (R173): The BANK_INFO command returns a BAND coefficient bank's rates. -/
  | bankInfo (t : Nat) (path : Path)
  /-- SLOT_INSTANT (R176): A lattice instant is reached, a slot opens and sets without required threads may close. -/
  | slotInstant (t : Nat) (lattice : Nat)
  /-- LOOM_WRITE (R182): An item from Reed or derivation is checked and written with its presence bit, possibly closing its set on presence. -/
  | loomWrite (t : Nat) (fails : Nat)
  /-- SET_DEADLINE (R187): A set's deadline for a slot is reached on the active base. -/
  | setDeadline (t : Nat) (lattice : Nat)
  /-- CLOSE_PIPELINE (R196): ANA takes a slot-close event and runs derivation, trackers, islanding, energy and the lanes' evaluation for the slot. -/
  | closePipeline (t : Nat) (checks : List (Nat × Nat × Nat)) (upsets : List (Nat × Nat))
  /-- LEARNED_REFRESH (R191): Every 100 ms the learned latency of each adaptive set is recomputed. -/
  | learnedRefresh (t : Nat)
  /-- OVERLOAD_SET (R200): A Loom overload cause holds and the overload condition is set. -/
  | overloadSet (t : Nat) (backpressureMs : Nat)
  /-- OVERLOAD_CLEAR (R200): No overload cause has held for EXIT_S seconds and the condition clears. -/
  | overloadClear (t : Nat) (backpressureMs : Nat)
  /-- READ_VALUE (R195): The READ_VALUE command returns a thread's word and quality in a slot. -/
  | readValue (t : Nat) (path : Path)
  /-- QUANTILE (R203): The QUANTILE command returns a stream's latency quantile. -/
  | quantile (t : Nat) (path : Path)
  /-- HIST_RESET (R191): The HIST_RESET command clears a stream's latency histogram. -/
  | histReset (t : Nat) (path : Path)
  /-- WEFT (R178): The WEFT command returns a thread's lattice and weft index. -/
  | weft (t : Nat) (path : Path)
  /-- CLOSE_NOW (R203): The CLOSE_NOW command closes every due open set of a lattice as FORCED in M9. -/
  | closeNow (t : Nat) (path : Path)
  /-- TRACKER_STALE (R216): A run of absent tracker samples passes OSC_GAP_MAX and the tracker goes STALE. -/
  | trackerStale (t : Nat) (tracker : Nat)
  /-- CKPT_ARCHIVE (R225): Every 600 s the tracker checkpoint set is written to the Archive. -/
  | ckptArchive (t : Nat) (fails : Nat)
  /-- SHAPE_REPORT (R228): Every PERIOD seconds a mode-shape job writes a record to its queue. -/
  | shapeReport (t : Nat) (job : Nat)
  /-- TRACKER_READ (R231): The TRACKER_READ command fills the tracker snapshot registers. -/
  | trackerRead (t : Nat) (path : Path)
  /-- SPECTRUM_READ (R231): The SPECTRUM_READ command fills the spectrum registers from the last hop. -/
  | spectrumRead (t : Nat) (path : Path)
  /-- TRACKER_RESET (R231): The TRACKER_RESET command restarts a tracker in FILLING. -/
  | trackerReset (t : Nat) (path : Path)
  /-- CKPT_SAVE (R231): The CKPT_SAVE command writes a checkpoint set to the Archive now. -/
  | ckptSave (t : Nat) (path : Path)
  /-- SC_TIMEOUT (R247): SC_TIMEOUT seconds pass since a check started and it ends TIMEOUT. -/
  | scTimeout (t : Nat)
  /-- AREA_READ (R249): The AREA_READ command fills the area aggregate registers. -/
  | areaRead (t : Nat) (path : Path)
  /-- SC_START (R247): The SC_START command starts a synchro-check at a point. -/
  | scStart (t : Nat) (path : Path)
  /-- SC_STOP (R249): The SC_STOP command ends the check in progress. -/
  | scStop (t : Nat) (path : Path)
  /-- TIE_FORCE (R249): The TIE_FORCE command forces or releases a tie state in M9. -/
  | tieForce (t : Nat) (path : Path)
  /-- GOOSE_REPEAT (R270): The repetition timer resends a GOOSE block's state with sqNum advanced. -/
  | gooseRepeat (t : Nat) (cb : Nat)
  /-- PIN_MISMATCH (R264): A ball disagrees with its majority drive for more than 10 µs. -/
  | pinMismatch (t : Nat) (pin : Nat) (high : Bool)
  /-- POINT_READ (R274): The POINT_READ command returns a point's lane state. -/
  | pointRead (t : Nat) (path : Path)
  /-- RESET_LATCH (R258): The RESET_LATCH command clears the latch of an eligible point. -/
  | resetLatch (t : Nat) (path : Path)
  /-- PIN_TEST (R272): The PIN_TEST command sinks one pin for a time in M2. -/
  | pinTest (t : Nat) (path : Path)
  /-- PIN_TEST_END (R272): A pin test's time runs out, or a mode request ends it early. -/
  | pinTestEnd (t : Nat)
  /-- LANE_RESYNC (R274): The LANE_RESYNC command forces a lane re-sync at the next event in M9. -/
  | laneResync (t : Nat) (path : Path)
  /-- RETRY_COMPLETE (R276): The single repeat of a failed checked operation completes, as transient or lasting. -/
  | retryComplete (t : Nat) (cls : Nat) (element' : Nat) (ok : Bool) (spent : Bool) (owner : MemOwner)
  /-- CONFIG_SCAN (R280): The continuous configuration-store scan finds a CRC mismatch. -/
  | configScan (t : Nat) (element' : Nat) (fails : Nat)
  /-- SHADOW_SCAN (R280): Every 10 s the draft shadow's section CRCs are scanned. -/
  | shadowScan (t : Nat) (fails : Nat)
  /-- SCRUB (R280): The SRAM or Stacks scrub reaches a word and corrects or reports it. -/
  | scrub (t : Nat) (inStacks : Bool) (find : ScrubFind)
  /-- RESTORED (R288): A restored element runs FAULT_RESTORE_S without a lasting fault and the fault may clear. -/
  | restored (t : Nat) (element' : Nat)
  /-- HOLD_EXPIRED (R286): The pad hold's LIMIT_S runs out and the held balls are released. -/
  | holdExpired (t : Nat)
  /-- ELEMENT_READ (R292): The ELEMENT_READ command returns an element's fault state and counts. -/
  | elementRead (t : Nat) (path : Path)
  /-- INJECT (R292): The INJECT command injects a fault of a class on an element in M9. -/
  | inject (t : Nat) (path : Path)
  /-- RESTORE (R288): The RESTORE command restarts the restore of a fenced element. -/
  | restore (t : Nat) (path : Path)
  /-- HOLD_RELEASE (R286): The HOLD_RELEASE command releases the held alarm balls in M10. -/
  | holdRelease (t : Nat) (path : Path)
  /-- COUNTERS_CLEAR (R292): The COUNTERS_CLEAR command clears the FAULT counters. -/
  | countersClear (t : Nat) (path : Path)
  /-- PARTNER_CLAIM (R298): A lane latches the partner's claim on its strobe and decides again whether this module holds. -/
  | partnerClaim (t : Nat) (lane : Nat) (claim : Nat)
  /-- PARTNER_LOST (R297): No partner strobe edge arrives for 3 µs and the partner's claim is taken as 0. -/
  | partnerLost (t : Nat)
  /-- CLAIM_RAISE (R296): A raised claim has held for RAISE_HOLD and is driven. -/
  | claimRaise (t : Nat)
  /-- INTLK_PULL (R300): In interlock mode a module that wants to hold has seen INTLK_N high for 8 µs, or 10 µs, and pulls it low. -/
  | intlkPull (t : Nat) (high : Bool)
  /-- HELLO_SEND (R304): Every 100 ms a module sends HELLO on the mirror link. -/
  | helloSend (t : Nat)
  /-- MIRROR_HELLO (R304): A HELLO is received, bringing the mirror link up and checking MODID and DRAFT_ID. -/
  | mirrorHello (t : Nat) (content : List Byte)
  /-- INTENT_SEND (R307): PAIR_INTENT_LEAD before a launch the holder sends INTENT for that slot. -/
  | intentSend (t : Nat) (os : Nat)
  /-- MIRROR_INTENT (R306): A received INTENT records the last slot tag of a stream. -/
  | mirrorIntent (t : Nat) (content : List Byte)
  /-- MIRROR_LATCH (R306): A received LATCH sets or clears a point's latch in all three partner lanes. -/
  | mirrorLatch (t : Nat) (content : List Byte)
  /-- MIRROR_GOOSE (R306): A received GOOSE message records a block's stNum. -/
  | mirrorGoose (t : Nat) (content : List Byte)
  /-- MIRROR_ENERGY (R306): A received ENERGY message records a flow point's accumulators. -/
  | mirrorEnergy (t : Nat) (content : List Byte)
  /-- MIRROR_LEDGER (R408): A received LEDGER message keeps the holder's staged records and discards those written. -/
  | mirrorLedger (t : Nat) (content : List Byte)
  /-- MIRROR_CKPT (R306): A received CKPT message keeps the tracker checkpoints. -/
  | mirrorCkpt (t : Nat) (content : List Byte)
  /-- MIRROR_CAPT (R379): A received CAPT message applies arm, disarm or a mirrored trigger to a region. -/
  | mirrorCapt (t : Nat) (content : List Byte)
  /-- MIRROR_FULL (R305): A received FULL refresh adopts every mirrored item at once. -/
  | mirrorFull (t : Nat) (content : List Byte)
  /-- ENERGY_MIRROR_SEND (R305): Every 1 s the holder sends ENERGY for each flow point. -/
  | energyMirrorSend (t : Nat)
  /-- CKPT_MIRROR_SEND (R225): Every 1 s the holder sends its tracker checkpoints to the partner. -/
  | ckptMirrorSend (t : Nat)
  /-- YIELD (R302): The YIELD command sets YIELD so the module stops claiming. -/
  | yield (t : Nat) (path : Path)
  /-- YIELD_APPLIED (R302): A holder applies YIELD once no intent is outstanding, or after one L0 slot period. -/
  | yieldApplied (t : Nat)
  /-- RECLAIM (R310): The RECLAIM command clears YIELD. -/
  | reclaim (t : Nat) (path : Path)
  /-- MIRROR_SYNC (R310): The MIRROR_SYNC command makes the holder send FULL. -/
  | mirrorSync (t : Nat) (path : Path)
  /-- TRAIN_CELL (R318): A TRAIN cell is received during bring-up; eight valid ones lead to TRAIN with ACKED. -/
  | trainCell (t : Nat) (link : Nat) (bytes : List Byte)
  /-- HEARTBEAT_CELL (R319): A HEARTBEAT is received and the link delay is measured. -/
  | heartbeatCell (t : Nat) (link : Nat) (bytes : List Byte)
  /-- HEARTBEAT_SEND (R319): An UP link sends a HEARTBEAT when idle or every 100 µs. -/
  | heartbeatSend (t : Nat) (link : Nat)
  /-- LINK_SILENT (R319): No valid cell arrives for 4 µs and the link goes DOWN as SILENT. -/
  | linkSilent (t : Nat) (link : Nat)
  /-- NAK_CELL (R321): A received NAK makes the sender retransmit the cell named. -/
  | nakCell (t : Nat) (link : Nat) (bytes : List Byte)
  /-- RETRANSMIT (R321): A sequenced cell is unacknowledged 4 µs after first transmission and is retransmitted. -/
  | retransmit (t : Nat) (link : Nat)
  /-- RETRY_FAIL (R322): A retransmitted cell is unacknowledged 4 µs later and the link goes DOWN. -/
  | retryFail (t : Nat) (link : Nat)
  /-- AUTO_RESTART (R322): 1 ms after a link went DOWN, with AUTO_RESTART, bring-up restarts. -/
  | autoRestart (t : Nat) (link : Nat)
  /-- BRINGUP_RETRY (R318): Every 1 s a link in MISMATCH or RANGE retries bring-up. -/
  | bringupRetry (t : Nat) (link : Nat)
  /-- CELL_TRANSMIT (R323): A link transmitter sends its next cell by precedence when credit allows. -/
  | cellTransmit (t : Nat) (link : Nat)
  /-- SLOT_HEAD_CELL (R325): A received SLOT_HEAD is checked for budget, hops and duplicates and passed on or delivered. -/
  | slotHeadCell (t : Nat) (link : Nat) (bytes : List Byte)
  /-- SLOT_DATA_CELL (R325): A received SLOT_DATA cell is passed on or delivered with its entries checked. -/
  | slotDataCell (t : Nat) (link : Nat) (bytes : List Byte)
  /-- TRUNCATION_TIMEOUT (R326): 100 ms after a slot's last cell without completion the root writes TRUNCATED. -/
  | truncationTimeout (t : Nat) (origin : Nat) (lattice : Nat)
  /-- ARM_CELL (R378): A received ARM cell arms matching REMOTE_ARM regions and is passed on. -/
  | armCell (t : Nat) (link : Nat) (bytes : List Byte)
  /-- FIRE_CELL (R378): A received FIRE cell triggers matching REMOTE_FIRE regions and is passed on. -/
  | fireCell (t : Nat) (link : Nat) (bytes : List Byte)
  /-- SLV_LINK_RESTART (R332): The SLV LINK_RESTART command takes a link down and starts bring-up. -/
  | slvLinkRestart (t : Nat) (path : Path)
  /-- LINK_HOLD (R332): The LINK_HOLD command takes a link down and holds it. -/
  | linkHold (t : Nat) (path : Path)
  /-- ORIGIN_READ (R332): The ORIGIN_READ command returns the last tag passed on for an origin and lattice. -/
  | originRead (t : Nat) (path : Path)
  /-- COMPOSE_START (R338): Composition of a published slot starts at the later of release and launch time less C_lead. -/
  | composeStart (t : Nat) (os : Nat)
  /-- LAUNCH (R339): A stream's launch time is reached and a ready frame leaves, or the slot is skipped. -/
  | launch (t : Nat) (os : Nat)
  /-- LATE_LAUNCH (R340): With LATE_SEND, a frame launches as soon as its late composition ends. -/
  | lateLaunch (t : Nat) (os : Nat)
  /-- SHUTTLE_STREAM_ENABLE (R360): The SHUTTLE STREAM_ENABLE command sets or clears a stream's run-time enable. -/
  | shuttleStreamEnable (t : Nat) (path : Path)
  /-- CFG_FETCH (R346): The CFG_FETCH command writes a stream's CFG-2 or CFG-3 to the CFG queue. -/
  | cfgFetch (t : Nat) (path : Path)
  /-- CMD_SEND (R348): The CMD_SEND command sends a C37.118 command frame to a source. -/
  | cmdSend (t : Nat) (path : Path)
  /-- D2H_COPY (R354): A committed packet is copied into the host ring when space allows and the write-back is written. -/
  | d2hCopy (t : Nat) (q : Nat) (good : Bool)
  /-- DOORBELL (R354): A write to QUEUE_Qn_DOORBELL moves the host's offset for a queue. -/
  | doorbell (t : Nat) (path : Path) (q : Nat) (value : Nat)
  /-- H2D_FETCH (R354): The device reads a host-to-device packet from the ring and commits it when its last word has arrived. -/
  | h2dFetch (t : Nat) (q : Nat) (kind : Nat) (payload : List Byte) (good : Bool)
  /-- MODERATION_TIMEOUT (R355): The moderation time passes since the first uncounted packet and the queue vector is signalled. -/
  | moderationTimeout (t : Nat) (q : Nat)
  /-- QUEUE_FLUSH (R357): Setting QUEUE_Qn_CTRL.FLUSH empties a queue's storage. -/
  | queueFlush (t : Nat) (path : Path) (q : Nat)
  /-- QUEUE_START (R354): The QUEUE_START command sets a queue RUNNING from the offsets held. -/
  | queueStart (t : Nat) (path : Path)
  /-- QUEUE_STOP (R362): The QUEUE_STOP command stops a queue's DMA after the packet in hand. -/
  | queueStop (t : Nat) (path : Path)
  /-- INPUT_CHANGE (R368): CAPT handles a trigger input change and evaluates the patterns of its regions. -/
  | inputChange (t : Nat)
  /-- WAVE_WAIT_END (R369): WAVE_WAIT ms after the last post slot's release the region leaves CLOSING for REARM. -/
  | waveWaitEnd (t : Nat) (region : Nat)
  /-- REARM_DONE (R369): The record header is written and the region arms, goes FULL or disarms. -/
  | rearmDone (t : Nat) (region : Nat)
  /-- ARM (R370): The ARM command arms a region if its worst case fits. -/
  | arm (t : Nat) (path : Path)
  /-- DISARM (R382): The DISARM command disarms a region. -/
  | disarm (t : Nat) (path : Path)
  /-- FIRE (R382): The FIRE command triggers an armed region at the present time. -/
  | fire (t : Nat) (path : Path)
  /-- TRIG_SET (R382): The TRIG_SET command sets a SOFT trigger input. -/
  | trigSet (t : Nat) (path : Path)
  /-- RECORD_LOCK (R380): The RECORD_LOCK command protects a record from reclaim. -/
  | recordLock (t : Nat) (path : Path)
  /-- RECORD_UNLOCK (R380): The RECORD_UNLOCK command releases a record lock. -/
  | recordUnlock (t : Nat) (path : Path)
  /-- ENERGY_SAVE (R392): Every 1 s a save set of accumulators is written to the Archive. -/
  | energySave (t : Nat) (fails : Nat)
  /-- EPULSE_PHASE (R395): A pulse output's high or low time ends and the next pulse starts while BACKLOG remains. -/
  | epulsePhase (t : Nat) (output : Nat)
  /-- INTERVAL_READ (R397): The INTERVAL_READ command fills the interval record registers. -/
  | intervalRead (t : Nat) (path : Path)
  /-- PEAK_RESET (R397): The PEAK_RESET command resets running peaks. -/
  | peakReset (t : Nat) (path : Path)
  /-- LEDGER_EVENT (R402): An event reaches the Ledger and is staged, coalesced or counted into a LOST record. -/
  | ledgerEvent (t : Nat) (code : Nat) (source : Nat) (payload : List Byte)
  /-- COALESCE_CLOSE (R403): The coalescing time passes without a repeat and the record closes. -/
  | coalesceClose (t : Nat)
  /-- RECORD_WRITTEN (R402): A closed record's Archive write completes in accession order. -/
  | recordWritten (t : Nat) (fails : Nat)
  /-- OP_SECONDS_SAVE (R405): Every 60 s OP_SECONDS is saved to the Archive. -/
  | opSecondsSave (t : Nat)
  /-- READ (R409): The LEDGER READ command returns a record by accession number. -/
  | read (t : Nat) (path : Path)
  /-- ACK (R410): The ACK command sets LEDGER_ACKED. -/
  | ack (t : Nat) (path : Path)
  /-- LEDGER_FLUSH (R416): The LEDGER FLUSH command closes open records and writes staging. -/
  | ledgerFlush (t : Nat) (path : Path)
  /-- VERIFY (R411): The VERIFY command checks the colophons of written records. -/
  | verify (t : Nat) (path : Path)
  /-- NONCE (R413): The NONCE command returns a fresh nonce for a clear or key change. -/
  | nonce (t : Nat) (path : Path)
  /-- NONCE_EXPIRY (R413): An outstanding nonce expires 60 s after issue. -/
  | nonceExpiry (t : Nat)
  /-- CLEAR (R414): The CLEAR command with a correct response starts an authorised clear. -/
  | clear (t : Nat) (path : Path)
  /-- CLEAR_DONE (R414): The erase of the old epoch completes. -/
  | clearDone (t : Nat)
  /-- KEY_SET (R412): The KEY_SET command loads the first ledger key. -/
  | keySet (t : Nat) (path : Path)
  /-- KEY_CHANGE (R414): The KEY_CHANGE command replaces the ledger key on a correct response. -/
  | keyChange (t : Nat) (path : Path)
  /-- SCAN_START (R419): The SCAN_START command starts a check-value scan. -/
  | scanStart (t : Nat) (path : Path)
  /-- SCAN_STOP (R422): The SCAN_STOP command ends a scan in STOPPED. -/
  | scanStop (t : Nat) (path : Path) (blocks : Nat)
  /-- SCAN_DONE (R419): A scan completes with its mismatch count or ends in ERROR. -/
  | scanDone (t : Nat) (engine : Nat) (bad : Option Nat)
  /-- DOMAIN_SET (R433): The DOMAIN_SET command requests ON, RETAIN or OFF for a domain in M2. -/
  | domainSet (t : Nat) (path : Path)
  /-- DRAIN_COMPLETE (R435): Transfers of a domain drain and its entry to RETAIN or OFF completes. -/
  | drainComplete (t : Nat)
  /-- DRAIN_TIMEOUT (R435): Transfers still in flight after 64 µs abandon the entry. -/
  | drainTimeout (t : Nat) (transfers : Nat)
  /-- DOMAIN_WAKE_DONE (R434): A domain woken on demand, by request or by restore reaches ON and stalled accesses complete. -/
  | domainWakeDone (t : Nat) (domain : Nat) (good : Bool)
  /-- ARCHIVE_RETAIN (R433): PD_ARCHIVE enters RETAIN after 10 ms without access. -/
  | archiveRetain (t : Nat)
  /-- DROOP (R427): A supply crosses a threshold after reset and a droop is detected. -/
  | droop (t : Nat) (supply mv : Nat)
  /-- DROOP_LASTING (R427): A supply not back in range within 10 µs gives a lasting DROOP. -/
  | droopLasting (t : Nat) (supply : Nat)
  /-- PFW_N_CHANGE (R428): PFW_N changes level, starting the 1 µs or 10 ms qualification, and short pulses count as glitches. -/
  | pfwNChange (t : Nat) (low : Bool)
  /-- PFW_FALL (R429): PFW_N has been low for 1 µs; energy freezes, FLUSHED is staged and the flush starts. -/
  | pfwFall (t : Nat)
  /-- FLUSH_DONE (R429): The flush writes complete, the Archive is write-protected and FLUSH_DONE_O rises. -/
  | flushDone (t : Nat) (fails : Nat)
  /-- PFW_RECOVERED (R430): PFW_N high for 10 ms lifts protection and resumes accumulation and saves. -/
  | pfwRecovered (t : Nat)
  /-- CLOCK_LOSS (R439): The cross-watchdogs find an island clock lost and the island's PLL is relocked. -/
  | clockLoss (t : Nat) (island : Nat) (wrong : Option Nat)
  /-- RELOCK_DONE (R439): A PLL relock completes as a transient loss or fails as lasting. -/
  | relockDone (t : Nat) (island : Nat) (ok : Bool)
  /-- CANARY_ERROR (R440): A timing error on a canary path starts a re-plan. -/
  | canaryError (t : Nat) (island : Nat) (canary : Nat) (m : ClockMeasure)
  /-- HOURLY_REPLAN (R442): Every hour the margins are measured and AVS and derating re-planned. -/
  | hourlyReplan (t : Nat) (m : ClockMeasure)
  /-- REPLAN_MEASURE (R442): 10 ms after an AVS step the margins are measured again and the re-plan continues. -/
  | replanMeasure (t : Nat) (m : ClockMeasure)
  /-- AVS_CHECK (R441): 1 ms after an AVS write VDD_CORE is checked against the request. -/
  | avsCheck (t : Nat) (mv : Nat) (ack : Bool)
  /-- AGE_FORECAST (R444): Once a day the margin forecast is computed and a dated alarm may be given. -/
  | ageForecast (t : Nat)
  /-- REPLAN (R449): The REPLAN command runs a re-plan now. -/
  | replan (t : Nat) (path : Path) (m : ClockMeasure)
  /-- AVS_SET (R449): The AVS_SET command sets the VDD_CORE request in M2. -/
  | avsSet (t : Nat) (path : Path)
  /-- PERST_N (R453): PERST_N changes; a fall resets only the endpoint and stops the queues, a rise starts link training. -/
  | perstN (t : Nat) (low : Bool) (object : List Byte) (off : Nat)
  /-- PCIE_LINK_UP (R453): The PCIe link trains and comes up. -/
  | pcieLinkUp (t : Nat) (speed width : Nat) (busMaster : Bool)
  /-- D_STATE (R454): The host moves the function between D0 and D3hot. -/
  | dState (t : Nat) (d3 : Bool)
  /-- BAR2_READ (R455): A BAR2 read returns corrected Stacks content, waking PD_STACKS. -/
  | bar2Read (t : Nat) (addr len : Nat) (good : Bool)
  /-- BAR2_WRITE (R455): A BAR2 write is performed in a spill-queue region and discarded elsewhere. -/
  | bar2Write (t : Nat) (addr : Nat) (bytes : List Byte)
  /-- MASTER_RECLAIM (R458): Writing 1 to HOST_MASTER.RECLAIM returns mastership to the host. -/
  | masterReclaim (t : Nat)
  /-- MON_HELP (R464): The monitor help command lists the commands. -/
  | monHelp (t : Nat)
  /-- MON_ID (R464): The monitor id command prints device identity and state. -/
  | monId (t : Nat)
  /-- MON_RD (R464): The monitor rd command reads BAR0 words. -/
  | monRd (t : Nat) (addr n : Nat)
  /-- MON_SR (R464): The monitor sr command reads Stacks words. -/
  | monSr (t : Nat) (addr n : Nat) (bad : Option Nat)
  /-- MON_WR (R464): The monitor wr command writes one BAR0 word. -/
  | monWr (t : Nat) (addr value : Nat) (x : CmdInput)
  /-- MON_CMD (R464): The monitor cmd command issues a block command and reports its result. -/
  | monCmd (t : Nat) (block opcode : Nat) (args : List Nat) (x : CmdInput)
  /-- MON_MODE (R464): The monitor mode command shows the mode or makes a mode request. -/
  | monMode (t : Nat) (mode : Option Nat)
  /-- MON_LEDGER (R464): The monitor ledger command prints ledger records. -/
  | monLedger (t : Nat) (acc : Option Nat) (n : Option Nat)
  /-- MON_FAULT (R464): The monitor fault command prints the fault registers. -/
  | monFault (t : Nat)
  /-- MON_LOAD (R460): The monitor load command starts a load from an image, QSPI or the UART. -/
  | monLoad (t : Nat) (source kind length : Nat)
  /-- MON_RESET_WARM (R464): The monitor reset warm command starts a warm reset. -/
  | monResetWarm (t : Nat)
  /-- MON_TAKE (R458): The monitor take command takes mastership when allowed. -/
  | monTake (t : Nat)
  /-- MON_GIVE (R458): The monitor give command returns mastership to the host. -/
  | monGive (t : Nat)
  /-- MON_BAUD (R466): The monitor baud command replies and schedules a rate change. -/
  | monBaud (t : Nat) (rate : Nat)
  /-- MON_LINE_DISCARD (R463): A monitor line with a framing error or unknown command is discarded or answered ERR. -/
  | monLineDiscard (t : Nat) (framing : Bool)
  /-- BAUD_CHANGE (R466): 10 ms after the baud reply the line rate changes. -/
  | baudChange (t : Nat)
  /-- BAUD_REVERT (R466): No complete line arrives within 10 s at a new rate and the monitor returns to 115,200 baud. -/
  | baudRevert (t : Nat)
  /-- UART_BLOCK (R460): A 1,024-byte UART load block with its CRC is received and accepted or repeated. -/
  | uartBlock (t : Nat) (block : List Byte) (crc : Nat)
  /-- UART_TIMEOUT (R460): No byte arrives for 2 s during a UART load, which fails with SOURCE_IO. -/
  | uartTimeout (t : Nat)
  /-- READ_ONLY (R465): Setting MONITOR_CTRL.READ_ONLY restricts the monitor to reads until reset. -/
  | readOnly (t : Nat) (path : Path)
  /-- BYPASS (R461): The JTAG BYPASS instruction. -/
  | bypass (t : Nat)
  /-- IDCODE (R461): The JTAG IDCODE instruction shifts out the IDCODE. -/
  | idcode (t : Nat)
  /-- SAMPLE_PRELOAD (R461): The JTAG SAMPLE/PRELOAD instruction. -/
  | samplePreload (t : Nat) (value : Nat)
  /-- EXTEST (R461): The JTAG EXTEST instruction drives the balls from the boundary register. -/
  | extest (t : Nat) (value : Nat)
  /-- HIGHZ (R461): The JTAG HIGHZ instruction. -/
  | highz (t : Nat)
  /-- CLAMP (R461): The JTAG CLAMP instruction holds the balls from the boundary register. -/
  | clamp (t : Nat)
  /-- CLAIM_STROBE_EDGE (R297): The module's own CLAIM_STB_O toggles every 0.5 µs and carries a changed effective claim on CLAIM_O[3:0]. -/
  | claimStrobeEdge (t : Nat)
  /-- INTERNAL_RESET (R425): PORST_N goes low, or a supply falls below its power-good threshold, and the device enters internal reset with every ball released. -/
  | internalReset (t : Nat)
  /-- SURPRISE_LINK_DOWN (R453): The PCIe link goes down for a reason other than PERST_N, resetting only the endpoint and stopping the queues. -/
  | surpriseLinkDown (t : Nat) (object : List Byte) (off : Nat)
  /-- BLOCK_LOCK (R318): A Selvedge receiver holds block lock for 100 µs and the link starts sending TRAIN cells. -/
  | blockLock (t : Nat) (link : Nat)
  /-- LOCK_LOST (R332): A Selvedge link loses block lock and goes DOWN with cause LOCK_LOST. -/
  | lockLost (t : Nat) (link : Nat)
  /-- BAD_CELL (R321): A received Selvedge cell whose CRC fails, or whose TYPE is unknown, is discarded and counted in SLV_LINKn_CRC_ERR. -/
  | badCell (t : Nat) (link : Nat)
  deriving DecidableEq, Repr

/-- The MONO time at which a command happens. -/
def Instr.time : Instr → Nat
  | .registerWrite t _ _ _ _ _ => t
  | .lowWordRead t _ _ => t
  | .irqSet t _ _ _ => t
  | .irqStatusWrite t _ _ _ _ => t
  | .msixUnmask t _ _ => t
  | .load t _ => t
  | .automaticBoot t => t
  | .loadDone t _ _ => t
  | .loadFail t _ _ _ => t
  | .unload t _ => t
  | .loadCard t _ => t
  | .cardLoaded t _ _ => t
  | .dropCard t _ => t
  | .patch t _ => t
  | .patchAccepted t _ _ => t
  | .cancelPatch t _ => t
  | .imageWrite t _ => t
  | .imageErase t _ => t
  | .imageDone t _ _ => t
  | .cardLock t _ => t
  | .requireSigned t _ => t
  | .stagingComplete t => t
  | .switchSlot t => t
  | .warmReset t _ => t
  | .wrstN t _ => t
  | .warmDone t => t
  | .requestM2 t _ => t
  | .requestM3 t _ => t
  | .requestM9 t _ => t
  | .setHostOverload t _ => t
  | .liftHostOverload t _ => t
  | .powerOnReset t _ _ _ _ => t
  | .timePllLock t => t
  | .ptpMessage t _ _ => t
  | .ptpTransmit t => t
  | .sourceTimeout t _ => t
  | .ppsEdge t _ => t
  | .todSentence t _ _ => t
  | .irigFrame t _ _ _ _ _ _ _ _ _ => t
  | .crossFail t => t
  | .crossAgree t => t
  | .leapApplied t => t
  | .ppsOEdge t => t
  | .pulseEdge t _ => t
  | .setGrid t _ => t
  | .setTest t _ => t
  | .pathAccept t _ => t
  | .clearAsym t _ => t
  | .setUtc t _ => t
  | .pulseArm t _ => t
  | .pulseDisarm t _ => t
  | .frameReceived t _ _ _ _ => t
  | .linkUp t _ _ => t
  | .linkDown t _ _ _ => t
  | .prpSupervision t _ => t
  | .prpForget t _ _ => t
  | .hostFrameSend t => t
  | .mcastWrite t _ => t
  | .mcastClear t _ => t
  | .linkRestart t _ => t
  | .prpFlush t _ => t
  | .c37DataFrame t => t
  | .c37ConfigFrame t => t
  | .c37HeaderFrame t => t
  | .c37CommandFrame t => t
  | .sessionPdu t => t
  | .svFrame t => t
  | .gooseMessage t => t
  | .injectedFrame t => t
  | .silenceTimeout t _ => t
  | .gooseTalExpired t _ => t
  | .dataOnRetry t _ => t
  | .streamState t _ => t
  | .streamEnable t _ => t
  | .requestCfg t _ => t
  | .keyLoad t _ => t
  | .keyInvalidate t _ => t
  | .reedItem t _ => t
  | .waveformSample t => t
  | .threadState t _ => t
  | .estState t _ => t
  | .bankInfo t _ => t
  | .slotInstant t _ => t
  | .loomWrite t _ => t
  | .setDeadline t _ => t
  | .closePipeline t _ _ => t
  | .learnedRefresh t => t
  | .overloadSet t _ => t
  | .overloadClear t _ => t
  | .readValue t _ => t
  | .quantile t _ => t
  | .histReset t _ => t
  | .weft t _ => t
  | .closeNow t _ => t
  | .trackerStale t _ => t
  | .ckptArchive t _ => t
  | .shapeReport t _ => t
  | .trackerRead t _ => t
  | .spectrumRead t _ => t
  | .trackerReset t _ => t
  | .ckptSave t _ => t
  | .scTimeout t => t
  | .areaRead t _ => t
  | .scStart t _ => t
  | .scStop t _ => t
  | .tieForce t _ => t
  | .gooseRepeat t _ => t
  | .pinMismatch t _ _ => t
  | .pointRead t _ => t
  | .resetLatch t _ => t
  | .pinTest t _ => t
  | .pinTestEnd t => t
  | .laneResync t _ => t
  | .retryComplete t _ _ _ _ _ => t
  | .configScan t _ _ => t
  | .shadowScan t _ => t
  | .scrub t _ _ => t
  | .restored t _ => t
  | .holdExpired t => t
  | .elementRead t _ => t
  | .inject t _ => t
  | .restore t _ => t
  | .holdRelease t _ => t
  | .countersClear t _ => t
  | .partnerClaim t _ _ => t
  | .partnerLost t => t
  | .claimRaise t => t
  | .intlkPull t _ => t
  | .helloSend t => t
  | .mirrorHello t _ => t
  | .intentSend t _ => t
  | .mirrorIntent t _ => t
  | .mirrorLatch t _ => t
  | .mirrorGoose t _ => t
  | .mirrorEnergy t _ => t
  | .mirrorLedger t _ => t
  | .mirrorCkpt t _ => t
  | .mirrorCapt t _ => t
  | .mirrorFull t _ => t
  | .energyMirrorSend t => t
  | .ckptMirrorSend t => t
  | .yield t _ => t
  | .yieldApplied t => t
  | .reclaim t _ => t
  | .mirrorSync t _ => t
  | .trainCell t _ _ => t
  | .heartbeatCell t _ _ => t
  | .heartbeatSend t _ => t
  | .linkSilent t _ => t
  | .nakCell t _ _ => t
  | .retransmit t _ => t
  | .retryFail t _ => t
  | .autoRestart t _ => t
  | .bringupRetry t _ => t
  | .cellTransmit t _ => t
  | .slotHeadCell t _ _ => t
  | .slotDataCell t _ _ => t
  | .truncationTimeout t _ _ => t
  | .armCell t _ _ => t
  | .fireCell t _ _ => t
  | .slvLinkRestart t _ => t
  | .linkHold t _ => t
  | .originRead t _ => t
  | .composeStart t _ => t
  | .launch t _ => t
  | .lateLaunch t _ => t
  | .shuttleStreamEnable t _ => t
  | .cfgFetch t _ => t
  | .cmdSend t _ => t
  | .d2hCopy t _ _ => t
  | .doorbell t _ _ _ => t
  | .h2dFetch t _ _ _ _ => t
  | .moderationTimeout t _ => t
  | .queueFlush t _ _ => t
  | .queueStart t _ => t
  | .queueStop t _ => t
  | .inputChange t => t
  | .waveWaitEnd t _ => t
  | .rearmDone t _ => t
  | .arm t _ => t
  | .disarm t _ => t
  | .fire t _ => t
  | .trigSet t _ => t
  | .recordLock t _ => t
  | .recordUnlock t _ => t
  | .energySave t _ => t
  | .epulsePhase t _ => t
  | .intervalRead t _ => t
  | .peakReset t _ => t
  | .ledgerEvent t _ _ _ => t
  | .coalesceClose t => t
  | .recordWritten t _ => t
  | .opSecondsSave t => t
  | .read t _ => t
  | .ack t _ => t
  | .ledgerFlush t _ => t
  | .verify t _ => t
  | .nonce t _ => t
  | .nonceExpiry t => t
  | .clear t _ => t
  | .clearDone t => t
  | .keySet t _ => t
  | .keyChange t _ => t
  | .scanStart t _ => t
  | .scanStop t _ _ => t
  | .scanDone t _ _ => t
  | .domainSet t _ => t
  | .drainComplete t => t
  | .drainTimeout t _ => t
  | .domainWakeDone t _ _ => t
  | .archiveRetain t => t
  | .droop t _ _ => t
  | .droopLasting t _ => t
  | .pfwNChange t _ => t
  | .pfwFall t => t
  | .flushDone t _ => t
  | .pfwRecovered t => t
  | .clockLoss t _ _ => t
  | .relockDone t _ _ => t
  | .canaryError t _ _ _ => t
  | .hourlyReplan t _ => t
  | .replanMeasure t _ => t
  | .avsCheck t _ _ => t
  | .ageForecast t => t
  | .replan t _ _ => t
  | .avsSet t _ => t
  | .perstN t _ _ _ => t
  | .pcieLinkUp t _ _ _ => t
  | .dState t _ => t
  | .bar2Read t _ _ _ => t
  | .bar2Write t _ _ => t
  | .masterReclaim t => t
  | .monHelp t => t
  | .monId t => t
  | .monRd t _ _ => t
  | .monSr t _ _ _ => t
  | .monWr t _ _ _ => t
  | .monCmd t _ _ _ _ => t
  | .monMode t _ => t
  | .monLedger t _ _ => t
  | .monFault t => t
  | .monLoad t _ _ _ => t
  | .monResetWarm t => t
  | .monTake t => t
  | .monGive t => t
  | .monBaud t _ => t
  | .monLineDiscard t _ => t
  | .baudChange t => t
  | .baudRevert t => t
  | .uartBlock t _ _ => t
  | .uartTimeout t => t
  | .readOnly t _ => t
  | .bypass t => t
  | .idcode t => t
  | .samplePreload t _ => t
  | .extest t _ => t
  | .highz t => t
  | .clamp t => t
  | .claimStrobeEdge t => t
  | .internalReset t => t
  | .surpriseLinkDown t _ _ => t
  | .blockLock t _ => t
  | .lockLost t _ => t
  | .badCell t _ => t

end Sys2Proof
end

