-- ==== Sys2Proof/Config.lean ====
section
/-!
DEFINITION. Sys2Proof/Config.lean: what an implementation fixes and what the spec leaves open. A constant without a body is
a FREE VALUE: no proof can see what it is, so a claim holds whatever it is. `State.freeCount` numbers fresh draws.
-/

namespace Sys2Proof.Config

/-- Silicon revision (`GLOBAL_ID` bits 15:8). DESIGN CHOICE (log 3): the spec's own worked example of R464 reads 0x02. -/
def siliconRevision : Nat := 2

/-- A fresh 64-bit value: the random nonce of R413. -/
opaque freeWord64 : Nat → BitVec 64

/-- A fresh 32-bit value, for a result the spec leaves open (log 5). -/
opaque freeWord32 : Nat → BitVec 32

/-- A fresh time inside a bound the spec states, in ns (log 5). -/
opaque freeTime : Nat → Nat

/-- The angle of the vector (0, 0) in 2⁻³² turn, which no rule states (log 7). -/
opaque angleOfZero : BitVec 32
/-- The logarithm of a binary64 value that is 0 or negative, which no rule states (log 7). -/
opaque lnOpen : BitVec 64 → BitVec 64

/-- The bytes of SRAM as a check engine reads them, by draw and address: the spec lays out what SRAM holds, not how it is encoded
(log 34). -/
opaque sramByte : Nat → Nat → BitVec 8

/-- The die identity in one-time memory (R475), by word: low, high. -/
opaque dieId : Nat → BitVec 32

/-- A port's fixed latency in ns by physical-layer mode and direction, 0 receive, 1 transmit: a constant of the mode (R111). -/
opaque portLatency : Nat → Nat → BitVec 32

/-- An island's margin coefficient k (R440) in 10⁻⁶ % per 0.1 °C, and its sensitivity as shipped in 0.01 % per 10 mV (R449), both in
one-time memory. -/
opaque islandK : Nat → Nat
opaque islandSens : Nat → BitVec 32

end Sys2Proof.Config
end

