-- ==== Sys2Proof/Machine/Crypto.lean ====
section
/-!
DEFINITION. Sys2Proof/Machine/Crypto.lean: the cryptographic functions the spec names by their standards (log 6): SHA-256 (R46, R47),
HMAC-SHA256 (R127, R128, R413), AES-GMAC (R127, R128), ECDSA P-256 (R46, R47).
-/

namespace Sys2Proof.Machine

/-! SHA-256. -/

/-- Bytes as a big-endian number. -/
def beNumber (bytes : List Byte) : Nat := bytes.foldl (fun n b => n * 256 + b.toNat) 0

/-- A number as `k` big-endian bytes. -/
def numberBe : Nat → Nat → List Byte
  | 0, _ => []
  | k + 1, n => numberBe k (n / 256) ++ [BitVec.ofNat 8 n]

/-- A list in pieces of `k`, at most `fuel` of them. -/
def pieces {α : Type} (k : Nat) : Nat → List α → List (List α)
  | 0, _ => []
  | fuel + 1, l => if l.isEmpty then [] else l.take k :: pieces k fuel (l.drop k)

/-- The round constants: fractional parts of the cube roots of the first 64 primes. -/
def shaRounds : List Word :=
  [0x428a2f98, 0x71374491, 0xb5c0fbcf, 0xe9b5dba5, 0x3956c25b, 0x59f111f1, 0x923f82a4, 0xab1c5ed5]
    ++ [0xd807aa98, 0x12835b01, 0x243185be, 0x550c7dc3, 0x72be5d74, 0x80deb1fe, 0x9bdc06a7, 0xc19bf174]
    ++ [0xe49b69c1, 0xefbe4786, 0x0fc19dc6, 0x240ca1cc, 0x2de92c6f, 0x4a7484aa, 0x5cb0a9dc, 0x76f988da]
    ++ [0x983e5152, 0xa831c66d, 0xb00327c8, 0xbf597fc7, 0xc6e00bf3, 0xd5a79147, 0x06ca6351, 0x14292967]
    ++ [0x27b70a85, 0x2e1b2138, 0x4d2c6dfc, 0x53380d13, 0x650a7354, 0x766a0abb, 0x81c2c92e, 0x92722c85]
    ++ [0xa2bfe8a1, 0xa81a664b, 0xc24b8b70, 0xc76c51a3, 0xd192e819, 0xd6990624, 0xf40e3585, 0x106aa070]
    ++ [0x19a4c116, 0x1e376c08, 0x2748774c, 0x34b0bcb5, 0x391c0cb3, 0x4ed8aa4a, 0x5b9cca4f, 0x682e6ff3]
    ++ [0x748f82ee, 0x78a5636f, 0x84c87814, 0x8cc70208, 0x90befffa, 0xa4506ceb, 0xbef9a3f7, 0xc67178f2]

/-- The first hash value: fractional parts of the square roots of the first eight primes. -/
def shaStart : List Word :=
  [0x6a09e667, 0xbb67ae85, 0x3c6ef372, 0xa54ff53a, 0x510e527f, 0x9b05688c, 0x1f83d9ab, 0x5be0cd19]

/-- Further words of the message schedule, newest first, after the 16 of the block. -/
def shaSchedule : Nat → List Word → List Word
  | 0, w => w
  | k + 1, w =>
    let w2 := w.getD 1 0
    let w7 := w.getD 6 0
    let w15 := w.getD 14 0
    let w16 := w.getD 15 0
    let s0 := w15.rotateRight 7 ^^^ w15.rotateRight 18 ^^^ (w15 >>> 3)
    let s1 := w2.rotateRight 17 ^^^ w2.rotateRight 19 ^^^ (w2 >>> 10)
    shaSchedule k ((w16 + s0 + w7 + s1) :: w)

/-- The eight working variables. -/
structure ShaVars where
  a : Word
  b : Word
  c : Word
  d : Word
  e : Word
  f : Word
  g : Word
  h : Word

/-- One round with its constant and schedule word. -/
def shaRound (v : ShaVars) (kw : Word × Word) : ShaVars :=
  let t1 := v.h + (v.e.rotateRight 6 ^^^ v.e.rotateRight 11 ^^^ v.e.rotateRight 25) + ((v.e &&& v.f) ^^^ (~~~v.e &&& v.g)) +
    kw.1 + kw.2
  let t2 := (v.a.rotateRight 2 ^^^ v.a.rotateRight 13 ^^^ v.a.rotateRight 22) +
    ((v.a &&& v.b) ^^^ (v.a &&& v.c) ^^^ (v.b &&& v.c))
  ⟨t1 + t2, v.a, v.b, v.c, v.d + t1, v.e, v.f, v.g⟩

/-- One block of 64 bytes into the hash value. -/
def shaBlock (h : List Word) (block : List Byte) : List Word :=
  let w := (shaSchedule 48 ((pieces 4 16 block).map (fun b => BitVec.ofNat 32 (beNumber b))).reverse).reverse
  let v := (shaRounds.zip w).foldl shaRound
    ⟨h.getD 0 0, h.getD 1 0, h.getD 2 0, h.getD 3 0, h.getD 4 0, h.getD 5 0, h.getD 6 0, h.getD 7 0⟩
  List.zipWith (· + ·) h [v.a, v.b, v.c, v.d, v.e, v.f, v.g, v.h]

/-- SHA-256 of a string of bytes, 32 bytes. -/
def sha256 (m : List Byte) : List Byte :=
  let zeros := (119 - m.length % 64) % 64
  let padded := m ++ [0x80] ++ List.replicate zeros 0 ++ numberBe 8 (8 * m.length)
  ((pieces 64 padded.length padded).foldl shaBlock shaStart).flatMap (fun w => numberBe 4 w.toNat)

/-- HMAC-SHA256 of a message under a key, 32 bytes. -/
def hmacSha256 (key m : List Byte) : List Byte :=
  let k := if key.length ≤ 64 then key else sha256 key
  let k := k ++ List.replicate (64 - k.length) 0
  sha256 (k.map (· ^^^ 0x5C) ++ sha256 (k.map (· ^^^ 0x36) ++ m))

/-! AES-128 and GMAC. -/

/-- Doubling in the field of AES. -/
def aesTwice (b : Byte) : Byte := (b <<< 1) ^^^ (if b.msb then 0x1B else 0)

/-- Product in the field of AES, over the low `k` bits of the second factor. -/
def aesMul : Nat → Byte → Byte → Byte
  | 0, _, _ => 0
  | k + 1, a, b => (if b.getLsbD 0 then a else 0) ^^^ aesMul k (aesTwice a) (b >>> 1)

/-- The inverse in the field, 0 of 0: the 254th power. -/
def aesInverse (b : Byte) : Byte :=
  let sq := fun (x : Byte) => aesMul 8 x x
  let b2 := sq b
  let b4 := sq b2
  let b8 := sq b4
  let b16 := sq b8
  let b32 := sq b16
  let b64 := sq b32
  [b4, b8, b16, b32, b64, sq b64].foldl (aesMul 8) b2

/-- The S-box. -/
def aesSub (b : Byte) : Byte :=
  let v := aesInverse b
  v ^^^ v.rotateLeft 1 ^^^ v.rotateLeft 2 ^^^ v.rotateLeft 3 ^^^ v.rotateLeft 4 ^^^ 0x63

/-- The S-box as a table. -/
def aesSbox : List Byte := (List.range 256).map (fun i => aesSub (BitVec.ofNat 8 i))

/-- The byte the S-box gives. -/
def aesSubByte (b : Byte) : Byte := aesSbox.getD b.toNat 0

/-- Bytewise exclusive or. -/
def xorBytes (a b : List Byte) : List Byte := List.zipWith (· ^^^ ·) a b

/-- Round keys from the last one, with the round constant: `n` further ones. -/
def aesKeys : Nat → Byte → List Byte → List (List Byte)
  | 0, _, _ => []
  | n + 1, rc, k =>
    let w := fun (i : Nat) => (k.drop (4 * i)).take 4
    let t := (((w 3).drop 1 ++ (w 3).take 1).map aesSubByte)
    let w0 := xorBytes (w 0) (xorBytes t [rc, 0, 0, 0])
    let w1 := xorBytes (w 1) w0
    let w2 := xorBytes (w 2) w1
    let next := w0 ++ w1 ++ w2 ++ xorBytes (w 3) w2
    next :: aesKeys n (aesTwice rc) next

/-- SubBytes then ShiftRows on the 16 bytes of the state, column by column. -/
def aesShift (st : List Byte) : List Byte :=
  (List.range 16).map (fun i => aesSubByte (st.getD ((i + 4 * (i % 4)) % 16) 0))

/-- MixColumns. -/
def aesMix (st : List Byte) : List Byte :=
  (List.range 16).map (fun i =>
    let at' := fun (r : Nat) => st.getD (4 * (i / 4) + (i + r) % 4) 0
    aesTwice (at' 0) ^^^ aesTwice (at' 1) ^^^ at' 1 ^^^ at' 2 ^^^ at' 3)

/-- AES-128 of one block of 16 bytes. -/
def aes128 (key block : List Byte) : List Byte :=
  let keys := aesKeys 10 1 key
  let st := (keys.take 9).foldl (fun st k => xorBytes (aesMix (aesShift st)) k) (xorBytes block key)
  xorBytes (aesShift st) (keys.getD 9 [])

/-- Product of two blocks in the field of GCM, over the bits of the first from the left. -/
def ghashMul : Nat → BitVec 128 → BitVec 128 → BitVec 128
  | 0, _, _ => 0
  | k + 1, x, v =>
    (if x.msb then v else 0) ^^^
      ghashMul k (x <<< 1) ((v >>> 1) ^^^ (if v.getLsbD 0 then (0xE1#128 <<< 120) else 0))

/-- GHASH of whole blocks. -/
def ghash (h : BitVec 128) (blocks : List (List Byte)) : BitVec 128 :=
  blocks.foldl (fun y b => ghashMul 128 (y ^^^ BitVec.ofNat 128 (beNumber b)) h) 0

/-- Bytes filled up with zeros to whole blocks of 16. -/
def padBlocks (m : List Byte) : List (List Byte) :=
  pieces 16 (m.length + 1) (m ++ List.replicate ((16 - m.length % 16) % 16) 0)

/-- AES-GMAC tag, 16 bytes, of a message under a key of 16 bytes and an initialisation vector. -/
def aesGmac (key iv m : List Byte) : List Byte :=
  let h := BitVec.ofNat 128 (beNumber (aes128 key (List.replicate 16 0)))
  let start := if iv.length = 12 then iv ++ [0, 0, 0, 1]
    else numberBe 16 (ghash h (padBlocks iv ++ [numberBe 16 (8 * iv.length)])).toNat
  let y := ghash h (padBlocks m ++ [numberBe 8 (8 * m.length) ++ numberBe 8 0])
  xorBytes (aes128 key start) (numberBe 16 y.toNat)

/-! ECDSA over P-256. -/

/-- The field's prime. -/
def p256Prime : Nat := 0xFFFFFFFF00000001000000000000000000000000FFFFFFFFFFFFFFFFFFFFFFFF
/-- The order of the base point. -/
def p256Order : Nat := 0xFFFFFFFF00000000FFFFFFFFFFFFFFFFBCE6FAADA7179E84F3B9CAC2FC632551
/-- The curve's coefficient b; a is −3. -/
def p256B : Nat := 0x5AC635D8AA3A93E7B3EBBD55769886BC651D06B0CC53B0F63BCE3C3E27D2604B
/-- The base point. -/
def p256Base : Nat × Nat :=
  (0x6B17D1F2E12C4247F8BCE6E563A440F277037D812DEB33A0F4A13945D898C296,
   0x4FE342E2FE1A7F9B8EE7EB4A7C0F9E162BCE33576B315ECECBB6406837BF51F5)

/-- `b ^ e` modulo `m`, over the low `k` bits of the exponent. -/
def powMod (m : Nat) : Nat → Nat → Nat → Nat
  | 0, _, _ => 1 % m
  | k + 1, b, e => (if e % 2 = 1 then b else 1) * powMod m k (b * b % m) (e / 2) % m

/-- The inverse modulo a prime of 256 bits. -/
def invMod (m a : Nat) : Nat := powMod m 256 (a % m) (m - 2)

/-- The sum of two points; none is the point at infinity. -/
def ecAdd (p q : Option (Nat × Nat)) : Option (Nat × Nat) :=
  match p, q with
  | none, q => q
  | p, none => p
  | some (x1, y1), some (x2, y2) =>
    let m := p256Prime
    if x1 = x2 ∧ (y1 + y2) % m = 0 then none
    else
      let slope := if x1 = x2 then (3 * x1 * x1 + (m - 3)) * invMod m (2 * y1) % m
        else (y2 + m - y1) * invMod m (x2 + m - x1) % m
      let x3 := (slope * slope + 2 * m - x1 - x2) % m
      some (x3, (slope * (x1 + m - x3) + m - y1) % m)

/-- A multiple of a point, over the low `bits` bits of the factor. -/
def ecMul : Nat → Nat → Option (Nat × Nat) → Option (Nat × Nat)
  | 0, _, _ => none
  | bits + 1, k, p => ecAdd (if k % 2 = 1 then p else none) (ecMul bits (k / 2) (ecAdd p p))

/-- ECDSA P-256: does the signature, r then s, hold for the digest under the public key, X then Y, each 32 bytes big-endian (R46)? -/
def ecdsaVerify (key digest signature : List Byte) : Bool :=
  let x := beNumber (key.take 32)
  let y := beNumber ((key.drop 32).take 32)
  let r := beNumber (signature.take 32)
  let sv := beNumber ((signature.drop 32).take 32)
  let m := p256Prime
  let n := p256Order
  let onCurve := decide (x < m ∧ y < m ∧ y * y % m = (x * x * x + (m - 3) * x + p256B) % m)
  let w := invMod n sv
  let u1 := beNumber digest * w % n
  let u2 := r * w % n
  onCurve && decide (0 < r ∧ r < n ∧ 0 < sv ∧ sv < n) &&
    (match ecAdd (ecMul 256 u1 (some p256Base)) (ecMul 256 u2 (some (x, y))) with
     | none => false
     | some (px, _) => px % n == r)

end Sys2Proof.Machine
end

