-- ==== Sys2Proof/Machine/RegTypes.lean ====
section
/-!
DEFINITION. Sys2Proof/Machine/RegTypes.lean: the types in which the register map is written (R8, R9, R10).
-/

namespace Sys2Proof.Machine

/-- Access codes of R8. -/
inductive Access where
  | ro | rw | w1c | w1s | wo | rwl
  deriving DecidableEq, Repr

/-- Reset classes of R9, and the sources of R10: `fromDraft` and `fromMode` are "Draft (DRAFT)" and "Draft (MODE)", `kept`
is Fuse, OTP, Strap, Fixed or Archive (no reset event writes it), `none` is a field that names no class. -/
inductive ResetClass where
  | por | warm | draft | mode | fromDraft | fromMode | kept | none
  deriving DecidableEq, Repr

/-- The modes in which an RWL field is locked (R8). -/
inductive Lock where
  | free | m3to10 | m3to8and10 | notM2M9
  deriving DecidableEq, Repr

/-- Is a field with this lock locked in mode index `m`? -/
def Lock.locked : Lock → Nat → Bool
  | .free, _ => false
  | .m3to10, m => decide (3 ≤ m ∧ m ≤ 10)
  | .m3to8and10, m => decide (3 ≤ m ∧ m ≤ 8 ∨ m = 10)
  | .notM2M9, m => !(m == 2 || m == 9)

/-- One field of a register table. -/
structure RegField where
  hi : Nat
  lo : Nat
  access : Access
  value : Nat
  cls : ResetClass
  lock : Lock
  deriving DecidableEq, Repr

/-- One register table: offset in its block, how many registers share it and their spacing, its fields. -/
structure RegRow where
  off : Nat
  count : Nat
  stride : Nat
  fields : List RegField
  deriving DecidableEq, Repr

/-- A field's place: BAR0 offset of its register and bit range. -/
structure Fld where
  addr : Nat
  hi : Nat
  lo : Nat
  deriving DecidableEq, Repr

end Sys2Proof.Machine
end

