-- ==== Sys2Proof/Machine/Names.lean ====
section
/-!
DEFINITION. Sys2Proof/Machine/Names.lean: the spec's own names. `R.<REGISTER>` is a register's BAR0 offset (R470: block
index in bits 24:20), `F.<REGISTER>_<FIELD>` one of its fields, `I.<BLOCK>_<CAUSE>` a cause of a block's IRQ_STATUS (block
index, bit) and `E.<BLOCK>_<EVENT>` a ledger event code. A register the spec numbers takes its number as argument.
-/

namespace Sys2Proof.R

abbrev GLOBAL_CTRL : Nat := 0x4
abbrev GLOBAL_STATUS : Nat := 0x8
abbrev GLOBAL_IRQ_STATUS : Nat := 0x10
abbrev GLOBAL_IRQ_ENABLE : Nat := 0x14
abbrev GLOBAL_PART : Nat := 0x100
abbrev GLOBAL_DIE_ID_LO : Nat := 0x104
abbrev GLOBAL_DIE_ID_HI : Nat := 0x108
abbrev GLOBAL_MODE : Nat := 0x110
abbrev GLOBAL_MODE_SINCE_LO : Nat := 0x114
abbrev GLOBAL_MODE_SINCE_HI : Nat := 0x118
abbrev GLOBAL_MODE_REQ : Nat := 0x120
abbrev GLOBAL_MODE_REQ_STATUS : Nat := 0x124
abbrev GLOBAL_IRQ_SUMMARY : Nat := 0x130
abbrev GLOBAL_QUEUE_SUMMARY : Nat := 0x134
abbrev GLOBAL_MODE_SECONDSn (n : Nat) : Nat := 0x200 + 0x4 * n
abbrev GLOBAL_MODE_CHANGES : Nat := 0x300
abbrev GLOBAL_MODE_REQUESTS : Nat := 0x304
abbrev GLOBAL_MODE_REFUSED : Nat := 0x308
abbrev GLOBAL_WARM_RESETS : Nat := 0x30c
abbrev DRAFT_CTRL : Nat := 0x100004
abbrev DRAFT_STATUS : Nat := 0x100008
abbrev DRAFT_IRQ_STATUS : Nat := 0x100010
abbrev DRAFT_IRQ_ENABLE : Nat := 0x100014
abbrev DRAFT_ID_LO : Nat := 0x100100
abbrev DRAFT_ID_HI : Nat := 0x100104
abbrev DRAFT_GENERATION : Nat := 0x100108
abbrev DRAFT_LOAD_TIME : Nat := 0x10010c
abbrev DRAFT_DOMAINS : Nat := 0x100110
abbrev DRAFT_CARDS : Nat := 0x100114
abbrev DRAFT_BIND0 : Nat := 0x100118
abbrev DRAFT_BIND1 : Nat := 0x10011c
abbrev DRAFT_SWITCH_STATUS : Nat := 0x100120
abbrev DRAFT_SWITCH_SLOT_LO : Nat := 0x100124
abbrev DRAFT_SWITCH_SLOT_HI : Nat := 0x100128
abbrev DRAFT_PATCH_SLOT_LO : Nat := 0x10012c
abbrev DRAFT_PATCH_SLOT_HI : Nat := 0x100130
abbrev DRAFT_SWITCH_COUNT : Nat := 0x100134
abbrev DRAFT_FAIL_OFFSET : Nat := 0x100138
abbrev DRAFT_KEYS : Nat := 0x10013c
abbrev DRAFT_IMAGES : Nat := 0x100140
abbrev DRAFT_MODE_COND : Nat := 0x100144
abbrev PORT_CTRL : Nat := 0x200004
abbrev PORT_STATUS : Nat := 0x200008
abbrev PORT_IRQ_STATUS : Nat := 0x200010
abbrev PORT_IRQ_ENABLE : Nat := 0x200014
abbrev PORT_SLOW_QUEUE : Nat := 0x200100
abbrev PORT_UDP_SVCn (n : Nat) : Nat := 0x200110 + 0x4 * n
abbrev PORT_MCAST_STAGE0 : Nat := 0x200200
abbrev PORT_MCAST_STAGE1 : Nat := 0x200204
abbrev PORT_MCAST_STAGE2 : Nat := 0x200208
abbrev PORT_MCAST_STAGE3 : Nat := 0x20020c
abbrev PORT_MCAST_STAGE4 (n : Nat) : Nat := 0x200210 + 0x4 * n
abbrev PORT_CFG (n : Nat) : Nat := 0x201000 + 0x10000 * n
abbrev PORT_LINK (n : Nat) : Nat := 0x201004 + 0x10000 * n
abbrev PORT_VLAN (n : Nat) : Nat := 0x201008 + 0x10000 * n
abbrev PORT_MAC_LO (n : Nat) : Nat := 0x201010 + 0x10000 * n
abbrev PORT_MAC_HI (n : Nat) : Nat := 0x201014 + 0x10000 * n
abbrev PORT_IPV4_0 (n : Nat) : Nat := 0x201018 + 0x10000 * n
abbrev PORT_IPV4_1 (n : Nat) : Nat := 0x20101c + 0x10000 * n
abbrev PORT_IPV6_0_0 (n : Nat) : Nat := 0x201020 + 0x10000 * n
abbrev PORT_IPV6_0_1 (n : Nat) : Nat := 0x201024 + 0x10000 * n
abbrev PORT_IPV6_0_2 (n : Nat) : Nat := 0x201028 + 0x10000 * n
abbrev PORT_IPV6_0_3 (n : Nat) : Nat := 0x20102c + 0x10000 * n
abbrev PORT_IPV6_1_0 (n : Nat) : Nat := 0x201030 + 0x10000 * n
abbrev PORT_IPV6_1_1 (n : Nat) : Nat := 0x201034 + 0x10000 * n
abbrev PORT_IPV6_1_2 (n : Nat) : Nat := 0x201038 + 0x10000 * n
abbrev PORT_IPV6_1_3 (n : Nat) : Nat := 0x20103c + 0x10000 * n
abbrev PORT_RX_LAT_ADJ (n : Nat) : Nat := 0x201040 + 0x10000 * n
abbrev PORT_TX_LAT_ADJ (n : Nat) : Nat := 0x201044 + 0x10000 * n
abbrev PORT_RX_LAT_FIXED (n : Nat) : Nat := 0x201048 + 0x10000 * n
abbrev PORT_TX_LAT_FIXED (n : Nat) : Nat := 0x20104c + 0x10000 * n
abbrev PORT_SLOW_RATE (n : Nat) : Nat := 0x201050 + 0x10000 * n
abbrev PORT_PRP_CFG (n : Nat) : Nat := 0x201054 + 0x20000 * n
abbrev PORT_RX_FRAMES (n : Nat) : Nat := 0x201100 + 0x10000 * n
abbrev PORT_RX_OCTETS_LO (n : Nat) : Nat := 0x201104 + 0x10000 * n
abbrev PORT_RX_OCTETS_HI (n : Nat) : Nat := 0x201108 + 0x10000 * n
abbrev PORT_RX_FCS_ERR (n : Nat) : Nat := 0x20110c + 0x10000 * n
abbrev PORT_RX_LEN_ERR (n : Nat) : Nat := 0x201110 + 0x10000 * n
abbrev PORT_RX_PCS_ERR (n : Nat) : Nat := 0x201114 + 0x10000 * n
abbrev PORT_RX_BUF_DROP (n : Nat) : Nat := 0x201118 + 0x10000 * n
abbrev PORT_RX_PAUSE (n : Nat) : Nat := 0x20111c + 0x10000 * n
abbrev PORT_RX_MAC_FILTERED (n : Nat) : Nat := 0x201120 + 0x10000 * n
abbrev PORT_RX_VLAN_DROP (n : Nat) : Nat := 0x201124 + 0x10000 * n
abbrev PORT_RX_ETYPE_DROP (n : Nat) : Nat := 0x201128 + 0x10000 * n
abbrev PORT_RX_IP_HDR_ERR (n : Nat) : Nat := 0x20112c + 0x10000 * n
abbrev PORT_RX_FRAG_DROP (n : Nat) : Nat := 0x201130 + 0x10000 * n
abbrev PORT_RX_EXTHDR_DROP (n : Nat) : Nat := 0x201134 + 0x10000 * n
abbrev PORT_RX_UDP_CSUM_ERR (n : Nat) : Nat := 0x201138 + 0x10000 * n
abbrev PORT_RX_SLOW (n : Nat) : Nat := 0x201140 + 0x10000 * n
abbrev PORT_RX_SLOW_RATE_DROP (n : Nat) : Nat := 0x201144 + 0x10000 * n
abbrev PORT_RX_SLOW_QFULL_DROP (n : Nat) : Nat := 0x201148 + 0x10000 * n
abbrev PORT_RX_MEAS (n : Nat) : Nat := 0x20114c + 0x10000 * n
abbrev PORT_RX_PTP (n : Nat) : Nat := 0x201150 + 0x10000 * n
abbrev PORT_PRP_DUP_DISCARD (n : Nat) : Nat := 0x201154 + 0x10000 * n
abbrev PORT_PRP_WRONG_LAN (n : Nat) : Nat := 0x201158 + 0x10000 * n
abbrev PORT_PRP_TABLE_FULL (n : Nat) : Nat := 0x20115c + 0x10000 * n
abbrev PORT_PRP_SUPERVISION (n : Nat) : Nat := 0x201160 + 0x10000 * n
abbrev PORT_TX_FRAMES (n : Nat) : Nat := 0x201164 + 0x10000 * n
abbrev PORT_TX_OCTETS_LO (n : Nat) : Nat := 0x201168 + 0x10000 * n
abbrev PORT_TX_OCTETS_HI (n : Nat) : Nat := 0x20116c + 0x10000 * n
abbrev PORT_TX_HOST_DEFERRED (n : Nat) : Nat := 0x201170 + 0x10000 * n
abbrev PORT_TX_HOST_BAD (n : Nat) : Nat := 0x201174 + 0x10000 * n
abbrev PORT_LINK_DOWNS (n : Nat) : Nat := 0x201178 + 0x10000 * n
abbrev PORT_MCASTn_W0 (n : Nat) : Nat := 0x280000 + 0x20 * n
abbrev PORT_MCASTn_W1 (n : Nat) : Nat := 0x280004 + 0x20 * n
abbrev PORT_MCASTn_W2 (n : Nat) : Nat := 0x280008 + 0x20 * n
abbrev PORT_MCASTn_W3 (n : Nat) : Nat := 0x28000c + 0x20 * n
abbrev PORT_MCASTn_W4 (n : Nat) : Nat := 0x280010 + 0x20 * n
abbrev PORT_MCASTn_W5 (n : Nat) : Nat := 0x280014 + 0x20 * n
abbrev PORT_MCASTn_W6 (n : Nat) : Nat := 0x280018 + 0x20 * n
abbrev PORT_MCASTn_W7 (n : Nat) : Nat := 0x28001c + 0x20 * n
abbrev TIME_CTRL : Nat := 0x300004
abbrev TIME_STATUS : Nat := 0x300008
abbrev TIME_IRQ_STATUS : Nat := 0x300010
abbrev TIME_IRQ_ENABLE : Nat := 0x300014
abbrev TIME_GRID_LO : Nat := 0x300100
abbrev TIME_GRID_HI : Nat := 0x300104
abbrev TIME_MONO_LO : Nat := 0x300108
abbrev TIME_MONO_HI : Nat := 0x30010c
abbrev TIME_AUX_LO : Nat := 0x300110
abbrev TIME_AUX_HI : Nat := 0x300114
abbrev TIME_TEST_LO : Nat := 0x300118
abbrev TIME_TEST_HI : Nat := 0x30011c
abbrev TIME_OFFSET : Nat := 0x300120
abbrev TIME_PATH_DELAY : Nat := 0x300124
abbrev TIME_AUX_DIFF : Nat := 0x300128
abbrev TIME_ERROR_BOUND : Nat := 0x30012c
abbrev TIME_FREQ : Nat := 0x300130
abbrev TIME_AGING : Nat := 0x300134
abbrev TIME_SOURCE_PRIO : Nat := 0x300140
abbrev TIME_SOURCE_QUAL : Nat := 0x300144
abbrev TIME_PTP_CFG : Nat := 0x300150
abbrev TIME_PTP_PORT_STATE : Nat := 0x300154
abbrev TIME_GM_ID_LO : Nat := 0x300158
abbrev TIME_GM_ID_HI : Nat := 0x30015c
abbrev TIME_GM_QUALITY : Nat := 0x300160
abbrev TIME_PATH_CFG : Nat := 0x300170
abbrev TIME_PATH_STEP : Nat := 0x300174
abbrev TIME_PATH_OFFSET : Nat := 0x300178
abbrev TIME_ASYM_COMP : Nat := 0x30017c
abbrev TIME_SERVO_CFG : Nat := 0x300180
abbrev TIME_INPUT_CFG : Nat := 0x300184
abbrev TIME_PPS_I_COMP : Nat := 0x300188
abbrev TIME_IRIG_COMP : Nat := 0x30018c
abbrev TIME_UTC : Nat := 0x300190
abbrev TIME_QUALITY : Nat := 0x300194
abbrev TIME_QUALITY_CFG : Nat := 0x300198
abbrev TIME_PPS_O_CFG : Nat := 0x30019c
abbrev TIME_PULSEn_START_LO (n : Nat) : Nat := 0x3001a0 + 0x10 * n
abbrev TIME_PULSEn_START_HI (n : Nat) : Nat := 0x3001a4 + 0x10 * n
abbrev TIME_PULSEn_PERIOD (n : Nat) : Nat := 0x3001a8 + 0x10 * n
abbrev TIME_PULSEn_CTRL (n : Nat) : Nat := 0x3001ac + 0x10 * n
abbrev TIME_TEST_RATE : Nat := 0x3001e0
abbrev TIME_PATH_DISCARDS : Nat := 0x3001e4
abbrev TIME_PULSE_SKIPPED : Nat := 0x3001e8
abbrev TIME_SOURCE_CHANGES : Nat := 0x3001ec
abbrev TIME_HOLDOVER_SECONDS : Nat := 0x3001f0
abbrev TIME_PULSEn_WIDTH (n : Nat) : Nat := 0x300200 + 0x4 * n
abbrev HEDDLE_CTRL : Nat := 0x400004
abbrev HEDDLE_STATUS : Nat := 0x400008
abbrev HEDDLE_IRQ_STATUS : Nat := 0x400010
abbrev HEDDLE_IRQ_ENABLE : Nat := 0x400014
abbrev HEDDLE_QUEUES : Nat := 0x400100
abbrev HEDDLE_SILENCE_MIN : Nat := 0x400104
abbrev HEDDLE_KEY_STAGEn (n : Nat) : Nat := 0x400200 + 0x4 * n
abbrev HEDDLE_FRAMES_OK : Nat := 0x400300
abbrev HEDDLE_CRC_ERR : Nat := 0x400304
abbrev HEDDLE_UNKNOWN_STREAM : Nat := 0x400308
abbrev HEDDLE_VERSION_ERR : Nat := 0x40030c
abbrev HEDDLE_LAYOUT_ERR : Nat := 0x400310
abbrev HEDDLE_TYPE_DROP : Nat := 0x400314
abbrev HEDDLE_DUPLICATE : Nat := 0x400318
abbrev HEDDLE_STALE : Nat := 0x40031c
abbrev HEDDLE_AUTH_FAIL : Nat := 0x400320
abbrev HEDDLE_ENCRYPTED_DROP : Nat := 0x400324
abbrev HEDDLE_SIM_DROP : Nat := 0x400328
abbrev HEDDLE_SNAP_MISS : Nat := 0x40032c
abbrev HEDDLE_INJECT_BAD : Nat := 0x400330
abbrev HEDDLE_CFG_QFULL : Nat := 0x400334
abbrev HEDDLE_GOOSE_OK : Nat := 0x400338
abbrev HEDDLE_GOOSE_OOO : Nat := 0x40033c
abbrev HEDDLE_GOOSE_TAL_EXPIRED : Nat := 0x400340
abbrev HEDDLE_REPLAY : Nat := 0x400344
abbrev REED_CTRL : Nat := 0x500004
abbrev REED_STATUS : Nat := 0x500008
abbrev REED_IRQ_STATUS : Nat := 0x500010
abbrev REED_IRQ_ENABLE : Nat := 0x500014
abbrev REED_PASS_TOL : Nat := 0x500100
abbrev REED_DF_MAX : Nat := 0x500104
abbrev REED_DF_HOLD : Nat := 0x500108
abbrev REED_PREDICT_SETn (n : Nat) : Nat := 0x500110 + 0x4 * n
abbrev REED_LOAD_IN : Nat := 0x500140
abbrev REED_LOAD_OUT : Nat := 0x500144
abbrev REED_LOAD_BAND : Nat := 0x500148
abbrev REED_LOAD_WAVE : Nat := 0x50014c
abbrev REED_EST_COUNT : Nat := 0x500150
abbrev REED_DET_COUNT : Nat := 0x500154
abbrev REED_BANKS : Nat := 0x500158
abbrev REED_IN_ITEMS : Nat := 0x500300
abbrev REED_OUT_ITEMS : Nat := 0x500304
abbrev REED_CHECK_RETRY : Nat := 0x500308
abbrev REED_CHECK_FAIL : Nat := 0x50030c
abbrev REED_CLIPPED : Nat := 0x500310
abbrev REED_PASS_MISS : Nat := 0x500314
abbrev REED_GAP_FALLBACK : Nat := 0x500318
abbrev REED_LATE_INPUT : Nat := 0x50031c
abbrev REED_DF_MISSING : Nat := 0x500320
abbrev REED_DF_CLAMPED : Nat := 0x500324
abbrev REED_EST_RANGE : Nat := 0x500328
abbrev REED_EST_FILL : Nat := 0x50032c
abbrev REED_BACKPRESSURE_US : Nat := 0x500330
abbrev LOOM_CTRL : Nat := 0x600004
abbrev LOOM_STATUS : Nat := 0x600008
abbrev LOOM_IRQ_STATUS : Nat := 0x600010
abbrev LOOM_IRQ_ENABLE : Nat := 0x600014
abbrev LOOM_QUEUES : Nat := 0x600100
abbrev LOOM_HIST_CFG : Nat := 0x600104
abbrev LOOM_QUANTn (n : Nat) : Nat := 0x600108 + 0x4 * n
abbrev LOOM_OVERLOAD_CFG : Nat := 0x600120
abbrev LOOM_OVERLOAD_LATE : Nat := 0x600124
abbrev LOOM_READ_QUALITY : Nat := 0x600128
abbrev LOOM_Ln_CFG (n : Nat) : Nat := 0x600200 + 0x40 * n
abbrev LOOM_Ln_CAPACITY (n : Nat) : Nat := 0x600204 + 0x40 * n
abbrev LOOM_Ln_CLOSED_LO (n : Nat) : Nat := 0x600208 + 0x40 * n
abbrev LOOM_Ln_CLOSED_HI (n : Nat) : Nat := 0x60020c + 0x40 * n
abbrev LOOM_Ln_RELEASED_LO (n : Nat) : Nat := 0x600210 + 0x40 * n
abbrev LOOM_Ln_RELEASED_HI (n : Nat) : Nat := 0x600214 + 0x40 * n
abbrev LOOM_Ln_CLOSE_LAG (n : Nat) : Nat := 0x600218 + 0x40 * n
abbrev LOOM_Ln_OPEN (n : Nat) : Nat := 0x60021c + 0x40 * n
abbrev LOOM_Ln_FORCED (n : Nat) : Nat := 0x600220 + 0x40 * n
abbrev LOOM_Ln_LATE (n : Nat) : Nat := 0x600224 + 0x40 * n
abbrev LOOM_Ln_GAP_SLOTS (n : Nat) : Nat := 0x600228 + 0x40 * n
abbrev LOOM_WRITES : Nat := 0x600300
abbrev LOOM_CHECK_RETRY : Nat := 0x600304
abbrev LOOM_CHECK_FAIL : Nat := 0x600308
abbrev LOOM_TAG_ERR : Nat := 0x60030c
abbrev LOOM_DUP_WRITE : Nat := 0x600310
abbrev LOOM_LATE_BEYOND : Nat := 0x600314
abbrev LOOM_LATE_QFULL : Nat := 0x600318
abbrev LOOM_SHED_ITEMS : Nat := 0x60031c
abbrev LOOM_AHEAD_DROP : Nat := 0x600320
abbrev LOOM_SETn_CFG (n : Nat) : Nat := 0x610000 + 0x20 * n
abbrev LOOM_SETn_WAIT_MIN (n : Nat) : Nat := 0x610004 + 0x20 * n
abbrev LOOM_SETn_WAIT_MAX (n : Nat) : Nat := 0x610008 + 0x20 * n
abbrev LOOM_SETn_GUARD (n : Nat) : Nat := 0x61000c + 0x20 * n
abbrev LOOM_SETn_LEARNED (n : Nat) : Nat := 0x610010 + 0x20 * n
abbrev LOOM_SETn_LAST_LAG (n : Nat) : Nat := 0x610014 + 0x20 * n
abbrev LOOM_SETn_PRESENCE (n : Nat) : Nat := 0x610018 + 0x20 * n
abbrev LOOM_SETn_DEADLINE (n : Nat) : Nat := 0x61001c + 0x20 * n
abbrev OSC_CTRL : Nat := 0x700004
abbrev OSC_STATUS : Nat := 0x700008
abbrev OSC_IRQ_STATUS : Nat := 0x700010
abbrev OSC_IRQ_ENABLE : Nat := 0x700014
abbrev OSC_QUEUES : Nat := 0x700100
abbrev OSC_CONF_MIN : Nat := 0x700104
abbrev OSC_PICK : Nat := 0x700108
abbrev OSC_GAP_MAX : Nat := 0x70010c
abbrev OSC_ZETA_INIT : Nat := 0x700110
abbrev OSC_QN_AMP : Nat := 0x700114
abbrev OSC_QN_SIGMA : Nat := 0x700118
abbrev OSC_QN_OMEGA : Nat := 0x70011c
abbrev OSC_CKPT_AGE : Nat := 0x700120
abbrev OSC_SNAP_STATE : Nat := 0x700200
abbrev OSC_SNAP_NOISE : Nat := 0x700204
abbrev OSC_SNAP_TAG_LO : Nat := 0x700208
abbrev OSC_SNAP_TAG_HI : Nat := 0x70020c
abbrev OSC_SNAP_Mm_FREQ (n : Nat) : Nat := 0x700210 + 0x20 * n
abbrev OSC_SNAP_Mm_ZETA (n : Nat) : Nat := 0x700214 + 0x20 * n
abbrev OSC_SNAP_Mm_AMP (n : Nat) : Nat := 0x700218 + 0x20 * n
abbrev OSC_SNAP_Mm_PHASE (n : Nat) : Nat := 0x70021c + 0x20 * n
abbrev OSC_SNAP_Mm_SD_ZETA (n : Nat) : Nat := 0x700220 + 0x20 * n
abbrev OSC_SNAP_Mm_INFO (n : Nat) : Nat := 0x700224 + 0x20 * n
abbrev OSC_SAMPLES : Nat := 0x700300
abbrev OSC_ABSENT_SAMPLES : Nat := 0x700304
abbrev OSC_CHECK_RETRY : Nat := 0x700308
abbrev OSC_CHECK_FAIL : Nat := 0x70030c
abbrev OSC_SEEDED : Nat := 0x700310
abbrev OSC_DROPPED : Nat := 0x700314
abbrev OSC_MERGED : Nat := 0x700318
abbrev OSC_STALE : Nat := 0x70031c
abbrev OSC_SHAPE_RECORDS : Nat := 0x700320
abbrev OSC_SHAPE_QFULL : Nat := 0x700324
abbrev OSC_SHAPE_SKIPPED : Nat := 0x700328
abbrev OSC_SPEC_BINn (n : Nat) : Nat := 0x700400 + 0x4 * n
abbrev ISLE_CTRL : Nat := 0x800004
abbrev ISLE_STATUS : Nat := 0x800008
abbrev ISLE_IRQ_STATUS : Nat := 0x800010
abbrev ISLE_IRQ_ENABLE : Nat := 0x800014
abbrev ISLE_GROUP_MAPn (n : Nat) : Nat := 0x800100 + 0x4 * n
abbrev ISLE_TIE_STATEn (n : Nat) : Nat := 0x800200 + 0x4 * n
abbrev ISLE_SC_TIMEOUT : Nat := 0x800300
abbrev ISLE_SC_SLIP : Nat := 0x800304
abbrev ISLE_SC_ANGLE : Nat := 0x800308
abbrev ISLE_SC_DV : Nat := 0x80030c
abbrev ISLE_SC_STATE : Nat := 0x800310
abbrev ISLE_AREA_FREQ : Nat := 0x800400
abbrev ISLE_AREA_ROCOF : Nat := 0x800404
abbrev ISLE_AREA_ANGLE : Nat := 0x800408
abbrev ISLE_AREA_R : Nat := 0x80040c
abbrev ISLE_AREA_QUALITY : Nat := 0x800410
abbrev ISLE_SLOTS : Nat := 0x800500
abbrev ISLE_CHECK_RETRY : Nat := 0x800504
abbrev ISLE_CHECK_FAIL : Nat := 0x800508
abbrev ISLE_HELD_SLOTS : Nat := 0x80050c
abbrev ISLE_CONFIRM_UNAVAIL : Nat := 0x800510
abbrev ISLE_DECLARATIONS : Nat := 0x800514
abbrev VOTE_CTRL : Nat := 0x900004
abbrev VOTE_STATUS : Nat := 0x900008
abbrev VOTE_IRQ_STATUS : Nat := 0x900010
abbrev VOTE_IRQ_ENABLE : Nat := 0x900014
abbrev VOTE_QUEUES : Nat := 0x900100
abbrev VOTE_PIN_SENSE : Nat := 0x900104
abbrev VOTE_Ln_LAG (n : Nat) : Nat := 0x900110 + 0x8 * n
abbrev VOTE_Ln_LAG_MAX (n : Nat) : Nat := 0x900114 + 0x8 * n
abbrev VOTE_SIG_A : Nat := 0x900140
abbrev VOTE_SIG_B : Nat := 0x900144
abbrev VOTE_SIG_C : Nat := 0x900148
abbrev VOTE_RAISEDn (n : Nat) : Nat := 0x900200 + 0x4 * n
abbrev VOTE_LATCHEDn (n : Nat) : Nat := 0x900280 + 0x4 * n
abbrev VOTE_EVALS : Nat := 0x900300
abbrev VOTE_RAISES : Nat := 0x900304
abbrev VOTE_CLEARS : Nat := 0x900308
abbrev VOTE_ODD : Nat := 0x90030c
abbrev VOTE_RESYNC_OK : Nat := 0x900310
abbrev VOTE_RESYNC_FAIL : Nat := 0x900314
abbrev VOTE_CHECK_RETRY : Nat := 0x900318
abbrev VOTE_CHECK_FAIL : Nat := 0x90031c
abbrev VOTE_GOOSE_SENT : Nat := 0x900320
abbrev VOTE_EVENT_QFULL : Nat := 0x900324
abbrev VOTE_PIN_MISMATCH : Nat := 0x900328
abbrev PAIR_CTRL : Nat := 0xa00004
abbrev PAIR_STATUS : Nat := 0xa00008
abbrev PAIR_IRQ_STATUS : Nat := 0xa00010
abbrev PAIR_IRQ_ENABLE : Nat := 0xa00014
abbrev PAIR_CLAIM : Nat := 0xa00100
abbrev PAIR_CLAIM_STATE : Nat := 0xa00104
abbrev PAIR_DEGRADE : Nat := 0xa00108
abbrev PAIR_INTENT_LEAD : Nat := 0xa0010c
abbrev PAIR_TAKEOVER_LO : Nat := 0xa00110
abbrev PAIR_TAKEOVER_HI : Nat := 0xa00114
abbrev PAIR_MIRROR_AGE : Nat := 0xa00118
abbrev PAIR_TAKEOVERS : Nat := 0xa00300
abbrev PAIR_RELEASES : Nat := 0xa00304
abbrev PAIR_STROBE_STALE : Nat := 0xa00308
abbrev PAIR_INTENTS_SENT : Nat := 0xa0030c
abbrev PAIR_INTENTS_RECEIVED : Nat := 0xa00310
abbrev PAIR_MIRROR_SENT : Nat := 0xa00314
abbrev PAIR_MIRROR_RECEIVED : Nat := 0xa00318
abbrev PAIR_STREAM_GAPS : Nat := 0xa0031c
abbrev PAIR_MIRROR_DOWNS : Nat := 0xa00320
abbrev PAIR_OSn_INTENT_LO (n : Nat) : Nat := 0xa01000 + 0x8 * n
abbrev PAIR_OSn_INTENT_HI (n : Nat) : Nat := 0xa01004 + 0x8 * n
abbrev SHUTTLE_CTRL : Nat := 0xb00004
abbrev SHUTTLE_STATUS : Nat := 0xb00008
abbrev SHUTTLE_IRQ_STATUS : Nat := 0xb00010
abbrev SHUTTLE_IRQ_ENABLE : Nat := 0xb00014
abbrev SHUTTLE_QUEUES : Nat := 0xb00100
abbrev SHUTTLE_CFG_PERIOD : Nat := 0xb00104
abbrev SHUTTLE_CMD_UDP : Nat := 0xb00108
abbrev SHUTTLE_FRAMES : Nat := 0xb00300
abbrev SHUTTLE_SATURATED : Nat := 0xb00304
abbrev SHUTTLE_COPY_QFULL : Nat := 0xb00308
abbrev SHUTTLE_KEY_MISSING : Nat := 0xb0030c
abbrev SHUTTLE_OSn_STATE (n : Nat) : Nat := 0xb01000 + 0x20 * n
abbrev SHUTTLE_OSn_LAST_LO (n : Nat) : Nat := 0xb01004 + 0x20 * n
abbrev SHUTTLE_OSn_LAST_HI (n : Nat) : Nat := 0xb01008 + 0x20 * n
abbrev SHUTTLE_OSn_SENT (n : Nat) : Nat := 0xb0100c + 0x20 * n
abbrev SHUTTLE_OSn_SKIPPED (n : Nat) : Nat := 0xb01010 + 0x20 * n
abbrev SHUTTLE_OSn_LATE (n : Nat) : Nat := 0xb01014 + 0x20 * n
abbrev SHUTTLE_OSn_SLIP_MAX (n : Nat) : Nat := 0xb01018 + 0x20 * n
abbrev QUEUE_CTRL : Nat := 0xc00004
abbrev QUEUE_STATUS : Nat := 0xc00008
abbrev QUEUE_IRQ_STATUS : Nat := 0xc00010
abbrev QUEUE_IRQ_ENABLE : Nat := 0xc00014
abbrev QUEUE_Qn_CFG (n : Nat) : Nat := 0xc01000 + 0x40 * n
abbrev QUEUE_Qn_CTRL (n : Nat) : Nat := 0xc01004 + 0x40 * n
abbrev QUEUE_Qn_HOST_BASE_LO (n : Nat) : Nat := 0xc01008 + 0x40 * n
abbrev QUEUE_Qn_HOST_BASE_HI (n : Nat) : Nat := 0xc0100c + 0x40 * n
abbrev QUEUE_Qn_HOST_SIZE (n : Nat) : Nat := 0xc01010 + 0x40 * n
abbrev QUEUE_Qn_WB_LO (n : Nat) : Nat := 0xc01014 + 0x40 * n
abbrev QUEUE_Qn_WB_HI (n : Nat) : Nat := 0xc01018 + 0x40 * n
abbrev QUEUE_Qn_DOORBELL (n : Nat) : Nat := 0xc0101c + 0x40 * n
abbrev QUEUE_Qn_DEVICE_PTR (n : Nat) : Nat := 0xc01020 + 0x40 * n
abbrev QUEUE_Qn_LEVEL (n : Nat) : Nat := 0xc01024 + 0x40 * n
abbrev QUEUE_Qn_WATERMARK (n : Nat) : Nat := 0xc01028 + 0x40 * n
abbrev QUEUE_Qn_WM_STATUS (n : Nat) : Nat := 0xc0102c + 0x40 * n
abbrev QUEUE_Qn_MODERATION (n : Nat) : Nat := 0xc01030 + 0x40 * n
abbrev QUEUE_Qn_PACKETS (n : Nat) : Nat := 0xc01034 + 0x40 * n
abbrev QUEUE_Qn_LOST (n : Nat) : Nat := 0xc01038 + 0x40 * n
abbrev QUEUE_Qn_DISCARDED (n : Nat) : Nat := 0xc0103c + 0x40 * n
abbrev SLV_CTRL : Nat := 0xd00004
abbrev SLV_STATUS : Nat := 0xd00008
abbrev SLV_IRQ_STATUS : Nat := 0xd00010
abbrev SLV_IRQ_ENABLE : Nat := 0xd00014
abbrev SLV_DEVICE : Nat := 0xd00100
abbrev SLV_QUEUES : Nat := 0xd00104
abbrev SLV_FWD_BACKLOG : Nat := 0xd00108
abbrev SLV_HOP_LIMIT : Nat := 0xd0010c
abbrev SLV_SKEW_TOL : Nat := 0xd00110
abbrev SLV_Ln_BUDGET (n : Nat) : Nat := 0xd00120 + 0x4 * n
abbrev SLV_LINKn_STATE (n : Nat) : Nat := 0xd00200 + 0x40 * n
abbrev SLV_LINKn_DELAY (n : Nat) : Nat := 0xd00204 + 0x40 * n
abbrev SLV_LINKn_WINDOW (n : Nat) : Nat := 0xd00208 + 0x40 * n
abbrev SLV_LINKn_TX_CELLS (n : Nat) : Nat := 0xd00210 + 0x40 * n
abbrev SLV_LINKn_RX_CELLS (n : Nat) : Nat := 0xd00214 + 0x40 * n
abbrev SLV_LINKn_CRC_ERR (n : Nat) : Nat := 0xd00218 + 0x40 * n
abbrev SLV_LINKn_NAK_SENT (n : Nat) : Nat := 0xd0021c + 0x40 * n
abbrev SLV_LINKn_RETRY (n : Nat) : Nat := 0xd00220 + 0x40 * n
abbrev SLV_LINKn_DOWNS (n : Nat) : Nat := 0xd00224 + 0x40 * n
abbrev SLV_SLOTS_FWD : Nat := 0xd00300
abbrev SLV_SLOT_SKIPPED : Nat := 0xd00304
abbrev SLV_DUP_DROP : Nat := 0xd00308
abbrev SLV_HOP_DROP : Nat := 0xd0030c
abbrev SLV_OVER_BUDGET : Nat := 0xd00310
abbrev SLV_AGE_SKEW : Nat := 0xd00314
abbrev SLV_RX_QFULL : Nat := 0xd00318
abbrev SLV_CHECK_FAIL : Nat := 0xd0031c
abbrev CAPT_CTRL : Nat := 0xe00004
abbrev CAPT_STATUS : Nat := 0xe00008
abbrev CAPT_IRQ_STATUS : Nat := 0xe00010
abbrev CAPT_IRQ_ENABLE : Nat := 0xe00014
abbrev CAPT_INPUTSn (n : Nat) : Nat := 0xe00100 + 0x4 * n
abbrev CAPT_MISSED_COUNT : Nat := 0xe00120
abbrev CAPT_RETRIG_COUNT : Nat := 0xe00124
abbrev CAPT_LAST_MISSED_LO : Nat := 0xe00128
abbrev CAPT_LAST_MISSED_HI : Nat := 0xe0012c
abbrev CAPT_TRIGGERS : Nat := 0xe00300
abbrev CAPT_RECORDS : Nat := 0xe00304
abbrev CAPT_OVERWRITTEN : Nat := 0xe00308
abbrev CAPT_OVERRUN_GAPS : Nat := 0xe0030c
abbrev CAPT_LOST_PAGES : Nat := 0xe00310
abbrev CAPT_REMOTE_RX : Nat := 0xe00314
abbrev CAPT_REMOTE_TX : Nat := 0xe00318
abbrev CAPT_Rr_STATE (n : Nat) : Nat := 0xe01000 + 0x40 * n
abbrev CAPT_Rr_BASE_LO (n : Nat) : Nat := 0xe01004 + 0x40 * n
abbrev CAPT_Rr_BASE_HI (n : Nat) : Nat := 0xe01008 + 0x40 * n
abbrev CAPT_Rr_PAGES (n : Nat) : Nat := 0xe0100c + 0x40 * n
abbrev CAPT_Rr_FREE (n : Nat) : Nat := 0xe01010 + 0x40 * n
abbrev CAPT_Rr_WORST (n : Nat) : Nat := 0xe01014 + 0x40 * n
abbrev CAPT_Rr_SEQ (n : Nat) : Nat := 0xe01018 + 0x40 * n
abbrev CAPT_Rr_OLDEST (n : Nat) : Nat := 0xe0101c + 0x40 * n
abbrev CAPT_Rr_TRIG_LO (n : Nat) : Nat := 0xe01020 + 0x40 * n
abbrev CAPT_Rr_TRIG_HI (n : Nat) : Nat := 0xe01024 + 0x40 * n
abbrev ENERGY_CTRL : Nat := 0xf00004
abbrev ENERGY_STATUS : Nat := 0xf00008
abbrev ENERGY_IRQ_STATUS : Nat := 0xf00010
abbrev ENERGY_IRQ_ENABLE : Nat := 0xf00014
abbrev ENERGY_QUEUES : Nat := 0xf00100
abbrev ENERGY_SAVE_LO : Nat := 0xf00108
abbrev ENERGY_SAVE_HI : Nat := 0xf0010c
abbrev ENERGY_FREEZE_LO : Nat := 0xf00110
abbrev ENERGY_FREEZE_HI : Nat := 0xf00114
abbrev ENERGY_PULSEn_CFG (n : Nat) : Nat := 0xf00120 + 0x8 * n
abbrev ENERGY_PULSEn_K (n : Nat) : Nat := 0xf00124 + 0x8 * n
abbrev ENERGY_PULSEn_STATE (n : Nat) : Nat := 0xf00140 + 0x4 * n
abbrev ENERGY_IVLn (n : Nat) : Nat := 0xf00200 + 0x4 * n
abbrev ENERGY_SLOTS : Nat := 0xf00300
abbrev ENERGY_ABSENT_SLOTS : Nat := 0xf00304
abbrev ENERGY_INTERVALS : Nat := 0xf00308
abbrev ENERGY_SAVES : Nat := 0xf0030c
abbrev ENERGY_SAVE_RETRY : Nat := 0xf00310
abbrev ENERGY_QFULL : Nat := 0xf00314
abbrev ENERGY_PULSES_LOST : Nat := 0xf00318
abbrev LEDGER_CTRL : Nat := 0x1800004
abbrev LEDGER_STATUS : Nat := 0x1800008
abbrev LEDGER_IRQ_STATUS : Nat := 0x1800010
abbrev LEDGER_IRQ_ENABLE : Nat := 0x1800014
abbrev LEDGER_NEXT_LO : Nat := 0x1800100
abbrev LEDGER_NEXT_HI : Nat := 0x1800104
abbrev LEDGER_WRITTEN_LO : Nat := 0x1800108
abbrev LEDGER_WRITTEN_HI : Nat := 0x180010c
abbrev LEDGER_OLDEST_LO : Nat := 0x1800110
abbrev LEDGER_OLDEST_HI : Nat := 0x1800114
abbrev LEDGER_ACKED_LO : Nat := 0x1800118
abbrev LEDGER_ACKED_HI : Nat := 0x180011c
abbrev LEDGER_EPOCH : Nat := 0x1800120
abbrev LEDGER_POWER_CYCLES : Nat := 0x1800124
abbrev LEDGER_OP_SECONDS_LO : Nat := 0x1800128
abbrev LEDGER_OP_SECONDS_HI : Nat := 0x180012c
abbrev LEDGER_COALESCE_MS : Nat := 0x1800130
abbrev LEDGER_UNACKED_TH : Nat := 0x1800134
abbrev LEDGER_CAPACITY : Nat := 0x1800138
abbrev LEDGER_QUEUES : Nat := 0x180013c
abbrev LEDGER_KEY_STAGEn (n : Nat) : Nat := 0x1800200 + 0x4 * n
abbrev LEDGER_RECn (n : Nat) : Nat := 0x1800280 + 0x4 * n
abbrev LEDGER_RECORDS : Nat := 0x1800300
abbrev LEDGER_EVENTS : Nat := 0x1800304
abbrev LEDGER_COALESCED : Nat := 0x1800308
abbrev LEDGER_LOST_EVENTS : Nat := 0x180030c
abbrev LEDGER_WRITE_RETRY : Nat := 0x1800310
abbrev LEDGER_FENCED_BLOCKS : Nat := 0x1800314
abbrev LEDGER_OVERWRITTEN : Nat := 0x1800318
abbrev LEDGER_COPY_QFULL : Nat := 0x180031c
abbrev LEDGER_AUTH_FAIL : Nat := 0x1800320
abbrev CHECK_CTRL : Nat := 0x1900004
abbrev CHECK_STATUS : Nat := 0x1900008
abbrev CHECK_IRQ_STATUS : Nat := 0x1900010
abbrev CHECK_IRQ_ENABLE : Nat := 0x1900014
abbrev CHECK_SCANS : Nat := 0x1900300
abbrev CHECK_MISMATCH_SCANS : Nat := 0x1900304
abbrev CHECK_En_CFG (n : Nat) : Nat := 0x1901000 + 0x40 * n
abbrev CHECK_En_START_LO (n : Nat) : Nat := 0x1901004 + 0x40 * n
abbrev CHECK_En_START_HI (n : Nat) : Nat := 0x1901008 + 0x40 * n
abbrev CHECK_En_LENGTH_LO (n : Nat) : Nat := 0x190100c + 0x40 * n
abbrev CHECK_En_LENGTH_HI (n : Nat) : Nat := 0x1901010 + 0x40 * n
abbrev CHECK_En_TABLE_LO (n : Nat) : Nat := 0x1901014 + 0x40 * n
abbrev CHECK_En_TABLE_HI (n : Nat) : Nat := 0x1901018 + 0x40 * n
abbrev CHECK_En_SEQ0_LO (n : Nat) : Nat := 0x190101c + 0x40 * n
abbrev CHECK_En_SEQ0_HI (n : Nat) : Nat := 0x1901020 + 0x40 * n
abbrev CHECK_En_EXPECT_LO (n : Nat) : Nat := 0x1901024 + 0x40 * n
abbrev CHECK_En_EXPECT_HI (n : Nat) : Nat := 0x1901028 + 0x40 * n
abbrev CHECK_En_STATE (n : Nat) : Nat := 0x190102c + 0x40 * n
abbrev CHECK_En_RESULT_LO (n : Nat) : Nat := 0x1901030 + 0x40 * n
abbrev CHECK_En_RESULT_HI (n : Nat) : Nat := 0x1901034 + 0x40 * n
abbrev CHECK_En_MISMATCHES (n : Nat) : Nat := 0x1901038 + 0x40 * n
abbrev CHECK_En_FIRST_BAD (n : Nat) : Nat := 0x190103c + 0x40 * n
abbrev POWER_CTRL : Nat := 0x1a00004
abbrev POWER_STATUS : Nat := 0x1a00008
abbrev POWER_IRQ_STATUS : Nat := 0x1a00010
abbrev POWER_IRQ_ENABLE : Nat := 0x1a00014
abbrev POWER_DOMAIN_STATE : Nat := 0x1a00100
abbrev POWER_DOMAIN_REQ : Nat := 0x1a00104
abbrev POWER_WOKEN : Nat := 0x1a00108
abbrev POWER_SUPPLYn (n : Nat) : Nat := 0x1a00110 + 0x4 * n
abbrev POWER_PFW_TIME_LO : Nat := 0x1a00130
abbrev POWER_PFW_TIME_HI : Nat := 0x1a00134
abbrev POWER_FLUSH_US : Nat := 0x1a00138
abbrev POWER_DROOP_TRANSIENT : Nat := 0x1a00300
abbrev POWER_DROOP_LASTING : Nat := 0x1a00304
abbrev POWER_PFW_EVENTS : Nat := 0x1a00308
abbrev POWER_PFW_GLITCHES : Nat := 0x1a0030c
abbrev POWER_WAKES_ON_DEMAND : Nat := 0x1a00310
abbrev POWER_DRAIN_TIMEOUTS : Nat := 0x1a00314
abbrev POWER_ABSENT_ACCESS : Nat := 0x1a00318
abbrev CLOCK_CTRL : Nat := 0x1b00004
abbrev CLOCK_STATUS : Nat := 0x1b00008
abbrev CLOCK_IRQ_STATUS : Nat := 0x1b00010
abbrev CLOCK_IRQ_ENABLE : Nat := 0x1b00014
abbrev CLOCK_AVS_CFG : Nat := 0x1b00100
abbrev CLOCK_AVS_MV : Nat := 0x1b00104
abbrev CLOCK_AVS_LIMITS : Nat := 0x1b00108
abbrev CLOCK_MARGIN_CFG : Nat := 0x1b0010c
abbrev CLOCK_AGE_WARN : Nat := 0x1b00110
abbrev CLOCK_TJ : Nat := 0x1b00114
abbrev CLOCK_REPLAN_LO : Nat := 0x1b00118
abbrev CLOCK_REPLAN_HI : Nat := 0x1b0011c
abbrev CLOCK_ISLn_STATE (n : Nat) : Nat := 0x1b00200 + 0x10 * n
abbrev CLOCK_ISLn_RO (n : Nat) : Nat := 0x1b00204 + 0x10 * n
abbrev CLOCK_ISLn_SENS (n : Nat) : Nat := 0x1b00208 + 0x10 * n
abbrev CLOCK_ISLn_FORECAST (n : Nat) : Nat := 0x1b0020c + 0x10 * n
abbrev CLOCK_LOSS_TRANSIENT : Nat := 0x1b00300
abbrev CLOCK_LOSS_LASTING : Nat := 0x1b00304
abbrev CLOCK_CANARY_ERRORS : Nat := 0x1b00308
abbrev CLOCK_REPLANS : Nat := 0x1b0030c
abbrev CLOCK_AVS_WRITES : Nat := 0x1b00310
abbrev CLOCK_AVS_RETRY : Nat := 0x1b00314
abbrev HOST_CTRL : Nat := 0x1c00004
abbrev HOST_STATUS : Nat := 0x1c00008
abbrev HOST_IRQ_STATUS : Nat := 0x1c00010
abbrev HOST_IRQ_ENABLE : Nat := 0x1c00014
abbrev HOST_MASTER : Nat := 0x1c00100
abbrev HOST_ERR_ADDR_LO : Nat := 0x1c00104
abbrev HOST_ERR_ADDR_HI : Nat := 0x1c00108
abbrev HOST_ERR_CAUSE : Nat := 0x1c0010c
abbrev HOST_BAD_ACCESS : Nat := 0x1c00300
abbrev HOST_UNMAPPED : Nat := 0x1c00304
abbrev HOST_NOT_MASTER : Nat := 0x1c00308
abbrev HOST_LINK_DOWNS : Nat := 0x1c0030c
abbrev HOST_WAKE_STALLS : Nat := 0x1c00310
abbrev HOST_MSIXn_ADDR_LO (n : Nat) : Nat := 0x1c10000 + 0x10 * n
abbrev HOST_MSIXn_ADDR_HI (n : Nat) : Nat := 0x1c10004 + 0x10 * n
abbrev HOST_MSIXn_DATA (n : Nat) : Nat := 0x1c10008 + 0x10 * n
abbrev HOST_MSIXn_CTRL (n : Nat) : Nat := 0x1c1000c + 0x10 * n
abbrev HOST_PBAn (n : Nat) : Nat := 0x1c11000 + 0x4 * n
abbrev MONITOR_CTRL : Nat := 0x1d00004
abbrev MONITOR_STATUS : Nat := 0x1d00008
abbrev MONITOR_IRQ_STATUS : Nat := 0x1d00010
abbrev MONITOR_IRQ_ENABLE : Nat := 0x1d00014
abbrev MONITOR_BAUD : Nat := 0x1d00100
abbrev MONITOR_LINES : Nat := 0x1d00300
abbrev MONITOR_ERRORS : Nat := 0x1d00304
abbrev MONITOR_WRITES : Nat := 0x1d00308
abbrev MONITOR_FRAMING_ERR : Nat := 0x1d0030c
abbrev FAULT_CTRL : Nat := 0x1e00004
abbrev FAULT_STATUS : Nat := 0x1e00008
abbrev FAULT_IRQ_STATUS : Nat := 0x1e00010
abbrev FAULT_IRQ_ENABLE : Nat := 0x1e00014
abbrev FAULT_LAST : Nat := 0x1e00100
abbrev FAULT_LAST_TIME_LO : Nat := 0x1e00104
abbrev FAULT_LAST_TIME_HI : Nat := 0x1e00108
abbrev FAULT_CAUSE : Nat := 0x1e0010c
abbrev FAULT_PAD_HOLD : Nat := 0x1e00120
abbrev FAULT_RESTORE_S : Nat := 0x1e00124
abbrev FAULT_SCRUB_SRAM : Nat := 0x1e00128
abbrev FAULT_SCRUB_STACKS : Nat := 0x1e0012c
abbrev FAULT_FENCED_BLOCKS : Nat := 0x1e00130
abbrev FAULT_RECOVERY_1H : Nat := 0x1e00134
abbrev FAULT_TRANSIENT : Nat := 0x1e00300
abbrev FAULT_LASTING : Nat := 0x1e00304
abbrev FAULT_SRAM_SEC : Nat := 0x1e00308
abbrev FAULT_SRAM_DED : Nat := 0x1e0030c
abbrev FAULT_STACKS_SEC : Nat := 0x1e00310
abbrev FAULT_STACKS_DED : Nat := 0x1e00314
abbrev FAULT_LOCKSTEP : Nat := 0x1e00318
abbrev FAULT_CFG_MISMATCH : Nat := 0x1e0031c
abbrev FAULT_CLOCK_LOSS : Nat := 0x1e00320
abbrev FAULT_DROOP : Nat := 0x1e00324
abbrev FAULT_ARCHIVE_RETRY : Nat := 0x1e00328
abbrev FAULT_RECOVERY_ENTRIES : Nat := 0x1e0032c
abbrev FAULT_SAFE_ENTRIES : Nat := 0x1e00330
abbrev FAULT_REPAIRS_USED : Nat := 0x1e00334

end Sys2Proof.R

namespace Sys2Proof.F

abbrev GLOBAL_STATUS_SAFE : Machine.Fld := ⟨R.GLOBAL_STATUS, 10, 10⟩
abbrev GLOBAL_STATUS_SWITCH_PENDING : Machine.Fld := ⟨R.GLOBAL_STATUS, 9, 9⟩
abbrev GLOBAL_STATUS_DRAFT_HELD : Machine.Fld := ⟨R.GLOBAL_STATUS, 8, 8⟩
abbrev GLOBAL_STATUS_MODE : Machine.Fld := ⟨R.GLOBAL_STATUS, 3, 0⟩
abbrev GLOBAL_MODE_PREVIOUS : Machine.Fld := ⟨R.GLOBAL_MODE, 7, 4⟩
abbrev GLOBAL_MODE_MODE : Machine.Fld := ⟨R.GLOBAL_MODE, 3, 0⟩
abbrev GLOBAL_MODE_REQ_REQUEST : Machine.Fld := ⟨R.GLOBAL_MODE_REQ, 3, 0⟩
abbrev GLOBAL_MODE_REQ_STATUS_DONE : Machine.Fld := ⟨R.GLOBAL_MODE_REQ_STATUS, 31, 31⟩
abbrev GLOBAL_MODE_REQ_STATUS_PATH : Machine.Fld := ⟨R.GLOBAL_MODE_REQ_STATUS, 12, 12⟩
abbrev GLOBAL_MODE_REQ_STATUS_REQUEST : Machine.Fld := ⟨R.GLOBAL_MODE_REQ_STATUS, 11, 8⟩
abbrev GLOBAL_MODE_REQ_STATUS_STATUS : Machine.Fld := ⟨R.GLOBAL_MODE_REQ_STATUS, 3, 0⟩
abbrev DRAFT_CTRL_CARD_LOCK : Machine.Fld := ⟨R.DRAFT_CTRL, 1, 1⟩
abbrev DRAFT_CTRL_REQUIRE_SIGNED : Machine.Fld := ⟨R.DRAFT_CTRL, 0, 0⟩
abbrev DRAFT_STATUS_FAIL_SECTION : Machine.Fld := ⟨R.DRAFT_STATUS, 23, 16⟩
abbrev DRAFT_STATUS_FAIL_REASON : Machine.Fld := ⟨R.DRAFT_STATUS, 15, 12⟩
abbrev DRAFT_STATUS_IMAGE : Machine.Fld := ⟨R.DRAFT_STATUS, 8, 8⟩
abbrev DRAFT_STATUS_SIGNED : Machine.Fld := ⟨R.DRAFT_STATUS, 7, 7⟩
abbrev DRAFT_STATUS_SOURCE : Machine.Fld := ⟨R.DRAFT_STATUS, 6, 4⟩
abbrev DRAFT_STATUS_LOAD_STATE : Machine.Fld := ⟨R.DRAFT_STATUS, 1, 0⟩
abbrev DRAFT_DOMAINS_USED : Machine.Fld := ⟨R.DRAFT_DOMAINS, 15, 0⟩
abbrev DRAFT_CARDS_ACTIVE_VALID : Machine.Fld := ⟨R.DRAFT_CARDS, 20, 20⟩
abbrev DRAFT_CARDS_ACTIVE : Machine.Fld := ⟨R.DRAFT_CARDS, 19, 16⟩
abbrev DRAFT_CARDS_HELD : Machine.Fld := ⟨R.DRAFT_CARDS, 15, 0⟩
abbrev DRAFT_BIND0_M4_VALID : Machine.Fld := ⟨R.DRAFT_BIND0, 4, 4⟩
abbrev DRAFT_BIND0_M4_SLOT : Machine.Fld := ⟨R.DRAFT_BIND0, 3, 0⟩
abbrev DRAFT_BIND0_M5_VALID : Machine.Fld := ⟨R.DRAFT_BIND0, 12, 12⟩
abbrev DRAFT_BIND0_M5_SLOT : Machine.Fld := ⟨R.DRAFT_BIND0, 11, 8⟩
abbrev DRAFT_BIND0_M6_VALID : Machine.Fld := ⟨R.DRAFT_BIND0, 20, 20⟩
abbrev DRAFT_BIND0_M6_SLOT : Machine.Fld := ⟨R.DRAFT_BIND0, 19, 16⟩
abbrev DRAFT_BIND0_M7_VALID : Machine.Fld := ⟨R.DRAFT_BIND0, 28, 28⟩
abbrev DRAFT_BIND0_M7_SLOT : Machine.Fld := ⟨R.DRAFT_BIND0, 27, 24⟩
abbrev DRAFT_BIND1_M8_VALID : Machine.Fld := ⟨R.DRAFT_BIND1, 4, 4⟩
abbrev DRAFT_BIND1_M8_SLOT : Machine.Fld := ⟨R.DRAFT_BIND1, 3, 0⟩
abbrev DRAFT_BIND1_M9_VALID : Machine.Fld := ⟨R.DRAFT_BIND1, 12, 12⟩
abbrev DRAFT_BIND1_M9_SLOT : Machine.Fld := ⟨R.DRAFT_BIND1, 11, 8⟩
abbrev DRAFT_BIND1_M10_VALID : Machine.Fld := ⟨R.DRAFT_BIND1, 20, 20⟩
abbrev DRAFT_BIND1_M10_SLOT : Machine.Fld := ⟨R.DRAFT_BIND1, 19, 16⟩
abbrev DRAFT_SWITCH_STATUS_PATCH_PENDING : Machine.Fld := ⟨R.DRAFT_SWITCH_STATUS, 8, 8⟩
abbrev DRAFT_SWITCH_STATUS_TARGET_MODE : Machine.Fld := ⟨R.DRAFT_SWITCH_STATUS, 7, 4⟩
abbrev DRAFT_SWITCH_STATUS_PENDING : Machine.Fld := ⟨R.DRAFT_SWITCH_STATUS, 0, 0⟩
abbrev DRAFT_KEYS_KEY_USED : Machine.Fld := ⟨R.DRAFT_KEYS, 10, 9⟩
abbrev DRAFT_KEYS_SIGN_REQUIRED : Machine.Fld := ⟨R.DRAFT_KEYS, 8, 8⟩
abbrev DRAFT_KEYS_REVOKED : Machine.Fld := ⟨R.DRAFT_KEYS, 7, 4⟩
abbrev DRAFT_KEYS_PROGRAMMED : Machine.Fld := ⟨R.DRAFT_KEYS, 3, 0⟩
abbrev DRAFT_IMAGES_B : Machine.Fld := ⟨R.DRAFT_IMAGES, 3, 2⟩
abbrev DRAFT_IMAGES_A : Machine.Fld := ⟨R.DRAFT_IMAGES, 1, 0⟩
abbrev DRAFT_MODE_COND_OVERLOAD_HOST : Machine.Fld := ⟨R.DRAFT_MODE_COND, 5, 5⟩
abbrev DRAFT_MODE_COND_STANDBY : Machine.Fld := ⟨R.DRAFT_MODE_COND, 4, 4⟩
abbrev DRAFT_MODE_COND_OVERLOAD : Machine.Fld := ⟨R.DRAFT_MODE_COND, 3, 3⟩
abbrev DRAFT_MODE_COND_TIME_LOST : Machine.Fld := ⟨R.DRAFT_MODE_COND, 2, 2⟩
abbrev DRAFT_MODE_COND_SYNCHRO_CHECK : Machine.Fld := ⟨R.DRAFT_MODE_COND, 1, 1⟩
abbrev DRAFT_MODE_COND_ISLANDS : Machine.Fld := ⟨R.DRAFT_MODE_COND, 0, 0⟩
abbrev PORT_STATUS_PRP_ACTIVE : Machine.Fld := ⟨R.PORT_STATUS, 11, 8⟩
abbrev PORT_STATUS_LINK_UP : Machine.Fld := ⟨R.PORT_STATUS, 7, 0⟩
abbrev PORT_SLOW_QUEUE_TX_QUEUE : Machine.Fld := ⟨R.PORT_SLOW_QUEUE, 12, 8⟩
abbrev PORT_SLOW_QUEUE_RX_QUEUE : Machine.Fld := ⟨R.PORT_SLOW_QUEUE, 4, 0⟩
abbrev PORT_UDP_SVCn_CLASS (n : Nat) : Machine.Fld := ⟨R.PORT_UDP_SVCn n, 17, 16⟩
abbrev PORT_UDP_SVCn_UDP_PORT (n : Nat) : Machine.Fld := ⟨R.PORT_UDP_SVCn n, 15, 0⟩
abbrev PORT_MCAST_STAGE0_VALID : Machine.Fld := ⟨R.PORT_MCAST_STAGE0, 31, 31⟩
abbrev PORT_MCAST_STAGE0_KIND : Machine.Fld := ⟨R.PORT_MCAST_STAGE0, 30, 29⟩
abbrev PORT_MCAST_STAGE0_SLOW : Machine.Fld := ⟨R.PORT_MCAST_STAGE0, 28, 28⟩
abbrev PORT_MCAST_STAGE0_PORT_MASK : Machine.Fld := ⟨R.PORT_MCAST_STAGE0, 15, 8⟩
abbrev PORT_MCAST_STAGE3_MAC_HI : Machine.Fld := ⟨R.PORT_MCAST_STAGE3, 15, 0⟩
abbrev PORT_CFG_SLOW_UNKNOWN (n : Nat) : Machine.Fld := ⟨R.PORT_CFG n, 7, 7⟩
abbrev PORT_CFG_JUMBO (n : Nat) : Machine.Fld := ⟨R.PORT_CFG n, 6, 6⟩
abbrev PORT_CFG_VLAN_MODE (n : Nat) : Machine.Fld := ⟨R.PORT_CFG n, 5, 4⟩
abbrev PORT_CFG_PRP (n : Nat) : Machine.Fld := ⟨R.PORT_CFG n, 3, 3⟩
abbrev PORT_CFG_AN_EN (n : Nat) : Machine.Fld := ⟨R.PORT_CFG n, 2, 2⟩
abbrev PORT_CFG_MODE (n : Nat) : Machine.Fld := ⟨R.PORT_CFG n, 1, 0⟩
abbrev PORT_LINK_REMOTE_FAULT (n : Nat) : Machine.Fld := ⟨R.PORT_LINK n, 5, 5⟩
abbrev PORT_LINK_LOCAL_FAULT (n : Nat) : Machine.Fld := ⟨R.PORT_LINK n, 4, 4⟩
abbrev PORT_LINK_HI_BER (n : Nat) : Machine.Fld := ⟨R.PORT_LINK n, 3, 3⟩
abbrev PORT_LINK_AN_DONE (n : Nat) : Machine.Fld := ⟨R.PORT_LINK n, 2, 2⟩
abbrev PORT_LINK_LOCK (n : Nat) : Machine.Fld := ⟨R.PORT_LINK n, 1, 1⟩
abbrev PORT_LINK_UP (n : Nat) : Machine.Fld := ⟨R.PORT_LINK n, 0, 0⟩
abbrev PORT_VLAN_VID (n : Nat) : Machine.Fld := ⟨R.PORT_VLAN n, 11, 0⟩
abbrev PORT_MAC_HI_ADDR (n : Nat) : Machine.Fld := ⟨R.PORT_MAC_HI n, 15, 0⟩
abbrev PORT_SLOW_RATE_FPS (n : Nat) : Machine.Fld := ⟨R.PORT_SLOW_RATE n, 19, 0⟩
abbrev PORT_PRP_CFG_FORGET (n : Nat) : Machine.Fld := ⟨R.PORT_PRP_CFG n, 31, 16⟩
abbrev PORT_PRP_CFG_SUPERVISION (n : Nat) : Machine.Fld := ⟨R.PORT_PRP_CFG n, 15, 0⟩
abbrev PORT_MCASTn_W0_VALID (n : Nat) : Machine.Fld := ⟨R.PORT_MCASTn_W0 n, 31, 31⟩
abbrev PORT_MCASTn_W0_KIND (n : Nat) : Machine.Fld := ⟨R.PORT_MCASTn_W0 n, 30, 29⟩
abbrev PORT_MCASTn_W0_SLOW (n : Nat) : Machine.Fld := ⟨R.PORT_MCASTn_W0 n, 28, 28⟩
abbrev PORT_MCASTn_W0_PORT_MASK (n : Nat) : Machine.Fld := ⟨R.PORT_MCASTn_W0 n, 15, 8⟩
abbrev PORT_MCASTn_W3_WORD (n : Nat) : Machine.Fld := ⟨R.PORT_MCASTn_W3 n, 15, 0⟩
abbrev TIME_CTRL_FORCE_HOLDOVER : Machine.Fld := ⟨R.TIME_CTRL, 1, 1⟩
abbrev TIME_CTRL_TEST_RUN : Machine.Fld := ⟨R.TIME_CTRL, 0, 0⟩
abbrev TIME_STATUS_EVER_LOCKED : Machine.Fld := ⟨R.TIME_STATUS, 12, 12⟩
abbrev TIME_STATUS_AUX_SOURCE : Machine.Fld := ⟨R.TIME_STATUS, 11, 8⟩
abbrev TIME_STATUS_GRID_SOURCE : Machine.Fld := ⟨R.TIME_STATUS, 7, 4⟩
abbrev TIME_STATUS_SERVO : Machine.Fld := ⟨R.TIME_STATUS, 2, 0⟩
abbrev TIME_SOURCE_PRIO_RANK : Machine.Fld := ⟨R.TIME_SOURCE_PRIO, 15, 0⟩
abbrev TIME_SOURCE_QUAL_QUALIFIED : Machine.Fld := ⟨R.TIME_SOURCE_QUAL, 11, 1⟩
abbrev TIME_PTP_CFG_MAX_CLASS : Machine.Fld := ⟨R.TIME_PTP_CFG, 31, 24⟩
abbrev TIME_PTP_CFG_PORTS : Machine.Fld := ⟨R.TIME_PTP_CFG, 23, 16⟩
abbrev TIME_PTP_CFG_SLAVE_ONLY : Machine.Fld := ⟨R.TIME_PTP_CFG, 10, 10⟩
abbrev TIME_PTP_CFG_BOUNDARY : Machine.Fld := ⟨R.TIME_PTP_CFG, 9, 9⟩
abbrev TIME_PTP_CFG_PROFILE : Machine.Fld := ⟨R.TIME_PTP_CFG, 8, 8⟩
abbrev TIME_PTP_CFG_DOMAIN : Machine.Fld := ⟨R.TIME_PTP_CFG, 7, 0⟩
abbrev TIME_GM_QUALITY_STEPS : Machine.Fld := ⟨R.TIME_GM_QUALITY, 31, 16⟩
abbrev TIME_GM_QUALITY_ACCURACY : Machine.Fld := ⟨R.TIME_GM_QUALITY, 15, 8⟩
abbrev TIME_GM_QUALITY_CLASS : Machine.Fld := ⟨R.TIME_GM_QUALITY, 7, 0⟩
abbrev TIME_PATH_CFG_OFFSET_TOL : Machine.Fld := ⟨R.TIME_PATH_CFG, 31, 16⟩
abbrev TIME_PATH_CFG_THRESH : Machine.Fld := ⟨R.TIME_PATH_CFG, 15, 0⟩
abbrev TIME_SERVO_CFG_CROSS_TOL : Machine.Fld := ⟨R.TIME_SERVO_CFG, 31, 16⟩
abbrev TIME_SERVO_CFG_SLEW_MAX : Machine.Fld := ⟨R.TIME_SERVO_CFG, 15, 0⟩
abbrev TIME_INPUT_CFG_IRIG_1344_REQ : Machine.Fld := ⟨R.TIME_INPUT_CFG, 6, 6⟩
abbrev TIME_INPUT_CFG_IRIG_EN : Machine.Fld := ⟨R.TIME_INPUT_CFG, 5, 5⟩
abbrev TIME_INPUT_CFG_TOD_BAUD : Machine.Fld := ⟨R.TIME_INPUT_CFG, 4, 2⟩
abbrev TIME_INPUT_CFG_TOD_EN : Machine.Fld := ⟨R.TIME_INPUT_CFG, 1, 1⟩
abbrev TIME_INPUT_CFG_PPS_EN : Machine.Fld := ⟨R.TIME_INPUT_CFG, 0, 0⟩
abbrev TIME_UTC_SOURCE : Machine.Fld := ⟨R.TIME_UTC, 21, 20⟩
abbrev TIME_UTC_OCCURRED : Machine.Fld := ⟨R.TIME_UTC, 19, 19⟩
abbrev TIME_UTC_DIRECTION : Machine.Fld := ⟨R.TIME_UTC, 18, 18⟩
abbrev TIME_UTC_PENDING : Machine.Fld := ⟨R.TIME_UTC, 17, 17⟩
abbrev TIME_UTC_VALID : Machine.Fld := ⟨R.TIME_UTC, 16, 16⟩
abbrev TIME_UTC_TAI_UTC : Machine.Fld := ⟨R.TIME_UTC, 15, 0⟩
abbrev TIME_QUALITY_SYNC_ERR : Machine.Fld := ⟨R.TIME_QUALITY, 10, 10⟩
abbrev TIME_QUALITY_UNLOCKED : Machine.Fld := ⟨R.TIME_QUALITY, 9, 8⟩
abbrev TIME_QUALITY_STAT_TQ : Machine.Fld := ⟨R.TIME_QUALITY, 6, 4⟩
abbrev TIME_QUALITY_TQ : Machine.Fld := ⟨R.TIME_QUALITY, 3, 0⟩
abbrev TIME_PPS_O_CFG_GATE : Machine.Fld := ⟨R.TIME_PPS_O_CFG, 30, 30⟩
abbrev TIME_PPS_O_CFG_WIDTH : Machine.Fld := ⟨R.TIME_PPS_O_CFG, 29, 0⟩
abbrev TIME_PULSEn_CTRL_ARMED (n : Nat) : Machine.Fld := ⟨R.TIME_PULSEn_CTRL n, 31, 31⟩
abbrev TIME_PULSEn_CTRL_BASE (n : Nat) : Machine.Fld := ⟨R.TIME_PULSEn_CTRL n, 30, 30⟩
abbrev HEDDLE_CTRL_UNKNOWN_TO_HOST : Machine.Fld := ⟨R.HEDDLE_CTRL, 2, 2⟩
abbrev HEDDLE_CTRL_AUTO_CFG_REQ : Machine.Fld := ⟨R.HEDDLE_CTRL, 1, 1⟩
abbrev HEDDLE_CTRL_HEADER_TO_HOST : Machine.Fld := ⟨R.HEDDLE_CTRL, 0, 0⟩
abbrev HEDDLE_STATUS_HELD : Machine.Fld := ⟨R.HEDDLE_STATUS, 31, 16⟩
abbrev HEDDLE_STATUS_RUNNING : Machine.Fld := ⟨R.HEDDLE_STATUS, 15, 0⟩
abbrev HEDDLE_QUEUES_INJECT_QUEUE : Machine.Fld := ⟨R.HEDDLE_QUEUES, 12, 8⟩
abbrev HEDDLE_QUEUES_CFG_QUEUE : Machine.Fld := ⟨R.HEDDLE_QUEUES, 4, 0⟩
abbrev HEDDLE_SILENCE_MIN_MS : Machine.Fld := ⟨R.HEDDLE_SILENCE_MIN, 15, 0⟩
abbrev REED_CTRL_DEROTATE : Machine.Fld := ⟨R.REED_CTRL, 0, 0⟩
abbrev REED_STATUS_WAVE_LIMIT : Machine.Fld := ⟨R.REED_STATUS, 1, 1⟩
abbrev REED_STATUS_BACKPRESSURE : Machine.Fld := ⟨R.REED_STATUS, 0, 0⟩
abbrev REED_PASS_TOL_NS : Machine.Fld := ⟨R.REED_PASS_TOL, 16, 0⟩
abbrev REED_DF_MAX_MHZ : Machine.Fld := ⟨R.REED_DF_MAX, 13, 0⟩
abbrev REED_DF_HOLD_MS : Machine.Fld := ⟨R.REED_DF_HOLD, 15, 0⟩
abbrev REED_EST_COUNT_GROUPS : Machine.Fld := ⟨R.REED_EST_COUNT, 27, 16⟩
abbrev REED_EST_COUNT_WIDS : Machine.Fld := ⟨R.REED_EST_COUNT, 12, 0⟩
abbrev REED_DET_COUNT_VALUE : Machine.Fld := ⟨R.REED_DET_COUNT, 15, 0⟩
abbrev REED_BANKS_VALUE : Machine.Fld := ⟨R.REED_BANKS, 15, 0⟩
abbrev LOOM_CTRL_LATE_COPY : Machine.Fld := ⟨R.LOOM_CTRL, 1, 1⟩
abbrev LOOM_CTRL_HIST_FREEZE : Machine.Fld := ⟨R.LOOM_CTRL, 0, 0⟩
abbrev LOOM_STATUS_CAUSE : Machine.Fld := ⟨R.LOOM_STATUS, 10, 8⟩
abbrev LOOM_STATUS_OVERLOAD : Machine.Fld := ⟨R.LOOM_STATUS, 4, 4⟩
abbrev LOOM_STATUS_RUNNING : Machine.Fld := ⟨R.LOOM_STATUS, 3, 0⟩
abbrev LOOM_QUEUES_LATE_QUEUE : Machine.Fld := ⟨R.LOOM_QUEUES, 4, 0⟩
abbrev LOOM_HIST_CFG_MIN_SAMPLES : Machine.Fld := ⟨R.LOOM_HIST_CFG, 31, 16⟩
abbrev LOOM_HIST_CFG_CEIL : Machine.Fld := ⟨R.LOOM_HIST_CFG, 3, 0⟩
abbrev LOOM_QUANTn_Q (n : Nat) : Machine.Fld := ⟨R.LOOM_QUANTn n, 15, 0⟩
abbrev LOOM_OVERLOAD_CFG_BACKLOG : Machine.Fld := ⟨R.LOOM_OVERLOAD_CFG, 31, 24⟩
abbrev LOOM_OVERLOAD_CFG_EXIT_S : Machine.Fld := ⟨R.LOOM_OVERLOAD_CFG, 23, 16⟩
abbrev LOOM_OVERLOAD_CFG_BP_MS : Machine.Fld := ⟨R.LOOM_OVERLOAD_CFG, 15, 0⟩
abbrev LOOM_READ_QUALITY_STATE : Machine.Fld := ⟨R.LOOM_READ_QUALITY, 18, 16⟩
abbrev LOOM_READ_QUALITY_QUALITY : Machine.Fld := ⟨R.LOOM_READ_QUALITY, 15, 0⟩
abbrev LOOM_Ln_CFG_RATE (n : Nat) : Machine.Fld := ⟨R.LOOM_Ln_CFG n, 31, 22⟩
abbrev LOOM_Ln_CFG_OPEN (n : Nat) : Machine.Fld := ⟨R.LOOM_Ln_CFG n, 21, 13⟩
abbrev LOOM_Ln_CFG_DEPTH (n : Nat) : Machine.Fld := ⟨R.LOOM_Ln_CFG n, 12, 0⟩
abbrev LOOM_Ln_CAPACITY_THREADS (n : Nat) : Machine.Fld := ⟨R.LOOM_Ln_CAPACITY n, 17, 0⟩
abbrev LOOM_Ln_OPEN_BACKLOG (n : Nat) : Machine.Fld := ⟨R.LOOM_Ln_OPEN n, 23, 16⟩
abbrev LOOM_Ln_OPEN_OPEN_NOW (n : Nat) : Machine.Fld := ⟨R.LOOM_Ln_OPEN n, 8, 0⟩
abbrev LOOM_SETn_CFG_GATE (n : Nat) : Machine.Fld := ⟨R.LOOM_SETn_CFG n, 31, 31⟩
abbrev LOOM_SETn_CFG_SHED (n : Nat) : Machine.Fld := ⟨R.LOOM_SETn_CFG n, 30, 30⟩
abbrev LOOM_SETn_CFG_PRIORITY (n : Nat) : Machine.Fld := ⟨R.LOOM_SETn_CFG n, 29, 29⟩
abbrev LOOM_SETn_CFG_REQ_ALL (n : Nat) : Machine.Fld := ⟨R.LOOM_SETn_CFG n, 28, 28⟩
abbrev LOOM_SETn_CFG_LATTICE (n : Nat) : Machine.Fld := ⟨R.LOOM_SETn_CFG n, 27, 26⟩
abbrev LOOM_SETn_CFG_POLICY (n : Nat) : Machine.Fld := ⟨R.LOOM_SETn_CFG n, 25, 24⟩
abbrev LOOM_SETn_CFG_QSEL (n : Nat) : Machine.Fld := ⟨R.LOOM_SETn_CFG n, 23, 22⟩
abbrev LOOM_SETn_CFG_FILL (n : Nat) : Machine.Fld := ⟨R.LOOM_SETn_CFG n, 21, 21⟩
abbrev LOOM_SETn_CFG_FILL_MAX (n : Nat) : Machine.Fld := ⟨R.LOOM_SETn_CFG n, 7, 0⟩
abbrev OSC_CTRL_SEED_PARTNER : Machine.Fld := ⟨R.OSC_CTRL, 1, 1⟩
abbrev OSC_CTRL_SEED_ARCHIVE : Machine.Fld := ⟨R.OSC_CTRL, 0, 0⟩
abbrev OSC_STATUS_CONFIGURED : Machine.Fld := ⟨R.OSC_STATUS, 28, 16⟩
abbrev OSC_STATUS_TRACKING : Machine.Fld := ⟨R.OSC_STATUS, 12, 0⟩
abbrev OSC_QUEUES_SHAPE_QUEUE : Machine.Fld := ⟨R.OSC_QUEUES, 4, 0⟩
abbrev OSC_CONF_MIN_CONF : Machine.Fld := ⟨R.OSC_CONF_MIN, 7, 0⟩
abbrev OSC_PICK_DROP_HOPS : Machine.Fld := ⟨R.OSC_PICK, 31, 24⟩
abbrev OSC_PICK_RATIO : Machine.Fld := ⟨R.OSC_PICK, 15, 0⟩
abbrev OSC_GAP_MAX_MS : Machine.Fld := ⟨R.OSC_GAP_MAX, 15, 0⟩
abbrev OSC_CKPT_AGE_PARTNER_S : Machine.Fld := ⟨R.OSC_CKPT_AGE, 31, 16⟩
abbrev OSC_CKPT_AGE_ARCHIVE_S : Machine.Fld := ⟨R.OSC_CKPT_AGE, 15, 0⟩
abbrev OSC_SNAP_STATE_SAMPLES : Machine.Fld := ⟨R.OSC_SNAP_STATE, 31, 16⟩
abbrev OSC_SNAP_STATE_VALID_FRACTION : Machine.Fld := ⟨R.OSC_SNAP_STATE, 15, 8⟩
abbrev OSC_SNAP_STATE_LIVE : Machine.Fld := ⟨R.OSC_SNAP_STATE, 7, 4⟩
abbrev OSC_SNAP_STATE_STATE : Machine.Fld := ⟨R.OSC_SNAP_STATE, 2, 0⟩
abbrev OSC_SNAP_Mm_INFO_QUALITY (n : Nat) : Machine.Fld := ⟨R.OSC_SNAP_Mm_INFO n, 31, 16⟩
abbrev OSC_SNAP_Mm_INFO_GENERATION (n : Nat) : Machine.Fld := ⟨R.OSC_SNAP_Mm_INFO n, 15, 8⟩
abbrev OSC_SNAP_Mm_INFO_CONF (n : Nat) : Machine.Fld := ⟨R.OSC_SNAP_Mm_INFO n, 7, 0⟩
abbrev ISLE_CTRL_AUTO_RESYNC : Machine.Fld := ⟨R.ISLE_CTRL, 0, 0⟩
abbrev ISLE_STATUS_SC_POINT : Machine.Fld := ⟨R.ISLE_STATUS, 23, 20⟩
abbrev ISLE_STATUS_SC_PERMIT : Machine.Fld := ⟨R.ISLE_STATUS, 19, 19⟩
abbrev ISLE_STATUS_SC_ACTIVE : Machine.Fld := ⟨R.ISLE_STATUS, 18, 18⟩
abbrev ISLE_STATUS_FORCED : Machine.Fld := ⟨R.ISLE_STATUS, 17, 17⟩
abbrev ISLE_STATUS_ISLANDS : Machine.Fld := ⟨R.ISLE_STATUS, 16, 16⟩
abbrev ISLE_STATUS_HOME_GROUP : Machine.Fld := ⟨R.ISLE_STATUS, 13, 8⟩
abbrev ISLE_STATUS_GROUPS : Machine.Fld := ⟨R.ISLE_STATUS, 6, 0⟩
abbrev ISLE_GROUP_MAPn_ENABLED (n : Nat) : Machine.Fld := ⟨R.ISLE_GROUP_MAPn n, 7, 7⟩
abbrev ISLE_GROUP_MAPn_FREQ_VALID (n : Nat) : Machine.Fld := ⟨R.ISLE_GROUP_MAPn n, 6, 6⟩
abbrev ISLE_GROUP_MAPn_GROUP (n : Nat) : Machine.Fld := ⟨R.ISLE_GROUP_MAPn n, 5, 0⟩
abbrev ISLE_TIE_STATEn_FORCED (n : Nat) : Machine.Fld := ⟨R.ISLE_TIE_STATEn n, 3, 3⟩
abbrev ISLE_TIE_STATEn_HELD (n : Nat) : Machine.Fld := ⟨R.ISLE_TIE_STATEn n, 2, 2⟩
abbrev ISLE_TIE_STATEn_TOPO (n : Nat) : Machine.Fld := ⟨R.ISLE_TIE_STATEn n, 1, 1⟩
abbrev ISLE_TIE_STATEn_SPLIT (n : Nat) : Machine.Fld := ⟨R.ISLE_TIE_STATEn n, 0, 0⟩
abbrev ISLE_SC_TIMEOUT_S : Machine.Fld := ⟨R.ISLE_SC_TIMEOUT, 15, 0⟩
abbrev ISLE_SC_STATE_LAST_END : Machine.Fld := ⟨R.ISLE_SC_STATE, 19, 16⟩
abbrev ISLE_SC_STATE_H : Machine.Fld := ⟨R.ISLE_SC_STATE, 15, 8⟩
abbrev ISLE_AREA_QUALITY_ANGLE_Q : Machine.Fld := ⟨R.ISLE_AREA_QUALITY, 31, 16⟩
abbrev ISLE_AREA_QUALITY_FREQ_Q : Machine.Fld := ⟨R.ISLE_AREA_QUALITY, 15, 0⟩
abbrev VOTE_CTRL_TIME_UNHEALTHY : Machine.Fld := ⟨R.VOTE_CTRL, 1, 1⟩
abbrev VOTE_CTRL_FENCE_HEALTHY : Machine.Fld := ⟨R.VOTE_CTRL, 0, 0⟩
abbrev VOTE_STATUS_HEALTHY : Machine.Fld := ⟨R.VOTE_STATUS, 16, 16⟩
abbrev VOTE_STATUS_ALARM : Machine.Fld := ⟨R.VOTE_STATUS, 15, 8⟩
abbrev VOTE_STATUS_HOLDING : Machine.Fld := ⟨R.VOTE_STATUS, 6, 6⟩
abbrev VOTE_STATUS_LANE_C : Machine.Fld := ⟨R.VOTE_STATUS, 5, 4⟩
abbrev VOTE_STATUS_LANE_B : Machine.Fld := ⟨R.VOTE_STATUS, 3, 2⟩
abbrev VOTE_STATUS_LANE_A : Machine.Fld := ⟨R.VOTE_STATUS, 1, 0⟩
abbrev VOTE_QUEUES_TEST_QUEUE : Machine.Fld := ⟨R.VOTE_QUEUES, 12, 8⟩
abbrev VOTE_QUEUES_EVENT_QUEUE : Machine.Fld := ⟨R.VOTE_QUEUES, 4, 0⟩
abbrev VOTE_PIN_SENSE_HEALTH : Machine.Fld := ⟨R.VOTE_PIN_SENSE, 8, 8⟩
abbrev VOTE_PIN_SENSE_ALARM : Machine.Fld := ⟨R.VOTE_PIN_SENSE, 7, 0⟩
abbrev PAIR_STATUS_PARTNER_KIND : Machine.Fld := ⟨R.PAIR_STATUS, 13, 12⟩
abbrev PAIR_STATUS_DRAFT_MISMATCH : Machine.Fld := ⟨R.PAIR_STATUS, 11, 11⟩
abbrev PAIR_STATUS_MODID_CLASH : Machine.Fld := ⟨R.PAIR_STATUS, 10, 10⟩
abbrev PAIR_STATUS_HOLD_ALONE : Machine.Fld := ⟨R.PAIR_STATUS, 9, 9⟩
abbrev PAIR_STATUS_YIELD : Machine.Fld := ⟨R.PAIR_STATUS, 8, 8⟩
abbrev PAIR_STATUS_MIRROR_UP : Machine.Fld := ⟨R.PAIR_STATUS, 7, 7⟩
abbrev PAIR_STATUS_PARTNER_HOLDS : Machine.Fld := ⟨R.PAIR_STATUS, 6, 6⟩
abbrev PAIR_STATUS_PARTNER_LIVE : Machine.Fld := ⟨R.PAIR_STATUS, 5, 5⟩
abbrev PAIR_STATUS_HOLDING : Machine.Fld := ⟨R.PAIR_STATUS, 4, 4⟩
abbrev PAIR_STATUS_MODID : Machine.Fld := ⟨R.PAIR_STATUS, 3, 3⟩
abbrev PAIR_STATUS_CLAIM_MODE : Machine.Fld := ⟨R.PAIR_STATUS, 2, 2⟩
abbrev PAIR_STATUS_PAIR_MODE : Machine.Fld := ⟨R.PAIR_STATUS, 1, 0⟩
abbrev PAIR_CLAIM_BASE : Machine.Fld := ⟨R.PAIR_CLAIM, 3, 0⟩
abbrev PAIR_CLAIM_STATE_PENDING : Machine.Fld := ⟨R.PAIR_CLAIM_STATE, 11, 8⟩
abbrev PAIR_CLAIM_STATE_PARTNER : Machine.Fld := ⟨R.PAIR_CLAIM_STATE, 7, 4⟩
abbrev PAIR_CLAIM_STATE_OWN : Machine.Fld := ⟨R.PAIR_CLAIM_STATE, 3, 0⟩
abbrev PAIR_DEGRADE_RAISE_HOLD : Machine.Fld := ⟨R.PAIR_DEGRADE, 31, 16⟩
abbrev PAIR_DEGRADE_DEG_TIME : Machine.Fld := ⟨R.PAIR_DEGRADE, 7, 4⟩
abbrev PAIR_DEGRADE_DEG_LANE : Machine.Fld := ⟨R.PAIR_DEGRADE, 3, 0⟩
abbrev PAIR_INTENT_LEAD_US : Machine.Fld := ⟨R.PAIR_INTENT_LEAD, 9, 0⟩
abbrev PAIR_MIRROR_AGE_CKPT_MS : Machine.Fld := ⟨R.PAIR_MIRROR_AGE, 31, 16⟩
abbrev PAIR_MIRROR_AGE_ENERGY_MS : Machine.Fld := ⟨R.PAIR_MIRROR_AGE, 15, 0⟩
abbrev SHUTTLE_CTRL_HOLD_ALL : Machine.Fld := ⟨R.SHUTTLE_CTRL, 0, 0⟩
abbrev SHUTTLE_STATUS_PUBLISHING : Machine.Fld := ⟨R.SHUTTLE_STATUS, 6, 0⟩
abbrev SHUTTLE_QUEUES_COPY_QUEUE : Machine.Fld := ⟨R.SHUTTLE_QUEUES, 20, 16⟩
abbrev SHUTTLE_QUEUES_CFG_QUEUE : Machine.Fld := ⟨R.SHUTTLE_QUEUES, 12, 8⟩
abbrev SHUTTLE_QUEUES_CMD_QUEUE : Machine.Fld := ⟨R.SHUTTLE_QUEUES, 4, 0⟩
abbrev SHUTTLE_CFG_PERIOD_S : Machine.Fld := ⟨R.SHUTTLE_CFG_PERIOD, 15, 0⟩
abbrev SHUTTLE_CMD_UDP_UDP : Machine.Fld := ⟨R.SHUTTLE_CMD_UDP, 15, 0⟩
abbrev SHUTTLE_OSn_STATE_CFGCNT (n : Nat) : Machine.Fld := ⟨R.SHUTTLE_OSn_STATE n, 31, 16⟩
abbrev SHUTTLE_OSn_STATE_CFG_CHANGE (n : Nat) : Machine.Fld := ⟨R.SHUTTLE_OSn_STATE n, 2, 2⟩
abbrev SHUTTLE_OSn_STATE_PUBLISHING (n : Nat) : Machine.Fld := ⟨R.SHUTTLE_OSn_STATE n, 1, 1⟩
abbrev SHUTTLE_OSn_STATE_ENABLED (n : Nat) : Machine.Fld := ⟨R.SHUTTLE_OSn_STATE n, 0, 0⟩
abbrev QUEUE_Qn_CFG_SIZE (n : Nat) : Machine.Fld := ⟨R.QUEUE_Qn_CFG n, 31, 3⟩
abbrev QUEUE_Qn_CFG_CLASS (n : Nat) : Machine.Fld := ⟨R.QUEUE_Qn_CFG n, 2, 2⟩
abbrev QUEUE_Qn_CFG_DIR (n : Nat) : Machine.Fld := ⟨R.QUEUE_Qn_CFG n, 1, 1⟩
abbrev QUEUE_Qn_CFG_ENABLE (n : Nat) : Machine.Fld := ⟨R.QUEUE_Qn_CFG n, 0, 0⟩
abbrev QUEUE_Qn_CTRL_STATE (n : Nat) : Machine.Fld := ⟨R.QUEUE_Qn_CTRL n, 2, 1⟩
abbrev QUEUE_Qn_CTRL_FLUSH (n : Nat) : Machine.Fld := ⟨R.QUEUE_Qn_CTRL n, 0, 0⟩
abbrev QUEUE_Qn_WATERMARK_HIGH (n : Nat) : Machine.Fld := ⟨R.QUEUE_Qn_WATERMARK n, 15, 8⟩
abbrev QUEUE_Qn_WATERMARK_LOW (n : Nat) : Machine.Fld := ⟨R.QUEUE_Qn_WATERMARK n, 7, 0⟩
abbrev QUEUE_Qn_WM_STATUS_HIGH_CROSSINGS (n : Nat) : Machine.Fld := ⟨R.QUEUE_Qn_WM_STATUS n, 31, 24⟩
abbrev QUEUE_Qn_WM_STATUS_LOW_CROSSINGS (n : Nat) : Machine.Fld := ⟨R.QUEUE_Qn_WM_STATUS n, 23, 16⟩
abbrev QUEUE_Qn_WM_STATUS_LIVE_HIGH (n : Nat) : Machine.Fld := ⟨R.QUEUE_Qn_WM_STATUS n, 3, 3⟩
abbrev QUEUE_Qn_WM_STATUS_LIVE_LOW (n : Nat) : Machine.Fld := ⟨R.QUEUE_Qn_WM_STATUS n, 2, 2⟩
abbrev QUEUE_Qn_WM_STATUS_HIGH_STICKY (n : Nat) : Machine.Fld := ⟨R.QUEUE_Qn_WM_STATUS n, 1, 1⟩
abbrev QUEUE_Qn_WM_STATUS_LOW_STICKY (n : Nat) : Machine.Fld := ⟨R.QUEUE_Qn_WM_STATUS n, 0, 0⟩
abbrev QUEUE_Qn_MODERATION_PACKETS (n : Nat) : Machine.Fld := ⟨R.QUEUE_Qn_MODERATION n, 31, 16⟩
abbrev QUEUE_Qn_MODERATION_US (n : Nat) : Machine.Fld := ⟨R.QUEUE_Qn_MODERATION n, 15, 0⟩
abbrev SLV_CTRL_OVER_DELIVER : Machine.Fld := ⟨R.SLV_CTRL, 1, 1⟩
abbrev SLV_CTRL_AUTO_RESTART : Machine.Fld := ⟨R.SLV_CTRL, 0, 0⟩
abbrev SLV_STATUS_STATE : Machine.Fld := ⟨R.SLV_STATUS, 15, 0⟩
abbrev SLV_DEVICE_ROOT : Machine.Fld := ⟨R.SLV_DEVICE, 16, 16⟩
abbrev SLV_DEVICE_DEVICE_ID : Machine.Fld := ⟨R.SLV_DEVICE, 15, 0⟩
abbrev SLV_QUEUES_RX_QUEUE : Machine.Fld := ⟨R.SLV_QUEUES, 4, 0⟩
abbrev SLV_LINKn_STATE_PEER_ID (n : Nat) : Machine.Fld := ⟨R.SLV_LINKn_STATE n, 31, 16⟩
abbrev SLV_LINKn_STATE_PEER_ROLE (n : Nat) : Machine.Fld := ⟨R.SLV_LINKn_STATE n, 11, 8⟩
abbrev SLV_LINKn_STATE_ROLE (n : Nat) : Machine.Fld := ⟨R.SLV_LINKn_STATE n, 7, 4⟩
abbrev SLV_LINKn_STATE_CAUSE (n : Nat) : Machine.Fld := ⟨R.SLV_LINKn_STATE n, 3, 0⟩
abbrev SLV_LINKn_DELAY_MAX (n : Nat) : Machine.Fld := ⟨R.SLV_LINKn_DELAY n, 31, 16⟩
abbrev SLV_LINKn_DELAY_NOW (n : Nat) : Machine.Fld := ⟨R.SLV_LINKn_DELAY n, 15, 0⟩
abbrev SLV_LINKn_WINDOW_UNACKED (n : Nat) : Machine.Fld := ⟨R.SLV_LINKn_WINDOW n, 22, 16⟩
abbrev SLV_LINKn_WINDOW_CREDIT (n : Nat) : Machine.Fld := ⟨R.SLV_LINKn_WINDOW n, 7, 0⟩
abbrev CAPT_CTRL_REMOTE_EN : Machine.Fld := ⟨R.CAPT_CTRL, 0, 0⟩
abbrev CAPT_STATUS_BUSY : Machine.Fld := ⟨R.CAPT_STATUS, 31, 16⟩
abbrev CAPT_STATUS_ARMED : Machine.Fld := ⟨R.CAPT_STATUS, 15, 0⟩
abbrev CAPT_Rr_STATE_RECORDS (n : Nat) : Machine.Fld := ⟨R.CAPT_Rr_STATE n, 31, 16⟩
abbrev CAPT_Rr_STATE_LOCKED (n : Nat) : Machine.Fld := ⟨R.CAPT_Rr_STATE n, 6, 4⟩
abbrev CAPT_Rr_STATE_STATE (n : Nat) : Machine.Fld := ⟨R.CAPT_Rr_STATE n, 2, 0⟩
abbrev ENERGY_STATUS_ENABLED : Machine.Fld := ⟨R.ENERGY_STATUS, 15, 4⟩
abbrev ENERGY_STATUS_SAVE_VALID : Machine.Fld := ⟨R.ENERGY_STATUS, 1, 1⟩
abbrev ENERGY_STATUS_FROZEN : Machine.Fld := ⟨R.ENERGY_STATUS, 0, 0⟩
abbrev ENERGY_QUEUES_INTERVAL_QUEUE : Machine.Fld := ⟨R.ENERGY_QUEUES, 4, 0⟩
abbrev ENERGY_PULSEn_CFG_REGISTER (n : Nat) : Machine.Fld := ⟨R.ENERGY_PULSEn_CFG n, 31, 28⟩
abbrev ENERGY_PULSEn_CFG_ENABLE (n : Nat) : Machine.Fld := ⟨R.ENERGY_PULSEn_CFG n, 27, 27⟩
abbrev ENERGY_PULSEn_CFG_FP (n : Nat) : Machine.Fld := ⟨R.ENERGY_PULSEn_CFG n, 26, 16⟩
abbrev ENERGY_PULSEn_CFG_WIDTH (n : Nat) : Machine.Fld := ⟨R.ENERGY_PULSEn_CFG n, 15, 0⟩
abbrev ENERGY_PULSEn_STATE_BACKLOG (n : Nat) : Machine.Fld := ⟨R.ENERGY_PULSEn_STATE n, 31, 16⟩
abbrev ENERGY_PULSEn_STATE_SENT (n : Nat) : Machine.Fld := ⟨R.ENERGY_PULSEn_STATE n, 15, 0⟩
abbrev LEDGER_CTRL_COPY_EN : Machine.Fld := ⟨R.LEDGER_CTRL, 0, 0⟩
abbrev LEDGER_STATUS_NONCE_VALID : Machine.Fld := ⟨R.LEDGER_STATUS, 20, 20⟩
abbrev LEDGER_STATUS_AUTH_LOCKED : Machine.Fld := ⟨R.LEDGER_STATUS, 19, 19⟩
abbrev LEDGER_STATUS_KEY_SET : Machine.Fld := ⟨R.LEDGER_STATUS, 18, 18⟩
abbrev LEDGER_STATUS_CLEARING : Machine.Fld := ⟨R.LEDGER_STATUS, 17, 17⟩
abbrev LEDGER_STATUS_LOST_OPEN : Machine.Fld := ⟨R.LEDGER_STATUS, 16, 16⟩
abbrev LEDGER_STATUS_STAGED : Machine.Fld := ⟨R.LEDGER_STATUS, 12, 0⟩
abbrev LEDGER_QUEUES_COPY_QUEUE : Machine.Fld := ⟨R.LEDGER_QUEUES, 4, 0⟩
abbrev CHECK_En_CFG_ALGO (n : Nat) : Machine.Fld := ⟨R.CHECK_En_CFG n, 25, 24⟩
abbrev CHECK_En_CFG_BLOCK_LOG2 (n : Nat) : Machine.Fld := ⟨R.CHECK_En_CFG n, 20, 16⟩
abbrev CHECK_En_CFG_FOLD (n : Nat) : Machine.Fld := ⟨R.CHECK_En_CFG n, 5, 4⟩
abbrev CHECK_En_CFG_MODE (n : Nat) : Machine.Fld := ⟨R.CHECK_En_CFG n, 3, 2⟩
abbrev CHECK_En_CFG_SPACE (n : Nat) : Machine.Fld := ⟨R.CHECK_En_CFG n, 1, 0⟩
abbrev CHECK_En_STATE_STATE (n : Nat) : Machine.Fld := ⟨R.CHECK_En_STATE n, 2, 0⟩
abbrev POWER_CTRL_ARCHIVE_RETAIN : Machine.Fld := ⟨R.POWER_CTRL, 0, 0⟩
abbrev POWER_STATUS_WRITE_PROTECT : Machine.Fld := ⟨R.POWER_STATUS, 11, 11⟩
abbrev POWER_STATUS_FLUSH_DONE : Machine.Fld := ⟨R.POWER_STATUS, 10, 10⟩
abbrev POWER_STATUS_FLUSHING : Machine.Fld := ⟨R.POWER_STATUS, 9, 9⟩
abbrev POWER_STATUS_PFW_LOW : Machine.Fld := ⟨R.POWER_STATUS, 8, 8⟩
abbrev POWER_STATUS_SUPPLY_OK : Machine.Fld := ⟨R.POWER_STATUS, 6, 0⟩
abbrev POWER_WOKEN_DOMAIN : Machine.Fld := ⟨R.POWER_WOKEN, 15, 0⟩
abbrev POWER_SUPPLYn_THRESHOLD (n : Nat) : Machine.Fld := ⟨R.POWER_SUPPLYn n, 31, 16⟩
abbrev POWER_SUPPLYn_MEASURED (n : Nat) : Machine.Fld := ⟨R.POWER_SUPPLYn n, 15, 0⟩
abbrev CLOCK_CTRL_LOWER_EN : Machine.Fld := ⟨R.CLOCK_CTRL, 2, 2⟩
abbrev CLOCK_CTRL_DERATE_EN : Machine.Fld := ⟨R.CLOCK_CTRL, 1, 1⟩
abbrev CLOCK_CTRL_AVS_EN : Machine.Fld := ⟨R.CLOCK_CTRL, 0, 0⟩
abbrev CLOCK_STATUS_REPLAN_RUNNING : Machine.Fld := ⟨R.CLOCK_STATUS, 17, 17⟩
abbrev CLOCK_STATUS_AVS_FAIL : Machine.Fld := ⟨R.CLOCK_STATUS, 16, 16⟩
abbrev CLOCK_STATUS_LOCKED : Machine.Fld := ⟨R.CLOCK_STATUS, 15, 0⟩
abbrev CLOCK_AVS_CFG_PEC : Machine.Fld := ⟨R.CLOCK_AVS_CFG, 16, 16⟩
abbrev CLOCK_AVS_CFG_EXP : Machine.Fld := ⟨R.CLOCK_AVS_CFG, 12, 8⟩
abbrev CLOCK_AVS_CFG_ADDR : Machine.Fld := ⟨R.CLOCK_AVS_CFG, 6, 0⟩
abbrev CLOCK_AVS_MV_REQUEST : Machine.Fld := ⟨R.CLOCK_AVS_MV, 31, 16⟩
abbrev CLOCK_AVS_MV_MEASURED : Machine.Fld := ⟨R.CLOCK_AVS_MV, 15, 0⟩
abbrev CLOCK_AVS_LIMITS_CEIL : Machine.Fld := ⟨R.CLOCK_AVS_LIMITS, 31, 16⟩
abbrev CLOCK_AVS_LIMITS_FLOOR : Machine.Fld := ⟨R.CLOCK_AVS_LIMITS, 15, 0⟩
abbrev CLOCK_MARGIN_CFG_MIN : Machine.Fld := ⟨R.CLOCK_MARGIN_CFG, 23, 16⟩
abbrev CLOCK_MARGIN_CFG_HIGH : Machine.Fld := ⟨R.CLOCK_MARGIN_CFG, 15, 8⟩
abbrev CLOCK_MARGIN_CFG_LOW : Machine.Fld := ⟨R.CLOCK_MARGIN_CFG, 7, 0⟩
abbrev CLOCK_AGE_WARN_DAYS : Machine.Fld := ⟨R.CLOCK_AGE_WARN, 15, 0⟩
abbrev CLOCK_TJ_TJ : Machine.Fld := ⟨R.CLOCK_TJ, 15, 0⟩
abbrev CLOCK_ISLn_STATE_LOCKED (n : Nat) : Machine.Fld := ⟨R.CLOCK_ISLn_STATE n, 31, 31⟩
abbrev CLOCK_ISLn_STATE_FENCED (n : Nat) : Machine.Fld := ⟨R.CLOCK_ISLn_STATE n, 30, 30⟩
abbrev CLOCK_ISLn_STATE_DERATEABLE (n : Nat) : Machine.Fld := ⟨R.CLOCK_ISLn_STATE n, 29, 29⟩
abbrev CLOCK_ISLn_STATE_STEP (n : Nat) : Machine.Fld := ⟨R.CLOCK_ISLn_STATE n, 28, 26⟩
abbrev CLOCK_ISLn_STATE_MARGIN (n : Nat) : Machine.Fld := ⟨R.CLOCK_ISLn_STATE n, 15, 0⟩
abbrev HOST_CTRL_INT_PIN_EN : Machine.Fld := ⟨R.HOST_CTRL, 0, 0⟩
abbrev HOST_STATUS_D_STATE : Machine.Fld := ⟨R.HOST_STATUS, 9, 8⟩
abbrev HOST_STATUS_BUS_MASTER : Machine.Fld := ⟨R.HOST_STATUS, 7, 7⟩
abbrev HOST_STATUS_WIDTH : Machine.Fld := ⟨R.HOST_STATUS, 6, 4⟩
abbrev HOST_STATUS_SPEED : Machine.Fld := ⟨R.HOST_STATUS, 3, 1⟩
abbrev HOST_STATUS_LINK_UP : Machine.Fld := ⟨R.HOST_STATUS, 0, 0⟩
abbrev HOST_MASTER_RECLAIM : Machine.Fld := ⟨R.HOST_MASTER, 2, 2⟩
abbrev HOST_MASTER_MON_ALLOW : Machine.Fld := ⟨R.HOST_MASTER, 1, 1⟩
abbrev HOST_MASTER_OWNER : Machine.Fld := ⟨R.HOST_MASTER, 0, 0⟩
abbrev HOST_ERR_CAUSE_PATH : Machine.Fld := ⟨R.HOST_ERR_CAUSE, 9, 8⟩
abbrev HOST_ERR_CAUSE_BAR : Machine.Fld := ⟨R.HOST_ERR_CAUSE, 7, 4⟩
abbrev HOST_ERR_CAUSE_CAUSE : Machine.Fld := ⟨R.HOST_ERR_CAUSE, 3, 0⟩
abbrev HOST_MSIXn_CTRL_MASK (n : Nat) : Machine.Fld := ⟨R.HOST_MSIXn_CTRL n, 0, 0⟩
abbrev MONITOR_CTRL_READ_ONLY : Machine.Fld := ⟨R.MONITOR_CTRL, 0, 0⟩
abbrev MONITOR_STATUS_LOADING : Machine.Fld := ⟨R.MONITOR_STATUS, 2, 2⟩
abbrev MONITOR_STATUS_RATE_TRIAL : Machine.Fld := ⟨R.MONITOR_STATUS, 1, 1⟩
abbrev MONITOR_STATUS_ACTIVE : Machine.Fld := ⟨R.MONITOR_STATUS, 0, 0⟩
abbrev MONITOR_BAUD_RATE : Machine.Fld := ⟨R.MONITOR_BAUD, 21, 0⟩
abbrev FAULT_CTRL_CHECK_LIMIT : Machine.Fld := ⟨R.FAULT_CTRL, 23, 8⟩
abbrev FAULT_CTRL_RECOVERY_LIMIT : Machine.Fld := ⟨R.FAULT_CTRL, 7, 0⟩
abbrev FAULT_STATUS_FENCED : Machine.Fld := ⟨R.FAULT_STATUS, 31, 16⟩
abbrev FAULT_STATUS_PAD_HOLD : Machine.Fld := ⟨R.FAULT_STATUS, 2, 2⟩
abbrev FAULT_STATUS_LASTING_ACTIVE : Machine.Fld := ⟨R.FAULT_STATUS, 1, 1⟩
abbrev FAULT_STATUS_SAFE_LATCHED : Machine.Fld := ⟨R.FAULT_STATUS, 0, 0⟩
abbrev FAULT_LAST_CLASS : Machine.Fld := ⟨R.FAULT_LAST, 27, 24⟩
abbrev FAULT_LAST_TREATMENT : Machine.Fld := ⟨R.FAULT_LAST, 23, 20⟩
abbrev FAULT_LAST_ELEMENT : Machine.Fld := ⟨R.FAULT_LAST, 15, 0⟩
abbrev FAULT_CAUSE_CLASS : Machine.Fld := ⟨R.FAULT_CAUSE, 27, 24⟩
abbrev FAULT_CAUSE_ELEMENT : Machine.Fld := ⟨R.FAULT_CAUSE, 15, 0⟩
abbrev FAULT_PAD_HOLD_HELD : Machine.Fld := ⟨R.FAULT_PAD_HOLD, 24, 16⟩
abbrev FAULT_PAD_HOLD_LIMIT_S : Machine.Fld := ⟨R.FAULT_PAD_HOLD, 15, 0⟩
abbrev FAULT_RESTORE_S_S : Machine.Fld := ⟨R.FAULT_RESTORE_S, 15, 0⟩
abbrev FAULT_RECOVERY_1H_COUNT : Machine.Fld := ⟨R.FAULT_RECOVERY_1H, 7, 0⟩

end Sys2Proof.F

namespace Sys2Proof.I

abbrev GLOBAL_WARM_DONE : Nat × Nat := (0, 2)
abbrev GLOBAL_REQUEST_REFUSED : Nat × Nat := (0, 1)
abbrev GLOBAL_MODE_CHANGE : Nat × Nat := (0, 0)
abbrev DRAFT_PATCH_DROPPED : Nat × Nat := (1, 7)
abbrev DRAFT_IMAGE_DONE : Nat × Nat := (1, 6)
abbrev DRAFT_CARD_FAIL : Nat × Nat := (1, 5)
abbrev DRAFT_PATCH_APPLIED : Nat × Nat := (1, 4)
abbrev DRAFT_SWITCH_DONE : Nat × Nat := (1, 3)
abbrev DRAFT_FALLBACK : Nat × Nat := (1, 2)
abbrev DRAFT_LOAD_FAIL : Nat × Nat := (1, 1)
abbrev DRAFT_LOAD_DONE : Nat × Nat := (1, 0)
abbrev PORT_MCAST_DONE : Nat × Nat := (2, 11)
abbrev PORT_BUF_DROP : Nat × Nat := (2, 10)
abbrev PORT_PRP_TABLE_FULL : Nat × Nat := (2, 9)
abbrev PORT_SLOW_DROP : Nat × Nat := (2, 8)
abbrev PORT_LINK_CHANGE (n : Nat) : Nat × Nat := (2, 0 + n)
abbrev TIME_PULSE_SKIPPED : Nat × Nat := (3, 6)
abbrev TIME_LEAP : Nat × Nat := (3, 5)
abbrev TIME_CROSS_FAIL : Nat × Nat := (3, 4)
abbrev TIME_PATH_SUSPECT : Nat × Nat := (3, 3)
abbrev TIME_SOURCE_CHANGE : Nat × Nat := (3, 2)
abbrev TIME_LOST : Nat × Nat := (3, 1)
abbrev TIME_LOCKED : Nat × Nat := (3, 0)
abbrev HEDDLE_GOOSE_TAL : Nat × Nat := (4, 6)
abbrev HEDDLE_KEY_EXPIRING : Nat × Nat := (4, 5)
abbrev HEDDLE_AUTH_FAIL : Nat × Nat := (4, 4)
abbrev HEDDLE_CFG_CHANGE : Nat × Nat := (4, 3)
abbrev HEDDLE_UNKNOWN_STREAM : Nat × Nat := (4, 2)
abbrev HEDDLE_STREAM_UP : Nat × Nat := (4, 1)
abbrev HEDDLE_STREAM_DOWN : Nat × Nat := (4, 0)
abbrev REED_LATE_INPUT : Nat × Nat := (5, 6)
abbrev REED_EST_RANGE : Nat × Nat := (5, 5)
abbrev REED_CLIPPED : Nat × Nat := (5, 4)
abbrev REED_DF_MISSING : Nat × Nat := (5, 3)
abbrev REED_PASS_MISS : Nat × Nat := (5, 2)
abbrev REED_CHECK_FAIL : Nat × Nat := (5, 1)
abbrev REED_BACKPRESSURE : Nat × Nat := (5, 0)
abbrev LOOM_HIST_SPARSE : Nat × Nat := (6, 7)
abbrev LOOM_AHEAD_DROP : Nat × Nat := (6, 6)
abbrev LOOM_LATE_QFULL : Nat × Nat := (6, 5)
abbrev LOOM_CHECK_FAIL : Nat × Nat := (6, 4)
abbrev LOOM_SLOT_GAP : Nat × Nat := (6, 3)
abbrev LOOM_FORCED_CLOSE : Nat × Nat := (6, 2)
abbrev LOOM_OVERLOAD_CLEAR : Nat × Nat := (6, 1)
abbrev LOOM_OVERLOAD_SET : Nat × Nat := (6, 0)
abbrev OSC_CKPT_DONE : Nat × Nat := (7, 5)
abbrev OSC_SHAPE_QFULL : Nat × Nat := (7, 4)
abbrev OSC_CHECK_FAIL : Nat × Nat := (7, 3)
abbrev OSC_STALE : Nat × Nat := (7, 2)
abbrev OSC_MODE_DROPPED : Nat × Nat := (7, 1)
abbrev OSC_MODE_SEEDED : Nat × Nat := (7, 0)
abbrev ISLE_CONFIRM_BLOCKED : Nat × Nat := (8, 6)
abbrev ISLE_CHECK_FAIL : Nat × Nat := (8, 5)
abbrev ISLE_SC_ENDED : Nat × Nat := (8, 4)
abbrev ISLE_SC_PERMIT : Nat × Nat := (8, 3)
abbrev ISLE_TIE_CHANGE : Nat × Nat := (8, 2)
abbrev ISLE_ISLAND_CLEARED : Nat × Nat := (8, 1)
abbrev ISLE_ISLAND_DECLARED : Nat × Nat := (8, 0)
abbrev VOTE_EVENT_QFULL : Nat × Nat := (9, 6)
abbrev VOTE_PIN_MISMATCH : Nat × Nat := (9, 5)
abbrev VOTE_CHECK_FAIL : Nat × Nat := (9, 4)
abbrev VOTE_FENCED : Nat × Nat := (9, 3)
abbrev VOTE_ODD : Nat × Nat := (9, 2)
abbrev VOTE_CLEAR : Nat × Nat := (9, 1)
abbrev VOTE_RAISE : Nat × Nat := (9, 0)
abbrev PAIR_DRAFT_MISMATCH : Nat × Nat := (10, 7)
abbrev PAIR_MODID_CLASH : Nat × Nat := (10, 6)
abbrev PAIR_STREAM_GAP : Nat × Nat := (10, 5)
abbrev PAIR_MIRROR_CHANGE : Nat × Nat := (10, 4)
abbrev PAIR_PARTNER_FOUND : Nat × Nat := (10, 3)
abbrev PAIR_PARTNER_LOST : Nat × Nat := (10, 2)
abbrev PAIR_RELEASED : Nat × Nat := (10, 1)
abbrev PAIR_TAKEOVER : Nat × Nat := (10, 0)
abbrev SHUTTLE_KEY_MISSING : Nat × Nat := (11, 3)
abbrev SHUTTLE_COPY_QFULL : Nat × Nat := (11, 2)
abbrev SHUTTLE_LATE : Nat × Nat := (11, 1)
abbrev SHUTTLE_SKIPPED : Nat × Nat := (11, 0)
abbrev QUEUE_DMA_ERROR : Nat × Nat := (12, 2)
abbrev QUEUE_LOST : Nat × Nat := (12, 1)
abbrev QUEUE_WATERMARK : Nat × Nat := (12, 0)
abbrev SLV_CHECK_FAIL : Nat × Nat := (13, 7)
abbrev SLV_RX_QFULL : Nat × Nat := (13, 6)
abbrev SLV_AGE_SKEW : Nat × Nat := (13, 5)
abbrev SLV_OVER_BUDGET : Nat × Nat := (13, 4)
abbrev SLV_SLOT_SKIPPED : Nat × Nat := (13, 3)
abbrev SLV_RETRY : Nat × Nat := (13, 2)
abbrev SLV_LINK_DOWN : Nat × Nat := (13, 1)
abbrev SLV_LINK_UP : Nat × Nat := (13, 0)
abbrev CAPT_REMOTE : Nat × Nat := (14, 6)
abbrev CAPT_DATA_LOST : Nat × Nat := (14, 5)
abbrev CAPT_OVERRUN : Nat × Nat := (14, 4)
abbrev CAPT_FULL : Nat × Nat := (14, 3)
abbrev CAPT_MISSED : Nat × Nat := (14, 2)
abbrev CAPT_COMPLETE : Nat × Nat := (14, 1)
abbrev CAPT_TRIGGERED : Nat × Nat := (14, 0)
abbrev ENERGY_ADOPTED : Nat × Nat := (15, 5)
abbrev ENERGY_QFULL : Nat × Nat := (15, 4)
abbrev ENERGY_PULSE_BACKLOG : Nat × Nat := (15, 3)
abbrev ENERGY_SAVE_FAIL : Nat × Nat := (15, 2)
abbrev ENERGY_FROZEN : Nat × Nat := (15, 1)
abbrev ENERGY_INTERVAL : Nat × Nat := (15, 0)
abbrev LEDGER_FLUSHED : Nat × Nat := (24, 6)
abbrev LEDGER_OVERWRITE : Nat × Nat := (24, 5)
abbrev LEDGER_BLOCK_FENCED : Nat × Nat := (24, 4)
abbrev LEDGER_AUTH_FAIL : Nat × Nat := (24, 3)
abbrev LEDGER_CLEARED : Nat × Nat := (24, 2)
abbrev LEDGER_LOST : Nat × Nat := (24, 1)
abbrev LEDGER_UNACKED_HIGH : Nat × Nat := (24, 0)
abbrev CHECK_ERROR (n : Nat) : Nat × Nat := (25, 8 + n)
abbrev CHECK_MISMATCH (n : Nat) : Nat × Nat := (25, 4 + n)
abbrev CHECK_DONE (n : Nat) : Nat × Nat := (25, 0 + n)
abbrev POWER_DRAIN_TIMEOUT : Nat × Nat := (26, 5)
abbrev POWER_WOKEN : Nat × Nat := (26, 4)
abbrev POWER_PFW_RECOVERED : Nat × Nat := (26, 3)
abbrev POWER_FLUSH_DONE : Nat × Nat := (26, 2)
abbrev POWER_PFW : Nat × Nat := (26, 1)
abbrev POWER_DROOP : Nat × Nat := (26, 0)
abbrev CLOCK_AVS_FAIL : Nat × Nat := (27, 7)
abbrev CLOCK_AGE_ALARM : Nat × Nat := (27, 6)
abbrev CLOCK_MARGIN_LOW : Nat × Nat := (27, 5)
abbrev CLOCK_DERATE : Nat × Nat := (27, 4)
abbrev CLOCK_AVS_CHANGE : Nat × Nat := (27, 3)
abbrev CLOCK_CANARY_ERROR : Nat × Nat := (27, 2)
abbrev CLOCK_RELOCKED : Nat × Nat := (27, 1)
abbrev CLOCK_CLOCK_LOSS : Nat × Nat := (27, 0)
abbrev HOST_MASTER_CHANGE : Nat × Nat := (28, 2)
abbrev HOST_LINK_CHANGE : Nat × Nat := (28, 1)
abbrev HOST_HOSTERR : Nat × Nat := (28, 0)
abbrev MONITOR_BAUD_REVERT : Nat × Nat := (29, 2)
abbrev MONITOR_WRITE : Nat × Nat := (29, 1)
abbrev MONITOR_SESSION : Nat × Nat := (29, 0)
abbrev FAULT_HOLD_EXPIRED : Nat × Nat := (30, 7)
abbrev FAULT_CLEARED : Nat × Nat := (30, 6)
abbrev FAULT_RESTORE_FAILED : Nat × Nat := (30, 5)
abbrev FAULT_SAFE : Nat × Nat := (30, 4)
abbrev FAULT_RECOVERY : Nat × Nat := (30, 3)
abbrev FAULT_FENCED : Nat × Nat := (30, 2)
abbrev FAULT_LASTING : Nat × Nat := (30, 1)
abbrev FAULT_TRANSIENT : Nat × Nat := (30, 0)

end Sys2Proof.I

namespace Sys2Proof.E

/-- DRAFT_ID, source, image, SIGNED -/
abbrev DRAFT_LOAD_OK : Nat := 0x801
/-- Fail reason, section, offset -/
abbrev DRAFT_LOAD_FAIL : Nat := 0x802
/-- Fail reason of image A -/
abbrev DRAFT_IMAGE_FALLBACK : Nat := 0x803
/-- Slot, BIND, SIGNED -/
abbrev DRAFT_CARD_LOADED : Nat := 0x804
/-- Status, fail reason, slot -/
abbrev DRAFT_CARD_REFUSED : Nat := 0x805
/-- Old mode, new mode, slot tag of S -/
abbrev DRAFT_MODE_SWITCH : Nat := 0x806
/-- Slot tag of S, section types -/
abbrev DRAFT_PATCH_ACCEPTED : Nat := 0x807
/-- Slot tag of S -/
abbrev DRAFT_PATCH_APPLIED : Nat := 0x808
/-- Opcode or requested mode, status -/
abbrev DRAFT_REQUEST_REFUSED : Nat := 0x809
/-- Image, length, DRAFT_ID -/
abbrev DRAFT_IMAGE_WRITTEN : Nat := 0x80a
/-- Section INDEX, source -/
abbrev DRAFT_SECTION_RETRY : Nat := 0x80b
/-- Slot tag of S -/
abbrev DRAFT_PATCH_DROPPED : Nat := 0x80c
/-- Old state, new state, E -/
abbrev TIME_SERVO_STATE : Nat := 0x1801
/-- Base, old code, new code, offset -/
abbrev TIME_SOURCE_CHANGE : Nat := 0x1802
/-- Codes, difference, outcome -/
abbrev TIME_CROSS_FAIL : Nat := 0x1803
/-- Port, delay step, offset departure -/
abbrev TIME_PATH_SUSPECT : Nat := 0x1804
/-- Port, delay step -/
abbrev TIME_PATH_STEP_SYMMETRIC : Nat := 0x1805
/-- Cause, TIME_ASYM_COMP -/
abbrev TIME_PATH_CLEARED : Nat := 0x1806
/-- Source, direction, UTC day -/
abbrev TIME_LEAP_ANNOUNCED : Nat := 0x1807
/-- New TAI − UTC -/
abbrev TIME_LEAP_APPLIED : Nat := 0x1808
/-- Old and new GRID; written for every step of GRID (R75) -/
abbrev TIME_GRID_SET : Nat := 0x1809
/-- Offset -/
abbrev TIME_OFFSET_TOO_LARGE : Nat := 0x180a
/-- Pulse, edges skipped -/
abbrev TIME_PULSE_SKIPPED : Nat := 0x180b
/-- Opcode, status -/
abbrev TIME_REQUEST_REFUSED : Nat := 0x180c
/-- Port, mode -/
abbrev PORT_LINK_UP : Nat := 0x1001
/-- Port, PORT_LINK at the loss -/
abbrev PORT_LINK_DOWN : Nat := 0x1002
/-- Pair -/
abbrev PORT_PRP_TABLE_FULL : Nat := 0x1003
/-- Port, frames dropped in the burst -/
abbrev PORT_SLOW_RATE_LIMIT : Nat := 0x1004
/-- Port, frames dropped in the burst -/
abbrev PORT_BUF_OVERFLOW : Nat := 0x1005
/-- Entry, old and new VALID -/
abbrev PORT_MCAST_CHANGED : Nat := 0x1006
/-- Opcode, status -/
abbrev PORT_REQUEST_REFUSED : Nat := 0x1007
/-- SID, state left -/
abbrev HEDDLE_STREAM_UP : Nat := 0x2001
/-- SID, last stamp -/
abbrev HEDDLE_STREAM_DOWN : Nat := 0x2002
/-- SID, CFGCNT -/
abbrev HEDDLE_CFG_MATCH : Nat := 0x2003
/-- SID, received and expected signature -/
abbrev HEDDLE_CFG_MISMATCH : Nat := 0x2004
/-- SID, key ID, cause -/
abbrev HEDDLE_AUTH_FAIL : Nat := 0x2005
/-- Slot, key ID, VALID_FROM -/
abbrev HEDDLE_KEY_LOADED : Nat := 0x2006
/-- Entry, last stNum -/
abbrev HEDDLE_GOOSE_TAL_EXPIRED : Nat := 0x2007
/-- Entry, received confRev -/
abbrev HEDDLE_GOOSE_CONFREV : Nat := 0x2008
/-- Opcode, status -/
abbrev HEDDLE_REQUEST_REFUSED : Nat := 0x2009
/-- TID, source stamp; coalesced with repeat count -/
abbrev REED_CHECK_RETRY : Nat := 0x2801
/-- TID, source stamp -/
abbrev REED_CHECK_FAIL : Nat := 0x2802
/-- Duration in µs, peak input demand -/
abbrev REED_BACKPRESSURE : Nat := 0x2803
/-- Group, frequency -/
abbrev REED_EST_RANGE : Nat := 0x2804
/-- TID, last df -/
abbrev REED_DF_MISSING : Nat := 0x2805
/-- TID, table, u -/
abbrev REED_CLIPPED : Nat := 0x2806
/-- Opcode, status -/
abbrev REED_REQUEST_REFUSED : Nat := 0x2807
/-- Lattice, slot tag -/
abbrev LOOM_SLOT_FORCED : Nat := 0x3001
/-- Lattice, first skipped tag, slots skipped -/
abbrev LOOM_SLOT_GAP : Nat := 0x3002
/-- Causes -/
abbrev LOOM_OVERLOAD_SET : Nat := 0x3003
/-- Seconds in overload -/
abbrev LOOM_OVERLOAD_CLEAR : Nat := 0x3004
/-- TID, slot tag; coalesced with repeat count -/
abbrev LOOM_CHECK_RETRY : Nat := 0x3005
/-- TID, slot tag -/
abbrev LOOM_CHECK_FAIL : Nat := 0x3006
/-- Packets dropped in the burst -/
abbrev LOOM_LATE_QFULL : Nat := 0x3007
/-- TID, slot tag; repeat count per burst -/
abbrev LOOM_AHEAD_DROP : Nat := 0x3008
/-- SID, or 0xFFFF for all -/
abbrev LOOM_HIST_RESET : Nat := 0x3009
/-- Set, SID with unknown quantile -/
abbrev LOOM_HIST_SPARSE : Nat := 0x300a
/-- Opcode, status -/
abbrev LOOM_REQUEST_REFUSED : Nat := 0x300b
/-- Tracker, slot, generation, frequency -/
abbrev OSC_MODE_SEEDED : Nat := 0x3801
/-- Tracker, slot, cause -/
abbrev OSC_MODE_DROPPED : Nat := 0x3802
/-- Tracker, slot kept, slot freed -/
abbrev OSC_MODE_MERGED : Nat := 0x3803
/-- Tracker, absence reason; repeat count per burst -/
abbrev OSC_TRACKER_STALE : Nat := 0x3804
/-- Tracker, slot tag; coalesced with repeat count -/
abbrev OSC_CHECK_RETRY : Nat := 0x3805
/-- Tracker, slot tag -/
abbrev OSC_CHECK_FAIL : Nat := 0x3806
/-- Job, records dropped in the burst -/
abbrev OSC_SHAPE_QFULL : Nat := 0x3807
/-- Source (0 Archive, 1 partner), trackers seeded -/
abbrev OSC_CKPT_SEEDED : Nat := 0x3808
/-- Opcode, argument -/
abbrev OSC_REQUEST_DONE : Nat := 0x3809
/-- Opcode, status -/
abbrev OSC_REQUEST_REFUSED : Nat := 0x380a
/-- Slot tag, G, HOME group -/
abbrev ISLE_ISLAND_DECLARED : Nat := 0x4001
/-- Slot tag, seconds islanded -/
abbrev ISLE_ISLAND_CLEARED : Nat := 0x4002
/-- Tie, slot tag, Δf, topo -/
abbrev ISLE_TIE_SPLIT : Nat := 0x4003
/-- Tie, slot tag -/
abbrev ISLE_TIE_COHERENT : Nat := 0x4004
/-- Point, cause (host or automatic) -/
abbrev ISLE_SC_STARTED : Nat := 0x4005
/-- Point, slip, θ_p -/
abbrev ISLE_SC_PERMIT : Nat := 0x4006
/-- Point, end cause -/
abbrev ISLE_SC_ENDED : Nat := 0x4007
/-- Area, slot tag; coalesced with repeat count -/
abbrev ISLE_CHECK_RETRY : Nat := 0x4008
/-- Area, TID, slot tag -/
abbrev ISLE_CHECK_FAIL : Nat := 0x4009
/-- Tie; repeat count per burst -/
abbrev ISLE_CONFIRM_BLOCKED : Nat := 0x400a
/-- Opcode, status -/
abbrev ISLE_REQUEST_REFUSED : Nat := 0x400b
/-- AP, slot tag, VALUE -/
abbrev VOTE_ALARM_RAISE : Nat := 0x4801
/-- AP, slot tag, VALUE -/
abbrev VOTE_ALARM_CLEAR : Nat := 0x4802
/-- AP, requester -/
abbrev VOTE_LATCH_RESET : Nat := 0x4803
/-- Lane, lattice, slot tag; coalesced with repeat count -/
abbrev VOTE_LANE_RESYNC : Nat := 0x4804
/-- Lane, lattice, slot tag -/
abbrev VOTE_LANE_FENCED : Nat := 0x4805
/-- Three signatures -/
abbrev VOTE_LANE_NO_MAJORITY : Nat := 0x4806
/-- Pin, drive, sensed level; repeat count per burst -/
abbrev VOTE_PIN_MISMATCH : Nat := 0x4807
/-- Lane, slot tag; coalesced with repeat count -/
abbrev VOTE_CHECK_RETRY : Nat := 0x4808
/-- Lane, slot tag -/
abbrev VOTE_CHECK_FAIL : Nat := 0x4809
/-- Packets dropped in the burst -/
abbrev VOTE_EVENT_QFULL : Nat := 0x480a
/-- Pin, duration -/
abbrev VOTE_PIN_TEST : Nat := 0x480b
/-- Opcode, status -/
abbrev VOTE_REQUEST_REFUSED : Nat := 0x480c
/-- Class, element; coalesced with repeat count -/
abbrev FAULT_TRANSIENT : Nat := 0xf001
/-- Class, element, treatment -/
abbrev FAULT_LASTING : Nat := 0xf002
/-- Element -/
abbrev FAULT_FENCED : Nat := 0xf003
/-- Cause class, element, slot tag of S -/
abbrev FAULT_RECOVERY_ENTERED : Nat := 0xf004
/-- Cause class, element -/
abbrev FAULT_SAFE_ENTERED : Nat := 0xf005
/-- Element, µs taken -/
abbrev FAULT_RESTORED : Nat := 0xf006
/-- Element, cause -/
abbrev FAULT_RESTORE_FAILED : Nat := 0xf007
/-- Held balls -/
abbrev FAULT_PAD_HOLD_SET : Nat := 0xf008
/-- Held balls released -/
abbrev FAULT_HOLD_EXPIRED : Nat := 0xf009
/-- Cause: exit, SAFE, command -/
abbrev FAULT_PAD_HOLD_RELEASED : Nat := 0xf00a
/-- Seconds in fault -/
abbrev FAULT_CLEARED : Nat := 0xf00b
/-- Class, element, lasting -/
abbrev FAULT_INJECTED : Nat := 0xf00c
/-- Opcode, status -/
abbrev FAULT_REQUEST_REFUSED : Nat := 0xf00d
/-- Takeover instant, own and partner claim, mirror state, holder's last accession number -/
abbrev PAIR_TAKEOVER : Nat := 0x5001
/-- Cause: claim, yield, fault, interlock -/
abbrev PAIR_RELEASED : Nat := 0x5002
/-- Last partner claim -/
abbrev PAIR_PARTNER_LOST : Nat := 0x5003
/-- Partner claim -/
abbrev PAIR_PARTNER_FOUND : Nat := 0x5004
/-- Link -/
abbrev PAIR_MIRROR_DOWN : Nat := 0x5005
/-- Link, partner DRAFT_ID low word -/
abbrev PAIR_MIRROR_UP : Nat := 0x5006
/-- OS, slot tag -/
abbrev PAIR_STREAM_GAP : Nat := 0x5007
/-- Old and new own claim, cause -/
abbrev PAIR_CLAIM_CHANGED : Nat := 0x5008
/-- MODID -/
abbrev PAIR_MODID_CLASH : Nat := 0x5009
/-- Partner DRAFT_ID -/
abbrev PAIR_DRAFT_MISMATCH : Nat := 0x500a
/-- Opcode, status -/
abbrev PAIR_REQUEST_REFUSED : Nat := 0x500b
/-- Link, peer DEVICE_ID, delay -/
abbrev SLV_LINK_UP : Nat := 0x6801
/-- Link, cause -/
abbrev SLV_LINK_DOWN : Nat := 0x6802
/-- Link, SEQ; coalesced with repeat count -/
abbrev SLV_RETRY : Nat := 0x6803
/-- Link, peer role -/
abbrev SLV_ROLE_MISMATCH : Nat := 0x6804
/-- Link -/
abbrev SLV_LINK_HELD : Nat := 0x6805
/-- Lattice, first tag; repeat count per burst -/
abbrev SLV_SLOT_SKIPPED : Nat := 0x6806
/-- ORIGIN, lattice, AGE; repeat count per burst -/
abbrev SLV_OVER_BUDGET : Nat := 0x6807
/-- ORIGIN, difference; repeat count per burst -/
abbrev SLV_AGE_SKEW : Nat := 0x6808
/-- Packets dropped in the burst -/
abbrev SLV_RX_QFULL : Nat := 0x6809
/-- ORIGIN, TID, slot tag -/
abbrev SLV_CHECK_FAIL : Nat := 0x680a
/-- Opcode, status -/
abbrev SLV_REQUEST_REFUSED : Nat := 0x680b
/-- OS, slot tag; repeat count per burst -/
abbrev SHUTTLE_SLOT_SKIPPED : Nat := 0x5801
/-- OS, new CFGCNT, slot tag of S -/
abbrev SHUTTLE_CFG_CHANGED : Nat := 0x5802
/-- OS; repeat count per burst -/
abbrev SHUTTLE_KEY_MISSING : Nat := 0x5803
/-- SID, CMD, port or queue -/
abbrev SHUTTLE_CMD_SENT : Nat := 0x5804
/-- Opcode, status -/
abbrev SHUTTLE_REQUEST_REFUSED : Nat := 0x5805
/-- Queue, cause, offset -/
abbrev QUEUE_DMA_ERROR : Nat := 0x6001
/-- Queue, words discarded -/
abbrev QUEUE_FLUSHED : Nat := 0x6002
/-- Queue, packets lost in the burst -/
abbrev QUEUE_LOST : Nat := 0x6003
/-- Opcode, status -/
abbrev QUEUE_REQUEST_REFUSED : Nat := 0x6004
/-- Region, SEQ, T_trig, cause -/
abbrev CAPT_CAPT_TRIGGERED : Nat := 0x7001
/-- Region, SEQ, PAGES, FLAGS -/
abbrev CAPT_CAPT_COMPLETE : Nat := 0x7002
/-- Region, time; repeat count per burst -/
abbrev CAPT_CAPT_MISSED : Nat := 0x7003
/-- Region, cause (command, remote, mirror, start) -/
abbrev CAPT_ARMED : Nat := 0x7004
/-- Region, cause -/
abbrev CAPT_DISARMED : Nat := 0x7005
/-- Region, W, F -/
abbrev CAPT_REGION_FULL : Nat := 0x7006
/-- Region, first slot tag, slots -/
abbrev CAPT_OVERRUN : Nat := 0x7007
/-- Region, page -/
abbrev CAPT_DATA_LOST : Nat := 0x7008
/-- Region, ORIGIN, event number -/
abbrev CAPT_REMOTE_FIRE : Nat := 0x7009
/-- Opcode, status -/
abbrev CAPT_REQUEST_REFUSED : Nat := 0x700a
/-- Freeze time -/
abbrev ENERGY_ENERGY_FROZEN : Nat := 0x7801
/-- Freeze time, resume time -/
abbrev ENERGY_ENERGY_RESUMED : Nat := 0x7802
/-- Bank -/
abbrev ENERGY_SAVE_FAIL : Nat := 0x7803
/-- Saved DRAFT_ID -/
abbrev ENERGY_SAVE_DISCARDED : Nat := 0x7804
/-- Mirrored slot tag, flow points -/
abbrev ENERGY_ADOPTED : Nat := 0x7805
/-- Save time, slots lost -/
abbrev ENERGY_RESTORED : Nat := 0x7806
/-- Output, pulses lost in the burst -/
abbrev ENERGY_PULSE_BACKLOG : Nat := 0x7807
/-- Packets dropped in the burst -/
abbrev ENERGY_INTERVAL_QFULL : Nat := 0x7808
/-- Opcode, status -/
abbrev ENERGY_REQUEST_REFUSED : Nat := 0x7809
/-- R404 -/
abbrev LEDGER_LOST : Nat := 0xc001
/-- R414 -/
abbrev LEDGER_CLEARED : Nat := 0xc002
/-- Requester; first key or change -/
abbrev LEDGER_KEY_CHANGED : Nat := 0xc003
/-- Opcode, failures in the hour -/
abbrev LEDGER_AUTH_FAIL : Nat := 0xc004
/-- Block; coalesced with repeat count -/
abbrev LEDGER_WRITE_RETRY : Nat := 0xc005
/-- Block -/
abbrev LEDGER_BLOCK_FENCED : Nat := 0xc006
/-- Records erased unacknowledged; repeat count per burst -/
abbrev LEDGER_OVERWRITE : Nat := 0xc007
/-- POWER_CYCLES, OP_SECONDS, BOOT_SEL -/
abbrev LEDGER_POWER_ON : Nat := 0xc008
/-- Records written in the flush -/
abbrev LEDGER_FLUSHED : Nat := 0xc009
/-- Accession -/
abbrev LEDGER_COLOPHON_FAIL : Nat := 0xc00a
/-- Opcode, status -/
abbrev LEDGER_REQUEST_REFUSED : Nat := 0xc00b
/-- Engine, space, mismatches, first bad block -/
abbrev CHECK_CHECK_MISMATCH : Nat := 0xc801
/-- Engine, failing address -/
abbrev CHECK_SCAN_ERROR : Nat := 0xc802
/-- Opcode, status -/
abbrev CHECK_REQUEST_REFUSED : Nat := 0xc803
/-- Supply, lowest mV, µs below threshold, lasting -/
abbrev POWER_DROOP : Nat := 0xd001
/-- Mode -/
abbrev POWER_PFW_FALL : Nat := 0xd002
/-- µs low -/
abbrev POWER_PFW_RECOVERED : Nat := 0xd003
/-- Last flush step reached -/
abbrev POWER_PFW_INCOMPLETE : Nat := 0xd004
/-- Domain, old, new, cause (request, demand, restore, mode) -/
abbrev POWER_DOMAIN_STATE : Nat := 0xd005
/-- Domain, transfers in flight -/
abbrev POWER_DRAIN_TIMEOUT : Nat := 0xd006
/-- Opcode, status -/
abbrev POWER_REQUEST_REFUSED : Nat := 0xd007
/-- Island, lasting -/
abbrev CLOCK_CLOCK_LOSS : Nat := 0xd801
/-- Least-margin island, its margin, request mV -/
abbrev CLOCK_REPLAN : Nat := 0xd802
/-- Old and new mV -/
abbrev CLOCK_AVS_CHANGE : Nat := 0xd803
/-- Island, old and new step -/
abbrev CLOCK_DERATED : Nat := 0xd804
/-- Island, forecast date in days -/
abbrev CLOCK_AGE_FORECAST : Nat := 0xd805
/-- Island, canary; repeat count per burst -/
abbrev CLOCK_CANARY_ERROR : Nat := 0xd806
/-- Request mV, measured mV -/
abbrev CLOCK_AVS_FAIL : Nat := 0xd807
/-- Island, margin -/
abbrev CLOCK_MARGIN_LOW : Nat := 0xd808
/-- Island, margin -/
abbrev CLOCK_MARGIN_EXHAUSTED : Nat := 0xd809
/-- Opcode, status -/
abbrev CLOCK_REQUEST_REFUSED : Nat := 0xd80a
/-- Cause, path, address; repeat count per burst -/
abbrev HOST_HOSTERR : Nat := 0xe001
/-- Speed, width -/
abbrev HOST_LINK_UP : Nat := 0xe002
/-- Cause: PERST, surprise -/
abbrev HOST_LINK_DOWN : Nat := 0xe003
/-- Old owner, new owner, cause -/
abbrev HOST_MASTER_CHANGE : Nat := 0xe004
/-- Old, new -/
abbrev HOST_D_STATE : Nat := 0xe005
/-- Baud -/
abbrev MONITOR_SESSION : Nat := 0xe801
/-- Address and value, or block and opcode -/
abbrev MONITOR_MON_WRITE : Nat := 0xe802
/-- Old and new rate -/
abbrev MONITOR_BAUD_CHANGE : Nat := 0xe803
/-- Rate abandoned -/
abbrev MONITOR_BAUD_REVERT : Nat := 0xe804
/-- Kind, length, outcome -/
abbrev MONITOR_UART_LOAD : Nat := 0xe805
/-- Command, status -/
abbrev MONITOR_MON_REQUEST_REFUSED : Nat := 0xe806
/-- Request code, path, present mode -/
abbrev GLOBAL_MODE_REQUEST : Nat := 0x1
/-- Cause: ball, host, monitor; mode at reset -/
abbrev GLOBAL_WARM_RESET : Nat := 0x2
/-- Opcode, status -/
abbrev GLOBAL_REQUEST_REFUSED : Nat := 0x3

end Sys2Proof.E
end

