-- ==== Sys2Proof/Machine/RegMap.lean ====
section
/-!
DEFINITION. Sys2Proof/Machine/RegMap.lean: the register map, one row per register table of the spec (chapters 02 to
20), transcribed field by field: bit range, access code (R8), reset value, reset class (R9, R10) and lock (R8).
Reserved fields are left out of a row, so a bit no row names reads 0 and ignores writes (R7). The registers that
every block's common header holds alike (R472: ID, IRQ_SET, IRQ_COUNT, CMD, CMD_ARG, CMD_STATUS, CMD_RESULT,
REJECT_ADDR, REJECT_COUNT) stand once, in `header`.
-/
namespace Sys2Proof.Machine.RegMap

/-- The GLOBAL registers (block 0). -/
def global : List RegRow :=
  -- GLOBAL_CTRL (R472): 
  [⟨0x4, 1, 0, []⟩,
  -- GLOBAL_STATUS (R475): SAFE SWITCH_PENDING DRAFT_HELD MODE
   ⟨0x8, 1, 0, [⟨10, 10, .ro, 0, .warm, .free⟩, ⟨9, 9, .ro, 0, .draft, .free⟩, ⟨8, 8, .ro, 0, .por, .free⟩, ⟨3, 0, .ro, 0, .por, .free⟩]⟩,
  -- GLOBAL_IRQ_STATUS (R475): WARM_DONE REQUEST_REFUSED MODE_CHANGE
   ⟨0x10, 1, 0, [⟨2, 2, .w1c, 0, .por, .free⟩, ⟨1, 1, .w1c, 0, .por, .free⟩, ⟨0, 0, .w1c, 0, .por, .free⟩]⟩,
  -- GLOBAL_IRQ_ENABLE (R475): WARM_DONE REQUEST_REFUSED MODE_CHANGE
   ⟨0x14, 1, 0, [⟨2, 2, .rw, 0, .por, .free⟩, ⟨1, 1, .rw, 0, .por, .free⟩, ⟨0, 0, .rw, 0, .por, .free⟩]⟩,
  -- GLOBAL_PART (R475): PART
   ⟨0x100, 1, 0, [⟨31, 0, .ro, 0x8160, .kept, .free⟩]⟩,
  -- GLOBAL_DIE_ID_LO (R475): ID
   ⟨0x104, 1, 0, [⟨31, 0, .ro, 1, .kept, .free⟩]⟩,
  -- GLOBAL_DIE_ID_HI (R475): ID
   ⟨0x108, 1, 0, [⟨31, 0, .ro, 0, .kept, .free⟩]⟩,
  -- GLOBAL_MODE (R475): PREVIOUS MODE
   ⟨0x110, 1, 0, [⟨7, 4, .ro, 0, .por, .free⟩, ⟨3, 0, .ro, 0, .por, .free⟩]⟩,
  -- GLOBAL_MODE_SINCE_LO (R475): NS
   ⟨0x114, 1, 0, [⟨31, 0, .ro, 0, .por, .free⟩]⟩,
  -- GLOBAL_MODE_SINCE_HI (R475): NS
   ⟨0x118, 1, 0, [⟨31, 0, .ro, 0, .por, .free⟩]⟩,
  -- GLOBAL_MODE_REQ (R475): REQUEST
   ⟨0x120, 1, 0, [⟨3, 0, .wo, 0, .none, .free⟩]⟩,
  -- GLOBAL_MODE_REQ_STATUS (R475): DONE PATH REQUEST STATUS
   ⟨0x124, 1, 0, [⟨31, 31, .ro, 1, .por, .free⟩, ⟨12, 12, .ro, 0, .por, .free⟩, ⟨11, 8, .ro, 0, .por, .free⟩, ⟨3, 0, .ro, 0, .por, .free⟩]⟩,
  -- GLOBAL_IRQ_SUMMARY (R476): BLOCK
   ⟨0x130, 1, 0, [⟨31, 0, .ro, 0, .por, .free⟩]⟩,
  -- GLOBAL_QUEUE_SUMMARY (R476): QUEUE
   ⟨0x134, 1, 0, [⟨31, 0, .ro, 0, .por, .free⟩]⟩,
  -- GLOBAL_MODE_SECONDSn (R476): S
   ⟨0x200, 12, 0x4, [⟨31, 0, .ro, 0, .draft, .free⟩]⟩,
  -- GLOBAL_MODE_CHANGES (R478): COUNT
   ⟨0x300, 1, 0, [⟨31, 0, .ro, 0, .por, .free⟩]⟩,
  -- GLOBAL_MODE_REQUESTS (R478): COUNT
   ⟨0x304, 1, 0, [⟨31, 0, .ro, 0, .por, .free⟩]⟩,
  -- GLOBAL_MODE_REFUSED (R478): COUNT
   ⟨0x308, 1, 0, [⟨31, 0, .ro, 0, .por, .free⟩]⟩,
  -- GLOBAL_WARM_RESETS (R478): COUNT
   ⟨0x30c, 1, 0, [⟨31, 0, .ro, 0, .por, .free⟩]⟩]

/-- The DRAFT registers (block 1). -/
def draft : List RegRow :=
  -- DRAFT_CTRL (R66): CARD_LOCK REQUIRE_SIGNED
  [⟨0x4, 1, 0, [⟨1, 1, .w1s, 0, .warm, .free⟩, ⟨0, 0, .w1s, 0, .por, .free⟩]⟩,
  -- DRAFT_STATUS (R66): FAIL_SECTION FAIL_REASON IMAGE SIGNED SOURCE LOAD_STATE
   ⟨0x8, 1, 0, [⟨23, 16, .ro, 0, .por, .free⟩, ⟨15, 12, .ro, 0, .por, .free⟩, ⟨8, 8, .ro, 0, .draft, .free⟩, ⟨7, 7, .ro, 0, .draft, .free⟩, ⟨6, 4, .ro, 0, .draft, .free⟩, ⟨1, 0, .ro, 0, .por, .free⟩]⟩,
  -- DRAFT_IRQ_STATUS (R66): PATCH_DROPPED IMAGE_DONE CARD_FAIL PATCH_APPLIED SWITCH_DONE FALLBACK LOAD_FAIL LOAD_DONE
   ⟨0x10, 1, 0, [⟨7, 7, .w1c, 0, .por, .free⟩, ⟨6, 6, .w1c, 0, .por, .free⟩, ⟨5, 5, .w1c, 0, .por, .free⟩, ⟨4, 4, .w1c, 0, .por, .free⟩, ⟨3, 3, .w1c, 0, .por, .free⟩, ⟨2, 2, .w1c, 0, .por, .free⟩, ⟨1, 1, .w1c, 0, .por, .free⟩, ⟨0, 0, .w1c, 0, .por, .free⟩]⟩,
  -- DRAFT_IRQ_ENABLE (R66): PATCH_DROPPED IMAGE_DONE CARD_FAIL PATCH_APPLIED SWITCH_DONE FALLBACK LOAD_FAIL LOAD_DONE
   ⟨0x14, 1, 0, [⟨7, 7, .rw, 0, .por, .free⟩, ⟨6, 6, .rw, 0, .por, .free⟩, ⟨5, 5, .rw, 0, .por, .free⟩, ⟨4, 4, .rw, 0, .por, .free⟩, ⟨3, 3, .rw, 0, .por, .free⟩, ⟨2, 2, .rw, 0, .por, .free⟩, ⟨1, 1, .rw, 0, .por, .free⟩, ⟨0, 0, .rw, 0, .por, .free⟩]⟩,
  -- DRAFT_ID_LO (R66): ID
   ⟨0x100, 1, 0, [⟨31, 0, .ro, 0, .draft, .free⟩]⟩,
  -- DRAFT_ID_HI (R66): ID
   ⟨0x104, 1, 0, [⟨31, 0, .ro, 0, .draft, .free⟩]⟩,
  -- DRAFT_GENERATION (R66): GENERATION
   ⟨0x108, 1, 0, [⟨31, 0, .ro, 0, .draft, .free⟩]⟩,
  -- DRAFT_LOAD_TIME (R66): MICROSECONDS
   ⟨0x10c, 1, 0, [⟨31, 0, .ro, 0, .por, .free⟩]⟩,
  -- DRAFT_DOMAINS (R66): USED
   ⟨0x110, 1, 0, [⟨15, 0, .ro, 0, .draft, .free⟩]⟩,
  -- DRAFT_CARDS (R66): ACTIVE_VALID ACTIVE HELD
   ⟨0x114, 1, 0, [⟨20, 20, .ro, 0, .draft, .free⟩, ⟨19, 16, .ro, 0, .draft, .free⟩, ⟨15, 0, .ro, 0, .draft, .free⟩]⟩,
  -- DRAFT_BIND0 (R66): M4_VALID M4_SLOT M5_VALID M5_SLOT M6_VALID M6_SLOT M7_VALID M7_SLOT
   ⟨0x118, 1, 0, [⟨4, 4, .ro, 0, .draft, .free⟩, ⟨3, 0, .ro, 0, .draft, .free⟩, ⟨12, 12, .ro, 0, .draft, .free⟩, ⟨11, 8, .ro, 0, .draft, .free⟩, ⟨20, 20, .ro, 0, .draft, .free⟩, ⟨19, 16, .ro, 0, .draft, .free⟩, ⟨28, 28, .ro, 0, .draft, .free⟩, ⟨27, 24, .ro, 0, .draft, .free⟩]⟩,
  -- DRAFT_BIND1 (R66): M8_VALID M8_SLOT M9_VALID M9_SLOT M10_VALID M10_SLOT
   ⟨0x11c, 1, 0, [⟨4, 4, .ro, 0, .draft, .free⟩, ⟨3, 0, .ro, 0, .draft, .free⟩, ⟨12, 12, .ro, 0, .draft, .free⟩, ⟨11, 8, .ro, 0, .draft, .free⟩, ⟨20, 20, .ro, 0, .draft, .free⟩, ⟨19, 16, .ro, 0, .draft, .free⟩]⟩,
  -- DRAFT_SWITCH_STATUS (R66): PATCH_PENDING TARGET_MODE PENDING
   ⟨0x120, 1, 0, [⟨8, 8, .ro, 0, .draft, .free⟩, ⟨7, 4, .ro, 0, .draft, .free⟩, ⟨0, 0, .ro, 0, .draft, .free⟩]⟩,
  -- DRAFT_SWITCH_SLOT_LO (R66): TAG
   ⟨0x124, 1, 0, [⟨31, 0, .ro, 0, .draft, .free⟩]⟩,
  -- DRAFT_SWITCH_SLOT_HI (R66): TAG
   ⟨0x128, 1, 0, [⟨31, 0, .ro, 0, .draft, .free⟩]⟩,
  -- DRAFT_PATCH_SLOT_LO (R66): TAG
   ⟨0x12c, 1, 0, [⟨31, 0, .rw, 0, .draft, .free⟩]⟩,
  -- DRAFT_PATCH_SLOT_HI (R66): TAG
   ⟨0x130, 1, 0, [⟨31, 0, .rw, 0, .draft, .free⟩]⟩,
  -- DRAFT_SWITCH_COUNT (R66): COUNT
   ⟨0x134, 1, 0, [⟨31, 0, .ro, 0, .draft, .free⟩]⟩,
  -- DRAFT_FAIL_OFFSET (R66): OFFSET
   ⟨0x138, 1, 0, [⟨31, 0, .ro, 0, .por, .free⟩]⟩,
  -- DRAFT_KEYS (R66): KEY_USED SIGN_REQUIRED REVOKED PROGRAMMED
   ⟨0x13c, 1, 0, [⟨10, 9, .ro, 0, .draft, .free⟩, ⟨8, 8, .ro, 0, .kept, .free⟩, ⟨7, 4, .ro, 0, .kept, .free⟩, ⟨3, 0, .ro, 0, .kept, .free⟩]⟩,
  -- DRAFT_IMAGES (R66): B A
   ⟨0x140, 1, 0, [⟨3, 2, .ro, 0, .kept, .free⟩, ⟨1, 0, .ro, 0, .kept, .free⟩]⟩,
  -- DRAFT_MODE_COND (R66): OVERLOAD_HOST STANDBY OVERLOAD TIME_LOST SYNCHRO_CHECK ISLANDS
   ⟨0x144, 1, 0, [⟨5, 5, .ro, 0, .draft, .free⟩, ⟨4, 4, .ro, 0, .draft, .free⟩, ⟨3, 3, .ro, 0, .draft, .free⟩, ⟨2, 2, .ro, 0, .draft, .free⟩, ⟨1, 1, .ro, 0, .draft, .free⟩, ⟨0, 0, .ro, 0, .draft, .free⟩]⟩]

/-- The PORT registers (block 2), part 0. -/
def port0 : List RegRow :=
  -- PORT_CTRL (R472): 
  [⟨0x4, 1, 0, []⟩,
  -- PORT_STATUS (R111): PRP_ACTIVE LINK_UP
   ⟨0x8, 1, 0, [⟨11, 8, .ro, 0, .draft, .free⟩, ⟨7, 0, .ro, 0, .por, .free⟩]⟩,
  -- PORT_IRQ_STATUS (R111): MCAST_DONE BUF_DROP PRP_TABLE_FULL SLOW_DROP LINK_CHANGE
   ⟨0x10, 1, 0, [⟨11, 11, .w1c, 0, .por, .free⟩, ⟨10, 10, .w1c, 0, .por, .free⟩, ⟨9, 9, .w1c, 0, .por, .free⟩, ⟨8, 8, .w1c, 0, .por, .free⟩, ⟨7, 0, .w1c, 0, .por, .free⟩]⟩,
  -- PORT_IRQ_ENABLE (R111): MCAST_DONE BUF_DROP PRP_TABLE_FULL SLOW_DROP LINK_CHANGE
   ⟨0x14, 1, 0, [⟨11, 11, .rw, 0, .por, .free⟩, ⟨10, 10, .rw, 0, .por, .free⟩, ⟨9, 9, .rw, 0, .por, .free⟩, ⟨8, 8, .rw, 0, .por, .free⟩, ⟨7, 0, .rw, 0, .por, .free⟩]⟩,
  -- PORT_SLOW_QUEUE (R111): TX_QUEUE RX_QUEUE
   ⟨0x100, 1, 0, [⟨12, 8, .rwl, 0, .fromDraft, .m3to10⟩, ⟨4, 0, .rwl, 0, .fromDraft, .m3to10⟩]⟩,
  -- PORT_UDP_SVCn (R111): CLASS UDP_PORT
   ⟨0x110, 16, 0x4, [⟨17, 16, .rwl, 0, .fromDraft, .m3to10⟩, ⟨15, 0, .rwl, 0, .fromDraft, .m3to10⟩]⟩,
  -- PORT_MCAST_STAGE0 (R111): VALID KIND SLOW PORT_MASK
   ⟨0x200, 1, 0, [⟨31, 31, .rw, 0, .draft, .free⟩, ⟨30, 29, .rw, 0, .draft, .free⟩, ⟨28, 28, .rw, 0, .draft, .free⟩, ⟨15, 8, .rw, 0, .draft, .free⟩]⟩,
  -- PORT_MCAST_STAGE1 (R111): 
   ⟨0x204, 1, 0, []⟩,
  -- PORT_MCAST_STAGE2 (R111): MAC_LO
   ⟨0x208, 1, 0, [⟨31, 0, .rw, 0, .draft, .free⟩]⟩,
  -- PORT_MCAST_STAGE3 (R111): MAC_HI
   ⟨0x20c, 1, 0, [⟨15, 0, .rw, 0, .draft, .free⟩]⟩,
  -- PORT_MCAST_STAGE4 (R111): ADDR
   ⟨0x210, 4, 0x4, [⟨31, 0, .rw, 0, .draft, .free⟩]⟩,
  -- PORT_CFG (R111): SLOW_UNKNOWN JUMBO VLAN_MODE PRP AN_EN MODE
   ⟨0x1000, 8, 0x10000, [⟨7, 7, .rw, 0, .fromDraft, .free⟩, ⟨6, 6, .rwl, 0, .fromDraft, .m3to10⟩, ⟨5, 4, .rwl, 0, .fromDraft, .m3to10⟩, ⟨3, 3, .rwl, 0, .fromDraft, .m3to10⟩, ⟨2, 2, .rwl, 0, .fromDraft, .m3to10⟩, ⟨1, 0, .rwl, 0, .fromDraft, .m3to10⟩]⟩,
  -- PORT_LINK (R111): REMOTE_FAULT LOCAL_FAULT HI_BER AN_DONE LOCK UP
   ⟨0x1004, 8, 0x10000, [⟨5, 5, .ro, 0, .por, .free⟩, ⟨4, 4, .ro, 0, .por, .free⟩, ⟨3, 3, .ro, 0, .por, .free⟩, ⟨2, 2, .ro, 0, .por, .free⟩, ⟨1, 1, .ro, 0, .por, .free⟩, ⟨0, 0, .ro, 0, .por, .free⟩]⟩,
  -- PORT_VLAN (R111): VID
   ⟨0x1008, 8, 0x10000, [⟨11, 0, .rwl, 0, .fromDraft, .m3to10⟩]⟩,
  -- PORT_MAC_LO (R111): ADDR
   ⟨0x1010, 8, 0x10000, [⟨31, 0, .rw, 0, .fromDraft, .free⟩]⟩,
  -- PORT_MAC_HI (R111): ADDR
   ⟨0x1014, 8, 0x10000, [⟨15, 0, .rw, 0, .fromDraft, .free⟩]⟩,
  -- PORT_IPV4_0 (R111): ADDR
   ⟨0x1018, 8, 0x10000, [⟨31, 0, .rw, 0, .fromDraft, .free⟩]⟩,
  -- PORT_IPV4_1 (R111): ADDR
   ⟨0x101c, 8, 0x10000, [⟨31, 0, .rw, 0, .fromDraft, .free⟩]⟩,
  -- PORT_IPV6_0_0 (R111): ADDR
   ⟨0x1020, 8, 0x10000, [⟨31, 0, .rw, 0, .fromDraft, .free⟩]⟩,
  -- PORT_IPV6_0_1 (R111): ADDR
   ⟨0x1024, 8, 0x10000, [⟨31, 0, .rw, 0, .fromDraft, .free⟩]⟩,
  -- PORT_IPV6_0_2 (R111): ADDR
   ⟨0x1028, 8, 0x10000, [⟨31, 0, .rw, 0, .fromDraft, .free⟩]⟩,
  -- PORT_IPV6_0_3 (R111): ADDR
   ⟨0x102c, 8, 0x10000, [⟨31, 0, .rw, 0, .fromDraft, .free⟩]⟩,
  -- PORT_IPV6_1_0 (R111): ADDR
   ⟨0x1030, 8, 0x10000, [⟨31, 0, .rw, 0, .fromDraft, .free⟩]⟩,
  -- PORT_IPV6_1_1 (R111): ADDR
   ⟨0x1034, 8, 0x10000, [⟨31, 0, .rw, 0, .fromDraft, .free⟩]⟩,
  -- PORT_IPV6_1_2 (R111): ADDR
   ⟨0x1038, 8, 0x10000, [⟨31, 0, .rw, 0, .fromDraft, .free⟩]⟩,
  -- PORT_IPV6_1_3 (R111): ADDR
   ⟨0x103c, 8, 0x10000, [⟨31, 0, .rw, 0, .fromDraft, .free⟩]⟩,
  -- PORT_RX_LAT_ADJ (R111): NS
   ⟨0x1040, 8, 0x10000, [⟨31, 0, .rw, 0, .fromDraft, .free⟩]⟩,
  -- PORT_TX_LAT_ADJ (R111): NS
   ⟨0x1044, 8, 0x10000, [⟨31, 0, .rw, 0, .fromDraft, .free⟩]⟩,
  -- PORT_RX_LAT_FIXED (R111): NS
   ⟨0x1048, 8, 0x10000, [⟨31, 0, .ro, 0, .fromDraft, .free⟩]⟩,
  -- PORT_TX_LAT_FIXED (R111): NS
   ⟨0x104c, 8, 0x10000, [⟨31, 0, .ro, 0, .fromDraft, .free⟩]⟩,
  -- PORT_SLOW_RATE (R111): FPS
   ⟨0x1050, 8, 0x10000, [⟨19, 0, .rw, 0x2710, .draft, .free⟩]⟩]

/-- The PORT registers (block 2), part 1. -/
def port1 : List RegRow :=
  -- PORT_PRP_CFG (R111): FORGET SUPERVISION
  [⟨0x1054, 4, 0x20000, [⟨31, 16, .rw, 0x190, .draft, .free⟩, ⟨15, 0, .rw, 0x7d0, .draft, .free⟩]⟩,
  -- PORT_RX_FRAMES (R112): COUNT
   ⟨0x1100, 8, 0x10000, [⟨31, 0, .ro, 0, .draft, .free⟩]⟩,
  -- PORT_RX_OCTETS_LO (R112): COUNT
   ⟨0x1104, 8, 0x10000, [⟨31, 0, .ro, 0, .draft, .free⟩]⟩,
  -- PORT_RX_OCTETS_HI (R112): COUNT
   ⟨0x1108, 8, 0x10000, [⟨31, 0, .ro, 0, .draft, .free⟩]⟩,
  -- PORT_RX_FCS_ERR (R112): COUNT
   ⟨0x110c, 8, 0x10000, [⟨31, 0, .ro, 0, .draft, .free⟩]⟩,
  -- PORT_RX_LEN_ERR (R112): COUNT
   ⟨0x1110, 8, 0x10000, [⟨31, 0, .ro, 0, .draft, .free⟩]⟩,
  -- PORT_RX_PCS_ERR (R112): COUNT
   ⟨0x1114, 8, 0x10000, [⟨31, 0, .ro, 0, .draft, .free⟩]⟩,
  -- PORT_RX_BUF_DROP (R112): COUNT
   ⟨0x1118, 8, 0x10000, [⟨31, 0, .ro, 0, .draft, .free⟩]⟩,
  -- PORT_RX_PAUSE (R112): COUNT
   ⟨0x111c, 8, 0x10000, [⟨31, 0, .ro, 0, .draft, .free⟩]⟩,
  -- PORT_RX_MAC_FILTERED (R112): COUNT
   ⟨0x1120, 8, 0x10000, [⟨31, 0, .ro, 0, .draft, .free⟩]⟩,
  -- PORT_RX_VLAN_DROP (R112): COUNT
   ⟨0x1124, 8, 0x10000, [⟨31, 0, .ro, 0, .draft, .free⟩]⟩,
  -- PORT_RX_ETYPE_DROP (R112): COUNT
   ⟨0x1128, 8, 0x10000, [⟨31, 0, .ro, 0, .draft, .free⟩]⟩,
  -- PORT_RX_IP_HDR_ERR (R112): COUNT
   ⟨0x112c, 8, 0x10000, [⟨31, 0, .ro, 0, .draft, .free⟩]⟩,
  -- PORT_RX_FRAG_DROP (R112): COUNT
   ⟨0x1130, 8, 0x10000, [⟨31, 0, .ro, 0, .draft, .free⟩]⟩,
  -- PORT_RX_EXTHDR_DROP (R112): COUNT
   ⟨0x1134, 8, 0x10000, [⟨31, 0, .ro, 0, .draft, .free⟩]⟩,
  -- PORT_RX_UDP_CSUM_ERR (R112): COUNT
   ⟨0x1138, 8, 0x10000, [⟨31, 0, .ro, 0, .draft, .free⟩]⟩,
  -- PORT_RX_SLOW (R112): COUNT
   ⟨0x1140, 8, 0x10000, [⟨31, 0, .ro, 0, .draft, .free⟩]⟩,
  -- PORT_RX_SLOW_RATE_DROP (R112): COUNT
   ⟨0x1144, 8, 0x10000, [⟨31, 0, .ro, 0, .draft, .free⟩]⟩,
  -- PORT_RX_SLOW_QFULL_DROP (R112): COUNT
   ⟨0x1148, 8, 0x10000, [⟨31, 0, .ro, 0, .draft, .free⟩]⟩,
  -- PORT_RX_MEAS (R112): COUNT
   ⟨0x114c, 8, 0x10000, [⟨31, 0, .ro, 0, .draft, .free⟩]⟩,
  -- PORT_RX_PTP (R112): COUNT
   ⟨0x1150, 8, 0x10000, [⟨31, 0, .ro, 0, .draft, .free⟩]⟩,
  -- PORT_PRP_DUP_DISCARD (R112): COUNT
   ⟨0x1154, 8, 0x10000, [⟨31, 0, .ro, 0, .draft, .free⟩]⟩,
  -- PORT_PRP_WRONG_LAN (R112): COUNT
   ⟨0x1158, 8, 0x10000, [⟨31, 0, .ro, 0, .draft, .free⟩]⟩,
  -- PORT_PRP_TABLE_FULL (R112): COUNT
   ⟨0x115c, 8, 0x10000, [⟨31, 0, .ro, 0, .draft, .free⟩]⟩,
  -- PORT_PRP_SUPERVISION (R112): COUNT
   ⟨0x1160, 8, 0x10000, [⟨31, 0, .ro, 0, .draft, .free⟩]⟩,
  -- PORT_TX_FRAMES (R112): COUNT
   ⟨0x1164, 8, 0x10000, [⟨31, 0, .ro, 0, .draft, .free⟩]⟩,
  -- PORT_TX_OCTETS_LO (R112): COUNT
   ⟨0x1168, 8, 0x10000, [⟨31, 0, .ro, 0, .draft, .free⟩]⟩,
  -- PORT_TX_OCTETS_HI (R112): COUNT
   ⟨0x116c, 8, 0x10000, [⟨31, 0, .ro, 0, .draft, .free⟩]⟩,
  -- PORT_TX_HOST_DEFERRED (R112): COUNT
   ⟨0x1170, 8, 0x10000, [⟨31, 0, .ro, 0, .draft, .free⟩]⟩,
  -- PORT_TX_HOST_BAD (R112): COUNT
   ⟨0x1174, 8, 0x10000, [⟨31, 0, .ro, 0, .draft, .free⟩]⟩]

/-- The PORT registers (block 2), part 2. -/
def port2 : List RegRow :=
  -- PORT_LINK_DOWNS (R112): COUNT
  [⟨0x1178, 8, 0x10000, [⟨31, 0, .ro, 0, .draft, .free⟩]⟩,
  -- PORT_MCASTn_W0 (R101): VALID KIND SLOW PORT_MASK
   ⟨0x80000, 256, 0x20, [⟨31, 31, .ro, 0, .fromDraft, .free⟩, ⟨30, 29, .ro, 0, .fromDraft, .free⟩, ⟨28, 28, .ro, 0, .fromDraft, .free⟩, ⟨15, 8, .ro, 0, .fromDraft, .free⟩]⟩,
  -- PORT_MCASTn_W1 (R101): 
   ⟨0x80004, 256, 0x20, []⟩,
  -- PORT_MCASTn_W2 (R101): WORD
   ⟨0x80008, 256, 0x20, [⟨31, 0, .ro, 0, .fromDraft, .free⟩]⟩,
  -- PORT_MCASTn_W3 (R101): WORD
   ⟨0x8000c, 256, 0x20, [⟨15, 0, .ro, 0, .fromDraft, .free⟩]⟩,
  -- PORT_MCASTn_W4 (R101): WORD
   ⟨0x80010, 256, 0x20, [⟨31, 0, .ro, 0, .fromDraft, .free⟩]⟩,
  -- PORT_MCASTn_W5 (R101): WORD
   ⟨0x80014, 256, 0x20, [⟨31, 0, .ro, 0, .fromDraft, .free⟩]⟩,
  -- PORT_MCASTn_W6 (R101): WORD
   ⟨0x80018, 256, 0x20, [⟨31, 0, .ro, 0, .fromDraft, .free⟩]⟩,
  -- PORT_MCASTn_W7 (R101): WORD
   ⟨0x8001c, 256, 0x20, [⟨31, 0, .ro, 0, .fromDraft, .free⟩]⟩]

/-- The PORT registers (block 2). -/
def port : List RegRow := port0 ++ port1 ++ port2

/-- The TIME registers (block 3), part 0. -/
def time0 : List RegRow :=
  -- TIME_CTRL (R89): FORCE_HOLDOVER TEST_RUN
  [⟨0x4, 1, 0, [⟨1, 1, .rwl, 0, .draft, .notM2M9⟩, ⟨0, 0, .rw, 0, .draft, .free⟩]⟩,
  -- TIME_STATUS (R89): EVER_LOCKED AUX_SOURCE GRID_SOURCE SERVO
   ⟨0x8, 1, 0, [⟨12, 12, .ro, 0, .draft, .free⟩, ⟨11, 8, .ro, 0, .draft, .free⟩, ⟨7, 4, .ro, 0, .draft, .free⟩, ⟨2, 0, .ro, 0, .draft, .free⟩]⟩,
  -- TIME_IRQ_STATUS (R89): PULSE_SKIPPED LEAP CROSS_FAIL PATH_SUSPECT SOURCE_CHANGE LOST LOCKED
   ⟨0x10, 1, 0, [⟨6, 6, .w1c, 0, .por, .free⟩, ⟨5, 5, .w1c, 0, .por, .free⟩, ⟨4, 4, .w1c, 0, .por, .free⟩, ⟨3, 3, .w1c, 0, .por, .free⟩, ⟨2, 2, .w1c, 0, .por, .free⟩, ⟨1, 1, .w1c, 0, .por, .free⟩, ⟨0, 0, .w1c, 0, .por, .free⟩]⟩,
  -- TIME_IRQ_ENABLE (R89): PULSE_SKIPPED LEAP CROSS_FAIL PATH_SUSPECT SOURCE_CHANGE LOST LOCKED
   ⟨0x14, 1, 0, [⟨6, 6, .rw, 0, .por, .free⟩, ⟨5, 5, .rw, 0, .por, .free⟩, ⟨4, 4, .rw, 0, .por, .free⟩, ⟨3, 3, .rw, 0, .por, .free⟩, ⟨2, 2, .rw, 0, .por, .free⟩, ⟨1, 1, .rw, 0, .por, .free⟩, ⟨0, 0, .rw, 0, .por, .free⟩]⟩,
  -- TIME_GRID_LO (R89): NS
   ⟨0x100, 1, 0, [⟨31, 0, .ro, 0, .por, .free⟩]⟩,
  -- TIME_GRID_HI (R89): NS
   ⟨0x104, 1, 0, [⟨31, 0, .ro, 0, .por, .free⟩]⟩,
  -- TIME_MONO_LO (R89): NS
   ⟨0x108, 1, 0, [⟨31, 0, .ro, 0, .por, .free⟩]⟩,
  -- TIME_MONO_HI (R89): NS
   ⟨0x10c, 1, 0, [⟨31, 0, .ro, 0, .por, .free⟩]⟩,
  -- TIME_AUX_LO (R89): NS
   ⟨0x110, 1, 0, [⟨31, 0, .ro, 0, .por, .free⟩]⟩,
  -- TIME_AUX_HI (R89): NS
   ⟨0x114, 1, 0, [⟨31, 0, .ro, 0, .por, .free⟩]⟩,
  -- TIME_TEST_LO (R89): NS
   ⟨0x118, 1, 0, [⟨31, 0, .ro, 0, .por, .free⟩]⟩,
  -- TIME_TEST_HI (R89): NS
   ⟨0x11c, 1, 0, [⟨31, 0, .ro, 0, .por, .free⟩]⟩,
  -- TIME_OFFSET (R89): NS
   ⟨0x120, 1, 0, [⟨31, 0, .ro, 0, .draft, .free⟩]⟩,
  -- TIME_PATH_DELAY (R89): NS
   ⟨0x124, 1, 0, [⟨31, 0, .ro, 0, .draft, .free⟩]⟩,
  -- TIME_AUX_DIFF (R89): NS
   ⟨0x128, 1, 0, [⟨31, 0, .ro, 0, .draft, .free⟩]⟩,
  -- TIME_ERROR_BOUND (R89): NS
   ⟨0x12c, 1, 0, [⟨31, 0, .ro, 0xffffffff, .draft, .free⟩]⟩,
  -- TIME_FREQ (R89): VALUE
   ⟨0x130, 1, 0, [⟨31, 0, .ro, 0, .por, .free⟩]⟩,
  -- TIME_AGING (R89): VALUE
   ⟨0x134, 1, 0, [⟨31, 0, .ro, 0, .por, .free⟩]⟩,
  -- TIME_SOURCE_PRIO (R89): RANK
   ⟨0x140, 1, 0, [⟨15, 0, .rwl, 0, .fromDraft, .m3to10⟩]⟩,
  -- TIME_SOURCE_QUAL (R89): QUALIFIED
   ⟨0x144, 1, 0, [⟨11, 1, .ro, 0, .draft, .free⟩]⟩,
  -- TIME_PTP_CFG (R89): MAX_CLASS PORTS SLAVE_ONLY BOUNDARY PROFILE DOMAIN
   ⟨0x150, 1, 0, [⟨31, 24, .rwl, 0, .fromDraft, .m3to10⟩, ⟨23, 16, .rwl, 0, .fromDraft, .m3to10⟩, ⟨10, 10, .rwl, 0, .fromDraft, .m3to10⟩, ⟨9, 9, .rwl, 0, .fromDraft, .m3to10⟩, ⟨8, 8, .rwl, 0, .fromDraft, .m3to10⟩, ⟨7, 0, .rwl, 0, .fromDraft, .m3to10⟩]⟩,
  -- TIME_PTP_PORT_STATE (R89): STATE
   ⟨0x154, 1, 0, [⟨31, 0, .ro, 0, .draft, .free⟩]⟩,
  -- TIME_GM_ID_LO (R89): ID
   ⟨0x158, 1, 0, [⟨31, 0, .ro, 0, .draft, .free⟩]⟩,
  -- TIME_GM_ID_HI (R89): ID
   ⟨0x15c, 1, 0, [⟨31, 0, .ro, 0, .draft, .free⟩]⟩,
  -- TIME_GM_QUALITY (R89): STEPS ACCURACY CLASS
   ⟨0x160, 1, 0, [⟨31, 16, .ro, 0, .draft, .free⟩, ⟨15, 8, .ro, 0, .draft, .free⟩, ⟨7, 0, .ro, 0, .draft, .free⟩]⟩,
  -- TIME_PATH_CFG (R89): OFFSET_TOL THRESH
   ⟨0x170, 1, 0, [⟨31, 16, .rw, 0x32, .draft, .free⟩, ⟨15, 0, .rw, 0xc8, .draft, .free⟩]⟩,
  -- TIME_PATH_STEP (R89): NS
   ⟨0x174, 1, 0, [⟨31, 0, .ro, 0, .draft, .free⟩]⟩,
  -- TIME_PATH_OFFSET (R89): NS
   ⟨0x178, 1, 0, [⟨31, 0, .ro, 0, .draft, .free⟩]⟩,
  -- TIME_ASYM_COMP (R89): NS
   ⟨0x17c, 1, 0, [⟨31, 0, .ro, 0, .draft, .free⟩]⟩,
  -- TIME_SERVO_CFG (R89): CROSS_TOL SLEW_MAX
   ⟨0x180, 1, 0, [⟨31, 16, .rw, 0x3e8, .draft, .free⟩, ⟨15, 0, .rw, 0x3e8, .draft, .free⟩]⟩]

/-- The TIME registers (block 3), part 1. -/
def time1 : List RegRow :=
  -- TIME_INPUT_CFG (R89): IRIG_1344_REQ IRIG_EN TOD_BAUD TOD_EN PPS_EN
  [⟨0x184, 1, 0, [⟨6, 6, .rw, 0, .fromDraft, .free⟩, ⟨5, 5, .rw, 0, .fromDraft, .free⟩, ⟨4, 2, .rw, 0, .fromDraft, .free⟩, ⟨1, 1, .rw, 0, .fromDraft, .free⟩, ⟨0, 0, .rw, 0, .fromDraft, .free⟩]⟩,
  -- TIME_PPS_I_COMP (R89): NS
   ⟨0x188, 1, 0, [⟨31, 0, .rw, 0, .fromDraft, .free⟩]⟩,
  -- TIME_IRIG_COMP (R89): NS
   ⟨0x18c, 1, 0, [⟨31, 0, .rw, 0, .fromDraft, .free⟩]⟩,
  -- TIME_UTC (R89): SOURCE OCCURRED DIRECTION PENDING VALID TAI_UTC
   ⟨0x190, 1, 0, [⟨21, 20, .ro, 0, .draft, .free⟩, ⟨19, 19, .ro, 0, .draft, .free⟩, ⟨18, 18, .ro, 0, .draft, .free⟩, ⟨17, 17, .ro, 0, .draft, .free⟩, ⟨16, 16, .ro, 0, .fromDraft, .free⟩, ⟨15, 0, .ro, 0, .fromDraft, .free⟩]⟩,
  -- TIME_QUALITY (R89): SYNC_ERR UNLOCKED STAT_TQ TQ
   ⟨0x194, 1, 0, [⟨10, 10, .ro, 1, .draft, .free⟩, ⟨9, 8, .ro, 3, .draft, .free⟩, ⟨6, 4, .ro, 7, .draft, .free⟩, ⟨3, 0, .ro, 0xf, .draft, .free⟩]⟩,
  -- TIME_QUALITY_CFG (R89): SYNC_LOSS
   ⟨0x198, 1, 0, [⟨31, 0, .rw, 0x3e8, .draft, .free⟩]⟩,
  -- TIME_PPS_O_CFG (R89): GATE WIDTH
   ⟨0x19c, 1, 0, [⟨30, 30, .rw, 1, .draft, .free⟩, ⟨29, 0, .rw, 0x5f5e100, .draft, .free⟩]⟩,
  -- TIME_PULSEn_START_LO (R89): NS
   ⟨0x1a0, 4, 0x10, [⟨31, 0, .rw, 0, .draft, .free⟩]⟩,
  -- TIME_PULSEn_START_HI (R89): NS
   ⟨0x1a4, 4, 0x10, [⟨31, 0, .rw, 0, .draft, .free⟩]⟩,
  -- TIME_PULSEn_PERIOD (R89): NS
   ⟨0x1a8, 4, 0x10, [⟨31, 0, .rw, 0, .draft, .free⟩]⟩,
  -- TIME_PULSEn_CTRL (R89): ARMED BASE
   ⟨0x1ac, 4, 0x10, [⟨31, 31, .ro, 0, .draft, .free⟩, ⟨30, 30, .rw, 0, .draft, .free⟩]⟩,
  -- TIME_TEST_RATE (R89): PPB
   ⟨0x1e0, 1, 0, [⟨31, 0, .rw, 0, .draft, .free⟩]⟩,
  -- TIME_PATH_DISCARDS (R89): COUNT
   ⟨0x1e4, 1, 0, [⟨31, 0, .ro, 0, .draft, .free⟩]⟩,
  -- TIME_PULSE_SKIPPED (R89): COUNT
   ⟨0x1e8, 1, 0, [⟨31, 0, .ro, 0, .draft, .free⟩]⟩,
  -- TIME_SOURCE_CHANGES (R89): COUNT
   ⟨0x1ec, 1, 0, [⟨31, 0, .ro, 0, .draft, .free⟩]⟩,
  -- TIME_HOLDOVER_SECONDS (R89): COUNT
   ⟨0x1f0, 1, 0, [⟨31, 0, .ro, 0, .draft, .free⟩]⟩,
  -- TIME_PULSEn_WIDTH (R89): NS
   ⟨0x200, 4, 0x4, [⟨31, 0, .rw, 0, .draft, .free⟩]⟩]

/-- The TIME registers (block 3). -/
def time : List RegRow := time0 ++ time1

/-- The HEDDLE registers (block 4). -/
def heddle : List RegRow :=
  -- HEDDLE_CTRL (R140): UNKNOWN_TO_HOST AUTO_CFG_REQ HEADER_TO_HOST
  [⟨0x4, 1, 0, [⟨2, 2, .rw, 0, .fromDraft, .free⟩, ⟨1, 1, .rw, 0, .fromDraft, .free⟩, ⟨0, 0, .rw, 0, .fromDraft, .free⟩]⟩,
  -- HEDDLE_STATUS (R140): HELD RUNNING
   ⟨0x8, 1, 0, [⟨31, 16, .ro, 0, .draft, .free⟩, ⟨15, 0, .ro, 0, .draft, .free⟩]⟩,
  -- HEDDLE_IRQ_STATUS (R140): GOOSE_TAL KEY_EXPIRING AUTH_FAIL CFG_CHANGE UNKNOWN_STREAM STREAM_UP STREAM_DOWN
   ⟨0x10, 1, 0, [⟨6, 6, .w1c, 0, .por, .free⟩, ⟨5, 5, .w1c, 0, .por, .free⟩, ⟨4, 4, .w1c, 0, .por, .free⟩, ⟨3, 3, .w1c, 0, .por, .free⟩, ⟨2, 2, .w1c, 0, .por, .free⟩, ⟨1, 1, .w1c, 0, .por, .free⟩, ⟨0, 0, .w1c, 0, .por, .free⟩]⟩,
  -- HEDDLE_IRQ_ENABLE (R140): GOOSE_TAL KEY_EXPIRING AUTH_FAIL CFG_CHANGE UNKNOWN_STREAM STREAM_UP STREAM_DOWN
   ⟨0x14, 1, 0, [⟨6, 6, .rw, 0, .por, .free⟩, ⟨5, 5, .rw, 0, .por, .free⟩, ⟨4, 4, .rw, 0, .por, .free⟩, ⟨3, 3, .rw, 0, .por, .free⟩, ⟨2, 2, .rw, 0, .por, .free⟩, ⟨1, 1, .rw, 0, .por, .free⟩, ⟨0, 0, .rw, 0, .por, .free⟩]⟩,
  -- HEDDLE_QUEUES (R140): INJECT_QUEUE CFG_QUEUE
   ⟨0x100, 1, 0, [⟨12, 8, .rwl, 0, .fromDraft, .m3to10⟩, ⟨4, 0, .rwl, 0, .fromDraft, .m3to10⟩]⟩,
  -- HEDDLE_SILENCE_MIN (R140): MS
   ⟨0x104, 1, 0, [⟨15, 0, .rw, 0x64, .draft, .free⟩]⟩,
  -- HEDDLE_KEY_STAGEn (R140): VALUE
   ⟨0x200, 12, 0x4, [⟨31, 0, .wo, 0, .por, .free⟩]⟩,
  -- HEDDLE_FRAMES_OK (R141): COUNT
   ⟨0x300, 1, 0, [⟨31, 0, .ro, 0, .draft, .free⟩]⟩,
  -- HEDDLE_CRC_ERR (R141): COUNT
   ⟨0x304, 1, 0, [⟨31, 0, .ro, 0, .draft, .free⟩]⟩,
  -- HEDDLE_UNKNOWN_STREAM (R141): COUNT
   ⟨0x308, 1, 0, [⟨31, 0, .ro, 0, .draft, .free⟩]⟩,
  -- HEDDLE_VERSION_ERR (R141): COUNT
   ⟨0x30c, 1, 0, [⟨31, 0, .ro, 0, .draft, .free⟩]⟩,
  -- HEDDLE_LAYOUT_ERR (R141): COUNT
   ⟨0x310, 1, 0, [⟨31, 0, .ro, 0, .draft, .free⟩]⟩,
  -- HEDDLE_TYPE_DROP (R141): COUNT
   ⟨0x314, 1, 0, [⟨31, 0, .ro, 0, .draft, .free⟩]⟩,
  -- HEDDLE_DUPLICATE (R141): COUNT
   ⟨0x318, 1, 0, [⟨31, 0, .ro, 0, .draft, .free⟩]⟩,
  -- HEDDLE_STALE (R141): COUNT
   ⟨0x31c, 1, 0, [⟨31, 0, .ro, 0, .draft, .free⟩]⟩,
  -- HEDDLE_AUTH_FAIL (R141): COUNT
   ⟨0x320, 1, 0, [⟨31, 0, .ro, 0, .draft, .free⟩]⟩,
  -- HEDDLE_ENCRYPTED_DROP (R141): COUNT
   ⟨0x324, 1, 0, [⟨31, 0, .ro, 0, .draft, .free⟩]⟩,
  -- HEDDLE_SIM_DROP (R141): COUNT
   ⟨0x328, 1, 0, [⟨31, 0, .ro, 0, .draft, .free⟩]⟩,
  -- HEDDLE_SNAP_MISS (R141): COUNT
   ⟨0x32c, 1, 0, [⟨31, 0, .ro, 0, .draft, .free⟩]⟩,
  -- HEDDLE_INJECT_BAD (R141): COUNT
   ⟨0x330, 1, 0, [⟨31, 0, .ro, 0, .draft, .free⟩]⟩,
  -- HEDDLE_CFG_QFULL (R141): COUNT
   ⟨0x334, 1, 0, [⟨31, 0, .ro, 0, .draft, .free⟩]⟩,
  -- HEDDLE_GOOSE_OK (R141): COUNT
   ⟨0x338, 1, 0, [⟨31, 0, .ro, 0, .draft, .free⟩]⟩,
  -- HEDDLE_GOOSE_OOO (R141): COUNT
   ⟨0x33c, 1, 0, [⟨31, 0, .ro, 0, .draft, .free⟩]⟩,
  -- HEDDLE_GOOSE_TAL_EXPIRED (R141): COUNT
   ⟨0x340, 1, 0, [⟨31, 0, .ro, 0, .draft, .free⟩]⟩,
  -- HEDDLE_REPLAY (R141): COUNT
   ⟨0x344, 1, 0, [⟨31, 0, .ro, 0, .draft, .free⟩]⟩]

/-- The REED registers (block 5). -/
def reed : List RegRow :=
  -- REED_CTRL (R173): DEROTATE
  [⟨0x4, 1, 0, [⟨0, 0, .rwl, 1, .draft, .m3to8and10⟩]⟩,
  -- REED_STATUS (R173): WAVE_LIMIT BACKPRESSURE
   ⟨0x8, 1, 0, [⟨1, 1, .ro, 0, .draft, .free⟩, ⟨0, 0, .ro, 0, .draft, .free⟩]⟩,
  -- REED_IRQ_STATUS (R173): LATE_INPUT EST_RANGE CLIPPED DF_MISSING PASS_MISS CHECK_FAIL BACKPRESSURE
   ⟨0x10, 1, 0, [⟨6, 6, .w1c, 0, .por, .free⟩, ⟨5, 5, .w1c, 0, .por, .free⟩, ⟨4, 4, .w1c, 0, .por, .free⟩, ⟨3, 3, .w1c, 0, .por, .free⟩, ⟨2, 2, .w1c, 0, .por, .free⟩, ⟨1, 1, .w1c, 0, .por, .free⟩, ⟨0, 0, .w1c, 0, .por, .free⟩]⟩,
  -- REED_IRQ_ENABLE (R173): LATE_INPUT EST_RANGE CLIPPED DF_MISSING PASS_MISS CHECK_FAIL BACKPRESSURE
   ⟨0x14, 1, 0, [⟨6, 6, .rw, 0, .por, .free⟩, ⟨5, 5, .rw, 0, .por, .free⟩, ⟨4, 4, .rw, 0, .por, .free⟩, ⟨3, 3, .rw, 0, .por, .free⟩, ⟨2, 2, .rw, 0, .por, .free⟩, ⟨1, 1, .rw, 0, .por, .free⟩, ⟨0, 0, .rw, 0, .por, .free⟩]⟩,
  -- REED_PASS_TOL (R173): NS
   ⟨0x100, 1, 0, [⟨16, 0, .rw, 0x3e8, .draft, .free⟩]⟩,
  -- REED_DF_MAX (R173): MHZ
   ⟨0x104, 1, 0, [⟨13, 0, .rw, 0x1388, .draft, .free⟩]⟩,
  -- REED_DF_HOLD (R173): MS
   ⟨0x108, 1, 0, [⟨15, 0, .rw, 0x3e8, .draft, .free⟩]⟩,
  -- REED_PREDICT_SETn (R173): SETS
   ⟨0x110, 8, 0x4, [⟨31, 0, .rwl, 0, .fromDraft, .m3to8and10⟩]⟩,
  -- REED_LOAD_IN (R173): ITEMS
   ⟨0x140, 1, 0, [⟨31, 0, .ro, 0, .draft, .free⟩]⟩,
  -- REED_LOAD_OUT (R173): ITEMS
   ⟨0x144, 1, 0, [⟨31, 0, .ro, 0, .draft, .free⟩]⟩,
  -- REED_LOAD_BAND (R173): ITEMS
   ⟨0x148, 1, 0, [⟨31, 0, .ro, 0, .draft, .free⟩]⟩,
  -- REED_LOAD_WAVE (R173): ITEMS
   ⟨0x14c, 1, 0, [⟨31, 0, .ro, 0, .draft, .free⟩]⟩,
  -- REED_EST_COUNT (R173): GROUPS WIDS
   ⟨0x150, 1, 0, [⟨27, 16, .ro, 0, .draft, .free⟩, ⟨12, 0, .ro, 0, .draft, .free⟩]⟩,
  -- REED_DET_COUNT (R173): VALUE
   ⟨0x154, 1, 0, [⟨15, 0, .ro, 0, .draft, .free⟩]⟩,
  -- REED_BANKS (R173): VALUE
   ⟨0x158, 1, 0, [⟨15, 0, .ro, 0, .draft, .free⟩]⟩,
  -- REED_IN_ITEMS (R174): COUNT
   ⟨0x300, 1, 0, [⟨31, 0, .ro, 0, .draft, .free⟩]⟩,
  -- REED_OUT_ITEMS (R174): COUNT
   ⟨0x304, 1, 0, [⟨31, 0, .ro, 0, .draft, .free⟩]⟩,
  -- REED_CHECK_RETRY (R174): COUNT
   ⟨0x308, 1, 0, [⟨31, 0, .ro, 0, .draft, .free⟩]⟩,
  -- REED_CHECK_FAIL (R174): COUNT
   ⟨0x30c, 1, 0, [⟨31, 0, .ro, 0, .draft, .free⟩]⟩,
  -- REED_CLIPPED (R174): COUNT
   ⟨0x310, 1, 0, [⟨31, 0, .ro, 0, .draft, .free⟩]⟩,
  -- REED_PASS_MISS (R174): COUNT
   ⟨0x314, 1, 0, [⟨31, 0, .ro, 0, .draft, .free⟩]⟩,
  -- REED_GAP_FALLBACK (R174): COUNT
   ⟨0x318, 1, 0, [⟨31, 0, .ro, 0, .draft, .free⟩]⟩,
  -- REED_LATE_INPUT (R174): COUNT
   ⟨0x31c, 1, 0, [⟨31, 0, .ro, 0, .draft, .free⟩]⟩,
  -- REED_DF_MISSING (R174): COUNT
   ⟨0x320, 1, 0, [⟨31, 0, .ro, 0, .draft, .free⟩]⟩,
  -- REED_DF_CLAMPED (R174): COUNT
   ⟨0x324, 1, 0, [⟨31, 0, .ro, 0, .draft, .free⟩]⟩,
  -- REED_EST_RANGE (R174): COUNT
   ⟨0x328, 1, 0, [⟨31, 0, .ro, 0, .draft, .free⟩]⟩,
  -- REED_EST_FILL (R174): COUNT
   ⟨0x32c, 1, 0, [⟨31, 0, .ro, 0, .draft, .free⟩]⟩,
  -- REED_BACKPRESSURE_US (R174): COUNT
   ⟨0x330, 1, 0, [⟨31, 0, .ro, 0, .draft, .free⟩]⟩]

/-- The LOOM registers (block 6), part 0. -/
def loom0 : List RegRow :=
  -- LOOM_CTRL (R203): LATE_COPY HIST_FREEZE
  [⟨0x4, 1, 0, [⟨1, 1, .rw, 0, .fromDraft, .free⟩, ⟨0, 0, .rw, 0, .draft, .free⟩]⟩,
  -- LOOM_STATUS (R203): CAUSE OVERLOAD RUNNING
   ⟨0x8, 1, 0, [⟨10, 8, .ro, 0, .draft, .free⟩, ⟨4, 4, .ro, 0, .draft, .free⟩, ⟨3, 0, .ro, 0, .draft, .free⟩]⟩,
  -- LOOM_IRQ_STATUS (R203): HIST_SPARSE AHEAD_DROP LATE_QFULL CHECK_FAIL SLOT_GAP FORCED_CLOSE OVERLOAD_CLEAR OVERLOAD_SET
   ⟨0x10, 1, 0, [⟨7, 7, .w1c, 0, .por, .free⟩, ⟨6, 6, .w1c, 0, .por, .free⟩, ⟨5, 5, .w1c, 0, .por, .free⟩, ⟨4, 4, .w1c, 0, .por, .free⟩, ⟨3, 3, .w1c, 0, .por, .free⟩, ⟨2, 2, .w1c, 0, .por, .free⟩, ⟨1, 1, .w1c, 0, .por, .free⟩, ⟨0, 0, .w1c, 0, .por, .free⟩]⟩,
  -- LOOM_IRQ_ENABLE (R203): HIST_SPARSE AHEAD_DROP LATE_QFULL CHECK_FAIL SLOT_GAP FORCED_CLOSE OVERLOAD_CLEAR OVERLOAD_SET
   ⟨0x14, 1, 0, [⟨7, 7, .rw, 0, .por, .free⟩, ⟨6, 6, .rw, 0, .por, .free⟩, ⟨5, 5, .rw, 0, .por, .free⟩, ⟨4, 4, .rw, 0, .por, .free⟩, ⟨3, 3, .rw, 0, .por, .free⟩, ⟨2, 2, .rw, 0, .por, .free⟩, ⟨1, 1, .rw, 0, .por, .free⟩, ⟨0, 0, .rw, 0, .por, .free⟩]⟩,
  -- LOOM_QUEUES (R203): LATE_QUEUE
   ⟨0x100, 1, 0, [⟨4, 0, .rwl, 0, .fromDraft, .m3to10⟩]⟩,
  -- LOOM_HIST_CFG (R203): MIN_SAMPLES CEIL
   ⟨0x104, 1, 0, [⟨31, 16, .rw, 0x40, .draft, .free⟩, ⟨3, 0, .rw, 0xc, .draft, .free⟩]⟩,
  -- LOOM_QUANTn (R203): Q
   ⟨0x108, 4, 0x4, [⟨15, 0, .rw, 0, .fromDraft, .free⟩]⟩,
  -- LOOM_OVERLOAD_CFG (R203): BACKLOG EXIT_S BP_MS
   ⟨0x120, 1, 0, [⟨31, 24, .rw, 4, .draft, .free⟩, ⟨23, 16, .rw, 0xa, .draft, .free⟩, ⟨15, 0, .rw, 0xc8, .draft, .free⟩]⟩,
  -- LOOM_OVERLOAD_LATE (R203): PPM
   ⟨0x124, 1, 0, [⟨31, 0, .rw, 0x2710, .draft, .free⟩]⟩,
  -- LOOM_READ_QUALITY (R203): STATE QUALITY
   ⟨0x128, 1, 0, [⟨18, 16, .ro, 0, .por, .free⟩, ⟨15, 0, .ro, 0, .por, .free⟩]⟩,
  -- LOOM_Ln_CFG (R203): RATE OPEN DEPTH
   ⟨0x200, 4, 0x40, [⟨31, 22, .ro, 0, .fromDraft, .free⟩, ⟨21, 13, .ro, 0, .fromDraft, .free⟩, ⟨12, 0, .ro, 0, .fromDraft, .free⟩]⟩,
  -- LOOM_Ln_CAPACITY (R203): THREADS
   ⟨0x204, 4, 0x40, [⟨17, 0, .ro, 0, .fromDraft, .free⟩]⟩,
  -- LOOM_Ln_CLOSED_LO (R203): TAG
   ⟨0x208, 4, 0x40, [⟨31, 0, .ro, 0, .draft, .free⟩]⟩,
  -- LOOM_Ln_CLOSED_HI (R203): TAG
   ⟨0x20c, 4, 0x40, [⟨31, 0, .ro, 0, .draft, .free⟩]⟩,
  -- LOOM_Ln_RELEASED_LO (R203): TAG
   ⟨0x210, 4, 0x40, [⟨31, 0, .ro, 0, .draft, .free⟩]⟩,
  -- LOOM_Ln_RELEASED_HI (R203): TAG
   ⟨0x214, 4, 0x40, [⟨31, 0, .ro, 0, .draft, .free⟩]⟩,
  -- LOOM_Ln_CLOSE_LAG (R203): US
   ⟨0x218, 4, 0x40, [⟨31, 0, .ro, 0, .draft, .free⟩]⟩,
  -- LOOM_Ln_OPEN (R203): BACKLOG OPEN_NOW
   ⟨0x21c, 4, 0x40, [⟨23, 16, .ro, 0, .draft, .free⟩, ⟨8, 0, .ro, 0, .draft, .free⟩]⟩,
  -- LOOM_Ln_FORCED (R203): COUNT
   ⟨0x220, 4, 0x40, [⟨31, 0, .ro, 0, .draft, .free⟩]⟩,
  -- LOOM_Ln_LATE (R203): COUNT
   ⟨0x224, 4, 0x40, [⟨31, 0, .ro, 0, .draft, .free⟩]⟩,
  -- LOOM_Ln_GAP_SLOTS (R203): COUNT
   ⟨0x228, 4, 0x40, [⟨31, 0, .ro, 0, .draft, .free⟩]⟩,
  -- LOOM_WRITES (R204): COUNT
   ⟨0x300, 1, 0, [⟨31, 0, .ro, 0, .draft, .free⟩]⟩,
  -- LOOM_CHECK_RETRY (R204): COUNT
   ⟨0x304, 1, 0, [⟨31, 0, .ro, 0, .draft, .free⟩]⟩,
  -- LOOM_CHECK_FAIL (R204): COUNT
   ⟨0x308, 1, 0, [⟨31, 0, .ro, 0, .draft, .free⟩]⟩,
  -- LOOM_TAG_ERR (R204): COUNT
   ⟨0x30c, 1, 0, [⟨31, 0, .ro, 0, .draft, .free⟩]⟩,
  -- LOOM_DUP_WRITE (R204): COUNT
   ⟨0x310, 1, 0, [⟨31, 0, .ro, 0, .draft, .free⟩]⟩,
  -- LOOM_LATE_BEYOND (R204): COUNT
   ⟨0x314, 1, 0, [⟨31, 0, .ro, 0, .draft, .free⟩]⟩,
  -- LOOM_LATE_QFULL (R204): COUNT
   ⟨0x318, 1, 0, [⟨31, 0, .ro, 0, .draft, .free⟩]⟩,
  -- LOOM_SHED_ITEMS (R204): COUNT
   ⟨0x31c, 1, 0, [⟨31, 0, .ro, 0, .draft, .free⟩]⟩,
  -- LOOM_AHEAD_DROP (R204): COUNT
   ⟨0x320, 1, 0, [⟨31, 0, .ro, 0, .draft, .free⟩]⟩]

/-- The LOOM registers (block 6), part 1. -/
def loom1 : List RegRow :=
  -- LOOM_SETn_CFG (R203): GATE SHED PRIORITY REQ_ALL LATTICE POLICY QSEL FILL FILL_MAX
  [⟨0x10000, 256, 0x20, [⟨31, 31, .ro, 0, .fromMode, .free⟩, ⟨30, 30, .ro, 0, .mode, .free⟩, ⟨29, 29, .ro, 0, .fromMode, .free⟩, ⟨28, 28, .ro, 0, .fromMode, .free⟩, ⟨27, 26, .ro, 0, .fromMode, .free⟩, ⟨25, 24, .ro, 0, .fromMode, .free⟩, ⟨23, 22, .rw, 0, .fromMode, .free⟩, ⟨21, 21, .ro, 0, .fromMode, .free⟩, ⟨7, 0, .ro, 0, .fromMode, .free⟩]⟩,
  -- LOOM_SETn_WAIT_MIN (R203): US
   ⟨0x10004, 256, 0x20, [⟨31, 0, .rw, 0, .fromMode, .free⟩]⟩,
  -- LOOM_SETn_WAIT_MAX (R203): US
   ⟨0x10008, 256, 0x20, [⟨31, 0, .rw, 0, .fromMode, .free⟩]⟩,
  -- LOOM_SETn_GUARD (R203): US
   ⟨0x1000c, 256, 0x20, [⟨31, 0, .rw, 0, .fromMode, .free⟩]⟩,
  -- LOOM_SETn_LEARNED (R203): US
   ⟨0x10010, 256, 0x20, [⟨31, 0, .ro, 0xffffffff, .draft, .free⟩]⟩,
  -- LOOM_SETn_LAST_LAG (R203): US
   ⟨0x10014, 256, 0x20, [⟨31, 0, .ro, 0xffffffff, .draft, .free⟩]⟩,
  -- LOOM_SETn_PRESENCE (R203): COUNT
   ⟨0x10018, 256, 0x20, [⟨31, 0, .ro, 0, .draft, .free⟩]⟩,
  -- LOOM_SETn_DEADLINE (R203): COUNT
   ⟨0x1001c, 256, 0x20, [⟨31, 0, .ro, 0, .draft, .free⟩]⟩]

/-- The LOOM registers (block 6). -/
def loom : List RegRow := loom0 ++ loom1

/-- The OSC registers (block 7), part 0. -/
def osc0 : List RegRow :=
  -- OSC_CTRL (R231): SEED_PARTNER SEED_ARCHIVE
  [⟨0x4, 1, 0, [⟨1, 1, .rw, 0, .fromDraft, .free⟩, ⟨0, 0, .rw, 0, .fromDraft, .free⟩]⟩,
  -- OSC_STATUS (R231): CONFIGURED TRACKING
   ⟨0x8, 1, 0, [⟨28, 16, .ro, 0, .mode, .free⟩, ⟨12, 0, .ro, 0, .draft, .free⟩]⟩,
  -- OSC_IRQ_STATUS (R231): CKPT_DONE SHAPE_QFULL CHECK_FAIL STALE MODE_DROPPED MODE_SEEDED
   ⟨0x10, 1, 0, [⟨5, 5, .w1c, 0, .por, .free⟩, ⟨4, 4, .w1c, 0, .por, .free⟩, ⟨3, 3, .w1c, 0, .por, .free⟩, ⟨2, 2, .w1c, 0, .por, .free⟩, ⟨1, 1, .w1c, 0, .por, .free⟩, ⟨0, 0, .w1c, 0, .por, .free⟩]⟩,
  -- OSC_IRQ_ENABLE (R231): CKPT_DONE SHAPE_QFULL CHECK_FAIL STALE MODE_DROPPED MODE_SEEDED
   ⟨0x14, 1, 0, [⟨5, 5, .rw, 0, .por, .free⟩, ⟨4, 4, .rw, 0, .por, .free⟩, ⟨3, 3, .rw, 0, .por, .free⟩, ⟨2, 2, .rw, 0, .por, .free⟩, ⟨1, 1, .rw, 0, .por, .free⟩, ⟨0, 0, .rw, 0, .por, .free⟩]⟩,
  -- OSC_QUEUES (R231): SHAPE_QUEUE
   ⟨0x100, 1, 0, [⟨4, 0, .rwl, 0, .fromDraft, .m3to10⟩]⟩,
  -- OSC_CONF_MIN (R231): CONF
   ⟨0x104, 1, 0, [⟨7, 0, .rw, 0x40, .draft, .free⟩]⟩,
  -- OSC_PICK (R231): DROP_HOPS RATIO
   ⟨0x108, 1, 0, [⟨31, 24, .rw, 4, .draft, .free⟩, ⟨15, 0, .rw, 0x64, .draft, .free⟩]⟩,
  -- OSC_GAP_MAX (R231): MS
   ⟨0x10c, 1, 0, [⟨15, 0, .rw, 0x7d0, .draft, .free⟩]⟩,
  -- OSC_ZETA_INIT (R231): VALUE
   ⟨0x110, 1, 0, [⟨31, 0, .rw, 0, .fromDraft, .free⟩]⟩,
  -- OSC_QN_AMP (R231): VALUE
   ⟨0x114, 1, 0, [⟨31, 0, .rw, 0, .fromDraft, .free⟩]⟩,
  -- OSC_QN_SIGMA (R231): VALUE
   ⟨0x118, 1, 0, [⟨31, 0, .rw, 0, .fromDraft, .free⟩]⟩,
  -- OSC_QN_OMEGA (R231): VALUE
   ⟨0x11c, 1, 0, [⟨31, 0, .rw, 0, .fromDraft, .free⟩]⟩,
  -- OSC_CKPT_AGE (R231): PARTNER_S ARCHIVE_S
   ⟨0x120, 1, 0, [⟨31, 16, .ro, 0xffff, .draft, .free⟩, ⟨15, 0, .ro, 0xffff, .draft, .free⟩]⟩,
  -- OSC_SNAP_STATE (R231): SAMPLES VALID_FRACTION LIVE STATE
   ⟨0x200, 1, 0, [⟨31, 16, .ro, 0, .por, .free⟩, ⟨15, 8, .ro, 0, .por, .free⟩, ⟨7, 4, .ro, 0, .por, .free⟩, ⟨2, 0, .ro, 0, .por, .free⟩]⟩,
  -- OSC_SNAP_NOISE (R231): VALUE
   ⟨0x204, 1, 0, [⟨31, 0, .ro, 0, .por, .free⟩]⟩,
  -- OSC_SNAP_TAG_LO (R231): VALUE
   ⟨0x208, 1, 0, [⟨31, 0, .ro, 0, .por, .free⟩]⟩,
  -- OSC_SNAP_TAG_HI (R231): VALUE
   ⟨0x20c, 1, 0, [⟨31, 0, .ro, 0, .por, .free⟩]⟩,
  -- OSC_SNAP_Mm_FREQ (R231): VALUE
   ⟨0x210, 4, 0x20, [⟨31, 0, .ro, 0, .por, .free⟩]⟩,
  -- OSC_SNAP_Mm_ZETA (R231): VALUE
   ⟨0x214, 4, 0x20, [⟨31, 0, .ro, 0, .por, .free⟩]⟩,
  -- OSC_SNAP_Mm_AMP (R231): VALUE
   ⟨0x218, 4, 0x20, [⟨31, 0, .ro, 0, .por, .free⟩]⟩,
  -- OSC_SNAP_Mm_PHASE (R231): VALUE
   ⟨0x21c, 4, 0x20, [⟨31, 0, .ro, 0, .por, .free⟩]⟩,
  -- OSC_SNAP_Mm_SD_ZETA (R231): VALUE
   ⟨0x220, 4, 0x20, [⟨31, 0, .ro, 0, .por, .free⟩]⟩,
  -- OSC_SNAP_Mm_INFO (R231): QUALITY GENERATION CONF
   ⟨0x224, 4, 0x20, [⟨31, 16, .ro, 0, .por, .free⟩, ⟨15, 8, .ro, 0, .por, .free⟩, ⟨7, 0, .ro, 0, .por, .free⟩]⟩,
  -- OSC_SAMPLES (R232): COUNT
   ⟨0x300, 1, 0, [⟨31, 0, .ro, 0, .draft, .free⟩]⟩,
  -- OSC_ABSENT_SAMPLES (R232): COUNT
   ⟨0x304, 1, 0, [⟨31, 0, .ro, 0, .draft, .free⟩]⟩,
  -- OSC_CHECK_RETRY (R232): COUNT
   ⟨0x308, 1, 0, [⟨31, 0, .ro, 0, .draft, .free⟩]⟩,
  -- OSC_CHECK_FAIL (R232): COUNT
   ⟨0x30c, 1, 0, [⟨31, 0, .ro, 0, .draft, .free⟩]⟩,
  -- OSC_SEEDED (R232): COUNT
   ⟨0x310, 1, 0, [⟨31, 0, .ro, 0, .draft, .free⟩]⟩,
  -- OSC_DROPPED (R232): COUNT
   ⟨0x314, 1, 0, [⟨31, 0, .ro, 0, .draft, .free⟩]⟩,
  -- OSC_MERGED (R232): COUNT
   ⟨0x318, 1, 0, [⟨31, 0, .ro, 0, .draft, .free⟩]⟩]

/-- The OSC registers (block 7), part 1. -/
def osc1 : List RegRow :=
  -- OSC_STALE (R232): COUNT
  [⟨0x31c, 1, 0, [⟨31, 0, .ro, 0, .draft, .free⟩]⟩,
  -- OSC_SHAPE_RECORDS (R232): COUNT
   ⟨0x320, 1, 0, [⟨31, 0, .ro, 0, .draft, .free⟩]⟩,
  -- OSC_SHAPE_QFULL (R232): COUNT
   ⟨0x324, 1, 0, [⟨31, 0, .ro, 0, .draft, .free⟩]⟩,
  -- OSC_SHAPE_SKIPPED (R232): COUNT
   ⟨0x328, 1, 0, [⟨31, 0, .ro, 0, .draft, .free⟩]⟩,
  -- OSC_SPEC_BINn (R231): POWER
   ⟨0x400, 64, 0x4, [⟨31, 0, .ro, 0, .por, .free⟩]⟩]

/-- The OSC registers (block 7). -/
def osc : List RegRow := osc0 ++ osc1

/-- The ISLE registers (block 8). -/
def isle : List RegRow :=
  -- ISLE_CTRL (R249): AUTO_RESYNC
  [⟨0x4, 1, 0, [⟨0, 0, .rw, 0, .fromDraft, .free⟩]⟩,
  -- ISLE_STATUS (R249): SC_POINT SC_PERMIT SC_ACTIVE FORCED ISLANDS HOME_GROUP GROUPS
   ⟨0x8, 1, 0, [⟨23, 20, .ro, 0, .draft, .free⟩, ⟨19, 19, .ro, 0, .draft, .free⟩, ⟨18, 18, .ro, 0, .draft, .free⟩, ⟨17, 17, .ro, 0, .draft, .free⟩, ⟨16, 16, .ro, 0, .draft, .free⟩, ⟨13, 8, .ro, 0, .draft, .free⟩, ⟨6, 0, .ro, 1, .draft, .free⟩]⟩,
  -- ISLE_IRQ_STATUS (R249): CONFIRM_BLOCKED CHECK_FAIL SC_ENDED SC_PERMIT TIE_CHANGE ISLAND_CLEARED ISLAND_DECLARED
   ⟨0x10, 1, 0, [⟨6, 6, .w1c, 0, .por, .free⟩, ⟨5, 5, .w1c, 0, .por, .free⟩, ⟨4, 4, .w1c, 0, .por, .free⟩, ⟨3, 3, .w1c, 0, .por, .free⟩, ⟨2, 2, .w1c, 0, .por, .free⟩, ⟨1, 1, .w1c, 0, .por, .free⟩, ⟨0, 0, .w1c, 0, .por, .free⟩]⟩,
  -- ISLE_IRQ_ENABLE (R249): CONFIRM_BLOCKED CHECK_FAIL SC_ENDED SC_PERMIT TIE_CHANGE ISLAND_CLEARED ISLAND_DECLARED
   ⟨0x14, 1, 0, [⟨6, 6, .rw, 0, .por, .free⟩, ⟨5, 5, .rw, 0, .por, .free⟩, ⟨4, 4, .rw, 0, .por, .free⟩, ⟨3, 3, .rw, 0, .por, .free⟩, ⟨2, 2, .rw, 0, .por, .free⟩, ⟨1, 1, .rw, 0, .por, .free⟩, ⟨0, 0, .rw, 0, .por, .free⟩]⟩,
  -- ISLE_GROUP_MAPn (R249): ENABLED FREQ_VALID GROUP of four areas
   ⟨0x100, 16, 0x4, [⟨31, 31, .ro, 0, .draft, .free⟩, ⟨30, 30, .ro, 0, .draft, .free⟩, ⟨29, 24, .ro, 0, .draft, .free⟩,
     ⟨23, 23, .ro, 0, .draft, .free⟩, ⟨22, 22, .ro, 0, .draft, .free⟩, ⟨21, 16, .ro, 0, .draft, .free⟩,
     ⟨15, 15, .ro, 0, .draft, .free⟩, ⟨14, 14, .ro, 0, .draft, .free⟩, ⟨13, 8, .ro, 0, .draft, .free⟩,
     ⟨7, 7, .ro, 0, .draft, .free⟩, ⟨6, 6, .ro, 0, .draft, .free⟩, ⟨5, 0, .ro, 0, .draft, .free⟩]⟩,
  -- ISLE_TIE_STATEn (R249): FORCED HELD TOPO SPLIT of eight ties
   ⟨0x200, 32, 0x4, [⟨31, 31, .ro, 0, .draft, .free⟩, ⟨30, 30, .ro, 0, .draft, .free⟩, ⟨29, 29, .ro, 0, .draft, .free⟩, ⟨28, 28, .ro, 0, .draft, .free⟩,
     ⟨27, 27, .ro, 0, .draft, .free⟩, ⟨26, 26, .ro, 0, .draft, .free⟩, ⟨25, 25, .ro, 0, .draft, .free⟩, ⟨24, 24, .ro, 0, .draft, .free⟩,
     ⟨23, 23, .ro, 0, .draft, .free⟩, ⟨22, 22, .ro, 0, .draft, .free⟩, ⟨21, 21, .ro, 0, .draft, .free⟩, ⟨20, 20, .ro, 0, .draft, .free⟩,
     ⟨19, 19, .ro, 0, .draft, .free⟩, ⟨18, 18, .ro, 0, .draft, .free⟩, ⟨17, 17, .ro, 0, .draft, .free⟩, ⟨16, 16, .ro, 0, .draft, .free⟩,
     ⟨15, 15, .ro, 0, .draft, .free⟩, ⟨14, 14, .ro, 0, .draft, .free⟩, ⟨13, 13, .ro, 0, .draft, .free⟩, ⟨12, 12, .ro, 0, .draft, .free⟩,
     ⟨11, 11, .ro, 0, .draft, .free⟩, ⟨10, 10, .ro, 0, .draft, .free⟩, ⟨9, 9, .ro, 0, .draft, .free⟩, ⟨8, 8, .ro, 0, .draft, .free⟩,
     ⟨7, 7, .ro, 0, .draft, .free⟩, ⟨6, 6, .ro, 0, .draft, .free⟩, ⟨5, 5, .ro, 0, .draft, .free⟩, ⟨4, 4, .ro, 0, .draft, .free⟩,
     ⟨3, 3, .ro, 0, .draft, .free⟩, ⟨2, 2, .ro, 0, .draft, .free⟩, ⟨1, 1, .ro, 0, .draft, .free⟩, ⟨0, 0, .ro, 0, .draft, .free⟩]⟩,
  -- ISLE_SC_TIMEOUT (R249): S
   ⟨0x300, 1, 0, [⟨15, 0, .rwl, 0, .fromDraft, .m3to10⟩]⟩,
  -- ISLE_SC_SLIP (R249): VALUE
   ⟨0x304, 1, 0, [⟨31, 0, .ro, 0, .draft, .free⟩]⟩,
  -- ISLE_SC_ANGLE (R249): VALUE
   ⟨0x308, 1, 0, [⟨31, 0, .ro, 0, .draft, .free⟩]⟩,
  -- ISLE_SC_DV (R249): VALUE
   ⟨0x30c, 1, 0, [⟨31, 0, .ro, 0, .draft, .free⟩]⟩,
  -- ISLE_SC_STATE (R249): LAST_END H
   ⟨0x310, 1, 0, [⟨19, 16, .ro, 0, .draft, .free⟩, ⟨15, 8, .ro, 0, .draft, .free⟩]⟩,
  -- ISLE_AREA_FREQ (R249): VALUE
   ⟨0x400, 1, 0, [⟨31, 0, .ro, 0, .por, .free⟩]⟩,
  -- ISLE_AREA_ROCOF (R249): VALUE
   ⟨0x404, 1, 0, [⟨31, 0, .ro, 0, .por, .free⟩]⟩,
  -- ISLE_AREA_ANGLE (R249): VALUE
   ⟨0x408, 1, 0, [⟨31, 0, .ro, 0, .por, .free⟩]⟩,
  -- ISLE_AREA_R (R249): VALUE
   ⟨0x40c, 1, 0, [⟨31, 0, .ro, 0, .por, .free⟩]⟩,
  -- ISLE_AREA_QUALITY (R249): ANGLE_Q FREQ_Q
   ⟨0x410, 1, 0, [⟨31, 16, .ro, 0, .por, .free⟩, ⟨15, 0, .ro, 0, .por, .free⟩]⟩,
  -- ISLE_SLOTS (R250): COUNT
   ⟨0x500, 1, 0, [⟨31, 0, .ro, 0, .draft, .free⟩]⟩,
  -- ISLE_CHECK_RETRY (R250): COUNT
   ⟨0x504, 1, 0, [⟨31, 0, .ro, 0, .draft, .free⟩]⟩,
  -- ISLE_CHECK_FAIL (R250): COUNT
   ⟨0x508, 1, 0, [⟨31, 0, .ro, 0, .draft, .free⟩]⟩,
  -- ISLE_HELD_SLOTS (R250): COUNT
   ⟨0x50c, 1, 0, [⟨31, 0, .ro, 0, .draft, .free⟩]⟩,
  -- ISLE_CONFIRM_UNAVAIL (R250): COUNT
   ⟨0x510, 1, 0, [⟨31, 0, .ro, 0, .draft, .free⟩]⟩,
  -- ISLE_DECLARATIONS (R250): COUNT
   ⟨0x514, 1, 0, [⟨31, 0, .ro, 0, .draft, .free⟩]⟩]

/-- The VOTE registers (block 9). -/
def vote : List RegRow :=
  -- VOTE_CTRL (R274): TIME_UNHEALTHY FENCE_HEALTHY
  [⟨0x4, 1, 0, [⟨1, 1, .rw, 0, .fromDraft, .free⟩, ⟨0, 0, .rwl, 0, .fromDraft, .m3to10⟩]⟩,
  -- VOTE_STATUS (R274): HEALTHY ALARM HOLDING LANE_C LANE_B LANE_A
   ⟨0x8, 1, 0, [⟨16, 16, .ro, 0, .por, .free⟩, ⟨15, 8, .ro, 0xff, .por, .free⟩, ⟨6, 6, .ro, 0, .por, .free⟩, ⟨5, 4, .ro, 3, .warm, .free⟩, ⟨3, 2, .ro, 3, .warm, .free⟩, ⟨1, 0, .ro, 3, .warm, .free⟩]⟩,
  -- VOTE_IRQ_STATUS (R274): EVENT_QFULL PIN_MISMATCH CHECK_FAIL FENCED ODD CLEAR RAISE
   ⟨0x10, 1, 0, [⟨6, 6, .w1c, 0, .por, .free⟩, ⟨5, 5, .w1c, 0, .por, .free⟩, ⟨4, 4, .w1c, 0, .por, .free⟩, ⟨3, 3, .w1c, 0, .por, .free⟩, ⟨2, 2, .w1c, 0, .por, .free⟩, ⟨1, 1, .w1c, 0, .por, .free⟩, ⟨0, 0, .w1c, 0, .por, .free⟩]⟩,
  -- VOTE_IRQ_ENABLE (R274): EVENT_QFULL PIN_MISMATCH CHECK_FAIL FENCED ODD CLEAR RAISE
   ⟨0x14, 1, 0, [⟨6, 6, .rw, 0, .por, .free⟩, ⟨5, 5, .rw, 0, .por, .free⟩, ⟨4, 4, .rw, 0, .por, .free⟩, ⟨3, 3, .rw, 0, .por, .free⟩, ⟨2, 2, .rw, 0, .por, .free⟩, ⟨1, 1, .rw, 0, .por, .free⟩, ⟨0, 0, .rw, 0, .por, .free⟩]⟩,
  -- VOTE_QUEUES (R274): TEST_QUEUE EVENT_QUEUE
   ⟨0x100, 1, 0, [⟨12, 8, .rwl, 0, .fromDraft, .m3to10⟩, ⟨4, 0, .rwl, 0, .fromDraft, .m3to10⟩]⟩,
  -- VOTE_PIN_SENSE (R274): HEALTH ALARM
   ⟨0x104, 1, 0, [⟨8, 8, .ro, 0, .por, .free⟩, ⟨7, 0, .ro, 0, .por, .free⟩]⟩,
  -- VOTE_Ln_LAG (R274): NS
   ⟨0x110, 4, 0x8, [⟨31, 0, .ro, 0, .draft, .free⟩]⟩,
  -- VOTE_Ln_LAG_MAX (R274): NS
   ⟨0x114, 4, 0x8, [⟨31, 0, .rw, 0, .draft, .free⟩]⟩,
  -- VOTE_SIG_A (R274): CRC
   ⟨0x140, 1, 0, [⟨31, 0, .ro, 0, .draft, .free⟩]⟩,
  -- VOTE_SIG_B (R274): CRC
   ⟨0x144, 1, 0, [⟨31, 0, .ro, 0, .draft, .free⟩]⟩,
  -- VOTE_SIG_C (R274): CRC
   ⟨0x148, 1, 0, [⟨31, 0, .ro, 0, .draft, .free⟩]⟩,
  -- VOTE_RAISEDn (R274): AP
   ⟨0x200, 32, 0x4, [⟨31, 0, .ro, 0, .draft, .free⟩]⟩,
  -- VOTE_LATCHEDn (R274): AP
   ⟨0x280, 32, 0x4, [⟨31, 0, .ro, 0, .draft, .free⟩]⟩,
  -- VOTE_EVALS (R275): COUNT
   ⟨0x300, 1, 0, [⟨31, 0, .ro, 0, .draft, .free⟩]⟩,
  -- VOTE_RAISES (R275): COUNT
   ⟨0x304, 1, 0, [⟨31, 0, .ro, 0, .draft, .free⟩]⟩,
  -- VOTE_CLEARS (R275): COUNT
   ⟨0x308, 1, 0, [⟨31, 0, .ro, 0, .draft, .free⟩]⟩,
  -- VOTE_ODD (R275): COUNT
   ⟨0x30c, 1, 0, [⟨31, 0, .ro, 0, .draft, .free⟩]⟩,
  -- VOTE_RESYNC_OK (R275): COUNT
   ⟨0x310, 1, 0, [⟨31, 0, .ro, 0, .draft, .free⟩]⟩,
  -- VOTE_RESYNC_FAIL (R275): COUNT
   ⟨0x314, 1, 0, [⟨31, 0, .ro, 0, .draft, .free⟩]⟩,
  -- VOTE_CHECK_RETRY (R275): COUNT
   ⟨0x318, 1, 0, [⟨31, 0, .ro, 0, .draft, .free⟩]⟩,
  -- VOTE_CHECK_FAIL (R275): COUNT
   ⟨0x31c, 1, 0, [⟨31, 0, .ro, 0, .draft, .free⟩]⟩,
  -- VOTE_GOOSE_SENT (R275): COUNT
   ⟨0x320, 1, 0, [⟨31, 0, .ro, 0, .draft, .free⟩]⟩,
  -- VOTE_EVENT_QFULL (R275): COUNT
   ⟨0x324, 1, 0, [⟨31, 0, .ro, 0, .draft, .free⟩]⟩,
  -- VOTE_PIN_MISMATCH (R275): COUNT
   ⟨0x328, 1, 0, [⟨31, 0, .ro, 0, .draft, .free⟩]⟩]

/-- The PAIR registers (block 10). -/
def pair : List RegRow :=
  -- PAIR_CTRL (R472): 
  [⟨0x4, 1, 0, []⟩,
  -- PAIR_STATUS (R310): PARTNER_KIND DRAFT_MISMATCH MODID_CLASH HOLD_ALONE YIELD MIRROR_UP PARTNER_HOLDS PARTNER_LIVE HOLDING MODID CLAIM_MODE PAIR_MODE
   ⟨0x8, 1, 0, [⟨13, 12, .ro, 0, .draft, .free⟩, ⟨11, 11, .ro, 0, .draft, .free⟩, ⟨10, 10, .ro, 0, .draft, .free⟩, ⟨9, 9, .ro, 0, .warm, .free⟩, ⟨8, 8, .ro, 0, .draft, .free⟩, ⟨7, 7, .ro, 0, .por, .free⟩, ⟨6, 6, .ro, 0, .por, .free⟩, ⟨5, 5, .ro, 0, .por, .free⟩, ⟨4, 4, .ro, 0, .por, .free⟩, ⟨3, 3, .ro, 0, .kept, .free⟩, ⟨2, 2, .ro, 0, .kept, .free⟩, ⟨1, 0, .ro, 0, .draft, .free⟩]⟩,
  -- PAIR_IRQ_STATUS (R310): DRAFT_MISMATCH MODID_CLASH STREAM_GAP MIRROR_CHANGE PARTNER_FOUND PARTNER_LOST RELEASED TAKEOVER
   ⟨0x10, 1, 0, [⟨7, 7, .w1c, 0, .por, .free⟩, ⟨6, 6, .w1c, 0, .por, .free⟩, ⟨5, 5, .w1c, 0, .por, .free⟩, ⟨4, 4, .w1c, 0, .por, .free⟩, ⟨3, 3, .w1c, 0, .por, .free⟩, ⟨2, 2, .w1c, 0, .por, .free⟩, ⟨1, 1, .w1c, 0, .por, .free⟩, ⟨0, 0, .w1c, 0, .por, .free⟩]⟩,
  -- PAIR_IRQ_ENABLE (R310): DRAFT_MISMATCH MODID_CLASH STREAM_GAP MIRROR_CHANGE PARTNER_FOUND PARTNER_LOST RELEASED TAKEOVER
   ⟨0x14, 1, 0, [⟨7, 7, .rw, 0, .por, .free⟩, ⟨6, 6, .rw, 0, .por, .free⟩, ⟨5, 5, .rw, 0, .por, .free⟩, ⟨4, 4, .rw, 0, .por, .free⟩, ⟨3, 3, .rw, 0, .por, .free⟩, ⟨2, 2, .rw, 0, .por, .free⟩, ⟨1, 1, .rw, 0, .por, .free⟩, ⟨0, 0, .rw, 0, .por, .free⟩]⟩,
  -- PAIR_CLAIM (R310): BASE
   ⟨0x100, 1, 0, [⟨3, 0, .rw, 0, .fromDraft, .free⟩]⟩,
  -- PAIR_CLAIM_STATE (R310): PENDING PARTNER OWN
   ⟨0x104, 1, 0, [⟨11, 8, .ro, 0, .por, .free⟩, ⟨7, 4, .ro, 0, .por, .free⟩, ⟨3, 0, .ro, 0, .por, .free⟩]⟩,
  -- PAIR_DEGRADE (R310): RAISE_HOLD DEG_TIME DEG_LANE
   ⟨0x108, 1, 0, [⟨31, 16, .rwl, 0x3e8, .draft, .m3to10⟩, ⟨7, 4, .rwl, 2, .draft, .m3to10⟩, ⟨3, 0, .rwl, 4, .draft, .m3to10⟩]⟩,
  -- PAIR_INTENT_LEAD (R310): US
   ⟨0x10c, 1, 0, [⟨9, 0, .rwl, 0x14, .draft, .m3to10⟩]⟩,
  -- PAIR_TAKEOVER_LO (R310): NS
   ⟨0x110, 1, 0, [⟨31, 0, .ro, 0, .por, .free⟩]⟩,
  -- PAIR_TAKEOVER_HI (R310): NS
   ⟨0x114, 1, 0, [⟨31, 0, .ro, 0, .por, .free⟩]⟩,
  -- PAIR_MIRROR_AGE (R310): CKPT_MS ENERGY_MS
   ⟨0x118, 1, 0, [⟨31, 16, .ro, 0xffff, .draft, .free⟩, ⟨15, 0, .ro, 0xffff, .draft, .free⟩]⟩,
  -- PAIR_TAKEOVERS (R311): COUNT
   ⟨0x300, 1, 0, [⟨31, 0, .ro, 0, .draft, .free⟩]⟩,
  -- PAIR_RELEASES (R311): COUNT
   ⟨0x304, 1, 0, [⟨31, 0, .ro, 0, .draft, .free⟩]⟩,
  -- PAIR_STROBE_STALE (R311): COUNT
   ⟨0x308, 1, 0, [⟨31, 0, .ro, 0, .draft, .free⟩]⟩,
  -- PAIR_INTENTS_SENT (R311): COUNT
   ⟨0x30c, 1, 0, [⟨31, 0, .ro, 0, .draft, .free⟩]⟩,
  -- PAIR_INTENTS_RECEIVED (R311): COUNT
   ⟨0x310, 1, 0, [⟨31, 0, .ro, 0, .draft, .free⟩]⟩,
  -- PAIR_MIRROR_SENT (R311): COUNT
   ⟨0x314, 1, 0, [⟨31, 0, .ro, 0, .draft, .free⟩]⟩,
  -- PAIR_MIRROR_RECEIVED (R311): COUNT
   ⟨0x318, 1, 0, [⟨31, 0, .ro, 0, .draft, .free⟩]⟩,
  -- PAIR_STREAM_GAPS (R311): COUNT
   ⟨0x31c, 1, 0, [⟨31, 0, .ro, 0, .draft, .free⟩]⟩,
  -- PAIR_MIRROR_DOWNS (R311): COUNT
   ⟨0x320, 1, 0, [⟨31, 0, .ro, 0, .draft, .free⟩]⟩,
  -- PAIR_OSn_INTENT_LO (R309): TAG
   ⟨0x1000, 64, 0x8, [⟨31, 0, .ro, 0, .draft, .free⟩]⟩,
  -- PAIR_OSn_INTENT_HI (R309): TAG
   ⟨0x1004, 64, 0x8, [⟨31, 0, .ro, 0, .draft, .free⟩]⟩]

/-- The SHUTTLE registers (block 11). -/
def shuttle : List RegRow :=
  -- SHUTTLE_CTRL (R360): HOLD_ALL
  [⟨0x4, 1, 0, [⟨0, 0, .rw, 0, .draft, .free⟩]⟩,
  -- SHUTTLE_STATUS (R360): PUBLISHING
   ⟨0x8, 1, 0, [⟨6, 0, .ro, 0, .draft, .free⟩]⟩,
  -- SHUTTLE_IRQ_STATUS (R360): KEY_MISSING COPY_QFULL LATE SKIPPED
   ⟨0x10, 1, 0, [⟨3, 3, .w1c, 0, .por, .free⟩, ⟨2, 2, .w1c, 0, .por, .free⟩, ⟨1, 1, .w1c, 0, .por, .free⟩, ⟨0, 0, .w1c, 0, .por, .free⟩]⟩,
  -- SHUTTLE_IRQ_ENABLE (R360): KEY_MISSING COPY_QFULL LATE SKIPPED
   ⟨0x14, 1, 0, [⟨3, 3, .rw, 0, .por, .free⟩, ⟨2, 2, .rw, 0, .por, .free⟩, ⟨1, 1, .rw, 0, .por, .free⟩, ⟨0, 0, .rw, 0, .por, .free⟩]⟩,
  -- SHUTTLE_QUEUES (R360): COPY_QUEUE CFG_QUEUE CMD_QUEUE
   ⟨0x100, 1, 0, [⟨20, 16, .rwl, 0, .fromDraft, .m3to10⟩, ⟨12, 8, .rwl, 0, .fromDraft, .m3to10⟩, ⟨4, 0, .rwl, 0, .fromDraft, .m3to10⟩]⟩,
  -- SHUTTLE_CFG_PERIOD (R360): S
   ⟨0x104, 1, 0, [⟨15, 0, .rw, 0x3c, .draft, .free⟩]⟩,
  -- SHUTTLE_CMD_UDP (R360): UDP
   ⟨0x108, 1, 0, [⟨15, 0, .rw, 0x1268, .draft, .free⟩]⟩,
  -- SHUTTLE_FRAMES (R361): COUNT
   ⟨0x300, 1, 0, [⟨31, 0, .ro, 0, .draft, .free⟩]⟩,
  -- SHUTTLE_SATURATED (R361): COUNT
   ⟨0x304, 1, 0, [⟨31, 0, .ro, 0, .draft, .free⟩]⟩,
  -- SHUTTLE_COPY_QFULL (R361): COUNT
   ⟨0x308, 1, 0, [⟨31, 0, .ro, 0, .draft, .free⟩]⟩,
  -- SHUTTLE_KEY_MISSING (R361): COUNT
   ⟨0x30c, 1, 0, [⟨31, 0, .ro, 0, .draft, .free⟩]⟩,
  -- SHUTTLE_OSn_STATE (R360): CFGCNT CFG_CHANGE PUBLISHING ENABLED
   ⟨0x1000, 64, 0x20, [⟨31, 16, .ro, 0, .fromDraft, .free⟩, ⟨2, 2, .ro, 0, .draft, .free⟩, ⟨1, 1, .ro, 0, .draft, .free⟩, ⟨0, 0, .ro, 0, .fromDraft, .free⟩]⟩,
  -- SHUTTLE_OSn_LAST_LO (R360): TAG
   ⟨0x1004, 64, 0x20, [⟨31, 0, .ro, 0, .por, .free⟩]⟩,
  -- SHUTTLE_OSn_LAST_HI (R360): TAG
   ⟨0x1008, 64, 0x20, [⟨31, 0, .ro, 0, .por, .free⟩]⟩,
  -- SHUTTLE_OSn_SENT (R360): COUNT
   ⟨0x100c, 64, 0x20, [⟨31, 0, .ro, 0, .draft, .free⟩]⟩,
  -- SHUTTLE_OSn_SKIPPED (R360): COUNT
   ⟨0x1010, 64, 0x20, [⟨31, 0, .ro, 0, .draft, .free⟩]⟩,
  -- SHUTTLE_OSn_LATE (R360): COUNT
   ⟨0x1014, 64, 0x20, [⟨31, 0, .ro, 0, .draft, .free⟩]⟩,
  -- SHUTTLE_OSn_SLIP_MAX (R360): COUNT
   ⟨0x1018, 64, 0x20, [⟨31, 0, .rw, 0, .draft, .free⟩]⟩]

/-- The QUEUE registers (block 12). -/
def queue : List RegRow :=
  -- QUEUE_CTRL (R472): 
  [⟨0x4, 1, 0, []⟩,
  -- QUEUE_STATUS (R362): RUNNING
   ⟨0x8, 1, 0, [⟨31, 0, .ro, 0, .warm, .free⟩]⟩,
  -- QUEUE_IRQ_STATUS (R362): DMA_ERROR LOST WATERMARK
   ⟨0x10, 1, 0, [⟨2, 2, .w1c, 0, .por, .free⟩, ⟨1, 1, .w1c, 0, .por, .free⟩, ⟨0, 0, .w1c, 0, .por, .free⟩]⟩,
  -- QUEUE_IRQ_ENABLE (R362): DMA_ERROR LOST WATERMARK
   ⟨0x14, 1, 0, [⟨2, 2, .rw, 0, .por, .free⟩, ⟨1, 1, .rw, 0, .por, .free⟩, ⟨0, 0, .rw, 0, .por, .free⟩]⟩,
  -- QUEUE_Qn_CFG (R362): SIZE CLASS DIR ENABLE
   ⟨0x1000, 32, 0x40, [⟨31, 3, .ro, 0, .fromDraft, .free⟩, ⟨2, 2, .ro, 0, .kept, .free⟩, ⟨1, 1, .ro, 0, .fromDraft, .free⟩, ⟨0, 0, .ro, 0, .fromDraft, .free⟩]⟩,
  -- QUEUE_Qn_CTRL (R362): STATE FLUSH
   ⟨0x1004, 32, 0x40, [⟨2, 1, .ro, 0, .warm, .free⟩, ⟨0, 0, .w1s, 0, .warm, .free⟩]⟩,
  -- QUEUE_Qn_HOST_BASE_LO (R362): VALUE
   ⟨0x1008, 32, 0x40, [⟨31, 0, .rw, 0, .warm, .free⟩]⟩,
  -- QUEUE_Qn_HOST_BASE_HI (R362): VALUE
   ⟨0x100c, 32, 0x40, [⟨31, 0, .rw, 0, .warm, .free⟩]⟩,
  -- QUEUE_Qn_HOST_SIZE (R362): VALUE
   ⟨0x1010, 32, 0x40, [⟨31, 0, .rw, 0, .warm, .free⟩]⟩,
  -- QUEUE_Qn_WB_LO (R362): VALUE
   ⟨0x1014, 32, 0x40, [⟨31, 0, .rw, 0, .warm, .free⟩]⟩,
  -- QUEUE_Qn_WB_HI (R362): VALUE
   ⟨0x1018, 32, 0x40, [⟨31, 0, .rw, 0, .warm, .free⟩]⟩,
  -- QUEUE_Qn_DOORBELL (R362): OFFSET
   ⟨0x101c, 32, 0x40, [⟨31, 0, .rw, 0, .warm, .free⟩]⟩,
  -- QUEUE_Qn_DEVICE_PTR (R362): OFFSET
   ⟨0x1020, 32, 0x40, [⟨31, 0, .ro, 0, .warm, .free⟩]⟩,
  -- QUEUE_Qn_LEVEL (R362): BYTES
   ⟨0x1024, 32, 0x40, [⟨31, 0, .ro, 0, .warm, .free⟩]⟩,
  -- QUEUE_Qn_WATERMARK (R362): HIGH LOW
   ⟨0x1028, 32, 0x40, [⟨15, 8, .rw, 0, .fromDraft, .free⟩, ⟨7, 0, .rw, 0, .fromDraft, .free⟩]⟩,
  -- QUEUE_Qn_WM_STATUS (R362): HIGH_CROSSINGS LOW_CROSSINGS LIVE_HIGH LIVE_LOW HIGH_STICKY LOW_STICKY
   ⟨0x102c, 32, 0x40, [⟨31, 24, .ro, 0, .draft, .free⟩, ⟨23, 16, .ro, 0, .draft, .free⟩, ⟨3, 3, .ro, 0, .warm, .free⟩, ⟨2, 2, .ro, 1, .warm, .free⟩, ⟨1, 1, .w1c, 0, .por, .free⟩, ⟨0, 0, .w1c, 0, .por, .free⟩]⟩,
  -- QUEUE_Qn_MODERATION (R362): PACKETS US
   ⟨0x1030, 32, 0x40, [⟨31, 16, .rw, 0, .fromDraft, .free⟩, ⟨15, 0, .rw, 0, .fromDraft, .free⟩]⟩,
  -- QUEUE_Qn_PACKETS (R362): COUNT
   ⟨0x1034, 32, 0x40, [⟨31, 0, .ro, 0, .draft, .free⟩]⟩,
  -- QUEUE_Qn_LOST (R362): COUNT
   ⟨0x1038, 32, 0x40, [⟨31, 0, .ro, 0, .draft, .free⟩]⟩,
  -- QUEUE_Qn_DISCARDED (R362): COUNT
   ⟨0x103c, 32, 0x40, [⟨31, 0, .ro, 0, .draft, .free⟩]⟩]

/-- The SLV registers (block 13). -/
def slv : List RegRow :=
  -- SLV_CTRL (R332): OVER_DELIVER AUTO_RESTART
  [⟨0x4, 1, 0, [⟨1, 1, .rw, 0, .fromDraft, .free⟩, ⟨0, 0, .rw, 0, .fromDraft, .free⟩]⟩,
  -- SLV_STATUS (R332): STATE
   ⟨0x8, 1, 0, [⟨15, 0, .ro, 0, .por, .free⟩]⟩,
  -- SLV_IRQ_STATUS (R332): CHECK_FAIL RX_QFULL AGE_SKEW OVER_BUDGET SLOT_SKIPPED RETRY LINK_DOWN LINK_UP
   ⟨0x10, 1, 0, [⟨7, 7, .w1c, 0, .por, .free⟩, ⟨6, 6, .w1c, 0, .por, .free⟩, ⟨5, 5, .w1c, 0, .por, .free⟩, ⟨4, 4, .w1c, 0, .por, .free⟩, ⟨3, 3, .w1c, 0, .por, .free⟩, ⟨2, 2, .w1c, 0, .por, .free⟩, ⟨1, 1, .w1c, 0, .por, .free⟩, ⟨0, 0, .w1c, 0, .por, .free⟩]⟩,
  -- SLV_IRQ_ENABLE (R332): CHECK_FAIL RX_QFULL AGE_SKEW OVER_BUDGET SLOT_SKIPPED RETRY LINK_DOWN LINK_UP
   ⟨0x14, 1, 0, [⟨7, 7, .rw, 0, .por, .free⟩, ⟨6, 6, .rw, 0, .por, .free⟩, ⟨5, 5, .rw, 0, .por, .free⟩, ⟨4, 4, .rw, 0, .por, .free⟩, ⟨3, 3, .rw, 0, .por, .free⟩, ⟨2, 2, .rw, 0, .por, .free⟩, ⟨1, 1, .rw, 0, .por, .free⟩, ⟨0, 0, .rw, 0, .por, .free⟩]⟩,
  -- SLV_DEVICE (R332): ROOT DEVICE_ID
   ⟨0x100, 1, 0, [⟨16, 16, .ro, 0, .fromDraft, .free⟩, ⟨15, 0, .ro, 0, .fromDraft, .free⟩]⟩,
  -- SLV_QUEUES (R332): RX_QUEUE
   ⟨0x104, 1, 0, [⟨4, 0, .rwl, 0, .fromDraft, .m3to10⟩]⟩,
  -- SLV_FWD_BACKLOG (R332): VALUE
   ⟨0x108, 1, 0, [⟨31, 0, .rwl, 4, .draft, .m3to10⟩]⟩,
  -- SLV_HOP_LIMIT (R332): VALUE
   ⟨0x10c, 1, 0, [⟨31, 0, .rwl, 0, .fromDraft, .m3to10⟩]⟩,
  -- SLV_SKEW_TOL (R332): VALUE
   ⟨0x110, 1, 0, [⟨31, 0, .rw, 0x2710, .draft, .free⟩]⟩,
  -- SLV_Ln_BUDGET (R332): US
   ⟨0x120, 4, 0x4, [⟨31, 0, .rw, 0, .fromDraft, .free⟩]⟩,
  -- SLV_LINKn_STATE (R332): PEER_ID PEER_ROLE ROLE CAUSE
   ⟨0x200, 4, 0x40, [⟨31, 16, .ro, 0, .por, .free⟩, ⟨11, 8, .ro, 0, .por, .free⟩, ⟨7, 4, .ro, 0, .fromDraft, .free⟩, ⟨3, 0, .ro, 0, .por, .free⟩]⟩,
  -- SLV_LINKn_DELAY (R332): MAX NOW
   ⟨0x204, 4, 0x40, [⟨31, 16, .ro, 0, .por, .free⟩, ⟨15, 0, .ro, 0, .por, .free⟩]⟩,
  -- SLV_LINKn_WINDOW (R332): UNACKED CREDIT
   ⟨0x208, 4, 0x40, [⟨22, 16, .ro, 0, .por, .free⟩, ⟨7, 0, .ro, 0, .por, .free⟩]⟩,
  -- SLV_LINKn_TX_CELLS (R333): COUNT
   ⟨0x210, 4, 0x40, [⟨31, 0, .ro, 0, .draft, .free⟩]⟩,
  -- SLV_LINKn_RX_CELLS (R333): COUNT
   ⟨0x214, 4, 0x40, [⟨31, 0, .ro, 0, .draft, .free⟩]⟩,
  -- SLV_LINKn_CRC_ERR (R333): COUNT
   ⟨0x218, 4, 0x40, [⟨31, 0, .ro, 0, .draft, .free⟩]⟩,
  -- SLV_LINKn_NAK_SENT (R333): COUNT
   ⟨0x21c, 4, 0x40, [⟨31, 0, .ro, 0, .draft, .free⟩]⟩,
  -- SLV_LINKn_RETRY (R333): COUNT
   ⟨0x220, 4, 0x40, [⟨31, 0, .ro, 0, .draft, .free⟩]⟩,
  -- SLV_LINKn_DOWNS (R333): COUNT
   ⟨0x224, 4, 0x40, [⟨31, 0, .ro, 0, .draft, .free⟩]⟩,
  -- SLV_SLOTS_FWD (R333): COUNT
   ⟨0x300, 1, 0, [⟨31, 0, .ro, 0, .draft, .free⟩]⟩,
  -- SLV_SLOT_SKIPPED (R333): COUNT
   ⟨0x304, 1, 0, [⟨31, 0, .ro, 0, .draft, .free⟩]⟩,
  -- SLV_DUP_DROP (R333): COUNT
   ⟨0x308, 1, 0, [⟨31, 0, .ro, 0, .draft, .free⟩]⟩,
  -- SLV_HOP_DROP (R333): COUNT
   ⟨0x30c, 1, 0, [⟨31, 0, .ro, 0, .draft, .free⟩]⟩,
  -- SLV_OVER_BUDGET (R333): COUNT
   ⟨0x310, 1, 0, [⟨31, 0, .ro, 0, .draft, .free⟩]⟩,
  -- SLV_AGE_SKEW (R333): COUNT
   ⟨0x314, 1, 0, [⟨31, 0, .ro, 0, .draft, .free⟩]⟩,
  -- SLV_RX_QFULL (R333): COUNT
   ⟨0x318, 1, 0, [⟨31, 0, .ro, 0, .draft, .free⟩]⟩,
  -- SLV_CHECK_FAIL (R333): COUNT
   ⟨0x31c, 1, 0, [⟨31, 0, .ro, 0, .draft, .free⟩]⟩]

/-- The CAPT registers (block 14). -/
def capt : List RegRow :=
  -- CAPT_CTRL (R382): REMOTE_EN
  [⟨0x4, 1, 0, [⟨0, 0, .rw, 0, .fromDraft, .free⟩]⟩,
  -- CAPT_STATUS (R382): BUSY ARMED
   ⟨0x8, 1, 0, [⟨31, 16, .ro, 0, .draft, .free⟩, ⟨15, 0, .ro, 0, .draft, .free⟩]⟩,
  -- CAPT_IRQ_STATUS (R382): REMOTE DATA_LOST OVERRUN FULL MISSED COMPLETE TRIGGERED
   ⟨0x10, 1, 0, [⟨6, 6, .w1c, 0, .por, .free⟩, ⟨5, 5, .w1c, 0, .por, .free⟩, ⟨4, 4, .w1c, 0, .por, .free⟩, ⟨3, 3, .w1c, 0, .por, .free⟩, ⟨2, 2, .w1c, 0, .por, .free⟩, ⟨1, 1, .w1c, 0, .por, .free⟩, ⟨0, 0, .w1c, 0, .por, .free⟩]⟩,
  -- CAPT_IRQ_ENABLE (R382): REMOTE DATA_LOST OVERRUN FULL MISSED COMPLETE TRIGGERED
   ⟨0x14, 1, 0, [⟨6, 6, .rw, 0, .por, .free⟩, ⟨5, 5, .rw, 0, .por, .free⟩, ⟨4, 4, .rw, 0, .por, .free⟩, ⟨3, 3, .rw, 0, .por, .free⟩, ⟨2, 2, .rw, 0, .por, .free⟩, ⟨1, 1, .rw, 0, .por, .free⟩, ⟨0, 0, .rw, 0, .por, .free⟩]⟩,
  -- CAPT_INPUTSn (R382): VALUE
   ⟨0x100, 8, 0x4, [⟨31, 0, .ro, 0, .draft, .free⟩]⟩,
  -- CAPT_MISSED_COUNT (R382): VALUE
   ⟨0x120, 1, 0, [⟨31, 0, .ro, 0, .draft, .free⟩]⟩,
  -- CAPT_RETRIG_COUNT (R382): VALUE
   ⟨0x124, 1, 0, [⟨31, 0, .ro, 0, .draft, .free⟩]⟩,
  -- CAPT_LAST_MISSED_LO (R382): VALUE
   ⟨0x128, 1, 0, [⟨31, 0, .ro, 0, .draft, .free⟩]⟩,
  -- CAPT_LAST_MISSED_HI (R382): VALUE
   ⟨0x12c, 1, 0, [⟨31, 0, .ro, 0, .draft, .free⟩]⟩,
  -- CAPT_TRIGGERS (R383): COUNT
   ⟨0x300, 1, 0, [⟨31, 0, .ro, 0, .draft, .free⟩]⟩,
  -- CAPT_RECORDS (R383): COUNT
   ⟨0x304, 1, 0, [⟨31, 0, .ro, 0, .draft, .free⟩]⟩,
  -- CAPT_OVERWRITTEN (R383): COUNT
   ⟨0x308, 1, 0, [⟨31, 0, .ro, 0, .draft, .free⟩]⟩,
  -- CAPT_OVERRUN_GAPS (R383): COUNT
   ⟨0x30c, 1, 0, [⟨31, 0, .ro, 0, .draft, .free⟩]⟩,
  -- CAPT_LOST_PAGES (R383): COUNT
   ⟨0x310, 1, 0, [⟨31, 0, .ro, 0, .draft, .free⟩]⟩,
  -- CAPT_REMOTE_RX (R383): COUNT
   ⟨0x314, 1, 0, [⟨31, 0, .ro, 0, .draft, .free⟩]⟩,
  -- CAPT_REMOTE_TX (R383): COUNT
   ⟨0x318, 1, 0, [⟨31, 0, .ro, 0, .draft, .free⟩]⟩,
  -- CAPT_Rr_STATE (R382): RECORDS LOCKED STATE
   ⟨0x1000, 16, 0x40, [⟨31, 16, .ro, 0, .draft, .free⟩, ⟨6, 4, .ro, 0, .draft, .free⟩, ⟨2, 0, .ro, 0, .draft, .free⟩]⟩,
  -- CAPT_Rr_BASE_LO (R382): VALUE
   ⟨0x1004, 16, 0x40, [⟨31, 0, .ro, 0, .fromDraft, .free⟩]⟩,
  -- CAPT_Rr_BASE_HI (R382): VALUE
   ⟨0x1008, 16, 0x40, [⟨31, 0, .ro, 0, .fromDraft, .free⟩]⟩,
  -- CAPT_Rr_PAGES (R382): VALUE
   ⟨0x100c, 16, 0x40, [⟨31, 0, .ro, 0, .fromDraft, .free⟩]⟩,
  -- CAPT_Rr_FREE (R382): VALUE
   ⟨0x1010, 16, 0x40, [⟨31, 0, .ro, 0, .fromDraft, .free⟩]⟩,
  -- CAPT_Rr_WORST (R382): VALUE
   ⟨0x1014, 16, 0x40, [⟨31, 0, .ro, 0, .fromDraft, .free⟩]⟩,
  -- CAPT_Rr_SEQ (R382): VALUE
   ⟨0x1018, 16, 0x40, [⟨31, 0, .ro, 0, .draft, .free⟩]⟩,
  -- CAPT_Rr_OLDEST (R382): VALUE
   ⟨0x101c, 16, 0x40, [⟨31, 0, .ro, 0, .draft, .free⟩]⟩,
  -- CAPT_Rr_TRIG_LO (R382): VALUE
   ⟨0x1020, 16, 0x40, [⟨31, 0, .ro, 0, .draft, .free⟩]⟩,
  -- CAPT_Rr_TRIG_HI (R382): VALUE
   ⟨0x1024, 16, 0x40, [⟨31, 0, .ro, 0, .draft, .free⟩]⟩]

/-- The ENERGY registers (block 15). -/
def energy : List RegRow :=
  -- ENERGY_CTRL (R472): 
  [⟨0x4, 1, 0, []⟩,
  -- ENERGY_STATUS (R397): ENABLED SAVE_VALID FROZEN
   ⟨0x8, 1, 0, [⟨15, 4, .ro, 0, .mode, .free⟩, ⟨1, 1, .ro, 0, .draft, .free⟩, ⟨0, 0, .ro, 0, .por, .free⟩]⟩,
  -- ENERGY_IRQ_STATUS (R397): ADOPTED QFULL PULSE_BACKLOG SAVE_FAIL FROZEN INTERVAL
   ⟨0x10, 1, 0, [⟨5, 5, .w1c, 0, .por, .free⟩, ⟨4, 4, .w1c, 0, .por, .free⟩, ⟨3, 3, .w1c, 0, .por, .free⟩, ⟨2, 2, .w1c, 0, .por, .free⟩, ⟨1, 1, .w1c, 0, .por, .free⟩, ⟨0, 0, .w1c, 0, .por, .free⟩]⟩,
  -- ENERGY_IRQ_ENABLE (R397): ADOPTED QFULL PULSE_BACKLOG SAVE_FAIL FROZEN INTERVAL
   ⟨0x14, 1, 0, [⟨5, 5, .rw, 0, .por, .free⟩, ⟨4, 4, .rw, 0, .por, .free⟩, ⟨3, 3, .rw, 0, .por, .free⟩, ⟨2, 2, .rw, 0, .por, .free⟩, ⟨1, 1, .rw, 0, .por, .free⟩, ⟨0, 0, .rw, 0, .por, .free⟩]⟩,
  -- ENERGY_QUEUES (R397): INTERVAL_QUEUE
   ⟨0x100, 1, 0, [⟨4, 0, .rwl, 0, .fromDraft, .m3to10⟩]⟩,
  -- ENERGY_SAVE_LO (R397): NS
   ⟨0x108, 1, 0, [⟨31, 0, .ro, 0, .por, .free⟩]⟩,
  -- ENERGY_SAVE_HI (R397): NS
   ⟨0x10c, 1, 0, [⟨31, 0, .ro, 0, .por, .free⟩]⟩,
  -- ENERGY_FREEZE_LO (R397): NS
   ⟨0x110, 1, 0, [⟨31, 0, .ro, 0, .por, .free⟩]⟩,
  -- ENERGY_FREEZE_HI (R397): NS
   ⟨0x114, 1, 0, [⟨31, 0, .ro, 0, .por, .free⟩]⟩,
  -- ENERGY_PULSEn_CFG (R397): REGISTER ENABLE FP WIDTH
   ⟨0x120, 4, 0x8, [⟨31, 28, .rwl, 0, .fromDraft, .m3to10⟩, ⟨27, 27, .rwl, 0, .fromDraft, .m3to10⟩, ⟨26, 16, .rwl, 0, .fromDraft, .m3to10⟩, ⟨15, 0, .rwl, 0, .fromDraft, .m3to10⟩]⟩,
  -- ENERGY_PULSEn_K (R397): K
   ⟨0x124, 4, 0x8, [⟨31, 0, .rwl, 0, .fromDraft, .m3to10⟩]⟩,
  -- ENERGY_PULSEn_STATE (R397): BACKLOG SENT
   ⟨0x140, 4, 0x4, [⟨31, 16, .ro, 0, .warm, .free⟩, ⟨15, 0, .ro, 0, .draft, .free⟩]⟩,
  -- ENERGY_IVLn (R397): WORD
   ⟨0x200, 16, 0x4, [⟨31, 0, .ro, 0, .por, .free⟩]⟩,
  -- ENERGY_SLOTS (R398): COUNT
   ⟨0x300, 1, 0, [⟨31, 0, .ro, 0, .draft, .free⟩]⟩,
  -- ENERGY_ABSENT_SLOTS (R398): COUNT
   ⟨0x304, 1, 0, [⟨31, 0, .ro, 0, .draft, .free⟩]⟩,
  -- ENERGY_INTERVALS (R398): COUNT
   ⟨0x308, 1, 0, [⟨31, 0, .ro, 0, .draft, .free⟩]⟩,
  -- ENERGY_SAVES (R398): COUNT
   ⟨0x30c, 1, 0, [⟨31, 0, .ro, 0, .draft, .free⟩]⟩,
  -- ENERGY_SAVE_RETRY (R398): COUNT
   ⟨0x310, 1, 0, [⟨31, 0, .ro, 0, .draft, .free⟩]⟩,
  -- ENERGY_QFULL (R398): COUNT
   ⟨0x314, 1, 0, [⟨31, 0, .ro, 0, .draft, .free⟩]⟩,
  -- ENERGY_PULSES_LOST (R398): COUNT
   ⟨0x318, 1, 0, [⟨31, 0, .ro, 0, .draft, .free⟩]⟩]

/-- The LEDGER registers (block 24), part 0. -/
def ledger0 : List RegRow :=
  -- LEDGER_CTRL (R416): COPY_EN
  [⟨0x4, 1, 0, [⟨0, 0, .rw, 0, .fromDraft, .free⟩]⟩,
  -- LEDGER_STATUS (R416): NONCE_VALID AUTH_LOCKED KEY_SET CLEARING LOST_OPEN STAGED
   ⟨0x8, 1, 0, [⟨20, 20, .ro, 0, .por, .free⟩, ⟨19, 19, .ro, 0, .warm, .free⟩, ⟨18, 18, .ro, 0, .kept, .free⟩, ⟨17, 17, .ro, 0, .por, .free⟩, ⟨16, 16, .ro, 0, .por, .free⟩, ⟨12, 0, .ro, 0, .por, .free⟩]⟩,
  -- LEDGER_IRQ_STATUS (R416): FLUSHED OVERWRITE BLOCK_FENCED AUTH_FAIL CLEARED LOST UNACKED_HIGH
   ⟨0x10, 1, 0, [⟨6, 6, .w1c, 0, .por, .free⟩, ⟨5, 5, .w1c, 0, .por, .free⟩, ⟨4, 4, .w1c, 0, .por, .free⟩, ⟨3, 3, .w1c, 0, .por, .free⟩, ⟨2, 2, .w1c, 0, .por, .free⟩, ⟨1, 1, .w1c, 0, .por, .free⟩, ⟨0, 0, .w1c, 0, .por, .free⟩]⟩,
  -- LEDGER_IRQ_ENABLE (R416): FLUSHED OVERWRITE BLOCK_FENCED AUTH_FAIL CLEARED LOST UNACKED_HIGH
   ⟨0x14, 1, 0, [⟨6, 6, .rw, 0, .por, .free⟩, ⟨5, 5, .rw, 0, .por, .free⟩, ⟨4, 4, .rw, 0, .por, .free⟩, ⟨3, 3, .rw, 0, .por, .free⟩, ⟨2, 2, .rw, 0, .por, .free⟩, ⟨1, 1, .rw, 0, .por, .free⟩, ⟨0, 0, .rw, 0, .por, .free⟩]⟩,
  -- LEDGER_NEXT_LO (R416): NUMBER
   ⟨0x100, 1, 0, [⟨31, 0, .ro, 0, .kept, .free⟩]⟩,
  -- LEDGER_NEXT_HI (R416): NUMBER
   ⟨0x104, 1, 0, [⟨31, 0, .ro, 0, .kept, .free⟩]⟩,
  -- LEDGER_WRITTEN_LO (R416): NUMBER
   ⟨0x108, 1, 0, [⟨31, 0, .ro, 0, .kept, .free⟩]⟩,
  -- LEDGER_WRITTEN_HI (R416): NUMBER
   ⟨0x10c, 1, 0, [⟨31, 0, .ro, 0, .kept, .free⟩]⟩,
  -- LEDGER_OLDEST_LO (R416): NUMBER
   ⟨0x110, 1, 0, [⟨31, 0, .ro, 0, .kept, .free⟩]⟩,
  -- LEDGER_OLDEST_HI (R416): NUMBER
   ⟨0x114, 1, 0, [⟨31, 0, .ro, 0, .kept, .free⟩]⟩,
  -- LEDGER_ACKED_LO (R416): NUMBER
   ⟨0x118, 1, 0, [⟨31, 0, .ro, 0, .kept, .free⟩]⟩,
  -- LEDGER_ACKED_HI (R416): NUMBER
   ⟨0x11c, 1, 0, [⟨31, 0, .ro, 0, .kept, .free⟩]⟩,
  -- LEDGER_EPOCH (R416): VALUE
   ⟨0x120, 1, 0, [⟨31, 0, .ro, 0, .kept, .free⟩]⟩,
  -- LEDGER_POWER_CYCLES (R416): VALUE
   ⟨0x124, 1, 0, [⟨31, 0, .ro, 0, .kept, .free⟩]⟩,
  -- LEDGER_OP_SECONDS_LO (R416): VALUE
   ⟨0x128, 1, 0, [⟨31, 0, .ro, 0, .kept, .free⟩]⟩,
  -- LEDGER_OP_SECONDS_HI (R416): VALUE
   ⟨0x12c, 1, 0, [⟨31, 0, .ro, 0, .kept, .free⟩]⟩,
  -- LEDGER_COALESCE_MS (R416): VALUE
   ⟨0x130, 1, 0, [⟨31, 0, .rw, 0x64, .draft, .free⟩]⟩,
  -- LEDGER_UNACKED_TH (R416): VALUE
   ⟨0x134, 1, 0, [⟨31, 0, .rw, 0x927c0, .draft, .free⟩]⟩,
  -- LEDGER_CAPACITY (R416): VALUE
   ⟨0x138, 1, 0, [⟨31, 0, .ro, 0, .none, .free⟩]⟩,
  -- LEDGER_QUEUES (R416): COPY_QUEUE
   ⟨0x13c, 1, 0, [⟨4, 0, .rwl, 0, .fromDraft, .m3to10⟩]⟩,
  -- LEDGER_KEY_STAGEn (R416): VALUE
   ⟨0x200, 8, 0x4, [⟨31, 0, .wo, 0, .por, .free⟩]⟩,
  -- LEDGER_RECn (R416): VALUE
   ⟨0x280, 16, 0x4, [⟨31, 0, .ro, 0, .por, .free⟩]⟩,
  -- LEDGER_RECORDS (R417): COUNT
   ⟨0x300, 1, 0, [⟨31, 0, .ro, 0, .por, .free⟩]⟩,
  -- LEDGER_EVENTS (R417): COUNT
   ⟨0x304, 1, 0, [⟨31, 0, .ro, 0, .por, .free⟩]⟩,
  -- LEDGER_COALESCED (R417): COUNT
   ⟨0x308, 1, 0, [⟨31, 0, .ro, 0, .por, .free⟩]⟩,
  -- LEDGER_LOST_EVENTS (R417): COUNT
   ⟨0x30c, 1, 0, [⟨31, 0, .ro, 0, .por, .free⟩]⟩,
  -- LEDGER_WRITE_RETRY (R417): COUNT
   ⟨0x310, 1, 0, [⟨31, 0, .ro, 0, .por, .free⟩]⟩,
  -- LEDGER_FENCED_BLOCKS (R417): COUNT
   ⟨0x314, 1, 0, [⟨31, 0, .ro, 0, .por, .free⟩]⟩,
  -- LEDGER_OVERWRITTEN (R417): COUNT
   ⟨0x318, 1, 0, [⟨31, 0, .ro, 0, .por, .free⟩]⟩,
  -- LEDGER_COPY_QFULL (R417): COUNT
   ⟨0x31c, 1, 0, [⟨31, 0, .ro, 0, .por, .free⟩]⟩]

/-- The LEDGER registers (block 24), part 1. -/
def ledger1 : List RegRow :=
  -- LEDGER_AUTH_FAIL (R417): COUNT
  [⟨0x320, 1, 0, [⟨31, 0, .ro, 0, .por, .free⟩]⟩]

/-- The LEDGER registers (block 24). -/
def ledger : List RegRow := ledger0 ++ ledger1

/-- The CHECK registers (block 25). -/
def check : List RegRow :=
  -- CHECK_CTRL (R472): 
  [⟨0x4, 1, 0, []⟩,
  -- CHECK_STATUS (R472): 
   ⟨0x8, 1, 0, []⟩,
  -- CHECK_IRQ_STATUS (R423): ERROR MISMATCH DONE
   ⟨0x10, 1, 0, [⟨11, 8, .w1c, 0, .por, .free⟩, ⟨7, 4, .w1c, 0, .por, .free⟩, ⟨3, 0, .w1c, 0, .por, .free⟩]⟩,
  -- CHECK_IRQ_ENABLE (R423): ERROR MISMATCH DONE
   ⟨0x14, 1, 0, [⟨11, 8, .rw, 0, .por, .free⟩, ⟨7, 4, .rw, 0, .por, .free⟩, ⟨3, 0, .rw, 0, .por, .free⟩]⟩,
  -- CHECK_SCANS (R424): COUNT
   ⟨0x300, 1, 0, [⟨31, 0, .ro, 0, .por, .free⟩]⟩,
  -- CHECK_MISMATCH_SCANS (R424): COUNT
   ⟨0x304, 1, 0, [⟨31, 0, .ro, 0, .por, .free⟩]⟩,
  -- CHECK_En_CFG (R423): ALGO BLOCK_LOG2 FOLD MODE SPACE
   ⟨0x1000, 4, 0x40, [⟨25, 24, .ro, 0, .kept, .free⟩, ⟨20, 16, .rw, 6, .por, .free⟩, ⟨5, 4, .rw, 0, .por, .free⟩, ⟨3, 2, .rw, 0, .por, .free⟩, ⟨1, 0, .rw, 0, .por, .free⟩]⟩,
  -- CHECK_En_START_LO (R423): VALUE
   ⟨0x1004, 4, 0x40, [⟨31, 0, .rw, 0, .por, .free⟩]⟩,
  -- CHECK_En_START_HI (R423): VALUE
   ⟨0x1008, 4, 0x40, [⟨31, 0, .rw, 0, .por, .free⟩]⟩,
  -- CHECK_En_LENGTH_LO (R423): VALUE
   ⟨0x100c, 4, 0x40, [⟨31, 0, .rw, 0, .por, .free⟩]⟩,
  -- CHECK_En_LENGTH_HI (R423): VALUE
   ⟨0x1010, 4, 0x40, [⟨31, 0, .rw, 0, .por, .free⟩]⟩,
  -- CHECK_En_TABLE_LO (R423): VALUE
   ⟨0x1014, 4, 0x40, [⟨31, 0, .rw, 0, .por, .free⟩]⟩,
  -- CHECK_En_TABLE_HI (R423): VALUE
   ⟨0x1018, 4, 0x40, [⟨31, 0, .rw, 0, .por, .free⟩]⟩,
  -- CHECK_En_SEQ0_LO (R423): VALUE
   ⟨0x101c, 4, 0x40, [⟨31, 0, .rw, 0, .por, .free⟩]⟩,
  -- CHECK_En_SEQ0_HI (R423): VALUE
   ⟨0x1020, 4, 0x40, [⟨31, 0, .rw, 0, .por, .free⟩]⟩,
  -- CHECK_En_EXPECT_LO (R423): VALUE
   ⟨0x1024, 4, 0x40, [⟨31, 0, .rw, 0, .por, .free⟩]⟩,
  -- CHECK_En_EXPECT_HI (R423): VALUE
   ⟨0x1028, 4, 0x40, [⟨31, 0, .rw, 0, .por, .free⟩]⟩,
  -- CHECK_En_STATE (R423): STATE
   ⟨0x102c, 4, 0x40, [⟨2, 0, .ro, 0, .warm, .free⟩]⟩,
  -- CHECK_En_RESULT_LO (R423): VALUE
   ⟨0x1030, 4, 0x40, [⟨31, 0, .ro, 0, .por, .free⟩]⟩,
  -- CHECK_En_RESULT_HI (R423): VALUE
   ⟨0x1034, 4, 0x40, [⟨31, 0, .ro, 0, .por, .free⟩]⟩,
  -- CHECK_En_MISMATCHES (R423): VALUE
   ⟨0x1038, 4, 0x40, [⟨31, 0, .ro, 0, .por, .free⟩]⟩,
  -- CHECK_En_FIRST_BAD (R423): VALUE
   ⟨0x103c, 4, 0x40, [⟨31, 0, .ro, 0, .por, .free⟩]⟩]

/-- The POWER registers (block 26). -/
def power : List RegRow :=
  -- POWER_CTRL (R447): ARCHIVE_RETAIN
  [⟨0x4, 1, 0, [⟨0, 0, .rw, 1, .por, .free⟩]⟩,
  -- POWER_STATUS (R447): WRITE_PROTECT FLUSH_DONE FLUSHING PFW_LOW SUPPLY_OK
   ⟨0x8, 1, 0, [⟨11, 11, .ro, 0, .por, .free⟩, ⟨10, 10, .ro, 0, .por, .free⟩, ⟨9, 9, .ro, 0, .por, .free⟩, ⟨8, 8, .ro, 0, .por, .free⟩, ⟨6, 0, .ro, 0x7f, .por, .free⟩]⟩,
  -- POWER_IRQ_STATUS (R447): DRAIN_TIMEOUT WOKEN PFW_RECOVERED FLUSH_DONE PFW DROOP
   ⟨0x10, 1, 0, [⟨5, 5, .w1c, 0, .por, .free⟩, ⟨4, 4, .w1c, 0, .por, .free⟩, ⟨3, 3, .w1c, 0, .por, .free⟩, ⟨2, 2, .w1c, 0, .por, .free⟩, ⟨1, 1, .w1c, 0, .por, .free⟩, ⟨0, 0, .w1c, 0, .por, .free⟩]⟩,
  -- POWER_IRQ_ENABLE (R447): DRAIN_TIMEOUT WOKEN PFW_RECOVERED FLUSH_DONE PFW DROOP
   ⟨0x14, 1, 0, [⟨5, 5, .rw, 0, .por, .free⟩, ⟨4, 4, .rw, 0, .por, .free⟩, ⟨3, 3, .rw, 0, .por, .free⟩, ⟨2, 2, .rw, 0, .por, .free⟩, ⟨1, 1, .rw, 0, .por, .free⟩, ⟨0, 0, .rw, 0, .por, .free⟩]⟩,
  -- POWER_DOMAIN_STATE (R447): STATE
   ⟨0x100, 1, 0, [⟨31, 0, .ro, 0x2aaaaaa0, .por, .free⟩]⟩,
  -- POWER_DOMAIN_REQ (R447): STATE
   ⟨0x104, 1, 0, [⟨31, 0, .ro, 0x2aaaaaa0, .por, .free⟩]⟩,
  -- POWER_WOKEN (R447): DOMAIN
   ⟨0x108, 1, 0, [⟨15, 0, .w1c, 0, .por, .free⟩]⟩,
  -- POWER_SUPPLYn (R447): THRESHOLD MEASURED
   ⟨0x110, 7, 0x4, [⟨31, 16, .ro, 0, .kept, .free⟩, ⟨15, 0, .ro, 0, .por, .free⟩]⟩,
  -- POWER_PFW_TIME_LO (R447): VALUE
   ⟨0x130, 1, 0, [⟨31, 0, .ro, 0, .por, .free⟩]⟩,
  -- POWER_PFW_TIME_HI (R447): VALUE
   ⟨0x134, 1, 0, [⟨31, 0, .ro, 0, .por, .free⟩]⟩,
  -- POWER_FLUSH_US (R447): VALUE
   ⟨0x138, 1, 0, [⟨31, 0, .ro, 0, .por, .free⟩]⟩,
  -- POWER_DROOP_TRANSIENT (R448): COUNT
   ⟨0x300, 1, 0, [⟨31, 0, .ro, 0, .por, .free⟩]⟩,
  -- POWER_DROOP_LASTING (R448): COUNT
   ⟨0x304, 1, 0, [⟨31, 0, .ro, 0, .por, .free⟩]⟩,
  -- POWER_PFW_EVENTS (R448): COUNT
   ⟨0x308, 1, 0, [⟨31, 0, .ro, 0, .por, .free⟩]⟩,
  -- POWER_PFW_GLITCHES (R448): COUNT
   ⟨0x30c, 1, 0, [⟨31, 0, .ro, 0, .por, .free⟩]⟩,
  -- POWER_WAKES_ON_DEMAND (R448): COUNT
   ⟨0x310, 1, 0, [⟨31, 0, .ro, 0, .por, .free⟩]⟩,
  -- POWER_DRAIN_TIMEOUTS (R448): COUNT
   ⟨0x314, 1, 0, [⟨31, 0, .ro, 0, .por, .free⟩]⟩,
  -- POWER_ABSENT_ACCESS (R448): COUNT
   ⟨0x318, 1, 0, [⟨31, 0, .ro, 0, .por, .free⟩]⟩]

/-- The CLOCK registers (block 27). -/
def clock : List RegRow :=
  -- CLOCK_CTRL (R449): LOWER_EN DERATE_EN AVS_EN
  [⟨0x4, 1, 0, [⟨2, 2, .rw, 0, .fromDraft, .free⟩, ⟨1, 1, .rw, 0, .fromDraft, .free⟩, ⟨0, 0, .rw, 0, .fromDraft, .free⟩]⟩,
  -- CLOCK_STATUS (R449): REPLAN_RUNNING AVS_FAIL LOCKED
   ⟨0x8, 1, 0, [⟨17, 17, .ro, 0, .por, .free⟩, ⟨16, 16, .ro, 0, .draft, .free⟩, ⟨15, 0, .ro, 0, .por, .free⟩]⟩,
  -- CLOCK_IRQ_STATUS (R449): AVS_FAIL AGE_ALARM MARGIN_LOW DERATE AVS_CHANGE CANARY_ERROR RELOCKED CLOCK_LOSS
   ⟨0x10, 1, 0, [⟨7, 7, .w1c, 0, .por, .free⟩, ⟨6, 6, .w1c, 0, .por, .free⟩, ⟨5, 5, .w1c, 0, .por, .free⟩, ⟨4, 4, .w1c, 0, .por, .free⟩, ⟨3, 3, .w1c, 0, .por, .free⟩, ⟨2, 2, .w1c, 0, .por, .free⟩, ⟨1, 1, .w1c, 0, .por, .free⟩, ⟨0, 0, .w1c, 0, .por, .free⟩]⟩,
  -- CLOCK_IRQ_ENABLE (R449): AVS_FAIL AGE_ALARM MARGIN_LOW DERATE AVS_CHANGE CANARY_ERROR RELOCKED CLOCK_LOSS
   ⟨0x14, 1, 0, [⟨7, 7, .rw, 0, .por, .free⟩, ⟨6, 6, .rw, 0, .por, .free⟩, ⟨5, 5, .rw, 0, .por, .free⟩, ⟨4, 4, .rw, 0, .por, .free⟩, ⟨3, 3, .rw, 0, .por, .free⟩, ⟨2, 2, .rw, 0, .por, .free⟩, ⟨1, 1, .rw, 0, .por, .free⟩, ⟨0, 0, .rw, 0, .por, .free⟩]⟩,
  -- CLOCK_AVS_CFG (R449): PEC EXP ADDR
   ⟨0x100, 1, 0, [⟨16, 16, .rwl, 0, .fromDraft, .m3to10⟩, ⟨12, 8, .rwl, 0, .fromDraft, .m3to10⟩, ⟨6, 0, .rwl, 0, .fromDraft, .m3to10⟩]⟩,
  -- CLOCK_AVS_MV (R449): REQUEST MEASURED
   ⟨0x104, 1, 0, [⟨31, 16, .ro, 0, .kept, .free⟩, ⟨15, 0, .ro, 0, .por, .free⟩]⟩,
  -- CLOCK_AVS_LIMITS (R449): CEIL FLOOR
   ⟨0x108, 1, 0, [⟨31, 16, .rwl, 0x352, .draft, .m3to10⟩, ⟨15, 0, .rwl, 0x2a8, .draft, .m3to10⟩]⟩,
  -- CLOCK_MARGIN_CFG (R449): MIN HIGH LOW
   ⟨0x10c, 1, 0, [⟨23, 16, .rw, 0x1e, .draft, .free⟩, ⟨15, 8, .rw, 0x78, .draft, .free⟩, ⟨7, 0, .rw, 0x3c, .draft, .free⟩]⟩,
  -- CLOCK_AGE_WARN (R449): DAYS
   ⟨0x110, 1, 0, [⟨15, 0, .rw, 0x16d, .draft, .free⟩]⟩,
  -- CLOCK_TJ (R449): TJ
   ⟨0x114, 1, 0, [⟨15, 0, .ro, 0, .por, .free⟩]⟩,
  -- CLOCK_REPLAN_LO (R449): NS
   ⟨0x118, 1, 0, [⟨31, 0, .ro, 0, .por, .free⟩]⟩,
  -- CLOCK_REPLAN_HI (R449): NS
   ⟨0x11c, 1, 0, [⟨31, 0, .ro, 0, .por, .free⟩]⟩,
  -- CLOCK_ISLn_STATE (R449): LOCKED FENCED DERATEABLE STEP MARGIN
   ⟨0x200, 16, 0x10, [⟨31, 31, .ro, 0, .por, .free⟩, ⟨30, 30, .ro, 0, .warm, .free⟩, ⟨29, 29, .ro, 0, .kept, .free⟩, ⟨28, 26, .ro, 0, .kept, .free⟩, ⟨15, 0, .ro, 0, .por, .free⟩]⟩,
  -- CLOCK_ISLn_RO (R449): VALUE
   ⟨0x204, 16, 0x10, [⟨31, 0, .ro, 0, .por, .free⟩]⟩,
  -- CLOCK_ISLn_SENS (R449): VALUE
   ⟨0x208, 16, 0x10, [⟨31, 0, .ro, 0, .kept, .free⟩]⟩,
  -- CLOCK_ISLn_FORECAST (R449): VALUE
   ⟨0x20c, 16, 0x10, [⟨31, 0, .ro, 0xffffffff, .por, .free⟩]⟩,
  -- CLOCK_LOSS_TRANSIENT (R450): COUNT
   ⟨0x300, 1, 0, [⟨31, 0, .ro, 0, .por, .free⟩]⟩,
  -- CLOCK_LOSS_LASTING (R450): COUNT
   ⟨0x304, 1, 0, [⟨31, 0, .ro, 0, .por, .free⟩]⟩,
  -- CLOCK_CANARY_ERRORS (R450): COUNT
   ⟨0x308, 1, 0, [⟨31, 0, .ro, 0, .por, .free⟩]⟩,
  -- CLOCK_REPLANS (R450): COUNT
   ⟨0x30c, 1, 0, [⟨31, 0, .ro, 0, .por, .free⟩]⟩,
  -- CLOCK_AVS_WRITES (R450): COUNT
   ⟨0x310, 1, 0, [⟨31, 0, .ro, 0, .por, .free⟩]⟩,
  -- CLOCK_AVS_RETRY (R450): COUNT
   ⟨0x314, 1, 0, [⟨31, 0, .ro, 0, .por, .free⟩]⟩]

/-- The HOST registers (block 28). -/
def host : List RegRow :=
  -- HOST_CTRL (R467): INT_PIN_EN
  [⟨0x4, 1, 0, [⟨0, 0, .rw, 0, .por, .free⟩]⟩,
  -- HOST_STATUS (R467): D_STATE BUS_MASTER WIDTH SPEED LINK_UP
   ⟨0x8, 1, 0, [⟨9, 8, .ro, 0, .por, .free⟩, ⟨7, 7, .ro, 0, .por, .free⟩, ⟨6, 4, .ro, 0, .por, .free⟩, ⟨3, 1, .ro, 0, .por, .free⟩, ⟨0, 0, .ro, 0, .por, .free⟩]⟩,
  -- HOST_IRQ_STATUS (R467): MASTER_CHANGE LINK_CHANGE HOSTERR
   ⟨0x10, 1, 0, [⟨2, 2, .w1c, 0, .por, .free⟩, ⟨1, 1, .w1c, 0, .por, .free⟩, ⟨0, 0, .w1c, 0, .por, .free⟩]⟩,
  -- HOST_IRQ_ENABLE (R467): MASTER_CHANGE LINK_CHANGE HOSTERR
   ⟨0x14, 1, 0, [⟨2, 2, .rw, 0, .por, .free⟩, ⟨1, 1, .rw, 0, .por, .free⟩, ⟨0, 0, .rw, 0, .por, .free⟩]⟩,
  -- HOST_MASTER (R467): RECLAIM MON_ALLOW OWNER
   ⟨0x100, 1, 0, [⟨2, 2, .wo, 0, .por, .free⟩, ⟨1, 1, .rw, 0, .por, .free⟩, ⟨0, 0, .ro, 0, .kept, .free⟩]⟩,
  -- HOST_ERR_ADDR_LO (R467): ADDR
   ⟨0x104, 1, 0, [⟨31, 0, .ro, 0, .por, .free⟩]⟩,
  -- HOST_ERR_ADDR_HI (R467): ADDR
   ⟨0x108, 1, 0, [⟨31, 0, .ro, 0, .por, .free⟩]⟩,
  -- HOST_ERR_CAUSE (R467): PATH BAR CAUSE
   ⟨0x10c, 1, 0, [⟨9, 8, .ro, 0, .por, .free⟩, ⟨7, 4, .ro, 0, .por, .free⟩, ⟨3, 0, .ro, 0, .por, .free⟩]⟩,
  -- HOST_BAD_ACCESS (R468): COUNT
   ⟨0x300, 1, 0, [⟨31, 0, .ro, 0, .por, .free⟩]⟩,
  -- HOST_UNMAPPED (R468): COUNT
   ⟨0x304, 1, 0, [⟨31, 0, .ro, 0, .por, .free⟩]⟩,
  -- HOST_NOT_MASTER (R468): COUNT
   ⟨0x308, 1, 0, [⟨31, 0, .ro, 0, .por, .free⟩]⟩,
  -- HOST_LINK_DOWNS (R468): COUNT
   ⟨0x30c, 1, 0, [⟨31, 0, .ro, 0, .por, .free⟩]⟩,
  -- HOST_WAKE_STALLS (R468): COUNT
   ⟨0x310, 1, 0, [⟨31, 0, .ro, 0, .por, .free⟩]⟩,
  -- HOST_MSIXn_ADDR_LO (R451): VALUE
   ⟨0x10000, 64, 0x10, [⟨31, 0, .rw, 0, .none, .free⟩]⟩,
  -- HOST_MSIXn_ADDR_HI (R451): VALUE
   ⟨0x10004, 64, 0x10, [⟨31, 0, .rw, 0, .none, .free⟩]⟩,
  -- HOST_MSIXn_DATA (R451): VALUE
   ⟨0x10008, 64, 0x10, [⟨31, 0, .rw, 0, .none, .free⟩]⟩,
  -- HOST_MSIXn_CTRL (R451): MASK
   ⟨0x1000c, 64, 0x10, [⟨0, 0, .rw, 1, .kept, .free⟩]⟩,
  -- HOST_PBAn (R451): PENDING
   ⟨0x11000, 2, 0x4, [⟨31, 0, .ro, 0, .por, .free⟩]⟩]

/-- The MONITOR registers (block 29). -/
def monitor : List RegRow :=
  -- MONITOR_CTRL (R468): READ_ONLY
  [⟨0x4, 1, 0, [⟨0, 0, .w1s, 0, .warm, .free⟩]⟩,
  -- MONITOR_STATUS (R468): LOADING RATE_TRIAL ACTIVE
   ⟨0x8, 1, 0, [⟨2, 2, .ro, 0, .por, .free⟩, ⟨1, 1, .ro, 0, .por, .free⟩, ⟨0, 0, .ro, 0, .por, .free⟩]⟩,
  -- MONITOR_IRQ_STATUS (R468): BAUD_REVERT WRITE SESSION
   ⟨0x10, 1, 0, [⟨2, 2, .w1c, 0, .por, .free⟩, ⟨1, 1, .w1c, 0, .por, .free⟩, ⟨0, 0, .w1c, 0, .por, .free⟩]⟩,
  -- MONITOR_IRQ_ENABLE (R468): BAUD_REVERT WRITE SESSION
   ⟨0x14, 1, 0, [⟨2, 2, .rw, 0, .por, .free⟩, ⟨1, 1, .rw, 0, .por, .free⟩, ⟨0, 0, .rw, 0, .por, .free⟩]⟩,
  -- MONITOR_BAUD (R468): RATE
   ⟨0x100, 1, 0, [⟨21, 0, .ro, 0x1c200, .por, .free⟩]⟩,
  -- MONITOR_LINES (R469): COUNT
   ⟨0x300, 1, 0, [⟨31, 0, .ro, 0, .por, .free⟩]⟩,
  -- MONITOR_ERRORS (R469): COUNT
   ⟨0x304, 1, 0, [⟨31, 0, .ro, 0, .por, .free⟩]⟩,
  -- MONITOR_WRITES (R469): COUNT
   ⟨0x308, 1, 0, [⟨31, 0, .ro, 0, .por, .free⟩]⟩,
  -- MONITOR_FRAMING_ERR (R469): COUNT
   ⟨0x30c, 1, 0, [⟨31, 0, .ro, 0, .por, .free⟩]⟩]

/-- The FAULT registers (block 30). -/
def fault : List RegRow :=
  -- FAULT_CTRL (R292): CHECK_LIMIT RECOVERY_LIMIT
  [⟨0x4, 1, 0, [⟨23, 8, .rwl, 0x3e8, .draft, .m3to10⟩, ⟨7, 0, .rwl, 3, .draft, .m3to10⟩]⟩,
  -- FAULT_STATUS (R292): FENCED PAD_HOLD LASTING_ACTIVE SAFE_LATCHED
   ⟨0x8, 1, 0, [⟨31, 16, .ro, 0, .warm, .free⟩, ⟨2, 2, .ro, 0, .por, .free⟩, ⟨1, 1, .ro, 0, .warm, .free⟩, ⟨0, 0, .ro, 0, .warm, .free⟩]⟩,
  -- FAULT_IRQ_STATUS (R292): HOLD_EXPIRED CLEARED RESTORE_FAILED SAFE RECOVERY FENCED LASTING TRANSIENT
   ⟨0x10, 1, 0, [⟨7, 7, .w1c, 0, .por, .free⟩, ⟨6, 6, .w1c, 0, .por, .free⟩, ⟨5, 5, .w1c, 0, .por, .free⟩, ⟨4, 4, .w1c, 0, .por, .free⟩, ⟨3, 3, .w1c, 0, .por, .free⟩, ⟨2, 2, .w1c, 0, .por, .free⟩, ⟨1, 1, .w1c, 0, .por, .free⟩, ⟨0, 0, .w1c, 0, .por, .free⟩]⟩,
  -- FAULT_IRQ_ENABLE (R292): HOLD_EXPIRED CLEARED RESTORE_FAILED SAFE RECOVERY FENCED LASTING TRANSIENT
   ⟨0x14, 1, 0, [⟨7, 7, .rw, 0, .por, .free⟩, ⟨6, 6, .rw, 0, .por, .free⟩, ⟨5, 5, .rw, 0, .por, .free⟩, ⟨4, 4, .rw, 0, .por, .free⟩, ⟨3, 3, .rw, 0, .por, .free⟩, ⟨2, 2, .rw, 0, .por, .free⟩, ⟨1, 1, .rw, 0, .por, .free⟩, ⟨0, 0, .rw, 0, .por, .free⟩]⟩,
  -- FAULT_LAST (R292): CLASS TREATMENT ELEMENT
   ⟨0x100, 1, 0, [⟨27, 24, .ro, 0, .por, .free⟩, ⟨23, 20, .ro, 0, .por, .free⟩, ⟨15, 0, .ro, 0, .por, .free⟩]⟩,
  -- FAULT_LAST_TIME_LO (R292): NS
   ⟨0x104, 1, 0, [⟨31, 0, .ro, 0, .por, .free⟩]⟩,
  -- FAULT_LAST_TIME_HI (R292): NS
   ⟨0x108, 1, 0, [⟨31, 0, .ro, 0, .por, .free⟩]⟩,
  -- FAULT_CAUSE (R292): CLASS ELEMENT
   ⟨0x10c, 1, 0, [⟨27, 24, .ro, 0, .por, .free⟩, ⟨15, 0, .ro, 0, .por, .free⟩]⟩,
  -- FAULT_PAD_HOLD (R292): HELD LIMIT_S
   ⟨0x120, 1, 0, [⟨24, 16, .ro, 0, .por, .free⟩, ⟨15, 0, .rw, 0x3c, .por, .free⟩]⟩,
  -- FAULT_RESTORE_S (R292): S
   ⟨0x124, 1, 0, [⟨15, 0, .rw, 0x1e, .draft, .free⟩]⟩,
  -- FAULT_SCRUB_SRAM (R292): MS
   ⟨0x128, 1, 0, [⟨31, 0, .ro, 0, .por, .free⟩]⟩,
  -- FAULT_SCRUB_STACKS (R292): MS
   ⟨0x12c, 1, 0, [⟨31, 0, .ro, 0, .por, .free⟩]⟩,
  -- FAULT_FENCED_BLOCKS (R292): BLOCK
   ⟨0x130, 1, 0, [⟨31, 0, .ro, 0, .warm, .free⟩]⟩,
  -- FAULT_RECOVERY_1H (R292): COUNT
   ⟨0x134, 1, 0, [⟨7, 0, .ro, 0, .por, .free⟩]⟩,
  -- FAULT_TRANSIENT (R293): COUNT
   ⟨0x300, 1, 0, [⟨31, 0, .ro, 0, .por, .free⟩]⟩,
  -- FAULT_LASTING (R293): COUNT
   ⟨0x304, 1, 0, [⟨31, 0, .ro, 0, .por, .free⟩]⟩,
  -- FAULT_SRAM_SEC (R293): COUNT
   ⟨0x308, 1, 0, [⟨31, 0, .ro, 0, .por, .free⟩]⟩,
  -- FAULT_SRAM_DED (R293): COUNT
   ⟨0x30c, 1, 0, [⟨31, 0, .ro, 0, .por, .free⟩]⟩,
  -- FAULT_STACKS_SEC (R293): COUNT
   ⟨0x310, 1, 0, [⟨31, 0, .ro, 0, .por, .free⟩]⟩,
  -- FAULT_STACKS_DED (R293): COUNT
   ⟨0x314, 1, 0, [⟨31, 0, .ro, 0, .por, .free⟩]⟩,
  -- FAULT_LOCKSTEP (R293): COUNT
   ⟨0x318, 1, 0, [⟨31, 0, .ro, 0, .por, .free⟩]⟩,
  -- FAULT_CFG_MISMATCH (R293): COUNT
   ⟨0x31c, 1, 0, [⟨31, 0, .ro, 0, .por, .free⟩]⟩,
  -- FAULT_CLOCK_LOSS (R293): COUNT
   ⟨0x320, 1, 0, [⟨31, 0, .ro, 0, .por, .free⟩]⟩,
  -- FAULT_DROOP (R293): COUNT
   ⟨0x324, 1, 0, [⟨31, 0, .ro, 0, .por, .free⟩]⟩,
  -- FAULT_ARCHIVE_RETRY (R293): COUNT
   ⟨0x328, 1, 0, [⟨31, 0, .ro, 0, .por, .free⟩]⟩,
  -- FAULT_RECOVERY_ENTRIES (R293): COUNT
   ⟨0x32c, 1, 0, [⟨31, 0, .ro, 0, .por, .free⟩]⟩,
  -- FAULT_SAFE_ENTRIES (R293): COUNT
   ⟨0x330, 1, 0, [⟨31, 0, .ro, 0, .por, .free⟩]⟩,
  -- FAULT_REPAIRS_USED (R293): COUNT
   ⟨0x334, 1, 0, [⟨31, 0, .ro, 0, .por, .free⟩]⟩]

/-- The registers every common header holds alike (R472). -/
def header : List RegRow :=
  -- <B>_ID: TYPE REVISION INDEX
  [⟨0x0, 1, 0, [⟨31, 16, .ro, 0, .kept, .free⟩, ⟨15, 8, .ro, 0, .kept, .free⟩, ⟨7, 0, .ro, 0, .kept, .free⟩]⟩,
  -- <B>_IRQ_SET: SET
   ⟨0x18, 1, 0, [⟨31, 0, .wo, 0, .none, .free⟩]⟩,
  -- <B>_IRQ_COUNT: COUNT
   ⟨0x1c, 1, 0, [⟨31, 0, .ro, 0, .por, .free⟩]⟩,
  -- <B>_CMD: GO OPCODE
   ⟨0x40, 1, 0, [⟨31, 31, .rw, 0, .por, .free⟩, ⟨7, 0, .rw, 0, .por, .free⟩]⟩,
  -- <B>_CMD_ARGn: ARG
   ⟨0x44, 4, 0x4, [⟨31, 0, .rw, 0, .por, .free⟩]⟩,
  -- <B>_CMD_STATUS: DONE OPCODE STATUS
   ⟨0x54, 1, 0, [⟨31, 31, .ro, 1, .por, .free⟩, ⟨23, 16, .ro, 0, .por, .free⟩, ⟨3, 0, .ro, 0, .por, .free⟩]⟩,
  -- <B>_CMD_RESULTn: RESULT
   ⟨0x58, 2, 0x4, [⟨31, 0, .ro, 0, .por, .free⟩]⟩,
  -- <B>_REJECT_ADDR: PATH OFFSET
   ⟨0x80, 1, 0, [⟨31, 31, .ro, 0, .por, .free⟩, ⟨19, 0, .ro, 0, .por, .free⟩]⟩,
  -- <B>_REJECT_COUNT: COUNT
   ⟨0x84, 1, 0, [⟨31, 0, .ro, 0, .por, .free⟩]⟩]

/-- The rows a block adds to the common header; none for CAT (16 to 23) and block 31 (R470). -/
def ofBlock : Nat → List RegRow
  | 0 => global
  | 1 => draft
  | 2 => port
  | 3 => time
  | 4 => heddle
  | 5 => reed
  | 6 => loom
  | 7 => osc
  | 8 => isle
  | 9 => vote
  | 10 => pair
  | 11 => shuttle
  | 12 => queue
  | 13 => slv
  | 14 => capt
  | 15 => energy
  | 24 => ledger
  | 25 => check
  | 26 => power
  | 27 => clock
  | 28 => host
  | 29 => monitor
  | 30 => fault
  | _ => []

end Sys2Proof.Machine.RegMap
end

