-- ==== Sys2Proof/Machine/State.lean ====
section
/-!
DEFINITION. Sys2Proof/Machine/State.lean: the state of the module, as plain data: every register, table, queue, counter,
mode and ball the spec gives it, and the queue of commands that wait.
-/

namespace Sys2Proof.Machine

/-- Why a step stops. No command of this model stops with a fault: every outcome the spec gives is a next state (an access
to an address that does not exist completes as R455 says). The one constructor is raised by nobody: it is there so that
the type is not empty, and is safe. -/
inductive Fault where
  | none
  deriving DecidableEq, Repr

/-- Why a step refuses. Raised by an arm of `exec` that has no meaning yet: safe, since nothing is then claimed of the
command. -/
inductive Refusal where
  | notModelled (mnemonic : String)
  deriving DecidableEq, Repr

/-- A table keyed by number: addresses, indices, identifiers. Keys strictly rise in every table the machine makes. -/
abbrev SMap (α : Type) := List (Nat × α)

/-- The balls the module drives (chapter 21). -/
inductive Ball where
  | alarm (n : Nat)
  | health
  | intlk
  | epulse (n : Nat)
  | pps
  | pulse (n : Nat)
  | flushDone
  deriving DecidableEq, Repr

/-- What the module drives to the outside: frames, cells, mirror messages, interrupts, DMA, the serial line. Listed
newest first in `State.out` (log 8). -/
inductive Output where
  /-- MSI-X message of a vector (R452, R355). -/
  | msix (vector : Nat)
  /-- An Ethernet frame's bytes on a port, from the destination address to the last payload byte. -/
  | frame (port : Nat) (bytes : List Byte)
  /-- A Selvedge cell: link, the 128 bytes of R315. -/
  | cell (link : Nat) (bytes : List Byte)
  /-- A mirror-link message (R305): kind and content. -/
  | mirror (kind : Nat) (content : List Byte)
  /-- A packet copied into a host ring (R354): queue, ring offset, the bytes. -/
  | dma (queue offset : Nat) (bytes : List Byte)
  /-- The queue's 8-byte write-back (R354): queue, the value. -/
  | writeBack (queue : Nat) (value : Nat)
  /-- A line of text on `MON_TXD` (R463). -/
  | uart (text : String)
  /-- One byte on `MON_TXD` inside a UART load (R460). -/
  | uartByte (b : Nat)
  /-- A PMBus Write Word of VOUT_COMMAND (R441): address, LINEAR16 value, packet error checking. -/
  | pmbus (addr value : Nat) (pec : Bool)
  /-- A ball changes to a level (true: high, or released for an open-drain ball). -/
  | ball (b : Ball) (level : Bool)
  /-- A ball becomes high-impedance (R426, R461): an open-drain one is released. -/
  | highZ (b : Ball)
  /-- `CLAIM_O[3:0]` with an edge of `CLAIM_STB_O` (R297): the claim, the strobe level. -/
  | claim (c : Nat) (strobe : Bool)
  /-- A PTP message sent on a port (R74): port, IEEE 1588 messageType, the GRID time it carries, clockClass, the instance's
  domainNumber and profile (0 IEC/IEEE 61850-9-3, 1 IEEE C37.238). -/
  | ptp (port kind time clockClass domain profile : Nat)
  /-- The answer to a read: BAR0 and BAR2 reads and JTAG shifts. -/
  | readData (bytes : List Byte)
  /-- A read or access completed with Unsupported Request or Completer Abort (R434, R455, R456). -/
  | accessError (abort : Bool)
  deriving DecidableEq, Repr

/-- The interrupt registers of one block (R472): IRQ_STATUS, IRQ_ENABLE, IRQ_COUNT. -/
structure IrqBlk where
  status : Word := 0
  enable : Word := 0
  count : Word := 0
  deriving DecidableEq, Repr

/-- A record of the Ledger (R399), staged or being written. `isOpen` and `last` (MONO of the last repeat) serve coalescing
(R403). -/
structure LedRec where
  acc : Nat
  opSec : Nat
  cycles : Nat
  event : Nat
  tai : Nat
  source : Nat
  repeats : Nat
  flags : Nat
  mode : Nat
  payload : List Byte
  aux : List Byte
  epoch : Nat
  isOpen : Bool
  last : Nat
  deriving DecidableEq, Repr

/-- An outstanding nonce (R413): its value and the MONO time it was issued. -/
structure Nonce where
  value : BitVec 64
  issued : Nat
  deriving DecidableEq, Repr

/-- The Ledger (R399 to R417): staging in accession order, the reserved LOST entry, the counts the registers show, the
key in its sealed area and the ring's write position in the Archive. -/
structure LedgerSt where
  staging : List LedRec := []
  lost : Option LedRec := none
  /-- Refusals counted behind a closed LOST record not yet written (R404): count, first time, first event. -/
  further : Nat × Nat × Nat := (0, 0, 0)
  next : Nat := 1
  written : Nat := 0
  oldest : Nat := 1
  acked : Nat := 0
  epoch : Nat := 0
  powerCycles : Nat := 0
  opSeconds : Nat := 0
  capacity : Nat := 786432
  /-- Next record position in the ring: block 0 to 24575, record in block 0 to 31 (R406). -/
  wrBlock : Nat := 0
  wrRec : Nat := 0
  fenced : List Nat := []
  /-- Accession numbers by block, in the order of their places in it (R406). -/
  dir : SMap (List Nat) := []
  key : Option (List Byte) := none
  nonce : Option Nonce := none
  /-- MONO times of the AUTH_FAILs of the last hour (R413). -/
  failTimes : List Nat := []
  authLocked : Bool := false
  clearing : Bool := false
  /-- FLUSHED has been staged: later events are lost (R405). -/
  closed : Bool := false
  /-- The counters of the LEDGER block (R417), wrapping. -/
  cRecords : Nat := 0
  cEvents : Nat := 0
  cCoalesced : Nat := 0
  cLost : Nat := 0
  cRetry : Nat := 0
  cFenced : Nat := 0
  cOverwritten : Nat := 0
  cQfull : Nat := 0
  cAuthFail : Nat := 0
  /-- OP_SECONDS and POWER_CYCLES as last saved in the Archive (R405). -/
  savedOp : Nat := 0
  savedCycles : Nat := 0
  /-- Losses of each burst under way, by event code and source, for the records that count them. -/
  bursts : SMap Nat := []
  deriving DecidableEq, Repr

/-- The four time bases (R68), in ns, and the fractions of a ns that GRID, AUX and TEST carry (units of 2⁻³² ns). -/
structure Bases where
  mono : Nat := 0
  grid : Nat := 0
  aux : Nat := 0
  test : Nat := 0
  /-- What SLEW_MAX allows GRID beyond the whole ns slewed, in 10⁻⁹ ns (R75). -/
  gridFrac : Int := 0
  testFrac : Int := 0
  deriving DecidableEq, Repr

/-- A draft, card or patch as held in the draft shadow (R25, R33, R34, R42): its 64-byte header, its section bodies by
table entry, and what the checks found. -/
structure Obj where
  header : List Byte
  sections : List (Nat × List Byte)
  length : Nat
  signed : Bool
  keySlot : Nat
  deriving DecidableEq, Repr

/-- What a load loads. -/
inductive LoadKind where
  | draft | card | patch
  deriving DecidableEq, Repr

/-- A load in progress (R52): its kind, source (0 host, 1 image A, 2 image B, 3 QSPI, 4 UART), the address and the length
given, whether it is the automatic boot, the MONO time it began, and for a patch the switch slot that the registers held when PATCH was
issued (R58). -/
structure LoadReq where
  kind : LoadKind
  source : Nat
  address : Nat
  length : Nat
  auto : Bool
  start : Nat
  slot : Nat := 0
  deriving DecidableEq, Repr

/-- A pending change of mode (R57): the target, its card slot, S as a slot tag and the end of staging. -/
structure SwitchReq where
  target : Nat
  card : Option Nat
  slot : Nat
  staged : Nat
  deriving DecidableEq, Repr

/-- The draft shadow and what is pending on it (R45, R56 to R60). `old` holds the configurations that slots before a switch slot run
under, newest first: base, card in force and the S that ended it. -/
structure DraftSt where
  base : Option Obj := none
  cards : SMap Obj := []
  patch : Option (Obj × Nat) := none
  old : List (Option Obj × Option Obj × Nat) := []
  load : Option LoadReq := none
  switch : Option SwitchReq := none
  /-- An IMAGE_WRITE in progress: image, length, host address (R51). -/
  imageWrite : Option (Nat × Nat × Nat) := none
  /-- The slot tag of the last configuration switch that took effect (R56). -/
  lastSwitch : Nat := 0
  /-- ns of MONO spent in each mode since the draft loaded, up to the last mode change (R475). -/
  modeNs : SMap Nat := []
  /-- Slots before the last S have not all closed: the old banks are still in use (R57). -/
  switching : Bool := false
  /-- Card slots in order of loading, newest first (R45). -/
  recent : List Nat := []
  deriving DecidableEq, Repr

/-- The record POWER_ON that the start-up of a shipped module stages (R405): POWER_CYCLES 1, OP_SECONDS 0, BOOT_SEL 0. -/
def LedRec.powerOn : LedRec where
  acc := 1
  opSec := 0
  cycles := 1
  event := 0xC008
  tai := 0
  source := 0xFFFF
  repeats := 1
  flags := 0
  mode := 0
  payload := [1, 0, 0, 0, 0, 0, 0, 0, 0, 0, 0, 0, 0, 0, 0, 0]
  aux := [0, 0, 0, 0, 0, 0, 0, 0]
  epoch := 0
  isOpen := true
  last := 0

/-- What TIME knows of one source (R71): consecutive good and bad samples, MONO of the last sync, edge or frame and of the
last announce, the source's class, stated inaccuracy (ns), last offset (GRID minus source) and path delay (`fresh`: measured since the last sync), the interval
between syncs, the last edge's stamp and whether a message has labelled it, and, for a suspect source, its pre-step mean
delay and how many samples have been good since (R83). -/
structure SrcSt where
  good : Nat := 0
  bad : Nat := 0
  last : Nat := 0
  announce : Nat := 0
  clockClass : Nat := 248
  inaccuracy : Nat := 0
  offset : Int := 0
  delay : Nat := 0
  interval : Nat := 1000000000
  edge : Nat := 0
  edgeGrid : Nat := 0
  labelled : Bool := false
  label : Nat := 0
  fresh : Bool := false
  suspect : Option Nat := none
  suspectGood : Nat := 0
  /-- The currentUtcOffset of its last announce, where valid; does it warn of leap seconds (R84)? -/
  utc : Option Int := none
  warns : Bool := false
  deriving DecidableEq, Repr

/-- A programmed pulse (R87): its armed settings, the base time of the next edge, the ball's level and the settings that
wait for the present pulse to end (R88). -/
structure PulseSt where
  armed : Bool := false
  onTest : Bool := false
  period : Nat := 0
  width : Nat := 0
  next : Nat := 0
  level : Bool := false
  waiting : Option (Bool × Nat × Nat × Nat) := none
  deriving DecidableEq, Repr

/-- TIME beyond its registers (R71 to R88). -/
structure TimeSt where
  src : SMap SrcSt := []
  /-- The slew still to be applied to GRID (R75). -/
  slew : Int := 0
  /-- The last 16 accepted offsets, newest first (R78). -/
  offsets : List Int := []
  /-- Consecutive samples within 100 ns (R75). -/
  within : Nat := 0
  /-- The first offset of this ACQUIRE has been taken (R75). -/
  acquired : Bool := false
  /-- Bound and MONO at entry to HOLDOVER or PATH_SUSPECT (R78). -/
  entry : Option (Nat × Nat) := none
  /-- The learned residual y_r of R78 in 10⁻¹⁵: a free value. -/
  residual : Nat := 0
  /-- The last 16 accepted path delays, newest first (R82). -/
  delays : List Nat := []
  /-- Samples withheld in a row: delay step and offset departure (R82). -/
  withheld : List (Int × Int) := []
  /-- Good samples in a row in PATH_SUSPECT (R83). -/
  autoGood : Nat := 0
  /-- An offset above 1 s holds the servo (R75). -/
  tooLarge : Bool := false
  /-- MONO since when GRID and AUX differ beyond CROSS_TOL, or agree within it (R73). -/
  crossSince : Option Nat := none
  agreeSince : Option Nat := none
  /-- Sources R73 disqualified together. -/
  crossOut : List Nat := []
  /-- What AON keeps while PD_TIME is not ON (R70): GRID − MONO, E at departure, MONO at departure. -/
  kept : Option (Int × Nat × Nat) := none
  /-- MONO at which the servo left LOCKED (R85). -/
  leftLocked : Option Nat := none
  /-- TAI second at which a pending leap takes effect, and of the last one applied (R84, R85). -/
  leapAt : Option Nat := none
  leapDone : Option Nat := none
  pulses : SMap PulseSt := []
  /-- The TIME PLL has locked to REF10M (R70). -/
  pllLocked : Bool := false
  ppsHigh : Bool := false
  /-- The GRID second at which `PPS_O` last rose. -/
  ppsLast : Nat := 0
  /-- The slew applied to GRID since the last accepted sample (R82). -/
  slewed : Int := 0
  /-- MONO of the sample that cleared PATH_SUSPECT by itself (R88). -/
  cleared : Option Nat := none
  deriving DecidableEq, Repr

/-- A point's state in one lane (R257): c, the three run counters, raised, latched, the absence of its last source, the
previous slot's x (RATE of R254), the tag of its last transition, and of an angle (PART 3) the last raw word and the unwrapped angle
in 2⁻³² turn. -/
structure PointSt where
  c : Bool := false
  onRun : Nat := 0
  offRun : Nat := 0
  absRun : Nat := 0
  raised : Bool := false
  latched : Bool := false
  absent : Bool := false
  prev : Option Nat := none
  tag : Nat := 0
  raw : Option Nat := none
  turns : Int := 0
  deriving DecidableEq, Repr

/-- One voting lane (R259, R260): its points, the lattices it is ODD on with the lane it is to be copied from, the failed
re-syncs in a row, the lattices it is still to be re-synced on after LANE_RESYNC or its return, its nine drive bits (bit 8 is HEALTH_O), and its own decision that the
module holds (R298). Its state RUN, ODD, FENCED or OFF stands in `VOTE_STATUS`. -/
structure LaneSt where
  points : SMap PointSt := []
  odd : SMap Nat := []
  fails : SMap Nat := []
  forced : List Nat := []
  drive : Nat := 0
  holds : Bool := false
  deriving DecidableEq, Repr

/-- A GOOSE control block's transmission (R270): stNum and sqNum, the members last sent (value, quality, TAI ns of the
deciding slot), the UTC instant of stNum's last change, MONO of the next repetition and the interval to it in ms. -/
structure GooseTx where
  stNum : Nat := 1
  sqNum : Nat := 0
  members : List (Bool × Nat × Nat) := []
  changed : Nat := 0
  next : Option Nat := none
  interval : Nat := 0
  deriving DecidableEq, Repr

/-- The alarm side of the device (R251 to R275): the three lanes, the GOOSE blocks, the pin test in progress (pin, MONO of
its end), the balls that sink (bit 8 is HEALTH_O); by lattice, the ALARM section its points run with and the number of the last slot
evaluated. -/
structure VoteSt where
  laneA : LaneSt := {}
  laneB : LaneSt := {}
  laneC : LaneSt := {}
  goose : SMap GooseTx := []
  test : Option (Nat × Nat) := none
  sink : Nat := 0
  bodies : SMap (List Byte) := []
  last : SMap Nat := []
  deriving DecidableEq, Repr

/-- What FAULT keeps of an element (R279, R288, R292): 0 RUN, 1 FENCED, 2 RESTORING; its counts; the class it was fenced
for; whether its treatment was RECOVERY; MONO at which its restore finished its replay and scan, from which FAULT_RESTORE_S
runs, and MONO of the fencing. -/
structure ElemSt where
  state : Nat := 0
  transient : Nat := 0
  lasting : Nat := 0
  cls : Nat := 0
  recovery : Bool := false
  proving : Option Nat := none
  fencedAt : Nat := 0
  deriving DecidableEq, Repr

/-- FAULT beyond its registers: the elements by code, MONO of the RECOVERY entries of the last hour (R283), MONO of the
lasting DATA_CHECK failures of the last second by block (R283), MONO at which the present fault began, MONO at which the pad
hold was set; after a warm reset, MONO from which FAULT_RESTORE_S runs (R288); TIDs whose state was lost with a memory word and has not
formed again (R282). -/
structure FaultSt where
  elems : SMap ElemSt := []
  recoveries : List Nat := []
  checks : SMap (List Nat) := []
  since : Nat := 0
  holdSet : Option Nat := none
  warm : Option Nat := none
  lost : List Nat := []
  deriving DecidableEq, Repr

/-- What one lane sees of the partner (R297): the claim latched, MONO of the last edge (none: never, or stale). -/
structure LaneView where
  claim : Nat := 0
  edge : Option Nat := none
  deriving DecidableEq, Repr

/-- A set of mirrored state (R305, R306), kept while the module does not hold. -/
structure MirrorSt where
  goose : SMap Nat := []
  energy : SMap (Nat × List Nat) := []
  ledgerNext : Nat := 0
  ledgerWritten : Nat := 0
  ledger : List LedRec := []
  ckpt : SMap (List Byte) := []
  capt : SMap (Nat × Nat) := []
  deriving DecidableEq, Repr

/-- PAIR beyond its registers: what each lane sees; the claim the own comparison uses and MONO at which a raise driven
enters it (R296); a raised value waiting since MONO; the level of `CLAIM_STB_O`; the interlock line: pulled by this module,
seen high since MONO (none: low); HELLO received on the link now up; the partner's HELLO (MODID, DRAFT_ID, pair mode, BASE,
holding); a YIELD waiting since MONO (R302); MONO of the last HELLO and of the last ENERGY and CKPT sent
or received; the mirrored state; the active-base time of the last edge on which the partner's claim won (R308). -/
structure PairSt where
  viewA : LaneView := {}
  viewB : LaneView := {}
  viewC : LaneView := {}
  cmp : Nat := 0
  cmpAt : Option Nat := none
  raised : Option (Nat × Nat) := none
  strobe : Bool := false
  pulled : Bool := false
  lineHigh : Option Nat := some 0
  hello : Option (Nat × Nat × Nat × Nat × Bool) := none
  helloSent : Nat := 0
  yieldWait : Option Nat := none
  energyAt : Option Nat := none
  ckptAt : Option Nat := none
  mirror : MirrorSt := {}
  lastHeld : Nat := 0
  deriving DecidableEq, Repr

/-- An access that waits for its register domain to wake (R434): domain, path, BAR0 offset, the value of a write; BAR2 reads carry
their length (`addr` is then the Stacks address); the words a monitor line reads, what the monitor is answered (0 nothing, 1 the OK of `wr`, 2 the outcome of `cmd`, 3 nothing and no record: an argument of `cmd`), and what the command brings. -/
structure Stalled where
  domain : Nat
  path : Path
  addr : Nat
  write : Option Nat := none
  bar2 : Option Nat := none
  words : Nat := 1
  reply : Nat := 0
  x : CmdInput := {}
  deriving DecidableEq, Repr

/-- POWER beyond its registers: domains being woken, with MONO at which the wake began and its cause (0 request, 1 demand, 2 restore,
3 mode); a DOMAIN_SET that drains (domain, state asked for, MONO of the request); accesses that wait; a request for M3 or M9 that
waits for the USED domains, with its path; the level of `PFW_N` (true: low) and MONO since; MONO of the accepted fall while the
flush runs; supplies below a threshold, with MONO of the crossing and the lowest mV; a warm reset held until the flush is done
(its cause) and MONO at which a warm reset under way began; whether `PFW_N` was low at the release of `PORST_N`; an automatic
boot not yet begun; MONO of the last access to the Archive. -/
structure PowerSt where
  waking : SMap (Nat × Nat) := []
  drain : Option (Nat × Nat × Nat) := none
  stalled : List Stalled := []
  request : Option (Nat × Path) := none
  pfwLine : Bool × Nat := (false, 0)
  flushAt : Option Nat := none
  droops : SMap (Nat × Nat) := []
  warmHeld : Option Nat := none
  warmAt : Option Nat := none
  bootHeld : Bool := false
  boot : Bool := false
  archAt : Nat := 0
  deriving DecidableEq, Repr

/-- A hardware queue beyond its registers (R351 to R357): committed packets, oldest first, each its SEQ and payload; the SEQ of
the next commit; packets counted since the last signal and MONO of the first of them; and, for a D2H queue, the SEQ of the
last packet copied. -/
structure QueueSt where
  packets : List (Nat × List Byte) := []
  seq : Nat := 1
  copied : Nat := 0
  counted : Nat := 0
  first : Option Nat := none
  deriving DecidableEq, Repr

/-- A PRP source of a pair's duplicate table (R103): the highest sequence number, the window of the last 64 numbers, MONO of
the last frame. -/
structure PrpSrc where
  top : Nat
  window : Nat
  last : Nat
  deriving DecidableEq, Repr

/-- A frame at the Heddle input (R94, R95): port, arrival stamp on the active base, what the classifier made
of it (0 GOOSE, 1 C37.118, 2 IEC 61850-90-5, 3 IEC 61850-9-2, 4 injected by the host, 5 injected and stamped by Heddle), whether it was stamped on TEST, its bytes from
the destination address, and its payload; for an IP frame the source address and UDP port. -/
structure HedFrame where
  port : Nat
  stamp : Nat
  test : Bool
  kind : Nat
  bytes : List Byte
  payload : List Byte
  srcIp : List Byte
  srcUdp : Nat
  deriving DecidableEq, Repr

/-- PORT beyond its registers: MONO since which a 10GBASE-R port's conditions have held, the token buckets of the slow path
(tokens in 10⁻⁹ frames, MONO of the last refill), PRP tables by pair, the sequence number sent last by pair, MONO of the
last supervision frame by pair. -/
structure PortSt where
  good : SMap Nat := []
  tokens : SMap (Nat × Nat) := []
  prp : SMap (SMap PrpSrc) := []
  prpSeq : SMap Nat := []
  supervised : SMap Nat := []
  busy : SMap Nat := []
  /-- Changes of the multicast table of the last ms, newest first: MONO, entry, its words before (R101). -/
  mcastPast : List (Nat × Nat × List Nat) := []
  deriving DecidableEq, Repr

/-- A stream at run time (R124, R137): its run-time enable; its state 1 to 5 while it is not DISABLED; MONO of the last accepted
data frame or ASDU, or of entry to WAITING (none: `HeddleSt.start`); the accepted stamps of the last 64 periods and the latest;
where the last accepted frame came from (port, source MAC, source IP, source UDP port); MONO of the frames accepted in the last
second; the last authenticated SPDU number; MONO of the last command frame and of the last data-on; the tag of the switch slot at which a
patch took the stream out of CFG_HOLD (R138); whether its last configuration frame was a CFG-3 (R125). -/
structure StreamSt where
  enabled : Bool := true
  st : Nat := 1
  ref : Option Nat := none
  stamps : List Nat := []
  last : Nat := 0
  heard : Option (Nat × List Byte × List Byte × Nat) := none
  frames : List Nat := []
  spdu : Option Nat := none
  cmdAt : Option Nat := none
  dataOn : Option Nat := none
  freed : Option Nat := none
  cfg3 : Bool := false
  deriving DecidableEq, Repr

/-- A key slot of R128: key ID, algorithm code of R127, VALID_FROM in TAI seconds, the key's 32 bytes. -/
structure KeySlot where
  id : Nat
  alg : Nat
  validFrom : Nat
  key : List Byte
  deriving DecidableEq, Repr

/-- A GOOSE subscription (R136): the last stNum and sqNum (none: no message yet), MONO at which timeAllowedToLive ends, and
whether it has ended. -/
structure GooseRx where
  stNum : Nat
  sqNum : Nat
  expires : Nat
  expired : Bool
  deriving DecidableEq, Repr

/-- Heddle (R113 to R141): streams by SID, key slots, subscriptions by index, MONO at which decoding last started. -/
structure HeddleSt where
  streams : SMap StreamSt := []
  keys : SMap KeySlot := []
  goose : SMap GooseRx := []
  start : Nat := 0
  deriving DecidableEq, Repr

/-- A thread item (R12, R14): TID, thread word, quality, time field (source stamp on the way to Reed, slot tag from there),
check code. -/
structure Item where
  tid : Nat
  word : Nat
  quality : Nat
  time : Nat
  code : Nat
  deriving DecidableEq, Repr

/-- A waveform sample (R131, R132): WID, sample instant, raw signed value as 32 bits, quality. -/
structure WaveSample where
  wid : Nat
  time : Nat
  raw : Nat
  quality : Nat
  deriving DecidableEq, Repr

/-- A change of a trigger input on its way to CAPT (R367): the input, its value, the time carried. -/
structure InputEvent where
  input : Nat
  value : Bool
  time : Nat
  deriving DecidableEq, Repr

/-- A tap of a thread's input history (R142): source stamp, raw thread word, quality; `bad`: its check failed twice (R144). -/
structure ReedTap where
  time : Nat
  word : Nat
  quality : Nat
  bad : Bool := false
  deriving DecidableEq, Repr

/-- Reed's state of a thread (R142 to R160): the history in time order; the instant up to which slots have been emitted or
passed; `ended`: its stream left RUNNING since the newest tap (R159); slot tag and quality of the last output; the last df in
Hz and the instant it was used for; for a frequency thread, its latest raw samples, which phasors of its stream take up (R157). -/
structure ReedThread where
  taps : List ReedTap := []
  upto : Option Nat := none
  ended : Bool := false
  lastTag : Nat := 0
  lastQ : Nat := 0
  df : Option (Rat × Nat) := none
  freqs : List ReedTap := []
  deriving DecidableEq, Repr

/-- The samples of a WID (R162, R168): number since the TAI epoch at the stream's rate, raw value, quality; the last estimator
magnitude; the instant up to which phasors have been formed; whether its stream has been SILENT or DISABLED since the newest sample (R166). -/
structure WaveSt where
  samples : List (Nat × Nat × Nat) := []
  lastMag : Nat := 0
  upto : Option Nat := none
  down : Bool := false
  deriving DecidableEq, Repr

/-- A member phasor of a group at one L3 slot: member code, real and imaginary part (none: absent), quality. -/
structure MemberPhasor where
  member : Nat
  value : Option (Rat × Rat)
  quality : Nat
  deriving DecidableEq, Repr

/-- An estimator group (R163): member phasors by slot tag that wait for the others; the angle of X1 in turns and the frequency
at the previous L3 instant; the last four frequency differences; the last frequency formed, as binary32. -/
structure GroupSt where
  waiting : SMap (List MemberPhasor) := []
  angle : Option Rat := none
  freq : Option Rat := none
  diffs : List Rat := []
  last : Nat := 0
  deriving DecidableEq, Repr

/-- A detector (R168): the instant up to which outputs have been formed; for ENVELOPE the filtered value, the number of the
sample up to which it has been filtered, and the values of the last samples. -/
structure DetSt where
  upto : Option Nat := none
  env : Rat := 0
  seen : Option Nat := none
  envs : SMap Rat := []
  deriving DecidableEq, Repr

/-- Reed (R142 to R174): threads by TID, WIDs, groups, detectors by TID; the second of MONO being counted and its counts
(items in, items out, BAND outputs, waveform samples); ms for which Heddle has been held back, as counted (R169). -/
structure ReedSt where
  threads : SMap ReedThread := []
  waves : SMap WaveSt := []
  groups : SMap GroupSt := []
  dets : SMap DetSt := []
  second : Nat := 0
  counts : List Nat := [0, 0, 0, 0]
  pressed : Nat := 0
  deriving DecidableEq, Repr

/-- A set in one slot (R187): its deadline, whether it may close on presence, and when and how it closed (0 presence,
1 deadline). -/
structure SetSlot where
  deadline : Nat
  early : Bool
  closed : Option (Nat × Nat) := none
  deriving DecidableEq, Repr

/-- A slot of a lattice while it is open or in history (R179, R181): presence (R182; held in SRAM, R24), what the header counts,
the sets shed, the time of its close on the active base and in MONO, that of its release on the active base, whether the close pipeline has done it and its
release has been passed on; threads whose item failed its check twice (R182); what stood in the slot, as TID, word and quality, before a
late item replaced it while the close pipeline has not read it (R188). Values stand in the Stacks. -/
structure SlotSt where
  tag : Nat
  opened : Bool := false
  sets : SMap SetSlot := []
  present : List Nat := []
  filled : List Nat := []
  onTime : Nat := 0
  absent : Nat := 0
  late : Nat := 0
  fills : Nat := 0
  forced : Bool := false
  gap : Bool := false
  test : Bool := false
  shed : List Nat := []
  byPresence : Nat := 0
  byDeadline : Nat := 0
  mode : Nat := 0
  closed : Option Nat := none
  shutAt : Nat := 0
  released : Option Nat := none
  piped : Bool := false
  passed : Bool := false
  failed : List Nat := []
  replaced : List (Nat × Nat × Nat) := []
  deriving DecidableEq, Repr

/-- A lattice (R176): the tag of the next slot to open (none: not running), of the first slot of the present run, whether the
lattice was held while PD_LOOM was not ON (R287), whether slots were skipped before the next one (R202), whether the active base has
stepped forward by O slot periods or more since the last slot opened (R202), the tag of the last slot opened, its slots, oldest first, and
for slots of this run that have left the list the close times of their sets (R194). -/
structure LatSt where
  next : Option Nat := none
  first : Nat := 0
  paused : Bool := false
  gap : Bool := false
  stepped : Bool := false
  last : Option Nat := none
  slots : List SlotSt := []
  shut : SMap (SMap Nat) := []
  deriving DecidableEq, Repr

/-- The Loom (R175 to R204): lattices; weft indices by lattice and TID with the slot number from which each holds, and indices that
a patch freed with the slot number (R178); by lattice, indices that threads held before: TID, index, the slot number from which and the
one before which it held; threads withdrawn with the tag of S; consecutive fills by TID (R192); slot-close
events that wait for ANA (R196); learned latencies in ns by set and MONO of the last refresh (R191); late and written items on
gating sets of the second being counted and of the last whole second (R200); MONO at which an overload cause last held and at
which the overload was set; adaptive sets whose learned latency is unknown. -/
structure LoomSt where
  lats : SMap LatSt := []
  weft : SMap (SMap (Nat × Nat)) := []
  freed : SMap (SMap Nat) := []
  past : SMap (List (Nat × Nat × Nat × Nat)) := []
  gone : SMap Nat := []
  fills : SMap Nat := []
  closeQ : List (Nat × Nat) := []
  learned : SMap Nat := []
  refreshed : Nat := 0
  second : Nat := 0
  late : Nat := 0
  written : Nat := 0
  lastLate : Nat := 0
  lastWritten : Nat := 0
  causeAt : Nat := 0
  setAt : Nat := 0
  sparse : List Nat := []
  deriving DecidableEq, Repr

/-- A Selvedge cell (R315) as it is queued: what R315 gives it but SEQ, ACK, CREDIT, RETRY and the CRC, which its transmission
sets; for a SLOT_HEAD passed on, its AGE and MONO at which it had that age (R327); the link whose receive cell its first
transmission frees (R320). -/
structure SlvCell where
  ty : Nat
  flags : Nat := 0
  origin : Nat := 0
  hops : Nat := 0
  aux1 : Nat := 0
  aux2 : Nat := 0
  tag : Nat := 0
  body : List Byte := []
  age : Option (Nat × Nat) := none
  frees : Option Nat := none
  deriving DecidableEq, Repr

/-- A sequenced cell that is not acknowledged (R321): its SEQ, MONO of its first transmission and of its retransmission, and
whether a retransmission waits. -/
structure SlvSent where
  seq : Nat
  cell : SlvCell
  at' : Nat
  again : Option Nat := none
  asked : Bool := false
  deriving DecidableEq, Repr

/-- An own slot that waits on a link (R324): whether its head has been sent, and the cells still to send. -/
structure SlvSlot where
  lattice : Nat
  tag : Nat
  begun : Bool := false
  cells : List SlvCell
  deriving DecidableEq, Repr

/-- A Selvedge link (R318 to R324): MONO of its last start or DOWN; block lock; valid TRAINs in a row; ACKED received; MONO of the
last cell in, out, and of the last HEARTBEAT out; HEARTBEATs measured; the last 16 delays; the last TX_STAMP received and MONO
of its receipt; the sending side (next SEQ, sequenced cells sent, CREDIT received, cells not acknowledged); the receiving side
(next SEQ expected, later cells held, cells freed, whether a NAK waits and whether it has been sent); ARM and FIRE cells, own
slots, cells to pass on by link of arrival, the source served last, whether the next own head carries SKIPPED_BEFORE; MONO of the
lasting DOWNs of the last 60 s; whether its ROLE_MISMATCH is recorded. -/
structure SlvLink where
  since : Nat := 0
  lock : Bool := false
  trains : Nat := 0
  acked : Bool := false
  lastRx : Nat := 0
  lastTx : Nat := 0
  lastBeat : Nat := 0
  beats : Nat := 0
  delays : List Nat := []
  echo : Option (Nat × Nat) := none
  txSeq : Nat := 0
  sent : Nat := 0
  credit : Nat := 0
  unacked : List SlvSent := []
  rxNext : Nat := 0
  held : SMap (SlvCell × Bool) := []
  freed : Nat := 0
  nak : Bool := false
  naked : Bool := false
  arms : List SlvCell := []
  own : List SlvSlot := []
  pass : SMap (List SlvCell) := []
  turn : Nat := 0
  skipped : Bool := false
  downs : List Nat := []
  mismatch : Bool := false
  deriving DecidableEq, Repr

/-- A slot arriving over a link (R325, R326): entries announced and the next one expected, MONO of its last cell, whether its
data cells are dropped. -/
structure SlvFlow where
  link : Nat
  origin : Nat
  lattice : Nat
  tag : Nat
  entries : Nat
  next : Nat := 0
  last : Nat
  drop : Bool
  deriving DecidableEq, Repr

/-- SLV beyond its registers: links, slots arriving, the last tag of each ORIGIN and lattice, most recent first (R325), ORIGIN and
event number of the ARM and FIRE cells last handled, newest first (R329), pair messages waiting on the mirror link with the
parts of the first already sent (R330); by lattice, the slot last released while the module did not hold. -/
structure SlvSt where
  links : SMap SlvLink := []
  flows : List SlvFlow := []
  origins : List (Nat × Nat × Nat) := []
  handled : List (Nat × Nat) := []
  mirrorQ : List (Nat × List Byte) := []
  mirrorPart : Nat := 0
  behind : SMap Nat := []
  deriving DecidableEq, Repr

/-- A segment of a region's store (R371): the tag of its first slot, its slots, its pages in order, whether a GAP OVERRUN stands in it. -/
structure CaptSeg where
  tag : Nat
  slots : Nat
  pages : List Nat
  overrun : Bool := false
  deriving DecidableEq, Repr

/-- A record in progress (R372, R373): SEQ, T_trig, trigger slot, last slot wanted, cause, pattern, ORIGIN, event number, the
inputs, the slot mode, retriggers, flags REMOTE, MIRRORED and TEST as in the header. -/
structure CaptOpen where
  seq : Nat
  trig : Nat
  trigTag : Nat
  lastTag : Nat
  cause : Nat
  pattern : Nat
  origin : Nat
  event : Nat
  inputs : List Byte
  mode : Nat
  retriggers : Nat := 0
  flags : Nat
  deriving DecidableEq, Repr

/-- A record held (R380): SEQ, pages, locked, and the window it spans. -/
structure CaptHeld where
  seq : Nat
  pages : List Nat
  locked : Bool := false
  start : Nat
  stop : Nat
  deriving DecidableEq, Repr

/-- A WAVE run being gathered (R376): WID, number of its first sample, raw value and quality of each. -/
structure CaptRun where
  wid : Nat
  first : Nat
  samples : List (Nat × Nat)
  deriving DecidableEq, Repr

/-- A capture region (R369 to R380): state code; segments, oldest first; bytes used in the page being written; the value and
quality last stored by channel; the record in progress; records held, oldest first; the SEQ last used; WAVE runs in order of
arrival; the number expected next by WID; the tag of the last slot written; DISARM asked during a record; MONO of entry to CLOSING
or REARM; slots that found no page (first tag, count); pages that were fenced and remapped in the record; the instant from which
slots and samples are taken (R366). -/
structure CaptReg where
  st : Nat := 0
  segs : List CaptSeg := []
  off : Nat := 2048
  stored : SMap (Nat × Nat) := []
  rec' : Option CaptOpen := none
  held : List CaptHeld := []
  seq : Nat := 0
  runs : List CaptRun := []
  nexts : SMap Nat := []
  last : Option Nat := none
  disarm : Bool := false
  since : Nat := 0
  missed : Option (Nat × Nat) := none
  lost : List Nat := []
  start : Nat := 0
  deriving DecidableEq, Repr

/-- CAPT beyond its registers: regions, the device's event number (R378). -/
structure CaptSt where
  regions : SMap CaptReg := []
  event : Nat := 0
  deriving DecidableEq, Repr

/-- A composed frame of an output stream (R338, R340): its slot, the payload (C37.118 frame or session PDU), whether it was ready in
time, whether its INTENT has been sent (R307). -/
structure OsFrame where
  tag : Nat
  payload : List Byte
  ready : Bool
  intent : Bool := false
  deriving DecidableEq, Repr

/-- An output stream (R337 to R347): run-time enable; the slot last launched, skipped or passed over; the slot after which R308 and
R349 let it resume; the frame composed; active-base instant of the last S that changed it; a configuration frame due for
that S, and the last multiple of `SHUTTLE_CFG_PERIOD` served; the SPDU number of the next frame. -/
structure OsSt where
  enabled : Bool := true
  cursor : Nat := 0
  after : Nat := 0
  frame : Option OsFrame := none
  changed : Option Nat := none
  cfgDue : Bool := false
  cfgMark : Option Nat := none
  spdu : Nat := 1
  deriving DecidableEq, Repr

/-- SHUTTLE beyond its registers: the output streams. -/
structure ShuttleSt where
  streams : SMap OsSt := []
  deriving DecidableEq, Repr

/-- One slot of a probe (R206, R209): slot number, its binary32 value (after replacement), whether it was replaced, quality bits of
the value used, whether its check failed twice. -/
structure ProbeTap where
  slot : Nat
  value : Nat
  replaced : Bool
  quality : Nat
  bad : Bool
  deriving DecidableEq, Repr

/-- A probe (R206 to R209): its last taps, newest first; the last valid value and its quality bits; the raw angle and the unwrapped
angle in 2⁻³² turn (PART 3); the reason of the last absent value. -/
structure ProbeSt where
  taps : List ProbeTap := []
  valid : Option (Nat × Nat) := none
  raw : Option Nat := none
  turns : Int := 0
  reason : Nat := 0
  deriving DecidableEq, Repr

/-- A mode estimator (R213 to R217): whether it is LIVE, the slot's generation, the state p, q, σ, ω (binary64 values), the
covariance by rows, consecutive hops unmatched; confidence, damping deviation, f, ζ and A as binary32 and the phase in 2⁻³² turn, as
the last update formed them. -/
structure OscMode where
  live : Bool := false
  gen : Nat := 0
  p : Rat := 0
  q : Rat := 0
  sigma : Rat := 0
  omega : Rat := 0
  cov : List (List Rat) := []
  unmatched : Nat := 0
  conf : Nat := 0
  sz : Rat := 0
  freq32 : Nat := 0
  zeta32 : Nat := 0
  amp32 : Nat := 0
  phase : Nat := 0
  deriving DecidableEq, Repr

/-- A mode's features as a record gives them (R221): f, ζ, A as binary32, confidence, generation, quality. -/
structure OscFeature where
  f : Nat := 0
  zeta : Nat := 0
  amp : Nat := 0
  conf : Nat := 0
  gen : Nat := 0
  quality : Nat := 0x10
  deriving DecidableEq, Repr

/-- A tracker's feature record (R221): state, slot tag of the centre slot, features by mode slot. -/
structure OscRecord where
  st : Nat := 0
  tag : Nat := 0
  modes : List OscFeature := []
  deriving DecidableEq, Repr

/-- A tracker (R205 to R225): the entry it runs with; state code of R219; the next centre slot it may form and the last slot
seen (0: none yet); its window, oldest first, each sample with whether it is valid; samples since the last hop; absent samples in a row; V; the last
hop's trend (value and slope per second at an instant); the OR of quality bits since the last hop; the mode slots; the tag of the
last sample; whether its centre failed its check twice; the reason of the probe's last absent value; the last hop's bins;
whether a first sample has been taken; the record the lanes have, whether it came with the last event, and records on their way with MONO of the slot-close
event they were formed at; whether TRACKER_RESET restarts it at its next sample; where its window stands in the Stacks. -/
structure OscTracker where
  entry : List Byte := []
  st : Nat := 0
  first : Nat := 0
  last : Nat := 0
  window : List (Rat × Bool) := []
  sinceHop : Nat := 0
  gap : Nat := 0
  noise : Rat := 0
  trend : Rat × Rat × Nat := (0, 0, 0)
  orQ : Nat := 0
  modes : List OscMode := [{}, {}, {}, {}]
  tag : Nat := 0
  bad : Bool := false
  reason : Nat := 0
  bins : List Rat := []
  begun : Bool := false
  record : OscRecord := {}
  fresh : Bool := false
  coming : List (OscRecord × Nat) := []
  reset : Bool := false
  place : Nat := 0
  deriving DecidableEq, Repr

/-- A member of a mode-shape job, or its reference (R227, R228): mean, d1, d2 and C as real and imaginary parts, Pw; absent and all
samples of the period, the OR of quality bits and the last absence reason. -/
structure ShapeMember where
  mean : Rat := 0
  d1 : Rat × Rat := (0, 0)
  d2 : Rat × Rat := (0, 0)
  c : Rat × Rat := (0, 0)
  pw : Rat := 0
  absent : Nat := 0
  samples : Nat := 0
  orQ : Nat := 0
  reason : Nat := 0
  deriving DecidableEq, Repr

/-- A mode-shape job (R226 to R228): the entry and member list it runs with; the generation its sums belong to and MONO since which
the reference slot has been LIVE; φ in turns; the reference and the members; whether the next record is the first since the
sums were cleared; MONO of the last report. -/
structure ShapeJob where
  entry : List Byte := []
  gen : Option Nat := none
  since : Nat := 0
  phi : Rat := 0
  ref : ShapeMember := {}
  members : List ShapeMember := []
  first : Bool := true
  last : Nat := 0
  deriving DecidableEq, Repr

/-- OSC beyond its registers: probes by their PROBE word, trackers, jobs; MONO of the last checkpoint set written to the
Archive and of the last one received from the partner. -/
structure OscSt where
  probes : SMap ProbeSt := []
  trackers : SMap OscTracker := []
  jobs : SMap ShapeJob := []
  archAt : Option Nat := none
  partAt : Option Nat := none
  deriving DecidableEq, Repr

/-- An area's aggregates (R235): frequency, ROCOF and R as binary32, the angle in 2⁻³² turn, the two qualities. -/
structure AreaAgg where
  freq : Nat := 0x7FC00000
  rocof : Nat := 0x7FC00000
  angle : Nat := 0
  r : Nat := 0x7FC00000
  fq : Nat := 0x10
  aq : Nat := 0x10
  deriving DecidableEq, Repr

/-- A tie (R239, R240): SPLIT; the two counters; held and topologically open in the last slot; the state TIE_FORCE gives it; Δθ
unwrapped in 2⁻³² turn by slot number, newest first; Δf in Hz. -/
structure TieSt where
  split : Bool := false
  c : Nat := 0
  r : Nat := 0
  held : Bool := false
  topo : Bool := false
  forced : Option Bool := none
  angles : List (Nat × Int) := []
  df : Rat := 0
  deriving DecidableEq, Repr

/-- A synchro-check in progress (R246, R247): its point, the active-base time of its start, h, whether it has given PERMIT. -/
structure SyncCheck where
  point : Nat
  start : Nat
  h : Nat := 0
  permitted : Bool := false
  deriving DecidableEq, Repr

/-- ISLE beyond its registers: the section it runs with; aggregates, ties, the group of each enabled area, G; the number of the last
slot; the instant of the slot in which the present islands were declared; the check in progress; live slots in a row by point;
points that automatic start passes over; whether its time limit has passed since the last slot. -/
structure IsleSt where
  body : List Byte := []
  areas : SMap AreaAgg := []
  ties : SMap TieSt := []
  groups : SMap Nat := []
  g : Nat := 1
  last : Option Nat := none
  declared : Nat := 0
  sc : Option SyncCheck := none
  live : SMap Nat := []
  barred : List Nat := []
  expired : Bool := false
  deriving DecidableEq, Repr

/-- An interval being formed (R391): TAI ns of its first slot (none: not begun), the registers at its start, interval peaks, slots not
accumulated, sign changes, flags. -/
structure EnergyIvl where
  start : Option Nat := none
  base : List Nat := [0, 0, 0, 0, 0, 0]
  peakP : Rat := 0
  peakI : Rat := 0
  absent : Nat := 0
  reversals : Nat := 0
  flags : Nat := 0
  deriving DecidableEq, Repr

/-- A flow point (R384 to R391): the entry it runs with; six registers, each with its residue; the interval; the sign of P in the
last present slot; sequence number of the last interval closed; tag of the last slot included; running peaks; the live values P, Q
and I as binary32, the quality, the flags; on a module that does not hold, own totals by slot tag, newest first (R306). -/
structure FlowPoint where
  entry : List Byte := []
  regs : List (Nat × Rat) := [(0, 0), (0, 0), (0, 0), (0, 0), (0, 0), (0, 0)]
  ivl : EnergyIvl := {}
  neg : Option Bool := none
  seq : Nat := 0
  last : Option Nat := none
  peakP : Rat := 0
  peakI : Rat := 0
  p : Nat := 0x7FC00000
  q : Nat := 0x7FC00000
  i : Nat := 0x7FC00000
  quality : Nat := 0x10
  flags : Nat := 0
  totals : List (Nat × List Rat) := []
  deriving DecidableEq, Repr

/-- A save set in the Archive (R392, R393): DRAFT_ID, GRID at the save, the freeze time where it is the copy saved at a power fail,
the flow points. -/
structure EnergySave where
  draftId : Nat
  time : Nat
  freeze : Option Nat
  points : SMap FlowPoint
  deriving DecidableEq, Repr

/-- A pulse output (R395): c (none: not driven), pulses waiting, whether its ball is high or its low time runs, and MONO at which that
time ends. -/
structure PulseOut where
  c : Option Nat := none
  backlog : Nat := 0
  high : Bool := false
  ends : Option Nat := none
  deriving DecidableEq, Repr

/-- ENERGY beyond its registers: flow points, pulse outputs, MONO of the last save, the bank saved last, the freeze time while frozen,
the freeze time of an interruption not yet resumed, the time of the save a restore took (R394). -/
structure EnergySt where
  points : SMap FlowPoint := []
  pulses : SMap PulseOut := []
  savedAt : Nat := 0
  bank : Nat := 0
  frozen : Option Nat := none
  resume : Option Nat := none
  restored : Option Nat := none
  deriving DecidableEq, Repr

/-- The energy part of the Archive save areas: two banks and the copy saved at a power fail. They outlast every reset. -/
structure EnergySaves where
  bankA : Option EnergySave := none
  bankB : Option EnergySave := none
  flush : Option EnergySave := none
  deriving DecidableEq, Repr

/-- A re-plan under way (R442): whether it is the hourly one; the island that had the least margin and its margin before the AVS step
now waited for, with the size of that step in mV; MONO of that write. -/
structure Replan where
  hourly : Bool
  worst : Nat := 0
  old : Int := 0
  step : Nat := 0
  at' : Nat := 0
  deriving DecidableEq, Repr

/-- CLOCK beyond its registers: islands whose PLL is being relocked, with MONO of the loss; the corrected margins last measured, in
0.01 %; the re-plan under way; an AVS write not yet checked (request, whether it is the repeat) with MONO of it; the request that
AVS_SET asked for, with MONO of the last step; hourly runs in a row with every margin at or above HIGH; MONO of the last hourly run and of the last forecast;
the sums and counts of today's m_c by island; the date and day of the last alarm by island; the old request while the VDD_CORE
threshold is taken from the lower of two, with MONO at which that ends. -/
structure ClockSt where
  relock : SMap Nat := []
  margins : SMap Int := []
  replan : Option Replan := none
  avs : Option (Nat × Bool × Nat) := none
  target : Option Nat := none
  avsAt : Nat := 0
  highRuns : Nat := 0
  hourAt : Nat := 0
  dayAt : Nat := 0
  today : SMap (Int × Nat) := []
  alarms : SMap (Nat × Nat) := []
  oldReq : Option (Nat × Nat) := none
  deriving DecidableEq, Repr

/-- What the Archive keeps for CLOCK (R441, R442, R444): the AVS request in mV with the address, exponent and PEC it was written with
(none: never written); derate steps and sensitivities (0.01 % per 10 mV) by island; daily means of m_c by island, newest first, each its day
and value in 0.01 %. -/
structure AgeSave where
  request : Nat := 750
  target : Option (Nat × Nat × Bool) := none
  steps : SMap Nat := []
  sens : SMap Int := []
  means : SMap (List (Nat × Int)) := []
  deriving DecidableEq, Repr

/-- A UART load under way (R460): 0 draft, 1 card, 2 patch; card slot of a card; the length given; the bytes received; whether the
present block has failed once; MONO of the last byte. -/
structure UartLoad where
  kind : Nat
  card : Nat
  length : Nat
  bytes : List Byte := []
  failed : Bool := false
  last : Nat
  deriving DecidableEq, Repr

/-- HOST, MONITOR and JTAG beyond their registers: the level of `PERST_N`, MONO since which the PCIe link has been down (none: up);
MONO of the last monitor line; a change of the line rate (rate, MONO at which it is made) and a rate on trial with MONO of the
change; the UART load; the JTAG instruction in force (R461: 0 BYPASS, 1 IDCODE, 2 SAMPLE/PRELOAD, 3 EXTEST, 4 HIGHZ, 5 CLAMP) and the boundary
register's bits (one per output ball, in the order of `scanBalls`); whether a `cmd` of the monitor waits for DONE. -/
structure HostSt where
  perst : Bool := false
  downSince : Option Nat := some 0
  lineAt : Option Nat := none
  baud : Option (Nat × Nat) := none
  trial : Option Nat := none
  uart : Option UartLoad := none
  jtag : Nat := 0
  boundary : Nat := 0
  cmdWaits : Bool := false
  deriving DecidableEq, Repr

/-- The state of one module. The registers that hold no structure of their own stand in `regs` by BAR0 offset; a register
not listed there holds its reset value (`RegMap.resetValue`). -/
structure State where
  /-- The commands that wait, first in first out. -/
  pending : List Instr
  /-- The module is in internal reset, every ball released, until the next power-on reset (R425, R426). -/
  held : Bool
  /-- The straps sampled at the release of PORST_N: BOOT_SEL, MODID, CLAIM_MODE (R10). -/
  boot : Nat × Nat × Nat
  /-- The time bases (R68). -/
  bases : Bases
  /-- The registers, by BAR0 offset, that differ from their reset values. -/
  regs : SMap Word
  /-- High-word snapshots of R6, by path (0 host, 1 monitor) × 2³² + the high register's offset (R467). -/
  snaps : SMap Word
  /-- The interrupt registers of each block (R472). -/
  irq : SMap IrqBlk
  /-- The Ledger (R399 to R417). -/
  ledger : LedgerSt
  /-- The draft shadow and what is pending on it. -/
  draft : DraftSt
  /-- The Archive (R26), 128 MiB; an unlisted byte reads 0xFF. -/
  archive : SMap Byte
  /-- The Stacks (R25), 16 GiB; an unlisted byte reads 0. -/
  stk : SMap Byte
  /-- What the module has driven to the outside, newest first. -/
  out : List Output
  /-- The model's own: how many free values have been drawn. -/
  freeCount : Nat
  /-- TIME beyond its registers. -/
  time : TimeSt
  /-- The voting lanes, the alarm balls and GOOSE publishing. -/
  vote : VoteSt
  /-- FAULT beyond its registers. -/
  fault : FaultSt
  /-- PAIR beyond its registers. -/
  pair : PairSt
  /-- POWER beyond its registers, resets under way and accesses that wait for a domain. -/
  power : PowerSt
  /-- The hardware queues by number. -/
  queues : SMap QueueSt
  /-- PORT beyond its registers. -/
  port : PortSt
  /-- Frames that wait at the Heddle input, in order (R94). -/
  hedQ : List HedFrame
  /-- Heddle beyond its registers. -/
  heddle : HeddleSt
  /-- Thread items on their way to Reed. -/
  reedQ : List Item
  /-- Waveform samples on their way to the estimator, the detectors and capture. -/
  waveQ : List WaveSample
  /-- Trigger input changes that wait for CAPT. -/
  inputQ : List InputEvent
  /-- Reed beyond its registers. -/
  reed : ReedSt
  /-- Items on their way to the Loom, slot tags in their time field. -/
  loomQ : List Item
  /-- The Loom beyond its registers and the Stacks. -/
  loom : LoomSt
  /-- SLV beyond its registers. -/
  slv : SlvSt
  /-- CAPT beyond its registers and the Stacks. -/
  capt : CaptSt
  /-- SHUTTLE beyond its registers. -/
  shuttle : ShuttleSt
  /-- OSC beyond its registers and the Archive. -/
  osc : OscSt
  /-- ISLE beyond its registers. -/
  isle : IsleSt
  /-- ENERGY beyond its registers. -/
  energy : EnergySt
  /-- The energy save sets in the Archive (R392, R393). -/
  saves : EnergySaves
  /-- CLOCK beyond its registers. -/
  clock : ClockSt
  /-- What the Archive keeps for CLOCK (R441 to R444); it outlasts every reset. -/
  ageing : AgeSave
  /-- HOST, MONITOR and JTAG beyond their registers. -/
  host : HostSt
  /-- One-time memory: the SHA-256 of the public key of each programmed key slot (R47). -/
  keyHashes : SMap (List Byte)
  deriving DecidableEq, Repr

/-- The module right after the power-on reset of R425, as shipped (R492): BOOT_SEL 00, the ledger start-up of R405 done,
POWER_ON staged as the first record. The values the spec does not give are named in log 2. -/
def State.reset : State where
  pending := []
  held := false
  boot := (0, 0, 0)
  bases := {}
  regs := []
  snaps := []
  irq := []
  ledger := { staging := [LedRec.powerOn], next := 2, powerCycles := 1, savedCycles := 1, cEvents := 1, cRecords := 1 }
  draft := {}
  archive := []
  stk := []
  out := []
  freeCount := 0
  time := {}
  vote := {}
  fault := {}
  pair := {}
  power := {}
  queues := []
  port := {}
  hedQ := []
  heddle := {}
  reedQ := []
  waveQ := []
  inputQ := []
  reed := {}
  loomQ := []
  loom := {}
  slv := {}
  capt := {}
  shuttle := {}
  osc := {}
  isle := {}
  energy := {}
  saves := {}
  clock := {}
  ageing := {}
  host := {}
  keyHashes := []

end Sys2Proof.Machine
end

