-- ==== Sys2Proof/Machine/Update.lean ====
section
/-!
DEFINITION. Sys2Proof/Machine/Update.lean: the updates of one part of the state. Every operation changes the state through
these, so that what an operation leaves alone is read off its text.
-/

namespace Sys2Proof.Machine

def State.setPending (s : State) (x : List Instr) : State := { s with pending := x }
def State.setHeld (s : State) (x : Bool) : State := { s with held := x }
def State.setBoot (s : State) (x : Nat × Nat × Nat) : State := { s with boot := x }
def State.setBases (s : State) (x : Bases) : State := { s with bases := x }
def State.setRegs (s : State) (x : SMap Word) : State := { s with regs := x }
def State.setSnaps (s : State) (x : SMap Word) : State := { s with snaps := x }
def State.setIrq (s : State) (x : SMap IrqBlk) : State := { s with irq := x }
def State.setLedger (s : State) (x : LedgerSt) : State := { s with ledger := x }
def State.setDraft (s : State) (x : DraftSt) : State := { s with draft := x }
def State.setArchive (s : State) (x : SMap Byte) : State := { s with archive := x }
def State.setStk (s : State) (x : SMap Byte) : State := { s with stk := x }
def State.setOut (s : State) (x : List Output) : State := { s with out := x }
def State.setFreeCount (s : State) (x : Nat) : State := { s with freeCount := x }
def State.setTime (s : State) (x : TimeSt) : State := { s with time := x }
def State.setVote (s : State) (x : VoteSt) : State := { s with vote := x }
def State.setFault (s : State) (x : FaultSt) : State := { s with fault := x }
def State.setPair (s : State) (x : PairSt) : State := { s with pair := x }
def State.setPower (s : State) (x : PowerSt) : State := { s with power := x }
def State.setQueues (s : State) (x : SMap QueueSt) : State := { s with queues := x }
def State.setPort (s : State) (x : PortSt) : State := { s with port := x }
def State.setHedQ (s : State) (x : List HedFrame) : State := { s with hedQ := x }
def State.setHeddle (s : State) (x : HeddleSt) : State := { s with heddle := x }
def State.setReedQ (s : State) (x : List Item) : State := { s with reedQ := x }
def State.setWaveQ (s : State) (x : List WaveSample) : State := { s with waveQ := x }
def State.setInputQ (s : State) (x : List InputEvent) : State := { s with inputQ := x }
def State.setReed (s : State) (x : ReedSt) : State := { s with reed := x }
def State.setLoomQ (s : State) (x : List Item) : State := { s with loomQ := x }
def State.setLoom (s : State) (x : LoomSt) : State := { s with loom := x }
def State.setSlv (s : State) (x : SlvSt) : State := { s with slv := x }
def State.setCapt (s : State) (x : CaptSt) : State := { s with capt := x }
def State.setShuttle (s : State) (x : ShuttleSt) : State := { s with shuttle := x }
def State.setOsc (s : State) (x : OscSt) : State := { s with osc := x }
def State.setIsle (s : State) (x : IsleSt) : State := { s with isle := x }
def State.setEnergy (s : State) (x : EnergySt) : State := { s with energy := x }
def State.setSaves (s : State) (x : EnergySaves) : State := { s with saves := x }
def State.setClock (s : State) (x : ClockSt) : State := { s with clock := x }
def State.setAgeing (s : State) (x : AgeSave) : State := { s with ageing := x }
def State.setHost (s : State) (x : HostSt) : State := { s with host := x }
def State.setKeyHashes (s : State) (x : SMap (List Byte)) : State := { s with keyHashes := x }

end Sys2Proof.Machine
end

