-- ==== Sys2Proof/Machine/Ops.lean ====
section
/-!
DEFINITION. Sys2Proof/Machine/Ops.lean: the named operations every command is written with: tables keyed by number, the byte
memories, registers and their fields, counters, outputs, free values.
-/

namespace Sys2Proof.Machine

/-! Tables. -/

/-- The entry of a key, if there is one. -/
def smFind {α : Type} : SMap α → Nat → Option α
  | [], _ => none
  | (a, v) :: m, k => if a = k then some v else smFind m k

/-- The entry of a key, or the given value where there is none. -/
def smGet {α : Type} (d : α) (m : SMap α) (k : Nat) : α := (smFind m k).getD d

/-- Put an entry in its place; keys rise. -/
def smPut {α : Type} : SMap α → Nat → α → SMap α
  | [], k, v => [(k, v)]
  | (a, w) :: m, k, v => if k < a then (k, v) :: (a, w) :: m else if a = k then (k, v) :: m else (a, w) :: smPut m k v

/-- Take a key's entry out. -/
def smDel {α : Type} (m : SMap α) (k : Nat) : SMap α := m.filter (fun e => e.1 != k)

/-- Change a key's entry, starting from the given value where there is none. -/
def smMod {α : Type} (d : α) (m : SMap α) (k : Nat) (f : α → α) : SMap α := smPut m k (f (smGet d m k))

/-- Write a value in a table whose unlisted keys read as `d`: writing `d` takes the entry out, so that equal contents are
equal tables. -/
def smWrite {α : Type} [DecidableEq α] (d : α) (m : SMap α) (k : Nat) (v : α) : SMap α :=
  if v = d then smDel m k else smPut m k v

/-- Keys strictly rise. -/
def smSorted {α : Type} : SMap α → Bool
  | [] => true
  | [_] => true
  | (a, _) :: (b, w) :: m => decide (a < b) && smSorted ((b, w) :: m)

/-- The canonical form of a memory whose unlisted addresses read as `d`. -/
def Memory.wf {α : Type} [DecidableEq α] (d : Nat → α) (m : SMap α) : Bool :=
  smSorted m && m.all (fun e => decide (e.2 ≠ d e.1))

/-! Bytes and numbers. Multi-byte fields of drafts and records are little-endian (R32, R399); frames are big-endian. -/

/-- `n` bytes of a number, least significant first. -/
def leBytes : Nat → Nat → List Byte
  | 0, _ => []
  | n + 1, v => BitVec.ofNat 8 v :: leBytes n (v / 256)

/-- The number a list of bytes holds, least significant first. -/
def leNat : List Byte → Nat
  | [] => 0
  | b :: r => b.toNat + 256 * leNat r

/-- The number a list of bytes holds, most significant first. -/
def beNat (l : List Byte) : Nat := l.foldl (fun a b => 256 * a + b.toNat) 0

/-- `n` bytes of a number, most significant first. -/
def beBytes (n v : Nat) : List Byte := (leBytes n v).reverse

/-- `n` bytes of a list from an offset on. -/
def slice (l : List Byte) (off n : Nat) : List Byte := (l.drop off).take n

/-- A little-endian field of `n` bytes. -/
def leAt (l : List Byte) (off n : Nat) : Nat := leNat (slice l off n)

/-- A big-endian field of `n` bytes. -/
def beAt (l : List Byte) (off n : Nat) : Nat := beNat (slice l off n)

/-- Bits `hi` to `lo` of a number. -/
def bits (v hi lo : Nat) : Nat := (v >>> lo) % 2 ^ (hi + 1 - lo)

/-- Bit `i` of a number. -/
def bit (v i : Nat) : Bool := v.testBit i

/-- A number of `w` bits read as two's complement. -/
def signed (w v : Nat) : Int := if v % 2 ^ w < 2 ^ (w - 1) then (v % 2 ^ w : Nat) else (v % 2 ^ w : Nat) - (2 ^ w : Nat)

/-- An integer as a number of `w` bits, two's complement. -/
def unsigned (w : Nat) (i : Int) : Nat := (i % (2 ^ w : Nat)).toNat

/-- An integer held in a signed 32-bit register that saturates. -/
def satSigned32 (i : Int) : Nat := unsigned 32 (max (-(2 ^ 31 : Int)) (min (2 ^ 31 - 1) i))

/-- A number held in an unsigned 32-bit register that saturates. -/
def sat32 (n : Nat) : Nat := min n (2 ^ 32 - 1)

/-- The bits set among the first `n`, as a number, of a test. -/
def bitsOf (n : Nat) (f : Nat → Bool) : Nat := (List.range n).foldl (fun a i => if f i then a + 2 ^ i else a) 0

/-! Byte memories. -/

/-- What an unlisted byte of the Archive reads as: erased, 0xFF. DESIGN CHOICE (log 4). -/
def archiveDefault (_ : Nat) : Byte := 0xFF

/-- What an unlisted byte of the Stacks or of SRAM reads as: 0. DESIGN CHOICE (log 4). -/
def ramDefault (_ : Nat) : Byte := 0

/-- `n` bytes of a memory from an address on. -/
def memRead (d : Byte) (m : SMap Byte) : Nat → Nat → List Byte
  | _, 0 => []
  | a, n + 1 => smGet d m a :: memRead d m (a + 1) n

/-- Store bytes at an address. -/
def memStore (d : Byte) : SMap Byte → Nat → List Byte → SMap Byte
  | m, _, [] => m
  | m, a, b :: r => memStore d (smWrite d m a b) (a + 1) r

/-- Give `n` bytes from an address on their unlisted value. -/
def memClear (m : SMap Byte) (a n : Nat) : SMap Byte := m.filter (fun e => !(decide (a ≤ e.1) && decide (e.1 < a + n)))

/-! The register map. -/

/-- Does the row hold the register at this offset of its block? -/
def RegRow.covers (r : RegRow) (off : Nat) : Bool :=
  decide (r.off ≤ off) &&
    (if r.stride = 0 then decide (off = r.off)
     else (off - r.off) % r.stride == 0 && decide ((off - r.off) / r.stride < r.count))

/-- The row of a register by its BAR0 offset: the block's own tables first, then the common header (R470, R472). CAT (16 to
23) and block 31 have neither. -/
def regRow (addr : Nat) : Option RegRow :=
  let b := addr / 2 ^ 20
  let off := addr % 2 ^ 20
  match (RegMap.ofBlock b).find? (fun r => r.covers off) with
  | some r => some r
  | none => if (16 ≤ b ∧ b ≤ 23) ∨ 31 ≤ b then none else RegMap.header.find? (fun r => r.covers off)

/-- A row's value with each of its fields at its reset value. -/
def RegRow.value (r : RegRow) : Nat := r.fields.foldl (fun a f => a + f.value * 2 ^ f.lo) 0

/-- The reset value of the register at a BAR0 offset: what it holds while the table of registers does not list it. ID and
the check engines' ALGO are constants of their block and engine (R472, R423). -/
def RegMap.resetValue (addr : Nat) : Word :=
  match regRow addr with
  | none => 0
  | some r =>
    let b := addr / 2 ^ 20
    let off := addr % 2 ^ 20
    if off = 0 then BitVec.ofNat 32 (2 ^ 16 * (0x100 + b) + 2 ^ 8 * (if b = 0 then Config.siliconRevision else 1) + b)
    else if b = 25 ∧ 0x1000 ≤ off ∧ (off - 0x1000) % 0x40 = 0 then BitVec.ofNat 32 (r.value + 2 ^ 24 * (((off - 0x1000) / 0x40)))
    else if b = 12 ∧ 0x1400 ≤ off ∧ off < 0x1800 ∧ off % 0x40 = 0 then BitVec.ofNat 32 (r.value + 4)
    else BitVec.ofNat 32 r.value

/-! Registers. -/

/-- A register's word as held. -/
def State.reg (s : State) (addr : Nat) : Word := (smFind s.regs addr).getD (RegMap.resetValue addr)

/-- A register's word as a number. -/
def State.regN (s : State) (addr : Nat) : Nat := (s.reg addr).toNat

/-- Hold a word in a register. -/
def State.putReg (s : State) (addr : Nat) (v : Nat) : State :=
  s.setRegs (smWrite (RegMap.resetValue addr) s.regs addr (BitVec.ofNat 32 v))

/-- A number with bits `hi` to `lo` replaced. -/
def withBits (w hi lo v : Nat) : Nat :=
  w - (bits w hi lo) * 2 ^ lo + (v % 2 ^ (hi + 1 - lo)) * 2 ^ lo

/-- A field's value. -/
def State.fld (s : State) (f : Fld) : Nat := bits (s.regN f.addr) f.hi f.lo

/-- Hold a value in a field; the register's other fields stay. -/
def State.putFld (s : State) (f : Fld) (v : Nat) : State := s.putReg f.addr (withBits (s.regN f.addr) f.hi f.lo v)

/-- Is a one-bit field set? -/
def State.isSet (s : State) (f : Fld) : Bool := s.fld f != 0

/-- Add to a wrapping counter register (R474 and the counter lists). -/
def State.count (s : State) (addr : Nat) (n : Nat := 1) : State := s.putReg addr ((s.regN addr + n) % 2 ^ 32)

/-- Add to a saturating counter register. -/
def State.countSat (s : State) (addr : Nat) (n : Nat := 1) : State := s.putReg addr (sat32 (s.regN addr + n))

/-- Hold a 64-bit value in a LO and HI pair. -/
def State.putPair (s : State) (lo : Nat) (v : Nat) : State := (s.putReg lo (v % 2 ^ 32)).putReg (lo + 4) (v / 2 ^ 32 % 2 ^ 32)

/-- A 64-bit value held in a LO and HI pair. -/
def State.pairAt (s : State) (lo : Nat) : Nat := s.regN lo + 2 ^ 32 * s.regN (lo + 4)

/-- Drive something to the outside. -/
def State.emit (s : State) (o : Output) : State := s.setOut (o :: s.out)

/-- The boundary register drives or releases the balls: EXTEST, HIGHZ or CLAMP is in force (R461). -/
def State.scanned (s : State) : Bool := decide (3 ≤ s.host.jtag)

/-- The device drives a ball, unless the scan chain has it. -/
def State.drive (s : State) (b : Ball) (level : Bool) : State := if s.scanned then s else s.emit (.ball b level)

/-- The output balls of the boundary register: bit n of `host.boundary` is that of ball n (log 41). -/
def scanBalls : List Ball :=
  [.alarm 0, .alarm 1, .alarm 2, .alarm 3, .alarm 4, .alarm 5, .alarm 6, .alarm 7, .health, .intlk, .epulse 0, .epulse 1, .epulse 2,
   .epulse 3, .pps, .pulse 0, .pulse 1, .pulse 2, .pulse 3, .flushDone]

/-- The next free value's number, drawn. -/
def State.draw (s : State) : State := s.setFreeCount (s.freeCount + 1)

/-- A 32-bit value the spec leaves open. -/
def State.free32 (s : State) : Nat := (Config.freeWord32 s.freeCount).toNat

/-! The modes (R61) and the domains (R21, R433). -/

/-- The mode index in force. -/
def State.mode (s : State) : Nat := s.fld F.GLOBAL_MODE_MODE

/-- A domain's state (0 ON, 1 RETAIN, 2 OFF, 3 ABSENT), by its bit in `DRAFT_DOMAINS`; 16 is PD_AON, always ON. -/
def State.domain (s : State) (d : Nat) : Nat :=
  if d ≥ 16 then 0 else bits (s.regN R.POWER_DOMAIN_STATE) (2 * d + 1) (2 * d)

/-- Put a domain in a state. -/
def State.putDomain (s : State) (d v : Nat) : State :=
  if d ≥ 16 then s else s.putReg R.POWER_DOMAIN_STATE (withBits (s.regN R.POWER_DOMAIN_STATE) (2 * d + 1) (2 * d) v)

/-- Domain numbers (the bit order of `DRAFT_DOMAINS`). -/
abbrev pdCtrl : Nat := 0
abbrev pdHost : Nat := 1
abbrev pdNetA : Nat := 2
abbrev pdNetB : Nat := 3
abbrev pdSlv : Nat := 4
abbrev pdTime : Nat := 5
abbrev pdHeddle : Nat := 6
abbrev pdReed : Nat := 7
abbrev pdLoom : Nat := 8
abbrev pdAna : Nat := 9
abbrev pdShuttle : Nat := 10
abbrev pdStacks : Nat := 11
abbrev pdLaneA : Nat := 12
abbrev pdLaneB : Nat := 13
abbrev pdLaneC : Nat := 14
abbrev pdArchive : Nat := 15

/-! Time (R68 to R70). -/

/-- The servo state code (R75). -/
def State.servo (s : State) : Nat := s.fld F.TIME_STATUS_SERVO

/-- Is TEST the active time base (R69)? -/
def State.onTest (s : State) : Bool := s.mode == 9

/-- The active time base's value (R69). -/
def State.now (s : State) : Nat := if s.onTest then s.bases.test else s.bases.grid

/-- Whole steps of a rate in parts per billion over `dt` ns, with the fraction carried (in 10⁻⁹ ns). -/
def rateStep (dt : Nat) (ppb frac : Int) : Int × Int :=
  let x := (dt : Int) * ppb + frac
  (x.fdiv 1000000000, x.fmod 1000000000)

/-- How far a pending slew moves GRID in `dt` ns, at most SLEW_MAX ns per second (R75), and the part of a ns that SLEW_MAX allows
beyond it, in 10⁻⁹ ns, carried to the next advance. -/
def slewStep (slew : Int) (maxPerSec dt : Nat) (frac : Int) : Int × Int :=
  let lim := rateStep dt maxPerSec frac
  (max (-lim.1) (min lim.1 slew), lim.2)

/-- The time bases carried forward to MONO = `t` (R68, R70): MONO never moves backward and takes steps of 40 ns while PD_TIME
is not ON; GRID runs, with its pending slew, while PD_TIME is ON; TEST runs at GRID's rate, slew and all, × (1 + TEST_RATE)
while TEST_RUN is set. -/
def advanceBases (s : State) (t : Nat) (slew : Int) : Bases × Int :=
  let b := s.bases
  let on := s.domain pdTime == 0
  let dt := if on then t - b.mono else (t - b.mono) / 40 * 40
  if !on then ({ b with mono := b.mono + dt }, slew)
  else
    let m := slewStep slew (s.fld F.TIME_SERVO_CFG_SLEW_MAX) dt b.gridFrac
    let d := m.1
    let g := ((b.grid : Int) + dt + d).toNat
    let r := rateStep ((dt : Int) + d).toNat (signed 32 (s.regN R.TIME_TEST_RATE)) b.testFrac
    let run := s.isSet F.TIME_CTRL_TEST_RUN
    ({ b with
        mono := b.mono + dt
        grid := g
        gridFrac := m.2
        aux := b.aux + dt
        test := if run then ((b.test : Int) + dt + d + r.1).toNat else b.test
        testFrac := if run then r.2 else b.testFrac }, slew - d)

end Sys2Proof.Machine
end

