-- ==== Sys2Proof/Machine/Block.lean ====
section
/-!
DEFINITION. Sys2Proof/Machine/Block.lean: what every register block shares: interrupt causes and their vectors (R452, R472),
events reaching the Ledger (R402 to R404), rejected writes (R473), host errors (R455) and command issue (R474).
-/

namespace Sys2Proof.Machine

/-! The passage of time. -/

/-- The state at MONO = `t`: every command happens at its time (R68, log 1). -/
def State.at (s : State) (t : Nat) : State :=
  let r := advanceBases s t s.time.slew
  (s.setBases r.1).setTime { s.time with slew := r.2, slewed := s.time.slewed + (s.time.slew - r.2) }

/-- A command's effect `f` at its time. While the module is in internal reset, nothing but the power-on reset has an effect
(R426). -/
def run (t : Nat) (f : State → State) (s : State) : Host.Outcome State Fault Refusal :=
  if s.held then .next s else .next (f (s.at t))

/-! Interrupts. -/

/-- A block's interrupt registers. -/
def State.irqOf (s : State) (b : Nat) : IrqBlk := smGet {} s.irq b

/-- Is a cause of the block pending and enabled? -/
def IrqBlk.pending (i : IrqBlk) : Bool := (i.status &&& i.enable) != 0

/-- Signal a vector: a masked vector sets its PBA bit (R452); in D3hot nothing is sent (R454). -/
def State.signal (s : State) (v : Nat) : State :=
  if s.isSet (F.HOST_MSIXn_CTRL_MASK v) then
    s.putReg (R.HOST_PBAn (v / 32)) (s.regN (R.HOST_PBAn (v / 32)) ||| 2 ^ (v % 32))
  else if s.fld F.HOST_STATUS_D_STATE = 0 then s.emit (.msix v)
  else s

/-- A cause is set, by hardware or by IRQ_SET: counted, and the vector signalled when the enabled causes change from none
to some (R452, R472). -/
def State.raise (s : State) (c : Nat × Nat) : State :=
  let i := s.irqOf c.1
  let j := { i with status := i.status ||| BitVec.ofNat 32 (2 ^ c.2), count := i.count + 1 }
  let s := s.setIrq (smPut s.irq c.1 j)
  if j.pending && !i.pending then s.signal c.1 else s

/-! The Ledger: an event reaches it. -/

/-- OP_SECONDS (R399, R405): the seconds saved at start-up and those of MONO since. -/
def State.opSeconds (s : State) : Nat := s.ledger.opSeconds + s.bases.mono / 1000000000

/-- Codes that the owning chapters mark as coalesced or counted per burst (R403), and every REQUEST_REFUSED (R474). -/
def burstCodes : List Nat :=
  [E.REED_CHECK_RETRY, E.LOOM_CHECK_RETRY, E.LOOM_AHEAD_DROP, E.OSC_TRACKER_STALE, E.OSC_CHECK_RETRY, E.ISLE_CHECK_RETRY,
   E.ISLE_CONFIRM_BLOCKED, E.VOTE_LANE_RESYNC, E.VOTE_PIN_MISMATCH, E.VOTE_CHECK_RETRY, E.FAULT_TRANSIENT, E.SLV_RETRY,
   E.SLV_SLOT_SKIPPED, E.SLV_OVER_BUDGET, E.SLV_AGE_SKEW, E.SHUTTLE_SLOT_SKIPPED, E.SHUTTLE_KEY_MISSING, E.CAPT_CAPT_MISSED,
   E.LEDGER_WRITE_RETRY, E.LEDGER_OVERWRITE, E.CLOCK_CANARY_ERROR, E.HOST_HOSTERR] ++
  [E.PORT_SLOW_RATE_LIMIT, E.PORT_BUF_OVERFLOW, E.HEDDLE_AUTH_FAIL, E.HEDDLE_GOOSE_CONFREV, E.REED_EST_RANGE,
   E.REED_DF_MISSING, E.LOOM_LATE_QFULL, E.OSC_SHAPE_QFULL, E.ENERGY_INTERVAL_QFULL, E.VOTE_EVENT_QFULL, E.ENERGY_PULSE_BACKLOG, E.SLV_RX_QFULL,
   E.QUEUE_LOST] ++
  [E.DRAFT_REQUEST_REFUSED, E.TIME_REQUEST_REFUSED, E.PORT_REQUEST_REFUSED, E.HEDDLE_REQUEST_REFUSED, E.REED_REQUEST_REFUSED,
   E.LOOM_REQUEST_REFUSED, E.OSC_REQUEST_REFUSED, E.ISLE_REQUEST_REFUSED, E.VOTE_REQUEST_REFUSED, E.FAULT_REQUEST_REFUSED,
   E.PAIR_REQUEST_REFUSED, E.SLV_REQUEST_REFUSED, E.SHUTTLE_REQUEST_REFUSED, E.QUEUE_REQUEST_REFUSED, E.CAPT_REQUEST_REFUSED,
   E.ENERGY_REQUEST_REFUSED, E.LEDGER_REQUEST_REFUSED, E.CHECK_REQUEST_REFUSED, E.POWER_REQUEST_REFUSED,
   E.CLOCK_REQUEST_REFUSED, E.MONITOR_MON_REQUEST_REFUSED, E.GLOBAL_REQUEST_REFUSED]

/-- SOURCE of a record whose payload names no unit (R400). -/
abbrev noSource : Nat := 0xFFFF

/-- Payload bytes padded with 0 to their 16 places (R400). -/
def pad (n : Nat) (l : List Byte) : List Byte := (l ++ List.replicate (n - l.length) 0).take n

/-- A new record of an event (R399, R401): its time on the active base, FLAGS, the mode. Payload past 16 bytes continues
into AUX (R400). -/
def newRecord (s : State) (code src : Nat) (payload : List Byte) (continued : Bool) : LedRec where
  acc := s.ledger.next
  opSec := s.opSeconds
  cycles := s.ledger.powerCycles
  event := code
  tai := if s.isSet F.TIME_STATUS_EVER_LOCKED then s.now else 0
  source := src % 2 ^ 16
  repeats := 1
  flags := (if s.isSet F.TIME_STATUS_EVER_LOCKED then 1 else 0) + (if s.onTest then 8 else 0) + (if continued then 16 else 0)
  mode := s.mode
  payload := pad 16 payload
  aux := pad 8 (payload.drop 16)
  epoch := s.ledger.epoch
  isOpen := s.regN R.LEDGER_COALESCE_MS != 0
  last := s.bases.mono

/-- May the event coalesce into the record (R403)? -/
def coalesces (s : State) (r : LedRec) (payload : List Byte) : Bool :=
  r.isOpen && decide (s.bases.mono < r.last + 1000000 * (s.regN R.LEDGER_COALESCE_MS)) &&
    (burstCodes.contains r.event || r.payload == pad 16 payload)

/-- Apply `f` to the newest record with this event and source. -/
def onNewest (l : List LedRec) (code src : Nat) (f : LedRec → LedRec) : List LedRec :=
  (l.reverse.foldl (fun (acc : List LedRec × Bool) r =>
    if !acc.2 && r.event == code && r.source == src % 2 ^ 16 then (f r :: acc.1, true) else (r :: acc.1, acc.2))
    ([], false)).1

/-- The newest staged record with this event and source. -/
def newest (l : List LedRec) (code src : Nat) : Option LedRec :=
  l.reverse.find? (fun r => r.event == code && r.source == src % 2 ^ 16)

/-- A record with one more repeat (R403): REPEAT, COALESCED, and the event's time as LAST_TAI. -/
def repeated (s : State) (r : LedRec) : LedRec :=
  { r with repeats := r.repeats + 1, flags := r.flags ||| 4, last := s.bases.mono
           aux := leBytes 8 (if s.isSet F.TIME_STATUS_EVER_LOCKED then s.now else 0) }

/-- A LOST record's payload (R404). -/
def lostPayload (count firstTai firstEvent cause : Nat) : List Byte :=
  leBytes 4 (sat32 count) ++ leBytes 8 firstTai ++ leBytes 2 firstEvent ++ leBytes 1 cause ++ [0]

/-- A state message is sent on the mirror link (R305): only the holder sends state, only while the link is up and, INTENT
apart, while the DRAFT_IDs are equal (R304). -/
def State.mirrorSend (s : State) (kind : Nat) (content : List Byte) : State :=
  if s.isSet F.PAIR_STATUS_HOLDING && s.isSet F.PAIR_STATUS_MIRROR_UP && (kind == 1 || !s.isSet F.PAIR_STATUS_DRAFT_MISMATCH) then
    let s := s.setSlv { s.slv with mirrorQ := s.slv.mirrorQ ++ [(kind, content)] }
    (s.count R.PAIR_MIRROR_SENT).emit (.mirror kind content)
  else s

/-- Bytes 0x00 to 0x3B of a record (R399). -/
def LedRec.bytes (r : LedRec) : List Byte :=
  leBytes 6 r.acc ++ leBytes 5 r.opSec ++ leBytes 3 r.cycles ++ leBytes 2 r.event ++ leBytes 8 r.tai ++ leBytes 2 r.source ++
    leBytes 2 r.repeats ++ leBytes 2 r.flags ++ leBytes 2 r.mode ++ pad 16 r.payload ++ pad 8 r.aux ++ leBytes 4 r.epoch

/-- The record those bytes hold, closed. -/
def LedRec.ofBytes (l : List Byte) : LedRec where
  acc := leAt l 0 6
  opSec := leAt l 6 5
  cycles := leAt l 0x0B 3
  event := leAt l 0x0E 2
  tai := leAt l 0x10 8
  source := leAt l 0x18 2
  repeats := leAt l 0x1A 2
  flags := leAt l 0x1C 2
  mode := leAt l 0x1E 2
  payload := pad 16 (slice l 0x20 16)
  aux := pad 8 (slice l 0x30 8)
  epoch := leAt l 0x38 4
  isOpen := false
  last := 0

/-- LEDGER messages (R305): the next accession number, the written watermark, the staged record. -/
def State.mirrorRecord (s : State) : State :=
  match s.ledger.staging.getLast? with
  | some r => s.mirrorSend 5 (leBytes 6 s.ledger.next ++ leBytes 6 s.ledger.written ++ r.bytes)
  | none => s

/-- An event finds the 4,095 common entries full: it opens or adds to the LOST record, or is counted behind a closed one
(R404). -/
def lostEvent (s : State) (code : Nat) : State :=
  let l := { s.ledger with cLost := (s.ledger.cLost + 1) % 2 ^ 32 }
  match l.lost with
  | none =>
    let r := { newRecord s 0xC001 noSource (lostPayload 1 s.now code 0) false with isOpen := true }
    (s.setLedger { l with lost := some r, next := l.next + 1, cRecords := (l.cRecords + 1) % 2 ^ 32 }).raise I.LEDGER_LOST
  | some r =>
    if r.isOpen then
      s.setLedger { l with lost := some { r with payload := leBytes 4 (sat32 (leAt r.payload 0 4 + 1)) ++ r.payload.drop 4 } }
    else
      s.setLedger { l with further :=
        if l.further.1 = 0 then (1, s.now, code) else (l.further.1 + 1, l.further.2.1, l.further.2.2) }

/-- A loss is reported outside the staging of events (R404): a LOST record opens in the reserved entry, or the loss is counted behind
the one there. -/
def State.reportLoss (s : State) (count tai event cause : Nat) : State :=
  let l := s.ledger
  match l.lost with
  | none =>
    let r := { newRecord s 0xC001 noSource (lostPayload count tai event cause) false with isOpen := decide (4095 ≤ l.staging.length) }
    (s.setLedger { l with lost := some r, next := l.next + 1, cRecords := (l.cRecords + 1) % 2 ^ 32 }).raise I.LEDGER_LOST
  | some _ =>
    s.setLedger { l with further := if l.further.1 = 0 then (count, tai, event) else (l.further.1 + count, l.further.2.1, l.further.2.2) }

/-- The Ledger with one more event counted (R417). -/
def LedgerSt.counted (l : LedgerSt) : LedgerSt := { l with cEvents := (l.cEvents + 1) % 2 ^ 32 }

/-- The Ledger with an event lost after FLUSHED (R405): counted, with the time and the code of the first. -/
def LedgerSt.lose (l : LedgerSt) (now code : Nat) : LedgerSt :=
  { l with cLost := (l.cLost + 1) % 2 ^ 32
           further := if l.further.1 = 0 then (1, now, code) else (l.further.1 + 1, l.further.2.1, l.further.2.2) }

/-- The Ledger with an event joined to the newest record of its code and source. -/
def LedgerSt.join (l : LedgerSt) (code src : Nat) (f : LedRec → LedRec) : LedgerSt :=
  { l with staging := onNewest l.staging code src f, cCoalesced := (l.cCoalesced + 1) % 2 ^ 32 }

/-- The Ledger with the newest record of a code and source closed. -/
def LedgerSt.close (l : LedgerSt) (code src : Nat) : LedgerSt :=
  { l with staging := onNewest l.staging code src (fun r => { r with isOpen := false }) }

/-- The Ledger with a record staged under the next accession number. -/
def LedgerSt.stage (l : LedgerSt) (r : LedRec) : LedgerSt :=
  { l with staging := l.staging ++ [r], next := l.next + 1, cRecords := (l.cRecords + 1) % 2 ^ 32 }

/-- How an event finds the newest record of its code and source: 0 none that it joins, 1 it joins, 2 it would join but REPEAT is full. -/
def joinKind (s : State) (code src : Nat) (payload : List Byte) : Nat :=
  match newest s.ledger.staging code src with
  | some r => if coalesces s r payload then (if 65535 ≤ r.repeats then 2 else 1) else 0
  | none => 0

/-- A record is staged, or lost where the 4,095 common entries are full (R402, R404). -/
def State.stageEvent (s : State) (l : LedgerSt) (code src : Nat) (payload : List Byte) (continued : Bool) : State :=
  if 4095 ≤ l.staging.length then lostEvent (s.setLedger l) code
  else (s.setLedger (l.stage (newRecord s code src payload continued))).mirrorRecord

/-- An event reaches the Ledger (R402, R403): coalesced, staged under the next accession number, or lost. After FLUSHED it
is lost and counted (R405, R430). -/
def State.event (s : State) (code src : Nat) (payload : List Byte) : State :=
  if s.ledger.closed then s.setLedger (s.ledger.counted.lose s.now code)
  else
    match joinKind s code src payload with
    | 1 => s.setLedger (s.ledger.counted.join code src (repeated s))
    | 2 => s.stageEvent (s.ledger.counted.close code src) code src payload true
    | _ => s.stageEvent s.ledger.counted code src payload false

/-- Where the losses of a burst are counted. -/
def burstKey (code src : Nat) : Nat := code * 2 ^ 16 + src % 2 ^ 16

/-- `n` more are lost in a burst, whose record carries how many were lost in it so far, behind `head` (log 49). -/
def State.burst (s : State) (code src : Nat) (head : List Byte) (n : Nat) : State :=
  let k := burstKey code src
  let all := smGet 0 s.ledger.bursts k + n
  (s.setLedger { s.ledger with bursts := smPut s.ledger.bursts k all }).event code src (head ++ leBytes 4 (sat32 all))

/-- Nothing is lost any more: the burst is over. -/
def State.endBurst (s : State) (code src : Nat) : State :=
  s.setLedger { s.ledger with bursts := smDel s.ledger.bursts (burstKey code src) }

/-! Rejected writes and host errors. -/

/-- The block's common-header registers (R472). -/
abbrev hdr (b off : Nat) : Nat := 2 ^ 20 * b + off

/-- A write rejected: its address and path captured, and counted once (R473). CAT and block 31 have no header (R470). -/
def State.reject (s : State) (path : Path) (addr : Nat) : State :=
  let b := addr / 2 ^ 20
  if (16 ≤ b ∧ b ≤ 23) ∨ 31 ≤ b then s else (s.putReg (hdr b 0x80) (2 ^ 31 * path.code + addr % 2 ^ 20)).count (hdr b 0x84)

/-- A host error (R455): its address and cause kept, recorded, its cause raised. `bar` is 0 or 2. -/
def State.hostErr (s : State) (path : Path) (bar cause addr : Nat) : State :=
  let s := s.putPair R.HOST_ERR_ADDR_LO addr
  let s := s.putReg R.HOST_ERR_CAUSE (2 ^ 8 * path.code + 2 ^ 4 * bar + cause)
  let s := if cause = 1 then s.count R.HOST_BAD_ACCESS else if cause = 2 then s.count R.HOST_UNMAPPED
    else if cause = 4 then s.count R.HOST_NOT_MASTER else s
  (s.event E.HOST_HOSTERR noSource (leBytes 1 cause ++ leBytes 1 path.code ++ leBytes 8 addr)).raise I.HOST_HOSTERR

/-- Does the path hold mastership (R457)? -/
def State.master (s : State) (path : Path) : Bool := s.fld F.HOST_MASTER_OWNER == path.code

/-- A write by the path that does not hold mastership: ignored, rejected and recorded (R457). -/
def State.notMaster (s : State) (path : Path) (addr : Nat) : State := (s.reject path addr).hostErr path 0 4 addr

/-! Commands (R474). -/

abbrev stOk : Nat := 0
abbrev stBusy : Nat := 1
abbrev stIllegal : Nat := 2
abbrev stBadArg : Nat := 3
abbrev stNoSpace : Nat := 4
abbrev stAuthFail : Nat := 5
abbrev stTimeout : Nat := 6
abbrev stAbsent : Nat := 7

/-- What a command's own part answers: the state, the status code and the two results; or that it waits, with DONE at 0 (R474). -/
structure CmdResult where
  state : State
  status : Nat := 0
  r0 : Nat := 0
  r1 : Nat := 0
  waits : Bool := false
  deriving DecidableEq, Repr

/-- A command's argument n (R472), sampled when GO is written. -/
def State.arg (s : State) (b n : Nat) : Nat := s.regN (hdr b (0x44 + 4 * n))

/-- A refusal: the state with nothing changed. -/
def refuse (s : State) (status : Nat) : CmdResult := { state := s, status := status }

/-- A completion with nothing to return. -/
def ok (s : State) : CmdResult := { state := s }

/-- A block's REQUEST_REFUSED event code; 0 where its chapter gives none (PORT gives 0x1007; HOST and MONITOR have no
commands). -/
def refusedCode : Nat → Nat
  | 0 => E.GLOBAL_REQUEST_REFUSED
  | 1 => E.DRAFT_REQUEST_REFUSED
  | 2 => E.PORT_REQUEST_REFUSED
  | 3 => E.TIME_REQUEST_REFUSED
  | 4 => E.HEDDLE_REQUEST_REFUSED
  | 5 => E.REED_REQUEST_REFUSED
  | 6 => E.LOOM_REQUEST_REFUSED
  | 7 => E.OSC_REQUEST_REFUSED
  | 8 => E.ISLE_REQUEST_REFUSED
  | 9 => E.VOTE_REQUEST_REFUSED
  | 10 => E.PAIR_REQUEST_REFUSED
  | 11 => E.SHUTTLE_REQUEST_REFUSED
  | 12 => E.QUEUE_REQUEST_REFUSED
  | 13 => E.SLV_REQUEST_REFUSED
  | 14 => E.CAPT_REQUEST_REFUSED
  | 15 => E.ENERGY_REQUEST_REFUSED
  | 24 => E.LEDGER_REQUEST_REFUSED
  | 25 => E.CHECK_REQUEST_REFUSED
  | 26 => E.POWER_REQUEST_REFUSED
  | 27 => E.CLOCK_REQUEST_REFUSED
  | 30 => E.FAULT_REQUEST_REFUSED
  | _ => 0

/-- DONE with a status and results, unless the command waits; a refusal with BUSY, ILLEGAL_STATE or BAD_ARG is recorded (R474). GO clears itself. -/
def finish (b op : Nat) (r : CmdResult) : State :=
  if r.waits then (r.state.putReg (hdr b 0x40) (2 ^ 31 + op)).putReg (hdr b 0x54) (2 ^ 16 * op)
  else
  let s := r.state
  let s := s.putReg (hdr b 0x40) op
  let s := s.putReg (hdr b 0x54) (2 ^ 31 + 2 ^ 16 * op + r.status)
  let s := (s.putReg (hdr b 0x58) r.r0).putReg (hdr b 0x5C) r.r1
  if (r.status = 1 ∨ r.status = 2 ∨ r.status = 3) ∧ refusedCode b ≠ 0 then
    s.event (refusedCode b) noSource (leBytes 1 op ++ leBytes 1 r.status)
  else s

/-- The register domain of a BAR0 offset (R496); 16 is PD_AON. -/
def regDomain (addr : Nat) : Nat :=
  let b := addr / 2 ^ 20
  let off := addr % 2 ^ 20
  if b = 2 then if off % 2 ^ 16 < 0x1000 ∨ 2 ^ 19 ≤ off then pdCtrl else if off / 2 ^ 16 < 4 then pdNetA else pdNetB
  else if b = 3 then pdTime
  else if b = 4 ∨ (16 ≤ b ∧ b ≤ 23) then pdHeddle
  else if b = 5 then pdReed
  else if b = 6 then pdLoom
  else if b = 7 ∨ b = 8 ∨ b = 15 then pdAna
  else if b = 11 ∨ b = 12 then pdShuttle
  else if b = 13 then pdSlv
  else if b = 14 then pdStacks
  else if b = 26 ∨ b = 27 ∨ b = 29 then 16
  else if b = 28 then pdHost
  else pdCtrl

/-- Are the Stacks without draft shadow and partition (R434): in M0, and in M1 before step 4 of the load? -/
def State.noStacks (s : State) : Bool := decide (s.mode ≤ 1) && s.domain pdStacks != 0

/-- How a register access finds its register domain: 0 answers, 1 or 2 waits for it, 3 ABSENT, 4 the Stacks are not there. The common
part of PORT is ABSENT only when both port domains are (R496); PD_CTRL does not answer while a warm reset restarts it (R475). -/
def State.regState (s : State) (addr : Nat) : Nat :=
  let d := regDomain addr
  if d = pdStacks ∧ s.noStacks then 4
  else if addr / 2 ^ 20 = 2 ∧ d = pdCtrl ∧ s.domain pdNetA = 3 ∧ s.domain pdNetB = 3 then 3
  else if d = pdCtrl ∧ s.power.warmAt.isSome then 2
  else s.domain d

/-- An access to a register of an ABSENT domain completes with Completer Abort (R434, R455). -/
def State.absentAccess (s : State) (path : Path) (addr : Nat) : State :=
  let s := (s.count R.POWER_ABSENT_ACCESS).hostErr path 0 0 addr
  if path.code = 0 then s.emit (.accessError true) else s

/-- An access to CAPT while the Stacks hold nothing does not wake them (R434); it completes as a BAR2 read does (R455). DESIGN CHOICE
(log 35): the spec gives the answer of a BAR2 read only. -/
def State.noStacksAccess (s : State) (path : Path) (addr : Nat) : State :=
  let s := s.hostErr path 0 5 addr
  if path.code = 0 then s.emit (.accessError false) else s

/-- A domain is to be woken on demand (R434). A wake already under way keeps its cause; PD_CTRL restarts by itself (R475). -/
def State.wakeDemand (s : State) (d : Nat) : State :=
  if d = pdCtrl ∨ (smFind s.power.waking d).isSome then s
  else s.setPower { s.power with waking := smPut s.power.waking d (s.bases.mono, 1) }

/-- An access waits for its domain (R434, R475). -/
def State.stall (s : State) (x : Stalled) : State :=
  let s := s.wakeDemand x.domain
  let s := s.setPower { s.power with stalled := s.power.stalled ++ [x] }
  if x.path.code = 0 ∧ x.domain ≠ pdCtrl then s.count R.HOST_WAKE_STALLS else s

/-- In D3hot the endpoint decodes no BAR (R454): what the host sends does not arrive. The monitor refuses writes and commands under
READ_ONLY (R465), and every line while a warm reset restarts PD_CTRL (R462). -/
def State.deaf (s : State) (path : Path) : Bool :=
  if path.code = 0 then s.fld F.HOST_STATUS_D_STATE != 0 else s.isSet F.MONITOR_CTRL_READ_ONLY || s.power.warmAt.isSome

/-- May the path write the register (R457)? `HOST_MASTER` is open to the host always. -/
def State.mayWrite (s : State) (path : Path) (addr : Nat) : Bool := s.master path || (path.code == 0 && addr == R.HOST_MASTER)

/-- A write or command of the monitor that is carried out is recorded (R464): address and value, or block and opcode. -/
def State.monNote (s : State) (path : Path) (addr value : Nat) : State :=
  if path.code = 0 then s
  else
    let p := if addr % 2 ^ 20 = 0x40 ∧ bit value 31 then leBytes 1 (addr / 2 ^ 20) ++ leBytes 1 value else leBytes 8 addr ++ leBytes 4 value
    ((s.count R.MONITOR_WRITES).event E.MONITOR_MON_WRITE noSource p).raise I.MONITOR_WRITE

/-- A write of one word by a path that has its own row, as its register finds it (R434, R457): `f` is its effect. Its register domain
answers, is woken first, or is not there. -/
def State.access (s : State) (path : Path) (addr value : Nat) (f : State → State) (x : CmdInput := {}) : State :=
  if s.deaf path then s
  else
    match s.regState addr with
    | 0 => if s.mayWrite path addr then f (s.monNote path addr value) else s.notMaster path addr
    | 3 => s.absentAccess path addr
    | 4 => s.noStacksAccess path addr
    | _ =>
      if s.mayWrite path addr then s.stall { domain := regDomain addr, path := path, addr := addr, write := some value, x := x }
      else s.notMaster path addr

/-- The value a write of GO with an opcode carries. -/
abbrev goWord (op : Nat) : Nat := 2 ^ 31 + op

/-- GO with an opcode reaches the block (R473, R474): rejected while DONE is 0, and otherwise the command `body` runs to DONE. -/
def issue (b op : Nat) (path : Path) (body : State → CmdResult) (s : State) : State :=
  if bits (s.regN (hdr b 0x54)) 31 31 = 0 then s.reject path (hdr b 0x40) else finish b op (body s)

/-- A write of GO as the host or the monitor makes it. -/
def State.goWrite (s : State) (b op : Nat) (path : Path) (body : State → CmdResult) (x : CmdInput := {}) : State :=
  s.access path (hdr b 0x40) (goWord op) (issue b op path body) x

/-- A command of a block, issued at its time. -/
def command (t b op : Nat) (path : Path) (body : State → CmdResult) (s : State) (x : CmdInput := {}) : Host.Outcome State Fault Refusal :=
  run t (fun s => s.goWrite b op path body x) s

end Sys2Proof.Machine
end

