-- ==== Sys2Proof/Machine/Fp.lean ====
section
/-!
DEFINITION. Sys2Proof/Machine/Fp.lean: IEEE 754 binary32 and binary64 values (the spec's floating fields). A finite value is
read as the rational it stands for, an operation is exact on rationals and its result is rounded once, to nearest with ties
to even; a result that is not finite is a quiet NaN (R495 makes it absent). The sign of a zero result and the series of the
elementary functions are DESIGN CHOICES (log 7).
-/

namespace Sys2Proof.Fp

/-- What a bit pattern stands for. -/
inductive Val where
  | nan
  | inf (neg : Bool)
  | fin (q : Rat)
  deriving DecidableEq

/-- 2 to an integer power. -/
def pow2 (e : Int) : Rat := if 0 ≤ e then ((2 ^ e.toNat : Nat) : Rat) else mkRat 1 (2 ^ (-e).toNat)

/-- A pattern with `eb` exponent bits and `mb` fraction bits. -/
def decode (eb mb x : Nat) : Val :=
  let neg := x.testBit (eb + mb)
  let e := (x >>> mb) % 2 ^ eb
  let m := x % 2 ^ mb
  let emin : Int := 2 - (2 ^ (eb - 1) : Nat)
  let sgn (q : Rat) : Rat := if neg then -q else q
  if e = 2 ^ eb - 1 then (if m = 0 then .inf neg else .nan)
  else if e = 0 then .fin (sgn ((m : Rat) * pow2 (emin - mb)))
  else .fin (sgn (((m + 2 ^ mb : Nat) : Rat) * pow2 (emin + e - 1 - mb)))

/-- Nearest integer to `n / d`, ties to even. -/
def roundEven (n d : Nat) : Nat :=
  let q := n / d
  let r := n % d
  if 2 * r < d then q else if d < 2 * r then q + 1 else q + q % 2

/-- The pattern nearest to a rational; beyond the largest finite value, infinity. -/
def encode (eb mb : Nat) (q : Rat) : Nat :=
  if q.num = 0 then 0
  else
    let n := q.num.natAbs
    let d := q.den
    let sign := if q.num < 0 then 2 ^ (eb + mb) else 0
    let emin : Int := 2 - (2 ^ (eb - 1) : Nat)
    let e0 : Int := (Nat.log2 n : Int) - Nat.log2 d
    let below := if 0 ≤ e0 then n < d * 2 ^ e0.toNat else n * 2 ^ (-e0).toNat < d
    let e := max (if below then e0 - 1 else e0) emin
    let u := e - mb
    let m := if 0 ≤ u then roundEven n (d * 2 ^ u.toNat) else roundEven (n * 2 ^ (-u).toNat) d
    let x := (e - emin).toNat * 2 ^ mb + m
    sign + min x ((2 ^ eb - 1) * 2 ^ mb)

/-! binary32. -/

/-- The quiet NaN of the absent value (R13). -/
abbrev nan32 : Nat := 0x7FC00000

def dec32 (x : Nat) : Val := decode 8 23 x
def enc32 (q : Rat) : Nat := encode 8 23 q

/-- Is the pattern a finite number? -/
def finite32 (x : Nat) : Bool := (x >>> 23) % 256 != 255

/-- The rational a finite pattern stands for; 0 for others (used only behind `finite32`). -/
def toRat32 (x : Nat) : Rat := match dec32 x with | .fin q => q | _ => 0

/-- A rational as binary32, a quiet NaN where it is beyond the finite values. -/
def ofRat32 (q : Rat) : Nat := let x := enc32 q; if finite32 x then x else nan32

/-- A two-operand operation. -/
def op32 (f : Rat → Rat → Rat) (a b : Nat) : Nat :=
  if finite32 a && finite32 b then ofRat32 (f (toRat32 a) (toRat32 b)) else nan32

def add32 (a b : Nat) : Nat := op32 (· + ·) a b
def sub32 (a b : Nat) : Nat := op32 (· - ·) a b
def mul32 (a b : Nat) : Nat := op32 (· * ·) a b
def div32 (a b : Nat) : Nat := if finite32 b && toRat32 b = 0 then nan32 else op32 (· / ·) a b
def neg32 (a : Nat) : Nat := if a < 2 ^ 31 then a + 2 ^ 31 else a - 2 ^ 31
def abs32 (a : Nat) : Nat := a % 2 ^ 31
/-- a < b; false where either is not finite. -/
def lt32 (a b : Nat) : Bool := finite32 a && finite32 b && decide (toRat32 a < toRat32 b)
def le32 (a b : Nat) : Bool := finite32 a && finite32 b && decide (toRat32 a ≤ toRat32 b)
def ofInt32 (i : Int) : Nat := ofRat32 (i : Rat)
def ofNat32 (n : Nat) : Nat := ofRat32 (n : Rat)

/-! binary64. -/

def dec64 (x : Nat) : Val := decode 11 52 x
def enc64 (q : Rat) : Nat := encode 11 52 q
def finite64 (x : Nat) : Bool := (x >>> 52) % 2048 != 2047
def toRat64 (x : Nat) : Rat := match dec64 x with | .fin q => q | _ => 0
def nan64 : Nat := 0x7FF8000000000000
def ofRat64 (q : Rat) : Nat := let x := enc64 q; if finite64 x then x else nan64

/-! Integers and roots. -/

/-- The integer nearest to a rational, ties to even. -/
def rint (q : Rat) : Int :=
  let n := roundEven q.num.natAbs q.den
  if q.num < 0 then -(n : Int) else n

/-- Floor of a square root, bit by bit from bit `k`. -/
def isqrtFrom : Nat → Nat → Nat → Nat
  | 0, n, r => if (r + 1) * (r + 1) ≤ n then r + 1 else r
  | k + 1, n, r => isqrtFrom k n (if (r + 2 ^ (k + 1)) * (r + 2 ^ (k + 1)) ≤ n then r + 2 ^ (k + 1) else r)

/-- Floor of the square root of a number. -/
def isqrt (n : Nat) : Nat := if n = 0 then 0 else isqrtFrom (Nat.log2 n / 2 + 1) n 0

/-- A square root correct to 64 bits beyond the point of its scaling, with a sticky bit, so that rounding it once is
rounding the true root. -/
def sqrtRat (q : Rat) : Rat :=
  if q ≤ 0 then 0
  else
    let n := q.num.natAbs
    let d := q.den
    let k := 64 + Nat.log2 d
    let x := n * 4 ^ k
    let r := isqrt (x / d)
    let sticky := if r * r * d = x then 0 else 1
    mkRat ((2 * r + sticky : Nat) : Int) (2 ^ (k + 1))

def sqrt32 (a : Nat) : Nat := if finite32 a && decide (0 ≤ toRat32 a) then ofRat32 (sqrtRat (toRat32 a)) else nan32

/-- A rational rounded to binary64: 0 where it is beyond the finite values (callers that can get there test `finite64` first). -/
def r64 (q : Rat) : Rat := toRat64 (ofRat64 q)

/-! Sine, cosine, arctangent, exponential and logarithm (log 7). The spec names the functions and not how they are computed: each is
evaluated from its series in fixed point with 128 fraction bits and rounded once to binary64. Angles are in turns, as the spec keeps
them, so that 2π enters no argument. -/

/-- 1 in fixed point. -/
abbrev fixOne : Int := 2 ^ 128
def toFix (q : Rat) : Int := (q.num * fixOne) / (q.den : Int)
def ofFix (x : Int) : Rat := mkRat x (2 ^ 128)
def fixMul (a b : Int) : Int := a * b / fixOne

/-- 1 − t/((d+1)(d+2)) × (1 − t/((d+3)(d+4)) × …), n terms: cosine with d = 0 and, but for the factor θ, sine with d = 1, where t = θ². -/
def trigSeries (t : Int) : Nat → Nat → Int
  | 0, _ => fixOne
  | n + 1, d => fixOne - fixMul t (trigSeries t n (d + 2)) / ((d + 1) * (d + 2) : Nat)

/-- 1 + y × (2/3)(1 + y × (4/5)(…)), n terms: atan x = x/(1+x²) × this, with y = x²/(1+x²). -/
def atanSeries (y : Int) : Nat → Nat → Int
  | 0, _ => fixOne
  | n + 1, k => fixOne + fixMul y (atanSeries y n (k + 1)) * ((2 * k + 2 : Nat) : Int) / (2 * k + 3 : Nat)

/-- 1 + r/(k+1) × (1 + r/(k+2) × …), n terms: the exponential of r with k = 0. -/
def expSeries (r : Int) : Nat → Nat → Int
  | 0, _ => fixOne
  | n + 1, k => fixOne + fixMul r (expSeries r n (k + 1)) / (k + 1 : Nat)

/-- 1/(2k+1) + z × (1/(2k+3) + …), n terms: ln((1+v)/(1−v)) = 2v × this, with z = v² and k = 0. -/
def lnSeries (z : Int) : Nat → Nat → Int
  | 0, k => fixOne / (2 * k + 1 : Nat)
  | n + 1, k => fixOne / (2 * k + 1 : Nat) + fixMul z (lnSeries z n (k + 1))

/-- π as a rational, to 60 decimal places. -/
def piR : Rat := mkRat 3141592653589793238462643383279502884197169399375105820974944 1000000000000000000000000000000000000000000000000000000000000

/-- ln 2, to 60 decimal places. -/
def ln2R : Rat := mkRat 693147180559945309417232121458176568075500134360255254120680 1000000000000000000000000000000000000000000000000000000000000

/-- An angle in turns brought into −½ to ½, in radians in fixed point. -/
def fixAngle (turns : Rat) : Int := toFix ((turns - ((rint turns : Int) : Rat)) * (2 * piR))

/-- Cosine and sine of an angle in turns. -/
def cosT (turns : Rat) : Rat := let a := fixAngle turns; r64 (ofFix (trigSeries (fixMul a a) 30 0))
def sinT (turns : Rat) : Rat := let a := fixAngle turns; r64 (ofFix (fixMul a (trigSeries (fixMul a a) 30 1)))

/-- Cosine and sine of an angle in radians. -/
def cosR (q : Rat) : Rat := cosT (q / (2 * piR))
def sinR (q : Rat) : Rat := sinT (q / (2 * piR))

/-- The arctangent of x, 0 ≤ x ≤ 1, in turns. -/
def atanT (x : Rat) : Rat :=
  let d := 1 + x * x
  ofFix (fixMul (toFix (x / d)) (atanSeries (toFix (x * x / d)) 130 0)) / (2 * piR)

/-- atan2(y, x) in turns, from −½ to ½; the angle of (0, 0), which the spec does not state, is a free value. -/
def atan2T (y x : Rat) : Rat :=
  let ay := if y < 0 then -y else y
  let ax := if x < 0 then -x else x
  if ax = 0 ∧ ay = 0 then mkRat (Config.angleOfZero.toNat : Nat) (2 ^ 32)
  else
    let q : Rat := if ay ≤ ax then atanT (ay / ax) else 1 / 4 - atanT (ax / ay)
    let h := if x < 0 then 1 / 2 - q else q
    r64 (if y < 0 then -h else h)

/-- 2 to the power of an exponent in the range of binary64 and somewhat beyond. -/
def clampExp (k : Int) : Int := max (-2000) (min 2000 k)

/-- The exponential. -/
def expR (q : Rat) : Rat :=
  let k := clampExp (rint (q / ln2R))
  let r := max (-1) (min 1 (q - (k : Rat) * ln2R))
  r64 (ofFix (expSeries (toFix r) 36 0) * pow2 k)

/-- The natural logarithm; that of 0 or less, which the spec does not state, is a free value. -/
def lnR (q : Rat) : Rat :=
  if q ≤ 0 then toRat64 (Config.lnOpen (BitVec.ofNat 64 (ofRat64 q))).toNat
  else
    let k : Int := (Nat.log2 q.num.natAbs : Int) - Nat.log2 q.den
    let m := q / pow2 k
    let v := toFix ((m - 1) / (m + 1))
    r64 (2 * ofFix (fixMul v (lnSeries (fixMul v v) 46 0)) + (k : Rat) * ln2R)

/-- A fraction of a turn, in 2⁻³² turn, as turns. -/
def turnsOf (t : Nat) : Rat := mkRat (t : Nat) (2 ^ 32)

/-- The fraction of a turn, in 2⁻³² turn, nearest to an angle in turns (R12). -/
def toTurn (q : Rat) : Nat := ((rint (q * (2 ^ 32 : Nat))) % (2 ^ 32 : Nat)).toNat

/-- The fraction of a turn nearest to an angle in radians. -/
def radToTurn (q : Rat) : Nat := toTurn (q / (2 * piR))

end Sys2Proof.Fp
end

