-- ==== Sys2Proof/Machine/Flags.lean ====
section
/-!
DEFINITION. Sys2Proof/Machine/Flags.lean: the check codes (R14, R418, R494), the quality word and the absent value (R13, R495),
slot tags and lattice instants (R38, R176).
-/

namespace Sys2Proof.Machine

/-! Check codes. The register is loaded exactly as given (R494). -/

/-- One left-shifting step of `w` bits. -/
def crcShiftL (w poly r : Nat) : Nat := if r.testBit (w - 1) then (r * 2 % 2 ^ w) ^^^ poly else r * 2 % 2 ^ w

/-- One right-shifting step, the polynomial given reflected. -/
def crcShiftR (poly r : Nat) : Nat := if r.testBit 0 then (r / 2) ^^^ poly else r / 2

/-- Apply a step `n` times. -/
def iter {α : Type} (f : α → α) : Nat → α → α
  | 0, x => x
  | n + 1, x => iter f n (f x)

/-- A non-reflected CRC of `w` bits: each byte enters the top eight bits (R494). -/
def crcL (w poly init : Nat) (l : List Byte) : Nat :=
  l.foldl (fun r b => iter (crcShiftL w poly) 8 (r ^^^ (b.toNat * 2 ^ (w - 8)))) init

/-- A reflected CRC: each byte enters bits 7:0 (R494). -/
def crcR (poly init : Nat) (l : List Byte) : Nat :=
  l.foldl (fun r b => iter (crcShiftR poly) 8 (r ^^^ b.toNat)) init

/-- CRC-8 of R14. -/
def crc8 (l : List Byte) : Nat := crcL 8 0x2F 0xFF l ^^^ 0xFF
/-- CRC-16/CCITT-FALSE (R418). -/
def crc16 (init : Nat) (l : List Byte) : Nat := crcL 16 0x1021 init l
/-- CRC-32 (R418). -/
def crc32 (init : Nat) (l : List Byte) : Nat := crcR 0xEDB88320 init l ^^^ 0xFFFFFFFF
/-- CRC-32C (R418). -/
def crc32c (init : Nat) (l : List Byte) : Nat := crcR 0x82F63B78 init l ^^^ 0xFFFFFFFF
/-- CRC-64/XZ (R418). -/
def crc64 (init : Nat) (l : List Byte) : Nat := crcR 0xC96C5795D7870F42 init l ^^^ 0xFFFFFFFFFFFFFFFF

/-- The standard initial value of the 32-bit CRCs. -/
abbrev ones32 : Nat := 0xFFFFFFFF

/-- The check code of a thread item (R14): thread word, quality, TID, time field. -/
def checkCode (word quality tid time : Nat) : Nat :=
  crc8 (leBytes 8 word ++ leBytes 2 quality ++ leBytes 3 (tid % 2 ^ 17) ++ leBytes 8 time)

/-! The quality word (R13). -/

abbrev qValid : Nat := 0
abbrev qLate : Nat := 1
abbrev qInterp : Nat := 2
abbrev qPredict : Nat := 3
abbrev qAbsent : Nat := 4
abbrev qSyncLoss : Nat := 5
abbrev qSrcErr : Nat := 6
abbrev qTest : Nat := 7
abbrev qCheckFail : Nat := 8
abbrev qClipped : Nat := 9

/-- Set a bit of a number. -/
def setBit (v i : Nat) : Nat := v ||| 2 ^ i

/-- Clear a bit of a number. -/
def clrBit (v i : Nat) : Nat := if v.testBit i then v - 2 ^ i else v

/-- Set a bit on a condition. -/
def setIf (c : Bool) (v i : Nat) : Nat := if c then setBit v i else v

/-- The absence reason of a quality word. -/
def qReason (q : Nat) : Nat := bits q 15 12

/-- The absent value (R13). -/
abbrev absentWord : Nat := 0x7FC0000000000000

/-- The quality of an absent value with a reason (R13). -/
def qAbsentFor (reason : Nat) : Nat := 2 ^ 4 + 2 ^ 12 * reason

/-- A quality made absent: VALID clear, ABSENT and REASON set, the other bits kept. -/
def makeAbsent (q reason : Nat) : Nat := setBit (clrBit (q % 2 ^ 12) qValid) qAbsent + 2 ^ 12 * reason

/-- A value the device formed that is not finite: ABSENT, SOURCE_INVALID, SRC_ERR (R495). -/
def notFinite (q : Nat) : Nat := setBit (makeAbsent q 7) qSrcErr

/-- Absence reasons (R13). -/
abbrev rNotArrived : Nat := 0
abbrev rStreamDown : Nat := 1
abbrev rWithdrawn : Nat := 2
abbrev rConfigPending : Nat := 3
abbrev rFault : Nat := 4
abbrev rBeyondHistory : Nat := 5
abbrev rAuthFail : Nat := 6
abbrev rSourceInvalid : Nat := 7

/-! Lattice rates and slot tags. -/

/-- Slots per second of a rate code (R38); 0 for a code that is none. -/
def rateOf (code : Nat) : Nat :=
  [1, 2, 5, 10, 12, 15, 20, 25, 30, 50, 60, 100, 120, 200, 240, 480, 960].getD code 0

/-- The instant of slot k of a second: round(k × 10⁹ / rate) (R175). -/
def slotOffset (rate k : Nat) : Nat := (1000000000 * (2 * k) + rate) / (2 * rate)

/-- The instant of a slot tag (R175): the second in bits 63:16, k in bits 15:0. -/
def slotInstant (rate tag : Nat) : Nat := 1000000000 * (tag / 2 ^ 16) + slotOffset rate (tag % 2 ^ 16)

/-- The slot tag after a tag. -/
def nextTag (rate tag : Nat) : Nat :=
  if tag % 2 ^ 16 + 1 < rate then tag + 1 else 2 ^ 16 * (tag / 2 ^ 16 + 1)

/-- The slot tag before a tag. -/
def prevTag (rate tag : Nat) : Nat :=
  if tag % 2 ^ 16 = 0 then 2 ^ 16 * (tag / 2 ^ 16 - 1) + (rate - 1) else tag - 1

/-- The first slot whose instant is at or after a time. -/
def firstSlotAt (rate ns : Nat) : Nat :=
  let sec := ns / 1000000000
  let k := (ns % 1000000000) * rate / 1000000000
  let t0 := 2 ^ 16 * sec + k
  if ns ≤ slotInstant rate t0 then t0
  else
    let t1 := nextTag rate t0
    if ns ≤ slotInstant rate t1 then t1 else nextTag rate t1

end Sys2Proof.Machine
end

