-- ==== Sys2Proof/Machine/ModeOps.lean ====
section
/-!
DEFINITION. Sys2Proof/Machine/ModeOps.lean: the configuration in force and the decision of a mode (R45, R56 to R65): which body a
section has, which mode the conditions ask for, at which slot a switch takes effect, and the mode register's own change.
-/

namespace Sys2Proof.Machine

/-! Section type codes (R35). -/

abbrev secDevice : Nat := 0x01
abbrev secTieup : Nat := 0x02
abbrev secPorts : Nat := 0x03
abbrev secTime : Nat := 0x04
abbrev secStreams : Nat := 0x05
abbrev secCatalogue : Nat := 0x06
abbrev secCorrection : Nat := 0x07
abbrev secReed : Nat := 0x08
abbrev secLoom : Nat := 0x09
abbrev secDerive : Nat := 0x0A
abbrev secOsc : Nat := 0x0B
abbrev secIsle : Nat := 0x0C
abbrev secAlarm : Nat := 0x0D
abbrev secShuttle : Nat := 0x0E
abbrev secQueues : Nat := 0x0F
abbrev secSlv : Nat := 0x10
abbrev secCapt : Nat := 0x11
abbrev secEnergy : Nat := 0x12
abbrev secLedger : Nat := 0x13
abbrev secSig : Nat := 0x14

/-- An object's body of a section type. -/
def Obj.body (o : Obj) (ty : Nat) : Option (List Byte) := (o.sections.find? (fun e => e.1 == ty)).map (·.2)

/-- The body of a base with a card laid over it (R43): a card's section replaces the whole of the base's. -/
def bodyOf (base card : Option Obj) (ty : Nat) : List Byte :=
  match card.bind (·.body ty) with
  | some b => b
  | none => (base.bind (·.body ty)).getD []

/-- The active card (R45). -/
def State.activeCard (s : State) : Option Obj :=
  if s.isSet F.DRAFT_CARDS_ACTIVE_VALID then smFind s.draft.cards (s.fld F.DRAFT_CARDS_ACTIVE) else none

/-- The body of a section in the configuration in force. -/
def State.cfg (s : State) (ty : Nat) : List Byte := bodyOf s.draft.base s.activeCard ty

/-- The rate code of a lattice (R39). -/
def State.rateCode (s : State) (l : Nat) : Nat := leAt (s.cfg secTieup) (0x20 + 16 * l) 1

/-- Slots per second of a lattice; 0 while no draft is held. -/
def State.rate (s : State) (l : Nat) : Nat := if s.draft.base.isSome then rateOf (s.rateCode l) else 0

/-- Fields of a lattice record (R39). -/
def State.wiring (s : State) (l : Nat) : Nat := leAt (s.cfg secTieup) (0x21 + 16 * l) 1
def State.openSlots (s : State) (l : Nat) : Nat := leAt (s.cfg secTieup) (0x22 + 16 * l) 2
def State.capacity (s : State) (l : Nat) : Nat := leAt (s.cfg secTieup) (0x24 + 16 * l) 4 % 2 ^ 18
def State.depth (s : State) (l : Nat) : Nat := leAt (s.cfg secTieup) (0x28 + 16 * l) 2

/-- The tie-up's pair mode and mirror link (R39). -/
def State.pairMode (s : State) : Nat := leAt (s.cfg secTieup) 0x10 1
def State.mirrorLink (s : State) : Nat := leAt (s.cfg secTieup) 0x11 1

/-- Start of Stacks region r (R39, R41): regions follow the 64 MiB draft shadow in order, in units of 2 MiB. -/
def State.regionStart (s : State) (r : Nat) : Nat :=
  (List.range r).foldl (fun a i => a + 2 ^ 21 * (leAt (s.cfg secTieup) (0x80 + 4 * i) 4)) (64 * 2 ^ 20)

/-- Size of Stacks region r in bytes. -/
def State.regionSize (s : State) (r : Nat) : Nat := 2 ^ 21 * (leAt (s.cfg secTieup) (0x80 + 4 * r) 4)

/-- The configuration under which a slot with this instant runs (R56): the one that the earliest switch slot after the instant ended, and
the one in force where no switch slot follows it. -/
def State.cfgAt (s : State) (ty instant : Nat) : List Byte :=
  match (s.draft.old.filter (fun o => decide (instant < slotInstant (s.rate 0) o.2.2))).getLast? with
  | some (b, c, _) => bodyOf b c ty
  | none => s.cfg ty

/-! Which mode the conditions ask for. -/

/-- R63: the mode of the highest-ranked condition present, from the bits of `DRAFT_MODE_COND`. -/
def serviceMode (cond : Nat) : Nat :=
  if bit cond 0 && bit cond 1 then 7
  else if bit cond 0 then 6
  else if bit cond 3 then 8
  else if bit cond 2 then 5
  else if bit cond 4 then 4
  else 3

/-- The card slot bound to a mode (R45): M4 to M10 by `DRAFT_BIND0` and `DRAFT_BIND1`, none for the others. -/
def State.boundCard (s : State) (m : Nat) : Option Nat :=
  if m < 4 ∨ 10 < m then none
  else
    let byte := bits (s.regN (if m < 8 then R.DRAFT_BIND0 else R.DRAFT_BIND1)) (8 * ((m - 4) % 4) + 7) (8 * ((m - 4) % 4))
    if bit byte 4 then some (byte % 16) else none

/-- The card slot in force. -/
def State.cardInForce (s : State) : Option Nat :=
  if s.isSet F.DRAFT_CARDS_ACTIVE_VALID then some (s.fld F.DRAFT_CARDS_ACTIVE) else none

/-- T_stage of R57 and R58 for an object of `n` bytes: 100 µs and 1 µs per KiB, a part of a KiB counted whole (log 9). -/
def stageTime (n : Nat) : Nat := 100000 + 1000 * ((n + 1023) / 1024)

/-- T_stage of a switch to a card (R57). -/
def State.stageFor (s : State) (card : Option Nat) : Nat :=
  if card = s.cardInForce then stageTime 0
  else match card.bind (smFind s.draft.cards) with
    | some o => stageTime o.length
    | none => stageTime 0

/-- Show the pending switch in the registers. -/
def State.showSwitch (s : State) : State :=
  match s.draft.switch with
  | some w =>
    let s := (s.putFld F.DRAFT_SWITCH_STATUS_PENDING 1).putFld F.DRAFT_SWITCH_STATUS_TARGET_MODE w.target
    (s.putPair R.DRAFT_SWITCH_SLOT_LO w.slot).putFld F.GLOBAL_STATUS_SWITCH_PENDING 1
  | none => (s.putFld F.DRAFT_SWITCH_STATUS_PENDING 0).putFld F.GLOBAL_STATUS_SWITCH_PENDING 0

/-- A change of mode is decided now (R57, R60): S is the first L0 slot at or after t_d + T_stage; a pending target is
replaced, S then the later of the two; a target that is the mode and card in force drops the pending switch. -/
def State.decideMode (s : State) (target : Nat) : State :=
  let card := s.boundCard target
  let t := s.stageFor card
  let slot := firstSlotAt (s.rate 0) (s.now + t)
  let same := target == s.mode && card == s.cardInForce
  match s.draft.switch with
  | some w =>
    if same then (s.setDraft { s.draft with switch := none }).showSwitch
    else (s.setDraft { s.draft with switch := some ⟨target, card, max w.slot slot, max w.staged (s.bases.mono + t)⟩ }).showSwitch
  | none =>
    if same then s
    else (s.setDraft { s.draft with switch := some ⟨target, card, slot, s.bases.mono + t⟩ }).showSwitch

/-- The target a pending switch has, or the mode in force. -/
def State.target (s : State) : Nat := match s.draft.switch with | some w => w.target | none => s.mode

/-- The conditions decide the mode again (R63): in M3 to M8, or while a switch to one of them is pending. -/
def State.followConditions (s : State) : State :=
  if 3 ≤ s.target ∧ s.target ≤ 8 then
    let m := serviceMode (s.regN R.DRAFT_MODE_COND)
    if m = s.target then s else s.decideMode m
  else s

/-- Set or clear a condition of R63 (a bit of `DRAFT_MODE_COND`); the mode follows. -/
def State.condition (s : State) (i : Nat) (v : Bool) : State :=
  let c := s.regN R.DRAFT_MODE_COND
  if bit c i = v then s
  else (s.putReg R.DRAFT_MODE_COND (if v then setBit c i else clrBit c i)).followConditions

/-- The overload condition is the Loom's own or the host's (R63, R64). -/
def State.overload (s : State) (host loom : Bool) : State :=
  let s := s.putFld F.DRAFT_MODE_COND_OVERLOAD_HOST (if host then 1 else 0)
  s.condition 3 (host || loom)

/-! The mode register. -/

/-- The mode changes now: GLOBAL shows it, its time counts, and MODE_CHANGE is raised (R475). -/
def State.enterMode (s : State) (m : Nat) : State :=
  let old := s.mode
  let spent := s.bases.mono - s.pairAt R.GLOBAL_MODE_SINCE_LO
  let s := s.setDraft { s.draft with modeNs := smMod 0 s.draft.modeNs old (· + spent) }
  let s := s.putReg R.GLOBAL_MODE (old * 16 + m)
  let s := s.putFld F.GLOBAL_STATUS_MODE m
  let s := s.putFld F.GLOBAL_STATUS_SAFE (if m = 11 then 1 else 0)
  let s := s.putPair R.GLOBAL_MODE_SINCE_LO s.bases.mono
  (s.count R.GLOBAL_MODE_CHANGES).raise I.GLOBAL_MODE_CHANGE

/-- A pending switch and a pending patch are dropped on the way to M10 or M11 (R60). -/
def State.dropPending (s : State) : State :=
  let s := match s.draft.patch with
    | some (_, tag) =>
      let s := s.setDraft { s.draft with patch := none }
      let s := s.putFld F.DRAFT_SWITCH_STATUS_PATCH_PENDING 0
      (s.event E.DRAFT_PATCH_DROPPED noSource (leBytes 8 tag)).raise I.DRAFT_PATCH_DROPPED
    | none => s
  (s.setDraft { s.draft with switch := none }).showSwitch

/-- Is `PFW_N` accepted low (R428)? -/
def State.pfwLow (s : State) : Bool := s.isSet F.POWER_STATUS_PFW_LOW

/-- Does this module hold the output stage (R62, R298)? -/
def State.holds (s : State) : Bool := s.isSet F.PAIR_STATUS_HOLDING

end Sys2Proof.Machine
end

