-- ==== Sys2Proof/Machine/Pins.lean ====
section
/-!
DEFINITION. Sys2Proof/Machine/Pins.lean: the alarm balls (R261 to R263): which lanes run, each lane's drive bits, the vote of
the pin stages, the pad hold over them (R286).
-/

namespace Sys2Proof.Machine

/-- A lane by number: 0 A, 1 B, 2 C. -/
def VoteSt.lane (v : VoteSt) : Nat → LaneSt
  | 0 => v.laneA
  | 1 => v.laneB
  | _ => v.laneC

/-- Replace a lane. -/
def VoteSt.setLane (v : VoteSt) (i : Nat) (l : LaneSt) : VoteSt :=
  match i with
  | 0 => { v with laneA := l }
  | 1 => { v with laneB := l }
  | _ => { v with laneC := l }

/-- `VOTE_STATUS.LANE_x`: 0 RUN, 1 ODD, 2 FENCED, 3 OFF. -/
def laneFld : Nat → Fld
  | 0 => F.VOTE_STATUS_LANE_A
  | 1 => F.VOTE_STATUS_LANE_B
  | _ => F.VOTE_STATUS_LANE_C

def State.laneState (s : State) (i : Nat) : Nat := s.fld (laneFld i)

/-- A lane takes part: RUN or ODD, with its domain ON, its clock running and a draft held (R261). -/
def State.laneRuns (s : State) (i : Nat) : Bool :=
  decide (s.laneState i < 2) && s.domain (12 + i) == 0 && s.draft.base.isSome && (smFind s.clock.relock (13 + i)).isNone

/-- The running lanes in letter order. -/
def State.lanes (s : State) : List Nat := [0, 1, 2].filter s.laneRuns

/-- Lanes fenced. -/
def State.fencedLanes (s : State) : Nat := ([0, 1, 2].filter (fun i => s.laneState i == 2)).length

/-- The lane the registers show: lane A, or the lowest running one (R274). -/
def State.leadLane (s : State) : LaneSt := s.vote.lane (s.lanes.headD 0)

/-- At least two of the running lanes meet a test. -/
def State.majority (s : State) (f : LaneSt → Bool) : Bool :=
  decide (2 ≤ (s.lanes.filter (fun i => f (s.vote.lane i))).length)

/-! The ALARM section (R251, R268). Its two counts stand in a 16-byte head, as R43 lays it out (log 10). -/

/-- Entry `i` of a table of entries of `size` bytes. -/
def entryAt (body : List Byte) (off size i : Nat) : List Byte := slice body (off + size * i) size

/-- The alarm-point entries of an ALARM body. -/
def alarmEntries (body : List Byte) : List (List Byte) := (List.range (leAt body 0 4)).map (entryAt body 16 64)

/-- The GOOSE control-block entries of an ALARM body. -/
def gooseEntries (body : List Byte) : List (List Byte) :=
  (List.range (leAt body 4 4)).map (entryAt body (16 + 64 * leAt body 0 4) 256)

/-- Fields of an alarm-point entry (R251). -/
def apNumber (e : List Byte) : Nat := leAt e 0 2 % 1024
def apEnabled (e : List Byte) : Bool := bit (leAt e 2 1) 0
def apPins (e : List Byte) : Nat := leAt e 0x20 1

/-- The entry of a point in the configuration in force. -/
def State.alarmEntry (s : State) (ap : Nat) : Option (List Byte) :=
  (alarmEntries (s.cfg secAlarm)).find? (fun e => apNumber e == ap && apEnabled e)

/-- A point's state in a lane. -/
def LaneSt.point (l : LaneSt) (ap : Nat) : PointSt := smGet {} l.points ap

/-- A lane's alarm state per pin (R262): the OR of raised over the enabled points that name it. -/
def alarmPins (entries : List (List Byte)) (l : LaneSt) : Nat :=
  entries.foldl (fun a e => if apEnabled e && (l.point (apNumber e)).raised then a ||| apPins e else a) 0

/-- The mode lets the stage be driven (R262, R263): M3 to M8, and no fault entry decided (R285, R289). -/
def State.drivable (s : State) : Bool := decide (3 ≤ s.mode ∧ s.mode ≤ 8) && !(s.target == 10 || s.target == 11)

/-- A lane's nine drive bits (R262, R263, R272). -/
def State.driveOf (s : State) (entries : List (List Byte)) (i : Nat) : Nat :=
  let l := s.vote.lane i
  if !s.laneRuns i then 0
  else match s.vote.test with
    | some (pin, _) => 2 ^ pin
    | none =>
      if s.drivable && l.holds then
        let pins := 0xFF - alarmPins entries l % 256
        let timeLost := bit (s.regN R.DRAFT_MODE_COND) 2
        let healthy := (s.fencedLanes == 0 || s.isSet F.VOTE_CTRL_FENCE_HEALTHY) &&
          (!timeLost || !s.isSet F.VOTE_CTRL_TIME_UNHEALTHY)
        pins + (if healthy then 256 else 0)
      else 0

/-- Two-out-of-three of three bit sets (R261). -/
def vote3 (a b c : Nat) : Nat := (a &&& b) ||| (b &&& c) ||| (a &&& c)

/-- The balls of `m` that change are shown outside: a ball that sinks is low. -/
def State.showBalls (s : State) (m : Nat) : State :=
  (List.range 9).foldl (fun s n =>
    if bit s.vote.sink n != bit m n then s.emit (.ball (if n = 8 then .health else .alarm n) (!bit m n)) else s) s

/-- Pulses are driven only while the module holds, in M3 to M8 and M10 (R395), with PD_ANA ON (R436). -/
def State.pulsesOn (s : State) : Bool := s.holds && s.domain pdAna == 0 && decide (3 ≤ s.mode ∧ s.mode ≤ 10 ∧ s.mode ≠ 9)

/-- c of a pulse output (R395). -/
def State.pulseCount (s : State) (n : Nat) : Nat :=
  let r := (smGet {} s.energy.points (s.fld (F.ENERGY_PULSEn_CFG_FP n))).regs.getD (s.fld (F.ENERGY_PULSEn_CFG_REGISTER n)) (0, 0)
  r.1 / max 1 (1000000 * (s.regN (R.ENERGY_PULSEn_K n)))

/-- A module that starts to hold counts pulses from its registers at that moment. -/
def State.pulsesBegin (s : State) : State :=
  s.setEnergy { s.energy with pulses := (List.range 4).foldl (fun m n =>
    let x := smGet {} m n
    if s.isSet (F.ENERGY_PULSEn_CFG_ENABLE n) && x.c.isNone then smPut m n { x with c := some (s.pulseCount n) } else m) s.energy.pulses }

/-- Where pulses may not be driven the balls are low and no pulse waits. -/
def State.pulsesFollow (s : State) : State :=
  if s.pulsesOn then s.pulsesBegin
  else if s.energy.pulses.isEmpty then s
  else
    let s := s.energy.pulses.foldl (fun s p =>
      let s := s.putFld (F.ENERGY_PULSEn_STATE_BACKLOG p.1) 0
      if p.2.high then s.drive (.epulse p.1) false else s) s
    s.setEnergy { s.energy with pulses := [] }

/-- The stage follows its lanes (R261): the drive bits, the vote, the pad hold over it, the balls and the registers that show
them. While the scan chain has the balls, the lanes cannot drive them (R461). `VOTE_PIN_SENSE` shows the balls as this module alone would set them; PIN_MISMATCH brings a level sensed otherwise. -/
def State.updatePins (s : State) : State :=
  let s := s.pulsesFollow
  let es := alarmEntries (s.cfg secAlarm)
  let da := s.driveOf es 0
  let db := s.driveOf es 1
  let dc := s.driveOf es 2
  let m := vote3 da db dc
  let sink := if s.host.jtag = 4 then 0
    else if s.scanned then 511 - s.host.boundary % 512
    else if s.isSet F.FAULT_STATUS_PAD_HOLD then s.fld F.FAULT_PAD_HOLD_HELD % 256 else m
  let alarms := (List.range 8).foldl (fun a n =>
    if s.lanes.length < 2 || s.majority (fun l => bit (alarmPins es l) n) then a + 2 ^ n else a) 0
  let s := s.showBalls sink
  let s := s.setVote { s.vote with
    laneA := { s.vote.laneA with drive := da }
    laneB := { s.vote.laneB with drive := db }
    laneC := { s.vote.laneC with drive := dc }
    sink := sink }
  let s := (s.putFld F.VOTE_STATUS_ALARM alarms).putFld F.VOTE_STATUS_HEALTHY (m / 256 % 2)
  s.putReg R.VOTE_PIN_SENSE (511 - sink)

end Sys2Proof.Machine
end

