-- ==== Sys2Proof/Machine/OsConfig.lean ====
section
/-!
DEFINITION. Sys2Proof/Machine/OsConfig.lean: the SHUTTLE section (R334, R335) and the slots an output stream publishes (R337); how
a stream resumes when the module starts to hold (R308).
-/

namespace Sys2Proof.Machine

/-! The SHUTTLE section. Its two counts stand in a 16-byte head, as R43 lays it out (log 10). -/

/-- Output-stream entries and block entries of a body. -/
def osEntries (body : List Byte) : List (List Byte) := (List.range (leAt body 0 4)).map (entryAt body 16 128)

def osBlock (body : List Byte) (i : Nat) : List Byte := entryAt body (16 + 128 * leAt body 0 4) 64 i

/-- Fields of a stream entry (R334). -/
def osNumber (e : List Byte) : Nat := leAt e 0 1 % 64
def osFlag (e : List Byte) (i : Nat) : Bool := bit (leAt e 1 1) i
def osProtocol (e : List Byte) : Nat := leAt e 2 1
def osLattice (e : List Byte) : Nat := leAt e 3 1 % 4
def osDivider (e : List Byte) : Nat := max 1 (leAt e 4 2)
def osId (e : List Byte) : Nat := leAt e 6 2
/-- LAUNCH_OFFSET in ns. -/
def osOffset (e : List Byte) : Nat := 1000 * (leAt e 8 4)
def osTimeBase (e : List Byte) : Nat := leAt e 0xC 3
def osPorts (e : List Byte) : Nat := leAt e 0x10 1
def osKeyGroup (e : List Byte) : Nat := leAt e 0x1E 1
def osBlocks (e : List Byte) : Nat := leAt e 0x30 1
def osFirstBlock (e : List Byte) : Nat := leAt e 0x34 4

/-- The entry of an OS in a body. -/
def osEntry (body : List Byte) (n : Nat) : Option (List Byte) := (osEntries body).find? (fun e => osNumber e == n)

/-- The entry in force for a slot instant (R56). -/
def State.osAt (s : State) (n instant : Nat) : Option (List Byte) := osEntry (s.cfgAt secShuttle instant) n

/-- The entry in force now. -/
def State.os (s : State) (n : Nat) : Option (List Byte) := osEntry (s.cfg secShuttle) n

def State.osSt (s : State) (n : Nat) : OsSt := smGet {} s.shuttle.streams n

def State.putOs (s : State) (n : Nat) (x : OsSt) : State := s.setShuttle { s.shuttle with streams := smPut s.shuttle.streams n x }

/-! Published slots. -/

/-- A tag moved up to the next one whose k is a multiple of the divider. -/
def alignUp (rate div tag : Nat) : Nat :=
  let k := (tag % 2 ^ 16 + div - 1) / div * div
  if k < rate then 2 ^ 16 * (tag / 2 ^ 16) + k else 2 ^ 16 * (tag / 2 ^ 16 + 1)

/-- The launch time of a slot (R339). -/
def State.launchTime (s : State) (e : List Byte) (tag : Nat) : Nat := slotInstant (s.rate (osLattice e)) tag + osOffset e

/-- The published slots whose launch time is after `a`, in order, while a test holds; at most `n`. -/
def State.slotsAfter (s : State) (e : List Byte) (ok : Nat → Bool) : Nat → Nat → List Nat
  | 0, _ => []
  | n + 1, tag =>
    if ok tag then tag :: s.slotsAfter e ok n (alignUp (s.rate (osLattice e)) (osDivider e) (tag + 1)) else []

/-- A stream resumes (R308): the published slots not launched, and the slot after which it launches again. With the mirror link up
those are the slots whose launch time follows the takeover instant and that an intent names, or whose launch time has
passed; with the link down, those whose launch time falls within one stream period of that instant. -/
def State.resumeStream (s : State) (mirror : Bool) (instant : Nat) (e : List Byte) : State :=
  let n := osNumber e
  let rate := max 1 (s.rate (osLattice e))
  let period := (1000000000 * (osDivider e)) / rate
  let intent := s.pairAt (R.PAIR_OSn_INTENT_LO n)
  let lost (tag : Nat) : Bool :=
    if mirror then decide (tag ≤ intent) || decide (s.launchTime e tag < s.now)
    else decide (s.launchTime e tag < instant + period)
  let first := alignUp rate (osDivider e) (firstSlotAt rate (instant + 1 - osOffset e))
  let gone := s.slotsAfter e lost 64 first
  let s := gone.foldl (fun s tag =>
    ((s.count R.PAIR_STREAM_GAPS).event E.PAIR_STREAM_GAP n (leBytes 1 n ++ leBytes 8 tag)).raise I.PAIR_STREAM_GAP) s
  let x := s.osSt n
  let last := max (if mirror then intent else 0) (gone.getLast?.getD 0)
  s.putOs n { x with after := max x.after last, frame := none }

/-- Every output stream resumes. -/
def State.resumeStreams (s : State) (mirror : Bool) (instant : Nat) : State :=
  ((osEntries (s.cfg secShuttle)).filter (fun e => osFlag e 0)).foldl (fun s e => s.resumeStream mirror instant e) s

end Sys2Proof.Machine
end

