-- ==== Sys2Proof/Machine/Holding.lean ====
section
/-!
DEFINITION. Sys2Proof/Machine/Holding.lean: who holds the output stage (R294 to R303): the effective claim, each lane's decision,
taking over and releasing.
-/

namespace Sys2Proof.Machine

/-- A lane's view of the partner by lane number. -/
def PairSt.view (p : PairSt) : Nat → LaneView
  | 0 => p.viewA
  | 1 => p.viewB
  | _ => p.viewC

def PairSt.setView (p : PairSt) (i : Nat) (v : LaneView) : PairSt :=
  match i with
  | 0 => { p with viewA := v }
  | 1 => { p with viewB := v }
  | _ => { p with viewC := v }

/-- The effective claim (R296). The mode no longer allows a claim from the moment an entry to M10 or M11 is decided (R284,
R285); a YIELD acts once it is applied (R302). -/
def State.claim (s : State) : Nat :=
  let fences := s.fencedLanes
  if !s.drivable || (s.isSet F.PAIR_STATUS_YIELD && s.pair.yieldWait.isNone) || s.isSet F.PAIR_STATUS_MODID_CLASH ||
      decide (2 ≤ fences) then 0
  else
    let c := s.fld F.PAIR_CLAIM_BASE
    let c := if fences = 1 then c - s.fld F.PAIR_DEGRADE_DEG_LANE else c
    let c := if bit (s.regN R.DRAFT_MODE_COND) 2 then c - s.fld F.PAIR_DEGRADE_DEG_TIME else c
    max c 1

/-- Is the partner live in a lane (R297): an edge within the last 3 µs? -/
def State.liveIn (s : State) (i : Nat) : Bool :=
  match (s.pair.view i).edge with
  | some e => decide (s.bases.mono ≤ e + 3000)
  | none => false

/-- The partner's claim as a lane takes it (R297). -/
def State.partnerClaim (s : State) (i : Nat) : Nat := if s.liveIn i then (s.pair.view i).claim else 0

/-- Live by the majority of the running lanes (R297). Only native claim mode has a strobe. -/
def State.partnerLive (s : State) : Bool :=
  s.pairMode == 1 && decide (2 ≤ (s.lanes.filter s.liveIn).length)

/-- A lane's own decision that the module holds (R294, R298, R300). Alone, the module holds while its mode allows outputs:
M3 to M10 (R61, R287). HOLD_ALONE serves native claim mode: in interlock mode the line is released (R284). -/
def State.decides (s : State) (i : Nat) : Bool :=
  if s.pairMode = 0 then
    s.draft.base.isSome && decide (3 ≤ s.mode ∧ s.mode ≤ 10) && s.target != 11
  else if s.pairMode = 2 then s.pair.pulled
  else
    let c := s.pair.cmp
    let p := s.partnerClaim i
    if p < c then true
    else if c = p ∧ c ≠ 0 then s.isSet F.PAIR_STATUS_MODID
    else c == 0 && !s.liveIn i && s.isSet F.PAIR_STATUS_HOLD_ALONE

/-- Does the partner hold, as PAIR_STATUS shows it (`PARTNER_HOLDS`)? -/
def State.partnerWins (s : State) (holds : Bool) : Bool :=
  if s.pairMode = 2 then s.pair.lineHigh.isNone && !holds
  else
    let i := s.lanes.headD 0
    let p := s.partnerClaim i
    s.pairMode == 1 && (decide (s.pair.cmp < p) || (p == s.pair.cmp && p != 0 && !s.isSet F.PAIR_STATUS_MODID))

/-- The holder's records still kept are staged as mirrored copies (R306, R408). -/
def State.adoptLedger (s : State) : State :=
  let l := s.pair.mirror.ledger.foldl (fun (l : LedgerSt) r =>
    { l with staging := l.staging ++ [{ r with acc := l.next, flags := r.flags ||| 2, aux := leBytes 6 r.acc ++ [0, 0] }]
             next := l.next + 1, cRecords := (l.cRecords + 1) % 2 ^ 32 }) s.ledger
  (s.setLedger l).setPair { s.pair with mirror := { s.pair.mirror with ledger := [] } }

/-- A flow point's totals: register and residue. -/
def FlowPoint.sums (x : FlowPoint) : List Rat := x.regs.map (fun r => ((r.1 : Nat) : Rat) + r.2)

/-- A register that holds a total, modulo 2⁹⁶. -/
def energyReg (v : Rat) : Nat × Rat := (v.floor.toNat % 2 ^ 96, v - (v.floor : Rat))

/-- The new holder takes each mirrored accumulator plus its own quantities since the mirrored slot (R306, R394). -/
def State.adoptEnergy (s : State) : State :=
  let ms := s.pair.mirror.energy
  let hit := s.energy.points.filter (fun x => (smFind ms x.1).isSome)
  if hit.isEmpty then s
  else
    let pts := s.energy.points.map (fun x =>
      match smFind ms x.1 with
      | none => x
      | some (tag, regs) =>
        let own := x.2.sums
        let old := match x.2.totals.find? (fun t => decide (t.1 ≤ tag)) with
          | some t => t.2
          | none => ((x.2.totals.getLast?).map (·.2)).getD own
        let new := (regs.zip (own.zip old)).map (fun v => energyReg (((v.1 : Nat) : Rat) + (v.2.1 - v.2.2)))
        let base := (new.zip (x.2.regs.zip x.2.ivl.base)).map (fun v => (v.1.1 + 2 ^ 96 - (v.2.1.1 + 2 ^ 96 - v.2.2) % 2 ^ 96) % 2 ^ 96)
        (x.1, { x.2 with regs := new, totals := [], ivl := { x.2.ivl with base := base, flags := x.2.ivl.flags ||| 8 } }))
    let s := s.setEnergy { s.energy with points := pts }
    let tag := (hit.filterMap (fun x => (smFind ms x.1).map (·.1))).foldl max 0
    (s.event E.ENERGY_ADOPTED noSource (leBytes 8 tag ++ leBytes 4 hit.length)).raise I.ENERGY_ADOPTED

/-- GOOSE blocks go on from the mirrored stNum (R270, R306). -/
def State.adoptGoose (s : State) : State :=
  s.setVote { s.vote with goose := s.vote.goose.map (fun (g : Nat × GooseTx) =>
    match smFind s.pair.mirror.goose g.1 with
    | some n => (g.1, { g.2 with stNum := n, sqNum := 0 })
    | none => g) }

/-- The module starts to hold (R308). Where no holder was ever seen, the takeover instant is the present one. The event and the mirrored records are part of pair operation. -/
def State.takeover (s : State) : State :=
  if s.pairMode = 0 then s
  else
    let nextAcc := s.pair.mirror.ledgerNext
    let instant := if s.pair.lastHeld = 0 then s.now else s.pair.lastHeld
    let s := s.adoptLedger
    let s := s.putPair R.PAIR_TAKEOVER_LO instant
    let s := s.count R.PAIR_TAKEOVERS
    let own := s.pair.cmp
    let other := s.partnerClaim (s.lanes.headD 0)
    let s := s.event E.PAIR_TAKEOVER noSource
      (leBytes 8 instant ++ leBytes 1 own ++ leBytes 1 other ++ leBytes 1 (s.fld F.PAIR_STATUS_MIRROR_UP) ++ leBytes 6 (nextAcc - 1))
    let s := s.adoptEnergy.adoptGoose
    let s := s.resumeStreams (s.isSet F.PAIR_STATUS_MIRROR_UP) instant
    (s.raise I.PAIR_TAKEOVER).condition 4 false

/-- The module stops holding (R298): cause 0 claim, 1 yield, 2 fault, 3 interlock. -/
def State.released (s : State) : State :=
  if s.pairMode = 0 then s
  else
    let cause := if s.isSet F.PAIR_STATUS_YIELD then 1 else if s.target = 10 ∨ s.target = 11 then 2
      else if s.pairMode = 2 then 3 else 0
    let s := s.count R.PAIR_RELEASES
    let s := s.event E.PAIR_RELEASED noSource (leBytes 1 cause)
    let s := s.raise I.PAIR_RELEASED
    if s.draft.base.isSome then s.condition 4 true else s

/-- The lanes decide again whether the module holds, and the stage follows (R298, R299). -/
def State.updateHolding (s : State) : State :=
  let v := s.vote
  let s := s.setVote { v with
    laneA := { v.laneA with holds := s.decides 0 }
    laneB := { v.laneB with holds := s.decides 1 }
    laneC := { v.laneC with holds := s.decides 2 } }
  let was := s.isSet F.PAIR_STATUS_HOLDING
  let is := s.majority (·.holds)
  let s := s.putFld F.PAIR_STATUS_HOLDING (if is then 1 else 0)
  let s := s.putFld F.VOTE_STATUS_HOLDING (if is then 1 else 0)
  let s := s.putFld F.PAIR_STATUS_PARTNER_HOLDS (if s.partnerWins is then 1 else 0)
  let s := s.putFld F.PAIR_STATUS_PARTNER_LIVE (if s.partnerLive then 1 else 0)
  let s := s.putFld F.PAIR_CLAIM_STATE_PARTNER (s.partnerClaim (s.lanes.headD 0))
  let s := if is && !was then s.takeover else if was && !is then s.released else s
  s.updatePins

/-- The claim driven changes (R296): shown, recorded and counted. Cause 0 is a fall, 1 a raise (log 11). -/
def State.driveClaim (s : State) (c cause : Nat) : State :=
  let old := s.fld F.PAIR_CLAIM_STATE_OWN
  let s := s.putFld F.PAIR_CLAIM_STATE_OWN c
  s.event E.PAIR_CLAIM_CHANGED noSource (leBytes 1 old ++ leBytes 1 c ++ leBytes 1 cause)

/-- On an edge of the own strobe (R296, R297): a fall is driven and acts at once; a raise is noted and waits; a raise driven
1 µs ago enters the own comparison. -/
def State.strobeClaim (s : State) : State :=
  let c := s.claim
  let own := s.fld F.PAIR_CLAIM_STATE_OWN
  let now := s.bases.mono
  let s := match s.pair.cmpAt with
    | some a => if a ≤ now then s.setPair { s.pair with cmp := own, cmpAt := none } else s
    | none => s
  if c < own then
    let s := s.driveClaim c 0
    (s.setPair { s.pair with cmp := c, cmpAt := none, raised := none }).putFld F.PAIR_CLAIM_STATE_PENDING 0
  else if own < c then
    match s.pair.raised with
    | some (v, _) =>
      if v = c then s else (s.setPair { s.pair with raised := some (c, now) }).putFld F.PAIR_CLAIM_STATE_PENDING c
    | none => (s.setPair { s.pair with raised := some (c, now) }).putFld F.PAIR_CLAIM_STATE_PENDING c
  else (s.setPair { s.pair with raised := none }).putFld F.PAIR_CLAIM_STATE_PENDING 0

/-- The interlock line follows what the module wants (R300): it is released when the module stops wanting to hold. -/
def State.interlock (s : State) : State :=
  if s.pairMode = 2 && s.pair.pulled && s.claim == 0 then
    (s.setPair { s.pair with pulled := false, lineHigh := some s.bases.mono }).drive .intlk true
  else s

/-- The claim is withdrawn within 1 µs (R284): an effective claim of 0, or the line released. -/
def State.withdraw (s : State) : State :=
  if s.pairMode = 0 then s.updateHolding
  else
    let s := if s.pairMode = 1 && s.fld F.PAIR_CLAIM_STATE_OWN != 0 then s.driveClaim 0 0 else s
    let s := (s.setPair { s.pair with cmp := 0, cmpAt := none, raised := none }).putFld F.PAIR_CLAIM_STATE_PENDING 0
    let s := if s.pair.pulled then
      (s.setPair { s.pair with pulled := false, lineHigh := some s.bases.mono }).drive .intlk true else s
    s.updateHolding

end Sys2Proof.Machine
end

