-- ==== Sys2Proof/Machine/QueueOps.lean ====
section
/-!
DEFINITION. Sys2Proof/Machine/QueueOps.lean: the hardware queues (R351 to R357): packets, storage and its level, commit and
rewind, flush, the signal of a queue's vector.
-/

namespace Sys2Proof.Machine

/-- A queue by number. -/
def State.queue (s : State) (q : Nat) : QueueSt := smGet {} s.queues q

def State.putQueue (s : State) (q : Nat) (x : QueueSt) : State := s.setQueues (smPut s.queues q x)

/-- Bytes a packet takes (R352): the header and the payload padded to 8. -/
def packetSize (n : Nat) : Nat := 8 + (n + 7) / 8 * 8

/-- The bytes of a packet: header (LENGTH, KIND, SEQ) and padded payload. -/
def packetBytes (seq : Nat) (payload : List Byte) : List Byte :=
  leBytes 4 (payload.length % 2 ^ 20) ++ leBytes 4 seq ++ pad ((payload.length + 7) / 8 * 8) payload

/-- Bytes held in storage (R356). -/
def QueueSt.level (x : QueueSt) : Nat := x.packets.foldl (fun a p => a + packetSize p.2.length) 0

/-- A queue's capacity in bytes (R351). -/
def State.queueSize (s : State) (q : Nat) : Nat := 4096 * (s.fld (F.QUEUE_Qn_CFG_SIZE q))

/-- Enabled and of the direction asked for (0 D2H, 1 H2D)? -/
def State.queueIs (s : State) (q dir : Nat) : Bool := s.isSet (F.QUEUE_Qn_CFG_ENABLE q) && s.fld (F.QUEUE_Qn_CFG_DIR q) == dir

/-- The queue's storage changes to `x`: LEVEL, the watermarks' crossings and their sticky bits follow (R356). -/
def State.putLevel (s : State) (q : Nat) (x : QueueSt) : State :=
  let old := (s.queue q).level
  let new := x.level
  let cap := s.queueSize q
  let high (l : Nat) : Bool := decide (s.fld (F.QUEUE_Qn_WATERMARK_HIGH q) * cap ≤ l * 256)
  let low (l : Nat) : Bool := decide (l * 256 ≤ s.fld (F.QUEUE_Qn_WATERMARK_LOW q) * cap)
  let s := (s.putQueue q x).putReg (R.QUEUE_Qn_LEVEL q) new
  let up := high new && !high old
  let down := low new && !low old
  let s := if up then (s.putFld (F.QUEUE_Qn_WM_STATUS_HIGH_STICKY q) 1).putFld (F.QUEUE_Qn_WM_STATUS_HIGH_CROSSINGS q)
    (s.fld (F.QUEUE_Qn_WM_STATUS_HIGH_CROSSINGS q) + 1) else s
  let s := if down then (s.putFld (F.QUEUE_Qn_WM_STATUS_LOW_STICKY q) 1).putFld (F.QUEUE_Qn_WM_STATUS_LOW_CROSSINGS q)
    (s.fld (F.QUEUE_Qn_WM_STATUS_LOW_CROSSINGS q) + 1) else s
  let s := (s.putFld (F.QUEUE_Qn_WM_STATUS_LIVE_HIGH q) (if high new then 1 else 0)).putFld (F.QUEUE_Qn_WM_STATUS_LIVE_LOW q) (if low new then 1 else 0)
  if up || down then s.raise I.QUEUE_WATERMARK else s

/-- A producer's packet commits (R353). The answer says whether it did: a queue that is disabled or H2D takes nothing and counts nothing,
and a packet that does not fit is rewound, counted and recorded. -/
def State.commit (s : State) (q : Nat) (payload : List Byte) : State × Bool :=
  if !s.queueIs q 0 then (s, false)
  else
    let x := s.queue q
    if s.queueSize q < x.level + packetSize payload.length then
      let s := s.count (R.QUEUE_Qn_LOST q)
      ((s.burst E.QUEUE_LOST q (leBytes 1 q) 1).raise I.QUEUE_LOST, false)
    else
      let s := s.putLevel q { x with packets := x.packets ++ [(x.seq, payload)], seq := (x.seq + 1) % 2 ^ 32 }
      ((s.endBurst E.QUEUE_LOST q).count (R.QUEUE_Qn_PACKETS q), true)

/-- Words of a packet. -/
def packetWords (p : Nat × List Byte) : Nat := packetSize p.2.length / 8

/-- HOST_SIZE of a queue. -/
def State.ringSize (s : State) (q : Nat) : Nat := s.regN (R.QUEUE_Qn_HOST_SIZE q)

/-- Does a domain drain before it leaves ON? No new transfer to or from it begins (R435). -/
def State.draining (s : State) (d : Nat) : Bool := match s.power.drain with | some (x, _, _) => x == d | none => false

/-- The queue may move packets: RUNNING, with its domains ON and the function in D0. -/
def State.dmaOn (s : State) (q dir : Nat) : Bool :=
  decide (q < 32) && s.queueIs q dir && s.fld (F.QUEUE_Qn_CTRL_STATE q) == 2 && s.domain pdShuttle == 0 && !s.draining pdShuttle &&
    s.domain pdHost == 0 && s.fld F.HOST_STATUS_D_STATE == 0 && s.ringSize q != 0

/-- FLUSH (R357): the storage empties at once; for H2D everything posted is skipped, and the write-back follows where the queue may move
packets (R354). -/
def State.flushQueue (s : State) (q : Nat) : State :=
  let x := s.queue q
  let words := x.packets.foldl (fun a p => a + packetWords p) 0
  let s := s.putLevel q { x with packets := [] }
  let host := s.regN (R.QUEUE_Qn_DOORBELL q)
  let s := if s.queueIs q 1 then s.putReg (R.QUEUE_Qn_DEVICE_PTR q) host else s
  let s := if s.dmaOn q 1 then s.emit (.writeBack q host) else s
  let s := s.putFld (F.QUEUE_Qn_CTRL_FLUSH q) 0
  s.event E.QUEUE_FLUSHED q (leBytes 1 q ++ leBytes 4 (sat32 words))

/-- A queue enters a state: 0 DISABLED, 1 STOPPED, 2 RUNNING, 3 ERROR. -/
def State.queueState (s : State) (q st : Nat) : State :=
  let s := s.putFld (F.QUEUE_Qn_CTRL_STATE q) st
  s.putReg R.QUEUE_STATUS (if st = 2 then setBit (s.regN R.QUEUE_STATUS) q else clrBit (s.regN R.QUEUE_STATUS) q)

/-- Queues that the QUEUES section enables. -/
def State.enabledQueues (s : State) : List Nat := (List.range 32).filter (fun q => s.isSet (F.QUEUE_Qn_CFG_ENABLE q))

/-- A warm reset and entry to M11 flush every queue and set it STOPPED (R357). -/
def State.flushAll (s : State) : State := s.enabledQueues.foldl (fun s q => (s.flushQueue q).queueState q 1) s

/-- Every running queue is stopped (R453). -/
def State.stopAll (s : State) : State :=
  s.enabledQueues.foldl (fun s q => if s.fld (F.QUEUE_Qn_CTRL_STATE q) = 2 then s.queueState q 1 else s) s

/-- One more packet counts toward the queue's signal (R355). -/
def State.countPacket (s : State) (q : Nat) : State :=
  let x := s.queue q
  let n := x.counted + 1
  if s.fld (F.QUEUE_Qn_MODERATION_PACKETS q) ≤ n then
    (s.putQueue q { x with counted := 0, first := none }).signal (32 + q)
  else s.putQueue q { x with counted := n, first := some (x.first.getD s.bases.mono) }

/-- The queue stops in ERROR (R358): cause 0 a DMA access in error, 1 a bad header, 2 a packet past the ring or the storage,
3 a doorbell past the other side's offset (log 11). -/
def State.dmaError (s : State) (q cause off : Nat) : State :=
  let s := s.queueState q 3
  (s.event E.QUEUE_DMA_ERROR q (leBytes 1 q ++ leBytes 1 cause ++ leBytes 4 off)).raise I.QUEUE_DMA_ERROR

/-- The entries of the DEVICE body (R40): register offset and word. -/
def deviceEntries (body : List Byte) : List (Nat × Nat) :=
  (List.range (leAt body 0 4)).map (fun i => (leAt body (16 + 8 * i) 4 % 2 ^ 25, leAt body (20 + 8 * i) 4))

/-- A consumer's queue (R351, R353): the field's queue, where the field is covered by the draft or was written, and the queue is
enabled H2D. -/
def State.consumerQueue (s : State) (f : Fld) : Option Nat :=
  let q := s.fld f
  let covered := q != 0 || (deviceEntries (s.cfg secDevice)).any (fun e => e.1 == f.addr)
  if covered && s.queueIs q 1 then some q else none

/-- The front packet leaves a queue's storage. -/
def State.popPacket (s : State) (q : Nat) : State := s.putLevel q { s.queue q with packets := (s.queue q).packets.drop 1 }

end Sys2Proof.Machine
end

