-- ==== Sys2Proof/Machine/LinkOps.lean ====
section
/-!
DEFINITION. Sys2Proof/Machine/LinkOps.lean: Selvedge links and Ethernet ports as they start and are lost (R318, R322, R90): what a domain
leaving ON does to them (R330, R436), and the mirror link with them (R304).
-/

namespace Sys2Proof.Machine

/-- State of the Selvedge link n: 0 OFF, 1 TRAINING, 2 MEASURE, 3 UP, 4 DOWN, 5 MISMATCH, 6 HELD (R332). -/
def State.linkState (s : State) (n : Nat) : Nat := bits (s.regN R.SLV_STATUS) (4 * n + 3) (4 * n)

def State.putLinkState (s : State) (n v : Nat) : State :=
  s.putReg R.SLV_STATUS (withBits (s.regN R.SLV_STATUS) (4 * n + 3) (4 * n) v)

def State.link (s : State) (n : Nat) : SlvLink := smGet {} s.slv.links n

/-- Put a link; its WINDOW register follows (R332). -/
def State.putLink (s : State) (n : Nat) (x : SlvLink) : State :=
  let s := s.setSlv { s.slv with links := smPut s.slv.links n x }
  let used := (x.sent + 65536 - x.credit) % 65536
  (s.putFld (F.SLV_LINKn_WINDOW_UNACKED n) x.unacked.length).putFld (F.SLV_LINKn_WINDOW_CREDIT n) (if s.linkState n = 3 then 128 - used else 0)

/-- The Selvedge link n left UP: where it is the mirror link, what waits on it is lost (R309, R331). -/
def State.mirrorLinkDown (s : State) (n : Nat) : State :=
  if s.pairMode = 0 ∨ n ≠ s.mirrorLink % 4 then s
  else
    let s := (s.setSlv { s.slv with mirrorQ := [], mirrorPart := 0 }).setPair { s.pair with hello := none }
    if s.isSet F.PAIR_STATUS_MIRROR_UP then
      let s := (s.putFld F.PAIR_STATUS_MIRROR_UP 0).count R.PAIR_MIRROR_DOWNS
      (s.event E.PAIR_MIRROR_DOWN n (leBytes 1 n)).raise I.PAIR_MIRROR_CHANGE
    else s

/-- The role of a link in the SLV section (R313): 0 OFF, 1 UP, 2 DOWN, 3 RING, 4 MIRROR. -/
def State.role (s : State) (n : Nat) : Nat := leAt (s.cfg secSlv) (4 + n) 1

/-- Bring-up starts (R318). -/
def State.startLink (s : State) (n : Nat) : State :=
  if s.role n = 0 ∨ s.domain pdSlv ≠ 0 then s
  else (s.putLinkState n 1).putLink n { since := s.bases.mono, downs := (s.link n).downs, skipped := (s.link n).skipped, mismatch := (s.link n).mismatch }

/-- Every link with a role starts. -/
def State.startLinks (s : State) : State := (List.range 4).foldl (fun s n => s.startLink n) s

/-- A link goes DOWN for a cause (R319, R322): what waits on it is lost; the third lasting cause within 60 s holds it. -/
def State.linkLost (s : State) (n cause : Nat) : State :=
  let was := s.linkState n
  let lasting := cause == 1 || cause == 2
  let x := s.link n
  let downs := (if lasting then x.downs ++ [s.bases.mono] else x.downs).filter (fun t => decide (s.bases.mono < t + 60000000000))
  let hold := lasting && decide (3 ≤ downs.length)
  let s := s.putLinkState n (if hold then 6 else 4)
  let s := s.putLink n { since := s.bases.mono, downs := downs, skipped := x.skipped || !x.own.isEmpty }
  let s := s.putFld (F.SLV_LINKn_STATE_CAUSE n) cause
  let s := (s.count (R.SLV_LINKn_DOWNS n)).event E.SLV_LINK_DOWN n (leBytes 1 n ++ leBytes 1 cause)
  let s := if was = 3 then s.raise I.SLV_LINK_DOWN else s
  let s := if hold then s.event E.SLV_LINK_HELD n (leBytes 1 n) else s
  s.mirrorLinkDown n

/-- PD_SLV leaves ON: every link that runs goes DOWN (R330); its transmitter is idle, so the lock is lost. -/
def State.linksLost (s : State) : State :=
  (List.range 4).foldl (fun s n => if 1 ≤ s.linkState n ∧ s.linkState n ≤ 3 then s.linkLost n 5 else s) s

/-! The PCIe link. -/

/-- The host ring registers of a queue take their reset values. -/
def State.resetRing (s : State) (q : Nat) : State :=
  [R.QUEUE_Qn_HOST_BASE_LO q, R.QUEUE_Qn_HOST_BASE_HI q, R.QUEUE_Qn_HOST_SIZE q, R.QUEUE_Qn_WB_LO q, R.QUEUE_Qn_WB_HI q,
    R.QUEUE_Qn_DOORBELL q, R.QUEUE_Qn_DEVICE_PTR q].foldl (fun s r => s.putReg r (RegMap.resetValue r).toNat) s

/-- Every queue goes STOPPED with its packets kept, and its host ring is forgotten (R453). -/
def State.dropRings (s : State) : State :=
  (s.enabledQueues.foldl (fun s q => s.queueState q 1) s) |> fun s => (List.range 32).foldl State.resetRing s

/-- The PCIe link is lost (R453, R281). A link that was up is recorded as down: cause 0 PERST, 1 surprise (log 39). -/
def State.hostLinkDown (s : State) (cause : Nat) : State :=
  let up := s.isSet F.HOST_STATUS_LINK_UP
  let s := s.dropRings.putReg R.HOST_STATUS 0
  if up then
    let s := s.setHost { s.host with downSince := some s.bases.mono }
    ((s.count R.HOST_LINK_DOWNS).event E.HOST_LINK_DOWN noSource (leBytes 1 cause)).raise I.HOST_LINK_CHANGE
  else s

/-! Ports. -/

/-- A port's domain (R17). -/
def portDomain (p : Nat) : Nat := if p < 4 then pdNetA else pdNetB

/-- The port runs: enabled, its domain ON. -/
def State.portOn (s : State) (p : Nat) : Bool := decide (p < 8) && s.fld (F.PORT_CFG_MODE p) != 0 && s.domain (portDomain p) == 0

/-- The port runs and its link is up. -/
def State.linkIsUp (s : State) (p : Nat) : Bool := s.portOn p && s.isSet (F.PORT_LINK_UP p)

/-- An arrival or departure time as latched, referred to the ball (R107): the device's own fixed latency and the board's figure are
taken out. A bit crosses the receive ball that long before it is latched, and the transmit ball that long after (log 48). -/
def State.rxStamp (s : State) (p latched : Nat) : Int :=
  (latched : Int) - s.regN (R.PORT_RX_LAT_FIXED p) - signed 32 (s.regN (R.PORT_RX_LAT_ADJ p))

def State.txStamp (s : State) (p latched : Nat) : Int :=
  (latched : Int) + s.regN (R.PORT_TX_LAT_FIXED p) + signed 32 (s.regN (R.PORT_TX_LAT_ADJ p))

/-- A port's link goes down (R90), with what `PORT_LINK` then shows. -/
def State.portLost (s : State) (p d : Nat) : State :=
  let s := (s.putReg (R.PORT_LINK p) d).count (R.PORT_LINK_DOWNS p)
  let s := s.putFld F.PORT_STATUS_LINK_UP (clrBit (s.fld F.PORT_STATUS_LINK_UP) p)
  (s.event E.PORT_LINK_DOWN p (leBytes 1 p ++ leBytes 4 d)).raise (I.PORT_LINK_CHANGE p)

/-- A port domain leaves ON: the links of its four ports are down. -/
def State.portsLost (s : State) (first : Nat) : State :=
  (List.range 4).foldl (fun s i =>
    if s.isSet (F.PORT_LINK_UP (first + i)) then s.portLost (first + i) 0 else s.putReg (R.PORT_LINK (first + i)) 0) s

end Sys2Proof.Machine
end

