-- ==== Sys2Proof/Machine/TimeOps.lean ====
section
/-!
DEFINITION. Sys2Proof/Machine/TimeOps.lean: the servo (R75, R76), the error bound E (R78) and the quality codes formed from it
(R85), steps of GRID (R75, R88), the selection of sources (R72), PD_TIME leaving and coming back to ON (R70).
-/

namespace Sys2Proof.Machine

/-! Servo state codes (R75). -/
abbrev svFreerun : Nat := 0
abbrev svAcquire : Nat := 1
abbrev svLocked : Nat := 2
abbrev svHoldover : Nat := 3
abbrev svSuspect : Nat := 4

/-- The smallest integer not below a rational, for a non-negative one. -/
def ceilNat (q : Rat) : Nat := if q ≤ 0 then 0 else ((q.num.natAbs + q.den - 1) / q.den)

/-- Smallest integer whose square is not below a number. -/
def ceilSqrt (n : Nat) : Nat := let r := Fp.isqrt n; if r * r = n then r else r + 1

/-- Twice the RMS of offsets, rounded up to whole ns (R78; log 12). -/
def twiceRms (l : List Int) : Nat :=
  if l.isEmpty then 0
  else
    let sum := l.foldl (fun a x => a + x.natAbs * x.natAbs) 0
    ceilSqrt ((4 * sum + l.length - 1) / l.length)

/-- E in HOLDOVER and PATH_SUSPECT (R78), rounded up to whole ns (log 12): from the bound at entry, with y_T and AGING of the
TIME section and the learned residual in 10⁻¹⁵. -/
def holdoverBound (e0 dt residual yT aging : Nat) : Nat :=
  let t : Rat := dt
  let y := mkRat (residual : Int) (10 ^ 15) + Fp.toRat32 yT
  let a := Fp.toRat32 aging / 86400
  e0 + ceilNat (y * t + a * t * t / 2 / 1000000000)

/-- The error bound E of R78. -/
def State.errorBound (s : State) : Nat :=
  let v := s.servo
  if v = svLocked then
    sat32 ((smGet {} s.time.src (s.fld F.TIME_STATUS_GRID_SOURCE)).inaccuracy + twiceRms s.time.offsets + 20)
  else match s.time.entry with
    | some (e0, since) =>
      if v = svFreerun then 0xFFFFFFFF
      else sat32 (holdoverBound e0 (s.bases.mono - since) s.time.residual (leAt (s.cfg secTime) 4 4) (leAt (s.cfg secTime) 8 4))
    | none => 0xFFFFFFFF

/-- Is the source followed of class ≤ 7, or a traceable input (R85)? -/
def State.primarySource (s : State) : Bool :=
  let c := s.fld F.TIME_STATUS_GRID_SOURCE
  if 1 ≤ c ∧ c ≤ 8 then decide ((smGet {} s.time.src c).clockClass ≤ 7) else decide (9 ≤ c ∧ c ≤ 11)

/-- Message time quality (R85). The rule's E is a time and the register saturates at 0xFFFF_FFFF ns, about 4.29 s: a bound that has
saturated is taken as above 10 s. DESIGN CHOICE (log 44). -/
def State.messageQuality (s : State) : Nat :=
  let e := s.errorBound
  if s.servo = svLocked ∧ s.primarySource then 0
  else if s.servo = svFreerun then 0xF
  else if e ≤ 10 then 2 else if e ≤ 100 then 3 else if e ≤ 1000 then 4 else if e ≤ 10000 then 5
  else if e ≤ 100000 then 6 else if e ≤ 1000000 then 7 else if e ≤ 10000000 then 8 else if e ≤ 100000000 then 9
  else if e ≤ 1000000000 then 10 else if e ≤ 10000000000 ∧ e < 0xFFFFFFFF then 11 else 0xF

/-- STAT time quality, bits 8:6 (R85). -/
def State.statQuality (s : State) : Nat :=
  let e := s.errorBound
  if s.servo = svFreerun then 7
  else if e ≤ 100 then 1 else if e ≤ 1000 then 2 else if e ≤ 10000 then 3 else if e ≤ 100000 then 4
  else if e ≤ 1000000 then 5 else if e ≤ 10000000 then 6 else 7

/-- Unlocked-time code, STAT bits 5:4 (R85). Before the first LOCKED it reads 3, as the register's reset shows. -/
def State.unlockedCode (s : State) : Nat :=
  if s.servo = svLocked then 0
  else match s.time.leftLocked with
    | some m =>
      let d := (s.bases.mono - m) / 1000000000
      if d < 10 then 0 else if d < 100 then 1 else if d < 1000 then 2 else 3
    | none => 3

/-- The sync-error bit (R85). -/
def State.syncErr (s : State) : Bool := decide (s.regN R.TIME_QUALITY_CFG < s.errorBound)

/-- `TIME_QUALITY` (R85). -/
def State.timeQuality (s : State) : Nat :=
  (if s.syncErr then 1024 else 0) + s.unlockedCode * 256 + s.statQuality * 16 + s.messageQuality

/-- TAI − UTC in seconds (R84). -/
def State.taiUtc (s : State) : Int := signed 16 (s.fld F.TIME_UTC_TAI_UTC)

/-- What the servo keeps when it enters a state from another (R75): HOLDOVER and PATH_SUSPECT keep the bound and the time of
entry and draw the learned residual. -/
def State.servoTime (s : State) (v : Nat) : TimeSt :=
  let tm := s.time
  let tm := if s.servo = svLocked then { tm with leftLocked := some s.bases.mono } else tm
  let tm := if (v == svHoldover || v == svSuspect) && tm.entry.isNone then
    { tm with entry := some (s.errorBound, s.bases.mono), residual := s.free32 } else tm
  let tm := if v = svLocked ∨ v = svFreerun then { tm with entry := none } else tm
  let tm := if v = svAcquire then { tm with within := 0, acquired := false, slew := 0 } else tm
  if v == svHoldover || v == svSuspect then { tm with slew := 0, autoGood := 0 } else tm

/-- TIME_HOLDOVER_SECONDS when holdover ends (R75). -/
def State.servoSpan (s : State) (v : Nat) : State :=
  match if v = svLocked ∨ v = svFreerun then s.time.entry else none with
  | some (_, since) => s.putReg R.TIME_HOLDOVER_SECONDS (sat32 ((s.bases.mono - since) / 1000000000))
  | none => s

/-- What follows the servo's new state: TIME_LOCKED or TIME_LOST, the condition of R63 and with it `HEALTH_O` (R263). -/
def State.servoSignals (s : State) (v : Nat) : State :=
  let entering := (v == svHoldover || v == svSuspect)
  let s := if v = svLocked then s.raise I.TIME_LOCKED else if entering then s.raise I.TIME_LOST else s
  let was := bit (s.regN R.DRAFT_MODE_COND) 2
  let s := if entering || (v == svFreerun && decide (3 ≤ s.mode)) then s.condition 2 true else if v = svLocked then s.condition 2 false else s
  if bit (s.regN R.DRAFT_MODE_COND) 2 = was then s else s.updatePins

/-- The servo enters a state (R75, R76), recorded with E. -/
def State.setServo (s : State) (v : Nat) : State :=
  let old := s.servo
  if old = v then s
  else
    let e := s.errorBound
    let s := ((s.servoSpan v).setTime (s.servoTime v)).draw
    let s := s.putFld F.TIME_STATUS_SERVO v
    let s := if v = svLocked then s.putFld F.TIME_STATUS_EVER_LOCKED 1 else s
    (s.event E.TIME_SERVO_STATE noSource (leBytes 1 old ++ leBytes 1 v ++ leBytes 4 e)).servoSignals v

/-- A base's value. -/
def State.base (s : State) (test : Bool) : Nat := if test then s.bases.test else s.bases.grid

/-- A pulse armed with these settings; a periodic one whose start is past begins at its first time still to come (R87). -/
def armPulse (now : Nat) (test : Bool) (start period width : Nat) : PulseSt :=
  let next := if period ≠ 0 ∧ start < now then start + ((now - start + period - 1) / period) * period else start
  { armed := true, onTest := test, period := period, width := width, next := next }

/-- The pulse once its present pulse has ended: settings that waited take effect, a periodic pulse goes on, a single one is done
(R88). -/
def PulseSt.ended (p : PulseSt) (base : Bool → Nat) : PulseSt :=
  match p.waiting with
  | some (test, st, period, width) => armPulse (base test) test st period width
  | none => if p.period = 0 then { p with armed := false, level := false } else { p with level := false, next := p.next + p.period }

/-- Rising edges of an armed pulse that a step of its base to `goal` passes: how many, and the pulse after them (R88). A pulse whose
fall the step passes has ended. -/
def PulseSt.skip (p : PulseSt) (base : Bool → Nat) (onTest : Bool) (goal : Nat) : Nat × PulseSt :=
  let p := if p.level && decide (p.next + p.width ≤ goal) then p.ended base else p
  if p.level || !p.armed || p.onTest != onTest || decide (goal ≤ p.next) then (0, p)
  else if p.period = 0 then (1, { p with armed := false })
  else
    let n := (goal - p.next + p.period - 1) / p.period
    (n, { p with next := p.next + n * p.period })

/-- A pulse takes another state; its ARMED bit follows. -/
def State.pulsePut (s : State) (n : Nat) (p : PulseSt) : State :=
  let s := s.setTime { s.time with pulses := smPut s.time.pulses n p }
  s.putFld (F.TIME_PULSEn_CTRL_ARMED n) (if p.armed then 1 else 0)

/-- A step of a base passes armed pulse edges: they are not emitted (R88). A ball whose fall it passes goes low. -/
def State.skipPulses (s : State) (onTest : Bool) (goal : Nat) : State :=
  s.time.pulses.foldl (fun s e =>
    if e.2.onTest != onTest then s
    else
      let r := e.2.skip s.base onTest goal
      let s := if e.2.level && !r.2.level then s.drive (.pulse e.1) false else s
      let s := s.pulsePut e.1 r.2
      if r.1 = 0 then s
      else
        let s := s.count R.TIME_PULSE_SKIPPED r.1
        (s.event E.TIME_PULSE_SKIPPED e.1 (leBytes 1 e.1 ++ leBytes 4 (sat32 r.1))).raise I.TIME_PULSE_SKIPPED) s

/-- The active base steps forward: lattices for which that is O slot periods or more have it to deal with (R202). -/
def State.stepLattices (s : State) (by' : Nat) : State :=
  s.setLoom { s.loom with lats := s.loom.lats.map (fun x =>
    if x.2.next.isSome ∧ 0 < by' ∧ 1000000000 * s.openSlots x.1 ≤ by' * s.rate x.1 then (x.1, { x.2 with stepped := true }) else x) }

/-- The GRID second before the first at which `PPS_O` rises, once GRID reads `grid` (R81). -/
def ppsBefore (grid : Nat) : Nat := (grid - 1) / 1000000000

/-- GRID is stepped (R75): recorded with the old and the new value. The offsets predicted after it move with GRID (R82). -/
def State.stepGrid (s : State) (goal : Nat) : State :=
  let old := s.bases.grid
  let s := s.setBases { s.bases with grid := goal }
  let s := s.setTime { s.time with slew := 0, slewed := s.time.slewed + ((goal : Int) - old), ppsLast := ppsBefore goal }
  let s := if s.onTest then s else s.stepLattices (goal - old)
  let s := s.event E.TIME_GRID_SET noSource (leBytes 8 old ++ leBytes 8 goal)
  if old < goal then s.skipPulses false goal else s

/-! Sources (R71, R72). -/

/-- What is known of a source. -/
def State.src (s : State) (c : Nat) : SrcSt := smGet {} s.time.src c

def State.putSrc (s : State) (c : Nat) (x : SrcSt) : State := s.setTime { s.time with src := smPut s.time.src c x }

/-- Is a source qualified? -/
def State.qualified (s : State) (c : Nat) : Bool := bit (s.regN R.TIME_SOURCE_QUAL) c

/-- Qualified sources in the order of `TIME_SOURCE_PRIO`. -/
def State.ranked (s : State) : List Nat :=
  ((List.range 4).map (fun i => bits (s.regN R.TIME_SOURCE_PRIO) (4 * i + 3) (4 * i))).filter
    (fun c => c != 0 && decide (c ≤ 11) && s.qualified c)

/-- Every qualified source: those of `TIME_SOURCE_PRIO` in its order, then the others. -/
def State.available (s : State) : List Nat := s.ranked ++ (List.range 12).filter (fun c => s.qualified c && !s.ranked.contains c)

/-- GRID or AUX moves to another source (R72). Base 0 is GRID, 1 AUX. -/
def State.moveSource (s : State) (base new : Nat) : State :=
  let f := if base = 0 then F.TIME_STATUS_GRID_SOURCE else F.TIME_STATUS_AUX_SOURCE
  let old := s.fld f
  if old = new then s
  else
    let s := (s.putFld f new).count R.TIME_SOURCE_CHANGES
    let s := if base = 0 ∧ new ≠ 0 then
      (s.putFld ⟨R.TIME_GM_QUALITY, 7, 0⟩ (s.src new).clockClass).setTime { s.time with delays := [], withheld := [] } else s
    (s.event E.TIME_SOURCE_CHANGE noSource
      (leBytes 1 base ++ leBytes 1 old ++ leBytes 1 new ++ leBytes 4 (satSigned32 (s.src new).offset))).raise I.TIME_SOURCE_CHANGE

/-- GRID and AUX take the first and the next qualified source (R72). -/
def State.moveSources (s : State) : State :=
  let l := s.ranked
  let g := l.getD 0 0
  (s.moveSource 0 g).moveSource 1 ((l.filter (· != g)).getD 0 0)

/-- A source's QUALIFIED bit goes. -/
def State.clearQual (s : State) (c : Nat) : State :=
  let s := s.putSrc c { s.src c with good := 0 }
  s.putReg R.TIME_SOURCE_QUAL (clrBit (s.regN R.TIME_SOURCE_QUAL) c)

/-- GRID's and AUX's sources are both disqualified, until they agree within CROSS_TOL for 10 s, and the servo enters HOLDOVER (R73). -/
def State.crossLost (s : State) (g a : Nat) : State :=
  let s := s.setTime { s.time with crossOut := [g, a], agreeSince := none }
  (((s.clearQual g).clearQual a).setServo svHoldover).moveSources

/-- A lasting TIME_SOURCE fault that no cross-check decided (R281): HOLDOVER, as in R73. With no second source there is none to agree
with, and GRID's source may qualify again as any other. -/
def State.sourceLost (s : State) : State :=
  let g := s.fld F.TIME_STATUS_GRID_SOURCE
  let a := s.fld F.TIME_STATUS_AUX_SOURCE
  if s.domain pdTime ≠ 0 ∨ g = 0 then s
  else if a = 0 then ((s.clearQual g).setServo svHoldover).moveSources
  else s.crossLost g a

/-- Mean of the accepted delays (R82), to the nearest ns below. -/
def meanDelay (l : List Nat) : Nat := if l.isEmpty then 0 else l.foldl (· + ·) 0 / l.length

/-- PATH_SUSPECT ends where another source is qualified: the suspect one stays disqualified until it proves itself against its
pre-step mean (R83). -/
def State.leaveSuspect (s : State) : State :=
  let c := s.fld F.TIME_STATUS_GRID_SOURCE
  if s.servo ≠ svSuspect ∨ !s.qualified c ∨ (s.ranked.filter (· != c)).isEmpty then s
  else (s.putSrc c { s.src c with suspect := some (meanDelay s.time.delays), suspectGood := 0 }).clearQual c

/-- The sources in force after a change of those qualified, of their ranks or of what holds the servo (R72); the servo follows (R75):
it leaves FREERUN or HOLDOVER for ACQUIRE where a source qualifies (`fresh`) or GRID had none, and goes to HOLDOVER or FREERUN where
none is left. While TIME runs from `SDREF0` GRID is in FREERUN (R70). -/
def State.select (s : State) (fresh : Bool) : State :=
  let wasG := s.fld F.TIME_STATUS_GRID_SOURCE
  let s := s.leaveSuspect.moveSources
  let g := s.fld F.TIME_STATUS_GRID_SOURCE
  let v := s.servo
  if g = 0 then
    if v = svAcquire then s.setServo (if s.isSet F.TIME_STATUS_EVER_LOCKED then svHoldover else svFreerun)
    else if v = svLocked ∨ v = svSuspect then s.setServo svHoldover
    else s
  else if !s.time.pllLocked || s.isSet F.TIME_CTRL_FORCE_HOLDOVER || s.time.tooLarge then s
  else if (v = svFreerun ∨ v = svHoldover) ∧ (fresh ∨ wasG = 0) then s.setServo svAcquire
  else if v = svSuspect ∧ g ≠ wasG then
    let s := s.event E.TIME_PATH_CLEARED noSource (leBytes 1 3 ++ leBytes 4 (s.regN R.TIME_ASYM_COMP))
    s.setServo svAcquire
  else s

/-- TAI − UTC is the valid currentUtcOffset of the first PTP source that gives one (R84). -/
def State.takeUtc (s : State) : State :=
  match (s.available.filterMap (fun c => if c ≤ 8 then (s.src c).utc else none)).head? with
  | some o => (s.putFld F.TIME_UTC_TAI_UTC (unsigned 16 o)).putFld F.TIME_UTC_SOURCE 1
  | none => s

/-- A source qualifies, unless it is barred (R73, R83). -/
def State.qualify (s : State) (c : Nat) : State :=
  if s.qualified c || s.time.crossOut.contains c || (s.src c).suspect.isSome then s
  else ((s.putReg R.TIME_SOURCE_QUAL (setBit (s.regN R.TIME_SOURCE_QUAL) c)).select true).takeUtc

/-- A source is disqualified (R71). -/
def State.disqualify (s : State) (c : Nat) : State :=
  if s.qualified c then (s.clearQual c).select false else s.putSrc c { s.src c with good := 0 }

/-- What follows a write of a TIME register: a change of ranks moves the sources (R72); FORCE_HOLDOVER puts a servo that follows a
source in HOLDOVER, and lets it acquire again once cleared (R89). `old` is the state before the write. -/
def State.timeWritten (s old : State) (addr : Nat) : State :=
  if s.domain pdTime ≠ 0 then s
  else if addr = R.TIME_SOURCE_PRIO then s.select false
  else if s.isSet F.TIME_CTRL_FORCE_HOLDOVER = old.isSet F.TIME_CTRL_FORCE_HOLDOVER then s
  else if !s.isSet F.TIME_CTRL_FORCE_HOLDOVER then s.select true
  else if s.servo = svAcquire ∨ s.servo = svLocked ∨ s.servo = svSuspect then s.setServo svHoldover
  else s

/-! PD_TIME leaves ON and comes back (R70). -/

/-- PD_TIME leaves ON: after the first LOCKED, AON keeps GRID − MONO and E. `PPS_O` and the pulses go low (R436). -/
def State.timeLeaves (s : State) : State :=
  let kept := if s.isSet F.TIME_STATUS_EVER_LOCKED then
    some ((s.bases.grid : Int) - s.bases.mono, s.errorBound, s.bases.mono) else none
  let s := if s.time.ppsHigh then s.drive .pps false else s
  let s := s.time.pulses.foldl (fun s e => if e.2.level then s.drive (.pulse e.1) false else s) s
  s.setTime { s.time with
    kept := kept, slew := 0, pllLocked := false, ppsHigh := false
    pulses := s.time.pulses.map (fun e => (e.1, { e.2 with level := false })) }

/-- PD_TIME comes ON: GRID resumes as MONO plus the difference kept, in HOLDOVER with E grown by 0.02 of the time away, or
restarts at 0 in FREERUN. -/
def State.timeReturns (s : State) : State :=
  match s.time.kept with
  | some (diff, e, since) =>
    let s := s.setBases { s.bases with grid := ((s.bases.mono : Int) + diff).toNat }
    let s := s.setTime { s.time with ppsLast := ppsBefore s.bases.grid }
    let away := s.bases.mono - since
    let s := s.setServo svHoldover
    s.setTime { s.time with kept := none, entry := some (e + away / 50, s.bases.mono) }
  | none =>
    let s := s.setBases { s.bases with grid := 0 }
    (s.setTime { s.time with ppsLast := 0 }).setServo svFreerun

end Sys2Proof.Machine
end

