-- ==== Sys2Proof/Machine/FaultOps.lean ====
section
/-!
DEFINITION. Sys2Proof/Machine/FaultOps.lean: failures and their treatment (R276 to R289): transient and lasting failures, fencing,
entry to M10 and M11, the pad hold; domains entering and leaving ON (R433, R436), a draft dropped (R54).
-/

namespace Sys2Proof.Machine

/-! Domains. -/

/-- A domain enters a state (0 ON, 1 RETAIN, 2 OFF): lattices pause without PD_LOOM (R287); a lane that is not ON reads OFF and drives nothing (R261, R436, R496);
PD_TIME keeps what R70 says; links and ports of a domain that leaves ON go down (R330). -/
def State.setDomain (s : State) (d v : Nat) : State :=
  let was := s.domain d
  if was = v then s
  else
    let s := if d = pdTime ∧ was = 0 then s.timeLeaves else s
    let s := if d = pdSlv ∧ was = 0 then s.linksLost else s
    let s := if d = pdNetA ∧ was = 0 then s.portsLost 0 else if d = pdNetB ∧ was = 0 then s.portsLost 4 else s
    let s := if d = pdLoom ∧ was = 0 then
      s.setLoom { s.loom with lats := s.loom.lats.map (fun x => (x.1, { x.2 with paused := true })) } else s
    let s := if d = pdStacks ∧ v = 2 then s.setStk [] else s
    let s := s.putDomain d v
    let s := if d = pdTime ∧ v = 0 then s.timeReturns else s
    if pdLaneA ≤ d ∧ d ≤ pdLaneC then
      (if v = 0 then (if s.laneState (d - 12) = 3 then s.putFld (laneFld (d - 12)) 0 else s)
       else (if s.laneState (d - 12) = 2 then s else s.putFld (laneFld (d - 12)) 3)).updateHolding
    else if d = pdAna then s.updatePins
    else s

/-- DOMAIN_STATE (R448): cause 0 request, 1 demand, 2 restore, 3 mode. -/
def State.domainEvent (s : State) (d old new cause : Nat) : State :=
  if old = new then s else s.event E.POWER_DOMAIN_STATE d (leBytes 1 d ++ leBytes 1 old ++ leBytes 1 new ++ leBytes 1 cause)

/-- A domain has been woken on demand (R434). -/
def State.showWoken (s : State) (d : Nat) : State :=
  (((s.putReg R.POWER_WOKEN (setBit (s.regN R.POWER_WOKEN) d)).count R.POWER_WAKES_ON_DEMAND).raise I.POWER_WOKEN)

/-- An access to the Archive wakes PD_ARCHIVE from RETAIN (R433, R434). -/
def State.wakeArchive (s : State) : State :=
  let s := s.setPower { s.power with archAt := s.bases.mono }
  if s.domain pdArchive = 1 then ((s.setDomain pdArchive 0).domainEvent pdArchive 1 0 1).showWoken pdArchive else s

/-- Is the domain USED by the tie-up (R21)? -/
def State.usedDomain (s : State) (d : Nat) : Bool := bit (s.fld F.DRAFT_DOMAINS_USED) d

/-- Every domain but PD_AON, PD_CTRL, PD_HOST, PD_ARCHIVE and those listed goes OFF (R54, R289). -/
def State.powerDown (s : State) (keep : List Nat) : State :=
  [2, 3, 4, 5, 6, 7, 8, 9, 10, 11, 12, 13, 14].foldl (fun s d =>
    if keep.contains d || s.domain d == 3 then s else (s.setDomain d 2).domainEvent d (s.domain d) 2 3) s

/-! The draft is dropped (R54, R64). -/

/-- No draft is held (R54, R64): the registers that describe one read 0, and every domain that may be OFF is. -/
def State.dropDraft (s : State) : State :=
  let s := s.powerDown []
  let s := s.setDraft { imageWrite := s.draft.imageWrite, lastSwitch := s.draft.lastSwitch, modeNs := s.draft.modeNs }
  let s := [2, 3, 4, 5, 6, 7, 8, 9, 10, 11, 12, 13, 14].foldl (fun s d => if s.domain d = 3 then s.putDomain d 2 else s) s
  let s := [R.DRAFT_CARDS, R.DRAFT_BIND0, R.DRAFT_BIND1, R.DRAFT_ID_LO, R.DRAFT_ID_HI, R.DRAFT_GENERATION, R.DRAFT_DOMAINS,
    R.DRAFT_MODE_COND].foldl (fun s r => s.putReg r 0) s
  let s := ((s.putFld F.DRAFT_STATUS_SOURCE 0).putFld F.DRAFT_STATUS_SIGNED 0).putFld F.DRAFT_STATUS_IMAGE 0
  let s := (s.putFld F.DRAFT_STATUS_LOAD_STATE 0).putFld F.GLOBAL_STATUS_DRAFT_HELD 0
  ((s.putFld F.DRAFT_SWITCH_STATUS_PATCH_PENDING 0).showSwitch).updateHolding

/-- A load ends without a draft (R54): fail reason, section INDEX (0xFF header or table), byte offset. -/
def State.failLoad (s : State) (reason sec off : Nat) : State :=
  let start := match s.draft.load with | some l => l.start | none => s.bases.mono
  let s := s.dropDraft
  let s := s.enterMode 0
  let s := ((s.putFld F.DRAFT_STATUS_FAIL_REASON reason).putFld F.DRAFT_STATUS_FAIL_SECTION sec).putFld F.DRAFT_STATUS_LOAD_STATE 3
  let s := (s.putReg R.DRAFT_FAIL_OFFSET off).putReg R.DRAFT_LOAD_TIME (sat32 ((s.bases.mono - start) / 1000))
  (s.event E.DRAFT_LOAD_FAIL noSource (leBytes 1 reason ++ leBytes 4 sec ++ leBytes 4 off)).raise I.DRAFT_LOAD_FAIL

/-! Fault classes (R280) and treatments (R281). -/

abbrev fcLane : Nat := 0
abbrev fcNoMajority : Nat := 1
abbrev fcLockstep : Nat := 2
abbrev fcDataCheck : Nat := 3
abbrev fcSramSec : Nat := 4
abbrev fcSramDed : Nat := 5
abbrev fcStacksSec : Nat := 6
abbrev fcStacksDed : Nat := 7
abbrev fcCfgScan : Nat := 8
abbrev fcShadow : Nat := 9
abbrev fcClockLoss : Nat := 10
abbrev fcDroop : Nat := 11
abbrev fcTimeSource : Nat := 12
abbrev fcLinkCell : Nat := 13
abbrev fcArchive : Nat := 14

abbrev trContinue : Nat := 0
abbrev trFence : Nat := 1
abbrev trRecovery : Nat := 2
abbrev trSafe : Nat := 3
abbrev trHoldover : Nat := 4

/-- An element code (R292): domain and unit. -/
abbrev element (d u : Nat) : Nat := d * 256 + u
abbrev wholeDomain : Nat := 0xFF

/-- What FAULT keeps of an element. -/
def State.elem (s : State) (e : Nat) : ElemSt := smGet {} s.fault.elems e

def State.putElem (s : State) (e : Nat) (x : ElemSt) : State := s.setFault { s.fault with elems := smPut s.fault.elems e x }

/-- The class's own counter (registers at 0x0308 and up), counted at each detection. -/
def classCounter (cls : Nat) : Option Nat :=
  match cls with
  | 2 => some R.FAULT_LOCKSTEP
  | 4 => some R.FAULT_SRAM_SEC
  | 5 => some R.FAULT_SRAM_DED
  | 6 => some R.FAULT_STACKS_SEC
  | 7 => some R.FAULT_STACKS_DED
  | 8 => some R.FAULT_CFG_MISMATCH
  | 10 => some R.FAULT_CLOCK_LOSS
  | 11 => some R.FAULT_DROOP
  | 14 => some R.FAULT_ARCHIVE_RETRY
  | _ => none

def State.countClass (s : State) (cls : Nat) : State :=
  match classCounter cls with | some r => s.count r | none => s

/-- Blocks of a domain's elements, as a mask of block indices (R17): for `FAULT_FENCED_BLOCKS`. -/
def domainBlocks (d : Nat) : Nat :=
  match d with
  | 0 => 2 ^ 0 + 2 ^ 1 + 2 ^ 10 + 2 ^ 24 + 2 ^ 25 + 2 ^ 30
  | 1 => 2 ^ 28
  | 2 => 2 ^ 2
  | 3 => 2 ^ 2
  | 4 => 2 ^ 13
  | 5 => 2 ^ 3
  | 6 => 2 ^ 4 + 255 * 2 ^ 16
  | 7 => 2 ^ 5
  | 8 => 2 ^ 6
  | 9 => 2 ^ 7 + 2 ^ 8 + 2 ^ 15
  | 10 => 2 ^ 11 + 2 ^ 12
  | 11 => 2 ^ 14
  | 12 => 2 ^ 9
  | 13 => 2 ^ 9
  | 14 => 2 ^ 9
  | 15 => 2 ^ 24
  | _ => 2 ^ 26 + 2 ^ 27 + 2 ^ 29

/-- A lane fails as a whole: in its signature, its clock, its configuration store or its working state (R281). -/
def laneFault (cls e : Nat) : Bool :=
  decide (pdLaneA ≤ e / 256 ∧ e / 256 ≤ pdLaneC) &&
    (cls == fcLane || cls == fcClockLoss || cls == fcCfgScan || (cls == fcSramDed && e % 256 == wholeDomain))

/-- An uncorrectable word of a row or page that can be remapped, rather than of the working state of a whole domain (R282). -/
def rowFault (cls e : Nat) : Bool := (cls == fcSramDed || cls == fcStacksDed) && e % 256 != wholeDomain

/-- The treatment a lasting fault of a class on an element has by its element (R281, R282). -/
def treatment (cls e fencedLanes : Nat) : Nat :=
  let d := e / 256
  if cls = fcNoMajority then trSafe
  else if cls = fcLane ∨ laneFault cls e then (if 1 ≤ fencedLanes then trSafe else trFence)
  else if cls = fcDataCheck then trContinue
  else if cls = fcShadow ∨ cls = fcDroop then trSafe
  else if cls = fcTimeSource then trHoldover
  else if cls = fcLinkCell then trContinue
  else if cls = fcArchive ∨ rowFault cls e then trFence
  else if cls = fcSramSec ∨ cls = fcStacksSec then trContinue
  else if d = pdHost then trContinue
  else if cls = fcClockLoss ∧ (d = pdCtrl ∨ 16 ≤ d) then trSafe
  else if d = pdArchive then trFence
  else if d = pdCtrl ∨ 16 ≤ d then trSafe
  else trRecovery

/-- The RECOVERY entries of the last hour on MONO (R283). -/
def State.recentRecoveries (s : State) : List Nat :=
  s.fault.recoveries.filter (fun t => decide (s.bases.mono < t + 3600000000000))

/-- A RECOVERY treatment is escalated (R283): in M10, or with the entries of the last hour at the limit. -/
def State.escalate (s : State) (tr : Nat) : Nat :=
  let lim := s.fld F.FAULT_CTRL_RECOVERY_LIMIT
  if tr = trRecovery ∧ (s.mode = 10 ∨ s.target = 10 ∨ (lim ≠ 0 ∧ lim ≤ s.recentRecoveries.length)) then trSafe else tr

/-! The pad hold (R286). -/

/-- The pad hold is set at entry to M10: only when this module holds the stage and no partner is live; the balls that sink
stay sinking. -/
def State.setHold (s : State) (held live : Bool) (sink : Nat) : State :=
  if held && !live then
    let balls := sink % 256
    let s := s.putFld F.FAULT_PAD_HOLD_HELD balls
    let s := s.putFld F.FAULT_STATUS_PAD_HOLD (if balls = 0 then 0 else 1)
    let s := s.setFault { s.fault with holdSet := some s.bases.mono }
    s.event E.FAULT_PAD_HOLD_SET noSource (leBytes 1 balls)
  else s

/-- The pad hold ends (R286): cause 0 exit, 1 SAFE, 2 command. -/
def State.endHold (s : State) (cause : Nat) : State :=
  match s.fault.holdSet with
  | none => s
  | some _ =>
    let s := (s.putFld F.FAULT_PAD_HOLD_HELD 0).putFld F.FAULT_STATUS_PAD_HOLD 0
    let s := s.setFault { s.fault with holdSet := none }
    (s.event E.FAULT_PAD_HOLD_RELEASED noSource (leBytes 1 cause)).updatePins

/-! Entering M10 and M11. -/

/-- The cause of the present M10 or M11; class 15 is a warm reset. -/
def State.setCause (s : State) (cls e : Nat) : State :=
  (s.putFld F.FAULT_CAUSE_CLASS cls).putFld F.FAULT_CAUSE_ELEMENT e

/-- LASTING_ACTIVE rises: the fault has begun (R288). -/
def State.beginFault (s : State) : State :=
  if s.isSet F.FAULT_STATUS_LASTING_ACTIVE then s
  else (s.putFld F.FAULT_STATUS_LASTING_ACTIVE 1).setFault { s.fault with since := s.bases.mono }

/-- R285, from M3 to M9 or at a warm reset: the claim is withdrawn, the pad hold set, M10 decided, a pending switch or patch
dropped. A pair module that holds with no live partner keeps holding alone (R298). -/
def State.enterRecovery (s : State) (cls e : Nat) : State :=
  let held := s.holds
  let live := s.partnerLive
  let sink := s.vote.sink
  let s := if held && !live && s.pairMode == 1 then s.putFld F.PAIR_STATUS_HOLD_ALONE 1 else s
  let s := s.dropPending
  let s := s.decideMode 10
  let s := s.withdraw
  let s := s.setHold held live sink
  let s := s.updatePins
  let s := (s.beginFault).setCause cls e
  let s := s.setFault { s.fault with recoveries := s.recentRecoveries ++ [s.bases.mono] }
  let s := s.count R.FAULT_RECOVERY_ENTRIES
  let slot := match s.draft.switch with | some w => w.slot | none => 0
  (s.event E.FAULT_RECOVERY_ENTERED e (leBytes 1 cls ++ leBytes 2 e ++ leBytes 8 slot)).raise I.FAULT_RECOVERY

/-- R289: the claim is withdrawn, every alarm ball released, the pad hold ended; M11 reads from S, and the domains go OFF
there, with PD_TIME kept to time S (log 14). -/
def State.enterSafe (s : State) (cls e : Nat) : State :=
  let s := s.dropPending
  let s := s.decideMode 11
  let s := s.withdraw
  let s := (s.endHold 1).updatePins
  let s := (s.beginFault).setCause cls e
  let s := s.putFld F.FAULT_STATUS_SAFE_LATCHED 1
  let s := s.count R.FAULT_SAFE_ENTRIES
  let s := s.flushAll.powerDown [pdTime, pdStacks]
  (s.event E.FAULT_SAFE_ENTERED e (leBytes 1 cls ++ leBytes 2 e)).raise I.FAULT_SAFE

/-! Fencing and restoring. -/

/-- Elements now fenced (FENCED or RESTORING). -/
def State.fencedElems (s : State) : List (Nat × ElemSt) := s.fault.elems.filter (fun x => x.2.state != 0)

/-- `FAULT_STATUS.FENCED` and `FAULT_FENCED_BLOCKS` follow the elements. -/
def State.showFenced (s : State) : State :=
  let l := s.fencedElems
  let s := s.putFld F.FAULT_STATUS_FENCED (min l.length 0xFFFF)
  s.putReg R.FAULT_FENCED_BLOCKS (l.foldl (fun a x => a ||| domainBlocks (x.1 / 256)) 0)

/-- An element is fenced (R279). -/
def State.fence (s : State) (cls e : Nat) (recovery : Bool) : State :=
  let s := s.putElem e { s.elem e with state := if recovery then 2 else 1, cls := cls, recovery := recovery, proving := none, fencedAt := s.bases.mono }
  let s := s.showFenced
  (s.event E.FAULT_FENCED e (leBytes 2 e)).raise I.FAULT_FENCED

/-- A fenced element's domain is powered OFF and its wake begins (R288). -/
def State.startRestore (s : State) (e : Nat) : State :=
  let d := e / 256
  if 16 ≤ d then s
  else
    let s := (s.setDomain d 2).domainEvent d (s.domain d) 2 2
    s.setPower { s.power with waking := smPut s.power.waking d (s.bases.mono, 2) }

/-- Elements of a domain whose restore is proving itself. -/
def State.provingIn (s : State) (d : Nat) : List Nat :=
  (s.fencedElems.filter (fun x => x.1 / 256 == d && x.2.proving.isSome)).map (·.1)

/-- A restore fails (R288): cause 0 a lasting fault, 1 the wake or its scan, 2 WARM (log 11). The element stays fenced. -/
def State.restoreFails (s : State) (e cause : Nat) : State :=
  let s := (s.putElem e { s.elem e with state := 1, proving := none }).showFenced
  (s.event E.FAULT_RESTORE_FAILED e (leBytes 2 e ++ leBytes 1 cause)).raise I.FAULT_RESTORE_FAILED

/-- A failed restore in M10 makes the mode M11 (R283). -/
def State.restoreFailed (s : State) (e cause : Nat) : State :=
  let s := s.restoreFails e cause
  if (s.mode = 10 ∨ s.target = 10) ∧ s.mode ≠ 11 ∧ s.target ≠ 11 then s.enterSafe (s.elem e).cls e else s

/-- A lane is fenced (R260): its drive stops. -/
def State.fenceLane (s : State) (i : Nat) : State :=
  ((s.putFld (laneFld i) 2).raise I.VOTE_FENCED).updateHolding

/-- The payload of LANE_NO_MAJORITY: the three last signatures. -/
def State.signatures (s : State) : List Byte := [R.VOTE_SIG_A, R.VOTE_SIG_B, R.VOTE_SIG_C].flatMap (fun r => leBytes 4 (s.regN r))

/-- A failure whose repeat succeeded (R278): counted and recorded in FAULT; the owning block's own retry count and record are
written by that block. -/
def State.transient (s : State) (cls e : Nat) : State :=
  let s := s.putElem e { s.elem e with transient := (s.elem e).transient + 1 }
  let s := (s.count R.FAULT_TRANSIENT).countClass cls
  (s.event E.FAULT_TRANSIENT e (leBytes 1 cls ++ leBytes 2 e)).raise I.FAULT_TRANSIENT

/-- In M0 and M1 no lasting fault is treated: a load in progress fails with ABORTED, and the fault is recorded otherwise (R291). -/
def State.failInLoad (s : State) : State := if s.draft.load.isSome then s.failLoad 13 0xFF 0 else s

/-- Treatment RECOVERY, by the mode (R281, R283, R291): in M2 the element is fenced and restored; in M3 to M9 M10 is entered as well. -/
def State.treatRecovery (s : State) (cls e : Nat) : State :=
  if s.mode < 2 then s.failInLoad
  else
    let s := s.fence cls e true
    let s := if s.mode = 2 then s.beginFault else if s.mode = 11 ∨ s.target = 11 then s else s.enterRecovery cls e
    if s.mode = 11 ∨ s.target = 11 then s else s.startRestore e

/-- A lane that failed as a whole is fenced; with a second one no majority remains, which is recorded with the three last
signatures (R260, R273). -/
def State.fenceFailed (s : State) (cls e : Nat) : State :=
  if laneFault cls e then
    let s := (s.fence cls e false).fenceLane (e / 256 - 12)
    if 2 ≤ s.fencedLanes then s.event E.VOTE_LANE_NO_MAJORITY noSource s.signatures else s
  else s

/-- A lasting fault's treatment on an element (R281, R283): continue, fence it, RECOVERY or SAFE. A remapped row uses up a repair (R282);
a HOST without its clock has no link. -/
def State.treat (s : State) (cls e tr : Nat) : State :=
  if s.mode < 2 then s.failInLoad
  else if tr = trFence then
    if laneFault cls e then s.fenceFailed cls e
    else
      let s := s.fence cls e false
      if rowFault cls e then s.count R.FAULT_REPAIRS_USED else s
  else if tr = trRecovery then s.treatRecovery cls e
  else if tr = trSafe then
    let s := s.fenceFailed cls e
    if s.mode = 11 ∨ s.target = 11 then s else s.enterSafe cls e
  else if cls = fcClockLoss ∧ e / 256 = pdHost then s.hostLinkDown 1
  else s

/-- A lasting failure (R279) of element `e`: recorded with its class, element and treatment, and treated (R281, R283) on `u`, which is
`e` itself or, where no repair is left for it, its whole domain (R282). -/
def State.lastingOn (s : State) (cls e u : Nat) : State :=
  let tr := s.escalate (treatment cls u s.fencedLanes)
  let s := s.putElem e { s.elem e with lasting := (s.elem e).lasting + 1 }
  let s := (s.count R.FAULT_LASTING).countClass cls
  let s := s.putReg R.FAULT_LAST (2 ^ 24 * cls + 2 ^ 20 * tr + e)
  let s := s.putPair R.FAULT_LAST_TIME_LO s.bases.mono
  let s := (s.event E.FAULT_LASTING e (leBytes 1 cls ++ leBytes 2 e ++ leBytes 1 tr)).raise I.FAULT_LASTING
  let s := (s.provingIn (e / 256)).foldl (fun s x => if tr = trSafe ∨ tr = trRecovery then s.restoreFails x 0 else s.restoreFailed x 0) s
  s.treat cls u tr

def State.lasting (s : State) (cls e : Nat) : State := s.lastingOn cls e e

/-- A lasting DATA_CHECK failure of a block (R283): more than CHECK_LIMIT of them in one second give the block's domain its
RECOVERY treatment. -/
def State.checkFailed (s : State) (block d unit : Nat) : State :=
  let s := s.lasting fcDataCheck (element d unit)
  let recent := ((smGet [] s.fault.checks block).filter (fun t => decide (s.bases.mono < t + 1000000000))) ++ [s.bases.mono]
  let s := s.setFault { s.fault with checks := smPut s.fault.checks block recent }
  if s.fld F.FAULT_CTRL_CHECK_LIMIT < recent.length then
    let s := s.setFault { s.fault with checks := smDel s.fault.checks block }
    let e := element d wholeDomain
    s.treat fcDataCheck e (s.escalate trRecovery)
  else s

/-- Is a domain's restore outstanding: its elements read as fenced? -/
def State.domainFenced (s : State) (d : Nat) : Bool := s.fencedElems.any (fun x => x.1 / 256 == d && x.2.recovery)

/-- The fault is cleared when every element fenced with RECOVERY has been restored and a warm reset has been proved (R288). -/
def State.clearFault (s : State) : State :=
  if s.isSet F.FAULT_STATUS_LASTING_ACTIVE && !s.fencedElems.any (fun x => x.2.recovery) && s.fault.warm.isNone &&
      !s.isSet F.FAULT_STATUS_SAFE_LATCHED then
    let secs := (s.bases.mono - s.fault.since) / 1000000000
    let s := s.putFld F.FAULT_STATUS_LASTING_ACTIVE 0
    (s.event E.FAULT_CLEARED noSource (leBytes 4 (sat32 secs))).raise I.FAULT_CLEARED
  else s

end Sys2Proof.Machine
end

