-- ==== Sys2Proof/Machine/Ports.lean ====
section
/-!
DEFINITION. Sys2Proof/Machine/Ports.lean: the network ports (R91 to R112, R497): links, the classification of a received frame,
PRP, the slow path, the multicast table, transmission of a frame.
-/

namespace Sys2Proof.Machine

/-- Does the port belong to a PRP pair (R103)? -/
def State.inPrp (s : State) (p : Nat) : Bool := s.isSet (F.PORT_CFG_PRP (p / 2 * 2))

/-- The port's unicast address as a 48-bit number, first byte most significant. -/
def State.portMac (s : State) (p : Nat) : Nat := 2 ^ 32 * (s.fld (F.PORT_MAC_HI_ADDR p)) + s.regN (R.PORT_MAC_LO p)

/-! Transmission (R104, R106). -/

/-- A frame leaves a port whose link is up, padded to 64 bytes with its FCS; the bytes shown carry no FCS. -/
def State.transmit (s : State) (p : Nat) (bytes : List Byte) : State :=
  if !s.linkIsUp p then s
  else
    let bytes := if bytes.length < 60 then pad 60 bytes else bytes
    let s := s.count (R.PORT_TX_FRAMES p)
    let s := s.putPair (R.PORT_TX_OCTETS_LO p) ((s.pairAt (R.PORT_TX_OCTETS_LO p) + bytes.length + 4) % 2 ^ 64)
    s.emit (.frame p bytes)

/-- Is the frame's type field a VLAN tag? -/
def tagged (bytes : List Byte) : Bool := beAt bytes 12 2 == 0x8100

/-- A redundancy control trailer (IEC 62439-3): sequence number, LanId and LSDUsize, suffix. -/
def rct (seq lan size : Nat) : List Byte := beBytes 2 seq ++ beBytes 2 (4096 * lan + size % 4096) ++ beBytes 2 0x88FB

/-- A frame leaves both ports of a pair with one sequence number (R104). -/
def State.transmitPrp (s : State) (pair : Nat) (bytes : List Byte) : State :=
  let seq := smGet 0 s.port.prpSeq pair
  let s := s.setPort { s.port with prpSeq := smPut s.port.prpSeq pair ((seq + 1) % 65536) }
  let bytes := if bytes.length < 54 then pad 54 bytes else bytes
  let size := bytes.length - (if tagged bytes then 18 else 14) + 6
  (s.transmit (2 * pair) (bytes ++ rct seq 0xA size)).transmit (2 * pair + 1) (bytes ++ rct seq 0xB size)

/-- A Shuttle, GOOSE or host frame leaves a port, or both ports of a PRP pair when the port is its even one. -/
def State.send (s : State) (p : Nat) (prp : Bool) (bytes : List Byte) : State :=
  if prp && s.inPrp p && p % 2 == 0 then s.transmitPrp (p / 2) bytes else s.transmit p bytes

/-! The multicast table (R101). -/

/-- One entry as its eight words. -/
def State.mcastWord (s : State) (i w : Nat) : Nat := s.regN (R.PORT_MCASTn_W0 i + 4 * w)

/-- The bits of an entry's words that are not reserved (R111). -/
def mcastMask (w : Nat) : Nat := ([0xF000FF00, 0, 0xFFFFFFFF, 0x0000FFFF] : List Nat).getD w 0xFFFFFFFF

/-- An entry's words. -/
def State.mcastEntry (s : State) (i : Nat) : List Nat := (List.range 8).map (s.mcastWord i)

def State.putMcast (s : State) (i : Nat) (words : List Nat) : State :=
  (List.range 8).foldl (fun s w => s.putReg (R.PORT_MCASTn_W0 i + 4 * w) (words.getD w 0 &&& mcastMask w)) s

/-- The state with the table as a frame finds it whose first byte arrived at MONO `at'`: before the entries that changed later (R101). -/
def State.mcastAt (s : State) (at' : Nat) : State :=
  (s.port.mcastPast.filter (fun e => decide (at' < e.1))).foldl (fun s e => s.putMcast e.2.1 e.2.2) s

/-- The valid entries' indices. -/
def State.mcastValid (s : State) : List Nat := (List.range 256).filter (fun i => bit (s.mcastWord i 0) 31)

/-- Does an entry accept a destination MAC on a port (R96)? -/
def State.mcastMac (s : State) (p mac i : Nat) : Bool :=
  let w := s.mcastWord i 0
  let kind := bits w 30 29
  let want := if kind = 0 then 2 ^ 32 * (s.mcastWord i 3 % 65536) + s.mcastWord i 2
    else if kind = 1 then 0x01005E000000 + s.mcastWord i 4 % 2 ^ 23
    else 0x333300000000 + s.mcastWord i 4
  bit (bits w 15 8) p && want == mac

/-- An IPv6 entry's group: word 4 holds bits 31:0 and word 7 bits 127:96. -/
def State.mcastV6 (s : State) (i : Nat) : Nat :=
  s.mcastWord i 4 + 2 ^ 32 * s.mcastWord i 5 + 2 ^ 64 * s.mcastWord i 6 + 2 ^ 96 * s.mcastWord i 7

/-- The lowest valid entry that accepts the MAC on the port. -/
def State.mcastFind (s : State) (p mac : Nat) : Option Nat := s.mcastValid.find? (s.mcastMac p mac)

/-- Is a group address held for the port? -/
def State.mcastGroup (s : State) (p kind addr : Nat) : Bool :=
  s.mcastValid.any (fun i =>
    let w := s.mcastWord i 0
    bit (bits w 15 8) p && bits w 30 29 == kind && (if kind = 1 then s.mcastWord i 4 else s.mcastV6 i) == addr)

/-- R96. -/
def State.macAccepted (s : State) (p mac : Nat) : Bool :=
  (mac == s.portMac p && mac != 0) || mac == 0xFFFFFFFFFFFF ||
  ((mac == 0x011B19000000 || mac == 0x0180C200000E) && bit (s.fld F.TIME_PTP_CFG_PORTS) p) ||
  (mac == 0x01154E000100 && s.inPrp p) || (s.mcastFind p mac).isSome

/-! Reception. -/

/-- What the classifier makes of a frame (R95). -/
inductive Verdict where
  | drop (counter : Nat)
  | time
  | heddle (kind : Nat) (payload srcIp : List Byte) (srcUdp : Nat)
  | slow (reason : Nat)
  deriving DecidableEq, Repr

/-- Ones' complement sum of 16-bit big-endian words, an odd byte padded with 0. -/
def onesSum : List Byte → Nat
  | [] => 0
  | [a] => a.toNat * 256
  | a :: b :: r => let t := a.toNat * 256 + b.toNat + onesSum r; t % 65536 + t / 65536

/-- UDP checks and the service lookup (R100). `udp` is the datagram; `pseudo` the pseudo-header's bytes. -/
def State.classifyUdp (s : State) (p : Nat) (v6 slow : Bool) (pseudo srcIp udp : List Byte) : Verdict :=
  let len := beAt udp 4 2
  let csum := beAt udp 6 2
  let good := decide (8 ≤ len ∧ len ≤ udp.length) &&
    (if csum = 0 then !v6 else onesSum (pseudo ++ udp.take len) == 0xFFFF)
  if !good then .drop (R.PORT_RX_UDP_CSUM_ERR p)
  else
    let dport := beAt udp 2 2
    match (List.range 16).find? (fun i =>
      s.fld (F.PORT_UDP_SVCn_CLASS i) != 0 && s.fld (F.PORT_UDP_SVCn_CLASS i) != 3 && s.fld (F.PORT_UDP_SVCn_UDP_PORT i) == dport) with
    | some i => if slow then .slow 8 else .heddle (s.fld (F.PORT_UDP_SVCn_CLASS i)) ((udp.take len).drop 8) srcIp (beAt udp 0 2)
    | none => .slow 5

/-- IPv4 (R98). `ip` is the frame from the IP header on. -/
def State.classifyV4 (s : State) (p : Nat) (slow : Bool) (ip : List Byte) : Verdict :=
  let vi := beAt ip 0 1
  let hl := vi % 16 * 4
  let total := beAt ip 2 2
  if vi / 16 ≠ 4 ∨ hl < 20 ∨ ip.length < hl ∨ total < hl ∨ ip.length < total ∨ onesSum (ip.take hl) ≠ 0xFFFF then
    .drop (R.PORT_RX_IP_HDR_ERR p)
  else if beAt ip 6 2 % 2 ^ 14 ≠ 0 then .drop (R.PORT_RX_FRAG_DROP p)
  else
    let dst := beAt ip 16 4
    let mine := dst != 0 && (dst == s.regN (R.PORT_IPV4_0 p) || dst == s.regN (R.PORT_IPV4_1 p))
    if !(mine || dst == 0xFFFFFFFF || s.mcastGroup p 1 dst) then .drop (R.PORT_RX_MAC_FILTERED p)
    else
      let proto := beAt ip 9 1
      let body := (ip.take total).drop hl
      if proto = 17 then
        s.classifyUdp p false slow (slice ip 12 8 ++ [0, 17] ++ slice body 4 2) (slice ip 12 4) body
      else if proto = 1 then .slow 1
      else if proto = 2 then .slow 2
      else if proto = 6 then .slow 4
      else .slow 6

/-- A port's IPv6 address from its four words, first byte most significant: the first word holds bits 31:0. -/
def State.portV6 (s : State) (base : Nat) : Nat :=
  s.regN base + 2 ^ 32 * s.regN (base + 4) + 2 ^ 64 * s.regN (base + 8) + 2 ^ 96 * s.regN (base + 12)

/-- IPv6 (R99). Any other Next Header goes to the slow path as OTHER_IP (log 15). -/
def State.classifyV6 (s : State) (p : Nat) (slow : Bool) (ip : List Byte) : Verdict :=
  let plen := beAt ip 4 2
  if beAt ip 0 1 / 16 ≠ 6 ∨ ip.length < 40 + plen then .drop (R.PORT_RX_IP_HDR_ERR p)
  else
    let dst := beAt ip 24 16
    let mine := dst != 0 && (dst == s.portV6 (R.PORT_IPV6_0_0 p) || dst == s.portV6 (R.PORT_IPV6_1_0 p))
    if !(mine || s.mcastGroup p 2 dst) then .drop (R.PORT_RX_MAC_FILTERED p)
    else
      let nh := beAt ip 6 1
      let body := slice ip 40 plen
      if nh = 17 then s.classifyUdp p true slow (slice ip 8 32 ++ beBytes 4 plen ++ [0, 0, 0, 17]) (slice ip 8 16) body
      else if nh = 58 then .slow 3
      else if nh = 6 then .slow 4
      else if nh = 0 then (if beAt body 0 1 = 58 then .slow 3 else .drop (R.PORT_RX_EXTHDR_DROP p))
      else if [43, 44, 50, 51, 60, 135, 139, 140].contains nh then .drop (R.PORT_RX_EXTHDR_DROP p)
      else .slow 6

/-- VLAN (R97): the offset of the Ethertype, or none where the frame is dropped. -/
def State.vlan (s : State) (p : Nat) (bytes : List Byte) : Option Nat :=
  let ty := beAt bytes 12 2
  let mode := s.fld (F.PORT_CFG_VLAN_MODE p)
  let isTag (x : Nat) : Bool := x == 0x8100 || x == 0x88A8 || x == 0x9100
  if ty = 0x8100 then
    if isTag (beAt bytes 16 2) then none
    else if (mode = 1 ∨ mode = 2) ∧ beAt bytes 14 2 % 4096 = s.fld (F.PORT_VLAN_VID p) then some 16 else none
  else if isTag ty then none
  else if mode = 0 ∨ mode = 2 then some 12 else none

/-- Stages 3 to 10 of R95 on a frame without trailer. -/
def State.classify (s : State) (p : Nat) (bytes : List Byte) : Verdict :=
  let mac := beAt bytes 0 6
  if !s.macAccepted p mac then .drop (R.PORT_RX_MAC_FILTERED p)
  else
    let slow := match s.mcastFind p mac with | some i => bit (s.mcastWord i 0) 28 | none => false
    match s.vlan p bytes with
    | none => .drop (R.PORT_RX_VLAN_DROP p)
    | some o =>
      let ty := beAt bytes o 2
      let body := bytes.drop (o + 2)
      if ty = 0x88F7 then .time
      else if ty = 0x88BA then (if slow then .slow 8 else .heddle 3 body [] 0)
      else if ty = 0x88B8 then (if slow then .slow 8 else .heddle 0 body [] 0)
      else if ty = 0x0806 then .slow 0
      else if ty = 0x0800 then s.classifyV4 p slow body
      else if ty = 0x86DD then s.classifyV6 p slow body
      else if s.isSet (F.PORT_CFG_SLOW_UNKNOWN p) then .slow 7
      else .drop (R.PORT_RX_ETYPE_DROP p)

/-- The trailer of a PRP frame (R103): sequence number and LanId, where the last six bytes are one whose LSDUsize agrees. -/
def prpTrailer (bytes : List Byte) : Option (Nat × Nat) :=
  let n := bytes.length
  if n < 20 ∨ beAt bytes (n - 2) 2 ≠ 0x88FB then none
  else
    let w := beAt bytes (n - 4) 2
    if w % 4096 = (n - (if tagged bytes then 18 else 14)) % 4096 then some (beAt bytes (n - 6) 2, w / 4096) else none

/-- A source sees a sequence number (R103): was it seen within the window, and the window after it. -/
def PrpSrc.see (x : PrpSrc) (seq now : Nat) : Bool × PrpSrc :=
  let up := (seq + 65536 - x.top) % 65536
  if up ≠ 0 ∧ up < 32768 then (false, { top := seq, window := (x.window * 2 ^ min up 64 + 1) % 2 ^ 64, last := now })
  else
    let age := (65536 - up) % 65536
    if 64 ≤ age then (false, { x with last := now })
    else (x.window.testBit age, { x with window := x.window ||| 2 ^ age, last := now })

/-- Duplicate discard (R103): is the frame a later copy? A source is forgotten FORGET ms after its last frame. -/
def State.prpSee (s : State) (p seq mac : Nat) : Bool × State :=
  let pair := p / 2
  let tab := smGet [] s.port.prp pair
  let forget := 1000000 * (s.fld (F.PORT_PRP_CFG_FORGET pair))
  let known := (smFind tab mac).bind (fun x => if s.bases.mono < x.last + forget then some x else none)
  let save (x : PrpSrc) : State := s.setPort { s.port with prp := smPut s.port.prp pair (smPut tab mac x) }
  match known with
  | some x => let r := x.see seq s.bases.mono; (r.1, save r.2)
  | none =>
    if (smFind tab mac).isNone ∧ 2048 ≤ tab.length then
      let s := s.count (R.PORT_PRP_TABLE_FULL p)
      (false, (s.event E.PORT_PRP_TABLE_FULL noSource (leBytes 4 pair)).raise I.PORT_PRP_TABLE_FULL)
    else (false, save { top := seq, window := 1, last := s.bases.mono })

/-- The slow path (R105): rate-limited, then committed to the receive queue with its descriptor. -/
def State.slowPath (s : State) (p reason stamp prp : Nat) (bytes : List Byte) : State :=
  let rate := s.fld (F.PORT_SLOW_RATE_FPS p)
  let b := smGet (1000000000 * rate, s.bases.mono) s.port.tokens p
  let have' := min (1000000000 * rate) (b.1 + (s.bases.mono - b.2) * rate)
  if have' < 1000000000 then
    let s := s.setPort { s.port with tokens := smPut s.port.tokens p (have', s.bases.mono) }
    let s := s.count (R.PORT_RX_SLOW_RATE_DROP p)
    (s.burst E.PORT_SLOW_RATE_LIMIT p (leBytes 1 p) 1).raise I.PORT_SLOW_DROP
  else
    let s := (s.endBurst E.PORT_SLOW_RATE_LIMIT p).setPort { s.port with tokens := smPut s.port.tokens p (have' - 1000000000, s.bases.mono) }
    let desc := leBytes 8 stamp ++ leBytes 1 p ++ leBytes 1 reason ++ leBytes 1 prp ++ [0] ++ leBytes 2 bytes.length ++ [0, 0]
    let r := s.commit (s.fld F.PORT_SLOW_QUEUE_RX_QUEUE) (desc ++ bytes)
    if r.2 then r.1.count (R.PORT_RX_SLOW p)
    else (r.1.count (R.PORT_RX_SLOW_QFULL_DROP p)).raise I.PORT_SLOW_DROP

/-- Is the frame a C37.118 one: by UDP, or injected? -/
def HedFrame.isC37 (f : HedFrame) : Bool := f.kind == 1 || 4 ≤ f.kind

/-- Its type code in SYNC byte 1. -/
def HedFrame.c37Type (f : HedFrame) : Nat := bits (beAt f.payload 1 1) 6 4

/-- The input queue with one more frame: a configuration frame is judged before the data frames of its own frame time (R139). -/
def insertFrame (q : List HedFrame) (f : HedFrame) : List HedFrame :=
  let same (g : HedFrame) : Bool := g.isC37 && g.c37Type == 0 && g.stamp == f.stamp
  if f.isC37 && [2, 3, 5].contains f.c37Type then q.filter (fun g => !same g) ++ [f] ++ q.filter same else q ++ [f]

/-- A frame reaches the Heddle input (R95, R497): counted; decoded in M3 to M10 only. -/
def State.toHeddle (s : State) (p : Nat) (f : HedFrame) : State :=
  let s := s.count (R.PORT_RX_MEAS p)
  if 3 ≤ s.mode ∧ s.mode ≤ 10 ∧ s.usedDomain pdHeddle then s.setHedQ (insertFrame s.hedQ f) else s

/-- Stages 3 to 10 and the destination. A frame is classified on the table as its first byte found it (R101). -/
def State.deliver (s : State) (p stamp prp : Nat) (bytes : List Byte) : State :=
  match (s.mcastAt (s.bases.mono - (s.now - stamp))).classify p bytes with
  | .drop c => s.count c
  | .time => s.count (R.PORT_RX_PTP p)
  | .slow r => s.slowPath p r stamp prp bytes
  | .heddle k pl ip udp => s.toHeddle p ⟨p, stamp, s.onTest, k, bytes, pl, ip, udp⟩

/-- Bytes of a port's receive buffer in use (R94): its frames that wait for Heddle. -/
def State.bufferUse (s : State) (p : Nat) : Nat :=
  s.hedQ.foldl (fun a f => if f.port = p ∧ f.kind < 4 then a + f.bytes.length + 4 else a) 0

/-- The octets of a frame's Ethernet type. -/
def etherType (bytes : List Byte) : Nat := if tagged bytes then beAt bytes 16 2 else beAt bytes 12 2

/-- Does LAN A's copy of a frame of LAN B complete at the same time? It waits behind it in the queue of commands (R110). -/
def State.lanACopy (s : State) (p seq : Nat) (bytes : List Byte) : Bool :=
  p % 2 == 1 && s.pending.any (fun c => match c with
    | .frameReceived t q b _ ok => decide (t ≤ s.bases.mono) && q + 1 == p && ok && beAt b 6 6 == beAt bytes 6 6 &&
        (match prpTrailer b with | some x => x.1 == seq | none => false)
    | _ => false)

/-- A frame of a PRP pair's port (R101 to R104): PTP and untagged frames pass, supervision frames are counted, and of each pair of
tagged frames the first is kept. -/
def State.prpReceived (s : State) (p stamp : Nat) (bytes : List Byte) : State :=
  match prpTrailer bytes with
  | none => s.deliver p stamp 0 bytes
  | some (seq, lan) =>
    let s := if lan ≠ (if p % 2 = 0 then 0xA else 0xB) then s.count (R.PORT_PRP_WRONG_LAN p) else s
    let r := if s.lanACopy p seq bytes then (true, s) else s.prpSee p seq (beAt bytes 6 6)
    if r.1 then r.2.count (R.PORT_PRP_DUP_DISCARD p)
    else r.2.deliver p stamp (1 + lan * 16) (bytes.take (bytes.length - 6))

/-- A frame that passed the MAC's checks (R93, R94): counted, then delivered, or put through the PRP tables. -/
def State.frameGood (s : State) (p stamp : Nat) (bytes : List Byte) : State :=
  let s := s.count (R.PORT_RX_FRAMES p)
  let s := s.putPair (R.PORT_RX_OCTETS_LO p) ((s.pairAt (R.PORT_RX_OCTETS_LO p) + (bytes.length + 4)) % 2 ^ 64)
  if !s.inPrp p ∨ etherType bytes = 0x88F7 then s.deliver p stamp 0 bytes
  else if etherType bytes = 0x88FB then s.count (R.PORT_PRP_SUPERVISION p)
  else s.prpReceived p stamp bytes

/-- FRAME_RECEIVED (R93 to R108): a frame, from its destination address to before its FCS, received whole; `latched` is the
active base at its start-of-frame delimiter, from which the stamp of R107 is formed. -/
def State.frameReceived (s : State) (p : Nat) (bytes : List Byte) (latched : Nat) (fcsOk : Bool) : State :=
  let n := bytes.length + 4
  if !s.linkIsUp p then s
  else if 512 * 1024 < s.bufferUse p + n then
    ((s.count (R.PORT_RX_BUF_DROP p)).burst E.PORT_BUF_OVERFLOW p (leBytes 1 p) 1).raise I.PORT_BUF_DROP
  else
    let s := s.endBurst E.PORT_BUF_OVERFLOW p
    if !fcsOk then s.count (R.PORT_RX_FCS_ERR p)
    else if n < 64 ∨ (if s.isSet (F.PORT_CFG_JUMBO p) then 9216 else 1522) < n then s.count (R.PORT_RX_LEN_ERR p)
    else if beAt bytes 12 2 = 0x8808 then s.count (R.PORT_RX_PAUSE p)
    else s.frameGood p (s.rxStamp p latched).toNat bytes

def execFrameReceived (t port : Nat) (bytes : List Byte) (latched : Nat) (fcsOk : Bool) (s : State) :
    Host.Outcome State Fault Refusal := run t (·.frameReceived port bytes latched fcsOk) s

/-! Links (R92). -/

/-- LINK_UP: the conditions have held since MONO `since`, for 10 ms at 10GBASE-R. -/
def State.portUp (s : State) (p since : Nat) : State :=
  let mode := s.fld (F.PORT_CFG_MODE p)
  if !s.portOn p ∨ s.isSet (F.PORT_LINK_UP p) ∨ (mode = 1 ∧ s.bases.mono < since + 10000000) then s
  else
    let an := if mode = 2 ∧ s.isSet (F.PORT_CFG_AN_EN p) then 4 else 0
    let s := s.putReg (R.PORT_LINK p) (3 + an)
    let s := s.putFld F.PORT_STATUS_LINK_UP (setBit (s.fld F.PORT_STATUS_LINK_UP) p)
    (s.event E.PORT_LINK_UP p (leBytes 1 p ++ leBytes 1 mode)).raise (I.PORT_LINK_CHANGE p)

def execLinkUp (t port since : Nat) (s : State) : Host.Outcome State Fault Refusal := run t (·.portUp port since) s

/-- A port's link goes down at once; `detail` is what `PORT_LINK` then shows, UP apart. A link that is not up shows a change of its
conditions. -/
def State.portDown (s : State) (p detail : Nat) (inFrame : Bool) : State :=
  if 8 ≤ p then s
  else if !s.isSet (F.PORT_LINK_UP p) then (if s.portOn p then s.putReg (R.PORT_LINK p) (bits detail 5 1 * 2) else s)
  else (if inFrame then s.count (R.PORT_RX_PCS_ERR p) else s).portLost p (bits detail 5 1 * 2)

def execLinkDown (t port detail : Nat) (inFrame : Bool) (s : State) : Host.Outcome State Fault Refusal :=
  run t (·.portDown port detail inFrame) s

/-- The fixed latencies of the mode a port runs in (R111): free values (log 5). -/
def State.showLatency (s : State) (p : Nat) : State :=
  let m := s.fld (F.PORT_CFG_MODE p)
  (s.putReg (R.PORT_RX_LAT_FIXED p) (Config.portLatency m 0).toNat).putReg (R.PORT_TX_LAT_FIXED p) (Config.portLatency m 1).toNat

/-- What follows a write of `PORT_CFG`: where MODE or AN_EN changes, the link's conditions are lost (R92). `old` is the state before. -/
def State.portWritten (s old : State) (addr : Nat) : State :=
  match (List.range 8).find? (fun p => addr == R.PORT_CFG p) with
  | none => s
  | some p =>
    if s.fld (F.PORT_CFG_MODE p) = old.fld (F.PORT_CFG_MODE p) ∧ s.fld (F.PORT_CFG_AN_EN p) = old.fld (F.PORT_CFG_AN_EN p) then s
    else
      let s := s.showLatency p
      if s.isSet (F.PORT_LINK_UP p) then s.portLost p 0 else s.putReg (R.PORT_LINK p) 0

/-! PRP timers (R103, R104). -/

/-- A supervision frame (IEC 62439-3): path 0 and version 1, its sequence number, the TLV of duplicate discard with the
source's address (log 15). -/
def supervisionFrame (mac seq : Nat) : List Byte :=
  beBytes 6 0x01154E000100 ++ beBytes 6 mac ++ beBytes 2 0x88FB ++ beBytes 2 1 ++ beBytes 2 seq ++ [20, 6] ++ beBytes 6 mac ++ [0, 0]

/-- PRP_SUPERVISION (R104): SUPERVISION ms after the last, on both ports of a pair. -/
def State.supervise (s : State) (pair : Nat) : State :=
  let last := smFind s.port.supervised pair
  let due := match last with
    | some m => decide (m + 1000000 * (s.fld (F.PORT_PRP_CFG_SUPERVISION pair)) ≤ s.bases.mono)
    | none => true
  if 4 ≤ pair ∨ !s.inPrp (2 * pair) ∨ !due then s
  else
    let s := s.setPort { s.port with supervised := smPut s.port.supervised pair s.bases.mono }
    s.transmitPrp pair (supervisionFrame (s.portMac (2 * pair)) (smGet 0 s.port.prpSeq pair))

def execPrpSupervision (t pair : Nat) (s : State) : Host.Outcome State Fault Refusal := run t (·.supervise pair) s

/-- PRP_FORGET (R103): a source silent for FORGET ms leaves the table. -/
def State.prpForget (s : State) (pair mac : Nat) : State :=
  let tab := smGet [] s.port.prp pair
  match smFind tab mac with
  | some x =>
    if x.last + 1000000 * (s.fld (F.PORT_PRP_CFG_FORGET pair)) ≤ s.bases.mono then
      s.setPort { s.port with prp := smPut s.port.prp pair (smDel tab mac) } else s
  | none => s

def execPrpForget (t pair mac : Nat) (s : State) : Host.Outcome State Fault Refusal := run t (·.prpForget pair mac) s

/-! Commands (R111). -/

/-- An entry changes: recorded with its old and new VALID; what it held stays known while a frame under way may need it. -/
def State.mcastPut (s : State) (i : Nat) (words : List Nat) : State :=
  let old := bits (s.mcastWord i 0) 31 31
  let past := (s.bases.mono, i, s.mcastEntry i) :: s.port.mcastPast.filter (fun e => decide (s.bases.mono < e.1 + 1000000))
  let s := (s.setPort { s.port with mcastPast := past }).putMcast i words
  let new := bits (s.mcastWord i 0) 31 31
  (s.event E.PORT_MCAST_CHANGED i (leBytes 1 i ++ leBytes 1 old ++ leBytes 1 new)).raise I.PORT_MCAST_DONE

/-- MCAST_WRITE (R101): in any mode from M2. -/
def cmdMcastWrite (s : State) : CmdResult :=
  let i := s.arg 2 0
  if 256 ≤ i then refuse s stBadArg
  else if s.mode < 2 then refuse s stIllegal
  else ok (s.mcastPut i ((List.range 8).map (fun w => s.regN (R.PORT_MCAST_STAGE0 + 4 * w))))

def execMcastWrite (t : Nat) (path : Path) (s : State) : Host.Outcome State Fault Refusal := command t 2 1 path cmdMcastWrite s

/-- MCAST_CLEAR. -/
def cmdMcastClear (s : State) : CmdResult :=
  let i := s.arg 2 0
  if 256 ≤ i then refuse s stBadArg
  else ok (s.mcastPut i ((List.range 8).map (fun w => if w = 0 then s.mcastWord i 0 % 2 ^ 31 else s.mcastWord i w)))

def execMcastClear (t : Nat) (path : Path) (s : State) : Host.Outcome State Fault Refusal := command t 2 2 path cmdMcastClear s

/-- LINK_RESTART: the port's PCS and auto-negotiation start again, so the link goes down. -/
def cmdLinkRestart (s : State) : CmdResult :=
  let p := s.arg 2 0
  if 8 ≤ p then refuse s stBadArg
  else if s.domain (portDomain p) = 3 then refuse s stAbsent
  else ok (s.portDown p 0 false)

def execLinkRestart (t : Nat) (path : Path) (s : State) : Host.Outcome State Fault Refusal := command t 2 3 path cmdLinkRestart s

/-- PRP_FLUSH: the pair's duplicate table empties. -/
def cmdPrpFlush (s : State) : CmdResult :=
  let p := s.arg 2 0
  if 8 ≤ p ∨ p % 2 = 1 then refuse s stBadArg
  else ok (s.setPort { s.port with prp := smDel s.port.prp (p / 2) })

def execPrpFlush (t : Nat) (path : Path) (s : State) : Host.Outcome State Fault Refusal := command t 2 4 path cmdPrpFlush s

end Sys2Proof.Machine
end

