-- ==== Sys2Proof/Machine/Net.lean ====
section
/-!
DEFINITION. Sys2Proof/Machine/Net.lean: what the device composes for the wire: C37.118 frames (R342), UDP over IPv4 and IPv6 with
fragments (R339), command frames to sources (R348); and the keyed records of the STREAMS, CATALOGUE and CORRECTION bodies
(R117).
-/

namespace Sys2Proof.Machine

/-! Keyed records (R117). -/

/-- Size of an entry of a table. -/
def keyedSize (table : Nat) : Nat := if table = 1 then 8 else if table = 4 then 128 else 64

/-- The records of a body: TABLE, INDEX, entry. -/
def keyedFrom : Nat → List Byte → List (Nat × Nat × List Byte)
  | 0, _ => []
  | n + 1, l =>
    if l.length < 8 then []
    else
      let t := leAt l 0 1
      (t, leAt l 4 4, slice l 8 (keyedSize t)) :: keyedFrom n (l.drop (8 + keyedSize t))

def keyed (body : List Byte) : List (Nat × Nat × List Byte) := keyedFrom (body.length / 16 + 1) body

/-- The entries of a table, by index. -/
def tableOf (body : List Byte) (table : Nat) : List (Nat × List Byte) :=
  (keyed body).filterMap (fun r => if r.1 = table then some r.2 else none)

/-- An entry of a table; an index that no record names is all zeros, here the empty list. -/
def entryOf (body : List Byte) (table index : Nat) : List Byte :=
  ((tableOf body table).find? (fun e => e.1 == index)).elim [] (·.2)

/-- The catalogue entry of a TID (R119) in the configuration of a time. -/
def State.catAt (s : State) (instant tid : Nat) : List Byte := entryOf (s.cfgAt secCatalogue instant) 3 tid

/-- The catalogue entry in force. -/
def State.cat (s : State) (tid : Nat) : List Byte := entryOf (s.cfg secCatalogue) 3 tid

/-! Catalogue fields (R119). -/
def catValid (e : List Byte) : Bool := bit (leAt e 0 1) 0
def catEmit (e : List Byte) : Bool := bit (leAt e 0 1) 0 && bit (leAt e 0 1) 1
def catType (e : List Byte) : Nat := leAt e 1 1
def catLattice (e : List Byte) : Nat := leAt e 2 1 % 4
def catSet (e : List Byte) : Nat := leAt e 3 1
def catSid (e : List Byte) : Nat := leAt e 4 2 % 8192
def catOrigin (e : List Byte) : Nat := leAt e 6 1
def catKernel (e : List Byte) : Nat := leAt e 7 1
def catBlock (e : List Byte) : Nat := leAt e 8 2
def catChannel (e : List Byte) : Nat := leAt e 0xA 2
def catScale (e : List Byte) : Nat := leAt e 0xC 4
def catOffset (e : List Byte) : Nat := leAt e 0x10 4
def catDelay (e : List Byte) : Int := signed 24 (leAt e 0x14 3)
def catCorr (e : List Byte) : Nat := leAt e 0x18 2
def catFreqTid (e : List Byte) : Nat := leAt e 0x1C 4 % 2 ^ 17
def catNominal (e : List Byte) : Nat := leAt e 0x20 4
def catName (e : List Byte) : List Byte := slice e 0x24 16

/-! UTC (R84, R85). -/

/-- TAI − UTC at a TAI second: a leap already applied or announced moves it by one second at its instant. During an inserted
second the UTC second so formed is that of the following 00:00:00 (R85). -/
def State.utcOffsetAt (s : State) (sec : Nat) : Int :=
  let d : Int := if s.fld F.TIME_UTC_DIRECTION = 0 then 1 else -1
  match s.time.leapDone, s.time.leapAt with
  | some l, _ => if sec < l then s.taiUtc - d else s.taiUtc
  | none, some l => if l ≤ sec then s.taiUtc + d else s.taiUtc
  | none, none => s.taiUtc

/-- Bits 31:24 of FRACSEC (R342): leap direction, occurred for 24 h, pending from 60 s before, message time quality (R85). -/
def State.fracFlags (s : State) : Nat :=
  let g := s.bases.grid / 1000000000
  let occurred := match s.time.leapDone with | some l => decide (l ≤ g ∧ g < l + 86400) | none => false
  let pending := match s.time.leapAt with | some l => decide (l ≤ g + 60) | none => false
  (if (occurred || pending) && s.fld F.TIME_UTC_DIRECTION = 1 then 64 else 0) + (if occurred then 32 else 0) +
    (if pending then 16 else 0) + s.messageQuality

/-- SOC of a time (R342). -/
def State.socOf (s : State) (ns : Nat) : Nat :=
  (((ns / 1000000000 : Nat) : Int) - s.utcOffsetAt (ns / 1000000000)).toNat % 2 ^ 32

/-- FRACSEC of a time (R342). -/
def State.fracOf (s : State) (ns timeBase : Nat) : Nat :=
  2 ^ 24 * s.fracFlags + (2 * (ns % 1000000000) * timeBase + 1000000000) / 2000000000 % 2 ^ 24

/-! C37.118 frames. -/

/-- A frame: SYNC, FRAMESIZE, IDCODE, SOC, FRACSEC, body, CHK. -/
def c37Frame (kind version id soc frac : Nat) (body : List Byte) : List Byte :=
  let l := [BitVec.ofNat 8 0xAA, BitVec.ofNat 8 (kind * 16 + version)] ++ beBytes 2 (16 + body.length) ++ beBytes 2 id ++
    beBytes 4 soc ++ beBytes 4 frac ++ body
  l ++ beBytes 2 (crc16 0xFFFF l)

/-! UDP, IP and Ethernet. -/

/-- Where a datagram goes: port's own addresses are the source. -/
structure Dest where
  mac : List Byte
  ip : List Byte
  udpSrc : Nat
  udpDst : Nat
  ttl : Nat
  vlan : Option Nat
  deriving DecidableEq, Repr

/-- A port's own IPv4 and IPv6 addresses, first byte most significant. -/
def State.ownV4 (s : State) (p : Nat) : List Byte := beBytes 4 (s.regN (R.PORT_IPV4_0 p))
def State.ownV6 (s : State) (p : Nat) : List Byte := beBytes 16 (s.portV6 (R.PORT_IPV6_0_0 p))

/-- One's complement of a checksum; 0 is sent as 0xFFFF over UDP. -/
def complement16 (n : Nat) : Nat := 0xFFFF - n

/-- An IPv4 packet: one identification per datagram, `off` in bytes (R339). The service type is 0 and DF clear (log 17). -/
def ipv4Packet (src dst : List Byte) (ttl id off : Nat) (more : Bool) (l : List Byte) : List Byte :=
  let h := [BitVec.ofNat 8 0x45, 0] ++ beBytes 2 (20 + l.length) ++ beBytes 2 id ++
    beBytes 2 ((if more then 8192 else 0) + off / 8) ++ [BitVec.ofNat 8 ttl, 17]
  let sum := complement16 (onesSum (h ++ [0, 0] ++ src ++ dst))
  h ++ beBytes 2 sum ++ src ++ dst ++ l

/-- An IPv6 packet; a fragment carries a Fragment header (R339). -/
def ipv6Packet (src dst : List Byte) (ttl next : Nat) (l : List Byte) : List Byte :=
  beBytes 4 0x60000000 ++ beBytes 2 l.length ++ [BitVec.ofNat 8 next, BitVec.ofNat 8 ttl] ++ src ++ dst ++ l

/-- The pieces of a datagram: the offset of each, whether more follow, its bytes. Every piece but the last is `size` bytes. -/
def fragments : Nat → Nat → Nat → List Byte → List (Nat × Bool × List Byte)
  | 0, _, _, _ => []
  | n + 1, size, off, l =>
    if l.length ≤ size ∨ size = 0 then [(off, false, l)]
    else (off, true, l.take size) :: fragments n size (off + size) (l.drop size)

/-- The Ethernet frames of one datagram on a port (R339). Over IPv4 the UDP checksum is 0. -/
def State.udpFrames (s : State) (p : Nat) (v6 : Bool) (d : Dest) (payload : List Byte) (id : Nat) : List (List Byte) :=
  let mtu := if s.isSet (F.PORT_CFG_JUMBO p) then 9194 else 1500
  let eth (ty : Nat) (l : List Byte) : List Byte :=
    d.mac ++ beBytes 6 (s.portMac p) ++ (match d.vlan with | some v => beBytes 2 0x8100 ++ beBytes 2 v | none => []) ++ beBytes 2 ty ++ l
  let len := 8 + payload.length
  let head := beBytes 2 d.udpSrc ++ beBytes 2 d.udpDst ++ beBytes 2 len
  if v6 then
    let src := s.ownV6 p
    let sum := complement16 (onesSum (src ++ d.ip ++ beBytes 4 len ++ [0, 0, 0, 17] ++ head ++ [0, 0] ++ payload))
    let udp := head ++ beBytes 2 (if sum = 0 then 0xFFFF else sum) ++ payload
    if 40 + len ≤ mtu then [eth 0x86DD (ipv6Packet src d.ip d.ttl 17 udp)]
    else
      (fragments len ((mtu - 48) / 8 * 8) 0 udp).map (fun f =>
        eth 0x86DD (ipv6Packet src d.ip d.ttl 44 ([17, 0] ++ beBytes 2 (f.1 + (if f.2.1 then 1 else 0)) ++ beBytes 4 id ++ f.2.2)))
  else
    let src := s.ownV4 p
    let udp := head ++ [0, 0] ++ payload
    if 20 + len ≤ mtu then [eth 0x0800 (ipv4Packet src d.ip d.ttl id 0 false udp)]
    else
      (fragments len ((mtu - 20) / 8 * 8) 0 udp).map (fun f => eth 0x0800 (ipv4Packet src d.ip d.ttl id f.1 f.2.1 f.2.2))

/-- A datagram leaves a port, or both ports of a PRP pair. -/
def State.sendUdp (s : State) (p : Nat) (prp v6 : Bool) (d : Dest) (payload : List Byte) (id : Nat) : State :=
  (s.udpFrames p v6 d payload id).foldl (fun s f => s.send p prp f) s

/-! Command frames to sources (R348). -/

/-- A stream's run-time state. -/
def State.streamSt (s : State) (sid : Nat) : StreamSt := smGet {} s.heddle.streams sid

def State.putStream (s : State) (sid : Nat) (x : StreamSt) : State :=
  s.setHeddle { s.heddle with streams := smPut s.heddle.streams sid x }

/-- The stream entry of a SID in force (R114). -/
def State.stream (s : State) (sid : Nat) : List Byte := entryOf (s.cfg secStreams) 0 sid

/-- A command frame leaves for a stream's source, at most one per stream and second; the answer is none where it is refused.
The identification, the source UDP port and the hop limit of the datagram are free values (log 5). -/
def State.sendCommand (s : State) (sid cmd : Nat) : Option State :=
  let x := s.streamSt sid
  let e := s.stream sid
  let soon := match x.cmdAt with | some m => decide (s.bases.mono < m + 1000000000) | none => false
  if soon then none
  else
    let s := s.putStream sid { x with cmdAt := some s.bases.mono }
    let g := s.now
    let f := c37Frame 4 (leAt e 0x19 1) (leAt e 2 2) (s.socOf g) (s.fracOf g (leAt e 0x28 3)) (beBytes 2 cmd)
    let q := s.fld F.SHUTTLE_QUEUES_CMD_QUEUE
    let sent (s : State) (place : Nat) : State := s.event E.SHUTTLE_CMD_SENT sid (leBytes 2 sid ++ leBytes 1 cmd ++ leBytes 1 place)
    let queued : State := sent (s.commit q (leBytes 2 sid ++ leBytes 1 cmd ++ leBytes 5 0 ++ f)).1 (128 + q)
    match x.heard with
    | some (port, mac, ip, udp) =>
      if leAt e 0 1 = 2 then some queued
      else
        let dst := if s.regN R.SHUTTLE_CMD_UDP = 0 then udp else s.fld F.SHUTTLE_CMD_UDP_UDP
        let r := s.free32
        some (sent (s.draw.sendUdp port true (ip.length == 16) ⟨mac, ip, r / 65536, dst, r % 256, none⟩ f (r % 65536)) port)
    | none => some queued

/-- Heddle's own request (R125, R137): one refused within the second is not sent. -/
def State.requestCommand (s : State) (sid cmd : Nat) : State := (s.sendCommand sid cmd).getD s

end Sys2Proof.Machine
end

