-- ==== Sys2Proof/Machine/HeddleOps.lean ====
section
/-!
DEFINITION. Sys2Proof/Machine/HeddleOps.lean: streams (R113 to R117, R124, R137), channel conversion and quality (R118 to R123),
configuration signatures (R126), the readers of ASN.1 tags.
-/

namespace Sys2Proof.Machine

/-! Stream entry fields (R114). -/
def stClass (e : List Byte) : Nat := leAt e 0 1
def stPorts (e : List Byte) : Nat := leAt e 1 1
def stId (e : List Byte) : Nat := leAt e 2 2
def stHash (e : List Byte) : Nat := leAt e 4 4
def stSrc (e : List Byte) : List Byte := slice e 8 16
def stFlag (e : List Byte) (i : Nat) : Bool := bit (leAt e 0x18 1) i
def stVersion (e : List Byte) : Nat := leAt e 0x19 1
def stBlocks (e : List Byte) : Nat := leAt e 0x1A 2
def stFirstBlock (e : List Byte) : Nat := leAt e 0x1C 2
def stRate (e : List Byte) : Nat := leAt e 0x1E 2
def stFirstTid (e : List Byte) : Nat := leAt e 0x20 4 % 2 ^ 17
def stThreads (e : List Byte) : Nat := leAt e 0x24 2
def stFirstWid (e : List Byte) : Nat := leAt e 0x26 2 % 4096
def stTimeBase (e : List Byte) : Nat := leAt e 0x28 3
def stCfgSig (e : List Byte) : Nat := leAt e 0x2C 4
def stFrameSize (e : List Byte) : Nat := leAt e 0x30 2
def stKeyGroup (e : List Byte) : Nat := leAt e 0x32 1 % 64
def stSilence (e : List Byte) : Nat := if leAt e 0x33 1 = 0 then 5 else leAt e 0x33 1

/-- ENABLE of the entry (R114). -/
def stEnabled (e : List Byte) : Bool := stClass e != 0 && stFlag e 0

/-- A stream's state code (R137, R497). -/
def State.streamState (s : State) (sid : Nat) : Nat :=
  if !stEnabled (s.stream sid) || !(s.streamSt sid).enabled then 0
  else if s.mode = 2 then 1
  else (s.streamSt sid).st

/-- `HEDDLE_STATUS`: streams in RUNNING, and in CFG_CHANGED or CFG_HOLD. -/
def State.heddleStatus (s : State) : Nat :=
  let l := (tableOf (s.cfg secStreams) 0).map (fun e => s.streamState e.1)
  2 ^ 16 * (min (l.filter (fun x => x == 4 || x == 5)).length 0xFFFF) + min (l.filter (· == 2)).length 0xFFFF

/-- A stream changes state. -/
def State.setStream (s : State) (sid st : Nat) : State := s.putStream sid { s.streamSt sid with st := st }

/-- A stream enters WAITING (R137): its silence time runs from now; with CMD_START a data-on goes to its source. -/
def State.enterWaiting (s : State) (sid : Nat) : State :=
  let s := s.putStream sid { s.streamSt sid with st := 1, ref := some s.bases.mono }
  if stFlag (s.stream sid) 4 && stEnabled (s.stream sid) && (stClass (s.stream sid) == 1 || stClass (s.stream sid) == 2) then
    (s.putStream sid { s.streamSt sid with dataOn := some s.bases.mono }).requestCommand sid 2
  else s

/-- Subscription entry fields (R135). -/
def gsTid (e : List Byte) : Option Nat := if bit (leAt e 0x14 4) 31 then none else some (leAt e 0x14 4 % 2 ^ 17)
def gsMap (e : List Byte) (n : Nat) : Nat := leAt e (0x18 + n) 1
def gsTrig (e : List Byte) (n : Nat) : Nat := leAt e (0x28 + n) 1

/-- Is the thread that of a subscription whose timeAllowedToLive has run out (R136)? -/
def State.gooseDown (s : State) (tid : Nat) : Bool :=
  s.heddle.goose.any (fun g => g.2.expired && gsTid (entryOf (s.cfg secStreams) 2 g.1) == some tid)

/-- SRC of an entry against a frame's source (R115). -/
def srcMatches (e : List Byte) (f : HedFrame) : Bool :=
  let src := stSrc e
  if src.all (· == 0) then true
  else if stClass e = 4 then src.take 6 == slice f.bytes 6 6
  else if (src.drop 4).all (· == 0) then f.srcIp == src.take 4
  else f.srcIp == src

/-- Does the entry take the frame (R115)? -/
def streamMatches (e : List Byte) (cls id hash : Nat) (f : HedFrame) : Bool :=
  stClass e == cls && stFlag e 0 && stId e == id && (cls == 2 || (stHash e == 0 || stHash e == hash)) &&
    (cls == 2 || (bit (stPorts e) f.port && srcMatches e f))

/-- The stream of a frame under a STREAMS body: SID and entry. -/
def findStream (body : List Byte) (cls id hash : Nat) (f : HedFrame) : Option (Nat × List Byte) :=
  (tableOf body 0).find? (fun e => streamMatches e.2 cls id hash f)

/-- The STREAMS bodies that frames may be decoded under, newest first, each with the instants from which and before which it holds: the one in
force, and while slots before a switch slot are open those before it (R138). -/
def State.streamBodies (s : State) : List (List Byte × Nat × Option Nat) :=
  let old := if s.draft.switching then s.draft.old else []
  let ends := old.map (fun o => slotInstant (s.rate 0) o.2.2)
  let bodies := s.cfg secStreams :: old.map (fun o => bodyOf o.1 o.2.1 secStreams)
  bodies.zip ((ends ++ [0]).zip (none :: ends.map some))

/-- The choice of entry by the frame's source time stamp (R138): the new one for a stamp at or after the instant of S, the old
one before. `stamp` reads the stamp under an entry. -/
def State.findByStamp (s : State) (cls id hash : Nat) (f : HedFrame) (stamp : List Byte → Nat) :
    Option (Nat × List Byte × Nat) :=
  s.streamBodies.findSome? (fun b => (findStream b.1 cls id hash f).bind (fun x =>
    let t := stamp x.2
    if b.2.1 ≤ t ∧ b.2.2.all (fun e => decide (t < e)) then some (x.1, x.2, t) else none))

/-- A copy to the configuration queue with its descriptor (R134). -/
def State.cfgCopy (s : State) (sid kind : Nat) (f : HedFrame) : State :=
  let d := leBytes 8 f.stamp ++ leBytes 2 sid ++ leBytes 1 f.port ++ leBytes 1 kind ++ leBytes 2 f.payload.length ++ leBytes 2 0
  let r := s.commit (s.fld F.HEDDLE_QUEUES_CFG_QUEUE) (d ++ f.payload)
  if r.2 then r.1 else r.1.count R.HEDDLE_CFG_QFULL

/-- A frame of no enabled stream (R115). -/
def State.unknownStream (s : State) (kind : Nat) (f : HedFrame) : State :=
  let s := (s.count R.HEDDLE_UNKNOWN_STREAM).raise I.HEDDLE_UNKNOWN_STREAM
  if s.isSet F.HEDDLE_CTRL_UNKNOWN_TO_HOST then s.cfgCopy 0xFFFF kind f else s

/-- A stamp against the duplicate window (R124), its period 1 / `rate`: 0 new, 1 a duplicate, 2 stale. -/
def StreamSt.judge (x : StreamSt) (rate stamp : Nat) : Nat :=
  if x.stamps.contains stamp then 1
  else if stamp < x.last ∧ 64 * 1000000000 < (x.last - stamp) * rate then 2
  else 0

/-- A data frame is accepted (R124, R137): its stamp enters the window; the silence time runs anew. -/
def StreamSt.accept (x : StreamSt) (rate stamp mono : Nat) (heard : Nat × List Byte × List Byte × Nat) : StreamSt :=
  let last := if x.stamps.isEmpty then stamp else max x.last stamp
  { x with
    stamps := (stamp :: x.stamps).filter (fun y => decide ((last - y) * rate ≤ 64 * 1000000000))
    last := last
    ref := some mono
    heard := some heard }

/-- One more frame of which data was accepted (R140). -/
def StreamSt.frame (x : StreamSt) (mono : Nat) : StreamSt :=
  { x with frames := x.frames.filter (fun y => decide (mono < y + 1000000000)) ++ [mono] }

/-- A frame whose ASDUs have been handled counts once, where one of them was accepted: the window of stamps has changed since `before`. -/
def State.frameSeen (s : State) (sid : Nat) (before : List Nat) : State :=
  let x := s.streamSt sid
  if x.stamps = before then s else s.putStream sid (x.frame s.bases.mono)

/-- The first accepted data frame of a WAITING or SILENT stream (R137). -/
def State.streamUp (s : State) (sid : Nat) : State :=
  let st := (s.streamSt sid).st
  if st = 1 ∨ st = 3 then
    ((s.setStream sid 2).event E.HEDDLE_STREAM_UP sid (leBytes 2 sid ++ leBytes 1 st)).raise I.HEDDLE_STREAM_UP
  else s

/-- A configuration judged (R126): received signature (or confRev) against the expected one; `cfgcnt` as received. -/
def State.judgeConfig (s : State) (sid received expected cfgcnt : Nat) : State :=
  let st := (s.streamSt sid).st
  if received = expected then
    if st = 4 ∨ st = 5 then (s.setStream sid 2).event E.HEDDLE_CFG_MATCH sid (leBytes 2 sid ++ leBytes 4 cfgcnt) else s
  else if st = 5 then s
  else
    ((s.setStream sid 5).event E.HEDDLE_CFG_MISMATCH sid (leBytes 2 sid ++ leBytes 4 received ++ leBytes 4 expected)).raise
      I.HEDDLE_CFG_CHANGE

/-! Thread items. -/

/-- An item with its check code (R14). -/
def mkItem (tid word quality time : Nat) : Item := ⟨tid, word, quality, time, checkCode word quality tid time⟩

/-- A thread word of two binary32 halves. -/
def pairWord (hi lo : Nat) : Nat := 2 ^ 32 * hi + lo

/-- What a channel's conversion gives (R120): a word; or the absent value for a NaN that the source reports (R123) or for a
result that is not finite (R495). -/
inductive Conv where
  | word (w : Nat)
  | nanSource
  | notFinite
  deriving DecidableEq, Repr

/-- Is a binary32 pattern a NaN? -/
def isNan32 (x : Nat) : Bool := bits x 30 23 == 255 && x % 2 ^ 23 != 0

/-- A phasor from its two fields, as R120 and FORMAT bits 1 (float) and 0 (polar) say; OFFSET, where a CFG-3 source gives one, is
the angle added before rounding (log 16). -/
def convPhasor (fmt a b scale offset : Nat) : Conv :=
  let off := Fp.toRat32 offset
  let polar := bit fmt 0
  let mk (mag : Nat) (turn : Nat) : Conv := if Fp.finite32 mag then .word (pairWord mag turn) else .notFinite
  if bit fmt 1 then
    if isNan32 a || isNan32 b then .nanSource
    else if !Fp.finite32 a || !Fp.finite32 b then .notFinite
    else if polar then mk (Fp.mul32 a scale) (Fp.radToTurn (Fp.toRat32 b + off))
    else mk (Fp.mul32 (Fp.sqrt32 (Fp.add32 (Fp.mul32 a a) (Fp.mul32 b b))) scale)
      (Fp.toTurn (Fp.atan2T (Fp.toRat32 b) (Fp.toRat32 a) + off / (2 * Fp.piR)))
  else
    let re := signed 16 a
    let im := signed 16 b
    if polar then mk (Fp.mul32 (Fp.ofNat32 a) scale) (Fp.radToTurn (mkRat im 10000 + off))
    else
      let x := Fp.ofInt32 re
      let y := Fp.ofInt32 im
      mk (Fp.mul32 (Fp.sqrt32 (Fp.add32 (Fp.mul32 x x) (Fp.mul32 y y))) scale) (Fp.toTurn (Fp.atan2T im re + off / (2 * Fp.piR)))

/-- FREQ and DFREQ (R120): FORMAT bit 3 (float), FNOM 1 for 50 Hz. -/
def convFreq (fmt fnom a b : Nat) : Conv :=
  if bit fmt 3 then
    if isNan32 a || isNan32 b then .nanSource
    else if Fp.finite32 a && Fp.finite32 b then .word (pairWord a b) else .notFinite
  else
    let f := Fp.add32 (Fp.ofNat32 (if fnom = 1 then 50 else 60)) (Fp.div32 (Fp.ofInt32 (signed 16 a)) (Fp.ofNat32 1000))
    .word (pairWord f (Fp.div32 (Fp.ofInt32 (signed 16 b)) (Fp.ofNat32 100)))

/-- An analog value (R120). -/
def convAnalog (float : Bool) (a scale offset : Nat) : Conv :=
  if float && isNan32 a then .nanSource
  else
    let x := if float then a else Fp.ofInt32 (signed 16 a)
    let y := Fp.add32 (Fp.mul32 x scale) offset
    if Fp.finite32 y then .word (pairWord y 0) else .notFinite

/-- A digital word with its valid mask (R120). -/
def convDigital (w nominal : Nat) : Nat := 2 ^ 48 * (w % 65536) + 2 ^ 32 * (nominal % 65536)

/-- The item of a conversion, under the quality the channel carries (R123, R495). -/
def convItem (tid : Nat) (c : Conv) (q time : Nat) : Item :=
  match c with
  | .word w => mkItem tid w q time
  | .nanSource => mkItem tid absentWord (makeAbsent q rSourceInvalid) time
  | .notFinite => mkItem tid absentWord (notFinite q) time

/-- The source's error bound in ns from FRACSEC 27:24 and STAT 8:6 (R123); none is unknown. -/
def sourceBound (code stat : Nat) : Option Nat :=
  let st (zero : Option Nat) : Option Nat :=
    match bits stat 8 6 with
    | 0 => zero
    | 7 => none
    | n => some (100 * 10 ^ (n - 1))
  if code = 0 then st (some 0)
  else if code = 1 then some 1
  else if code ≤ 0xB then some (10 ^ (code - 1))
  else if code = 0xF then st none
  else none

/-- The quality of a C37.118 block's channels (R123). -/
def State.statQ (s : State) (frac stat : Nat) : Nat :=
  let top := bits stat 15 14
  let loss := bit stat 13 || (match sourceBound (bits frac 27 24) stat with
    | some e => decide (s.regN R.TIME_QUALITY_CFG < e)
    | none => true)
  let q := if top = 0 then 1 else if top = 1 then 2 ^ qValid + 2 ^ qSrcErr else if top = 2 then 2 ^ qValid + 2 ^ qTest
    else qAbsentFor rSourceInvalid
  setIf loss q qSyncLoss

/-- Block descriptor fields (R116). -/
def bdPh (d : List Byte) : Nat := leAt d 0 2
def bdAn (d : List Byte) : Nat := leAt d 2 2
def bdDg (d : List Byte) : Nat := leAt d 4 2
def bdFormat (d : List Byte) : Nat := leAt d 6 1 % 16
def bdFnom (d : List Byte) : Nat := bits (leAt d 6 1) 4 4

/-- Widths of a block's fields in a data frame (R121). -/
def phWidth (fmt : Nat) : Nat := if bit fmt 1 then 4 else 2
def frWidth (fmt : Nat) : Nat := if bit fmt 3 then 4 else 2
def anWidth (fmt : Nat) : Nat := if bit fmt 2 then 4 else 2

/-- Bytes of a block in a data frame. -/
def blockBytes (d : List Byte) : Nat :=
  let f := bdFormat d
  2 + 2 * phWidth f * bdPh d + 2 * frWidth f + anWidth f * bdAn d + 2 * bdDg d

/-- Threads of a block (R118). -/
def blockThreads (d : List Byte) : Nat := bdPh d + 1 + bdAn d + bdDg d

/-- The conversions of a block's channels in run order (R118, R121): `b` holds the block from its STAT on; `cat` is the
catalogue entry of the block's n-th thread. -/
def blockConvs (d b : List Byte) (cat : Nat → List Byte) : List Conv :=
  let f := bdFormat d
  let pw := phWidth f
  let fw := frWidth f
  let aw := anWidth f
  let np := bdPh d
  let na := bdAn d
  let fo := 2 + 2 * pw * np
  let ao := fo + 2 * fw
  let dO := ao + aw * na
  (List.range np).map (fun i => convPhasor f (beAt b (2 + 2 * pw * i) pw) (beAt b (2 + 2 * pw * i + pw) pw)
      (catScale (cat i)) (catOffset (cat i))) ++
  [convFreq f (bdFnom d) (beAt b fo fw) (beAt b (fo + fw) fw)] ++
  (List.range na).map (fun i => convAnalog (bit f 2) (beAt b (ao + aw * i) aw) (catScale (cat (np + 1 + i)))
      (catOffset (cat (np + 1 + i)))) ++
  (List.range (bdDg d)).map (fun i => .word (convDigital (beAt b (dO + 2 * i) 2) (catNominal (cat (np + 1 + na + i)))))

/-- The blocks of a data frame: descriptor, first TID, the bytes from STAT on. -/
def frameBlocks : List (List Byte) → Nat → List Byte → List (List Byte × Nat × List Byte)
  | [], _, _ => []
  | d :: r, tid, l => (d, tid, l) :: frameBlocks r (tid + blockThreads d) (l.drop (blockBytes d))

/-! Configuration signatures (R126). -/

/-- Offsets of the CFGCNT fields of a CFG-1 or CFG-2 frame, and the offset after the last PMU; none where the counts run past
the frame. `pos` is the PMU's offset in the frame. -/
def cfg2Walk (l : List Byte) (fin : Nat) : Nat → Nat → List Nat → Option (List Nat × Nat)
  | 0, pos, acc => some (acc.reverse, pos)
  | n + 1, pos, acc =>
    let ph := beAt l (pos + 20) 2
    let an := beAt l (pos + 22) 2
    let dg := beAt l (pos + 24) 2
    let c := pos + 26 + 16 * (ph + an + 16 * dg) + 4 * (ph + an + dg) + 2
    if fin < c + 2 then none else cfg2Walk l fin n (c + 2) (c :: acc)

/-- Skip a CFG-3 name: one length byte and that many characters. -/
def skipNames (l : List Byte) : Nat → Nat → Nat
  | 0, pos => pos
  | n + 1, pos => skipNames l n (pos + 1 + beAt l pos 1)

/-- The same walk of a CFG-3 frame: station name, IDCODE (2), G_PMU_ID (16), FORMAT (2), counts (2 each), names, PHSCALE (12),
ANSCALE (8) and DIGUNIT (4) per channel, latitude, longitude, elevation (4 each), service class (1), window (4), group delay
(4), FNOM (2), CFGCNT (2) (log 17). -/
def cfg3Walk (l : List Byte) (fin : Nat) : Nat → Nat → List Nat → Option (List Nat × Nat)
  | 0, pos, acc => some (acc.reverse, pos)
  | n + 1, pos, acc =>
    let p := pos + 1 + beAt l pos 1 + 20
    let ph := beAt l p 2
    let an := beAt l (p + 2) 2
    let dg := beAt l (p + 4) 2
    if fin < p + 6 then none
    else
      let q := skipNames l (ph + an + 16 * dg) (p + 6)
      let c := q + 12 * ph + 8 * an + 4 * dg + 12 + 1 + 8 + 2
      if fin < c + 2 then none else cfg3Walk l fin n (c + 2) (c :: acc)

/-- The CFGCNT offsets of a configuration frame whose walk ends exactly at CHK: DATA_RATE closes it. A CFG-3 frame has its
continuation index after FRACSEC. -/
def cfgCounts (kind : Nat) (l : List Byte) : Option (List Nat) :=
  let fin := l.length - 2
  let r := if kind = 5 then cfg3Walk l fin (beAt l 20 2) 22 [] else cfg2Walk l fin (beAt l 18 2) 20 []
  r.bind (fun x => if x.2 + 2 = fin ∧ 20 ≤ fin then some x.1 else none)

/-- A list without the two bytes at each of the given offsets, which rise. -/
def without (l : List Byte) (pos : Nat) : List Nat → List Byte
  | [] => l.drop pos
  | o :: r => slice l pos (o - pos) ++ without l (o + 2) r

/-- The signature of a configuration frame, and its first CFGCNT. -/
def cfgSignature (kind : Nat) (l : List Byte) : Option (Nat × Nat) :=
  (cfgCounts kind l).map (fun o => (crc32c ones32 (without (l.take (l.length - 2)) 14 o), beAt l (o.headD 0) 2))

/-! ASN.1 BER (R127, R131, R136). -/

/-- A length: its value and the bytes it takes. -/
def berLen (l : List Byte) : Nat × Nat :=
  let b := beAt l 0 1
  if b < 128 then (b, 1) else (beAt l 1 (b - 128), 1 + (b - 128))

/-- The elements of a constructed value: tag and content. -/
def berFrom : Nat → List Byte → List (Nat × List Byte)
  | 0, _ => []
  | n + 1, l =>
    if l.length < 2 then []
    else
      let r := berLen (l.drop 1)
      let body := l.drop (1 + r.2)
      (beAt l 0 1, body.take r.1) :: berFrom n (body.drop r.1)

def ber (l : List Byte) : List (Nat × List Byte) := berFrom l.length l

/-- The content of the first element with a tag. -/
def berFind (l : List (Nat × List Byte)) (tag : Nat) : Option (List Byte) := (l.find? (fun e => e.1 == tag)).map (·.2)

/-- An 8-byte UtcTime in TAI ns (R129, R136): seconds, 24-bit fraction, quality. -/
def State.utcTime (s : State) (l : List Byte) : Nat :=
  1000000000 * ((((beAt l 0 4 : Nat) : Int) + s.taiUtc).toNat) + (1000000000 * (2 * beAt l 4 3) + 2 ^ 24) / 2 ^ 25

/-- The quality of a sampled value (R132): smpSynch, the entry's GLOBAL_REQ, the member's 32-bit quality. A thread of two members is absent
where either is, and carries the bits of both. -/
def svQuality (synch : Nat) (globalReq : Bool) (mq : Nat) : Nat :=
  let q := if synch = 2 then 1
    else if globalReq then qAbsentFor rSourceInvalid
    else 2 ^ qValid + 2 ^ qSyncLoss
  let q := if mq % 4 = 1 then (if bit q qAbsent then q else makeAbsent q rSourceInvalid) else q
  let q := if mq % 4 = 3 then setBit q qSrcErr else q
  setIf (bit mq 11) q qTest

def joinQuality (a b : Nat) : Nat :=
  if bit a qAbsent then makeAbsent ((a ||| b) % 2 ^ 12) (qReason a)
  else if bit b qAbsent then makeAbsent ((a ||| b) % 2 ^ 12) (qReason b) else a ||| b

/-! Trigger inputs (R367). -/

/-- The entry of a trigger input in the CAPT section: KIND in bits 3:0, SOURCE above. -/
def State.inputEntry (s : State) (i : Nat) : Nat := leAt (s.cfg secCapt) (1024 + 4 * i) 4

/-- The value a trigger input has, its waiting changes counted. -/
def State.inputValue (s : State) (i : Nat) : Bool :=
  match s.inputQ.reverse.find? (fun e => e.input == i) with
  | some e => e.value
  | none => bit (s.regN (R.CAPT_INPUTSn (i / 32))) (i % 32)

/-- A trigger input takes a value: a change goes to CAPT with the time it carries. -/
def State.pushInput (s : State) (i : Nat) (v : Bool) (time : Nat) : State :=
  if s.inputValue i = v then s else s.setInputQ (s.inputQ ++ [⟨i, v, time⟩])

/-- Every input of a KIND whose SOURCE passes a test takes the value it gives. -/
def State.pushKind (s : State) (kind : Nat) (value : Nat → Option Bool) (time : Nat) : State :=
  (List.range 256).foldl (fun s i =>
    let e := s.inputEntry i
    if e % 16 = kind then (match value e with | some v => s.pushInput i v time | none => s) else s) s

/-! Authentication (R127, R128). -/

/-- Tag bytes of an authentication code (R127); none for an unsupported one. -/
def authTag (code : Nat) : Option Nat :=
  match code with
  | 0 => some 0
  | 1 => some 10
  | 2 => some 16
  | 4 => some 8
  | 5 => some 16
  | _ => none

/-- The authentication value of a span (R127). -/
def authValue (k : KeySlot) (iv span : List Byte) : List Byte :=
  ((if k.alg < 4 then hmacSha256 k.key span else aesGmac (k.key.take 16) iv span)).take ((authTag k.alg).getD 0)

/-- The key slots of a key group: KEY_GROUP and the three after it, wrapping at 63 (R128). -/
def keyGroup (first : Nat) : List Nat := (List.range 4).map (fun i => (first + i) % 64)

end Sys2Proof.Machine
end

