-- ==== Sys2Proof/Machine/ReedOps.lean ====
section
/-!
DEFINITION. Sys2Proof/Machine/ReedOps.lean: Reed's correction (R145, R146), kernels (R149 to R155), frequency-aware interpolation
(R156, R157), gaps and quality (R158 to R160).
-/

namespace Sys2Proof.Machine

open Fp

/-! Data-path checks (R276, R279). -/

/-- The outcome of a checked read: `fails` of its two readings failed (log 19). A first failure whose repeat passes is counted and
recorded by the block and by FAULT as transient; two failures are lasting, and the answer is false. OSC, ISLE and VOTE count every
re-read (R224, R236, R259), Reed and Loom those that pass (R144, R182). -/
def State.checkedRead (s : State) (fails block d retryReg failReg retryEvent failEvent src : Nat) (irq : Nat × Nat)
    (payload : List Byte) :
    State × Bool :=
  if fails = 0 then (s, true)
  else if fails = 1 then
    let s := (s.count retryReg).event retryEvent src payload
    (s.transient fcDataCheck (element d wholeDomain), true)
  else
    let s := if 7 ≤ block then s.count retryReg else s
    let s := s.count failReg
    let s := s.event failEvent src payload
    ((s.raise irq).checkFailed block d wholeDomain, false)

/-! Shed sets (R201). -/

/-- An entry of the LOOM body (R184). -/
def setEntry (body : List Byte) (n : Nat) : List Byte := slice body (32 * n) 32

/-- Is a set shed in the configuration in force? -/
def State.shedSet (s : State) (n : Nat) : Bool :=
  let e := setEntry (s.cfg secLoom) n
  bit (leAt e 1 1) 2 || (s.mode == 8 && !s.isSet F.DRAFT_CARDS_ACTIVE_VALID && !bit (leAt e 1 1) 1)

/-! Correction (R145, R146). -/

/-- A correction table's fields. -/
def corrPoints (t : List Byte) : Nat := leAt t 0 1
def corrU (t : List Byte) (i : Nat) : Nat := leAt t (0x10 + 12 * i) 4
def corrRcf (t : List Byte) (i : Nat) : Nat := leAt t (0x14 + 12 * i) 4
def corrPhi (t : List Byte) (i : Nat) : Int := signed 32 (leAt t (0x18 + 12 * i) 4)

/-- RCF and PHI at a fraction of nominal, and whether it was clipped (R146). -/
def corrAt (t : List Byte) (u : Nat) : Nat × Int × Bool :=
  let p := corrPoints t
  if lt32 u (corrU t 0) then (corrRcf t 0, corrPhi t 0, true)
  else if lt32 (corrU t (p - 1)) u then (corrRcf t (p - 1), corrPhi t (p - 1), true)
  else
    let i := ((List.range (p - 1)).reverse.find? (fun i => le32 (corrU t i) u)).getD 0
    let lam := div32 (sub32 u (corrU t i)) (sub32 (corrU t (i + 1)) (corrU t i))
    (add32 (corrRcf t i) (mul32 lam (sub32 (corrRcf t (i + 1)) (corrRcf t i))),
      corrPhi t i + rint (toRat32 lam * ((corrPhi t (i + 1) - corrPhi t i : Int) : Rat)), false)

/-- A word corrected under a catalogue entry and its table: the word, whether clipped, and u. -/
def correct (e table : List Byte) (word : Nat) : Nat × Bool × Nat :=
  if !bit (catCorr e) 15 ∨ (catType e ≠ 0 ∧ catType e ≠ 2) then (word, false, 0)
  else
    let hi := word / 2 ^ 32
    let u := div32 (abs32 hi) (catNominal e)
    let r := corrAt table u
    let m := mul32 hi r.1
    let lo := if catType e = 0 ∧ leAt table 1 1 = 0 then unsigned 32 ((word % 2 ^ 32 : Nat) + r.2.1) else word % 2 ^ 32
    (pairWord m lo, r.2.2, u)

/-- The correction table that an entry names, in the configuration of a time. -/
def State.corrTable (s : State) (instant : Nat) (e : List Byte) : List Byte :=
  entryOf (s.cfgAt secCorrection instant) 4 (catCorr e % 4096)

/-! History. -/

/-- Reed's state of a thread. -/
def State.thread (s : State) (tid : Nat) : ReedThread := smGet {} s.reed.threads tid

def State.putThread (s : State) (tid : Nat) (x : ReedThread) : State :=
  s.setReed { s.reed with threads := smPut s.reed.threads tid x }

/-- Taps a thread's history holds: the span of its kernel (log 18). -/
def historyLength (kernel ty : Nat) : Nat := if kernel = 3 ∧ ty ≠ 3 then 32 else 4

/-- A tap entered in time order. -/
def insertTap : List ReedTap → ReedTap → List ReedTap
  | [], x => [x]
  | y :: r, x => if x.time < y.time then x :: y :: r else y :: insertTap r x

/-- The history keeps its newest taps. -/
def newestTaps (n : Nat) (l : List ReedTap) : List ReedTap := l.drop (l.length - n)

/-! Kernels. -/

/-- The corrected instant of a tap (R148). -/
def ReedTap.at (x : ReedTap) (e : List Byte) : Int := (x.time : Int) + catDelay e

/-- Does a tap count as a missing sample (R158)? -/
def ReedTap.absent (x : ReedTap) : Bool := !x.bad && bit x.quality qAbsent

/-- What a kernel makes of a target instant; `fell`: how many times it fell back on the way (R159). -/
inductive Cover where
  /-- A tap it needs may still come. -/
  | wait
  /-- No output: a sample is missing (R159). -/
  | none (fell : Nat)
  /-- The output is formed from these taps with these weights; INTERP, PREDICT. -/
  | taps (l : List (ReedTap × Rat)) (interp predict : Bool) (fell : Nat)
  /-- A tap of the span failed its check twice (R144). -/
  | failed (fell : Nat)

/-- Is a run of taps without a gap: no two in a row further apart than 1.5 P (R159)? -/
def noGap (rate : Nat) (l : List ReedTap) : Bool :=
  (l.zip (l.drop 1)).all (fun p => decide (2 * rate * (p.2.time - p.1.time) ≤ 3000000000))

/-- The taps at offsets `lo` to `hi` from tap n: none where one is not held. -/
def span (l : List ReedTap) (n : Nat) (lo hi : Int) : Option (List ReedTap) :=
  let a := (n : Int) + lo
  let len := (hi - lo + 1).toNat
  let r := (l.drop a.toNat).take len
  if a < 0 ∨ r.length < len then none else some r

/-- Is a span complete: held, without a gap, and no tap absent? -/
def complete (rate : Nat) (o : Option (List ReedTap)) : Bool :=
  match o with | some l => noGap rate l && !l.any (·.absent) | none => false

/-- Could a span that is not complete still become so: it lacks only taps newer than every tap held, and what is held of it has
neither a gap nor an absent tap? -/
def pending (rate : Nat) (ended : Bool) (l : List ReedTap) (n : Nat) (lo hi : Int) : Bool :=
  let a := (n : Int) + lo
  let held := l.drop a.toNat
  !ended && decide (0 ≤ a) && decide ((held.length : Int) < hi - lo + 1) && noGap rate held && !held.any (·.absent)

/-- Lagrange weights of taps at their corrected instants (R151). -/
def lagrange (ts : List Int) (tau : Int) : List Rat :=
  (ts.zipIdx).map (fun x =>
    (ts.zipIdx).foldl (fun (w : Rat) y => if y.2 = x.2 then w else w * ((tau - y.1 : Int) : Rat) / ((x.1 - y.1 : Int) : Rat)) 1)

/-- The coefficients of a BAND phase (R153): c_φ(k) of a bank record, phase 256 being phase 0 moved one tap. -/
def bankCoef (bank : List Byte) (phi : Nat) (i : Nat) : Rat :=
  if phi < 256 then toRat32 (leAt bank (16 + 4 * (32 * phi + i)) 4)
  else if i = 0 then 0 else toRat32 (leAt bank (16 + 4 * (i - 1)) 4)

/-- The interpolated BAND weights at p = 256 × (τ − t_n) / P. -/
def bandWeights (bank : List Byte) (p : Rat) : List Rat :=
  let phi := p.floor.toNat
  let f := p - (phi : Rat)
  (List.range 32).map (fun i => (1 - f) * bankCoef bank phi i + f * bankCoef bank (phi + 1) i)

/-- The bank of the REED body for an input rate and a lattice rate code. -/
def findBank (body : List Byte) (rate code : Nat) : Option (List Byte) :=
  ((List.range (leAt body 0 2)).map (fun b => slice body (0x90 + 32784 * b) 32784)).find?
    (fun r => leAt r 0 2 == rate && leAt r 2 1 == code)

/-- TIGHT on n and n + 1, reached directly or by falling back (R151, R159). -/
def coverTight (rate : Nat) (ended : Bool) (fell : Nat) (e : List Byte) (l : List ReedTap) (n : Nat) (tau : Int) : Cover :=
  let sp := span l n 0 1
  if complete rate sp then
    match sp with
    | some [a, b] =>
      if a.bad || b.bad then .failed fell
      else
        let mu := r64 (((tau - a.at e : Int) : Rat) / ((b.at e - a.at e : Int) : Rat))
        .taps [(a, r64 (1 - mu)), (b, mu)] true false fell
    | _ => .none fell
  else if pending rate ended l n 0 1 then .wait
  else .none fell

/-- Is a tap there beside its neighbour, without a gap between them and not absent (R159)? -/
def beside (rate : Nat) (l : List ReedTap) (outer inner : Int) : Bool :=
  match (if outer < 0 then none else l[outer.toNat]?), (if inner < 0 then none else l[inner.toNat]?) with
  | some a, some b => noGap rate (if outer < inner then [a, b] else [b, a]) && !a.absent
  | _, _ => false

/-- CUBIC, falling back to TIGHT where an outer tap is missing. -/
def coverCubic (rate : Nat) (ended : Bool) (fell : Nat) (e : List Byte) (l : List ReedTap) (n : Nat) (tau : Int) : Cover :=
  let sp := span l n (-1) 2
  let i : Int := n
  if complete rate sp then
    match sp with
    | some t => if t.any (·.bad) then .failed fell else .taps (t.zip ((lagrange (t.map (·.at e)) tau).map r64)) true false fell
    | none => .none fell
  else if pending rate ended l n (-1) 2 then .wait
  else coverTight rate ended (if beside rate l (i - 1) i && beside rate l (i + 2) (i + 1) then fell else fell + 1) e l n tau

/-- BAND, falling back to CUBIC. -/
def coverBand (rate : Nat) (ended : Bool) (e bank : List Byte) (l : List ReedTap) (n : Nat) (tau : Int) : Cover :=
  let sp := span l n (-15) 16
  if complete rate sp then
    match sp with
    | some t =>
      if t.any (·.bad) then .failed 0
      else
        let tn := ((l[n]?).map (·.at e)).getD 0
        .taps (t.zip ((bandWeights bank (256 * ((tau - tn : Int) : Rat) * rate / 1000000000)).map r64)) true false 0
    | none => .none 0
  else if pending rate ended l n (-15) 16 then .wait
  else coverCubic rate ended 1 e l n tau

/-- The prediction of a TIGHT thread (R152). -/
def coverPredict (rate : Nat) (e : List Byte) (l : List ReedTap) (n : Nat) (tau : Int) : Cover :=
  let sp := if n = 0 then none else span l (n - 1) 0 1
  if complete rate sp then
    match sp with
    | some [a, b] =>
      if a.bad || b.bad then .failed 0
      else
        let mu := r64 (((tau - b.at e : Int) : Rat) / ((b.at e - a.at e : Int) : Rat))
        .taps [(a, -mu), (b, r64 (1 + mu))] true true 0
    | _ => .none 0
  else .none 0

/-- PASS at a target instant (R150): the sample nearest it within tolerance, the first to arrive of two as near; a miss once a later sample
has come. A sample that is absent is no sample (R158). -/
def coverPass (e : List Byte) (tol : Nat) (l : List ReedTap) (t : Int) : Cover :=
  match l.filter (fun x => !x.absent && decide ((x.at e - t).natAbs ≤ tol)) with
  | [] => if l.any (fun x => !x.absent && !x.bad && decide (t + tol < x.at e)) then .none 0 else .wait
  | x :: r =>
    let b := r.foldl (fun (m : ReedTap) y => if (y.at e - t).natAbs < (m.at e - t).natAbs then y else m) x
    if b.bad then .failed 0 else .taps [(b, 1)] false false 0

/-- A thread that is not digital, at a target instant (R150 to R153): `l` its taps, in order. -/
def coverValue (s : State) (e : List Byte) (rate code tol : Nat) (ended : Bool) (l : List ReedTap) (tau : Nat) : Cover :=
  let t : Int := tau
  let kernel := catKernel e
  let before := (l.filter (fun x => decide (x.at e ≤ t))).length
  let newer := decide (before < l.length)
  if kernel = 0 then coverPass e tol l t
  else if before = 0 then .none 0
  else
    let n := before - 1
    match l[n]? with
    | none => .none 0
    | some x =>
      if (kernel = 1 ∨ kernel = 2) ∧ t - x.at e ≤ tol ∧ !x.absent then
        (if x.bad then .failed 0 else .taps [(x, 1)] false false 0)
      else if kernel = 1 then
        (if bit (s.regN (R.REED_PREDICT_SETn (catSet e / 32))) (catSet e % 32) then
          (if 2 * rate * (t - x.at e) < (if newer then 3000000000 else 2000000000) then coverPredict rate e l n t
           else if ended ∨ newer then .none 0 else .wait)
         else coverTight rate ended 0 e l n t)
      else if kernel = 2 then coverCubic rate ended 0 e l n t
      else match findBank (s.cfgAt secReed tau) rate code with
        | some b => coverBand rate ended e b l n t
        | none => .none 0

/-- A digital thread at a target instant (R155). -/
def coverDigital (e : List Byte) (rate tol : Nat) (ended : Bool) (l : List ReedTap) (tau : Nat) : Cover :=
  let t : Int := tau
  match (l.filter (fun x => decide (x.at e ≤ t + tol))).reverse with
  | [] => .none 0
  | x :: _ =>
    let later := l.any (fun y => decide (t + tol < y.at e))
    if (t - x.at e).natAbs ≤ tol ∨ later then
      (if x.bad then .failed 0
       else if x.absent ∨ 1000000000 + tol * rate < (t - x.at e) * rate then .none 0
       else .taps [(x, 1)] false false 0)
    else if ended then .none 0 else .wait

/-! The REED body (R171). -/

def reedBanks (b : List Byte) : Nat := leAt b 0 2
def reedEstAt (b : List Byte) : Nat := 0x90 + 32784 * reedBanks b
def reedEstCount (b : List Byte) : Nat := leAt b 2 2
def reedDetAt (b : List Byte) : Nat := reedEstAt b + 16 * reedEstCount b
def reedEstimators (b : List Byte) : List (List Byte) := (List.range (reedEstCount b)).map (fun i => slice b (reedEstAt b + 16 * i) 16)
def reedDetectors (b : List Byte) : List (List Byte) := (List.range (leAt b 4 2)).map (fun i => slice b (reedDetAt b + 16 * i) 16)

/-- Estimator entry fields. -/
def esWid (e : List Byte) : Nat := leAt e 0 2 % 4096
def esM (e : List Byte) : Bool := leAt e 2 1 != 0
def esF0 (e : List Byte) : Nat := if leAt e 3 1 = 0 then 50 else 60
def esGroup (e : List Byte) : Nat := leAt e 4 2 % 2048
def esMember (e : List Byte) : Nat := leAt e 6 1
def esTid (e : List Byte) : Nat := leAt e 8 4 % 2 ^ 17
def esFreqTid (e : List Byte) : Nat := leAt e 12 4 % 2 ^ 17

/-- Detector entry fields. -/
def deTid (e : List Byte) : Nat := leAt e 0 4 % 2 ^ 17
def deWid (e : List Byte) : Nat := leAt e 4 2 % 4096
def deKind (e : List Byte) : Nat := leAt e 6 1
def deMode (e : List Byte) : Nat := leAt e 7 1
def deW (e : List Byte) : Nat := leAt e 8 4
def deT (e : List Byte) : Rat := toRat32 (leAt e 12 4)

/-- The class 4 stream of a STREAMS body that carries a WID: SID and entry. -/
def widStreamOf (body : List Byte) (wid : Nat) : Option (Nat × List Byte) :=
  (tableOf body 0).find? (fun e => stClass e.2 == 4 && decide (stFirstWid e.2 ≤ wid ∧ wid < stFirstWid e.2 + stBlocks e.2))

/-- The class 4 stream that carries a WID. -/
def State.widStream (s : State) (wid : Nat) : Option (Nat × List Byte) := widStreamOf (s.cfg secStreams) wid

/-- Half-length of the window: N_c − 1 for P-class, K for M-class. -/
def estHalf (m : Bool) (sr f0 fl : Nat) : Nat := if m then (12 * sr + 2 * fl - 1) / (2 * fl) else sr / f0 - 1

/-- Does the estimator or a detector form a thread's output for an instant: an EMIT thread whose set is not shed (R201)? -/
def State.emits (s : State) (instant tid : Nat) : Bool :=
  let e := s.catAt instant tid
  catEmit e && !s.shedSet (catSet e)

/-! Outputs. -/

/-- The FREQ value carried with a tap (R157), where it is VALID: among the frequency thread's latest samples, or from its item of the same
frame that still waits. -/
def State.freqWith (s : State) (ftid time : Nat) : Option Rat :=
  let r := match (s.thread ftid).freqs.find? (fun x => x.time == time) with
    | some x => some (x.word, if x.bad then 0 else x.quality)
    | none => (s.reedQ.find? (fun i => i.tid == ftid && i.time == time)).map (fun i => (i.word, i.quality))
  match r with
  | some (w, q) => if bit q qValid && finite32 (w / 2 ^ 32) then some (toRat32 (w / 2 ^ 32)) else none
  | none => none

/-- frequency_offset() (R157): df in Hz, whether SRC_ERR goes with it, what is counted (0 nothing, 1 missing, 2 clamped), and
whether it is a df to be remembered. -/
def State.freqOffset (s : State) (tid : Nat) (e : List Byte) (fnom : Nat) (times : List Nat) (tau : Nat) : Rat × Bool × Nat × Bool :=
  if catFreqTid e = tid ∨ !s.isSet F.REED_CTRL_DEROTATE then (0, false, 0, false)
  else
    let fs : List Rat := times.filterMap (fun t => s.freqWith (catFreqTid e) t)
    if fs.isEmpty then
      match (s.thread tid).df with
      | some (d, at') => if tau ≤ at' + 1000000 * (s.fld F.REED_DF_HOLD_MS) then (d, false, 0, false) else (0, true, 1, false)
      | none => (0, true, 1, false)
    else
      let f0 : Rat := if fnom = 1 then 50 else 60
      let d := r64 (r64 (r64 (fs.foldl (· + ·) 0) / (fs.length : Rat)) - f0)
      let lim : Rat := mkRat (s.fld F.REED_DF_MAX_MHZ : Nat) 1000
      if lim < d then (lim, true, 2, true) else if d < -lim then (-lim, true, 2, true) else (d, false, 0, true)

/-- The word of a phasor output (R156): each tap is turned back to `tRef`, weighed and summed in binary64, and the sum turned on to `tau`. -/
def rotate (df : Rat) (l : List (Nat × Rat × Int)) (tRef tau : Int) : Nat :=
  let turn (x : Int) : Rat := r64 (r64 (df * (x : Rat)) / 1000000000)
  let rot (w : Nat) (t : Int) : Rat := r64 (turnsOf (w % 2 ^ 32) - turn (t - tRef))
  let term (f : Rat → Rat) (x : Nat × Rat × Int) : Rat := r64 (r64 (x.2.1 * toRat32 (x.1 / 2 ^ 32)) * f (rot x.1 x.2.2))
  let re := l.foldl (fun (a : Rat) x => r64 (a + term cosT x)) 0
  let im := l.foldl (fun (a : Rat) x => r64 (a + term sinT x)) 0
  let mag := r64 (sqrtRat (r64 (r64 (re * re) + r64 (im * im))))
  pairWord (ofRat32 mag) (toTurn (r64 (atan2T im re + turn (tau - tRef))))

/-- One half of a word interpolated (R156). -/
def weigh (l : List (Nat × Rat)) : Nat :=
  if l.all (fun x => finite32 x.1) then ofRat32 (l.foldl (fun (a : Rat) x => r64 (a + r64 (x.2 * toRat32 x.1))) 0) else nan32

/-- Descriptor index of a thread's block (R116), from its stream. -/
def State.fnomOf (s : State) (e : List Byte) (instant : Nat) : Nat :=
  let body := s.cfgAt secStreams instant
  bdFnom (entryOf body 1 (stFirstBlock (entryOf body 0 (catSid e)) + catBlock e))

/-- One more of the items in (0), items out (1), BAND outputs (2) or waveform samples (3) of this second of MONO; the registers show those of
the last whole second, and WAVE_LIMIT that the waveform path has taken its 64 M (R169). -/
def State.reedLoad (s : State) (i : Nat) : State :=
  let sec := s.bases.mono / 1000000000
  let r := s.reed
  let s := if sec = r.second then s
    else
      let last (n : Nat) : Nat := if sec = r.second + 1 then r.counts.getD n 0 else 0
      let s := ((s.putReg R.REED_LOAD_IN (last 0)).putReg R.REED_LOAD_OUT (last 1)).putReg R.REED_LOAD_BAND (last 2)
      (s.putReg R.REED_LOAD_WAVE (last 3)).setReed { s.reed with second := sec, counts := [0, 0, 0, 0] }
  let s := s.setReed { s.reed with counts := s.reed.counts.zipIdx.map (fun x => if x.2 = i then x.1 + 1 else x.1) }
  if i = 3 then s.putFld F.REED_STATUS_WAVE_LIMIT (if 64000000 ≤ s.reed.counts.getD 3 0 then 1 else 0) else s

/-- An output goes to the Loom with its slot tag (R142). -/
def State.toLoom (s : State) (tid word q tag : Nat) : State :=
  let s := (s.count R.REED_OUT_ITEMS).reedLoad 1
  s.setLoomQ (s.loomQ ++ [mkItem tid word q tag])

/-- The output of a thread that the estimator or a detector forms; a thread that is not emitted gives none. -/
def State.give (s : State) (instant tid word q tag : Nat) : State :=
  if s.emits instant tid then (s.putThread tid { s.thread tid with lastTag := tag, lastQ := q }).toLoom tid word q tag else s

/-- Fallbacks are counted (R159). -/
def State.fallBack (s : State) (n : Nat) : State := if n = 0 then s else s.count R.REED_GAP_FALLBACK n

/-- The output of a slot formed from its taps (R146, R149, R156 to R158). -/
def State.formOutput (s : State) (tid : Nat) (e : List Byte) (tau tag : Nat) (l : List (ReedTap × Rat)) (interp predict : Bool) :
    State :=
  let table := s.corrTable tau e
  let used := l.map (fun x => (x.1, x.2, correct e table x.1.word))
  let heavy := used.filter (fun x => x.2.1 != 0)
  let clipped := heavy.filter (fun x => x.2.2.2.1)
  let q := heavy.foldl (fun a x => a ||| (x.1.quality &&& (2 ^ qSyncLoss + 2 ^ qSrcErr + 2 ^ qTest))) 1
  let q := setIf (!clipped.isEmpty) (setIf predict (setIf interp q qInterp) qPredict) qClipped
  let s := if l.length = 32 then s.reedLoad 2 else s
  let s := match clipped with
    | [] => s
    | x :: _ => (((s.count R.REED_CLIPPED clipped.length).event E.REED_CLIPPED tid
        (leBytes 3 tid ++ leBytes 4 (catCorr e % 4096) ++ leBytes 4 x.2.2.2.2)).raise I.REED_CLIPPED)
  let x := s.thread tid
  let single := match used with | [y] => some y.2.2.1 | _ => none
  match single with
  | some w =>
    let ok := catType e = 3 ∨ finite32 (w / 2 ^ 32)
    let w' := if ok then w else absentWord
    let q := if ok then q else notFinite q
    (s.putThread tid { x with lastTag := tag, lastQ := q }).toLoom tid w' q tag
  | none =>
    if catType e = 0 then
      let base : List (ReedTap × Rat × Nat × Bool × Nat) := if predict then used.drop 1 else
        (used.filter (fun y => decide (y.1.at e ≤ (tau : Int)))).reverse.take 1 ++ (used.filter (fun y => decide ((tau : Int) < y.1.at e))).take 1
      let tRef := ((used.filter (fun y => decide (y.1.at e ≤ (tau : Int)))).reverse.head?.map (fun y => y.1.at e)).getD 0
      let r := s.freqOffset tid e (s.fnomOf e tau) (base.map (fun y => y.1.time)) tau
      let q := setIf r.2.1 q qSrcErr
      let w := rotate r.1 (used.map (fun y => (y.2.2.1, y.2.1, y.1.at e))) tRef tau
      let s := if r.2.2.1 = 1 then
          ((s.count R.REED_DF_MISSING).event E.REED_DF_MISSING tid
            (leBytes 3 tid ++ leBytes 4 (ofRat32 ((x.df.map (·.1)).getD 0)))).raise I.REED_DF_MISSING
        else if r.2.2.1 = 2 then s.count R.REED_DF_CLAMPED else s
      let df := if r.2.2.2 then some (r.1, tau) else x.df
      let good := used.all (fun y => finite32 (y.2.2.1 / 2 ^ 32)) && finite32 (w / 2 ^ 32)
      let w := if good then w else absentWord
      let q := if good then q else notFinite q
      (s.putThread tid { x with lastTag := tag, lastQ := q, df := df }).toLoom tid w q tag
    else
      let hi := weigh (used.map (fun y => (y.2.2.1 / 2 ^ 32, y.2.1)))
      let lo := if catType e = 1 then weigh (used.map (fun y => (y.2.2.1 % 2 ^ 32, y.2.1))) else 0
      let good := finite32 hi && finite32 lo
      let w := if good then pairWord hi lo else absentWord
      let q := if good then q else notFinite q
      (s.putThread tid { x with lastTag := tag, lastQ := q }).toLoom tid w q tag

/-- Slots of a lattice from an instant on, at most `n` of them, up to an instant. -/
def slotsFrom (rate : Nat) : Nat → Nat → Nat → List Nat
  | 0, _, _ => []
  | n + 1, tag, upTo => if upTo < slotInstant rate tag then [] else tag :: slotsFrom rate n (nextTag rate tag) upTo

/-- How many slots lie strictly after one instant and strictly before another. -/
def slotsBetween (rate a b : Nat) : Nat :=
  let x := firstSlotAt rate (a + 1)
  let y := firstSlotAt rate b
  (y / 2 ^ 16 * rate + y % 2 ^ 16) - (x / 2 ^ 16 * rate + x % 2 ^ 16)

/-- The instants of the switch slots whose earlier configurations are still kept (R56), rising. -/
def State.switchInstants (s : State) : List Nat := (s.draft.old.map (fun o => slotInstant (s.rate 0) o.2.2)).reverse

/-- Slots in a stretch of time, cut where the configuration changes: tag and instant, on the lattice that the configuration of the time
gives (none: no slots) (R143, R172). -/
def slotsCut (rate : Nat → Nat) (upTo : Nat) : List Nat → Nat → List (Nat × Nat)
  | [], a => if rate a = 0 then [] else (slotsFrom (rate a) 8192 (firstSlotAt (rate a) a) upTo).map (fun tag => (tag, slotInstant (rate a) tag))
  | c :: r, a =>
    (if rate a = 0 then [] else (slotsFrom (rate a) 8192 (firstSlotAt (rate a) a) (c - 1)).map (fun tag => (tag, slotInstant (rate a) tag))) ++
      slotsCut rate upTo r c

/-- The slots of a thread from an instant up to another. -/
def State.slotsOver (s : State) (tid start upTo : Nat) : List (Nat × Nat) :=
  let rate (a : Nat) : Nat := let e := s.catAt a tid; if catEmit e then s.rate (catLattice e) else 0
  slotsCut rate upTo (s.switchInstants.filter (fun c => decide (start < c ∧ c ≤ upTo))) start

/-- What of a thread's history decides its slots: the time from which slots are still to be looked at. Before the first tap there is
nothing; a gap is passed over, but with PASS, each of whose slots counts (R150). -/
def ReedThread.from' (x : ReedThread) (e : List Byte) (tol : Nat) : Nat :=
  let first := ((x.taps.head?.map (fun t => t.at e)).getD 0 - tol).toNat
  match x.upto with | some u => if catKernel e = 0 ∧ catType e ≠ 3 then u + 1 else max (u + 1) first | none => first

/-- One slot of a thread: the state after it, and whether later slots may be looked at. -/
def State.trySlot (s : State) (tid tag tau : Nat) : State × Bool :=
  let e := s.catAt tau tid
  let x := s.thread tid
  let rate := max 1 (stRate (entryOf (s.cfgAt secStreams tau) 0 (catSid e)))
  let tol := s.fld F.REED_PASS_TOL_NS
  let c := if catType e = 3 then coverDigital e rate tol x.ended x.taps tau
    else coverValue s e rate (s.rateCode (catLattice e)) tol x.ended x.taps tau
  let passed (s : State) : State := s.putThread tid { s.thread tid with upto := some tau }
  match c with
  | .wait => (s, false)
  | .none f => (if catKernel e = 0 ∧ catType e ≠ 3 then
      (passed ((s.count R.REED_PASS_MISS).raise I.REED_PASS_MISS), true) else (passed (s.fallBack f), true))
  | .failed f =>
    let q := setBit (qAbsentFor rFault) qCheckFail
    (passed (((s.fallBack f).putThread tid { x with lastTag := tag, lastQ := q }).toLoom tid absentWord q tag), true)
  | .taps l i p f => (passed ((s.fallBack f).formOutput tid e tau tag l i p), true)

/-- The slots of a list, in order, until one has to wait. -/
def State.trySlots (s : State) (tid : Nat) : List (Nat × Nat) → State
  | [] => s
  | (tag, tau) :: r =>
    match s.trySlot tid tag tau with
    | (s, true) => s.trySlots tid r
    | (s, false) => s

/-- The slots of a thread up to an instant are looked at. -/
def State.trySlotsTo (s : State) (tid tol upTo : Nat) (e : List Byte) : State :=
  s.trySlots tid (s.slotsOver tid ((s.thread tid).from' e tol) upTo)

/-- The slots of a long gap, up to before an instant, are passed over: no kernel covers them (R159); with PASS each counts as a
miss (R150). -/
def State.skipGap (s : State) (tid : Nat) (e : List Byte) (upTo : Nat) : State :=
  let x := s.thread tid
  let rate := s.rate (catLattice e)
  match x.upto with
  | none => s
  | some u =>
    if upTo ≤ u + 1 ∨ rate = 0 then s
    else
      let n := if catKernel e = 0 ∧ catType e ≠ 3 then slotsBetween rate u upTo else 0
      let s := if n = 0 then s else (s.count R.REED_PASS_MISS n).raise I.REED_PASS_MISS
      s.putThread tid { x with upto := some (upTo - 1) }

/-- Every output that a thread's history now covers is formed, in the order of the slots (R142): those near the tap before the newest,
those of a gap, those near the newest. With PASS a sample that is absent or failed its check is no sample. -/
def State.runThread (s : State) (tid : Nat) : State :=
  let x := s.thread tid
  match x.taps.getLast? with
  | none => s
  | some newest =>
    let e := s.catAt newest.time tid
    let tol := s.fld F.REED_PASS_TOL_NS
    let p := 1000000000 / max 1 (stRate (entryOf (s.cfgAt secStreams newest.time) 0 (catSid e))) + 1
    let taps := if catKernel e = 0 ∧ catType e ≠ 3 then x.taps.filter (fun y => !y.absent) else x.taps
    match taps.reverse with
    | [] => s
    | y :: older =>
      let s := match older with
        | z :: _ =>
          if z.at e + 3 * p + 3 * tol < y.at e then
            let s := s.trySlotsTo tid tol (z.at e + 2 * p + tol).toNat e
            if y.bad then s else s.skipGap tid e (y.at e - tol).toNat
          else s
        | [] => if y.bad then s else s.skipGap tid e (y.at e - tol).toNat
      s.trySlotsTo tid tol (y.at e + p + tol).toNat e

/-- A stream leaves RUNNING (R159): what its threads still wait for is missing. Its waveforms stand still while it is SILENT or DISABLED
(R166). -/
def State.reedDownAs (s : State) (sid : Nat) (e : List Byte) : State :=
  let s := if stClass e = 4 ∧ (s.streamState sid = 3 ∨ s.streamState sid = 0) then
      (List.range (stBlocks e)).foldl (fun s i =>
        match smFind s.reed.waves (stFirstWid e + i) with
        | some w => s.setReed { s.reed with waves := smPut s.reed.waves (stFirstWid e + i) { w with down := true } }
        | none => s) s
    else s
  (List.range (stThreads e)).foldl (fun s i =>
    let tid := stFirstTid e + i
    match smFind s.reed.threads tid with
    | some x => (s.putThread tid { x with ended := true }).runThread tid
    | none => s) s

/-- The same under the entry in force. -/
def State.reedDown (s : State) (sid : Nat) : State := s.reedDownAs sid (s.stream sid)

/-- Every stream that decodes leaves RUNNING (R497: M2 is entered). -/
def State.reedStop (s : State) : State :=
  ((s.heddle.streams.filter (fun x => x.2.st == 2 || x.2.st == 4)).map (·.1)).foldl (fun s sid => s.reedDown sid) s

/-- The number of a sample since the TAI epoch. -/
def sampleNumber (sr t : Nat) : Nat := t / 1000000000 * sr + ((t % 1000000000) * sr * 2 + 1000000000) / 2000000000

/-- The instant of a sample number. -/
def sampleInstant (sr n : Nat) : Nat := 1000000000 * (n / sr) + slotOffset sr (n % sr)

end Sys2Proof.Machine
end

