-- ==== Sys2Proof/Machine/LoomOps.lean ====
section
/-!
DEFINITION. Sys2Proof/Machine/LoomOps.lean: lattices, storage and slots of the Loom (R175 to R195): where a value stands, what a slot
reads as, how sets and slots close.
-/

namespace Sys2Proof.Machine

/-! Lattices and slots. -/

def State.lat (s : State) (l : Nat) : LatSt := smGet {} s.loom.lats l

def State.putLat (s : State) (l : Nat) (x : LatSt) : State := s.setLoom { s.loom with lats := smPut s.loom.lats l x }

/-- The slot number of a tag (R175). -/
def slotNumber (rate tag : Nat) : Nat := tag / 2 ^ 16 * rate + tag % 2 ^ 16

/-- The tag of a slot number. -/
def tagOfNumber (rate n : Nat) : Nat := 2 ^ 16 * (n / rate) + n % rate

/-- A lattice's slot of a tag. -/
def LatSt.slot (x : LatSt) (tag : Nat) : Option SlotSt := x.slots.find? (fun y => y.tag == tag)

/-- Change the slot of a tag. -/
def State.modSlot (s : State) (l tag : Nat) (f : SlotSt → SlotSt) : State :=
  s.putLat l { s.lat l with slots := (s.lat l).slots.map (fun y => if y.tag = tag then f y else y) }

/-- Hold a slot's record in its place. -/
def State.putSlot (s : State) (l : Nat) (y : SlotSt) : State :=
  let x := s.lat l
  s.putLat l { x with slots := x.slots.filter (fun z => decide (z.tag < y.tag)) ++ [y] ++ x.slots.filter (fun z => decide (y.tag < z.tag)) }

/-- The instant of a slot of a lattice. -/
def State.instant (s : State) (l tag : Nat) : Nat := slotInstant (s.rate l) tag

/-! Threads of a lattice. -/

/-- The catalogue of a slot: TID and entry. -/
def State.catalogue (s : State) (instant : Nat) : List (Nat × List Byte) := tableOf (s.cfgAt secCatalogue instant) 3

/-- The EMIT threads of a set on a lattice, derived ones apart (R186, R188). -/
def State.setThreads (s : State) (instant l n : Nat) : List (Nat × List Byte) :=
  (s.catalogue instant).filter (fun e => catEmit e.2 && catLattice e.2 == l && catSet e.2 == n && catOrigin e.2 != 3)

/-- The stream of a thread (R186). -/
def State.streamOf (s : State) (e : List Byte) : Option Nat :=
  if catOrigin e = 0 then some (catSid e) else if catOrigin e ≤ 2 then (s.widStream (catBlock e)).map (·.1) else none

/-- The sets of a lattice in the configuration of a time: number and entry. -/
def State.latticeSets (s : State) (instant l : Nat) : List (Nat × List Byte) :=
  let body := s.cfgAt secLoom instant
  ((List.range 256).map (fun n => (n, setEntry body n))).filter (fun e =>
    !e.2.isEmpty && leAt e.2 0 1 != 3 && leAt e.2 2 1 % 4 == l)

/-- Set entry fields (R184). -/
def lsPolicy (e : List Byte) : Nat := leAt e 0 1
def lsGate (e : List Byte) : Bool := bit (leAt e 1 1) 0
def lsReqAll (e : List Byte) : Bool := bit (leAt e 1 1) 3
def lsFill (e : List Byte) : Bool := bit (leAt e 1 1) 4
def lsFillMax (e : List Byte) : Nat := leAt e 0x10 2

/-- The required streams of a set. -/
def lsRequired (body e : List Byte) : List Nat :=
  (List.range (leAt e 0x12 2)).map (fun i => leAt body (leAt e 0x14 4 + 2 * i) 2)

/-! Storage (R178, R179). -/

/-- The weft index of a thread on a lattice. -/
def State.weftIndex (s : State) (l tid : Nat) : Option Nat := (smFind (smGet [] s.loom.weft l) tid).map (·.1)

/-- The index that a thread held in slot number `n`, before a patch withdrew it. -/
def State.pastIndex (s : State) (l n tid : Nat) : Option Nat :=
  ((smGet [] s.loom.past l).find? (fun p => p.1 == tid && decide (p.2.2.1 ≤ n ∧ n < p.2.2.2))).map (·.2.1)

/-- The weft index of a thread in slot number `n` (R56, R178): its own from the slot number from which it holds. -/
def State.weftAt (s : State) (l n tid : Nat) : Option Nat :=
  match smFind (smGet [] s.loom.weft l) tid with
  | some (w, from') => if from' ≤ n then some w else s.pastIndex l n tid
  | none => s.pastIndex l n tid

/-- Stacks addresses of the word and quality of weft index `w` in the open-storage or history block of slot number `n`. -/
def State.openAddr (s : State) (l n w : Nat) : Nat × Nat :=
  let cap := s.capacity l
  let b := s.regionStart l + n % max 1 (s.openSlots l) * cap * 10
  (b + 8 * w, b + cap * 8 + 2 * w)

def State.histAddr (s : State) (l n w : Nat) : Nat × Nat :=
  let cap := s.capacity l
  let b := s.regionStart (4 + l) + n % max 1 (s.depth l) * cap * 10
  (b + 8 * w, b + cap * 8 + 2 * w)

/-- Bytes of the Stacks. -/
def State.stkRead (s : State) (a n : Nat) : List Byte := memRead (ramDefault 0) s.stk a n
/-- Bytes of the Stacks as BAR2 reads them: what lies behind the last region of the partition is unallocated and reads 0 (R41). -/
def State.windowRead (s : State) (a n : Nat) : List Byte :=
  let stop := s.regionStart 42
  (List.range n).map (fun i => if stop ≤ a + i then 0 else smGet 0 s.stk (a + i))
def State.stkNat (s : State) (a n : Nat) : Nat := leNat (s.stkRead a n)
def State.stkStore (s : State) (a : Nat) (l : List Byte) : State := s.setStk (memStore (ramDefault 0) s.stk a l)

/-- Store a word and quality at a pair of addresses. -/
def State.stkPut (s : State) (a : Nat × Nat) (word q : Nat) : State := (s.stkStore a.1 (leBytes 8 word)).stkStore a.2 (leBytes 2 q)

/-- A value enters a slot at a weft index: open storage until its release, history once it has closed (log 20). -/
def State.storeAt (s : State) (l : Nat) (x : SlotSt) (w word q : Nat) : State :=
  let n := slotNumber (s.rate l) x.tag
  let s := if x.released.isNone then s.stkPut (s.openAddr l n w) word q else s
  if x.closed.isSome ∧ s.depth l ≠ 0 then s.stkPut (s.histAddr l n w) word q else s

/-- A thread's value enters a slot. -/
def State.storeValue (s : State) (l : Nat) (x : SlotSt) (tid word q : Nat) : State :=
  match s.weftAt l (slotNumber (s.rate l) x.tag) tid with
  | none => s
  | some w => s.storeAt l x w word q

/-- The value stored for a thread in a slot. -/
def State.storedValue (s : State) (l : Nat) (x : SlotSt) (tid : Nat) : Nat × Nat :=
  let n := slotNumber (s.rate l) x.tag
  match s.weftAt l n tid with
  | none => (absentWord, qAbsentFor rNotArrived)
  | some w =>
    let a := if x.closed.isSome ∧ s.depth l ≠ 0 then s.histAddr l n w else s.openAddr l n w
    (s.stkNat a.1 8, s.stkNat a.2 2)

/-- Is a slot among the last D that closed? -/
def State.inHistory (s : State) (l : Nat) (x : SlotSt) : Bool :=
  x.closed.isSome &&
    decide (((s.lat l).slots.filter (fun y => y.closed.isSome && y.test == x.test && decide (x.tag < y.tag))).length < s.depth l)

/-- The catalogue entries that the pending patch brings (R59), unless the active card has a catalogue of its own. -/
def State.comingCat (s : State) : List (Nat × List Byte) :=
  match s.draft.patch with
  | some (o, _) => if (s.activeCard.bind (·.body secCatalogue)).isSome then [] else tableOf ((o.body secCatalogue).getD []) 3
  | none => []

/-- Does a configuration that begins after a slot add the thread (R59, R192): the pending patch, or the one in force? -/
def State.comes (s : State) (tid : Nat) : Bool := catEmit (s.cat tid) || s.comingCat.any (fun e => e.1 == tid && catEmit e.2)

/-- What a thread with no EMIT entry for a slot reads as (R192): withdrawn, or not yet there. -/
def State.strangerQuality (s : State) (l tag tid : Nat) : Nat :=
  let gone : Bool := match smFind s.loom.gone tid with | some g => decide (s.instant 0 g ≤ s.instant l tag) | none => false
  if s.comes tid then qAbsentFor rConfigPending else if gone then qAbsentFor rWithdrawn else qAbsentFor rNotArrived

/-- A thread in a slot that is open or has been: word, quality, whether its set has closed. -/
def State.slotEntry (s : State) (l : Nat) (y : SlotSt) (tid : Nat) : Nat × Nat × Bool :=
  let e := s.catAt (s.instant l y.tag) tid
  let shut := ((smFind y.sets (catSet e)).map (fun z => z.closed.isSome)).getD (y.closed.isSome)
  if !catEmit e ∨ catLattice e ≠ l then (absentWord, s.strangerQuality l y.tag tid, shut)
  else if (shut ∧ catOrigin e ≠ 3) ∨ y.present.contains tid ∨ y.failed.contains tid then
    let v := s.storedValue l y tid
    (v.1, v.2, shut)
  else (absentWord, qAbsentFor rNotArrived, shut)

/-- A slot that has not opened yet: the lattice's next one or a later one; while the lattice does not run, one after the last that opened. -/
def LatSt.future (x : LatSt) (tag : Nat) : Bool :=
  match x.next with
  | some n => decide (n ≤ tag)
  | none => match x.last with | some k => decide (k < tag) | none => true

/-- A thread in a slot as READ_VALUE returns it (R195): word, quality, state code. -/
def State.slotValue (s : State) (l tag tid : Nat) : Nat × Nat × Nat :=
  let x := s.lat l
  match x.slot tag with
  | none => if x.future tag then (absentWord, qAbsentFor rNotArrived, 0) else (absentWord, qAbsentFor rBeyondHistory, 4)
  | some y =>
    if !y.opened then (absentWord, qAbsentFor rNotArrived, 0)
    else if y.closed.isSome ∧ y.released.isSome ∧ !s.inHistory l y then (absentWord, qAbsentFor rBeyondHistory, 4)
    else
      let v := s.slotEntry l y tid
      (v.1, v.2.1, if y.closed.isSome ∧ s.inHistory l y then 3 else if v.2.2 then 2 else 1)

/-- A thread in a slot as the close pipeline and the consumers of a release read it: the slot has not left the list, so its value stands
even where D is 0. -/
def State.slotContent (s : State) (l tag tid : Nat) : Nat × Nat :=
  match (s.lat l).slot tag with
  | some y => if y.opened then let v := s.slotEntry l y tid; (v.1, v.2.1) else (absentWord, qAbsentFor rNotArrived)
  | none => let v := s.slotValue l tag tid; (v.1, v.2.1)

/-- The thread item that carries a stored value from the Loom to a reader (R12): its identity, its slot tag, and the check code over them
(R14). -/
def State.slotItem (s : State) (l tag tid : Nat) : Item := let v := s.slotContent l tag tid; mkItem tid v.1 v.2 tag

/-- Word and quality of a thread in a slot, from its item. -/
def State.readSlot (s : State) (l tag tid : Nat) : Nat × Nat := let i := s.slotItem l tag tid; (i.word, i.quality)

/-- The item that carries a value to analytics: as the slot closed, whatever a late item has replaced since (R188, R193). -/
def State.anaItem (s : State) (l tag tid : Nat) : Item :=
  match (((s.lat l).slot tag).map (·.replaced)).bind (fun r => r.find? (fun x => x.1 == tid)) with
  | some x => mkItem tid x.2.1 x.2.2 tag
  | none => s.slotItem l tag tid

/-- Word and quality of a thread in a slot, as analytics reads it. -/
def State.anaSlot (s : State) (l tag tid : Nat) : Nat × Nat := let i := s.anaItem l tag tid; (i.word, i.quality)

/-! Slot headers (R181). -/

/-- Stacks address of a slot's header. -/
def headerAddr (l n : Nat) : Nat := 0x03100000 + 0x40000 * l + 64 * (n % 4096)

/-- The header's bytes. -/
def slotHeader (n : Nat) (x : SlotSt) : List Byte :=
  let flags := (if x.closed.isSome then 1 else 0) + (if x.released.isSome then 2 else 0) + (if x.forced then 4 else 0) +
    (if x.gap then 8 else 0) + (if x.test then 16 else 0) + (if x.shed.isEmpty then 0 else 32)
  let b := leBytes 8 x.tag ++ leBytes 8 (x.closed.getD 0) ++ leBytes 8 (x.released.getD 0) ++ leBytes 4 x.onTime ++
    leBytes 4 x.absent ++ leBytes 4 x.late ++ leBytes 4 x.fills ++ leBytes 2 flags ++ leBytes 2 x.byPresence ++
    leBytes 2 x.byDeadline ++ leBytes 2 x.mode ++ leBytes 12 0
  b ++ leBytes 4 (crc32c (ones32 ^^^ (n % 2 ^ 32)) b)

/-- The header of a slot is written, or written anew. -/
def State.writeHeader (s : State) (l tag : Nat) : State :=
  match (s.lat l).slot tag with
  | some x => let n := slotNumber (s.rate l) tag; s.stkStore (headerAddr l n) (slotHeader n x)
  | none => s

/-! Settlement and closure. -/

/-- Is a required thread settled in a slot (R186)? -/
def State.settled (s : State) (x : SlotSt) (tid : Nat) (e : List Byte) : Bool :=
  x.present.contains tid || x.failed.contains tid || (match s.streamOf e with
    | some sid => let st := s.streamState sid; st == 0 || st == 3 || st == 5
    | none => false)

/-- The required threads of a set. -/
def State.requiredThreads (s : State) (instant l n : Nat) (e : List Byte) : List (Nat × List Byte) :=
  let body := s.cfgAt secLoom instant
  let req := lsRequired body e
  (s.setThreads instant l n).filter (fun t => lsReqAll e || (match s.streamOf t.2 with | some sid => req.contains sid | none => false))

/-- A thread's value in the slot before one (R192); absent where that slot was never opened or has gone. -/
def State.lastContent (s : State) (l tag tid : Nat) : Nat × Nat :=
  match (s.lat l).slot (prevTag (s.rate l) tag) with
  | some y => let v := s.slotEntry l y tid; (v.1, v.2.1)
  | none => (absentWord, qAbsentFor rNotArrived)

/-- How a thread that has not arrived is settled at the close of its set (R192): word, quality, whether it was filled. -/
def State.settleAs (s : State) (l : Nat) (x : SlotSt) (e : List Byte) (tid : Nat) (te : List Byte) : Nat × Nat × Bool :=
  let st := (s.streamOf te).map s.streamState
  let prev := s.lastContent l x.tag tid
  let absent (r : Nat) : Nat × Nat × Bool := (absentWord, qAbsentFor r, false)
  if (catOrigin te = 0 ∧ s.domainFenced pdHeddle) ∨ s.domainFenced pdReed ∨ s.fault.lost.contains tid then absent rFault
  else if st = some 5 then absent rConfigPending
  else if st = some 0 ∨ st = some 3 ∨ s.gooseDown tid then absent rStreamDown
  else if lsFill e ∧ bit prev.2 qValid ∧ smGet 0 s.loom.fills tid < lsFillMax e then
    (prev.1, setBit (prev.2 % 2 ^ 12) qPredict, true)
  else absent rNotArrived

/-- A thread is settled in its slot: the value stored, what the header counts, the run of fills. -/
def State.settle (s : State) (l tag : Nat) (e : List Byte) (t : Nat × List Byte) : State :=
  match (s.lat l).slot tag with
  | none => s
  | some x =>
    if x.present.contains t.1 ∨ x.failed.contains t.1 then s.setLoom { s.loom with fills := smDel s.loom.fills t.1 }
    else
      let v := s.settleAs l x e t.1 t.2
      let s := s.storeValue l x t.1 v.1 v.2.1
      let s := s.setLoom { s.loom with
        fills := if v.2.2 then smPut s.loom.fills t.1 (smGet 0 s.loom.fills t.1 + 1) else smDel s.loom.fills t.1 }
      s.modSlot l tag (fun y => if v.2.2 then { y with fills := y.fills + 1, filled := y.filled ++ [t.1] } else { y with absent := y.absent + 1 })

/-- The threads that a configuration which begins after a slot adds to a set (R59, R192): those of the pending patch and of the one in
force that have no EMIT entry for the slot. -/
def State.comingThreads (s : State) (instant l n : Nat) : List Nat :=
  let mine (e : Nat × List Byte) : Bool :=
    catEmit e.2 && catLattice e.2 == l && catSet e.2 == n && catOrigin e.2 != 3 && !catEmit (s.catAt instant e.1)
  let now := if s.draft.old.isEmpty then [] else (tableOf (s.cfg secCatalogue) 3).filter mine
  ((now ++ s.comingCat.filter mine).map (·.1)).eraseDups

/-- A thread that a patch adds is settled in a slot before its S (R192): CONFIG_PENDING, under its index where it has one already. -/
def State.settleComing (s : State) (l tag tid : Nat) : State :=
  match (s.lat l).slot tag with
  | none => s
  | some x =>
    let s := match s.weftIndex l tid with
      | some w => s.storeAt l x w absentWord (qAbsentFor rConfigPending)
      | none => s
    s.modSlot l tag (fun y => { y with absent := y.absent + 1 })

/-- A set closes for a slot (R187, R188): cause 0 presence, 1 deadline. -/
def State.closeSet (s : State) (l tag n : Nat) (e : List Byte) (cause : Nat) : State :=
  let now := s.now
  let inst := s.instant l tag
  let s := (s.setThreads inst l n).foldl (fun s t => s.settle l tag e t) s
  let s := (s.comingThreads inst l n).foldl (fun s t => s.settleComing l tag t) s
  let s := s.modSlot l tag (fun y => { y with
    sets := smMod ⟨0, false, none⟩ y.sets n (fun z => { z with closed := some (now, cause) })
    byPresence := y.byPresence + (1 - cause)
    byDeadline := y.byDeadline + cause })
  let s := s.count (if cause = 0 then R.LOOM_SETn_PRESENCE n else R.LOOM_SETn_DEADLINE n)
  s.putReg (R.LOOM_SETn_LAST_LAG n) (sat32 ((now - inst) / 1000))

/-- The sets of a slot that take part in its closure and release: those not shed (R201). -/
def State.liveSets (s : State) (l : Nat) (x : SlotSt) : List (Nat × List Byte) :=
  (s.latticeSets (s.instant l x.tag) l).filter (fun e => !x.shed.contains e.1)

/-- Has a set closed in a slot? -/
def SlotSt.setClosed (x : SlotSt) (n : Nat) : Bool := match smFind x.sets n with | some z => z.closed.isSome | none => false

/-- SLOT_FORCED of a slot (R187, R204). -/
def State.recordForced (s : State) (l tag : Nat) : State :=
  ((s.count (R.LOOM_Ln_FORCED l)).event E.LOOM_SLOT_FORCED l (leBytes 1 l ++ leBytes 8 tag)).raise I.LOOM_FORCED_CLOSE

/-- The slot closes (R189): shed sets settle, values go to history, the header is written, ANA is told. -/
def State.closeSlot (s : State) (l tag : Nat) : State :=
  let now := s.now
  let inst := s.instant l tag
  match (s.lat l).slot tag with
  | none => s
  | some x =>
    let shed := x.shed.flatMap (fun n => s.setThreads inst l n)
    let s := shed.foldl (fun s t => s.storeValue l x t.1 absentWord (qAbsentFor rNotArrived)) s
    let s := s.modSlot l tag (fun y => { y with closed := some now, shutAt := s.bases.mono, absent := y.absent + shed.length })
    let x' := ((s.lat l).slot tag).getD x
    let n := slotNumber (s.rate l) tag
    let s := if s.depth l = 0 then s
      else ((smGet [] s.loom.weft l).map (·.2.1) ++
          ((smGet [] s.loom.past l).filter (fun p => decide (p.2.2.1 ≤ n ∧ n < p.2.2.2))).map (·.2.1)).foldl (fun s w =>
        let a := s.openAddr l n w
        s.stkPut (s.histAddr l n w) (s.stkNat a.1 8) (s.stkNat a.2 2)) s
    let s := s.writeHeader l tag
    let s := s.putPair (R.LOOM_Ln_CLOSED_LO l) tag
    let s := s.putReg (R.LOOM_Ln_CLOSE_LAG l) (sat32 ((now - inst) / 1000))
    let s := if x'.forced then s.recordForced l tag else s
    if bit (s.wiring l) 0 then s.setLoom { s.loom with closeQ := s.loom.closeQ ++ [(l, tag)] }
    else s.modSlot l tag (fun y => { y with piped := true, replaced := [] })

/-- The slot is released (R189). -/
def State.releaseSlot (s : State) (l tag : Nat) : State :=
  let s := s.modSlot l tag (fun y => { y with released := some s.now })
  let s := s.writeHeader l tag
  s.putPair (R.LOOM_Ln_RELEASED_LO l) tag

/-- One look at one set of a slot (R187). -/
def State.trySet (s : State) (l tag : Nat) (n : Nat × List Byte) : State :=
  match (s.lat l).slot tag with
  | none => s
  | some x =>
    match smFind x.sets n.1 with
    | none => s
    | some z =>
      let now := s.now
      let inst := s.instant l tag
      if z.closed.isSome then s
      else if inst ≤ now ∧ z.early ∧ (s.requiredThreads inst l n.1 n.2).all (fun t => s.settled x t.1 t.2) then s.closeSet l tag n.1 n.2 0
      else if z.deadline ≤ now then s.closeSet l tag n.1 n.2 1
      else s

/-- One look at one slot: its sets, then its close and its release, each in slot order (R189). -/
def State.trySlotClose (s : State) (l tag : Nat) : State :=
  match (s.lat l).slot tag with
  | none => s
  | some x =>
    if !x.opened ∨ x.released.isSome then s
    else
      let sets := s.liveSets l x
      let s := sets.foldl (fun s n => s.trySet l tag n) s
      let cur (s : State) : SlotSt := ((s.lat l).slot tag).getD x
      let earlierOpen (s : State) (p : SlotSt → Bool) : Bool := (s.lat l).slots.any (fun y => decide (y.tag < tag) && y.opened && p y)
      let s := if (cur s).closed.isNone ∧ !earlierOpen s (fun y => y.closed.isNone) ∧
          sets.all (fun n => !lsGate n.2 || (cur s).setClosed n.1) ∧ s.instant l tag ≤ s.now then s.closeSlot l tag else s
      if (cur s).closed.isSome ∧ (cur s).released.isNone ∧ !earlierOpen s (fun y => y.released.isNone) ∧
          sets.all (fun n => (cur s).setClosed n.1) then s.releaseSlot l tag else s

/-- Close times of a slot's sets. -/
def SlotSt.shutTimes (y : SlotSt) : SMap Nat := y.sets.filterMap (fun z => z.2.closed.map (fun c => (z.1, c.1)))

/-- Slots that are neither waiting nor in history leave the list, the newest closed one apart, which the next may be filled from. -/
def State.pruneSlots (s : State) (l : Nat) : State :=
  let x := s.lat l
  let newest (y : SlotSt) : Bool := x.slots.all (fun z => z.closed.isNone || decide (z.tag ≤ y.tag))
  let stays (y : SlotSt) : Bool := y.released.isNone || !y.passed || s.inHistory l y || newest y
  s.putLat l { x with slots := x.slots.filter stays, shut := (x.slots.filter (fun y => !stays y)).foldl (fun m y => smPut m y.tag y.shutTimes) x.shut }

/-- `LOOM_Ln_OPEN` (R203). -/
def State.showLattice (s : State) (l : Nat) : State :=
  let opened := ((s.lat l).slots.filter (fun y => y.opened && y.closed.isNone)).length
  let back := (s.loom.closeQ.filter (fun e => e.1 == l)).length
  s.putReg (R.LOOM_Ln_OPEN l) (2 ^ 16 * (min back 255) + min opened 511)

/-- Every open set of a slot closes at once as FORCED (R187, R202). Of a slot that has closed already, what is forced is recorded now and
its header written anew. -/
def State.forceSlot (s : State) (l tag : Nat) : State :=
  let s := s.modSlot l tag (fun y => { y with forced := true })
  match (s.lat l).slot tag with
  | none => s
  | some x =>
    let s := (s.liveSets l x).foldl (fun s n =>
      if ((((s.lat l).slot tag).getD x).setClosed n.1) then s else s.closeSet l tag n.1 n.2 1) s
    if x.closed.isSome then (s.recordForced l tag).writeHeader l tag else s

/-- Slots are skipped (R202, R287): the open ones close as FORCED after a step, and the lattice resumes at the first slot at or after
now. What came early for a skipped slot is dropped with it: that slot never opens. -/
def State.skipSlots (s : State) (l from' : Nat) (force : Bool) : State :=
  let rate := s.rate l
  let goal := firstSlotAt rate s.now
  let k := slotNumber rate goal - slotNumber rate from'
  let open' := (s.lat l).slots.filter (fun y => y.opened && y.closed.isNone)
  let s := if force then open'.foldl (fun s y => s.forceSlot l y.tag) s else s
  let s := s.putLat l { s.lat l with
    next := some goal, gap := true, paused := false, stepped := false
    slots := (s.lat l).slots.filter (fun y => y.opened || decide (goal ≤ y.tag)) }
  if k = 0 then s
  else
    ((s.count (R.LOOM_Ln_GAP_SLOTS l) k).event E.LOOM_SLOT_GAP l (leBytes 1 l ++ leBytes 8 from' ++ leBytes 4 (sat32 k))).raise I.LOOM_SLOT_GAP

/-- A forward step of O slot periods or more is dealt with (R202). -/
def State.takeStep (s : State) (l : Nat) : State :=
  let x := s.lat l
  if !x.stepped then s
  else match x.next with
    | some tag => s.skipSlots l tag true
    | none => s.putLat l { x with stepped := false }

/-- Every open set and slot of a lattice is looked at, in slot order. -/
def State.evalLattice (s : State) (l : Nat) : State :=
  if s.domain pdLoom ≠ 0 then s
  else
    let s := s.takeStep l
    (((s.lat l).slots.map (·.tag)).foldl (fun s tag => s.trySlotClose l tag) s).showLattice l

/-! Learned latency (R190, R191). -/

/-- edge(b) = round(2^(16 + b / 4)). -/
def histEdge (b : Nat) : Nat := (Fp.isqrt (Fp.isqrt (2 ^ (68 + b))) + 1) / 2

/-- The bin of a latency. -/
def histBin (x : Int) : Nat :=
  if x < 65536 then 0
  else ((List.range 63).find? (fun b => decide (x < histEdge b))).getD 63

/-- Stacks address of a stream's bin. -/
def histAddrOf (sid b : Nat) : Nat := 0x03000000 + 128 * sid + 2 * b

def State.histBins (s : State) (sid : Nat) : List Nat := (List.range 64).map (fun b => s.stkNat (histAddrOf sid b) 2)

/-- A quantile of a stream in ns, or unknown, and the total (R190). -/
def State.quantileOf (s : State) (sid level : Nat) : Option Nat × Nat :=
  let bins := s.histBins sid
  let total := bins.foldl (· + ·) 0
  if total < s.fld F.LOOM_HIST_CFG_MIN_SAMPLES then (none, total)
  else
    let q := s.regN (R.LOOM_QUANTn level) % 65536
    let target := (q * total + 65535) / 65536
    let cum (b : Nat) : Nat := (bins.take (b + 1)).foldl (· + ·) 0
    let b := ((List.range 64).find? (fun b => decide (target ≤ cum b))).getD 63
    if b = 63 then (none, total)
    else
      let lo := if b = 0 then 0 else histEdge (b - 1)
      let before := if b = 0 then 0 else cum (b - 1)
      (some (lo + (histEdge b - lo) * (target - before) / max 1 (bins.getD b 1)), total)

/-- One latency sample of a stream (R190). -/
def State.histSample (s : State) (sid : Nat) (x : Int) : State :=
  let a := histAddrOf sid (histBin x)
  let s := s.stkStore a (leBytes 2 (s.stkNat a 2 + 1))
  if 2 ^ s.fld F.LOOM_HIST_CFG_CEIL ≤ s.stkNat a 2 then
    (List.range 64).foldl (fun s b => s.stkStore (histAddrOf sid b) (leBytes 2 (s.stkNat (histAddrOf sid b) 2 / 2))) s
  else s

/-- When Reed forms a thread after its input, in ns (R149, R165, R168): what ranks the markers of R190. -/
def State.formLatency (s : State) (tid : Nat) (e : List Byte) : Nat :=
  if catOrigin e = 0 then
    let rate := max 1 (stRate (s.stream (catSid e)))
    let l := if catType e = 3 then 0 else match catKernel e with
      | 0 => 0
      | 1 => if bit (s.regN (R.REED_PREDICT_SETn (catSet e / 32))) (catSet e % 32) then 0 else 1
      | 2 => 2
      | _ => 16
    1000000000 * l / rate
  else
    let sr := max 1 (((s.widStream (catBlock e)).map (fun x => stRate x.2)).getD 1)
    let body := s.cfg secReed
    if catOrigin e = 1 then
      match (reedEstimators body).find? (fun x => esWid x == catBlock e) with
      | some x => (1000000000 * (estHalf (esM x) sr (esF0 x) (max 1 (s.rate 3)))) / sr + 20000
      | none => 0
    else
      match (reedDetectors body).find? (fun x => deTid x == tid) with
      | some x => (1000000000 * (if deKind x = 2 then 16 else 1)) / sr
      | none => 0

/-- The marker thread of a stream on a lattice (R190). -/
def State.marker (s : State) (instant sid l : Nat) : Option Nat :=
  let ts := (s.catalogue instant).filter (fun e => catEmit e.2 && catLattice e.2 == l && catOrigin e.2 != 3 && s.streamOf e.2 == some sid)
  (ts.foldl (fun (m : Option (Nat × Nat)) e =>
    let f := s.formLatency e.1 e.2
    match m with
    | some (_, g) => if g ≤ f then some (e.1, f) else m
    | none => some (e.1, f)) none).map (·.1)

/-! Lattices start and stop (R176). -/

/-- The lattices with capacity. -/
def State.usedLattices (s : State) : List Nat := (List.range 4).filter (fun l => s.capacity l != 0)

def State.showRunning (s : State) : State :=
  s.putFld F.LOOM_STATUS_RUNNING (bitsOf 4 (fun l => (s.lat l).next.isSome))

/-- Lattices start at an instant of the active base: the first slot is the first at or after it. Slots of an earlier run stay until they
are released and passed on, and in history while their time base is still the active one. -/
def State.startLattices (s : State) (at' : Nat) : State :=
  (s.usedLattices.foldl (fun s l =>
    let f := firstSlotAt (s.rate l) at'
    let x := s.lat l
    s.putLat l { next := some f, first := f, last := x.last,
                 slots := x.slots.filter (fun y => y.opened && (y.test == s.onTest || !y.piped || !y.passed)) }) s).showRunning

/-- No later slot opens. -/
def State.stopLattices (s : State) : State :=
  ((List.range 4).foldl (fun s l => s.putLat l { s.lat l with next := none }) s).showRunning

/-! Weft indices (R178). -/

/-- Indices in increasing TID order to the VALID threads of each lattice, at a draft load. -/
def State.assignWeft (s : State) : State :=
  let cat := tableOf (s.cfg secCatalogue) 3
  let table (l : Nat) : SMap (Nat × Nat) :=
    (((cat.filter (fun e => catValid e.2 && catLattice e.2 == l)).map (·.1)).zipIdx).map (fun x => (x.1, x.2, 0))
  s.setLoom { s.loom with weft := (List.range 4).map (fun l => (l, table l)), freed := [], past := [], gone := [] }

/-- The lowest index of a lattice that is unused, and free for at least D + O slots at slot number `n`. -/
def State.freeIndex (s : State) (l n : Nat) : Option Nat :=
  let used := (smGet [] s.loom.weft l).map (fun e => e.2.1)
  let freed := smGet [] s.loom.freed l
  (List.range (s.capacity l)).find? (fun i => !used.contains i && (match smFind freed i with
    | some f => decide (f + s.depth l + s.openSlots l ≤ n)
    | none => true))

/-- The catalogue changes from `old` to `new` at the slot tag S of L0: withdrawn threads free their indices, added ones take theirs.
The answer is none where a lattice has no index left. -/
def State.changeWeft (s : State) (old new : List (Nat × List Byte)) (tag : Nat) : Option State :=
  let at' := s.instant 0 tag
  let valid (c : List (Nat × List Byte)) (l : Nat) : List Nat := (c.filter (fun e => catValid e.2 && catLattice e.2 == l)).map (·.1)
  let emit (c : List (Nat × List Byte)) (t : Nat) : Bool := c.any (fun e => e.1 == t && catEmit e.2)
  let goneNow := (old.filter (fun e => catEmit e.2 && !emit new e.1)).map (·.1)
  let gone := goneNow.foldl (fun g t => smPut g t tag) (s.loom.gone.filter (fun g => !emit new g.1))
  let s := s.setLoom { s.loom with gone := gone }
  s.usedLattices.foldl (fun (o : Option State) l =>
    match o with
    | none => none
    | some s =>
      let n := slotNumber (s.rate l) (firstSlotAt (s.rate l) at')
      let away := (valid old l).filter (fun t => !(valid new l).contains t)
      let come := (valid new l).filter (fun t => (smFind (smGet [] s.loom.weft l) t).isNone || away.contains t)
      let recent := (smGet [] s.loom.past l).filter (fun p => decide (n < p.2.2.2 + s.depth l + s.openSlots l))
      let s := s.setLoom { s.loom with past := smPut s.loom.past l recent }
      let s := away.foldl (fun s t =>
        match smFind (smGet [] s.loom.weft l) t with
        | some (i, from') => s.setLoom { s.loom with
            weft := smMod [] s.loom.weft l (fun w => smDel w t)
            freed := smMod [] s.loom.freed l (fun f => smPut f i n)
            past := smMod [] s.loom.past l (fun p => (t, i, from', n) :: p) }
        | none => s) s
      come.foldl (fun (o : Option State) t =>
        match o with
        | none => none
        | some s =>
          match s.freeIndex l n with
          | some i => some (s.setLoom { s.loom with
              weft := smMod [] s.loom.weft l (fun w => smPut w t (i, n))
              freed := smMod [] s.loom.freed l (fun f => smDel f i) })
          | none => none) (some s)) (some s)

/-! Registers from the configuration (R10). -/

/-- `LOOM_Ln_CFG` and `LOOM_Ln_CAPACITY`, at a draft load. -/
def State.showLattices (s : State) : State :=
  (List.range 4).foldl (fun s l =>
    (s.putReg (R.LOOM_Ln_CFG l) (2 ^ 22 * (s.rate l) + 2 ^ 13 * (s.openSlots l % 512) + s.depth l % 8192)).putReg (R.LOOM_Ln_CAPACITY l) (s.capacity l)) s

/-- The set registers, at a draft load and at every switch (class MODE). -/
def State.showSets (s : State) : State :=
  let body := s.cfg secLoom
  (List.range 256).foldl (fun s n =>
    let e := setEntry body n
    let fl := leAt e 1 1
    let w := (if bit fl 0 then 2 ^ 31 else 0) + (if s.shedSet n then 2 ^ 30 else 0) + (if bit fl 1 then 2 ^ 29 else 0) +
      (if bit fl 3 then 2 ^ 28 else 0) + 2 ^ 26 * (leAt e 2 1 % 4) + 2 ^ 24 * (leAt e 0 1 % 4) + 2 ^ 22 * (leAt e 3 1 % 4) +
      (if bit fl 4 then 2 ^ 21 else 0) + leAt e 0x10 2 % 256
    (((s.putReg (R.LOOM_SETn_CFG n) w).putReg (R.LOOM_SETn_WAIT_MIN n) (leAt e 4 4)).putReg (R.LOOM_SETn_WAIT_MAX n) (leAt e 8 4)).putReg
      (R.LOOM_SETn_GUARD n) (leAt e 0xC 4)) s

end Sys2Proof.Machine
end

