-- ==== Sys2Proof/Machine/PairOps.lean ====
section
/-!
DEFINITION. Sys2Proof/Machine/PairOps.lean: the mirror link's messages (R304 to R306): HELLO, FULL and what they carry, the link
coming up and going down.
-/

namespace Sys2Proof.Machine

/-- The running base's DRAFT_ID. -/
def State.draftId (s : State) : Nat := s.pairAt R.DRAFT_ID_LO

/-- The mirror link carries messages: a pair draft is loaded and its link is UP (R304, R330). -/
def State.mirrorReady (s : State) : Bool := s.pairMode != 0 && s.linkState (s.mirrorLink % 4) == 3

/-- HELLO (R304). -/
def State.sendHello (s : State) : State :=
  if !s.mirrorReady then s
  else
    let c := leBytes 1 (s.fld F.PAIR_STATUS_MODID) ++ leBytes 8 s.draftId ++ leBytes 1 s.pairMode ++ leBytes 1 (s.fld F.PAIR_CLAIM_BASE) ++
      leBytes 1 (s.fld F.PAIR_STATUS_HOLDING)
    let s := s.setPair { s.pair with helloSent := s.bases.mono }
    let s := s.setSlv { s.slv with mirrorQ := s.slv.mirrorQ ++ [(0, c)] }
    (s.count R.PAIR_MIRROR_SENT).emit (.mirror 0 c)

/-! FULL (R305): counts, then every LATCH, GOOSE and CAPT item and the last INTENT of every stream. -/

/-- A CAPT item: region, arm state, trigger slot tag, T_trig (R379, log 23). -/
def captItem (region st tag trig : Nat) : List Byte := leBytes 1 region ++ leBytes 1 st ++ leBytes 8 tag ++ leBytes 8 trig

/-- Bytes of a CAPT item and of an INTENT item. -/
abbrev captItemSize : Nat := 18
abbrev intentItemSize : Nat := 9

/-- The CAPT item of a region as it stands. -/
def State.captItemOf (s : State) (r : Nat) : List Byte :=
  let x := smGet {} s.capt.regions r
  match x.rec' with
  | some o => captItem r x.st o.trigTag o.trig
  | none => captItem r x.st 0 0

def State.fullContent (s : State) : List Byte :=
  let latches := (s.leadLane.points.filter (fun p => p.2.latched)).map (fun p => leBytes 2 p.1 ++ leBytes 1 1 ++ leBytes 8 p.2.tag)
  let goose := s.vote.goose.map (fun g => leBytes 1 g.1 ++ leBytes 4 g.2.stNum)
  let capt := s.capt.regions.map (fun r => s.captItemOf r.1)
  let intents := ((List.range 64).filter (fun n => s.pairAt (R.PAIR_OSn_INTENT_LO n) != 0)).map (fun n =>
    leBytes 1 n ++ leBytes 8 (s.pairAt (R.PAIR_OSn_INTENT_LO n)))
  leBytes 2 latches.length ++ leBytes 2 goose.length ++ leBytes 2 capt.length ++ leBytes 2 intents.length ++
    latches.flatten ++ goose.flatten ++ capt.flatten ++ intents.flatten

/-- The holder sends FULL. -/
def State.sendFull (s : State) : State := s.mirrorSend 8 s.fullContent

/-- A FULL waits to be sent (R310). -/
def State.fullBusy (s : State) : Bool := s.slv.mirrorQ.any (fun m => m.1 == 8)

/-- The mirror link is up: its Selvedge link is UP and HELLO has been exchanged. -/
def State.mirrorUp (s : State) : State :=
  if s.isSet F.PAIR_STATUS_MIRROR_UP then s
  else
    let s := s.putFld F.PAIR_STATUS_MIRROR_UP 1
    let other := match s.pair.hello with | some (_, d, _, _, _) => d | none => 0
    let s := (s.event E.PAIR_MIRROR_UP s.mirrorLink (leBytes 1 s.mirrorLink ++ leBytes 4 (other % 2 ^ 32))).raise I.PAIR_MIRROR_CHANGE
    s.sendFull

/-- State messages are adopted while both DRAFT_IDs are equal, by the module that does not hold (R304, R305). -/
def State.adopts (s : State) : Bool :=
  s.isSet F.PAIR_STATUS_MIRROR_UP && !s.isSet F.PAIR_STATUS_DRAFT_MISMATCH && !s.isSet F.PAIR_STATUS_HOLDING

end Sys2Proof.Machine
end

