-- ==== Sys2Proof/Machine/SlvOps.lean ====
section
/-!
DEFINITION. Sys2Proof/Machine/SlvOps.lean: the sending side of the Selvedge links (R312 to R324): cells, credits, sequence and retry,
a link starting and going down, own slots forwarded.
-/

namespace Sys2Proof.Machine

/-! Links. -/

/-- The role the peer must have. -/
def peerRole (r : Nat) : Nat := match r with | 1 => 2 | 2 => 1 | x => x

def State.deviceId (s : State) : Nat := leAt (s.cfg secSlv) 0 2
def State.isRoot (s : State) : Bool := bit (leAt (s.cfg secSlv) 2 1) 0

/-- Links of the given roles that are UP. -/
def State.linksUp (s : State) (roles : List Nat) : List Nat :=
  (List.range 4).filter (fun n => roles.contains (s.role n) && s.linkState n == 3)

/-- A link goes DOWN (R319, R322): cause 1 SILENT, 2 RETRY_FAIL, 3 RANGE, 4 COMMAND, 5 LOCK_LOST. What waits on it is lost; SILENT
and RETRY_FAIL are lasting faults, and the third within 60 s holds the link. -/
def State.linkDown (s : State) (n cause : Nat) : State :=
  let s := s.linkLost n cause
  if cause = 1 ∨ cause = 2 then s.lasting fcLinkCell (element pdSlv n) else s

/-! Cells. -/

/-- The 128 bytes of a cell (R315). -/
def cellBytes (c : SlvCell) (retry : Bool) (seq ack credit : Nat) : List Byte :=
  let b := leBytes 1 c.ty ++ leBytes 1 (c.flags ||| (if retry then 1 else 0)) ++ leBytes 2 seq ++ leBytes 2 ack ++ leBytes 2 credit ++
    leBytes 2 c.origin ++ leBytes 1 c.hops ++ leBytes 1 c.aux1 ++ leBytes 4 c.aux2 ++ leBytes 8 c.tag ++ pad 96 c.body ++ leBytes 4 0
  b ++ leBytes 4 (crc32c (ones32 ^^^ seq) b)

/-- A cell leaves on a link. -/
def State.putCell (s : State) (n : Nat) (c : SlvCell) (retry : Bool) (seq : Nat) : State :=
  let x := s.link n
  let s := s.emit (.cell n (cellBytes c retry seq ((x.rxNext + 65535) % 65536) (x.freed % 65536)))
  (s.putLink n { x with lastTx := s.bases.mono }).count (R.SLV_LINKn_TX_CELLS n)

/-- An unsequenced cell (R316). -/
def State.putPlain (s : State) (n ty aux1 aux2 : Nat) (body : List Byte) : State :=
  s.putCell n { ty := ty, origin := s.deviceId, hops := 1, aux1 := aux1, aux2 := aux2, body := body } false 0

/-- TRAIN (R316, R318). -/
def State.putTrain (s : State) (n : Nat) : State :=
  s.putPlain n 1 (s.role n) ((if 8 ≤ (s.link n).trains then 1 else 0) + 256) (leBytes 8 s.draftId)

/-- HEARTBEAT (R316, R319). -/
def State.putBeat (s : State) (n : Nat) : State :=
  let x := s.link n
  let (e, h) := match x.echo with | some (st, at') => (st, s.bases.mono - at') | none => (0, 0)
  let s := s.putPlain n 2 0 0 (leBytes 8 s.bases.mono ++ leBytes 8 e ++ leBytes 4 h)
  s.putLink n { s.link n with lastBeat := s.bases.mono }

/-- May a sequenced cell be sent for the first time (R320, R321)? -/
def SlvLink.canSend (x : SlvLink) : Bool := decide ((x.sent + 65536 - x.credit) % 65536 < 128) && decide (x.unacked.length < 64)

/-- AGE of a SLOT_HEAD as it is sent now (R327): an own head from its slot instant, one passed on or sent again from the age it
had. -/
def State.headAge (s : State) (c : SlvCell) : Nat :=
  match c.age with
  | some (a, m) => a + (s.bases.mono - m)
  | none => s.now - s.instant c.aux1 c.tag

/-- A SLOT_HEAD with its AGE; other cells are as they are. -/
def State.aged (s : State) (c : SlvCell) : SlvCell :=
  if c.ty = 0x10 then
    let a := s.headAge c
    { c with body := leBytes 8 a ++ (pad 96 c.body).drop 8, age := some (a, s.bases.mono) }
  else c

/-- A receive cell is freed (R320). -/
def State.freeCell (s : State) (o : Option Nat) : State :=
  match o with
  | some k => let x := s.link k; s.putLink k { x with freed := (x.freed + 1) % 65536 }
  | none => s

/-- A sequenced cell's first transmission. -/
def State.putSequenced (s : State) (n : Nat) (c : SlvCell) : State :=
  let c := s.aged c
  let x := s.link n
  let s := s.putLink n { x with
    txSeq := (x.txSeq + 1) % 65536
    sent := (x.sent + 1) % 65536
    unacked := x.unacked ++ [{ seq := x.txSeq, cell := { c with frees := none }, at' := s.bases.mono }] }
  (s.putCell n c false x.txSeq).freeCell c.frees

/-- A retransmission (R321). -/
def State.putAgain (s : State) (n : Nat) (u : SlvSent) : State :=
  let x := s.link n
  let s := s.putLink n { x with unacked := x.unacked.map (fun v =>
    if v.seq = u.seq then { v with asked := false, again := some s.bases.mono } else v) }
  s.putCell n (s.aged u.cell) true u.seq

/-! What a transmitter sends next (R323). -/

/-- The next part of the pair message at the front; an INTENT goes ahead of messages not begun. -/
def State.mirrorCell (s : State) : Option (SlvCell × State) :=
  let q := s.slv.mirrorQ
  let q := if s.slv.mirrorPart = 0 then
    (match q.find? (fun m => m.1 == 1) with
     | some i => i :: (q.erase i)
     | none => q) else q
  match q with
  | [] => none
  | (kind, content) :: r =>
    let k := s.slv.mirrorPart
    let last := decide (content.length ≤ 96 * (k + 1))
    let c : SlvCell := { ty := 0x30, origin := s.deviceId, hops := 1, aux1 := kind
                         aux2 := k + (if last then 2 ^ 31 else 0), body := slice content (96 * k) 96 }
    some (c, s.setSlv { s.slv with mirrorQ := if last then r else q, mirrorPart := if last then 0 else k + 1 })

/-- Own slots: the next cell of the first, which is then begun. -/
def State.ownCell (s : State) (n : Nat) : Option (SlvCell × State) :=
  let x := s.link n
  match x.own with
  | [] => none
  | w :: r =>
    match w.cells with
    | [] => none
    | c :: cs =>
      let c := if w.begun then c else { c with flags := if x.skipped then 2 else 0 }
      let s := s.putLink n { x with
        own := if cs.isEmpty then r else { w with begun := true, cells := cs } :: r
        skipped := if w.begun then x.skipped else false
        turn := 4 }
      some (c, if cs.isEmpty then s.count R.SLV_SLOTS_FWD else s)

/-- The next cell to pass on from a link of arrival. -/
def State.passCell (s : State) (n k : Nat) : Option (SlvCell × State) :=
  let x := s.link n
  match smGet [] x.pass k with
  | [] => none
  | c :: r => some (c, s.putLink n { x with pass := smPut x.pass k r, turn := k })

/-- Slot cells: one from each source in turn. -/
def State.slotCell (s : State) (n : Nat) : Option (SlvCell × State) :=
  let t := (s.link n).turn
  ([1, 2, 3, 4, 5].map (fun i => (t + i) % 5)).findSome? (fun k => if k = 4 then s.ownCell n else s.passCell n k)

/-- CELL_TRANSMIT: unsequenced cells, retransmissions, INTENT, other pair messages, ARM and FIRE, slot cells. -/
def State.cellTransmit (s : State) (n : Nat) : State :=
  let x := s.link n
  let st := s.linkState n
  if 4 ≤ n ∨ s.domain pdSlv ≠ 0 then s
  else if st = 1 then (if x.lock ∧ x.lastTx + 1000 ≤ s.bases.mono then s.putTrain n else s)
  else if st ≠ 3 then s
  else if x.nak then
    ((s.putLink n { x with nak := false }).putPlain n 3 0 x.rxNext []).count (R.SLV_LINKn_NAK_SENT n)
  else
    match x.unacked.find? (fun u => u.asked) with
    | some u => s.putAgain n u
    | none =>
      if !x.canSend then s
      else if s.role n = 4 then
        match s.mirrorCell with
        | some (c, s) => s.putSequenced n c
        | none => s
      else
        match x.arms with
        | c :: r => (s.putLink n { x with arms := r }).putSequenced n c
        | [] =>
          match s.slotCell n with
          | some (c, s) => s.putSequenced n c
          | none => s

/-! Own slots (R324). -/

/-- The forward list of a lattice. -/
def fwdList (body : List Byte) (l : Nat) : List Nat :=
  let counts := (List.range 4).map (fun i => leAt body (0x18 + 4 * i) 4 % 2 ^ 18)
  let start := 0x30 + 4 * (counts.take l).foldl (· + ·) 0
  (List.range (counts.getD l 0)).map (fun i => leAt body (start + 4 * i) 4 % 2 ^ 17)

/-- A SLOT_DATA entry (R317). -/
def slvEntry (tid word q tag : Nat) : List Byte :=
  leBytes 8 word ++ leBytes 4 tid ++ leBytes 2 q ++ leBytes 1 (checkCode word q tid tag) ++ [0]

/-- A slot header's FLAGS (R181). -/
def SlotSt.headerFlags (x : SlotSt) : Nat := leAt (slotHeader 0 x) 0x28 2

/-- The entries of a slot in forward-list order. -/
def State.slotEntries (s : State) (l tag : Nat) : List (List Byte) :=
  (fwdList (s.cfg secSlv) l).map (fun tid => let v := s.readSlot l tag tid; slvEntry tid v.1 v.2 tag)

/-- Groups of six entries with the index of the first. -/
def sixes : Nat → Nat → List (List Byte) → List (Nat × List (List Byte))
  | 0, _, _ => []
  | n + 1, i, l => if l.isEmpty then [] else (i, l.take 6) :: sixes n (i + 6) (l.drop 6)

/-- The cells of a slot. -/
def State.slotCells (s : State) (l tag : Nat) : List SlvCell :=
  let es := s.slotEntries l tag
  let x := ((s.lat l).slot tag).getD { tag := tag }
  let head : SlvCell := { ty := 0x10, origin := s.deviceId, hops := 1, aux1 := l, aux2 := es.length, tag := tag
                          body := leBytes 8 0 ++ leBytes 2 x.headerFlags ++ leBytes 2 x.mode }
  head :: (sixes es.length 0 es).map (fun g =>
    { ty := 0x11, origin := s.deviceId, hops := 1, aux1 := l, aux2 := g.1, tag := tag, body := g.2.flatten })

/-- The oldest waiting slot not yet begun on a link is skipped whole. -/
def State.skipOwn (s : State) (n : Nat) : State :=
  let x := s.link n
  match x.own.find? (fun w => !w.begun) with
  | none => s
  | some w =>
    let s := s.putLink n { x with own := x.own.erase w, skipped := true }
    ((s.count R.SLV_SLOT_SKIPPED).event E.SLV_SLOT_SKIPPED w.lattice (leBytes 1 w.lattice ++ leBytes 8 w.tag)).raise I.SLV_SLOT_SKIPPED

/-- A packet for the ROOT's queue (R326). -/
def rxPacket (tag origin lattice kind index age flags hops link : Nat) (entries : List Byte) : List Byte :=
  leBytes 8 tag ++ leBytes 2 origin ++ leBytes 1 lattice ++ leBytes 1 kind ++ leBytes 4 index ++ leBytes 8 age ++
    leBytes 2 flags ++ leBytes 1 hops ++ leBytes 1 link ++ leBytes 4 0 ++ entries

/-- A packet to the delivery queue; the answer says whether it was taken. -/
def State.toRx (s : State) (p : List Byte) : State × Bool :=
  let r := s.commit (s.fld F.SLV_QUEUES_RX_QUEUE) p
  if r.2 then (r.1.endBurst E.SLV_RX_QFULL noSource, true)
  else (((r.1.count R.SLV_RX_QFULL).burst E.SLV_RX_QFULL noSource [] 1).raise I.SLV_RX_QFULL, false)

/-- A ROOT delivers its own slot. -/
def State.deliverOwn (s : State) (l tag : Nat) (cells : List SlvCell) : State :=
  match cells with
  | [] => s
  | h :: r =>
    let age := s.now - s.instant l tag
    let p := s.toRx (rxPacket tag s.deviceId l 0 h.aux2 age (leAt h.body 8 2) 0 4 [])
    if p.2 then r.foldl (fun s c => (s.toRx (rxPacket tag s.deviceId l 1 c.aux2 0 0 0 4 c.body)).1) (p.1.count R.SLV_SLOTS_FWD)
    else p.1

/-- One released slot is forwarded. -/
def State.forwardOne (s : State) (l tag : Nat) : State :=
  let cells := s.slotCells l tag
  if s.isRoot then s.deliverOwn l tag cells
  else
    let out := (List.range 4).filter (fun n => s.role n == 1 || s.role n == 3)
    let up := out.filter (fun n => s.linkState n == 3)
    if up.isEmpty then
      let s := out.foldl (fun s n => s.putLink n { s.link n with skipped := true }) s
      ((s.count R.SLV_SLOT_SKIPPED).event E.SLV_SLOT_SKIPPED l (leBytes 1 l ++ leBytes 8 tag)).raise I.SLV_SLOT_SKIPPED
    else
      up.foldl (fun s n =>
        let x := s.link n
        let s := s.putLink n { x with own := x.own ++ [{ lattice := l, tag := tag, cells := cells }] }
        if s.regN R.SLV_FWD_BACKLOG < (s.link n).own.length then s.skipOwn n else s) s

/-- A released slot of a lattice wired to Selvedge (R324, R330): a module that begins to hold forwards from the slot released
immediately before. -/
def State.forwardSlot (s : State) (l tag : Nat) : State :=
  if !bit (s.wiring l) 2 ∨ s.domain pdSlv ≠ 0 then s
  else if s.holds then
    let s := match smFind s.slv.behind l with
      | some b => (s.setSlv { s.slv with behind := smDel s.slv.behind l }).forwardOne l b
      | none => s
    s.forwardOne l tag
  else s.setSlv { s.slv with behind := smPut s.slv.behind l tag }

/-! ARM and FIRE cells (R329). -/

/-- A cell is queued on every UP, DOWN and RING link that is UP but the one it came from. -/
def State.spread (s : State) (c : SlvCell) (from' : Option Nat) : State :=
  ((s.linksUp [1, 2, 3]).filter (fun n => some n != from')).foldl (fun s n =>
    let x := s.link n
    s.putLink n { x with arms := x.arms ++ [c] }) s

end Sys2Proof.Machine
end

