-- ==== Sys2Proof/Machine/CaptOps.lean ====
section
/-!
DEFINITION. Sys2Proof/Machine/CaptOps.lean: capture regions (R364 to R381): the CAPT section, pages and entries, the store of an armed
region, triggers, records and their headers.
-/

namespace Sys2Proof.Machine

/-! The CAPT section (R364). -/

def State.capEntry (s : State) (r : Nat) : List Byte := slice (s.cfg secCapt) (64 * r) 64
def ceFlag (e : List Byte) (i : Nat) : Bool := bit (leAt e 1 1) i
def ceEnabled (e : List Byte) : Bool := !e.isEmpty && ceFlag e 0
def ceLattice (e : List Byte) : Nat := leAt e 2 1 % 4
def ceGroup (e : List Byte) : Nat := leAt e 3 1 % 16
def cePre (e : List Byte) : Nat := leAt e 4 2
def cePost (e : List Byte) : Nat := leAt e 6 2
def ceKey (e : List Byte) : Nat := max 1 (leAt e 8 2)
def ceChannels (e : List Byte) : Nat := leAt e 0xA 2
def ceWids (e : List Byte) : Nat := leAt e 0xC 2
def ceWait (e : List Byte) : Nat := leAt e 0xE 2
def cePatterns (e : List Byte) : List Nat := ((List.range 4).map (fun i => leAt e (0x10 + i) 1)).filter (fun p => decide (p < 64))
def ceList (e : List Byte) : Nat := leAt e 0x14 4

/-- The channels of a region: TID, DB_A, DB_B. -/
def State.capChannels (s : State) (e : List Byte) : List (Nat × Nat × Nat) :=
  let b := s.cfg secCapt
  (List.range (ceChannels e)).map (fun i =>
    let o := ceList e + 16 * i
    (leAt b o 4 % 2 ^ 17, leAt b (o + 4) 4, leAt b (o + 8) 4))

/-- The WIDs of a region. -/
def State.capWids (s : State) (e : List Byte) : List Nat :=
  let b := s.cfg secCapt
  (List.range (ceWids e)).map (fun i => leAt b (ceList e + 16 * ceChannels e + 4 * i) 4 % 4096)

/-- A WID's sampling rate. -/
def State.widRate (s : State) (wid : Nat) : Nat := max 1 (((s.widStream wid).map (fun x => stRate x.2)).getD 1)

/-! Regions. -/

def State.capReg (s : State) (r : Nat) : CaptReg := smGet {} s.capt.regions r

/-- Stacks base and pages of a region (R365). -/
def State.capBase (s : State) (r : Nat) : Nat := s.regionStart (26 + r)
def State.capPages (s : State) (r : Nat) : Nat := (s.regionSize (26 + r) - 32768) / 2048
def State.pageAddr (s : State) (r p : Nat) : Nat := s.capBase r + 32768 + 2048 * p

/-- Pages in use. -/
def CaptReg.used (x : CaptReg) : Nat :=
  x.segs.foldl (fun a g => a + g.pages.length) 0 + x.held.foldl (fun a h => a + h.pages.length) 0

/-- Put a region; its registers and the summary follow (R382). -/
def State.putCapt (s : State) (r : Nat) (x : CaptReg) : State :=
  let s := s.setCapt { s.capt with regions := smPut s.capt.regions r x }
  let s := s.putReg (R.CAPT_Rr_STATE r) (2 ^ 16 * x.held.length + (x.held.filter (·.locked)).length * 16 + x.st)
  let s := s.putReg (R.CAPT_Rr_FREE r) (s.capPages r - x.used)
  let s := s.putReg (R.CAPT_Rr_OLDEST r) ((x.held.head?.map (·.seq)).getD 0)
  let set (w : Nat) (v : Bool) : Nat := if v then setBit w r else clrBit w r
  let s := s.putFld F.CAPT_STATUS_ARMED (set (s.fld F.CAPT_STATUS_ARMED) (x.st == 2))
  s.putFld F.CAPT_STATUS_BUSY (set (s.fld F.CAPT_STATUS_BUSY) (decide (3 ≤ x.st ∧ x.st ≤ 5)))

/-- A region enters a state and tells the partner (R379). -/
def State.captState (s : State) (r st : Nat) : State :=
  let s := s.putCapt r { s.capReg r with st := st, since := s.bases.mono }
  s.mirrorSend 7 (s.captItemOf r)

/-! The worst case (R370). -/

/-- B_slot. -/
def State.slotBytes (s : State) (e : List Byte) : Nat :=
  let rate := max 1 (s.rate (ceLattice e))
  16 + 16 * ceChannels e + (s.capWids e).foldl (fun a w => a + 32 + 8 * ((s.widRate w + rate - 1) / rate)) 0

/-- W of POST_SLOTS + KEY_SLOTS slots, in pages. -/
def State.worstPages (s : State) (e : List Byte) : Nat := ((cePost e + ceKey e) * s.slotBytes e + 2015) / 2016

/-- F in pages: free, and with OVERWRITE those of unlocked records. -/
def State.roomPages (s : State) (r : Nat) (e : List Byte) : Nat :=
  let x := s.capReg r
  s.capPages r - x.used + (if ceFlag e 2 then (x.held.filter (fun h => !h.locked)).foldl (fun a h => a + h.pages.length) 0 else 0)

/-- The header slot of the next record holds one that cannot be reclaimed (log 21). -/
def CaptReg.slotTaken (x : CaptReg) (overwrite : Bool) : Bool :=
  x.held.any (fun h => h.seq % 256 == (x.seq + 1) % 256 && (h.locked || !overwrite))

/-- Arming is allowed? The check's W is shown. -/
def State.mayArm (s : State) (r : Nat) (e : List Byte) : Bool :=
  decide (s.worstPages e ≤ s.roomPages r e) && !(s.capReg r).slotTaken (ceFlag e 2)

/-! Pages. -/

/-- The next page in ring order that the writer may take: records that may not be reclaimed and the segment being written are
passed over (log 21). -/
def CaptReg.findPage (x : CaptReg) (total : Nat) (overwrite : Bool) : Nat → Nat → Option Nat
  | 0, _ => none
  | n + 1, p =>
    let p := p % max 1 total
    let kept := x.held.any (fun h => h.pages.contains p && (h.locked || !overwrite))
    let own := match x.segs.getLast? with | some g => g.pages.contains p | none => false
    if kept || own then x.findPage total overwrite n (p + 1) else some p

/-- The page after the last one used. -/
def CaptReg.nextPage (x : CaptReg) : Nat :=
  match (x.segs.flatMap (·.pages)).getLast? with
  | some p => p + 1
  | none => match (x.held.flatMap (·.pages)).getLast? with
    | some p => p + 1
    | none => 0

/-- The segments up to and with the one that holds a page are given up. -/
def dropTo (p : Nat) : List CaptSeg → List CaptSeg
  | [] => []
  | g :: l => if g.pages.contains p then l else dropTo p l

/-- The segment being written goes on in page `p`: what the page held is given up (R371). -/
def State.takePageAt (s : State) (r p : Nat) : State :=
  let x := s.capReg r
  let gone := x.held.filter (fun h => h.pages.contains p)
  let s := s.count R.CAPT_OVERWRITTEN gone.length
  let segs := if x.segs.any (fun g => g.pages.contains p) then dropTo p x.segs else x.segs
  let segs := match segs.reverse with
    | g :: l => ({ g with pages := g.pages ++ [p] } :: l).reverse
    | [] => []
  let s := s.setStk (memClear s.stk (s.pageAddr r p) 2048)
  s.putCapt r { x with held := x.held.filter (fun h => !h.pages.contains p), segs := segs, off := 0 }

/-- The page the writer may take next, if there is one. -/
def State.freePage (s : State) (r : Nat) : Option Nat :=
  (s.capReg r).findPage (s.capPages r) (ceFlag (s.capEntry r) 2) (s.capPages r) (s.capReg r).nextPage

/-- The page found is taken. -/
def State.takeFound (s : State) (r : Nat) : Option Nat → State × Bool
  | none => (s, false)
  | some p => (s.takePageAt r p, true)

/-- A page for the segment being written (R371): a free one, that of a record that may be overwritten, or of the oldest segment. -/
def State.takePage (s : State) (r : Nat) : State × Bool := s.takeFound r (s.freePage r)

/-- Write an entry at the place reached in the page being written. -/
def State.captPut (s : State) (r : Nat) (b : List Byte) : State × Bool :=
  let x := s.capReg r
  match (x.segs.flatMap (·.pages)).getLast? with
  | none => (s, false)
  | some pg => ((s.stkStore (s.pageAddr r pg + x.off) b).putCapt r { x with off := x.off + b.length }, true)

/-- Write an entry once a page has been taken for it, or none was to be had. -/
def captPutIn (r : Nat) (b : List Byte) : State × Bool → State × Bool
  | (s, false) => (s, false)
  | (s, true) => s.captPut r b

/-- Write one entry; no entry crosses a page boundary (R374). The rest of a page is PAD, all zeros. -/
def State.captEntry (s : State) (r : Nat) (b : List Byte) : State × Bool :=
  captPutIn r b (if 2048 < (s.capReg r).off + b.length then s.takePage r else (s, true))

/-! Entries (R374). -/

def slotEntryBytes (key : Bool) (n tag : Nat) : List Byte := leBytes 8 (1 + (if key then 256 else 0) + 2 ^ 16 * n) ++ leBytes 8 tag
def valueEntryBytes (q ch word : Nat) : List Byte := leBytes 8 (2 + 2 ^ 16 * (q % 2 ^ 16) + 2 ^ 32 * ch) ++ leBytes 8 word
def gapEntryBytes (kind wid length tag : Nat) : List Byte := leBytes 8 (4 + 2 ^ 8 * kind + 2 ^ 16 * wid + 2 ^ 32 * length) ++ leBytes 8 tag
def waveEntryBytes (wid tag : Nat) (l : List (Nat × Nat)) : List Byte :=
  leBytes 8 (3 + 2 ^ 16 * l.length + 2 ^ 32 * wid) ++ leBytes 8 tag ++
    l.flatMap (fun v => leBytes 8 (v.1 % 2 ^ 32 + 2 ^ 32 * (v.2 % 2 ^ 16))) ++ (if l.length % 2 = 1 then leBytes 8 0 else [])

/-- The sample tag of a sample number (R374). -/
def sampleTag (sr n : Nat) : Nat := 2 ^ 16 * (n / sr) + n % sr

/-- Gathered runs are written, in order of arrival (R376). -/
def State.flushRuns (s : State) (r : Nat) : State :=
  let runs := (s.capReg r).runs
  let s := s.putCapt r { s.capReg r with runs := [] }
  runs.foldl (fun s w => (s.captEntry r (waveEntryBytes w.wid (sampleTag (s.widRate w.wid) w.first) w.samples)).1) s

/-! Deadbands (R375). -/

/-- |a − b| above a deadband, in binary32. -/
def beyond (a b db : Nat) : Bool := Fp.lt32 db (Fp.abs32 (Fp.sub32 a b))

/-- The angle has moved above a deadband: Δθ wrapped into −½ to ½ turn. -/
def turned (a b db : Nat) : Bool :=
  let d := signed 32 (unsigned 32 ((a : Int) - b))
  Fp.lt32 db (Fp.ofRat32 ((d.natAbs : Rat) / (2 ^ 32 : Nat)))

/-- Is a value stored again, given the one last stored? -/
def moved (ty dbA dbB : Nat) (old new : Nat × Nat) : Bool :=
  let hi (w : Nat) : Nat := w / 2 ^ 32
  let lo (w : Nat) : Nat := w % 2 ^ 32
  old.2 != new.2 ||
    (if ty = 0 then beyond (hi new.1) (hi old.1) dbA || turned (lo new.1) (lo old.1) dbB
     else if ty = 1 ∨ ty = 4 then beyond (hi new.1) (hi old.1) dbA || beyond (lo new.1) (lo old.1) dbB
     else if ty = 2 then beyond (hi new.1) (hi old.1) dbA
     else hi new.1 != hi old.1)

/-! Records. -/

/-- The latest slot at or before a time. -/
def slotAt (rate time : Nat) : Nat := prevTag rate (firstSlotAt rate (time + 1))

/-- The window of a record (R372): from the first slot's instant to the last slot's plus one period. -/
def State.captWindow (s : State) (e : List Byte) (x : CaptReg) (o : CaptOpen) : Nat × Nat :=
  let l := ceLattice e
  let first := match x.segs.head? with | some g => s.instant l g.tag | none => x.start
  (first, s.instant l o.lastTag + 1000000000 / max 1 (s.rate l))

/-- The inputs as 32 bytes (R373). -/
def State.inputBytes (s : State) : List Byte := (List.range 8).flatMap (fun i => leBytes 4 (s.regN (R.CAPT_INPUTSn i)))

/-- The GAP entry of slots that found no page (R377), which the record's header tells of. -/
def State.overrunGap (s : State) (r : Nat) : State :=
  match (s.capReg r).missed with
  | none => s
  | some (t, k) =>
    let w := s.captEntry r (gapEntryBytes 2 0 k t)
    let s := w.1
    let x := s.capReg r
    let s := s.putCapt r { x with
      missed := none
      segs := match x.segs.reverse with | g :: l => ({ g with overrun := g.overrun || w.2 } :: l).reverse | [] => [] }
    ((s.count R.CAPT_OVERRUN_GAPS).event E.CAPT_OVERRUN r (leBytes 1 r ++ leBytes 8 t ++ leBytes 4 k)).raise I.CAPT_OVERRUN

/-- A record closes (R373): its header is written to directory slot SEQ mod 256, and the store is empty. -/
def State.closeRecord (s : State) (r : Nat) (aborted : Bool) : State :=
  let s := if (s.capReg r).rec'.isSome then s.overrunGap r else s
  let x := s.capReg r
  let e := s.capEntry r
  let l := ceLattice e
  match x.rec' with
  | none => s
  | some o =>
    let pages := x.segs.flatMap (·.pages)
    let first := (x.segs.head?.map (·.tag)).getD 0
    let last := x.last.getD 0
    let rate := s.rate l
    let pre := min (slotNumber rate o.trigTag - slotNumber rate first) 65535
    let w := s.captWindow e x o
    let flags := o.flags + (if !aborted && x.last == some o.lastTag then 1 else 0) + (if aborted then 2 else 0) +
      (if x.lost.isEmpty then 0 else 4) + (if x.segs.any (·.overrun) then 8 else 0)
    let payload := pages.flatMap (fun p => s.stkRead (s.pageAddr r p) 2048)
    let init := ones32 ^^^ o.seq
    let h := leBytes 4 0x52585243 ++ leBytes 2 128 ++ leBytes 1 r ++ leBytes 1 flags ++ leBytes 4 o.seq ++ leBytes 1 o.cause ++
      leBytes 1 o.pattern ++ leBytes 2 o.origin ++ leBytes 8 o.trig ++ leBytes 8 o.trigTag ++ leBytes 8 first ++ leBytes 8 last ++
      leBytes 2 pre ++ leBytes 2 (cePost e) ++ leBytes 2 (ceChannels e) ++ leBytes 2 (ceWids e) ++ leBytes 4 pages.length ++
      leBytes 4 o.retriggers ++ o.inputs ++ leBytes 8 s.draftId ++ leBytes 2 o.event ++ leBytes 2 o.mode ++
      leBytes 4 (pages.headD 0) ++ leBytes 4 (crc32c init payload) ++ leBytes 8 0
    let s := s.stkStore (s.capBase r + 128 * (o.seq % 256)) (h ++ leBytes 4 (crc32c init h))
    let away := x.held.filter (fun y => y.seq % 256 == o.seq % 256)
    let s := s.count R.CAPT_OVERWRITTEN away.length
    let s := s.putCapt r { x with
      rec' := none, segs := [], off := 2048, runs := [], stored := [], last := none, lost := [], missed := none, nexts := []
      held := x.held.filter (fun y => y.seq % 256 != o.seq % 256) ++ [⟨o.seq, pages, false, w.1, w.2⟩] }
    let s := (s.putReg (R.CAPT_Rr_SEQ r) o.seq).count R.CAPT_RECORDS
    (s.event E.CAPT_CAPT_COMPLETE r (leBytes 1 r ++ leBytes 4 o.seq ++ leBytes 4 pages.length ++ leBytes 1 flags)).raise I.CAPT_COMPLETE

/-! Arming (R369, R370). -/

/-- An ARM or FIRE cell's BODY (R378). -/
def captBody (time group cause pattern : Nat) (inputs : List Byte) : List Byte :=
  leBytes 8 time ++ leBytes 1 group ++ leBytes 1 cause ++ leBytes 1 pattern ++ leBytes 5 0 ++ inputs

/-- A cell is sent while the module holds the stage and REMOTE_EN is set; the answer is its event number, or 0. -/
def State.captSend (s : State) (ty r : Nat) (body : List Byte) : State × Nat :=
  if s.isSet F.CAPT_CTRL_REMOTE_EN && s.holds && s.deviceId != 0 then
    let n := (s.capt.event + 1) % 65536
    let s := (s.setCapt { s.capt with event := n }).count R.CAPT_REMOTE_TX
    let c : SlvCell := { ty := ty, origin := s.deviceId, hops := 1, aux1 := r, aux2 := n, body := body }
    ((s.setSlv { s.slv with handled := ((s.deviceId, n) :: s.slv.handled).take 64 }).spread c none, n)
  else (s, 0)

/-- A region arms (cause 0 command, 1 remote, 2 mirror, 3 start), or is refused: the status code. -/
def State.armRegion (s : State) (r cause : Nat) : State × Nat :=
  let e := s.capEntry r
  let x := s.capReg r
  if !ceEnabled e then (s, stIllegal)
  else if x.st = 2 then (s, stOk)
  else if 3 ≤ x.st ∧ x.st ≤ 5 then (s, stBusy)
  else
    let s := s.putReg (R.CAPT_Rr_WORST r) (s.worstPages e)
    if !s.mayArm r e then (s, stNoSpace)
    else
      let s := s.putCapt r { x with segs := [], off := 2048, runs := [], stored := [], last := none, lost := [], missed := none, nexts := [], disarm := false }
      let s := (s.captState r 2).event E.CAPT_ARMED r (leBytes 1 r ++ leBytes 1 cause)
      (if cause = 0 ∧ ceFlag e 5 then (s.captSend 0x20 r (captBody s.now (ceGroup e) 1 0xFF s.inputBytes)).1 else s, stOk)

/-- A region disarms (cause 0 command, 1 remote, 2 mirror, 3 mode). -/
def State.disarmRegion (s : State) (r cause : Nat) : State :=
  let x := s.capReg r
  let s := s.putCapt r { x with segs := [], off := 2048, runs := [], stored := [], last := none, disarm := false }
  (s.captState r 1).event E.CAPT_DISARMED r (leBytes 1 r ++ leBytes 1 cause)

/-! Triggers (R368, R372, R381). -/

/-- The mode word of a slot header (R181) for a slot. -/
def State.modeNow (s : State) : Nat := s.mode + (match s.cardInForce with | some c => c * 16 + 256 | none => 0)

/-- MODE of a slot: as it was when the slot opened. -/
def State.modeWord (s : State) (l tag : Nat) : Nat :=
  match (s.lat l).slot tag with
  | some y => if y.opened then y.mode else s.modeNow
  | none => s.modeNow

/-- An ARMED region begins a record. -/
def State.beginRecord (s : State) (r time cause pattern origin event : Nat) : State :=
  let e := s.capEntry r
  let l := ceLattice e
  let rate := s.rate l
  let x := s.capReg r
  let trigTag := slotAt rate time
  let n := slotNumber rate trigTag
  let early := x.segs.filter (fun g => decide (slotNumber rate g.tag + cePre e ≤ n))
  let segs := match early.getLast? with
    | some g => x.segs.dropWhile (fun y => y.tag != g.tag)
    | none => x.segs
  let seq := (x.seq + 1) % 2 ^ 32
  let (s, ev) := if cause ≤ 1 ∧ ceFlag e 6 then s.captSend 0x21 r (captBody time (ceGroup e) cause pattern s.inputBytes) else (s, event)
  let o : CaptOpen := {
    seq := seq, trig := time, trigTag := trigTag, lastTag := tagOfNumber rate (n + cePost e), cause := cause, pattern := pattern
    origin := origin, event := ev, inputs := s.inputBytes, mode := s.modeWord l trigTag
    flags := (if s.onTest then 16 else 0) + (if cause = 2 then 32 else 0) + (if cause = 3 then 64 else 0) }
  let s := s.putCapt r { x with segs := segs, seq := seq, rec' := some o, st := 3 }
  let s := (s.putPair (R.CAPT_Rr_TRIG_LO r) time).count R.CAPT_TRIGGERS
  let s := (s.event E.CAPT_CAPT_TRIGGERED r (leBytes 1 r ++ leBytes 4 seq ++ leBytes 8 time ++ leBytes 1 cause)).raise I.CAPT_TRIGGERED
  let s := s.captState r 3
  match x.last with
  | some t => if n + cePost e ≤ slotNumber rate t then s.captState r 4 else s
  | none => s

/-- A trigger reaches a region. -/
def State.triggerRegion (s : State) (r time cause pattern origin event : Nat) : State :=
  let x := s.capReg r
  if x.st = 2 then s.beginRecord r time cause pattern origin event
  else if x.st = 3 ∨ x.st = 4 then
    let s := s.count R.CAPT_RETRIG_COUNT
    match x.rec' with
    | some o => s.putCapt r { x with rec' := some { o with retriggers := o.retriggers + 1 } }
    | none => s
  else if x.st = 5 then
    let s := (s.count R.CAPT_MISSED_COUNT).putPair R.CAPT_LAST_MISSED_LO time
    (s.event E.CAPT_CAPT_MISSED r (leBytes 1 r ++ leBytes 8 time)).raise I.CAPT_MISSED
  else s

/-! Released slots (R371). -/

/-- Older segments than PRE_SLOTS + O before the newest slot are reclaimed. -/
def keepSegs (rate keep newest : Nat) : List CaptSeg → List CaptSeg
  | g :: h :: l => if slotNumber rate h.tag + keep ≤ newest then keepSegs rate keep newest (h :: l) else g :: h :: l
  | l => l

/-- The VALUE entries due for a slot: channel, word, quality. -/
def State.dueValues (s : State) (l tag : Nat) (e : List Byte) (x : CaptReg) (key : Bool) : List (Nat × Nat × Nat) :=
  ((s.capChannels e).zipIdx).filterMap (fun c =>
    let v := s.readSlot l tag c.1.1
    let due := key || (match smFind x.stored c.2 with
      | some o => moved (catType (s.cat c.1.1)) c.1.2.1 c.1.2.2 o v
      | none => true)
    if due then some (c.2, v.1, v.2) else none)

/-- GAP entries that stand before slot number `n`: slots that found no page, then slots never released (R377). -/
def State.gapsBefore (s : State) (r rate n : Nat) : State :=
  let x := s.capReg r
  let s := s.overrunGap r
  match x.last with
  | some t =>
    let m := slotNumber rate t
    if m + 1 < n then (s.captEntry r (gapEntryBytes 0 0 (n - m - 1) (nextTag rate t))).1 else s
  | none => s

/-- The last post slot has been released, or the lattice has gone past it: what is missing of the record's slots is told by GAP entries,
and the record waits for its samples (R369). -/
def State.captClosing (s : State) (r rate : Nat) (o : CaptOpen) : State := (s.gapsBefore r rate (slotNumber rate o.lastTag + 1)).captState r 4

/-- A released slot enters the store of an ARMED or TRIGGERED region. -/
def State.captSlot (s : State) (l tag r : Nat) : State :=
  let e := s.capEntry r
  let x := s.capReg r
  let rate := s.rate l
  let n := slotNumber rate tag
  let within := match x.rec' with | some o => decide (n ≤ slotNumber rate o.lastTag) | none => true
  if !ceEnabled e ∨ ceLattice e ≠ l ∨ ¬ (x.st = 2 ∨ x.st = 3) ∨ s.instant l tag < x.start then s
  else if !within then (match x.rec' with | some o => s.captClosing r rate o | none => s)
  else
    let s := s.gapsBefore r rate n
    let x := s.capReg r
    let key := match x.segs.getLast? with | some g => decide (ceKey e ≤ g.slots) | none => true
    let s := if key then s.putCapt r { x with segs := x.segs ++ [{ tag := tag, slots := 0, pages := [] }], off := 2048, stored := [] } else s
    let x := s.capReg r
    let due := s.dueValues l tag e x key
    let w := s.captEntry r (slotEntryBytes key due.length tag)
    let s := if !w.2 then
      s.putCapt r { x with
        segs := if key then x.segs.dropLast else x.segs
        missed := match x.missed with | some (t, k) => some (t, k + 1) | none => some (tag, 1)
        last := some tag }
    else
      let s := due.foldl (fun s v =>
        let s := (s.captEntry r (valueEntryBytes v.2.2 v.1 v.2.1)).1
        s.putCapt r { s.capReg r with stored := smPut (s.capReg r).stored v.1 (v.2.1, v.2.2) }) w.1
      let x := s.capReg r
      let s := s.putCapt r { x with
        segs := match x.segs.reverse with | g :: q => ({ g with slots := g.slots + 1 } :: q).reverse | [] => []
        last := some tag }
      s.flushRuns r
    let x := s.capReg r
    match x.rec' with
    | none => s.putCapt r { x with segs := keepSegs rate (cePre e + s.openSlots l) n x.segs }
    | some o => if slotNumber rate o.lastTag ≤ n then s.captClosing r rate o else s

/-- A release of a lattice wired to capture: DIGITAL inputs change (R367), the regions take the slot. -/
def State.captRelease (s : State) (l tag : Nat) : State :=
  if s.domain pdStacks ≠ 0 then s
  else
    let s := (List.range 256).foldl (fun s i =>
      let e := s.inputEntry i
      let tid := bits e 20 4
      if e % 16 = 4 ∧ catLattice (s.cat tid) = l then
        let v := s.readSlot l tag tid
        let b := bits e 24 21
        s.pushInput i (!bit v.2 qAbsent && bit v.1 (48 + b) && bit v.1 (32 + b)) (s.instant l tag)
      else s) s
    if bit (s.wiring l) 3 then (List.range 16).foldl (fun s r => s.captSlot l tag r) s else s

/-! Waveform samples (R376). -/

/-- A run of a WID that a sample extends. -/
def extendRun (wid n raw q : Nat) : List CaptRun → Option (List CaptRun)
  | [] => none
  | w :: l =>
    if w.wid = wid ∧ w.first + w.samples.length = n ∧ w.samples.length < 254 then
      some ({ w with samples := w.samples ++ [(raw, q)] } :: l)
    else (extendRun wid n raw q l).map (w :: ·)

/-- A sample reaches a region. -/
def State.captSample (s : State) (w : WaveSample) (r : Nat) : State :=
  let e := s.capEntry r
  let x := s.capReg r
  let inside := match x.rec' with
    | some o => let v := s.captWindow e x o; decide (v.1 ≤ w.time ∧ w.time < v.2)
    | none => true
  if !ceEnabled e ∨ ¬ (2 ≤ x.st ∧ x.st ≤ 4) ∨ !(s.capWids e).contains w.wid ∨ !inside ∨ w.time < x.start then s
  else
    let sr := s.widRate w.wid
    let n := sampleNumber sr w.time
    let gap := match smFind x.nexts w.wid with | some m => if m < n then n - m else 0 | none => 0
    let s := if gap ≠ 0 ∧ !x.segs.isEmpty then (s.flushRuns r).captEntry r (gapEntryBytes 1 w.wid gap (sampleTag sr (n - gap))) |>.1 else s
    let x := s.capReg r
    let runs := (extendRun w.wid n w.raw w.quality x.runs).getD (x.runs ++ [⟨w.wid, n, [(w.raw, w.quality)]⟩])
    let nexts := smPut x.nexts w.wid (max (n + 1) (smGet 0 x.nexts w.wid))
    let full := runs.find? (fun y => y.wid == w.wid && decide (254 ≤ y.samples.length))
    match full with
    | some y =>
      if x.segs.isEmpty then s.putCapt r { x with runs := runs, nexts := nexts }
      else
        let s := s.putCapt r { x with runs := runs.erase y, nexts := nexts }
        (s.captEntry r (waveEntryBytes y.wid (sampleTag sr y.first) y.samples)).1
    | none => s.putCapt r { x with runs := runs, nexts := nexts }

/-- A waveform sample reaches capture. -/
def State.captWave (s : State) (w : WaveSample) : State :=
  if s.domain pdStacks ≠ 0 then s else (List.range 16).foldl (fun s r => s.captSample w r) s

/-! Modes, cards, loads (R366, R369, R380). -/

/-- Entry to M2 or M11: a record in progress closes with ABORTED, every region is DISARMED. A record in REARM is complete. -/
def State.captStop (s : State) : State :=
  (List.range 16).foldl (fun s r =>
    let x := s.capReg r
    let s := if 3 ≤ x.st ∧ x.st ≤ 5 then s.closeRecord r (x.st != 5) else s
    if 2 ≤ x.st then s.disarmRegion r 3 else s) s

/-- Entry to M3 to M10 from M2: a region with ARM_AT_START arms itself. -/
def State.captStart (s : State) : State :=
  (List.range 16).foldl (fun s r =>
    let e := s.capEntry r
    if ceEnabled e ∧ ceFlag e 7 ∧ s.domain pdStacks = 0 then (s.armRegion r 3).1 else s) s

/-- A draft load clears every region (R380). -/
def State.captLoad (s : State) : State :=
  let s := s.setCapt {}
  (List.range 16).foldl (fun s r =>
    let e := s.capEntry r
    let s := s.putPair (R.CAPT_Rr_BASE_LO r) (s.capBase r)
    let s := s.putReg (R.CAPT_Rr_PAGES r) (s.capPages r)
    let s := s.setStk (memClear s.stk (s.capBase r) 32768)
    s.putCapt r { st := if ceEnabled e then 1 else 0 }) s

/-- A card replaces the CAPT section at a switch slot (R366): before it does, a region whose entry changes closes its record with
ABORTED, under the old entry. -/
def State.captAbort (s : State) (changes : Nat → Bool) : State :=
  (List.range 16).foldl (fun s r =>
    let x := s.capReg r
    if changes r && decide (3 ≤ x.st ∧ x.st ≤ 5) then s.closeRecord r true else s) s

/-- After it has: such a region keeps its arm state and starts a new store from S. -/
def State.captSwitch (s : State) (changes : Nat → Bool) (instant : Nat) : State :=
  (List.range 16).foldl (fun s r =>
    if !changes r then s
    else
      let e := s.capEntry r
      let x := s.capReg r
      let st := if !ceEnabled e then 0 else if 2 ≤ x.st ∧ x.st ≤ 5 then 2 else if x.st = 0 then 1 else x.st
      s.putCapt r { s.capReg r with st := st, segs := [], off := 2048, runs := [], stored := [], last := none, nexts := [], start := instant }) s

/-- A page of a region is fenced and remapped (R377): it holds a GAP LOST entry and PAD. -/
def State.captLost (s : State) (r p : Nat) : State :=
  let x := s.capReg r
  let s := s.setStk (memClear s.stk (s.pageAddr r p) 2048)
  let s := s.stkStore (s.pageAddr r p) (gapEntryBytes 3 0 2048 0)
  let s := if x.rec'.isSome ∧ x.segs.any (fun g => g.pages.contains p) then s.putCapt r { x with lost := x.lost ++ [p] } else s
  ((s.count R.CAPT_LOST_PAGES).event E.CAPT_DATA_LOST r (leBytes 1 r ++ leBytes 4 p)).raise I.CAPT_DATA_LOST

end Sys2Proof.Machine
end

