-- ==== Sys2Proof/Machine/ShuttleOps.lean ====
section
/-!
DEFINITION. Sys2Proof/Machine/ShuttleOps.lean: what an output stream sends (R338 to R347): data frames, configuration frames,
IEC 61850-90-5 session PDUs; composition, launch, skipping.
-/

namespace Sys2Proof.Machine

/-! Channels (R335). -/

/-- A channel: TID, PART, unit in 10⁻⁵ per count, type byte, word and quality read for the slot. -/
structure OsChannel where
  tid : Nat
  part : Nat
  unit : Nat
  kind : Nat
  word : Nat
  quality : Nat
  deriving DecidableEq, Repr

/-- The channels of a block: phasors, the frequency thread, analogs, digitals. -/
structure OsBlock where
  entry : List Byte
  phasors : List OsChannel
  freq : OsChannel
  analogs : List OsChannel
  digitals : List OsChannel
  deriving DecidableEq, Repr

def OsBlock.all (b : OsBlock) : List OsChannel := b.phasors ++ [b.freq] ++ b.analogs ++ b.digitals

/-- Block entry fields. -/
def obFormat (e : List Byte) : Nat := leAt e 2 1 % 16
def obFnom50 (e : List Byte) : Bool := bit (leAt e 2 1) 4
def obPh (e : List Byte) : Nat := leAt e 4 2
def obAn (e : List Byte) : Nat := leAt e 6 2
def obDg (e : List Byte) : Nat := leAt e 8 2
def obFreqTid (e : List Byte) : Nat := leAt e 0xC 4 % 2 ^ 17
def obList (e : List Byte) : Nat := leAt e 0x10 4

/-- The channels `i` to `i + n − 1` of a list, read for a slot. -/
def State.osChannels (s : State) (body : List Byte) (l tag list i n : Nat) : List OsChannel :=
  (List.range n).map (fun k =>
    let o := list + 8 * (i + k)
    let w := leAt body o 4
    let u := leAt body (o + 4) 4
    let v := s.readSlot l tag (w % 2 ^ 17)
    ⟨w % 2 ^ 17, bits w 19 17, u % 2 ^ 24, u / 2 ^ 24, v.1, v.2⟩)

/-- The blocks of a stream, their values read once in channel-list order (R338). -/
def State.osRead (s : State) (body e : List Byte) (tag : Nat) : List OsBlock :=
  let l := osLattice e
  (List.range (osBlocks e)).map (fun i =>
    let b := osBlock body (osFirstBlock e + i)
    let f := s.readSlot l tag (obFreqTid b)
    { entry := b
      phasors := s.osChannels body l tag (obList b) 0 (obPh b)
      freq := ⟨obFreqTid b, 0, 0, 0, f.1, f.2⟩
      analogs := s.osChannels body l tag (obList b) (obPh b) (obAn b)
      digitals := s.osChannels body l tag (obList b) (obPh b + obAn b) (obDg b) })

def OsChannel.absent (c : OsChannel) : Bool := bit c.quality qAbsent
/-- The binary32 part a channel names. -/
def OsChannel.value (c : OsChannel) : Nat := if c.part = 1 then c.word % 2 ^ 32 else c.word / 2 ^ 32 % 2 ^ 32

/-! Conversion (R343): each answer is the bytes and how many values saturated. -/

abbrev nan32 : Nat := 0x7FC00000

/-- A binary32 rounded to an integer and limited; none for one that is not finite. -/
def toCount (x : Nat) (lo hi : Int) : Option (Int × Nat) :=
  if Fp.finite32 x then
    let i := Fp.rint (Fp.toRat32 x)
    some (if i < lo then (lo, 1) else if hi < i then (hi, 1) else (i, 0))
  else none

/-- A 16-bit field from a count, or the missing code. -/
def field16 (o : Option (Int × Nat)) : List Byte × Nat :=
  match o with
  | some (i, n) => (beBytes 2 (unsigned 16 i), n)
  | none => (beBytes 2 0x8000, 0)

def field32 (x : Nat) : List Byte := beBytes 4 (if Fp.finite32 x then x else nan32)

/-- An angle word in rad in −π to π, as binary32. -/
def angleRad (a : Nat) : Nat := Fp.ofRat32 (((signed 32 a : Int) : Rat) / (2 ^ 32 : Nat) * 2 * Fp.piR)

/-- U as binary32. -/
def unit32 (u : Nat) : Nat := Fp.ofRat32 ((u : Rat) / 100000)

def fromPhasor (fmt : Nat) (c : OsChannel) : List Byte × Nat :=
  let m := c.word / 2 ^ 32 % 2 ^ 32
  let a := c.word % 2 ^ 32
  let polar := bit fmt 0
  let missing := c.absent || !Fp.finite32 m
  let re := Fp.mul32 m (Fp.ofRat32 (Fp.cosT (Fp.turnsOf a)))
  let im := Fp.mul32 m (Fp.ofRat32 (Fp.sinT (Fp.turnsOf a)))
  if bit fmt 1 then
    if missing then (beBytes 4 nan32 ++ beBytes 4 nan32, 0)
    else if polar then (field32 m ++ field32 (angleRad a), 0)
    else (field32 re ++ field32 im, 0)
  else if missing then (beBytes 2 0x8000 ++ beBytes 2 0x8000, 0)
  else
    let u := unit32 c.unit
    let (x, y) := if polar then (toCount (Fp.div32 m u) 0 65535, toCount (Fp.mul32 (angleRad a) (Fp.ofNat32 10000)) (-32767) 32767)
      else (toCount (Fp.div32 re u) (-32767) 32767, toCount (Fp.div32 im u) (-32767) 32767)
    match x, y with
    | some _, some _ => ((field16 x).1 ++ (field16 y).1, (field16 x).2 + (field16 y).2)
    | _, _ => (beBytes 2 0x8000 ++ beBytes 2 0x8000, 0)

def fromFreq (fmt : Nat) (fnom50 : Bool) (c : OsChannel) : List Byte × Nat :=
  let f := c.word / 2 ^ 32 % 2 ^ 32
  let r := c.word % 2 ^ 32
  if bit fmt 3 then
    (if c.absent then beBytes 4 nan32 ++ beBytes 4 nan32 else field32 f ++ field32 r, 0)
  else
    let nom := Fp.ofNat32 (if fnom50 then 50 else 60)
    let x := if c.absent then none else toCount (Fp.mul32 (Fp.sub32 f nom) (Fp.ofNat32 1000)) (-32767) 32767
    let y := if c.absent then none else toCount (Fp.mul32 r (Fp.ofNat32 100)) (-32767) 32767
    ((field16 x).1 ++ (field16 y).1, (field16 x).2 + (field16 y).2)

def fromAnalog (fmt : Nat) (c : OsChannel) : List Byte × Nat :=
  if bit fmt 2 then (if c.absent then beBytes 4 nan32 else field32 c.value, 0)
  else field16 (if c.absent then none else toCount (Fp.div32 c.value (unit32 c.unit)) (-32767) 32767)

def fromDigital (c : OsChannel) : List Byte × Nat := (beBytes 2 (if c.absent then 0 else c.word / 2 ^ 48 % 2 ^ 16), 0)

/-- STAT of a block (R344); `changed`: within 60 s of a change to the stream's content. -/
def State.statWord (s : State) (b : OsBlock) (changed : Bool) : Nat :=
  let any (i : Nat) : Bool := b.all.any (fun c => bit c.quality i)
  let err := if b.all.all (·.absent) then 3 else if s.onTest || any qTest then 2
    else if any qAbsent || any qSrcErr || any qCheckFail then 1 else 0
  2 ^ 14 * err + (if s.syncErr || any qSyncLoss then 2 ^ 13 else 0) + (if changed then 2 ^ 10 else 0) +
    (if any qInterp || any qPredict || any qLate then 2 ^ 9 else 0) + 2 ^ 6 * s.statQuality + 2 ^ 4 * s.unlockedCode

/-- Is a stream within 60 s of a change (R344)? -/
def State.osChanged (s : State) (n instant : Nat) : Bool :=
  match (s.osSt n).changed with | some c => decide (c ≤ instant ∧ instant < c + 60000000000) | none => false

/-- A C37.118 data frame (R342), and the values that saturated. -/
def State.dataFrame (s : State) (e : List Byte) (tag : Nat) (blocks : List OsBlock) : List Byte × Nat :=
  let instant := s.instant (osLattice e) tag
  let ch := s.osChanged (osNumber e) instant
  let parts := blocks.flatMap (fun b =>
    let f := obFormat b.entry
    [(beBytes 2 (s.statWord b ch), 0)] ++ b.phasors.map (fromPhasor f) ++ [fromFreq f (obFnom50 b.entry) b.freq] ++
      b.analogs.map (fromAnalog f) ++ b.digitals.map fromDigital)
  let body := parts.flatMap (·.1)
  (c37Frame 0 (if osProtocol e = 0 then 2 else 1) (osId e) (s.socOf instant) (s.fracOf instant (osTimeBase e)) body,
   parts.foldl (fun a p => a + p.2) 0)

/-! Configuration frames (R345). -/

/-- Names: a channel's, and the sixteen of a digital word. -/
def digitName (i : Nat) : List Byte := [BitVec.ofNat 8 (48 + i / 10), BitVec.ofNat 8 (48 + i % 10)]
def digitalNames (name : List Byte) : List (List Byte) := (List.range 16).map (fun i => pad 13 (name.take 13) ++ [0x5F] ++ digitName i)

def State.catNameOf (s : State) (tid : Nat) : List Byte := pad 16 (catName (s.cat tid))

def State.osRate (s : State) (e : List Byte) : Nat := s.rate (osLattice e) / osDivider e

/-- The blocks' channel lists with no values read. -/
def State.osLists (s : State) (body e : List Byte) : List OsBlock := s.osRead body e 0

/-- CFGCNT of a stream. -/
def State.cfgCnt (s : State) (n : Nat) : Nat := s.fld (F.SHUTTLE_OSn_STATE_CFGCNT n)

/-- CFG-2 (`three` clear) or CFG-3 of a stream, from the entries in force. The byte layout is that of IEEE C37.118.2 (log 17). -/
def State.cfgFrame (s : State) (e : List Byte) (three : Bool) : List Byte :=
  let blocks := s.osLists (s.cfg secShuttle) e
  let cnt := s.cfgCnt (osNumber e)
  let name (l : List Byte) : List Byte := if three then leBytes 1 l.length ++ l else l
  let one (b : OsBlock) : List Byte :=
    let x := b.entry
    let head := name (slice x 0x14 16) ++ beBytes 2 (leAt x 0 2) ++ (if three then leBytes 16 0 else []) ++ beBytes 2 (obFormat x) ++
      beBytes 2 (obPh x) ++ beBytes 2 (obAn x) ++ beBytes 2 (obDg x)
    let names := (b.phasors ++ b.analogs).flatMap (fun c => name (s.catNameOf c.tid)) ++
      b.digitals.flatMap (fun c => (digitalNames (s.catNameOf c.tid)).flatMap name)
    let units :=
      if three then
        b.phasors.flatMap (fun c => [0, 0, BitVec.ofNat 8 (c.kind % 2 * 8), 0] ++ beBytes 4 (unit32 c.unit) ++ beBytes 4 0) ++
          b.analogs.flatMap (fun c => beBytes 4 (unit32 c.unit) ++ beBytes 4 0)
      else (b.phasors ++ b.analogs).flatMap (fun c => beBytes 1 c.kind ++ beBytes 3 c.unit)
    let masks := b.digitals.flatMap (fun c => beBytes 2 0 ++ beBytes 2 (catNominal (s.cat c.tid) % 2 ^ 16))
    let place := if three then beBytes 4 nan32 ++ beBytes 4 nan32 ++ beBytes 4 nan32 ++ slice x 3 1 ++ beBytes 4 0 ++ beBytes 4 0 else []
    head ++ names ++ units ++ masks ++ place ++ beBytes 2 (if obFnom50 x then 1 else 0) ++ beBytes 2 cnt
  let body := (if three then beBytes 2 0 else []) ++ beBytes 4 (osTimeBase e) ++ beBytes 2 blocks.length ++ blocks.flatMap one ++
    beBytes 2 (s.osRate e)
  c37Frame (if three then 5 else 3) (if osProtocol e = 0 then 2 else 1) (osId e) (s.socOf s.now) (s.fracOf s.now (osTimeBase e)) body

/-! IEC 61850-90-5 (R347). -/

/-- A BER element. -/
def berPut (tag : Nat) (l : List Byte) : List Byte :=
  let n := l.length
  beBytes 1 tag ++ (if n < 128 then beBytes 1 n else if n < 256 then beBytes 1 0x81 ++ beBytes 1 n else beBytes 1 0x82 ++ beBytes 2 n) ++ l

/-- The 32-bit quality of a member: validity in bits 1:0, test in bit 11 (log 24). -/
def memberQuality (q : Nat) (test : Bool) : Nat :=
  let others := q % 2 ^ 12 - (if bit q qValid then 1 else 0) - (if bit q qTest then 2 ^ qTest else 0)
  (if bit q qAbsent then 1 else if bit q qValid && others == 0 then 0 else 3) + (if bit q qTest || test then 2 ^ 11 else 0)

/-- The members of a channel: `k` 0 phasor, 1 frequency, 2 analog, 3 digital. -/
def osMembers (test : Bool) (k : Nat) (c : OsChannel) : List Byte :=
  let q := beBytes 4 (memberQuality c.quality test)
  let num (x : Nat) : List Byte := (if c.absent then beBytes 4 nan32 else field32 x) ++ q
  if k = 0 then
    num (c.word / 2 ^ 32 % 2 ^ 32) ++ num (Fp.ofRat32 (((signed 32 c.word : Int) : Rat) / (2 ^ 32 : Nat) * 360))
  else if k = 1 then num (c.word / 2 ^ 32 % 2 ^ 32) ++ num (c.word % 2 ^ 32)
  else if k = 2 then num c.value
  else beBytes 4 (if c.absent then 0 else c.word / 2 ^ 48 % 2 ^ 16) ++ q

/-- The key slot a frame is signed with (R347): of the group, the latest VALID_FROM not after the launch time. -/
def State.txKey (s : State) (group launch : Nat) : Option KeySlot :=
  (((keyGroup group).filterMap (fun i => smFind s.heddle.keys i)).filter (fun k => decide (1000000000 * k.validFrom ≤ launch))).foldl
    (fun (m : Option KeySlot) k => match m with
      | some j => if j.validFrom < k.validFrom then some k else m
      | none => some k) none

/-- Seconds to the next later VALID_FROM of the group, or 0xFFFF. -/
def State.toNextKey (s : State) (group launch : Nat) (cur : KeySlot) : Nat :=
  let later := (((keyGroup group).filterMap (fun i => smFind s.heddle.keys i)).map (·.validFrom)).filter (fun v => decide (cur.validFrom < v))
  match later.min? with
  | some v => min (v - launch / 1000000000) 0xFFFE
  | none => 0xFFFF

/-- smpSynch (R347). -/
def State.smpSynch (s : State) : Nat := if s.servo = svLocked then 2 else if s.servo = svFreerun then 0 else 1

/-- A session PDU for a slot (the byte layout of IEC 61850-90-5: log 17). The quality byte of refrTm and an AES-GMAC
initialisation vector are free values (log 5). -/
def State.sessionFrame (s : State) (e : List Byte) (tag : Nat) (blocks : List OsBlock) (key : Option KeySlot) : List Byte :=
  let n := osNumber e
  let instant := s.instant (osLattice e) tag
  let launch := instant + osOffset e
  let free := s.free32
  let data := blocks.flatMap (fun b => b.phasors.flatMap (osMembers s.onTest 0) ++ osMembers s.onTest 1 b.freq ++
    b.analogs.flatMap (osMembers s.onTest 2) ++ b.digitals.flatMap (osMembers s.onTest 3))
  let svid := (slice e 0x40 64).takeWhile (fun b => b != 0)
  let refr := beBytes 4 (s.socOf instant) ++ beBytes 3 ((2 ^ 24 * (2 * (instant % 1000000000)) + 1000000000) / 2000000000) ++ beBytes 1 (free % 256)
  let asdu := berPut 0x80 svid ++ berPut 0x82 (beBytes 2 (tag % 2 ^ 16 / osDivider e)) ++ berPut 0x83 (beBytes 4 (s.cfgCnt n)) ++
    berPut 0x84 refr ++ berPut 0x85 (beBytes 1 s.smpSynch) ++ berPut 0x86 (beBytes 2 (s.osRate e)) ++ berPut 0x87 data
  let apdu := berPut 0x60 (berPut 0x80 [1] ++ berPut 0xA2 (berPut 0x30 asdu))
  let auth := match key with | some k => k.alg | none => 0
  let iv : List Byte := if auth < 4 then [] else beBytes 4 free ++ beBytes 8 (s.osSt n).spdu
  let payload := [0x82, 0] ++ beBytes 2 (osId e) ++ beBytes 2 apdu.length ++ apdu
  let sec := (match key with
    | some k => beBytes 4 k.validFrom ++ beBytes 2 (s.toNextKey (osKeyGroup e % 64) launch k) ++ [0] ++ beBytes 1 k.alg ++ beBytes 4 k.id
    | none => beBytes 4 0 ++ beBytes 2 0xFFFF ++ [0, 0] ++ beBytes 4 0) ++ beBytes 1 iv.length ++ iv
  let common := beBytes 4 (6 + sec.length + 4 + payload.length) ++ beBytes 4 (s.osSt n).spdu ++ beBytes 2 1 ++ sec
  let span := [0xA2, BitVec.ofNat 8 (common.length + 2), 0x80, BitVec.ofNat 8 common.length] ++ common ++ beBytes 4 payload.length ++ payload
  let mac := match key with | some k => authValue k iv span | none => []
  [0x01, 0x40] ++ span ++ (if auth = 0 then [] else [0x85, BitVec.ofNat 8 mac.length] ++ mac)

/-! Which slot is next (R337, R340). -/

/-- The module may publish: it holds the stage in M3 to M10 (M4 only while a switch out of it is pending). -/
def State.mayPublish (s : State) : Bool :=
  s.holds && decide (3 ≤ s.mode ∧ s.mode ≤ 10) && (s.mode != 4 || s.target != 4)

/-- A stream's next slot: the first opened one of its lattice that its DIVIDER selects, after the last handled. -/
def State.osNext (s : State) (n : Nat) : Option (Nat × List Byte) :=
  match s.os n with
  | none => none
  | some e0 =>
    let l := osLattice e0
    let x := s.osSt n
    (((s.lat l).slots.filter (fun y => y.opened && decide (x.cursor < y.tag))).findSome? (fun y =>
      match s.osAt n (s.instant l y.tag) with
      | some e => if y.tag % 2 ^ 16 % osDivider e = 0 ∧ osFlag e 0 then some (y.tag, e) else none
      | none => none))

/-- R337 for a slot: enabled at run time, published by this module, after the last launched. -/
def State.publishes (s : State) (n tag : Nat) : Bool :=
  let x := s.osSt n
  x.enabled && s.mayPublish && decide (s.pairAt (R.SHUTTLE_OSn_LAST_LO n) < tag) && decide (x.after < tag)

/-- C_lead and the lead by which a frame has to be ready (R338, R340), ns. -/
def State.intentLead (s : State) : Nat := 1000 * (s.regN R.PAIR_INTENT_LEAD % 1024)
def State.cLead (s : State) : Nat := 100000 + (if s.pairMode = 0 then 0 else s.intentLead)
def State.readyLead (s : State) : Nat := if s.pairMode = 0 then 2000 else s.intentLead

/-- Does a launch need its INTENT first (R307)? -/
def State.needsIntent (s : State) : Bool := s.pairMode != 0 && s.isSet F.PAIR_STATUS_MIRROR_UP

/-- The slot is done with: launched, skipped or passed over. -/
def State.osPass (s : State) (n tag : Nat) : State := s.putOs n { s.osSt n with cursor := tag, frame := none }

/-- The slot is skipped (R340). -/
def State.osSkip (s : State) (n tag : Nat) : State :=
  let s := ((s.osPass n tag).count (R.SHUTTLE_OSn_SKIPPED n)).event E.SHUTTLE_SLOT_SKIPPED n (leBytes 1 n ++ leBytes 8 tag)
  s.raise I.SHUTTLE_SKIPPED

/-- Composition of a slot ends: the values are read and the frame formed (R338). It takes no time of its own in the model (log 24). -/
def State.compose (s : State) (n tag : Nat) (e : List Byte) : State :=
  let body := s.cfgAt secShuttle (s.instant (osLattice e) tag)
  let blocks := s.osRead body e tag
  let launch := s.launchTime e tag
  let ready := decide (s.now + s.readyLead ≤ launch)
  if osProtocol e ≤ 1 then
    let f := s.dataFrame e tag blocks
    (s.count R.SHUTTLE_SATURATED f.2).putOs n { s.osSt n with frame := some ⟨tag, f.1, ready, false⟩ }
  else if bit (osKeyGroup e) 7 then
    s.draw.putOs n { s.osSt n with frame := some ⟨tag, s.sessionFrame e tag blocks none, ready, false⟩ }
  else
    match s.txKey (osKeyGroup e % 64) launch with
    | some k => s.draw.putOs n { s.osSt n with frame := some ⟨tag, s.sessionFrame e tag blocks (some k), ready, false⟩ }
    | none =>
      let s := ((s.osPass n tag).count R.SHUTTLE_KEY_MISSING).count (R.SHUTTLE_OSn_SKIPPED n)
      (s.event E.SHUTTLE_KEY_MISSING n (leBytes 1 n)).raise I.SHUTTLE_KEY_MISSING

/-! Sending. -/

/-- A stream's datagram on every port of PORTS (R339). The IPv4 identification is a free value (log 5). -/
def State.osSend (s : State) (e payload : List Byte) : State :=
  let v6 := osFlag e 5
  let vlan := if osFlag e 4 then some (2 ^ 13 * (leAt e 0x11 1 % 8) + leAt e 0x12 2 % 2 ^ 12) else none
  let d : Dest := { mac := slice e 0x18 6, ip := slice e 0x20 (if v6 then 16 else 4), udpSrc := leAt e 0x16 2, udpDst := leAt e 0x14 2
                    ttl := leAt e 0x1F 1, vlan := vlan }
  let id := if v6 then s.free32 else s.free32 % 65536
  ((List.range 8).filter (fun p => bit (osPorts e) p)).foldl (fun s p => s.sendUdp p true v6 d payload id) s.draw

/-- ns that bytes take at the line rate of a port, rounded up. -/
def State.lineTime (s : State) (p bytes : Nat) : Nat := if s.fld (F.PORT_CFG_MODE p) = 1 then (bytes * 8 + 9) / 10 else bytes * 8

/-- Bytes of a frame on the line: preamble and delimiter, the frame padded, its trailer on a PRP pair, its FCS. -/
def lineBytes (prp : Bool) (f : List Byte) : Nat := 8 + max 64 (f.length + (if prp then 6 else 0) + 4)

/-- ns a datagram's frames take on a port, each with the minimum gap after it (R341). -/
def State.wireTime (s : State) (p : Nat) (prp : Bool) (frames : List (List Byte)) : Nat :=
  s.lineTime p (frames.foldl (fun a f => a + lineBytes prp f + 12) 0)

/-- The ports a stream's frames leave: those of PORTS, an even port of a PRP pair with its odd one (R104). -/
def State.osLeaves (s : State) (e : List Byte) : List Nat :=
  (List.range 8).filter (fun p => bit (osPorts e) p || (p % 2 == 1 && s.inPrp p && bit (osPorts e) (p - 1)))

/-- The ports are busy until the frame ends; the wait behind an earlier frame is the slip (R341). -/
def State.osSlip (s : State) (n : Nat) (e payload : List Byte) : State :=
  (s.osLeaves e).foldl (fun s p =>
    let d : Dest := { mac := slice e 0x18 6, ip := slice e 0x20 (if osFlag e 5 then 16 else 4), udpSrc := 0, udpDst := 0, ttl := 0
                      vlan := if osFlag e 4 then some 0 else none }
    let start := max s.now (smGet 0 s.port.busy p)
    let slip := start - s.now
    let s := s.setPort { s.port with busy := smPut s.port.busy p (start + s.wireTime p (s.inPrp p) (s.udpFrames p (osFlag e 5) d payload 0)) }
    if s.regN (R.SHUTTLE_OSn_SLIP_MAX n) < slip then s.putReg (R.SHUTTLE_OSn_SLIP_MAX n) (sat32 slip) else s) s

/-- A copy for the host (R346). -/
def State.hostCopy (s : State) (q tag n kind : Nat) (frame : List Byte) : State :=
  let r := s.commit q (leBytes 8 tag ++ leBytes 1 n ++ leBytes 1 kind ++ leBytes 2 frame.length ++ leBytes 4 0 ++ frame)
  if r.2 then r.1 else (r.1.count R.SHUTTLE_COPY_QFULL).raise I.SHUTTLE_COPY_QFULL

/-- Configuration frames that are due after the data frame of a slot (R345). -/
def State.osConfig (s : State) (n tag : Nat) (e : List Byte) : State :=
  if 1 < osProtocol e then s
  else
    let x := s.osSt n
    let mark := s.instant (osLattice e) tag / 1000000000 / max 1 (s.regN R.SHUTTLE_CFG_PERIOD % 65536)
    if x.cfgDue ∨ x.cfgMark ≠ some mark then
      let s := s.putOs n { x with cfgDue := false, cfgMark := some mark }
      let two := s.cfgFrame e false
      let s := (s.osSend e two).osSlip n e two
      if osFlag e 1 then let three := s.cfgFrame e true; (s.osSend e three).osSlip n e three else s
    else s

/-- A frame is launched (R339, R346). -/
def State.osLaunch (s : State) (n : Nat) (e : List Byte) (f : OsFrame) (late : Bool) : State :=
  let s := (s.osSlip n e f.payload).osSend e f.payload
  let s := s.putPair (R.SHUTTLE_OSn_LAST_LO n) f.tag
  let s := (s.count (R.SHUTTLE_OSn_SENT n)).count R.SHUTTLE_FRAMES
  let s := if late then (s.count (R.SHUTTLE_OSn_LATE n)).raise I.SHUTTLE_LATE else s
  let x := s.osSt n
  let s := s.putOs n { x with cursor := f.tag, frame := none, spdu := if osProtocol e = 2 then (x.spdu + 1) % 2 ^ 32 else x.spdu }
  let s := if osFlag e 2 ∧ osProtocol e ≤ 1 then s.hostCopy (s.fld F.SHUTTLE_QUEUES_COPY_QUEUE) f.tag n 0 f.payload else s
  s.osConfig n f.tag e

/-- The INTENT of a composed frame is sent (R307). -/
def State.osIntent (s : State) (n : Nat) (f : OsFrame) : State :=
  let s := s.putOs n { s.osSt n with frame := some { f with intent := true } }
  let s := (s.putPair (R.PAIR_OSn_INTENT_LO n) f.tag).count R.PAIR_INTENTS_SENT
  s.mirrorSend 1 (leBytes 1 n ++ leBytes 8 f.tag)

/-! Changes (R345, R59, R360). -/

/-- A stream's content changes at S: CFGCNT rises, a configuration frame is due, STAT bit 10 is set for 60 s. -/
def State.osChange (s : State) (n tag : Nat) : State :=
  let cnt := (s.cfgCnt n + 1) % 65536
  let s := s.putFld (F.SHUTTLE_OSn_STATE_CFGCNT n) cnt
  let s := s.putOs n { s.osSt n with changed := some (s.instant 0 tag), cfgDue := true, enabled := true }
  s.event E.SHUTTLE_CFG_CHANGED n (leBytes 1 n ++ leBytes 4 cnt ++ leBytes 8 tag)

/-- A draft load: every stream starts anew, the last launched tags stay (R349). -/
def State.shuttleLoad (s : State) (generation : Nat) : State :=
  let s := s.setShuttle {}
  (List.range 64).foldl (fun s n => s.putFld (F.SHUTTLE_OSn_STATE_CFGCNT n) (if (s.os n).isSome then generation % 65536 else 0)) s

end Sys2Proof.Machine
end

