-- ==== Sys2Proof/Machine/Release.lean ====
section
/-!
DEFINITION. Sys2Proof/Machine/Release.lean: a released slot reaches its consumers (R189): capture, the Selvedge links; the Shuttle
reads it when it composes.
-/

namespace Sys2Proof.Machine

/-- A released slot goes to capture and to the Selvedge links, after its close pipeline (log 20). -/
def State.deliverSlot (s : State) (l tag : Nat) : State :=
  ((s.captRelease l tag).forwardSlot l tag).modSlot l tag (fun y => { y with passed := true })

/-- Every release of a lattice not yet passed on, in slot order. -/
def State.deliverLattice (s : State) (l : Nat) : State :=
  (((s.lat l).slots.filter (fun y => y.released.isSome && y.piped && !y.passed)).foldl (fun s y => s.deliverSlot l y.tag) s).pruneSlots l

/-- Every slot before the last S has closed: the old banks are released (R57). -/
def State.switchDone (s : State) : State :=
  let at' := s.instant 0 s.draft.lastSwitch
  let waits : Bool := [0, 1, 2, 3].any (fun l => (s.lat l).slots.any (fun y => y.opened && y.closed.isNone && decide (s.instant l y.tag < at')))
  if s.draft.switching && !waits then (s.setDraft { s.draft with switching := false }).raise I.DRAFT_SWITCH_DONE else s

/-- Every open set and slot is looked at, and what is released is passed on. -/
def State.loomRun (s : State) : State :=
  if s.domain pdLoom ≠ 0 then s
  else ([0, 1, 2, 3].foldl (fun s l => (s.evalLattice l).deliverLattice l) s).switchDone

end Sys2Proof.Machine
end

