-- ==== Sys2Proof/Machine/Heddle.lean ====
section
/-!
DEFINITION. Sys2Proof/Machine/Heddle.lean: the commands of HEDDLE (R113 to R141, R497). Each frame command takes the frame at the
front of Heddle's input when it is of its kind, and changes nothing otherwise.
-/

namespace Sys2Proof.Machine

/-- A frame of a stream that a patch has taken out of CFG_HOLD, stamped before that switch slot, is treated as the hold would have it
(R138): its threads read CONFIG_PENDING and it does not change the stream's state. -/
def State.underHold (s : State) (sid t : Nat) (f : State → State) : State :=
  match (s.streamSt sid).freed with
  | none => f s
  | some tag =>
    if s.instant 0 tag ≤ t then f s
    else
      let st := (s.streamSt sid).st
      (f (s.setStream sid 5)).setStream sid st

/-- A configuration judged (R126); Reed learns that the stream left RUNNING (R159). -/
def State.judge (s : State) (sid received expected cfgcnt : Nat) : State :=
  let old := (s.streamSt sid).st
  let s := s.judgeConfig sid received expected cfgcnt
  if (s.streamSt sid).st = 5 ∧ old ≠ 5 then s.reedDown sid else s

/-! C37.118.2 frames (R121). -/

/-- SYNC, FRAMESIZE and CHK (R121). -/
def c37Good (l : List Byte) : Bool :=
  decide (16 ≤ l.length) && beAt l 0 1 == 0xAA && beAt l 2 2 == l.length &&
    crc16 0xFFFF (l.take (l.length - 2)) == beAt l (l.length - 2) 2

/-- A C37.118 frame of one of the types leaves the input: the state after the common checks and its stream (SID, entry, stamp),
or none where it is dropped. -/
def State.takeC37 (s : State) (types : List Nat) (stamp : HedFrame → List Byte → Nat) :
    State × Option (HedFrame × Nat × List Byte × Nat) :=
  match s.hedQ with
  | [] => (s, none)
  | f :: r =>
    if !f.isC37 || !types.contains f.c37Type then (s, none)
    else
      let s := s.setHedQ r
      let l := f.payload
      if !c37Good l then (s.count R.HEDDLE_CRC_ERR, none)
      else
        match s.findByStamp (if f.kind = 1 then 1 else 2) (beAt l 4 2) 0 f (stamp f) with
        | none => (s.unknownStream f.c37Type f, none)
        | some (sid, e, t) => if !(s.streamSt sid).enabled then (s, none) else (s, some (f, sid, e, t))

/-- The source time stamp of a C37.118 frame under an entry, and whether SNAP missed (R122). -/
def State.c37Stamp (s : State) (l e : List Byte) : Nat × Bool :=
  let soc := beAt l 6 4
  let frac := beAt l 10 4
  let fr := frac % 2 ^ 24
  let tb := stTimeBase e
  let rate := stRate e
  let off : Int := match s.time.leapDone with
    | some d => if (soc : Int) = d - s.taiUtc ∧ !bit frac 29 ∧ s.fld F.TIME_UTC_DIRECTION = 0 then s.taiUtc - 1 else s.taiUtc
    | none => s.taiUtc
  let base := 1000000000 * (((soc : Int) + off).toNat)
  let plain := base + (1000000000 * (2 * fr) + tb) / (2 * tb)
  if !stFlag e 1 then (plain, false)
  else
    let k := (2 * fr * rate + tb) / (2 * tb)
    let d := max (fr * rate) (k * tb) - min (fr * rate) (k * tb)
    if d ≤ rate then (base + (1000000000 * (2 * k) + rate) / (2 * rate), false) else (plain, true)

/-- A data frame's items for one block. -/
def State.blockItems (s : State) (sid : Nat) (f : HedFrame) (frac time : Nat) (i : Nat) (blk : List Byte × Nat × List Byte) :
    State :=
  let stat := beAt blk.2.2 0 2
  let st := (s.streamSt sid).st
  let q := s.statQ frac stat
  let q := if st = 4 then setBit q qSrcErr else q
  let q := if f.kind = 5 ∧ s.syncErr then setBit q qSyncLoss else q
  let q := setIf f.test q qTest
  let cat (n : Nat) := s.catAt time (blk.2.1 + n)
  let convs := blockConvs blk.1 blk.2.2 cat
  let one (n : Nat) (c : Conv) : Option Item :=
    if !catEmit (cat n) then none
    else if st = 5 then some (mkItem (blk.2.1 + n) absentWord (setIf f.test (qAbsentFor rConfigPending) qTest) time)
    else if bits stat 15 14 = 3 then some (mkItem (blk.2.1 + n) absentWord q time)
    else some (convItem (blk.2.1 + n) c q time)
  let items := (convs.zipIdx).filterMap (fun x => one x.2 x.1)
  let s := s.setReedQ (s.reedQ ++ items)
  s.pushKind 3 (fun e => if bits e 16 4 = sid ∧ bits e 25 17 = i then some (bit stat (bits e 29 26)) else none) time

/-- STAT bit 10 in a data frame (R125): the stream leaves RUNNING for CFG_CHANGED, and its configuration is asked for: CFG-3 of a VERSION 2
stream whose last configuration frame was one, else CFG-2. -/
def State.cfgChanged (s : State) (sid : Nat) (e : List Byte) : State :=
  if (s.streamSt sid).st = 2 then
    let s := (s.setStream sid 4).reedDown sid
    if stFlag e 4 || s.isSet F.HEDDLE_CTRL_AUTO_CFG_REQ then
      s.requestCommand sid (if stVersion e = 2 ∧ (s.streamSt sid).cfg3 then 6 else 5)
    else s
  else s

/-- C37_DATA_FRAME. -/
def State.c37Data (s : State) : State :=
  match s.takeC37 [0] (fun f e => (s.c37Stamp f.payload e).1) with
  | (s, none) => s
  | (s, some (f, sid, e, t)) =>
    let l := f.payload
    let body := s.cfgAt secStreams t
    let descs := (List.range (stBlocks e)).map (fun i => entryOf body 1 (stFirstBlock e + i))
    let blocks := frameBlocks descs (stFirstTid e) (l.drop 14)
    if beAt l 1 1 % 16 ≠ stVersion e then s.count R.HEDDLE_VERSION_ERR
    else if l.length ≠ stFrameSize e ∨ 16 + (descs.map blockBytes).sum ≠ l.length then s.count R.HEDDLE_LAYOUT_ERR
    else
      let x := s.streamSt sid
      let j := x.judge (stRate e) t
      if j = 1 then s.count R.HEDDLE_DUPLICATE
      else if j = 2 then s.count R.HEDDLE_STALE
      else
        let s := if (s.c37Stamp l e).2 then s.count R.HEDDLE_SNAP_MISS else s
        let s := s.putStream sid ((x.accept (stRate e) t s.bases.mono (f.port, slice f.bytes 6 6, f.srcIp, f.srcUdp)).frame s.bases.mono)
        (s.count R.HEDDLE_FRAMES_OK).underHold sid t (fun s =>
          let s := s.streamUp sid
          let s := if blocks.any (fun b => bit (beAt b.2.2 0 2) 10) then s.cfgChanged sid e else s
          (blocks.zipIdx).foldl (fun s b => s.blockItems sid f (beAt l 10 4) t b.2 b.1) s)

def execC37DataFrame (t : Nat) (s : State) : Host.Outcome State Fault Refusal :=
  run t (fun s => (State.c37Data s).loomRun) s

/-- C37_CONFIG_FRAME (R126, R134): copied, and its signature judged against the entry. -/
def State.c37Config (s : State) : State :=
  match s.takeC37 [2, 3, 5] (fun f e => (s.c37Stamp f.payload e).1) with
  | (s, none) => s
  | (s, some (f, sid, e, _)) =>
    let s := s.cfgCopy sid f.c37Type f
    let s := s.putStream sid { s.streamSt sid with cfg3 := f.c37Type == 5 }
    match cfgSignature f.c37Type f.payload with
    | none => s.count R.HEDDLE_LAYOUT_ERR
    | some (sig, cnt) => s.judge sid sig (stCfgSig e) cnt

def execC37ConfigFrame (t : Nat) (s : State) : Host.Outcome State Fault Refusal :=
  run t (fun s => (State.c37Config s).loomRun) s

/-- C37_HEADER_FRAME (R121, R134): copied when `HEDDLE_CTRL.HEADER_TO_HOST` is set. -/
def State.c37Header (s : State) : State :=
  match s.takeC37 [1] (fun f e => (s.c37Stamp f.payload e).1) with
  | (s, none) => s
  | (s, some (f, sid, _, _)) => if s.isSet F.HEDDLE_CTRL_HEADER_TO_HOST then s.cfgCopy sid 1 f else s

def execC37HeaderFrame (t : Nat) (s : State) : Host.Outcome State Fault Refusal := run t State.c37Header s

/-- C37_COMMAND_FRAME (R121): a command frame, or one of a reserved type, is dropped. -/
def State.c37Command (s : State) : State :=
  match s.takeC37 [4, 6, 7] (fun f e => (s.c37Stamp f.payload e).1) with
  | (s, none) => s
  | (s, some _) => s.count R.HEDDLE_TYPE_DROP

def execC37CommandFrame (t : Nat) (s : State) : Host.Outcome State Fault Refusal := run t State.c37Command s

/-! IEC 61850-90-5 sessions (R127 to R129). -/

/-- The fields of a session PDU (the byte layout of IEC 61850-90-5: log 17). -/
structure Session where
  id : Nat
  spdu : Nat
  version : Nat
  nextKey : Nat
  encrypt : Nat
  auth : Nat
  keyId : Nat
  iv : List Byte
  tag : Nat
  simulated : Bool
  appid : Nat
  apdu : List Byte
  /-- The span that is authenticated: from the session header to the end of the payload. -/
  span : List Byte
  mac : List Byte
  deriving DecidableEq, Repr

/-- The session PDU in a UDP payload. -/
def readSession (l : List Byte) : Session :=
  let p := l.drop 2
  let nIv := beAt p 26 1
  let q := 27 + nIv + 4
  let n := beAt p (q + 4) 2
  let fin := q + 6 + n
  { id := beAt p 0 1
    spdu := beAt p 8 4
    version := beAt p 12 2
    nextKey := beAt p 18 2
    encrypt := beAt p 20 1
    auth := beAt p 21 1
    keyId := beAt p 22 4
    iv := slice p 27 nIv
    tag := beAt p q 1
    simulated := beAt p (q + 1) 1 != 0
    appid := beAt p (q + 2) 2
    apdu := slice p (q + 6) n
    span := p.take fin
    mac := if beAt p fin 1 = 0x85 then slice p (fin + 2) (beAt p (fin + 1) 1) else [] }

/-- The slot that decides for a key ID: the lowest of the group that holds it (R139). -/
def State.keySlot (s : State) (first id : Nat) : Option KeySlot :=
  ((((keyGroup first).mergeSort (· ≤ ·)).filterMap (fun i => smFind s.heddle.keys i)).find? (fun k => k.id == id))

/-- Why a session PDU fails authentication (R128): 0 key not found, 1 key not yet valid, 2 algorithm, 3 value; none where it
passes (log 11). -/
def State.authFailure (s : State) (e : List Byte) (x : Session) (stamp : Nat) : Option Nat :=
  if x.auth = 0 then (if stFlag e 2 then some 2 else none)
  else
    match s.keySlot (stKeyGroup e) x.keyId with
    | none => some 0
    | some k =>
      if stamp < 1000000000 * k.validFrom then some 1
      else if k.alg ≠ x.auth then some 2
      else if authValue k x.iv x.span ≠ x.mac then some 3
      else none

/-- The ASDUs of a savPdu: the elements of each. -/
def asdus (apdu : List Byte) : List (List (Nat × List Byte)) :=
  match berFind (ber apdu) 0x60 with
  | some pdu => ((berFind (ber pdu) 0xA2).getD [] |> ber).filterMap (fun e => if e.1 = 0x30 then some (ber e.2) else none)
  | none => []

/-- CRC-32C of the svID of the first ASDU (R114). -/
def svHash (l : List (List (Nat × List Byte))) : Nat := crc32c ones32 ((berFind (l.headD []) 0x80).getD [])

/-- The members a thread takes in a 90-5 dataset, as R347 sends them: two for a phasor or frequency, one otherwise (log 16). -/
def members (ty : Nat) : Nat := if ty = 0 ∨ ty = 1 ∨ ty = 4 then 2 else 1

/-- The items of a 90-5 ASDU: the dataset walked along the TID run (R129). -/
def svItems (cat : Nat → List Byte) (qual : Nat → Nat) (absent : Option Nat) (time : Nat) :
    Nat → Nat → List Byte → List Item
  | 0, _, _ => []
  | n + 1, tid, l =>
    let e := cat tid
    let ty := catType e
    let m := members ty
    let a := beAt l 0 4
    let b := beAt l 8 4
    let q := if m = 2 then joinQuality (qual (beAt l 4 4)) (qual (beAt l 12 4)) else qual (beAt l 4 4)
    let conv : Conv :=
      if ty = 0 then
        (if isNan32 a || isNan32 b then .nanSource
         else if !Fp.finite32 (Fp.mul32 a (catScale e)) || !Fp.finite32 b then .notFinite
         else .word (pairWord (Fp.mul32 a (catScale e)) (Fp.toTurn (Fp.toRat32 b / 360))))
      else if ty = 1 then convFreq 8 0 a b
      else if ty = 2 then convAnalog true a (catScale e) (catOffset e)
      else .word (convDigital a (catNominal e))
    let item := match absent with
      | some r => mkItem tid absentWord (qAbsentFor r) time
      | none => if bit q qAbsent then mkItem tid absentWord q time else convItem tid conv q time
    (if catEmit e then [item] else []) ++ svItems cat qual absent time n (tid + 1) (l.drop (8 * m))

/-- A 90-5 ASDU is accepted (R124, R129) and decoded; `failed`: its authentication failed. -/
def State.sessionAsdu (s : State) (f : HedFrame) (sid : Nat) (e : List Byte) (failed : Bool) (a : List (Nat × List Byte)) : State :=
  match berFind a 0x84 with
  | none => s.count R.HEDDLE_LAYOUT_ERR
  | some rt =>
    let t := s.utcTime rt
    let x := s.streamSt sid
    let j := x.judge (stRate e) t
    if j = 1 then s.count R.HEDDLE_DUPLICATE
    else if j = 2 then s.count R.HEDDLE_STALE
    else
      let s := s.putStream sid (x.accept (stRate e) t s.bases.mono (f.port, slice f.bytes 6 6, f.srcIp, f.srcUdp))
      (s.count R.HEDDLE_FRAMES_OK).underHold sid t (fun s =>
        let s := (s.streamUp sid).judge sid (beNat ((berFind a 0x83).getD [])) (stCfgSig e) 0
        let absent := if failed then some rAuthFail else if (s.streamSt sid).st = 5 then some rConfigPending else none
        let synch := beNat ((berFind a 0x85).getD [])
        let items := svItems (s.catAt t) (fun q => setIf f.test (svQuality synch (stFlag e 5) q) qTest) absent t (stThreads e) (stFirstTid e) ((berFind a 0x87).getD [])
        s.setReedQ (s.reedQ ++ items))

/-- Is an SPDU number later, modulo 2³², within half the range (R128)? -/
def laterSpdu (last n : Nat) : Bool := let d := (n + 2 ^ 32 - last) % 2 ^ 32; d != 0 && decide (d < 2 ^ 31)

/-- A session PDU's authentication has been judged (R128): counted, recorded, its SPDU number kept. -/
def State.sessionAuth (s : State) (sid : Nat) (e : List Byte) (x : Session) (fail : Option Nat) : State :=
  let s := match fail with
    | some c => ((s.count R.HEDDLE_AUTH_FAIL).event E.HEDDLE_AUTH_FAIL sid
        (leBytes 2 sid ++ leBytes 4 x.keyId ++ leBytes 1 c)).raise I.HEDDLE_AUTH_FAIL
    | none => s
  let s := if x.auth ≠ 0 ∧ fail.isNone then s.putStream sid { s.streamSt sid with spdu := some x.spdu } else s
  let others := (keyGroup (stKeyGroup e)).filterMap (fun i => smFind s.heddle.keys i)
  if x.auth ≠ 0 ∧ x.nextKey < 60 ∧ !others.any (fun k => k.id != x.keyId) then s.raise I.HEDDLE_KEY_EXPIRING else s

/-- A session PDU of a stream (R127, R128): one whose SPDU number is not later than the last authenticated one is a replay, whatever its
authentication; any other gives its ASDUs. -/
def State.sessionTaken (s : State) (f : HedFrame) (sid : Nat) (e : List Byte) (x : Session) (l : List (List (Nat × List Byte))) : State :=
  if (match (s.streamSt sid).spdu with | some n => !laterSpdu n x.spdu | none => false) then
    (s.count R.HEDDLE_REPLAY).raise I.HEDDLE_AUTH_FAIL
  else
    let fail := s.authFailure e x f.stamp
    (l.foldl (fun s a => s.sessionAsdu f sid e fail.isSome a) (s.sessionAuth sid e x fail)).frameSeen sid (s.streamSt sid).stamps

/-- A session PDU is read and its stream found (R127). -/
def State.sessionRead (s : State) (f : HedFrame) (x : Session) : State :=
  let l := asdus x.apdu
  if x.id ≠ 0xA2 then s.count R.HEDDLE_TYPE_DROP
  else if x.version ≠ 1 then s.count R.HEDDLE_VERSION_ERR
  else if x.tag ≠ 0x82 then s.count R.HEDDLE_LAYOUT_ERR
  else if x.encrypt ≠ 0 then s.count R.HEDDLE_ENCRYPTED_DROP
  else if (authTag x.auth).isNone then s.count R.HEDDLE_AUTH_FAIL
  else
    match s.findByStamp 3 x.appid (svHash l) f (fun _ => s.utcTime ((berFind (l.headD []) 0x84).getD [])) with
    | none => s.unknownStream 0 f
    | some (sid, e, _) =>
      if !(s.streamSt sid).enabled then s
      else if x.simulated && !stFlag e 3 then s.count R.HEDDLE_SIM_DROP
      else s.sessionTaken f sid e x l

/-- SESSION_PDU. -/
def State.sessionPdu (s : State) : State :=
  match s.hedQ with
  | [] => s
  | f :: r => if f.kind ≠ 2 then s else (s.setHedQ r).sessionRead f (readSession f.payload)

def execSessionPdu (t : Nat) (s : State) : Host.Outcome State Fault Refusal :=
  run t (fun s => (State.sessionPdu s).loomRun) s

/-! IEC 61850-9-2 sampled values (R130 to R132). -/

/-- The sample instant (R132): the latest second boundary that puts it at or before the arrival stamp. -/
def svInstant (stamp rate cnt : Nat) : Nat :=
  let off := (1000000000 * (2 * cnt) + rate) / (2 * rate)
  let sec := stamp / 1000000000
  if 1000000000 * sec + off ≤ stamp then 1000000000 * sec + off else 1000000000 * sec + off - 1000000000

/-- One ASDU of a 9-2 frame. -/
def State.svAsdu (s : State) (f : HedFrame) (sid : Nat) (e : List Byte) (a : List (Nat × List Byte)) : State :=
  let cnt := beNat ((berFind a 0x82).getD [])
  let rate := stRate e
  let data := (berFind a 0x87).getD []
  if rate ≤ cnt ∨ data.length < 8 * stBlocks e then s.count R.HEDDLE_LAYOUT_ERR
  else
    let t := svInstant f.stamp rate cnt
    let x := s.streamSt sid
    let j := x.judge rate t
    if j = 1 then s.count R.HEDDLE_DUPLICATE
    else if j = 2 then s.count R.HEDDLE_STALE
    else
      let s := s.putStream sid (x.accept rate t s.bases.mono (f.port, slice f.bytes 6 6, [], 0))
      s.underHold sid t (fun s =>
        let s := (s.streamUp sid).judge sid (beNat ((berFind a 0x83).getD [])) (stCfgSig e) 0
        let held := (s.streamSt sid).st == 5
        let synch := beNat ((berFind a 0x85).getD [])
        let one (i : Nat) : WaveSample :=
          ⟨stFirstWid e + i, t, beAt data (8 * i) 4,
            setIf f.test (if held then qAbsentFor rConfigPending else svQuality synch (stFlag e 5) (beAt data (8 * i + 4) 4)) qTest⟩
        s.setWaveQ (s.waveQ ++ (List.range (stBlocks e)).map one))

/-- SV_FRAME. -/
def State.svFrame (s : State) : State :=
  match s.hedQ with
  | [] => s
  | f :: r =>
    if f.kind ≠ 3 then s
    else
      let s := s.setHedQ r
      let p := f.payload
      let l := (asdus (p.drop 8)).take 8
      let instant (e : List Byte) := svInstant f.stamp (max 1 (stRate e)) (beNat ((berFind (l.headD []) 0x82).getD []))
      match s.findByStamp 4 (beAt p 0 2) (svHash l) f instant with
      | none => s.unknownStream 0 f
      | some (sid, e, _) =>
        if !(s.streamSt sid).enabled then s
        else if bit (beAt p 4 2) 15 && !stFlag e 3 then s.count R.HEDDLE_SIM_DROP
        else (l.foldl (fun s a => s.svAsdu f sid e a) (s.count R.HEDDLE_FRAMES_OK)).frameSeen sid (s.streamSt sid).stamps

def execSvFrame (t : Nat) (s : State) : Host.Outcome State Fault Refusal :=
  run t (fun s => (State.svFrame s).loomRun) s

/-! Subscribed GOOSE (R135, R136). -/

/-- Does a message match an enabled entry, confRev apart? -/
def gooseMatches (e : List Byte) (f : HedFrame) (appid hash : Nat) (sim : Bool) : Bool :=
  bit (leAt e 0 1) 0 && bit (leAt e 1 1) f.port && leAt e 2 2 == appid && leAt e 4 4 == hash &&
    ((slice e 8 6).all (· == 0) || slice e 8 6 == slice f.bytes 6 6) && (!sim || bit (leAt e 0 1) 1)

/-- The booleans of a message's allData, by member of the entry's MAP; none where the member maps none. -/
def gooseValue (e : List Byte) (data : List (Nat × List Byte)) (n : Nat) : Option Bool :=
  if gsMap e n = 0xFF then none
  else match data[gsMap e n]? with
    | some d => some (beNat d.2 != 0)
    | none => none

/-- A new state (R136): the digital thread is written, the trigger inputs follow. -/
def State.gooseState (s : State) (e : List Byte) (data : List (Nat × List Byte)) (time : Nat) (test : Bool) : State :=
  let vals := bitsOf 16 (fun n => (gooseValue e data n).getD false)
  let mask := bitsOf 16 (fun n => (gooseValue e data n).isSome)
  let s := match gsTid e with
    | some tid => if catEmit (s.catAt time tid) then
        s.setReedQ (s.reedQ ++ [mkItem tid (convDigital vals mask) (setIf test 1 qTest) time]) else s
    | none => s
  (List.range 16).foldl (fun s n =>
    if bit (leAt e 0x3A 2) n then
      match gooseValue e data n with
      | some v => s.pushInput (gsTrig e n) (v != bit (leAt e 0x38 2) n) time
      | none => s
    else s) s

/-- GOOSE_MESSAGE. A message is simulated by bit 15 of Reserved 1 or by the goosePdu's simulation field (tag 0x87). -/
def State.gooseMessage (s : State) : State :=
  match s.hedQ with
  | [] => s
  | f :: r =>
    if f.kind ≠ 0 then s
    else
      let s := s.setHedQ r
      let p := f.payload
      match berFind (ber (p.drop 8)) 0x61 with
      | none => s
      | some pdu =>
        let a := ber pdu
        let num (tag : Nat) := beNat ((berFind a tag).getD [])
        let hash := crc32c ones32 ((berFind a 0x80).getD [])
        match (tableOf (s.cfg secStreams) 2).find? (fun e => gooseMatches e.2 f (beAt p 0 2) hash (bit (beAt p 4 2) 15 || num 0x87 != 0)) with
        | none => s
        | some (i, e) =>
          let rev := num 0x88
          if rev ≠ leAt e 0x10 4 then s.event E.HEDDLE_GOOSE_CONFREV i (leBytes 2 i ++ leBytes 4 rev)
          else
            let st := num 0x85
            let sq := num 0x86
            let ttl := 1000000 * (num 0x81)
            let time := s.utcTime ((berFind a 0x84).getD [])
            let data := ber ((berFind a 0xAB).getD [])
            let test := f.test
            let old := smFind s.heddle.goose i
            let keep (s : State) : State := s.setHeddle { s.heddle with
              goose := smPut s.heddle.goose i ⟨st, sq, s.bases.mono + ttl, false⟩ }
            match old with
            | none => ((keep s).count R.HEDDLE_GOOSE_OK).gooseState e data time test
            | some g =>
              if g.stNum < st ∨ (g.stNum = 2 ^ 32 - 1 ∧ st < g.stNum) then ((keep s).count R.HEDDLE_GOOSE_OK).gooseState e data time test
              else if st = g.stNum then
                (if g.sqNum < sq ∨ g.expired then
                  let s := (keep s).count R.HEDDLE_GOOSE_OK
                  if g.expired then s.gooseState e data time test else s
                 else s)
              else s.count R.HEDDLE_GOOSE_OOO

def execGooseMessage (t : Nat) (s : State) : Host.Outcome State Fault Refusal := run t State.gooseMessage s

/-- GOOSE_TAL_EXPIRED (R136): timeAllowedToLive after the last accepted message. Reed learns that the thread's value no longer stands, and the
Loom marks the thread STREAM_DOWN until the next accepted message. -/
def State.gooseExpired (s : State) (i : Nat) : State :=
  match smFind s.heddle.goose i with
  | some g =>
    if g.expired || decide (s.bases.mono < g.expires) then s
    else
      let s := s.setHeddle { s.heddle with goose := smPut s.heddle.goose i { g with expired := true } }
      let s := match gsTid (entryOf (s.cfg secStreams) 2 i) with
        | some tid => if catEmit (s.cat tid) then s.setReedQ (s.reedQ ++ [mkItem tid absentWord (qAbsentFor rStreamDown) s.now]) else s
        | none => s
      ((s.count R.HEDDLE_GOOSE_TAL_EXPIRED).event E.HEDDLE_GOOSE_TAL_EXPIRED i (leBytes 2 i ++ leBytes 4 g.stNum)).raise I.HEDDLE_GOOSE_TAL
  | none => s

def execGooseTalExpired (t entry : Nat) (s : State) : Host.Outcome State Fault Refusal := run t (·.gooseExpired entry) s

/-! Host injection (R133). -/

/-- INJECTED_FRAME: the packet at the front of the injection queue is checked and, where it is good, handled as a class 1 frame from
then on; one with STAMP 0 is stamped now. Decoding is off outside M3 to M10 (R497). -/
def State.injected (s : State) : State :=
  if s.mode < 3 ∨ 10 < s.mode then s
  else
    match s.consumerQueue F.HEDDLE_QUEUES_INJECT_QUEUE with
    | none => s
    | some q =>
      match (s.queue q).packets with
      | [] => s
      | (_, p) :: _ =>
        let s := s.popPacket q
        let sid := leAt p 8 2
        let n := leAt p 12 2
        let e := s.stream sid
        if 8192 ≤ sid ∨ leAt p 10 1 ≠ 2 ∨ n < 8 ∨ p.length < 16 + n ∨ stClass e ≠ 2 ∨ !stFlag e 0 then s.count R.HEDDLE_INJECT_BAD
        else
          let st := leAt p 0 8
          s.setHedQ (s.hedQ ++ [⟨0, if st = 0 then s.now else st, s.onTest, if st = 0 then 5 else 4, [], slice p 16 n, [], 0⟩])

def execInjectedFrame (t : Nat) (s : State) : Host.Outcome State Fault Refusal := run t State.injected s

/-! Timers (R137). -/

/-- The silence timeout of an entry in ns. -/
def State.silenceTime (s : State) (e : List Byte) : Nat :=
  let rate := max 1 (stRate e)
  max ((1000000000 * (stSilence e) + rate - 1) / rate) (1000000 * (s.fld F.HEDDLE_SILENCE_MIN_MS))

/-- SILENCE_TIMEOUT: not in M2 (R497). -/
def State.silence (s : State) (sid : Nat) : State :=
  let st := s.streamState sid
  let from' := ((s.streamSt sid).ref).getD s.heddle.start
  if (st = 1 ∨ st = 2 ∨ st = 4) ∧ 3 ≤ s.mode ∧ s.mode ≤ 10 ∧ from' + s.silenceTime (s.stream sid) ≤ s.bases.mono then
    (((s.setStream sid 3).reedDown sid).event E.HEDDLE_STREAM_DOWN sid (leBytes 2 sid ++ leBytes 8 (s.streamSt sid).last)).raise I.HEDDLE_STREAM_DOWN
  else s

def execSilenceTimeout (t sid : Nat) (s : State) : Host.Outcome State Fault Refusal := run t (fun s => (s.silence sid).loomRun) s

/-- DATA_ON_RETRY: every 10 s to a CMD_START stream that is WAITING or SILENT, in M2 as well. -/
def State.dataOnRetry (s : State) (sid : Nat) : State :=
  let e := s.stream sid
  let x := s.streamSt sid
  let st := s.streamState sid
  let due : Bool := match x.dataOn with | some m => decide (m + 10000000000 ≤ s.bases.mono) | none => true
  if (st = 1 ∨ st = 3) ∧ stFlag e 4 ∧ (stClass e = 1 ∨ stClass e = 2) ∧ due then
    (s.putStream sid { x with dataOn := some s.bases.mono }).requestCommand sid 2
  else s

def execDataOnRetry (t sid : Nat) (s : State) : Host.Outcome State Fault Refusal := run t (·.dataOnRetry sid) s

/-! Commands (R140). -/

/-- STREAM_STATE. -/
def cmdStreamState (s : State) : CmdResult :=
  let sid := s.arg 4 0
  if 8191 < sid then refuse s stBadArg
  else if stClass (s.stream sid) = 0 then ok s
  else
    let x := s.streamSt sid
    let n := (x.frames.filter (fun m => decide (s.bases.mono < m + 1000000000))).length
    { state := s, r0 := 65536 * (min n 65535) + s.streamState sid, r1 := x.last % 2 ^ 32 }

def execStreamState (t : Nat) (path : Path) (s : State) : Host.Outcome State Fault Refusal := command t 4 1 path cmdStreamState s

/-- STREAM_ENABLE (R137, R139): the run-time enable; never overrides the entry. -/
def cmdStreamEnable (s : State) : CmdResult :=
  let sid := s.arg 4 0
  let v := s.arg 4 1
  let e := s.stream sid
  if s.mode < 2 ∨ 10 < s.mode then refuse s stIllegal
  else if 8191 < sid ∨ stClass e = 0 ∨ 1 < v then refuse s stBadArg
  else if v = 1 then
    if !stFlag e 0 ∨ s.streamState sid = 5 then refuse s stIllegal
    else if (s.streamSt sid).enabled then ok s
    else ok ((s.putStream sid { s.streamSt sid with enabled := true }).enterWaiting sid)
  else ok ((s.putStream sid { s.streamSt sid with enabled := false }).reedDown sid).loomRun

def execStreamEnable (t : Nat) (path : Path) (s : State) : Host.Outcome State Fault Refusal := command t 4 2 path cmdStreamEnable s

/-- REQUEST_CFG (R139, R348). -/
def cmdRequestCfg (s : State) : CmdResult :=
  let sid := s.arg 4 0
  let v := s.arg 4 1
  let c := stClass (s.stream sid)
  if 8191 < sid ∨ (c ≠ 1 ∧ c ≠ 2) ∨ (v ≠ 2 ∧ v ≠ 3) then refuse s stBadArg
  else match s.sendCommand sid (if v = 2 then 5 else 6) with
    | some s => ok s
    | none => refuse s stBusy

def execRequestCfg (t : Nat) (path : Path) (s : State) : Host.Outcome State Fault Refusal := command t 4 3 path cmdRequestCfg s

/-- KEY_LOAD (R128): the stage registers go to the slot and are cleared. -/
def cmdKeyLoad (s : State) : CmdResult :=
  let i := s.arg 4 0
  let w (n : Nat) := s.regN (R.HEDDLE_KEY_STAGEn n)
  let alg := w 1 % 8
  if 63 < i then refuse s stBadArg
  else
    let k : KeySlot := ⟨w 0, alg, w 2 + 2 ^ 32 * w 3, ((List.range 8).map (fun n => beBytes 4 (w (4 + n)))).flatten⟩
    let s := s.setHeddle { s.heddle with keys := smPut s.heddle.keys i k }
    let s := (List.range 12).foldl (fun s n => s.putReg (R.HEDDLE_KEY_STAGEn n) 0) s
    ok (s.event E.HEDDLE_KEY_LOADED i (leBytes 1 i ++ leBytes 4 k.id ++ leBytes 8 k.validFrom))

def execKeyLoad (t : Nat) (path : Path) (s : State) : Host.Outcome State Fault Refusal := command t 4 4 path cmdKeyLoad s

/-- KEY_INVALIDATE. -/
def cmdKeyInvalidate (s : State) : CmdResult :=
  let i := s.arg 4 0
  if 63 < i then refuse s stBadArg
  else ok (s.setHeddle { s.heddle with keys := smDel s.heddle.keys i })

def execKeyInvalidate (t : Nat) (path : Path) (s : State) : Host.Outcome State Fault Refusal := command t 4 5 path cmdKeyInvalidate s

end Sys2Proof.Machine
end

