-- ==== Sys2Proof/Machine/Reed.lean ====
section
/-!
DEFINITION. Sys2Proof/Machine/Reed.lean: the commands of REED (R142 to R174): thread items, waveform samples with the phasor
estimator (R161 to R167) and the detectors (R168), and the block's commands.
-/

namespace Sys2Proof.Machine

open Fp

/-! Thread items. -/

/-- Taps a thread's history keeps: the span of its kernel in the configuration of the newest tap and of the next slot to be formed, so
that slots before a switch still find the kernel of their own configuration (R143). -/
def State.tapsKept (s : State) (tid time : Nat) : Nat :=
  let len (instant : Nat) : Nat := let e := s.catAt instant tid; historyLength (catKernel e) (catType e)
  max (len time) (match (s.thread tid).upto with | some u => len (u + 1) | none => 0)

/-- Samples of a frequency thread kept for the phasors of its stream (R157): more than the longest kernel reaches back. -/
abbrev freqsKept : Nat := 48

/-- A tap reaches a thread's history (R142, R160); the outputs it completes follow. -/
def State.enterTap (s : State) (tid : Nat) (y : ReedTap) : State :=
  let x := s.thread tid
  let n := s.tapsKept tid y.time
  let late (s : State) : State := (s.count R.REED_LATE_INPUT).raise I.REED_LATE_INPUT
  let newest := (x.taps.getLast?.map (·.time)).getD 0
  let freqs := if catType (s.catAt y.time tid) = 1 then newestTaps freqsKept (insertTap x.freqs y) else x.freqs
  if x.taps.any (fun z => z.time == y.time) then late s
  else if x.taps.isEmpty ∨ newest < y.time then
    (s.putThread tid { x with taps := newestTaps n (insertTap x.taps y), ended := false, freqs := freqs }).runThread tid
  else if y.time < (x.taps.head?.map (·.time)).getD 0 then late s
  else (late (s.putThread tid { x with taps := newestTaps n (insertTap x.taps y), freqs := freqs })).runThread tid

/-- REED_ITEM: the item at the front of Reed's input, `fails` of whose two readings fail their check (R142, R144). -/
def State.reedItem (s : State) (fails : Nat) : State :=
  match s.reedQ with
  | [] => s
  | it :: r =>
    let s := s.setReedQ r
    if s.shedSet (catSet (s.catAt it.time it.tid)) then s.count R.LOOM_SHED_ITEMS
    else
    let s := (s.count R.REED_IN_ITEMS).reedLoad 0
    let fails := if it.code = checkCode it.word it.quality it.tid it.time then fails else 2
    let c := s.checkedRead fails 5 pdReed R.REED_CHECK_RETRY R.REED_CHECK_FAIL E.REED_CHECK_RETRY E.REED_CHECK_FAIL it.tid
      I.REED_CHECK_FAIL (leBytes 3 it.tid ++ leBytes 8 it.time)
    c.1.enterTap it.tid ⟨it.time, it.word, it.quality, !c.2⟩

def execReedItem (t fails : Nat) (s : State) : Host.Outcome State Fault Refusal := run t (·.reedItem fails) s

/-! Waveform samples. -/

def State.wave (s : State) (wid : Nat) : WaveSt := smGet {} s.reed.waves wid

def State.putWave (s : State) (wid : Nat) (x : WaveSt) : State := s.setReed { s.reed with waves := smPut s.reed.waves wid x }

/-- A held sample that is present: raw value and quality. -/
def WaveSt.get (x : WaveSt) (n : Nat) : Option (Nat × Nat) :=
  match x.samples.find? (fun y => y.1 == n) with
  | some (_, raw, q) => if bit q qAbsent then none else some (raw, q)
  | none => none

/-- Was the sample received as invalid? -/
def WaveSt.invalid (x : WaveSt) (n : Nat) : Bool :=
  x.samples.any (fun y => y.1 == n && bit y.2.2 qAbsent && qReason y.2.2 == rSourceInvalid)

/-- The samples n to m, the missing ones filled by linear interpolation between their neighbours: value, or none at an end
where there is no neighbour. -/
def WaveSt.filled (x : WaveSt) (n : Nat) : Rat :=
  match x.get n with
  | some (raw, _) => ((signed 32 raw : Int) : Rat)
  | none =>
    let lo := [1, 2, 3].findSome? (fun d => (x.get (n - d)).map (fun v => (d, v.1)))
    let hi := [1, 2, 3].findSome? (fun d => (x.get (n + d)).map (fun v => (d, v.1)))
    match lo, hi with
    | some (a, u), some (b, v) =>
      let u : Rat := ((signed 32 u : Int) : Rat)
      u + (((signed 32 v : Int) : Rat) - u) * (a : Rat) / ((a + b : Nat) : Rat)
    | some (_, u), none => ((signed 32 u : Int) : Rat)
    | none, some (_, v) => ((signed 32 v : Int) : Rat)
    | none, none => 0

/-- The quality over a window (R166, R168), and how many of its samples are missing: SYNC_LOSS, SRC_ERR and TEST are ORed over the samples
received, whether the output is present or absent. -/
def State.windowQuality (s : State) (sid : Nat) (x : WaveSt) (ns : List Nat) : Nat × Nat :=
  let missing := ns.filter (fun n => (x.get n).isNone)
  let carried := 2 ^ qSyncLoss + 2 ^ qSrcErr + 2 ^ qTest
  let q := ns.foldl (fun a n => match x.samples.find? (fun y => y.1 == n) with
    | some (_, _, q) => a ||| (q &&& carried)
    | none => a) 1
  let q := setIf s.syncErr q qSyncLoss
  if 2 < missing.length then
    let st := s.streamState sid
    (makeAbsent q (if x.down ∨ st = 3 ∨ st = 0 then rStreamDown else if missing.any x.invalid then rSourceInvalid else rNotArrived),
      missing.length)
  else (setIf (!missing.isEmpty) q qInterp, missing.length)

/-! The phasor estimator (R162). -/

/-- h(k). -/
def estWeight (m : Bool) (sr f0 fl : Nat) (k : Int) : Rat :=
  if m then
    let kk := estHalf m sr f0 fl
    let v : Rat := 2 * mkRat (fl : Nat) 5 * (k : Rat) / sr
    let sinc := if v = 0 then 1 else sinT (v / 2) / (piR * v)
    r64 (sinc * (mkRat 54 100 + mkRat 46 100 * cosT ((k : Rat) / (2 * kk : Nat))))
  else r64 (1 - mkRat k.natAbs (sr / f0))

/-- A sum over k = −h to h, in binary64. -/
def sumK (h : Nat) (f : Int → Rat) : Rat :=
  (List.range (2 * h + 1)).foldl (fun (a : Rat) (i : Nat) => r64 (a + r64 (f ((i : Int) - (h : Int))))) 0

/-- The phasor of a WID at an instant: magnitude with |H(df)| put right, and angle in turns. `t k` is the corrected instant of sample
c + k. -/
def estPhasor (m : Bool) (sr f0 fl : Nat) (df : Rat) (x : Int → Rat) (t : Int → Int) : Rat × Rat :=
  let h := estHalf m sr f0 fl
  let w := estWeight m sr f0 fl
  let g := sumK h w
  let ph (k : Int) : Rat := ((t k * f0 % 1000000000 : Int) : Rat) / 1000000000
  let c := r64 (r64 (sqrtRat 2) / g)
  let re := r64 (c * sumK h (fun k => w k * x k * cosT (ph k)))
  let im := r64 (-c * sumK h (fun k => w k * x k * sinT (ph k)))
  let hp (k : Int) : Rat := df * (k : Rat) / sr
  let hr := r64 (sumK h (fun k => w k * cosT (hp k)) / g)
  let hi := r64 (sumK h (fun k => w k * sinT (hp k)) / g)
  let hm := r64 (sqrtRat (hr * hr + hi * hi))
  let mag := r64 (sqrtRat (re * re + im * im))
  (if hm = 0 then mag else mag / hm, atan2T im re)

def State.group (s : State) (g : Nat) : GroupSt := smGet {} s.reed.groups g

def State.putGroup (s : State) (g : Nat) (x : GroupSt) : State := s.setReed { s.reed with groups := smPut s.reed.groups g x }

/-- An angle difference in turns brought into −½ to ½ (R163). -/
def wrapTurn (x : Rat) : Rat := x - ((rint x : Int) : Rat)

/-- A complex number turned by an angle in turns. -/
def turnedBy (v : Rat × Rat) (a : Rat) : Rat × Rat := (r64 (v.1 * cosT a - v.2 * sinT a), r64 (v.1 * sinT a + v.2 * cosT a))

/-- X1 of a group (R163): of three members, (Xa + a Xb + a² Xc) / 3; of one, its phasor. -/
def groupPhasor (ms : List MemberPhasor) : Rat × Rat :=
  let part (k : Nat) : Rat × Rat := ((ms.find? (fun p => p.member == k)).bind (·.value)).getD (0, 0)
  if ms.length = 1 then part ((ms.headD ⟨0, none, 0⟩).member)
  else
    let b := turnedBy (part 1) (1 / 3)
    let c := turnedBy (part 2) (2 / 3)
    (r64 (((part 0).1 + b.1 + c.1) / 3), r64 (((part 0).2 + b.2 + c.2) / 3))

/-- ROCOF of the differences at hand, newest first (R163): the last for P-class, the mean of the last four for M-class; none where there
are not that many. -/
def groupRocof (m : Bool) (fl : Nat) (diffs : List Rat) : Option Rat :=
  if m then (if diffs.length < 4 then none else some (r64 (diffs.foldl (· + ·) 0 / 4 * fl)))
  else diffs.head?.map (fun d => r64 (d * fl))

/-- A frequency the spec does not state, at a group's first instant: a free value (log 18). -/
def State.openFreq (s : State) : Rat := toRat32 s.free32

/-- The frequency output of a group once every member's phasor of the slot is formed (R163, R164, R166). The frequency at the first
instant and ROCOF before its differences are there, which R163 does not state, are free values. -/
def State.groupFreq (s : State) (g freqTid f0 fl tag : Nat) (m : Bool) (ms : List MemberPhasor) : State :=
  let x := s.group g
  let tau := slotInstant fl tag
  let q := ms.foldl (fun a p => a ||| (p.quality % 2 ^ 12)) 0
  let waiting := x.waiting.filter (fun e => decide (tag < e.1))
  match ms.find? (fun p => p.value.isNone) with
  | some p =>
    let q := makeAbsent (clrBit (q % 2 ^ 12) qAbsent) (qReason p.quality)
    (s.putGroup g { x with waiting := waiting, angle := none, freq := none, diffs := [] }).give tau freqTid absentWord q tag
  | none =>
    let v := groupPhasor ms
    let ang := atan2T v.2 v.1
    let f : Rat := match x.angle with
      | some prev => r64 ((f0 : Rat) + wrapTurn (ang - prev) * fl)
      | none => s.openFreq
    let s := if x.angle.isNone then s.draw else s
    let out := f < (f0 : Rat) - 5 ∨ (f0 : Rat) + 5 < f
    let diffs := match x.freq with | some p => (f - p) :: x.diffs.take 3 | none => []
    let rocof := groupRocof m fl diffs
    let word := pairWord (ofRat32 f) (match rocof with | some r => ofRat32 r | none => s.free32)
    let s := if rocof.isNone then s.draw else s
    let s := s.putGroup g { waiting := waiting, angle := some ang, freq := some f, diffs := diffs, last := ofRat32 f }
    let s := if out then ((s.count R.REED_EST_RANGE).event E.REED_EST_RANGE g (leBytes 2 g ++ leBytes 4 (ofRat32 f))).raise I.REED_EST_RANGE
      else s
    let q := setIf (decide out) q qSrcErr
    if finite32 (word / 2 ^ 32) && finite32 (word % 2 ^ 32) then s.give tau freqTid word q tag
    else s.give tau freqTid absentWord (notFinite q) tag

/-- The phasor of a WID at the sample numbered `c` (R162, R164, R165), corrected: its word, its quality, and its parts unless absent. The
WID's SCALE is that of its phasor thread's entry. -/
def State.estValue (s : State) (en : List Byte) (sr fl tau c q : Nat) (df : Rat) : Nat × Nat × Option (Rat × Rat) :=
  let x := s.wave (esWid en)
  let e := s.catAt tau (esTid en)
  let scale := toRat32 (catScale e)
  if bit q qAbsent then (absentWord, q, none)
  else
    let p := estPhasor (esM en) sr (esF0 en) fl df (fun k => x.filled ((c : Int) + k).toNat * scale)
      (fun k => (sampleInstant sr ((c : Int) + k).toNat : Int) + catDelay e)
    let raw := pairWord (ofRat32 p.1) (toTurn p.2)
    let r := correct e (s.corrTable tau e) raw
    let q := setIf r.2.1 q qClipped
    if finite32 (r.1 / 2 ^ 32) then
      let mag := toRat32 (r.1 / 2 ^ 32)
      let a := turnsOf (r.1 % 2 ^ 32)
      (r.1, q, some (r64 (mag * cosT a), r64 (mag * sinT a)))
    else (absentWord, notFinite q, none)

/-- The phasor goes to Loom and to its group, whose frequency is formed with the last member (R166). -/
def State.estGive (s : State) (en : List Byte) (fl tag tau : Nat) (v : Nat × Nat × Option (Rat × Rat)) : State :=
  let wid := esWid en
  let s := s.putWave wid { s.wave wid with upto := some tau, lastMag := v.1 / 2 ^ 32 }
  let s := s.give tau (esTid en) v.1 v.2.1 tag
  let gs := s.group (esGroup en)
  let ms := smGet [] gs.waiting tag ++ [⟨esMember en, v.2.2, v.2.1⟩]
  let s := s.putGroup (esGroup en) { gs with waiting := smPut gs.waiting tag ms }
  if ms.length = (if esMember en = 3 then 1 else 3) then s.groupFreq (esGroup en) (esFreqTid en) (esF0 en) fl tag (esM en) ms else s

/-- A phasor of a WID at an L3 slot is formed (R162, R164 to R166). -/
def State.estOutput (s : State) (en : List Byte) (sid sr fl tag : Nat) : State :=
  let f0 := esF0 en
  let tau := slotInstant fl tag
  let c := sampleNumber sr ((tau : Int) - catDelay (s.catAt tau (esTid en))).toNat
  let h := estHalf (esM en) sr f0 fl
  let w := s.windowQuality sid (s.wave (esWid en)) ((List.range (2 * h + 1)).map (fun i => c + i - h))
  let df0 : Rat := match (s.group (esGroup en)).freq with | some f => f - f0 | none => 0
  let df : Rat := max (-5) (min 5 df0)
  let s := if 0 < w.2 ∧ w.2 ≤ 2 then s.count R.REED_EST_FILL w.2 else s
  s.estGive en fl tag tau (s.estValue en sr fl tau c (setIf (decide (df ≠ df0)) w.1 qSrcErr) df)

/-- The estimator entry of a WID in the configuration of an instant (R143). -/
def State.estEntry (s : State) (instant wid : Nat) : Option (List Byte) :=
  (reedEstimators (s.cfgAt secReed instant)).find? (fun e => esWid e == wid)

/-- Every L3 slot whose last sample is held; a slot whose configuration has no entry for the WID is passed over. -/
def State.estSlots (s : State) (wid sid sr fl newest : Nat) : List Nat → State
  | [] => s
  | tag :: r =>
    let tau := slotInstant fl tag
    match s.estEntry tau wid with
    | none => (s.putWave wid { s.wave wid with upto := some tau }).estSlots wid sid sr fl newest r
    | some en =>
      let c := sampleNumber sr ((tau : Int) - catDelay (s.catAt tau (esTid en))).toNat
      if newest < c + estHalf (esM en) sr (esF0 en) fl then s
      else (s.estOutput en sid sr fl tag).estSlots wid sid sr fl newest r

/-! Detectors (R168). -/

def State.det (s : State) (tid : Nat) : DetSt := smGet {} s.reed.dets tid

def State.putDet (s : State) (tid : Nat) (x : DetSt) : State := s.setReed { s.reed with dets := smPut s.reed.dets tid x }

/-- Window length in samples of a PEAK or RMS detector, at an instant. -/
def State.detWindow (s : State) (instant : Nat) (de : List Byte) (sr rate : Nat) : Nat :=
  if deKind de = 1 ∧ deMode de = 1 then
    let f : Rat := match s.estEntry instant (deWid de) with
      | some e => ((s.group (esGroup e)).freq).getD (esF0 e : Nat)
      | none => 50
    if f ≤ 0 then 1 else (rint ((deW de * sr : Nat) / f)).toNat
  else if deW de = 0 then sr / max 1 rate
  else deW de

/-- e_j of an ENVELOPE detector over the samples present of the 31 that end at j: none where more than two are missing. -/
def State.envelope (s : State) (instant : Nat) (wid j : Nat) : Option Rat :=
  let x := s.wave wid
  let body := s.cfgAt secReed instant
  let at' (n : Nat) : Option Rat := (x.get n).map (fun v => ((signed 32 v.1 : Int) : Rat))
  if 2 < ((List.range 31).filter (fun i => (at' (j - i)).isNone)).length then none
  else
    let y := (List.range 31).foldl (fun (a : Rat) i => r64 (a + r64 (toRat32 (leAt body (0x10 + 4 * i) 4) * (at' (j - i)).getD 0))) 0
    let v := (at' (j - 15)).getD 0
    some (r64 (sqrtRat (r64 (v * v + y * y))))

/-- e′ at one sample (R168); a sample whose e cannot be formed leaves it. -/
def State.envStep (s : State) (de : List Byte) (sr j : Nat) : State :=
  let d := s.det (deTid de)
  let k := r64 (1 - expR (-1 / ((sr : Rat) * deT de)))
  let env := match s.envelope (sampleInstant sr j) (deWid de) j with
    | some e => r64 (d.env + r64 (k * r64 (e - d.env)))
    | none => d.env
  s.putDet (deTid de) { d with env := env, seen := some j, envs := (d.envs.filter (fun z => decide (j < z.1 + 64))) ++ [(j, env)] }

/-- e′ at every sample up to a number, those that never came among them; after a gap longer than the filter's 64 samples it takes up at
its end. -/
def State.envTo (s : State) (de : List Byte) (sr n : Nat) : State :=
  let start := match (s.det (deTid de)).seen with | some j => max (j + 1) (n + 1 - 64) | none => n
  (List.range (n + 1 - start)).foldl (fun s i => s.envStep de sr (start + i)) s

/-- The output of a detector at a slot. -/
def State.detOutput (s : State) (de : List Byte) (sid sr rate tag : Nat) : State :=
  let tid := deTid de
  let x := s.wave (deWid de)
  let tau := slotInstant rate tag
  let e := s.catAt tau tid
  let shift := ((tau : Int) - catDelay e).toNat
  let last := let n := sampleNumber sr shift; if sampleInstant sr n ≤ shift then n else n - 1
  let ns := if deKind de = 2 then (List.range 31).map (fun i => sampleNumber sr shift + 15 - i)
    else (List.range (s.detWindow tau de sr rate)).map (fun i => last - i)
  let (q, _) := s.windowQuality sid x ns
  let scale := toRat32 (catScale e)
  let xs : List Rat := ns.filterMap (fun n => (x.get n).map (fun v => ((signed 32 v.1 : Int) : Rat) * scale))
  let absR (v : Rat) : Rat := if v < 0 then -v else v
  let val : Option Rat :=
    if bit q qAbsent ∨ (xs.isEmpty ∧ deKind de ≠ 2) then none
    else if deKind de = 0 then
      (if deMode de = 0 then some (xs.foldl (fun a v => max a (absR v)) 0)
       else if deMode de = 1 then some (xs.foldl max (xs.headD 0))
       else some (xs.foldl min (xs.headD 0)))
    else if deKind de = 1 then some (sqrtRat (r64 (xs.foldl (fun a v => a + v * v) 0 / (xs.length : Rat))))
    else some (smGet (s.det tid).env (s.det tid).envs (sampleNumber sr shift + 15) * scale)
  let (word, q) : Nat × Nat := match val with
    | none => (absentWord, if bit q qAbsent then q else makeAbsent q rNotArrived)
    | some v =>
      let r := correct e (s.corrTable tau e) (pairWord (ofRat32 v) 0)
      if finite32 (r.1 / 2 ^ 32) then (r.1, setIf r.2.1 q qClipped) else (absentWord, notFinite q)
  (s.putDet tid { s.det tid with upto := some tau }).give tau tid word q tag

/-- The detector entry of a thread on a WID in the configuration of an instant (R143). -/
def State.detEntry (s : State) (instant tid wid : Nat) : Option (List Byte) :=
  (reedDetectors (s.cfgAt secReed instant)).find? (fun e => deTid e == tid && deWid e == wid)

/-- Every slot of a detector whose last sample is held: the first sample after τ, or 16 samples after τ for ENVELOPE. A slot whose
configuration has no such detector is passed over. -/
def State.detSlots (s : State) (tid wid sid sr newest : Nat) : List (Nat × Nat) → State
  | [] => s
  | (tag, tau) :: r =>
    match s.detEntry tau tid wid with
    | none => (s.putDet tid { s.det tid with upto := some tau }).detSlots tid wid sid sr newest r
    | some de =>
      let shift := ((tau : Int) - catDelay (s.catAt tau tid)).toNat
      let ready := if deKind de = 2 then decide (sampleNumber sr shift + 16 ≤ newest) else decide (shift < sampleInstant sr newest)
      if ready then (s.detOutput de sid sr (s.rate (catLattice (s.catAt tau tid))) tag).detSlots tid wid sid sr newest r else s

/-- The REED bodies in use: the configuration in force and those of the slots before a switch. -/
def State.reedBodies (s : State) : List (List Byte) := s.cfg secReed :: s.draft.old.map (fun o => bodyOf o.1 o.2.1 secReed)

/-- Samples a WID has to hold: the longest window of its estimator and detectors. -/
def State.waveNeed (s : State) (wid sr now : Nat) : Nat :=
  s.reedBodies.foldl (fun a body =>
    let es := ((reedEstimators body).filter (fun e => esWid e == wid)).map (fun e => 2 * estHalf (esM e) sr (esF0 e) (max 1 (s.rate 3)) + 8)
    let ds := ((reedDetectors body).filter (fun e => deWid e == wid)).map (fun e =>
      s.detWindow now e sr (s.rate (catLattice (s.catAt now (deTid e)))) + 40)
    (es ++ ds).foldl max a) 8

/-- The slot at which a unit that has formed nothing yet begins, and the slots up to an instant. -/
def slotsDue (rate : Nat) (upto : Option Nat) (start upTo : Nat) : List Nat :=
  slotsFrom rate 8192 (firstSlotAt rate (match upto with | some u => u + 1 | none => start)) upTo

/-- A sample reaches its WID: held in the order of the numbers. -/
def State.enterSample (s : State) (w : WaveSample) (sr : Nat) : State :=
  let n := sampleNumber sr w.time
  let x := s.wave w.wid
  let need := s.waveNeed w.wid sr w.time
  let newest := (x.samples.getLast?.map (·.1)).getD 0
  let held := if newest < n then x.samples ++ [(n, w.raw, w.quality)]
    else x.samples.filter (fun y => decide (y.1 < n)) ++ [(n, w.raw, w.quality)] ++ x.samples.filter (fun y => decide (n < y.1))
  let top := max newest n
  s.putWave w.wid { x with samples := held.filter (fun y => decide (top < y.1 + need)) }

/-- The slots of the estimator of a WID and of its detectors that the held samples complete. -/
def State.runWave (s : State) (w : WaveSample) (sid sr : Nat) : State :=
  let top := ((s.wave w.wid).samples.getLast?.map (·.1)).getD 0
  let fl := s.rate 3
  let s := if s.reedBodies.any (fun b => (reedEstimators b).any (fun e => esWid e == w.wid)) ∧ fl ≠ 0 then
      s.estSlots w.wid sid sr fl top (slotsDue fl (s.wave w.wid).upto w.time (w.time + 1000000000))
    else s
  let tids := (s.reedBodies.flatMap (fun b => ((reedDetectors b).filter (fun e => deWid e == w.wid)).map deTid)).dedup
  let s := tids.foldl (fun s tid =>
    let s := match s.detEntry w.time tid w.wid with
      | some de => if deKind de = 2 then s.envTo de sr (sampleNumber sr w.time) else s
      | none => s
    s.detSlots tid w.wid sid sr top
      (s.slotsOver tid (match (s.det tid).upto with | some u => u + 1 | none => w.time) (w.time + 1000000000))) s
  s.putWave w.wid { s.wave w.wid with down := false }

/-- WAVEFORM_SAMPLE: the sample at the front goes to the estimator, the detectors (R162, R168) and capture (R376). -/
def State.waveSample (s : State) : State :=
  match s.waveQ with
  | [] => s
  | w :: r =>
    let s := ((s.setWaveQ r).captWave w).reedLoad 3
    match widStreamOf (s.cfgAt secStreams w.time) w.wid with
    | none => s
    | some (sid, st) =>
      let sr := max 1 (stRate st)
      (s.enterSample w sr).runWave w sid sr

def execWaveformSample (t : Nat) (s : State) : Host.Outcome State Fault Refusal := run t State.waveSample s

/-! Commands (R173). -/

/-- THREAD_STATE. -/
def cmdThreadState (s : State) : CmdResult :=
  let tid := s.arg 5 0
  if 2 ^ 17 ≤ tid then refuse s stBadArg
  else
    let x := s.thread tid
    { state := s, r0 := 65536 * x.taps.length + x.lastQ % 65536, r1 := x.lastTag % 2 ^ 32 }

def execThreadState (t : Nat) (path : Path) (s : State) : Host.Outcome State Fault Refusal := command t 5 1 path cmdThreadState s

/-- EST_STATE. -/
def cmdEstState (s : State) : CmdResult :=
  let wid := s.arg 5 0
  match (reedEstimators (s.cfg secReed)).find? (fun e => esWid e == wid) with
  | none => refuse s stBadArg
  | some e =>
    { state := s, r0 := (s.wave wid).lastMag, r1 := (s.group (esGroup e)).last }

def execEstState (t : Nat) (path : Path) (s : State) : Host.Outcome State Fault Refusal := command t 5 2 path cmdEstState s

/-- BANK_INFO. -/
def cmdBankInfo (s : State) : CmdResult :=
  let b := s.arg 5 0
  if 15 < b then refuse s stBadArg
  else
    let body := s.cfg secReed
    if reedBanks body ≤ b then ok s
    else
      let h := slice body (0x90 + 32784 * b) 16
      { state := s, r0 := 65536 * (leAt h 0 2) + rateOf (leAt h 2 1), r1 := 1 }

def execBankInfo (t : Nat) (path : Path) (s : State) : Host.Outcome State Fault Refusal := command t 5 3 path cmdBankInfo s

end Sys2Proof.Machine
end

