-- ==== Sys2Proof/Machine/Loom.lean ====
section
/-!
DEFINITION. Sys2Proof/Machine/Loom.lean: the Loom's commands (R175 to R204): slots open, items are written, deadlines, learned
latencies, overload, reading.
-/

namespace Sys2Proof.Machine

/-! SLOT_INSTANT (R176, R187, R202). -/

/-- A set's wait in a slot (R187): ns after the instant, and whether it may close on presence. WAIT and GUARD are those the
registers hold at the instant (R202). -/
def State.setWait (s : State) (l n : Nat) (e : List Byte) : Nat × Bool :=
  let cap := (1000000000 * (s.openSlots l - 1)) / max 1 (s.rate l)
  let wmax := min (1000 * (s.regN (R.LOOM_SETn_WAIT_MAX n))) cap
  let wmin := min (1000 * (s.regN (R.LOOM_SETn_WAIT_MIN n))) wmax
  match lsPolicy e with
  | 0 => (wmax, false)
  | 1 => (wmax, true)
  | _ => match smFind s.loom.learned n with
    | none => (wmax, true)
    | some x => (min (max (x + 1000 * (s.regN (R.LOOM_SETn_GUARD n))) wmin) wmax, true)

/-- A slot opens: its sets' deadlines are fixed, its shed sets and mode noted. -/
def State.openSlot (s : State) (l tag : Nat) (gap : Bool) : State :=
  let inst := s.instant l tag
  let all := s.latticeSets inst l
  let shed := (all.map (·.1)).filter s.shedSet
  let sets : SMap SetSlot := all.foldl (fun m n => let w := s.setWait l n.1 n.2; smPut m n.1 ⟨inst + w.1, w.2, none⟩) []
  let x := s.lat l
  let old := (x.slot tag).getD { tag := tag }
  let y := { old with opened := true, sets := sets, shed := shed, gap := gap, test := s.onTest, mode := s.modeNow }
  let slots := (x.slots.filter (fun z => decide (z.tag < tag))) ++ [y] ++ x.slots.filter (fun z => decide (tag < z.tag))
  s.putLat l { x with next := some (nextTag (s.rate l) tag), last := some tag, gap := false, slots := slots }

/-- The slots that must give way before slot number `n` opens close as FORCED (R187). -/
def State.makeRoom (s : State) (l n : Nat) : State :=
  let late := (s.lat l).slots.filter (fun y => y.opened && y.closed.isNone && decide (slotNumber (s.rate l) y.tag + s.openSlots l ≤ n))
  (late.foldl (fun s y => s.forceSlot l y.tag) s).loomRun

/-- SLOT_INSTANT of a lattice: its next slot opens when its instant is reached. A slot at or after a pending switch waits for it
(R56). -/
def State.slotStarts (s : State) (l : Nat) : State :=
  match (s.lat l).next with
  | none => s
  | some tag =>
    if s.domain pdLoom ≠ 0 then s
    else
      let s := if (s.lat l).paused then s.skipSlots l tag false else if (s.lat l).stepped then s.loomRun else s
      let tag := ((s.lat l).next).getD tag
      let inst := s.instant l tag
      let waits : Bool := match s.draft.switch with | some w => decide (s.instant 0 w.slot ≤ inst) | none => false
      if s.now < inst ∨ waits then s
      else
        let s := s.makeRoom l (slotNumber (s.rate l) tag)
        (s.openSlot l tag (s.lat l).gap).loomRun

def execSlotInstant (t lattice : Nat) (s : State) : Host.Outcome State Fault Refusal := run t (·.slotStarts lattice) s

/-! LOOM_WRITE (R182, R183, R193, R194). -/

/-- The second of MONO being counted for R200. -/
def State.loomSecond (s : State) : State :=
  let sec := s.bases.mono / 1000000000
  if sec = s.loom.second then s
  else
    let adj := s.loom.second + 1 == sec
    s.setLoom { s.loom with
      second := sec, late := 0, written := 0
      lastLate := if adj then s.loom.late else 0
      lastWritten := if adj then s.loom.written else 0 }

/-- Is an entry's set gating? -/
def State.gating (s : State) (instant : Nat) (e : List Byte) : Bool := lsGate (setEntry (s.cfgAt secLoom instant) (catSet e))

/-- A marker's write adds a latency sample (R190). -/
def State.sampleLatency (s : State) (l tag tid : Nat) (e : List Byte) : State :=
  let inst := s.instant l tag
  match s.streamOf e with
  | some sid =>
    if s.isSet F.LOOM_CTRL_HIST_FREEZE || s.shedSet (catSet e) || s.marker inst sid l != some tid then s
    else s.histSample sid ((s.now : Int) - inst)
  | none => s

/-- A copy to the late queue (R194). -/
def State.lateCopy (s : State) (l tag tid word q : Nat) (hist : Bool) (lateBy : Nat) : State :=
  if !s.isSet F.LOOM_CTRL_LATE_COPY then s
  else
    let p := leBytes 8 tag ++ leBytes 8 word ++ leBytes 4 (tid + 2 ^ 17 * l + (if hist then 2 ^ 19 else 0)) ++ leBytes 2 q ++ leBytes 2 0 ++ leBytes 8 lateBy
    let r := s.commit (s.fld F.LOOM_QUEUES_LATE_QUEUE) p
    if r.2 then r.1.endBurst E.LOOM_LATE_QFULL noSource
    else ((r.1.count R.LOOM_LATE_QFULL).burst E.LOOM_LATE_QFULL noSource [] 1).raise I.LOOM_LATE_QFULL

/-- A late item whose slot has left history, or was never opened in the present run (R193). LATE_BY of a slot whose set has no close time is
a free value (log 43). -/
def State.lateBeyond (s : State) (l tag tid word q : Nat) (closedAt : Option Nat) : State :=
  let s := s.count R.LOOM_LATE_BEYOND
  match closedAt with
  | some c => s.lateCopy l tag tid word q false (s.now - c)
  | none => s.draw.lateCopy l tag tid word q false (Config.freeWord64 s.freeCount).toNat

/-- A late item (R193). -/
def State.writeLate (s : State) (l tag tid word q : Nat) (e : List Byte) : State :=
  let inst := s.instant l tag
  let ql := setBit q qLate
  let s := (s.loomSecond).count (R.LOOM_Ln_LATE l)
  let g := if s.gating inst e then 1 else 0
  let s := s.setLoom { s.loom with late := s.loom.late + g, written := s.loom.written + g }
  let s := s.sampleLatency l tag tid e
  match (s.lat l).slot tag with
  | none => s.lateBeyond l tag tid word ql (smFind (smGet [] (s.lat l).shut tag) (catSet e))
  | some y =>
    let closedAt := match smFind y.sets (catSet e) with
      | some z => (z.closed.map (·.1)).getD (y.closed.getD s.now)
      | none => y.closed.getD s.now
    let lateBy := s.now - closedAt
    if tag < (s.lat l).first ∨ !y.opened then s.lateBeyond l tag tid word ql none
    else if y.closed.isSome ∧ y.released.isSome ∧ !s.inHistory l y then
      (s.count R.LOOM_LATE_BEYOND).lateCopy l tag tid word ql false lateBy
    else
      let old := s.storedValue l y tid
      if bit old.2 qAbsent ∨ y.filled.contains tid then
        let s := s.storeValue l y tid word ql
        let kept := if y.piped ∨ y.replaced.any (fun x => x.1 == tid) then y.replaced else (tid, old.1, old.2) :: y.replaced
        let s := s.modSlot l tag (fun z => { z with late := z.late + 1, filled := z.filled.filter (· != tid), replaced := kept })
        let s := if y.closed.isSome then s.writeHeader l tag else s
        s.lateCopy l tag tid word ql (y.closed.isSome ∧ s.inHistory l y) lateBy
      else (s.count R.LOOM_DUP_WRITE).lateCopy l tag tid word ql false lateBy

/-- An item in time (R182 step 5). -/
def State.writeOnTime (s : State) (l tag tid word q : Nat) (e : List Byte) : State :=
  let y := ((s.lat l).slot tag).getD { tag := tag }
  if y.present.contains tid then s.count R.LOOM_DUP_WRITE
  else
    let again := y.failed.contains tid
    let s := (s.putSlot l { y with present := y.present ++ [tid], onTime := y.onTime + 1, failed := y.failed.filter (· != tid)
                                   absent := if again then y.absent - 1 else y.absent }).storeValue l y tid word q
    let s := (s.loomSecond).count R.LOOM_WRITES
    let s := if s.gating (s.instant l tag) e then s.setLoom { s.loom with written := s.loom.written + 1 } else s
    s.sampleLatency l tag tid e

/-- The lattice on which a thread has an EMIT entry for a slot tag (R56), with that entry. -/
def State.entryFor (s : State) (tid tag : Nat) : Option (Nat × List Byte) :=
  (List.range 4).findSome? (fun l =>
    let e := s.catAt (s.instant l tag) tid
    if catEmit e && catLattice e == l then some (l, e) else none)

/-- What becomes of an item for a slot (R182 steps 3 to 5, R201): 0 beyond the newest slot the lattice can hold, 1 of a shed set, 2 late,
3 on time. -/
def State.itemFate (s : State) (l tag : Nat) (e : List Byte) : Nat :=
  let rate := s.rate l
  let x := s.lat l
  let oldest : Option Nat := ((x.slots.find? (fun y => y.opened && y.closed.isNone)).map (·.tag)).or x.next
  let ahead : Bool := match oldest with | some k => decide (slotNumber rate k + s.openSlots l ≤ slotNumber rate tag) | none => false
  if ahead then 0
  else
    match x.slot tag with
    | some y =>
      if y.opened then
        if y.shed.contains (catSet e) then 1
        else if (match smFind y.sets (catSet e) with | some z => z.closed.isSome | none => y.closed.isSome) then 2 else 3
      else if x.future tag then 3 else 2
    | none => if x.next.isSome ∧ x.future tag then 3 else 2

/-- An item whose check code has been dealt with (R182 steps 2 to 5). -/
def State.writeItem (s : State) (tid word q tag : Nat) : State :=
  match s.entryFor tid tag with
  | none => s.count R.LOOM_TAG_ERR
  | some (l, e) =>
    if s.rate l ≤ tag % 2 ^ 16 ∨ s.capacity l = 0 then s.count R.LOOM_TAG_ERR
    else
      match s.itemFate l tag e with
      | 0 => ((s.count R.LOOM_AHEAD_DROP).event E.LOOM_AHEAD_DROP tid (leBytes 3 tid ++ leBytes 8 tag)).raise I.LOOM_AHEAD_DROP
      | 1 => s.count R.LOOM_SHED_ITEMS
      | 2 => s.writeLate l tag tid word q e
      | _ => s.writeOnTime l tag tid word q e

/-- A second check failure settles the thread in its slot as the absent value (R182 step 1), where it is not settled already. -/
def State.settleFailed (s : State) (tid tag : Nat) : State :=
  match s.entryFor tid tag with
  | none => s
  | some (l, e) =>
    let y := ((s.lat l).slot tag).getD { tag := tag }
    if s.rate l ≤ tag % 2 ^ 16 ∨ s.capacity l = 0 ∨ s.itemFate l tag e ≠ 3 ∨ y.present.contains tid ∨ y.failed.contains tid then s
    else
      (s.putSlot l { y with failed := y.failed ++ [tid], absent := y.absent + 1 }).storeValue l y tid absentWord
        (setBit (qAbsentFor rFault) qCheckFail)

/-- LOOM_WRITE: the item at the front. Deadlines already reached close first (R183). `fails` of the two readings fail their check
(R14, log 19). -/
def State.loomWrite (s : State) (fails : Nat) : State :=
  match s.loomQ with
  | [] => s
  | i :: r =>
    if s.domain pdLoom ≠ 0 then s
    else
      let s := (s.setLoomQ r).loomRun
      let bad := checkCode i.word i.quality i.tid i.time != i.code
      let c := s.checkedRead (if bad then 2 else fails) 6 pdLoom R.LOOM_CHECK_RETRY R.LOOM_CHECK_FAIL E.LOOM_CHECK_RETRY E.LOOM_CHECK_FAIL
        i.tid I.LOOM_CHECK_FAIL (leBytes 3 i.tid ++ leBytes 8 i.time)
      let c := (c.1.setFault { c.1.fault with lost := c.1.fault.lost.filter (· != i.tid) }, c.2)
      if c.2 then (c.1.writeItem i.tid i.word i.quality i.time).loomRun
      else (c.1.settleFailed i.tid i.time).loomRun

def execLoomWrite (t fails : Nat) (s : State) : Host.Outcome State Fault Refusal := run t (·.loomWrite fails) s

/-- SET_DEADLINE: the sets of a lattice whose deadlines are reached close (R187). -/
def State.setDeadline (s : State) (l : Nat) : State :=
  if s.domain pdLoom ≠ 0 ∨ 3 < l then s else (s.evalLattice l).deliverLattice l

def execSetDeadline (t lattice : Nat) (s : State) : Host.Outcome State Fault Refusal := run t (·.setDeadline lattice) s

/-! LEARNED_REFRESH (R191). -/

/-- The required streams of a set that count: not DISABLED, SILENT or in CFG_HOLD. -/
def State.learnStreams (s : State) (n : Nat) (e : List Byte) : List Nat :=
  let body := s.cfg secLoom
  let l := leAt e 2 1 % 4
  let req := if lsReqAll e then ((s.setThreads s.now l n).filterMap (fun t => s.streamOf t.2)).eraseDups else lsRequired body e
  req.filter (fun sid => let st := s.streamState sid; st != 0 && st != 3 && st != 5)

/-- One adaptive set. -/
def State.learnSet (s : State) (n : Nat) (e : List Byte) : State :=
  let level := s.fld (F.LOOM_SETn_CFG_QSEL n)
  let qs := (s.learnStreams n e).map (fun sid => (sid, (s.quantileOf sid level).1))
  match qs.find? (fun q => q.2.isNone) with
  | some (sid, _) =>
    let s := s.putReg (R.LOOM_SETn_LEARNED n) ones32
    let was := s.loom.sparse.contains n
    let s := s.setLoom { s.loom with learned := smDel s.loom.learned n, sparse := if was then s.loom.sparse else s.loom.sparse ++ [n] }
    if was then s else (s.event E.LOOM_HIST_SPARSE n (leBytes 1 n ++ leBytes 2 sid)).raise I.LOOM_HIST_SPARSE
  | none =>
    let v := (qs.map (fun q => q.2.getD 0)).foldl max 0
    let s := s.putReg (R.LOOM_SETn_LEARNED n) (sat32 (v / 1000))
    s.setLoom { s.loom with learned := smPut s.loom.learned n v, sparse := s.loom.sparse.filter (· != n) }

/-- LEARNED_REFRESH, every 100 ms. -/
def State.learnedRefresh (s : State) : State :=
  if s.domain pdLoom ≠ 0 ∨ s.bases.mono < s.loom.refreshed + 100000000 then s
  else
    let body := s.cfg secLoom
    let s := s.setLoom { s.loom with refreshed := s.bases.mono }
    (((List.range 256).map (fun n => (n, setEntry body n))).filter (fun x => !x.2.isEmpty && lsPolicy x.2 == 2)).foldl
      (fun s x => s.learnSet x.1 x.2) s

def execLearnedRefresh (t : Nat) (s : State) : Host.Outcome State Fault Refusal := run t State.learnedRefresh s

/-! Overload (R200). `backpressureMs` is how long Reed has held Heddle back without a break. -/

/-- Reed holds Heddle back for `ms` without a break, or (0) no longer does (R169). The peak input demand of the record is a free value
(log 5). -/
def State.backpressure (s : State) (ms : Nat) : State :=
  let was := s.isSet F.REED_STATUS_BACKPRESSURE
  let s := s.putFld F.REED_STATUS_BACKPRESSURE (if ms = 0 then 0 else 1)
  if ms = 0 then
    if was then
      (s.draw.event E.REED_BACKPRESSURE noSource (leBytes 4 (sat32 (1000 * s.reed.pressed)) ++ leBytes 4 s.free32)).setReed
        { s.reed with pressed := 0 }
    else s
  else
    let s := if was then s else s.raise I.REED_BACKPRESSURE
    (s.countSat R.REED_BACKPRESSURE_US (1000 * (ms - s.reed.pressed))).setReed { s.reed with pressed := ms }

/-- The causes that hold. -/
def State.overloadCauses (s : State) (backpressureMs : Nat) : Nat :=
  let back := (List.range 4).any (fun l =>
    decide (s.fld F.LOOM_OVERLOAD_CFG_BACKLOG ≤ (s.loom.closeQ.filter (fun e => e.1 == l)).length))
  let ppm := s.regN R.LOOM_OVERLOAD_LATE
  let late := ppm != 0 && decide (10000 ≤ s.loom.lastWritten ∧ ppm * s.loom.lastWritten < 1000000 * s.loom.lastLate)
  (if s.fld F.LOOM_OVERLOAD_CFG_BP_MS ≤ backpressureMs then 1 else 0) + (if back then 2 else 0) + (if late then 4 else 0)

/-- OVERLOAD_SET. -/
def State.overloadSet (s : State) (ms : Nat) : State :=
  let s := s.loomSecond.backpressure ms
  let c := s.overloadCauses ms
  let s := s.putFld F.LOOM_STATUS_CAUSE c
  if c = 0 ∨ s.domain pdLoom ≠ 0 then s
  else
    let s := s.setLoom { s.loom with causeAt := s.bases.mono }
    if s.isSet F.LOOM_STATUS_OVERLOAD then s
    else
      let s := (s.setLoom { s.loom with setAt := s.bases.mono }).putFld F.LOOM_STATUS_OVERLOAD 1
      let s := (s.event E.LOOM_OVERLOAD_SET noSource (leBytes 1 c)).raise I.LOOM_OVERLOAD_SET
      s.overload (s.isSet F.DRAFT_MODE_COND_OVERLOAD_HOST) true

def execOverloadSet (t backpressureMs : Nat) (s : State) : Host.Outcome State Fault Refusal := run t (·.overloadSet backpressureMs) s

/-- OVERLOAD_CLEAR. -/
def State.overloadClear (s : State) (ms : Nat) : State :=
  let s := s.loomSecond.backpressure ms
  let c := s.overloadCauses ms
  let s := s.putFld F.LOOM_STATUS_CAUSE c
  if c ≠ 0 then s.setLoom { s.loom with causeAt := s.bases.mono }
  else if !s.isSet F.LOOM_STATUS_OVERLOAD ∨ s.bases.mono < s.loom.causeAt + 1000000000 * (s.fld F.LOOM_OVERLOAD_CFG_EXIT_S) then s
  else
    let secs := (s.bases.mono - s.loom.setAt) / 1000000000
    let s := s.putFld F.LOOM_STATUS_OVERLOAD 0
    let s := (s.event E.LOOM_OVERLOAD_CLEAR noSource (leBytes 4 (sat32 secs))).raise I.LOOM_OVERLOAD_CLEAR
    let host := s.isSet F.DRAFT_MODE_COND_OVERLOAD_HOST
    s.overload host false

def execOverloadClear (t backpressureMs : Nat) (s : State) : Host.Outcome State Fault Refusal := run t (·.overloadClear backpressureMs) s

/-! Commands (R203). -/

/-- The lattice of a TID: its catalogue entry's, that of the entry a pending patch brings (R59), or that of a withdrawn thread's kept index. -/
def State.latticeOf (s : State) (tid : Nat) : Option Nat :=
  let new := s.comingCat.find? (fun e => e.1 == tid && catValid e.2)
  if catValid (s.cat tid) then some (catLattice (s.cat tid))
  else if new.isSome then new.map (fun e => catLattice e.2)
  else if (smFind s.loom.gone tid).isSome then
    some (((List.range 4).find? (fun l => (s.lat l).slots.any (fun y => catLattice (s.catAt (s.instant l y.tag) tid) == l &&
      catValid (s.catAt (s.instant l y.tag) tid)))).getD 0)
  else none

/-- READ_VALUE (R195). A TID on no lattice and a malformed tag are refused with BAD_ARG (log 20). -/
def cmdReadValue (s : State) : CmdResult :=
  let tid := s.arg 6 0
  let tag := s.arg 6 1 + 2 ^ 32 * (s.arg 6 2)
  match s.latticeOf tid with
  | none => refuse s stBadArg
  | some l =>
    if 2 ^ 17 ≤ tid ∨ s.rate l ≤ tag % 2 ^ 16 then refuse s stBadArg
    else
      let v := s.slotValue l tag tid
      { state := s.putReg R.LOOM_READ_QUALITY (2 ^ 16 * v.2.2 + v.2.1 % 2 ^ 16), r0 := v.1 % 2 ^ 32, r1 := v.1 / 2 ^ 32 }

def execReadValue (t : Nat) (path : Path) (s : State) : Host.Outcome State Fault Refusal := command t 6 1 path cmdReadValue s

/-- QUANTILE. -/
def cmdQuantile (s : State) : CmdResult :=
  let sid := s.arg 6 0
  let level := s.arg 6 1
  if 8191 < sid ∨ 3 < level then refuse s stBadArg
  else
    let q := s.quantileOf sid level
    { state := s, r0 := q.1.getD ones32, r1 := q.2 }

def execQuantile (t : Nat) (path : Path) (s : State) : Host.Outcome State Fault Refusal := command t 6 2 path cmdQuantile s

/-- HIST_RESET. -/
def cmdHistReset (s : State) : CmdResult :=
  let sid := s.arg 6 0
  if s.mode < 2 ∨ 10 < s.mode then refuse s stIllegal
  else if 8191 < sid ∧ sid ≠ 0xFFFF then refuse s stBadArg
  else
    let s := if sid = 0xFFFF then s.setStk (memClear s.stk 0x03000000 0x100000) else s.setStk (memClear s.stk (histAddrOf sid 0) 128)
    ok (s.event E.LOOM_HIST_RESET sid (leBytes 2 sid))

def execHistReset (t : Nat) (path : Path) (s : State) : Host.Outcome State Fault Refusal := command t 6 3 path cmdHistReset s

/-- WEFT. -/
def cmdWeft (s : State) : CmdResult :=
  let tid := s.arg 6 0
  if 2 ^ 17 ≤ tid then refuse s stBadArg
  else
    match (List.range 4).findSome? (fun l => (smFind (smGet [] s.loom.weft l) tid).map (fun w => (l, w))) with
    | some (l, w, n) => { state := s, r0 := 2 ^ 31 + 2 ^ 19 * l + w, r1 := n % 2 ^ 32 }
    | none => ok s

def execWeft (t : Nat) (path : Path) (s : State) : Host.Outcome State Fault Refusal := command t 6 4 path cmdWeft s

/-- CLOSE_NOW. -/
def cmdCloseNow (s : State) : CmdResult :=
  let l := s.arg 6 0
  if s.mode ≠ 9 then refuse s stIllegal
  else if 3 < l then refuse s stBadArg
  else
    let due := (s.lat l).slots.filter (fun y => y.opened && decide (s.instant l y.tag ≤ s.now) &&
      (y.closed.isNone || (s.liveSets l y).any (fun n => !y.setClosed n.1)))
    ok (due.foldl (fun s y => s.forceSlot l y.tag) s).loomRun

def execCloseNow (t : Nat) (path : Path) (s : State) : Host.Outcome State Fault Refusal := command t 6 5 path cmdCloseNow s

end Sys2Proof.Machine
end

