-- ==== Sys2Proof/Machine/Slv.lean ====
section
/-!
DEFINITION. Sys2Proof/Machine/Slv.lean: the Selvedge commands (R312 to R333): bring-up, cells received, slots passed on or delivered,
retries, ARM and FIRE.
-/

namespace Sys2Proof.Machine

/-! Receiving a cell (R315, R320, R321). -/

/-- A cell's fields. -/
def readCell (l : List Byte) : SlvCell where
  ty := leAt l 0 1
  flags := leAt l 1 1
  origin := leAt l 8 2
  hops := leAt l 0xA 1
  aux1 := leAt l 0xB 1
  aux2 := leAt l 0xC 4
  tag := leAt l 0x10 8
  body := slice l 0x18 96

def cellSeq (l : List Byte) : Nat := leAt l 2 2

/-- Is the CRC right and the TYPE one of R316? -/
def cellValid (l : List Byte) : Bool :=
  l.length == 128 && leAt l 0x7C 4 == crc32c (ones32 ^^^ cellSeq l) (l.take 0x7C) &&
    [1, 2, 3, 0x10, 0x11, 0x20, 0x21, 0x30].contains (leAt l 0 1)

/-- ACK and CREDIT of a valid cell take effect; the link has been heard. -/
def State.cellHeard (s : State) (n : Nat) (l : List Byte) : State :=
  let x := s.link n
  let ack := leAt l 4 2
  let s := s.putLink n { x with
    lastRx := s.bases.mono
    credit := leAt l 6 2
    unacked := x.unacked.filter (fun u => decide (32768 ≤ (ack + 65536 - u.seq) % 65536)) }
  s.count (R.SLV_LINKn_RX_CELLS n)

/-! Slots passed on or delivered (R325 to R328). -/

/-- Where a device passes on a cell that came over a link (R325). -/
def State.onward (s : State) (n : Nat) : List Nat :=
  if s.role n = 3 then (s.linksUp [3]).filter (· != n)
  else
    let up := s.linksUp [1]
    if up.isEmpty then s.linksUp [3] else up

/-- A receive cell that stays here or is dropped is freed at once. -/
def State.freeHere (s : State) (n : Nat) : State := s.freeCell (some n)

/-- A cell is queued on the links it is passed on to; its receive cell is freed when the first of them has sent it. -/
def State.passOn (s : State) (n : Nat) (c : SlvCell) : State :=
  match s.onward n with
  | [] => s.freeHere n
  | k :: r =>
    let put (s : State) (k : Nat) (c : SlvCell) : State :=
      let x := s.link k
      s.putLink k { x with pass := smPut x.pass n (smGet [] x.pass n ++ [c]) }
    let c := { c with hops := c.hops + 1 }
    r.foldl (fun s j => put s j c) (put s k { c with frees := some n })

/-- The last tag passed on or delivered for an ORIGIN and lattice. -/
def State.lastTagOf (s : State) (o l : Nat) : Option Nat :=
  (s.slv.origins.find? (fun e => e.1 == o && e.2.1 == l)).map (·.2.2)

/-- The pair becomes the most recently used; 1,024 are kept. -/
def State.noteTag (s : State) (o l tag : Nat) : State :=
  s.setSlv { s.slv with origins := ((o, l, tag) :: s.slv.origins.filter (fun e => !(e.1 == o && e.2.1 == l))).take 1024 }

def State.putFlow (s : State) (f : SlvFlow) : State :=
  s.setSlv { s.slv with flows := s.slv.flows.filter (fun g => !(g.link == f.link && g.origin == f.origin && g.lattice == f.lattice)) ++ [f] }

def State.dropFlow (s : State) (f : SlvFlow) : State := s.setSlv { s.slv with flows := s.slv.flows.erase f }

/-- The ROOT writes TRUNCATED for a slot whose data cells stop short (R326). -/
def State.truncate (s : State) (f : SlvFlow) : State :=
  let s := s.dropFlow f
  if f.drop || !s.isRoot then s else (s.toRx (rxPacket f.tag f.origin f.lattice 2 f.next 0 0 0 f.link [])).1

/-- A head that arrives while one of its ORIGIN and lattice is still under way cuts it short. -/
def State.cutEarlier (s : State) (o l : Nat) : State :=
  (s.slv.flows.filter (fun g => g.origin == o && g.lattice == l)).foldl (fun s g => s.truncate g) s

/-- SLOT_HEAD (R325 to R328). -/
def State.takeHead (s : State) (n : Nat) (c : SlvCell) : State :=
  let l := c.aux1 % 4
  let age := leAt c.body 0 8 + s.fld (F.SLV_LINKn_DELAY_NOW n)
  let flow (drop : Bool) : SlvFlow := { link := n, origin := c.origin, lattice := l, tag := c.tag, entries := c.aux2 % 2 ^ 18, last := s.bases.mono, drop := drop }
  let gone (s : State) : State := (s.putFlow (flow true)).freeHere n
  let root := s.isRoot
  if c.origin = s.deviceId then gone s
  else if s.regN R.SLV_HOP_LIMIT ≤ c.hops then gone (s.count R.SLV_HOP_DROP)
  else if (match s.lastTagOf c.origin l with | some t => decide (c.tag ≤ t) | none => false) then gone (s.count R.SLV_DUP_DROP)
  else
    let budget := 1000 * (s.regN (R.SLV_Ln_BUDGET l))
    let tooOld := budget != 0 && decide (budget < age)
    let s := if tooOld then
      (((s.count R.SLV_OVER_BUDGET).event E.SLV_OVER_BUDGET c.origin (leBytes 2 c.origin ++ leBytes 1 l ++ leBytes 4 (sat32 age))).raise I.SLV_OVER_BUDGET) else s
    let deliverOver := root && s.isSet F.SLV_CTRL_OVER_DELIVER
    if tooOld ∧ !deliverOver then gone (s.cutEarlier c.origin l)
    else
      let s := (s.cutEarlier c.origin l).noteTag c.origin l c.tag
      if root then
        let own : Int := (s.now : Int) - s.instant l c.tag
        let skew := (own - age).natAbs
        let s := if s.regN R.SLV_SKEW_TOL < skew then
          (((s.count R.SLV_AGE_SKEW).event E.SLV_AGE_SKEW c.origin (leBytes 2 c.origin ++ leBytes 4 (sat32 skew))).raise I.SLV_AGE_SKEW) else s
        let flags := leAt c.body 8 2 + (if tooOld then 2 ^ 14 else 0) + (if bit c.flags 1 then 2 ^ 15 else 0)
        let r := s.toRx (rxPacket c.tag c.origin l 0 (c.aux2 % 2 ^ 18) age flags c.hops n [])
        if c.aux2 % 2 ^ 18 = 0 then r.1.freeHere n else (r.1.putFlow (flow (!r.2))).freeHere n
      else
        let s := if c.aux2 % 2 ^ 18 = 0 then s else s.putFlow (flow false)
        s.passOn n { c with age := some (age, s.bases.mono) }

/-- An entry as the ROOT delivers it (R326): one that fails its check code is the absent value. -/
def State.checkEntry (s : State) (origin tag : Nat) (b : List Byte) : State × List Byte :=
  let word := leAt b 0 8
  let tid := leAt b 8 4 % 2 ^ 17
  let q := leAt b 12 2
  if leAt b 14 1 = checkCode word q tid tag then (s, b)
  else
    let q' := setBit (qAbsentFor rFault) qCheckFail
    let s := (s.count R.SLV_CHECK_FAIL).event E.SLV_CHECK_FAIL origin (leBytes 2 origin ++ leBytes 3 tid ++ leBytes 8 tag)
    (s.raise I.SLV_CHECK_FAIL, slvEntry tid absentWord q' tag)

/-- SLOT_DATA. -/
def State.takeData (s : State) (n : Nat) (c : SlvCell) : State :=
  let l := c.aux1 % 4
  match s.slv.flows.find? (fun g => g.link == n && g.origin == c.origin && g.lattice == l && g.tag == c.tag) with
  | none => s.freeHere n
  | some f =>
    let i := c.aux2 % 2 ^ 18
    let k := min 6 (f.entries - i)
    let done := decide (f.entries ≤ i + k)
    let s := if done then s.dropFlow f else s.putFlow { f with next := i + k, last := s.bases.mono }
    if f.drop then s.freeHere n
    else if s.isRoot then
      let es := (List.range k).map (fun j => slice c.body (16 * j) 16)
      let r := es.foldl (fun (a : State × List Byte) b => let y := a.1.checkEntry c.origin c.tag b; (y.1, a.2 ++ y.2)) (s, [])
      ((r.1.toRx (rxPacket c.tag c.origin l 1 i 0 0 c.hops n r.2)).1).freeHere n
    else s.passOn n c

/-! ARM and FIRE (R329, R378). -/

/-- What an ARM or FIRE cell does to the regions of its group. -/
def State.remoteCapt (s : State) (c : SlvCell) : State :=
  if !s.isSet F.CAPT_CTRL_REMOTE_EN ∨ s.domain pdStacks ≠ 0 ∨ s.mode < 3 ∨ 10 < s.mode then s
  else
    let group := leAt c.body 8 1 % 16
    (List.range 16).foldl (fun s r =>
      let e := s.capEntry r
      if !ceEnabled e ∨ ceGroup e ≠ group then s
      else if c.ty = 0x20 then
        (if ceFlag e 3 ∧ (s.capReg r).st ≠ 2 then
          let a := s.armRegion r 1
          if a.2 = stOk then a.1.raise I.CAPT_REMOTE else a.1
        else s)
      else if ceFlag e 4 ∧ 2 ≤ (s.capReg r).st ∧ (s.capReg r).st ≤ 5 then
        let s := (s.event E.CAPT_REMOTE_FIRE r (leBytes 1 r ++ leBytes 2 c.origin ++ leBytes 4 (c.aux2 % 2 ^ 16))).raise I.CAPT_REMOTE
        s.triggerRegion r (leAt c.body 0 8) 2 (leAt c.body 10 1) c.origin (c.aux2 % 2 ^ 16)
      else s) (s.count R.CAPT_REMOTE_RX)

/-- An ARM or FIRE cell is handed to CAPT and passed on every other link, subject to HOP_LIMIT. -/
def State.takeArm (s : State) (n : Nat) (c : SlvCell) : State :=
  let key := (c.origin, c.aux2 % 2 ^ 16)
  let s := s.freeHere n
  if c.origin = s.deviceId ∨ s.slv.handled.contains key then s
  else
    let s := (s.setSlv { s.slv with handled := (key :: s.slv.handled).take 64 }).remoteCapt c
    if s.regN R.SLV_HOP_LIMIT ≤ c.hops then s.count R.SLV_HOP_DROP else s.spread { c with hops := c.hops + 1 } (some n)

/-! Sequence (R321). -/

/-- A sequenced cell is delivered. A slot on the UP link is none that R325 passes on or delivers. -/
def State.takeCell (s : State) (n : Nat) (c : SlvCell) (retry : Bool) (seq : Nat) : State :=
  let s := if retry then
    (((s.count (R.SLV_LINKn_RETRY n)).event E.SLV_RETRY n (leBytes 1 n ++ leBytes 4 seq)).raise I.SLV_RETRY).transient fcLinkCell (element pdSlv n) else s
  if s.role n = 4 then s.freeHere n
  else if c.ty = 0x10 then (if s.role n = 1 then s.freeHere n else s.takeHead n c)
  else if c.ty = 0x11 then s.takeData n c
  else if c.ty = 0x20 ∨ c.ty = 0x21 then s.takeArm n c
  else s.freeHere n

/-- Cells held behind the one that has just arrived follow in SEQ order. -/
def State.takeHeld : Nat → Nat → State → State
  | 0, _, s => s
  | k + 1, n, s =>
    let x := s.link n
    match smFind x.held x.rxNext with
    | some (c, retry) =>
      let seq := x.rxNext
      State.takeHeld k n ((s.putLink n { x with held := smDel x.held seq, rxNext := (seq + 1) % 65536, naked := false }).takeCell n c retry seq)
    | none => s

/-- A sequenced cell arrives (R321): the expected one is delivered, a later one is held and the gap NAKed once. -/
def State.sequenced (s : State) (n : Nat) (l : List Byte) : State :=
  let x := s.link n
  let seq := cellSeq l
  let c := readCell l
  let ahead := (seq + 65536 - x.rxNext) % 65536
  if ahead = 0 then
    State.takeHeld 64 n ((s.putLink n { x with rxNext := (seq + 1) % 65536, naked := false }).takeCell n c (bit c.flags 0) seq)
  else if ahead ≤ 64 then
    s.putLink n { x with held := smPut x.held seq (c, bit c.flags 0), nak := x.nak || !x.naked, naked := true }
  else s

/-- A cell that fails its check or whose TYPE is unknown is discarded (R316, R321); it breaks a run of valid TRAINs (R318). -/
def State.badCell (s : State) (n : Nat) : State :=
  if 3 < n ∨ s.domain pdSlv ≠ 0 then s
  else
    let s := s.count (R.SLV_LINKn_CRC_ERR n)
    if s.linkState n = 1 then s.putLink n { s.link n with trains := 0 } else s

/-- A cell of the given TYPEs arrives on a link; `f` is what it does beyond being heard. A bad cell is a bad cell whatever its TYPE. -/
def State.onCell (s : State) (n : Nat) (l : List Byte) (types : List Nat) (f : State → State) : State :=
  if 3 < n ∨ s.domain pdSlv ≠ 0 ∨ s.role n = 0 then s
  else if !cellValid l then s.badCell n
  else if types.contains (leAt l 0 1) then f (s.cellHeard n l) else s

/-- A slot, ARM or FIRE cell on an UP link, in M2 to M10 (R325). -/
def State.slotish (s : State) (n : Nat) (l : List Byte) (types : List Nat) : State :=
  s.onCell n l types (fun s => if s.linkState n = 3 ∧ 2 ≤ s.mode ∧ s.mode ≤ 10 then s.sequenced n l else s)

def execSlotHeadCell (t link : Nat) (bytes : List Byte) (s : State) : Host.Outcome State Fault Refusal := run t (·.slotish link bytes [0x10]) s
def execSlotDataCell (t link : Nat) (bytes : List Byte) (s : State) : Host.Outcome State Fault Refusal := run t (·.slotish link bytes [0x11]) s
def execArmCell (t link : Nat) (bytes : List Byte) (s : State) : Host.Outcome State Fault Refusal := run t (·.slotish link bytes [0x20]) s
def execFireCell (t link : Nat) (bytes : List Byte) (s : State) : Host.Outcome State Fault Refusal := run t (·.slotish link bytes [0x21]) s
def execBadCell (t link : Nat) (s : State) : Host.Outcome State Fault Refusal := run t (·.badCell link) s

/-! Bring-up (R318). -/

/-- BLOCK_LOCK: a link in training begins to send TRAIN. -/
def State.blockLock (s : State) (n : Nat) : State :=
  if n ≤ 3 ∧ s.domain pdSlv = 0 ∧ s.linkState n = 1 then (s.putLink n { s.link n with lock := true }).putTrain n else s

def execBlockLock (t link : Nat) (s : State) : Host.Outcome State Fault Refusal := run t (·.blockLock link) s

/-- LOCK_LOST (R332). -/
def State.lockLost (s : State) (n : Nat) : State :=
  if n ≤ 3 ∧ s.domain pdSlv = 0 ∧ 1 ≤ s.linkState n ∧ s.linkState n ≤ 3 then s.linkDown n 5 else s

def execLockLost (t link : Nat) (s : State) : Host.Outcome State Fault Refusal := run t (·.lockLost link) s

/-- The roles match: a later mismatch is recorded again. -/
def State.matched (s : State) (n : Nat) : State := s.putLink n { s.link n with mismatch := false }

/-- TRAIN_CELL: an incompatible role stops the link in MISMATCH, recorded once while bring-up is retried; eight valid ones in a row lead to
ACKED; ACKED received leads to MEASURE. -/
def State.trainCell (s : State) (n : Nat) (l : List Byte) : State :=
  s.onCell n l [1] (fun s =>
    let x := s.link n
    let c := readCell l
    if s.linkState n ≠ 1 ∨ !x.lock then s
    else
      let s := (s.putFld (F.SLV_LINKn_STATE_PEER_ID n) c.origin).putFld (F.SLV_LINKn_STATE_PEER_ROLE n) (c.aux1 % 16)
      if c.aux1 ≠ peerRole (s.role n) then
        let s := (s.putLinkState n 5).putLink n { x with since := s.bases.mono, trains := 0, lock := false, mismatch := true }
        if x.mismatch then s else s.event E.SLV_ROLE_MISMATCH n (leBytes 1 n ++ leBytes 1 c.aux1)
      else if bits c.aux2 15 8 ≠ 1 then s.putLink n { x with trains := 0 }
      else
        let k := x.trains + 1
        let s := s.putLink n { x with trains := k, acked := x.acked || bit c.aux2 0 }
        if 8 ≤ k ∧ (x.acked ∨ bit c.aux2 0) then
          (((s.putTrain n).putLinkState n 2).putBeat n).matched n
        else if k = 8 then s.putTrain n else s)

def execTrainCell (t link : Nat) (bytes : List Byte) (s : State) : Host.Outcome State Fault Refusal := run t (·.trainCell link bytes) s

/-- The link is UP (R318 step 5). -/
def State.linkIsReady (s : State) (n delay : Nat) : State :=
  let s := s.putLinkState n 3
  let x := s.link n
  let s := s.putLink n { x with txSeq := 0, sent := 0, credit := 0, unacked := [], rxNext := 0, held := [], freed := 0, nak := false, naked := false }
  let s := s.putReg (R.SLV_LINKn_DELAY n) (2 ^ 16 * delay + delay)
  let s := (s.event E.SLV_LINK_UP n (leBytes 1 n ++ leBytes 2 (s.fld (F.SLV_LINKn_STATE_PEER_ID n)) ++ leBytes 4 delay)).raise I.SLV_LINK_UP
  if s.role n = 4 then s.sendHello else s

/-- HEARTBEAT_CELL (R319): the delay is the least of the last 16; sixteen of them end the measurement. -/
def State.beatCell (s : State) (n : Nat) (l : List Byte) : State :=
  s.onCell n l [2] (fun s =>
    let c := readCell l
    let st := s.linkState n
    if st ≠ 2 ∧ st ≠ 3 then s
    else
      let x := s.link n
      let echo := leAt c.body 8 8
      let s := s.putLink n { x with echo := some (leAt c.body 0 8, s.bases.mono) }
      if echo = 0 then s
      else
        let d := (s.bases.mono - echo - leAt c.body 16 4) / 2
        let ds := (d :: x.delays).take 16
        let least := ds.foldl min d
        let s := s.putLink n { s.link n with delays := ds, beats := x.beats + 1 }
        if st = 3 then
          let s := s.putFld (F.SLV_LINKn_DELAY_NOW n) (min least 0xFFFF)
          if s.fld (F.SLV_LINKn_DELAY_MAX n) < least then s.putFld (F.SLV_LINKn_DELAY_MAX n) (min least 0xFFFF) else s
        else if x.beats + 1 < 16 then s
        else if 1500 < least then s.linkDown n 3
        else s.linkIsReady n least)

def execHeartbeatCell (t link : Nat) (bytes : List Byte) (s : State) : Host.Outcome State Fault Refusal := run t (·.beatCell link bytes) s

/-- HEARTBEAT_SEND: when nothing was sent for 1 µs, and every 100 µs under any load. -/
def State.beatSend (s : State) (n : Nat) : State :=
  let x := s.link n
  if n ≤ 3 ∧ s.domain pdSlv = 0 ∧ (s.linkState n = 2 ∨ s.linkState n = 3) ∧
      (x.lastTx + 1000 ≤ s.bases.mono ∨ x.lastBeat + 100000 ≤ s.bases.mono) then s.putBeat n else s

def execHeartbeatSend (t link : Nat) (s : State) : Host.Outcome State Fault Refusal := run t (·.beatSend link) s

/-- LINK_SILENT. -/
def State.linkSilent (s : State) (n : Nat) : State :=
  if n ≤ 3 ∧ s.domain pdSlv = 0 ∧ s.linkState n = 3 ∧ (s.link n).lastRx + 4000 ≤ s.bases.mono then s.linkDown n 1 else s

def execLinkSilent (t link : Nat) (s : State) : Host.Outcome State Fault Refusal := run t (·.linkSilent link) s

/-- AUTO_RESTART, 1 ms after a link went DOWN; a link DOWN as RANGE is retried under R318 instead. -/
def State.autoRestart (s : State) (n : Nat) : State :=
  if n ≤ 3 ∧ s.linkState n = 4 ∧ s.isSet F.SLV_CTRL_AUTO_RESTART ∧ s.fld (F.SLV_LINKn_STATE_CAUSE n) ≠ 3 ∧
      (s.link n).since + 1000000 ≤ s.bases.mono then s.startLink n else s

def execAutoRestart (t link : Nat) (s : State) : Host.Outcome State Fault Refusal := run t (·.autoRestart link) s

/-- BRINGUP_RETRY, every 1 s in MISMATCH or after RANGE. -/
def State.bringupRetry (s : State) (n : Nat) : State :=
  if n ≤ 3 ∧ (s.linkState n = 5 ∨ (s.linkState n = 4 ∧ s.fld (F.SLV_LINKn_STATE_CAUSE n) = 3)) ∧
      (s.link n).since + 1000000000 ≤ s.bases.mono then s.startLink n else s

def execBringupRetry (t link : Nat) (s : State) : Host.Outcome State Fault Refusal := run t (·.bringupRetry link) s

/-! Retry (R321, R322). -/

/-- A cell is to be sent again; one already retransmitted is a lasting fault. -/
def State.askAgain (s : State) (n seq : Nat) : State :=
  let x := s.link n
  match x.unacked.find? (fun u => u.seq == seq) with
  | none => s
  | some u =>
    if u.again.isSome then s.linkDown n 2
    else s.putLink n { x with unacked := x.unacked.map (fun v => if v.seq = seq then { v with asked := true } else v) }

/-- NAK_CELL. -/
def State.nakCell (s : State) (n : Nat) (l : List Byte) : State :=
  s.onCell n l [3] (fun s => if s.linkState n = 3 then s.askAgain n (leAt l 0xC 4 % 65536) else s)

def execNakCell (t link : Nat) (bytes : List Byte) (s : State) : Host.Outcome State Fault Refusal := run t (·.nakCell link bytes) s

/-- RETRANSMIT: a cell not acknowledged 4 µs after its first transmission. -/
def State.retransmit (s : State) (n : Nat) : State :=
  if 3 < n ∨ s.domain pdSlv ≠ 0 ∨ s.linkState n ≠ 3 then s
  else
    match (s.link n).unacked.find? (fun u => u.again.isNone && !u.asked && decide (u.at' + 4000 ≤ s.bases.mono)) with
    | some u => s.askAgain n u.seq
    | none => s

def execRetransmit (t link : Nat) (s : State) : Host.Outcome State Fault Refusal := run t (·.retransmit link) s

/-- RETRY_FAIL: a retransmitted cell not acknowledged within 4 µs. -/
def State.retryFail (s : State) (n : Nat) : State :=
  let due := (s.link n).unacked.any (fun u => match u.again with | some a => decide (a + 4000 ≤ s.bases.mono) | none => false)
  if n ≤ 3 ∧ s.domain pdSlv = 0 ∧ s.linkState n = 3 ∧ due then s.linkDown n 2 else s

def execRetryFail (t link : Nat) (s : State) : Host.Outcome State Fault Refusal := run t (·.retryFail link) s

def execCellTransmit (t link : Nat) (s : State) : Host.Outcome State Fault Refusal := run t (·.cellTransmit link) s

/-- TRUNCATION_TIMEOUT: 100 ms after a slot's last cell. -/
def State.truncationTimeout (s : State) (origin lattice : Nat) : State :=
  match s.slv.flows.find? (fun f => f.origin == origin && f.lattice == lattice && decide (f.last + 100000000 ≤ s.bases.mono)) with
  | some f => s.truncate f
  | none => s

def execTruncationTimeout (t origin lattice : Nat) (s : State) : Host.Outcome State Fault Refusal := run t (·.truncationTimeout origin lattice) s

/-! Commands (R332). -/

/-- SLV LINK_RESTART. -/
def cmdSlvLinkRestart (s : State) : CmdResult :=
  let n := s.arg 13 0
  if 3 < n ∨ s.role n = 0 then refuse s stBadArg
  else
    let st := s.linkState n
    let s := if 1 ≤ st ∧ st ≤ 3 then s.linkDown n 4 else s
    ok ((s.putLink n { s.link n with downs := [] }).startLink n)

def execSlvLinkRestart (t : Nat) (path : Path) (s : State) : Host.Outcome State Fault Refusal := command t 13 1 path cmdSlvLinkRestart s

/-- LINK_HOLD. -/
def cmdLinkHold (s : State) : CmdResult :=
  let n := s.arg 13 0
  if 3 < n ∨ s.role n = 0 then refuse s stBadArg
  else
    let st := s.linkState n
    let s := if 1 ≤ st ∧ st ≤ 3 then s.linkDown n 4 else s.putFld (F.SLV_LINKn_STATE_CAUSE n) 4
    ok (s.putLinkState n 6)

def execLinkHold (t : Nat) (path : Path) (s : State) : Host.Outcome State Fault Refusal := command t 13 2 path cmdLinkHold s

/-- ORIGIN_READ. -/
def cmdOriginRead (s : State) : CmdResult :=
  match s.lastTagOf (s.arg 13 0) (s.arg 13 1) with
  | some t => { state := s, r0 := t % 2 ^ 32, r1 := t / 2 ^ 32 }
  | none => refuse s stBadArg

def execOriginRead (t : Nat) (path : Path) (s : State) : Host.Outcome State Fault Refusal := command t 13 3 path cmdOriginRead s

/-- A draft load: the section's figures are shown and the links start (R314, R318). -/
def State.slvLoad (s : State) : State :=
  let b := s.cfg secSlv
  let s := s.setSlv {}
  let s := s.putReg R.SLV_STATUS 0
  let s := (s.putFld F.SLV_DEVICE_DEVICE_ID s.deviceId).putFld F.SLV_DEVICE_ROOT (if s.isRoot then 1 else 0)
  let s := (s.putFld F.SLV_CTRL_AUTO_RESTART (bits (leAt b 2 1) 1 1)).putFld F.SLV_CTRL_OVER_DELIVER (bits (leAt b 2 1) 2 2)
  let s := s.putReg R.SLV_HOP_LIMIT (leAt b 3 1)
  let s := (List.range 4).foldl (fun s l => s.putReg (R.SLV_Ln_BUDGET l) (leAt b (8 + 4 * l) 4)) s
  let s := (List.range 4).foldl (fun s n => s.putFld (F.SLV_LINKn_STATE_ROLE n) (s.role n)) s
  s.startLinks

end Sys2Proof.Machine
end

