-- ==== Sys2Proof/Machine/Capt.lean ====
section
/-!
DEFINITION. Sys2Proof/Machine/Capt.lean: the capture commands (R367 to R383).
-/

namespace Sys2Proof.Machine

/-! INPUT_CHANGE (R367, R368). -/

/-- Does a pattern match the inputs? -/
def State.patternMatches (s : State) (p : Nat) (inputs : Nat) : Bool :=
  let e := slice (s.cfg secCapt) (2048 + 64 * p) 64
  let mask := leAt e 0 32
  (inputs &&& mask) == (leAt e 32 32 &&& mask)

/-- INPUT_CHANGE: the change at the front is handled; a region whose pattern goes from not matching to matching triggers, naming the
lowest-numbered one. -/
def State.inputChange (s : State) : State :=
  match s.inputQ with
  | [] => s
  | c :: r =>
    if s.domain pdStacks ≠ 0 then s
    else
      let s := s.setInputQ r
      let old := leNat s.inputBytes
      let a := R.CAPT_INPUTSn (c.input / 32)
      let w := s.regN a
      let s := s.putReg a (if c.value then setBit w (c.input % 32) else clrBit w (c.input % 32))
      let new := leNat s.inputBytes
      (List.range 16).foldl (fun s r =>
        let e := s.capEntry r
        let hits := (cePatterns e).filter (fun p => !s.patternMatches p old && s.patternMatches p new)
        match (if ceEnabled e then hits.min? else none) with
        | some p => s.triggerRegion r c.time 0 p s.deviceId 0
        | none => s) s

def execInputChange (t : Nat) (s : State) : Host.Outcome State Fault Refusal := run t State.inputChange s

/-! CLOSING and REARM (R369). -/

/-- WAVE_WAIT_END: the samples gathered are written and the region enters REARM. -/
def State.waveWaitEnd (s : State) (r : Nat) : State :=
  let x := s.capReg r
  if x.st ≠ 4 ∨ s.domain pdStacks ≠ 0 ∨ s.bases.mono < x.since + 1000000 * (ceWait (s.capEntry r)) then s
  else (s.flushRuns r).captState r 5

def execWaveWaitEnd (t region : Nat) (s : State) : Host.Outcome State Fault Refusal := run t (·.waveWaitEnd region) s

/-- REARM_DONE: the header is written; the region arms again, goes FULL or disarms. -/
def State.rearmDone (s : State) (r : Nat) : State :=
  let x := s.capReg r
  if x.st ≠ 5 ∨ s.domain pdStacks ≠ 0 then s
  else
    let e := s.capEntry r
    let s := s.closeRecord r false
    if x.disarm then s.disarmRegion r 0
    else if !ceFlag e 1 then s.captState r 1
    else
      let s := s.putReg (R.CAPT_Rr_WORST r) (s.worstPages e)
      if s.mayArm r e then s.captState r 2
      else
        let s := s.event E.CAPT_REGION_FULL r (leBytes 1 r ++ leBytes 4 (s.worstPages e) ++ leBytes 4 (s.roomPages r e))
        (s.raise I.CAPT_FULL).captState r 6

def execRearmDone (t region : Nat) (s : State) : Host.Outcome State Fault Refusal := run t (·.rearmDone region) s

/-! Commands (R382). -/

def State.capturing (s : State) : Bool := decide (3 ≤ s.mode ∧ s.mode ≤ 10)

/-- ARM. -/
def cmdArm (s : State) : CmdResult :=
  let r := s.arg 14 0
  if !s.capturing then refuse s stIllegal
  else if 15 < r ∨ !ceEnabled (s.capEntry r) then refuse s stBadArg
  else
    let a := s.armRegion r 0
    { state := a.1, status := a.2 }

def execArm (t : Nat) (path : Path) (s : State) : Host.Outcome State Fault Refusal := command t 14 1 path cmdArm s

/-- DISARM: a record in progress finishes first (R381). -/
def cmdDisarm (s : State) : CmdResult :=
  let r := s.arg 14 0
  if 15 < r ∨ !ceEnabled (s.capEntry r) then refuse s stBadArg
  else
    let x := s.capReg r
    if 3 ≤ x.st ∧ x.st ≤ 5 then ok (s.putCapt r { x with disarm := true })
    else if x.st = 2 ∨ x.st = 6 then ok (s.disarmRegion r 0)
    else ok s

def execDisarm (t : Nat) (path : Path) (s : State) : Host.Outcome State Fault Refusal := command t 14 2 path cmdDisarm s

/-- FIRE: T_trig is the active-base time. -/
def cmdFire (s : State) : CmdResult :=
  let r := s.arg 14 0
  if !s.capturing then refuse s stIllegal
  else if 15 < r ∨ !ceEnabled (s.capEntry r) then refuse s stBadArg
  else if (s.capReg r).st ≠ 2 then refuse s stBusy
  else ok (s.triggerRegion r s.now 1 0xFF s.deviceId 0)

def execFire (t : Nat) (path : Path) (s : State) : Host.Outcome State Fault Refusal := command t 14 3 path cmdFire s

/-- TRIG_SET. -/
def cmdTrigSet (s : State) : CmdResult :=
  let i := s.arg 14 0
  if !s.capturing then refuse s stIllegal
  else if 255 < i ∨ s.inputEntry i % 16 ≠ 6 then refuse s stBadArg
  else ok (s.pushInput i (s.arg 14 1 % 2 == 1) s.now)

def execTrigSet (t : Nat) (path : Path) (s : State) : Host.Outcome State Fault Refusal := command t 14 4 path cmdTrigSet s

/-- RECORD_LOCK (R380, R381): refused with BUSY in TRIGGERED and CLOSING, with NO_SPACE on a fifth record. -/
def cmdRecordLock (s : State) : CmdResult :=
  let r := s.arg 14 0
  let seq := s.arg 14 1
  if 15 < r ∨ !ceEnabled (s.capEntry r) then refuse s stBadArg
  else
    let x := s.capReg r
    if x.st = 3 ∨ x.st = 4 then refuse s stBusy
    else match x.held.find? (fun h => h.seq == seq) with
      | none => refuse s stBadArg
      | some h =>
        if h.locked then ok s
        else if 4 ≤ (x.held.filter (·.locked)).length then refuse s stNoSpace
        else ok (s.putCapt r { x with held := x.held.map (fun y => if y.seq = seq then { y with locked := true } else y) })

def execRecordLock (t : Nat) (path : Path) (s : State) : Host.Outcome State Fault Refusal := command t 14 5 path cmdRecordLock s

/-- RECORD_UNLOCK. -/
def cmdRecordUnlock (s : State) : CmdResult :=
  let r := s.arg 14 0
  let seq := s.arg 14 1
  if 15 < r ∨ !ceEnabled (s.capEntry r) then refuse s stBadArg
  else
    let x := s.capReg r
    if x.held.any (fun h => h.seq == seq) then
      ok (s.putCapt r { x with held := x.held.map (fun y => if y.seq = seq then { y with locked := false } else y) })
    else refuse s stBadArg

def execRecordUnlock (t : Nat) (path : Path) (s : State) : Host.Outcome State Fault Refusal := command t 14 6 path cmdRecordUnlock s

end Sys2Proof.Machine
end

