-- ==== Sys2Proof/Machine/OscOps.lean ====
section
/-!
DEFINITION. Sys2Proof/Machine/OscOps.lean: trackers and mode-shape jobs (R205 to R228): the OSC section, probes and filters, the zoom
spectrum, mode estimators, features, checkpoints and seeding.
-/

namespace Sys2Proof.Machine

/-- How many of a value's two checked readings fail in a close pipeline: reader block, unit, fails (log 19). -/
abbrev Checks := List (Nat × Nat × Nat)

def Checks.fails (c : Checks) (block unit : Nat) : Nat :=
  match c.find? (fun x => x.1 == block && x.2.1 == unit) with | some x => x.2.2 | none => 0

/-! The OSC section: tracker entries, then jobs, each entry followed by its list (log 25). -/

/-- Is the entry at an offset a job entry: does its LIST_OFFSET point behind it? -/
def isJobEntry (body : List Byte) (off : Nat) : Bool := leAt body (off + 0xC) 4 == off + 64

/-- Entries from an offset on: offset, whether it is a job. -/
def oscEntriesFrom (body : List Byte) : Nat → Nat → List (Nat × Bool)
  | 0, _ => []
  | n + 1, off =>
    if body.length < off + 64 then []
    else
      let job := isJobEntry body off
      (off, job) :: oscEntriesFrom body n (off + 64 + (if job then 4 * leAt body (off + 6) 2 else 0))

def oscEntries (body : List Byte) : List (Nat × Bool) := oscEntriesFrom body (body.length / 64 + 1) 0

/-- Tracker entries by number. -/
def oscTrackers (body : List Byte) : List (Nat × List Byte) :=
  (oscEntries body).filterMap (fun e => if e.2 then none else let b := slice body e.1 64; some (leAt b 0 2 % 4096, b))

/-- Job entries by number, each with its list. -/
def oscJobs (body : List Byte) : List (Nat × List Byte) :=
  (oscEntries body).filterMap (fun e =>
    if e.2 then let b := slice body e.1 (64 + 4 * leAt body (e.1 + 6) 2); some (leAt b 0 1 % 64, b) else none)

/-- Fields of a tracker entry (R205). -/
def teFlag (e : List Byte) (i : Nat) : Bool := bit (leAt e 2 1) i
def teBand (e : List Byte) : Nat := leAt e 3 1 % 4
def teProbe (e : List Byte) : Nat := leAt e 4 4 % 2 ^ 20
def teWindow (e : List Byte) : Nat := leAt e 0x10 2
def teModes (e : List Byte) : Nat := leAt e 0x12 1
def teLine (e : List Byte) : Bool := leAt e 0x13 1 == 1
def teFloor (e : List Byte) : Rat := Fp.toRat32 (leAt e 0x14 4)

/-- Preset range and F_min of a band (R207). -/
def bandLo (b : Nat) : Rat := [1 / 20, 7 / 10, 5 / 2, 5].getD b 5
def bandHi (b : Nat) : Rat := [1, 5 / 2, 15, 45].getD b 45
def bandMin (b : Nat) : Nat := [4, 8, 40, 120].getD b 120
def teLo (e : List Byte) : Rat := if leAt e 8 4 = 0 then bandLo (teBand e) else Fp.toRat32 (leAt e 8 4)
def teHi (e : List Byte) : Rat := if leAt e 0xC 4 = 0 then bandHi (teBand e) else Fp.toRat32 (leAt e 0xC 4)
/-- Width of a bin of the zoom spectrum (R211). -/
def teBin (e : List Byte) : Rat := (teHi e - teLo e) / 64

/-- TID and PART of a PROBE word. -/
def prTid (p : Nat) : Nat := p % 2 ^ 17
def prPart (p : Nat) : Nat := p / 2 ^ 17 % 8

/-- Fields of a job entry (R226). -/
def jeFlag (e : List Byte) (i : Nat) : Bool := bit (leAt e 1 1) i
def jeTracker (e : List Byte) : Nat := leAt e 2 2 % 4096
def jeMode (e : List Byte) : Nat := leAt e 4 1 % 4
def jePeriod (e : List Byte) : Nat := leAt e 5 1
def jeMembers (e : List Byte) : Nat := leAt e 6 2
def jeTau (e : List Byte) : Rat := Fp.toRat32 (leAt e 8 4)
def jeProbe (e : List Byte) (i : Nat) : Nat := leAt e (64 + 4 * i) 4 % 2 ^ 20

def State.trackerEntry (s : State) (k : Nat) : List Byte :=
  (((oscTrackers (s.cfg secOsc)).find? (fun e => e.1 == k)).map (·.2)).getD []
/-- A tracker's entry under the configuration of an instant (R56, R223): empty where the section has none. -/
def State.trackerEntryAt (s : State) (k instant : Nat) : List Byte :=
  (((oscTrackers (s.cfgAt secOsc instant)).find? (fun e => e.1 == k)).map (·.2)).getD []

/-- The lattice of a tracker entry's probe. -/
def State.entryLattice (s : State) (e : List Byte) : Nat := catLattice (s.cat (prTid (teProbe e)))

def State.tracker (s : State) (k : Nat) : OscTracker := smGet {} s.osc.trackers k
def State.putTracker (s : State) (k : Nat) (x : OscTracker) : State := s.setOsc { s.osc with trackers := smPut s.osc.trackers k x }
def State.shapeJob (s : State) (j : Nat) : ShapeJob := smGet {} s.osc.jobs j
def State.putShape (s : State) (j : Nat) (x : ShapeJob) : State := s.setOsc { s.osc with jobs := smPut s.osc.jobs j x }

/-- `OSC_STATUS`: trackers enabled in the configuration in force, trackers in TRACKING. -/
def State.showOsc (s : State) : State :=
  let conf := ((oscTrackers (s.cfg secOsc)).filter (fun e => teFlag e.2 0)).length
  let live := (s.osc.trackers.filter (fun x => x.2.st == 2)).length
  (s.putFld F.OSC_STATUS_CONFIGURED conf).putFld F.OSC_STATUS_TRACKING live

/-! Rates (R207, R208, R210). -/

/-- M, the decimation factor. -/
def State.oscM (s : State) (e : List Byte) : Nat := max 1 (s.rate (catLattice (s.cat (prTid (teProbe e)))) / bandMin (teBand e))

/-- T, the tracker period in seconds. -/
def State.oscT (s : State) (e : List Byte) : Rat :=
  ((s.oscM e : Nat) : Rat) / ((max 1 (s.rate (catLattice (s.cat (prTid (teProbe e))))) : Nat) : Rat)

/-- N_W. -/
def State.oscNw (s : State) (e : List Byte) : Nat :=
  let x := ((teWindow e : Nat) : Rat) / s.oscT e
  max 1 ((x.num.toNat + x.den - 1) / x.den)

/-- H. -/
def State.oscHop (s : State) (e : List Byte) : Nat := max 1 ((s.oscNw e + 15) / 16)

/-- Slots that the filter spans on each side of its centre (R208). -/
def State.oscSpan (s : State) (e : List Byte) : Nat := let m := s.oscM e; if m = 1 then 0 else 4 * m

/-! Probes (R206, R209). -/

/-- The quality bits a sample carries: SYNC_LOSS, SRC_ERR, TEST, CLIPPED. -/
def carried (q : Nat) : Nat := q &&& 0x2E0

/-- Taps kept: the longest filter span, of M = 240. -/
abbrev probeTaps : Nat := 1921

def State.probe (s : State) (p : Nat) : ProbeSt := smGet {} s.osc.probes p
def State.putProbe (s : State) (p : Nat) (x : ProbeSt) : State := s.setOsc { s.osc with probes := smPut s.osc.probes p x }

/-- The unwrapped angle after a raw one: the change lies from −½ to ½ turn. -/
def unwrap (x : ProbeSt) (raw : Nat) : Int :=
  match x.raw with
  | none => raw
  | some r => x.turns + signed 32 (unsigned 32 ((raw : Int) - r))

/-- A slot without a valid value: the latest valid one before it takes its place; with none before, an open value (log 25). -/
def State.absentTap (s : State) (p slot reason : Nat) (bad : Bool) : State :=
  let x := s.probe p
  let s := if x.valid.isNone then s.draw else s
  let v := x.valid.getD (s.free32, 0)
  s.putProbe p { x with taps := (⟨slot, v.1, true, v.2, bad⟩ :: x.taps).take probeTaps, reason := reason }

/-- A slot with a valid word. -/
def State.validTap (s : State) (p slot word quality : Nat) : State :=
  let x := s.probe p
  let lo := word % 2 ^ 32
  let turns := if prPart p = 3 then unwrap x lo else 0
  let v := if prPart p = 1 then lo else if prPart p = 3 then Fp.ofRat32 ((turns : Rat) / (2 ^ 32 : Nat)) else word / 2 ^ 32
  if !Fp.finite32 v then s.absentTap p slot rSourceInvalid false
  else
    let q := carried quality
    s.putProbe p { x with
      taps := (⟨slot, v, false, q, false⟩ :: x.taps).take probeTaps
      valid := some (v, q)
      raw := if prPart p = 3 then some lo else x.raw
      turns := turns }

/-- The lowest tracker that runs on a probe. -/
def State.trackerOf (s : State) (p : Nat) : Nat :=
  ((s.osc.trackers.find? (fun x => teProbe x.2.entry == p && teFlag x.2.entry 0)).map (·.1)).getD noSource

/-- A probe that starts takes a slot before its first from what the Loom still holds, for the spans that reach back (R208). -/
def State.pastTap (s : State) (p l n : Nat) : State :=
  let v := s.anaSlot l (tagOfNumber (s.rate l) n) (prTid p)
  if bit v.2 qValid then s.validTap p n v.1 v.2 else s.absentTap p n (qReason v.2) false

/-- A probe takes the slot of a tag; slots skipped before it, of this run of the lattice, are absent (R209, R224, R230). -/
def State.probeSlot (s : State) (p l tag : Nat) (checks : Checks) : State :=
  let n := slotNumber (s.rate l) tag
  let first := slotNumber (s.rate l) (s.lat l).first
  let x := s.probe p
  let s := match x.taps.head? with
    | some t =>
      if first ≤ t.slot then
        (List.range (min (n - t.slot - 1) probeTaps)).reverse.foldl (fun (s : State) i => s.absentTap p (n - 1 - i) rNotArrived false) s
      else s.putProbe p { x with taps := [], raw := none, turns := 0, valid := none }
    | none => (List.range (min (n - first) (s.rate l))).reverse.foldl (fun (s : State) i => s.pastTap p l (n - 1 - i)) s
  let v := s.anaSlot l tag (prTid p)
  let k := s.trackerOf p
  let c := s.checkedRead (checks.fails 7 (prTid p)) 7 pdAna R.OSC_CHECK_RETRY R.OSC_CHECK_FAIL E.OSC_CHECK_RETRY E.OSC_CHECK_FAIL k
    I.OSC_CHECK_FAIL (leBytes 2 k ++ leBytes 8 tag)
  if !c.2 then c.1.absentTap p n rFault true
  else if bit v.2 qValid then c.1.validTap p n v.1 v.2
  else c.1.absentTap p n (qReason v.2) false

/-! Filter (R208, R209). -/

/-- sin(πx)/(πx). -/
def sinc (x : Rat) : Rat := if x = 0 then 1 else Fp.sinR (Fp.piR * x) / (Fp.piR * x)

/-- Unscaled tap i of −4M to 4M. -/
def rawTap (m : Nat) (i : Int) : Rat :=
  let fc : Rat := (2 / 5) / (m : Rat)
  2 * fc * sinc (2 * fc * (i : Rat)) * (27 / 50 + 23 / 50 * Fp.cosR (Fp.piR * (i : Rat) / ((4 * m : Nat) : Rat)))

/-- The taps, unity at 0 Hz. -/
def firTaps (m : Nat) : List Rat :=
  let l := (List.range (8 * m + 1)).map (fun (k : Nat) => rawTap m ((k : Int) - 4 * (m : Int)))
  let sum := l.foldl (· + ·) 0
  l.map (· / sum)

/-- A tracker sample (R208, R209): its value (none: absent), quality bits, whether its centre failed its check twice. -/
structure OscSample where
  value : Option Nat
  quality : Nat
  bad : Bool
  deriving DecidableEq, Repr

/-- The sample of a probe with centre slot c; one that is not finite is absent (R495). -/
def probeSample (x : ProbeSt) (m c : Nat) : OscSample :=
  let span := if m = 1 then 0 else 4 * m
  let taps := (x.taps.filter (fun t => decide (c ≤ t.slot + span) && decide (t.slot ≤ c + span))).reverse
  match taps.find? (fun t => t.slot == c) with
  | none => ⟨none, 0, false⟩
  | some mid =>
    let q := taps.foldl (fun a t => a ||| t.quality) 0
    let gone := (taps.filter (·.replaced)).length
    if mid.replaced ∨ taps.length < 2 * span + 1 ∨ 2 * span + 1 < 4 * gone then ⟨none, q, mid.bad⟩
    else
      let v := if m = 1 then mid.value else Fp.ofRat32 (((firTaps m).zip taps).foldl (fun a h => a + h.1 * Fp.toRat32 h.2.value) 0)
      if Fp.finite32 v then ⟨some v, q, false⟩ else ⟨none, setBit q qSrcErr, false⟩

/-! Estimators (R213 to R217), in binary64. -/

def dot (a b : List Rat) : Rat := (a.zip b).foldl (fun s p => s + p.1 * p.2) 0
def matT (a : List (List Rat)) : List (List Rat) := (List.range 4).map (fun j => a.map (fun r => r.getD j 0))
def matMul (a b : List (List Rat)) : List (List Rat) := let t := matT b; a.map (fun r => t.map (fun c => dot r c))
def matAdd (a b : List (List Rat)) : List (List Rat) := (a.zip b).map (fun r => (r.1.zip r.2).map (fun p => p.1 + p.2))
def diag (l : List Rat) : List (List Rat) := (List.range 4).map (fun i => (List.range 4).map (fun j => if i = j then l.getD i 0 else 0))
def mat64 (a : List (List Rat)) : List (List Rat) := a.map (fun r => r.map Fp.r64)
def matAt (a : List (List Rat)) (i j : Nat) : Rat := (a.getD i []).getD j 0

/-- Predict: the state and covariance one period on. -/
def OscMode.predict (m : OscMode) (T V qa qs qw : Rat) : OscMode :=
  let r := Fp.expR (m.sigma * T)
  let c := Fp.cosR (m.omega * T)
  let s := Fp.sinR (m.omega * T)
  let p := Fp.r64 (r * (c * m.p - s * m.q))
  let q := Fp.r64 (r * (s * m.p + c * m.q))
  let f := [[r * c, -(r * s), T * p, -(T * q)], [r * s, r * c, T * q, T * p], [0, 0, 1, 0], [0, 0, 0, 1]]
  let cov := matAdd (matMul (matMul f m.cov) (matT f)) (diag [qa * V, qa * V, qs * T, qw * T])
  { m with p := p, q := q, cov := mat64 cov }

/-- Update by the innovation e; ω is clamped to the band widened by a bin. -/
def OscMode.update (m : OscMode) (e V lo hi bw : Rat) : OscMode :=
  let g := matAt m.cov 0 0 + V
  let k := (List.range 4).map (fun i => matAt m.cov i 0 / g)
  let row := m.cov.getD 0 []
  let cov := (m.cov.zip k).map (fun r => (r.1.zip row).map (fun p => p.1 - r.2 * p.2))
  let w := m.omega + k.getD 3 0 * e
  { m with
    p := Fp.r64 (m.p + k.getD 0 0 * e)
    q := Fp.r64 (m.q + k.getD 1 0 * e)
    sigma := Fp.r64 (m.sigma + k.getD 2 0 * e)
    omega := Fp.r64 (max (2 * Fp.piR * (lo - bw)) (min (2 * Fp.piR * (hi + bw)) w))
    cov := mat64 cov }

/-- Features of R215. -/
def OscMode.freq (m : OscMode) : Rat := m.omega / (2 * Fp.piR)
def OscMode.rho (m : OscMode) : Rat := Fp.sqrtRat (m.sigma * m.sigma + m.omega * m.omega)
def OscMode.zeta (m : OscMode) : Rat := -m.sigma / m.rho
def OscMode.amp (m : OscMode) : Rat := Fp.sqrtRat (m.p * m.p + m.q * m.q)
def OscMode.phaseNow (m : OscMode) : Nat := Fp.toTurn (Fp.atan2T m.q m.p)

/-- s_ζ from the linearised variance of σ and ω. -/
def OscMode.devZeta (m : OscMode) : Rat :=
  let r := m.rho
  let a := -(m.omega * m.omega) / (r * r * r)
  let b := m.sigma * m.omega / (r * r * r)
  Fp.sqrtRat (a * a * matAt m.cov 2 2 + 2 * a * b * matAt m.cov 2 3 + b * b * matAt m.cov 3 3)

/-- 10 log₁₀((A² / 2) / V) (R217). -/
def OscMode.snr (m : OscMode) (V : Rat) : Rat := 10 * Fp.lnR ((m.p * m.p + m.q * m.q) / 2 / V) / Fp.lnR 10

/-- |x|. -/
def absR (x : Rat) : Rat := if x < 0 then -x else x

def clamp01 (x : Rat) : Rat := max 0 (min 1 x)

/-- The confidence (R217). -/
def OscMode.confidence (m : OscMode) (V v sz : Rat) : Nat :=
  (Fp.rint (255 * v * clamp01 ((m.snr V - 3) / 17) * clamp01 (1 - sz / (1 / 50)))).toNat

/-- After an update the features are formed (R215). -/
def OscMode.formed (m : OscMode) (V v : Rat) : OscMode :=
  let sz := m.devZeta
  { m with
    sz := sz, conf := m.confidence V v sz, freq32 := Fp.ofRat32 m.freq, zeta32 := Fp.ofRat32 m.zeta, amp32 := Fp.ofRat32 m.amp
    phase := m.phaseNow }

/-! The window and its spectrum (R210 to R213). -/

/-- Valid fraction v. -/
def OscTracker.fraction (x : OscTracker) (nw : Nat) : Rat := (((x.window.filter (·.2)).length : Nat) : Rat) / ((max 1 nw : Nat) : Rat)

/-- Instants of the window's samples relative to the newest, in seconds, oldest first. -/
def State.windowTimes (s : State) (l m newest count : Nat) : List Rat :=
  let rate := s.rate l
  let at' (k : Nat) : Int := (slotInstant rate (tagOfNumber rate (newest - m * k)) : Int)
  (List.range count).reverse.map (fun k => ((at' k - at' 0 : Int) : Rat) / (1000000000 : Nat))

/-- Mean or least-squares line of the window against time: value at the newest sample and slope per second. -/
def trendOf (line : Bool) (y t : List Rat) : Rat × Rat :=
  let n : Rat := ((max 1 y.length : Nat) : Rat)
  let my := (y.foldl (· + ·) 0) / n
  if !line then (my, 0)
  else
    let mt := (t.foldl (· + ·) 0) / n
    let stt := t.foldl (fun a u => a + (u - mt) * (u - mt)) 0
    let sty := (t.zip y).foldl (fun a u => a + (u.1 - mt) * (u.2 - my)) 0
    let b := if stt = 0 then 0 else sty / stt
    (my - b * mt, b)

/-- Hann weights of the newest `count` of nw places. -/
def hann (nw count : Nat) : List Rat :=
  ((List.range nw).drop (nw - count)).map (fun i =>
    1 / 2 - 1 / 2 * Fp.cosR (2 * Fp.piR * (((i : Nat) : Rat) + 1 / 2) / ((nw : Nat) : Rat)))

/-- X at a frequency. -/
def zoom (w y t : List Rat) (f : Rat) : Rat × Rat :=
  (w.zip (y.zip t)).foldl (fun a u =>
    let ph := 2 * Fp.piR * f * u.2.2
    (a.1 + u.1 * u.2.1 * Fp.cosR ph, a.2 - u.1 * u.2.1 * Fp.sinR ph)) (0, 0)

/-- Insert in rising order. -/
def insertRat (x : Rat) : List Rat → List Rat
  | [] => [x]
  | y :: l => if x ≤ y then x :: y :: l else y :: insertRat x l

/-- The median of 64 powers: the mean of the middle two. -/
def median64 (l : List Rat) : Rat :=
  let o := l.foldl (fun a x => insertRat x a) []
  (o.getD 31 0 + o.getD 32 0) / 2

/-- Candidate bins, strongest first (R212): a bin within two of a stronger candidate is none. -/
def candidates (P : List Rat) (least : Rat) : List Nat :=
  let p (k : Nat) : Rat := P.getD k 0
  let peak (k : Nat) : Bool := (k == 0 || decide (p (k - 1) < p k)) && (k == 63 || decide (p (k + 1) ≤ p k)) && decide (least ≤ p k)
  let order := ((List.range 64).filter peak).foldl (fun (a : List Nat) k => (a.filter (fun j => decide (p k ≤ p j))) ++ [k] ++ (a.filter (fun j => decide (p j < p k)))) []
  order.foldl (fun (a : List Nat) k => if a.any (fun j => decide (p k < p j) && decide (j ≤ k + 2) && decide (k ≤ j + 2)) then a else a ++ [k]) []

/-- The refined frequency of a candidate. -/
def refined (P : List Rat) (lo width : Rat) (k : Nat) : Rat :=
  let f := lo + (((k : Nat) : Rat) + 1 / 2) * width
  if k = 0 ∨ k = 63 then f
  else
    let a := Fp.lnR (P.getD (k - 1) 0)
    let b := Fp.lnR (P.getD k 0)
    let c := Fp.lnR (P.getD (k + 1) 0)
    f + (1 / 2) * (a - c) / (a - 2 * b + c) * width

/-- The live mode slot nearest to a frequency within two bins; the lower on a tie. -/
def nearestMode (ms : List OscMode) (f width : Rat) : Option (Nat × Rat) :=
  (ms.zipIdx).foldl (fun (b : Option (Nat × Rat)) m =>
    let d := absR (m.1.freq - f)
    if !m.1.live ∨ 2 * width < d then b
    else match b with
      | some (_, e) => if d < e then some (m.2, d) else b
      | none => some (m.2, d)) none

/-- Which candidates match, each with its mode slot: an estimator takes the nearest of those that choose it. -/
def matchModes (ms : List OscMode) (fs : List Rat) (width : Rat) : List (Option Nat) :=
  let want := fs.map (fun f => nearestMode ms f width)
  (want.zipIdx).map (fun w =>
    match w.1 with
    | none => none
    | some (m, d) =>
      let beaten := (want.zipIdx).any (fun v => match v.1 with
        | some (m', d') => m' == m && (decide (d' < d) || (d' == d && decide (v.2 < w.2)))
        | none => false)
      if beaten then none else some m)

def State.putMode (s : State) (k i : Nat) (m : OscMode) : State :=
  let x := s.tracker k
  s.putTracker k { x with modes := x.modes.set i m }

/-- A candidate without a match seeds the lowest free slot, or is dropped (R213). -/
def State.seedMode (s : State) (k : Nat) (e : List Byte) (f : Rat) (X : Rat × Rat) (wsum : Rat) : State :=
  let x := s.tracker k
  match (x.modes.zipIdx).find? (fun m => !m.1.live && decide (m.2 < teModes e)) with
  | none => s
  | some (m, i) =>
    let z0 := Fp.toRat32 (s.regN R.OSC_ZETA_INIT)
    let w := 2 * Fp.piR * f
    let p := 2 * X.1 / wsum
    let q := 2 * X.2 / wsum
    let a2 := 4 * (p * p + q * q)
    let bw := 2 * Fp.piR * teBin e
    let n : OscMode := {
      live := true, gen := (m.gen + 1) % 256, p := Fp.r64 p, q := Fp.r64 q, sigma := Fp.r64 (-(z0 * w)), omega := Fp.r64 w
      cov := mat64 (diag [a2, a2, z0 * w * (z0 * w), bw * bw]) }
    let s := (s.putMode k i n).count R.OSC_SEEDED
    (s.event E.OSC_MODE_SEEDED k (leBytes 2 k ++ leBytes 1 i ++ leBytes 4 n.gen ++ leBytes 4 (Fp.ofRat32 f))).raise I.OSC_MODE_SEEDED

/-- An estimator is freed: cause 0 unmatched, 1 out of the band, 2 merged (log 11). -/
def State.dropMode (s : State) (k i cause : Nat) : State :=
  let m := (s.tracker k).modes.getD i {}
  let s := (s.putMode k i { m with live := false }).count R.OSC_DROPPED
  (s.event E.OSC_MODE_DROPPED k (leBytes 2 k ++ leBytes 1 i ++ leBytes 1 cause)).raise I.OSC_MODE_DROPPED

/-- The three cases in which an estimator is freed at a hop (R213). -/
def State.reviewMode (s : State) (k : Nat) (e : List Byte) (V : Rat) (i : Nat) : State :=
  let ms := (s.tracker k).modes
  let m := ms.getD i {}
  let bw := teBin e
  let pick : Rat := ((s.fld F.OSC_PICK_RATIO : Nat) : Rat) / 10
  if !m.live then s
  else if s.fld F.OSC_PICK_DROP_HOPS ≤ m.unmatched ∧ m.snr V < pick then s.dropMode k i 0
  else if m.freq < teLo e - bw ∨ teHi e + bw < m.freq then s.dropMode k i 1
  else
    match (ms.zipIdx).find? (fun o => o.1.live && o.2 != i && decide (absR (o.1.freq - m.freq) ≤ bw) &&
        (decide (m.conf < o.1.conf) || (o.1.conf == m.conf && decide (o.2 < i)))) with
    | none => s
    | some (_, j) =>
      ((s.dropMode k i 2).count R.OSC_MERGED).event E.OSC_MODE_MERGED k (leBytes 2 k ++ leBytes 1 j ++ leBytes 1 i)

/-- A hop (R211 to R213). -/
def State.oscHopAt (s : State) (k l centre : Nat) : State :=
  let x := s.tracker k
  let e := x.entry
  let nw := s.oscNw e
  let y0 := x.window.map (·.1)
  let t := s.windowTimes l (s.oscM e) centre y0.length
  let tr := trendOf (teLine e) y0 t
  let y := (y0.zip t).map (fun u => u.1 - (tr.1 + tr.2 * u.2))
  let w := hann nw y.length
  let w2 := (hann nw nw).foldl (fun a u => a + u * u) 0
  let wsum := (hann nw nw).foldl (· + ·) 0
  let lo := teLo e
  let bw := teBin e
  let P := (List.range 64).map (fun i =>
    let X := zoom w y t (lo + (((i : Nat) : Rat) + 1 / 2) * bw)
    Fp.r64 ((X.1 * X.1 + X.2 * X.2) / w2))
  let V := max (median64 P) (teFloor e)
  let s := s.putTracker k { x with
    sinceHop := 0, noise := V, bins := P, trend := (Fp.r64 tr.1, Fp.r64 tr.2, slotInstant (s.rate l) (tagOfNumber (s.rate l) centre)) }
  let cands := if x.fraction nw < 4 / 5 then []
    else (candidates P (V * Fp.expR (Fp.lnR 10 * ((s.fld F.OSC_PICK_RATIO : Nat) : Rat) / 100))).take (teModes e)
  let fs := cands.map (refined P lo bw)
  let pairs := matchModes (s.tracker k).modes fs bw
  let s := (List.range 4).foldl (fun s i =>
    let m := (s.tracker k).modes.getD i {}
    s.putMode k i { m with unmatched := if pairs.contains (some i) then 0 else m.unmatched + 1 }) s
  let s := (fs.zip pairs).foldl (fun s f =>
    if f.2.isSome then s else s.seedMode k e f.1 (zoom w y t f.1) wsum) s
  (List.range 4).foldl (fun s i => s.reviewMode k e V i) s

/-! Features (R220, R221). -/

/-- The quality of a mode's features. -/
def State.featureQuality (s : State) (x : OscTracker) (m : OscMode) : Nat :=
  if x.st = 3 then qAbsentFor x.reason
  else if x.bad then setBit (qAbsentFor rFault) qCheckFail
  else if x.st = 2 ∧ m.live ∧ s.fld F.OSC_CONF_MIN_CONF ≤ m.conf then setBit x.orQ qValid
  else qAbsentFor rNotArrived

def State.featureOf (s : State) (x : OscTracker) (m : OscMode) : OscFeature :=
  ⟨m.freq32, m.zeta32, m.amp32, m.conf, m.gen, s.featureQuality x m⟩

/-- The state a tracker is in that is neither OFF nor STALE. -/
def OscTracker.running (x : OscTracker) : OscTracker := { x with st := if x.modes.any (·.live) then 2 else 1 }

/-- A feature record is formed at the slot-close event of an instant of MONO, to reach the lanes with a later one (R222). -/
def State.formRecord (s : State) (k at' : Nat) : State :=
  let x := s.tracker k
  let r : OscRecord := ⟨x.st, x.tag, x.modes.map (s.featureOf x)⟩
  s.putTracker k { x with coming := x.coming ++ [(r, at')] }

/-- Records whose slot-close event lies at least 1 ms before this one reach the lanes. -/
def State.presentRecord (s : State) (k at' : Nat) : State :=
  let x := s.tracker k
  let due := x.coming.filter (fun r => decide (r.2 + 1000000 ≤ at'))
  match due.getLast? with
  | some r => s.putTracker k { x with record := r.1, fresh := true, coming := x.coming.filter (fun r => decide (at' < r.2 + 1000000)) }
  | none => if x.fresh then s.putTracker k { x with fresh := false } else s

/-- Sums cleared. -/
def ShapeJob.cleared (j : ShapeJob) : ShapeJob :=
  { j with phi := 0, ref := {}, members := (List.range (jeMembers j.entry)).map (fun _ => {}), first := true }

/-- The jobs on a tracker whose reference slot is FREE have no sums (R227). -/
def State.clearJobs (s : State) (k : Nat) : State :=
  let x := s.tracker k
  s.setOsc { s.osc with jobs := s.osc.jobs.map (fun j =>
    if jeTracker j.2.entry = k ∧ j.2.gen.isSome ∧ !(x.modes.getD (jeMode j.2.entry) {}).live then (j.1, { j.2.cleared with gen := none }) else j) }

/-- Every mode slot free, each with its generation. -/
def OscTracker.freed (x : OscTracker) : List OscMode := x.modes.map (fun m => { live := false, gen := m.gen })

/-- A tracker goes STALE at an instant of MONO (R216). -/
def State.stale (s : State) (k at' : Nat) : State :=
  let x := s.tracker k
  let s := s.putTracker k { x with st := 3, window := [], sinceHop := 0, modes := x.freed }
  let s := (s.clearJobs k).count R.OSC_STALE
  ((s.event E.OSC_TRACKER_STALE k (leBytes 2 k ++ leBytes 1 x.reason)).raise I.OSC_STALE).formRecord k at'

/-- Has the run of absent samples passed `OSC_GAP_MAX`? -/
def State.gapPassed (s : State) (x : OscTracker) : Bool :=
  x.gap != 0 && decide (((s.fld F.OSC_GAP_MAX_MS : Nat) : Rat) / 1000 < ((x.gap : Nat) : Rat) * s.oscT x.entry)

/-! Checkpoints (R225). -/

/-- The upper triangle of a covariance. -/
def upper (a : List (List Rat)) : List Rat := (List.range 4).flatMap (fun i => ((List.range 4).drop i).map (fun j => matAt a i j))

/-- A covariance from its upper triangle. -/
def lower (l : List Rat) : List (List Rat) :=
  let idx (i j : Nat) : Nat := if i ≤ j then i * 4 - i * (i - 1) / 2 + (j - i) else j * 4 - j * (j - 1) / 2 + (i - j)
  (List.range 4).map (fun i => (List.range 4).map (fun j => l.getD (idx i j) 0))

/-- A tracker's 256 bytes (log 26): number, LIVE slots, V, generations, CRC-32C of its entry, the four slots, DRAFT_ID, GRID. -/
def State.ckptBytes (s : State) (k : Nat) (x : OscTracker) : List Byte :=
  leBytes 2 k ++ leBytes 2 (bitsOf 4 (fun i => (x.modes.getD i {}).live)) ++ leBytes 4 (Fp.ofRat32 x.noise) ++
    x.modes.flatMap (fun m => leBytes 1 m.gen) ++ leBytes 4 (crc32c ones32 x.entry) ++
    x.modes.flatMap (fun m => ([m.p, m.q, m.sigma, m.omega] ++ upper m.cov).flatMap (fun q => leBytes 4 (Fp.ofRat32 q))) ++
    leBytes 8 s.draftId ++ leBytes 8 s.bases.grid

/-- The checkpoint set: every TRACKING tracker. -/
def State.ckptSet (s : State) : List (List Byte) := (s.osc.trackers.filter (fun x => x.2.st == 2)).map (fun x => s.ckptBytes x.1 x.2)

/-- Place of a tracker's checkpoint in the Archive (log 26). -/
def ckptAddr (k : Nat) : Nat := 125 * 2 ^ 20 + 256 * k

/-- A tracker takes the slots of a checkpoint. -/
def OscTracker.adopt (x : OscTracker) (b : List Byte) : OscTracker :=
  let v (o : Nat) : Rat := Fp.toRat32 (leAt b o 4)
  let n := teModes x.entry
  let slot (i : Nat) : OscMode :=
    let o := 16 + 56 * i
    { live := bit (leAt b 2 2) i && decide (i < n), gen := leAt b (8 + i) 1, p := v o, q := v (o + 4), sigma := v (o + 8), omega := v (o + 12)
      cov := lower ((List.range 10).map (fun j => v (o + 16 + 4 * j))) }
  { x with noise := v 4, modes := (List.range 4).map slot }.running

/-- A checkpoint of the partner that a tracker may take. -/
def State.partnerCkpt (s : State) (k : Nat) : Option (List Byte) :=
  if s.isSet F.OSC_CTRL_SEED_PARTNER && !s.holds then smFind s.pair.mirror.ckpt k else none

/-- The Archive's checkpoint, under the four conditions of R225. -/
def State.archiveCkpt (s : State) (k : Nat) (e : List Byte) : Option (List Byte) :=
  let b := memRead 0xFF s.archive (ckptAddr k) 256
  if s.isSet F.OSC_CTRL_SEED_ARCHIVE && leAt b 0 2 == k && leAt b 240 8 == s.draftId && leAt b 12 4 == crc32c ones32 e &&
      decide (s.bases.grid < leAt b 248 8 + 3600000000000) && s.isSet F.TIME_STATUS_EVER_LOCKED then some b else none

/-- CKPT_SEEDED: source 0 Archive, 1 partner; how many trackers. -/
def State.recordSeeding (s : State) (source n : Nat) : State :=
  if n = 0 then s else s.event E.OSC_CKPT_SEEDED noSource (leBytes 1 source ++ leBytes 4 n)

/-- A partner's checkpoint seeds every FILLING tracker that waits for one (R225, R306). -/
def State.seedFromPartner (s : State) : State :=
  let ks := (s.osc.trackers.filter (fun x => x.2.st == 1 && (s.partnerCkpt x.1).isSome)).map (·.1)
  let s := ks.foldl (fun s k => match s.partnerCkpt k with
    | some b => s.putTracker k { (s.tracker k).adopt b with begun := true }
    | none => s) s
  (s.recordSeeding 1 ks.length).showOsc

/-- A checkpoint set is written: the earlier one goes with it. -/
def State.writeCkpt (s : State) : State :=
  let set := s.ckptSet
  let s := s.setArchive (memClear s.archive (125 * 2 ^ 20) (2 ^ 20))
  let s := set.foldl (fun s b => s.setArchive (memStore 0xFF s.archive (ckptAddr (leAt b 0 2)) b)) s
  (s.setOsc { s.osc with archAt := some s.bases.mono }).raise I.OSC_CKPT_DONE

/-! Tracker samples (R214, R216, R222). -/

/-- The first sample of a FILLING tracker takes a checkpoint, the partner's before the Archive's (R230). The answer is the source,
where one was taken. -/
def State.seedFirst (s : State) (k : Nat) : State × Option Nat :=
  let x := s.tracker k
  if x.begun then (s, none)
  else
    let s := s.putTracker k { x with begun := true }
    match s.partnerCkpt k with
    | some b => (s.putTracker k ((s.tracker k).adopt b), some 1)
    | none =>
      match s.archiveCkpt k x.entry with
      | some b => (s.putTracker k ((s.tracker k).adopt b), some 0)
      | none => (s, none)

/-- Bytes that a window of n samples takes in the Stacks (R210). -/
def windowBytes (n : Nat) : Nat := 4096 * ((4 * n + 4095) / 4096)

/-- Where a tracker's window stands (R39, R210): the windows of the section in force fill the tracker-window region in tracker order,
each a ring indexed by the sample's number modulo N_W (log 45). -/
def State.windowPlace (s : State) (k : Nat) : Nat :=
  (oscTrackers (s.cfg secOsc)).foldl (fun a e => if e.1 < k then a + windowBytes (s.oscNw e.2) else a) (s.regionStart 9)

/-- The newest sample goes to the Stacks; the whole window where its place changed. -/
def State.storeSample (s : State) (k c : Nat) : State :=
  let x := s.tracker k
  let p := s.windowPlace k
  let w := x.window.reverse.zipIdx
  ((if x.place = p then w.take 1 else w).foldl (fun (s : State) y =>
    s.stkStore (p + 4 * ((c / s.oscM x.entry - y.2) % s.oscNw x.entry)) (leBytes 4 (Fp.ofRat32 y.1.1))) s).putTracker k { x with place := p }

/-- A sample enters the window; the oldest leaves beyond N_W. -/
def OscTracker.push (x : OscTracker) (nw : Nat) (y : Rat) (valid : Bool) : OscTracker :=
  let w := x.window ++ [(y, valid)]
  { x with window := w.drop (w.length - nw), sinceHop := x.sinceHop + 1 }

/-- A tracker seeds itself from the first source that has a checkpoint for it (R230), recorded. -/
def State.seedTracker (s : State) (k : Nat) : State :=
  let r := s.seedFirst k
  match r.2 with
  | some src => r.1.recordSeeding src 1
  | none => r.1

/-- A tracker's modes are predicted to the sample and, with a value, updated by it (R214, R216). A prediction that is not finite leaves the
place of an absent sample open. -/
def State.trackerTake (s : State) (k rate tag : Nat) (e : List Byte) (y : OscSample) : State :=
  let x := s.tracker k
  let T := s.oscT e
  let nw := s.oscNw e
  let V := x.noise
  let q (r : Nat) : Rat := Fp.toRat32 (s.regN r)
  let ms := x.modes.map (fun m => if m.live then m.predict T V (q R.OSC_QN_AMP) (q R.OSC_QN_SIGMA) (q R.OSC_QN_OMEGA) else m)
  let sum := ms.foldl (fun a m => if m.live then a + m.p else a) 0
  let dt : Rat := (((slotInstant rate tag : Int) - x.trend.2.2 : Int) : Rat) / (1000000000 : Nat)
  match y.value with
  | some v =>
    let raw := Fp.toRat32 v
    let err := raw - (x.trend.1 + x.trend.2.1 * dt) - sum
    let x := ({ x with modes := ms, gap := 0, bad := false } : OscTracker).push nw raw true
    let fr := x.fraction nw
    let ms := x.modes.map (fun (m : OscMode) => if m.live then (m.update err V (teLo e) (teHi e) (teBin e)).formed V fr else m)
    s.putTracker k { x with modes := ms, tag := tag, orQ := x.orQ ||| y.quality }
  | none =>
    let held := Fp.ofRat32 sum
    let s := if Fp.finite32 held then s else s.draw
    let held := if Fp.finite32 held then held else s.free32
    let x := ({ x with modes := ms, gap := x.gap + 1, bad := y.bad, reason := (s.probe (teProbe e)).reason } : OscTracker).push nw
      (Fp.toRat32 held) false
    s.putTracker k { x with tag := tag, orQ := x.orQ ||| y.quality }

/-- A tracker that took a sample: stale past its gap, else a hop where one is due and its record. -/
def State.trackerRun (s : State) (k l c at' : Nat) (e : List Byte) : State :=
  if s.gapPassed (s.tracker k) then s.stale k at'
  else
    let hop := decide (s.oscHop e ≤ (s.tracker k).sinceHop)
    let s := if hop then s.oscHopAt k l c else s
    let s := (s.putTracker k (s.tracker k).running).formRecord k at'
    if hop then s.putTracker k { s.tracker k with orQ := 0 } else s

/-- A tracker restarts in FILLING (R216, R223, R230): its window and estimators are gone, its generations stay, and the lanes keep the
record they have. -/
def OscTracker.restarted (x : OscTracker) (entry : List Byte) : OscTracker :=
  { entry := entry, st := 1, first := x.first, last := x.last, modes := x.freed, tag := x.tag, reason := x.reason, record := x.record
    fresh := x.fresh, coming := x.coming, place := x.place }

/-- One tracker sample with centre slot c: estimators, window, hop, features. TRACKER_RESET takes effect before it. -/
def State.trackerSample (s : State) (k l c at' : Nat) : State :=
  let s := if (s.tracker k).reset then (s.putTracker k { (s.tracker k).restarted (s.tracker k).entry with begun := true }).clearJobs k else s
  let x := s.tracker k
  let e := x.entry
  let rate := s.rate l
  let tag := tagOfNumber rate c
  let y := probeSample (s.probe (teProbe e)) (s.oscM e) c
  let s := s.count R.OSC_SAMPLES
  let s := if y.value.isNone then s.count R.OSC_ABSENT_SAMPLES else s
  if x.st = 3 ∧ y.value.isNone then
    (s.putTracker k { x with tag := tag, reason := (s.probe (teProbe e)).reason }).formRecord k at'
  else
    let s := if x.st = 3 then s.putTracker k { x with st := 1, begun := false, gap := 0, orQ := 0 } else s
    (((s.seedTracker k).trackerTake k rate tag e y).storeSample k c).trackerRun k l c at' e

/-! Mode-shape jobs (R227). -/

def cmul (a b : Rat × Rat) : Rat × Rat := (a.1 * b.1 - a.2 * b.2, a.1 * b.2 + a.2 * b.1)
def cconj (a : Rat × Rat) : Rat × Rat := (a.1, -a.2)
def cnorm (a : Rat × Rat) : Rat := a.1 * a.1 + a.2 * a.2
def c64 (a : Rat × Rat) : Rat × Rat := (Fp.r64 a.1, Fp.r64 a.2)
/-- α·a + (1 − α)·b. -/
def cmix (al : Rat) (a b : Rat × Rat) : Rat × Rat := c64 (al * a.1 + (1 - al) * b.1, al * a.2 + (1 - al) * b.2)

/-- The filters of a member at a sample, before C and Pw. -/
def ShapeMember.filter (m : ShapeMember) (y al ald phi : Rat) : ShapeMember :=
  let u := y - m.mean
  let e := (Fp.cosR (2 * Fp.piR * phi), -(Fp.sinR (2 * Fp.piR * phi)))
  let d1 := cmix ald m.d1 (u * e.1, u * e.2)
  { m with mean := Fp.r64 (al * m.mean + (1 - al) * y), d1 := d1, d2 := cmix ald m.d2 d1 }

/-- C and Pw of a member. -/
def ShapeMember.sums (m : ShapeMember) (al : Rat) (ref : Rat × Rat) : ShapeMember :=
  { m with c := cmix al m.c (cmul m.d2 (cconj ref)), pw := Fp.r64 (al * m.pw + (1 - al) * cnorm m.d2) }

/-- What a period counts of a member's sample. -/
def ShapeMember.counted (m : ShapeMember) (y : OscSample) (reason : Nat) : ShapeMember :=
  { m with
    samples := m.samples + 1
    absent := m.absent + (if y.value.isNone then 1 else 0)
    orQ := m.orQ ||| y.quality
    reason := if y.value.isNone then reason else m.reason }

/-- A job at a sample of its tracker. -/
def State.jobSample (s : State) (j c : Nat) : State :=
  let x := s.shapeJob j
  let e := x.entry
  let tr := s.tracker (jeTracker e)
  let m := tr.modes.getD (jeMode e) {}
  if !m.live ∨ !jeFlag e 0 then (if x.gen.isSome then s.putShape j { x.cleared with gen := none } else s)
  else
    let x := if x.gen = some m.gen then x else { x.cleared with gen := some m.gen, since := s.bases.mono }
    let T := s.oscT tr.entry
    let f := m.freq
    let ald := Fp.expR (-(f * T))
    let al := Fp.expR (-(T / jeTau e))
    let ph := x.phi + f * T
    let phi := Fp.r64 (ph - (ph.floor : Rat))
    let M := s.oscM tr.entry
    let sample (p : Nat) : OscSample := probeSample (s.probe p) M c
    let step (y : OscSample) (m : ShapeMember) : ShapeMember := match y.value with | some v => m.filter (Fp.toRat32 v) al ald phi | none => m
    let yr := sample (teProbe tr.entry)
    let ref := step yr x.ref
    let ref := if yr.value.isSome then ref.sums al ref.d2 else ref
    let members := ((x.members.zipIdx).map (fun i =>
      let p := jeProbe e i.2
      let y := sample p
      let m := step y i.1
      (if y.value.isSome then m.sums al ref.d2 else m).counted y (s.probe p).reason))
    s.putShape j { x with phi := phi, ref := ref, members := members }

/-! A slot of a lattice (R208, R222, R223). -/

/-- In M8 without a card an entry without PRIORITY does not run (R223). -/
def State.stormOff (s : State) (priority : Bool) : Bool := s.mode == 8 && !s.isSet F.DRAFT_CARDS_ACTIVE_VALID && !priority

/-- Do two entries differ only in what a running tracker may change? -/
def sameTracker (a b : List Byte) : Bool :=
  slice a 0 2 == slice b 0 2 && slice a 3 15 == slice b 3 15 && slice a 0x13 1 == slice b 0x13 1 && teFlag a 0 && teFlag b 0

/-- Jobs take the entries of a section; `on` says which trackers' jobs change. -/
def State.takeJobs (s : State) (l : List (Nat × List Byte)) (on : Nat → Bool) : State :=
  let s := s.setOsc { s.osc with jobs := s.osc.jobs.filter (fun j => !on (jeTracker j.2.entry) || l.any (fun e => e.1 == j.1)) }
  (l.filter (fun e => on (jeTracker e.2))).foldl (fun s e =>
    let x := s.shapeJob e.1
    if x.entry = e.2 then s else s.putShape e.1 ({ entry := e.2, last := s.bases.mono } : ShapeJob).cleared) s

/-- A tracker takes the entry its next centre slot runs under (R223), and its jobs theirs; it goes OFF or starts as its entry and the
mode say. -/
def State.trackerConfig (s : State) (k l n at' : Nat) : State :=
  let x := s.tracker k
  let c := n - (if x.st = 0 then 0 else s.oscSpan x.entry)
  let instant := s.instant l (tagOfNumber (s.rate l) c)
  let e := s.trackerEntryAt k instant
  let s := if x.entry = e then s
    else if sameTracker x.entry e then
      s.putTracker k { x with entry := e, modes := (x.modes.zipIdx).map (fun m => if m.2 < teModes e then m.1 else { live := false, gen := m.1.gen }) }
    else
      let l' := s.entryLattice e
      s.putTracker k (if l' = l then { x.restarted e with st := 0, first := c }
        else { x.restarted e with st := if teFlag e 0 then 1 else 0, last := 0, first := slotNumber (s.rate l') (firstSlotAt (s.rate l') instant) })
  let s := s.takeJobs (oscJobs (s.cfgAt secOsc instant)) (· == k)
  let x := s.tracker k
  let s := if !teFlag x.entry 0 || s.stormOff (teFlag x.entry 1) then
      (if x.st = 0 then s else (s.putTracker k { x.restarted x.entry with st := 0 }).formRecord k at')
    else if x.st = 0 then s.putTracker k { x with st := 1, first := c } else s
  s.clearJobs k

/-- Centre slots that a tracker forms when slot n closes (R208, R222): those whose span ends there and, after its entry changed, those
from the switch slot on whose span has ended; the span lies in this run of the lattice. -/
def State.centres (s : State) (x : OscTracker) (l n : Nat) : List Nat :=
  let span := s.oscSpan x.entry
  let lo := max x.first (slotNumber (s.rate l) (s.lat l).first + span)
  (List.range (n + 1 - span - lo)).filterMap (fun i => if (lo + i) % s.oscM x.entry = 0 then some (lo + i) else none)

/-- A tracker takes slot number n, closed at an instant of MONO. -/
def State.trackerSlot (s : State) (k l n at' : Nat) : State :=
  let s := s.trackerConfig k l n at'
  let x := s.tracker k
  if s.entryLattice x.entry ≠ l then s
  else
    let s := s.putTracker k { x with last := n, first := max x.first (n + 1 - s.oscSpan x.entry) }
    if x.st = 0 then s
    else (s.centres x l n).foldl (fun s c =>
      let s := (s.trackerSample k l c at').clearJobs k
      ((s.osc.jobs.filter (fun j => jeTracker j.2.entry == k)).map (·.1)).foldl (fun s j => s.jobSample j c) s) s

/-- The trackers that take a slot of a lattice: those that run on it, and those that are OFF whose entry for it lies on it. -/
def State.trackersOn (s : State) (l instant : Nat) : List Nat :=
  let here (k : Nat) : Bool :=
    let x := s.tracker k
    let e := if x.st = 0 then s.trackerEntryAt k instant else x.entry
    !e.isEmpty && s.entryLattice e == l
  ((((oscTrackers (s.cfgAt secOsc instant)).map (·.1)) ++ s.osc.trackers.map (·.1)).eraseDups).filter here

/-- OSC takes a slot of a lattice: probes first, then each tracker on the lattice; slots skipped before it count as absent (R230). -/
def State.oscSlot (s : State) (l tag : Nat) (checks : Checks) : State :=
  let n := slotNumber (s.rate l) tag
  let first := slotNumber (s.rate l) (s.lat l).first
  let at' := match (s.lat l).slot tag with | some y => y.shutAt | none => s.bases.mono
  let ks := s.trackersOn l (s.instant l tag)
  let entries := ((oscTrackers (s.cfgAt secOsc (s.instant l tag))).map (·.2) ++ (oscTrackers (s.cfg secOsc)).map (·.2) ++
    s.osc.trackers.map (·.2.entry)).filter (fun e => !e.isEmpty && teFlag e 0 && s.entryLattice e == l)
  let jobs := (s.osc.jobs.map (·.2.entry) ++ (oscJobs (s.cfg secOsc)).map (·.2)).filter (fun e => !e.isEmpty)
  let members := jobs.flatMap (fun e => (List.range (jeMembers e)).map (jeProbe e))
  let probes := (entries.map teProbe ++ members.filter (fun p => catLattice (s.cat (prTid p)) == l)).eraseDups
  let s := s.setOsc { s.osc with probes := s.osc.probes.filter (fun p => catLattice (s.cat (prTid p.1)) != l || probes.contains p.1) }
  let s := probes.foldl (fun s p => s.probeSlot p l tag checks) s
  let s := ks.foldl (fun s k =>
    let s := s.presentRecord k at'
    let x := s.tracker k
    let s := if 0 < x.last ∧ x.last < first then (s.putTracker k { x.restarted x.entry with st := 0, last := 0 }).clearJobs k else s
    let x := s.tracker k
    let skipped := if x.last = 0 then 0 else min (n - x.last - 1) 100000
    let s := (List.range skipped).reverse.foldl (fun s i => s.trackerSlot k l (n - 1 - i) at') s
    s.trackerSlot k l n at') s
  s.showOsc

/-- What the lanes read of a tracker: the record they have, OFF while it does not run. -/
def State.trackerRecord (s : State) (k : Nat) : OscRecord := (s.tracker k).record

/-- Trackers, jobs and probes start anew: at a draft load, and where PD_ANA loses its contents. -/
def State.oscReset (s : State) : State :=
  let s := s.setOsc { archAt := s.osc.archAt, partAt := s.osc.partAt }
  (s.takeJobs (oscJobs (s.cfg secOsc)) (fun _ => true)).showOsc

end Sys2Proof.Machine
end

