-- ==== Sys2Proof/Machine/IsleOps.lean ====
section
/-!
DEFINITION. Sys2Proof/Machine/IsleOps.lean: island detection (R233 to R247): the ISLE section, area aggregates, ties, groups, the
synchro-check.
-/

namespace Sys2Proof.Machine

/-! The ISLE section (R233 to R238, R245). -/

def isLattice (b : List Byte) : Nat := leAt b 0 1 % 4
def isHome (b : List Byte) : Nat := leAt b 1 1 % 64
def isConfirmAge (b : List Byte) : Nat := leAt b 8 2

/-- Entries of one kind. -/
def isEntries (b : List Byte) (off size n : Nat) : List (List Byte) := (List.range n).map (fun i => slice b (off + size * i) size)

def isAreas (b : List Byte) : List (List Byte) := isEntries b 64 32 (leAt b 2 1)

/-- Fields of an area entry. -/
def arNumber (e : List Byte) : Nat := leAt e 0 1 % 64
def arEnabled (e : List Byte) : Bool := bit (leAt e 1 1) 0
def arNf (e : List Byte) : Nat := leAt e 2 1
def arNa (e : List Byte) : Nat := leAt e 3 1
def arQuorum (e : List Byte) : Nat := leAt e 4 1
def arConfirm (e : List Byte) : Option Nat := if bit (leAt e 0xC 4) 31 then none else some (leAt e 0xC 4 % 2 ^ 17)
def arRmin (e : List Byte) : Rat := Fp.toRat32 (leAt e 0x10 4)

/-- Members of an area from place i on: TID and weight. -/
def arMembers (b e : List Byte) (i n : Nat) : List (Nat × Rat) :=
  (List.range n).map (fun j => let o := leAt e 8 4 + 8 * (i + j); (leAt b o 4 % 2 ^ 17, Fp.toRat32 (leAt b (o + 4) 4)))

/-- Where the ties begin: after the member lists. -/
def isTieOff (b : List Byte) : Nat := (isAreas b).foldl (fun a e => a + 8 * (arNf e + arNa e)) (64 + 32 * leAt b 2 1)
def isTies (b : List Byte) : List (List Byte) := isEntries b (isTieOff b) 32 (leAt b 4 2)
def isPatternOff (b : List Byte) : Nat := isTieOff b + 32 * leAt b 4 2
def isPattern (b : List Byte) (p : Nat) : List Byte := slice b (isPatternOff b + 64 * p) 64
def isPoints (b : List Byte) : List (List Byte) := isEntries b (isPatternOff b + 64 * leAt b 6 2) 32 (leAt b 3 1)

/-- Fields of a tie entry (R237). -/
def tiNumber (e : List Byte) : Nat := leAt e 0 1
def tiFlag (e : List Byte) (i : Nat) : Bool := bit (leAt e 1 1) i
def tiA (e : List Byte) : Nat := leAt e 2 1 % 64
def tiB (e : List Byte) : Nat := leAt e 3 1 % 64
def tiDf (e : List Byte) : Nat := leAt e 4 2
def tiSlip (e : List Byte) : Nat := leAt e 6 2
def tiSpan (e : List Byte) : Nat := max 1 (leAt e 8 1)
def tiPersist (e : List Byte) : Nat := leAt e 9 1
def tiTopoPersist (e : List Byte) : Nat := leAt e 0xA 1
def tiRestore (e : List Byte) : Nat := leAt e 0xB 1
def tiPatterns (e : List Byte) : List Nat := ((List.range 4).map (fun i => leAt e (0xC + i) 1)).filter (fun p => p != 0xFF)

/-- Fields of a check-point entry (R245). -/
def cpNumber (e : List Byte) : Nat := leAt e 0 1 % 16
def cpEnabled (e : List Byte) : Bool := bit (leAt e 1 1) 0
def cpTie (e : List Byte) : Nat := leAt e 2 1
def cpHold (e : List Byte) : Nat := leAt e 3 1
def cpTid (e : List Byte) (i : Nat) : Nat := leAt e (4 + 4 * i) 4 % 2 ^ 17
def cpSlip (e : List Byte) : Nat := leAt e 0x14 2
def cpDv (e : List Byte) : Nat := leAt e 0x16 2
def cpAngle (e : List Byte) : Nat := leAt e 0x18 4
def cpLive (e : List Byte) : Nat := leAt e 0x1C 1
def cpTcb (e : List Byte) : Nat := leAt e 0x1E 2

def findTie (b : List Byte) (n : Nat) : Option (List Byte) := (isTies b).find? (fun e => tiNumber e == n)
def findPoint (b : List Byte) (n : Nat) : Option (List Byte) := (isPoints b).find? (fun e => cpNumber e == n)

def State.area (s : State) (a : Nat) : AreaAgg := smGet {} s.isle.areas a
def State.tie (s : State) (n : Nat) : TieSt := smGet {} s.isle.ties n
def State.putTie (s : State) (n : Nat) (x : TieSt) : State := s.setIsle { s.isle with ties := smPut s.isle.ties n x }

/-- The group of an area. -/
def State.groupOf (s : State) (a : Nat) : Nat := smGet a s.isle.groups a

/-! Aggregates (R235, R236). -/

/-- ISLE reads a value of a slot for an area and verifies its check code (R14, R236): word and quality; one that fails twice is absent
with FAULT. -/
def State.isleRead (s : State) (l tag tid area : Nat) (checks : Checks) : State × Nat × Nat :=
  let v := s.anaSlot l tag tid
  let f := checks.fails 8 tid
  let payload := if f ≤ 1 then leBytes 1 area ++ leBytes 8 tag else leBytes 1 area ++ leBytes 3 tid ++ leBytes 8 tag
  let c := s.checkedRead f 8 pdAna R.ISLE_CHECK_RETRY R.ISLE_CHECK_FAIL E.ISLE_CHECK_RETRY E.ISLE_CHECK_FAIL area I.ISLE_CHECK_FAIL payload
  (c.1, if c.2 then v else (absentWord, setBit (qAbsentFor rFault) qCheckFail))

/-- The members of an area as they are read: weight, word, quality. -/
def State.readMembers (s : State) (l tag area : Nat) (ms : List (Nat × Rat)) (checks : Checks) : State × List (Rat × Nat × Nat) :=
  ms.foldl (fun a m =>
    let r := a.1.isleRead l tag m.1 area checks
    (r.1, a.2 ++ [(m.2, r.2.1, r.2.2)])) (s, [])

/-- Values read for ties and check points, by TID: each is read once in a slot. -/
abbrev Readings := SMap (Nat × Nat)

/-- Threads read, each for an area. -/
def State.isleReads (s : State) (l tag : Nat) (ts : List (Nat × Nat)) (checks : Checks) : State × Readings :=
  ts.foldl (fun a t =>
    if (smFind a.2 t.1).isSome then a
    else
      let r := a.1.isleRead l tag t.1 t.2 checks
      (r.1, smPut a.2 t.1 r.2)) (s, [])

def Readings.val (r : Readings) (tid : Nat) : Nat × Nat := smGet (absentWord, qAbsentFor rNotArrived) r tid

/-- A sum of binary64 terms (R235). -/
def sum64 (l : List Rat) : Rat := l.foldl (fun a x => Fp.r64 (a + Fp.r64 x)) 0

/-- The quality of an aggregate over its members: ABSENT below the quorum, else VALID with the OR bits. -/
def aggQuality (quorum : Nat) (ms : List (Rat × Nat × Nat)) : Nat :=
  let used := ms.filter (fun m => bit m.2.2 qValid)
  let w := sum64 (used.map (·.1))
  let total := sum64 (ms.map (·.1))
  let failed := ms.any (fun m => !bit m.2.2 qValid && bit m.2.2 qCheckFail)
  if ms.isEmpty ∨ w < Fp.r64 (Fp.r64 (((quorum : Nat) : Rat) * total) / 100) ∨ used.isEmpty then
    qAbsentFor (((ms.find? (fun m => !bit m.2.2 qValid)).map (fun m => qReason m.2.2)).getD rNotArrived)
  else setIf failed (setBit (used.foldl (fun a m => a ||| carried m.2.2) 0) qValid) qCheckFail

/-- One area's aggregates for a slot. -/
def State.aggregate (s : State) (b : List Byte) (l tag : Nat) (e : List Byte) (checks : Checks) : State :=
  let n := arNumber e
  let f := s.readMembers l tag n (arMembers b e 0 (arNf e)) checks
  let s := f.1
  let p := s.readMembers l tag n (arMembers b e (arNf e) (arNa e)) checks
  let s := p.1
  let fv := f.2.filter (fun m => bit m.2.2 qValid)
  let pv := p.2.filter (fun m => bit m.2.2 qValid)
  let fq := aggQuality (arQuorum e) f.2
  let aq := aggQuality (arQuorum e) p.2
  let wf := sum64 (fv.map (·.1))
  let mean (g : Nat → Nat) : Nat := Fp.ofRat32 (Fp.r64 (sum64 (fv.map (fun m => m.1 * Fp.toRat32 (g m.2.1))) / wf))
  let part (g : Rat → Rat) : Rat := sum64 (pv.map (fun m => m.1 * Fp.r64 (g (Fp.turnsOf (m.2.1 % 2 ^ 32)))))
  let z : Rat × Rat := (part Fp.cosT, part Fp.sinT)
  let r := Fp.ofRat32 (Fp.r64 (Fp.r64 (Fp.sqrtRat (Fp.r64 (Fp.r64 (z.1 * z.1) + Fp.r64 (z.2 * z.2)))) / sum64 (pv.map (·.1))))
  let freq := mean (· / 2 ^ 32)
  let rocof := mean (· % 2 ^ 32)
  let d : AreaAgg := {}
  let x : AreaAgg := { d with fq := fq, aq := aq }
  let x := if !bit fq qValid then x
    else if Fp.finite32 freq && Fp.finite32 rocof then { x with freq := freq, rocof := rocof } else { x with fq := notFinite fq }
  let x := if !bit aq qValid then x
    else if !Fp.finite32 r then { x with aq := notFinite aq }
    else { x with angle := Fp.toTurn (Fp.atan2T z.2 z.1), r := r, aq := if Fp.toRat32 r < arRmin e then setBit aq qSrcErr else aq }
  s.setIsle { s.isle with areas := smPut s.isle.areas n x }

/-! Ties (R238 to R240). -/

/-- A term of a pattern: none where its thread is absent, else whether it is true (R238). -/
def patternTerm (r : Readings) (w : Nat) : Option Bool :=
  let v := r.val (w % 2 ^ 17)
  let b := bits w 20 17
  if bit v.2 qAbsent then none
  else some (bit v.1 (32 + b) && (bit v.1 (48 + b) == bit w 21))

/-- The terms of a pattern. -/
def patternTerms (p : List Byte) : List Nat := (List.range (min 8 (leAt p 0 1))).map (fun i => leAt p (4 + 4 * i) 4)

def isleMatches (b : List Byte) (r : Readings) (p : Nat) : Bool := (patternTerms (isPattern b p)).all (fun w => patternTerm r w == some true)

def patternAbsent (b : List Byte) (r : Readings) (p : Nat) : Bool := (patternTerms (isPattern b p)).any (fun w => (patternTerm r w).isNone)

/-- Threads of the patterns that enabled ties name, each for the tie's area A, and of the enabled check points, each for the area on its
side of the tie. -/
def isleThreads (b : List Byte) : List (Nat × Nat) :=
  ((isTies b).filter (fun e => tiFlag e 0)).flatMap (fun e =>
    (tiPatterns e).flatMap (fun p => (patternTerms (isPattern b p)).map (fun w => (w % 2 ^ 17, tiA e)))) ++
  ((isPoints b).filter cpEnabled).flatMap (fun e => match findTie b (cpTie e) with
    | some t => [(cpTid e 0, tiA t), (cpTid e 1, tiB t), (cpTid e 2, tiA t), (cpTid e 3, tiB t)]
    | none => [])

/-- The local frequency for confirmation (R239): that of the latest L3 slot closed by the close of slot N, none where it is too old or
not VALID. -/
def State.localFreq (s : State) (b : List Byte) (l tag : Nat) (checks : Checks) : State × Option Rat :=
  let home := (isAreas b).find? (fun e => arNumber e == isHome b)
  match home.bind arConfirm with
  | none => (s, none)
  | some tid =>
    let inst := s.instant l tag
    let closed := (((s.lat l).slot tag).bind (·.closed)).getD s.now
    let slots := (s.lat 3).slots.filter (fun y => (match y.closed with | some c => decide (c ≤ closed) | none => false) && decide (s.instant 3 y.tag ≤ inst))
    match slots.getLast? with
    | none => (s, none)
    | some y =>
      let r := s.isleRead 3 y.tag tid (isHome b) checks
      (r.1, if bit r.2.2 qValid ∧ inst ≤ s.instant 3 y.tag + 1000000 * (isConfirmAge b) then some (Fp.toRat32 (r.2.1 / 2 ^ 32)) else none)

/-- A tie in a slot: the tests of R239 and the state of R240. `loc` is
the local frequency. The answer says whether the confirmation was unavailable. -/
def State.tieSlot (s : State) (b : List Byte) (l tag : Nat) (gap : Bool) (v : Readings) (loc : Option Rat) (e : List Byte) : State × Bool :=
  let n := tiNumber e
  let rate := s.rate l
  let k := slotNumber rate tag
  let x := s.tie n
  let a := s.area (tiA e)
  let c := s.area (tiB e)
  let angles := bit a.aq qValid && bit c.aq qValid
  let raw := unsigned 32 ((a.angle : Int) - c.angle)
  let hist := if !angles then x.angles
    else match x.angles.head? with
      | none => [(k, (raw : Int))]
      | some (_, t) => ((k, t + signed 32 (unsigned 32 ((raw : Int) - t))) :: x.angles).take 65
  let back := hist.find? (fun h => h.1 + tiSpan e == k)
  let slip : Option Rat := match hist.head?, back with
    | some (m, t), some (_, u) =>
      if m = k then some (((t - u : Int) : Rat) / (2 ^ 32 : Nat) * ((rate : Nat) : Rat) / ((tiSpan e : Nat) : Rat)) else none
    | _, _ => none
  let df := Fp.toRat32 a.freq - Fp.toRat32 c.freq
  let edf := decide (((tiDf e : Nat) : Rat) < 1000 * (absR df))
  let esl := match slip with | some v => decide (((tiSlip e : Nat) : Rat) < 1000 * (absR v)) | none => false
  let elec := if tiFlag e 1 ∧ slip.isSome then edf && esl else edf || esl
  let topo := (tiPatterns e).any (isleMatches b v)
  let loc := if tiFlag e 3 then loc else none
  let far := if tiA e = isHome b then c else a
  let missing := tiFlag e 3 && loc.isNone
  let confirmed := match loc with
    | some f => decide (((tiDf e : Nat) : Rat) < 1000 * (absR (f - Fp.toRat32 far.freq)))
    | none => !tiFlag e 4
  let blocked := missing && tiFlag e 4 && elec
  let elec := if tiFlag e 3 then elec && confirmed else elec
  let held := !(bit a.fq qValid && bit c.fq qValid) || (tiFlag e 2 && (tiPatterns e).any (patternAbsent b v))
  let s := if blocked ∧ !held then (s.event E.ISLE_CONFIRM_BLOCKED n (leBytes 1 n)).raise I.ISLE_CONFIRM_BLOCKED else s
  let c0 := if gap then 0 else x.c
  let r0 := if gap then 0 else x.r
  let alone := topo && tiFlag e 2
  let need := if topo then tiTopoPersist e else tiPersist e
  let x1 := { x with angles := hist, topo := topo, held := held }
  let dfWord := if bit a.fq qValid && bit c.fq qValid then Fp.ofRat32 df else Fp.nan32
  let up := elec || alone
  let cc := if up then min (c0 + 1) 255 else 0
  let rr := if up then 0 else if topo then 0 else min (r0 + 1) 255
  let now := x.split || decide (need ≤ cc) || alone
  let restored := now && decide (tiRestore e ≤ rr)
  let y := if held then { x1 with c := c0, r := r0 }
    else { x1 with c := if restored then 0 else cc, r := rr, split := now && !restored, df := df }
  let split := x.forced.getD y.split
  let s := s.putTie n { y with split := split }
  let s := if held then s.count R.ISLE_HELD_SLOTS else s
  if split = x.split then (s, missing)
  else if split then
    ((s.event E.ISLE_TIE_SPLIT n (leBytes 1 n ++ leBytes 8 tag ++ leBytes 4 dfWord ++ leBytes 1 (if topo then 1 else 0))).raise I.ISLE_TIE_CHANGE, missing)
  else ((s.event E.ISLE_TIE_COHERENT n (leBytes 1 n ++ leBytes 8 tag ++ leBytes 4 dfWord)).raise I.ISLE_TIE_CHANGE, missing)

/-! Groups (R241). -/

/-- One round: the two ends of every coherent tie take the lower of their groups. -/
def joinOnce (ties : List (Nat × Nat)) (g : SMap Nat) : SMap Nat :=
  ties.foldl (fun g t =>
    let a := smGet t.1 g t.1
    let b := smGet t.2 g t.2
    g.map (fun x => (x.1, if x.2 = a ∨ x.2 = b then min a b else x.2))) g

/-- Groups of the enabled areas over coherent ties, each numbered by its lowest area. -/
def groupAreas (areas : List Nat) (ties : List (Nat × Nat)) : SMap Nat := joinOnce ties (areas.foldl (fun g a => smPut g a a) [])

/-- G. -/
def countGroups (g : SMap Nat) : Nat := (g.filter (fun x => x.1 == x.2)).length

/-! Synchro-check (R246, R247). -/

/-- A check ends: 1 MERGED, 2 STOPPED, 3 TIMEOUT, 4 ABANDONED. -/
def State.endCheck (s : State) (cause : Nat) : State :=
  match s.isle.sc with
  | none => s
  | some c =>
    let barred := if cause = 2 ∨ cause = 3 then (c.point :: s.isle.barred).eraseDups else s.isle.barred
    let s := s.setIsle { s.isle with sc := none, barred := barred, expired := false }
    let s := (s.putFld F.ISLE_STATUS_SC_ACTIVE 0).putFld F.ISLE_STATUS_SC_PERMIT 0
    let s := s.putFld F.ISLE_SC_STATE_LAST_END cause
    let s := (s.event E.ISLE_SC_ENDED c.point (leBytes 1 c.point ++ leBytes 1 cause)).raise I.ISLE_SC_ENDED
    s.condition 1 false

/-- A check starts at a point: cause 0 host, 1 automatic. -/
def State.startCheck (s : State) (p cause : Nat) : State :=
  let s := s.setIsle { s.isle with sc := some ⟨p, s.now, 0, false⟩, expired := false, barred := if cause = 0 then s.isle.barred.filter (fun q => q != p) else s.isle.barred }
  let s := (s.putFld F.ISLE_STATUS_SC_ACTIVE 1).putFld F.ISLE_STATUS_SC_POINT p
  let s := (s.putFld F.ISLE_STATUS_SC_PERMIT 0).putFld F.ISLE_SC_STATE_H 0
  (s.event E.ISLE_SC_STARTED p (leBytes 1 p ++ leBytes 1 cause)).condition 1 true

/-- The nominal voltage of a point. -/
def State.vNom (s : State) (e : List Byte) : Rat := Fp.toRat32 (catNominal (s.cat (cpTid e 0)))

/-- Is a voltage of a point live? -/
def State.voltLive (s : State) (e : List Byte) (v : Nat × Nat) : Bool :=
  bit v.2 qValid && decide (((cpLive e : Nat) : Rat) * s.vNom e / 100 ≤ Fp.toRat32 (v.1 / 2 ^ 32))

/-- The check in progress in a slot. -/
def State.checkSlot (s : State) (b : List Byte) (r : Readings) : State :=
  match s.isle.sc with
  | none => s
  | some c =>
    match findPoint b c.point with
    | none => s
    | some e =>
      let va := r.val (cpTid e 0)
      let vb := r.val (cpTid e 1)
      let fa := r.val (cpTid e 2)
      let fb := r.val (cpTid e 3)
      let valid := [va, vb, fa, fb].all (fun v => bit v.2 qValid)
      let slip := Fp.toRat32 (fa.1 / 2 ^ 32) - Fp.toRat32 (fb.1 / 2 ^ 32)
      let dth := signed 32 (unsigned 32 (((va.1 % 2 ^ 32 : Nat) : Int) - ((vb.1 % 2 ^ 32 : Nat) : Int)))
      let lead := Fp.rint (slip * ((cpTcb e : Nat) : Rat) / 1000 * (2 ^ 32 : Nat))
      let thp := signed 32 (unsigned 32 (dth + lead))
      let dv := absR (Fp.toRat32 (va.1 / 2 ^ 32) - Fp.toRat32 (vb.1 / 2 ^ 32)) / s.vNom e
      let good := valid && decide (1000 * (absR slip) ≤ ((cpSlip e : Nat) : Rat)) && decide (thp.natAbs ≤ cpAngle e) &&
        decide (10000 * dv ≤ ((cpDv e : Nat) : Rat)) && s.voltLive e va && s.voltLive e vb
      let h := if good then min (c.h + 1) 255 else 0
      let permit := decide (cpHold e ≤ h)
      let s := s.setIsle { s.isle with sc := some { c with h := h, permitted := c.permitted || permit } }
      let s := (s.putReg R.ISLE_SC_SLIP (Fp.ofRat32 slip)).putReg R.ISLE_SC_ANGLE (unsigned 32 thp)
      let s := (s.putReg R.ISLE_SC_DV (Fp.ofRat32 dv)).putFld F.ISLE_SC_STATE_H h
      let s := s.putFld F.ISLE_STATUS_SC_PERMIT (if permit then 1 else 0)
      if permit ∧ !c.permitted then
        (s.event E.ISLE_SC_PERMIT c.point (leBytes 1 c.point ++ leBytes 4 (Fp.ofRat32 slip) ++ leBytes 4 (unsigned 32 thp))).raise I.ISLE_SC_PERMIT
      else s

/-- The ends that a slot brings: MERGED, ABANDONED, then TIMEOUT where the time limit has passed since the slot before (R248). -/
def State.checkEnds (s : State) (b : List Byte) : State :=
  match s.isle.sc with
  | none => s
  | some c =>
    match (findPoint b c.point).bind (fun e => findTie b (cpTie e)) with
    | none => s.endCheck 4
    | some t =>
      if !(s.tie (tiNumber t)).split then s.endCheck 1
      else if s.isle.g ≤ 1 ∨ s.groupOf (tiA t) = s.groupOf (tiB t) then s.endCheck 4
      else if s.isle.expired then s.endCheck 3
      else s

/-- The lower-numbered of two check points. -/
def lowerPoint (a : Option (List Byte)) (e : List Byte) : Option (List Byte) :=
  match a with | some x => if cpNumber e < cpNumber x then some e else some x | none => some e

/-- Live counts of every point, and the automatic start of the lowest-numbered point that may (R247). -/
def State.autoStart (s : State) (b : List Byte) (r : Readings) : State :=
  let s := (isPoints b).foldl (fun s e =>
    let n := cpNumber e
    let live := s.voltLive e (r.val (cpTid e 0)) && s.voltLive e (r.val (cpTid e 1))
    s.setIsle { s.isle with live := smPut s.isle.live n (if live then min (smGet 0 s.isle.live n + 1) 255 else 0) }) s
  let s := s.setIsle { s.isle with barred := s.isle.barred.filter (fun p => match (findPoint b p).bind (fun e => findTie b (cpTie e)) with
    | some t => (s.tie (tiNumber t)).split
    | none => false) }
  if !s.isSet F.ISLE_CTRL_AUTO_RESYNC ∨ s.isle.sc.isSome then s
  else
    match ((isPoints b).filter (fun e =>
      cpEnabled e && decide (cpHold e ≤ smGet 0 s.isle.live (cpNumber e)) && !s.isle.barred.contains (cpNumber e) &&
        (match findTie b (cpTie e) with
         | some t => (s.tie (tiNumber t)).split
         | none => false))).foldl lowerPoint none with
    | some e => s.startCheck (cpNumber e) 1
    | none => s

/-! The island picture (R241, R243). -/

/-- The registers of the picture. -/
def State.showIsle (s : State) (b : List Byte) : State :=
  let s := s.putFld F.ISLE_STATUS_FORCED (if s.isle.ties.any (fun t => t.2.forced.isSome) then 1 else 0)
  let s := (s.putFld F.ISLE_STATUS_GROUPS s.isle.g).putFld F.ISLE_STATUS_HOME_GROUP (s.groupOf (isHome b))
  let s := s.putFld F.ISLE_STATUS_ISLANDS (if 1 < s.isle.g then 1 else 0)
  let areaByte (a : Nat) : Nat := match smFind s.isle.groups a with
    | some g => 128 + (if bit (s.area a).fq qValid then 64 else 0) + g
    | none => 0
  let tieNibble (t : Nat) : Nat :=
    let x := s.tie t
    (if x.forced.isSome then 8 else 0) + (if x.held then 4 else 0) + (if x.topo then 2 else 0) + (if x.split then 1 else 0)
  let s := (List.range 16).foldl (fun s n => s.putReg (R.ISLE_GROUP_MAPn n) (leNat ((List.range 4).map (fun i => BitVec.ofNat 8 (areaByte (4 * n + i)))))) s
  (List.range 32).foldl (fun s n => s.putReg (R.ISLE_TIE_STATEn n) ((List.range 8).foldl (fun a i => a + tieNibble (8 * n + i) * 2 ^ (4 * i)) 0)) s

/-- A new section takes over (R244): a tie that joins the same areas keeps its state, its counters restart; any other is COHERENT; a
check whose point is changed or disabled ends. -/
def State.isleSwitch (s : State) (b : List Byte) : State :=
  let old := s.isle.body
  let keep := (isTies b).filterMap (fun e =>
    match findTie old (tiNumber e) with
    | some o =>
      let x := s.tie (tiNumber e)
      if tiA o = tiA e ∧ tiB o = tiB e then some (tiNumber e, { x with c := 0, r := 0 })
      else if tiA o = tiB e ∧ tiB o = tiA e then some (tiNumber e, { x with c := 0, r := 0, df := -x.df, angles := x.angles.map (fun h => (h.1, -h.2)) })
      else none
    | none => none)
  let changed := match s.isle.sc with
    | some c => findPoint old c.point != findPoint b c.point
    | none => false
  let s := s.setIsle { s.isle with body := b, ties := keep, areas := s.isle.areas.filter (fun a => (isAreas b).any (fun e => arNumber e == a.1)) }
  if changed then s.endCheck 4 else s

/-- G and the groups after the ties of a slot, with the ISLANDS condition. -/
def State.isleGroups (s : State) (b : List Byte) (tag : Nat) : State :=
  let areas := ((isAreas b).filter arEnabled).map arNumber
  let ties := ((isTies b).filter (fun e => tiFlag e 0 && !(s.tie (tiNumber e)).split)).map (fun e => (tiA e, tiB e))
  let g := groupAreas areas ties
  let was := s.isle.g
  let n := max 1 (countGroups g)
  let s := s.setIsle { s.isle with groups := g, g := n }
  let s := s.checkEnds b
  let inst := s.instant (isLattice b) tag
  if was ≤ 1 ∧ 1 < n then
    let s := (s.setIsle { s.isle with declared := inst }).count R.ISLE_DECLARATIONS
    ((s.event E.ISLE_ISLAND_DECLARED (s.groupOf (isHome b)) (leBytes 8 tag ++ leBytes 4 n ++ leBytes 1 (s.groupOf (isHome b)))).raise I.ISLE_ISLAND_DECLARED).condition 0 true
  else if 1 < was ∧ n ≤ 1 then
    ((s.event E.ISLE_ISLAND_CLEARED noSource (leBytes 8 tag ++ leBytes 4 ((inst - s.isle.declared) / 1000000000))).raise I.ISLE_ISLAND_CLEARED).condition 0 false
  else s

/-- ISLE takes a slot of the island lattice (R235 to R247). -/
def State.isleSlot (s : State) (l tag : Nat) (checks : Checks) : State :=
  let b := s.cfgAt secIsle (s.instant l tag)
  if b.isEmpty ∨ isLattice b ≠ l then s
  else
    let s := if s.isle.body = b then s else s.isleSwitch b
    let n := slotNumber (s.rate l) tag
    let gap := match s.isle.last with | some m => decide (m + 1 < n) | none => false
    let s := (s.setIsle { s.isle with last := some n }).count R.ISLE_SLOTS
    let s := ((isAreas b).filter arEnabled).foldl (fun s e => s.aggregate b l tag e checks) s
    let vals := s.isleReads l tag (isleThreads b) checks
    let loc := if (isTies b).any (fun e => tiFlag e 0 && tiFlag e 3) then vals.1.localFreq b l tag checks else (vals.1, none)
    let r := ((isTies b).filter (fun e => tiFlag e 0)).foldl (fun (a : State × Bool) e =>
      let x := a.1.tieSlot b l tag gap vals.2 loc.2 e
      (x.1, a.2 || x.2)) (loc.1, false)
    let s := if r.2 then r.1.count R.ISLE_CONFIRM_UNAVAIL else r.1
    let s := s.isleGroups b tag
    let s := s.checkSlot b vals.2
    let s := s.autoStart b vals.2
    s.showIsle b

end Sys2Proof.Machine
end

