-- ==== Sys2Proof/Machine/EnergyOps.lean ====
section
/-!
DEFINITION. Sys2Proof/Machine/EnergyOps.lean: flow points (R384 to R395): quantities, accumulation, intervals, pulse outputs, saves.
-/

namespace Sys2Proof.Machine

/-! The ENERGY section (R384). -/

def enInterval (b : List Byte) : Nat := max 1 (leAt b 0 1)
def enEntries (b : List Byte) : List (Nat × List Byte) :=
  (List.range (leAt b 2 2)).map (fun i => let e := slice b (64 + 64 * i) 64; (leAt e 0 2 % 2048, e))
def feEnabled (e : List Byte) : Bool := bit (leAt e 2 1) 0
def feInvert (e : List Byte) : Bool := bit (leAt e 2 1) 1
def feKind (e : List Byte) : Nat := leAt e 3 1
def feLattice (e : List Byte) : Nat := leAt e 4 1 % 4
def feMult (e : List Byte) : Nat := leAt e 5 1
def feTid (e : List Byte) (i : Nat) : Option Nat := let w := leAt e (8 + 4 * i) 4; if bit w 31 then none else some (w % 2 ^ 17)
def feITh (e : List Byte) : Rat := Fp.toRat32 (leAt e 0x20 4)
def fePTh (e : List Byte) : Rat := Fp.toRat32 (leAt e 0x24 4)

def State.flow (s : State) (n : Nat) : FlowPoint := smGet {} s.energy.points n
def State.putFp (s : State) (n : Nat) (x : FlowPoint) : State := s.setEnergy { s.energy with points := smPut s.energy.points n x }

/-- Modes in which registers advance (R388). -/
def State.accumulates (s : State) : Bool := decide (3 ≤ s.mode ∧ s.mode ≤ 10 ∧ s.mode ≠ 9) && s.energy.frozen.isNone

/-! Quantities (R385). -/

/-- Real and imaginary power of a voltage and a current: magnitude binary32 in bits 63:32, angle in 2⁻³² turn in bits 31:0. -/
def phasePower (v i : Nat) : Rat × Rat :=
  let m := Fp.toRat32 (v / 2 ^ 32) * Fp.toRat32 (i / 2 ^ 32)
  let th := Fp.turnsOf (unsigned 32 (((v % 2 ^ 32 : Nat) : Int) - ((i % 2 ^ 32 : Nat) : Int)))
  (Fp.r64 (m * Fp.cosT th), Fp.r64 (m * Fp.sinT th))

/-- P, Q and I of a slot, from the words of T0 to T5 (0 where none is named). -/
def flowQuantities (e : List Byte) (w : Nat → Option Nat) : Rat × Rat × Option Rat :=
  let word (i : Nat) : Nat := (w i).getD 0
  let mag (i : Nat) : Option Rat := (w i).map (fun v => Fp.toRat32 (v / 2 ^ 32))
  let most (l : List (Option Rat)) : Option Rat := (l.filterMap id).foldl (fun a v => some (match a with | some b => max b v | none => v)) none
  let pqi : Rat × Rat × Option Rat :=
    if feKind e = 0 then (Fp.toRat32 (word 0 / 2 ^ 32), Fp.toRat32 (word 0 % 2 ^ 32), most [mag 1, mag 2, mag 3])
    else if feKind e = 1 then
      let x := phasePower (word 0) (word 1)
      (((feMult e : Nat) : Rat) * x.1, ((feMult e : Nat) : Rat) * x.2, mag 1)
    else
      let a := phasePower (word 0) (word 3)
      let b := phasePower (word 1) (word 4)
      let c := phasePower (word 2) (word 5)
      (Fp.r64 (a.1 + b.1) + c.1, Fp.r64 (a.2 + b.2) + c.2, most [mag 3, mag 4, mag 5])
  let sg : Rat := if feInvert e then -1 else 1
  (Fp.r64 (sg * pqi.1), Fp.r64 (sg * pqi.2.1), pqi.2.2)

/-- The inputs a kind reads. -/
def flowInputs (e : List Byte) : List Nat := if feKind e = 0 then [0, 1, 2, 3] else if feKind e = 1 then [0, 1] else [0, 1, 2, 3, 4, 5]

/-- The register an amount of P or Q goes to (R387). -/
def flowRegs (p q : Rat) : Nat × Nat :=
  let a := if p < 0 then 1 else 0
  (a, if p < 0 then (if q < 0 then 4 else 3) else (if q < 0 then 5 else 2))

/-- An amount enters a register (R388). -/
def accumulate (r : Nat × Rat) (amount : Rat) (rate : Nat) : Nat × Rat :=
  let e := Fp.r64 (Fp.r64 (1000000000 * (absR amount)) / (3600 * ((max 1 rate : Nat) : Rat)))
  let x := Fp.r64 (r.2 + e)
  ((r.1 + x.floor.toNat) % 2 ^ 96, x - (x.floor : Rat))

/-! Intervals (R391). -/

/-- UTC ns of a TAI instant. -/
def State.utcNs (s : State) (inst : Nat) : Nat := (((inst : Nat) : Int) - 1000000000 * (s.utcOffsetAt (inst / 1000000000))).toNat

/-- The number of the interval an instant lies in. -/
def State.intervalOf (s : State) (b : List Byte) (inst : Nat) : Nat := s.utcNs inst / (60000000000 * (enInterval b))

/-- The end boundary of the interval of an instant, as a TAI instant; `after` is an instant that gives the offset in force there. -/
def State.intervalEnd (s : State) (b : List Byte) (inst after : Nat) : Nat :=
  ((((s.intervalOf b inst + 1) * (60000000000 * (enInterval b)) : Nat) : Int) + 1000000000 * (s.utcOffsetAt (after / 1000000000))).toNat

/-- Place of a record in the ring of a flow point (log 26). -/
def ringAddr (fp seq : Nat) : Nat := 112 * 2 ^ 20 + 64 * (96 * fp + seq % 96)

/-- The 64 bytes of a record that ends at a time. -/
def intervalBytes (fp : Nat) (x : FlowPoint) (stop : Nat) : List Byte :=
  let v := x.ivl
  let start := v.start.getD stop
  let delta (r : (Nat × Rat) × Nat) : List Byte := leBytes 6 ((r.1.1 + 2 ^ 96 - r.2) % 2 ^ 96 / 1000000)
  let b := leBytes 8 start ++ leBytes 4 (sat32 ((stop - start) / 1000000)) ++ (x.regs.zip v.base).flatMap delta ++
    leBytes 4 (Fp.ofRat32 v.peakP) ++ leBytes 4 (Fp.ofRat32 v.peakI) ++ leBytes 2 v.flags ++ leBytes 2 (min v.absent 65535) ++
    leBytes 2 (min v.reversals 65535)
  b ++ leBytes 2 (crc16 (0xFFFF ^^^ fp) b)

/-- A flow point closes its interval: ring, queue, and a new interval with the flags given. -/
def State.closeInterval (s : State) (fp stop flags : Nat) : State :=
  let x := s.flow fp
  if x.ivl.start.isNone then s.putFp fp { x with ivl := { x.ivl with flags := x.ivl.flags ||| flags } }
  else
    let seq := (x.seq + 1) % 2 ^ 32
    let b := intervalBytes fp x stop
    let s := s.setArchive (memStore 0xFF s.archive (ringAddr fp seq) b)
    let s := s.putFp fp { x with seq := seq, ivl := { base := x.regs.map (·.1), flags := flags } }
    let s := (s.count R.ENERGY_INTERVALS).raise I.ENERGY_INTERVAL
    let q := s.fld F.ENERGY_QUEUES_INTERVAL_QUEUE
    let pkt := leBytes 4 fp ++ leBytes 4 seq ++ b
    let r := s.commit q pkt
    if r.2 then r.1.endBurst E.ENERGY_INTERVAL_QFULL noSource
    else ((r.1.count R.ENERGY_QFULL).burst E.ENERGY_INTERVAL_QFULL noSource [] 1).raise I.ENERGY_QFULL

/-! A flow point in a slot (R385 to R390). -/

/-- A slot enters the interval: its start, and slots not accumulated. -/
def EnergyIvl.enter (v : EnergyIvl) (inst : Nat) (regs : List (Nat × Rat)) : EnergyIvl :=
  if v.start.isSome then v else { v with start := some inst, base := regs.map (·.1) }

/-- The change of entry of a flow point at a switch slot (R391). -/
def State.flowConfig (s : State) (fp : Nat) (e : List Byte) : State :=
  let x := s.flow fp
  if x.entry = e then s
  else
    let was := feEnabled x.entry
    let is := feEnabled e
    let s := if was && !is then s.closeInterval fp (s.instant 0 s.draft.lastSwitch) 0 else s
    let x := s.flow fp
    let x := if was && is then { x with ivl := { x.ivl with flags := x.ivl.flags ||| 16 } }
      else if !was && is then { x with ivl := { base := x.regs.map (·.1), flags := x.ivl.flags } } else x
    s.putFp fp { x with entry := e, last := if was then x.last else none }

/-- Own totals kept for a takeover while the module does not hold (R306). -/
def State.keepTotals (s : State) (fp tag : Nat) : State :=
  let x := s.flow fp
  if s.pairMode = 0 ∨ s.holds then (if x.totals.isEmpty then s else s.putFp fp { x with totals := [] })
  else s.putFp fp { x with totals := ((tag, x.sums) :: x.totals).take 2000 }

/-- The inputs of a flow point as they are read, each verified (R14): number, word, quality; one whose check fails twice is absent with
FAULT. The block has no counters of its own for them. -/
def State.flowReads (s : State) (l tag : Nat) (e : List Byte) (checks : Checks) : State × List (Nat × Nat × Nat) :=
  (flowInputs e).foldl (fun a i =>
    match feTid e i with
    | none => a
    | some t =>
      let f := checks.fails 15 t
      if f = 0 then (a.1, a.2 ++ [(i, a.1.anaSlot l tag t)])
      else if f = 1 then (a.1.transient fcDataCheck (element pdAna wholeDomain), a.2 ++ [(i, a.1.anaSlot l tag t)])
      else (a.1.checkFailed 15 pdAna wholeDomain, a.2 ++ [(i, absentWord, setBit (qAbsentFor rFault) qCheckFail)])) (s, [])

/-- A flow point takes a slot. -/
def State.flowSlot (s : State) (b : List Byte) (l tag fp : Nat) (e : List Byte) (checks : Checks) : State :=
  let inst := s.instant l tag
  let rate := s.rate l
  let n := slotNumber rate tag
  let next := s.instant l (nextTag rate tag)
  let s := s.flowConfig fp e
  if !feEnabled e then s
  else
    let x := s.flow fp
    -- a boundary that no slot closed at
    let s := match x.ivl.start with
      | some t => if s.intervalOf b t < s.intervalOf b inst then s.closeInterval fp (s.intervalEnd b t inst) 0 else s
      | none => s
    let x := s.flow fp
    let read := s.flowReads l tag e checks
    let s := read.1
    let ins := read.2
    let bad := ins.find? (fun v => !bit v.2.2 qValid)
    let qty := flowQuantities e (fun i => (ins.find? (fun v => v.1 == i)).map (·.2.1))
    let P := qty.1
    let Q := qty.2.1
    let odd := ins.any (fun v => !Fp.finite32 (v.2.1 / 2 ^ 32) || (feKind e == 0 && v.1 == 0 && !Fp.finite32 (v.2.1 % 2 ^ 32))) ||
      !Fp.finite32 (Fp.ofRat32 P) || !Fp.finite32 (Fp.ofRat32 Q)
    let present := bad.isNone && !odd
    let quality := match bad with
      | some v => if bit v.2.2 qCheckFail then setBit (qAbsentFor (qReason v.2.2)) qCheckFail else qAbsentFor (qReason v.2.2)
      | none =>
        let q := setBit (ins.foldl (fun a v => a ||| (v.2.2 &&& 0x2EC)) 0) qValid
        if odd then notFinite q else q
    let flags := if !present then 0 else
      (match qty.2.2 with | some i => if feITh e ≠ 0 ∧ feITh e < i then 1 else 0 | none => 0) + (if P < 0 then 2 else 0) +
        (if fePTh e ≠ 0 ∧ fePTh e < absR P then 4 else 0)
    let x := { x with
      quality := quality, flags := flags
      p := if present then Fp.ofRat32 P else Fp.nan32
      q := if present then Fp.ofRat32 Q else Fp.nan32
      i := match qty.2.2 with | some i => if present then Fp.ofRat32 i else Fp.nan32 | none => Fp.nan32 }
    if s.energy.frozen.isSome then s.putFp fp x
    else
      let skipped := match x.last with
        | some t => if x.ivl.start.isSome ∨ s.energy.restored.isSome then n - slotNumber rate t - 1 else 0
        | none => 0
      let acc := present && s.accumulates
      let ivl := x.ivl.enter inst x.regs
      let r := flowRegs P Q
      let put (regs : List (Nat × Rat)) (i : Nat) (v : Rat) : List (Nat × Rat) := regs.set i (accumulate (regs.getD i (0, 0)) v rate)
      let regs := if acc then put (put x.regs r.1 P) r.2 Q else x.regs
      let I := qty.2.2.getD 0
      let ivl := { ivl with
        absent := ivl.absent + skipped + (if acc then 0 else 1)
        peakP := if present then max ivl.peakP (absR P) else ivl.peakP
        peakI := if present then max ivl.peakI I else ivl.peakI
        reversals := ivl.reversals + (if present ∧ x.neg = some !(decide (P < 0)) then 1 else 0)
        flags := ivl.flags ||| (if s.onTest then 2 else 0) }
      let x := { x with
        regs := regs, ivl := ivl, last := some tag
        neg := if present then some (decide (P < 0)) else x.neg
        peakP := if present then max x.peakP (absR P) else x.peakP
        peakI := if present then max x.peakI I else x.peakI }
      let s := (s.putFp fp x).keepTotals fp tag
      let s := s.count (if acc then R.ENERGY_SLOTS else R.ENERGY_ABSENT_SLOTS)
      if s.intervalOf b inst < s.intervalOf b next then s.closeInterval fp (s.intervalEnd b inst next) 0 else s

/-! Pulse outputs (R395). -/

def State.pulseOut (s : State) (n : Nat) : PulseOut := smGet {} s.energy.pulses n
def State.putPulse (s : State) (n : Nat) (x : PulseOut) : State :=
  (s.setEnergy { s.energy with pulses := smPut s.energy.pulses n x }).putFld (F.ENERGY_PULSEn_STATE_BACKLOG n) x.backlog

/-- A pulse rises where one waits and the ball is at rest. -/
def State.startPulse (s : State) (n : Nat) : State :=
  let x := s.pulseOut n
  if x.backlog = 0 ∨ x.ends.isSome then s
  else
    let s := s.putPulse n { x with backlog := x.backlog - 1, high := true, ends := some (s.bases.mono + 1000000 * (s.fld (F.ENERGY_PULSEn_CFG_WIDTH n))) }
    (s.putFld (F.ENERGY_PULSEn_STATE_SENT n) (s.fld (F.ENERGY_PULSEn_STATE_SENT n) + 1)).drive (.epulse n) true

/-- The pulse outputs after a slot. -/
def State.pulseSlot (s : State) : State :=
  if !s.pulsesOn then s
  else
    (List.range 4).foldl (fun s n =>
      if !s.isSet (F.ENERGY_PULSEn_CFG_ENABLE n) then s
      else
        let x := s.pulseOut n
        let c := s.pulseCount n
        match x.c with
        | none => s.putPulse n { x with c := some c }
        | some old =>
          if c ≤ old then s.putPulse n { x with c := some c }
          else
            let all := x.backlog + (c - old)
            let s := s.putPulse n { x with c := some c, backlog := min all 65535 }
            let s := if 65535 < all then
              ((s.count R.ENERGY_PULSES_LOST (all - 65535)).burst E.ENERGY_PULSE_BACKLOG n (leBytes 1 n) (all - 65535)).raise I.ENERGY_PULSE_BACKLOG
              else s.endBurst E.ENERGY_PULSE_BACKLOG n
            s.startPulse n) s

/-! A slot (R388, R393, R394). -/

/-- After an interruption the first slot that accumulates is recorded, and each record it starts carries GAP. -/
def State.energyResume (s : State) (inst : Nat) : State :=
  if !s.accumulates then s
  else
    match s.energy.resume with
    | none => s
    | some f => (s.event E.ENERGY_ENERGY_RESUMED noSource (leBytes 8 f ++ leBytes 8 inst)).setEnergy { s.energy with resume := none }

/-- The RESTORED record of R394: the time of the save and the slots lost. -/
def State.energyRestored (s : State) (l tag : Nat) : State :=
  match s.energy.restored with
  | none => s
  | some t =>
    let lost := (s.energy.points.filterMap (fun x => x.2.last)).foldl (fun a k => max a (slotNumber (s.rate l) tag - slotNumber (s.rate l) k - 1)) 0
    s.event E.ENERGY_RESTORED noSource (leBytes 8 t ++ leBytes 4 (sat32 lost))

/-- ENERGY takes a slot of a lattice wired to it. -/
def State.energySlot (s : State) (l tag : Nat) (checks : Checks) : State :=
  let b := s.cfgAt secEnergy (s.instant l tag)
  if !bit (s.wiring l) 4 then s
  else
    let new := (enEntries b).filter (fun e => feLattice e.2 == l)
    let gone := (s.energy.points.filter (fun x => feLattice x.2.entry == l && feEnabled x.2.entry && !(enEntries b).any (fun e => e.1 == x.1))).map
      (fun x => (x.1, ([] : List Byte)))
    let s := (s.energyResume (s.instant l tag)).energyRestored l tag
    let s := (new ++ gone).foldl (fun s e => s.flowSlot b l tag e.1 e.2 checks) s
    (s.setEnergy { s.energy with restored := none }).pulseSlot

/-! Saves (R392 to R394). -/

/-- Where a flow point's entry of a save bank stands in the Archive: bank 0, 1, or 2 for what a power fail saves (log 26). -/
def saveAddr (bank fp : Nat) : Nat := 126 * 2 ^ 20 + 128 * (2048 * bank + fp)

/-- An entry's 128 bytes: the registers, their residues as binary32, peaks, ABSENT, REVERSALS, the tag of the last slot, and a CRC-32C with FP
in its seed (R392, log 29). -/
def flowSaveBytes (fp : Nat) (x : FlowPoint) : List Byte :=
  let b := pad 124 (x.regs.flatMap (fun r => leBytes 12 r.1) ++ x.regs.flatMap (fun r => leBytes 4 (Fp.ofRat32 r.2)) ++
    leBytes 4 (Fp.ofRat32 x.peakP) ++ leBytes 4 (Fp.ofRat32 x.peakI) ++ leBytes 4 x.ivl.absent ++ leBytes 4 x.ivl.reversals ++ leBytes 8 (x.last.getD 0))
  b ++ leBytes 4 (crc32c (ones32 ^^^ fp) b)

/-- A save set's bytes go to its bank of the Archive save area (R26, R392). -/
def State.storeSave (s : State) (bank : Nat) : State :=
  s.energy.points.foldl (fun (s : State) x => s.setArchive (memStore 0xFF s.archive (saveAddr bank x.1) (flowSaveBytes x.1 x.2))) s

/-- The flow points as they are saved, with the DRAFT_ID and the time. -/
def State.energySet (s : State) (freeze : Option Nat) : EnergySave := ⟨s.draftId, s.bases.grid, freeze, s.energy.points⟩

/-- The newest valid saved state. -/
def EnergySaves.newest (v : EnergySaves) : Option EnergySave :=
  [v.bankA, v.bankB, v.flush].foldl (fun (b : Option EnergySave) x =>
    match b, x with
    | some y, some z => if y.time ≤ z.time then some z else some y
    | none, z => z
    | y, none => y) none

/-- Accumulation freezes (R393): at an accepted fall of `PFW_N`. -/
def State.energyFreeze (s : State) : State :=
  let g := s.bases.grid
  let s := (s.setEnergy { s.energy with frozen := some g }).putFld F.ENERGY_STATUS_FROZEN 1
  let s := s.putPair R.ENERGY_FREEZE_LO g
  (s.event E.ENERGY_ENERGY_FROZEN noSource (leBytes 8 g)).raise I.ENERGY_FROZEN

/-- Interrupted intervals end at the freeze time with GAP, and the next ones carry GAP. -/
def State.closeFrozen (s : State) (freeze : Nat) : State :=
  let s := s.energy.points.foldl (fun s x =>
    let y := s.flow x.1
    (s.putFp x.1 { y with ivl := { y.ivl with flags := y.ivl.flags ||| 1 } }).closeInterval x.1 freeze 1) s
  s.setEnergy { s.energy with points := s.energy.points.map (fun (x : Nat × FlowPoint) => (x.1, { x.2 with last := none })) }

/-- The freeze ends (R396): accumulation goes on at the first slot that closes from now on. -/
def State.energyThaw (s : State) : State :=
  match s.energy.frozen with
  | none => s
  | some f =>
    let s := s.closeFrozen f
    (s.setEnergy { s.energy with frozen := none, resume := some f }).putFld F.ENERGY_STATUS_FROZEN 0

/-- Live values start absent. -/
def FlowPoint.fresh (x : FlowPoint) : FlowPoint :=
  let d : FlowPoint := {}
  { x with p := d.p, q := d.q, i := d.i, quality := d.quality, flags := d.flags, totals := [] }

/-- `ENERGY_STATUS`: flow points enabled, a valid bank. -/
def State.showEnergy (s : State) : State :=
  let n := ((enEntries (s.cfg secEnergy)).filter (fun e => feEnabled e.2)).length
  (s.putFld F.ENERGY_STATUS_ENABLED (min n 4095)).putFld F.ENERGY_STATUS_SAVE_VALID (if s.saves.bankA.isSome || s.saves.bankB.isSome then 1 else 0)

/-- A draft load (R393, R431): with the same DRAFT_ID the newest saved state is taken, the interrupted interval written as it ended at
the freeze, or carried on with GAP where no freeze was saved; with another every register starts at 0. The pulse registers take
the section's values. -/
def State.energyLoad (s : State) : State :=
  let b := s.cfg secEnergy
  let s := s.setEnergy {}
  let s := match s.saves.newest with
    | none => s
    | some v =>
      if v.draftId ≠ s.draftId then
        (s.setSaves {}).event E.ENERGY_SAVE_DISCARDED noSource (leBytes 8 v.draftId)
      else
        let pts := v.points.map (fun (x : Nat × FlowPoint) => (x.1, x.2.fresh))
        let s := s.setEnergy { s.energy with points := pts }
        match v.freeze with
        | some f =>
          let s := s.closeFrozen f
          s.setEnergy { s.energy with resume := some f }
        | none => s.setEnergy { s.energy with points := pts.map (fun (x : Nat × FlowPoint) => (x.1, { x.2 with ivl := { x.2.ivl with flags := x.2.ivl.flags ||| 1 } })) }
  let s := (List.range 4).foldl (fun s n =>
    let o := 0x10 + 12 * n
    let w := leAt b o 2
    let s := s.putReg (R.ENERGY_PULSEn_CFG n) (2 ^ 28 * (leAt b (o + 2) 1 % 16) + (if bit w 15 then 2 ^ 27 else 0) + 2 ^ 16 * (w % 2048) + leAt b (o + 4) 2)
    s.putReg (R.ENERGY_PULSEn_K n) (leAt b (o + 8) 4)) s
  s.showEnergy

/-- PD_ANA has been restored (R394): each flow point takes its newest saved state. -/
def State.energyRestore (s : State) : State :=
  match s.saves.newest with
  | none => s.setEnergy { s.energy with points := [] }
  | some v =>
    s.setEnergy { s.energy with
      points := v.points.map (fun (x : Nat × FlowPoint) => (x.1, { x.2.fresh with ivl := { x.2.ivl with flags := x.2.ivl.flags ||| 4 } }))
      restored := some v.time }

end Sys2Proof.Machine
end

