-- ==== Sys2Proof/Machine/Shuttle.lean ====
section
/-!
DEFINITION. Sys2Proof/Machine/Shuttle.lean: the Shuttle's commands (R337 to R349, R360), INTENT_SEND (R307) and host frames (R106).
-/

namespace Sys2Proof.Machine

/-- May a slot still be launched: composed or enabled, published by this module, after the last launched (R337, R350)? -/
def State.mayLaunch (s : State) (n tag : Nat) : Bool :=
  let x := s.osSt n
  (x.frame.isSome || x.enabled) && s.mayPublish && decide (s.pairAt (R.SHUTTLE_OSn_LAST_LO n) < tag) && decide (x.after < tag)

/-- COMPOSE_START (R338): at the later of the slot's release and the launch time less C_lead. -/
def State.composeStart (s : State) (n : Nat) : State :=
  match s.osNext n with
  | none => s
  | some (tag, e) =>
    let released : Bool := match (s.lat (osLattice e)).slot tag with | some y => y.released.isSome && y.piped | none => false
    if 63 < n ∨ s.domain pdShuttle ≠ 0 ∨ !released ∨ (s.osSt n).frame.isSome ∨ !s.publishes n tag ∨ s.now + s.cLead < s.launchTime e tag then s
    else s.compose n tag e

def execComposeStart (t os : Nat) (s : State) : Host.Outcome State Fault Refusal := run t (·.composeStart os) s

/-- INTENT_SEND (R307). -/
def State.intentSend (s : State) (n : Nat) : State :=
  match s.osNext n with
  | none => s
  | some (tag, e) =>
    match (s.osSt n).frame with
    | none => s
    | some f =>
      if 63 < n ∨ s.domain pdShuttle ≠ 0 ∨ f.tag ≠ tag ∨ f.intent ∨ !f.ready ∨ !s.needsIntent ∨ !s.mayLaunch n tag ∨ s.isSet F.SHUTTLE_CTRL_HOLD_ALL ∨
          s.now + s.intentLead < s.launchTime e tag then s
      else s.osIntent n f

def execIntentSend (t os : Nat) (s : State) : Host.Outcome State Fault Refusal := run t (·.intentSend os) s

/-- LAUNCH (R339, R340): the frame leaves, waits for a late launch, is skipped, or is passed over by a module that does not publish. -/
def State.launch (s : State) (n : Nat) : State :=
  match s.osNext n with
  | none => s
  | some (tag, e) =>
    let due := s.launchTime e tag
    if 63 < n ∨ s.domain pdShuttle ≠ 0 ∨ s.now < due then s
    else if !s.mayLaunch n tag then s.osPass n tag
    else if s.isSet F.SHUTTLE_CTRL_HOLD_ALL then s.osSkip n tag
    else
      let period := (1000000000 * (osDivider e)) / max 1 (s.rate (osLattice e))
      match (s.osSt n).frame with
      | some f =>
        if f.tag = tag ∧ f.ready ∧ (!s.needsIntent ∨ f.intent) then s.osLaunch n e f false
        else if osFlag e 3 ∧ s.now < due + period then s else s.osSkip n tag
      | none => if osFlag e 3 ∧ s.now < due + period then s else s.osSkip n tag

def execLaunch (t os : Nat) (s : State) : Host.Outcome State Fault Refusal := run t (·.launch os) s

/-- LATE_LAUNCH (R340): with LATE_SEND, as soon as it is ready, its INTENT first, less than one stream period late. -/
def State.lateLaunch (s : State) (n : Nat) : State :=
  match s.osNext n with
  | none => s
  | some (tag, e) =>
    let due := s.launchTime e tag
    if 63 < n ∨ s.domain pdShuttle ≠ 0 ∨ s.now < due ∨ !osFlag e 3 ∨ !s.mayLaunch n tag ∨ s.isSet F.SHUTTLE_CTRL_HOLD_ALL then s
    else
      let period := (1000000000 * (osDivider e)) / max 1 (s.rate (osLattice e))
      match (s.osSt n).frame with
      | none => if s.now < due + period then s else s.osSkip n tag
      | some f =>
        if f.tag ≠ tag then s
        else if due + period ≤ s.now then s.osSkip n tag
        else
          let s := if s.needsIntent && !f.intent then s.osIntent n f else s
          s.osLaunch n e f true

def execLateLaunch (t os : Nat) (s : State) : Host.Outcome State Fault Refusal := run t (·.lateLaunch os) s

/-! Host frames (R106). -/

/-- The next scheduled launch on a port, on the active base. -/
def State.nextLaunch (s : State) (p : Nat) : Option Nat :=
  ((List.range 64).filterMap (fun n =>
    match s.osNext n with
    | some (tag, e) =>
      let at' := s.launchTime e tag
      if (s.osLeaves e).contains p && s.publishes n tag && decide (s.now ≤ at') then some at' else none
    | none => none)).min?

/-- Does something go before a host frame on a port now: a frame under way, or PTP messages due at this time (R106)? -/
def State.portTaken (s : State) (p : Nat) : Bool :=
  decide (s.now < smGet 0 s.port.busy p) ||
  (bit (s.fld F.TIME_PTP_CFG_PORTS) p && s.pending.any (fun c => match c with
    | .ptpTransmit t => decide (t ≤ s.bases.mono)
    | _ => false))

/-- HOST_FRAME_SEND: the packet at the front of the transmit queue. It waits while its port's domain is not ON or its line is taken. -/
def State.hostFrame (s : State) : State :=
  match s.consumerQueue F.PORT_SLOW_QUEUE_TX_QUEUE with
  | none => s
  | some q =>
    match (s.queue q).packets with
    | [] => s
    | (_, l) :: _ =>
      let p := leAt l 0 1 % 8
      let prp := bit (leAt l 0 1) 3
      let frame := slice l 8 (leAt l 2 2)
      let ports := if prp then [p, p + 1] else [p]
      if s.fld (F.PORT_CFG_MODE p) = 0 ∨ (prp ∧ (p % 2 = 1 ∨ !s.inPrp p)) then (s.popPacket q).count (R.PORT_TX_HOST_BAD p)
      else if s.domain (portDomain p) ≠ 0 then s.wakeDemand (portDomain p)
      else if ports.any s.portTaken then s
      else
        let stop (k : Nat) : Nat := s.now + s.lineTime k (lineBytes prp frame)
        let near (k : Nat) : Bool := match s.nextLaunch k with | some a => decide (a < stop k + 100) | none => false
        if ports.any near then s.count (R.PORT_TX_HOST_DEFERRED p)
        else
          let s := ports.foldl (fun s k => s.setPort { s.port with busy := smPut s.port.busy k (stop k + s.lineTime k 12) }) s
          (s.popPacket q).send p prp frame

def execHostFrameSend (t : Nat) (s : State) : Host.Outcome State Fault Refusal := run t State.hostFrame s

/-! Commands (R360). -/

/-- SHUTTLE STREAM_ENABLE. -/
def cmdShuttleStreamEnable (s : State) : CmdResult :=
  let n := s.arg 11 0
  let v := s.arg 11 1
  if s.mode < 2 ∨ 10 < s.mode then refuse s stIllegal
  else match (if n ≤ 63 then s.os n else none) with
    | none => refuse s stBadArg
    | some e =>
      if 1 < v then refuse s stBadArg
      else if v = 1 ∧ !osFlag e 0 then refuse s stIllegal
      else ok (s.putOs n { s.osSt n with enabled := v == 1 })

def execShuttleStreamEnable (t : Nat) (path : Path) (s : State) : Host.Outcome State Fault Refusal :=
  command t 11 1 path cmdShuttleStreamEnable s

/-- CFG_FETCH (R346). -/
def cmdCfgFetch (s : State) : CmdResult :=
  let n := s.arg 11 0
  let k := s.arg 11 1
  match (if n ≤ 63 then s.os n else none) with
  | none => refuse s stBadArg
  | some e =>
    if 1 < osProtocol e ∨ !osFlag e 0 ∨ !(s.osSt n).enabled ∨ (k ≠ 2 ∧ k ≠ 3) then refuse s stBadArg
    else ok (s.hostCopy (s.fld F.SHUTTLE_QUEUES_CFG_QUEUE) 0 n k (s.cfgFrame e (k == 3)))

def execCfgFetch (t : Nat) (path : Path) (s : State) : Host.Outcome State Fault Refusal := command t 11 2 path cmdCfgFetch s

/-- CMD_SEND (R348): a second command to a stream within a second is refused with BUSY. -/
def cmdCmdSend (s : State) : CmdResult :=
  let sid := s.arg 11 0
  let c := s.arg 11 1
  let cls := leAt (s.stream sid) 0 1
  if 8191 < sid ∨ c < 1 ∨ 6 < c ∨ (cls ≠ 1 ∧ cls ≠ 2) then refuse s stBadArg
  else match s.sendCommand sid c with
    | some s' => ok s'
    | none => refuse s stBusy

def execCmdSend (t : Nat) (path : Path) (s : State) : Host.Outcome State Fault Refusal := command t 11 3 path cmdCmdSend s

end Sys2Proof.Machine
end

