-- ==== Sys2Proof/Machine/Queue.lean ====
section
/-!
DEFINITION. Sys2Proof/Machine/Queue.lean: the queue commands (R351 to R363): host rings, doorbells, moderation, start, stop, flush.
-/

namespace Sys2Proof.Machine

/-- From one ring offset forward to another, modulo 2 × HOST_SIZE (R354). -/
def ringSpan (size a b : Nat) : Nat := (b + 2 * size - a) % (2 * size)

/-- A pad packet over the rest of a ring (R352). -/
def padPacket (rest : Nat) : List Byte := leBytes 4 ((rest - 8) % 2 ^ 20 + 2 ^ 24 * 0xFF) ++ leBytes 4 0 ++ List.replicate (rest - 8) 0

/-- D2H_COPY: the oldest committed packet is copied when the ring has room, its write-back written, then it counts toward the
signal (R354, R355). `good`: the DMA writes complete without error (R358). -/
def State.d2hCopy (s : State) (q : Nat) (good : Bool) : State :=
  if !s.dmaOn q 0 then s
  else
    match (s.queue q).packets with
    | [] => s
    | (seq, payload) :: r =>
      let size := s.ringSize q
      let dev := s.regN (R.QUEUE_Qn_DEVICE_PTR q)
      let used := ringSpan size (s.regN (R.QUEUE_Qn_DOORBELL q)) dev
      let n := packetSize payload.length
      let off := dev % size
      let rest := if size < off + n then size - off else 0
      if size < used + rest + n then s
      else if !good then s.dmaError q 0 off
      else
        let s := if rest = 0 then s else s.emit (.dma q off (padPacket rest))
        let off := (off + rest) % size
        let dev := (dev + rest + n) % (2 * size)
        let s := s.emit (.dma q off (packetBytes seq payload))
        let s := s.putReg (R.QUEUE_Qn_DEVICE_PTR q) dev
        let s := s.emit (.writeBack q (dev + 2 ^ 32 * seq))
        let s := s.putLevel q { s.queue q with packets := r, copied := seq }
        s.countPacket q

def execD2hCopy (t q : Nat) (good : Bool) (s : State) : Host.Outcome State Fault Refusal := run t (·.d2hCopy q good) s

/-- H2D_FETCH: the next packet of the ring is read (its header's KIND and its payload as the host wrote them) and commits when its
last word has arrived. -/
def State.h2dFetch (s : State) (q kind : Nat) (payload : List Byte) (good : Bool) : State :=
  if !s.dmaOn q 1 then s
  else
    let size := s.ringSize q
    let dev := s.regN (R.QUEUE_Qn_DEVICE_PTR q)
    let posted := ringSpan size dev (s.regN (R.QUEUE_Qn_DOORBELL q))
    let off := dev % size
    if posted = 0 then s
    else if !good then s.dmaError q 0 off
    else if kind = 0xFF then
      let dev' := (dev + (size - off)) % (2 * size)
      if posted < size - off then s.dmaError q 2 off
      else (s.putReg (R.QUEUE_Qn_DEVICE_PTR q) dev').emit (.writeBack q dev')
    else if kind ≠ 0 then s.dmaError q 1 off
    else
      let n := packetSize payload.length
      if size < off + n ∨ posted < n ∨ s.queueSize q < n then s.dmaError q 2 off
      else
        let x := s.queue q
        if s.queueSize q < x.level + n then s
        else
          let s := (s.putLevel q { x with packets := x.packets ++ [(0, payload)] }).count (R.QUEUE_Qn_PACKETS q)
          let dev := (dev + n) % (2 * size)
          let s := (s.putReg (R.QUEUE_Qn_DEVICE_PTR q) dev).emit (.writeBack q dev)
          s.countPacket q

def execH2dFetch (t q kind : Nat) (payload : List Byte) (good : Bool) (s : State) : Host.Outcome State Fault Refusal :=
  run t (·.h2dFetch q kind payload good) s

/-- A write of `QUEUE_Qn_DOORBELL` (R354): an offset past the other side's is ignored and stops the queue in ERROR (R359). -/
def State.writeDoorbell (s : State) (q v : Nat) : State :=
  let size := s.ringSize q
  let a := R.QUEUE_Qn_DOORBELL q
  if size = 0 then s.putReg a v
  else
    let old := s.regN a
    let dev := s.regN (R.QUEUE_Qn_DEVICE_PTR q)
    let room := if s.queueIs q 1 then size - ringSpan size dev old else ringSpan size old dev
    if 2 * size ≤ v ∨ room < ringSpan size old v then s.dmaError q 3 v
    else s.putReg a v

/-- DOORBELL: the write by a path; without mastership it is ignored (R457). -/
def State.doorbell (s : State) (path : Path) (q v : Nat) : State :=
  if 31 < q then s
  else s.access path (R.QUEUE_Qn_DOORBELL q) (v % 2 ^ 32) (·.writeDoorbell q (v % 2 ^ 32))

def execDoorbell (t : Nat) (path : Path) (q v : Nat) (s : State) : Host.Outcome State Fault Refusal := run t (·.doorbell path q v) s

/-- MODERATION_TIMEOUT (R355). -/
def State.moderationTimeout (s : State) (q : Nat) : State :=
  let x := s.queue q
  match x.first with
  | some m =>
    if 31 < q ∨ x.counted = 0 ∨ s.bases.mono < m + 1000 * (s.fld (F.QUEUE_Qn_MODERATION_US q)) then s
    else (s.putQueue q { x with counted := 0, first := none }).signal (32 + q)
  | none => s

def execModerationTimeout (t q : Nat) (s : State) : Host.Outcome State Fault Refusal := run t (·.moderationTimeout q) s

/-- QUEUE_FLUSH (R357): FLUSH is set by a path; it clears itself. -/
def State.setFlush (s : State) (path : Path) (q : Nat) : State :=
  if 31 < q then s
  else s.access path (R.QUEUE_Qn_CTRL q) 1 (fun s => if s.isSet (F.QUEUE_Qn_CFG_ENABLE q) then s.flushQueue q else s)

def execQueueFlush (t : Nat) (path : Path) (q : Nat) (s : State) : Host.Outcome State Fault Refusal := run t (·.setFlush path q) s

/-- The host ring registers are set: a power of two from 4 KiB to 1 GiB, aligned to its size (R354). -/
def State.ringSet (s : State) (q : Nat) : Bool :=
  let n := s.ringSize q
  decide (4096 ≤ n ∧ n ≤ 2 ^ 30) && n == 2 ^ Nat.log2 n && s.pairAt (R.QUEUE_Qn_HOST_BASE_LO q) % n == 0

/-- QUEUE_START. -/
def cmdQueueStart (s : State) : CmdResult :=
  let q := s.arg 12 0
  if 31 < q then refuse s stBadArg
  else if s.mode < 1 ∨ 10 < s.mode ∨ !s.isSet (F.QUEUE_Qn_CFG_ENABLE q) ∨ !s.ringSet q then refuse s stIllegal
  else if s.fld (F.QUEUE_Qn_CTRL_STATE q) = 2 then ok s
  else ok (s.queueState q 2)

def execQueueStart (t : Nat) (path : Path) (s : State) : Host.Outcome State Fault Refusal := command t 12 1 path cmdQueueStart s

/-- QUEUE_STOP. -/
def cmdQueueStop (s : State) : CmdResult :=
  let q := s.arg 12 0
  if 31 < q then refuse s stBadArg
  else if !s.isSet (F.QUEUE_Qn_CFG_ENABLE q) then refuse s stIllegal
  else ok (s.queueState q 1)

def execQueueStop (t : Nat) (path : Path) (s : State) : Host.Outcome State Fault Refusal := command t 12 2 path cmdQueueStop s

end Sys2Proof.Machine
end

