-- ==== Sys2Proof/Machine/Osc.lean ====
section
/-!
DEFINITION. Sys2Proof/Machine/Osc.lean: the oscillation commands (R216, R225, R228, R231).
-/

namespace Sys2Proof.Machine

/-- TRACKER_STALE: the run of absent samples has passed `OSC_GAP_MAX`. -/
def State.trackerStale (s : State) (k : Nat) : State :=
  let x := s.tracker k
  if s.domain pdAna ≠ 0 ∨ x.st = 0 ∨ x.st = 3 ∨ !s.gapPassed x then s else (s.stale k s.bases.mono).showOsc

def execTrackerStale (t tracker : Nat) (s : State) : Host.Outcome State Fault Refusal := run t (·.trackerStale tracker) s

/-- May a checkpoint set be written: M3 to M10, PD_ARCHIVE not OFF, no power fail? -/
def State.ckptOpen (s : State) : Bool := s.capturing && s.domain pdArchive != 2 && !s.pfwLow

/-- The Archive takes a write whose read-back fails `fails` times (R276): the answer says whether it stands. -/
def State.archiveWrite (s : State) (fails : Nat) : State × Bool :=
  let s := s.wakeArchive
  if fails = 0 then (s, true)
  else if fails = 1 then (s.transient fcArchive (element pdArchive 0), true)
  else (s.lasting fcArchive (element pdArchive 0), false)

/-- CKPT_ARCHIVE: every 600 s (R225); a set whose write fails twice is abandoned. -/
def State.ckptArchive (s : State) (fails : Nat) : State :=
  let last := s.osc.archAt.getD 0
  if !s.ckptOpen ∨ s.bases.mono < last + 600000000000 then s
  else
    let w := s.archiveWrite fails
    if w.2 then w.1.writeCkpt else w.1

def execCkptArchive (t fails : Nat) (s : State) : Host.Outcome State Fault Refusal := run t (·.ckptArchive fails) s

/-! SHAPE_REPORT (R228). -/

/-- A member's 16 bytes. Where a quotient has the divisor 0, which R227 gives no value, an open value stands (log 25). -/
def shapeItem (free : Nat) (m : ShapeMember) (ref : ShapeMember) : List Byte :=
  let sh : Rat × Rat := (m.c.1 / ref.pw, m.c.2 / ref.pw)
  let ratio := if ref.pw = 0 then free else Fp.ofRat32 (Fp.sqrtRat (cnorm sh))
  let coh := if m.pw * ref.pw = 0 then free else Fp.ofRat32 (cnorm m.c / (m.pw * ref.pw))
  let q := if m.samples < 2 * m.absent then qAbsentFor m.reason else setBit m.orQ qValid
  leBytes 4 ratio ++ leBytes 4 (Fp.toTurn (Fp.atan2T sh.2 sh.1)) ++ leBytes 4 coh ++
    leBytes 2 q ++ leBytes 2 0

/-- A job's record. -/
def State.shapeRecord (s : State) (j : Nat) : List Byte :=
  let x := s.shapeJob j
  let tr := s.tracker (jeTracker x.entry)
  let m := tr.modes.getD (jeMode x.entry) {}
  leBytes 8 tr.tag ++ leBytes 1 j ++ leBytes 1 (jeMode x.entry) ++ leBytes 1 m.gen ++ leBytes 1 (if x.first then 1 else 0) ++
    leBytes 2 x.members.length ++ leBytes 2 0 ++ leBytes 4 m.freq32 ++ leBytes 4 m.zeta32 ++ leBytes 4 m.amp32 ++
     leBytes 1 m.conf ++ leBytes 3 0 ++ x.members.flatMap (fun i => shapeItem s.free32 i x.ref)

/-- SHAPE_REPORT: every PERIOD seconds a job writes its record, or is counted as skipped. -/
def State.shapeReport (s : State) (j : Nat) : State :=
  let x := s.shapeJob j
  let e := x.entry
  if s.domain pdAna ≠ 0 ∨ !s.capturing ∨ e.isEmpty ∨ !jeFlag e 0 ∨ s.stormOff (jeFlag e 1) ∨ s.bases.mono < x.last + 1000000000 * (jePeriod e) then s
  else
    let s := s.putShape j { x with last := s.bases.mono }
    let fresh (s : State) : State :=
      let x := s.shapeJob j
      s.putShape j { x with members := x.members.map (fun m => { m with absent := 0, samples := 0, orQ := 0 }) }
    let live := ((s.tracker (jeTracker e)).modes.getD (jeMode e) {}).live
    let due : Bool := live && x.gen.isSome && decide (jeTau e ≤ (((s.bases.mono - x.since) : Nat) : Rat) / (1000000000 : Nat))
    if !due then fresh (s.count R.OSC_SHAPE_SKIPPED)
    else
      let q := s.fld F.OSC_QUEUES_SHAPE_QUEUE
      let rec' := s.shapeRecord j
      let c := s.commit q rec'
      if c.2 then
        let s := (c.1.count R.OSC_SHAPE_RECORDS).endBurst E.OSC_SHAPE_QFULL j
        fresh (s.draw.putShape j { s.shapeJob j with first := false })
      else fresh (((c.1.count R.OSC_SHAPE_QFULL).raise I.OSC_SHAPE_QFULL).burst E.OSC_SHAPE_QFULL j (leBytes 1 j) 1)

def execShapeReport (t job : Nat) (s : State) : Host.Outcome State Fault Refusal := run t (·.shapeReport job) s

/-! Commands (R231). -/

/-- TRACKER_READ: the snapshot registers. -/
def cmdTrackerRead (s : State) : CmdResult :=
  let k := s.arg 7 0
  if s.mode < 2 then refuse s stIllegal
  else if 4095 < k then refuse s stBadArg
  else
    let x := s.tracker k
    let v := (255 * x.fraction (s.oscNw x.entry)).floor.toNat
    let live := bitsOf 4 (fun i => (x.modes.getD i {}).live)
    let s := s.putReg R.OSC_SNAP_STATE (2 ^ 16 * (min x.window.length 65535) + 2 ^ 8 * v + 2 ^ 4 * live + x.st)
    let s := (s.putReg R.OSC_SNAP_NOISE (Fp.ofRat32 x.noise)).putPair R.OSC_SNAP_TAG_LO x.tag
    ok ((List.range 4).foldl (fun s i =>
      let m := x.modes.getD i {}
      let f := s.featureOf x m
      let s := (s.putReg (R.OSC_SNAP_Mm_FREQ i) f.f).putReg (R.OSC_SNAP_Mm_ZETA i) f.zeta
      let s := (s.putReg (R.OSC_SNAP_Mm_AMP i) f.amp).putReg (R.OSC_SNAP_Mm_PHASE i) m.phase
      let s := s.putReg (R.OSC_SNAP_Mm_SD_ZETA i) (Fp.ofRat32 m.sz)
      s.putReg (R.OSC_SNAP_Mm_INFO i) (2 ^ 16 * f.quality + 2 ^ 8 * m.gen + m.conf)) s)

def execTrackerRead (t : Nat) (path : Path) (s : State) : Host.Outcome State Fault Refusal := command t 7 1 path cmdTrackerRead s

/-- SPECTRUM_READ: the last hop's bins. -/
def cmdSpectrumRead (s : State) : CmdResult :=
  let k := s.arg 7 0
  if 4095 < k then refuse s stBadArg
  else ok ((List.range 64).foldl (fun s i => s.putReg (R.OSC_SPEC_BINn i) (Fp.ofRat32 ((s.tracker k).bins.getD i 0))) s)

def execSpectrumRead (t : Nat) (path : Path) (s : State) : Host.Outcome State Fault Refusal := command t 7 2 path cmdSpectrumRead s

/-- A tracker that runs restarts at its next sample (R230). -/
def State.resetTracker (s : State) (k : Nat) : State :=
  let x := s.tracker k
  if x.st = 0 then s else s.putTracker k { x with reset := true }

/-- TRACKER_RESET: one tracker, or all with 0xFFFF. -/
def cmdTrackerReset (s : State) : CmdResult :=
  let k := s.arg 7 0
  if s.mode < 2 ∨ 10 < s.mode then refuse s stIllegal
  else if 4095 < k ∧ k ≠ 0xFFFF then refuse s stBadArg
  else
    let ks := if k = 0xFFFF then s.osc.trackers.map (·.1) else [k]
    ok ((ks.foldl (fun s k => s.resetTracker k) s).event E.OSC_REQUEST_DONE noSource (leBytes 1 3 ++ leBytes 4 k))

def execTrackerReset (t : Nat) (path : Path) (s : State) : Host.Outcome State Fault Refusal := command t 7 3 path cmdTrackerReset s

/-- CKPT_SAVE: a set is written now, for which the Archive wakes (R434); with BUSY while `PFW_N` is low (R429), and with TIMEOUT where
the Archive is OFF because its wake failed. -/
def cmdCkptSave (s : State) : CmdResult :=
  if !s.capturing then refuse s stIllegal
  else if s.pfwLow then refuse s stBusy
  else if s.domain pdArchive = 2 then refuse s stTimeout
  else ok ((s.archiveWrite 0).1.writeCkpt.event E.OSC_REQUEST_DONE noSource (leBytes 1 4 ++ leBytes 4 0))

def execCkptSave (t : Nat) (path : Path) (s : State) : Host.Outcome State Fault Refusal := command t 7 4 path cmdCkptSave s

end Sys2Proof.Machine
end

