-- ==== Sys2Proof/Machine/Isle.lean ====
section
/-!
DEFINITION. Sys2Proof/Machine/Isle.lean: the islanding commands (R247 to R249).
-/

namespace Sys2Proof.Machine

/-- Do slots of the island lattice come that ISLE takes? -/
def State.isleRuns (s : State) : Bool := !s.isle.body.isEmpty && (s.lat (isLattice s.isle.body)).next.isSome

/-- SC_TIMEOUT: the time limit of the check in progress has passed on the active base. While the island lattice runs the check ends with
its next slot, where MERGED comes first (R248); without slots at once. -/
def State.scTimeout (s : State) : State :=
  match s.isle.sc with
  | none => s
  | some c =>
    if s.domain pdAna ≠ 0 ∨ s.now < c.start + 1000000000 * (s.fld F.ISLE_SC_TIMEOUT_S) then s
    else if s.isleRuns then s.setIsle { s.isle with expired := true }
    else s.endCheck 3

def execScTimeout (t : Nat) (s : State) : Host.Outcome State Fault Refusal := run t State.scTimeout s

/-- AREA_READ: the aggregates of the last slot. -/
def cmdAreaRead (s : State) : CmdResult :=
  let a := s.arg 8 0
  if s.mode < 2 then refuse s stIllegal
  else if 63 < a ∨ !(isAreas (s.cfg secIsle)).any (fun e => arNumber e == a) then refuse s stBadArg
  else
    let x := s.area a
    let s := (s.putReg R.ISLE_AREA_FREQ x.freq).putReg R.ISLE_AREA_ROCOF x.rocof
    let s := (s.putReg R.ISLE_AREA_ANGLE x.angle).putReg R.ISLE_AREA_R x.r
    ok (s.putReg R.ISLE_AREA_QUALITY (2 ^ 16 * x.aq + x.fq))

def execAreaRead (t : Nat) (path : Path) (s : State) : Host.Outcome State Fault Refusal := command t 8 1 path cmdAreaRead s

/-- SC_START (R248). -/
def cmdScStart (s : State) : CmdResult :=
  let p := s.arg 8 0
  if s.mode ≠ 6 ∧ s.mode ≠ 7 then refuse s stIllegal
  else
    match findPoint (s.cfg secIsle) p with
    | none => refuse s stBadArg
    | some e =>
      if !cpEnabled e then refuse s stBadArg
      else if s.isle.sc.isSome then refuse s stBusy
      else
        match findTie (s.cfg secIsle) (cpTie e) with
        | none => refuse s stBadArg
        | some t =>
          if s.isle.g ≤ 1 ∨ !(s.tie (tiNumber t)).split ∨ s.groupOf (tiA t) = s.groupOf (tiB t) then refuse s stIllegal
          else ok (s.startCheck p 0)

def execScStart (t : Nat) (path : Path) (s : State) : Host.Outcome State Fault Refusal := command t 8 2 path cmdScStart s

/-- SC_STOP. -/
def cmdScStop (s : State) : CmdResult := if s.isle.sc.isNone then refuse s stIllegal else ok (s.endCheck 2)

def execScStop (t : Nat) (path : Path) (s : State) : Host.Outcome State Fault Refusal := command t 8 3 path cmdScStop s

/-- TIE_FORCE: M9 only; the tie takes the state with its next slot (log 27). -/
def cmdTieForce (s : State) : CmdResult :=
  let n := s.arg 8 0
  let v := s.arg 8 1
  if s.mode ≠ 9 then refuse s stIllegal
  else
    match findTie (s.cfg secIsle) n with
    | none => refuse s stBadArg
    | some e =>
      if 2 < v ∨ !tiFlag e 0 then refuse s stBadArg
      else ok ((s.putTie n { s.tie n with forced := if v = 0 then none else some (v == 1) }).showIsle (s.cfg secIsle))

def execTieForce (t : Nat) (path : Path) (s : State) : Host.Outcome State Fault Refusal := command t 8 4 path cmdTieForce s

end Sys2Proof.Machine
end

