-- ==== Sys2Proof/Machine/Energy.lean ====
section
/-!
DEFINITION. Sys2Proof/Machine/Energy.lean: the energy commands (R392, R395, R397) and the ENERGY message (R305).
-/

namespace Sys2Proof.Machine

/-- ENERGY_SAVE: every 1 s of MONO in M3 to M10 a save set goes to the other bank; a bank whose write fails twice is abandoned. -/
def State.energySave (s : State) (fails : Nat) : State :=
  if !s.ckptOpen ∨ s.bases.mono < s.energy.savedAt + 1000000000 then s
  else
    let bank := (s.energy.bank + 1) % 2
    let s := s.setEnergy { s.energy with savedAt := s.bases.mono, bank := bank }
    let w := s.archiveWrite fails
    let s := if fails = 1 then w.1.count R.ENERGY_SAVE_RETRY else w.1
    let put (v : Option EnergySave) (s : State) : State :=
      s.setSaves (if bank = 0 then { s.saves with bankA := v } else { s.saves with bankB := v })
    let s := if w.2 then ((put (some (s.energySet none)) s).storeSave bank |>.count R.ENERGY_SAVES).putPair R.ENERGY_SAVE_LO s.bases.grid
      else ((put none s).event E.ENERGY_SAVE_FAIL bank (leBytes 1 bank)).raise I.ENERGY_SAVE_FAIL
    s.showEnergy

def execEnergySave (t fails : Nat) (s : State) : Host.Outcome State Fault Refusal := run t (·.energySave fails) s

/-- EPULSE_PHASE: the high time of a pulse ends and its low time runs, or its low time ends and the next one rises. -/
def State.epulsePhase (s : State) (n : Nat) : State :=
  let x := s.pulseOut n
  match x.ends with
  | none => s
  | some e =>
    if s.bases.mono < e ∨ 3 < n then s
    else if x.high then
      (s.putPulse n { x with high := false, ends := some (e + 1000000 * (s.fld (F.ENERGY_PULSEn_CFG_WIDTH n))) }).drive (.epulse n) false
    else (s.putPulse n { x with ends := none }).startPulse n

def execEpulsePhase (t output : Nat) (s : State) : Host.Outcome State Fault Refusal := run t (·.epulsePhase output) s

/-- INTERVAL_READ: the record `age` intervals back, from the ring. -/
def cmdIntervalRead (s : State) : CmdResult :=
  let fp := s.arg 15 0
  let age := s.arg 15 1
  let x := s.flow fp
  if 2047 < fp ∨ 95 < age ∨ x.seq ≤ age then refuse s stBadArg
  else
    let b := memRead 0xFF s.archive (ringAddr fp (x.seq - age)) 64
    ok ((List.range 16).foldl (fun s i => s.putReg (R.ENERGY_IVLn i) (leAt b (4 * i) 4)) s)

def execIntervalRead (t : Nat) (path : Path) (s : State) : Host.Outcome State Fault Refusal := command t 15 1 path cmdIntervalRead s

/-- PEAK_RESET: running peaks of one flow point, or of all. -/
def cmdPeakReset (s : State) : CmdResult :=
  let fp := s.arg 15 0
  if s.mode < 2 ∨ 10 < s.mode then refuse s stIllegal
  else if 2047 < fp ∧ fp ≠ 0xFFFF then refuse s stBadArg
  else
    let all := fp == 0xFFFF
    ok (s.setEnergy { s.energy with points := s.energy.points.map (fun (x : Nat × FlowPoint) =>
      if all || x.1 == fp then (x.1, { x.2 with peakP := 0, peakI := 0 }) else x) })

def execPeakReset (t : Nat) (path : Path) (s : State) : Host.Outcome State Fault Refusal := command t 15 2 path cmdPeakReset s

/-- ENERGY_MIRROR_SEND: every 1 s the holder sends each flow point's accumulators (R305). -/
def State.energyMirrorSend (s : State) : State :=
  let last := s.pair.energyAt.getD 0
  if !s.holds ∨ !s.isSet F.PAIR_STATUS_MIRROR_UP ∨ s.bases.mono < last + 1000000000 then s
  else
    let s := s.setPair { s.pair with energyAt := some s.bases.mono }
    s.energy.points.foldl (fun s x =>
      s.mirrorSend 4 (leBytes 2 x.1 ++ leBytes 8 (x.2.last.getD 0) ++ x.2.regs.flatMap (fun r => leBytes 12 r.1))) s

def execEnergyMirrorSend (t : Nat) (s : State) : Host.Outcome State Fault Refusal := run t State.energyMirrorSend s

end Sys2Proof.Machine
end

