-- ==== Sys2Proof/Machine/DeriveOps.lean ====
section
/-!
DEFINITION. Sys2Proof/Machine/DeriveOps.lean: derived threads (R196 to R199).
-/

namespace Sys2Proof.Machine

/-- The derived-thread entries of a DERIVE body, in TID order (R197). -/
def dvEntries (b : List Byte) : List (List Byte) := (List.range (b.length / 64)).map (fun i => slice b (64 * i) 64)
def dvTid (e : List Byte) : Nat := leAt e 0 4 % 2 ^ 17
def dvOp (e : List Byte) : Nat := leAt e 4 1
/-- TID and PART of the inputs. -/
def dvInputs (e : List Byte) : List (Nat × Nat) :=
  (List.range (min 8 (leAt e 5 1))).map (fun i => let w := leAt e (8 + 4 * i) 4; (w % 2 ^ 17, bits w 18 17))
def dvConst (e : List Byte) (i : Nat) : Rat := Fp.toRat32 (leAt e (0x28 + 4 * i) 4)

/-- A phasor word as a complex number. -/
def phasorOf (w : Nat) : Rat × Rat :=
  let t := Fp.turnsOf (w % 2 ^ 32)
  let m := Fp.toRat32 (w / 2 ^ 32)
  (Fp.r64 (m * Fp.cosT t), Fp.r64 (m * Fp.sinT t))

/-- A phasor word of a complex number: magnitude binary32 in bits 63:32, angle in bits 31:0. -/
def phasorWord (z : Rat × Rat) : Nat := 2 ^ 32 * (Fp.ofRat32 (Fp.r64 (Fp.sqrtRat (Fp.r64 (cnorm z))))) + Fp.toTurn (Fp.atan2T z.2 z.1)

def cadd (a b : Rat × Rat) : Rat × Rat := (a.1 + b.1, a.2 + b.2)
def cthird (a : Rat × Rat) : Rat × Rat := (a.1 / 3, a.2 / 3)

/-- e^{j2π/3} and its square. -/
def rotA : Rat × Rat := (-1 / 2, Fp.sqrtRat 3 / 2)
def rotA2 : Rat × Rat := (-1 / 2, -(Fp.sqrtRat 3 / 2))

/-- A word of two binary32 values, and whether each is finite. -/
def twoWords (hi lo : Nat) : Nat × Bool := (2 ^ 32 * hi + lo, Fp.finite32 hi && Fp.finite32 lo)

/-- The half-turn wrap of a difference of angles in 2⁻³² turn, in turns. -/
def wrapTurns (a b : Nat) : Rat := ((signed 32 (unsigned 32 ((a : Int) - b)) : Int) : Rat) / (2 ^ 32 : Nat)

/-- x − round(x), from −½ up to ½. -/
def wrapRat (x : Rat) : Rat := let y := x + 1 / 2; x - (y.floor : Rat)

/-- A LINEAR input. -/
def linearPart (part w : Nat) : Rat :=
  if part = 0 then Fp.toRat32 (w / 2 ^ 32) else if part = 1 then Fp.toRat32 (w % 2 ^ 32)
  else if part = 2 then (phasorOf w).1 else (phasorOf w).2

/-- The result of an operation (R198) and whether it is finite. `prev`: Δ of the slot before, where present. -/
def derive (e : List Byte) (ins : List Nat) (prev : Option Nat) (rate : Nat) : Nat × Bool :=
  let w (i : Nat) : Nat := ins.getD i 0
  let z (i : Nat) : Rat × Rat := phasorOf (w i)
  let ph (v : Rat × Rat) : Nat × Bool := let x := phasorWord v; (x, Fp.finite32 (x / 2 ^ 32))
  let pq (p : Rat × Rat) : Nat × Bool := twoWords (Fp.ofRat32 (Fp.r64 p.1)) (Fp.ofRat32 (Fp.r64 p.2))
  match dvOp e with
  | 0 => ph (cthird (cadd (z 0) (cadd (cmul rotA (z 1)) (cmul rotA2 (z 2)))))
  | 1 => ph (cthird (cadd (z 0) (cadd (cmul rotA2 (z 1)) (cmul rotA (z 2)))))
  | 2 => ph (cthird (cadd (z 0) (cadd (z 1) (z 2))))
  | 3 => pq (phasePower (w 0) (w 1))
  | 4 => pq (cadd (phasePower (w 0) (w 3)) (cadd (phasePower (w 1) (w 4)) (phasePower (w 2) (w 5))))
  | 5 => let p := phasePower (w 0) (w 1); pq (3 * p.1, 3 * p.2)
  | 6 =>
    let d := Fp.ofRat32 (wrapTurns (w 0 % 2 ^ 32) (w 1 % 2 ^ 32))
    let lo := match prev with
      | some p => Fp.ofRat32 (wrapRat (Fp.toRat32 d - Fp.toRat32 p) * ((rate : Nat) : Rat))
      | none => Fp.nan32
    (2 ^ 32 * d + lo, Fp.finite32 d)
  | 7 => twoWords (Fp.sub32 (w 0 / 2 ^ 32) (w 1 / 2 ^ 32)) (Fp.sub32 (w 0 % 2 ^ 32) (w 1 % 2 ^ 32))
  | _ =>
    let sum := ((dvInputs e).zipIdx).foldl (fun a i => a + dvConst e (i.2 + 1) * linearPart i.1.2 (w i.2)) (dvConst e 0)
    let x := Fp.ofRat32 (Fp.r64 sum)
    (2 ^ 32 * x, Fp.finite32 x)

/-- Are the binary32 parts of the inputs that the operation uses finite? -/
def dvFinite (e : List Byte) (ins : List Nat) : Bool :=
  ((dvInputs e).zip ins).all (fun i =>
    if dvOp e = 6 then true
    else if dvOp e = 7 then Fp.finite32 (i.2 / 2 ^ 32) && Fp.finite32 (i.2 % 2 ^ 32)
    else if dvOp e = 8 ∧ i.1.2 = 1 then Fp.finite32 (i.2 % 2 ^ 32)
    else Fp.finite32 (i.2 / 2 ^ 32))

/-- A derived thread's item reaches the Loom (R196): checked and written as R182 says, and present in its slot. `fails` of its two readings
fail their check; after two, the thread is settled as absent. -/
def State.writeDerived (s : State) (l tag tid word q fails : Nat) : State :=
  match (s.lat l).slot tag with
  | none => s
  | some x =>
    let i := mkItem tid word q tag
    let bad := checkCode i.word i.quality i.tid i.time != i.code
    let c := s.checkedRead (if bad then 2 else fails) 6 pdLoom R.LOOM_CHECK_RETRY R.LOOM_CHECK_FAIL E.LOOM_CHECK_RETRY E.LOOM_CHECK_FAIL
      i.tid I.LOOM_CHECK_FAIL (leBytes 3 i.tid ++ leBytes 8 i.time)
    let s := c.1
    if x.present.contains tid then s.count R.LOOM_DUP_WRITE
    else if c.2 then
      let s := (s.storeValue l x tid i.word i.quality).modSlot l tag (fun y => { y with present := y.present ++ [tid], onTime := y.onTime + 1 })
      s.count R.LOOM_WRITES
    else
      (s.storeValue l x tid absentWord (setBit (qAbsentFor rFault) qCheckFail)).modSlot l tag (fun y =>
        { y with failed := y.failed ++ [tid], absent := y.absent + 1 })

/-- One derived thread of a slot; without PD_ANA it is absent with FAULT (R281). `checks` names an input by its TID, and the write of the
thread itself by 2¹⁷ + its TID. -/
def State.deriveThread (s : State) (l tag : Nat) (e : List Byte) (checks : Checks) : State :=
  let tid := dvTid e
  let wf := checks.fails 6 (2 ^ 17 + tid)
  if s.domain pdAna ≠ 0 then s.writeDerived l tag tid absentWord (qAbsentFor rFault) wf
  else
    let r := (dvInputs e).foldl (fun (a : State × List (Nat × Nat) × Bool) i =>
      let v := a.1.anaSlot l tag i.1
      let f := checks.fails 6 i.1
      let c := a.1.checkedRead f 6 pdAna R.LOOM_CHECK_RETRY R.LOOM_CHECK_FAIL E.LOOM_CHECK_RETRY E.LOOM_CHECK_FAIL i.1
        I.LOOM_CHECK_FAIL (leBytes 3 i.1 ++ leBytes 8 tag)
      (c.1, a.2.1 ++ [v], a.2.2 && c.2)) (s, [], true)
    let s := r.1
    let ins := r.2.1
    if !r.2.2 then s.writeDerived l tag tid absentWord (setBit (qAbsentFor rFault) qCheckFail) wf
    else
      match ins.find? (fun v => bit v.2 qAbsent) with
      | some v => s.writeDerived l tag tid absentWord (qAbsentFor (qReason v.2)) wf
      | none =>
        let q := setBit (ins.foldl (fun a v => a ||| (v.2 &&& 0x2EC)) 0) qValid
        let p := s.lastContent l tag tid
        let x := derive e (ins.map (·.1)) (if bit p.2 qValid then some (p.1 / 2 ^ 32) else none) (s.rate l)
        if x.2 && dvFinite e (ins.map (·.1)) then s.writeDerived l tag tid x.1 q wf
        else s.writeDerived l tag tid absentWord (notFinite q) wf

/-- The derived threads of a slot, in increasing TID order (R196). -/
def State.deriveSlot (s : State) (l tag : Nat) (checks : Checks) : State :=
  let inst := s.instant l tag
  let shed := (((s.lat l).slot tag).map (·.shed)).getD []
  let es := (dvEntries (s.cfgAt secDerive inst)).filter (fun e =>
    let c := s.catAt inst (dvTid e)
    catEmit c && catOrigin c == 3 && catLattice c == l)
  let s := es.foldl (fun s e =>
    if shed.contains (catSet (s.catAt inst (dvTid e))) then
      (match (s.lat l).slot tag with
        | some x => (s.storeValue l x (dvTid e) absentWord (qAbsentFor rNotArrived)).modSlot l tag (fun y => { y with absent := y.absent + 1 })
        | none => s)
    else s.deriveThread l tag e checks) s
  if es.isEmpty then s else s.writeHeader l tag

end Sys2Proof.Machine
end

