-- ==== Sys2Proof/Machine/VoteOps.lean ====
section
/-!
DEFINITION. Sys2Proof/Machine/VoteOps.lean: alarm points and voting lanes (R251 to R271): forms, persistence, latching, signatures and
re-syncs, transitions, GOOSE publishing.
-/

namespace Sys2Proof.Machine

/-! Fields of an alarm-point entry (R251). -/

def apFlag (e : List Byte) (i : Nat) : Bool := bit (leAt e 2 1) i
def apKind (e : List Byte) : Nat := leAt e 3 1
def apForm (e : List Byte) : Nat := leAt e 4 1
def apLattice (e : List Byte) : Nat := leAt e 5 1 % 4
def apAction (e : List Byte) : Nat := leAt e 6 1 % 4
def apLimit (e : List Byte) : Nat := leAt e 7 1
def apSource (e : List Byte) : Nat := leAt e 8 4
def apTh (e : List Byte) (i : Nat) : Nat := leAt e (0xC + 4 * i) 4
def apHyst (e : List Byte) : Nat := leAt e 0x18 4
def apQmask (e : List Byte) : Nat := leAt e 0x1C 2
def apOn (e : List Byte) : Nat := leAt e 0x1E 1
def apOff (e : List Byte) : Nat := leAt e 0x1F 1
def apBlock (e : List Byte) : Option Nat := let b := leAt e 0x21 1; if bit b 7 then none else some (b % 32)
def apMember (e : List Byte) : Nat := leAt e 0x22 1
def apMembers (e : List Byte) : List Nat := ((List.range 8).map (fun i => leAt e (0x28 + 2 * i) 2)).filter (fun a => a != 0xFFFF)

/-- What a form gives (R254 to R256): the condition, whether the source is absent, and VALUE and QUALITY of an event packet. -/
structure FormResult where
  c : Bool
  absent : Bool := false
  value : Nat := 0
  quality : Nat := 0
  deriving DecidableEq, Repr

/-! THREAD forms (R254). -/

/-- The condition of a comparing form on x. -/
def compareForm (e : List Byte) (c : Bool) (x : Nat) : Bool :=
  let a := apTh e 0
  let b := apTh e 1
  let h := apHyst e
  match apForm e with
  | 0 => if c then !Fp.lt32 x (Fp.sub32 a h) else Fp.lt32 a x
  | 1 => if c then !Fp.lt32 (Fp.add32 a h) x else Fp.lt32 x a
  | 2 => if c then !(Fp.lt32 (Fp.add32 a h) x && Fp.lt32 x (Fp.sub32 b h)) else Fp.lt32 x a || Fp.lt32 b x
  | 3 => if c then !(Fp.lt32 x (Fp.sub32 a h) || Fp.lt32 (Fp.add32 b h) x) else Fp.le32 a x && Fp.le32 x b
  | _ => if c then !Fp.lt32 x (Fp.sub32 a h) else Fp.lt32 a x

/-- The value a THREAD point compares and the point with its angle unwrapped (R206). -/
def pointValue (part word : Nat) (p : PointSt) : Nat × PointSt :=
  let lo := word % 2 ^ 32
  if part = 1 then (lo, p)
  else if part = 3 then
    let t : Int := match p.raw with | none => lo | some r => p.turns + signed 32 (unsigned 32 ((lo : Int) - r))
    (Fp.ofRat32 ((t : Rat) / (2 ^ 32 : Nat)), { p with raw := some lo, turns := t })
  else (word / 2 ^ 32, p)

/-- A THREAD form on a word and quality. `gap`: the slot before was skipped. -/
def threadForm (e : List Byte) (rate word quality : Nat) (p : PointSt) : FormResult × PointSt :=
  let gone : Bool := bit quality qAbsent || (quality &&& apQmask e) != 0
  if apForm e = 6 then (⟨(quality &&& apQmask e) != 0, false, 0, quality⟩, { p with prev := none })
  else if apForm e = 5 then
    let m := leAt e 0x24 2
    let status := bits word 63 48
    let valid := bits word 47 32
    let c := (status &&& m) == (leAt e 0x26 2 &&& m)
    (⟨if gone ∨ (valid &&& m) ≠ m then p.c else c, gone || (valid &&& m) != m, 0, quality⟩, { p with prev := none })
  else if gone then (⟨p.c, true, Fp.nan32, quality⟩, { p with prev := none })
  else
    let v := pointValue (bits (apSource e) 19 17) word p
    let x := v.1
    if !Fp.finite32 x then (⟨p.c, true, x, quality⟩, { v.2 with prev := none })
    else if apForm e = 4 then
      match p.prev with
      | none => (⟨p.c, true, x, quality⟩, { v.2 with prev := some x })
      | some y =>
        let r := Fp.mul32 (Fp.abs32 (Fp.sub32 x y)) (Fp.ofNat32 rate)
        (⟨compareForm e p.c r, false, x, quality⟩, { v.2 with prev := some x })
    else (⟨compareForm e p.c x, false, x, quality⟩, { v.2 with prev := some x })

/-! The other forms (R255). -/

/-- The mode slots a TRACKER point selects. -/
def apModes (e : List Byte) : List Nat := let m := bits (apSource e) 15 12; if m = 0xF then [0, 1, 2, 3] else [m % 4]

/-- Does a mode meet the condition, with the hysteresis applied where it already holds? -/
def modeMeets (e : List Byte) (c : Bool) (m : OscFeature) : Bool :=
  let h := if c then apHyst e else 0
  bit m.quality qValid &&
    (match apForm e with
     | 0 => Fp.lt32 m.zeta (Fp.add32 (apTh e 0) h) && Fp.le32 (apTh e 1) m.amp
     | 1 => Fp.le32 (Fp.sub32 (apTh e 0) h) m.amp
     | _ => Fp.le32 (Fp.sub32 (apTh e 0) h) m.f && Fp.le32 m.f (Fp.add32 (apTh e 1) h) && Fp.le32 (apTh e 2) m.amp)

/-- A TRACKER form on a feature record; `bad`: the record failed its check twice, so its features are absent. -/
def trackerForm (e : List Byte) (r : OscRecord) (c bad : Bool) : FormResult :=
  let ms := if bad then [] else (apModes e).map (fun i => r.modes.getD i {})
  if apForm e = 3 then ⟨!bad && r.st == 3, false, 0, 0⟩
  else
    let first := ms.headD {}
    ⟨ms.any (modeMeets e c), false, if apForm e = 0 then first.zeta else if apForm e = 1 then first.amp else first.f, first.quality⟩

/-- The size of a group. -/
def groupSize (g : SMap Nat) (n : Nat) : Nat := (g.filter (fun x => x.2 == n)).length

/-- An ISLE form (R243). -/
def State.isleForm (s : State) (e : List Byte) : Bool :=
  let src := apSource e
  match apForm e with
  | 0 => decide (1 < s.isle.g)
  | 1 => (s.tie (src % 256)).split
  | 2 => s.groupOf (src % 64) != s.groupOf (bits src 13 8)
  | 3 =>
    let g := s.isle.groups
    let home := s.groupOf (isHome s.isle.body)
    let n := groupSize g home
    decide (1 < s.isle.g) && g.any (fun x => decide (n < groupSize g x.2) || (groupSize g x.2 == n && decide (x.2 < home)))
  | _ => s.isSet F.ISLE_STATUS_SC_PERMIT && (match s.isle.sc with | some c => c.point == src % 256 | none => false)

/-- A COMBINE form over the members' raised states in the lane. -/
def combineForm (e : List Byte) (l : LaneSt) : Bool :=
  let ms := (apMembers e).map (fun a => (l.point a).raised)
  let n := (ms.filter id).length
  match apForm e with
  | 0 => decide (1 ≤ n)
  | 1 => n == ms.length && !ms.isEmpty
  | _ => decide (apSource e % 16 ≤ n)

/-! One evaluation (R256, R257). -/

/-- Is the point evaluated at this event (R253)? -/
def State.evaluated (s : State) (e : List Byte) : Bool := if apKind e = 1 then (s.tracker (apSource e % 4096)).fresh && s.domain pdAna == 0 else true

/-- The features of a point in a lane: what its form gives and the point with what the form keeps (R254 to R256, R259). -/
def State.formOf (s : State) (i l tag : Nat) (e : List Byte) (lane : LaneSt) (checks : Checks) : State × FormResult × PointSt :=
  let ap := apNumber e
  let p := lane.point ap
  let f := if apKind e = 4 then 0 else checks.fails 9 (1024 * i + ap)
  let r := s.checkedRead f 9 (pdLaneA + i) R.VOTE_CHECK_RETRY R.VOTE_CHECK_FAIL E.VOTE_CHECK_RETRY E.VOTE_CHECK_FAIL i I.VOTE_CHECK_FAIL
    (leBytes 1 i ++ leBytes 8 tag)
  let s := r.1
  let lost := !r.2 || (s.domain pdAna != 0 && apKind e != 4)
  if apKind e = 0 then
    let v := if lost then (absentWord, setIf (!r.2) (qAbsentFor rFault) qCheckFail) else s.anaSlot l tag (apSource e % 2 ^ 17)
    let w := threadForm e (s.rate l) v.1 v.2 p
    (s, w.1, w.2)
  else if apKind e = 1 then (s, trackerForm e (s.trackerRecord (apSource e % 4096)) p.c lost, p)
  else if apKind e = 2 then (s, ⟨if lost then p.c else s.isleForm e, false, 0, 0⟩, p)
  else if apKind e = 3 then
    let x := s.flow (bits (apSource e) 10 0)
    let q := if lost then qAbsentFor rFault else x.quality
    let gone : Bool := bit q qAbsent || (q &&& apQmask e) != 0
    (s, ⟨if gone then p.c else bit x.flags (bits (apSource e) 15 11), gone, 0, q⟩, p)
  else (s, ⟨combineForm e lane, false, 0, 0⟩, p)

/-- R257: one evaluation of a point. `flip`: the lane's own state is upset, its condition comes out the other way. -/
def pointStep (e : List Byte) (p : PointSt) (f : FormResult) (flip : Bool) (tag : Nat) : PointSt :=
  let abs := if f.absent then min (p.absRun + 1) 255 else 0
  let c := if f.absent then
      (match apAction e with
       | 0 => p.c || (decide (0 < apLimit e) && decide (apLimit e ≤ abs))
       | 1 => true
       | _ => false)
    else f.c
  let c := if flip then !c else c
  let on := if c then min (p.onRun + 1) 255 else 0
  let off := if c then 0 else min (p.offRun + 1) 255
  let p := { p with c := c, onRun := on, offRun := off, absRun := abs, absent := f.absent }
  if !p.raised ∧ apOn e ≤ on then { p with raised := true, latched := apFlag e 1, tag := tag }
  else if p.raised ∧ !p.latched ∧ apOff e ≤ off then { p with raised := false, tag := tag }
  else p

/-- What a lane decided of one point: AP, raised before and after, VALUE, QUALITY. -/
structure Decision where
  ap : Nat
  was : Bool
  is : Bool
  value : Nat
  quality : Nat
  deriving DecidableEq, Repr

def State.setLane (s : State) (i : Nat) (x : LaneSt) : State := s.setVote (s.vote.setLane i x)

/-- A lane evaluates the points of a lattice, in increasing AP order. -/
def State.laneEval (s : State) (i l tag : Nat) (es : List (List Byte)) (checks : Checks) (upsets : List (Nat × Nat)) (gap : Bool) :
    State × List Decision :=
  es.foldl (fun (a : State × List Decision) e =>
    let s := a.1
    if !s.evaluated e then a
    else
      let ap := apNumber e
      let lane := s.vote.lane i
      let lane := if gap then { lane with points := smPut lane.points ap { lane.point ap with prev := none } } else lane
      let f := s.formOf i l tag e lane checks
      let p := pointStep e f.2.2 f.2.1 (upsets.contains (i, ap)) tag
      let s := f.1
      (s.setLane i { s.vote.lane i with points := smPut (s.vote.lane i).points ap p },
        a.2 ++ [⟨ap, (lane.point ap).raised, p.raised, f.2.1.value, f.2.1.quality⟩])) (s, [])

/-! Signatures and re-syncs (R260). -/

/-- A lane's signature over a lattice's point states and its drive bits (log 28). -/
def laneSignature (es : List (List Byte)) (l : LaneSt) (drive : Nat) : Nat :=
  crc32c ones32 (es.flatMap (fun e =>
    let p := l.point (apNumber e)
    leBytes 2 (apNumber e) ++ leBytes 1 ((if p.raised then 1 else 0) + (if p.latched then 2 else 0) + (if p.c then 4 else 0)) ++
      leBytes 1 p.onRun ++ leBytes 1 p.offRun ++ leBytes 1 p.absRun) ++ leBytes 2 drive)

/-- The points of a lattice are overwritten from another lane. -/
def copyPoints (es : List (List Byte)) (from' goal : LaneSt) : LaneSt :=
  { goal with points := es.foldl (fun m e => smPut m (apNumber e) (from'.point (apNumber e))) goal.points }

/-- Before evaluation an ODD lane, and one to be re-synced, take the lattice's points from the majority. The answer lists the lanes copied. -/
def State.resyncLanes (s : State) (l : Nat) (es : List (List Byte)) : State × List Nat :=
  s.lanes.foldl (fun (a : State × List Nat) i =>
    let s := a.1
    let x := s.vote.lane i
    let from' := match smFind x.odd l with
      | some j => some j
      | none => if x.forced.contains l then s.lanes.find? (fun j => j != i && !(s.vote.lane j).forced.contains l && (smFind (s.vote.lane j).odd l).isNone) else none
    match from' with
    | none => a
    | some j => (s.setLane i { copyPoints es (s.vote.lane j) x with forced := x.forced.filter (fun k => k != l) }, a.2 ++ [i])) (s, [])

/-- A lane's signature differed: ODD, or its re-sync failed; the second failure is lasting. -/
def State.laneDiffers (s : State) (i l tag from' : Nat) (copied : Bool) : State :=
  let x := s.vote.lane i
  let s := s.putFld (laneFld i) 1
  let s := (s.count R.VOTE_ODD).raise I.VOTE_ODD
  if !copied then s.setLane i { x with odd := smPut x.odd l from', fails := smPut x.fails l 0 }
  else
    let n := smGet 0 x.fails l + 1
    let s := s.count R.VOTE_RESYNC_FAIL
    if n < 2 then s.setLane i { x with odd := smPut x.odd l from', fails := smPut x.fails l n }
    else
      let s := s.setLane i { x with odd := [], fails := [] }
      let s := s.event E.VOTE_LANE_FENCED i (leBytes 1 i ++ leBytes 1 l ++ leBytes 8 tag)
      s.lasting fcLane (element (pdLaneA + i) wholeDomain)

/-- A re-sync succeeded: the fault was transient. -/
def State.laneAgrees (s : State) (i l tag : Nat) (copied : Bool) : State :=
  if !copied then s
  else
    let x := s.vote.lane i
    let x := { x with odd := smDel x.odd l, fails := smDel x.fails l }
    let s := s.setLane i x
    let s := if x.odd.isEmpty ∧ s.laneState i = 1 then s.putFld (laneFld i) 0 else s
    let s := s.count R.VOTE_RESYNC_OK
    let s := s.event E.VOTE_LANE_RESYNC i (leBytes 1 i ++ leBytes 1 l ++ leBytes 8 tag)
    s.transient fcLane (element (pdLaneA + i) wholeDomain)

/-- No majority exists. -/
def State.noMajority (s : State) : State :=
  (s.event E.VOTE_LANE_NO_MAJORITY noSource s.signatures).lasting fcNoMajority (element pdLaneA wholeDomain)

/-- The signatures are compared. -/
def State.compareLanes (s : State) (l tag : Nat) (es : List (List Byte)) (copied : List Nat) : State :=
  let all := alarmEntries (s.cfg secAlarm)
  let sig (i : Nat) : Nat := laneSignature es (s.vote.lane i) (s.driveOf all i)
  let regs := [R.VOTE_SIG_A, R.VOTE_SIG_B, R.VOTE_SIG_C]
  let lanes := s.lanes
  let s' := lanes.foldl (fun s i => s.putReg (regs.getD i 0) (sig i)) s
  let agree (i : Nat) (s : State) : State := s.laneAgrees i l tag (copied.contains i)
  let differ (i j : Nat) (s : State) : State := s.laneDiffers i l tag j (copied.contains i)
  match lanes with
  | [a, b, c] =>
    if sig a = sig b ∧ sig b = sig c then agree c (agree b (agree a s'))
    else if sig a = sig b then differ c a (agree b (agree a s'))
    else if sig a = sig c then differ b a (agree c (agree a s'))
    else if sig b = sig c then differ a b (agree c (agree b s'))
    else s'.noMajority
  | [a, b] => if sig a = sig b then agree b (agree a s') else s'.noMajority
  | _ => s'

/-! Transitions (R266, R267). -/

/-- `VOTE_RAISEDn` and `VOTE_LATCHEDn` follow the majority of a point. -/
def State.showPoint (s : State) (ap : Nat) : State :=
  let put (a : Nat) (v : Bool) (s : State) : State := s.putReg a (if v then setBit (s.regN a) (ap % 32) else clrBit (s.regN a) (ap % 32))
  put (R.VOTE_LATCHEDn (ap / 32)) (s.majority (fun l => (l.point ap).latched)) (put (R.VOTE_RAISEDn (ap / 32)) (s.majority (fun l => (l.point ap).raised)) s)

/-- A transition reaches the ledger, the queues, capture and the partner. `log`, `evt`: the entry's LOG and EVENT. -/
def State.transition (s : State) (l tag ap : Nat) (up log evt : Bool) (lanes value quality lag : Nat) : State :=
  let s := s.showPoint ap
  let s := if up then (s.count R.VOTE_RAISES).raise I.VOTE_RAISE else (s.count R.VOTE_CLEARS).raise I.VOTE_CLEAR
  let s := if log then s.event (if up then E.VOTE_ALARM_RAISE else E.VOTE_ALARM_CLEAR) ap (leBytes 2 ap ++ leBytes 8 tag ++ leBytes 4 value) else s
  let s := if !(evt || s.onTest) then s
    else
      let q := if s.onTest then s.fld F.VOTE_QUEUES_TEST_QUEUE else s.fld F.VOTE_QUEUES_EVENT_QUEUE
      let pkt := leBytes 8 tag ++ leBytes 2 ap ++ leBytes 1 (if up then 1 else 0) ++ leBytes 1 lanes ++ leBytes 4 value ++ leBytes 2 quality ++
        leBytes 2 0 ++ leBytes 4 (sat32 lag) ++ leBytes 8 s.now
      let r := s.commit q pkt
      if r.2 then r.1.endBurst E.VOTE_EVENT_QFULL noSource
      else ((r.1.count R.VOTE_EVENT_QFULL).burst E.VOTE_EVENT_QFULL noSource [] 1).raise I.VOTE_EVENT_QFULL
  let s := s.pushKind 2 (fun e => if bits e 13 4 = ap then some up else none) (s.instant l tag)
  if s.majority (fun x => (x.point ap).latched) && up then s.mirrorSend 2 (leBytes 2 ap ++ leBytes 1 1 ++ leBytes 8 tag) else s

/-! GOOSE publishing (R268 to R270). -/

/-- Fields of a control-block entry (R268). -/
def gbNumber (e : List Byte) : Nat := leAt e 0 1 % 32
def gbEnabled (e : List Byte) : Bool := bit (leAt e 1 1) 0
def gbLayout (e : List Byte) : Nat := leAt e 2 1
def gbMembers (e : List Byte) : Nat := if gbLayout e = 0 then 9 else leAt e 3 1
def gbTmin (e : List Byte) : Nat := leAt e 0x14 2
def gbTmax (e : List Byte) : Nat := leAt e 0x16 2
def gbText (e : List Byte) (off : Nat) : List Byte := (slice e off 64).takeWhile (fun b => b != 0)

/-- IEC 61850 quality as 16 bits, the first bit highest: questionable with oldData, invalid, test. -/
abbrev iqOld : Nat := 0xC100
abbrev iqQuestionable : Nat := 0xC000
abbrev iqInvalid : Nat := 0x4000
abbrev iqTest : Nat := 0x0010

/-- The members of a block now: value, quality, TAI ns of the deciding slot. -/
def State.gooseMembers (s : State) (l : Nat) (es : List (List Byte)) (e : List Byte) : List (Bool × Nat × Nat) :=
  let t := if s.onTest then iqTest else 0
  let absent (ap : Nat) : Bool := (s.leadLane.point ap).absent
  if gbLayout e = 0 then
    (List.range 9).map (fun n =>
      if n = 8 then (s.isSet F.VOTE_STATUS_HEALTHY, t, 0)
      else
        let old := es.any (fun p => apEnabled p && bit (apPins p) n && absent (apNumber p))
        (bit (s.fld F.VOTE_STATUS_ALARM) n, t + (if old then iqOld else 0), 0))
  else
    (List.range (gbMembers e)).map (fun n =>
      match es.find? (fun p => apEnabled p && apBlock p == some (gbNumber e) && apMember p == n) with
      | none => (false, t + iqInvalid, 0)
      | some p =>
        let ap := apNumber p
        (s.majority (fun x => (x.point ap).raised), t + (if absent ap then iqOld else 0), s.instant (if apLattice p = l then l else apLattice p) (s.leadLane.point ap).tag))

/-- A minimal big-endian integer of BER. -/
def berNat (n : Nat) : List Byte := if n < 128 then beBytes 1 n else if n < 2 ^ 15 then beBytes 2 n else if n < 2 ^ 23 then beBytes 3 n else if n < 2 ^ 31 then beBytes 4 n else beBytes 5 n

/-- A UtcTime of 8 bytes: ClockNotSynchronized follows SYNC_ERR; the other quality bits are open (log 5). -/
def State.gooseTime (s : State) (ns : Nat) : List Byte :=
  let free := s.free32
  beBytes 4 (s.socOf ns) ++ beBytes 3 ((2 ^ 24 * (ns % 1000000000)) / 1000000000) ++
    beBytes 1 ((if s.syncErr then 0x20 else 0) + free % 32 + free / 32 % 2 * 128)

/-- The goosePdu of IEC 61850-8-1 (R269, log 17). -/
def State.goosePdu (s : State) (e : List Byte) (x : GooseTx) (tal : Nat) : List Byte :=
  let q (v : Nat) : Nat := if s.mode = 10 then v ||| iqQuestionable else v
  let item (m : Bool × Nat × Nat) : List Byte :=
    berPut 0x83 (beBytes 1 (if m.1 then 1 else 0)) ++ berPut 0x84 (beBytes 1 3 ++ beBytes 2 (q m.2.1)) ++
      (if gbLayout e = 2 then berPut 0x91 (s.gooseTime m.2.2) else [])
  let per := if gbLayout e = 2 then 3 else 2
  berPut 0x61 (berPut 0x80 (gbText e 0x20) ++ berPut 0x81 (berNat tal) ++ berPut 0x82 (gbText e 0x60) ++ berPut 0x83 (gbText e 0xA0) ++
    berPut 0x84 (s.gooseTime x.changed) ++ berPut 0x85 (berNat x.stNum) ++ berPut 0x86 (berNat x.sqNum) ++
    berPut 0x87 (beBytes 1 (if s.onTest then 1 else 0)) ++ berPut 0x88 (berNat (leAt e 0x10 4)) ++ berPut 0x89 (beBytes 1 0) ++
    berPut 0x8A (berNat (per * x.members.length)) ++ berPut 0xAB (x.members.flatMap item))

/-- Frames are sent by the holder in M3 to M10 (R270). -/
def State.goosePublishes (s : State) : Bool := s.holds && decide (3 ≤ s.mode ∧ s.mode ≤ 10) && s.target != 11

/-- A block's frame leaves its ports. -/
def State.sendGoose (s : State) (e : List Byte) : State :=
  match smFind s.vote.goose (gbNumber e) with
  | none => s
  | some x =>
    if !s.goosePublishes then s
    else
      let pdu := s.goosePdu e x (2 * x.interval)
      let body := beBytes 2 (leAt e 0xE 2) ++ beBytes 2 (8 + pdu.length) ++ beBytes 4 0 ++ pdu
      let tag := if bit (leAt e 1 1) 1 then beBytes 2 0x8100 ++ beBytes 2 (2 ^ 13 * (leAt e 5 1 % 8) + leAt e 6 2 % 4096) else []
      let s := (s.draw).count R.VOTE_GOOSE_SENT
      (List.range 8).foldl (fun s p =>
        if bit (leAt e 4 1) p then s.send p true (slice e 8 6 ++ beBytes 6 (s.portMac p) ++ tag ++ beBytes 2 0x88B8 ++ body) else s) s

def State.putGoose (s : State) (n : Nat) (x : GooseTx) : State := s.setVote { s.vote with goose := smPut s.vote.goose n x }

/-- After the decisions of a slot: a block any member of which changed sends one frame with stNum advanced (R270). -/
def State.gooseSlot (s : State) (b : List Byte) (l tag : Nat) : State :=
  if s.mode = 10 ∨ s.target = 10 ∨ s.target = 11 then s
  else
    let es := alarmEntries b
    ((gooseEntries b).filter gbEnabled).foldl (fun s e =>
      let n := gbNumber e
      let ms := s.gooseMembers l es e
      let fresh (st : Nat) : GooseTx := {
        stNum := st, sqNum := 0, members := ms, changed := s.instant l tag
        next := some (s.bases.mono + 1000000 * (gbTmin e)), interval := gbTmin e }
      match smFind s.vote.goose n with
      | none => ((s.putGoose n (fresh 1)).mirrorSend 3 (leBytes 1 n ++ leBytes 4 1)).sendGoose e
      | some x =>
        if x.members.map (fun m => (m.1, m.2.1)) = ms.map (fun m => (m.1, m.2.1)) then s
        else
          let st := (x.stNum + 1) % 2 ^ 32
          ((s.putGoose n (fresh st)).mirrorSend 3 (leBytes 1 n ++ leBytes 4 st)).sendGoose e) s

/-! A card or patch replaces the ALARM section (R271). -/

/-- The points of a lattice under a new section. -/
def State.alarmConfig (s : State) (b : List Byte) (l tag : Nat) : State :=
  let old := smGet [] s.vote.bodies l
  let s := if smGet [] s.vote.bodies 4 = b then s
    else
      let was := gooseEntries (smGet [] s.vote.bodies 4)
      let now := gooseEntries b
      s.setVote { s.vote with
        bodies := smPut s.vote.bodies 4 b
        goose := s.vote.goose.filter (fun g => (was.find? (fun e => gbNumber e == g.1)) == (now.find? (fun e => gbNumber e == g.1))) }
  if old = b then s
  else
    let on (x : List Byte) : List (List Byte) := (alarmEntries x).filter (fun e => apEnabled e && apLattice e == l)
    let both := (on b).filter (fun e => (on old).any (fun o => apNumber o == apNumber e))
    let gone := (on old).filter (fun o => !(alarmEntries b).any (fun e => apEnabled e && apNumber e == apNumber o))
    let clears := gone.filter (fun o => s.majority (fun x => (x.point (apNumber o)).raised && !(x.point (apNumber o)).latched))
    let s := s.setVote { s.vote with bodies := smPut s.vote.bodies l b }
    let s := [0, 1, 2].foldl (fun s i =>
      let x := s.vote.lane i
      let pts := both.foldl (fun m e => smMod {} m (apNumber e) (fun p => { p with onRun := 0, offRun := 0, absRun := 0, prev := none, raw := none })) x.points
      let pts := pts.filter (fun p => !gone.any (fun o => apNumber o == p.1) || p.2.latched)
      s.setLane i { x with points := pts }) s
    clears.foldl (fun s o => s.transition l tag (apNumber o) false (apFlag o 2) (apFlag o 3) (bitsOf 3 (fun i => s.lanes.contains i)) 0 0 0) s

/-! A slot in the lanes (R253 to R267). -/

/-- The lanes take a slot: configuration, re-syncs, evaluation, signatures, pins, GOOSE, transitions. -/
def State.voteSlot (s : State) (l tag : Nat) (checks : Checks) (upsets : List (Nat × Nat)) : State :=
  let inst := s.instant l tag
  let b := s.cfgAt secAlarm inst
  let s := s.alarmConfig b l tag
  let es := (alarmEntries b).filter (fun e => apEnabled e && apLattice e == l)
  let n := slotNumber (s.rate l) tag
  let gap := match smFind s.vote.last l with | some m => decide (m + 1 ≠ n) | none => false
  let s := (s.setVote { s.vote with last := smPut s.vote.last l n }).count R.VOTE_EVALS
  let c := s.resyncLanes l es
  let s := c.1
  let lanes := s.lanes
  let r := lanes.foldl (fun (a : State × List (Nat × List Decision)) i =>
    let x := a.1.laneEval i l tag es checks upsets gap
    (x.1, a.2 ++ [(i, x.2)])) (s, [])
  let s := r.1.compareLanes l tag es c.2
  let s := if c.2.isEmpty then s else (es.map apNumber).foldl State.showPoint s
  let s := s.updatePins
  let lag := s.now - ((((s.lat l).slot tag).bind (·.closed)).getD s.now)
  let s := s.putReg (R.VOTE_Ln_LAG l) (sat32 lag)
  let s := s.putReg (R.VOTE_Ln_LAG_MAX l) (max (s.regN (R.VOTE_Ln_LAG_MAX l)) (sat32 lag))
  let s := s.gooseSlot b l tag
  let found (i ap : Nat) : Option Decision := ((r.2.find? (fun x => x.1 == i)).map (·.2)).bind (fun ds => ds.find? (fun d => d.ap == ap))
  es.foldl (fun s e =>
    let ap := apNumber e
    let votes (up : Bool) : List Nat := lanes.filter (fun i => match found i ap with | some d => d.was == !up && d.is == up | none => false)
    let go (up : Bool) (s : State) : State :=
      let v := votes up
      if v.length < 2 then s
      else
        let d := (found (v.headD 0) ap).getD ⟨ap, false, false, 0, 0⟩
        s.transition l tag ap up (apFlag e 2) (apFlag e 3) (bitsOf 3 (fun i => v.contains i)) d.value d.quality lag
    go false (go true s)) s

/-! CLOSE_PIPELINE (R196). -/

/-- Capture's ISLE inputs follow the ISLANDS condition (R367). -/
def State.isleInputs (s : State) (l tag : Nat) : State :=
  let b := s.isle.body
  if b.isEmpty ∨ isLattice b ≠ l then s else s.pushKind 5 (fun _ => some (decide (1 < s.isle.g))) (s.instant l tag)

/-- The slot-close event at the front goes through ANA and the lanes; then its slot may be released to its consumers. -/
def State.closePipeline (s : State) (checks : Checks) (upsets : List (Nat × Nat)) : State :=
  match s.loom.closeQ with
  | [] => s
  | (l, tag) :: r =>
    let s := s.setLoom { s.loom with closeQ := r }
    let s := s.deriveSlot l tag checks
    let s := if s.domain pdAna ≠ 0 then s
      else ((((s.oscSlot l tag checks).isleSlot l tag checks).energySlot l tag checks).isleInputs l tag)
    let s := s.voteSlot l tag checks upsets
    let s := s.modSlot l tag (fun y => { y with piped := true, replaced := [] })
    (s.showLattice l).loomRun

end Sys2Proof.Machine
end

