-- ==== Sys2Proof/Machine/Vote.lean ====
section
/-!
DEFINITION. Sys2Proof/Machine/Vote.lean: the close pipeline and the alarm commands (R196, R258, R264, R270, R272, R274).
-/

namespace Sys2Proof.Machine

/-- CLOSE_PIPELINE (R196): the slot-close event at the front goes through DERIVE, OSC, ISLE, ENERGY and the lanes. -/
def execClosePipeline (t : Nat) (checks : List (Nat × Nat × Nat)) (upsets : List (Nat × Nat)) (s : State) : Host.Outcome State Fault Refusal :=
  run t (fun s => s.closePipeline checks upsets) s

/-- GOOSE_REPEAT (R270): a block's repetition time has come; the interval doubles up to T_MAX. -/
def State.gooseRepeat (s : State) (n : Nat) : State :=
  match (gooseEntries (s.cfg secAlarm)).find? (fun e => gbNumber e == n && gbEnabled e), smFind s.vote.goose n with
  | some e, some x =>
    match x.next with
    | some d =>
      if s.bases.mono < d then s
      else
        let i := min (2 * x.interval) (gbTmax e)
        (s.putGoose n { x with sqNum := if s.goosePublishes then (x.sqNum + 1) % 2 ^ 32 else x.sqNum
                               next := some (s.bases.mono + 1000000 * i), interval := i }).sendGoose e
    | none => s
  | _, _ => s

def execGooseRepeat (t cb : Nat) (s : State) : Host.Outcome State Fault Refusal := run t (·.gooseRepeat cb) s

/-- The majority of the lanes' drive bits (R261). -/
def State.majorityDrive (s : State) : Nat := vote3 s.vote.laneA.drive s.vote.laneB.drive s.vote.laneC.drive

/-- PIN_MISMATCH (R264): a ball has read `high` for more than 10 µs against the majority drive. -/
def State.pinMismatch (s : State) (pin : Nat) (high : Bool) : State :=
  let drive := bit s.majorityDrive pin
  let wrong : Bool := if drive then high else s.holds && !high
  if 8 < pin ∨ s.lanes.length < 2 then s
  else
    let v := s.regN R.VOTE_PIN_SENSE
    let s := s.putReg R.VOTE_PIN_SENSE (if high then setBit v pin else clrBit v pin)
    if !wrong then s
    else
      ((s.count R.VOTE_PIN_MISMATCH).raise I.VOTE_PIN_MISMATCH).event E.VOTE_PIN_MISMATCH pin
        (leBytes 1 pin ++ leBytes 1 (if drive then 1 else 0) ++ leBytes 1 (if high then 1 else 0))

def execPinMismatch (t pin : Nat) (high : Bool) (s : State) : Host.Outcome State Fault Refusal := run t (·.pinMismatch pin high) s

/-- POINT_READ (R274). -/
def cmdPointRead (s : State) : CmdResult :=
  let ap := s.arg 9 0
  if 1023 < ap then refuse s stBadArg
  else
    let p := s.leadLane.point ap
    { state := s
      r0 := (if p.raised then 1 else 0) + (if p.latched then 2 else 0) + (if p.c then 4 else 0) + (if p.absent then 8 else 0) +
        2 ^ 8 * p.onRun + 2 ^ 16 * p.offRun + 2 ^ 24 * p.absRun
      r1 := p.tag % 2 ^ 32 }

def execPointRead (t : Nat) (path : Path) (s : State) : Host.Outcome State Fault Refusal := command t 9 1 path cmdPointRead s

/-- The entry of a point, enabled or not. -/
def State.pointEntry (s : State) (ap : Nat) : Option (List Byte) := (alarmEntries (s.cfg secAlarm)).find? (fun e => apNumber e == ap)

/-- May a latch be reset (R258)? A point a card or patch disabled has no condition left to wait for (R271). -/
def State.resettable (s : State) (ap : Nat) : Bool :=
  let p := s.leadLane.point ap
  p.latched &&
    (match s.alarmEntry ap with
     | some e => decide (apOff e ≤ p.offRun)
     | none => true)

/-- A latch is cleared in every lane (R258): recorded with its requester, mirrored; a disabled point clears at once (R271). -/
def State.resetLatch (s : State) (path : Path) (ap : Nat) : State :=
  let gone := (s.alarmEntry ap).isNone
  let l := match s.pointEntry ap with | some e => apLattice e | none => 0
  let tag := (s.leadLane.point ap).tag
  let s := [0, 1, 2].foldl (fun s i =>
    let x := s.vote.lane i
    s.setLane i { x with points := if gone then smDel x.points ap else smPut x.points ap { x.point ap with latched := false } }) s
  let s := s.event E.VOTE_LATCH_RESET ap (leBytes 2 ap ++ leBytes 1 path.code)
  let s := s.mirrorSend 2 (leBytes 2 ap ++ leBytes 1 0 ++ leBytes 8 tag)
  if gone then
    let flags := match s.pointEntry ap with | some e => (apFlag e 2, apFlag e 3) | none => (true, true)
    (s.transition l tag ap false flags.1 flags.2 (bitsOf 3 (fun i => s.lanes.contains i)) 0 0 0).updatePins
  else s.showPoint ap

/-- RESET_LATCH (R258, R273); a module that does not hold leaves it to the holder (R309). -/
def cmdResetLatch (path : Path) (s : State) : CmdResult :=
  let ap := s.arg 9 0
  if s.mode < 3 ∨ 9 < s.mode ∨ (!s.holds && s.isSet F.PAIR_STATUS_MIRROR_UP) then refuse s stIllegal
  else if ap = 0xFFFF then
    let l := (s.leadLane.points.map (·.1)).filter s.resettable
    { state := l.foldl (fun s a => s.resetLatch path a) s, r0 := l.length }
  else if 1023 < ap then refuse s stBadArg
  else if !s.resettable ap then refuse s stIllegal
  else ok (s.resetLatch path ap)

def execResetLatch (t : Nat) (path : Path) (s : State) : Host.Outcome State Fault Refusal := command t 9 2 path (cmdResetLatch path) s

/-- PIN_TEST (R272). -/
def cmdPinTest (s : State) : CmdResult :=
  let pin := s.arg 9 0
  let ms := s.arg 9 1
  if s.vote.test.isSome then refuse s stBusy
  else if s.mode ≠ 2 ∨ s.pairMode ≠ 0 then refuse s stIllegal
  else if 8 < pin ∨ ms = 0 ∨ 10000 < ms then refuse s stBadArg
  else
    let s := s.setVote { s.vote with test := some (pin, s.bases.mono + 1000000 * ms) }
    ok ((s.event E.VOTE_PIN_TEST pin (leBytes 1 pin ++ leBytes 4 ms)).updatePins)

def execPinTest (t : Nat) (path : Path) (s : State) : Host.Outcome State Fault Refusal := command t 9 3 path cmdPinTest s

/-- A PIN_TEST ends: its time is over, or a mode is requested (R272). -/
def State.endPinTest (s : State) : State :=
  if s.vote.test.isNone then s else (s.setVote { s.vote with test := none }).updatePins

/-- PIN_TEST_END (R272). -/
def State.pinTestEnd (s : State) : State :=
  match s.vote.test with
  | some (_, e) => if s.bases.mono < e then s else s.endPinTest
  | none => s

def execPinTestEnd (t : Nat) (s : State) : Host.Outcome State Fault Refusal := run t State.pinTestEnd s

/-- LANE_RESYNC (R274): the lane is copied from the majority before the next evaluation of each lattice. -/
def cmdLaneResync (s : State) : CmdResult :=
  let i := s.arg 9 0
  if s.mode ≠ 9 then refuse s stIllegal
  else if 2 < i then refuse s stBadArg
  else ok (s.setLane i { s.vote.lane i with forced := [0, 1, 2, 3] })

def execLaneResync (t : Nat) (path : Path) (s : State) : Host.Outcome State Fault Refusal := command t 9 4 path cmdLaneResync s

end Sys2Proof.Machine
end

