-- ==== Sys2Proof/Machine/Pair.lean ====
section
/-!
DEFINITION. Sys2Proof/Machine/Pair.lean: the claim lines, the interlock line and the mirror link's messages (R294 to R310).
-/

namespace Sys2Proof.Machine

/-! The partner's claim (R297, R298, R309). -/

/-- The edge of the partner's strobe is the last on which it was seen to hold, where its claim wins. -/
def State.noteHolder (s : State) : State :=
  if s.partnerWins s.holds then s.setPair { s.pair with lastHeld := s.now } else s

/-- The partner became live: HOLD_ALONE ends (R298). -/
def State.partnerFound (s : State) (claim : Nat) : State :=
  ((s.putFld F.PAIR_STATUS_HOLD_ALONE 0).event E.PAIR_PARTNER_FOUND noSource (leBytes 1 claim)).raise I.PAIR_PARTNER_FOUND

/-- PARTNER_CLAIM: a lane latches `CLAIM_I[3:0]` on an edge of `CLAIM_STB_I`. -/
def State.partnerClaimEdge (s : State) (lane claim : Nat) : State :=
  if 2 < lane then s
  else
    let was := s.partnerLive
    let s := s.setPair (s.pair.setView lane { claim := claim % 16, edge := some s.bases.mono })
    let s := if s.partnerLive && !was then s.partnerFound (claim % 16) else s
    s.noteHolder.updateHolding

def execPartnerClaim (t lane claim : Nat) (s : State) : Host.Outcome State Fault Refusal := run t (·.partnerClaimEdge lane claim) s

/-- The lanes whose last edge is more than 3 µs old. -/
def State.staleLanes (s : State) : List Nat := [0, 1, 2].filter (fun i => (s.pair.view i).edge.isSome && !s.liveIn i)

/-- PARTNER_LOST: no edge for more than 3 µs; the partner's claim is taken as 0, and YIELD ends (R302). -/
def State.partnerLost (s : State) : State :=
  let lost := s.staleLanes
  if lost.isEmpty then s
  else
    let was := s.isSet F.PAIR_STATUS_PARTNER_LIVE
    let claim := (s.pair.view (lost.headD 0)).claim
    let s := lost.foldl (fun s i => s.setPair (s.pair.setView i { s.pair.view i with edge := none })) s
    let s := if was && !s.partnerLive then
        let s := (s.count R.PAIR_STROBE_STALE).event E.PAIR_PARTNER_LOST noSource (leBytes 1 claim)
        let s := s.raise I.PAIR_PARTNER_LOST
        (s.putFld F.PAIR_STATUS_YIELD 0).setPair { s.pair with yieldWait := none }
      else s
    s.updateHolding

def execPartnerLost (t : Nat) (s : State) : Host.Outcome State Fault Refusal := run t State.partnerLost s

/-! The module's own claim (R296, R297). -/

/-- The strobe toggles and carries the claim driven; without pair mode 1 no claim is driven (R294). -/
def State.toggleStrobe (s : State) : State :=
  let b := !s.pair.strobe
  let s := s.setPair { s.pair with strobe := b }
  if s.scanned then s else s.emit (.claim (if s.pairMode = 1 then s.fld F.PAIR_CLAIM_STATE_OWN else 0) b)

/-- CLAIM_STROBE_EDGE: `CLAIM_STB_O` toggles in native claim mode; a fall of the claim goes out with the edge. -/
def State.claimStrobeEdge (s : State) : State :=
  if s.isSet F.PAIR_STATUS_CLAIM_MODE then s
  else if s.pairMode = 1 then s.strobeClaim.toggleStrobe.updateHolding
  else s.toggleStrobe

def execClaimStrobeEdge (t : Nat) (s : State) : Host.Outcome State Fault Refusal := run t State.claimStrobeEdge s

/-- CLAIM_RAISE: a raised value has held for RAISE_HOLD; it goes out on an edge of the strobe and enters the own comparison 1 µs
later. -/
def State.claimRaise (s : State) : State :=
  match s.pair.raised with
  | none => s
  | some (v, since) =>
    if s.pairMode ≠ 1 ∨ s.claim ≠ v ∨ s.bases.mono < since + 1000000 * (s.fld F.PAIR_DEGRADE_RAISE_HOLD) then s
    else
      let s := (s.driveClaim v 1).putFld F.PAIR_CLAIM_STATE_PENDING 0
      (s.setPair { s.pair with raised := none, cmpAt := some (s.bases.mono + 1000) }).toggleStrobe

def execClaimRaise (t : Nat) (s : State) : Host.Outcome State Fault Refusal := run t State.claimRaise s

/-- INTLK_PULL (R300): `INTLK_N` stands at `high`; a module that wants to hold pulls it once it has been high for 8 µs, or 10 µs with
`MODID` 0. The line's rise is the instant of a takeover (R308). -/
def State.intlkPull (s : State) (high : Bool) : State :=
  if s.pairMode ≠ 2 ∨ s.pair.pulled then s
  else if !high then
    let s := if s.fld F.PAIR_STATUS_PARTNER_KIND = 0 then s.putFld F.PAIR_STATUS_PARTNER_KIND 2 else s
    (s.setPair { s.pair with lineHigh := none }).updateHolding
  else
    match s.pair.lineHigh with
    | none => (s.setPair { s.pair with lineHigh := some s.bases.mono, lastHeld := s.now }).updateHolding
    | some h =>
      let wait := if s.isSet F.PAIR_STATUS_MODID then 8000 else 10000
      if s.claim = 0 ∨ s.bases.mono < h + wait then s.updateHolding
      else ((s.setPair { s.pair with pulled := true }).drive .intlk false).updateHolding

def execIntlkPull (t : Nat) (high : Bool) (s : State) : Host.Outcome State Fault Refusal := run t (·.intlkPull high) s

/-! HELLO (R295, R304). -/

/-- HELLO_SEND: every 100 ms while the link is up. -/
def execHelloSend (t : Nat) (s : State) : Host.Outcome State Fault Refusal :=
  run t (fun s => if s.bases.mono < s.pair.helloSent + 100000000 then s else s.sendHello) s

/-- A message arrives over the mirror link in cells of 96 bytes (R316, R330), which are freed at once. -/
def State.mirrorArrives (s : State) (content : List Byte) (f : State → State) : State :=
  if !s.mirrorReady then s
  else
    let n := s.mirrorLink % 4
    let parts := max 1 ((content.length + 95) / 96)
    let x := smGet {} s.slv.links n
    let x := { x with lastRx := s.bases.mono, rxNext := (x.rxNext + parts) % 65536, freed := (x.freed + parts) % 65536 }
    let s := (s.setSlv { s.slv with links := smPut s.slv.links n x }).count (R.SLV_LINKn_RX_CELLS n) parts
    f (s.count R.PAIR_MIRROR_RECEIVED)

/-- Equal `MODID` values: both modules claim 0 (R295). -/
def State.modidClash (s : State) (modid : Nat) : State :=
  if s.isSet F.PAIR_STATUS_MODID_CLASH ∨ modid ≠ s.fld F.PAIR_STATUS_MODID then s
  else
    let s := (s.putFld F.PAIR_STATUS_MODID_CLASH 1).event E.PAIR_MODID_CLASH noSource (leBytes 1 modid)
    (s.raise I.PAIR_MODID_CLASH).withdraw

/-- The two DRAFT_IDs are compared; a difference is recorded once (R304). -/
def State.draftCompare (s : State) (other : Nat) : State :=
  if other = s.draftId then s.putFld F.PAIR_STATUS_DRAFT_MISMATCH 0
  else if s.isSet F.PAIR_STATUS_DRAFT_MISMATCH then s
  else ((s.putFld F.PAIR_STATUS_DRAFT_MISMATCH 1).event E.PAIR_DRAFT_MISMATCH noSource (leBytes 8 other)).raise I.PAIR_DRAFT_MISMATCH

/-- HELLO: MODID, DRAFT_ID, pair mode, BASE, holding. -/
def State.hello (s : State) (c : List Byte) : State :=
  let s := s.setPair { s.pair with hello := some (leAt c 0 1, leAt c 1 8, leAt c 9 1, leAt c 10 1, leAt c 11 1 != 0) }
  let s := s.putFld F.PAIR_STATUS_PARTNER_KIND 1
  ((s.modidClash (leAt c 0 1)).draftCompare (leAt c 1 8)).mirrorUp

def execMirrorHello (t : Nat) (content : List Byte) (s : State) : Host.Outcome State Fault Refusal :=
  run t (fun s => s.mirrorArrives content (·.hello content)) s

/-! State messages (R305, R306). -/

/-- INTENT: the last slot tag per stream, kept by the module that does not hold. -/
def State.takeIntent (s : State) (c : List Byte) : State :=
  let n := leAt c 0 1
  let s := s.count R.PAIR_INTENTS_RECEIVED
  if s.holds ∨ 63 < n then s else s.putPair (R.PAIR_OSn_INTENT_LO n) (leAt c 1 8)

def execMirrorIntent (t : Nat) (content : List Byte) (s : State) : Host.Outcome State Fault Refusal :=
  run t (fun s => s.mirrorArrives content (·.takeIntent content)) s

/-- LATCH: a point latched at the holder is raised and latched in every lane; a clear reaches them as a change. -/
def State.takeLatch (s : State) (c : List Byte) : State :=
  let ap := leAt c 0 2
  let on := leAt c 2 1 != 0
  if 1023 < ap then s
  else
    let s := [0, 1, 2].foldl (fun s i =>
      let x := s.vote.lane i
      let p := x.point ap
      s.setLane i { x with points := smPut x.points ap { p with raised := on || p.raised, latched := on, tag := if on then leAt c 3 8 else p.tag } }) s
    (s.showPoint ap).updatePins

/-- GOOSE: the last stNum of a block. -/
def State.takeGoose (s : State) (c : List Byte) : State :=
  s.setPair { s.pair with mirror := { s.pair.mirror with goose := smPut s.pair.mirror.goose (leAt c 0 1) (leAt c 1 4) } }

/-- ENERGY: a flow point's accumulators with the last slot included. -/
def State.takeEnergy (s : State) (c : List Byte) : State :=
  let regs := (List.range 6).map (fun i => leAt c (10 + 12 * i) 12)
  s.setPair { s.pair with
    energyAt := some s.bases.mono
    mirror := { s.pair.mirror with energy := smPut s.pair.mirror.energy (leAt c 0 2) (leAt c 2 8, regs) } }

/-- LEDGER: the accession counter and the staged records above the written watermark. -/
def State.takeLedger (s : State) (c : List Byte) : State :=
  let m := s.pair.mirror
  let written := leAt c 6 6
  let kept := m.ledger.filter (fun r => decide (written < r.acc))
  let new := if c.length < 72 then [] else [LedRec.ofBytes (c.drop 12)]
  let kept := kept.filter (fun r => !new.any (fun n => n.acc == r.acc)) ++ new
  s.setPair { s.pair with mirror := { m with ledgerNext := leAt c 0 6, ledgerWritten := written, ledger := kept } }

/-- CKPT: the latest set of tracker checkpoints, which trackers that wait for one take (R225). -/
def State.takeCkpt (s : State) (c : List Byte) : State :=
  let set : SMap (List Byte) := (List.range (c.length / 256)).foldl (fun m i => smPut m (leAt c (256 * i) 2) (slice c (256 * i) 256)) []
  let s := s.setPair { s.pair with ckptAt := some s.bases.mono, mirror := { s.pair.mirror with ckpt := set } }
  (s.setOsc { s.osc with partAt := some s.bases.mono }).seedFromPartner

/-- Does a record of the region span a time already (R379)? -/
def State.spans (s : State) (r trig : Nat) : Bool :=
  let x := s.capReg r
  (match x.rec' with
   | some o =>
     let w := s.captWindow (s.capEntry r) x o
     decide (w.1 ≤ trig ∧ trig < w.2)
   | none => false) ||
  (match x.held.getLast? with
   | some h => decide (h.start ≤ trig ∧ trig < h.stop)
   | none => false)

/-- CAPT: arm, disarm and trigger are applied to the same region (R379). -/
def State.takeCapt (s : State) (c : List Byte) : State :=
  let r := leAt c 0 1
  let st := leAt c 1 1
  let trig := leAt c 10 8
  let x := s.capReg r
  if 15 < r ∨ !s.capturing ∨ !ceEnabled (s.capEntry r) then s
  else if st = 1 then
    (if 3 ≤ x.st ∧ x.st ≤ 5 then s.putCapt r { x with disarm := true }
     else if x.st = 2 ∨ x.st = 6 then s.disarmRegion r 2 else s)
  else if st = 2 then (if x.st = 1 ∨ x.st = 6 then (s.armRegion r 2).1 else s)
  else if 3 ≤ st ∧ st ≤ 5 then (if s.spans r trig then s else s.triggerRegion r trig 3 0xFF 0 0)
  else s

/-- Items of one size, one after the other. -/
def takeItems (f : State → List Byte → State) (size : Nat) (l : List Byte) : Nat → Nat → State → State
  | _, 0, s => s
  | off, n + 1, s => takeItems f size l (off + size) n (f s (slice l off size))

/-- FULL: every LATCH, GOOSE and CAPT item and the last INTENT of every stream. -/
def State.takeFull (s : State) (c : List Byte) : State :=
  let nl := leAt c 0 2
  let ng := leAt c 2 2
  let nc := leAt c 4 2
  let ni := leAt c 6 2
  let g := 8 + 11 * nl
  let k := g + 5 * ng
  let i := k + captItemSize * nc
  let s := takeItems State.takeLatch 11 c 8 nl s
  let s := takeItems State.takeGoose 5 c g ng s
  let s := takeItems State.takeCapt captItemSize c k nc s
  takeItems State.takeIntent intentItemSize c i ni s

/-- A state message is adopted while both DRAFT_IDs are equal, by the module that does not hold. -/
def State.adopt (s : State) (content : List Byte) (f : State → List Byte → State) : State :=
  s.mirrorArrives content (fun s => if s.adopts then f s content else s)

def execMirrorLatch (t : Nat) (content : List Byte) (s : State) : Host.Outcome State Fault Refusal := run t (·.adopt content State.takeLatch) s

def execMirrorGoose (t : Nat) (content : List Byte) (s : State) : Host.Outcome State Fault Refusal := run t (·.adopt content State.takeGoose) s

def execMirrorEnergy (t : Nat) (content : List Byte) (s : State) : Host.Outcome State Fault Refusal := run t (·.adopt content State.takeEnergy) s

def execMirrorLedger (t : Nat) (content : List Byte) (s : State) : Host.Outcome State Fault Refusal := run t (·.adopt content State.takeLedger) s

def execMirrorCkpt (t : Nat) (content : List Byte) (s : State) : Host.Outcome State Fault Refusal := run t (·.adopt content State.takeCkpt) s

def execMirrorCapt (t : Nat) (content : List Byte) (s : State) : Host.Outcome State Fault Refusal := run t (·.adopt content State.takeCapt) s

def execMirrorFull (t : Nat) (content : List Byte) (s : State) : Host.Outcome State Fault Refusal := run t (·.adopt content State.takeFull) s

/-- CKPT_MIRROR_SEND: every 1 s the holder sends its tracker checkpoints (R225, R305). -/
def State.ckptMirrorSend (s : State) : State :=
  let last := s.pair.ckptAt.getD 0
  if !s.holds ∨ !s.isSet F.PAIR_STATUS_MIRROR_UP ∨ s.domain pdAna ≠ 0 ∨ s.bases.mono < last + 1000000000 then s
  else (s.setPair { s.pair with ckptAt := some s.bases.mono }).mirrorSend 6 s.ckptSet.flatten

def execCkptMirrorSend (t : Nat) (s : State) : Host.Outcome State Fault Refusal := run t State.ckptMirrorSend s

/-! YIELD, RECLAIM, MIRROR_SYNC (R302, R310). -/

/-- A frame's intent has been sent and the frame not yet launched. -/
def State.intentsOut (s : State) : Bool := s.shuttle.streams.any (fun x => match x.2.frame with | some f => f.intent | none => false)

/-- A YIELD that waits is applied: the claim falls, or the line is released. -/
def State.applyYield (s : State) : State :=
  let s := s.setPair { s.pair with yieldWait := none }
  let s := if s.pairMode = 1 then s.strobeClaim.toggleStrobe else s.interlock
  s.updateHolding

/-- YIELD_APPLIED: at the first instant with no intent unlaunched, at the latest one L0 period after YIELD. -/
def State.yieldApplied (s : State) : State :=
  match s.pair.yieldWait with
  | none => s
  | some t => if s.intentsOut && decide (s.bases.mono < t + 1000000000 / max 1 (s.rate 0)) then s else s.applyYield

def execYieldApplied (t : Nat) (s : State) : Host.Outcome State Fault Refusal := run t State.yieldApplied s

/-- YIELD: of no effect while the module does not hold (R309), or with no partner live in native mode (R302). -/
def cmdYield (s : State) : CmdResult :=
  if s.pairMode = 0 then refuse s stIllegal
  else if !s.holds ∨ (s.pairMode = 1 && !s.partnerLive) then ok s
  else
    let s := (s.putFld F.PAIR_STATUS_YIELD 1).setPair { s.pair with yieldWait := some s.bases.mono }
    ok s.yieldApplied

def execYield (t : Nat) (path : Path) (s : State) : Host.Outcome State Fault Refusal := command t 10 1 path cmdYield s

/-- RECLAIM. -/
def cmdReclaim (s : State) : CmdResult :=
  if s.pairMode = 0 then refuse s stIllegal
  else ok ((s.putFld F.PAIR_STATUS_YIELD 0).setPair { s.pair with yieldWait := none })

def execReclaim (t : Nat) (path : Path) (s : State) : Host.Outcome State Fault Refusal := command t 10 2 path cmdReclaim s

/-- MIRROR_SYNC. -/
def cmdMirrorSync (s : State) : CmdResult :=
  if !s.isSet F.PAIR_STATUS_MIRROR_UP ∨ !s.holds then refuse s stIllegal
  else if s.fullBusy then refuse s stBusy
  else ok s.sendFull

def execMirrorSync (t : Nat) (path : Path) (s : State) : Host.Outcome State Fault Refusal := command t 10 3 path cmdMirrorSync s

end Sys2Proof.Machine
end

