-- ==== Sys2Proof/Machine/Fault.lean ====
section
/-!
DEFINITION. Sys2Proof/Machine/Fault.lean: repeats and what follows them, scans and scrubs, restores, the pad hold's end, the FAULT commands
(R276 to R292).
-/

namespace Sys2Proof.Machine

/-! RETRY_COMPLETE (R276 to R283). -/

/-- A thread's entry in a slot is lost: it reads ABSENT, FAULT (R282). -/
def State.loseEntry (s : State) (l tag tid : Nat) : State :=
  match (s.lat l).slot tag with
  | none => s
  | some x =>
    let s := s.storeValue l x tid absentWord (qAbsentFor rFault)
    if x.closed.isSome ∨ x.present.contains tid then s
    else s.modSlot l tag (fun y => { y with present := y.present ++ [tid], absent := y.absent + 1 })

/-- A queued packet is dropped whole and counted lost (R282). -/
def State.losePacket (s : State) (q seq : Nat) : State :=
  let x := s.queue q
  if !x.packets.any (fun p => p.1 == seq) then s
  else
    let s := s.putLevel q { x with packets := x.packets.filter (fun p => p.1 != seq) }
    ((s.count (R.QUEUE_Qn_LOST q)).burst E.QUEUE_LOST q (leBytes 1 q) 1).raise I.QUEUE_LOST

/-- A staged record is lost (R404): it is counted into the next LOST record, and the provisional numbers behind it move up, since the
written ledger has no gap (R401, log 33). -/
def State.loseRecord (s : State) (acc : Nat) : State :=
  match s.ledger.staging.find? (fun r => r.acc == acc) with
  | none => s
  | some r =>
    let up (x : LedRec) : LedRec := if acc < x.acc then { x with acc := x.acc - 1 } else x
    let l := { s.ledger with
      staging := (s.ledger.staging.filter (fun x => x.acc != acc)).map up, lost := s.ledger.lost.map up, next := s.ledger.next - 1
      cLost := (s.ledger.cLost + 1) % 2 ^ 32 }
    (s.setLedger l).reportLoss r.repeats r.tai r.event 1

/-- The content of an uncorrectable word is lost: what follows by its owner (R282). -/
def State.loseWord (s : State) (o : MemOwner) : State :=
  match o with
  | .none => s
  | .config => s
  | .thread tid =>
    (s.setReed { s.reed with threads := smDel s.reed.threads tid }).setFault { s.fault with lost := tid :: s.fault.lost.filter (· != tid) }
  | .tracker k => if (smFind s.osc.trackers k).isNone then s else ((s.putTracker k { (s.tracker k).restarted (s.tracker k).entry with reason := rFault }).clearJobs k).showOsc
  | .area a => s.setIsle { s.isle with areas := smPut s.isle.areas a { fq := qAbsentFor rFault, aq := qAbsentFor rFault } }
  | .point lane ap => if 2 < lane then s else (s.setLane lane { s.vote.lane lane with points := smDel (s.vote.lane lane).points ap }).updatePins
  | .energy fp =>
    match smFind s.energy.points fp with
    | some x => s.setEnergy { s.energy with points := smPut s.energy.points fp { entry := x.entry, quality := qAbsentFor rFault } }
    | none => s
  | .loom l tag tid => s.loseEntry l tag tid
  | .packet q seq => s.losePacket q seq
  | .staging acc => s.loseRecord acc
  | .capture r p => if 15 < r then s else s.captLost r p

/-- The repeat of a checked operation completes. `spent`: the repair reserve, or the region's spares, are exhausted (R282). A single-bit
error is corrected and counted, without a repeat. -/
def State.retryComplete (s : State) (cls e : Nat) (ok spent : Bool) (owner : MemOwner) : State :=
  if 14 < cls then s
  else if cls = fcSramSec ∨ cls = fcStacksSec then s.countClass cls
  else if ok then s.transient cls e
  else if cls = fcDataCheck then s.checkFailed (256 + e / 256) (e / 256) (e % 256)
  else if cls = fcSramDed ∨ cls = fcStacksDed then
    (s.lastingOn cls e (if spent then element (e / 256) wholeDomain else e)).loseWord owner
  else if cls = fcTimeSource then (s.lasting cls e).sourceLost
  else if cls = fcLinkCell ∧ e / 256 = pdSlv ∧ 1 ≤ s.linkState (e % 256) ∧ s.linkState (e % 256) ≤ 3 then s.linkDown (e % 256) 2
  else s.lasting cls e

def execRetryComplete (t cls element' : Nat) (ok spent : Bool) (owner : MemOwner) (s : State) : Host.Outcome State Fault Refusal :=
  run t (·.retryComplete cls element' ok spent owner) s

/-! Scans and scrubs (R280). -/

/-- A scan finds a mismatch `fails` times: its repeat succeeds or fails. -/
def State.scanFails (s : State) (cls e fails : Nat) : State :=
  if fails = 0 then s else if fails = 1 then s.transient cls e else s.lasting cls e

/-- CONFIG_SCAN: the rows are reloaded from the draft shadow and scanned again. -/
def execConfigScan (t element' fails : Nat) (s : State) : Host.Outcome State Fault Refusal := run t (·.scanFails fcCfgScan element' fails) s

/-- SHADOW_SCAN: every 10 s the sections of the draft shadow. -/
def execShadowScan (t fails : Nat) (s : State) : Host.Outcome State Fault Refusal :=
  run t (fun s => if s.draft.base.isNone then s else s.scanFails fcShadow (element pdCtrl wholeDomain) fails) s

/-- SCRUB of SRAM or of the Stacks. -/
def State.scrub (s : State) (inStacks : Bool) (f : ScrubFind) : State :=
  match f with
  | .pass ms => s.putReg (if inStacks then R.FAULT_SCRUB_STACKS else R.FAULT_SCRUB_SRAM) (sat32 ms)
  | .single _ => s.countClass (if inStacks then fcStacksSec else fcSramSec)
  | .double e ok spent owner => s.retryComplete (if inStacks then fcStacksDed else fcSramDed) e ok spent owner

def execScrub (t : Nat) (inStacks : Bool) (find : ScrubFind) (s : State) : Host.Outcome State Fault Refusal := run t (·.scrub inStacks find) s

/-! Restores (R288). -/

/-- A restored element has run FAULT_RESTORE_S: it takes part again. A fenced lane stays out of the vote until a warm reset or a draft load
(R260). -/
def State.restoredElem (s : State) (e : Nat) : State :=
  let x := s.elem e
  let took := (s.bases.mono - x.fencedAt) / 1000
  let s := (s.putElem e { x with state := 0, recovery := false, proving := none }).showFenced
  let s := if x.cls = fcClockLoss ∧ e / 256 < 15 then s.putFld (F.CLOCK_ISLn_STATE_FENCED (e / 256 + 1)) 0 else s
  s.event E.FAULT_RESTORED e (leBytes 2 e ++ leBytes 4 (sat32 took))

/-- The proving time of R288, in ns. -/
def State.restoreNs (s : State) : Nat := 1000000000 * (s.fld F.FAULT_RESTORE_S_S)

/-- RESTORED: an element, or the device after a warm reset, has proved itself. -/
def State.restored (s : State) (e : Nat) : State :=
  let s := match (s.elem e).proving with
    | some t => if t + s.restoreNs ≤ s.bases.mono then s.restoredElem e else s
    | none => s
  let s := match s.fault.warm with
    | some t => if t + s.restoreNs ≤ s.bases.mono ∧ s.power.warmAt.isNone then s.setFault { s.fault with warm := none } else s
    | none => s
  s.clearFault

def execRestored (t element' : Nat) (s : State) : Host.Outcome State Fault Refusal := run t (·.restored element') s

/-- HOLD_EXPIRED: LIMIT_S has passed since the pad hold was set (R286). -/
def State.holdExpired (s : State) : State :=
  match s.fault.holdSet with
  | none => s
  | some t =>
    let limit := s.fld F.FAULT_PAD_HOLD_LIMIT_S
    if limit = 0 ∨ s.bases.mono < t + 1000000000 * limit then s
    else
      let balls := s.fld F.FAULT_PAD_HOLD_HELD
      let s := (s.putFld F.FAULT_PAD_HOLD_HELD 0).putFld F.FAULT_STATUS_PAD_HOLD 0
      let s := s.setFault { s.fault with holdSet := none }
      ((s.event E.FAULT_HOLD_EXPIRED noSource (leBytes 1 balls)).raise I.FAULT_HOLD_EXPIRED).updatePins

def execHoldExpired (t : Nat) (s : State) : Host.Outcome State Fault Refusal := run t State.holdExpired s

/-! Commands (R292). -/

/-- Does an element code name a domain? -/
def elementOk (e : Nat) : Bool := decide (e < 65536) && decide (e / 256 ≤ 16)

/-- ELEMENT_READ. -/
def cmdElementRead (s : State) : CmdResult :=
  let e := s.arg 30 0
  if !elementOk e then refuse s stBadArg
  else
    let x := s.elem e
    { state := s, r0 := x.state + 2 ^ 16 * (min x.transient 65535), r1 := sat32 x.lasting }

def execElementRead (t : Nat) (path : Path) (s : State) : Host.Outcome State Fault Refusal := command t 30 1 path cmdElementRead s

/-- INJECT: the fault is taken at once. -/
def cmdInject (s : State) : CmdResult :=
  let cls := s.arg 30 0
  let e := s.arg 30 1
  let lasting := bit (s.arg 30 2) 0
  if s.mode ≠ 9 then refuse s stIllegal
  else if 14 < cls ∨ !elementOk e then refuse s stBadArg
  else
    let s := s.event E.FAULT_INJECTED e (leBytes 1 cls ++ leBytes 2 e ++ leBytes 1 (if lasting then 1 else 0))
    ok (s.retryComplete cls e (!lasting) false .none)

def execInject (t : Nat) (path : Path) (s : State) : Host.Outcome State Fault Refusal := command t 30 2 path cmdInject s

/-- RESTORE: a fenced element whose restore is outstanding, or a fenced whole domain; a memory row remapped under R282 has none (log 30). -/
def cmdRestore (s : State) : CmdResult :=
  let e := s.arg 30 0
  let x := s.elem e
  if !elementOk e then refuse s stBadArg
  else if (s.mode ≠ 2 ∧ s.mode ≠ 10) ∨ x.state = 0 ∨ (!x.recovery && e % 256 != wholeDomain) then refuse s stIllegal
  else ok ((s.putElem e { x with state := 2, proving := none }).showFenced.startRestore e)

def execRestore (t : Nat) (path : Path) (s : State) : Host.Outcome State Fault Refusal := command t 30 3 path cmdRestore s

/-- HOLD_RELEASE. -/
def cmdHoldRelease (s : State) : CmdResult := if s.mode ≠ 10 then refuse s stIllegal else ok (s.endHold 2)

def execHoldRelease (t : Nat) (path : Path) (s : State) : Host.Outcome State Fault Refusal := command t 30 4 path cmdHoldRelease s

/-- COUNTERS_CLEAR: the counters at 0x0300 and up. -/
def cmdCountersClear (s : State) : CmdResult := ok ((List.range 14).foldl (fun s i => s.putReg (R.FAULT_TRANSIENT + 4 * i) 0) s)

def execCountersClear (t : Nat) (path : Path) (s : State) : Host.Outcome State Fault Refusal := command t 30 5 path cmdCountersClear s

end Sys2Proof.Machine
end

