-- ==== Sys2Proof/Machine/Ledger.lean ====
section
/-!
DEFINITION. Sys2Proof/Machine/Ledger.lean: the Ledger's writing and reading, authorised clearing and the key (R402 to R416).
-/

namespace Sys2Proof.Machine

/-! The ring in the Archive (R399, R406, R407). -/

/-- Archive address of a ledger block. -/
def ledgerAddr (b : Nat) : Nat := 64 * 2 ^ 20 + 2048 * b

/-- A record's 64 bytes: its colophon is the CRC-32C of the others, folded with the accession number. -/
def LedRec.full (r : LedRec) : List Byte := r.bytes ++ leBytes 4 (crc32c (ones32 ^^^ (r.acc % 2 ^ 32)) r.bytes)

/-- Is the colophon of 64 bytes valid? -/
def colophonOk (l : List Byte) : Bool := leAt l 0x3C 4 == crc32c (ones32 ^^^ leAt l 0 4) (l.take 60)

/-- The block that follows in the ring; fenced blocks are passed over. -/
def nextBlock (fenced : List Nat) : Nat → Nat → Nat
  | 0, b => (b + 1) % 24576
  | n + 1, b => let c := (b + 1) % 24576; if fenced.contains c then nextBlock fenced n c else c

def LedgerSt.following (l : LedgerSt) (b : Nat) : Nat := nextBlock l.fenced l.fenced.length b

/-- A block is erased before it is written: its records leave the ledger; those not acknowledged are counted (R406). -/
def State.eraseBlock (s : State) (b : Nat) : State :=
  let l := s.ledger
  let gone := smGet [] l.dir b
  let s := s.setArchive (memClear s.archive (ledgerAddr b) 2048)
  let lostUn := (gone.filter (fun a => decide (l.acked < a ∧ l.oldest ≤ a))).length
  let s := s.setLedger { l with
    dir := smDel l.dir b
    oldest := gone.foldl (fun o a => max o (a + 1)) l.oldest
    cOverwritten := (l.cOverwritten + lostUn) % 2 ^ 32 }
  if lostUn = 0 then s
  else (s.event E.LEDGER_OVERWRITE noSource (leBytes 4 (sat32 lostUn))).raise I.LEDGER_OVERWRITE

/-- The place of the next record: a new block is erased first. -/
def State.openPlace (s : State) : State :=
  let l := s.ledger
  if l.wrRec = 0 then s.eraseBlock l.wrBlock
  else if l.wrRec < 32 then s
  else
    let b := l.following l.wrBlock
    (s.setLedger { l with wrBlock := b, wrRec := 0 }).eraseBlock b

/-- A record is written at the next place. -/
def State.putRecord (s : State) (r : LedRec) : State :=
  let s := s.openPlace
  let l := s.ledger
  let s := s.setArchive (memStore 0xFF s.archive (ledgerAddr l.wrBlock + 64 * l.wrRec) r.full)
  s.setLedger { l with dir := smMod [] l.dir l.wrBlock (· ++ [r.acc]), wrRec := l.wrRec + 1, written := r.acc }

/-- The read-back of a block failed twice: it is fenced, and writing goes on in the next (R407). -/
def State.fenceBlock (s : State) : State :=
  let l := s.ledger
  let b := l.wrBlock
  let fenced := b :: l.fenced
  let s := s.setLedger { l with
    fenced := fenced, wrBlock := nextBlock fenced fenced.length b, wrRec := 0, capacity := l.capacity - 32, cFenced := (l.cFenced + 1) % 2 ^ 32 }
  let s := (s.event E.LEDGER_BLOCK_FENCED b (leBytes 2 b)).raise I.LEDGER_BLOCK_FENCED
  s.lasting fcArchive (element pdArchive 0)

/-- A record's write whose read-back fails `fails` times. -/
def State.writeRecord (s : State) (r : LedRec) (fails : Nat) : State :=
  let s := s.openPlace
  let s := if fails = 0 then s
    else if fails = 1 then
      let b := s.ledger.wrBlock
      let s := s.setLedger { s.ledger with cRetry := (s.ledger.cRetry + 1) % 2 ^ 32 }
      (s.event E.LEDGER_WRITE_RETRY b (leBytes 2 b)).transient fcArchive (element pdArchive 0)
    else s.fenceBlock
  s.putRecord r

/-! Staging and writing (R402 to R404). -/

/-- The staged record with the lowest number, the LOST record among them. -/
def LedgerSt.first (l : LedgerSt) : Option LedRec :=
  match l.staging, l.lost with
  | [], o => o
  | r :: _, some x => if x.acc < r.acc then some x else some r
  | r :: _, none => some r

/-- A record leaves staging: the LOST record closes when an entry frees; when it has itself been written, the refusals counted behind
it open the next (R404). -/
def State.unstage (s : State) (acc : Nat) : State :=
  let l := s.ledger
  match l.lost with
  | some x =>
    if x.acc = acc then
      let s := s.setLedger { l with lost := none, further := (0, 0, 0) }
      if l.further.1 = 0 ∨ l.closed then s.setLedger { s.ledger with further := l.further } else s.reportLoss l.further.1 l.further.2.1 l.further.2.2 0
    else s.setLedger { l with staging := l.staging.filter (fun r => r.acc != acc), lost := some { x with isOpen := false } }
  | none => s.setLedger { l with staging := l.staging.filter (fun r => r.acc != acc) }

/-- A record's copy for the queue (R409). -/
def State.copyRecord (s : State) (r : LedRec) : State :=
  if !s.isSet F.LEDGER_CTRL_COPY_EN then s
  else
    let q := s.fld F.LEDGER_QUEUES_COPY_QUEUE
    let c := s.commit q r.full
    if c.2 then c.1 else c.1.setLedger { c.1.ledger with cQfull := (c.1.ledger.cQfull + 1) % 2 ^ 32 }

/-- After a write: the written watermark goes to the partner, UNACKED_HIGH is raised (R305, R410). -/
def State.afterWrite (s : State) : State :=
  let s := s.mirrorSend 5 (leBytes 6 s.ledger.next ++ leBytes 6 s.ledger.written)
  if s.regN R.LEDGER_UNACKED_TH ≤ s.ledger.written - s.ledger.acked then s.raise I.LEDGER_UNACKED_HIGH else s

/-- RECORD_WRITTEN: the lowest closed record is written; it waits behind an open one. -/
def State.recordWritten (s : State) (fails : Nat) : State :=
  match s.ledger.first with
  | none => s
  | some r =>
    if r.isOpen ∨ s.isSet F.POWER_STATUS_WRITE_PROTECT ∨ s.domain pdArchive = 2 then s
    else ((((s.wakeArchive).writeRecord r fails).unstage r.acc).copyRecord r).afterWrite

def execRecordWritten (t fails : Nat) (s : State) : Host.Outcome State Fault Refusal := run t (·.recordWritten fails) s

/-- Every open record closes (R403). -/
def LedgerSt.closeAll (l : LedgerSt) : LedgerSt :=
  { l with staging := l.staging.map (fun r => { r with isOpen := false }), lost := l.lost.map (fun r => { r with isOpen := false }) }

/-- All of staging is written, in accession order. -/
def State.writeAll : Nat → State → State
  | 0, s => s
  | n + 1, s =>
    match s.ledger.first with
    | none => s
    | some r => State.writeAll n ((((s.writeRecord r 0).unstage r.acc).copyRecord r).afterWrite)

def State.writeStaging (s : State) : State :=
  let s := s.setLedger s.ledger.closeAll
  State.writeAll (s.ledger.staging.length + 2) s

/-- LEDGER_EVENT: an event of a block reaches the Ledger. -/
def execLedgerEvent (t code source : Nat) (payload : List Byte) (s : State) : Host.Outcome State Fault Refusal :=
  run t (fun s => if code / 2 ^ 16 = 0 ∧ code % 2048 ≠ 0 then s.event code source payload else s) s

/-- COALESCE_CLOSE: records whose coalescing time has passed close (R403). -/
def State.coalesceClose (s : State) : State :=
  let ms := s.regN R.LEDGER_COALESCE_MS
  s.setLedger { s.ledger with
    staging := s.ledger.staging.map (fun r => if r.last + 1000000 * ms ≤ s.bases.mono ∨ 65535 ≤ r.repeats then { r with isOpen := false } else r) }

def execCoalesceClose (t : Nat) (s : State) : Host.Outcome State Fault Refusal := run t State.coalesceClose s

/-- OP_SECONDS_SAVE: every 60 s of MONO (R405). -/
def State.opSecondsSave (s : State) : State :=
  if s.opSeconds < s.ledger.savedOp + 60 ∨ s.isSet F.POWER_STATUS_WRITE_PROTECT ∨ s.pfwLow then s
  else s.wakeArchive.setLedger { s.wakeArchive.ledger with savedOp := s.opSeconds }

def execOpSecondsSave (t : Nat) (s : State) : Host.Outcome State Fault Refusal := run t State.opSecondsSave s

/-! Reading (R409 to R411). -/

/-- The accession number in ARG0 and ARG1. -/
def State.argAcc (s : State) : Nat := s.arg 24 0 + 2 ^ 32 * (s.arg 24 1 % 65536)

/-- The place of a written record: its block and index. -/
def LedgerSt.find (l : LedgerSt) (acc : Nat) : Option (Nat × Nat) :=
  (l.dir.find? (fun x => x.2.contains acc)).map (fun x => (x.1, x.2.idxOf acc))

/-- The 64 bytes of a record, and whether it has been written. -/
def State.record (s : State) (acc : Nat) : Option (List Byte × Bool) :=
  let l := s.ledger
  match (l.staging ++ l.lost.toList).find? (fun r => r.acc == acc) with
  | some r => some (r.full, false)
  | none => (l.find acc).map (fun p => (memRead 0xFF s.archive (ledgerAddr p.1 + 64 * p.2) 64, true))

/-- READ. -/
def cmdRead (s : State) : CmdResult :=
  let n := s.argAcc
  if n < s.ledger.oldest ∨ s.ledger.next ≤ n then refuse s stBadArg
  else
    match s.record n with
    | none => refuse s stBadArg
    | some (b, written) =>
      { state := (List.range 16).foldl (fun s i => s.putReg (R.LEDGER_RECn i) (leAt b (4 * i) 4)) s.wakeArchive, r0 := if written then 1 else 0 }

def execRead (t : Nat) (path : Path) (s : State) : Host.Outcome State Fault Refusal := command t 24 1 path cmdRead s

/-- ACK. -/
def cmdAck (s : State) : CmdResult :=
  let n := s.argAcc
  if n < s.ledger.acked ∨ s.ledger.written < n then refuse s stBadArg else ok (s.setLedger { s.ledger with acked := n })

def execAck (t : Nat) (path : Path) (s : State) : Host.Outcome State Fault Refusal := command t 24 2 path cmdAck s

/-- FLUSH: open records close; their writes follow in order. -/
def cmdLedgerFlush (s : State) : CmdResult := ok (s.setLedger s.ledger.closeAll)

def execLedgerFlush (t : Nat) (path : Path) (s : State) : Host.Outcome State Fault Refusal := command t 24 3 path cmdLedgerFlush s

/-- VERIFY. -/
def cmdVerify (s : State) : CmdResult :=
  let n := s.argAcc
  let k := s.arg 24 2
  if n < s.ledger.oldest ∨ s.ledger.written < n ∨ k = 0 ∨ 65536 < k then refuse s stBadArg
  else
    let bad := (List.range (min k (s.ledger.written + 1 - n))).filter (fun i =>
      match s.ledger.find (n + i) with
      | some p => !colophonOk (memRead 0xFF s.archive (ledgerAddr p.1 + 64 * p.2) 64)
      | none => false)
    { state := bad.foldl (fun s i => s.event E.LEDGER_COLOPHON_FAIL noSource (leBytes 6 (n + i))) s.wakeArchive
      r0 := bad.length, r1 := match bad with | i :: _ => (n + i) % 2 ^ 32 | [] => 0 }

def execVerify (t : Nat) (path : Path) (s : State) : Host.Outcome State Fault Refusal := command t 24 4 path cmdVerify s

/-! Authorised clearing and the key (R412 to R414). -/

/-- NONCE. -/
def cmdNonce (s : State) : CmdResult :=
  if s.ledger.authLocked then refuse s stIllegal
  else
    let v := Config.freeWord64 s.freeCount
    let s := s.draw
    { state := s.setLedger { s.ledger with nonce := some ⟨v, s.bases.mono⟩ }, r0 := v.toNat % 2 ^ 32, r1 := v.toNat / 2 ^ 32 }

def execNonce (t : Nat) (path : Path) (s : State) : Host.Outcome State Fault Refusal := command t 24 5 path cmdNonce s

/-- NONCE_EXPIRY: 60 s after its issue. -/
def State.nonceExpiry (s : State) : State :=
  match s.ledger.nonce with
  | some n => if s.bases.mono < n.issued + 60000000000 then s else s.setLedger { s.ledger with nonce := none }
  | none => s

def execNonceExpiry (t : Nat) (s : State) : Host.Outcome State Fault Refusal := run t State.nonceExpiry s

/-- Is the response in ARG0 and ARG1 correct for a purpose: 1 clear, 2 key change? -/
def State.responseOk (s : State) (purpose : Nat) : Bool :=
  match s.ledger.key, s.ledger.nonce with
  | some k, some n =>
    decide (s.bases.mono < n.issued + 60000000000) &&
      (hmacSha256 k ([0x43, 0x52, 0x58, 0x4C] ++ leBytes 1 purpose ++ leBytes 8 n.value.toNat)).take 8 == leBytes 4 (s.arg 24 0) ++ leBytes 4 (s.arg 24 1)
  | _, _ => false

/-- An attempt uses the nonce (log 33); a failure is recorded, and the third within an hour locks the authorisation. -/
def State.authFailed (s : State) (op : Nat) : State :=
  let times := s.ledger.failTimes.filter (fun t => decide (s.bases.mono < t + 3600000000000)) ++ [s.bases.mono]
  let s := s.setLedger { s.ledger with
    nonce := none, failTimes := times, authLocked := s.ledger.authLocked || decide (3 ≤ times.length), cAuthFail := (s.ledger.cAuthFail + 1) % 2 ^ 32 }
  (s.event E.LEDGER_AUTH_FAIL noSource (leBytes 1 op ++ leBytes 4 times.length)).raise I.LEDGER_AUTH_FAIL

/-- CLEAR, authorised (R414): CLEARED is the first record of the new epoch, in a freshly erased block. -/
def State.clearLedger (s : State) (path : Path) : State :=
  let s := s.writeStaging
  let l := s.ledger
  let n := l.next
  let payload := leBytes 6 (n - 1) ++ leBytes 4 l.epoch ++ leBytes 4 (sat32 (n - l.oldest)) ++ leBytes 1 path.code ++ leBytes 1 0
  let r := { newRecord s E.LEDGER_CLEARED noSource payload false with epoch := (l.epoch + 1) % 2 ^ 32, isOpen := false }
  let b := if l.wrRec = 0 then l.wrBlock else l.following l.wrBlock
  let s := s.setLedger { l with
    nonce := none, epoch := (l.epoch + 1) % 2 ^ 32, oldest := n, next := n + 1, clearing := true, wrBlock := b, wrRec := 0
    cRecords := (l.cRecords + 1) % 2 ^ 32, cEvents := (l.cEvents + 1) % 2 ^ 32 }
  ((s.putRecord r).copyRecord r).afterWrite

/-- CLEAR. -/
def cmdClear (path : Path) (s : State) : CmdResult :=
  if s.pfwLow ∨ s.ledger.clearing then refuse s stBusy
  else if s.mode ≠ 2 ∧ s.mode ≠ 9 then refuse s stIllegal
  else if !s.responseOk 1 then { state := s.authFailed 6, status := stAuthFail }
  else ok (s.wakeArchive.clearLedger path)

def execClear (t : Nat) (path : Path) (s : State) : Host.Outcome State Fault Refusal := command t 24 6 path (cmdClear path) s

/-- CLEAR_DONE: the blocks of the old epoch have been erased. -/
def State.clearDone (s : State) : State :=
  let l := s.ledger
  if !l.clearing ∨ s.pfwLow then s
  else
    let old := l.dir.filter (fun x => x.2.all (fun a => decide (a < l.oldest)))
    let s := old.foldl (fun s x => s.setArchive (memClear s.archive (ledgerAddr x.1) 2048)) s
    (s.setLedger { l with clearing := false, dir := l.dir.filter (fun x => !x.2.all (fun a => decide (a < l.oldest))) }).raise I.LEDGER_CLEARED

def execClearDone (t : Nat) (s : State) : Host.Outcome State Fault Refusal := run t State.clearDone s

/-- The key in the stage registers: first byte most significant. -/
def State.stagedKey (s : State) : List Byte := (List.range 8).flatMap (fun i => beBytes 4 (s.regN (R.LEDGER_KEY_STAGEn i)))

/-- The staged key is taken: the stage registers are cleared; 0 first key, 1 change (log 11). -/
def State.takeKey (s : State) (path : Path) (change : Nat) : State :=
  let k := s.stagedKey
  let s := (List.range 8).foldl (fun s i => s.putReg (R.LEDGER_KEY_STAGEn i) 0) s
  (s.setLedger { s.ledger with key := some k, nonce := if change = 1 then none else s.ledger.nonce }).event E.LEDGER_KEY_CHANGED noSource
    (leBytes 1 path.code ++ leBytes 1 change)

/-- KEY_SET. -/
def cmdKeySet (path : Path) (s : State) : CmdResult :=
  if s.ledger.key.isSome then refuse s stIllegal
  else if s.stagedKey.all (· == 0) then refuse s stBadArg
  else ok (s.takeKey path 0)

def execKeySet (t : Nat) (path : Path) (s : State) : Host.Outcome State Fault Refusal := command t 24 7 path (cmdKeySet path) s

/-- KEY_CHANGE. -/
def cmdKeyChange (path : Path) (s : State) : CmdResult :=
  if s.stagedKey.all (· == 0) then refuse s stBadArg
  else if !s.responseOk 2 then { state := s.authFailed 8, status := stAuthFail }
  else ok (s.takeKey path 1)

def execKeyChange (t : Nat) (path : Path) (s : State) : Host.Outcome State Fault Refusal := command t 24 8 path (cmdKeyChange path) s

/-! Start-up and flush (R405). -/

/-- FLUSHED is staged after every open record has closed; later events are lost. -/
def State.stageFlushed (s : State) : State :=
  let s := s.setLedger s.ledger.closeAll
  let l := s.ledger
  let n := l.staging.length + l.lost.toList.length + 1
  let r := { newRecord s E.LEDGER_FLUSHED noSource (leBytes 4 n) false with isOpen := false }
  s.setLedger { l with staging := l.staging ++ [r], next := l.next + 1, closed := true, further := (0, 0, 0)
                       cRecords := (l.cRecords + 1) % 2 ^ 32, cEvents := (l.cEvents + 1) % 2 ^ 32 }

/-- Events are staged again; those lost since FLUSHED stand in a LOST record with CAUSE POWER_FAIL (R430). -/
def State.reopenLedger (s : State) : State :=
  let l := s.ledger
  let r := { newRecord s 0xC001 noSource (lostPayload l.further.1 l.further.2.1 l.further.2.2 3) false with isOpen := false }
  (s.setLedger { l with closed := false, further := (0, 0, 0), staging := l.staging ++ [r], next := l.next + 1
                        cRecords := (l.cRecords + 1) % 2 ^ 32 }).raise I.LEDGER_LOST

/-- The EVENT of the highest record written; 0 where there is none. -/
def State.lastWritten (s : State) : Nat :=
  match s.record s.ledger.written with
  | some (b, _) => leAt b 0x0E 2
  | none => 0

/-- The ledger's start-up at a power-on reset: what staging held is gone; POWER_CYCLES advances and is saved; a LOST record goes first where
the last power-down was not flushed; POWER_ON follows. -/
def State.ledgerStart (s : State) (bootSel : Nat) : State :=
  let l := s.ledger
  let last := s.lastWritten
  let opRec := match s.record l.written with | some (b, true) => leAt b 6 5 | _ => 0
  let cycles := (l.savedCycles + 1) % 2 ^ 24
  let s := s.setLedger {
    written := l.written, oldest := l.oldest, acked := l.acked, epoch := l.epoch, capacity := l.capacity, wrBlock := l.wrBlock
    wrRec := l.wrRec, fenced := l.fenced, dir := l.dir, key := l.key, next := l.written + 1, savedOp := l.savedOp
    savedCycles := cycles, powerCycles := cycles, opSeconds := max l.savedOp opRec }
  let s := if l.written = 0 ∨ last = E.LEDGER_FLUSHED then s
    else
      let r := { newRecord s 0xC001 noSource (lostPayload 0xFFFFFFFF 0 0 3) false with isOpen := false }
      (s.setLedger { s.ledger with staging := [r], next := s.ledger.next + 1, cRecords := 1 }).raise I.LEDGER_LOST
  s.event E.LEDGER_POWER_ON noSource (leBytes 3 cycles ++ leBytes 5 s.ledger.opSeconds ++ leBytes 1 bootSel)

end Sys2Proof.Machine
end

