-- ==== Sys2Proof/Machine/Check.lean ====
section
/-!
DEFINITION. Sys2Proof/Machine/Check.lean: the check-value engines (R418 to R423).
-/

namespace Sys2Proof.Machine

/-- Width of an engine's value in bits (R418). -/
def engineWidth : Nat → Nat
  | 0 => 16
  | 1 => 32
  | 2 => 32
  | _ => 64

/-- An engine's value over bytes, its initial value folded with `f` (R418, R419). -/
def engineCrc (e f : Nat) (l : List Byte) : Nat :=
  match e with
  | 0 => crc16 (0xFFFF ^^^ (f % 2 ^ 16)) l
  | 1 => crc32 (ones32 ^^^ (f % 2 ^ 32)) l
  | 2 => crc32c (ones32 ^^^ (f % 2 ^ 32)) l
  | _ => crc64 ((2 ^ 64 - 1) ^^^ (f % 2 ^ 64)) l

/-- Bytes of a space (R420): SRAM, the Stacks, the Archive. -/
def spaceSize : Nat → Nat
  | 0 => 0x26C0000
  | 1 => 2 ^ 34
  | _ => 2 ^ 27

/-- Bytes of a space as they stand; those of SRAM are open (log 34). -/
def State.spaceRead (s : State) (space a n : Nat) : List Byte :=
  match space with
  | 0 => (List.range n).map (fun i => Config.sramByte s.freeCount (a + i))
  | 1 => s.stkRead a n
  | _ => memRead 0xFF s.archive a n

/-- The scan's shape, as its registers hold it. -/
structure Scan where
  space : Nat
  table : Bool
  fold : Nat
  block : Nat
  start : Nat
  length : Nat
  tab : Nat
  seq0 : Nat
  expect : Nat
  deriving DecidableEq, Repr

def State.scan (s : State) (e : Nat) : Scan where
  space := s.fld (F.CHECK_En_CFG_SPACE e)
  table := s.fld (F.CHECK_En_CFG_MODE e) == 1
  fold := s.fld (F.CHECK_En_CFG_FOLD e)
  block := if s.fld (F.CHECK_En_CFG_MODE e) = 1 then 2 ^ s.fld (F.CHECK_En_CFG_BLOCK_LOG2 e) else s.pairAt (R.CHECK_En_LENGTH_LO e)
  start := s.pairAt (R.CHECK_En_START_LO e)
  length := s.pairAt (R.CHECK_En_LENGTH_LO e)
  tab := s.pairAt (R.CHECK_En_TABLE_LO e)
  seq0 := s.pairAt (R.CHECK_En_SEQ0_LO e)
  expect := s.pairAt (R.CHECK_En_EXPECT_LO e)

/-- Blocks of a scan. -/
def Scan.blocks (c : Scan) : Nat := if c.table then c.length / max 1 c.block else 1

/-- Does a scan keep the rules of R419 and R422? -/
def State.scanOk (s : State) (e : Nat) : Bool :=
  let c := s.scan e
  let log := s.fld (F.CHECK_En_CFG_BLOCK_LOG2 e)
  decide (c.space ≤ 2 ∧ s.fld (F.CHECK_En_CFG_MODE e) ≤ 1 ∧ c.fold ≤ 2 ∧ c.start + c.length ≤ spaceSize c.space) &&
    (!c.table || (decide (6 ≤ log ∧ log ≤ 20) && c.length % c.block == 0 && decide (c.tab + c.blocks * (engineWidth e / 8) ≤ spaceSize c.space)))

/-- The scan over the first `n` blocks: mismatches, the first of them, the last value. -/
def State.scanRun (s : State) (e n : Nat) : Nat × Option Nat × Nat :=
  let c := s.scan e
  (List.range n).foldl (fun (a : Nat × Option Nat × Nat) b =>
    let addr := c.start + b * c.block
    let f := if c.fold = 1 then addr else if c.fold = 2 then c.seq0 + b else 0
    let crc := engineCrc e f (s.spaceRead c.space addr c.block)
    let want := if c.table then leNat (s.spaceRead c.space (c.tab + b * (engineWidth e / 8)) (engineWidth e / 8)) else c.expect % 2 ^ engineWidth e
    if crc = want then (a.1, a.2.1, crc) else (a.1 + 1, a.2.1.or (some b), crc)) (0, none, 0)

/-- The outcome of a scan over `n` blocks in its registers. -/
def State.scanShow (s : State) (e n : Nat) : State :=
  let r := s.scanRun e n
  let s := s.putPair (R.CHECK_En_RESULT_LO e) r.2.2
  (s.putReg (R.CHECK_En_MISMATCHES e) (sat32 r.1)).putReg (R.CHECK_En_FIRST_BAD e) (match r.2.1 with | some b => sat32 b | none => 0xFFFFFFFF)

/-- An engine runs. -/
def State.scanning (s : State) (e : Nat) : Bool := s.regN (R.CHECK_En_STATE e) == 1

/-- A scan begins to read its space: the Stacks in RETAIN wake on demand, and so does the Archive (R434). -/
def State.wakeSpace (s : State) (space : Nat) : State :=
  if space = 2 then s.wakeArchive
  else if space = 1 ∧ s.domain pdStacks = 1 ∧ (smFind s.power.waking pdStacks).isNone then
    s.setPower { s.power with waking := smPut s.power.waking pdStacks (s.bases.mono, 1) }
  else s

/-- SCAN_START. -/
def cmdScanStart (s : State) : CmdResult :=
  let e := s.arg 25 0
  if 3 < e then refuse s stBadArg
  else if s.scanning e then refuse s stBusy
  else if !s.scanOk e then refuse s stBadArg
  else if (s.scan e).space = 1 ∧ 2 ≤ s.domain pdStacks then refuse s stIllegal
  else if (s.scan e).space = 1 ∧ s.draining pdStacks then refuse s stBusy
  else ok (((s.putReg (R.CHECK_En_STATE e) 1).count R.CHECK_SCANS).wakeSpace (s.scan e).space)

def execScanStart (t : Nat) (path : Path) (s : State) : Host.Outcome State Fault Refusal := command t 25 1 path cmdScanStart s

/-- SCAN_STOP: the counts of the `blocks` compared so far are kept. An engine that does not run stays as it is (log 34). -/
def cmdScanStop (blocks : Nat) (s : State) : CmdResult :=
  let e := s.arg 25 0
  if 3 < e then refuse s stBadArg
  else if !s.scanning e then ok s
  else ok (((s.scanShow e (min blocks (s.scan e).blocks)).draw).putReg (R.CHECK_En_STATE e) 4)

def execScanStop (t : Nat) (path : Path) (blocks : Nat) (s : State) : Host.Outcome State Fault Refusal :=
  command t 25 2 path (cmdScanStop blocks) s { blocks := blocks }

/-- SCAN_DONE: the scan has run over its blocks, or met a word that stays uncorrectable at an address (R421), whose
treatment under R282 comes as a row of its own. A scan of Stacks that sleep waits for them. -/
def State.scanDone (s : State) (e : Nat) (bad : Option Nat) : State :=
  if 3 < e ∨ !s.scanning e ∨ ((s.scan e).space = 1 ∧ s.domain pdStacks ≠ 0) then s
  else
    match bad with
    | some a =>
      let s := (s.putReg (R.CHECK_En_STATE e) 3).putPair (R.CHECK_En_RESULT_LO e) a
      (s.event E.CHECK_SCAN_ERROR e (leBytes 1 e ++ leBytes 4 (sat32 a))).raise (25, 8 + e)
    | none =>
      let c := s.scan e
      let s := s.scanShow e c.blocks
      let s := ((s.draw).putReg (R.CHECK_En_STATE e) 2).raise (25, e)
      let n := s.regN (R.CHECK_En_MISMATCHES e)
      if n = 0 then s
      else
        ((s.count R.CHECK_MISMATCH_SCANS).event E.CHECK_CHECK_MISMATCH e
          (leBytes 1 e ++ leBytes 1 c.space ++ leBytes 4 n ++ leBytes 2 (s.regN (R.CHECK_En_FIRST_BAD e)))).raise (25, 4 + e)

def execScanDone (t engine : Nat) (bad : Option Nat) (s : State) : Host.Outcome State Fault Refusal := run t (·.scanDone engine bad) s

end Sys2Proof.Machine
end

