-- ==== Sys2Proof/Machine/Clock.lean ====
section
/-!
DEFINITION. Sys2Proof/Machine/Clock.lean: clock losses, margins, AVS, derating and the forecast of ageing (R438 to R449).
-/

namespace Sys2Proof.Machine

/-- The domain of an island (R438). -/
def islandDomain (i : Nat) : Nat := if i = 0 then 16 else i - 1

/-- Islands whose clocks may be lowered (R442). -/
def derateable (i : Nat) : Bool := [7, 8, 9, 10, 11, 13, 14, 15].contains i

def State.islandOn (s : State) (i : Nat) : Bool := decide (i < 16) && s.domain (islandDomain i) == 0

/-! Clock losses (R439). -/

/-- The clock of a lane's island stopped or came back: its gates follow (R261). -/
def State.laneClock (s : State) (island : Nat) : State := if 13 ≤ island then s.updatePins else s

/-- CLOCK_LOSS: both watchers find an island's clock lost; or one does, and the AON count finds the watcher in island `wrong` at fault. -/
def State.clockLoss (s : State) (island : Nat) (wrong : Option Nat) : State :=
  match wrong with
  | some _ => (s.count R.CLOCK_CANARY_ERRORS).raise I.CLOCK_CANARY_ERROR
  | none =>
    if 15 < island then s
    else ((s.setClock { s.clock with relock := smPut s.clock.relock island s.bases.mono }).raise I.CLOCK_CLOCK_LOSS).laneClock island

def execClockLoss (t island : Nat) (wrong : Option Nat) (s : State) : Host.Outcome State Fault Refusal := run t (·.clockLoss island wrong) s

/-- RELOCK_DONE. -/
def State.relockDone (s : State) (island : Nat) (ok : Bool) : State :=
  if (smFind s.clock.relock island).isNone then s
  else
    let e := element (islandDomain island) wholeDomain
    let s := (s.setClock { s.clock with relock := smDel s.clock.relock island }).laneClock island
    let s := s.event E.CLOCK_CLOCK_LOSS island (leBytes 1 island ++ leBytes 1 (if ok then 0 else 1))
    if ok then ((s.count R.CLOCK_LOSS_TRANSIENT).raise I.CLOCK_RELOCKED).transient fcClockLoss e
    else ((s.count R.CLOCK_LOSS_LASTING).putFld (F.CLOCK_ISLn_STATE_FENCED island) 1).lasting fcClockLoss e

def execRelockDone (t island : Nat) (ok : Bool) (s : State) : Host.Outcome State Fault Refusal := run t (·.relockDone island ok) s

/-! Margins (R440). -/

def State.margin (s : State) (i : Nat) : Int := smGet 0 s.clock.margins i
def State.derate (s : State) (i : Nat) : Nat := smGet 0 s.ageing.steps i
def State.sens (s : State) (i : Nat) : Int := (smFind s.ageing.sens i).getD (signed 32 (Config.islandSens i).toNat)
def State.avsCeil (s : State) : Nat := min 850 (s.fld F.CLOCK_AVS_LIMITS_CEIL)
def State.avsFloor (s : State) : Nat := max 680 (s.fld F.CLOCK_AVS_LIMITS_FLOOR)

/-- A margin at the ceiling voltage, in 0.01 % (R444). -/
def State.atCeiling (s : State) (i : Nat) (m : Int) : Int := m + (s.sens i * ((s.avsCeil : Int) - s.ageing.request)).fdiv 10

/-- Every ON island is measured: the least slack, corrected to 110 °C; today's m_c is gathered. -/
def State.measure (s : State) (m : ClockMeasure) : State :=
  let s := s.putReg R.CLOCK_TJ (unsigned 16 m.tj)
  let s := m.ring.foldl (fun s x => if s.islandOn x.1 then s.putReg (R.CLOCK_ISLn_RO x.1) (sat32 x.2) else s) s
  m.slack.foldl (fun s x =>
    if !s.islandOn x.1 then s
    else
      let v : Int := x.2 - ((Config.islandK x.1 : Int) * (1100 - m.tj)).fdiv 10000
      let d := smGet (0, 0) s.clock.today x.1
      let s := s.putFld (F.CLOCK_ISLn_STATE_MARGIN x.1) (unsigned 16 v)
      s.setClock { s.clock with
        margins := smPut s.clock.margins x.1 v, today := smPut s.clock.today x.1 (d.1 + s.atCeiling x.1 v, d.2 + 1) }) s

/-- The ON islands that have been measured. -/
def State.measured (s : State) : List Nat := (s.clock.margins.filter (fun x => s.islandOn x.1)).map (·.1)

/-- The island with the least margin, the lowest of them. -/
def State.worstIsland (s : State) : Option Nat :=
  s.measured.foldl (fun (a : Option Nat) i => match a with
    | none => some i
    | some j => if s.margin i < s.margin j then some i else some j) none

/-! AVS (R441). -/

/-- VOUT_COMMAND of a request: round(V × 2^−EXP). -/
def linear16 (mv exp : Nat) : Nat :=
  let e := signed 5 exp
  let n := if e < 0 then mv * 2 ^ (-e).toNat else mv / 2 ^ e.toNat
  (n + 500) / 1000 % 65536

/-- The write of a request goes out, with the address, exponent and PEC kept for it; it is checked 1 ms later. -/
def State.avsWrite (s : State) (mv : Nat) (again : Bool) : State :=
  match s.ageing.target with
  | none => s
  | some (addr, exp, pec) =>
    let s := s.setClock { s.clock with avs := some (mv, again, s.bases.mono), avsAt := s.bases.mono }
    (s.count R.CLOCK_AVS_WRITES).emit (.pmbus addr (linear16 mv exp) pec)

/-- A request is made. -/
def State.avsSend (s : State) (mv : Nat) : State :=
  (s.setAgeing { s.ageing with
    request := mv, target := some (s.fld F.CLOCK_AVS_CFG_ADDR, s.fld F.CLOCK_AVS_CFG_EXP, s.isSet F.CLOCK_AVS_CFG_PEC) }).avsWrite mv false

/-- Less than 10 ms after a write no step of the request is made (R441). -/
def State.avsSoon (s : State) : Bool := s.clock.avsAt != 0 && decide (s.bases.mono < s.clock.avsAt + 10000000)

/-- The request changes. -/
def State.avsChange (s : State) (mv : Nat) : State :=
  let old := s.ageing.request
  let s := s.setClock { s.clock with oldReq := some (old, s.bases.mono + 2000000) }
  ((s.avsSend mv).event E.CLOCK_AVS_CHANGE noSource (leBytes 4 old ++ leBytes 4 mv)).raise I.CLOCK_AVS_CHANGE

/-- May a request be made? -/
def State.avsOpen (s : State) : Bool := s.isSet F.CLOCK_CTRL_AVS_EN && !s.isSet F.CLOCK_STATUS_AVS_FAIL && !s.pfwLow

/-- AVS_CHECK: 1 ms after a write, VDD_CORE must be within 15 mV of the request; the write is repeated once. -/
def State.avsCheck (s : State) (mv : Nat) (ack : Bool) : State :=
  match s.clock.avs with
  | none => s
  | some (req, again, at') =>
    if s.bases.mono < at' + 1000000 then s
    else
      let s := s.putFld F.CLOCK_AVS_MV_MEASURED mv
      if ack ∧ req ≤ mv + 15 ∧ mv ≤ req + 15 then s.setClock { s.clock with avs := none }
      else if !again then (s.count R.CLOCK_AVS_RETRY).avsWrite req true
      else
        let s := (s.setClock { s.clock with avs := none, target := none }).putFld F.CLOCK_STATUS_AVS_FAIL 1
        (s.event E.CLOCK_AVS_FAIL noSource (leBytes 4 req ++ leBytes 4 mv)).raise I.CLOCK_AVS_FAIL

def execAvsCheck (t mv : Nat) (ack : Bool) (s : State) : Host.Outcome State Fault Refusal := run t (·.avsCheck mv ack) s

/-- One step of at most 10 mV toward what AVS_SET asked for. -/
def State.avsStep (s : State) : State :=
  match s.clock.target with
  | none => s
  | some v =>
    let req := s.ageing.request
    if v = req ∨ !s.avsOpen then s.setClock { s.clock with target := none }
    else s.avsChange (if req < v then min (req + 10) v else max (req - 10) v)

/-- The request starts toward a value: its first step, unless one was made within 10 ms. -/
def State.avsToward (s : State) (mv : Nat) : State :=
  let s := s.setClock { s.clock with target := some mv }
  if s.avsSoon then s else s.avsStep

/-! The re-plan (R442). -/

/-- A derate step changes. -/
def State.putStep (s : State) (i new : Nat) : State :=
  let old := s.derate i
  let s := (s.setAgeing { s.ageing with steps := smPut s.ageing.steps i new }).putFld (F.CLOCK_ISLn_STATE_STEP i) new
  (s.event E.CLOCK_DERATED i (leBytes 1 i ++ leBytes 1 old ++ leBytes 1 new)).raise I.CLOCK_DERATE

def State.low (s : State) : Int := 10 * s.fld F.CLOCK_MARGIN_CFG_LOW
def State.high (s : State) : Int := 10 * s.fld F.CLOCK_MARGIN_CFG_HIGH
def State.least (s : State) : Int := 10 * s.fld F.CLOCK_MARGIN_CFG_MIN

/-- Would an island one step less derated keep HIGH? With f(n) = (40 − n) / 40. -/
def keepsHigh (m high : Int) (step : Nat) : Bool :=
  decide (high * (40 - (step : Int)) ≤ 10000 * (40 - (step : Int)) - (10000 - m) * (41 - (step : Int)))

/-- The end of a re-plan: derating, the return toward nominal, a lower request, what is recorded. -/
def State.replanEnd (s : State) (r : Replan) (w : Nat) : State :=
  let m := s.margin w
  let s := if s.low ≤ m then s
    else if s.isSet F.CLOCK_CTRL_DERATE_EN ∧ derateable w ∧ s.derate w < 4 then s.putStep w (s.derate w + 1)
    else (s.event E.CLOCK_MARGIN_LOW w (leBytes 1 w ++ leBytes 4 (unsigned 32 m))).raise I.CLOCK_MARGIN_LOW
  let s := s.measured.foldl (fun s i =>
    if 0 < s.derate i ∧ keepsHigh (s.margin i) s.high (s.derate i) then s.putStep i (s.derate i - 1) else s) s
  let s := if !r.hourly then s
    else s.setClock { s.clock with highRuns := if s.measured.all (fun i => decide (s.high ≤ s.margin i)) then s.clock.highRuns + 1 else 0 }
  let s := if r.hourly ∧ 24 ≤ s.clock.highRuns ∧ s.isSet F.CLOCK_CTRL_LOWER_EN ∧ s.avsOpen ∧ s.avsFloor < s.ageing.request then
    s.avsToward (max s.avsFloor (s.ageing.request - 10)) else s
  let s := if m < s.least then s.event E.CLOCK_MARGIN_EXHAUSTED w (leBytes 1 w ++ leBytes 4 (unsigned 32 m)) else s
  let s := s.event E.CLOCK_REPLAN w (leBytes 1 w ++ leBytes 4 (unsigned 32 m) ++ leBytes 4 s.ageing.request)
  let s := ((s.count R.CLOCK_REPLANS).putPair R.CLOCK_REPLAN_LO s.bases.grid).putFld F.CLOCK_STATUS_REPLAN_RUNNING 0
  s.setClock { s.clock with replan := none }

/-- The re-plan goes on from a measurement: a step of the request, which waits where one was made within 10 ms, or its end. -/
def State.replanGo (s : State) (r : Replan) : State :=
  match s.worstIsland with
  | none => (s.setClock { s.clock with replan := none }).putFld F.CLOCK_STATUS_REPLAN_RUNNING 0
  | some w =>
    let m := s.margin w
    let req := s.ageing.request
    if m < s.low ∧ s.avsOpen ∧ req < s.avsCeil then
      let new := if s.avsSoon then req else min (req + 10) s.avsCeil
      let s := if new = req then s else s.avsChange new
      (s.setClock { s.clock with replan := some { r with worst := w, old := m, step := new - req, at' := s.bases.mono } }).putFld
        F.CLOCK_STATUS_REPLAN_RUNNING 1
    else s.replanEnd r w

/-- A re-plan starts with a measurement, or in M0, M1 and M11, and during a power fail, it is one (R446). -/
def State.replanStart (s : State) (hourly : Bool) (m : ClockMeasure) : State :=
  let s := s.measure m
  if s.mode < 2 ∨ 10 < s.mode ∨ s.clock.replan.isSome ∨ s.pfwLow then s else s.replanGo { hourly := hourly }

/-- HOURLY_REPLAN. -/
def State.hourlyReplan (s : State) (m : ClockMeasure) : State :=
  if s.bases.mono < s.clock.hourAt + 3600000000000 then s
  else (s.setClock { s.clock with hourAt := s.bases.mono }).replanStart true m

def execHourlyReplan (t : Nat) (m : ClockMeasure) (s : State) : Host.Outcome State Fault Refusal := run t (·.hourlyReplan m) s

/-- REPLAN_MEASURE: 10 ms after a step of the request the margins are measured again, and the step's effect is kept. -/
def State.replanMeasure (s : State) (m : ClockMeasure) : State :=
  if s.avsSoon ∨ s.clock.avs.isSome then s
  else
    match s.clock.replan with
    | some r =>
      let s := s.measure m
      if s.pfwLow then s
      else
        let sens := ((s.margin r.worst - r.old) * 10).fdiv r.step
        let s := if r.step = 0 then s else
          (s.setAgeing { s.ageing with sens := smPut s.ageing.sens r.worst sens }).putReg (R.CLOCK_ISLn_SENS r.worst) (unsigned 32 sens)
        s.replanGo r
    | none => if s.clock.target.isSome then (s.measure m).avsStep else s

def execReplanMeasure (t : Nat) (m : ClockMeasure) (s : State) : Host.Outcome State Fault Refusal := run t (·.replanMeasure m) s

/-- CANARY_ERROR: a timing error on a canary path starts a re-plan, or is served by the one in progress (R440, R446). -/
def State.canaryError (s : State) (island canary : Nat) (m : ClockMeasure) : State :=
  if 15 < island then s
  else
    let s := (s.count R.CLOCK_CANARY_ERRORS).event E.CLOCK_CANARY_ERROR island (leBytes 1 island ++ leBytes 4 canary)
    (s.raise I.CLOCK_CANARY_ERROR).replanStart false m

def execCanaryError (t island canary : Nat) (m : ClockMeasure) (s : State) : Host.Outcome State Fault Refusal :=
  run t (·.canaryError island canary m) s

/-! The forecast (R444). -/

/-- The least-squares slope of daily means, in 0.01 % per day. -/
def slope (l : List (Nat × Int)) : Rat :=
  let n : Rat := (l.length : Nat)
  let sx : Rat := l.foldl (fun a x => a + (x.1 : Nat)) 0
  let sy : Rat := l.foldl (fun a x => a + (x.2 : Int)) 0
  let sxx : Rat := l.foldl (fun a x => a + ((x.1 * x.1 : Nat) : Rat)) 0
  let sxy : Rat := l.foldl (fun a x => a + (((x.1 : Int) * x.2 : Int) : Rat)) 0
  (n * sxy - sx * sy) / (n * sxx - sx * sx)

/-- The forecast date of an island, in days since 1970-01-01 TAI. -/
def State.forecast (s : State) (i today : Nat) : Option Nat :=
  let l := smGet [] s.ageing.means i
  let v := slope l
  if l.length < 30 ∨ 0 ≤ v then none
  else
    let mc := ((l.head?.map (·.2)).getD 0 : Int)
    let f : Rat := if derateable i then 9 / 10 else 1
    let e : Rat := 10000 - (10000 - (mc : Rat)) * f
    some ((today : Int) + ((e - (s.least : Rat)) / (-v * f)).floor).toNat

/-- The dated alarm is given: for the first time, when the date moves more than 30 days earlier, or 30 days after the last. -/
def State.ageAlarm (s : State) (i today date : Nat) : State :=
  let again := match smFind s.clock.alarms i with
    | none => true
    | some (d, day) => decide (date + 30 < d) || decide (day + 30 ≤ today)
  if today + s.fld F.CLOCK_AGE_WARN_DAYS < date ∨ !again then s
  else
    let s := s.setClock { s.clock with alarms := smPut s.clock.alarms i (date, today) }
    (s.event E.CLOCK_AGE_FORECAST i (leBytes 1 i ++ leBytes 4 date)).raise I.CLOCK_AGE_ALARM

/-- AGE_FORECAST: once a day. -/
def State.ageForecast (s : State) : State :=
  if s.bases.mono < s.clock.dayAt + 86400000000000 then s
  else
    let today := s.bases.grid / 86400000000000
    let means := s.clock.today.foldl (fun (m : SMap (List (Nat × Int))) x =>
      if x.2.2 = 0 then m else smPut m x.1 (((today, x.2.1.fdiv x.2.2) :: smGet [] m x.1).take 90)) s.ageing.means
    let s := s.setAgeing { s.ageing with means := means }
    let s := s.setClock { s.clock with today := [], dayAt := s.bases.mono }
    (List.range 16).foldl (fun s i =>
      match s.forecast i today with
      | none => s.putReg (R.CLOCK_ISLn_FORECAST i) 0xFFFFFFFF
      | some d => (s.putReg (R.CLOCK_ISLn_FORECAST i) (sat32 d)).ageAlarm i today d) s

def execAgeForecast (t : Nat) (s : State) : Host.Outcome State Fault Refusal := run t State.ageForecast s

/-! Commands (R449). -/

/-- REPLAN. -/
def cmdReplan (m : ClockMeasure) (s : State) : CmdResult :=
  if s.mode < 2 ∨ 10 < s.mode then refuse s stIllegal
  else if s.clock.replan.isSome then refuse s stBusy
  else ok (s.replanStart false m)

def execReplan (t : Nat) (path : Path) (m : ClockMeasure) (s : State) : Host.Outcome State Fault Refusal := command t 27 1 path (cmdReplan m) s { measure := m }

/-- AVS_SET: the request moves in steps of 10 mV. -/
def cmdAvsSet (s : State) : CmdResult :=
  let mv := s.arg 27 0
  if s.mode ≠ 2 ∨ !s.isSet F.CLOCK_CTRL_AVS_EN ∨ s.isSet F.CLOCK_STATUS_AVS_FAIL then refuse s stIllegal
  else if mv < s.avsFloor ∨ s.avsCeil < mv then refuse s stBadArg
  else if s.clock.replan.isSome ∨ s.clock.avs.isSome then refuse s stBusy
  else ok (s.avsToward mv)

def execAvsSet (t : Nat) (path : Path) (s : State) : Host.Outcome State Fault Refusal := command t 27 2 path cmdAvsSet s

end Sys2Proof.Machine
end

