-- ==== Sys2Proof/Machine/Checks.lean ====
section
/-!
DEFINITION. Sys2Proof/Machine/Checks.lean: the cross-section checks of step 6 of a load (R53): what makes a draft fail with reason
TIEUP and a card or patch be refused. Each check lists the places that break a rule, as section type and offset in the body;
the first is the one reported (log 36).
-/

namespace Sys2Proof.Machine

/-- Section bodies by type. -/
abbrev Sections := Nat → List Byte

/-- The entries of a list that break a rule. -/
def bad {α : Type} (sec : Nat) (l : List (Nat × α)) (p : α → Bool) : List (Nat × Nat) := (l.filter (fun e => p e.2)).map (fun e => (sec, e.1))

/-- A rule on the body as a whole. -/
def rule (sec off : Nat) (broken : Bool) : List (Nat × Nat) := if broken then [(sec, off)] else []

/-- Entries of one size from an offset on, each with its offset. -/
def placed (body : List Byte) (off size n : Nat) : List (Nat × List Byte) :=
  (List.range n).map (fun i => (off + size * i, slice body (off + size * i) size))

/-- Each element with those before it. -/
def withPrior {α : Type} : List α → List α → List (α × List α)
  | _, [] => []
  | prior, a :: l => (a, prior) :: withPrior (prior ++ [a]) l

/-- Entries whose key does not rise. -/
def unsorted (sec : Nat) (key : List Byte → Nat) : List (Nat × List Byte) → List (Nat × Nat)
  | a :: b :: l => rule sec b.1 (decide (key b.2 ≤ key a.2)) ++ unsorted sec key (b :: l)
  | _ => []

/-! What the checks read of a configuration. -/

def Sections.rate (v : Sections) (l : Nat) : Nat := rateOf (leAt (v secTieup) (0x20 + 16 * (l % 4)) 1)
def Sections.code (v : Sections) (l : Nat) : Nat := leAt (v secTieup) (0x20 + 16 * l) 1
def Sections.wired (v : Sections) (l i : Nat) : Bool := bit (leAt (v secTieup) (0x21 + 16 * l) 1) i
def Sections.opens (v : Sections) (l : Nat) : Nat := leAt (v secTieup) (0x22 + 16 * l) 2
def Sections.capacity (v : Sections) (l : Nat) : Nat := leAt (v secTieup) (0x24 + 16 * l) 4 % 2 ^ 18
def Sections.depth (v : Sections) (l : Nat) : Nat := leAt (v secTieup) (0x28 + 16 * l) 2
def Sections.region (v : Sections) (r : Nat) : Nat := 2 ^ 21 * (leAt (v secTieup) (0x80 + 4 * r) 4)
def Sections.used (v : Sections) (d : Nat) : Bool := leAt (v secTieup) d 1 == 1
def Sections.threads (v : Sections) : List (Nat × List Byte) := (tableOf (v secCatalogue) 3).filter (fun e => catValid e.2)
def Sections.cat (v : Sections) (tid : Nat) : List Byte := entryOf (v secCatalogue) 3 tid
def Sections.stream (v : Sections) (sid : Nat) : List Byte := entryOf (v secStreams) 0 sid
def Sections.set (v : Sections) (n : Nat) : List Byte := setEntry (v secLoom) n
def Sections.gate (v : Sections) (tid : Nat) : Bool := lsGate (v.set (catSet (v.cat tid)))
def Sections.emits (v : Sections) (tid : Nat) : Bool := catEmit (v.cat tid)
/-- The class 4 stream whose WID run holds a WID: SID and entry. -/
def Sections.widStream (v : Sections) (w : Nat) : Option (Nat × List Byte) :=
  (tableOf (v secStreams) 0).find? (fun e => stClass e.2 == 4 && decide (stFirstWid e.2 ≤ w ∧ w < stFirstWid e.2 + stBlocks e.2))
def Sections.wid (v : Sections) (w : Nat) : Option (List Byte) := (v.widStream w).map (·.2)
/-- The source unit of a thread (R186): its stream's SID; none for a derived thread. -/
def Sections.source (v : Sections) (e : List Byte) : Option Nat :=
  if catOrigin e = 0 then some (catSid e) else if catOrigin e = 3 then none else (v.widStream (catBlock e)).map (·.1)

/-- Kind a port runs in (R91): its `PORT_CFG.MODE` as the DEVICE body gives it; 0 disabled. -/
def Sections.device (v : Sections) : List (Nat × List Byte) := placed (v secDevice) 16 8 (leAt (v secDevice) 0 4)
def Sections.deviceValue (v : Sections) (addr : Nat) : Option Nat :=
  (v.device.find? (fun e => leAt e.2 0 4 % 2 ^ 25 == addr)).map (fun e => leAt e.2 4 4)
def Sections.portOn (v : Sections) (p : Nat) : Bool :=
  v.used (if p < 4 then pdNetA else pdNetB) && ((v.deviceValue (R.PORT_CFG p)).getD 0) % 4 != 0
def Sections.badPorts (v : Sections) (mask : Nat) : Bool := (List.range 8).any (fun p => bit mask p && !v.portOn p)

/-! Keyed records (R117). -/

/-- Records with their offsets: offset, table, index, entry. -/
def keyedOff : Nat → Nat → List Byte → List (Nat × Nat × Nat × List Byte)
  | 0, _, _ => []
  | n + 1, off, l =>
    if l.length < 8 then []
    else
      let t := leAt l 0 1
      (off, t, leAt l 4 4, slice l 8 (keyedSize t)) :: keyedOff n (off + 8 + keyedSize t) (l.drop (8 + keyedSize t))

def records (body : List Byte) : List (Nat × Nat × Nat × List Byte) := keyedOff (body.length / 16 + 1) 0 body

/-- How many entries a table has. -/
def tableLimit : Nat → Nat
  | 0 => 8192
  | 1 => 16384
  | 2 => 512
  | 3 => 131072
  | _ => 4096

/-- Records out of order, of another body's table, outside their table or cut short. -/
def checkRecords (sec lo hi : Nat) (body : List Byte) : List (Nat × Nat) :=
  let l := records body
  bad sec (l.map (fun r => (r.1, r.2))) (fun r => decide (r.1 < lo ∨ hi < r.1 ∨ tableLimit r.1 ≤ r.2.1 ∨ r.2.2.length < keyedSize r.1)) ++
    (withPrior [] l).flatMap (fun x => match x.2.getLast? with
      | some p => rule sec x.1.1 (decide (x.1.2.1 < p.2.1 ∨ x.1.2.1 = p.2.1 ∧ x.1.2.2.1 ≤ p.2.2.1))
      | none => [])

/-! DEVICE (R40). -/

/-- Values a field may take where its register table states a range (R40; at a write R473, log 46): address, high and low bit, least and greatest. -/
def draftRanges : List (Nat × Nat × Nat × Nat × Nat) :=
  [(R.TIME_SERVO_CFG, 15, 0, 100, 10000), (R.TIME_INPUT_CFG, 4, 2, 0, 4), (R.HEDDLE_SILENCE_MIN, 15, 0, 10, 60000),
   (R.REED_PASS_TOL, 16, 0, 0, 100000), (R.REED_DF_MAX, 13, 0, 100, 10000), (R.REED_DF_HOLD, 15, 0, 0, 60000),
   (R.LOOM_HIST_CFG, 31, 16, 1, 65535), (R.LOOM_HIST_CFG, 3, 0, 6, 15), (R.LOOM_OVERLOAD_CFG, 31, 24, 1, 255),
   (R.LOOM_OVERLOAD_CFG, 23, 16, 1, 255), (R.LOOM_OVERLOAD_CFG, 15, 0, 10, 10000), (R.OSC_PICK, 31, 24, 1, 255),
   (R.OSC_PICK, 15, 0, 30, 400), (R.OSC_GAP_MAX, 15, 0, 100, 60000), (R.OSC_ZETA_INIT, 31, 0, 0, 0x3F000000), (R.ISLE_SC_TIMEOUT, 15, 0, 10, 65535),
   (R.FAULT_RESTORE_S, 15, 0, 1, 3600), (R.PAIR_CLAIM, 3, 0, 1, 15), (R.PAIR_DEGRADE, 31, 16, 0, 60000),
   (R.PAIR_INTENT_LEAD, 9, 0, 10, 1000), (R.SLV_FWD_BACKLOG, 31, 0, 1, 64), (R.SLV_HOP_LIMIT, 31, 0, 2, 64),
   (R.SHUTTLE_CFG_PERIOD, 15, 0, 1, 3600), (R.LEDGER_COALESCE_MS, 31, 0, 0, 10000), (R.CLOCK_AVS_LIMITS, 31, 16, 0, 850),
   (R.CLOCK_AVS_LIMITS, 15, 0, 680, 65535)] ++
  (List.range 4).map (fun i => (R.LOOM_QUANTn i, 15, 0, 32768, 65535)) ++
  (List.range 16).map (fun i => (R.PORT_UDP_SVCn i, 17, 16, 0, 2)) ++
  (List.range 8).map (fun p => (R.PORT_CFG p, 1, 0, 0, 2)) ++
  (List.range 4).map (fun p => (R.PORT_PRP_CFG p, 15, 0, 100, 60000))

/-- Is a value outside a range stated for a field of the register? -/
def outOfRange (addr value : Nat) : Bool :=
  draftRanges.any (fun r => r.1 == addr && decide (bits value r.2.1 r.2.2.1 < r.2.2.2.1 ∨ r.2.2.2.2 < bits value r.2.1 r.2.2.1))

/-- Does the field take its value from the DEVICE body? -/
def RegField.draftField (f : RegField) : Bool := f.cls == .fromDraft || f.cls == .draft

/-- Fields that name a queue, and whether it must be an H2D queue that this field alone consumes. -/
def queueFields : List (Fld × Bool) :=
  [(F.PORT_SLOW_QUEUE_TX_QUEUE, true), (F.HEDDLE_QUEUES_INJECT_QUEUE, true), (F.PORT_SLOW_QUEUE_RX_QUEUE, false),
   (F.HEDDLE_QUEUES_CFG_QUEUE, false), (F.LOOM_QUEUES_LATE_QUEUE, false), (F.OSC_QUEUES_SHAPE_QUEUE, false),
   (F.VOTE_QUEUES_TEST_QUEUE, false), (F.VOTE_QUEUES_EVENT_QUEUE, false), (F.SHUTTLE_QUEUES_COPY_QUEUE, false),
   (F.SHUTTLE_QUEUES_CFG_QUEUE, false), (F.SHUTTLE_QUEUES_CMD_QUEUE, false), (F.SLV_QUEUES_RX_QUEUE, false),
   (F.ENERGY_QUEUES_INTERVAL_QUEUE, false), (F.LEDGER_QUEUES_COPY_QUEUE, false)]

/-- R351: an entry names a queue of the wrong direction, a disabled queue, or an H2D queue that has its consumer. -/
def Sections.badQueue (v : Sections) (addr value : Nat) : Bool :=
  let flag (q : Nat) := leAt (v secQueues) (8 * q) 1
  let named (f : Fld) (w : Nat) := bits w f.hi f.lo
  queueFields.any (fun x => x.1.addr == addr &&
    (let q := named x.1 value
     !bit (flag q) 0 || bit (flag q) 1 != x.2 ||
       (x.2 && queueFields.any (fun y => y.2 && decide (y.1.addr < x.1.addr) &&
         (match v.deviceValue y.1.addr with | some w => named y.1 w == q | none => false)))))

/-- The register domain is ABSENT in the tie-up (R40, R496). -/
def Sections.domainAbsent (v : Sections) (addr : Nat) : Bool :=
  let d := regDomain addr
  if addr / 2 ^ 20 = 2 ∧ d = pdCtrl then !v.used pdNetA && !v.used pdNetB else decide (d < 16) && !v.used d

/-- One entry of the DEVICE body. -/
def Sections.badDevice (v : Sections) (e : List Byte) : Bool :=
  let addr := leAt e 0 4 % 2 ^ 25
  let value := leAt e 4 4
  let b := addr / 2 ^ 20
  match regRow addr with
  | none => true
  | some r =>
    let own := r.fields.filter RegField.draftField
    let kept := BitVec.ofNat 32 (own.foldl (fun w f => withBits w f.hi f.lo 0) value)
    let rest := BitVec.ofNat 32 (own.foldl (fun w f => withBits w f.hi f.lo 0) (RegMap.resetValue addr).toNat)
    decide (addr % 4 ≠ 0) || decide (16 ≤ b ∧ b ≤ 23) || own.isEmpty || kept != rest || v.domainAbsent addr || outOfRange addr value ||
      addr == R.TIME_UTC || (List.range 32).any (fun q => addr == R.QUEUE_Qn_WATERMARK q || addr == R.QUEUE_Qn_MODERATION q) ||
      v.badQueue addr value

def checkDevice (v : Sections) : List (Nat × Nat) :=
  let b := v secDevice
  rule secDevice 0 (decide (4096 < leAt b 0 4 ∨ b.length ≠ 16 + 8 * leAt b 0 4)) ++
    unsorted secDevice (fun e => leAt e 0 4 % 2 ^ 25) v.device ++ bad secDevice v.device v.badDevice

/-! TIEUP (R37 to R41, R22, R294). -/

/-- Bytes to the next 2 MiB. -/
def up2M (n : Nat) : Nat := 2 ^ 21 * ((n + 2 ^ 21 - 1) / 2 ^ 21)

/-- What a TIEUP body breaks. Its reserved bytes are not looked at: DESIGN CHOICE (log 44), R39 says that they are 0 and gives no failure for
others. -/
def checkTieup (v : Sections) (claimMode : Nat) (pairFlag : Bool) : List (Nat × Nat) :=
  let b := v secTieup
  let mode := leAt b 0x10 1
  let t := secTieup
  rule t 0 (decide (b.length ≠ 320)) ++
    bad t ((List.range 16).map (fun d => (d, d))) (fun d => decide (1 < leAt b d 1) || (leAt b d 1 == 0 && !([2, 3, 4, 6, 7, 8, 9, 10] : List Nat).contains d)) ++
    rule t 0x10 (decide (2 < mode) || (mode != 0) != pairFlag || (mode == 1 && !v.used pdSlv) || (mode != 0 && mode - 1 != claimMode)) ++
    rule t 0x11 (decide (3 < leAt b 0x11 1) || (mode == 0 && leAt b 0x11 1 != 0)) ++
    (List.range 4).flatMap (fun l =>
      let o := 0x20 + 16 * l
      let cap := leAt b (o + 4) 4
      rule t o (rateOf (leAt b o 1) == 0 || (decide (15 ≤ leAt b o 1) && l != 3)) ++
        rule t (o + 1) (decide (31 < leAt b (o + 1) 1) || (cap == 0 && leAt b (o + 1) 1 != 0)) ++
        rule t (o + 2) (decide (v.opens l = 0 ∨ 256 < v.opens l) || (cap == 0 && v.opens l != 1)) ++
        rule t (o + 4) (decide (131072 < cap) || (l == 3 && decide (15 ≤ v.code 3 ∧ 4096 < cap))) ++
        rule t (o + 8) (decide (4096 < v.depth l) || (cap == 0 && v.depth l != 0)) ++
        rule t (o + 12) (decide (leAt b (o + 12) 4 < (cap * v.opens l + 511) / 512 * 64) || (cap == 0 && leAt b (o + 12) 4 != 0))) ++
    rule t 0x24 (decide (131072 < (List.range 4).foldl (fun a l => a + v.capacity l) 0)) ++
    rule t 0x2C (decide (2 ^ 22 < (List.range 4).foldl (fun a l => a + leAt b (0x2C + 16 * l) 4) 0)) ++
    bad t ((List.range 16).map (fun q => (0x60 + 2 * q, leAt b (0x60 + 2 * q) 2))) (fun n => decide (n = 0 ∨ 16 < n)) ++
    rule t 0x60 (decide (128 < (List.range 16).foldl (fun a q => a + leAt b (0x60 + 2 * q) 2) 0)) ++
    (List.range 4).flatMap (fun l =>
      rule t (0x80 + 4 * l) (decide (v.region l < up2M (v.capacity l * v.opens l * 10))) ++
        rule t (0x90 + 4 * l) (decide (v.region (4 + l) < up2M (v.capacity l * v.depth l * 10)))) ++
    rule t 0xA0 (decide (v.region 8 < leAt b 0x128 8)) ++ rule t 0xA4 (decide (v.region 9 < leAt b 0x130 8)) ++
    bad t ((List.range 16).map (fun i => (0x80 + 4 * (10 + i), v.region (10 + i)))) (fun n => decide (2 ^ 28 < n)) ++
    rule t 0x80 (decide (2 ^ 34 < (List.range 42).foldl (fun a r => a + v.region r) (2 ^ 26)))

/-- The domains a section belongs to (R36): it must be present when all of the first are USED, absent when any of the second is
ABSENT; PORTS goes with either port domain. -/
def mustHave (v : Sections) (ty : Nat) : Bool :=
  if ty = secPorts then v.used pdNetA || v.used pdNetB
  else if ty = secStreams ∨ ty = secCatalogue then v.used pdHeddle
  else if ty = secReed then v.used pdReed
  else if ty = secLoom then v.used pdLoom
  else if ty = secDerive then v.used pdLoom && v.used pdAna
  else if ty = secOsc ∨ ty = secIsle ∨ ty = secEnergy then v.used pdAna
  else if ty = secShuttle ∨ ty = secQueues then v.used pdShuttle
  else if ty = secSlv then v.used pdSlv
  else ty == secTime || ty == secAlarm || ty == secLedger

def mayHave (v : Sections) (ty : Nat) : Bool :=
  if ty = secCorrection then v.used pdReed else if ty = secCapt ∨ ty = secSig ∨ ty = secDevice ∨ ty = secTieup then true else mustHave v ty

/-! TIME (R79) and PORTS (R102, R109). -/

def notPositive (x : Nat) : Bool := !Fp.finite32 x || decide (Fp.toRat32 x < 0)

def checkTime (v : Sections) : List (Nat × Nat) :=
  let b := v secTime
  rule secTime 0 (decide (b.length ≠ 16)) ++ rule secTime 4 (notPositive (leAt b 4 4)) ++ rule secTime 8 (notPositive (leAt b 8 4))

def checkPorts (v : Sections) : List (Nat × Nat) :=
  let b := v secPorts
  let l := placed b 16 36 (leAt b 0 2)
  let mode (p : Nat) : Nat := (v.deviceValue (R.PORT_CFG p)).getD 0
  rule secPorts 0 (decide (256 < leAt b 0 2) || (List.range 4).any (fun i => bit (mode (2 * i)) 3 && mode (2 * i + 1) % 4 == 0)) ++
    unsorted secPorts (fun e => leAt e 0 4 % 256) l ++
    bad secPorts l (fun e => bits (leAt e 4 4) 30 29 == 3 || v.badPorts (bits (leAt e 4 4) 15 8))

/-! STREAMS (R115, R136). -/

/-- Could two entries match one frame (R115)? -/
def couldClash (a b : List Byte) : Bool :=
  let free (l : List Byte) := l.all (fun x => x == 0)
  stEnabled a && stEnabled b && stClass a == stClass b && stId a == stId b && (stHash a == 0 || stHash b == 0 || stHash a == stHash b) &&
    (stClass a == 2 || ((free (stSrc a) || free (stSrc b) || stSrc a == stSrc b) && (stPorts a &&& stPorts b) != 0))

def checkStreams (v : Sections) : List (Nat × Nat) :=
  let b := v secStreams
  let l := (records b).filterMap (fun r => if r.2.1 = 0 then some (r.1, r.2.2.2) else none)
  let g := (records b).filterMap (fun r => if r.2.1 = 2 then some (r.1, r.2.2.2) else none)
  checkRecords secStreams 0 2 b ++
    bad secStreams l (fun e => decide (4 < stClass e) || (stClass e == 4 && (slice e 14 10).any (fun x => x != 0))) ++
    (withPrior [] l).flatMap (fun x => rule secStreams x.1.1 (x.2.any (fun y => couldClash x.1.2 y.2))) ++
    bad secStreams g (fun e => (List.range 16).any (fun n => bit (leAt e 0x3A 2) n && leAt e (0x18 + n) 1 == 0xFF))

/-! CATALOGUE (R147 to R149, R153, R157, R185). -/

/-- The rate rule of a frame thread's kernel class (R149, R153, R154): of every entry in use, whether it gives an item or not. A digital
thread ignores its kernel (R155); a thread whose stream is unused has input rate 0. -/
def Sections.badRate (v : Sections) (e : List Byte) : Bool :=
  let r := v.rate (catLattice e)
  let st := v.stream (catSid e)
  let inp := if stClass st = 0 then 0 else stRate st
  if catOrigin e != 0 || catType e == 3 then false
  else match catKernel e with
    | 0 => decide (r = 0 ∨ inp < r) || inp % max 1 r != 0
    | 1 => decide (r < inp)
    | 2 => decide (r < inp)
    | 3 => (findBank (v secReed) inp (v.code (catLattice e))).isNone
    | _ => true

/-- R147 and R148. -/
def Sections.badCorrection (v : Sections) (e : List Byte) : Bool :=
  let t := entryOf (v secCorrection) 4 (catCorr e % 4096)
  leAt e 0x14 3 == 0x800000 ||
    (bit (catCorr e) 15 && (catType e == 1 || catType e == 3 || (catType e == 2 && leAt t 1 1 == 0) || t.isEmpty ||
      !Fp.finite32 (catNominal e) || Fp.toRat32 (catNominal e) == 0))

/-- R157: FREQ_TID names the thread itself or a frequency thread of its stream. -/
def Sections.badFreq (v : Sections) (tid : Nat) (e : List Byte) : Bool :=
  let f := v.cat (catFreqTid e)
  catOrigin e == 0 && catType e == 0 && catFreqTid e != tid &&
    !(catValid f && catType f == 1 && catOrigin f == 0 && catSid f == catSid e)

def Sections.badSet (v : Sections) (e : List Byte) : Bool :=
  let s := v.set (catSet e)
  catEmit e && (lsPolicy s == 3 || leAt s 2 1 % 4 != catLattice e)

def checkCatalogue (v : Sections) : List (Nat × Nat) :=
  let l := (records (v secCatalogue)).filterMap (fun r => if catValid r.2.2.2 then some (r.1, r.2.2) else none)
  checkRecords secCatalogue 3 3 (v secCatalogue) ++ checkRecords secCorrection 4 4 (v secCorrection) ++
    bad secCatalogue l (fun e => v.badCorrection e.2 || v.badRate e.2 || v.badFreq e.1 e.2 || (v.used pdLoom && v.badSet e.2))

/-- More VALID threads on a lattice than its capacity (R37). -/
def Sections.overCapacity (v : Sections) : Bool :=
  (List.range 4).any (fun l => decide (v.capacity l < (v.threads.filter (fun e => catLattice e.2 == l)).length))

/-! REED (R161, R168, R171). -/

def Sections.badEstimator (v : Sections) (es : List (List Byte)) (e : List Byte) : Bool :=
  let group := es.filter (fun x => esGroup x == esGroup e)
  let first := (group.find? (fun x => esMember x == 0 || esMember x == 3)).elim 0 esWid
  let p := v.cat (esTid e)
  let f := v.cat (esFreqTid e)
  let sr := ((v.wid (esWid e)).map stRate).getD 0
  let fl := v.rate 3
  decide (1 < leAt e 2 1 ∨ 1 < leAt e 3 1 ∨ 3 < esMember e) ||
    group.any (fun x => esM x != esM e || esF0 x != esF0 e || esFreqTid x != esFreqTid e) ||
    (let ms := group.map esMember; ms != [3] && !(ms.length == 3 && [0, 1, 2].all ms.contains)) ||
    !(catValid p && catOrigin p == 1 && catType p == 0 && catLattice p == 3 && catBlock p == esWid e && catKernel p == 0) ||
    !(catValid f && catOrigin f == 1 && catType f == 1 && catLattice f == 3 && catBlock f == first && catKernel f == 0) ||
    sr == 0 || sr % esF0 e != 0 || (esM e && decide (fl < 10 ∨ 2 * esF0 e < fl))

def Sections.badDetector (v : Sections) (e : List Byte) : Bool :=
  let c := v.cat (deTid e)
  let t := leAt e 12 4
  !(catValid c && catOrigin c == 2 && catType c == 2 && catKernel c == 0 && catBlock c == deWid e) ||
    (match deKind e with
      | 0 => decide (2 < deMode e ∨ 65536 < deW e)
      | 1 => decide (1 < deMode e ∨ deMode e = 0 ∧ 65536 < deW e ∨ deMode e = 1 ∧ (deW e = 0 ∨ 16 < deW e))
      | 2 => deMode e != 0 || !Fp.finite32 t || decide (Fp.toRat32 t < 1 / 1000 ∨ 10 < Fp.toRat32 t)
      | _ => true) ||
    (deKind e != 2 && t != 0)

/-- A coefficient bank's lattice rate code (R171): one of R38, and 15 or 16, which only L3 may run at, only where L3 does. -/
def Sections.badBank (v : Sections) (r : List Byte) : Bool :=
  let c := leAt r 2 1
  rateOf c == 0 || (decide (15 ≤ c) && v.code 3 != c)

def checkReed (v : Sections) : List (Nat × Nat) :=
  let b := v secReed
  let es := placed b (reedEstAt b) 16 (reedEstCount b)
  let ds := placed b (reedDetAt b) 16 (leAt b 4 2)
  rule secReed 0 (decide (16 < reedBanks b)) ++ rule secReed 2 (decide (4096 < reedEstCount b)) ++ rule secReed 4 (decide (4096 < leAt b 4 2)) ++
    rule secReed 0 (decide (b.length < reedDetAt b + 16 * leAt b 4 2)) ++
    bad secReed (placed b 0x90 32784 (min 16 (reedBanks b))) v.badBank ++ unsorted secReed esWid es ++ unsorted secReed deTid ds ++
    bad secReed es (v.badEstimator (es.map (·.2))) ++ bad secReed ds v.badDetector

/-- Bytes to the next 4 KiB. -/
def up4K (n : Nat) : Nat := 4096 * ((n + 4095) / 4096)

/-- The longest window of a detector, in samples (R168): W, or one lattice period, or CYCLES at nominal frequency; the taps of the Hilbert
filter for ENVELOPE, which has no W (log 44). -/
def Sections.detectorWindow (v : Sections) (e : List Byte) : Nat :=
  let sr := ((v.wid (deWid e)).map stRate).getD 1
  if deKind e = 2 then 31
  else if deKind e = 1 ∧ deMode e = 1 then
    (deW e * sr + 49) / (match (reedEstimators (v secReed)).find? (fun x => esWid x == deWid e) with | some x => esF0 x | none => 50)
  else if deW e = 0 then sr / max 1 (v.rate (catLattice (v.cat (deTid e)))) else deW e

/-- Bytes of Reed tap history that the sections need (R170). -/
def Sections.reedNeeds (v : Sections) : Nat :=
  let b := v secReed
  let sr (w : Nat) := ((v.wid w).map stRate).getD 1
  1024 * (v.threads.filter (fun e => catEmit e.2 && catKernel e.2 == 3 && catType e.2 != 3)).length +
    (reedEstimators b).foldl (fun a e => a + up4K (4 * (2 * estHalf (esM e) (sr (esWid e)) (esF0 e) (max 1 (v.rate 3)) + 1))) 0 +
    (reedDetectors b).foldl (fun a e => a + up4K (4 * v.detectorWindow e)) 0

/-! LOOM (R185) and DERIVE (R199). -/

def checkLoom (v : Sections) : List (Nat × Nat) :=
  let b := v secLoom
  let es := placed b 0 32 256
  let cap (l : Nat) : Nat := (1000000000 * (v.opens l - 1)) / max 1 (v.rate l)
  let inSet (n sid : Nat) : Bool := v.threads.any (fun e => catEmit e.2 && catSet e.2 == n && v.source e.2 == some sid)
  rule secLoom 0 (decide (b.length < 8192)) ++
    bad secLoom es (fun e => decide (3 < lsPolicy e)) ++
    bad secLoom es (fun e => lsPolicy e != 3 && decide (cap (leAt e 2 1 % 4) < 1000 * (leAt e 8 4))) ++
    bad secLoom (es.map (fun e => (e.1, (e.1 / 32, e.2)))) (fun e =>
      lsPolicy e.2 != 3 && (lsRequired b e.2).any (fun sid => !inSet e.1 (sid % 8192)))

/-- TYPEs that an operation takes at an input (R198); LINEAR takes any but digital. -/
def opTakes (op ty : Nat) : Bool := if op = 7 then ty == 1 else if op = 8 then ty != 3 else ty == 0
def opInputs (op n : Nat) : Bool :=
  match op with
  | 0 | 1 | 2 => n == 3
  | 3 | 5 | 6 | 7 => n == 2
  | 4 => n == 6
  | 8 => decide (1 ≤ n ∧ n ≤ 4)
  | _ => false

def Sections.badDerived (v : Sections) (e : List Byte) : Bool :=
  let out := v.cat (dvTid e)
  decide (8 < dvOp e) || !opInputs (dvOp e) (leAt e 5 1) || !lsGate (v.set (catSet out)) || leAt (v.set (catSet out)) 2 1 % 4 != catLattice out ||
    (dvInputs e).any (fun i =>
      let c := v.cat i.1
      catLattice c != catLattice out || !v.gate i.1 || !catValid c || !opTakes (dvOp e) (catType c) || (i.2 == 1 && catType c == 0) ||
        (catOrigin c == 3 && decide (dvTid e ≤ i.1)))

def checkDerive (v : Sections) : List (Nat × Nat) :=
  let b := v secDerive
  let es := placed b 0 64 (b.length / 64)
  rule secDerive 0 (decide (16384 < es.length)) ++ unsorted secDerive dvTid es ++ bad secDerive es v.badDerived

/-! OSC (R206, R207, R210, R226). -/

/-- A PART that a thread's TYPE allows (R206). -/
def partOk (part ty : Nat) : Bool :=
  match part with
  | 0 => ty == 1 || ty == 2 || ty == 4
  | 1 => ty == 1 || ty == 4
  | 2 | 3 => ty == 0
  | _ => false

def Sections.badProbe (v : Sections) (p : Nat) : Bool :=
  let c := v.cat (prTid p)
  !catEmit c || !partOk (prPart p) (catType c) || !v.gate (prTid p)

/-- R207: does the probe's lattice meet the band's rule? -/
def bandLattice (band l rate : Nat) : Bool :=
  match band with
  | 0 => decide (4 ≤ rate)
  | 1 => decide (8 ≤ rate)
  | 2 => decide (40 ≤ rate)
  | _ => (l == 3 && decide (120 ≤ rate)) || decide (240 ≤ rate)

/-- N_W of a tracker entry (R210). -/
def Sections.nw (v : Sections) (e : List Byte) : Nat :=
  let r := v.rate (catLattice (v.cat (prTid (teProbe e))))
  let m := max 1 (r / bandMin (teBand e))
  (teWindow e * r + m - 1) / m

def Sections.badTracker (v : Sections) (e : List Byte) : Bool :=
  let l := catLattice (v.cat (prTid (teProbe e)))
  let lo := leAt e 8 4
  let hi := leAt e 0xC 4
  v.badProbe (teProbe e) || decide (3 < leAt e 3 1) || !bandLattice (teBand e) l (v.rate l) ||
    (lo != 0 && (!Fp.finite32 lo || decide (teLo e < bandLo (teBand e) ∨ bandHi (teBand e) < teLo e))) ||
    (hi != 0 && (!Fp.finite32 hi || decide (teHi e < bandLo (teBand e) ∨ bandHi (teBand e) < teHi e))) || decide (teHi e ≤ teLo e) ||
    decide (((teWindow e : Nat) : Rat) * teLo e < 4) || decide (65536 < v.nw e) || decide (teWindow e < 5 ∨ 600 < teWindow e) ||
    decide (teModes e = 0 ∨ 4 < teModes e)

def Sections.badJob (v : Sections) (b e : List Byte) : Bool :=
  let lat (p : Nat) := catLattice (v.cat (prTid p))
  match (oscTrackers b).find? (fun t => t.1 == jeTracker e) with
  | none => true
  | some t => (List.range (jeMembers e)).any (fun i => v.badProbe (jeProbe e i) || lat (jeProbe e i) != lat (teProbe t.2)) ||
      decide (3 < leAt e 4 1 ∨ jePeriod e = 0 ∨ 60 < jePeriod e ∨ jeMembers e = 0 ∨ 256 < jeMembers e ∨ jeTau e < 2 ∨ 600 < jeTau e)

def checkOsc (v : Sections) : List (Nat × Nat) :=
  let b := v secOsc
  let ts := (oscEntries b).filterMap (fun e => if e.2 then none else some (e.1, slice b e.1 64))
  let js := (oscEntries b).filterMap (fun e => if e.2 then some (e.1, slice b e.1 (64 + 4 * leAt b (e.1 + 6) 2)) else none)
  rule secOsc 0 (decide (64 < js.length)) ++ unsorted secOsc (fun e => leAt e 0 2 % 4096) ts ++
    bad secOsc ts v.badTracker ++ bad secOsc js (v.badJob b)

/-- Bytes of tracker windows (R210). -/
def Sections.oscNeeds (v : Sections) : Nat := (oscTrackers (v secOsc)).foldl (fun a e => a + up4K (4 * v.nw e.2)) 0

/-- A Requirements record of the tie-up that is short of what the sections need (R37, R170, R210): R41 and R44 hold the region against it. -/
def Sections.badNeeds (v : Sections) : List (Nat × Nat) :=
  rule secTieup 0x128 (v.used pdReed && decide (leAt (v secTieup) 0x128 8 < v.reedNeeds)) ++
    rule secTieup 0x130 (v.used pdAna && decide (leAt (v secTieup) 0x130 8 < v.oscNeeds))

/-- Threads that trackers and jobs read (R226). -/
def probeThreads (b : List Byte) : List Nat :=
  (oscTrackers b).map (fun e => prTid (teProbe e.2)) ++
    (oscJobs b).flatMap (fun e => (List.range (jeMembers e.2)).map (fun i => prTid (jeProbe e.2 i)))

/-! ISLE (R242). -/

def checkIsle (v : Sections) : List (Nat × Nat) :=
  let b := v secIsle
  let l := isLattice b
  let as' := placed b 64 32 (leAt b 2 1)
  let ts := placed b (isTieOff b) 32 (leAt b 4 2)
  let ps := placed b (isPatternOff b) 64 (leAt b 6 2)
  let cs := placed b (isPatternOff b + 64 * leAt b 6 2) 32 (leAt b 3 1)
  let live := (ts.map (·.2)).filter (fun e => tiFlag e 0)
  let on (a : Nat) : Bool := as'.any (fun e => arNumber e.2 == a && arEnabled e.2)
  let thread (ty tid : Nat) : Bool := let c := v.cat tid; catValid c && catType c == ty && catLattice c == l && v.gate tid
  let confirmed : Bool := as'.any (fun e => arNumber e.2 == isHome b && (match arConfirm e.2 with
    | some t => let c := v.cat t
                catEmit c && catOrigin c == 1 && catType c == 1 && catLattice c == 3 && v.gate t
    | none => false))
  rule secIsle 2 (decide (leAt b 2 1 = 0 ∨ 64 < leAt b 2 1)) ++ unsorted secIsle arNumber as' ++ unsorted secIsle tiNumber ts ++
    bad secIsle as' (fun e => (arMembers b e 0 (arNf e)).any (fun m => !thread 1 m.1) || (arMembers b e (arNf e) (arNa e)).any (fun m => !thread 0 m.1)) ++
    bad secIsle as' (fun e => arEnabled e && decide (1 < leAt b 2 1) && !live.any (fun t => tiA t == arNumber e || tiB t == arNumber e)) ++
    bad secIsle ts (fun e => tiA e == tiB e || !on (tiA e) || !on (tiB e)) ++
    (withPrior [] ts).flatMap (fun x => rule secIsle x.1.1 (x.2.any (fun y =>
      (tiA y.2 == tiA x.1.2 && tiB y.2 == tiB x.1.2) || (tiA y.2 == tiB x.1.2 && tiB y.2 == tiA x.1.2)))) ++
    bad secIsle ts (fun e => (tiPatterns e).any (fun p => decide (leAt b 6 2 ≤ p))) ++
    bad secIsle ts (fun e => tiFlag e 3 && ((tiA e != isHome b && tiB e != isHome b) || !confirmed || decide (v.rate 3 < v.rate l))) ++
    bad secIsle ps (fun e => (patternTerms e).any (fun w => !thread 3 (w % 2 ^ 17))) ++
    bad secIsle cs (fun e => (!(thread 0 (cpTid e 0) && thread 0 (cpTid e 1) && thread 1 (cpTid e 2) && thread 1 (cpTid e 3)) ||
      !live.any (fun t => tiNumber t == cpTie e)))

/-! ALARM (R252). -/

def formOk (kind form : Nat) : Bool :=
  match kind with
  | 0 => decide (form ≤ 6)
  | 1 => decide (form ≤ 3)
  | 2 => decide (form ≤ 4)
  | 3 => form == 0
  | 4 => decide (form ≤ 2)
  | _ => false

def Sections.badPoint (v : Sections) (blocks : List (List Byte)) (prior : List (List Byte)) (e : List Byte) : Bool :=
  let src := apSource e
  let c := v.cat (src % 2 ^ 17)
  let finite := ([0, 1, 2].map (apTh e)).all Fp.finite32 && Fp.finite32 (apHyst e) && decide (0 ≤ Fp.toRat32 (apHyst e))
  !formOk (apKind e) (apForm e) || !finite || apOn e == 0 || apOff e == 0 ||
    ((apKind e == 0 && (apForm e == 2 || apForm e == 3) || apKind e == 1 && apForm e == 2) &&
      decide (Fp.toRat32 (apTh e 1) < Fp.toRat32 (apTh e 0))) ||
    (apKind e == 0 && (catLattice c != apLattice e || !v.gate (src % 2 ^ 17) || !catValid c ||
      (catType c == 3 && apForm e != 5 && apForm e != 6) || (catType c != 3 && apForm e == 5) ||
      (catType c != 3 && !partOk (bits src 19 17) (catType c)))) ||
    (apKind e == 1 && (match (oscTrackers (v secOsc)).find? (fun t => t.1 == src % 4096) with
      | some t => catLattice (v.cat (prTid (teProbe t.2))) != apLattice e
      | none => true)) ||
    (apKind e == 2 && isLattice (v secIsle) != apLattice e) ||
    (apKind e == 3 && (decide (2 < bits src 15 11) || (match (enEntries (v secEnergy)).find? (fun f => f.1 == src % 2048) with
      | some f => feLattice f.2 != apLattice e
      | none => true))) ||
    (apKind e == 4 && (apMembers e).any (fun a => !prior.any (fun p => apNumber p == a && apEnabled p && apLattice p == apLattice e))) ||
    (match apBlock e with
      | some cb => blocks.any (fun g => gbNumber g == cb && gbLayout g == 0) ||
          prior.any (fun p => apBlock p == some cb && apMember p == apMember e)
      | none => false)

def checkAlarm (v : Sections) : List (Nat × Nat) :=
  let b := v secAlarm
  let ps := placed b 16 64 (leAt b 0 4)
  let gs := placed b (16 + 64 * leAt b 0 4) 256 (leAt b 4 4)
  unsorted secAlarm apNumber ps ++ unsorted secAlarm gbNumber gs ++
    (withPrior [] ps).flatMap (fun x => rule secAlarm x.1.1 (v.badPoint (gs.map (·.2)) (x.2.map (·.2)) x.1.2))

/-! SHUTTLE (R336) and QUEUES (R351). -/

/-- The frame rates of C37.118 streams that the scope gives: those of the lattices (R2). -/
def c37Rates : List Nat := [1, 2, 5, 10, 12, 15, 20, 25, 30, 50, 60, 100, 120, 200, 240, 480, 960]

/-- A channel's TYPE at its place in the list: phasor, analog (or a derived pair), digital. -/
def channelOk (place part ty : Nat) : Bool :=
  if place = 0 then ty == 0 else if place = 1 then (ty == 2 && part == 0) || (ty == 4 && decide (part ≤ 1)) || (ty == 1 && decide (part ≤ 1)) else ty == 3

def osBlockBad (v : Sections) (b : List Byte) (l : Nat) (e : List Byte) : Bool :=
  let list (i n place : Nat) : Bool := (List.range n).any (fun k =>
    let w := leAt b (obList e + 8 * (i + k)) 4
    let c := v.cat (w % 2 ^ 17)
    !catValid c || catLattice c != l || !channelOk place (bits w 19 17) (catType c))
  let f := v.cat (obFreqTid e)
  list 0 (obPh e) 0 || list (obPh e) (obAn e) 1 || list (obPh e + obAn e) (obDg e) 2 || !catValid f || catLattice f != l || catType f != 1

/-- Bytes of a block in a C37.118 data frame. -/
def osBlockBytes (e : List Byte) : Nat :=
  2 + obPh e * 2 * phWidth (obFormat e) + 2 * frWidth (obFormat e) + obAn e * anWidth (obFormat e) + 2 * obDg e

def Sections.badOs (v : Sections) (keys : List Nat) (b e : List Byte) : Bool :=
  let l := osLattice e
  let r := v.rate l
  let bs := (List.range (osBlocks e)).map (fun i => osBlock b (osFirstBlock e + i))
  let channels := bs.foldl (fun a x => a + obPh x + obAn x + obDg x + 1) 0
  !v.wired l 1 || r % osDivider e != 0 || (decide (osProtocol e < 2) && !c37Rates.contains (r / osDivider e)) ||
    decide ((1000000000 * (v.opens l + v.depth l - 1)) / max 1 r < osOffset e) || decide (leAt b 4 4 < osFirstBlock e + osBlocks e) ||
    bs.any (osBlockBad v b l) || decide (65535 < 16 + bs.foldl (fun a x => a + osBlockBytes x) 0) || decide (8192 < channels) ||
    v.badPorts (osPorts e) || (osProtocol e == 2 && !bit (osKeyGroup e) 7 && !(keyGroup (osKeyGroup e % 64)).any keys.contains)

def checkShuttle (v : Sections) (keys : List Nat) : List (Nat × Nat) :=
  let b := v secShuttle
  let es := placed b 16 128 (leAt b 0 4)
  let total := ((List.range (leAt b 4 4)).map (osBlock b)).foldl (fun a x => a + obPh x + obAn x + obDg x + 1) 0
  rule secShuttle 4 (decide (2048 < leAt b 4 4 ∨ 524288 < total)) ++ unsorted secShuttle osNumber es ++
    bad secShuttle es (v.badOs keys b)

def checkQueues (v : Sections) : List (Nat × Nat) := rule secQueues 0 (decide ((v secQueues).length ≠ 256))

/-! SLV (R314). -/

def checkSlv (v : Sections) : List (Nat × Nat) :=
  let b := v secSlv
  let roles := (List.range 4).map (fun n => leAt b (4 + n) 1)
  let up := (roles.filter (· == 1)).length
  let ring := (roles.filter (· == 3)).length
  let root := bit (leAt b 2 1) 0
  let mirror := (List.range 4).filter (fun n => roles.getD n 0 == 4)
  let paired := leAt (v secTieup) 0x10 1 != 0
  rule secSlv 0 (decide (leAt b 0 2 = 0 ∨ leAt b 0 2 = 0xFFFF)) ++ rule secSlv 3 (decide (leAt b 3 1 < 2 ∨ 64 < leAt b 3 1)) ++
    rule secSlv 4 (decide (1 < up) || !(ring == 0 || ring == 2) || (root && decide (0 < up)) || roles.any (fun r => decide (4 < r)) ||
      (if paired then mirror != [leAt (v secTieup) 0x11 1 % 4] else !mirror.isEmpty) ||
      ((List.range 4).any (fun l => v.wired l 2) && !root && up == 0 && ring != 2)) ++
    (List.range 4).flatMap (fun l => rule secSlv (0x18 + 4 * l) ((fwdList b l).any (fun t => !catEmit (v.cat t) || catLattice (v.cat t) != l)))

/-! CAPT (R365, R367). -/

def checkCapt (v : Sections) : List (Nat × Nat) :=
  let b := v secCapt
  let rs := placed b 0 64 16
  let ins := placed b 1024 4 256
  let subs := (tableOf (v secStreams) 2).filter (fun e => bit (leAt e.2 0 1) 0)
  let names (i : Nat) : Bool := subs.any (fun e => (List.range 16).any (fun n => bit (leAt e.2 0x3A 2) n && leAt e.2 (0x28 + n) 1 == i))
  bad secCapt (rs.map (fun e => (e.1, (e.1 / 64, e.2)))) (fun x =>
      let e := x.2
      (ceEnabled e && decide (v.region (26 + x.1) < 2 ^ 21)) ||
        ((ceEnabled e || ceChannels e + ceWids e != 0) && !v.wired (ceLattice e) 3) ||
        (List.range (ceChannels e)).any (fun i =>
          let o := ceList e + 16 * i
          let c := v.cat (leAt b o 4 % 2 ^ 17)
          !catEmit c || catLattice c != ceLattice e || notPositive (leAt b (o + 4) 4) || notPositive (leAt b (o + 8) 4)) ||
        (List.range (ceWids e)).any (fun i => (v.wid (leAt b (ceList e + 16 * ceChannels e + 4 * i) 4 % 4096)).isNone) ||
        (List.range 4).any (fun i => decide (64 ≤ leAt e (0x10 + i) 1) && leAt e (0x10 + i) 1 != 0xFF)) ++
    bad secCapt (ins.map (fun e => (e.1, ((e.1 - 1024) / 4, leAt e.2 0 4 % 16)))) (fun x => (x.2 == 1) != names x.1)

/-! ENERGY (R386). -/

def checkEnergy (v : Sections) : List (Nat × Nat) :=
  let b := v secEnergy
  let es := placed b 64 64 (leAt b 2 2)
  let typeAt (e : List Byte) (i : Nat) : Nat → Bool := fun ty => if feKind e = 0 ∧ i = 0 then ty == 4 else ty == 0
  let opOf (t : Nat) : Nat := ((dvEntries (v secDerive)).find? (fun d => dvTid d == t)).elim 99 dvOp
  let needed (e : List Byte) : List Nat := if feKind e = 0 then [0] else if feKind e = 1 then [0, 1] else [0, 1, 2, 3, 4, 5]
  rule secEnergy 0 (!([1, 5, 10, 15, 30, 60] : List Nat).contains (leAt b 0 1)) ++ rule secEnergy 2 (decide (2048 < leAt b 2 2)) ++
    unsorted secEnergy (fun e => leAt e 0 2 % 2048) es ++
    bad secEnergy es (fun e => (decide (2 < feKind e) || !v.wired (feLattice e) 4 || !(feMult e == 1 || feMult e == 3) ||
      (feMult e == 3 && feKind e != 1) || (needed e).any (fun i => (feTid e i).isNone) ||
      (flowInputs e).any (fun i => match feTid e i with
        | some t => let c := v.cat t
                    !catValid c || catLattice c != feLattice e || !typeAt e i (catType c) || !v.gate t ||
                      (feKind e == 0 && i == 0 && !([3, 4, 5] : List Nat).contains (opOf t))
        | none => false))) ++
    (List.range 4).flatMap (fun n =>
      let w := leAt b (0x10 + 12 * n) 2
      rule secEnergy (0x10 + 12 * n) (bit w 15 && !(es.any (fun e => leAt e.2 0 2 % 2048 == w % 2048 && feEnabled e.2))))

/-! All of them. -/

/-- The first place where the sections that cards and patches may carry break a rule (R43, R44). -/
def crossChecks (v : Sections) (keys : List Nat) : List (Nat × Nat) :=
  (if v.used pdHeddle then checkStreams v ++ checkCatalogue v else []) ++ (if v.used pdReed then checkReed v else []) ++
    (if v.used pdLoom then checkLoom v else []) ++ (if v.used pdLoom && v.used pdAna then checkDerive v else []) ++
    (if v.used pdAna then checkOsc v ++ checkIsle v else []) ++ checkAlarm v ++ (if v.used pdShuttle then checkShuttle v keys else []) ++
    (if (v secCapt).isEmpty then [] else checkCapt v) ++ (if v.used pdAna then checkEnergy v else [])

end Sys2Proof.Machine
end

