-- ==== Sys2Proof/Machine/ObjOps.lean ====
section
/-!
DEFINITION. Sys2Proof/Machine/ObjOps.lean: drafts, cards and patches as objects of bytes (R32 to R48): the checks of header, table, bodies
and signature, the tie-up and cross-section checks, and a patch merged into its base (R43).
-/

namespace Sys2Proof.Machine

/-- Where an object fails: reason of `DRAFT_STATUS.FAIL_REASON`, section INDEX (0xFF header or table), byte offset. -/
structure LoadFailure where
  reason : Nat
  sec : Nat
  off : Nat
  deriving DecidableEq, Repr

abbrev frMagic : Nat := 1
abbrev frVersion : Nat := 2
abbrev frDeviceType : Nat := 3
abbrev frLength : Nat := 4
abbrev frHdrCrc : Nat := 5
abbrev frSectionTable : Nat := 6
abbrev frSectionCrc : Nat := 7
abbrev frSignature : Nat := 8
abbrev frKeyRevoked : Nat := 9
abbrev frUnsigned : Nat := 10
abbrev frTieup : Nat := 11
abbrev frSourceIo : Nat := 12
abbrev frAborted : Nat := 13
abbrev frRevision : Nat := 14
abbrev frNoImage : Nat := 15

/-! Header (R33, R42) and section table (R34). -/

abbrev magicDraft : List Byte := [0x43, 0x52, 0x58, 0x44]
abbrev magicCard : List Byte := [0x43, 0x52, 0x58, 0x43]

def ohTotal (o : List Byte) : Nat := leAt o 8 4
def ohSections (o : List Byte) : Nat := leAt o 0xC 2
def ohSigned (o : List Byte) : Bool := bit (leAt o 0xE 2) 0
def ohPair (o : List Byte) : Bool := bit (leAt o 0xE 2) 1
def ohDraftId (o : List Byte) : Nat := leAt o 0x18 8
def ohGeneration (o : List Byte) : Nat := leAt o 0x2C 4
def ohBaseId (o : List Byte) : Nat := leAt o 0x30 8
def ohBind (o : List Byte) : Nat := leAt o 0x38 1
def ohSlot (o : List Byte) : Nat := leAt o 0x39 1

/-- The greatest TOTAL_LEN of a draft, and of a card or patch. -/
def ohLimit (draft : Bool) : Nat := if draft then 2 ^ 25 else 2 ^ 20

/-- Entry i of the table, and all of them with their places. -/
def tableEntry (o : List Byte) (i : Nat) : List Byte := slice o (0x40 + 16 * i) 16
def tableEntries (o : List Byte) : List (Nat × List Byte) := (List.range (ohSections o)).map (fun i => (i, tableEntry o i))

def seType (e : List Byte) : Nat := leAt e 0 1
def seIndex (e : List Byte) : Nat := leAt e 1 1
def seOffset (e : List Byte) : Nat := leAt e 4 4
def seLength (e : List Byte) : Nat := leAt e 8 4
def seCrc (e : List Byte) : Nat := leAt e 0xC 4

/-- The first failure of a list of tests, each with the reason, section and offset it reports. -/
def firstFailure (l : List (Bool × Nat × Nat × Nat)) : Option LoadFailure :=
  (l.find? (fun x => x.1)).map (fun x => ⟨x.2.1, x.2.2.1, x.2.2.2⟩)

/-- The header's checks in the order of R53. `held` is how many bytes the source holds (R52). -/
def checkHeader (draft : Bool) (held : Nat) (o : List Byte) : Option LoadFailure :=
  firstFailure
    [(decide (held < 64), frLength, 0xFF, 0), (slice o 0 4 != (if draft then magicDraft else magicCard), frMagic, 0xFF, 0),
     (leAt o 4 2 != 1, frVersion, 0xFF, 4), (leAt o 6 2 != 64, frLength, 0xFF, 6), (leAt o 0x10 4 != 0x8160, frDeviceType, 0xFF, 0x10),
     (decide (Config.siliconRevision < leAt o 0x14 1), frRevision, 0xFF, 0x14),
     (ohTotal o % 64 != 0 || decide (ohLimit draft < ohTotal o ∨ held < ohTotal o), frLength, 0xFF, 8),
     (leAt o 0x3C 4 != crc32c ones32 (o.take 60), frHdrCrc, 0xFF, 0x3C)]

/-- R36 for one entry: its type, INDEX and place, its body apart from those before it, and SIG's own rules. -/
def badEntry (o : List Byte) (draft : Bool) (before : List (Nat × List Byte)) (i : Nat) (e : List Byte) : Bool :=
  let stop := seOffset e + seLength e
  let n := ohSections o
  let ty := seType e
  decide (ty = 0 ∨ 0x14 < ty) || (draft && ((i == 0 && ty != secDevice) || (i == 1 && ty != secTieup))) || seIndex e != i ||
    seOffset e % 64 != 0 || decide (seOffset e < 64 + 16 * n ∨ ohTotal o < stop) || seLength e == 0 ||
    before.any (fun b => seType b.2 == ty || decide (seOffset b.2 < stop ∧ seOffset e < seOffset b.2 + seLength b.2)) ||
    (ty == secSig && (i + 1 != n || seLength e != 132 || before.any (fun b => decide (seOffset e < seOffset b.2)) || decide (stop + 64 ≤ ohTotal o)))

/-- The table's checks (R36, R48). -/
def checkTable (draft : Bool) (o : List Byte) : Option LoadFailure :=
  let l := tableEntries o
  firstFailure
    ([(decide (ohSections o < (if draft then 2 else 1) ∨ 64 < ohSections o), frSectionTable, 0xFF, 0xC)] ++
      (withPrior [] l).map (fun x => (badEntry o draft x.2 x.1.1 x.1.2, frSectionTable, 0xFF, 0x40 + 16 * x.1.1)) ++
      [(ohSigned o != l.any (fun e => seType e.2 == secSig), frSectionTable, 0xFF, 0xE)])

/-- Is every byte from an offset to another 0, and the first that is not? -/
def gapFault (o : List Byte) (a b : Nat) : Bool × Nat × Nat × Nat :=
  let l := slice o a (b - a)
  (l.any (fun x => x != 0), frSectionTable, 0xFF, a + (l.takeWhile (fun x => x == 0)).length)

/-- The gaps between the bodies: from the table's end to TOTAL_LEN, less the bodies in order of their places. The bytes before the first body, and
after the last one of an unsigned object, count as gaps too: DESIGN CHOICE (log 44), R36 speaks of gaps between bodies and of the padding
after SIG. -/
def gaps (o : List Byte) : List (Nat × Nat) :=
  let places := (tableEntries o).foldl (fun (m : SMap Nat) e => smPut m (seOffset e.2) (seOffset e.2 + seLength e.2)) []
  let r := places.foldl (fun (a : Nat × List (Nat × Nat)) p => (p.2, a.2 ++ [(a.1, p.1)])) (64 + 16 * ohSections o, [])
  r.2 ++ [(r.1, ohTotal o)]

/-- The bodies as they stream (R53): each CRC with INDEX folded in (R34), then the zero filling (R36). -/
def checkBodies (o : List Byte) : Option LoadFailure :=
  firstFailure
    ((tableEntries o).map (fun e =>
      (seCrc e.2 != crc32c (ones32 ^^^ seIndex e.2) (slice o (seOffset e.2) (seLength e.2)), frSectionCrc, e.1, seOffset e.2)) ++
      (gaps o).map (fun g => gapFault o g.1 g.2))

/-- The object as held: its header, bodies by type, length and signature state. -/
def Obj.read (o : List Byte) : Obj where
  header := o.take 64
  sections := (tableEntries o).map (fun e => (seType e.2, slice o (seOffset e.2) (seLength e.2)))
  length := ohTotal o
  signed := ohSigned o
  keySlot := match (tableEntries o).find? (fun e => seType e.2 == secSig) with
    | some e => leAt o (seOffset e.2 + 128) 1
    | none => 0

/-! Signature (R46 to R48). -/

/-- The digest of a signed object: up to the SIG body, with the CRC of the SIG entry taken as 0. -/
def signedDigest (o : List Byte) (i off : Nat) : List Byte :=
  sha256 (o.take (0x4C + 16 * i) ++ [0, 0, 0, 0] ++ slice o (0x50 + 16 * i) (off - (0x50 + 16 * i)))

/-- `DRAFT_KEYS` of the one-time memory. -/
def State.keyProgrammed (s : State) (k : Nat) : Bool := decide (k < 4) && bit (s.fld F.DRAFT_KEYS_PROGRAMMED) k
def State.keyRevoked (s : State) (k : Nat) : Bool := decide (k < 4) && bit (s.fld F.DRAFT_KEYS_REVOKED) k

/-- Must an object be signed (R48)? -/
def State.mustSign (s : State) (draft : Bool) : Bool :=
  s.isSet F.DRAFT_KEYS_SIGN_REQUIRED || s.isSet F.DRAFT_CTRL_REQUIRE_SIGNED ||
    (!draft && (match s.draft.base with | some b => b.signed | none => false))

/-- The signature's checks in the order of R47. -/
def State.checkSignature (s : State) (draft : Bool) (o : List Byte) : Option LoadFailure :=
  match (tableEntries o).find? (fun e => seType e.2 == secSig) with
  | none => firstFailure [(s.mustSign draft, frUnsigned, 0xFF, 0)]
  | some e =>
    let b := slice o (seOffset e.2) 132
    let k := leAt b 128 1
    let key := b.take 64
    firstFailure
      [(s.keyRevoked k, frKeyRevoked, e.1, seOffset e.2), (!s.keyProgrammed k, frSignature, e.1, seOffset e.2),
       (smFind s.keyHashes k != some (sha256 key), frSignature, e.1, seOffset e.2),
       (!ecdsaVerify key (signedDigest o e.1 (seOffset e.2)) (slice b 64 64), frSignature, e.1, seOffset e.2)]

/-- Steps 2 to 5 of R53 on an object whose source holds `held` bytes. -/
def State.checkObject (s : State) (draft : Bool) (held : Nat) (o : List Byte) : Option LoadFailure :=
  match checkHeader draft held o with
  | some f => some f
  | none =>
    match checkTable draft o with
    | some f => some f
    | none =>
      match checkBodies o with
      | some f => some f
      | none => s.checkSignature draft o

/-! Step 6: the tie-up and the sections against one another. -/

/-- An object's bodies by type. -/
def Obj.view (o : Obj) : Sections := fun ty => (o.body ty).getD []

/-- Sections present that must be absent, and whether one that must be present is missing (R36). -/
def presence (o : Obj) : List (Nat × Nat) :=
  let v := o.view
  ((o.sections.filter (fun e => !mayHave v e.1)).map (fun e => (e.1, 0))) ++
    (if ((List.range 0x15).any (fun ty => mustHave v ty && (o.body ty).isNone)) then [(secTieup, 0)] else [])

/-- Everything a draft breaks, in the order looked at (log 36). The 64 bytes of a LEDGER body are not looked at: DESIGN CHOICE (log 44), R36 says
that they are 0 and gives no failure for others. -/
def draftFaults (o : Obj) (claimMode : Nat) (pairFlag : Bool) (keys : List Nat) : List (Nat × Nat) :=
  let v := o.view
  let here (ty : Nat) (f : Sections → List (Nat × Nat)) := if (o.body ty).isSome then f v else []
  match checkTieup v claimMode pairFlag ++ presence o with
  | [] =>
    checkDevice v ++ checkTime v ++ rule secCatalogue 0 v.overCapacity ++ v.badNeeds ++ here secPorts checkPorts ++ here secQueues checkQueues ++ here secSlv checkSlv ++ crossChecks v keys
  | l => l

/-- The fault of a draft as it is reported: INDEX of its section and the offset in the object. -/
def tieupFailure (o : List Byte) (l : List (Nat × Nat)) : Option LoadFailure :=
  match l with
  | [] => none
  | (ty, off) :: _ =>
    match (tableEntries o).find? (fun e => seType e.2 == ty) with
    | some e => some ⟨frTieup, e.1, seOffset e.2 + off⟩
    | none => some ⟨frTieup, 1, seOffset (tableEntry o 1)⟩

/-- Every check of R53 on a draft. -/
def State.checkDraft (s : State) (held : Nat) (o : List Byte) : Option LoadFailure :=
  match s.checkObject true held o with
  | some f => some f
  | none => tieupFailure o (draftFaults (Obj.read o) s.boot.2.2 (ohPair o) (s.heddle.keys.map (·.1)))

/-! A patch merged into its base (R43). -/

/-- Two tables as one; the second's entries win, keys rise. -/
def overlaid {α : Type} (a b : SMap α) : SMap α := b.foldl (fun m e => smPut m e.1 e.2) (a.foldl (fun m e => smPut m e.1 e.2) [])

/-- A keyed record's bytes (R117). -/
def recordBytes (r : Nat × Nat × List Byte) : List Byte := leBytes 4 (r.1 % 256) ++ leBytes 4 r.2.1 ++ r.2.2

def mergeKeyed (base patch : List Byte) : List Byte :=
  let by' (l : List Byte) := (keyed l).map (fun r => (2 ^ 32 * r.1 + r.2.1, r))
  (overlaid (by' base) (by' patch)).flatMap (fun e => recordBytes e.2)

/-- Entries of a body under their numbers. -/
def numbered (key : List Byte → Nat) (l : List (List Byte)) : SMap (List Byte) := l.map (fun e => (key e, e))

/-- A section's 16-byte head. -/
def head16 (n1 n2 : Nat) : List Byte := leBytes 4 n1 ++ leBytes 4 n2 ++ leBytes 8 0

/-- Entries of the first kind of a patch's DERIVE body. -/
def patchDerived (b : List Byte) : List (List Byte) := (List.range (leAt b 0 4)).map (fun i => slice b (16 + 64 * i) 64)

def mergeDerive (base patch : List Byte) : List Byte :=
  (overlaid (numbered dvTid (dvEntries base)) (numbered dvTid (patchDerived patch))).flatMap (·.2)

def gooseNumber (e : List Byte) : Nat := leAt e 0 1 % 32

def mergeAlarm (base patch : List Byte) : List Byte :=
  let ps := overlaid (numbered apNumber (alarmEntries base)) (numbered apNumber (alarmEntries patch))
  let gs := overlaid (numbered gooseNumber (gooseEntries base)) (numbered gooseNumber (gooseEntries patch))
  head16 ps.length gs.length ++ ps.flatMap (·.2) ++ gs.flatMap (·.2)

/-- The block indices a stream names. -/
def osIndices (e : List Byte) : List Nat := (List.range (osBlocks e)).map (osFirstBlock e + ·)

/-- The block indices that a patch's streams name, rising: the patch's block entries stand for them in order (log 37). -/
def patchIndices (patch : List Byte) : List Nat :=
  ((osEntries patch).flatMap osIndices).foldl (fun (m : SMap Unit) i => smPut m i ()) [] |>.map (·.1)

/-- A block entry with its channel list. -/
def blockWithList (body : List Byte) (i : Nat) : List Byte × List Byte :=
  let e := osBlock body i
  (e, slice body (obList e) (8 * (obPh e + obAn e + obDg e)))

/-- The blocks of the base that still have a stream, and those the patch brings. -/
def mergedBlocks (base patch : List Byte) : SMap (List Byte × List Byte) :=
  let changed := (osEntries patch).map osNumber
  let kept := ((osEntries base).filter (fun e => !changed.contains (osNumber e))).flatMap osIndices
  overlaid ((kept.filter (fun i => decide (i < leAt base 4 4))).map (fun i => (i, blockWithList base i)))
    ((patchIndices patch).zipIdx.map (fun x => (x.1, blockWithList patch x.2)))

def mergeShuttle (base patch : List Byte) : List Byte :=
  let es := overlaid (numbered osNumber (osEntries base)) (numbered osNumber (osEntries patch))
  let bs := mergedBlocks base patch
  let n := match bs.getLast? with | some b => b.1 + 1 | none => 0
  let start := 16 + 128 * es.length + 64 * n
  let r := (List.range n).foldl (fun (a : Nat × List Byte × List Byte) i =>
    match smFind bs i with
    | some b => (a.1 + b.2.length, a.2.1 ++ b.1.take 0x10 ++ leBytes 4 a.1 ++ b.1.drop 0x14, a.2.2 ++ b.2)
    | none => (a.1, a.2.1 ++ leBytes 64 0, a.2.2)) (start, [], [])
  head16 es.length n ++ es.flatMap (·.2) ++ r.2.1 ++ r.2.2

/-- A patch names a block twice, or one that nobody brings (R43). -/
def badBlocks (base patch : List Byte) : Bool :=
  let es := overlaid (numbered osNumber (osEntries base)) (numbered osNumber (osEntries patch))
  let named := es.flatMap (fun e => osIndices e.2)
  let bs := mergedBlocks base patch
  (withPrior [] named).any (fun x => x.2.contains x.1) || named.any (fun i => (smFind bs i).isNone) ||
    leAt patch 4 4 != (patchIndices patch).length

/-- A section of the base with the patch's section of its type merged in. -/
def mergeSection (ty : Nat) (base patch : List Byte) : List Byte :=
  if ty = secStreams ∨ ty = secCatalogue ∨ ty = secCorrection then mergeKeyed base patch
  else if ty = secDerive then mergeDerive base patch
  else if ty = secAlarm then mergeAlarm base patch
  else if ty = secShuttle then mergeShuttle base patch
  else base

/-- The base with a patch merged in (R58). -/
def Obj.patched (base patch : Obj) : Obj :=
  let own := base.sections.map (fun e => match patch.body e.1 with
    | some b => (e.1, mergeSection e.1 e.2 b)
    | none => e)
  let new := patch.sections.filter (fun e => e.1 != secSig && (base.body e.1).isNone)
  { base with sections := own ++ new.map (fun e => (e.1, mergeSection e.1 [] e.2)) }

/-! Cards and patches (R42 to R45, R55, R58). -/

/-- Section types a card and a patch may carry (R43). -/
def cardTypes : List Nat :=
  [secCatalogue, secReed, secLoom, secDerive, secOsc, secIsle, secAlarm, secShuttle, secCapt, secEnergy, secSig]
def patchTypes : List Nat := [secStreams, secCatalogue, secCorrection, secDerive, secAlarm, secShuttle, secSig]

/-- A patch's own records are out of order or outside their table (R43, R117). -/
def badPatch (o : Obj) : Bool :=
  let v := o.view
  let here (ty : Nat) (b : Bool) := (o.body ty).isSome && b
  let rises (key : List Byte → Nat) (l : List (List Byte)) := (unsorted 0 key (l.map (fun e => (0, e)))).isEmpty
  here secStreams (!(checkRecords 0 0 2 (v secStreams)).isEmpty) || here secCatalogue (!(checkRecords 0 3 3 (v secCatalogue)).isEmpty) ||
    here secCorrection (!(checkRecords 0 4 4 (v secCorrection)).isEmpty) ||
    here secDerive (!rises dvTid (patchDerived (v secDerive)) || leAt (v secDerive) 4 4 != 0) ||
    here secAlarm (!(rises apNumber (alarmEntries (v secAlarm)) && rises gooseNumber (gooseEntries (v secAlarm)))) ||
    here secShuttle (!rises osNumber (osEntries (v secShuttle)))

/-- A configuration that a card or patch leads to: capacity and requirements (R44), then every cross-section check. -/
def configFaults (v : Sections) (keys : List Nat) : Option (Nat × Nat) :=
  if v.overCapacity || (v.used pdReed && decide (v.region 8 < v.reedNeeds)) || (v.used pdAna && decide (v.region 9 < v.oscNeeds)) then
    some (stNoSpace, 0)
  else if !(crossChecks v keys).isEmpty then some (stBadArg, frTieup)
  else none

/-- A failure of steps 2 to 5 as a status: AUTH_FAIL for a signature's (R47, R48), else BAD_ARG (log 37). -/
def LoadFailure.status (f : LoadFailure) : Nat := if 8 ≤ f.reason ∧ f.reason ≤ 10 then stAuthFail else stBadArg

/-- A card against the running base (R44). -/
def State.judgeCard (s : State) (o : Obj) : Option (Nat × Nat) :=
  let v : Sections := fun ty => bodyOf s.draft.base (some o) ty
  if ohBaseId o.header ≠ s.draftId ∨ ohBind o.header < 4 ∨ 10 < ohBind o.header ∨ 15 < ohSlot o.header then some (stBadArg, 0)
  else if o.sections.any (fun e => !cardTypes.contains e.1) then some (stBadArg, 0)
  else if o.sections.any (fun e => !mayHave v e.1) then some (stBadArg, frTieup)
  else configFaults v (s.heddle.keys.map (·.1))

/-- Threads a patch withdraws that a probe or a mode-shape member of the base or of a held card reads. -/
def State.withdrawsProbe (s : State) (old new : Obj) : Bool :=
  let gone := ((tableOf (old.view secCatalogue) 3).filter (fun e => catValid e.2 && !catValid (new.view.cat e.1))).map (·.1)
  let users := probeThreads (old.view secOsc) ++ s.draft.cards.flatMap (fun c => probeThreads (c.2.view secOsc))
  gone.any users.contains

/-- A patch against the running base (R43, R44). -/
def State.judgePatch (s : State) (base o : Obj) : Option (Nat × Nat) :=
  let new := base.patched o
  if ohBaseId o.header ≠ s.draftId ∨ ohBind o.header ≠ 0xFF ∨ ohSlot o.header ≠ 0 then some (stBadArg, 0)
  else if o.sections.any (fun e => !patchTypes.contains e.1) || badPatch o then some (stBadArg, 0)
  else if (o.body secShuttle).isSome && badBlocks (base.view secShuttle) (o.view secShuttle) then some (stBadArg, 0)
  else if s.withdrawsProbe base new then some (stBadArg, 0)
  else if o.sections.any (fun e => !mayHave new.view e.1) then some (stBadArg, frTieup)
  else configFaults new.view (s.heddle.keys.map (·.1))

end Sys2Proof.Machine
end

