-- ==== Sys2Proof/Machine/DraftOps.lean ====
section
/-!
DEFINITION. Sys2Proof/Machine/DraftOps.lean: a load from its beginning to its end (R52 to R55), cards and patches held (R45, R58),
and a change of configuration at a slot (R56 to R60).
-/

namespace Sys2Proof.Machine

/-! Reset classes (R9, R10). -/

/-- A register's word with the fields that pass a test at their reset values. -/
def RegRow.restored (r : RegRow) (p : RegField → Bool) (w : Nat) : Nat :=
  r.fields.foldl (fun w f => if p f then withBits w f.hi f.lo f.value else w) w

/-- Every register's fields that pass a test take their reset values. -/
def State.resetFields (s : State) (p : RegField → Bool) : State :=
  s.setRegs (s.regs.filterMap (fun e =>
    match regRow e.1 with
    | none => some e
    | some r =>
      let v := BitVec.ofNat 32 (r.restored p e.2.toNat)
      if v = RegMap.resetValue e.1 then none else some (e.1, v)))

def RegField.draftClass (f : RegField) : Bool := f.cls == .draft || f.cls == .fromDraft
def RegField.modeClass (f : RegField) : Bool := f.cls == .mode || f.cls == .fromMode

/-! A draft taken (steps 7 and 8 of R53). -/

/-- An entry of the DEVICE body (R40): each field the draft gives takes its bits. -/
def State.applyDevice (s : State) (e : List Byte) : State :=
  let addr := leAt e 0 4 % 2 ^ 25
  match regRow addr with
  | none => s
  | some r =>
    s.putReg addr ((r.fields.filter RegField.draftField).foldl (fun w f => withBits w f.hi f.lo (bits (leAt e 4 4) f.hi f.lo)) (s.regN addr))

/-- The queues from their QUEUES entries and the tie-up (R351): empty, STOPPED where enabled. -/
def State.loadQueues (s : State) : State :=
  let b := s.cfg secQueues
  let t := s.cfg secTieup
  (List.range 32).foldl (fun s q =>
    let e := slice b (8 * q) 8
    let size := if q < 16 then leAt t (0x60 + 2 * q) 2 * 4 else s.regionSize (q - 6) / 4096
    let on := bit (leAt e 0 1) 0
    let s := s.putReg (R.QUEUE_Qn_CFG q) ((if on then size * 8 else 0) + (if q < 16 then 0 else 4) + leAt e 0 1 % 4)
    let s := s.putReg (R.QUEUE_Qn_WATERMARK q) (leAt e 1 1 * 256 + leAt e 2 1)
    let s := s.putReg (R.QUEUE_Qn_MODERATION q) (65536 * (leAt e 4 2) + leAt e 6 2)
    let s := s.queueState q (if on then 1 else 0)
    if on then s.putLevel q {} else s.putReg (R.QUEUE_Qn_LEVEL q) 0) (s.setQueues [])

/-- The ports: multicast table from the PORTS body (R102), fixed latencies of the mode each port runs in (R111). -/
def State.loadPorts (s : State) : State :=
  let b := s.cfg secPorts
  let s := (s.setPort {}).setRegs (s.regs.filter (fun e => !decide (R.PORT_MCASTn_W0 0 ≤ e.1 ∧ e.1 < R.PORT_MCASTn_W0 256)))
  let s := (placed b 16 36 (leAt b 0 2)).foldl (fun s e =>
    (List.range 8).foldl (fun s w =>
      s.putReg (R.PORT_MCASTn_W0 (leAt e.2 0 4 % 256) + 4 * w) (leAt e.2 (4 + 4 * w) 4 &&& mcastMask w)) s) s
  (List.range 8).foldl (fun s p => s.showLatency p) s

/-- TIME as PD_TIME comes ON at a load (R70, R79): nothing of an earlier GRID is kept. -/
def State.loadTime (s : State) : State :=
  let b := s.cfg secTime
  let s := (s.setTime {}).setBases { mono := s.bases.mono }
  let s := s.putFld F.TIME_UTC_TAI_UTC (leAt b 0 2)
  (s.putFld F.TIME_UTC_VALID 1).putFld F.TIME_UTC_SOURCE 0

/-- Blocks that keep nothing over a load: frames and items on their way, Heddle's streams, Reed, the Loom and its work area with the rest of
the Stacks, OSC, ISLE, the lanes, FAULT's elements (R279). Key slots of Heddle stay (log 37). -/
def State.clearBlocks (s : State) : State :=
  let s := ((((s.setHedQ []).setReedQ []).setWaveQ []).setInputQ []).setLoomQ []
  let s := s.setHeddle { keys := s.heddle.keys, start := s.bases.mono }
  let s := s.setReed { second := s.bases.mono / 1000000000 }
  let s := s.setLoom { second := s.bases.mono / 1000000000, refreshed := s.bases.mono }
  let s := s.setStk []
  let s := ((s.setOsc {}).setIsle {}).setVote { sink := s.vote.sink }
  let s := s.setFault { recoveries := s.fault.recoveries, since := s.fault.since, holdSet := s.fault.holdSet }
  s.setPair { s.pair with cmp := 0, cmpAt := none, raised := none, yieldWait := none, hello := none, energyAt := none, ckptAt := none
                          mirror := {}, lastHeld := 0 }

/-- Every USED domain comes ON; the others read ABSENT (R21, R433). -/
def State.powerUsed (s : State) : State :=
  (List.range 16).foldl (fun s d =>
    let was := s.domain d
    if s.usedDomain d then (s.setDomain d 0).domainEvent d was 0 3 else s.putDomain d 3) s

/-- Code of a source in `DRAFT_STATUS.SOURCE`. -/
def sourceCode (source : Nat) : Nat := if source = 0 then 1 else if source = 3 then 3 else if source = 4 then 4 else 2

/-- The registers that describe the running base (R66). A load that succeeds sets FAIL_REASON back to 0 NONE: DESIGN CHOICE (log 44), R66 does not
say when it clears. -/
def State.showDraft (s : State) (o : Obj) (source : Nat) : State :=
  let s := (s.putPair R.DRAFT_ID_LO (ohDraftId o.header)).putReg R.DRAFT_GENERATION (ohGeneration o.header)
  let s := s.putFld F.DRAFT_DOMAINS_USED (bitsOf 16 (fun d => leAt (o.view secTieup) d 1 == 1))
  let s := (s.putFld F.DRAFT_STATUS_SOURCE (sourceCode source)).putFld F.DRAFT_STATUS_IMAGE (if source = 2 then 1 else 0)
  let s := (s.putFld F.DRAFT_STATUS_SIGNED (if o.signed then 1 else 0)).putFld F.DRAFT_KEYS_KEY_USED (if o.signed then o.keySlot else 0)
  let s := (s.putFld F.DRAFT_STATUS_FAIL_REASON 0).putFld F.DRAFT_STATUS_LOAD_STATE 2
  s.putFld F.GLOBAL_STATUS_DRAFT_HELD 1

/-- Steps 7 and 8 of R53. -/
def State.takeDraft (s : State) (l : LoadReq) (o : Obj) : State :=
  let s := s.setDraft { base := some o, imageWrite := s.draft.imageWrite }
  let s := s.resetFields (fun f => f.draftClass || f.modeClass)
  let s := (s.showDraft o l.source).clearBlocks
  let b := s.cfg secDevice
  let s := (placed b 16 8 (leAt b 0 4)).foldl (fun s e => s.applyDevice e.2) s
  let s := s.loadTime.powerUsed
  let s := ([0, 1, 2].foldl (fun s i => s.putFld (laneFld i) 0) s).showFenced.clearFault
  let s := s.loadPorts.loadQueues
  let s := (s.assignWeft.showLattices.showSets).captLoad
  let s := (s.shuttleLoad (ohGeneration o.header)).slvLoad
  let s := s.putFld F.ISLE_SC_TIMEOUT_S (if s.usedDomain pdAna then leAt (s.cfg secIsle) 0xA 2 else 0)
  let s := (s.oscReset.energyLoad.showSwitch).enterMode 2
  let s := (((tableOf (s.cfg secStreams) 0).filter (fun e => stEnabled e.2)).map (·.1)).foldl State.enterWaiting s
  let s := (if s.pairMode = 0 then s else s.condition 4 true).updateHolding
  let s := s.putReg R.DRAFT_LOAD_TIME (sat32 ((s.bases.mono - l.start) / 1000))
  (s.event E.DRAFT_LOAD_OK (s.fld F.DRAFT_STATUS_IMAGE) (leBytes 8 (ohDraftId o.header) ++ leBytes 1 (sourceCode l.source) ++
    leBytes 1 (s.fld F.DRAFT_STATUS_IMAGE) ++ leBytes 1 (if o.signed then 1 else 0))).raise I.DRAFT_LOAD_DONE

/-! The draft shadow (R25). -/

/-- An object's bytes as the shadow holds them once a patch is merged: header and table anew, each body at the next multiple of 64 (log 45). -/
def Obj.image (o : Obj) : List Byte :=
  let n := o.sections.length
  let start := (64 + 16 * n + 63) / 64 * 64
  let r := o.sections.zipIdx.foldl (fun (a : List Byte × List Byte) e =>
    let off := start + a.2.length
    let b := e.1.2
    (a.1 ++ leBytes 1 e.1.1 ++ leBytes 1 e.2 ++ [0, 0] ++ leBytes 4 off ++ leBytes 4 b.length ++ leBytes 4 (crc32c (ones32 ^^^ e.2) b),
     a.2 ++ b ++ List.replicate ((64 - b.length % 64) % 64) 0)) ([], [])
  let h := o.header.take 8 ++ leBytes 4 (start + r.2.length) ++ leBytes 2 n ++ slice o.header 0xE 0x2E
  h ++ leBytes 4 (crc32c ones32 h) ++ r.1 ++ List.replicate (start - (64 + 16 * n)) 0 ++ r.2

/-- The running base stands at the bottom of the shadow, card slot n in the n-th MiB from 32 MiB on: they fill the 48 MiB below the Loom's work
area (R180). The places are DEDUCED (log 45). -/
def shadowCard (n : Nat) : Nat := 2 ^ 25 + 2 ^ 20 * n

/-- Bytes of an object in the shadow, with nothing left of what stood in its place. -/
def State.putShadow (s : State) (a size : Nat) (l : List Byte) : State := (s.setStk (memClear s.stk a size)).stkStore a (l.take size)

/-! Cards held (R45, R55). -/

/-- The card slot a mode is bound to by the cards held: of those whose BIND names it, the one loaded latest. -/
def DraftSt.binding (d : DraftSt) (m : Nat) : Option Nat :=
  d.recent.find? (fun n => match smFind d.cards n with | some o => ohBind o.header == m | none => false)

/-- `DRAFT_CARDS` and the binding registers follow the cards held. -/
def State.showCards (s : State) : State :=
  let byte (m : Nat) : Nat := match s.draft.binding m with | some n => 16 + n | none => 0
  let word (m n : Nat) : Nat := (List.range n).foldl (fun a i => a + byte (m + i) * 256 ^ i) 0
  let s := (s.putReg R.DRAFT_BIND0 (word 4 4)).putReg R.DRAFT_BIND1 (word 8 3)
  s.putFld F.DRAFT_CARDS_HELD (bitsOf 16 (fun n => (smFind s.draft.cards n).isSome))

/-- A card slot bound to the mode in force, or whose card is in force (R45, log 37). -/
def State.slotInForce (s : State) (n : Nat) : Bool := s.boundCard s.mode == some n || s.cardInForce == some n

/-- A card slot bound to the mode of a pending switch (R60). -/
def State.slotPending (s : State) (n : Nat) : Bool :=
  match s.draft.switch with
  | some w => w.card == some n || s.boundCard w.target == some n
  | none => false

/-- A card or patch is refused (R55, R66). -/
def State.refuseObject (s : State) (status reason slot : Nat) : State :=
  (s.event E.DRAFT_CARD_REFUSED slot (leBytes 1 status ++ leBytes 1 reason ++ leBytes 1 slot)).raise I.DRAFT_CARD_FAIL

/-- REQUEST_REFUSED of an opcode or a requested mode (R67). -/
def State.refusedRequest (s : State) (code status : Nat) : State :=
  s.event E.DRAFT_REQUEST_REFUSED noSource (leBytes 1 code ++ leBytes 1 status)

/-- The checks of a card, in the order of R55; `held` bytes are in its source. -/
def State.cardVerdict (s : State) (held : Nat) (o : List Byte) : Option (Nat × Nat) :=
  match s.checkObject false held o with
  | some f => some (f.status, f.reason)
  | none =>
    match s.judgeCard (Obj.read o) with
    | some v => some v
    | none => if s.slotInForce (ohSlot o) || s.slotPending (ohSlot o) then some (stIllegal, 0) else none

/-- A card whose checks have been made: held under its slot, or refused. A card for the mode in force that comes into a free slot is bound at once
and becomes active with the next switch to its mode: DESIGN CHOICE (log 44), R45 gives the binding and R56 makes every activation a switch. -/
def State.takeCard (s : State) (held : Nat) (o : List Byte) : State :=
  let n := ohSlot o
  match s.cardVerdict held o with
  | some (status, reason) =>
    let s := s.refuseObject status reason n
    if status = stIllegal ∧ s.slotPending n then s.refusedRequest 3 stIllegal else s
  | none =>
    let x := Obj.read o
    let s := s.setDraft { s.draft with cards := smPut s.draft.cards n x, recent := n :: s.draft.recent.filter (fun m => m != n) }
    let s := s.putShadow (shadowCard n) (2 ^ 20) (o.take (ohTotal o))
    s.showCards.event E.DRAFT_CARD_LOADED n (leBytes 1 n ++ leBytes 1 (ohBind o) ++ leBytes 1 (if x.signed then 1 else 0))

/-- Cards behind the base in an image or in QSPI (R49, R459): one on each 4 KiB boundary in turn, until one does not begin with "CRXC"
or the source or its 32 MiB end. One that fails is skipped. -/
def State.takeCards : Nat → State → List Byte → State
  | 0, s, _ => s
  | n + 1, s, o =>
    if o.take 4 != magicCard then s
    else
      let size := if o.length < 64 ∨ ohTotal o < 64 ∨ 2 ^ 20 < ohTotal o then 64 else ohTotal o
      State.takeCards n (s.takeCard o.length o) (o.drop (up4K size))

/-! A load's source and its end. -/

/-- What the source of a load holds (R52): the host's ARG3 bytes, the 32 MiB of an image, the flash, the bytes received on the UART. The
bytes of the host and the flash are the environment's. -/
def State.sourceBytes (s : State) (l : LoadReq) (object : List Byte) : List Byte :=
  if l.source = 1 then memRead (archiveDefault 0) s.archive 0 (2 ^ 25)
  else if l.source = 2 then memRead (archiveDefault 0) s.archive (2 ^ 25) (2 ^ 25)
  else if l.source = 0 then object.take l.length
  else if l.source = 4 then (match s.host.uart with | some u => u.bytes.take u.length | none => [])
  else object

/-- State of an image (`DRAFT_IMAGES`): 0 EMPTY, 1 VALID, 2 INVALID, 3 WRITING. -/
def State.imageState (s : State) (i : Nat) : Nat := bits (s.regN R.DRAFT_IMAGES) (2 * i + 1) (2 * i)
def State.putImage (s : State) (i v : Nat) : State := s.putReg R.DRAFT_IMAGES (withBits (s.regN R.DRAFT_IMAGES) (2 * i + 1) (2 * i) v)

/-- An image that is not VALID fails at once, without being read (R51). R51 says so of a boot; that a commanded LOAD of such an image fails the same
way is a DESIGN CHOICE (log 44). -/
def State.noImage (s : State) (l : LoadReq) : Bool := (l.source == 1 || l.source == 2) && s.imageState (l.source - 1) != 1

/-- Checks that failed and passed when their data were read again (R53): section INDEX, 0xFF header or table. -/
def State.retries (s : State) (source : Nat) (retried : List Nat) : State :=
  retried.foldl (fun s i => (s.event E.DRAFT_SECTION_RETRY noSource (leBytes 4 i ++ leBytes 1 (sourceCode source))).count R.FAULT_TRANSIENT) s

/-- A draft load ends in failure: the automatic boot goes on to image B, any other ends in M0 (R50, R54). -/
def State.draftFails (s : State) (l : LoadReq) (f : LoadFailure) : State :=
  if l.auto ∧ l.source = 1 then
    let s := (s.event E.DRAFT_IMAGE_FALLBACK noSource (leBytes 1 f.reason)).raise I.DRAFT_FALLBACK
    let b := { l with source := 2 }
    let s := s.setDraft { s.draft with load := some b }
    if s.noImage b then s.failLoad frNoImage 0xFF 0 else s
  else s.failLoad f.reason f.sec f.off

/-- The pending patch's S (R58): not before T_stage + 1 ms, not after 24 h, its index within the L0 rate. -/
def State.patchSlotOk (s : State) (tag n : Nat) : Bool :=
  let at' := s.instant 0 tag
  decide (tag % 65536 < s.rate 0 ∧ s.now + stageTime n + 1000000 ≤ at' ∧ at' ≤ s.now + 86400000000000)

/-- The catalogue before and after a patch leads to weft indices, or to none left (R178). -/
def State.weftAfter (s : State) (old new : Sections) (tag : Nat) : Option State :=
  s.changeWeft (tableOf (old secCatalogue) 3) (tableOf (new secCatalogue) 3) tag

/-- The checks of a patch, in the order of R55, then its switch slot `tag`, given before PATCH was issued (R58), and its indices (R178). -/
def State.patchVerdict (s : State) (held tag : Nat) (o : List Byte) : Option (Nat × Nat) :=
  match s.draft.base, s.checkObject false held o with
  | none, _ => some (stIllegal, 0)
  | _, some f => some (f.status, f.reason)
  | some base, none =>
    match s.judgePatch base (Obj.read o) with
    | some v => some v
    | none =>
      if !s.patchSlotOk tag (ohTotal o) then some (stBadArg, 0)
      else if (s.weftAfter base.view (base.patched (Obj.read o)).view tag).isNone then some (stNoSpace, 0)
      else none

/-- A patch whose checks have been made: pending at its S, or refused. The section types in PATCH_ACCEPTED (R67) are a 4-byte mask, bit n for
type code n: DESIGN CHOICE (log 44), the spec names them without an encoding. -/
def State.takePatch (s : State) (held tag : Nat) (o : List Byte) : State :=
  match s.patchVerdict held tag o with
  | some (status, reason) => s.refuseObject status reason 0
  | none =>
    let x := Obj.read o
    let s := s.setDraft { s.draft with patch := some (x, tag) }
    let s := s.putFld F.DRAFT_SWITCH_STATUS_PATCH_PENDING 1
    s.event E.DRAFT_PATCH_ACCEPTED noSource (leBytes 8 tag ++ leBytes 4 (x.sections.foldl (fun a e => setBit a e.1) 0))

/-- A load ends without an object: its source could not be read, or was not there (R52). -/
def State.loadLost (s : State) (l : LoadReq) (f : LoadFailure) : State :=
  match l.kind with
  | .draft => s.draftFails l f
  | _ => (s.setDraft { s.draft with load := none }).refuseObject stBadArg f.reason 0

/-- The INDEX of the section a byte of the object lies in. -/
def sectionAt (o : List Byte) (off : Nat) : Nat :=
  match (tableEntries o).find? (fun e => decide (seOffset e.2 ≤ off ∧ off < seOffset e.2 + seLength e.2)) with
  | some e => e.1
  | none => 0xFF

/-- A load's checks are done (R53, R55). A draft that passes them is taken, with the cards behind it (R49). -/
def State.endLoad (s : State) (l : LoadReq) (object : List Byte) (retried : List Nat) : State :=
  if s.noImage l then s.loadLost l ⟨frNoImage, 0xFF, 0⟩
  else
    let s := if l.source = 1 ∨ l.source = 2 then s.wakeArchive else s
    let o := s.sourceBytes l object
    let s := s.retries l.source retried
    match l.kind with
    | .draft =>
      if l.source = 3 ∧ o.isEmpty then s.draftFails l ⟨frSourceIo, 0xFF, 0⟩
      else
        match s.checkDraft o.length o with
        | some f => s.draftFails l f
        | none =>
          let s := (s.takeDraft l (Obj.read (o.take (ohTotal o)))).putShadow 0 (2 ^ 25) (o.take (ohTotal o))
          if 1 ≤ l.source ∧ l.source ≤ 3 then State.takeCards 8192 s ((o.take (2 ^ 25)).drop (up4K (ohTotal o))) else s
    | .card => (s.setDraft { s.draft with load := none }).takeCard o.length o
    | .patch => (s.setDraft { s.draft with load := none }).takePatch o.length l.slot o

/-- A load ends because its source could not be read at an offset (R52). -/
def State.loadUnread (s : State) (l : LoadReq) (object : List Byte) (retried : List Nat) (off : Nat) : State :=
  if s.noImage l then s.loadLost l ⟨frNoImage, 0xFF, 0⟩
  else (s.retries l.source retried).loadLost l ⟨frSourceIo, sectionAt (s.sourceBytes l object) off, off⟩

/-- A draft load begins (step 1 of R53): a running draft is dropped. So is a card or patch load under way, without a record: DESIGN CHOICE
(log 44). -/
def State.beginLoad (s : State) (l : LoadReq) : State :=
  let s := s.endPinTest.stopAll.dropDraft
  let s := s.setDraft { s.draft with load := some l }
  (s.putFld F.DRAFT_STATUS_LOAD_STATE 1).enterMode 1

/-- A load under way is abandoned (R60, R429): a draft load ends in M0. -/
def State.abortLoad (s : State) : State :=
  match s.draft.load with
  | none => s
  | some l =>
    match l.kind with
    | .draft => s.failLoad frAborted 0xFF 0
    | _ => (s.setDraft { s.draft with load := none }).refuseObject stBadArg frAborted 0

/-! A change of configuration at a slot (R56 to R60). -/

/-- What an output stream publishes in a body: its entry, its blocks and their lists. A change of the catalogue alone is no change of its
contents (R59): DESIGN CHOICE (log 44). -/
def osPicture (body : List Byte) (n : Nat) : Option (List Byte × List (List Byte × List Byte)) :=
  (osEntry body n).map (fun e => (e, (osIndices e).map (fun i =>
    let b := blockWithList body i
    (b.1.take 0x10 ++ b.1.drop 0x14, b.2))))

/-- What lays out a stream's data frames, and its CFG_SIG (R126): the class, version, time base and frame size, the runs of its threads and
waveforms, and the block descriptors. What else an entry holds (ports, source, flags, key group, silence) is no part of the layout. -/
def streamPicture (body : List Byte) (sid : Nat) : List Nat × List (List Byte) :=
  let e := entryOf body 0 sid
  ([stClass e, stVersion e, stBlocks e, stRate e, stFirstTid e, stThreads e, stFirstWid e, stTimeBase e, stFrameSize e, stCfgSig e],
    (List.range (stBlocks e)).map (fun i => entryOf body 1 (stFirstBlock e + i)))

/-- A patch replaces a stream's entry at S (R137, R138): its run-time enable is set; a stream that was DISABLED enters WAITING, and so does one
in CFG_HOLD whose layout or signature changes; Reed learns of one that leaves RUNNING (R159). -/
def State.patchStream (s : State) (before : List Byte) (sid : Nat) : State :=
  let x := s.streamSt sid
  let old := entryOf before 0 sid
  let s := s.putStream sid { x with enabled := true }
  let was := stEnabled old && x.enabled
  let added := stEnabled (s.stream sid) && !was
  let changed := x.st == 5 && streamPicture before sid != streamPicture (s.cfg secStreams) sid
  let s := if changed then s.putStream sid { s.streamSt sid with freed := some s.draft.lastSwitch } else s
  let s := if was && (x.st == 2 || x.st == 4) && !stEnabled (s.stream sid) then s.reedDownAs sid old else s
  if added || changed then s.enterWaiting sid else s

/-- The configurations that slots still unclosed may run under, and centre slots of trackers up to 1 s behind them (R223). -/
def State.oldNeeded (s : State) : List (Option Obj × Option Obj × Nat) :=
  let open' (o : Option Obj × Option Obj × Nat) : Bool := [0, 1, 2, 3].any (fun l =>
    (s.lat l).slots.any (fun y => y.opened && (y.closed.isNone || !y.piped) && decide (s.instant l y.tag < s.instant 0 o.2.2 + 1000000000)))
  s.draft.old.filter (fun o => open' o || decide (s.now < s.instant 0 o.2.2 + 1000000000))

/-- The configuration changes at S: the patch is merged into the base, then the card of the new mode laid over it; what depends on the
entries follows. The old one stays in the second banks. -/
def State.changeConfig (s : State) (p : Option Obj) (card : Option Nat) (tag : Nat) : State :=
  let base := s.draft.base
  let was := s.activeCard
  let newBase := match p with | some o => base.map (·.patched o) | none => base
  let is := card.bind (smFind s.draft.cards)
  let before : Sections := fun ty => bodyOf base was ty
  let after : Sections := fun ty => bodyOf newBase is ty
  let regions (r : Nat) : Bool := slice (before secCapt) (64 * r) 64 != slice (after secCapt) (64 * r) 64
  let s := s.captAbort regions
  let s := if before secCatalogue = after secCatalogue then s else (s.weftAfter before after tag).getD s
  let s := s.setDraft { s.draft with base := newBase, old := (base, was, tag) :: s.oldNeeded, lastSwitch := tag, switching := true }
  let s := (s.putFld F.DRAFT_CARDS_ACTIVE_VALID (if card.isSome then 1 else 0)).putFld F.DRAFT_CARDS_ACTIVE (card.getD 0)
  let s := s.captSwitch regions (s.instant 0 tag)
  let s := ((List.range 64).filter (fun n => osPicture (before secShuttle) n != osPicture (after secShuttle) n)).foldl (fun s n => s.osChange n tag) s
  match p with
  | none => s
  | some o =>
    let s := match newBase with | some b => s.putShadow 0 (2 ^ 25) b.image | none => s
    ((tableOf (o.view secStreams) 0).map (·.1)).foldl (fun s sid => s.patchStream (before secStreams) sid) s

/-- The data path starts as the mode leaves M2 (R176, R369, R497): lattices from an instant of the base now active. -/
def State.startPath (s : State) (at' : Nat) : State :=
  let s := s.setHeddle { s.heddle with streams := s.heddle.streams.map (fun x => (x.1, { x.2 with ref := none, st := 1 })), start := s.bases.mono }
  let s := (((tableOf (s.cfg secStreams) 0).filter (fun e => stEnabled e.2 && (s.streamSt e.1).enabled)).map (·.1)).foldl State.enterWaiting s
  let s := (s.startLattices at').captStart
  if s.servo = svFreerun then (s.condition 2 true).updatePins else s

/-- The data path stops at a switch to M2: no later slot opens, capture disarms, frames are counted and no longer decoded. -/
def State.stopPath (s : State) : State := (s.reedStop.stopLattices.captStop).setHedQ []

/-- M11 takes effect (R289): PD_TIME, kept to time S, goes OFF with the rest; nothing is left on its way. -/
def State.stopAllPaths (s : State) : State :=
  let s := s.stopPath
  let s := (((s.setReedQ []).setWaveQ []).setInputQ []).setLoomQ []
  let s := s.setLoom { s.loom with lats := s.loom.lats.map (fun x => (x.1, { x.2 with slots := x.2.slots.filter (fun y => y.closed.isSome) })), closeQ := [] }
  s.powerDown [pdStacks]

/-- Every open slot of every lattice closes as FORCED (R60): where TEST no longer times them (log 37). -/
def State.forceAll (s : State) : State :=
  ([0, 1, 2, 3].foldl (fun s l =>
    ((((s.lat l).slots.filter (fun y => y.opened && y.closed.isNone)).map (·.tag)).foldl (fun s tag => s.forceSlot l tag) s)) s).loomRun

/-- The mode changes at S (R57): what each mode starts or ends. -/
def State.changeMode (s : State) (m tag : Nat) : State :=
  let old := s.mode
  let s := s.event E.DRAFT_MODE_SWITCH noSource (leBytes 1 old ++ leBytes 1 m ++ leBytes 8 tag)
  let s := if old = 9 then s.forceAll else s
  let s := if m = old then s else s.enterMode m
  let s := s.resetFields RegField.modeClass
  let s := s.showSets.showOsc.showEnergy
  let s := if old = 10 then (s.endHold 0).putFld F.PAIR_STATUS_HOLD_ALONE 0 else s
  let s := if m = 11 then s.stopAllPaths
    else if m = 2 then s.stopPath
    else if old = 2 ∨ old = 11 then s.startPath (if m = 9 then s.now else s.instant 0 tag)
    else if old = 9 then s.startLattices s.now
    else s
  s.updateHolding

/-- The switch slot S takes effect (R56, R60): a patch first, then the mode and its card. -/
def State.takeSwitch (s : State) (p : Option Obj) (w : Option SwitchReq) (tag : Nat) : State :=
  let card := match w with | some x => x.card | none => s.cardInForce
  let s := s.setDraft { s.draft with patch := if p.isSome then none else s.draft.patch, switch := if w.isSome then none else s.draft.switch }
  let s := s.changeConfig p card tag
  let s := match p with
    | some _ =>
      let s := s.putFld F.DRAFT_SWITCH_STATUS_PATCH_PENDING 0
      ((s.count R.DRAFT_SWITCH_COUNT).event E.DRAFT_PATCH_APPLIED noSource (leBytes 8 tag)).raise I.DRAFT_PATCH_APPLIED
    | none => s
  let s := s.showSwitch
  let s := match w with
    | some x => (s.count R.DRAFT_SWITCH_COUNT).changeMode x.target tag
    | none => s.updatePins
  if s.domain pdLoom = 0 then s.loomRun else s.switchDone

end Sys2Proof.Machine
end

