-- ==== Sys2Proof/Machine/Draft.lean ====
section
/-!
DEFINITION. Sys2Proof/Machine/Draft.lean: the DRAFT block's commands and events (R52 to R66): loads, cards, patches, images, and the
switch slot.
-/

namespace Sys2Proof.Machine

/-! Loads of a base draft. -/

/-- The request a LOAD, LOAD_CARD or PATCH command makes (R66). -/
def State.loadReq (s : State) (kind : LoadKind) : LoadReq :=
  { kind := kind, source := s.arg 1 0, address := s.arg 1 1 + 2 ^ 32 * s.arg 1 2, length := s.arg 1 3, auto := false, start := s.bases.mono,
    slot := s.pairAt R.DRAFT_PATCH_SLOT_LO }

/-- LOAD (R52): in M0 and M2; with BOOT_SEL 11 by the monitor alone. -/
def cmdLoad (path : Path) (s : State) : CmdResult :=
  if 3 < s.arg 1 0 then refuse s stBadArg
  else if (s.mode ≠ 0 ∧ s.mode ≠ 2) ∨ (s.boot.1 = 3 ∧ path = .host) then refuse s stIllegal
  else if s.pfwLow then refuse s stBusy
  else ok (s.beginLoad (s.loadReq .draft))

def execLoad (t : Nat) (path : Path) (s : State) : Host.Outcome State Fault Refusal := command t 1 1 path (cmdLoad path) s

/-- The automatic boot of a power-on or warm reset (R52): image A for BOOT_SEL 01, QSPI for 10. It waits while `PFW_N` is low (R430). -/
def State.bootLoad (s : State) : State :=
  if !s.power.boot || s.mode != 0 || s.pfwLow || s.power.bootHeld || s.power.warmAt.isSome || (s.boot.1 != 1 && s.boot.1 != 2) then s
  else
    let l : LoadReq :=
      { kind := .draft, source := if s.boot.1 = 1 then 1 else 3, address := 0, length := 0, auto := true, start := s.bases.mono }
    let s := (s.setPower { s.power with boot := false }).beginLoad l
    if s.noImage l then s.draftFails l ⟨frNoImage, 0xFF, 0⟩ else s

def execAutomaticBoot (t : Nat) (s : State) : Host.Outcome State Fault Refusal := run t State.bootLoad s

/-- A load of one kind that is under way comes to its end, a UART load not before its bytes are there; they are dropped with it. -/
def State.loadEnds (s : State) (kind : LoadKind) (f : LoadReq → State → State) : State :=
  match s.draft.load with
  | none => s
  | some l =>
    if l.kind = kind ∧ !(l.source = 4 ∧ s.isSet F.MONITOR_STATUS_LOADING) then
      let s := f l s
      if l.source = 4 then s.setHost { s.host with uart := none } else s
    else s

def execLoadDone (t : Nat) (object : List Byte) (retried : List Nat) (s : State) : Host.Outcome State Fault Refusal :=
  run t (·.loadEnds .draft (fun l s => s.endLoad l object retried)) s

/-- A load whose source could not be read at `at'`, or (none) one whose checks are done and have failed. -/
def State.loadFails (s : State) (l : LoadReq) (object : List Byte) (retried : List Nat) (at' : Option Nat) : State :=
  match at' with
  | some off => s.loadUnread l object retried off
  | none => s.endLoad l object retried

def execLoadFail (t : Nat) (object : List Byte) (retried : List Nat) (at' : Option Nat) (s : State) :
    Host.Outcome State Fault Refusal :=
  run t (fun s =>
    match s.draft.load with
    | none => s
    | some l => s.loadEnds l.kind (fun l s => s.loadFails l object retried at')) s

/-- UNLOAD (R64): M2 to M0. It drops a card or patch load under way as LOAD does (log 44). -/
def cmdUnload (s : State) : CmdResult :=
  if s.mode ≠ 2 then refuse s stIllegal else ok (s.endPinTest.stopAll.dropDraft.enterMode 0)

def execUnload (t : Nat) (path : Path) (s : State) : Host.Outcome State Fault Refusal := command t 1 2 path cmdUnload s

/-! Cards and patches. -/

/-- What LOAD_CARD and PATCH share (R55, R66, R429): a load is accepted, and its checks follow. -/
def State.cmdObject (s : State) (kind : LoadKind) (pending : Bool) : CmdResult :=
  if 3 < s.arg 1 0 then refuse s stBadArg
  else if s.mode < 2 ∨ 10 < s.mode ∨ s.isSet F.DRAFT_CTRL_CARD_LOCK then refuse s stIllegal
  else if s.pfwLow ∨ s.draft.load.isSome ∨ pending then refuse s stBusy
  else ok (s.setDraft { s.draft with load := some (s.loadReq kind) })

def cmdLoadCard (s : State) : CmdResult := s.cmdObject .card false

def execLoadCard (t : Nat) (path : Path) (s : State) : Host.Outcome State Fault Refusal := command t 1 3 path cmdLoadCard s

def execCardLoaded (t : Nat) (object : List Byte) (retried : List Nat) (s : State) : Host.Outcome State Fault Refusal :=
  run t (·.loadEnds .card (fun l s => s.endLoad l object retried)) s

/-- DROP_CARD (R66). A slot that holds no card completes with no effect (log 37). -/
def cmdDropCard (s : State) : CmdResult :=
  let n := s.arg 1 0
  if 15 < n then refuse s stBadArg
  else if s.isSet F.DRAFT_CTRL_CARD_LOCK ∨ s.slotInForce n ∨ s.slotPending n then refuse s stIllegal
  else ok (s.setDraft { s.draft with cards := smDel s.draft.cards n, recent := s.draft.recent.filter (fun m => m != n) }).showCards

def execDropCard (t : Nat) (path : Path) (s : State) : Host.Outcome State Fault Refusal := command t 1 4 path cmdDropCard s

/-- PATCH (R58): one is pending at a time (R60). -/
def cmdPatch (s : State) : CmdResult := s.cmdObject .patch s.draft.patch.isSome

def execPatch (t : Nat) (path : Path) (s : State) : Host.Outcome State Fault Refusal := command t 1 5 path cmdPatch s

def execPatchAccepted (t : Nat) (object : List Byte) (retried : List Nat) (s : State) : Host.Outcome State Fault Refusal :=
  run t (·.loadEnds .patch (fun l s => s.endLoad l object retried)) s

/-- CANCEL_PATCH (R66): before the instant of S. -/
def cmdCancelPatch (s : State) : CmdResult :=
  match s.draft.patch with
  | none => refuse s stIllegal
  | some (_, tag) =>
    if s.instant 0 tag ≤ s.now then refuse s stIllegal
    else
      let s := (s.setDraft { s.draft with patch := none }).putFld F.DRAFT_SWITCH_STATUS_PATCH_PENDING 0
      ok ((s.event E.DRAFT_PATCH_DROPPED noSource (leBytes 8 tag)).raise I.DRAFT_PATCH_DROPPED)

def execCancelPatch (t : Nat) (path : Path) (s : State) : Host.Outcome State Fault Refusal := command t 1 6 path cmdCancelPatch s

/-! Images in the Archive (R49 to R51). -/

/-- IMAGE_WRITE: the image is WRITING before its first byte is written. An image that a load is reading is refused with BUSY: DESIGN CHOICE
(log 44). -/
def cmdImageWrite (s : State) : CmdResult :=
  let n := s.arg 1 0
  let len := s.arg 1 3
  let loading : Bool := match s.draft.load with | some l => l.source == n + 1 | none => false
  if 1 < n ∨ len = 0 ∨ 2 ^ 25 < len then refuse s stBadArg
  else if s.pfwLow ∨ s.draft.imageWrite.isSome ∨ s.imageState (1 - n) = 3 ∨ loading then refuse s stBusy
  else ok ((s.wakeArchive.putImage n 3).setDraft { s.draft with imageWrite := some (n, len, s.arg 1 1 + 2 ^ 32 * s.arg 1 2) })

def execImageWrite (t : Nat) (path : Path) (s : State) : Host.Outcome State Fault Refusal := command t 1 7 path cmdImageWrite s

/-- IMAGE_ERASE: the image is EMPTY. A write of it under way ends with it. -/
def cmdImageErase (s : State) : CmdResult :=
  let n := s.arg 1 0
  if 1 < n then refuse s stBadArg
  else if s.mode = 1 then refuse s stIllegal
  else
    let s := s.wakeArchive.putImage n 0
    let s := s.setArchive (memClear s.archive (2 ^ 25 * n) (2 ^ 25))
    let s := match s.draft.imageWrite with
      | some w => if w.1 = n then s.setDraft { s.draft with imageWrite := none } else s
      | none => s
    ok (s.raise I.DRAFT_IMAGE_DONE)

def execImageErase (t : Nat) (path : Path) (s : State) : Host.Outcome State Fault Refusal := command t 1 8 path cmdImageErase s

/-- An image write ends: its bytes stand in the Archive, and it is VALID where the read-back matches (`good`), else INVALID. -/
def State.imageDone (s : State) (bytes : List Byte) (good : Bool) : State :=
  match s.draft.imageWrite with
  | none => s
  | some (n, len, _) =>
    let b := bytes.take len
    let s := s.setArchive (memStore (archiveDefault 0) (memClear s.archive (2 ^ 25 * n) (2 ^ 25)) (2 ^ 25 * n) b)
    let s := (s.setDraft { s.draft with imageWrite := none }).putImage n (if good then 1 else 2)
    let s := if good then s.event E.DRAFT_IMAGE_WRITTEN n (leBytes 1 n ++ leBytes 4 len ++ leBytes 8 (leAt b 0x18 8)) else s
    s.raise I.DRAFT_IMAGE_DONE

def execImageDone (t : Nat) (bytes : List Byte) (good : Bool) (s : State) : Host.Outcome State Fault Refusal :=
  run t (·.imageDone bytes good) s

/-! DRAFT_CTRL (R66). -/

/-- A write of 1 to a bit of a register that only a write of 1 sets, as the path without mastership may not make it (R457). -/
def State.setOnce (s : State) (path : Path) (f : Fld) : State :=
  s.access path f.addr (2 ^ f.lo) (·.putFld f 1)

def execCardLock (t : Nat) (path : Path) (s : State) : Host.Outcome State Fault Refusal := run t (·.setOnce path F.DRAFT_CTRL_CARD_LOCK) s

def execRequireSigned (t : Nat) (path : Path) (s : State) : Host.Outcome State Fault Refusal :=
  run t (·.setOnce path F.DRAFT_CTRL_REQUIRE_SIGNED) s

/-! The switch slot (R56 to R60). -/

/-- TEST is the active base and stopped (R60). -/
def State.testStopped (s : State) : Bool := s.onTest && !s.isSet F.TIME_CTRL_TEST_RUN

/-- The instant of a pending S is reached: the patch and the mode of one S together, the patch first; else the earlier of the two. -/
def State.switchSlot (s : State) : State :=
  let due (tag : Nat) : Bool := decide (s.instant 0 tag ≤ s.now)
  let p : Option (Obj × Nat) := s.draft.patch.filter (fun p => due p.2)
  let w : Option SwitchReq := if s.testStopped then none else s.draft.switch.filter (fun w => due w.slot)
  match p, w with
  | none, none => s
  | some p, none => s.takeSwitch (some p.1) none p.2
  | none, some w => s.takeSwitch none (some w) w.slot
  | some p, some w =>
    if p.2 = w.slot then s.takeSwitch (some p.1) (some w) w.slot
    else if p.2 < w.slot then s.takeSwitch (some p.1) none p.2
    else s.takeSwitch none (some w) w.slot

def execSwitchSlot (t : Nat) (s : State) : Host.Outcome State Fault Refusal := run t State.switchSlot s

/-- Staging of a switch decided while TEST is stopped is complete (R60): S is the L0 slot after the last one opened; where L0 has
opened none, the first at or after TEST (log 37). -/
def State.stagingComplete (s : State) : State :=
  match s.draft.switch with
  | none => s
  | some w =>
    if !s.testStopped || decide (s.bases.mono < w.staged) then s
    else
      let last := (((s.lat 0).slots.filter (fun y => y.opened)).map (·.tag)).getLast?
      let tag := match last with | some k => nextTag (s.rate 0) k | none => firstSlotAt (s.rate 0) s.now
      s.takeSwitch none (some { w with slot := tag }) tag

def execStagingComplete (t : Nat) (s : State) : Host.Outcome State Fault Refusal := run t State.stagingComplete s

end Sys2Proof.Machine
end

