-- ==== Sys2Proof/Machine/ResetOps.lean ====
section
/-!
DEFINITION. Sys2Proof/Machine/ResetOps.lean: a domain coming ON again (R434, R437, R288), mode requests (R64, R65, R475, R476) and the
warm reset (R437, R475).
-/

namespace Sys2Proof.Machine

/-! A domain comes ON. -/

/-- Heddle after its replay: its streams wait again, with the run-time enables they had. -/
def State.heddleReplay (s : State) : State :=
  let s := (s.setHedQ []).setHeddle { s.heddle with
    streams := s.heddle.streams.map (fun x => (x.1, { enabled := x.2.enabled })), goose := [], start := s.bases.mono }
  (((tableOf (s.cfg secStreams) 0).filter (fun e => stEnabled e.2 && (s.streamSt e.1).enabled)).map (·.1)).foldl State.enterWaiting s

/-- The latches of the lanes' majority outlast a reset of all three (R258). -/
def State.keptLatches (s : State) : SMap PointSt :=
  let held (ap : Nat) : Bool := decide (2 ≤ ([s.vote.laneA, s.vote.laneB, s.vote.laneC].filter (fun x => (x.point ap).latched)).length)
  (s.vote.laneA.points ++ s.vote.laneB.points).foldl (fun (m : SMap PointSt) p =>
    if p.2.latched ∧ held p.1 then smPut m p.1 { raised := true, latched := true, tag := p.2.tag } else m) []

/-- A lane after its replay: of its points only the latches are left (R258), and where another lane runs that lane brings them (R260). -/
def State.laneReplay (s : State) (i : Nat) : State :=
  let other : Bool := s.lanes.any (fun j => j != i)
  s.setVote (s.vote.setLane i { points := if other then [] else s.keptLatches, forced := if other then [0, 1, 2, 3] else [] })

/-- Shuttle and the queues after their replay: no frame is composed; queue storage is empty and every queue STOPPED (log 38). -/
def State.shuttleReplay (s : State) : State :=
  (s.setShuttle { s.shuttle with streams := s.shuttle.streams.map (fun x => (x.1, { x.2 with frame := none })) }).flushAll

/-- ANA after its replay: trackers, islands and energy start as R225, R396 and their chapters say; the conditions ISLE had set end. -/
def State.anaReplay (s : State) : State :=
  let s := (s.oscReset.setIsle {}).energyRestore
  (s.condition 0 false).condition 1 false

/-- What a domain that was OFF starts from, its draft sections replayed (R432). -/
def State.replay (s : State) (d : Nat) : State :=
  if d = pdHeddle then s.heddleReplay
  else if d = pdReed then ((s.setReedQ []).setWaveQ []).setReed { second := s.bases.mono / 1000000000 }
  else if d = pdLoom then (s.setLoomQ []).loomRun
  else if d = pdAna then s.anaReplay
  else if d = pdSlv then s.startLinks
  else if d = pdShuttle then s.shuttleReplay
  else if pdLaneA ≤ d ∧ d ≤ pdLaneC then (s.laneReplay (d - 12)).updatePins
  else s

/-- Elements of a domain whose restore powers it (R288). -/
def State.restoring (s : State) (d : Nat) : List Nat := (s.fencedElems.filter (fun x => x.1 / 256 == d && x.2.state == 2)).map (·.1)

/-- The wake of a domain ends with the domain ON (R434), for a cause (R448): what slept or was OFF goes on; a restore begins to prove
itself (R288). -/
def State.domainWoken (s : State) (d cause : Nat) : State :=
  let was := s.domain d
  let s := (s.setDomain d 0).domainEvent d was 0 cause
  let s := if was = 2 then s.replay d else s
  let s := s.setPower { s.power with waking := smDel s.power.waking d }
  let s := if cause = 1 then s.showWoken d else s
  if cause = 2 then
    (s.restoring d).foldl (fun s e => s.putElem e { s.elem e with proving := some s.bases.mono }) s
  else s

/-! Mode requests (R64, R65, R476). -/

/-- The mode a request is judged against: a decided M10 or M11 counts at once (R477). -/
def State.judgedMode (s : State) : Nat := if s.target = 10 ∨ s.target = 11 then s.target else s.mode

/-- The TIME section permits a start before the first LOCKED (R64). -/
def State.freeStart (s : State) : Bool := bit (leAt (s.cfg secTime) 2 1) 0

/-- Is a change of mode under way: a pending switch, or a request that waits for domains to wake? -/
def State.changing (s : State) : Bool := s.draft.switch.isSome || s.power.request.isSome

/-- The verdict on a request (R64, R65, R288): its status, and whether it has an effect (R476). -/
def State.judgeRequest (s : State) (code : Nat) : Nat × Bool :=
  let m := s.judgedMode
  let host := s.isSet F.DRAFT_MODE_COND_OVERLOAD_HOST
  if code = 2 then
    if m = 2 then (stOk, s.changing) else if 3 ≤ m ∧ m ≤ 10 then (stOk, true) else (stIllegal, false)
  else if code = 3 then
    if 3 ≤ m ∧ m ≤ 8 then (stOk, decide (s.target < 3 ∨ 8 < s.target))
    else if m ≠ 2 ∧ m ≠ 10 then (stIllegal, false)
    else if s.isSet F.FAULT_STATUS_LASTING_ACTIVE then (stIllegal, false)
    else if !s.isSet F.TIME_STATUS_EVER_LOCKED && !s.freeStart then (stIllegal, false)
    else (stOk, true)
  else if code = 9 then
    if m = 9 then (stOk, s.changing) else if m = 2 then (stOk, true) else (stIllegal, false)
  else if code = 8 then
    if m < 2 then (stIllegal, false) else (stOk, !host)
  else if code = 14 then
    if m < 2 then (stIllegal, false) else (stOk, host)
  else (stBadArg, false)

/-- The mode a request for M2, M3 or M9 leads to. -/
def State.requestedMode (s : State) (code : Nat) : Nat := if code = 3 then serviceMode (s.regN R.DRAFT_MODE_COND) else code

/-- USED domains that are not ON. -/
def State.asleep (s : State) : List Nat := (List.range 16).filter (fun d => s.usedDomain d && s.domain d != 0)

/-- A request for a mode takes its course: from M2 one for M3 or M9 first wakes every USED domain, and t_d is the end of the last wake
(R433). A domain that drains enters its state first (R446). -/
def State.decideRequest (s : State) (code : Nat) (path : Path) : State :=
  let s := s.setPower { s.power with request := none }
  if code ≠ 2 ∧ s.mode = 2 ∧ (!s.asleep.isEmpty ∨ s.power.drain.isSome) then
    let s := s.asleep.foldl (fun s d =>
      if (smFind s.power.waking d).isSome then s else s.setPower { s.power with waking := smPut s.power.waking d (s.bases.mono, 3) }) s
    s.setPower { s.power with request := some (code, path) }
  else s.decideMode (s.requestedMode code)

/-- A request that waited, once the last wake has ended. -/
def State.requestDue (s : State) : State :=
  match s.power.request with
  | none => s
  | some (code, _) =>
    if !s.asleep.isEmpty ∨ s.power.drain.isSome then s
    else
      let s := s.setPower { s.power with request := none }
      if s.mode = 2 then s.decideMode (s.requestedMode code) else s

/-- `GLOBAL_MODE_REQ_STATUS` shows the outcome of the last request. -/
def State.showRequest (s : State) (path : Path) (code status : Nat) : State :=
  s.putReg R.GLOBAL_MODE_REQ_STATUS (2 ^ 31 + 2 ^ 12 * path.code + 2 ^ 8 * code + status)

/-- A write of `GLOBAL_MODE_REQ`: one request, decided at once (R65, R475, R476). -/
def State.modeRequest (s : State) (path : Path) (code : Nat) : State :=
  let v := s.judgeRequest code
  let m := s.mode
  let s := (s.count R.GLOBAL_MODE_REQUESTS).showRequest path code v.1
  if v.1 ≠ stOk then ((s.count R.GLOBAL_MODE_REFUSED).refusedRequest code v.1).raise I.GLOBAL_REQUEST_REFUSED
  else if !v.2 then s
  else
    let s := s.event E.GLOBAL_MODE_REQUEST noSource (leBytes 1 code ++ leBytes 1 path.code ++ leBytes 1 m)
    if code = 8 ∨ code = 14 then s.overload (code == 8) (s.isSet F.LOOM_STATUS_OVERLOAD)
    else s.endPinTest.decideRequest code path

/-! Warm reset (R437, R285, R288, R290). -/

/-- Fields of class WARM take their reset values (R9). -/
def RegField.warmClass (f : RegField) : Bool := f.cls == .warm

/-- Every restore is abandoned, and no element is fenced any more (R279, R291); the counts stay. -/
def State.endRestores (s : State) : State :=
  let s := (s.fault.elems.filter (fun x => x.2.state == 2)).foldl (fun s x => s.restoreFails x.1 2) s
  (s.setFault { s.fault with elems := s.fault.elems.map (fun x => (x.1, { transient := x.2.transient, lasting := x.2.lasting }))
                             lost := [] }).showFenced

/-- Capture records in progress close as ABORTED, their regions go on with a new store; locks end (R380). -/
def State.captWarm (s : State) : State :=
  let open' (r : Nat) : Bool := decide (3 ≤ (s.capReg r).st ∧ (s.capReg r).st ≤ 5)
  let s := (s.captAbort open').captSwitch open' s.now
  (s.capt.regions.map (·.1)).foldl (fun s r =>
    let x := s.capReg r
    if x.held.any (·.locked) then s.putCapt r { x with held := x.held.map (fun h => { h with locked := false }) } else s) s

/-- A DOMAIN_SET that still drains does not complete its entry: TIMEOUT (log 38). -/
def State.endDrain (s : State) : State :=
  match s.power.drain with
  | none => s
  | some _ => finish 26 1 { state := s.setPower { s.power with drain := none }, status := stTimeout }

/-- The fields of class WARM, and what follows for the mode (R64): with a draft held M10 is decided, or kept; in M0 and M1 the device is in
M0 and its boot source starts again. -/
def State.warmMode (s : State) : State :=
  if s.mode < 2 then
    let s := (s.resetFields RegField.warmClass).abortLoad
    s.setPower { s.power with boot := s.boot.1 == 1 || s.boot.1 == 2 }
  else
    let s := (s.putFld F.FAULT_STATUS_LASTING_ACTIVE 0).putFld F.PAIR_STATUS_HOLD_ALONE 0
    let s := (s.abortLoad.enterRecovery 15 0)
    let alone := s.fld F.PAIR_STATUS_HOLD_ALONE
    let s := s.resetFields RegField.warmClass
    let s := (s.putFld F.FAULT_STATUS_LASTING_ACTIVE 1).putFld F.PAIR_STATUS_HOLD_ALONE alone
    s.setFault { s.fault with warm := some s.bases.mono }

/-- PD_STACKS goes to RETAIN, every other USED domain but PD_AON, PD_CTRL and PD_HOST OFF. -/
def State.warmDomains (s : State) : State :=
  (List.range 16).foldl (fun s d =>
    let was := s.domain d
    if d ≤ 1 ∨ !s.usedDomain d ∨ was = 3 then s
    else if d = pdStacks then (if was = 0 then (s.setDomain d 1).domainEvent d 0 1 3 else s)
    else (s.setDomain d 2).domainEvent d was 2 3) s

/-- A warm reset begins, from cause 0 ball, 1 host or 2 monitor (log 32). -/
def State.warmBegin (s : State) (cause : Nat) : State :=
  let mode := s.mode
  let s := (s.count R.GLOBAL_WARM_RESETS).event E.GLOBAL_WARM_RESET noSource (leBytes 1 cause ++ leBytes 1 mode)
  let s := if s.isSet F.POWER_STATUS_WRITE_PROTECT then s else s.writeStaging
  let s := s.endPinTest.endRestores.captWarm.endDrain.flushAll
  let s := s.setPower { s.power with waking := [], request := none, warmHeld := none }
  let s := ((s.putFld F.PAIR_STATUS_MODID_CLASH 0).putFld F.PAIR_STATUS_YIELD 0).setPair { s.pair with yieldWait := none }
  let s := s.setLedger { s.ledger with authLocked := false, failTimes := [] }
  let s := (s.setHost { s.host with uart := none }).putFld F.MONITOR_STATUS_LOADING 0
  let s := s.setDraft { s.draft with imageWrite := none }
  let s := s.warmMode.warmDomains.updateHolding
  s.setPower { s.power with warmAt := some s.bases.mono }

/-- A warm reset is asked for: during the flush it waits for `FLUSH_DONE_O` (R446). -/
def State.warmAsk (s : State) (cause : Nat) : State :=
  if s.isSet F.POWER_STATUS_FLUSHING then s.setPower { s.power with warmHeld := some cause } else s.warmBegin cause

/-- WARM_RESET of GLOBAL (R475). -/
def cmdWarmReset (path : Path) (s : State) : CmdResult :=
  if s.arg 0 0 ≠ 0x57525354 then refuse s stBadArg else ok (s.warmAsk (1 + path.code))

end Sys2Proof.Machine
end

