-- ==== Sys2Proof/Machine/PowerOps.lean ====
section
/-!
DEFINITION. Sys2Proof/Machine/PowerOps.lean: DOMAIN_SET and its drain (R433, R435, R446, R447), supplies (R425, R427), the power-fail
flush (R428 to R431).
-/

namespace Sys2Proof.Machine

/-! DOMAIN_SET. -/

/-- The requested state of a domain (`POWER_DOMAIN_REQ`): what a wake or a drain under way leads to, else its present state. -/
def State.domainReq (s : State) (d : Nat) : Nat :=
  if (smFind s.power.waking d).isSome then 0
  else match s.power.drain with
    | some (x, v, _) => if x = d then v else s.domain d
    | none => s.domain d

/-- DOMAIN_SET. An entry to RETAIN or OFF waits for its drain, with DONE at 0 (R435). -/
def cmdDomainSet (s : State) : CmdResult :=
  let d := s.arg 26 0
  let v := s.arg 26 1
  if 15 < d ∨ 2 < v ∨ (v ≠ 0 ∧ d ≤ 1) ∨ (v = 2 ∧ (d = pdStacks ∨ d = pdArchive)) then refuse s stBadArg
  else if s.domain d = 3 then
    refuse (s.event E.POWER_REQUEST_REFUSED noSource (leBytes 1 1 ++ leBytes 1 stAbsent)) stAbsent
  else if (v ≠ 0 ∧ s.mode ≠ 2) ∨ (d = pdStacks ∧ s.noStacks) then refuse s stIllegal
  else if s.domain d = v ∧ (smFind s.power.waking d).isNone then ok s
  else if v = 0 then
    if (smFind s.power.waking d).isSome then ok s
    else ok (s.setPower { s.power with waking := smPut s.power.waking d (s.bases.mono, 0) })
  else { state := s.setPower { s.power with drain := some (d, v, s.bases.mono), waking := smDel s.power.waking d }, waits := true }

/-- The reply to a `cmd` of the monitor (R464): status name, RESULT0 and RESULT1. -/
def statusName : Nat → String
  | 0 => "OK"
  | 1 => "BUSY"
  | 2 => "ILLEGAL_STATE"
  | 3 => "BAD_ARG"
  | 4 => "NO_SPACE"
  | 5 => "AUTH_FAIL"
  | 6 => "TIMEOUT"
  | _ => "ABSENT_DOMAIN"

/-- A hexadecimal digit. -/
def hexDigit (n : Nat) : Char := Char.ofNat (if n < 10 then 48 + n else 55 + n)

/-- `k` hexadecimal digits of a number. -/
def hexDigits : Nat → Nat → String
  | 0, _ => ""
  | k + 1, n => hexDigits k (n / 16) ++ String.singleton (hexDigit (n % 16))

/-- A 32-bit word as the monitor prints it, in two groups of four digits. -/
def hexWord (n : Nat) : String := "0x" ++ hexDigits 4 (n / 65536) ++ "_" ++ hexDigits 4 n

/-- A BAR0 offset as the monitor prints it. -/
def hexAddr (n : Nat) : String := "0x" ++ hexDigits 3 (n / 65536) ++ "_" ++ hexDigits 4 n

/-- A line of a monitor reply. -/
def State.say (s : State) (text : String) : State := s.emit (.uart text)

/-- The outcome of a block's last command, as `cmd` replies it. -/
def State.sayOutcome (s : State) (b : Nat) : State :=
  let st := bits (s.regN (hdr b 0x54)) 3 0
  let text := "STATUS " ++ statusName st ++ " RESULT0 " ++ hexWord (s.regN (hdr b 0x58)) ++ " RESULT1 " ++ hexWord (s.regN (hdr b 0x5C))
  (if st = 0 then s.say ("OK " ++ text) else s.say ("ERR " ++ statusName st)).say "> "

/-- A DOMAIN_SET that drained comes to DONE; a `cmd` of the monitor that waited for it is answered. -/
def State.drainEnds (s : State) (status : Nat) : State :=
  let s := finish 26 1 { state := s.setPower { s.power with drain := none }, status := status }
  if s.host.cmdWaits then (s.setHost { s.host with cmdWaits := false }).sayOutcome 26 else s

/-- DRAIN_COMPLETE: the domain enters the state; a mode request that waits for it wakes it at once (R435, R446). -/
def State.drained (s : State) : State :=
  match s.power.drain with
  | none => s
  | some (d, v, _) =>
    let s := (((s.setDomain d v).domainEvent d (s.domain d) v 0)).drainEnds stOk
    if s.power.request.isSome ∧ s.usedDomain d then s.setPower { s.power with waking := smPut s.power.waking d (s.bases.mono, 3) }
    else s.requestDue

/-- DRAIN_TIMEOUT: after 64 µs the entry is abandoned. -/
def State.drainTimeout (s : State) (transfers : Nat) : State :=
  match s.power.drain with
  | none => s
  | some (d, _, at') =>
    if s.bases.mono < at' + 64000 then s
    else
      let s := (s.count R.POWER_DRAIN_TIMEOUTS).event E.POWER_DRAIN_TIMEOUT d (leBytes 1 d ++ leBytes 4 transfers)
      ((s.raise I.POWER_DRAIN_TIMEOUT).drainEnds stTimeout).requestDue

/-- ARCHIVE_RETAIN: after 10 ms without access. -/
def State.archiveIdle (s : State) : State :=
  if s.domain pdArchive ≠ 0 ∨ !s.isSet F.POWER_CTRL_ARCHIVE_RETAIN ∨ s.bases.mono < s.power.archAt + 10000000 ∨
      s.isSet F.POWER_STATUS_FLUSHING then s
  else (s.setDomain pdArchive 1).domainEvent pdArchive 0 1 0

/-! Supplies (R425, R427). -/

/-- The voltage in mV that a supply's thresholds are taken from: for `VDD_CORE` the AVS request, during a change and for 2 ms after it the
lower of the old and the new. -/
def State.supplyRef (s : State) (n : Nat) : Nat :=
  match n with
  | 0 =>
    match s.clock.oldReq with
    | some (old, until') => if s.bases.mono < until' then min old s.ageing.request else s.ageing.request
    | none => s.ageing.request
  | 1 => 850
  | 2 => 900
  | 3 => 1200
  | 4 => 1100
  | 5 => 1800
  | _ => 3300

/-- The power-good threshold in mV, a part of a mV dropped. -/
def State.supplyThreshold (s : State) (n : Nat) : Nat := s.supplyRef n * 93 / 100

/-- Within 93 % and 108 %? -/
def State.inRange (s : State) (n mv : Nat) : Bool := decide (s.supplyRef n * 93 ≤ mv * 100 ∧ mv * 100 ≤ s.supplyRef n * 108)

/-- A bit of `POWER_STATUS.SUPPLY_OK`. -/
def State.putSupply (s : State) (n : Nat) (v : Bool) : State :=
  s.putFld F.POWER_STATUS_SUPPLY_OK (if v then setBit (s.fld F.POWER_STATUS_SUPPLY_OK) n else clrBit (s.fld F.POWER_STATUS_SUPPLY_OK) n)

/-- DROOP's record: supply, lowest mV, µs below threshold, lasting. -/
def State.droopEvent (s : State) (n low us last : Nat) : State :=
  s.event E.POWER_DROOP n (leBytes 1 n ++ leBytes 4 (sat32 low) ++ leBytes 4 (sat32 us) ++ leBytes 1 last)

/-- A monitor compares its supply: a crossing begins a droop, a return within 10 µs ends it as transient. A supply that returns after its
droop was found lasting reads as within range again. -/
def State.supplyLevel (s : State) (n mv : Nat) : State :=
  if 6 < n then s
  else
    let good := s.inRange n mv
    let s := s.putFld (F.POWER_SUPPLYn_MEASURED n) (min mv 65535)
    match smFind s.power.droops n with
    | none =>
      if good then s.putSupply n true
      else if !bit (s.fld F.POWER_STATUS_SUPPLY_OK) n then s
      else (((s.setPower { s.power with droops := smPut s.power.droops n (s.bases.mono, mv) }).putSupply n false).raise I.POWER_DROOP)
    | some (at', low) =>
      let low := min low mv
      if !good then s.setPower { s.power with droops := smPut s.power.droops n (at', low) }
      else if s.bases.mono ≤ at' + 10000 then
        let s := (s.setPower { s.power with droops := smDel s.power.droops n }).putSupply n true
        ((s.count R.POWER_DROOP_TRANSIENT).droopEvent n low ((s.bases.mono - at') / 1000) 0).transient fcDroop (element 16 n)
      else s.putSupply n true

/-- DROOP_LASTING: the supply did not return within 10 µs. -/
def State.droopLasts (s : State) (n : Nat) : State :=
  match smFind s.power.droops n with
  | none => s
  | some (at', low) =>
    if 6 < n ∨ s.bases.mono < at' + 10000 then s
    else
      let s := s.setPower { s.power with droops := smDel s.power.droops n }
      ((s.count R.POWER_DROOP_LASTING).droopEvent n low ((s.bases.mono - at') / 1000) 1).lasting fcDroop (element 16 n)

/-! The power-fail flush (R428 to R431). -/

/-- `PFW_N` changes level; a low pulse shorter than 1 µs is counted. -/
def State.pfwLevel (s : State) (low : Bool) : State :=
  if s.power.pfwLine.1 = low then s
  else
    let short : Bool := !low && !s.pfwLow && decide (s.bases.mono < s.power.pfwLine.2 + 1000)
    let s := if short then s.count R.POWER_PFW_GLITCHES else s
    s.setPower { s.power with pfwLine := (low, s.bases.mono) }

/-- PFW_FALL (step 2 of R429): energy freezes, FLUSHED is staged last; a load and an image write are abandoned. -/
def State.pfwFall (s : State) : State :=
  if s.pfwLow || !s.power.pfwLine.1 || decide (s.bases.mono < s.power.pfwLine.2 + 1000) then s
  else
    let s := ((s.putFld F.POWER_STATUS_PFW_LOW 1).putFld F.POWER_STATUS_FLUSHING 1).putPair R.POWER_PFW_TIME_LO s.bases.mono
    let s := ((s.count R.POWER_PFW_EVENTS).event E.POWER_PFW_FALL noSource (leBytes 1 s.mode)).raise I.POWER_PFW
    let loading := s.mode == 1
    let s := s.energyFreeze.abortLoad
    let s := s.setDraft { s.draft with imageWrite := none }
    let s := if loading then s.setPower { s.power with boot := s.boot.1 == 1 || s.boot.1 == 2 } else s
    (s.setPower { s.power with flushAt := some s.bases.mono }).stageFlushed

/-- FLUSH_DONE (steps 3 to 5 of R429): staging, the energy state, OP_SECONDS and POWER_CYCLES are written; a write whose read-back failed once
was repeated, one that failed twice is a lasting fault. The Archive is then write-protected. -/
def State.flushDone (s : State) (fails : Nat) : State :=
  match s.power.flushAt with
  | none => s
  | some at' =>
    let s := s.wakeArchive.writeStaging
    let s := (s.setSaves { s.saves with flush := some (s.energySet s.energy.frozen) }).storeSave 2
    let s := s.setLedger { s.ledger with savedOp := s.opSeconds, savedCycles := s.ledger.powerCycles }
    let s := if fails = 0 then s else if fails = 1 then s.transient fcArchive (element pdArchive 0) else s.lasting fcArchive (element pdArchive 0)
    let s := ((s.putFld F.POWER_STATUS_WRITE_PROTECT 1).putFld F.POWER_STATUS_FLUSH_DONE 1).putFld F.POWER_STATUS_FLUSHING 0
    let s := (s.putReg R.POWER_FLUSH_US (sat32 ((s.bases.mono - at') / 1000))).drive .flushDone true
    let s := (s.raise I.POWER_FLUSH_DONE).raise I.LEDGER_FLUSHED
    let s := s.setPower { s.power with flushAt := none }
    match s.power.warmHeld with
    | some cause => s.warmBegin cause
    | none => s

/-- PFW_RECOVERED: `PFW_N` has been high for 10 ms and the flush is done (R430). Where it was low at start-up nothing had been frozen or
flushed, and the boot source may now start. -/
def State.pfwRecovered (s : State) : State :=
  if !s.pfwLow || s.power.pfwLine.1 || decide (s.bases.mono < s.power.pfwLine.2 + 10000000) || s.power.flushAt.isSome then s
  else
    let s := ((s.putFld F.POWER_STATUS_PFW_LOW 0).putFld F.POWER_STATUS_WRITE_PROTECT 0).putFld F.POWER_STATUS_FLUSH_DONE 0
    if s.power.bootHeld then
      (s.setPower { s.power with bootHeld := false }).setLedger { s.ledger with savedCycles := s.ledger.powerCycles }
    else
      let us := (s.power.pfwLine.2 - s.pairAt R.POWER_PFW_TIME_LO) / 1000
      let s := (s.drive .flushDone false).reopenLedger
      (((s.event E.POWER_PFW_RECOVERED noSource (leBytes 4 (sat32 us))).raise I.POWER_PFW_RECOVERED)).energyThaw

end Sys2Proof.Machine
end

