-- ==== Sys2Proof/Machine/Time.lean ====
section
/-!
DEFINITION. Sys2Proof/Machine/Time.lean: the commands of TIME (R68 to R90): time-source samples, the servo, path steps, the
cross-check, UTC and leap seconds, pulses.
-/

namespace Sys2Proof.Machine

/-! Samples. -/

/-- AUX takes the time of its source; the cross-check of R73 is timed. -/
def State.crossCheck (s : State) (c : Nat) (off : Int) : State :=
  let s := if c = s.fld F.TIME_STATUS_AUX_SOURCE then s.setBases { s.bases with aux := ((s.bases.grid : Int) - off).toNat } else s
  let diff : Int := (s.bases.grid : Int) - s.bases.aux
  let tol := s.fld F.TIME_SERVO_CFG_CROSS_TOL
  let both := s.fld F.TIME_STATUS_AUX_SOURCE != 0 && s.fld F.TIME_STATUS_GRID_SOURCE != 0
  let s := if s.fld F.TIME_STATUS_AUX_SOURCE != 0 then s.putReg R.TIME_AUX_DIFF (satSigned32 diff) else s
  let apart := both && decide (tol < diff.natAbs)
  let s := s.setTime { s.time with crossSince := if apart then some (s.time.crossSince.getD s.bases.mono) else none }
  match s.time.crossOut with
  | [a, b] =>
    let near := decide (((s.src a).offset - (s.src b).offset).natAbs ≤ tol)
    s.setTime { s.time with agreeSince := if near then some (s.time.agreeSince.getD s.bases.mono) else none }
  | _ => s

/-- An offset of the followed source is accepted (R75, R78): shown, kept, slewed. Learned figures are free values (log 5). -/
def State.accept (s : State) (off : Int) : State :=
  let s := s.putReg R.TIME_OFFSET (satSigned32 off)
  s.setTime { s.time with slew := -off, slewed := 0, offsets := (off :: s.time.offsets).take 16 }

/-- While LOCKED the servo learns the OCXO's figures. -/
def State.learn (s : State) : State :=
  let s := s.putReg R.TIME_FREQ s.free32
  let s := s.draw
  (s.putReg R.TIME_AGING s.free32).draw

/-- An offset above 1 s after the first LOCKED holds the servo (R75). -/
def State.holdTooLarge (s : State) (off : Int) : State :=
  let s := s.setTime { s.time with tooLarge := true, slew := 0 }
  let s := s.event E.TIME_OFFSET_TOO_LARGE noSource (leBytes 4 (satSigned32 off))
  s.setServo svHoldover

/-- The servo steps GRID by a measured offset (R75). -/
def State.stepBy (s : State) (off : Int) : State :=
  let s := (s.putReg R.TIME_OFFSET (satSigned32 off)).setTime { s.time with slewed := 0 }
  s.stepGrid ((s.bases.grid : Int) - off).toNat

/-- GRID follows an offset by the servo's state (R75). -/
def State.follow (s : State) (off : Int) : State :=
  let v := s.servo
  let locked := s.isSet F.TIME_STATUS_EVER_LOCKED
  if s.isSet F.TIME_CTRL_FORCE_HOLDOVER then s
  else if s.time.tooLarge then
    if s.mode = 2 then ((s.stepBy off).setTime { (s.stepBy off).time with tooLarge := false }).setServo svAcquire
    else s
  else if locked && decide (1000000000 < off.natAbs) then s.holdTooLarge off
  else if v = svAcquire then
    if !locked && decide (s.mode ≤ 2) && (!s.time.acquired || decide (1000 < off.natAbs)) then
      let s := s.stepBy off
      s.setTime { s.time with acquired := true, within := 0, offsets := [] }
    else
      let s := s.accept off
      let n := if off.natAbs ≤ 100 then s.time.within + 1 else 0
      let s := s.setTime { s.time with within := n, acquired := true }
      if 16 ≤ n then s.setServo svLocked else s
  else if v = svLocked then (s.accept off).learn
  else s

/-- A valid sample of source `c`: GRID minus source, corrected. -/
def State.sample (s : State) (c : Nat) (off : Int) (need : Nat) : State :=
  let x := s.src c
  let s := s.putSrc c { x with good := x.good + 1, bad := 0, offset := off, last := s.bases.mono }
  let s := if need ≤ x.good + 1 then s.qualify c else s
  let s := if c = s.fld F.TIME_STATUS_GRID_SOURCE then s.follow off else s
  s.crossCheck c off

/-! Path steps (R82, R83). -/

/-- The predicted offset: the last accepted one, moved by the slew applied since (log 13). -/
def State.predicted (s : State) : Int := signed 32 (s.regN R.TIME_OFFSET) + s.time.slewed

/-- A confirmed step with the offset departed: PATH_SUSPECT (R82), which ends at once where another source is qualified (R83). -/
def State.enterSuspect (s : State) (c : Nat) (step dep : Int) : State :=
  let s := (s.putReg R.TIME_PATH_STEP (satSigned32 step)).putReg R.TIME_PATH_OFFSET (satSigned32 dep)
  let s := (s.event E.TIME_PATH_SUSPECT (c - 1) (leBytes 1 (c - 1) ++ leBytes 4 (satSigned32 step) ++ leBytes 4 (satSigned32 dep))).raise I.TIME_PATH_SUSPECT
  let s := s.setTime { s.time with withheld := [] }
  (s.setServo svSuspect).select false

/-- A sample whose delay step exceeds THRESH is withheld (R82); the third in a row with one sign confirms the step. -/
def State.withhold (s : State) (c : Nat) (step dep : Int) (fresh : Bool) (delay : Nat) : State :=
  let s := s.setTime { s.time with slew := 0 }
  if !fresh then s
  else
    let same := s.time.withheld.all (fun w => decide (0 < w.1) == decide (0 < step))
    let s := if same then s else
      (s.count R.TIME_PATH_DISCARDS s.time.withheld.length).setTime { s.time with withheld := [] }
    let w := s.time.withheld ++ [(step, dep)]
    if w.length < 3 then s.setTime { s.time with withheld := w }
    else if s.fld F.TIME_PATH_CFG_OFFSET_TOL < dep.natAbs then s.enterSuspect c step dep
    else
      let s := s.setTime { s.time with withheld := [], delays := [delay] }
      s.event E.TIME_PATH_STEP_SYMMETRIC (c - 1) (leBytes 1 (c - 1) ++ leBytes 4 (satSigned32 step))

/-- A suspect source that is not followed proves itself (R83). -/
def State.proveSuspect (s : State) (c : Nat) (pre delay : Nat) (off : Int) : State :=
  let x := s.src c
  let near := decide (2 * ((delay : Int) - pre).natAbs ≤ s.fld F.TIME_PATH_CFG_THRESH) && decide (off.natAbs ≤ s.fld F.TIME_PATH_CFG_OFFSET_TOL)
  let n := if near then x.suspectGood + 1 else 0
  s.putSrc c (if 16 ≤ n then { x with suspect := none, suspectGood := 0 } else { x with suspectGood := n })

/-- PATH_SUSPECT ends by itself after 16 good samples (R83); a PATH_ACCEPT at the time of the last of them does nothing (R88). -/
def State.autoClear (s : State) (delay : Nat) (off : Int) : State :=
  let near := decide (2 * ((delay : Int) - meanDelay s.time.delays).natAbs ≤ s.fld F.TIME_PATH_CFG_THRESH) &&
    decide ((off - s.predicted).natAbs ≤ s.fld F.TIME_PATH_CFG_OFFSET_TOL)
  let n := if near then s.time.autoGood + 1 else 0
  if 16 ≤ n then
    let s := s.setTime { s.time with autoGood := 0, cleared := some s.bases.mono }
    let s := s.event E.TIME_PATH_CLEARED noSource (leBytes 1 0 ++ leBytes 4 (s.regN R.TIME_ASYM_COMP))
    s.setServo svLocked
  else s.setTime { s.time with autoGood := n }

/-- A complete Sync on a port gives a sample (R75, R82): GRID at arrival minus the source's time, less `TIME_ASYM_COMP`. Each sample that
would go to the servo is judged. -/
def State.syncSample (s : State) (c : Nat) (origin : Nat) (correction stamp : Int) (interval : Nat) : State :=
  let x := s.src c
  let off := stamp - ((origin : Int) + correction + x.delay) - signed 32 (s.regN R.TIME_ASYM_COMP)
  let fresh := x.fresh
  let s := s.putSrc c { x with interval := interval, fresh := false }
  let s := match x.suspect with | some pre => s.proveSuspect c pre x.delay off | none => s
  let ref := s.time.delays
  let step : Int := (x.delay : Int) - meanDelay ref
  let grid := c == s.fld F.TIME_STATUS_GRID_SOURCE
  if grid && s.servo == svSuspect then
    (s.autoClear x.delay off).putSrc c { s.src c with last := s.bases.mono, good := x.good + 1 }
  else if grid && (s.servo == svLocked || s.servo == svAcquire) && !ref.isEmpty && decide (s.fld F.TIME_PATH_CFG_THRESH < step.natAbs) then
    let s := s.putSrc c { s.src c with last := s.bases.mono }
    s.withhold c step (off - s.predicted) fresh x.delay
  else
    let s := if grid then
      let s := s.count R.TIME_PATH_DISCARDS s.time.withheld.length
      s.setTime { s.time with withheld := [], delays := if fresh then (x.delay :: ref).take 16 else ref }
      else s
    s.sample c off 10

/-! UTC and leap seconds (R84). -/

/-- Does a source decide on leap seconds: is it the first one qualified that warns of them (R84)? -/
def State.decidesLeap (s : State) (c : Nat) : Bool := (s.available.filter (fun x => (s.src x).warns)).head? == some c

/-- A leap second is announced for the end of this UTC day. Direction 0 inserts, 1 deletes. -/
def State.announceLeap (s : State) (source dir : Nat) : State :=
  if s.isSet F.TIME_UTC_PENDING && s.fld F.TIME_UTC_DIRECTION == dir then s
  else
    let utc : Int := (s.bases.grid / 1000000000 : Nat) - s.taiUtc
    let day := (utc / 86400).toNat
    let s := (s.putFld F.TIME_UTC_PENDING 1).putFld F.TIME_UTC_DIRECTION dir
    let at' : Int := (86400 * (day + 1) : Nat) + s.taiUtc + (if dir = 0 then 1 else -1)
    let s := s.setTime { s.time with leapAt := some at'.toNat }
    (s.event E.TIME_LEAP_ANNOUNCED noSource (leBytes 1 source ++ leBytes 1 dir ++ leBytes 4 day)).raise I.TIME_LEAP

/-- Leap flags of a source: an announcement, or its withdrawal. In HOLDOVER none is taken (R88). -/
def State.leapFlags (s : State) (c : Nat) (insert delete : Bool) : State :=
  if s.servo = svHoldover ∨ !s.decidesLeap c then s
  else if insert then s.announceLeap c 0
  else if delete then s.announceLeap c 1
  else if s.isSet F.TIME_UTC_PENDING then (s.putFld F.TIME_UTC_PENDING 0).setTime { s.time with leapAt := none }
  else s

/-! The commands. -/

/-- clockClass sent as master (R74). The bound of R77 is 1 µs. -/
def State.masterClass (s : State) : Nat :=
  if s.servo = svLocked ∧ s.primarySource then 6
  else if s.servo = svFreerun then 248
  else if s.errorBound ≤ 1000 then 7 else 52

/-- A PTP message leaves a port: two-step, with the time its kind carries (R74). -/
def State.emitPtp (s : State) (port kind time : Nat) : State :=
  s.emit (.ptp port kind time s.masterClass (s.fld F.TIME_PTP_CFG_DOMAIN) (s.fld F.TIME_PTP_CFG_PROFILE))

/-- A port's 1588 portState. -/
def State.ptpState (s : State) (p : Nat) : Nat := bits (s.regN R.TIME_PTP_PORT_STATE) (4 * p + 3) (4 * p)

/-- May a port act as master? Not under SLAVE_ONLY, nor on an ordinary clock that is the slave of another port (R74). -/
def State.ptpMaster (s : State) (p : Nat) : Bool :=
  s.ptpState p == 6 && !s.isSet F.TIME_PTP_CFG_SLAVE_ONLY &&
  (s.isSet F.TIME_PTP_CFG_BOUNDARY || (List.range 8).all (fun q => s.ptpState q != 9))

/-- PTP_MESSAGE (R71, R74, R75, R82, R84): a message that the port passed to TIME (R95). The arrival and departure times it brings are as
latched; the stamps are formed from them (R107). -/
def State.ptp (s : State) (port : Nat) (m : PtpMsg) : State :=
  let c := port + 1
  if s.domain pdTime ≠ 0 ∨ !s.linkIsUp port ∨ !bit (s.fld F.TIME_PTP_CFG_PORTS) port then s
  else
    let x := s.src c
    let state := bits (s.regN R.TIME_PTP_PORT_STATE) (4 * port + 3) (4 * port)
    match m with
    | .announce ps cls acc steps gm utc l61 l59 inacc =>
      let ps := if ps = 6 ∧ s.isSet F.TIME_PTP_CFG_SLAVE_ONLY then state else ps
      let s := s.putReg R.TIME_PTP_PORT_STATE (withBits (s.regN R.TIME_PTP_PORT_STATE) (4 * port + 3) (4 * port) ps)
      let s := s.putSrc c { x with
        announce := s.bases.mono, clockClass := cls, utc := utc, warns := true
        inaccuracy := if s.isSet F.TIME_PTP_CFG_PROFILE then inacc else 0 }
      let s := if cls ≤ s.fld F.TIME_PTP_CFG_MAX_CLASS ∧ ps = 9 then s else s.disqualify c
      let s := if c = s.fld F.TIME_STATUS_GRID_SOURCE then
        (s.putReg R.TIME_GM_QUALITY (65536 * (steps % 65536) + acc % 256 * 256 + cls % 256)).putPair R.TIME_GM_ID_LO gm else s
      s.takeUtc.leapFlags c l61 l59
    | .pdelay t1 t2 t3 t4 corr =>
      let d := ((s.rxStamp port t4 - s.txStamp port t1) - ((t3 : Int) - t2) - corr) / 2
      let s := s.putSrc c { x with delay := d.toNat, fresh := true }
      if c = s.fld F.TIME_STATUS_GRID_SOURCE then s.putReg R.TIME_PATH_DELAY (sat32 d.toNat) else s
    | .pdelayReq stamp => (s.emitPtp port 3 (s.rxStamp port stamp).toNat).emitPtp port 10 (s.txStamp port s.bases.grid).toNat
    | .sync origin corr stamp interval =>
      if state ≠ 9 ∨ s.fld F.TIME_PTP_CFG_MAX_CLASS < x.clockClass then s
      else s.syncSample c origin corr (s.rxStamp port stamp) interval

def execPtpMessage (t port : Nat) (msg : PtpMsg) (s : State) : Host.Outcome State Fault Refusal := run t (·.ptp port msg) s

/-- PTP_TRANSMIT (R74): each second Pdelay_Req on every PTP port whose link is up, and Sync with its Follow_Up and Announce on those
that act as master. The Follow_Up carries the Sync's departure stamp (R107). -/
def State.ptpTransmit (s : State) : State :=
  if s.domain pdTime ≠ 0 then s
  else (List.range 8).foldl (fun s p =>
    if !s.linkIsUp p || !bit (s.fld F.TIME_PTP_CFG_PORTS) p then s
    else
      let s := s.emitPtp p 2 s.bases.grid
      if s.ptpMaster p then
        ((s.emitPtp p 0 s.bases.grid).emitPtp p 8 (s.txStamp p s.bases.grid).toNat).emitPtp p 11 s.bases.grid else s) s

def execPtpTransmit (t : Nat) (s : State) : Host.Outcome State Fault Refusal := run t State.ptpTransmit s

/-- TIME_PLL_LOCK (R70): GRID may leave FREERUN. -/
def State.pllLock (s : State) : State :=
  if s.domain pdTime ≠ 0 then s else (s.setTime { s.time with pllLocked := true }).select true

def execTimePllLock (t : Nat) (s : State) : Host.Outcome State Fault Refusal := run t State.pllLock s

/-- SOURCE_TIMEOUT (R71): the source has missed its Syncs, edges or frames for its limit. -/
def State.sourceTimeout (s : State) (c : Nat) : State :=
  let x := s.src c
  let m := s.bases.mono
  let late := if 1 ≤ c ∧ c ≤ 8 then decide (x.last + 3 * x.interval ≤ m) || decide (x.announce + 3000000000 ≤ m)
    else if c = 9 ∨ c = 11 then decide ((s.src 9).edge + 1100000000 ≤ m)
    else if c = 10 then decide (x.last + 3000000000 ≤ m) else false
  if late then s.disqualify c else s

def execSourceTimeout (t source : Nat) (s : State) : Host.Outcome State Fault Refusal := run t (·.sourceTimeout source) s

/-- PPS_EDGE (R71, R80): stamped, corrected by the cable compensation; spaced 1 s ± 1 µs from the last. The edges of `PPS_I`
are kept under code 9. Alone (code 11) its phase is used while E is below 400 ms. -/
def State.ppsEdge (s : State) (stamp : Nat) : State :=
  if s.domain pdTime ≠ 0 ∨ !s.isSet F.TIME_INPUT_CFG_PPS_EN then s
  else
    let g : Int := (stamp : Int) - signed 32 (s.regN R.TIME_PPS_I_COMP)
    let m := s.bases.mono
    let x := s.src 9
    let spaced := decide (999999000 ≤ m - x.edge ∧ m - x.edge ≤ 1000001000)
    let x := { x with edge := m, edgeGrid := g.toNat, labelled := false }
    let s := s.putSrc 9 (if spaced then x else { x with good := 0 })
    let phase := g % 1000000000
    let off : Int := if phase ≤ 500000000 then phase else phase - 1000000000
    if !spaced then s.putSrc 11 { s.src 11 with good := 0 }
    else if s.errorBound < 400000000 ∨ s.qualified 11 then s.sample 11 off 10
    else s.putSrc 11 { s.src 11 with good := (s.src 11).good + 1 }

def execPpsEdge (t stamp : Nat) (s : State) : Host.Outcome State Fault Refusal := run t (·.ppsEdge stamp) s

/-- TOD_SENTENCE (R80): a ZDA sentence that ends 100 to 900 ms after an edge labels it; any other is a message error. -/
def State.todSentence (s : State) (utc : Nat) (ok : Bool) : State :=
  if s.domain pdTime ≠ 0 ∨ !s.isSet F.TIME_INPUT_CFG_TOD_EN then s
  else
    let x := s.src 9
    let d := s.bases.mono - x.edge
    let tai : Int := (utc : Int) + s.taiUtc
    let inTime := ok && !x.labelled && decide (100000000 ≤ d ∧ d ≤ 900000000)
    if !inTime then
      let s := s.putSrc 9 { x with bad := x.bad + 1, good := 0 }
      if 2 ≤ x.bad + 1 then s.disqualify 9 else s
    else
      let consistent := x.good == 0 || x.label + 1 == tai.toNat
      let s := s.putSrc 9 { x with labelled := true, label := tai.toNat, bad := 0, good := if consistent then x.good else 0 }
      s.sample 9 ((x.edgeGrid : Int) - 1000000000 * tai) 10

def execTodSentence (t utc : Nat) (ok : Bool) (s : State) : Host.Outcome State Fault Refusal := run t (·.todSentence utc ok) s

/-- Days from 1970-01-01 to the first day of a year of the Gregorian calendar. -/
def daysToYear (y : Nat) : Nat := 365 * (y - 1970) + ((y - 1) / 4 - 1969 / 4) - ((y - 1) / 100 - 1969 / 100) + ((y - 1) / 400 - 1969 / 400)

/-- The year of a day counted from 1970-01-01. -/
def yearOfDay (d : Nat) : Nat :=
  let y := 1970 + d / 366
  let y := if daysToYear (y + 1) ≤ d then y + 1 else y
  let y := if daysToYear (y + 1) ≤ d then y + 1 else y
  if daysToYear (y + 1) ≤ d then y + 1 else y

/-- IRIG_FRAME (R71, R81): phase and seconds, with the IEEE 1344 extensions when present. -/
def State.irigFrame (s : State) (stamp : Nat) (ok ext : Bool) (year : Option Nat) (second : Nat) (localOffset : Int)
    (quality : Nat) (pending delete : Bool) : State :=
  if s.domain pdTime ≠ 0 ∨ !s.isSet F.TIME_INPUT_CFG_IRIG_EN then s
  else
    let x := s.src 10
    let good := ok && (ext || !s.isSet F.TIME_INPUT_CFG_IRIG_1344_REQ)
    if !good then
      let s := s.putSrc 10 { x with bad := x.bad + 1, good := 0 }
      if 3 ≤ x.bad + 1 then s.disqualify 10 else s
    else
      let y := year.getD (yearOfDay (((s.bases.grid / 1000000000 : Nat) - s.taiUtc) / 86400).toNat)
      let utc : Int := (86400 * (daysToYear y) + second : Nat) - (if ext then localOffset else 0)
      let tai := utc + s.taiUtc
      let g : Int := (stamp : Int) - signed 32 (s.regN R.TIME_IRIG_COMP)
      let consistent := x.good == 0 || (x.label : Int) + 1 == tai
      let s := s.putSrc 10 { x with label := tai.toNat, inaccuracy := if ext then quality else 0, warns := ext, good := if consistent then x.good else 0 }
      let s := s.sample 10 (g - 1000000000 * tai) 10
      if ext then s.leapFlags 10 (pending && !delete) (pending && delete) else s

def execIrigFrame (t stamp : Nat) (ok ext : Bool) (year : Option Nat) (second : Nat) (localOffset : Int) (quality : Nat)
    (leapPending leapDelete : Bool) (s : State) : Host.Outcome State Fault Refusal :=
  run t (·.irigFrame stamp ok ext year second localOffset quality leapPending leapDelete) s

/-- CROSS_FAIL (R73): GRID and AUX have differed beyond CROSS_TOL for 1 s. A third qualified source decides which of the two
is disqualified; else the servo enters HOLDOVER, both are barred, and no other source ends it before one qualifies. -/
def State.crossFail (s : State) : State :=
  match s.time.crossSince with
  | none => s
  | some m =>
    if s.bases.mono < m + 1000000000 then s
    else
      let g := s.fld F.TIME_STATUS_GRID_SOURCE
      let a := s.fld F.TIME_STATUS_AUX_SOURCE
      let tol := s.fld F.TIME_SERVO_CFG_CROSS_TOL
      let third := ((List.range 12).filter (fun c => s.qualified c && c != g && c != a)).head?
      let far (c k : Nat) : Bool := decide (tol < ((s.src c).offset - (s.src k).offset).natAbs)
      let loser := match third with
        | some k => if far g k && !far a k then some g else if far a k && !far g k then some a else none
        | none => none
      let diff := signed 32 (s.regN R.TIME_AUX_DIFF)
      let rec' (s : State) (o : Nat) : State :=
        (s.event E.TIME_CROSS_FAIL noSource (leBytes 1 g ++ leBytes 1 a ++ leBytes 4 (satSigned32 diff) ++ leBytes 1 o)).raise I.TIME_CROSS_FAIL
      let s := s.setTime { s.time with crossSince := none }
      let s := s.lasting fcTimeSource (element pdTime g)
      match loser with
      | some c => (rec' s 0).disqualify c
      | none =>
        (rec' s 1).crossLost g a

def execCrossFail (t : Nat) (s : State) : Host.Outcome State Fault Refusal := run t State.crossFail s

/-- CROSS_AGREE (R73): the two barred sources have agreed for 10 s; they may qualify again. -/
def State.crossAgree (s : State) : State :=
  match s.time.agreeSince with
  | none => s
  | some m =>
    if s.bases.mono < m + 10000000000 then s
    else
      let l := s.time.crossOut
      let s := s.setTime { s.time with crossOut := [], agreeSince := none }
      l.foldl (fun s c => if 10 ≤ (s.src c).good then s.qualify c else s) s

def execCrossAgree (t : Nat) (s : State) : Host.Outcome State Fault Refusal := run t State.crossAgree s

/-- LEAP_APPLIED (R84): the leap second takes effect at the end of the UTC day, also after the servo left LOCKED. -/
def State.leapApplied (s : State) : State :=
  match s.time.leapAt with
  | none => s
  | some l =>
    if s.bases.grid < 1000000000 * l then s
    else
      let o := s.taiUtc + (if s.fld F.TIME_UTC_DIRECTION = 0 then 1 else -1)
      let s := ((s.putFld F.TIME_UTC_TAI_UTC (unsigned 16 o)).putFld F.TIME_UTC_PENDING 0).putFld F.TIME_UTC_OCCURRED 1
      let s := s.setTime { s.time with leapAt := none, leapDone := some l }
      (s.event E.TIME_LEAP_APPLIED noSource (leBytes 4 (satSigned32 o))).raise I.TIME_LEAP

def execLeapApplied (t : Nat) (s : State) : Host.Outcome State Fault Refusal := run t State.leapApplied s

/-- PPS_O_EDGE (R81, R286): up at each GRID second unless gated in FREERUN, down after WIDTH. -/
def State.ppsOEdge (s : State) : State :=
  if s.domain pdTime ≠ 0 then s
  else
    let sec := s.bases.grid / 1000000000
    let gated := s.isSet F.TIME_PPS_O_CFG_GATE && s.servo == svFreerun
    if s.time.ppsHigh then
      if s.fld F.TIME_PPS_O_CFG_WIDTH ≤ s.bases.grid % 1000000000 ∨ s.time.ppsLast < sec ∨ gated then
        (s.setTime { s.time with ppsHigh := false }).drive .pps false else s
    else if s.time.ppsLast < sec ∧ !gated then
      (s.setTime { s.time with ppsHigh := true, ppsLast := sec }).drive .pps true
    else s

def execPpsOEdge (t : Nat) (s : State) : Host.Outcome State Fault Refusal := run t State.ppsOEdge s

/-! Pulses (R87). -/

/-- PULSE_EDGE (R87): the next edge of pulse `n`, up at its time and down a width later. -/
def State.pulseEdge (s : State) (n : Nat) : State :=
  if s.domain pdTime ≠ 0 then s
  else
    let p := smGet {} s.time.pulses n
    let now := s.base p.onTest
    if p.level then
      if now < p.next + p.width then s
      else (s.pulsePut n (p.ended s.base)).drive (.pulse n) false
    else if p.armed ∧ p.next ≤ now then
      (s.setTime { s.time with pulses := smPut s.time.pulses n { p with level := true } }).drive (.pulse n) true
    else s

def execPulseEdge (t n : Nat) (s : State) : Host.Outcome State Fault Refusal := run t (·.pulseEdge n) s

/-- PULSE_ARM (R87, R88). The present pulse of R88 is one whose ball is high: on an armed pulse that is low the new settings take effect at
once. DESIGN CHOICE (log 44). -/
def cmdPulseArm (s : State) : CmdResult :=
  let n := s.arg 3 0
  if 4 ≤ n then refuse s stBadArg
  else
    let start := s.pairAt (R.TIME_PULSEn_START_LO n)
    let period := s.regN (R.TIME_PULSEn_PERIOD n)
    let width := s.regN (R.TIME_PULSEn_WIDTH n)
    let test := s.isSet (F.TIME_PULSEn_CTRL_BASE n)
    let badPeriod := period ≠ 0 ∧ (period < 100 ∨ period < width + 8)
    if badPeriod ∨ width < 8 ∨ (period = 0 ∧ start < s.base test) then refuse s stBadArg
    else
      let p := smGet {} s.time.pulses n
      let q := if p.level then { p with waiting := some (test, start, period, width) }
        else armPulse (s.base test) test start period width
      ok (s.pulsePut n q)

def execPulseArm (t : Nat) (path : Path) (s : State) : Host.Outcome State Fault Refusal := command t 3 6 path cmdPulseArm s

/-- PULSE_DISARM (R89): low at once. -/
def cmdPulseDisarm (s : State) : CmdResult :=
  let n := s.arg 3 0
  if 4 ≤ n then refuse s stBadArg
  else
    let p := smGet {} s.time.pulses n
    let s := if p.level then s.drive (.pulse n) false else s
    let s := s.setTime { s.time with pulses := smDel s.time.pulses n }
    ok (s.putFld (F.TIME_PULSEn_CTRL_ARMED n) 0)

def execPulseDisarm (t : Nat) (path : Path) (s : State) : Host.Outcome State Fault Refusal := command t 3 7 path cmdPulseDisarm s

/-! Commands of the register block (R89). -/

/-- The 64-bit argument in ARG0 and ARG1. -/
def State.arg64 (s : State) (b : Nat) : Nat := s.arg b 0 + 2 ^ 32 * s.arg b 1

/-- SET_GRID: in FREERUN or ACQUIRE before the first LOCKED, or in M2; never in M3 to M11 (R75; log 13). -/
def cmdSetGrid (s : State) : CmdResult :=
  let early := !s.isSet F.TIME_STATUS_EVER_LOCKED && (s.servo == svFreerun || s.servo == svAcquire)
  if s.mode = 2 ∨ (early ∧ s.mode < 3) then
    let s := s.stepGrid (s.arg64 3)
    ok (s.setTime { s.time with within := 0 })
  else refuse s stIllegal

def execSetGrid (t : Nat) (path : Path) (s : State) : Host.Outcome State Fault Refusal := command t 3 1 path cmdSetGrid s

/-- SET_TEST: loads TEST while it is stopped. -/
def cmdSetTest (s : State) : CmdResult :=
  if s.isSet F.TIME_CTRL_TEST_RUN then refuse s stIllegal
  else
    let goal := s.arg64 3
    let old := s.bases.test
    let s := s.setBases { s.bases with test := goal, testFrac := 0 }
    let s := if s.onTest then s.stepLattices (goal - old) else s
    ok (if old < goal then s.skipPulses true goal else s)

def execSetTest (t : Nat) (path : Path) (s : State) : Host.Outcome State Fault Refusal := command t 3 2 path cmdSetTest s

/-- PATH_ACCEPT (R83): the departure is adopted as asymmetry (1) or as a true offset (0). Where PATH_SUSPECT has just cleared by itself, on a
sample of the same time, it does nothing (R88). -/
def cmdPathAccept (s : State) : CmdResult :=
  let a := s.arg 3 0
  if s.servo = svLocked ∧ s.time.cleared = some s.bases.mono then ok s
  else if s.servo ≠ svSuspect then refuse s stIllegal
  else if 2 ≤ a then refuse s stBadArg
  else
    let comp := signed 32 (s.regN R.TIME_ASYM_COMP) + (if a = 1 then signed 32 (s.regN R.TIME_PATH_OFFSET) else 0)
    let s := s.putReg R.TIME_ASYM_COMP (satSigned32 comp)
    let s := s.setTime { s.time with delays := [], withheld := [] }
    let s := s.event E.TIME_PATH_CLEARED noSource (leBytes 1 (if a = 1 then 1 else 2) ++ leBytes 4 (s.regN R.TIME_ASYM_COMP))
    ok (s.setServo svAcquire)

def execPathAccept (t : Nat) (path : Path) (s : State) : Host.Outcome State Fault Refusal := command t 3 3 path cmdPathAccept s

/-- CLEAR_ASYM: in M2 or M9. -/
def cmdClearAsym (s : State) : CmdResult :=
  if s.mode = 2 ∨ s.mode = 9 then ok (s.putReg R.TIME_ASYM_COMP 0) else refuse s stIllegal

def execClearAsym (t : Nat) (path : Path) (s : State) : Host.Outcome State Fault Refusal := command t 3 4 path cmdClearAsym s

/-- SET_UTC (R84): while no PTP or IRIG source is qualified. -/
def cmdSetUtc (s : State) : CmdResult :=
  if (List.range 11).any (fun c => (decide (1 ≤ c ∧ c ≤ 8) || c == 10) && s.qualified c) then refuse s stIllegal
  else
    let flags := s.arg 3 1
    let s := (s.putFld F.TIME_UTC_TAI_UTC (s.arg 3 0 % 65536)).putFld F.TIME_UTC_SOURCE 3
    let s := s.putFld F.TIME_UTC_VALID 1
    ok (if bit flags 0 then s.announceLeap 0 (bits flags 1 1)
      else (s.putFld F.TIME_UTC_PENDING 0).setTime { s.time with leapAt := none })

def execSetUtc (t : Nat) (path : Path) (s : State) : Host.Outcome State Fault Refusal := command t 3 5 path cmdSetUtc s

end Sys2Proof.Machine
end

