-- ==== Sys2Proof/Machine/Regs.lean ====
section
/-!
DEFINITION. Sys2Proof/Machine/Regs.lean: the register space as a path reads and writes it (R5 to R8, R452, R455, R470 to R474, R496):
values that follow from the rest of the state, tables that read only, snapshots, rejected writes, commands by opcode.
-/

namespace Sys2Proof.Machine

/-! Tables in the blocks that read only. -/

/-- The word of a table at an offset of its block: `n` entries of `size` bytes from `base` on, the reserved bits of each word 0 (R4,
R7). `mask` gives the bits of a word that are not reserved. -/
def tableWord (off base size n : Nat) (mask : List Byte → Nat → Nat) (entry : Nat → List Byte) : Option Nat :=
  if base ≤ off ∧ off < base + size * n then
    let e := entry ((off - base) / size)
    let place := (off - base) % size
    some (leAt e place 4 &&& mask e (place / 4))
  else none

/-! The bits of an entry's words that are not reserved, word by word. -/

/-- A whole word. -/
abbrev w32 : Nat := 0xFFFFFFFF

/-- Words of a list, then 0. -/
def words (l : List Nat) (_ : List Byte) (w : Nat) : Nat := l.getD w 0
def wholeWords (_ : List Byte) (_ : Nat) : Nat := w32

/-- A TID, a TID with bit 31 for none. -/
abbrev wTid : Nat := 0x1FFFF
abbrev wTidNone : Nat := 0x8001FFFF

/-- Stream entry (R114), block descriptor (R116), GOOSE subscription (R135), catalogue entry (R119). -/
def streamMask : List Byte → Nat → Nat :=
  words [w32, w32, w32, w32, w32, w32, 0xFFFFFF3F, w32, wTid, 0x0FFFFFFF, 0xFFFFFF, w32, 0xFF3FFFFF]
def blockMask : List Byte → Nat → Nat := words [w32, 0x001FFFFF]
def subscriptionMask : List Byte → Nat → Nat :=
  words [0xFFFFFF03, w32, w32, 0xFFFF, w32, wTidNone, w32, w32, w32, w32, w32, w32, w32, w32, w32]
def catMask : List Byte → Nat → Nat :=
  words [0xFF03FF03, 0xFFFF1FFF, w32, w32, w32, 0xFFFFFF, 0x8FFF, wTid, w32, w32, w32, w32, w32]

/-- Correction table (R145): entries beyond POINTS read 0. -/
def correctionMask (e : List Byte) (w : Nat) : Nat :=
  if w = 0 then 0xFFFF else if 4 ≤ w ∧ w < 31 ∧ (w - 4) / 3 < leAt e 0 1 then w32 else 0

/-- Tracker (R205), mode-shape job (R226), area (R234), tie (R237), pattern (R238), check point (R245). -/
def trackerMask : List Byte → Nat → Nat := words [0xFF030FFF, 0xFFFFF, w32, w32, w32, w32]
def jobMask : List Byte → Nat → Nat := words [0x0FFF033F, w32, w32, w32]
def areaMask : List Byte → Nat → Nat := words [0xFFFF013F, 0xFF, w32, wTidNone, w32]
def tieMask : List Byte → Nat → Nat := words [0x3F3F1FFF, w32, w32, w32]
def patternMask : List Byte → Nat → Nat := words (0xFF :: List.replicate 8 0x3FFFFF)
def pointMask : List Byte → Nat → Nat := words [0xFFFF010F, wTid, wTid, wTid, wTid, w32, w32, 0xFFFF00FF]

/-- GOOSE control block (R268). -/
def gooseMask : List Byte → Nat → Nat :=
  words ([0xFFFF031F, 0x0FFF07FF, w32, w32, w32, w32, 0, 0] ++ List.replicate 48 w32)

/-- Alarm point (R251): SOURCE by its KIND. -/
def alarmMask (e : List Byte) (w : Nat) : Nat :=
  if w = 2 then ([0xFFFFF, 0xFFFF, 0x3FFF, 0xFFFF, 0xF] : List Nat).getD (leAt e 3 1) w32
  else words [0xFF0F03FF, 0xFF0303FF, 0, w32, w32, w32, w32, w32, 0x00FF9FFF, w32, w32, w32, w32, w32] e w

/-- Output stream (R334) and its block entry (R335). -/
def osMask : List Byte → Nat → Nat :=
  words ([0x03FF3F3F, w32, w32, 0xFFFFFF, 0x0FFF07FF, w32, w32, 0xFFBFFFFF, w32, w32, w32, w32, 0xFF, w32, 0, 0] ++ List.replicate 16 w32)
def osBlockMask : List Byte → Nat → Nat := words [0xFF1FFFFF, w32, 0xFFFF, wTid, w32, w32, w32, w32, w32]

/-- Capture region (R364), trigger input by its KIND (R367), flow point (R384). -/
def captMask : List Byte → Nat → Nat := words [0x0F03FF0F, w32, w32, w32, w32, w32]
def inputMask (e : List Byte) (_ : Nat) : Nat :=
  ([0xF, 0xF, 0x3FFF, 0x3FFFFFFF, 0x1FFFFFF] : List Nat).getD (leAt e 0 1 % 16) 0xF
def flowMask : List Byte → Nat → Nat :=
  words [0xFF0307FF, 0xFF03, wTidNone, wTidNone, wTidNone, wTidNone, wTidNone, wTidNone, w32, w32]

/-- The first entry with a number. -/
def byNumber (l : List (List Byte)) (num : List Byte → Nat) (k : Nat) : List Byte := (l.find? (fun e => num e == k)).getD []

/-- A key slot as it reads: ID, algorithm, VALID_FROM; its key reads 0 (R128). -/
def KeySlot.shown (k : KeySlot) : List Byte := leBytes 4 k.id ++ leBytes 4 k.alg ++ leBytes 8 k.validFrom

/-- Live values of a flow point (chapter 16): 96-bit registers in 16-byte places, P, Q and I, quality and flags, peaks, sequence. -/
def FlowPoint.live (x : FlowPoint) : List Byte :=
  x.regs.flatMap (fun r => leBytes 16 r.1) ++ leBytes 4 x.p ++ leBytes 4 x.q ++ leBytes 4 x.i ++ leBytes 4 (65536 * x.quality + x.flags % 8) ++
    leBytes 4 (Fp.ofRat32 x.peakP) ++ leBytes 4 (Fp.ofRat32 x.peakI) ++ leBytes 4 (x.seq % 2 ^ 32)

/-- The word of a read-only table of a block. -/
def State.windowWord (s : State) (b off : Nat) : Option Nat :=
  match b with
  | 4 =>
    (tableWord off 0x10000 8 16384 blockMask (fun i => entryOf (s.cfg secStreams) 1 i)).or <|
    (tableWord off 0x30000 64 64 wholeWords (fun i => match smFind s.heddle.keys i with | some k => k.shown | none => [])).or <|
    (tableWord off 0x40000 64 512 subscriptionMask (fun i => entryOf (s.cfg secStreams) 2 i)).or <|
    tableWord off 0x80000 64 8192 streamMask (fun i => s.stream i)
  | 5 => tableWord off 0x80000 128 4096 correctionMask (fun i => entryOf (s.cfg secCorrection) 4 i)
  | 7 =>
    (tableWord off 0x10000 64 4096 trackerMask s.trackerEntry).or <|
    tableWord off 0x50000 64 64 jobMask (fun k => (smFind (oscJobs (s.cfg secOsc)) k).getD [])
  | 8 =>
    let c := s.cfg secIsle
    (tableWord off 0x10000 32 64 areaMask (byNumber (isAreas c) arNumber)).or <|
    (tableWord off 0x20000 32 256 tieMask (byNumber (isTies c) tiNumber)).or <|
    (tableWord off 0x30000 64 1024 patternMask (fun p => if p < leAt c 6 2 then isPattern c p else [])).or <|
    tableWord off 0x40000 32 16 pointMask (byNumber (isPoints c) cpNumber)
  | 9 =>
    (tableWord off 0x10000 256 32 gooseMask (byNumber (gooseEntries (s.cfg secAlarm)) gooseNumber)).or <|
    tableWord off 0x20000 64 1024 alarmMask (byNumber (alarmEntries (s.cfg secAlarm)) apNumber)
  | 11 =>
    (tableWord off 0x10000 128 64 osMask (fun n => (s.os n).getD [])).or <|
    tableWord off 0x20000 64 2048 osBlockMask (fun i => if i < leAt (s.cfg secShuttle) 4 4 then osBlock (s.cfg secShuttle) i else [])
  | 14 =>
    (tableWord off 0x10000 64 16 captMask s.capEntry).or <|
    (tableWord off 0x10400 4 256 inputMask (fun i => leBytes 4 (s.inputEntry i))).or <|
    tableWord off 0x10800 64 64 wholeWords (fun p => slice (s.cfg secCapt) (2048 + 64 * p) 64)
  | 15 =>
    (tableWord off 0x10000 64 2048 flowMask (fun f => (smFind (enEntries (s.cfg secEnergy)) f).getD [])).or <|
    tableWord off 0x40000 128 2048 wholeWords (fun f => match smFind s.energy.points f with | some x => x.live | none => [])
  | _ => none

/-! Values that follow from the rest of the state. -/

/-- The low or high word of a 64-bit value. -/
def wordOf (v : Nat) (high : Bool) : Nat := if high then v / 2 ^ 32 % 2 ^ 32 else v % 2 ^ 32

/-- Seconds of MONO spent in a mode since the draft loaded (R475). -/
def State.modeSeconds (s : State) (m : Nat) : Nat :=
  let past := smGet 0 s.draft.modeNs m
  let now := if s.mode = m then s.bases.mono - s.pairAt R.GLOBAL_MODE_SINCE_LO else 0
  sat32 ((past + now) / 1000000000)

/-- Blocks with a pending enabled cause, and queues whose vector's PBA bit is set (R475). -/
def State.irqSummary (s : State) : Nat := bitsOf 32 (fun b => (s.irqOf b).pending)
def State.queueSummary (s : State) : Nat := s.regN (R.HOST_PBAn 1)

def State.globalWord (s : State) (off : Nat) : Option Nat :=
  if off = 0x104 ∨ off = 0x108 then some (Config.dieId ((off - 0x104) / 4)).toNat
  else if off = 0x130 then some s.irqSummary
  else if off = 0x134 then some s.queueSummary
  else if 0x200 ≤ off ∧ off < 0x230 ∧ off % 4 = 0 then some (s.modeSeconds ((off - 0x200) / 4))
  else none

def State.timeWord (s : State) (off : Nat) : Option Nat :=
  let b := s.bases
  if 0x100 ≤ off ∧ off < 0x120 ∧ off % 4 = 0 then
    let v := if off < 0x108 then b.grid else if off < 0x110 then b.mono else if off < 0x118 then b.aux else b.test
    some (wordOf v (off % 8 == 4))
  else if off = 0x12C then some s.errorBound
  else if off = 0x190 then
    let recent : Bool := match s.time.leapDone with | some l => decide (b.grid < 1000000000 * (l + 86400)) | none => false
    some (withBits (s.regN R.TIME_UTC) 19 19 (if recent then 1 else 0))
  else if off = 0x194 then some s.timeQuality
  else if off = 0x1F0 then
    match s.time.entry with
    | some (_, since) => some (sat32 ((b.mono - since) / 1000000000))
    | none => none
  else none

/-- An output stream is enabled; it publishes (R337). -/
def State.osEnabled (s : State) (n : Nat) : Bool :=
  match s.os n with | some e => osFlag e 0 && (s.osSt n).enabled | none => false
def State.osPublishing (s : State) (n : Nat) : Bool := s.osEnabled n && s.mayPublish

def State.shuttleWord (s : State) (off : Nat) : Option Nat :=
  if off = 8 then some ((List.range 64).filter s.osPublishing).length
  else if 0x1000 ≤ off ∧ off < 0x1800 ∧ off % 0x20 = 0 then
    let n := (off - 0x1000) / 0x20
    let w := withBits (s.regN (R.SHUTTLE_OSn_STATE n)) 2 2 (if s.osChanged n s.now then 1 else 0)
    some (withBits (withBits w 1 1 (if s.osPublishing n then 1 else 0)) 0 0 (if s.osEnabled n then 1 else 0))
  else none

/-- Seconds or ms since a time on MONO, in 16 bits; all ones where there is none. -/
def State.age16 (s : State) (at' : Option Nat) (unit : Nat) : Nat :=
  match at' with | some t => min ((s.bases.mono - t) / unit) 65535 | none => 65535

/-- LEDGER's numbers (R416). -/
def State.ledgerWord (s : State) (off : Nat) : Option Nat :=
  let l := s.ledger
  if off = 8 then
    some ((l.staging.length + l.lost.toList.length) % 8192 + (match l.lost with | some r => if r.isOpen then 2 ^ 16 else 0 | none => 0) +
      (if l.clearing then 2 ^ 17 else 0) + (if l.key.isSome then 2 ^ 18 else 0) + (if l.authLocked then 2 ^ 19 else 0) +
      (match l.nonce with | some n => if s.bases.mono < n.issued + 60000000000 then 2 ^ 20 else 0 | none => 0))
  else if 0x100 ≤ off ∧ off < 0x120 ∧ off % 4 = 0 then
    let v := if off < 0x108 then l.next else if off < 0x110 then l.written else if off < 0x118 then l.oldest else l.acked
    some (wordOf v (off % 8 == 4))
  else if off = 0x120 then some l.epoch
  else if off = 0x124 then some l.powerCycles
  else if off = 0x128 ∨ off = 0x12C then some (wordOf s.opSeconds (off == 0x12C))
  else if off = 0x138 then some l.capacity
  else if 0x300 ≤ off ∧ off ≤ 0x320 ∧ off % 4 = 0 then
    some ([l.cRecords, l.cEvents, l.cCoalesced, l.cLost, l.cRetry, l.cFenced, l.cOverwritten, l.cQfull, l.cAuthFail].getD ((off - 0x300) / 4) 0)
  else none

/-- POWER: requested states, thresholds. -/
def State.powerWord (s : State) (off : Nat) : Option Nat :=
  if off = 0x104 then some ((List.range 16).foldl (fun a d => a + s.domainReq d * 4 ^ d) 0)
  else if 0x110 ≤ off ∧ off ≤ 0x128 ∧ off % 4 = 0 then
    let n := (off - 0x110) / 4
    some (withBits (s.regN (R.POWER_SUPPLYn n)) 31 16 (s.supplyThreshold n))
  else none

/-- An island's PLL is locked: its domain is ON and its clock neither lost nor fenced; those of AON, CTRL and HOST from 0.2 ms after
start-up (R445). -/
def State.pllLocked (s : State) (i : Nat) : Bool :=
  s.islandOn i && (smFind s.clock.relock i).isNone && !s.isSet (F.CLOCK_ISLn_STATE_FENCED i) && (decide (2 < i) || decide (200000 ≤ s.bases.mono)) &&
    (i != 6 || s.time.pllLocked)

def State.clockWord (s : State) (off : Nat) : Option Nat :=
  if off = 8 then some (withBits (s.regN R.CLOCK_STATUS) 15 0 (bitsOf 16 s.pllLocked))
  else if off = 0x104 then some (withBits (s.regN R.CLOCK_AVS_MV) 31 16 s.ageing.request)
  else if 0x200 ≤ off ∧ off < 0x300 ∧ off % 16 = 0 then
    let i := (off - 0x200) / 16
    let w := withBits (s.regN (R.CLOCK_ISLn_STATE i)) 31 31 (if s.pllLocked i then 1 else 0)
    some (withBits (withBits w 29 29 (if derateable i then 1 else 0)) 28 26 (s.derate i))
  else if 0x200 ≤ off ∧ off < 0x300 ∧ off % 16 = 8 then some (unsigned 32 (s.sens ((off - 0x200) / 16)))
  else none

/-- The boot straps' fields of PAIR_STATUS stand in its register; PAIR_MODE is the draft's (R310). -/
def State.pairWord (s : State) (off : Nat) : Option Nat :=
  if off = 8 then some (withBits (s.regN R.PAIR_STATUS) 1 0 s.pairMode)
  else if off = 0x118 then some (65536 * (s.age16 s.pair.ckptAt 1000000) + s.age16 s.pair.energyAt 1000000)
  else none

/-- REED: estimator entries and the groups they name, detectors, banks of the section in force (R173); REED_LOAD, the counts of the last
whole second, where a second without items counts 0. -/
def State.reedWord (s : State) (off : Nat) : Option Nat :=
  let c := s.cfg secReed
  if 0x140 ≤ off ∧ off ≤ 0x14C ∧ off % 4 = 0 then
    let sec := s.bases.mono / 1000000000
    if s.reed.second = sec then none
    else if s.reed.second + 1 = sec then some (s.reed.counts.getD ((off - 0x140) / 4) 0)
    else some 0
  else if off = 0x150 then
    let es := reedEstimators c
    let groups := (List.range 2048).filter (fun g => es.any (fun e => esGroup e == g))
    some (65536 * min groups.length 4095 + es.length % 2 ^ 13)
  else if off = 0x154 then some (reedDetectors c).length
  else if off = 0x158 then some ((2 ^ reedBanks c - 1) % 65536)
  else none

/-- A monitor line was received within the last 60 s. -/
def State.monActive (s : State) : Bool := match s.host.lineAt with | some at' => decide (s.bases.mono < at' + 60000000000) | none => false

/-- A PRP pair is active: PRP is set and both its ports run (log 15). -/
def State.prpActive (s : State) (pair : Nat) : Bool := s.inPrp (2 * pair) && s.portOn (2 * pair) && s.portOn (2 * pair + 1)

/-- A register whose value follows from the rest of the state. -/
def State.derived (s : State) (b off : Nat) : Option Nat :=
  if off = 0x10 then some (s.irqOf b).status.toNat
  else if off = 0x14 then some (s.irqOf b).enable.toNat
  else if off = 0x1C then some (s.irqOf b).count.toNat
  else
    match b with
    | 0 => s.globalWord off
    | 2 => if off = 8 then some (withBits (s.regN R.PORT_STATUS) 11 8 (bitsOf 4 s.prpActive)) else none
    | 3 => s.timeWord off
    | 4 => if off = 8 then some s.heddleStatus else none
    | 5 => s.reedWord off
    | 7 => if off = 0x120 then some (65536 * (s.age16 s.osc.partAt 1000000000) + s.age16 s.osc.archAt 1000000000) else none
    | 10 => s.pairWord off
    | 11 => s.shuttleWord off
    | 13 => if off = 0x100 then some (s.deviceId + (if s.isRoot then 65536 else 0)) else none
    | 24 => s.ledgerWord off
    | 26 => s.powerWord off
    | 27 => s.clockWord off
    | 29 => if off = 8 then some (withBits (s.regN R.MONITOR_STATUS) 0 0 (if s.monActive then 1 else 0)) else none
    | 30 => if off = 0x134 then some (min s.recentRecoveries.length 255) else none
    | _ => none

/-! Reading (R5, R6). -/

/-- Write-only fields read 0 (R8). -/
def RegRow.readable (r : RegRow) (w : Nat) : Nat := r.fields.foldl (fun w f => if f.access = .wo then withBits w f.hi f.lo 0 else w) w

/-- Has the block a header (R470)? -/
def blockHeader (b : Nat) : Bool := decide (b ≤ 15) || decide (24 ≤ b ∧ b ≤ 30)

/-- Is an aligned BAR0 offset defined: a register, a table's word, or the CAT window (R455, R471)? -/
def State.defined (s : State) (addr : Nat) : Bool :=
  addr % 4 == 0 && (decide (2 ^ 24 ≤ addr ∧ addr < 2 ^ 24 + 2 ^ 23) || (s.windowWord (addr / 2 ^ 20) (addr % 2 ^ 20)).isSome ||
    (blockHeader (addr / 2 ^ 20) && (regRow addr).isSome))

/-- The word a read of a BAR0 offset finds. An undefined one reads 0. -/
def State.readWord (s : State) (addr : Nat) : Nat :=
  let b := addr / 2 ^ 20
  let off := addr % 2 ^ 20
  if addr % 4 ≠ 0 then 0
  else if 16 ≤ b ∧ b ≤ 23 then
    let e := s.cat ((addr - 2 ^ 24) / 64)
    leAt e (addr % 64) 4 &&& catMask e (addr % 64 / 4)
  else if !blockHeader b then 0
  else
    match s.windowWord b off with
    | some w => w
    | none =>
      match regRow addr with
      | none => 0
      | some r => r.readable ((s.derived b off).getD (s.regN addr))

/-- Low words of 64-bit values (R6): first offset, spacing, how many. -/
def lowWords : List (Nat × Nat × Nat) :=
  [(0x104, 0x0, 1), (0x114, 0x0, 1), (0x100100, 0x0, 1), (0x100124, 0x0, 1), (0x10012C, 0x0, 1), (0x201104, 0x10000, 8),
   (0x201168, 0x10000, 8), (0x300100, 0x0, 1), (0x300108, 0x0, 1), (0x300110, 0x0, 1), (0x300118, 0x0, 1),
   (0x300158, 0x0, 1), (0x3001A0, 0x10, 4), (0x600208, 0x40, 4), (0x600210, 0x40, 4), (0x700208, 0x0, 1),
   (0xA00110, 0x0, 1), (0xA01000, 0x8, 64), (0xB01004, 0x20, 64), (0xC01008, 0x40, 32), (0xC01014, 0x40, 32),
   (0xE00128, 0x0, 1), (0xE01004, 0x40, 16), (0xE01020, 0x40, 16), (0xF00108, 0x0, 1), (0xF00110, 0x0, 1),
   (0x1800100, 0x0, 1), (0x1800108, 0x0, 1), (0x1800110, 0x0, 1), (0x1800118, 0x0, 1), (0x1800128, 0x0, 1),
   (0x1901004, 0x40, 4), (0x190100C, 0x40, 4), (0x1901014, 0x40, 4), (0x190101C, 0x40, 4), (0x1901024, 0x40, 4),
   (0x1901030, 0x40, 4), (0x1A00130, 0x0, 1), (0x1B00118, 0x0, 1), (0x1C00104, 0x0, 1), (0x1C10000, 0x10, 64),
   (0x1E00104, 0x0, 1)]

/-- The words above a low word that its read snapshots: the high word; two for a 96-bit energy register. -/
def highWords (addr : Nat) : List Nat :=
  if 0xF40000 ≤ addr ∧ addr < 0xF80000 ∧ addr % 16 = 0 ∧ addr % 128 < 96 then [addr + 4, addr + 8]
  else if lowWords.any (fun e => decide (e.1 ≤ addr) &&
      (if e.2.1 = 0 then addr == e.1 else (addr - e.1) % e.2.1 == 0 && decide ((addr - e.1) / e.2.1 < e.2.2))) then [addr + 4]
  else []

/-- A path's key of a snapshot (R467). -/
def snapKey (path : Path) (addr : Nat) : Nat := 2 ^ 32 * path.code + addr

/-- A read of a register that answers: a low word snapshots what stands above it; a snapshot serves the next read of its word. -/
def State.readReg (s : State) (path : Path) (addr : Nat) : State × Nat :=
  match highWords addr with
  | [] =>
    match smFind s.snaps (snapKey path addr) with
    | some v => (s.setSnaps (smDel s.snaps (snapKey path addr)), v.toNat)
    | none => (s, s.readWord addr)
  | l => (s.setSnaps (l.foldl (fun m a => smPut m (snapKey path a) (BitVec.ofNat 32 (s.readWord a))) s.snaps), s.readWord addr)

/-- A BAR0 read that reaches its block is answered; an undefined address reads 0 and is a host error (R455). -/
def State.answerRead (s : State) (addr : Nat) : State :=
  let undefined : Bool := !s.defined addr
  let s := if undefined then s.hostErr .host 0 2 addr else s
  let r := s.readReg .host addr
  r.1.emit (.readData (leBytes 4 r.2))

/-- A BAR0 read of the host: `whole` for one DWORD with all four byte enables. -/
def State.hostRead (s : State) (addr : Nat) (whole : Bool) : State :=
  if s.deaf .host then s
  else if !whole then (s.hostErr .host 0 1 addr).emit (.accessError false)
  else
    match s.regState addr with
    | 0 => s.answerRead addr
    | 3 => s.absentAccess .host addr
    | 4 => s.noStacksAccess .host addr
    | _ => s.stall { domain := regDomain addr, path := .host, addr := addr }

/-! Commands by opcode (R474). -/

/-- The commands of block 0, GLOBAL. -/
def globalCommand (path : Path) (op : Nat) : State → CmdResult :=
  match op with
  | 1 => cmdWarmReset path
  | _ => fun s => refuse s stBadArg

/-- The commands of block 1, DRAFT. -/
def draftCommand (path : Path) (op : Nat) : State → CmdResult :=
  match op with
  | 1 => cmdLoad path
  | 2 => cmdUnload
  | 3 => cmdLoadCard
  | 4 => cmdDropCard
  | 5 => cmdPatch
  | 6 => cmdCancelPatch
  | 7 => cmdImageWrite
  | 8 => cmdImageErase
  | _ => fun s => refuse s stBadArg

/-- The commands of block 2, PORT. -/
def portCommand (op : Nat) : State → CmdResult :=
  match op with
  | 1 => cmdMcastWrite
  | 2 => cmdMcastClear
  | 3 => cmdLinkRestart
  | 4 => cmdPrpFlush
  | _ => fun s => refuse s stBadArg

/-- The commands of block 3, TIME. -/
def timeCommand (op : Nat) : State → CmdResult :=
  match op with
  | 1 => cmdSetGrid
  | 2 => cmdSetTest
  | 3 => cmdPathAccept
  | 4 => cmdClearAsym
  | 5 => cmdSetUtc
  | 6 => cmdPulseArm
  | 7 => cmdPulseDisarm
  | _ => fun s => refuse s stBadArg

/-- The commands of block 4, HEDDLE. -/
def heddleCommand (op : Nat) : State → CmdResult :=
  match op with
  | 1 => cmdStreamState
  | 2 => cmdStreamEnable
  | 3 => cmdRequestCfg
  | 4 => cmdKeyLoad
  | 5 => cmdKeyInvalidate
  | _ => fun s => refuse s stBadArg

/-- The commands of block 5, REED. -/
def reedCommand (op : Nat) : State → CmdResult :=
  match op with
  | 1 => cmdThreadState
  | 2 => cmdEstState
  | 3 => cmdBankInfo
  | _ => fun s => refuse s stBadArg

/-- The commands of block 6, LOOM. -/
def loomCommand (op : Nat) : State → CmdResult :=
  match op with
  | 1 => cmdReadValue
  | 2 => cmdQuantile
  | 3 => cmdHistReset
  | 4 => cmdWeft
  | 5 => cmdCloseNow
  | _ => fun s => refuse s stBadArg

/-- The commands of block 7, OSC. -/
def oscCommand (op : Nat) : State → CmdResult :=
  match op with
  | 1 => cmdTrackerRead
  | 2 => cmdSpectrumRead
  | 3 => cmdTrackerReset
  | 4 => cmdCkptSave
  | _ => fun s => refuse s stBadArg

/-- The commands of block 8, ISLE. -/
def isleCommand (op : Nat) : State → CmdResult :=
  match op with
  | 1 => cmdAreaRead
  | 2 => cmdScStart
  | 3 => cmdScStop
  | 4 => cmdTieForce
  | _ => fun s => refuse s stBadArg

/-- The commands of block 9, VOTE. -/
def voteCommand (path : Path) (op : Nat) : State → CmdResult :=
  match op with
  | 1 => cmdPointRead
  | 2 => cmdResetLatch path
  | 3 => cmdPinTest
  | 4 => cmdLaneResync
  | _ => fun s => refuse s stBadArg

/-- The commands of block 10, PAIR. -/
def pairCommand (op : Nat) : State → CmdResult :=
  match op with
  | 1 => cmdYield
  | 2 => cmdReclaim
  | 3 => cmdMirrorSync
  | _ => fun s => refuse s stBadArg

/-- The commands of block 11, SHUTTLE. -/
def shuttleCommand (op : Nat) : State → CmdResult :=
  match op with
  | 1 => cmdShuttleStreamEnable
  | 2 => cmdCfgFetch
  | 3 => cmdCmdSend
  | _ => fun s => refuse s stBadArg

/-- The commands of block 12, QUEUE. -/
def queueCommand (op : Nat) : State → CmdResult :=
  match op with
  | 1 => cmdQueueStart
  | 2 => cmdQueueStop
  | _ => fun s => refuse s stBadArg

/-- The commands of block 13, SLV. -/
def slvCommand (op : Nat) : State → CmdResult :=
  match op with
  | 1 => cmdSlvLinkRestart
  | 2 => cmdLinkHold
  | 3 => cmdOriginRead
  | _ => fun s => refuse s stBadArg

/-- The commands of block 14, CAPT. -/
def captCommand (op : Nat) : State → CmdResult :=
  match op with
  | 1 => cmdArm
  | 2 => cmdDisarm
  | 3 => cmdFire
  | 4 => cmdTrigSet
  | 5 => cmdRecordLock
  | 6 => cmdRecordUnlock
  | _ => fun s => refuse s stBadArg

/-- The commands of block 15, ENERGY. -/
def energyCommand (op : Nat) : State → CmdResult :=
  match op with
  | 1 => cmdIntervalRead
  | 2 => cmdPeakReset
  | _ => fun s => refuse s stBadArg

/-- The commands of block 24, LEDGER. -/
def ledgerCommand (path : Path) (op : Nat) : State → CmdResult :=
  match op with
  | 1 => cmdRead
  | 2 => cmdAck
  | 3 => cmdLedgerFlush
  | 4 => cmdVerify
  | 5 => cmdNonce
  | 6 => cmdClear path
  | 7 => cmdKeySet path
  | 8 => cmdKeyChange path
  | _ => fun s => refuse s stBadArg

/-- The commands of block 25, CHECK. -/
def checkCommand (x : CmdInput) (op : Nat) : State → CmdResult :=
  match op with
  | 1 => cmdScanStart
  | 2 => cmdScanStop x.blocks
  | _ => fun s => refuse s stBadArg

/-- The commands of block 26, POWER. -/
def powerCommand (op : Nat) : State → CmdResult :=
  match op with
  | 1 => cmdDomainSet
  | _ => fun s => refuse s stBadArg

/-- The commands of block 27, CLOCK. -/
def clockCommand (x : CmdInput) (op : Nat) : State → CmdResult :=
  match op with
  | 1 => cmdReplan x.measure
  | 2 => cmdAvsSet
  | _ => fun s => refuse s stBadArg

/-- The commands of block 30, FAULT. -/
def faultCommand (op : Nat) : State → CmdResult :=
  match op with
  | 1 => cmdElementRead
  | 2 => cmdInject
  | 3 => cmdRestore
  | 4 => cmdHoldRelease
  | 5 => cmdCountersClear
  | _ => fun s => refuse s stBadArg

/-- The command of an opcode: what its row does. An unknown opcode completes with BAD_ARG. -/
def commandOf (path : Path) (x : CmdInput) (b op : Nat) : State → CmdResult :=
  match b with
  | 0 => globalCommand path op
  | 1 => draftCommand path op
  | 2 => portCommand op
  | 3 => timeCommand op
  | 4 => heddleCommand op
  | 5 => reedCommand op
  | 6 => loomCommand op
  | 7 => oscCommand op
  | 8 => isleCommand op
  | 9 => voteCommand path op
  | 10 => pairCommand op
  | 11 => shuttleCommand op
  | 12 => queueCommand op
  | 13 => slvCommand op
  | 14 => captCommand op
  | 15 => energyCommand op
  | 24 => ledgerCommand path op
  | 25 => checkCommand x op
  | 26 => powerCommand op
  | 27 => clockCommand x op
  | 30 => faultCommand op
  | _ => fun s => refuse s stBadArg

/-! Interrupt registers (R452, R472). -/

/-- The causes a block defines: the fields of its IRQ_STATUS. -/
def definedCauses (b : Nat) : Nat :=
  match (RegMap.ofBlock b).find? (fun r => r.covers 0x10) with
  | some r => r.fields.foldl (fun a f => if f.access = .w1c then withBits a f.hi f.lo (2 ^ (f.hi + 1 - f.lo) - 1) else a) 0
  | none => 0

/-- A write of IRQ_STATUS clears causes, one of IRQ_ENABLE enables them; either signals the vector where the AND is then not zero. -/
def State.writeIrq (s : State) (b : Nat) (enable : Bool) (v : Nat) : State :=
  let i := s.irqOf b
  let v := BitVec.ofNat 32 (v &&& definedCauses b)
  let j : IrqBlk := if enable then { i with enable := v } else { i with status := i.status &&& ~~~v }
  let s := s.setIrq (smPut s.irq b j)
  if j.pending then s.signal b else s

/-- A write of IRQ_SET sets the defined causes as hardware would, each counted. -/
def State.writeIrqSet (s : State) (b v : Nat) : State :=
  ((List.range 32).filter (fun i => bit (v &&& definedCauses b) i)).foldl (fun s i => s.raise (b, i)) s

/-- Masking or unmasking of an MSI-X vector: unmasked with its PBA bit set, it is signalled. -/
def State.writeMask (s : State) (n v : Nat) : State :=
  let s := s.putFld (F.HOST_MSIXn_CTRL_MASK n) v
  let a := R.HOST_PBAn (n / 32)
  if v % 2 = 0 ∧ bit (s.regN a) (n % 32) then (s.putReg a (clrBit (s.regN a) (n % 32))).signal n else s

/-! Mastership (R458). -/

/-- `HOST_MASTER.OWNER` changes: cause 0 take, 1 give, 2 reclaim, 3 READ_ONLY (log 11). -/
def State.changeOwner (s : State) (new cause : Nat) : State :=
  let old := s.fld F.HOST_MASTER_OWNER
  if old = new then s
  else
    let s := s.putFld F.HOST_MASTER_OWNER new
    (s.event E.HOST_MASTER_CHANGE noSource (leBytes 1 old ++ leBytes 1 new ++ leBytes 1 cause)).raise I.HOST_MASTER_CHANGE

/-- RECLAIM: mastership returns to the host, unless `BOOT_SEL` is 11. -/
def State.reclaimMaster (s : State) : State := if s.boot.1 = 3 then s else s.changeOwner 0 2

/-- A write of `HOST_MASTER`. -/
def State.writeMaster (s : State) (v : Nat) : State :=
  let s := s.putFld F.HOST_MASTER_MON_ALLOW (v / 2)
  if bit v 2 then s.reclaimMaster else s

/-- READ_ONLY is set (R465). -/
def State.setReadOnly (s : State) : State :=
  let s := s.putFld F.MONITOR_CTRL_READ_ONLY 1
  if s.fld F.HOST_MASTER_OWNER = 1 ∧ s.boot.1 ≠ 3 then s.changeOwner 0 3 else s

/-! Writing (R7, R8, R473). -/

/-- A field's new bits after a write of `v` to a register that holds `w`. -/
def RegField.written (f : RegField) (mode w v : Nat) : Nat :=
  let old := bits w f.hi f.lo
  let new := bits v f.hi f.lo
  match f.access with
  | .ro => old
  | .rw => new
  | .wo => new
  | .w1c => old - (old &&& new)
  | .w1s => old ||| new
  | .rwl => if f.lock.locked mode then old else new

/-- Would a write change a locked field? -/
def RegRow.locks (r : RegRow) (mode w v : Nat) : Bool :=
  r.fields.any (fun f => f.access = .rwl && f.lock.locked mode && bits v f.hi f.lo != bits w f.hi f.lo)

/-- A write of a register field by field; one that would change a locked field is rejected for it (R8). -/
def State.writeFields (s : State) (path : Path) (addr v : Nat) (r : RegRow) : State :=
  let w := s.regN addr
  let new := r.fields.foldl (fun a f => withBits a f.hi f.lo (f.written s.mode w v)) w
  let bad := r.locks s.mode w v
  let s := s.putReg addr new
  if bad then s.reject path addr else s

/-- A queue's number and the register's place in its group. -/
def queueReg (off : Nat) : Option (Nat × Nat) := if 0x1000 ≤ off ∧ off < 0x1800 then some ((off - 0x1000) / 64, (off - 0x1000) % 64) else none

/-- A write of a register of QUEUE (R356, R357, R359). -/
def State.writeQueue (s : State) (path : Path) (addr v : Nat) (r : RegRow) : State :=
  match queueReg (addr % 2 ^ 20) with
  | none => s.writeFields path addr v r
  | some (q, o) =>
    if o = 4 then (if bit v 0 ∧ s.isSet (F.QUEUE_Qn_CFG_ENABLE q) then s.flushQueue q else s)
    else if 8 ≤ o ∧ o ≤ 0x18 then
      (if s.fld (F.QUEUE_Qn_CTRL_STATE q) = 2 then s.reject path addr else s.writeFields path addr v r)
    else if o = 0x1C then s.writeDoorbell q v
    else if o = 0x28 then
      let s := s.writeFields path addr v r
      if s.isSet (F.QUEUE_Qn_CFG_ENABLE q) then s.putLevel q (s.queue q) else s
    else s.writeFields path addr v r

/-- A write of CMD: GO starts the command of the opcode; without GO the opcode is held. -/
def State.writeCmd (s : State) (path : Path) (x : CmdInput) (b v : Nat) : State :=
  if bit v 31 then issue b (v % 256) path (commandOf path x b (v % 256)) s
  else s.putReg (hdr b 0x40) (withBits (s.regN (hdr b 0x40)) 7 0 v)

/-- What follows a write of some registers: claims, drive bits; the servo and the sources (R72, R89); a port's link (R92). `old` is the state
before the write. -/
def State.afterWriteOf (s old : State) (addr : Nat) : State :=
  if addr = R.PAIR_CLAIM ∨ addr = R.PAIR_DEGRADE ∨ addr = R.VOTE_CTRL then s.updateHolding
  else if addr = R.TIME_SOURCE_PRIO ∨ addr = R.TIME_CTRL then s.timeWritten old addr
  else if addr / 2 ^ 20 = 2 then s.portWritten old addr
  else s

/-- A write that reaches a register whose domain is ON, from a path that may make it. -/
def State.writeReg (s : State) (path : Path) (x : CmdInput) (addr v : Nat) : State :=
  let b := addr / 2 ^ 20
  let off := addr % 2 ^ 20
  if !s.defined addr || decide (16 ≤ b ∧ b ≤ 23) then s.hostErr path 0 2 addr
  else if (s.windowWord b off).isSome then s
  else if off = 0x10 ∨ off = 0x14 then s.writeIrq b (off == 0x14) v
  else if off = 0x18 then s.writeIrqSet b v
  else if off = 0x40 then s.writeCmd path x b v
  else if addr = R.GLOBAL_MODE_REQ then s.modeRequest path (v % 16)
  else if addr = R.HOST_MASTER then s.writeMaster v
  else if addr = R.MONITOR_CTRL then (if bit v 0 then s.setReadOnly else s)
  else if outOfRange addr v then s.reject path addr
  else if R.HOST_MSIXn_CTRL 0 ≤ addr ∧ addr < R.HOST_MSIXn_CTRL 64 ∧ off % 16 = 12 then s.writeMask ((off - 0x1000C) / 16) v
  else
    match regRow addr with
    | none => s
    | some r => if b = 12 then s.writeQueue path addr v r else (s.writeFields path addr v r).afterWriteOf s addr

/-- A BAR0 or monitor write: `whole` for one DWORD with all four byte enables (R455). -/
def State.busWrite (s : State) (path : Path) (x : CmdInput) (addr v : Nat) (whole : Bool) : State :=
  if s.deaf path then s
  else if !whole then s.hostErr path 0 1 addr
  else s.access path addr v (fun s => s.writeReg path x addr v) x

/-! Rows that are register accesses. -/

def execRegisterWrite (t : Nat) (path : Path) (addr : Nat) (value : Word) (whole : Bool) (x : CmdInput) (s : State) :
    Host.Outcome State Fault Refusal := run t (·.busWrite path x (addr % 2 ^ 25) value.toNat whole) s

/-- LOW_WORD_READ: a BAR0 read of the host; that of a low word snapshots the high word. -/
def execLowWordRead (t addr : Nat) (whole : Bool) (s : State) : Host.Outcome State Fault Refusal := run t (·.hostRead (addr % 2 ^ 25) whole) s

def execIrqSet (t : Nat) (path : Path) (block : Nat) (value : Word) (s : State) : Host.Outcome State Fault Refusal :=
  run t (fun s => if blockHeader block then s.busWrite path {} (hdr block 0x18) value.toNat true else s) s

def execIrqStatusWrite (t : Nat) (path : Path) (block : Nat) (enable : Bool) (value : Word) (s : State) : Host.Outcome State Fault Refusal :=
  run t (fun s => if blockHeader block then s.busWrite path {} (hdr block (if enable then 0x14 else 0x10)) value.toNat true else s) s

def execMsixUnmask (t : Nat) (path : Path) (vector : Nat) (s : State) : Host.Outcome State Fault Refusal :=
  run t (fun s => if vector < 64 then s.busWrite path {} (R.HOST_MSIXn_CTRL vector) 0 true else s) s

/-- REQUEST_M2, REQUEST_M3, REQUEST_M9, SET_HOST_OVERLOAD and LIFT_HOST_OVERLOAD: a write of `GLOBAL_MODE_REQ`. -/
def State.requestBy (s : State) (path : Path) (code : Nat) : State :=
  s.access path R.GLOBAL_MODE_REQ code (·.modeRequest path code)

def execRequestM2 (t : Nat) (path : Path) (s : State) : Host.Outcome State Fault Refusal := run t (·.requestBy path 2) s
def execRequestM3 (t : Nat) (path : Path) (s : State) : Host.Outcome State Fault Refusal := run t (·.requestBy path 3) s
def execRequestM9 (t : Nat) (path : Path) (s : State) : Host.Outcome State Fault Refusal := run t (·.requestBy path 9) s
def execSetHostOverload (t : Nat) (path : Path) (s : State) : Host.Outcome State Fault Refusal := run t (·.requestBy path 8) s
def execLiftHostOverload (t : Nat) (path : Path) (s : State) : Host.Outcome State Fault Refusal := run t (·.requestBy path 14) s

def execWarmReset (t : Nat) (path : Path) (s : State) : Host.Outcome State Fault Refusal := command t 0 1 path (cmdWarmReset path) s
def execDomainSet (t : Nat) (path : Path) (s : State) : Host.Outcome State Fault Refusal := command t 26 1 path cmdDomainSet s

/-- MASTER_RECLAIM: the host writes 1 to `HOST_MASTER.RECLAIM`. -/
def execMasterReclaim (t : Nat) (s : State) : Host.Outcome State Fault Refusal :=
  run t (fun s => s.access .host R.HOST_MASTER 4 State.reclaimMaster) s

/-- READ_ONLY: a write of 1 to `MONITOR_CTRL.READ_ONLY`. -/
def execReadOnly (t : Nat) (path : Path) (s : State) : Host.Outcome State Fault Refusal :=
  run t (fun s => s.access path R.MONITOR_CTRL 1 State.setReadOnly) s

end Sys2Proof.Machine
end

