-- ==== Sys2Proof/Machine/Global.lean ====
section
/-!
DEFINITION. Sys2Proof/Machine/Global.lean: power-on and internal reset (R425, R426, R431, R445), the warm reset's rows (R437), and the rows
of POWER: domains (R433 to R435), supplies (R427) and the power-fail flush (R428 to R430).
-/

namespace Sys2Proof.Machine

/-! Internal and power-on reset. -/

/-- INTERNAL_RESET: every ball is high-impedance until the power-on reset (R426). -/
def State.enterReset (s : State) : State :=
  let s := s.setVote { s.vote with sink := 0 }
  (scanBalls.foldl (fun s b => s.emit (.highZ b)) s).setHeld true

def execInternalReset (t : Nat) (s : State) : Host.Outcome State Fault Refusal := run t State.enterReset s

/-- Image states and key fuses: what `DRAFT_IMAGES` and `DRAFT_KEYS` take from the Archive and one-time memory. -/
def State.keptRegs (s : State) : SMap Word :=
  smPut (smPut [] R.DRAFT_KEYS (BitVec.ofNat 32 (bits (s.regN R.DRAFT_KEYS) 8 0))) R.DRAFT_IMAGES (BitVec.ofNat 32 (s.regN R.DRAFT_IMAGES))
    |>.filter (fun e => e.2 != RegMap.resetValue e.1)

/-- What a power-on reset leaves before start-up: every field as at reset, but for what stands outside the module's supplies (the level of
`PERST_N`), in the Archive, in one-time memory and in the fuses, and what has been driven so far. -/
def State.coldStart (s : State) : State :=
  { State.reset with
    pending := s.pending, out := s.out, freeCount := s.freeCount, archive := s.archive, saves := s.saves, ageing := s.ageing
    keyHashes := s.keyHashes, ledger := s.ledger, regs := s.keptRegs, host := { perst := s.host.perst } }

/-- The straps (step 1 of R445): `BOOT_SEL`, `MODID`, `CLAIM_MODE`; mastership follows `BOOT_SEL` (R458). -/
def State.strap (s : State) (bootSel modid claimMode : Nat) : State :=
  let s := s.setBoot (bootSel % 4, modid % 2, claimMode % 2)
  let s := (s.putFld F.PAIR_STATUS_MODID modid).putFld F.PAIR_STATUS_CLAIM_MODE claimMode
  (s.putFld F.HOST_MASTER_OWNER (if bootSel % 4 = 3 then 1 else 0)).setPower
    { s.power with boot := bootSel % 4 == 1 || bootSel % 4 == 2 }

/-- Does the start-up find a ledger that was not flushed (R405)? -/
def State.unflushed (s : State) : Bool := s.ledger.written != 0 && s.lastWritten != E.LEDGER_FLUSHED

/-- The last AVS request is written from the Archive (R441). -/
def State.avsRestore (s : State) : State := s.avsWrite s.ageing.request false

/-- Start-up with `PFW_N` low (R430): the device stays in M0 and writes nothing to the Archive. -/
def State.startLow (s : State) (savedCycles : Nat) : State :=
  let s := (s.putFld F.POWER_STATUS_PFW_LOW 1).putFld F.POWER_STATUS_WRITE_PROTECT 1
  (s.setLedger { s.ledger with savedCycles := savedCycles }).setPower { s.power with pfwLine := (true, 0), bootHeld := true }

/-- POWER_ON_RESET: steps 1 to 3 of R445. A flush that the supplies cut short is recorded with the step it reached (R431, log 38). -/
def State.powerOn (s : State) (bootSel modid claimMode : Nat) (pfwLow : Bool) : State :=
  let step := if s.isSet F.POWER_STATUS_FLUSHING then 2 else 0
  let saved := s.ledger.savedCycles
  let cut := s.unflushed
  let s := (s.coldStart.strap bootSel modid claimMode).ledgerStart (bootSel % 4)
  let s := if cut then s.event E.POWER_PFW_INCOMPLETE noSource (leBytes 1 step) else s
  let s := s.avsRestore
  if pfwLow then s.startLow saved else s

/-- It runs in internal reset too, which it ends; MONO starts at 0. -/
def execPowerOnReset (_ bootSel modid claimMode : Nat) (pfwLow : Bool) (s : State) : Host.Outcome State Fault Refusal :=
  .next (s.powerOn bootSel modid claimMode pfwLow)

/-! Warm reset (R437). -/

/-- WRST_N: a low pulse of `lowNs`. -/
def State.wrstPulse (s : State) (lowNs : Nat) : State := if lowNs < 1000 then s else s.warmAsk 0

def execWrstN (t lowNs : Nat) (s : State) : Host.Outcome State Fault Refusal := run t (·.wrstPulse lowNs) s

/-! Accesses that waited (R434). -/

/-- A word as the monitor prints it. -/
def rdLine (addr v : Nat) : String := "OK " ++ hexAddr addr ++ " " ++ hexWord v

/-- `rd` of `n` words from an offset: a word of an absent domain ends the reply, and one of a domain that sleeps waits with the rest. -/
def State.monRead : State → Nat → Nat → State
  | s, _, 0 => s.say "> "
  | s, addr, n + 1 =>
    match s.regState addr with
    | 0 =>
      let r := s.readReg .monitor addr
      (r.1.say (rdLine addr r.2)).monRead (addr + 4) n
    | 3 => ((s.absentAccess .monitor addr).say "ERR ABSENT_DOMAIN").say "> "
    | 4 => ((s.noStacksAccess .monitor addr).say "ERR NO_STACKS").say "> "
    | _ => s.stall { domain := regDomain addr, path := .monitor, addr := addr, words := n + 1 }

/-- `sr` of `n` words: the lines. -/
def State.monStacks : State → Nat → Nat → State
  | s, _, 0 => s.say "> "
  | s, addr, n + 1 =>
    (s.say ("OK 0x" ++ hexDigits 9 addr ++ " " ++ hexWord (leNat (s.windowRead addr 4)))).monStacks (addr + 4) n

/-- `cmd` of the monitor has been issued (R464): its outcome at DONE, or `ERR TIMEOUT` where DONE does not come within 1 s. Of the waits of
R474 only DOMAIN_SET's leaves DONE at 0, and it ends within 64 µs. -/
def State.monAnswer (s : State) (b : Nat) : State :=
  if bits (s.regN (hdr b 0x54)) 31 31 = 0 then s.setHost { s.host with cmdWaits := true } else s.sayOutcome b

/-- An access that waited completes, its domain being ON. -/
def State.serve (s : State) (a : Stalled) : State :=
  match a.bar2, a.write with
  | some _, some v => s.stkStore a.addr (leBytes (a.bar2.getD 0) v)
  | some n, none => if a.path.code = 0 then s.emit (.readData (s.windowRead a.addr n)) else s.monStacks a.addr a.words
  | none, some v =>
    let s := (if a.reply = 3 then s else s.monNote a.path a.addr v).writeReg a.path a.x a.addr v
    if a.reply = 2 then s.monAnswer (a.addr / 2 ^ 20) else if a.reply = 1 then (s.say "OK").say "> " else s
  | none, none => if a.path.code = 0 then s.answerRead a.addr else s.monRead a.addr a.words

/-- An access whose domain does not wake: Completer Abort, or `ERR ACCESS_FAIL` (R434, R464). -/
def State.deny (s : State) (a : Stalled) : State :=
  let s := s.hostErr a.path (if a.bar2.isSome then 2 else 0) 6 a.addr
  if a.path.code ≠ 0 then (s.say "ERR ACCESS_FAIL").say "> "
  else if a.write.isSome then s else s.emit (.accessError true)

/-- The accesses that wait for a domain leave the list, and each is done in turn. -/
def State.release (s : State) (d : Nat) (f : State → Stalled → State) : State :=
  let l := s.power.stalled.filter (fun a => a.domain == d)
  l.foldl f (s.setPower { s.power with stalled := s.power.stalled.filter (fun a => a.domain != d) })

/-- WARM_DONE: every USED domain is ON again by replay (R437). -/
def State.warmEnd (s : State) : State :=
  if s.power.warmAt.isNone then s
  else
    let s := s.asleep.foldl (fun s d => s.domainWoken d 3) s
    let s := if s.isSet F.FAULT_STATUS_LASTING_ACTIVE ∧ 2 ≤ s.mode then s.setFault { s.fault with warm := some s.bases.mono } else s
    let s := (s.setPower { s.power with warmAt := none }).raise I.GLOBAL_WARM_DONE
    ((List.range 16).foldl (fun s d => if s.domain d = 0 then s.release d State.serve else s) s).updateHolding

def execWarmDone (t : Nat) (s : State) : Host.Outcome State Fault Refusal := run t State.warmEnd s

/-! Domains (R433 to R435). -/

def execDrainComplete (t : Nat) (s : State) : Host.Outcome State Fault Refusal := run t State.drained s

def execDrainTimeout (t transfers : Nat) (s : State) : Host.Outcome State Fault Refusal := run t (·.drainTimeout transfers) s

def execArchiveRetain (t : Nat) (s : State) : Host.Outcome State Fault Refusal := run t State.archiveIdle s

/-- A wake fails (R288, R434): a restore has failed; any other wake is a lasting fault of the domain. -/
def State.wakeFails (s : State) (d cause : Nat) : State :=
  let s := s.setPower { s.power with waking := smDel s.power.waking d }
  if cause = 2 then (s.restoring d).foldl (fun s e => s.restoreFailed e 1) s else s.lasting fcCfgScan (element d wholeDomain)

/-- DOMAIN_WAKE_DONE. -/
def State.wakeDone (s : State) (d : Nat) (good : Bool) : State :=
  match smFind s.power.waking d with
  | none => s
  | some (_, cause) =>
    if good then ((s.domainWoken d cause).release d State.serve).requestDue
    else (s.wakeFails d cause).release d State.deny

def execDomainWakeDone (t d : Nat) (good : Bool) (s : State) : Host.Outcome State Fault Refusal := run t (·.wakeDone d good) s

/-! Supplies and the flush. -/

def execDroop (t supply mv : Nat) (s : State) : Host.Outcome State Fault Refusal := run t (·.supplyLevel supply mv) s

def execDroopLasting (t supply : Nat) (s : State) : Host.Outcome State Fault Refusal := run t (·.droopLasts supply) s

def execPfwNChange (t : Nat) (low : Bool) (s : State) : Host.Outcome State Fault Refusal := run t (·.pfwLevel low) s

def execPfwFall (t : Nat) (s : State) : Host.Outcome State Fault Refusal := run t State.pfwFall s

def execFlushDone (t fails : Nat) (s : State) : Host.Outcome State Fault Refusal := run t (·.flushDone fails) s

def execPfwRecovered (t : Nat) (s : State) : Host.Outcome State Fault Refusal := run t State.pfwRecovered s

end Sys2Proof.Machine
end

