-- ==== Sys2Proof/Machine/Host.lean ====
section
/-!
DEFINITION. Sys2Proof/Machine/Host.lean: the PCIe endpoint (R451 to R456): its link, its power state, the Stacks window of BAR2, and the
interrupt ball.
-/

namespace Sys2Proof.Machine

/-! The link (R453). -/

/-- A DMA load from the host, or an image being written from it, ends with the link (R453, R467): the load fails with SOURCE_IO at the
offset it had reached, `object` being what it had read; an image stays WRITING, as where its writing is abandoned otherwise (R429). -/
def State.dropDma (s : State) (object : List Byte) (off : Nat) : State :=
  let s := s.setDraft { s.draft with imageWrite := none }
  match s.draft.load with
  | some l => if l.source = 0 then s.loadUnread l object [] off else s
  | none => s

/-- The endpoint is reset; nothing else is (R453). -/
def State.endpointReset (s : State) (cause : Nat) (object : List Byte) (off : Nat) : State :=
  (s.dropDma object off).hostLinkDown cause

/-- PERST_N: `low` is the new level. A rise lets training start. -/
def State.perstLevel (s : State) (low : Bool) (object : List Byte) (off : Nat) : State :=
  if s.host.perst = !low then s
  else
    let s := s.setHost { s.host with perst := !low }
    if low then s.endpointReset 0 object off else s

def execPerstN (t : Nat) (low : Bool) (object : List Byte) (off : Nat) (s : State) : Host.Outcome State Fault Refusal :=
  run t (·.perstLevel low object off) s

/-- SURPRISE_LINK_DOWN. -/
def State.surpriseDown (s : State) (object : List Byte) (off : Nat) : State :=
  if s.isSet F.HOST_STATUS_LINK_UP then s.endpointReset 1 object off else s

def execSurpriseLinkDown (t : Nat) (object : List Byte) (off : Nat) (s : State) : Host.Outcome State Fault Refusal :=
  run t (·.surpriseDown object off) s

/-- PCIE_LINK_UP: the link reaches L0 at a speed (1 2.5, 2 5.0, 3 8.0 GT/s) and a width (1, 2 or 4 lanes), and the host sets Bus Master
Enable or leaves it (log 39). -/
def State.linkTrained (s : State) (speed width : Nat) (busMaster : Bool) : State :=
  if !s.host.perst || s.domain pdHost != 0 || s.isSet F.HOST_STATUS_LINK_UP then s
  else
    let w := 1 + speed % 8 * 2 + width % 8 * 16 + (if busMaster then 128 else 0)
    let s := (s.putReg R.HOST_STATUS w).setHost { s.host with downSince := none }
    (s.event E.HOST_LINK_UP noSource (leBytes 1 speed ++ leBytes 1 width)).raise I.HOST_LINK_CHANGE

def execPcieLinkUp (t speed width : Nat) (busMaster : Bool) (s : State) : Host.Outcome State Fault Refusal :=
  run t (·.linkTrained speed width busMaster) s

/-- D_STATE: in D3hot queues are held as for QUEUE_STOP, and D0 restarts none (R454). Mastership stays (R467). -/
def State.powerState (s : State) (d3 : Bool) : State :=
  let old := s.fld F.HOST_STATUS_D_STATE
  let new := if d3 then 3 else 0
  if old = new then s
  else
    let s := s.putFld F.HOST_STATUS_D_STATE new
    (if d3 then s.stopAll else s).event E.HOST_D_STATE noSource (leBytes 1 old ++ leBytes 1 new)

def execDState (t : Nat) (d3 : Bool) (s : State) : Host.Outcome State Fault Refusal := run t (·.powerState d3) s

/-! BAR2 (R455, R456). -/

/-- A BAR2 read of `n` bytes, at most 512. `good` is false where a word stays uncorrectable after its retry, whose treatment comes as a row
of its own (R282). -/
def State.bar2Get (s : State) (addr n : Nat) (good : Bool) : State :=
  let addr := addr % 2 ^ 34
  if s.deaf .host ∨ 512 < n then s
  else if s.noStacks then (s.hostErr .host 2 5 addr).emit (.accessError false)
  else if s.domain pdStacks = 0 then (if good then s.emit (.readData (s.windowRead addr n)) else s.emit (.accessError true))
  else s.stall { domain := pdStacks, path := .host, addr := addr, bar2 := some n }

def execBar2Read (t addr len : Nat) (good : Bool) (s : State) : Host.Outcome State Fault Refusal := run t (·.bar2Get addr len good) s

/-- Does a run of bytes lie inside one spill-queue region, 10 to 25 (R25)? -/
def State.inSpill (s : State) (addr n : Nat) : Bool :=
  (List.range 16).any (fun i => decide (s.regionStart (10 + i) ≤ addr ∧ addr + n ≤ s.regionStart (10 + i) + s.regionSize (10 + i) ∧
    0 < s.regionSize (10 + i)))

/-- A BAR2 write: performed inside a spill-queue region by the path with mastership, and otherwise discarded. -/
def State.bar2Put (s : State) (addr : Nat) (bytes : List Byte) : State :=
  let addr := addr % 2 ^ 34
  if s.deaf .host then s
  else if !s.master .host then s.hostErr .host 2 4 addr
  else if s.noStacks || !s.inSpill addr bytes.length then s.hostErr .host 2 3 addr
  else if s.domain pdStacks = 0 then s.stkStore addr bytes
  else s.stall { domain := pdStacks, path := .host, addr := addr, bar2 := some bytes.length, write := some (leNat bytes) }

def execBar2Write (t addr : Nat) (bytes : List Byte) (s : State) : Host.Outcome State Fault Refusal := run t (·.bar2Put addr bytes) s

/-! The interrupt ball. -/

/-- `INT_N` sinks while it is enabled and any vector has a pending cause: a block's enabled cause, or a queue's held signal. -/
def State.intSinks (s : State) : Bool := s.isSet F.HOST_CTRL_INT_PIN_EN && (s.irqSummary != 0 || s.queueSummary != 0)

end Sys2Proof.Machine
end

