-- ==== Sys2Proof/Machine/Jtag.lean ====
section
/-!
DEFINITION. Sys2Proof/Machine/Jtag.lean: boundary scan (R461). `host.jtag` is the instruction in force, `host.boundary` the boundary register
over the output balls of `scanBalls` (log 41).
-/

namespace Sys2Proof.Machine

/-- The level the device itself gives a ball; a ball of the stage follows `vote.sink`. -/
def State.ownLevel (s : State) (b : Ball) : Bool :=
  match b with
  | .alarm n => !bit s.vote.sink n
  | .health => !bit s.vote.sink 8
  | .intlk => !s.pair.pulled
  | .epulse n => match smFind s.energy.pulses n with | some p => p.high | none => false
  | .pps => s.time.ppsHigh
  | .pulse n => match smFind s.time.pulses n with | some p => p.level | none => false
  | .flushDone => s.isSet F.POWER_STATUS_FLUSH_DONE

/-- The stage's balls are shown by `updatePins` itself; these are the others. -/
def restBalls : List Ball := scanBalls.drop 9

/-- The other balls as the boundary register has them. -/
def State.showBoundary (s : State) : State :=
  (List.range restBalls.length).foldl (fun s i => s.emit (.ball (restBalls.getD i .intlk) (bit s.host.boundary (9 + i)))) s

/-- An instruction comes into force: the balls follow the device (BYPASS, IDCODE, SAMPLE/PRELOAD), the boundary register (EXTEST, CLAMP) or
nothing (HIGHZ). -/
def State.jtagLoad (s : State) (k : Nat) : State :=
  let was := s.scanned
  let s := s.setHost { s.host with jtag := k }
  let s := if k = 3 ∨ k = 5 then s.showBoundary
    else if k = 4 then scanBalls.foldl (fun s b => s.emit (.highZ b)) s
    else if was then restBalls.foldl (fun s b => s.emit (.ball b (s.ownLevel b))) s
    else s
  s.updatePins

/-- The levels of the output balls, as SAMPLE/PRELOAD captures them. -/
def State.sampled (s : State) : Nat := bitsOf 20 (fun i => s.ownLevel (scanBalls.getD i .intlk))

def execBypass (t : Nat) (s : State) : Host.Outcome State Fault Refusal := run t (·.jtagLoad 0) s

/-- IDCODE: 0x081603CB, its version field being the silicon revision. -/
def State.idcode (s : State) : Nat := withBits 0x081603CB 31 28 (bits (s.regN 0) 15 8)

def execIdcode (t : Nat) (s : State) : Host.Outcome State Fault Refusal :=
  run t (fun s => (s.jtagLoad 1).emit (.readData (leBytes 4 s.idcode))) s

/-- SAMPLE/PRELOAD: the present levels are shifted out while `value` is shifted in. -/
def execSamplePreload (t value : Nat) (s : State) : Host.Outcome State Fault Refusal :=
  run t (fun s =>
    let s := s.jtagLoad 2
    (s.emit (.readData (leBytes 3 s.sampled))).setHost { s.host with boundary := value % 2 ^ 20 }) s

/-- EXTEST: the balls follow the boundary register, into which `value` is shifted. -/
def execExtest (t value : Nat) (s : State) : Host.Outcome State Fault Refusal :=
  run t (fun s => (s.setHost { s.host with boundary := value % 2 ^ 20 }).jtagLoad 3) s

/-- HIGHZ: every ball of the chain is high-impedance (IEEE 1149.1, log 17). -/
def execHighz (t : Nat) (s : State) : Host.Outcome State Fault Refusal := run t (·.jtagLoad 4) s

/-- CLAMP: the balls hold what the boundary register has. -/
def execClamp (t : Nat) (s : State) : Host.Outcome State Fault Refusal := run t (·.jtagLoad 5) s

end Sys2Proof.Machine
end

