-- ==== Sys2Proof/Machine/Monitor.lean ====
section
/-!
DEFINITION. Sys2Proof/Machine/Monitor.lean: the Xiyth monitor (R460, R462 to R467): its lines and replies, mastership, the line rate, and loads
over the UART. Words of replies that R464 does not spell are the model's (log 40).
-/

namespace Sys2Proof.Machine

/-! Lines. -/

/-- A reply is followed by the prompt (R463). -/
def State.prompt (s : State) : State := s.say "> "

/-- An OK reply of one line. -/
def State.monOk (s : State) (text : String) : State := (s.say ("OK" ++ (if text.isEmpty then "" else " " ++ text))).prompt

/-- An ERR reply. -/
def State.monErr (s : State) (name : String) : State := ((s.count R.MONITOR_ERRORS).say ("ERR " ++ name)).prompt

/-- Codes of the monitor's commands in MON_REQUEST_REFUSED, in the order of R464 (log 11). -/
abbrev mcCmd : Nat := 5
abbrev mcLoad : Nat := 9
abbrev mcTake : Nat := 11
abbrev mcGive : Nat := 12

/-- A refusal that R467 has recorded. -/
def State.monRefuse (s : State) (cmd status : Nat) : State :=
  (s.event E.MONITOR_MON_REQUEST_REFUSED noSource (leBytes 1 cmd ++ leBytes 1 status)).monErr (statusName status)

/-- A line is received: counted, a session begun after 60 s of silence, a rate on trial confirmed (R466). -/
def State.lineIn (s : State) : State :=
  let s := s.count R.MONITOR_LINES
  let s := if s.monActive then s else (s.event E.MONITOR_SESSION noSource (leBytes 4 (s.regN R.MONITOR_BAUD))).raise I.MONITOR_SESSION
  (s.setHost { s.host with lineAt := some s.bases.mono, trial := none }).putFld F.MONITOR_STATUS_RATE_TRIAL 0

/-- A complete line. While a UART load runs the bytes belong to it; while a warm reset restarts PD_CTRL the answer is `ERR BUSY` (R462). -/
def State.monLine (s : State) (f : State → State) : State :=
  if s.isSet F.MONITOR_STATUS_LOADING then s
  else
    let s := s.lineIn
    if s.power.warmAt.isSome then s.monErr "BUSY" else f s

/-- A line of a command that READ_ONLY refuses (R465). -/
def State.monMay (s : State) (f : State → State) : State :=
  s.monLine (fun s => if s.isSet F.MONITOR_CTRL_READ_ONLY then s.monErr "READ_ONLY" else f s)

/-- A line of a command that needs mastership and names no register. -/
def State.monOwn (s : State) (f : State → State) : State := s.monMay (fun s => if s.master .monitor then f s else s.monErr "NOT_MASTER")

/-- A decimal number in text. -/
def decText (n : Nat) : String := toString n

/-! Reading. -/

def execMonHelp (t : Nat) (s : State) : Host.Outcome State Fault Refusal :=
  run t (·.monLine (·.monOk "help id rd sr wr cmd mode ledger fault load reset take give baud")) s

/-- Two binary digits. -/
def strapText (n : Nat) : String := (if n / 2 % 2 = 1 then "1" else "0") ++ (if n % 2 = 1 then "1" else "0")

/-- The owner in text. -/
def State.ownerText (s : State) : String := if s.fld F.HOST_MASTER_OWNER = 1 then "MONITOR" else "HOST"

/-- `id`, as the example of R466 prints it. -/
def State.idText (s : State) : String :=
  "ISZ-8160 REV 0x" ++ hexDigits 2 (bits (s.regN 0) 15 8) ++ " MODE M" ++ decText s.mode ++ " DRAFT 0x" ++
    hexDigits 4 (s.regN R.DRAFT_ID_HI / 65536) ++ "_" ++ hexDigits 4 (s.regN R.DRAFT_ID_HI) ++ "_" ++
    hexDigits 4 (s.regN R.DRAFT_ID_LO / 65536) ++ "_" ++ hexDigits 4 (s.regN R.DRAFT_ID_LO) ++ " BOOT " ++ strapText s.boot.1 ++
    " MODID " ++ decText s.boot.2.1 ++ " OWNER " ++ s.ownerText

def execMonId (t : Nat) (s : State) : Host.Outcome State Fault Refusal := run t (·.monLine (fun s => s.monOk s.idText)) s

/-- `rd`: 1 to 64 words from an aligned BAR0 offset. -/
def State.rdCmd (s : State) (addr n : Nat) : State :=
  if n = 0 ∨ 64 < n ∨ addr % 4 ≠ 0 ∨ 2 ^ 25 < addr + 4 * n then s.monErr "RANGE" else s.monRead addr n

def execMonRd (t addr n : Nat) (s : State) : Host.Outcome State Fault Refusal := run t (·.monLine (·.rdCmd addr n)) s

/-- `sr`: words of the Stacks as BAR2 reads them; `bad` is the first word that stays uncorrectable. -/
def State.srCmd (s : State) (addr n : Nat) (bad : Option Nat) : State :=
  if n = 0 ∨ 64 < n ∨ addr % 4 ≠ 0 ∨ 2 ^ 34 < addr + 4 * n then s.monErr "RANGE"
  else if s.noStacks then (s.hostErr .monitor 2 5 addr).monErr "NO_STACKS"
  else if s.domain pdStacks = 0 then
    match bad with
    | some k => if k < n then ((List.range k).foldl (fun s i =>
        s.say ("OK 0x" ++ hexDigits 9 (addr + 4 * i) ++ " " ++ hexWord (leNat (s.windowRead (addr + 4 * i) 4)))) s).monErr "ACCESS_FAIL"
      else s.monStacks addr n
    | none => s.monStacks addr n
  else s.stall { domain := pdStacks, path := .monitor, addr := addr, bar2 := some 4, words := n }

def execMonSr (t addr n : Nat) (bad : Option Nat) (s : State) : Host.Outcome State Fault Refusal := run t (·.monLine (·.srCmd addr n bad)) s

/-- `fault`: the four registers. -/
def State.faultText (s : State) : State :=
  ([("FAULT_STATUS", R.FAULT_STATUS), ("FAULT_LAST", R.FAULT_LAST), ("FAULT_CAUSE", R.FAULT_CAUSE), ("FAULT_PAD_HOLD", R.FAULT_PAD_HOLD)].foldl
    (fun s (e : String × Nat) => s.say ("OK " ++ e.1 ++ " " ++ hexWord (s.readWord e.2))) s).prompt

def execMonFault (t : Nat) (s : State) : Host.Outcome State Fault Refusal := run t (·.monLine State.faultText) s

/-- The bytes of a record in hexadecimal. -/
def hexBytes (l : List Byte) : String := l.foldl (fun t b => t ++ hexDigits 2 b.toNat) ""

/-- `ledger`: n records (16 unless given) from an accession number, or the last n. -/
def State.ledgerText (s : State) (acc n : Option Nat) : State :=
  let k := n.getD 16
  if k = 0 ∨ 64 < k then s.monErr "RANGE"
  else
    let first := acc.getD (max s.ledger.oldest (s.ledger.next - k))
    if first < s.ledger.oldest ∨ s.ledger.next ≤ first then s.monErr "RANGE"
    else
      ((List.range k).foldl (fun s i =>
        match s.record (first + i) with
        | some (b, _) => s.say ("OK " ++ hexBytes b)
        | none => s) s.wakeArchive).prompt

def execMonLedger (t : Nat) (acc n : Option Nat) (s : State) : Host.Outcome State Fault Refusal := run t (·.monLine (·.ledgerText acc n)) s

/-! Writing. -/

/-- A write of the monitor as its register finds it (R434, R457, R464); `f` answers it once it has taken effect, `reply` does so where it
waits. -/
def State.monWrite (s : State) (x : CmdInput) (addr v reply : Nat) (f : State → State) : State :=
  match s.regState addr with
  | 3 => (s.absentAccess .monitor addr).monErr "ABSENT_DOMAIN"
  | 4 => (s.noStacksAccess .monitor addr).monErr "NO_STACKS"
  | k =>
    if !s.mayWrite .monitor addr then (s.notMaster .monitor addr).monErr "NOT_MASTER"
    else if k = 0 then f ((s.monNote .monitor addr v).writeReg .monitor x addr v)
    else s.stall { domain := regDomain addr, path := .monitor, addr := addr, write := some v, reply := reply, x := x }

/-- `wr`. -/
def State.wrCmd (s : State) (addr v : Nat) (x : CmdInput) : State :=
  if addr % 4 ≠ 0 ∨ 2 ^ 25 ≤ addr ∨ 2 ^ 32 ≤ v then s.monErr "RANGE" else s.monWrite x addr v 1 (·.monOk "")

def execMonWr (t addr value : Nat) (x : CmdInput) (s : State) : Host.Outcome State Fault Refusal := run t (·.monMay (·.wrCmd addr value x)) s

/-- The arguments of `cmd` go to ARG0 up, at once or where the command itself waits. -/
def State.putArgs (s : State) (b : Nat) (args : List Nat) : State :=
  (List.range args.length).foldl (fun s i =>
    let a := hdr b (0x44 + 4 * i)
    if s.regState a = 0 then s.putReg a (args.getD i 0)
    else s.stall { domain := regDomain a, path := .monitor, addr := a, write := some (args.getD i 0), reply := 3 }) s

/-- `cmd`: arguments, GO, and the outcome at DONE (R464, R467). -/
def State.cmdCmd (s : State) (b op : Nat) (args : List Nat) (x : CmdInput) : State :=
  let go := hdr b 0x40
  if !blockHeader b ∨ 256 ≤ op ∨ 4 < args.length ∨ args.any (fun a => decide (2 ^ 32 ≤ a)) then s.monErr "RANGE"
  else if s.regState go ≠ 3 ∧ s.regState go ≠ 4 ∧ s.master .monitor ∧ bits (s.regN (hdr b 0x54)) 31 31 = 0 then s.monRefuse mcCmd stBusy
  else
    let s := if s.regState go ≠ 3 ∧ s.regState go ≠ 4 ∧ s.master .monitor then s.putArgs b args else s
    s.monWrite x go (goWord op) 2 (·.monAnswer b)

def execMonCmd (t block opcode : Nat) (args : List Nat) (x : CmdInput) (s : State) : Host.Outcome State Fault Refusal :=
  run t (·.monMay (·.cmdCmd block opcode args x)) s

/-- The reply to a mode request. -/
def State.modeReply (s : State) : State :=
  let st := bits (s.regN R.GLOBAL_MODE_REQ_STATUS) 3 0
  if st = 0 then s.monOk "MODE REQUEST ACCEPTED" else s.monErr (statusName st)

/-- `mode`: shown, or requested through GLOBAL. -/
def State.modeCmd (s : State) (m : Option Nat) : State :=
  match m with
  | none => s.monLine (fun s => s.monOk ("MODE M" ++ decText s.mode))
  | some n => s.monMay (fun s => if 11 < n then s.monErr "RANGE" else s.monWrite {} R.GLOBAL_MODE_REQ n 1 State.modeReply)

def execMonMode (t : Nat) (mode : Option Nat) (s : State) : Host.Outcome State Fault Refusal := run t (·.modeCmd mode) s

/-- `reset warm`: OK is sent first; the command is recorded as GLOBAL's. -/
def State.resetCmd (s : State) : State :=
  ((s.monOk "").monNote .monitor (hdr 0 0x40) (goWord 1)).warmAsk 2

def execMonResetWarm (t : Nat) (s : State) : Host.Outcome State Fault Refusal := run t (·.monOwn State.resetCmd) s

/-! Mastership (R458). -/

/-- May the monitor take? -/
def State.mayTake (s : State) : Bool :=
  s.isSet F.HOST_MASTER_MON_ALLOW || s.boot.1 == 3 ||
    (match s.host.downSince with | some at' => decide (at' + 1000000000 ≤ s.bases.mono) | none => false)

/-- `take`. -/
def State.takeCmd (s : State) : State :=
  if s.mayTake then (s.changeOwner 1 0).monOk "OWNER MONITOR" else s.monRefuse mcTake stIllegal

def execMonTake (t : Nat) (s : State) : Host.Outcome State Fault Refusal := run t (·.monMay State.takeCmd) s

/-- `give`. -/
def State.giveCmd (s : State) : State :=
  if s.boot.1 = 3 then s.monRefuse mcGive stIllegal else (s.changeOwner 0 1).monOk "OWNER HOST"

def execMonGive (t : Nat) (s : State) : Host.Outcome State Fault Refusal := run t (·.monLine State.giveCmd) s

/-! The line rate (R462, R466). -/

/-- The line rates. -/
def baudRates : List Nat := [115200, 230400, 460800, 921600, 1500000, 3000000]

/-- `baud`: OK at the old rate; the change follows 10 ms later. A reply takes no time of its own in the model (log 40). -/
def State.baudCmd (s : State) (rate : Nat) : State :=
  if baudRates.contains rate then (s.setHost { s.host with baud := some (rate, s.bases.mono + 10000000) }).monOk "" else s.monErr "RANGE"

def execMonBaud (t rate : Nat) (s : State) : Host.Outcome State Fault Refusal := run t (·.monLine (·.baudCmd rate)) s

/-- BAUD_CHANGE. -/
def State.baudChanged (s : State) : State :=
  match s.host.baud with
  | none => s
  | some (rate, due) =>
    if s.bases.mono < due then s
    else
      let s := s.event E.MONITOR_BAUD_CHANGE noSource (leBytes 4 (s.regN R.MONITOR_BAUD) ++ leBytes 4 rate)
      let s := (s.putReg R.MONITOR_BAUD rate).putFld F.MONITOR_STATUS_RATE_TRIAL 1
      s.setHost { s.host with baud := none, trial := some s.bases.mono }

def execBaudChange (t : Nat) (s : State) : Host.Outcome State Fault Refusal := run t State.baudChanged s

/-- BAUD_REVERT: no line came within 10 s. -/
def State.baudReverted (s : State) : State :=
  match s.host.trial with
  | none => s
  | some at' =>
    if s.bases.mono < at' + 10000000000 then s
    else
      let s := (s.event E.MONITOR_BAUD_REVERT noSource (leBytes 4 (s.regN R.MONITOR_BAUD))).raise I.MONITOR_BAUD_REVERT
      let s := (s.putReg R.MONITOR_BAUD 115200).putFld F.MONITOR_STATUS_RATE_TRIAL 0
      s.setHost { s.host with trial := none }

def execBaudRevert (t : Nat) (s : State) : Host.Outcome State Fault Refusal := run t State.baudReverted s

/-- MON_LINE_DISCARD: a line with a framing error is discarded whole and counted; an unknown command or a malformed argument is answered. -/
def State.lineDiscard (s : State) (framing : Bool) : State :=
  if s.isSet F.MONITOR_STATUS_LOADING then s
  else if framing then s.count R.MONITOR_FRAMING_ERR
  else s.monLine (·.monErr "SYNTAX")

def execMonLineDiscard (t : Nat) (framing : Bool) (s : State) : Host.Outcome State Fault Refusal := run t (·.lineDiscard framing) s

/-! Loads (R460). -/

/-- The kinds of object: 0 draft, 1 card, 2 patch. -/
def loadKind : Nat → LoadKind
  | 0 => .draft
  | 1 => .card
  | _ => .patch

/-- What stands against a load of a kind (R52, R55, R66, R429): its status. -/
def State.loadBar (s : State) (kind : Nat) : Nat :=
  if kind = 0 then
    if s.mode ≠ 0 ∧ s.mode ≠ 2 then stIllegal else if s.pfwLow then stBusy else stOk
  else if s.mode < 2 ∨ 10 < s.mode ∨ s.isSet F.DRAFT_CTRL_CARD_LOCK then stIllegal
  else if s.pfwLow ∨ s.draft.load.isSome ∨ (kind = 2 ∧ s.draft.patch.isSome) then stBusy
  else stOk

/-- `load`: source 1 image A, 2 image B, 3 QSPI, 4 UART; a length of 0 is one not given. -/
def State.loadCmd (s : State) (source kind length : Nat) : State :=
  if source = 0 ∨ 4 < source ∨ 2 < kind ∨ 2 ^ 25 < length then s.monErr "RANGE"
  else
    let bar := s.loadBar kind
    if bar ≠ stOk then s.monRefuse mcLoad bar
    else
      let l : LoadReq := { kind := loadKind kind, source := source, address := 0, length := length, auto := false, start := s.bases.mono,
                           slot := s.pairAt R.DRAFT_PATCH_SLOT_LO }
      let s := s.monNote .monitor (hdr 1 0x40) (goWord (if kind = 0 then 1 else if kind = 1 then 3 else 5))
      let s := if kind = 0 then s.beginLoad l else s.setDraft { s.draft with load := some l }
      if source = 4 then
        let s := s.setHost { s.host with uart := some { kind := kind, card := 0, length := length, last := s.bases.mono } }
        (s.putFld F.MONITOR_STATUS_LOADING 1).say "OK READY"
      else s.monOk ""

def execMonLoad (t source kind length : Nat) (s : State) : Host.Outcome State Fault Refusal := run t (·.monOwn (·.loadCmd source kind length)) s

/-- A UART load's transfer ends: outcome 0 received, 1 a block failed twice, 2 silence (log 11). -/
def State.uartEnds (s : State) (u : UartLoad) (outcome : Nat) : State :=
  let n := min u.bytes.length u.length
  let s := s.putFld F.MONITOR_STATUS_LOADING 0
  let s := s.event E.MONITOR_UART_LOAD noSource (leBytes 1 u.kind ++ leBytes 4 n ++ leBytes 1 outcome)
  if outcome = 0 then s
  else
    match s.draft.load with
    | some l => (s.loadUnread l u.bytes [] u.bytes.length).setHost { s.host with uart := none }
    | none => s.setHost { s.host with uart := none }

/-- The UART load under way, if the load it feeds still is. -/
def State.uartLoad (s : State) : Option UartLoad :=
  match s.draft.load with
  | some l => if l.source = 4 ∧ s.isSet F.MONITOR_STATUS_LOADING then s.host.uart else none
  | none => none

/-- Where the load was abandoned, its transfer is too. -/
def State.uartIdle (s : State) : State :=
  if s.isSet F.MONITOR_STATUS_LOADING then (s.putFld F.MONITOR_STATUS_LOADING 0).setHost { s.host with uart := none } else s

/-- UART_BLOCK: accepted (0x06) where its CRC-32C holds, else to be repeated (0x15) or, the second time, the end. An object whose length
was not given ends at its TOTAL_LEN. -/
def State.uartTake (s : State) (block : List Byte) (crc : Nat) : State :=
  match s.uartLoad with
  | none => s.uartIdle
  | some u =>
    let u := { u with last := s.bases.mono }
    if block.length = 1024 ∧ crc = crc32c 0xFFFFFFFF block then
      let bytes := u.bytes ++ block
      let u := { u with bytes := bytes, failed := false, length := if u.length = 0 then ohTotal bytes else u.length }
      let s := (s.setHost { s.host with uart := some u }).emit (.uartByte 0x06)
      if u.length ≤ bytes.length then s.uartEnds u 0 else s
    else
      let s := s.emit (.uartByte 0x15)
      if u.failed then s.uartEnds u 1 else s.setHost { s.host with uart := some { u with failed := true } }

def execUartBlock (t : Nat) (block : List Byte) (crc : Nat) (s : State) : Host.Outcome State Fault Refusal := run t (·.uartTake block crc) s

/-- UART_TIMEOUT: no byte for 2 s. -/
def State.uartSilent (s : State) : State :=
  match s.uartLoad with
  | none => s.uartIdle
  | some u => if s.bases.mono < u.last + 2000000000 then s else s.uartEnds u 2

def execUartTimeout (t : Nat) (s : State) : Host.Outcome State Fault Refusal := run t State.uartSilent s

end Sys2Proof.Machine
end

