-- ==== Sys2Proof/Machine/Dispatch.lean ====
section
/-!
DEFINITION. Sys2Proof/Machine/Dispatch.lean: the effect of each command, one arm per constructor of `Instr`.
-/

namespace Sys2Proof.Machine

/-- The effect of a command on everything but the queue. -/
def exec (i : Instr) (s : State) : Host.Outcome State Fault Refusal :=
  match i with
  | .registerWrite t path addr value whole x => Sys2Proof.Machine.execRegisterWrite t path addr value whole x s
  | .lowWordRead t addr whole => Sys2Proof.Machine.execLowWordRead t addr whole s
  | .irqSet t path block value => Sys2Proof.Machine.execIrqSet t path block value s
  | .irqStatusWrite t path block enable value => Sys2Proof.Machine.execIrqStatusWrite t path block enable value s
  | .msixUnmask t path vector => Sys2Proof.Machine.execMsixUnmask t path vector s
  | .load t path => Sys2Proof.Machine.execLoad t path s
  | .automaticBoot t => Sys2Proof.Machine.execAutomaticBoot t s
  | .loadDone t object retried => Sys2Proof.Machine.execLoadDone t object retried s
  | .loadFail t object retried at' => Sys2Proof.Machine.execLoadFail t object retried at' s
  | .unload t path => Sys2Proof.Machine.execUnload t path s
  | .loadCard t path => Sys2Proof.Machine.execLoadCard t path s
  | .cardLoaded t object retried => Sys2Proof.Machine.execCardLoaded t object retried s
  | .dropCard t path => Sys2Proof.Machine.execDropCard t path s
  | .patch t path => Sys2Proof.Machine.execPatch t path s
  | .patchAccepted t object retried => Sys2Proof.Machine.execPatchAccepted t object retried s
  | .cancelPatch t path => Sys2Proof.Machine.execCancelPatch t path s
  | .imageWrite t path => Sys2Proof.Machine.execImageWrite t path s
  | .imageErase t path => Sys2Proof.Machine.execImageErase t path s
  | .imageDone t bytes good => Sys2Proof.Machine.execImageDone t bytes good s
  | .cardLock t path => Sys2Proof.Machine.execCardLock t path s
  | .requireSigned t path => Sys2Proof.Machine.execRequireSigned t path s
  | .stagingComplete t => Sys2Proof.Machine.execStagingComplete t s
  | .switchSlot t => Sys2Proof.Machine.execSwitchSlot t s
  | .warmReset t path => Sys2Proof.Machine.execWarmReset t path s
  | .wrstN t lowNs => Sys2Proof.Machine.execWrstN t lowNs s
  | .warmDone t => Sys2Proof.Machine.execWarmDone t s
  | .requestM2 t path => Sys2Proof.Machine.execRequestM2 t path s
  | .requestM3 t path => Sys2Proof.Machine.execRequestM3 t path s
  | .requestM9 t path => Sys2Proof.Machine.execRequestM9 t path s
  | .setHostOverload t path => Sys2Proof.Machine.execSetHostOverload t path s
  | .liftHostOverload t path => Sys2Proof.Machine.execLiftHostOverload t path s
  | .powerOnReset t bootSel modid claimMode pfwLow => Sys2Proof.Machine.execPowerOnReset t bootSel modid claimMode pfwLow s
  | .timePllLock t => Sys2Proof.Machine.execTimePllLock t s
  | .ptpMessage t port msg => Sys2Proof.Machine.execPtpMessage t port msg s
  | .ptpTransmit t => Sys2Proof.Machine.execPtpTransmit t s
  | .sourceTimeout t source => Sys2Proof.Machine.execSourceTimeout t source s
  | .ppsEdge t stamp => Sys2Proof.Machine.execPpsEdge t stamp s
  | .todSentence t utc ok => Sys2Proof.Machine.execTodSentence t utc ok s
  | .irigFrame t stamp ok ext year second localOffset quality leapPending leapDelete => Sys2Proof.Machine.execIrigFrame t stamp ok ext year second localOffset quality leapPending leapDelete s
  | .crossFail t => Sys2Proof.Machine.execCrossFail t s
  | .crossAgree t => Sys2Proof.Machine.execCrossAgree t s
  | .leapApplied t => Sys2Proof.Machine.execLeapApplied t s
  | .ppsOEdge t => Sys2Proof.Machine.execPpsOEdge t s
  | .pulseEdge t n => Sys2Proof.Machine.execPulseEdge t n s
  | .setGrid t path => Sys2Proof.Machine.execSetGrid t path s
  | .setTest t path => Sys2Proof.Machine.execSetTest t path s
  | .pathAccept t path => Sys2Proof.Machine.execPathAccept t path s
  | .clearAsym t path => Sys2Proof.Machine.execClearAsym t path s
  | .setUtc t path => Sys2Proof.Machine.execSetUtc t path s
  | .pulseArm t path => Sys2Proof.Machine.execPulseArm t path s
  | .pulseDisarm t path => Sys2Proof.Machine.execPulseDisarm t path s
  | .frameReceived t port bytes latched fcsOk => Sys2Proof.Machine.execFrameReceived t port bytes latched fcsOk s
  | .linkUp t port since => Sys2Proof.Machine.execLinkUp t port since s
  | .linkDown t port detail inFrame => Sys2Proof.Machine.execLinkDown t port detail inFrame s
  | .prpSupervision t pair => Sys2Proof.Machine.execPrpSupervision t pair s
  | .prpForget t pair mac => Sys2Proof.Machine.execPrpForget t pair mac s
  | .hostFrameSend t => Sys2Proof.Machine.execHostFrameSend t s
  | .mcastWrite t path => Sys2Proof.Machine.execMcastWrite t path s
  | .mcastClear t path => Sys2Proof.Machine.execMcastClear t path s
  | .linkRestart t path => Sys2Proof.Machine.execLinkRestart t path s
  | .prpFlush t path => Sys2Proof.Machine.execPrpFlush t path s
  | .c37DataFrame t => Sys2Proof.Machine.execC37DataFrame t s
  | .c37ConfigFrame t => Sys2Proof.Machine.execC37ConfigFrame t s
  | .c37HeaderFrame t => Sys2Proof.Machine.execC37HeaderFrame t s
  | .c37CommandFrame t => Sys2Proof.Machine.execC37CommandFrame t s
  | .sessionPdu t => Sys2Proof.Machine.execSessionPdu t s
  | .svFrame t => Sys2Proof.Machine.execSvFrame t s
  | .gooseMessage t => Sys2Proof.Machine.execGooseMessage t s
  | .injectedFrame t => Sys2Proof.Machine.execInjectedFrame t s
  | .silenceTimeout t sid => Sys2Proof.Machine.execSilenceTimeout t sid s
  | .gooseTalExpired t entry => Sys2Proof.Machine.execGooseTalExpired t entry s
  | .dataOnRetry t sid => Sys2Proof.Machine.execDataOnRetry t sid s
  | .streamState t path => Sys2Proof.Machine.execStreamState t path s
  | .streamEnable t path => Sys2Proof.Machine.execStreamEnable t path s
  | .requestCfg t path => Sys2Proof.Machine.execRequestCfg t path s
  | .keyLoad t path => Sys2Proof.Machine.execKeyLoad t path s
  | .keyInvalidate t path => Sys2Proof.Machine.execKeyInvalidate t path s
  | .reedItem t fails => Sys2Proof.Machine.execReedItem t fails s
  | .waveformSample t => Sys2Proof.Machine.execWaveformSample t s
  | .threadState t path => Sys2Proof.Machine.execThreadState t path s
  | .estState t path => Sys2Proof.Machine.execEstState t path s
  | .bankInfo t path => Sys2Proof.Machine.execBankInfo t path s
  | .slotInstant t lattice => Sys2Proof.Machine.execSlotInstant t lattice s
  | .loomWrite t fails => Sys2Proof.Machine.execLoomWrite t fails s
  | .setDeadline t lattice => Sys2Proof.Machine.execSetDeadline t lattice s
  | .closePipeline t checks upsets => Sys2Proof.Machine.execClosePipeline t checks upsets s
  | .learnedRefresh t => Sys2Proof.Machine.execLearnedRefresh t s
  | .overloadSet t backpressureMs => Sys2Proof.Machine.execOverloadSet t backpressureMs s
  | .overloadClear t backpressureMs => Sys2Proof.Machine.execOverloadClear t backpressureMs s
  | .readValue t path => Sys2Proof.Machine.execReadValue t path s
  | .quantile t path => Sys2Proof.Machine.execQuantile t path s
  | .histReset t path => Sys2Proof.Machine.execHistReset t path s
  | .weft t path => Sys2Proof.Machine.execWeft t path s
  | .closeNow t path => Sys2Proof.Machine.execCloseNow t path s
  | .trackerStale t tracker => Sys2Proof.Machine.execTrackerStale t tracker s
  | .ckptArchive t fails => Sys2Proof.Machine.execCkptArchive t fails s
  | .shapeReport t job => Sys2Proof.Machine.execShapeReport t job s
  | .trackerRead t path => Sys2Proof.Machine.execTrackerRead t path s
  | .spectrumRead t path => Sys2Proof.Machine.execSpectrumRead t path s
  | .trackerReset t path => Sys2Proof.Machine.execTrackerReset t path s
  | .ckptSave t path => Sys2Proof.Machine.execCkptSave t path s
  | .scTimeout t => Sys2Proof.Machine.execScTimeout t s
  | .areaRead t path => Sys2Proof.Machine.execAreaRead t path s
  | .scStart t path => Sys2Proof.Machine.execScStart t path s
  | .scStop t path => Sys2Proof.Machine.execScStop t path s
  | .tieForce t path => Sys2Proof.Machine.execTieForce t path s
  | .gooseRepeat t cb => Sys2Proof.Machine.execGooseRepeat t cb s
  | .pinMismatch t pin high => Sys2Proof.Machine.execPinMismatch t pin high s
  | .pointRead t path => Sys2Proof.Machine.execPointRead t path s
  | .resetLatch t path => Sys2Proof.Machine.execResetLatch t path s
  | .pinTest t path => Sys2Proof.Machine.execPinTest t path s
  | .pinTestEnd t => Sys2Proof.Machine.execPinTestEnd t s
  | .laneResync t path => Sys2Proof.Machine.execLaneResync t path s
  | .retryComplete t cls element' ok spent owner => Sys2Proof.Machine.execRetryComplete t cls element' ok spent owner s
  | .configScan t element' fails => Sys2Proof.Machine.execConfigScan t element' fails s
  | .shadowScan t fails => Sys2Proof.Machine.execShadowScan t fails s
  | .scrub t inStacks find => Sys2Proof.Machine.execScrub t inStacks find s
  | .restored t element' => Sys2Proof.Machine.execRestored t element' s
  | .holdExpired t => Sys2Proof.Machine.execHoldExpired t s
  | .elementRead t path => Sys2Proof.Machine.execElementRead t path s
  | .inject t path => Sys2Proof.Machine.execInject t path s
  | .restore t path => Sys2Proof.Machine.execRestore t path s
  | .holdRelease t path => Sys2Proof.Machine.execHoldRelease t path s
  | .countersClear t path => Sys2Proof.Machine.execCountersClear t path s
  | .partnerClaim t lane claim => Sys2Proof.Machine.execPartnerClaim t lane claim s
  | .partnerLost t => Sys2Proof.Machine.execPartnerLost t s
  | .claimRaise t => Sys2Proof.Machine.execClaimRaise t s
  | .intlkPull t high => Sys2Proof.Machine.execIntlkPull t high s
  | .helloSend t => Sys2Proof.Machine.execHelloSend t s
  | .mirrorHello t content => Sys2Proof.Machine.execMirrorHello t content s
  | .intentSend t os => Sys2Proof.Machine.execIntentSend t os s
  | .mirrorIntent t content => Sys2Proof.Machine.execMirrorIntent t content s
  | .mirrorLatch t content => Sys2Proof.Machine.execMirrorLatch t content s
  | .mirrorGoose t content => Sys2Proof.Machine.execMirrorGoose t content s
  | .mirrorEnergy t content => Sys2Proof.Machine.execMirrorEnergy t content s
  | .mirrorLedger t content => Sys2Proof.Machine.execMirrorLedger t content s
  | .mirrorCkpt t content => Sys2Proof.Machine.execMirrorCkpt t content s
  | .mirrorCapt t content => Sys2Proof.Machine.execMirrorCapt t content s
  | .mirrorFull t content => Sys2Proof.Machine.execMirrorFull t content s
  | .energyMirrorSend t => Sys2Proof.Machine.execEnergyMirrorSend t s
  | .ckptMirrorSend t => Sys2Proof.Machine.execCkptMirrorSend t s
  | .yield t path => Sys2Proof.Machine.execYield t path s
  | .yieldApplied t => Sys2Proof.Machine.execYieldApplied t s
  | .reclaim t path => Sys2Proof.Machine.execReclaim t path s
  | .mirrorSync t path => Sys2Proof.Machine.execMirrorSync t path s
  | .trainCell t link bytes => Sys2Proof.Machine.execTrainCell t link bytes s
  | .heartbeatCell t link bytes => Sys2Proof.Machine.execHeartbeatCell t link bytes s
  | .heartbeatSend t link => Sys2Proof.Machine.execHeartbeatSend t link s
  | .linkSilent t link => Sys2Proof.Machine.execLinkSilent t link s
  | .nakCell t link bytes => Sys2Proof.Machine.execNakCell t link bytes s
  | .retransmit t link => Sys2Proof.Machine.execRetransmit t link s
  | .retryFail t link => Sys2Proof.Machine.execRetryFail t link s
  | .autoRestart t link => Sys2Proof.Machine.execAutoRestart t link s
  | .bringupRetry t link => Sys2Proof.Machine.execBringupRetry t link s
  | .cellTransmit t link => Sys2Proof.Machine.execCellTransmit t link s
  | .slotHeadCell t link bytes => Sys2Proof.Machine.execSlotHeadCell t link bytes s
  | .slotDataCell t link bytes => Sys2Proof.Machine.execSlotDataCell t link bytes s
  | .truncationTimeout t origin lattice => Sys2Proof.Machine.execTruncationTimeout t origin lattice s
  | .armCell t link bytes => Sys2Proof.Machine.execArmCell t link bytes s
  | .fireCell t link bytes => Sys2Proof.Machine.execFireCell t link bytes s
  | .slvLinkRestart t path => Sys2Proof.Machine.execSlvLinkRestart t path s
  | .linkHold t path => Sys2Proof.Machine.execLinkHold t path s
  | .originRead t path => Sys2Proof.Machine.execOriginRead t path s
  | .composeStart t os => Sys2Proof.Machine.execComposeStart t os s
  | .launch t os => Sys2Proof.Machine.execLaunch t os s
  | .lateLaunch t os => Sys2Proof.Machine.execLateLaunch t os s
  | .shuttleStreamEnable t path => Sys2Proof.Machine.execShuttleStreamEnable t path s
  | .cfgFetch t path => Sys2Proof.Machine.execCfgFetch t path s
  | .cmdSend t path => Sys2Proof.Machine.execCmdSend t path s
  | .d2hCopy t q good => Sys2Proof.Machine.execD2hCopy t q good s
  | .doorbell t path q value => Sys2Proof.Machine.execDoorbell t path q value s
  | .h2dFetch t q kind payload good => Sys2Proof.Machine.execH2dFetch t q kind payload good s
  | .moderationTimeout t q => Sys2Proof.Machine.execModerationTimeout t q s
  | .queueFlush t path q => Sys2Proof.Machine.execQueueFlush t path q s
  | .queueStart t path => Sys2Proof.Machine.execQueueStart t path s
  | .queueStop t path => Sys2Proof.Machine.execQueueStop t path s
  | .inputChange t => Sys2Proof.Machine.execInputChange t s
  | .waveWaitEnd t region => Sys2Proof.Machine.execWaveWaitEnd t region s
  | .rearmDone t region => Sys2Proof.Machine.execRearmDone t region s
  | .arm t path => Sys2Proof.Machine.execArm t path s
  | .disarm t path => Sys2Proof.Machine.execDisarm t path s
  | .fire t path => Sys2Proof.Machine.execFire t path s
  | .trigSet t path => Sys2Proof.Machine.execTrigSet t path s
  | .recordLock t path => Sys2Proof.Machine.execRecordLock t path s
  | .recordUnlock t path => Sys2Proof.Machine.execRecordUnlock t path s
  | .energySave t fails => Sys2Proof.Machine.execEnergySave t fails s
  | .epulsePhase t output => Sys2Proof.Machine.execEpulsePhase t output s
  | .intervalRead t path => Sys2Proof.Machine.execIntervalRead t path s
  | .peakReset t path => Sys2Proof.Machine.execPeakReset t path s
  | .ledgerEvent t code source payload => Sys2Proof.Machine.execLedgerEvent t code source payload s
  | .coalesceClose t => Sys2Proof.Machine.execCoalesceClose t s
  | .recordWritten t fails => Sys2Proof.Machine.execRecordWritten t fails s
  | .opSecondsSave t => Sys2Proof.Machine.execOpSecondsSave t s
  | .read t path => Sys2Proof.Machine.execRead t path s
  | .ack t path => Sys2Proof.Machine.execAck t path s
  | .ledgerFlush t path => Sys2Proof.Machine.execLedgerFlush t path s
  | .verify t path => Sys2Proof.Machine.execVerify t path s
  | .nonce t path => Sys2Proof.Machine.execNonce t path s
  | .nonceExpiry t => Sys2Proof.Machine.execNonceExpiry t s
  | .clear t path => Sys2Proof.Machine.execClear t path s
  | .clearDone t => Sys2Proof.Machine.execClearDone t s
  | .keySet t path => Sys2Proof.Machine.execKeySet t path s
  | .keyChange t path => Sys2Proof.Machine.execKeyChange t path s
  | .scanStart t path => Sys2Proof.Machine.execScanStart t path s
  | .scanStop t path blocks => Sys2Proof.Machine.execScanStop t path blocks s
  | .scanDone t engine bad => Sys2Proof.Machine.execScanDone t engine bad s
  | .domainSet t path => Sys2Proof.Machine.execDomainSet t path s
  | .drainComplete t => Sys2Proof.Machine.execDrainComplete t s
  | .drainTimeout t transfers => Sys2Proof.Machine.execDrainTimeout t transfers s
  | .domainWakeDone t domain good => Sys2Proof.Machine.execDomainWakeDone t domain good s
  | .archiveRetain t => Sys2Proof.Machine.execArchiveRetain t s
  | .droop t supply mv => Sys2Proof.Machine.execDroop t supply mv s
  | .droopLasting t supply => Sys2Proof.Machine.execDroopLasting t supply s
  | .pfwNChange t low => Sys2Proof.Machine.execPfwNChange t low s
  | .pfwFall t => Sys2Proof.Machine.execPfwFall t s
  | .flushDone t fails => Sys2Proof.Machine.execFlushDone t fails s
  | .pfwRecovered t => Sys2Proof.Machine.execPfwRecovered t s
  | .clockLoss t island wrong => Sys2Proof.Machine.execClockLoss t island wrong s
  | .relockDone t island ok => Sys2Proof.Machine.execRelockDone t island ok s
  | .canaryError t island canary m => Sys2Proof.Machine.execCanaryError t island canary m s
  | .hourlyReplan t m => Sys2Proof.Machine.execHourlyReplan t m s
  | .replanMeasure t m => Sys2Proof.Machine.execReplanMeasure t m s
  | .avsCheck t mv ack => Sys2Proof.Machine.execAvsCheck t mv ack s
  | .ageForecast t => Sys2Proof.Machine.execAgeForecast t s
  | .replan t path m => Sys2Proof.Machine.execReplan t path m s
  | .avsSet t path => Sys2Proof.Machine.execAvsSet t path s
  | .perstN t low object off => Sys2Proof.Machine.execPerstN t low object off s
  | .pcieLinkUp t speed width busMaster => Sys2Proof.Machine.execPcieLinkUp t speed width busMaster s
  | .dState t d3 => Sys2Proof.Machine.execDState t d3 s
  | .bar2Read t addr len good => Sys2Proof.Machine.execBar2Read t addr len good s
  | .bar2Write t addr bytes => Sys2Proof.Machine.execBar2Write t addr bytes s
  | .masterReclaim t => Sys2Proof.Machine.execMasterReclaim t s
  | .monHelp t => Sys2Proof.Machine.execMonHelp t s
  | .monId t => Sys2Proof.Machine.execMonId t s
  | .monRd t addr n => Sys2Proof.Machine.execMonRd t addr n s
  | .monSr t addr n bad => Sys2Proof.Machine.execMonSr t addr n bad s
  | .monWr t addr value x => Sys2Proof.Machine.execMonWr t addr value x s
  | .monCmd t block opcode args x => Sys2Proof.Machine.execMonCmd t block opcode args x s
  | .monMode t mode => Sys2Proof.Machine.execMonMode t mode s
  | .monLedger t acc n => Sys2Proof.Machine.execMonLedger t acc n s
  | .monFault t => Sys2Proof.Machine.execMonFault t s
  | .monLoad t source kind length => Sys2Proof.Machine.execMonLoad t source kind length s
  | .monResetWarm t => Sys2Proof.Machine.execMonResetWarm t s
  | .monTake t => Sys2Proof.Machine.execMonTake t s
  | .monGive t => Sys2Proof.Machine.execMonGive t s
  | .monBaud t rate => Sys2Proof.Machine.execMonBaud t rate s
  | .monLineDiscard t framing => Sys2Proof.Machine.execMonLineDiscard t framing s
  | .baudChange t => Sys2Proof.Machine.execBaudChange t s
  | .baudRevert t => Sys2Proof.Machine.execBaudRevert t s
  | .uartBlock t block crc => Sys2Proof.Machine.execUartBlock t block crc s
  | .uartTimeout t => Sys2Proof.Machine.execUartTimeout t s
  | .readOnly t path => Sys2Proof.Machine.execReadOnly t path s
  | .bypass t => Sys2Proof.Machine.execBypass t s
  | .idcode t => Sys2Proof.Machine.execIdcode t s
  | .samplePreload t value => Sys2Proof.Machine.execSamplePreload t value s
  | .extest t value => Sys2Proof.Machine.execExtest t value s
  | .highz t => Sys2Proof.Machine.execHighz t s
  | .clamp t => Sys2Proof.Machine.execClamp t s
  | .claimStrobeEdge t => Sys2Proof.Machine.execClaimStrobeEdge t s
  | .internalReset t => Sys2Proof.Machine.execInternalReset t s
  | .surpriseLinkDown t object off => Sys2Proof.Machine.execSurpriseLinkDown t object off s
  | .blockLock t link => Sys2Proof.Machine.execBlockLock t link s
  | .lockLost t link => Sys2Proof.Machine.execLockLost t link s
  | .badCell t link => Sys2Proof.Machine.execBadCell t link s

end Sys2Proof.Machine
end

