-- ==== Sys2Proof/Safety.lean ====
section
/-!
DEFINITION. Sys2Proof/Safety.lean: the words in which claims are made: when a write by a path is carried out, what a completed command
shows, what stays the same, and the states the module keeps to.
-/

namespace Sys2Proof.Machine

/-- The outcome is a next state, and that state has the property. -/
def Answers (o : Host.Outcome State Fault Refusal) (p : State → Prop) : Prop := ∃ u, o = .next u ∧ p u

/-- A write of a register by a path is carried out: the module is not in internal reset (R426), the path is heard (R454, R465), the
register's domain is ON (R434), and the path holds mastership (R457). -/
abbrev State.Reaches (s : State) (path : Path) (addr : Nat) : Prop :=
  s.held = false ∧ s.deaf path = false ∧ s.regState addr = 0 ∧ s.mayWrite path addr = true

/-- A command of block `b` is taken: the write of GO is carried out and CMD_STATUS.DONE is 1 (R473, R474). -/
abbrev State.Ready (s : State) (path : Path) (b : Nat) : Prop :=
  s.Reaches path (hdr b 0x40) ∧ bits (s.regN (hdr b 0x54)) 31 31 = 1

/-- The state in which a write by a path is carried out: at its time, and with the monitor's write recorded (R464). -/
def State.asked (s : State) (t : Nat) (path : Path) (addr value : Nat) : State := (s.at t).monNote path addr value

/-- The state in which a command of block `b` is carried out. -/
def State.issued (s : State) (t : Nat) (path : Path) (b op : Nat) : State := s.asked t path (hdr b 0x40) (goWord op)

/-- CMD_STATUS shows the opcode with DONE and the status OK, and GO has cleared itself (R472, R474). -/
abbrev State.DoneOk (u : State) (b op : Nat) : Prop := u.regN (hdr b 0x54) = 2 ^ 31 + 2 ^ 16 * op ∧ u.regN (hdr b 0x40) = op

/-- RESULT0 and RESULT1 of a block. -/
def State.results (u : State) (b : Nat) : Nat × Nat := (u.regN (hdr b 0x58), u.regN (hdr b 0x5C))

/-- Every byte of the Archive and of the Stacks is the same. -/
def SameMemory (s u : State) : Prop :=
  ∀ a, smGet (archiveDefault a) u.archive a = smGet (archiveDefault a) s.archive a ∧
    smGet (ramDefault a) u.stk a = smGet (ramDefault a) s.stk a

/-- Every register but those listed holds the same word. -/
def SameRegs (s u : State) (but : List Nat) : Prop := ∀ a, a ∉ but → u.regN a = s.regN a

/-- The registers in which a command shows its outcome. -/
abbrev cmdRegs (b : Nat) : List Nat := [hdr b 0x40, hdr b 0x54, hdr b 0x58, hdr b 0x5C]

/-- The registers an event, an interrupt cause and a message to the partner change: the pending bits and a counter. -/
abbrev eventRegs : List Nat := [R.HOST_PBAn 0, R.PAIR_MIRROR_SENT]

/-- The registers a write's record of the monitor changes. -/
abbrev noteRegs : List Nat := [R.HOST_PBAn 0, R.PAIR_MIRROR_SENT, R.MONITOR_WRITES]

/-- The module is in internal reset and nothing that waits ends it (R425, R426). -/
def State.InReset (s : State) : Prop :=
  s.held = true ∧ ∀ c ∈ s.pending, ∀ t bootSel modid claimMode pfwLow, c ≠ .powerOnReset t bootSel modid claimMode pfwLow

/-- Both memories are in their canonical form. -/
def State.MemoryOk (s : State) : Prop := Memory.wf archiveDefault s.archive = true ∧ Memory.wf ramDefault s.stk = true

/-- A command of block `b` completes: from every state in which it is taken and that, at its time, meets `c`, it answers a next state in
which CMD_STATUS shows DONE and OK and `e` holds of the state it was carried out in and the next one. -/
def Completes (b op : Nat) (i : Nat → Path → Instr) (c : State → Prop) (e : State → State → Prop) : Prop :=
  ∀ (s : State) (t : Nat) (path : Path), s.Ready path b → c (s.issued t path b op) →
    Answers (exec (i t path) s) fun u => u.DoneOk b op ∧ e (s.issued t path b op) u

/-- A command of block `b` that takes time is begun: GO stays set and DONE clear until its end (R472), and `e` holds. -/
def Starts (b op : Nat) (i : Nat → Path → Instr) (c : State → Prop) (e : State → State → Prop) : Prop :=
  ∀ (s : State) (t : Nat) (path : Path), s.Ready path b → c (s.issued t path b op) →
    Answers (exec (i t path) s) fun u =>
      u.regN (hdr b 0x54) = 2 ^ 16 * op ∧ u.regN (hdr b 0x40) = 2 ^ 31 + op ∧ e (s.issued t path b op) u

/-- An event has its effect: from every state outside internal reset (R426) that, at the event's time, meets `c`, it answers a next state
and `e` holds of the state at that time and the next one. -/
def Happens (i : Nat → Instr) (c : State → Prop) (e : State → State → Prop) : Prop :=
  ∀ (s : State) (t : Nat), s.held = false → c (s.at t) → Answers (exec (i t) s) fun u => e (s.at t) u

/-! What each command writes. -/

/-- The parts of the state, in the order of its fields, and MONO apart from the other time bases. -/
inductive Part where
  | pending | held | boot | bases | regs | snaps | irq | ledger | draft | archive | stk | out | freeCount | time
  | vote | fault | pair | power | queues | port | hedQ | heddle | reedQ | waveQ | inputQ | reed | loomQ | loom
  | slv | capt | shuttle | osc | isle | energy | saves | clock | ageing | host | keyHashes | mono
  deriving DecidableEq, Repr

/-- A part's number. -/
def Part.bit : Part → Nat
  | .pending => 0
  | .held => 1
  | .boot => 2
  | .bases => 3
  | .regs => 4
  | .snaps => 5
  | .irq => 6
  | .ledger => 7
  | .draft => 8
  | .archive => 9
  | .stk => 10
  | .out => 11
  | .freeCount => 12
  | .time => 13
  | .vote => 14
  | .fault => 15
  | .pair => 16
  | .power => 17
  | .queues => 18
  | .port => 19
  | .hedQ => 20
  | .heddle => 21
  | .reedQ => 22
  | .waveQ => 23
  | .inputQ => 24
  | .reed => 25
  | .loomQ => 26
  | .loom => 27
  | .slv => 28
  | .capt => 29
  | .shuttle => 30
  | .osc => 31
  | .isle => 32
  | .energy => 33
  | .saves => 34
  | .clock => 35
  | .ageing => 36
  | .host => 37
  | .keyHashes => 38
  | .mono => 39

/-- Two states hold the same in a part. -/
def Part.same : Part → State → State → Prop
  | .pending, s, u => u.pending = s.pending
  | .held, s, u => u.held = s.held
  | .boot, s, u => u.boot = s.boot
  | .bases, s, u => u.bases = s.bases
  | .regs, s, u => u.regs = s.regs
  | .snaps, s, u => u.snaps = s.snaps
  | .irq, s, u => u.irq = s.irq
  | .ledger, s, u => u.ledger = s.ledger
  | .draft, s, u => u.draft = s.draft
  | .archive, s, u => u.archive = s.archive
  | .stk, s, u => u.stk = s.stk
  | .out, s, u => u.out = s.out
  | .freeCount, s, u => u.freeCount = s.freeCount
  | .time, s, u => u.time = s.time
  | .vote, s, u => u.vote = s.vote
  | .fault, s, u => u.fault = s.fault
  | .pair, s, u => u.pair = s.pair
  | .power, s, u => u.power = s.power
  | .queues, s, u => u.queues = s.queues
  | .port, s, u => u.port = s.port
  | .hedQ, s, u => u.hedQ = s.hedQ
  | .heddle, s, u => u.heddle = s.heddle
  | .reedQ, s, u => u.reedQ = s.reedQ
  | .waveQ, s, u => u.waveQ = s.waveQ
  | .inputQ, s, u => u.inputQ = s.inputQ
  | .reed, s, u => u.reed = s.reed
  | .loomQ, s, u => u.loomQ = s.loomQ
  | .loom, s, u => u.loom = s.loom
  | .slv, s, u => u.slv = s.slv
  | .capt, s, u => u.capt = s.capt
  | .shuttle, s, u => u.shuttle = s.shuttle
  | .osc, s, u => u.osc = s.osc
  | .isle, s, u => u.isle = s.isle
  | .energy, s, u => u.energy = s.energy
  | .saves, s, u => u.saves = s.saves
  | .clock, s, u => u.clock = s.clock
  | .ageing, s, u => u.ageing = s.ageing
  | .host, s, u => u.host = s.host
  | .keyHashes, s, u => u.keyHashes = s.keyHashes
  | .mono, s, u => u.bases.mono = s.bases.mono

/-- What an event, an interrupt cause and a message to the partner write (R305, R402, R452). -/
abbrev eventParts : List Part := [.regs, .irq, .ledger, .out, .slv]

/-- What a write that a path makes can write beside: it may have to wake its domain (R434). -/
abbrev pathParts : List Part := eventParts ++ [.power]

end Sys2Proof.Machine

namespace Sys2Proof

open Machine

/-- Is the command a power-on reset? It is the one that acts in internal reset, and MONO starts again with it (R68, R426). -/
def Instr.isPowerOn : Instr → Bool
  | .powerOnReset .. => true
  | _ => false

/-- The parts of the state a command may write beyond the passage of time; every other part it leaves as it is. A write of a register may
issue any command, and a command that wakes a domain lets the writes that waited for it through (R434, R474). The power-on reset keeps the
queue, what was driven, the Archive and its save areas, one-time memory and the fuses. -/
def Instr.writes : Instr → List Part
  | .ptpTransmit .. =>
    [.out]
  | .prpForget .. =>
    [.port]
  | .cardLock .. | .requireSigned .. | .clearAsym .. | .linkRestart .. | .streamState .. | .threadState .. | .estState ..
  | .bankInfo .. | .readValue .. | .quantile .. | .weft .. | .trackerRead .. | .spectrumRead .. | .areaRead .. | .pointRead ..
  | .elementRead .. | .countersClear .. | .mirrorSync .. | .originRead .. | .doorbell .. | .queueStart .. | .queueStop ..
  | .intervalRead .. | .ack .. | .ledgerFlush .. | .keySet .. | .keyChange .. | .domainSet .. | .bar2Read .. | .masterReclaim ..
  | .readOnly .. =>
    pathParts
  | .coalesceClose .. | .nonceExpiry .. =>
    [.ledger]
  | .linkUp .. | .linkDown .. | .pinMismatch .. | .trainCell .. | .ledgerEvent .. | .dState .. =>
    eventParts
  | .ppsOEdge .. =>
    [.out, .time]
  | .mirrorIntent .. | .autoRestart .. | .bringupRetry .. | .badCell .. =>
    [.regs, .slv]
  | .pfwNChange .. =>
    [.regs, .power]
  | .histReset .. | .bar2Write .. =>
    pathParts ++ [.stk]
  | .trackerReset .. =>
    pathParts ++ [.osc]
  | .heartbeatSend .. | .cellTransmit .. | .blockLock .. =>
    [.regs, .out, .slv]
  | .pulseEdge .. =>
    [.regs, .out, .time]
  | .setUtc .. | .pulseArm .. | .pulseDisarm .. =>
    pathParts ++ [.time]
  | .prpSupervision .. =>
    [.regs, .out, .port]
  | .mcastWrite .. | .mcastClear .. | .prpFlush .. =>
    pathParts ++ [.port]
  | .trackerStale .. =>
    eventParts ++ [.osc]
  | .tieForce .. =>
    pathParts ++ [.isle]
  | .laneResync .. =>
    pathParts ++ [.vote]
  | .mirrorGoose .. | .mirrorEnergy .. | .mirrorLedger .. =>
    [.regs, .pair, .slv]
  | .reclaim .. =>
    pathParts ++ [.pair]
  | .arm .. | .disarm .. | .fire .. | .recordLock .. | .recordUnlock .. =>
    pathParts ++ [.capt]
  | .monSr .. =>
    pathParts ++ [.host]
  | .internalReset .. =>
    [.held, .out, .vote]
  | .lowWordRead .. =>
    pathParts ++ [.snaps]
  | .loadCard .. | .dropCard .. | .patch .. | .cancelPatch .. =>
    pathParts ++ [.draft]
  | .leapApplied .. =>
    eventParts ++ [.time]
  | .learnedRefresh .. =>
    eventParts ++ [.loom]
  | .claimRaise .. =>
    eventParts ++ [.pair]
  | .mirrorCapt .. =>
    eventParts ++ [.capt]
  | .droop .. =>
    pathParts ++ [.fault]
  | .pcieLinkUp .. | .monHelp .. | .monId .. | .monFault .. | .monTake .. | .monGive .. | .monBaud .. | .monLineDiscard ..
  | .baudChange .. | .baudRevert .. =>
    eventParts ++ [.host]
  | .keyLoad .. | .keyInvalidate .. =>
    pathParts ++ [.heddle]
  | .restored .. =>
    eventParts ++ [.fault]
  | .cfgFetch .. | .queueFlush .. =>
    pathParts ++ [.queues]
  | .moderationTimeout .. =>
    [.regs, .out, .queues]
  | .trigSet .. =>
    pathParts ++ [.inputQ]
  | .epulsePhase .. =>
    [.regs, .out, .energy]
  | .peakReset .. =>
    pathParts ++ [.energy]
  | .avsCheck .. =>
    eventParts ++ [.clock]
  | .truncationTimeout .. | .d2hCopy .. | .h2dFetch .. =>
    eventParts ++ [.queues]
  | .shuttleStreamEnable .. =>
    pathParts ++ [.shuttle]
  | .nonce .. | .scanStop .. =>
    pathParts ++ [.freeCount]
  | .helloSend .. | .energyMirrorSend .. | .ckptMirrorSend .. =>
    [.regs, .out, .pair, .slv]
  | .scanDone .. =>
    eventParts ++ [.freeCount]
  | .mirrorCkpt .. =>
    eventParts ++ [.pair, .osc]
  | .rearmDone .. =>
    eventParts ++ [.stk, .capt]
  | .scStart .. | .scStop .. =>
    pathParts ++ [.draft, .isle]
  | .drainTimeout .. =>
    pathParts ++ [.draft, .host]
  | .monRd .. =>
    pathParts ++ [.snaps, .host]
  | .scTimeout .. =>
    eventParts ++ [.draft, .isle]
  | .pinTest .. =>
    pathParts ++ [.vote, .energy]
  | .pinTestEnd .. =>
    [.regs, .out, .vote, .energy]
  | .intentSend .. =>
    [.regs, .out, .slv, .shuttle]
  | .c37HeaderFrame .. | .c37CommandFrame .. =>
    eventParts ++ [.queues, .hedQ]
  | .inputChange .. =>
    eventParts ++ [.inputQ, .capt]
  | .replan .. | .avsSet .. =>
    pathParts ++ [.clock, .ageing]
  | .gooseTalExpired .. =>
    eventParts ++ [.heddle, .reedQ]
  | .canaryError .. | .hourlyReplan .. | .replanMeasure .. | .ageForecast .. =>
    eventParts ++ [.clock, .ageing]
  | .imageDone .. =>
    eventParts ++ [.draft, .archive]
  | .waveWaitEnd .. =>
    [.regs, .stk, .out, .slv, .capt]
  | .setGrid .. | .setTest .. =>
    pathParts ++ [.bases, .time, .loom]
  | .injectedFrame .. =>
    [.regs, .irq, .out, .queues, .hedQ]
  | .mirrorLatch .. =>
    [.regs, .out, .vote, .slv, .energy]
  | .composeStart .. =>
    eventParts ++ [.freeCount, .shuttle]
  | .bypass .. | .idcode .. | .samplePreload .. | .extest .. | .highz .. | .clamp .. =>
    [.regs, .out, .vote, .energy, .host]
  | .requestM2 .. | .requestM3 .. | .requestM9 .. | .setHostOverload .. | .liftHostOverload .. =>
    pathParts ++ [.draft, .vote, .energy]
  | .frameReceived .. =>
    eventParts ++ [.queues, .port, .hedQ]
  | .holdRelease .. =>
    pathParts ++ [.vote, .fault, .energy]
  | .holdExpired .. =>
    eventParts ++ [.vote, .fault, .energy]
  | .slotHeadCell .. | .slotDataCell .. | .armCell .. | .fireCell .. =>
    eventParts ++ [.fault, .queues, .capt]
  | .clearDone .. =>
    [.regs, .irq, .ledger, .archive, .out]
  | .gooseRepeat .. =>
    [.regs, .out, .freeCount, .vote, .port]
  | .shapeReport .. =>
    eventParts ++ [.freeCount, .queues, .osc]
  | .pfwRecovered .. =>
    pathParts ++ [.archive, .queues, .energy]
  | .hostFrameSend .. =>
    [.regs, .irq, .out, .power, .queues, .port]
  | .clockLoss .. =>
    [.regs, .irq, .out, .vote, .energy, .clock]
  | .mirrorFull .. =>
    eventParts ++ [.vote, .pair, .capt, .energy]
  | .gooseMessage .. =>
    eventParts ++ [.hedQ, .heddle, .reedQ, .inputQ]
  | .resetLatch .. =>
    pathParts ++ [.vote, .queues, .inputQ, .energy]
  | .overloadSet .. | .overloadClear .. =>
    eventParts ++ [.draft, .freeCount, .reed, .loom]
  | .requestCfg .. | .cmdSend .. =>
    pathParts ++ [.freeCount, .queues, .port, .heddle]
  | .dataOnRetry .. =>
    eventParts ++ [.freeCount, .queues, .port, .heddle]
  | .setDeadline .. =>
    eventParts ++ [.stk, .queues, .inputQ, .loom, .capt]
  | .launch .. | .lateLaunch .. =>
    eventParts ++ [.freeCount, .queues, .port, .shuttle]
  | .yield .. =>
    pathParts ++ [.draft, .vote, .pair, .shuttle, .energy]
  | .partnerClaim .. | .partnerLost .. | .intlkPull .. | .mirrorHello .. | .yieldApplied .. | .claimStrobeEdge .. =>
    eventParts ++ [.draft, .vote, .pair, .shuttle, .energy]
  | .pathAccept .. =>
    pathParts ++ [.draft, .freeCount, .time, .vote, .energy]
  | .timePllLock .. | .sourceTimeout .. | .crossAgree .. =>
    eventParts ++ [.draft, .freeCount, .time, .vote, .energy]
  | .closeNow .. =>
    pathParts ++ [.draft, .stk, .queues, .inputQ, .loom, .capt]
  | .slotInstant .. =>
    eventParts ++ [.draft, .stk, .queues, .inputQ, .loom, .capt]
  | .waveformSample .. =>
    eventParts ++ [.stk, .freeCount, .waveQ, .reed, .loomQ, .capt]
  | .ptpMessage .. | .ppsEdge .. | .todSentence .. | .irigFrame .. =>
    eventParts ++ [.bases, .draft, .freeCount, .time, .vote, .loom, .energy]
  | .silenceTimeout .. =>
    eventParts ++ [.draft, .stk, .queues, .heddle, .inputQ, .reed, .loomQ, .loom, .capt]
  | .c37ConfigFrame .. =>
    eventParts ++ [.draft, .stk, .queues, .hedQ, .heddle, .inputQ, .reed, .loomQ, .loom, .capt]
  | .load .. | .automaticBoot .. | .unload .. | .imageWrite .. | .opSecondsSave .. | .read .. | .verify .. | .scanStart ..
  | .pfwFall .. =>
    pathParts ++ [.bases, .draft, .stk, .freeCount, .time, .vote, .pair, .loom, .shuttle, .energy]
  | .archiveRetain .. =>
    eventParts ++ [.bases, .draft, .stk, .freeCount, .time, .vote, .pair, .loom, .shuttle, .energy]
  | .sessionPdu .. =>
    eventParts ++ [.draft, .stk, .queues, .hedQ, .heddle, .reedQ, .inputQ, .reed, .loomQ, .loom, .capt]
  | .svFrame .. =>
    eventParts ++ [.draft, .stk, .queues, .hedQ, .heddle, .waveQ, .inputQ, .reed, .loomQ, .loom, .capt]
  | .drainComplete .. | .monLedger .. =>
    pathParts ++ [.bases, .draft, .stk, .freeCount, .time, .vote, .pair, .loom, .shuttle, .energy, .host]
  | .streamEnable .. =>
    pathParts ++ [.draft, .stk, .freeCount, .queues, .port, .heddle, .inputQ, .reed, .loomQ, .loom, .capt]
  | .restore .. =>
    pathParts ++ [.bases, .draft, .stk, .freeCount, .time, .vote, .fault, .pair, .loom, .shuttle, .energy]
  | .perstN .. | .monLoad .. | .uartBlock .. | .uartTimeout .. | .surpriseLinkDown .. =>
    eventParts ++ [.bases, .draft, .stk, .freeCount, .time, .vote, .pair, .loom, .shuttle, .energy, .host]
  | .imageErase .. =>
    pathParts ++ [.bases, .draft, .archive, .stk, .freeCount, .time, .vote, .pair, .loom, .shuttle, .energy]
  | .crossFail .. | .configScan .. | .shadowScan .. | .heartbeatCell .. | .linkSilent .. | .nakCell .. | .retransmit ..
  | .retryFail .. | .slvLinkRestart .. | .linkHold .. | .droopLasting .. | .lockLost .. =>
    pathParts ++ [.bases, .draft, .stk, .freeCount, .time, .vote, .fault, .pair, .queues, .loom, .shuttle, .energy, .host]
  | .c37DataFrame .. =>
    eventParts ++ [.draft, .stk, .freeCount, .queues, .port, .hedQ, .heddle, .reedQ, .inputQ, .reed, .loomQ, .loom, .capt]
  | .relockDone .. =>
    pathParts ++ [.bases, .draft, .stk, .freeCount, .time, .vote, .fault, .pair, .queues, .loom, .shuttle, .energy, .clock, .host]
  | .recordWritten .. | .clear .. =>
    pathParts ++ [.bases, .draft, .archive, .stk, .freeCount, .time, .vote, .fault, .pair, .queues, .loom, .shuttle, .energy, .host]
  | .ckptArchive .. | .ckptSave .. =>
    pathParts ++ [.bases, .draft, .archive, .stk, .freeCount, .time, .vote, .fault, .pair, .queues, .loom, .shuttle, .osc, .energy, .host]
  | .warmReset .. | .wrstN .. | .monResetWarm .. =>
    pathParts ++ [.bases, .draft, .archive, .stk, .freeCount, .time, .vote, .fault, .pair, .queues, .loom, .capt, .shuttle, .energy, .host]
  | .energySave .. =>
    pathParts ++ [.bases, .draft, .archive, .stk, .freeCount, .time, .vote, .fault, .pair, .queues, .loom, .shuttle, .energy, .saves, .host]
  | .reedItem .. =>
    pathParts ++ [.bases, .draft, .stk, .freeCount, .time, .vote, .fault, .pair, .queues, .reedQ, .reed, .loomQ, .loom, .shuttle,
      .energy, .host]
  | .loomWrite .. =>
    pathParts ++ [.bases, .draft, .stk, .freeCount, .time, .vote, .fault, .pair, .queues, .inputQ, .loomQ, .loom, .capt, .shuttle,
      .energy, .host]
  | .flushDone .. =>
    pathParts ++ [.bases, .draft, .archive, .stk, .freeCount, .time, .vote, .fault, .pair, .queues, .loom, .capt, .shuttle, .energy,
      .saves, .host]
  | .retryComplete .. | .scrub .. | .inject .. =>
    pathParts ++ [.bases, .draft, .stk, .freeCount, .time, .vote, .fault, .pair, .queues, .reed, .loom, .capt, .shuttle, .osc, .isle,
      .energy, .host]
  | .closePipeline .. =>
    pathParts ++ [.bases, .draft, .archive, .stk, .freeCount, .time, .vote, .fault, .pair, .queues, .port, .inputQ, .loom, .capt,
      .shuttle, .osc, .isle, .energy, .host]
  | .stagingComplete .. | .switchSlot .. =>
    eventParts ++ [.bases, .draft, .stk, .freeCount, .time, .vote, .fault, .pair, .queues, .port, .hedQ, .heddle, .reedQ, .waveQ,
      .inputQ, .reed, .loomQ, .loom, .capt, .shuttle, .energy]
  | .registerWrite .. | .irqSet .. | .irqStatusWrite .. | .msixUnmask .. | .monWr .. | .monCmd .. | .monMode .. =>
    pathParts ++ [.bases, .draft, .archive, .stk, .freeCount, .time, .vote, .fault, .pair, .queues, .port, .heddle, .inputQ, .reed,
      .loomQ, .loom, .capt, .shuttle, .osc, .isle, .energy, .clock, .ageing, .host]
  | .loadDone .. | .loadFail .. | .cardLoaded .. | .patchAccepted .. =>
    pathParts ++ [.bases, .draft, .archive, .stk, .freeCount, .time, .vote, .fault, .pair, .queues, .port, .hedQ, .heddle, .reedQ,
      .waveQ, .inputQ, .reed, .loomQ, .loom, .capt, .shuttle, .osc, .isle, .energy, .saves, .host]
  | .powerOnReset .. =>
    pathParts ++ [.held, .boot, .bases, .snaps, .draft, .stk, .time, .vote, .fault, .pair, .queues, .port, .hedQ, .heddle, .reedQ,
      .waveQ, .inputQ, .reed, .loomQ, .loom, .capt, .shuttle, .osc, .isle, .energy, .clock, .host, .mono]
  | .warmDone .. | .domainWakeDone .. =>
    pathParts ++ [.bases, .snaps, .draft, .archive, .stk, .freeCount, .time, .vote, .fault, .pair, .queues, .port, .hedQ, .heddle,
      .reedQ, .waveQ, .inputQ, .reed, .loomQ, .loom, .capt, .shuttle, .osc, .isle, .energy, .clock, .ageing, .host]

end Sys2Proof
end

