-- ==== Sys2Proof/WellFormed.lean ====
section
/-!
DEFINITION. Sys2Proof/WellFormed.lean: which commands are well formed: every number of a unit lies in the range the spec gives the unit (R4 and
the unit's own chapter), and every byte string has the length its rule states.
-/

namespace Sys2Proof

/-- A number below a bound. -/
def below (n bound : Nat) : Bool := decide (n < bound)

/-- MONO is a 64-bit count of ns (R68). -/
def okTime (t : Nat) : Bool := below t (2 ^ 64)

/-- A Selvedge cell has 128 bytes (R315). -/
def okCell (bytes : List Byte) : Bool := bytes.length == 128

/-- Payload and its continuation in AUX: at most 24 bytes (R400). -/
def okPayload (payload : List Byte) : Bool := decide (payload.length ≤ 24)

/-- `rd` and `sr` take 1 to 64 words (R464). -/
def okCount (n : Nat) : Bool := decide (1 ≤ n ∧ n ≤ 64)

/-- `cmd` takes up to four arguments of 32 bits (R464). -/
def okArgs (args : List Nat) : Bool := decide (args.length ≤ 4) && args.all (fun a => below a (2 ^ 32))

/-- A UART block has 1,024 bytes (R460). -/
def okBlock (block : List Byte) : Bool := block.length == 1024

/-- The monitor's load sources: images A and B, QSPI, UART (R460). -/
def okSource (source : Nat) : Bool := decide (1 ≤ source ∧ source ≤ 4)

/-- A command is well formed. -/
def Instr.wf : Instr → Bool
  | .registerWrite t _ addr _ _ _ => okTime t && below addr (2 ^ 25)
  | .lowWordRead t addr _ => okTime t && below addr (2 ^ 25)
  | .irqSet t _ block _ => okTime t && below block 32
  | .irqStatusWrite t _ block _ _ => okTime t && below block 32
  | .msixUnmask t _ vector => okTime t && below vector 64
  | .load t _ => okTime t
  | .automaticBoot t => okTime t
  | .loadDone t _ _ => okTime t
  | .loadFail t _ _ _ => okTime t
  | .unload t _ => okTime t
  | .loadCard t _ => okTime t
  | .cardLoaded t _ _ => okTime t
  | .dropCard t _ => okTime t
  | .patch t _ => okTime t
  | .patchAccepted t _ _ => okTime t
  | .cancelPatch t _ => okTime t
  | .imageWrite t _ => okTime t
  | .imageErase t _ => okTime t
  | .imageDone t _ _ => okTime t
  | .cardLock t _ => okTime t
  | .requireSigned t _ => okTime t
  | .stagingComplete t => okTime t
  | .switchSlot t => okTime t
  | .warmReset t _ => okTime t
  | .wrstN t _ => okTime t
  | .warmDone t => okTime t
  | .requestM2 t _ => okTime t
  | .requestM3 t _ => okTime t
  | .requestM9 t _ => okTime t
  | .setHostOverload t _ => okTime t
  | .liftHostOverload t _ => okTime t
  | .powerOnReset t bootSel modid claimMode _ => okTime t && below bootSel 4 && below modid 2 && below claimMode 2
  | .timePllLock t => okTime t
  | .ptpMessage t port _ => okTime t && below port 8
  | .ptpTransmit t => okTime t
  | .sourceTimeout t source => okTime t && below source 16
  | .ppsEdge t _ => okTime t
  | .todSentence t _ _ => okTime t
  | .irigFrame t _ _ _ _ _ _ _ _ _ => okTime t
  | .crossFail t => okTime t
  | .crossAgree t => okTime t
  | .leapApplied t => okTime t
  | .ppsOEdge t => okTime t
  | .pulseEdge t n => okTime t && below n 4
  | .setGrid t _ => okTime t
  | .setTest t _ => okTime t
  | .pathAccept t _ => okTime t
  | .clearAsym t _ => okTime t
  | .setUtc t _ => okTime t
  | .pulseArm t _ => okTime t
  | .pulseDisarm t _ => okTime t
  | .frameReceived t port _ _ _ => okTime t && below port 8
  | .linkUp t port _ => okTime t && below port 8
  | .linkDown t port _ _ => okTime t && below port 8
  | .prpSupervision t pair => okTime t && below pair 4
  | .prpForget t pair mac => okTime t && below pair 4 && below mac (2 ^ 48)
  | .hostFrameSend t => okTime t
  | .mcastWrite t _ => okTime t
  | .mcastClear t _ => okTime t
  | .linkRestart t _ => okTime t
  | .prpFlush t _ => okTime t
  | .c37DataFrame t => okTime t
  | .c37ConfigFrame t => okTime t
  | .c37HeaderFrame t => okTime t
  | .c37CommandFrame t => okTime t
  | .sessionPdu t => okTime t
  | .svFrame t => okTime t
  | .gooseMessage t => okTime t
  | .injectedFrame t => okTime t
  | .silenceTimeout t sid => okTime t && below sid 8192
  | .gooseTalExpired t entry => okTime t && below entry 512
  | .dataOnRetry t sid => okTime t && below sid 8192
  | .streamState t _ => okTime t
  | .streamEnable t _ => okTime t
  | .requestCfg t _ => okTime t
  | .keyLoad t _ => okTime t
  | .keyInvalidate t _ => okTime t
  | .reedItem t _ => okTime t
  | .waveformSample t => okTime t
  | .threadState t _ => okTime t
  | .estState t _ => okTime t
  | .bankInfo t _ => okTime t
  | .slotInstant t lattice => okTime t && below lattice 4
  | .loomWrite t _ => okTime t
  | .setDeadline t lattice => okTime t && below lattice 4
  | .closePipeline t _ _ => okTime t
  | .learnedRefresh t => okTime t
  | .overloadSet t _ => okTime t
  | .overloadClear t _ => okTime t
  | .readValue t _ => okTime t
  | .quantile t _ => okTime t
  | .histReset t _ => okTime t
  | .weft t _ => okTime t
  | .closeNow t _ => okTime t
  | .trackerStale t tracker => okTime t && below tracker 4096
  | .ckptArchive t _ => okTime t
  | .shapeReport t job => okTime t && below job 64
  | .trackerRead t _ => okTime t
  | .spectrumRead t _ => okTime t
  | .trackerReset t _ => okTime t
  | .ckptSave t _ => okTime t
  | .scTimeout t => okTime t
  | .areaRead t _ => okTime t
  | .scStart t _ => okTime t
  | .scStop t _ => okTime t
  | .tieForce t _ => okTime t
  | .gooseRepeat t cb => okTime t && below cb 32
  | .pinMismatch t pin _ => okTime t && below pin 9
  | .pointRead t _ => okTime t
  | .resetLatch t _ => okTime t
  | .pinTest t _ => okTime t
  | .pinTestEnd t => okTime t
  | .laneResync t _ => okTime t
  | .retryComplete t cls element' _ _ _ => okTime t && below cls 16 && below element' 65536
  | .configScan t element' _ => okTime t && below element' 65536
  | .shadowScan t _ => okTime t
  | .scrub t _ _ => okTime t
  | .restored t element' => okTime t && below element' 65536
  | .holdExpired t => okTime t
  | .elementRead t _ => okTime t
  | .inject t _ => okTime t
  | .restore t _ => okTime t
  | .holdRelease t _ => okTime t
  | .countersClear t _ => okTime t
  | .partnerClaim t lane claim => okTime t && below lane 3 && below claim 16
  | .partnerLost t => okTime t
  | .claimRaise t => okTime t
  | .intlkPull t _ => okTime t
  | .helloSend t => okTime t
  | .mirrorHello t _ => okTime t
  | .intentSend t os => okTime t && below os 64
  | .mirrorIntent t _ => okTime t
  | .mirrorLatch t _ => okTime t
  | .mirrorGoose t _ => okTime t
  | .mirrorEnergy t _ => okTime t
  | .mirrorLedger t _ => okTime t
  | .mirrorCkpt t _ => okTime t
  | .mirrorCapt t _ => okTime t
  | .mirrorFull t _ => okTime t
  | .energyMirrorSend t => okTime t
  | .ckptMirrorSend t => okTime t
  | .yield t _ => okTime t
  | .yieldApplied t => okTime t
  | .reclaim t _ => okTime t
  | .mirrorSync t _ => okTime t
  | .trainCell t link bytes => okTime t && below link 4 && okCell bytes
  | .heartbeatCell t link bytes => okTime t && below link 4 && okCell bytes
  | .heartbeatSend t link => okTime t && below link 4
  | .linkSilent t link => okTime t && below link 4
  | .nakCell t link bytes => okTime t && below link 4 && okCell bytes
  | .retransmit t link => okTime t && below link 4
  | .retryFail t link => okTime t && below link 4
  | .autoRestart t link => okTime t && below link 4
  | .bringupRetry t link => okTime t && below link 4
  | .cellTransmit t link => okTime t && below link 4
  | .slotHeadCell t link bytes => okTime t && below link 4 && okCell bytes
  | .slotDataCell t link bytes => okTime t && below link 4 && okCell bytes
  | .truncationTimeout t origin lattice => okTime t && below origin 65536 && below lattice 4
  | .armCell t link bytes => okTime t && below link 4 && okCell bytes
  | .fireCell t link bytes => okTime t && below link 4 && okCell bytes
  | .slvLinkRestart t _ => okTime t
  | .linkHold t _ => okTime t
  | .originRead t _ => okTime t
  | .composeStart t os => okTime t && below os 64
  | .launch t os => okTime t && below os 64
  | .lateLaunch t os => okTime t && below os 64
  | .shuttleStreamEnable t _ => okTime t
  | .cfgFetch t _ => okTime t
  | .cmdSend t _ => okTime t
  | .d2hCopy t q _ => okTime t && below q 32
  | .doorbell t _ q value => okTime t && below q 32 && below value (2 ^ 32)
  | .h2dFetch t q kind _ _ => okTime t && below q 32 && below kind 256
  | .moderationTimeout t q => okTime t && below q 32
  | .queueFlush t _ q => okTime t && below q 32
  | .queueStart t _ => okTime t
  | .queueStop t _ => okTime t
  | .inputChange t => okTime t
  | .waveWaitEnd t region => okTime t && below region 16
  | .rearmDone t region => okTime t && below region 16
  | .arm t _ => okTime t
  | .disarm t _ => okTime t
  | .fire t _ => okTime t
  | .trigSet t _ => okTime t
  | .recordLock t _ => okTime t
  | .recordUnlock t _ => okTime t
  | .energySave t _ => okTime t
  | .epulsePhase t output => okTime t && below output 4
  | .intervalRead t _ => okTime t
  | .peakReset t _ => okTime t
  | .ledgerEvent t code source payload => okTime t && below code 65536 && below source 65536 && okPayload payload
  | .coalesceClose t => okTime t
  | .recordWritten t _ => okTime t
  | .opSecondsSave t => okTime t
  | .read t _ => okTime t
  | .ack t _ => okTime t
  | .ledgerFlush t _ => okTime t
  | .verify t _ => okTime t
  | .nonce t _ => okTime t
  | .nonceExpiry t => okTime t
  | .clear t _ => okTime t
  | .clearDone t => okTime t
  | .keySet t _ => okTime t
  | .keyChange t _ => okTime t
  | .scanStart t _ => okTime t
  | .scanStop t _ _ => okTime t
  | .scanDone t engine _ => okTime t && below engine 4
  | .domainSet t _ => okTime t
  | .drainComplete t => okTime t
  | .drainTimeout t _ => okTime t
  | .domainWakeDone t domain _ => okTime t && below domain 16
  | .archiveRetain t => okTime t
  | .droop t supply _ => okTime t && below supply 7
  | .droopLasting t supply => okTime t && below supply 7
  | .pfwNChange t _ => okTime t
  | .pfwFall t => okTime t
  | .flushDone t _ => okTime t
  | .pfwRecovered t => okTime t
  | .clockLoss t island _ => okTime t && below island 16
  | .relockDone t island _ => okTime t && below island 16
  | .canaryError t island canary _ => okTime t && below island 16 && below canary 3
  | .hourlyReplan t _ => okTime t
  | .replanMeasure t _ => okTime t
  | .avsCheck t _ _ => okTime t
  | .ageForecast t => okTime t
  | .replan t _ _ => okTime t
  | .avsSet t _ => okTime t
  | .perstN t _ _ _ => okTime t
  | .pcieLinkUp t speed width _ => okTime t && below speed 4 && below width 5
  | .dState t _ => okTime t
  | .bar2Read t addr len _ => okTime t && below addr (2 ^ 34) && below len 513
  | .bar2Write t addr _ => okTime t && below addr (2 ^ 34)
  | .masterReclaim t => okTime t
  | .monHelp t => okTime t
  | .monId t => okTime t
  | .monRd t addr n => okTime t && below addr (2 ^ 25) && okCount n
  | .monSr t addr n _ => okTime t && below addr (2 ^ 34) && okCount n
  | .monWr t addr value _ => okTime t && below addr (2 ^ 25) && below value (2 ^ 32)
  | .monCmd t block opcode args _ => okTime t && below block 32 && below opcode 256 && okArgs args
  | .monMode t _ => okTime t
  | .monLedger t _ _ => okTime t
  | .monFault t => okTime t
  | .monLoad t source kind _ => okTime t && below kind 3 && okSource source
  | .monResetWarm t => okTime t
  | .monTake t => okTime t
  | .monGive t => okTime t
  | .monBaud t _ => okTime t
  | .monLineDiscard t _ => okTime t
  | .baudChange t => okTime t
  | .baudRevert t => okTime t
  | .uartBlock t block crc => okTime t && below crc (2 ^ 32) && okBlock block
  | .uartTimeout t => okTime t
  | .readOnly t _ => okTime t
  | .bypass t => okTime t
  | .idcode t => okTime t
  | .samplePreload t value => okTime t && below value (2 ^ 20)
  | .extest t value => okTime t && below value (2 ^ 20)
  | .highz t => okTime t
  | .clamp t => okTime t
  | .claimStrobeEdge t => okTime t
  | .internalReset t => okTime t
  | .surpriseLinkDown t _ _ => okTime t
  | .blockLock t link => okTime t && below link 4
  | .lockLost t link => okTime t && below link 4
  | .badCell t link => okTime t && below link 4

end Sys2Proof
end

