-- ==== Sys2Proof/Certificates/Slice0/Obligations.lean ====
section
/-!
DEFINITION. Sys2Proof/Certificates/Slice0/Obligations.lean: what is claimed of the model: the rules of the whole machine, then for each
unit where its commands complete and what they leave.
-/

open Sys2Proof Sys2Proof.Machine

/-- One step takes the command at the front of the queue and is exec of it on the state with the queue's rest; on an empty queue the module
idles, which is the model's choice (log 1). -/
def Obligations.StepRunsTheFrontCommand : Prop :=
  (∀ (s : State) (c : Instr) (rest : List Instr), s.pending = c :: rest → step s = exec c (s.setPending rest)) ∧
    ∀ s : State, s.pending = [] → step s = .next s

/-- Outside internal reset every command but the power-on reset answers a next state; every part of the state that the command may not
write (Instr.writes) is in it as in the state that only time has reached: registers, memories, the ledger, the interrupt causes, the queues,
each unit's own state, and MONO. -/
def Obligations.EveryCommandKeepsTheOtherParts : Prop :=
  ∀ (i : Instr) (s : State), s.held = false → i.isPowerOn = false →
    Answers (exec i s) fun u => ∀ p : Part, p ∉ i.writes → p.same (s.at i.time) u

/-- A module in internal reset, with no power-on reset waiting, is so again after every step (R425, R426), whatever waits. -/
def Obligations.InternalResetIsKept : Prop := ∀ s u : State, s.InReset → step s = .next u → u.InReset

/-- From every state whose Archive and Stacks are in canonical form (addresses rising, no entry at the value an unlisted address reads as),
every step, whatever the command, leaves them so: equal memories stay equal data. -/
def Obligations.MemoriesStayCanonical : Prop := ∀ s u : State, s.MemoryOk → step s = .next u → u.MemoryOk

/-- At reset every register reads as the register map resets it, no command waits, both memories are canonical and hold nothing written, the
mode is M0, HOST holds mastership and every header command register shows DONE. -/
def Obligations.ResetState : Prop :=
  (∀ a, State.reset.reg a = RegMap.resetValue a) ∧ State.reset.pending = [] ∧ State.reset.MemoryOk ∧
    (∀ a, smGet (archiveDefault a) State.reset.archive a = 0xFF ∧ smGet (ramDefault a) State.reset.stk a = 0) ∧
    State.reset.mode = 0 ∧ State.reset.master .host = true ∧
    ∀ b : Nat, b < 16 → State.reset.regN (hdr b 0x54) = 2 ^ 31

/-- No command but the power-on reset moves MONO backward or past the command's time, and while PD_TIME is ON MONO stands at that time
afterwards unless it was past it (R68, R70; the time of a command is the model's, log 1). -/
def Obligations.MonoNeverMovesBackward : Prop :=
  ∀ (i : Instr) (s u : State), i.isPowerOn = false → s.held = false → exec i s = .next u →
    s.bases.mono ≤ u.bases.mono ∧ u.bases.mono ≤ max s.bases.mono i.time ∧
      (s.domain pdTime = 0 → u.bases.mono = max s.bases.mono i.time)

/-- The straps sampled at the release of PORST_N and the key hashes of one-time memory are the same after every command but the power-on
reset (R10). -/
def Obligations.StrapsAndFusesStay : Prop :=
  ∀ (i : Instr) (s u : State), i.isPowerOn = false → exec i s = .next u → u.boot = s.boot ∧ u.keyHashes = s.keyHashes

/-- A register write by the path that does not hold mastership is ignored: the block's REJECT_ADDR takes the path and the offset, its
REJECT_COUNT goes up by one, the host error registers show the address and the cause NOT_MASTER, and no other register, no memory, no unit's
state changes (R457). -/
def Obligations.WriteWithoutMastershipIsRejected : Prop :=
  ∀ (s : State) (t : Nat) (path : Path) (addr : Nat) (value : Word) (x : CmdInput), addr < 2 ^ 25 → addr / 2 ^ 20 < 16 →
    s.held = false → s.deaf path = false → s.regState addr = 0 → s.mayWrite path addr = false →
    Answers (exec (.registerWrite t path addr value true x) s) fun u =>
      u.regN (hdr (addr / 2 ^ 20) 0x80) = 2 ^ 31 * path.code + addr % 2 ^ 20 ∧
      u.regN (hdr (addr / 2 ^ 20) 0x84) = (s.regN (hdr (addr / 2 ^ 20) 0x84) + 1) % 2 ^ 32 ∧
      u.regN R.HOST_ERR_ADDR_LO = addr ∧ u.regN R.HOST_ERR_CAUSE = 2 ^ 8 * path.code + 4 ∧
      u.regN R.HOST_NOT_MASTER = (s.regN R.HOST_NOT_MASTER + 1) % 2 ^ 32 ∧
      SameRegs s u ([hdr (addr / 2 ^ 20) 0x80, hdr (addr / 2 ^ 20) 0x84, R.HOST_ERR_ADDR_LO, R.HOST_ERR_ADDR_LO + 4, R.HOST_ERR_CAUSE,
        R.HOST_NOT_MASTER] ++ eventRegs) ∧
      ∀ p : Part, p ∉ eventParts → p.same (s.at t) u

/-- A write of GO to a block whose CMD_STATUS.DONE is 0 is rejected: REJECT_ADDR and REJECT_COUNT record it, and the command under way, its
arguments and its results stay (R473). -/
def Obligations.GoWhileBusyIsRejected : Prop :=
  ∀ (s : State) (t : Nat) (path : Path) (b op : Nat) (x : CmdInput), b < 16 → op < 256 → s.Reaches path (hdr b 0x40) →
    bits (s.regN (hdr b 0x54)) 31 31 = 0 →
    Answers (exec (.registerWrite t path (hdr b 0x40) (BitVec.ofNat 32 (goWord op)) true x) s) fun u =>
      u.regN (hdr b 0x80) = 2 ^ 31 * path.code + 0x40 ∧ u.regN (hdr b 0x84) = (s.regN (hdr b 0x84) + 1) % 2 ^ 32 ∧
      SameRegs s u ([hdr b 0x80, hdr b 0x84] ++ noteRegs)

/-- A write by the path that holds mastership to a register whose domain is in RETAIN or OFF is not lost: it is kept with its address and its
value, and the domain's wake begins (R434). One to a register whose domain is ABSENT changes no register but the host error registers and counts
in POWER_ABSENT_ACCESS. -/
def Obligations.WriteToADomainThatIsNotOn : Prop :=
  ∀ (s : State) (t : Nat) (path : Path) (addr : Nat) (value : Word) (x : CmdInput), addr < 2 ^ 25 → s.held = false →
    s.deaf path = false →
    ((s.regState addr = 1 ∨ s.regState addr = 2) → s.mayWrite path addr = true →
      Answers (exec (.registerWrite t path addr value true x) s) fun u =>
        u.power.stalled = s.power.stalled ++ [{ domain := regDomain addr, path := path, addr := addr, write := some value.toNat, x := x }] ∧
        (regDomain addr ≠ pdCtrl → (smFind u.power.waking (regDomain addr)).isSome = true)) ∧
    (s.regState addr = 3 →
      Answers (exec (.registerWrite t path addr value true x) s) fun u =>
        u.regN R.POWER_ABSENT_ACCESS = (s.regN R.POWER_ABSENT_ACCESS + 1) % 2 ^ 32 ∧ u.regN R.HOST_ERR_ADDR_LO = addr ∧
        u.regN R.HOST_ERR_CAUSE = 2 ^ 8 * path.code ∧
        SameRegs s u ([R.POWER_ABSENT_ACCESS, R.HOST_ERR_ADDR_LO, R.HOST_ERR_ADDR_LO + 4, R.HOST_ERR_CAUSE] ++ eventRegs))

/-- R6. A read of the low word of a 64-bit value answers it and keeps the high word of that moment; the next read of the high word answers
what was kept, whatever the high word is by then, and takes the snapshot away. -/
def Obligations.LowWordReadSnapshotsTheHighWord : Prop :=
  (∀ addr, addr < 2 ^ 25 → highWords addr = [addr + 4] → Happens (.lowWordRead · addr true)
    (fun w => w.deaf .host = false ∧ w.regState addr = 0 ∧ w.defined addr = true)
    (fun w u => u.out = .readData (leBytes 4 (w.readWord addr)) :: w.out ∧
      smFind u.snaps (snapKey .host (addr + 4)) = some (BitVec.ofNat 32 (w.readWord (addr + 4))) ∧ SameRegs w u [])) ∧
  (∀ addr v, addr < 2 ^ 25 → highWords addr = [] → Happens (.lowWordRead · addr true)
    (fun w => w.deaf .host = false ∧ w.regState addr = 0 ∧ w.defined addr = true ∧ smFind w.snaps (snapKey .host addr) = some v)
    (fun w u => u.out = .readData (leBytes 4 v.toNat) :: w.out ∧ smFind u.snaps (snapKey .host addr) = none ∧ SameRegs w u []))

/-- R8. A write of a register of fields, by the path with mastership, ignores RO fields, takes RW and WO fields, clears W1C and sets W1S bits
written with 1, and leaves an RWL field of a locked mode unchanged; if it would have changed one, REJECT_ADDR and REJECT_COUNT record the
write once, while its other fields take effect. A WO field reads 0. A write of a value outside the range stated for a field changes no register
but the record of its rejection, which is the model's reading of R473's fourth case (log 46). The registers whose write is an action of its own
(CMD, the interrupt and mask registers, the mode request, mastership, READ_ONLY, the claim, the queues) are not meant here; a write of the
sources' priorities, of TIME_CTRL or of a port's configuration acts on the servo or the link beside the fields. -/
def Obligations.WritesFollowTheAccessCodes : Prop :=
  ∀ (s : State) (t : Nat) (addr : Nat) (value : Word) (x : CmdInput) (r : RegRow), regRow addr = some r → s.Reaches .host addr →
    s.defined addr = true → (s.windowWord (addr / 2 ^ 20) (addr % 2 ^ 20)).isSome = false → blockHeader (addr / 2 ^ 20) = true →
    addr / 2 ^ 20 ≠ 12 → addr % 2 ^ 20 ∉ [0x10, 0x14, 0x18, 0x40] →
    addr ∉ [R.GLOBAL_MODE_REQ, R.HOST_MASTER, R.MONITOR_CTRL, R.PAIR_CLAIM, R.PAIR_DEGRADE, R.VOTE_CTRL] →
    ¬(R.HOST_MSIXn_CTRL 0 ≤ addr ∧ addr < R.HOST_MSIXn_CTRL 64 ∧ addr % 16 = 12) →
    addr % 2 ^ 20 ∉ [0x80, 0x84] →
    (outOfRange addr value.toNat = true →
      Answers (exec (.registerWrite t .host addr value true x) s) fun u =>
        u.regN (hdr (addr / 2 ^ 20) 0x80) = addr % 2 ^ 20 ∧
          u.regN (hdr (addr / 2 ^ 20) 0x84) = (s.regN (hdr (addr / 2 ^ 20) 0x84) + 1) % 2 ^ 32 ∧
          SameRegs (s.at t) u [hdr (addr / 2 ^ 20) 0x80, hdr (addr / 2 ^ 20) 0x84]) ∧
    (outOfRange addr value.toNat = false →
    Answers (exec (.registerWrite t .host addr value true x) s) fun u =>
      (∀ f ∈ r.fields, bits (u.regN addr) f.hi f.lo =
        match f.access with
        | .ro => bits (s.regN addr) f.hi f.lo
        | .rw => bits value.toNat f.hi f.lo
        | .wo => bits value.toNat f.hi f.lo
        | .w1c => bits (s.regN addr) f.hi f.lo - (bits (s.regN addr) f.hi f.lo &&& bits value.toNat f.hi f.lo)
        | .w1s => bits (s.regN addr) f.hi f.lo ||| bits value.toNat f.hi f.lo
        | .rwl => if f.lock.locked s.mode then bits (s.regN addr) f.hi f.lo else bits value.toNat f.hi f.lo) ∧
      (if r.fields.any fun f => f.access = .rwl && f.lock.locked s.mode && bits value.toNat f.hi f.lo != bits (s.regN addr) f.hi f.lo then
          u.regN (hdr (addr / 2 ^ 20) 0x80) = addr % 2 ^ 20 ∧
            u.regN (hdr (addr / 2 ^ 20) 0x84) = (s.regN (hdr (addr / 2 ^ 20) 0x84) + 1) % 2 ^ 32
        else u.regN (hdr (addr / 2 ^ 20) 0x84) = s.regN (hdr (addr / 2 ^ 20) 0x84)) ∧
      (addr ∉ [R.TIME_SOURCE_PRIO, R.TIME_CTRL] ++ (List.range 8).map R.PORT_CFG →
        SameRegs (s.at t) u [addr, hdr (addr / 2 ^ 20) 0x80, hdr (addr / 2 ^ 20) 0x84]) ∧
      ∀ f ∈ r.fields, f.access = .wo → bits (r.readable (u.regN addr)) f.hi f.lo = 0)

/-- A power-on reset (R10, R405, R425, R445, R458) runs from every state, internal reset among them: the module is out of internal reset in M0
with MONO at 0, the straps are sampled and decide who holds mastership, the Archive is kept and the Stacks are not, no draft is held, the
power cycles advance, and every register but those that name a source of their own reads as the register map resets it. -/
def Obligations.PowerOnResetRestarts : Prop :=
  ∀ (s : State) (t bootSel modid claimMode : Nat), bootSel < 4 → modid < 2 → claimMode < 2 →
    Answers (exec (.powerOnReset t bootSel modid claimMode false) s) fun u =>
      u.held = false ∧ u.mode = 0 ∧ u.bases = {} ∧ u.boot = (bootSel, modid, claimMode) ∧ u.pending = s.pending ∧
      u.fld F.HOST_MASTER_OWNER = (if bootSel = 3 then 1 else 0) ∧ u.fld F.PAIR_STATUS_MODID = modid ∧
      u.archive = s.archive ∧ u.stk = [] ∧ u.draft = {} ∧ u.keyHashes = s.keyHashes ∧
      u.ledger.powerCycles = (s.ledger.savedCycles + 1) % 2 ^ 24 ∧ u.ledger.written = s.ledger.written ∧ u.ledger.key = s.ledger.key ∧
      u.power.boot = (bootSel == 1 || bootSel == 2) ∧ u.regN R.DRAFT_IMAGES = s.regN R.DRAFT_IMAGES ∧
      ∀ a, a ∉ [R.DRAFT_KEYS, R.DRAFT_IMAGES, R.PAIR_STATUS, R.HOST_MASTER, R.CLOCK_AVS_WRITES] ++ eventRegs →
        u.reg a = RegMap.resetValue a

/-- The register space (R5, R452, R455, R457, R472): a write by the path with mastership lands in its register, a read answers the word it
finds; IRQ_SET sets causes as hardware would, a write of IRQ_STATUS clears causes and one of IRQ_ENABLE enables them, each signalling its
vector while a cause is pending; unmasking a vector signals what waited. -/
def Obligations.RegisterAccessHappens : Prop :=
  (∀ b k v path x, b < 16 ∧ k < 4 → Happens (.registerWrite · path (hdr b (0x44 + 4 * k)) v true x)
    (fun w => w.Reaches path (hdr b (0x44 + 4 * k)))
    (fun w u => u.regN (hdr b (0x44 + 4 * k)) = v.toNat ∧ u.archive = w.archive ∧ u.stk = w.stk ∧
      SameRegs w u (hdr b (0x44 + 4 * k) :: noteRegs))) ∧
  (∀ addr v x, addr < 2 ^ 25 → Happens (.registerWrite · .host addr v false x) (fun w => w.deaf .host = false)
    (fun w u => u.pairAt R.HOST_ERR_ADDR_LO = addr ∧ u.regN R.HOST_ERR_CAUSE = 1 ∧
      u.regN R.HOST_BAD_ACCESS = (w.regN R.HOST_BAD_ACCESS + 1) % 2 ^ 32 ∧
      SameRegs w u ([R.HOST_ERR_ADDR_LO, R.HOST_ERR_ADDR_LO + 4, R.HOST_ERR_CAUSE, R.HOST_BAD_ACCESS] ++ eventRegs))) ∧
  (∀ addr, addr < 2 ^ 25 ∧ highWords addr = [] → Happens (.lowWordRead · addr true)
    (fun w => w.deaf .host = false ∧ w.regState addr = 0 ∧ w.defined addr = true ∧ smFind w.snaps (snapKey .host addr) = none)
    (fun w u => u.out = .readData (leBytes 4 (w.readWord addr)) :: w.out ∧ u.snaps = w.snaps ∧ SameRegs w u [])) ∧
  (∀ b v, blockHeader b = true → Happens (.irqSet · .host b v) (fun w => w.Reaches .host (hdr b 0x18))
    (fun w u => (u.irqOf b).status = ((w.irqOf b).status ||| (v &&& BitVec.ofNat 32 (definedCauses b))) ∧
      (u.irqOf b).enable = (w.irqOf b).enable ∧
      (u.irqOf b).count.toNat = ((w.irqOf b).count.toNat +
        ((List.range 32).filter fun i => v.getLsbD i && bit (definedCauses b) i).length) % 2 ^ 32 ∧
      ((w.irqOf b).pending = false ∧ (u.irqOf b).pending = true → w.isSet (F.HOST_MSIXn_CTRL_MASK b) = false → Output.msix b ∈ u.out) ∧
      SameRegs w u [R.HOST_PBAn 0])) ∧
  (∀ b v, blockHeader b = true → Happens (.irqStatusWrite · .host b false v) (fun w => w.Reaches .host (hdr b 0x10))
    (fun w u => u.irqOf b = { w.irqOf b with status := (w.irqOf b).status &&& ~~~(v &&& BitVec.ofNat 32 (definedCauses b)) } ∧
      ((u.irqOf b).pending = true → if w.isSet (F.HOST_MSIXn_CTRL_MASK b) then bit (u.regN (R.HOST_PBAn 0)) b = true
        else u.out = .msix b :: w.out) ∧ ((u.irqOf b).pending = false → u.out = w.out) ∧ SameRegs w u [R.HOST_PBAn 0])) ∧
  (∀ b v, blockHeader b = true → Happens (.irqStatusWrite · .host b true v) (fun w => w.Reaches .host (hdr b 0x14))
    (fun w u => u.irqOf b = { w.irqOf b with enable := v &&& BitVec.ofNat 32 (definedCauses b) } ∧
      ((u.irqOf b).pending = true → if w.isSet (F.HOST_MSIXn_CTRL_MASK b) then bit (u.regN (R.HOST_PBAn 0)) b = true
        else u.out = .msix b :: w.out) ∧ ((u.irqOf b).pending = false → u.out = w.out) ∧ SameRegs w u [R.HOST_PBAn 0])) ∧
  (∀ n, n < 64 → Happens (.msixUnmask · .host n) (fun w => w.Reaches .host (R.HOST_MSIXn_CTRL n))
    (fun w u => u.isSet (F.HOST_MSIXn_CTRL_MASK n) = false ∧ bit (u.regN (R.HOST_PBAn (n / 32))) (n % 32) = false ∧
      u.out = (if bit (w.regN (R.HOST_PBAn (n / 32))) (n % 32) then [.msix n] else []) ++ w.out ∧
      SameRegs w u [R.HOST_MSIXn_CTRL n, R.HOST_PBAn (n / 32)]))

/-- Requests (R53, R55, R475, R476): a mode request that is accepted shows its code, its path and OK in GLOBAL_MODE_REQ_STATUS, counts, and
decides the switch to its mode at the first slot instant its card can be staged for; the host overload condition is set and lifted; a warm
reset begins, or waits for the end of the flush; a domain drains or wakes. -/
def Obligations.RequestsHappen : Prop :=
  (∀ path, Happens (.requestM2 · path)
    (fun w => w.Reaches path R.GLOBAL_MODE_REQ ∧ 3 ≤ w.mode ∧ w.mode ≤ 9 ∧ w.draft.switch = none)
    (fun w u => u.draft.switch = some ⟨2, w.boundCard 2, firstSlotAt (w.rate 0) (w.now + w.stageFor (w.boundCard 2)),
        w.bases.mono + w.stageFor (w.boundCard 2)⟩ ∧
      u.mode = w.mode ∧ u.regN R.GLOBAL_MODE_REQ_STATUS = 2 ^ 31 + 2 ^ 12 * path.code + 2 ^ 8 * 2 ∧
      u.regN R.GLOBAL_MODE_REQUESTS = (w.regN R.GLOBAL_MODE_REQUESTS + 1) % 2 ^ 32 ∧ u.isSet F.DRAFT_SWITCH_STATUS_PENDING = true)) ∧
  (∀ path, Happens (.requestM3 · path)
    (fun w => w.Reaches path R.GLOBAL_MODE_REQ ∧ w.mode = 2 ∧ w.draft.switch = none ∧ w.asleep = [] ∧ w.power.drain = none ∧
      w.isSet F.FAULT_STATUS_LASTING_ACTIVE = false ∧ (w.isSet F.TIME_STATUS_EVER_LOCKED = true ∨ w.freeStart = true))
    (fun w u => u.draft.switch.map (fun x => (x.target, x.card)) =
        some (serviceMode (w.regN R.DRAFT_MODE_COND), w.boundCard (serviceMode (w.regN R.DRAFT_MODE_COND))) ∧
      u.mode = w.mode ∧ u.regN R.GLOBAL_MODE_REQ_STATUS = 2 ^ 31 + 2 ^ 12 * path.code + 2 ^ 8 * 3 ∧
      u.regN R.GLOBAL_MODE_REQUESTS = (w.regN R.GLOBAL_MODE_REQUESTS + 1) % 2 ^ 32)) ∧
  (∀ path, Happens (.requestM9 · path)
    (fun w => w.Reaches path R.GLOBAL_MODE_REQ ∧ w.mode = 2 ∧ w.draft.switch = none ∧ w.asleep = [] ∧ w.power.drain = none)
    (fun w u => u.draft.switch.map (fun x => (x.target, x.card)) = some (9, w.boundCard 9) ∧ u.mode = w.mode ∧
      u.regN R.GLOBAL_MODE_REQ_STATUS = 2 ^ 31 + 2 ^ 12 * path.code + 2 ^ 8 * 9 ∧
      u.regN R.GLOBAL_MODE_REQUESTS = (w.regN R.GLOBAL_MODE_REQUESTS + 1) % 2 ^ 32)) ∧
  (∀ path, Happens (.requestM9 · path)
    (fun w => w.Reaches path R.GLOBAL_MODE_REQ ∧ w.mode = 2 ∧ w.changing = false ∧ w.asleep ≠ [])
    (fun w u => u.power.request = some (9, path) ∧ (∀ d ∈ w.asleep, (smFind u.power.waking d).isSome = true) ∧ u.mode = 2 ∧
      u.draft.switch = none ∧ u.regN R.GLOBAL_MODE_REQ_STATUS = 2 ^ 31 + 2 ^ 12 * path.code + 2 ^ 8 * 9)) ∧
  (∀ path, Happens (.requestM9 · path)
    (fun w => w.Reaches path R.GLOBAL_MODE_REQ ∧ 3 ≤ w.mode ∧ w.mode ≤ 8 ∧ w.draft.switch = none)
    (fun w u => u.regN R.GLOBAL_MODE_REQ_STATUS = 2 ^ 31 + 2 ^ 12 * path.code + 2 ^ 8 * 9 + 2 ∧ u.draft = w.draft ∧
      u.regN R.GLOBAL_MODE_REFUSED = (w.regN R.GLOBAL_MODE_REFUSED + 1) % 2 ^ 32 ∧ u.irqOf 0 ≠ w.irqOf 0 ∧
      SameRegs w u ([R.GLOBAL_MODE_REQ_STATUS, R.GLOBAL_MODE_REQUESTS, R.GLOBAL_MODE_REFUSED] ++ noteRegs))) ∧
  (∀ path, Happens (.setHostOverload · path)
    (fun w => w.Reaches path R.GLOBAL_MODE_REQ ∧ 2 ≤ w.mode ∧ w.isSet F.DRAFT_MODE_COND_OVERLOAD_HOST = false)
    (fun _ u => u.isSet F.DRAFT_MODE_COND_OVERLOAD_HOST = true ∧ bit (u.regN R.DRAFT_MODE_COND) 3 = true ∧
      u.regN R.GLOBAL_MODE_REQ_STATUS = 2 ^ 31 + 2 ^ 12 * path.code + 2 ^ 8 * 8)) ∧
  (∀ path, Happens (.liftHostOverload · path)
    (fun w => w.Reaches path R.GLOBAL_MODE_REQ ∧ 2 ≤ w.mode ∧ w.isSet F.DRAFT_MODE_COND_OVERLOAD_HOST = true)
    (fun w u => u.isSet F.DRAFT_MODE_COND_OVERLOAD_HOST = false ∧
      bit (u.regN R.DRAFT_MODE_COND) 3 = w.isSet F.LOOM_STATUS_OVERLOAD ∧
      u.regN R.GLOBAL_MODE_REQ_STATUS = 2 ^ 31 + 2 ^ 12 * path.code + 2 ^ 8 * 14)) ∧
  Completes 0 1 .warmReset (fun w => w.arg 0 0 = 0x57525354 ∧ w.isSet F.POWER_STATUS_FLUSHING = false)
    (fun w u => u.power.warmAt = some w.bases.mono ∧ u.regN R.GLOBAL_WARM_RESETS = (w.regN R.GLOBAL_WARM_RESETS + 1) % 2 ^ 32 ∧
      u.isSet F.PAIR_STATUS_YIELD = false ∧ u.isSet F.MONITOR_STATUS_LOADING = false ∧ u.power.waking = []) ∧
  Completes 0 1 .warmReset (fun w => w.arg 0 0 = 0x57525354 ∧ w.isSet F.POWER_STATUS_FLUSHING = true)
    (fun w u => u.power.warmHeld.isSome = true ∧ u.power.warmAt = w.power.warmAt ∧ u.draft = w.draft ∧ SameRegs w u (cmdRegs 0)) ∧
  Completes 26 1 .domainSet
    (fun w => w.arg 26 0 ≤ 15 ∧ w.arg 26 0 ≠ pdStacks ∧ w.arg 26 1 = 0 ∧ (w.domain (w.arg 26 0) = 1 ∨ w.domain (w.arg 26 0) = 2) ∧
      smFind w.power.waking (w.arg 26 0) = none)
    (fun w u => smFind u.power.waking (w.arg 26 0) = some (w.bases.mono, 0) ∧ u.regN R.POWER_DOMAIN_STATE = w.regN R.POWER_DOMAIN_STATE ∧
      SameRegs w u (cmdRegs 26)) ∧
  Starts 26 1 .domainSet
    (fun w => 2 ≤ w.arg 26 0 ∧ w.arg 26 0 ≤ 14 ∧ w.arg 26 0 ≠ pdStacks ∧ (w.arg 26 1 = 1 ∨ w.arg 26 1 = 2) ∧ w.mode = 2 ∧
      w.domain (w.arg 26 0) ≠ 3 ∧ w.domain (w.arg 26 0) ≠ w.arg 26 1)
    (fun w u => u.power.drain = some (w.arg 26 0, w.arg 26 1, w.bases.mono) ∧ smFind u.power.waking (w.arg 26 0) = none ∧
      SameRegs w u (cmdRegs 26)) ∧
  Happens (.masterReclaim ·) (fun w => w.deaf .host = false ∧ w.regState R.HOST_MASTER = 0 ∧ w.boot.1 ≠ 3)
    (fun w u => u.fld F.HOST_MASTER_OWNER = 0 ∧ SameRegs w u (R.HOST_MASTER :: eventRegs)) ∧
  (∀ path, Happens (.readOnly · path) (fun w => w.Reaches path R.MONITOR_CTRL)
    (fun w u => u.isSet F.MONITOR_CTRL_READ_ONLY = true ∧
      u.fld F.HOST_MASTER_OWNER = (if w.boot.1 = 3 then w.fld F.HOST_MASTER_OWNER else 0) ∧
      SameRegs w u ([R.MONITOR_CTRL, R.HOST_MASTER] ++ noteRegs)))

/-- Resets and domains (R426, R433 to R435, R437, R446): internal reset releases every ball; a low pulse of WRST_N of 1 µs or more begins a warm
reset, whose end finds every USED domain ON; a drained domain enters its state with DONE, one not drained in 64 µs stays with TIMEOUT; a
wake brings its domain ON, or fails as a lasting fault; the idle Archive goes to RETAIN. -/
def Obligations.ResetsAndDomainsHappen : Prop :=
  Happens (.internalReset ·) (fun _ => True)
    (fun w u => u.held = true ∧ u.vote.sink = 0 ∧ (∀ b ∈ scanBalls, Output.highZ b ∈ u.out) ∧ u.archive = w.archive ∧ u.stk = w.stk ∧
      SameRegs w u []) ∧
  (∀ lowNs, 1000 ≤ lowNs → Happens (.wrstN · lowNs) (fun w => w.isSet F.POWER_STATUS_FLUSHING = false)
    (fun w u => u.power.warmAt = some w.bases.mono ∧ u.regN R.GLOBAL_WARM_RESETS = (w.regN R.GLOBAL_WARM_RESETS + 1) % 2 ^ 32)) ∧
  (∀ lowNs, lowNs < 1000 → Happens (.wrstN · lowNs) (fun _ => True)
    (fun w u => u.power = w.power ∧ u.draft = w.draft ∧ u.ledger = w.ledger ∧ SameRegs w u [])) ∧
  Happens (.warmDone ·) (fun w => w.power.warmAt.isSome = true ∧ w.power.stalled = [])
    (fun w u => u.power.warmAt = none ∧ (∀ d : Nat, d < 16 → w.usedDomain d = true → u.domain d = 0) ∧
      (u.irqOf I.GLOBAL_WARM_DONE.1).status.getLsbD I.GLOBAL_WARM_DONE.2 = true) ∧
  (∀ d v x, 2 ≤ d ∧ d ≤ 15 ∧ v < 3 → Happens (.drainComplete ·) (fun w => w.power.drain = some (d, v, x))
    (fun w u => u.power.drain = none ∧ u.domain d = v ∧ (∀ e : Nat, e < 16 → e ≠ d → u.domain e = w.domain e) ∧ u.DoneOk 26 1)) ∧
  (∀ d v x n, Happens (.drainTimeout · n) (fun w => w.power.drain = some (d, v, x) ∧ x + 64000 ≤ w.bases.mono)
    (fun w u => u.power = { w.power with drain := none } ∧ u.regN R.POWER_DOMAIN_STATE = w.regN R.POWER_DOMAIN_STATE ∧
      u.regN (hdr 26 0x54) = 2 ^ 31 + 2 ^ 16 + 6 ∧ u.regN R.POWER_DRAIN_TIMEOUTS = (w.regN R.POWER_DRAIN_TIMEOUTS + 1) % 2 ^ 32 ∧
      SameRegs w u (R.POWER_DRAIN_TIMEOUTS :: eventRegs ++ cmdRegs 26))) ∧
  (∀ d x c, 2 ≤ d ∧ d ≤ 15 ∧ (c = 0 ∨ c = 1) →
    Happens (.domainWakeDone · d true)
    (fun w => smFind w.power.waking d = some (x, c) ∧ w.power.stalled = [] ∧ w.power.request = none)
    (fun w u => u.domain d = 0 ∧ (∀ e : Nat, e < 16 → e ≠ d → u.domain e = w.domain e) ∧ smFind u.power.waking d = none ∧
      (c = 1 → u.regN R.POWER_WOKEN % 65536 = d))) ∧
  (∀ d x c, d ≤ 15 ∧ c < 2 →
    Happens (.domainWakeDone · d false)
    (fun w => smFind w.power.waking d = some (x, c) ∧ w.power.stalled = [] ∧ w.provingIn d = [])
    (fun w u => smFind u.power.waking d ≠ some (x, c) ∧ u.regN R.FAULT_LAST / 2 ^ 24 = fcCfgScan ∧
      u.regN R.FAULT_LAST % 65536 = 256 * d + 255 ∧ u.regN R.FAULT_LASTING = (w.regN R.FAULT_LASTING + 1) % 2 ^ 32)) ∧
  Happens (.archiveRetain ·)
    (fun w => w.domain pdArchive = 0 ∧ w.isSet F.POWER_CTRL_ARCHIVE_RETAIN = true ∧ w.power.archAt + 10000000 ≤ w.bases.mono ∧
      w.isSet F.POWER_STATUS_FLUSHING = false)
    (fun w u => u.domain pdArchive = 1 ∧ (∀ e : Nat, e < 15 → u.domain e = w.domain e) ∧ u.archive = w.archive ∧
      SameRegs w u (R.POWER_DOMAIN_STATE :: eventRegs))

/-- Supplies and the power-fail flush (R427 to R430): a droop begins below 93 % or above 108 %, ends within 10 µs as transient or is lasting;
a fall of PFW_N of 1 µs begins the flush, whose end write-protects the Archive and shows FLUSH_DONE; 10 ms of PFW_N high end it. -/
def Obligations.SuppliesAndFlushHappen : Prop :=
  (∀ n mv, n ≤ 6 ∧ mv < 65536 → Happens (.droop · n mv)
    (fun w => w.inRange n mv = false ∧ smFind w.power.droops n = none ∧ bit (w.fld F.POWER_STATUS_SUPPLY_OK) n = true)
    (fun w u => smFind u.power.droops n = some (w.bases.mono, mv) ∧ bit (u.fld F.POWER_STATUS_SUPPLY_OK) n = false ∧
      u.fld (F.POWER_SUPPLYn_MEASURED n) = mv ∧ u.fault = w.fault ∧
      SameRegs w u ([R.POWER_STATUS, R.POWER_SUPPLYn n] ++ eventRegs))) ∧
  (∀ n mv x low, n ≤ 6 ∧ mv < 65536 → Happens (.droop · n mv)
    (fun w => w.inRange n mv = true ∧ smFind w.power.droops n = some (x, low) ∧ w.bases.mono ≤ x + 10000)
    (fun w u => smFind u.power.droops n = none ∧ bit (u.fld F.POWER_STATUS_SUPPLY_OK) n = true ∧
      u.regN R.POWER_DROOP_TRANSIENT = (w.regN R.POWER_DROOP_TRANSIENT + 1) % 2 ^ 32 ∧
      u.regN R.FAULT_TRANSIENT = (w.regN R.FAULT_TRANSIENT + 1) % 2 ^ 32)) ∧
  (∀ n x low, n ≤ 6 → Happens (.droopLasting · n)
    (fun w => smFind w.power.droops n = some (x, low) ∧ x + 10000 ≤ w.bases.mono ∧ w.provingIn 16 = [])
    (fun w u => smFind u.power.droops n = none ∧ bit (u.fld F.POWER_STATUS_SUPPLY_OK) n = bit (w.fld F.POWER_STATUS_SUPPLY_OK) n ∧
      u.regN R.POWER_DROOP_LASTING = (w.regN R.POWER_DROOP_LASTING + 1) % 2 ^ 32 ∧
      u.regN R.FAULT_LASTING = (w.regN R.FAULT_LASTING + 1) % 2 ^ 32)) ∧
  Happens (.pfwNChange · true) (fun w => w.power.pfwLine.1 = false)
    (fun w u => u.power = { w.power with pfwLine := (true, w.bases.mono) } ∧ SameRegs w u []) ∧
  Happens (.pfwNChange · false) (fun w => w.power.pfwLine.1 = true)
    (fun w u => u.power = { w.power with pfwLine := (false, w.bases.mono) } ∧
      u.regN R.POWER_PFW_GLITCHES = (w.regN R.POWER_PFW_GLITCHES +
        (if w.pfwLow = false ∧ w.bases.mono < w.power.pfwLine.2 + 1000 then 1 else 0)) % 2 ^ 32 ∧ SameRegs w u [R.POWER_PFW_GLITCHES]) ∧
  Happens (.pfwFall ·)
    (fun w => w.pfwLow = false ∧ w.power.pfwLine.1 = true ∧ w.power.pfwLine.2 + 1000 ≤ w.bases.mono ∧ w.draft.load = none)
    (fun w u => u.pfwLow = true ∧ u.isSet F.POWER_STATUS_FLUSHING = true ∧ u.pairAt R.POWER_PFW_TIME_LO = w.bases.mono % 2 ^ 64 ∧
      u.regN R.POWER_PFW_EVENTS = (w.regN R.POWER_PFW_EVENTS + 1) % 2 ^ 32 ∧ u.power.flushAt = some w.bases.mono ∧
      u.ledger.closed = true ∧ u.ledger.staging.getLast?.map (fun r => r.event) = some E.LEDGER_FLUSHED ∧ u.draft.imageWrite = none) ∧
  (∀ x, Happens (.flushDone · 0) (fun w => w.power.flushAt = some x ∧ w.power.warmHeld = none)
    (fun w u => u.isSet F.POWER_STATUS_WRITE_PROTECT = true ∧ u.isSet F.POWER_STATUS_FLUSH_DONE = true ∧
      u.isSet F.POWER_STATUS_FLUSHING = false ∧ u.regN R.POWER_FLUSH_US = sat32 ((w.bases.mono - x) / 1000) ∧ u.power.flushAt = none ∧
      u.saves.flush = some (w.energySet w.energy.frozen) ∧ u.ledger.savedOp = w.opSeconds ∧
      u.ledger.savedCycles = w.ledger.powerCycles ∧ (w.scanned = false → Output.ball .flushDone true ∈ u.out))) ∧
  Happens (.pfwRecovered ·)
    (fun w => w.pfwLow = true ∧ w.power.pfwLine.1 = false ∧ w.power.pfwLine.2 + 10000000 ≤ w.bases.mono ∧ w.power.flushAt = none ∧
      w.power.bootHeld = false)
    (fun w u => u.pfwLow = false ∧ u.isSet F.POWER_STATUS_WRITE_PROTECT = false ∧ u.isSet F.POWER_STATUS_FLUSH_DONE = false ∧
      u.ledger.closed = false ∧ (w.scanned = false → Output.ball .flushDone false ∈ u.out))

/-- The PCIe link (R453, R454): PERST_N and a surprise down reset the endpoint, stop every queue with its packets kept and forget the host
rings; training reports speed and width; D3hot stops the queues and D0 restarts none. BAR2, the Stacks window (R455, R456): a read of up
to 512 bytes answers what the Stacks hold; a write inside a spill-queue region by the path with mastership stores its bytes and no others;
any other write is discarded and recorded. -/
def Obligations.HostRuns : Prop :=
  (∀ obj off, Happens (.perstN · true obj off)
    (fun w => w.host.perst = true ∧ w.isSet F.HOST_STATUS_LINK_UP = true ∧ w.draft.load = none)
    (fun w u => u.host = { w.host with perst := false, downSince := some w.bases.mono } ∧ u.regN R.HOST_STATUS = 0 ∧
      u.regN R.HOST_LINK_DOWNS = (w.regN R.HOST_LINK_DOWNS + 1) % 2 ^ 32 ∧ u.queues = w.queues ∧
      u.draft = { w.draft with imageWrite := none } ∧
      (∀ q ∈ w.enabledQueues, u.fld (F.QUEUE_Qn_CTRL_STATE q) = 1 ∧ bit (u.regN R.QUEUE_STATUS) q = false) ∧
      (∀ q : Nat, q < 32 → u.regN (R.QUEUE_Qn_HOST_SIZE q) = 0 ∧ u.pairAt (R.QUEUE_Qn_HOST_BASE_LO q) = 0 ∧
        u.pairAt (R.QUEUE_Qn_WB_LO q) = 0 ∧ u.regN (R.QUEUE_Qn_DOORBELL q) = 0 ∧ u.regN (R.QUEUE_Qn_DEVICE_PTR q) = 0) ∧
      SameRegs w u ([R.HOST_STATUS, R.HOST_LINK_DOWNS, R.QUEUE_STATUS] ++ w.enabledQueues.map (fun q => R.QUEUE_Qn_CTRL q) ++
        ((List.range 32).flatMap fun q => [R.QUEUE_Qn_HOST_BASE_LO q, R.QUEUE_Qn_HOST_BASE_HI q, R.QUEUE_Qn_HOST_SIZE q,
          R.QUEUE_Qn_WB_LO q, R.QUEUE_Qn_WB_HI q, R.QUEUE_Qn_DOORBELL q, R.QUEUE_Qn_DEVICE_PTR q]) ++ eventRegs))) ∧
  (∀ obj off, Happens (.perstN · false obj off) (fun w => w.host.perst = false)
    (fun w u => u.host = { w.host with perst := true } ∧ u.queues = w.queues ∧ SameRegs w u [])) ∧
  (∀ obj off, Happens (.surpriseLinkDown · obj off)
    (fun w => w.isSet F.HOST_STATUS_LINK_UP = true ∧ w.draft.load = none)
    (fun w u => u.host = { w.host with downSince := some w.bases.mono } ∧ u.regN R.HOST_STATUS = 0 ∧
      u.regN R.HOST_LINK_DOWNS = (w.regN R.HOST_LINK_DOWNS + 1) % 2 ^ 32 ∧ u.queues = w.queues ∧
      (∀ q ∈ w.enabledQueues, u.fld (F.QUEUE_Qn_CTRL_STATE q) = 1) ∧
      ∀ q : Nat, q < 32 → u.regN (R.QUEUE_Qn_HOST_SIZE q) = 0 ∧ u.regN (R.QUEUE_Qn_DEVICE_PTR q) = 0)) ∧
  (∀ speed width bm, 1 ≤ speed ∧ speed ≤ 3 ∧ (width = 1 ∨ width = 2 ∨ width = 4) → Happens (.pcieLinkUp · speed width bm)
    (fun w => w.host.perst = true ∧ w.domain pdHost = 0 ∧ w.isSet F.HOST_STATUS_LINK_UP = false)
    (fun w u => u.isSet F.HOST_STATUS_LINK_UP = true ∧ u.fld F.HOST_STATUS_SPEED = speed ∧ u.fld F.HOST_STATUS_WIDTH = width ∧
      u.isSet F.HOST_STATUS_BUS_MASTER = bm ∧ u.fld F.HOST_STATUS_D_STATE = 0 ∧ u.host = { w.host with downSince := none } ∧
      SameRegs w u (R.HOST_STATUS :: eventRegs))) ∧
  Happens (.dState · true) (fun w => w.fld F.HOST_STATUS_D_STATE = 0)
    (fun w u => u.fld F.HOST_STATUS_D_STATE = 3 ∧
      (∀ q ∈ w.enabledQueues, u.fld (F.QUEUE_Qn_CTRL_STATE q) =
        (if w.fld (F.QUEUE_Qn_CTRL_STATE q) = 2 then 1 else w.fld (F.QUEUE_Qn_CTRL_STATE q))) ∧
      u.queues = w.queues ∧ u.fld F.HOST_MASTER_OWNER = w.fld F.HOST_MASTER_OWNER ∧
      SameRegs w u ([R.HOST_STATUS, R.QUEUE_STATUS] ++ w.enabledQueues.map (fun q => R.QUEUE_Qn_CTRL q) ++ eventRegs)) ∧
  Happens (.dState · false) (fun w => w.fld F.HOST_STATUS_D_STATE = 3)
    (fun w u => u.fld F.HOST_STATUS_D_STATE = 0 ∧ u.queues = w.queues ∧ SameRegs w u (R.HOST_STATUS :: eventRegs)) ∧
  (∀ addr n, addr + n ≤ 2 ^ 34 ∧ n ≤ 512 → Happens (.bar2Read · addr n true)
    (fun w => w.deaf .host = false ∧ w.noStacks = false ∧ w.domain pdStacks = 0)
    (fun w u => (∃ l ∈ (match u.out.head? with | some (.readData l) => [l] | _ => []), l.length = n ∧
        ∀ k : Nat, k < n → l[k]? = some (smGet (ramDefault 0) w.stk (addr + k))) ∧ u.stk = w.stk ∧ u.archive = w.archive ∧ SameRegs w u [])) ∧
  (∀ addr l, addr < 2 ^ 34 → Happens (.bar2Write · addr l)
    (fun w => w.deaf .host = false ∧ w.master .host = true ∧ w.noStacks = false ∧ w.inSpill addr l.length = true ∧ w.domain pdStacks = 0)
    (fun w u => (∀ a, smGet (ramDefault a) u.stk a =
        if addr ≤ a ∧ a < addr + l.length then l.getD (a - addr) 0 else smGet (ramDefault a) w.stk a) ∧
      u.archive = w.archive ∧ SameRegs w u [])) ∧
  (∀ addr l, addr < 2 ^ 34 → Happens (.bar2Write · addr l)
    (fun w => w.deaf .host = false ∧ w.master .host = true ∧ w.inSpill addr l.length = false)
    (fun w u => u.stk = w.stk ∧ u.archive = w.archive ∧ u.pairAt R.HOST_ERR_ADDR_LO = addr ∧ u.regN R.HOST_ERR_CAUSE = 2 * 16 + 3 ∧
      SameRegs w u ([R.HOST_ERR_ADDR_LO, R.HOST_ERR_ADDR_LO + 4, R.HOST_ERR_CAUSE] ++ eventRegs)))

/-- Boundary scan (R461). BYPASS, IDCODE and SAMPLE/PRELOAD leave the balls to the device, so the stage follows the lanes' vote or the pad
hold; IDCODE shifts out 0x081603CB with the silicon revision in bits 31:28, SAMPLE/PRELOAD the levels of the balls; under EXTEST and CLAMP the
stage and the other balls follow the boundary register, under HIGHZ every ball of the chain floats. No instruction reaches the registers,
but for what VOTE shows of its pins. -/
def Obligations.BoundaryScan : Prop :=
  Happens (.bypass ·) (fun _ => True)
    (fun w u => u.host = { w.host with jtag := 0 } ∧
      u.vote.sink = (if w.isSet F.FAULT_STATUS_PAD_HOLD then w.fld F.FAULT_PAD_HOLD_HELD % 256
        else vote3 u.vote.laneA.drive u.vote.laneB.drive u.vote.laneC.drive) ∧
      u.regN R.VOTE_PIN_SENSE = 511 - u.vote.sink ∧ u.archive = w.archive ∧ u.stk = w.stk ∧
      SameRegs w u ([R.VOTE_STATUS, R.VOTE_PIN_SENSE] ++ w.energy.pulses.map fun p => R.ENERGY_PULSEn_STATE p.1)) ∧
  Happens (.idcode ·) (fun _ => True)
    (fun w u => u.out.head? = some (.readData (leBytes 4 (w.regN 0 / 256 % 16 * 2 ^ 28 + 0x81603CB))) ∧ u.host = { w.host with jtag := 1 } ∧
      u.vote.sink = (if w.isSet F.FAULT_STATUS_PAD_HOLD then w.fld F.FAULT_PAD_HOLD_HELD % 256
        else vote3 u.vote.laneA.drive u.vote.laneB.drive u.vote.laneC.drive) ∧ u.archive = w.archive ∧ u.stk = w.stk ∧
      SameRegs w u ([R.VOTE_STATUS, R.VOTE_PIN_SENSE] ++ w.energy.pulses.map fun p => R.ENERGY_PULSEn_STATE p.1)) ∧
  (∀ value, value < 2 ^ 20 → Happens (.samplePreload · value) (fun _ => True)
    (fun w u => u.host = { w.host with jtag := 2, boundary := value } ∧
      u.out.head? = some (.readData (leBytes 3 u.sampled)) ∧ (∀ i : Nat, i < 9 → bit u.sampled i = !bit u.vote.sink i) ∧ u.archive = w.archive ∧ u.stk = w.stk ∧
      SameRegs w u ([R.VOTE_STATUS, R.VOTE_PIN_SENSE] ++ w.energy.pulses.map fun p => R.ENERGY_PULSEn_STATE p.1))) ∧
  (∀ value, value < 2 ^ 20 → Happens (.extest · value) (fun _ => True)
    (fun w u => u.host = { w.host with jtag := 3, boundary := value } ∧ (∀ n : Nat, n < 9 → bit u.vote.sink n = !bit value n) ∧
      (∀ n : Nat, n < 11 → Output.ball (restBalls.getD n .intlk) (bit value (9 + n)) ∈ u.out) ∧ u.archive = w.archive ∧ u.stk = w.stk ∧
      SameRegs w u ([R.VOTE_STATUS, R.VOTE_PIN_SENSE] ++ w.energy.pulses.map fun p => R.ENERGY_PULSEn_STATE p.1))) ∧
  Happens (.highz ·) (fun _ => True)
    (fun w u => u.host = { w.host with jtag := 4 } ∧ u.vote.sink = 0 ∧ (∀ b ∈ scanBalls, Output.highZ b ∈ u.out) ∧ u.archive = w.archive ∧ u.stk = w.stk ∧
      SameRegs w u ([R.VOTE_STATUS, R.VOTE_PIN_SENSE] ++ w.energy.pulses.map fun p => R.ENERGY_PULSEn_STATE p.1)) ∧
  Happens (.clamp ·) (fun _ => True)
    (fun w u => u.host = { w.host with jtag := 5 } ∧ (∀ n : Nat, n < 9 → bit u.vote.sink n = !bit w.host.boundary n) ∧
      (∀ n : Nat, n < 11 → Output.ball (restBalls.getD n .intlk) (bit w.host.boundary (9 + n)) ∈ u.out) ∧ u.archive = w.archive ∧ u.stk = w.stk ∧
      SameRegs w u ([R.VOTE_STATUS, R.VOTE_PIN_SENSE] ++ w.energy.pulses.map fun p => R.ENERGY_PULSEn_STATE p.1))

/-- The monitor's lines that write nothing (R462 to R464): each line counts, is the session's last sign of life and confirms a rate on trial;
`help`, `id`, `rd`, `sr`, `mode`, `ledger` and `fault` reply with what they name and the prompt; a line with a framing error is discarded
and counted, one that is no command answered ERR SYNTAX. The reply texts that R464 does not spell are the model's (log 40). -/
def Obligations.MonitorReads : Prop :=
  Happens (.monHelp ·) (fun w => w.isSet F.MONITOR_STATUS_LOADING = false ∧ w.power.warmAt = none)
    (fun w u => u.out.take 2 = [.uart "> ", .uart "OK help id rd sr wr cmd mode ledger fault load reset take give baud"] ∧
      u.regN R.MONITOR_LINES = (w.regN R.MONITOR_LINES + 1) % 2 ^ 32 ∧ u.host = { w.host with lineAt := some w.bases.mono, trial := none } ∧
      u.isSet F.MONITOR_STATUS_RATE_TRIAL = false ∧ SameRegs w u ([R.MONITOR_LINES, R.MONITOR_STATUS] ++ eventRegs)) ∧
  Happens (.monId ·) (fun w => w.isSet F.MONITOR_STATUS_LOADING = false ∧ w.power.warmAt = none)
    (fun w u => u.out.take 2 = [.uart "> ", .uart ("OK " ++ w.idText)] ∧ u.host = { w.host with lineAt := some w.bases.mono, trial := none } ∧
      SameRegs w u ([R.MONITOR_LINES, R.MONITOR_STATUS] ++ eventRegs)) ∧
  (∀ addr n, 1 ≤ n ∧ n ≤ 64 ∧ addr % 4 = 0 ∧ addr + 4 * n ≤ 2 ^ 25 → Happens (.monRd · addr n)
    (fun w => w.isSet F.MONITOR_STATUS_LOADING = false ∧ w.power.warmAt = none ∧ w.snaps = [] ∧
      ∀ k : Nat, k < n → w.regState (addr + 4 * k) = 0)
    (fun w u => u.out.head? = some (.uart "> ") ∧
      (∀ k : Nat, k < n → u.out[n - k]? = some (.uart ("OK " ++ hexAddr (addr + 4 * k) ++ " " ++ hexWord (u.readWord (addr + 4 * k))))) ∧
      SameRegs w u ([R.MONITOR_LINES, R.MONITOR_STATUS] ++ eventRegs))) ∧
  (∀ addr n, 1 ≤ n ∧ n ≤ 64 ∧ addr % 4 = 0 ∧ addr + 4 * n ≤ 2 ^ 34 → Happens (.monSr · addr n none)
    (fun w => w.isSet F.MONITOR_STATUS_LOADING = false ∧ w.power.warmAt = none ∧ w.noStacks = false ∧ w.domain pdStacks = 0)
    (fun w u => u.out.head? = some (.uart "> ") ∧
      (∀ k : Nat, k < n → u.out[n - k]? = some (.uart ("OK 0x" ++ hexDigits 9 (addr + 4 * k) ++ " " ++
        hexWord (leNat (w.stkRead (addr + 4 * k) 4))))) ∧ u.stk = w.stk ∧
      SameRegs w u ([R.MONITOR_LINES, R.MONITOR_STATUS] ++ eventRegs))) ∧
  Happens (.monMode · none) (fun w => w.isSet F.MONITOR_STATUS_LOADING = false ∧ w.power.warmAt = none)
    (fun w u => u.out.take 2 = [.uart "> ", .uart ("OK MODE M" ++ decText w.mode)] ∧
      SameRegs w u ([R.MONITOR_LINES, R.MONITOR_STATUS] ++ eventRegs)) ∧
  (∀ acc b f, Happens (.monLedger · (some acc) (some 1))
    (fun w => w.isSet F.MONITOR_STATUS_LOADING = false ∧ w.power.warmAt = none ∧ w.monActive = true ∧ w.ledger.oldest ≤ acc ∧
      acc < w.ledger.next ∧ w.record acc = some (b, f) ∧ w.domain pdArchive = 0)
    (fun w u => u.out = [.uart "> ", .uart ("OK " ++ hexBytes b)] ++ w.out ∧ u.ledger = w.ledger ∧ u.archive = w.archive ∧
      SameRegs w u [R.MONITOR_LINES, R.MONITOR_STATUS])) ∧
  Happens (.monFault ·) (fun w => w.isSet F.MONITOR_STATUS_LOADING = false ∧ w.power.warmAt = none)
    (fun w u => u.out.take 5 = [.uart "> ", .uart ("OK FAULT_PAD_HOLD " ++ hexWord (w.readWord R.FAULT_PAD_HOLD)),
        .uart ("OK FAULT_CAUSE " ++ hexWord (w.readWord R.FAULT_CAUSE)), .uart ("OK FAULT_LAST " ++ hexWord (w.readWord R.FAULT_LAST)),
        .uart ("OK FAULT_STATUS " ++ hexWord (w.readWord R.FAULT_STATUS))] ∧
      SameRegs w u ([R.MONITOR_LINES, R.MONITOR_STATUS] ++ eventRegs)) ∧
  Happens (.monLineDiscard · true) (fun w => w.isSet F.MONITOR_STATUS_LOADING = false)
    (fun w u => u.regN R.MONITOR_FRAMING_ERR = (w.regN R.MONITOR_FRAMING_ERR + 1) % 2 ^ 32 ∧ u.out = w.out ∧ u.host = w.host ∧
      SameRegs w u [R.MONITOR_FRAMING_ERR]) ∧
  Happens (.monLineDiscard · false) (fun w => w.isSet F.MONITOR_STATUS_LOADING = false ∧ w.power.warmAt = none)
    (fun w u => u.out.take 2 = [.uart "> ", .uart "ERR SYNTAX"] ∧ u.regN R.MONITOR_ERRORS = (w.regN R.MONITOR_ERRORS + 1) % 2 ^ 32 ∧
      SameRegs w u ([R.MONITOR_LINES, R.MONITOR_STATUS, R.MONITOR_ERRORS] ++ eventRegs))

/-- The monitor's lines that write (R457, R458, R460, R464, R467): with mastership `wr` writes its word, `cmd` its arguments and GO and replies
with the outcome, `mode` requests, `load` begins a load, `reset warm` a warm reset, each recorded; `take` and `give` move mastership. -/
def Obligations.MonitorWrites : Prop :=
  (∀ b k v x, b < 16 ∧ k < 4 ∧ v < 2 ^ 32 → Happens (.monWr · (hdr b (0x44 + 4 * k)) v x)
    (fun w => w.isSet F.MONITOR_STATUS_LOADING = false ∧ w.power.warmAt = none ∧ w.isSet F.MONITOR_CTRL_READ_ONLY = false ∧
      w.master .monitor = true ∧ w.regState (hdr b (0x44 + 4 * k)) = 0)
    (fun w u => u.regN (hdr b (0x44 + 4 * k)) = v ∧ u.out.take 2 = [.uart "> ", .uart "OK"] ∧
      u.regN R.MONITOR_WRITES = (w.regN R.MONITOR_WRITES + 1) % 2 ^ 32 ∧
      SameRegs w u ([hdr b (0x44 + 4 * k), R.MONITOR_LINES, R.MONITOR_STATUS, R.MONITOR_WRITES] ++ eventRegs))) ∧
  (∀ addr v x, addr % 4 = 0 ∧ addr < 2 ^ 25 ∧ v < 2 ^ 32 → Happens (.monWr · addr v x)
    (fun w => w.isSet F.MONITOR_STATUS_LOADING = false ∧ w.power.warmAt = none ∧ w.isSet F.MONITOR_CTRL_READ_ONLY = false ∧
      w.master .monitor = false ∧ w.regState addr < 3)
    (fun w u => u.out.take 2 = [.uart "> ", .uart "ERR NOT_MASTER"] ∧ u.pairAt R.HOST_ERR_ADDR_LO = addr ∧
      u.regN R.HOST_ERR_CAUSE = 2 ^ 8 + 4 ∧ u.regN R.MONITOR_WRITES = w.regN R.MONITOR_WRITES ∧
      SameRegs w u ([hdr (addr / 2 ^ 20) 0x80, hdr (addr / 2 ^ 20) 0x84, R.HOST_ERR_ADDR_LO, R.HOST_ERR_ADDR_LO + 4, R.HOST_ERR_CAUSE,
        R.HOST_NOT_MASTER, R.MONITOR_LINES, R.MONITOR_STATUS, R.MONITOR_ERRORS] ++ eventRegs))) ∧
  (∀ e x, e < 65536 ∧ e / 256 ≤ 16 → Happens (.monCmd · 30 1 [e] x)
    (fun w => w.isSet F.MONITOR_STATUS_LOADING = false ∧ w.power.warmAt = none ∧ w.isSet F.MONITOR_CTRL_READ_ONLY = false ∧
      w.master .monitor = true ∧ w.regState (hdr 30 0x40) = 0 ∧ bits (w.regN (hdr 30 0x54)) 31 31 = 1)
    (fun w u => u.regN (hdr 30 0x44) = e ∧ u.DoneOk 30 1 ∧
      u.results 30 = (((w.elem e).state + 2 ^ 16 * min (w.elem e).transient 65535) % 2 ^ 32, min (w.elem e).lasting (2 ^ 32 - 1)) ∧
      u.out.take 2 = [.uart "> ", .uart ("OK STATUS OK RESULT0 " ++ hexWord (u.regN (hdr 30 0x58)) ++ " RESULT1 " ++
        hexWord (u.regN (hdr 30 0x5C)))] ∧
      SameRegs w u ([hdr 30 0x44, R.MONITOR_LINES, R.MONITOR_STATUS, R.MONITOR_WRITES] ++ eventRegs ++ cmdRegs 30))) ∧
  (∀ n, n ≤ 11 → Happens (.monMode · (some n))
    (fun w => w.isSet F.MONITOR_STATUS_LOADING = false ∧ w.power.warmAt = none ∧ w.isSet F.MONITOR_CTRL_READ_ONLY = false ∧
      w.master .monitor = true ∧ w.regState R.GLOBAL_MODE_REQ = 0)
    (fun w u => u.regN R.GLOBAL_MODE_REQ_STATUS = 2 ^ 31 + 2 ^ 12 + 2 ^ 8 * n + (w.judgeRequest n).1 ∧
      u.regN R.GLOBAL_MODE_REQUESTS = (w.regN R.GLOBAL_MODE_REQUESTS + 1) % 2 ^ 32 ∧
      u.out.take 2 = [.uart "> ", .uart (if (w.judgeRequest n).1 = 0 then "OK MODE REQUEST ACCEPTED" else
        "ERR " ++ statusName (w.judgeRequest n).1)])) ∧
  (∀ source len, 1 ≤ source ∧ source ≤ 3 ∧ len ≤ 2 ^ 25 → Happens (.monLoad · source 0 len)
    (fun w => w.isSet F.MONITOR_STATUS_LOADING = false ∧ w.power.warmAt = none ∧ w.isSet F.MONITOR_CTRL_READ_ONLY = false ∧
      w.master .monitor = true ∧ w.pfwLow = false ∧ (w.mode = 0 ∨ w.mode = 2))
    (fun w u => u.mode = 1 ∧ u.fld F.DRAFT_STATUS_LOAD_STATE = 1 ∧ u.draft.base = none ∧
      u.draft.load = some { kind := .draft, source := source, address := 0, length := len, auto := false, start := w.bases.mono } ∧
      u.out.take 2 = [.uart "> ", .uart "OK"])) ∧
  (∀ kind len, (kind = 1 ∨ kind = 2) ∧ len ≤ 2 ^ 25 → Happens (.monLoad · 4 kind len)
    (fun w => w.isSet F.MONITOR_STATUS_LOADING = false ∧ w.power.warmAt = none ∧ w.isSet F.MONITOR_CTRL_READ_ONLY = false ∧
      w.master .monitor = true ∧ 2 ≤ w.mode ∧ w.mode ≤ 10 ∧ w.isSet F.DRAFT_CTRL_CARD_LOCK = false ∧ w.pfwLow = false ∧
      w.draft.load = none ∧ w.draft.patch = none)
    (fun w u => u.isSet F.MONITOR_STATUS_LOADING = true ∧
      u.host.uart = some { kind := kind, card := 0, length := len, last := w.bases.mono } ∧
      u.draft.load = some { kind := loadKind kind, source := 4, address := 0, length := len, auto := false, start := w.bases.mono } ∧
      u.out.head? = some (.uart "OK READY") ∧
      SameRegs w u ([R.MONITOR_LINES, R.MONITOR_STATUS, R.MONITOR_WRITES] ++ eventRegs))) ∧
  Happens (.monResetWarm ·)
    (fun w => w.isSet F.MONITOR_STATUS_LOADING = false ∧ w.power.warmAt = none ∧ w.isSet F.MONITOR_CTRL_READ_ONLY = false ∧
      w.master .monitor = true ∧ w.isSet F.POWER_STATUS_FLUSHING = false)
    (fun w u => u.power.warmAt = some w.bases.mono ∧ u.regN R.GLOBAL_WARM_RESETS = (w.regN R.GLOBAL_WARM_RESETS + 1) % 2 ^ 32 ∧
      Output.uart "OK" ∈ u.out ∧ u.host.uart = none ∧ u.draft.imageWrite = none) ∧
  Happens (.monTake ·)
    (fun w => w.isSet F.MONITOR_STATUS_LOADING = false ∧ w.power.warmAt = none ∧ w.isSet F.MONITOR_CTRL_READ_ONLY = false ∧
      (w.isSet F.HOST_MASTER_MON_ALLOW = true ∨ w.boot.1 = 3 ∨ ∃ x ∈ w.host.downSince.toList, x + 1000000000 ≤ w.bases.mono))
    (fun w u => u.fld F.HOST_MASTER_OWNER = 1 ∧ u.out.take 2 = [.uart "> ", .uart "OK OWNER MONITOR"] ∧
      SameRegs w u ([R.HOST_MASTER, R.MONITOR_LINES, R.MONITOR_STATUS] ++ eventRegs)) ∧
  Happens (.monTake ·)
    (fun w => w.isSet F.MONITOR_STATUS_LOADING = false ∧ w.power.warmAt = none ∧ w.isSet F.MONITOR_CTRL_READ_ONLY = false ∧
      w.isSet F.HOST_MASTER_MON_ALLOW = false ∧ w.boot.1 ≠ 3 ∧ ∀ x ∈ w.host.downSince.toList, w.bases.mono < x + 1000000000)
    (fun w u => u.regN R.HOST_MASTER = w.regN R.HOST_MASTER ∧ u.out.take 2 = [.uart "> ", .uart "ERR ILLEGAL_STATE"] ∧
      SameRegs w u ([R.MONITOR_LINES, R.MONITOR_STATUS, R.MONITOR_ERRORS] ++ eventRegs)) ∧
  Happens (.monGive ·)
    (fun w => w.isSet F.MONITOR_STATUS_LOADING = false ∧ w.power.warmAt = none ∧ w.boot.1 ≠ 3)
    (fun w u => u.fld F.HOST_MASTER_OWNER = 0 ∧ u.out.take 2 = [.uart "> ", .uart "OK OWNER HOST"] ∧
      SameRegs w u ([R.HOST_MASTER, R.MONITOR_LINES, R.MONITOR_STATUS] ++ eventRegs))

/-- The monitor's line (R460, R462, R466): `baud` replies OK and the rate changes 10 ms later, on trial; with no line in 10 s it is 115,200
baud again. A UART load takes blocks of 1,024 bytes: one whose CRC-32C holds is acknowledged with 0x06, one whose does not is asked for
again with 0x15, and 2 s of silence end the load. -/
def Obligations.MonitorLineRateAndLoads : Prop :=
  (∀ rate, rate ∈ [115200, 230400, 460800, 921600, 1500000, 3000000] → Happens (.monBaud · rate)
    (fun w => w.isSet F.MONITOR_STATUS_LOADING = false ∧ w.power.warmAt = none)
    (fun w u => u.host = { w.host with lineAt := some w.bases.mono, trial := none, baud := some (rate, w.bases.mono + 10000000) } ∧
      u.regN R.MONITOR_BAUD = w.regN R.MONITOR_BAUD ∧ u.out.take 2 = [.uart "> ", .uart "OK"] ∧
      SameRegs w u ([R.MONITOR_LINES, R.MONITOR_STATUS] ++ eventRegs))) ∧
  (∀ rate due, rate < 2 ^ 32 → Happens (.baudChange ·) (fun w => w.host.baud = some (rate, due) ∧ due ≤ w.bases.mono)
    (fun w u => u.regN R.MONITOR_BAUD = rate ∧ u.isSet F.MONITOR_STATUS_RATE_TRIAL = true ∧
      u.host = { w.host with baud := none, trial := some w.bases.mono } ∧ SameRegs w u ([R.MONITOR_BAUD, R.MONITOR_STATUS] ++ eventRegs))) ∧
  (∀ tr, Happens (.baudRevert ·) (fun w => w.host.trial = some tr ∧ tr + 10000000000 ≤ w.bases.mono)
    (fun w u => u.regN R.MONITOR_BAUD = 115200 ∧ u.isSet F.MONITOR_STATUS_RATE_TRIAL = false ∧ u.host = { w.host with trial := none } ∧
      SameRegs w u ([R.MONITOR_BAUD, R.MONITOR_STATUS] ++ eventRegs))) ∧
  (∀ l x, l.length = 1024 → Happens (.uartBlock · l (crc32c 0xFFFFFFFF l))
    (fun w => w.uartLoad = some x ∧ x.bytes.length + 1024 < x.length)
    (fun w u => u.host = { w.host with uart := some { x with bytes := x.bytes ++ l, failed := false, last := w.bases.mono } } ∧
      u.out = .uartByte 6 :: w.out ∧ u.isSet F.MONITOR_STATUS_LOADING = true ∧ u.draft = w.draft ∧ SameRegs w u [])) ∧
  (∀ l x, l.length = 1024 → Happens (.uartBlock · l (crc32c 0xFFFFFFFF l))
    (fun w => w.uartLoad = some x ∧ x.length ≠ 0 ∧ x.length ≤ x.bytes.length + 1024)
    (fun w u => u.host.uart = some { x with bytes := x.bytes ++ l, failed := false, last := w.bases.mono } ∧
      Output.uartByte 6 ∈ u.out ∧ u.isSet F.MONITOR_STATUS_LOADING = false ∧ u.draft = w.draft ∧
      SameRegs w u (R.MONITOR_STATUS :: eventRegs))) ∧
  (∀ l crc x, l.length ≠ 1024 ∨ crc ≠ crc32c 0xFFFFFFFF l → Happens (.uartBlock · l crc)
    (fun w => w.uartLoad = some x ∧ x.failed = false)
    (fun w u => u.host = { w.host with uart := some { x with failed := true, last := w.bases.mono } } ∧ u.out = .uartByte 0x15 :: w.out ∧
      u.draft = w.draft ∧ SameRegs w u [])) ∧
  (∀ x, Happens (.uartTimeout ·)
    (fun w => w.uartLoad = some x ∧ x.last + 2000000000 ≤ w.bases.mono ∧ ∀ l ∈ w.draft.load.toList, l.kind ≠ .draft)
    (fun w u => u.host = { w.host with uart := none } ∧ u.isSet F.MONITOR_STATUS_LOADING = false ∧ u.draft.load = none))

/-- DRAFT's commands (R52, R55, R58, R64, R66): a load begins in M0 or M2 and leads to M1; UNLOAD leads from M2 to M0; a card and a patch are
fetched, a card dropped, a pending patch cancelled; an image is written and erased; CARD_LOCK and REQUIRE_SIGNED are set. -/
def Obligations.DraftCommandsComplete : Prop :=
  Completes 1 1 .load
    (fun w => w.arg 1 0 ≤ 3 ∧ (w.mode = 0 ∨ w.mode = 2) ∧ w.boot.1 ≠ 3 ∧ w.pfwLow = false)
    (fun w u => u.mode = 1 ∧ u.draft.load = some (w.loadReq .draft) ∧ u.draft.base = none ∧ u.fld F.DRAFT_STATUS_LOAD_STATE = 1 ∧
      u.draftId = 0 ∧ u.draft.cards = [] ∧ u.isSet F.GLOBAL_STATUS_DRAFT_HELD = false) ∧
  Completes 1 2 .unload (fun w => w.mode = 2)
    (fun w u => u.mode = 0 ∧ u.draft.base = none ∧ u.draft.cards = [] ∧ u.fld F.DRAFT_STATUS_LOAD_STATE = 0 ∧ u.draftId = 0 ∧
      u.draft.imageWrite = w.draft.imageWrite) ∧
  Completes 1 3 .loadCard
    (fun w => w.arg 1 0 ≤ 3 ∧ 2 ≤ w.mode ∧ w.mode ≤ 10 ∧ w.isSet F.DRAFT_CTRL_CARD_LOCK = false ∧ w.pfwLow = false ∧ w.draft.load = none)
    (fun w u => u.draft = { w.draft with load := some (w.loadReq .card) } ∧ SameRegs w u (cmdRegs 1)) ∧
  Completes 1 4 .dropCard
    (fun w => w.arg 1 0 ≤ 15 ∧ 2 ≤ w.mode ∧ w.mode ≤ 10 ∧ w.isSet F.DRAFT_CTRL_CARD_LOCK = false ∧ w.slotInForce (w.arg 1 0) = false ∧
      w.slotPending (w.arg 1 0) = false)
    (fun w u => smFind u.draft.cards (w.arg 1 0) = none ∧ bit (u.fld F.DRAFT_CARDS_HELD) (w.arg 1 0) = false ∧
      (∀ n : Nat, n < 16 → n ≠ w.arg 1 0 → smFind u.draft.cards n = smFind w.draft.cards n) ∧ u.draft.base = w.draft.base ∧
      SameRegs w u ([R.DRAFT_CARDS, R.DRAFT_BIND0, R.DRAFT_BIND1] ++ cmdRegs 1)) ∧
  Completes 1 5 .patch
    (fun w => w.arg 1 0 ≤ 3 ∧ 2 ≤ w.mode ∧ w.mode ≤ 10 ∧ w.isSet F.DRAFT_CTRL_CARD_LOCK = false ∧ w.pfwLow = false ∧ w.draft.load = none ∧
      w.draft.patch = none)
    (fun w u => u.draft = { w.draft with load := some (w.loadReq .patch) } ∧ SameRegs w u (cmdRegs 1)) ∧
  (∀ o tag, Completes 1 6 .cancelPatch
    (fun w => w.draft.patch = some (o, tag) ∧ w.now < w.instant 0 tag)
    (fun w u => u.draft = { w.draft with patch := none } ∧ u.isSet F.DRAFT_SWITCH_STATUS_PATCH_PENDING = false ∧
      (u.irqOf 1).status.getLsbD I.DRAFT_PATCH_DROPPED.2 = true ∧ SameRegs w u (R.DRAFT_SWITCH_STATUS :: eventRegs ++ cmdRegs 1))) ∧
  Completes 1 7 .imageWrite
    (fun w => w.arg 1 0 ≤ 1 ∧ 1 ≤ w.arg 1 3 ∧ w.arg 1 3 ≤ 2 ^ 25 ∧ w.pfwLow = false ∧ w.draft.imageWrite = none ∧
      w.imageState (1 - w.arg 1 0) ≠ 3 ∧ w.draft.load = none ∧ w.domain pdArchive = 0)
    (fun w u => u.imageState (w.arg 1 0) = 3 ∧ u.imageState (1 - w.arg 1 0) = w.imageState (1 - w.arg 1 0) ∧
      u.draft = { w.draft with imageWrite := some (w.arg 1 0, w.arg 1 3, w.arg 1 1 + 2 ^ 32 * w.arg 1 2) } ∧ u.archive = w.archive ∧
      SameRegs w u (R.DRAFT_IMAGES :: cmdRegs 1)) ∧
  Completes 1 8 .imageErase
    (fun w => w.arg 1 0 ≤ 1 ∧ w.mode ≠ 1 ∧ w.domain pdArchive = 0)
    (fun w u => u.imageState (w.arg 1 0) = 0 ∧ u.imageState (1 - w.arg 1 0) = w.imageState (1 - w.arg 1 0) ∧
      (u.irqOf 1).status.getLsbD I.DRAFT_IMAGE_DONE.2 = true ∧
      (∀ a, smGet (archiveDefault a) u.archive a =
        if 2 ^ 25 * w.arg 1 0 ≤ a ∧ a < 2 ^ 25 * w.arg 1 0 + 2 ^ 25 then 0xFF else smGet (archiveDefault a) w.archive a) ∧
      SameRegs w u (R.DRAFT_IMAGES :: eventRegs ++ cmdRegs 1)) ∧
  (∀ path, Happens (.cardLock · path) (fun w => w.Reaches path R.DRAFT_CTRL)
    (fun w u => u.isSet F.DRAFT_CTRL_CARD_LOCK = true ∧ u.isSet F.DRAFT_CTRL_REQUIRE_SIGNED = w.isSet F.DRAFT_CTRL_REQUIRE_SIGNED ∧
      SameRegs w u (R.DRAFT_CTRL :: noteRegs))) ∧
  (∀ path, Happens (.requireSigned · path) (fun w => w.Reaches path R.DRAFT_CTRL)
    (fun w u => u.isSet F.DRAFT_CTRL_REQUIRE_SIGNED = true ∧ u.isSet F.DRAFT_CTRL_CARD_LOCK = w.isSet F.DRAFT_CTRL_CARD_LOCK ∧
      SameRegs w u (R.DRAFT_CTRL :: noteRegs)))

/-- How loads, images and switches end (R49 to R60): the boot source starts a load; a draft that passes every check is taken, with every USED
domain ON and the mode M2, and one that fails leads to M0 with the reason, the section and the offset; a card is held under its slot, a
patch pends; an image's bytes stand in the Archive; at the instant of S the patch and the mode take effect, and not before. -/
def Obligations.DraftEventsHappen : Prop :=
  Happens (.automaticBoot ·)
    (fun w => w.power.boot = true ∧ w.mode = 0 ∧ w.pfwLow = false ∧ w.power.bootHeld = false ∧ w.power.warmAt = none ∧ w.boot.1 = 1 ∧
      w.imageState 0 = 1)
    (fun w u => u.mode = 1 ∧ u.fld F.DRAFT_STATUS_LOAD_STATE = 1 ∧ u.power.boot = false ∧
      u.draft.load = some { kind := .draft, source := 1, address := 0, length := 0, auto := true, start := w.bases.mono }) ∧
  (∀ o l, l.kind = .draft ∧ l.source = 0 → Happens (.loadDone · o [])
    (fun w => w.draft.load = some l ∧ w.checkDraft (o.take l.length).length (o.take l.length) = none)
    (fun _ u => u.mode = 2 ∧ u.draft.base = some (Obj.read ((o.take l.length).take (ohTotal (o.take l.length)))) ∧ u.draft.load = none ∧
      u.fld F.DRAFT_STATUS_LOAD_STATE = 2 ∧ u.draftId = ohDraftId (o.take l.length) ∧
      u.regN R.DRAFT_GENERATION = ohGeneration (o.take l.length) ∧
      (∀ d : Nat, d < 16 → u.domain d = if u.usedDomain d then 0 else 3) ∧
      (u.irqOf 1).status.getLsbD I.DRAFT_LOAD_DONE.2 = true ∧ u.draft.cards = [] ∧ u.draft.patch = none)) ∧
  (∀ o l f, l.kind = .draft ∧ l.source = 0 ∧ l.auto = false ∧ f.reason < 16 ∧ f.sec < 256 ∧ f.off < 2 ^ 32 →
    Happens (.loadDone · o [])
    (fun w => w.draft.load = some l ∧ w.checkDraft (o.take l.length).length (o.take l.length) = some f)
    (fun _ u => u.mode = 0 ∧ u.draft.base = none ∧ u.draft.load = none ∧ u.fld F.DRAFT_STATUS_LOAD_STATE = 3 ∧
      u.fld F.DRAFT_STATUS_FAIL_REASON = f.reason ∧ u.fld F.DRAFT_STATUS_FAIL_SECTION = f.sec ∧ u.regN R.DRAFT_FAIL_OFFSET = f.off ∧
      (u.irqOf 1).status.getLsbD I.DRAFT_LOAD_FAIL.2 = true)) ∧
  (∀ o l off rt, l.kind = .draft ∧ l.source = 0 ∧ l.auto = false ∧ off < 2 ^ 32 → Happens (.loadFail · o rt (some off))
    (fun w => w.draft.load = some l)
    (fun _ u => u.mode = 0 ∧ u.draft.base = none ∧ u.draft.load = none ∧ u.fld F.DRAFT_STATUS_LOAD_STATE = 3 ∧
      u.fld F.DRAFT_STATUS_FAIL_REASON = frSourceIo ∧ u.regN R.DRAFT_FAIL_OFFSET = off)) ∧
  (∀ o l, l.kind = .card ∧ l.source = 0 → Happens (.cardLoaded · o [])
    (fun w => w.draft.load = some l ∧ w.cardVerdict (o.take l.length).length (o.take l.length) = none)
    (fun w u => u.draft.load = none ∧ smFind u.draft.cards (ohSlot (o.take l.length)) = some (Obj.read (o.take l.length)) ∧
      u.draft.binding (ohBind (o.take l.length)) = some (ohSlot (o.take l.length)) ∧
      u.boundCard (ohBind (o.take l.length)) = some (ohSlot (o.take l.length)) ∧
      bit (u.fld F.DRAFT_CARDS_HELD) (ohSlot (o.take l.length)) = true ∧ u.mode = w.mode ∧
      SameRegs w u ([R.DRAFT_CARDS, R.DRAFT_BIND0, R.DRAFT_BIND1] ++ eventRegs))) ∧
  (∀ o l v, l.kind = .card ∧ l.source = 0 → Happens (.cardLoaded · o [])
    (fun w => w.draft.load = some l ∧ w.cardVerdict (o.take l.length).length (o.take l.length) = some v)
    (fun w u => u.draft = { w.draft with load := none } ∧ (u.irqOf 1).status.getLsbD I.DRAFT_CARD_FAIL.2 = true ∧
      SameRegs w u eventRegs)) ∧
  (∀ o l, l.kind = .patch ∧ l.source = 0 → Happens (.patchAccepted · o [])
    (fun w => w.draft.load = some l ∧ w.patchVerdict (o.take l.length).length l.slot (o.take l.length) = none)
    (fun w u => u.draft = { w.draft with load := none, patch := some (Obj.read (o.take l.length), l.slot) } ∧
      u.isSet F.DRAFT_SWITCH_STATUS_PATCH_PENDING = true ∧ SameRegs w u (R.DRAFT_SWITCH_STATUS :: eventRegs))) ∧
  (∀ l good n len x, n ≤ 1 ∧ len ≤ 2 ^ 25 → Happens (.imageDone · l good)
    (fun w => w.draft.imageWrite = some (n, len, x))
    (fun w u => u.draft = { w.draft with imageWrite := none } ∧ u.imageState n = (if good then 1 else 2) ∧
      (u.irqOf 1).status.getLsbD I.DRAFT_IMAGE_DONE.2 = true ∧
      (∀ a, smGet (archiveDefault a) u.archive a =
        if 2 ^ 25 * n ≤ a ∧ a < 2 ^ 25 * n + 2 ^ 25 then (l.take len).getD (a - 2 ^ 25 * n) 0xFF else smGet (archiveDefault a) w.archive a) ∧
      SameRegs w u (R.DRAFT_IMAGES :: eventRegs))) ∧
  (∀ x, x.target ≤ 11 → Happens (.switchSlot ·)
    (fun w => w.draft.patch = none ∧ w.testStopped = false ∧ w.draft.switch = some x ∧ w.instant 0 x.slot ≤ w.now)
    (fun w u => u.mode = x.target ∧ u.draft.switch ≠ some x ∧ u.draft.base = w.draft.base ∧ u.cardInForce = x.card.map (· % 16) ∧
      u.regN R.DRAFT_SWITCH_COUNT = (w.regN R.DRAFT_SWITCH_COUNT + 1) % 2 ^ 32)) ∧
  (∀ o tag, Happens (.switchSlot ·)
    (fun w => w.draft.patch = some (o, tag) ∧ w.draft.switch = none ∧ w.instant 0 tag ≤ w.now)
    (fun w u => u.mode = w.mode ∧ u.draft.patch = none ∧ u.draft.base = w.draft.base.map (fun b => b.patched o) ∧ u.draft.lastSwitch = tag ∧
      u.regN R.DRAFT_SWITCH_COUNT = (w.regN R.DRAFT_SWITCH_COUNT + 1) % 2 ^ 32 ∧
      (u.irqOf 1).status.getLsbD I.DRAFT_PATCH_APPLIED.2 = true)) ∧
  Happens (.switchSlot ·)
    (fun w => (∀ p ∈ w.draft.patch.toList, w.now < w.instant 0 p.2) ∧ ∀ x ∈ w.draft.switch.toList, w.now < w.instant 0 x.slot)
    (fun w u => u.draft = w.draft ∧ u.loom = w.loom ∧ u.out = w.out ∧ SameRegs w u []) ∧
  (∀ x, x.target ≤ 11 → Happens (.stagingComplete ·)
    (fun w => w.testStopped = true ∧ w.draft.switch = some x ∧ x.staged ≤ w.bases.mono)
    (fun w u => u.mode = x.target ∧ u.regN R.DRAFT_SWITCH_COUNT = (w.regN R.DRAFT_SWITCH_COUNT + 1) % 2 ^ 32 ∧ u.draft.base = w.draft.base))

/-- TIME's commands (R75, R76, R83, R84, R87, R89). SET_GRID steps GRID to its argument; SET_TEST loads TEST; PATH_ACCEPT adopts the
departure and acquires again; CLEAR_ASYM zeroes the compensation; SET_UTC gives TAI minus UTC by hand; PULSE_ARM arms a pulse from its
registers and PULSE_DISARM takes it away. -/
def Obligations.TimeCommandsComplete : Prop :=
  Completes 3 1 .setGrid
    (fun w => w.mode = 2 ∨
      (w.mode < 2 ∧ w.isSet F.TIME_STATUS_EVER_LOCKED = false ∧ (w.servo = svFreerun ∨ w.servo = svAcquire)))
    (fun w u => u.bases = { w.bases with grid := w.arg64 3 }) ∧
  Completes 3 2 .setTest (fun w => w.isSet F.TIME_CTRL_TEST_RUN = false)
    (fun w u => u.bases = { w.bases with test := w.arg64 3, testFrac := 0 }) ∧
  Completes 3 3 .pathAccept (fun w => w.servo = svSuspect ∧ w.arg 3 0 < 2)
    (fun w u => u.servo = svAcquire ∧ u.time.delays = [] ∧
      u.regN R.TIME_ASYM_COMP = satSigned32 (signed 32 (w.regN R.TIME_ASYM_COMP) +
        if w.arg 3 0 = 1 then signed 32 (w.regN R.TIME_PATH_OFFSET) else 0)) ∧
  Completes 3 4 .clearAsym (fun w => w.mode = 2 ∨ w.mode = 9)
    (fun w u => u.regN R.TIME_ASYM_COMP = 0 ∧ SameRegs w u (R.TIME_ASYM_COMP :: cmdRegs 3)) ∧
  Completes 3 5 .setUtc
    (fun w => ∀ c ∈ ([1, 2, 3, 4, 5, 6, 7, 8, 10] : List Nat), w.qualified c = false)
    (fun w u => u.fld F.TIME_UTC_TAI_UTC = w.arg 3 0 % 65536 ∧ u.fld F.TIME_UTC_SOURCE = 3 ∧ u.fld F.TIME_UTC_VALID = 1 ∧
      u.fld F.TIME_UTC_PENDING = bits (w.arg 3 1) 0 0) ∧
  Completes 3 6 .pulseArm
    (fun w => w.arg 3 0 < 4 ∧ 8 ≤ w.regN (R.TIME_PULSEn_WIDTH (w.arg 3 0)) ∧
      (w.regN (R.TIME_PULSEn_PERIOD (w.arg 3 0)) = 0 →
        w.base (w.isSet (F.TIME_PULSEn_CTRL_BASE (w.arg 3 0))) ≤ w.pairAt (R.TIME_PULSEn_START_LO (w.arg 3 0))) ∧
      (w.regN (R.TIME_PULSEn_PERIOD (w.arg 3 0)) ≠ 0 → 100 ≤ w.regN (R.TIME_PULSEn_PERIOD (w.arg 3 0)) ∧
        w.regN (R.TIME_PULSEn_WIDTH (w.arg 3 0)) + 8 ≤ w.regN (R.TIME_PULSEn_PERIOD (w.arg 3 0))) ∧
      (smGet {} w.time.pulses (w.arg 3 0)).level = false)
    (fun w u => u.isSet (F.TIME_PULSEn_CTRL_ARMED (w.arg 3 0)) = true ∧
      smFind u.time.pulses (w.arg 3 0) = some (armPulse (w.base (w.isSet (F.TIME_PULSEn_CTRL_BASE (w.arg 3 0))))
        (w.isSet (F.TIME_PULSEn_CTRL_BASE (w.arg 3 0))) (w.pairAt (R.TIME_PULSEn_START_LO (w.arg 3 0)))
        (w.regN (R.TIME_PULSEn_PERIOD (w.arg 3 0))) (w.regN (R.TIME_PULSEn_WIDTH (w.arg 3 0)))) ∧
      SameRegs w u (R.TIME_PULSEn_CTRL (w.arg 3 0) :: cmdRegs 3)) ∧
  Completes 3 7 .pulseDisarm (fun w => w.arg 3 0 < 4)
    (fun w u => u.isSet (F.TIME_PULSEn_CTRL_ARMED (w.arg 3 0)) = false ∧ smFind u.time.pulses (w.arg 3 0) = none ∧
      SameRegs w u (R.TIME_PULSEn_CTRL (w.arg 3 0) :: cmdRegs 3))

/-- TIME's events: the messages of the PTP ports (R74, R75, R82), the sources' loss (R71), edges, sentences and frames of the wired inputs
(R71, R80), the cross-check (R73) and the leap second (R84). A source that is not followed and not yet qualified counts its good samples;
the followed one of a locked servo has its offset accepted. -/
def Obligations.TimeSourcesHappen : Prop :=
  (∀ port cls acc steps gm inacc, port < 8 → Happens (.ptpMessage · port (.announce 9 cls acc steps gm none false false inacc))
    (fun w => w.domain pdTime = 0 ∧ w.linkIsUp port = true ∧ bit (w.fld F.TIME_PTP_CFG_PORTS) port = true ∧ cls ≤ w.fld F.TIME_PTP_CFG_MAX_CLASS ∧
      w.isSet F.TIME_UTC_PENDING = false)
    (fun w u => bits (u.regN R.TIME_PTP_PORT_STATE) (4 * port + 3) (4 * port) = 9 ∧ (u.src (port + 1)).clockClass = cls ∧
      (u.src (port + 1)).announce = w.bases.mono ∧
      (w.fld F.TIME_STATUS_GRID_SOURCE = port + 1 → u.pairAt R.TIME_GM_ID_LO = gm % 2 ^ 64) ∧
      SameRegs w u [R.TIME_PTP_PORT_STATE, R.TIME_GM_QUALITY, R.TIME_GM_ID_LO, R.TIME_GM_ID_LO + 4, R.TIME_UTC])) ∧
  (∀ port t1 t2 t3 t4 corr, port < 8 → Happens (.ptpMessage · port (.pdelay t1 t2 t3 t4 corr))
    (fun w => w.domain pdTime = 0 ∧ w.linkIsUp port = true ∧ bit (w.fld F.TIME_PTP_CFG_PORTS) port = true)
    (fun w u => (u.src (port + 1)).delay = ((w.rxStamp port t4 - w.txStamp port t1 - ((t3 : Int) - t2) - corr) / 2).toNat ∧
      (u.src (port + 1)).fresh = true ∧ SameRegs w u [R.TIME_PATH_DELAY])) ∧
  (∀ port stamp, port < 8 → Happens (.ptpMessage · port (.pdelayReq stamp))
    (fun w => w.domain pdTime = 0 ∧ w.linkIsUp port = true ∧ bit (w.fld F.TIME_PTP_CFG_PORTS) port = true)
    (fun w u => u.out = .ptp port 10 (w.txStamp port w.bases.grid).toNat w.masterClass (w.fld F.TIME_PTP_CFG_DOMAIN) (w.fld F.TIME_PTP_CFG_PROFILE) ::
        .ptp port 3 (w.rxStamp port stamp).toNat w.masterClass (w.fld F.TIME_PTP_CFG_DOMAIN) (w.fld F.TIME_PTP_CFG_PROFILE) :: w.out ∧
      SameRegs w u [])) ∧
  (∀ port origin corr stamp interval, port < 8 → Happens (.ptpMessage · port (.sync origin corr stamp interval))
    (fun w => w.domain pdTime = 0 ∧ w.linkIsUp port = true ∧ bit (w.fld F.TIME_PTP_CFG_PORTS) port = true ∧
      bits (w.regN R.TIME_PTP_PORT_STATE) (4 * port + 3) (4 * port) = 9 ∧
      (w.src (port + 1)).clockClass ≤ w.fld F.TIME_PTP_CFG_MAX_CLASS ∧ w.fld F.TIME_STATUS_GRID_SOURCE ≠ port + 1 ∧
      (w.src (port + 1)).good < 9)
    (fun w u => (u.src (port + 1)).good = (w.src (port + 1)).good + 1 ∧ (u.src (port + 1)).last = w.bases.mono ∧
      (u.src (port + 1)).offset =
        w.rxStamp port stamp - ((origin : Int) + corr + (w.src (port + 1)).delay) - signed 32 (w.regN R.TIME_ASYM_COMP) ∧
      SameRegs w u [R.TIME_AUX_DIFF])) ∧
  (∀ port origin corr stamp interval, port < 8 → Happens (.ptpMessage · port (.sync origin corr stamp interval))
    (fun w => w.domain pdTime = 0 ∧ w.linkIsUp port = true ∧ bit (w.fld F.TIME_PTP_CFG_PORTS) port = true ∧
      bits (w.regN R.TIME_PTP_PORT_STATE) (4 * port + 3) (4 * port) = 9 ∧
      (w.src (port + 1)).clockClass ≤ w.fld F.TIME_PTP_CFG_MAX_CLASS ∧ w.fld F.TIME_STATUS_GRID_SOURCE = port + 1 ∧
      w.qualified (port + 1) = true ∧ (w.src (port + 1)).suspect = none ∧ w.servo = svLocked ∧ w.time.tooLarge = false ∧
      w.isSet F.TIME_CTRL_FORCE_HOLDOVER = false ∧ w.time.delays = [] ∧
      (w.rxStamp port stamp - ((origin : Int) + corr + (w.src (port + 1)).delay) - signed 32 (w.regN R.TIME_ASYM_COMP)).natAbs ≤ 10 ^ 9)
    (fun w u => u.regN R.TIME_OFFSET = satSigned32
        (w.rxStamp port stamp - ((origin : Int) + corr + (w.src (port + 1)).delay) - signed 32 (w.regN R.TIME_ASYM_COMP)) ∧
      u.time.slew = -(w.rxStamp port stamp - ((origin : Int) + corr + (w.src (port + 1)).delay) - signed 32 (w.regN R.TIME_ASYM_COMP)) ∧
      u.servo = svLocked)) ∧
  (∀ c, 1 ≤ c ∧ c ≤ 8 → Happens (.sourceTimeout · c)
    (fun w => (w.src c).last + 3 * (w.src c).interval ≤ w.bases.mono)
    (fun _ u => u.qualified c = false ∧ (u.src c).good = 0)) ∧
  (∀ stamp, Happens (.ppsEdge · stamp)
    (fun w => w.domain pdTime = 0 ∧ w.isSet F.TIME_INPUT_CFG_PPS_EN = true ∧ 999999000 ≤ w.bases.mono - (w.src 9).edge ∧
      w.bases.mono - (w.src 9).edge ≤ 1000001000 ∧ 400000000 ≤ w.errorBound ∧ w.qualified 11 = false)
    (fun w u => (u.src 9).edge = w.bases.mono ∧ (u.src 9).labelled = false ∧
      (u.src 9).edgeGrid = ((stamp : Int) - signed 32 (w.regN R.TIME_PPS_I_COMP)).toNat ∧
      (u.src 11).good = (w.src 11).good + 1 ∧ SameRegs w u [])) ∧
  (∀ utc, Happens (.todSentence · utc true)
    (fun w => w.domain pdTime = 0 ∧ w.isSet F.TIME_INPUT_CFG_TOD_EN = true ∧ (w.src 9).labelled = false ∧
      100000000 ≤ w.bases.mono - (w.src 9).edge ∧ w.bases.mono - (w.src 9).edge ≤ 900000000 ∧
      w.fld F.TIME_STATUS_GRID_SOURCE ≠ 9 ∧ (w.src 9).good < 9 ∧ 0 ≤ w.taiUtc)
    (fun w u => (u.src 9).labelled = true ∧ ((u.src 9).label : Int) = utc + w.taiUtc ∧
      (u.src 9).offset = ((w.src 9).edgeGrid : Int) - 1000000000 * (utc + w.taiUtc) ∧ SameRegs w u [R.TIME_AUX_DIFF])) ∧
  (∀ stamp y second q, ∀ o : Int, 1970 ≤ y → Happens (.irigFrame · stamp true true (some y) second o q false false)
    (fun w => w.domain pdTime = 0 ∧ w.isSet F.TIME_INPUT_CFG_IRIG_EN = true ∧ w.isSet F.TIME_UTC_PENDING = false ∧
      w.fld F.TIME_STATUS_GRID_SOURCE ≠ 10 ∧ (w.src 10).good < 9)
    (fun w u => (u.src 10).label = ((86400 * daysToYear y + second : Nat) - o + w.taiUtc).toNat ∧ (u.src 10).inaccuracy = q ∧
      (u.src 10).offset = (stamp : Int) - signed 32 (w.regN R.TIME_IRIG_COMP) -
        1000000000 * ((86400 * daysToYear y + second : Nat) - o + w.taiUtc) ∧ SameRegs w u [R.TIME_AUX_DIFF])) ∧
  Happens .crossFail
    (fun w => w.time.crossSince.isSome = true ∧ w.time.crossSince.getD 0 + 1000000000 ≤ w.bases.mono ∧
      ∀ c : Nat, c < 12 → c ≠ w.fld F.TIME_STATUS_GRID_SOURCE → c ≠ w.fld F.TIME_STATUS_AUX_SOURCE → w.qualified c = false)
    (fun w u => u.time.crossOut = [w.fld F.TIME_STATUS_GRID_SOURCE, w.fld F.TIME_STATUS_AUX_SOURCE] ∧
      u.qualified (w.fld F.TIME_STATUS_GRID_SOURCE) = false ∧ u.qualified (w.fld F.TIME_STATUS_AUX_SOURCE) = false) ∧
  Happens .crossAgree
    (fun w => w.time.agreeSince.isSome = true ∧ w.time.agreeSince.getD 0 + 10000000000 ≤ w.bases.mono)
    (fun w u => u.time.crossOut = [] ∧ u.time.agreeSince = none ∧
      ∀ c ∈ w.time.crossOut, 10 ≤ (w.src c).good → (w.src c).suspect = none → u.qualified c = true) ∧
  Happens .leapApplied
    (fun w => w.time.leapAt.isSome = true ∧ 1000000000 * w.time.leapAt.getD 0 ≤ w.bases.grid)
    (fun w u => u.fld F.TIME_UTC_TAI_UTC = unsigned 16 (w.taiUtc + if w.fld F.TIME_UTC_DIRECTION = 0 then 1 else -1) ∧
      u.isSet F.TIME_UTC_PENDING = false ∧ u.isSet F.TIME_UTC_OCCURRED = true ∧ u.time.leapAt = none ∧
      u.time.leapDone = w.time.leapAt ∧ SameRegs w u (R.TIME_UTC :: eventRegs))

/-- TIME's outputs and its PLL (R70, R74, R81, R87). -/
def Obligations.TimeOutputsHappen : Prop :=
  Happens .timePllLock (fun w => w.domain pdTime = 0 ∧ w.ranked = [])
    (fun _ u => u.time.pllLocked = true ∧ u.servo ≠ svAcquire) ∧
  Happens .timePllLock
    (fun w => w.domain pdTime = 0 ∧ w.ranked ≠ [] ∧ w.servo = svFreerun ∧ w.isSet F.TIME_CTRL_FORCE_HOLDOVER = false ∧
      w.time.tooLarge = false)
    (fun _ u => u.time.pllLocked = true ∧ u.servo = svAcquire) ∧
  Happens .ptpTransmit (fun w => w.domain pdTime = 0)
    (fun w u => (∀ p ∈ List.range 8, w.linkIsUp p = true → bit (w.fld F.TIME_PTP_CFG_PORTS) p = true →
        Output.ptp p 2 w.bases.grid w.masterClass (w.fld F.TIME_PTP_CFG_DOMAIN) (w.fld F.TIME_PTP_CFG_PROFILE) ∈ u.out) ∧
      (∀ p ∈ List.range 8, w.linkIsUp p = true → bit (w.fld F.TIME_PTP_CFG_PORTS) p = true → w.ptpState p = 6 →
        w.isSet F.TIME_PTP_CFG_SLAVE_ONLY = false → (w.isSet F.TIME_PTP_CFG_BOUNDARY = false → ∀ q ∈ List.range 8, w.ptpState q ≠ 9) →
        Output.ptp p 0 w.bases.grid w.masterClass (w.fld F.TIME_PTP_CFG_DOMAIN) (w.fld F.TIME_PTP_CFG_PROFILE) ∈ u.out ∧
        Output.ptp p 8 (w.txStamp p w.bases.grid).toNat w.masterClass (w.fld F.TIME_PTP_CFG_DOMAIN) (w.fld F.TIME_PTP_CFG_PROFILE) ∈ u.out ∧
        Output.ptp p 11 w.bases.grid w.masterClass (w.fld F.TIME_PTP_CFG_DOMAIN) (w.fld F.TIME_PTP_CFG_PROFILE) ∈ u.out) ∧ SameRegs w u []) ∧
  Happens .ppsOEdge
    (fun w => w.domain pdTime = 0 ∧ w.time.ppsHigh = false ∧ w.time.ppsLast < w.bases.grid / 1000000000 ∧ w.scanned = false ∧
      (w.isSet F.TIME_PPS_O_CFG_GATE = true → w.servo ≠ svFreerun))
    (fun w u => u.time = { w.time with ppsHigh := true, ppsLast := w.bases.grid / 1000000000 } ∧ u.out = .ball .pps true :: w.out ∧
      SameRegs w u []) ∧
  Happens .ppsOEdge
    (fun w => w.domain pdTime = 0 ∧ w.time.ppsHigh = true ∧ w.fld F.TIME_PPS_O_CFG_WIDTH ≤ w.bases.grid % 1000000000 ∧ w.scanned = false)
    (fun w u => u.time = { w.time with ppsHigh := false } ∧ u.out = .ball .pps false :: w.out ∧ SameRegs w u []) ∧
  (∀ n, Happens (.pulseEdge · n)
    (fun w => w.domain pdTime = 0 ∧ (smGet {} w.time.pulses n).level = false ∧ (smGet {} w.time.pulses n).armed = true ∧
      (smGet {} w.time.pulses n).next ≤ w.base (smGet {} w.time.pulses n).onTest ∧ w.scanned = false)
    (fun w u => smGet {} u.time.pulses n = { smGet {} w.time.pulses n with level := true } ∧ u.out = .ball (.pulse n) true :: w.out ∧
      SameRegs w u [])) ∧
  (∀ n, Happens (.pulseEdge · n)
    (fun w => w.domain pdTime = 0 ∧ (smGet {} w.time.pulses n).level = true ∧ (smGet {} w.time.pulses n).waiting = none ∧
      (smGet {} w.time.pulses n).next + (smGet {} w.time.pulses n).width ≤ w.base (smGet {} w.time.pulses n).onTest ∧
      (smGet {} w.time.pulses n).period ≠ 0 ∧ w.scanned = false)
    (fun w u => smGet {} u.time.pulses n = { smGet {} w.time.pulses n with
        level := false, next := (smGet {} w.time.pulses n).next + (smGet {} w.time.pulses n).period } ∧
      u.out = .ball (.pulse n) false :: w.out ∧ SameRegs w u [R.TIME_PULSEn_CTRL n]))

/-- The ports' commands (R101, R103, R111): an entry of the multicast table is written from the staging registers or made invalid, a
port's link starts again, a pair's duplicate table empties. -/
def Obligations.PortCommandsComplete : Prop :=
  Completes 2 1 .mcastWrite (fun w => w.arg 2 0 < 256 ∧ 2 ≤ w.mode)
    (fun w u => (∀ k ∈ List.range 8, u.mcastWord (w.arg 2 0) k = w.regN (R.PORT_MCAST_STAGE0 + 4 * k) &&& mcastMask k) ∧
      SameRegs w u ((List.range 8).map (R.PORT_MCASTn_W0 (w.arg 2 0) + 4 * ·) ++ eventRegs ++ cmdRegs 2)) ∧
  Completes 2 2 .mcastClear (fun w => w.arg 2 0 < 256)
    (fun w u => u.isSet (F.PORT_MCASTn_W0_VALID (w.arg 2 0)) = false ∧
      SameRegs w u (R.PORT_MCASTn_W0 (w.arg 2 0) :: eventRegs ++ cmdRegs 2)) ∧
  Completes 2 3 .linkRestart (fun w => w.arg 2 0 < 8 ∧ w.domain (portDomain (w.arg 2 0)) ≠ 3)
    (fun w u => u.isSet (F.PORT_LINK_UP (w.arg 2 0)) = false ∧
      SameRegs w u ([R.PORT_LINK (w.arg 2 0), R.PORT_LINK_DOWNS (w.arg 2 0), R.PORT_STATUS] ++ eventRegs ++ cmdRegs 2)) ∧
  Completes 2 4 .prpFlush (fun w => w.arg 2 0 < 8 ∧ w.arg 2 0 % 2 = 0)
    (fun w u => u.port = { w.port with prp := smDel w.port.prp (w.arg 2 0 / 2) } ∧ SameRegs w u (cmdRegs 2))

/-- The ports' events (R92, R93, R95, R103, R104): a received frame is counted by what stops it or by where it goes, a measurement frame
reaches Heddle's input in M3 to M10, a link goes up and down, PRP supervision is sent and a silent source is forgotten. -/
def Obligations.PortEventsHappen : Prop :=
  (∀ p bytes latched, p < 8 → Happens (.frameReceived · p bytes latched false)
    (fun w => w.linkIsUp p = true ∧ w.bufferUse p + (bytes.length + 4) ≤ 512 * 1024)
    (fun w u => u.regN (R.PORT_RX_FCS_ERR p) = (w.regN (R.PORT_RX_FCS_ERR p) + 1) % 2 ^ 32 ∧ u.hedQ = w.hedQ ∧
      SameRegs w u [R.PORT_RX_FCS_ERR p])) ∧
  (∀ p bytes latched, p < 8 → Happens (.frameReceived · p bytes latched true)
    (fun w => w.linkIsUp p = true ∧ w.bufferUse p + (bytes.length + 4) ≤ 512 * 1024 ∧
      (bytes.length < 60 ∨ (if w.isSet (F.PORT_CFG_JUMBO p) then 9212 else 1518) < bytes.length))
    (fun w u => u.regN (R.PORT_RX_LEN_ERR p) = (w.regN (R.PORT_RX_LEN_ERR p) + 1) % 2 ^ 32 ∧ u.hedQ = w.hedQ ∧
      SameRegs w u [R.PORT_RX_LEN_ERR p])) ∧
  (∀ p bytes latched, p < 8 ∧ 60 ≤ bytes.length ∧ bytes.length ≤ 1518 ∧ beAt bytes 0 6 = 0xFFFFFFFFFFFF ∧ beAt bytes 12 2 = 0x88F7 →
    Happens (.frameReceived · p bytes latched true)
      (fun w => w.linkIsUp p = true ∧ w.bufferUse p + (bytes.length + 4) ≤ 512 * 1024 ∧ w.fld (F.PORT_CFG_VLAN_MODE p) = 0)
      (fun w u => u.regN (R.PORT_RX_FRAMES p) = (w.regN (R.PORT_RX_FRAMES p) + 1) % 2 ^ 32 ∧
        u.regN (R.PORT_RX_PTP p) = (w.regN (R.PORT_RX_PTP p) + 1) % 2 ^ 32 ∧
        u.pairAt (R.PORT_RX_OCTETS_LO p) = (w.pairAt (R.PORT_RX_OCTETS_LO p) + bytes.length + 4) % 2 ^ 64 ∧
        SameRegs w u [R.PORT_RX_FRAMES p, R.PORT_RX_PTP p, R.PORT_RX_OCTETS_LO p, R.PORT_RX_OCTETS_LO p + 4])) ∧
  (∀ p bytes latched, p < 8 ∧ 60 ≤ bytes.length ∧ bytes.length ≤ 1518 ∧ beAt bytes 0 6 = 0xFFFFFFFFFFFF ∧ beAt bytes 12 2 = 0x88BA →
    Happens (.frameReceived · p bytes latched true)
      (fun w => w.linkIsUp p = true ∧ w.bufferUse p + (bytes.length + 4) ≤ 512 * 1024 ∧ w.fld (F.PORT_CFG_VLAN_MODE p) = 0 ∧
        w.inPrp p = false ∧ w.mcastValid = [] ∧ 3 ≤ w.mode ∧ w.mode ≤ 10 ∧ w.usedDomain pdHeddle = true)
      (fun w u => u.hedQ = insertFrame w.hedQ ⟨p, ((latched : Int) - w.regN (R.PORT_RX_LAT_FIXED p) -
            signed 32 (w.regN (R.PORT_RX_LAT_ADJ p))).toNat, w.onTest, 3, bytes, bytes.drop 14, [], 0⟩ ∧
        u.regN (R.PORT_RX_MEAS p) = (w.regN (R.PORT_RX_MEAS p) + 1) % 2 ^ 32 ∧
        SameRegs w u [R.PORT_RX_FRAMES p, R.PORT_RX_MEAS p, R.PORT_RX_OCTETS_LO p, R.PORT_RX_OCTETS_LO p + 4])) ∧
  (∀ p since, Happens (.linkUp · p since)
    (fun w => w.portOn p = true ∧ w.isSet (F.PORT_LINK_UP p) = false ∧ since + 10000000 ≤ w.bases.mono)
    (fun w u => u.isSet (F.PORT_LINK_UP p) = true ∧ bit (u.fld F.PORT_STATUS_LINK_UP) p = true ∧
      SameRegs w u ([R.PORT_LINK p, R.PORT_STATUS] ++ eventRegs))) ∧
  (∀ p detail, p < 8 → Happens (.linkDown · p detail false)
    (fun w => w.isSet (F.PORT_LINK_UP p) = true)
    (fun w u => u.isSet (F.PORT_LINK_UP p) = false ∧ u.regN (R.PORT_LINK_DOWNS p) = (w.regN (R.PORT_LINK_DOWNS p) + 1) % 2 ^ 32 ∧
      SameRegs w u ([R.PORT_LINK p, R.PORT_LINK_DOWNS p, R.PORT_STATUS] ++ eventRegs))) ∧
  (∀ pair, pair < 4 → Happens (.prpSupervision · pair)
    (fun w => w.inPrp (2 * pair) = true ∧ smFind w.port.supervised pair = none ∧ w.linkIsUp (2 * pair) = true ∧
      w.linkIsUp (2 * pair + 1) = true)
    (fun w u => smFind u.port.supervised pair = some w.bases.mono ∧
      smGet 0 u.port.prpSeq pair = (smGet 0 w.port.prpSeq pair + 1) % 65536 ∧ u.out.length = w.out.length + 2 ∧
      u.regN (R.PORT_TX_FRAMES (2 * pair)) = (w.regN (R.PORT_TX_FRAMES (2 * pair)) + 1) % 2 ^ 32 ∧
      u.regN (R.PORT_TX_FRAMES (2 * pair + 1)) = (w.regN (R.PORT_TX_FRAMES (2 * pair + 1)) + 1) % 2 ^ 32 ∧
      SameRegs w u [R.PORT_TX_FRAMES (2 * pair), R.PORT_TX_FRAMES (2 * pair + 1), R.PORT_TX_OCTETS_LO (2 * pair),
        R.PORT_TX_OCTETS_LO (2 * pair) + 4, R.PORT_TX_OCTETS_LO (2 * pair + 1), R.PORT_TX_OCTETS_LO (2 * pair + 1) + 4])) ∧
  (∀ pair mac, Happens (.prpForget · pair mac)
    (fun w => (smFind (smGet [] w.port.prp pair) mac).isSome = true ∧
      ((smFind (smGet [] w.port.prp pair) mac).getD { top := 0, window := 0, last := 0 }).last +
        1000000 * w.fld (F.PORT_PRP_CFG_FORGET pair) ≤ w.bases.mono)
    (fun w u => smFind (smGet [] u.port.prp pair) mac = none ∧ SameRegs w u []))

/-- HEDDLE's commands (R128, R137, R139, R140): a stream's state is read, its run-time enable set, its configuration asked for, a key
loaded from the stage registers, which are then cleared, and a key made invalid. -/
def Obligations.HeddleCommandsComplete : Prop :=
  Completes 4 1 .streamState
    (fun w => w.arg 4 0 ≤ 8191 ∧ stClass (w.stream (w.arg 4 0)) ≠ 0)
    (fun w u => u.results 4 = (65536 * min ((w.streamSt (w.arg 4 0)).frames.filter
          (fun m => decide (w.bases.mono < m + 1000000000))).length 65535 + w.streamState (w.arg 4 0),
        (w.streamSt (w.arg 4 0)).last % 2 ^ 32) ∧ u.heddle = w.heddle ∧ SameRegs w u (cmdRegs 4)) ∧
  Completes 4 2 .streamEnable
    (fun w => 2 ≤ w.mode ∧ w.mode ≤ 10 ∧ w.arg 4 0 ≤ 8191 ∧ stClass (w.stream (w.arg 4 0)) ≠ 0 ∧ w.arg 4 1 = 1 ∧
      stFlag (w.stream (w.arg 4 0)) 0 = true ∧ (w.streamSt (w.arg 4 0)).enabled = false)
    (fun w u => (u.streamSt (w.arg 4 0)).enabled = true ∧ (u.streamSt (w.arg 4 0)).st = 1 ∧
      (u.streamSt (w.arg 4 0)).ref = some w.bases.mono) ∧
  Completes 4 2 .streamEnable
    (fun w => 2 ≤ w.mode ∧ w.mode ≤ 10 ∧ w.arg 4 0 ≤ 8191 ∧ stClass (w.stream (w.arg 4 0)) ≠ 0 ∧ w.arg 4 1 = 0)
    (fun w u => (u.streamSt (w.arg 4 0)).enabled = false) ∧
  Completes 4 3 .requestCfg
    (fun w => w.arg 4 0 ≤ 8191 ∧ (stClass (w.stream (w.arg 4 0)) = 1 ∨ stClass (w.stream (w.arg 4 0)) = 2) ∧
      (w.arg 4 1 = 2 ∨ w.arg 4 1 = 3) ∧ ∀ m ∈ (w.streamSt (w.arg 4 0)).cmdAt, m + 1000000000 ≤ w.bases.mono)
    (fun w u => (u.streamSt (w.arg 4 0)).cmdAt = some w.bases.mono) ∧
  Completes 4 4 .keyLoad (fun w => w.arg 4 0 ≤ 63)
    (fun w u => smFind u.heddle.keys (w.arg 4 0) = some ⟨w.regN (R.HEDDLE_KEY_STAGEn 0), w.regN (R.HEDDLE_KEY_STAGEn 1) % 8,
        w.pairAt (R.HEDDLE_KEY_STAGEn 2), ((List.range 8).map fun n => beBytes 4 (w.regN (R.HEDDLE_KEY_STAGEn (4 + n)))).flatten⟩ ∧
      (∀ n ∈ List.range 12, u.regN (R.HEDDLE_KEY_STAGEn n) = 0) ∧
      SameRegs w u ((List.range 12).map (fun n => R.HEDDLE_KEY_STAGEn n) ++ eventRegs ++ cmdRegs 4)) ∧
  Completes 4 5 .keyInvalidate (fun w => w.arg 4 0 ≤ 63)
    (fun w u => u.heddle = { w.heddle with keys := smDel w.heddle.keys (w.arg 4 0) } ∧ SameRegs w u (cmdRegs 4))

/-- A C37.118 frame at the front of Heddle's input (R121, R125, R126, R134): a data frame of a stream that is heard again brings it up
and moves its last stamp; a configuration frame that does not match holds the stream; a header frame is copied to the host; a command
frame is dropped. -/
def Obligations.HeddleC37Happens : Prop :=
  (∀ f sid e t, Happens .c37DataFrame
    (fun w => (w.takeC37 [0] (fun f e => (w.c37Stamp f.payload e).1)).2 = some (f, sid, e, t) ∧ (w.streamSt sid).freed = none ∧
      beAt f.payload 1 1 % 16 = stVersion e ∧ f.payload.length = stFrameSize e ∧
      16 + (((List.range (stBlocks e)).map fun i => entryOf (w.cfgAt secStreams t) 1 (stFirstBlock e + i)).map blockBytes).sum =
        f.payload.length ∧
      (w.streamSt sid).judge (stRate e) t = 0 ∧ ((w.streamSt sid).st = 1 ∨ (w.streamSt sid).st = 3) ∧
      ∀ b ∈ frameBlocks ((List.range (stBlocks e)).map fun i => entryOf (w.cfgAt secStreams t) 1 (stFirstBlock e + i)) (stFirstTid e)
        (f.payload.drop 14), bit (beAt b.2.2 0 2) 10 = false)
    (fun w u => u.hedQ = w.hedQ.tail ∧ (u.streamSt sid).st = 2 ∧ (u.streamSt sid).ref = some w.bases.mono ∧
      (u.streamSt sid).stamps.contains t = true)) ∧
  (∀ f sid e t sig cnt, Happens .c37ConfigFrame
    (fun w => (w.takeC37 [2, 3, 5] (fun f e => (w.c37Stamp f.payload e).1)).2 = some (f, sid, e, t) ∧
      cfgSignature f.c37Type f.payload = some (sig, cnt))
    (fun w u => u.hedQ = w.hedQ.tail ∧ (sig ≠ stCfgSig e → (u.streamSt sid).st = 5) ∧
      (sig = stCfgSig e → (u.streamSt sid).st ≠ 4 ∧ (u.streamSt sid).st ≠ 5))) ∧
  (∀ f sid e t, Happens .c37HeaderFrame
    (fun w => (w.takeC37 [1] (fun f e => (w.c37Stamp f.payload e).1)).2 = some (f, sid, e, t) ∧
      w.isSet F.HEDDLE_CTRL_HEADER_TO_HOST = true ∧ w.queueIs (w.fld F.HEDDLE_QUEUES_CFG_QUEUE) 0 = true ∧
      (w.queue (w.fld F.HEDDLE_QUEUES_CFG_QUEUE)).level + packetSize (16 + f.payload.length) ≤
        w.queueSize (w.fld F.HEDDLE_QUEUES_CFG_QUEUE))
    (fun w u => u.hedQ = w.hedQ.tail ∧ (u.queue (w.fld F.HEDDLE_QUEUES_CFG_QUEUE)).packets =
      (w.queue (w.fld F.HEDDLE_QUEUES_CFG_QUEUE)).packets ++ [((w.queue (w.fld F.HEDDLE_QUEUES_CFG_QUEUE)).seq,
        leBytes 8 f.stamp ++ leBytes 2 sid ++ leBytes 1 f.port ++ leBytes 1 1 ++ leBytes 2 f.payload.length ++ leBytes 2 0 ++
          f.payload)])) ∧
  (∀ f sid e t, Happens .c37CommandFrame
    (fun w => (w.takeC37 [4, 6, 7] (fun f e => (w.c37Stamp f.payload e).1)).2 = some (f, sid, e, t))
    (fun w u => u.hedQ = w.hedQ.tail ∧ u.regN R.HEDDLE_TYPE_DROP = (w.regN R.HEDDLE_TYPE_DROP + 1) % 2 ^ 32 ∧
      SameRegs w u [R.HEDDLE_TYPE_DROP]))

/-- A sampled-value frame or a session at the front of Heddle's input (R127 to R132): its samples wait for Reed, its stream has heard
it. GOOSE (R135, R136): a first message of a subscribed entry is kept with its time to live, and missed when that has run out. -/
def Obligations.HeddleIecHappens : Prop :=
  (∀ f rest sid e t a, Happens .sessionPdu
    (fun w => w.hedQ = f :: rest ∧ f.kind = 2 ∧ (readSession f.payload).id = 0xA2 ∧ (readSession f.payload).version = 1 ∧
      (readSession f.payload).tag = 0x82 ∧ (readSession f.payload).encrypt = 0 ∧ (readSession f.payload).auth = 0 ∧
      (readSession f.payload).simulated = false ∧ asdus (readSession f.payload).apdu = [a] ∧
      (w.setHedQ rest).findByStamp 3 (readSession f.payload).appid (svHash [a]) f (fun _ => w.utcTime ((berFind a 0x84).getD [])) =
        some (sid, e, t) ∧
      (berFind a 0x84).isSome = true ∧ w.streamState sid ≠ 0 ∧ stFlag e 2 = false ∧ (w.streamSt sid).freed = none ∧
      (w.streamSt sid).judge (stRate e) (w.utcTime ((berFind a 0x84).getD [])) = 0)
    (fun w u => u.hedQ = rest ∧ (u.streamSt sid).ref = some w.bases.mono ∧
      (u.streamSt sid).stamps.contains (w.utcTime ((berFind a 0x84).getD [])) = true)) ∧
  (∀ f rest sid e t a, Happens .svFrame
    (fun w => w.hedQ = f :: rest ∧ f.kind = 3 ∧ asdus (f.payload.drop 8) = [a] ∧
      (w.setHedQ rest).findByStamp 4 (beAt f.payload 0 2) (svHash [a]) f
        (fun e => svInstant f.stamp (max 1 (stRate e)) (beNat ((berFind a 0x82).getD []))) = some (sid, e, t) ∧
      w.streamState sid ≠ 0 ∧ bit (beAt f.payload 4 2) 15 = false ∧ beNat ((berFind a 0x82).getD []) < stRate e ∧
      8 * stBlocks e ≤ ((berFind a 0x87).getD []).length ∧ (w.streamSt sid).freed = none ∧
      (w.streamSt sid).judge (stRate e) (svInstant f.stamp (stRate e) (beNat ((berFind a 0x82).getD []))) = 0)
    (fun w u => u.hedQ = rest ∧ (u.streamSt sid).ref = some w.bases.mono ∧
      (u.waveQ.map fun x => (x.wid, x.time, x.raw)) = (w.waveQ.map fun x => (x.wid, x.time, x.raw)) ++
        (List.range (stBlocks e)).map fun i => (stFirstWid e + i,
          svInstant f.stamp (stRate e) (beNat ((berFind a 0x82).getD [])), beAt ((berFind a 0x87).getD []) (8 * i) 4))) ∧
  (∀ f rest i e pdu, Happens .gooseMessage
    (fun w => w.hedQ = f :: rest ∧ f.kind = 0 ∧ berFind (ber (f.payload.drop 8)) 0x61 = some pdu ∧
      (tableOf (w.cfg secStreams) 2).find? (fun e => gooseMatches e.2 f (beAt f.payload 0 2)
        (crc32c ones32 ((berFind (ber pdu) 0x80).getD [])) (bit (beAt f.payload 4 2) 15)) = some (i, e) ∧
      beNat ((berFind (ber pdu) 0x88).getD []) = leAt e 0x10 4 ∧ smFind w.heddle.goose i = none)
    (fun w u => u.hedQ = rest ∧ smFind u.heddle.goose i = some ⟨beNat ((berFind (ber pdu) 0x85).getD []),
        beNat ((berFind (ber pdu) 0x86).getD []), w.bases.mono + 1000000 * beNat ((berFind (ber pdu) 0x81).getD []), false⟩ ∧ u.regN R.HEDDLE_GOOSE_OK = (w.regN R.HEDDLE_GOOSE_OK + 1) % 2 ^ 32)) ∧
  (∀ i g, Happens (.gooseTalExpired · i)
    (fun w => smFind w.heddle.goose i = some g ∧ g.expired = false ∧ g.expires ≤ w.bases.mono)
    (fun w u => smFind u.heddle.goose i = some { g with expired := true } ∧
      u.regN R.HEDDLE_GOOSE_TAL_EXPIRED = (w.regN R.HEDDLE_GOOSE_TAL_EXPIRED + 1) % 2 ^ 32 ∧
      SameRegs w u (R.HEDDLE_GOOSE_TAL_EXPIRED :: eventRegs))) ∧
  (∀ q k p rest, leAt p 8 2 < 8192 ∧ leAt p 10 1 = 2 ∧ 8 ≤ leAt p 12 2 ∧ 16 + leAt p 12 2 ≤ p.length → Happens .injectedFrame
    (fun w => 3 ≤ w.mode ∧ w.mode ≤ 10 ∧ w.consumerQueue F.HEDDLE_QUEUES_INJECT_QUEUE = some q ∧ (w.queue q).packets = (k, p) :: rest ∧
      stClass (w.stream (leAt p 8 2)) = 2 ∧ stFlag (w.stream (leAt p 8 2)) 0 = true)
    (fun w u => (u.queue q).packets = rest ∧ u.hedQ = w.hedQ ++ [⟨0, if leAt p 0 8 = 0 then w.now else leAt p 0 8, w.onTest,
      if leAt p 0 8 = 0 then 5 else 4, [], slice p 16 (leAt p 12 2), [], 0⟩])) ∧
  (∀ sid, Happens (.silenceTimeout · sid)
    (fun w => 3 ≤ w.mode ∧ w.mode ≤ 10 ∧ (w.streamState sid = 1 ∨ w.streamState sid = 2 ∨ w.streamState sid = 4) ∧
      ((w.streamSt sid).ref).getD w.heddle.start + w.silenceTime (w.stream sid) ≤ w.bases.mono)
    (fun _ u => (u.streamSt sid).st = 3)) ∧
  (∀ sid, Happens (.dataOnRetry · sid)
    (fun w => (w.streamState sid = 1 ∨ w.streamState sid = 3) ∧ stFlag (w.stream sid) 4 = true ∧
      (stClass (w.stream sid) = 1 ∨ stClass (w.stream sid) = 2) ∧ ∀ m ∈ (w.streamSt sid).dataOn, m + 10000000000 ≤ w.bases.mono)
    (fun w u => (u.streamSt sid).dataOn = some w.bases.mono))

/-- REED's commands show the state of a thread, of an estimator and of a correction bank, and change nothing (R173). REED takes what waits for
it (R142, R159, R162, R168, R188): an item of a thread set that is shed is counted and dropped; any other enters its thread's history; a
waveform sample enters its own. -/
def Obligations.ReedRuns : Prop :=
  Completes 5 1 .threadState (fun w => w.arg 5 0 < 2 ^ 17)
    (fun w u => u.results 5 = ((65536 * (w.thread (w.arg 5 0)).taps.length + (w.thread (w.arg 5 0)).lastQ % 65536) % 2 ^ 32,
        (w.thread (w.arg 5 0)).lastTag % 2 ^ 32) ∧ u.reed = w.reed ∧ SameRegs w u (cmdRegs 5)) ∧
  (∀ e, Completes 5 2 .estState
    (fun w => (reedEstimators (w.cfg secReed)).find? (fun e => esWid e == w.arg 5 0) = some e)
    (fun w u => u.results 5 = ((w.wave (w.arg 5 0)).lastMag % 2 ^ 32,
        ((w.group (esGroup e)).freq.map Fp.ofRat32).getD 0 % 2 ^ 32) ∧ u.reed = w.reed ∧ SameRegs w u (cmdRegs 5))) ∧
  Completes 5 3 .bankInfo (fun w => w.arg 5 0 ≤ 15)
    (fun w u => u.results 5 = (if reedBanks (w.cfg secReed) ≤ w.arg 5 0 then (0, 0) else
        ((65536 * leAt (w.cfg secReed) (0x90 + 32784 * w.arg 5 0) 2 +
          rateOf (leAt (w.cfg secReed) (0x92 + 32784 * w.arg 5 0) 1)) % 2 ^ 32, 1)) ∧
      u.reed = w.reed ∧ SameRegs w u (cmdRegs 5)) ∧
  (∀ it rest fails, Happens (.reedItem · fails)
    (fun w => w.reedQ = it :: rest ∧ w.shedSet (catSet (w.catAt it.time it.tid)) = true)
    (fun w u => u.reedQ = rest ∧ u.regN R.LOOM_SHED_ITEMS = (w.regN R.LOOM_SHED_ITEMS + 1) % 2 ^ 32 ∧ u.reed = w.reed ∧
      SameRegs w u [R.LOOM_SHED_ITEMS])) ∧
  (∀ it rest, Happens (.reedItem · 0)
    (fun w => w.reedQ = it :: rest ∧ it.code = checkCode it.word it.quality it.tid it.time ∧
      w.shedSet (catSet (w.catAt it.time it.tid)) = false ∧ (w.thread it.tid).taps = [] ∧
      0 < historyLength (catKernel (w.catAt it.time it.tid)) (catType (w.catAt it.time it.tid)))
    (fun _ u => u.reedQ = rest ∧ (u.thread it.tid).taps = [⟨it.time, it.word, it.quality, false⟩])) ∧
  (∀ x rest sid e, Happens .waveformSample
    (fun w => w.waveQ = x :: rest ∧ w.widStream x.wid = some (sid, e) ∧ (w.wave x.wid).samples = [])
    (fun _ u => u.waveQ = rest ∧ (u.wave x.wid).samples = [(sampleNumber (max 1 (stRate e)) x.time, x.raw, x.quality)]))

/-- LOOM's commands (R188, R189, R195, R203): a value of a slot, a latency quantile and a thread's weft are read; a latency histogram
clears in the Stacks, and no other byte changes; on CLOSE_NOW a due slot closes as forced. -/
def Obligations.LoomCommandsComplete : Prop :=
  (∀ l, Completes 6 1 .readValue
    (fun w => w.latticeOf (w.arg 6 0) = some l ∧ w.arg 6 0 < 2 ^ 17 ∧ (w.arg 6 1 + 2 ^ 32 * w.arg 6 2) % 2 ^ 16 < w.rate l)
    (fun w u => u.results 6 = ((w.slotValue l (w.arg 6 1 + 2 ^ 32 * w.arg 6 2) (w.arg 6 0)).1 % 2 ^ 32,
        (w.slotValue l (w.arg 6 1 + 2 ^ 32 * w.arg 6 2) (w.arg 6 0)).1 / 2 ^ 32 % 2 ^ 32) ∧
      u.loom = w.loom ∧ SameRegs w u (R.LOOM_READ_QUALITY :: cmdRegs 6))) ∧
  Completes 6 2 .quantile (fun w => w.arg 6 0 ≤ 8191 ∧ w.arg 6 1 ≤ 3)
    (fun w u => u.results 6 = ((w.quantileOf (w.arg 6 0) (w.arg 6 1)).1.getD ones32 % 2 ^ 32,
        (w.quantileOf (w.arg 6 0) (w.arg 6 1)).2 % 2 ^ 32) ∧ u.stk = w.stk ∧ u.archive = w.archive ∧ SameRegs w u (cmdRegs 6)) ∧
  Completes 6 3 .histReset (fun w => 2 ≤ w.mode ∧ w.mode ≤ 10 ∧ w.arg 6 0 ≤ 8191)
    (fun w u => (∀ a, smGet (ramDefault a) u.stk a =
        if histAddrOf (w.arg 6 0) 0 ≤ a ∧ a < histAddrOf (w.arg 6 0) 0 + 128 then 0 else smGet (ramDefault a) w.stk a) ∧
      u.archive = w.archive ∧ SameRegs w u (eventRegs ++ cmdRegs 6)) ∧
  (∀ x, ∀ l : Nat, Completes 6 4 .weft
    (fun w => w.arg 6 0 < 2 ^ 17 ∧ l < 4 ∧ smFind (smGet [] w.loom.weft l) (w.arg 6 0) = some x ∧
      ∀ k : Nat, k < l → smFind (smGet [] w.loom.weft k) (w.arg 6 0) = none)
    (fun w u => u.results 6 = ((2 ^ 31 + 2 ^ 19 * l + x.1) % 2 ^ 32, x.2 % 2 ^ 32) ∧ u.loom = w.loom ∧ SameRegs w u (cmdRegs 6))) ∧
  (∀ y n e, Completes 6 5 .closeNow
    (fun w => w.mode = 9 ∧ w.arg 6 0 ≤ 3 ∧ w.domain pdLoom = 0 ∧ (w.lat (w.arg 6 0)).slots = [y] ∧
      (∀ k : Nat, k < 4 → k ≠ w.arg 6 0 → (w.lat k).slots = []) ∧ y.opened = true ∧ y.closed = none ∧ y.released = none ∧
      w.instant (w.arg 6 0) y.tag ≤ w.now ∧ bit (w.wiring (w.arg 6 0)) 0 = true ∧ y.shed = [] ∧
      w.liveSets (w.arg 6 0) y = [(n, e)] ∧ y.setClosed n = false)
    (fun w u => u.pairAt (R.LOOM_Ln_CLOSED_LO (w.arg 6 0)) = y.tag % 2 ^ 64 ∧
      u.regN (R.LOOM_Ln_FORCED (w.arg 6 0)) = (w.regN (R.LOOM_Ln_FORCED (w.arg 6 0)) + 1) % 2 ^ 32 ∧
      u.loom.closeQ = w.loom.closeQ ++ [(w.arg 6 0, y.tag)]))

/-- LOOM's events (R176, R182, R187, R191, R200): a lattice's next slot opens and the one after it is next; an item is written; a set
whose deadline is reached closes, and its slot with it; what was learned is refreshed; overload is set and cleared. -/
def Obligations.LoomEventsHappen : Prop :=
  (∀ l tag, l < 4 → Happens (.slotInstant · l)
    (fun w => w.domain pdLoom = 0 ∧ (w.lat l).next = some tag ∧ (w.lat l).paused = false ∧ (w.lat l).slots = [] ∧
      w.instant l tag ≤ w.now ∧ w.now < w.instant l tag + (1000000000 * w.openSlots l) / max 1 (w.rate l) ∧ w.draft.switch = none)
    (fun w u => (u.lat l).next = some (nextTag (w.rate l) tag))) ∧
  (∀ it rest nx, Happens (.loomWrite · 0)
    (fun w => w.loomQ = it :: rest ∧ w.domain pdLoom = 0 ∧ it.code = checkCode it.word it.quality it.tid it.time ∧
      (∀ k < 4, (w.lat k).slots = [] ∧ (w.lat k).stepped = false) ∧ w.draft.switching = false ∧ catLattice (w.cat it.tid) = 0 ∧ w.draft.old = [] ∧
      catEmit (w.cat it.tid) = true ∧ it.time % 2 ^ 16 < w.rate 0 ∧ w.capacity 0 ≠ 0 ∧ (w.lat 0).next = some nx ∧ nx ≤ it.time ∧
      slotNumber (w.rate 0) it.time < slotNumber (w.rate 0) nx + w.openSlots 0 ∧ w.streamOf (w.cat it.tid) = none)
    (fun w u => u.loomQ = rest ∧ (u.lat 0).slots.map (fun y => (y.tag, y.opened, y.present, y.onTime)) = [(it.time, false, [it.tid], 1)] ∧
      u.regN R.LOOM_WRITES = (w.regN R.LOOM_WRITES + 1) % 2 ^ 32)) ∧
  (∀ l y n e z, l ≤ 3 → Happens (.setDeadline · l)
    (fun w => w.domain pdLoom = 0 ∧ (w.lat l).slots = [y] ∧ y.opened = true ∧ y.closed = none ∧ y.released = none ∧
      w.instant l y.tag ≤ w.now ∧ bit (w.wiring l) 0 = true ∧ y.shed = [] ∧ w.liveSets l y = [(n, e)] ∧ smFind y.sets n = some z ∧
      z.closed = none ∧ z.deadline ≤ w.now ∧ z.early = false)
    (fun w u => u.pairAt (R.LOOM_Ln_CLOSED_LO l) = y.tag % 2 ^ 64 ∧ u.pairAt (R.LOOM_Ln_RELEASED_LO l) = y.tag % 2 ^ 64 ∧
      u.regN (R.LOOM_SETn_DEADLINE n) = (w.regN (R.LOOM_SETn_DEADLINE n) + 1) % 2 ^ 32 ∧
      u.loom.closeQ = w.loom.closeQ ++ [(l, y.tag)])) ∧
  Happens .learnedRefresh (fun w => w.domain pdLoom = 0 ∧ w.loom.refreshed + 100000000 ≤ w.bases.mono)
    (fun w u => u.loom.refreshed = w.bases.mono ∧ u.loom.lats = w.loom.lats ∧ u.stk = w.stk ∧ u.archive = w.archive) ∧
  (∀ ms, 0 < ms → Happens (.overloadSet · ms)
    (fun w => w.domain pdLoom = 0 ∧ w.fld F.LOOM_OVERLOAD_CFG_BP_MS ≤ ms ∧ w.isSet F.LOOM_STATUS_OVERLOAD = false)
    (fun w u => u.isSet F.LOOM_STATUS_OVERLOAD = true ∧ u.isSet F.REED_STATUS_BACKPRESSURE = true ∧ bit (u.regN R.DRAFT_MODE_COND) 3 = true ∧
      u.loom.setAt = w.bases.mono ∧ u.loom.causeAt = w.bases.mono)) ∧
  Happens (.overloadClear · 0)
    (fun w => w.loomSecond.overloadCauses 0 = 0 ∧ w.isSet F.LOOM_STATUS_OVERLOAD = true ∧
      w.loom.causeAt + 1000000000 * w.fld F.LOOM_OVERLOAD_CFG_EXIT_S ≤ w.bases.mono)
    (fun w u => u.isSet F.LOOM_STATUS_OVERLOAD = false ∧ u.isSet F.REED_STATUS_BACKPRESSURE = false ∧
      bit (u.regN R.DRAFT_MODE_COND) 3 = w.isSet F.DRAFT_MODE_COND_OVERLOAD_HOST)

/-- OSC's commands (R225, R230, R231): a tracker's state and spectrum are read into the snapshot registers, TRACKER_RESET marks a tracker, which restarts at
its next sample, a checkpoint set is written now and no byte outside the set's MiB of the Archive changes. -/
def Obligations.OscCommandsComplete : Prop :=
  Completes 7 1 .trackerRead (fun w => 2 ≤ w.mode ∧ w.arg 7 0 ≤ 4095)
    (fun w u => u.fld F.OSC_SNAP_STATE_STATE = (w.tracker (w.arg 7 0)).st % 16 ∧ u.regN R.OSC_SNAP_TAG_LO = (w.tracker (w.arg 7 0)).tag % 2 ^ 32 ∧
      u.regN R.OSC_SNAP_NOISE = Fp.ofRat32 (w.tracker (w.arg 7 0)).noise % 2 ^ 32 ∧
      (∀ m : Nat, m < 4 → u.regN (R.OSC_SNAP_Mm_FREQ m) = ((w.tracker (w.arg 7 0)).modes.getD m {}).freq32 % 2 ^ 32 ∧
        u.regN (R.OSC_SNAP_Mm_ZETA m) = ((w.tracker (w.arg 7 0)).modes.getD m {}).zeta32 % 2 ^ 32 ∧
        u.regN (R.OSC_SNAP_Mm_AMP m) = ((w.tracker (w.arg 7 0)).modes.getD m {}).amp32 % 2 ^ 32) ∧ u.osc = w.osc) ∧
  Completes 7 2 .spectrumRead (fun w => w.arg 7 0 ≤ 4095)
    (fun w u => (∀ n : Nat, n < 64 → u.regN (R.OSC_SPEC_BINn n) = Fp.ofRat32 ((w.tracker (w.arg 7 0)).bins.getD n 0) % 2 ^ 32) ∧ u.osc = w.osc ∧
      SameRegs w u ((List.range 64).map R.OSC_SPEC_BINn ++ eventRegs ++ cmdRegs 7)) ∧
  Completes 7 3 .trackerReset
    (fun w => 2 ≤ w.mode ∧ w.mode ≤ 10 ∧ w.arg 7 0 ≤ 4095 ∧ (w.tracker (w.arg 7 0)).st ≠ 0)
    (fun w u => u.tracker (w.arg 7 0) = { w.tracker (w.arg 7 0) with reset := true } ∧
      (∀ k ∈ w.osc.trackers.map Prod.fst, k ≠ w.arg 7 0 → u.tracker k = w.tracker k) ∧
      u.osc = { w.osc with trackers := u.osc.trackers } ∧ SameRegs w u (eventRegs ++ cmdRegs 7)) ∧
  Completes 7 4 .ckptSave (fun w => 3 ≤ w.mode ∧ w.mode ≤ 10 ∧ w.pfwLow = false ∧ w.domain pdArchive ≠ 2)
    (fun w u => u.osc = { w.osc with archAt := some w.bases.mono } ∧
      (∀ b ∈ w.ckptSet, w.ckptSet = [b] → memRead 0xFF u.archive (ckptAddr (leAt b 0 2)) b.length = b) ∧
      (∀ a : Nat, a < 125 * 2 ^ 20 → smGet 0xFF u.archive a = smGet 0xFF w.archive a))

/-- What time does at OSC, and where TRACKER_STALE, CKPT_ARCHIVE and SHAPE_REPORT complete (R216, R225, R228). TRACKER_STALE: a tracker whose
absent samples span more than the gap limit becomes STALE, its window is empty, its slots are FREE with their generations kept, it is counted and
the interrupt cause is set. CKPT_ARCHIVE: 600 s after the last set, in M3 to M10, a set is written, with at most one try that failed before it;
two failed tries write nothing. SHAPE_REPORT: at a job's period, a job whose reference slot has been LIVE for its TAU adds its record to its
queue and is counted; a job that cannot report is counted in OSC_SHAPE_SKIPPED; a record that finds the queue full, or a queue that
is disabled or H2D (R353), is counted in OSC_SHAPE_QFULL and in its burst. -/
def Obligations.OscEventsHappen : Prop :=
  (∀ k, k < 4096 → Happens (.trackerStale · k)
    (fun w => w.domain pdAna = 0 ∧ (w.tracker k).st ≠ 0 ∧ (w.tracker k).st ≠ 3 ∧ w.gapPassed (w.tracker k) = true)
    (fun w u => (u.tracker k).st = 3 ∧ (u.tracker k).window = [] ∧ (u.tracker k).modes = (w.tracker k).freed ∧
      u.regN R.OSC_STALE = (w.regN R.OSC_STALE + 1) % 2 ^ 32 ∧ u.archive = w.archive)) ∧
  (∀ n, n < 2 → Happens (.ckptArchive · n)
    (fun w => 3 ≤ w.mode ∧ w.mode ≤ 10 ∧ w.domain pdArchive = 0 ∧ w.pfwLow = false ∧ w.osc.archAt.getD 0 + 600000000000 ≤ w.bases.mono)
    (fun w u => u.osc = { w.osc with archAt := some w.bases.mono } ∧
      (∀ b ∈ w.ckptSet, w.ckptSet = [b] → memRead 0xFF u.archive (ckptAddr (leAt b 0 2)) b.length = b) ∧
      (∀ a : Nat, a < 125 * 2 ^ 20 → smGet 0xFF u.archive a = smGet 0xFF w.archive a))) ∧
  (∀ n, 2 ≤ n → Happens (.ckptArchive · n)
    (fun w => 3 ≤ w.mode ∧ w.mode ≤ 10 ∧ w.domain pdArchive = 0 ∧ w.pfwLow = false ∧ w.osc.archAt.getD 0 + 600000000000 ≤ w.bases.mono)
    (fun w u => u.osc = w.osc ∧ u.archive = w.archive)) ∧
  (∀ n, n < 64 → Happens (.shapeReport · n)
    (fun w => w.domain pdAna = 0 ∧ 3 ≤ w.mode ∧ w.mode ≤ 10 ∧ jeFlag (w.shapeJob n).entry 0 = true ∧
      w.stormOff (jeFlag (w.shapeJob n).entry 1) = false ∧ (w.shapeJob n).last + 1000000000 * jePeriod (w.shapeJob n).entry ≤ w.bases.mono ∧
      ((w.tracker (jeTracker (w.shapeJob n).entry)).modes.getD (jeMode (w.shapeJob n).entry) {}).live = true ∧ (w.shapeJob n).gen.isSome = true ∧
      jeTau (w.shapeJob n).entry ≤ ((w.bases.mono - (w.shapeJob n).since : Nat) : Rat) / (1000000000 : Nat) ∧
      w.queueIs (w.fld F.OSC_QUEUES_SHAPE_QUEUE) 0 = true ∧
      (w.queue (w.fld F.OSC_QUEUES_SHAPE_QUEUE)).level + packetSize (w.shapeRecord n).length ≤ w.queueSize (w.fld F.OSC_QUEUES_SHAPE_QUEUE))
    (fun w u => (u.queue (w.fld F.OSC_QUEUES_SHAPE_QUEUE)).packets = (w.queue (w.fld F.OSC_QUEUES_SHAPE_QUEUE)).packets ++
        [((w.queue (w.fld F.OSC_QUEUES_SHAPE_QUEUE)).seq, w.shapeRecord n)] ∧
      u.regN R.OSC_SHAPE_RECORDS = (w.regN R.OSC_SHAPE_RECORDS + 1) % 2 ^ 32 ∧ u.regN R.OSC_SHAPE_SKIPPED = w.regN R.OSC_SHAPE_SKIPPED ∧
      (u.shapeJob n).first = false ∧ (u.shapeJob n).last = w.bases.mono ∧ (u.shapeJob n).entry = (w.shapeJob n).entry)) ∧
  (∀ n, n < 64 → Happens (.shapeReport · n)
    (fun w => w.domain pdAna = 0 ∧ 3 ≤ w.mode ∧ w.mode ≤ 10 ∧ jeFlag (w.shapeJob n).entry 0 = true ∧
      w.stormOff (jeFlag (w.shapeJob n).entry 1) = false ∧ (w.shapeJob n).last + 1000000000 * jePeriod (w.shapeJob n).entry ≤ w.bases.mono ∧
      (((w.tracker (jeTracker (w.shapeJob n).entry)).modes.getD (jeMode (w.shapeJob n).entry) {}).live = false ∨ (w.shapeJob n).gen = none ∨
        ((w.bases.mono - (w.shapeJob n).since : Nat) : Rat) / (1000000000 : Nat) < jeTau (w.shapeJob n).entry))
    (fun w u => u.regN R.OSC_SHAPE_SKIPPED = (w.regN R.OSC_SHAPE_SKIPPED + 1) % 2 ^ 32 ∧ u.out = w.out ∧ u.queues = w.queues ∧
      (u.shapeJob n).last = w.bases.mono ∧ (u.shapeJob n).entry = (w.shapeJob n).entry ∧ SameRegs w u [R.OSC_SHAPE_SKIPPED])) ∧
  (∀ n, n < 64 → Happens (.shapeReport · n)
    (fun w => w.domain pdAna = 0 ∧ 3 ≤ w.mode ∧ w.mode ≤ 10 ∧ jeFlag (w.shapeJob n).entry 0 = true ∧
      w.stormOff (jeFlag (w.shapeJob n).entry 1) = false ∧ (w.shapeJob n).last + 1000000000 * jePeriod (w.shapeJob n).entry ≤ w.bases.mono ∧
      ((w.tracker (jeTracker (w.shapeJob n).entry)).modes.getD (jeMode (w.shapeJob n).entry) {}).live = true ∧ (w.shapeJob n).gen.isSome = true ∧
      jeTau (w.shapeJob n).entry ≤ ((w.bases.mono - (w.shapeJob n).since : Nat) : Rat) / (1000000000 : Nat) ∧
      (w.queueIs (w.fld F.OSC_QUEUES_SHAPE_QUEUE) 0 = false ∨
        w.queueSize (w.fld F.OSC_QUEUES_SHAPE_QUEUE) < (w.queue (w.fld F.OSC_QUEUES_SHAPE_QUEUE)).level + packetSize (w.shapeRecord n).length))
    (fun w u => u.regN R.OSC_SHAPE_QFULL = (w.regN R.OSC_SHAPE_QFULL + 1) % 2 ^ 32 ∧ u.regN R.OSC_SHAPE_RECORDS = w.regN R.OSC_SHAPE_RECORDS ∧
      smGet 0 u.ledger.bursts (burstKey E.OSC_SHAPE_QFULL n) = smGet 0 w.ledger.bursts (burstKey E.OSC_SHAPE_QFULL n) + 1 ∧
      (u.shapeJob n).last = w.bases.mono))

/-- ISLE's commands and the time limit of its check (R247 to R249): an area's aggregates are read, a check starts at a point whose tie is
split between two groups and ends at SC_STOP or at its time limit (while ISLE forms slots, the next slot's evaluation ends it: log 27), a tie is to be forced. -/
def Obligations.IsleCommandsComplete : Prop :=
  Completes 8 1 .areaRead
    (fun w => 2 ≤ w.mode ∧ w.arg 8 0 ≤ 63 ∧ (isAreas (w.cfg secIsle)).any (fun e => arNumber e == w.arg 8 0) = true)
    (fun w u => u.regN R.ISLE_AREA_FREQ = (w.area (w.arg 8 0)).freq % 2 ^ 32 ∧ u.regN R.ISLE_AREA_ROCOF = (w.area (w.arg 8 0)).rocof % 2 ^ 32 ∧
      u.regN R.ISLE_AREA_ANGLE = (w.area (w.arg 8 0)).angle % 2 ^ 32 ∧ u.regN R.ISLE_AREA_R = (w.area (w.arg 8 0)).r % 2 ^ 32 ∧
      u.isle = w.isle ∧
      SameRegs w u ([R.ISLE_AREA_FREQ, R.ISLE_AREA_ROCOF, R.ISLE_AREA_ANGLE, R.ISLE_AREA_R, R.ISLE_AREA_QUALITY] ++ eventRegs ++ cmdRegs 8)) ∧
  (∀ p e, Completes 8 2 .scStart
    (fun w => (w.mode = 6 ∨ w.mode = 7) ∧ findPoint (w.cfg secIsle) (w.arg 8 0) = some p ∧ cpEnabled p = true ∧ w.isle.sc = none ∧
      findTie (w.cfg secIsle) (cpTie p) = some e ∧ 2 ≤ w.isle.g ∧ (w.tie (tiNumber e)).split = true ∧ w.groupOf (tiA e) ≠ w.groupOf (tiB e))
    (fun w u => u.isle.sc = some ⟨w.arg 8 0, w.now, 0, false⟩ ∧ u.isSet F.ISLE_STATUS_SC_ACTIVE = true ∧
      u.isSet F.ISLE_STATUS_SC_PERMIT = false)) ∧
  Completes 8 3 .scStop (fun w => w.isle.sc.isSome = true)
    (fun _ u => u.isle.sc = none ∧ u.isSet F.ISLE_STATUS_SC_ACTIVE = false ∧ u.isSet F.ISLE_STATUS_SC_PERMIT = false ∧
      u.fld F.ISLE_SC_STATE_LAST_END = 2) ∧
  (∀ e, Completes 8 4 .tieForce
    (fun w => w.mode = 9 ∧ findTie (w.cfg secIsle) (w.arg 8 0) = some e ∧ w.arg 8 1 ≤ 2 ∧ tiFlag e 0 = true)
    (fun w u => u.tie (w.arg 8 0) = { w.tie (w.arg 8 0) with forced := if w.arg 8 1 = 0 then none else some (w.arg 8 1 == 1) } ∧
      (w.arg 8 1 ≠ 0 → u.isSet F.ISLE_STATUS_FORCED = true))) ∧
  (∀ c, Happens .scTimeout
    (fun w => w.isle.sc = some c ∧ w.isleRuns = false ∧ w.domain pdAna = 0 ∧ c.start + 1000000000 * w.fld F.ISLE_SC_TIMEOUT_S ≤ w.now)
    (fun _ u => u.isle.sc = none ∧ u.isSet F.ISLE_STATUS_SC_ACTIVE = false ∧ u.isSet F.ISLE_STATUS_SC_PERMIT = false ∧
      u.fld F.ISLE_SC_STATE_LAST_END = 3)) ∧
  (∀ c, Happens .scTimeout
    (fun w => w.isle.sc = some c ∧ w.isleRuns = true ∧ w.domain pdAna = 0 ∧ c.start + 1000000000 * w.fld F.ISLE_SC_TIMEOUT_S ≤ w.now)
    (fun w u => u.isle = { w.isle with expired := true } ∧ SameRegs w u []))

/-- VOTE's commands (R258, R272, R274): a point's state is read, a latch whose off run is long enough is cleared in every lane, a pin is
sunk for a time by the lanes that run, a lane is to be copied from another. -/
def Obligations.VoteCommandsComplete : Prop :=
  Completes 9 1 .pointRead (fun w => w.arg 9 0 ≤ 1023)
    (fun w u => u.results 9 = (((if (w.leadLane.point (w.arg 9 0)).raised then 1 else 0) + (if (w.leadLane.point (w.arg 9 0)).latched then 2 else 0) +
          (if (w.leadLane.point (w.arg 9 0)).c then 4 else 0) + (if (w.leadLane.point (w.arg 9 0)).absent then 8 else 0) +
          2 ^ 8 * (w.leadLane.point (w.arg 9 0)).onRun + 2 ^ 16 * (w.leadLane.point (w.arg 9 0)).offRun +
          2 ^ 24 * (w.leadLane.point (w.arg 9 0)).absRun) % 2 ^ 32, (w.leadLane.point (w.arg 9 0)).tag % 2 ^ 32) ∧
      u.vote = w.vote ∧ SameRegs w u (cmdRegs 9)) ∧
  Completes 9 2 .resetLatch
    (fun w => 3 ≤ w.mode ∧ w.mode ≤ 9 ∧ w.holds = true ∧ w.arg 9 0 ≤ 1023 ∧ (w.leadLane.point (w.arg 9 0)).latched = true ∧
      ∃ e ∈ (w.alarmEntry (w.arg 9 0)).toList, apOff e ≤ (w.leadLane.point (w.arg 9 0)).offRun)
    (fun w u => ∀ i ∈ ([0, 1, 2] : List Nat), (u.vote.lane i).point (w.arg 9 0) = { (w.vote.lane i).point (w.arg 9 0) with latched := false }) ∧
  Completes 9 3 .pinTest
    (fun w => w.vote.test = none ∧ w.mode = 2 ∧ w.pairMode = 0 ∧ w.arg 9 0 ≤ 8 ∧ 1 ≤ w.arg 9 1 ∧ w.arg 9 1 ≤ 10000 ∧
      2 ≤ w.lanes.length ∧ w.scanned = false ∧ w.isSet F.FAULT_STATUS_PAD_HOLD = false ∧ w.energy.pulses = [])
    (fun w u => u.vote.test = some (w.arg 9 0, w.bases.mono + 1000000 * w.arg 9 1) ∧ u.vote.sink = 2 ^ w.arg 9 0 ∧
      SameRegs w u ([R.VOTE_STATUS, R.VOTE_PIN_SENSE] ++ eventRegs ++ cmdRegs 9)) ∧
  Completes 9 4 .laneResync (fun w => w.mode = 9 ∧ w.arg 9 0 ≤ 2)
    (fun w u => (u.vote.lane (w.arg 9 0)).forced = [0, 1, 2, 3] ∧ (u.vote.lane (w.arg 9 0)).points = (w.vote.lane (w.arg 9 0)).points ∧
      SameRegs w u (cmdRegs 9))

/-- What closes and what time does at VOTE (R196, R264, R270, R272): the front event of the close queue is evaluated, a GOOSE block is
repeated with its interval doubled up to T_MAX, a ball that reads against the majority is counted, a pin test ends. -/
def Obligations.VoteEventsHappen : Prop :=
  (∀ l tag rest checks upsets, l < 4 → Happens (.closePipeline · checks upsets)
    (fun w => w.loom.closeQ = (l, tag) :: rest)
    (fun w u => u.regN R.VOTE_EVALS = (w.regN R.VOTE_EVALS + 1) % 2 ^ 32 ∧
      smFind u.vote.last l = some (slotNumber (w.rate l) tag) ∧ (rest.isPrefixOf u.loom.closeQ) = true)) ∧
  (∀ n e x, n < 32 → Happens (.gooseRepeat · n)
    (fun w => (gooseEntries (w.cfg secAlarm)).find? (fun e => gbNumber e == n && gbEnabled e) = some e ∧ smFind w.vote.goose n = some x ∧
      x.next.isSome = true ∧ x.next.getD 0 ≤ w.bases.mono ∧ w.goosePublishes = true)
    (fun w u => (smFind u.vote.goose n) = some { x with
        sqNum := (x.sqNum + 1) % 2 ^ 32, interval := min (2 * x.interval) (gbTmax e),
        next := some (w.bases.mono + 1000000 * min (2 * x.interval) (gbTmax e)) } ∧
      u.regN R.VOTE_GOOSE_SENT = (w.regN R.VOTE_GOOSE_SENT + 1) % 2 ^ 32)) ∧
  (∀ pin, pin ≤ 8 → Happens (.pinMismatch · pin true)
    (fun w => 2 ≤ w.lanes.length ∧ bit w.majorityDrive pin = true)
    (fun w u => u.regN R.VOTE_PIN_MISMATCH = (w.regN R.VOTE_PIN_MISMATCH + 1) % 2 ^ 32 ∧ bit (u.regN R.VOTE_PIN_SENSE) pin = true ∧
      (u.irqOf 9).count = (w.irqOf 9).count + 1 ∧ u.vote = w.vote ∧
      SameRegs w u ([R.VOTE_PIN_MISMATCH, R.VOTE_PIN_SENSE] ++ eventRegs))) ∧
  (∀ pin, Happens .pinTestEnd
    (fun w => w.vote.test = some (pin, (w.vote.test.getD (0, 0)).2) ∧ (w.vote.test.getD (0, 0)).2 ≤ w.bases.mono ∧ w.drivable = false ∧
      w.scanned = false ∧ w.isSet F.FAULT_STATUS_PAD_HOLD = false ∧ w.energy.pulses = [])
    (fun w u => u.vote.test = none ∧ u.vote.sink = 0 ∧ SameRegs w u [R.VOTE_STATUS, R.VOTE_PIN_SENSE]))

/-- FAULT's commands (R288, R292): an element's state and counts are read, a fault is injected in M9 and taken at once, a fenced element's
restore is begun, the pad hold is released, the counters cleared. -/
def Obligations.FaultCommandsComplete : Prop :=
  Completes 30 1 .elementRead (fun w => w.arg 30 0 < 65536 ∧ w.arg 30 0 / 256 ≤ 16)
    (fun w u => u.results 30 = (((w.elem (w.arg 30 0)).state + 2 ^ 16 * min (w.elem (w.arg 30 0)).transient 65535) % 2 ^ 32,
        min (w.elem (w.arg 30 0)).lasting (2 ^ 32 - 1)) ∧ u.fault = w.fault ∧ SameRegs w u (cmdRegs 30)) ∧
  Completes 30 2 .inject
    (fun w => w.mode = 9 ∧ w.arg 30 0 ≤ 14 ∧ w.arg 30 0 ≠ fcSramSec ∧ w.arg 30 0 ≠ fcStacksSec ∧ w.arg 30 1 < 65536 ∧
      w.arg 30 1 / 256 ≤ 16 ∧ bit (w.arg 30 2) 0 = false)
    (fun w u => u.elem (w.arg 30 1) = { w.elem (w.arg 30 1) with transient := (w.elem (w.arg 30 1)).transient + 1 } ∧
      u.regN R.FAULT_TRANSIENT = (w.regN R.FAULT_TRANSIENT + 1) % 2 ^ 32 ∧
      (∀ r ∈ (classCounter (w.arg 30 0)).toList, u.regN r = (w.regN r + 1) % 2 ^ 32) ∧
      SameRegs w u (R.FAULT_TRANSIENT :: (classCounter (w.arg 30 0)).toList ++ eventRegs ++ cmdRegs 30)) ∧
  Completes 30 3 .restore
    (fun w => (w.mode = 2 ∨ w.mode = 10) ∧ w.arg 30 0 < 65536 ∧ w.arg 30 0 / 256 < 16 ∧ (w.elem (w.arg 30 0)).state = 1 ∧
      (w.elem (w.arg 30 0)).recovery = true)
    (fun w u => (u.elem (w.arg 30 0)).state = 2 ∧ (u.elem (w.arg 30 0)).proving = none ∧
      smFind u.power.waking (w.arg 30 0 / 256) = some (w.bases.mono, 2)) ∧
  Completes 30 4 .holdRelease (fun w => w.mode = 10 ∧ w.fault.holdSet.isSome = true)
    (fun w u => u.fault = { w.fault with holdSet := none } ∧ u.isSet F.FAULT_STATUS_PAD_HOLD = false ∧ u.fld F.FAULT_PAD_HOLD_HELD = 0) ∧
  Completes 30 5 .countersClear (fun _ => True)
    (fun w u => (∀ i : Nat, i < 14 → u.regN (R.FAULT_TRANSIENT + 4 * i) = 0) ∧ u.fault = w.fault ∧
      SameRegs w u ((List.range 14).map (R.FAULT_TRANSIENT + 4 * ·) ++ eventRegs ++ cmdRegs 30))

/-- FAULT's events (R276, R279, R280, R286, R288): a repeat that passes is a transient of its element and class, one that fails a lasting
fault; scans and scrubs find and report; an element that has proved itself is restored; the pad hold ends at its limit. -/
def Obligations.FaultEventsHappen : Prop :=
  (∀ cls e spent o, cls ≤ 14 ∧ cls ≠ fcSramSec ∧ cls ≠ fcStacksSec ∧ e < 65536 → Happens (.retryComplete · cls e true spent o)
    (fun _ => True)
    (fun w u => u.elem e = { w.elem e with transient := (w.elem e).transient + 1 } ∧
      u.regN R.FAULT_TRANSIENT = (w.regN R.FAULT_TRANSIENT + 1) % 2 ^ 32 ∧
      SameRegs w u (R.FAULT_TRANSIENT :: (classCounter cls).toList ++ eventRegs))) ∧
  (∀ cls e spent o, cls = fcCfgScan ∧ e < 65536 → Happens (.retryComplete · cls e false spent o)
    (fun w => w.provingIn (e / 256) = [])
    (fun w u => (u.elem e).lasting = (w.elem e).lasting + 1 ∧
      u.regN R.FAULT_LASTING = (w.regN R.FAULT_LASTING + 1) % 2 ^ 32 ∧ u.regN R.FAULT_LAST / 2 ^ 24 = cls ∧
      u.regN R.FAULT_LAST % 2 ^ 20 = e ∧ u.pairAt R.FAULT_LAST_TIME_LO = w.bases.mono % 2 ^ 64)) ∧
  (∀ e, e < 65536 → Happens (.configScan · e 1) (fun _ => True)
    (fun w u => u.elem e = { w.elem e with transient := (w.elem e).transient + 1 } ∧
      u.regN R.FAULT_TRANSIENT = (w.regN R.FAULT_TRANSIENT + 1) % 2 ^ 32 ∧
      SameRegs w u (R.FAULT_TRANSIENT :: (classCounter fcCfgScan).toList ++ eventRegs))) ∧
  Happens (.shadowScan · 1) (fun w => w.draft.base.isSome = true)
    (fun w u => u.elem (element pdCtrl wholeDomain) =
        { w.elem (element pdCtrl wholeDomain) with transient := (w.elem (element pdCtrl wholeDomain)).transient + 1 } ∧
      u.regN R.FAULT_TRANSIENT = (w.regN R.FAULT_TRANSIENT + 1) % 2 ^ 32 ∧
      SameRegs w u (R.FAULT_TRANSIENT :: (classCounter fcShadow).toList ++ eventRegs)) ∧
  (∀ inStacks ms, Happens (.scrub · inStacks (.pass ms)) (fun _ => True)
    (fun w u => u.regN (if inStacks then R.FAULT_SCRUB_STACKS else R.FAULT_SCRUB_SRAM) = min ms (2 ^ 32 - 1) ∧
      SameRegs w u [if inStacks then R.FAULT_SCRUB_STACKS else R.FAULT_SCRUB_SRAM])) ∧
  (∀ e since, e / 256 < 12 → Happens (.restored · e)
    (fun w => (w.elem e).proving = some since ∧ since + w.restoreNs ≤ w.bases.mono ∧ w.isSet F.FAULT_STATUS_LASTING_ACTIVE = false)
    (fun w u => u.elem e = { w.elem e with state := 0, recovery := false, proving := none } ∧
      u.fld F.FAULT_STATUS_FENCED = min u.fencedElems.length 0xFFFF ∧ u.power = w.power ∧
      SameRegs w u ([R.FAULT_STATUS, R.FAULT_FENCED_BLOCKS] ++ eventRegs))) ∧
  Happens .holdExpired
    (fun w => w.fault.holdSet.isSome = true ∧ 1 ≤ w.fld F.FAULT_PAD_HOLD_LIMIT_S ∧
      w.fault.holdSet.getD 0 + 1000000000 * w.fld F.FAULT_PAD_HOLD_LIMIT_S ≤ w.bases.mono)
    (fun w u => u.fault = { w.fault with holdSet := none } ∧ u.isSet F.FAULT_STATUS_PAD_HOLD = false ∧ u.fld F.FAULT_PAD_HOLD_HELD = 0 ∧
      (u.irqOf 30).count = (w.irqOf 30).count + 1)

/-- PAIR's commands (R302, R309, R310): YIELD of the module that holds is applied when no intent is unlaunched, and without effect in one
that does not hold; RECLAIM ends it; MIRROR_SYNC sends FULL. -/
def Obligations.PairCommandsComplete : Prop :=
  Completes 10 1 .yield
    (fun w => w.pairMode = 2 ∧ w.holds = true ∧ w.intentsOut = false)
    (fun _ u => u.isSet F.PAIR_STATUS_YIELD = true ∧ u.pair.yieldWait = none ∧ u.pair.pulled = false) ∧
  Completes 10 1 .yield (fun w => w.pairMode ≠ 0 ∧ w.holds = false)
    (fun w u => u.pair = w.pair ∧ u.vote = w.vote ∧ SameRegs w u (cmdRegs 10)) ∧
  Completes 10 2 .reclaim (fun w => w.pairMode ≠ 0)
    (fun w u => u.isSet F.PAIR_STATUS_YIELD = false ∧ u.pair = { w.pair with yieldWait := none } ∧ SameRegs w u (R.PAIR_STATUS :: eventRegs ++ cmdRegs 10)) ∧
  Completes 10 3 .mirrorSync
    (fun w => w.isSet F.PAIR_STATUS_MIRROR_UP = true ∧ w.holds = true ∧ w.fullBusy = false ∧ w.isSet F.PAIR_STATUS_DRAFT_MISMATCH = false)
    (fun w u => u.slv.mirrorQ = w.slv.mirrorQ ++ [(8, w.fullContent)] ∧ u.pair = w.pair ∧ SameRegs w u (eventRegs ++ cmdRegs 10))

/-- The claim and interlock lines (R296 to R302): an edge of the partner's strobe shows its claim to a lane, edges that stay away take it
back, the own strobe toggles, a raised claim goes out after its hold, a module that wants to hold pulls the line once it has been high long
enough, a YIELD that waited is applied. -/
def Obligations.PairLinesHappen : Prop :=
  (∀ lane claim, lane ≤ 2 → Happens (.partnerClaim · lane claim) (fun _ => True)
    (fun w u => u.pair.view lane = { w.pair.view lane with claim := claim % 16, edge := some w.bases.mono } ∧
      ∀ i : Nat, i ≤ 2 → i ≠ lane → u.pair.view i = w.pair.view i)) ∧
  Happens .partnerLost (fun w => w.staleLanes ≠ [])
    (fun w u => ∀ i : Nat, i ≤ 2 → u.pair.view i = if w.staleLanes.contains i then { w.pair.view i with edge := none } else w.pair.view i) ∧
  Happens .claimStrobeEdge (fun w => w.isSet F.PAIR_STATUS_CLAIM_MODE = false)
    (fun w u => u.pair.strobe = !w.pair.strobe) ∧
  (∀ v since, v < 16 → Happens .claimRaise
    (fun w => w.pairMode = 1 ∧ w.pair.raised = some (v, since) ∧ w.claim = v ∧
      since + 1000000 * w.fld F.PAIR_DEGRADE_RAISE_HOLD ≤ w.bases.mono)
    (fun w u => u.fld F.PAIR_CLAIM_STATE_OWN = v ∧ u.fld F.PAIR_CLAIM_STATE_PENDING = 0 ∧
      u.pair = { w.pair with raised := none, cmpAt := some (w.bases.mono + 1000), strobe := !w.pair.strobe } ∧
      SameRegs w u (R.PAIR_CLAIM_STATE :: eventRegs))) ∧
  (∀ h, Happens (.intlkPull · true)
    (fun w => w.pairMode = 2 ∧ w.pair.pulled = false ∧ w.pair.lineHigh = some h ∧ w.claim ≠ 0 ∧
      h + (if w.isSet F.PAIR_STATUS_MODID then 8000 else 10000) ≤ w.bases.mono)
    (fun _ u => u.pair.pulled = true)) ∧
  Happens .yieldApplied (fun w => w.pair.yieldWait.isSome = true ∧ w.intentsOut = false)
    (fun _ u => u.pair.yieldWait = none)

/-- The mirror link's messages (R295, R304 to R306, R225, R379): HELLO and checkpoints are sent when due; a message that arrives is counted
and kept or applied by the module that does not hold. -/
def Obligations.PairMirrorHappens : Prop :=
  Happens .helloSend (fun w => w.pair.helloSent + 100000000 ≤ w.bases.mono ∧ w.mirrorReady = true)
    (fun w u => u.pair = { w.pair with helloSent := w.bases.mono } ∧ u.slv.mirrorQ.length = w.slv.mirrorQ.length + 1 ∧
      u.regN R.PAIR_MIRROR_SENT = (w.regN R.PAIR_MIRROR_SENT + 1) % 2 ^ 32 ∧ SameRegs w u [R.PAIR_MIRROR_SENT]) ∧
  Happens .ckptMirrorSend
    (fun w => w.holds = true ∧ w.isSet F.PAIR_STATUS_MIRROR_UP = true ∧ w.isSet F.PAIR_STATUS_DRAFT_MISMATCH = false ∧
      w.domain pdAna = 0 ∧ w.pair.ckptAt.getD 0 + 1000000000 ≤ w.bases.mono)
    (fun w u => u.pair = { w.pair with ckptAt := some w.bases.mono } ∧ u.slv.mirrorQ = w.slv.mirrorQ ++ [(6, w.ckptSet.flatten)] ∧
      SameRegs w u [R.PAIR_MIRROR_SENT]) ∧
  (∀ c, Happens (.mirrorHello · c) (fun w => w.mirrorReady = true)
    (fun w u => u.pair.hello = some (leAt c 0 1, leAt c 1 8, leAt c 9 1, leAt c 10 1, leAt c 11 1 != 0) ∧
      u.fld F.PAIR_STATUS_PARTNER_KIND = 1 ∧ u.isSet F.PAIR_STATUS_MIRROR_UP = true ∧
      u.isSet F.PAIR_STATUS_DRAFT_MISMATCH = (leAt c 1 8 != w.draftId) ∧
      u.regN R.PAIR_MIRROR_RECEIVED = (w.regN R.PAIR_MIRROR_RECEIVED + 1) % 2 ^ 32)) ∧
  (∀ c, leAt c 0 1 ≤ 63 → Happens (.mirrorIntent · c) (fun w => w.mirrorReady = true ∧ w.holds = false ∧ w.mirrorLink < 4)
    (fun w u => u.pairAt (R.PAIR_OSn_INTENT_LO (leAt c 0 1)) = leAt c 1 8 ∧
      u.regN R.PAIR_INTENTS_RECEIVED = (w.regN R.PAIR_INTENTS_RECEIVED + 1) % 2 ^ 32 ∧
      SameRegs w u [R.PAIR_OSn_INTENT_LO (leAt c 0 1), R.PAIR_OSn_INTENT_LO (leAt c 0 1) + 4, R.PAIR_INTENTS_RECEIVED,
        R.PAIR_MIRROR_RECEIVED, R.SLV_LINKn_RX_CELLS w.mirrorLink])) ∧
  (∀ c, leAt c 0 2 ≤ 1023 ∧ leAt c 2 1 ≠ 0 → Happens (.mirrorLatch · c) (fun w => w.mirrorReady = true ∧ w.adopts = true)
    (fun w u => ∀ i ∈ ([0, 1, 2] : List Nat), (u.vote.lane i).point (leAt c 0 2) =
      { (w.vote.lane i).point (leAt c 0 2) with raised := true, latched := true, tag := leAt c 3 8 })) ∧
  (∀ c, Happens (.mirrorGoose · c) (fun w => w.mirrorReady = true ∧ w.adopts = true)
    (fun w u => u.pair = { w.pair with mirror := { w.pair.mirror with goose := smPut w.pair.mirror.goose (leAt c 0 1) (leAt c 1 4) } })) ∧
  (∀ c, Happens (.mirrorEnergy · c) (fun w => w.mirrorReady = true ∧ w.adopts = true)
    (fun w u => u.pair.energyAt = some w.bases.mono ∧
      smFind u.pair.mirror.energy (leAt c 0 2) = some (leAt c 2 8, (List.range 6).map (fun i => leAt c (10 + 12 * i) 12)))) ∧
  (∀ c, c.length < 72 → Happens (.mirrorLedger · c) (fun w => w.mirrorReady = true ∧ w.adopts = true)
    (fun w u => u.pair.mirror.ledgerNext = leAt c 0 6 ∧ u.pair.mirror.ledgerWritten = leAt c 6 6 ∧
      u.pair.mirror.ledger = w.pair.mirror.ledger.filter (fun r => decide (leAt c 6 6 < r.acc)) ∧
      u.pair.mirror.goose = w.pair.mirror.goose ∧ u.pair.mirror.energy = w.pair.mirror.energy)) ∧
  (∀ c, c.length = 256 → Happens (.mirrorCkpt · c) (fun w => w.mirrorReady = true ∧ w.adopts = true)
    (fun w u => u.pair = { w.pair with ckptAt := some w.bases.mono, mirror := { w.pair.mirror with ckpt := [(leAt c 0 2, slice c 0 256)] } } ∧
      u.osc.partAt = some w.bases.mono)) ∧
  (∀ c, leAt c 0 1 ≤ 15 ∧ leAt c 1 1 = 2 → Happens (.mirrorCapt · c)
    (fun w => w.mirrorReady = true ∧ w.adopts = true ∧ w.capturing = true ∧ ceEnabled (w.capEntry (leAt c 0 1)) = true ∧
      ((w.capReg (leAt c 0 1)).st = 1 ∨ (w.capReg (leAt c 0 1)).st = 6) ∧ w.mayArm (leAt c 0 1) (w.capEntry (leAt c 0 1)) = true)
    (fun w u => (u.capReg (leAt c 0 1)).st = 2 ∧ (u.capReg (leAt c 0 1)).held = (w.capReg (leAt c 0 1)).held)) ∧
  (∀ c, leAt c 0 2 = 1 ∧ leAt c 2 2 = 0 ∧ leAt c 4 2 = 0 ∧ leAt c 6 2 = 0 ∧ leAt c 8 2 ≤ 1023 ∧ leAt c 10 1 ≠ 0 →
    Happens (.mirrorFull · c) (fun w => w.mirrorReady = true ∧ w.adopts = true)
      (fun w u => ∀ i ∈ ([0, 1, 2] : List Nat), (u.vote.lane i).point (leAt c 8 2) =
        { (w.vote.lane i).point (leAt c 8 2) with raised := true, latched := true, tag := leAt c 11 8 }))

/-- SLV's commands (R318, R323, R332): a link restarts and is in training, a link is held down, the last tag of an origin is read. -/
def Obligations.SlvCommandsComplete : Prop :=
  Completes 13 1 .slvLinkRestart
    (fun w => w.arg 13 0 ≤ 3 ∧ w.role (w.arg 13 0) ≠ 0)
    (fun w u => u.linkState (w.arg 13 0) = 1 ∧ (u.link (w.arg 13 0)).since = w.bases.mono ∧ (u.link (w.arg 13 0)).downs = []) ∧
  Completes 13 2 .linkHold
    (fun w => w.arg 13 0 ≤ 3 ∧ w.role (w.arg 13 0) ≠ 0)
    (fun w u => u.linkState (w.arg 13 0) = 6 ∧ u.fld (F.SLV_LINKn_STATE_CAUSE (w.arg 13 0)) = 4) ∧
  (∀ tag, Completes 13 3 .originRead
    (fun w => w.lastTagOf (w.arg 13 0) (w.arg 13 1) = some tag)
    (fun w u => u.results 13 = (tag % 2 ^ 32, tag / 2 ^ 32 % 2 ^ 32) ∧ u.slv = w.slv ∧ SameRegs w u (cmdRegs 13)))

/-- A Selvedge link comes up and goes down (R318, R319, R322, R332): lock, training, heartbeats, loss of lock, silence, restart, the retry
of the bring-up; a cell that is not valid is counted. -/
def Obligations.SlvLinksHappen : Prop :=
  (∀ n, n ≤ 3 → Happens (.blockLock · n)
    (fun w => w.domain pdSlv = 0 ∧ w.linkState n = 1)
    (fun w u => (u.link n).lock = true ∧ u.out.length = w.out.length + 1)) ∧
  (∀ n, n ≤ 3 → Happens (.lockLost · n)
    (fun w => w.domain pdSlv = 0 ∧ 1 ≤ w.linkState n ∧ w.linkState n ≤ 3)
    (fun w u => u.linkState n = 4 ∧ u.fld (F.SLV_LINKn_STATE_CAUSE n) = 5 ∧ (u.link n).since = w.bases.mono ∧
      u.regN (R.SLV_LINKn_DOWNS n) = (w.regN (R.SLV_LINKn_DOWNS n) + 1) % 2 ^ 32)) ∧
  (∀ n, n ≤ 3 → Happens (.badCell · n)
    (fun w => w.domain pdSlv = 0)
    (fun w u => u.regN (R.SLV_LINKn_CRC_ERR n) = (w.regN (R.SLV_LINKn_CRC_ERR n) + 1) % 2 ^ 32 ∧ SameRegs w u [R.SLV_LINKn_CRC_ERR n])) ∧
  (∀ n l, n ≤ 3 ∧ cellValid l = true ∧ leAt l 0 1 = 1 → Happens (.trainCell · n l)
    (fun w => w.domain pdSlv = 0 ∧ w.role n ≠ 0 ∧ w.linkState n = 1 ∧ (w.link n).lock = true ∧ (readCell l).aux1 = peerRole (w.role n) ∧
      bits (readCell l).aux2 15 8 = 1 ∧ (w.link n).trains < 7)
    (fun w u => u.fld (F.SLV_LINKn_STATE_PEER_ID n) = (readCell l).origin ∧ (u.link n).trains = (w.link n).trains + 1 ∧
      u.linkState n = 1)) ∧
  (∀ n l, n ≤ 3 ∧ cellValid l = true ∧ leAt l 0 1 = 1 → Happens (.trainCell · n l)
    (fun w => w.domain pdSlv = 0 ∧ w.role n ≠ 0 ∧ w.linkState n = 1 ∧ (w.link n).lock = true ∧ (readCell l).aux1 = peerRole (w.role n) ∧
      bits (readCell l).aux2 15 8 = 1 ∧ 7 ≤ (w.link n).trains ∧ (w.link n).acked = true)
    (fun w u => u.linkState n = 2 ∧ (u.link n).lastBeat = w.bases.mono)) ∧
  (∀ n l, n ≤ 3 ∧ cellValid l = true ∧ leAt l 0 1 = 2 ∧ leAt (readCell l).body 8 8 ≠ 0 → Happens (.heartbeatCell · n l)
    (fun w => w.domain pdSlv = 0 ∧ w.role n ≠ 0 ∧ w.linkState n = 3)
    (fun w u => (u.link n).echo = some (leAt (readCell l).body 0 8, w.bases.mono) ∧ (u.link n).lastRx = w.bases.mono ∧
      (u.link n).delays = (((w.bases.mono - leAt (readCell l).body 8 8 - leAt (readCell l).body 16 4) / 2) :: (w.link n).delays).take 16 ∧
      u.linkState n = 3)) ∧
  (∀ n, n ≤ 3 → Happens (.heartbeatSend · n)
    (fun w => w.domain pdSlv = 0 ∧ (w.linkState n = 2 ∨ w.linkState n = 3) ∧
      ((w.link n).lastTx + 1000 ≤ w.bases.mono ∨ (w.link n).lastBeat + 100000 ≤ w.bases.mono))
    (fun w u => (u.link n).lastBeat = w.bases.mono ∧ u.out.length = w.out.length + 1)) ∧
  (∀ n, n ≤ 3 → Happens (.linkSilent · n)
    (fun w => w.domain pdSlv = 0 ∧ w.linkState n = 3 ∧ (w.link n).lastRx + 4000 ≤ w.bases.mono ∧ w.provingIn pdSlv = [])
    (fun w u => (u.linkState n = 4 ∨ u.linkState n = 6) ∧ u.fld (F.SLV_LINKn_STATE_CAUSE n) = 1 ∧
      u.regN (R.SLV_LINKn_DOWNS n) = (w.regN (R.SLV_LINKn_DOWNS n) + 1) % 2 ^ 32)) ∧
  (∀ n, n ≤ 3 → Happens (.autoRestart · n)
    (fun w => w.domain pdSlv = 0 ∧ w.role n ≠ 0 ∧ w.linkState n = 4 ∧ w.isSet F.SLV_CTRL_AUTO_RESTART = true ∧
      w.fld (F.SLV_LINKn_STATE_CAUSE n) ≠ 3 ∧ (w.link n).since + 1000000 ≤ w.bases.mono)
    (fun w u => u.linkState n = 1 ∧ (u.link n).since = w.bases.mono ∧ SameRegs w u [R.SLV_STATUS, R.SLV_LINKn_WINDOW n])) ∧
  (∀ n, n ≤ 3 → Happens (.bringupRetry · n)
    (fun w => w.domain pdSlv = 0 ∧ w.role n ≠ 0 ∧ (w.linkState n = 5 ∨ (w.linkState n = 4 ∧ w.fld (F.SLV_LINKn_STATE_CAUSE n) = 3)) ∧
      (w.link n).since + 1000000000 ≤ w.bases.mono)
    (fun w u => u.linkState n = 1 ∧ (u.link n).since = w.bases.mono ∧ SameRegs w u [R.SLV_STATUS, R.SLV_LINKn_WINDOW n]))

/-- Cells on a link that is UP (R315, R321, R325, R329): a sequenced cell that is the expected one is taken and the next is expected; a cell
that was NAKed or not acknowledged in time is to be sent again, and one already sent again brings the link down; a slot that stops short
is given up. -/
def Obligations.SlvCellsHappen : Prop :=
  (∀ n l, n ≤ 3 ∧ cellValid l = true ∧ leAt l 0 1 = 0x10 ∧ bit (readCell l).flags 0 = false → Happens (.slotHeadCell · n l)
    (fun w => w.domain pdSlv = 0 ∧ w.role n ≠ 0 ∧ w.role n ≠ 4 ∧ w.linkState n = 3 ∧ 2 ≤ w.mode ∧ w.mode ≤ 10 ∧
      cellSeq l = (w.link n).rxNext ∧ (w.link n).held = [])
    (fun w u => (u.link n).rxNext = (cellSeq l + 1) % 65536 ∧ (u.link n).lastRx = w.bases.mono ∧ (u.link n).credit = leAt l 6 2)) ∧
  (∀ n l, n ≤ 3 ∧ cellValid l = true ∧ leAt l 0 1 = 0x11 ∧ bit (readCell l).flags 0 = false → Happens (.slotDataCell · n l)
    (fun w => w.domain pdSlv = 0 ∧ w.role n ≠ 0 ∧ w.role n ≠ 4 ∧ w.linkState n = 3 ∧ 2 ≤ w.mode ∧ w.mode ≤ 10 ∧
      cellSeq l = (w.link n).rxNext ∧ (w.link n).held = [])
    (fun w u => (u.link n).rxNext = (cellSeq l + 1) % 65536 ∧ (u.link n).lastRx = w.bases.mono ∧ (u.link n).credit = leAt l 6 2)) ∧
  (∀ n l, n ≤ 3 ∧ cellValid l = true ∧ leAt l 0 1 = 0x20 ∧ bit (readCell l).flags 0 = false → Happens (.armCell · n l)
    (fun w => w.domain pdSlv = 0 ∧ w.role n ≠ 0 ∧ w.role n ≠ 4 ∧ w.linkState n = 3 ∧ 2 ≤ w.mode ∧ w.mode ≤ 10 ∧
      cellSeq l = (w.link n).rxNext ∧ (w.link n).held = [])
    (fun w u => (u.link n).rxNext = (cellSeq l + 1) % 65536 ∧ (u.link n).lastRx = w.bases.mono ∧
      u.slv.handled.contains ((readCell l).origin, (readCell l).aux2 % 2 ^ 16) = true)) ∧
  (∀ n l, n ≤ 3 ∧ cellValid l = true ∧ leAt l 0 1 = 0x21 ∧ bit (readCell l).flags 0 = false → Happens (.fireCell · n l)
    (fun w => w.domain pdSlv = 0 ∧ w.role n ≠ 0 ∧ w.role n ≠ 4 ∧ w.linkState n = 3 ∧ 2 ≤ w.mode ∧ w.mode ≤ 10 ∧
      cellSeq l = (w.link n).rxNext ∧ (w.link n).held = [])
    (fun w u => (u.link n).rxNext = (cellSeq l + 1) % 65536 ∧ (u.link n).lastRx = w.bases.mono ∧
      u.slv.handled.contains ((readCell l).origin, (readCell l).aux2 % 2 ^ 16) = true)) ∧
  (∀ n l x, n ≤ 3 ∧ cellValid l = true ∧ leAt l 0 1 = 3 → Happens (.nakCell · n l)
    (fun w => w.domain pdSlv = 0 ∧ w.role n ≠ 0 ∧ w.linkState n = 3 ∧ (w.link n).unacked = [x] ∧ x.again = none ∧
      x.seq = leAt l 0xC 4 % 65536 ∧ 32768 ≤ (leAt l 4 2 + 65536 - x.seq) % 65536)
    (fun w u => (u.link n).unacked = [{ x with asked := true }] ∧ u.linkState n = 3 ∧
      SameRegs w u [R.SLV_LINKn_RX_CELLS n, R.SLV_LINKn_WINDOW n])) ∧
  (∀ n x, n ≤ 3 → Happens (.retransmit · n)
    (fun w => w.domain pdSlv = 0 ∧ w.linkState n = 3 ∧ (w.link n).unacked = [x] ∧ x.again = none ∧ x.asked = false ∧
      x.at' + 4000 ≤ w.bases.mono)
    (fun w u => (u.link n).unacked = [{ x with asked := true }] ∧ u.linkState n = 3 ∧ SameRegs w u [R.SLV_LINKn_WINDOW n])) ∧
  (∀ n, n ≤ 3 → Happens (.retryFail · n)
    (fun w => w.domain pdSlv = 0 ∧ w.linkState n = 3 ∧
      (w.link n).unacked.any (fun u => u.again.any fun a => decide (a + 4000 ≤ w.bases.mono)) = true ∧ w.provingIn pdSlv = [])
    (fun w u => (u.linkState n = 4 ∨ u.linkState n = 6) ∧ u.fld (F.SLV_LINKn_STATE_CAUSE n) = 2 ∧
      u.regN (R.SLV_LINKn_DOWNS n) = (w.regN (R.SLV_LINKn_DOWNS n) + 1) % 2 ^ 32)) ∧
  (∀ n, n ≤ 3 → Happens (.cellTransmit · n)
    (fun w => w.domain pdSlv = 0 ∧ w.linkState n = 1 ∧ (w.link n).lock = true ∧ (w.link n).lastTx + 1000 ≤ w.bases.mono)
    (fun w u => u.out.length = w.out.length + 1 ∧ (u.link n).lastTx = w.bases.mono)) ∧
  (∀ n, n ≤ 3 → Happens (.cellTransmit · n)
    (fun w => w.domain pdSlv = 0 ∧ w.linkState n = 3 ∧ (w.link n).nak = true)
    (fun w u => u.out.length = w.out.length + 1 ∧ (u.link n).nak = false ∧
      u.regN (R.SLV_LINKn_NAK_SENT n) = (w.regN (R.SLV_LINKn_NAK_SENT n) + 1) % 2 ^ 32)) ∧
  (∀ f, Happens (.truncationTimeout · f.origin f.lattice)
    (fun w => w.slv.flows = [f] ∧ f.last + 100000000 ≤ w.bases.mono)
    (fun _ u => u.slv.flows = []))

/-- The Shuttle's commands (R346, R348, R360): a stream is enabled or not; a configuration frame goes to the queue for it where that has
room; a command is sent to an input stream, which is then held to one a second. -/
def Obligations.ShuttleCommandsComplete : Prop :=
  Completes 11 1 .shuttleStreamEnable
    (fun w => 2 ≤ w.mode ∧ w.mode ≤ 10 ∧ w.arg 11 0 ≤ 63 ∧ (w.os (w.arg 11 0)).isSome = true ∧ w.arg 11 1 ≤ 1 ∧
      (w.arg 11 1 = 1 → osFlag ((w.os (w.arg 11 0)).getD []) 0 = true))
    (fun w u => u.osSt (w.arg 11 0) = { w.osSt (w.arg 11 0) with enabled := w.arg 11 1 == 1 } ∧ SameRegs w u (cmdRegs 11)) ∧
  Completes 11 2 .cfgFetch
    (fun w => w.arg 11 0 ≤ 63 ∧ (w.os (w.arg 11 0)).isSome = true ∧ osProtocol ((w.os (w.arg 11 0)).getD []) ≤ 1 ∧
      osFlag ((w.os (w.arg 11 0)).getD []) 0 = true ∧ (w.osSt (w.arg 11 0)).enabled = true ∧ (w.arg 11 1 = 2 ∨ w.arg 11 1 = 3) ∧
      w.queueIs (w.fld F.SHUTTLE_QUEUES_CFG_QUEUE) 0 = true ∧
      (w.queue (w.fld F.SHUTTLE_QUEUES_CFG_QUEUE)).level +
        packetSize (16 + (w.cfgFrame ((w.os (w.arg 11 0)).getD []) (w.arg 11 1 == 3)).length) ≤
        w.queueSize (w.fld F.SHUTTLE_QUEUES_CFG_QUEUE))
    (fun w u => (u.queue (w.fld F.SHUTTLE_QUEUES_CFG_QUEUE)).packets = (w.queue (w.fld F.SHUTTLE_QUEUES_CFG_QUEUE)).packets ++
        [((w.queue (w.fld F.SHUTTLE_QUEUES_CFG_QUEUE)).seq, leBytes 8 0 ++ leBytes 1 (w.arg 11 0) ++ leBytes 1 (w.arg 11 1) ++
          leBytes 2 (w.cfgFrame ((w.os (w.arg 11 0)).getD []) (w.arg 11 1 == 3)).length ++ leBytes 4 0 ++
          w.cfgFrame ((w.os (w.arg 11 0)).getD []) (w.arg 11 1 == 3))] ∧
      u.regN (R.QUEUE_Qn_PACKETS (w.fld F.SHUTTLE_QUEUES_CFG_QUEUE)) =
        (w.regN (R.QUEUE_Qn_PACKETS (w.fld F.SHUTTLE_QUEUES_CFG_QUEUE)) + 1) % 2 ^ 32) ∧
  Completes 11 3 .cmdSend
    (fun w => w.arg 11 0 ≤ 8191 ∧ 1 ≤ w.arg 11 1 ∧ w.arg 11 1 ≤ 6 ∧
      (leAt (w.stream (w.arg 11 0)) 0 1 = 1 ∨ leAt (w.stream (w.arg 11 0)) 0 1 = 2) ∧
      ∀ m ∈ (w.streamSt (w.arg 11 0)).cmdAt, m + 1000000000 ≤ w.bases.mono)
    (fun w u => (u.streamSt (w.arg 11 0)).cmdAt = some w.bases.mono)

/-- What the Shuttle does when a slot's time comes (R307, R338 to R340) and the host's frames (R106): a frame is composed, its intent
goes first where the partner must know, it is launched in time or late, and LAST, SENT and LATE say so. -/
def Obligations.ShuttleEventsHappen : Prop :=
  (∀ n tag e, n ≤ 63 → Happens (.composeStart · n)
    (fun w => w.domain pdShuttle = 0 ∧ w.osNext n = some (tag, e) ∧ (w.osSt n).frame = none ∧ w.publishes n tag = true ∧
      w.launchTime e tag ≤ w.now + w.cLead ∧ osProtocol e ≤ 1 ∧
      ∃ y, (w.lat (osLattice e)).slot tag = some y ∧ y.released.isSome = true ∧ y.piped = true)
    (fun w u => (u.osSt n).frame.map (·.tag) = some tag ∧ SameRegs w u [R.SHUTTLE_SATURATED])) ∧
  (∀ n tag e payload, n ≤ 63 → Happens (.launch · n)
    (fun w => w.domain pdShuttle = 0 ∧ w.osNext n = some (tag, e) ∧ w.launchTime e tag ≤ w.now ∧ w.mayLaunch n tag = true ∧
      w.isSet F.SHUTTLE_CTRL_HOLD_ALL = false ∧ w.needsIntent = false ∧ (w.osSt n).frame = some ⟨tag, payload, true, false⟩)
    (fun w u => u.pairAt (R.SHUTTLE_OSn_LAST_LO n) = tag % 2 ^ 64 ∧
      u.regN (R.SHUTTLE_OSn_SENT n) = (w.regN (R.SHUTTLE_OSn_SENT n) + 1) % 2 ^ 32 ∧ (u.osSt n).frame = none ∧ (u.osSt n).cursor = tag)) ∧
  (∀ n tag e payload ready, n ≤ 63 → Happens (.lateLaunch · n)
    (fun w => w.domain pdShuttle = 0 ∧ w.osNext n = some (tag, e) ∧ osFlag e 3 = true ∧ w.launchTime e tag ≤ w.now ∧
      w.now < w.launchTime e tag + (1000000000 * osDivider e) / max 1 (w.rate (osLattice e)) ∧ w.mayLaunch n tag = true ∧
      w.isSet F.SHUTTLE_CTRL_HOLD_ALL = false ∧ w.needsIntent = false ∧ (w.osSt n).frame = some ⟨tag, payload, ready, false⟩)
    (fun w u => u.pairAt (R.SHUTTLE_OSn_LAST_LO n) = tag % 2 ^ 64 ∧
      u.regN (R.SHUTTLE_OSn_LATE n) = (w.regN (R.SHUTTLE_OSn_LATE n) + 1) % 2 ^ 32 ∧ (u.osSt n).frame = none ∧ (u.osSt n).cursor = tag)) ∧
  (∀ n tag e payload, n ≤ 63 → Happens (.intentSend · n)
    (fun w => w.domain pdShuttle = 0 ∧ w.osNext n = some (tag, e) ∧ w.launchTime e tag ≤ w.now + w.intentLead ∧ w.mayLaunch n tag = true ∧
      w.isSet F.SHUTTLE_CTRL_HOLD_ALL = false ∧ w.needsIntent = true ∧ (w.osSt n).frame = some ⟨tag, payload, true, false⟩)
    (fun w u => (u.osSt n).frame = some ⟨tag, payload, true, true⟩ ∧ u.pairAt (R.PAIR_OSn_INTENT_LO n) = tag % 2 ^ 64 ∧
      u.regN R.PAIR_INTENTS_SENT = (w.regN R.PAIR_INTENTS_SENT + 1) % 2 ^ 32 ∧
      SameRegs w u [R.PAIR_OSn_INTENT_LO n, R.PAIR_OSn_INTENT_LO n + 4, R.PAIR_INTENTS_SENT, R.PAIR_MIRROR_SENT])) ∧
  (∀ q k l rest, bit (leAt l 0 1) 3 = false → Happens .hostFrameSend
    (fun w => w.consumerQueue F.PORT_SLOW_QUEUE_TX_QUEUE = some q ∧ (w.queue q).packets = (k, l) :: rest ∧
      w.portOn (leAt l 0 1 % 8) = true ∧ w.portTaken (leAt l 0 1 % 8) = false ∧ w.nextLaunch (leAt l 0 1 % 8) = none)
    (fun w u => (u.queue q).packets = rest ∧ u.port = { w.port with busy := u.port.busy } ∧
      (w.linkIsUp (leAt l 0 1 % 8) = true → u.regN (R.PORT_TX_FRAMES (leAt l 0 1 % 8)) =
        (w.regN (R.PORT_TX_FRAMES (leAt l 0 1 % 8)) + 1) % 2 ^ 32)))

/-- The queues (R352 to R359): a queue starts and stops; it is flushed and its rings meet; the host posts to its doorbell; a packet is copied
to the host with its write-back, or fetched from it; the moderation time signals what was counted. -/
def Obligations.QueuesRun : Prop :=
  Completes 12 1 .queueStart
    (fun w => w.arg 12 0 ≤ 31 ∧ 1 ≤ w.mode ∧ w.mode ≤ 10 ∧ w.isSet (F.QUEUE_Qn_CFG_ENABLE (w.arg 12 0)) = true ∧
      w.ringSet (w.arg 12 0) = true)
    (fun w u => u.fld (F.QUEUE_Qn_CTRL_STATE (w.arg 12 0)) = 2 ∧
      SameRegs w u ([R.QUEUE_Qn_CTRL (w.arg 12 0), R.QUEUE_STATUS] ++ cmdRegs 12)) ∧
  Completes 12 2 .queueStop
    (fun w => w.arg 12 0 ≤ 31 ∧ w.isSet (F.QUEUE_Qn_CFG_ENABLE (w.arg 12 0)) = true)
    (fun w u => u.fld (F.QUEUE_Qn_CTRL_STATE (w.arg 12 0)) = 1 ∧ bit (u.regN R.QUEUE_STATUS) (w.arg 12 0) = false ∧
      u.queues = w.queues ∧ SameRegs w u ([R.QUEUE_Qn_CTRL (w.arg 12 0), R.QUEUE_STATUS] ++ cmdRegs 12)) ∧
  (∀ q path, q ≤ 31 → Happens (.queueFlush · path q)
    (fun w => w.Reaches path (R.QUEUE_Qn_CTRL q) ∧ w.isSet (F.QUEUE_Qn_CFG_ENABLE q) = true)
    (fun w u => (u.queue q).packets = [] ∧ u.isSet (F.QUEUE_Qn_CTRL_FLUSH q) = false ∧
      (w.queueIs q 1 = true → u.regN (R.QUEUE_Qn_DEVICE_PTR q) = w.regN (R.QUEUE_Qn_DOORBELL q)))) ∧
  (∀ q v path, q ≤ 31 ∧ v < 2 ^ 32 → Happens (.doorbell · path q v)
    (fun w => w.Reaches path (R.QUEUE_Qn_DOORBELL q) ∧ w.ringSize q ≠ 0 ∧ v < 2 * w.ringSize q ∧ w.queueIs q 1 = true ∧
      ringSpan (w.ringSize q) (w.regN (R.QUEUE_Qn_DOORBELL q)) v ≤
        w.ringSize q - ringSpan (w.ringSize q) (w.regN (R.QUEUE_Qn_DEVICE_PTR q)) (w.regN (R.QUEUE_Qn_DOORBELL q)))
    (fun w u => u.regN (R.QUEUE_Qn_DOORBELL q) = v ∧ SameRegs w u (R.QUEUE_Qn_DOORBELL q :: noteRegs))) ∧
  (∀ q seq payload rest, Happens (.d2hCopy · q true)
    (fun w => w.dmaOn q 0 = true ∧ (w.queue q).packets = (seq, payload) :: rest ∧
      w.regN (R.QUEUE_Qn_DEVICE_PTR q) % w.ringSize q + packetSize payload.length ≤ w.ringSize q ∧
      ringSpan (w.ringSize q) (w.regN (R.QUEUE_Qn_DOORBELL q)) (w.regN (R.QUEUE_Qn_DEVICE_PTR q)) + packetSize payload.length ≤
        w.ringSize q)
    (fun w u => (u.queue q).packets = rest ∧ (u.queue q).copied = seq ∧
      u.regN (R.QUEUE_Qn_DEVICE_PTR q) = (w.regN (R.QUEUE_Qn_DEVICE_PTR q) + packetSize payload.length) % (2 * w.ringSize q) % 2 ^ 32 ∧
      Output.dma q (w.regN (R.QUEUE_Qn_DEVICE_PTR q) % w.ringSize q) (packetBytes seq payload) ∈ u.out)) ∧
  (∀ q payload, Happens (.h2dFetch · q 0 payload true)
    (fun w => w.dmaOn q 1 = true ∧
      packetSize payload.length ≤ ringSpan (w.ringSize q) (w.regN (R.QUEUE_Qn_DEVICE_PTR q)) (w.regN (R.QUEUE_Qn_DOORBELL q)) ∧
      w.regN (R.QUEUE_Qn_DEVICE_PTR q) % w.ringSize q + packetSize payload.length ≤ w.ringSize q ∧
      (w.queue q).level + packetSize payload.length ≤ w.queueSize q)
    (fun w u => (u.queue q).packets = (w.queue q).packets ++ [(0, payload)] ∧
      u.regN (R.QUEUE_Qn_PACKETS q) = (w.regN (R.QUEUE_Qn_PACKETS q) + 1) % 2 ^ 32 ∧
      u.regN (R.QUEUE_Qn_DEVICE_PTR q) = (w.regN (R.QUEUE_Qn_DEVICE_PTR q) + packetSize payload.length) % (2 * w.ringSize q) % 2 ^ 32)) ∧
  (∀ q m, q ≤ 31 → Happens (.moderationTimeout · q)
    (fun w => (w.queue q).first = some m ∧ (w.queue q).counted ≠ 0 ∧ m + 1000 * w.fld (F.QUEUE_Qn_MODERATION_US q) ≤ w.bases.mono ∧
      w.isSet (F.HOST_MSIXn_CTRL_MASK (32 + q)) = true)
    (fun w u => (u.queue q).counted = 0 ∧ (u.queue q).first = none ∧ bit (u.regN (R.HOST_PBAn 1)) q = true ∧
      SameRegs w u [R.HOST_PBAn 1]))

/-- CAPT's commands (R369, R380 to R382): a region is armed, disarmed or fired; an input of its kind is set; a record is locked and
unlocked. -/
def Obligations.CaptCommandsComplete : Prop :=
  Completes 14 1 .arm
    (fun w => w.capturing = true ∧ w.arg 14 0 ≤ 15 ∧ ceEnabled (w.capEntry (w.arg 14 0)) = true ∧
      ((w.capReg (w.arg 14 0)).st = 0 ∨ (w.capReg (w.arg 14 0)).st = 1 ∨ (w.capReg (w.arg 14 0)).st = 6) ∧
      w.mayArm (w.arg 14 0) (w.capEntry (w.arg 14 0)) = true)
    (fun w u => (u.capReg (w.arg 14 0)).st = 2 ∧ (u.capReg (w.arg 14 0)).since = w.bases.mono ∧
      (u.capReg (w.arg 14 0)).held = (w.capReg (w.arg 14 0)).held ∧ u.fld (F.CAPT_Rr_STATE_STATE (w.arg 14 0)) = 2) ∧
  Completes 14 2 .disarm
    (fun w => w.arg 14 0 ≤ 15 ∧ ceEnabled (w.capEntry (w.arg 14 0)) = true ∧
      ((w.capReg (w.arg 14 0)).st = 2 ∨ (w.capReg (w.arg 14 0)).st = 6))
    (fun w u => (u.capReg (w.arg 14 0)).st = 1 ∧ (u.capReg (w.arg 14 0)).held = (w.capReg (w.arg 14 0)).held) ∧
  Completes 14 2 .disarm
    (fun w => w.arg 14 0 ≤ 15 ∧ ceEnabled (w.capEntry (w.arg 14 0)) = true ∧ 3 ≤ (w.capReg (w.arg 14 0)).st ∧
      (w.capReg (w.arg 14 0)).st ≤ 5)
    (fun w u => u.capReg (w.arg 14 0) = { w.capReg (w.arg 14 0) with disarm := true }) ∧
  Completes 14 3 .fire
    (fun w => w.capturing = true ∧ w.arg 14 0 ≤ 15 ∧ ceEnabled (w.capEntry (w.arg 14 0)) = true ∧ (w.capReg (w.arg 14 0)).st = 2 ∧
      (w.capReg (w.arg 14 0)).last = none)
    (fun w u => (u.capReg (w.arg 14 0)).st = 3 ∧ (u.capReg (w.arg 14 0)).seq = ((w.capReg (w.arg 14 0)).seq + 1) % 2 ^ 32 ∧
      u.pairAt (R.CAPT_Rr_TRIG_LO (w.arg 14 0)) = w.now % 2 ^ 64 ∧
      u.regN R.CAPT_TRIGGERS = (w.regN R.CAPT_TRIGGERS + 1) % 2 ^ 32) ∧
  Completes 14 4 .trigSet
    (fun w => w.capturing = true ∧ w.arg 14 0 ≤ 255 ∧ w.inputEntry (w.arg 14 0) % 16 = 6 ∧
      w.inputValue (w.arg 14 0) = !(w.arg 14 1 % 2 == 1))
    (fun w u => u.inputQ = w.inputQ ++ [⟨w.arg 14 0, w.arg 14 1 % 2 == 1, w.now⟩] ∧ SameRegs w u (cmdRegs 14)) ∧
  (∀ h, Completes 14 5 .recordLock
    (fun w => w.arg 14 0 ≤ 15 ∧ ceEnabled (w.capEntry (w.arg 14 0)) = true ∧ (w.capReg (w.arg 14 0)).st ≠ 3 ∧
      (w.capReg (w.arg 14 0)).st ≠ 4 ∧ (w.capReg (w.arg 14 0)).held = [h] ∧ h.seq = w.arg 14 1)
    (fun w u => (u.capReg (w.arg 14 0)).held = [{ h with locked := true }])) ∧
  (∀ h, Completes 14 6 .recordUnlock
    (fun w => w.arg 14 0 ≤ 15 ∧ ceEnabled (w.capEntry (w.arg 14 0)) = true ∧ (w.capReg (w.arg 14 0)).held = [h] ∧ h.seq = w.arg 14 1)
    (fun w u => (u.capReg (w.arg 14 0)).held = [{ h with locked := false }]))

/-- CAPT's events (R367 to R369): a change of an input is shown; the wait for waveforms ends in REARM; a region that rearms has written its
record and is armed again, or not. -/
def Obligations.CaptEventsHappen : Prop :=
  (∀ c rest, c.input < 256 → Happens .inputChange
    (fun w => w.inputQ = c :: rest ∧ w.domain pdStacks = 0 ∧ ∀ r : Nat, r < 16 → ceEnabled (w.capEntry r) = true → cePatterns (w.capEntry r) = [])
    (fun w u => u.inputQ = rest ∧ bit (u.regN (R.CAPT_INPUTSn (c.input / 32))) (c.input % 32) = c.value ∧
      SameRegs w u [R.CAPT_INPUTSn (c.input / 32)])) ∧
  (∀ r, r ≤ 15 → Happens (.waveWaitEnd · r)
    (fun w => (w.capReg r).st = 4 ∧ w.domain pdStacks = 0 ∧ (w.capReg r).since + 1000000 * ceWait (w.capEntry r) ≤ w.bases.mono)
    (fun w u => (u.capReg r).st = 5 ∧ (u.capReg r).since = w.bases.mono)) ∧
  (∀ r o, r ≤ 15 → Happens (.rearmDone · r)
    (fun w => (w.capReg r).st = 5 ∧ w.domain pdStacks = 0 ∧ (w.capReg r).rec' = some o ∧ (w.capReg r).held = [] ∧
      (w.capReg r).disarm = false ∧ ceFlag (w.capEntry r) 1 = false)
    (fun w u => (u.capReg r).st = 1 ∧ (u.capReg r).held.map (·.seq) = [o.seq] ∧ (u.capReg r).rec' = none ∧
      u.regN (R.CAPT_Rr_SEQ r) = o.seq % 2 ^ 32 ∧ u.regN R.CAPT_RECORDS = (w.regN R.CAPT_RECORDS + 1) % 2 ^ 32))

/-- ENERGY (R384 to R397, R305): an interval record is read from its ring, peaks are reset, a save set goes to the other bank every second, a
pulse output falls and rises, the holder mirrors every flow point. What time does at ENERGY (R392, R395, R305): a save set to the other
bank, a pulse output's fall, the ENERGY messages. -/
def Obligations.EnergyRuns : Prop :=
  Completes 15 1 .intervalRead
    (fun w => w.arg 15 0 ≤ 2047 ∧ w.arg 15 1 ≤ 95 ∧ w.arg 15 1 < (w.flow (w.arg 15 0)).seq)
    (fun w u => (∀ i : Nat, i < 16 → u.regN (R.ENERGY_IVLn i) =
        leAt (memRead 0xFF w.archive (ringAddr (w.arg 15 0) ((w.flow (w.arg 15 0)).seq - w.arg 15 1)) 64) (4 * i) 4) ∧
      u.energy = w.energy ∧ SameRegs w u ((List.range 16).map R.ENERGY_IVLn ++ eventRegs ++ cmdRegs 15)) ∧
  Completes 15 2 .peakReset
    (fun w => 2 ≤ w.mode ∧ w.mode ≤ 10 ∧ (w.arg 15 0 ≤ 2047 ∨ w.arg 15 0 = 0xFFFF))
    (fun w u => u.energy.points = w.energy.points.map (fun x => (x.1,
          if w.arg 15 0 = 0xFFFF ∨ x.1 = w.arg 15 0 then { x.2 with peakP := 0, peakI := 0 } else x.2)) ∧
      u.energy.savedAt = w.energy.savedAt ∧ u.energy.pulses = w.energy.pulses ∧
      SameRegs w u (cmdRegs 15)) ∧
  Happens (.energySave · 0)
    (fun w => 3 ≤ w.mode ∧ w.mode ≤ 10 ∧ w.domain pdArchive = 0 ∧ w.pfwLow = false ∧ w.energy.savedAt + 1000000000 ≤ w.bases.mono)
    (fun w u => u.energy = { w.energy with savedAt := w.bases.mono, bank := (w.energy.bank + 1) % 2 } ∧
      (if (w.energy.bank + 1) % 2 = 0 then u.saves.bankA.isSome = true ∧ u.saves.bankB = w.saves.bankB
        else u.saves.bankB.isSome = true ∧ u.saves.bankA = w.saves.bankA) ∧
      u.regN R.ENERGY_SAVES = (w.regN R.ENERGY_SAVES + 1) % 2 ^ 32 ∧ u.pairAt R.ENERGY_SAVE_LO = w.bases.grid % 2 ^ 64) ∧
  (∀ n e, n < 4 → Happens (.epulsePhase · n)
    (fun w => (w.pulseOut n).high = true ∧ (w.pulseOut n).ends = some e ∧ e ≤ w.bases.mono)
    (fun w u => u.pulseOut n = { w.pulseOut n with high := false, ends := some (e + 1000000 * w.fld (F.ENERGY_PULSEn_CFG_WIDTH n)) } ∧
      SameRegs w u [R.ENERGY_PULSEn_STATE n])) ∧
  Happens .energyMirrorSend
    (fun w => w.holds = true ∧ w.isSet F.PAIR_STATUS_MIRROR_UP = true ∧ w.isSet F.PAIR_STATUS_DRAFT_MISMATCH = false ∧
      w.pair.energyAt.getD 0 + 1000000000 ≤ w.bases.mono)
    (fun w u => u.pair = { w.pair with energyAt := some w.bases.mono } ∧
      u.slv.mirrorQ = w.slv.mirrorQ ++ w.energy.points.map (fun x =>
        (4, leBytes 2 x.1 ++ leBytes 8 (x.2.last.getD 0) ++ x.2.regs.flatMap (fun r => leBytes 12 r.1))) ∧
      SameRegs w u [R.PAIR_MIRROR_SENT])

/-- The Ledger records (R402 to R407): an event is staged under the next accession number, joins the open record it repeats, or, with staging
full, opens the LOST record; records close; the lowest closed record is written at the next place of the ring and leaves staging; the
operating seconds are saved; the clearing and the nonce end. -/
def Obligations.LedgerEventsHappen : Prop :=
  (∀ code src p, code < 2 ^ 16 ∧ code % 2048 ≠ 0 → Happens (.ledgerEvent · code src p)
    (fun w => w.ledger.closed = false ∧ joinKind w code src p = 0 ∧ w.ledger.staging.length < 4095)
    (fun w u => u.ledger.staging = w.ledger.staging ++ [newRecord w code src p false] ∧ u.ledger.next = w.ledger.next + 1 ∧
      u.ledger.lost = w.ledger.lost ∧ u.ledger.cEvents = (w.ledger.cEvents + 1) % 2 ^ 32 ∧ u.archive = w.archive ∧
      SameRegs w u eventRegs)) ∧
  (∀ code src p, code < 2 ^ 16 ∧ code % 2048 ≠ 0 → Happens (.ledgerEvent · code src p)
    (fun w => w.ledger.closed = false ∧ joinKind w code src p = 0 ∧ w.ledger.staging.length < 4095)
    (fun w u => ∃ r ∈ u.ledger.staging.getLast?.toList, r.acc = w.ledger.next ∧ r.event = code ∧ r.source = src % 2 ^ 16 ∧ r.repeats = 1 ∧
      r.mode = w.mode ∧ r.payload = pad 16 p ∧ r.epoch = w.ledger.epoch ∧ r.cycles = w.ledger.powerCycles ∧ r.opSec = w.opSeconds ∧
      bit r.flags 0 = w.isSet F.TIME_STATUS_EVER_LOCKED ∧ (w.isSet F.TIME_STATUS_EVER_LOCKED = true → r.tai = w.now))) ∧
  (∀ code src p, code < 2 ^ 16 ∧ code % 2048 ≠ 0 → Happens (.ledgerEvent · code src p)
    (fun w => w.ledger.closed = false ∧ joinKind w code src p = 1)
    (fun w u => u.ledger.next = w.ledger.next ∧ u.ledger.staging.length = w.ledger.staging.length ∧
      newest u.ledger.staging code src = (newest w.ledger.staging code src).map (repeated w) ∧
      u.ledger.cCoalesced = (w.ledger.cCoalesced + 1) % 2 ^ 32 ∧ SameRegs w u [])) ∧
  (∀ code src p, code < 2 ^ 16 ∧ code % 2048 ≠ 0 → Happens (.ledgerEvent · code src p)
    (fun w => w.ledger.closed = false ∧ joinKind w code src p = 0 ∧ 4095 ≤ w.ledger.staging.length ∧ w.ledger.lost = none)
    (fun w u => u.ledger.staging = w.ledger.staging ∧ u.ledger.lost.map (fun r => (r.acc, r.event)) = some (w.ledger.next, 0xC001) ∧
      u.ledger.next = w.ledger.next + 1 ∧ u.ledger.cLost = (w.ledger.cLost + 1) % 2 ^ 32)) ∧
  Happens (.coalesceClose ·) (fun _ => True)
    (fun w u => u.ledger.staging.map (fun r => r.bytes) = w.ledger.staging.map (fun r => r.bytes) ∧
      (∀ r ∈ u.ledger.staging, r.isOpen = true →
        w.bases.mono < r.last + 1000000 * w.regN R.LEDGER_COALESCE_MS ∧ r.repeats < 65535) ∧ SameRegs w u []) ∧
  (∀ r, Happens (.recordWritten · 0)
    (fun w => w.ledger.first = some r ∧ r.isOpen = false ∧ w.isSet F.POWER_STATUS_WRITE_PROTECT = false ∧ w.domain pdArchive = 0 ∧
      w.ledger.lost = none ∧ r.acc < w.ledger.next)
    (fun _ u => u.ledger.written = r.acc ∧ 1 ≤ u.ledger.wrRec ∧
      memRead 0xFF u.archive (ledgerAddr u.ledger.wrBlock + 64 * (u.ledger.wrRec - 1)) 64 = r.full ∧
      ∀ x ∈ u.ledger.staging, x.acc ≠ r.acc)) ∧
  Happens (.opSecondsSave ·)
    (fun w => w.ledger.savedOp + 60 ≤ w.opSeconds ∧ w.isSet F.POWER_STATUS_WRITE_PROTECT = false ∧ w.pfwLow = false ∧
      w.domain pdArchive = 0)
    (fun w u => u.ledger = { w.ledger with savedOp := w.opSeconds } ∧ SameRegs w u []) ∧
  (∀ n, Happens (.nonceExpiry ·) (fun w => w.ledger.nonce = some n ∧ n.issued + 60000000000 ≤ w.bases.mono)
    (fun w u => u.ledger = { w.ledger with nonce := none } ∧ SameRegs w u [])) ∧
  Happens (.clearDone ·) (fun w => w.ledger.clearing = true ∧ w.pfwLow = false)
    (fun w u => u.ledger.clearing = false ∧ (u.irqOf I.LEDGER_CLEARED.1).status.getLsbD I.LEDGER_CLEARED.2 = true ∧
      (∀ x ∈ w.ledger.dir, if x.2.all (fun a => decide (a < w.ledger.oldest)) then x ∉ u.ledger.dir ∧
        memRead 0xFF u.archive (ledgerAddr x.1) 2048 = List.replicate 2048 0xFF else x ∈ u.ledger.dir) ∧ u.ledger.next = w.ledger.next)

/-- The Ledger's commands (R409 to R414): a record reads whole and says whether its number is final; records are acknowledged, closed and
verified; a nonce is given; the key is set and changed and the ledger cleared, in M2 and M9, with the right response. -/
def Obligations.LedgerCommandsComplete : Prop :=
  (∀ b f, Completes 24 1 .read
    (fun w => w.ledger.oldest ≤ w.argAcc ∧ w.argAcc < w.ledger.next ∧ w.record w.argAcc = some (b, f) ∧ w.domain pdArchive = 0)
    (fun w u => (∀ i : Nat, i < 16 → u.regN (R.LEDGER_RECn i) = leAt b (4 * i) 4) ∧ u.results 24 = (if f then 1 else 0, 0) ∧
      u.ledger = w.ledger ∧ u.archive = w.archive ∧ SameRegs w u ((List.range 16).map R.LEDGER_RECn ++ cmdRegs 24))) ∧
  Completes 24 3 .ledgerFlush (fun _ => True)
    (fun w u => u.ledger.staging = w.ledger.staging.map (fun r => { r with isOpen := false }) ∧ u.ledger.next = w.ledger.next ∧
      SameRegs w u (cmdRegs 24)) ∧
  Completes 24 5 .nonce (fun w => w.ledger.authLocked = false)
    (fun w u => (∃ n ∈ u.ledger.nonce.toList, n.issued = w.bases.mono ∧ u.results 24 = (n.value.toNat % 2 ^ 32, n.value.toNat / 2 ^ 32)) ∧
      SameRegs w u (cmdRegs 24)) ∧
  Completes 24 6 .clear
    (fun w => (w.mode = 2 ∨ w.mode = 9) ∧ w.pfwLow = false ∧ w.ledger.clearing = false ∧ w.responseOk 1 = true ∧ w.domain pdArchive = 0)
    (fun w u => u.ledger.clearing = true ∧ u.ledger.epoch = (w.ledger.epoch + 1) % 2 ^ 32 ∧ u.ledger.nonce = none ∧
      u.ledger.written = u.ledger.oldest) ∧
  Completes 24 7 .keySet (fun w => w.ledger.key = none ∧ w.stagedKey.all (fun b => b == 0) = false)
    (fun w u => u.ledger.key = some w.stagedKey ∧ (∀ i : Nat, i < 8 → u.regN (R.LEDGER_KEY_STAGEn i) = 0) ∧
      SameRegs w u ((List.range 8).map R.LEDGER_KEY_STAGEn ++ eventRegs ++ cmdRegs 24)) ∧
  Completes 24 8 .keyChange (fun w => w.responseOk 2 = true ∧ w.stagedKey.all (fun b => b == 0) = false)
    (fun w u => u.ledger.key = some w.stagedKey ∧ u.ledger.nonce = none ∧ (∀ i : Nat, i < 8 → u.regN (R.LEDGER_KEY_STAGEn i) = 0) ∧
      SameRegs w u ((List.range 8).map R.LEDGER_KEY_STAGEn ++ eventRegs ++ cmdRegs 24))

/-- R410. ACK sets the acknowledged number to the one given, if that is at least the present one and below the written one plus 1; any other is
refused with BAD_ARG. Each new write raises UNACKED_HIGH while the written number is at least UNACKED_TH above the acknowledged one. -/
def Obligations.AckAndUnackedHigh : Prop :=
  Completes 24 2 .ack
    (fun w => w.ledger.acked ≤ w.argAcc ∧ w.argAcc < w.ledger.written + 1)
    (fun w u => u.ledger = { w.ledger with acked := w.argAcc } ∧ SameRegs w u (cmdRegs 24)) ∧
  (∀ (s : State) (t : Nat) (path : Path), s.Ready path 24 →
    ((s.issued t path 24 2).argAcc < (s.issued t path 24 2).ledger.acked ∨
      (s.issued t path 24 2).ledger.written + 1 ≤ (s.issued t path 24 2).argAcc) →
    Answers (exec (.ack t path) s) fun u => u.regN (hdr 24 0x54) = 2 ^ 31 + 2 ^ 16 * 2 + 3 ∧
      u.ledger.acked = (s.issued t path 24 2).ledger.acked) ∧
  (∀ r fails, fails ≤ 1 → Happens (.recordWritten · fails)
    (fun w => w.ledger.first = some r ∧ r.isOpen = false ∧ w.isSet F.POWER_STATUS_WRITE_PROTECT = false ∧ w.domain pdArchive ≠ 2)
    (fun w u => u.ledger.written = r.acc ∧ u.ledger.acked = w.ledger.acked ∧
      (u.irqOf I.LEDGER_UNACKED_HIGH.1).status.getLsbD I.LEDGER_UNACKED_HIGH.2 =
        (decide (w.regN R.LEDGER_UNACKED_TH ≤ u.ledger.written - u.ledger.acked) ||
          (w.irqOf I.LEDGER_UNACKED_HIGH.1).status.getLsbD I.LEDGER_UNACKED_HIGH.2)))

/-- R411. VERIFY checks the written records from a number between the oldest and the written one, up to 65,536 and none beyond the written
one; RESULT0 is the number of failures, RESULT1 the low word of the first; any other start is refused with BAD_ARG. READ returns a record
whatever its colophon, and a failure is recorded as COLOPHON_FAIL. -/
def Obligations.VerifyChecksColophons : Prop :=
  Completes 24 4 .verify
    (fun w => w.ledger.oldest ≤ w.argAcc ∧ w.argAcc ≤ w.ledger.written ∧ 1 ≤ w.arg 24 2 ∧ w.arg 24 2 ≤ 65536 ∧ w.domain pdArchive = 0)
    (fun w u => u.results 24 =
        (((List.range (min (w.arg 24 2) (w.ledger.written + 1 - w.argAcc))).filter fun i => (w.ledger.find (w.argAcc + i)).any fun p =>
            !colophonOk (memRead 0xFF w.archive (ledgerAddr p.1 + 64 * p.2) 64)).length,
          ((((List.range (min (w.arg 24 2) (w.ledger.written + 1 - w.argAcc))).find? fun i => (w.ledger.find (w.argAcc + i)).any fun p =>
            !colophonOk (memRead 0xFF w.archive (ledgerAddr p.1 + 64 * p.2) 64)).map fun i => (w.argAcc + i) % 2 ^ 32).getD 0)) ∧
      u.archive = w.archive ∧ u.ledger.dir = w.ledger.dir ∧ SameRegs w u (eventRegs ++ cmdRegs 24)) ∧
  (∀ (s : State) (t : Nat) (path : Path), s.Ready path 24 →
    ((s.issued t path 24 4).argAcc < (s.issued t path 24 4).ledger.oldest ∨
      (s.issued t path 24 4).ledger.written < (s.issued t path 24 4).argAcc) →
    Answers (exec (.verify t path) s) fun u => u.regN (hdr 24 0x54) = 2 ^ 31 + 2 ^ 16 * 4 + 3 ∧ u.results 24 = (0, 0)) ∧
  Completes 24 4 .verify
    (fun w => w.ledger.oldest ≤ w.argAcc ∧ w.argAcc ≤ w.ledger.written ∧ w.arg 24 2 = 1 ∧ w.domain pdArchive = 0 ∧
      (∃ p ∈ (w.ledger.find w.argAcc).toList, colophonOk (memRead 0xFF w.archive (ledgerAddr p.1 + 64 * p.2) 64) = false) ∧
      w.ledger.closed = false ∧ newest w.ledger.staging E.LEDGER_COLOPHON_FAIL noSource = none ∧ w.ledger.staging.length < 4095)
    (fun w u => u.results 24 = (1, w.arg 24 0) ∧
      u.ledger.staging = w.ledger.staging ++ [newRecord w E.LEDGER_COLOPHON_FAIL noSource (leBytes 6 w.argAcc) false]) ∧
  (∀ p, Completes 24 1 .read
    (fun w => w.ledger.oldest ≤ w.argAcc ∧ w.argAcc < w.ledger.next ∧ w.ledger.find w.argAcc = some p ∧
      (w.ledger.staging ++ w.ledger.lost.toList).find? (fun r => r.acc == w.argAcc) = none ∧ w.domain pdArchive = 0)
    (fun w u => ∀ i : Nat, i < 16 → u.regN (R.LEDGER_RECn i) = leAt (memRead 0xFF w.archive (ledgerAddr p.1 + 64 * p.2) 64) (4 * i) 4))

/-- The check-value engines (R418 to R422): a scan that keeps the rules starts; its end shows the check value of the block, whether it is
the one expected, and records a mismatch; a word that stays uncorrectable ends it with the address; a scan that is stopped shows the blocks
compared so far. -/
def Obligations.CheckScans : Prop :=
  Completes 25 1 .scanStart
    (fun w => w.arg 25 0 ≤ 3 ∧ w.scanning (w.arg 25 0) = false ∧ w.scanOk (w.arg 25 0) = true ∧
      ((w.scan (w.arg 25 0)).space = 1 → w.domain pdStacks < 2))
    (fun w u => u.regN (R.CHECK_En_STATE (w.arg 25 0)) = 1 ∧ u.regN R.CHECK_SCANS = (w.regN R.CHECK_SCANS + 1) % 2 ^ 32 ∧
      SameRegs w u ([R.CHECK_En_STATE (w.arg 25 0), R.CHECK_SCANS] ++ cmdRegs 25)) ∧
  (∀ blocks, Completes 25 2 (.scanStop · · blocks)
    (fun w => w.arg 25 0 ≤ 3 ∧ w.scanning (w.arg 25 0) = true)
    (fun w u => u.regN (R.CHECK_En_STATE (w.arg 25 0)) = 4 ∧
      u.regN (R.CHECK_En_MISMATCHES (w.arg 25 0)) = sat32 (w.scanRun (w.arg 25 0) (min blocks (w.scan (w.arg 25 0)).blocks)).1 ∧
      SameRegs w u ([R.CHECK_En_STATE (w.arg 25 0), R.CHECK_En_MISMATCHES (w.arg 25 0), R.CHECK_En_FIRST_BAD (w.arg 25 0),
        R.CHECK_En_RESULT_LO (w.arg 25 0), R.CHECK_En_RESULT_LO (w.arg 25 0) + 4] ++ cmdRegs 25))) ∧
  (∀ e, e ≤ 3 → Happens (.scanDone · e none)
    (fun w => w.scanning e = true ∧ (w.scan e).space = 2 ∧ (w.scan e).table = false ∧ (w.scan e).fold = 0)
    (fun w u => u.regN (R.CHECK_En_STATE e) = 2 ∧
      u.pairAt (R.CHECK_En_RESULT_LO e) = engineCrc e 0 (memRead 0xFF w.archive (w.scan e).start (w.scan e).length) % 2 ^ 64 ∧
      (u.irqOf 25).status.getLsbD e = true ∧
      (if engineCrc e 0 (memRead 0xFF w.archive (w.scan e).start (w.scan e).length) = (w.scan e).expect % 2 ^ engineWidth e
        then u.regN (R.CHECK_En_MISMATCHES e) = 0 ∧ u.regN (R.CHECK_En_FIRST_BAD e) = 2 ^ 32 - 1
        else u.regN (R.CHECK_En_MISMATCHES e) = 1 ∧ u.regN (R.CHECK_En_FIRST_BAD e) = 0 ∧
          (u.irqOf 25).status.getLsbD (4 + e) = true ∧ u.regN R.CHECK_MISMATCH_SCANS = (w.regN R.CHECK_MISMATCH_SCANS + 1) % 2 ^ 32) ∧
      u.archive = w.archive ∧ u.stk = w.stk)) ∧
  (∀ e a, e ≤ 3 ∧ a < 2 ^ 34 → Happens (.scanDone · e (some a)) (fun w => w.scanning e = true)
    (fun w u => u.regN (R.CHECK_En_STATE e) = 3 ∧ u.pairAt (R.CHECK_En_RESULT_LO e) = a ∧ (u.irqOf 25).status.getLsbD (8 + e) = true ∧
      SameRegs w u ([R.CHECK_En_STATE e, R.CHECK_En_RESULT_LO e, R.CHECK_En_RESULT_LO e + 4] ++ eventRegs)))

/-- CLOCK's events (R439 to R444): a lost clock is relocked as transient or lost as lasting; a canary error and the hour start a re-plan,
which measures, corrects the margins to 110 °C and, where no step of the request is open, ends; a step's effect is learned; a write of the
request is checked, repeated once, and then fails; the daily forecast. CLOCK's commands (R442, R449): REPLAN measures and re-plans at
once; AVS_SET moves the request by one step of at most 10 mV and writes it to the regulator. -/
def Obligations.ClockRuns : Prop :=
  (∀ i, i ≤ 15 → Happens (.clockLoss · i none) (fun _ => True)
    (fun w u => smFind u.clock.relock i = some w.bases.mono ∧ (u.irqOf 27).status.getLsbD I.CLOCK_CLOCK_LOSS.2 = true ∧
      SameRegs w u [R.HOST_PBAn 0])) ∧
  (∀ i x, Happens (.clockLoss · i (some x)) (fun _ => True)
    (fun w u => u.clock = w.clock ∧ u.regN R.CLOCK_CANARY_ERRORS = (w.regN R.CLOCK_CANARY_ERRORS + 1) % 2 ^ 32 ∧
      SameRegs w u [R.CLOCK_CANARY_ERRORS, R.HOST_PBAn 0])) ∧
  (∀ i, i ≤ 15 → Happens (.relockDone · i true) (fun w => (smFind w.clock.relock i).isSome = true)
    (fun w u => smFind u.clock.relock i = none ∧ u.regN R.CLOCK_LOSS_TRANSIENT = (w.regN R.CLOCK_LOSS_TRANSIENT + 1) % 2 ^ 32 ∧
      u.regN R.FAULT_TRANSIENT = (w.regN R.FAULT_TRANSIENT + 1) % 2 ^ 32)) ∧
  (∀ i, i ≤ 15 → Happens (.relockDone · i false)
    (fun w => (smFind w.clock.relock i).isSome = true ∧ w.provingIn (islandDomain i) = [])
    (fun w u => smFind u.clock.relock i = none ∧ u.regN R.CLOCK_LOSS_LASTING = (w.regN R.CLOCK_LOSS_LASTING + 1) % 2 ^ 32 ∧
      u.isSet (F.CLOCK_ISLn_STATE_FENCED i) = true ∧ u.regN R.FAULT_LASTING = (w.regN R.FAULT_LASTING + 1) % 2 ^ 32)) ∧
  (∀ i x can tj slack, i ≤ 15 ∧ x ≤ 15 → Happens (.canaryError · i can { slack := [(x, slack)], ring := [], tj := tj })
    (fun w => w.islandOn x = true ∧ 2 ≤ w.mode ∧ w.mode ≤ 10 ∧ w.pfwLow = false ∧ w.avsOpen = false ∧ w.clock.replan = none)
    (fun w u => u.regN R.CLOCK_CANARY_ERRORS = (w.regN R.CLOCK_CANARY_ERRORS + 1) % 2 ^ 32 ∧ u.regN R.CLOCK_TJ = unsigned 16 tj ∧
      u.margin x = slack - ((Config.islandK x : Int) * (1100 - tj)).fdiv 10000 ∧
      u.regN R.CLOCK_REPLANS = (w.regN R.CLOCK_REPLANS + 1) % 2 ^ 32 ∧ u.ageing.request = w.ageing.request)) ∧
  (∀ x tj slack, x ≤ 15 → Happens (.hourlyReplan · { slack := [(x, slack)], ring := [], tj := tj })
    (fun w => w.clock.hourAt + 3600000000000 ≤ w.bases.mono ∧ w.islandOn x = true ∧ 2 ≤ w.mode ∧ w.mode ≤ 10 ∧ w.pfwLow = false ∧
      w.avsOpen = false ∧ w.clock.replan = none)
    (fun w u => u.clock.hourAt = w.bases.mono ∧ u.margin x = slack - ((Config.islandK x : Int) * (1100 - tj)).fdiv 10000 ∧
      u.regN R.CLOCK_REPLANS = (w.regN R.CLOCK_REPLANS + 1) % 2 ^ 32 ∧ u.pairAt R.CLOCK_REPLAN_LO = w.bases.grid % 2 ^ 64 ∧
      u.clock.replan = none)) ∧
  (∀ tj slack r, r.worst ≤ 15 → Happens (.replanMeasure · { slack := [(r.worst, slack)], ring := [], tj := tj })
    (fun w => w.clock.replan = some r ∧ w.clock.avsAt + 10000000 ≤ w.bases.mono ∧ w.clock.avs = none ∧ w.pfwLow = false ∧
      w.islandOn r.worst = true)
    (fun w u => u.margin r.worst = slack - ((Config.islandK r.worst : Int) * (1100 - tj)).fdiv 10000 ∧
      u.sens r.worst = (if r.step = 0 then w.sens r.worst else ((u.margin r.worst - r.old) * 10).fdiv r.step))) ∧
  (∀ mv req again x, mv < 65536 ∧ req ≤ mv + 15 ∧ mv ≤ req + 15 → Happens (.avsCheck · mv true)
    (fun w => w.clock.avs = some (req, again, x) ∧ x + 1000000 ≤ w.bases.mono)
    (fun w u => u.clock = { w.clock with avs := none } ∧ u.fld F.CLOCK_AVS_MV_MEASURED = mv ∧ u.out = w.out ∧
      SameRegs w u [R.CLOCK_AVS_MV])) ∧
  (∀ mv req ack x addr exp pec, (ack = true → mv + 15 < req ∨ req + 15 < mv) → Happens (.avsCheck · mv ack)
    (fun w => w.clock.avs = some (req, false, x) ∧ x + 1000000 ≤ w.bases.mono ∧ w.ageing.target = some (addr, exp, pec))
    (fun w u => u.clock.avs = some (req, true, w.bases.mono) ∧ u.regN R.CLOCK_AVS_RETRY = (w.regN R.CLOCK_AVS_RETRY + 1) % 2 ^ 32 ∧
      u.out = .pmbus addr (linear16 req exp) pec :: w.out)) ∧
  (∀ mv req ack x, (ack = true → mv + 15 < req ∨ req + 15 < mv) → Happens (.avsCheck · mv ack)
    (fun w => w.clock.avs = some (req, true, x) ∧ x + 1000000 ≤ w.bases.mono)
    (fun w u => u.clock.avs = none ∧ u.isSet F.CLOCK_STATUS_AVS_FAIL = true ∧
      (u.irqOf 27).status.getLsbD I.CLOCK_AVS_FAIL.2 = true ∧ u.ageing = w.ageing)) ∧
  Happens (.ageForecast ·) (fun w => w.clock.dayAt + 86400000000000 ≤ w.bases.mono)
    (fun w u => u.clock.today = [] ∧ u.clock.dayAt = w.bases.mono ∧
      ∀ i : Nat, i < 16 → (smGet [] u.ageing.means i).length < 30 → u.regN (R.CLOCK_ISLn_FORECAST i) = 2 ^ 32 - 1) ∧
  (∀ x tj slack, x ≤ 15 → Completes 27 1 (.replan · · { slack := [(x, slack)], ring := [], tj := tj })
    (fun w => w.islandOn x = true ∧ 2 ≤ w.mode ∧ w.mode ≤ 10 ∧ w.pfwLow = false ∧ w.avsOpen = false ∧ w.clock.replan = none)
    (fun w u => u.margin x = slack - ((Config.islandK x : Int) * (1100 - tj)).fdiv 10000 ∧ u.regN R.CLOCK_TJ = unsigned 16 tj ∧
      u.regN R.CLOCK_REPLANS = (w.regN R.CLOCK_REPLANS + 1) % 2 ^ 32 ∧ u.ageing.request = w.ageing.request)) ∧
  Completes 27 2 .avsSet
    (fun w => w.mode = 2 ∧ w.avsOpen = true ∧ w.avsFloor ≤ w.arg 27 0 ∧ w.arg 27 0 ≤ w.avsCeil ∧ w.clock.replan = none ∧
      w.clock.avs = none ∧ w.arg 27 0 ≠ w.ageing.request)
    (fun w u => u.ageing.request = (if w.ageing.request < w.arg 27 0 then min (w.ageing.request + 10) (w.arg 27 0)
        else max (w.ageing.request - 10) (w.arg 27 0)) ∧
      u.clock.avs = some (u.ageing.request, false, w.bases.mono) ∧ u.clock.target = some (w.arg 27 0) ∧
      u.regN R.CLOCK_AVS_WRITES = (w.regN R.CLOCK_AVS_WRITES + 1) % 2 ^ 32 ∧
      Output.pmbus (w.fld F.CLOCK_AVS_CFG_ADDR) (linear16 u.ageing.request (w.fld F.CLOCK_AVS_CFG_EXP)) (w.isSet F.CLOCK_AVS_CFG_PEC) ∈ u.out)
end

