-- ==== Sys2Proof/Laws/State.lean ====
section
/-!
SUPPORT. Sys2Proof/Laws/State.lean: what each update of one part of the state leaves in every part: one lemma per part per
update, each true by definition.
-/

namespace Sys2Proof.Machine

@[simp] theorem State.setPending_pending (s : State) (x : List Instr) : (s.setPending x).pending = x := (rfl)
@[simp] theorem State.setPending_held (s : State) (x : List Instr) : (s.setPending x).held = s.held := (rfl)
@[simp] theorem State.setPending_boot (s : State) (x : List Instr) : (s.setPending x).boot = s.boot := (rfl)
@[simp] theorem State.setPending_bases (s : State) (x : List Instr) : (s.setPending x).bases = s.bases := (rfl)
@[simp] theorem State.setPending_regs (s : State) (x : List Instr) : (s.setPending x).regs = s.regs := (rfl)
@[simp] theorem State.setPending_snaps (s : State) (x : List Instr) : (s.setPending x).snaps = s.snaps := (rfl)
@[simp] theorem State.setPending_irq (s : State) (x : List Instr) : (s.setPending x).irq = s.irq := (rfl)
@[simp] theorem State.setPending_ledger (s : State) (x : List Instr) : (s.setPending x).ledger = s.ledger := (rfl)
@[simp] theorem State.setPending_draft (s : State) (x : List Instr) : (s.setPending x).draft = s.draft := (rfl)
@[simp] theorem State.setPending_archive (s : State) (x : List Instr) : (s.setPending x).archive = s.archive := (rfl)
@[simp] theorem State.setPending_stk (s : State) (x : List Instr) : (s.setPending x).stk = s.stk := (rfl)
@[simp] theorem State.setPending_out (s : State) (x : List Instr) : (s.setPending x).out = s.out := (rfl)
@[simp] theorem State.setPending_freeCount (s : State) (x : List Instr) : (s.setPending x).freeCount = s.freeCount := (rfl)
@[simp] theorem State.setPending_time (s : State) (x : List Instr) : (s.setPending x).time = s.time := (rfl)
@[simp] theorem State.setPending_vote (s : State) (x : List Instr) : (s.setPending x).vote = s.vote := (rfl)
@[simp] theorem State.setPending_fault (s : State) (x : List Instr) : (s.setPending x).fault = s.fault := (rfl)
@[simp] theorem State.setPending_pair (s : State) (x : List Instr) : (s.setPending x).pair = s.pair := (rfl)
@[simp] theorem State.setPending_power (s : State) (x : List Instr) : (s.setPending x).power = s.power := (rfl)
@[simp] theorem State.setPending_queues (s : State) (x : List Instr) : (s.setPending x).queues = s.queues := (rfl)
@[simp] theorem State.setPending_port (s : State) (x : List Instr) : (s.setPending x).port = s.port := (rfl)
@[simp] theorem State.setPending_hedQ (s : State) (x : List Instr) : (s.setPending x).hedQ = s.hedQ := (rfl)
@[simp] theorem State.setPending_heddle (s : State) (x : List Instr) : (s.setPending x).heddle = s.heddle := (rfl)
@[simp] theorem State.setPending_reedQ (s : State) (x : List Instr) : (s.setPending x).reedQ = s.reedQ := (rfl)
@[simp] theorem State.setPending_waveQ (s : State) (x : List Instr) : (s.setPending x).waveQ = s.waveQ := (rfl)
@[simp] theorem State.setPending_inputQ (s : State) (x : List Instr) : (s.setPending x).inputQ = s.inputQ := (rfl)
@[simp] theorem State.setPending_reed (s : State) (x : List Instr) : (s.setPending x).reed = s.reed := (rfl)
@[simp] theorem State.setPending_loomQ (s : State) (x : List Instr) : (s.setPending x).loomQ = s.loomQ := (rfl)
@[simp] theorem State.setPending_loom (s : State) (x : List Instr) : (s.setPending x).loom = s.loom := (rfl)
@[simp] theorem State.setPending_slv (s : State) (x : List Instr) : (s.setPending x).slv = s.slv := (rfl)
@[simp] theorem State.setPending_capt (s : State) (x : List Instr) : (s.setPending x).capt = s.capt := (rfl)
@[simp] theorem State.setPending_shuttle (s : State) (x : List Instr) : (s.setPending x).shuttle = s.shuttle := (rfl)
@[simp] theorem State.setPending_osc (s : State) (x : List Instr) : (s.setPending x).osc = s.osc := (rfl)
@[simp] theorem State.setPending_isle (s : State) (x : List Instr) : (s.setPending x).isle = s.isle := (rfl)
@[simp] theorem State.setPending_energy (s : State) (x : List Instr) : (s.setPending x).energy = s.energy := (rfl)
@[simp] theorem State.setPending_saves (s : State) (x : List Instr) : (s.setPending x).saves = s.saves := (rfl)
@[simp] theorem State.setPending_clock (s : State) (x : List Instr) : (s.setPending x).clock = s.clock := (rfl)
@[simp] theorem State.setPending_ageing (s : State) (x : List Instr) : (s.setPending x).ageing = s.ageing := (rfl)
@[simp] theorem State.setPending_host (s : State) (x : List Instr) : (s.setPending x).host = s.host := (rfl)
@[simp] theorem State.setPending_keyHashes (s : State) (x : List Instr) : (s.setPending x).keyHashes = s.keyHashes := (rfl)
@[simp] theorem State.setHeld_pending (s : State) (x : Bool) : (s.setHeld x).pending = s.pending := (rfl)
@[simp] theorem State.setHeld_held (s : State) (x : Bool) : (s.setHeld x).held = x := (rfl)
@[simp] theorem State.setHeld_boot (s : State) (x : Bool) : (s.setHeld x).boot = s.boot := (rfl)
@[simp] theorem State.setHeld_bases (s : State) (x : Bool) : (s.setHeld x).bases = s.bases := (rfl)
@[simp] theorem State.setHeld_regs (s : State) (x : Bool) : (s.setHeld x).regs = s.regs := (rfl)
@[simp] theorem State.setHeld_snaps (s : State) (x : Bool) : (s.setHeld x).snaps = s.snaps := (rfl)
@[simp] theorem State.setHeld_irq (s : State) (x : Bool) : (s.setHeld x).irq = s.irq := (rfl)
@[simp] theorem State.setHeld_ledger (s : State) (x : Bool) : (s.setHeld x).ledger = s.ledger := (rfl)
@[simp] theorem State.setHeld_draft (s : State) (x : Bool) : (s.setHeld x).draft = s.draft := (rfl)
@[simp] theorem State.setHeld_archive (s : State) (x : Bool) : (s.setHeld x).archive = s.archive := (rfl)
@[simp] theorem State.setHeld_stk (s : State) (x : Bool) : (s.setHeld x).stk = s.stk := (rfl)
@[simp] theorem State.setHeld_out (s : State) (x : Bool) : (s.setHeld x).out = s.out := (rfl)
@[simp] theorem State.setHeld_freeCount (s : State) (x : Bool) : (s.setHeld x).freeCount = s.freeCount := (rfl)
@[simp] theorem State.setHeld_time (s : State) (x : Bool) : (s.setHeld x).time = s.time := (rfl)
@[simp] theorem State.setHeld_vote (s : State) (x : Bool) : (s.setHeld x).vote = s.vote := (rfl)
@[simp] theorem State.setHeld_fault (s : State) (x : Bool) : (s.setHeld x).fault = s.fault := (rfl)
@[simp] theorem State.setHeld_pair (s : State) (x : Bool) : (s.setHeld x).pair = s.pair := (rfl)
@[simp] theorem State.setHeld_power (s : State) (x : Bool) : (s.setHeld x).power = s.power := (rfl)
@[simp] theorem State.setHeld_queues (s : State) (x : Bool) : (s.setHeld x).queues = s.queues := (rfl)
@[simp] theorem State.setHeld_port (s : State) (x : Bool) : (s.setHeld x).port = s.port := (rfl)
@[simp] theorem State.setHeld_hedQ (s : State) (x : Bool) : (s.setHeld x).hedQ = s.hedQ := (rfl)
@[simp] theorem State.setHeld_heddle (s : State) (x : Bool) : (s.setHeld x).heddle = s.heddle := (rfl)
@[simp] theorem State.setHeld_reedQ (s : State) (x : Bool) : (s.setHeld x).reedQ = s.reedQ := (rfl)
@[simp] theorem State.setHeld_waveQ (s : State) (x : Bool) : (s.setHeld x).waveQ = s.waveQ := (rfl)
@[simp] theorem State.setHeld_inputQ (s : State) (x : Bool) : (s.setHeld x).inputQ = s.inputQ := (rfl)
@[simp] theorem State.setHeld_reed (s : State) (x : Bool) : (s.setHeld x).reed = s.reed := (rfl)
@[simp] theorem State.setHeld_loomQ (s : State) (x : Bool) : (s.setHeld x).loomQ = s.loomQ := (rfl)
@[simp] theorem State.setHeld_loom (s : State) (x : Bool) : (s.setHeld x).loom = s.loom := (rfl)
@[simp] theorem State.setHeld_slv (s : State) (x : Bool) : (s.setHeld x).slv = s.slv := (rfl)
@[simp] theorem State.setHeld_capt (s : State) (x : Bool) : (s.setHeld x).capt = s.capt := (rfl)
@[simp] theorem State.setHeld_shuttle (s : State) (x : Bool) : (s.setHeld x).shuttle = s.shuttle := (rfl)
@[simp] theorem State.setHeld_osc (s : State) (x : Bool) : (s.setHeld x).osc = s.osc := (rfl)
@[simp] theorem State.setHeld_isle (s : State) (x : Bool) : (s.setHeld x).isle = s.isle := (rfl)
@[simp] theorem State.setHeld_energy (s : State) (x : Bool) : (s.setHeld x).energy = s.energy := (rfl)
@[simp] theorem State.setHeld_saves (s : State) (x : Bool) : (s.setHeld x).saves = s.saves := (rfl)
@[simp] theorem State.setHeld_clock (s : State) (x : Bool) : (s.setHeld x).clock = s.clock := (rfl)
@[simp] theorem State.setHeld_ageing (s : State) (x : Bool) : (s.setHeld x).ageing = s.ageing := (rfl)
@[simp] theorem State.setHeld_host (s : State) (x : Bool) : (s.setHeld x).host = s.host := (rfl)
@[simp] theorem State.setHeld_keyHashes (s : State) (x : Bool) : (s.setHeld x).keyHashes = s.keyHashes := (rfl)
@[simp] theorem State.setBoot_pending (s : State) (x : Nat × Nat × Nat) : (s.setBoot x).pending = s.pending := (rfl)
@[simp] theorem State.setBoot_held (s : State) (x : Nat × Nat × Nat) : (s.setBoot x).held = s.held := (rfl)
@[simp] theorem State.setBoot_boot (s : State) (x : Nat × Nat × Nat) : (s.setBoot x).boot = x := (rfl)
@[simp] theorem State.setBoot_bases (s : State) (x : Nat × Nat × Nat) : (s.setBoot x).bases = s.bases := (rfl)
@[simp] theorem State.setBoot_regs (s : State) (x : Nat × Nat × Nat) : (s.setBoot x).regs = s.regs := (rfl)
@[simp] theorem State.setBoot_snaps (s : State) (x : Nat × Nat × Nat) : (s.setBoot x).snaps = s.snaps := (rfl)
@[simp] theorem State.setBoot_irq (s : State) (x : Nat × Nat × Nat) : (s.setBoot x).irq = s.irq := (rfl)
@[simp] theorem State.setBoot_ledger (s : State) (x : Nat × Nat × Nat) : (s.setBoot x).ledger = s.ledger := (rfl)
@[simp] theorem State.setBoot_draft (s : State) (x : Nat × Nat × Nat) : (s.setBoot x).draft = s.draft := (rfl)
@[simp] theorem State.setBoot_archive (s : State) (x : Nat × Nat × Nat) : (s.setBoot x).archive = s.archive := (rfl)
@[simp] theorem State.setBoot_stk (s : State) (x : Nat × Nat × Nat) : (s.setBoot x).stk = s.stk := (rfl)
@[simp] theorem State.setBoot_out (s : State) (x : Nat × Nat × Nat) : (s.setBoot x).out = s.out := (rfl)
@[simp] theorem State.setBoot_freeCount (s : State) (x : Nat × Nat × Nat) : (s.setBoot x).freeCount = s.freeCount := (rfl)
@[simp] theorem State.setBoot_time (s : State) (x : Nat × Nat × Nat) : (s.setBoot x).time = s.time := (rfl)
@[simp] theorem State.setBoot_vote (s : State) (x : Nat × Nat × Nat) : (s.setBoot x).vote = s.vote := (rfl)
@[simp] theorem State.setBoot_fault (s : State) (x : Nat × Nat × Nat) : (s.setBoot x).fault = s.fault := (rfl)
@[simp] theorem State.setBoot_pair (s : State) (x : Nat × Nat × Nat) : (s.setBoot x).pair = s.pair := (rfl)
@[simp] theorem State.setBoot_power (s : State) (x : Nat × Nat × Nat) : (s.setBoot x).power = s.power := (rfl)
@[simp] theorem State.setBoot_queues (s : State) (x : Nat × Nat × Nat) : (s.setBoot x).queues = s.queues := (rfl)
@[simp] theorem State.setBoot_port (s : State) (x : Nat × Nat × Nat) : (s.setBoot x).port = s.port := (rfl)
@[simp] theorem State.setBoot_hedQ (s : State) (x : Nat × Nat × Nat) : (s.setBoot x).hedQ = s.hedQ := (rfl)
@[simp] theorem State.setBoot_heddle (s : State) (x : Nat × Nat × Nat) : (s.setBoot x).heddle = s.heddle := (rfl)
@[simp] theorem State.setBoot_reedQ (s : State) (x : Nat × Nat × Nat) : (s.setBoot x).reedQ = s.reedQ := (rfl)
@[simp] theorem State.setBoot_waveQ (s : State) (x : Nat × Nat × Nat) : (s.setBoot x).waveQ = s.waveQ := (rfl)
@[simp] theorem State.setBoot_inputQ (s : State) (x : Nat × Nat × Nat) : (s.setBoot x).inputQ = s.inputQ := (rfl)
@[simp] theorem State.setBoot_reed (s : State) (x : Nat × Nat × Nat) : (s.setBoot x).reed = s.reed := (rfl)
@[simp] theorem State.setBoot_loomQ (s : State) (x : Nat × Nat × Nat) : (s.setBoot x).loomQ = s.loomQ := (rfl)
@[simp] theorem State.setBoot_loom (s : State) (x : Nat × Nat × Nat) : (s.setBoot x).loom = s.loom := (rfl)
@[simp] theorem State.setBoot_slv (s : State) (x : Nat × Nat × Nat) : (s.setBoot x).slv = s.slv := (rfl)
@[simp] theorem State.setBoot_capt (s : State) (x : Nat × Nat × Nat) : (s.setBoot x).capt = s.capt := (rfl)
@[simp] theorem State.setBoot_shuttle (s : State) (x : Nat × Nat × Nat) : (s.setBoot x).shuttle = s.shuttle := (rfl)
@[simp] theorem State.setBoot_osc (s : State) (x : Nat × Nat × Nat) : (s.setBoot x).osc = s.osc := (rfl)
@[simp] theorem State.setBoot_isle (s : State) (x : Nat × Nat × Nat) : (s.setBoot x).isle = s.isle := (rfl)
@[simp] theorem State.setBoot_energy (s : State) (x : Nat × Nat × Nat) : (s.setBoot x).energy = s.energy := (rfl)
@[simp] theorem State.setBoot_saves (s : State) (x : Nat × Nat × Nat) : (s.setBoot x).saves = s.saves := (rfl)
@[simp] theorem State.setBoot_clock (s : State) (x : Nat × Nat × Nat) : (s.setBoot x).clock = s.clock := (rfl)
@[simp] theorem State.setBoot_ageing (s : State) (x : Nat × Nat × Nat) : (s.setBoot x).ageing = s.ageing := (rfl)
@[simp] theorem State.setBoot_host (s : State) (x : Nat × Nat × Nat) : (s.setBoot x).host = s.host := (rfl)
@[simp] theorem State.setBoot_keyHashes (s : State) (x : Nat × Nat × Nat) : (s.setBoot x).keyHashes = s.keyHashes := (rfl)
@[simp] theorem State.setBases_pending (s : State) (x : Bases) : (s.setBases x).pending = s.pending := (rfl)
@[simp] theorem State.setBases_held (s : State) (x : Bases) : (s.setBases x).held = s.held := (rfl)
@[simp] theorem State.setBases_boot (s : State) (x : Bases) : (s.setBases x).boot = s.boot := (rfl)
@[simp] theorem State.setBases_bases (s : State) (x : Bases) : (s.setBases x).bases = x := (rfl)
@[simp] theorem State.setBases_regs (s : State) (x : Bases) : (s.setBases x).regs = s.regs := (rfl)
@[simp] theorem State.setBases_snaps (s : State) (x : Bases) : (s.setBases x).snaps = s.snaps := (rfl)
@[simp] theorem State.setBases_irq (s : State) (x : Bases) : (s.setBases x).irq = s.irq := (rfl)
@[simp] theorem State.setBases_ledger (s : State) (x : Bases) : (s.setBases x).ledger = s.ledger := (rfl)
@[simp] theorem State.setBases_draft (s : State) (x : Bases) : (s.setBases x).draft = s.draft := (rfl)
@[simp] theorem State.setBases_archive (s : State) (x : Bases) : (s.setBases x).archive = s.archive := (rfl)
@[simp] theorem State.setBases_stk (s : State) (x : Bases) : (s.setBases x).stk = s.stk := (rfl)
@[simp] theorem State.setBases_out (s : State) (x : Bases) : (s.setBases x).out = s.out := (rfl)
@[simp] theorem State.setBases_freeCount (s : State) (x : Bases) : (s.setBases x).freeCount = s.freeCount := (rfl)
@[simp] theorem State.setBases_time (s : State) (x : Bases) : (s.setBases x).time = s.time := (rfl)
@[simp] theorem State.setBases_vote (s : State) (x : Bases) : (s.setBases x).vote = s.vote := (rfl)
@[simp] theorem State.setBases_fault (s : State) (x : Bases) : (s.setBases x).fault = s.fault := (rfl)
@[simp] theorem State.setBases_pair (s : State) (x : Bases) : (s.setBases x).pair = s.pair := (rfl)
@[simp] theorem State.setBases_power (s : State) (x : Bases) : (s.setBases x).power = s.power := (rfl)
@[simp] theorem State.setBases_queues (s : State) (x : Bases) : (s.setBases x).queues = s.queues := (rfl)
@[simp] theorem State.setBases_port (s : State) (x : Bases) : (s.setBases x).port = s.port := (rfl)
@[simp] theorem State.setBases_hedQ (s : State) (x : Bases) : (s.setBases x).hedQ = s.hedQ := (rfl)
@[simp] theorem State.setBases_heddle (s : State) (x : Bases) : (s.setBases x).heddle = s.heddle := (rfl)
@[simp] theorem State.setBases_reedQ (s : State) (x : Bases) : (s.setBases x).reedQ = s.reedQ := (rfl)
@[simp] theorem State.setBases_waveQ (s : State) (x : Bases) : (s.setBases x).waveQ = s.waveQ := (rfl)
@[simp] theorem State.setBases_inputQ (s : State) (x : Bases) : (s.setBases x).inputQ = s.inputQ := (rfl)
@[simp] theorem State.setBases_reed (s : State) (x : Bases) : (s.setBases x).reed = s.reed := (rfl)
@[simp] theorem State.setBases_loomQ (s : State) (x : Bases) : (s.setBases x).loomQ = s.loomQ := (rfl)
@[simp] theorem State.setBases_loom (s : State) (x : Bases) : (s.setBases x).loom = s.loom := (rfl)
@[simp] theorem State.setBases_slv (s : State) (x : Bases) : (s.setBases x).slv = s.slv := (rfl)
@[simp] theorem State.setBases_capt (s : State) (x : Bases) : (s.setBases x).capt = s.capt := (rfl)
@[simp] theorem State.setBases_shuttle (s : State) (x : Bases) : (s.setBases x).shuttle = s.shuttle := (rfl)
@[simp] theorem State.setBases_osc (s : State) (x : Bases) : (s.setBases x).osc = s.osc := (rfl)
@[simp] theorem State.setBases_isle (s : State) (x : Bases) : (s.setBases x).isle = s.isle := (rfl)
@[simp] theorem State.setBases_energy (s : State) (x : Bases) : (s.setBases x).energy = s.energy := (rfl)
@[simp] theorem State.setBases_saves (s : State) (x : Bases) : (s.setBases x).saves = s.saves := (rfl)
@[simp] theorem State.setBases_clock (s : State) (x : Bases) : (s.setBases x).clock = s.clock := (rfl)
@[simp] theorem State.setBases_ageing (s : State) (x : Bases) : (s.setBases x).ageing = s.ageing := (rfl)
@[simp] theorem State.setBases_host (s : State) (x : Bases) : (s.setBases x).host = s.host := (rfl)
@[simp] theorem State.setBases_keyHashes (s : State) (x : Bases) : (s.setBases x).keyHashes = s.keyHashes := (rfl)
@[simp] theorem State.setRegs_pending (s : State) (x : SMap Word) : (s.setRegs x).pending = s.pending := (rfl)
@[simp] theorem State.setRegs_held (s : State) (x : SMap Word) : (s.setRegs x).held = s.held := (rfl)
@[simp] theorem State.setRegs_boot (s : State) (x : SMap Word) : (s.setRegs x).boot = s.boot := (rfl)
@[simp] theorem State.setRegs_bases (s : State) (x : SMap Word) : (s.setRegs x).bases = s.bases := (rfl)
@[simp] theorem State.setRegs_regs (s : State) (x : SMap Word) : (s.setRegs x).regs = x := (rfl)
@[simp] theorem State.setRegs_snaps (s : State) (x : SMap Word) : (s.setRegs x).snaps = s.snaps := (rfl)
@[simp] theorem State.setRegs_irq (s : State) (x : SMap Word) : (s.setRegs x).irq = s.irq := (rfl)
@[simp] theorem State.setRegs_ledger (s : State) (x : SMap Word) : (s.setRegs x).ledger = s.ledger := (rfl)
@[simp] theorem State.setRegs_draft (s : State) (x : SMap Word) : (s.setRegs x).draft = s.draft := (rfl)
@[simp] theorem State.setRegs_archive (s : State) (x : SMap Word) : (s.setRegs x).archive = s.archive := (rfl)
@[simp] theorem State.setRegs_stk (s : State) (x : SMap Word) : (s.setRegs x).stk = s.stk := (rfl)
@[simp] theorem State.setRegs_out (s : State) (x : SMap Word) : (s.setRegs x).out = s.out := (rfl)
@[simp] theorem State.setRegs_freeCount (s : State) (x : SMap Word) : (s.setRegs x).freeCount = s.freeCount := (rfl)
@[simp] theorem State.setRegs_time (s : State) (x : SMap Word) : (s.setRegs x).time = s.time := (rfl)
@[simp] theorem State.setRegs_vote (s : State) (x : SMap Word) : (s.setRegs x).vote = s.vote := (rfl)
@[simp] theorem State.setRegs_fault (s : State) (x : SMap Word) : (s.setRegs x).fault = s.fault := (rfl)
@[simp] theorem State.setRegs_pair (s : State) (x : SMap Word) : (s.setRegs x).pair = s.pair := (rfl)
@[simp] theorem State.setRegs_power (s : State) (x : SMap Word) : (s.setRegs x).power = s.power := (rfl)
@[simp] theorem State.setRegs_queues (s : State) (x : SMap Word) : (s.setRegs x).queues = s.queues := (rfl)
@[simp] theorem State.setRegs_port (s : State) (x : SMap Word) : (s.setRegs x).port = s.port := (rfl)
@[simp] theorem State.setRegs_hedQ (s : State) (x : SMap Word) : (s.setRegs x).hedQ = s.hedQ := (rfl)
@[simp] theorem State.setRegs_heddle (s : State) (x : SMap Word) : (s.setRegs x).heddle = s.heddle := (rfl)
@[simp] theorem State.setRegs_reedQ (s : State) (x : SMap Word) : (s.setRegs x).reedQ = s.reedQ := (rfl)
@[simp] theorem State.setRegs_waveQ (s : State) (x : SMap Word) : (s.setRegs x).waveQ = s.waveQ := (rfl)
@[simp] theorem State.setRegs_inputQ (s : State) (x : SMap Word) : (s.setRegs x).inputQ = s.inputQ := (rfl)
@[simp] theorem State.setRegs_reed (s : State) (x : SMap Word) : (s.setRegs x).reed = s.reed := (rfl)
@[simp] theorem State.setRegs_loomQ (s : State) (x : SMap Word) : (s.setRegs x).loomQ = s.loomQ := (rfl)
@[simp] theorem State.setRegs_loom (s : State) (x : SMap Word) : (s.setRegs x).loom = s.loom := (rfl)
@[simp] theorem State.setRegs_slv (s : State) (x : SMap Word) : (s.setRegs x).slv = s.slv := (rfl)
@[simp] theorem State.setRegs_capt (s : State) (x : SMap Word) : (s.setRegs x).capt = s.capt := (rfl)
@[simp] theorem State.setRegs_shuttle (s : State) (x : SMap Word) : (s.setRegs x).shuttle = s.shuttle := (rfl)
@[simp] theorem State.setRegs_osc (s : State) (x : SMap Word) : (s.setRegs x).osc = s.osc := (rfl)
@[simp] theorem State.setRegs_isle (s : State) (x : SMap Word) : (s.setRegs x).isle = s.isle := (rfl)
@[simp] theorem State.setRegs_energy (s : State) (x : SMap Word) : (s.setRegs x).energy = s.energy := (rfl)
@[simp] theorem State.setRegs_saves (s : State) (x : SMap Word) : (s.setRegs x).saves = s.saves := (rfl)
@[simp] theorem State.setRegs_clock (s : State) (x : SMap Word) : (s.setRegs x).clock = s.clock := (rfl)
@[simp] theorem State.setRegs_ageing (s : State) (x : SMap Word) : (s.setRegs x).ageing = s.ageing := (rfl)
@[simp] theorem State.setRegs_host (s : State) (x : SMap Word) : (s.setRegs x).host = s.host := (rfl)
@[simp] theorem State.setRegs_keyHashes (s : State) (x : SMap Word) : (s.setRegs x).keyHashes = s.keyHashes := (rfl)
@[simp] theorem State.setSnaps_pending (s : State) (x : SMap Word) : (s.setSnaps x).pending = s.pending := (rfl)
@[simp] theorem State.setSnaps_held (s : State) (x : SMap Word) : (s.setSnaps x).held = s.held := (rfl)
@[simp] theorem State.setSnaps_boot (s : State) (x : SMap Word) : (s.setSnaps x).boot = s.boot := (rfl)
@[simp] theorem State.setSnaps_bases (s : State) (x : SMap Word) : (s.setSnaps x).bases = s.bases := (rfl)
@[simp] theorem State.setSnaps_regs (s : State) (x : SMap Word) : (s.setSnaps x).regs = s.regs := (rfl)
@[simp] theorem State.setSnaps_snaps (s : State) (x : SMap Word) : (s.setSnaps x).snaps = x := (rfl)
@[simp] theorem State.setSnaps_irq (s : State) (x : SMap Word) : (s.setSnaps x).irq = s.irq := (rfl)
@[simp] theorem State.setSnaps_ledger (s : State) (x : SMap Word) : (s.setSnaps x).ledger = s.ledger := (rfl)
@[simp] theorem State.setSnaps_draft (s : State) (x : SMap Word) : (s.setSnaps x).draft = s.draft := (rfl)
@[simp] theorem State.setSnaps_archive (s : State) (x : SMap Word) : (s.setSnaps x).archive = s.archive := (rfl)
@[simp] theorem State.setSnaps_stk (s : State) (x : SMap Word) : (s.setSnaps x).stk = s.stk := (rfl)
@[simp] theorem State.setSnaps_out (s : State) (x : SMap Word) : (s.setSnaps x).out = s.out := (rfl)
@[simp] theorem State.setSnaps_freeCount (s : State) (x : SMap Word) : (s.setSnaps x).freeCount = s.freeCount := (rfl)
@[simp] theorem State.setSnaps_time (s : State) (x : SMap Word) : (s.setSnaps x).time = s.time := (rfl)
@[simp] theorem State.setSnaps_vote (s : State) (x : SMap Word) : (s.setSnaps x).vote = s.vote := (rfl)
@[simp] theorem State.setSnaps_fault (s : State) (x : SMap Word) : (s.setSnaps x).fault = s.fault := (rfl)
@[simp] theorem State.setSnaps_pair (s : State) (x : SMap Word) : (s.setSnaps x).pair = s.pair := (rfl)
@[simp] theorem State.setSnaps_power (s : State) (x : SMap Word) : (s.setSnaps x).power = s.power := (rfl)
@[simp] theorem State.setSnaps_queues (s : State) (x : SMap Word) : (s.setSnaps x).queues = s.queues := (rfl)
@[simp] theorem State.setSnaps_port (s : State) (x : SMap Word) : (s.setSnaps x).port = s.port := (rfl)
@[simp] theorem State.setSnaps_hedQ (s : State) (x : SMap Word) : (s.setSnaps x).hedQ = s.hedQ := (rfl)
@[simp] theorem State.setSnaps_heddle (s : State) (x : SMap Word) : (s.setSnaps x).heddle = s.heddle := (rfl)
@[simp] theorem State.setSnaps_reedQ (s : State) (x : SMap Word) : (s.setSnaps x).reedQ = s.reedQ := (rfl)
@[simp] theorem State.setSnaps_waveQ (s : State) (x : SMap Word) : (s.setSnaps x).waveQ = s.waveQ := (rfl)
@[simp] theorem State.setSnaps_inputQ (s : State) (x : SMap Word) : (s.setSnaps x).inputQ = s.inputQ := (rfl)
@[simp] theorem State.setSnaps_reed (s : State) (x : SMap Word) : (s.setSnaps x).reed = s.reed := (rfl)
@[simp] theorem State.setSnaps_loomQ (s : State) (x : SMap Word) : (s.setSnaps x).loomQ = s.loomQ := (rfl)
@[simp] theorem State.setSnaps_loom (s : State) (x : SMap Word) : (s.setSnaps x).loom = s.loom := (rfl)
@[simp] theorem State.setSnaps_slv (s : State) (x : SMap Word) : (s.setSnaps x).slv = s.slv := (rfl)
@[simp] theorem State.setSnaps_capt (s : State) (x : SMap Word) : (s.setSnaps x).capt = s.capt := (rfl)
@[simp] theorem State.setSnaps_shuttle (s : State) (x : SMap Word) : (s.setSnaps x).shuttle = s.shuttle := (rfl)
@[simp] theorem State.setSnaps_osc (s : State) (x : SMap Word) : (s.setSnaps x).osc = s.osc := (rfl)
@[simp] theorem State.setSnaps_isle (s : State) (x : SMap Word) : (s.setSnaps x).isle = s.isle := (rfl)
@[simp] theorem State.setSnaps_energy (s : State) (x : SMap Word) : (s.setSnaps x).energy = s.energy := (rfl)
@[simp] theorem State.setSnaps_saves (s : State) (x : SMap Word) : (s.setSnaps x).saves = s.saves := (rfl)
@[simp] theorem State.setSnaps_clock (s : State) (x : SMap Word) : (s.setSnaps x).clock = s.clock := (rfl)
@[simp] theorem State.setSnaps_ageing (s : State) (x : SMap Word) : (s.setSnaps x).ageing = s.ageing := (rfl)
@[simp] theorem State.setSnaps_host (s : State) (x : SMap Word) : (s.setSnaps x).host = s.host := (rfl)
@[simp] theorem State.setSnaps_keyHashes (s : State) (x : SMap Word) : (s.setSnaps x).keyHashes = s.keyHashes := (rfl)
@[simp] theorem State.setIrq_pending (s : State) (x : SMap IrqBlk) : (s.setIrq x).pending = s.pending := (rfl)
@[simp] theorem State.setIrq_held (s : State) (x : SMap IrqBlk) : (s.setIrq x).held = s.held := (rfl)
@[simp] theorem State.setIrq_boot (s : State) (x : SMap IrqBlk) : (s.setIrq x).boot = s.boot := (rfl)
@[simp] theorem State.setIrq_bases (s : State) (x : SMap IrqBlk) : (s.setIrq x).bases = s.bases := (rfl)
@[simp] theorem State.setIrq_regs (s : State) (x : SMap IrqBlk) : (s.setIrq x).regs = s.regs := (rfl)
@[simp] theorem State.setIrq_snaps (s : State) (x : SMap IrqBlk) : (s.setIrq x).snaps = s.snaps := (rfl)
@[simp] theorem State.setIrq_irq (s : State) (x : SMap IrqBlk) : (s.setIrq x).irq = x := (rfl)
@[simp] theorem State.setIrq_ledger (s : State) (x : SMap IrqBlk) : (s.setIrq x).ledger = s.ledger := (rfl)
@[simp] theorem State.setIrq_draft (s : State) (x : SMap IrqBlk) : (s.setIrq x).draft = s.draft := (rfl)
@[simp] theorem State.setIrq_archive (s : State) (x : SMap IrqBlk) : (s.setIrq x).archive = s.archive := (rfl)
@[simp] theorem State.setIrq_stk (s : State) (x : SMap IrqBlk) : (s.setIrq x).stk = s.stk := (rfl)
@[simp] theorem State.setIrq_out (s : State) (x : SMap IrqBlk) : (s.setIrq x).out = s.out := (rfl)
@[simp] theorem State.setIrq_freeCount (s : State) (x : SMap IrqBlk) : (s.setIrq x).freeCount = s.freeCount := (rfl)
@[simp] theorem State.setIrq_time (s : State) (x : SMap IrqBlk) : (s.setIrq x).time = s.time := (rfl)
@[simp] theorem State.setIrq_vote (s : State) (x : SMap IrqBlk) : (s.setIrq x).vote = s.vote := (rfl)
@[simp] theorem State.setIrq_fault (s : State) (x : SMap IrqBlk) : (s.setIrq x).fault = s.fault := (rfl)
@[simp] theorem State.setIrq_pair (s : State) (x : SMap IrqBlk) : (s.setIrq x).pair = s.pair := (rfl)
@[simp] theorem State.setIrq_power (s : State) (x : SMap IrqBlk) : (s.setIrq x).power = s.power := (rfl)
@[simp] theorem State.setIrq_queues (s : State) (x : SMap IrqBlk) : (s.setIrq x).queues = s.queues := (rfl)
@[simp] theorem State.setIrq_port (s : State) (x : SMap IrqBlk) : (s.setIrq x).port = s.port := (rfl)
@[simp] theorem State.setIrq_hedQ (s : State) (x : SMap IrqBlk) : (s.setIrq x).hedQ = s.hedQ := (rfl)
@[simp] theorem State.setIrq_heddle (s : State) (x : SMap IrqBlk) : (s.setIrq x).heddle = s.heddle := (rfl)
@[simp] theorem State.setIrq_reedQ (s : State) (x : SMap IrqBlk) : (s.setIrq x).reedQ = s.reedQ := (rfl)
@[simp] theorem State.setIrq_waveQ (s : State) (x : SMap IrqBlk) : (s.setIrq x).waveQ = s.waveQ := (rfl)
@[simp] theorem State.setIrq_inputQ (s : State) (x : SMap IrqBlk) : (s.setIrq x).inputQ = s.inputQ := (rfl)
@[simp] theorem State.setIrq_reed (s : State) (x : SMap IrqBlk) : (s.setIrq x).reed = s.reed := (rfl)
@[simp] theorem State.setIrq_loomQ (s : State) (x : SMap IrqBlk) : (s.setIrq x).loomQ = s.loomQ := (rfl)
@[simp] theorem State.setIrq_loom (s : State) (x : SMap IrqBlk) : (s.setIrq x).loom = s.loom := (rfl)
@[simp] theorem State.setIrq_slv (s : State) (x : SMap IrqBlk) : (s.setIrq x).slv = s.slv := (rfl)
@[simp] theorem State.setIrq_capt (s : State) (x : SMap IrqBlk) : (s.setIrq x).capt = s.capt := (rfl)
@[simp] theorem State.setIrq_shuttle (s : State) (x : SMap IrqBlk) : (s.setIrq x).shuttle = s.shuttle := (rfl)
@[simp] theorem State.setIrq_osc (s : State) (x : SMap IrqBlk) : (s.setIrq x).osc = s.osc := (rfl)
@[simp] theorem State.setIrq_isle (s : State) (x : SMap IrqBlk) : (s.setIrq x).isle = s.isle := (rfl)
@[simp] theorem State.setIrq_energy (s : State) (x : SMap IrqBlk) : (s.setIrq x).energy = s.energy := (rfl)
@[simp] theorem State.setIrq_saves (s : State) (x : SMap IrqBlk) : (s.setIrq x).saves = s.saves := (rfl)
@[simp] theorem State.setIrq_clock (s : State) (x : SMap IrqBlk) : (s.setIrq x).clock = s.clock := (rfl)
@[simp] theorem State.setIrq_ageing (s : State) (x : SMap IrqBlk) : (s.setIrq x).ageing = s.ageing := (rfl)
@[simp] theorem State.setIrq_host (s : State) (x : SMap IrqBlk) : (s.setIrq x).host = s.host := (rfl)
@[simp] theorem State.setIrq_keyHashes (s : State) (x : SMap IrqBlk) : (s.setIrq x).keyHashes = s.keyHashes := (rfl)
@[simp] theorem State.setLedger_pending (s : State) (x : LedgerSt) : (s.setLedger x).pending = s.pending := (rfl)
@[simp] theorem State.setLedger_held (s : State) (x : LedgerSt) : (s.setLedger x).held = s.held := (rfl)
@[simp] theorem State.setLedger_boot (s : State) (x : LedgerSt) : (s.setLedger x).boot = s.boot := (rfl)
@[simp] theorem State.setLedger_bases (s : State) (x : LedgerSt) : (s.setLedger x).bases = s.bases := (rfl)
@[simp] theorem State.setLedger_regs (s : State) (x : LedgerSt) : (s.setLedger x).regs = s.regs := (rfl)
@[simp] theorem State.setLedger_snaps (s : State) (x : LedgerSt) : (s.setLedger x).snaps = s.snaps := (rfl)
@[simp] theorem State.setLedger_irq (s : State) (x : LedgerSt) : (s.setLedger x).irq = s.irq := (rfl)
@[simp] theorem State.setLedger_ledger (s : State) (x : LedgerSt) : (s.setLedger x).ledger = x := (rfl)
@[simp] theorem State.setLedger_draft (s : State) (x : LedgerSt) : (s.setLedger x).draft = s.draft := (rfl)
@[simp] theorem State.setLedger_archive (s : State) (x : LedgerSt) : (s.setLedger x).archive = s.archive := (rfl)
@[simp] theorem State.setLedger_stk (s : State) (x : LedgerSt) : (s.setLedger x).stk = s.stk := (rfl)
@[simp] theorem State.setLedger_out (s : State) (x : LedgerSt) : (s.setLedger x).out = s.out := (rfl)
@[simp] theorem State.setLedger_freeCount (s : State) (x : LedgerSt) : (s.setLedger x).freeCount = s.freeCount := (rfl)
@[simp] theorem State.setLedger_time (s : State) (x : LedgerSt) : (s.setLedger x).time = s.time := (rfl)
@[simp] theorem State.setLedger_vote (s : State) (x : LedgerSt) : (s.setLedger x).vote = s.vote := (rfl)
@[simp] theorem State.setLedger_fault (s : State) (x : LedgerSt) : (s.setLedger x).fault = s.fault := (rfl)
@[simp] theorem State.setLedger_pair (s : State) (x : LedgerSt) : (s.setLedger x).pair = s.pair := (rfl)
@[simp] theorem State.setLedger_power (s : State) (x : LedgerSt) : (s.setLedger x).power = s.power := (rfl)
@[simp] theorem State.setLedger_queues (s : State) (x : LedgerSt) : (s.setLedger x).queues = s.queues := (rfl)
@[simp] theorem State.setLedger_port (s : State) (x : LedgerSt) : (s.setLedger x).port = s.port := (rfl)
@[simp] theorem State.setLedger_hedQ (s : State) (x : LedgerSt) : (s.setLedger x).hedQ = s.hedQ := (rfl)
@[simp] theorem State.setLedger_heddle (s : State) (x : LedgerSt) : (s.setLedger x).heddle = s.heddle := (rfl)
@[simp] theorem State.setLedger_reedQ (s : State) (x : LedgerSt) : (s.setLedger x).reedQ = s.reedQ := (rfl)
@[simp] theorem State.setLedger_waveQ (s : State) (x : LedgerSt) : (s.setLedger x).waveQ = s.waveQ := (rfl)
@[simp] theorem State.setLedger_inputQ (s : State) (x : LedgerSt) : (s.setLedger x).inputQ = s.inputQ := (rfl)
@[simp] theorem State.setLedger_reed (s : State) (x : LedgerSt) : (s.setLedger x).reed = s.reed := (rfl)
@[simp] theorem State.setLedger_loomQ (s : State) (x : LedgerSt) : (s.setLedger x).loomQ = s.loomQ := (rfl)
@[simp] theorem State.setLedger_loom (s : State) (x : LedgerSt) : (s.setLedger x).loom = s.loom := (rfl)
@[simp] theorem State.setLedger_slv (s : State) (x : LedgerSt) : (s.setLedger x).slv = s.slv := (rfl)
@[simp] theorem State.setLedger_capt (s : State) (x : LedgerSt) : (s.setLedger x).capt = s.capt := (rfl)
@[simp] theorem State.setLedger_shuttle (s : State) (x : LedgerSt) : (s.setLedger x).shuttle = s.shuttle := (rfl)
@[simp] theorem State.setLedger_osc (s : State) (x : LedgerSt) : (s.setLedger x).osc = s.osc := (rfl)
@[simp] theorem State.setLedger_isle (s : State) (x : LedgerSt) : (s.setLedger x).isle = s.isle := (rfl)
@[simp] theorem State.setLedger_energy (s : State) (x : LedgerSt) : (s.setLedger x).energy = s.energy := (rfl)
@[simp] theorem State.setLedger_saves (s : State) (x : LedgerSt) : (s.setLedger x).saves = s.saves := (rfl)
@[simp] theorem State.setLedger_clock (s : State) (x : LedgerSt) : (s.setLedger x).clock = s.clock := (rfl)
@[simp] theorem State.setLedger_ageing (s : State) (x : LedgerSt) : (s.setLedger x).ageing = s.ageing := (rfl)
@[simp] theorem State.setLedger_host (s : State) (x : LedgerSt) : (s.setLedger x).host = s.host := (rfl)
@[simp] theorem State.setLedger_keyHashes (s : State) (x : LedgerSt) : (s.setLedger x).keyHashes = s.keyHashes := (rfl)
@[simp] theorem State.setDraft_pending (s : State) (x : DraftSt) : (s.setDraft x).pending = s.pending := (rfl)
@[simp] theorem State.setDraft_held (s : State) (x : DraftSt) : (s.setDraft x).held = s.held := (rfl)
@[simp] theorem State.setDraft_boot (s : State) (x : DraftSt) : (s.setDraft x).boot = s.boot := (rfl)
@[simp] theorem State.setDraft_bases (s : State) (x : DraftSt) : (s.setDraft x).bases = s.bases := (rfl)
@[simp] theorem State.setDraft_regs (s : State) (x : DraftSt) : (s.setDraft x).regs = s.regs := (rfl)
@[simp] theorem State.setDraft_snaps (s : State) (x : DraftSt) : (s.setDraft x).snaps = s.snaps := (rfl)
@[simp] theorem State.setDraft_irq (s : State) (x : DraftSt) : (s.setDraft x).irq = s.irq := (rfl)
@[simp] theorem State.setDraft_ledger (s : State) (x : DraftSt) : (s.setDraft x).ledger = s.ledger := (rfl)
@[simp] theorem State.setDraft_draft (s : State) (x : DraftSt) : (s.setDraft x).draft = x := (rfl)
@[simp] theorem State.setDraft_archive (s : State) (x : DraftSt) : (s.setDraft x).archive = s.archive := (rfl)
@[simp] theorem State.setDraft_stk (s : State) (x : DraftSt) : (s.setDraft x).stk = s.stk := (rfl)
@[simp] theorem State.setDraft_out (s : State) (x : DraftSt) : (s.setDraft x).out = s.out := (rfl)
@[simp] theorem State.setDraft_freeCount (s : State) (x : DraftSt) : (s.setDraft x).freeCount = s.freeCount := (rfl)
@[simp] theorem State.setDraft_time (s : State) (x : DraftSt) : (s.setDraft x).time = s.time := (rfl)
@[simp] theorem State.setDraft_vote (s : State) (x : DraftSt) : (s.setDraft x).vote = s.vote := (rfl)
@[simp] theorem State.setDraft_fault (s : State) (x : DraftSt) : (s.setDraft x).fault = s.fault := (rfl)
@[simp] theorem State.setDraft_pair (s : State) (x : DraftSt) : (s.setDraft x).pair = s.pair := (rfl)
@[simp] theorem State.setDraft_power (s : State) (x : DraftSt) : (s.setDraft x).power = s.power := (rfl)
@[simp] theorem State.setDraft_queues (s : State) (x : DraftSt) : (s.setDraft x).queues = s.queues := (rfl)
@[simp] theorem State.setDraft_port (s : State) (x : DraftSt) : (s.setDraft x).port = s.port := (rfl)
@[simp] theorem State.setDraft_hedQ (s : State) (x : DraftSt) : (s.setDraft x).hedQ = s.hedQ := (rfl)
@[simp] theorem State.setDraft_heddle (s : State) (x : DraftSt) : (s.setDraft x).heddle = s.heddle := (rfl)
@[simp] theorem State.setDraft_reedQ (s : State) (x : DraftSt) : (s.setDraft x).reedQ = s.reedQ := (rfl)
@[simp] theorem State.setDraft_waveQ (s : State) (x : DraftSt) : (s.setDraft x).waveQ = s.waveQ := (rfl)
@[simp] theorem State.setDraft_inputQ (s : State) (x : DraftSt) : (s.setDraft x).inputQ = s.inputQ := (rfl)
@[simp] theorem State.setDraft_reed (s : State) (x : DraftSt) : (s.setDraft x).reed = s.reed := (rfl)
@[simp] theorem State.setDraft_loomQ (s : State) (x : DraftSt) : (s.setDraft x).loomQ = s.loomQ := (rfl)
@[simp] theorem State.setDraft_loom (s : State) (x : DraftSt) : (s.setDraft x).loom = s.loom := (rfl)
@[simp] theorem State.setDraft_slv (s : State) (x : DraftSt) : (s.setDraft x).slv = s.slv := (rfl)
@[simp] theorem State.setDraft_capt (s : State) (x : DraftSt) : (s.setDraft x).capt = s.capt := (rfl)
@[simp] theorem State.setDraft_shuttle (s : State) (x : DraftSt) : (s.setDraft x).shuttle = s.shuttle := (rfl)
@[simp] theorem State.setDraft_osc (s : State) (x : DraftSt) : (s.setDraft x).osc = s.osc := (rfl)
@[simp] theorem State.setDraft_isle (s : State) (x : DraftSt) : (s.setDraft x).isle = s.isle := (rfl)
@[simp] theorem State.setDraft_energy (s : State) (x : DraftSt) : (s.setDraft x).energy = s.energy := (rfl)
@[simp] theorem State.setDraft_saves (s : State) (x : DraftSt) : (s.setDraft x).saves = s.saves := (rfl)
@[simp] theorem State.setDraft_clock (s : State) (x : DraftSt) : (s.setDraft x).clock = s.clock := (rfl)
@[simp] theorem State.setDraft_ageing (s : State) (x : DraftSt) : (s.setDraft x).ageing = s.ageing := (rfl)
@[simp] theorem State.setDraft_host (s : State) (x : DraftSt) : (s.setDraft x).host = s.host := (rfl)
@[simp] theorem State.setDraft_keyHashes (s : State) (x : DraftSt) : (s.setDraft x).keyHashes = s.keyHashes := (rfl)
@[simp] theorem State.setArchive_pending (s : State) (x : SMap Byte) : (s.setArchive x).pending = s.pending := (rfl)
@[simp] theorem State.setArchive_held (s : State) (x : SMap Byte) : (s.setArchive x).held = s.held := (rfl)
@[simp] theorem State.setArchive_boot (s : State) (x : SMap Byte) : (s.setArchive x).boot = s.boot := (rfl)
@[simp] theorem State.setArchive_bases (s : State) (x : SMap Byte) : (s.setArchive x).bases = s.bases := (rfl)
@[simp] theorem State.setArchive_regs (s : State) (x : SMap Byte) : (s.setArchive x).regs = s.regs := (rfl)
@[simp] theorem State.setArchive_snaps (s : State) (x : SMap Byte) : (s.setArchive x).snaps = s.snaps := (rfl)
@[simp] theorem State.setArchive_irq (s : State) (x : SMap Byte) : (s.setArchive x).irq = s.irq := (rfl)
@[simp] theorem State.setArchive_ledger (s : State) (x : SMap Byte) : (s.setArchive x).ledger = s.ledger := (rfl)
@[simp] theorem State.setArchive_draft (s : State) (x : SMap Byte) : (s.setArchive x).draft = s.draft := (rfl)
@[simp] theorem State.setArchive_archive (s : State) (x : SMap Byte) : (s.setArchive x).archive = x := (rfl)
@[simp] theorem State.setArchive_stk (s : State) (x : SMap Byte) : (s.setArchive x).stk = s.stk := (rfl)
@[simp] theorem State.setArchive_out (s : State) (x : SMap Byte) : (s.setArchive x).out = s.out := (rfl)
@[simp] theorem State.setArchive_freeCount (s : State) (x : SMap Byte) : (s.setArchive x).freeCount = s.freeCount := (rfl)
@[simp] theorem State.setArchive_time (s : State) (x : SMap Byte) : (s.setArchive x).time = s.time := (rfl)
@[simp] theorem State.setArchive_vote (s : State) (x : SMap Byte) : (s.setArchive x).vote = s.vote := (rfl)
@[simp] theorem State.setArchive_fault (s : State) (x : SMap Byte) : (s.setArchive x).fault = s.fault := (rfl)
@[simp] theorem State.setArchive_pair (s : State) (x : SMap Byte) : (s.setArchive x).pair = s.pair := (rfl)
@[simp] theorem State.setArchive_power (s : State) (x : SMap Byte) : (s.setArchive x).power = s.power := (rfl)
@[simp] theorem State.setArchive_queues (s : State) (x : SMap Byte) : (s.setArchive x).queues = s.queues := (rfl)
@[simp] theorem State.setArchive_port (s : State) (x : SMap Byte) : (s.setArchive x).port = s.port := (rfl)
@[simp] theorem State.setArchive_hedQ (s : State) (x : SMap Byte) : (s.setArchive x).hedQ = s.hedQ := (rfl)
@[simp] theorem State.setArchive_heddle (s : State) (x : SMap Byte) : (s.setArchive x).heddle = s.heddle := (rfl)
@[simp] theorem State.setArchive_reedQ (s : State) (x : SMap Byte) : (s.setArchive x).reedQ = s.reedQ := (rfl)
@[simp] theorem State.setArchive_waveQ (s : State) (x : SMap Byte) : (s.setArchive x).waveQ = s.waveQ := (rfl)
@[simp] theorem State.setArchive_inputQ (s : State) (x : SMap Byte) : (s.setArchive x).inputQ = s.inputQ := (rfl)
@[simp] theorem State.setArchive_reed (s : State) (x : SMap Byte) : (s.setArchive x).reed = s.reed := (rfl)
@[simp] theorem State.setArchive_loomQ (s : State) (x : SMap Byte) : (s.setArchive x).loomQ = s.loomQ := (rfl)
@[simp] theorem State.setArchive_loom (s : State) (x : SMap Byte) : (s.setArchive x).loom = s.loom := (rfl)
@[simp] theorem State.setArchive_slv (s : State) (x : SMap Byte) : (s.setArchive x).slv = s.slv := (rfl)
@[simp] theorem State.setArchive_capt (s : State) (x : SMap Byte) : (s.setArchive x).capt = s.capt := (rfl)
@[simp] theorem State.setArchive_shuttle (s : State) (x : SMap Byte) : (s.setArchive x).shuttle = s.shuttle := (rfl)
@[simp] theorem State.setArchive_osc (s : State) (x : SMap Byte) : (s.setArchive x).osc = s.osc := (rfl)
@[simp] theorem State.setArchive_isle (s : State) (x : SMap Byte) : (s.setArchive x).isle = s.isle := (rfl)
@[simp] theorem State.setArchive_energy (s : State) (x : SMap Byte) : (s.setArchive x).energy = s.energy := (rfl)
@[simp] theorem State.setArchive_saves (s : State) (x : SMap Byte) : (s.setArchive x).saves = s.saves := (rfl)
@[simp] theorem State.setArchive_clock (s : State) (x : SMap Byte) : (s.setArchive x).clock = s.clock := (rfl)
@[simp] theorem State.setArchive_ageing (s : State) (x : SMap Byte) : (s.setArchive x).ageing = s.ageing := (rfl)
@[simp] theorem State.setArchive_host (s : State) (x : SMap Byte) : (s.setArchive x).host = s.host := (rfl)
@[simp] theorem State.setArchive_keyHashes (s : State) (x : SMap Byte) : (s.setArchive x).keyHashes = s.keyHashes := (rfl)
@[simp] theorem State.setStk_pending (s : State) (x : SMap Byte) : (s.setStk x).pending = s.pending := (rfl)
@[simp] theorem State.setStk_held (s : State) (x : SMap Byte) : (s.setStk x).held = s.held := (rfl)
@[simp] theorem State.setStk_boot (s : State) (x : SMap Byte) : (s.setStk x).boot = s.boot := (rfl)
@[simp] theorem State.setStk_bases (s : State) (x : SMap Byte) : (s.setStk x).bases = s.bases := (rfl)
@[simp] theorem State.setStk_regs (s : State) (x : SMap Byte) : (s.setStk x).regs = s.regs := (rfl)
@[simp] theorem State.setStk_snaps (s : State) (x : SMap Byte) : (s.setStk x).snaps = s.snaps := (rfl)
@[simp] theorem State.setStk_irq (s : State) (x : SMap Byte) : (s.setStk x).irq = s.irq := (rfl)
@[simp] theorem State.setStk_ledger (s : State) (x : SMap Byte) : (s.setStk x).ledger = s.ledger := (rfl)
@[simp] theorem State.setStk_draft (s : State) (x : SMap Byte) : (s.setStk x).draft = s.draft := (rfl)
@[simp] theorem State.setStk_archive (s : State) (x : SMap Byte) : (s.setStk x).archive = s.archive := (rfl)
@[simp] theorem State.setStk_stk (s : State) (x : SMap Byte) : (s.setStk x).stk = x := (rfl)
@[simp] theorem State.setStk_out (s : State) (x : SMap Byte) : (s.setStk x).out = s.out := (rfl)
@[simp] theorem State.setStk_freeCount (s : State) (x : SMap Byte) : (s.setStk x).freeCount = s.freeCount := (rfl)
@[simp] theorem State.setStk_time (s : State) (x : SMap Byte) : (s.setStk x).time = s.time := (rfl)
@[simp] theorem State.setStk_vote (s : State) (x : SMap Byte) : (s.setStk x).vote = s.vote := (rfl)
@[simp] theorem State.setStk_fault (s : State) (x : SMap Byte) : (s.setStk x).fault = s.fault := (rfl)
@[simp] theorem State.setStk_pair (s : State) (x : SMap Byte) : (s.setStk x).pair = s.pair := (rfl)
@[simp] theorem State.setStk_power (s : State) (x : SMap Byte) : (s.setStk x).power = s.power := (rfl)
@[simp] theorem State.setStk_queues (s : State) (x : SMap Byte) : (s.setStk x).queues = s.queues := (rfl)
@[simp] theorem State.setStk_port (s : State) (x : SMap Byte) : (s.setStk x).port = s.port := (rfl)
@[simp] theorem State.setStk_hedQ (s : State) (x : SMap Byte) : (s.setStk x).hedQ = s.hedQ := (rfl)
@[simp] theorem State.setStk_heddle (s : State) (x : SMap Byte) : (s.setStk x).heddle = s.heddle := (rfl)
@[simp] theorem State.setStk_reedQ (s : State) (x : SMap Byte) : (s.setStk x).reedQ = s.reedQ := (rfl)
@[simp] theorem State.setStk_waveQ (s : State) (x : SMap Byte) : (s.setStk x).waveQ = s.waveQ := (rfl)
@[simp] theorem State.setStk_inputQ (s : State) (x : SMap Byte) : (s.setStk x).inputQ = s.inputQ := (rfl)
@[simp] theorem State.setStk_reed (s : State) (x : SMap Byte) : (s.setStk x).reed = s.reed := (rfl)
@[simp] theorem State.setStk_loomQ (s : State) (x : SMap Byte) : (s.setStk x).loomQ = s.loomQ := (rfl)
@[simp] theorem State.setStk_loom (s : State) (x : SMap Byte) : (s.setStk x).loom = s.loom := (rfl)
@[simp] theorem State.setStk_slv (s : State) (x : SMap Byte) : (s.setStk x).slv = s.slv := (rfl)
@[simp] theorem State.setStk_capt (s : State) (x : SMap Byte) : (s.setStk x).capt = s.capt := (rfl)
@[simp] theorem State.setStk_shuttle (s : State) (x : SMap Byte) : (s.setStk x).shuttle = s.shuttle := (rfl)
@[simp] theorem State.setStk_osc (s : State) (x : SMap Byte) : (s.setStk x).osc = s.osc := (rfl)
@[simp] theorem State.setStk_isle (s : State) (x : SMap Byte) : (s.setStk x).isle = s.isle := (rfl)
@[simp] theorem State.setStk_energy (s : State) (x : SMap Byte) : (s.setStk x).energy = s.energy := (rfl)
@[simp] theorem State.setStk_saves (s : State) (x : SMap Byte) : (s.setStk x).saves = s.saves := (rfl)
@[simp] theorem State.setStk_clock (s : State) (x : SMap Byte) : (s.setStk x).clock = s.clock := (rfl)
@[simp] theorem State.setStk_ageing (s : State) (x : SMap Byte) : (s.setStk x).ageing = s.ageing := (rfl)
@[simp] theorem State.setStk_host (s : State) (x : SMap Byte) : (s.setStk x).host = s.host := (rfl)
@[simp] theorem State.setStk_keyHashes (s : State) (x : SMap Byte) : (s.setStk x).keyHashes = s.keyHashes := (rfl)
@[simp] theorem State.setOut_pending (s : State) (x : List Output) : (s.setOut x).pending = s.pending := (rfl)
@[simp] theorem State.setOut_held (s : State) (x : List Output) : (s.setOut x).held = s.held := (rfl)
@[simp] theorem State.setOut_boot (s : State) (x : List Output) : (s.setOut x).boot = s.boot := (rfl)
@[simp] theorem State.setOut_bases (s : State) (x : List Output) : (s.setOut x).bases = s.bases := (rfl)
@[simp] theorem State.setOut_regs (s : State) (x : List Output) : (s.setOut x).regs = s.regs := (rfl)
@[simp] theorem State.setOut_snaps (s : State) (x : List Output) : (s.setOut x).snaps = s.snaps := (rfl)
@[simp] theorem State.setOut_irq (s : State) (x : List Output) : (s.setOut x).irq = s.irq := (rfl)
@[simp] theorem State.setOut_ledger (s : State) (x : List Output) : (s.setOut x).ledger = s.ledger := (rfl)
@[simp] theorem State.setOut_draft (s : State) (x : List Output) : (s.setOut x).draft = s.draft := (rfl)
@[simp] theorem State.setOut_archive (s : State) (x : List Output) : (s.setOut x).archive = s.archive := (rfl)
@[simp] theorem State.setOut_stk (s : State) (x : List Output) : (s.setOut x).stk = s.stk := (rfl)
@[simp] theorem State.setOut_out (s : State) (x : List Output) : (s.setOut x).out = x := (rfl)
@[simp] theorem State.setOut_freeCount (s : State) (x : List Output) : (s.setOut x).freeCount = s.freeCount := (rfl)
@[simp] theorem State.setOut_time (s : State) (x : List Output) : (s.setOut x).time = s.time := (rfl)
@[simp] theorem State.setOut_vote (s : State) (x : List Output) : (s.setOut x).vote = s.vote := (rfl)
@[simp] theorem State.setOut_fault (s : State) (x : List Output) : (s.setOut x).fault = s.fault := (rfl)
@[simp] theorem State.setOut_pair (s : State) (x : List Output) : (s.setOut x).pair = s.pair := (rfl)
@[simp] theorem State.setOut_power (s : State) (x : List Output) : (s.setOut x).power = s.power := (rfl)
@[simp] theorem State.setOut_queues (s : State) (x : List Output) : (s.setOut x).queues = s.queues := (rfl)
@[simp] theorem State.setOut_port (s : State) (x : List Output) : (s.setOut x).port = s.port := (rfl)
@[simp] theorem State.setOut_hedQ (s : State) (x : List Output) : (s.setOut x).hedQ = s.hedQ := (rfl)
@[simp] theorem State.setOut_heddle (s : State) (x : List Output) : (s.setOut x).heddle = s.heddle := (rfl)
@[simp] theorem State.setOut_reedQ (s : State) (x : List Output) : (s.setOut x).reedQ = s.reedQ := (rfl)
@[simp] theorem State.setOut_waveQ (s : State) (x : List Output) : (s.setOut x).waveQ = s.waveQ := (rfl)
@[simp] theorem State.setOut_inputQ (s : State) (x : List Output) : (s.setOut x).inputQ = s.inputQ := (rfl)
@[simp] theorem State.setOut_reed (s : State) (x : List Output) : (s.setOut x).reed = s.reed := (rfl)
@[simp] theorem State.setOut_loomQ (s : State) (x : List Output) : (s.setOut x).loomQ = s.loomQ := (rfl)
@[simp] theorem State.setOut_loom (s : State) (x : List Output) : (s.setOut x).loom = s.loom := (rfl)
@[simp] theorem State.setOut_slv (s : State) (x : List Output) : (s.setOut x).slv = s.slv := (rfl)
@[simp] theorem State.setOut_capt (s : State) (x : List Output) : (s.setOut x).capt = s.capt := (rfl)
@[simp] theorem State.setOut_shuttle (s : State) (x : List Output) : (s.setOut x).shuttle = s.shuttle := (rfl)
@[simp] theorem State.setOut_osc (s : State) (x : List Output) : (s.setOut x).osc = s.osc := (rfl)
@[simp] theorem State.setOut_isle (s : State) (x : List Output) : (s.setOut x).isle = s.isle := (rfl)
@[simp] theorem State.setOut_energy (s : State) (x : List Output) : (s.setOut x).energy = s.energy := (rfl)
@[simp] theorem State.setOut_saves (s : State) (x : List Output) : (s.setOut x).saves = s.saves := (rfl)
@[simp] theorem State.setOut_clock (s : State) (x : List Output) : (s.setOut x).clock = s.clock := (rfl)
@[simp] theorem State.setOut_ageing (s : State) (x : List Output) : (s.setOut x).ageing = s.ageing := (rfl)
@[simp] theorem State.setOut_host (s : State) (x : List Output) : (s.setOut x).host = s.host := (rfl)
@[simp] theorem State.setOut_keyHashes (s : State) (x : List Output) : (s.setOut x).keyHashes = s.keyHashes := (rfl)
@[simp] theorem State.setFreeCount_pending (s : State) (x : Nat) : (s.setFreeCount x).pending = s.pending := (rfl)
@[simp] theorem State.setFreeCount_held (s : State) (x : Nat) : (s.setFreeCount x).held = s.held := (rfl)
@[simp] theorem State.setFreeCount_boot (s : State) (x : Nat) : (s.setFreeCount x).boot = s.boot := (rfl)
@[simp] theorem State.setFreeCount_bases (s : State) (x : Nat) : (s.setFreeCount x).bases = s.bases := (rfl)
@[simp] theorem State.setFreeCount_regs (s : State) (x : Nat) : (s.setFreeCount x).regs = s.regs := (rfl)
@[simp] theorem State.setFreeCount_snaps (s : State) (x : Nat) : (s.setFreeCount x).snaps = s.snaps := (rfl)
@[simp] theorem State.setFreeCount_irq (s : State) (x : Nat) : (s.setFreeCount x).irq = s.irq := (rfl)
@[simp] theorem State.setFreeCount_ledger (s : State) (x : Nat) : (s.setFreeCount x).ledger = s.ledger := (rfl)
@[simp] theorem State.setFreeCount_draft (s : State) (x : Nat) : (s.setFreeCount x).draft = s.draft := (rfl)
@[simp] theorem State.setFreeCount_archive (s : State) (x : Nat) : (s.setFreeCount x).archive = s.archive := (rfl)
@[simp] theorem State.setFreeCount_stk (s : State) (x : Nat) : (s.setFreeCount x).stk = s.stk := (rfl)
@[simp] theorem State.setFreeCount_out (s : State) (x : Nat) : (s.setFreeCount x).out = s.out := (rfl)
@[simp] theorem State.setFreeCount_freeCount (s : State) (x : Nat) : (s.setFreeCount x).freeCount = x := (rfl)
@[simp] theorem State.setFreeCount_time (s : State) (x : Nat) : (s.setFreeCount x).time = s.time := (rfl)
@[simp] theorem State.setFreeCount_vote (s : State) (x : Nat) : (s.setFreeCount x).vote = s.vote := (rfl)
@[simp] theorem State.setFreeCount_fault (s : State) (x : Nat) : (s.setFreeCount x).fault = s.fault := (rfl)
@[simp] theorem State.setFreeCount_pair (s : State) (x : Nat) : (s.setFreeCount x).pair = s.pair := (rfl)
@[simp] theorem State.setFreeCount_power (s : State) (x : Nat) : (s.setFreeCount x).power = s.power := (rfl)
@[simp] theorem State.setFreeCount_queues (s : State) (x : Nat) : (s.setFreeCount x).queues = s.queues := (rfl)
@[simp] theorem State.setFreeCount_port (s : State) (x : Nat) : (s.setFreeCount x).port = s.port := (rfl)
@[simp] theorem State.setFreeCount_hedQ (s : State) (x : Nat) : (s.setFreeCount x).hedQ = s.hedQ := (rfl)
@[simp] theorem State.setFreeCount_heddle (s : State) (x : Nat) : (s.setFreeCount x).heddle = s.heddle := (rfl)
@[simp] theorem State.setFreeCount_reedQ (s : State) (x : Nat) : (s.setFreeCount x).reedQ = s.reedQ := (rfl)
@[simp] theorem State.setFreeCount_waveQ (s : State) (x : Nat) : (s.setFreeCount x).waveQ = s.waveQ := (rfl)
@[simp] theorem State.setFreeCount_inputQ (s : State) (x : Nat) : (s.setFreeCount x).inputQ = s.inputQ := (rfl)
@[simp] theorem State.setFreeCount_reed (s : State) (x : Nat) : (s.setFreeCount x).reed = s.reed := (rfl)
@[simp] theorem State.setFreeCount_loomQ (s : State) (x : Nat) : (s.setFreeCount x).loomQ = s.loomQ := (rfl)
@[simp] theorem State.setFreeCount_loom (s : State) (x : Nat) : (s.setFreeCount x).loom = s.loom := (rfl)
@[simp] theorem State.setFreeCount_slv (s : State) (x : Nat) : (s.setFreeCount x).slv = s.slv := (rfl)
@[simp] theorem State.setFreeCount_capt (s : State) (x : Nat) : (s.setFreeCount x).capt = s.capt := (rfl)
@[simp] theorem State.setFreeCount_shuttle (s : State) (x : Nat) : (s.setFreeCount x).shuttle = s.shuttle := (rfl)
@[simp] theorem State.setFreeCount_osc (s : State) (x : Nat) : (s.setFreeCount x).osc = s.osc := (rfl)
@[simp] theorem State.setFreeCount_isle (s : State) (x : Nat) : (s.setFreeCount x).isle = s.isle := (rfl)
@[simp] theorem State.setFreeCount_energy (s : State) (x : Nat) : (s.setFreeCount x).energy = s.energy := (rfl)
@[simp] theorem State.setFreeCount_saves (s : State) (x : Nat) : (s.setFreeCount x).saves = s.saves := (rfl)
@[simp] theorem State.setFreeCount_clock (s : State) (x : Nat) : (s.setFreeCount x).clock = s.clock := (rfl)
@[simp] theorem State.setFreeCount_ageing (s : State) (x : Nat) : (s.setFreeCount x).ageing = s.ageing := (rfl)
@[simp] theorem State.setFreeCount_host (s : State) (x : Nat) : (s.setFreeCount x).host = s.host := (rfl)
@[simp] theorem State.setFreeCount_keyHashes (s : State) (x : Nat) : (s.setFreeCount x).keyHashes = s.keyHashes := (rfl)
@[simp] theorem State.setTime_pending (s : State) (x : TimeSt) : (s.setTime x).pending = s.pending := (rfl)
@[simp] theorem State.setTime_held (s : State) (x : TimeSt) : (s.setTime x).held = s.held := (rfl)
@[simp] theorem State.setTime_boot (s : State) (x : TimeSt) : (s.setTime x).boot = s.boot := (rfl)
@[simp] theorem State.setTime_bases (s : State) (x : TimeSt) : (s.setTime x).bases = s.bases := (rfl)
@[simp] theorem State.setTime_regs (s : State) (x : TimeSt) : (s.setTime x).regs = s.regs := (rfl)
@[simp] theorem State.setTime_snaps (s : State) (x : TimeSt) : (s.setTime x).snaps = s.snaps := (rfl)
@[simp] theorem State.setTime_irq (s : State) (x : TimeSt) : (s.setTime x).irq = s.irq := (rfl)
@[simp] theorem State.setTime_ledger (s : State) (x : TimeSt) : (s.setTime x).ledger = s.ledger := (rfl)
@[simp] theorem State.setTime_draft (s : State) (x : TimeSt) : (s.setTime x).draft = s.draft := (rfl)
@[simp] theorem State.setTime_archive (s : State) (x : TimeSt) : (s.setTime x).archive = s.archive := (rfl)
@[simp] theorem State.setTime_stk (s : State) (x : TimeSt) : (s.setTime x).stk = s.stk := (rfl)
@[simp] theorem State.setTime_out (s : State) (x : TimeSt) : (s.setTime x).out = s.out := (rfl)
@[simp] theorem State.setTime_freeCount (s : State) (x : TimeSt) : (s.setTime x).freeCount = s.freeCount := (rfl)
@[simp] theorem State.setTime_time (s : State) (x : TimeSt) : (s.setTime x).time = x := (rfl)
@[simp] theorem State.setTime_vote (s : State) (x : TimeSt) : (s.setTime x).vote = s.vote := (rfl)
@[simp] theorem State.setTime_fault (s : State) (x : TimeSt) : (s.setTime x).fault = s.fault := (rfl)
@[simp] theorem State.setTime_pair (s : State) (x : TimeSt) : (s.setTime x).pair = s.pair := (rfl)
@[simp] theorem State.setTime_power (s : State) (x : TimeSt) : (s.setTime x).power = s.power := (rfl)
@[simp] theorem State.setTime_queues (s : State) (x : TimeSt) : (s.setTime x).queues = s.queues := (rfl)
@[simp] theorem State.setTime_port (s : State) (x : TimeSt) : (s.setTime x).port = s.port := (rfl)
@[simp] theorem State.setTime_hedQ (s : State) (x : TimeSt) : (s.setTime x).hedQ = s.hedQ := (rfl)
@[simp] theorem State.setTime_heddle (s : State) (x : TimeSt) : (s.setTime x).heddle = s.heddle := (rfl)
@[simp] theorem State.setTime_reedQ (s : State) (x : TimeSt) : (s.setTime x).reedQ = s.reedQ := (rfl)
@[simp] theorem State.setTime_waveQ (s : State) (x : TimeSt) : (s.setTime x).waveQ = s.waveQ := (rfl)
@[simp] theorem State.setTime_inputQ (s : State) (x : TimeSt) : (s.setTime x).inputQ = s.inputQ := (rfl)
@[simp] theorem State.setTime_reed (s : State) (x : TimeSt) : (s.setTime x).reed = s.reed := (rfl)
@[simp] theorem State.setTime_loomQ (s : State) (x : TimeSt) : (s.setTime x).loomQ = s.loomQ := (rfl)
@[simp] theorem State.setTime_loom (s : State) (x : TimeSt) : (s.setTime x).loom = s.loom := (rfl)
@[simp] theorem State.setTime_slv (s : State) (x : TimeSt) : (s.setTime x).slv = s.slv := (rfl)
@[simp] theorem State.setTime_capt (s : State) (x : TimeSt) : (s.setTime x).capt = s.capt := (rfl)
@[simp] theorem State.setTime_shuttle (s : State) (x : TimeSt) : (s.setTime x).shuttle = s.shuttle := (rfl)
@[simp] theorem State.setTime_osc (s : State) (x : TimeSt) : (s.setTime x).osc = s.osc := (rfl)
@[simp] theorem State.setTime_isle (s : State) (x : TimeSt) : (s.setTime x).isle = s.isle := (rfl)
@[simp] theorem State.setTime_energy (s : State) (x : TimeSt) : (s.setTime x).energy = s.energy := (rfl)
@[simp] theorem State.setTime_saves (s : State) (x : TimeSt) : (s.setTime x).saves = s.saves := (rfl)
@[simp] theorem State.setTime_clock (s : State) (x : TimeSt) : (s.setTime x).clock = s.clock := (rfl)
@[simp] theorem State.setTime_ageing (s : State) (x : TimeSt) : (s.setTime x).ageing = s.ageing := (rfl)
@[simp] theorem State.setTime_host (s : State) (x : TimeSt) : (s.setTime x).host = s.host := (rfl)
@[simp] theorem State.setTime_keyHashes (s : State) (x : TimeSt) : (s.setTime x).keyHashes = s.keyHashes := (rfl)
@[simp] theorem State.setVote_pending (s : State) (x : VoteSt) : (s.setVote x).pending = s.pending := (rfl)
@[simp] theorem State.setVote_held (s : State) (x : VoteSt) : (s.setVote x).held = s.held := (rfl)
@[simp] theorem State.setVote_boot (s : State) (x : VoteSt) : (s.setVote x).boot = s.boot := (rfl)
@[simp] theorem State.setVote_bases (s : State) (x : VoteSt) : (s.setVote x).bases = s.bases := (rfl)
@[simp] theorem State.setVote_regs (s : State) (x : VoteSt) : (s.setVote x).regs = s.regs := (rfl)
@[simp] theorem State.setVote_snaps (s : State) (x : VoteSt) : (s.setVote x).snaps = s.snaps := (rfl)
@[simp] theorem State.setVote_irq (s : State) (x : VoteSt) : (s.setVote x).irq = s.irq := (rfl)
@[simp] theorem State.setVote_ledger (s : State) (x : VoteSt) : (s.setVote x).ledger = s.ledger := (rfl)
@[simp] theorem State.setVote_draft (s : State) (x : VoteSt) : (s.setVote x).draft = s.draft := (rfl)
@[simp] theorem State.setVote_archive (s : State) (x : VoteSt) : (s.setVote x).archive = s.archive := (rfl)
@[simp] theorem State.setVote_stk (s : State) (x : VoteSt) : (s.setVote x).stk = s.stk := (rfl)
@[simp] theorem State.setVote_out (s : State) (x : VoteSt) : (s.setVote x).out = s.out := (rfl)
@[simp] theorem State.setVote_freeCount (s : State) (x : VoteSt) : (s.setVote x).freeCount = s.freeCount := (rfl)
@[simp] theorem State.setVote_time (s : State) (x : VoteSt) : (s.setVote x).time = s.time := (rfl)
@[simp] theorem State.setVote_vote (s : State) (x : VoteSt) : (s.setVote x).vote = x := (rfl)
@[simp] theorem State.setVote_fault (s : State) (x : VoteSt) : (s.setVote x).fault = s.fault := (rfl)
@[simp] theorem State.setVote_pair (s : State) (x : VoteSt) : (s.setVote x).pair = s.pair := (rfl)
@[simp] theorem State.setVote_power (s : State) (x : VoteSt) : (s.setVote x).power = s.power := (rfl)
@[simp] theorem State.setVote_queues (s : State) (x : VoteSt) : (s.setVote x).queues = s.queues := (rfl)
@[simp] theorem State.setVote_port (s : State) (x : VoteSt) : (s.setVote x).port = s.port := (rfl)
@[simp] theorem State.setVote_hedQ (s : State) (x : VoteSt) : (s.setVote x).hedQ = s.hedQ := (rfl)
@[simp] theorem State.setVote_heddle (s : State) (x : VoteSt) : (s.setVote x).heddle = s.heddle := (rfl)
@[simp] theorem State.setVote_reedQ (s : State) (x : VoteSt) : (s.setVote x).reedQ = s.reedQ := (rfl)
@[simp] theorem State.setVote_waveQ (s : State) (x : VoteSt) : (s.setVote x).waveQ = s.waveQ := (rfl)
@[simp] theorem State.setVote_inputQ (s : State) (x : VoteSt) : (s.setVote x).inputQ = s.inputQ := (rfl)
@[simp] theorem State.setVote_reed (s : State) (x : VoteSt) : (s.setVote x).reed = s.reed := (rfl)
@[simp] theorem State.setVote_loomQ (s : State) (x : VoteSt) : (s.setVote x).loomQ = s.loomQ := (rfl)
@[simp] theorem State.setVote_loom (s : State) (x : VoteSt) : (s.setVote x).loom = s.loom := (rfl)
@[simp] theorem State.setVote_slv (s : State) (x : VoteSt) : (s.setVote x).slv = s.slv := (rfl)
@[simp] theorem State.setVote_capt (s : State) (x : VoteSt) : (s.setVote x).capt = s.capt := (rfl)
@[simp] theorem State.setVote_shuttle (s : State) (x : VoteSt) : (s.setVote x).shuttle = s.shuttle := (rfl)
@[simp] theorem State.setVote_osc (s : State) (x : VoteSt) : (s.setVote x).osc = s.osc := (rfl)
@[simp] theorem State.setVote_isle (s : State) (x : VoteSt) : (s.setVote x).isle = s.isle := (rfl)
@[simp] theorem State.setVote_energy (s : State) (x : VoteSt) : (s.setVote x).energy = s.energy := (rfl)
@[simp] theorem State.setVote_saves (s : State) (x : VoteSt) : (s.setVote x).saves = s.saves := (rfl)
@[simp] theorem State.setVote_clock (s : State) (x : VoteSt) : (s.setVote x).clock = s.clock := (rfl)
@[simp] theorem State.setVote_ageing (s : State) (x : VoteSt) : (s.setVote x).ageing = s.ageing := (rfl)
@[simp] theorem State.setVote_host (s : State) (x : VoteSt) : (s.setVote x).host = s.host := (rfl)
@[simp] theorem State.setVote_keyHashes (s : State) (x : VoteSt) : (s.setVote x).keyHashes = s.keyHashes := (rfl)
@[simp] theorem State.setFault_pending (s : State) (x : FaultSt) : (s.setFault x).pending = s.pending := (rfl)
@[simp] theorem State.setFault_held (s : State) (x : FaultSt) : (s.setFault x).held = s.held := (rfl)
@[simp] theorem State.setFault_boot (s : State) (x : FaultSt) : (s.setFault x).boot = s.boot := (rfl)
@[simp] theorem State.setFault_bases (s : State) (x : FaultSt) : (s.setFault x).bases = s.bases := (rfl)
@[simp] theorem State.setFault_regs (s : State) (x : FaultSt) : (s.setFault x).regs = s.regs := (rfl)
@[simp] theorem State.setFault_snaps (s : State) (x : FaultSt) : (s.setFault x).snaps = s.snaps := (rfl)
@[simp] theorem State.setFault_irq (s : State) (x : FaultSt) : (s.setFault x).irq = s.irq := (rfl)
@[simp] theorem State.setFault_ledger (s : State) (x : FaultSt) : (s.setFault x).ledger = s.ledger := (rfl)
@[simp] theorem State.setFault_draft (s : State) (x : FaultSt) : (s.setFault x).draft = s.draft := (rfl)
@[simp] theorem State.setFault_archive (s : State) (x : FaultSt) : (s.setFault x).archive = s.archive := (rfl)
@[simp] theorem State.setFault_stk (s : State) (x : FaultSt) : (s.setFault x).stk = s.stk := (rfl)
@[simp] theorem State.setFault_out (s : State) (x : FaultSt) : (s.setFault x).out = s.out := (rfl)
@[simp] theorem State.setFault_freeCount (s : State) (x : FaultSt) : (s.setFault x).freeCount = s.freeCount := (rfl)
@[simp] theorem State.setFault_time (s : State) (x : FaultSt) : (s.setFault x).time = s.time := (rfl)
@[simp] theorem State.setFault_vote (s : State) (x : FaultSt) : (s.setFault x).vote = s.vote := (rfl)
@[simp] theorem State.setFault_fault (s : State) (x : FaultSt) : (s.setFault x).fault = x := (rfl)
@[simp] theorem State.setFault_pair (s : State) (x : FaultSt) : (s.setFault x).pair = s.pair := (rfl)
@[simp] theorem State.setFault_power (s : State) (x : FaultSt) : (s.setFault x).power = s.power := (rfl)
@[simp] theorem State.setFault_queues (s : State) (x : FaultSt) : (s.setFault x).queues = s.queues := (rfl)
@[simp] theorem State.setFault_port (s : State) (x : FaultSt) : (s.setFault x).port = s.port := (rfl)
@[simp] theorem State.setFault_hedQ (s : State) (x : FaultSt) : (s.setFault x).hedQ = s.hedQ := (rfl)
@[simp] theorem State.setFault_heddle (s : State) (x : FaultSt) : (s.setFault x).heddle = s.heddle := (rfl)
@[simp] theorem State.setFault_reedQ (s : State) (x : FaultSt) : (s.setFault x).reedQ = s.reedQ := (rfl)
@[simp] theorem State.setFault_waveQ (s : State) (x : FaultSt) : (s.setFault x).waveQ = s.waveQ := (rfl)
@[simp] theorem State.setFault_inputQ (s : State) (x : FaultSt) : (s.setFault x).inputQ = s.inputQ := (rfl)
@[simp] theorem State.setFault_reed (s : State) (x : FaultSt) : (s.setFault x).reed = s.reed := (rfl)
@[simp] theorem State.setFault_loomQ (s : State) (x : FaultSt) : (s.setFault x).loomQ = s.loomQ := (rfl)
@[simp] theorem State.setFault_loom (s : State) (x : FaultSt) : (s.setFault x).loom = s.loom := (rfl)
@[simp] theorem State.setFault_slv (s : State) (x : FaultSt) : (s.setFault x).slv = s.slv := (rfl)
@[simp] theorem State.setFault_capt (s : State) (x : FaultSt) : (s.setFault x).capt = s.capt := (rfl)
@[simp] theorem State.setFault_shuttle (s : State) (x : FaultSt) : (s.setFault x).shuttle = s.shuttle := (rfl)
@[simp] theorem State.setFault_osc (s : State) (x : FaultSt) : (s.setFault x).osc = s.osc := (rfl)
@[simp] theorem State.setFault_isle (s : State) (x : FaultSt) : (s.setFault x).isle = s.isle := (rfl)
@[simp] theorem State.setFault_energy (s : State) (x : FaultSt) : (s.setFault x).energy = s.energy := (rfl)
@[simp] theorem State.setFault_saves (s : State) (x : FaultSt) : (s.setFault x).saves = s.saves := (rfl)
@[simp] theorem State.setFault_clock (s : State) (x : FaultSt) : (s.setFault x).clock = s.clock := (rfl)
@[simp] theorem State.setFault_ageing (s : State) (x : FaultSt) : (s.setFault x).ageing = s.ageing := (rfl)
@[simp] theorem State.setFault_host (s : State) (x : FaultSt) : (s.setFault x).host = s.host := (rfl)
@[simp] theorem State.setFault_keyHashes (s : State) (x : FaultSt) : (s.setFault x).keyHashes = s.keyHashes := (rfl)
@[simp] theorem State.setPair_pending (s : State) (x : PairSt) : (s.setPair x).pending = s.pending := (rfl)
@[simp] theorem State.setPair_held (s : State) (x : PairSt) : (s.setPair x).held = s.held := (rfl)
@[simp] theorem State.setPair_boot (s : State) (x : PairSt) : (s.setPair x).boot = s.boot := (rfl)
@[simp] theorem State.setPair_bases (s : State) (x : PairSt) : (s.setPair x).bases = s.bases := (rfl)
@[simp] theorem State.setPair_regs (s : State) (x : PairSt) : (s.setPair x).regs = s.regs := (rfl)
@[simp] theorem State.setPair_snaps (s : State) (x : PairSt) : (s.setPair x).snaps = s.snaps := (rfl)
@[simp] theorem State.setPair_irq (s : State) (x : PairSt) : (s.setPair x).irq = s.irq := (rfl)
@[simp] theorem State.setPair_ledger (s : State) (x : PairSt) : (s.setPair x).ledger = s.ledger := (rfl)
@[simp] theorem State.setPair_draft (s : State) (x : PairSt) : (s.setPair x).draft = s.draft := (rfl)
@[simp] theorem State.setPair_archive (s : State) (x : PairSt) : (s.setPair x).archive = s.archive := (rfl)
@[simp] theorem State.setPair_stk (s : State) (x : PairSt) : (s.setPair x).stk = s.stk := (rfl)
@[simp] theorem State.setPair_out (s : State) (x : PairSt) : (s.setPair x).out = s.out := (rfl)
@[simp] theorem State.setPair_freeCount (s : State) (x : PairSt) : (s.setPair x).freeCount = s.freeCount := (rfl)
@[simp] theorem State.setPair_time (s : State) (x : PairSt) : (s.setPair x).time = s.time := (rfl)
@[simp] theorem State.setPair_vote (s : State) (x : PairSt) : (s.setPair x).vote = s.vote := (rfl)
@[simp] theorem State.setPair_fault (s : State) (x : PairSt) : (s.setPair x).fault = s.fault := (rfl)
@[simp] theorem State.setPair_pair (s : State) (x : PairSt) : (s.setPair x).pair = x := (rfl)
@[simp] theorem State.setPair_power (s : State) (x : PairSt) : (s.setPair x).power = s.power := (rfl)
@[simp] theorem State.setPair_queues (s : State) (x : PairSt) : (s.setPair x).queues = s.queues := (rfl)
@[simp] theorem State.setPair_port (s : State) (x : PairSt) : (s.setPair x).port = s.port := (rfl)
@[simp] theorem State.setPair_hedQ (s : State) (x : PairSt) : (s.setPair x).hedQ = s.hedQ := (rfl)
@[simp] theorem State.setPair_heddle (s : State) (x : PairSt) : (s.setPair x).heddle = s.heddle := (rfl)
@[simp] theorem State.setPair_reedQ (s : State) (x : PairSt) : (s.setPair x).reedQ = s.reedQ := (rfl)
@[simp] theorem State.setPair_waveQ (s : State) (x : PairSt) : (s.setPair x).waveQ = s.waveQ := (rfl)
@[simp] theorem State.setPair_inputQ (s : State) (x : PairSt) : (s.setPair x).inputQ = s.inputQ := (rfl)
@[simp] theorem State.setPair_reed (s : State) (x : PairSt) : (s.setPair x).reed = s.reed := (rfl)
@[simp] theorem State.setPair_loomQ (s : State) (x : PairSt) : (s.setPair x).loomQ = s.loomQ := (rfl)
@[simp] theorem State.setPair_loom (s : State) (x : PairSt) : (s.setPair x).loom = s.loom := (rfl)
@[simp] theorem State.setPair_slv (s : State) (x : PairSt) : (s.setPair x).slv = s.slv := (rfl)
@[simp] theorem State.setPair_capt (s : State) (x : PairSt) : (s.setPair x).capt = s.capt := (rfl)
@[simp] theorem State.setPair_shuttle (s : State) (x : PairSt) : (s.setPair x).shuttle = s.shuttle := (rfl)
@[simp] theorem State.setPair_osc (s : State) (x : PairSt) : (s.setPair x).osc = s.osc := (rfl)
@[simp] theorem State.setPair_isle (s : State) (x : PairSt) : (s.setPair x).isle = s.isle := (rfl)
@[simp] theorem State.setPair_energy (s : State) (x : PairSt) : (s.setPair x).energy = s.energy := (rfl)
@[simp] theorem State.setPair_saves (s : State) (x : PairSt) : (s.setPair x).saves = s.saves := (rfl)
@[simp] theorem State.setPair_clock (s : State) (x : PairSt) : (s.setPair x).clock = s.clock := (rfl)
@[simp] theorem State.setPair_ageing (s : State) (x : PairSt) : (s.setPair x).ageing = s.ageing := (rfl)
@[simp] theorem State.setPair_host (s : State) (x : PairSt) : (s.setPair x).host = s.host := (rfl)
@[simp] theorem State.setPair_keyHashes (s : State) (x : PairSt) : (s.setPair x).keyHashes = s.keyHashes := (rfl)
@[simp] theorem State.setPower_pending (s : State) (x : PowerSt) : (s.setPower x).pending = s.pending := (rfl)
@[simp] theorem State.setPower_held (s : State) (x : PowerSt) : (s.setPower x).held = s.held := (rfl)
@[simp] theorem State.setPower_boot (s : State) (x : PowerSt) : (s.setPower x).boot = s.boot := (rfl)
@[simp] theorem State.setPower_bases (s : State) (x : PowerSt) : (s.setPower x).bases = s.bases := (rfl)
@[simp] theorem State.setPower_regs (s : State) (x : PowerSt) : (s.setPower x).regs = s.regs := (rfl)
@[simp] theorem State.setPower_snaps (s : State) (x : PowerSt) : (s.setPower x).snaps = s.snaps := (rfl)
@[simp] theorem State.setPower_irq (s : State) (x : PowerSt) : (s.setPower x).irq = s.irq := (rfl)
@[simp] theorem State.setPower_ledger (s : State) (x : PowerSt) : (s.setPower x).ledger = s.ledger := (rfl)
@[simp] theorem State.setPower_draft (s : State) (x : PowerSt) : (s.setPower x).draft = s.draft := (rfl)
@[simp] theorem State.setPower_archive (s : State) (x : PowerSt) : (s.setPower x).archive = s.archive := (rfl)
@[simp] theorem State.setPower_stk (s : State) (x : PowerSt) : (s.setPower x).stk = s.stk := (rfl)
@[simp] theorem State.setPower_out (s : State) (x : PowerSt) : (s.setPower x).out = s.out := (rfl)
@[simp] theorem State.setPower_freeCount (s : State) (x : PowerSt) : (s.setPower x).freeCount = s.freeCount := (rfl)
@[simp] theorem State.setPower_time (s : State) (x : PowerSt) : (s.setPower x).time = s.time := (rfl)
@[simp] theorem State.setPower_vote (s : State) (x : PowerSt) : (s.setPower x).vote = s.vote := (rfl)
@[simp] theorem State.setPower_fault (s : State) (x : PowerSt) : (s.setPower x).fault = s.fault := (rfl)
@[simp] theorem State.setPower_pair (s : State) (x : PowerSt) : (s.setPower x).pair = s.pair := (rfl)
@[simp] theorem State.setPower_power (s : State) (x : PowerSt) : (s.setPower x).power = x := (rfl)
@[simp] theorem State.setPower_queues (s : State) (x : PowerSt) : (s.setPower x).queues = s.queues := (rfl)
@[simp] theorem State.setPower_port (s : State) (x : PowerSt) : (s.setPower x).port = s.port := (rfl)
@[simp] theorem State.setPower_hedQ (s : State) (x : PowerSt) : (s.setPower x).hedQ = s.hedQ := (rfl)
@[simp] theorem State.setPower_heddle (s : State) (x : PowerSt) : (s.setPower x).heddle = s.heddle := (rfl)
@[simp] theorem State.setPower_reedQ (s : State) (x : PowerSt) : (s.setPower x).reedQ = s.reedQ := (rfl)
@[simp] theorem State.setPower_waveQ (s : State) (x : PowerSt) : (s.setPower x).waveQ = s.waveQ := (rfl)
@[simp] theorem State.setPower_inputQ (s : State) (x : PowerSt) : (s.setPower x).inputQ = s.inputQ := (rfl)
@[simp] theorem State.setPower_reed (s : State) (x : PowerSt) : (s.setPower x).reed = s.reed := (rfl)
@[simp] theorem State.setPower_loomQ (s : State) (x : PowerSt) : (s.setPower x).loomQ = s.loomQ := (rfl)
@[simp] theorem State.setPower_loom (s : State) (x : PowerSt) : (s.setPower x).loom = s.loom := (rfl)
@[simp] theorem State.setPower_slv (s : State) (x : PowerSt) : (s.setPower x).slv = s.slv := (rfl)
@[simp] theorem State.setPower_capt (s : State) (x : PowerSt) : (s.setPower x).capt = s.capt := (rfl)
@[simp] theorem State.setPower_shuttle (s : State) (x : PowerSt) : (s.setPower x).shuttle = s.shuttle := (rfl)
@[simp] theorem State.setPower_osc (s : State) (x : PowerSt) : (s.setPower x).osc = s.osc := (rfl)
@[simp] theorem State.setPower_isle (s : State) (x : PowerSt) : (s.setPower x).isle = s.isle := (rfl)
@[simp] theorem State.setPower_energy (s : State) (x : PowerSt) : (s.setPower x).energy = s.energy := (rfl)
@[simp] theorem State.setPower_saves (s : State) (x : PowerSt) : (s.setPower x).saves = s.saves := (rfl)
@[simp] theorem State.setPower_clock (s : State) (x : PowerSt) : (s.setPower x).clock = s.clock := (rfl)
@[simp] theorem State.setPower_ageing (s : State) (x : PowerSt) : (s.setPower x).ageing = s.ageing := (rfl)
@[simp] theorem State.setPower_host (s : State) (x : PowerSt) : (s.setPower x).host = s.host := (rfl)
@[simp] theorem State.setPower_keyHashes (s : State) (x : PowerSt) : (s.setPower x).keyHashes = s.keyHashes := (rfl)
@[simp] theorem State.setQueues_pending (s : State) (x : SMap QueueSt) : (s.setQueues x).pending = s.pending := (rfl)
@[simp] theorem State.setQueues_held (s : State) (x : SMap QueueSt) : (s.setQueues x).held = s.held := (rfl)
@[simp] theorem State.setQueues_boot (s : State) (x : SMap QueueSt) : (s.setQueues x).boot = s.boot := (rfl)
@[simp] theorem State.setQueues_bases (s : State) (x : SMap QueueSt) : (s.setQueues x).bases = s.bases := (rfl)
@[simp] theorem State.setQueues_regs (s : State) (x : SMap QueueSt) : (s.setQueues x).regs = s.regs := (rfl)
@[simp] theorem State.setQueues_snaps (s : State) (x : SMap QueueSt) : (s.setQueues x).snaps = s.snaps := (rfl)
@[simp] theorem State.setQueues_irq (s : State) (x : SMap QueueSt) : (s.setQueues x).irq = s.irq := (rfl)
@[simp] theorem State.setQueues_ledger (s : State) (x : SMap QueueSt) : (s.setQueues x).ledger = s.ledger := (rfl)
@[simp] theorem State.setQueues_draft (s : State) (x : SMap QueueSt) : (s.setQueues x).draft = s.draft := (rfl)
@[simp] theorem State.setQueues_archive (s : State) (x : SMap QueueSt) : (s.setQueues x).archive = s.archive := (rfl)
@[simp] theorem State.setQueues_stk (s : State) (x : SMap QueueSt) : (s.setQueues x).stk = s.stk := (rfl)
@[simp] theorem State.setQueues_out (s : State) (x : SMap QueueSt) : (s.setQueues x).out = s.out := (rfl)
@[simp] theorem State.setQueues_freeCount (s : State) (x : SMap QueueSt) : (s.setQueues x).freeCount = s.freeCount := (rfl)
@[simp] theorem State.setQueues_time (s : State) (x : SMap QueueSt) : (s.setQueues x).time = s.time := (rfl)
@[simp] theorem State.setQueues_vote (s : State) (x : SMap QueueSt) : (s.setQueues x).vote = s.vote := (rfl)
@[simp] theorem State.setQueues_fault (s : State) (x : SMap QueueSt) : (s.setQueues x).fault = s.fault := (rfl)
@[simp] theorem State.setQueues_pair (s : State) (x : SMap QueueSt) : (s.setQueues x).pair = s.pair := (rfl)
@[simp] theorem State.setQueues_power (s : State) (x : SMap QueueSt) : (s.setQueues x).power = s.power := (rfl)
@[simp] theorem State.setQueues_queues (s : State) (x : SMap QueueSt) : (s.setQueues x).queues = x := (rfl)
@[simp] theorem State.setQueues_port (s : State) (x : SMap QueueSt) : (s.setQueues x).port = s.port := (rfl)
@[simp] theorem State.setQueues_hedQ (s : State) (x : SMap QueueSt) : (s.setQueues x).hedQ = s.hedQ := (rfl)
@[simp] theorem State.setQueues_heddle (s : State) (x : SMap QueueSt) : (s.setQueues x).heddle = s.heddle := (rfl)
@[simp] theorem State.setQueues_reedQ (s : State) (x : SMap QueueSt) : (s.setQueues x).reedQ = s.reedQ := (rfl)
@[simp] theorem State.setQueues_waveQ (s : State) (x : SMap QueueSt) : (s.setQueues x).waveQ = s.waveQ := (rfl)
@[simp] theorem State.setQueues_inputQ (s : State) (x : SMap QueueSt) : (s.setQueues x).inputQ = s.inputQ := (rfl)
@[simp] theorem State.setQueues_reed (s : State) (x : SMap QueueSt) : (s.setQueues x).reed = s.reed := (rfl)
@[simp] theorem State.setQueues_loomQ (s : State) (x : SMap QueueSt) : (s.setQueues x).loomQ = s.loomQ := (rfl)
@[simp] theorem State.setQueues_loom (s : State) (x : SMap QueueSt) : (s.setQueues x).loom = s.loom := (rfl)
@[simp] theorem State.setQueues_slv (s : State) (x : SMap QueueSt) : (s.setQueues x).slv = s.slv := (rfl)
@[simp] theorem State.setQueues_capt (s : State) (x : SMap QueueSt) : (s.setQueues x).capt = s.capt := (rfl)
@[simp] theorem State.setQueues_shuttle (s : State) (x : SMap QueueSt) : (s.setQueues x).shuttle = s.shuttle := (rfl)
@[simp] theorem State.setQueues_osc (s : State) (x : SMap QueueSt) : (s.setQueues x).osc = s.osc := (rfl)
@[simp] theorem State.setQueues_isle (s : State) (x : SMap QueueSt) : (s.setQueues x).isle = s.isle := (rfl)
@[simp] theorem State.setQueues_energy (s : State) (x : SMap QueueSt) : (s.setQueues x).energy = s.energy := (rfl)
@[simp] theorem State.setQueues_saves (s : State) (x : SMap QueueSt) : (s.setQueues x).saves = s.saves := (rfl)
@[simp] theorem State.setQueues_clock (s : State) (x : SMap QueueSt) : (s.setQueues x).clock = s.clock := (rfl)
@[simp] theorem State.setQueues_ageing (s : State) (x : SMap QueueSt) : (s.setQueues x).ageing = s.ageing := (rfl)
@[simp] theorem State.setQueues_host (s : State) (x : SMap QueueSt) : (s.setQueues x).host = s.host := (rfl)
@[simp] theorem State.setQueues_keyHashes (s : State) (x : SMap QueueSt) : (s.setQueues x).keyHashes = s.keyHashes := (rfl)
@[simp] theorem State.setPort_pending (s : State) (x : PortSt) : (s.setPort x).pending = s.pending := (rfl)
@[simp] theorem State.setPort_held (s : State) (x : PortSt) : (s.setPort x).held = s.held := (rfl)
@[simp] theorem State.setPort_boot (s : State) (x : PortSt) : (s.setPort x).boot = s.boot := (rfl)
@[simp] theorem State.setPort_bases (s : State) (x : PortSt) : (s.setPort x).bases = s.bases := (rfl)
@[simp] theorem State.setPort_regs (s : State) (x : PortSt) : (s.setPort x).regs = s.regs := (rfl)
@[simp] theorem State.setPort_snaps (s : State) (x : PortSt) : (s.setPort x).snaps = s.snaps := (rfl)
@[simp] theorem State.setPort_irq (s : State) (x : PortSt) : (s.setPort x).irq = s.irq := (rfl)
@[simp] theorem State.setPort_ledger (s : State) (x : PortSt) : (s.setPort x).ledger = s.ledger := (rfl)
@[simp] theorem State.setPort_draft (s : State) (x : PortSt) : (s.setPort x).draft = s.draft := (rfl)
@[simp] theorem State.setPort_archive (s : State) (x : PortSt) : (s.setPort x).archive = s.archive := (rfl)
@[simp] theorem State.setPort_stk (s : State) (x : PortSt) : (s.setPort x).stk = s.stk := (rfl)
@[simp] theorem State.setPort_out (s : State) (x : PortSt) : (s.setPort x).out = s.out := (rfl)
@[simp] theorem State.setPort_freeCount (s : State) (x : PortSt) : (s.setPort x).freeCount = s.freeCount := (rfl)
@[simp] theorem State.setPort_time (s : State) (x : PortSt) : (s.setPort x).time = s.time := (rfl)
@[simp] theorem State.setPort_vote (s : State) (x : PortSt) : (s.setPort x).vote = s.vote := (rfl)
@[simp] theorem State.setPort_fault (s : State) (x : PortSt) : (s.setPort x).fault = s.fault := (rfl)
@[simp] theorem State.setPort_pair (s : State) (x : PortSt) : (s.setPort x).pair = s.pair := (rfl)
@[simp] theorem State.setPort_power (s : State) (x : PortSt) : (s.setPort x).power = s.power := (rfl)
@[simp] theorem State.setPort_queues (s : State) (x : PortSt) : (s.setPort x).queues = s.queues := (rfl)
@[simp] theorem State.setPort_port (s : State) (x : PortSt) : (s.setPort x).port = x := (rfl)
@[simp] theorem State.setPort_hedQ (s : State) (x : PortSt) : (s.setPort x).hedQ = s.hedQ := (rfl)
@[simp] theorem State.setPort_heddle (s : State) (x : PortSt) : (s.setPort x).heddle = s.heddle := (rfl)
@[simp] theorem State.setPort_reedQ (s : State) (x : PortSt) : (s.setPort x).reedQ = s.reedQ := (rfl)
@[simp] theorem State.setPort_waveQ (s : State) (x : PortSt) : (s.setPort x).waveQ = s.waveQ := (rfl)
@[simp] theorem State.setPort_inputQ (s : State) (x : PortSt) : (s.setPort x).inputQ = s.inputQ := (rfl)
@[simp] theorem State.setPort_reed (s : State) (x : PortSt) : (s.setPort x).reed = s.reed := (rfl)
@[simp] theorem State.setPort_loomQ (s : State) (x : PortSt) : (s.setPort x).loomQ = s.loomQ := (rfl)
@[simp] theorem State.setPort_loom (s : State) (x : PortSt) : (s.setPort x).loom = s.loom := (rfl)
@[simp] theorem State.setPort_slv (s : State) (x : PortSt) : (s.setPort x).slv = s.slv := (rfl)
@[simp] theorem State.setPort_capt (s : State) (x : PortSt) : (s.setPort x).capt = s.capt := (rfl)
@[simp] theorem State.setPort_shuttle (s : State) (x : PortSt) : (s.setPort x).shuttle = s.shuttle := (rfl)
@[simp] theorem State.setPort_osc (s : State) (x : PortSt) : (s.setPort x).osc = s.osc := (rfl)
@[simp] theorem State.setPort_isle (s : State) (x : PortSt) : (s.setPort x).isle = s.isle := (rfl)
@[simp] theorem State.setPort_energy (s : State) (x : PortSt) : (s.setPort x).energy = s.energy := (rfl)
@[simp] theorem State.setPort_saves (s : State) (x : PortSt) : (s.setPort x).saves = s.saves := (rfl)
@[simp] theorem State.setPort_clock (s : State) (x : PortSt) : (s.setPort x).clock = s.clock := (rfl)
@[simp] theorem State.setPort_ageing (s : State) (x : PortSt) : (s.setPort x).ageing = s.ageing := (rfl)
@[simp] theorem State.setPort_host (s : State) (x : PortSt) : (s.setPort x).host = s.host := (rfl)
@[simp] theorem State.setPort_keyHashes (s : State) (x : PortSt) : (s.setPort x).keyHashes = s.keyHashes := (rfl)
@[simp] theorem State.setHedQ_pending (s : State) (x : List HedFrame) : (s.setHedQ x).pending = s.pending := (rfl)
@[simp] theorem State.setHedQ_held (s : State) (x : List HedFrame) : (s.setHedQ x).held = s.held := (rfl)
@[simp] theorem State.setHedQ_boot (s : State) (x : List HedFrame) : (s.setHedQ x).boot = s.boot := (rfl)
@[simp] theorem State.setHedQ_bases (s : State) (x : List HedFrame) : (s.setHedQ x).bases = s.bases := (rfl)
@[simp] theorem State.setHedQ_regs (s : State) (x : List HedFrame) : (s.setHedQ x).regs = s.regs := (rfl)
@[simp] theorem State.setHedQ_snaps (s : State) (x : List HedFrame) : (s.setHedQ x).snaps = s.snaps := (rfl)
@[simp] theorem State.setHedQ_irq (s : State) (x : List HedFrame) : (s.setHedQ x).irq = s.irq := (rfl)
@[simp] theorem State.setHedQ_ledger (s : State) (x : List HedFrame) : (s.setHedQ x).ledger = s.ledger := (rfl)
@[simp] theorem State.setHedQ_draft (s : State) (x : List HedFrame) : (s.setHedQ x).draft = s.draft := (rfl)
@[simp] theorem State.setHedQ_archive (s : State) (x : List HedFrame) : (s.setHedQ x).archive = s.archive := (rfl)
@[simp] theorem State.setHedQ_stk (s : State) (x : List HedFrame) : (s.setHedQ x).stk = s.stk := (rfl)
@[simp] theorem State.setHedQ_out (s : State) (x : List HedFrame) : (s.setHedQ x).out = s.out := (rfl)
@[simp] theorem State.setHedQ_freeCount (s : State) (x : List HedFrame) : (s.setHedQ x).freeCount = s.freeCount := (rfl)
@[simp] theorem State.setHedQ_time (s : State) (x : List HedFrame) : (s.setHedQ x).time = s.time := (rfl)
@[simp] theorem State.setHedQ_vote (s : State) (x : List HedFrame) : (s.setHedQ x).vote = s.vote := (rfl)
@[simp] theorem State.setHedQ_fault (s : State) (x : List HedFrame) : (s.setHedQ x).fault = s.fault := (rfl)
@[simp] theorem State.setHedQ_pair (s : State) (x : List HedFrame) : (s.setHedQ x).pair = s.pair := (rfl)
@[simp] theorem State.setHedQ_power (s : State) (x : List HedFrame) : (s.setHedQ x).power = s.power := (rfl)
@[simp] theorem State.setHedQ_queues (s : State) (x : List HedFrame) : (s.setHedQ x).queues = s.queues := (rfl)
@[simp] theorem State.setHedQ_port (s : State) (x : List HedFrame) : (s.setHedQ x).port = s.port := (rfl)
@[simp] theorem State.setHedQ_hedQ (s : State) (x : List HedFrame) : (s.setHedQ x).hedQ = x := (rfl)
@[simp] theorem State.setHedQ_heddle (s : State) (x : List HedFrame) : (s.setHedQ x).heddle = s.heddle := (rfl)
@[simp] theorem State.setHedQ_reedQ (s : State) (x : List HedFrame) : (s.setHedQ x).reedQ = s.reedQ := (rfl)
@[simp] theorem State.setHedQ_waveQ (s : State) (x : List HedFrame) : (s.setHedQ x).waveQ = s.waveQ := (rfl)
@[simp] theorem State.setHedQ_inputQ (s : State) (x : List HedFrame) : (s.setHedQ x).inputQ = s.inputQ := (rfl)
@[simp] theorem State.setHedQ_reed (s : State) (x : List HedFrame) : (s.setHedQ x).reed = s.reed := (rfl)
@[simp] theorem State.setHedQ_loomQ (s : State) (x : List HedFrame) : (s.setHedQ x).loomQ = s.loomQ := (rfl)
@[simp] theorem State.setHedQ_loom (s : State) (x : List HedFrame) : (s.setHedQ x).loom = s.loom := (rfl)
@[simp] theorem State.setHedQ_slv (s : State) (x : List HedFrame) : (s.setHedQ x).slv = s.slv := (rfl)
@[simp] theorem State.setHedQ_capt (s : State) (x : List HedFrame) : (s.setHedQ x).capt = s.capt := (rfl)
@[simp] theorem State.setHedQ_shuttle (s : State) (x : List HedFrame) : (s.setHedQ x).shuttle = s.shuttle := (rfl)
@[simp] theorem State.setHedQ_osc (s : State) (x : List HedFrame) : (s.setHedQ x).osc = s.osc := (rfl)
@[simp] theorem State.setHedQ_isle (s : State) (x : List HedFrame) : (s.setHedQ x).isle = s.isle := (rfl)
@[simp] theorem State.setHedQ_energy (s : State) (x : List HedFrame) : (s.setHedQ x).energy = s.energy := (rfl)
@[simp] theorem State.setHedQ_saves (s : State) (x : List HedFrame) : (s.setHedQ x).saves = s.saves := (rfl)
@[simp] theorem State.setHedQ_clock (s : State) (x : List HedFrame) : (s.setHedQ x).clock = s.clock := (rfl)
@[simp] theorem State.setHedQ_ageing (s : State) (x : List HedFrame) : (s.setHedQ x).ageing = s.ageing := (rfl)
@[simp] theorem State.setHedQ_host (s : State) (x : List HedFrame) : (s.setHedQ x).host = s.host := (rfl)
@[simp] theorem State.setHedQ_keyHashes (s : State) (x : List HedFrame) : (s.setHedQ x).keyHashes = s.keyHashes := (rfl)
@[simp] theorem State.setHeddle_pending (s : State) (x : HeddleSt) : (s.setHeddle x).pending = s.pending := (rfl)
@[simp] theorem State.setHeddle_held (s : State) (x : HeddleSt) : (s.setHeddle x).held = s.held := (rfl)
@[simp] theorem State.setHeddle_boot (s : State) (x : HeddleSt) : (s.setHeddle x).boot = s.boot := (rfl)
@[simp] theorem State.setHeddle_bases (s : State) (x : HeddleSt) : (s.setHeddle x).bases = s.bases := (rfl)
@[simp] theorem State.setHeddle_regs (s : State) (x : HeddleSt) : (s.setHeddle x).regs = s.regs := (rfl)
@[simp] theorem State.setHeddle_snaps (s : State) (x : HeddleSt) : (s.setHeddle x).snaps = s.snaps := (rfl)
@[simp] theorem State.setHeddle_irq (s : State) (x : HeddleSt) : (s.setHeddle x).irq = s.irq := (rfl)
@[simp] theorem State.setHeddle_ledger (s : State) (x : HeddleSt) : (s.setHeddle x).ledger = s.ledger := (rfl)
@[simp] theorem State.setHeddle_draft (s : State) (x : HeddleSt) : (s.setHeddle x).draft = s.draft := (rfl)
@[simp] theorem State.setHeddle_archive (s : State) (x : HeddleSt) : (s.setHeddle x).archive = s.archive := (rfl)
@[simp] theorem State.setHeddle_stk (s : State) (x : HeddleSt) : (s.setHeddle x).stk = s.stk := (rfl)
@[simp] theorem State.setHeddle_out (s : State) (x : HeddleSt) : (s.setHeddle x).out = s.out := (rfl)
@[simp] theorem State.setHeddle_freeCount (s : State) (x : HeddleSt) : (s.setHeddle x).freeCount = s.freeCount := (rfl)
@[simp] theorem State.setHeddle_time (s : State) (x : HeddleSt) : (s.setHeddle x).time = s.time := (rfl)
@[simp] theorem State.setHeddle_vote (s : State) (x : HeddleSt) : (s.setHeddle x).vote = s.vote := (rfl)
@[simp] theorem State.setHeddle_fault (s : State) (x : HeddleSt) : (s.setHeddle x).fault = s.fault := (rfl)
@[simp] theorem State.setHeddle_pair (s : State) (x : HeddleSt) : (s.setHeddle x).pair = s.pair := (rfl)
@[simp] theorem State.setHeddle_power (s : State) (x : HeddleSt) : (s.setHeddle x).power = s.power := (rfl)
@[simp] theorem State.setHeddle_queues (s : State) (x : HeddleSt) : (s.setHeddle x).queues = s.queues := (rfl)
@[simp] theorem State.setHeddle_port (s : State) (x : HeddleSt) : (s.setHeddle x).port = s.port := (rfl)
@[simp] theorem State.setHeddle_hedQ (s : State) (x : HeddleSt) : (s.setHeddle x).hedQ = s.hedQ := (rfl)
@[simp] theorem State.setHeddle_heddle (s : State) (x : HeddleSt) : (s.setHeddle x).heddle = x := (rfl)
@[simp] theorem State.setHeddle_reedQ (s : State) (x : HeddleSt) : (s.setHeddle x).reedQ = s.reedQ := (rfl)
@[simp] theorem State.setHeddle_waveQ (s : State) (x : HeddleSt) : (s.setHeddle x).waveQ = s.waveQ := (rfl)
@[simp] theorem State.setHeddle_inputQ (s : State) (x : HeddleSt) : (s.setHeddle x).inputQ = s.inputQ := (rfl)
@[simp] theorem State.setHeddle_reed (s : State) (x : HeddleSt) : (s.setHeddle x).reed = s.reed := (rfl)
@[simp] theorem State.setHeddle_loomQ (s : State) (x : HeddleSt) : (s.setHeddle x).loomQ = s.loomQ := (rfl)
@[simp] theorem State.setHeddle_loom (s : State) (x : HeddleSt) : (s.setHeddle x).loom = s.loom := (rfl)
@[simp] theorem State.setHeddle_slv (s : State) (x : HeddleSt) : (s.setHeddle x).slv = s.slv := (rfl)
@[simp] theorem State.setHeddle_capt (s : State) (x : HeddleSt) : (s.setHeddle x).capt = s.capt := (rfl)
@[simp] theorem State.setHeddle_shuttle (s : State) (x : HeddleSt) : (s.setHeddle x).shuttle = s.shuttle := (rfl)
@[simp] theorem State.setHeddle_osc (s : State) (x : HeddleSt) : (s.setHeddle x).osc = s.osc := (rfl)
@[simp] theorem State.setHeddle_isle (s : State) (x : HeddleSt) : (s.setHeddle x).isle = s.isle := (rfl)
@[simp] theorem State.setHeddle_energy (s : State) (x : HeddleSt) : (s.setHeddle x).energy = s.energy := (rfl)
@[simp] theorem State.setHeddle_saves (s : State) (x : HeddleSt) : (s.setHeddle x).saves = s.saves := (rfl)
@[simp] theorem State.setHeddle_clock (s : State) (x : HeddleSt) : (s.setHeddle x).clock = s.clock := (rfl)
@[simp] theorem State.setHeddle_ageing (s : State) (x : HeddleSt) : (s.setHeddle x).ageing = s.ageing := (rfl)
@[simp] theorem State.setHeddle_host (s : State) (x : HeddleSt) : (s.setHeddle x).host = s.host := (rfl)
@[simp] theorem State.setHeddle_keyHashes (s : State) (x : HeddleSt) : (s.setHeddle x).keyHashes = s.keyHashes := (rfl)
@[simp] theorem State.setReedQ_pending (s : State) (x : List Item) : (s.setReedQ x).pending = s.pending := (rfl)
@[simp] theorem State.setReedQ_held (s : State) (x : List Item) : (s.setReedQ x).held = s.held := (rfl)
@[simp] theorem State.setReedQ_boot (s : State) (x : List Item) : (s.setReedQ x).boot = s.boot := (rfl)
@[simp] theorem State.setReedQ_bases (s : State) (x : List Item) : (s.setReedQ x).bases = s.bases := (rfl)
@[simp] theorem State.setReedQ_regs (s : State) (x : List Item) : (s.setReedQ x).regs = s.regs := (rfl)
@[simp] theorem State.setReedQ_snaps (s : State) (x : List Item) : (s.setReedQ x).snaps = s.snaps := (rfl)
@[simp] theorem State.setReedQ_irq (s : State) (x : List Item) : (s.setReedQ x).irq = s.irq := (rfl)
@[simp] theorem State.setReedQ_ledger (s : State) (x : List Item) : (s.setReedQ x).ledger = s.ledger := (rfl)
@[simp] theorem State.setReedQ_draft (s : State) (x : List Item) : (s.setReedQ x).draft = s.draft := (rfl)
@[simp] theorem State.setReedQ_archive (s : State) (x : List Item) : (s.setReedQ x).archive = s.archive := (rfl)
@[simp] theorem State.setReedQ_stk (s : State) (x : List Item) : (s.setReedQ x).stk = s.stk := (rfl)
@[simp] theorem State.setReedQ_out (s : State) (x : List Item) : (s.setReedQ x).out = s.out := (rfl)
@[simp] theorem State.setReedQ_freeCount (s : State) (x : List Item) : (s.setReedQ x).freeCount = s.freeCount := (rfl)
@[simp] theorem State.setReedQ_time (s : State) (x : List Item) : (s.setReedQ x).time = s.time := (rfl)
@[simp] theorem State.setReedQ_vote (s : State) (x : List Item) : (s.setReedQ x).vote = s.vote := (rfl)
@[simp] theorem State.setReedQ_fault (s : State) (x : List Item) : (s.setReedQ x).fault = s.fault := (rfl)
@[simp] theorem State.setReedQ_pair (s : State) (x : List Item) : (s.setReedQ x).pair = s.pair := (rfl)
@[simp] theorem State.setReedQ_power (s : State) (x : List Item) : (s.setReedQ x).power = s.power := (rfl)
@[simp] theorem State.setReedQ_queues (s : State) (x : List Item) : (s.setReedQ x).queues = s.queues := (rfl)
@[simp] theorem State.setReedQ_port (s : State) (x : List Item) : (s.setReedQ x).port = s.port := (rfl)
@[simp] theorem State.setReedQ_hedQ (s : State) (x : List Item) : (s.setReedQ x).hedQ = s.hedQ := (rfl)
@[simp] theorem State.setReedQ_heddle (s : State) (x : List Item) : (s.setReedQ x).heddle = s.heddle := (rfl)
@[simp] theorem State.setReedQ_reedQ (s : State) (x : List Item) : (s.setReedQ x).reedQ = x := (rfl)
@[simp] theorem State.setReedQ_waveQ (s : State) (x : List Item) : (s.setReedQ x).waveQ = s.waveQ := (rfl)
@[simp] theorem State.setReedQ_inputQ (s : State) (x : List Item) : (s.setReedQ x).inputQ = s.inputQ := (rfl)
@[simp] theorem State.setReedQ_reed (s : State) (x : List Item) : (s.setReedQ x).reed = s.reed := (rfl)
@[simp] theorem State.setReedQ_loomQ (s : State) (x : List Item) : (s.setReedQ x).loomQ = s.loomQ := (rfl)
@[simp] theorem State.setReedQ_loom (s : State) (x : List Item) : (s.setReedQ x).loom = s.loom := (rfl)
@[simp] theorem State.setReedQ_slv (s : State) (x : List Item) : (s.setReedQ x).slv = s.slv := (rfl)
@[simp] theorem State.setReedQ_capt (s : State) (x : List Item) : (s.setReedQ x).capt = s.capt := (rfl)
@[simp] theorem State.setReedQ_shuttle (s : State) (x : List Item) : (s.setReedQ x).shuttle = s.shuttle := (rfl)
@[simp] theorem State.setReedQ_osc (s : State) (x : List Item) : (s.setReedQ x).osc = s.osc := (rfl)
@[simp] theorem State.setReedQ_isle (s : State) (x : List Item) : (s.setReedQ x).isle = s.isle := (rfl)
@[simp] theorem State.setReedQ_energy (s : State) (x : List Item) : (s.setReedQ x).energy = s.energy := (rfl)
@[simp] theorem State.setReedQ_saves (s : State) (x : List Item) : (s.setReedQ x).saves = s.saves := (rfl)
@[simp] theorem State.setReedQ_clock (s : State) (x : List Item) : (s.setReedQ x).clock = s.clock := (rfl)
@[simp] theorem State.setReedQ_ageing (s : State) (x : List Item) : (s.setReedQ x).ageing = s.ageing := (rfl)
@[simp] theorem State.setReedQ_host (s : State) (x : List Item) : (s.setReedQ x).host = s.host := (rfl)
@[simp] theorem State.setReedQ_keyHashes (s : State) (x : List Item) : (s.setReedQ x).keyHashes = s.keyHashes := (rfl)
@[simp] theorem State.setWaveQ_pending (s : State) (x : List WaveSample) : (s.setWaveQ x).pending = s.pending := (rfl)
@[simp] theorem State.setWaveQ_held (s : State) (x : List WaveSample) : (s.setWaveQ x).held = s.held := (rfl)
@[simp] theorem State.setWaveQ_boot (s : State) (x : List WaveSample) : (s.setWaveQ x).boot = s.boot := (rfl)
@[simp] theorem State.setWaveQ_bases (s : State) (x : List WaveSample) : (s.setWaveQ x).bases = s.bases := (rfl)
@[simp] theorem State.setWaveQ_regs (s : State) (x : List WaveSample) : (s.setWaveQ x).regs = s.regs := (rfl)
@[simp] theorem State.setWaveQ_snaps (s : State) (x : List WaveSample) : (s.setWaveQ x).snaps = s.snaps := (rfl)
@[simp] theorem State.setWaveQ_irq (s : State) (x : List WaveSample) : (s.setWaveQ x).irq = s.irq := (rfl)
@[simp] theorem State.setWaveQ_ledger (s : State) (x : List WaveSample) : (s.setWaveQ x).ledger = s.ledger := (rfl)
@[simp] theorem State.setWaveQ_draft (s : State) (x : List WaveSample) : (s.setWaveQ x).draft = s.draft := (rfl)
@[simp] theorem State.setWaveQ_archive (s : State) (x : List WaveSample) : (s.setWaveQ x).archive = s.archive := (rfl)
@[simp] theorem State.setWaveQ_stk (s : State) (x : List WaveSample) : (s.setWaveQ x).stk = s.stk := (rfl)
@[simp] theorem State.setWaveQ_out (s : State) (x : List WaveSample) : (s.setWaveQ x).out = s.out := (rfl)
@[simp] theorem State.setWaveQ_freeCount (s : State) (x : List WaveSample) : (s.setWaveQ x).freeCount = s.freeCount := (rfl)
@[simp] theorem State.setWaveQ_time (s : State) (x : List WaveSample) : (s.setWaveQ x).time = s.time := (rfl)
@[simp] theorem State.setWaveQ_vote (s : State) (x : List WaveSample) : (s.setWaveQ x).vote = s.vote := (rfl)
@[simp] theorem State.setWaveQ_fault (s : State) (x : List WaveSample) : (s.setWaveQ x).fault = s.fault := (rfl)
@[simp] theorem State.setWaveQ_pair (s : State) (x : List WaveSample) : (s.setWaveQ x).pair = s.pair := (rfl)
@[simp] theorem State.setWaveQ_power (s : State) (x : List WaveSample) : (s.setWaveQ x).power = s.power := (rfl)
@[simp] theorem State.setWaveQ_queues (s : State) (x : List WaveSample) : (s.setWaveQ x).queues = s.queues := (rfl)
@[simp] theorem State.setWaveQ_port (s : State) (x : List WaveSample) : (s.setWaveQ x).port = s.port := (rfl)
@[simp] theorem State.setWaveQ_hedQ (s : State) (x : List WaveSample) : (s.setWaveQ x).hedQ = s.hedQ := (rfl)
@[simp] theorem State.setWaveQ_heddle (s : State) (x : List WaveSample) : (s.setWaveQ x).heddle = s.heddle := (rfl)
@[simp] theorem State.setWaveQ_reedQ (s : State) (x : List WaveSample) : (s.setWaveQ x).reedQ = s.reedQ := (rfl)
@[simp] theorem State.setWaveQ_waveQ (s : State) (x : List WaveSample) : (s.setWaveQ x).waveQ = x := (rfl)
@[simp] theorem State.setWaveQ_inputQ (s : State) (x : List WaveSample) : (s.setWaveQ x).inputQ = s.inputQ := (rfl)
@[simp] theorem State.setWaveQ_reed (s : State) (x : List WaveSample) : (s.setWaveQ x).reed = s.reed := (rfl)
@[simp] theorem State.setWaveQ_loomQ (s : State) (x : List WaveSample) : (s.setWaveQ x).loomQ = s.loomQ := (rfl)
@[simp] theorem State.setWaveQ_loom (s : State) (x : List WaveSample) : (s.setWaveQ x).loom = s.loom := (rfl)
@[simp] theorem State.setWaveQ_slv (s : State) (x : List WaveSample) : (s.setWaveQ x).slv = s.slv := (rfl)
@[simp] theorem State.setWaveQ_capt (s : State) (x : List WaveSample) : (s.setWaveQ x).capt = s.capt := (rfl)
@[simp] theorem State.setWaveQ_shuttle (s : State) (x : List WaveSample) : (s.setWaveQ x).shuttle = s.shuttle := (rfl)
@[simp] theorem State.setWaveQ_osc (s : State) (x : List WaveSample) : (s.setWaveQ x).osc = s.osc := (rfl)
@[simp] theorem State.setWaveQ_isle (s : State) (x : List WaveSample) : (s.setWaveQ x).isle = s.isle := (rfl)
@[simp] theorem State.setWaveQ_energy (s : State) (x : List WaveSample) : (s.setWaveQ x).energy = s.energy := (rfl)
@[simp] theorem State.setWaveQ_saves (s : State) (x : List WaveSample) : (s.setWaveQ x).saves = s.saves := (rfl)
@[simp] theorem State.setWaveQ_clock (s : State) (x : List WaveSample) : (s.setWaveQ x).clock = s.clock := (rfl)
@[simp] theorem State.setWaveQ_ageing (s : State) (x : List WaveSample) : (s.setWaveQ x).ageing = s.ageing := (rfl)
@[simp] theorem State.setWaveQ_host (s : State) (x : List WaveSample) : (s.setWaveQ x).host = s.host := (rfl)
@[simp] theorem State.setWaveQ_keyHashes (s : State) (x : List WaveSample) : (s.setWaveQ x).keyHashes = s.keyHashes := (rfl)
@[simp] theorem State.setInputQ_pending (s : State) (x : List InputEvent) : (s.setInputQ x).pending = s.pending := (rfl)
@[simp] theorem State.setInputQ_held (s : State) (x : List InputEvent) : (s.setInputQ x).held = s.held := (rfl)
@[simp] theorem State.setInputQ_boot (s : State) (x : List InputEvent) : (s.setInputQ x).boot = s.boot := (rfl)
@[simp] theorem State.setInputQ_bases (s : State) (x : List InputEvent) : (s.setInputQ x).bases = s.bases := (rfl)
@[simp] theorem State.setInputQ_regs (s : State) (x : List InputEvent) : (s.setInputQ x).regs = s.regs := (rfl)
@[simp] theorem State.setInputQ_snaps (s : State) (x : List InputEvent) : (s.setInputQ x).snaps = s.snaps := (rfl)
@[simp] theorem State.setInputQ_irq (s : State) (x : List InputEvent) : (s.setInputQ x).irq = s.irq := (rfl)
@[simp] theorem State.setInputQ_ledger (s : State) (x : List InputEvent) : (s.setInputQ x).ledger = s.ledger := (rfl)
@[simp] theorem State.setInputQ_draft (s : State) (x : List InputEvent) : (s.setInputQ x).draft = s.draft := (rfl)
@[simp] theorem State.setInputQ_archive (s : State) (x : List InputEvent) : (s.setInputQ x).archive = s.archive := (rfl)
@[simp] theorem State.setInputQ_stk (s : State) (x : List InputEvent) : (s.setInputQ x).stk = s.stk := (rfl)
@[simp] theorem State.setInputQ_out (s : State) (x : List InputEvent) : (s.setInputQ x).out = s.out := (rfl)
@[simp] theorem State.setInputQ_freeCount (s : State) (x : List InputEvent) : (s.setInputQ x).freeCount = s.freeCount := (rfl)
@[simp] theorem State.setInputQ_time (s : State) (x : List InputEvent) : (s.setInputQ x).time = s.time := (rfl)
@[simp] theorem State.setInputQ_vote (s : State) (x : List InputEvent) : (s.setInputQ x).vote = s.vote := (rfl)
@[simp] theorem State.setInputQ_fault (s : State) (x : List InputEvent) : (s.setInputQ x).fault = s.fault := (rfl)
@[simp] theorem State.setInputQ_pair (s : State) (x : List InputEvent) : (s.setInputQ x).pair = s.pair := (rfl)
@[simp] theorem State.setInputQ_power (s : State) (x : List InputEvent) : (s.setInputQ x).power = s.power := (rfl)
@[simp] theorem State.setInputQ_queues (s : State) (x : List InputEvent) : (s.setInputQ x).queues = s.queues := (rfl)
@[simp] theorem State.setInputQ_port (s : State) (x : List InputEvent) : (s.setInputQ x).port = s.port := (rfl)
@[simp] theorem State.setInputQ_hedQ (s : State) (x : List InputEvent) : (s.setInputQ x).hedQ = s.hedQ := (rfl)
@[simp] theorem State.setInputQ_heddle (s : State) (x : List InputEvent) : (s.setInputQ x).heddle = s.heddle := (rfl)
@[simp] theorem State.setInputQ_reedQ (s : State) (x : List InputEvent) : (s.setInputQ x).reedQ = s.reedQ := (rfl)
@[simp] theorem State.setInputQ_waveQ (s : State) (x : List InputEvent) : (s.setInputQ x).waveQ = s.waveQ := (rfl)
@[simp] theorem State.setInputQ_inputQ (s : State) (x : List InputEvent) : (s.setInputQ x).inputQ = x := (rfl)
@[simp] theorem State.setInputQ_reed (s : State) (x : List InputEvent) : (s.setInputQ x).reed = s.reed := (rfl)
@[simp] theorem State.setInputQ_loomQ (s : State) (x : List InputEvent) : (s.setInputQ x).loomQ = s.loomQ := (rfl)
@[simp] theorem State.setInputQ_loom (s : State) (x : List InputEvent) : (s.setInputQ x).loom = s.loom := (rfl)
@[simp] theorem State.setInputQ_slv (s : State) (x : List InputEvent) : (s.setInputQ x).slv = s.slv := (rfl)
@[simp] theorem State.setInputQ_capt (s : State) (x : List InputEvent) : (s.setInputQ x).capt = s.capt := (rfl)
@[simp] theorem State.setInputQ_shuttle (s : State) (x : List InputEvent) : (s.setInputQ x).shuttle = s.shuttle := (rfl)
@[simp] theorem State.setInputQ_osc (s : State) (x : List InputEvent) : (s.setInputQ x).osc = s.osc := (rfl)
@[simp] theorem State.setInputQ_isle (s : State) (x : List InputEvent) : (s.setInputQ x).isle = s.isle := (rfl)
@[simp] theorem State.setInputQ_energy (s : State) (x : List InputEvent) : (s.setInputQ x).energy = s.energy := (rfl)
@[simp] theorem State.setInputQ_saves (s : State) (x : List InputEvent) : (s.setInputQ x).saves = s.saves := (rfl)
@[simp] theorem State.setInputQ_clock (s : State) (x : List InputEvent) : (s.setInputQ x).clock = s.clock := (rfl)
@[simp] theorem State.setInputQ_ageing (s : State) (x : List InputEvent) : (s.setInputQ x).ageing = s.ageing := (rfl)
@[simp] theorem State.setInputQ_host (s : State) (x : List InputEvent) : (s.setInputQ x).host = s.host := (rfl)
@[simp] theorem State.setInputQ_keyHashes (s : State) (x : List InputEvent) : (s.setInputQ x).keyHashes = s.keyHashes := (rfl)
@[simp] theorem State.setReed_pending (s : State) (x : ReedSt) : (s.setReed x).pending = s.pending := (rfl)
@[simp] theorem State.setReed_held (s : State) (x : ReedSt) : (s.setReed x).held = s.held := (rfl)
@[simp] theorem State.setReed_boot (s : State) (x : ReedSt) : (s.setReed x).boot = s.boot := (rfl)
@[simp] theorem State.setReed_bases (s : State) (x : ReedSt) : (s.setReed x).bases = s.bases := (rfl)
@[simp] theorem State.setReed_regs (s : State) (x : ReedSt) : (s.setReed x).regs = s.regs := (rfl)
@[simp] theorem State.setReed_snaps (s : State) (x : ReedSt) : (s.setReed x).snaps = s.snaps := (rfl)
@[simp] theorem State.setReed_irq (s : State) (x : ReedSt) : (s.setReed x).irq = s.irq := (rfl)
@[simp] theorem State.setReed_ledger (s : State) (x : ReedSt) : (s.setReed x).ledger = s.ledger := (rfl)
@[simp] theorem State.setReed_draft (s : State) (x : ReedSt) : (s.setReed x).draft = s.draft := (rfl)
@[simp] theorem State.setReed_archive (s : State) (x : ReedSt) : (s.setReed x).archive = s.archive := (rfl)
@[simp] theorem State.setReed_stk (s : State) (x : ReedSt) : (s.setReed x).stk = s.stk := (rfl)
@[simp] theorem State.setReed_out (s : State) (x : ReedSt) : (s.setReed x).out = s.out := (rfl)
@[simp] theorem State.setReed_freeCount (s : State) (x : ReedSt) : (s.setReed x).freeCount = s.freeCount := (rfl)
@[simp] theorem State.setReed_time (s : State) (x : ReedSt) : (s.setReed x).time = s.time := (rfl)
@[simp] theorem State.setReed_vote (s : State) (x : ReedSt) : (s.setReed x).vote = s.vote := (rfl)
@[simp] theorem State.setReed_fault (s : State) (x : ReedSt) : (s.setReed x).fault = s.fault := (rfl)
@[simp] theorem State.setReed_pair (s : State) (x : ReedSt) : (s.setReed x).pair = s.pair := (rfl)
@[simp] theorem State.setReed_power (s : State) (x : ReedSt) : (s.setReed x).power = s.power := (rfl)
@[simp] theorem State.setReed_queues (s : State) (x : ReedSt) : (s.setReed x).queues = s.queues := (rfl)
@[simp] theorem State.setReed_port (s : State) (x : ReedSt) : (s.setReed x).port = s.port := (rfl)
@[simp] theorem State.setReed_hedQ (s : State) (x : ReedSt) : (s.setReed x).hedQ = s.hedQ := (rfl)
@[simp] theorem State.setReed_heddle (s : State) (x : ReedSt) : (s.setReed x).heddle = s.heddle := (rfl)
@[simp] theorem State.setReed_reedQ (s : State) (x : ReedSt) : (s.setReed x).reedQ = s.reedQ := (rfl)
@[simp] theorem State.setReed_waveQ (s : State) (x : ReedSt) : (s.setReed x).waveQ = s.waveQ := (rfl)
@[simp] theorem State.setReed_inputQ (s : State) (x : ReedSt) : (s.setReed x).inputQ = s.inputQ := (rfl)
@[simp] theorem State.setReed_reed (s : State) (x : ReedSt) : (s.setReed x).reed = x := (rfl)
@[simp] theorem State.setReed_loomQ (s : State) (x : ReedSt) : (s.setReed x).loomQ = s.loomQ := (rfl)
@[simp] theorem State.setReed_loom (s : State) (x : ReedSt) : (s.setReed x).loom = s.loom := (rfl)
@[simp] theorem State.setReed_slv (s : State) (x : ReedSt) : (s.setReed x).slv = s.slv := (rfl)
@[simp] theorem State.setReed_capt (s : State) (x : ReedSt) : (s.setReed x).capt = s.capt := (rfl)
@[simp] theorem State.setReed_shuttle (s : State) (x : ReedSt) : (s.setReed x).shuttle = s.shuttle := (rfl)
@[simp] theorem State.setReed_osc (s : State) (x : ReedSt) : (s.setReed x).osc = s.osc := (rfl)
@[simp] theorem State.setReed_isle (s : State) (x : ReedSt) : (s.setReed x).isle = s.isle := (rfl)
@[simp] theorem State.setReed_energy (s : State) (x : ReedSt) : (s.setReed x).energy = s.energy := (rfl)
@[simp] theorem State.setReed_saves (s : State) (x : ReedSt) : (s.setReed x).saves = s.saves := (rfl)
@[simp] theorem State.setReed_clock (s : State) (x : ReedSt) : (s.setReed x).clock = s.clock := (rfl)
@[simp] theorem State.setReed_ageing (s : State) (x : ReedSt) : (s.setReed x).ageing = s.ageing := (rfl)
@[simp] theorem State.setReed_host (s : State) (x : ReedSt) : (s.setReed x).host = s.host := (rfl)
@[simp] theorem State.setReed_keyHashes (s : State) (x : ReedSt) : (s.setReed x).keyHashes = s.keyHashes := (rfl)
@[simp] theorem State.setLoomQ_pending (s : State) (x : List Item) : (s.setLoomQ x).pending = s.pending := (rfl)
@[simp] theorem State.setLoomQ_held (s : State) (x : List Item) : (s.setLoomQ x).held = s.held := (rfl)
@[simp] theorem State.setLoomQ_boot (s : State) (x : List Item) : (s.setLoomQ x).boot = s.boot := (rfl)
@[simp] theorem State.setLoomQ_bases (s : State) (x : List Item) : (s.setLoomQ x).bases = s.bases := (rfl)
@[simp] theorem State.setLoomQ_regs (s : State) (x : List Item) : (s.setLoomQ x).regs = s.regs := (rfl)
@[simp] theorem State.setLoomQ_snaps (s : State) (x : List Item) : (s.setLoomQ x).snaps = s.snaps := (rfl)
@[simp] theorem State.setLoomQ_irq (s : State) (x : List Item) : (s.setLoomQ x).irq = s.irq := (rfl)
@[simp] theorem State.setLoomQ_ledger (s : State) (x : List Item) : (s.setLoomQ x).ledger = s.ledger := (rfl)
@[simp] theorem State.setLoomQ_draft (s : State) (x : List Item) : (s.setLoomQ x).draft = s.draft := (rfl)
@[simp] theorem State.setLoomQ_archive (s : State) (x : List Item) : (s.setLoomQ x).archive = s.archive := (rfl)
@[simp] theorem State.setLoomQ_stk (s : State) (x : List Item) : (s.setLoomQ x).stk = s.stk := (rfl)
@[simp] theorem State.setLoomQ_out (s : State) (x : List Item) : (s.setLoomQ x).out = s.out := (rfl)
@[simp] theorem State.setLoomQ_freeCount (s : State) (x : List Item) : (s.setLoomQ x).freeCount = s.freeCount := (rfl)
@[simp] theorem State.setLoomQ_time (s : State) (x : List Item) : (s.setLoomQ x).time = s.time := (rfl)
@[simp] theorem State.setLoomQ_vote (s : State) (x : List Item) : (s.setLoomQ x).vote = s.vote := (rfl)
@[simp] theorem State.setLoomQ_fault (s : State) (x : List Item) : (s.setLoomQ x).fault = s.fault := (rfl)
@[simp] theorem State.setLoomQ_pair (s : State) (x : List Item) : (s.setLoomQ x).pair = s.pair := (rfl)
@[simp] theorem State.setLoomQ_power (s : State) (x : List Item) : (s.setLoomQ x).power = s.power := (rfl)
@[simp] theorem State.setLoomQ_queues (s : State) (x : List Item) : (s.setLoomQ x).queues = s.queues := (rfl)
@[simp] theorem State.setLoomQ_port (s : State) (x : List Item) : (s.setLoomQ x).port = s.port := (rfl)
@[simp] theorem State.setLoomQ_hedQ (s : State) (x : List Item) : (s.setLoomQ x).hedQ = s.hedQ := (rfl)
@[simp] theorem State.setLoomQ_heddle (s : State) (x : List Item) : (s.setLoomQ x).heddle = s.heddle := (rfl)
@[simp] theorem State.setLoomQ_reedQ (s : State) (x : List Item) : (s.setLoomQ x).reedQ = s.reedQ := (rfl)
@[simp] theorem State.setLoomQ_waveQ (s : State) (x : List Item) : (s.setLoomQ x).waveQ = s.waveQ := (rfl)
@[simp] theorem State.setLoomQ_inputQ (s : State) (x : List Item) : (s.setLoomQ x).inputQ = s.inputQ := (rfl)
@[simp] theorem State.setLoomQ_reed (s : State) (x : List Item) : (s.setLoomQ x).reed = s.reed := (rfl)
@[simp] theorem State.setLoomQ_loomQ (s : State) (x : List Item) : (s.setLoomQ x).loomQ = x := (rfl)
@[simp] theorem State.setLoomQ_loom (s : State) (x : List Item) : (s.setLoomQ x).loom = s.loom := (rfl)
@[simp] theorem State.setLoomQ_slv (s : State) (x : List Item) : (s.setLoomQ x).slv = s.slv := (rfl)
@[simp] theorem State.setLoomQ_capt (s : State) (x : List Item) : (s.setLoomQ x).capt = s.capt := (rfl)
@[simp] theorem State.setLoomQ_shuttle (s : State) (x : List Item) : (s.setLoomQ x).shuttle = s.shuttle := (rfl)
@[simp] theorem State.setLoomQ_osc (s : State) (x : List Item) : (s.setLoomQ x).osc = s.osc := (rfl)
@[simp] theorem State.setLoomQ_isle (s : State) (x : List Item) : (s.setLoomQ x).isle = s.isle := (rfl)
@[simp] theorem State.setLoomQ_energy (s : State) (x : List Item) : (s.setLoomQ x).energy = s.energy := (rfl)
@[simp] theorem State.setLoomQ_saves (s : State) (x : List Item) : (s.setLoomQ x).saves = s.saves := (rfl)
@[simp] theorem State.setLoomQ_clock (s : State) (x : List Item) : (s.setLoomQ x).clock = s.clock := (rfl)
@[simp] theorem State.setLoomQ_ageing (s : State) (x : List Item) : (s.setLoomQ x).ageing = s.ageing := (rfl)
@[simp] theorem State.setLoomQ_host (s : State) (x : List Item) : (s.setLoomQ x).host = s.host := (rfl)
@[simp] theorem State.setLoomQ_keyHashes (s : State) (x : List Item) : (s.setLoomQ x).keyHashes = s.keyHashes := (rfl)
@[simp] theorem State.setLoom_pending (s : State) (x : LoomSt) : (s.setLoom x).pending = s.pending := (rfl)
@[simp] theorem State.setLoom_held (s : State) (x : LoomSt) : (s.setLoom x).held = s.held := (rfl)
@[simp] theorem State.setLoom_boot (s : State) (x : LoomSt) : (s.setLoom x).boot = s.boot := (rfl)
@[simp] theorem State.setLoom_bases (s : State) (x : LoomSt) : (s.setLoom x).bases = s.bases := (rfl)
@[simp] theorem State.setLoom_regs (s : State) (x : LoomSt) : (s.setLoom x).regs = s.regs := (rfl)
@[simp] theorem State.setLoom_snaps (s : State) (x : LoomSt) : (s.setLoom x).snaps = s.snaps := (rfl)
@[simp] theorem State.setLoom_irq (s : State) (x : LoomSt) : (s.setLoom x).irq = s.irq := (rfl)
@[simp] theorem State.setLoom_ledger (s : State) (x : LoomSt) : (s.setLoom x).ledger = s.ledger := (rfl)
@[simp] theorem State.setLoom_draft (s : State) (x : LoomSt) : (s.setLoom x).draft = s.draft := (rfl)
@[simp] theorem State.setLoom_archive (s : State) (x : LoomSt) : (s.setLoom x).archive = s.archive := (rfl)
@[simp] theorem State.setLoom_stk (s : State) (x : LoomSt) : (s.setLoom x).stk = s.stk := (rfl)
@[simp] theorem State.setLoom_out (s : State) (x : LoomSt) : (s.setLoom x).out = s.out := (rfl)
@[simp] theorem State.setLoom_freeCount (s : State) (x : LoomSt) : (s.setLoom x).freeCount = s.freeCount := (rfl)
@[simp] theorem State.setLoom_time (s : State) (x : LoomSt) : (s.setLoom x).time = s.time := (rfl)
@[simp] theorem State.setLoom_vote (s : State) (x : LoomSt) : (s.setLoom x).vote = s.vote := (rfl)
@[simp] theorem State.setLoom_fault (s : State) (x : LoomSt) : (s.setLoom x).fault = s.fault := (rfl)
@[simp] theorem State.setLoom_pair (s : State) (x : LoomSt) : (s.setLoom x).pair = s.pair := (rfl)
@[simp] theorem State.setLoom_power (s : State) (x : LoomSt) : (s.setLoom x).power = s.power := (rfl)
@[simp] theorem State.setLoom_queues (s : State) (x : LoomSt) : (s.setLoom x).queues = s.queues := (rfl)
@[simp] theorem State.setLoom_port (s : State) (x : LoomSt) : (s.setLoom x).port = s.port := (rfl)
@[simp] theorem State.setLoom_hedQ (s : State) (x : LoomSt) : (s.setLoom x).hedQ = s.hedQ := (rfl)
@[simp] theorem State.setLoom_heddle (s : State) (x : LoomSt) : (s.setLoom x).heddle = s.heddle := (rfl)
@[simp] theorem State.setLoom_reedQ (s : State) (x : LoomSt) : (s.setLoom x).reedQ = s.reedQ := (rfl)
@[simp] theorem State.setLoom_waveQ (s : State) (x : LoomSt) : (s.setLoom x).waveQ = s.waveQ := (rfl)
@[simp] theorem State.setLoom_inputQ (s : State) (x : LoomSt) : (s.setLoom x).inputQ = s.inputQ := (rfl)
@[simp] theorem State.setLoom_reed (s : State) (x : LoomSt) : (s.setLoom x).reed = s.reed := (rfl)
@[simp] theorem State.setLoom_loomQ (s : State) (x : LoomSt) : (s.setLoom x).loomQ = s.loomQ := (rfl)
@[simp] theorem State.setLoom_loom (s : State) (x : LoomSt) : (s.setLoom x).loom = x := (rfl)
@[simp] theorem State.setLoom_slv (s : State) (x : LoomSt) : (s.setLoom x).slv = s.slv := (rfl)
@[simp] theorem State.setLoom_capt (s : State) (x : LoomSt) : (s.setLoom x).capt = s.capt := (rfl)
@[simp] theorem State.setLoom_shuttle (s : State) (x : LoomSt) : (s.setLoom x).shuttle = s.shuttle := (rfl)
@[simp] theorem State.setLoom_osc (s : State) (x : LoomSt) : (s.setLoom x).osc = s.osc := (rfl)
@[simp] theorem State.setLoom_isle (s : State) (x : LoomSt) : (s.setLoom x).isle = s.isle := (rfl)
@[simp] theorem State.setLoom_energy (s : State) (x : LoomSt) : (s.setLoom x).energy = s.energy := (rfl)
@[simp] theorem State.setLoom_saves (s : State) (x : LoomSt) : (s.setLoom x).saves = s.saves := (rfl)
@[simp] theorem State.setLoom_clock (s : State) (x : LoomSt) : (s.setLoom x).clock = s.clock := (rfl)
@[simp] theorem State.setLoom_ageing (s : State) (x : LoomSt) : (s.setLoom x).ageing = s.ageing := (rfl)
@[simp] theorem State.setLoom_host (s : State) (x : LoomSt) : (s.setLoom x).host = s.host := (rfl)
@[simp] theorem State.setLoom_keyHashes (s : State) (x : LoomSt) : (s.setLoom x).keyHashes = s.keyHashes := (rfl)
@[simp] theorem State.setSlv_pending (s : State) (x : SlvSt) : (s.setSlv x).pending = s.pending := (rfl)
@[simp] theorem State.setSlv_held (s : State) (x : SlvSt) : (s.setSlv x).held = s.held := (rfl)
@[simp] theorem State.setSlv_boot (s : State) (x : SlvSt) : (s.setSlv x).boot = s.boot := (rfl)
@[simp] theorem State.setSlv_bases (s : State) (x : SlvSt) : (s.setSlv x).bases = s.bases := (rfl)
@[simp] theorem State.setSlv_regs (s : State) (x : SlvSt) : (s.setSlv x).regs = s.regs := (rfl)
@[simp] theorem State.setSlv_snaps (s : State) (x : SlvSt) : (s.setSlv x).snaps = s.snaps := (rfl)
@[simp] theorem State.setSlv_irq (s : State) (x : SlvSt) : (s.setSlv x).irq = s.irq := (rfl)
@[simp] theorem State.setSlv_ledger (s : State) (x : SlvSt) : (s.setSlv x).ledger = s.ledger := (rfl)
@[simp] theorem State.setSlv_draft (s : State) (x : SlvSt) : (s.setSlv x).draft = s.draft := (rfl)
@[simp] theorem State.setSlv_archive (s : State) (x : SlvSt) : (s.setSlv x).archive = s.archive := (rfl)
@[simp] theorem State.setSlv_stk (s : State) (x : SlvSt) : (s.setSlv x).stk = s.stk := (rfl)
@[simp] theorem State.setSlv_out (s : State) (x : SlvSt) : (s.setSlv x).out = s.out := (rfl)
@[simp] theorem State.setSlv_freeCount (s : State) (x : SlvSt) : (s.setSlv x).freeCount = s.freeCount := (rfl)
@[simp] theorem State.setSlv_time (s : State) (x : SlvSt) : (s.setSlv x).time = s.time := (rfl)
@[simp] theorem State.setSlv_vote (s : State) (x : SlvSt) : (s.setSlv x).vote = s.vote := (rfl)
@[simp] theorem State.setSlv_fault (s : State) (x : SlvSt) : (s.setSlv x).fault = s.fault := (rfl)
@[simp] theorem State.setSlv_pair (s : State) (x : SlvSt) : (s.setSlv x).pair = s.pair := (rfl)
@[simp] theorem State.setSlv_power (s : State) (x : SlvSt) : (s.setSlv x).power = s.power := (rfl)
@[simp] theorem State.setSlv_queues (s : State) (x : SlvSt) : (s.setSlv x).queues = s.queues := (rfl)
@[simp] theorem State.setSlv_port (s : State) (x : SlvSt) : (s.setSlv x).port = s.port := (rfl)
@[simp] theorem State.setSlv_hedQ (s : State) (x : SlvSt) : (s.setSlv x).hedQ = s.hedQ := (rfl)
@[simp] theorem State.setSlv_heddle (s : State) (x : SlvSt) : (s.setSlv x).heddle = s.heddle := (rfl)
@[simp] theorem State.setSlv_reedQ (s : State) (x : SlvSt) : (s.setSlv x).reedQ = s.reedQ := (rfl)
@[simp] theorem State.setSlv_waveQ (s : State) (x : SlvSt) : (s.setSlv x).waveQ = s.waveQ := (rfl)
@[simp] theorem State.setSlv_inputQ (s : State) (x : SlvSt) : (s.setSlv x).inputQ = s.inputQ := (rfl)
@[simp] theorem State.setSlv_reed (s : State) (x : SlvSt) : (s.setSlv x).reed = s.reed := (rfl)
@[simp] theorem State.setSlv_loomQ (s : State) (x : SlvSt) : (s.setSlv x).loomQ = s.loomQ := (rfl)
@[simp] theorem State.setSlv_loom (s : State) (x : SlvSt) : (s.setSlv x).loom = s.loom := (rfl)
@[simp] theorem State.setSlv_slv (s : State) (x : SlvSt) : (s.setSlv x).slv = x := (rfl)
@[simp] theorem State.setSlv_capt (s : State) (x : SlvSt) : (s.setSlv x).capt = s.capt := (rfl)
@[simp] theorem State.setSlv_shuttle (s : State) (x : SlvSt) : (s.setSlv x).shuttle = s.shuttle := (rfl)
@[simp] theorem State.setSlv_osc (s : State) (x : SlvSt) : (s.setSlv x).osc = s.osc := (rfl)
@[simp] theorem State.setSlv_isle (s : State) (x : SlvSt) : (s.setSlv x).isle = s.isle := (rfl)
@[simp] theorem State.setSlv_energy (s : State) (x : SlvSt) : (s.setSlv x).energy = s.energy := (rfl)
@[simp] theorem State.setSlv_saves (s : State) (x : SlvSt) : (s.setSlv x).saves = s.saves := (rfl)
@[simp] theorem State.setSlv_clock (s : State) (x : SlvSt) : (s.setSlv x).clock = s.clock := (rfl)
@[simp] theorem State.setSlv_ageing (s : State) (x : SlvSt) : (s.setSlv x).ageing = s.ageing := (rfl)
@[simp] theorem State.setSlv_host (s : State) (x : SlvSt) : (s.setSlv x).host = s.host := (rfl)
@[simp] theorem State.setSlv_keyHashes (s : State) (x : SlvSt) : (s.setSlv x).keyHashes = s.keyHashes := (rfl)
@[simp] theorem State.setCapt_pending (s : State) (x : CaptSt) : (s.setCapt x).pending = s.pending := (rfl)
@[simp] theorem State.setCapt_held (s : State) (x : CaptSt) : (s.setCapt x).held = s.held := (rfl)
@[simp] theorem State.setCapt_boot (s : State) (x : CaptSt) : (s.setCapt x).boot = s.boot := (rfl)
@[simp] theorem State.setCapt_bases (s : State) (x : CaptSt) : (s.setCapt x).bases = s.bases := (rfl)
@[simp] theorem State.setCapt_regs (s : State) (x : CaptSt) : (s.setCapt x).regs = s.regs := (rfl)
@[simp] theorem State.setCapt_snaps (s : State) (x : CaptSt) : (s.setCapt x).snaps = s.snaps := (rfl)
@[simp] theorem State.setCapt_irq (s : State) (x : CaptSt) : (s.setCapt x).irq = s.irq := (rfl)
@[simp] theorem State.setCapt_ledger (s : State) (x : CaptSt) : (s.setCapt x).ledger = s.ledger := (rfl)
@[simp] theorem State.setCapt_draft (s : State) (x : CaptSt) : (s.setCapt x).draft = s.draft := (rfl)
@[simp] theorem State.setCapt_archive (s : State) (x : CaptSt) : (s.setCapt x).archive = s.archive := (rfl)
@[simp] theorem State.setCapt_stk (s : State) (x : CaptSt) : (s.setCapt x).stk = s.stk := (rfl)
@[simp] theorem State.setCapt_out (s : State) (x : CaptSt) : (s.setCapt x).out = s.out := (rfl)
@[simp] theorem State.setCapt_freeCount (s : State) (x : CaptSt) : (s.setCapt x).freeCount = s.freeCount := (rfl)
@[simp] theorem State.setCapt_time (s : State) (x : CaptSt) : (s.setCapt x).time = s.time := (rfl)
@[simp] theorem State.setCapt_vote (s : State) (x : CaptSt) : (s.setCapt x).vote = s.vote := (rfl)
@[simp] theorem State.setCapt_fault (s : State) (x : CaptSt) : (s.setCapt x).fault = s.fault := (rfl)
@[simp] theorem State.setCapt_pair (s : State) (x : CaptSt) : (s.setCapt x).pair = s.pair := (rfl)
@[simp] theorem State.setCapt_power (s : State) (x : CaptSt) : (s.setCapt x).power = s.power := (rfl)
@[simp] theorem State.setCapt_queues (s : State) (x : CaptSt) : (s.setCapt x).queues = s.queues := (rfl)
@[simp] theorem State.setCapt_port (s : State) (x : CaptSt) : (s.setCapt x).port = s.port := (rfl)
@[simp] theorem State.setCapt_hedQ (s : State) (x : CaptSt) : (s.setCapt x).hedQ = s.hedQ := (rfl)
@[simp] theorem State.setCapt_heddle (s : State) (x : CaptSt) : (s.setCapt x).heddle = s.heddle := (rfl)
@[simp] theorem State.setCapt_reedQ (s : State) (x : CaptSt) : (s.setCapt x).reedQ = s.reedQ := (rfl)
@[simp] theorem State.setCapt_waveQ (s : State) (x : CaptSt) : (s.setCapt x).waveQ = s.waveQ := (rfl)
@[simp] theorem State.setCapt_inputQ (s : State) (x : CaptSt) : (s.setCapt x).inputQ = s.inputQ := (rfl)
@[simp] theorem State.setCapt_reed (s : State) (x : CaptSt) : (s.setCapt x).reed = s.reed := (rfl)
@[simp] theorem State.setCapt_loomQ (s : State) (x : CaptSt) : (s.setCapt x).loomQ = s.loomQ := (rfl)
@[simp] theorem State.setCapt_loom (s : State) (x : CaptSt) : (s.setCapt x).loom = s.loom := (rfl)
@[simp] theorem State.setCapt_slv (s : State) (x : CaptSt) : (s.setCapt x).slv = s.slv := (rfl)
@[simp] theorem State.setCapt_capt (s : State) (x : CaptSt) : (s.setCapt x).capt = x := (rfl)
@[simp] theorem State.setCapt_shuttle (s : State) (x : CaptSt) : (s.setCapt x).shuttle = s.shuttle := (rfl)
@[simp] theorem State.setCapt_osc (s : State) (x : CaptSt) : (s.setCapt x).osc = s.osc := (rfl)
@[simp] theorem State.setCapt_isle (s : State) (x : CaptSt) : (s.setCapt x).isle = s.isle := (rfl)
@[simp] theorem State.setCapt_energy (s : State) (x : CaptSt) : (s.setCapt x).energy = s.energy := (rfl)
@[simp] theorem State.setCapt_saves (s : State) (x : CaptSt) : (s.setCapt x).saves = s.saves := (rfl)
@[simp] theorem State.setCapt_clock (s : State) (x : CaptSt) : (s.setCapt x).clock = s.clock := (rfl)
@[simp] theorem State.setCapt_ageing (s : State) (x : CaptSt) : (s.setCapt x).ageing = s.ageing := (rfl)
@[simp] theorem State.setCapt_host (s : State) (x : CaptSt) : (s.setCapt x).host = s.host := (rfl)
@[simp] theorem State.setCapt_keyHashes (s : State) (x : CaptSt) : (s.setCapt x).keyHashes = s.keyHashes := (rfl)
@[simp] theorem State.setShuttle_pending (s : State) (x : ShuttleSt) : (s.setShuttle x).pending = s.pending := (rfl)
@[simp] theorem State.setShuttle_held (s : State) (x : ShuttleSt) : (s.setShuttle x).held = s.held := (rfl)
@[simp] theorem State.setShuttle_boot (s : State) (x : ShuttleSt) : (s.setShuttle x).boot = s.boot := (rfl)
@[simp] theorem State.setShuttle_bases (s : State) (x : ShuttleSt) : (s.setShuttle x).bases = s.bases := (rfl)
@[simp] theorem State.setShuttle_regs (s : State) (x : ShuttleSt) : (s.setShuttle x).regs = s.regs := (rfl)
@[simp] theorem State.setShuttle_snaps (s : State) (x : ShuttleSt) : (s.setShuttle x).snaps = s.snaps := (rfl)
@[simp] theorem State.setShuttle_irq (s : State) (x : ShuttleSt) : (s.setShuttle x).irq = s.irq := (rfl)
@[simp] theorem State.setShuttle_ledger (s : State) (x : ShuttleSt) : (s.setShuttle x).ledger = s.ledger := (rfl)
@[simp] theorem State.setShuttle_draft (s : State) (x : ShuttleSt) : (s.setShuttle x).draft = s.draft := (rfl)
@[simp] theorem State.setShuttle_archive (s : State) (x : ShuttleSt) : (s.setShuttle x).archive = s.archive := (rfl)
@[simp] theorem State.setShuttle_stk (s : State) (x : ShuttleSt) : (s.setShuttle x).stk = s.stk := (rfl)
@[simp] theorem State.setShuttle_out (s : State) (x : ShuttleSt) : (s.setShuttle x).out = s.out := (rfl)
@[simp] theorem State.setShuttle_freeCount (s : State) (x : ShuttleSt) : (s.setShuttle x).freeCount = s.freeCount := (rfl)
@[simp] theorem State.setShuttle_time (s : State) (x : ShuttleSt) : (s.setShuttle x).time = s.time := (rfl)
@[simp] theorem State.setShuttle_vote (s : State) (x : ShuttleSt) : (s.setShuttle x).vote = s.vote := (rfl)
@[simp] theorem State.setShuttle_fault (s : State) (x : ShuttleSt) : (s.setShuttle x).fault = s.fault := (rfl)
@[simp] theorem State.setShuttle_pair (s : State) (x : ShuttleSt) : (s.setShuttle x).pair = s.pair := (rfl)
@[simp] theorem State.setShuttle_power (s : State) (x : ShuttleSt) : (s.setShuttle x).power = s.power := (rfl)
@[simp] theorem State.setShuttle_queues (s : State) (x : ShuttleSt) : (s.setShuttle x).queues = s.queues := (rfl)
@[simp] theorem State.setShuttle_port (s : State) (x : ShuttleSt) : (s.setShuttle x).port = s.port := (rfl)
@[simp] theorem State.setShuttle_hedQ (s : State) (x : ShuttleSt) : (s.setShuttle x).hedQ = s.hedQ := (rfl)
@[simp] theorem State.setShuttle_heddle (s : State) (x : ShuttleSt) : (s.setShuttle x).heddle = s.heddle := (rfl)
@[simp] theorem State.setShuttle_reedQ (s : State) (x : ShuttleSt) : (s.setShuttle x).reedQ = s.reedQ := (rfl)
@[simp] theorem State.setShuttle_waveQ (s : State) (x : ShuttleSt) : (s.setShuttle x).waveQ = s.waveQ := (rfl)
@[simp] theorem State.setShuttle_inputQ (s : State) (x : ShuttleSt) : (s.setShuttle x).inputQ = s.inputQ := (rfl)
@[simp] theorem State.setShuttle_reed (s : State) (x : ShuttleSt) : (s.setShuttle x).reed = s.reed := (rfl)
@[simp] theorem State.setShuttle_loomQ (s : State) (x : ShuttleSt) : (s.setShuttle x).loomQ = s.loomQ := (rfl)
@[simp] theorem State.setShuttle_loom (s : State) (x : ShuttleSt) : (s.setShuttle x).loom = s.loom := (rfl)
@[simp] theorem State.setShuttle_slv (s : State) (x : ShuttleSt) : (s.setShuttle x).slv = s.slv := (rfl)
@[simp] theorem State.setShuttle_capt (s : State) (x : ShuttleSt) : (s.setShuttle x).capt = s.capt := (rfl)
@[simp] theorem State.setShuttle_shuttle (s : State) (x : ShuttleSt) : (s.setShuttle x).shuttle = x := (rfl)
@[simp] theorem State.setShuttle_osc (s : State) (x : ShuttleSt) : (s.setShuttle x).osc = s.osc := (rfl)
@[simp] theorem State.setShuttle_isle (s : State) (x : ShuttleSt) : (s.setShuttle x).isle = s.isle := (rfl)
@[simp] theorem State.setShuttle_energy (s : State) (x : ShuttleSt) : (s.setShuttle x).energy = s.energy := (rfl)
@[simp] theorem State.setShuttle_saves (s : State) (x : ShuttleSt) : (s.setShuttle x).saves = s.saves := (rfl)
@[simp] theorem State.setShuttle_clock (s : State) (x : ShuttleSt) : (s.setShuttle x).clock = s.clock := (rfl)
@[simp] theorem State.setShuttle_ageing (s : State) (x : ShuttleSt) : (s.setShuttle x).ageing = s.ageing := (rfl)
@[simp] theorem State.setShuttle_host (s : State) (x : ShuttleSt) : (s.setShuttle x).host = s.host := (rfl)
@[simp] theorem State.setShuttle_keyHashes (s : State) (x : ShuttleSt) : (s.setShuttle x).keyHashes = s.keyHashes := (rfl)
@[simp] theorem State.setOsc_pending (s : State) (x : OscSt) : (s.setOsc x).pending = s.pending := (rfl)
@[simp] theorem State.setOsc_held (s : State) (x : OscSt) : (s.setOsc x).held = s.held := (rfl)
@[simp] theorem State.setOsc_boot (s : State) (x : OscSt) : (s.setOsc x).boot = s.boot := (rfl)
@[simp] theorem State.setOsc_bases (s : State) (x : OscSt) : (s.setOsc x).bases = s.bases := (rfl)
@[simp] theorem State.setOsc_regs (s : State) (x : OscSt) : (s.setOsc x).regs = s.regs := (rfl)
@[simp] theorem State.setOsc_snaps (s : State) (x : OscSt) : (s.setOsc x).snaps = s.snaps := (rfl)
@[simp] theorem State.setOsc_irq (s : State) (x : OscSt) : (s.setOsc x).irq = s.irq := (rfl)
@[simp] theorem State.setOsc_ledger (s : State) (x : OscSt) : (s.setOsc x).ledger = s.ledger := (rfl)
@[simp] theorem State.setOsc_draft (s : State) (x : OscSt) : (s.setOsc x).draft = s.draft := (rfl)
@[simp] theorem State.setOsc_archive (s : State) (x : OscSt) : (s.setOsc x).archive = s.archive := (rfl)
@[simp] theorem State.setOsc_stk (s : State) (x : OscSt) : (s.setOsc x).stk = s.stk := (rfl)
@[simp] theorem State.setOsc_out (s : State) (x : OscSt) : (s.setOsc x).out = s.out := (rfl)
@[simp] theorem State.setOsc_freeCount (s : State) (x : OscSt) : (s.setOsc x).freeCount = s.freeCount := (rfl)
@[simp] theorem State.setOsc_time (s : State) (x : OscSt) : (s.setOsc x).time = s.time := (rfl)
@[simp] theorem State.setOsc_vote (s : State) (x : OscSt) : (s.setOsc x).vote = s.vote := (rfl)
@[simp] theorem State.setOsc_fault (s : State) (x : OscSt) : (s.setOsc x).fault = s.fault := (rfl)
@[simp] theorem State.setOsc_pair (s : State) (x : OscSt) : (s.setOsc x).pair = s.pair := (rfl)
@[simp] theorem State.setOsc_power (s : State) (x : OscSt) : (s.setOsc x).power = s.power := (rfl)
@[simp] theorem State.setOsc_queues (s : State) (x : OscSt) : (s.setOsc x).queues = s.queues := (rfl)
@[simp] theorem State.setOsc_port (s : State) (x : OscSt) : (s.setOsc x).port = s.port := (rfl)
@[simp] theorem State.setOsc_hedQ (s : State) (x : OscSt) : (s.setOsc x).hedQ = s.hedQ := (rfl)
@[simp] theorem State.setOsc_heddle (s : State) (x : OscSt) : (s.setOsc x).heddle = s.heddle := (rfl)
@[simp] theorem State.setOsc_reedQ (s : State) (x : OscSt) : (s.setOsc x).reedQ = s.reedQ := (rfl)
@[simp] theorem State.setOsc_waveQ (s : State) (x : OscSt) : (s.setOsc x).waveQ = s.waveQ := (rfl)
@[simp] theorem State.setOsc_inputQ (s : State) (x : OscSt) : (s.setOsc x).inputQ = s.inputQ := (rfl)
@[simp] theorem State.setOsc_reed (s : State) (x : OscSt) : (s.setOsc x).reed = s.reed := (rfl)
@[simp] theorem State.setOsc_loomQ (s : State) (x : OscSt) : (s.setOsc x).loomQ = s.loomQ := (rfl)
@[simp] theorem State.setOsc_loom (s : State) (x : OscSt) : (s.setOsc x).loom = s.loom := (rfl)
@[simp] theorem State.setOsc_slv (s : State) (x : OscSt) : (s.setOsc x).slv = s.slv := (rfl)
@[simp] theorem State.setOsc_capt (s : State) (x : OscSt) : (s.setOsc x).capt = s.capt := (rfl)
@[simp] theorem State.setOsc_shuttle (s : State) (x : OscSt) : (s.setOsc x).shuttle = s.shuttle := (rfl)
@[simp] theorem State.setOsc_osc (s : State) (x : OscSt) : (s.setOsc x).osc = x := (rfl)
@[simp] theorem State.setOsc_isle (s : State) (x : OscSt) : (s.setOsc x).isle = s.isle := (rfl)
@[simp] theorem State.setOsc_energy (s : State) (x : OscSt) : (s.setOsc x).energy = s.energy := (rfl)
@[simp] theorem State.setOsc_saves (s : State) (x : OscSt) : (s.setOsc x).saves = s.saves := (rfl)
@[simp] theorem State.setOsc_clock (s : State) (x : OscSt) : (s.setOsc x).clock = s.clock := (rfl)
@[simp] theorem State.setOsc_ageing (s : State) (x : OscSt) : (s.setOsc x).ageing = s.ageing := (rfl)
@[simp] theorem State.setOsc_host (s : State) (x : OscSt) : (s.setOsc x).host = s.host := (rfl)
@[simp] theorem State.setOsc_keyHashes (s : State) (x : OscSt) : (s.setOsc x).keyHashes = s.keyHashes := (rfl)
@[simp] theorem State.setIsle_pending (s : State) (x : IsleSt) : (s.setIsle x).pending = s.pending := (rfl)
@[simp] theorem State.setIsle_held (s : State) (x : IsleSt) : (s.setIsle x).held = s.held := (rfl)
@[simp] theorem State.setIsle_boot (s : State) (x : IsleSt) : (s.setIsle x).boot = s.boot := (rfl)
@[simp] theorem State.setIsle_bases (s : State) (x : IsleSt) : (s.setIsle x).bases = s.bases := (rfl)
@[simp] theorem State.setIsle_regs (s : State) (x : IsleSt) : (s.setIsle x).regs = s.regs := (rfl)
@[simp] theorem State.setIsle_snaps (s : State) (x : IsleSt) : (s.setIsle x).snaps = s.snaps := (rfl)
@[simp] theorem State.setIsle_irq (s : State) (x : IsleSt) : (s.setIsle x).irq = s.irq := (rfl)
@[simp] theorem State.setIsle_ledger (s : State) (x : IsleSt) : (s.setIsle x).ledger = s.ledger := (rfl)
@[simp] theorem State.setIsle_draft (s : State) (x : IsleSt) : (s.setIsle x).draft = s.draft := (rfl)
@[simp] theorem State.setIsle_archive (s : State) (x : IsleSt) : (s.setIsle x).archive = s.archive := (rfl)
@[simp] theorem State.setIsle_stk (s : State) (x : IsleSt) : (s.setIsle x).stk = s.stk := (rfl)
@[simp] theorem State.setIsle_out (s : State) (x : IsleSt) : (s.setIsle x).out = s.out := (rfl)
@[simp] theorem State.setIsle_freeCount (s : State) (x : IsleSt) : (s.setIsle x).freeCount = s.freeCount := (rfl)
@[simp] theorem State.setIsle_time (s : State) (x : IsleSt) : (s.setIsle x).time = s.time := (rfl)
@[simp] theorem State.setIsle_vote (s : State) (x : IsleSt) : (s.setIsle x).vote = s.vote := (rfl)
@[simp] theorem State.setIsle_fault (s : State) (x : IsleSt) : (s.setIsle x).fault = s.fault := (rfl)
@[simp] theorem State.setIsle_pair (s : State) (x : IsleSt) : (s.setIsle x).pair = s.pair := (rfl)
@[simp] theorem State.setIsle_power (s : State) (x : IsleSt) : (s.setIsle x).power = s.power := (rfl)
@[simp] theorem State.setIsle_queues (s : State) (x : IsleSt) : (s.setIsle x).queues = s.queues := (rfl)
@[simp] theorem State.setIsle_port (s : State) (x : IsleSt) : (s.setIsle x).port = s.port := (rfl)
@[simp] theorem State.setIsle_hedQ (s : State) (x : IsleSt) : (s.setIsle x).hedQ = s.hedQ := (rfl)
@[simp] theorem State.setIsle_heddle (s : State) (x : IsleSt) : (s.setIsle x).heddle = s.heddle := (rfl)
@[simp] theorem State.setIsle_reedQ (s : State) (x : IsleSt) : (s.setIsle x).reedQ = s.reedQ := (rfl)
@[simp] theorem State.setIsle_waveQ (s : State) (x : IsleSt) : (s.setIsle x).waveQ = s.waveQ := (rfl)
@[simp] theorem State.setIsle_inputQ (s : State) (x : IsleSt) : (s.setIsle x).inputQ = s.inputQ := (rfl)
@[simp] theorem State.setIsle_reed (s : State) (x : IsleSt) : (s.setIsle x).reed = s.reed := (rfl)
@[simp] theorem State.setIsle_loomQ (s : State) (x : IsleSt) : (s.setIsle x).loomQ = s.loomQ := (rfl)
@[simp] theorem State.setIsle_loom (s : State) (x : IsleSt) : (s.setIsle x).loom = s.loom := (rfl)
@[simp] theorem State.setIsle_slv (s : State) (x : IsleSt) : (s.setIsle x).slv = s.slv := (rfl)
@[simp] theorem State.setIsle_capt (s : State) (x : IsleSt) : (s.setIsle x).capt = s.capt := (rfl)
@[simp] theorem State.setIsle_shuttle (s : State) (x : IsleSt) : (s.setIsle x).shuttle = s.shuttle := (rfl)
@[simp] theorem State.setIsle_osc (s : State) (x : IsleSt) : (s.setIsle x).osc = s.osc := (rfl)
@[simp] theorem State.setIsle_isle (s : State) (x : IsleSt) : (s.setIsle x).isle = x := (rfl)
@[simp] theorem State.setIsle_energy (s : State) (x : IsleSt) : (s.setIsle x).energy = s.energy := (rfl)
@[simp] theorem State.setIsle_saves (s : State) (x : IsleSt) : (s.setIsle x).saves = s.saves := (rfl)
@[simp] theorem State.setIsle_clock (s : State) (x : IsleSt) : (s.setIsle x).clock = s.clock := (rfl)
@[simp] theorem State.setIsle_ageing (s : State) (x : IsleSt) : (s.setIsle x).ageing = s.ageing := (rfl)
@[simp] theorem State.setIsle_host (s : State) (x : IsleSt) : (s.setIsle x).host = s.host := (rfl)
@[simp] theorem State.setIsle_keyHashes (s : State) (x : IsleSt) : (s.setIsle x).keyHashes = s.keyHashes := (rfl)
@[simp] theorem State.setEnergy_pending (s : State) (x : EnergySt) : (s.setEnergy x).pending = s.pending := (rfl)
@[simp] theorem State.setEnergy_held (s : State) (x : EnergySt) : (s.setEnergy x).held = s.held := (rfl)
@[simp] theorem State.setEnergy_boot (s : State) (x : EnergySt) : (s.setEnergy x).boot = s.boot := (rfl)
@[simp] theorem State.setEnergy_bases (s : State) (x : EnergySt) : (s.setEnergy x).bases = s.bases := (rfl)
@[simp] theorem State.setEnergy_regs (s : State) (x : EnergySt) : (s.setEnergy x).regs = s.regs := (rfl)
@[simp] theorem State.setEnergy_snaps (s : State) (x : EnergySt) : (s.setEnergy x).snaps = s.snaps := (rfl)
@[simp] theorem State.setEnergy_irq (s : State) (x : EnergySt) : (s.setEnergy x).irq = s.irq := (rfl)
@[simp] theorem State.setEnergy_ledger (s : State) (x : EnergySt) : (s.setEnergy x).ledger = s.ledger := (rfl)
@[simp] theorem State.setEnergy_draft (s : State) (x : EnergySt) : (s.setEnergy x).draft = s.draft := (rfl)
@[simp] theorem State.setEnergy_archive (s : State) (x : EnergySt) : (s.setEnergy x).archive = s.archive := (rfl)
@[simp] theorem State.setEnergy_stk (s : State) (x : EnergySt) : (s.setEnergy x).stk = s.stk := (rfl)
@[simp] theorem State.setEnergy_out (s : State) (x : EnergySt) : (s.setEnergy x).out = s.out := (rfl)
@[simp] theorem State.setEnergy_freeCount (s : State) (x : EnergySt) : (s.setEnergy x).freeCount = s.freeCount := (rfl)
@[simp] theorem State.setEnergy_time (s : State) (x : EnergySt) : (s.setEnergy x).time = s.time := (rfl)
@[simp] theorem State.setEnergy_vote (s : State) (x : EnergySt) : (s.setEnergy x).vote = s.vote := (rfl)
@[simp] theorem State.setEnergy_fault (s : State) (x : EnergySt) : (s.setEnergy x).fault = s.fault := (rfl)
@[simp] theorem State.setEnergy_pair (s : State) (x : EnergySt) : (s.setEnergy x).pair = s.pair := (rfl)
@[simp] theorem State.setEnergy_power (s : State) (x : EnergySt) : (s.setEnergy x).power = s.power := (rfl)
@[simp] theorem State.setEnergy_queues (s : State) (x : EnergySt) : (s.setEnergy x).queues = s.queues := (rfl)
@[simp] theorem State.setEnergy_port (s : State) (x : EnergySt) : (s.setEnergy x).port = s.port := (rfl)
@[simp] theorem State.setEnergy_hedQ (s : State) (x : EnergySt) : (s.setEnergy x).hedQ = s.hedQ := (rfl)
@[simp] theorem State.setEnergy_heddle (s : State) (x : EnergySt) : (s.setEnergy x).heddle = s.heddle := (rfl)
@[simp] theorem State.setEnergy_reedQ (s : State) (x : EnergySt) : (s.setEnergy x).reedQ = s.reedQ := (rfl)
@[simp] theorem State.setEnergy_waveQ (s : State) (x : EnergySt) : (s.setEnergy x).waveQ = s.waveQ := (rfl)
@[simp] theorem State.setEnergy_inputQ (s : State) (x : EnergySt) : (s.setEnergy x).inputQ = s.inputQ := (rfl)
@[simp] theorem State.setEnergy_reed (s : State) (x : EnergySt) : (s.setEnergy x).reed = s.reed := (rfl)
@[simp] theorem State.setEnergy_loomQ (s : State) (x : EnergySt) : (s.setEnergy x).loomQ = s.loomQ := (rfl)
@[simp] theorem State.setEnergy_loom (s : State) (x : EnergySt) : (s.setEnergy x).loom = s.loom := (rfl)
@[simp] theorem State.setEnergy_slv (s : State) (x : EnergySt) : (s.setEnergy x).slv = s.slv := (rfl)
@[simp] theorem State.setEnergy_capt (s : State) (x : EnergySt) : (s.setEnergy x).capt = s.capt := (rfl)
@[simp] theorem State.setEnergy_shuttle (s : State) (x : EnergySt) : (s.setEnergy x).shuttle = s.shuttle := (rfl)
@[simp] theorem State.setEnergy_osc (s : State) (x : EnergySt) : (s.setEnergy x).osc = s.osc := (rfl)
@[simp] theorem State.setEnergy_isle (s : State) (x : EnergySt) : (s.setEnergy x).isle = s.isle := (rfl)
@[simp] theorem State.setEnergy_energy (s : State) (x : EnergySt) : (s.setEnergy x).energy = x := (rfl)
@[simp] theorem State.setEnergy_saves (s : State) (x : EnergySt) : (s.setEnergy x).saves = s.saves := (rfl)
@[simp] theorem State.setEnergy_clock (s : State) (x : EnergySt) : (s.setEnergy x).clock = s.clock := (rfl)
@[simp] theorem State.setEnergy_ageing (s : State) (x : EnergySt) : (s.setEnergy x).ageing = s.ageing := (rfl)
@[simp] theorem State.setEnergy_host (s : State) (x : EnergySt) : (s.setEnergy x).host = s.host := (rfl)
@[simp] theorem State.setEnergy_keyHashes (s : State) (x : EnergySt) : (s.setEnergy x).keyHashes = s.keyHashes := (rfl)
@[simp] theorem State.setSaves_pending (s : State) (x : EnergySaves) : (s.setSaves x).pending = s.pending := (rfl)
@[simp] theorem State.setSaves_held (s : State) (x : EnergySaves) : (s.setSaves x).held = s.held := (rfl)
@[simp] theorem State.setSaves_boot (s : State) (x : EnergySaves) : (s.setSaves x).boot = s.boot := (rfl)
@[simp] theorem State.setSaves_bases (s : State) (x : EnergySaves) : (s.setSaves x).bases = s.bases := (rfl)
@[simp] theorem State.setSaves_regs (s : State) (x : EnergySaves) : (s.setSaves x).regs = s.regs := (rfl)
@[simp] theorem State.setSaves_snaps (s : State) (x : EnergySaves) : (s.setSaves x).snaps = s.snaps := (rfl)
@[simp] theorem State.setSaves_irq (s : State) (x : EnergySaves) : (s.setSaves x).irq = s.irq := (rfl)
@[simp] theorem State.setSaves_ledger (s : State) (x : EnergySaves) : (s.setSaves x).ledger = s.ledger := (rfl)
@[simp] theorem State.setSaves_draft (s : State) (x : EnergySaves) : (s.setSaves x).draft = s.draft := (rfl)
@[simp] theorem State.setSaves_archive (s : State) (x : EnergySaves) : (s.setSaves x).archive = s.archive := (rfl)
@[simp] theorem State.setSaves_stk (s : State) (x : EnergySaves) : (s.setSaves x).stk = s.stk := (rfl)
@[simp] theorem State.setSaves_out (s : State) (x : EnergySaves) : (s.setSaves x).out = s.out := (rfl)
@[simp] theorem State.setSaves_freeCount (s : State) (x : EnergySaves) : (s.setSaves x).freeCount = s.freeCount := (rfl)
@[simp] theorem State.setSaves_time (s : State) (x : EnergySaves) : (s.setSaves x).time = s.time := (rfl)
@[simp] theorem State.setSaves_vote (s : State) (x : EnergySaves) : (s.setSaves x).vote = s.vote := (rfl)
@[simp] theorem State.setSaves_fault (s : State) (x : EnergySaves) : (s.setSaves x).fault = s.fault := (rfl)
@[simp] theorem State.setSaves_pair (s : State) (x : EnergySaves) : (s.setSaves x).pair = s.pair := (rfl)
@[simp] theorem State.setSaves_power (s : State) (x : EnergySaves) : (s.setSaves x).power = s.power := (rfl)
@[simp] theorem State.setSaves_queues (s : State) (x : EnergySaves) : (s.setSaves x).queues = s.queues := (rfl)
@[simp] theorem State.setSaves_port (s : State) (x : EnergySaves) : (s.setSaves x).port = s.port := (rfl)
@[simp] theorem State.setSaves_hedQ (s : State) (x : EnergySaves) : (s.setSaves x).hedQ = s.hedQ := (rfl)
@[simp] theorem State.setSaves_heddle (s : State) (x : EnergySaves) : (s.setSaves x).heddle = s.heddle := (rfl)
@[simp] theorem State.setSaves_reedQ (s : State) (x : EnergySaves) : (s.setSaves x).reedQ = s.reedQ := (rfl)
@[simp] theorem State.setSaves_waveQ (s : State) (x : EnergySaves) : (s.setSaves x).waveQ = s.waveQ := (rfl)
@[simp] theorem State.setSaves_inputQ (s : State) (x : EnergySaves) : (s.setSaves x).inputQ = s.inputQ := (rfl)
@[simp] theorem State.setSaves_reed (s : State) (x : EnergySaves) : (s.setSaves x).reed = s.reed := (rfl)
@[simp] theorem State.setSaves_loomQ (s : State) (x : EnergySaves) : (s.setSaves x).loomQ = s.loomQ := (rfl)
@[simp] theorem State.setSaves_loom (s : State) (x : EnergySaves) : (s.setSaves x).loom = s.loom := (rfl)
@[simp] theorem State.setSaves_slv (s : State) (x : EnergySaves) : (s.setSaves x).slv = s.slv := (rfl)
@[simp] theorem State.setSaves_capt (s : State) (x : EnergySaves) : (s.setSaves x).capt = s.capt := (rfl)
@[simp] theorem State.setSaves_shuttle (s : State) (x : EnergySaves) : (s.setSaves x).shuttle = s.shuttle := (rfl)
@[simp] theorem State.setSaves_osc (s : State) (x : EnergySaves) : (s.setSaves x).osc = s.osc := (rfl)
@[simp] theorem State.setSaves_isle (s : State) (x : EnergySaves) : (s.setSaves x).isle = s.isle := (rfl)
@[simp] theorem State.setSaves_energy (s : State) (x : EnergySaves) : (s.setSaves x).energy = s.energy := (rfl)
@[simp] theorem State.setSaves_saves (s : State) (x : EnergySaves) : (s.setSaves x).saves = x := (rfl)
@[simp] theorem State.setSaves_clock (s : State) (x : EnergySaves) : (s.setSaves x).clock = s.clock := (rfl)
@[simp] theorem State.setSaves_ageing (s : State) (x : EnergySaves) : (s.setSaves x).ageing = s.ageing := (rfl)
@[simp] theorem State.setSaves_host (s : State) (x : EnergySaves) : (s.setSaves x).host = s.host := (rfl)
@[simp] theorem State.setSaves_keyHashes (s : State) (x : EnergySaves) : (s.setSaves x).keyHashes = s.keyHashes := (rfl)
@[simp] theorem State.setClock_pending (s : State) (x : ClockSt) : (s.setClock x).pending = s.pending := (rfl)
@[simp] theorem State.setClock_held (s : State) (x : ClockSt) : (s.setClock x).held = s.held := (rfl)
@[simp] theorem State.setClock_boot (s : State) (x : ClockSt) : (s.setClock x).boot = s.boot := (rfl)
@[simp] theorem State.setClock_bases (s : State) (x : ClockSt) : (s.setClock x).bases = s.bases := (rfl)
@[simp] theorem State.setClock_regs (s : State) (x : ClockSt) : (s.setClock x).regs = s.regs := (rfl)
@[simp] theorem State.setClock_snaps (s : State) (x : ClockSt) : (s.setClock x).snaps = s.snaps := (rfl)
@[simp] theorem State.setClock_irq (s : State) (x : ClockSt) : (s.setClock x).irq = s.irq := (rfl)
@[simp] theorem State.setClock_ledger (s : State) (x : ClockSt) : (s.setClock x).ledger = s.ledger := (rfl)
@[simp] theorem State.setClock_draft (s : State) (x : ClockSt) : (s.setClock x).draft = s.draft := (rfl)
@[simp] theorem State.setClock_archive (s : State) (x : ClockSt) : (s.setClock x).archive = s.archive := (rfl)
@[simp] theorem State.setClock_stk (s : State) (x : ClockSt) : (s.setClock x).stk = s.stk := (rfl)
@[simp] theorem State.setClock_out (s : State) (x : ClockSt) : (s.setClock x).out = s.out := (rfl)
@[simp] theorem State.setClock_freeCount (s : State) (x : ClockSt) : (s.setClock x).freeCount = s.freeCount := (rfl)
@[simp] theorem State.setClock_time (s : State) (x : ClockSt) : (s.setClock x).time = s.time := (rfl)
@[simp] theorem State.setClock_vote (s : State) (x : ClockSt) : (s.setClock x).vote = s.vote := (rfl)
@[simp] theorem State.setClock_fault (s : State) (x : ClockSt) : (s.setClock x).fault = s.fault := (rfl)
@[simp] theorem State.setClock_pair (s : State) (x : ClockSt) : (s.setClock x).pair = s.pair := (rfl)
@[simp] theorem State.setClock_power (s : State) (x : ClockSt) : (s.setClock x).power = s.power := (rfl)
@[simp] theorem State.setClock_queues (s : State) (x : ClockSt) : (s.setClock x).queues = s.queues := (rfl)
@[simp] theorem State.setClock_port (s : State) (x : ClockSt) : (s.setClock x).port = s.port := (rfl)
@[simp] theorem State.setClock_hedQ (s : State) (x : ClockSt) : (s.setClock x).hedQ = s.hedQ := (rfl)
@[simp] theorem State.setClock_heddle (s : State) (x : ClockSt) : (s.setClock x).heddle = s.heddle := (rfl)
@[simp] theorem State.setClock_reedQ (s : State) (x : ClockSt) : (s.setClock x).reedQ = s.reedQ := (rfl)
@[simp] theorem State.setClock_waveQ (s : State) (x : ClockSt) : (s.setClock x).waveQ = s.waveQ := (rfl)
@[simp] theorem State.setClock_inputQ (s : State) (x : ClockSt) : (s.setClock x).inputQ = s.inputQ := (rfl)
@[simp] theorem State.setClock_reed (s : State) (x : ClockSt) : (s.setClock x).reed = s.reed := (rfl)
@[simp] theorem State.setClock_loomQ (s : State) (x : ClockSt) : (s.setClock x).loomQ = s.loomQ := (rfl)
@[simp] theorem State.setClock_loom (s : State) (x : ClockSt) : (s.setClock x).loom = s.loom := (rfl)
@[simp] theorem State.setClock_slv (s : State) (x : ClockSt) : (s.setClock x).slv = s.slv := (rfl)
@[simp] theorem State.setClock_capt (s : State) (x : ClockSt) : (s.setClock x).capt = s.capt := (rfl)
@[simp] theorem State.setClock_shuttle (s : State) (x : ClockSt) : (s.setClock x).shuttle = s.shuttle := (rfl)
@[simp] theorem State.setClock_osc (s : State) (x : ClockSt) : (s.setClock x).osc = s.osc := (rfl)
@[simp] theorem State.setClock_isle (s : State) (x : ClockSt) : (s.setClock x).isle = s.isle := (rfl)
@[simp] theorem State.setClock_energy (s : State) (x : ClockSt) : (s.setClock x).energy = s.energy := (rfl)
@[simp] theorem State.setClock_saves (s : State) (x : ClockSt) : (s.setClock x).saves = s.saves := (rfl)
@[simp] theorem State.setClock_clock (s : State) (x : ClockSt) : (s.setClock x).clock = x := (rfl)
@[simp] theorem State.setClock_ageing (s : State) (x : ClockSt) : (s.setClock x).ageing = s.ageing := (rfl)
@[simp] theorem State.setClock_host (s : State) (x : ClockSt) : (s.setClock x).host = s.host := (rfl)
@[simp] theorem State.setClock_keyHashes (s : State) (x : ClockSt) : (s.setClock x).keyHashes = s.keyHashes := (rfl)
@[simp] theorem State.setAgeing_pending (s : State) (x : AgeSave) : (s.setAgeing x).pending = s.pending := (rfl)
@[simp] theorem State.setAgeing_held (s : State) (x : AgeSave) : (s.setAgeing x).held = s.held := (rfl)
@[simp] theorem State.setAgeing_boot (s : State) (x : AgeSave) : (s.setAgeing x).boot = s.boot := (rfl)
@[simp] theorem State.setAgeing_bases (s : State) (x : AgeSave) : (s.setAgeing x).bases = s.bases := (rfl)
@[simp] theorem State.setAgeing_regs (s : State) (x : AgeSave) : (s.setAgeing x).regs = s.regs := (rfl)
@[simp] theorem State.setAgeing_snaps (s : State) (x : AgeSave) : (s.setAgeing x).snaps = s.snaps := (rfl)
@[simp] theorem State.setAgeing_irq (s : State) (x : AgeSave) : (s.setAgeing x).irq = s.irq := (rfl)
@[simp] theorem State.setAgeing_ledger (s : State) (x : AgeSave) : (s.setAgeing x).ledger = s.ledger := (rfl)
@[simp] theorem State.setAgeing_draft (s : State) (x : AgeSave) : (s.setAgeing x).draft = s.draft := (rfl)
@[simp] theorem State.setAgeing_archive (s : State) (x : AgeSave) : (s.setAgeing x).archive = s.archive := (rfl)
@[simp] theorem State.setAgeing_stk (s : State) (x : AgeSave) : (s.setAgeing x).stk = s.stk := (rfl)
@[simp] theorem State.setAgeing_out (s : State) (x : AgeSave) : (s.setAgeing x).out = s.out := (rfl)
@[simp] theorem State.setAgeing_freeCount (s : State) (x : AgeSave) : (s.setAgeing x).freeCount = s.freeCount := (rfl)
@[simp] theorem State.setAgeing_time (s : State) (x : AgeSave) : (s.setAgeing x).time = s.time := (rfl)
@[simp] theorem State.setAgeing_vote (s : State) (x : AgeSave) : (s.setAgeing x).vote = s.vote := (rfl)
@[simp] theorem State.setAgeing_fault (s : State) (x : AgeSave) : (s.setAgeing x).fault = s.fault := (rfl)
@[simp] theorem State.setAgeing_pair (s : State) (x : AgeSave) : (s.setAgeing x).pair = s.pair := (rfl)
@[simp] theorem State.setAgeing_power (s : State) (x : AgeSave) : (s.setAgeing x).power = s.power := (rfl)
@[simp] theorem State.setAgeing_queues (s : State) (x : AgeSave) : (s.setAgeing x).queues = s.queues := (rfl)
@[simp] theorem State.setAgeing_port (s : State) (x : AgeSave) : (s.setAgeing x).port = s.port := (rfl)
@[simp] theorem State.setAgeing_hedQ (s : State) (x : AgeSave) : (s.setAgeing x).hedQ = s.hedQ := (rfl)
@[simp] theorem State.setAgeing_heddle (s : State) (x : AgeSave) : (s.setAgeing x).heddle = s.heddle := (rfl)
@[simp] theorem State.setAgeing_reedQ (s : State) (x : AgeSave) : (s.setAgeing x).reedQ = s.reedQ := (rfl)
@[simp] theorem State.setAgeing_waveQ (s : State) (x : AgeSave) : (s.setAgeing x).waveQ = s.waveQ := (rfl)
@[simp] theorem State.setAgeing_inputQ (s : State) (x : AgeSave) : (s.setAgeing x).inputQ = s.inputQ := (rfl)
@[simp] theorem State.setAgeing_reed (s : State) (x : AgeSave) : (s.setAgeing x).reed = s.reed := (rfl)
@[simp] theorem State.setAgeing_loomQ (s : State) (x : AgeSave) : (s.setAgeing x).loomQ = s.loomQ := (rfl)
@[simp] theorem State.setAgeing_loom (s : State) (x : AgeSave) : (s.setAgeing x).loom = s.loom := (rfl)
@[simp] theorem State.setAgeing_slv (s : State) (x : AgeSave) : (s.setAgeing x).slv = s.slv := (rfl)
@[simp] theorem State.setAgeing_capt (s : State) (x : AgeSave) : (s.setAgeing x).capt = s.capt := (rfl)
@[simp] theorem State.setAgeing_shuttle (s : State) (x : AgeSave) : (s.setAgeing x).shuttle = s.shuttle := (rfl)
@[simp] theorem State.setAgeing_osc (s : State) (x : AgeSave) : (s.setAgeing x).osc = s.osc := (rfl)
@[simp] theorem State.setAgeing_isle (s : State) (x : AgeSave) : (s.setAgeing x).isle = s.isle := (rfl)
@[simp] theorem State.setAgeing_energy (s : State) (x : AgeSave) : (s.setAgeing x).energy = s.energy := (rfl)
@[simp] theorem State.setAgeing_saves (s : State) (x : AgeSave) : (s.setAgeing x).saves = s.saves := (rfl)
@[simp] theorem State.setAgeing_clock (s : State) (x : AgeSave) : (s.setAgeing x).clock = s.clock := (rfl)
@[simp] theorem State.setAgeing_ageing (s : State) (x : AgeSave) : (s.setAgeing x).ageing = x := (rfl)
@[simp] theorem State.setAgeing_host (s : State) (x : AgeSave) : (s.setAgeing x).host = s.host := (rfl)
@[simp] theorem State.setAgeing_keyHashes (s : State) (x : AgeSave) : (s.setAgeing x).keyHashes = s.keyHashes := (rfl)
@[simp] theorem State.setHost_pending (s : State) (x : HostSt) : (s.setHost x).pending = s.pending := (rfl)
@[simp] theorem State.setHost_held (s : State) (x : HostSt) : (s.setHost x).held = s.held := (rfl)
@[simp] theorem State.setHost_boot (s : State) (x : HostSt) : (s.setHost x).boot = s.boot := (rfl)
@[simp] theorem State.setHost_bases (s : State) (x : HostSt) : (s.setHost x).bases = s.bases := (rfl)
@[simp] theorem State.setHost_regs (s : State) (x : HostSt) : (s.setHost x).regs = s.regs := (rfl)
@[simp] theorem State.setHost_snaps (s : State) (x : HostSt) : (s.setHost x).snaps = s.snaps := (rfl)
@[simp] theorem State.setHost_irq (s : State) (x : HostSt) : (s.setHost x).irq = s.irq := (rfl)
@[simp] theorem State.setHost_ledger (s : State) (x : HostSt) : (s.setHost x).ledger = s.ledger := (rfl)
@[simp] theorem State.setHost_draft (s : State) (x : HostSt) : (s.setHost x).draft = s.draft := (rfl)
@[simp] theorem State.setHost_archive (s : State) (x : HostSt) : (s.setHost x).archive = s.archive := (rfl)
@[simp] theorem State.setHost_stk (s : State) (x : HostSt) : (s.setHost x).stk = s.stk := (rfl)
@[simp] theorem State.setHost_out (s : State) (x : HostSt) : (s.setHost x).out = s.out := (rfl)
@[simp] theorem State.setHost_freeCount (s : State) (x : HostSt) : (s.setHost x).freeCount = s.freeCount := (rfl)
@[simp] theorem State.setHost_time (s : State) (x : HostSt) : (s.setHost x).time = s.time := (rfl)
@[simp] theorem State.setHost_vote (s : State) (x : HostSt) : (s.setHost x).vote = s.vote := (rfl)
@[simp] theorem State.setHost_fault (s : State) (x : HostSt) : (s.setHost x).fault = s.fault := (rfl)
@[simp] theorem State.setHost_pair (s : State) (x : HostSt) : (s.setHost x).pair = s.pair := (rfl)
@[simp] theorem State.setHost_power (s : State) (x : HostSt) : (s.setHost x).power = s.power := (rfl)
@[simp] theorem State.setHost_queues (s : State) (x : HostSt) : (s.setHost x).queues = s.queues := (rfl)
@[simp] theorem State.setHost_port (s : State) (x : HostSt) : (s.setHost x).port = s.port := (rfl)
@[simp] theorem State.setHost_hedQ (s : State) (x : HostSt) : (s.setHost x).hedQ = s.hedQ := (rfl)
@[simp] theorem State.setHost_heddle (s : State) (x : HostSt) : (s.setHost x).heddle = s.heddle := (rfl)
@[simp] theorem State.setHost_reedQ (s : State) (x : HostSt) : (s.setHost x).reedQ = s.reedQ := (rfl)
@[simp] theorem State.setHost_waveQ (s : State) (x : HostSt) : (s.setHost x).waveQ = s.waveQ := (rfl)
@[simp] theorem State.setHost_inputQ (s : State) (x : HostSt) : (s.setHost x).inputQ = s.inputQ := (rfl)
@[simp] theorem State.setHost_reed (s : State) (x : HostSt) : (s.setHost x).reed = s.reed := (rfl)
@[simp] theorem State.setHost_loomQ (s : State) (x : HostSt) : (s.setHost x).loomQ = s.loomQ := (rfl)
@[simp] theorem State.setHost_loom (s : State) (x : HostSt) : (s.setHost x).loom = s.loom := (rfl)
@[simp] theorem State.setHost_slv (s : State) (x : HostSt) : (s.setHost x).slv = s.slv := (rfl)
@[simp] theorem State.setHost_capt (s : State) (x : HostSt) : (s.setHost x).capt = s.capt := (rfl)
@[simp] theorem State.setHost_shuttle (s : State) (x : HostSt) : (s.setHost x).shuttle = s.shuttle := (rfl)
@[simp] theorem State.setHost_osc (s : State) (x : HostSt) : (s.setHost x).osc = s.osc := (rfl)
@[simp] theorem State.setHost_isle (s : State) (x : HostSt) : (s.setHost x).isle = s.isle := (rfl)
@[simp] theorem State.setHost_energy (s : State) (x : HostSt) : (s.setHost x).energy = s.energy := (rfl)
@[simp] theorem State.setHost_saves (s : State) (x : HostSt) : (s.setHost x).saves = s.saves := (rfl)
@[simp] theorem State.setHost_clock (s : State) (x : HostSt) : (s.setHost x).clock = s.clock := (rfl)
@[simp] theorem State.setHost_ageing (s : State) (x : HostSt) : (s.setHost x).ageing = s.ageing := (rfl)
@[simp] theorem State.setHost_host (s : State) (x : HostSt) : (s.setHost x).host = x := (rfl)
@[simp] theorem State.setHost_keyHashes (s : State) (x : HostSt) : (s.setHost x).keyHashes = s.keyHashes := (rfl)
@[simp] theorem State.setKeyHashes_pending (s : State) (x : SMap (List Byte)) : (s.setKeyHashes x).pending = s.pending := (rfl)
@[simp] theorem State.setKeyHashes_held (s : State) (x : SMap (List Byte)) : (s.setKeyHashes x).held = s.held := (rfl)
@[simp] theorem State.setKeyHashes_boot (s : State) (x : SMap (List Byte)) : (s.setKeyHashes x).boot = s.boot := (rfl)
@[simp] theorem State.setKeyHashes_bases (s : State) (x : SMap (List Byte)) : (s.setKeyHashes x).bases = s.bases := (rfl)
@[simp] theorem State.setKeyHashes_regs (s : State) (x : SMap (List Byte)) : (s.setKeyHashes x).regs = s.regs := (rfl)
@[simp] theorem State.setKeyHashes_snaps (s : State) (x : SMap (List Byte)) : (s.setKeyHashes x).snaps = s.snaps := (rfl)
@[simp] theorem State.setKeyHashes_irq (s : State) (x : SMap (List Byte)) : (s.setKeyHashes x).irq = s.irq := (rfl)
@[simp] theorem State.setKeyHashes_ledger (s : State) (x : SMap (List Byte)) : (s.setKeyHashes x).ledger = s.ledger := (rfl)
@[simp] theorem State.setKeyHashes_draft (s : State) (x : SMap (List Byte)) : (s.setKeyHashes x).draft = s.draft := (rfl)
@[simp] theorem State.setKeyHashes_archive (s : State) (x : SMap (List Byte)) : (s.setKeyHashes x).archive = s.archive := (rfl)
@[simp] theorem State.setKeyHashes_stk (s : State) (x : SMap (List Byte)) : (s.setKeyHashes x).stk = s.stk := (rfl)
@[simp] theorem State.setKeyHashes_out (s : State) (x : SMap (List Byte)) : (s.setKeyHashes x).out = s.out := (rfl)
@[simp] theorem State.setKeyHashes_freeCount (s : State) (x : SMap (List Byte)) : (s.setKeyHashes x).freeCount = s.freeCount := (rfl)
@[simp] theorem State.setKeyHashes_time (s : State) (x : SMap (List Byte)) : (s.setKeyHashes x).time = s.time := (rfl)
@[simp] theorem State.setKeyHashes_vote (s : State) (x : SMap (List Byte)) : (s.setKeyHashes x).vote = s.vote := (rfl)
@[simp] theorem State.setKeyHashes_fault (s : State) (x : SMap (List Byte)) : (s.setKeyHashes x).fault = s.fault := (rfl)
@[simp] theorem State.setKeyHashes_pair (s : State) (x : SMap (List Byte)) : (s.setKeyHashes x).pair = s.pair := (rfl)
@[simp] theorem State.setKeyHashes_power (s : State) (x : SMap (List Byte)) : (s.setKeyHashes x).power = s.power := (rfl)
@[simp] theorem State.setKeyHashes_queues (s : State) (x : SMap (List Byte)) : (s.setKeyHashes x).queues = s.queues := (rfl)
@[simp] theorem State.setKeyHashes_port (s : State) (x : SMap (List Byte)) : (s.setKeyHashes x).port = s.port := (rfl)
@[simp] theorem State.setKeyHashes_hedQ (s : State) (x : SMap (List Byte)) : (s.setKeyHashes x).hedQ = s.hedQ := (rfl)
@[simp] theorem State.setKeyHashes_heddle (s : State) (x : SMap (List Byte)) : (s.setKeyHashes x).heddle = s.heddle := (rfl)
@[simp] theorem State.setKeyHashes_reedQ (s : State) (x : SMap (List Byte)) : (s.setKeyHashes x).reedQ = s.reedQ := (rfl)
@[simp] theorem State.setKeyHashes_waveQ (s : State) (x : SMap (List Byte)) : (s.setKeyHashes x).waveQ = s.waveQ := (rfl)
@[simp] theorem State.setKeyHashes_inputQ (s : State) (x : SMap (List Byte)) : (s.setKeyHashes x).inputQ = s.inputQ := (rfl)
@[simp] theorem State.setKeyHashes_reed (s : State) (x : SMap (List Byte)) : (s.setKeyHashes x).reed = s.reed := (rfl)
@[simp] theorem State.setKeyHashes_loomQ (s : State) (x : SMap (List Byte)) : (s.setKeyHashes x).loomQ = s.loomQ := (rfl)
@[simp] theorem State.setKeyHashes_loom (s : State) (x : SMap (List Byte)) : (s.setKeyHashes x).loom = s.loom := (rfl)
@[simp] theorem State.setKeyHashes_slv (s : State) (x : SMap (List Byte)) : (s.setKeyHashes x).slv = s.slv := (rfl)
@[simp] theorem State.setKeyHashes_capt (s : State) (x : SMap (List Byte)) : (s.setKeyHashes x).capt = s.capt := (rfl)
@[simp] theorem State.setKeyHashes_shuttle (s : State) (x : SMap (List Byte)) : (s.setKeyHashes x).shuttle = s.shuttle := (rfl)
@[simp] theorem State.setKeyHashes_osc (s : State) (x : SMap (List Byte)) : (s.setKeyHashes x).osc = s.osc := (rfl)
@[simp] theorem State.setKeyHashes_isle (s : State) (x : SMap (List Byte)) : (s.setKeyHashes x).isle = s.isle := (rfl)
@[simp] theorem State.setKeyHashes_energy (s : State) (x : SMap (List Byte)) : (s.setKeyHashes x).energy = s.energy := (rfl)
@[simp] theorem State.setKeyHashes_saves (s : State) (x : SMap (List Byte)) : (s.setKeyHashes x).saves = s.saves := (rfl)
@[simp] theorem State.setKeyHashes_clock (s : State) (x : SMap (List Byte)) : (s.setKeyHashes x).clock = s.clock := (rfl)
@[simp] theorem State.setKeyHashes_ageing (s : State) (x : SMap (List Byte)) : (s.setKeyHashes x).ageing = s.ageing := (rfl)
@[simp] theorem State.setKeyHashes_host (s : State) (x : SMap (List Byte)) : (s.setKeyHashes x).host = s.host := (rfl)
@[simp] theorem State.setKeyHashes_keyHashes (s : State) (x : SMap (List Byte)) : (s.setKeyHashes x).keyHashes = x := (rfl)

end Sys2Proof.Machine
end

