-- ==== Sys2Proof/Laws/Keeps.lean ====
section
/-!
SUPPORT. Sys2Proof/Laws/Keeps.lean: what the shared operations leave alone. Registers, interrupt registers, the Ledger, what is driven
and the mirror queue are all that an event, an interrupt cause or a host error writes.
-/

namespace Sys2Proof.Machine

/-- Everything but the registers, the interrupt registers, the Ledger, what is driven and SLV is the same. -/
structure Keeps (s u : State) : Prop where
  pending : u.pending = s.pending
  held : u.held = s.held
  boot : u.boot = s.boot
  bases : u.bases = s.bases
  snaps : u.snaps = s.snaps
  draft : u.draft = s.draft
  archive : u.archive = s.archive
  stk : u.stk = s.stk
  freeCount : u.freeCount = s.freeCount
  time : u.time = s.time
  vote : u.vote = s.vote
  fault : u.fault = s.fault
  pair : u.pair = s.pair
  power : u.power = s.power
  queues : u.queues = s.queues
  port : u.port = s.port
  hedQ : u.hedQ = s.hedQ
  heddle : u.heddle = s.heddle
  reedQ : u.reedQ = s.reedQ
  waveQ : u.waveQ = s.waveQ
  inputQ : u.inputQ = s.inputQ
  reed : u.reed = s.reed
  loomQ : u.loomQ = s.loomQ
  loom : u.loom = s.loom
  capt : u.capt = s.capt
  shuttle : u.shuttle = s.shuttle
  osc : u.osc = s.osc
  isle : u.isle = s.isle
  energy : u.energy = s.energy
  saves : u.saves = s.saves
  clock : u.clock = s.clock
  ageing : u.ageing = s.ageing
  host : u.host = s.host
  keyHashes : u.keyHashes = s.keyHashes

theorem Keeps.refl (s : State) : Keeps s s := ⟨rfl, rfl, rfl, rfl, rfl, rfl, rfl, rfl, rfl, rfl, rfl, rfl, rfl, rfl, rfl, rfl, rfl, rfl, rfl, rfl, rfl, rfl, rfl, rfl, rfl, rfl, rfl, rfl, rfl, rfl, rfl, rfl, rfl, rfl⟩

theorem Keeps.trans {s u v : State} (h : Keeps s u) (k : Keeps u v) : Keeps s v :=
  ⟨k.pending.trans h.pending,
   k.held.trans h.held,
   k.boot.trans h.boot,
   k.bases.trans h.bases,
   k.snaps.trans h.snaps,
   k.draft.trans h.draft,
   k.archive.trans h.archive,
   k.stk.trans h.stk,
   k.freeCount.trans h.freeCount,
   k.time.trans h.time,
   k.vote.trans h.vote,
   k.fault.trans h.fault,
   k.pair.trans h.pair,
   k.power.trans h.power,
   k.queues.trans h.queues,
   k.port.trans h.port,
   k.hedQ.trans h.hedQ,
   k.heddle.trans h.heddle,
   k.reedQ.trans h.reedQ,
   k.waveQ.trans h.waveQ,
   k.inputQ.trans h.inputQ,
   k.reed.trans h.reed,
   k.loomQ.trans h.loomQ,
   k.loom.trans h.loom,
   k.capt.trans h.capt,
   k.shuttle.trans h.shuttle,
   k.osc.trans h.osc,
   k.isle.trans h.isle,
   k.energy.trans h.energy,
   k.saves.trans h.saves,
   k.clock.trans h.clock,
   k.ageing.trans h.ageing,
   k.host.trans h.host,
   k.keyHashes.trans h.keyHashes⟩

theorem Keeps.setIrq {s u : State} (h : Keeps s u) (x : SMap IrqBlk) : Keeps s (u.setIrq x) :=
  ⟨h.pending, h.held, h.boot, h.bases, h.snaps, h.draft, h.archive, h.stk, h.freeCount, h.time, h.vote, h.fault, h.pair, h.power, h.queues, h.port, h.hedQ, h.heddle, h.reedQ, h.waveQ, h.inputQ, h.reed, h.loomQ, h.loom, h.capt, h.shuttle, h.osc, h.isle, h.energy, h.saves, h.clock, h.ageing, h.host, h.keyHashes⟩

theorem Keeps.setLedger {s u : State} (h : Keeps s u) (x : LedgerSt) : Keeps s (u.setLedger x) :=
  ⟨h.pending, h.held, h.boot, h.bases, h.snaps, h.draft, h.archive, h.stk, h.freeCount, h.time, h.vote, h.fault, h.pair, h.power, h.queues, h.port, h.hedQ, h.heddle, h.reedQ, h.waveQ, h.inputQ, h.reed, h.loomQ, h.loom, h.capt, h.shuttle, h.osc, h.isle, h.energy, h.saves, h.clock, h.ageing, h.host, h.keyHashes⟩

theorem Keeps.setOut {s u : State} (h : Keeps s u) (x : List Output) : Keeps s (u.setOut x) :=
  ⟨h.pending, h.held, h.boot, h.bases, h.snaps, h.draft, h.archive, h.stk, h.freeCount, h.time, h.vote, h.fault, h.pair, h.power, h.queues, h.port, h.hedQ, h.heddle, h.reedQ, h.waveQ, h.inputQ, h.reed, h.loomQ, h.loom, h.capt, h.shuttle, h.osc, h.isle, h.energy, h.saves, h.clock, h.ageing, h.host, h.keyHashes⟩

theorem Keeps.setRegs {s u : State} (h : Keeps s u) (x : SMap Word) : Keeps s (u.setRegs x) :=
  ⟨h.pending, h.held, h.boot, h.bases, h.snaps, h.draft, h.archive, h.stk, h.freeCount, h.time, h.vote, h.fault, h.pair, h.power, h.queues, h.port, h.hedQ, h.heddle, h.reedQ, h.waveQ, h.inputQ, h.reed, h.loomQ, h.loom, h.capt, h.shuttle, h.osc, h.isle, h.energy, h.saves, h.clock, h.ageing, h.host, h.keyHashes⟩

theorem Keeps.setSlv {s u : State} (h : Keeps s u) (x : SlvSt) : Keeps s (u.setSlv x) :=
  ⟨h.pending, h.held, h.boot, h.bases, h.snaps, h.draft, h.archive, h.stk, h.freeCount, h.time, h.vote, h.fault, h.pair, h.power, h.queues, h.port, h.hedQ, h.heddle, h.reedQ, h.waveQ, h.inputQ, h.reed, h.loomQ, h.loom, h.capt, h.shuttle, h.osc, h.isle, h.energy, h.saves, h.clock, h.ageing, h.host, h.keyHashes⟩


theorem Keeps.putReg {s u : State} (h : Keeps s u) (a v : Nat) : Keeps s (u.putReg a v) := h.setRegs _
theorem Keeps.putFld {s u : State} (h : Keeps s u) (f : Fld) (v : Nat) : Keeps s (u.putFld f v) := h.setRegs _
theorem Keeps.count {s u : State} (h : Keeps s u) (a n : Nat) : Keeps s (u.count a n) := h.setRegs _
theorem Keeps.countSat {s u : State} (h : Keeps s u) (a n : Nat) : Keeps s (u.countSat a n) := h.setRegs _
theorem Keeps.putPair {s u : State} (h : Keeps s u) (a v : Nat) : Keeps s (u.putPair a v) := (h.setRegs _).setRegs _
theorem Keeps.emit {s u : State} (h : Keeps s u) (o : Output) : Keeps s (u.emit o) := h.setOut _

theorem Keeps.putDomain {s u : State} (h : Keeps s u) (d v : Nat) : Keeps s (u.putDomain d v) := by
  unfold State.putDomain
  split
  · exact h
  · exact h.putReg _ _

theorem Keeps.drive {s u : State} (h : Keeps s u) (b : Ball) (l : Bool) : Keeps s (u.drive b l) := by
  unfold State.drive
  split
  · exact h
  · exact h.emit _

theorem Keeps.signal {s u : State} (h : Keeps s u) (v : Nat) : Keeps s (u.signal v) := by
  unfold State.signal
  split
  · exact h.putReg _ _
  · split
    · exact h.emit _
    · exact h

theorem Keeps.raise {s u : State} (h : Keeps s u) (c : Nat × Nat) : Keeps s (u.raise c) := by
  unfold State.raise
  dsimp only
  split
  · exact (h.setIrq _).signal _
  · exact h.setIrq _

theorem Keeps.mirrorSend {s u : State} (h : Keeps s u) (k : Nat) (l : List Byte) : Keeps s (u.mirrorSend k l) := by
  unfold State.mirrorSend
  split
  · exact ((h.setSlv _).count _ _).emit _
  · exact h

theorem Keeps.mirrorRecord {s u : State} (h : Keeps s u) : Keeps s u.mirrorRecord := by
  unfold State.mirrorRecord
  split
  · exact h.mirrorSend _ _
  · exact h

theorem Keeps.lostEvent {s u : State} (h : Keeps s u) (code : Nat) : Keeps s (lostEvent u code) := by
  unfold Machine.lostEvent
  dsimp only
  split
  · exact (h.setLedger _).raise _
  · split
    · exact h.setLedger _
    · exact h.setLedger _

theorem Keeps.reportLoss {s u : State} (h : Keeps s u) (n tai e c : Nat) : Keeps s (u.reportLoss n tai e c) := by
  unfold State.reportLoss
  dsimp only
  split
  · exact (h.setLedger _).raise _
  · exact h.setLedger _

theorem Keeps.stageEvent {s u : State} (h : Keeps s u) (l : LedgerSt) (code src : Nat) (p : List Byte) (c : Bool) :
    Keeps s (u.stageEvent l code src p c) := by
  unfold State.stageEvent
  split
  · exact (h.setLedger _).lostEvent _
  · exact (h.setLedger _).mirrorRecord

theorem Keeps.event {s u : State} (h : Keeps s u) (code src : Nat) (p : List Byte) : Keeps s (u.event code src p) := by
  unfold State.event
  split
  · exact h.setLedger _
  · split
    · exact h.setLedger _
    · exact h.stageEvent _ _ _ _ _
    · exact h.stageEvent _ _ _ _ _

theorem Keeps.reject {s u : State} (h : Keeps s u) (p : Path) (a : Nat) : Keeps s (u.reject p a) := by
  unfold State.reject
  dsimp only
  split
  · exact h
  · exact (h.putReg _ _).count _ _

theorem Keeps.hostErr {s u : State} (h : Keeps s u) (p : Path) (b c a : Nat) : Keeps s (u.hostErr p b c a) := by
  have h1 := (h.putPair R.HOST_ERR_ADDR_LO a).putReg R.HOST_ERR_CAUSE (2 ^ 8 * p.code + 2 ^ 4 * b + c)
  unfold State.hostErr
  dsimp only
  split
  · exact ((h1.count _ _).event _ _ _).raise _
  · split
    · exact ((h1.count _ _).event _ _ _).raise _
    · split
      · exact ((h1.count _ _).event _ _ _).raise _
      · exact (h1.event _ _ _).raise _

theorem Keeps.notMaster {s u : State} (h : Keeps s u) (p : Path) (a : Nat) : Keeps s (u.notMaster p a) :=
  (h.reject _ _).hostErr _ _ _ _

theorem Keeps.monNote {s u : State} (h : Keeps s u) (p : Path) (a v : Nat) : Keeps s (u.monNote p a v) := by
  unfold State.monNote
  dsimp only
  split
  · exact h
  · exact ((h.count _ _).event _ _ _).raise _

@[simp] theorem State.at_pending (s : State) (t : Nat) : (s.at t).pending = s.pending := (rfl)
@[simp] theorem State.at_held (s : State) (t : Nat) : (s.at t).held = s.held := (rfl)
@[simp] theorem State.at_boot (s : State) (t : Nat) : (s.at t).boot = s.boot := (rfl)
@[simp] theorem State.at_regs (s : State) (t : Nat) : (s.at t).regs = s.regs := (rfl)
@[simp] theorem State.at_snaps (s : State) (t : Nat) : (s.at t).snaps = s.snaps := (rfl)
@[simp] theorem State.at_irq (s : State) (t : Nat) : (s.at t).irq = s.irq := (rfl)
@[simp] theorem State.at_ledger (s : State) (t : Nat) : (s.at t).ledger = s.ledger := (rfl)
@[simp] theorem State.at_draft (s : State) (t : Nat) : (s.at t).draft = s.draft := (rfl)
@[simp] theorem State.at_archive (s : State) (t : Nat) : (s.at t).archive = s.archive := (rfl)
@[simp] theorem State.at_stk (s : State) (t : Nat) : (s.at t).stk = s.stk := (rfl)
@[simp] theorem State.at_out (s : State) (t : Nat) : (s.at t).out = s.out := (rfl)
@[simp] theorem State.at_freeCount (s : State) (t : Nat) : (s.at t).freeCount = s.freeCount := (rfl)
@[simp] theorem State.at_vote (s : State) (t : Nat) : (s.at t).vote = s.vote := (rfl)
@[simp] theorem State.at_fault (s : State) (t : Nat) : (s.at t).fault = s.fault := (rfl)
@[simp] theorem State.at_pair (s : State) (t : Nat) : (s.at t).pair = s.pair := (rfl)
@[simp] theorem State.at_power (s : State) (t : Nat) : (s.at t).power = s.power := (rfl)
@[simp] theorem State.at_queues (s : State) (t : Nat) : (s.at t).queues = s.queues := (rfl)
@[simp] theorem State.at_port (s : State) (t : Nat) : (s.at t).port = s.port := (rfl)
@[simp] theorem State.at_hedQ (s : State) (t : Nat) : (s.at t).hedQ = s.hedQ := (rfl)
@[simp] theorem State.at_heddle (s : State) (t : Nat) : (s.at t).heddle = s.heddle := (rfl)
@[simp] theorem State.at_reedQ (s : State) (t : Nat) : (s.at t).reedQ = s.reedQ := (rfl)
@[simp] theorem State.at_waveQ (s : State) (t : Nat) : (s.at t).waveQ = s.waveQ := (rfl)
@[simp] theorem State.at_inputQ (s : State) (t : Nat) : (s.at t).inputQ = s.inputQ := (rfl)
@[simp] theorem State.at_reed (s : State) (t : Nat) : (s.at t).reed = s.reed := (rfl)
@[simp] theorem State.at_loomQ (s : State) (t : Nat) : (s.at t).loomQ = s.loomQ := (rfl)
@[simp] theorem State.at_loom (s : State) (t : Nat) : (s.at t).loom = s.loom := (rfl)
@[simp] theorem State.at_slv (s : State) (t : Nat) : (s.at t).slv = s.slv := (rfl)
@[simp] theorem State.at_capt (s : State) (t : Nat) : (s.at t).capt = s.capt := (rfl)
@[simp] theorem State.at_shuttle (s : State) (t : Nat) : (s.at t).shuttle = s.shuttle := (rfl)
@[simp] theorem State.at_osc (s : State) (t : Nat) : (s.at t).osc = s.osc := (rfl)
@[simp] theorem State.at_isle (s : State) (t : Nat) : (s.at t).isle = s.isle := (rfl)
@[simp] theorem State.at_energy (s : State) (t : Nat) : (s.at t).energy = s.energy := (rfl)
@[simp] theorem State.at_saves (s : State) (t : Nat) : (s.at t).saves = s.saves := (rfl)
@[simp] theorem State.at_clock (s : State) (t : Nat) : (s.at t).clock = s.clock := (rfl)
@[simp] theorem State.at_ageing (s : State) (t : Nat) : (s.at t).ageing = s.ageing := (rfl)
@[simp] theorem State.at_host (s : State) (t : Nat) : (s.at t).host = s.host := (rfl)
@[simp] theorem State.at_keyHashes (s : State) (t : Nat) : (s.at t).keyHashes = s.keyHashes := (rfl)

@[simp] theorem State.emit_pending (s : State) (o : Output) : (s.emit o).pending = s.pending := (rfl)
@[simp] theorem State.emit_held (s : State) (o : Output) : (s.emit o).held = s.held := (rfl)
@[simp] theorem State.emit_boot (s : State) (o : Output) : (s.emit o).boot = s.boot := (rfl)
@[simp] theorem State.emit_bases (s : State) (o : Output) : (s.emit o).bases = s.bases := (rfl)
@[simp] theorem State.emit_regs (s : State) (o : Output) : (s.emit o).regs = s.regs := (rfl)
@[simp] theorem State.emit_snaps (s : State) (o : Output) : (s.emit o).snaps = s.snaps := (rfl)
@[simp] theorem State.emit_irq (s : State) (o : Output) : (s.emit o).irq = s.irq := (rfl)
@[simp] theorem State.emit_ledger (s : State) (o : Output) : (s.emit o).ledger = s.ledger := (rfl)
@[simp] theorem State.emit_draft (s : State) (o : Output) : (s.emit o).draft = s.draft := (rfl)
@[simp] theorem State.emit_archive (s : State) (o : Output) : (s.emit o).archive = s.archive := (rfl)
@[simp] theorem State.emit_stk (s : State) (o : Output) : (s.emit o).stk = s.stk := (rfl)
@[simp] theorem State.emit_freeCount (s : State) (o : Output) : (s.emit o).freeCount = s.freeCount := (rfl)
@[simp] theorem State.emit_time (s : State) (o : Output) : (s.emit o).time = s.time := (rfl)
@[simp] theorem State.emit_vote (s : State) (o : Output) : (s.emit o).vote = s.vote := (rfl)
@[simp] theorem State.emit_fault (s : State) (o : Output) : (s.emit o).fault = s.fault := (rfl)
@[simp] theorem State.emit_pair (s : State) (o : Output) : (s.emit o).pair = s.pair := (rfl)
@[simp] theorem State.emit_power (s : State) (o : Output) : (s.emit o).power = s.power := (rfl)
@[simp] theorem State.emit_queues (s : State) (o : Output) : (s.emit o).queues = s.queues := (rfl)
@[simp] theorem State.emit_port (s : State) (o : Output) : (s.emit o).port = s.port := (rfl)
@[simp] theorem State.emit_hedQ (s : State) (o : Output) : (s.emit o).hedQ = s.hedQ := (rfl)
@[simp] theorem State.emit_heddle (s : State) (o : Output) : (s.emit o).heddle = s.heddle := (rfl)
@[simp] theorem State.emit_reedQ (s : State) (o : Output) : (s.emit o).reedQ = s.reedQ := (rfl)
@[simp] theorem State.emit_waveQ (s : State) (o : Output) : (s.emit o).waveQ = s.waveQ := (rfl)
@[simp] theorem State.emit_inputQ (s : State) (o : Output) : (s.emit o).inputQ = s.inputQ := (rfl)
@[simp] theorem State.emit_reed (s : State) (o : Output) : (s.emit o).reed = s.reed := (rfl)
@[simp] theorem State.emit_loomQ (s : State) (o : Output) : (s.emit o).loomQ = s.loomQ := (rfl)
@[simp] theorem State.emit_loom (s : State) (o : Output) : (s.emit o).loom = s.loom := (rfl)
@[simp] theorem State.emit_slv (s : State) (o : Output) : (s.emit o).slv = s.slv := (rfl)
@[simp] theorem State.emit_capt (s : State) (o : Output) : (s.emit o).capt = s.capt := (rfl)
@[simp] theorem State.emit_shuttle (s : State) (o : Output) : (s.emit o).shuttle = s.shuttle := (rfl)
@[simp] theorem State.emit_osc (s : State) (o : Output) : (s.emit o).osc = s.osc := (rfl)
@[simp] theorem State.emit_isle (s : State) (o : Output) : (s.emit o).isle = s.isle := (rfl)
@[simp] theorem State.emit_energy (s : State) (o : Output) : (s.emit o).energy = s.energy := (rfl)
@[simp] theorem State.emit_saves (s : State) (o : Output) : (s.emit o).saves = s.saves := (rfl)
@[simp] theorem State.emit_clock (s : State) (o : Output) : (s.emit o).clock = s.clock := (rfl)
@[simp] theorem State.emit_ageing (s : State) (o : Output) : (s.emit o).ageing = s.ageing := (rfl)
@[simp] theorem State.emit_host (s : State) (o : Output) : (s.emit o).host = s.host := (rfl)
@[simp] theorem State.emit_keyHashes (s : State) (o : Output) : (s.emit o).keyHashes = s.keyHashes := (rfl)

@[simp] theorem State.draw_pending (s : State) : (s.draw).pending = s.pending := (rfl)
@[simp] theorem State.draw_held (s : State) : (s.draw).held = s.held := (rfl)
@[simp] theorem State.draw_boot (s : State) : (s.draw).boot = s.boot := (rfl)
@[simp] theorem State.draw_bases (s : State) : (s.draw).bases = s.bases := (rfl)
@[simp] theorem State.draw_regs (s : State) : (s.draw).regs = s.regs := (rfl)
@[simp] theorem State.draw_snaps (s : State) : (s.draw).snaps = s.snaps := (rfl)
@[simp] theorem State.draw_irq (s : State) : (s.draw).irq = s.irq := (rfl)
@[simp] theorem State.draw_ledger (s : State) : (s.draw).ledger = s.ledger := (rfl)
@[simp] theorem State.draw_draft (s : State) : (s.draw).draft = s.draft := (rfl)
@[simp] theorem State.draw_archive (s : State) : (s.draw).archive = s.archive := (rfl)
@[simp] theorem State.draw_stk (s : State) : (s.draw).stk = s.stk := (rfl)
@[simp] theorem State.draw_out (s : State) : (s.draw).out = s.out := (rfl)
@[simp] theorem State.draw_time (s : State) : (s.draw).time = s.time := (rfl)
@[simp] theorem State.draw_vote (s : State) : (s.draw).vote = s.vote := (rfl)
@[simp] theorem State.draw_fault (s : State) : (s.draw).fault = s.fault := (rfl)
@[simp] theorem State.draw_pair (s : State) : (s.draw).pair = s.pair := (rfl)
@[simp] theorem State.draw_power (s : State) : (s.draw).power = s.power := (rfl)
@[simp] theorem State.draw_queues (s : State) : (s.draw).queues = s.queues := (rfl)
@[simp] theorem State.draw_port (s : State) : (s.draw).port = s.port := (rfl)
@[simp] theorem State.draw_hedQ (s : State) : (s.draw).hedQ = s.hedQ := (rfl)
@[simp] theorem State.draw_heddle (s : State) : (s.draw).heddle = s.heddle := (rfl)
@[simp] theorem State.draw_reedQ (s : State) : (s.draw).reedQ = s.reedQ := (rfl)
@[simp] theorem State.draw_waveQ (s : State) : (s.draw).waveQ = s.waveQ := (rfl)
@[simp] theorem State.draw_inputQ (s : State) : (s.draw).inputQ = s.inputQ := (rfl)
@[simp] theorem State.draw_reed (s : State) : (s.draw).reed = s.reed := (rfl)
@[simp] theorem State.draw_loomQ (s : State) : (s.draw).loomQ = s.loomQ := (rfl)
@[simp] theorem State.draw_loom (s : State) : (s.draw).loom = s.loom := (rfl)
@[simp] theorem State.draw_slv (s : State) : (s.draw).slv = s.slv := (rfl)
@[simp] theorem State.draw_capt (s : State) : (s.draw).capt = s.capt := (rfl)
@[simp] theorem State.draw_shuttle (s : State) : (s.draw).shuttle = s.shuttle := (rfl)
@[simp] theorem State.draw_osc (s : State) : (s.draw).osc = s.osc := (rfl)
@[simp] theorem State.draw_isle (s : State) : (s.draw).isle = s.isle := (rfl)
@[simp] theorem State.draw_energy (s : State) : (s.draw).energy = s.energy := (rfl)
@[simp] theorem State.draw_saves (s : State) : (s.draw).saves = s.saves := (rfl)
@[simp] theorem State.draw_clock (s : State) : (s.draw).clock = s.clock := (rfl)
@[simp] theorem State.draw_ageing (s : State) : (s.draw).ageing = s.ageing := (rfl)
@[simp] theorem State.draw_host (s : State) : (s.draw).host = s.host := (rfl)
@[simp] theorem State.draw_keyHashes (s : State) : (s.draw).keyHashes = s.keyHashes := (rfl)

@[simp] theorem State.putReg_pending (s : State) (a v : Nat) : (s.putReg a v).pending = s.pending := (rfl)
@[simp] theorem State.putReg_held (s : State) (a v : Nat) : (s.putReg a v).held = s.held := (rfl)
@[simp] theorem State.putReg_boot (s : State) (a v : Nat) : (s.putReg a v).boot = s.boot := (rfl)
@[simp] theorem State.putReg_bases (s : State) (a v : Nat) : (s.putReg a v).bases = s.bases := (rfl)
@[simp] theorem State.putReg_snaps (s : State) (a v : Nat) : (s.putReg a v).snaps = s.snaps := (rfl)
@[simp] theorem State.putReg_irq (s : State) (a v : Nat) : (s.putReg a v).irq = s.irq := (rfl)
@[simp] theorem State.putReg_ledger (s : State) (a v : Nat) : (s.putReg a v).ledger = s.ledger := (rfl)
@[simp] theorem State.putReg_draft (s : State) (a v : Nat) : (s.putReg a v).draft = s.draft := (rfl)
@[simp] theorem State.putReg_archive (s : State) (a v : Nat) : (s.putReg a v).archive = s.archive := (rfl)
@[simp] theorem State.putReg_stk (s : State) (a v : Nat) : (s.putReg a v).stk = s.stk := (rfl)
@[simp] theorem State.putReg_out (s : State) (a v : Nat) : (s.putReg a v).out = s.out := (rfl)
@[simp] theorem State.putReg_freeCount (s : State) (a v : Nat) : (s.putReg a v).freeCount = s.freeCount := (rfl)
@[simp] theorem State.putReg_time (s : State) (a v : Nat) : (s.putReg a v).time = s.time := (rfl)
@[simp] theorem State.putReg_vote (s : State) (a v : Nat) : (s.putReg a v).vote = s.vote := (rfl)
@[simp] theorem State.putReg_fault (s : State) (a v : Nat) : (s.putReg a v).fault = s.fault := (rfl)
@[simp] theorem State.putReg_pair (s : State) (a v : Nat) : (s.putReg a v).pair = s.pair := (rfl)
@[simp] theorem State.putReg_power (s : State) (a v : Nat) : (s.putReg a v).power = s.power := (rfl)
@[simp] theorem State.putReg_queues (s : State) (a v : Nat) : (s.putReg a v).queues = s.queues := (rfl)
@[simp] theorem State.putReg_port (s : State) (a v : Nat) : (s.putReg a v).port = s.port := (rfl)
@[simp] theorem State.putReg_hedQ (s : State) (a v : Nat) : (s.putReg a v).hedQ = s.hedQ := (rfl)
@[simp] theorem State.putReg_heddle (s : State) (a v : Nat) : (s.putReg a v).heddle = s.heddle := (rfl)
@[simp] theorem State.putReg_reedQ (s : State) (a v : Nat) : (s.putReg a v).reedQ = s.reedQ := (rfl)
@[simp] theorem State.putReg_waveQ (s : State) (a v : Nat) : (s.putReg a v).waveQ = s.waveQ := (rfl)
@[simp] theorem State.putReg_inputQ (s : State) (a v : Nat) : (s.putReg a v).inputQ = s.inputQ := (rfl)
@[simp] theorem State.putReg_reed (s : State) (a v : Nat) : (s.putReg a v).reed = s.reed := (rfl)
@[simp] theorem State.putReg_loomQ (s : State) (a v : Nat) : (s.putReg a v).loomQ = s.loomQ := (rfl)
@[simp] theorem State.putReg_loom (s : State) (a v : Nat) : (s.putReg a v).loom = s.loom := (rfl)
@[simp] theorem State.putReg_slv (s : State) (a v : Nat) : (s.putReg a v).slv = s.slv := (rfl)
@[simp] theorem State.putReg_capt (s : State) (a v : Nat) : (s.putReg a v).capt = s.capt := (rfl)
@[simp] theorem State.putReg_shuttle (s : State) (a v : Nat) : (s.putReg a v).shuttle = s.shuttle := (rfl)
@[simp] theorem State.putReg_osc (s : State) (a v : Nat) : (s.putReg a v).osc = s.osc := (rfl)
@[simp] theorem State.putReg_isle (s : State) (a v : Nat) : (s.putReg a v).isle = s.isle := (rfl)
@[simp] theorem State.putReg_energy (s : State) (a v : Nat) : (s.putReg a v).energy = s.energy := (rfl)
@[simp] theorem State.putReg_saves (s : State) (a v : Nat) : (s.putReg a v).saves = s.saves := (rfl)
@[simp] theorem State.putReg_clock (s : State) (a v : Nat) : (s.putReg a v).clock = s.clock := (rfl)
@[simp] theorem State.putReg_ageing (s : State) (a v : Nat) : (s.putReg a v).ageing = s.ageing := (rfl)
@[simp] theorem State.putReg_host (s : State) (a v : Nat) : (s.putReg a v).host = s.host := (rfl)
@[simp] theorem State.putReg_keyHashes (s : State) (a v : Nat) : (s.putReg a v).keyHashes = s.keyHashes := (rfl)

@[simp] theorem State.putFld_pending (s : State) (f : Fld) (v : Nat) : (s.putFld f v).pending = s.pending := (rfl)
@[simp] theorem State.putFld_held (s : State) (f : Fld) (v : Nat) : (s.putFld f v).held = s.held := (rfl)
@[simp] theorem State.putFld_boot (s : State) (f : Fld) (v : Nat) : (s.putFld f v).boot = s.boot := (rfl)
@[simp] theorem State.putFld_bases (s : State) (f : Fld) (v : Nat) : (s.putFld f v).bases = s.bases := (rfl)
@[simp] theorem State.putFld_snaps (s : State) (f : Fld) (v : Nat) : (s.putFld f v).snaps = s.snaps := (rfl)
@[simp] theorem State.putFld_irq (s : State) (f : Fld) (v : Nat) : (s.putFld f v).irq = s.irq := (rfl)
@[simp] theorem State.putFld_ledger (s : State) (f : Fld) (v : Nat) : (s.putFld f v).ledger = s.ledger := (rfl)
@[simp] theorem State.putFld_draft (s : State) (f : Fld) (v : Nat) : (s.putFld f v).draft = s.draft := (rfl)
@[simp] theorem State.putFld_archive (s : State) (f : Fld) (v : Nat) : (s.putFld f v).archive = s.archive := (rfl)
@[simp] theorem State.putFld_stk (s : State) (f : Fld) (v : Nat) : (s.putFld f v).stk = s.stk := (rfl)
@[simp] theorem State.putFld_out (s : State) (f : Fld) (v : Nat) : (s.putFld f v).out = s.out := (rfl)
@[simp] theorem State.putFld_freeCount (s : State) (f : Fld) (v : Nat) : (s.putFld f v).freeCount = s.freeCount := (rfl)
@[simp] theorem State.putFld_time (s : State) (f : Fld) (v : Nat) : (s.putFld f v).time = s.time := (rfl)
@[simp] theorem State.putFld_vote (s : State) (f : Fld) (v : Nat) : (s.putFld f v).vote = s.vote := (rfl)
@[simp] theorem State.putFld_fault (s : State) (f : Fld) (v : Nat) : (s.putFld f v).fault = s.fault := (rfl)
@[simp] theorem State.putFld_pair (s : State) (f : Fld) (v : Nat) : (s.putFld f v).pair = s.pair := (rfl)
@[simp] theorem State.putFld_power (s : State) (f : Fld) (v : Nat) : (s.putFld f v).power = s.power := (rfl)
@[simp] theorem State.putFld_queues (s : State) (f : Fld) (v : Nat) : (s.putFld f v).queues = s.queues := (rfl)
@[simp] theorem State.putFld_port (s : State) (f : Fld) (v : Nat) : (s.putFld f v).port = s.port := (rfl)
@[simp] theorem State.putFld_hedQ (s : State) (f : Fld) (v : Nat) : (s.putFld f v).hedQ = s.hedQ := (rfl)
@[simp] theorem State.putFld_heddle (s : State) (f : Fld) (v : Nat) : (s.putFld f v).heddle = s.heddle := (rfl)
@[simp] theorem State.putFld_reedQ (s : State) (f : Fld) (v : Nat) : (s.putFld f v).reedQ = s.reedQ := (rfl)
@[simp] theorem State.putFld_waveQ (s : State) (f : Fld) (v : Nat) : (s.putFld f v).waveQ = s.waveQ := (rfl)
@[simp] theorem State.putFld_inputQ (s : State) (f : Fld) (v : Nat) : (s.putFld f v).inputQ = s.inputQ := (rfl)
@[simp] theorem State.putFld_reed (s : State) (f : Fld) (v : Nat) : (s.putFld f v).reed = s.reed := (rfl)
@[simp] theorem State.putFld_loomQ (s : State) (f : Fld) (v : Nat) : (s.putFld f v).loomQ = s.loomQ := (rfl)
@[simp] theorem State.putFld_loom (s : State) (f : Fld) (v : Nat) : (s.putFld f v).loom = s.loom := (rfl)
@[simp] theorem State.putFld_slv (s : State) (f : Fld) (v : Nat) : (s.putFld f v).slv = s.slv := (rfl)
@[simp] theorem State.putFld_capt (s : State) (f : Fld) (v : Nat) : (s.putFld f v).capt = s.capt := (rfl)
@[simp] theorem State.putFld_shuttle (s : State) (f : Fld) (v : Nat) : (s.putFld f v).shuttle = s.shuttle := (rfl)
@[simp] theorem State.putFld_osc (s : State) (f : Fld) (v : Nat) : (s.putFld f v).osc = s.osc := (rfl)
@[simp] theorem State.putFld_isle (s : State) (f : Fld) (v : Nat) : (s.putFld f v).isle = s.isle := (rfl)
@[simp] theorem State.putFld_energy (s : State) (f : Fld) (v : Nat) : (s.putFld f v).energy = s.energy := (rfl)
@[simp] theorem State.putFld_saves (s : State) (f : Fld) (v : Nat) : (s.putFld f v).saves = s.saves := (rfl)
@[simp] theorem State.putFld_clock (s : State) (f : Fld) (v : Nat) : (s.putFld f v).clock = s.clock := (rfl)
@[simp] theorem State.putFld_ageing (s : State) (f : Fld) (v : Nat) : (s.putFld f v).ageing = s.ageing := (rfl)
@[simp] theorem State.putFld_host (s : State) (f : Fld) (v : Nat) : (s.putFld f v).host = s.host := (rfl)
@[simp] theorem State.putFld_keyHashes (s : State) (f : Fld) (v : Nat) : (s.putFld f v).keyHashes = s.keyHashes := (rfl)

@[simp] theorem State.count_pending (s : State) (a n : Nat) : (s.count a n).pending = s.pending := (rfl)
@[simp] theorem State.count_held (s : State) (a n : Nat) : (s.count a n).held = s.held := (rfl)
@[simp] theorem State.count_boot (s : State) (a n : Nat) : (s.count a n).boot = s.boot := (rfl)
@[simp] theorem State.count_bases (s : State) (a n : Nat) : (s.count a n).bases = s.bases := (rfl)
@[simp] theorem State.count_snaps (s : State) (a n : Nat) : (s.count a n).snaps = s.snaps := (rfl)
@[simp] theorem State.count_irq (s : State) (a n : Nat) : (s.count a n).irq = s.irq := (rfl)
@[simp] theorem State.count_ledger (s : State) (a n : Nat) : (s.count a n).ledger = s.ledger := (rfl)
@[simp] theorem State.count_draft (s : State) (a n : Nat) : (s.count a n).draft = s.draft := (rfl)
@[simp] theorem State.count_archive (s : State) (a n : Nat) : (s.count a n).archive = s.archive := (rfl)
@[simp] theorem State.count_stk (s : State) (a n : Nat) : (s.count a n).stk = s.stk := (rfl)
@[simp] theorem State.count_out (s : State) (a n : Nat) : (s.count a n).out = s.out := (rfl)
@[simp] theorem State.count_freeCount (s : State) (a n : Nat) : (s.count a n).freeCount = s.freeCount := (rfl)
@[simp] theorem State.count_time (s : State) (a n : Nat) : (s.count a n).time = s.time := (rfl)
@[simp] theorem State.count_vote (s : State) (a n : Nat) : (s.count a n).vote = s.vote := (rfl)
@[simp] theorem State.count_fault (s : State) (a n : Nat) : (s.count a n).fault = s.fault := (rfl)
@[simp] theorem State.count_pair (s : State) (a n : Nat) : (s.count a n).pair = s.pair := (rfl)
@[simp] theorem State.count_power (s : State) (a n : Nat) : (s.count a n).power = s.power := (rfl)
@[simp] theorem State.count_queues (s : State) (a n : Nat) : (s.count a n).queues = s.queues := (rfl)
@[simp] theorem State.count_port (s : State) (a n : Nat) : (s.count a n).port = s.port := (rfl)
@[simp] theorem State.count_hedQ (s : State) (a n : Nat) : (s.count a n).hedQ = s.hedQ := (rfl)
@[simp] theorem State.count_heddle (s : State) (a n : Nat) : (s.count a n).heddle = s.heddle := (rfl)
@[simp] theorem State.count_reedQ (s : State) (a n : Nat) : (s.count a n).reedQ = s.reedQ := (rfl)
@[simp] theorem State.count_waveQ (s : State) (a n : Nat) : (s.count a n).waveQ = s.waveQ := (rfl)
@[simp] theorem State.count_inputQ (s : State) (a n : Nat) : (s.count a n).inputQ = s.inputQ := (rfl)
@[simp] theorem State.count_reed (s : State) (a n : Nat) : (s.count a n).reed = s.reed := (rfl)
@[simp] theorem State.count_loomQ (s : State) (a n : Nat) : (s.count a n).loomQ = s.loomQ := (rfl)
@[simp] theorem State.count_loom (s : State) (a n : Nat) : (s.count a n).loom = s.loom := (rfl)
@[simp] theorem State.count_slv (s : State) (a n : Nat) : (s.count a n).slv = s.slv := (rfl)
@[simp] theorem State.count_capt (s : State) (a n : Nat) : (s.count a n).capt = s.capt := (rfl)
@[simp] theorem State.count_shuttle (s : State) (a n : Nat) : (s.count a n).shuttle = s.shuttle := (rfl)
@[simp] theorem State.count_osc (s : State) (a n : Nat) : (s.count a n).osc = s.osc := (rfl)
@[simp] theorem State.count_isle (s : State) (a n : Nat) : (s.count a n).isle = s.isle := (rfl)
@[simp] theorem State.count_energy (s : State) (a n : Nat) : (s.count a n).energy = s.energy := (rfl)
@[simp] theorem State.count_saves (s : State) (a n : Nat) : (s.count a n).saves = s.saves := (rfl)
@[simp] theorem State.count_clock (s : State) (a n : Nat) : (s.count a n).clock = s.clock := (rfl)
@[simp] theorem State.count_ageing (s : State) (a n : Nat) : (s.count a n).ageing = s.ageing := (rfl)
@[simp] theorem State.count_host (s : State) (a n : Nat) : (s.count a n).host = s.host := (rfl)
@[simp] theorem State.count_keyHashes (s : State) (a n : Nat) : (s.count a n).keyHashes = s.keyHashes := (rfl)

@[simp] theorem State.countSat_pending (s : State) (a n : Nat) : (s.countSat a n).pending = s.pending := (rfl)
@[simp] theorem State.countSat_held (s : State) (a n : Nat) : (s.countSat a n).held = s.held := (rfl)
@[simp] theorem State.countSat_boot (s : State) (a n : Nat) : (s.countSat a n).boot = s.boot := (rfl)
@[simp] theorem State.countSat_bases (s : State) (a n : Nat) : (s.countSat a n).bases = s.bases := (rfl)
@[simp] theorem State.countSat_snaps (s : State) (a n : Nat) : (s.countSat a n).snaps = s.snaps := (rfl)
@[simp] theorem State.countSat_irq (s : State) (a n : Nat) : (s.countSat a n).irq = s.irq := (rfl)
@[simp] theorem State.countSat_ledger (s : State) (a n : Nat) : (s.countSat a n).ledger = s.ledger := (rfl)
@[simp] theorem State.countSat_draft (s : State) (a n : Nat) : (s.countSat a n).draft = s.draft := (rfl)
@[simp] theorem State.countSat_archive (s : State) (a n : Nat) : (s.countSat a n).archive = s.archive := (rfl)
@[simp] theorem State.countSat_stk (s : State) (a n : Nat) : (s.countSat a n).stk = s.stk := (rfl)
@[simp] theorem State.countSat_out (s : State) (a n : Nat) : (s.countSat a n).out = s.out := (rfl)
@[simp] theorem State.countSat_freeCount (s : State) (a n : Nat) : (s.countSat a n).freeCount = s.freeCount := (rfl)
@[simp] theorem State.countSat_time (s : State) (a n : Nat) : (s.countSat a n).time = s.time := (rfl)
@[simp] theorem State.countSat_vote (s : State) (a n : Nat) : (s.countSat a n).vote = s.vote := (rfl)
@[simp] theorem State.countSat_fault (s : State) (a n : Nat) : (s.countSat a n).fault = s.fault := (rfl)
@[simp] theorem State.countSat_pair (s : State) (a n : Nat) : (s.countSat a n).pair = s.pair := (rfl)
@[simp] theorem State.countSat_power (s : State) (a n : Nat) : (s.countSat a n).power = s.power := (rfl)
@[simp] theorem State.countSat_queues (s : State) (a n : Nat) : (s.countSat a n).queues = s.queues := (rfl)
@[simp] theorem State.countSat_port (s : State) (a n : Nat) : (s.countSat a n).port = s.port := (rfl)
@[simp] theorem State.countSat_hedQ (s : State) (a n : Nat) : (s.countSat a n).hedQ = s.hedQ := (rfl)
@[simp] theorem State.countSat_heddle (s : State) (a n : Nat) : (s.countSat a n).heddle = s.heddle := (rfl)
@[simp] theorem State.countSat_reedQ (s : State) (a n : Nat) : (s.countSat a n).reedQ = s.reedQ := (rfl)
@[simp] theorem State.countSat_waveQ (s : State) (a n : Nat) : (s.countSat a n).waveQ = s.waveQ := (rfl)
@[simp] theorem State.countSat_inputQ (s : State) (a n : Nat) : (s.countSat a n).inputQ = s.inputQ := (rfl)
@[simp] theorem State.countSat_reed (s : State) (a n : Nat) : (s.countSat a n).reed = s.reed := (rfl)
@[simp] theorem State.countSat_loomQ (s : State) (a n : Nat) : (s.countSat a n).loomQ = s.loomQ := (rfl)
@[simp] theorem State.countSat_loom (s : State) (a n : Nat) : (s.countSat a n).loom = s.loom := (rfl)
@[simp] theorem State.countSat_slv (s : State) (a n : Nat) : (s.countSat a n).slv = s.slv := (rfl)
@[simp] theorem State.countSat_capt (s : State) (a n : Nat) : (s.countSat a n).capt = s.capt := (rfl)
@[simp] theorem State.countSat_shuttle (s : State) (a n : Nat) : (s.countSat a n).shuttle = s.shuttle := (rfl)
@[simp] theorem State.countSat_osc (s : State) (a n : Nat) : (s.countSat a n).osc = s.osc := (rfl)
@[simp] theorem State.countSat_isle (s : State) (a n : Nat) : (s.countSat a n).isle = s.isle := (rfl)
@[simp] theorem State.countSat_energy (s : State) (a n : Nat) : (s.countSat a n).energy = s.energy := (rfl)
@[simp] theorem State.countSat_saves (s : State) (a n : Nat) : (s.countSat a n).saves = s.saves := (rfl)
@[simp] theorem State.countSat_clock (s : State) (a n : Nat) : (s.countSat a n).clock = s.clock := (rfl)
@[simp] theorem State.countSat_ageing (s : State) (a n : Nat) : (s.countSat a n).ageing = s.ageing := (rfl)
@[simp] theorem State.countSat_host (s : State) (a n : Nat) : (s.countSat a n).host = s.host := (rfl)
@[simp] theorem State.countSat_keyHashes (s : State) (a n : Nat) : (s.countSat a n).keyHashes = s.keyHashes := (rfl)

@[simp] theorem State.putPair_pending (s : State) (a v : Nat) : (s.putPair a v).pending = s.pending := (rfl)
@[simp] theorem State.putPair_held (s : State) (a v : Nat) : (s.putPair a v).held = s.held := (rfl)
@[simp] theorem State.putPair_boot (s : State) (a v : Nat) : (s.putPair a v).boot = s.boot := (rfl)
@[simp] theorem State.putPair_bases (s : State) (a v : Nat) : (s.putPair a v).bases = s.bases := (rfl)
@[simp] theorem State.putPair_snaps (s : State) (a v : Nat) : (s.putPair a v).snaps = s.snaps := (rfl)
@[simp] theorem State.putPair_irq (s : State) (a v : Nat) : (s.putPair a v).irq = s.irq := (rfl)
@[simp] theorem State.putPair_ledger (s : State) (a v : Nat) : (s.putPair a v).ledger = s.ledger := (rfl)
@[simp] theorem State.putPair_draft (s : State) (a v : Nat) : (s.putPair a v).draft = s.draft := (rfl)
@[simp] theorem State.putPair_archive (s : State) (a v : Nat) : (s.putPair a v).archive = s.archive := (rfl)
@[simp] theorem State.putPair_stk (s : State) (a v : Nat) : (s.putPair a v).stk = s.stk := (rfl)
@[simp] theorem State.putPair_out (s : State) (a v : Nat) : (s.putPair a v).out = s.out := (rfl)
@[simp] theorem State.putPair_freeCount (s : State) (a v : Nat) : (s.putPair a v).freeCount = s.freeCount := (rfl)
@[simp] theorem State.putPair_time (s : State) (a v : Nat) : (s.putPair a v).time = s.time := (rfl)
@[simp] theorem State.putPair_vote (s : State) (a v : Nat) : (s.putPair a v).vote = s.vote := (rfl)
@[simp] theorem State.putPair_fault (s : State) (a v : Nat) : (s.putPair a v).fault = s.fault := (rfl)
@[simp] theorem State.putPair_pair (s : State) (a v : Nat) : (s.putPair a v).pair = s.pair := (rfl)
@[simp] theorem State.putPair_power (s : State) (a v : Nat) : (s.putPair a v).power = s.power := (rfl)
@[simp] theorem State.putPair_queues (s : State) (a v : Nat) : (s.putPair a v).queues = s.queues := (rfl)
@[simp] theorem State.putPair_port (s : State) (a v : Nat) : (s.putPair a v).port = s.port := (rfl)
@[simp] theorem State.putPair_hedQ (s : State) (a v : Nat) : (s.putPair a v).hedQ = s.hedQ := (rfl)
@[simp] theorem State.putPair_heddle (s : State) (a v : Nat) : (s.putPair a v).heddle = s.heddle := (rfl)
@[simp] theorem State.putPair_reedQ (s : State) (a v : Nat) : (s.putPair a v).reedQ = s.reedQ := (rfl)
@[simp] theorem State.putPair_waveQ (s : State) (a v : Nat) : (s.putPair a v).waveQ = s.waveQ := (rfl)
@[simp] theorem State.putPair_inputQ (s : State) (a v : Nat) : (s.putPair a v).inputQ = s.inputQ := (rfl)
@[simp] theorem State.putPair_reed (s : State) (a v : Nat) : (s.putPair a v).reed = s.reed := (rfl)
@[simp] theorem State.putPair_loomQ (s : State) (a v : Nat) : (s.putPair a v).loomQ = s.loomQ := (rfl)
@[simp] theorem State.putPair_loom (s : State) (a v : Nat) : (s.putPair a v).loom = s.loom := (rfl)
@[simp] theorem State.putPair_slv (s : State) (a v : Nat) : (s.putPair a v).slv = s.slv := (rfl)
@[simp] theorem State.putPair_capt (s : State) (a v : Nat) : (s.putPair a v).capt = s.capt := (rfl)
@[simp] theorem State.putPair_shuttle (s : State) (a v : Nat) : (s.putPair a v).shuttle = s.shuttle := (rfl)
@[simp] theorem State.putPair_osc (s : State) (a v : Nat) : (s.putPair a v).osc = s.osc := (rfl)
@[simp] theorem State.putPair_isle (s : State) (a v : Nat) : (s.putPair a v).isle = s.isle := (rfl)
@[simp] theorem State.putPair_energy (s : State) (a v : Nat) : (s.putPair a v).energy = s.energy := (rfl)
@[simp] theorem State.putPair_saves (s : State) (a v : Nat) : (s.putPair a v).saves = s.saves := (rfl)
@[simp] theorem State.putPair_clock (s : State) (a v : Nat) : (s.putPair a v).clock = s.clock := (rfl)
@[simp] theorem State.putPair_ageing (s : State) (a v : Nat) : (s.putPair a v).ageing = s.ageing := (rfl)
@[simp] theorem State.putPair_host (s : State) (a v : Nat) : (s.putPair a v).host = s.host := (rfl)
@[simp] theorem State.putPair_keyHashes (s : State) (a v : Nat) : (s.putPair a v).keyHashes = s.keyHashes := (rfl)

@[simp] theorem State.putDomain_pending (s : State) (d v : Nat) : (s.putDomain d v).pending = s.pending := ((Keeps.refl s).putDomain d v).pending
@[simp] theorem State.putDomain_held (s : State) (d v : Nat) : (s.putDomain d v).held = s.held := ((Keeps.refl s).putDomain d v).held
@[simp] theorem State.putDomain_boot (s : State) (d v : Nat) : (s.putDomain d v).boot = s.boot := ((Keeps.refl s).putDomain d v).boot
@[simp] theorem State.putDomain_bases (s : State) (d v : Nat) : (s.putDomain d v).bases = s.bases := ((Keeps.refl s).putDomain d v).bases
@[simp] theorem State.putDomain_snaps (s : State) (d v : Nat) : (s.putDomain d v).snaps = s.snaps := ((Keeps.refl s).putDomain d v).snaps
@[simp] theorem State.putDomain_draft (s : State) (d v : Nat) : (s.putDomain d v).draft = s.draft := ((Keeps.refl s).putDomain d v).draft
@[simp] theorem State.putDomain_archive (s : State) (d v : Nat) : (s.putDomain d v).archive = s.archive := ((Keeps.refl s).putDomain d v).archive
@[simp] theorem State.putDomain_stk (s : State) (d v : Nat) : (s.putDomain d v).stk = s.stk := ((Keeps.refl s).putDomain d v).stk
@[simp] theorem State.putDomain_freeCount (s : State) (d v : Nat) : (s.putDomain d v).freeCount = s.freeCount := ((Keeps.refl s).putDomain d v).freeCount
@[simp] theorem State.putDomain_time (s : State) (d v : Nat) : (s.putDomain d v).time = s.time := ((Keeps.refl s).putDomain d v).time
@[simp] theorem State.putDomain_vote (s : State) (d v : Nat) : (s.putDomain d v).vote = s.vote := ((Keeps.refl s).putDomain d v).vote
@[simp] theorem State.putDomain_fault (s : State) (d v : Nat) : (s.putDomain d v).fault = s.fault := ((Keeps.refl s).putDomain d v).fault
@[simp] theorem State.putDomain_pair (s : State) (d v : Nat) : (s.putDomain d v).pair = s.pair := ((Keeps.refl s).putDomain d v).pair
@[simp] theorem State.putDomain_power (s : State) (d v : Nat) : (s.putDomain d v).power = s.power := ((Keeps.refl s).putDomain d v).power
@[simp] theorem State.putDomain_queues (s : State) (d v : Nat) : (s.putDomain d v).queues = s.queues := ((Keeps.refl s).putDomain d v).queues
@[simp] theorem State.putDomain_port (s : State) (d v : Nat) : (s.putDomain d v).port = s.port := ((Keeps.refl s).putDomain d v).port
@[simp] theorem State.putDomain_hedQ (s : State) (d v : Nat) : (s.putDomain d v).hedQ = s.hedQ := ((Keeps.refl s).putDomain d v).hedQ
@[simp] theorem State.putDomain_heddle (s : State) (d v : Nat) : (s.putDomain d v).heddle = s.heddle := ((Keeps.refl s).putDomain d v).heddle
@[simp] theorem State.putDomain_reedQ (s : State) (d v : Nat) : (s.putDomain d v).reedQ = s.reedQ := ((Keeps.refl s).putDomain d v).reedQ
@[simp] theorem State.putDomain_waveQ (s : State) (d v : Nat) : (s.putDomain d v).waveQ = s.waveQ := ((Keeps.refl s).putDomain d v).waveQ
@[simp] theorem State.putDomain_inputQ (s : State) (d v : Nat) : (s.putDomain d v).inputQ = s.inputQ := ((Keeps.refl s).putDomain d v).inputQ
@[simp] theorem State.putDomain_reed (s : State) (d v : Nat) : (s.putDomain d v).reed = s.reed := ((Keeps.refl s).putDomain d v).reed
@[simp] theorem State.putDomain_loomQ (s : State) (d v : Nat) : (s.putDomain d v).loomQ = s.loomQ := ((Keeps.refl s).putDomain d v).loomQ
@[simp] theorem State.putDomain_loom (s : State) (d v : Nat) : (s.putDomain d v).loom = s.loom := ((Keeps.refl s).putDomain d v).loom
@[simp] theorem State.putDomain_capt (s : State) (d v : Nat) : (s.putDomain d v).capt = s.capt := ((Keeps.refl s).putDomain d v).capt
@[simp] theorem State.putDomain_shuttle (s : State) (d v : Nat) : (s.putDomain d v).shuttle = s.shuttle := ((Keeps.refl s).putDomain d v).shuttle
@[simp] theorem State.putDomain_osc (s : State) (d v : Nat) : (s.putDomain d v).osc = s.osc := ((Keeps.refl s).putDomain d v).osc
@[simp] theorem State.putDomain_isle (s : State) (d v : Nat) : (s.putDomain d v).isle = s.isle := ((Keeps.refl s).putDomain d v).isle
@[simp] theorem State.putDomain_energy (s : State) (d v : Nat) : (s.putDomain d v).energy = s.energy := ((Keeps.refl s).putDomain d v).energy
@[simp] theorem State.putDomain_saves (s : State) (d v : Nat) : (s.putDomain d v).saves = s.saves := ((Keeps.refl s).putDomain d v).saves
@[simp] theorem State.putDomain_clock (s : State) (d v : Nat) : (s.putDomain d v).clock = s.clock := ((Keeps.refl s).putDomain d v).clock
@[simp] theorem State.putDomain_ageing (s : State) (d v : Nat) : (s.putDomain d v).ageing = s.ageing := ((Keeps.refl s).putDomain d v).ageing
@[simp] theorem State.putDomain_host (s : State) (d v : Nat) : (s.putDomain d v).host = s.host := ((Keeps.refl s).putDomain d v).host
@[simp] theorem State.putDomain_keyHashes (s : State) (d v : Nat) : (s.putDomain d v).keyHashes = s.keyHashes := ((Keeps.refl s).putDomain d v).keyHashes
@[simp] theorem State.putDomain_irq (s : State) (d v : Nat) : (s.putDomain d v).irq = s.irq := by unfold State.putDomain; split <;> rfl
@[simp] theorem State.putDomain_ledger (s : State) (d v : Nat) : (s.putDomain d v).ledger = s.ledger := by unfold State.putDomain; split <;> rfl
@[simp] theorem State.putDomain_out (s : State) (d v : Nat) : (s.putDomain d v).out = s.out := by unfold State.putDomain; split <;> rfl
@[simp] theorem State.putDomain_slv (s : State) (d v : Nat) : (s.putDomain d v).slv = s.slv := by unfold State.putDomain; split <;> rfl

@[simp] theorem State.drive_pending (s : State) (b : Ball) (l : Bool) : (s.drive b l).pending = s.pending := ((Keeps.refl s).drive b l).pending
@[simp] theorem State.drive_held (s : State) (b : Ball) (l : Bool) : (s.drive b l).held = s.held := ((Keeps.refl s).drive b l).held
@[simp] theorem State.drive_boot (s : State) (b : Ball) (l : Bool) : (s.drive b l).boot = s.boot := ((Keeps.refl s).drive b l).boot
@[simp] theorem State.drive_bases (s : State) (b : Ball) (l : Bool) : (s.drive b l).bases = s.bases := ((Keeps.refl s).drive b l).bases
@[simp] theorem State.drive_snaps (s : State) (b : Ball) (l : Bool) : (s.drive b l).snaps = s.snaps := ((Keeps.refl s).drive b l).snaps
@[simp] theorem State.drive_draft (s : State) (b : Ball) (l : Bool) : (s.drive b l).draft = s.draft := ((Keeps.refl s).drive b l).draft
@[simp] theorem State.drive_archive (s : State) (b : Ball) (l : Bool) : (s.drive b l).archive = s.archive := ((Keeps.refl s).drive b l).archive
@[simp] theorem State.drive_stk (s : State) (b : Ball) (l : Bool) : (s.drive b l).stk = s.stk := ((Keeps.refl s).drive b l).stk
@[simp] theorem State.drive_freeCount (s : State) (b : Ball) (l : Bool) : (s.drive b l).freeCount = s.freeCount := ((Keeps.refl s).drive b l).freeCount
@[simp] theorem State.drive_time (s : State) (b : Ball) (l : Bool) : (s.drive b l).time = s.time := ((Keeps.refl s).drive b l).time
@[simp] theorem State.drive_vote (s : State) (b : Ball) (l : Bool) : (s.drive b l).vote = s.vote := ((Keeps.refl s).drive b l).vote
@[simp] theorem State.drive_fault (s : State) (b : Ball) (l : Bool) : (s.drive b l).fault = s.fault := ((Keeps.refl s).drive b l).fault
@[simp] theorem State.drive_pair (s : State) (b : Ball) (l : Bool) : (s.drive b l).pair = s.pair := ((Keeps.refl s).drive b l).pair
@[simp] theorem State.drive_power (s : State) (b : Ball) (l : Bool) : (s.drive b l).power = s.power := ((Keeps.refl s).drive b l).power
@[simp] theorem State.drive_queues (s : State) (b : Ball) (l : Bool) : (s.drive b l).queues = s.queues := ((Keeps.refl s).drive b l).queues
@[simp] theorem State.drive_port (s : State) (b : Ball) (l : Bool) : (s.drive b l).port = s.port := ((Keeps.refl s).drive b l).port
@[simp] theorem State.drive_hedQ (s : State) (b : Ball) (l : Bool) : (s.drive b l).hedQ = s.hedQ := ((Keeps.refl s).drive b l).hedQ
@[simp] theorem State.drive_heddle (s : State) (b : Ball) (l : Bool) : (s.drive b l).heddle = s.heddle := ((Keeps.refl s).drive b l).heddle
@[simp] theorem State.drive_reedQ (s : State) (b : Ball) (l : Bool) : (s.drive b l).reedQ = s.reedQ := ((Keeps.refl s).drive b l).reedQ
@[simp] theorem State.drive_waveQ (s : State) (b : Ball) (l : Bool) : (s.drive b l).waveQ = s.waveQ := ((Keeps.refl s).drive b l).waveQ
@[simp] theorem State.drive_inputQ (s : State) (b : Ball) (l : Bool) : (s.drive b l).inputQ = s.inputQ := ((Keeps.refl s).drive b l).inputQ
@[simp] theorem State.drive_reed (s : State) (b : Ball) (l : Bool) : (s.drive b l).reed = s.reed := ((Keeps.refl s).drive b l).reed
@[simp] theorem State.drive_loomQ (s : State) (b : Ball) (l : Bool) : (s.drive b l).loomQ = s.loomQ := ((Keeps.refl s).drive b l).loomQ
@[simp] theorem State.drive_loom (s : State) (b : Ball) (l : Bool) : (s.drive b l).loom = s.loom := ((Keeps.refl s).drive b l).loom
@[simp] theorem State.drive_capt (s : State) (b : Ball) (l : Bool) : (s.drive b l).capt = s.capt := ((Keeps.refl s).drive b l).capt
@[simp] theorem State.drive_shuttle (s : State) (b : Ball) (l : Bool) : (s.drive b l).shuttle = s.shuttle := ((Keeps.refl s).drive b l).shuttle
@[simp] theorem State.drive_osc (s : State) (b : Ball) (l : Bool) : (s.drive b l).osc = s.osc := ((Keeps.refl s).drive b l).osc
@[simp] theorem State.drive_isle (s : State) (b : Ball) (l : Bool) : (s.drive b l).isle = s.isle := ((Keeps.refl s).drive b l).isle
@[simp] theorem State.drive_energy (s : State) (b : Ball) (l : Bool) : (s.drive b l).energy = s.energy := ((Keeps.refl s).drive b l).energy
@[simp] theorem State.drive_saves (s : State) (b : Ball) (l : Bool) : (s.drive b l).saves = s.saves := ((Keeps.refl s).drive b l).saves
@[simp] theorem State.drive_clock (s : State) (b : Ball) (l : Bool) : (s.drive b l).clock = s.clock := ((Keeps.refl s).drive b l).clock
@[simp] theorem State.drive_ageing (s : State) (b : Ball) (l : Bool) : (s.drive b l).ageing = s.ageing := ((Keeps.refl s).drive b l).ageing
@[simp] theorem State.drive_host (s : State) (b : Ball) (l : Bool) : (s.drive b l).host = s.host := ((Keeps.refl s).drive b l).host
@[simp] theorem State.drive_keyHashes (s : State) (b : Ball) (l : Bool) : (s.drive b l).keyHashes = s.keyHashes := ((Keeps.refl s).drive b l).keyHashes
@[simp] theorem State.drive_irq (s : State) (b : Ball) (l : Bool) : (s.drive b l).irq = s.irq := by unfold State.drive; split <;> rfl
@[simp] theorem State.drive_ledger (s : State) (b : Ball) (l : Bool) : (s.drive b l).ledger = s.ledger := by unfold State.drive; split <;> rfl
@[simp] theorem State.drive_regs (s : State) (b : Ball) (l : Bool) : (s.drive b l).regs = s.regs := by unfold State.drive; split <;> rfl
@[simp] theorem State.drive_slv (s : State) (b : Ball) (l : Bool) : (s.drive b l).slv = s.slv := by unfold State.drive; split <;> rfl

@[simp] theorem State.signal_pending (s : State) (v : Nat) : (s.signal v).pending = s.pending := ((Keeps.refl s).signal v).pending
@[simp] theorem State.signal_held (s : State) (v : Nat) : (s.signal v).held = s.held := ((Keeps.refl s).signal v).held
@[simp] theorem State.signal_boot (s : State) (v : Nat) : (s.signal v).boot = s.boot := ((Keeps.refl s).signal v).boot
@[simp] theorem State.signal_bases (s : State) (v : Nat) : (s.signal v).bases = s.bases := ((Keeps.refl s).signal v).bases
@[simp] theorem State.signal_snaps (s : State) (v : Nat) : (s.signal v).snaps = s.snaps := ((Keeps.refl s).signal v).snaps
@[simp] theorem State.signal_draft (s : State) (v : Nat) : (s.signal v).draft = s.draft := ((Keeps.refl s).signal v).draft
@[simp] theorem State.signal_archive (s : State) (v : Nat) : (s.signal v).archive = s.archive := ((Keeps.refl s).signal v).archive
@[simp] theorem State.signal_stk (s : State) (v : Nat) : (s.signal v).stk = s.stk := ((Keeps.refl s).signal v).stk
@[simp] theorem State.signal_freeCount (s : State) (v : Nat) : (s.signal v).freeCount = s.freeCount := ((Keeps.refl s).signal v).freeCount
@[simp] theorem State.signal_time (s : State) (v : Nat) : (s.signal v).time = s.time := ((Keeps.refl s).signal v).time
@[simp] theorem State.signal_vote (s : State) (v : Nat) : (s.signal v).vote = s.vote := ((Keeps.refl s).signal v).vote
@[simp] theorem State.signal_fault (s : State) (v : Nat) : (s.signal v).fault = s.fault := ((Keeps.refl s).signal v).fault
@[simp] theorem State.signal_pair (s : State) (v : Nat) : (s.signal v).pair = s.pair := ((Keeps.refl s).signal v).pair
@[simp] theorem State.signal_power (s : State) (v : Nat) : (s.signal v).power = s.power := ((Keeps.refl s).signal v).power
@[simp] theorem State.signal_queues (s : State) (v : Nat) : (s.signal v).queues = s.queues := ((Keeps.refl s).signal v).queues
@[simp] theorem State.signal_port (s : State) (v : Nat) : (s.signal v).port = s.port := ((Keeps.refl s).signal v).port
@[simp] theorem State.signal_hedQ (s : State) (v : Nat) : (s.signal v).hedQ = s.hedQ := ((Keeps.refl s).signal v).hedQ
@[simp] theorem State.signal_heddle (s : State) (v : Nat) : (s.signal v).heddle = s.heddle := ((Keeps.refl s).signal v).heddle
@[simp] theorem State.signal_reedQ (s : State) (v : Nat) : (s.signal v).reedQ = s.reedQ := ((Keeps.refl s).signal v).reedQ
@[simp] theorem State.signal_waveQ (s : State) (v : Nat) : (s.signal v).waveQ = s.waveQ := ((Keeps.refl s).signal v).waveQ
@[simp] theorem State.signal_inputQ (s : State) (v : Nat) : (s.signal v).inputQ = s.inputQ := ((Keeps.refl s).signal v).inputQ
@[simp] theorem State.signal_reed (s : State) (v : Nat) : (s.signal v).reed = s.reed := ((Keeps.refl s).signal v).reed
@[simp] theorem State.signal_loomQ (s : State) (v : Nat) : (s.signal v).loomQ = s.loomQ := ((Keeps.refl s).signal v).loomQ
@[simp] theorem State.signal_loom (s : State) (v : Nat) : (s.signal v).loom = s.loom := ((Keeps.refl s).signal v).loom
@[simp] theorem State.signal_capt (s : State) (v : Nat) : (s.signal v).capt = s.capt := ((Keeps.refl s).signal v).capt
@[simp] theorem State.signal_shuttle (s : State) (v : Nat) : (s.signal v).shuttle = s.shuttle := ((Keeps.refl s).signal v).shuttle
@[simp] theorem State.signal_osc (s : State) (v : Nat) : (s.signal v).osc = s.osc := ((Keeps.refl s).signal v).osc
@[simp] theorem State.signal_isle (s : State) (v : Nat) : (s.signal v).isle = s.isle := ((Keeps.refl s).signal v).isle
@[simp] theorem State.signal_energy (s : State) (v : Nat) : (s.signal v).energy = s.energy := ((Keeps.refl s).signal v).energy
@[simp] theorem State.signal_saves (s : State) (v : Nat) : (s.signal v).saves = s.saves := ((Keeps.refl s).signal v).saves
@[simp] theorem State.signal_clock (s : State) (v : Nat) : (s.signal v).clock = s.clock := ((Keeps.refl s).signal v).clock
@[simp] theorem State.signal_ageing (s : State) (v : Nat) : (s.signal v).ageing = s.ageing := ((Keeps.refl s).signal v).ageing
@[simp] theorem State.signal_host (s : State) (v : Nat) : (s.signal v).host = s.host := ((Keeps.refl s).signal v).host
@[simp] theorem State.signal_keyHashes (s : State) (v : Nat) : (s.signal v).keyHashes = s.keyHashes := ((Keeps.refl s).signal v).keyHashes
@[simp] theorem State.signal_irq (s : State) (v : Nat) : (s.signal v).irq = s.irq := by unfold State.signal; split; rfl; split <;> rfl
@[simp] theorem State.signal_ledger (s : State) (v : Nat) : (s.signal v).ledger = s.ledger := by unfold State.signal; split; rfl; split <;> rfl
@[simp] theorem State.signal_slv (s : State) (v : Nat) : (s.signal v).slv = s.slv := by unfold State.signal; split; rfl; split <;> rfl

@[simp] theorem State.raise_pending (s : State) (c : Nat × Nat) : (s.raise c).pending = s.pending := ((Keeps.refl s).raise c).pending
@[simp] theorem State.raise_held (s : State) (c : Nat × Nat) : (s.raise c).held = s.held := ((Keeps.refl s).raise c).held
@[simp] theorem State.raise_boot (s : State) (c : Nat × Nat) : (s.raise c).boot = s.boot := ((Keeps.refl s).raise c).boot
@[simp] theorem State.raise_bases (s : State) (c : Nat × Nat) : (s.raise c).bases = s.bases := ((Keeps.refl s).raise c).bases
@[simp] theorem State.raise_snaps (s : State) (c : Nat × Nat) : (s.raise c).snaps = s.snaps := ((Keeps.refl s).raise c).snaps
@[simp] theorem State.raise_draft (s : State) (c : Nat × Nat) : (s.raise c).draft = s.draft := ((Keeps.refl s).raise c).draft
@[simp] theorem State.raise_archive (s : State) (c : Nat × Nat) : (s.raise c).archive = s.archive := ((Keeps.refl s).raise c).archive
@[simp] theorem State.raise_stk (s : State) (c : Nat × Nat) : (s.raise c).stk = s.stk := ((Keeps.refl s).raise c).stk
@[simp] theorem State.raise_freeCount (s : State) (c : Nat × Nat) : (s.raise c).freeCount = s.freeCount := ((Keeps.refl s).raise c).freeCount
@[simp] theorem State.raise_time (s : State) (c : Nat × Nat) : (s.raise c).time = s.time := ((Keeps.refl s).raise c).time
@[simp] theorem State.raise_vote (s : State) (c : Nat × Nat) : (s.raise c).vote = s.vote := ((Keeps.refl s).raise c).vote
@[simp] theorem State.raise_fault (s : State) (c : Nat × Nat) : (s.raise c).fault = s.fault := ((Keeps.refl s).raise c).fault
@[simp] theorem State.raise_pair (s : State) (c : Nat × Nat) : (s.raise c).pair = s.pair := ((Keeps.refl s).raise c).pair
@[simp] theorem State.raise_power (s : State) (c : Nat × Nat) : (s.raise c).power = s.power := ((Keeps.refl s).raise c).power
@[simp] theorem State.raise_queues (s : State) (c : Nat × Nat) : (s.raise c).queues = s.queues := ((Keeps.refl s).raise c).queues
@[simp] theorem State.raise_port (s : State) (c : Nat × Nat) : (s.raise c).port = s.port := ((Keeps.refl s).raise c).port
@[simp] theorem State.raise_hedQ (s : State) (c : Nat × Nat) : (s.raise c).hedQ = s.hedQ := ((Keeps.refl s).raise c).hedQ
@[simp] theorem State.raise_heddle (s : State) (c : Nat × Nat) : (s.raise c).heddle = s.heddle := ((Keeps.refl s).raise c).heddle
@[simp] theorem State.raise_reedQ (s : State) (c : Nat × Nat) : (s.raise c).reedQ = s.reedQ := ((Keeps.refl s).raise c).reedQ
@[simp] theorem State.raise_waveQ (s : State) (c : Nat × Nat) : (s.raise c).waveQ = s.waveQ := ((Keeps.refl s).raise c).waveQ
@[simp] theorem State.raise_inputQ (s : State) (c : Nat × Nat) : (s.raise c).inputQ = s.inputQ := ((Keeps.refl s).raise c).inputQ
@[simp] theorem State.raise_reed (s : State) (c : Nat × Nat) : (s.raise c).reed = s.reed := ((Keeps.refl s).raise c).reed
@[simp] theorem State.raise_loomQ (s : State) (c : Nat × Nat) : (s.raise c).loomQ = s.loomQ := ((Keeps.refl s).raise c).loomQ
@[simp] theorem State.raise_loom (s : State) (c : Nat × Nat) : (s.raise c).loom = s.loom := ((Keeps.refl s).raise c).loom
@[simp] theorem State.raise_capt (s : State) (c : Nat × Nat) : (s.raise c).capt = s.capt := ((Keeps.refl s).raise c).capt
@[simp] theorem State.raise_shuttle (s : State) (c : Nat × Nat) : (s.raise c).shuttle = s.shuttle := ((Keeps.refl s).raise c).shuttle
@[simp] theorem State.raise_osc (s : State) (c : Nat × Nat) : (s.raise c).osc = s.osc := ((Keeps.refl s).raise c).osc
@[simp] theorem State.raise_isle (s : State) (c : Nat × Nat) : (s.raise c).isle = s.isle := ((Keeps.refl s).raise c).isle
@[simp] theorem State.raise_energy (s : State) (c : Nat × Nat) : (s.raise c).energy = s.energy := ((Keeps.refl s).raise c).energy
@[simp] theorem State.raise_saves (s : State) (c : Nat × Nat) : (s.raise c).saves = s.saves := ((Keeps.refl s).raise c).saves
@[simp] theorem State.raise_clock (s : State) (c : Nat × Nat) : (s.raise c).clock = s.clock := ((Keeps.refl s).raise c).clock
@[simp] theorem State.raise_ageing (s : State) (c : Nat × Nat) : (s.raise c).ageing = s.ageing := ((Keeps.refl s).raise c).ageing
@[simp] theorem State.raise_host (s : State) (c : Nat × Nat) : (s.raise c).host = s.host := ((Keeps.refl s).raise c).host
@[simp] theorem State.raise_keyHashes (s : State) (c : Nat × Nat) : (s.raise c).keyHashes = s.keyHashes := ((Keeps.refl s).raise c).keyHashes
@[simp] theorem State.raise_ledger (s : State) (c : Nat × Nat) : (s.raise c).ledger = s.ledger := by unfold State.raise; dsimp only; split; rw [State.signal_ledger]; rfl; rfl
@[simp] theorem State.raise_slv (s : State) (c : Nat × Nat) : (s.raise c).slv = s.slv := by unfold State.raise; dsimp only; split; rw [State.signal_slv]; rfl; rfl

@[simp] theorem State.mirrorSend_pending (s : State) (k : Nat) (l : List Byte) : (s.mirrorSend k l).pending = s.pending := ((Keeps.refl s).mirrorSend k l).pending
@[simp] theorem State.mirrorSend_held (s : State) (k : Nat) (l : List Byte) : (s.mirrorSend k l).held = s.held := ((Keeps.refl s).mirrorSend k l).held
@[simp] theorem State.mirrorSend_boot (s : State) (k : Nat) (l : List Byte) : (s.mirrorSend k l).boot = s.boot := ((Keeps.refl s).mirrorSend k l).boot
@[simp] theorem State.mirrorSend_bases (s : State) (k : Nat) (l : List Byte) : (s.mirrorSend k l).bases = s.bases := ((Keeps.refl s).mirrorSend k l).bases
@[simp] theorem State.mirrorSend_snaps (s : State) (k : Nat) (l : List Byte) : (s.mirrorSend k l).snaps = s.snaps := ((Keeps.refl s).mirrorSend k l).snaps
@[simp] theorem State.mirrorSend_draft (s : State) (k : Nat) (l : List Byte) : (s.mirrorSend k l).draft = s.draft := ((Keeps.refl s).mirrorSend k l).draft
@[simp] theorem State.mirrorSend_archive (s : State) (k : Nat) (l : List Byte) : (s.mirrorSend k l).archive = s.archive := ((Keeps.refl s).mirrorSend k l).archive
@[simp] theorem State.mirrorSend_stk (s : State) (k : Nat) (l : List Byte) : (s.mirrorSend k l).stk = s.stk := ((Keeps.refl s).mirrorSend k l).stk
@[simp] theorem State.mirrorSend_freeCount (s : State) (k : Nat) (l : List Byte) : (s.mirrorSend k l).freeCount = s.freeCount := ((Keeps.refl s).mirrorSend k l).freeCount
@[simp] theorem State.mirrorSend_time (s : State) (k : Nat) (l : List Byte) : (s.mirrorSend k l).time = s.time := ((Keeps.refl s).mirrorSend k l).time
@[simp] theorem State.mirrorSend_vote (s : State) (k : Nat) (l : List Byte) : (s.mirrorSend k l).vote = s.vote := ((Keeps.refl s).mirrorSend k l).vote
@[simp] theorem State.mirrorSend_fault (s : State) (k : Nat) (l : List Byte) : (s.mirrorSend k l).fault = s.fault := ((Keeps.refl s).mirrorSend k l).fault
@[simp] theorem State.mirrorSend_pair (s : State) (k : Nat) (l : List Byte) : (s.mirrorSend k l).pair = s.pair := ((Keeps.refl s).mirrorSend k l).pair
@[simp] theorem State.mirrorSend_power (s : State) (k : Nat) (l : List Byte) : (s.mirrorSend k l).power = s.power := ((Keeps.refl s).mirrorSend k l).power
@[simp] theorem State.mirrorSend_queues (s : State) (k : Nat) (l : List Byte) : (s.mirrorSend k l).queues = s.queues := ((Keeps.refl s).mirrorSend k l).queues
@[simp] theorem State.mirrorSend_port (s : State) (k : Nat) (l : List Byte) : (s.mirrorSend k l).port = s.port := ((Keeps.refl s).mirrorSend k l).port
@[simp] theorem State.mirrorSend_hedQ (s : State) (k : Nat) (l : List Byte) : (s.mirrorSend k l).hedQ = s.hedQ := ((Keeps.refl s).mirrorSend k l).hedQ
@[simp] theorem State.mirrorSend_heddle (s : State) (k : Nat) (l : List Byte) : (s.mirrorSend k l).heddle = s.heddle := ((Keeps.refl s).mirrorSend k l).heddle
@[simp] theorem State.mirrorSend_reedQ (s : State) (k : Nat) (l : List Byte) : (s.mirrorSend k l).reedQ = s.reedQ := ((Keeps.refl s).mirrorSend k l).reedQ
@[simp] theorem State.mirrorSend_waveQ (s : State) (k : Nat) (l : List Byte) : (s.mirrorSend k l).waveQ = s.waveQ := ((Keeps.refl s).mirrorSend k l).waveQ
@[simp] theorem State.mirrorSend_inputQ (s : State) (k : Nat) (l : List Byte) : (s.mirrorSend k l).inputQ = s.inputQ := ((Keeps.refl s).mirrorSend k l).inputQ
@[simp] theorem State.mirrorSend_reed (s : State) (k : Nat) (l : List Byte) : (s.mirrorSend k l).reed = s.reed := ((Keeps.refl s).mirrorSend k l).reed
@[simp] theorem State.mirrorSend_loomQ (s : State) (k : Nat) (l : List Byte) : (s.mirrorSend k l).loomQ = s.loomQ := ((Keeps.refl s).mirrorSend k l).loomQ
@[simp] theorem State.mirrorSend_loom (s : State) (k : Nat) (l : List Byte) : (s.mirrorSend k l).loom = s.loom := ((Keeps.refl s).mirrorSend k l).loom
@[simp] theorem State.mirrorSend_capt (s : State) (k : Nat) (l : List Byte) : (s.mirrorSend k l).capt = s.capt := ((Keeps.refl s).mirrorSend k l).capt
@[simp] theorem State.mirrorSend_shuttle (s : State) (k : Nat) (l : List Byte) : (s.mirrorSend k l).shuttle = s.shuttle := ((Keeps.refl s).mirrorSend k l).shuttle
@[simp] theorem State.mirrorSend_osc (s : State) (k : Nat) (l : List Byte) : (s.mirrorSend k l).osc = s.osc := ((Keeps.refl s).mirrorSend k l).osc
@[simp] theorem State.mirrorSend_isle (s : State) (k : Nat) (l : List Byte) : (s.mirrorSend k l).isle = s.isle := ((Keeps.refl s).mirrorSend k l).isle
@[simp] theorem State.mirrorSend_energy (s : State) (k : Nat) (l : List Byte) : (s.mirrorSend k l).energy = s.energy := ((Keeps.refl s).mirrorSend k l).energy
@[simp] theorem State.mirrorSend_saves (s : State) (k : Nat) (l : List Byte) : (s.mirrorSend k l).saves = s.saves := ((Keeps.refl s).mirrorSend k l).saves
@[simp] theorem State.mirrorSend_clock (s : State) (k : Nat) (l : List Byte) : (s.mirrorSend k l).clock = s.clock := ((Keeps.refl s).mirrorSend k l).clock
@[simp] theorem State.mirrorSend_ageing (s : State) (k : Nat) (l : List Byte) : (s.mirrorSend k l).ageing = s.ageing := ((Keeps.refl s).mirrorSend k l).ageing
@[simp] theorem State.mirrorSend_host (s : State) (k : Nat) (l : List Byte) : (s.mirrorSend k l).host = s.host := ((Keeps.refl s).mirrorSend k l).host
@[simp] theorem State.mirrorSend_keyHashes (s : State) (k : Nat) (l : List Byte) : (s.mirrorSend k l).keyHashes = s.keyHashes := ((Keeps.refl s).mirrorSend k l).keyHashes
@[simp] theorem State.mirrorSend_irq (s : State) (k : Nat) (l : List Byte) : (s.mirrorSend k l).irq = s.irq := by unfold State.mirrorSend; split <;> rfl
@[simp] theorem State.mirrorSend_ledger (s : State) (k : Nat) (l : List Byte) : (s.mirrorSend k l).ledger = s.ledger := by unfold State.mirrorSend; split <;> rfl

@[simp] theorem State.mirrorRecord_pending (s : State) : (s.mirrorRecord).pending = s.pending := ((Keeps.refl s).mirrorRecord).pending
@[simp] theorem State.mirrorRecord_held (s : State) : (s.mirrorRecord).held = s.held := ((Keeps.refl s).mirrorRecord).held
@[simp] theorem State.mirrorRecord_boot (s : State) : (s.mirrorRecord).boot = s.boot := ((Keeps.refl s).mirrorRecord).boot
@[simp] theorem State.mirrorRecord_bases (s : State) : (s.mirrorRecord).bases = s.bases := ((Keeps.refl s).mirrorRecord).bases
@[simp] theorem State.mirrorRecord_snaps (s : State) : (s.mirrorRecord).snaps = s.snaps := ((Keeps.refl s).mirrorRecord).snaps
@[simp] theorem State.mirrorRecord_draft (s : State) : (s.mirrorRecord).draft = s.draft := ((Keeps.refl s).mirrorRecord).draft
@[simp] theorem State.mirrorRecord_archive (s : State) : (s.mirrorRecord).archive = s.archive := ((Keeps.refl s).mirrorRecord).archive
@[simp] theorem State.mirrorRecord_stk (s : State) : (s.mirrorRecord).stk = s.stk := ((Keeps.refl s).mirrorRecord).stk
@[simp] theorem State.mirrorRecord_freeCount (s : State) : (s.mirrorRecord).freeCount = s.freeCount := ((Keeps.refl s).mirrorRecord).freeCount
@[simp] theorem State.mirrorRecord_time (s : State) : (s.mirrorRecord).time = s.time := ((Keeps.refl s).mirrorRecord).time
@[simp] theorem State.mirrorRecord_vote (s : State) : (s.mirrorRecord).vote = s.vote := ((Keeps.refl s).mirrorRecord).vote
@[simp] theorem State.mirrorRecord_fault (s : State) : (s.mirrorRecord).fault = s.fault := ((Keeps.refl s).mirrorRecord).fault
@[simp] theorem State.mirrorRecord_pair (s : State) : (s.mirrorRecord).pair = s.pair := ((Keeps.refl s).mirrorRecord).pair
@[simp] theorem State.mirrorRecord_power (s : State) : (s.mirrorRecord).power = s.power := ((Keeps.refl s).mirrorRecord).power
@[simp] theorem State.mirrorRecord_queues (s : State) : (s.mirrorRecord).queues = s.queues := ((Keeps.refl s).mirrorRecord).queues
@[simp] theorem State.mirrorRecord_port (s : State) : (s.mirrorRecord).port = s.port := ((Keeps.refl s).mirrorRecord).port
@[simp] theorem State.mirrorRecord_hedQ (s : State) : (s.mirrorRecord).hedQ = s.hedQ := ((Keeps.refl s).mirrorRecord).hedQ
@[simp] theorem State.mirrorRecord_heddle (s : State) : (s.mirrorRecord).heddle = s.heddle := ((Keeps.refl s).mirrorRecord).heddle
@[simp] theorem State.mirrorRecord_reedQ (s : State) : (s.mirrorRecord).reedQ = s.reedQ := ((Keeps.refl s).mirrorRecord).reedQ
@[simp] theorem State.mirrorRecord_waveQ (s : State) : (s.mirrorRecord).waveQ = s.waveQ := ((Keeps.refl s).mirrorRecord).waveQ
@[simp] theorem State.mirrorRecord_inputQ (s : State) : (s.mirrorRecord).inputQ = s.inputQ := ((Keeps.refl s).mirrorRecord).inputQ
@[simp] theorem State.mirrorRecord_reed (s : State) : (s.mirrorRecord).reed = s.reed := ((Keeps.refl s).mirrorRecord).reed
@[simp] theorem State.mirrorRecord_loomQ (s : State) : (s.mirrorRecord).loomQ = s.loomQ := ((Keeps.refl s).mirrorRecord).loomQ
@[simp] theorem State.mirrorRecord_loom (s : State) : (s.mirrorRecord).loom = s.loom := ((Keeps.refl s).mirrorRecord).loom
@[simp] theorem State.mirrorRecord_capt (s : State) : (s.mirrorRecord).capt = s.capt := ((Keeps.refl s).mirrorRecord).capt
@[simp] theorem State.mirrorRecord_shuttle (s : State) : (s.mirrorRecord).shuttle = s.shuttle := ((Keeps.refl s).mirrorRecord).shuttle
@[simp] theorem State.mirrorRecord_osc (s : State) : (s.mirrorRecord).osc = s.osc := ((Keeps.refl s).mirrorRecord).osc
@[simp] theorem State.mirrorRecord_isle (s : State) : (s.mirrorRecord).isle = s.isle := ((Keeps.refl s).mirrorRecord).isle
@[simp] theorem State.mirrorRecord_energy (s : State) : (s.mirrorRecord).energy = s.energy := ((Keeps.refl s).mirrorRecord).energy
@[simp] theorem State.mirrorRecord_saves (s : State) : (s.mirrorRecord).saves = s.saves := ((Keeps.refl s).mirrorRecord).saves
@[simp] theorem State.mirrorRecord_clock (s : State) : (s.mirrorRecord).clock = s.clock := ((Keeps.refl s).mirrorRecord).clock
@[simp] theorem State.mirrorRecord_ageing (s : State) : (s.mirrorRecord).ageing = s.ageing := ((Keeps.refl s).mirrorRecord).ageing
@[simp] theorem State.mirrorRecord_host (s : State) : (s.mirrorRecord).host = s.host := ((Keeps.refl s).mirrorRecord).host
@[simp] theorem State.mirrorRecord_keyHashes (s : State) : (s.mirrorRecord).keyHashes = s.keyHashes := ((Keeps.refl s).mirrorRecord).keyHashes
@[simp] theorem State.mirrorRecord_irq (s : State) : (s.mirrorRecord).irq = s.irq := by unfold State.mirrorRecord; split; rw [State.mirrorSend_irq]; rfl
@[simp] theorem State.mirrorRecord_ledger (s : State) : (s.mirrorRecord).ledger = s.ledger := by unfold State.mirrorRecord; split; rw [State.mirrorSend_ledger]; rfl

@[simp] theorem State.event_pending (s : State) (code src : Nat) (p : List Byte) : (s.event code src p).pending = s.pending := ((Keeps.refl s).event code src p).pending
@[simp] theorem State.event_held (s : State) (code src : Nat) (p : List Byte) : (s.event code src p).held = s.held := ((Keeps.refl s).event code src p).held
@[simp] theorem State.event_boot (s : State) (code src : Nat) (p : List Byte) : (s.event code src p).boot = s.boot := ((Keeps.refl s).event code src p).boot
@[simp] theorem State.event_bases (s : State) (code src : Nat) (p : List Byte) : (s.event code src p).bases = s.bases := ((Keeps.refl s).event code src p).bases
@[simp] theorem State.event_snaps (s : State) (code src : Nat) (p : List Byte) : (s.event code src p).snaps = s.snaps := ((Keeps.refl s).event code src p).snaps
@[simp] theorem State.event_draft (s : State) (code src : Nat) (p : List Byte) : (s.event code src p).draft = s.draft := ((Keeps.refl s).event code src p).draft
@[simp] theorem State.event_archive (s : State) (code src : Nat) (p : List Byte) : (s.event code src p).archive = s.archive := ((Keeps.refl s).event code src p).archive
@[simp] theorem State.event_stk (s : State) (code src : Nat) (p : List Byte) : (s.event code src p).stk = s.stk := ((Keeps.refl s).event code src p).stk
@[simp] theorem State.event_freeCount (s : State) (code src : Nat) (p : List Byte) : (s.event code src p).freeCount = s.freeCount := ((Keeps.refl s).event code src p).freeCount
@[simp] theorem State.event_time (s : State) (code src : Nat) (p : List Byte) : (s.event code src p).time = s.time := ((Keeps.refl s).event code src p).time
@[simp] theorem State.event_vote (s : State) (code src : Nat) (p : List Byte) : (s.event code src p).vote = s.vote := ((Keeps.refl s).event code src p).vote
@[simp] theorem State.event_fault (s : State) (code src : Nat) (p : List Byte) : (s.event code src p).fault = s.fault := ((Keeps.refl s).event code src p).fault
@[simp] theorem State.event_pair (s : State) (code src : Nat) (p : List Byte) : (s.event code src p).pair = s.pair := ((Keeps.refl s).event code src p).pair
@[simp] theorem State.event_power (s : State) (code src : Nat) (p : List Byte) : (s.event code src p).power = s.power := ((Keeps.refl s).event code src p).power
@[simp] theorem State.event_queues (s : State) (code src : Nat) (p : List Byte) : (s.event code src p).queues = s.queues := ((Keeps.refl s).event code src p).queues
@[simp] theorem State.event_port (s : State) (code src : Nat) (p : List Byte) : (s.event code src p).port = s.port := ((Keeps.refl s).event code src p).port
@[simp] theorem State.event_hedQ (s : State) (code src : Nat) (p : List Byte) : (s.event code src p).hedQ = s.hedQ := ((Keeps.refl s).event code src p).hedQ
@[simp] theorem State.event_heddle (s : State) (code src : Nat) (p : List Byte) : (s.event code src p).heddle = s.heddle := ((Keeps.refl s).event code src p).heddle
@[simp] theorem State.event_reedQ (s : State) (code src : Nat) (p : List Byte) : (s.event code src p).reedQ = s.reedQ := ((Keeps.refl s).event code src p).reedQ
@[simp] theorem State.event_waveQ (s : State) (code src : Nat) (p : List Byte) : (s.event code src p).waveQ = s.waveQ := ((Keeps.refl s).event code src p).waveQ
@[simp] theorem State.event_inputQ (s : State) (code src : Nat) (p : List Byte) : (s.event code src p).inputQ = s.inputQ := ((Keeps.refl s).event code src p).inputQ
@[simp] theorem State.event_reed (s : State) (code src : Nat) (p : List Byte) : (s.event code src p).reed = s.reed := ((Keeps.refl s).event code src p).reed
@[simp] theorem State.event_loomQ (s : State) (code src : Nat) (p : List Byte) : (s.event code src p).loomQ = s.loomQ := ((Keeps.refl s).event code src p).loomQ
@[simp] theorem State.event_loom (s : State) (code src : Nat) (p : List Byte) : (s.event code src p).loom = s.loom := ((Keeps.refl s).event code src p).loom
@[simp] theorem State.event_capt (s : State) (code src : Nat) (p : List Byte) : (s.event code src p).capt = s.capt := ((Keeps.refl s).event code src p).capt
@[simp] theorem State.event_shuttle (s : State) (code src : Nat) (p : List Byte) : (s.event code src p).shuttle = s.shuttle := ((Keeps.refl s).event code src p).shuttle
@[simp] theorem State.event_osc (s : State) (code src : Nat) (p : List Byte) : (s.event code src p).osc = s.osc := ((Keeps.refl s).event code src p).osc
@[simp] theorem State.event_isle (s : State) (code src : Nat) (p : List Byte) : (s.event code src p).isle = s.isle := ((Keeps.refl s).event code src p).isle
@[simp] theorem State.event_energy (s : State) (code src : Nat) (p : List Byte) : (s.event code src p).energy = s.energy := ((Keeps.refl s).event code src p).energy
@[simp] theorem State.event_saves (s : State) (code src : Nat) (p : List Byte) : (s.event code src p).saves = s.saves := ((Keeps.refl s).event code src p).saves
@[simp] theorem State.event_clock (s : State) (code src : Nat) (p : List Byte) : (s.event code src p).clock = s.clock := ((Keeps.refl s).event code src p).clock
@[simp] theorem State.event_ageing (s : State) (code src : Nat) (p : List Byte) : (s.event code src p).ageing = s.ageing := ((Keeps.refl s).event code src p).ageing
@[simp] theorem State.event_host (s : State) (code src : Nat) (p : List Byte) : (s.event code src p).host = s.host := ((Keeps.refl s).event code src p).host
@[simp] theorem State.event_keyHashes (s : State) (code src : Nat) (p : List Byte) : (s.event code src p).keyHashes = s.keyHashes := ((Keeps.refl s).event code src p).keyHashes

@[simp] theorem State.reject_pending (s : State) (p : Path) (a : Nat) : (s.reject p a).pending = s.pending := ((Keeps.refl s).reject p a).pending
@[simp] theorem State.reject_held (s : State) (p : Path) (a : Nat) : (s.reject p a).held = s.held := ((Keeps.refl s).reject p a).held
@[simp] theorem State.reject_boot (s : State) (p : Path) (a : Nat) : (s.reject p a).boot = s.boot := ((Keeps.refl s).reject p a).boot
@[simp] theorem State.reject_bases (s : State) (p : Path) (a : Nat) : (s.reject p a).bases = s.bases := ((Keeps.refl s).reject p a).bases
@[simp] theorem State.reject_snaps (s : State) (p : Path) (a : Nat) : (s.reject p a).snaps = s.snaps := ((Keeps.refl s).reject p a).snaps
@[simp] theorem State.reject_draft (s : State) (p : Path) (a : Nat) : (s.reject p a).draft = s.draft := ((Keeps.refl s).reject p a).draft
@[simp] theorem State.reject_archive (s : State) (p : Path) (a : Nat) : (s.reject p a).archive = s.archive := ((Keeps.refl s).reject p a).archive
@[simp] theorem State.reject_stk (s : State) (p : Path) (a : Nat) : (s.reject p a).stk = s.stk := ((Keeps.refl s).reject p a).stk
@[simp] theorem State.reject_freeCount (s : State) (p : Path) (a : Nat) : (s.reject p a).freeCount = s.freeCount := ((Keeps.refl s).reject p a).freeCount
@[simp] theorem State.reject_time (s : State) (p : Path) (a : Nat) : (s.reject p a).time = s.time := ((Keeps.refl s).reject p a).time
@[simp] theorem State.reject_vote (s : State) (p : Path) (a : Nat) : (s.reject p a).vote = s.vote := ((Keeps.refl s).reject p a).vote
@[simp] theorem State.reject_fault (s : State) (p : Path) (a : Nat) : (s.reject p a).fault = s.fault := ((Keeps.refl s).reject p a).fault
@[simp] theorem State.reject_pair (s : State) (p : Path) (a : Nat) : (s.reject p a).pair = s.pair := ((Keeps.refl s).reject p a).pair
@[simp] theorem State.reject_power (s : State) (p : Path) (a : Nat) : (s.reject p a).power = s.power := ((Keeps.refl s).reject p a).power
@[simp] theorem State.reject_queues (s : State) (p : Path) (a : Nat) : (s.reject p a).queues = s.queues := ((Keeps.refl s).reject p a).queues
@[simp] theorem State.reject_port (s : State) (p : Path) (a : Nat) : (s.reject p a).port = s.port := ((Keeps.refl s).reject p a).port
@[simp] theorem State.reject_hedQ (s : State) (p : Path) (a : Nat) : (s.reject p a).hedQ = s.hedQ := ((Keeps.refl s).reject p a).hedQ
@[simp] theorem State.reject_heddle (s : State) (p : Path) (a : Nat) : (s.reject p a).heddle = s.heddle := ((Keeps.refl s).reject p a).heddle
@[simp] theorem State.reject_reedQ (s : State) (p : Path) (a : Nat) : (s.reject p a).reedQ = s.reedQ := ((Keeps.refl s).reject p a).reedQ
@[simp] theorem State.reject_waveQ (s : State) (p : Path) (a : Nat) : (s.reject p a).waveQ = s.waveQ := ((Keeps.refl s).reject p a).waveQ
@[simp] theorem State.reject_inputQ (s : State) (p : Path) (a : Nat) : (s.reject p a).inputQ = s.inputQ := ((Keeps.refl s).reject p a).inputQ
@[simp] theorem State.reject_reed (s : State) (p : Path) (a : Nat) : (s.reject p a).reed = s.reed := ((Keeps.refl s).reject p a).reed
@[simp] theorem State.reject_loomQ (s : State) (p : Path) (a : Nat) : (s.reject p a).loomQ = s.loomQ := ((Keeps.refl s).reject p a).loomQ
@[simp] theorem State.reject_loom (s : State) (p : Path) (a : Nat) : (s.reject p a).loom = s.loom := ((Keeps.refl s).reject p a).loom
@[simp] theorem State.reject_capt (s : State) (p : Path) (a : Nat) : (s.reject p a).capt = s.capt := ((Keeps.refl s).reject p a).capt
@[simp] theorem State.reject_shuttle (s : State) (p : Path) (a : Nat) : (s.reject p a).shuttle = s.shuttle := ((Keeps.refl s).reject p a).shuttle
@[simp] theorem State.reject_osc (s : State) (p : Path) (a : Nat) : (s.reject p a).osc = s.osc := ((Keeps.refl s).reject p a).osc
@[simp] theorem State.reject_isle (s : State) (p : Path) (a : Nat) : (s.reject p a).isle = s.isle := ((Keeps.refl s).reject p a).isle
@[simp] theorem State.reject_energy (s : State) (p : Path) (a : Nat) : (s.reject p a).energy = s.energy := ((Keeps.refl s).reject p a).energy
@[simp] theorem State.reject_saves (s : State) (p : Path) (a : Nat) : (s.reject p a).saves = s.saves := ((Keeps.refl s).reject p a).saves
@[simp] theorem State.reject_clock (s : State) (p : Path) (a : Nat) : (s.reject p a).clock = s.clock := ((Keeps.refl s).reject p a).clock
@[simp] theorem State.reject_ageing (s : State) (p : Path) (a : Nat) : (s.reject p a).ageing = s.ageing := ((Keeps.refl s).reject p a).ageing
@[simp] theorem State.reject_host (s : State) (p : Path) (a : Nat) : (s.reject p a).host = s.host := ((Keeps.refl s).reject p a).host
@[simp] theorem State.reject_keyHashes (s : State) (p : Path) (a : Nat) : (s.reject p a).keyHashes = s.keyHashes := ((Keeps.refl s).reject p a).keyHashes
@[simp] theorem State.reject_irq (s : State) (p : Path) (a : Nat) : (s.reject p a).irq = s.irq := by unfold State.reject; dsimp only; split <;> simp
@[simp] theorem State.reject_ledger (s : State) (p : Path) (a : Nat) : (s.reject p a).ledger = s.ledger := by unfold State.reject; dsimp only; split <;> simp
@[simp] theorem State.reject_out (s : State) (p : Path) (a : Nat) : (s.reject p a).out = s.out := by unfold State.reject; dsimp only; split <;> simp
@[simp] theorem State.reject_slv (s : State) (p : Path) (a : Nat) : (s.reject p a).slv = s.slv := by unfold State.reject; dsimp only; split <;> simp

@[simp] theorem State.hostErr_pending (s : State) (p : Path) (b c a : Nat) : (s.hostErr p b c a).pending = s.pending := ((Keeps.refl s).hostErr p b c a).pending
@[simp] theorem State.hostErr_held (s : State) (p : Path) (b c a : Nat) : (s.hostErr p b c a).held = s.held := ((Keeps.refl s).hostErr p b c a).held
@[simp] theorem State.hostErr_boot (s : State) (p : Path) (b c a : Nat) : (s.hostErr p b c a).boot = s.boot := ((Keeps.refl s).hostErr p b c a).boot
@[simp] theorem State.hostErr_bases (s : State) (p : Path) (b c a : Nat) : (s.hostErr p b c a).bases = s.bases := ((Keeps.refl s).hostErr p b c a).bases
@[simp] theorem State.hostErr_snaps (s : State) (p : Path) (b c a : Nat) : (s.hostErr p b c a).snaps = s.snaps := ((Keeps.refl s).hostErr p b c a).snaps
@[simp] theorem State.hostErr_draft (s : State) (p : Path) (b c a : Nat) : (s.hostErr p b c a).draft = s.draft := ((Keeps.refl s).hostErr p b c a).draft
@[simp] theorem State.hostErr_archive (s : State) (p : Path) (b c a : Nat) : (s.hostErr p b c a).archive = s.archive := ((Keeps.refl s).hostErr p b c a).archive
@[simp] theorem State.hostErr_stk (s : State) (p : Path) (b c a : Nat) : (s.hostErr p b c a).stk = s.stk := ((Keeps.refl s).hostErr p b c a).stk
@[simp] theorem State.hostErr_freeCount (s : State) (p : Path) (b c a : Nat) : (s.hostErr p b c a).freeCount = s.freeCount := ((Keeps.refl s).hostErr p b c a).freeCount
@[simp] theorem State.hostErr_time (s : State) (p : Path) (b c a : Nat) : (s.hostErr p b c a).time = s.time := ((Keeps.refl s).hostErr p b c a).time
@[simp] theorem State.hostErr_vote (s : State) (p : Path) (b c a : Nat) : (s.hostErr p b c a).vote = s.vote := ((Keeps.refl s).hostErr p b c a).vote
@[simp] theorem State.hostErr_fault (s : State) (p : Path) (b c a : Nat) : (s.hostErr p b c a).fault = s.fault := ((Keeps.refl s).hostErr p b c a).fault
@[simp] theorem State.hostErr_pair (s : State) (p : Path) (b c a : Nat) : (s.hostErr p b c a).pair = s.pair := ((Keeps.refl s).hostErr p b c a).pair
@[simp] theorem State.hostErr_power (s : State) (p : Path) (b c a : Nat) : (s.hostErr p b c a).power = s.power := ((Keeps.refl s).hostErr p b c a).power
@[simp] theorem State.hostErr_queues (s : State) (p : Path) (b c a : Nat) : (s.hostErr p b c a).queues = s.queues := ((Keeps.refl s).hostErr p b c a).queues
@[simp] theorem State.hostErr_port (s : State) (p : Path) (b c a : Nat) : (s.hostErr p b c a).port = s.port := ((Keeps.refl s).hostErr p b c a).port
@[simp] theorem State.hostErr_hedQ (s : State) (p : Path) (b c a : Nat) : (s.hostErr p b c a).hedQ = s.hedQ := ((Keeps.refl s).hostErr p b c a).hedQ
@[simp] theorem State.hostErr_heddle (s : State) (p : Path) (b c a : Nat) : (s.hostErr p b c a).heddle = s.heddle := ((Keeps.refl s).hostErr p b c a).heddle
@[simp] theorem State.hostErr_reedQ (s : State) (p : Path) (b c a : Nat) : (s.hostErr p b c a).reedQ = s.reedQ := ((Keeps.refl s).hostErr p b c a).reedQ
@[simp] theorem State.hostErr_waveQ (s : State) (p : Path) (b c a : Nat) : (s.hostErr p b c a).waveQ = s.waveQ := ((Keeps.refl s).hostErr p b c a).waveQ
@[simp] theorem State.hostErr_inputQ (s : State) (p : Path) (b c a : Nat) : (s.hostErr p b c a).inputQ = s.inputQ := ((Keeps.refl s).hostErr p b c a).inputQ
@[simp] theorem State.hostErr_reed (s : State) (p : Path) (b c a : Nat) : (s.hostErr p b c a).reed = s.reed := ((Keeps.refl s).hostErr p b c a).reed
@[simp] theorem State.hostErr_loomQ (s : State) (p : Path) (b c a : Nat) : (s.hostErr p b c a).loomQ = s.loomQ := ((Keeps.refl s).hostErr p b c a).loomQ
@[simp] theorem State.hostErr_loom (s : State) (p : Path) (b c a : Nat) : (s.hostErr p b c a).loom = s.loom := ((Keeps.refl s).hostErr p b c a).loom
@[simp] theorem State.hostErr_capt (s : State) (p : Path) (b c a : Nat) : (s.hostErr p b c a).capt = s.capt := ((Keeps.refl s).hostErr p b c a).capt
@[simp] theorem State.hostErr_shuttle (s : State) (p : Path) (b c a : Nat) : (s.hostErr p b c a).shuttle = s.shuttle := ((Keeps.refl s).hostErr p b c a).shuttle
@[simp] theorem State.hostErr_osc (s : State) (p : Path) (b c a : Nat) : (s.hostErr p b c a).osc = s.osc := ((Keeps.refl s).hostErr p b c a).osc
@[simp] theorem State.hostErr_isle (s : State) (p : Path) (b c a : Nat) : (s.hostErr p b c a).isle = s.isle := ((Keeps.refl s).hostErr p b c a).isle
@[simp] theorem State.hostErr_energy (s : State) (p : Path) (b c a : Nat) : (s.hostErr p b c a).energy = s.energy := ((Keeps.refl s).hostErr p b c a).energy
@[simp] theorem State.hostErr_saves (s : State) (p : Path) (b c a : Nat) : (s.hostErr p b c a).saves = s.saves := ((Keeps.refl s).hostErr p b c a).saves
@[simp] theorem State.hostErr_clock (s : State) (p : Path) (b c a : Nat) : (s.hostErr p b c a).clock = s.clock := ((Keeps.refl s).hostErr p b c a).clock
@[simp] theorem State.hostErr_ageing (s : State) (p : Path) (b c a : Nat) : (s.hostErr p b c a).ageing = s.ageing := ((Keeps.refl s).hostErr p b c a).ageing
@[simp] theorem State.hostErr_host (s : State) (p : Path) (b c a : Nat) : (s.hostErr p b c a).host = s.host := ((Keeps.refl s).hostErr p b c a).host
@[simp] theorem State.hostErr_keyHashes (s : State) (p : Path) (b c a : Nat) : (s.hostErr p b c a).keyHashes = s.keyHashes := ((Keeps.refl s).hostErr p b c a).keyHashes

@[simp] theorem State.notMaster_pending (s : State) (p : Path) (a : Nat) : (s.notMaster p a).pending = s.pending := ((Keeps.refl s).notMaster p a).pending
@[simp] theorem State.notMaster_held (s : State) (p : Path) (a : Nat) : (s.notMaster p a).held = s.held := ((Keeps.refl s).notMaster p a).held
@[simp] theorem State.notMaster_boot (s : State) (p : Path) (a : Nat) : (s.notMaster p a).boot = s.boot := ((Keeps.refl s).notMaster p a).boot
@[simp] theorem State.notMaster_bases (s : State) (p : Path) (a : Nat) : (s.notMaster p a).bases = s.bases := ((Keeps.refl s).notMaster p a).bases
@[simp] theorem State.notMaster_snaps (s : State) (p : Path) (a : Nat) : (s.notMaster p a).snaps = s.snaps := ((Keeps.refl s).notMaster p a).snaps
@[simp] theorem State.notMaster_draft (s : State) (p : Path) (a : Nat) : (s.notMaster p a).draft = s.draft := ((Keeps.refl s).notMaster p a).draft
@[simp] theorem State.notMaster_archive (s : State) (p : Path) (a : Nat) : (s.notMaster p a).archive = s.archive := ((Keeps.refl s).notMaster p a).archive
@[simp] theorem State.notMaster_stk (s : State) (p : Path) (a : Nat) : (s.notMaster p a).stk = s.stk := ((Keeps.refl s).notMaster p a).stk
@[simp] theorem State.notMaster_freeCount (s : State) (p : Path) (a : Nat) : (s.notMaster p a).freeCount = s.freeCount := ((Keeps.refl s).notMaster p a).freeCount
@[simp] theorem State.notMaster_time (s : State) (p : Path) (a : Nat) : (s.notMaster p a).time = s.time := ((Keeps.refl s).notMaster p a).time
@[simp] theorem State.notMaster_vote (s : State) (p : Path) (a : Nat) : (s.notMaster p a).vote = s.vote := ((Keeps.refl s).notMaster p a).vote
@[simp] theorem State.notMaster_fault (s : State) (p : Path) (a : Nat) : (s.notMaster p a).fault = s.fault := ((Keeps.refl s).notMaster p a).fault
@[simp] theorem State.notMaster_pair (s : State) (p : Path) (a : Nat) : (s.notMaster p a).pair = s.pair := ((Keeps.refl s).notMaster p a).pair
@[simp] theorem State.notMaster_power (s : State) (p : Path) (a : Nat) : (s.notMaster p a).power = s.power := ((Keeps.refl s).notMaster p a).power
@[simp] theorem State.notMaster_queues (s : State) (p : Path) (a : Nat) : (s.notMaster p a).queues = s.queues := ((Keeps.refl s).notMaster p a).queues
@[simp] theorem State.notMaster_port (s : State) (p : Path) (a : Nat) : (s.notMaster p a).port = s.port := ((Keeps.refl s).notMaster p a).port
@[simp] theorem State.notMaster_hedQ (s : State) (p : Path) (a : Nat) : (s.notMaster p a).hedQ = s.hedQ := ((Keeps.refl s).notMaster p a).hedQ
@[simp] theorem State.notMaster_heddle (s : State) (p : Path) (a : Nat) : (s.notMaster p a).heddle = s.heddle := ((Keeps.refl s).notMaster p a).heddle
@[simp] theorem State.notMaster_reedQ (s : State) (p : Path) (a : Nat) : (s.notMaster p a).reedQ = s.reedQ := ((Keeps.refl s).notMaster p a).reedQ
@[simp] theorem State.notMaster_waveQ (s : State) (p : Path) (a : Nat) : (s.notMaster p a).waveQ = s.waveQ := ((Keeps.refl s).notMaster p a).waveQ
@[simp] theorem State.notMaster_inputQ (s : State) (p : Path) (a : Nat) : (s.notMaster p a).inputQ = s.inputQ := ((Keeps.refl s).notMaster p a).inputQ
@[simp] theorem State.notMaster_reed (s : State) (p : Path) (a : Nat) : (s.notMaster p a).reed = s.reed := ((Keeps.refl s).notMaster p a).reed
@[simp] theorem State.notMaster_loomQ (s : State) (p : Path) (a : Nat) : (s.notMaster p a).loomQ = s.loomQ := ((Keeps.refl s).notMaster p a).loomQ
@[simp] theorem State.notMaster_loom (s : State) (p : Path) (a : Nat) : (s.notMaster p a).loom = s.loom := ((Keeps.refl s).notMaster p a).loom
@[simp] theorem State.notMaster_capt (s : State) (p : Path) (a : Nat) : (s.notMaster p a).capt = s.capt := ((Keeps.refl s).notMaster p a).capt
@[simp] theorem State.notMaster_shuttle (s : State) (p : Path) (a : Nat) : (s.notMaster p a).shuttle = s.shuttle := ((Keeps.refl s).notMaster p a).shuttle
@[simp] theorem State.notMaster_osc (s : State) (p : Path) (a : Nat) : (s.notMaster p a).osc = s.osc := ((Keeps.refl s).notMaster p a).osc
@[simp] theorem State.notMaster_isle (s : State) (p : Path) (a : Nat) : (s.notMaster p a).isle = s.isle := ((Keeps.refl s).notMaster p a).isle
@[simp] theorem State.notMaster_energy (s : State) (p : Path) (a : Nat) : (s.notMaster p a).energy = s.energy := ((Keeps.refl s).notMaster p a).energy
@[simp] theorem State.notMaster_saves (s : State) (p : Path) (a : Nat) : (s.notMaster p a).saves = s.saves := ((Keeps.refl s).notMaster p a).saves
@[simp] theorem State.notMaster_clock (s : State) (p : Path) (a : Nat) : (s.notMaster p a).clock = s.clock := ((Keeps.refl s).notMaster p a).clock
@[simp] theorem State.notMaster_ageing (s : State) (p : Path) (a : Nat) : (s.notMaster p a).ageing = s.ageing := ((Keeps.refl s).notMaster p a).ageing
@[simp] theorem State.notMaster_host (s : State) (p : Path) (a : Nat) : (s.notMaster p a).host = s.host := ((Keeps.refl s).notMaster p a).host
@[simp] theorem State.notMaster_keyHashes (s : State) (p : Path) (a : Nat) : (s.notMaster p a).keyHashes = s.keyHashes := ((Keeps.refl s).notMaster p a).keyHashes

@[simp] theorem State.monNote_pending (s : State) (p : Path) (a v : Nat) : (s.monNote p a v).pending = s.pending := ((Keeps.refl s).monNote p a v).pending
@[simp] theorem State.monNote_held (s : State) (p : Path) (a v : Nat) : (s.monNote p a v).held = s.held := ((Keeps.refl s).monNote p a v).held
@[simp] theorem State.monNote_boot (s : State) (p : Path) (a v : Nat) : (s.monNote p a v).boot = s.boot := ((Keeps.refl s).monNote p a v).boot
@[simp] theorem State.monNote_bases (s : State) (p : Path) (a v : Nat) : (s.monNote p a v).bases = s.bases := ((Keeps.refl s).monNote p a v).bases
@[simp] theorem State.monNote_snaps (s : State) (p : Path) (a v : Nat) : (s.monNote p a v).snaps = s.snaps := ((Keeps.refl s).monNote p a v).snaps
@[simp] theorem State.monNote_draft (s : State) (p : Path) (a v : Nat) : (s.monNote p a v).draft = s.draft := ((Keeps.refl s).monNote p a v).draft
@[simp] theorem State.monNote_archive (s : State) (p : Path) (a v : Nat) : (s.monNote p a v).archive = s.archive := ((Keeps.refl s).monNote p a v).archive
@[simp] theorem State.monNote_stk (s : State) (p : Path) (a v : Nat) : (s.monNote p a v).stk = s.stk := ((Keeps.refl s).monNote p a v).stk
@[simp] theorem State.monNote_freeCount (s : State) (p : Path) (a v : Nat) : (s.monNote p a v).freeCount = s.freeCount := ((Keeps.refl s).monNote p a v).freeCount
@[simp] theorem State.monNote_time (s : State) (p : Path) (a v : Nat) : (s.monNote p a v).time = s.time := ((Keeps.refl s).monNote p a v).time
@[simp] theorem State.monNote_vote (s : State) (p : Path) (a v : Nat) : (s.monNote p a v).vote = s.vote := ((Keeps.refl s).monNote p a v).vote
@[simp] theorem State.monNote_fault (s : State) (p : Path) (a v : Nat) : (s.monNote p a v).fault = s.fault := ((Keeps.refl s).monNote p a v).fault
@[simp] theorem State.monNote_pair (s : State) (p : Path) (a v : Nat) : (s.monNote p a v).pair = s.pair := ((Keeps.refl s).monNote p a v).pair
@[simp] theorem State.monNote_power (s : State) (p : Path) (a v : Nat) : (s.monNote p a v).power = s.power := ((Keeps.refl s).monNote p a v).power
@[simp] theorem State.monNote_queues (s : State) (p : Path) (a v : Nat) : (s.monNote p a v).queues = s.queues := ((Keeps.refl s).monNote p a v).queues
@[simp] theorem State.monNote_port (s : State) (p : Path) (a v : Nat) : (s.monNote p a v).port = s.port := ((Keeps.refl s).monNote p a v).port
@[simp] theorem State.monNote_hedQ (s : State) (p : Path) (a v : Nat) : (s.monNote p a v).hedQ = s.hedQ := ((Keeps.refl s).monNote p a v).hedQ
@[simp] theorem State.monNote_heddle (s : State) (p : Path) (a v : Nat) : (s.monNote p a v).heddle = s.heddle := ((Keeps.refl s).monNote p a v).heddle
@[simp] theorem State.monNote_reedQ (s : State) (p : Path) (a v : Nat) : (s.monNote p a v).reedQ = s.reedQ := ((Keeps.refl s).monNote p a v).reedQ
@[simp] theorem State.monNote_waveQ (s : State) (p : Path) (a v : Nat) : (s.monNote p a v).waveQ = s.waveQ := ((Keeps.refl s).monNote p a v).waveQ
@[simp] theorem State.monNote_inputQ (s : State) (p : Path) (a v : Nat) : (s.monNote p a v).inputQ = s.inputQ := ((Keeps.refl s).monNote p a v).inputQ
@[simp] theorem State.monNote_reed (s : State) (p : Path) (a v : Nat) : (s.monNote p a v).reed = s.reed := ((Keeps.refl s).monNote p a v).reed
@[simp] theorem State.monNote_loomQ (s : State) (p : Path) (a v : Nat) : (s.monNote p a v).loomQ = s.loomQ := ((Keeps.refl s).monNote p a v).loomQ
@[simp] theorem State.monNote_loom (s : State) (p : Path) (a v : Nat) : (s.monNote p a v).loom = s.loom := ((Keeps.refl s).monNote p a v).loom
@[simp] theorem State.monNote_capt (s : State) (p : Path) (a v : Nat) : (s.monNote p a v).capt = s.capt := ((Keeps.refl s).monNote p a v).capt
@[simp] theorem State.monNote_shuttle (s : State) (p : Path) (a v : Nat) : (s.monNote p a v).shuttle = s.shuttle := ((Keeps.refl s).monNote p a v).shuttle
@[simp] theorem State.monNote_osc (s : State) (p : Path) (a v : Nat) : (s.monNote p a v).osc = s.osc := ((Keeps.refl s).monNote p a v).osc
@[simp] theorem State.monNote_isle (s : State) (p : Path) (a v : Nat) : (s.monNote p a v).isle = s.isle := ((Keeps.refl s).monNote p a v).isle
@[simp] theorem State.monNote_energy (s : State) (p : Path) (a v : Nat) : (s.monNote p a v).energy = s.energy := ((Keeps.refl s).monNote p a v).energy
@[simp] theorem State.monNote_saves (s : State) (p : Path) (a v : Nat) : (s.monNote p a v).saves = s.saves := ((Keeps.refl s).monNote p a v).saves
@[simp] theorem State.monNote_clock (s : State) (p : Path) (a v : Nat) : (s.monNote p a v).clock = s.clock := ((Keeps.refl s).monNote p a v).clock
@[simp] theorem State.monNote_ageing (s : State) (p : Path) (a v : Nat) : (s.monNote p a v).ageing = s.ageing := ((Keeps.refl s).monNote p a v).ageing
@[simp] theorem State.monNote_host (s : State) (p : Path) (a v : Nat) : (s.monNote p a v).host = s.host := ((Keeps.refl s).monNote p a v).host
@[simp] theorem State.monNote_keyHashes (s : State) (p : Path) (a v : Nat) : (s.monNote p a v).keyHashes = s.keyHashes := ((Keeps.refl s).monNote p a v).keyHashes

end Sys2Proof.Machine
end

