-- ==== Sys2Proof/Laws/Registers.lean ====
section
/-!
SUPPORT. Sys2Proof/Laws/Registers.lean: tables, bit fields and registers: what a write leaves to be read, and where.
-/

namespace Sys2Proof.Machine

/-! Tables keyed by number. -/

theorem smFind_smPut {α : Type} (m : SMap α) (k j : Nat) (v : α) :
    smFind (smPut m k v) j = if k = j then some v else smFind m j := by
  induction m with
  | nil => simp [smPut, smFind]
  | cons e m ih =>
    obtain ⟨a, w⟩ := e
    simp only [smPut]
    split
    · simp only [smFind]
    · split
      · subst_vars
        simp only [smFind]
        split <;> rfl
      · simp only [smFind, ih]
        split
        · have : k ≠ j := by omega
          simp [this]
        · rfl

@[simp] theorem smFind_smPut_same {α : Type} (m : SMap α) (k : Nat) (v : α) : smFind (smPut m k v) k = some v := by
  simp [smFind_smPut]

theorem smFind_smPut_other {α : Type} (m : SMap α) {k j : Nat} (v : α) (h : k ≠ j) : smFind (smPut m k v) j = smFind m j := by
  simp [smFind_smPut, h]

theorem smFind_smDel {α : Type} (m : SMap α) (k j : Nat) : smFind (smDel m k) j = if k = j then none else smFind m j := by
  induction m with
  | nil => simp [smDel, smFind]
  | cons e m ih =>
    obtain ⟨a, w⟩ := e
    simp only [smDel] at ih
    by_cases hk : a = k
    · subst hk
      simp only [smDel, List.filter_cons, bne_self_eq_false, Bool.false_eq_true, if_false, ih, smFind]
      split <;> rfl
    · have : (a != k) = true := by simp [hk]
      simp only [smDel, List.filter_cons, this, if_true, smFind, ih]
      split
      · have : k ≠ j := by omega
        simp [this]
      · rfl

@[simp] theorem smFind_smDel_same {α : Type} (m : SMap α) (k : Nat) : smFind (smDel m k) k = none := by simp [smFind_smDel]

theorem smGet_smWrite {α : Type} [DecidableEq α] (d : α) (m : SMap α) (k j : Nat) (v : α) :
    smGet d (smWrite d m k v) j = if k = j then v else smGet d m j := by
  unfold smGet smWrite
  split
  · rw [smFind_smDel]
    split <;> simp_all
  · rw [smFind_smPut]
    split <;> simp_all

@[simp] theorem smGet_smPut_same {α : Type} (d : α) (m : SMap α) (k : Nat) (v : α) : smGet d (smPut m k v) k = v := by
  simp [smGet]

theorem smGet_smPut_other {α : Type} (d : α) (m : SMap α) {k j : Nat} (v : α) (h : k ≠ j) : smGet d (smPut m k v) j = smGet d m j := by
  simp [smGet, smFind_smPut_other m v h]

@[simp] theorem smFind_smMod_same {α : Type} (d : α) (m : SMap α) (k : Nat) (f : α → α) :
    smFind (smMod d m k f) k = some (f (smGet d m k)) := by simp [smMod]

@[simp] theorem smGet_smMod_same {α : Type} (d : α) (m : SMap α) (k : Nat) (f : α → α) :
    smGet d (smMod d m k f) k = f (smGet d m k) := by simp [smMod]

/-! Bit fields. -/

theorem bits_testBit (v hi lo i : Nat) : (bits v hi lo).testBit i = (decide (i < hi + 1 - lo) && v.testBit (lo + i)) := by
  simp [bits, Nat.testBit_mod_two_pow, Nat.testBit_shiftRight]

theorem bits_lt (v hi lo : Nat) : bits v hi lo < 2 ^ (hi + 1 - lo) := Nat.mod_lt _ (Nat.two_pow_pos _)

theorem withBits_eq (w hi lo v : Nat) :
    withBits w hi lo v =
      (w / 2 ^ lo / 2 ^ (hi + 1 - lo) * 2 ^ (hi + 1 - lo) + v % 2 ^ (hi + 1 - lo)) * 2 ^ lo + w % 2 ^ lo := by
  unfold withBits bits
  rw [Nat.shiftRight_eq_div_pow]
  have h1 := Nat.div_add_mod w (2 ^ lo)
  have h2 := Nat.div_add_mod (w / 2 ^ lo) (2 ^ (hi + 1 - lo))
  generalize w / 2 ^ lo / 2 ^ (hi + 1 - lo) = q at *
  generalize w / 2 ^ lo % 2 ^ (hi + 1 - lo) = r at *
  generalize v % 2 ^ (hi + 1 - lo) = x at *
  generalize hw : w % 2 ^ lo = y at *
  rw [← h2] at h1
  rw [← h1]
  have : 2 ^ lo * (2 ^ (hi + 1 - lo) * q + r) = 2 ^ (hi + 1 - lo) * q * 2 ^ lo + r * 2 ^ lo := by ring
  rw [this]
  have : (q * 2 ^ (hi + 1 - lo) + x) * 2 ^ lo + y = 2 ^ (hi + 1 - lo) * q * 2 ^ lo + x * 2 ^ lo + y := by ring
  omega

theorem withBits_testBit (w hi lo v i : Nat) :
    (withBits w hi lo v).testBit i = if lo ≤ i ∧ i < lo + (hi + 1 - lo) then v.testBit (i - lo) else w.testBit i := by
  rw [withBits_eq, Nat.mul_comm _ (2 ^ lo), Nat.testBit_two_pow_mul_add _ (Nat.mod_lt _ (Nat.two_pow_pos _))]
  split
  · next h =>
    have : ¬ (lo ≤ i ∧ i < lo + (hi + 1 - lo)) := by omega
    simp [this, Nat.testBit_mod_two_pow, h]
  · next h =>
    rw [Nat.mul_comm _ (2 ^ (hi + 1 - lo)), Nat.testBit_two_pow_mul_add _ (Nat.mod_lt _ (Nat.two_pow_pos _))]
    split
    · next h2 =>
      have : lo ≤ i ∧ i < lo + (hi + 1 - lo) := by omega
      simp [this, Nat.testBit_mod_two_pow, h2]
    · next h2 =>
      have : ¬ (lo ≤ i ∧ i < lo + (hi + 1 - lo)) := by omega
      simp only [this, if_false, Nat.testBit_div_two_pow]
      congr 1
      omega

/-- A field reads as written. -/
@[simp] theorem bits_withBits_same (w hi lo v : Nat) : bits (withBits w hi lo v) hi lo = v % 2 ^ (hi + 1 - lo) := by
  apply Nat.eq_of_testBit_eq
  intro i
  rw [bits_testBit, withBits_testBit, Nat.testBit_mod_two_pow]
  by_cases h : i < hi + 1 - lo
  · have : lo ≤ lo + i ∧ lo + i < lo + (hi + 1 - lo) := by omega
    simp [h, this]
  · simp [h]

/-- A field beside the one written reads as before. -/
theorem bits_withBits_apart (w hi lo v h l : Nat) (d : h < lo ∨ hi < l) : bits (withBits w hi lo v) h l = bits w h l := by
  apply Nat.eq_of_testBit_eq
  intro i
  rw [bits_testBit, bits_testBit, withBits_testBit]
  by_cases hi' : i < h + 1 - l
  · have : ¬ (lo ≤ l + i ∧ l + i < lo + (hi + 1 - lo)) := by omega
    simp [hi', this]
  · simp [hi']

theorem withBits_lt (w hi lo v n : Nat) (hw : w < 2 ^ n) (h : hi < n) : withBits w hi lo v < 2 ^ n := by
  apply Nat.lt_pow_two_of_testBit
  intro i hi'
  rw [withBits_testBit]
  split
  · omega
  · exact Nat.testBit_lt_two_pow (lt_of_lt_of_le hw (Nat.pow_le_pow_right (by omega) hi'))

/-! Registers. -/

theorem regN_lt (s : State) (a : Nat) : s.regN a < 2 ^ 32 := (s.reg a).isLt

theorem regN_congr {s u : State} (h : u.regs = s.regs) (a : Nat) : u.regN a = s.regN a := by
  unfold State.regN State.reg; rw [h]

theorem State.reg_putReg (s : State) (a v b : Nat) :
    (s.putReg a v).reg b = if a = b then BitVec.ofNat 32 v else s.reg b := by
  unfold State.reg State.putReg
  rw [State.setRegs_regs]
  unfold smWrite
  split
  · next h =>
    rw [smFind_smDel]
    split
    · next e => subst e; simp [h]
    · rfl
  · rw [smFind_smPut]
    split <;> simp

theorem State.regN_putReg (s : State) (a v b : Nat) : (s.putReg a v).regN b = if a = b then v % 2 ^ 32 else s.regN b := by
  unfold State.regN
  rw [State.reg_putReg]
  split <;> simp

@[simp] theorem State.regN_putReg_same (s : State) (a v : Nat) : (s.putReg a v).regN a = v % 2 ^ 32 := by simp [State.regN_putReg]

theorem State.regN_putReg_other (s : State) {a b : Nat} (v : Nat) (h : a ≠ b) : (s.putReg a v).regN b = s.regN b := by
  simp [State.regN_putReg, h]

theorem State.regN_putFld_other (s : State) {f : Fld} {b : Nat} (v : Nat) (h : f.addr ≠ b) : (s.putFld f v).regN b = s.regN b :=
  s.regN_putReg_other _ h

theorem State.regN_count_other (s : State) {a b : Nat} (n : Nat) (h : a ≠ b) : (s.count a n).regN b = s.regN b :=
  s.regN_putReg_other _ h

@[simp] theorem State.regN_count_same (s : State) (a n : Nat) : (s.count a n).regN a = (s.regN a + n) % 2 ^ 32 := by
  simp [State.count]

@[simp] theorem State.fld_putFld_same (s : State) (f : Fld) (v : Nat) (h : f.hi < 32) :
    (s.putFld f v).fld f = v % 2 ^ (f.hi + 1 - f.lo) := by
  unfold State.fld State.putFld
  rw [State.regN_putReg_same, Nat.mod_eq_of_lt (withBits_lt _ _ _ _ _ (regN_lt s f.addr) h), bits_withBits_same]

theorem State.fld_putFld_apart (s : State) (f g : Fld) (v : Nat) (h : f.hi < 32) (d : f.addr ≠ g.addr ∨ g.hi < f.lo ∨ f.hi < g.lo) :
    (s.putFld f v).fld g = s.fld g := by
  unfold State.fld State.putFld
  rw [State.regN_putReg]
  split
  · next e =>
    rw [Nat.mod_eq_of_lt (withBits_lt _ _ _ _ _ (regN_lt s f.addr) h), bits_withBits_apart _ _ _ _ _ _ (d.resolve_left (absurd e)), e]
  · rfl

theorem State.fld_putReg_other (s : State) {a : Nat} {g : Fld} (v : Nat) (h : a ≠ g.addr) : (s.putReg a v).fld g = s.fld g := by
  unfold State.fld; rw [s.regN_putReg_other _ h]

theorem State.regN_putPair_other (s : State) {a b : Nat} (v : Nat) (h : a ≠ b) (h4 : a + 4 ≠ b) : (s.putPair a v).regN b = s.regN b := by
  unfold State.putPair; rw [State.regN_putReg_other _ _ h4, State.regN_putReg_other _ _ h]

@[simp] theorem State.pairAt_putPair (s : State) (a v : Nat) : (s.putPair a v).pairAt a = v % 2 ^ 64 := by
  unfold State.pairAt State.putPair
  rw [State.regN_putReg_other _ _ (by omega), State.regN_putReg_same, State.regN_putReg_same]
  omega

/-! A write of another part of the state leaves the registers. -/

@[simp] theorem State.regN_setPending (s : State) {x} (a : Nat) : (s.setPending x).regN a = s.regN a := regN_congr (State.setPending_regs s _) a
@[simp] theorem State.fld_setPending (s : State) {x} (f : Fld) : (s.setPending x).fld f = s.fld f := by unfold State.fld; simp
@[simp] theorem State.isSet_setPending (s : State) {x} (f : Fld) : (s.setPending x).isSet f = s.isSet f := by unfold State.isSet; simp
@[simp] theorem State.regN_setHeld (s : State) {x} (a : Nat) : (s.setHeld x).regN a = s.regN a := regN_congr (State.setHeld_regs s _) a
@[simp] theorem State.fld_setHeld (s : State) {x} (f : Fld) : (s.setHeld x).fld f = s.fld f := by unfold State.fld; simp
@[simp] theorem State.isSet_setHeld (s : State) {x} (f : Fld) : (s.setHeld x).isSet f = s.isSet f := by unfold State.isSet; simp
@[simp] theorem State.regN_setBoot (s : State) {x} (a : Nat) : (s.setBoot x).regN a = s.regN a := regN_congr (State.setBoot_regs s _) a
@[simp] theorem State.fld_setBoot (s : State) {x} (f : Fld) : (s.setBoot x).fld f = s.fld f := by unfold State.fld; simp
@[simp] theorem State.isSet_setBoot (s : State) {x} (f : Fld) : (s.setBoot x).isSet f = s.isSet f := by unfold State.isSet; simp
@[simp] theorem State.regN_setBases (s : State) {x} (a : Nat) : (s.setBases x).regN a = s.regN a := regN_congr (State.setBases_regs s _) a
@[simp] theorem State.fld_setBases (s : State) {x} (f : Fld) : (s.setBases x).fld f = s.fld f := by unfold State.fld; simp
@[simp] theorem State.isSet_setBases (s : State) {x} (f : Fld) : (s.setBases x).isSet f = s.isSet f := by unfold State.isSet; simp
@[simp] theorem State.regN_setSnaps (s : State) {x} (a : Nat) : (s.setSnaps x).regN a = s.regN a := regN_congr (State.setSnaps_regs s _) a
@[simp] theorem State.fld_setSnaps (s : State) {x} (f : Fld) : (s.setSnaps x).fld f = s.fld f := by unfold State.fld; simp
@[simp] theorem State.isSet_setSnaps (s : State) {x} (f : Fld) : (s.setSnaps x).isSet f = s.isSet f := by unfold State.isSet; simp
@[simp] theorem State.regN_setIrq (s : State) {x} (a : Nat) : (s.setIrq x).regN a = s.regN a := regN_congr (State.setIrq_regs s _) a
@[simp] theorem State.fld_setIrq (s : State) {x} (f : Fld) : (s.setIrq x).fld f = s.fld f := by unfold State.fld; simp
@[simp] theorem State.isSet_setIrq (s : State) {x} (f : Fld) : (s.setIrq x).isSet f = s.isSet f := by unfold State.isSet; simp
@[simp] theorem State.regN_setLedger (s : State) {x} (a : Nat) : (s.setLedger x).regN a = s.regN a := regN_congr (State.setLedger_regs s _) a
@[simp] theorem State.fld_setLedger (s : State) {x} (f : Fld) : (s.setLedger x).fld f = s.fld f := by unfold State.fld; simp
@[simp] theorem State.isSet_setLedger (s : State) {x} (f : Fld) : (s.setLedger x).isSet f = s.isSet f := by unfold State.isSet; simp
@[simp] theorem State.regN_setDraft (s : State) {x} (a : Nat) : (s.setDraft x).regN a = s.regN a := regN_congr (State.setDraft_regs s _) a
@[simp] theorem State.fld_setDraft (s : State) {x} (f : Fld) : (s.setDraft x).fld f = s.fld f := by unfold State.fld; simp
@[simp] theorem State.isSet_setDraft (s : State) {x} (f : Fld) : (s.setDraft x).isSet f = s.isSet f := by unfold State.isSet; simp
@[simp] theorem State.regN_setArchive (s : State) {x} (a : Nat) : (s.setArchive x).regN a = s.regN a := regN_congr (State.setArchive_regs s _) a
@[simp] theorem State.fld_setArchive (s : State) {x} (f : Fld) : (s.setArchive x).fld f = s.fld f := by unfold State.fld; simp
@[simp] theorem State.isSet_setArchive (s : State) {x} (f : Fld) : (s.setArchive x).isSet f = s.isSet f := by unfold State.isSet; simp
@[simp] theorem State.regN_setStk (s : State) {x} (a : Nat) : (s.setStk x).regN a = s.regN a := regN_congr (State.setStk_regs s _) a
@[simp] theorem State.fld_setStk (s : State) {x} (f : Fld) : (s.setStk x).fld f = s.fld f := by unfold State.fld; simp
@[simp] theorem State.isSet_setStk (s : State) {x} (f : Fld) : (s.setStk x).isSet f = s.isSet f := by unfold State.isSet; simp
@[simp] theorem State.regN_setOut (s : State) {x} (a : Nat) : (s.setOut x).regN a = s.regN a := regN_congr (State.setOut_regs s _) a
@[simp] theorem State.fld_setOut (s : State) {x} (f : Fld) : (s.setOut x).fld f = s.fld f := by unfold State.fld; simp
@[simp] theorem State.isSet_setOut (s : State) {x} (f : Fld) : (s.setOut x).isSet f = s.isSet f := by unfold State.isSet; simp
@[simp] theorem State.regN_setFreeCount (s : State) {x} (a : Nat) : (s.setFreeCount x).regN a = s.regN a := regN_congr (State.setFreeCount_regs s _) a
@[simp] theorem State.fld_setFreeCount (s : State) {x} (f : Fld) : (s.setFreeCount x).fld f = s.fld f := by unfold State.fld; simp
@[simp] theorem State.isSet_setFreeCount (s : State) {x} (f : Fld) : (s.setFreeCount x).isSet f = s.isSet f := by unfold State.isSet; simp
@[simp] theorem State.regN_setTime (s : State) {x} (a : Nat) : (s.setTime x).regN a = s.regN a := regN_congr (State.setTime_regs s _) a
@[simp] theorem State.fld_setTime (s : State) {x} (f : Fld) : (s.setTime x).fld f = s.fld f := by unfold State.fld; simp
@[simp] theorem State.isSet_setTime (s : State) {x} (f : Fld) : (s.setTime x).isSet f = s.isSet f := by unfold State.isSet; simp
@[simp] theorem State.regN_setVote (s : State) {x} (a : Nat) : (s.setVote x).regN a = s.regN a := regN_congr (State.setVote_regs s _) a
@[simp] theorem State.fld_setVote (s : State) {x} (f : Fld) : (s.setVote x).fld f = s.fld f := by unfold State.fld; simp
@[simp] theorem State.isSet_setVote (s : State) {x} (f : Fld) : (s.setVote x).isSet f = s.isSet f := by unfold State.isSet; simp
@[simp] theorem State.regN_setFault (s : State) {x} (a : Nat) : (s.setFault x).regN a = s.regN a := regN_congr (State.setFault_regs s _) a
@[simp] theorem State.fld_setFault (s : State) {x} (f : Fld) : (s.setFault x).fld f = s.fld f := by unfold State.fld; simp
@[simp] theorem State.isSet_setFault (s : State) {x} (f : Fld) : (s.setFault x).isSet f = s.isSet f := by unfold State.isSet; simp
@[simp] theorem State.regN_setPair (s : State) {x} (a : Nat) : (s.setPair x).regN a = s.regN a := regN_congr (State.setPair_regs s _) a
@[simp] theorem State.fld_setPair (s : State) {x} (f : Fld) : (s.setPair x).fld f = s.fld f := by unfold State.fld; simp
@[simp] theorem State.isSet_setPair (s : State) {x} (f : Fld) : (s.setPair x).isSet f = s.isSet f := by unfold State.isSet; simp
@[simp] theorem State.regN_setPower (s : State) {x} (a : Nat) : (s.setPower x).regN a = s.regN a := regN_congr (State.setPower_regs s _) a
@[simp] theorem State.fld_setPower (s : State) {x} (f : Fld) : (s.setPower x).fld f = s.fld f := by unfold State.fld; simp
@[simp] theorem State.isSet_setPower (s : State) {x} (f : Fld) : (s.setPower x).isSet f = s.isSet f := by unfold State.isSet; simp
@[simp] theorem State.regN_setQueues (s : State) {x} (a : Nat) : (s.setQueues x).regN a = s.regN a := regN_congr (State.setQueues_regs s _) a
@[simp] theorem State.fld_setQueues (s : State) {x} (f : Fld) : (s.setQueues x).fld f = s.fld f := by unfold State.fld; simp
@[simp] theorem State.isSet_setQueues (s : State) {x} (f : Fld) : (s.setQueues x).isSet f = s.isSet f := by unfold State.isSet; simp
@[simp] theorem State.regN_setPort (s : State) {x} (a : Nat) : (s.setPort x).regN a = s.regN a := regN_congr (State.setPort_regs s _) a
@[simp] theorem State.fld_setPort (s : State) {x} (f : Fld) : (s.setPort x).fld f = s.fld f := by unfold State.fld; simp
@[simp] theorem State.isSet_setPort (s : State) {x} (f : Fld) : (s.setPort x).isSet f = s.isSet f := by unfold State.isSet; simp
@[simp] theorem State.regN_setHedQ (s : State) {x} (a : Nat) : (s.setHedQ x).regN a = s.regN a := regN_congr (State.setHedQ_regs s _) a
@[simp] theorem State.fld_setHedQ (s : State) {x} (f : Fld) : (s.setHedQ x).fld f = s.fld f := by unfold State.fld; simp
@[simp] theorem State.isSet_setHedQ (s : State) {x} (f : Fld) : (s.setHedQ x).isSet f = s.isSet f := by unfold State.isSet; simp
@[simp] theorem State.regN_setHeddle (s : State) {x} (a : Nat) : (s.setHeddle x).regN a = s.regN a := regN_congr (State.setHeddle_regs s _) a
@[simp] theorem State.fld_setHeddle (s : State) {x} (f : Fld) : (s.setHeddle x).fld f = s.fld f := by unfold State.fld; simp
@[simp] theorem State.isSet_setHeddle (s : State) {x} (f : Fld) : (s.setHeddle x).isSet f = s.isSet f := by unfold State.isSet; simp
@[simp] theorem State.regN_setReedQ (s : State) {x} (a : Nat) : (s.setReedQ x).regN a = s.regN a := regN_congr (State.setReedQ_regs s _) a
@[simp] theorem State.fld_setReedQ (s : State) {x} (f : Fld) : (s.setReedQ x).fld f = s.fld f := by unfold State.fld; simp
@[simp] theorem State.isSet_setReedQ (s : State) {x} (f : Fld) : (s.setReedQ x).isSet f = s.isSet f := by unfold State.isSet; simp
@[simp] theorem State.regN_setWaveQ (s : State) {x} (a : Nat) : (s.setWaveQ x).regN a = s.regN a := regN_congr (State.setWaveQ_regs s _) a
@[simp] theorem State.fld_setWaveQ (s : State) {x} (f : Fld) : (s.setWaveQ x).fld f = s.fld f := by unfold State.fld; simp
@[simp] theorem State.isSet_setWaveQ (s : State) {x} (f : Fld) : (s.setWaveQ x).isSet f = s.isSet f := by unfold State.isSet; simp
@[simp] theorem State.regN_setInputQ (s : State) {x} (a : Nat) : (s.setInputQ x).regN a = s.regN a := regN_congr (State.setInputQ_regs s _) a
@[simp] theorem State.fld_setInputQ (s : State) {x} (f : Fld) : (s.setInputQ x).fld f = s.fld f := by unfold State.fld; simp
@[simp] theorem State.isSet_setInputQ (s : State) {x} (f : Fld) : (s.setInputQ x).isSet f = s.isSet f := by unfold State.isSet; simp
@[simp] theorem State.regN_setReed (s : State) {x} (a : Nat) : (s.setReed x).regN a = s.regN a := regN_congr (State.setReed_regs s _) a
@[simp] theorem State.fld_setReed (s : State) {x} (f : Fld) : (s.setReed x).fld f = s.fld f := by unfold State.fld; simp
@[simp] theorem State.isSet_setReed (s : State) {x} (f : Fld) : (s.setReed x).isSet f = s.isSet f := by unfold State.isSet; simp
@[simp] theorem State.regN_setLoomQ (s : State) {x} (a : Nat) : (s.setLoomQ x).regN a = s.regN a := regN_congr (State.setLoomQ_regs s _) a
@[simp] theorem State.fld_setLoomQ (s : State) {x} (f : Fld) : (s.setLoomQ x).fld f = s.fld f := by unfold State.fld; simp
@[simp] theorem State.isSet_setLoomQ (s : State) {x} (f : Fld) : (s.setLoomQ x).isSet f = s.isSet f := by unfold State.isSet; simp
@[simp] theorem State.regN_setLoom (s : State) {x} (a : Nat) : (s.setLoom x).regN a = s.regN a := regN_congr (State.setLoom_regs s _) a
@[simp] theorem State.fld_setLoom (s : State) {x} (f : Fld) : (s.setLoom x).fld f = s.fld f := by unfold State.fld; simp
@[simp] theorem State.isSet_setLoom (s : State) {x} (f : Fld) : (s.setLoom x).isSet f = s.isSet f := by unfold State.isSet; simp
@[simp] theorem State.regN_setSlv (s : State) {x} (a : Nat) : (s.setSlv x).regN a = s.regN a := regN_congr (State.setSlv_regs s _) a
@[simp] theorem State.fld_setSlv (s : State) {x} (f : Fld) : (s.setSlv x).fld f = s.fld f := by unfold State.fld; simp
@[simp] theorem State.isSet_setSlv (s : State) {x} (f : Fld) : (s.setSlv x).isSet f = s.isSet f := by unfold State.isSet; simp
@[simp] theorem State.regN_setCapt (s : State) {x} (a : Nat) : (s.setCapt x).regN a = s.regN a := regN_congr (State.setCapt_regs s _) a
@[simp] theorem State.fld_setCapt (s : State) {x} (f : Fld) : (s.setCapt x).fld f = s.fld f := by unfold State.fld; simp
@[simp] theorem State.isSet_setCapt (s : State) {x} (f : Fld) : (s.setCapt x).isSet f = s.isSet f := by unfold State.isSet; simp
@[simp] theorem State.regN_setShuttle (s : State) {x} (a : Nat) : (s.setShuttle x).regN a = s.regN a := regN_congr (State.setShuttle_regs s _) a
@[simp] theorem State.fld_setShuttle (s : State) {x} (f : Fld) : (s.setShuttle x).fld f = s.fld f := by unfold State.fld; simp
@[simp] theorem State.isSet_setShuttle (s : State) {x} (f : Fld) : (s.setShuttle x).isSet f = s.isSet f := by unfold State.isSet; simp
@[simp] theorem State.regN_setOsc (s : State) {x} (a : Nat) : (s.setOsc x).regN a = s.regN a := regN_congr (State.setOsc_regs s _) a
@[simp] theorem State.fld_setOsc (s : State) {x} (f : Fld) : (s.setOsc x).fld f = s.fld f := by unfold State.fld; simp
@[simp] theorem State.isSet_setOsc (s : State) {x} (f : Fld) : (s.setOsc x).isSet f = s.isSet f := by unfold State.isSet; simp
@[simp] theorem State.regN_setIsle (s : State) {x} (a : Nat) : (s.setIsle x).regN a = s.regN a := regN_congr (State.setIsle_regs s _) a
@[simp] theorem State.fld_setIsle (s : State) {x} (f : Fld) : (s.setIsle x).fld f = s.fld f := by unfold State.fld; simp
@[simp] theorem State.isSet_setIsle (s : State) {x} (f : Fld) : (s.setIsle x).isSet f = s.isSet f := by unfold State.isSet; simp
@[simp] theorem State.regN_setEnergy (s : State) {x} (a : Nat) : (s.setEnergy x).regN a = s.regN a := regN_congr (State.setEnergy_regs s _) a
@[simp] theorem State.fld_setEnergy (s : State) {x} (f : Fld) : (s.setEnergy x).fld f = s.fld f := by unfold State.fld; simp
@[simp] theorem State.isSet_setEnergy (s : State) {x} (f : Fld) : (s.setEnergy x).isSet f = s.isSet f := by unfold State.isSet; simp
@[simp] theorem State.regN_setSaves (s : State) {x} (a : Nat) : (s.setSaves x).regN a = s.regN a := regN_congr (State.setSaves_regs s _) a
@[simp] theorem State.fld_setSaves (s : State) {x} (f : Fld) : (s.setSaves x).fld f = s.fld f := by unfold State.fld; simp
@[simp] theorem State.isSet_setSaves (s : State) {x} (f : Fld) : (s.setSaves x).isSet f = s.isSet f := by unfold State.isSet; simp
@[simp] theorem State.regN_setClock (s : State) {x} (a : Nat) : (s.setClock x).regN a = s.regN a := regN_congr (State.setClock_regs s _) a
@[simp] theorem State.fld_setClock (s : State) {x} (f : Fld) : (s.setClock x).fld f = s.fld f := by unfold State.fld; simp
@[simp] theorem State.isSet_setClock (s : State) {x} (f : Fld) : (s.setClock x).isSet f = s.isSet f := by unfold State.isSet; simp
@[simp] theorem State.regN_setAgeing (s : State) {x} (a : Nat) : (s.setAgeing x).regN a = s.regN a := regN_congr (State.setAgeing_regs s _) a
@[simp] theorem State.fld_setAgeing (s : State) {x} (f : Fld) : (s.setAgeing x).fld f = s.fld f := by unfold State.fld; simp
@[simp] theorem State.isSet_setAgeing (s : State) {x} (f : Fld) : (s.setAgeing x).isSet f = s.isSet f := by unfold State.isSet; simp
@[simp] theorem State.regN_setHost (s : State) {x} (a : Nat) : (s.setHost x).regN a = s.regN a := regN_congr (State.setHost_regs s _) a
@[simp] theorem State.fld_setHost (s : State) {x} (f : Fld) : (s.setHost x).fld f = s.fld f := by unfold State.fld; simp
@[simp] theorem State.isSet_setHost (s : State) {x} (f : Fld) : (s.setHost x).isSet f = s.isSet f := by unfold State.isSet; simp
@[simp] theorem State.regN_setKeyHashes (s : State) {x} (a : Nat) : (s.setKeyHashes x).regN a = s.regN a := regN_congr (State.setKeyHashes_regs s _) a
@[simp] theorem State.fld_setKeyHashes (s : State) {x} (f : Fld) : (s.setKeyHashes x).fld f = s.fld f := by unfold State.fld; simp
@[simp] theorem State.isSet_setKeyHashes (s : State) {x} (f : Fld) : (s.setKeyHashes x).isSet f = s.isSet f := by unfold State.isSet; simp
@[simp] theorem State.regN_emit (s : State) (o : Output) (a : Nat) : (s.emit o).regN a = s.regN a := regN_congr (State.emit_regs s o) a
@[simp] theorem State.fld_emit (s : State) (o : Output) (f : Fld) : (s.emit o).fld f = s.fld f := by unfold State.fld; simp
@[simp] theorem State.isSet_emit (s : State) (o : Output) (f : Fld) : (s.emit o).isSet f = s.isSet f := by unfold State.isSet; simp
@[simp] theorem State.regN_drive (s : State) (b : Ball) (l : Bool) (a : Nat) : (s.drive b l).regN a = s.regN a := by
  unfold State.drive; split <;> simp

/-- A bit set in a register is set, whatever it held. -/
theorem State.isSet_putFld_one (s : State) (f : Fld) (h : f.hi < 32) (k : f.lo ≤ f.hi) : (s.putFld f 1).isSet f = true := by
  unfold State.isSet
  rw [State.fld_putFld_same _ _ _ h, Nat.mod_eq_of_lt (Nat.one_lt_two_pow (by omega))]
  rfl

theorem State.isSet_putFld_zero (s : State) (f : Fld) (h : f.hi < 32) : (s.putFld f 0).isSet f = false := by
  unfold State.isSet
  rw [State.fld_putFld_same _ _ _ h, Nat.zero_mod]
  rfl

/-! What an interrupt, an event or a host error does to the registers: the pending bit array, the mirror counter, and the error's own. -/

theorem State.regN_signal (s : State) (v : Nat) {a : Nat} (h : R.HOST_PBAn (v / 32) ≠ a) : (s.signal v).regN a = s.regN a := by
  unfold State.signal
  split
  · exact State.regN_putReg_other _ _ h
  · split
    · exact regN_congr (State.emit_regs _ _) a
    · rfl

theorem State.regN_raise (s : State) (c : Nat × Nat) {a : Nat} (h : R.HOST_PBAn (c.1 / 32) ≠ a) : (s.raise c).regN a = s.regN a := by
  unfold State.raise
  dsimp only
  split
  · rw [State.regN_signal _ _ h]; exact regN_congr (State.setIrq_regs _ _) a
  · exact regN_congr (State.setIrq_regs _ _) a

theorem State.regN_mirrorSend (s : State) (k : Nat) (l : List Byte) {a : Nat} (h : R.PAIR_MIRROR_SENT ≠ a) :
    (s.mirrorSend k l).regN a = s.regN a := by
  unfold State.mirrorSend
  split
  · rw [regN_congr (State.emit_regs _ _), State.regN_count_other _ _ h]; exact regN_congr (State.setSlv_regs _ _) a
  · rfl

theorem State.regN_mirrorRecord (s : State) {a : Nat} (h : R.PAIR_MIRROR_SENT ≠ a) : s.mirrorRecord.regN a = s.regN a := by
  unfold State.mirrorRecord
  split
  · exact State.regN_mirrorSend _ _ _ h
  · rfl

theorem regN_lostEvent (s : State) (code : Nat) {a : Nat} (h : R.HOST_PBAn 0 ≠ a) : (lostEvent s code).regN a = s.regN a := by
  unfold lostEvent
  dsimp only
  split
  · rw [State.regN_raise _ I.LEDGER_LOST h]; exact regN_congr (State.setLedger_regs _ _) a
  · split <;> exact regN_congr (State.setLedger_regs _ _) a

theorem State.regN_stageEvent (s : State) (l : LedgerSt) (code src : Nat) (p : List Byte) (c : Bool) {a : Nat}
    (h : R.HOST_PBAn 0 ≠ a) (k : R.PAIR_MIRROR_SENT ≠ a) : (s.stageEvent l code src p c).regN a = s.regN a := by
  unfold State.stageEvent
  split
  · rw [regN_lostEvent _ _ h]; exact regN_congr (State.setLedger_regs _ _) a
  · rw [State.regN_mirrorRecord _ k]; exact regN_congr (State.setLedger_regs _ _) a

theorem State.regN_event (s : State) (code src : Nat) (p : List Byte) {a : Nat} (h : R.HOST_PBAn 0 ≠ a) (k : R.PAIR_MIRROR_SENT ≠ a) :
    (s.event code src p).regN a = s.regN a := by
  unfold State.event
  split
  · exact regN_congr (State.setLedger_regs _ _) a
  · split
    · exact regN_congr (State.setLedger_regs _ _) a
    · exact State.regN_stageEvent _ _ _ _ _ _ h k
    · exact State.regN_stageEvent _ _ _ _ _ _ h k

theorem State.fld_event (s : State) (code src : Nat) (p : List Byte) {f : Fld} (h : R.HOST_PBAn 0 ≠ f.addr)
    (k : R.PAIR_MIRROR_SENT ≠ f.addr) : (s.event code src p).fld f = s.fld f := by unfold State.fld; rw [s.regN_event _ _ _ h k]

theorem State.fld_raise (s : State) (c : Nat × Nat) {f : Fld} (h : R.HOST_PBAn (c.1 / 32) ≠ f.addr) : (s.raise c).fld f = s.fld f := by
  unfold State.fld; rw [s.regN_raise _ h]

theorem State.regN_reject (s : State) (p : Path) (addr : Nat) {a : Nat} (h : hdr (addr / 2 ^ 20) 0x80 ≠ a) (k : hdr (addr / 2 ^ 20) 0x84 ≠ a) :
    (s.reject p addr).regN a = s.regN a := by
  unfold State.reject
  dsimp only
  split
  · rfl
  · rw [State.regN_count_other _ _ k, State.regN_putReg_other _ _ h]

theorem State.regN_monNote (s : State) (p : Path) (addr v : Nat) {a : Nat} (h : R.HOST_PBAn 0 ≠ a) (k : R.PAIR_MIRROR_SENT ≠ a)
    (m : R.MONITOR_WRITES ≠ a) : (s.monNote p addr v).regN a = s.regN a := by
  unfold State.monNote
  dsimp only
  split
  · rfl
  · rw [State.regN_raise _ I.MONITOR_WRITE h, State.regN_event _ _ _ _ h k, State.regN_count_other _ _ m]

@[simp] theorem State.monNote_byHost (s : State) (addr v : Nat) : s.monNote .host addr v = s := rfl

end Sys2Proof.Machine
end

