-- ==== Sys2Proof/Laws/Commands.lean ====
section
/-!
SUPPORT. Sys2Proof/Laws/Commands.lean: what happens at a command's time, and what a block's command does when it is taken.
-/

namespace Sys2Proof.Machine

/-! At a command's time. -/

theorem run_next {s : State} (h : s.held = false) (t : Nat) (f : State → State) : run t f s = .next (f (s.at t)) := by
  unfold run; simp [h]

theorem run_held {s : State} (h : s.held = true) (t : Nat) (f : State → State) : run t f s = .next s := by
  unfold run; simp [h]

@[simp] theorem State.regN_at (s : State) (t a : Nat) : (s.at t).regN a = s.regN a := regN_congr (State.at_regs s t) a
@[simp] theorem State.fld_at (s : State) (t : Nat) (f : Fld) : (s.at t).fld f = s.fld f := by unfold State.fld; simp
@[simp] theorem State.isSet_at (s : State) (t : Nat) (f : Fld) : (s.at t).isSet f = s.isSet f := by unfold State.isSet; simp
@[simp] theorem State.mode_at (s : State) (t : Nat) : (s.at t).mode = s.mode := by unfold State.mode; simp
@[simp] theorem State.domain_at (s : State) (t d : Nat) : (s.at t).domain d = s.domain d := by unfold State.domain; simp
@[simp] theorem State.regState_at (s : State) (t a : Nat) : (s.at t).regState a = s.regState a := by
  unfold State.regState State.noStacks; simp
@[simp] theorem State.deaf_at (s : State) (t : Nat) (p : Path) : (s.at t).deaf p = s.deaf p := by unfold State.deaf; simp
@[simp] theorem State.mayWrite_at (s : State) (t : Nat) (p : Path) (a : Nat) : (s.at t).mayWrite p a = s.mayWrite p a := by
  unfold State.mayWrite State.master; simp
@[simp] theorem State.arg_at (s : State) (t b n : Nat) : (s.at t).arg b n = s.arg b n := by unfold State.arg; simp

/-- A write that is carried out. -/
theorem access_reaches {s : State} {path : Path} {addr : Nat} (h : s.Reaches path addr) (t v : Nat) (f : State → State) (x : CmdInput) :
    (s.at t).access path addr v f x = f (s.asked t path addr v) := by
  obtain ⟨_, h2, h3, h4⟩ := h
  unfold State.access State.asked
  simp [h2, h3, h4]

/-! What the state of a command keeps of the one before. -/

theorem State.asked_keeps (s : State) (t : Nat) (path : Path) (addr v : Nat) : Keeps (s.at t) (s.asked t path addr v) :=
  (Keeps.refl _).monNote _ _ _

theorem State.regN_asked (s : State) (t : Nat) (path : Path) (addr v : Nat) {a : Nat} (h : a ∉ noteRegs) :
    (s.asked t path addr v).regN a = s.regN a := by
  simp only [List.mem_cons, List.not_mem_nil, or_false, not_or] at h
  unfold State.asked
  rw [State.regN_monNote _ _ _ _ (Ne.symm h.1) (Ne.symm h.2.1) (Ne.symm h.2.2), State.regN_at]

theorem hdr_not_note (b off : Nat) (h : off < 0x200) (h4 : off % 4 = 0) : hdr b off ∉ noteRegs := by
  simp only [List.mem_cons, List.not_mem_nil, or_false, not_or, R.PAIR_MIRROR_SENT, R.MONITOR_WRITES, R.HOST_PBAn, hdr]
  omega

/-! A command that is taken. -/

theorem command_ready {s : State} {path : Path} {b : Nat} (h : s.Ready path b) (t op : Nat) (body : State → CmdResult) (x : CmdInput) :
    command t b op path body s x = .next (finish b op (body (s.issued t path b op))) := by
  unfold command State.goWrite
  rw [run_next h.1.1]
  rw [access_reaches h.1]
  unfold issue
  have : bits ((s.asked t path (hdr b 0x40) (goWord op)).regN (hdr b 0x54)) 31 31 = 1 := by
    rw [State.regN_asked _ _ _ _ _ (hdr_not_note b 0x54 (by omega) (by omega))]; exact h.2
  rw [this]
  rfl

/-- DONE with status OK: CMD, CMD_STATUS and the results are written, and nothing else. -/
theorem finish_ok {b op : Nat} {r : CmdResult} (hw : r.waits = false) (hs : r.status = 0) :
    finish b op r =
      (((r.state.putReg (hdr b 0x40) op).putReg (hdr b 0x54) (2 ^ 31 + 2 ^ 16 * op)).putReg (hdr b 0x58) r.r0).putReg (hdr b 0x5C) r.r1 := by
  unfold finish
  simp [hw, hs]

theorem finish_keeps {b op : Nat} (r : CmdResult) : Keeps r.state (finish b op r) := by
  unfold finish
  split
  · exact ((Keeps.refl _).putReg _ _).putReg _ _
  · dsimp only
    split
    · exact (((((Keeps.refl _).putReg _ _).putReg _ _).putReg _ _).putReg _ _).event _ _ _
    · exact ((((Keeps.refl _).putReg _ _).putReg _ _).putReg _ _).putReg _ _

theorem finish_doneOk {b op : Nat} {r : CmdResult} (hw : r.waits = false) (hs : r.status = 0) (hop : op < 256) :
    (finish b op r).DoneOk b op := by
  rw [finish_ok hw hs]
  unfold State.DoneOk
  constructor
  · rw [State.regN_putReg_other _ _ (by simp [hdr]), State.regN_putReg_other _ _ (by simp [hdr]), State.regN_putReg_same]
    omega
  · rw [State.regN_putReg_other _ _ (by simp [hdr]), State.regN_putReg_other _ _ (by simp [hdr]),
      State.regN_putReg_other _ _ (by simp [hdr]), State.regN_putReg_same]
    omega

theorem finish_results {b op : Nat} {r : CmdResult} (hw : r.waits = false) (hs : r.status = 0) :
    (finish b op r).results b = (r.r0 % 2 ^ 32, r.r1 % 2 ^ 32) := by
  rw [finish_ok hw hs]
  unfold State.results
  rw [State.regN_putReg_same, State.regN_putReg_other _ _ (by simp [hdr]), State.regN_putReg_same]

theorem finish_regN {b op : Nat} {r : CmdResult} (hw : r.waits = false) (hs : r.status = 0) {a : Nat} (h : a ∉ cmdRegs b) :
    (finish b op r).regN a = r.state.regN a := by
  simp only [List.mem_cons, List.not_mem_nil, or_false, not_or] at h
  rw [finish_ok hw hs, State.regN_putReg_other _ _ (Ne.symm h.2.2.2), State.regN_putReg_other _ _ (Ne.symm h.2.2.1),
    State.regN_putReg_other _ _ (Ne.symm h.2.1), State.regN_putReg_other _ _ (Ne.symm h.1)]

/-! Completion. -/

theorem completes {b op : Nat} {i : Nat → Path → Instr} {c : State → Prop} {e : State → State → Prop} {body : Path → State → CmdResult}
    (he : ∀ t path s, exec (i t path) s = command t b op path (body path) s) (hop : op < 256)
    (h : ∀ path w, c w → (body path w).waits = false ∧ (body path w).status = 0 ∧ e w (finish b op (body path w))) :
    Completes b op i c e := by
  intro s t path hr hc
  obtain ⟨h1, h2, h3⟩ := h path _ hc
  exact ⟨_, (he t path s).trans (command_ready hr t op (body path) {}), finish_doneOk h1 h2 hop, h3⟩

/-- A command whose body answers OK with a state. -/
theorem completes_ok {b op : Nat} {i : Nat → Path → Instr} {c : State → Prop} {e : State → State → Prop} {body : Path → State → CmdResult}
    (he : ∀ t path s, exec (i t path) s = command t b op path (body path) s) (hop : op < 256)
    (h : ∀ path w, c w → ∃ u, body path w = ok u ∧ e w (finish b op (ok u))) : Completes b op i c e :=
  completes he hop fun path w hc => by
    obtain ⟨u, h1, h2⟩ := h path w hc
    rw [h1]
    exact ⟨rfl, rfl, h2⟩

theorem starts {b op : Nat} {i : Nat → Path → Instr} {c : State → Prop} {e : State → State → Prop} {body : Path → State → CmdResult}
    (he : ∀ t path s, exec (i t path) s = command t b op path (body path) s) (hop : op < 256)
    (h : ∀ path w, c w → (body path w).waits = true ∧ e w (finish b op (body path w))) : Starts b op i c e := by
  intro s t path hr hc
  obtain ⟨h1, h3⟩ := h path _ hc
  refine ⟨_, (he t path s).trans (command_ready hr t op (body path) {}), ?_, ?_, h3⟩
  · unfold finish
    rw [h1, if_pos rfl, State.regN_putReg_same]
    omega
  · unfold finish
    rw [h1, if_pos rfl, State.regN_putReg_other _ _ (by simp [hdr]), State.regN_putReg_same]
    omega

theorem happens {i : Nat → Instr} {c : State → Prop} {e : State → State → Prop} {f : State → State}
    (he : ∀ t s, exec (i t) s = run t f s) (h : ∀ w, c w → e w (f w)) : Happens i c e :=
  fun s t hs hc => ⟨_, (he t s).trans (run_next hs t f), h _ hc⟩

end Sys2Proof.Machine
end

