-- ==== Sys2Proof/Laws/Frame.lean ====
section
/-!
SUPPORT. Sys2Proof/Laws/Frame.lean: which parts of the state an operation may write. A set of parts is a number, one bit per part; an
operation's set is the union of those of the operations it is made of.
-/

namespace Sys2Proof.Machine

theorem Part.same_refl (p : Part) (s : State) : p.same s s := by cases p <;> rfl

theorem Part.same_trans (p : Part) {s u v : State} (h : p.same s u) (k : p.same u v) : p.same s v := by
  cases p <;> exact Eq.trans k h

theorem Part.same_symm (p : Part) {s u : State} (h : p.same s u) : p.same u s := by
  cases p <;> exact Eq.symm h

/-- A list of parts as a set. -/
def partSet (l : List Part) : Nat := l.foldl (fun m p => m ||| 2 ^ p.bit) 0

theorem partSet_go (l : List Part) (q : Part) : ∀ m : Nat, m.testBit q.bit = false → q ∉ l →
    (l.foldl (fun m p => m ||| 2 ^ p.bit) m).testBit q.bit = false := by
  induction l with
  | nil => intro m h _; exact h
  | cons p l ih =>
    intro m h k
    rw [List.mem_cons, not_or] at k
    refine ih _ ?_ k.2
    rw [Nat.testBit_or, h, Bool.false_or, Nat.testBit_two_pow]
    have : p.bit ≠ q.bit := fun e => k.1 (by cases p <;> cases q <;> first | rfl | exact absurd e (by decide))
    simp [this]

/-- A part that is not listed is not in the set. -/
theorem partSet_not (l : List Part) (q : Part) (h : q ∉ l) : (partSet l).testBit q.bit = false :=
  partSet_go l q 0 (Nat.zero_testBit _) h

/-- Every part outside the set `m` is the same. -/
def Frame (m : Nat) (s u : State) : Prop := ∀ p : Part, m.testBit p.bit = false → p.same s u

@[simp] theorem Frame.refl (m : Nat) (s : State) : Frame m s s := fun p _ => p.same_refl s

theorem Frame.trans {m : Nat} {s u v : State} (h : Frame m s u) (k : Frame m u v) : Frame m s v :=
  fun p hp => p.same_trans (h p hp) (k p hp)

theorem Frame.symm {m : Nat} {s u : State} (h : Frame m s u) : Frame m u s := fun p hp => p.same_symm (h p hp)

/-- A smaller set says more. -/
theorem Frame.mono {m n : Nat} {s u : State} (h : Frame m s u) (k : m ||| n = n) : Frame n s u := by
  intro p hp
  refine h p ?_
  rw [← k, Nat.testBit_or, Bool.or_eq_false_iff] at hp
  exact hp.1

/-- An operation that writes only parts of the set makes no difference. -/
theorem Frame.thru {m n : Nat} {s u v : State} (h : Frame m u v) (k : m ||| n = n) : Frame n s v ↔ Frame n s u :=
  ⟨fun x => x.trans (h.mono k).symm, fun x => x.trans (h.mono k)⟩

@[simp ↓] theorem Frame.ite {m : Nat} {s u v : State} {c : Prop} [Decidable c] : Frame m s (if c then u else v) ↔ if c then Frame m s u else Frame m s v := by
  split <;> rfl

theorem State.setPending_frame (u : State) (x : List Instr) : Frame 0x1 u (u.setPending x) := by
  intro p hp; cases p <;> first | exact absurd hp (by decide) | rfl

theorem State.setHeld_frame (u : State) (x : Bool) : Frame 0x2 u (u.setHeld x) := by
  intro p hp; cases p <;> first | exact absurd hp (by decide) | rfl

theorem State.setBoot_frame (u : State) (x : Nat × Nat × Nat) : Frame 0x4 u (u.setBoot x) := by
  intro p hp; cases p <;> first | exact absurd hp (by decide) | rfl

theorem State.setRegs_frame (u : State) (x : SMap Word) : Frame 0x10 u (u.setRegs x) := by
  intro p hp; cases p <;> first | exact absurd hp (by decide) | rfl

theorem State.setSnaps_frame (u : State) (x : SMap Word) : Frame 0x20 u (u.setSnaps x) := by
  intro p hp; cases p <;> first | exact absurd hp (by decide) | rfl

theorem State.setIrq_frame (u : State) (x : SMap IrqBlk) : Frame 0x40 u (u.setIrq x) := by
  intro p hp; cases p <;> first | exact absurd hp (by decide) | rfl

theorem State.setLedger_frame (u : State) (x : LedgerSt) : Frame 0x80 u (u.setLedger x) := by
  intro p hp; cases p <;> first | exact absurd hp (by decide) | rfl

theorem State.setDraft_frame (u : State) (x : DraftSt) : Frame 0x100 u (u.setDraft x) := by
  intro p hp; cases p <;> first | exact absurd hp (by decide) | rfl

theorem State.setArchive_frame (u : State) (x : SMap Byte) : Frame 0x200 u (u.setArchive x) := by
  intro p hp; cases p <;> first | exact absurd hp (by decide) | rfl

theorem State.setStk_frame (u : State) (x : SMap Byte) : Frame 0x400 u (u.setStk x) := by
  intro p hp; cases p <;> first | exact absurd hp (by decide) | rfl

theorem State.setOut_frame (u : State) (x : List Output) : Frame 0x800 u (u.setOut x) := by
  intro p hp; cases p <;> first | exact absurd hp (by decide) | rfl

theorem State.setFreeCount_frame (u : State) (x : Nat) : Frame 0x1000 u (u.setFreeCount x) := by
  intro p hp; cases p <;> first | exact absurd hp (by decide) | rfl

theorem State.setTime_frame (u : State) (x : TimeSt) : Frame 0x2000 u (u.setTime x) := by
  intro p hp; cases p <;> first | exact absurd hp (by decide) | rfl

theorem State.setVote_frame (u : State) (x : VoteSt) : Frame 0x4000 u (u.setVote x) := by
  intro p hp; cases p <;> first | exact absurd hp (by decide) | rfl

theorem State.setFault_frame (u : State) (x : FaultSt) : Frame 0x8000 u (u.setFault x) := by
  intro p hp; cases p <;> first | exact absurd hp (by decide) | rfl

theorem State.setPair_frame (u : State) (x : PairSt) : Frame 0x10000 u (u.setPair x) := by
  intro p hp; cases p <;> first | exact absurd hp (by decide) | rfl

theorem State.setPower_frame (u : State) (x : PowerSt) : Frame 0x20000 u (u.setPower x) := by
  intro p hp; cases p <;> first | exact absurd hp (by decide) | rfl

theorem State.setQueues_frame (u : State) (x : SMap QueueSt) : Frame 0x40000 u (u.setQueues x) := by
  intro p hp; cases p <;> first | exact absurd hp (by decide) | rfl

theorem State.setPort_frame (u : State) (x : PortSt) : Frame 0x80000 u (u.setPort x) := by
  intro p hp; cases p <;> first | exact absurd hp (by decide) | rfl

theorem State.setHedQ_frame (u : State) (x : List HedFrame) : Frame 0x100000 u (u.setHedQ x) := by
  intro p hp; cases p <;> first | exact absurd hp (by decide) | rfl

theorem State.setHeddle_frame (u : State) (x : HeddleSt) : Frame 0x200000 u (u.setHeddle x) := by
  intro p hp; cases p <;> first | exact absurd hp (by decide) | rfl

theorem State.setReedQ_frame (u : State) (x : List Item) : Frame 0x400000 u (u.setReedQ x) := by
  intro p hp; cases p <;> first | exact absurd hp (by decide) | rfl

theorem State.setWaveQ_frame (u : State) (x : List WaveSample) : Frame 0x800000 u (u.setWaveQ x) := by
  intro p hp; cases p <;> first | exact absurd hp (by decide) | rfl

theorem State.setInputQ_frame (u : State) (x : List InputEvent) : Frame 0x1000000 u (u.setInputQ x) := by
  intro p hp; cases p <;> first | exact absurd hp (by decide) | rfl

theorem State.setReed_frame (u : State) (x : ReedSt) : Frame 0x2000000 u (u.setReed x) := by
  intro p hp; cases p <;> first | exact absurd hp (by decide) | rfl

theorem State.setLoomQ_frame (u : State) (x : List Item) : Frame 0x4000000 u (u.setLoomQ x) := by
  intro p hp; cases p <;> first | exact absurd hp (by decide) | rfl

theorem State.setLoom_frame (u : State) (x : LoomSt) : Frame 0x8000000 u (u.setLoom x) := by
  intro p hp; cases p <;> first | exact absurd hp (by decide) | rfl

theorem State.setSlv_frame (u : State) (x : SlvSt) : Frame 0x10000000 u (u.setSlv x) := by
  intro p hp; cases p <;> first | exact absurd hp (by decide) | rfl

theorem State.setCapt_frame (u : State) (x : CaptSt) : Frame 0x20000000 u (u.setCapt x) := by
  intro p hp; cases p <;> first | exact absurd hp (by decide) | rfl

theorem State.setShuttle_frame (u : State) (x : ShuttleSt) : Frame 0x40000000 u (u.setShuttle x) := by
  intro p hp; cases p <;> first | exact absurd hp (by decide) | rfl

theorem State.setOsc_frame (u : State) (x : OscSt) : Frame 0x80000000 u (u.setOsc x) := by
  intro p hp; cases p <;> first | exact absurd hp (by decide) | rfl

theorem State.setIsle_frame (u : State) (x : IsleSt) : Frame 0x100000000 u (u.setIsle x) := by
  intro p hp; cases p <;> first | exact absurd hp (by decide) | rfl

theorem State.setEnergy_frame (u : State) (x : EnergySt) : Frame 0x200000000 u (u.setEnergy x) := by
  intro p hp; cases p <;> first | exact absurd hp (by decide) | rfl

theorem State.setSaves_frame (u : State) (x : EnergySaves) : Frame 0x400000000 u (u.setSaves x) := by
  intro p hp; cases p <;> first | exact absurd hp (by decide) | rfl

theorem State.setClock_frame (u : State) (x : ClockSt) : Frame 0x800000000 u (u.setClock x) := by
  intro p hp; cases p <;> first | exact absurd hp (by decide) | rfl

theorem State.setAgeing_frame (u : State) (x : AgeSave) : Frame 0x1000000000 u (u.setAgeing x) := by
  intro p hp; cases p <;> first | exact absurd hp (by decide) | rfl

theorem State.setHost_frame (u : State) (x : HostSt) : Frame 0x2000000000 u (u.setHost x) := by
  intro p hp; cases p <;> first | exact absurd hp (by decide) | rfl

theorem State.setKeyHashes_frame (u : State) (x : SMap (List Byte)) : Frame 0x4000000000 u (u.setKeyHashes x) := by
  intro p hp; cases p <;> first | exact absurd hp (by decide) | rfl

theorem State.setBases_frame (u : State) (x : Bases) (h : x.mono = u.bases.mono) : Frame 0x8 u (u.setBases x) := by
  intro p hp; cases p <;> first | exact absurd hp (by decide) | exact h | rfl

theorem State.setBases_frame' (u : State) (x : Bases) : Frame 0x8000000008 u (u.setBases x) := by
  intro p hp; cases p <;> first | exact absurd hp (by decide) | rfl

@[simp ↓] theorem Frame.setPending {m : Nat} {s u : State} {x : List Instr} (k : 0x1 ||| m = m) : Frame m s (u.setPending x) ↔ Frame m s u := (u.setPending_frame x).thru k
@[simp ↓] theorem Frame.setHeld {m : Nat} {s u : State} {x : Bool} (k : 0x2 ||| m = m) : Frame m s (u.setHeld x) ↔ Frame m s u := (u.setHeld_frame x).thru k
@[simp ↓] theorem Frame.setBoot {m : Nat} {s u : State} {x : Nat × Nat × Nat} (k : 0x4 ||| m = m) : Frame m s (u.setBoot x) ↔ Frame m s u := (u.setBoot_frame x).thru k
@[simp ↓] theorem Frame.setRegs {m : Nat} {s u : State} {x : SMap Word} (k : 0x10 ||| m = m) : Frame m s (u.setRegs x) ↔ Frame m s u := (u.setRegs_frame x).thru k
@[simp ↓] theorem Frame.setSnaps {m : Nat} {s u : State} {x : SMap Word} (k : 0x20 ||| m = m) : Frame m s (u.setSnaps x) ↔ Frame m s u := (u.setSnaps_frame x).thru k
@[simp ↓] theorem Frame.setIrq {m : Nat} {s u : State} {x : SMap IrqBlk} (k : 0x40 ||| m = m) : Frame m s (u.setIrq x) ↔ Frame m s u := (u.setIrq_frame x).thru k
@[simp ↓] theorem Frame.setLedger {m : Nat} {s u : State} {x : LedgerSt} (k : 0x80 ||| m = m) : Frame m s (u.setLedger x) ↔ Frame m s u := (u.setLedger_frame x).thru k
@[simp ↓] theorem Frame.setDraft {m : Nat} {s u : State} {x : DraftSt} (k : 0x100 ||| m = m) : Frame m s (u.setDraft x) ↔ Frame m s u := (u.setDraft_frame x).thru k
@[simp ↓] theorem Frame.setArchive {m : Nat} {s u : State} {x : SMap Byte} (k : 0x200 ||| m = m) : Frame m s (u.setArchive x) ↔ Frame m s u := (u.setArchive_frame x).thru k
@[simp ↓] theorem Frame.setStk {m : Nat} {s u : State} {x : SMap Byte} (k : 0x400 ||| m = m) : Frame m s (u.setStk x) ↔ Frame m s u := (u.setStk_frame x).thru k
@[simp ↓] theorem Frame.setOut {m : Nat} {s u : State} {x : List Output} (k : 0x800 ||| m = m) : Frame m s (u.setOut x) ↔ Frame m s u := (u.setOut_frame x).thru k
@[simp ↓] theorem Frame.setFreeCount {m : Nat} {s u : State} {x : Nat} (k : 0x1000 ||| m = m) : Frame m s (u.setFreeCount x) ↔ Frame m s u := (u.setFreeCount_frame x).thru k
@[simp ↓] theorem Frame.setTime {m : Nat} {s u : State} {x : TimeSt} (k : 0x2000 ||| m = m) : Frame m s (u.setTime x) ↔ Frame m s u := (u.setTime_frame x).thru k
@[simp ↓] theorem Frame.setVote {m : Nat} {s u : State} {x : VoteSt} (k : 0x4000 ||| m = m) : Frame m s (u.setVote x) ↔ Frame m s u := (u.setVote_frame x).thru k
@[simp ↓] theorem Frame.setFault {m : Nat} {s u : State} {x : FaultSt} (k : 0x8000 ||| m = m) : Frame m s (u.setFault x) ↔ Frame m s u := (u.setFault_frame x).thru k
@[simp ↓] theorem Frame.setPair {m : Nat} {s u : State} {x : PairSt} (k : 0x10000 ||| m = m) : Frame m s (u.setPair x) ↔ Frame m s u := (u.setPair_frame x).thru k
@[simp ↓] theorem Frame.setPower {m : Nat} {s u : State} {x : PowerSt} (k : 0x20000 ||| m = m) : Frame m s (u.setPower x) ↔ Frame m s u := (u.setPower_frame x).thru k
@[simp ↓] theorem Frame.setQueues {m : Nat} {s u : State} {x : SMap QueueSt} (k : 0x40000 ||| m = m) : Frame m s (u.setQueues x) ↔ Frame m s u := (u.setQueues_frame x).thru k
@[simp ↓] theorem Frame.setPort {m : Nat} {s u : State} {x : PortSt} (k : 0x80000 ||| m = m) : Frame m s (u.setPort x) ↔ Frame m s u := (u.setPort_frame x).thru k
@[simp ↓] theorem Frame.setHedQ {m : Nat} {s u : State} {x : List HedFrame} (k : 0x100000 ||| m = m) : Frame m s (u.setHedQ x) ↔ Frame m s u := (u.setHedQ_frame x).thru k
@[simp ↓] theorem Frame.setHeddle {m : Nat} {s u : State} {x : HeddleSt} (k : 0x200000 ||| m = m) : Frame m s (u.setHeddle x) ↔ Frame m s u := (u.setHeddle_frame x).thru k
@[simp ↓] theorem Frame.setReedQ {m : Nat} {s u : State} {x : List Item} (k : 0x400000 ||| m = m) : Frame m s (u.setReedQ x) ↔ Frame m s u := (u.setReedQ_frame x).thru k
@[simp ↓] theorem Frame.setWaveQ {m : Nat} {s u : State} {x : List WaveSample} (k : 0x800000 ||| m = m) : Frame m s (u.setWaveQ x) ↔ Frame m s u := (u.setWaveQ_frame x).thru k
@[simp ↓] theorem Frame.setInputQ {m : Nat} {s u : State} {x : List InputEvent} (k : 0x1000000 ||| m = m) : Frame m s (u.setInputQ x) ↔ Frame m s u := (u.setInputQ_frame x).thru k
@[simp ↓] theorem Frame.setReed {m : Nat} {s u : State} {x : ReedSt} (k : 0x2000000 ||| m = m) : Frame m s (u.setReed x) ↔ Frame m s u := (u.setReed_frame x).thru k
@[simp ↓] theorem Frame.setLoomQ {m : Nat} {s u : State} {x : List Item} (k : 0x4000000 ||| m = m) : Frame m s (u.setLoomQ x) ↔ Frame m s u := (u.setLoomQ_frame x).thru k
@[simp ↓] theorem Frame.setLoom {m : Nat} {s u : State} {x : LoomSt} (k : 0x8000000 ||| m = m) : Frame m s (u.setLoom x) ↔ Frame m s u := (u.setLoom_frame x).thru k
@[simp ↓] theorem Frame.setSlv {m : Nat} {s u : State} {x : SlvSt} (k : 0x10000000 ||| m = m) : Frame m s (u.setSlv x) ↔ Frame m s u := (u.setSlv_frame x).thru k
@[simp ↓] theorem Frame.setCapt {m : Nat} {s u : State} {x : CaptSt} (k : 0x20000000 ||| m = m) : Frame m s (u.setCapt x) ↔ Frame m s u := (u.setCapt_frame x).thru k
@[simp ↓] theorem Frame.setShuttle {m : Nat} {s u : State} {x : ShuttleSt} (k : 0x40000000 ||| m = m) : Frame m s (u.setShuttle x) ↔ Frame m s u := (u.setShuttle_frame x).thru k
@[simp ↓] theorem Frame.setOsc {m : Nat} {s u : State} {x : OscSt} (k : 0x80000000 ||| m = m) : Frame m s (u.setOsc x) ↔ Frame m s u := (u.setOsc_frame x).thru k
@[simp ↓] theorem Frame.setIsle {m : Nat} {s u : State} {x : IsleSt} (k : 0x100000000 ||| m = m) : Frame m s (u.setIsle x) ↔ Frame m s u := (u.setIsle_frame x).thru k
@[simp ↓] theorem Frame.setEnergy {m : Nat} {s u : State} {x : EnergySt} (k : 0x200000000 ||| m = m) : Frame m s (u.setEnergy x) ↔ Frame m s u := (u.setEnergy_frame x).thru k
@[simp ↓] theorem Frame.setSaves {m : Nat} {s u : State} {x : EnergySaves} (k : 0x400000000 ||| m = m) : Frame m s (u.setSaves x) ↔ Frame m s u := (u.setSaves_frame x).thru k
@[simp ↓] theorem Frame.setClock {m : Nat} {s u : State} {x : ClockSt} (k : 0x800000000 ||| m = m) : Frame m s (u.setClock x) ↔ Frame m s u := (u.setClock_frame x).thru k
@[simp ↓] theorem Frame.setAgeing {m : Nat} {s u : State} {x : AgeSave} (k : 0x1000000000 ||| m = m) : Frame m s (u.setAgeing x) ↔ Frame m s u := (u.setAgeing_frame x).thru k
@[simp ↓] theorem Frame.setHost {m : Nat} {s u : State} {x : HostSt} (k : 0x2000000000 ||| m = m) : Frame m s (u.setHost x) ↔ Frame m s u := (u.setHost_frame x).thru k
@[simp ↓] theorem Frame.setKeyHashes {m : Nat} {s u : State} {x : SMap (List Byte)} (k : 0x4000000000 ||| m = m) : Frame m s (u.setKeyHashes x) ↔ Frame m s u := (u.setKeyHashes_frame x).thru k
@[simp ↓] theorem Frame.setBases {m : Nat} {s u : State} {x : Bases} (k : 0x8 ||| m = m) (h : x.mono = u.bases.mono) : Frame m s (u.setBases x) ↔ Frame m s u := (u.setBases_frame x h).thru k
@[simp ↓] theorem Frame.setBases' {m : Nat} {s u : State} {x : Bases} (k : 0x8000000008 ||| m = m) : Frame m s (u.setBases x) ↔ Frame m s u := (u.setBases_frame' x).thru k

theorem Frame.foldl {α : Type} {m : Nat} {s : State} {f : State → α → State} (h : ∀ u x, Frame m u (f u x)) (l : List α) :
    ∀ u, Frame m s (l.foldl f u) ↔ Frame m s u := by
  induction l with
  | nil => intro u; rfl
  | cons a l ih =>
    intro u
    rw [List.foldl_cons, ih]
    exact (h u a).thru (Nat.or_self m)

/-- Both branches of a choice. -/
theorem Frame.both {m : Nat} {s u v : State} {c : Prop} [Decidable c] (h : Frame m s u) (k : Frame m s v) : Frame m s (if c then u else v) := by
  split <;> assumption

/-- The same for a fold that carries something beside the state. -/
theorem Frame.foldlFst {α β : Type} {m : Nat} {s : State} {f : State × β → α → State × β} (h : ∀ u b x, Frame m u (f (u, b) x).1)
    (l : List α) : ∀ a : State × β, Frame m s (l.foldl f a).1 ↔ Frame m s a.1 := by
  induction l with
  | nil => intro a; rfl
  | cons x l ih =>
    intro a
    rw [List.foldl_cons, ih]
    exact (h a.1 a.2 x).thru (Nat.or_self m)

/-- The same for a fold that may end with nothing. -/
theorem Frame.foldlOption {α : Type} {m : Nat} {f : Option State → α → Option State} (hn : ∀ x, f none x = none)
    (h : ∀ u x v, f (some u) x = some v → Frame m u v) (l : List α) : ∀ u v, l.foldl f (some u) = some v → Frame m u v := by
  induction l with
  | nil => intro u v e; cases e; exact Frame.refl _ _
  | cons x l ih =>
    intro u v e
    rw [List.foldl_cons] at e
    cases k : f (some u) x with
    | none =>
      rw [k] at e
      have n : ∀ l : List α, l.foldl f none = none := by
        intro l
        induction l with
        | nil => rfl
        | cons y l ih => rw [List.foldl_cons, hn, ih]
      rw [n] at e; cases e
    | some w => rw [k] at e; exact (h u x w k).trans (ih w v e)

/-- An operation reached through an option. -/
theorem Frame.getD {m : Nat} {u : State} {o : Option State} (h : ∀ v, o = some v → Frame m u v) : Frame m u (o.getD u) := by
  cases o with
  | none => exact Frame.refl _ _
  | some v => exact h v rfl

end Sys2Proof.Machine
end

