-- ==== Sys2Proof/Laws/Frame1.lean ====
section
/-!
SUPPORT. Sys2Proof/Laws/Frame1.lean: the parts of the state that each operation may write, part 1 of 7, in the order in which the
operations call each other. One lemma an operation: a frame goes through it.
-/

namespace Sys2Proof.Machine

theorem Frame.putReg {m : Nat} {s u : State} {x1 x2 : ℕ} (k : 0x10 ||| m = m) : Frame m s (State.putReg u x1 x2) ↔ Frame m s u := by
  refine Frame.thru (m := 0x10) ?_ k
  unfold State.putReg
  simp (disch := decide) only [↓Frame.setRegs, Frame.refl]

theorem Frame.emit {m : Nat} {s u : State} {x1 : Output} (k : 0x800 ||| m = m) : Frame m s (State.emit u x1) ↔ Frame m s u := by
  refine Frame.thru (m := 0x800) ?_ k
  unfold State.emit
  simp (disch := decide) only [↓Frame.setOut, Frame.refl]

theorem Frame.signal {m : Nat} {s u : State} {x1 : ℕ} (k : 0x810 ||| m = m) : Frame m s (State.signal u x1) ↔ Frame m s u := by
  refine Frame.thru (m := 0x810) ?_ k
  unfold State.signal
  simp (disch := decide) only [↓Frame.emit, ↓Frame.putReg, ↓Frame.ite, Frame.refl, ite_self]

theorem Frame.raise {m : Nat} {s u : State} {x1 : ℕ × ℕ} (k : 0x850 ||| m = m) : Frame m s (State.raise u x1) ↔ Frame m s u := by
  refine Frame.thru (m := 0x850) ?_ k
  unfold State.raise
  simp (disch := decide) only [↓Frame.setIrq, ↓Frame.signal, ↓Frame.ite, Frame.refl, ite_self]

theorem Frame.ofLostEvent {m : Nat} {s u : State} {x1 : ℕ} (k : 0x8d0 ||| m = m) : Frame m s (lostEvent u x1) ↔ Frame m s u := by
  refine Frame.thru (m := 0x8d0) ?_ k
  unfold lostEvent
  repeat' (first | simp (disch := decide) only [↓Frame.raise, ↓Frame.setLedger, ↓Frame.ite, Frame.refl, ite_self] | split)

theorem Frame.count {m : Nat} {s u : State} {x1 : ℕ} {x2 : optParam ℕ 1} (k : 0x10 ||| m = m) : Frame m s (State.count u x1 x2) ↔ Frame m s u := by
  refine Frame.thru (m := 0x10) ?_ k
  unfold State.count
  simp (disch := decide) only [↓Frame.putReg, Frame.refl]

theorem Frame.mirrorSend {m : Nat} {s u : State} {x1 : ℕ} {x2 : List Byte} (k : 0x10000810 ||| m = m) : Frame m s (State.mirrorSend u x1 x2) ↔ Frame m s u := by
  refine Frame.thru (m := 0x10000810) ?_ k
  unfold State.mirrorSend
  simp (disch := decide) only [↓Frame.count, ↓Frame.emit, ↓Frame.setSlv, ↓Frame.ite, Frame.refl, ite_self]

theorem Frame.mirrorRecord {m : Nat} {s u : State} (k : 0x10000810 ||| m = m) : Frame m s (State.mirrorRecord u) ↔ Frame m s u := by
  refine Frame.thru (m := 0x10000810) ?_ k
  unfold State.mirrorRecord
  repeat' (first | simp (disch := decide) only [↓Frame.mirrorSend, Frame.refl] | split)

theorem Frame.stageEvent {m : Nat} {s u : State} {x1 : LedgerSt} {x2 x3 : ℕ} {x4 : List Byte} {x5 : Bool} (k : 0x100008d0 ||| m = m) : Frame m s (State.stageEvent u x1 x2 x3 x4 x5) ↔ Frame m s u := by
  refine Frame.thru (m := 0x100008d0) ?_ k
  unfold State.stageEvent
  simp (disch := decide) only [↓Frame.mirrorRecord, ↓Frame.ofLostEvent, ↓Frame.setLedger, ↓Frame.ite, Frame.refl, ite_self]

theorem Frame.event {m : Nat} {s u : State} {x1 x2 : ℕ} {x3 : List Byte} (k : 0x100008d0 ||| m = m) : Frame m s (State.event u x1 x2 x3) ↔ Frame m s u := by
  refine Frame.thru (m := 0x100008d0) ?_ k
  unfold State.event
  repeat' (first | simp (disch := decide) only [↓Frame.setLedger, ↓Frame.stageEvent, ↓Frame.ite, Frame.refl] | split)

theorem Frame.domainEvent {m : Nat} {s u : State} {x1 x2 x3 x4 : ℕ} (k : 0x100008d0 ||| m = m) : Frame m s (State.domainEvent u x1 x2 x3 x4) ↔ Frame m s u := by
  refine Frame.thru (m := 0x100008d0) ?_ k
  unfold State.domainEvent
  simp (disch := decide) only [↓Frame.event, ↓Frame.ite, Frame.refl, ite_self]

theorem Frame.drive {m : Nat} {s u : State} {x1 : Ball} {x2 : Bool} (k : 0x800 ||| m = m) : Frame m s (State.drive u x1 x2) ↔ Frame m s u := by
  refine Frame.thru (m := 0x800) ?_ k
  unfold State.drive
  simp (disch := decide) only [↓Frame.emit, ↓Frame.ite, Frame.refl, ite_self]

theorem Frame.timeLeaves {m : Nat} {s u : State} (k : 0x2800 ||| m = m) : Frame m s (State.timeLeaves u) ↔ Frame m s u := by
  refine Frame.thru (m := 0x2800) ?_ k
  unfold State.timeLeaves
  repeat' (first | simp (disch := first | decide | rfl | (intros; simp (disch := first | decide | rfl | (intros; simp (disch := decide) only [↓Frame.drive, ↓Frame.setTime, ↓Frame.ite, ↓Frame.foldl, ↓Frame.foldlFst, Frame.refl, ite_self, ok, refuse, apply_ite CmdResult.state, apply_ite Prod.fst, apply_ite Prod.snd])) only [↓Frame.drive, ↓Frame.setTime, ↓Frame.ite, ↓Frame.foldl, ↓Frame.foldlFst, Frame.refl, ite_self, ok, refuse, apply_ite CmdResult.state, apply_ite Prod.fst, apply_ite Prod.snd])) only [↓Frame.drive, ↓Frame.setTime, ↓Frame.ite, ↓Frame.foldl, Frame.refl, ite_self] | split)

theorem Frame.putLinkState {m : Nat} {s u : State} {x1 x2 : ℕ} (k : 0x10 ||| m = m) : Frame m s (State.putLinkState u x1 x2) ↔ Frame m s u := by
  refine Frame.thru (m := 0x10) ?_ k
  unfold State.putLinkState
  simp (disch := decide) only [↓Frame.putReg, Frame.refl]

theorem Frame.putFld {m : Nat} {s u : State} {x1 : Fld} {x2 : ℕ} (k : 0x10 ||| m = m) : Frame m s (State.putFld u x1 x2) ↔ Frame m s u := by
  refine Frame.thru (m := 0x10) ?_ k
  unfold State.putFld
  simp (disch := decide) only [↓Frame.putReg, Frame.refl]

theorem Frame.putLink {m : Nat} {s u : State} {x1 : ℕ} {x2 : SlvLink} (k : 0x10000010 ||| m = m) : Frame m s (State.putLink u x1 x2) ↔ Frame m s u := by
  refine Frame.thru (m := 0x10000010) ?_ k
  unfold State.putLink
  simp (disch := decide) only [↓Frame.putFld, ↓Frame.setSlv, Frame.refl]

theorem Frame.mirrorLinkDown {m : Nat} {s u : State} {x1 : ℕ} (k : 0x100108d0 ||| m = m) : Frame m s (State.mirrorLinkDown u x1) ↔ Frame m s u := by
  refine Frame.thru (m := 0x100108d0) ?_ k
  unfold State.mirrorLinkDown
  simp (disch := decide) only [↓Frame.count, ↓Frame.event, ↓Frame.putFld, ↓Frame.raise, ↓Frame.setPair, ↓Frame.setSlv, ↓Frame.ite, Frame.refl, ite_self]

theorem Frame.linkLost {m : Nat} {s u : State} {x1 x2 : ℕ} (k : 0x100108d0 ||| m = m) : Frame m s (State.linkLost u x1 x2) ↔ Frame m s u := by
  refine Frame.thru (m := 0x100108d0) ?_ k
  unfold State.linkLost
  simp (disch := decide) only [↓Frame.count, ↓Frame.event, ↓Frame.mirrorLinkDown, ↓Frame.putFld, ↓Frame.putLink, ↓Frame.putLinkState, ↓Frame.raise, ↓Frame.ite, Frame.refl, ite_self]

theorem Frame.linksLost {m : Nat} {s u : State} (k : 0x100108d0 ||| m = m) : Frame m s (State.linksLost u) ↔ Frame m s u := by
  refine Frame.thru (m := 0x100108d0) ?_ k
  unfold State.linksLost
  repeat' (first | simp (disch := first | decide | rfl | (intros; simp (disch := first | decide | rfl | (intros; simp (disch := decide) only [↓Frame.linkLost, ↓Frame.ite, ↓Frame.foldl, ↓Frame.foldlFst, Frame.refl, ite_self, ok, refuse, apply_ite CmdResult.state, apply_ite Prod.fst, apply_ite Prod.snd])) only [↓Frame.linkLost, ↓Frame.ite, ↓Frame.foldl, ↓Frame.foldlFst, Frame.refl, ite_self, ok, refuse, apply_ite CmdResult.state, apply_ite Prod.fst, apply_ite Prod.snd])) only [↓Frame.foldl, Frame.refl] | split)

theorem Frame.portLost {m : Nat} {s u : State} {x1 x2 : ℕ} (k : 0x100008d0 ||| m = m) : Frame m s (State.portLost u x1 x2) ↔ Frame m s u := by
  refine Frame.thru (m := 0x100008d0) ?_ k
  unfold State.portLost
  simp (disch := decide) only [↓Frame.count, ↓Frame.event, ↓Frame.putFld, ↓Frame.putReg, ↓Frame.raise, Frame.refl]

theorem Frame.portsLost {m : Nat} {s u : State} {x1 : ℕ} (k : 0x100008d0 ||| m = m) : Frame m s (State.portsLost u x1) ↔ Frame m s u := by
  refine Frame.thru (m := 0x100008d0) ?_ k
  unfold State.portsLost
  repeat' (first | simp (disch := first | decide | rfl | (intros; simp (disch := first | decide | rfl | (intros; simp (disch := decide) only [↓Frame.portLost, ↓Frame.putReg, ↓Frame.ite, ↓Frame.foldl, ↓Frame.foldlFst, Frame.refl, ite_self, ok, refuse, apply_ite CmdResult.state, apply_ite Prod.fst, apply_ite Prod.snd])) only [↓Frame.portLost, ↓Frame.putReg, ↓Frame.ite, ↓Frame.foldl, ↓Frame.foldlFst, Frame.refl, ite_self, ok, refuse, apply_ite CmdResult.state, apply_ite Prod.fst, apply_ite Prod.snd])) only [↓Frame.foldl, Frame.refl] | split)

theorem Frame.putDomain {m : Nat} {s u : State} {x1 x2 : ℕ} (k : 0x10 ||| m = m) : Frame m s (State.putDomain u x1 x2) ↔ Frame m s u := by
  refine Frame.thru (m := 0x10) ?_ k
  unfold State.putDomain
  simp (disch := decide) only [↓Frame.putReg, ↓Frame.ite, Frame.refl, ite_self]

theorem Frame.draw {m : Nat} {s u : State} (k : 0x1000 ||| m = m) : Frame m s (State.draw u) ↔ Frame m s u := by
  refine Frame.thru (m := 0x1000) ?_ k
  unfold State.draw
  simp (disch := decide) only [↓Frame.setFreeCount, Frame.refl]

theorem Frame.servoSpan {m : Nat} {s u : State} {x1 : ℕ} (k : 0x10 ||| m = m) : Frame m s (State.servoSpan u x1) ↔ Frame m s u := by
  refine Frame.thru (m := 0x10) ?_ k
  unfold State.servoSpan
  repeat' (first | simp (disch := decide) only [↓Frame.putReg, Frame.refl] | split)

theorem Frame.putPair {m : Nat} {s u : State} {x1 x2 : ℕ} (k : 0x10 ||| m = m) : Frame m s (State.putPair u x1 x2) ↔ Frame m s u := by
  refine Frame.thru (m := 0x10) ?_ k
  unfold State.putPair
  simp (disch := decide) only [↓Frame.putReg, Frame.refl]

theorem Frame.showSwitch {m : Nat} {s u : State} (k : 0x10 ||| m = m) : Frame m s (State.showSwitch u) ↔ Frame m s u := by
  refine Frame.thru (m := 0x10) ?_ k
  unfold State.showSwitch
  repeat' (first | simp (disch := decide) only [↓Frame.putFld, ↓Frame.putPair, Frame.refl] | split)

theorem Frame.decideMode {m : Nat} {s u : State} {x1 : ℕ} (k : 0x110 ||| m = m) : Frame m s (State.decideMode u x1) ↔ Frame m s u := by
  refine Frame.thru (m := 0x110) ?_ k
  unfold State.decideMode
  repeat' (first | simp (disch := decide) only [↓Frame.setDraft, ↓Frame.showSwitch, ↓Frame.ite, Frame.refl, ite_self] | split)

theorem Frame.followConditions {m : Nat} {s u : State} (k : 0x110 ||| m = m) : Frame m s (State.followConditions u) ↔ Frame m s u := by
  refine Frame.thru (m := 0x110) ?_ k
  unfold State.followConditions
  simp (disch := decide) only [↓Frame.decideMode, ↓Frame.ite, Frame.refl, ite_self]

theorem Frame.condition {m : Nat} {s u : State} {x1 : ℕ} {x2 : Bool} (k : 0x110 ||| m = m) : Frame m s (State.condition u x1 x2) ↔ Frame m s u := by
  refine Frame.thru (m := 0x110) ?_ k
  unfold State.condition
  simp (disch := decide) only [↓Frame.followConditions, ↓Frame.putReg, ↓Frame.ite, Frame.refl, ite_self]

theorem Frame.pulsesBegin {m : Nat} {s u : State} (k : 0x200000000 ||| m = m) : Frame m s (State.pulsesBegin u) ↔ Frame m s u := by
  refine Frame.thru (m := 0x200000000) ?_ k
  unfold State.pulsesBegin
  simp (disch := decide) only [↓Frame.setEnergy, Frame.refl]

theorem Frame.pulsesFollow {m : Nat} {s u : State} (k : 0x200000810 ||| m = m) : Frame m s (State.pulsesFollow u) ↔ Frame m s u := by
  refine Frame.thru (m := 0x200000810) ?_ k
  unfold State.pulsesFollow
  repeat' (first | simp (disch := first | decide | rfl | (intros; simp (disch := first | decide | rfl | (intros; simp (disch := decide) only [↓Frame.drive, ↓Frame.pulsesBegin, ↓Frame.putFld, ↓Frame.setEnergy, ↓Frame.ite, ↓Frame.foldl, ↓Frame.foldlFst, Frame.refl, ite_self, ok, refuse, apply_ite CmdResult.state, apply_ite Prod.fst, apply_ite Prod.snd])) only [↓Frame.drive, ↓Frame.pulsesBegin, ↓Frame.putFld, ↓Frame.setEnergy, ↓Frame.ite, ↓Frame.foldl, ↓Frame.foldlFst, Frame.refl, ite_self, ok, refuse, apply_ite CmdResult.state, apply_ite Prod.fst, apply_ite Prod.snd])) only [↓Frame.pulsesBegin, ↓Frame.setEnergy, ↓Frame.ite, ↓Frame.foldl, Frame.refl, ite_self] | split)

theorem Frame.showBalls {m : Nat} {s u : State} {x1 : ℕ} (k : 0x800 ||| m = m) : Frame m s (State.showBalls u x1) ↔ Frame m s u := by
  refine Frame.thru (m := 0x800) ?_ k
  unfold State.showBalls
  repeat' (first | simp (disch := first | decide | rfl | (intros; simp (disch := first | decide | rfl | (intros; simp (disch := decide) only [↓Frame.emit, ↓Frame.ite, ↓Frame.foldl, ↓Frame.foldlFst, Frame.refl, ite_self, ok, refuse, apply_ite CmdResult.state, apply_ite Prod.fst, apply_ite Prod.snd])) only [↓Frame.emit, ↓Frame.ite, ↓Frame.foldl, ↓Frame.foldlFst, Frame.refl, ite_self, ok, refuse, apply_ite CmdResult.state, apply_ite Prod.fst, apply_ite Prod.snd])) only [↓Frame.foldl, Frame.refl] | split)

theorem Frame.updatePins {m : Nat} {s u : State} (k : 0x200004810 ||| m = m) : Frame m s (State.updatePins u) ↔ Frame m s u := by
  refine Frame.thru (m := 0x200004810) ?_ k
  unfold State.updatePins
  simp (disch := decide) only [↓Frame.pulsesFollow, ↓Frame.putFld, ↓Frame.putReg, ↓Frame.setVote, ↓Frame.showBalls, Frame.refl]

theorem Frame.servoSignals {m : Nat} {s u : State} {x1 : ℕ} (k : 0x200004950 ||| m = m) : Frame m s (State.servoSignals u x1) ↔ Frame m s u := by
  refine Frame.thru (m := 0x200004950) ?_ k
  unfold State.servoSignals
  simp (disch := decide) only [↓Frame.condition, ↓Frame.raise, ↓Frame.updatePins, ↓Frame.ite, Frame.refl, ite_self]

theorem Frame.setServo {m : Nat} {s u : State} {x1 : ℕ} (k : 0x2100079d0 ||| m = m) : Frame m s (State.setServo u x1) ↔ Frame m s u := by
  refine Frame.thru (m := 0x2100079d0) ?_ k
  unfold State.setServo
  simp (disch := decide) only [↓Frame.draw, ↓Frame.event, ↓Frame.putFld, ↓Frame.servoSignals, ↓Frame.servoSpan, ↓Frame.setTime, ↓Frame.ite, Frame.refl, ite_self]

theorem Frame.timeReturns {m : Nat} {s u : State} (k : 0x2100079d8 ||| m = m) : Frame m s (State.timeReturns u) ↔ Frame m s u := by
  refine Frame.thru (m := 0x2100079d8) ?_ k
  unfold State.timeReturns
  repeat' (first | simp (disch := first | decide | rfl | (intros; simp (disch := first | decide | rfl | (intros; simp (disch := decide) only [↓Frame.setBases, ↓Frame.setServo, ↓Frame.setTime, ↓Frame.ite, ↓Frame.foldl, ↓Frame.foldlFst, Frame.refl, ite_self, ok, refuse, apply_ite CmdResult.state, apply_ite Prod.fst, apply_ite Prod.snd])) only [↓Frame.setBases, ↓Frame.setServo, ↓Frame.setTime, ↓Frame.ite, ↓Frame.foldl, ↓Frame.foldlFst, Frame.refl, ite_self, ok, refuse, apply_ite CmdResult.state, apply_ite Prod.fst, apply_ite Prod.snd])) only [↓Frame.setBases, ↓Frame.setServo, ↓Frame.setTime, Frame.refl] | split)

theorem Frame.adoptLedger {m : Nat} {s u : State} (k : 0x10080 ||| m = m) : Frame m s (State.adoptLedger u) ↔ Frame m s u := by
  refine Frame.thru (m := 0x10080) ?_ k
  unfold State.adoptLedger
  simp (disch := decide) only [↓Frame.setLedger, ↓Frame.setPair, Frame.refl]

theorem Frame.adoptGoose {m : Nat} {s u : State} (k : 0x4000 ||| m = m) : Frame m s (State.adoptGoose u) ↔ Frame m s u := by
  refine Frame.thru (m := 0x4000) ?_ k
  unfold State.adoptGoose
  simp (disch := decide) only [↓Frame.setVote, Frame.refl]

theorem Frame.adoptEnergy {m : Nat} {s u : State} (k : 0x2100008d0 ||| m = m) : Frame m s (State.adoptEnergy u) ↔ Frame m s u := by
  refine Frame.thru (m := 0x2100008d0) ?_ k
  unfold State.adoptEnergy
  simp (disch := decide) only [↓Frame.event, ↓Frame.raise, ↓Frame.setEnergy, ↓Frame.ite, Frame.refl, ite_self]

theorem Frame.putOs {m : Nat} {s u : State} {x1 : ℕ} {x2 : OsSt} (k : 0x40000000 ||| m = m) : Frame m s (State.putOs u x1 x2) ↔ Frame m s u := by
  refine Frame.thru (m := 0x40000000) ?_ k
  unfold State.putOs
  simp (disch := decide) only [↓Frame.setShuttle, Frame.refl]

theorem Frame.resumeStream {m : Nat} {s u : State} {x1 : Bool} {x2 : ℕ} {x3 : List Byte} (k : 0x500008d0 ||| m = m) : Frame m s (State.resumeStream u x1 x2 x3) ↔ Frame m s u := by
  refine Frame.thru (m := 0x500008d0) ?_ k
  unfold State.resumeStream
  repeat' (first | simp (disch := first | decide | rfl | (intros; simp (disch := first | decide | rfl | (intros; simp (disch := decide) only [↓Frame.count, ↓Frame.event, ↓Frame.putOs, ↓Frame.raise, ↓Frame.ite, ↓Frame.foldl, ↓Frame.foldlFst, Frame.refl, ite_self, ok, refuse, apply_ite CmdResult.state, apply_ite Prod.fst, apply_ite Prod.snd])) only [↓Frame.count, ↓Frame.event, ↓Frame.putOs, ↓Frame.raise, ↓Frame.ite, ↓Frame.foldl, ↓Frame.foldlFst, Frame.refl, ite_self, ok, refuse, apply_ite CmdResult.state, apply_ite Prod.fst, apply_ite Prod.snd])) only [↓Frame.putOs, ↓Frame.foldl, Frame.refl] | split)

theorem Frame.resumeStreams {m : Nat} {s u : State} {x1 : Bool} {x2 : ℕ} (k : 0x500008d0 ||| m = m) : Frame m s (State.resumeStreams u x1 x2) ↔ Frame m s u := by
  refine Frame.thru (m := 0x500008d0) ?_ k
  unfold State.resumeStreams
  repeat' (first | simp (disch := first | decide | rfl | (intros; simp (disch := first | decide | rfl | (intros; simp (disch := decide) only [↓Frame.resumeStream, ↓Frame.ite, ↓Frame.foldl, ↓Frame.foldlFst, Frame.refl, ite_self, ok, refuse, apply_ite CmdResult.state, apply_ite Prod.fst, apply_ite Prod.snd])) only [↓Frame.resumeStream, ↓Frame.ite, ↓Frame.foldl, ↓Frame.foldlFst, Frame.refl, ite_self, ok, refuse, apply_ite CmdResult.state, apply_ite Prod.fst, apply_ite Prod.snd])) only [↓Frame.foldl, Frame.refl] | split)

theorem Frame.takeover {m : Nat} {s u : State} (k : 0x2500149d0 ||| m = m) : Frame m s (State.takeover u) ↔ Frame m s u := by
  refine Frame.thru (m := 0x2500149d0) ?_ k
  unfold State.takeover
  simp (disch := decide) only [↓Frame.adoptEnergy, ↓Frame.adoptGoose, ↓Frame.adoptLedger, ↓Frame.condition, ↓Frame.count, ↓Frame.event, ↓Frame.putPair, ↓Frame.raise, ↓Frame.resumeStreams, ↓Frame.ite, Frame.refl, ite_self]

theorem Frame.released {m : Nat} {s u : State} (k : 0x100009d0 ||| m = m) : Frame m s (State.released u) ↔ Frame m s u := by
  refine Frame.thru (m := 0x100009d0) ?_ k
  unfold State.released
  simp (disch := decide) only [↓Frame.condition, ↓Frame.count, ↓Frame.event, ↓Frame.raise, ↓Frame.ite, Frame.refl, ite_self]

theorem Frame.updateHolding {m : Nat} {s u : State} (k : 0x2500149d0 ||| m = m) : Frame m s (State.updateHolding u) ↔ Frame m s u := by
  refine Frame.thru (m := 0x2500149d0) ?_ k
  unfold State.updateHolding
  simp (disch := decide) only [↓Frame.putFld, ↓Frame.released, ↓Frame.setVote, ↓Frame.takeover, ↓Frame.updatePins, ↓Frame.ite, Frame.refl, ite_self]

theorem Frame.setDomain {m : Nat} {s u : State} {x1 x2 : ℕ} (k : 0x258017dd8 ||| m = m) : Frame m s (State.setDomain u x1 x2) ↔ Frame m s u := by
  refine Frame.thru (m := 0x258017dd8) ?_ k
  unfold State.setDomain
  repeat' (first | simp (disch := decide) only [↓Frame.linksLost, ↓Frame.portsLost, ↓Frame.putDomain, ↓Frame.putFld, ↓Frame.setLoom, ↓Frame.setStk, ↓Frame.timeLeaves, ↓Frame.timeReturns, ↓Frame.updateHolding, ↓Frame.updatePins, ↓Frame.ite, Frame.refl, ite_self] | split)

theorem Frame.powerDown {m : Nat} {s u : State} {x1 : List ℕ} (k : 0x258017dd8 ||| m = m) : Frame m s (State.powerDown u x1) ↔ Frame m s u := by
  refine Frame.thru (m := 0x258017dd8) ?_ k
  unfold State.powerDown
  repeat' (first | simp (disch := first | decide | rfl | (intros; simp (disch := first | decide | rfl | (intros; simp (disch := decide) only [↓Frame.domainEvent, ↓Frame.setDomain, ↓Frame.ite, ↓Frame.foldl, ↓Frame.foldlFst, Frame.refl, ite_self, ok, refuse, apply_ite CmdResult.state, apply_ite Prod.fst, apply_ite Prod.snd])) only [↓Frame.domainEvent, ↓Frame.setDomain, ↓Frame.ite, ↓Frame.foldl, ↓Frame.foldlFst, Frame.refl, ite_self, ok, refuse, apply_ite CmdResult.state, apply_ite Prod.fst, apply_ite Prod.snd])) only [↓Frame.foldl, Frame.refl] | split)

theorem Frame.dropDraft {m : Nat} {s u : State} (k : 0x258017dd8 ||| m = m) : Frame m s (State.dropDraft u) ↔ Frame m s u := by
  refine Frame.thru (m := 0x258017dd8) ?_ k
  unfold State.dropDraft
  repeat' (first | simp (disch := first | decide | rfl | (intros; simp (disch := first | decide | rfl | (intros; simp (disch := decide) only [↓Frame.powerDown, ↓Frame.putDomain, ↓Frame.putFld, ↓Frame.putReg, ↓Frame.setDraft, ↓Frame.showSwitch, ↓Frame.updateHolding, ↓Frame.ite, ↓Frame.foldl, ↓Frame.foldlFst, Frame.refl, ite_self, ok, refuse, apply_ite CmdResult.state, apply_ite Prod.fst, apply_ite Prod.snd])) only [↓Frame.powerDown, ↓Frame.putDomain, ↓Frame.putFld, ↓Frame.putReg, ↓Frame.setDraft, ↓Frame.showSwitch, ↓Frame.updateHolding, ↓Frame.ite, ↓Frame.foldl, ↓Frame.foldlFst, Frame.refl, ite_self, ok, refuse, apply_ite CmdResult.state, apply_ite Prod.fst, apply_ite Prod.snd])) only [↓Frame.powerDown, ↓Frame.putFld, ↓Frame.setDraft, ↓Frame.showSwitch, ↓Frame.updateHolding, ↓Frame.foldl, Frame.refl] | split)

theorem Frame.enterMode {m : Nat} {s u : State} {x1 : ℕ} (k : 0x950 ||| m = m) : Frame m s (State.enterMode u x1) ↔ Frame m s u := by
  refine Frame.thru (m := 0x950) ?_ k
  unfold State.enterMode
  simp (disch := decide) only [↓Frame.count, ↓Frame.putFld, ↓Frame.putPair, ↓Frame.putReg, ↓Frame.raise, ↓Frame.setDraft, Frame.refl]

theorem Frame.failLoad {m : Nat} {s u : State} {x1 x2 x3 : ℕ} (k : 0x258017dd8 ||| m = m) : Frame m s (State.failLoad u x1 x2 x3) ↔ Frame m s u := by
  refine Frame.thru (m := 0x258017dd8) ?_ k
  unfold State.failLoad
  simp (disch := decide) only [↓Frame.dropDraft, ↓Frame.enterMode, ↓Frame.event, ↓Frame.putFld, ↓Frame.putReg, ↓Frame.raise, Frame.refl]

theorem Frame.refuseObject {m : Nat} {s u : State} {x1 x2 x3 : ℕ} (k : 0x100008d0 ||| m = m) : Frame m s (State.refuseObject u x1 x2 x3) ↔ Frame m s u := by
  refine Frame.thru (m := 0x100008d0) ?_ k
  unfold State.refuseObject
  simp (disch := decide) only [↓Frame.event, ↓Frame.raise, Frame.refl]

theorem Frame.abortLoad {m : Nat} {s u : State} (k : 0x258017dd8 ||| m = m) : Frame m s (State.abortLoad u) ↔ Frame m s u := by
  refine Frame.thru (m := 0x258017dd8) ?_ k
  unfold State.abortLoad
  repeat' (first | simp (disch := decide) only [↓Frame.failLoad, ↓Frame.refuseObject, ↓Frame.setDraft, Frame.refl] | split)

theorem Frame.hostErr {m : Nat} {s u : State} {x1 : Path} {x2 x3 x4 : ℕ} (k : 0x100008d0 ||| m = m) : Frame m s (State.hostErr u x1 x2 x3 x4) ↔ Frame m s u := by
  refine Frame.thru (m := 0x100008d0) ?_ k
  unfold State.hostErr
  simp (disch := decide) only [↓Frame.count, ↓Frame.event, ↓Frame.putPair, ↓Frame.putReg, ↓Frame.raise, ↓Frame.ite, Frame.refl, ite_self]

theorem Frame.absentAccess {m : Nat} {s u : State} {x1 : Path} {x2 : ℕ} (k : 0x100008d0 ||| m = m) : Frame m s (State.absentAccess u x1 x2) ↔ Frame m s u := by
  refine Frame.thru (m := 0x100008d0) ?_ k
  unfold State.absentAccess
  simp (disch := decide) only [↓Frame.count, ↓Frame.emit, ↓Frame.hostErr, ↓Frame.ite, Frame.refl, ite_self]

theorem Frame.putProbe {m : Nat} {s u : State} {x1 : ℕ} {x2 : ProbeSt} (k : 0x80000000 ||| m = m) : Frame m s (State.putProbe u x1 x2) ↔ Frame m s u := by
  refine Frame.thru (m := 0x80000000) ?_ k
  unfold State.putProbe
  simp (disch := decide) only [↓Frame.setOsc, Frame.refl]

theorem Frame.absentTap {m : Nat} {s u : State} {x1 x2 x3 : ℕ} {x4 : Bool} (k : 0x80001000 ||| m = m) : Frame m s (State.absentTap u x1 x2 x3 x4) ↔ Frame m s u := by
  refine Frame.thru (m := 0x80001000) ?_ k
  unfold State.absentTap
  simp (disch := decide) only [↓Frame.draw, ↓Frame.putProbe, ↓Frame.ite, Frame.refl, ite_self]

theorem Frame.accept {m : Nat} {s u : State} {x1 : ℤ} (k : 0x2010 ||| m = m) : Frame m s (State.accept u x1) ↔ Frame m s u := by
  refine Frame.thru (m := 0x2010) ?_ k
  unfold State.accept
  simp (disch := decide) only [↓Frame.putReg, ↓Frame.setTime, Frame.refl]

theorem Frame.monNote {m : Nat} {s u : State} {x1 : Path} {x2 x3 : ℕ} (k : 0x100008d0 ||| m = m) : Frame m s (State.monNote u x1 x2 x3) ↔ Frame m s u := by
  refine Frame.thru (m := 0x100008d0) ?_ k
  unfold State.monNote
  simp (disch := decide) only [↓Frame.count, ↓Frame.event, ↓Frame.raise, ↓Frame.ite, Frame.refl, ite_self]

theorem Frame.reject {m : Nat} {s u : State} {x1 : Path} {x2 : ℕ} (k : 0x10 ||| m = m) : Frame m s (State.reject u x1 x2) ↔ Frame m s u := by
  refine Frame.thru (m := 0x10) ?_ k
  unfold State.reject
  simp (disch := decide) only [↓Frame.count, ↓Frame.putReg, ↓Frame.ite, Frame.refl, ite_self]

theorem Frame.notMaster {m : Nat} {s u : State} {x1 : Path} {x2 : ℕ} (k : 0x100008d0 ||| m = m) : Frame m s (State.notMaster u x1 x2) ↔ Frame m s u := by
  refine Frame.thru (m := 0x100008d0) ?_ k
  unfold State.notMaster
  simp (disch := decide) only [↓Frame.hostErr, ↓Frame.reject, Frame.refl]

theorem Frame.noStacksAccess {m : Nat} {s u : State} {x1 : Path} {x2 : ℕ} (k : 0x100008d0 ||| m = m) : Frame m s (State.noStacksAccess u x1 x2) ↔ Frame m s u := by
  refine Frame.thru (m := 0x100008d0) ?_ k
  unfold State.noStacksAccess
  simp (disch := decide) only [↓Frame.emit, ↓Frame.hostErr, ↓Frame.ite, Frame.refl, ite_self]

theorem Frame.wakeDemand {m : Nat} {s u : State} {x1 : ℕ} (k : 0x20000 ||| m = m) : Frame m s (State.wakeDemand u x1) ↔ Frame m s u := by
  refine Frame.thru (m := 0x20000) ?_ k
  unfold State.wakeDemand
  simp (disch := decide) only [↓Frame.setPower, ↓Frame.ite, Frame.refl, ite_self]

theorem Frame.stall {m : Nat} {s u : State} {x1 : Stalled} (k : 0x20010 ||| m = m) : Frame m s (State.stall u x1) ↔ Frame m s u := by
  refine Frame.thru (m := 0x20010) ?_ k
  unfold State.stall
  simp (disch := decide) only [↓Frame.count, ↓Frame.setPower, ↓Frame.wakeDemand, ↓Frame.ite, Frame.refl, ite_self]

theorem State.access_cases (u : State) (path : Path) (addr value : Nat) (x : CmdInput) (f : State → State) :
    (∃ w, Frame 0x100208d0 u w ∧ Frame 0x100208d0 (f w) (u.access path addr value f x)) ∨ Frame 0x100208d0 u (u.access path addr value f x) := by
  generalize e : u.access path addr value f x = r
  unfold State.access at e
  repeat' (first | split at e | (dsimp only at e; split at e))
  all_goals (subst e; first | (refine Or.inl ⟨_, ?_, Frame.refl _ (f _)⟩; simp (disch := first | decide | rfl | (intros; (repeat' (first | simp (disch := first | decide | rfl | (intros; (repeat' (first | simp (disch := decide) only [↓Frame.absentAccess, ↓Frame.monNote, ↓Frame.noStacksAccess, ↓Frame.notMaster, ↓Frame.stall, ↓Frame.ite, ↓Frame.foldl, ↓Frame.foldlFst, Frame.refl, ite_self, ok, refuse, apply_ite CmdResult.state, apply_ite Prod.fst, apply_ite Prod.snd] | split)); done)) only [↓Frame.absentAccess, ↓Frame.monNote, ↓Frame.noStacksAccess, ↓Frame.notMaster, ↓Frame.stall, ↓Frame.ite, ↓Frame.foldl, ↓Frame.foldlFst, Frame.refl, ite_self, ok, refuse, apply_ite CmdResult.state, apply_ite Prod.fst, apply_ite Prod.snd] | split)); done)) only [↓Frame.monNote, Frame.refl]; done) | (refine Or.inr ?_; simp (disch := first | decide | rfl | (intros; (repeat' (first | simp (disch := first | decide | rfl | (intros; (repeat' (first | simp (disch := decide) only [↓Frame.absentAccess, ↓Frame.monNote, ↓Frame.noStacksAccess, ↓Frame.notMaster, ↓Frame.stall, ↓Frame.ite, ↓Frame.foldl, ↓Frame.foldlFst, Frame.refl, ite_self, ok, refuse, apply_ite CmdResult.state, apply_ite Prod.fst, apply_ite Prod.snd] | split)); done)) only [↓Frame.absentAccess, ↓Frame.monNote, ↓Frame.noStacksAccess, ↓Frame.notMaster, ↓Frame.stall, ↓Frame.ite, ↓Frame.foldl, ↓Frame.foldlFst, Frame.refl, ite_self, ok, refuse, apply_ite CmdResult.state, apply_ite Prod.fst, apply_ite Prod.snd] | split)); done)) only [↓Frame.absentAccess, ↓Frame.noStacksAccess, ↓Frame.notMaster, ↓Frame.stall, Frame.refl]; done))

theorem Frame.access {m : Nat} {s u : State} (path : Path) (addr value : Nat) (x : CmdInput) (f : State → State) (h : ∀ w, Frame m w (f w)) (k : 0x100208d0 ||| m = m) :
    Frame m s (u.access path addr value f x) ↔ Frame m s u := by
  rcases State.access_cases u path addr value x f with ⟨w, a, b⟩ | a
  · exact (((a.mono k).trans (h w)).trans (b.mono k)).thru (Nat.or_self m)
  · exact a.thru k

theorem State.mirrorArrives_cases (u : State) (content : List Byte) (f : State → State) :
    (∃ w, Frame 0x10000010 u w ∧ Frame 0x10000010 (f w) (u.mirrorArrives content f)) ∨ Frame 0x10000010 u (u.mirrorArrives content f) := by
  generalize e : u.mirrorArrives content f = r
  unfold State.mirrorArrives at e
  repeat' (first | split at e | (dsimp only at e; split at e))
  all_goals (subst e; first | (refine Or.inl ⟨_, ?_, Frame.refl _ (f _)⟩; simp (disch := first | decide | rfl | (intros; (repeat' (first | simp (disch := first | decide | rfl | (intros; (repeat' (first | simp (disch := decide) only [↓Frame.count, ↓Frame.setSlv, ↓Frame.ite, ↓Frame.foldl, ↓Frame.foldlFst, Frame.refl, ite_self, ok, refuse, apply_ite CmdResult.state, apply_ite Prod.fst, apply_ite Prod.snd] | split)); done)) only [↓Frame.count, ↓Frame.setSlv, ↓Frame.ite, ↓Frame.foldl, ↓Frame.foldlFst, Frame.refl, ite_self, ok, refuse, apply_ite CmdResult.state, apply_ite Prod.fst, apply_ite Prod.snd] | split)); done)) only [↓Frame.count, ↓Frame.setSlv, Frame.refl]; done) | (refine Or.inr ?_; simp (disch := first | decide | rfl | (intros; (repeat' (first | simp (disch := first | decide | rfl | (intros; (repeat' (first | simp (disch := decide) only [↓Frame.count, ↓Frame.setSlv, ↓Frame.ite, ↓Frame.foldl, ↓Frame.foldlFst, Frame.refl, ite_self, ok, refuse, apply_ite CmdResult.state, apply_ite Prod.fst, apply_ite Prod.snd] | split)); done)) only [↓Frame.count, ↓Frame.setSlv, ↓Frame.ite, ↓Frame.foldl, ↓Frame.foldlFst, Frame.refl, ite_self, ok, refuse, apply_ite CmdResult.state, apply_ite Prod.fst, apply_ite Prod.snd] | split)); done)) only [Frame.refl]; done))

theorem Frame.mirrorArrives {m : Nat} {s u : State} (content : List Byte) (f : State → State) (h : ∀ w, Frame m w (f w)) (k : 0x10000010 ||| m = m) :
    Frame m s (u.mirrorArrives content f) ↔ Frame m s u := by
  rcases State.mirrorArrives_cases u content f with ⟨w, a, b⟩ | a
  · exact (((a.mono k).trans (h w)).trans (b.mono k)).thru (Nat.or_self m)
  · exact a.thru k

theorem Frame.adopt {m : Nat} {s u : State} (content : List Byte) (f : State → List Byte → State) (h : ∀ w, Frame m w (f w content))
    (k : 0x10000010 ||| m = m) : Frame m s (u.adopt content f) ↔ Frame m s u := by
  unfold State.adopt
  refine Frame.mirrorArrives _ _ (fun w => ?_) k
  split
  · exact h w
  · exact Frame.refl _ _

theorem Frame.afterWrite {m : Nat} {s u : State} (k : 0x10000850 ||| m = m) : Frame m s (State.afterWrite u) ↔ Frame m s u := by
  refine Frame.thru (m := 0x10000850) ?_ k
  unfold State.afterWrite
  simp (disch := decide) only [↓Frame.mirrorSend, ↓Frame.raise, ↓Frame.ite, Frame.refl, ite_self]

theorem Frame.moveSource {m : Nat} {s u : State} {x1 x2 : ℕ} (k : 0x100028d0 ||| m = m) : Frame m s (State.moveSource u x1 x2) ↔ Frame m s u := by
  refine Frame.thru (m := 0x100028d0) ?_ k
  unfold State.moveSource
  simp (disch := decide) only [↓Frame.count, ↓Frame.event, ↓Frame.putFld, ↓Frame.raise, ↓Frame.setTime, ↓Frame.ite, Frame.refl, ite_self]

theorem Frame.moveSources {m : Nat} {s u : State} (k : 0x100028d0 ||| m = m) : Frame m s (State.moveSources u) ↔ Frame m s u := by
  refine Frame.thru (m := 0x100028d0) ?_ k
  unfold State.moveSources
  simp (disch := decide) only [↓Frame.moveSource, Frame.refl]

theorem Frame.putSrc {m : Nat} {s u : State} {x1 : ℕ} {x2 : SrcSt} (k : 0x2000 ||| m = m) : Frame m s (State.putSrc u x1 x2) ↔ Frame m s u := by
  refine Frame.thru (m := 0x2000) ?_ k
  unfold State.putSrc
  simp (disch := decide) only [↓Frame.setTime, Frame.refl]

theorem Frame.clearQual {m : Nat} {s u : State} {x1 : ℕ} (k : 0x2010 ||| m = m) : Frame m s (State.clearQual u x1) ↔ Frame m s u := by
  refine Frame.thru (m := 0x2010) ?_ k
  unfold State.clearQual
  simp (disch := decide) only [↓Frame.putReg, ↓Frame.putSrc, Frame.refl]

theorem Frame.leaveSuspect {m : Nat} {s u : State} (k : 0x2010 ||| m = m) : Frame m s (State.leaveSuspect u) ↔ Frame m s u := by
  refine Frame.thru (m := 0x2010) ?_ k
  unfold State.leaveSuspect
  simp (disch := decide) only [↓Frame.clearQual, ↓Frame.putSrc, ↓Frame.ite, Frame.refl, ite_self]

theorem Frame.select {m : Nat} {s u : State} {x1 : Bool} (k : 0x2100079d0 ||| m = m) : Frame m s (State.select u x1) ↔ Frame m s u := by
  refine Frame.thru (m := 0x2100079d0) ?_ k
  unfold State.select
  simp (disch := decide) only [↓Frame.event, ↓Frame.leaveSuspect, ↓Frame.moveSources, ↓Frame.setServo, ↓Frame.ite, Frame.refl, ite_self]

theorem State.timeWritten_frame (u old : State) (x1 : Nat) : Frame 0x2100079d0 u (u.timeWritten old x1) := by
  unfold State.timeWritten
  repeat' (first | simp (disch := first | decide | rfl | (intros; (repeat' (first | simp (disch := first | decide | rfl | (intros; (repeat' (first | simp (disch := decide) only [↓Frame.select, ↓Frame.setServo, ↓Frame.ite, ↓Frame.foldl, ↓Frame.foldlFst, Frame.refl, ite_self, ok, refuse, apply_ite CmdResult.state, apply_ite Prod.fst, apply_ite Prod.snd] | split)); done)) only [↓Frame.select, ↓Frame.setServo, ↓Frame.ite, ↓Frame.foldl, ↓Frame.foldlFst, Frame.refl, ite_self, ok, refuse, apply_ite CmdResult.state, apply_ite Prod.fst, apply_ite Prod.snd] | split)); done)) only [↓Frame.select, ↓Frame.setServo, ↓Frame.ite, Frame.refl, ite_self] | split)
theorem Frame.timeWritten {m : Nat} {s u : State} (old : State) (x1 : Nat) (k : 0x2100079d0 ||| m = m) : Frame m s (u.timeWritten old x1) ↔ Frame m s u :=
  (State.timeWritten_frame u old x1).thru k

theorem Frame.showLatency {m : Nat} {s u : State} {x1 : ℕ} (k : 0x10 ||| m = m) : Frame m s (State.showLatency u x1) ↔ Frame m s u := by
  refine Frame.thru (m := 0x10) ?_ k
  unfold State.showLatency
  simp (disch := decide) only [↓Frame.putReg, Frame.refl]

theorem State.portWritten_frame (u old : State) (x1 : Nat) : Frame 0x100008d0 u (u.portWritten old x1) := by
  unfold State.portWritten
  repeat' (first | simp (disch := first | decide | rfl | (intros; (repeat' (first | simp (disch := first | decide | rfl | (intros; (repeat' (first | simp (disch := decide) only [↓Frame.portLost, ↓Frame.putReg, ↓Frame.showLatency, ↓Frame.ite, ↓Frame.foldl, ↓Frame.foldlFst, Frame.refl, ite_self, ok, refuse, apply_ite CmdResult.state, apply_ite Prod.fst, apply_ite Prod.snd] | split)); done)) only [↓Frame.portLost, ↓Frame.putReg, ↓Frame.showLatency, ↓Frame.ite, ↓Frame.foldl, ↓Frame.foldlFst, Frame.refl, ite_self, ok, refuse, apply_ite CmdResult.state, apply_ite Prod.fst, apply_ite Prod.snd] | split)); done)) only [↓Frame.portLost, ↓Frame.putReg, ↓Frame.showLatency, ↓Frame.ite, Frame.refl, ite_self] | split)
theorem Frame.portWritten {m : Nat} {s u : State} (old : State) (x1 : Nat) (k : 0x100008d0 ||| m = m) : Frame m s (u.portWritten old x1) ↔ Frame m s u :=
  (State.portWritten_frame u old x1).thru k

theorem State.afterWriteOf_frame (u old : State) (x1 : Nat) : Frame 0x2500179d0 u (u.afterWriteOf old x1) := by
  unfold State.afterWriteOf
  repeat' (first | simp (disch := first | decide | rfl | (intros; (repeat' (first | simp (disch := first | decide | rfl | (intros; (repeat' (first | simp (disch := decide) only [↓Frame.portWritten, ↓Frame.timeWritten, ↓Frame.updateHolding, ↓Frame.ite, ↓Frame.foldl, ↓Frame.foldlFst, Frame.refl, ite_self, ok, refuse, apply_ite CmdResult.state, apply_ite Prod.fst, apply_ite Prod.snd] | split)); done)) only [↓Frame.portWritten, ↓Frame.timeWritten, ↓Frame.updateHolding, ↓Frame.ite, ↓Frame.foldl, ↓Frame.foldlFst, Frame.refl, ite_self, ok, refuse, apply_ite CmdResult.state, apply_ite Prod.fst, apply_ite Prod.snd] | split)); done)) only [↓Frame.portWritten, ↓Frame.timeWritten, ↓Frame.updateHolding, ↓Frame.ite, Frame.refl, ite_self] | split)
theorem Frame.afterWriteOf {m : Nat} {s u : State} (old : State) (x1 : Nat) (k : 0x2500179d0 ||| m = m) : Frame m s (u.afterWriteOf old x1) ↔ Frame m s u :=
  (State.afterWriteOf_frame u old x1).thru k

theorem Frame.ageAlarm {m : Nat} {s u : State} {x1 x2 x3 : ℕ} (k : 0x8100008d0 ||| m = m) : Frame m s (State.ageAlarm u x1 x2 x3) ↔ Frame m s u := by
  refine Frame.thru (m := 0x8100008d0) ?_ k
  unfold State.ageAlarm
  simp (disch := decide) only [↓Frame.event, ↓Frame.raise, ↓Frame.setClock, ↓Frame.ite, Frame.refl, ite_self]

theorem Frame.ageForecast {m : Nat} {s u : State} (k : 0x18100008d0 ||| m = m) : Frame m s (State.ageForecast u) ↔ Frame m s u := by
  refine Frame.thru (m := 0x18100008d0) ?_ k
  unfold State.ageForecast
  repeat' (first | simp (disch := first | decide | rfl | (intros; (repeat' (first | simp (disch := first | decide | rfl | (intros; (repeat' (first | simp (disch := decide) only [↓Frame.ageAlarm, ↓Frame.putReg, ↓Frame.setAgeing, ↓Frame.setClock, ↓Frame.ite, ↓Frame.foldl, ↓Frame.foldlFst, Frame.refl, ite_self, ok, refuse, apply_ite CmdResult.state, apply_ite Prod.fst, apply_ite Prod.snd] | split)); done)) only [↓Frame.ageAlarm, ↓Frame.putReg, ↓Frame.setAgeing, ↓Frame.setClock, ↓Frame.ite, ↓Frame.foldl, ↓Frame.foldlFst, Frame.refl, ite_self, ok, refuse, apply_ite CmdResult.state, apply_ite Prod.fst, apply_ite Prod.snd] | split)); done)) only [↓Frame.setAgeing, ↓Frame.setClock, ↓Frame.ite, ↓Frame.foldl, Frame.refl, ite_self] | split)

theorem Frame.putElem {m : Nat} {s u : State} {x1 : ℕ} {x2 : ElemSt} (k : 0x8000 ||| m = m) : Frame m s (State.putElem u x1 x2) ↔ Frame m s u := by
  refine Frame.thru (m := 0x8000) ?_ k
  unfold State.putElem
  simp (disch := decide) only [↓Frame.setFault, Frame.refl]

theorem Frame.countClass {m : Nat} {s u : State} {x1 : ℕ} (k : 0x10 ||| m = m) : Frame m s (State.countClass u x1) ↔ Frame m s u := by
  refine Frame.thru (m := 0x10) ?_ k
  unfold State.countClass
  repeat' (first | simp (disch := decide) only [↓Frame.count, Frame.refl] | split)

theorem Frame.transient {m : Nat} {s u : State} {x1 x2 : ℕ} (k : 0x100088d0 ||| m = m) : Frame m s (State.transient u x1 x2) ↔ Frame m s u := by
  refine Frame.thru (m := 0x100088d0) ?_ k
  unfold State.transient
  simp (disch := decide) only [↓Frame.count, ↓Frame.countClass, ↓Frame.event, ↓Frame.putElem, ↓Frame.raise, Frame.refl]

theorem Frame.showFenced {m : Nat} {s u : State} (k : 0x10 ||| m = m) : Frame m s (State.showFenced u) ↔ Frame m s u := by
  refine Frame.thru (m := 0x10) ?_ k
  unfold State.showFenced
  simp (disch := decide) only [↓Frame.putFld, ↓Frame.putReg, Frame.refl]

theorem Frame.restoreFails {m : Nat} {s u : State} {x1 x2 : ℕ} (k : 0x100088d0 ||| m = m) : Frame m s (State.restoreFails u x1 x2) ↔ Frame m s u := by
  refine Frame.thru (m := 0x100088d0) ?_ k
  unfold State.restoreFails
  simp (disch := decide) only [↓Frame.event, ↓Frame.putElem, ↓Frame.raise, ↓Frame.showFenced, Frame.refl]

theorem Frame.dropPending {m : Nat} {s u : State} (k : 0x100009d0 ||| m = m) : Frame m s (State.dropPending u) ↔ Frame m s u := by
  refine Frame.thru (m := 0x100009d0) ?_ k
  unfold State.dropPending
  repeat' (first | simp (disch := decide) only [↓Frame.event, ↓Frame.putFld, ↓Frame.raise, ↓Frame.setDraft, ↓Frame.showSwitch, Frame.refl] | split)

theorem Frame.driveClaim {m : Nat} {s u : State} {x1 x2 : ℕ} (k : 0x100008d0 ||| m = m) : Frame m s (State.driveClaim u x1 x2) ↔ Frame m s u := by
  refine Frame.thru (m := 0x100008d0) ?_ k
  unfold State.driveClaim
  simp (disch := decide) only [↓Frame.event, ↓Frame.putFld, Frame.refl]

theorem Frame.withdraw {m : Nat} {s u : State} (k : 0x2500149d0 ||| m = m) : Frame m s (State.withdraw u) ↔ Frame m s u := by
  refine Frame.thru (m := 0x2500149d0) ?_ k
  unfold State.withdraw
  simp (disch := decide) only [↓Frame.drive, ↓Frame.driveClaim, ↓Frame.putFld, ↓Frame.setPair, ↓Frame.updateHolding, ↓Frame.ite, Frame.refl, ite_self]

theorem Frame.endHold {m : Nat} {s u : State} {x1 : ℕ} (k : 0x21000c8d0 ||| m = m) : Frame m s (State.endHold u x1) ↔ Frame m s u := by
  refine Frame.thru (m := 0x21000c8d0) ?_ k
  unfold State.endHold
  repeat' (first | simp (disch := decide) only [↓Frame.event, ↓Frame.putFld, ↓Frame.setFault, ↓Frame.updatePins, Frame.refl] | split)

theorem Frame.setCause {m : Nat} {s u : State} {x1 x2 : ℕ} (k : 0x10 ||| m = m) : Frame m s (State.setCause u x1 x2) ↔ Frame m s u := by
  refine Frame.thru (m := 0x10) ?_ k
  unfold State.setCause
  simp (disch := decide) only [↓Frame.putFld, Frame.refl]

theorem Frame.beginFault {m : Nat} {s u : State} (k : 0x8010 ||| m = m) : Frame m s (State.beginFault u) ↔ Frame m s u := by
  refine Frame.thru (m := 0x8010) ?_ k
  unfold State.beginFault
  simp (disch := decide) only [↓Frame.putFld, ↓Frame.setFault, ↓Frame.ite, Frame.refl, ite_self]

theorem Frame.queueState {m : Nat} {s u : State} {x1 x2 : ℕ} (k : 0x10 ||| m = m) : Frame m s (State.queueState u x1 x2) ↔ Frame m s u := by
  refine Frame.thru (m := 0x10) ?_ k
  unfold State.queueState
  simp (disch := decide) only [↓Frame.putFld, ↓Frame.putReg, Frame.refl]

theorem Frame.putQueue {m : Nat} {s u : State} {x1 : ℕ} {x2 : QueueSt} (k : 0x40000 ||| m = m) : Frame m s (State.putQueue u x1 x2) ↔ Frame m s u := by
  refine Frame.thru (m := 0x40000) ?_ k
  unfold State.putQueue
  simp (disch := decide) only [↓Frame.setQueues, Frame.refl]

theorem Frame.putLevel {m : Nat} {s u : State} {x1 : ℕ} {x2 : QueueSt} (k : 0x40850 ||| m = m) : Frame m s (State.putLevel u x1 x2) ↔ Frame m s u := by
  refine Frame.thru (m := 0x40850) ?_ k
  unfold State.putLevel
  simp (disch := decide) only [↓Frame.putFld, ↓Frame.putQueue, ↓Frame.putReg, ↓Frame.raise, ↓Frame.ite, Frame.refl, ite_self]

theorem Frame.flushQueue {m : Nat} {s u : State} {x1 : ℕ} (k : 0x100408d0 ||| m = m) : Frame m s (State.flushQueue u x1) ↔ Frame m s u := by
  refine Frame.thru (m := 0x100408d0) ?_ k
  unfold State.flushQueue
  simp (disch := decide) only [↓Frame.emit, ↓Frame.event, ↓Frame.putFld, ↓Frame.putLevel, ↓Frame.putReg, ↓Frame.ite, Frame.refl, ite_self]

theorem Frame.flushAll {m : Nat} {s u : State} (k : 0x100408d0 ||| m = m) : Frame m s (State.flushAll u) ↔ Frame m s u := by
  refine Frame.thru (m := 0x100408d0) ?_ k
  unfold State.flushAll
  repeat' (first | simp (disch := first | decide | rfl | (intros; simp (disch := first | decide | rfl | (intros; simp (disch := decide) only [↓Frame.flushQueue, ↓Frame.queueState, ↓Frame.ite, ↓Frame.foldl, ↓Frame.foldlFst, Frame.refl, ite_self, ok, refuse, apply_ite CmdResult.state, apply_ite Prod.fst, apply_ite Prod.snd])) only [↓Frame.flushQueue, ↓Frame.queueState, ↓Frame.ite, ↓Frame.foldl, ↓Frame.foldlFst, Frame.refl, ite_self, ok, refuse, apply_ite CmdResult.state, apply_ite Prod.fst, apply_ite Prod.snd])) only [↓Frame.foldl, Frame.refl] | split)

theorem Frame.enterSafe {m : Nat} {s u : State} {x1 x2 : ℕ} (k : 0x25805fdd8 ||| m = m) : Frame m s (State.enterSafe u x1 x2) ↔ Frame m s u := by
  refine Frame.thru (m := 0x25805fdd8) ?_ k
  unfold State.enterSafe
  simp (disch := decide) only [↓Frame.beginFault, ↓Frame.count, ↓Frame.decideMode, ↓Frame.dropPending, ↓Frame.endHold, ↓Frame.event, ↓Frame.flushAll, ↓Frame.powerDown, ↓Frame.putFld, ↓Frame.raise, ↓Frame.setCause, ↓Frame.updatePins, ↓Frame.withdraw, Frame.refl]

theorem Frame.restoreFailed {m : Nat} {s u : State} {x1 x2 : ℕ} (k : 0x25805fdd8 ||| m = m) : Frame m s (State.restoreFailed u x1 x2) ↔ Frame m s u := by
  refine Frame.thru (m := 0x25805fdd8) ?_ k
  unfold State.restoreFailed
  simp (disch := decide) only [↓Frame.enterSafe, ↓Frame.restoreFails, ↓Frame.ite, Frame.refl, ite_self]

theorem Frame.failInLoad {m : Nat} {s u : State} (k : 0x258017dd8 ||| m = m) : Frame m s (State.failInLoad u) ↔ Frame m s u := by
  refine Frame.thru (m := 0x258017dd8) ?_ k
  unfold State.failInLoad
  simp (disch := decide) only [↓Frame.failLoad, ↓Frame.ite, Frame.refl, ite_self]

theorem Frame.fenceLane {m : Nat} {s u : State} {x1 : ℕ} (k : 0x2500149d0 ||| m = m) : Frame m s (State.fenceLane u x1) ↔ Frame m s u := by
  refine Frame.thru (m := 0x2500149d0) ?_ k
  unfold State.fenceLane
  simp (disch := decide) only [↓Frame.putFld, ↓Frame.raise, ↓Frame.updateHolding, Frame.refl]

theorem Frame.fence {m : Nat} {s u : State} {x1 x2 : ℕ} {x3 : Bool} (k : 0x100088d0 ||| m = m) : Frame m s (State.fence u x1 x2 x3) ↔ Frame m s u := by
  refine Frame.thru (m := 0x100088d0) ?_ k
  unfold State.fence
  simp (disch := decide) only [↓Frame.event, ↓Frame.putElem, ↓Frame.raise, ↓Frame.showFenced, Frame.refl]

theorem Frame.fenceFailed {m : Nat} {s u : State} {x1 x2 : ℕ} (k : 0x25001c9d0 ||| m = m) : Frame m s (State.fenceFailed u x1 x2) ↔ Frame m s u := by
  refine Frame.thru (m := 0x25001c9d0) ?_ k
  unfold State.fenceFailed
  simp (disch := decide) only [↓Frame.event, ↓Frame.fence, ↓Frame.fenceLane, ↓Frame.ite, Frame.refl, ite_self]

theorem Frame.setHold {m : Nat} {s u : State} {x1 x2 : Bool} {x3 : ℕ} (k : 0x100088d0 ||| m = m) : Frame m s (State.setHold u x1 x2 x3) ↔ Frame m s u := by
  refine Frame.thru (m := 0x100088d0) ?_ k
  unfold State.setHold
  simp (disch := decide) only [↓Frame.event, ↓Frame.putFld, ↓Frame.setFault, ↓Frame.ite, Frame.refl, ite_self]

theorem Frame.enterRecovery {m : Nat} {s u : State} {x1 x2 : ℕ} (k : 0x25001c9d0 ||| m = m) : Frame m s (State.enterRecovery u x1 x2) ↔ Frame m s u := by
  refine Frame.thru (m := 0x25001c9d0) ?_ k
  unfold State.enterRecovery
  simp (disch := decide) only [↓Frame.beginFault, ↓Frame.count, ↓Frame.decideMode, ↓Frame.dropPending, ↓Frame.event, ↓Frame.putFld, ↓Frame.raise, ↓Frame.setCause, ↓Frame.setFault, ↓Frame.setHold, ↓Frame.updatePins, ↓Frame.withdraw, ↓Frame.ite, Frame.refl, ite_self]

theorem Frame.startRestore {m : Nat} {s u : State} {x1 : ℕ} (k : 0x258037dd8 ||| m = m) : Frame m s (State.startRestore u x1) ↔ Frame m s u := by
  refine Frame.thru (m := 0x258037dd8) ?_ k
  unfold State.startRestore
  simp (disch := decide) only [↓Frame.domainEvent, ↓Frame.setDomain, ↓Frame.setPower, ↓Frame.ite, Frame.refl, ite_self]

theorem Frame.treatRecovery {m : Nat} {s u : State} {x1 x2 : ℕ} (k : 0x25803fdd8 ||| m = m) : Frame m s (State.treatRecovery u x1 x2) ↔ Frame m s u := by
  refine Frame.thru (m := 0x25803fdd8) ?_ k
  unfold State.treatRecovery
  simp (disch := decide) only [↓Frame.beginFault, ↓Frame.enterRecovery, ↓Frame.failInLoad, ↓Frame.fence, ↓Frame.startRestore, ↓Frame.ite, Frame.refl, ite_self]

theorem Frame.resetRing {m : Nat} {s u : State} {x1 : ℕ} (k : 0x10 ||| m = m) : Frame m s (State.resetRing u x1) ↔ Frame m s u := by
  refine Frame.thru (m := 0x10) ?_ k
  unfold State.resetRing
  repeat' (first | simp (disch := first | decide | rfl | (intros; simp (disch := first | decide | rfl | (intros; simp (disch := decide) only [↓Frame.putReg, ↓Frame.ite, ↓Frame.foldl, ↓Frame.foldlFst, Frame.refl, ite_self, ok, refuse, apply_ite CmdResult.state, apply_ite Prod.fst, apply_ite Prod.snd])) only [↓Frame.putReg, ↓Frame.ite, ↓Frame.foldl, ↓Frame.foldlFst, Frame.refl, ite_self, ok, refuse, apply_ite CmdResult.state, apply_ite Prod.fst, apply_ite Prod.snd])) only [↓Frame.foldl, Frame.refl] | split)

theorem Frame.dropRings {m : Nat} {s u : State} (k : 0x10 ||| m = m) : Frame m s (State.dropRings u) ↔ Frame m s u := by
  refine Frame.thru (m := 0x10) ?_ k
  unfold State.dropRings
  repeat' (first | simp (disch := first | decide | rfl | (intros; simp (disch := first | decide | rfl | (intros; simp (disch := decide) only [↓Frame.queueState, ↓Frame.resetRing, ↓Frame.ite, ↓Frame.foldl, ↓Frame.foldlFst, Frame.refl, ite_self, ok, refuse, apply_ite CmdResult.state, apply_ite Prod.fst, apply_ite Prod.snd])) only [↓Frame.queueState, ↓Frame.resetRing, ↓Frame.ite, ↓Frame.foldl, ↓Frame.foldlFst, Frame.refl, ite_self, ok, refuse, apply_ite CmdResult.state, apply_ite Prod.fst, apply_ite Prod.snd])) only [↓Frame.foldl, Frame.refl] | split)

theorem Frame.hostLinkDown {m : Nat} {s u : State} {x1 : ℕ} (k : 0x20100008d0 ||| m = m) : Frame m s (State.hostLinkDown u x1) ↔ Frame m s u := by
  refine Frame.thru (m := 0x20100008d0) ?_ k
  unfold State.hostLinkDown
  simp (disch := decide) only [↓Frame.count, ↓Frame.dropRings, ↓Frame.event, ↓Frame.putReg, ↓Frame.raise, ↓Frame.setHost, ↓Frame.ite, Frame.refl, ite_self]

theorem Frame.treat {m : Nat} {s u : State} {x1 x2 x3 : ℕ} (k : 0x225807fdd8 ||| m = m) : Frame m s (State.treat u x1 x2 x3) ↔ Frame m s u := by
  refine Frame.thru (m := 0x225807fdd8) ?_ k
  unfold State.treat
  simp (disch := decide) only [↓Frame.count, ↓Frame.enterSafe, ↓Frame.failInLoad, ↓Frame.fence, ↓Frame.fenceFailed, ↓Frame.hostLinkDown, ↓Frame.treatRecovery, ↓Frame.ite, Frame.refl, ite_self]

theorem Frame.lastingOn {m : Nat} {s u : State} {x1 x2 x3 : ℕ} (k : 0x225807fdd8 ||| m = m) : Frame m s (State.lastingOn u x1 x2 x3) ↔ Frame m s u := by
  refine Frame.thru (m := 0x225807fdd8) ?_ k
  unfold State.lastingOn
  repeat' (first | simp (disch := first | decide | rfl | (intros; simp (disch := first | decide | rfl | (intros; simp (disch := decide) only [↓Frame.count, ↓Frame.countClass, ↓Frame.event, ↓Frame.putElem, ↓Frame.putPair, ↓Frame.putReg, ↓Frame.raise, ↓Frame.restoreFailed, ↓Frame.restoreFails, ↓Frame.treat, ↓Frame.ite, ↓Frame.foldl, ↓Frame.foldlFst, Frame.refl, ite_self, ok, refuse, apply_ite CmdResult.state, apply_ite Prod.fst, apply_ite Prod.snd])) only [↓Frame.count, ↓Frame.countClass, ↓Frame.event, ↓Frame.putElem, ↓Frame.putPair, ↓Frame.putReg, ↓Frame.raise, ↓Frame.restoreFailed, ↓Frame.restoreFails, ↓Frame.treat, ↓Frame.ite, ↓Frame.foldl, ↓Frame.foldlFst, Frame.refl, ite_self, ok, refuse, apply_ite CmdResult.state, apply_ite Prod.fst, apply_ite Prod.snd])) only [↓Frame.count, ↓Frame.countClass, ↓Frame.event, ↓Frame.putElem, ↓Frame.putPair, ↓Frame.putReg, ↓Frame.raise, ↓Frame.treat, ↓Frame.foldl, Frame.refl] | split)

theorem Frame.lasting {m : Nat} {s u : State} {x1 x2 : ℕ} (k : 0x225807fdd8 ||| m = m) : Frame m s (State.lasting u x1 x2) ↔ Frame m s u := by
  refine Frame.thru (m := 0x225807fdd8) ?_ k
  unfold State.lasting
  repeat' (first | simp (disch := first | decide | rfl | (intros; simp (disch := first | decide | rfl | (intros; simp (disch := decide) only [↓Frame.lastingOn, ↓Frame.ite, ↓Frame.foldl, ↓Frame.foldlFst, Frame.refl, ite_self, ok, refuse, apply_ite CmdResult.state, apply_ite Prod.fst, apply_ite Prod.snd])) only [↓Frame.lastingOn, ↓Frame.ite, ↓Frame.foldl, ↓Frame.foldlFst, Frame.refl, ite_self, ok, refuse, apply_ite CmdResult.state, apply_ite Prod.fst, apply_ite Prod.snd])) only [↓Frame.lastingOn, Frame.refl] | split)

theorem Frame.checkFailed {m : Nat} {s u : State} {x1 x2 x3 : ℕ} (k : 0x225807fdd8 ||| m = m) : Frame m s (State.checkFailed u x1 x2 x3) ↔ Frame m s u := by
  refine Frame.thru (m := 0x225807fdd8) ?_ k
  unfold State.checkFailed
  simp (disch := decide) only [↓Frame.lasting, ↓Frame.setFault, ↓Frame.treat, ↓Frame.ite, Frame.refl, ite_self]

theorem Frame.checkedRead {m : Nat} {s u : State} {x1 x2 x3 x4 x5 x6 x7 x8 : ℕ} {x9 : ℕ × ℕ} {x10 : List Byte} (k : 0x225807fdd8 ||| m = m) : Frame m s (State.checkedRead u x1 x2 x3 x4 x5 x6 x7 x8 x9 x10).1 ↔ Frame m s u := by
  refine Frame.thru (m := 0x225807fdd8) ?_ k
  unfold State.checkedRead
  simp (disch := decide) only [↓Frame.checkFailed, ↓Frame.count, ↓Frame.event, ↓Frame.raise, ↓Frame.transient, ↓Frame.ite, Frame.refl, ite_self, apply_ite Prod.fst]

theorem Frame.isleRead {m : Nat} {s u : State} {x1 x2 x3 x4 : ℕ} {x5 : Checks} (k : 0x225807fdd8 ||| m = m) : Frame m s (State.isleRead u x1 x2 x3 x4 x5).1 ↔ Frame m s u := by
  refine Frame.thru (m := 0x225807fdd8) ?_ k
  unfold State.isleRead
  simp (disch := decide) only [↓Frame.checkedRead, Frame.refl]

theorem Frame.readMembers {m : Nat} {s u : State} {x1 x2 x3 : ℕ} {x4 : List (ℕ × ℚ)} {x5 : Checks} (k : 0x225807fdd8 ||| m = m) : Frame m s (State.readMembers u x1 x2 x3 x4 x5).1 ↔ Frame m s u := by
  refine Frame.thru (m := 0x225807fdd8) ?_ k
  unfold State.readMembers
  repeat' (first | simp (disch := first | decide | rfl | (intros; simp (disch := first | decide | rfl | (intros; simp (disch := decide) only [↓Frame.isleRead, ↓Frame.ite, ↓Frame.foldl, ↓Frame.foldlFst, Frame.refl, ite_self, ok, refuse, apply_ite CmdResult.state, apply_ite Prod.fst, apply_ite Prod.snd])) only [↓Frame.isleRead, ↓Frame.ite, ↓Frame.foldl, ↓Frame.foldlFst, Frame.refl, ite_self, ok, refuse, apply_ite CmdResult.state, apply_ite Prod.fst, apply_ite Prod.snd])) only [↓Frame.foldlFst, Frame.refl] | split)

theorem Frame.aggregate {m : Nat} {s u : State} {x1 : List Byte} {x2 x3 : ℕ} {x4 : List Byte} {x5 : Checks} (k : 0x235807fdd8 ||| m = m) : Frame m s (State.aggregate u x1 x2 x3 x4 x5) ↔ Frame m s u := by
  refine Frame.thru (m := 0x235807fdd8) ?_ k
  unfold State.aggregate
  simp (disch := decide) only [↓Frame.readMembers, ↓Frame.setIsle, Frame.refl]

theorem Frame.setLane {m : Nat} {s u : State} {x1 : ℕ} {x2 : LaneSt} (k : 0x4000 ||| m = m) : Frame m s (State.setLane u x1 x2) ↔ Frame m s u := by
  refine Frame.thru (m := 0x4000) ?_ k
  unfold State.setLane
  simp (disch := decide) only [↓Frame.setVote, Frame.refl]

theorem Frame.showPoint {m : Nat} {s u : State} {x1 : ℕ} (k : 0x10 ||| m = m) : Frame m s (State.showPoint u x1) ↔ Frame m s u := by
  refine Frame.thru (m := 0x10) ?_ k
  unfold State.showPoint
  simp (disch := decide) only [↓Frame.putReg, Frame.refl]

theorem Frame.burst {m : Nat} {s u : State} {x1 x2 : ℕ} {x3 : List Byte} {x4 : ℕ} (k : 0x100008d0 ||| m = m) : Frame m s (State.burst u x1 x2 x3 x4) ↔ Frame m s u := by
  refine Frame.thru (m := 0x100008d0) ?_ k
  unfold State.burst
  simp (disch := decide) only [↓Frame.event, ↓Frame.setLedger, Frame.refl]

theorem Frame.endBurst {m : Nat} {s u : State} {x1 x2 : ℕ} (k : 0x80 ||| m = m) : Frame m s (State.endBurst u x1 x2) ↔ Frame m s u := by
  refine Frame.thru (m := 0x80) ?_ k
  unfold State.endBurst
  simp (disch := decide) only [↓Frame.setLedger, Frame.refl]

theorem Frame.commit {m : Nat} {s u : State} {x1 : ℕ} {x2 : List Byte} (k : 0x100408d0 ||| m = m) : Frame m s (State.commit u x1 x2).1 ↔ Frame m s u := by
  refine Frame.thru (m := 0x100408d0) ?_ k
  unfold State.commit
  simp (disch := decide) only [↓Frame.burst, ↓Frame.count, ↓Frame.endBurst, ↓Frame.putLevel, ↓Frame.raise, ↓Frame.ite, Frame.refl, ite_self, apply_ite Prod.fst]

theorem Frame.pushInput {m : Nat} {s u : State} {x1 : ℕ} {x2 : Bool} {x3 : ℕ} (k : 0x1000000 ||| m = m) : Frame m s (State.pushInput u x1 x2 x3) ↔ Frame m s u := by
  refine Frame.thru (m := 0x1000000) ?_ k
  unfold State.pushInput
  simp (disch := decide) only [↓Frame.setInputQ, ↓Frame.ite, Frame.refl, ite_self]

theorem Frame.pushKind {m : Nat} {s u : State} {x1 : ℕ} {x2 : ℕ → Option Bool} {x3 : ℕ} (k : 0x1000000 ||| m = m) : Frame m s (State.pushKind u x1 x2 x3) ↔ Frame m s u := by
  refine Frame.thru (m := 0x1000000) ?_ k
  unfold State.pushKind
  repeat' (first | simp (disch := first | decide | rfl | (intros; (repeat' (first | simp (disch := first | decide | rfl | (intros; (repeat' (first | simp (disch := decide) only [↓Frame.pushInput, ↓Frame.ite, ↓Frame.foldl, ↓Frame.foldlFst, Frame.refl, ite_self, ok, refuse, apply_ite CmdResult.state, apply_ite Prod.fst, apply_ite Prod.snd] | split)); done)) only [↓Frame.pushInput, ↓Frame.ite, ↓Frame.foldl, ↓Frame.foldlFst, Frame.refl, ite_self, ok, refuse, apply_ite CmdResult.state, apply_ite Prod.fst, apply_ite Prod.snd] | split)); done)) only [↓Frame.foldl, Frame.refl] | split)

theorem Frame.transition {m : Nat} {s u : State} {x1 x2 x3 : ℕ} {x4 x5 x6 : Bool} {x7 x8 x9 x10 : ℕ} (k : 0x110408d0 ||| m = m) : Frame m s (State.transition u x1 x2 x3 x4 x5 x6 x7 x8 x9 x10) ↔ Frame m s u := by
  refine Frame.thru (m := 0x110408d0) ?_ k
  unfold State.transition
  simp (disch := decide) only [↓Frame.burst, ↓Frame.commit, ↓Frame.count, ↓Frame.endBurst, ↓Frame.event, ↓Frame.mirrorSend, ↓Frame.pushKind, ↓Frame.raise, ↓Frame.showPoint, ↓Frame.ite, Frame.refl, ite_self]

theorem Frame.alarmConfig {m : Nat} {s u : State} {x1 : List Byte} {x2 x3 : ℕ} (k : 0x110448d0 ||| m = m) : Frame m s (State.alarmConfig u x1 x2 x3) ↔ Frame m s u := by
  refine Frame.thru (m := 0x110448d0) ?_ k
  unfold State.alarmConfig
  repeat' (first | simp (disch := first | decide | rfl | (intros; simp (disch := first | decide | rfl | (intros; simp (disch := decide) only [↓Frame.setLane, ↓Frame.setVote, ↓Frame.transition, ↓Frame.ite, ↓Frame.foldl, ↓Frame.foldlFst, Frame.refl, ite_self, ok, refuse, apply_ite CmdResult.state, apply_ite Prod.fst, apply_ite Prod.snd])) only [↓Frame.setLane, ↓Frame.setVote, ↓Frame.transition, ↓Frame.ite, ↓Frame.foldl, ↓Frame.foldlFst, Frame.refl, ite_self, ok, refuse, apply_ite CmdResult.state, apply_ite Prod.fst, apply_ite Prod.snd])) only [↓Frame.setVote, ↓Frame.ite, ↓Frame.foldl, Frame.refl, ite_self] | split)

end Sys2Proof.Machine
end

