-- ==== Sys2Proof/Laws/Frame2.lean ====
section
/-!
SUPPORT. Sys2Proof/Laws/Frame2.lean: the parts of the state that each operation may write, part 2 of 7, in the order in which the
operations call each other. One lemma an operation: a frame goes through it.
-/

namespace Sys2Proof.Machine

theorem Frame.energyRestore {m : Nat} {s u : State} (k : 0x200000000 ||| m = m) : Frame m s (State.energyRestore u) ↔ Frame m s u := by
  refine Frame.thru (m := 0x200000000) ?_ k
  unfold State.energyRestore
  repeat' (first | simp (disch := decide) only [↓Frame.setEnergy, Frame.refl] | split)

theorem Frame.showOsc {m : Nat} {s u : State} (k : 0x10 ||| m = m) : Frame m s (State.showOsc u) ↔ Frame m s u := by
  refine Frame.thru (m := 0x10) ?_ k
  unfold State.showOsc
  simp (disch := decide) only [↓Frame.putFld, Frame.refl]

theorem Frame.putShape {m : Nat} {s u : State} {x1 : ℕ} {x2 : ShapeJob} (k : 0x80000000 ||| m = m) : Frame m s (State.putShape u x1 x2) ↔ Frame m s u := by
  refine Frame.thru (m := 0x80000000) ?_ k
  unfold State.putShape
  simp (disch := decide) only [↓Frame.setOsc, Frame.refl]

theorem Frame.takeJobs {m : Nat} {s u : State} {x1 : List (ℕ × List Byte)} {x2 : ℕ → Bool} (k : 0x80000000 ||| m = m) : Frame m s (State.takeJobs u x1 x2) ↔ Frame m s u := by
  refine Frame.thru (m := 0x80000000) ?_ k
  unfold State.takeJobs
  repeat' (first | simp (disch := first | decide | rfl | (intros; simp (disch := first | decide | rfl | (intros; simp (disch := decide) only [↓Frame.putShape, ↓Frame.setOsc, ↓Frame.ite, ↓Frame.foldl, ↓Frame.foldlFst, Frame.refl, ite_self, ok, refuse, apply_ite CmdResult.state, apply_ite Prod.fst, apply_ite Prod.snd])) only [↓Frame.putShape, ↓Frame.setOsc, ↓Frame.ite, ↓Frame.foldl, ↓Frame.foldlFst, Frame.refl, ite_self, ok, refuse, apply_ite CmdResult.state, apply_ite Prod.fst, apply_ite Prod.snd])) only [↓Frame.setOsc, ↓Frame.foldl, Frame.refl] | split)

theorem Frame.oscReset {m : Nat} {s u : State} (k : 0x80000010 ||| m = m) : Frame m s (State.oscReset u) ↔ Frame m s u := by
  refine Frame.thru (m := 0x80000010) ?_ k
  unfold State.oscReset
  simp (disch := decide) only [↓Frame.setOsc, ↓Frame.showOsc, ↓Frame.takeJobs, Frame.refl]

theorem Frame.anaReplay {m : Nat} {s u : State} (k : 0x380000110 ||| m = m) : Frame m s (State.anaReplay u) ↔ Frame m s u := by
  refine Frame.thru (m := 0x380000110) ?_ k
  unfold State.anaReplay
  simp (disch := decide) only [↓Frame.condition, ↓Frame.energyRestore, ↓Frame.oscReset, ↓Frame.setIsle, Frame.refl]

theorem Frame.announceLeap {m : Nat} {s u : State} {x1 x2 : ℕ} (k : 0x100028d0 ||| m = m) : Frame m s (State.announceLeap u x1 x2) ↔ Frame m s u := by
  refine Frame.thru (m := 0x100028d0) ?_ k
  unfold State.announceLeap
  simp (disch := decide) only [↓Frame.event, ↓Frame.putFld, ↓Frame.raise, ↓Frame.setTime, ↓Frame.ite, Frame.refl, ite_self]

theorem Frame.readReg {m : Nat} {s u : State} {x1 : Path} {x2 : ℕ} (k : 0x20 ||| m = m) : Frame m s (State.readReg u x1 x2).1 ↔ Frame m s u := by
  refine Frame.thru (m := 0x20) ?_ k
  unfold State.readReg
  repeat' (first | simp (disch := decide) only [↓Frame.setSnaps, Frame.refl] | split)

theorem Frame.answerRead {m : Nat} {s u : State} {x1 : ℕ} (k : 0x100008f0 ||| m = m) : Frame m s (State.answerRead u x1) ↔ Frame m s u := by
  refine Frame.thru (m := 0x100008f0) ?_ k
  unfold State.answerRead
  simp (disch := decide) only [↓Frame.emit, ↓Frame.hostErr, ↓Frame.readReg, ↓Frame.ite, Frame.refl, ite_self]

theorem Frame.applyDevice {m : Nat} {s u : State} {x1 : List Byte} (k : 0x10 ||| m = m) : Frame m s (State.applyDevice u x1) ↔ Frame m s u := by
  refine Frame.thru (m := 0x10) ?_ k
  unfold State.applyDevice
  repeat' (first | simp (disch := decide) only [↓Frame.putReg, Frame.refl] | split)

theorem Frame.toggleStrobe {m : Nat} {s u : State} (k : 0x10800 ||| m = m) : Frame m s (State.toggleStrobe u) ↔ Frame m s u := by
  refine Frame.thru (m := 0x10800) ?_ k
  unfold State.toggleStrobe
  simp (disch := decide) only [↓Frame.emit, ↓Frame.setPair, ↓Frame.ite, Frame.refl, ite_self]

theorem Frame.strobeClaim {m : Nat} {s u : State} (k : 0x100108d0 ||| m = m) : Frame m s (State.strobeClaim u) ↔ Frame m s u := by
  refine Frame.thru (m := 0x100108d0) ?_ k
  unfold State.strobeClaim
  repeat' (first | simp (disch := decide) only [↓Frame.driveClaim, ↓Frame.putFld, ↓Frame.setPair, ↓Frame.ite, Frame.refl, ite_self] | split)

theorem Frame.interlock {m : Nat} {s u : State} (k : 0x10800 ||| m = m) : Frame m s (State.interlock u) ↔ Frame m s u := by
  refine Frame.thru (m := 0x10800) ?_ k
  unfold State.interlock
  simp (disch := decide) only [↓Frame.drive, ↓Frame.setPair, ↓Frame.ite, Frame.refl, ite_self]

theorem Frame.applyYield {m : Nat} {s u : State} (k : 0x2500149d0 ||| m = m) : Frame m s (State.applyYield u) ↔ Frame m s u := by
  refine Frame.thru (m := 0x2500149d0) ?_ k
  unfold State.applyYield
  simp (disch := decide) only [↓Frame.interlock, ↓Frame.setPair, ↓Frame.strobeClaim, ↓Frame.toggleStrobe, ↓Frame.updateHolding, ↓Frame.ite, Frame.refl, ite_self]

theorem Frame.archiveIdle {m : Nat} {s u : State} (k : 0x258017dd8 ||| m = m) : Frame m s (State.archiveIdle u) ↔ Frame m s u := by
  refine Frame.thru (m := 0x258017dd8) ?_ k
  unfold State.archiveIdle
  simp (disch := decide) only [↓Frame.domainEvent, ↓Frame.setDomain, ↓Frame.ite, Frame.refl, ite_self]

theorem Frame.showWoken {m : Nat} {s u : State} {x1 : ℕ} (k : 0x850 ||| m = m) : Frame m s (State.showWoken u x1) ↔ Frame m s u := by
  refine Frame.thru (m := 0x850) ?_ k
  unfold State.showWoken
  simp (disch := decide) only [↓Frame.count, ↓Frame.putReg, ↓Frame.raise, Frame.refl]

theorem Frame.wakeArchive {m : Nat} {s u : State} (k : 0x258037dd8 ||| m = m) : Frame m s (State.wakeArchive u) ↔ Frame m s u := by
  refine Frame.thru (m := 0x258037dd8) ?_ k
  unfold State.wakeArchive
  simp (disch := decide) only [↓Frame.domainEvent, ↓Frame.setDomain, ↓Frame.setPower, ↓Frame.showWoken, ↓Frame.ite, Frame.refl, ite_self]

theorem Frame.archiveWrite {m : Nat} {s u : State} {x1 : ℕ} (k : 0x225807fdd8 ||| m = m) : Frame m s (State.archiveWrite u x1).1 ↔ Frame m s u := by
  refine Frame.thru (m := 0x225807fdd8) ?_ k
  unfold State.archiveWrite
  simp (disch := decide) only [↓Frame.lasting, ↓Frame.transient, ↓Frame.wakeArchive, ↓Frame.ite, Frame.refl, ite_self, apply_ite Prod.fst]

theorem Frame.putCapt {m : Nat} {s u : State} {x1 : ℕ} {x2 : CaptReg} (k : 0x20000010 ||| m = m) : Frame m s (State.putCapt u x1 x2) ↔ Frame m s u := by
  refine Frame.thru (m := 0x20000010) ?_ k
  unfold State.putCapt
  simp (disch := decide) only [↓Frame.putFld, ↓Frame.putReg, ↓Frame.setCapt, Frame.refl]

theorem Frame.captState {m : Nat} {s u : State} {x1 x2 : ℕ} (k : 0x30000810 ||| m = m) : Frame m s (State.captState u x1 x2) ↔ Frame m s u := by
  refine Frame.thru (m := 0x30000810) ?_ k
  unfold State.captState
  simp (disch := decide) only [↓Frame.mirrorSend, ↓Frame.putCapt, Frame.refl]

theorem Frame.spread {m : Nat} {s u : State} {x1 : SlvCell} {x2 : Option ℕ} (k : 0x10000010 ||| m = m) : Frame m s (State.spread u x1 x2) ↔ Frame m s u := by
  refine Frame.thru (m := 0x10000010) ?_ k
  unfold State.spread
  repeat' (first | simp (disch := first | decide | rfl | (intros; simp (disch := first | decide | rfl | (intros; simp (disch := decide) only [↓Frame.putLink, ↓Frame.ite, ↓Frame.foldl, ↓Frame.foldlFst, Frame.refl, ite_self, ok, refuse, apply_ite CmdResult.state, apply_ite Prod.fst, apply_ite Prod.snd])) only [↓Frame.putLink, ↓Frame.ite, ↓Frame.foldl, ↓Frame.foldlFst, Frame.refl, ite_self, ok, refuse, apply_ite CmdResult.state, apply_ite Prod.fst, apply_ite Prod.snd])) only [↓Frame.foldl, Frame.refl] | split)

theorem Frame.captSend {m : Nat} {s u : State} {x1 x2 : ℕ} {x3 : List Byte} (k : 0x30000010 ||| m = m) : Frame m s (State.captSend u x1 x2 x3).1 ↔ Frame m s u := by
  refine Frame.thru (m := 0x30000010) ?_ k
  unfold State.captSend
  simp (disch := decide) only [↓Frame.count, ↓Frame.setCapt, ↓Frame.setSlv, ↓Frame.spread, ↓Frame.ite, Frame.refl, ite_self, apply_ite Prod.fst]

theorem Frame.armRegion {m : Nat} {s u : State} {x1 x2 : ℕ} (k : 0x300008d0 ||| m = m) : Frame m s (State.armRegion u x1 x2).1 ↔ Frame m s u := by
  refine Frame.thru (m := 0x300008d0) ?_ k
  unfold State.armRegion
  simp (disch := decide) only [↓Frame.captSend, ↓Frame.captState, ↓Frame.event, ↓Frame.putCapt, ↓Frame.putReg, ↓Frame.ite, Frame.refl, ite_self, apply_ite Prod.fst]

theorem Frame.linkDown {m : Nat} {s u : State} {x1 x2 : ℕ} (k : 0x225807fdd8 ||| m = m) : Frame m s (State.linkDown u x1 x2) ↔ Frame m s u := by
  refine Frame.thru (m := 0x225807fdd8) ?_ k
  unfold State.linkDown
  simp (disch := decide) only [↓Frame.lasting, ↓Frame.linkLost, ↓Frame.ite, Frame.refl, ite_self]

theorem Frame.askAgain {m : Nat} {s u : State} {x1 x2 : ℕ} (k : 0x225807fdd8 ||| m = m) : Frame m s (State.askAgain u x1 x2) ↔ Frame m s u := by
  refine Frame.thru (m := 0x225807fdd8) ?_ k
  unfold State.askAgain
  repeat' (first | simp (disch := decide) only [↓Frame.linkDown, ↓Frame.putLink, ↓Frame.ite, Frame.refl, ite_self] | split)

theorem Frame.assignWeft {m : Nat} {s u : State} (k : 0x8000000 ||| m = m) : Frame m s (State.assignWeft u) ↔ Frame m s u := by
  refine Frame.thru (m := 0x8000000) ?_ k
  unfold State.assignWeft
  simp (disch := decide) only [↓Frame.setLoom, Frame.refl]

theorem Frame.at {m : Nat} {s u : State} {x1 : ℕ} (k : 0x8000002008 ||| m = m) : Frame m s (State.at u x1) ↔ Frame m s u := by
  refine Frame.thru (m := 0x8000002008) ?_ k
  unfold State.at
  dsimp only
  simp (disch := decide) only [Frame.setTime, Frame.setBases', Frame.refl]

theorem Frame.authFailed {m : Nat} {s u : State} {x1 : ℕ} (k : 0x100008d0 ||| m = m) : Frame m s (State.authFailed u x1) ↔ Frame m s u := by
  refine Frame.thru (m := 0x100008d0) ?_ k
  unfold State.authFailed
  simp (disch := decide) only [↓Frame.event, ↓Frame.raise, ↓Frame.setLedger, Frame.refl]

theorem Frame.autoClear {m : Nat} {s u : State} {x1 : ℕ} {x2 : ℤ} (k : 0x2100079d0 ||| m = m) : Frame m s (State.autoClear u x1 x2) ↔ Frame m s u := by
  refine Frame.thru (m := 0x2100079d0) ?_ k
  unfold State.autoClear
  simp (disch := decide) only [↓Frame.event, ↓Frame.setServo, ↓Frame.setTime, ↓Frame.ite, Frame.refl, ite_self]

theorem Frame.startLink {m : Nat} {s u : State} {x1 : ℕ} (k : 0x10000010 ||| m = m) : Frame m s (State.startLink u x1) ↔ Frame m s u := by
  refine Frame.thru (m := 0x10000010) ?_ k
  unfold State.startLink
  simp (disch := decide) only [↓Frame.putLink, ↓Frame.putLinkState, ↓Frame.ite, Frame.refl, ite_self]

theorem Frame.autoRestart {m : Nat} {s u : State} {x1 : ℕ} (k : 0x10000010 ||| m = m) : Frame m s (State.autoRestart u x1) ↔ Frame m s u := by
  refine Frame.thru (m := 0x10000010) ?_ k
  unfold State.autoRestart
  simp (disch := decide) only [↓Frame.startLink, ↓Frame.ite, Frame.refl, ite_self]

theorem Frame.startCheck {m : Nat} {s u : State} {x1 x2 : ℕ} (k : 0x1100009d0 ||| m = m) : Frame m s (State.startCheck u x1 x2) ↔ Frame m s u := by
  refine Frame.thru (m := 0x1100009d0) ?_ k
  unfold State.startCheck
  simp (disch := decide) only [↓Frame.condition, ↓Frame.event, ↓Frame.putFld, ↓Frame.setIsle, Frame.refl]

theorem Frame.autoStart {m : Nat} {s u : State} {x1 : List Byte} {x2 : Readings} (k : 0x1100009d0 ||| m = m) : Frame m s (State.autoStart u x1 x2) ↔ Frame m s u := by
  refine Frame.thru (m := 0x1100009d0) ?_ k
  unfold State.autoStart
  repeat' (first | simp (disch := first | decide | rfl | (intros; simp (disch := first | decide | rfl | (intros; simp (disch := decide) only [↓Frame.setIsle, ↓Frame.startCheck, ↓Frame.ite, ↓Frame.foldl, ↓Frame.foldlFst, Frame.refl, ite_self, ok, refuse, apply_ite CmdResult.state, apply_ite Prod.fst, apply_ite Prod.snd])) only [↓Frame.setIsle, ↓Frame.startCheck, ↓Frame.ite, ↓Frame.foldl, ↓Frame.foldlFst, Frame.refl, ite_self, ok, refuse, apply_ite CmdResult.state, apply_ite Prod.fst, apply_ite Prod.snd])) only [↓Frame.setIsle, ↓Frame.startCheck, ↓Frame.ite, ↓Frame.foldl, Frame.refl] | split)

theorem Frame.avsWrite {m : Nat} {s u : State} {x1 : ℕ} {x2 : Bool} (k : 0x800000810 ||| m = m) : Frame m s (State.avsWrite u x1 x2) ↔ Frame m s u := by
  refine Frame.thru (m := 0x800000810) ?_ k
  unfold State.avsWrite
  repeat' (first | simp (disch := decide) only [↓Frame.count, ↓Frame.emit, ↓Frame.setClock, Frame.refl] | split)

theorem Frame.avsSend {m : Nat} {s u : State} {x1 : ℕ} (k : 0x1800000810 ||| m = m) : Frame m s (State.avsSend u x1) ↔ Frame m s u := by
  refine Frame.thru (m := 0x1800000810) ?_ k
  unfold State.avsSend
  simp (disch := decide) only [↓Frame.avsWrite, ↓Frame.setAgeing, Frame.refl]

theorem Frame.avsChange {m : Nat} {s u : State} {x1 : ℕ} (k : 0x18100008d0 ||| m = m) : Frame m s (State.avsChange u x1) ↔ Frame m s u := by
  refine Frame.thru (m := 0x18100008d0) ?_ k
  unfold State.avsChange
  simp (disch := decide) only [↓Frame.avsSend, ↓Frame.event, ↓Frame.raise, ↓Frame.setClock, Frame.refl]

theorem Frame.avsCheck {m : Nat} {s u : State} {x1 : ℕ} {x2 : Bool} (k : 0x8100008d0 ||| m = m) : Frame m s (State.avsCheck u x1 x2) ↔ Frame m s u := by
  refine Frame.thru (m := 0x8100008d0) ?_ k
  unfold State.avsCheck
  repeat' (first | simp (disch := decide) only [↓Frame.avsWrite, ↓Frame.count, ↓Frame.event, ↓Frame.putFld, ↓Frame.raise, ↓Frame.setClock, ↓Frame.ite, Frame.refl, ite_self] | split)

theorem Frame.avsRestore {m : Nat} {s u : State} (k : 0x800000810 ||| m = m) : Frame m s (State.avsRestore u) ↔ Frame m s u := by
  refine Frame.thru (m := 0x800000810) ?_ k
  unfold State.avsRestore
  repeat' (first | simp (disch := decide) only [↓Frame.avsWrite, Frame.refl] | split)

theorem Frame.avsStep {m : Nat} {s u : State} (k : 0x18100008d0 ||| m = m) : Frame m s (State.avsStep u) ↔ Frame m s u := by
  refine Frame.thru (m := 0x18100008d0) ?_ k
  unfold State.avsStep
  repeat' (first | simp (disch := decide) only [↓Frame.avsChange, ↓Frame.setClock, ↓Frame.ite, Frame.refl, ite_self] | split)

theorem Frame.avsToward {m : Nat} {s u : State} {x1 : ℕ} (k : 0x18100008d0 ||| m = m) : Frame m s (State.avsToward u x1) ↔ Frame m s u := by
  refine Frame.thru (m := 0x18100008d0) ?_ k
  unfold State.avsToward
  simp (disch := decide) only [↓Frame.avsStep, ↓Frame.setClock, ↓Frame.ite, Frame.refl, ite_self]

theorem Frame.countSat {m : Nat} {s u : State} {x1 : ℕ} {x2 : optParam ℕ 1} (k : 0x10 ||| m = m) : Frame m s (State.countSat u x1 x2) ↔ Frame m s u := by
  refine Frame.thru (m := 0x10) ?_ k
  unfold State.countSat
  simp (disch := decide) only [↓Frame.putReg, Frame.refl]

theorem Frame.backpressure {m : Nat} {s u : State} {x1 : ℕ} (k : 0x120018d0 ||| m = m) : Frame m s (State.backpressure u x1) ↔ Frame m s u := by
  refine Frame.thru (m := 0x120018d0) ?_ k
  unfold State.backpressure
  simp (disch := decide) only [↓Frame.countSat, ↓Frame.draw, ↓Frame.event, ↓Frame.putFld, ↓Frame.raise, ↓Frame.setReed, ↓Frame.ite, Frame.refl, ite_self]

theorem Frame.badCell {m : Nat} {s u : State} {x1 : ℕ} (k : 0x10000010 ||| m = m) : Frame m s (State.badCell u x1) ↔ Frame m s u := by
  refine Frame.thru (m := 0x10000010) ?_ k
  unfold State.badCell
  simp (disch := decide) only [↓Frame.count, ↓Frame.putLink, ↓Frame.ite, Frame.refl, ite_self]

theorem Frame.bar2Get {m : Nat} {s u : State} {x1 x2 : ℕ} {x3 : Bool} (k : 0x100208d0 ||| m = m) : Frame m s (State.bar2Get u x1 x2 x3) ↔ Frame m s u := by
  refine Frame.thru (m := 0x100208d0) ?_ k
  unfold State.bar2Get
  simp (disch := decide) only [↓Frame.emit, ↓Frame.hostErr, ↓Frame.stall, ↓Frame.ite, Frame.refl, ite_self]

theorem Frame.stkStore {m : Nat} {s u : State} {x1 : ℕ} {x2 : List Byte} (k : 0x400 ||| m = m) : Frame m s (State.stkStore u x1 x2) ↔ Frame m s u := by
  refine Frame.thru (m := 0x400) ?_ k
  unfold State.stkStore
  simp (disch := decide) only [↓Frame.setStk, Frame.refl]

theorem Frame.bar2Put {m : Nat} {s u : State} {x1 : ℕ} {x2 : List Byte} (k : 0x10020cd0 ||| m = m) : Frame m s (State.bar2Put u x1 x2) ↔ Frame m s u := by
  refine Frame.thru (m := 0x10020cd0) ?_ k
  unfold State.bar2Put
  simp (disch := decide) only [↓Frame.hostErr, ↓Frame.stall, ↓Frame.stkStore, ↓Frame.ite, Frame.refl, ite_self]

theorem Frame.baudChanged {m : Nat} {s u : State} (k : 0x20100008d0 ||| m = m) : Frame m s (State.baudChanged u) ↔ Frame m s u := by
  refine Frame.thru (m := 0x20100008d0) ?_ k
  unfold State.baudChanged
  repeat' (first | simp (disch := decide) only [↓Frame.event, ↓Frame.putFld, ↓Frame.putReg, ↓Frame.setHost, ↓Frame.ite, Frame.refl, ite_self] | split)

theorem Frame.say {m : Nat} {s u : State} {x1 : String} (k : 0x800 ||| m = m) : Frame m s (State.say u x1) ↔ Frame m s u := by
  refine Frame.thru (m := 0x800) ?_ k
  unfold State.say
  simp (disch := decide) only [↓Frame.emit, Frame.refl]

theorem Frame.prompt {m : Nat} {s u : State} (k : 0x800 ||| m = m) : Frame m s (State.prompt u) ↔ Frame m s u := by
  refine Frame.thru (m := 0x800) ?_ k
  unfold State.prompt
  simp (disch := decide) only [↓Frame.say, Frame.refl]

theorem Frame.monOk {m : Nat} {s u : State} {x1 : String} (k : 0x800 ||| m = m) : Frame m s (State.monOk u x1) ↔ Frame m s u := by
  refine Frame.thru (m := 0x800) ?_ k
  unfold State.monOk
  simp (disch := decide) only [↓Frame.prompt, ↓Frame.say, Frame.refl]

theorem Frame.monErr {m : Nat} {s u : State} {x1 : String} (k : 0x810 ||| m = m) : Frame m s (State.monErr u x1) ↔ Frame m s u := by
  refine Frame.thru (m := 0x810) ?_ k
  unfold State.monErr
  simp (disch := decide) only [↓Frame.count, ↓Frame.prompt, ↓Frame.say, Frame.refl]

theorem Frame.baudCmd {m : Nat} {s u : State} {x1 : ℕ} (k : 0x2000000810 ||| m = m) : Frame m s (State.baudCmd u x1) ↔ Frame m s u := by
  refine Frame.thru (m := 0x2000000810) ?_ k
  unfold State.baudCmd
  simp (disch := decide) only [↓Frame.monErr, ↓Frame.monOk, ↓Frame.setHost, ↓Frame.ite, Frame.refl, ite_self]

theorem Frame.baudReverted {m : Nat} {s u : State} (k : 0x20100008d0 ||| m = m) : Frame m s (State.baudReverted u) ↔ Frame m s u := by
  refine Frame.thru (m := 0x20100008d0) ?_ k
  unfold State.baudReverted
  repeat' (first | simp (disch := decide) only [↓Frame.event, ↓Frame.putFld, ↓Frame.putReg, ↓Frame.raise, ↓Frame.setHost, ↓Frame.ite, Frame.refl, ite_self] | split)

theorem Frame.cellHeard {m : Nat} {s u : State} {x1 : ℕ} {x2 : List Byte} (k : 0x10000010 ||| m = m) : Frame m s (State.cellHeard u x1 x2) ↔ Frame m s u := by
  refine Frame.thru (m := 0x10000010) ?_ k
  unfold State.cellHeard
  simp (disch := decide) only [↓Frame.count, ↓Frame.putLink, Frame.refl]

theorem State.onCell_cases (u : State) (n : Nat) (l : List Byte) (types : List Nat) (f : State → State) :
    (∃ w, Frame 0x10000010 u w ∧ Frame 0x10000010 (f w) (u.onCell n l types f)) ∨ Frame 0x10000010 u (u.onCell n l types f) := by
  unfold State.onCell
  repeat' (first | (refine Or.inl ⟨_, ?_, Frame.refl _ (f _)⟩; simp (disch := first | decide | rfl | (intros; (repeat' (first | simp (disch := first | decide | rfl | (intros; (repeat' (first | simp (disch := decide) only [↓Frame.badCell, ↓Frame.cellHeard, ↓Frame.ite, ↓Frame.foldl, ↓Frame.foldlFst, Frame.refl, ite_self, ok, refuse, apply_ite CmdResult.state, apply_ite Prod.fst, apply_ite Prod.snd] | split)); done)) only [↓Frame.badCell, ↓Frame.cellHeard, ↓Frame.ite, ↓Frame.foldl, ↓Frame.foldlFst, Frame.refl, ite_self, ok, refuse, apply_ite CmdResult.state, apply_ite Prod.fst, apply_ite Prod.snd] | split)); done)) only [↓Frame.cellHeard, Frame.refl]; done) | (refine Or.inr ?_; simp (disch := first | decide | rfl | (intros; (repeat' (first | simp (disch := first | decide | rfl | (intros; (repeat' (first | simp (disch := decide) only [↓Frame.badCell, ↓Frame.cellHeard, ↓Frame.ite, ↓Frame.foldl, ↓Frame.foldlFst, Frame.refl, ite_self, ok, refuse, apply_ite CmdResult.state, apply_ite Prod.fst, apply_ite Prod.snd] | split)); done)) only [↓Frame.badCell, ↓Frame.cellHeard, ↓Frame.ite, ↓Frame.foldl, ↓Frame.foldlFst, Frame.refl, ite_self, ok, refuse, apply_ite CmdResult.state, apply_ite Prod.fst, apply_ite Prod.snd] | split)); done)) only [↓Frame.badCell, ↓Frame.ite, Frame.refl]; done) | split)
theorem Frame.onCell {m : Nat} {s u : State} (n : Nat) (l : List Byte) (types : List Nat) (f : State → State) (h : ∀ w, Frame m w (f w)) (k : 0x10000010 ||| m = m) :
    Frame m s (u.onCell n l types f) ↔ Frame m s u := by
  rcases State.onCell_cases u n l types f with ⟨w, a, b⟩ | a
  · exact (((a.mono k).trans (h w)).trans (b.mono k)).thru (Nat.or_self m)
  · exact a.thru k

theorem Frame.sendHello {m : Nat} {s u : State} (k : 0x10010810 ||| m = m) : Frame m s (State.sendHello u) ↔ Frame m s u := by
  refine Frame.thru (m := 0x10010810) ?_ k
  unfold State.sendHello
  simp (disch := decide) only [↓Frame.count, ↓Frame.emit, ↓Frame.setPair, ↓Frame.setSlv, ↓Frame.ite, Frame.refl, ite_self]

theorem Frame.linkIsReady {m : Nat} {s u : State} {x1 x2 : ℕ} (k : 0x100108d0 ||| m = m) : Frame m s (State.linkIsReady u x1 x2) ↔ Frame m s u := by
  refine Frame.thru (m := 0x100108d0) ?_ k
  unfold State.linkIsReady
  simp (disch := decide) only [↓Frame.event, ↓Frame.putLink, ↓Frame.putLinkState, ↓Frame.putReg, ↓Frame.raise, ↓Frame.sendHello, ↓Frame.ite, Frame.refl, ite_self]

theorem Frame.beatCell {m : Nat} {s u : State} {x1 : ℕ} {x2 : List Byte} (k : 0x225807fdd8 ||| m = m) : Frame m s (State.beatCell u x1 x2) ↔ Frame m s u := by
  refine Frame.thru (m := 0x225807fdd8) ?_ k
  unfold State.beatCell
  repeat' (first | simp (disch := first | decide | rfl | (intros; simp (disch := first | decide | rfl | (intros; simp (disch := decide) only [↓Frame.linkDown, ↓Frame.linkIsReady, ↓Frame.onCell, ↓Frame.putFld, ↓Frame.putLink, ↓Frame.ite, ↓Frame.foldl, ↓Frame.foldlFst, Frame.refl, ite_self, ok, refuse, apply_ite CmdResult.state, apply_ite Prod.fst, apply_ite Prod.snd])) only [↓Frame.linkDown, ↓Frame.linkIsReady, ↓Frame.onCell, ↓Frame.putFld, ↓Frame.putLink, ↓Frame.ite, ↓Frame.foldl, ↓Frame.foldlFst, Frame.refl, ite_self, ok, refuse, apply_ite CmdResult.state, apply_ite Prod.fst, apply_ite Prod.snd])) only [↓Frame.onCell, Frame.refl] | split)

theorem Frame.putCell {m : Nat} {s u : State} {x1 : ℕ} {x2 : SlvCell} {x3 : Bool} {x4 : ℕ} (k : 0x10000810 ||| m = m) : Frame m s (State.putCell u x1 x2 x3 x4) ↔ Frame m s u := by
  refine Frame.thru (m := 0x10000810) ?_ k
  unfold State.putCell
  simp (disch := decide) only [↓Frame.count, ↓Frame.emit, ↓Frame.putLink, Frame.refl]

theorem Frame.putPlain {m : Nat} {s u : State} {x1 x2 x3 x4 : ℕ} {x5 : List Byte} (k : 0x10000810 ||| m = m) : Frame m s (State.putPlain u x1 x2 x3 x4 x5) ↔ Frame m s u := by
  refine Frame.thru (m := 0x10000810) ?_ k
  unfold State.putPlain
  simp (disch := decide) only [↓Frame.putCell, Frame.refl]

theorem Frame.putBeat {m : Nat} {s u : State} {x1 : ℕ} (k : 0x10000810 ||| m = m) : Frame m s (State.putBeat u x1) ↔ Frame m s u := by
  refine Frame.thru (m := 0x10000810) ?_ k
  unfold State.putBeat
  simp (disch := decide) only [↓Frame.putLink, ↓Frame.putPlain, Frame.refl]

theorem Frame.beatSend {m : Nat} {s u : State} {x1 : ℕ} (k : 0x10000810 ||| m = m) : Frame m s (State.beatSend u x1) ↔ Frame m s u := by
  refine Frame.thru (m := 0x10000810) ?_ k
  unfold State.beatSend
  simp (disch := decide) only [↓Frame.putBeat, ↓Frame.ite, Frame.refl, ite_self]

theorem Frame.stopAll {m : Nat} {s u : State} (k : 0x10 ||| m = m) : Frame m s (State.stopAll u) ↔ Frame m s u := by
  refine Frame.thru (m := 0x10) ?_ k
  unfold State.stopAll
  repeat' (first | simp (disch := first | decide | rfl | (intros; simp (disch := first | decide | rfl | (intros; simp (disch := decide) only [↓Frame.queueState, ↓Frame.ite, ↓Frame.foldl, ↓Frame.foldlFst, Frame.refl, ite_self, ok, refuse, apply_ite CmdResult.state, apply_ite Prod.fst, apply_ite Prod.snd])) only [↓Frame.queueState, ↓Frame.ite, ↓Frame.foldl, ↓Frame.foldlFst, Frame.refl, ite_self, ok, refuse, apply_ite CmdResult.state, apply_ite Prod.fst, apply_ite Prod.snd])) only [↓Frame.foldl, Frame.refl] | split)

theorem Frame.endPinTest {m : Nat} {s u : State} (k : 0x200004810 ||| m = m) : Frame m s (State.endPinTest u) ↔ Frame m s u := by
  refine Frame.thru (m := 0x200004810) ?_ k
  unfold State.endPinTest
  simp (disch := decide) only [↓Frame.setVote, ↓Frame.updatePins, ↓Frame.ite, Frame.refl, ite_self]

theorem Frame.beginLoad {m : Nat} {s u : State} {x1 : LoadReq} (k : 0x258017dd8 ||| m = m) : Frame m s (State.beginLoad u x1) ↔ Frame m s u := by
  refine Frame.thru (m := 0x258017dd8) ?_ k
  unfold State.beginLoad
  simp (disch := decide) only [↓Frame.dropDraft, ↓Frame.endPinTest, ↓Frame.enterMode, ↓Frame.putFld, ↓Frame.setDraft, ↓Frame.stopAll, Frame.refl]

theorem Frame.beginRecord {m : Nat} {s u : State} {x1 x2 x3 x4 x5 x6 : ℕ} (k : 0x300008d0 ||| m = m) : Frame m s (State.beginRecord u x1 x2 x3 x4 x5 x6) ↔ Frame m s u := by
  refine Frame.thru (m := 0x300008d0) ?_ k
  unfold State.beginRecord
  repeat' (first | simp (disch := decide) only [↓Frame.captSend, ↓Frame.captState, ↓Frame.count, ↓Frame.event, ↓Frame.putCapt, ↓Frame.putPair, ↓Frame.raise, ↓Frame.ite, Frame.refl, ite_self, apply_ite Prod.fst, apply_ite Prod.snd] | split)

theorem Frame.blockItems {m : Nat} {s u : State} {x1 : ℕ} {x2 : HedFrame} {x3 x4 x5 : ℕ} {x6 : List Byte × ℕ × List Byte} (k : 0x1400000 ||| m = m) : Frame m s (State.blockItems u x1 x2 x3 x4 x5 x6) ↔ Frame m s u := by
  refine Frame.thru (m := 0x1400000) ?_ k
  unfold State.blockItems
  simp (disch := decide) only [↓Frame.pushKind, ↓Frame.setReedQ, Frame.refl]

theorem Frame.putTrain {m : Nat} {s u : State} {x1 : ℕ} (k : 0x10000810 ||| m = m) : Frame m s (State.putTrain u x1) ↔ Frame m s u := by
  refine Frame.thru (m := 0x10000810) ?_ k
  unfold State.putTrain
  simp (disch := decide) only [↓Frame.putPlain, Frame.refl]

theorem Frame.blockLock {m : Nat} {s u : State} {x1 : ℕ} (k : 0x10000810 ||| m = m) : Frame m s (State.blockLock u x1) ↔ Frame m s u := by
  refine Frame.thru (m := 0x10000810) ?_ k
  unfold State.blockLock
  simp (disch := decide) only [↓Frame.putLink, ↓Frame.putTrain, ↓Frame.ite, Frame.refl, ite_self]

theorem Frame.draftFails {m : Nat} {s u : State} {x1 : LoadReq} {x2 : LoadFailure} (k : 0x258017dd8 ||| m = m) : Frame m s (State.draftFails u x1 x2) ↔ Frame m s u := by
  refine Frame.thru (m := 0x258017dd8) ?_ k
  unfold State.draftFails
  simp (disch := decide) only [↓Frame.event, ↓Frame.failLoad, ↓Frame.raise, ↓Frame.setDraft, ↓Frame.ite, Frame.refl, ite_self]

theorem Frame.bootLoad {m : Nat} {s u : State} (k : 0x258037dd8 ||| m = m) : Frame m s (State.bootLoad u) ↔ Frame m s u := by
  refine Frame.thru (m := 0x258037dd8) ?_ k
  unfold State.bootLoad
  simp (disch := decide) only [↓Frame.beginLoad, ↓Frame.draftFails, ↓Frame.setPower, ↓Frame.ite, Frame.refl, ite_self]

theorem Frame.bringupRetry {m : Nat} {s u : State} {x1 : ℕ} (k : 0x10000010 ||| m = m) : Frame m s (State.bringupRetry u x1) ↔ Frame m s u := by
  refine Frame.thru (m := 0x10000010) ?_ k
  unfold State.bringupRetry
  simp (disch := decide) only [↓Frame.startLink, ↓Frame.ite, Frame.refl, ite_self]

theorem Frame.writeIrq {m : Nat} {s u : State} {x1 : ℕ} {x2 : Bool} {x3 : ℕ} (k : 0x850 ||| m = m) : Frame m s (State.writeIrq u x1 x2 x3) ↔ Frame m s u := by
  refine Frame.thru (m := 0x850) ?_ k
  unfold State.writeIrq
  simp (disch := decide) only [↓Frame.setIrq, ↓Frame.signal, ↓Frame.ite, Frame.refl, ite_self]

theorem Frame.writeIrqSet {m : Nat} {s u : State} {x1 x2 : ℕ} (k : 0x850 ||| m = m) : Frame m s (State.writeIrqSet u x1 x2) ↔ Frame m s u := by
  refine Frame.thru (m := 0x850) ?_ k
  unfold State.writeIrqSet
  repeat' (first | simp (disch := first | decide | rfl | (intros; simp (disch := first | decide | rfl | (intros; simp (disch := decide) only [↓Frame.raise, ↓Frame.ite, ↓Frame.foldl, ↓Frame.foldlFst, Frame.refl, ite_self, ok, refuse, apply_ite CmdResult.state, apply_ite Prod.fst, apply_ite Prod.snd])) only [↓Frame.raise, ↓Frame.ite, ↓Frame.foldl, ↓Frame.foldlFst, Frame.refl, ite_self, ok, refuse, apply_ite CmdResult.state, apply_ite Prod.fst, apply_ite Prod.snd])) only [↓Frame.foldl, Frame.refl] | split)

theorem Frame.ofFinish {m : Nat} {s : State} (b op : Nat) (r : CmdResult) (k : 0x100008d0 ||| m = m) :
    Frame m s (finish b op r) ↔ Frame m s r.state := by
  have h : Frame 0x100008d0 r.state (finish b op r) := by
    unfold finish
    repeat' (first | simp (disch := first | decide | rfl | (intros; (repeat' (first | simp (disch := first | decide | rfl | (intros; (repeat' (first | simp (disch := decide) only [↓Frame.event, ↓Frame.putReg, ↓Frame.ite, ↓Frame.foldl, ↓Frame.foldlFst, Frame.refl, ite_self, ok, refuse, apply_ite CmdResult.state, apply_ite Prod.fst, apply_ite Prod.snd] | split)); done)) only [↓Frame.event, ↓Frame.putReg, ↓Frame.ite, ↓Frame.foldl, ↓Frame.foldlFst, Frame.refl, ite_self, ok, refuse, apply_ite CmdResult.state, apply_ite Prod.fst, apply_ite Prod.snd] | split)); done)) only [↓Frame.event, ↓Frame.putReg, ↓Frame.ite, Frame.refl, ite_self] | split)
  exact h.thru k

theorem issue_cases (b op : Nat) (path : Path) (body : State → CmdResult) (u : State) :
    Frame 0x100008d0 (body u).state (issue b op path body u) ∨ Frame 0x100008d0 u (issue b op path body u) := by
  unfold issue
  split
  · exact Or.inr (by simp (disch := first | decide | rfl | (intros; (repeat' (first | simp (disch := first | decide | rfl | (intros; (repeat' (first | simp (disch := decide) only [↓Frame.ofFinish, ↓Frame.reject, ↓Frame.ite, ↓Frame.foldl, ↓Frame.foldlFst, Frame.refl, ite_self, ok, refuse, apply_ite CmdResult.state, apply_ite Prod.fst, apply_ite Prod.snd] | split)); done)) only [↓Frame.ofFinish, ↓Frame.reject, ↓Frame.ite, ↓Frame.foldl, ↓Frame.foldlFst, Frame.refl, ite_self, ok, refuse, apply_ite CmdResult.state, apply_ite Prod.fst, apply_ite Prod.snd] | split)); done)) only [↓Frame.reject, Frame.refl])
  · exact Or.inl (by simp (disch := first | decide | rfl | (intros; (repeat' (first | simp (disch := first | decide | rfl | (intros; (repeat' (first | simp (disch := decide) only [↓Frame.ofFinish, ↓Frame.reject, ↓Frame.ite, ↓Frame.foldl, ↓Frame.foldlFst, Frame.refl, ite_self, ok, refuse, apply_ite CmdResult.state, apply_ite Prod.fst, apply_ite Prod.snd] | split)); done)) only [↓Frame.ofFinish, ↓Frame.reject, ↓Frame.ite, ↓Frame.foldl, ↓Frame.foldlFst, Frame.refl, ite_self, ok, refuse, apply_ite CmdResult.state, apply_ite Prod.fst, apply_ite Prod.snd] | split)); done)) only [↓Frame.ofFinish, Frame.refl])
theorem Frame.ofIssue {m : Nat} {s u : State} (b op : Nat) (path : Path) (body : State → CmdResult) (h : ∀ w, Frame m w (body w).state)
    (k : 0x100008d0 ||| m = m) : Frame m s (issue b op path body u) ↔ Frame m s u := by
  rcases issue_cases b op path body u with a | a
  · exact ((h u).trans (a.mono k)).thru (Nat.or_self m)
  · exact a.thru k

theorem Frame.ofRefuse {m : Nat} {s u : State} {x1 : ℕ} (k : 0x0 ||| m = m) : Frame m s (refuse u x1).state ↔ Frame m s u := by
  refine Frame.thru (m := 0x0) ?_ k
  unfold refuse
  simp (disch := decide) only [Frame.refl]

theorem Frame.ofOk {m : Nat} {s u : State} (k : 0x0 ||| m = m) : Frame m s (ok u).state ↔ Frame m s u := by
  refine Frame.thru (m := 0x0) ?_ k
  unfold ok
  simp (disch := decide) only [Frame.refl]

theorem Frame.copyRecord {m : Nat} {s u : State} {x1 : LedRec} (k : 0x100408d0 ||| m = m) : Frame m s (State.copyRecord u x1) ↔ Frame m s u := by
  refine Frame.thru (m := 0x100408d0) ?_ k
  unfold State.copyRecord
  simp (disch := decide) only [↓Frame.commit, ↓Frame.setLedger, ↓Frame.ite, Frame.refl, ite_self]

theorem Frame.reportLoss {m : Nat} {s u : State} {x1 x2 x3 x4 : ℕ} (k : 0x8d0 ||| m = m) : Frame m s (State.reportLoss u x1 x2 x3 x4) ↔ Frame m s u := by
  refine Frame.thru (m := 0x8d0) ?_ k
  unfold State.reportLoss
  repeat' (first | simp (disch := decide) only [↓Frame.raise, ↓Frame.setLedger, Frame.refl] | split)

theorem Frame.unstage {m : Nat} {s u : State} {x1 : ℕ} (k : 0x8d0 ||| m = m) : Frame m s (State.unstage u x1) ↔ Frame m s u := by
  refine Frame.thru (m := 0x8d0) ?_ k
  unfold State.unstage
  repeat' (first | simp (disch := decide) only [↓Frame.reportLoss, ↓Frame.setLedger, ↓Frame.ite, Frame.refl, ite_self] | split)

theorem Frame.eraseBlock {m : Nat} {s u : State} {x1 : ℕ} (k : 0x10000ad0 ||| m = m) : Frame m s (State.eraseBlock u x1) ↔ Frame m s u := by
  refine Frame.thru (m := 0x10000ad0) ?_ k
  unfold State.eraseBlock
  simp (disch := decide) only [↓Frame.event, ↓Frame.raise, ↓Frame.setArchive, ↓Frame.setLedger, ↓Frame.ite, Frame.refl, ite_self]

theorem Frame.openPlace {m : Nat} {s u : State} (k : 0x10000ad0 ||| m = m) : Frame m s (State.openPlace u) ↔ Frame m s u := by
  refine Frame.thru (m := 0x10000ad0) ?_ k
  unfold State.openPlace
  simp (disch := decide) only [↓Frame.eraseBlock, ↓Frame.setLedger, ↓Frame.ite, Frame.refl, ite_self]

theorem Frame.fenceBlock {m : Nat} {s u : State} (k : 0x225807fdd8 ||| m = m) : Frame m s (State.fenceBlock u) ↔ Frame m s u := by
  refine Frame.thru (m := 0x225807fdd8) ?_ k
  unfold State.fenceBlock
  simp (disch := decide) only [↓Frame.event, ↓Frame.lasting, ↓Frame.raise, ↓Frame.setLedger, Frame.refl]

theorem Frame.putRecord {m : Nat} {s u : State} {x1 : LedRec} (k : 0x10000ad0 ||| m = m) : Frame m s (State.putRecord u x1) ↔ Frame m s u := by
  refine Frame.thru (m := 0x10000ad0) ?_ k
  unfold State.putRecord
  simp (disch := decide) only [↓Frame.openPlace, ↓Frame.setArchive, ↓Frame.setLedger, Frame.refl]

theorem Frame.writeRecord {m : Nat} {s u : State} {x1 : LedRec} {x2 : ℕ} (k : 0x225807ffd8 ||| m = m) : Frame m s (State.writeRecord u x1 x2) ↔ Frame m s u := by
  refine Frame.thru (m := 0x225807ffd8) ?_ k
  unfold State.writeRecord
  simp (disch := decide) only [↓Frame.event, ↓Frame.fenceBlock, ↓Frame.openPlace, ↓Frame.putRecord, ↓Frame.setLedger, ↓Frame.transient, ↓Frame.ite, Frame.refl, ite_self]

theorem State.writeAll_frame (u : State) (x1 : ℕ) : Frame 0x225807ffd8 u (State.writeAll x1 u) := by
  induction x1 generalizing u with
  | zero => exact Frame.refl _ _
  | succ n ih =>
    have ih' : ∀ s u , Frame 0x225807ffd8 s (State.writeAll n u) ↔ Frame 0x225807ffd8 s u := fun s u  => (ih u ).thru (Nat.or_self _)
    unfold State.writeAll
    repeat' (first | simp (disch := first | decide | rfl | (intros; (repeat' (first | simp (disch := first | decide | rfl | (intros; (repeat' (first | simp (disch := decide) only [ih', ↓Frame.afterWrite, ↓Frame.copyRecord, ↓Frame.unstage, ↓Frame.writeRecord, ↓Frame.ite, ↓Frame.foldl, ↓Frame.foldlFst, Frame.refl, ite_self, ok, refuse, apply_ite CmdResult.state, apply_ite Prod.fst, apply_ite Prod.snd] | split)); done)) only [ih', ↓Frame.afterWrite, ↓Frame.copyRecord, ↓Frame.unstage, ↓Frame.writeRecord, ↓Frame.ite, ↓Frame.foldl, ↓Frame.foldlFst, Frame.refl, ite_self, ok, refuse, apply_ite CmdResult.state, apply_ite Prod.fst, apply_ite Prod.snd] | split)); done)) only [ih', ↓Frame.afterWrite, ↓Frame.copyRecord, ↓Frame.unstage, ↓Frame.writeRecord, Frame.refl] | split)
theorem Frame.writeAll {m : Nat} {s u : State} {x1 : ℕ} (k : 0x225807ffd8 ||| m = m) : Frame m s (State.writeAll x1 u) ↔ Frame m s u :=
  (State.writeAll_frame u x1).thru k

theorem Frame.writeStaging {m : Nat} {s u : State} (k : 0x225807ffd8 ||| m = m) : Frame m s (State.writeStaging u) ↔ Frame m s u := by
  refine Frame.thru (m := 0x225807ffd8) ?_ k
  unfold State.writeStaging
  simp (disch := decide) only [↓Frame.setLedger, ↓Frame.writeAll, Frame.refl]

theorem Frame.endDrain {m : Nat} {s u : State} (k : 0x100208d0 ||| m = m) : Frame m s (State.endDrain u) ↔ Frame m s u := by
  refine Frame.thru (m := 0x100208d0) ?_ k
  unfold State.endDrain
  split
  · exact Frame.refl _ _
  · rw [Frame.ofFinish _ _ _ (by decide)]
    simp (disch := first | decide | rfl | (intros; (repeat' (first | simp (disch := first | decide | rfl | (intros; (repeat' (first | simp (disch := decide) only [↓Frame.ofFinish, ↓Frame.setPower, ↓Frame.ite, ↓Frame.foldl, ↓Frame.foldlFst, Frame.refl, ite_self, ok, refuse, apply_ite CmdResult.state, apply_ite Prod.fst, apply_ite Prod.snd] | split)); done)) only [↓Frame.ofFinish, ↓Frame.setPower, ↓Frame.ite, ↓Frame.foldl, ↓Frame.foldlFst, Frame.refl, ite_self, ok, refuse, apply_ite CmdResult.state, apply_ite Prod.fst, apply_ite Prod.snd] | split)); done)) only [↓Frame.setPower, Frame.refl]

theorem Frame.captSwitch {m : Nat} {s u : State} {x1 : ℕ → Bool} {x2 : ℕ} (k : 0x20000010 ||| m = m) : Frame m s (State.captSwitch u x1 x2) ↔ Frame m s u := by
  refine Frame.thru (m := 0x20000010) ?_ k
  unfold State.captSwitch
  repeat' (first | simp (disch := first | decide | rfl | (intros; simp (disch := first | decide | rfl | (intros; simp (disch := decide) only [↓Frame.putCapt, ↓Frame.ite, ↓Frame.foldl, ↓Frame.foldlFst, Frame.refl, ite_self, ok, refuse, apply_ite CmdResult.state, apply_ite Prod.fst, apply_ite Prod.snd])) only [↓Frame.putCapt, ↓Frame.ite, ↓Frame.foldl, ↓Frame.foldlFst, Frame.refl, ite_self, ok, refuse, apply_ite CmdResult.state, apply_ite Prod.fst, apply_ite Prod.snd])) only [↓Frame.foldl, Frame.refl] | split)

theorem State.captPut_frame (u : State) (x1 : ℕ) (x2 : List Byte) : Frame 0x20000410 u (State.captPut u x1 x2).1 := by
  unfold State.captPut
  repeat' (first | simp (disch := decide) only [↓Frame.putCapt, ↓Frame.stkStore, Frame.refl] | split)
theorem Frame.captPut {m : Nat} {s u : State} {x1 : ℕ} {x2 : List Byte} (k : 0x20000410 ||| m = m) : Frame m s (State.captPut u x1 x2).1 ↔ Frame m s u :=
  (State.captPut_frame u x1 x2).thru k

theorem Frame.ofCaptPutIn {m : Nat} {s : State} (r : Nat) (b : List Byte) (p : State × Bool) (k : 0x20000410 ||| m = m) :
    Frame m s (captPutIn r b p).1 ↔ Frame m s p.1 := by
  rcases p with ⟨v, _ | _⟩
  · rfl
  · exact (State.captPut_frame v r b).thru k

theorem Frame.takePageAt {m : Nat} {s u : State} {x1 x2 : ℕ} (k : 0x20000410 ||| m = m) : Frame m s (State.takePageAt u x1 x2) ↔ Frame m s u := by
  refine Frame.thru (m := 0x20000410) ?_ k
  unfold State.takePageAt
  simp (disch := decide) only [↓Frame.count, ↓Frame.putCapt, ↓Frame.setStk, Frame.refl]

theorem Frame.takeFound {m : Nat} {s u : State} {x1 : ℕ} {x2 : Option ℕ} (k : 0x20000410 ||| m = m) : Frame m s (State.takeFound u x1 x2).1 ↔ Frame m s u := by
  refine Frame.thru (m := 0x20000410) ?_ k
  unfold State.takeFound
  repeat' (first | simp (disch := decide) only [↓Frame.takePageAt, Frame.refl] | split)

theorem Frame.takePage {m : Nat} {s u : State} {x1 : ℕ} (k : 0x20000410 ||| m = m) : Frame m s (State.takePage u x1).1 ↔ Frame m s u := by
  refine Frame.thru (m := 0x20000410) ?_ k
  unfold State.takePage
  simp (disch := decide) only [↓Frame.takeFound, Frame.refl]

theorem Frame.captEntry {m : Nat} {s u : State} {x1 : ℕ} {x2 : List Byte} (k : 0x20000410 ||| m = m) : Frame m s (State.captEntry u x1 x2).1 ↔ Frame m s u := by
  refine Frame.thru (m := 0x20000410) ?_ k
  unfold State.captEntry
  rw [Frame.ofCaptPutIn _ _ _ (by decide)]
  repeat' (first | simp (disch := first | decide | rfl | (intros; (repeat' (first | simp (disch := first | decide | rfl | (intros; (repeat' (first | simp (disch := decide) only [↓Frame.ofCaptPutIn, ↓Frame.takePage, ↓Frame.ite, ↓Frame.foldl, ↓Frame.foldlFst, Frame.refl, ite_self, ok, refuse, apply_ite CmdResult.state, apply_ite Prod.fst, apply_ite Prod.snd] | split)); done)) only [↓Frame.ofCaptPutIn, ↓Frame.takePage, ↓Frame.ite, ↓Frame.foldl, ↓Frame.foldlFst, Frame.refl, ite_self, ok, refuse, apply_ite CmdResult.state, apply_ite Prod.fst, apply_ite Prod.snd] | split)); done)) only [↓Frame.takePage, ↓Frame.ite, Frame.refl, ite_self, apply_ite Prod.fst] | split)

theorem Frame.overrunGap {m : Nat} {s u : State} {x1 : ℕ} (k : 0x30000cd0 ||| m = m) : Frame m s (State.overrunGap u x1) ↔ Frame m s u := by
  refine Frame.thru (m := 0x30000cd0) ?_ k
  unfold State.overrunGap
  repeat' (first | simp (disch := decide) only [↓Frame.captEntry, ↓Frame.count, ↓Frame.event, ↓Frame.putCapt, ↓Frame.raise, Frame.refl] | split)

theorem Frame.closeRecord {m : Nat} {s u : State} {x1 : ℕ} {x2 : Bool} (k : 0x30000cd0 ||| m = m) : Frame m s (State.closeRecord u x1 x2) ↔ Frame m s u := by
  refine Frame.thru (m := 0x30000cd0) ?_ k
  unfold State.closeRecord
  repeat' (first | simp (disch := decide) only [↓Frame.count, ↓Frame.event, ↓Frame.overrunGap, ↓Frame.putCapt, ↓Frame.putReg, ↓Frame.raise, ↓Frame.stkStore, ↓Frame.ite, Frame.refl, ite_self] | split)

theorem Frame.captAbort {m : Nat} {s u : State} {x1 : ℕ → Bool} (k : 0x30000cd0 ||| m = m) : Frame m s (State.captAbort u x1) ↔ Frame m s u := by
  refine Frame.thru (m := 0x30000cd0) ?_ k
  unfold State.captAbort
  repeat' (first | simp (disch := first | decide | rfl | (intros; simp (disch := first | decide | rfl | (intros; simp (disch := decide) only [↓Frame.closeRecord, ↓Frame.ite, ↓Frame.foldl, ↓Frame.foldlFst, Frame.refl, ite_self, ok, refuse, apply_ite CmdResult.state, apply_ite Prod.fst, apply_ite Prod.snd])) only [↓Frame.closeRecord, ↓Frame.ite, ↓Frame.foldl, ↓Frame.foldlFst, Frame.refl, ite_self, ok, refuse, apply_ite CmdResult.state, apply_ite Prod.fst, apply_ite Prod.snd])) only [↓Frame.foldl, Frame.refl] | split)

theorem Frame.captWarm {m : Nat} {s u : State} (k : 0x30000cd0 ||| m = m) : Frame m s (State.captWarm u) ↔ Frame m s u := by
  refine Frame.thru (m := 0x30000cd0) ?_ k
  unfold State.captWarm
  repeat' (first | simp (disch := first | decide | rfl | (intros; simp (disch := first | decide | rfl | (intros; simp (disch := decide) only [↓Frame.captAbort, ↓Frame.captSwitch, ↓Frame.putCapt, ↓Frame.ite, ↓Frame.foldl, ↓Frame.foldlFst, Frame.refl, ite_self, ok, refuse, apply_ite CmdResult.state, apply_ite Prod.fst, apply_ite Prod.snd])) only [↓Frame.captAbort, ↓Frame.captSwitch, ↓Frame.putCapt, ↓Frame.ite, ↓Frame.foldl, ↓Frame.foldlFst, Frame.refl, ite_self, ok, refuse, apply_ite CmdResult.state, apply_ite Prod.fst, apply_ite Prod.snd])) only [↓Frame.captAbort, ↓Frame.captSwitch, ↓Frame.foldl, Frame.refl] | split)

theorem Frame.endRestores {m : Nat} {s u : State} (k : 0x100088d0 ||| m = m) : Frame m s (State.endRestores u) ↔ Frame m s u := by
  refine Frame.thru (m := 0x100088d0) ?_ k
  unfold State.endRestores
  repeat' (first | simp (disch := first | decide | rfl | (intros; simp (disch := first | decide | rfl | (intros; simp (disch := decide) only [↓Frame.restoreFails, ↓Frame.setFault, ↓Frame.showFenced, ↓Frame.ite, ↓Frame.foldl, ↓Frame.foldlFst, Frame.refl, ite_self, ok, refuse, apply_ite CmdResult.state, apply_ite Prod.fst, apply_ite Prod.snd])) only [↓Frame.restoreFails, ↓Frame.setFault, ↓Frame.showFenced, ↓Frame.ite, ↓Frame.foldl, ↓Frame.foldlFst, Frame.refl, ite_self, ok, refuse, apply_ite CmdResult.state, apply_ite Prod.fst, apply_ite Prod.snd])) only [↓Frame.setFault, ↓Frame.showFenced, ↓Frame.foldl, Frame.refl] | split)

theorem Frame.warmDomains {m : Nat} {s u : State} (k : 0x258017dd8 ||| m = m) : Frame m s (State.warmDomains u) ↔ Frame m s u := by
  refine Frame.thru (m := 0x258017dd8) ?_ k
  unfold State.warmDomains
  repeat' (first | simp (disch := first | decide | rfl | (intros; simp (disch := first | decide | rfl | (intros; simp (disch := decide) only [↓Frame.domainEvent, ↓Frame.setDomain, ↓Frame.ite, ↓Frame.foldl, ↓Frame.foldlFst, Frame.refl, ite_self, ok, refuse, apply_ite CmdResult.state, apply_ite Prod.fst, apply_ite Prod.snd])) only [↓Frame.domainEvent, ↓Frame.setDomain, ↓Frame.ite, ↓Frame.foldl, ↓Frame.foldlFst, Frame.refl, ite_self, ok, refuse, apply_ite CmdResult.state, apply_ite Prod.fst, apply_ite Prod.snd])) only [↓Frame.foldl, Frame.refl] | split)

theorem Frame.resetFields {m : Nat} {s u : State} {x1 : RegField → Bool} (k : 0x10 ||| m = m) : Frame m s (State.resetFields u x1) ↔ Frame m s u := by
  refine Frame.thru (m := 0x10) ?_ k
  unfold State.resetFields
  simp (disch := decide) only [↓Frame.setRegs, Frame.refl]

theorem Frame.warmMode {m : Nat} {s u : State} (k : 0x25803fdd8 ||| m = m) : Frame m s (State.warmMode u) ↔ Frame m s u := by
  refine Frame.thru (m := 0x25803fdd8) ?_ k
  unfold State.warmMode
  simp (disch := decide) only [↓Frame.abortLoad, ↓Frame.enterRecovery, ↓Frame.putFld, ↓Frame.resetFields, ↓Frame.setFault, ↓Frame.setPower, ↓Frame.ite, Frame.refl, ite_self]

theorem Frame.warmBegin {m : Nat} {s u : State} {x1 : ℕ} (k : 0x227807ffd8 ||| m = m) : Frame m s (State.warmBegin u x1) ↔ Frame m s u := by
  refine Frame.thru (m := 0x227807ffd8) ?_ k
  unfold State.warmBegin
  simp (disch := decide) only [↓Frame.captWarm, ↓Frame.count, ↓Frame.endDrain, ↓Frame.endPinTest, ↓Frame.endRestores, ↓Frame.event, ↓Frame.flushAll, ↓Frame.putFld, ↓Frame.setDraft, ↓Frame.setHost, ↓Frame.setLedger, ↓Frame.setPair, ↓Frame.setPower, ↓Frame.updateHolding, ↓Frame.warmDomains, ↓Frame.warmMode, ↓Frame.writeStaging, ↓Frame.ite, Frame.refl, ite_self]

theorem Frame.warmAsk {m : Nat} {s u : State} {x1 : ℕ} (k : 0x227807ffd8 ||| m = m) : Frame m s (State.warmAsk u x1) ↔ Frame m s u := by
  refine Frame.thru (m := 0x227807ffd8) ?_ k
  unfold State.warmAsk
  simp (disch := decide) only [↓Frame.setPower, ↓Frame.warmBegin, ↓Frame.ite, Frame.refl, ite_self]

theorem Frame.ofCmdWarmReset {m : Nat} {s u : State} {x1 : Path} (k : 0x227807ffd8 ||| m = m) : Frame m s (cmdWarmReset x1 u).state ↔ Frame m s u := by
  refine Frame.thru (m := 0x227807ffd8) ?_ k
  unfold cmdWarmReset
  simp (disch := decide) only [↓Frame.warmAsk, ↓Frame.ite, Frame.refl, ite_self, ok, refuse, apply_ite CmdResult.state]

theorem Frame.ofGlobalCommand {m : Nat} {s u : State} {x1 : Path} {x2 : ℕ} (k : 0x227807ffd8 ||| m = m) : Frame m s (globalCommand x1 x2 u).state ↔ Frame m s u := by
  refine Frame.thru (m := 0x227807ffd8) ?_ k
  unfold globalCommand
  repeat' (first | simp (disch := decide) only [↓Frame.ofCmdWarmReset, Frame.refl, refuse] | split)

theorem Frame.ofCmdLoad {m : Nat} {s u : State} {x1 : Path} (k : 0x258017dd8 ||| m = m) : Frame m s (cmdLoad x1 u).state ↔ Frame m s u := by
  refine Frame.thru (m := 0x258017dd8) ?_ k
  unfold cmdLoad
  simp (disch := decide) only [↓Frame.beginLoad, ↓Frame.ite, Frame.refl, ite_self, ok, refuse, apply_ite CmdResult.state]

theorem Frame.ofCmdUnload {m : Nat} {s u : State} (k : 0x258017dd8 ||| m = m) : Frame m s (cmdUnload u).state ↔ Frame m s u := by
  refine Frame.thru (m := 0x258017dd8) ?_ k
  unfold cmdUnload
  simp (disch := decide) only [↓Frame.dropDraft, ↓Frame.endPinTest, ↓Frame.enterMode, ↓Frame.stopAll, ↓Frame.ite, Frame.refl, ite_self, ok, refuse, apply_ite CmdResult.state]

theorem Frame.cmdObject {m : Nat} {s u : State} {x1 : LoadKind} {x2 : Bool} (k : 0x100 ||| m = m) : Frame m s (State.cmdObject u x1 x2).state ↔ Frame m s u := by
  refine Frame.thru (m := 0x100) ?_ k
  unfold State.cmdObject
  simp (disch := decide) only [↓Frame.setDraft, ↓Frame.ite, Frame.refl, ite_self, ok, refuse, apply_ite CmdResult.state]

theorem Frame.ofCmdLoadCard {m : Nat} {s u : State} (k : 0x100 ||| m = m) : Frame m s (cmdLoadCard u).state ↔ Frame m s u := by
  refine Frame.thru (m := 0x100) ?_ k
  unfold cmdLoadCard
  simp (disch := decide) only [↓Frame.cmdObject, Frame.refl]

theorem Frame.showCards {m : Nat} {s u : State} (k : 0x10 ||| m = m) : Frame m s (State.showCards u) ↔ Frame m s u := by
  refine Frame.thru (m := 0x10) ?_ k
  unfold State.showCards
  simp (disch := decide) only [↓Frame.putFld, ↓Frame.putReg, Frame.refl]

theorem Frame.ofCmdDropCard {m : Nat} {s u : State} (k : 0x110 ||| m = m) : Frame m s (cmdDropCard u).state ↔ Frame m s u := by
  refine Frame.thru (m := 0x110) ?_ k
  unfold cmdDropCard
  simp (disch := decide) only [↓Frame.setDraft, ↓Frame.showCards, ↓Frame.ite, Frame.refl, ite_self, ok, refuse, apply_ite CmdResult.state]

theorem Frame.ofCmdPatch {m : Nat} {s u : State} (k : 0x100 ||| m = m) : Frame m s (cmdPatch u).state ↔ Frame m s u := by
  refine Frame.thru (m := 0x100) ?_ k
  unfold cmdPatch
  simp (disch := decide) only [↓Frame.cmdObject, Frame.refl]

theorem Frame.ofCmdCancelPatch {m : Nat} {s u : State} (k : 0x100009d0 ||| m = m) : Frame m s (cmdCancelPatch u).state ↔ Frame m s u := by
  refine Frame.thru (m := 0x100009d0) ?_ k
  unfold cmdCancelPatch
  repeat' (first | simp (disch := decide) only [↓Frame.event, ↓Frame.putFld, ↓Frame.raise, ↓Frame.setDraft, ↓Frame.ite, Frame.refl, ite_self, ok, refuse, apply_ite CmdResult.state] | split)

theorem Frame.putImage {m : Nat} {s u : State} {x1 x2 : ℕ} (k : 0x10 ||| m = m) : Frame m s (State.putImage u x1 x2) ↔ Frame m s u := by
  refine Frame.thru (m := 0x10) ?_ k
  unfold State.putImage
  simp (disch := decide) only [↓Frame.putReg, Frame.refl]

theorem Frame.ofCmdImageWrite {m : Nat} {s u : State} (k : 0x258037dd8 ||| m = m) : Frame m s (cmdImageWrite u).state ↔ Frame m s u := by
  refine Frame.thru (m := 0x258037dd8) ?_ k
  unfold cmdImageWrite
  simp (disch := decide) only [↓Frame.putImage, ↓Frame.setDraft, ↓Frame.wakeArchive, ↓Frame.ite, Frame.refl, ite_self, ok, refuse, apply_ite CmdResult.state]

theorem Frame.ofCmdImageErase {m : Nat} {s u : State} (k : 0x258037fd8 ||| m = m) : Frame m s (cmdImageErase u).state ↔ Frame m s u := by
  refine Frame.thru (m := 0x258037fd8) ?_ k
  unfold cmdImageErase
  repeat' (first | simp (disch := decide) only [↓Frame.putImage, ↓Frame.raise, ↓Frame.setArchive, ↓Frame.setDraft, ↓Frame.wakeArchive, ↓Frame.ite, Frame.refl, ite_self, ok, refuse, apply_ite CmdResult.state] | split)

theorem Frame.ofDraftCommand {m : Nat} {s u : State} {x1 : Path} {x2 : ℕ} (k : 0x258037fd8 ||| m = m) : Frame m s (draftCommand x1 x2 u).state ↔ Frame m s u := by
  refine Frame.thru (m := 0x258037fd8) ?_ k
  unfold draftCommand
  repeat' (first | simp (disch := decide) only [↓Frame.ofCmdCancelPatch, ↓Frame.ofCmdDropCard, ↓Frame.ofCmdImageErase, ↓Frame.ofCmdImageWrite, ↓Frame.ofCmdLoad, ↓Frame.ofCmdLoadCard, ↓Frame.ofCmdPatch, ↓Frame.ofCmdUnload, Frame.refl, refuse] | split)

theorem Frame.putMcast {m : Nat} {s u : State} {x1 : ℕ} {x2 : List ℕ} (k : 0x10 ||| m = m) : Frame m s (State.putMcast u x1 x2) ↔ Frame m s u := by
  refine Frame.thru (m := 0x10) ?_ k
  unfold State.putMcast
  repeat' (first | simp (disch := first | decide | rfl | (intros; simp (disch := first | decide | rfl | (intros; simp (disch := decide) only [↓Frame.putReg, ↓Frame.ite, ↓Frame.foldl, ↓Frame.foldlFst, Frame.refl, ite_self, ok, refuse, apply_ite CmdResult.state, apply_ite Prod.fst, apply_ite Prod.snd])) only [↓Frame.putReg, ↓Frame.ite, ↓Frame.foldl, ↓Frame.foldlFst, Frame.refl, ite_self, ok, refuse, apply_ite CmdResult.state, apply_ite Prod.fst, apply_ite Prod.snd])) only [↓Frame.foldl, Frame.refl] | split)

theorem Frame.mcastPut {m : Nat} {s u : State} {x1 : ℕ} {x2 : List ℕ} (k : 0x100808d0 ||| m = m) : Frame m s (State.mcastPut u x1 x2) ↔ Frame m s u := by
  refine Frame.thru (m := 0x100808d0) ?_ k
  unfold State.mcastPut
  repeat' (first | simp (disch := first | decide | rfl | (intros; simp (disch := first | decide | rfl | (intros; simp (disch := decide) only [↓Frame.event, ↓Frame.putMcast, ↓Frame.raise, ↓Frame.setPort, ↓Frame.ite, ↓Frame.foldl, ↓Frame.foldlFst, Frame.refl, ite_self, ok, refuse, apply_ite CmdResult.state, apply_ite Prod.fst, apply_ite Prod.snd])) only [↓Frame.event, ↓Frame.putMcast, ↓Frame.raise, ↓Frame.setPort, ↓Frame.ite, ↓Frame.foldl, ↓Frame.foldlFst, Frame.refl, ite_self, ok, refuse, apply_ite CmdResult.state, apply_ite Prod.fst, apply_ite Prod.snd])) only [↓Frame.event, ↓Frame.putMcast, ↓Frame.raise, ↓Frame.setPort, Frame.refl] | split)

theorem Frame.ofCmdMcastWrite {m : Nat} {s u : State} (k : 0x100808d0 ||| m = m) : Frame m s (cmdMcastWrite u).state ↔ Frame m s u := by
  refine Frame.thru (m := 0x100808d0) ?_ k
  unfold cmdMcastWrite
  simp (disch := decide) only [↓Frame.mcastPut, ↓Frame.ite, Frame.refl, ite_self, ok, refuse, apply_ite CmdResult.state]

theorem Frame.ofCmdMcastClear {m : Nat} {s u : State} (k : 0x100808d0 ||| m = m) : Frame m s (cmdMcastClear u).state ↔ Frame m s u := by
  refine Frame.thru (m := 0x100808d0) ?_ k
  unfold cmdMcastClear
  simp (disch := decide) only [↓Frame.mcastPut, ↓Frame.ite, Frame.refl, ite_self, ok, refuse, apply_ite CmdResult.state]

theorem Frame.portDown {m : Nat} {s u : State} {x1 x2 : ℕ} {x3 : Bool} (k : 0x100008d0 ||| m = m) : Frame m s (State.portDown u x1 x2 x3) ↔ Frame m s u := by
  refine Frame.thru (m := 0x100008d0) ?_ k
  unfold State.portDown
  simp (disch := decide) only [↓Frame.count, ↓Frame.portLost, ↓Frame.putReg, ↓Frame.ite, Frame.refl, ite_self]

end Sys2Proof.Machine
end

