-- ==== Sys2Proof/Laws/Frame3.lean ====
section
/-!
SUPPORT. Sys2Proof/Laws/Frame3.lean: the parts of the state that each operation may write, part 3 of 7, in the order in which the
operations call each other. One lemma an operation: a frame goes through it.
-/

namespace Sys2Proof.Machine

theorem Frame.ofCmdLinkRestart {m : Nat} {s u : State} (k : 0x100008d0 ||| m = m) : Frame m s (cmdLinkRestart u).state ↔ Frame m s u := by
  refine Frame.thru (m := 0x100008d0) ?_ k
  unfold cmdLinkRestart
  simp (disch := decide) only [↓Frame.portDown, ↓Frame.ite, Frame.refl, ite_self, ok, refuse, apply_ite CmdResult.state]

theorem Frame.ofCmdPrpFlush {m : Nat} {s u : State} (k : 0x80000 ||| m = m) : Frame m s (cmdPrpFlush u).state ↔ Frame m s u := by
  refine Frame.thru (m := 0x80000) ?_ k
  unfold cmdPrpFlush
  simp (disch := decide) only [↓Frame.setPort, ↓Frame.ite, Frame.refl, ite_self, ok, refuse, apply_ite CmdResult.state]

theorem Frame.ofPortCommand {m : Nat} {s u : State} {x1 : ℕ} (k : 0x100808d0 ||| m = m) : Frame m s (portCommand x1 u).state ↔ Frame m s u := by
  refine Frame.thru (m := 0x100808d0) ?_ k
  unfold portCommand
  repeat' (first | simp (disch := decide) only [↓Frame.ofCmdLinkRestart, ↓Frame.ofCmdMcastClear, ↓Frame.ofCmdMcastWrite, ↓Frame.ofCmdPrpFlush, Frame.refl, refuse] | split)

theorem Frame.stepLattices {m : Nat} {s u : State} {x1 : ℕ} (k : 0x8000000 ||| m = m) : Frame m s (State.stepLattices u x1) ↔ Frame m s u := by
  refine Frame.thru (m := 0x8000000) ?_ k
  unfold State.stepLattices
  simp (disch := decide) only [↓Frame.setLoom, Frame.refl]

theorem Frame.pulsePut {m : Nat} {s u : State} {x1 : ℕ} {x2 : PulseSt} (k : 0x2010 ||| m = m) : Frame m s (State.pulsePut u x1 x2) ↔ Frame m s u := by
  refine Frame.thru (m := 0x2010) ?_ k
  unfold State.pulsePut
  simp (disch := decide) only [↓Frame.putFld, ↓Frame.setTime, Frame.refl]

theorem Frame.skipPulses {m : Nat} {s u : State} {x1 : Bool} {x2 : ℕ} (k : 0x100028d0 ||| m = m) : Frame m s (State.skipPulses u x1 x2) ↔ Frame m s u := by
  refine Frame.thru (m := 0x100028d0) ?_ k
  unfold State.skipPulses
  repeat' (first | simp (disch := first | decide | rfl | (intros; simp (disch := first | decide | rfl | (intros; simp (disch := decide) only [↓Frame.count, ↓Frame.drive, ↓Frame.event, ↓Frame.pulsePut, ↓Frame.raise, ↓Frame.ite, ↓Frame.foldl, ↓Frame.foldlFst, Frame.refl, ite_self, ok, refuse, apply_ite CmdResult.state, apply_ite Prod.fst, apply_ite Prod.snd])) only [↓Frame.count, ↓Frame.drive, ↓Frame.event, ↓Frame.pulsePut, ↓Frame.raise, ↓Frame.ite, ↓Frame.foldl, ↓Frame.foldlFst, Frame.refl, ite_self, ok, refuse, apply_ite CmdResult.state, apply_ite Prod.fst, apply_ite Prod.snd])) only [↓Frame.foldl, Frame.refl] | split)

theorem Frame.stepGrid {m : Nat} {s u : State} {x1 : ℕ} (k : 0x180028d8 ||| m = m) : Frame m s (State.stepGrid u x1) ↔ Frame m s u := by
  refine Frame.thru (m := 0x180028d8) ?_ k
  unfold State.stepGrid
  repeat' (first | simp (disch := first | decide | rfl | (intros; simp (disch := first | decide | rfl | (intros; simp (disch := decide) only [↓Frame.event, ↓Frame.setBases, ↓Frame.setTime, ↓Frame.skipPulses, ↓Frame.stepLattices, ↓Frame.ite, ↓Frame.foldl, ↓Frame.foldlFst, Frame.refl, ite_self, ok, refuse, apply_ite CmdResult.state, apply_ite Prod.fst, apply_ite Prod.snd])) only [↓Frame.event, ↓Frame.setBases, ↓Frame.setTime, ↓Frame.skipPulses, ↓Frame.stepLattices, ↓Frame.ite, ↓Frame.foldl, ↓Frame.foldlFst, Frame.refl, ite_self, ok, refuse, apply_ite CmdResult.state, apply_ite Prod.fst, apply_ite Prod.snd])) only [↓Frame.event, ↓Frame.setBases, ↓Frame.setTime, ↓Frame.skipPulses, ↓Frame.stepLattices, ↓Frame.ite, Frame.refl, ite_self] | split)

theorem Frame.ofCmdSetGrid {m : Nat} {s u : State} (k : 0x180028d8 ||| m = m) : Frame m s (cmdSetGrid u).state ↔ Frame m s u := by
  refine Frame.thru (m := 0x180028d8) ?_ k
  unfold cmdSetGrid
  simp (disch := decide) only [↓Frame.setTime, ↓Frame.stepGrid, ↓Frame.ite, Frame.refl, ite_self, ok, refuse, apply_ite CmdResult.state]

theorem Frame.ofCmdSetTest {m : Nat} {s u : State} (k : 0x180028d8 ||| m = m) : Frame m s (cmdSetTest u).state ↔ Frame m s u := by
  refine Frame.thru (m := 0x180028d8) ?_ k
  unfold cmdSetTest
  repeat' (first | simp (disch := first | decide | rfl | (intros; simp (disch := first | decide | rfl | (intros; simp (disch := decide) only [↓Frame.ofOk, ↓Frame.ofRefuse, ↓Frame.setBases, ↓Frame.skipPulses, ↓Frame.stepLattices, ↓Frame.ite, ↓Frame.foldl, ↓Frame.foldlFst, Frame.refl, ite_self, ok, refuse, apply_ite CmdResult.state, apply_ite Prod.fst, apply_ite Prod.snd])) only [↓Frame.ofOk, ↓Frame.ofRefuse, ↓Frame.setBases, ↓Frame.skipPulses, ↓Frame.stepLattices, ↓Frame.ite, ↓Frame.foldl, ↓Frame.foldlFst, Frame.refl, ite_self, ok, refuse, apply_ite CmdResult.state, apply_ite Prod.fst, apply_ite Prod.snd])) only [↓Frame.setBases, ↓Frame.skipPulses, ↓Frame.stepLattices, ↓Frame.ite, Frame.refl, ite_self, ok, refuse, apply_ite CmdResult.state] | split)

theorem Frame.ofCmdPathAccept {m : Nat} {s u : State} (k : 0x2100079d0 ||| m = m) : Frame m s (cmdPathAccept u).state ↔ Frame m s u := by
  refine Frame.thru (m := 0x2100079d0) ?_ k
  unfold cmdPathAccept
  simp (disch := decide) only [↓Frame.event, ↓Frame.putReg, ↓Frame.setServo, ↓Frame.setTime, ↓Frame.ite, Frame.refl, ite_self, ok, refuse, apply_ite CmdResult.state]

theorem Frame.ofCmdClearAsym {m : Nat} {s u : State} (k : 0x10 ||| m = m) : Frame m s (cmdClearAsym u).state ↔ Frame m s u := by
  refine Frame.thru (m := 0x10) ?_ k
  unfold cmdClearAsym
  simp (disch := decide) only [↓Frame.putReg, ↓Frame.ite, Frame.refl, ite_self, ok, refuse, apply_ite CmdResult.state]

theorem Frame.ofCmdSetUtc {m : Nat} {s u : State} (k : 0x100028d0 ||| m = m) : Frame m s (cmdSetUtc u).state ↔ Frame m s u := by
  refine Frame.thru (m := 0x100028d0) ?_ k
  unfold cmdSetUtc
  simp (disch := decide) only [↓Frame.announceLeap, ↓Frame.putFld, ↓Frame.setTime, ↓Frame.ite, Frame.refl, ite_self, ok, refuse, apply_ite CmdResult.state]

theorem Frame.ofCmdPulseArm {m : Nat} {s u : State} (k : 0x2010 ||| m = m) : Frame m s (cmdPulseArm u).state ↔ Frame m s u := by
  refine Frame.thru (m := 0x2010) ?_ k
  unfold cmdPulseArm
  simp (disch := decide) only [↓Frame.pulsePut, ↓Frame.ite, Frame.refl, ite_self, ok, refuse, apply_ite CmdResult.state]

theorem Frame.ofCmdPulseDisarm {m : Nat} {s u : State} (k : 0x2810 ||| m = m) : Frame m s (cmdPulseDisarm u).state ↔ Frame m s u := by
  refine Frame.thru (m := 0x2810) ?_ k
  unfold cmdPulseDisarm
  simp (disch := decide) only [↓Frame.drive, ↓Frame.putFld, ↓Frame.setTime, ↓Frame.ite, Frame.refl, ite_self, ok, refuse, apply_ite CmdResult.state]

theorem Frame.ofTimeCommand {m : Nat} {s u : State} {x1 : ℕ} (k : 0x2180079d8 ||| m = m) : Frame m s (timeCommand x1 u).state ↔ Frame m s u := by
  refine Frame.thru (m := 0x2180079d8) ?_ k
  unfold timeCommand
  repeat' (first | simp (disch := decide) only [↓Frame.ofCmdClearAsym, ↓Frame.ofCmdPathAccept, ↓Frame.ofCmdPulseArm, ↓Frame.ofCmdPulseDisarm, ↓Frame.ofCmdSetGrid, ↓Frame.ofCmdSetTest, ↓Frame.ofCmdSetUtc, Frame.refl, refuse] | split)

theorem Frame.ofCmdStreamState {m : Nat} {s u : State} (k : 0x0 ||| m = m) : Frame m s (cmdStreamState u).state ↔ Frame m s u := by
  refine Frame.thru (m := 0x0) ?_ k
  unfold cmdStreamState
  simp (disch := decide) only [Frame.refl, ite_self, ok, refuse, apply_ite CmdResult.state]

theorem Frame.putStream {m : Nat} {s u : State} {x1 : ℕ} {x2 : StreamSt} (k : 0x200000 ||| m = m) : Frame m s (State.putStream u x1 x2) ↔ Frame m s u := by
  refine Frame.thru (m := 0x200000) ?_ k
  unfold State.putStream
  simp (disch := decide) only [↓Frame.setHeddle, Frame.refl]

theorem Frame.transmit {m : Nat} {s u : State} {x1 : ℕ} {x2 : List Byte} (k : 0x810 ||| m = m) : Frame m s (State.transmit u x1 x2) ↔ Frame m s u := by
  refine Frame.thru (m := 0x810) ?_ k
  unfold State.transmit
  simp (disch := decide) only [↓Frame.count, ↓Frame.emit, ↓Frame.putPair, ↓Frame.ite, Frame.refl, ite_self]

theorem Frame.transmitPrp {m : Nat} {s u : State} {x1 : ℕ} {x2 : List Byte} (k : 0x80810 ||| m = m) : Frame m s (State.transmitPrp u x1 x2) ↔ Frame m s u := by
  refine Frame.thru (m := 0x80810) ?_ k
  unfold State.transmitPrp
  simp (disch := decide) only [↓Frame.setPort, ↓Frame.transmit, Frame.refl]

theorem Frame.send {m : Nat} {s u : State} {x1 : ℕ} {x2 : Bool} {x3 : List Byte} (k : 0x80810 ||| m = m) : Frame m s (State.send u x1 x2 x3) ↔ Frame m s u := by
  refine Frame.thru (m := 0x80810) ?_ k
  unfold State.send
  simp (disch := decide) only [↓Frame.transmit, ↓Frame.transmitPrp, ↓Frame.ite, Frame.refl, ite_self]

theorem Frame.sendUdp {m : Nat} {s u : State} {x1 : ℕ} {x2 x3 : Bool} {x4 : Dest} {x5 : List Byte} {x6 : ℕ} (k : 0x80810 ||| m = m) : Frame m s (State.sendUdp u x1 x2 x3 x4 x5 x6) ↔ Frame m s u := by
  refine Frame.thru (m := 0x80810) ?_ k
  unfold State.sendUdp
  repeat' (first | simp (disch := first | decide | rfl | (intros; simp (disch := first | decide | rfl | (intros; simp (disch := decide) only [↓Frame.send, ↓Frame.ite, ↓Frame.foldl, ↓Frame.foldlFst, Frame.refl, ite_self, ok, refuse, apply_ite CmdResult.state, apply_ite Prod.fst, apply_ite Prod.snd])) only [↓Frame.send, ↓Frame.ite, ↓Frame.foldl, ↓Frame.foldlFst, Frame.refl, ite_self, ok, refuse, apply_ite CmdResult.state, apply_ite Prod.fst, apply_ite Prod.snd])) only [↓Frame.foldl, Frame.refl] | split)

theorem State.sendCommand_frame (u : State) (sid cmd : Nat) : ∀ v, u.sendCommand sid cmd = some v → Frame 0x102c18d0 u v := by
  intro v e
  unfold State.sendCommand at e
  dsimp only at e
  repeat' (first | (cases e; done) | (injection e with e; subst e; simp (disch := first | decide | rfl | (intros; (repeat' (first | simp (disch := first | decide | rfl | (intros; (repeat' (first | simp (disch := decide) only [↓Frame.commit, ↓Frame.draw, ↓Frame.event, ↓Frame.putStream, ↓Frame.sendUdp, ↓Frame.ite, ↓Frame.foldl, ↓Frame.foldlFst, Frame.refl, ite_self, ok, refuse, apply_ite CmdResult.state, apply_ite Prod.fst, apply_ite Prod.snd] | split)); done)) only [↓Frame.commit, ↓Frame.draw, ↓Frame.event, ↓Frame.putStream, ↓Frame.sendUdp, ↓Frame.ite, ↓Frame.foldl, ↓Frame.foldlFst, Frame.refl, ite_self, ok, refuse, apply_ite CmdResult.state, apply_ite Prod.fst, apply_ite Prod.snd] | split)); done)) only [↓Frame.commit, ↓Frame.draw, ↓Frame.event, ↓Frame.putStream, ↓Frame.sendUdp, Frame.refl]; done) | split at e)

theorem Frame.requestCommand {m : Nat} {s u : State} {x1 x2 : ℕ} (k : 0x102c18d0 ||| m = m) : Frame m s (State.requestCommand u x1 x2) ↔ Frame m s u := by
  refine Frame.thru (m := 0x102c18d0) ?_ k
  exact Frame.getD (State.sendCommand_frame u x1 x2)

theorem Frame.enterWaiting {m : Nat} {s u : State} {x1 : ℕ} (k : 0x102c18d0 ||| m = m) : Frame m s (State.enterWaiting u x1) ↔ Frame m s u := by
  refine Frame.thru (m := 0x102c18d0) ?_ k
  unfold State.enterWaiting
  simp (disch := decide) only [↓Frame.putStream, ↓Frame.requestCommand, ↓Frame.ite, Frame.refl, ite_self]

theorem Frame.switchDone {m : Nat} {s u : State} (k : 0x950 ||| m = m) : Frame m s (State.switchDone u) ↔ Frame m s u := by
  refine Frame.thru (m := 0x950) ?_ k
  unfold State.switchDone
  simp (disch := decide) only [↓Frame.raise, ↓Frame.setDraft, ↓Frame.ite, Frame.refl, ite_self]

theorem Frame.putLat {m : Nat} {s u : State} {x1 : ℕ} {x2 : LatSt} (k : 0x8000000 ||| m = m) : Frame m s (State.putLat u x1 x2) ↔ Frame m s u := by
  refine Frame.thru (m := 0x8000000) ?_ k
  unfold State.putLat
  simp (disch := decide) only [↓Frame.setLoom, Frame.refl]

theorem Frame.pruneSlots {m : Nat} {s u : State} {x1 : ℕ} (k : 0x8000000 ||| m = m) : Frame m s (State.pruneSlots u x1) ↔ Frame m s u := by
  refine Frame.thru (m := 0x8000000) ?_ k
  unfold State.pruneSlots
  simp (disch := decide) only [↓Frame.putLat, Frame.refl]

theorem Frame.modSlot {m : Nat} {s u : State} {x1 x2 : ℕ} {x3 : SlotSt → SlotSt} (k : 0x8000000 ||| m = m) : Frame m s (State.modSlot u x1 x2 x3) ↔ Frame m s u := by
  refine Frame.thru (m := 0x8000000) ?_ k
  unfold State.modSlot
  simp (disch := decide) only [↓Frame.putLat, Frame.refl]

theorem Frame.toRx {m : Nat} {s u : State} {x1 : List Byte} (k : 0x100408d0 ||| m = m) : Frame m s (State.toRx u x1).1 ↔ Frame m s u := by
  refine Frame.thru (m := 0x100408d0) ?_ k
  unfold State.toRx
  simp (disch := decide) only [↓Frame.burst, ↓Frame.commit, ↓Frame.count, ↓Frame.endBurst, ↓Frame.raise, ↓Frame.ite, Frame.refl, ite_self, apply_ite Prod.fst]

theorem Frame.deliverOwn {m : Nat} {s u : State} {x1 x2 : ℕ} {x3 : List SlvCell} (k : 0x100408d0 ||| m = m) : Frame m s (State.deliverOwn u x1 x2 x3) ↔ Frame m s u := by
  refine Frame.thru (m := 0x100408d0) ?_ k
  unfold State.deliverOwn
  repeat' (first | simp (disch := first | decide | rfl | (intros; simp (disch := first | decide | rfl | (intros; simp (disch := decide) only [↓Frame.count, ↓Frame.toRx, ↓Frame.ite, ↓Frame.foldl, ↓Frame.foldlFst, Frame.refl, ite_self, ok, refuse, apply_ite CmdResult.state, apply_ite Prod.fst, apply_ite Prod.snd])) only [↓Frame.count, ↓Frame.toRx, ↓Frame.ite, ↓Frame.foldl, ↓Frame.foldlFst, Frame.refl, ite_self, ok, refuse, apply_ite CmdResult.state, apply_ite Prod.fst, apply_ite Prod.snd])) only [↓Frame.count, ↓Frame.toRx, ↓Frame.ite, ↓Frame.foldl, Frame.refl, ite_self] | split)

theorem Frame.skipOwn {m : Nat} {s u : State} {x1 : ℕ} (k : 0x100008d0 ||| m = m) : Frame m s (State.skipOwn u x1) ↔ Frame m s u := by
  refine Frame.thru (m := 0x100008d0) ?_ k
  unfold State.skipOwn
  repeat' (first | simp (disch := decide) only [↓Frame.count, ↓Frame.event, ↓Frame.putLink, ↓Frame.raise, Frame.refl] | split)

theorem Frame.forwardOne {m : Nat} {s u : State} {x1 x2 : ℕ} (k : 0x100408d0 ||| m = m) : Frame m s (State.forwardOne u x1 x2) ↔ Frame m s u := by
  refine Frame.thru (m := 0x100408d0) ?_ k
  unfold State.forwardOne
  repeat' (first | simp (disch := first | decide | rfl | (intros; simp (disch := first | decide | rfl | (intros; simp (disch := decide) only [↓Frame.count, ↓Frame.deliverOwn, ↓Frame.event, ↓Frame.putLink, ↓Frame.raise, ↓Frame.skipOwn, ↓Frame.ite, ↓Frame.foldl, ↓Frame.foldlFst, Frame.refl, ite_self, ok, refuse, apply_ite CmdResult.state, apply_ite Prod.fst, apply_ite Prod.snd])) only [↓Frame.count, ↓Frame.deliverOwn, ↓Frame.event, ↓Frame.putLink, ↓Frame.raise, ↓Frame.skipOwn, ↓Frame.ite, ↓Frame.foldl, ↓Frame.foldlFst, Frame.refl, ite_self, ok, refuse, apply_ite CmdResult.state, apply_ite Prod.fst, apply_ite Prod.snd])) only [↓Frame.count, ↓Frame.deliverOwn, ↓Frame.event, ↓Frame.raise, ↓Frame.ite, ↓Frame.foldl, Frame.refl, ite_self] | split)

theorem Frame.forwardSlot {m : Nat} {s u : State} {x1 x2 : ℕ} (k : 0x100408d0 ||| m = m) : Frame m s (State.forwardSlot u x1 x2) ↔ Frame m s u := by
  refine Frame.thru (m := 0x100408d0) ?_ k
  unfold State.forwardSlot
  repeat' (first | simp (disch := decide) only [↓Frame.forwardOne, ↓Frame.setSlv, ↓Frame.ite, Frame.refl] | split)

theorem Frame.gapsBefore {m : Nat} {s u : State} {x1 x2 x3 : ℕ} (k : 0x30000cd0 ||| m = m) : Frame m s (State.gapsBefore u x1 x2 x3) ↔ Frame m s u := by
  refine Frame.thru (m := 0x30000cd0) ?_ k
  unfold State.gapsBefore
  repeat' (first | simp (disch := decide) only [↓Frame.captEntry, ↓Frame.overrunGap, ↓Frame.ite, Frame.refl, ite_self] | split)

theorem Frame.captClosing {m : Nat} {s u : State} {x1 x2 : ℕ} {x3 : CaptOpen} (k : 0x30000cd0 ||| m = m) : Frame m s (State.captClosing u x1 x2 x3) ↔ Frame m s u := by
  refine Frame.thru (m := 0x30000cd0) ?_ k
  unfold State.captClosing
  simp (disch := decide) only [↓Frame.captState, ↓Frame.gapsBefore, Frame.refl]

theorem Frame.flushRuns {m : Nat} {s u : State} {x1 : ℕ} (k : 0x20000410 ||| m = m) : Frame m s (State.flushRuns u x1) ↔ Frame m s u := by
  refine Frame.thru (m := 0x20000410) ?_ k
  unfold State.flushRuns
  repeat' (first | simp (disch := first | decide | rfl | (intros; simp (disch := first | decide | rfl | (intros; simp (disch := decide) only [↓Frame.captEntry, ↓Frame.putCapt, ↓Frame.ite, ↓Frame.foldl, ↓Frame.foldlFst, Frame.refl, ite_self, ok, refuse, apply_ite CmdResult.state, apply_ite Prod.fst, apply_ite Prod.snd])) only [↓Frame.captEntry, ↓Frame.putCapt, ↓Frame.ite, ↓Frame.foldl, ↓Frame.foldlFst, Frame.refl, ite_self, ok, refuse, apply_ite CmdResult.state, apply_ite Prod.fst, apply_ite Prod.snd])) only [↓Frame.putCapt, ↓Frame.foldl, Frame.refl] | split)

theorem Frame.captSlot {m : Nat} {s u : State} {x1 x2 x3 : ℕ} (k : 0x30000cd0 ||| m = m) : Frame m s (State.captSlot u x1 x2 x3) ↔ Frame m s u := by
  refine Frame.thru (m := 0x30000cd0) ?_ k
  unfold State.captSlot
  repeat' (first | simp (disch := first | decide | rfl | (intros; simp (disch := first | decide | rfl | (intros; simp (disch := decide) only [↓Frame.captClosing, ↓Frame.captEntry, ↓Frame.flushRuns, ↓Frame.gapsBefore, ↓Frame.putCapt, ↓Frame.ite, ↓Frame.foldl, ↓Frame.foldlFst, Frame.refl, ite_self, ok, refuse, apply_ite CmdResult.state, apply_ite Prod.fst, apply_ite Prod.snd])) only [↓Frame.captClosing, ↓Frame.captEntry, ↓Frame.flushRuns, ↓Frame.gapsBefore, ↓Frame.putCapt, ↓Frame.ite, ↓Frame.foldl, ↓Frame.foldlFst, Frame.refl, ite_self, ok, refuse, apply_ite CmdResult.state, apply_ite Prod.fst, apply_ite Prod.snd])) only [↓Frame.captClosing, ↓Frame.captEntry, ↓Frame.flushRuns, ↓Frame.gapsBefore, ↓Frame.putCapt, ↓Frame.ite, ↓Frame.foldl, Frame.refl, ite_self] | split)

theorem Frame.captRelease {m : Nat} {s u : State} {x1 x2 : ℕ} (k : 0x31000cd0 ||| m = m) : Frame m s (State.captRelease u x1 x2) ↔ Frame m s u := by
  refine Frame.thru (m := 0x31000cd0) ?_ k
  unfold State.captRelease
  repeat' (first | simp (disch := first | decide | rfl | (intros; simp (disch := first | decide | rfl | (intros; simp (disch := decide) only [↓Frame.captSlot, ↓Frame.pushInput, ↓Frame.ite, ↓Frame.foldl, ↓Frame.foldlFst, Frame.refl, ite_self, ok, refuse, apply_ite CmdResult.state, apply_ite Prod.fst, apply_ite Prod.snd])) only [↓Frame.captSlot, ↓Frame.pushInput, ↓Frame.ite, ↓Frame.foldl, ↓Frame.foldlFst, Frame.refl, ite_self, ok, refuse, apply_ite CmdResult.state, apply_ite Prod.fst, apply_ite Prod.snd])) only [↓Frame.ite, ↓Frame.foldl, Frame.refl, ite_self] | split)

theorem Frame.deliverSlot {m : Nat} {s u : State} {x1 x2 : ℕ} (k : 0x39040cd0 ||| m = m) : Frame m s (State.deliverSlot u x1 x2) ↔ Frame m s u := by
  refine Frame.thru (m := 0x39040cd0) ?_ k
  unfold State.deliverSlot
  simp (disch := decide) only [↓Frame.captRelease, ↓Frame.forwardSlot, ↓Frame.modSlot, Frame.refl]

theorem Frame.deliverLattice {m : Nat} {s u : State} {x1 : ℕ} (k : 0x39040cd0 ||| m = m) : Frame m s (State.deliverLattice u x1) ↔ Frame m s u := by
  refine Frame.thru (m := 0x39040cd0) ?_ k
  unfold State.deliverLattice
  repeat' (first | simp (disch := first | decide | rfl | (intros; simp (disch := first | decide | rfl | (intros; simp (disch := decide) only [↓Frame.deliverSlot, ↓Frame.pruneSlots, ↓Frame.ite, ↓Frame.foldl, ↓Frame.foldlFst, Frame.refl, ite_self, ok, refuse, apply_ite CmdResult.state, apply_ite Prod.fst, apply_ite Prod.snd])) only [↓Frame.deliverSlot, ↓Frame.pruneSlots, ↓Frame.ite, ↓Frame.foldl, ↓Frame.foldlFst, Frame.refl, ite_self, ok, refuse, apply_ite CmdResult.state, apply_ite Prod.fst, apply_ite Prod.snd])) only [↓Frame.pruneSlots, ↓Frame.foldl, Frame.refl] | split)

theorem Frame.stkPut {m : Nat} {s u : State} {x1 : ℕ × ℕ} {x2 x3 : ℕ} (k : 0x400 ||| m = m) : Frame m s (State.stkPut u x1 x2 x3) ↔ Frame m s u := by
  refine Frame.thru (m := 0x400) ?_ k
  unfold State.stkPut
  simp (disch := decide) only [↓Frame.stkStore, Frame.refl]

theorem Frame.storeAt {m : Nat} {s u : State} {x1 : ℕ} {x2 : SlotSt} {x3 x4 x5 : ℕ} (k : 0x400 ||| m = m) : Frame m s (State.storeAt u x1 x2 x3 x4 x5) ↔ Frame m s u := by
  refine Frame.thru (m := 0x400) ?_ k
  unfold State.storeAt
  simp (disch := decide) only [↓Frame.stkPut, ↓Frame.ite, Frame.refl, ite_self]

theorem Frame.storeValue {m : Nat} {s u : State} {x1 : ℕ} {x2 : SlotSt} {x3 x4 x5 : ℕ} (k : 0x400 ||| m = m) : Frame m s (State.storeValue u x1 x2 x3 x4 x5) ↔ Frame m s u := by
  refine Frame.thru (m := 0x400) ?_ k
  unfold State.storeValue
  repeat' (first | simp (disch := decide) only [↓Frame.storeAt, Frame.refl] | split)

theorem Frame.settle {m : Nat} {s u : State} {x1 x2 : ℕ} {x3 : List Byte} {x4 : ℕ × List Byte} (k : 0x8000400 ||| m = m) : Frame m s (State.settle u x1 x2 x3 x4) ↔ Frame m s u := by
  refine Frame.thru (m := 0x8000400) ?_ k
  unfold State.settle
  repeat' (first | simp (disch := decide) only [↓Frame.modSlot, ↓Frame.setLoom, ↓Frame.storeValue, ↓Frame.ite, Frame.refl, ite_self] | split)

theorem Frame.settleComing {m : Nat} {s u : State} {x1 x2 x3 : ℕ} (k : 0x8000400 ||| m = m) : Frame m s (State.settleComing u x1 x2 x3) ↔ Frame m s u := by
  refine Frame.thru (m := 0x8000400) ?_ k
  unfold State.settleComing
  repeat' (first | simp (disch := decide) only [↓Frame.modSlot, ↓Frame.storeAt, Frame.refl] | split)

theorem Frame.closeSet {m : Nat} {s u : State} {x1 x2 x3 : ℕ} {x4 : List Byte} {x5 : ℕ} (k : 0x8000410 ||| m = m) : Frame m s (State.closeSet u x1 x2 x3 x4 x5) ↔ Frame m s u := by
  refine Frame.thru (m := 0x8000410) ?_ k
  unfold State.closeSet
  repeat' (first | simp (disch := first | decide | rfl | (intros; simp (disch := first | decide | rfl | (intros; simp (disch := decide) only [↓Frame.count, ↓Frame.modSlot, ↓Frame.putReg, ↓Frame.settle, ↓Frame.settleComing, ↓Frame.ite, ↓Frame.foldl, ↓Frame.foldlFst, Frame.refl, ite_self, ok, refuse, apply_ite CmdResult.state, apply_ite Prod.fst, apply_ite Prod.snd])) only [↓Frame.count, ↓Frame.modSlot, ↓Frame.putReg, ↓Frame.settle, ↓Frame.settleComing, ↓Frame.ite, ↓Frame.foldl, ↓Frame.foldlFst, Frame.refl, ite_self, ok, refuse, apply_ite CmdResult.state, apply_ite Prod.fst, apply_ite Prod.snd])) only [↓Frame.count, ↓Frame.modSlot, ↓Frame.putReg, ↓Frame.foldl, Frame.refl] | split)

theorem Frame.writeHeader {m : Nat} {s u : State} {x1 x2 : ℕ} (k : 0x400 ||| m = m) : Frame m s (State.writeHeader u x1 x2) ↔ Frame m s u := by
  refine Frame.thru (m := 0x400) ?_ k
  unfold State.writeHeader
  repeat' (first | simp (disch := decide) only [↓Frame.stkStore, Frame.refl] | split)

theorem Frame.recordForced {m : Nat} {s u : State} {x1 x2 : ℕ} (k : 0x100008d0 ||| m = m) : Frame m s (State.recordForced u x1 x2) ↔ Frame m s u := by
  refine Frame.thru (m := 0x100008d0) ?_ k
  unfold State.recordForced
  simp (disch := decide) only [↓Frame.count, ↓Frame.event, ↓Frame.raise, Frame.refl]

theorem Frame.forceSlot {m : Nat} {s u : State} {x1 x2 : ℕ} (k : 0x18000cd0 ||| m = m) : Frame m s (State.forceSlot u x1 x2) ↔ Frame m s u := by
  refine Frame.thru (m := 0x18000cd0) ?_ k
  unfold State.forceSlot
  repeat' (first | simp (disch := first | decide | rfl | (intros; simp (disch := first | decide | rfl | (intros; simp (disch := decide) only [↓Frame.closeSet, ↓Frame.modSlot, ↓Frame.recordForced, ↓Frame.writeHeader, ↓Frame.ite, ↓Frame.foldl, ↓Frame.foldlFst, Frame.refl, ite_self, ok, refuse, apply_ite CmdResult.state, apply_ite Prod.fst, apply_ite Prod.snd])) only [↓Frame.closeSet, ↓Frame.modSlot, ↓Frame.recordForced, ↓Frame.writeHeader, ↓Frame.ite, ↓Frame.foldl, ↓Frame.foldlFst, Frame.refl, ite_self, ok, refuse, apply_ite CmdResult.state, apply_ite Prod.fst, apply_ite Prod.snd])) only [↓Frame.modSlot, ↓Frame.recordForced, ↓Frame.writeHeader, ↓Frame.ite, ↓Frame.foldl, Frame.refl, ite_self] | split)

theorem Frame.skipSlots {m : Nat} {s u : State} {x1 x2 : ℕ} {x3 : Bool} (k : 0x18000cd0 ||| m = m) : Frame m s (State.skipSlots u x1 x2 x3) ↔ Frame m s u := by
  refine Frame.thru (m := 0x18000cd0) ?_ k
  unfold State.skipSlots
  repeat' (first | simp (disch := first | decide | rfl | (intros; simp (disch := first | decide | rfl | (intros; simp (disch := decide) only [↓Frame.count, ↓Frame.event, ↓Frame.forceSlot, ↓Frame.putLat, ↓Frame.raise, ↓Frame.ite, ↓Frame.foldl, ↓Frame.foldlFst, Frame.refl, ite_self, ok, refuse, apply_ite CmdResult.state, apply_ite Prod.fst, apply_ite Prod.snd])) only [↓Frame.count, ↓Frame.event, ↓Frame.forceSlot, ↓Frame.putLat, ↓Frame.raise, ↓Frame.ite, ↓Frame.foldl, ↓Frame.foldlFst, Frame.refl, ite_self, ok, refuse, apply_ite CmdResult.state, apply_ite Prod.fst, apply_ite Prod.snd])) only [↓Frame.count, ↓Frame.event, ↓Frame.putLat, ↓Frame.raise, ↓Frame.ite, ↓Frame.foldl, Frame.refl, ite_self] | split)

theorem Frame.takeStep {m : Nat} {s u : State} {x1 : ℕ} (k : 0x18000cd0 ||| m = m) : Frame m s (State.takeStep u x1) ↔ Frame m s u := by
  refine Frame.thru (m := 0x18000cd0) ?_ k
  unfold State.takeStep
  repeat' (first | simp (disch := decide) only [↓Frame.putLat, ↓Frame.skipSlots, ↓Frame.ite, Frame.refl] | split)

theorem Frame.showLattice {m : Nat} {s u : State} {x1 : ℕ} (k : 0x10 ||| m = m) : Frame m s (State.showLattice u x1) ↔ Frame m s u := by
  refine Frame.thru (m := 0x10) ?_ k
  unfold State.showLattice
  simp (disch := decide) only [↓Frame.putReg, Frame.refl]

theorem Frame.trySet {m : Nat} {s u : State} {x1 x2 : ℕ} {x3 : ℕ × List Byte} (k : 0x8000410 ||| m = m) : Frame m s (State.trySet u x1 x2 x3) ↔ Frame m s u := by
  refine Frame.thru (m := 0x8000410) ?_ k
  unfold State.trySet
  repeat' (first | simp (disch := decide) only [↓Frame.closeSet, ↓Frame.ite, Frame.refl, ite_self] | split)

theorem Frame.closeSlot {m : Nat} {s u : State} {x1 x2 : ℕ} (k : 0x18000cd0 ||| m = m) : Frame m s (State.closeSlot u x1 x2) ↔ Frame m s u := by
  refine Frame.thru (m := 0x18000cd0) ?_ k
  unfold State.closeSlot
  repeat' (first | simp (disch := first | decide | rfl | (intros; simp (disch := first | decide | rfl | (intros; simp (disch := decide) only [↓Frame.modSlot, ↓Frame.putPair, ↓Frame.putReg, ↓Frame.recordForced, ↓Frame.setLoom, ↓Frame.stkPut, ↓Frame.storeValue, ↓Frame.writeHeader, ↓Frame.ite, ↓Frame.foldl, ↓Frame.foldlFst, Frame.refl, ite_self, ok, refuse, apply_ite CmdResult.state, apply_ite Prod.fst, apply_ite Prod.snd])) only [↓Frame.modSlot, ↓Frame.putPair, ↓Frame.putReg, ↓Frame.recordForced, ↓Frame.setLoom, ↓Frame.stkPut, ↓Frame.storeValue, ↓Frame.writeHeader, ↓Frame.ite, ↓Frame.foldl, ↓Frame.foldlFst, Frame.refl, ite_self, ok, refuse, apply_ite CmdResult.state, apply_ite Prod.fst, apply_ite Prod.snd])) only [↓Frame.modSlot, ↓Frame.putPair, ↓Frame.putReg, ↓Frame.recordForced, ↓Frame.setLoom, ↓Frame.writeHeader, ↓Frame.ite, ↓Frame.foldl, Frame.refl, ite_self] | split)

theorem Frame.releaseSlot {m : Nat} {s u : State} {x1 x2 : ℕ} (k : 0x8000410 ||| m = m) : Frame m s (State.releaseSlot u x1 x2) ↔ Frame m s u := by
  refine Frame.thru (m := 0x8000410) ?_ k
  unfold State.releaseSlot
  simp (disch := decide) only [↓Frame.modSlot, ↓Frame.putPair, ↓Frame.writeHeader, Frame.refl]

theorem Frame.trySlotClose {m : Nat} {s u : State} {x1 x2 : ℕ} (k : 0x18000cd0 ||| m = m) : Frame m s (State.trySlotClose u x1 x2) ↔ Frame m s u := by
  refine Frame.thru (m := 0x18000cd0) ?_ k
  unfold State.trySlotClose
  repeat' (first | simp (disch := first | decide | rfl | (intros; simp (disch := first | decide | rfl | (intros; simp (disch := decide) only [↓Frame.closeSlot, ↓Frame.releaseSlot, ↓Frame.trySet, ↓Frame.ite, ↓Frame.foldl, ↓Frame.foldlFst, Frame.refl, ite_self, ok, refuse, apply_ite CmdResult.state, apply_ite Prod.fst, apply_ite Prod.snd])) only [↓Frame.closeSlot, ↓Frame.releaseSlot, ↓Frame.trySet, ↓Frame.ite, ↓Frame.foldl, ↓Frame.foldlFst, Frame.refl, ite_self, ok, refuse, apply_ite CmdResult.state, apply_ite Prod.fst, apply_ite Prod.snd])) only [↓Frame.closeSlot, ↓Frame.releaseSlot, ↓Frame.ite, ↓Frame.foldl, Frame.refl, ite_self] | split)

theorem Frame.evalLattice {m : Nat} {s u : State} {x1 : ℕ} (k : 0x18000cd0 ||| m = m) : Frame m s (State.evalLattice u x1) ↔ Frame m s u := by
  refine Frame.thru (m := 0x18000cd0) ?_ k
  unfold State.evalLattice
  repeat' (first | simp (disch := first | decide | rfl | (intros; simp (disch := first | decide | rfl | (intros; simp (disch := decide) only [↓Frame.showLattice, ↓Frame.takeStep, ↓Frame.trySlotClose, ↓Frame.ite, ↓Frame.foldl, ↓Frame.foldlFst, Frame.refl, ite_self, ok, refuse, apply_ite CmdResult.state, apply_ite Prod.fst, apply_ite Prod.snd])) only [↓Frame.showLattice, ↓Frame.takeStep, ↓Frame.trySlotClose, ↓Frame.ite, ↓Frame.foldl, ↓Frame.foldlFst, Frame.refl, ite_self, ok, refuse, apply_ite CmdResult.state, apply_ite Prod.fst, apply_ite Prod.snd])) only [↓Frame.showLattice, ↓Frame.takeStep, ↓Frame.ite, ↓Frame.foldl, Frame.refl, ite_self] | split)

theorem Frame.loomRun {m : Nat} {s u : State} (k : 0x39040dd0 ||| m = m) : Frame m s (State.loomRun u) ↔ Frame m s u := by
  refine Frame.thru (m := 0x39040dd0) ?_ k
  unfold State.loomRun
  repeat' (first | simp (disch := first | decide | rfl | (intros; simp (disch := first | decide | rfl | (intros; simp (disch := decide) only [↓Frame.deliverLattice, ↓Frame.evalLattice, ↓Frame.switchDone, ↓Frame.ite, ↓Frame.foldl, ↓Frame.foldlFst, Frame.refl, ite_self, ok, refuse, apply_ite CmdResult.state, apply_ite Prod.fst, apply_ite Prod.snd])) only [↓Frame.deliverLattice, ↓Frame.evalLattice, ↓Frame.switchDone, ↓Frame.ite, ↓Frame.foldl, ↓Frame.foldlFst, Frame.refl, ite_self, ok, refuse, apply_ite CmdResult.state, apply_ite Prod.fst, apply_ite Prod.snd])) only [↓Frame.switchDone, ↓Frame.ite, ↓Frame.foldl, Frame.refl, ite_self] | split)

theorem Frame.putThread {m : Nat} {s u : State} {x1 : ℕ} {x2 : ReedThread} (k : 0x2000000 ||| m = m) : Frame m s (State.putThread u x1 x2) ↔ Frame m s u := by
  refine Frame.thru (m := 0x2000000) ?_ k
  unfold State.putThread
  simp (disch := decide) only [↓Frame.setReed, Frame.refl]

theorem Frame.fallBack {m : Nat} {s u : State} {x1 : ℕ} (k : 0x10 ||| m = m) : Frame m s (State.fallBack u x1) ↔ Frame m s u := by
  refine Frame.thru (m := 0x10) ?_ k
  unfold State.fallBack
  simp (disch := decide) only [↓Frame.count, ↓Frame.ite, Frame.refl, ite_self]

theorem Frame.reedLoad {m : Nat} {s u : State} {x1 : ℕ} (k : 0x2000010 ||| m = m) : Frame m s (State.reedLoad u x1) ↔ Frame m s u := by
  refine Frame.thru (m := 0x2000010) ?_ k
  unfold State.reedLoad
  simp (disch := decide) only [↓Frame.putFld, ↓Frame.putReg, ↓Frame.setReed, ↓Frame.ite, Frame.refl, ite_self]

theorem Frame.toLoom {m : Nat} {s u : State} {x1 x2 x3 x4 : ℕ} (k : 0x6000010 ||| m = m) : Frame m s (State.toLoom u x1 x2 x3 x4) ↔ Frame m s u := by
  refine Frame.thru (m := 0x6000010) ?_ k
  unfold State.toLoom
  simp (disch := decide) only [↓Frame.count, ↓Frame.reedLoad, ↓Frame.setLoomQ, Frame.refl]

theorem Frame.formOutput {m : Nat} {s u : State} {x1 : ℕ} {x2 : List Byte} {x3 x4 : ℕ} {x5 : List (ReedTap × ℚ)} {x6 x7 : Bool} (k : 0x160008d0 ||| m = m) : Frame m s (State.formOutput u x1 x2 x3 x4 x5 x6 x7) ↔ Frame m s u := by
  refine Frame.thru (m := 0x160008d0) ?_ k
  unfold State.formOutput
  repeat' (first | simp (disch := decide) only [↓Frame.count, ↓Frame.event, ↓Frame.putThread, ↓Frame.raise, ↓Frame.reedLoad, ↓Frame.toLoom, ↓Frame.ite, Frame.refl, ite_self] | split)

theorem State.trySlot_frame (u : State) (x1 x2 x3 : ℕ) : Frame 0x160008d0 u (State.trySlot u x1 x2 x3).1 := by
  unfold State.trySlot
  repeat' (first | simp (disch := decide) only [↓Frame.count, ↓Frame.fallBack, ↓Frame.formOutput, ↓Frame.putThread, ↓Frame.raise, ↓Frame.toLoom, ↓Frame.ite, Frame.refl, ite_self, apply_ite Prod.fst] | split)
theorem Frame.trySlot {m : Nat} {s u : State} {x1 x2 x3 : ℕ} (k : 0x160008d0 ||| m = m) : Frame m s (State.trySlot u x1 x2 x3).1 ↔ Frame m s u :=
  (State.trySlot_frame u x1 x2 x3).thru k

theorem State.trySlots_frame (u : State) (x1 : ℕ) (x2 : List (ℕ × ℕ)) : Frame 0x160008d0 u (State.trySlots u x1 x2) := by
  induction x2 generalizing u with
  | nil => exact Frame.refl _ _
  | cons a l ih =>
    obtain ⟨g, tau⟩ := a
    have ht := State.trySlot_frame u x1 g tau
    unfold State.trySlots
    split
    all_goals (rename_i v e; rw [e] at ht; replace ht := ht.mono (n := 0x160008d0) (by decide))
    · exact ht.trans (ih _)
    · exact ht
theorem Frame.trySlots {m : Nat} {s u : State} {x1 : ℕ} {x2 : List (ℕ × ℕ)} (k : 0x160008d0 ||| m = m) : Frame m s (State.trySlots u x1 x2) ↔ Frame m s u :=
  (State.trySlots_frame u x1 x2).thru k

theorem Frame.trySlotsTo {m : Nat} {s u : State} {x1 x2 x3 : ℕ} {x4 : List Byte} (k : 0x160008d0 ||| m = m) : Frame m s (State.trySlotsTo u x1 x2 x3 x4) ↔ Frame m s u := by
  refine Frame.thru (m := 0x160008d0) ?_ k
  unfold State.trySlotsTo
  simp (disch := decide) only [↓Frame.trySlots, Frame.refl]

theorem Frame.skipGap {m : Nat} {s u : State} {x1 : ℕ} {x2 : List Byte} {x3 : ℕ} (k : 0x2000850 ||| m = m) : Frame m s (State.skipGap u x1 x2 x3) ↔ Frame m s u := by
  refine Frame.thru (m := 0x2000850) ?_ k
  unfold State.skipGap
  repeat' (first | simp (disch := decide) only [↓Frame.count, ↓Frame.putThread, ↓Frame.raise, ↓Frame.ite, Frame.refl, ite_self] | split)

theorem Frame.runThread {m : Nat} {s u : State} {x1 : ℕ} (k : 0x160008d0 ||| m = m) : Frame m s (State.runThread u x1) ↔ Frame m s u := by
  refine Frame.thru (m := 0x160008d0) ?_ k
  unfold State.runThread
  repeat' (first | simp (disch := decide) only [↓Frame.skipGap, ↓Frame.trySlotsTo, ↓Frame.ite, Frame.refl, ite_self] | split)

theorem Frame.reedDownAs {m : Nat} {s u : State} {x1 : ℕ} {x2 : List Byte} (k : 0x160008d0 ||| m = m) : Frame m s (State.reedDownAs u x1 x2) ↔ Frame m s u := by
  refine Frame.thru (m := 0x160008d0) ?_ k
  unfold State.reedDownAs
  repeat' (first | simp (disch := first | decide | rfl | (intros; (repeat' (first | simp (disch := first | decide | rfl | (intros; (repeat' (first | simp (disch := decide) only [↓Frame.putThread, ↓Frame.runThread, ↓Frame.setReed, ↓Frame.ite, ↓Frame.foldl, ↓Frame.foldlFst, Frame.refl, ite_self, ok, refuse, apply_ite CmdResult.state, apply_ite Prod.fst, apply_ite Prod.snd] | split)); done)) only [↓Frame.putThread, ↓Frame.runThread, ↓Frame.setReed, ↓Frame.ite, ↓Frame.foldl, ↓Frame.foldlFst, Frame.refl, ite_self, ok, refuse, apply_ite CmdResult.state, apply_ite Prod.fst, apply_ite Prod.snd] | split)); done)) only [↓Frame.ite, ↓Frame.foldl, Frame.refl, ite_self] | split)

theorem Frame.reedDown {m : Nat} {s u : State} {x1 : ℕ} (k : 0x160008d0 ||| m = m) : Frame m s (State.reedDown u x1) ↔ Frame m s u := by
  refine Frame.thru (m := 0x160008d0) ?_ k
  unfold State.reedDown
  repeat' (first | simp (disch := first | decide | rfl | (intros; (repeat' (first | simp (disch := first | decide | rfl | (intros; (repeat' (first | simp (disch := decide) only [↓Frame.reedDownAs, ↓Frame.ite, ↓Frame.foldl, ↓Frame.foldlFst, Frame.refl, ite_self, ok, refuse, apply_ite CmdResult.state, apply_ite Prod.fst, apply_ite Prod.snd] | split)); done)) only [↓Frame.reedDownAs, ↓Frame.ite, ↓Frame.foldl, ↓Frame.foldlFst, Frame.refl, ite_self, ok, refuse, apply_ite CmdResult.state, apply_ite Prod.fst, apply_ite Prod.snd] | split)); done)) only [↓Frame.reedDownAs, Frame.refl] | split)

theorem Frame.ofCmdStreamEnable {m : Nat} {s u : State} (k : 0x3f2c1dd0 ||| m = m) : Frame m s (cmdStreamEnable u).state ↔ Frame m s u := by
  refine Frame.thru (m := 0x3f2c1dd0) ?_ k
  unfold cmdStreamEnable
  simp (disch := decide) only [↓Frame.enterWaiting, ↓Frame.loomRun, ↓Frame.putStream, ↓Frame.reedDown, ↓Frame.ite, Frame.refl, ite_self, ok, refuse, apply_ite CmdResult.state]

theorem Frame.ofCmdRequestCfg {m : Nat} {s u : State} (k : 0x102c18d0 ||| m = m) : Frame m s (cmdRequestCfg u).state ↔ Frame m s u := by
  refine Frame.thru (m := 0x102c18d0) ?_ k
  unfold cmdRequestCfg
  dsimp only
  repeat' (first | simp (disch := first | decide | rfl | (intros; (repeat' (first | simp (disch := first | decide | rfl | (intros; (repeat' (first | simp (disch := decide) only [↓Frame.ofOk, ↓Frame.ofRefuse, ↓Frame.ite, ↓Frame.foldl, ↓Frame.foldlFst, Frame.refl, ite_self, ok, refuse, apply_ite CmdResult.state, apply_ite Prod.fst, apply_ite Prod.snd] | split)); done)) only [↓Frame.ofOk, ↓Frame.ofRefuse, ↓Frame.ite, ↓Frame.foldl, ↓Frame.foldlFst, Frame.refl, ite_self, ok, refuse, apply_ite CmdResult.state, apply_ite Prod.fst, apply_ite Prod.snd] | split)); done)) only [↓Frame.ite, Frame.refl, ok, refuse, apply_ite CmdResult.state] | split)
  all_goals (rename_i e; exact (State.sendCommand_frame u _ _ _ e).mono (by decide))

theorem Frame.ofCmdKeyLoad {m : Nat} {s u : State} (k : 0x102008d0 ||| m = m) : Frame m s (cmdKeyLoad u).state ↔ Frame m s u := by
  refine Frame.thru (m := 0x102008d0) ?_ k
  unfold cmdKeyLoad
  repeat' (first | simp (disch := first | decide | rfl | (intros; simp (disch := first | decide | rfl | (intros; simp (disch := decide) only [↓Frame.event, ↓Frame.ofOk, ↓Frame.ofRefuse, ↓Frame.putReg, ↓Frame.setHeddle, ↓Frame.ite, ↓Frame.foldl, ↓Frame.foldlFst, Frame.refl, ite_self, ok, refuse, apply_ite CmdResult.state, apply_ite Prod.fst, apply_ite Prod.snd])) only [↓Frame.event, ↓Frame.ofOk, ↓Frame.ofRefuse, ↓Frame.putReg, ↓Frame.setHeddle, ↓Frame.ite, ↓Frame.foldl, ↓Frame.foldlFst, Frame.refl, ite_self, ok, refuse, apply_ite CmdResult.state, apply_ite Prod.fst, apply_ite Prod.snd])) only [↓Frame.event, ↓Frame.setHeddle, ↓Frame.ite, ↓Frame.foldl, Frame.refl, ite_self, ok, refuse, apply_ite CmdResult.state] | split)

theorem Frame.ofCmdKeyInvalidate {m : Nat} {s u : State} (k : 0x200000 ||| m = m) : Frame m s (cmdKeyInvalidate u).state ↔ Frame m s u := by
  refine Frame.thru (m := 0x200000) ?_ k
  unfold cmdKeyInvalidate
  simp (disch := decide) only [↓Frame.setHeddle, ↓Frame.ite, Frame.refl, ite_self, ok, refuse, apply_ite CmdResult.state]

theorem Frame.ofHeddleCommand {m : Nat} {s u : State} {x1 : ℕ} (k : 0x3f2c1dd0 ||| m = m) : Frame m s (heddleCommand x1 u).state ↔ Frame m s u := by
  refine Frame.thru (m := 0x3f2c1dd0) ?_ k
  unfold heddleCommand
  repeat' (first | simp (disch := decide) only [↓Frame.ofCmdKeyInvalidate, ↓Frame.ofCmdKeyLoad, ↓Frame.ofCmdRequestCfg, ↓Frame.ofCmdStreamEnable, ↓Frame.ofCmdStreamState, Frame.refl, refuse] | split)

theorem Frame.ofCmdThreadState {m : Nat} {s u : State} (k : 0x0 ||| m = m) : Frame m s (cmdThreadState u).state ↔ Frame m s u := by
  refine Frame.thru (m := 0x0) ?_ k
  unfold cmdThreadState
  simp (disch := decide) only [Frame.refl, ite_self, refuse, apply_ite CmdResult.state]

theorem Frame.ofCmdEstState {m : Nat} {s u : State} (k : 0x0 ||| m = m) : Frame m s (cmdEstState u).state ↔ Frame m s u := by
  refine Frame.thru (m := 0x0) ?_ k
  unfold cmdEstState
  repeat' (first | simp (disch := decide) only [Frame.refl, refuse] | split)

theorem Frame.ofCmdBankInfo {m : Nat} {s u : State} (k : 0x0 ||| m = m) : Frame m s (cmdBankInfo u).state ↔ Frame m s u := by
  refine Frame.thru (m := 0x0) ?_ k
  unfold cmdBankInfo
  simp (disch := decide) only [Frame.refl, ite_self, ok, refuse, apply_ite CmdResult.state]

theorem Frame.ofReedCommand {m : Nat} {s u : State} {x1 : ℕ} (k : 0x0 ||| m = m) : Frame m s (reedCommand x1 u).state ↔ Frame m s u := by
  refine Frame.thru (m := 0x0) ?_ k
  unfold reedCommand
  repeat' (first | simp (disch := decide) only [↓Frame.ofCmdBankInfo, ↓Frame.ofCmdEstState, ↓Frame.ofCmdThreadState, Frame.refl, refuse] | split)

theorem Frame.ofCmdReadValue {m : Nat} {s u : State} (k : 0x10 ||| m = m) : Frame m s (cmdReadValue u).state ↔ Frame m s u := by
  refine Frame.thru (m := 0x10) ?_ k
  unfold cmdReadValue
  repeat' (first | simp (disch := decide) only [↓Frame.putReg, ↓Frame.ite, Frame.refl, ite_self, refuse, apply_ite CmdResult.state] | split)

theorem Frame.ofCmdQuantile {m : Nat} {s u : State} (k : 0x0 ||| m = m) : Frame m s (cmdQuantile u).state ↔ Frame m s u := by
  refine Frame.thru (m := 0x0) ?_ k
  unfold cmdQuantile
  simp (disch := decide) only [Frame.refl, ite_self, refuse, apply_ite CmdResult.state]

theorem Frame.ofCmdHistReset {m : Nat} {s u : State} (k : 0x10000cd0 ||| m = m) : Frame m s (cmdHistReset u).state ↔ Frame m s u := by
  refine Frame.thru (m := 0x10000cd0) ?_ k
  unfold cmdHistReset
  simp (disch := decide) only [↓Frame.event, ↓Frame.setStk, ↓Frame.ite, Frame.refl, ite_self, ok, refuse, apply_ite CmdResult.state]

theorem Frame.ofCmdWeft {m : Nat} {s u : State} (k : 0x0 ||| m = m) : Frame m s (cmdWeft u).state ↔ Frame m s u := by
  refine Frame.thru (m := 0x0) ?_ k
  unfold cmdWeft
  repeat' (first | simp (disch := decide) only [↓Frame.ite, Frame.refl, ok, refuse, apply_ite CmdResult.state] | split)

theorem Frame.ofCmdCloseNow {m : Nat} {s u : State} (k : 0x39040dd0 ||| m = m) : Frame m s (cmdCloseNow u).state ↔ Frame m s u := by
  refine Frame.thru (m := 0x39040dd0) ?_ k
  unfold cmdCloseNow
  repeat' (first | simp (disch := first | decide | rfl | (intros; simp (disch := first | decide | rfl | (intros; simp (disch := decide) only [↓Frame.forceSlot, ↓Frame.loomRun, ↓Frame.ofOk, ↓Frame.ofRefuse, ↓Frame.ite, ↓Frame.foldl, ↓Frame.foldlFst, Frame.refl, ite_self, ok, refuse, apply_ite CmdResult.state, apply_ite Prod.fst, apply_ite Prod.snd])) only [↓Frame.forceSlot, ↓Frame.loomRun, ↓Frame.ofOk, ↓Frame.ofRefuse, ↓Frame.ite, ↓Frame.foldl, ↓Frame.foldlFst, Frame.refl, ite_self, ok, refuse, apply_ite CmdResult.state, apply_ite Prod.fst, apply_ite Prod.snd])) only [↓Frame.loomRun, ↓Frame.ite, ↓Frame.foldl, Frame.refl, ite_self, ok, refuse, apply_ite CmdResult.state] | split)

theorem Frame.ofLoomCommand {m : Nat} {s u : State} {x1 : ℕ} (k : 0x39040dd0 ||| m = m) : Frame m s (loomCommand x1 u).state ↔ Frame m s u := by
  refine Frame.thru (m := 0x39040dd0) ?_ k
  unfold loomCommand
  repeat' (first | simp (disch := decide) only [↓Frame.ofCmdCloseNow, ↓Frame.ofCmdHistReset, ↓Frame.ofCmdQuantile, ↓Frame.ofCmdReadValue, ↓Frame.ofCmdWeft, Frame.refl, refuse] | split)

theorem Frame.ofCmdTrackerRead {m : Nat} {s u : State} (k : 0x10 ||| m = m) : Frame m s (cmdTrackerRead u).state ↔ Frame m s u := by
  refine Frame.thru (m := 0x10) ?_ k
  unfold cmdTrackerRead
  repeat' (first | simp (disch := first | decide | rfl | (intros; simp (disch := first | decide | rfl | (intros; simp (disch := decide) only [↓Frame.ofOk, ↓Frame.ofRefuse, ↓Frame.putPair, ↓Frame.putReg, ↓Frame.ite, ↓Frame.foldl, ↓Frame.foldlFst, Frame.refl, ite_self, ok, refuse, apply_ite CmdResult.state, apply_ite Prod.fst, apply_ite Prod.snd])) only [↓Frame.ofOk, ↓Frame.ofRefuse, ↓Frame.putPair, ↓Frame.putReg, ↓Frame.ite, ↓Frame.foldl, ↓Frame.foldlFst, Frame.refl, ite_self, ok, refuse, apply_ite CmdResult.state, apply_ite Prod.fst, apply_ite Prod.snd])) only [↓Frame.putPair, ↓Frame.putReg, ↓Frame.ite, ↓Frame.foldl, Frame.refl, ite_self, ok, refuse, apply_ite CmdResult.state] | split)

theorem Frame.ofCmdSpectrumRead {m : Nat} {s u : State} (k : 0x10 ||| m = m) : Frame m s (cmdSpectrumRead u).state ↔ Frame m s u := by
  refine Frame.thru (m := 0x10) ?_ k
  unfold cmdSpectrumRead
  repeat' (first | simp (disch := first | decide | rfl | (intros; simp (disch := first | decide | rfl | (intros; simp (disch := decide) only [↓Frame.ofOk, ↓Frame.ofRefuse, ↓Frame.putReg, ↓Frame.ite, ↓Frame.foldl, ↓Frame.foldlFst, Frame.refl, ite_self, ok, refuse, apply_ite CmdResult.state, apply_ite Prod.fst, apply_ite Prod.snd])) only [↓Frame.ofOk, ↓Frame.ofRefuse, ↓Frame.putReg, ↓Frame.ite, ↓Frame.foldl, ↓Frame.foldlFst, Frame.refl, ite_self, ok, refuse, apply_ite CmdResult.state, apply_ite Prod.fst, apply_ite Prod.snd])) only [↓Frame.ite, ↓Frame.foldl, Frame.refl, ite_self, ok, refuse, apply_ite CmdResult.state] | split)

theorem Frame.putTracker {m : Nat} {s u : State} {x1 : ℕ} {x2 : OscTracker} (k : 0x80000000 ||| m = m) : Frame m s (State.putTracker u x1 x2) ↔ Frame m s u := by
  refine Frame.thru (m := 0x80000000) ?_ k
  unfold State.putTracker
  simp (disch := decide) only [↓Frame.setOsc, Frame.refl]

theorem Frame.resetTracker {m : Nat} {s u : State} {x1 : ℕ} (k : 0x80000000 ||| m = m) : Frame m s (State.resetTracker u x1) ↔ Frame m s u := by
  refine Frame.thru (m := 0x80000000) ?_ k
  unfold State.resetTracker
  simp (disch := decide) only [↓Frame.putTracker, ↓Frame.ite, Frame.refl, ite_self]

theorem Frame.ofCmdTrackerReset {m : Nat} {s u : State} (k : 0x900008d0 ||| m = m) : Frame m s (cmdTrackerReset u).state ↔ Frame m s u := by
  refine Frame.thru (m := 0x900008d0) ?_ k
  unfold cmdTrackerReset
  repeat' (first | simp (disch := first | decide | rfl | (intros; simp (disch := first | decide | rfl | (intros; simp (disch := decide) only [↓Frame.event, ↓Frame.ofOk, ↓Frame.ofRefuse, ↓Frame.resetTracker, ↓Frame.ite, ↓Frame.foldl, ↓Frame.foldlFst, Frame.refl, ite_self, ok, refuse, apply_ite CmdResult.state, apply_ite Prod.fst, apply_ite Prod.snd])) only [↓Frame.event, ↓Frame.ofOk, ↓Frame.ofRefuse, ↓Frame.resetTracker, ↓Frame.ite, ↓Frame.foldl, ↓Frame.foldlFst, Frame.refl, ite_self, ok, refuse, apply_ite CmdResult.state, apply_ite Prod.fst, apply_ite Prod.snd])) only [↓Frame.event, ↓Frame.ite, ↓Frame.foldl, Frame.refl, ite_self, ok, refuse, apply_ite CmdResult.state] | split)

theorem Frame.writeCkpt {m : Nat} {s u : State} (k : 0x80000a50 ||| m = m) : Frame m s (State.writeCkpt u) ↔ Frame m s u := by
  refine Frame.thru (m := 0x80000a50) ?_ k
  unfold State.writeCkpt
  repeat' (first | simp (disch := first | decide | rfl | (intros; simp (disch := first | decide | rfl | (intros; simp (disch := decide) only [↓Frame.raise, ↓Frame.setArchive, ↓Frame.setOsc, ↓Frame.ite, ↓Frame.foldl, ↓Frame.foldlFst, Frame.refl, ite_self, ok, refuse, apply_ite CmdResult.state, apply_ite Prod.fst, apply_ite Prod.snd])) only [↓Frame.raise, ↓Frame.setArchive, ↓Frame.setOsc, ↓Frame.ite, ↓Frame.foldl, ↓Frame.foldlFst, Frame.refl, ite_self, ok, refuse, apply_ite CmdResult.state, apply_ite Prod.fst, apply_ite Prod.snd])) only [↓Frame.raise, ↓Frame.setArchive, ↓Frame.setOsc, ↓Frame.foldl, Frame.refl] | split)

theorem Frame.ofCmdCkptSave {m : Nat} {s u : State} (k : 0x22d807ffd8 ||| m = m) : Frame m s (cmdCkptSave u).state ↔ Frame m s u := by
  refine Frame.thru (m := 0x22d807ffd8) ?_ k
  unfold cmdCkptSave
  simp (disch := decide) only [↓Frame.archiveWrite, ↓Frame.event, ↓Frame.writeCkpt, ↓Frame.ite, Frame.refl, ite_self, ok, refuse, apply_ite CmdResult.state]

theorem Frame.ofOscCommand {m : Nat} {s u : State} {x1 : ℕ} (k : 0x22d807ffd8 ||| m = m) : Frame m s (oscCommand x1 u).state ↔ Frame m s u := by
  refine Frame.thru (m := 0x22d807ffd8) ?_ k
  unfold oscCommand
  repeat' (first | simp (disch := decide) only [↓Frame.ofCmdCkptSave, ↓Frame.ofCmdSpectrumRead, ↓Frame.ofCmdTrackerRead, ↓Frame.ofCmdTrackerReset, Frame.refl, refuse] | split)

theorem Frame.ofCmdAreaRead {m : Nat} {s u : State} (k : 0x10 ||| m = m) : Frame m s (cmdAreaRead u).state ↔ Frame m s u := by
  refine Frame.thru (m := 0x10) ?_ k
  unfold cmdAreaRead
  simp (disch := decide) only [↓Frame.putReg, ↓Frame.ite, Frame.refl, ite_self, ok, refuse, apply_ite CmdResult.state]

theorem Frame.ofCmdScStart {m : Nat} {s u : State} (k : 0x1100009d0 ||| m = m) : Frame m s (cmdScStart u).state ↔ Frame m s u := by
  refine Frame.thru (m := 0x1100009d0) ?_ k
  unfold cmdScStart
  repeat' (first | simp (disch := decide) only [↓Frame.startCheck, ↓Frame.ite, Frame.refl, ite_self, ok, refuse, apply_ite CmdResult.state] | split)

theorem Frame.endCheck {m : Nat} {s u : State} {x1 : ℕ} (k : 0x1100009d0 ||| m = m) : Frame m s (State.endCheck u x1) ↔ Frame m s u := by
  refine Frame.thru (m := 0x1100009d0) ?_ k
  unfold State.endCheck
  repeat' (first | simp (disch := decide) only [↓Frame.condition, ↓Frame.event, ↓Frame.putFld, ↓Frame.raise, ↓Frame.setIsle, Frame.refl] | split)

theorem Frame.ofCmdScStop {m : Nat} {s u : State} (k : 0x1100009d0 ||| m = m) : Frame m s (cmdScStop u).state ↔ Frame m s u := by
  refine Frame.thru (m := 0x1100009d0) ?_ k
  unfold cmdScStop
  simp (disch := decide) only [↓Frame.endCheck, ↓Frame.ite, Frame.refl, ite_self, ok, refuse, apply_ite CmdResult.state]

theorem Frame.showIsle {m : Nat} {s u : State} {x1 : List Byte} (k : 0x10 ||| m = m) : Frame m s (State.showIsle u x1) ↔ Frame m s u := by
  refine Frame.thru (m := 0x10) ?_ k
  unfold State.showIsle
  repeat' (first | simp (disch := first | decide | rfl | (intros; simp (disch := first | decide | rfl | (intros; simp (disch := decide) only [↓Frame.putFld, ↓Frame.putReg, ↓Frame.ite, ↓Frame.foldl, ↓Frame.foldlFst, Frame.refl, ite_self, ok, refuse, apply_ite CmdResult.state, apply_ite Prod.fst, apply_ite Prod.snd])) only [↓Frame.putFld, ↓Frame.putReg, ↓Frame.ite, ↓Frame.foldl, ↓Frame.foldlFst, Frame.refl, ite_self, ok, refuse, apply_ite CmdResult.state, apply_ite Prod.fst, apply_ite Prod.snd])) only [↓Frame.putFld, ↓Frame.foldl, Frame.refl] | split)

theorem Frame.putTie {m : Nat} {s u : State} {x1 : ℕ} {x2 : TieSt} (k : 0x100000000 ||| m = m) : Frame m s (State.putTie u x1 x2) ↔ Frame m s u := by
  refine Frame.thru (m := 0x100000000) ?_ k
  unfold State.putTie
  simp (disch := decide) only [↓Frame.setIsle, Frame.refl]

theorem Frame.ofCmdTieForce {m : Nat} {s u : State} (k : 0x100000010 ||| m = m) : Frame m s (cmdTieForce u).state ↔ Frame m s u := by
  refine Frame.thru (m := 0x100000010) ?_ k
  unfold cmdTieForce
  repeat' (first | simp (disch := decide) only [↓Frame.putTie, ↓Frame.showIsle, ↓Frame.ite, Frame.refl, ite_self, ok, refuse, apply_ite CmdResult.state] | split)

theorem Frame.ofIsleCommand {m : Nat} {s u : State} {x1 : ℕ} (k : 0x1100009d0 ||| m = m) : Frame m s (isleCommand x1 u).state ↔ Frame m s u := by
  refine Frame.thru (m := 0x1100009d0) ?_ k
  unfold isleCommand
  repeat' (first | simp (disch := decide) only [↓Frame.ofCmdAreaRead, ↓Frame.ofCmdScStart, ↓Frame.ofCmdScStop, ↓Frame.ofCmdTieForce, Frame.refl, refuse] | split)

theorem Frame.ofCmdPointRead {m : Nat} {s u : State} (k : 0x0 ||| m = m) : Frame m s (cmdPointRead u).state ↔ Frame m s u := by
  refine Frame.thru (m := 0x0) ?_ k
  unfold cmdPointRead
  simp (disch := decide) only [Frame.refl, ite_self, refuse, apply_ite CmdResult.state]

theorem Frame.resetLatch {m : Nat} {s u : State} {x1 : Path} {x2 : ℕ} (k : 0x2110448d0 ||| m = m) : Frame m s (State.resetLatch u x1 x2) ↔ Frame m s u := by
  refine Frame.thru (m := 0x2110448d0) ?_ k
  unfold State.resetLatch
  repeat' (first | simp (disch := first | decide | rfl | (intros; simp (disch := first | decide | rfl | (intros; simp (disch := decide) only [↓Frame.event, ↓Frame.mirrorSend, ↓Frame.setLane, ↓Frame.showPoint, ↓Frame.transition, ↓Frame.updatePins, ↓Frame.ite, ↓Frame.foldl, ↓Frame.foldlFst, Frame.refl, ite_self, ok, refuse, apply_ite CmdResult.state, apply_ite Prod.fst, apply_ite Prod.snd])) only [↓Frame.event, ↓Frame.mirrorSend, ↓Frame.setLane, ↓Frame.showPoint, ↓Frame.transition, ↓Frame.updatePins, ↓Frame.ite, ↓Frame.foldl, ↓Frame.foldlFst, Frame.refl, ite_self, ok, refuse, apply_ite CmdResult.state, apply_ite Prod.fst, apply_ite Prod.snd])) only [↓Frame.event, ↓Frame.mirrorSend, ↓Frame.showPoint, ↓Frame.transition, ↓Frame.updatePins, ↓Frame.ite, ↓Frame.foldl, Frame.refl, ite_self] | split)

theorem Frame.ofCmdResetLatch {m : Nat} {s u : State} {x1 : Path} (k : 0x2110448d0 ||| m = m) : Frame m s (cmdResetLatch x1 u).state ↔ Frame m s u := by
  refine Frame.thru (m := 0x2110448d0) ?_ k
  unfold cmdResetLatch
  repeat' (first | simp (disch := first | decide | rfl | (intros; simp (disch := first | decide | rfl | (intros; simp (disch := decide) only [↓Frame.ofOk, ↓Frame.ofRefuse, ↓Frame.resetLatch, ↓Frame.ite, ↓Frame.foldl, ↓Frame.foldlFst, Frame.refl, ite_self, ok, refuse, apply_ite CmdResult.state, apply_ite Prod.fst, apply_ite Prod.snd])) only [↓Frame.ofOk, ↓Frame.ofRefuse, ↓Frame.resetLatch, ↓Frame.ite, ↓Frame.foldl, ↓Frame.foldlFst, Frame.refl, ite_self, ok, refuse, apply_ite CmdResult.state, apply_ite Prod.fst, apply_ite Prod.snd])) only [↓Frame.resetLatch, ↓Frame.ite, ↓Frame.foldl, Frame.refl, ite_self, ok, refuse, apply_ite CmdResult.state] | split)

theorem Frame.ofCmdPinTest {m : Nat} {s u : State} (k : 0x2100048d0 ||| m = m) : Frame m s (cmdPinTest u).state ↔ Frame m s u := by
  refine Frame.thru (m := 0x2100048d0) ?_ k
  unfold cmdPinTest
  simp (disch := decide) only [↓Frame.event, ↓Frame.setVote, ↓Frame.updatePins, ↓Frame.ite, Frame.refl, ite_self, ok, refuse, apply_ite CmdResult.state]

theorem Frame.ofCmdLaneResync {m : Nat} {s u : State} (k : 0x4000 ||| m = m) : Frame m s (cmdLaneResync u).state ↔ Frame m s u := by
  refine Frame.thru (m := 0x4000) ?_ k
  unfold cmdLaneResync
  simp (disch := decide) only [↓Frame.setLane, ↓Frame.ite, Frame.refl, ite_self, ok, refuse, apply_ite CmdResult.state]

theorem Frame.ofVoteCommand {m : Nat} {s u : State} {x1 : Path} {x2 : ℕ} (k : 0x2110448d0 ||| m = m) : Frame m s (voteCommand x1 x2 u).state ↔ Frame m s u := by
  refine Frame.thru (m := 0x2110448d0) ?_ k
  unfold voteCommand
  repeat' (first | simp (disch := decide) only [↓Frame.ofCmdLaneResync, ↓Frame.ofCmdPinTest, ↓Frame.ofCmdPointRead, ↓Frame.ofCmdResetLatch, Frame.refl, refuse] | split)

theorem Frame.yieldApplied {m : Nat} {s u : State} (k : 0x2500149d0 ||| m = m) : Frame m s (State.yieldApplied u) ↔ Frame m s u := by
  refine Frame.thru (m := 0x2500149d0) ?_ k
  unfold State.yieldApplied
  repeat' (first | simp (disch := decide) only [↓Frame.applyYield, ↓Frame.ite, Frame.refl, ite_self] | split)

theorem Frame.ofCmdYield {m : Nat} {s u : State} (k : 0x2500149d0 ||| m = m) : Frame m s (cmdYield u).state ↔ Frame m s u := by
  refine Frame.thru (m := 0x2500149d0) ?_ k
  unfold cmdYield
  simp (disch := decide) only [↓Frame.putFld, ↓Frame.setPair, ↓Frame.yieldApplied, ↓Frame.ite, Frame.refl, ite_self, ok, refuse, apply_ite CmdResult.state]

theorem Frame.ofCmdReclaim {m : Nat} {s u : State} (k : 0x10010 ||| m = m) : Frame m s (cmdReclaim u).state ↔ Frame m s u := by
  refine Frame.thru (m := 0x10010) ?_ k
  unfold cmdReclaim
  simp (disch := decide) only [↓Frame.putFld, ↓Frame.setPair, ↓Frame.ite, Frame.refl, ite_self, ok, refuse, apply_ite CmdResult.state]

theorem Frame.sendFull {m : Nat} {s u : State} (k : 0x10000810 ||| m = m) : Frame m s (State.sendFull u) ↔ Frame m s u := by
  refine Frame.thru (m := 0x10000810) ?_ k
  unfold State.sendFull
  simp (disch := decide) only [↓Frame.mirrorSend, Frame.refl]

theorem Frame.ofCmdMirrorSync {m : Nat} {s u : State} (k : 0x10000810 ||| m = m) : Frame m s (cmdMirrorSync u).state ↔ Frame m s u := by
  refine Frame.thru (m := 0x10000810) ?_ k
  unfold cmdMirrorSync
  simp (disch := decide) only [↓Frame.sendFull, ↓Frame.ite, Frame.refl, ite_self, ok, refuse, apply_ite CmdResult.state]

theorem Frame.ofPairCommand {m : Nat} {s u : State} {x1 : ℕ} (k : 0x2500149d0 ||| m = m) : Frame m s (pairCommand x1 u).state ↔ Frame m s u := by
  refine Frame.thru (m := 0x2500149d0) ?_ k
  unfold pairCommand
  repeat' (first | simp (disch := decide) only [↓Frame.ofCmdMirrorSync, ↓Frame.ofCmdReclaim, ↓Frame.ofCmdYield, Frame.refl, refuse] | split)

theorem Frame.ofCmdShuttleStreamEnable {m : Nat} {s u : State} (k : 0x40000000 ||| m = m) : Frame m s (cmdShuttleStreamEnable u).state ↔ Frame m s u := by
  refine Frame.thru (m := 0x40000000) ?_ k
  unfold cmdShuttleStreamEnable
  repeat' (first | simp (disch := decide) only [↓Frame.putOs, ↓Frame.ite, Frame.refl, ite_self, ok, refuse, apply_ite CmdResult.state] | split)

theorem Frame.hostCopy {m : Nat} {s u : State} {x1 x2 x3 x4 : ℕ} {x5 : List Byte} (k : 0x100408d0 ||| m = m) : Frame m s (State.hostCopy u x1 x2 x3 x4 x5) ↔ Frame m s u := by
  refine Frame.thru (m := 0x100408d0) ?_ k
  unfold State.hostCopy
  simp (disch := decide) only [↓Frame.commit, ↓Frame.count, ↓Frame.raise, ↓Frame.ite, Frame.refl, ite_self]

theorem Frame.ofCmdCfgFetch {m : Nat} {s u : State} (k : 0x100408d0 ||| m = m) : Frame m s (cmdCfgFetch u).state ↔ Frame m s u := by
  refine Frame.thru (m := 0x100408d0) ?_ k
  unfold cmdCfgFetch
  repeat' (first | simp (disch := decide) only [↓Frame.hostCopy, ↓Frame.ite, Frame.refl, ite_self, ok, refuse, apply_ite CmdResult.state] | split)

theorem Frame.ofCmdCmdSend {m : Nat} {s u : State} (k : 0x102c18d0 ||| m = m) : Frame m s (cmdCmdSend u).state ↔ Frame m s u := by
  refine Frame.thru (m := 0x102c18d0) ?_ k
  unfold cmdCmdSend
  dsimp only
  repeat' (first | simp (disch := first | decide | rfl | (intros; (repeat' (first | simp (disch := first | decide | rfl | (intros; (repeat' (first | simp (disch := decide) only [↓Frame.ofOk, ↓Frame.ofRefuse, ↓Frame.ite, ↓Frame.foldl, ↓Frame.foldlFst, Frame.refl, ite_self, ok, refuse, apply_ite CmdResult.state, apply_ite Prod.fst, apply_ite Prod.snd] | split)); done)) only [↓Frame.ofOk, ↓Frame.ofRefuse, ↓Frame.ite, ↓Frame.foldl, ↓Frame.foldlFst, Frame.refl, ite_self, ok, refuse, apply_ite CmdResult.state, apply_ite Prod.fst, apply_ite Prod.snd] | split)); done)) only [↓Frame.ite, Frame.refl, ok, refuse, apply_ite CmdResult.state] | split)
  all_goals (rename_i e; exact (State.sendCommand_frame u _ _ _ e).mono (by decide))

theorem Frame.ofShuttleCommand {m : Nat} {s u : State} {x1 : ℕ} (k : 0x502c18d0 ||| m = m) : Frame m s (shuttleCommand x1 u).state ↔ Frame m s u := by
  refine Frame.thru (m := 0x502c18d0) ?_ k
  unfold shuttleCommand
  repeat' (first | simp (disch := decide) only [↓Frame.ofCmdCfgFetch, ↓Frame.ofCmdCmdSend, ↓Frame.ofCmdShuttleStreamEnable, Frame.refl, refuse] | split)

theorem Frame.ofCmdQueueStart {m : Nat} {s u : State} (k : 0x10 ||| m = m) : Frame m s (cmdQueueStart u).state ↔ Frame m s u := by
  refine Frame.thru (m := 0x10) ?_ k
  unfold cmdQueueStart
  simp (disch := decide) only [↓Frame.queueState, ↓Frame.ite, Frame.refl, ite_self, ok, refuse, apply_ite CmdResult.state]

theorem Frame.ofCmdQueueStop {m : Nat} {s u : State} (k : 0x10 ||| m = m) : Frame m s (cmdQueueStop u).state ↔ Frame m s u := by
  refine Frame.thru (m := 0x10) ?_ k
  unfold cmdQueueStop
  simp (disch := decide) only [↓Frame.queueState, ↓Frame.ite, Frame.refl, ite_self, ok, refuse, apply_ite CmdResult.state]

theorem Frame.ofQueueCommand {m : Nat} {s u : State} {x1 : ℕ} (k : 0x10 ||| m = m) : Frame m s (queueCommand x1 u).state ↔ Frame m s u := by
  refine Frame.thru (m := 0x10) ?_ k
  unfold queueCommand
  repeat' (first | simp (disch := decide) only [↓Frame.ofCmdQueueStart, ↓Frame.ofCmdQueueStop, Frame.refl, refuse] | split)

theorem Frame.ofCmdSlvLinkRestart {m : Nat} {s u : State} (k : 0x225807fdd8 ||| m = m) : Frame m s (cmdSlvLinkRestart u).state ↔ Frame m s u := by
  refine Frame.thru (m := 0x225807fdd8) ?_ k
  unfold cmdSlvLinkRestart
  simp (disch := decide) only [↓Frame.linkDown, ↓Frame.putLink, ↓Frame.startLink, ↓Frame.ite, Frame.refl, ite_self, ok, refuse, apply_ite CmdResult.state]

theorem Frame.ofCmdLinkHold {m : Nat} {s u : State} (k : 0x225807fdd8 ||| m = m) : Frame m s (cmdLinkHold u).state ↔ Frame m s u := by
  refine Frame.thru (m := 0x225807fdd8) ?_ k
  unfold cmdLinkHold
  simp (disch := decide) only [↓Frame.linkDown, ↓Frame.putFld, ↓Frame.putLinkState, ↓Frame.ite, Frame.refl, ite_self, ok, refuse, apply_ite CmdResult.state]

theorem Frame.ofCmdOriginRead {m : Nat} {s u : State} (k : 0x0 ||| m = m) : Frame m s (cmdOriginRead u).state ↔ Frame m s u := by
  refine Frame.thru (m := 0x0) ?_ k
  unfold cmdOriginRead
  repeat' (first | simp (disch := decide) only [Frame.refl, refuse] | split)

theorem Frame.ofSlvCommand {m : Nat} {s u : State} {x1 : ℕ} (k : 0x225807fdd8 ||| m = m) : Frame m s (slvCommand x1 u).state ↔ Frame m s u := by
  refine Frame.thru (m := 0x225807fdd8) ?_ k
  unfold slvCommand
  repeat' (first | simp (disch := decide) only [↓Frame.ofCmdLinkHold, ↓Frame.ofCmdOriginRead, ↓Frame.ofCmdSlvLinkRestart, Frame.refl, refuse] | split)

end Sys2Proof.Machine
end

