-- ==== Sys2Proof/Laws/Frame4.lean ====
section
/-!
SUPPORT. Sys2Proof/Laws/Frame4.lean: the parts of the state that each operation may write, part 4 of 7, in the order in which the
operations call each other. One lemma an operation: a frame goes through it.
-/

namespace Sys2Proof.Machine

theorem Frame.ofCmdArm {m : Nat} {s u : State} (k : 0x300008d0 ||| m = m) : Frame m s (cmdArm u).state ↔ Frame m s u := by
  refine Frame.thru (m := 0x300008d0) ?_ k
  unfold cmdArm
  simp (disch := decide) only [↓Frame.armRegion, ↓Frame.ite, Frame.refl, ite_self, refuse, apply_ite CmdResult.state]

theorem Frame.disarmRegion {m : Nat} {s u : State} {x1 x2 : ℕ} (k : 0x300008d0 ||| m = m) : Frame m s (State.disarmRegion u x1 x2) ↔ Frame m s u := by
  refine Frame.thru (m := 0x300008d0) ?_ k
  unfold State.disarmRegion
  simp (disch := decide) only [↓Frame.captState, ↓Frame.event, ↓Frame.putCapt, Frame.refl]

theorem Frame.ofCmdDisarm {m : Nat} {s u : State} (k : 0x300008d0 ||| m = m) : Frame m s (cmdDisarm u).state ↔ Frame m s u := by
  refine Frame.thru (m := 0x300008d0) ?_ k
  unfold cmdDisarm
  simp (disch := decide) only [↓Frame.disarmRegion, ↓Frame.putCapt, ↓Frame.ite, Frame.refl, ite_self, ok, refuse, apply_ite CmdResult.state]

theorem Frame.triggerRegion {m : Nat} {s u : State} {x1 x2 x3 x4 x5 x6 : ℕ} (k : 0x300008d0 ||| m = m) : Frame m s (State.triggerRegion u x1 x2 x3 x4 x5 x6) ↔ Frame m s u := by
  refine Frame.thru (m := 0x300008d0) ?_ k
  unfold State.triggerRegion
  repeat' (first | simp (disch := decide) only [↓Frame.beginRecord, ↓Frame.count, ↓Frame.event, ↓Frame.putCapt, ↓Frame.putPair, ↓Frame.raise, ↓Frame.ite, Frame.refl, ite_self] | split)

theorem Frame.ofCmdFire {m : Nat} {s u : State} (k : 0x300008d0 ||| m = m) : Frame m s (cmdFire u).state ↔ Frame m s u := by
  refine Frame.thru (m := 0x300008d0) ?_ k
  unfold cmdFire
  simp (disch := decide) only [↓Frame.triggerRegion, ↓Frame.ite, Frame.refl, ite_self, ok, refuse, apply_ite CmdResult.state]

theorem Frame.ofCmdTrigSet {m : Nat} {s u : State} (k : 0x1000000 ||| m = m) : Frame m s (cmdTrigSet u).state ↔ Frame m s u := by
  refine Frame.thru (m := 0x1000000) ?_ k
  unfold cmdTrigSet
  simp (disch := decide) only [↓Frame.pushInput, ↓Frame.ite, Frame.refl, ite_self, ok, refuse, apply_ite CmdResult.state]

theorem Frame.ofCmdRecordLock {m : Nat} {s u : State} (k : 0x20000010 ||| m = m) : Frame m s (cmdRecordLock u).state ↔ Frame m s u := by
  refine Frame.thru (m := 0x20000010) ?_ k
  unfold cmdRecordLock
  repeat' (first | simp (disch := decide) only [↓Frame.putCapt, ↓Frame.ite, Frame.refl, ite_self, ok, refuse, apply_ite CmdResult.state] | split)

theorem Frame.ofCmdRecordUnlock {m : Nat} {s u : State} (k : 0x20000010 ||| m = m) : Frame m s (cmdRecordUnlock u).state ↔ Frame m s u := by
  refine Frame.thru (m := 0x20000010) ?_ k
  unfold cmdRecordUnlock
  simp (disch := decide) only [↓Frame.putCapt, ↓Frame.ite, Frame.refl, ite_self, ok, refuse, apply_ite CmdResult.state]

theorem Frame.ofCaptCommand {m : Nat} {s u : State} {x1 : ℕ} (k : 0x310008d0 ||| m = m) : Frame m s (captCommand x1 u).state ↔ Frame m s u := by
  refine Frame.thru (m := 0x310008d0) ?_ k
  unfold captCommand
  repeat' (first | simp (disch := decide) only [↓Frame.ofCmdArm, ↓Frame.ofCmdDisarm, ↓Frame.ofCmdFire, ↓Frame.ofCmdRecordLock, ↓Frame.ofCmdRecordUnlock, ↓Frame.ofCmdTrigSet, Frame.refl, refuse] | split)

theorem Frame.ofCmdIntervalRead {m : Nat} {s u : State} (k : 0x10 ||| m = m) : Frame m s (cmdIntervalRead u).state ↔ Frame m s u := by
  refine Frame.thru (m := 0x10) ?_ k
  unfold cmdIntervalRead
  repeat' (first | simp (disch := first | decide | rfl | (intros; simp (disch := first | decide | rfl | (intros; simp (disch := decide) only [↓Frame.ofOk, ↓Frame.ofRefuse, ↓Frame.putReg, ↓Frame.ite, ↓Frame.foldl, ↓Frame.foldlFst, Frame.refl, ite_self, ok, refuse, apply_ite CmdResult.state, apply_ite Prod.fst, apply_ite Prod.snd])) only [↓Frame.ofOk, ↓Frame.ofRefuse, ↓Frame.putReg, ↓Frame.ite, ↓Frame.foldl, ↓Frame.foldlFst, Frame.refl, ite_self, ok, refuse, apply_ite CmdResult.state, apply_ite Prod.fst, apply_ite Prod.snd])) only [↓Frame.ite, ↓Frame.foldl, Frame.refl, ite_self, ok, refuse, apply_ite CmdResult.state] | split)

theorem Frame.ofCmdPeakReset {m : Nat} {s u : State} (k : 0x200000000 ||| m = m) : Frame m s (cmdPeakReset u).state ↔ Frame m s u := by
  refine Frame.thru (m := 0x200000000) ?_ k
  unfold cmdPeakReset
  simp (disch := decide) only [↓Frame.setEnergy, ↓Frame.ite, Frame.refl, ite_self, ok, refuse, apply_ite CmdResult.state]

theorem Frame.ofEnergyCommand {m : Nat} {s u : State} {x1 : ℕ} (k : 0x200000010 ||| m = m) : Frame m s (energyCommand x1 u).state ↔ Frame m s u := by
  refine Frame.thru (m := 0x200000010) ?_ k
  unfold energyCommand
  repeat' (first | simp (disch := decide) only [↓Frame.ofCmdIntervalRead, ↓Frame.ofCmdPeakReset, Frame.refl, refuse] | split)

theorem Frame.ofCmdRead {m : Nat} {s u : State} (k : 0x258037dd8 ||| m = m) : Frame m s (cmdRead u).state ↔ Frame m s u := by
  refine Frame.thru (m := 0x258037dd8) ?_ k
  unfold cmdRead
  repeat' (first | simp (disch := first | decide | rfl | (intros; simp (disch := first | decide | rfl | (intros; simp (disch := decide) only [↓Frame.ofRefuse, ↓Frame.putReg, ↓Frame.wakeArchive, ↓Frame.ite, ↓Frame.foldl, ↓Frame.foldlFst, Frame.refl, ite_self, ok, refuse, apply_ite CmdResult.state, apply_ite Prod.fst, apply_ite Prod.snd])) only [↓Frame.ofRefuse, ↓Frame.putReg, ↓Frame.wakeArchive, ↓Frame.ite, ↓Frame.foldl, ↓Frame.foldlFst, Frame.refl, ite_self, ok, refuse, apply_ite CmdResult.state, apply_ite Prod.fst, apply_ite Prod.snd])) only [↓Frame.wakeArchive, ↓Frame.ite, ↓Frame.foldl, Frame.refl, refuse, apply_ite CmdResult.state] | split)

theorem Frame.ofCmdAck {m : Nat} {s u : State} (k : 0x80 ||| m = m) : Frame m s (cmdAck u).state ↔ Frame m s u := by
  refine Frame.thru (m := 0x80) ?_ k
  unfold cmdAck
  simp (disch := decide) only [↓Frame.setLedger, ↓Frame.ite, Frame.refl, ite_self, ok, refuse, apply_ite CmdResult.state]

theorem Frame.ofCmdLedgerFlush {m : Nat} {s u : State} (k : 0x80 ||| m = m) : Frame m s (cmdLedgerFlush u).state ↔ Frame m s u := by
  refine Frame.thru (m := 0x80) ?_ k
  unfold cmdLedgerFlush
  simp (disch := decide) only [↓Frame.ofOk, ↓Frame.setLedger, Frame.refl]

theorem Frame.ofCmdVerify {m : Nat} {s u : State} (k : 0x258037dd8 ||| m = m) : Frame m s (cmdVerify u).state ↔ Frame m s u := by
  refine Frame.thru (m := 0x258037dd8) ?_ k
  unfold cmdVerify
  repeat' (first | simp (disch := first | decide | rfl | (intros; simp (disch := first | decide | rfl | (intros; simp (disch := decide) only [↓Frame.event, ↓Frame.ofRefuse, ↓Frame.wakeArchive, ↓Frame.ite, ↓Frame.foldl, ↓Frame.foldlFst, Frame.refl, ite_self, ok, refuse, apply_ite CmdResult.state, apply_ite Prod.fst, apply_ite Prod.snd])) only [↓Frame.event, ↓Frame.ofRefuse, ↓Frame.wakeArchive, ↓Frame.ite, ↓Frame.foldl, ↓Frame.foldlFst, Frame.refl, ite_self, ok, refuse, apply_ite CmdResult.state, apply_ite Prod.fst, apply_ite Prod.snd])) only [↓Frame.wakeArchive, ↓Frame.ite, ↓Frame.foldl, Frame.refl, ite_self, refuse, apply_ite CmdResult.state] | split)

theorem Frame.ofCmdNonce {m : Nat} {s u : State} (k : 0x1080 ||| m = m) : Frame m s (cmdNonce u).state ↔ Frame m s u := by
  refine Frame.thru (m := 0x1080) ?_ k
  unfold cmdNonce
  simp (disch := decide) only [↓Frame.draw, ↓Frame.setLedger, ↓Frame.ite, Frame.refl, ite_self, refuse, apply_ite CmdResult.state]

theorem Frame.clearLedger {m : Nat} {s u : State} {x1 : Path} (k : 0x225807ffd8 ||| m = m) : Frame m s (State.clearLedger u x1) ↔ Frame m s u := by
  refine Frame.thru (m := 0x225807ffd8) ?_ k
  unfold State.clearLedger
  simp (disch := decide) only [↓Frame.afterWrite, ↓Frame.copyRecord, ↓Frame.putRecord, ↓Frame.setLedger, ↓Frame.writeStaging, Frame.refl]

theorem Frame.ofCmdClear {m : Nat} {s u : State} {x1 : Path} (k : 0x225807ffd8 ||| m = m) : Frame m s (cmdClear x1 u).state ↔ Frame m s u := by
  refine Frame.thru (m := 0x225807ffd8) ?_ k
  unfold cmdClear
  simp (disch := decide) only [↓Frame.authFailed, ↓Frame.clearLedger, ↓Frame.wakeArchive, ↓Frame.ite, Frame.refl, ite_self, ok, refuse, apply_ite CmdResult.state]

theorem Frame.takeKey {m : Nat} {s u : State} {x1 : Path} {x2 : ℕ} (k : 0x100008d0 ||| m = m) : Frame m s (State.takeKey u x1 x2) ↔ Frame m s u := by
  refine Frame.thru (m := 0x100008d0) ?_ k
  unfold State.takeKey
  repeat' (first | simp (disch := first | decide | rfl | (intros; simp (disch := first | decide | rfl | (intros; simp (disch := decide) only [↓Frame.event, ↓Frame.putReg, ↓Frame.setLedger, ↓Frame.ite, ↓Frame.foldl, ↓Frame.foldlFst, Frame.refl, ite_self, ok, refuse, apply_ite CmdResult.state, apply_ite Prod.fst, apply_ite Prod.snd])) only [↓Frame.event, ↓Frame.putReg, ↓Frame.setLedger, ↓Frame.ite, ↓Frame.foldl, ↓Frame.foldlFst, Frame.refl, ite_self, ok, refuse, apply_ite CmdResult.state, apply_ite Prod.fst, apply_ite Prod.snd])) only [↓Frame.event, ↓Frame.setLedger, ↓Frame.foldl, Frame.refl] | split)

theorem Frame.ofCmdKeySet {m : Nat} {s u : State} {x1 : Path} (k : 0x100008d0 ||| m = m) : Frame m s (cmdKeySet x1 u).state ↔ Frame m s u := by
  refine Frame.thru (m := 0x100008d0) ?_ k
  unfold cmdKeySet
  simp (disch := decide) only [↓Frame.takeKey, ↓Frame.ite, Frame.refl, ite_self, ok, refuse, apply_ite CmdResult.state]

theorem Frame.ofCmdKeyChange {m : Nat} {s u : State} {x1 : Path} (k : 0x100008d0 ||| m = m) : Frame m s (cmdKeyChange x1 u).state ↔ Frame m s u := by
  refine Frame.thru (m := 0x100008d0) ?_ k
  unfold cmdKeyChange
  simp (disch := decide) only [↓Frame.authFailed, ↓Frame.takeKey, ↓Frame.ite, Frame.refl, ite_self, ok, refuse, apply_ite CmdResult.state]

theorem Frame.ofLedgerCommand {m : Nat} {s u : State} {x1 : Path} {x2 : ℕ} (k : 0x225807ffd8 ||| m = m) : Frame m s (ledgerCommand x1 x2 u).state ↔ Frame m s u := by
  refine Frame.thru (m := 0x225807ffd8) ?_ k
  unfold ledgerCommand
  repeat' (first | simp (disch := decide) only [↓Frame.ofCmdAck, ↓Frame.ofCmdClear, ↓Frame.ofCmdKeyChange, ↓Frame.ofCmdKeySet, ↓Frame.ofCmdLedgerFlush, ↓Frame.ofCmdNonce, ↓Frame.ofCmdRead, ↓Frame.ofCmdVerify, Frame.refl, refuse] | split)

theorem Frame.wakeSpace {m : Nat} {s u : State} {x1 : ℕ} (k : 0x258037dd8 ||| m = m) : Frame m s (State.wakeSpace u x1) ↔ Frame m s u := by
  refine Frame.thru (m := 0x258037dd8) ?_ k
  unfold State.wakeSpace
  simp (disch := decide) only [↓Frame.setPower, ↓Frame.wakeArchive, ↓Frame.ite, Frame.refl, ite_self]

theorem Frame.ofCmdScanStart {m : Nat} {s u : State} (k : 0x258037dd8 ||| m = m) : Frame m s (cmdScanStart u).state ↔ Frame m s u := by
  refine Frame.thru (m := 0x258037dd8) ?_ k
  unfold cmdScanStart
  simp (disch := decide) only [↓Frame.count, ↓Frame.putReg, ↓Frame.wakeSpace, ↓Frame.ite, Frame.refl, ite_self, ok, refuse, apply_ite CmdResult.state]

theorem Frame.scanShow {m : Nat} {s u : State} {x1 x2 : ℕ} (k : 0x10 ||| m = m) : Frame m s (State.scanShow u x1 x2) ↔ Frame m s u := by
  refine Frame.thru (m := 0x10) ?_ k
  unfold State.scanShow
  simp (disch := decide) only [↓Frame.putPair, ↓Frame.putReg, Frame.refl]

theorem Frame.ofCmdScanStop {m : Nat} {s u : State} {x1 : ℕ} (k : 0x1010 ||| m = m) : Frame m s (cmdScanStop x1 u).state ↔ Frame m s u := by
  refine Frame.thru (m := 0x1010) ?_ k
  unfold cmdScanStop
  simp (disch := decide) only [↓Frame.draw, ↓Frame.putReg, ↓Frame.scanShow, ↓Frame.ite, Frame.refl, ite_self, ok, refuse, apply_ite CmdResult.state]

theorem Frame.ofCheckCommand {m : Nat} {s u : State} {x1 : CmdInput} {x2 : ℕ} (k : 0x258037dd8 ||| m = m) : Frame m s (checkCommand x1 x2 u).state ↔ Frame m s u := by
  refine Frame.thru (m := 0x258037dd8) ?_ k
  unfold checkCommand
  repeat' (first | simp (disch := decide) only [↓Frame.ofCmdScanStart, ↓Frame.ofCmdScanStop, Frame.refl, refuse] | split)

theorem Frame.ofCmdDomainSet {m : Nat} {s u : State} (k : 0x100208d0 ||| m = m) : Frame m s (cmdDomainSet u).state ↔ Frame m s u := by
  refine Frame.thru (m := 0x100208d0) ?_ k
  unfold cmdDomainSet
  simp (disch := decide) only [↓Frame.event, ↓Frame.setPower, ↓Frame.ite, Frame.refl, ite_self, ok, refuse, apply_ite CmdResult.state]

theorem Frame.ofPowerCommand {m : Nat} {s u : State} {x1 : ℕ} (k : 0x100208d0 ||| m = m) : Frame m s (powerCommand x1 u).state ↔ Frame m s u := by
  refine Frame.thru (m := 0x100208d0) ?_ k
  unfold powerCommand
  repeat' (first | simp (disch := decide) only [↓Frame.ofCmdDomainSet, Frame.refl, refuse] | split)

theorem Frame.measure {m : Nat} {s u : State} {x1 : ClockMeasure} (k : 0x800000010 ||| m = m) : Frame m s (State.measure u x1) ↔ Frame m s u := by
  refine Frame.thru (m := 0x800000010) ?_ k
  unfold State.measure
  repeat' (first | simp (disch := first | decide | rfl | (intros; simp (disch := first | decide | rfl | (intros; simp (disch := decide) only [↓Frame.putFld, ↓Frame.putReg, ↓Frame.setClock, ↓Frame.ite, ↓Frame.foldl, ↓Frame.foldlFst, Frame.refl, ite_self, ok, refuse, apply_ite CmdResult.state, apply_ite Prod.fst, apply_ite Prod.snd])) only [↓Frame.putFld, ↓Frame.putReg, ↓Frame.setClock, ↓Frame.ite, ↓Frame.foldl, ↓Frame.foldlFst, Frame.refl, ite_self, ok, refuse, apply_ite CmdResult.state, apply_ite Prod.fst, apply_ite Prod.snd])) only [↓Frame.putReg, ↓Frame.foldl, Frame.refl] | split)

theorem Frame.putStep {m : Nat} {s u : State} {x1 x2 : ℕ} (k : 0x10100008d0 ||| m = m) : Frame m s (State.putStep u x1 x2) ↔ Frame m s u := by
  refine Frame.thru (m := 0x10100008d0) ?_ k
  unfold State.putStep
  simp (disch := decide) only [↓Frame.event, ↓Frame.putFld, ↓Frame.raise, ↓Frame.setAgeing, Frame.refl]

theorem Frame.replanEnd {m : Nat} {s u : State} {x1 : Replan} {x2 : ℕ} (k : 0x18100008d0 ||| m = m) : Frame m s (State.replanEnd u x1 x2) ↔ Frame m s u := by
  refine Frame.thru (m := 0x18100008d0) ?_ k
  unfold State.replanEnd
  repeat' (first | simp (disch := first | decide | rfl | (intros; simp (disch := first | decide | rfl | (intros; simp (disch := decide) only [↓Frame.avsToward, ↓Frame.count, ↓Frame.event, ↓Frame.putFld, ↓Frame.putPair, ↓Frame.putStep, ↓Frame.raise, ↓Frame.setClock, ↓Frame.ite, ↓Frame.foldl, ↓Frame.foldlFst, Frame.refl, ite_self, ok, refuse, apply_ite CmdResult.state, apply_ite Prod.fst, apply_ite Prod.snd])) only [↓Frame.avsToward, ↓Frame.count, ↓Frame.event, ↓Frame.putFld, ↓Frame.putPair, ↓Frame.putStep, ↓Frame.raise, ↓Frame.setClock, ↓Frame.ite, ↓Frame.foldl, ↓Frame.foldlFst, Frame.refl, ite_self, ok, refuse, apply_ite CmdResult.state, apply_ite Prod.fst, apply_ite Prod.snd])) only [↓Frame.avsToward, ↓Frame.count, ↓Frame.event, ↓Frame.putFld, ↓Frame.putPair, ↓Frame.putStep, ↓Frame.raise, ↓Frame.setClock, ↓Frame.ite, ↓Frame.foldl, Frame.refl, ite_self] | split)

theorem Frame.replanGo {m : Nat} {s u : State} {x1 : Replan} (k : 0x18100008d0 ||| m = m) : Frame m s (State.replanGo u x1) ↔ Frame m s u := by
  refine Frame.thru (m := 0x18100008d0) ?_ k
  unfold State.replanGo
  repeat' (first | simp (disch := decide) only [↓Frame.avsChange, ↓Frame.putFld, ↓Frame.replanEnd, ↓Frame.setClock, ↓Frame.ite, Frame.refl, ite_self] | split)

theorem Frame.replanStart {m : Nat} {s u : State} {x1 : Bool} {x2 : ClockMeasure} (k : 0x18100008d0 ||| m = m) : Frame m s (State.replanStart u x1 x2) ↔ Frame m s u := by
  refine Frame.thru (m := 0x18100008d0) ?_ k
  unfold State.replanStart
  simp (disch := decide) only [↓Frame.measure, ↓Frame.replanGo, ↓Frame.ite, Frame.refl, ite_self]

theorem Frame.ofCmdReplan {m : Nat} {s u : State} {x1 : ClockMeasure} (k : 0x18100008d0 ||| m = m) : Frame m s (cmdReplan x1 u).state ↔ Frame m s u := by
  refine Frame.thru (m := 0x18100008d0) ?_ k
  unfold cmdReplan
  simp (disch := decide) only [↓Frame.replanStart, ↓Frame.ite, Frame.refl, ite_self, ok, refuse, apply_ite CmdResult.state]

theorem Frame.ofCmdAvsSet {m : Nat} {s u : State} (k : 0x18100008d0 ||| m = m) : Frame m s (cmdAvsSet u).state ↔ Frame m s u := by
  refine Frame.thru (m := 0x18100008d0) ?_ k
  unfold cmdAvsSet
  simp (disch := decide) only [↓Frame.avsToward, ↓Frame.ite, Frame.refl, ite_self, ok, refuse, apply_ite CmdResult.state]

theorem Frame.ofClockCommand {m : Nat} {s u : State} {x1 : CmdInput} {x2 : ℕ} (k : 0x18100008d0 ||| m = m) : Frame m s (clockCommand x1 x2 u).state ↔ Frame m s u := by
  refine Frame.thru (m := 0x18100008d0) ?_ k
  unfold clockCommand
  repeat' (first | simp (disch := decide) only [↓Frame.ofCmdAvsSet, ↓Frame.ofCmdReplan, Frame.refl, refuse] | split)

theorem Frame.ofCmdElementRead {m : Nat} {s u : State} (k : 0x0 ||| m = m) : Frame m s (cmdElementRead u).state ↔ Frame m s u := by
  refine Frame.thru (m := 0x0) ?_ k
  unfold cmdElementRead
  simp (disch := decide) only [Frame.refl, ite_self, refuse, apply_ite CmdResult.state]

theorem Frame.clearJobs {m : Nat} {s u : State} {x1 : ℕ} (k : 0x80000000 ||| m = m) : Frame m s (State.clearJobs u x1) ↔ Frame m s u := by
  refine Frame.thru (m := 0x80000000) ?_ k
  unfold State.clearJobs
  simp (disch := decide) only [↓Frame.setOsc, Frame.refl]

theorem Frame.loseEntry {m : Nat} {s u : State} {x1 x2 x3 : ℕ} (k : 0x8000400 ||| m = m) : Frame m s (State.loseEntry u x1 x2 x3) ↔ Frame m s u := by
  refine Frame.thru (m := 0x8000400) ?_ k
  unfold State.loseEntry
  repeat' (first | simp (disch := decide) only [↓Frame.modSlot, ↓Frame.storeValue, ↓Frame.ite, Frame.refl, ite_self] | split)

theorem Frame.losePacket {m : Nat} {s u : State} {x1 x2 : ℕ} (k : 0x100408d0 ||| m = m) : Frame m s (State.losePacket u x1 x2) ↔ Frame m s u := by
  refine Frame.thru (m := 0x100408d0) ?_ k
  unfold State.losePacket
  simp (disch := decide) only [↓Frame.burst, ↓Frame.count, ↓Frame.putLevel, ↓Frame.raise, ↓Frame.ite, Frame.refl, ite_self]

theorem Frame.loseRecord {m : Nat} {s u : State} {x1 : ℕ} (k : 0x8d0 ||| m = m) : Frame m s (State.loseRecord u x1) ↔ Frame m s u := by
  refine Frame.thru (m := 0x8d0) ?_ k
  unfold State.loseRecord
  repeat' (first | simp (disch := decide) only [↓Frame.reportLoss, ↓Frame.setLedger, Frame.refl] | split)

theorem Frame.captLost {m : Nat} {s u : State} {x1 x2 : ℕ} (k : 0x30000cd0 ||| m = m) : Frame m s (State.captLost u x1 x2) ↔ Frame m s u := by
  refine Frame.thru (m := 0x30000cd0) ?_ k
  unfold State.captLost
  simp (disch := decide) only [↓Frame.count, ↓Frame.event, ↓Frame.putCapt, ↓Frame.raise, ↓Frame.setStk, ↓Frame.stkStore, ↓Frame.ite, Frame.refl, ite_self]

theorem Frame.loseWord {m : Nat} {s u : State} {x1 : MemOwner} (k : 0x3ba04ccd0 ||| m = m) : Frame m s (State.loseWord u x1) ↔ Frame m s u := by
  refine Frame.thru (m := 0x3ba04ccd0) ?_ k
  unfold State.loseWord
  repeat' (first | simp (disch := decide) only [↓Frame.captLost, ↓Frame.clearJobs, ↓Frame.loseEntry, ↓Frame.losePacket, ↓Frame.loseRecord, ↓Frame.putTracker, ↓Frame.setEnergy, ↓Frame.setFault, ↓Frame.setIsle, ↓Frame.setLane, ↓Frame.setReed, ↓Frame.showOsc, ↓Frame.updatePins, ↓Frame.ite, Frame.refl, ite_self] | split)

theorem Frame.crossLost {m : Nat} {s u : State} {x1 x2 : ℕ} (k : 0x2100079d0 ||| m = m) : Frame m s (State.crossLost u x1 x2) ↔ Frame m s u := by
  refine Frame.thru (m := 0x2100079d0) ?_ k
  unfold State.crossLost
  simp (disch := decide) only [↓Frame.clearQual, ↓Frame.moveSources, ↓Frame.setServo, ↓Frame.setTime, Frame.refl]

theorem Frame.sourceLost {m : Nat} {s u : State} (k : 0x2100079d0 ||| m = m) : Frame m s (State.sourceLost u) ↔ Frame m s u := by
  refine Frame.thru (m := 0x2100079d0) ?_ k
  unfold State.sourceLost
  simp (disch := decide) only [↓Frame.clearQual, ↓Frame.crossLost, ↓Frame.moveSources, ↓Frame.setServo, ↓Frame.ite, Frame.refl, ite_self]

theorem Frame.retryComplete {m : Nat} {s u : State} {x1 x2 : ℕ} {x3 x4 : Bool} {x5 : MemOwner} (k : 0x23fa07fdd8 ||| m = m) : Frame m s (State.retryComplete u x1 x2 x3 x4 x5) ↔ Frame m s u := by
  refine Frame.thru (m := 0x23fa07fdd8) ?_ k
  unfold State.retryComplete
  simp (disch := decide) only [↓Frame.checkFailed, ↓Frame.countClass, ↓Frame.lasting, ↓Frame.lastingOn, ↓Frame.linkDown, ↓Frame.loseWord, ↓Frame.sourceLost, ↓Frame.transient, ↓Frame.ite, Frame.refl, ite_self]

theorem Frame.ofCmdInject {m : Nat} {s u : State} (k : 0x23fa07fdd8 ||| m = m) : Frame m s (cmdInject u).state ↔ Frame m s u := by
  refine Frame.thru (m := 0x23fa07fdd8) ?_ k
  unfold cmdInject
  simp (disch := decide) only [↓Frame.event, ↓Frame.retryComplete, ↓Frame.ite, Frame.refl, ite_self, ok, refuse, apply_ite CmdResult.state]

theorem Frame.ofCmdRestore {m : Nat} {s u : State} (k : 0x25803fdd8 ||| m = m) : Frame m s (cmdRestore u).state ↔ Frame m s u := by
  refine Frame.thru (m := 0x25803fdd8) ?_ k
  unfold cmdRestore
  simp (disch := decide) only [↓Frame.putElem, ↓Frame.showFenced, ↓Frame.startRestore, ↓Frame.ite, Frame.refl, ite_self, ok, refuse, apply_ite CmdResult.state]

theorem Frame.ofCmdHoldRelease {m : Nat} {s u : State} (k : 0x21000c8d0 ||| m = m) : Frame m s (cmdHoldRelease u).state ↔ Frame m s u := by
  refine Frame.thru (m := 0x21000c8d0) ?_ k
  unfold cmdHoldRelease
  simp (disch := decide) only [↓Frame.endHold, ↓Frame.ite, Frame.refl, ite_self, ok, refuse, apply_ite CmdResult.state]

theorem Frame.ofCmdCountersClear {m : Nat} {s u : State} (k : 0x10 ||| m = m) : Frame m s (cmdCountersClear u).state ↔ Frame m s u := by
  refine Frame.thru (m := 0x10) ?_ k
  unfold cmdCountersClear
  repeat' (first | simp (disch := first | decide | rfl | (intros; simp (disch := first | decide | rfl | (intros; simp (disch := decide) only [↓Frame.ofOk, ↓Frame.putReg, ↓Frame.ite, ↓Frame.foldl, ↓Frame.foldlFst, Frame.refl, ite_self, ok, refuse, apply_ite CmdResult.state, apply_ite Prod.fst, apply_ite Prod.snd])) only [↓Frame.ofOk, ↓Frame.putReg, ↓Frame.ite, ↓Frame.foldl, ↓Frame.foldlFst, Frame.refl, ite_self, ok, refuse, apply_ite CmdResult.state, apply_ite Prod.fst, apply_ite Prod.snd])) only [↓Frame.ofOk, ↓Frame.foldl, Frame.refl] | split)

theorem Frame.ofFaultCommand {m : Nat} {s u : State} {x1 : ℕ} (k : 0x23fa07fdd8 ||| m = m) : Frame m s (faultCommand x1 u).state ↔ Frame m s u := by
  refine Frame.thru (m := 0x23fa07fdd8) ?_ k
  unfold faultCommand
  repeat' (first | simp (disch := decide) only [↓Frame.ofCmdCountersClear, ↓Frame.ofCmdElementRead, ↓Frame.ofCmdHoldRelease, ↓Frame.ofCmdInject, ↓Frame.ofCmdRestore, Frame.refl, refuse] | split)

theorem Frame.ofCommandOf {m : Nat} {s u : State} {x1 : Path} {x2 : CmdInput} {x3 x4 : ℕ} (k : 0x3bff2fffd8 ||| m = m) : Frame m s (commandOf x1 x2 x3 x4 u).state ↔ Frame m s u := by
  refine Frame.thru (m := 0x3bff2fffd8) ?_ k
  unfold commandOf
  repeat' (first | simp (disch := decide) only [↓Frame.ofCaptCommand, ↓Frame.ofCheckCommand, ↓Frame.ofClockCommand, ↓Frame.ofDraftCommand, ↓Frame.ofEnergyCommand, ↓Frame.ofFaultCommand, ↓Frame.ofGlobalCommand, ↓Frame.ofHeddleCommand, ↓Frame.ofIsleCommand, ↓Frame.ofLedgerCommand, ↓Frame.ofLoomCommand, ↓Frame.ofOscCommand, ↓Frame.ofPairCommand, ↓Frame.ofPortCommand, ↓Frame.ofPowerCommand, ↓Frame.ofQueueCommand, ↓Frame.ofReedCommand, ↓Frame.ofShuttleCommand, ↓Frame.ofSlvCommand, ↓Frame.ofTimeCommand, ↓Frame.ofVoteCommand, Frame.refl, refuse] | split)

theorem Frame.writeCmd {m : Nat} {s u : State} {x1 : Path} {x2 : CmdInput} {x3 x4 : ℕ} (k : 0x3bff2fffd8 ||| m = m) : Frame m s (State.writeCmd u x1 x2 x3 x4) ↔ Frame m s u := by
  refine Frame.thru (m := 0x3bff2fffd8) ?_ k
  unfold State.writeCmd
  repeat' (first | simp (disch := first | decide | rfl | (intros; (repeat' (first | simp (disch := first | decide | rfl | (intros; (repeat' (first | simp (disch := decide) only [↓Frame.ofCommandOf, ↓Frame.ofIssue, ↓Frame.putReg, ↓Frame.ite, ↓Frame.foldl, ↓Frame.foldlFst, Frame.refl, ite_self, ok, refuse, apply_ite CmdResult.state, apply_ite Prod.fst, apply_ite Prod.snd] | split)); done)) only [↓Frame.ofCommandOf, ↓Frame.ofIssue, ↓Frame.putReg, ↓Frame.ite, ↓Frame.foldl, ↓Frame.foldlFst, Frame.refl, ite_self, ok, refuse, apply_ite CmdResult.state, apply_ite Prod.fst, apply_ite Prod.snd] | split)); done)) only [↓Frame.ofIssue, ↓Frame.putReg, ↓Frame.ite, Frame.refl, ite_self] | split)

theorem Frame.showRequest {m : Nat} {s u : State} {x1 : Path} {x2 x3 : ℕ} (k : 0x10 ||| m = m) : Frame m s (State.showRequest u x1 x2 x3) ↔ Frame m s u := by
  refine Frame.thru (m := 0x10) ?_ k
  unfold State.showRequest
  simp (disch := decide) only [↓Frame.putReg, Frame.refl]

theorem Frame.refusedRequest {m : Nat} {s u : State} {x1 x2 : ℕ} (k : 0x100008d0 ||| m = m) : Frame m s (State.refusedRequest u x1 x2) ↔ Frame m s u := by
  refine Frame.thru (m := 0x100008d0) ?_ k
  unfold State.refusedRequest
  simp (disch := decide) only [↓Frame.event, Frame.refl]

theorem Frame.overload {m : Nat} {s u : State} {x1 x2 : Bool} (k : 0x110 ||| m = m) : Frame m s (State.overload u x1 x2) ↔ Frame m s u := by
  refine Frame.thru (m := 0x110) ?_ k
  unfold State.overload
  simp (disch := decide) only [↓Frame.condition, ↓Frame.putFld, Frame.refl]

theorem Frame.decideRequest {m : Nat} {s u : State} {x1 : ℕ} {x2 : Path} (k : 0x20110 ||| m = m) : Frame m s (State.decideRequest u x1 x2) ↔ Frame m s u := by
  refine Frame.thru (m := 0x20110) ?_ k
  unfold State.decideRequest
  repeat' (first | simp (disch := first | decide | rfl | (intros; simp (disch := first | decide | rfl | (intros; simp (disch := decide) only [↓Frame.decideMode, ↓Frame.setPower, ↓Frame.ite, ↓Frame.foldl, ↓Frame.foldlFst, Frame.refl, ite_self, ok, refuse, apply_ite CmdResult.state, apply_ite Prod.fst, apply_ite Prod.snd])) only [↓Frame.decideMode, ↓Frame.setPower, ↓Frame.ite, ↓Frame.foldl, ↓Frame.foldlFst, Frame.refl, ite_self, ok, refuse, apply_ite CmdResult.state, apply_ite Prod.fst, apply_ite Prod.snd])) only [↓Frame.decideMode, ↓Frame.setPower, ↓Frame.ite, ↓Frame.foldl, Frame.refl, ite_self] | split)

theorem Frame.modeRequest {m : Nat} {s u : State} {x1 : Path} {x2 : ℕ} (k : 0x2100249d0 ||| m = m) : Frame m s (State.modeRequest u x1 x2) ↔ Frame m s u := by
  refine Frame.thru (m := 0x2100249d0) ?_ k
  unfold State.modeRequest
  simp (disch := decide) only [↓Frame.count, ↓Frame.decideRequest, ↓Frame.endPinTest, ↓Frame.event, ↓Frame.overload, ↓Frame.raise, ↓Frame.refusedRequest, ↓Frame.showRequest, ↓Frame.ite, Frame.refl, ite_self]

theorem Frame.changeOwner {m : Nat} {s u : State} {x1 x2 : ℕ} (k : 0x100008d0 ||| m = m) : Frame m s (State.changeOwner u x1 x2) ↔ Frame m s u := by
  refine Frame.thru (m := 0x100008d0) ?_ k
  unfold State.changeOwner
  simp (disch := decide) only [↓Frame.event, ↓Frame.putFld, ↓Frame.raise, ↓Frame.ite, Frame.refl, ite_self]

theorem Frame.reclaimMaster {m : Nat} {s u : State} (k : 0x100008d0 ||| m = m) : Frame m s (State.reclaimMaster u) ↔ Frame m s u := by
  refine Frame.thru (m := 0x100008d0) ?_ k
  unfold State.reclaimMaster
  simp (disch := decide) only [↓Frame.changeOwner, ↓Frame.ite, Frame.refl, ite_self]

theorem Frame.writeMaster {m : Nat} {s u : State} {x1 : ℕ} (k : 0x100008d0 ||| m = m) : Frame m s (State.writeMaster u x1) ↔ Frame m s u := by
  refine Frame.thru (m := 0x100008d0) ?_ k
  unfold State.writeMaster
  simp (disch := decide) only [↓Frame.putFld, ↓Frame.reclaimMaster, ↓Frame.ite, Frame.refl, ite_self]

theorem Frame.setReadOnly {m : Nat} {s u : State} (k : 0x100008d0 ||| m = m) : Frame m s (State.setReadOnly u) ↔ Frame m s u := by
  refine Frame.thru (m := 0x100008d0) ?_ k
  unfold State.setReadOnly
  simp (disch := decide) only [↓Frame.changeOwner, ↓Frame.putFld, ↓Frame.ite, Frame.refl, ite_self]

theorem Frame.writeMask {m : Nat} {s u : State} {x1 x2 : ℕ} (k : 0x810 ||| m = m) : Frame m s (State.writeMask u x1 x2) ↔ Frame m s u := by
  refine Frame.thru (m := 0x810) ?_ k
  unfold State.writeMask
  simp (disch := decide) only [↓Frame.putFld, ↓Frame.putReg, ↓Frame.signal, ↓Frame.ite, Frame.refl, ite_self]

theorem Frame.writeFields {m : Nat} {s u : State} {x1 : Path} {x2 x3 : ℕ} {x4 : RegRow} (k : 0x10 ||| m = m) : Frame m s (State.writeFields u x1 x2 x3 x4) ↔ Frame m s u := by
  refine Frame.thru (m := 0x10) ?_ k
  unfold State.writeFields
  simp (disch := decide) only [↓Frame.putReg, ↓Frame.reject, ↓Frame.ite, Frame.refl, ite_self]

theorem Frame.dmaError {m : Nat} {s u : State} {x1 x2 x3 : ℕ} (k : 0x100008d0 ||| m = m) : Frame m s (State.dmaError u x1 x2 x3) ↔ Frame m s u := by
  refine Frame.thru (m := 0x100008d0) ?_ k
  unfold State.dmaError
  simp (disch := decide) only [↓Frame.event, ↓Frame.queueState, ↓Frame.raise, Frame.refl]

theorem Frame.writeDoorbell {m : Nat} {s u : State} {x1 x2 : ℕ} (k : 0x100008d0 ||| m = m) : Frame m s (State.writeDoorbell u x1 x2) ↔ Frame m s u := by
  refine Frame.thru (m := 0x100008d0) ?_ k
  unfold State.writeDoorbell
  simp (disch := decide) only [↓Frame.dmaError, ↓Frame.putReg, ↓Frame.ite, Frame.refl, ite_self]

theorem Frame.writeQueue {m : Nat} {s u : State} {x1 : Path} {x2 x3 : ℕ} {x4 : RegRow} (k : 0x100408d0 ||| m = m) : Frame m s (State.writeQueue u x1 x2 x3 x4) ↔ Frame m s u := by
  refine Frame.thru (m := 0x100408d0) ?_ k
  unfold State.writeQueue
  repeat' (first | simp (disch := decide) only [↓Frame.flushQueue, ↓Frame.putLevel, ↓Frame.reject, ↓Frame.writeDoorbell, ↓Frame.writeFields, ↓Frame.ite, Frame.refl, ite_self] | split)

theorem Frame.writeReg {m : Nat} {s u : State} {x1 : Path} {x2 : CmdInput} {x3 x4 : ℕ} (k : 0x3bff2fffd8 ||| m = m) : Frame m s (State.writeReg u x1 x2 x3 x4) ↔ Frame m s u := by
  refine Frame.thru (m := 0x3bff2fffd8) ?_ k
  unfold State.writeReg
  dsimp only
  repeat' (first | with_reducible refine Frame.both ?_ ?_ | simp (disch := first | decide | rfl | (intros; (repeat' (first | simp (disch := first | decide | rfl | (intros; (repeat' (first | simp (disch := decide) only [↓Frame.afterWriteOf, ↓Frame.hostErr, ↓Frame.modeRequest, ↓Frame.reject, ↓Frame.setReadOnly, ↓Frame.writeCmd, ↓Frame.writeFields, ↓Frame.writeIrq, ↓Frame.writeIrqSet, ↓Frame.writeMask, ↓Frame.writeMaster, ↓Frame.writeQueue, ↓Frame.ite, ↓Frame.foldl, ↓Frame.foldlFst, Frame.refl, ite_self, ok, refuse, apply_ite CmdResult.state, apply_ite Prod.fst, apply_ite Prod.snd] | split)); done)) only [↓Frame.afterWriteOf, ↓Frame.hostErr, ↓Frame.modeRequest, ↓Frame.reject, ↓Frame.setReadOnly, ↓Frame.writeCmd, ↓Frame.writeFields, ↓Frame.writeIrq, ↓Frame.writeIrqSet, ↓Frame.writeMask, ↓Frame.writeMaster, ↓Frame.writeQueue, ↓Frame.ite, ↓Frame.foldl, ↓Frame.foldlFst, Frame.refl, ite_self, ok, refuse, apply_ite CmdResult.state, apply_ite Prod.fst, apply_ite Prod.snd] | split)); done)) only [↓Frame.afterWriteOf, ↓Frame.hostErr, ↓Frame.modeRequest, ↓Frame.reject, ↓Frame.setReadOnly, ↓Frame.writeCmd, ↓Frame.writeFields, ↓Frame.writeIrq, ↓Frame.writeIrqSet, ↓Frame.writeMask, ↓Frame.writeMaster, ↓Frame.writeQueue, Frame.refl] | split)

theorem Frame.busWrite {m : Nat} {s u : State} {x1 : Path} {x2 : CmdInput} {x3 x4 : ℕ} {x5 : Bool} (k : 0x3bff2fffd8 ||| m = m) : Frame m s (State.busWrite u x1 x2 x3 x4 x5) ↔ Frame m s u := by
  refine Frame.thru (m := 0x3bff2fffd8) ?_ k
  unfold State.busWrite
  repeat' (first | simp (disch := first | decide | rfl | (intros; simp (disch := first | decide | rfl | (intros; simp (disch := decide) only [↓Frame.access, ↓Frame.hostErr, ↓Frame.writeReg, ↓Frame.ite, ↓Frame.foldl, ↓Frame.foldlFst, Frame.refl, ite_self, ok, refuse, apply_ite CmdResult.state, apply_ite Prod.fst, apply_ite Prod.snd])) only [↓Frame.access, ↓Frame.hostErr, ↓Frame.writeReg, ↓Frame.ite, ↓Frame.foldl, ↓Frame.foldlFst, Frame.refl, ite_self, ok, refuse, apply_ite CmdResult.state, apply_ite Prod.fst, apply_ite Prod.snd])) only [↓Frame.access, ↓Frame.hostErr, ↓Frame.ite, Frame.refl, ite_self] | split)

theorem Frame.cfgCopy {m : Nat} {s u : State} {x1 x2 : ℕ} {x3 : HedFrame} (k : 0x100408d0 ||| m = m) : Frame m s (State.cfgCopy u x1 x2 x3) ↔ Frame m s u := by
  refine Frame.thru (m := 0x100408d0) ?_ k
  unfold State.cfgCopy
  simp (disch := decide) only [↓Frame.commit, ↓Frame.count, ↓Frame.ite, Frame.refl, ite_self]

theorem Frame.unknownStream {m : Nat} {s u : State} {x1 : ℕ} {x2 : HedFrame} (k : 0x100408d0 ||| m = m) : Frame m s (State.unknownStream u x1 x2) ↔ Frame m s u := by
  refine Frame.thru (m := 0x100408d0) ?_ k
  unfold State.unknownStream
  simp (disch := decide) only [↓Frame.cfgCopy, ↓Frame.count, ↓Frame.raise, ↓Frame.ite, Frame.refl, ite_self]

theorem State.takeC37_frame (u : State) (x1 : List ℕ) (x2 : HedFrame → List Byte → ℕ) : Frame 0x101408d0 u (State.takeC37 u x1 x2).1 := by
  unfold State.takeC37
  repeat' (first | simp (disch := decide) only [↓Frame.count, ↓Frame.setHedQ, ↓Frame.unknownStream, ↓Frame.ite, Frame.refl, ite_self, apply_ite Prod.fst] | split)
theorem Frame.takeC37 {m : Nat} {s u : State} {x1 : List ℕ} {x2 : HedFrame → List Byte → ℕ} (k : 0x101408d0 ||| m = m) : Frame m s (State.takeC37 u x1 x2).1 ↔ Frame m s u :=
  (State.takeC37_frame u x1 x2).thru k

theorem Frame.c37Command {m : Nat} {s u : State} (k : 0x101408d0 ||| m = m) : Frame m s (State.c37Command u) ↔ Frame m s u := by
  refine Frame.thru (m := 0x101408d0) ?_ k
  have ht := State.takeC37_frame u [4, 6, 7] (fun f e => (u.c37Stamp f.payload e).1)
  replace ht := ht.mono (n := 0x101408d0) (by decide)
  unfold State.c37Command
  generalize u.takeC37 [4, 6, 7] (fun f e => (u.c37Stamp f.payload e).1) = p at *
  rcases p with ⟨v, _ | ⟨f, sid, e, t⟩⟩
  all_goals (refine Frame.trans ht ?_; dsimp only)
  all_goals (repeat' (first | simp (disch := first | decide | rfl | (intros; (repeat' (first | simp (disch := first | decide | rfl | (intros; (repeat' (first | simp (disch := decide) only [↓Frame.count, ↓Frame.takeC37, ↓Frame.ite, ↓Frame.foldl, ↓Frame.foldlFst, Frame.refl, ite_self, ok, refuse, apply_ite CmdResult.state, apply_ite Prod.fst, apply_ite Prod.snd] | split)); done)) only [↓Frame.count, ↓Frame.takeC37, ↓Frame.ite, ↓Frame.foldl, ↓Frame.foldlFst, Frame.refl, ite_self, ok, refuse, apply_ite CmdResult.state, apply_ite Prod.fst, apply_ite Prod.snd] | split)); done)) only [↓Frame.count, Frame.refl] | split))

theorem Frame.setStream {m : Nat} {s u : State} {x1 x2 : ℕ} (k : 0x200000 ||| m = m) : Frame m s (State.setStream u x1 x2) ↔ Frame m s u := by
  refine Frame.thru (m := 0x200000) ?_ k
  unfold State.setStream
  simp (disch := decide) only [↓Frame.putStream, Frame.refl]

theorem Frame.judgeConfig {m : Nat} {s u : State} {x1 x2 x3 x4 : ℕ} (k : 0x102008d0 ||| m = m) : Frame m s (State.judgeConfig u x1 x2 x3 x4) ↔ Frame m s u := by
  refine Frame.thru (m := 0x102008d0) ?_ k
  unfold State.judgeConfig
  simp (disch := decide) only [↓Frame.event, ↓Frame.raise, ↓Frame.setStream, ↓Frame.ite, Frame.refl, ite_self]

theorem Frame.judge {m : Nat} {s u : State} {x1 x2 x3 x4 : ℕ} (k : 0x162008d0 ||| m = m) : Frame m s (State.judge u x1 x2 x3 x4) ↔ Frame m s u := by
  refine Frame.thru (m := 0x162008d0) ?_ k
  unfold State.judge
  simp (disch := decide) only [↓Frame.judgeConfig, ↓Frame.reedDown, ↓Frame.ite, Frame.refl, ite_self]

theorem Frame.c37Config {m : Nat} {s u : State} (k : 0x163408d0 ||| m = m) : Frame m s (State.c37Config u) ↔ Frame m s u := by
  refine Frame.thru (m := 0x163408d0) ?_ k
  have ht := State.takeC37_frame u [2, 3, 5] (fun f e => (u.c37Stamp f.payload e).1)
  replace ht := ht.mono (n := 0x163408d0) (by decide)
  unfold State.c37Config
  generalize u.takeC37 [2, 3, 5] (fun f e => (u.c37Stamp f.payload e).1) = p at *
  rcases p with ⟨v, _ | ⟨f, sid, e, t⟩⟩
  all_goals (refine Frame.trans ht ?_; dsimp only)
  all_goals (repeat' (first | simp (disch := first | decide | rfl | (intros; (repeat' (first | simp (disch := first | decide | rfl | (intros; (repeat' (first | simp (disch := decide) only [↓Frame.cfgCopy, ↓Frame.count, ↓Frame.judge, ↓Frame.putStream, ↓Frame.takeC37, ↓Frame.ite, ↓Frame.foldl, ↓Frame.foldlFst, Frame.refl, ite_self, ok, refuse, apply_ite CmdResult.state, apply_ite Prod.fst, apply_ite Prod.snd] | split)); done)) only [↓Frame.cfgCopy, ↓Frame.count, ↓Frame.judge, ↓Frame.putStream, ↓Frame.takeC37, ↓Frame.ite, ↓Frame.foldl, ↓Frame.foldlFst, Frame.refl, ite_self, ok, refuse, apply_ite CmdResult.state, apply_ite Prod.fst, apply_ite Prod.snd] | split)); done)) only [↓Frame.cfgCopy, ↓Frame.count, ↓Frame.judge, ↓Frame.putStream, Frame.refl] | split))

theorem State.underHold_cases (u : State) (sid t : Nat) (f : State → State) :
    (∃ w, Frame 0x200000 u w ∧ Frame 0x200000 (f w) (u.underHold sid t f)) ∨ Frame 0x200000 u (u.underHold sid t f) := by
  unfold State.underHold
  split
  · exact Or.inl ⟨u, Frame.refl _ _, Frame.refl _ _⟩
  · split
    · exact Or.inl ⟨u, Frame.refl _ _, Frame.refl _ _⟩
    · refine Or.inl ⟨_, ?_, (Frame.setStream ?_).mpr (Frame.refl _ (f (u.setStream sid 5)))⟩
      · simp (disch := first | decide | rfl | (intros; (repeat' (first | simp (disch := first | decide | rfl | (intros; (repeat' (first | simp (disch := decide) only [↓Frame.setStream, ↓Frame.ite, ↓Frame.foldl, ↓Frame.foldlFst, Frame.refl, ite_self, ok, refuse, apply_ite CmdResult.state, apply_ite Prod.fst, apply_ite Prod.snd] | split)); done)) only [↓Frame.setStream, ↓Frame.ite, ↓Frame.foldl, ↓Frame.foldlFst, Frame.refl, ite_self, ok, refuse, apply_ite CmdResult.state, apply_ite Prod.fst, apply_ite Prod.snd] | split)); done)) only [↓Frame.setStream, Frame.refl]
      · decide

theorem Frame.underHold {m : Nat} {s u : State} (sid t : Nat) (f : State → State) (h : ∀ w, Frame m w (f w)) (k : 0x200000 ||| m = m) :
    Frame m s (u.underHold sid t f) ↔ Frame m s u := by
  rcases State.underHold_cases u sid t f with ⟨w, a, b⟩ | a
  · exact (((a.mono k).trans (h w)).trans (b.mono k)).thru (Nat.or_self m)
  · exact a.thru k

theorem Frame.streamUp {m : Nat} {s u : State} {x1 : ℕ} (k : 0x102008d0 ||| m = m) : Frame m s (State.streamUp u x1) ↔ Frame m s u := by
  refine Frame.thru (m := 0x102008d0) ?_ k
  unfold State.streamUp
  simp (disch := decide) only [↓Frame.event, ↓Frame.raise, ↓Frame.setStream, ↓Frame.ite, Frame.refl, ite_self]

theorem Frame.cfgChanged {m : Nat} {s u : State} {x1 : ℕ} {x2 : List Byte} (k : 0x162c18d0 ||| m = m) : Frame m s (State.cfgChanged u x1 x2) ↔ Frame m s u := by
  refine Frame.thru (m := 0x162c18d0) ?_ k
  unfold State.cfgChanged
  simp (disch := decide) only [↓Frame.reedDown, ↓Frame.requestCommand, ↓Frame.setStream, ↓Frame.ite, Frame.refl, ite_self]

theorem Frame.c37Data {m : Nat} {s u : State} (k : 0x177c18d0 ||| m = m) : Frame m s (State.c37Data u) ↔ Frame m s u := by
  refine Frame.thru (m := 0x177c18d0) ?_ k
  have ht := State.takeC37_frame u [0] (fun f e => (u.c37Stamp f.payload e).1)
  replace ht := ht.mono (n := 0x177c18d0) (by decide)
  unfold State.c37Data
  generalize u.takeC37 [0] (fun f e => (u.c37Stamp f.payload e).1) = p at *
  rcases p with ⟨v, _ | ⟨f, sid, e, t⟩⟩
  all_goals (refine Frame.trans ht ?_; dsimp only)
  all_goals (repeat' (first | simp (disch := first | decide | rfl | (intros; (repeat' (first | simp (disch := first | decide | rfl | (intros; (repeat' (first | simp (disch := decide) only [↓Frame.blockItems, ↓Frame.cfgChanged, ↓Frame.count, ↓Frame.putStream, ↓Frame.streamUp, ↓Frame.takeC37, ↓Frame.underHold, ↓Frame.ite, ↓Frame.foldl, ↓Frame.foldlFst, Frame.refl, ite_self, ok, refuse, apply_ite CmdResult.state, apply_ite Prod.fst, apply_ite Prod.snd] | split)); done)) only [↓Frame.blockItems, ↓Frame.cfgChanged, ↓Frame.count, ↓Frame.putStream, ↓Frame.streamUp, ↓Frame.takeC37, ↓Frame.underHold, ↓Frame.ite, ↓Frame.foldl, ↓Frame.foldlFst, Frame.refl, ite_self, ok, refuse, apply_ite CmdResult.state, apply_ite Prod.fst, apply_ite Prod.snd] | split)); done)) only [↓Frame.count, ↓Frame.putStream, ↓Frame.underHold, ↓Frame.ite, Frame.refl, ite_self] | split))

theorem Frame.c37Header {m : Nat} {s u : State} (k : 0x101408d0 ||| m = m) : Frame m s (State.c37Header u) ↔ Frame m s u := by
  refine Frame.thru (m := 0x101408d0) ?_ k
  have ht := State.takeC37_frame u [1] (fun f e => (u.c37Stamp f.payload e).1)
  replace ht := ht.mono (n := 0x101408d0) (by decide)
  unfold State.c37Header
  generalize u.takeC37 [1] (fun f e => (u.c37Stamp f.payload e).1) = p at *
  rcases p with ⟨v, _ | ⟨f, sid, e, t⟩⟩
  all_goals (refine Frame.trans ht ?_; dsimp only)
  all_goals (repeat' (first | simp (disch := first | decide | rfl | (intros; (repeat' (first | simp (disch := first | decide | rfl | (intros; (repeat' (first | simp (disch := decide) only [↓Frame.cfgCopy, ↓Frame.takeC37, ↓Frame.ite, ↓Frame.foldl, ↓Frame.foldlFst, Frame.refl, ite_self, ok, refuse, apply_ite CmdResult.state, apply_ite Prod.fst, apply_ite Prod.snd] | split)); done)) only [↓Frame.cfgCopy, ↓Frame.takeC37, ↓Frame.ite, ↓Frame.foldl, ↓Frame.foldlFst, Frame.refl, ite_self, ok, refuse, apply_ite CmdResult.state, apply_ite Prod.fst, apply_ite Prod.snd] | split)); done)) only [↓Frame.cfgCopy, ↓Frame.ite, Frame.refl, ite_self] | split))

theorem Frame.canaryError {m : Nat} {s u : State} {x1 x2 : ℕ} {x3 : ClockMeasure} (k : 0x18100008d0 ||| m = m) : Frame m s (State.canaryError u x1 x2 x3) ↔ Frame m s u := by
  refine Frame.thru (m := 0x18100008d0) ?_ k
  unfold State.canaryError
  simp (disch := decide) only [↓Frame.count, ↓Frame.event, ↓Frame.raise, ↓Frame.replanStart, ↓Frame.ite, Frame.refl, ite_self]

theorem Frame.captLoad {m : Nat} {s u : State} (k : 0x20000410 ||| m = m) : Frame m s (State.captLoad u) ↔ Frame m s u := by
  refine Frame.thru (m := 0x20000410) ?_ k
  unfold State.captLoad
  repeat' (first | simp (disch := first | decide | rfl | (intros; simp (disch := first | decide | rfl | (intros; simp (disch := decide) only [↓Frame.putCapt, ↓Frame.putPair, ↓Frame.putReg, ↓Frame.setCapt, ↓Frame.setStk, ↓Frame.ite, ↓Frame.foldl, ↓Frame.foldlFst, Frame.refl, ite_self, ok, refuse, apply_ite CmdResult.state, apply_ite Prod.fst, apply_ite Prod.snd])) only [↓Frame.putCapt, ↓Frame.putPair, ↓Frame.putReg, ↓Frame.setCapt, ↓Frame.setStk, ↓Frame.ite, ↓Frame.foldl, ↓Frame.foldlFst, Frame.refl, ite_self, ok, refuse, apply_ite CmdResult.state, apply_ite Prod.fst, apply_ite Prod.snd])) only [↓Frame.setCapt, ↓Frame.foldl, Frame.refl] | split)

theorem Frame.captSample {m : Nat} {s u : State} {x1 : WaveSample} {x2 : ℕ} (k : 0x20000410 ||| m = m) : Frame m s (State.captSample u x1 x2) ↔ Frame m s u := by
  refine Frame.thru (m := 0x20000410) ?_ k
  unfold State.captSample
  repeat' (first | simp (disch := decide) only [↓Frame.captEntry, ↓Frame.flushRuns, ↓Frame.putCapt, ↓Frame.ite, Frame.refl, ite_self] | split)

theorem Frame.captStart {m : Nat} {s u : State} (k : 0x300008d0 ||| m = m) : Frame m s (State.captStart u) ↔ Frame m s u := by
  refine Frame.thru (m := 0x300008d0) ?_ k
  unfold State.captStart
  repeat' (first | simp (disch := first | decide | rfl | (intros; simp (disch := first | decide | rfl | (intros; simp (disch := decide) only [↓Frame.armRegion, ↓Frame.ite, ↓Frame.foldl, ↓Frame.foldlFst, Frame.refl, ite_self, ok, refuse, apply_ite CmdResult.state, apply_ite Prod.fst, apply_ite Prod.snd])) only [↓Frame.armRegion, ↓Frame.ite, ↓Frame.foldl, ↓Frame.foldlFst, Frame.refl, ite_self, ok, refuse, apply_ite CmdResult.state, apply_ite Prod.fst, apply_ite Prod.snd])) only [↓Frame.foldl, Frame.refl] | split)

theorem Frame.captStop {m : Nat} {s u : State} (k : 0x30000cd0 ||| m = m) : Frame m s (State.captStop u) ↔ Frame m s u := by
  refine Frame.thru (m := 0x30000cd0) ?_ k
  unfold State.captStop
  repeat' (first | simp (disch := first | decide | rfl | (intros; simp (disch := first | decide | rfl | (intros; simp (disch := decide) only [↓Frame.closeRecord, ↓Frame.disarmRegion, ↓Frame.ite, ↓Frame.foldl, ↓Frame.foldlFst, Frame.refl, ite_self, ok, refuse, apply_ite CmdResult.state, apply_ite Prod.fst, apply_ite Prod.snd])) only [↓Frame.closeRecord, ↓Frame.disarmRegion, ↓Frame.ite, ↓Frame.foldl, ↓Frame.foldlFst, Frame.refl, ite_self, ok, refuse, apply_ite CmdResult.state, apply_ite Prod.fst, apply_ite Prod.snd])) only [↓Frame.foldl, Frame.refl] | split)

theorem Frame.captWave {m : Nat} {s u : State} {x1 : WaveSample} (k : 0x20000410 ||| m = m) : Frame m s (State.captWave u x1) ↔ Frame m s u := by
  refine Frame.thru (m := 0x20000410) ?_ k
  unfold State.captWave
  repeat' (first | simp (disch := first | decide | rfl | (intros; simp (disch := first | decide | rfl | (intros; simp (disch := decide) only [↓Frame.captSample, ↓Frame.ite, ↓Frame.foldl, ↓Frame.foldlFst, Frame.refl, ite_self, ok, refuse, apply_ite CmdResult.state, apply_ite Prod.fst, apply_ite Prod.snd])) only [↓Frame.captSample, ↓Frame.ite, ↓Frame.foldl, ↓Frame.foldlFst, Frame.refl, ite_self, ok, refuse, apply_ite CmdResult.state, apply_ite Prod.fst, apply_ite Prod.snd])) only [↓Frame.ite, ↓Frame.foldl, Frame.refl, ite_self] | split)

theorem Frame.putAgain {m : Nat} {s u : State} {x1 : ℕ} {x2 : SlvSent} (k : 0x10000810 ||| m = m) : Frame m s (State.putAgain u x1 x2) ↔ Frame m s u := by
  refine Frame.thru (m := 0x10000810) ?_ k
  unfold State.putAgain
  simp (disch := decide) only [↓Frame.putCell, ↓Frame.putLink, Frame.refl]

theorem State.mirrorCell_frame (u : State) : ∀ c v, u.mirrorCell = some (c, v) → Frame 0x10000000 u v := by
  intro c v e
  unfold State.mirrorCell at e
  dsimp only at e
  generalize (if u.slv.mirrorPart = 0 then _ else _) = q at e
  cases q with
  | nil => cases e
  | cons a l => injection e with e; injection e with e1 e; subst e; simp (disch := first | decide | rfl | (intros; (repeat' (first | simp (disch := first | decide | rfl | (intros; (repeat' (first | simp (disch := decide) only [↓Frame.setSlv, ↓Frame.ite, ↓Frame.foldl, ↓Frame.foldlFst, Frame.refl, ite_self, ok, refuse, apply_ite CmdResult.state, apply_ite Prod.fst, apply_ite Prod.snd] | split)); done)) only [↓Frame.setSlv, ↓Frame.ite, ↓Frame.foldl, ↓Frame.foldlFst, Frame.refl, ite_self, ok, refuse, apply_ite CmdResult.state, apply_ite Prod.fst, apply_ite Prod.snd] | split)); done)) only [↓Frame.setSlv, Frame.refl]

theorem Frame.freeCell {m : Nat} {s u : State} {x1 : Option ℕ} (k : 0x10000010 ||| m = m) : Frame m s (State.freeCell u x1) ↔ Frame m s u := by
  refine Frame.thru (m := 0x10000010) ?_ k
  unfold State.freeCell
  repeat' (first | simp (disch := decide) only [↓Frame.putLink, Frame.refl] | split)

theorem Frame.putSequenced {m : Nat} {s u : State} {x1 : ℕ} {x2 : SlvCell} (k : 0x10000810 ||| m = m) : Frame m s (State.putSequenced u x1 x2) ↔ Frame m s u := by
  refine Frame.thru (m := 0x10000810) ?_ k
  unfold State.putSequenced
  simp (disch := decide) only [↓Frame.freeCell, ↓Frame.putCell, ↓Frame.putLink, Frame.refl]

theorem State.ownCell_frame (u : State) (n : Nat) : ∀ c v, u.ownCell n = some (c, v) → Frame 0x10000010 u v := by
  intro c v e
  unfold State.ownCell at e
  dsimp only at e
  repeat' (first | (cases e; done) | (injection e with e; injection e with e1 e; subst e; simp (disch := first | decide | rfl | (intros; (repeat' (first | simp (disch := first | decide | rfl | (intros; (repeat' (first | simp (disch := decide) only [↓Frame.count, ↓Frame.putLink, ↓Frame.ite, ↓Frame.foldl, ↓Frame.foldlFst, Frame.refl, ite_self, ok, refuse, apply_ite CmdResult.state, apply_ite Prod.fst, apply_ite Prod.snd] | split)); done)) only [↓Frame.count, ↓Frame.putLink, ↓Frame.ite, ↓Frame.foldl, ↓Frame.foldlFst, Frame.refl, ite_self, ok, refuse, apply_ite CmdResult.state, apply_ite Prod.fst, apply_ite Prod.snd] | split)); done)) only [↓Frame.count, ↓Frame.putLink, ↓Frame.ite, Frame.refl, ite_self]; done) | split at e)

theorem State.passCell_frame (u : State) (n k : Nat) : ∀ c v, u.passCell n k = some (c, v) → Frame 0x10000010 u v := by
  intro c v e
  unfold State.passCell at e
  dsimp only at e
  repeat' (first | (cases e; done) | (injection e with e; injection e with e1 e; subst e; simp (disch := first | decide | rfl | (intros; (repeat' (first | simp (disch := first | decide | rfl | (intros; (repeat' (first | simp (disch := decide) only [↓Frame.putLink, ↓Frame.ite, ↓Frame.foldl, ↓Frame.foldlFst, Frame.refl, ite_self, ok, refuse, apply_ite CmdResult.state, apply_ite Prod.fst, apply_ite Prod.snd] | split)); done)) only [↓Frame.putLink, ↓Frame.ite, ↓Frame.foldl, ↓Frame.foldlFst, Frame.refl, ite_self, ok, refuse, apply_ite CmdResult.state, apply_ite Prod.fst, apply_ite Prod.snd] | split)); done)) only [↓Frame.putLink, Frame.refl]; done) | split at e)

theorem State.slotCell_frame (u : State) (n : Nat) : ∀ c v, u.slotCell n = some (c, v) → Frame 0x10000010 u v := by
  intro c v e
  unfold State.slotCell at e
  obtain ⟨k, -, e⟩ := List.exists_of_findSome?_eq_some e
  split at e
  · exact (State.ownCell_frame u n c v e).mono (by decide)
  · exact (State.passCell_frame u n k c v e).mono (by decide)

theorem Frame.cellTransmit {m : Nat} {s u : State} {x1 : ℕ} (k : 0x10000810 ||| m = m) : Frame m s (State.cellTransmit u x1) ↔ Frame m s u := by
  refine Frame.thru (m := 0x10000810) ?_ k
  unfold State.cellTransmit
  dsimp only
  repeat' (first | simp (disch := first | decide | rfl | (intros; (repeat' (first | simp (disch := first | decide | rfl | (intros; (repeat' (first | simp (disch := decide) only [↓Frame.count, ↓Frame.putAgain, ↓Frame.putLink, ↓Frame.putPlain, ↓Frame.putSequenced, ↓Frame.putTrain, ↓Frame.ite, ↓Frame.foldl, ↓Frame.foldlFst, Frame.refl, ite_self, ok, refuse, apply_ite CmdResult.state, apply_ite Prod.fst, apply_ite Prod.snd] | split)); done)) only [↓Frame.count, ↓Frame.putAgain, ↓Frame.putLink, ↓Frame.putPlain, ↓Frame.putSequenced, ↓Frame.putTrain, ↓Frame.ite, ↓Frame.foldl, ↓Frame.foldlFst, Frame.refl, ite_self, ok, refuse, apply_ite CmdResult.state, apply_ite Prod.fst, apply_ite Prod.snd] | split)); done)) only [↓Frame.count, ↓Frame.putAgain, ↓Frame.putLink, ↓Frame.putPlain, ↓Frame.putSequenced, ↓Frame.putTrain, ↓Frame.ite, Frame.refl, ite_self] | split)
  · rename_i e
    exact (State.mirrorCell_frame u _ _ e).mono (by decide)
  · rename_i e
    exact (State.slotCell_frame u _ _ _ e).mono (by decide)

theorem State.changeWeft_frame (u : State) (x1 x2 : List (Nat × List Byte)) (x3 : Nat) : ∀ v, u.changeWeft x1 x2 x3 = some v → Frame 0x8000000 u v := by
  intro v e
  unfold State.changeWeft at e
  dsimp only at e
  refine Frame.trans ?_ (Frame.foldlOption ?_ ?_ _ _ _ e)
  · simp (disch := first | decide | rfl | (intros; (repeat' (first | simp (disch := first | decide | rfl | (intros; (repeat' (first | simp (disch := decide) only [↓Frame.setLoom, ↓Frame.ite, ↓Frame.foldl, ↓Frame.foldlFst, Frame.refl, ite_self, ok, refuse, apply_ite CmdResult.state, apply_ite Prod.fst, apply_ite Prod.snd] | split)); done)) only [↓Frame.setLoom, ↓Frame.ite, ↓Frame.foldl, ↓Frame.foldlFst, Frame.refl, ite_self, ok, refuse, apply_ite CmdResult.state, apply_ite Prod.fst, apply_ite Prod.snd] | split)); done)) only [↓Frame.setLoom, Frame.refl]
  · intro x; rfl
  · intro w l y k
    refine Frame.trans ?_ (Frame.foldlOption ?_ ?_ _ _ _ k)
    · simp (disch := first | decide | rfl | (intros; (repeat' (first | simp (disch := first | decide | rfl | (intros; (repeat' (first | simp (disch := decide) only [↓Frame.setLoom, ↓Frame.ite, ↓Frame.foldl, ↓Frame.foldlFst, Frame.refl, ite_self, ok, refuse, apply_ite CmdResult.state, apply_ite Prod.fst, apply_ite Prod.snd] | split)); done)) only [↓Frame.setLoom, ↓Frame.ite, ↓Frame.foldl, ↓Frame.foldlFst, Frame.refl, ite_self, ok, refuse, apply_ite CmdResult.state, apply_ite Prod.fst, apply_ite Prod.snd] | split)); done)) only [↓Frame.setLoom, ↓Frame.foldl, Frame.refl]
    · intro x; rfl
    · intro w t y k
      dsimp only at k
      split at k
      · injection k with k; subst k; simp (disch := first | decide | rfl | (intros; (repeat' (first | simp (disch := first | decide | rfl | (intros; (repeat' (first | simp (disch := decide) only [↓Frame.setLoom, ↓Frame.ite, ↓Frame.foldl, ↓Frame.foldlFst, Frame.refl, ite_self, ok, refuse, apply_ite CmdResult.state, apply_ite Prod.fst, apply_ite Prod.snd] | split)); done)) only [↓Frame.setLoom, ↓Frame.ite, ↓Frame.foldl, ↓Frame.foldlFst, Frame.refl, ite_self, ok, refuse, apply_ite CmdResult.state, apply_ite Prod.fst, apply_ite Prod.snd] | split)); done)) only [↓Frame.setLoom, Frame.refl]
      · cases k

theorem State.weftAfter_frame (u : State) (x1 x2 : Sections) (x3 : Nat) : ∀ v, u.weftAfter x1 x2 x3 = some v → Frame 0x8000000 u v := by
  exact State.changeWeft_frame u _ _ _

theorem Frame.osChange {m : Nat} {s u : State} {x1 x2 : ℕ} (k : 0x500008d0 ||| m = m) : Frame m s (State.osChange u x1 x2) ↔ Frame m s u := by
  refine Frame.thru (m := 0x500008d0) ?_ k
  unfold State.osChange
  simp (disch := decide) only [↓Frame.event, ↓Frame.putFld, ↓Frame.putOs, Frame.refl]

theorem Frame.putShadow {m : Nat} {s u : State} {x1 x2 : ℕ} {x3 : List Byte} (k : 0x400 ||| m = m) : Frame m s (State.putShadow u x1 x2 x3) ↔ Frame m s u := by
  refine Frame.thru (m := 0x400) ?_ k
  unfold State.putShadow
  simp (disch := decide) only [↓Frame.setStk, ↓Frame.stkStore, Frame.refl]

theorem Frame.patchStream {m : Nat} {s u : State} {x1 : List Byte} {x2 : ℕ} (k : 0x162c18d0 ||| m = m) : Frame m s (State.patchStream u x1 x2) ↔ Frame m s u := by
  refine Frame.thru (m := 0x162c18d0) ?_ k
  unfold State.patchStream
  simp (disch := decide) only [↓Frame.enterWaiting, ↓Frame.putStream, ↓Frame.reedDownAs, ↓Frame.ite, Frame.refl, ite_self]

theorem Frame.changeConfig {m : Nat} {s u : State} {x1 : Option Obj} {x2 : Option ℕ} {x3 : ℕ} (k : 0x7e2c1dd0 ||| m = m) : Frame m s (State.changeConfig u x1 x2 x3) ↔ Frame m s u := by
  refine Frame.thru (m := 0x7e2c1dd0) ?_ k
  unfold State.changeConfig
  lift_lets
  extract_lets base was newBase is before after regions s1 s2 d1 s3 s4 s5 s6 s7
  clear_value regions after before is newBase was base
  have hs1 : Frame 0x7e2c1dd0 u s1 := by
    simp only [s1]
    repeat' (first | simp (disch := first | decide | rfl | (intros; (repeat' (first | simp (disch := first | decide | rfl | (intros; (repeat' (first | simp (disch := decide) only [↓Frame.captAbort, ↓Frame.captSwitch, ↓Frame.osChange, ↓Frame.patchStream, ↓Frame.putFld, ↓Frame.putShadow, ↓Frame.setDraft, ↓Frame.ite, ↓Frame.foldl, ↓Frame.foldlFst, Frame.refl, ite_self, ok, refuse, apply_ite CmdResult.state, apply_ite Prod.fst, apply_ite Prod.snd] | split)); done)) only [↓Frame.captAbort, ↓Frame.captSwitch, ↓Frame.osChange, ↓Frame.patchStream, ↓Frame.putFld, ↓Frame.putShadow, ↓Frame.setDraft, ↓Frame.ite, ↓Frame.foldl, ↓Frame.foldlFst, Frame.refl, ite_self, ok, refuse, apply_ite CmdResult.state, apply_ite Prod.fst, apply_ite Prod.snd] | split)); done)) only [↓Frame.captAbort, Frame.refl] | split)
  clear_value s1
  have hs2 : Frame 0x7e2c1dd0 s1 s2 := by
    simp only [s2]
    split
    · exact Frame.refl _ _
    · exact (Frame.getD (State.weftAfter_frame s1 before after x3)).mono (by decide)
  clear_value s2
  replace hs2 := hs1.trans hs2
  have hs3 : Frame 0x7e2c1dd0 s2 s3 := by
    simp only [s3]
    repeat' (first | simp (disch := first | decide | rfl | (intros; (repeat' (first | simp (disch := first | decide | rfl | (intros; (repeat' (first | simp (disch := decide) only [↓Frame.captAbort, ↓Frame.captSwitch, ↓Frame.osChange, ↓Frame.patchStream, ↓Frame.putFld, ↓Frame.putShadow, ↓Frame.setDraft, ↓Frame.ite, ↓Frame.foldl, ↓Frame.foldlFst, Frame.refl, ite_self, ok, refuse, apply_ite CmdResult.state, apply_ite Prod.fst, apply_ite Prod.snd] | split)); done)) only [↓Frame.captAbort, ↓Frame.captSwitch, ↓Frame.osChange, ↓Frame.patchStream, ↓Frame.putFld, ↓Frame.putShadow, ↓Frame.setDraft, ↓Frame.ite, ↓Frame.foldl, ↓Frame.foldlFst, Frame.refl, ite_self, ok, refuse, apply_ite CmdResult.state, apply_ite Prod.fst, apply_ite Prod.snd] | split)); done)) only [↓Frame.setDraft, Frame.refl] | split)
  clear_value s3
  replace hs3 := hs2.trans hs3
  have hs4 : Frame 0x7e2c1dd0 s3 s4 := by
    simp only [s4]
    repeat' (first | simp (disch := first | decide | rfl | (intros; (repeat' (first | simp (disch := first | decide | rfl | (intros; (repeat' (first | simp (disch := decide) only [↓Frame.captAbort, ↓Frame.captSwitch, ↓Frame.osChange, ↓Frame.patchStream, ↓Frame.putFld, ↓Frame.putShadow, ↓Frame.setDraft, ↓Frame.ite, ↓Frame.foldl, ↓Frame.foldlFst, Frame.refl, ite_self, ok, refuse, apply_ite CmdResult.state, apply_ite Prod.fst, apply_ite Prod.snd] | split)); done)) only [↓Frame.captAbort, ↓Frame.captSwitch, ↓Frame.osChange, ↓Frame.patchStream, ↓Frame.putFld, ↓Frame.putShadow, ↓Frame.setDraft, ↓Frame.ite, ↓Frame.foldl, ↓Frame.foldlFst, Frame.refl, ite_self, ok, refuse, apply_ite CmdResult.state, apply_ite Prod.fst, apply_ite Prod.snd] | split)); done)) only [↓Frame.putFld, Frame.refl] | split)
  clear_value s4
  replace hs4 := hs3.trans hs4
  have hs5 : Frame 0x7e2c1dd0 s4 s5 := by
    simp only [s5]
    repeat' (first | simp (disch := first | decide | rfl | (intros; (repeat' (first | simp (disch := first | decide | rfl | (intros; (repeat' (first | simp (disch := decide) only [↓Frame.captAbort, ↓Frame.captSwitch, ↓Frame.osChange, ↓Frame.patchStream, ↓Frame.putFld, ↓Frame.putShadow, ↓Frame.setDraft, ↓Frame.ite, ↓Frame.foldl, ↓Frame.foldlFst, Frame.refl, ite_self, ok, refuse, apply_ite CmdResult.state, apply_ite Prod.fst, apply_ite Prod.snd] | split)); done)) only [↓Frame.captAbort, ↓Frame.captSwitch, ↓Frame.osChange, ↓Frame.patchStream, ↓Frame.putFld, ↓Frame.putShadow, ↓Frame.setDraft, ↓Frame.ite, ↓Frame.foldl, ↓Frame.foldlFst, Frame.refl, ite_self, ok, refuse, apply_ite CmdResult.state, apply_ite Prod.fst, apply_ite Prod.snd] | split)); done)) only [↓Frame.captSwitch, Frame.refl] | split)
  clear_value s5
  replace hs5 := hs4.trans hs5
  have hs6 : Frame 0x7e2c1dd0 s5 s6 := by
    simp only [s6]
    repeat' (first | simp (disch := first | decide | rfl | (intros; (repeat' (first | simp (disch := first | decide | rfl | (intros; (repeat' (first | simp (disch := decide) only [↓Frame.captAbort, ↓Frame.captSwitch, ↓Frame.osChange, ↓Frame.patchStream, ↓Frame.putFld, ↓Frame.putShadow, ↓Frame.setDraft, ↓Frame.ite, ↓Frame.foldl, ↓Frame.foldlFst, Frame.refl, ite_self, ok, refuse, apply_ite CmdResult.state, apply_ite Prod.fst, apply_ite Prod.snd] | split)); done)) only [↓Frame.captAbort, ↓Frame.captSwitch, ↓Frame.osChange, ↓Frame.patchStream, ↓Frame.putFld, ↓Frame.putShadow, ↓Frame.setDraft, ↓Frame.ite, ↓Frame.foldl, ↓Frame.foldlFst, Frame.refl, ite_self, ok, refuse, apply_ite CmdResult.state, apply_ite Prod.fst, apply_ite Prod.snd] | split)); done)) only [↓Frame.foldl, Frame.refl] | split)
  clear_value s6
  replace hs6 := hs5.trans hs6
  refine Frame.trans hs6 ?_
  split
  · exact (Frame.refl _ _)
  · simp only [s7]
    repeat' (first | simp (disch := first | decide | rfl | (intros; (repeat' (first | simp (disch := first | decide | rfl | (intros; (repeat' (first | simp (disch := decide) only [↓Frame.captAbort, ↓Frame.captSwitch, ↓Frame.osChange, ↓Frame.patchStream, ↓Frame.putFld, ↓Frame.putShadow, ↓Frame.setDraft, ↓Frame.ite, ↓Frame.foldl, ↓Frame.foldlFst, Frame.refl, ite_self, ok, refuse, apply_ite CmdResult.state, apply_ite Prod.fst, apply_ite Prod.snd] | split)); done)) only [↓Frame.captAbort, ↓Frame.captSwitch, ↓Frame.osChange, ↓Frame.patchStream, ↓Frame.putFld, ↓Frame.putShadow, ↓Frame.setDraft, ↓Frame.ite, ↓Frame.foldl, ↓Frame.foldlFst, Frame.refl, ite_self, ok, refuse, apply_ite CmdResult.state, apply_ite Prod.fst, apply_ite Prod.snd] | split)); done)) only [↓Frame.putShadow, ↓Frame.foldl, Frame.refl] | split)

theorem Frame.forceAll {m : Nat} {s u : State} (k : 0x39040dd0 ||| m = m) : Frame m s (State.forceAll u) ↔ Frame m s u := by
  refine Frame.thru (m := 0x39040dd0) ?_ k
  unfold State.forceAll
  repeat' (first | simp (disch := first | decide | rfl | (intros; simp (disch := first | decide | rfl | (intros; simp (disch := decide) only [↓Frame.forceSlot, ↓Frame.loomRun, ↓Frame.ite, ↓Frame.foldl, ↓Frame.foldlFst, Frame.refl, ite_self, ok, refuse, apply_ite CmdResult.state, apply_ite Prod.fst, apply_ite Prod.snd])) only [↓Frame.forceSlot, ↓Frame.loomRun, ↓Frame.ite, ↓Frame.foldl, ↓Frame.foldlFst, Frame.refl, ite_self, ok, refuse, apply_ite CmdResult.state, apply_ite Prod.fst, apply_ite Prod.snd])) only [↓Frame.loomRun, ↓Frame.foldl, Frame.refl] | split)

theorem Frame.showEnergy {m : Nat} {s u : State} (k : 0x10 ||| m = m) : Frame m s (State.showEnergy u) ↔ Frame m s u := by
  refine Frame.thru (m := 0x10) ?_ k
  unfold State.showEnergy
  simp (disch := decide) only [↓Frame.putFld, Frame.refl]

theorem Frame.showSets {m : Nat} {s u : State} (k : 0x10 ||| m = m) : Frame m s (State.showSets u) ↔ Frame m s u := by
  refine Frame.thru (m := 0x10) ?_ k
  unfold State.showSets
  repeat' (first | simp (disch := first | decide | rfl | (intros; simp (disch := first | decide | rfl | (intros; simp (disch := decide) only [↓Frame.putReg, ↓Frame.ite, ↓Frame.foldl, ↓Frame.foldlFst, Frame.refl, ite_self, ok, refuse, apply_ite CmdResult.state, apply_ite Prod.fst, apply_ite Prod.snd])) only [↓Frame.putReg, ↓Frame.ite, ↓Frame.foldl, ↓Frame.foldlFst, Frame.refl, ite_self, ok, refuse, apply_ite CmdResult.state, apply_ite Prod.fst, apply_ite Prod.snd])) only [↓Frame.foldl, Frame.refl] | split)

theorem Frame.showRunning {m : Nat} {s u : State} (k : 0x10 ||| m = m) : Frame m s (State.showRunning u) ↔ Frame m s u := by
  refine Frame.thru (m := 0x10) ?_ k
  unfold State.showRunning
  simp (disch := decide) only [↓Frame.putFld, Frame.refl]

theorem Frame.stopLattices {m : Nat} {s u : State} (k : 0x8000010 ||| m = m) : Frame m s (State.stopLattices u) ↔ Frame m s u := by
  refine Frame.thru (m := 0x8000010) ?_ k
  unfold State.stopLattices
  repeat' (first | simp (disch := first | decide | rfl | (intros; simp (disch := first | decide | rfl | (intros; simp (disch := decide) only [↓Frame.putLat, ↓Frame.showRunning, ↓Frame.ite, ↓Frame.foldl, ↓Frame.foldlFst, Frame.refl, ite_self, ok, refuse, apply_ite CmdResult.state, apply_ite Prod.fst, apply_ite Prod.snd])) only [↓Frame.putLat, ↓Frame.showRunning, ↓Frame.ite, ↓Frame.foldl, ↓Frame.foldlFst, Frame.refl, ite_self, ok, refuse, apply_ite CmdResult.state, apply_ite Prod.fst, apply_ite Prod.snd])) only [↓Frame.showRunning, ↓Frame.foldl, Frame.refl] | split)

theorem Frame.reedStop {m : Nat} {s u : State} (k : 0x160008d0 ||| m = m) : Frame m s (State.reedStop u) ↔ Frame m s u := by
  refine Frame.thru (m := 0x160008d0) ?_ k
  unfold State.reedStop
  repeat' (first | simp (disch := first | decide | rfl | (intros; simp (disch := first | decide | rfl | (intros; simp (disch := decide) only [↓Frame.reedDown, ↓Frame.ite, ↓Frame.foldl, ↓Frame.foldlFst, Frame.refl, ite_self, ok, refuse, apply_ite CmdResult.state, apply_ite Prod.fst, apply_ite Prod.snd])) only [↓Frame.reedDown, ↓Frame.ite, ↓Frame.foldl, ↓Frame.foldlFst, Frame.refl, ite_self, ok, refuse, apply_ite CmdResult.state, apply_ite Prod.fst, apply_ite Prod.snd])) only [↓Frame.foldl, Frame.refl] | split)

theorem Frame.stopPath {m : Nat} {s u : State} (k : 0x3e100cd0 ||| m = m) : Frame m s (State.stopPath u) ↔ Frame m s u := by
  refine Frame.thru (m := 0x3e100cd0) ?_ k
  unfold State.stopPath
  simp (disch := decide) only [↓Frame.captStop, ↓Frame.reedStop, ↓Frame.setHedQ, ↓Frame.stopLattices, Frame.refl]

theorem Frame.stopAllPaths {m : Nat} {s u : State} (k : 0x27fd17dd8 ||| m = m) : Frame m s (State.stopAllPaths u) ↔ Frame m s u := by
  refine Frame.thru (m := 0x27fd17dd8) ?_ k
  unfold State.stopAllPaths
  simp (disch := decide) only [↓Frame.powerDown, ↓Frame.setInputQ, ↓Frame.setLoom, ↓Frame.setLoomQ, ↓Frame.setReedQ, ↓Frame.setWaveQ, ↓Frame.stopPath, Frame.refl]

theorem Frame.startLattices {m : Nat} {s u : State} {x1 : ℕ} (k : 0x8000010 ||| m = m) : Frame m s (State.startLattices u x1) ↔ Frame m s u := by
  refine Frame.thru (m := 0x8000010) ?_ k
  unfold State.startLattices
  repeat' (first | simp (disch := first | decide | rfl | (intros; simp (disch := first | decide | rfl | (intros; simp (disch := decide) only [↓Frame.putLat, ↓Frame.showRunning, ↓Frame.ite, ↓Frame.foldl, ↓Frame.foldlFst, Frame.refl, ite_self, ok, refuse, apply_ite CmdResult.state, apply_ite Prod.fst, apply_ite Prod.snd])) only [↓Frame.putLat, ↓Frame.showRunning, ↓Frame.ite, ↓Frame.foldl, ↓Frame.foldlFst, Frame.refl, ite_self, ok, refuse, apply_ite CmdResult.state, apply_ite Prod.fst, apply_ite Prod.snd])) only [↓Frame.showRunning, ↓Frame.foldl, Frame.refl] | split)

theorem Frame.startPath {m : Nat} {s u : State} {x1 : ℕ} (k : 0x2382c59d0 ||| m = m) : Frame m s (State.startPath u x1) ↔ Frame m s u := by
  refine Frame.thru (m := 0x2382c59d0) ?_ k
  unfold State.startPath
  repeat' (first | simp (disch := first | decide | rfl | (intros; simp (disch := first | decide | rfl | (intros; simp (disch := decide) only [↓Frame.captStart, ↓Frame.condition, ↓Frame.enterWaiting, ↓Frame.setHeddle, ↓Frame.startLattices, ↓Frame.updatePins, ↓Frame.ite, ↓Frame.foldl, ↓Frame.foldlFst, Frame.refl, ite_self, ok, refuse, apply_ite CmdResult.state, apply_ite Prod.fst, apply_ite Prod.snd])) only [↓Frame.captStart, ↓Frame.condition, ↓Frame.enterWaiting, ↓Frame.setHeddle, ↓Frame.startLattices, ↓Frame.updatePins, ↓Frame.ite, ↓Frame.foldl, ↓Frame.foldlFst, Frame.refl, ite_self, ok, refuse, apply_ite CmdResult.state, apply_ite Prod.fst, apply_ite Prod.snd])) only [↓Frame.captStart, ↓Frame.condition, ↓Frame.setHeddle, ↓Frame.startLattices, ↓Frame.updatePins, ↓Frame.ite, ↓Frame.foldl, Frame.refl, ite_self] | split)

theorem Frame.changeMode {m : Nat} {s u : State} {x1 x2 : ℕ} (k : 0x27ffdfdd8 ||| m = m) : Frame m s (State.changeMode u x1 x2) ↔ Frame m s u := by
  refine Frame.thru (m := 0x27ffdfdd8) ?_ k
  unfold State.changeMode
  simp (disch := decide) only [↓Frame.endHold, ↓Frame.enterMode, ↓Frame.event, ↓Frame.forceAll, ↓Frame.putFld, ↓Frame.resetFields, ↓Frame.showEnergy, ↓Frame.showOsc, ↓Frame.showSets, ↓Frame.startLattices, ↓Frame.startPath, ↓Frame.stopAllPaths, ↓Frame.stopPath, ↓Frame.updateHolding, ↓Frame.ite, Frame.refl, ite_self]

theorem Frame.checkEnds {m : Nat} {s u : State} {x1 : List Byte} (k : 0x1100009d0 ||| m = m) : Frame m s (State.checkEnds u x1) ↔ Frame m s u := by
  refine Frame.thru (m := 0x1100009d0) ?_ k
  unfold State.checkEnds
  repeat' (first | simp (disch := decide) only [↓Frame.endCheck, ↓Frame.ite, Frame.refl, ite_self] | split)

theorem Frame.checkEntry {m : Nat} {s u : State} {x1 x2 : ℕ} {x3 : List Byte} (k : 0x100008d0 ||| m = m) : Frame m s (State.checkEntry u x1 x2 x3).1 ↔ Frame m s u := by
  refine Frame.thru (m := 0x100008d0) ?_ k
  unfold State.checkEntry
  simp (disch := decide) only [↓Frame.count, ↓Frame.event, ↓Frame.raise, ↓Frame.ite, Frame.refl, ite_self, apply_ite Prod.fst]

theorem Frame.checkSlot {m : Nat} {s u : State} {x1 : List Byte} {x2 : Readings} (k : 0x1100008d0 ||| m = m) : Frame m s (State.checkSlot u x1 x2) ↔ Frame m s u := by
  refine Frame.thru (m := 0x1100008d0) ?_ k
  unfold State.checkSlot
  repeat' (first | simp (disch := decide) only [↓Frame.event, ↓Frame.putFld, ↓Frame.putReg, ↓Frame.raise, ↓Frame.setIsle, ↓Frame.ite, Frame.refl, ite_self] | split)

theorem Frame.ckptArchive {m : Nat} {s u : State} {x1 : ℕ} (k : 0x22d807ffd8 ||| m = m) : Frame m s (State.ckptArchive u x1) ↔ Frame m s u := by
  refine Frame.thru (m := 0x22d807ffd8) ?_ k
  unfold State.ckptArchive
  simp (disch := decide) only [↓Frame.archiveWrite, ↓Frame.writeCkpt, ↓Frame.ite, Frame.refl, ite_self]

theorem Frame.ckptMirrorSend {m : Nat} {s u : State} (k : 0x10010810 ||| m = m) : Frame m s (State.ckptMirrorSend u) ↔ Frame m s u := by
  refine Frame.thru (m := 0x10010810) ?_ k
  unfold State.ckptMirrorSend
  simp (disch := decide) only [↓Frame.mirrorSend, ↓Frame.setPair, ↓Frame.ite, Frame.refl, ite_self]

theorem Frame.claimRaise {m : Nat} {s u : State} (k : 0x100108d0 ||| m = m) : Frame m s (State.claimRaise u) ↔ Frame m s u := by
  refine Frame.thru (m := 0x100108d0) ?_ k
  unfold State.claimRaise
  repeat' (first | simp (disch := decide) only [↓Frame.driveClaim, ↓Frame.putFld, ↓Frame.setPair, ↓Frame.toggleStrobe, ↓Frame.ite, Frame.refl, ite_self] | split)

theorem Frame.claimStrobeEdge {m : Nat} {s u : State} (k : 0x2500149d0 ||| m = m) : Frame m s (State.claimStrobeEdge u) ↔ Frame m s u := by
  refine Frame.thru (m := 0x2500149d0) ?_ k
  unfold State.claimStrobeEdge
  simp (disch := decide) only [↓Frame.strobeClaim, ↓Frame.toggleStrobe, ↓Frame.updateHolding, ↓Frame.ite, Frame.refl, ite_self]

theorem Frame.clearBlocks {m : Nat} {s u : State} (k : 0x18ff1c400 ||| m = m) : Frame m s (State.clearBlocks u) ↔ Frame m s u := by
  refine Frame.thru (m := 0x18ff1c400) ?_ k
  unfold State.clearBlocks
  simp (disch := decide) only [↓Frame.setFault, ↓Frame.setHedQ, ↓Frame.setHeddle, ↓Frame.setInputQ, ↓Frame.setIsle, ↓Frame.setLoom, ↓Frame.setLoomQ, ↓Frame.setOsc, ↓Frame.setPair, ↓Frame.setReed, ↓Frame.setReedQ, ↓Frame.setStk, ↓Frame.setVote, ↓Frame.setWaveQ, Frame.refl]

theorem Frame.clearDone {m : Nat} {s u : State} (k : 0xad0 ||| m = m) : Frame m s (State.clearDone u) ↔ Frame m s u := by
  refine Frame.thru (m := 0xad0) ?_ k
  unfold State.clearDone
  repeat' (first | simp (disch := first | decide | rfl | (intros; simp (disch := first | decide | rfl | (intros; simp (disch := decide) only [↓Frame.raise, ↓Frame.setArchive, ↓Frame.setLedger, ↓Frame.ite, ↓Frame.foldl, ↓Frame.foldlFst, Frame.refl, ite_self, ok, refuse, apply_ite CmdResult.state, apply_ite Prod.fst, apply_ite Prod.snd])) only [↓Frame.raise, ↓Frame.setArchive, ↓Frame.setLedger, ↓Frame.ite, ↓Frame.foldl, ↓Frame.foldlFst, Frame.refl, ite_self, ok, refuse, apply_ite CmdResult.state, apply_ite Prod.fst, apply_ite Prod.snd])) only [↓Frame.raise, ↓Frame.setLedger, ↓Frame.ite, ↓Frame.foldl, Frame.refl, ite_self] | split)

theorem Frame.clearFault {m : Nat} {s u : State} (k : 0x100008d0 ||| m = m) : Frame m s (State.clearFault u) ↔ Frame m s u := by
  refine Frame.thru (m := 0x100008d0) ?_ k
  unfold State.clearFault
  simp (disch := decide) only [↓Frame.event, ↓Frame.putFld, ↓Frame.raise, ↓Frame.ite, Frame.refl, ite_self]

end Sys2Proof.Machine
end

