-- ==== Sys2Proof/Laws/Frame5.lean ====
section
/-!
SUPPORT. Sys2Proof/Laws/Frame5.lean: the parts of the state that each operation may write, part 5 of 7, in the order in which the
operations call each other. One lemma an operation: a frame goes through it.
-/

namespace Sys2Proof.Machine

theorem Frame.laneClock {m : Nat} {s u : State} {x1 : ℕ} (k : 0x200004810 ||| m = m) : Frame m s (State.laneClock u x1) ↔ Frame m s u := by
  refine Frame.thru (m := 0x200004810) ?_ k
  unfold State.laneClock
  simp (disch := decide) only [↓Frame.updatePins, ↓Frame.ite, Frame.refl, ite_self]

theorem Frame.clockLoss {m : Nat} {s u : State} {x1 : ℕ} {x2 : Option ℕ} (k : 0xa00004850 ||| m = m) : Frame m s (State.clockLoss u x1 x2) ↔ Frame m s u := by
  refine Frame.thru (m := 0xa00004850) ?_ k
  unfold State.clockLoss
  repeat' (first | simp (disch := decide) only [↓Frame.count, ↓Frame.laneClock, ↓Frame.raise, ↓Frame.setClock, ↓Frame.ite, Frame.refl, ite_self] | split)

theorem Frame.putFp {m : Nat} {s u : State} {x1 : ℕ} {x2 : FlowPoint} (k : 0x200000000 ||| m = m) : Frame m s (State.putFp u x1 x2) ↔ Frame m s u := by
  refine Frame.thru (m := 0x200000000) ?_ k
  unfold State.putFp
  simp (disch := decide) only [↓Frame.setEnergy, Frame.refl]

theorem Frame.closeInterval {m : Nat} {s u : State} {x1 x2 x3 : ℕ} (k : 0x210040ad0 ||| m = m) : Frame m s (State.closeInterval u x1 x2 x3) ↔ Frame m s u := by
  refine Frame.thru (m := 0x210040ad0) ?_ k
  unfold State.closeInterval
  simp (disch := decide) only [↓Frame.burst, ↓Frame.commit, ↓Frame.count, ↓Frame.endBurst, ↓Frame.putFp, ↓Frame.raise, ↓Frame.setArchive, ↓Frame.ite, Frame.refl, ite_self]

theorem Frame.closeFrozen {m : Nat} {s u : State} {x1 : ℕ} (k : 0x210040ad0 ||| m = m) : Frame m s (State.closeFrozen u x1) ↔ Frame m s u := by
  refine Frame.thru (m := 0x210040ad0) ?_ k
  unfold State.closeFrozen
  repeat' (first | simp (disch := first | decide | rfl | (intros; simp (disch := first | decide | rfl | (intros; simp (disch := decide) only [↓Frame.closeInterval, ↓Frame.putFp, ↓Frame.setEnergy, ↓Frame.ite, ↓Frame.foldl, ↓Frame.foldlFst, Frame.refl, ite_self, ok, refuse, apply_ite CmdResult.state, apply_ite Prod.fst, apply_ite Prod.snd])) only [↓Frame.closeInterval, ↓Frame.putFp, ↓Frame.setEnergy, ↓Frame.ite, ↓Frame.foldl, ↓Frame.foldlFst, Frame.refl, ite_self, ok, refuse, apply_ite CmdResult.state, apply_ite Prod.fst, apply_ite Prod.snd])) only [↓Frame.setEnergy, ↓Frame.foldl, Frame.refl] | split)

theorem Frame.writeDerived {m : Nat} {s u : State} {x1 x2 x3 x4 x5 x6 : ℕ} (k : 0x225807fdd8 ||| m = m) : Frame m s (State.writeDerived u x1 x2 x3 x4 x5 x6) ↔ Frame m s u := by
  refine Frame.thru (m := 0x225807fdd8) ?_ k
  unfold State.writeDerived
  repeat' (first | simp (disch := decide) only [↓Frame.checkedRead, ↓Frame.count, ↓Frame.modSlot, ↓Frame.storeValue, ↓Frame.ite, Frame.refl, ite_self] | split)

theorem Frame.deriveThread {m : Nat} {s u : State} {x1 x2 : ℕ} {x3 : List Byte} {x4 : Checks} (k : 0x225807fdd8 ||| m = m) : Frame m s (State.deriveThread u x1 x2 x3 x4) ↔ Frame m s u := by
  refine Frame.thru (m := 0x225807fdd8) ?_ k
  unfold State.deriveThread
  repeat' (first | simp (disch := first | decide | rfl | (intros; simp (disch := first | decide | rfl | (intros; simp (disch := decide) only [↓Frame.checkedRead, ↓Frame.writeDerived, ↓Frame.ite, ↓Frame.foldl, ↓Frame.foldlFst, Frame.refl, ite_self, ok, refuse, apply_ite CmdResult.state, apply_ite Prod.fst, apply_ite Prod.snd])) only [↓Frame.checkedRead, ↓Frame.writeDerived, ↓Frame.ite, ↓Frame.foldl, ↓Frame.foldlFst, Frame.refl, ite_self, ok, refuse, apply_ite CmdResult.state, apply_ite Prod.fst, apply_ite Prod.snd])) only [↓Frame.writeDerived, ↓Frame.ite, ↓Frame.foldlFst, Frame.refl, ite_self] | split)

theorem Frame.deriveSlot {m : Nat} {s u : State} {x1 x2 : ℕ} {x3 : Checks} (k : 0x225807fdd8 ||| m = m) : Frame m s (State.deriveSlot u x1 x2 x3) ↔ Frame m s u := by
  refine Frame.thru (m := 0x225807fdd8) ?_ k
  unfold State.deriveSlot
  repeat' (first | simp (disch := first | decide | rfl | (intros; (repeat' (first | simp (disch := first | decide | rfl | (intros; (repeat' (first | simp (disch := decide) only [↓Frame.deriveThread, ↓Frame.modSlot, ↓Frame.storeValue, ↓Frame.writeHeader, ↓Frame.ite, ↓Frame.foldl, ↓Frame.foldlFst, Frame.refl, ite_self, ok, refuse, apply_ite CmdResult.state, apply_ite Prod.fst, apply_ite Prod.snd] | split)); done)) only [↓Frame.deriveThread, ↓Frame.modSlot, ↓Frame.storeValue, ↓Frame.writeHeader, ↓Frame.ite, ↓Frame.foldl, ↓Frame.foldlFst, Frame.refl, ite_self, ok, refuse, apply_ite CmdResult.state, apply_ite Prod.fst, apply_ite Prod.snd] | split)); done)) only [↓Frame.writeHeader, ↓Frame.ite, ↓Frame.foldl, Frame.refl, ite_self] | split)

theorem Frame.isleInputs {m : Nat} {s u : State} {x1 x2 : ℕ} (k : 0x1000000 ||| m = m) : Frame m s (State.isleInputs u x1 x2) ↔ Frame m s u := by
  refine Frame.thru (m := 0x1000000) ?_ k
  unfold State.isleInputs
  simp (disch := decide) only [↓Frame.pushKind, ↓Frame.ite, Frame.refl, ite_self]

theorem Frame.energyRestored {m : Nat} {s u : State} {x1 x2 : ℕ} (k : 0x100008d0 ||| m = m) : Frame m s (State.energyRestored u x1 x2) ↔ Frame m s u := by
  refine Frame.thru (m := 0x100008d0) ?_ k
  unfold State.energyRestored
  repeat' (first | simp (disch := decide) only [↓Frame.event, Frame.refl] | split)

theorem Frame.energyResume {m : Nat} {s u : State} {x1 : ℕ} (k : 0x2100008d0 ||| m = m) : Frame m s (State.energyResume u x1) ↔ Frame m s u := by
  refine Frame.thru (m := 0x2100008d0) ?_ k
  unfold State.energyResume
  repeat' (first | simp (disch := decide) only [↓Frame.event, ↓Frame.setEnergy, ↓Frame.ite, Frame.refl] | split)

theorem Frame.flowConfig {m : Nat} {s u : State} {x1 : ℕ} {x2 : List Byte} (k : 0x210040ad0 ||| m = m) : Frame m s (State.flowConfig u x1 x2) ↔ Frame m s u := by
  refine Frame.thru (m := 0x210040ad0) ?_ k
  unfold State.flowConfig
  simp (disch := decide) only [↓Frame.closeInterval, ↓Frame.putFp, ↓Frame.ite, Frame.refl, ite_self]

theorem Frame.flowReads {m : Nat} {s u : State} {x1 x2 : ℕ} {x3 : List Byte} {x4 : Checks} (k : 0x225807fdd8 ||| m = m) : Frame m s (State.flowReads u x1 x2 x3 x4).1 ↔ Frame m s u := by
  refine Frame.thru (m := 0x225807fdd8) ?_ k
  unfold State.flowReads
  repeat' (first | simp (disch := first | decide | rfl | (intros; (repeat' (first | simp (disch := first | decide | rfl | (intros; (repeat' (first | simp (disch := decide) only [↓Frame.checkFailed, ↓Frame.transient, ↓Frame.ite, ↓Frame.foldl, ↓Frame.foldlFst, Frame.refl, ite_self, ok, refuse, apply_ite CmdResult.state, apply_ite Prod.fst, apply_ite Prod.snd] | split)); done)) only [↓Frame.checkFailed, ↓Frame.transient, ↓Frame.ite, ↓Frame.foldl, ↓Frame.foldlFst, Frame.refl, ite_self, ok, refuse, apply_ite CmdResult.state, apply_ite Prod.fst, apply_ite Prod.snd] | split)); done)) only [↓Frame.foldlFst, Frame.refl] | split)

theorem Frame.keepTotals {m : Nat} {s u : State} {x1 x2 : ℕ} (k : 0x200000000 ||| m = m) : Frame m s (State.keepTotals u x1 x2) ↔ Frame m s u := by
  refine Frame.thru (m := 0x200000000) ?_ k
  unfold State.keepTotals
  simp (disch := decide) only [↓Frame.putFp, ↓Frame.ite, Frame.refl, ite_self]

theorem Frame.flowSlot {m : Nat} {s u : State} {x1 : List Byte} {x2 x3 x4 : ℕ} {x5 : List Byte} {x6 : Checks} (k : 0x225807ffd8 ||| m = m) : Frame m s (State.flowSlot u x1 x2 x3 x4 x5 x6) ↔ Frame m s u := by
  refine Frame.thru (m := 0x225807ffd8) ?_ k
  unfold State.flowSlot
  repeat' (first | simp (disch := decide) only [↓Frame.closeInterval, ↓Frame.count, ↓Frame.flowConfig, ↓Frame.flowReads, ↓Frame.keepTotals, ↓Frame.putFp, ↓Frame.ite, Frame.refl, ite_self] | split)

theorem Frame.putPulse {m : Nat} {s u : State} {x1 : ℕ} {x2 : PulseOut} (k : 0x200000010 ||| m = m) : Frame m s (State.putPulse u x1 x2) ↔ Frame m s u := by
  refine Frame.thru (m := 0x200000010) ?_ k
  unfold State.putPulse
  simp (disch := decide) only [↓Frame.putFld, ↓Frame.setEnergy, Frame.refl]

theorem Frame.startPulse {m : Nat} {s u : State} {x1 : ℕ} (k : 0x200000810 ||| m = m) : Frame m s (State.startPulse u x1) ↔ Frame m s u := by
  refine Frame.thru (m := 0x200000810) ?_ k
  unfold State.startPulse
  simp (disch := decide) only [↓Frame.drive, ↓Frame.putFld, ↓Frame.putPulse, ↓Frame.ite, Frame.refl, ite_self]

theorem Frame.pulseSlot {m : Nat} {s u : State} (k : 0x2100008d0 ||| m = m) : Frame m s (State.pulseSlot u) ↔ Frame m s u := by
  refine Frame.thru (m := 0x2100008d0) ?_ k
  unfold State.pulseSlot
  repeat' (first | simp (disch := first | decide | rfl | (intros; (repeat' (first | simp (disch := first | decide | rfl | (intros; (repeat' (first | simp (disch := decide) only [↓Frame.burst, ↓Frame.count, ↓Frame.endBurst, ↓Frame.putPulse, ↓Frame.raise, ↓Frame.startPulse, ↓Frame.ite, ↓Frame.foldl, ↓Frame.foldlFst, Frame.refl, ite_self, ok, refuse, apply_ite CmdResult.state, apply_ite Prod.fst, apply_ite Prod.snd] | split)); done)) only [↓Frame.burst, ↓Frame.count, ↓Frame.endBurst, ↓Frame.putPulse, ↓Frame.raise, ↓Frame.startPulse, ↓Frame.ite, ↓Frame.foldl, ↓Frame.foldlFst, Frame.refl, ite_self, ok, refuse, apply_ite CmdResult.state, apply_ite Prod.fst, apply_ite Prod.snd] | split)); done)) only [↓Frame.ite, ↓Frame.foldl, Frame.refl, ite_self] | split)

theorem Frame.energySlot {m : Nat} {s u : State} {x1 x2 : ℕ} {x3 : Checks} (k : 0x225807ffd8 ||| m = m) : Frame m s (State.energySlot u x1 x2 x3) ↔ Frame m s u := by
  refine Frame.thru (m := 0x225807ffd8) ?_ k
  unfold State.energySlot
  repeat' (first | simp (disch := first | decide | rfl | (intros; simp (disch := first | decide | rfl | (intros; simp (disch := decide) only [↓Frame.energyRestored, ↓Frame.energyResume, ↓Frame.flowSlot, ↓Frame.pulseSlot, ↓Frame.setEnergy, ↓Frame.ite, ↓Frame.foldl, ↓Frame.foldlFst, Frame.refl, ite_self, ok, refuse, apply_ite CmdResult.state, apply_ite Prod.fst, apply_ite Prod.snd])) only [↓Frame.energyRestored, ↓Frame.energyResume, ↓Frame.flowSlot, ↓Frame.pulseSlot, ↓Frame.setEnergy, ↓Frame.ite, ↓Frame.foldl, ↓Frame.foldlFst, Frame.refl, ite_self, ok, refuse, apply_ite CmdResult.state, apply_ite Prod.fst, apply_ite Prod.snd])) only [↓Frame.energyRestored, ↓Frame.energyResume, ↓Frame.pulseSlot, ↓Frame.setEnergy, ↓Frame.ite, ↓Frame.foldl, Frame.refl, ite_self] | split)

theorem Frame.isleSwitch {m : Nat} {s u : State} {x1 : List Byte} (k : 0x1100009d0 ||| m = m) : Frame m s (State.isleSwitch u x1) ↔ Frame m s u := by
  refine Frame.thru (m := 0x1100009d0) ?_ k
  unfold State.isleSwitch
  simp (disch := decide) only [↓Frame.endCheck, ↓Frame.setIsle, ↓Frame.ite, Frame.refl, ite_self]

theorem Frame.isleReads {m : Nat} {s u : State} {x1 x2 : ℕ} {x3 : List (ℕ × ℕ)} {x4 : Checks} (k : 0x225807fdd8 ||| m = m) : Frame m s (State.isleReads u x1 x2 x3 x4).1 ↔ Frame m s u := by
  refine Frame.thru (m := 0x225807fdd8) ?_ k
  unfold State.isleReads
  repeat' (first | simp (disch := first | decide | rfl | (intros; simp (disch := first | decide | rfl | (intros; simp (disch := decide) only [↓Frame.isleRead, ↓Frame.ite, ↓Frame.foldl, ↓Frame.foldlFst, Frame.refl, ite_self, ok, refuse, apply_ite CmdResult.state, apply_ite Prod.fst, apply_ite Prod.snd])) only [↓Frame.isleRead, ↓Frame.ite, ↓Frame.foldl, ↓Frame.foldlFst, Frame.refl, ite_self, ok, refuse, apply_ite CmdResult.state, apply_ite Prod.fst, apply_ite Prod.snd])) only [↓Frame.foldlFst, Frame.refl] | split)

theorem Frame.localFreq {m : Nat} {s u : State} {x1 : List Byte} {x2 x3 : ℕ} {x4 : Checks} (k : 0x225807fdd8 ||| m = m) : Frame m s (State.localFreq u x1 x2 x3 x4).1 ↔ Frame m s u := by
  refine Frame.thru (m := 0x225807fdd8) ?_ k
  unfold State.localFreq
  repeat' (first | simp (disch := decide) only [↓Frame.isleRead, Frame.refl] | split)

theorem Frame.tieSlot {m : Nat} {s u : State} {x1 : List Byte} {x2 x3 : ℕ} {x4 : Bool} {x5 : Readings} {x6 : Option ℚ} {x7 : List Byte} (k : 0x1100008d0 ||| m = m) : Frame m s (State.tieSlot u x1 x2 x3 x4 x5 x6 x7).1 ↔ Frame m s u := by
  refine Frame.thru (m := 0x1100008d0) ?_ k
  unfold State.tieSlot
  lift_lets
  extract_lets n rate k y a c angles raw hist back slip df edf esl elec topo loc far missing confirmed blocked elec2 held s1 c0 r0 alone need y1 dfw up cc rr nw restored y2 sp s2 s3
  clear_value sp y2 restored nw rr cc up dfw y1 need alone r0 c0 held elec2 blocked confirmed missing far loc topo elec esl edf df slip back hist raw angles c a y k rate n
  have hs1 : Frame 0x1100008d0 u s1 := by
    simp only [s1]
    repeat' (first | simp (disch := first | decide | rfl | (intros; (repeat' (first | simp (disch := first | decide | rfl | (intros; (repeat' (first | simp (disch := decide) only [↓Frame.count, ↓Frame.event, ↓Frame.putTie, ↓Frame.raise, ↓Frame.ite, ↓Frame.foldl, ↓Frame.foldlFst, Frame.refl, ite_self, ok, refuse, apply_ite CmdResult.state, apply_ite Prod.fst, apply_ite Prod.snd] | split)); done)) only [↓Frame.count, ↓Frame.event, ↓Frame.putTie, ↓Frame.raise, ↓Frame.ite, ↓Frame.foldl, ↓Frame.foldlFst, Frame.refl, ite_self, ok, refuse, apply_ite CmdResult.state, apply_ite Prod.fst, apply_ite Prod.snd] | split)); done)) only [↓Frame.event, ↓Frame.raise, ↓Frame.ite, Frame.refl, ite_self] | split)
  clear_value s1
  have hs2 : Frame 0x1100008d0 s1 s2 := by
    simp only [s2]
    repeat' (first | simp (disch := first | decide | rfl | (intros; (repeat' (first | simp (disch := first | decide | rfl | (intros; (repeat' (first | simp (disch := decide) only [↓Frame.count, ↓Frame.event, ↓Frame.putTie, ↓Frame.raise, ↓Frame.ite, ↓Frame.foldl, ↓Frame.foldlFst, Frame.refl, ite_self, ok, refuse, apply_ite CmdResult.state, apply_ite Prod.fst, apply_ite Prod.snd] | split)); done)) only [↓Frame.count, ↓Frame.event, ↓Frame.putTie, ↓Frame.raise, ↓Frame.ite, ↓Frame.foldl, ↓Frame.foldlFst, Frame.refl, ite_self, ok, refuse, apply_ite CmdResult.state, apply_ite Prod.fst, apply_ite Prod.snd] | split)); done)) only [↓Frame.putTie, Frame.refl] | split)
  clear_value s2
  replace hs2 := hs1.trans hs2
  have hs3 : Frame 0x1100008d0 s2 s3 := by
    simp only [s3]
    repeat' (first | simp (disch := first | decide | rfl | (intros; (repeat' (first | simp (disch := first | decide | rfl | (intros; (repeat' (first | simp (disch := decide) only [↓Frame.count, ↓Frame.event, ↓Frame.putTie, ↓Frame.raise, ↓Frame.ite, ↓Frame.foldl, ↓Frame.foldlFst, Frame.refl, ite_self, ok, refuse, apply_ite CmdResult.state, apply_ite Prod.fst, apply_ite Prod.snd] | split)); done)) only [↓Frame.count, ↓Frame.event, ↓Frame.putTie, ↓Frame.raise, ↓Frame.ite, ↓Frame.foldl, ↓Frame.foldlFst, Frame.refl, ite_self, ok, refuse, apply_ite CmdResult.state, apply_ite Prod.fst, apply_ite Prod.snd] | split)); done)) only [↓Frame.count, ↓Frame.ite, Frame.refl, ite_self] | split)
  clear_value s3
  replace hs3 := hs2.trans hs3
  refine Frame.trans hs3 ?_
  repeat' (first | simp (disch := first | decide | rfl | (intros; (repeat' (first | simp (disch := first | decide | rfl | (intros; (repeat' (first | simp (disch := decide) only [↓Frame.count, ↓Frame.event, ↓Frame.putTie, ↓Frame.raise, ↓Frame.ite, ↓Frame.foldl, ↓Frame.foldlFst, Frame.refl, ite_self, ok, refuse, apply_ite CmdResult.state, apply_ite Prod.fst, apply_ite Prod.snd] | split)); done)) only [↓Frame.count, ↓Frame.event, ↓Frame.putTie, ↓Frame.raise, ↓Frame.ite, ↓Frame.foldl, ↓Frame.foldlFst, Frame.refl, ite_self, ok, refuse, apply_ite CmdResult.state, apply_ite Prod.fst, apply_ite Prod.snd] | split)); done)) only [↓Frame.event, ↓Frame.raise, ↓Frame.ite, Frame.refl, ite_self, apply_ite Prod.fst] | split)

theorem Frame.isleGroups {m : Nat} {s u : State} {x1 : List Byte} {x2 : ℕ} (k : 0x1100009d0 ||| m = m) : Frame m s (State.isleGroups u x1 x2) ↔ Frame m s u := by
  refine Frame.thru (m := 0x1100009d0) ?_ k
  unfold State.isleGroups
  simp (disch := decide) only [↓Frame.checkEnds, ↓Frame.condition, ↓Frame.count, ↓Frame.event, ↓Frame.raise, ↓Frame.setIsle, ↓Frame.ite, Frame.refl, ite_self]

theorem Frame.isleSlot {m : Nat} {s u : State} {x1 x2 : ℕ} {x3 : Checks} (k : 0x235807fdd8 ||| m = m) : Frame m s (State.isleSlot u x1 x2 x3) ↔ Frame m s u := by
  refine Frame.thru (m := 0x235807fdd8) ?_ k
  unfold State.isleSlot
  repeat' (first | simp (disch := first | decide | rfl | (intros; simp (disch := first | decide | rfl | (intros; simp (disch := decide) only [↓Frame.aggregate, ↓Frame.autoStart, ↓Frame.checkSlot, ↓Frame.count, ↓Frame.isleGroups, ↓Frame.isleReads, ↓Frame.isleSwitch, ↓Frame.localFreq, ↓Frame.setIsle, ↓Frame.showIsle, ↓Frame.tieSlot, ↓Frame.ite, ↓Frame.foldl, ↓Frame.foldlFst, Frame.refl, ite_self, ok, refuse, apply_ite CmdResult.state, apply_ite Prod.fst, apply_ite Prod.snd])) only [↓Frame.aggregate, ↓Frame.autoStart, ↓Frame.checkSlot, ↓Frame.count, ↓Frame.isleGroups, ↓Frame.isleReads, ↓Frame.isleSwitch, ↓Frame.localFreq, ↓Frame.setIsle, ↓Frame.showIsle, ↓Frame.tieSlot, ↓Frame.ite, ↓Frame.foldl, ↓Frame.foldlFst, Frame.refl, ite_self, ok, refuse, apply_ite CmdResult.state, apply_ite Prod.fst, apply_ite Prod.snd])) only [↓Frame.autoStart, ↓Frame.checkSlot, ↓Frame.count, ↓Frame.isleGroups, ↓Frame.isleReads, ↓Frame.isleSwitch, ↓Frame.localFreq, ↓Frame.setIsle, ↓Frame.showIsle, ↓Frame.ite, ↓Frame.foldl, ↓Frame.foldlFst, Frame.refl, ite_self, apply_ite Prod.fst, apply_ite Prod.snd] | split)

theorem Frame.validTap {m : Nat} {s u : State} {x1 x2 x3 x4 : ℕ} (k : 0x80001000 ||| m = m) : Frame m s (State.validTap u x1 x2 x3 x4) ↔ Frame m s u := by
  refine Frame.thru (m := 0x80001000) ?_ k
  unfold State.validTap
  simp (disch := decide) only [↓Frame.absentTap, ↓Frame.putProbe, ↓Frame.ite, Frame.refl, ite_self]

theorem Frame.pastTap {m : Nat} {s u : State} {x1 x2 x3 : ℕ} (k : 0x80001000 ||| m = m) : Frame m s (State.pastTap u x1 x2 x3) ↔ Frame m s u := by
  refine Frame.thru (m := 0x80001000) ?_ k
  unfold State.pastTap
  simp (disch := decide) only [↓Frame.absentTap, ↓Frame.validTap, ↓Frame.ite, Frame.refl, ite_self]

theorem Frame.probeSlot {m : Nat} {s u : State} {x1 x2 x3 : ℕ} {x4 : Checks} (k : 0x22d807fdd8 ||| m = m) : Frame m s (State.probeSlot u x1 x2 x3 x4) ↔ Frame m s u := by
  refine Frame.thru (m := 0x22d807fdd8) ?_ k
  unfold State.probeSlot
  repeat' (first | simp (disch := first | decide | rfl | (intros; simp (disch := first | decide | rfl | (intros; simp (disch := decide) only [↓Frame.absentTap, ↓Frame.checkedRead, ↓Frame.pastTap, ↓Frame.putProbe, ↓Frame.validTap, ↓Frame.ite, ↓Frame.foldl, ↓Frame.foldlFst, Frame.refl, ite_self, ok, refuse, apply_ite CmdResult.state, apply_ite Prod.fst, apply_ite Prod.snd])) only [↓Frame.absentTap, ↓Frame.checkedRead, ↓Frame.pastTap, ↓Frame.putProbe, ↓Frame.validTap, ↓Frame.ite, ↓Frame.foldl, ↓Frame.foldlFst, Frame.refl, ite_self, ok, refuse, apply_ite CmdResult.state, apply_ite Prod.fst, apply_ite Prod.snd])) only [↓Frame.absentTap, ↓Frame.checkedRead, ↓Frame.putProbe, ↓Frame.validTap, ↓Frame.ite, ↓Frame.foldl, Frame.refl, ite_self] | split)

theorem Frame.presentRecord {m : Nat} {s u : State} {x1 x2 : ℕ} (k : 0x80000000 ||| m = m) : Frame m s (State.presentRecord u x1 x2) ↔ Frame m s u := by
  refine Frame.thru (m := 0x80000000) ?_ k
  unfold State.presentRecord
  repeat' (first | simp (disch := decide) only [↓Frame.putTracker, ↓Frame.ite, Frame.refl, ite_self] | split)

theorem Frame.formRecord {m : Nat} {s u : State} {x1 x2 : ℕ} (k : 0x80000000 ||| m = m) : Frame m s (State.formRecord u x1 x2) ↔ Frame m s u := by
  refine Frame.thru (m := 0x80000000) ?_ k
  unfold State.formRecord
  simp (disch := decide) only [↓Frame.putTracker, Frame.refl]

theorem Frame.trackerConfig {m : Nat} {s u : State} {x1 x2 x3 x4 : ℕ} (k : 0x80000000 ||| m = m) : Frame m s (State.trackerConfig u x1 x2 x3 x4) ↔ Frame m s u := by
  refine Frame.thru (m := 0x80000000) ?_ k
  unfold State.trackerConfig
  simp (disch := decide) only [↓Frame.clearJobs, ↓Frame.formRecord, ↓Frame.putTracker, ↓Frame.takeJobs, ↓Frame.ite, Frame.refl, ite_self]

theorem Frame.stale {m : Nat} {s u : State} {x1 x2 : ℕ} (k : 0x900008d0 ||| m = m) : Frame m s (State.stale u x1 x2) ↔ Frame m s u := by
  refine Frame.thru (m := 0x900008d0) ?_ k
  unfold State.stale
  simp (disch := decide) only [↓Frame.clearJobs, ↓Frame.count, ↓Frame.event, ↓Frame.formRecord, ↓Frame.putTracker, ↓Frame.raise, Frame.refl]

theorem Frame.putMode {m : Nat} {s u : State} {x1 x2 : ℕ} {x3 : OscMode} (k : 0x80000000 ||| m = m) : Frame m s (State.putMode u x1 x2 x3) ↔ Frame m s u := by
  refine Frame.thru (m := 0x80000000) ?_ k
  unfold State.putMode
  simp (disch := decide) only [↓Frame.putTracker, Frame.refl]

theorem Frame.seedMode {m : Nat} {s u : State} {x1 : ℕ} {x2 : List Byte} {x3 : ℚ} {x4 : ℚ × ℚ} {x5 : ℚ} (k : 0x900008d0 ||| m = m) : Frame m s (State.seedMode u x1 x2 x3 x4 x5) ↔ Frame m s u := by
  refine Frame.thru (m := 0x900008d0) ?_ k
  unfold State.seedMode
  repeat' (first | simp (disch := decide) only [↓Frame.count, ↓Frame.event, ↓Frame.putMode, ↓Frame.raise, Frame.refl] | split)

theorem Frame.dropMode {m : Nat} {s u : State} {x1 x2 x3 : ℕ} (k : 0x900008d0 ||| m = m) : Frame m s (State.dropMode u x1 x2 x3) ↔ Frame m s u := by
  refine Frame.thru (m := 0x900008d0) ?_ k
  unfold State.dropMode
  simp (disch := decide) only [↓Frame.count, ↓Frame.event, ↓Frame.putMode, ↓Frame.raise, Frame.refl]

theorem Frame.reviewMode {m : Nat} {s u : State} {x1 : ℕ} {x2 : List Byte} {x3 : ℚ} {x4 : ℕ} (k : 0x900008d0 ||| m = m) : Frame m s (State.reviewMode u x1 x2 x3 x4) ↔ Frame m s u := by
  refine Frame.thru (m := 0x900008d0) ?_ k
  unfold State.reviewMode
  repeat' (first | simp (disch := decide) only [↓Frame.count, ↓Frame.dropMode, ↓Frame.event, ↓Frame.ite, Frame.refl] | split)

theorem Frame.oscHopAt {m : Nat} {s u : State} {x1 x2 x3 : ℕ} (k : 0x900008d0 ||| m = m) : Frame m s (State.oscHopAt u x1 x2 x3) ↔ Frame m s u := by
  refine Frame.thru (m := 0x900008d0) ?_ k
  unfold State.oscHopAt
  repeat' (first | simp (disch := first | decide | rfl | (intros; simp (disch := first | decide | rfl | (intros; simp (disch := decide) only [↓Frame.putMode, ↓Frame.putTracker, ↓Frame.reviewMode, ↓Frame.seedMode, ↓Frame.ite, ↓Frame.foldl, ↓Frame.foldlFst, Frame.refl, ite_self, ok, refuse, apply_ite CmdResult.state, apply_ite Prod.fst, apply_ite Prod.snd])) only [↓Frame.putMode, ↓Frame.putTracker, ↓Frame.reviewMode, ↓Frame.seedMode, ↓Frame.ite, ↓Frame.foldl, ↓Frame.foldlFst, Frame.refl, ite_self, ok, refuse, apply_ite CmdResult.state, apply_ite Prod.fst, apply_ite Prod.snd])) only [↓Frame.putTracker, ↓Frame.foldl, Frame.refl] | split)

theorem Frame.trackerRun {m : Nat} {s u : State} {x1 x2 x3 x4 : ℕ} {x5 : List Byte} (k : 0x900008d0 ||| m = m) : Frame m s (State.trackerRun u x1 x2 x3 x4 x5) ↔ Frame m s u := by
  refine Frame.thru (m := 0x900008d0) ?_ k
  unfold State.trackerRun
  simp (disch := decide) only [↓Frame.formRecord, ↓Frame.oscHopAt, ↓Frame.putTracker, ↓Frame.stale, ↓Frame.ite, Frame.refl, ite_self]

theorem Frame.storeSample {m : Nat} {s u : State} {x1 x2 : ℕ} (k : 0x80000400 ||| m = m) : Frame m s (State.storeSample u x1 x2) ↔ Frame m s u := by
  refine Frame.thru (m := 0x80000400) ?_ k
  unfold State.storeSample
  repeat' (first | simp (disch := first | decide | rfl | (intros; simp (disch := first | decide | rfl | (intros; simp (disch := decide) only [↓Frame.putTracker, ↓Frame.stkStore, ↓Frame.ite, ↓Frame.foldl, ↓Frame.foldlFst, Frame.refl, ite_self, ok, refuse, apply_ite CmdResult.state, apply_ite Prod.fst, apply_ite Prod.snd])) only [↓Frame.putTracker, ↓Frame.stkStore, ↓Frame.ite, ↓Frame.foldl, ↓Frame.foldlFst, Frame.refl, ite_self, ok, refuse, apply_ite CmdResult.state, apply_ite Prod.fst, apply_ite Prod.snd])) only [↓Frame.putTracker, ↓Frame.foldl, Frame.refl] | split)

theorem Frame.trackerTake {m : Nat} {s u : State} {x1 x2 x3 : ℕ} {x4 : List Byte} {x5 : OscSample} (k : 0x80001000 ||| m = m) : Frame m s (State.trackerTake u x1 x2 x3 x4 x5) ↔ Frame m s u := by
  refine Frame.thru (m := 0x80001000) ?_ k
  unfold State.trackerTake
  repeat' (first | simp (disch := decide) only [↓Frame.draw, ↓Frame.putTracker, ↓Frame.ite, Frame.refl, ite_self] | split)

theorem Frame.seedFirst {m : Nat} {s u : State} {x1 : ℕ} (k : 0x80000000 ||| m = m) : Frame m s (State.seedFirst u x1).1 ↔ Frame m s u := by
  refine Frame.thru (m := 0x80000000) ?_ k
  unfold State.seedFirst
  repeat' (first | simp (disch := decide) only [↓Frame.putTracker, ↓Frame.ite, Frame.refl, apply_ite Prod.fst] | split)

theorem Frame.recordSeeding {m : Nat} {s u : State} {x1 x2 : ℕ} (k : 0x100008d0 ||| m = m) : Frame m s (State.recordSeeding u x1 x2) ↔ Frame m s u := by
  refine Frame.thru (m := 0x100008d0) ?_ k
  unfold State.recordSeeding
  simp (disch := decide) only [↓Frame.event, ↓Frame.ite, Frame.refl, ite_self]

theorem Frame.seedTracker {m : Nat} {s u : State} {x1 : ℕ} (k : 0x900008d0 ||| m = m) : Frame m s (State.seedTracker u x1) ↔ Frame m s u := by
  refine Frame.thru (m := 0x900008d0) ?_ k
  unfold State.seedTracker
  repeat' (first | simp (disch := decide) only [↓Frame.recordSeeding, ↓Frame.seedFirst, Frame.refl] | split)

theorem Frame.trackerSample {m : Nat} {s u : State} {x1 x2 x3 x4 : ℕ} (k : 0x90001cd0 ||| m = m) : Frame m s (State.trackerSample u x1 x2 x3 x4) ↔ Frame m s u := by
  refine Frame.thru (m := 0x90001cd0) ?_ k
  unfold State.trackerSample
  simp (disch := decide) only [↓Frame.clearJobs, ↓Frame.count, ↓Frame.formRecord, ↓Frame.putTracker, ↓Frame.seedTracker, ↓Frame.storeSample, ↓Frame.trackerRun, ↓Frame.trackerTake, ↓Frame.ite, Frame.refl, ite_self]

theorem Frame.jobSample {m : Nat} {s u : State} {x1 x2 : ℕ} (k : 0x80000000 ||| m = m) : Frame m s (State.jobSample u x1 x2) ↔ Frame m s u := by
  refine Frame.thru (m := 0x80000000) ?_ k
  unfold State.jobSample
  simp (disch := decide) only [↓Frame.putShape, ↓Frame.ite, Frame.refl, ite_self]

theorem Frame.trackerSlot {m : Nat} {s u : State} {x1 x2 x3 x4 : ℕ} (k : 0x90001cd0 ||| m = m) : Frame m s (State.trackerSlot u x1 x2 x3 x4) ↔ Frame m s u := by
  refine Frame.thru (m := 0x90001cd0) ?_ k
  unfold State.trackerSlot
  repeat' (first | simp (disch := first | decide | rfl | (intros; simp (disch := first | decide | rfl | (intros; simp (disch := decide) only [↓Frame.clearJobs, ↓Frame.jobSample, ↓Frame.putTracker, ↓Frame.trackerConfig, ↓Frame.trackerSample, ↓Frame.ite, ↓Frame.foldl, ↓Frame.foldlFst, Frame.refl, ite_self, ok, refuse, apply_ite CmdResult.state, apply_ite Prod.fst, apply_ite Prod.snd])) only [↓Frame.clearJobs, ↓Frame.jobSample, ↓Frame.putTracker, ↓Frame.trackerConfig, ↓Frame.trackerSample, ↓Frame.ite, ↓Frame.foldl, ↓Frame.foldlFst, Frame.refl, ite_self, ok, refuse, apply_ite CmdResult.state, apply_ite Prod.fst, apply_ite Prod.snd])) only [↓Frame.putTracker, ↓Frame.trackerConfig, ↓Frame.ite, ↓Frame.foldl, Frame.refl, ite_self] | split)

theorem Frame.oscSlot {m : Nat} {s u : State} {x1 x2 : ℕ} {x3 : Checks} (k : 0x22d807fdd8 ||| m = m) : Frame m s (State.oscSlot u x1 x2 x3) ↔ Frame m s u := by
  refine Frame.thru (m := 0x22d807fdd8) ?_ k
  unfold State.oscSlot
  repeat' (first | simp (disch := first | decide | rfl | (intros; simp (disch := first | decide | rfl | (intros; simp (disch := decide) only [↓Frame.clearJobs, ↓Frame.presentRecord, ↓Frame.probeSlot, ↓Frame.putTracker, ↓Frame.setOsc, ↓Frame.showOsc, ↓Frame.trackerSlot, ↓Frame.ite, ↓Frame.foldl, ↓Frame.foldlFst, Frame.refl, ite_self, ok, refuse, apply_ite CmdResult.state, apply_ite Prod.fst, apply_ite Prod.snd])) only [↓Frame.clearJobs, ↓Frame.presentRecord, ↓Frame.probeSlot, ↓Frame.putTracker, ↓Frame.setOsc, ↓Frame.showOsc, ↓Frame.trackerSlot, ↓Frame.ite, ↓Frame.foldl, ↓Frame.foldlFst, Frame.refl, ite_self, ok, refuse, apply_ite CmdResult.state, apply_ite Prod.fst, apply_ite Prod.snd])) only [↓Frame.setOsc, ↓Frame.showOsc, ↓Frame.foldl, Frame.refl] | split)

theorem Frame.resyncLanes {m : Nat} {s u : State} {x1 : ℕ} {x2 : List (List Byte)} (k : 0x4000 ||| m = m) : Frame m s (State.resyncLanes u x1 x2).1 ↔ Frame m s u := by
  refine Frame.thru (m := 0x4000) ?_ k
  unfold State.resyncLanes
  rw [Frame.foldlFst]
  · exact Frame.refl _ _
  · intro v b k
    dsimp only
    repeat' (first | simp (disch := first | decide | rfl | (intros; (repeat' (first | simp (disch := first | decide | rfl | (intros; (repeat' (first | simp (disch := decide) only [↓Frame.setLane, ↓Frame.ite, ↓Frame.foldl, ↓Frame.foldlFst, Frame.refl, ite_self, ok, refuse, apply_ite CmdResult.state, apply_ite Prod.fst, apply_ite Prod.snd] | split)); done)) only [↓Frame.setLane, ↓Frame.ite, ↓Frame.foldl, ↓Frame.foldlFst, Frame.refl, ite_self, ok, refuse, apply_ite CmdResult.state, apply_ite Prod.fst, apply_ite Prod.snd] | split)); done)) only [↓Frame.setLane, Frame.refl] | split)

theorem Frame.formOf {m : Nat} {s u : State} {x1 x2 x3 : ℕ} {x4 : List Byte} {x5 : LaneSt} {x6 : Checks} (k : 0x225807fdd8 ||| m = m) : Frame m s (State.formOf u x1 x2 x3 x4 x5 x6).1 ↔ Frame m s u := by
  refine Frame.thru (m := 0x225807fdd8) ?_ k
  unfold State.formOf
  simp (disch := decide) only [↓Frame.checkedRead, Frame.refl, ite_self, apply_ite Prod.fst, apply_ite Prod.snd]

theorem Frame.laneEval {m : Nat} {s u : State} {x1 x2 x3 : ℕ} {x4 : List (List Byte)} {x5 : Checks} {x6 : List (ℕ × ℕ)} {x7 : Bool} (k : 0x225807fdd8 ||| m = m) : Frame m s (State.laneEval u x1 x2 x3 x4 x5 x6 x7).1 ↔ Frame m s u := by
  refine Frame.thru (m := 0x225807fdd8) ?_ k
  unfold State.laneEval
  repeat' (first | simp (disch := first | decide | rfl | (intros; simp (disch := first | decide | rfl | (intros; simp (disch := decide) only [↓Frame.formOf, ↓Frame.setLane, ↓Frame.ite, ↓Frame.foldl, ↓Frame.foldlFst, Frame.refl, ite_self, ok, refuse, apply_ite CmdResult.state, apply_ite Prod.fst, apply_ite Prod.snd])) only [↓Frame.formOf, ↓Frame.setLane, ↓Frame.ite, ↓Frame.foldl, ↓Frame.foldlFst, Frame.refl, ite_self, ok, refuse, apply_ite CmdResult.state, apply_ite Prod.fst, apply_ite Prod.snd])) only [↓Frame.foldlFst, Frame.refl] | split)

theorem Frame.laneAgrees {m : Nat} {s u : State} {x1 x2 x3 : ℕ} {x4 : Bool} (k : 0x1000c8d0 ||| m = m) : Frame m s (State.laneAgrees u x1 x2 x3 x4) ↔ Frame m s u := by
  refine Frame.thru (m := 0x1000c8d0) ?_ k
  unfold State.laneAgrees
  simp (disch := decide) only [↓Frame.count, ↓Frame.event, ↓Frame.putFld, ↓Frame.setLane, ↓Frame.transient, ↓Frame.ite, Frame.refl, ite_self]

theorem Frame.laneDiffers {m : Nat} {s u : State} {x1 x2 x3 x4 : ℕ} {x5 : Bool} (k : 0x225807fdd8 ||| m = m) : Frame m s (State.laneDiffers u x1 x2 x3 x4 x5) ↔ Frame m s u := by
  refine Frame.thru (m := 0x225807fdd8) ?_ k
  unfold State.laneDiffers
  simp (disch := decide) only [↓Frame.count, ↓Frame.event, ↓Frame.lasting, ↓Frame.putFld, ↓Frame.raise, ↓Frame.setLane, ↓Frame.ite, Frame.refl, ite_self]

theorem Frame.noMajority {m : Nat} {s u : State} (k : 0x225807fdd8 ||| m = m) : Frame m s (State.noMajority u) ↔ Frame m s u := by
  refine Frame.thru (m := 0x225807fdd8) ?_ k
  unfold State.noMajority
  simp (disch := decide) only [↓Frame.event, ↓Frame.lasting, Frame.refl]

theorem Frame.compareLanes {m : Nat} {s u : State} {x1 x2 : ℕ} {x3 : List (List Byte)} {x4 : List ℕ} (k : 0x225807fdd8 ||| m = m) : Frame m s (State.compareLanes u x1 x2 x3 x4) ↔ Frame m s u := by
  refine Frame.thru (m := 0x225807fdd8) ?_ k
  unfold State.compareLanes
  repeat' (first | simp (disch := first | decide | rfl | (intros; simp (disch := first | decide | rfl | (intros; simp (disch := decide) only [↓Frame.laneAgrees, ↓Frame.laneDiffers, ↓Frame.noMajority, ↓Frame.putReg, ↓Frame.ite, ↓Frame.foldl, ↓Frame.foldlFst, Frame.refl, ite_self, ok, refuse, apply_ite CmdResult.state, apply_ite Prod.fst, apply_ite Prod.snd])) only [↓Frame.laneAgrees, ↓Frame.laneDiffers, ↓Frame.noMajority, ↓Frame.putReg, ↓Frame.ite, ↓Frame.foldl, ↓Frame.foldlFst, Frame.refl, ite_self, ok, refuse, apply_ite CmdResult.state, apply_ite Prod.fst, apply_ite Prod.snd])) only [↓Frame.laneAgrees, ↓Frame.laneDiffers, ↓Frame.noMajority, ↓Frame.ite, ↓Frame.foldl, Frame.refl, ite_self] | split)

theorem Frame.sendGoose {m : Nat} {s u : State} {x1 : List Byte} (k : 0x81810 ||| m = m) : Frame m s (State.sendGoose u x1) ↔ Frame m s u := by
  refine Frame.thru (m := 0x81810) ?_ k
  unfold State.sendGoose
  repeat' (first | simp (disch := first | decide | rfl | (intros; simp (disch := first | decide | rfl | (intros; simp (disch := decide) only [↓Frame.count, ↓Frame.draw, ↓Frame.send, ↓Frame.ite, ↓Frame.foldl, ↓Frame.foldlFst, Frame.refl, ite_self, ok, refuse, apply_ite CmdResult.state, apply_ite Prod.fst, apply_ite Prod.snd])) only [↓Frame.count, ↓Frame.draw, ↓Frame.send, ↓Frame.ite, ↓Frame.foldl, ↓Frame.foldlFst, Frame.refl, ite_self, ok, refuse, apply_ite CmdResult.state, apply_ite Prod.fst, apply_ite Prod.snd])) only [↓Frame.count, ↓Frame.draw, ↓Frame.ite, ↓Frame.foldl, Frame.refl, ite_self] | split)

theorem Frame.putGoose {m : Nat} {s u : State} {x1 : ℕ} {x2 : GooseTx} (k : 0x4000 ||| m = m) : Frame m s (State.putGoose u x1 x2) ↔ Frame m s u := by
  refine Frame.thru (m := 0x4000) ?_ k
  unfold State.putGoose
  simp (disch := decide) only [↓Frame.setVote, Frame.refl]

theorem Frame.gooseSlot {m : Nat} {s u : State} {x1 : List Byte} {x2 x3 : ℕ} (k : 0x10085810 ||| m = m) : Frame m s (State.gooseSlot u x1 x2 x3) ↔ Frame m s u := by
  refine Frame.thru (m := 0x10085810) ?_ k
  unfold State.gooseSlot
  repeat' (first | simp (disch := first | decide | rfl | (intros; (repeat' (first | simp (disch := first | decide | rfl | (intros; (repeat' (first | simp (disch := decide) only [↓Frame.mirrorSend, ↓Frame.putGoose, ↓Frame.sendGoose, ↓Frame.ite, ↓Frame.foldl, ↓Frame.foldlFst, Frame.refl, ite_self, ok, refuse, apply_ite CmdResult.state, apply_ite Prod.fst, apply_ite Prod.snd] | split)); done)) only [↓Frame.mirrorSend, ↓Frame.putGoose, ↓Frame.sendGoose, ↓Frame.ite, ↓Frame.foldl, ↓Frame.foldlFst, Frame.refl, ite_self, ok, refuse, apply_ite CmdResult.state, apply_ite Prod.fst, apply_ite Prod.snd] | split)); done)) only [↓Frame.ite, ↓Frame.foldl, Frame.refl, ite_self] | split)

theorem Frame.voteSlot {m : Nat} {s u : State} {x1 x2 : ℕ} {x3 : Checks} {x4 : List (ℕ × ℕ)} (k : 0x22590ffdd8 ||| m = m) : Frame m s (State.voteSlot u x1 x2 x3 x4) ↔ Frame m s u := by
  refine Frame.thru (m := 0x22590ffdd8) ?_ k
  unfold State.voteSlot
  repeat' (first | simp (disch := first | decide | rfl | (intros; simp (disch := first | decide | rfl | (intros; simp (disch := decide) only [↓Frame.alarmConfig, ↓Frame.compareLanes, ↓Frame.count, ↓Frame.gooseSlot, ↓Frame.laneEval, ↓Frame.putReg, ↓Frame.resyncLanes, ↓Frame.setVote, ↓Frame.showPoint, ↓Frame.transition, ↓Frame.updatePins, ↓Frame.ite, ↓Frame.foldl, ↓Frame.foldlFst, Frame.refl, ite_self, ok, refuse, apply_ite CmdResult.state, apply_ite Prod.fst, apply_ite Prod.snd])) only [↓Frame.alarmConfig, ↓Frame.compareLanes, ↓Frame.count, ↓Frame.gooseSlot, ↓Frame.laneEval, ↓Frame.putReg, ↓Frame.resyncLanes, ↓Frame.setVote, ↓Frame.showPoint, ↓Frame.transition, ↓Frame.updatePins, ↓Frame.ite, ↓Frame.foldl, ↓Frame.foldlFst, Frame.refl, ite_self, ok, refuse, apply_ite CmdResult.state, apply_ite Prod.fst, apply_ite Prod.snd])) only [↓Frame.alarmConfig, ↓Frame.compareLanes, ↓Frame.count, ↓Frame.gooseSlot, ↓Frame.putReg, ↓Frame.resyncLanes, ↓Frame.setVote, ↓Frame.updatePins, ↓Frame.ite, ↓Frame.foldl, ↓Frame.foldlFst, Frame.refl, ite_self] | split)

theorem Frame.closePipeline {m : Nat} {s u : State} {x1 : Checks} {x2 : List (ℕ × ℕ)} (k : 0x23f90fffd8 ||| m = m) : Frame m s (State.closePipeline u x1 x2) ↔ Frame m s u := by
  refine Frame.thru (m := 0x23f90fffd8) ?_ k
  unfold State.closePipeline
  repeat' (first | simp (disch := decide) only [↓Frame.deriveSlot, ↓Frame.energySlot, ↓Frame.isleInputs, ↓Frame.isleSlot, ↓Frame.loomRun, ↓Frame.modSlot, ↓Frame.oscSlot, ↓Frame.setLoom, ↓Frame.showLattice, ↓Frame.voteSlot, ↓Frame.ite, Frame.refl, ite_self] | split)

theorem Frame.monRefuse {m : Nat} {s u : State} {x1 x2 : ℕ} (k : 0x100008d0 ||| m = m) : Frame m s (State.monRefuse u x1 x2) ↔ Frame m s u := by
  refine Frame.thru (m := 0x100008d0) ?_ k
  unfold State.monRefuse
  simp (disch := decide) only [↓Frame.event, ↓Frame.monErr, Frame.refl]

theorem Frame.putArgs {m : Nat} {s u : State} {x1 : ℕ} {x2 : List ℕ} (k : 0x20010 ||| m = m) : Frame m s (State.putArgs u x1 x2) ↔ Frame m s u := by
  refine Frame.thru (m := 0x20010) ?_ k
  unfold State.putArgs
  repeat' (first | simp (disch := first | decide | rfl | (intros; simp (disch := first | decide | rfl | (intros; simp (disch := decide) only [↓Frame.putReg, ↓Frame.stall, ↓Frame.ite, ↓Frame.foldl, ↓Frame.foldlFst, Frame.refl, ite_self, ok, refuse, apply_ite CmdResult.state, apply_ite Prod.fst, apply_ite Prod.snd])) only [↓Frame.putReg, ↓Frame.stall, ↓Frame.ite, ↓Frame.foldl, ↓Frame.foldlFst, Frame.refl, ite_self, ok, refuse, apply_ite CmdResult.state, apply_ite Prod.fst, apply_ite Prod.snd])) only [↓Frame.foldl, Frame.refl] | split)

theorem State.monWrite_cases (u : State) (x : CmdInput) (addr v reply : Nat) (f : State → State) :
    (∃ w, Frame 0x3bff2fffd8 u w ∧ Frame 0x3bff2fffd8 (f w) (u.monWrite x addr v reply f)) ∨ Frame 0x3bff2fffd8 u (u.monWrite x addr v reply f) := by
  generalize e : u.monWrite x addr v reply f = r
  unfold State.monWrite at e
  repeat' (first | split at e | (dsimp only at e; split at e))
  all_goals (subst e; first | (refine Or.inl ⟨_, ?_, Frame.refl _ (f _)⟩; simp (disch := first | decide | rfl | (intros; (repeat' (first | simp (disch := first | decide | rfl | (intros; (repeat' (first | simp (disch := decide) only [↓Frame.absentAccess, ↓Frame.monErr, ↓Frame.monNote, ↓Frame.noStacksAccess, ↓Frame.notMaster, ↓Frame.stall, ↓Frame.writeReg, ↓Frame.ite, ↓Frame.foldl, ↓Frame.foldlFst, Frame.refl, ite_self, ok, refuse, apply_ite CmdResult.state, apply_ite Prod.fst, apply_ite Prod.snd] | split)); done)) only [↓Frame.absentAccess, ↓Frame.monErr, ↓Frame.monNote, ↓Frame.noStacksAccess, ↓Frame.notMaster, ↓Frame.stall, ↓Frame.writeReg, ↓Frame.ite, ↓Frame.foldl, ↓Frame.foldlFst, Frame.refl, ite_self, ok, refuse, apply_ite CmdResult.state, apply_ite Prod.fst, apply_ite Prod.snd] | split)); done)) only [↓Frame.monNote, ↓Frame.writeReg, Frame.refl]; done) | (refine Or.inr ?_; simp (disch := first | decide | rfl | (intros; (repeat' (first | simp (disch := first | decide | rfl | (intros; (repeat' (first | simp (disch := decide) only [↓Frame.absentAccess, ↓Frame.monErr, ↓Frame.monNote, ↓Frame.noStacksAccess, ↓Frame.notMaster, ↓Frame.stall, ↓Frame.writeReg, ↓Frame.ite, ↓Frame.foldl, ↓Frame.foldlFst, Frame.refl, ite_self, ok, refuse, apply_ite CmdResult.state, apply_ite Prod.fst, apply_ite Prod.snd] | split)); done)) only [↓Frame.absentAccess, ↓Frame.monErr, ↓Frame.monNote, ↓Frame.noStacksAccess, ↓Frame.notMaster, ↓Frame.stall, ↓Frame.writeReg, ↓Frame.ite, ↓Frame.foldl, ↓Frame.foldlFst, Frame.refl, ite_self, ok, refuse, apply_ite CmdResult.state, apply_ite Prod.fst, apply_ite Prod.snd] | split)); done)) only [↓Frame.absentAccess, ↓Frame.monErr, ↓Frame.noStacksAccess, ↓Frame.notMaster, ↓Frame.stall, Frame.refl]; done))

theorem Frame.monWrite {m : Nat} {s u : State} (x : CmdInput) (addr v reply : Nat) (f : State → State) (h : ∀ w, Frame m w (f w)) (k : 0x3bff2fffd8 ||| m = m) :
    Frame m s (u.monWrite x addr v reply f) ↔ Frame m s u := by
  rcases State.monWrite_cases u x addr v reply f with ⟨w, a, b⟩ | a
  · exact (((a.mono k).trans (h w)).trans (b.mono k)).thru (Nat.or_self m)
  · exact a.thru k

theorem Frame.sayOutcome {m : Nat} {s u : State} {x1 : ℕ} (k : 0x800 ||| m = m) : Frame m s (State.sayOutcome u x1) ↔ Frame m s u := by
  refine Frame.thru (m := 0x800) ?_ k
  unfold State.sayOutcome
  simp (disch := decide) only [↓Frame.say, ↓Frame.ite, Frame.refl, ite_self]

theorem Frame.monAnswer {m : Nat} {s u : State} {x1 : ℕ} (k : 0x2000000800 ||| m = m) : Frame m s (State.monAnswer u x1) ↔ Frame m s u := by
  refine Frame.thru (m := 0x2000000800) ?_ k
  unfold State.monAnswer
  simp (disch := decide) only [↓Frame.sayOutcome, ↓Frame.setHost, ↓Frame.ite, Frame.refl, ite_self]

theorem Frame.cmdCmd {m : Nat} {s u : State} {x1 x2 : ℕ} {x3 : List ℕ} {x4 : CmdInput} (k : 0x3bff2fffd8 ||| m = m) : Frame m s (State.cmdCmd u x1 x2 x3 x4) ↔ Frame m s u := by
  refine Frame.thru (m := 0x3bff2fffd8) ?_ k
  unfold State.cmdCmd
  repeat' (first | simp (disch := first | decide | rfl | (intros; simp (disch := first | decide | rfl | (intros; simp (disch := decide) only [↓Frame.monAnswer, ↓Frame.monErr, ↓Frame.monRefuse, ↓Frame.monWrite, ↓Frame.putArgs, ↓Frame.ite, ↓Frame.foldl, ↓Frame.foldlFst, Frame.refl, ite_self, ok, refuse, apply_ite CmdResult.state, apply_ite Prod.fst, apply_ite Prod.snd])) only [↓Frame.monAnswer, ↓Frame.monErr, ↓Frame.monRefuse, ↓Frame.monWrite, ↓Frame.putArgs, ↓Frame.ite, ↓Frame.foldl, ↓Frame.foldlFst, Frame.refl, ite_self, ok, refuse, apply_ite CmdResult.state, apply_ite Prod.fst, apply_ite Prod.snd])) only [↓Frame.monErr, ↓Frame.monRefuse, ↓Frame.monWrite, ↓Frame.putArgs, ↓Frame.ite, Frame.refl, ite_self] | split)

theorem Frame.coalesceClose {m : Nat} {s u : State} (k : 0x80 ||| m = m) : Frame m s (State.coalesceClose u) ↔ Frame m s u := by
  refine Frame.thru (m := 0x80) ?_ k
  unfold State.coalesceClose
  simp (disch := decide) only [↓Frame.setLedger, Frame.refl]

theorem State.coldStart_frame (u : State) : Frame 0xabffffe57e u u.coldStart := by
  intro p hp; cases p <;> first | exact absurd hp (by decide) | rfl
theorem Frame.coldStart {m : Nat} {s u : State} (k : 0xabffffe57e ||| m = m) : Frame m s u.coldStart ↔ Frame m s u := (State.coldStart_frame u).thru k

theorem Frame.osPass {m : Nat} {s u : State} {x1 x2 : ℕ} (k : 0x40000000 ||| m = m) : Frame m s (State.osPass u x1 x2) ↔ Frame m s u := by
  refine Frame.thru (m := 0x40000000) ?_ k
  unfold State.osPass
  simp (disch := decide) only [↓Frame.putOs, Frame.refl]

theorem Frame.compose {m : Nat} {s u : State} {x1 x2 : ℕ} {x3 : List Byte} (k : 0x500018d0 ||| m = m) : Frame m s (State.compose u x1 x2 x3) ↔ Frame m s u := by
  refine Frame.thru (m := 0x500018d0) ?_ k
  unfold State.compose
  repeat' (first | simp (disch := decide) only [↓Frame.count, ↓Frame.draw, ↓Frame.event, ↓Frame.osPass, ↓Frame.putOs, ↓Frame.raise, ↓Frame.ite, Frame.refl] | split)

theorem Frame.composeStart {m : Nat} {s u : State} {x1 : ℕ} (k : 0x500018d0 ||| m = m) : Frame m s (State.composeStart u x1) ↔ Frame m s u := by
  refine Frame.thru (m := 0x500018d0) ?_ k
  unfold State.composeStart
  repeat' (first | simp (disch := decide) only [↓Frame.compose, ↓Frame.ite, Frame.refl, ite_self] | split)

theorem Frame.countPacket {m : Nat} {s u : State} {x1 : ℕ} (k : 0x40810 ||| m = m) : Frame m s (State.countPacket u x1) ↔ Frame m s u := by
  refine Frame.thru (m := 0x40810) ?_ k
  unfold State.countPacket
  simp (disch := decide) only [↓Frame.putQueue, ↓Frame.signal, ↓Frame.ite, Frame.refl, ite_self]

theorem Frame.takeUtc {m : Nat} {s u : State} (k : 0x10 ||| m = m) : Frame m s (State.takeUtc u) ↔ Frame m s u := by
  refine Frame.thru (m := 0x10) ?_ k
  unfold State.takeUtc
  repeat' (first | simp (disch := decide) only [↓Frame.putFld, Frame.refl] | split)

theorem Frame.qualify {m : Nat} {s u : State} {x1 : ℕ} (k : 0x2100079d0 ||| m = m) : Frame m s (State.qualify u x1) ↔ Frame m s u := by
  refine Frame.thru (m := 0x2100079d0) ?_ k
  unfold State.qualify
  simp (disch := decide) only [↓Frame.putReg, ↓Frame.select, ↓Frame.takeUtc, ↓Frame.ite, Frame.refl, ite_self]

theorem Frame.crossAgree {m : Nat} {s u : State} (k : 0x2100079d0 ||| m = m) : Frame m s (State.crossAgree u) ↔ Frame m s u := by
  refine Frame.thru (m := 0x2100079d0) ?_ k
  unfold State.crossAgree
  repeat' (first | simp (disch := first | decide | rfl | (intros; simp (disch := first | decide | rfl | (intros; simp (disch := decide) only [↓Frame.qualify, ↓Frame.setTime, ↓Frame.ite, ↓Frame.foldl, ↓Frame.foldlFst, Frame.refl, ite_self, ok, refuse, apply_ite CmdResult.state, apply_ite Prod.fst, apply_ite Prod.snd])) only [↓Frame.qualify, ↓Frame.setTime, ↓Frame.ite, ↓Frame.foldl, ↓Frame.foldlFst, Frame.refl, ite_self, ok, refuse, apply_ite CmdResult.state, apply_ite Prod.fst, apply_ite Prod.snd])) only [↓Frame.setTime, ↓Frame.ite, ↓Frame.foldl, Frame.refl, ite_self] | split)

theorem Frame.crossCheck {m : Nat} {s u : State} {x1 : ℕ} {x2 : ℤ} (k : 0x2018 ||| m = m) : Frame m s (State.crossCheck u x1 x2) ↔ Frame m s u := by
  refine Frame.thru (m := 0x2018) ?_ k
  unfold State.crossCheck
  lift_lets
  extract_lets r1 s1 diff tol both s2 apart r2 s3 r4
  clear_value apart both tol diff
  have hs1 : Frame 0x2018 u s1 := by
    simp only [s1]
    split
    · exact Frame.mono (n := 0x2018) (State.setBases_frame u _ rfl) (by decide)
    · exact Frame.refl _ _
  clear_value s1
  have hs2 : Frame 0x2018 s1 s2 := by
    simp only [s2]
    repeat' (first | simp (disch := first | decide | rfl | (intros; (repeat' (first | simp (disch := first | decide | rfl | (intros; (repeat' (first | simp (disch := decide) only [↓Frame.putReg, ↓Frame.setBases, ↓Frame.setTime, ↓Frame.ite, ↓Frame.foldl, ↓Frame.foldlFst, Frame.refl, ite_self, ok, refuse, apply_ite CmdResult.state, apply_ite Prod.fst, apply_ite Prod.snd] | split)); done)) only [↓Frame.putReg, ↓Frame.setBases, ↓Frame.setTime, ↓Frame.ite, ↓Frame.foldl, ↓Frame.foldlFst, Frame.refl, ite_self, ok, refuse, apply_ite CmdResult.state, apply_ite Prod.fst, apply_ite Prod.snd] | split)); done)) only [↓Frame.putReg, ↓Frame.ite, Frame.refl, ite_self] | split)
  clear_value s2
  replace hs2 := hs1.trans hs2
  have hs3 : Frame 0x2018 s2 s3 := by
    simp only [s3]
    repeat' (first | simp (disch := first | decide | rfl | (intros; (repeat' (first | simp (disch := first | decide | rfl | (intros; (repeat' (first | simp (disch := decide) only [↓Frame.putReg, ↓Frame.setBases, ↓Frame.setTime, ↓Frame.ite, ↓Frame.foldl, ↓Frame.foldlFst, Frame.refl, ite_self, ok, refuse, apply_ite CmdResult.state, apply_ite Prod.fst, apply_ite Prod.snd] | split)); done)) only [↓Frame.putReg, ↓Frame.setBases, ↓Frame.setTime, ↓Frame.ite, ↓Frame.foldl, ↓Frame.foldlFst, Frame.refl, ite_self, ok, refuse, apply_ite CmdResult.state, apply_ite Prod.fst, apply_ite Prod.snd] | split)); done)) only [↓Frame.setTime, Frame.refl] | split)
  clear_value s3
  replace hs3 := hs2.trans hs3
  refine Frame.trans hs3 ?_
  generalize s3.time.crossOut = l
  rcases l with _ | ⟨a, _ | ⟨b, _ | ⟨c, l⟩⟩⟩
  all_goals simp (disch := first | decide | rfl | (intros; (repeat' (first | simp (disch := first | decide | rfl | (intros; (repeat' (first | simp (disch := decide) only [↓Frame.putReg, ↓Frame.setBases, ↓Frame.setTime, ↓Frame.ite, ↓Frame.foldl, ↓Frame.foldlFst, Frame.refl, ite_self, ok, refuse, apply_ite CmdResult.state, apply_ite Prod.fst, apply_ite Prod.snd] | split)); done)) only [↓Frame.putReg, ↓Frame.setBases, ↓Frame.setTime, ↓Frame.ite, ↓Frame.foldl, ↓Frame.foldlFst, Frame.refl, ite_self, ok, refuse, apply_ite CmdResult.state, apply_ite Prod.fst, apply_ite Prod.snd] | split)); done)) only [↓Frame.setTime, Frame.refl]

theorem Frame.disqualify {m : Nat} {s u : State} {x1 : ℕ} (k : 0x2100079d0 ||| m = m) : Frame m s (State.disqualify u x1) ↔ Frame m s u := by
  refine Frame.thru (m := 0x2100079d0) ?_ k
  unfold State.disqualify
  simp (disch := decide) only [↓Frame.clearQual, ↓Frame.putSrc, ↓Frame.select, ↓Frame.ite, Frame.refl, ite_self]

theorem Frame.crossFail {m : Nat} {s u : State} (k : 0x225807fdd8 ||| m = m) : Frame m s (State.crossFail u) ↔ Frame m s u := by
  refine Frame.thru (m := 0x225807fdd8) ?_ k
  unfold State.crossFail
  repeat' (first | simp (disch := decide) only [↓Frame.crossLost, ↓Frame.disqualify, ↓Frame.event, ↓Frame.lasting, ↓Frame.raise, ↓Frame.setTime, ↓Frame.ite, Frame.refl] | split)

theorem Frame.dropFlow {m : Nat} {s u : State} {x1 : SlvFlow} (k : 0x10000000 ||| m = m) : Frame m s (State.dropFlow u x1) ↔ Frame m s u := by
  refine Frame.thru (m := 0x10000000) ?_ k
  unfold State.dropFlow
  simp (disch := decide) only [↓Frame.setSlv, Frame.refl]

theorem Frame.truncate {m : Nat} {s u : State} {x1 : SlvFlow} (k : 0x100408d0 ||| m = m) : Frame m s (State.truncate u x1) ↔ Frame m s u := by
  refine Frame.thru (m := 0x100408d0) ?_ k
  unfold State.truncate
  simp (disch := decide) only [↓Frame.dropFlow, ↓Frame.toRx, ↓Frame.ite, Frame.refl, ite_self]

theorem Frame.cutEarlier {m : Nat} {s u : State} {x1 x2 : ℕ} (k : 0x100408d0 ||| m = m) : Frame m s (State.cutEarlier u x1 x2) ↔ Frame m s u := by
  refine Frame.thru (m := 0x100408d0) ?_ k
  unfold State.cutEarlier
  repeat' (first | simp (disch := first | decide | rfl | (intros; simp (disch := first | decide | rfl | (intros; simp (disch := decide) only [↓Frame.truncate, ↓Frame.ite, ↓Frame.foldl, ↓Frame.foldlFst, Frame.refl, ite_self, ok, refuse, apply_ite CmdResult.state, apply_ite Prod.fst, apply_ite Prod.snd])) only [↓Frame.truncate, ↓Frame.ite, ↓Frame.foldl, ↓Frame.foldlFst, Frame.refl, ite_self, ok, refuse, apply_ite CmdResult.state, apply_ite Prod.fst, apply_ite Prod.snd])) only [↓Frame.foldl, Frame.refl] | split)

theorem Frame.d2hCopy {m : Nat} {s u : State} {x1 : ℕ} {x2 : Bool} (k : 0x100408d0 ||| m = m) : Frame m s (State.d2hCopy u x1 x2) ↔ Frame m s u := by
  refine Frame.thru (m := 0x100408d0) ?_ k
  unfold State.d2hCopy
  repeat' (first | simp (disch := decide) only [↓Frame.countPacket, ↓Frame.dmaError, ↓Frame.emit, ↓Frame.putLevel, ↓Frame.putReg, ↓Frame.ite, Frame.refl, ite_self] | split)

theorem Frame.dataOnRetry {m : Nat} {s u : State} {x1 : ℕ} (k : 0x102c18d0 ||| m = m) : Frame m s (State.dataOnRetry u x1) ↔ Frame m s u := by
  refine Frame.thru (m := 0x102c18d0) ?_ k
  unfold State.dataOnRetry
  simp (disch := decide) only [↓Frame.putStream, ↓Frame.requestCommand, ↓Frame.ite, Frame.refl, ite_self]

theorem Frame.mcastAt {m : Nat} {s u : State} {x1 : ℕ} (k : 0x10 ||| m = m) : Frame m s (State.mcastAt u x1) ↔ Frame m s u := by
  refine Frame.thru (m := 0x10) ?_ k
  unfold State.mcastAt
  repeat' (first | simp (disch := first | decide | rfl | (intros; simp (disch := first | decide | rfl | (intros; simp (disch := decide) only [↓Frame.putMcast, ↓Frame.ite, ↓Frame.foldl, ↓Frame.foldlFst, Frame.refl, ite_self, ok, refuse, apply_ite CmdResult.state, apply_ite Prod.fst, apply_ite Prod.snd])) only [↓Frame.putMcast, ↓Frame.ite, ↓Frame.foldl, ↓Frame.foldlFst, Frame.refl, ite_self, ok, refuse, apply_ite CmdResult.state, apply_ite Prod.fst, apply_ite Prod.snd])) only [↓Frame.foldl, Frame.refl] | split)

theorem Frame.slowPath {m : Nat} {s u : State} {x1 x2 x3 x4 : ℕ} {x5 : List Byte} (k : 0x100c08d0 ||| m = m) : Frame m s (State.slowPath u x1 x2 x3 x4 x5) ↔ Frame m s u := by
  refine Frame.thru (m := 0x100c08d0) ?_ k
  unfold State.slowPath
  simp (disch := decide) only [↓Frame.burst, ↓Frame.commit, ↓Frame.count, ↓Frame.endBurst, ↓Frame.raise, ↓Frame.setPort, ↓Frame.ite, Frame.refl, ite_self]

theorem Frame.toHeddle {m : Nat} {s u : State} {x1 : ℕ} {x2 : HedFrame} (k : 0x100010 ||| m = m) : Frame m s (State.toHeddle u x1 x2) ↔ Frame m s u := by
  refine Frame.thru (m := 0x100010) ?_ k
  unfold State.toHeddle
  simp (disch := decide) only [↓Frame.count, ↓Frame.setHedQ, ↓Frame.ite, Frame.refl, ite_self]

theorem Frame.deliver {m : Nat} {s u : State} {x1 x2 x3 : ℕ} {x4 : List Byte} (k : 0x101c08d0 ||| m = m) : Frame m s (State.deliver u x1 x2 x3 x4) ↔ Frame m s u := by
  refine Frame.thru (m := 0x101c08d0) ?_ k
  unfold State.deliver
  repeat' (first | simp (disch := decide) only [↓Frame.count, ↓Frame.slowPath, ↓Frame.toHeddle, Frame.refl] | split)

theorem Frame.deny {m : Nat} {s u : State} {x1 : Stalled} (k : 0x100008d0 ||| m = m) : Frame m s (State.deny u x1) ↔ Frame m s u := by
  refine Frame.thru (m := 0x100008d0) ?_ k
  unfold State.deny
  simp (disch := decide) only [↓Frame.emit, ↓Frame.hostErr, ↓Frame.say, ↓Frame.ite, Frame.refl, ite_self]

theorem Frame.give {m : Nat} {s u : State} {x1 x2 x3 x4 x5 : ℕ} (k : 0x6000010 ||| m = m) : Frame m s (State.give u x1 x2 x3 x4 x5) ↔ Frame m s u := by
  refine Frame.thru (m := 0x6000010) ?_ k
  unfold State.give
  simp (disch := decide) only [↓Frame.putThread, ↓Frame.toLoom, ↓Frame.ite, Frame.refl, ite_self]

theorem Frame.putDet {m : Nat} {s u : State} {x1 : ℕ} {x2 : DetSt} (k : 0x2000000 ||| m = m) : Frame m s (State.putDet u x1 x2) ↔ Frame m s u := by
  refine Frame.thru (m := 0x2000000) ?_ k
  unfold State.putDet
  simp (disch := decide) only [↓Frame.setReed, Frame.refl]

theorem Frame.detOutput {m : Nat} {s u : State} {x1 : List Byte} {x2 x3 x4 x5 : ℕ} (k : 0x6000010 ||| m = m) : Frame m s (State.detOutput u x1 x2 x3 x4 x5) ↔ Frame m s u := by
  refine Frame.thru (m := 0x6000010) ?_ k
  unfold State.detOutput
  simp (disch := decide) only [↓Frame.give, ↓Frame.putDet, Frame.refl]

theorem State.detSlots_frame (u : State) (x1 x2 x3 x4 x5 : ℕ) (x6 : List (ℕ × ℕ)) : Frame 0x6000010 u (State.detSlots u x1 x2 x3 x4 x5 x6) := by
  induction x6 generalizing u with
  | nil => exact Frame.refl _ _
  | cons a l ih =>
    have ih' : ∀ s u , Frame 0x6000010 s (u.detSlots x1 x2 x3 x4 x5 l) ↔ Frame 0x6000010 s u := fun s u  => (ih u ).thru (Nat.or_self _)
    unfold State.detSlots
    repeat' (first | simp (disch := first | decide | rfl | (intros; (repeat' (first | simp (disch := first | decide | rfl | (intros; (repeat' (first | simp (disch := decide) only [ih', ↓Frame.detOutput, ↓Frame.putDet, ↓Frame.ite, ↓Frame.foldl, ↓Frame.foldlFst, Frame.refl, ite_self, ok, refuse, apply_ite CmdResult.state, apply_ite Prod.fst, apply_ite Prod.snd] | split)); done)) only [ih', ↓Frame.detOutput, ↓Frame.putDet, ↓Frame.ite, ↓Frame.foldl, ↓Frame.foldlFst, Frame.refl, ite_self, ok, refuse, apply_ite CmdResult.state, apply_ite Prod.fst, apply_ite Prod.snd] | split)); done)) only [ih', ↓Frame.detOutput, ↓Frame.putDet, ↓Frame.ite, Frame.refl, ite_self] | split)
theorem Frame.detSlots {m : Nat} {s u : State} {x1 x2 x3 x4 x5 : ℕ} {x6 : List (ℕ × ℕ)} (k : 0x6000010 ||| m = m) : Frame m s (State.detSlots u x1 x2 x3 x4 x5 x6) ↔ Frame m s u :=
  (State.detSlots_frame u x1 x2 x3 x4 x5 x6).thru k

theorem Frame.heddleReplay {m : Nat} {s u : State} (k : 0x103c18d0 ||| m = m) : Frame m s (State.heddleReplay u) ↔ Frame m s u := by
  refine Frame.thru (m := 0x103c18d0) ?_ k
  unfold State.heddleReplay
  repeat' (first | simp (disch := first | decide | rfl | (intros; simp (disch := first | decide | rfl | (intros; simp (disch := decide) only [↓Frame.enterWaiting, ↓Frame.setHedQ, ↓Frame.setHeddle, ↓Frame.ite, ↓Frame.foldl, ↓Frame.foldlFst, Frame.refl, ite_self, ok, refuse, apply_ite CmdResult.state, apply_ite Prod.fst, apply_ite Prod.snd])) only [↓Frame.enterWaiting, ↓Frame.setHedQ, ↓Frame.setHeddle, ↓Frame.ite, ↓Frame.foldl, ↓Frame.foldlFst, Frame.refl, ite_self, ok, refuse, apply_ite CmdResult.state, apply_ite Prod.fst, apply_ite Prod.snd])) only [↓Frame.setHedQ, ↓Frame.setHeddle, ↓Frame.foldl, Frame.refl] | split)

theorem Frame.startLinks {m : Nat} {s u : State} (k : 0x10000010 ||| m = m) : Frame m s (State.startLinks u) ↔ Frame m s u := by
  refine Frame.thru (m := 0x10000010) ?_ k
  unfold State.startLinks
  repeat' (first | simp (disch := first | decide | rfl | (intros; simp (disch := first | decide | rfl | (intros; simp (disch := decide) only [↓Frame.startLink, ↓Frame.ite, ↓Frame.foldl, ↓Frame.foldlFst, Frame.refl, ite_self, ok, refuse, apply_ite CmdResult.state, apply_ite Prod.fst, apply_ite Prod.snd])) only [↓Frame.startLink, ↓Frame.ite, ↓Frame.foldl, ↓Frame.foldlFst, Frame.refl, ite_self, ok, refuse, apply_ite CmdResult.state, apply_ite Prod.fst, apply_ite Prod.snd])) only [↓Frame.foldl, Frame.refl] | split)

theorem Frame.shuttleReplay {m : Nat} {s u : State} (k : 0x500408d0 ||| m = m) : Frame m s (State.shuttleReplay u) ↔ Frame m s u := by
  refine Frame.thru (m := 0x500408d0) ?_ k
  unfold State.shuttleReplay
  simp (disch := decide) only [↓Frame.flushAll, ↓Frame.setShuttle, Frame.refl]

theorem Frame.laneReplay {m : Nat} {s u : State} {x1 : ℕ} (k : 0x4000 ||| m = m) : Frame m s (State.laneReplay u x1) ↔ Frame m s u := by
  refine Frame.thru (m := 0x4000) ?_ k
  unfold State.laneReplay
  simp (disch := decide) only [↓Frame.setVote, Frame.refl]

theorem Frame.replay {m : Nat} {s u : State} {x1 : ℕ} (k : 0x3fffc5dd0 ||| m = m) : Frame m s (State.replay u x1) ↔ Frame m s u := by
  refine Frame.thru (m := 0x3fffc5dd0) ?_ k
  unfold State.replay
  simp (disch := decide) only [↓Frame.anaReplay, ↓Frame.heddleReplay, ↓Frame.laneReplay, ↓Frame.loomRun, ↓Frame.setLoomQ, ↓Frame.setReed, ↓Frame.setReedQ, ↓Frame.setWaveQ, ↓Frame.shuttleReplay, ↓Frame.startLinks, ↓Frame.updatePins, ↓Frame.ite, Frame.refl, ite_self]

theorem Frame.domainWoken {m : Nat} {s u : State} {x1 x2 : ℕ} (k : 0x3fffffdd8 ||| m = m) : Frame m s (State.domainWoken u x1 x2) ↔ Frame m s u := by
  refine Frame.thru (m := 0x3fffffdd8) ?_ k
  unfold State.domainWoken
  repeat' (first | simp (disch := first | decide | rfl | (intros; simp (disch := first | decide | rfl | (intros; simp (disch := decide) only [↓Frame.domainEvent, ↓Frame.putElem, ↓Frame.replay, ↓Frame.setDomain, ↓Frame.setPower, ↓Frame.showWoken, ↓Frame.ite, ↓Frame.foldl, ↓Frame.foldlFst, Frame.refl, ite_self, ok, refuse, apply_ite CmdResult.state, apply_ite Prod.fst, apply_ite Prod.snd])) only [↓Frame.domainEvent, ↓Frame.putElem, ↓Frame.replay, ↓Frame.setDomain, ↓Frame.setPower, ↓Frame.showWoken, ↓Frame.ite, ↓Frame.foldl, ↓Frame.foldlFst, Frame.refl, ite_self, ok, refuse, apply_ite CmdResult.state, apply_ite Prod.fst, apply_ite Prod.snd])) only [↓Frame.domainEvent, ↓Frame.replay, ↓Frame.setDomain, ↓Frame.setPower, ↓Frame.showWoken, ↓Frame.ite, ↓Frame.foldl, Frame.refl, ite_self] | split)

theorem Frame.doorbell {m : Nat} {s u : State} {x1 : Path} {x2 x3 : ℕ} (k : 0x100208d0 ||| m = m) : Frame m s (State.doorbell u x1 x2 x3) ↔ Frame m s u := by
  refine Frame.thru (m := 0x100208d0) ?_ k
  unfold State.doorbell
  repeat' (first | simp (disch := first | decide | rfl | (intros; simp (disch := first | decide | rfl | (intros; simp (disch := decide) only [↓Frame.access, ↓Frame.writeDoorbell, ↓Frame.ite, ↓Frame.foldl, ↓Frame.foldlFst, Frame.refl, ite_self, ok, refuse, apply_ite CmdResult.state, apply_ite Prod.fst, apply_ite Prod.snd])) only [↓Frame.access, ↓Frame.writeDoorbell, ↓Frame.ite, ↓Frame.foldl, ↓Frame.foldlFst, Frame.refl, ite_self, ok, refuse, apply_ite CmdResult.state, apply_ite Prod.fst, apply_ite Prod.snd])) only [↓Frame.access, ↓Frame.ite, Frame.refl, ite_self] | split)

theorem Frame.draftCompare {m : Nat} {s u : State} {x1 : ℕ} (k : 0x100008d0 ||| m = m) : Frame m s (State.draftCompare u x1) ↔ Frame m s u := by
  refine Frame.thru (m := 0x100008d0) ?_ k
  unfold State.draftCompare
  simp (disch := decide) only [↓Frame.event, ↓Frame.putFld, ↓Frame.raise, ↓Frame.ite, Frame.refl, ite_self]

theorem Frame.drainEnds {m : Nat} {s u : State} {x1 : ℕ} (k : 0x20100208d0 ||| m = m) : Frame m s (State.drainEnds u x1) ↔ Frame m s u := by
  refine Frame.thru (m := 0x20100208d0) ?_ k
  unfold State.drainEnds
  repeat' (first | simp (disch := first | decide | rfl | (intros; (repeat' (first | simp (disch := first | decide | rfl | (intros; (repeat' (first | simp (disch := decide) only [↓Frame.ofFinish, ↓Frame.sayOutcome, ↓Frame.setHost, ↓Frame.setPower, ↓Frame.ite, ↓Frame.foldl, ↓Frame.foldlFst, Frame.refl, ite_self, ok, refuse, apply_ite CmdResult.state, apply_ite Prod.fst, apply_ite Prod.snd] | split)); done)) only [↓Frame.ofFinish, ↓Frame.sayOutcome, ↓Frame.setHost, ↓Frame.setPower, ↓Frame.ite, ↓Frame.foldl, ↓Frame.foldlFst, Frame.refl, ite_self, ok, refuse, apply_ite CmdResult.state, apply_ite Prod.fst, apply_ite Prod.snd] | split)); done)) only [↓Frame.ofFinish, ↓Frame.sayOutcome, ↓Frame.setHost, ↓Frame.setPower, ↓Frame.ite, Frame.refl, ite_self] | split)

theorem Frame.requestDue {m : Nat} {s u : State} (k : 0x20110 ||| m = m) : Frame m s (State.requestDue u) ↔ Frame m s u := by
  refine Frame.thru (m := 0x20110) ?_ k
  unfold State.requestDue
  repeat' (first | simp (disch := decide) only [↓Frame.decideMode, ↓Frame.setPower, ↓Frame.ite, Frame.refl, ite_self] | split)

theorem Frame.drainTimeout {m : Nat} {s u : State} {x1 : ℕ} (k : 0x20100209d0 ||| m = m) : Frame m s (State.drainTimeout u x1) ↔ Frame m s u := by
  refine Frame.thru (m := 0x20100209d0) ?_ k
  unfold State.drainTimeout
  repeat' (first | simp (disch := decide) only [↓Frame.count, ↓Frame.drainEnds, ↓Frame.event, ↓Frame.raise, ↓Frame.requestDue, ↓Frame.ite, Frame.refl, ite_self] | split)

theorem Frame.drained {m : Nat} {s u : State} (k : 0x2258037dd8 ||| m = m) : Frame m s (State.drained u) ↔ Frame m s u := by
  refine Frame.thru (m := 0x2258037dd8) ?_ k
  unfold State.drained
  repeat' (first | simp (disch := decide) only [↓Frame.domainEvent, ↓Frame.drainEnds, ↓Frame.requestDue, ↓Frame.setDomain, ↓Frame.setPower, ↓Frame.ite, Frame.refl, ite_self] | split)

theorem Frame.droopEvent {m : Nat} {s u : State} {x1 x2 x3 x4 : ℕ} (k : 0x100008d0 ||| m = m) : Frame m s (State.droopEvent u x1 x2 x3 x4) ↔ Frame m s u := by
  refine Frame.thru (m := 0x100008d0) ?_ k
  unfold State.droopEvent
  simp (disch := decide) only [↓Frame.event, Frame.refl]

theorem Frame.droopLasts {m : Nat} {s u : State} {x1 : ℕ} (k : 0x225807fdd8 ||| m = m) : Frame m s (State.droopLasts u x1) ↔ Frame m s u := by
  refine Frame.thru (m := 0x225807fdd8) ?_ k
  unfold State.droopLasts
  repeat' (first | simp (disch := decide) only [↓Frame.count, ↓Frame.droopEvent, ↓Frame.lasting, ↓Frame.setPower, ↓Frame.ite, Frame.refl, ite_self] | split)

theorem Frame.loadLost {m : Nat} {s u : State} {x1 : LoadReq} {x2 : LoadFailure} (k : 0x258017dd8 ||| m = m) : Frame m s (State.loadLost u x1 x2) ↔ Frame m s u := by
  refine Frame.thru (m := 0x258017dd8) ?_ k
  unfold State.loadLost
  repeat' (first | simp (disch := decide) only [↓Frame.draftFails, ↓Frame.refuseObject, ↓Frame.setDraft, Frame.refl] | split)

theorem Frame.retries {m : Nat} {s u : State} {x1 : ℕ} {x2 : List ℕ} (k : 0x100008d0 ||| m = m) : Frame m s (State.retries u x1 x2) ↔ Frame m s u := by
  refine Frame.thru (m := 0x100008d0) ?_ k
  unfold State.retries
  repeat' (first | simp (disch := first | decide | rfl | (intros; simp (disch := first | decide | rfl | (intros; simp (disch := decide) only [↓Frame.count, ↓Frame.event, ↓Frame.ite, ↓Frame.foldl, ↓Frame.foldlFst, Frame.refl, ite_self, ok, refuse, apply_ite CmdResult.state, apply_ite Prod.fst, apply_ite Prod.snd])) only [↓Frame.count, ↓Frame.event, ↓Frame.ite, ↓Frame.foldl, ↓Frame.foldlFst, Frame.refl, ite_self, ok, refuse, apply_ite CmdResult.state, apply_ite Prod.fst, apply_ite Prod.snd])) only [↓Frame.foldl, Frame.refl] | split)

theorem Frame.loadUnread {m : Nat} {s u : State} {x1 : LoadReq} {x2 : List Byte} {x3 : List ℕ} {x4 : ℕ} (k : 0x258017dd8 ||| m = m) : Frame m s (State.loadUnread u x1 x2 x3 x4) ↔ Frame m s u := by
  refine Frame.thru (m := 0x258017dd8) ?_ k
  unfold State.loadUnread
  simp (disch := decide) only [↓Frame.loadLost, ↓Frame.retries, ↓Frame.ite, Frame.refl, ite_self]

theorem Frame.dropDma {m : Nat} {s u : State} {x1 : List Byte} {x2 : ℕ} (k : 0x258017dd8 ||| m = m) : Frame m s (State.dropDma u x1 x2) ↔ Frame m s u := by
  refine Frame.thru (m := 0x258017dd8) ?_ k
  unfold State.dropDma
  repeat' (first | simp (disch := decide) only [↓Frame.loadUnread, ↓Frame.setDraft, ↓Frame.ite, Frame.refl, ite_self] | split)

theorem Frame.emitPtp {m : Nat} {s u : State} {x1 x2 x3 : ℕ} (k : 0x800 ||| m = m) : Frame m s (State.emitPtp u x1 x2 x3) ↔ Frame m s u := by
  refine Frame.thru (m := 0x800) ?_ k
  unfold State.emitPtp
  simp (disch := decide) only [↓Frame.emit, Frame.refl]

theorem Frame.showDraft {m : Nat} {s u : State} {x1 : Obj} {x2 : ℕ} (k : 0x10 ||| m = m) : Frame m s (State.showDraft u x1 x2) ↔ Frame m s u := by
  refine Frame.thru (m := 0x10) ?_ k
  unfold State.showDraft
  simp (disch := decide) only [↓Frame.putFld, ↓Frame.putPair, ↓Frame.putReg, Frame.refl]

theorem Frame.powerUsed {m : Nat} {s u : State} (k : 0x258017dd8 ||| m = m) : Frame m s (State.powerUsed u) ↔ Frame m s u := by
  refine Frame.thru (m := 0x258017dd8) ?_ k
  unfold State.powerUsed
  repeat' (first | simp (disch := first | decide | rfl | (intros; simp (disch := first | decide | rfl | (intros; simp (disch := decide) only [↓Frame.domainEvent, ↓Frame.putDomain, ↓Frame.setDomain, ↓Frame.ite, ↓Frame.foldl, ↓Frame.foldlFst, Frame.refl, ite_self, ok, refuse, apply_ite CmdResult.state, apply_ite Prod.fst, apply_ite Prod.snd])) only [↓Frame.domainEvent, ↓Frame.putDomain, ↓Frame.setDomain, ↓Frame.ite, ↓Frame.foldl, ↓Frame.foldlFst, Frame.refl, ite_self, ok, refuse, apply_ite CmdResult.state, apply_ite Prod.fst, apply_ite Prod.snd])) only [↓Frame.foldl, Frame.refl] | split)

theorem Frame.loadTime {m : Nat} {s u : State} (k : 0x2018 ||| m = m) : Frame m s (State.loadTime u) ↔ Frame m s u := by
  refine Frame.thru (m := 0x2018) ?_ k
  unfold State.loadTime
  dsimp only
  simp (disch := decide) only [Frame.putFld]
  rw [Frame.setBases (by decide) (by rfl)]
  simp (disch := first | decide | rfl | (intros; (repeat' (first | simp (disch := first | decide | rfl | (intros; (repeat' (first | simp (disch := decide) only [↓Frame.putFld, ↓Frame.setBases, ↓Frame.setTime, ↓Frame.ite, ↓Frame.foldl, ↓Frame.foldlFst, Frame.refl, ite_self, ok, refuse, apply_ite CmdResult.state, apply_ite Prod.fst, apply_ite Prod.snd] | split)); done)) only [↓Frame.putFld, ↓Frame.setBases, ↓Frame.setTime, ↓Frame.ite, ↓Frame.foldl, ↓Frame.foldlFst, Frame.refl, ite_self, ok, refuse, apply_ite CmdResult.state, apply_ite Prod.fst, apply_ite Prod.snd] | split)); done)) only [↓Frame.setTime, Frame.refl]

theorem Frame.loadQueues {m : Nat} {s u : State} (k : 0x40850 ||| m = m) : Frame m s (State.loadQueues u) ↔ Frame m s u := by
  refine Frame.thru (m := 0x40850) ?_ k
  unfold State.loadQueues
  repeat' (first | simp (disch := first | decide | rfl | (intros; simp (disch := first | decide | rfl | (intros; simp (disch := decide) only [↓Frame.putLevel, ↓Frame.putReg, ↓Frame.queueState, ↓Frame.setQueues, ↓Frame.ite, ↓Frame.foldl, ↓Frame.foldlFst, Frame.refl, ite_self, ok, refuse, apply_ite CmdResult.state, apply_ite Prod.fst, apply_ite Prod.snd])) only [↓Frame.putLevel, ↓Frame.putReg, ↓Frame.queueState, ↓Frame.setQueues, ↓Frame.ite, ↓Frame.foldl, ↓Frame.foldlFst, Frame.refl, ite_self, ok, refuse, apply_ite CmdResult.state, apply_ite Prod.fst, apply_ite Prod.snd])) only [↓Frame.setQueues, ↓Frame.foldl, Frame.refl] | split)

theorem Frame.loadPorts {m : Nat} {s u : State} (k : 0x80010 ||| m = m) : Frame m s (State.loadPorts u) ↔ Frame m s u := by
  refine Frame.thru (m := 0x80010) ?_ k
  unfold State.loadPorts
  repeat' (first | simp (disch := first | decide | rfl | (intros; simp (disch := first | decide | rfl | (intros; simp (disch := decide) only [↓Frame.putReg, ↓Frame.setPort, ↓Frame.setRegs, ↓Frame.showLatency, ↓Frame.ite, ↓Frame.foldl, ↓Frame.foldlFst, Frame.refl, ite_self, ok, refuse, apply_ite CmdResult.state, apply_ite Prod.fst, apply_ite Prod.snd])) only [↓Frame.putReg, ↓Frame.setPort, ↓Frame.setRegs, ↓Frame.showLatency, ↓Frame.ite, ↓Frame.foldl, ↓Frame.foldlFst, Frame.refl, ite_self, ok, refuse, apply_ite CmdResult.state, apply_ite Prod.fst, apply_ite Prod.snd])) only [↓Frame.setPort, ↓Frame.setRegs, ↓Frame.foldl, Frame.refl] | split)

theorem Frame.showLattices {m : Nat} {s u : State} (k : 0x10 ||| m = m) : Frame m s (State.showLattices u) ↔ Frame m s u := by
  refine Frame.thru (m := 0x10) ?_ k
  unfold State.showLattices
  repeat' (first | simp (disch := first | decide | rfl | (intros; simp (disch := first | decide | rfl | (intros; simp (disch := decide) only [↓Frame.putReg, ↓Frame.ite, ↓Frame.foldl, ↓Frame.foldlFst, Frame.refl, ite_self, ok, refuse, apply_ite CmdResult.state, apply_ite Prod.fst, apply_ite Prod.snd])) only [↓Frame.putReg, ↓Frame.ite, ↓Frame.foldl, ↓Frame.foldlFst, Frame.refl, ite_self, ok, refuse, apply_ite CmdResult.state, apply_ite Prod.fst, apply_ite Prod.snd])) only [↓Frame.foldl, Frame.refl] | split)

theorem Frame.slvLoad {m : Nat} {s u : State} (k : 0x10000010 ||| m = m) : Frame m s (State.slvLoad u) ↔ Frame m s u := by
  refine Frame.thru (m := 0x10000010) ?_ k
  unfold State.slvLoad
  repeat' (first | simp (disch := first | decide | rfl | (intros; simp (disch := first | decide | rfl | (intros; simp (disch := decide) only [↓Frame.putFld, ↓Frame.putReg, ↓Frame.setSlv, ↓Frame.startLinks, ↓Frame.ite, ↓Frame.foldl, ↓Frame.foldlFst, Frame.refl, ite_self, ok, refuse, apply_ite CmdResult.state, apply_ite Prod.fst, apply_ite Prod.snd])) only [↓Frame.putFld, ↓Frame.putReg, ↓Frame.setSlv, ↓Frame.startLinks, ↓Frame.ite, ↓Frame.foldl, ↓Frame.foldlFst, Frame.refl, ite_self, ok, refuse, apply_ite CmdResult.state, apply_ite Prod.fst, apply_ite Prod.snd])) only [↓Frame.putFld, ↓Frame.putReg, ↓Frame.setSlv, ↓Frame.startLinks, ↓Frame.foldl, Frame.refl] | split)

theorem Frame.shuttleLoad {m : Nat} {s u : State} {x1 : ℕ} (k : 0x40000010 ||| m = m) : Frame m s (State.shuttleLoad u x1) ↔ Frame m s u := by
  refine Frame.thru (m := 0x40000010) ?_ k
  unfold State.shuttleLoad
  repeat' (first | simp (disch := first | decide | rfl | (intros; simp (disch := first | decide | rfl | (intros; simp (disch := decide) only [↓Frame.putFld, ↓Frame.setShuttle, ↓Frame.ite, ↓Frame.foldl, ↓Frame.foldlFst, Frame.refl, ite_self, ok, refuse, apply_ite CmdResult.state, apply_ite Prod.fst, apply_ite Prod.snd])) only [↓Frame.putFld, ↓Frame.setShuttle, ↓Frame.ite, ↓Frame.foldl, ↓Frame.foldlFst, Frame.refl, ite_self, ok, refuse, apply_ite CmdResult.state, apply_ite Prod.fst, apply_ite Prod.snd])) only [↓Frame.setShuttle, ↓Frame.foldl, Frame.refl] | split)

theorem Frame.energyLoad {m : Nat} {s u : State} (k : 0x610040ad0 ||| m = m) : Frame m s (State.energyLoad u) ↔ Frame m s u := by
  refine Frame.thru (m := 0x610040ad0) ?_ k
  unfold State.energyLoad
  repeat' (first | simp (disch := first | decide | rfl | (intros; simp (disch := first | decide | rfl | (intros; simp (disch := decide) only [↓Frame.closeFrozen, ↓Frame.event, ↓Frame.putReg, ↓Frame.setEnergy, ↓Frame.setSaves, ↓Frame.showEnergy, ↓Frame.ite, ↓Frame.foldl, ↓Frame.foldlFst, Frame.refl, ite_self, ok, refuse, apply_ite CmdResult.state, apply_ite Prod.fst, apply_ite Prod.snd])) only [↓Frame.closeFrozen, ↓Frame.event, ↓Frame.putReg, ↓Frame.setEnergy, ↓Frame.setSaves, ↓Frame.showEnergy, ↓Frame.ite, ↓Frame.foldl, ↓Frame.foldlFst, Frame.refl, ite_self, ok, refuse, apply_ite CmdResult.state, apply_ite Prod.fst, apply_ite Prod.snd])) only [↓Frame.closeFrozen, ↓Frame.event, ↓Frame.setEnergy, ↓Frame.setSaves, ↓Frame.showEnergy, ↓Frame.ite, ↓Frame.foldl, Frame.refl] | split)

theorem Frame.takeDraft {m : Nat} {s u : State} {x1 : LoadReq} {x2 : Obj} (k : 0x7fffdffd8 ||| m = m) : Frame m s (State.takeDraft u x1 x2) ↔ Frame m s u := by
  refine Frame.thru (m := 0x7fffdffd8) ?_ k
  unfold State.takeDraft
  repeat' (first | simp (disch := first | decide | rfl | (intros; simp (disch := first | decide | rfl | (intros; simp (disch := decide) only [↓Frame.applyDevice, ↓Frame.assignWeft, ↓Frame.captLoad, ↓Frame.clearBlocks, ↓Frame.clearFault, ↓Frame.condition, ↓Frame.energyLoad, ↓Frame.enterMode, ↓Frame.enterWaiting, ↓Frame.event, ↓Frame.loadPorts, ↓Frame.loadQueues, ↓Frame.loadTime, ↓Frame.oscReset, ↓Frame.powerUsed, ↓Frame.putFld, ↓Frame.putReg, ↓Frame.raise, ↓Frame.resetFields, ↓Frame.setDraft, ↓Frame.showDraft, ↓Frame.showFenced, ↓Frame.showLattices, ↓Frame.showSets, ↓Frame.showSwitch, ↓Frame.shuttleLoad, ↓Frame.slvLoad, ↓Frame.updateHolding, ↓Frame.ite, ↓Frame.foldl, ↓Frame.foldlFst, Frame.refl, ite_self, ok, refuse, apply_ite CmdResult.state, apply_ite Prod.fst, apply_ite Prod.snd])) only [↓Frame.applyDevice, ↓Frame.assignWeft, ↓Frame.captLoad, ↓Frame.clearBlocks, ↓Frame.clearFault, ↓Frame.condition, ↓Frame.energyLoad, ↓Frame.enterMode, ↓Frame.enterWaiting, ↓Frame.event, ↓Frame.loadPorts, ↓Frame.loadQueues, ↓Frame.loadTime, ↓Frame.oscReset, ↓Frame.powerUsed, ↓Frame.putFld, ↓Frame.putReg, ↓Frame.raise, ↓Frame.resetFields, ↓Frame.setDraft, ↓Frame.showDraft, ↓Frame.showFenced, ↓Frame.showLattices, ↓Frame.showSets, ↓Frame.showSwitch, ↓Frame.shuttleLoad, ↓Frame.slvLoad, ↓Frame.updateHolding, ↓Frame.ite, ↓Frame.foldl, ↓Frame.foldlFst, Frame.refl, ite_self, ok, refuse, apply_ite CmdResult.state, apply_ite Prod.fst, apply_ite Prod.snd])) only [↓Frame.assignWeft, ↓Frame.captLoad, ↓Frame.clearBlocks, ↓Frame.clearFault, ↓Frame.condition, ↓Frame.energyLoad, ↓Frame.enterMode, ↓Frame.event, ↓Frame.loadPorts, ↓Frame.loadQueues, ↓Frame.loadTime, ↓Frame.oscReset, ↓Frame.powerUsed, ↓Frame.putFld, ↓Frame.putReg, ↓Frame.raise, ↓Frame.resetFields, ↓Frame.setDraft, ↓Frame.showDraft, ↓Frame.showFenced, ↓Frame.showLattices, ↓Frame.showSets, ↓Frame.showSwitch, ↓Frame.shuttleLoad, ↓Frame.slvLoad, ↓Frame.updateHolding, ↓Frame.ite, ↓Frame.foldl, Frame.refl, ite_self] | split)

theorem Frame.takeCard {m : Nat} {s u : State} {x1 : ℕ} {x2 : List Byte} (k : 0x10000dd0 ||| m = m) : Frame m s (State.takeCard u x1 x2) ↔ Frame m s u := by
  refine Frame.thru (m := 0x10000dd0) ?_ k
  unfold State.takeCard
  repeat' (first | simp (disch := decide) only [↓Frame.event, ↓Frame.putShadow, ↓Frame.refuseObject, ↓Frame.refusedRequest, ↓Frame.setDraft, ↓Frame.showCards, ↓Frame.ite, Frame.refl, ite_self] | split)

theorem State.takeCards_frame (u : State) (x1 : ℕ) (x2 : List Byte) : Frame 0x10000dd0 u (State.takeCards x1 u x2) := by
  induction x1 generalizing u x2 with
  | zero => exact Frame.refl _ _
  | succ n ih =>
    have ih' : ∀ s u (x2 : List Byte), Frame 0x10000dd0 s (State.takeCards n u x2) ↔ Frame 0x10000dd0 s u := fun s u x2 => (ih u x2).thru (Nat.or_self _)
    unfold State.takeCards
    repeat' (first | simp (disch := first | decide | rfl | (intros; (repeat' (first | simp (disch := first | decide | rfl | (intros; (repeat' (first | simp (disch := decide) only [ih', ↓Frame.takeCard, ↓Frame.ite, ↓Frame.foldl, ↓Frame.foldlFst, Frame.refl, ite_self, ok, refuse, apply_ite CmdResult.state, apply_ite Prod.fst, apply_ite Prod.snd] | split)); done)) only [ih', ↓Frame.takeCard, ↓Frame.ite, ↓Frame.foldl, ↓Frame.foldlFst, Frame.refl, ite_self, ok, refuse, apply_ite CmdResult.state, apply_ite Prod.fst, apply_ite Prod.snd] | split)); done)) only [ih', ↓Frame.takeCard, ↓Frame.ite, Frame.refl, ite_self] | split)
theorem Frame.takeCards {m : Nat} {s u : State} {x1 : ℕ} {x2 : List Byte} (k : 0x10000dd0 ||| m = m) : Frame m s (State.takeCards x1 u x2) ↔ Frame m s u :=
  (State.takeCards_frame u x1 x2).thru k

theorem Frame.takePatch {m : Nat} {s u : State} {x1 x2 : ℕ} {x3 : List Byte} (k : 0x180009d0 ||| m = m) : Frame m s (State.takePatch u x1 x2 x3) ↔ Frame m s u := by
  refine Frame.thru (m := 0x180009d0) ?_ k
  unfold State.takePatch
  repeat' (first | simp (disch := decide) only [↓Frame.event, ↓Frame.putFld, ↓Frame.refuseObject, ↓Frame.setDraft, Frame.refl] | split)

theorem Frame.endLoad {m : Nat} {s u : State} {x1 : LoadReq} {x2 : List Byte} {x3 : List ℕ} (k : 0x7ffffffd8 ||| m = m) : Frame m s (State.endLoad u x1 x2 x3) ↔ Frame m s u := by
  refine Frame.thru (m := 0x7ffffffd8) ?_ k
  unfold State.endLoad
  repeat' (first | simp (disch := decide) only [↓Frame.draftFails, ↓Frame.loadLost, ↓Frame.putShadow, ↓Frame.retries, ↓Frame.setDraft, ↓Frame.takeCard, ↓Frame.takeCards, ↓Frame.takeDraft, ↓Frame.takePatch, ↓Frame.wakeArchive, ↓Frame.ite, Frame.refl, ite_self] | split)

theorem Frame.endpointReset {m : Nat} {s u : State} {x1 : ℕ} {x2 : List Byte} {x3 : ℕ} (k : 0x2258017dd8 ||| m = m) : Frame m s (State.endpointReset u x1 x2 x3) ↔ Frame m s u := by
  refine Frame.thru (m := 0x2258017dd8) ?_ k
  unfold State.endpointReset
  simp (disch := decide) only [↓Frame.dropDma, ↓Frame.hostLinkDown, Frame.refl]

end Sys2Proof.Machine
end

