-- ==== Sys2Proof/Laws/Frame6.lean ====
section
/-!
SUPPORT. Sys2Proof/Laws/Frame6.lean: the parts of the state that each operation may write, part 6 of 7, in the order in which the
operations call each other. One lemma an operation: a frame goes through it.
-/

namespace Sys2Proof.Machine

theorem Frame.energyFreeze {m : Nat} {s u : State} (k : 0x2100008d0 ||| m = m) : Frame m s (State.energyFreeze u) ↔ Frame m s u := by
  refine Frame.thru (m := 0x2100008d0) ?_ k
  unfold State.energyFreeze
  simp (disch := decide) only [↓Frame.event, ↓Frame.putFld, ↓Frame.putPair, ↓Frame.raise, ↓Frame.setEnergy, Frame.refl]

theorem Frame.energyMirrorSend {m : Nat} {s u : State} (k : 0x10010810 ||| m = m) : Frame m s (State.energyMirrorSend u) ↔ Frame m s u := by
  refine Frame.thru (m := 0x10010810) ?_ k
  unfold State.energyMirrorSend
  repeat' (first | simp (disch := first | decide | rfl | (intros; simp (disch := first | decide | rfl | (intros; simp (disch := decide) only [↓Frame.mirrorSend, ↓Frame.setPair, ↓Frame.ite, ↓Frame.foldl, ↓Frame.foldlFst, Frame.refl, ite_self, ok, refuse, apply_ite CmdResult.state, apply_ite Prod.fst, apply_ite Prod.snd])) only [↓Frame.mirrorSend, ↓Frame.setPair, ↓Frame.ite, ↓Frame.foldl, ↓Frame.foldlFst, Frame.refl, ite_self, ok, refuse, apply_ite CmdResult.state, apply_ite Prod.fst, apply_ite Prod.snd])) only [↓Frame.setPair, ↓Frame.ite, ↓Frame.foldl, Frame.refl, ite_self] | split)

theorem Frame.storeSave {m : Nat} {s u : State} {x1 : ℕ} (k : 0x200 ||| m = m) : Frame m s (State.storeSave u x1) ↔ Frame m s u := by
  refine Frame.thru (m := 0x200) ?_ k
  unfold State.storeSave
  repeat' (first | simp (disch := first | decide | rfl | (intros; simp (disch := first | decide | rfl | (intros; simp (disch := decide) only [↓Frame.setArchive, ↓Frame.ite, ↓Frame.foldl, ↓Frame.foldlFst, Frame.refl, ite_self, ok, refuse, apply_ite CmdResult.state, apply_ite Prod.fst, apply_ite Prod.snd])) only [↓Frame.setArchive, ↓Frame.ite, ↓Frame.foldl, ↓Frame.foldlFst, Frame.refl, ite_self, ok, refuse, apply_ite CmdResult.state, apply_ite Prod.fst, apply_ite Prod.snd])) only [↓Frame.foldl, Frame.refl] | split)

theorem Frame.energySave {m : Nat} {s u : State} {x1 : ℕ} (k : 0x265807ffd8 ||| m = m) : Frame m s (State.energySave u x1) ↔ Frame m s u := by
  refine Frame.thru (m := 0x265807ffd8) ?_ k
  unfold State.energySave
  simp (disch := decide) only [↓Frame.archiveWrite, ↓Frame.count, ↓Frame.event, ↓Frame.putPair, ↓Frame.raise, ↓Frame.setEnergy, ↓Frame.setSaves, ↓Frame.showEnergy, ↓Frame.storeSave, ↓Frame.ite, Frame.refl, ite_self]

theorem Frame.energyThaw {m : Nat} {s u : State} (k : 0x210040ad0 ||| m = m) : Frame m s (State.energyThaw u) ↔ Frame m s u := by
  refine Frame.thru (m := 0x210040ad0) ?_ k
  unfold State.energyThaw
  repeat' (first | simp (disch := decide) only [↓Frame.closeFrozen, ↓Frame.putFld, ↓Frame.setEnergy, Frame.refl] | split)

theorem Frame.enterReset {m : Nat} {s u : State} (k : 0x4802 ||| m = m) : Frame m s (State.enterReset u) ↔ Frame m s u := by
  refine Frame.thru (m := 0x4802) ?_ k
  unfold State.enterReset
  repeat' (first | simp (disch := first | decide | rfl | (intros; simp (disch := first | decide | rfl | (intros; simp (disch := decide) only [↓Frame.emit, ↓Frame.setHeld, ↓Frame.setVote, ↓Frame.ite, ↓Frame.foldl, ↓Frame.foldlFst, Frame.refl, ite_self, ok, refuse, apply_ite CmdResult.state, apply_ite Prod.fst, apply_ite Prod.snd])) only [↓Frame.emit, ↓Frame.setHeld, ↓Frame.setVote, ↓Frame.ite, ↓Frame.foldl, ↓Frame.foldlFst, Frame.refl, ite_self, ok, refuse, apply_ite CmdResult.state, apply_ite Prod.fst, apply_ite Prod.snd])) only [↓Frame.setHeld, ↓Frame.setVote, ↓Frame.foldl, Frame.refl] | split)

theorem Frame.putWave {m : Nat} {s u : State} {x1 : ℕ} {x2 : WaveSt} (k : 0x2000000 ||| m = m) : Frame m s (State.putWave u x1 x2) ↔ Frame m s u := by
  refine Frame.thru (m := 0x2000000) ?_ k
  unfold State.putWave
  simp (disch := decide) only [↓Frame.setReed, Frame.refl]

theorem Frame.enterSample {m : Nat} {s u : State} {x1 : WaveSample} {x2 : ℕ} (k : 0x2000000 ||| m = m) : Frame m s (State.enterSample u x1 x2) ↔ Frame m s u := by
  refine Frame.thru (m := 0x2000000) ?_ k
  unfold State.enterSample
  simp (disch := decide) only [↓Frame.putWave, Frame.refl]

theorem Frame.enterSuspect {m : Nat} {s u : State} {x1 : ℕ} {x2 x3 : ℤ} (k : 0x2100079d0 ||| m = m) : Frame m s (State.enterSuspect u x1 x2 x3) ↔ Frame m s u := by
  refine Frame.thru (m := 0x2100079d0) ?_ k
  unfold State.enterSuspect
  simp (disch := decide) only [↓Frame.event, ↓Frame.putReg, ↓Frame.raise, ↓Frame.select, ↓Frame.setServo, ↓Frame.setTime, Frame.refl]

theorem Frame.enterTap {m : Nat} {s u : State} {x1 : ℕ} {x2 : ReedTap} (k : 0x160008d0 ||| m = m) : Frame m s (State.enterTap u x1 x2) ↔ Frame m s u := by
  refine Frame.thru (m := 0x160008d0) ?_ k
  unfold State.enterTap
  simp (disch := decide) only [↓Frame.count, ↓Frame.putThread, ↓Frame.raise, ↓Frame.runThread, ↓Frame.ite, Frame.refl, ite_self]

theorem Frame.envStep {m : Nat} {s u : State} {x1 : List Byte} {x2 x3 : ℕ} (k : 0x2000000 ||| m = m) : Frame m s (State.envStep u x1 x2 x3) ↔ Frame m s u := by
  refine Frame.thru (m := 0x2000000) ?_ k
  unfold State.envStep
  simp (disch := decide) only [↓Frame.putDet, Frame.refl]

theorem Frame.envTo {m : Nat} {s u : State} {x1 : List Byte} {x2 x3 : ℕ} (k : 0x2000000 ||| m = m) : Frame m s (State.envTo u x1 x2 x3) ↔ Frame m s u := by
  refine Frame.thru (m := 0x2000000) ?_ k
  unfold State.envTo
  repeat' (first | simp (disch := first | decide | rfl | (intros; simp (disch := first | decide | rfl | (intros; simp (disch := decide) only [↓Frame.envStep, ↓Frame.ite, ↓Frame.foldl, ↓Frame.foldlFst, Frame.refl, ite_self, ok, refuse, apply_ite CmdResult.state, apply_ite Prod.fst, apply_ite Prod.snd])) only [↓Frame.envStep, ↓Frame.ite, ↓Frame.foldl, ↓Frame.foldlFst, Frame.refl, ite_self, ok, refuse, apply_ite CmdResult.state, apply_ite Prod.fst, apply_ite Prod.snd])) only [↓Frame.foldl, Frame.refl] | split)

theorem Frame.epulsePhase {m : Nat} {s u : State} {x1 : ℕ} (k : 0x200000810 ||| m = m) : Frame m s (State.epulsePhase u x1) ↔ Frame m s u := by
  refine Frame.thru (m := 0x200000810) ?_ k
  unfold State.epulsePhase
  repeat' (first | simp (disch := decide) only [↓Frame.drive, ↓Frame.putPulse, ↓Frame.startPulse, ↓Frame.ite, Frame.refl, ite_self] | split)

theorem Frame.putGroup {m : Nat} {s u : State} {x1 : ℕ} {x2 : GroupSt} (k : 0x2000000 ||| m = m) : Frame m s (State.putGroup u x1 x2) ↔ Frame m s u := by
  refine Frame.thru (m := 0x2000000) ?_ k
  unfold State.putGroup
  simp (disch := decide) only [↓Frame.setReed, Frame.refl]

theorem Frame.groupFreq {m : Nat} {s u : State} {x1 x2 x3 x4 x5 : ℕ} {x6 : Bool} {x7 : List MemberPhasor} (k : 0x160018d0 ||| m = m) : Frame m s (State.groupFreq u x1 x2 x3 x4 x5 x6 x7) ↔ Frame m s u := by
  refine Frame.thru (m := 0x160018d0) ?_ k
  unfold State.groupFreq
  repeat' (first | simp (disch := decide) only [↓Frame.count, ↓Frame.draw, ↓Frame.event, ↓Frame.give, ↓Frame.putGroup, ↓Frame.raise, ↓Frame.ite, Frame.refl, ite_self] | split)

theorem Frame.estGive {m : Nat} {s u : State} {x1 : List Byte} {x2 x3 x4 : ℕ} {x5 : ℕ × ℕ × Option (ℚ × ℚ)} (k : 0x160018d0 ||| m = m) : Frame m s (State.estGive u x1 x2 x3 x4 x5) ↔ Frame m s u := by
  refine Frame.thru (m := 0x160018d0) ?_ k
  unfold State.estGive
  simp (disch := decide) only [↓Frame.give, ↓Frame.groupFreq, ↓Frame.putGroup, ↓Frame.putWave, ↓Frame.ite, Frame.refl, ite_self]

theorem Frame.estOutput {m : Nat} {s u : State} {x1 : List Byte} {x2 x3 x4 x5 : ℕ} (k : 0x160018d0 ||| m = m) : Frame m s (State.estOutput u x1 x2 x3 x4 x5) ↔ Frame m s u := by
  refine Frame.thru (m := 0x160018d0) ?_ k
  unfold State.estOutput
  simp (disch := decide) only [↓Frame.count, ↓Frame.estGive, ↓Frame.ite, Frame.refl, ite_self]

theorem State.estSlots_frame (u : State) (x1 x2 x3 x4 x5 : ℕ) (x6 : List ℕ) : Frame 0x160018d0 u (State.estSlots u x1 x2 x3 x4 x5 x6) := by
  induction x6 generalizing u with
  | nil => exact Frame.refl _ _
  | cons a l ih =>
    have ih' : ∀ s u , Frame 0x160018d0 s (u.estSlots x1 x2 x3 x4 x5 l) ↔ Frame 0x160018d0 s u := fun s u  => (ih u ).thru (Nat.or_self _)
    unfold State.estSlots
    repeat' (first | simp (disch := first | decide | rfl | (intros; (repeat' (first | simp (disch := first | decide | rfl | (intros; (repeat' (first | simp (disch := decide) only [ih', ↓Frame.estOutput, ↓Frame.putWave, ↓Frame.ite, ↓Frame.foldl, ↓Frame.foldlFst, Frame.refl, ite_self, ok, refuse, apply_ite CmdResult.state, apply_ite Prod.fst, apply_ite Prod.snd] | split)); done)) only [ih', ↓Frame.estOutput, ↓Frame.putWave, ↓Frame.ite, ↓Frame.foldl, ↓Frame.foldlFst, Frame.refl, ite_self, ok, refuse, apply_ite CmdResult.state, apply_ite Prod.fst, apply_ite Prod.snd] | split)); done)) only [ih', ↓Frame.estOutput, ↓Frame.putWave, ↓Frame.ite, Frame.refl, ite_self] | split)
theorem Frame.estSlots {m : Nat} {s u : State} {x1 x2 x3 x4 x5 : ℕ} {x6 : List ℕ} (k : 0x160018d0 ||| m = m) : Frame m s (State.estSlots u x1 x2 x3 x4 x5 x6) ↔ Frame m s u :=
  (State.estSlots_frame u x1 x2 x3 x4 x5 x6).thru k

theorem Frame.faultText {m : Nat} {s u : State} (k : 0x800 ||| m = m) : Frame m s (State.faultText u) ↔ Frame m s u := by
  refine Frame.thru (m := 0x800) ?_ k
  unfold State.faultText
  repeat' (first | simp (disch := first | decide | rfl | (intros; simp (disch := first | decide | rfl | (intros; simp (disch := decide) only [↓Frame.prompt, ↓Frame.say, ↓Frame.ite, ↓Frame.foldl, ↓Frame.foldlFst, Frame.refl, ite_self, ok, refuse, apply_ite CmdResult.state, apply_ite Prod.fst, apply_ite Prod.snd])) only [↓Frame.prompt, ↓Frame.say, ↓Frame.ite, ↓Frame.foldl, ↓Frame.foldlFst, Frame.refl, ite_self, ok, refuse, apply_ite CmdResult.state, apply_ite Prod.fst, apply_ite Prod.snd])) only [↓Frame.prompt, ↓Frame.foldl, Frame.refl] | split)

theorem Frame.flushDone {m : Nat} {s u : State} {x1 : ℕ} (k : 0x267807ffd8 ||| m = m) : Frame m s (State.flushDone u x1) ↔ Frame m s u := by
  refine Frame.thru (m := 0x267807ffd8) ?_ k
  unfold State.flushDone
  repeat' (first | simp (disch := decide) only [↓Frame.drive, ↓Frame.lasting, ↓Frame.putFld, ↓Frame.putReg, ↓Frame.raise, ↓Frame.setLedger, ↓Frame.setPower, ↓Frame.setSaves, ↓Frame.storeSave, ↓Frame.transient, ↓Frame.wakeArchive, ↓Frame.warmBegin, ↓Frame.writeStaging, ↓Frame.ite, Frame.refl, ite_self] | split)

theorem Frame.stepBy {m : Nat} {s u : State} {x1 : ℤ} (k : 0x180028d8 ||| m = m) : Frame m s (State.stepBy u x1) ↔ Frame m s u := by
  refine Frame.thru (m := 0x180028d8) ?_ k
  unfold State.stepBy
  simp (disch := decide) only [↓Frame.putReg, ↓Frame.setTime, ↓Frame.stepGrid, Frame.refl]

theorem Frame.holdTooLarge {m : Nat} {s u : State} {x1 : ℤ} (k : 0x2100079d0 ||| m = m) : Frame m s (State.holdTooLarge u x1) ↔ Frame m s u := by
  refine Frame.thru (m := 0x2100079d0) ?_ k
  unfold State.holdTooLarge
  simp (disch := decide) only [↓Frame.event, ↓Frame.setServo, ↓Frame.setTime, Frame.refl]

theorem Frame.learn {m : Nat} {s u : State} (k : 0x1010 ||| m = m) : Frame m s (State.learn u) ↔ Frame m s u := by
  refine Frame.thru (m := 0x1010) ?_ k
  unfold State.learn
  simp (disch := decide) only [↓Frame.draw, ↓Frame.putReg, Frame.refl]

theorem Frame.follow {m : Nat} {s u : State} {x1 : ℤ} (k : 0x2180079d8 ||| m = m) : Frame m s (State.follow u x1) ↔ Frame m s u := by
  refine Frame.thru (m := 0x2180079d8) ?_ k
  unfold State.follow
  simp (disch := decide) only [↓Frame.accept, ↓Frame.holdTooLarge, ↓Frame.learn, ↓Frame.setServo, ↓Frame.setTime, ↓Frame.stepBy, ↓Frame.ite, Frame.refl, ite_self]

theorem Frame.prpSee {m : Nat} {s u : State} {x1 x2 x3 : ℕ} (k : 0x100808d0 ||| m = m) : Frame m s (State.prpSee u x1 x2 x3).2 ↔ Frame m s u := by
  refine Frame.thru (m := 0x100808d0) ?_ k
  unfold State.prpSee
  repeat' (first | simp (disch := decide) only [↓Frame.count, ↓Frame.event, ↓Frame.raise, ↓Frame.setPort, ↓Frame.ite, Frame.refl, ite_self, apply_ite Prod.snd] | split)

theorem Frame.prpReceived {m : Nat} {s u : State} {x1 x2 : ℕ} {x3 : List Byte} (k : 0x101c08d0 ||| m = m) : Frame m s (State.prpReceived u x1 x2 x3) ↔ Frame m s u := by
  refine Frame.thru (m := 0x101c08d0) ?_ k
  unfold State.prpReceived
  repeat' (first | simp (disch := decide) only [↓Frame.count, ↓Frame.deliver, ↓Frame.prpSee, ↓Frame.ite, Frame.refl, ite_self, apply_ite Prod.fst, apply_ite Prod.snd] | split)

theorem Frame.frameGood {m : Nat} {s u : State} {x1 x2 : ℕ} {x3 : List Byte} (k : 0x101c08d0 ||| m = m) : Frame m s (State.frameGood u x1 x2 x3) ↔ Frame m s u := by
  refine Frame.thru (m := 0x101c08d0) ?_ k
  unfold State.frameGood
  simp (disch := decide) only [↓Frame.count, ↓Frame.deliver, ↓Frame.prpReceived, ↓Frame.putPair, ↓Frame.ite, Frame.refl, ite_self]

theorem Frame.frameReceived {m : Nat} {s u : State} {x1 : ℕ} {x2 : List Byte} {x3 : ℕ} {x4 : Bool} (k : 0x101c08d0 ||| m = m) : Frame m s (State.frameReceived u x1 x2 x3 x4) ↔ Frame m s u := by
  refine Frame.thru (m := 0x101c08d0) ?_ k
  unfold State.frameReceived
  simp (disch := decide) only [↓Frame.burst, ↓Frame.count, ↓Frame.endBurst, ↓Frame.frameGood, ↓Frame.raise, ↓Frame.ite, Frame.refl, ite_self]

theorem Frame.frameSeen {m : Nat} {s u : State} {x1 : ℕ} {x2 : List ℕ} (k : 0x200000 ||| m = m) : Frame m s (State.frameSeen u x1 x2) ↔ Frame m s u := by
  refine Frame.thru (m := 0x200000) ?_ k
  unfold State.frameSeen
  simp (disch := decide) only [↓Frame.putStream, ↓Frame.ite, Frame.refl, ite_self]

theorem Frame.freeHere {m : Nat} {s u : State} {x1 : ℕ} (k : 0x10000010 ||| m = m) : Frame m s (State.freeHere u x1) ↔ Frame m s u := by
  refine Frame.thru (m := 0x10000010) ?_ k
  unfold State.freeHere
  simp (disch := decide) only [↓Frame.freeCell, Frame.refl]

theorem Frame.giveCmd {m : Nat} {s u : State} (k : 0x100008d0 ||| m = m) : Frame m s (State.giveCmd u) ↔ Frame m s u := by
  refine Frame.thru (m := 0x100008d0) ?_ k
  unfold State.giveCmd
  simp (disch := decide) only [↓Frame.changeOwner, ↓Frame.monOk, ↓Frame.monRefuse, ↓Frame.ite, Frame.refl, ite_self]

theorem Frame.goWrite {m : Nat} {s u : State} (b op : Nat) (path : Path) (body : State → CmdResult) (x : CmdInput) (h : ∀ w, Frame m w (body w).state)
    (k : 0x100208d0 ||| m = m) : Frame m s (u.goWrite b op path body x) ↔ Frame m s u := by
  unfold State.goWrite
  refine Frame.access _ _ _ _ _ (fun w => ?_) k
  refine (Frame.ofIssue _ _ _ _ h ?_).mpr (Frame.refl _ _)
  rw [← k, ← Nat.or_assoc]; congr 1

theorem Frame.gooseExpired {m : Nat} {s u : State} {x1 : ℕ} (k : 0x106008d0 ||| m = m) : Frame m s (State.gooseExpired u x1) ↔ Frame m s u := by
  refine Frame.thru (m := 0x106008d0) ?_ k
  unfold State.gooseExpired
  repeat' (first | simp (disch := decide) only [↓Frame.count, ↓Frame.event, ↓Frame.raise, ↓Frame.setHeddle, ↓Frame.setReedQ, ↓Frame.ite, Frame.refl, ite_self] | split)

theorem Frame.gooseState {m : Nat} {s u : State} {x1 : List Byte} {x2 : List (ℕ × List Byte)} {x3 : ℕ} {x4 : Bool} (k : 0x1400000 ||| m = m) : Frame m s (State.gooseState u x1 x2 x3 x4) ↔ Frame m s u := by
  refine Frame.thru (m := 0x1400000) ?_ k
  unfold State.gooseState
  repeat' (first | simp (disch := first | decide | rfl | (intros; (repeat' (first | simp (disch := first | decide | rfl | (intros; (repeat' (first | simp (disch := decide) only [↓Frame.pushInput, ↓Frame.setReedQ, ↓Frame.ite, ↓Frame.foldl, ↓Frame.foldlFst, Frame.refl, ite_self, ok, refuse, apply_ite CmdResult.state, apply_ite Prod.fst, apply_ite Prod.snd] | split)); done)) only [↓Frame.pushInput, ↓Frame.setReedQ, ↓Frame.ite, ↓Frame.foldl, ↓Frame.foldlFst, Frame.refl, ite_self, ok, refuse, apply_ite CmdResult.state, apply_ite Prod.fst, apply_ite Prod.snd] | split)); done)) only [↓Frame.setReedQ, ↓Frame.ite, ↓Frame.foldl, Frame.refl, ite_self] | split)

theorem Frame.gooseMessage {m : Nat} {s u : State} (k : 0x117008d0 ||| m = m) : Frame m s (State.gooseMessage u) ↔ Frame m s u := by
  refine Frame.thru (m := 0x117008d0) ?_ k
  unfold State.gooseMessage
  repeat' (first | simp (disch := decide) only [↓Frame.count, ↓Frame.event, ↓Frame.gooseState, ↓Frame.setHedQ, ↓Frame.setHeddle, ↓Frame.ite, Frame.refl, ite_self] | split)

theorem Frame.gooseRepeat {m : Nat} {s u : State} {x1 : ℕ} (k : 0x85810 ||| m = m) : Frame m s (State.gooseRepeat u x1) ↔ Frame m s u := by
  refine Frame.thru (m := 0x85810) ?_ k
  unfold State.gooseRepeat
  repeat' (first | simp (disch := decide) only [↓Frame.putGoose, ↓Frame.sendGoose, ↓Frame.ite, Frame.refl, ite_self] | split)

theorem Frame.h2dFetch {m : Nat} {s u : State} {x1 x2 : ℕ} {x3 : List Byte} {x4 : Bool} (k : 0x100408d0 ||| m = m) : Frame m s (State.h2dFetch u x1 x2 x3 x4) ↔ Frame m s u := by
  refine Frame.thru (m := 0x100408d0) ?_ k
  unfold State.h2dFetch
  simp (disch := decide) only [↓Frame.count, ↓Frame.countPacket, ↓Frame.dmaError, ↓Frame.emit, ↓Frame.putLevel, ↓Frame.putReg, ↓Frame.ite, Frame.refl, ite_self]

theorem Frame.mirrorUp {m : Nat} {s u : State} (k : 0x100008d0 ||| m = m) : Frame m s (State.mirrorUp u) ↔ Frame m s u := by
  refine Frame.thru (m := 0x100008d0) ?_ k
  unfold State.mirrorUp
  simp (disch := decide) only [↓Frame.event, ↓Frame.putFld, ↓Frame.raise, ↓Frame.sendFull, ↓Frame.ite, Frame.refl, ite_self]

theorem Frame.modidClash {m : Nat} {s u : State} {x1 : ℕ} (k : 0x2500149d0 ||| m = m) : Frame m s (State.modidClash u x1) ↔ Frame m s u := by
  refine Frame.thru (m := 0x2500149d0) ?_ k
  unfold State.modidClash
  simp (disch := decide) only [↓Frame.event, ↓Frame.putFld, ↓Frame.raise, ↓Frame.withdraw, ↓Frame.ite, Frame.refl, ite_self]

theorem Frame.hello {m : Nat} {s u : State} {x1 : List Byte} (k : 0x2500149d0 ||| m = m) : Frame m s (State.hello u x1) ↔ Frame m s u := by
  refine Frame.thru (m := 0x2500149d0) ?_ k
  unfold State.hello
  simp (disch := decide) only [↓Frame.draftCompare, ↓Frame.mirrorUp, ↓Frame.modidClash, ↓Frame.putFld, ↓Frame.setPair, Frame.refl]

theorem Frame.histSample {m : Nat} {s u : State} {x1 : ℕ} {x2 : ℤ} (k : 0x400 ||| m = m) : Frame m s (State.histSample u x1 x2) ↔ Frame m s u := by
  refine Frame.thru (m := 0x400) ?_ k
  unfold State.histSample
  repeat' (first | simp (disch := first | decide | rfl | (intros; simp (disch := first | decide | rfl | (intros; simp (disch := decide) only [↓Frame.stkStore, ↓Frame.ite, ↓Frame.foldl, ↓Frame.foldlFst, Frame.refl, ite_self, ok, refuse, apply_ite CmdResult.state, apply_ite Prod.fst, apply_ite Prod.snd])) only [↓Frame.stkStore, ↓Frame.ite, ↓Frame.foldl, ↓Frame.foldlFst, Frame.refl, ite_self, ok, refuse, apply_ite CmdResult.state, apply_ite Prod.fst, apply_ite Prod.snd])) only [↓Frame.stkStore, ↓Frame.ite, ↓Frame.foldl, Frame.refl, ite_self] | split)

theorem Frame.holdExpired {m : Nat} {s u : State} (k : 0x21000c8d0 ||| m = m) : Frame m s (State.holdExpired u) ↔ Frame m s u := by
  refine Frame.thru (m := 0x21000c8d0) ?_ k
  unfold State.holdExpired
  repeat' (first | simp (disch := decide) only [↓Frame.event, ↓Frame.putFld, ↓Frame.raise, ↓Frame.setFault, ↓Frame.updatePins, ↓Frame.ite, Frame.refl, ite_self] | split)

theorem Frame.popPacket {m : Nat} {s u : State} {x1 : ℕ} (k : 0x40850 ||| m = m) : Frame m s (State.popPacket u x1) ↔ Frame m s u := by
  refine Frame.thru (m := 0x40850) ?_ k
  unfold State.popPacket
  simp (disch := decide) only [↓Frame.putLevel, Frame.refl]

theorem Frame.hostFrame {m : Nat} {s u : State} (k : 0xe0850 ||| m = m) : Frame m s (State.hostFrame u) ↔ Frame m s u := by
  refine Frame.thru (m := 0xe0850) ?_ k
  unfold State.hostFrame
  split
  · exact Frame.refl _ _
  · split
    · exact Frame.refl _ _
    · dsimp only
      repeat' (first | simp (disch := first | decide | rfl | (intros; (repeat' (first | simp (disch := first | decide | rfl | (intros; (repeat' (first | simp (disch := decide) only [↓Frame.count, ↓Frame.popPacket, ↓Frame.send, ↓Frame.setPort, ↓Frame.wakeDemand, ↓Frame.ite, ↓Frame.foldl, ↓Frame.foldlFst, Frame.refl, ite_self, ok, refuse, apply_ite CmdResult.state, apply_ite Prod.fst, apply_ite Prod.snd] | split)); done)) only [↓Frame.count, ↓Frame.popPacket, ↓Frame.send, ↓Frame.setPort, ↓Frame.wakeDemand, ↓Frame.ite, ↓Frame.foldl, ↓Frame.foldlFst, Frame.refl, ite_self, ok, refuse, apply_ite CmdResult.state, apply_ite Prod.fst, apply_ite Prod.snd] | split)); done)) only [↓Frame.count, ↓Frame.popPacket, ↓Frame.send, ↓Frame.wakeDemand, ↓Frame.ite, ↓Frame.foldl, Frame.refl, ite_self] | split)

theorem Frame.hostRead {m : Nat} {s u : State} {x1 : ℕ} {x2 : Bool} (k : 0x100208f0 ||| m = m) : Frame m s (State.hostRead u x1 x2) ↔ Frame m s u := by
  refine Frame.thru (m := 0x100208f0) ?_ k
  unfold State.hostRead
  repeat' (first | simp (disch := decide) only [↓Frame.absentAccess, ↓Frame.answerRead, ↓Frame.emit, ↓Frame.hostErr, ↓Frame.noStacksAccess, ↓Frame.stall, ↓Frame.ite, Frame.refl] | split)

theorem Frame.hourlyReplan {m : Nat} {s u : State} {x1 : ClockMeasure} (k : 0x18100008d0 ||| m = m) : Frame m s (State.hourlyReplan u x1) ↔ Frame m s u := by
  refine Frame.thru (m := 0x18100008d0) ?_ k
  unfold State.hourlyReplan
  simp (disch := decide) only [↓Frame.replanStart, ↓Frame.setClock, ↓Frame.ite, Frame.refl, ite_self]

theorem Frame.imageDone {m : Nat} {s u : State} {x1 : List Byte} {x2 : Bool} (k : 0x10000bd0 ||| m = m) : Frame m s (State.imageDone u x1 x2) ↔ Frame m s u := by
  refine Frame.thru (m := 0x10000bd0) ?_ k
  unfold State.imageDone
  repeat' (first | simp (disch := decide) only [↓Frame.event, ↓Frame.putImage, ↓Frame.raise, ↓Frame.setArchive, ↓Frame.setDraft, ↓Frame.ite, Frame.refl, ite_self] | split)

theorem Frame.injected {m : Nat} {s u : State} (k : 0x140850 ||| m = m) : Frame m s (State.injected u) ↔ Frame m s u := by
  refine Frame.thru (m := 0x140850) ?_ k
  unfold State.injected
  repeat' (first | simp (disch := decide) only [↓Frame.count, ↓Frame.popPacket, ↓Frame.setHedQ, ↓Frame.ite, Frame.refl, ite_self] | split)

theorem Frame.inputChange {m : Nat} {s u : State} (k : 0x310008d0 ||| m = m) : Frame m s (State.inputChange u) ↔ Frame m s u := by
  refine Frame.thru (m := 0x310008d0) ?_ k
  unfold State.inputChange
  repeat' (first | simp (disch := first | decide | rfl | (intros; (repeat' (first | simp (disch := first | decide | rfl | (intros; (repeat' (first | simp (disch := decide) only [↓Frame.putReg, ↓Frame.setInputQ, ↓Frame.triggerRegion, ↓Frame.ite, ↓Frame.foldl, ↓Frame.foldlFst, Frame.refl, ite_self, ok, refuse, apply_ite CmdResult.state, apply_ite Prod.fst, apply_ite Prod.snd] | split)); done)) only [↓Frame.putReg, ↓Frame.setInputQ, ↓Frame.triggerRegion, ↓Frame.ite, ↓Frame.foldl, ↓Frame.foldlFst, Frame.refl, ite_self, ok, refuse, apply_ite CmdResult.state, apply_ite Prod.fst, apply_ite Prod.snd] | split)); done)) only [↓Frame.putReg, ↓Frame.setInputQ, ↓Frame.ite, ↓Frame.foldl, Frame.refl, ite_self] | split)

theorem Frame.osIntent {m : Nat} {s u : State} {x1 : ℕ} {x2 : OsFrame} (k : 0x50000810 ||| m = m) : Frame m s (State.osIntent u x1 x2) ↔ Frame m s u := by
  refine Frame.thru (m := 0x50000810) ?_ k
  unfold State.osIntent
  simp (disch := decide) only [↓Frame.count, ↓Frame.mirrorSend, ↓Frame.putOs, ↓Frame.putPair, Frame.refl]

theorem Frame.intentSend {m : Nat} {s u : State} {x1 : ℕ} (k : 0x50000810 ||| m = m) : Frame m s (State.intentSend u x1) ↔ Frame m s u := by
  refine Frame.thru (m := 0x50000810) ?_ k
  unfold State.intentSend
  repeat' (first | simp (disch := decide) only [↓Frame.osIntent, ↓Frame.ite, Frame.refl, ite_self] | split)

theorem Frame.intlkPull {m : Nat} {s u : State} {x1 : Bool} (k : 0x2500149d0 ||| m = m) : Frame m s (State.intlkPull u x1) ↔ Frame m s u := by
  refine Frame.thru (m := 0x2500149d0) ?_ k
  unfold State.intlkPull
  repeat' (first | simp (disch := decide) only [↓Frame.drive, ↓Frame.putFld, ↓Frame.setPair, ↓Frame.updateHolding, ↓Frame.ite, Frame.refl, ite_self] | split)

theorem Frame.sample {m : Nat} {s u : State} {x1 : ℕ} {x2 : ℤ} {x3 : ℕ} (k : 0x2180079d8 ||| m = m) : Frame m s (State.sample u x1 x2 x3) ↔ Frame m s u := by
  refine Frame.thru (m := 0x2180079d8) ?_ k
  unfold State.sample
  simp (disch := decide) only [↓Frame.crossCheck, ↓Frame.follow, ↓Frame.putSrc, ↓Frame.qualify, ↓Frame.ite, Frame.refl, ite_self]

theorem Frame.leapFlags {m : Nat} {s u : State} {x1 : ℕ} {x2 x3 : Bool} (k : 0x100028d0 ||| m = m) : Frame m s (State.leapFlags u x1 x2 x3) ↔ Frame m s u := by
  refine Frame.thru (m := 0x100028d0) ?_ k
  unfold State.leapFlags
  simp (disch := decide) only [↓Frame.announceLeap, ↓Frame.putFld, ↓Frame.setTime, ↓Frame.ite, Frame.refl, ite_self]

theorem Frame.irigFrame {m : Nat} {s u : State} {x1 : ℕ} {x2 x3 : Bool} {x4 : Option ℕ} {x5 : ℕ} {x6 : ℤ} {x7 : ℕ} {x8 x9 : Bool} (k : 0x2180079d8 ||| m = m) : Frame m s (State.irigFrame u x1 x2 x3 x4 x5 x6 x7 x8 x9) ↔ Frame m s u := by
  refine Frame.thru (m := 0x2180079d8) ?_ k
  unfold State.irigFrame
  simp (disch := decide) only [↓Frame.disqualify, ↓Frame.leapFlags, ↓Frame.putSrc, ↓Frame.sample, ↓Frame.ite, Frame.refl, ite_self]

theorem Frame.showBoundary {m : Nat} {s u : State} (k : 0x800 ||| m = m) : Frame m s (State.showBoundary u) ↔ Frame m s u := by
  refine Frame.thru (m := 0x800) ?_ k
  unfold State.showBoundary
  repeat' (first | simp (disch := first | decide | rfl | (intros; simp (disch := first | decide | rfl | (intros; simp (disch := decide) only [↓Frame.emit, ↓Frame.ite, ↓Frame.foldl, ↓Frame.foldlFst, Frame.refl, ite_self, ok, refuse, apply_ite CmdResult.state, apply_ite Prod.fst, apply_ite Prod.snd])) only [↓Frame.emit, ↓Frame.ite, ↓Frame.foldl, ↓Frame.foldlFst, Frame.refl, ite_self, ok, refuse, apply_ite CmdResult.state, apply_ite Prod.fst, apply_ite Prod.snd])) only [↓Frame.foldl, Frame.refl] | split)

theorem Frame.jtagLoad {m : Nat} {s u : State} {x1 : ℕ} (k : 0x2200004810 ||| m = m) : Frame m s (State.jtagLoad u x1) ↔ Frame m s u := by
  refine Frame.thru (m := 0x2200004810) ?_ k
  unfold State.jtagLoad
  repeat' (first | simp (disch := first | decide | rfl | (intros; simp (disch := first | decide | rfl | (intros; simp (disch := decide) only [↓Frame.emit, ↓Frame.setHost, ↓Frame.showBoundary, ↓Frame.updatePins, ↓Frame.ite, ↓Frame.foldl, ↓Frame.foldlFst, Frame.refl, ite_self, ok, refuse, apply_ite CmdResult.state, apply_ite Prod.fst, apply_ite Prod.snd])) only [↓Frame.emit, ↓Frame.setHost, ↓Frame.showBoundary, ↓Frame.updatePins, ↓Frame.ite, ↓Frame.foldl, ↓Frame.foldlFst, Frame.refl, ite_self, ok, refuse, apply_ite CmdResult.state, apply_ite Prod.fst, apply_ite Prod.snd])) only [↓Frame.setHost, ↓Frame.showBoundary, ↓Frame.updatePins, ↓Frame.ite, ↓Frame.foldl, Frame.refl, ite_self] | split)

theorem Frame.lateCopy {m : Nat} {s u : State} {x1 x2 x3 x4 x5 : ℕ} {x6 : Bool} {x7 : ℕ} (k : 0x100408d0 ||| m = m) : Frame m s (State.lateCopy u x1 x2 x3 x4 x5 x6 x7) ↔ Frame m s u := by
  refine Frame.thru (m := 0x100408d0) ?_ k
  unfold State.lateCopy
  simp (disch := decide) only [↓Frame.burst, ↓Frame.commit, ↓Frame.count, ↓Frame.endBurst, ↓Frame.raise, ↓Frame.ite, Frame.refl, ite_self]

theorem Frame.lateBeyond {m : Nat} {s u : State} {x1 x2 x3 x4 x5 : ℕ} {x6 : Option ℕ} (k : 0x100418d0 ||| m = m) : Frame m s (State.lateBeyond u x1 x2 x3 x4 x5 x6) ↔ Frame m s u := by
  refine Frame.thru (m := 0x100418d0) ?_ k
  unfold State.lateBeyond
  repeat' (first | simp (disch := decide) only [↓Frame.count, ↓Frame.draw, ↓Frame.lateCopy, Frame.refl] | split)

theorem Frame.osSkip {m : Nat} {s u : State} {x1 x2 : ℕ} (k : 0x500008d0 ||| m = m) : Frame m s (State.osSkip u x1 x2) ↔ Frame m s u := by
  refine Frame.thru (m := 0x500008d0) ?_ k
  unfold State.osSkip
  simp (disch := decide) only [↓Frame.count, ↓Frame.event, ↓Frame.osPass, ↓Frame.raise, Frame.refl]

theorem Frame.osSend {m : Nat} {s u : State} {x1 x2 : List Byte} (k : 0x81810 ||| m = m) : Frame m s (State.osSend u x1 x2) ↔ Frame m s u := by
  refine Frame.thru (m := 0x81810) ?_ k
  unfold State.osSend
  repeat' (first | simp (disch := first | decide | rfl | (intros; simp (disch := first | decide | rfl | (intros; simp (disch := decide) only [↓Frame.draw, ↓Frame.sendUdp, ↓Frame.ite, ↓Frame.foldl, ↓Frame.foldlFst, Frame.refl, ite_self, ok, refuse, apply_ite CmdResult.state, apply_ite Prod.fst, apply_ite Prod.snd])) only [↓Frame.draw, ↓Frame.sendUdp, ↓Frame.ite, ↓Frame.foldl, ↓Frame.foldlFst, Frame.refl, ite_self, ok, refuse, apply_ite CmdResult.state, apply_ite Prod.fst, apply_ite Prod.snd])) only [↓Frame.draw, ↓Frame.foldl, Frame.refl] | split)

theorem Frame.osSlip {m : Nat} {s u : State} {x1 : ℕ} {x2 x3 : List Byte} (k : 0x80010 ||| m = m) : Frame m s (State.osSlip u x1 x2 x3) ↔ Frame m s u := by
  refine Frame.thru (m := 0x80010) ?_ k
  unfold State.osSlip
  repeat' (first | simp (disch := first | decide | rfl | (intros; simp (disch := first | decide | rfl | (intros; simp (disch := decide) only [↓Frame.putReg, ↓Frame.setPort, ↓Frame.ite, ↓Frame.foldl, ↓Frame.foldlFst, Frame.refl, ite_self, ok, refuse, apply_ite CmdResult.state, apply_ite Prod.fst, apply_ite Prod.snd])) only [↓Frame.putReg, ↓Frame.setPort, ↓Frame.ite, ↓Frame.foldl, ↓Frame.foldlFst, Frame.refl, ite_self, ok, refuse, apply_ite CmdResult.state, apply_ite Prod.fst, apply_ite Prod.snd])) only [↓Frame.foldl, Frame.refl] | split)

theorem Frame.osConfig {m : Nat} {s u : State} {x1 x2 : ℕ} {x3 : List Byte} (k : 0x40081810 ||| m = m) : Frame m s (State.osConfig u x1 x2 x3) ↔ Frame m s u := by
  refine Frame.thru (m := 0x40081810) ?_ k
  unfold State.osConfig
  simp (disch := decide) only [↓Frame.osSend, ↓Frame.osSlip, ↓Frame.putOs, ↓Frame.ite, Frame.refl, ite_self]

theorem Frame.osLaunch {m : Nat} {s u : State} {x1 : ℕ} {x2 : List Byte} {x3 : OsFrame} {x4 : Bool} (k : 0x500c18d0 ||| m = m) : Frame m s (State.osLaunch u x1 x2 x3 x4) ↔ Frame m s u := by
  refine Frame.thru (m := 0x500c18d0) ?_ k
  unfold State.osLaunch
  simp (disch := decide) only [↓Frame.count, ↓Frame.hostCopy, ↓Frame.osConfig, ↓Frame.osSend, ↓Frame.osSlip, ↓Frame.putOs, ↓Frame.putPair, ↓Frame.raise, ↓Frame.ite, Frame.refl, ite_self]

theorem Frame.lateLaunch {m : Nat} {s u : State} {x1 : ℕ} (k : 0x500c18d0 ||| m = m) : Frame m s (State.lateLaunch u x1) ↔ Frame m s u := by
  refine Frame.thru (m := 0x500c18d0) ?_ k
  unfold State.lateLaunch
  repeat' (first | simp (disch := decide) only [↓Frame.osIntent, ↓Frame.osLaunch, ↓Frame.osSkip, ↓Frame.ite, Frame.refl, ite_self] | split)

theorem Frame.launch {m : Nat} {s u : State} {x1 : ℕ} (k : 0x500c18d0 ||| m = m) : Frame m s (State.launch u x1) ↔ Frame m s u := by
  refine Frame.thru (m := 0x500c18d0) ?_ k
  unfold State.launch
  repeat' (first | simp (disch := decide) only [↓Frame.osLaunch, ↓Frame.osPass, ↓Frame.osSkip, ↓Frame.ite, Frame.refl, ite_self] | split)

theorem Frame.leapApplied {m : Nat} {s u : State} (k : 0x100028d0 ||| m = m) : Frame m s (State.leapApplied u) ↔ Frame m s u := by
  refine Frame.thru (m := 0x100028d0) ?_ k
  unfold State.leapApplied
  repeat' (first | simp (disch := decide) only [↓Frame.event, ↓Frame.putFld, ↓Frame.raise, ↓Frame.setTime, ↓Frame.ite, Frame.refl, ite_self] | split)

theorem Frame.learnSet {m : Nat} {s u : State} {x1 : ℕ} {x2 : List Byte} (k : 0x180008d0 ||| m = m) : Frame m s (State.learnSet u x1 x2) ↔ Frame m s u := by
  refine Frame.thru (m := 0x180008d0) ?_ k
  unfold State.learnSet
  repeat' (first | simp (disch := decide) only [↓Frame.event, ↓Frame.putReg, ↓Frame.raise, ↓Frame.setLoom, ↓Frame.ite, Frame.refl, ite_self] | split)

theorem Frame.learnedRefresh {m : Nat} {s u : State} (k : 0x180008d0 ||| m = m) : Frame m s (State.learnedRefresh u) ↔ Frame m s u := by
  refine Frame.thru (m := 0x180008d0) ?_ k
  unfold State.learnedRefresh
  repeat' (first | simp (disch := first | decide | rfl | (intros; simp (disch := first | decide | rfl | (intros; simp (disch := decide) only [↓Frame.learnSet, ↓Frame.setLoom, ↓Frame.ite, ↓Frame.foldl, ↓Frame.foldlFst, Frame.refl, ite_self, ok, refuse, apply_ite CmdResult.state, apply_ite Prod.fst, apply_ite Prod.snd])) only [↓Frame.learnSet, ↓Frame.setLoom, ↓Frame.ite, ↓Frame.foldl, ↓Frame.foldlFst, Frame.refl, ite_self, ok, refuse, apply_ite CmdResult.state, apply_ite Prod.fst, apply_ite Prod.snd])) only [↓Frame.setLoom, ↓Frame.ite, ↓Frame.foldl, Frame.refl, ite_self] | split)

theorem Frame.ledgerStart {m : Nat} {s u : State} {x1 : ℕ} (k : 0x100008d0 ||| m = m) : Frame m s (State.ledgerStart u x1) ↔ Frame m s u := by
  refine Frame.thru (m := 0x100008d0) ?_ k
  unfold State.ledgerStart
  simp (disch := decide) only [↓Frame.event, ↓Frame.raise, ↓Frame.setLedger, ↓Frame.ite, Frame.refl, ite_self]

theorem Frame.ledgerText {m : Nat} {s u : State} {x1 x2 : Option ℕ} (k : 0x258037dd8 ||| m = m) : Frame m s (State.ledgerText u x1 x2) ↔ Frame m s u := by
  refine Frame.thru (m := 0x258037dd8) ?_ k
  unfold State.ledgerText
  repeat' (first | simp (disch := first | decide | rfl | (intros; (repeat' (first | simp (disch := first | decide | rfl | (intros; (repeat' (first | simp (disch := decide) only [↓Frame.monErr, ↓Frame.prompt, ↓Frame.say, ↓Frame.wakeArchive, ↓Frame.ite, ↓Frame.foldl, ↓Frame.foldlFst, Frame.refl, ite_self, ok, refuse, apply_ite CmdResult.state, apply_ite Prod.fst, apply_ite Prod.snd] | split)); done)) only [↓Frame.monErr, ↓Frame.prompt, ↓Frame.say, ↓Frame.wakeArchive, ↓Frame.ite, ↓Frame.foldl, ↓Frame.foldlFst, Frame.refl, ite_self, ok, refuse, apply_ite CmdResult.state, apply_ite Prod.fst, apply_ite Prod.snd] | split)); done)) only [↓Frame.monErr, ↓Frame.prompt, ↓Frame.wakeArchive, ↓Frame.ite, ↓Frame.foldl, Frame.refl, ite_self] | split)

theorem Frame.lineIn {m : Nat} {s u : State} (k : 0x20100008d0 ||| m = m) : Frame m s (State.lineIn u) ↔ Frame m s u := by
  refine Frame.thru (m := 0x20100008d0) ?_ k
  unfold State.lineIn
  simp (disch := decide) only [↓Frame.count, ↓Frame.event, ↓Frame.putFld, ↓Frame.raise, ↓Frame.setHost, ↓Frame.ite, Frame.refl, ite_self]

theorem State.monLine_cases (u : State)  (f : State → State) :
    (∃ w, Frame 0x20100008d0 u w ∧ Frame 0x20100008d0 (f w) (u.monLine f)) ∨ Frame 0x20100008d0 u (u.monLine f) := by
  generalize e : u.monLine f = r
  unfold State.monLine at e
  repeat' (first | split at e | (dsimp only at e; split at e))
  all_goals (subst e; first | (refine Or.inl ⟨_, ?_, Frame.refl _ (f _)⟩; simp (disch := first | decide | rfl | (intros; (repeat' (first | simp (disch := first | decide | rfl | (intros; (repeat' (first | simp (disch := decide) only [↓Frame.lineIn, ↓Frame.monErr, ↓Frame.ite, ↓Frame.foldl, ↓Frame.foldlFst, Frame.refl, ite_self, ok, refuse, apply_ite CmdResult.state, apply_ite Prod.fst, apply_ite Prod.snd] | split)); done)) only [↓Frame.lineIn, ↓Frame.monErr, ↓Frame.ite, ↓Frame.foldl, ↓Frame.foldlFst, Frame.refl, ite_self, ok, refuse, apply_ite CmdResult.state, apply_ite Prod.fst, apply_ite Prod.snd] | split)); done)) only [↓Frame.lineIn, Frame.refl]; done) | (refine Or.inr ?_; simp (disch := first | decide | rfl | (intros; (repeat' (first | simp (disch := first | decide | rfl | (intros; (repeat' (first | simp (disch := decide) only [↓Frame.lineIn, ↓Frame.monErr, ↓Frame.ite, ↓Frame.foldl, ↓Frame.foldlFst, Frame.refl, ite_self, ok, refuse, apply_ite CmdResult.state, apply_ite Prod.fst, apply_ite Prod.snd] | split)); done)) only [↓Frame.lineIn, ↓Frame.monErr, ↓Frame.ite, ↓Frame.foldl, ↓Frame.foldlFst, Frame.refl, ite_self, ok, refuse, apply_ite CmdResult.state, apply_ite Prod.fst, apply_ite Prod.snd] | split)); done)) only [↓Frame.lineIn, ↓Frame.monErr, Frame.refl]; done))

theorem Frame.monLine {m : Nat} {s u : State}  (f : State → State) (h : ∀ w, Frame m w (f w)) (k : 0x20100008d0 ||| m = m) :
    Frame m s (u.monLine f) ↔ Frame m s u := by
  rcases State.monLine_cases u  f with ⟨w, a, b⟩ | a
  · exact (((a.mono k).trans (h w)).trans (b.mono k)).thru (Nat.or_self m)
  · exact a.thru k

theorem Frame.lineDiscard {m : Nat} {s u : State} {x1 : Bool} (k : 0x20100008d0 ||| m = m) : Frame m s (State.lineDiscard u x1) ↔ Frame m s u := by
  refine Frame.thru (m := 0x20100008d0) ?_ k
  unfold State.lineDiscard
  repeat' (first | simp (disch := first | decide | rfl | (intros; simp (disch := first | decide | rfl | (intros; simp (disch := decide) only [↓Frame.count, ↓Frame.monErr, ↓Frame.monLine, ↓Frame.ite, ↓Frame.foldl, ↓Frame.foldlFst, Frame.refl, ite_self, ok, refuse, apply_ite CmdResult.state, apply_ite Prod.fst, apply_ite Prod.snd])) only [↓Frame.count, ↓Frame.monErr, ↓Frame.monLine, ↓Frame.ite, ↓Frame.foldl, ↓Frame.foldlFst, Frame.refl, ite_self, ok, refuse, apply_ite CmdResult.state, apply_ite Prod.fst, apply_ite Prod.snd])) only [↓Frame.count, ↓Frame.monLine, ↓Frame.ite, Frame.refl, ite_self] | split)

theorem Frame.linkSilent {m : Nat} {s u : State} {x1 : ℕ} (k : 0x225807fdd8 ||| m = m) : Frame m s (State.linkSilent u x1) ↔ Frame m s u := by
  refine Frame.thru (m := 0x225807fdd8) ?_ k
  unfold State.linkSilent
  simp (disch := decide) only [↓Frame.linkDown, ↓Frame.ite, Frame.refl, ite_self]

theorem Frame.linkTrained {m : Nat} {s u : State} {x1 x2 : ℕ} {x3 : Bool} (k : 0x20100008d0 ||| m = m) : Frame m s (State.linkTrained u x1 x2 x3) ↔ Frame m s u := by
  refine Frame.thru (m := 0x20100008d0) ?_ k
  unfold State.linkTrained
  simp (disch := decide) only [↓Frame.event, ↓Frame.putReg, ↓Frame.raise, ↓Frame.setHost, ↓Frame.ite, Frame.refl, ite_self]

theorem Frame.loadCmd {m : Nat} {s u : State} {x1 x2 x3 : ℕ} (k : 0x2258017dd8 ||| m = m) : Frame m s (State.loadCmd u x1 x2 x3) ↔ Frame m s u := by
  refine Frame.thru (m := 0x2258017dd8) ?_ k
  unfold State.loadCmd
  simp (disch := decide) only [↓Frame.beginLoad, ↓Frame.monErr, ↓Frame.monNote, ↓Frame.monOk, ↓Frame.monRefuse, ↓Frame.putFld, ↓Frame.say, ↓Frame.setDraft, ↓Frame.setHost, ↓Frame.ite, Frame.refl, ite_self]

theorem State.loadEnds_cases (u : State) (kind : LoadKind) (f : LoadReq → State → State) :
    (∃ l w, Frame 0x2000000000 u w ∧ Frame 0x2000000000 (f l w) (u.loadEnds kind f)) ∨ Frame 0x2000000000 u (u.loadEnds kind f) := by
  unfold State.loadEnds
  split
  · exact Or.inr (Frame.refl _ _)
  · rename_i l _
    split
    · refine Or.inl ⟨l, u, Frame.refl _ _, ?_⟩
      repeat' (first | simp (disch := first | decide | rfl | (intros; (repeat' (first | simp (disch := first | decide | rfl | (intros; (repeat' (first | simp (disch := decide) only [↓Frame.setHost, ↓Frame.ite, ↓Frame.foldl, ↓Frame.foldlFst, Frame.refl, ite_self, ok, refuse, apply_ite CmdResult.state, apply_ite Prod.fst, apply_ite Prod.snd] | split)); done)) only [↓Frame.setHost, ↓Frame.ite, ↓Frame.foldl, ↓Frame.foldlFst, Frame.refl, ite_self, ok, refuse, apply_ite CmdResult.state, apply_ite Prod.fst, apply_ite Prod.snd] | split)); done)) only [↓Frame.setHost, ↓Frame.ite, Frame.refl, ite_self] | split)
    · exact Or.inr (Frame.refl _ _)

theorem Frame.loadEnds {m : Nat} {s u : State} (kind : LoadKind) (f : LoadReq → State → State) (h : ∀ l w, Frame m w (f l w)) (k : 0x2000000000 ||| m = m) :
    Frame m s (u.loadEnds kind f) ↔ Frame m s u := by
  rcases State.loadEnds_cases u kind f with ⟨l, w, a, b⟩ | a
  · exact (((a.mono k).trans (h l w)).trans (b.mono k)).thru (Nat.or_self m)
  · exact a.thru k

theorem Frame.loadFails {m : Nat} {s u : State} {x1 : LoadReq} {x2 : List Byte} {x3 : List ℕ} {x4 : Option ℕ} (k : 0x7ffffffd8 ||| m = m) : Frame m s (State.loadFails u x1 x2 x3 x4) ↔ Frame m s u := by
  refine Frame.thru (m := 0x7ffffffd8) ?_ k
  unfold State.loadFails
  repeat' (first | simp (disch := decide) only [↓Frame.endLoad, ↓Frame.loadUnread, Frame.refl] | split)

theorem Frame.lockLost {m : Nat} {s u : State} {x1 : ℕ} (k : 0x225807fdd8 ||| m = m) : Frame m s (State.lockLost u x1) ↔ Frame m s u := by
  refine Frame.thru (m := 0x225807fdd8) ?_ k
  unfold State.lockLost
  simp (disch := decide) only [↓Frame.linkDown, ↓Frame.ite, Frame.refl, ite_self]

theorem Frame.loomSecond {m : Nat} {s u : State} (k : 0x8000000 ||| m = m) : Frame m s (State.loomSecond u) ↔ Frame m s u := by
  refine Frame.thru (m := 0x8000000) ?_ k
  unfold State.loomSecond
  simp (disch := decide) only [↓Frame.setLoom, ↓Frame.ite, Frame.refl, ite_self]

theorem Frame.sampleLatency {m : Nat} {s u : State} {x1 x2 x3 : ℕ} {x4 : List Byte} (k : 0x400 ||| m = m) : Frame m s (State.sampleLatency u x1 x2 x3 x4) ↔ Frame m s u := by
  refine Frame.thru (m := 0x400) ?_ k
  unfold State.sampleLatency
  repeat' (first | simp (disch := decide) only [↓Frame.histSample, ↓Frame.ite, Frame.refl, ite_self] | split)

theorem Frame.writeLate {m : Nat} {s u : State} {x1 x2 x3 x4 x5 : ℕ} {x6 : List Byte} (k : 0x18041cd0 ||| m = m) : Frame m s (State.writeLate u x1 x2 x3 x4 x5 x6) ↔ Frame m s u := by
  refine Frame.thru (m := 0x18041cd0) ?_ k
  unfold State.writeLate
  repeat' (first | simp (disch := decide) only [↓Frame.count, ↓Frame.lateBeyond, ↓Frame.lateCopy, ↓Frame.loomSecond, ↓Frame.modSlot, ↓Frame.sampleLatency, ↓Frame.setLoom, ↓Frame.storeValue, ↓Frame.writeHeader, ↓Frame.ite, Frame.refl, ite_self] | split)

theorem Frame.putSlot {m : Nat} {s u : State} {x1 : ℕ} {x2 : SlotSt} (k : 0x8000000 ||| m = m) : Frame m s (State.putSlot u x1 x2) ↔ Frame m s u := by
  refine Frame.thru (m := 0x8000000) ?_ k
  unfold State.putSlot
  simp (disch := decide) only [↓Frame.putLat, Frame.refl]

theorem Frame.writeOnTime {m : Nat} {s u : State} {x1 x2 x3 x4 x5 : ℕ} {x6 : List Byte} (k : 0x8000410 ||| m = m) : Frame m s (State.writeOnTime u x1 x2 x3 x4 x5 x6) ↔ Frame m s u := by
  refine Frame.thru (m := 0x8000410) ?_ k
  unfold State.writeOnTime
  simp (disch := decide) only [↓Frame.count, ↓Frame.loomSecond, ↓Frame.putSlot, ↓Frame.sampleLatency, ↓Frame.setLoom, ↓Frame.storeValue, ↓Frame.ite, Frame.refl, ite_self]

theorem Frame.writeItem {m : Nat} {s u : State} {x1 x2 x3 x4 : ℕ} (k : 0x18041cd0 ||| m = m) : Frame m s (State.writeItem u x1 x2 x3 x4) ↔ Frame m s u := by
  refine Frame.thru (m := 0x18041cd0) ?_ k
  unfold State.writeItem
  repeat' (first | simp (disch := decide) only [↓Frame.count, ↓Frame.event, ↓Frame.raise, ↓Frame.writeLate, ↓Frame.writeOnTime, ↓Frame.ite, Frame.refl] | split)

theorem Frame.settleFailed {m : Nat} {s u : State} {x1 x2 : ℕ} (k : 0x8000400 ||| m = m) : Frame m s (State.settleFailed u x1 x2) ↔ Frame m s u := by
  refine Frame.thru (m := 0x8000400) ?_ k
  unfold State.settleFailed
  repeat' (first | simp (disch := decide) only [↓Frame.putSlot, ↓Frame.storeValue, ↓Frame.ite, Frame.refl, ite_self] | split)

theorem Frame.loomWrite {m : Nat} {s u : State} {x1 : ℕ} (k : 0x227d07fdd8 ||| m = m) : Frame m s (State.loomWrite u x1) ↔ Frame m s u := by
  refine Frame.thru (m := 0x227d07fdd8) ?_ k
  unfold State.loomWrite
  repeat' (first | simp (disch := decide) only [↓Frame.checkedRead, ↓Frame.loomRun, ↓Frame.setFault, ↓Frame.setLoomQ, ↓Frame.settleFailed, ↓Frame.writeItem, ↓Frame.ite, Frame.refl, ite_self] | split)

theorem Frame.makeRoom {m : Nat} {s u : State} {x1 x2 : ℕ} (k : 0x39040dd0 ||| m = m) : Frame m s (State.makeRoom u x1 x2) ↔ Frame m s u := by
  refine Frame.thru (m := 0x39040dd0) ?_ k
  unfold State.makeRoom
  repeat' (first | simp (disch := first | decide | rfl | (intros; simp (disch := first | decide | rfl | (intros; simp (disch := decide) only [↓Frame.forceSlot, ↓Frame.loomRun, ↓Frame.ite, ↓Frame.foldl, ↓Frame.foldlFst, Frame.refl, ite_self, ok, refuse, apply_ite CmdResult.state, apply_ite Prod.fst, apply_ite Prod.snd])) only [↓Frame.forceSlot, ↓Frame.loomRun, ↓Frame.ite, ↓Frame.foldl, ↓Frame.foldlFst, Frame.refl, ite_self, ok, refuse, apply_ite CmdResult.state, apply_ite Prod.fst, apply_ite Prod.snd])) only [↓Frame.loomRun, ↓Frame.foldl, Frame.refl] | split)

theorem Frame.matched {m : Nat} {s u : State} {x1 : ℕ} (k : 0x10000010 ||| m = m) : Frame m s (State.matched u x1) ↔ Frame m s u := by
  refine Frame.thru (m := 0x10000010) ?_ k
  unfold State.matched
  simp (disch := decide) only [↓Frame.putLink, Frame.refl]

theorem Frame.monMay {m : Nat} {s u : State} (f : State → State) (h : ∀ w, Frame m w (f w))
    (k : 0x20100008d0 ||| m = m) : Frame m s (u.monMay f) ↔ Frame m s u := by
  unfold State.monMay
  refine Frame.monLine _ (fun w => ?_) k
  split
  · refine Frame.mono (m := 0x20100008d0) ?_ k
    simp (disch := first | decide | rfl | (intros; (repeat' (first | simp (disch := first | decide | rfl | (intros; (repeat' (first | simp (disch := decide) only [↓Frame.monErr, ↓Frame.monLine, ↓Frame.ite, ↓Frame.foldl, ↓Frame.foldlFst, Frame.refl, ite_self, ok, refuse, apply_ite CmdResult.state, apply_ite Prod.fst, apply_ite Prod.snd] | split)); done)) only [↓Frame.monErr, ↓Frame.monLine, ↓Frame.ite, ↓Frame.foldl, ↓Frame.foldlFst, Frame.refl, ite_self, ok, refuse, apply_ite CmdResult.state, apply_ite Prod.fst, apply_ite Prod.snd] | split)); done)) only [↓Frame.monErr, Frame.refl]
  · exact h w

theorem Frame.modeReply {m : Nat} {s u : State} (k : 0x810 ||| m = m) : Frame m s (State.modeReply u) ↔ Frame m s u := by
  refine Frame.thru (m := 0x810) ?_ k
  unfold State.modeReply
  simp (disch := decide) only [↓Frame.monErr, ↓Frame.monOk, ↓Frame.ite, Frame.refl, ite_self]

theorem Frame.modeCmd {m : Nat} {s u : State} {x1 : Option ℕ} (k : 0x3bff2fffd8 ||| m = m) : Frame m s (State.modeCmd u x1) ↔ Frame m s u := by
  refine Frame.thru (m := 0x3bff2fffd8) ?_ k
  unfold State.modeCmd
  repeat' (first | simp (disch := first | decide | rfl | (intros; simp (disch := first | decide | rfl | (intros; simp (disch := decide) only [↓Frame.modeReply, ↓Frame.monErr, ↓Frame.monLine, ↓Frame.monMay, ↓Frame.monOk, ↓Frame.monWrite, ↓Frame.ite, ↓Frame.foldl, ↓Frame.foldlFst, Frame.refl, ite_self, ok, refuse, apply_ite CmdResult.state, apply_ite Prod.fst, apply_ite Prod.snd])) only [↓Frame.modeReply, ↓Frame.monErr, ↓Frame.monLine, ↓Frame.monMay, ↓Frame.monOk, ↓Frame.monWrite, ↓Frame.ite, ↓Frame.foldl, ↓Frame.foldlFst, Frame.refl, ite_self, ok, refuse, apply_ite CmdResult.state, apply_ite Prod.fst, apply_ite Prod.snd])) only [↓Frame.monLine, ↓Frame.monMay, Frame.refl] | split)

theorem Frame.moderationTimeout {m : Nat} {s u : State} {x1 : ℕ} (k : 0x40810 ||| m = m) : Frame m s (State.moderationTimeout u x1) ↔ Frame m s u := by
  refine Frame.thru (m := 0x40810) ?_ k
  unfold State.moderationTimeout
  repeat' (first | simp (disch := decide) only [↓Frame.putQueue, ↓Frame.signal, ↓Frame.ite, Frame.refl, ite_self] | split)

theorem Frame.monOwn {m : Nat} {s u : State} (f : State → State) (h : ∀ w, Frame m w (f w))
    (k : 0x20100008d0 ||| m = m) : Frame m s (u.monOwn f) ↔ Frame m s u := by
  unfold State.monOwn
  refine Frame.monMay _ (fun w => ?_) k
  split
  · exact h w
  · refine Frame.mono (m := 0x20100008d0) ?_ k
    simp (disch := first | decide | rfl | (intros; (repeat' (first | simp (disch := first | decide | rfl | (intros; (repeat' (first | simp (disch := decide) only [↓Frame.monErr, ↓Frame.monMay, ↓Frame.ite, ↓Frame.foldl, ↓Frame.foldlFst, Frame.refl, ite_self, ok, refuse, apply_ite CmdResult.state, apply_ite Prod.fst, apply_ite Prod.snd] | split)); done)) only [↓Frame.monErr, ↓Frame.monMay, ↓Frame.ite, ↓Frame.foldl, ↓Frame.foldlFst, Frame.refl, ite_self, ok, refuse, apply_ite CmdResult.state, apply_ite Prod.fst, apply_ite Prod.snd] | split)); done)) only [↓Frame.monErr, Frame.refl]

theorem State.monRead_frame (u : State) (x1 x2 : ℕ) : Frame 0x100208f0 u (State.monRead u x1 x2) := by
  induction x2 generalizing u x1 with
  | zero => unfold State.monRead; simp (disch := first | decide | rfl | (intros; (repeat' (first | simp (disch := first | decide | rfl | (intros; (repeat' (first | simp (disch := decide) only [↓Frame.absentAccess, ↓Frame.noStacksAccess, ↓Frame.readReg, ↓Frame.say, ↓Frame.stall, ↓Frame.ite, ↓Frame.foldl, ↓Frame.foldlFst, Frame.refl, ite_self, ok, refuse, apply_ite CmdResult.state, apply_ite Prod.fst, apply_ite Prod.snd] | split)); done)) only [↓Frame.absentAccess, ↓Frame.noStacksAccess, ↓Frame.readReg, ↓Frame.say, ↓Frame.stall, ↓Frame.ite, ↓Frame.foldl, ↓Frame.foldlFst, Frame.refl, ite_self, ok, refuse, apply_ite CmdResult.state, apply_ite Prod.fst, apply_ite Prod.snd] | split)); done)) only [↓Frame.say, Frame.refl]
  | succ n ih =>
    have ih' : ∀ s u (x1 : Nat), Frame 0x100208f0 s (u.monRead x1 n) ↔ Frame 0x100208f0 s u := fun s u x1 => (ih u x1).thru (Nat.or_self _)
    unfold State.monRead
    generalize u.regState x1 = k
    rcases k with _ | _ | _ | _ | _ | k
    all_goals simp (disch := first | decide | omega) only [ih', ↓Frame.absentAccess, ↓Frame.noStacksAccess, ↓Frame.readReg, ↓Frame.say, ↓Frame.stall, Frame.refl]
theorem Frame.monRead {m : Nat} {s u : State} {x1 x2 : ℕ} (k : 0x100208f0 ||| m = m) : Frame m s (State.monRead u x1 x2) ↔ Frame m s u :=
  (State.monRead_frame u x1 x2).thru k

theorem State.monStacks_frame (u : State) (x1 x2 : ℕ) : Frame 0x800 u (State.monStacks u x1 x2) := by
  induction x2 generalizing u x1 with
  | zero => unfold State.monStacks; simp (disch := first | decide | rfl | (intros; (repeat' (first | simp (disch := first | decide | rfl | (intros; (repeat' (first | simp (disch := decide) only [↓Frame.say, ↓Frame.ite, ↓Frame.foldl, ↓Frame.foldlFst, Frame.refl, ite_self, ok, refuse, apply_ite CmdResult.state, apply_ite Prod.fst, apply_ite Prod.snd] | split)); done)) only [↓Frame.say, ↓Frame.ite, ↓Frame.foldl, ↓Frame.foldlFst, Frame.refl, ite_self, ok, refuse, apply_ite CmdResult.state, apply_ite Prod.fst, apply_ite Prod.snd] | split)); done)) only [↓Frame.say, Frame.refl]
  | succ n ih =>
    have ih' : ∀ s u (x1 : Nat), Frame 0x800 s (u.monStacks x1 n) ↔ Frame 0x800 s u := fun s u x1 => (ih u x1).thru (Nat.or_self _)
    unfold State.monStacks
    repeat' (first | simp (disch := first | decide | rfl | (intros; (repeat' (first | simp (disch := first | decide | rfl | (intros; (repeat' (first | simp (disch := decide) only [ih', ↓Frame.say, ↓Frame.ite, ↓Frame.foldl, ↓Frame.foldlFst, Frame.refl, ite_self, ok, refuse, apply_ite CmdResult.state, apply_ite Prod.fst, apply_ite Prod.snd] | split)); done)) only [ih', ↓Frame.say, ↓Frame.ite, ↓Frame.foldl, ↓Frame.foldlFst, Frame.refl, ite_self, ok, refuse, apply_ite CmdResult.state, apply_ite Prod.fst, apply_ite Prod.snd] | split)); done)) only [ih', ↓Frame.say, Frame.refl] | split)
theorem Frame.monStacks {m : Nat} {s u : State} {x1 x2 : ℕ} (k : 0x800 ||| m = m) : Frame m s (State.monStacks u x1 x2) ↔ Frame m s u :=
  (State.monStacks_frame u x1 x2).thru k

theorem Frame.nakCell {m : Nat} {s u : State} {x1 : ℕ} {x2 : List Byte} (k : 0x225807fdd8 ||| m = m) : Frame m s (State.nakCell u x1 x2) ↔ Frame m s u := by
  refine Frame.thru (m := 0x225807fdd8) ?_ k
  unfold State.nakCell
  repeat' (first | simp (disch := first | decide | rfl | (intros; simp (disch := first | decide | rfl | (intros; simp (disch := decide) only [↓Frame.askAgain, ↓Frame.onCell, ↓Frame.ite, ↓Frame.foldl, ↓Frame.foldlFst, Frame.refl, ite_self, ok, refuse, apply_ite CmdResult.state, apply_ite Prod.fst, apply_ite Prod.snd])) only [↓Frame.askAgain, ↓Frame.onCell, ↓Frame.ite, ↓Frame.foldl, ↓Frame.foldlFst, Frame.refl, ite_self, ok, refuse, apply_ite CmdResult.state, apply_ite Prod.fst, apply_ite Prod.snd])) only [↓Frame.onCell, Frame.refl] | split)

theorem Frame.nonceExpiry {m : Nat} {s u : State} (k : 0x80 ||| m = m) : Frame m s (State.nonceExpiry u) ↔ Frame m s u := by
  refine Frame.thru (m := 0x80) ?_ k
  unfold State.nonceExpiry
  repeat' (first | simp (disch := decide) only [↓Frame.setLedger, ↓Frame.ite, Frame.refl, ite_self] | split)

theorem Frame.noteHolder {m : Nat} {s u : State} (k : 0x10000 ||| m = m) : Frame m s (State.noteHolder u) ↔ Frame m s u := by
  refine Frame.thru (m := 0x10000) ?_ k
  unfold State.noteHolder
  simp (disch := decide) only [↓Frame.setPair, ↓Frame.ite, Frame.refl, ite_self]

theorem Frame.noteTag {m : Nat} {s u : State} {x1 x2 x3 : ℕ} (k : 0x10000000 ||| m = m) : Frame m s (State.noteTag u x1 x2 x3) ↔ Frame m s u := by
  refine Frame.thru (m := 0x10000000) ?_ k
  unfold State.noteTag
  simp (disch := decide) only [↓Frame.setSlv, Frame.refl]

theorem Frame.opSecondsSave {m : Nat} {s u : State} (k : 0x258037dd8 ||| m = m) : Frame m s (State.opSecondsSave u) ↔ Frame m s u := by
  refine Frame.thru (m := 0x258037dd8) ?_ k
  unfold State.opSecondsSave
  simp (disch := decide) only [↓Frame.setLedger, ↓Frame.wakeArchive, ↓Frame.ite, Frame.refl, ite_self]

theorem Frame.openSlot {m : Nat} {s u : State} {x1 x2 : ℕ} {x3 : Bool} (k : 0x8000000 ||| m = m) : Frame m s (State.openSlot u x1 x2 x3) ↔ Frame m s u := by
  refine Frame.thru (m := 0x8000000) ?_ k
  unfold State.openSlot
  simp (disch := decide) only [↓Frame.putLat, Frame.refl]

theorem Frame.overloadClear {m : Nat} {s u : State} {x1 : ℕ} (k : 0x1a0019d0 ||| m = m) : Frame m s (State.overloadClear u x1) ↔ Frame m s u := by
  refine Frame.thru (m := 0x1a0019d0) ?_ k
  unfold State.overloadClear
  simp (disch := decide) only [↓Frame.backpressure, ↓Frame.event, ↓Frame.loomSecond, ↓Frame.overload, ↓Frame.putFld, ↓Frame.raise, ↓Frame.setLoom, ↓Frame.ite, Frame.refl, ite_self]

theorem Frame.overloadSet {m : Nat} {s u : State} {x1 : ℕ} (k : 0x1a0019d0 ||| m = m) : Frame m s (State.overloadSet u x1) ↔ Frame m s u := by
  refine Frame.thru (m := 0x1a0019d0) ?_ k
  unfold State.overloadSet
  simp (disch := decide) only [↓Frame.backpressure, ↓Frame.event, ↓Frame.loomSecond, ↓Frame.overload, ↓Frame.putFld, ↓Frame.raise, ↓Frame.setLoom, ↓Frame.ite, Frame.refl, ite_self]

theorem Frame.partnerFound {m : Nat} {s u : State} {x1 : ℕ} (k : 0x100008d0 ||| m = m) : Frame m s (State.partnerFound u x1) ↔ Frame m s u := by
  refine Frame.thru (m := 0x100008d0) ?_ k
  unfold State.partnerFound
  simp (disch := decide) only [↓Frame.event, ↓Frame.putFld, ↓Frame.raise, Frame.refl]

theorem Frame.partnerClaimEdge {m : Nat} {s u : State} {x1 x2 : ℕ} (k : 0x2500149d0 ||| m = m) : Frame m s (State.partnerClaimEdge u x1 x2) ↔ Frame m s u := by
  refine Frame.thru (m := 0x2500149d0) ?_ k
  unfold State.partnerClaimEdge
  simp (disch := decide) only [↓Frame.noteHolder, ↓Frame.partnerFound, ↓Frame.setPair, ↓Frame.updateHolding, ↓Frame.ite, Frame.refl, ite_self]

theorem Frame.partnerLost {m : Nat} {s u : State} (k : 0x2500149d0 ||| m = m) : Frame m s (State.partnerLost u) ↔ Frame m s u := by
  refine Frame.thru (m := 0x2500149d0) ?_ k
  unfold State.partnerLost
  repeat' (first | simp (disch := first | decide | rfl | (intros; simp (disch := first | decide | rfl | (intros; simp (disch := decide) only [↓Frame.count, ↓Frame.event, ↓Frame.putFld, ↓Frame.raise, ↓Frame.setPair, ↓Frame.updateHolding, ↓Frame.ite, ↓Frame.foldl, ↓Frame.foldlFst, Frame.refl, ite_self, ok, refuse, apply_ite CmdResult.state, apply_ite Prod.fst, apply_ite Prod.snd])) only [↓Frame.count, ↓Frame.event, ↓Frame.putFld, ↓Frame.raise, ↓Frame.setPair, ↓Frame.updateHolding, ↓Frame.ite, ↓Frame.foldl, ↓Frame.foldlFst, Frame.refl, ite_self, ok, refuse, apply_ite CmdResult.state, apply_ite Prod.fst, apply_ite Prod.snd])) only [↓Frame.count, ↓Frame.event, ↓Frame.putFld, ↓Frame.raise, ↓Frame.setPair, ↓Frame.updateHolding, ↓Frame.ite, ↓Frame.foldl, Frame.refl, ite_self] | split)

theorem Frame.passOn {m : Nat} {s u : State} {x1 : ℕ} {x2 : SlvCell} (k : 0x10000010 ||| m = m) : Frame m s (State.passOn u x1 x2) ↔ Frame m s u := by
  refine Frame.thru (m := 0x10000010) ?_ k
  unfold State.passOn
  repeat' (first | simp (disch := first | decide | rfl | (intros; simp (disch := first | decide | rfl | (intros; simp (disch := decide) only [↓Frame.freeHere, ↓Frame.putLink, ↓Frame.ite, ↓Frame.foldl, ↓Frame.foldlFst, Frame.refl, ite_self, ok, refuse, apply_ite CmdResult.state, apply_ite Prod.fst, apply_ite Prod.snd])) only [↓Frame.freeHere, ↓Frame.putLink, ↓Frame.ite, ↓Frame.foldl, ↓Frame.foldlFst, Frame.refl, ite_self, ok, refuse, apply_ite CmdResult.state, apply_ite Prod.fst, apply_ite Prod.snd])) only [↓Frame.freeHere, ↓Frame.putLink, ↓Frame.foldl, Frame.refl] | split)

theorem Frame.perstLevel {m : Nat} {s u : State} {x1 : Bool} {x2 : List Byte} {x3 : ℕ} (k : 0x2258017dd8 ||| m = m) : Frame m s (State.perstLevel u x1 x2 x3) ↔ Frame m s u := by
  refine Frame.thru (m := 0x2258017dd8) ?_ k
  unfold State.perstLevel
  simp (disch := decide) only [↓Frame.endpointReset, ↓Frame.setHost, ↓Frame.ite, Frame.refl, ite_self]

theorem Frame.stageFlushed {m : Nat} {s u : State} (k : 0x80 ||| m = m) : Frame m s (State.stageFlushed u) ↔ Frame m s u := by
  refine Frame.thru (m := 0x80) ?_ k
  unfold State.stageFlushed
  simp (disch := decide) only [↓Frame.setLedger, Frame.refl]

theorem Frame.pfwFall {m : Nat} {s u : State} (k : 0x258037dd8 ||| m = m) : Frame m s (State.pfwFall u) ↔ Frame m s u := by
  refine Frame.thru (m := 0x258037dd8) ?_ k
  unfold State.pfwFall
  simp (disch := decide) only [↓Frame.abortLoad, ↓Frame.count, ↓Frame.energyFreeze, ↓Frame.event, ↓Frame.putFld, ↓Frame.putPair, ↓Frame.raise, ↓Frame.setDraft, ↓Frame.setPower, ↓Frame.stageFlushed, ↓Frame.ite, Frame.refl, ite_self]

theorem Frame.pfwLevel {m : Nat} {s u : State} {x1 : Bool} (k : 0x20010 ||| m = m) : Frame m s (State.pfwLevel u x1) ↔ Frame m s u := by
  refine Frame.thru (m := 0x20010) ?_ k
  unfold State.pfwLevel
  simp (disch := decide) only [↓Frame.count, ↓Frame.setPower, ↓Frame.ite, Frame.refl, ite_self]

theorem Frame.reopenLedger {m : Nat} {s u : State} (k : 0x8d0 ||| m = m) : Frame m s (State.reopenLedger u) ↔ Frame m s u := by
  refine Frame.thru (m := 0x8d0) ?_ k
  unfold State.reopenLedger
  simp (disch := decide) only [↓Frame.raise, ↓Frame.setLedger, Frame.refl]

theorem Frame.pfwRecovered {m : Nat} {s u : State} (k : 0x210060ad0 ||| m = m) : Frame m s (State.pfwRecovered u) ↔ Frame m s u := by
  refine Frame.thru (m := 0x210060ad0) ?_ k
  unfold State.pfwRecovered
  simp (disch := decide) only [↓Frame.drive, ↓Frame.energyThaw, ↓Frame.event, ↓Frame.putFld, ↓Frame.raise, ↓Frame.reopenLedger, ↓Frame.setLedger, ↓Frame.setPower, ↓Frame.ite, Frame.refl, ite_self]

theorem Frame.pinMismatch {m : Nat} {s u : State} {x1 : ℕ} {x2 : Bool} (k : 0x100008d0 ||| m = m) : Frame m s (State.pinMismatch u x1 x2) ↔ Frame m s u := by
  refine Frame.thru (m := 0x100008d0) ?_ k
  unfold State.pinMismatch
  simp (disch := decide) only [↓Frame.count, ↓Frame.event, ↓Frame.putReg, ↓Frame.raise, ↓Frame.ite, Frame.refl, ite_self]

theorem Frame.pinTestEnd {m : Nat} {s u : State} (k : 0x200004810 ||| m = m) : Frame m s (State.pinTestEnd u) ↔ Frame m s u := by
  refine Frame.thru (m := 0x200004810) ?_ k
  unfold State.pinTestEnd
  repeat' (first | simp (disch := decide) only [↓Frame.endPinTest, ↓Frame.ite, Frame.refl, ite_self] | split)

theorem Frame.pllLock {m : Nat} {s u : State} (k : 0x2100079d0 ||| m = m) : Frame m s (State.pllLock u) ↔ Frame m s u := by
  refine Frame.thru (m := 0x2100079d0) ?_ k
  unfold State.pllLock
  simp (disch := decide) only [↓Frame.select, ↓Frame.setTime, ↓Frame.ite, Frame.refl, ite_self]

theorem Frame.portUp {m : Nat} {s u : State} {x1 x2 : ℕ} (k : 0x100008d0 ||| m = m) : Frame m s (State.portUp u x1 x2) ↔ Frame m s u := by
  refine Frame.thru (m := 0x100008d0) ?_ k
  unfold State.portUp
  simp (disch := decide) only [↓Frame.event, ↓Frame.putFld, ↓Frame.putReg, ↓Frame.raise, ↓Frame.ite, Frame.refl, ite_self]

theorem Frame.strap {m : Nat} {s u : State} {x1 x2 x3 : ℕ} (k : 0x20014 ||| m = m) : Frame m s (State.strap u x1 x2 x3) ↔ Frame m s u := by
  refine Frame.thru (m := 0x20014) ?_ k
  unfold State.strap
  simp (disch := decide) only [↓Frame.putFld, ↓Frame.setBoot, ↓Frame.setPower, Frame.refl]

theorem Frame.startLow {m : Nat} {s u : State} {x1 : ℕ} (k : 0x20090 ||| m = m) : Frame m s (State.startLow u x1) ↔ Frame m s u := by
  refine Frame.thru (m := 0x20090) ?_ k
  unfold State.startLow
  simp (disch := decide) only [↓Frame.putFld, ↓Frame.setLedger, ↓Frame.setPower, Frame.refl]

theorem Frame.powerOn {m : Nat} {s u : State} {x1 x2 x3 : ℕ} {x4 : Bool} (k : 0xabffffedfe ||| m = m) : Frame m s (State.powerOn u x1 x2 x3 x4) ↔ Frame m s u := by
  refine Frame.thru (m := 0xabffffedfe) ?_ k
  unfold State.powerOn
  simp (disch := decide) only [↓Frame.avsRestore, ↓Frame.coldStart, ↓Frame.event, ↓Frame.ledgerStart, ↓Frame.startLow, ↓Frame.strap, ↓Frame.ite, Frame.refl, ite_self]

theorem Frame.powerState {m : Nat} {s u : State} {x1 : Bool} (k : 0x100008d0 ||| m = m) : Frame m s (State.powerState u x1) ↔ Frame m s u := by
  refine Frame.thru (m := 0x100008d0) ?_ k
  unfold State.powerState
  simp (disch := decide) only [↓Frame.event, ↓Frame.putFld, ↓Frame.stopAll, ↓Frame.ite, Frame.refl, ite_self]

theorem Frame.ppsEdge {m : Nat} {s u : State} {x1 : ℕ} (k : 0x2180079d8 ||| m = m) : Frame m s (State.ppsEdge u x1) ↔ Frame m s u := by
  refine Frame.thru (m := 0x2180079d8) ?_ k
  unfold State.ppsEdge
  simp (disch := decide) only [↓Frame.putSrc, ↓Frame.sample, ↓Frame.ite, Frame.refl, ite_self]

theorem Frame.ppsOEdge {m : Nat} {s u : State} (k : 0x2800 ||| m = m) : Frame m s (State.ppsOEdge u) ↔ Frame m s u := by
  refine Frame.thru (m := 0x2800) ?_ k
  unfold State.ppsOEdge
  simp (disch := decide) only [↓Frame.drive, ↓Frame.setTime, ↓Frame.ite, Frame.refl, ite_self]

end Sys2Proof.Machine
end

