-- ==== Sys2Proof/Laws/Frame7.lean ====
section
/-!
SUPPORT. Sys2Proof/Laws/Frame7.lean: the parts of the state that each operation may write, part 7 of 7, in the order in which the
operations call each other. One lemma an operation: a frame goes through it.
-/

namespace Sys2Proof.Machine

theorem Frame.proveSuspect {m : Nat} {s u : State} {x1 x2 x3 : ℕ} {x4 : ℤ} (k : 0x2000 ||| m = m) : Frame m s (State.proveSuspect u x1 x2 x3 x4) ↔ Frame m s u := by
  refine Frame.thru (m := 0x2000) ?_ k
  unfold State.proveSuspect
  simp (disch := decide) only [↓Frame.putSrc, Frame.refl]

theorem Frame.prpForget {m : Nat} {s u : State} {x1 x2 : ℕ} (k : 0x80000 ||| m = m) : Frame m s (State.prpForget u x1 x2) ↔ Frame m s u := by
  refine Frame.thru (m := 0x80000) ?_ k
  unfold State.prpForget
  repeat' (first | simp (disch := decide) only [↓Frame.setPort, ↓Frame.ite, Frame.refl, ite_self] | split)

theorem Frame.withhold {m : Nat} {s u : State} {x1 : ℕ} {x2 x3 : ℤ} {x4 : Bool} {x5 : ℕ} (k : 0x2100079d0 ||| m = m) : Frame m s (State.withhold u x1 x2 x3 x4 x5) ↔ Frame m s u := by
  refine Frame.thru (m := 0x2100079d0) ?_ k
  unfold State.withhold
  simp (disch := decide) only [↓Frame.count, ↓Frame.enterSuspect, ↓Frame.event, ↓Frame.setTime, ↓Frame.ite, Frame.refl, ite_self]

theorem Frame.syncSample {m : Nat} {s u : State} {x1 x2 : ℕ} {x3 x4 : ℤ} {x5 : ℕ} (k : 0x2180079d8 ||| m = m) : Frame m s (State.syncSample u x1 x2 x3 x4 x5) ↔ Frame m s u := by
  refine Frame.thru (m := 0x2180079d8) ?_ k
  unfold State.syncSample
  repeat' (first | simp (disch := decide) only [↓Frame.autoClear, ↓Frame.count, ↓Frame.proveSuspect, ↓Frame.putSrc, ↓Frame.sample, ↓Frame.setTime, ↓Frame.withhold, ↓Frame.ite, Frame.refl, ite_self] | split)

theorem Frame.ptp {m : Nat} {s u : State} {x1 : ℕ} {x2 : PtpMsg} (k : 0x2180079d8 ||| m = m) : Frame m s (State.ptp u x1 x2) ↔ Frame m s u := by
  refine Frame.thru (m := 0x2180079d8) ?_ k
  unfold State.ptp
  repeat' (first | simp (disch := decide) only [↓Frame.disqualify, ↓Frame.emitPtp, ↓Frame.leapFlags, ↓Frame.putPair, ↓Frame.putReg, ↓Frame.putSrc, ↓Frame.syncSample, ↓Frame.takeUtc, ↓Frame.ite, Frame.refl, ite_self] | split)

theorem Frame.ptpTransmit {m : Nat} {s u : State} (k : 0x800 ||| m = m) : Frame m s (State.ptpTransmit u) ↔ Frame m s u := by
  refine Frame.thru (m := 0x800) ?_ k
  unfold State.ptpTransmit
  repeat' (first | simp (disch := first | decide | rfl | (intros; simp (disch := first | decide | rfl | (intros; simp (disch := decide) only [↓Frame.emitPtp, ↓Frame.ite, ↓Frame.foldl, ↓Frame.foldlFst, Frame.refl, ite_self, ok, refuse, apply_ite CmdResult.state, apply_ite Prod.fst, apply_ite Prod.snd])) only [↓Frame.emitPtp, ↓Frame.ite, ↓Frame.foldl, ↓Frame.foldlFst, Frame.refl, ite_self, ok, refuse, apply_ite CmdResult.state, apply_ite Prod.fst, apply_ite Prod.snd])) only [↓Frame.ite, ↓Frame.foldl, Frame.refl, ite_self] | split)

theorem Frame.pulseEdge {m : Nat} {s u : State} {x1 : ℕ} (k : 0x2810 ||| m = m) : Frame m s (State.pulseEdge u x1) ↔ Frame m s u := by
  refine Frame.thru (m := 0x2810) ?_ k
  unfold State.pulseEdge
  simp (disch := decide) only [↓Frame.drive, ↓Frame.pulsePut, ↓Frame.setTime, ↓Frame.ite, Frame.refl, ite_self]

theorem Frame.putFlow {m : Nat} {s u : State} {x1 : SlvFlow} (k : 0x10000000 ||| m = m) : Frame m s (State.putFlow u x1) ↔ Frame m s u := by
  refine Frame.thru (m := 0x10000000) ?_ k
  unfold State.putFlow
  simp (disch := decide) only [↓Frame.setSlv, Frame.refl]

theorem Frame.putSupply {m : Nat} {s u : State} {x1 : ℕ} {x2 : Bool} (k : 0x10 ||| m = m) : Frame m s (State.putSupply u x1 x2) ↔ Frame m s u := by
  refine Frame.thru (m := 0x10) ?_ k
  unfold State.putSupply
  simp (disch := decide) only [↓Frame.putFld, Frame.refl]

theorem Frame.rdCmd {m : Nat} {s u : State} {x1 x2 : ℕ} (k : 0x100208f0 ||| m = m) : Frame m s (State.rdCmd u x1 x2) ↔ Frame m s u := by
  refine Frame.thru (m := 0x100208f0) ?_ k
  unfold State.rdCmd
  simp (disch := decide) only [↓Frame.monErr, ↓Frame.monRead, ↓Frame.ite, Frame.refl, ite_self]

theorem Frame.rearmDone {m : Nat} {s u : State} {x1 : ℕ} (k : 0x30000cd0 ||| m = m) : Frame m s (State.rearmDone u x1) ↔ Frame m s u := by
  refine Frame.thru (m := 0x30000cd0) ?_ k
  unfold State.rearmDone
  simp (disch := decide) only [↓Frame.captState, ↓Frame.closeRecord, ↓Frame.disarmRegion, ↓Frame.event, ↓Frame.putReg, ↓Frame.raise, ↓Frame.ite, Frame.refl, ite_self]

theorem Frame.recordWritten {m : Nat} {s u : State} {x1 : ℕ} (k : 0x225807ffd8 ||| m = m) : Frame m s (State.recordWritten u x1) ↔ Frame m s u := by
  refine Frame.thru (m := 0x225807ffd8) ?_ k
  unfold State.recordWritten
  repeat' (first | simp (disch := decide) only [↓Frame.afterWrite, ↓Frame.copyRecord, ↓Frame.unstage, ↓Frame.wakeArchive, ↓Frame.writeRecord, ↓Frame.ite, Frame.refl, ite_self] | split)

theorem Frame.reedItem {m : Nat} {s u : State} {x1 : ℕ} (k : 0x225e47fdd8 ||| m = m) : Frame m s (State.reedItem u x1) ↔ Frame m s u := by
  refine Frame.thru (m := 0x225e47fdd8) ?_ k
  unfold State.reedItem
  repeat' (first | simp (disch := decide) only [↓Frame.checkedRead, ↓Frame.count, ↓Frame.enterTap, ↓Frame.reedLoad, ↓Frame.setReedQ, ↓Frame.ite, Frame.refl, ite_self] | split)

theorem Frame.release {m : Nat} {s u : State} (d : Nat) (f : State → Stalled → State) (h : ∀ u x, Frame m u (f u x)) (k : 0x20000 ||| m = m) :
    Frame m s (u.release d f) ↔ Frame m s u := by
  unfold State.release
  dsimp only
  rw [Frame.foldl h]
  exact Frame.setPower k

theorem Frame.relockDone {m : Nat} {s u : State} {x1 : ℕ} {x2 : Bool} (k : 0x2a5807fdd8 ||| m = m) : Frame m s (State.relockDone u x1 x2) ↔ Frame m s u := by
  refine Frame.thru (m := 0x2a5807fdd8) ?_ k
  unfold State.relockDone
  simp (disch := decide) only [↓Frame.count, ↓Frame.event, ↓Frame.laneClock, ↓Frame.lasting, ↓Frame.putFld, ↓Frame.raise, ↓Frame.setClock, ↓Frame.transient, ↓Frame.ite, Frame.refl, ite_self]

theorem Frame.remoteCapt {m : Nat} {s u : State} {x1 : SlvCell} (k : 0x300008d0 ||| m = m) : Frame m s (State.remoteCapt u x1) ↔ Frame m s u := by
  refine Frame.thru (m := 0x300008d0) ?_ k
  unfold State.remoteCapt
  repeat' (first | simp (disch := first | decide | rfl | (intros; simp (disch := first | decide | rfl | (intros; simp (disch := decide) only [↓Frame.armRegion, ↓Frame.count, ↓Frame.event, ↓Frame.raise, ↓Frame.triggerRegion, ↓Frame.ite, ↓Frame.foldl, ↓Frame.foldlFst, Frame.refl, ite_self, ok, refuse, apply_ite CmdResult.state, apply_ite Prod.fst, apply_ite Prod.snd])) only [↓Frame.armRegion, ↓Frame.count, ↓Frame.event, ↓Frame.raise, ↓Frame.triggerRegion, ↓Frame.ite, ↓Frame.foldl, ↓Frame.foldlFst, Frame.refl, ite_self, ok, refuse, apply_ite CmdResult.state, apply_ite Prod.fst, apply_ite Prod.snd])) only [↓Frame.count, ↓Frame.ite, ↓Frame.foldl, Frame.refl, ite_self] | split)

theorem Frame.replanMeasure {m : Nat} {s u : State} {x1 : ClockMeasure} (k : 0x18100008d0 ||| m = m) : Frame m s (State.replanMeasure u x1) ↔ Frame m s u := by
  refine Frame.thru (m := 0x18100008d0) ?_ k
  unfold State.replanMeasure
  repeat' (first | simp (disch := decide) only [↓Frame.avsStep, ↓Frame.measure, ↓Frame.putReg, ↓Frame.replanGo, ↓Frame.setAgeing, ↓Frame.ite, Frame.refl, ite_self] | split)

theorem Frame.requestBy {m : Nat} {s u : State} {x1 : Path} {x2 : ℕ} (k : 0x2100249d0 ||| m = m) : Frame m s (State.requestBy u x1 x2) ↔ Frame m s u := by
  refine Frame.thru (m := 0x2100249d0) ?_ k
  unfold State.requestBy
  repeat' (first | simp (disch := first | decide | rfl | (intros; simp (disch := first | decide | rfl | (intros; simp (disch := decide) only [↓Frame.access, ↓Frame.modeRequest, ↓Frame.ite, ↓Frame.foldl, ↓Frame.foldlFst, Frame.refl, ite_self, ok, refuse, apply_ite CmdResult.state, apply_ite Prod.fst, apply_ite Prod.snd])) only [↓Frame.access, ↓Frame.modeRequest, ↓Frame.ite, ↓Frame.foldl, ↓Frame.foldlFst, Frame.refl, ite_self, ok, refuse, apply_ite CmdResult.state, apply_ite Prod.fst, apply_ite Prod.snd])) only [↓Frame.access, Frame.refl] | split)

theorem Frame.resetCmd {m : Nat} {s u : State} (k : 0x227807ffd8 ||| m = m) : Frame m s (State.resetCmd u) ↔ Frame m s u := by
  refine Frame.thru (m := 0x227807ffd8) ?_ k
  unfold State.resetCmd
  simp (disch := decide) only [↓Frame.monNote, ↓Frame.monOk, ↓Frame.warmAsk, Frame.refl]

theorem Frame.restoredElem {m : Nat} {s u : State} {x1 : ℕ} (k : 0x100088d0 ||| m = m) : Frame m s (State.restoredElem u x1) ↔ Frame m s u := by
  refine Frame.thru (m := 0x100088d0) ?_ k
  unfold State.restoredElem
  simp (disch := decide) only [↓Frame.event, ↓Frame.putElem, ↓Frame.putFld, ↓Frame.showFenced, ↓Frame.ite, Frame.refl, ite_self]

theorem Frame.restored {m : Nat} {s u : State} {x1 : ℕ} (k : 0x100088d0 ||| m = m) : Frame m s (State.restored u x1) ↔ Frame m s u := by
  refine Frame.thru (m := 0x100088d0) ?_ k
  unfold State.restored
  repeat' (first | simp (disch := decide) only [↓Frame.clearFault, ↓Frame.restoredElem, ↓Frame.setFault, ↓Frame.ite, Frame.refl, ite_self] | split)

theorem Frame.retransmit {m : Nat} {s u : State} {x1 : ℕ} (k : 0x225807fdd8 ||| m = m) : Frame m s (State.retransmit u x1) ↔ Frame m s u := by
  refine Frame.thru (m := 0x225807fdd8) ?_ k
  unfold State.retransmit
  repeat' (first | simp (disch := decide) only [↓Frame.askAgain, ↓Frame.ite, Frame.refl] | split)

theorem Frame.retryFail {m : Nat} {s u : State} {x1 : ℕ} (k : 0x225807fdd8 ||| m = m) : Frame m s (State.retryFail u x1) ↔ Frame m s u := by
  refine Frame.thru (m := 0x225807fdd8) ?_ k
  unfold State.retryFail
  simp (disch := decide) only [↓Frame.linkDown, ↓Frame.ite, Frame.refl, ite_self]

theorem Frame.runWave {m : Nat} {s u : State} {x1 : WaveSample} {x2 x3 : ℕ} (k : 0x160018d0 ||| m = m) : Frame m s (State.runWave u x1 x2 x3) ↔ Frame m s u := by
  refine Frame.thru (m := 0x160018d0) ?_ k
  unfold State.runWave
  repeat' (first | simp (disch := first | decide | rfl | (intros; (repeat' (first | simp (disch := first | decide | rfl | (intros; (repeat' (first | simp (disch := decide) only [↓Frame.detSlots, ↓Frame.envTo, ↓Frame.estSlots, ↓Frame.putWave, ↓Frame.ite, ↓Frame.foldl, ↓Frame.foldlFst, Frame.refl, ite_self, ok, refuse, apply_ite CmdResult.state, apply_ite Prod.fst, apply_ite Prod.snd] | split)); done)) only [↓Frame.detSlots, ↓Frame.envTo, ↓Frame.estSlots, ↓Frame.putWave, ↓Frame.ite, ↓Frame.foldl, ↓Frame.foldlFst, Frame.refl, ite_self, ok, refuse, apply_ite CmdResult.state, apply_ite Prod.fst, apply_ite Prod.snd] | split)); done)) only [↓Frame.estSlots, ↓Frame.putWave, ↓Frame.ite, ↓Frame.foldl, Frame.refl, ite_self] | split)

theorem Frame.scTimeout {m : Nat} {s u : State} (k : 0x1100009d0 ||| m = m) : Frame m s (State.scTimeout u) ↔ Frame m s u := by
  refine Frame.thru (m := 0x1100009d0) ?_ k
  unfold State.scTimeout
  repeat' (first | simp (disch := decide) only [↓Frame.endCheck, ↓Frame.setIsle, ↓Frame.ite, Frame.refl, ite_self] | split)

theorem Frame.scanDone {m : Nat} {s u : State} {x1 : ℕ} {x2 : Option ℕ} (k : 0x100018d0 ||| m = m) : Frame m s (State.scanDone u x1 x2) ↔ Frame m s u := by
  refine Frame.thru (m := 0x100018d0) ?_ k
  unfold State.scanDone
  repeat' (first | simp (disch := decide) only [↓Frame.count, ↓Frame.draw, ↓Frame.event, ↓Frame.putPair, ↓Frame.putReg, ↓Frame.raise, ↓Frame.scanShow, ↓Frame.ite, Frame.refl, ite_self] | split)

theorem Frame.scanFails {m : Nat} {s u : State} {x1 x2 x3 : ℕ} (k : 0x225807fdd8 ||| m = m) : Frame m s (State.scanFails u x1 x2 x3) ↔ Frame m s u := by
  refine Frame.thru (m := 0x225807fdd8) ?_ k
  unfold State.scanFails
  simp (disch := decide) only [↓Frame.lasting, ↓Frame.transient, ↓Frame.ite, Frame.refl, ite_self]

theorem Frame.scrub {m : Nat} {s u : State} {x1 : Bool} {x2 : ScrubFind} (k : 0x23fa07fdd8 ||| m = m) : Frame m s (State.scrub u x1 x2) ↔ Frame m s u := by
  refine Frame.thru (m := 0x23fa07fdd8) ?_ k
  unfold State.scrub
  repeat' (first | simp (disch := decide) only [↓Frame.countClass, ↓Frame.putReg, ↓Frame.retryComplete, Frame.refl] | split)

theorem Frame.seedFromPartner {m : Nat} {s u : State} (k : 0x900008d0 ||| m = m) : Frame m s (State.seedFromPartner u) ↔ Frame m s u := by
  refine Frame.thru (m := 0x900008d0) ?_ k
  unfold State.seedFromPartner
  dsimp only
  rw [Frame.showOsc (by decide), Frame.recordSeeding (by decide), Frame.foldl]
  · exact Frame.refl _ _
  · intro v k
    split
    · simp (disch := first | decide | rfl | (intros; (repeat' (first | simp (disch := first | decide | rfl | (intros; (repeat' (first | simp (disch := decide) only [↓Frame.putTracker, ↓Frame.recordSeeding, ↓Frame.showOsc, ↓Frame.ite, ↓Frame.foldl, ↓Frame.foldlFst, Frame.refl, ite_self, ok, refuse, apply_ite CmdResult.state, apply_ite Prod.fst, apply_ite Prod.snd] | split)); done)) only [↓Frame.putTracker, ↓Frame.recordSeeding, ↓Frame.showOsc, ↓Frame.ite, ↓Frame.foldl, ↓Frame.foldlFst, Frame.refl, ite_self, ok, refuse, apply_ite CmdResult.state, apply_ite Prod.fst, apply_ite Prod.snd] | split)); done)) only [↓Frame.putTracker, Frame.refl]
    · exact Frame.refl _ _

theorem Frame.takeHead {m : Nat} {s u : State} {x1 : ℕ} {x2 : SlvCell} (k : 0x100408d0 ||| m = m) : Frame m s (State.takeHead u x1 x2) ↔ Frame m s u := by
  refine Frame.thru (m := 0x100408d0) ?_ k
  unfold State.takeHead
  simp (disch := decide) only [↓Frame.count, ↓Frame.cutEarlier, ↓Frame.event, ↓Frame.freeHere, ↓Frame.noteTag, ↓Frame.passOn, ↓Frame.putFlow, ↓Frame.raise, ↓Frame.toRx, ↓Frame.ite, Frame.refl, ite_self]

theorem Frame.takeData {m : Nat} {s u : State} {x1 : ℕ} {x2 : SlvCell} (k : 0x100408d0 ||| m = m) : Frame m s (State.takeData u x1 x2) ↔ Frame m s u := by
  refine Frame.thru (m := 0x100408d0) ?_ k
  unfold State.takeData
  repeat' (first | simp (disch := first | decide | rfl | (intros; simp (disch := first | decide | rfl | (intros; simp (disch := decide) only [↓Frame.checkEntry, ↓Frame.dropFlow, ↓Frame.freeHere, ↓Frame.passOn, ↓Frame.putFlow, ↓Frame.toRx, ↓Frame.ite, ↓Frame.foldl, ↓Frame.foldlFst, Frame.refl, ite_self, ok, refuse, apply_ite CmdResult.state, apply_ite Prod.fst, apply_ite Prod.snd])) only [↓Frame.checkEntry, ↓Frame.dropFlow, ↓Frame.freeHere, ↓Frame.passOn, ↓Frame.putFlow, ↓Frame.toRx, ↓Frame.ite, ↓Frame.foldl, ↓Frame.foldlFst, Frame.refl, ite_self, ok, refuse, apply_ite CmdResult.state, apply_ite Prod.fst, apply_ite Prod.snd])) only [↓Frame.dropFlow, ↓Frame.freeHere, ↓Frame.passOn, ↓Frame.putFlow, ↓Frame.toRx, ↓Frame.ite, ↓Frame.foldlFst, Frame.refl, ite_self] | split)

theorem Frame.takeArm {m : Nat} {s u : State} {x1 : ℕ} {x2 : SlvCell} (k : 0x300008d0 ||| m = m) : Frame m s (State.takeArm u x1 x2) ↔ Frame m s u := by
  refine Frame.thru (m := 0x300008d0) ?_ k
  unfold State.takeArm
  simp (disch := decide) only [↓Frame.count, ↓Frame.freeHere, ↓Frame.remoteCapt, ↓Frame.setSlv, ↓Frame.spread, ↓Frame.ite, Frame.refl, ite_self]

theorem Frame.takeCell {m : Nat} {s u : State} {x1 : ℕ} {x2 : SlvCell} {x3 : Bool} {x4 : ℕ} (k : 0x300488d0 ||| m = m) : Frame m s (State.takeCell u x1 x2 x3 x4) ↔ Frame m s u := by
  refine Frame.thru (m := 0x300488d0) ?_ k
  unfold State.takeCell
  simp (disch := decide) only [↓Frame.count, ↓Frame.event, ↓Frame.freeHere, ↓Frame.raise, ↓Frame.takeArm, ↓Frame.takeData, ↓Frame.takeHead, ↓Frame.transient, ↓Frame.ite, Frame.refl, ite_self]

theorem State.takeHeld_frame (u : State) (x1 x2 : ℕ) : Frame 0x300488d0 u (State.takeHeld x1 x2 u) := by
  induction x1 generalizing u x2 with
  | zero => exact Frame.refl _ _
  | succ n ih =>
    have ih' : ∀ s u (x2 : Nat), Frame 0x300488d0 s (State.takeHeld n x2 u) ↔ Frame 0x300488d0 s u := fun s u x2 => (ih u x2).thru (Nat.or_self _)
    unfold State.takeHeld
    repeat' (first | simp (disch := first | decide | rfl | (intros; (repeat' (first | simp (disch := first | decide | rfl | (intros; (repeat' (first | simp (disch := decide) only [ih', ↓Frame.putLink, ↓Frame.takeCell, ↓Frame.ite, ↓Frame.foldl, ↓Frame.foldlFst, Frame.refl, ite_self, ok, refuse, apply_ite CmdResult.state, apply_ite Prod.fst, apply_ite Prod.snd] | split)); done)) only [ih', ↓Frame.putLink, ↓Frame.takeCell, ↓Frame.ite, ↓Frame.foldl, ↓Frame.foldlFst, Frame.refl, ite_self, ok, refuse, apply_ite CmdResult.state, apply_ite Prod.fst, apply_ite Prod.snd] | split)); done)) only [ih', ↓Frame.putLink, ↓Frame.takeCell, Frame.refl] | split)
theorem Frame.takeHeld {m : Nat} {s u : State} {x1 x2 : ℕ} (k : 0x300488d0 ||| m = m) : Frame m s (State.takeHeld x1 x2 u) ↔ Frame m s u :=
  (State.takeHeld_frame u x1 x2).thru k

theorem Frame.sequenced {m : Nat} {s u : State} {x1 : ℕ} {x2 : List Byte} (k : 0x300488d0 ||| m = m) : Frame m s (State.sequenced u x1 x2) ↔ Frame m s u := by
  refine Frame.thru (m := 0x300488d0) ?_ k
  unfold State.sequenced
  simp (disch := decide) only [↓Frame.putLink, ↓Frame.takeCell, ↓Frame.takeHeld, ↓Frame.ite, Frame.refl, ite_self]

theorem Frame.serve {m : Nat} {s u : State} {x1 : Stalled} (k : 0x3bff2ffff8 ||| m = m) : Frame m s (State.serve u x1) ↔ Frame m s u := by
  refine Frame.thru (m := 0x3bff2ffff8) ?_ k
  unfold State.serve
  repeat' (first | simp (disch := decide) only [↓Frame.answerRead, ↓Frame.emit, ↓Frame.monAnswer, ↓Frame.monNote, ↓Frame.monRead, ↓Frame.monStacks, ↓Frame.say, ↓Frame.stkStore, ↓Frame.writeReg, ↓Frame.ite, Frame.refl, ite_self] | split)

theorem Frame.sessionAsdu {m : Nat} {s u : State} {x1 : HedFrame} {x2 : ℕ} {x3 : List Byte} {x4 : Bool} {x5 : List (ℕ × List Byte)} (k : 0x166008d0 ||| m = m) : Frame m s (State.sessionAsdu u x1 x2 x3 x4 x5) ↔ Frame m s u := by
  refine Frame.thru (m := 0x166008d0) ?_ k
  unfold State.sessionAsdu
  repeat' (first | simp (disch := first | decide | rfl | (intros; simp (disch := first | decide | rfl | (intros; simp (disch := decide) only [↓Frame.count, ↓Frame.judge, ↓Frame.putStream, ↓Frame.setReedQ, ↓Frame.streamUp, ↓Frame.underHold, ↓Frame.ite, ↓Frame.foldl, ↓Frame.foldlFst, Frame.refl, ite_self, ok, refuse, apply_ite CmdResult.state, apply_ite Prod.fst, apply_ite Prod.snd])) only [↓Frame.count, ↓Frame.judge, ↓Frame.putStream, ↓Frame.setReedQ, ↓Frame.streamUp, ↓Frame.underHold, ↓Frame.ite, ↓Frame.foldl, ↓Frame.foldlFst, Frame.refl, ite_self, ok, refuse, apply_ite CmdResult.state, apply_ite Prod.fst, apply_ite Prod.snd])) only [↓Frame.count, ↓Frame.putStream, ↓Frame.underHold, ↓Frame.ite, Frame.refl, ite_self] | split)

theorem Frame.sessionAuth {m : Nat} {s u : State} {x1 : ℕ} {x2 : List Byte} {x3 : Session} {x4 : Option ℕ} (k : 0x102008d0 ||| m = m) : Frame m s (State.sessionAuth u x1 x2 x3 x4) ↔ Frame m s u := by
  refine Frame.thru (m := 0x102008d0) ?_ k
  unfold State.sessionAuth
  repeat' (first | simp (disch := decide) only [↓Frame.count, ↓Frame.event, ↓Frame.putStream, ↓Frame.raise, ↓Frame.ite, Frame.refl, ite_self] | split)

theorem Frame.sessionTaken {m : Nat} {s u : State} {x1 : HedFrame} {x2 : ℕ} {x3 : List Byte} {x4 : Session} {x5 : List (List (ℕ × List Byte))} (k : 0x166008d0 ||| m = m) : Frame m s (State.sessionTaken u x1 x2 x3 x4 x5) ↔ Frame m s u := by
  refine Frame.thru (m := 0x166008d0) ?_ k
  unfold State.sessionTaken
  repeat' (first | simp (disch := first | decide | rfl | (intros; simp (disch := first | decide | rfl | (intros; simp (disch := decide) only [↓Frame.count, ↓Frame.frameSeen, ↓Frame.raise, ↓Frame.sessionAsdu, ↓Frame.sessionAuth, ↓Frame.ite, ↓Frame.foldl, ↓Frame.foldlFst, Frame.refl, ite_self, ok, refuse, apply_ite CmdResult.state, apply_ite Prod.fst, apply_ite Prod.snd])) only [↓Frame.count, ↓Frame.frameSeen, ↓Frame.raise, ↓Frame.sessionAsdu, ↓Frame.sessionAuth, ↓Frame.ite, ↓Frame.foldl, ↓Frame.foldlFst, Frame.refl, ite_self, ok, refuse, apply_ite CmdResult.state, apply_ite Prod.fst, apply_ite Prod.snd])) only [↓Frame.count, ↓Frame.frameSeen, ↓Frame.raise, ↓Frame.sessionAuth, ↓Frame.ite, ↓Frame.foldl, Frame.refl, ite_self] | split)

theorem Frame.sessionRead {m : Nat} {s u : State} {x1 : HedFrame} {x2 : Session} (k : 0x166408d0 ||| m = m) : Frame m s (State.sessionRead u x1 x2) ↔ Frame m s u := by
  refine Frame.thru (m := 0x166408d0) ?_ k
  unfold State.sessionRead
  repeat' (first | simp (disch := decide) only [↓Frame.count, ↓Frame.sessionTaken, ↓Frame.unknownStream, ↓Frame.ite, Frame.refl, ite_self] | split)

theorem Frame.sessionPdu {m : Nat} {s u : State} (k : 0x167408d0 ||| m = m) : Frame m s (State.sessionPdu u) ↔ Frame m s u := by
  refine Frame.thru (m := 0x167408d0) ?_ k
  unfold State.sessionPdu
  repeat' (first | simp (disch := decide) only [↓Frame.sessionRead, ↓Frame.setHedQ, ↓Frame.ite, Frame.refl, ite_self] | split)

theorem Frame.setDeadline {m : Nat} {s u : State} {x1 : ℕ} (k : 0x39040cd0 ||| m = m) : Frame m s (State.setDeadline u x1) ↔ Frame m s u := by
  refine Frame.thru (m := 0x39040cd0) ?_ k
  unfold State.setDeadline
  simp (disch := decide) only [↓Frame.deliverLattice, ↓Frame.evalLattice, ↓Frame.ite, Frame.refl, ite_self]

theorem Frame.setFlush {m : Nat} {s u : State} {x1 : Path} {x2 : ℕ} (k : 0x100608d0 ||| m = m) : Frame m s (State.setFlush u x1 x2) ↔ Frame m s u := by
  refine Frame.thru (m := 0x100608d0) ?_ k
  unfold State.setFlush
  repeat' (first | simp (disch := first | decide | rfl | (intros; simp (disch := first | decide | rfl | (intros; simp (disch := decide) only [↓Frame.access, ↓Frame.flushQueue, ↓Frame.ite, ↓Frame.foldl, ↓Frame.foldlFst, Frame.refl, ite_self, ok, refuse, apply_ite CmdResult.state, apply_ite Prod.fst, apply_ite Prod.snd])) only [↓Frame.access, ↓Frame.flushQueue, ↓Frame.ite, ↓Frame.foldl, ↓Frame.foldlFst, Frame.refl, ite_self, ok, refuse, apply_ite CmdResult.state, apply_ite Prod.fst, apply_ite Prod.snd])) only [↓Frame.access, ↓Frame.ite, Frame.refl, ite_self] | split)

theorem Frame.setOnce {m : Nat} {s u : State} {x1 : Path} {x2 : Fld} (k : 0x100208d0 ||| m = m) : Frame m s (State.setOnce u x1 x2) ↔ Frame m s u := by
  refine Frame.thru (m := 0x100208d0) ?_ k
  unfold State.setOnce
  repeat' (first | simp (disch := first | decide | rfl | (intros; simp (disch := first | decide | rfl | (intros; simp (disch := decide) only [↓Frame.access, ↓Frame.putFld, ↓Frame.ite, ↓Frame.foldl, ↓Frame.foldlFst, Frame.refl, ite_self, ok, refuse, apply_ite CmdResult.state, apply_ite Prod.fst, apply_ite Prod.snd])) only [↓Frame.access, ↓Frame.putFld, ↓Frame.ite, ↓Frame.foldl, ↓Frame.foldlFst, Frame.refl, ite_self, ok, refuse, apply_ite CmdResult.state, apply_ite Prod.fst, apply_ite Prod.snd])) only [↓Frame.access, Frame.refl] | split)

theorem Frame.shapeReport {m : Nat} {s u : State} {x1 : ℕ} (k : 0x900418d0 ||| m = m) : Frame m s (State.shapeReport u x1) ↔ Frame m s u := by
  refine Frame.thru (m := 0x900418d0) ?_ k
  unfold State.shapeReport
  simp (disch := decide) only [↓Frame.burst, ↓Frame.commit, ↓Frame.count, ↓Frame.draw, ↓Frame.endBurst, ↓Frame.putShape, ↓Frame.raise, ↓Frame.ite, Frame.refl, ite_self]

theorem Frame.silence {m : Nat} {s u : State} {x1 : ℕ} (k : 0x162008d0 ||| m = m) : Frame m s (State.silence u x1) ↔ Frame m s u := by
  refine Frame.thru (m := 0x162008d0) ?_ k
  unfold State.silence
  simp (disch := decide) only [↓Frame.event, ↓Frame.raise, ↓Frame.reedDown, ↓Frame.setStream, ↓Frame.ite, Frame.refl, ite_self]

theorem Frame.slotStarts {m : Nat} {s u : State} {x1 : ℕ} (k : 0x39040dd0 ||| m = m) : Frame m s (State.slotStarts u x1) ↔ Frame m s u := by
  refine Frame.thru (m := 0x39040dd0) ?_ k
  unfold State.slotStarts
  repeat' (first | simp (disch := decide) only [↓Frame.loomRun, ↓Frame.makeRoom, ↓Frame.openSlot, ↓Frame.skipSlots, ↓Frame.ite, Frame.refl, ite_self] | split)

theorem Frame.slotish {m : Nat} {s u : State} {x1 : ℕ} {x2 : List Byte} {x3 : List ℕ} (k : 0x300488d0 ||| m = m) : Frame m s (State.slotish u x1 x2 x3) ↔ Frame m s u := by
  refine Frame.thru (m := 0x300488d0) ?_ k
  unfold State.slotish
  repeat' (first | simp (disch := first | decide | rfl | (intros; simp (disch := first | decide | rfl | (intros; simp (disch := decide) only [↓Frame.onCell, ↓Frame.sequenced, ↓Frame.ite, ↓Frame.foldl, ↓Frame.foldlFst, Frame.refl, ite_self, ok, refuse, apply_ite CmdResult.state, apply_ite Prod.fst, apply_ite Prod.snd])) only [↓Frame.onCell, ↓Frame.sequenced, ↓Frame.ite, ↓Frame.foldl, ↓Frame.foldlFst, Frame.refl, ite_self, ok, refuse, apply_ite CmdResult.state, apply_ite Prod.fst, apply_ite Prod.snd])) only [↓Frame.onCell, Frame.refl] | split)

theorem Frame.sourceTimeout {m : Nat} {s u : State} {x1 : ℕ} (k : 0x2100079d0 ||| m = m) : Frame m s (State.sourceTimeout u x1) ↔ Frame m s u := by
  refine Frame.thru (m := 0x2100079d0) ?_ k
  unfold State.sourceTimeout
  simp (disch := decide) only [↓Frame.disqualify, ↓Frame.ite, Frame.refl, ite_self]

theorem Frame.srCmd {m : Nat} {s u : State} {x1 x2 : ℕ} {x3 : Option ℕ} (k : 0x100208d0 ||| m = m) : Frame m s (State.srCmd u x1 x2 x3) ↔ Frame m s u := by
  refine Frame.thru (m := 0x100208d0) ?_ k
  unfold State.srCmd
  repeat' (first | simp (disch := first | decide | rfl | (intros; simp (disch := first | decide | rfl | (intros; simp (disch := decide) only [↓Frame.hostErr, ↓Frame.monErr, ↓Frame.monStacks, ↓Frame.say, ↓Frame.stall, ↓Frame.ite, ↓Frame.foldl, ↓Frame.foldlFst, Frame.refl, ite_self, ok, refuse, apply_ite CmdResult.state, apply_ite Prod.fst, apply_ite Prod.snd])) only [↓Frame.hostErr, ↓Frame.monErr, ↓Frame.monStacks, ↓Frame.say, ↓Frame.stall, ↓Frame.ite, ↓Frame.foldl, ↓Frame.foldlFst, Frame.refl, ite_self, ok, refuse, apply_ite CmdResult.state, apply_ite Prod.fst, apply_ite Prod.snd])) only [↓Frame.hostErr, ↓Frame.monErr, ↓Frame.monStacks, ↓Frame.stall, ↓Frame.ite, ↓Frame.foldl, Frame.refl, ite_self] | split)

theorem Frame.takeSwitch {m : Nat} {s u : State} {x1 : Option Obj} {x2 : Option SwitchReq} {x3 : ℕ} (k : 0x27ffdfdd8 ||| m = m) : Frame m s (State.takeSwitch u x1 x2 x3) ↔ Frame m s u := by
  refine Frame.thru (m := 0x27ffdfdd8) ?_ k
  unfold State.takeSwitch
  repeat' (first | simp (disch := decide) only [↓Frame.changeConfig, ↓Frame.changeMode, ↓Frame.count, ↓Frame.event, ↓Frame.loomRun, ↓Frame.putFld, ↓Frame.raise, ↓Frame.setDraft, ↓Frame.showSwitch, ↓Frame.switchDone, ↓Frame.updatePins, ↓Frame.ite, Frame.refl, ite_self] | split)

theorem Frame.stagingComplete {m : Nat} {s u : State} (k : 0x27ffdfdd8 ||| m = m) : Frame m s (State.stagingComplete u) ↔ Frame m s u := by
  refine Frame.thru (m := 0x27ffdfdd8) ?_ k
  unfold State.stagingComplete
  repeat' (first | simp (disch := decide) only [↓Frame.takeSwitch, ↓Frame.ite, Frame.refl, ite_self] | split)

theorem Frame.supervise {m : Nat} {s u : State} {x1 : ℕ} (k : 0x80810 ||| m = m) : Frame m s (State.supervise u x1) ↔ Frame m s u := by
  refine Frame.thru (m := 0x80810) ?_ k
  unfold State.supervise
  simp (disch := decide) only [↓Frame.setPort, ↓Frame.transmitPrp, ↓Frame.ite, Frame.refl, ite_self]

theorem Frame.supplyLevel {m : Nat} {s u : State} {x1 x2 : ℕ} (k : 0x100288d0 ||| m = m) : Frame m s (State.supplyLevel u x1 x2) ↔ Frame m s u := by
  refine Frame.thru (m := 0x100288d0) ?_ k
  unfold State.supplyLevel
  repeat' (first | simp (disch := decide) only [↓Frame.count, ↓Frame.droopEvent, ↓Frame.putFld, ↓Frame.putSupply, ↓Frame.raise, ↓Frame.setPower, ↓Frame.transient, ↓Frame.ite, Frame.refl, ite_self] | split)

theorem Frame.surpriseDown {m : Nat} {s u : State} {x1 : List Byte} {x2 : ℕ} (k : 0x2258017dd8 ||| m = m) : Frame m s (State.surpriseDown u x1 x2) ↔ Frame m s u := by
  refine Frame.thru (m := 0x2258017dd8) ?_ k
  unfold State.surpriseDown
  simp (disch := decide) only [↓Frame.endpointReset, ↓Frame.ite, Frame.refl, ite_self]

theorem Frame.svAsdu {m : Nat} {s u : State} {x1 : HedFrame} {x2 : ℕ} {x3 : List Byte} {x4 : List (ℕ × List Byte)} (k : 0x16a008d0 ||| m = m) : Frame m s (State.svAsdu u x1 x2 x3 x4) ↔ Frame m s u := by
  refine Frame.thru (m := 0x16a008d0) ?_ k
  unfold State.svAsdu
  repeat' (first | simp (disch := first | decide | rfl | (intros; simp (disch := first | decide | rfl | (intros; simp (disch := decide) only [↓Frame.count, ↓Frame.judge, ↓Frame.putStream, ↓Frame.setWaveQ, ↓Frame.streamUp, ↓Frame.underHold, ↓Frame.ite, ↓Frame.foldl, ↓Frame.foldlFst, Frame.refl, ite_self, ok, refuse, apply_ite CmdResult.state, apply_ite Prod.fst, apply_ite Prod.snd])) only [↓Frame.count, ↓Frame.judge, ↓Frame.putStream, ↓Frame.setWaveQ, ↓Frame.streamUp, ↓Frame.underHold, ↓Frame.ite, ↓Frame.foldl, ↓Frame.foldlFst, Frame.refl, ite_self, ok, refuse, apply_ite CmdResult.state, apply_ite Prod.fst, apply_ite Prod.snd])) only [↓Frame.count, ↓Frame.putStream, ↓Frame.underHold, ↓Frame.ite, Frame.refl, ite_self] | split)

theorem Frame.svFrame {m : Nat} {s u : State} (k : 0x16b408d0 ||| m = m) : Frame m s (State.svFrame u) ↔ Frame m s u := by
  refine Frame.thru (m := 0x16b408d0) ?_ k
  unfold State.svFrame
  repeat' (first | simp (disch := first | decide | rfl | (intros; simp (disch := first | decide | rfl | (intros; simp (disch := decide) only [↓Frame.count, ↓Frame.frameSeen, ↓Frame.setHedQ, ↓Frame.svAsdu, ↓Frame.unknownStream, ↓Frame.ite, ↓Frame.foldl, ↓Frame.foldlFst, Frame.refl, ite_self, ok, refuse, apply_ite CmdResult.state, apply_ite Prod.fst, apply_ite Prod.snd])) only [↓Frame.count, ↓Frame.frameSeen, ↓Frame.setHedQ, ↓Frame.svAsdu, ↓Frame.unknownStream, ↓Frame.ite, ↓Frame.foldl, ↓Frame.foldlFst, Frame.refl, ite_self, ok, refuse, apply_ite CmdResult.state, apply_ite Prod.fst, apply_ite Prod.snd])) only [↓Frame.count, ↓Frame.frameSeen, ↓Frame.setHedQ, ↓Frame.unknownStream, ↓Frame.ite, ↓Frame.foldl, Frame.refl, ite_self] | split)

theorem Frame.switchSlot {m : Nat} {s u : State} (k : 0x27ffdfdd8 ||| m = m) : Frame m s (State.switchSlot u) ↔ Frame m s u := by
  refine Frame.thru (m := 0x27ffdfdd8) ?_ k
  unfold State.switchSlot
  repeat' (first | simp (disch := decide) only [↓Frame.takeSwitch, ↓Frame.ite, Frame.refl, ite_self] | split)

theorem Frame.takeCapt {m : Nat} {s u : State} {x1 : List Byte} (k : 0x300008d0 ||| m = m) : Frame m s (State.takeCapt u x1) ↔ Frame m s u := by
  refine Frame.thru (m := 0x300008d0) ?_ k
  unfold State.takeCapt
  simp (disch := decide) only [↓Frame.armRegion, ↓Frame.disarmRegion, ↓Frame.putCapt, ↓Frame.triggerRegion, ↓Frame.ite, Frame.refl, ite_self]

theorem Frame.takeCkpt {m : Nat} {s u : State} {x1 : List Byte} (k : 0x900108d0 ||| m = m) : Frame m s (State.takeCkpt u x1) ↔ Frame m s u := by
  refine Frame.thru (m := 0x900108d0) ?_ k
  unfold State.takeCkpt
  simp (disch := decide) only [↓Frame.seedFromPartner, ↓Frame.setOsc, ↓Frame.setPair, Frame.refl]

theorem Frame.takeCmd {m : Nat} {s u : State} (k : 0x100008d0 ||| m = m) : Frame m s (State.takeCmd u) ↔ Frame m s u := by
  refine Frame.thru (m := 0x100008d0) ?_ k
  unfold State.takeCmd
  simp (disch := decide) only [↓Frame.changeOwner, ↓Frame.monOk, ↓Frame.monRefuse, ↓Frame.ite, Frame.refl, ite_self]

theorem Frame.takeEnergy {m : Nat} {s u : State} {x1 : List Byte} (k : 0x10000 ||| m = m) : Frame m s (State.takeEnergy u x1) ↔ Frame m s u := by
  refine Frame.thru (m := 0x10000) ?_ k
  unfold State.takeEnergy
  simp (disch := decide) only [↓Frame.setPair, Frame.refl]

theorem Frame.ofTakeItems {m : Nat} {s : State} (f : State → List Byte → State) (h : ∀ u x, Frame m u (f u x)) (size : Nat) (l : List Byte) (n : Nat) :
    ∀ (off : Nat) (u : State), Frame m s (takeItems f size l off n u) ↔ Frame m s u := by
  induction n with
  | zero => intro off u; rfl
  | succ n ih => intro off u; exact (ih _ _).trans ((h u _).thru (Nat.or_self m))

theorem Frame.takeLatch {m : Nat} {s u : State} {x1 : List Byte} (k : 0x200004810 ||| m = m) : Frame m s (State.takeLatch u x1) ↔ Frame m s u := by
  refine Frame.thru (m := 0x200004810) ?_ k
  unfold State.takeLatch
  repeat' (first | simp (disch := first | decide | rfl | (intros; simp (disch := first | decide | rfl | (intros; simp (disch := decide) only [↓Frame.setLane, ↓Frame.showPoint, ↓Frame.updatePins, ↓Frame.ite, ↓Frame.foldl, ↓Frame.foldlFst, Frame.refl, ite_self, ok, refuse, apply_ite CmdResult.state, apply_ite Prod.fst, apply_ite Prod.snd])) only [↓Frame.setLane, ↓Frame.showPoint, ↓Frame.updatePins, ↓Frame.ite, ↓Frame.foldl, ↓Frame.foldlFst, Frame.refl, ite_self, ok, refuse, apply_ite CmdResult.state, apply_ite Prod.fst, apply_ite Prod.snd])) only [↓Frame.showPoint, ↓Frame.updatePins, ↓Frame.ite, ↓Frame.foldl, Frame.refl, ite_self] | split)

theorem Frame.takeGoose {m : Nat} {s u : State} {x1 : List Byte} (k : 0x10000 ||| m = m) : Frame m s (State.takeGoose u x1) ↔ Frame m s u := by
  refine Frame.thru (m := 0x10000) ?_ k
  unfold State.takeGoose
  simp (disch := decide) only [↓Frame.setPair, Frame.refl]

theorem Frame.takeIntent {m : Nat} {s u : State} {x1 : List Byte} (k : 0x10 ||| m = m) : Frame m s (State.takeIntent u x1) ↔ Frame m s u := by
  refine Frame.thru (m := 0x10) ?_ k
  unfold State.takeIntent
  simp (disch := decide) only [↓Frame.count, ↓Frame.putPair, ↓Frame.ite, Frame.refl, ite_self]

theorem Frame.takeFull {m : Nat} {s u : State} {x1 : List Byte} (k : 0x2300148d0 ||| m = m) : Frame m s (State.takeFull u x1) ↔ Frame m s u := by
  refine Frame.thru (m := 0x2300148d0) ?_ k
  unfold State.takeFull
  repeat' (first | simp (disch := first | decide | rfl | (intros; (repeat' (first | simp (disch := first | decide | rfl | (intros; (repeat' (first | simp (disch := decide) only [↓Frame.ofTakeItems, ↓Frame.takeCapt, ↓Frame.takeGoose, ↓Frame.takeIntent, ↓Frame.takeLatch, ↓Frame.ite, ↓Frame.foldl, ↓Frame.foldlFst, Frame.refl, ite_self, ok, refuse, apply_ite CmdResult.state, apply_ite Prod.fst, apply_ite Prod.snd] | split)); done)) only [↓Frame.ofTakeItems, ↓Frame.takeCapt, ↓Frame.takeGoose, ↓Frame.takeIntent, ↓Frame.takeLatch, ↓Frame.ite, ↓Frame.foldl, ↓Frame.foldlFst, Frame.refl, ite_self, ok, refuse, apply_ite CmdResult.state, apply_ite Prod.fst, apply_ite Prod.snd] | split)); done)) only [↓Frame.ofTakeItems, Frame.refl] | split)

theorem Frame.takeLedger {m : Nat} {s u : State} {x1 : List Byte} (k : 0x10000 ||| m = m) : Frame m s (State.takeLedger u x1) ↔ Frame m s u := by
  refine Frame.thru (m := 0x10000) ?_ k
  unfold State.takeLedger
  simp (disch := decide) only [↓Frame.setPair, Frame.refl]

theorem Frame.todSentence {m : Nat} {s u : State} {x1 : ℕ} {x2 : Bool} (k : 0x2180079d8 ||| m = m) : Frame m s (State.todSentence u x1 x2) ↔ Frame m s u := by
  refine Frame.thru (m := 0x2180079d8) ?_ k
  unfold State.todSentence
  simp (disch := decide) only [↓Frame.disqualify, ↓Frame.putSrc, ↓Frame.sample, ↓Frame.ite, Frame.refl, ite_self]

theorem Frame.trackerStale {m : Nat} {s u : State} {x1 : ℕ} (k : 0x900008d0 ||| m = m) : Frame m s (State.trackerStale u x1) ↔ Frame m s u := by
  refine Frame.thru (m := 0x900008d0) ?_ k
  unfold State.trackerStale
  simp (disch := decide) only [↓Frame.showOsc, ↓Frame.stale, ↓Frame.ite, Frame.refl, ite_self]

theorem Frame.trainCell {m : Nat} {s u : State} {x1 : ℕ} {x2 : List Byte} (k : 0x100008d0 ||| m = m) : Frame m s (State.trainCell u x1 x2) ↔ Frame m s u := by
  refine Frame.thru (m := 0x100008d0) ?_ k
  unfold State.trainCell
  repeat' (first | simp (disch := first | decide | rfl | (intros; simp (disch := first | decide | rfl | (intros; simp (disch := decide) only [↓Frame.event, ↓Frame.matched, ↓Frame.onCell, ↓Frame.putBeat, ↓Frame.putFld, ↓Frame.putLink, ↓Frame.putLinkState, ↓Frame.putTrain, ↓Frame.ite, ↓Frame.foldl, ↓Frame.foldlFst, Frame.refl, ite_self, ok, refuse, apply_ite CmdResult.state, apply_ite Prod.fst, apply_ite Prod.snd])) only [↓Frame.event, ↓Frame.matched, ↓Frame.onCell, ↓Frame.putBeat, ↓Frame.putFld, ↓Frame.putLink, ↓Frame.putLinkState, ↓Frame.putTrain, ↓Frame.ite, ↓Frame.foldl, ↓Frame.foldlFst, Frame.refl, ite_self, ok, refuse, apply_ite CmdResult.state, apply_ite Prod.fst, apply_ite Prod.snd])) only [↓Frame.onCell, Frame.refl] | split)

theorem Frame.truncationTimeout {m : Nat} {s u : State} {x1 x2 : ℕ} (k : 0x100408d0 ||| m = m) : Frame m s (State.truncationTimeout u x1 x2) ↔ Frame m s u := by
  refine Frame.thru (m := 0x100408d0) ?_ k
  unfold State.truncationTimeout
  repeat' (first | simp (disch := decide) only [↓Frame.truncate, Frame.refl] | split)

theorem Frame.uartEnds {m : Nat} {s u : State} {x1 : UartLoad} {x2 : ℕ} (k : 0x2258017dd8 ||| m = m) : Frame m s (State.uartEnds u x1 x2) ↔ Frame m s u := by
  refine Frame.thru (m := 0x2258017dd8) ?_ k
  unfold State.uartEnds
  repeat' (first | simp (disch := decide) only [↓Frame.event, ↓Frame.loadUnread, ↓Frame.putFld, ↓Frame.setHost, ↓Frame.ite, Frame.refl] | split)

theorem Frame.uartIdle {m : Nat} {s u : State} (k : 0x2000000010 ||| m = m) : Frame m s (State.uartIdle u) ↔ Frame m s u := by
  refine Frame.thru (m := 0x2000000010) ?_ k
  unfold State.uartIdle
  simp (disch := decide) only [↓Frame.putFld, ↓Frame.setHost, ↓Frame.ite, Frame.refl, ite_self]

theorem Frame.uartSilent {m : Nat} {s u : State} (k : 0x2258017dd8 ||| m = m) : Frame m s (State.uartSilent u) ↔ Frame m s u := by
  refine Frame.thru (m := 0x2258017dd8) ?_ k
  unfold State.uartSilent
  repeat' (first | simp (disch := decide) only [↓Frame.uartEnds, ↓Frame.uartIdle, ↓Frame.ite, Frame.refl, ite_self] | split)

theorem Frame.uartTake {m : Nat} {s u : State} {x1 : List Byte} {x2 : ℕ} (k : 0x2258017dd8 ||| m = m) : Frame m s (State.uartTake u x1 x2) ↔ Frame m s u := by
  refine Frame.thru (m := 0x2258017dd8) ?_ k
  unfold State.uartTake
  repeat' (first | simp (disch := decide) only [↓Frame.emit, ↓Frame.setHost, ↓Frame.uartEnds, ↓Frame.uartIdle, ↓Frame.ite, Frame.refl, ite_self] | split)

theorem Frame.wakeFails {m : Nat} {s u : State} {x1 x2 : ℕ} (k : 0x225807fdd8 ||| m = m) : Frame m s (State.wakeFails u x1 x2) ↔ Frame m s u := by
  refine Frame.thru (m := 0x225807fdd8) ?_ k
  unfold State.wakeFails
  repeat' (first | simp (disch := first | decide | rfl | (intros; simp (disch := first | decide | rfl | (intros; simp (disch := decide) only [↓Frame.lasting, ↓Frame.restoreFailed, ↓Frame.setPower, ↓Frame.ite, ↓Frame.foldl, ↓Frame.foldlFst, Frame.refl, ite_self, ok, refuse, apply_ite CmdResult.state, apply_ite Prod.fst, apply_ite Prod.snd])) only [↓Frame.lasting, ↓Frame.restoreFailed, ↓Frame.setPower, ↓Frame.ite, ↓Frame.foldl, ↓Frame.foldlFst, Frame.refl, ite_self, ok, refuse, apply_ite CmdResult.state, apply_ite Prod.fst, apply_ite Prod.snd])) only [↓Frame.lasting, ↓Frame.setPower, ↓Frame.ite, ↓Frame.foldl, Frame.refl, ite_self] | split)

theorem Frame.wakeDone {m : Nat} {s u : State} {x1 : ℕ} {x2 : Bool} (k : 0x3bfffffff8 ||| m = m) : Frame m s (State.wakeDone u x1 x2) ↔ Frame m s u := by
  refine Frame.thru (m := 0x3bfffffff8) ?_ k
  unfold State.wakeDone
  repeat' (first | simp (disch := first | decide | rfl | (intros; simp (disch := first | decide | rfl | (intros; simp (disch := decide) only [↓Frame.deny, ↓Frame.domainWoken, ↓Frame.release, ↓Frame.requestDue, ↓Frame.serve, ↓Frame.wakeFails, ↓Frame.ite, ↓Frame.foldl, ↓Frame.foldlFst, Frame.refl, ite_self, ok, refuse, apply_ite CmdResult.state, apply_ite Prod.fst, apply_ite Prod.snd])) only [↓Frame.deny, ↓Frame.domainWoken, ↓Frame.release, ↓Frame.requestDue, ↓Frame.serve, ↓Frame.wakeFails, ↓Frame.ite, ↓Frame.foldl, ↓Frame.foldlFst, Frame.refl, ite_self, ok, refuse, apply_ite CmdResult.state, apply_ite Prod.fst, apply_ite Prod.snd])) only [↓Frame.domainWoken, ↓Frame.release, ↓Frame.requestDue, ↓Frame.wakeFails, ↓Frame.ite, Frame.refl, ite_self] | split)

theorem Frame.warmEnd {m : Nat} {s u : State} (k : 0x3bfffffff8 ||| m = m) : Frame m s (State.warmEnd u) ↔ Frame m s u := by
  refine Frame.thru (m := 0x3bfffffff8) ?_ k
  unfold State.warmEnd
  repeat' (first | simp (disch := first | decide | rfl | (intros; simp (disch := first | decide | rfl | (intros; simp (disch := decide) only [↓Frame.domainWoken, ↓Frame.raise, ↓Frame.release, ↓Frame.serve, ↓Frame.setFault, ↓Frame.setPower, ↓Frame.updateHolding, ↓Frame.ite, ↓Frame.foldl, ↓Frame.foldlFst, Frame.refl, ite_self, ok, refuse, apply_ite CmdResult.state, apply_ite Prod.fst, apply_ite Prod.snd])) only [↓Frame.domainWoken, ↓Frame.raise, ↓Frame.release, ↓Frame.serve, ↓Frame.setFault, ↓Frame.setPower, ↓Frame.updateHolding, ↓Frame.ite, ↓Frame.foldl, ↓Frame.foldlFst, Frame.refl, ite_self, ok, refuse, apply_ite CmdResult.state, apply_ite Prod.fst, apply_ite Prod.snd])) only [↓Frame.raise, ↓Frame.setFault, ↓Frame.setPower, ↓Frame.updateHolding, ↓Frame.ite, ↓Frame.foldl, Frame.refl, ite_self] | split)

theorem Frame.waveSample {m : Nat} {s u : State} (k : 0x36801cd0 ||| m = m) : Frame m s (State.waveSample u) ↔ Frame m s u := by
  refine Frame.thru (m := 0x36801cd0) ?_ k
  unfold State.waveSample
  repeat' (first | simp (disch := first | decide | rfl | (intros; simp (disch := first | decide | rfl | (intros; simp (disch := decide) only [↓Frame.captWave, ↓Frame.enterSample, ↓Frame.reedLoad, ↓Frame.runWave, ↓Frame.setWaveQ, ↓Frame.ite, ↓Frame.foldl, ↓Frame.foldlFst, Frame.refl, ite_self, ok, refuse, apply_ite CmdResult.state, apply_ite Prod.fst, apply_ite Prod.snd])) only [↓Frame.captWave, ↓Frame.enterSample, ↓Frame.reedLoad, ↓Frame.runWave, ↓Frame.setWaveQ, ↓Frame.ite, ↓Frame.foldl, ↓Frame.foldlFst, Frame.refl, ite_self, ok, refuse, apply_ite CmdResult.state, apply_ite Prod.fst, apply_ite Prod.snd])) only [↓Frame.captWave, ↓Frame.enterSample, ↓Frame.reedLoad, ↓Frame.runWave, ↓Frame.setWaveQ, Frame.refl] | split)

theorem Frame.waveWaitEnd {m : Nat} {s u : State} {x1 : ℕ} (k : 0x30000c10 ||| m = m) : Frame m s (State.waveWaitEnd u x1) ↔ Frame m s u := by
  refine Frame.thru (m := 0x30000c10) ?_ k
  unfold State.waveWaitEnd
  simp (disch := decide) only [↓Frame.captState, ↓Frame.flushRuns, ↓Frame.ite, Frame.refl, ite_self]

theorem Frame.wrCmd {m : Nat} {s u : State} {x1 x2 : ℕ} {x3 : CmdInput} (k : 0x3bff2fffd8 ||| m = m) : Frame m s (State.wrCmd u x1 x2 x3) ↔ Frame m s u := by
  refine Frame.thru (m := 0x3bff2fffd8) ?_ k
  unfold State.wrCmd
  repeat' (first | simp (disch := first | decide | rfl | (intros; simp (disch := first | decide | rfl | (intros; simp (disch := decide) only [↓Frame.monErr, ↓Frame.monOk, ↓Frame.monWrite, ↓Frame.ite, ↓Frame.foldl, ↓Frame.foldlFst, Frame.refl, ite_self, ok, refuse, apply_ite CmdResult.state, apply_ite Prod.fst, apply_ite Prod.snd])) only [↓Frame.monErr, ↓Frame.monOk, ↓Frame.monWrite, ↓Frame.ite, ↓Frame.foldl, ↓Frame.foldlFst, Frame.refl, ite_self, ok, refuse, apply_ite CmdResult.state, apply_ite Prod.fst, apply_ite Prod.snd])) only [↓Frame.monErr, ↓Frame.monWrite, ↓Frame.ite, Frame.refl, ite_self] | split)

theorem Frame.wrstPulse {m : Nat} {s u : State} {x1 : ℕ} (k : 0x227807ffd8 ||| m = m) : Frame m s (State.wrstPulse u x1) ↔ Frame m s u := by
  refine Frame.thru (m := 0x227807ffd8) ?_ k
  unfold State.wrstPulse
  simp (disch := decide) only [↓Frame.warmAsk, ↓Frame.ite, Frame.refl, ite_self]

end Sys2Proof.Machine
end

