-- ==== Sys2Proof/Laws/Memory.lean ====
section
/-!
SUPPORT. Sys2Proof/Laws/Memory.lean: what the operations over the memories do: every one keeps the canonical form, a byte that was written
reads back, and every other byte reads as before.
-/

namespace Sys2Proof.Machine

variable {α : Type}

/-! The canonical form. -/

theorem smSorted_iff (m : SMap α) : smSorted m = true ↔ m.Pairwise fun x y => x.1 < y.1 := by
  induction m with
  | nil => simp [smSorted]
  | cons x m ih =>
    obtain ⟨a, v⟩ := x
    cases m with
    | nil => simp [smSorted]
    | cons y m =>
      obtain ⟨b, w⟩ := y
      simp only [smSorted, Bool.and_eq_true, decide_eq_true_eq, ih]
      rw [List.pairwise_cons (a := (a, v))]
      refine and_congr_left fun h => ⟨fun hab z hz => ?_, fun hz => hz _ List.mem_cons_self⟩
      obtain rfl | hz := List.mem_cons.mp hz
      · exact hab
      · exact Nat.lt_trans hab ((List.pairwise_cons.mp h).1 z hz)

theorem mem_smPut {m : SMap α} {k : Nat} {v : α} {e : Nat × α} (h : e ∈ smPut m k v) : e = (k, v) ∨ e ∈ m := by
  induction m with
  | nil => simpa [smPut] using h
  | cons x m ih =>
    obtain ⟨a, w⟩ := x
    unfold smPut at h
    split at h
    · simpa using h
    · split at h
      · obtain h | h := List.mem_cons.mp h
        · exact .inl h
        · exact .inr (List.mem_cons_of_mem _ h)
      · obtain h | h := List.mem_cons.mp h
        · exact .inr (h ▸ List.mem_cons_self)
        · exact (ih h).imp_right (List.mem_cons_of_mem _)

theorem smPut_sorted {m : SMap α} (h : m.Pairwise fun x y => x.1 < y.1) (k : Nat) (v : α) :
    (smPut m k v).Pairwise fun x y => x.1 < y.1 := by
  induction m with
  | nil => simp [smPut]
  | cons x m ih =>
    obtain ⟨a, w⟩ := x
    obtain ⟨h1, h2⟩ := List.pairwise_cons.mp h
    unfold smPut
    split
    · next hk =>
      refine List.pairwise_cons.mpr ⟨fun y hy => ?_, h⟩
      obtain rfl | hy := List.mem_cons.mp hy
      · exact hk
      · exact Nat.lt_trans hk (h1 y hy)
    · split
      · next hk => exact List.pairwise_cons.mpr ⟨fun y hy => hk ▸ h1 y hy, h2⟩
      · next hk hne =>
        refine List.pairwise_cons.mpr ⟨fun y hy => ?_, ih h2⟩
        obtain rfl | hy := mem_smPut hy
        · exact Nat.lt_of_le_of_ne (Nat.le_of_not_lt hk) hne
        · exact h1 y hy

theorem wf_iff [DecidableEq α] (d : Nat → α) (m : SMap α) :
    Memory.wf d m = true ↔ (m.Pairwise fun x y => x.1 < y.1) ∧ ∀ e ∈ m, e.2 ≠ d e.1 := by
  unfold Memory.wf
  simp [smSorted_iff]

theorem wf_nil [DecidableEq α] (d : Nat → α) : Memory.wf d [] = true := rfl

theorem wf_filter [DecidableEq α] {d : Nat → α} {m : SMap α} (h : Memory.wf d m = true) (p : Nat × α → Bool) :
    Memory.wf d (m.filter p) = true := by
  rw [wf_iff] at h ⊢
  exact ⟨h.1.filter _, fun e he => h.2 e (List.mem_filter.mp he).1⟩

theorem wf_smWrite [DecidableEq α] {d : Nat → α} {m : SMap α} (h : Memory.wf d m = true) (k : Nat) (v : α) :
    Memory.wf d (smWrite (d k) m k v) = true := by
  unfold smWrite
  split
  · exact wf_filter h _
  · next hv =>
    rw [wf_iff] at h ⊢
    refine ⟨smPut_sorted h.1 k v, fun e he => ?_⟩
    obtain rfl | he := mem_smPut he
    · exact hv
    · exact h.2 e he

/-- Storing bytes keeps the canonical form. -/
theorem wf_memStore {d : Byte} (l : List Byte) : ∀ {m : SMap Byte} (a : Nat), Memory.wf (fun _ => d) m = true →
    Memory.wf (fun _ => d) (memStore d m a l) = true := by
  induction l with
  | nil => exact fun _ h => h
  | cons b l ih => exact fun a h => ih (a + 1) (wf_smWrite (d := fun _ => d) h a b)

/-- Clearing a range keeps the canonical form. -/
theorem wf_memClear {d : Nat → Byte} {m : SMap Byte} (h : Memory.wf d m = true) (a n : Nat) : Memory.wf d (memClear m a n) = true :=
  wf_filter h _

/-! What reads back. -/

theorem smFind_filter (m : SMap α) (p : Nat → Bool) (a : Nat) :
    smFind (m.filter fun e => p e.1) a = if p a then smFind m a else none := by
  induction m with
  | nil => simp [smFind]
  | cons x m ih =>
    obtain ⟨b, w⟩ := x
    by_cases hb : b = a
    · subst hb
      by_cases hp : p b = true
      · simp [hp, smFind]
      · simp [hp, ih]
    · by_cases hp : p b = true
      · simp [hp, smFind, hb, ih]
      · simp [hp, smFind, hb, ih]

/-- A read after a store. -/
theorem smGet_memStore (d : Byte) (l : List Byte) : ∀ (m : SMap Byte) (a x : Nat),
    smGet d (memStore d m a l) x = if a ≤ x ∧ x < a + l.length then l.getD (x - a) d else smGet d m x := by
  induction l with
  | nil =>
    intro m a x
    rw [if_neg (by simp only [List.length_nil]; omega)]
    rfl
  | cons b l ih =>
    intro m a x
    rw [memStore, ih, smGet_smWrite]
    simp only [List.length_cons]
    by_cases hx : a = x
    · subst hx
      rw [if_neg (by omega), if_pos rfl, if_pos (by omega)]
      simp
    · rw [if_neg hx]
      by_cases h : a + 1 ≤ x ∧ x < a + 1 + l.length
      · rw [if_pos h, if_pos (by omega)]
        obtain ⟨n, rfl⟩ : ∃ n, x = a + 1 + n := ⟨x - (a + 1), by omega⟩
        rw [show a + 1 + n - a = n + 1 by omega, show a + 1 + n - (a + 1) = n by omega]
        rfl
      · rw [if_neg h, if_neg (by omega)]

/-- A read after a range was cleared. -/
theorem smGet_memClear (d : Byte) (m : SMap Byte) (a n x : Nat) :
    smGet d (memClear m a n) x = if a ≤ x ∧ x < a + n then d else smGet d m x := by
  unfold smGet memClear
  rw [smFind_filter m (fun b => !(decide (a ≤ b) && decide (b < a + n)))]
  by_cases h : a ≤ x ∧ x < a + n
  · simp [h]
  · simp only [if_neg h]
    rw [if_pos]
    simp only [Bool.not_eq_true', Bool.and_eq_false_imp, decide_eq_true_eq, decide_eq_false_iff_not]
    omega

/-- Both memories are in their canonical form at reset. -/
theorem reset_memory_wf : Memory.wf archiveDefault State.reset.archive = true ∧ Memory.wf ramDefault State.reset.stk = true :=
  ⟨rfl, rfl⟩

end Sys2Proof.Machine
end

