-- ==== Sys2Proof/Laws/PerInstr.lean ====
section
/-!
SUPPORT. Sys2Proof/Laws/PerInstr.lean: the family Timed: the time a well-formed command carries is a value of MONO's 64 bits (R68), said
of each command.
-/

namespace Sys2Proof.Laws.Timed

/-- A well-formed command's time is a 64-bit count of ns. -/
def Statement (i : Instr) : Prop := i.wf = true → i.time < 2 ^ 64

theorem okTime_lt {t : Nat} (h : okTime t = true) : t < 2 ^ 64 := of_decide_eq_true h

theorem left {a b : Bool} (h : (a && b) = true) : a = true := by
  cases a
  · exact h
  · rfl

theorem registerWrite (t : Nat) (path : Path) (addr : Nat) (value : Word) (whole : Bool) (x : CmdInput) :
    Statement (.registerWrite t path addr value whole x) := fun h => okTime_lt (left h)
theorem lowWordRead (t : Nat) (addr : Nat) (whole : Bool) :
    Statement (.lowWordRead t addr whole) := fun h => okTime_lt (left h)
theorem irqSet (t : Nat) (path : Path) (block : Nat) (value : Word) :
    Statement (.irqSet t path block value) := fun h => okTime_lt (left h)
theorem irqStatusWrite (t : Nat) (path : Path) (block : Nat) (enable : Bool) (value : Word) :
    Statement (.irqStatusWrite t path block enable value) := fun h => okTime_lt (left h)
theorem msixUnmask (t : Nat) (path : Path) (vector : Nat) :
    Statement (.msixUnmask t path vector) := fun h => okTime_lt (left h)
theorem load (t : Nat) (path : Path) :
    Statement (.load t path) := fun h => okTime_lt h
theorem automaticBoot (t : Nat) :
    Statement (.automaticBoot t) := fun h => okTime_lt h
theorem loadDone (t : Nat) (object : List Byte) (retried : List Nat) :
    Statement (.loadDone t object retried) := fun h => okTime_lt h
theorem loadFail (t : Nat) (object : List Byte) (retried : List Nat) (at' : Option Nat) :
    Statement (.loadFail t object retried at') := fun h => okTime_lt h
theorem unload (t : Nat) (path : Path) :
    Statement (.unload t path) := fun h => okTime_lt h
theorem loadCard (t : Nat) (path : Path) :
    Statement (.loadCard t path) := fun h => okTime_lt h
theorem cardLoaded (t : Nat) (object : List Byte) (retried : List Nat) :
    Statement (.cardLoaded t object retried) := fun h => okTime_lt h
theorem dropCard (t : Nat) (path : Path) :
    Statement (.dropCard t path) := fun h => okTime_lt h
theorem patch (t : Nat) (path : Path) :
    Statement (.patch t path) := fun h => okTime_lt h
theorem patchAccepted (t : Nat) (object : List Byte) (retried : List Nat) :
    Statement (.patchAccepted t object retried) := fun h => okTime_lt h
theorem cancelPatch (t : Nat) (path : Path) :
    Statement (.cancelPatch t path) := fun h => okTime_lt h
theorem imageWrite (t : Nat) (path : Path) :
    Statement (.imageWrite t path) := fun h => okTime_lt h
theorem imageErase (t : Nat) (path : Path) :
    Statement (.imageErase t path) := fun h => okTime_lt h
theorem imageDone (t : Nat) (bytes : List Byte) (good : Bool) :
    Statement (.imageDone t bytes good) := fun h => okTime_lt h
theorem cardLock (t : Nat) (path : Path) :
    Statement (.cardLock t path) := fun h => okTime_lt h
theorem requireSigned (t : Nat) (path : Path) :
    Statement (.requireSigned t path) := fun h => okTime_lt h
theorem stagingComplete (t : Nat) :
    Statement (.stagingComplete t) := fun h => okTime_lt h
theorem switchSlot (t : Nat) :
    Statement (.switchSlot t) := fun h => okTime_lt h
theorem warmReset (t : Nat) (path : Path) :
    Statement (.warmReset t path) := fun h => okTime_lt h
theorem wrstN (t : Nat) (lowNs : Nat) :
    Statement (.wrstN t lowNs) := fun h => okTime_lt h
theorem warmDone (t : Nat) :
    Statement (.warmDone t) := fun h => okTime_lt h
theorem requestM2 (t : Nat) (path : Path) :
    Statement (.requestM2 t path) := fun h => okTime_lt h
theorem requestM3 (t : Nat) (path : Path) :
    Statement (.requestM3 t path) := fun h => okTime_lt h
theorem requestM9 (t : Nat) (path : Path) :
    Statement (.requestM9 t path) := fun h => okTime_lt h
theorem setHostOverload (t : Nat) (path : Path) :
    Statement (.setHostOverload t path) := fun h => okTime_lt h
theorem liftHostOverload (t : Nat) (path : Path) :
    Statement (.liftHostOverload t path) := fun h => okTime_lt h
theorem powerOnReset (t : Nat) (bootSel modid claimMode : Nat) (pfwLow : Bool) :
    Statement (.powerOnReset t bootSel modid claimMode pfwLow) := fun h => okTime_lt (left (left (left h)))
theorem timePllLock (t : Nat) :
    Statement (.timePllLock t) := fun h => okTime_lt h
theorem ptpMessage (t : Nat) (port : Nat) (msg : PtpMsg) :
    Statement (.ptpMessage t port msg) := fun h => okTime_lt (left h)
theorem ptpTransmit (t : Nat) :
    Statement (.ptpTransmit t) := fun h => okTime_lt h
theorem sourceTimeout (t : Nat) (source : Nat) :
    Statement (.sourceTimeout t source) := fun h => okTime_lt (left h)
theorem ppsEdge (t : Nat) (stamp : Nat) :
    Statement (.ppsEdge t stamp) := fun h => okTime_lt h
theorem todSentence (t : Nat) (utc : Nat) (ok : Bool) :
    Statement (.todSentence t utc ok) := fun h => okTime_lt h
theorem irigFrame (t : Nat) (stamp : Nat) (ok : Bool) (ext : Bool) (year : Option Nat) (second : Nat) (localOffset : Int) (quality : Nat) (leapPending : Bool) (leapDelete : Bool) :
    Statement (.irigFrame t stamp ok ext year second localOffset quality leapPending leapDelete) := fun h => okTime_lt h
theorem crossFail (t : Nat) :
    Statement (.crossFail t) := fun h => okTime_lt h
theorem crossAgree (t : Nat) :
    Statement (.crossAgree t) := fun h => okTime_lt h
theorem leapApplied (t : Nat) :
    Statement (.leapApplied t) := fun h => okTime_lt h
theorem ppsOEdge (t : Nat) :
    Statement (.ppsOEdge t) := fun h => okTime_lt h
theorem pulseEdge (t : Nat) (n : Nat) :
    Statement (.pulseEdge t n) := fun h => okTime_lt (left h)
theorem setGrid (t : Nat) (path : Path) :
    Statement (.setGrid t path) := fun h => okTime_lt h
theorem setTest (t : Nat) (path : Path) :
    Statement (.setTest t path) := fun h => okTime_lt h
theorem pathAccept (t : Nat) (path : Path) :
    Statement (.pathAccept t path) := fun h => okTime_lt h
theorem clearAsym (t : Nat) (path : Path) :
    Statement (.clearAsym t path) := fun h => okTime_lt h
theorem setUtc (t : Nat) (path : Path) :
    Statement (.setUtc t path) := fun h => okTime_lt h
theorem pulseArm (t : Nat) (path : Path) :
    Statement (.pulseArm t path) := fun h => okTime_lt h
theorem pulseDisarm (t : Nat) (path : Path) :
    Statement (.pulseDisarm t path) := fun h => okTime_lt h
theorem frameReceived (t : Nat) (port : Nat) (bytes : List Byte) (latched : Nat) (fcsOk : Bool) :
    Statement (.frameReceived t port bytes latched fcsOk) := fun h => okTime_lt (left h)
theorem linkUp (t : Nat) (port : Nat) (since : Nat) :
    Statement (.linkUp t port since) := fun h => okTime_lt (left h)
theorem linkDown (t : Nat) (port : Nat) (detail : Nat) (inFrame : Bool) :
    Statement (.linkDown t port detail inFrame) := fun h => okTime_lt (left h)
theorem prpSupervision (t : Nat) (pair : Nat) :
    Statement (.prpSupervision t pair) := fun h => okTime_lt (left h)
theorem prpForget (t : Nat) (pair : Nat) (mac : Nat) :
    Statement (.prpForget t pair mac) := fun h => okTime_lt (left (left h))
theorem hostFrameSend (t : Nat) :
    Statement (.hostFrameSend t) := fun h => okTime_lt h
theorem mcastWrite (t : Nat) (path : Path) :
    Statement (.mcastWrite t path) := fun h => okTime_lt h
theorem mcastClear (t : Nat) (path : Path) :
    Statement (.mcastClear t path) := fun h => okTime_lt h
theorem linkRestart (t : Nat) (path : Path) :
    Statement (.linkRestart t path) := fun h => okTime_lt h
theorem prpFlush (t : Nat) (path : Path) :
    Statement (.prpFlush t path) := fun h => okTime_lt h
theorem c37DataFrame (t : Nat) :
    Statement (.c37DataFrame t) := fun h => okTime_lt h
theorem c37ConfigFrame (t : Nat) :
    Statement (.c37ConfigFrame t) := fun h => okTime_lt h
theorem c37HeaderFrame (t : Nat) :
    Statement (.c37HeaderFrame t) := fun h => okTime_lt h
theorem c37CommandFrame (t : Nat) :
    Statement (.c37CommandFrame t) := fun h => okTime_lt h
theorem sessionPdu (t : Nat) :
    Statement (.sessionPdu t) := fun h => okTime_lt h
theorem svFrame (t : Nat) :
    Statement (.svFrame t) := fun h => okTime_lt h
theorem gooseMessage (t : Nat) :
    Statement (.gooseMessage t) := fun h => okTime_lt h
theorem injectedFrame (t : Nat) :
    Statement (.injectedFrame t) := fun h => okTime_lt h
theorem silenceTimeout (t : Nat) (sid : Nat) :
    Statement (.silenceTimeout t sid) := fun h => okTime_lt (left h)
theorem gooseTalExpired (t : Nat) (entry : Nat) :
    Statement (.gooseTalExpired t entry) := fun h => okTime_lt (left h)
theorem dataOnRetry (t : Nat) (sid : Nat) :
    Statement (.dataOnRetry t sid) := fun h => okTime_lt (left h)
theorem streamState (t : Nat) (path : Path) :
    Statement (.streamState t path) := fun h => okTime_lt h
theorem streamEnable (t : Nat) (path : Path) :
    Statement (.streamEnable t path) := fun h => okTime_lt h
theorem requestCfg (t : Nat) (path : Path) :
    Statement (.requestCfg t path) := fun h => okTime_lt h
theorem keyLoad (t : Nat) (path : Path) :
    Statement (.keyLoad t path) := fun h => okTime_lt h
theorem keyInvalidate (t : Nat) (path : Path) :
    Statement (.keyInvalidate t path) := fun h => okTime_lt h
theorem reedItem (t : Nat) (fails : Nat) :
    Statement (.reedItem t fails) := fun h => okTime_lt h
theorem waveformSample (t : Nat) :
    Statement (.waveformSample t) := fun h => okTime_lt h
theorem threadState (t : Nat) (path : Path) :
    Statement (.threadState t path) := fun h => okTime_lt h
theorem estState (t : Nat) (path : Path) :
    Statement (.estState t path) := fun h => okTime_lt h
theorem bankInfo (t : Nat) (path : Path) :
    Statement (.bankInfo t path) := fun h => okTime_lt h
theorem slotInstant (t : Nat) (lattice : Nat) :
    Statement (.slotInstant t lattice) := fun h => okTime_lt (left h)
theorem loomWrite (t : Nat) (fails : Nat) :
    Statement (.loomWrite t fails) := fun h => okTime_lt h
theorem setDeadline (t : Nat) (lattice : Nat) :
    Statement (.setDeadline t lattice) := fun h => okTime_lt (left h)
theorem closePipeline (t : Nat) (checks : List (Nat × Nat × Nat)) (upsets : List (Nat × Nat)) :
    Statement (.closePipeline t checks upsets) := fun h => okTime_lt h
theorem learnedRefresh (t : Nat) :
    Statement (.learnedRefresh t) := fun h => okTime_lt h
theorem overloadSet (t : Nat) (backpressureMs : Nat) :
    Statement (.overloadSet t backpressureMs) := fun h => okTime_lt h
theorem overloadClear (t : Nat) (backpressureMs : Nat) :
    Statement (.overloadClear t backpressureMs) := fun h => okTime_lt h
theorem readValue (t : Nat) (path : Path) :
    Statement (.readValue t path) := fun h => okTime_lt h
theorem quantile (t : Nat) (path : Path) :
    Statement (.quantile t path) := fun h => okTime_lt h
theorem histReset (t : Nat) (path : Path) :
    Statement (.histReset t path) := fun h => okTime_lt h
theorem weft (t : Nat) (path : Path) :
    Statement (.weft t path) := fun h => okTime_lt h
theorem closeNow (t : Nat) (path : Path) :
    Statement (.closeNow t path) := fun h => okTime_lt h
theorem trackerStale (t : Nat) (tracker : Nat) :
    Statement (.trackerStale t tracker) := fun h => okTime_lt (left h)
theorem ckptArchive (t : Nat) (fails : Nat) :
    Statement (.ckptArchive t fails) := fun h => okTime_lt h
theorem shapeReport (t : Nat) (job : Nat) :
    Statement (.shapeReport t job) := fun h => okTime_lt (left h)
theorem trackerRead (t : Nat) (path : Path) :
    Statement (.trackerRead t path) := fun h => okTime_lt h
theorem spectrumRead (t : Nat) (path : Path) :
    Statement (.spectrumRead t path) := fun h => okTime_lt h
theorem trackerReset (t : Nat) (path : Path) :
    Statement (.trackerReset t path) := fun h => okTime_lt h
theorem ckptSave (t : Nat) (path : Path) :
    Statement (.ckptSave t path) := fun h => okTime_lt h
theorem scTimeout (t : Nat) :
    Statement (.scTimeout t) := fun h => okTime_lt h
theorem areaRead (t : Nat) (path : Path) :
    Statement (.areaRead t path) := fun h => okTime_lt h
theorem scStart (t : Nat) (path : Path) :
    Statement (.scStart t path) := fun h => okTime_lt h
theorem scStop (t : Nat) (path : Path) :
    Statement (.scStop t path) := fun h => okTime_lt h
theorem tieForce (t : Nat) (path : Path) :
    Statement (.tieForce t path) := fun h => okTime_lt h
theorem gooseRepeat (t : Nat) (cb : Nat) :
    Statement (.gooseRepeat t cb) := fun h => okTime_lt (left h)
theorem pinMismatch (t : Nat) (pin : Nat) (high : Bool) :
    Statement (.pinMismatch t pin high) := fun h => okTime_lt (left h)
theorem pointRead (t : Nat) (path : Path) :
    Statement (.pointRead t path) := fun h => okTime_lt h
theorem resetLatch (t : Nat) (path : Path) :
    Statement (.resetLatch t path) := fun h => okTime_lt h
theorem pinTest (t : Nat) (path : Path) :
    Statement (.pinTest t path) := fun h => okTime_lt h
theorem pinTestEnd (t : Nat) :
    Statement (.pinTestEnd t) := fun h => okTime_lt h
theorem laneResync (t : Nat) (path : Path) :
    Statement (.laneResync t path) := fun h => okTime_lt h
theorem retryComplete (t : Nat) (cls : Nat) (element' : Nat) (ok : Bool) (spent : Bool) (owner : MemOwner) :
    Statement (.retryComplete t cls element' ok spent owner) := fun h => okTime_lt (left (left h))
theorem configScan (t : Nat) (element' : Nat) (fails : Nat) :
    Statement (.configScan t element' fails) := fun h => okTime_lt (left h)
theorem shadowScan (t : Nat) (fails : Nat) :
    Statement (.shadowScan t fails) := fun h => okTime_lt h
theorem scrub (t : Nat) (inStacks : Bool) (find : ScrubFind) :
    Statement (.scrub t inStacks find) := fun h => okTime_lt h
theorem restored (t : Nat) (element' : Nat) :
    Statement (.restored t element') := fun h => okTime_lt (left h)
theorem holdExpired (t : Nat) :
    Statement (.holdExpired t) := fun h => okTime_lt h
theorem elementRead (t : Nat) (path : Path) :
    Statement (.elementRead t path) := fun h => okTime_lt h
theorem inject (t : Nat) (path : Path) :
    Statement (.inject t path) := fun h => okTime_lt h
theorem restore (t : Nat) (path : Path) :
    Statement (.restore t path) := fun h => okTime_lt h
theorem holdRelease (t : Nat) (path : Path) :
    Statement (.holdRelease t path) := fun h => okTime_lt h
theorem countersClear (t : Nat) (path : Path) :
    Statement (.countersClear t path) := fun h => okTime_lt h
theorem partnerClaim (t : Nat) (lane : Nat) (claim : Nat) :
    Statement (.partnerClaim t lane claim) := fun h => okTime_lt (left (left h))
theorem partnerLost (t : Nat) :
    Statement (.partnerLost t) := fun h => okTime_lt h
theorem claimRaise (t : Nat) :
    Statement (.claimRaise t) := fun h => okTime_lt h
theorem intlkPull (t : Nat) (high : Bool) :
    Statement (.intlkPull t high) := fun h => okTime_lt h
theorem helloSend (t : Nat) :
    Statement (.helloSend t) := fun h => okTime_lt h
theorem mirrorHello (t : Nat) (content : List Byte) :
    Statement (.mirrorHello t content) := fun h => okTime_lt h
theorem intentSend (t : Nat) (os : Nat) :
    Statement (.intentSend t os) := fun h => okTime_lt (left h)
theorem mirrorIntent (t : Nat) (content : List Byte) :
    Statement (.mirrorIntent t content) := fun h => okTime_lt h
theorem mirrorLatch (t : Nat) (content : List Byte) :
    Statement (.mirrorLatch t content) := fun h => okTime_lt h
theorem mirrorGoose (t : Nat) (content : List Byte) :
    Statement (.mirrorGoose t content) := fun h => okTime_lt h
theorem mirrorEnergy (t : Nat) (content : List Byte) :
    Statement (.mirrorEnergy t content) := fun h => okTime_lt h
theorem mirrorLedger (t : Nat) (content : List Byte) :
    Statement (.mirrorLedger t content) := fun h => okTime_lt h
theorem mirrorCkpt (t : Nat) (content : List Byte) :
    Statement (.mirrorCkpt t content) := fun h => okTime_lt h
theorem mirrorCapt (t : Nat) (content : List Byte) :
    Statement (.mirrorCapt t content) := fun h => okTime_lt h
theorem mirrorFull (t : Nat) (content : List Byte) :
    Statement (.mirrorFull t content) := fun h => okTime_lt h
theorem energyMirrorSend (t : Nat) :
    Statement (.energyMirrorSend t) := fun h => okTime_lt h
theorem ckptMirrorSend (t : Nat) :
    Statement (.ckptMirrorSend t) := fun h => okTime_lt h
theorem yield (t : Nat) (path : Path) :
    Statement (.yield t path) := fun h => okTime_lt h
theorem yieldApplied (t : Nat) :
    Statement (.yieldApplied t) := fun h => okTime_lt h
theorem reclaim (t : Nat) (path : Path) :
    Statement (.reclaim t path) := fun h => okTime_lt h
theorem mirrorSync (t : Nat) (path : Path) :
    Statement (.mirrorSync t path) := fun h => okTime_lt h
theorem trainCell (t : Nat) (link : Nat) (bytes : List Byte) :
    Statement (.trainCell t link bytes) := fun h => okTime_lt (left (left h))
theorem heartbeatCell (t : Nat) (link : Nat) (bytes : List Byte) :
    Statement (.heartbeatCell t link bytes) := fun h => okTime_lt (left (left h))
theorem heartbeatSend (t : Nat) (link : Nat) :
    Statement (.heartbeatSend t link) := fun h => okTime_lt (left h)
theorem linkSilent (t : Nat) (link : Nat) :
    Statement (.linkSilent t link) := fun h => okTime_lt (left h)
theorem nakCell (t : Nat) (link : Nat) (bytes : List Byte) :
    Statement (.nakCell t link bytes) := fun h => okTime_lt (left (left h))
theorem retransmit (t : Nat) (link : Nat) :
    Statement (.retransmit t link) := fun h => okTime_lt (left h)
theorem retryFail (t : Nat) (link : Nat) :
    Statement (.retryFail t link) := fun h => okTime_lt (left h)
theorem autoRestart (t : Nat) (link : Nat) :
    Statement (.autoRestart t link) := fun h => okTime_lt (left h)
theorem bringupRetry (t : Nat) (link : Nat) :
    Statement (.bringupRetry t link) := fun h => okTime_lt (left h)
theorem cellTransmit (t : Nat) (link : Nat) :
    Statement (.cellTransmit t link) := fun h => okTime_lt (left h)
theorem slotHeadCell (t : Nat) (link : Nat) (bytes : List Byte) :
    Statement (.slotHeadCell t link bytes) := fun h => okTime_lt (left (left h))
theorem slotDataCell (t : Nat) (link : Nat) (bytes : List Byte) :
    Statement (.slotDataCell t link bytes) := fun h => okTime_lt (left (left h))
theorem truncationTimeout (t : Nat) (origin : Nat) (lattice : Nat) :
    Statement (.truncationTimeout t origin lattice) := fun h => okTime_lt (left (left h))
theorem armCell (t : Nat) (link : Nat) (bytes : List Byte) :
    Statement (.armCell t link bytes) := fun h => okTime_lt (left (left h))
theorem fireCell (t : Nat) (link : Nat) (bytes : List Byte) :
    Statement (.fireCell t link bytes) := fun h => okTime_lt (left (left h))
theorem slvLinkRestart (t : Nat) (path : Path) :
    Statement (.slvLinkRestart t path) := fun h => okTime_lt h
theorem linkHold (t : Nat) (path : Path) :
    Statement (.linkHold t path) := fun h => okTime_lt h
theorem originRead (t : Nat) (path : Path) :
    Statement (.originRead t path) := fun h => okTime_lt h
theorem composeStart (t : Nat) (os : Nat) :
    Statement (.composeStart t os) := fun h => okTime_lt (left h)
theorem launch (t : Nat) (os : Nat) :
    Statement (.launch t os) := fun h => okTime_lt (left h)
theorem lateLaunch (t : Nat) (os : Nat) :
    Statement (.lateLaunch t os) := fun h => okTime_lt (left h)
theorem shuttleStreamEnable (t : Nat) (path : Path) :
    Statement (.shuttleStreamEnable t path) := fun h => okTime_lt h
theorem cfgFetch (t : Nat) (path : Path) :
    Statement (.cfgFetch t path) := fun h => okTime_lt h
theorem cmdSend (t : Nat) (path : Path) :
    Statement (.cmdSend t path) := fun h => okTime_lt h
theorem d2hCopy (t : Nat) (q : Nat) (good : Bool) :
    Statement (.d2hCopy t q good) := fun h => okTime_lt (left h)
theorem doorbell (t : Nat) (path : Path) (q : Nat) (value : Nat) :
    Statement (.doorbell t path q value) := fun h => okTime_lt (left (left h))
theorem h2dFetch (t : Nat) (q : Nat) (kind : Nat) (payload : List Byte) (good : Bool) :
    Statement (.h2dFetch t q kind payload good) := fun h => okTime_lt (left (left h))
theorem moderationTimeout (t : Nat) (q : Nat) :
    Statement (.moderationTimeout t q) := fun h => okTime_lt (left h)
theorem queueFlush (t : Nat) (path : Path) (q : Nat) :
    Statement (.queueFlush t path q) := fun h => okTime_lt (left h)
theorem queueStart (t : Nat) (path : Path) :
    Statement (.queueStart t path) := fun h => okTime_lt h
theorem queueStop (t : Nat) (path : Path) :
    Statement (.queueStop t path) := fun h => okTime_lt h
theorem inputChange (t : Nat) :
    Statement (.inputChange t) := fun h => okTime_lt h
theorem waveWaitEnd (t : Nat) (region : Nat) :
    Statement (.waveWaitEnd t region) := fun h => okTime_lt (left h)
theorem rearmDone (t : Nat) (region : Nat) :
    Statement (.rearmDone t region) := fun h => okTime_lt (left h)
theorem arm (t : Nat) (path : Path) :
    Statement (.arm t path) := fun h => okTime_lt h
theorem disarm (t : Nat) (path : Path) :
    Statement (.disarm t path) := fun h => okTime_lt h
theorem fire (t : Nat) (path : Path) :
    Statement (.fire t path) := fun h => okTime_lt h
theorem trigSet (t : Nat) (path : Path) :
    Statement (.trigSet t path) := fun h => okTime_lt h
theorem recordLock (t : Nat) (path : Path) :
    Statement (.recordLock t path) := fun h => okTime_lt h
theorem recordUnlock (t : Nat) (path : Path) :
    Statement (.recordUnlock t path) := fun h => okTime_lt h
theorem energySave (t : Nat) (fails : Nat) :
    Statement (.energySave t fails) := fun h => okTime_lt h
theorem epulsePhase (t : Nat) (output : Nat) :
    Statement (.epulsePhase t output) := fun h => okTime_lt (left h)
theorem intervalRead (t : Nat) (path : Path) :
    Statement (.intervalRead t path) := fun h => okTime_lt h
theorem peakReset (t : Nat) (path : Path) :
    Statement (.peakReset t path) := fun h => okTime_lt h
theorem ledgerEvent (t : Nat) (code : Nat) (source : Nat) (payload : List Byte) :
    Statement (.ledgerEvent t code source payload) := fun h => okTime_lt (left (left (left h)))
theorem coalesceClose (t : Nat) :
    Statement (.coalesceClose t) := fun h => okTime_lt h
theorem recordWritten (t : Nat) (fails : Nat) :
    Statement (.recordWritten t fails) := fun h => okTime_lt h
theorem opSecondsSave (t : Nat) :
    Statement (.opSecondsSave t) := fun h => okTime_lt h
theorem read (t : Nat) (path : Path) :
    Statement (.read t path) := fun h => okTime_lt h
theorem ack (t : Nat) (path : Path) :
    Statement (.ack t path) := fun h => okTime_lt h
theorem ledgerFlush (t : Nat) (path : Path) :
    Statement (.ledgerFlush t path) := fun h => okTime_lt h
theorem verify (t : Nat) (path : Path) :
    Statement (.verify t path) := fun h => okTime_lt h
theorem nonce (t : Nat) (path : Path) :
    Statement (.nonce t path) := fun h => okTime_lt h
theorem nonceExpiry (t : Nat) :
    Statement (.nonceExpiry t) := fun h => okTime_lt h
theorem clear (t : Nat) (path : Path) :
    Statement (.clear t path) := fun h => okTime_lt h
theorem clearDone (t : Nat) :
    Statement (.clearDone t) := fun h => okTime_lt h
theorem keySet (t : Nat) (path : Path) :
    Statement (.keySet t path) := fun h => okTime_lt h
theorem keyChange (t : Nat) (path : Path) :
    Statement (.keyChange t path) := fun h => okTime_lt h
theorem scanStart (t : Nat) (path : Path) :
    Statement (.scanStart t path) := fun h => okTime_lt h
theorem scanStop (t : Nat) (path : Path) (blocks : Nat) :
    Statement (.scanStop t path blocks) := fun h => okTime_lt h
theorem scanDone (t : Nat) (engine : Nat) (bad : Option Nat) :
    Statement (.scanDone t engine bad) := fun h => okTime_lt (left h)
theorem domainSet (t : Nat) (path : Path) :
    Statement (.domainSet t path) := fun h => okTime_lt h
theorem drainComplete (t : Nat) :
    Statement (.drainComplete t) := fun h => okTime_lt h
theorem drainTimeout (t : Nat) (transfers : Nat) :
    Statement (.drainTimeout t transfers) := fun h => okTime_lt h
theorem domainWakeDone (t : Nat) (domain : Nat) (good : Bool) :
    Statement (.domainWakeDone t domain good) := fun h => okTime_lt (left h)
theorem archiveRetain (t : Nat) :
    Statement (.archiveRetain t) := fun h => okTime_lt h
theorem droop (t : Nat) (supply mv : Nat) :
    Statement (.droop t supply mv) := fun h => okTime_lt (left h)
theorem droopLasting (t : Nat) (supply : Nat) :
    Statement (.droopLasting t supply) := fun h => okTime_lt (left h)
theorem pfwNChange (t : Nat) (low : Bool) :
    Statement (.pfwNChange t low) := fun h => okTime_lt h
theorem pfwFall (t : Nat) :
    Statement (.pfwFall t) := fun h => okTime_lt h
theorem flushDone (t : Nat) (fails : Nat) :
    Statement (.flushDone t fails) := fun h => okTime_lt h
theorem pfwRecovered (t : Nat) :
    Statement (.pfwRecovered t) := fun h => okTime_lt h
theorem clockLoss (t : Nat) (island : Nat) (wrong : Option Nat) :
    Statement (.clockLoss t island wrong) := fun h => okTime_lt (left h)
theorem relockDone (t : Nat) (island : Nat) (ok : Bool) :
    Statement (.relockDone t island ok) := fun h => okTime_lt (left h)
theorem canaryError (t : Nat) (island : Nat) (canary : Nat) (m : ClockMeasure) :
    Statement (.canaryError t island canary m) := fun h => okTime_lt (left (left h))
theorem hourlyReplan (t : Nat) (m : ClockMeasure) :
    Statement (.hourlyReplan t m) := fun h => okTime_lt h
theorem replanMeasure (t : Nat) (m : ClockMeasure) :
    Statement (.replanMeasure t m) := fun h => okTime_lt h
theorem avsCheck (t : Nat) (mv : Nat) (ack : Bool) :
    Statement (.avsCheck t mv ack) := fun h => okTime_lt h
theorem ageForecast (t : Nat) :
    Statement (.ageForecast t) := fun h => okTime_lt h
theorem replan (t : Nat) (path : Path) (m : ClockMeasure) :
    Statement (.replan t path m) := fun h => okTime_lt h
theorem avsSet (t : Nat) (path : Path) :
    Statement (.avsSet t path) := fun h => okTime_lt h
theorem perstN (t : Nat) (low : Bool) (object : List Byte) (off : Nat) :
    Statement (.perstN t low object off) := fun h => okTime_lt h
theorem pcieLinkUp (t : Nat) (speed width : Nat) (busMaster : Bool) :
    Statement (.pcieLinkUp t speed width busMaster) := fun h => okTime_lt (left (left h))
theorem dState (t : Nat) (d3 : Bool) :
    Statement (.dState t d3) := fun h => okTime_lt h
theorem bar2Read (t : Nat) (addr len : Nat) (good : Bool) :
    Statement (.bar2Read t addr len good) := fun h => okTime_lt (left (left h))
theorem bar2Write (t : Nat) (addr : Nat) (bytes : List Byte) :
    Statement (.bar2Write t addr bytes) := fun h => okTime_lt (left h)
theorem masterReclaim (t : Nat) :
    Statement (.masterReclaim t) := fun h => okTime_lt h
theorem monHelp (t : Nat) :
    Statement (.monHelp t) := fun h => okTime_lt h
theorem monId (t : Nat) :
    Statement (.monId t) := fun h => okTime_lt h
theorem monRd (t : Nat) (addr n : Nat) :
    Statement (.monRd t addr n) := fun h => okTime_lt (left (left h))
theorem monSr (t : Nat) (addr n : Nat) (bad : Option Nat) :
    Statement (.monSr t addr n bad) := fun h => okTime_lt (left (left h))
theorem monWr (t : Nat) (addr value : Nat) (x : CmdInput) :
    Statement (.monWr t addr value x) := fun h => okTime_lt (left (left h))
theorem monCmd (t : Nat) (block opcode : Nat) (args : List Nat) (x : CmdInput) :
    Statement (.monCmd t block opcode args x) := fun h => okTime_lt (left (left (left h)))
theorem monMode (t : Nat) (mode : Option Nat) :
    Statement (.monMode t mode) := fun h => okTime_lt h
theorem monLedger (t : Nat) (acc : Option Nat) (n : Option Nat) :
    Statement (.monLedger t acc n) := fun h => okTime_lt h
theorem monFault (t : Nat) :
    Statement (.monFault t) := fun h => okTime_lt h
theorem monLoad (t : Nat) (source kind length : Nat) :
    Statement (.monLoad t source kind length) := fun h => okTime_lt (left (left h))
theorem monResetWarm (t : Nat) :
    Statement (.monResetWarm t) := fun h => okTime_lt h
theorem monTake (t : Nat) :
    Statement (.monTake t) := fun h => okTime_lt h
theorem monGive (t : Nat) :
    Statement (.monGive t) := fun h => okTime_lt h
theorem monBaud (t : Nat) (rate : Nat) :
    Statement (.monBaud t rate) := fun h => okTime_lt h
theorem monLineDiscard (t : Nat) (framing : Bool) :
    Statement (.monLineDiscard t framing) := fun h => okTime_lt h
theorem baudChange (t : Nat) :
    Statement (.baudChange t) := fun h => okTime_lt h
theorem baudRevert (t : Nat) :
    Statement (.baudRevert t) := fun h => okTime_lt h
theorem uartBlock (t : Nat) (block : List Byte) (crc : Nat) :
    Statement (.uartBlock t block crc) := fun h => okTime_lt (left (left h))
theorem uartTimeout (t : Nat) :
    Statement (.uartTimeout t) := fun h => okTime_lt h
theorem readOnly (t : Nat) (path : Path) :
    Statement (.readOnly t path) := fun h => okTime_lt h
theorem bypass (t : Nat) :
    Statement (.bypass t) := fun h => okTime_lt h
theorem idcode (t : Nat) :
    Statement (.idcode t) := fun h => okTime_lt h
theorem samplePreload (t : Nat) (value : Nat) :
    Statement (.samplePreload t value) := fun h => okTime_lt (left h)
theorem extest (t : Nat) (value : Nat) :
    Statement (.extest t value) := fun h => okTime_lt (left h)
theorem highz (t : Nat) :
    Statement (.highz t) := fun h => okTime_lt h
theorem clamp (t : Nat) :
    Statement (.clamp t) := fun h => okTime_lt h
theorem claimStrobeEdge (t : Nat) :
    Statement (.claimStrobeEdge t) := fun h => okTime_lt h
theorem internalReset (t : Nat) :
    Statement (.internalReset t) := fun h => okTime_lt h
theorem surpriseLinkDown (t : Nat) (object : List Byte) (off : Nat) :
    Statement (.surpriseLinkDown t object off) := fun h => okTime_lt h
theorem blockLock (t : Nat) (link : Nat) :
    Statement (.blockLock t link) := fun h => okTime_lt (left h)
theorem lockLost (t : Nat) (link : Nat) :
    Statement (.lockLost t link) := fun h => okTime_lt (left h)
theorem badCell (t : Nat) (link : Nat) :
    Statement (.badCell t link) := fun h => okTime_lt (left h)

end Sys2Proof.Laws.Timed
end

