-- ==== Sys2Proof/Laws/Steps.lean ====
section
/-!
SUPPORT. Sys2Proof/Laws/Steps.lean: every command answers a next state, and which parts of the state it leaves as they are.
-/

namespace Sys2Proof.Machine

/-- While the module is in internal reset no command but the power-on reset has an effect (R426). -/
theorem run_still {s : State} (h : s.held = true) (t : Nat) (f : State → State) : run t f s = .next s := by
  unfold run; simp [h]

theorem run_frame {m : Nat} {s : State} (hs : s.held = false) (t : Nat) (f : State → State) (h : ∀ w, Frame m w (f w)) :
    ∃ u, run t f s = .next u ∧ Frame m (s.at t) u := by
  unfold run
  exact ⟨_, by simp only [hs]; rfl, h _⟩

theorem execRegisterWrite_frame (x1 : ℕ) (x2 : Path) (x3 : ℕ) (x4 : Word) (x5 : Bool) (x6 : CmdInput) {u : State} (h : u.held = false) :
    ∃ v, execRegisterWrite x1 x2 x3 x4 x5 x6 u = .next v ∧ Frame 0x3bff2fffd8 (u.at x1) v := by
  unfold execRegisterWrite
  refine run_frame h _ _ (fun w => ?_)
  repeat' (first | simp (disch := first | decide | (intros; simp (disch := decide) only [↓Frame.busWrite, Frame.refl])) only [↓Frame.busWrite, Frame.refl] | split)

theorem execLowWordRead_frame (x1 : ℕ) (x2 : ℕ) (x3 : Bool) {u : State} (h : u.held = false) :
    ∃ v, execLowWordRead x1 x2 x3 u = .next v ∧ Frame 0x100208f0 (u.at x1) v := by
  unfold execLowWordRead
  refine run_frame h _ _ (fun w => ?_)
  repeat' (first | simp (disch := first | decide | (intros; simp (disch := decide) only [↓Frame.hostRead, Frame.refl])) only [↓Frame.hostRead, Frame.refl] | split)

theorem execIrqSet_frame (x1 : ℕ) (x2 : Path) (x3 : ℕ) (x4 : Word) {u : State} (h : u.held = false) :
    ∃ v, execIrqSet x1 x2 x3 x4 u = .next v ∧ Frame 0x3bff2fffd8 (u.at x1) v := by
  unfold execIrqSet
  refine run_frame h _ _ (fun w => ?_)
  repeat' (first | simp (disch := first | decide | (intros; simp (disch := decide) only [↓Frame.busWrite, Frame.refl])) only [↓Frame.busWrite, Frame.refl] | split)

theorem execIrqStatusWrite_frame (x1 : ℕ) (x2 : Path) (x3 : ℕ) (x4 : Bool) (x5 : Word) {u : State} (h : u.held = false) :
    ∃ v, execIrqStatusWrite x1 x2 x3 x4 x5 u = .next v ∧ Frame 0x3bff2fffd8 (u.at x1) v := by
  unfold execIrqStatusWrite
  refine run_frame h _ _ (fun w => ?_)
  repeat' (first | simp (disch := first | decide | (intros; simp (disch := decide) only [↓Frame.busWrite, Frame.refl])) only [↓Frame.busWrite, Frame.refl] | split)

theorem execMsixUnmask_frame (x1 : ℕ) (x2 : Path) (x3 : ℕ) {u : State} (h : u.held = false) :
    ∃ v, execMsixUnmask x1 x2 x3 u = .next v ∧ Frame 0x3bff2fffd8 (u.at x1) v := by
  unfold execMsixUnmask
  refine run_frame h _ _ (fun w => ?_)
  repeat' (first | simp (disch := first | decide | (intros; simp (disch := decide) only [↓Frame.busWrite, Frame.refl])) only [↓Frame.busWrite, Frame.refl] | split)

theorem execLoad_frame (x1 : ℕ) (x2 : Path) {u : State} (h : u.held = false) :
    ∃ v, execLoad x1 x2 u = .next v ∧ Frame 0x258037dd8 (u.at x1) v := by
  unfold execLoad
  unfold command
  refine run_frame h _ _ (fun w => ?_)
  repeat' (first | simp (disch := first | decide | (intros; simp (disch := decide) only [↓Frame.ofCmdLoad, ↓Frame.goWrite, Frame.refl])) only [↓Frame.goWrite, Frame.refl] | split)

theorem execAutomaticBoot_frame (x1 : ℕ) {u : State} (h : u.held = false) :
    ∃ v, execAutomaticBoot x1 u = .next v ∧ Frame 0x258037dd8 (u.at x1) v := by
  unfold execAutomaticBoot
  refine run_frame h _ _ (fun w => ?_)
  repeat' (first | simp (disch := first | decide | (intros; simp (disch := decide) only [↓Frame.bootLoad, Frame.refl])) only [↓Frame.bootLoad, Frame.refl] | split)

theorem execLoadDone_frame (x1 : ℕ) (x2 : List Byte) (x3 : List ℕ) {u : State} (h : u.held = false) :
    ∃ v, execLoadDone x1 x2 x3 u = .next v ∧ Frame 0x27ffffffd8 (u.at x1) v := by
  unfold execLoadDone
  refine run_frame h _ _ (fun w => ?_)
  repeat' (first | simp (disch := first | decide | (intros; simp (disch := decide) only [↓Frame.endLoad, ↓Frame.loadEnds, Frame.refl])) only [↓Frame.loadEnds, Frame.refl] | split)

theorem execLoadFail_frame (x1 : ℕ) (x2 : List Byte) (x3 : List ℕ) (x4 : Option ℕ) {u : State} (h : u.held = false) :
    ∃ v, execLoadFail x1 x2 x3 x4 u = .next v ∧ Frame 0x27ffffffd8 (u.at x1) v := by
  unfold execLoadFail
  refine run_frame h _ _ (fun w => ?_)
  repeat' (first | simp (disch := first | decide | (intros; simp (disch := decide) only [↓Frame.loadEnds, ↓Frame.loadFails, Frame.refl])) only [↓Frame.loadEnds, Frame.refl] | split)

theorem execUnload_frame (x1 : ℕ) (x2 : Path) {u : State} (h : u.held = false) :
    ∃ v, execUnload x1 x2 u = .next v ∧ Frame 0x258037dd8 (u.at x1) v := by
  unfold execUnload
  unfold command
  refine run_frame h _ _ (fun w => ?_)
  repeat' (first | simp (disch := first | decide | (intros; simp (disch := decide) only [↓Frame.ofCmdUnload, ↓Frame.goWrite, Frame.refl])) only [↓Frame.goWrite, Frame.refl] | split)

theorem execLoadCard_frame (x1 : ℕ) (x2 : Path) {u : State} (h : u.held = false) :
    ∃ v, execLoadCard x1 x2 u = .next v ∧ Frame 0x100209d0 (u.at x1) v := by
  unfold execLoadCard
  unfold command
  refine run_frame h _ _ (fun w => ?_)
  repeat' (first | simp (disch := first | decide | (intros; simp (disch := decide) only [↓Frame.ofCmdLoadCard, ↓Frame.goWrite, Frame.refl])) only [↓Frame.goWrite, Frame.refl] | split)

theorem execCardLoaded_frame (x1 : ℕ) (x2 : List Byte) (x3 : List ℕ) {u : State} (h : u.held = false) :
    ∃ v, execCardLoaded x1 x2 x3 u = .next v ∧ Frame 0x27ffffffd8 (u.at x1) v := by
  unfold execCardLoaded
  refine run_frame h _ _ (fun w => ?_)
  repeat' (first | simp (disch := first | decide | (intros; simp (disch := decide) only [↓Frame.endLoad, ↓Frame.loadEnds, Frame.refl])) only [↓Frame.loadEnds, Frame.refl] | split)

theorem execDropCard_frame (x1 : ℕ) (x2 : Path) {u : State} (h : u.held = false) :
    ∃ v, execDropCard x1 x2 u = .next v ∧ Frame 0x100209d0 (u.at x1) v := by
  unfold execDropCard
  unfold command
  refine run_frame h _ _ (fun w => ?_)
  repeat' (first | simp (disch := first | decide | (intros; simp (disch := decide) only [↓Frame.ofCmdDropCard, ↓Frame.goWrite, Frame.refl])) only [↓Frame.goWrite, Frame.refl] | split)

theorem execPatch_frame (x1 : ℕ) (x2 : Path) {u : State} (h : u.held = false) :
    ∃ v, execPatch x1 x2 u = .next v ∧ Frame 0x100209d0 (u.at x1) v := by
  unfold execPatch
  unfold command
  refine run_frame h _ _ (fun w => ?_)
  repeat' (first | simp (disch := first | decide | (intros; simp (disch := decide) only [↓Frame.ofCmdPatch, ↓Frame.goWrite, Frame.refl])) only [↓Frame.goWrite, Frame.refl] | split)

theorem execPatchAccepted_frame (x1 : ℕ) (x2 : List Byte) (x3 : List ℕ) {u : State} (h : u.held = false) :
    ∃ v, execPatchAccepted x1 x2 x3 u = .next v ∧ Frame 0x27ffffffd8 (u.at x1) v := by
  unfold execPatchAccepted
  refine run_frame h _ _ (fun w => ?_)
  repeat' (first | simp (disch := first | decide | (intros; simp (disch := decide) only [↓Frame.endLoad, ↓Frame.loadEnds, Frame.refl])) only [↓Frame.loadEnds, Frame.refl] | split)

theorem execCancelPatch_frame (x1 : ℕ) (x2 : Path) {u : State} (h : u.held = false) :
    ∃ v, execCancelPatch x1 x2 u = .next v ∧ Frame 0x100209d0 (u.at x1) v := by
  unfold execCancelPatch
  unfold command
  refine run_frame h _ _ (fun w => ?_)
  repeat' (first | simp (disch := first | decide | (intros; simp (disch := decide) only [↓Frame.ofCmdCancelPatch, ↓Frame.goWrite, Frame.refl])) only [↓Frame.goWrite, Frame.refl] | split)

theorem execImageWrite_frame (x1 : ℕ) (x2 : Path) {u : State} (h : u.held = false) :
    ∃ v, execImageWrite x1 x2 u = .next v ∧ Frame 0x258037dd8 (u.at x1) v := by
  unfold execImageWrite
  unfold command
  refine run_frame h _ _ (fun w => ?_)
  repeat' (first | simp (disch := first | decide | (intros; simp (disch := decide) only [↓Frame.ofCmdImageWrite, ↓Frame.goWrite, Frame.refl])) only [↓Frame.goWrite, Frame.refl] | split)

theorem execImageErase_frame (x1 : ℕ) (x2 : Path) {u : State} (h : u.held = false) :
    ∃ v, execImageErase x1 x2 u = .next v ∧ Frame 0x258037fd8 (u.at x1) v := by
  unfold execImageErase
  unfold command
  refine run_frame h _ _ (fun w => ?_)
  repeat' (first | simp (disch := first | decide | (intros; simp (disch := decide) only [↓Frame.ofCmdImageErase, ↓Frame.goWrite, Frame.refl])) only [↓Frame.goWrite, Frame.refl] | split)

theorem execImageDone_frame (x1 : ℕ) (x2 : List Byte) (x3 : Bool) {u : State} (h : u.held = false) :
    ∃ v, execImageDone x1 x2 x3 u = .next v ∧ Frame 0x10000bd0 (u.at x1) v := by
  unfold execImageDone
  refine run_frame h _ _ (fun w => ?_)
  repeat' (first | simp (disch := first | decide | (intros; simp (disch := decide) only [↓Frame.imageDone, Frame.refl])) only [↓Frame.imageDone, Frame.refl] | split)

theorem execCardLock_frame (x1 : ℕ) (x2 : Path) {u : State} (h : u.held = false) :
    ∃ v, execCardLock x1 x2 u = .next v ∧ Frame 0x100208d0 (u.at x1) v := by
  unfold execCardLock
  refine run_frame h _ _ (fun w => ?_)
  repeat' (first | simp (disch := first | decide | (intros; simp (disch := decide) only [↓Frame.setOnce, Frame.refl])) only [↓Frame.setOnce, Frame.refl] | split)

theorem execRequireSigned_frame (x1 : ℕ) (x2 : Path) {u : State} (h : u.held = false) :
    ∃ v, execRequireSigned x1 x2 u = .next v ∧ Frame 0x100208d0 (u.at x1) v := by
  unfold execRequireSigned
  refine run_frame h _ _ (fun w => ?_)
  repeat' (first | simp (disch := first | decide | (intros; simp (disch := decide) only [↓Frame.setOnce, Frame.refl])) only [↓Frame.setOnce, Frame.refl] | split)

theorem execStagingComplete_frame (x1 : ℕ) {u : State} (h : u.held = false) :
    ∃ v, execStagingComplete x1 u = .next v ∧ Frame 0x27ffdfdd8 (u.at x1) v := by
  unfold execStagingComplete
  refine run_frame h _ _ (fun w => ?_)
  repeat' (first | simp (disch := first | decide | (intros; simp (disch := decide) only [↓Frame.stagingComplete, Frame.refl])) only [↓Frame.stagingComplete, Frame.refl] | split)

theorem execSwitchSlot_frame (x1 : ℕ) {u : State} (h : u.held = false) :
    ∃ v, execSwitchSlot x1 u = .next v ∧ Frame 0x27ffdfdd8 (u.at x1) v := by
  unfold execSwitchSlot
  refine run_frame h _ _ (fun w => ?_)
  repeat' (first | simp (disch := first | decide | (intros; simp (disch := decide) only [↓Frame.switchSlot, Frame.refl])) only [↓Frame.switchSlot, Frame.refl] | split)

theorem execWarmReset_frame (x1 : ℕ) (x2 : Path) {u : State} (h : u.held = false) :
    ∃ v, execWarmReset x1 x2 u = .next v ∧ Frame 0x227807ffd8 (u.at x1) v := by
  unfold execWarmReset
  unfold command
  refine run_frame h _ _ (fun w => ?_)
  repeat' (first | simp (disch := first | decide | (intros; simp (disch := decide) only [↓Frame.ofCmdWarmReset, ↓Frame.goWrite, Frame.refl])) only [↓Frame.goWrite, Frame.refl] | split)

theorem execWrstN_frame (x1 : ℕ) (x2 : ℕ) {u : State} (h : u.held = false) :
    ∃ v, execWrstN x1 x2 u = .next v ∧ Frame 0x227807ffd8 (u.at x1) v := by
  unfold execWrstN
  refine run_frame h _ _ (fun w => ?_)
  repeat' (first | simp (disch := first | decide | (intros; simp (disch := decide) only [↓Frame.wrstPulse, Frame.refl])) only [↓Frame.wrstPulse, Frame.refl] | split)

theorem execWarmDone_frame (x1 : ℕ) {u : State} (h : u.held = false) :
    ∃ v, execWarmDone x1 u = .next v ∧ Frame 0x3bfffffff8 (u.at x1) v := by
  unfold execWarmDone
  refine run_frame h _ _ (fun w => ?_)
  repeat' (first | simp (disch := first | decide | (intros; simp (disch := decide) only [↓Frame.warmEnd, Frame.refl])) only [↓Frame.warmEnd, Frame.refl] | split)

theorem execRequestM2_frame (x1 : ℕ) (x2 : Path) {u : State} (h : u.held = false) :
    ∃ v, execRequestM2 x1 x2 u = .next v ∧ Frame 0x2100249d0 (u.at x1) v := by
  unfold execRequestM2
  refine run_frame h _ _ (fun w => ?_)
  repeat' (first | simp (disch := first | decide | (intros; simp (disch := decide) only [↓Frame.requestBy, Frame.refl])) only [↓Frame.requestBy, Frame.refl] | split)

theorem execRequestM3_frame (x1 : ℕ) (x2 : Path) {u : State} (h : u.held = false) :
    ∃ v, execRequestM3 x1 x2 u = .next v ∧ Frame 0x2100249d0 (u.at x1) v := by
  unfold execRequestM3
  refine run_frame h _ _ (fun w => ?_)
  repeat' (first | simp (disch := first | decide | (intros; simp (disch := decide) only [↓Frame.requestBy, Frame.refl])) only [↓Frame.requestBy, Frame.refl] | split)

theorem execRequestM9_frame (x1 : ℕ) (x2 : Path) {u : State} (h : u.held = false) :
    ∃ v, execRequestM9 x1 x2 u = .next v ∧ Frame 0x2100249d0 (u.at x1) v := by
  unfold execRequestM9
  refine run_frame h _ _ (fun w => ?_)
  repeat' (first | simp (disch := first | decide | (intros; simp (disch := decide) only [↓Frame.requestBy, Frame.refl])) only [↓Frame.requestBy, Frame.refl] | split)

theorem execSetHostOverload_frame (x1 : ℕ) (x2 : Path) {u : State} (h : u.held = false) :
    ∃ v, execSetHostOverload x1 x2 u = .next v ∧ Frame 0x2100249d0 (u.at x1) v := by
  unfold execSetHostOverload
  refine run_frame h _ _ (fun w => ?_)
  repeat' (first | simp (disch := first | decide | (intros; simp (disch := decide) only [↓Frame.requestBy, Frame.refl])) only [↓Frame.requestBy, Frame.refl] | split)

theorem execLiftHostOverload_frame (x1 : ℕ) (x2 : Path) {u : State} (h : u.held = false) :
    ∃ v, execLiftHostOverload x1 x2 u = .next v ∧ Frame 0x2100249d0 (u.at x1) v := by
  unfold execLiftHostOverload
  refine run_frame h _ _ (fun w => ?_)
  repeat' (first | simp (disch := first | decide | (intros; simp (disch := decide) only [↓Frame.requestBy, Frame.refl])) only [↓Frame.requestBy, Frame.refl] | split)

theorem execPowerOnReset_frame (x1 : ℕ) (x2 : ℕ) (x3 : ℕ) (x4 : ℕ) (x5 : Bool) (u : State) : ∃ v, execPowerOnReset x1 x2 x3 x4 x5 u = .next v ∧ Frame 0xabffffedfe u v :=
  ⟨_, rfl, (Frame.powerOn (Nat.or_self _)).mpr (Frame.refl _ _)⟩

theorem execTimePllLock_frame (x1 : ℕ) {u : State} (h : u.held = false) :
    ∃ v, execTimePllLock x1 u = .next v ∧ Frame 0x2100079d0 (u.at x1) v := by
  unfold execTimePllLock
  refine run_frame h _ _ (fun w => ?_)
  repeat' (first | simp (disch := first | decide | (intros; simp (disch := decide) only [↓Frame.pllLock, Frame.refl])) only [↓Frame.pllLock, Frame.refl] | split)

theorem execPtpMessage_frame (x1 : ℕ) (x2 : ℕ) (x3 : PtpMsg) {u : State} (h : u.held = false) :
    ∃ v, execPtpMessage x1 x2 x3 u = .next v ∧ Frame 0x2180079d8 (u.at x1) v := by
  unfold execPtpMessage
  refine run_frame h _ _ (fun w => ?_)
  repeat' (first | simp (disch := first | decide | (intros; simp (disch := decide) only [↓Frame.ptp, Frame.refl])) only [↓Frame.ptp, Frame.refl] | split)

theorem execPtpTransmit_frame (x1 : ℕ) {u : State} (h : u.held = false) :
    ∃ v, execPtpTransmit x1 u = .next v ∧ Frame 0x800 (u.at x1) v := by
  unfold execPtpTransmit
  refine run_frame h _ _ (fun w => ?_)
  repeat' (first | simp (disch := first | decide | (intros; simp (disch := decide) only [↓Frame.ptpTransmit, Frame.refl])) only [↓Frame.ptpTransmit, Frame.refl] | split)

theorem execSourceTimeout_frame (x1 : ℕ) (x2 : ℕ) {u : State} (h : u.held = false) :
    ∃ v, execSourceTimeout x1 x2 u = .next v ∧ Frame 0x2100079d0 (u.at x1) v := by
  unfold execSourceTimeout
  refine run_frame h _ _ (fun w => ?_)
  repeat' (first | simp (disch := first | decide | (intros; simp (disch := decide) only [↓Frame.sourceTimeout, Frame.refl])) only [↓Frame.sourceTimeout, Frame.refl] | split)

theorem execPpsEdge_frame (x1 : ℕ) (x2 : ℕ) {u : State} (h : u.held = false) :
    ∃ v, execPpsEdge x1 x2 u = .next v ∧ Frame 0x2180079d8 (u.at x1) v := by
  unfold execPpsEdge
  refine run_frame h _ _ (fun w => ?_)
  repeat' (first | simp (disch := first | decide | (intros; simp (disch := decide) only [↓Frame.ppsEdge, Frame.refl])) only [↓Frame.ppsEdge, Frame.refl] | split)

theorem execTodSentence_frame (x1 : ℕ) (x2 : ℕ) (x3 : Bool) {u : State} (h : u.held = false) :
    ∃ v, execTodSentence x1 x2 x3 u = .next v ∧ Frame 0x2180079d8 (u.at x1) v := by
  unfold execTodSentence
  refine run_frame h _ _ (fun w => ?_)
  repeat' (first | simp (disch := first | decide | (intros; simp (disch := decide) only [↓Frame.todSentence, Frame.refl])) only [↓Frame.todSentence, Frame.refl] | split)

theorem execIrigFrame_frame (x1 : ℕ) (x2 : ℕ) (x3 : Bool) (x4 : Bool) (x5 : Option ℕ) (x6 : ℕ) (x7 : ℤ) (x8 : ℕ) (x9 : Bool) (x10 : Bool) {u : State} (h : u.held = false) :
    ∃ v, execIrigFrame x1 x2 x3 x4 x5 x6 x7 x8 x9 x10 u = .next v ∧ Frame 0x2180079d8 (u.at x1) v := by
  unfold execIrigFrame
  refine run_frame h _ _ (fun w => ?_)
  repeat' (first | simp (disch := first | decide | (intros; simp (disch := decide) only [↓Frame.irigFrame, Frame.refl])) only [↓Frame.irigFrame, Frame.refl] | split)

theorem execCrossFail_frame (x1 : ℕ) {u : State} (h : u.held = false) :
    ∃ v, execCrossFail x1 u = .next v ∧ Frame 0x225807fdd8 (u.at x1) v := by
  unfold execCrossFail
  refine run_frame h _ _ (fun w => ?_)
  repeat' (first | simp (disch := first | decide | (intros; simp (disch := decide) only [↓Frame.crossFail, Frame.refl])) only [↓Frame.crossFail, Frame.refl] | split)

theorem execCrossAgree_frame (x1 : ℕ) {u : State} (h : u.held = false) :
    ∃ v, execCrossAgree x1 u = .next v ∧ Frame 0x2100079d0 (u.at x1) v := by
  unfold execCrossAgree
  refine run_frame h _ _ (fun w => ?_)
  repeat' (first | simp (disch := first | decide | (intros; simp (disch := decide) only [↓Frame.crossAgree, Frame.refl])) only [↓Frame.crossAgree, Frame.refl] | split)

theorem execLeapApplied_frame (x1 : ℕ) {u : State} (h : u.held = false) :
    ∃ v, execLeapApplied x1 u = .next v ∧ Frame 0x100028d0 (u.at x1) v := by
  unfold execLeapApplied
  refine run_frame h _ _ (fun w => ?_)
  repeat' (first | simp (disch := first | decide | (intros; simp (disch := decide) only [↓Frame.leapApplied, Frame.refl])) only [↓Frame.leapApplied, Frame.refl] | split)

theorem execPpsOEdge_frame (x1 : ℕ) {u : State} (h : u.held = false) :
    ∃ v, execPpsOEdge x1 u = .next v ∧ Frame 0x2800 (u.at x1) v := by
  unfold execPpsOEdge
  refine run_frame h _ _ (fun w => ?_)
  repeat' (first | simp (disch := first | decide | (intros; simp (disch := decide) only [↓Frame.ppsOEdge, Frame.refl])) only [↓Frame.ppsOEdge, Frame.refl] | split)

theorem execPulseEdge_frame (x1 : ℕ) (x2 : ℕ) {u : State} (h : u.held = false) :
    ∃ v, execPulseEdge x1 x2 u = .next v ∧ Frame 0x2810 (u.at x1) v := by
  unfold execPulseEdge
  refine run_frame h _ _ (fun w => ?_)
  repeat' (first | simp (disch := first | decide | (intros; simp (disch := decide) only [↓Frame.pulseEdge, Frame.refl])) only [↓Frame.pulseEdge, Frame.refl] | split)

theorem execSetGrid_frame (x1 : ℕ) (x2 : Path) {u : State} (h : u.held = false) :
    ∃ v, execSetGrid x1 x2 u = .next v ∧ Frame 0x180228d8 (u.at x1) v := by
  unfold execSetGrid
  unfold command
  refine run_frame h _ _ (fun w => ?_)
  repeat' (first | simp (disch := first | decide | (intros; simp (disch := decide) only [↓Frame.ofCmdSetGrid, ↓Frame.goWrite, Frame.refl])) only [↓Frame.goWrite, Frame.refl] | split)

theorem execSetTest_frame (x1 : ℕ) (x2 : Path) {u : State} (h : u.held = false) :
    ∃ v, execSetTest x1 x2 u = .next v ∧ Frame 0x180228d8 (u.at x1) v := by
  unfold execSetTest
  unfold command
  refine run_frame h _ _ (fun w => ?_)
  repeat' (first | simp (disch := first | decide | (intros; simp (disch := decide) only [↓Frame.ofCmdSetTest, ↓Frame.goWrite, Frame.refl])) only [↓Frame.goWrite, Frame.refl] | split)

theorem execPathAccept_frame (x1 : ℕ) (x2 : Path) {u : State} (h : u.held = false) :
    ∃ v, execPathAccept x1 x2 u = .next v ∧ Frame 0x2100279d0 (u.at x1) v := by
  unfold execPathAccept
  unfold command
  refine run_frame h _ _ (fun w => ?_)
  repeat' (first | simp (disch := first | decide | (intros; simp (disch := decide) only [↓Frame.ofCmdPathAccept, ↓Frame.goWrite, Frame.refl])) only [↓Frame.goWrite, Frame.refl] | split)

theorem execClearAsym_frame (x1 : ℕ) (x2 : Path) {u : State} (h : u.held = false) :
    ∃ v, execClearAsym x1 x2 u = .next v ∧ Frame 0x100208d0 (u.at x1) v := by
  unfold execClearAsym
  unfold command
  refine run_frame h _ _ (fun w => ?_)
  repeat' (first | simp (disch := first | decide | (intros; simp (disch := decide) only [↓Frame.ofCmdClearAsym, ↓Frame.goWrite, Frame.refl])) only [↓Frame.goWrite, Frame.refl] | split)

theorem execSetUtc_frame (x1 : ℕ) (x2 : Path) {u : State} (h : u.held = false) :
    ∃ v, execSetUtc x1 x2 u = .next v ∧ Frame 0x100228d0 (u.at x1) v := by
  unfold execSetUtc
  unfold command
  refine run_frame h _ _ (fun w => ?_)
  repeat' (first | simp (disch := first | decide | (intros; simp (disch := decide) only [↓Frame.ofCmdSetUtc, ↓Frame.goWrite, Frame.refl])) only [↓Frame.goWrite, Frame.refl] | split)

theorem execPulseArm_frame (x1 : ℕ) (x2 : Path) {u : State} (h : u.held = false) :
    ∃ v, execPulseArm x1 x2 u = .next v ∧ Frame 0x100228d0 (u.at x1) v := by
  unfold execPulseArm
  unfold command
  refine run_frame h _ _ (fun w => ?_)
  repeat' (first | simp (disch := first | decide | (intros; simp (disch := decide) only [↓Frame.ofCmdPulseArm, ↓Frame.goWrite, Frame.refl])) only [↓Frame.goWrite, Frame.refl] | split)

theorem execPulseDisarm_frame (x1 : ℕ) (x2 : Path) {u : State} (h : u.held = false) :
    ∃ v, execPulseDisarm x1 x2 u = .next v ∧ Frame 0x100228d0 (u.at x1) v := by
  unfold execPulseDisarm
  unfold command
  refine run_frame h _ _ (fun w => ?_)
  repeat' (first | simp (disch := first | decide | (intros; simp (disch := decide) only [↓Frame.ofCmdPulseDisarm, ↓Frame.goWrite, Frame.refl])) only [↓Frame.goWrite, Frame.refl] | split)

theorem execFrameReceived_frame (x1 : ℕ) (x2 : ℕ) (x3 : List Byte) (x4 : ℕ) (x5 : Bool) {u : State} (h : u.held = false) :
    ∃ v, execFrameReceived x1 x2 x3 x4 x5 u = .next v ∧ Frame 0x101c08d0 (u.at x1) v := by
  unfold execFrameReceived
  refine run_frame h _ _ (fun w => ?_)
  repeat' (first | simp (disch := first | decide | (intros; simp (disch := decide) only [↓Frame.frameReceived, Frame.refl])) only [↓Frame.frameReceived, Frame.refl] | split)

theorem execLinkUp_frame (x1 : ℕ) (x2 : ℕ) (x3 : ℕ) {u : State} (h : u.held = false) :
    ∃ v, execLinkUp x1 x2 x3 u = .next v ∧ Frame 0x100008d0 (u.at x1) v := by
  unfold execLinkUp
  refine run_frame h _ _ (fun w => ?_)
  repeat' (first | simp (disch := first | decide | (intros; simp (disch := decide) only [↓Frame.portUp, Frame.refl])) only [↓Frame.portUp, Frame.refl] | split)

theorem execLinkDown_frame (x1 : ℕ) (x2 : ℕ) (x3 : ℕ) (x4 : Bool) {u : State} (h : u.held = false) :
    ∃ v, execLinkDown x1 x2 x3 x4 u = .next v ∧ Frame 0x100008d0 (u.at x1) v := by
  unfold execLinkDown
  refine run_frame h _ _ (fun w => ?_)
  repeat' (first | simp (disch := first | decide | (intros; simp (disch := decide) only [↓Frame.portDown, Frame.refl])) only [↓Frame.portDown, Frame.refl] | split)

theorem execPrpSupervision_frame (x1 : ℕ) (x2 : ℕ) {u : State} (h : u.held = false) :
    ∃ v, execPrpSupervision x1 x2 u = .next v ∧ Frame 0x80810 (u.at x1) v := by
  unfold execPrpSupervision
  refine run_frame h _ _ (fun w => ?_)
  repeat' (first | simp (disch := first | decide | (intros; simp (disch := decide) only [↓Frame.supervise, Frame.refl])) only [↓Frame.supervise, Frame.refl] | split)

theorem execPrpForget_frame (x1 : ℕ) (x2 : ℕ) (x3 : ℕ) {u : State} (h : u.held = false) :
    ∃ v, execPrpForget x1 x2 x3 u = .next v ∧ Frame 0x80000 (u.at x1) v := by
  unfold execPrpForget
  refine run_frame h _ _ (fun w => ?_)
  repeat' (first | simp (disch := first | decide | (intros; simp (disch := decide) only [↓Frame.prpForget, Frame.refl])) only [↓Frame.prpForget, Frame.refl] | split)

theorem execHostFrameSend_frame (x1 : ℕ) {u : State} (h : u.held = false) :
    ∃ v, execHostFrameSend x1 u = .next v ∧ Frame 0xe0850 (u.at x1) v := by
  unfold execHostFrameSend
  refine run_frame h _ _ (fun w => ?_)
  repeat' (first | simp (disch := first | decide | (intros; simp (disch := decide) only [↓Frame.hostFrame, Frame.refl])) only [↓Frame.hostFrame, Frame.refl] | split)

theorem execMcastWrite_frame (x1 : ℕ) (x2 : Path) {u : State} (h : u.held = false) :
    ∃ v, execMcastWrite x1 x2 u = .next v ∧ Frame 0x100a08d0 (u.at x1) v := by
  unfold execMcastWrite
  unfold command
  refine run_frame h _ _ (fun w => ?_)
  repeat' (first | simp (disch := first | decide | (intros; simp (disch := decide) only [↓Frame.ofCmdMcastWrite, ↓Frame.goWrite, Frame.refl])) only [↓Frame.goWrite, Frame.refl] | split)

theorem execMcastClear_frame (x1 : ℕ) (x2 : Path) {u : State} (h : u.held = false) :
    ∃ v, execMcastClear x1 x2 u = .next v ∧ Frame 0x100a08d0 (u.at x1) v := by
  unfold execMcastClear
  unfold command
  refine run_frame h _ _ (fun w => ?_)
  repeat' (first | simp (disch := first | decide | (intros; simp (disch := decide) only [↓Frame.ofCmdMcastClear, ↓Frame.goWrite, Frame.refl])) only [↓Frame.goWrite, Frame.refl] | split)

theorem execLinkRestart_frame (x1 : ℕ) (x2 : Path) {u : State} (h : u.held = false) :
    ∃ v, execLinkRestart x1 x2 u = .next v ∧ Frame 0x100208d0 (u.at x1) v := by
  unfold execLinkRestart
  unfold command
  refine run_frame h _ _ (fun w => ?_)
  repeat' (first | simp (disch := first | decide | (intros; simp (disch := decide) only [↓Frame.ofCmdLinkRestart, ↓Frame.goWrite, Frame.refl])) only [↓Frame.goWrite, Frame.refl] | split)

theorem execPrpFlush_frame (x1 : ℕ) (x2 : Path) {u : State} (h : u.held = false) :
    ∃ v, execPrpFlush x1 x2 u = .next v ∧ Frame 0x100a08d0 (u.at x1) v := by
  unfold execPrpFlush
  unfold command
  refine run_frame h _ _ (fun w => ?_)
  repeat' (first | simp (disch := first | decide | (intros; simp (disch := decide) only [↓Frame.ofCmdPrpFlush, ↓Frame.goWrite, Frame.refl])) only [↓Frame.goWrite, Frame.refl] | split)

theorem execC37DataFrame_frame (x1 : ℕ) {u : State} (h : u.held = false) :
    ∃ v, execC37DataFrame x1 u = .next v ∧ Frame 0x3f7c1dd0 (u.at x1) v := by
  unfold execC37DataFrame
  refine run_frame h _ _ (fun w => ?_)
  repeat' (first | simp (disch := first | decide | (intros; simp (disch := decide) only [↓Frame.c37Data, ↓Frame.loomRun, Frame.refl])) only [↓Frame.c37Data, ↓Frame.loomRun, Frame.refl] | split)

theorem execC37ConfigFrame_frame (x1 : ℕ) {u : State} (h : u.held = false) :
    ∃ v, execC37ConfigFrame x1 u = .next v ∧ Frame 0x3f340dd0 (u.at x1) v := by
  unfold execC37ConfigFrame
  refine run_frame h _ _ (fun w => ?_)
  repeat' (first | simp (disch := first | decide | (intros; simp (disch := decide) only [↓Frame.c37Config, ↓Frame.loomRun, Frame.refl])) only [↓Frame.c37Config, ↓Frame.loomRun, Frame.refl] | split)

theorem execC37HeaderFrame_frame (x1 : ℕ) {u : State} (h : u.held = false) :
    ∃ v, execC37HeaderFrame x1 u = .next v ∧ Frame 0x101408d0 (u.at x1) v := by
  unfold execC37HeaderFrame
  refine run_frame h _ _ (fun w => ?_)
  repeat' (first | simp (disch := first | decide | (intros; simp (disch := decide) only [↓Frame.c37Header, Frame.refl])) only [↓Frame.c37Header, Frame.refl] | split)

theorem execC37CommandFrame_frame (x1 : ℕ) {u : State} (h : u.held = false) :
    ∃ v, execC37CommandFrame x1 u = .next v ∧ Frame 0x101408d0 (u.at x1) v := by
  unfold execC37CommandFrame
  refine run_frame h _ _ (fun w => ?_)
  repeat' (first | simp (disch := first | decide | (intros; simp (disch := decide) only [↓Frame.c37Command, Frame.refl])) only [↓Frame.c37Command, Frame.refl] | split)

theorem execSessionPdu_frame (x1 : ℕ) {u : State} (h : u.held = false) :
    ∃ v, execSessionPdu x1 u = .next v ∧ Frame 0x3f740dd0 (u.at x1) v := by
  unfold execSessionPdu
  refine run_frame h _ _ (fun w => ?_)
  repeat' (first | simp (disch := first | decide | (intros; simp (disch := decide) only [↓Frame.loomRun, ↓Frame.sessionPdu, Frame.refl])) only [↓Frame.loomRun, ↓Frame.sessionPdu, Frame.refl] | split)

theorem execSvFrame_frame (x1 : ℕ) {u : State} (h : u.held = false) :
    ∃ v, execSvFrame x1 u = .next v ∧ Frame 0x3fb40dd0 (u.at x1) v := by
  unfold execSvFrame
  refine run_frame h _ _ (fun w => ?_)
  repeat' (first | simp (disch := first | decide | (intros; simp (disch := decide) only [↓Frame.loomRun, ↓Frame.svFrame, Frame.refl])) only [↓Frame.loomRun, ↓Frame.svFrame, Frame.refl] | split)

theorem execGooseMessage_frame (x1 : ℕ) {u : State} (h : u.held = false) :
    ∃ v, execGooseMessage x1 u = .next v ∧ Frame 0x117008d0 (u.at x1) v := by
  unfold execGooseMessage
  refine run_frame h _ _ (fun w => ?_)
  repeat' (first | simp (disch := first | decide | (intros; simp (disch := decide) only [↓Frame.gooseMessage, Frame.refl])) only [↓Frame.gooseMessage, Frame.refl] | split)

theorem execInjectedFrame_frame (x1 : ℕ) {u : State} (h : u.held = false) :
    ∃ v, execInjectedFrame x1 u = .next v ∧ Frame 0x140850 (u.at x1) v := by
  unfold execInjectedFrame
  refine run_frame h _ _ (fun w => ?_)
  repeat' (first | simp (disch := first | decide | (intros; simp (disch := decide) only [↓Frame.injected, Frame.refl])) only [↓Frame.injected, Frame.refl] | split)

theorem execSilenceTimeout_frame (x1 : ℕ) (x2 : ℕ) {u : State} (h : u.held = false) :
    ∃ v, execSilenceTimeout x1 x2 u = .next v ∧ Frame 0x3f240dd0 (u.at x1) v := by
  unfold execSilenceTimeout
  refine run_frame h _ _ (fun w => ?_)
  repeat' (first | simp (disch := first | decide | (intros; simp (disch := decide) only [↓Frame.loomRun, ↓Frame.silence, Frame.refl])) only [↓Frame.loomRun, ↓Frame.silence, Frame.refl] | split)

theorem execGooseTalExpired_frame (x1 : ℕ) (x2 : ℕ) {u : State} (h : u.held = false) :
    ∃ v, execGooseTalExpired x1 x2 u = .next v ∧ Frame 0x106008d0 (u.at x1) v := by
  unfold execGooseTalExpired
  refine run_frame h _ _ (fun w => ?_)
  repeat' (first | simp (disch := first | decide | (intros; simp (disch := decide) only [↓Frame.gooseExpired, Frame.refl])) only [↓Frame.gooseExpired, Frame.refl] | split)

theorem execDataOnRetry_frame (x1 : ℕ) (x2 : ℕ) {u : State} (h : u.held = false) :
    ∃ v, execDataOnRetry x1 x2 u = .next v ∧ Frame 0x102c18d0 (u.at x1) v := by
  unfold execDataOnRetry
  refine run_frame h _ _ (fun w => ?_)
  repeat' (first | simp (disch := first | decide | (intros; simp (disch := decide) only [↓Frame.dataOnRetry, Frame.refl])) only [↓Frame.dataOnRetry, Frame.refl] | split)

theorem execStreamState_frame (x1 : ℕ) (x2 : Path) {u : State} (h : u.held = false) :
    ∃ v, execStreamState x1 x2 u = .next v ∧ Frame 0x100208d0 (u.at x1) v := by
  unfold execStreamState
  unfold command
  refine run_frame h _ _ (fun w => ?_)
  repeat' (first | simp (disch := first | decide | (intros; simp (disch := decide) only [↓Frame.ofCmdStreamState, ↓Frame.goWrite, Frame.refl])) only [↓Frame.goWrite, Frame.refl] | split)

theorem execStreamEnable_frame (x1 : ℕ) (x2 : Path) {u : State} (h : u.held = false) :
    ∃ v, execStreamEnable x1 x2 u = .next v ∧ Frame 0x3f2e1dd0 (u.at x1) v := by
  unfold execStreamEnable
  unfold command
  refine run_frame h _ _ (fun w => ?_)
  repeat' (first | simp (disch := first | decide | (intros; simp (disch := decide) only [↓Frame.ofCmdStreamEnable, ↓Frame.goWrite, Frame.refl])) only [↓Frame.goWrite, Frame.refl] | split)

theorem execRequestCfg_frame (x1 : ℕ) (x2 : Path) {u : State} (h : u.held = false) :
    ∃ v, execRequestCfg x1 x2 u = .next v ∧ Frame 0x102e18d0 (u.at x1) v := by
  unfold execRequestCfg
  unfold command
  refine run_frame h _ _ (fun w => ?_)
  repeat' (first | simp (disch := first | decide | (intros; simp (disch := decide) only [↓Frame.ofCmdRequestCfg, ↓Frame.goWrite, Frame.refl])) only [↓Frame.goWrite, Frame.refl] | split)

theorem execKeyLoad_frame (x1 : ℕ) (x2 : Path) {u : State} (h : u.held = false) :
    ∃ v, execKeyLoad x1 x2 u = .next v ∧ Frame 0x102208d0 (u.at x1) v := by
  unfold execKeyLoad
  unfold command
  refine run_frame h _ _ (fun w => ?_)
  repeat' (first | simp (disch := first | decide | (intros; simp (disch := decide) only [↓Frame.ofCmdKeyLoad, ↓Frame.goWrite, Frame.refl])) only [↓Frame.goWrite, Frame.refl] | split)

theorem execKeyInvalidate_frame (x1 : ℕ) (x2 : Path) {u : State} (h : u.held = false) :
    ∃ v, execKeyInvalidate x1 x2 u = .next v ∧ Frame 0x102208d0 (u.at x1) v := by
  unfold execKeyInvalidate
  unfold command
  refine run_frame h _ _ (fun w => ?_)
  repeat' (first | simp (disch := first | decide | (intros; simp (disch := decide) only [↓Frame.ofCmdKeyInvalidate, ↓Frame.goWrite, Frame.refl])) only [↓Frame.goWrite, Frame.refl] | split)

theorem execReedItem_frame (x1 : ℕ) (x2 : ℕ) {u : State} (h : u.held = false) :
    ∃ v, execReedItem x1 x2 u = .next v ∧ Frame 0x225e47fdd8 (u.at x1) v := by
  unfold execReedItem
  refine run_frame h _ _ (fun w => ?_)
  repeat' (first | simp (disch := first | decide | (intros; simp (disch := decide) only [↓Frame.reedItem, Frame.refl])) only [↓Frame.reedItem, Frame.refl] | split)

theorem execWaveformSample_frame (x1 : ℕ) {u : State} (h : u.held = false) :
    ∃ v, execWaveformSample x1 u = .next v ∧ Frame 0x36801cd0 (u.at x1) v := by
  unfold execWaveformSample
  refine run_frame h _ _ (fun w => ?_)
  repeat' (first | simp (disch := first | decide | (intros; simp (disch := decide) only [↓Frame.waveSample, Frame.refl])) only [↓Frame.waveSample, Frame.refl] | split)

theorem execThreadState_frame (x1 : ℕ) (x2 : Path) {u : State} (h : u.held = false) :
    ∃ v, execThreadState x1 x2 u = .next v ∧ Frame 0x100208d0 (u.at x1) v := by
  unfold execThreadState
  unfold command
  refine run_frame h _ _ (fun w => ?_)
  repeat' (first | simp (disch := first | decide | (intros; simp (disch := decide) only [↓Frame.ofCmdThreadState, ↓Frame.goWrite, Frame.refl])) only [↓Frame.goWrite, Frame.refl] | split)

theorem execEstState_frame (x1 : ℕ) (x2 : Path) {u : State} (h : u.held = false) :
    ∃ v, execEstState x1 x2 u = .next v ∧ Frame 0x100208d0 (u.at x1) v := by
  unfold execEstState
  unfold command
  refine run_frame h _ _ (fun w => ?_)
  repeat' (first | simp (disch := first | decide | (intros; simp (disch := decide) only [↓Frame.ofCmdEstState, ↓Frame.goWrite, Frame.refl])) only [↓Frame.goWrite, Frame.refl] | split)

theorem execBankInfo_frame (x1 : ℕ) (x2 : Path) {u : State} (h : u.held = false) :
    ∃ v, execBankInfo x1 x2 u = .next v ∧ Frame 0x100208d0 (u.at x1) v := by
  unfold execBankInfo
  unfold command
  refine run_frame h _ _ (fun w => ?_)
  repeat' (first | simp (disch := first | decide | (intros; simp (disch := decide) only [↓Frame.ofCmdBankInfo, ↓Frame.goWrite, Frame.refl])) only [↓Frame.goWrite, Frame.refl] | split)

theorem execSlotInstant_frame (x1 : ℕ) (x2 : ℕ) {u : State} (h : u.held = false) :
    ∃ v, execSlotInstant x1 x2 u = .next v ∧ Frame 0x39040dd0 (u.at x1) v := by
  unfold execSlotInstant
  refine run_frame h _ _ (fun w => ?_)
  repeat' (first | simp (disch := first | decide | (intros; simp (disch := decide) only [↓Frame.slotStarts, Frame.refl])) only [↓Frame.slotStarts, Frame.refl] | split)

theorem execLoomWrite_frame (x1 : ℕ) (x2 : ℕ) {u : State} (h : u.held = false) :
    ∃ v, execLoomWrite x1 x2 u = .next v ∧ Frame 0x227d07fdd8 (u.at x1) v := by
  unfold execLoomWrite
  refine run_frame h _ _ (fun w => ?_)
  repeat' (first | simp (disch := first | decide | (intros; simp (disch := decide) only [↓Frame.loomWrite, Frame.refl])) only [↓Frame.loomWrite, Frame.refl] | split)

theorem execSetDeadline_frame (x1 : ℕ) (x2 : ℕ) {u : State} (h : u.held = false) :
    ∃ v, execSetDeadline x1 x2 u = .next v ∧ Frame 0x39040cd0 (u.at x1) v := by
  unfold execSetDeadline
  refine run_frame h _ _ (fun w => ?_)
  repeat' (first | simp (disch := first | decide | (intros; simp (disch := decide) only [↓Frame.setDeadline, Frame.refl])) only [↓Frame.setDeadline, Frame.refl] | split)

theorem execClosePipeline_frame (x1 : ℕ) (x2 : List (ℕ × ℕ × ℕ)) (x3 : List (ℕ × ℕ)) {u : State} (h : u.held = false) :
    ∃ v, execClosePipeline x1 x2 x3 u = .next v ∧ Frame 0x23f90fffd8 (u.at x1) v := by
  unfold execClosePipeline
  refine run_frame h _ _ (fun w => ?_)
  repeat' (first | simp (disch := first | decide | (intros; simp (disch := decide) only [↓Frame.closePipeline, Frame.refl])) only [↓Frame.closePipeline, Frame.refl] | split)

theorem execLearnedRefresh_frame (x1 : ℕ) {u : State} (h : u.held = false) :
    ∃ v, execLearnedRefresh x1 u = .next v ∧ Frame 0x180008d0 (u.at x1) v := by
  unfold execLearnedRefresh
  refine run_frame h _ _ (fun w => ?_)
  repeat' (first | simp (disch := first | decide | (intros; simp (disch := decide) only [↓Frame.learnedRefresh, Frame.refl])) only [↓Frame.learnedRefresh, Frame.refl] | split)

theorem execOverloadSet_frame (x1 : ℕ) (x2 : ℕ) {u : State} (h : u.held = false) :
    ∃ v, execOverloadSet x1 x2 u = .next v ∧ Frame 0x1a0019d0 (u.at x1) v := by
  unfold execOverloadSet
  refine run_frame h _ _ (fun w => ?_)
  repeat' (first | simp (disch := first | decide | (intros; simp (disch := decide) only [↓Frame.overloadSet, Frame.refl])) only [↓Frame.overloadSet, Frame.refl] | split)

theorem execOverloadClear_frame (x1 : ℕ) (x2 : ℕ) {u : State} (h : u.held = false) :
    ∃ v, execOverloadClear x1 x2 u = .next v ∧ Frame 0x1a0019d0 (u.at x1) v := by
  unfold execOverloadClear
  refine run_frame h _ _ (fun w => ?_)
  repeat' (first | simp (disch := first | decide | (intros; simp (disch := decide) only [↓Frame.overloadClear, Frame.refl])) only [↓Frame.overloadClear, Frame.refl] | split)

theorem execReadValue_frame (x1 : ℕ) (x2 : Path) {u : State} (h : u.held = false) :
    ∃ v, execReadValue x1 x2 u = .next v ∧ Frame 0x100208d0 (u.at x1) v := by
  unfold execReadValue
  unfold command
  refine run_frame h _ _ (fun w => ?_)
  repeat' (first | simp (disch := first | decide | (intros; simp (disch := decide) only [↓Frame.ofCmdReadValue, ↓Frame.goWrite, Frame.refl])) only [↓Frame.goWrite, Frame.refl] | split)

theorem execQuantile_frame (x1 : ℕ) (x2 : Path) {u : State} (h : u.held = false) :
    ∃ v, execQuantile x1 x2 u = .next v ∧ Frame 0x100208d0 (u.at x1) v := by
  unfold execQuantile
  unfold command
  refine run_frame h _ _ (fun w => ?_)
  repeat' (first | simp (disch := first | decide | (intros; simp (disch := decide) only [↓Frame.ofCmdQuantile, ↓Frame.goWrite, Frame.refl])) only [↓Frame.goWrite, Frame.refl] | split)

theorem execHistReset_frame (x1 : ℕ) (x2 : Path) {u : State} (h : u.held = false) :
    ∃ v, execHistReset x1 x2 u = .next v ∧ Frame 0x10020cd0 (u.at x1) v := by
  unfold execHistReset
  unfold command
  refine run_frame h _ _ (fun w => ?_)
  repeat' (first | simp (disch := first | decide | (intros; simp (disch := decide) only [↓Frame.ofCmdHistReset, ↓Frame.goWrite, Frame.refl])) only [↓Frame.goWrite, Frame.refl] | split)

theorem execWeft_frame (x1 : ℕ) (x2 : Path) {u : State} (h : u.held = false) :
    ∃ v, execWeft x1 x2 u = .next v ∧ Frame 0x100208d0 (u.at x1) v := by
  unfold execWeft
  unfold command
  refine run_frame h _ _ (fun w => ?_)
  repeat' (first | simp (disch := first | decide | (intros; simp (disch := decide) only [↓Frame.ofCmdWeft, ↓Frame.goWrite, Frame.refl])) only [↓Frame.goWrite, Frame.refl] | split)

theorem execCloseNow_frame (x1 : ℕ) (x2 : Path) {u : State} (h : u.held = false) :
    ∃ v, execCloseNow x1 x2 u = .next v ∧ Frame 0x39060dd0 (u.at x1) v := by
  unfold execCloseNow
  unfold command
  refine run_frame h _ _ (fun w => ?_)
  repeat' (first | simp (disch := first | decide | (intros; simp (disch := decide) only [↓Frame.ofCmdCloseNow, ↓Frame.goWrite, Frame.refl])) only [↓Frame.goWrite, Frame.refl] | split)

theorem execTrackerStale_frame (x1 : ℕ) (x2 : ℕ) {u : State} (h : u.held = false) :
    ∃ v, execTrackerStale x1 x2 u = .next v ∧ Frame 0x900008d0 (u.at x1) v := by
  unfold execTrackerStale
  refine run_frame h _ _ (fun w => ?_)
  repeat' (first | simp (disch := first | decide | (intros; simp (disch := decide) only [↓Frame.trackerStale, Frame.refl])) only [↓Frame.trackerStale, Frame.refl] | split)

theorem execCkptArchive_frame (x1 : ℕ) (x2 : ℕ) {u : State} (h : u.held = false) :
    ∃ v, execCkptArchive x1 x2 u = .next v ∧ Frame 0x22d807ffd8 (u.at x1) v := by
  unfold execCkptArchive
  refine run_frame h _ _ (fun w => ?_)
  repeat' (first | simp (disch := first | decide | (intros; simp (disch := decide) only [↓Frame.ckptArchive, Frame.refl])) only [↓Frame.ckptArchive, Frame.refl] | split)

theorem execShapeReport_frame (x1 : ℕ) (x2 : ℕ) {u : State} (h : u.held = false) :
    ∃ v, execShapeReport x1 x2 u = .next v ∧ Frame 0x900418d0 (u.at x1) v := by
  unfold execShapeReport
  refine run_frame h _ _ (fun w => ?_)
  repeat' (first | simp (disch := first | decide | (intros; simp (disch := decide) only [↓Frame.shapeReport, Frame.refl])) only [↓Frame.shapeReport, Frame.refl] | split)

theorem execTrackerRead_frame (x1 : ℕ) (x2 : Path) {u : State} (h : u.held = false) :
    ∃ v, execTrackerRead x1 x2 u = .next v ∧ Frame 0x100208d0 (u.at x1) v := by
  unfold execTrackerRead
  unfold command
  refine run_frame h _ _ (fun w => ?_)
  repeat' (first | simp (disch := first | decide | (intros; simp (disch := decide) only [↓Frame.ofCmdTrackerRead, ↓Frame.goWrite, Frame.refl])) only [↓Frame.goWrite, Frame.refl] | split)

theorem execSpectrumRead_frame (x1 : ℕ) (x2 : Path) {u : State} (h : u.held = false) :
    ∃ v, execSpectrumRead x1 x2 u = .next v ∧ Frame 0x100208d0 (u.at x1) v := by
  unfold execSpectrumRead
  unfold command
  refine run_frame h _ _ (fun w => ?_)
  repeat' (first | simp (disch := first | decide | (intros; simp (disch := decide) only [↓Frame.ofCmdSpectrumRead, ↓Frame.goWrite, Frame.refl])) only [↓Frame.goWrite, Frame.refl] | split)

theorem execTrackerReset_frame (x1 : ℕ) (x2 : Path) {u : State} (h : u.held = false) :
    ∃ v, execTrackerReset x1 x2 u = .next v ∧ Frame 0x900208d0 (u.at x1) v := by
  unfold execTrackerReset
  unfold command
  refine run_frame h _ _ (fun w => ?_)
  repeat' (first | simp (disch := first | decide | (intros; simp (disch := decide) only [↓Frame.ofCmdTrackerReset, ↓Frame.goWrite, Frame.refl])) only [↓Frame.goWrite, Frame.refl] | split)

theorem execCkptSave_frame (x1 : ℕ) (x2 : Path) {u : State} (h : u.held = false) :
    ∃ v, execCkptSave x1 x2 u = .next v ∧ Frame 0x22d807ffd8 (u.at x1) v := by
  unfold execCkptSave
  unfold command
  refine run_frame h _ _ (fun w => ?_)
  repeat' (first | simp (disch := first | decide | (intros; simp (disch := decide) only [↓Frame.ofCmdCkptSave, ↓Frame.goWrite, Frame.refl])) only [↓Frame.goWrite, Frame.refl] | split)

theorem execScTimeout_frame (x1 : ℕ) {u : State} (h : u.held = false) :
    ∃ v, execScTimeout x1 u = .next v ∧ Frame 0x1100009d0 (u.at x1) v := by
  unfold execScTimeout
  refine run_frame h _ _ (fun w => ?_)
  repeat' (first | simp (disch := first | decide | (intros; simp (disch := decide) only [↓Frame.scTimeout, Frame.refl])) only [↓Frame.scTimeout, Frame.refl] | split)

theorem execAreaRead_frame (x1 : ℕ) (x2 : Path) {u : State} (h : u.held = false) :
    ∃ v, execAreaRead x1 x2 u = .next v ∧ Frame 0x100208d0 (u.at x1) v := by
  unfold execAreaRead
  unfold command
  refine run_frame h _ _ (fun w => ?_)
  repeat' (first | simp (disch := first | decide | (intros; simp (disch := decide) only [↓Frame.ofCmdAreaRead, ↓Frame.goWrite, Frame.refl])) only [↓Frame.goWrite, Frame.refl] | split)

theorem execScStart_frame (x1 : ℕ) (x2 : Path) {u : State} (h : u.held = false) :
    ∃ v, execScStart x1 x2 u = .next v ∧ Frame 0x1100209d0 (u.at x1) v := by
  unfold execScStart
  unfold command
  refine run_frame h _ _ (fun w => ?_)
  repeat' (first | simp (disch := first | decide | (intros; simp (disch := decide) only [↓Frame.ofCmdScStart, ↓Frame.goWrite, Frame.refl])) only [↓Frame.goWrite, Frame.refl] | split)

theorem execScStop_frame (x1 : ℕ) (x2 : Path) {u : State} (h : u.held = false) :
    ∃ v, execScStop x1 x2 u = .next v ∧ Frame 0x1100209d0 (u.at x1) v := by
  unfold execScStop
  unfold command
  refine run_frame h _ _ (fun w => ?_)
  repeat' (first | simp (disch := first | decide | (intros; simp (disch := decide) only [↓Frame.ofCmdScStop, ↓Frame.goWrite, Frame.refl])) only [↓Frame.goWrite, Frame.refl] | split)

theorem execTieForce_frame (x1 : ℕ) (x2 : Path) {u : State} (h : u.held = false) :
    ∃ v, execTieForce x1 x2 u = .next v ∧ Frame 0x1100208d0 (u.at x1) v := by
  unfold execTieForce
  unfold command
  refine run_frame h _ _ (fun w => ?_)
  repeat' (first | simp (disch := first | decide | (intros; simp (disch := decide) only [↓Frame.ofCmdTieForce, ↓Frame.goWrite, Frame.refl])) only [↓Frame.goWrite, Frame.refl] | split)

theorem execGooseRepeat_frame (x1 : ℕ) (x2 : ℕ) {u : State} (h : u.held = false) :
    ∃ v, execGooseRepeat x1 x2 u = .next v ∧ Frame 0x85810 (u.at x1) v := by
  unfold execGooseRepeat
  refine run_frame h _ _ (fun w => ?_)
  repeat' (first | simp (disch := first | decide | (intros; simp (disch := decide) only [↓Frame.gooseRepeat, Frame.refl])) only [↓Frame.gooseRepeat, Frame.refl] | split)

theorem execPinMismatch_frame (x1 : ℕ) (x2 : ℕ) (x3 : Bool) {u : State} (h : u.held = false) :
    ∃ v, execPinMismatch x1 x2 x3 u = .next v ∧ Frame 0x100008d0 (u.at x1) v := by
  unfold execPinMismatch
  refine run_frame h _ _ (fun w => ?_)
  repeat' (first | simp (disch := first | decide | (intros; simp (disch := decide) only [↓Frame.pinMismatch, Frame.refl])) only [↓Frame.pinMismatch, Frame.refl] | split)

theorem execPointRead_frame (x1 : ℕ) (x2 : Path) {u : State} (h : u.held = false) :
    ∃ v, execPointRead x1 x2 u = .next v ∧ Frame 0x100208d0 (u.at x1) v := by
  unfold execPointRead
  unfold command
  refine run_frame h _ _ (fun w => ?_)
  repeat' (first | simp (disch := first | decide | (intros; simp (disch := decide) only [↓Frame.ofCmdPointRead, ↓Frame.goWrite, Frame.refl])) only [↓Frame.goWrite, Frame.refl] | split)

theorem execResetLatch_frame (x1 : ℕ) (x2 : Path) {u : State} (h : u.held = false) :
    ∃ v, execResetLatch x1 x2 u = .next v ∧ Frame 0x2110648d0 (u.at x1) v := by
  unfold execResetLatch
  unfold command
  refine run_frame h _ _ (fun w => ?_)
  repeat' (first | simp (disch := first | decide | (intros; simp (disch := decide) only [↓Frame.ofCmdResetLatch, ↓Frame.goWrite, Frame.refl])) only [↓Frame.goWrite, Frame.refl] | split)

theorem execPinTest_frame (x1 : ℕ) (x2 : Path) {u : State} (h : u.held = false) :
    ∃ v, execPinTest x1 x2 u = .next v ∧ Frame 0x2100248d0 (u.at x1) v := by
  unfold execPinTest
  unfold command
  refine run_frame h _ _ (fun w => ?_)
  repeat' (first | simp (disch := first | decide | (intros; simp (disch := decide) only [↓Frame.ofCmdPinTest, ↓Frame.goWrite, Frame.refl])) only [↓Frame.goWrite, Frame.refl] | split)

theorem execPinTestEnd_frame (x1 : ℕ) {u : State} (h : u.held = false) :
    ∃ v, execPinTestEnd x1 u = .next v ∧ Frame 0x200004810 (u.at x1) v := by
  unfold execPinTestEnd
  refine run_frame h _ _ (fun w => ?_)
  repeat' (first | simp (disch := first | decide | (intros; simp (disch := decide) only [↓Frame.pinTestEnd, Frame.refl])) only [↓Frame.pinTestEnd, Frame.refl] | split)

theorem execLaneResync_frame (x1 : ℕ) (x2 : Path) {u : State} (h : u.held = false) :
    ∃ v, execLaneResync x1 x2 u = .next v ∧ Frame 0x100248d0 (u.at x1) v := by
  unfold execLaneResync
  unfold command
  refine run_frame h _ _ (fun w => ?_)
  repeat' (first | simp (disch := first | decide | (intros; simp (disch := decide) only [↓Frame.ofCmdLaneResync, ↓Frame.goWrite, Frame.refl])) only [↓Frame.goWrite, Frame.refl] | split)

theorem execRetryComplete_frame (x1 : ℕ) (x2 : ℕ) (x3 : ℕ) (x4 : Bool) (x5 : Bool) (x6 : MemOwner) {u : State} (h : u.held = false) :
    ∃ v, execRetryComplete x1 x2 x3 x4 x5 x6 u = .next v ∧ Frame 0x23fa07fdd8 (u.at x1) v := by
  unfold execRetryComplete
  refine run_frame h _ _ (fun w => ?_)
  repeat' (first | simp (disch := first | decide | (intros; simp (disch := decide) only [↓Frame.retryComplete, Frame.refl])) only [↓Frame.retryComplete, Frame.refl] | split)

theorem execConfigScan_frame (x1 : ℕ) (x2 : ℕ) (x3 : ℕ) {u : State} (h : u.held = false) :
    ∃ v, execConfigScan x1 x2 x3 u = .next v ∧ Frame 0x225807fdd8 (u.at x1) v := by
  unfold execConfigScan
  refine run_frame h _ _ (fun w => ?_)
  repeat' (first | simp (disch := first | decide | (intros; simp (disch := decide) only [↓Frame.scanFails, Frame.refl])) only [↓Frame.scanFails, Frame.refl] | split)

theorem execShadowScan_frame (x1 : ℕ) (x2 : ℕ) {u : State} (h : u.held = false) :
    ∃ v, execShadowScan x1 x2 u = .next v ∧ Frame 0x225807fdd8 (u.at x1) v := by
  unfold execShadowScan
  refine run_frame h _ _ (fun w => ?_)
  repeat' (first | simp (disch := first | decide | (intros; simp (disch := decide) only [↓Frame.scanFails, Frame.refl])) only [↓Frame.scanFails, Frame.refl] | split)

theorem execScrub_frame (x1 : ℕ) (x2 : Bool) (x3 : ScrubFind) {u : State} (h : u.held = false) :
    ∃ v, execScrub x1 x2 x3 u = .next v ∧ Frame 0x23fa07fdd8 (u.at x1) v := by
  unfold execScrub
  refine run_frame h _ _ (fun w => ?_)
  repeat' (first | simp (disch := first | decide | (intros; simp (disch := decide) only [↓Frame.scrub, Frame.refl])) only [↓Frame.scrub, Frame.refl] | split)

theorem execRestored_frame (x1 : ℕ) (x2 : ℕ) {u : State} (h : u.held = false) :
    ∃ v, execRestored x1 x2 u = .next v ∧ Frame 0x100088d0 (u.at x1) v := by
  unfold execRestored
  refine run_frame h _ _ (fun w => ?_)
  repeat' (first | simp (disch := first | decide | (intros; simp (disch := decide) only [↓Frame.restored, Frame.refl])) only [↓Frame.restored, Frame.refl] | split)

theorem execHoldExpired_frame (x1 : ℕ) {u : State} (h : u.held = false) :
    ∃ v, execHoldExpired x1 u = .next v ∧ Frame 0x21000c8d0 (u.at x1) v := by
  unfold execHoldExpired
  refine run_frame h _ _ (fun w => ?_)
  repeat' (first | simp (disch := first | decide | (intros; simp (disch := decide) only [↓Frame.holdExpired, Frame.refl])) only [↓Frame.holdExpired, Frame.refl] | split)

theorem execElementRead_frame (x1 : ℕ) (x2 : Path) {u : State} (h : u.held = false) :
    ∃ v, execElementRead x1 x2 u = .next v ∧ Frame 0x100208d0 (u.at x1) v := by
  unfold execElementRead
  unfold command
  refine run_frame h _ _ (fun w => ?_)
  repeat' (first | simp (disch := first | decide | (intros; simp (disch := decide) only [↓Frame.ofCmdElementRead, ↓Frame.goWrite, Frame.refl])) only [↓Frame.goWrite, Frame.refl] | split)

theorem execInject_frame (x1 : ℕ) (x2 : Path) {u : State} (h : u.held = false) :
    ∃ v, execInject x1 x2 u = .next v ∧ Frame 0x23fa07fdd8 (u.at x1) v := by
  unfold execInject
  unfold command
  refine run_frame h _ _ (fun w => ?_)
  repeat' (first | simp (disch := first | decide | (intros; simp (disch := decide) only [↓Frame.ofCmdInject, ↓Frame.goWrite, Frame.refl])) only [↓Frame.goWrite, Frame.refl] | split)

theorem execRestore_frame (x1 : ℕ) (x2 : Path) {u : State} (h : u.held = false) :
    ∃ v, execRestore x1 x2 u = .next v ∧ Frame 0x25803fdd8 (u.at x1) v := by
  unfold execRestore
  unfold command
  refine run_frame h _ _ (fun w => ?_)
  repeat' (first | simp (disch := first | decide | (intros; simp (disch := decide) only [↓Frame.ofCmdRestore, ↓Frame.goWrite, Frame.refl])) only [↓Frame.goWrite, Frame.refl] | split)

theorem execHoldRelease_frame (x1 : ℕ) (x2 : Path) {u : State} (h : u.held = false) :
    ∃ v, execHoldRelease x1 x2 u = .next v ∧ Frame 0x21002c8d0 (u.at x1) v := by
  unfold execHoldRelease
  unfold command
  refine run_frame h _ _ (fun w => ?_)
  repeat' (first | simp (disch := first | decide | (intros; simp (disch := decide) only [↓Frame.ofCmdHoldRelease, ↓Frame.goWrite, Frame.refl])) only [↓Frame.goWrite, Frame.refl] | split)

theorem execCountersClear_frame (x1 : ℕ) (x2 : Path) {u : State} (h : u.held = false) :
    ∃ v, execCountersClear x1 x2 u = .next v ∧ Frame 0x100208d0 (u.at x1) v := by
  unfold execCountersClear
  unfold command
  refine run_frame h _ _ (fun w => ?_)
  repeat' (first | simp (disch := first | decide | (intros; simp (disch := decide) only [↓Frame.ofCmdCountersClear, ↓Frame.goWrite, Frame.refl])) only [↓Frame.goWrite, Frame.refl] | split)

theorem execPartnerClaim_frame (x1 : ℕ) (x2 : ℕ) (x3 : ℕ) {u : State} (h : u.held = false) :
    ∃ v, execPartnerClaim x1 x2 x3 u = .next v ∧ Frame 0x2500149d0 (u.at x1) v := by
  unfold execPartnerClaim
  refine run_frame h _ _ (fun w => ?_)
  repeat' (first | simp (disch := first | decide | (intros; simp (disch := decide) only [↓Frame.partnerClaimEdge, Frame.refl])) only [↓Frame.partnerClaimEdge, Frame.refl] | split)

theorem execPartnerLost_frame (x1 : ℕ) {u : State} (h : u.held = false) :
    ∃ v, execPartnerLost x1 u = .next v ∧ Frame 0x2500149d0 (u.at x1) v := by
  unfold execPartnerLost
  refine run_frame h _ _ (fun w => ?_)
  repeat' (first | simp (disch := first | decide | (intros; simp (disch := decide) only [↓Frame.partnerLost, Frame.refl])) only [↓Frame.partnerLost, Frame.refl] | split)

theorem execClaimRaise_frame (x1 : ℕ) {u : State} (h : u.held = false) :
    ∃ v, execClaimRaise x1 u = .next v ∧ Frame 0x100108d0 (u.at x1) v := by
  unfold execClaimRaise
  refine run_frame h _ _ (fun w => ?_)
  repeat' (first | simp (disch := first | decide | (intros; simp (disch := decide) only [↓Frame.claimRaise, Frame.refl])) only [↓Frame.claimRaise, Frame.refl] | split)

theorem execIntlkPull_frame (x1 : ℕ) (x2 : Bool) {u : State} (h : u.held = false) :
    ∃ v, execIntlkPull x1 x2 u = .next v ∧ Frame 0x2500149d0 (u.at x1) v := by
  unfold execIntlkPull
  refine run_frame h _ _ (fun w => ?_)
  repeat' (first | simp (disch := first | decide | (intros; simp (disch := decide) only [↓Frame.intlkPull, Frame.refl])) only [↓Frame.intlkPull, Frame.refl] | split)

theorem execHelloSend_frame (x1 : ℕ) {u : State} (h : u.held = false) :
    ∃ v, execHelloSend x1 u = .next v ∧ Frame 0x10010810 (u.at x1) v := by
  unfold execHelloSend
  refine run_frame h _ _ (fun w => ?_)
  repeat' (first | simp (disch := first | decide | (intros; simp (disch := decide) only [↓Frame.sendHello, Frame.refl])) only [↓Frame.sendHello, Frame.refl] | split)

theorem execMirrorHello_frame (x1 : ℕ) (x2 : List Byte) {u : State} (h : u.held = false) :
    ∃ v, execMirrorHello x1 x2 u = .next v ∧ Frame 0x2500149d0 (u.at x1) v := by
  unfold execMirrorHello
  refine run_frame h _ _ (fun w => ?_)
  repeat' (first | simp (disch := first | decide | (intros; simp (disch := decide) only [↓Frame.hello, ↓Frame.mirrorArrives, Frame.refl])) only [↓Frame.mirrorArrives, Frame.refl] | split)

theorem execIntentSend_frame (x1 : ℕ) (x2 : ℕ) {u : State} (h : u.held = false) :
    ∃ v, execIntentSend x1 x2 u = .next v ∧ Frame 0x50000810 (u.at x1) v := by
  unfold execIntentSend
  refine run_frame h _ _ (fun w => ?_)
  repeat' (first | simp (disch := first | decide | (intros; simp (disch := decide) only [↓Frame.intentSend, Frame.refl])) only [↓Frame.intentSend, Frame.refl] | split)

theorem execMirrorIntent_frame (x1 : ℕ) (x2 : List Byte) {u : State} (h : u.held = false) :
    ∃ v, execMirrorIntent x1 x2 u = .next v ∧ Frame 0x10000010 (u.at x1) v := by
  unfold execMirrorIntent
  refine run_frame h _ _ (fun w => ?_)
  repeat' (first | simp (disch := first | decide | (intros; simp (disch := decide) only [↓Frame.mirrorArrives, ↓Frame.takeIntent, Frame.refl])) only [↓Frame.mirrorArrives, Frame.refl] | split)

theorem execMirrorLatch_frame (x1 : ℕ) (x2 : List Byte) {u : State} (h : u.held = false) :
    ∃ v, execMirrorLatch x1 x2 u = .next v ∧ Frame 0x210004810 (u.at x1) v := by
  unfold execMirrorLatch
  refine run_frame h _ _ (fun w => ?_)
  repeat' (first | simp (disch := first | decide | (intros; simp (disch := decide) only [↓Frame.adopt, ↓Frame.takeLatch, Frame.refl])) only [↓Frame.adopt, Frame.refl] | split)

theorem execMirrorGoose_frame (x1 : ℕ) (x2 : List Byte) {u : State} (h : u.held = false) :
    ∃ v, execMirrorGoose x1 x2 u = .next v ∧ Frame 0x10010010 (u.at x1) v := by
  unfold execMirrorGoose
  refine run_frame h _ _ (fun w => ?_)
  repeat' (first | simp (disch := first | decide | (intros; simp (disch := decide) only [↓Frame.adopt, ↓Frame.takeGoose, Frame.refl])) only [↓Frame.adopt, Frame.refl] | split)

theorem execMirrorEnergy_frame (x1 : ℕ) (x2 : List Byte) {u : State} (h : u.held = false) :
    ∃ v, execMirrorEnergy x1 x2 u = .next v ∧ Frame 0x10010010 (u.at x1) v := by
  unfold execMirrorEnergy
  refine run_frame h _ _ (fun w => ?_)
  repeat' (first | simp (disch := first | decide | (intros; simp (disch := decide) only [↓Frame.adopt, ↓Frame.takeEnergy, Frame.refl])) only [↓Frame.adopt, Frame.refl] | split)

theorem execMirrorLedger_frame (x1 : ℕ) (x2 : List Byte) {u : State} (h : u.held = false) :
    ∃ v, execMirrorLedger x1 x2 u = .next v ∧ Frame 0x10010010 (u.at x1) v := by
  unfold execMirrorLedger
  refine run_frame h _ _ (fun w => ?_)
  repeat' (first | simp (disch := first | decide | (intros; simp (disch := decide) only [↓Frame.adopt, ↓Frame.takeLedger, Frame.refl])) only [↓Frame.adopt, Frame.refl] | split)

theorem execMirrorCkpt_frame (x1 : ℕ) (x2 : List Byte) {u : State} (h : u.held = false) :
    ∃ v, execMirrorCkpt x1 x2 u = .next v ∧ Frame 0x900108d0 (u.at x1) v := by
  unfold execMirrorCkpt
  refine run_frame h _ _ (fun w => ?_)
  repeat' (first | simp (disch := first | decide | (intros; simp (disch := decide) only [↓Frame.adopt, ↓Frame.takeCkpt, Frame.refl])) only [↓Frame.adopt, Frame.refl] | split)

theorem execMirrorCapt_frame (x1 : ℕ) (x2 : List Byte) {u : State} (h : u.held = false) :
    ∃ v, execMirrorCapt x1 x2 u = .next v ∧ Frame 0x300008d0 (u.at x1) v := by
  unfold execMirrorCapt
  refine run_frame h _ _ (fun w => ?_)
  repeat' (first | simp (disch := first | decide | (intros; simp (disch := decide) only [↓Frame.adopt, ↓Frame.takeCapt, Frame.refl])) only [↓Frame.adopt, Frame.refl] | split)

theorem execMirrorFull_frame (x1 : ℕ) (x2 : List Byte) {u : State} (h : u.held = false) :
    ∃ v, execMirrorFull x1 x2 u = .next v ∧ Frame 0x2300148d0 (u.at x1) v := by
  unfold execMirrorFull
  refine run_frame h _ _ (fun w => ?_)
  repeat' (first | simp (disch := first | decide | (intros; simp (disch := decide) only [↓Frame.adopt, ↓Frame.takeFull, Frame.refl])) only [↓Frame.adopt, Frame.refl] | split)

theorem execEnergyMirrorSend_frame (x1 : ℕ) {u : State} (h : u.held = false) :
    ∃ v, execEnergyMirrorSend x1 u = .next v ∧ Frame 0x10010810 (u.at x1) v := by
  unfold execEnergyMirrorSend
  refine run_frame h _ _ (fun w => ?_)
  repeat' (first | simp (disch := first | decide | (intros; simp (disch := decide) only [↓Frame.energyMirrorSend, Frame.refl])) only [↓Frame.energyMirrorSend, Frame.refl] | split)

theorem execCkptMirrorSend_frame (x1 : ℕ) {u : State} (h : u.held = false) :
    ∃ v, execCkptMirrorSend x1 u = .next v ∧ Frame 0x10010810 (u.at x1) v := by
  unfold execCkptMirrorSend
  refine run_frame h _ _ (fun w => ?_)
  repeat' (first | simp (disch := first | decide | (intros; simp (disch := decide) only [↓Frame.ckptMirrorSend, Frame.refl])) only [↓Frame.ckptMirrorSend, Frame.refl] | split)

theorem execYield_frame (x1 : ℕ) (x2 : Path) {u : State} (h : u.held = false) :
    ∃ v, execYield x1 x2 u = .next v ∧ Frame 0x2500349d0 (u.at x1) v := by
  unfold execYield
  unfold command
  refine run_frame h _ _ (fun w => ?_)
  repeat' (first | simp (disch := first | decide | (intros; simp (disch := decide) only [↓Frame.ofCmdYield, ↓Frame.goWrite, Frame.refl])) only [↓Frame.goWrite, Frame.refl] | split)

theorem execYieldApplied_frame (x1 : ℕ) {u : State} (h : u.held = false) :
    ∃ v, execYieldApplied x1 u = .next v ∧ Frame 0x2500149d0 (u.at x1) v := by
  unfold execYieldApplied
  refine run_frame h _ _ (fun w => ?_)
  repeat' (first | simp (disch := first | decide | (intros; simp (disch := decide) only [↓Frame.yieldApplied, Frame.refl])) only [↓Frame.yieldApplied, Frame.refl] | split)

theorem execReclaim_frame (x1 : ℕ) (x2 : Path) {u : State} (h : u.held = false) :
    ∃ v, execReclaim x1 x2 u = .next v ∧ Frame 0x100308d0 (u.at x1) v := by
  unfold execReclaim
  unfold command
  refine run_frame h _ _ (fun w => ?_)
  repeat' (first | simp (disch := first | decide | (intros; simp (disch := decide) only [↓Frame.ofCmdReclaim, ↓Frame.goWrite, Frame.refl])) only [↓Frame.goWrite, Frame.refl] | split)

theorem execMirrorSync_frame (x1 : ℕ) (x2 : Path) {u : State} (h : u.held = false) :
    ∃ v, execMirrorSync x1 x2 u = .next v ∧ Frame 0x100208d0 (u.at x1) v := by
  unfold execMirrorSync
  unfold command
  refine run_frame h _ _ (fun w => ?_)
  repeat' (first | simp (disch := first | decide | (intros; simp (disch := decide) only [↓Frame.ofCmdMirrorSync, ↓Frame.goWrite, Frame.refl])) only [↓Frame.goWrite, Frame.refl] | split)

theorem execTrainCell_frame (x1 : ℕ) (x2 : ℕ) (x3 : List Byte) {u : State} (h : u.held = false) :
    ∃ v, execTrainCell x1 x2 x3 u = .next v ∧ Frame 0x100008d0 (u.at x1) v := by
  unfold execTrainCell
  refine run_frame h _ _ (fun w => ?_)
  repeat' (first | simp (disch := first | decide | (intros; simp (disch := decide) only [↓Frame.trainCell, Frame.refl])) only [↓Frame.trainCell, Frame.refl] | split)

theorem execHeartbeatCell_frame (x1 : ℕ) (x2 : ℕ) (x3 : List Byte) {u : State} (h : u.held = false) :
    ∃ v, execHeartbeatCell x1 x2 x3 u = .next v ∧ Frame 0x225807fdd8 (u.at x1) v := by
  unfold execHeartbeatCell
  refine run_frame h _ _ (fun w => ?_)
  repeat' (first | simp (disch := first | decide | (intros; simp (disch := decide) only [↓Frame.beatCell, Frame.refl])) only [↓Frame.beatCell, Frame.refl] | split)

theorem execHeartbeatSend_frame (x1 : ℕ) (x2 : ℕ) {u : State} (h : u.held = false) :
    ∃ v, execHeartbeatSend x1 x2 u = .next v ∧ Frame 0x10000810 (u.at x1) v := by
  unfold execHeartbeatSend
  refine run_frame h _ _ (fun w => ?_)
  repeat' (first | simp (disch := first | decide | (intros; simp (disch := decide) only [↓Frame.beatSend, Frame.refl])) only [↓Frame.beatSend, Frame.refl] | split)

theorem execLinkSilent_frame (x1 : ℕ) (x2 : ℕ) {u : State} (h : u.held = false) :
    ∃ v, execLinkSilent x1 x2 u = .next v ∧ Frame 0x225807fdd8 (u.at x1) v := by
  unfold execLinkSilent
  refine run_frame h _ _ (fun w => ?_)
  repeat' (first | simp (disch := first | decide | (intros; simp (disch := decide) only [↓Frame.linkSilent, Frame.refl])) only [↓Frame.linkSilent, Frame.refl] | split)

theorem execNakCell_frame (x1 : ℕ) (x2 : ℕ) (x3 : List Byte) {u : State} (h : u.held = false) :
    ∃ v, execNakCell x1 x2 x3 u = .next v ∧ Frame 0x225807fdd8 (u.at x1) v := by
  unfold execNakCell
  refine run_frame h _ _ (fun w => ?_)
  repeat' (first | simp (disch := first | decide | (intros; simp (disch := decide) only [↓Frame.nakCell, Frame.refl])) only [↓Frame.nakCell, Frame.refl] | split)

theorem execRetransmit_frame (x1 : ℕ) (x2 : ℕ) {u : State} (h : u.held = false) :
    ∃ v, execRetransmit x1 x2 u = .next v ∧ Frame 0x225807fdd8 (u.at x1) v := by
  unfold execRetransmit
  refine run_frame h _ _ (fun w => ?_)
  repeat' (first | simp (disch := first | decide | (intros; simp (disch := decide) only [↓Frame.retransmit, Frame.refl])) only [↓Frame.retransmit, Frame.refl] | split)

theorem execRetryFail_frame (x1 : ℕ) (x2 : ℕ) {u : State} (h : u.held = false) :
    ∃ v, execRetryFail x1 x2 u = .next v ∧ Frame 0x225807fdd8 (u.at x1) v := by
  unfold execRetryFail
  refine run_frame h _ _ (fun w => ?_)
  repeat' (first | simp (disch := first | decide | (intros; simp (disch := decide) only [↓Frame.retryFail, Frame.refl])) only [↓Frame.retryFail, Frame.refl] | split)

theorem execAutoRestart_frame (x1 : ℕ) (x2 : ℕ) {u : State} (h : u.held = false) :
    ∃ v, execAutoRestart x1 x2 u = .next v ∧ Frame 0x10000010 (u.at x1) v := by
  unfold execAutoRestart
  refine run_frame h _ _ (fun w => ?_)
  repeat' (first | simp (disch := first | decide | (intros; simp (disch := decide) only [↓Frame.autoRestart, Frame.refl])) only [↓Frame.autoRestart, Frame.refl] | split)

theorem execBringupRetry_frame (x1 : ℕ) (x2 : ℕ) {u : State} (h : u.held = false) :
    ∃ v, execBringupRetry x1 x2 u = .next v ∧ Frame 0x10000010 (u.at x1) v := by
  unfold execBringupRetry
  refine run_frame h _ _ (fun w => ?_)
  repeat' (first | simp (disch := first | decide | (intros; simp (disch := decide) only [↓Frame.bringupRetry, Frame.refl])) only [↓Frame.bringupRetry, Frame.refl] | split)

theorem execCellTransmit_frame (x1 : ℕ) (x2 : ℕ) {u : State} (h : u.held = false) :
    ∃ v, execCellTransmit x1 x2 u = .next v ∧ Frame 0x10000810 (u.at x1) v := by
  unfold execCellTransmit
  refine run_frame h _ _ (fun w => ?_)
  repeat' (first | simp (disch := first | decide | (intros; simp (disch := decide) only [↓Frame.cellTransmit, Frame.refl])) only [↓Frame.cellTransmit, Frame.refl] | split)

theorem execSlotHeadCell_frame (x1 : ℕ) (x2 : ℕ) (x3 : List Byte) {u : State} (h : u.held = false) :
    ∃ v, execSlotHeadCell x1 x2 x3 u = .next v ∧ Frame 0x300488d0 (u.at x1) v := by
  unfold execSlotHeadCell
  refine run_frame h _ _ (fun w => ?_)
  repeat' (first | simp (disch := first | decide | (intros; simp (disch := decide) only [↓Frame.slotish, Frame.refl])) only [↓Frame.slotish, Frame.refl] | split)

theorem execSlotDataCell_frame (x1 : ℕ) (x2 : ℕ) (x3 : List Byte) {u : State} (h : u.held = false) :
    ∃ v, execSlotDataCell x1 x2 x3 u = .next v ∧ Frame 0x300488d0 (u.at x1) v := by
  unfold execSlotDataCell
  refine run_frame h _ _ (fun w => ?_)
  repeat' (first | simp (disch := first | decide | (intros; simp (disch := decide) only [↓Frame.slotish, Frame.refl])) only [↓Frame.slotish, Frame.refl] | split)

theorem execTruncationTimeout_frame (x1 : ℕ) (x2 : ℕ) (x3 : ℕ) {u : State} (h : u.held = false) :
    ∃ v, execTruncationTimeout x1 x2 x3 u = .next v ∧ Frame 0x100408d0 (u.at x1) v := by
  unfold execTruncationTimeout
  refine run_frame h _ _ (fun w => ?_)
  repeat' (first | simp (disch := first | decide | (intros; simp (disch := decide) only [↓Frame.truncationTimeout, Frame.refl])) only [↓Frame.truncationTimeout, Frame.refl] | split)

theorem execArmCell_frame (x1 : ℕ) (x2 : ℕ) (x3 : List Byte) {u : State} (h : u.held = false) :
    ∃ v, execArmCell x1 x2 x3 u = .next v ∧ Frame 0x300488d0 (u.at x1) v := by
  unfold execArmCell
  refine run_frame h _ _ (fun w => ?_)
  repeat' (first | simp (disch := first | decide | (intros; simp (disch := decide) only [↓Frame.slotish, Frame.refl])) only [↓Frame.slotish, Frame.refl] | split)

theorem execFireCell_frame (x1 : ℕ) (x2 : ℕ) (x3 : List Byte) {u : State} (h : u.held = false) :
    ∃ v, execFireCell x1 x2 x3 u = .next v ∧ Frame 0x300488d0 (u.at x1) v := by
  unfold execFireCell
  refine run_frame h _ _ (fun w => ?_)
  repeat' (first | simp (disch := first | decide | (intros; simp (disch := decide) only [↓Frame.slotish, Frame.refl])) only [↓Frame.slotish, Frame.refl] | split)

theorem execSlvLinkRestart_frame (x1 : ℕ) (x2 : Path) {u : State} (h : u.held = false) :
    ∃ v, execSlvLinkRestart x1 x2 u = .next v ∧ Frame 0x225807fdd8 (u.at x1) v := by
  unfold execSlvLinkRestart
  unfold command
  refine run_frame h _ _ (fun w => ?_)
  repeat' (first | simp (disch := first | decide | (intros; simp (disch := decide) only [↓Frame.ofCmdSlvLinkRestart, ↓Frame.goWrite, Frame.refl])) only [↓Frame.goWrite, Frame.refl] | split)

theorem execLinkHold_frame (x1 : ℕ) (x2 : Path) {u : State} (h : u.held = false) :
    ∃ v, execLinkHold x1 x2 u = .next v ∧ Frame 0x225807fdd8 (u.at x1) v := by
  unfold execLinkHold
  unfold command
  refine run_frame h _ _ (fun w => ?_)
  repeat' (first | simp (disch := first | decide | (intros; simp (disch := decide) only [↓Frame.ofCmdLinkHold, ↓Frame.goWrite, Frame.refl])) only [↓Frame.goWrite, Frame.refl] | split)

theorem execOriginRead_frame (x1 : ℕ) (x2 : Path) {u : State} (h : u.held = false) :
    ∃ v, execOriginRead x1 x2 u = .next v ∧ Frame 0x100208d0 (u.at x1) v := by
  unfold execOriginRead
  unfold command
  refine run_frame h _ _ (fun w => ?_)
  repeat' (first | simp (disch := first | decide | (intros; simp (disch := decide) only [↓Frame.ofCmdOriginRead, ↓Frame.goWrite, Frame.refl])) only [↓Frame.goWrite, Frame.refl] | split)

theorem execComposeStart_frame (x1 : ℕ) (x2 : ℕ) {u : State} (h : u.held = false) :
    ∃ v, execComposeStart x1 x2 u = .next v ∧ Frame 0x500018d0 (u.at x1) v := by
  unfold execComposeStart
  refine run_frame h _ _ (fun w => ?_)
  repeat' (first | simp (disch := first | decide | (intros; simp (disch := decide) only [↓Frame.composeStart, Frame.refl])) only [↓Frame.composeStart, Frame.refl] | split)

theorem execLaunch_frame (x1 : ℕ) (x2 : ℕ) {u : State} (h : u.held = false) :
    ∃ v, execLaunch x1 x2 u = .next v ∧ Frame 0x500c18d0 (u.at x1) v := by
  unfold execLaunch
  refine run_frame h _ _ (fun w => ?_)
  repeat' (first | simp (disch := first | decide | (intros; simp (disch := decide) only [↓Frame.launch, Frame.refl])) only [↓Frame.launch, Frame.refl] | split)

theorem execLateLaunch_frame (x1 : ℕ) (x2 : ℕ) {u : State} (h : u.held = false) :
    ∃ v, execLateLaunch x1 x2 u = .next v ∧ Frame 0x500c18d0 (u.at x1) v := by
  unfold execLateLaunch
  refine run_frame h _ _ (fun w => ?_)
  repeat' (first | simp (disch := first | decide | (intros; simp (disch := decide) only [↓Frame.lateLaunch, Frame.refl])) only [↓Frame.lateLaunch, Frame.refl] | split)

theorem execShuttleStreamEnable_frame (x1 : ℕ) (x2 : Path) {u : State} (h : u.held = false) :
    ∃ v, execShuttleStreamEnable x1 x2 u = .next v ∧ Frame 0x500208d0 (u.at x1) v := by
  unfold execShuttleStreamEnable
  unfold command
  refine run_frame h _ _ (fun w => ?_)
  repeat' (first | simp (disch := first | decide | (intros; simp (disch := decide) only [↓Frame.ofCmdShuttleStreamEnable, ↓Frame.goWrite, Frame.refl])) only [↓Frame.goWrite, Frame.refl] | split)

theorem execCfgFetch_frame (x1 : ℕ) (x2 : Path) {u : State} (h : u.held = false) :
    ∃ v, execCfgFetch x1 x2 u = .next v ∧ Frame 0x100608d0 (u.at x1) v := by
  unfold execCfgFetch
  unfold command
  refine run_frame h _ _ (fun w => ?_)
  repeat' (first | simp (disch := first | decide | (intros; simp (disch := decide) only [↓Frame.ofCmdCfgFetch, ↓Frame.goWrite, Frame.refl])) only [↓Frame.goWrite, Frame.refl] | split)

theorem execCmdSend_frame (x1 : ℕ) (x2 : Path) {u : State} (h : u.held = false) :
    ∃ v, execCmdSend x1 x2 u = .next v ∧ Frame 0x102e18d0 (u.at x1) v := by
  unfold execCmdSend
  unfold command
  refine run_frame h _ _ (fun w => ?_)
  repeat' (first | simp (disch := first | decide | (intros; simp (disch := decide) only [↓Frame.ofCmdCmdSend, ↓Frame.goWrite, Frame.refl])) only [↓Frame.goWrite, Frame.refl] | split)

theorem execD2hCopy_frame (x1 : ℕ) (x2 : ℕ) (x3 : Bool) {u : State} (h : u.held = false) :
    ∃ v, execD2hCopy x1 x2 x3 u = .next v ∧ Frame 0x100408d0 (u.at x1) v := by
  unfold execD2hCopy
  refine run_frame h _ _ (fun w => ?_)
  repeat' (first | simp (disch := first | decide | (intros; simp (disch := decide) only [↓Frame.d2hCopy, Frame.refl])) only [↓Frame.d2hCopy, Frame.refl] | split)

theorem execDoorbell_frame (x1 : ℕ) (x2 : Path) (x3 : ℕ) (x4 : ℕ) {u : State} (h : u.held = false) :
    ∃ v, execDoorbell x1 x2 x3 x4 u = .next v ∧ Frame 0x100208d0 (u.at x1) v := by
  unfold execDoorbell
  refine run_frame h _ _ (fun w => ?_)
  repeat' (first | simp (disch := first | decide | (intros; simp (disch := decide) only [↓Frame.doorbell, Frame.refl])) only [↓Frame.doorbell, Frame.refl] | split)

theorem execH2dFetch_frame (x1 : ℕ) (x2 : ℕ) (x3 : ℕ) (x4 : List Byte) (x5 : Bool) {u : State} (h : u.held = false) :
    ∃ v, execH2dFetch x1 x2 x3 x4 x5 u = .next v ∧ Frame 0x100408d0 (u.at x1) v := by
  unfold execH2dFetch
  refine run_frame h _ _ (fun w => ?_)
  repeat' (first | simp (disch := first | decide | (intros; simp (disch := decide) only [↓Frame.h2dFetch, Frame.refl])) only [↓Frame.h2dFetch, Frame.refl] | split)

theorem execModerationTimeout_frame (x1 : ℕ) (x2 : ℕ) {u : State} (h : u.held = false) :
    ∃ v, execModerationTimeout x1 x2 u = .next v ∧ Frame 0x40810 (u.at x1) v := by
  unfold execModerationTimeout
  refine run_frame h _ _ (fun w => ?_)
  repeat' (first | simp (disch := first | decide | (intros; simp (disch := decide) only [↓Frame.moderationTimeout, Frame.refl])) only [↓Frame.moderationTimeout, Frame.refl] | split)

theorem execQueueFlush_frame (x1 : ℕ) (x2 : Path) (x3 : ℕ) {u : State} (h : u.held = false) :
    ∃ v, execQueueFlush x1 x2 x3 u = .next v ∧ Frame 0x100608d0 (u.at x1) v := by
  unfold execQueueFlush
  refine run_frame h _ _ (fun w => ?_)
  repeat' (first | simp (disch := first | decide | (intros; simp (disch := decide) only [↓Frame.setFlush, Frame.refl])) only [↓Frame.setFlush, Frame.refl] | split)

theorem execQueueStart_frame (x1 : ℕ) (x2 : Path) {u : State} (h : u.held = false) :
    ∃ v, execQueueStart x1 x2 u = .next v ∧ Frame 0x100208d0 (u.at x1) v := by
  unfold execQueueStart
  unfold command
  refine run_frame h _ _ (fun w => ?_)
  repeat' (first | simp (disch := first | decide | (intros; simp (disch := decide) only [↓Frame.ofCmdQueueStart, ↓Frame.goWrite, Frame.refl])) only [↓Frame.goWrite, Frame.refl] | split)

theorem execQueueStop_frame (x1 : ℕ) (x2 : Path) {u : State} (h : u.held = false) :
    ∃ v, execQueueStop x1 x2 u = .next v ∧ Frame 0x100208d0 (u.at x1) v := by
  unfold execQueueStop
  unfold command
  refine run_frame h _ _ (fun w => ?_)
  repeat' (first | simp (disch := first | decide | (intros; simp (disch := decide) only [↓Frame.ofCmdQueueStop, ↓Frame.goWrite, Frame.refl])) only [↓Frame.goWrite, Frame.refl] | split)

theorem execInputChange_frame (x1 : ℕ) {u : State} (h : u.held = false) :
    ∃ v, execInputChange x1 u = .next v ∧ Frame 0x310008d0 (u.at x1) v := by
  unfold execInputChange
  refine run_frame h _ _ (fun w => ?_)
  repeat' (first | simp (disch := first | decide | (intros; simp (disch := decide) only [↓Frame.inputChange, Frame.refl])) only [↓Frame.inputChange, Frame.refl] | split)

theorem execWaveWaitEnd_frame (x1 : ℕ) (x2 : ℕ) {u : State} (h : u.held = false) :
    ∃ v, execWaveWaitEnd x1 x2 u = .next v ∧ Frame 0x30000c10 (u.at x1) v := by
  unfold execWaveWaitEnd
  refine run_frame h _ _ (fun w => ?_)
  repeat' (first | simp (disch := first | decide | (intros; simp (disch := decide) only [↓Frame.waveWaitEnd, Frame.refl])) only [↓Frame.waveWaitEnd, Frame.refl] | split)

theorem execRearmDone_frame (x1 : ℕ) (x2 : ℕ) {u : State} (h : u.held = false) :
    ∃ v, execRearmDone x1 x2 u = .next v ∧ Frame 0x30000cd0 (u.at x1) v := by
  unfold execRearmDone
  refine run_frame h _ _ (fun w => ?_)
  repeat' (first | simp (disch := first | decide | (intros; simp (disch := decide) only [↓Frame.rearmDone, Frame.refl])) only [↓Frame.rearmDone, Frame.refl] | split)

theorem execArm_frame (x1 : ℕ) (x2 : Path) {u : State} (h : u.held = false) :
    ∃ v, execArm x1 x2 u = .next v ∧ Frame 0x300208d0 (u.at x1) v := by
  unfold execArm
  unfold command
  refine run_frame h _ _ (fun w => ?_)
  repeat' (first | simp (disch := first | decide | (intros; simp (disch := decide) only [↓Frame.ofCmdArm, ↓Frame.goWrite, Frame.refl])) only [↓Frame.goWrite, Frame.refl] | split)

theorem execDisarm_frame (x1 : ℕ) (x2 : Path) {u : State} (h : u.held = false) :
    ∃ v, execDisarm x1 x2 u = .next v ∧ Frame 0x300208d0 (u.at x1) v := by
  unfold execDisarm
  unfold command
  refine run_frame h _ _ (fun w => ?_)
  repeat' (first | simp (disch := first | decide | (intros; simp (disch := decide) only [↓Frame.ofCmdDisarm, ↓Frame.goWrite, Frame.refl])) only [↓Frame.goWrite, Frame.refl] | split)

theorem execFire_frame (x1 : ℕ) (x2 : Path) {u : State} (h : u.held = false) :
    ∃ v, execFire x1 x2 u = .next v ∧ Frame 0x300208d0 (u.at x1) v := by
  unfold execFire
  unfold command
  refine run_frame h _ _ (fun w => ?_)
  repeat' (first | simp (disch := first | decide | (intros; simp (disch := decide) only [↓Frame.ofCmdFire, ↓Frame.goWrite, Frame.refl])) only [↓Frame.goWrite, Frame.refl] | split)

theorem execTrigSet_frame (x1 : ℕ) (x2 : Path) {u : State} (h : u.held = false) :
    ∃ v, execTrigSet x1 x2 u = .next v ∧ Frame 0x110208d0 (u.at x1) v := by
  unfold execTrigSet
  unfold command
  refine run_frame h _ _ (fun w => ?_)
  repeat' (first | simp (disch := first | decide | (intros; simp (disch := decide) only [↓Frame.ofCmdTrigSet, ↓Frame.goWrite, Frame.refl])) only [↓Frame.goWrite, Frame.refl] | split)

theorem execRecordLock_frame (x1 : ℕ) (x2 : Path) {u : State} (h : u.held = false) :
    ∃ v, execRecordLock x1 x2 u = .next v ∧ Frame 0x300208d0 (u.at x1) v := by
  unfold execRecordLock
  unfold command
  refine run_frame h _ _ (fun w => ?_)
  repeat' (first | simp (disch := first | decide | (intros; simp (disch := decide) only [↓Frame.ofCmdRecordLock, ↓Frame.goWrite, Frame.refl])) only [↓Frame.goWrite, Frame.refl] | split)

theorem execRecordUnlock_frame (x1 : ℕ) (x2 : Path) {u : State} (h : u.held = false) :
    ∃ v, execRecordUnlock x1 x2 u = .next v ∧ Frame 0x300208d0 (u.at x1) v := by
  unfold execRecordUnlock
  unfold command
  refine run_frame h _ _ (fun w => ?_)
  repeat' (first | simp (disch := first | decide | (intros; simp (disch := decide) only [↓Frame.ofCmdRecordUnlock, ↓Frame.goWrite, Frame.refl])) only [↓Frame.goWrite, Frame.refl] | split)

theorem execEnergySave_frame (x1 : ℕ) (x2 : ℕ) {u : State} (h : u.held = false) :
    ∃ v, execEnergySave x1 x2 u = .next v ∧ Frame 0x265807ffd8 (u.at x1) v := by
  unfold execEnergySave
  refine run_frame h _ _ (fun w => ?_)
  repeat' (first | simp (disch := first | decide | (intros; simp (disch := decide) only [↓Frame.energySave, Frame.refl])) only [↓Frame.energySave, Frame.refl] | split)

theorem execEpulsePhase_frame (x1 : ℕ) (x2 : ℕ) {u : State} (h : u.held = false) :
    ∃ v, execEpulsePhase x1 x2 u = .next v ∧ Frame 0x200000810 (u.at x1) v := by
  unfold execEpulsePhase
  refine run_frame h _ _ (fun w => ?_)
  repeat' (first | simp (disch := first | decide | (intros; simp (disch := decide) only [↓Frame.epulsePhase, Frame.refl])) only [↓Frame.epulsePhase, Frame.refl] | split)

theorem execIntervalRead_frame (x1 : ℕ) (x2 : Path) {u : State} (h : u.held = false) :
    ∃ v, execIntervalRead x1 x2 u = .next v ∧ Frame 0x100208d0 (u.at x1) v := by
  unfold execIntervalRead
  unfold command
  refine run_frame h _ _ (fun w => ?_)
  repeat' (first | simp (disch := first | decide | (intros; simp (disch := decide) only [↓Frame.ofCmdIntervalRead, ↓Frame.goWrite, Frame.refl])) only [↓Frame.goWrite, Frame.refl] | split)

theorem execPeakReset_frame (x1 : ℕ) (x2 : Path) {u : State} (h : u.held = false) :
    ∃ v, execPeakReset x1 x2 u = .next v ∧ Frame 0x2100208d0 (u.at x1) v := by
  unfold execPeakReset
  unfold command
  refine run_frame h _ _ (fun w => ?_)
  repeat' (first | simp (disch := first | decide | (intros; simp (disch := decide) only [↓Frame.ofCmdPeakReset, ↓Frame.goWrite, Frame.refl])) only [↓Frame.goWrite, Frame.refl] | split)

theorem execLedgerEvent_frame (x1 : ℕ) (x2 : ℕ) (x3 : ℕ) (x4 : List Byte) {u : State} (h : u.held = false) :
    ∃ v, execLedgerEvent x1 x2 x3 x4 u = .next v ∧ Frame 0x100008d0 (u.at x1) v := by
  unfold execLedgerEvent
  refine run_frame h _ _ (fun w => ?_)
  repeat' (first | simp (disch := first | decide | (intros; simp (disch := decide) only [↓Frame.event, Frame.refl])) only [↓Frame.event, Frame.refl] | split)

theorem execCoalesceClose_frame (x1 : ℕ) {u : State} (h : u.held = false) :
    ∃ v, execCoalesceClose x1 u = .next v ∧ Frame 0x80 (u.at x1) v := by
  unfold execCoalesceClose
  refine run_frame h _ _ (fun w => ?_)
  repeat' (first | simp (disch := first | decide | (intros; simp (disch := decide) only [↓Frame.coalesceClose, Frame.refl])) only [↓Frame.coalesceClose, Frame.refl] | split)

theorem execRecordWritten_frame (x1 : ℕ) (x2 : ℕ) {u : State} (h : u.held = false) :
    ∃ v, execRecordWritten x1 x2 u = .next v ∧ Frame 0x225807ffd8 (u.at x1) v := by
  unfold execRecordWritten
  refine run_frame h _ _ (fun w => ?_)
  repeat' (first | simp (disch := first | decide | (intros; simp (disch := decide) only [↓Frame.recordWritten, Frame.refl])) only [↓Frame.recordWritten, Frame.refl] | split)

theorem execOpSecondsSave_frame (x1 : ℕ) {u : State} (h : u.held = false) :
    ∃ v, execOpSecondsSave x1 u = .next v ∧ Frame 0x258037dd8 (u.at x1) v := by
  unfold execOpSecondsSave
  refine run_frame h _ _ (fun w => ?_)
  repeat' (first | simp (disch := first | decide | (intros; simp (disch := decide) only [↓Frame.opSecondsSave, Frame.refl])) only [↓Frame.opSecondsSave, Frame.refl] | split)

theorem execRead_frame (x1 : ℕ) (x2 : Path) {u : State} (h : u.held = false) :
    ∃ v, execRead x1 x2 u = .next v ∧ Frame 0x258037dd8 (u.at x1) v := by
  unfold execRead
  unfold command
  refine run_frame h _ _ (fun w => ?_)
  repeat' (first | simp (disch := first | decide | (intros; simp (disch := decide) only [↓Frame.ofCmdRead, ↓Frame.goWrite, Frame.refl])) only [↓Frame.goWrite, Frame.refl] | split)

theorem execAck_frame (x1 : ℕ) (x2 : Path) {u : State} (h : u.held = false) :
    ∃ v, execAck x1 x2 u = .next v ∧ Frame 0x100208d0 (u.at x1) v := by
  unfold execAck
  unfold command
  refine run_frame h _ _ (fun w => ?_)
  repeat' (first | simp (disch := first | decide | (intros; simp (disch := decide) only [↓Frame.ofCmdAck, ↓Frame.goWrite, Frame.refl])) only [↓Frame.goWrite, Frame.refl] | split)

theorem execLedgerFlush_frame (x1 : ℕ) (x2 : Path) {u : State} (h : u.held = false) :
    ∃ v, execLedgerFlush x1 x2 u = .next v ∧ Frame 0x100208d0 (u.at x1) v := by
  unfold execLedgerFlush
  unfold command
  refine run_frame h _ _ (fun w => ?_)
  repeat' (first | simp (disch := first | decide | (intros; simp (disch := decide) only [↓Frame.ofCmdLedgerFlush, ↓Frame.goWrite, Frame.refl])) only [↓Frame.goWrite, Frame.refl] | split)

theorem execVerify_frame (x1 : ℕ) (x2 : Path) {u : State} (h : u.held = false) :
    ∃ v, execVerify x1 x2 u = .next v ∧ Frame 0x258037dd8 (u.at x1) v := by
  unfold execVerify
  unfold command
  refine run_frame h _ _ (fun w => ?_)
  repeat' (first | simp (disch := first | decide | (intros; simp (disch := decide) only [↓Frame.ofCmdVerify, ↓Frame.goWrite, Frame.refl])) only [↓Frame.goWrite, Frame.refl] | split)

theorem execNonce_frame (x1 : ℕ) (x2 : Path) {u : State} (h : u.held = false) :
    ∃ v, execNonce x1 x2 u = .next v ∧ Frame 0x100218d0 (u.at x1) v := by
  unfold execNonce
  unfold command
  refine run_frame h _ _ (fun w => ?_)
  repeat' (first | simp (disch := first | decide | (intros; simp (disch := decide) only [↓Frame.ofCmdNonce, ↓Frame.goWrite, Frame.refl])) only [↓Frame.goWrite, Frame.refl] | split)

theorem execNonceExpiry_frame (x1 : ℕ) {u : State} (h : u.held = false) :
    ∃ v, execNonceExpiry x1 u = .next v ∧ Frame 0x80 (u.at x1) v := by
  unfold execNonceExpiry
  refine run_frame h _ _ (fun w => ?_)
  repeat' (first | simp (disch := first | decide | (intros; simp (disch := decide) only [↓Frame.nonceExpiry, Frame.refl])) only [↓Frame.nonceExpiry, Frame.refl] | split)

theorem execClear_frame (x1 : ℕ) (x2 : Path) {u : State} (h : u.held = false) :
    ∃ v, execClear x1 x2 u = .next v ∧ Frame 0x225807ffd8 (u.at x1) v := by
  unfold execClear
  unfold command
  refine run_frame h _ _ (fun w => ?_)
  repeat' (first | simp (disch := first | decide | (intros; simp (disch := decide) only [↓Frame.ofCmdClear, ↓Frame.goWrite, Frame.refl])) only [↓Frame.goWrite, Frame.refl] | split)

theorem execClearDone_frame (x1 : ℕ) {u : State} (h : u.held = false) :
    ∃ v, execClearDone x1 u = .next v ∧ Frame 0xad0 (u.at x1) v := by
  unfold execClearDone
  refine run_frame h _ _ (fun w => ?_)
  repeat' (first | simp (disch := first | decide | (intros; simp (disch := decide) only [↓Frame.clearDone, Frame.refl])) only [↓Frame.clearDone, Frame.refl] | split)

theorem execKeySet_frame (x1 : ℕ) (x2 : Path) {u : State} (h : u.held = false) :
    ∃ v, execKeySet x1 x2 u = .next v ∧ Frame 0x100208d0 (u.at x1) v := by
  unfold execKeySet
  unfold command
  refine run_frame h _ _ (fun w => ?_)
  repeat' (first | simp (disch := first | decide | (intros; simp (disch := decide) only [↓Frame.ofCmdKeySet, ↓Frame.goWrite, Frame.refl])) only [↓Frame.goWrite, Frame.refl] | split)

theorem execKeyChange_frame (x1 : ℕ) (x2 : Path) {u : State} (h : u.held = false) :
    ∃ v, execKeyChange x1 x2 u = .next v ∧ Frame 0x100208d0 (u.at x1) v := by
  unfold execKeyChange
  unfold command
  refine run_frame h _ _ (fun w => ?_)
  repeat' (first | simp (disch := first | decide | (intros; simp (disch := decide) only [↓Frame.ofCmdKeyChange, ↓Frame.goWrite, Frame.refl])) only [↓Frame.goWrite, Frame.refl] | split)

theorem execScanStart_frame (x1 : ℕ) (x2 : Path) {u : State} (h : u.held = false) :
    ∃ v, execScanStart x1 x2 u = .next v ∧ Frame 0x258037dd8 (u.at x1) v := by
  unfold execScanStart
  unfold command
  refine run_frame h _ _ (fun w => ?_)
  repeat' (first | simp (disch := first | decide | (intros; simp (disch := decide) only [↓Frame.ofCmdScanStart, ↓Frame.goWrite, Frame.refl])) only [↓Frame.goWrite, Frame.refl] | split)

theorem execScanStop_frame (x1 : ℕ) (x2 : Path) (x3 : ℕ) {u : State} (h : u.held = false) :
    ∃ v, execScanStop x1 x2 x3 u = .next v ∧ Frame 0x100218d0 (u.at x1) v := by
  unfold execScanStop
  unfold command
  refine run_frame h _ _ (fun w => ?_)
  repeat' (first | simp (disch := first | decide | (intros; simp (disch := decide) only [↓Frame.ofCmdScanStop, ↓Frame.goWrite, Frame.refl])) only [↓Frame.goWrite, Frame.refl] | split)

theorem execScanDone_frame (x1 : ℕ) (x2 : ℕ) (x3 : Option ℕ) {u : State} (h : u.held = false) :
    ∃ v, execScanDone x1 x2 x3 u = .next v ∧ Frame 0x100018d0 (u.at x1) v := by
  unfold execScanDone
  refine run_frame h _ _ (fun w => ?_)
  repeat' (first | simp (disch := first | decide | (intros; simp (disch := decide) only [↓Frame.scanDone, Frame.refl])) only [↓Frame.scanDone, Frame.refl] | split)

theorem execDomainSet_frame (x1 : ℕ) (x2 : Path) {u : State} (h : u.held = false) :
    ∃ v, execDomainSet x1 x2 u = .next v ∧ Frame 0x100208d0 (u.at x1) v := by
  unfold execDomainSet
  unfold command
  refine run_frame h _ _ (fun w => ?_)
  repeat' (first | simp (disch := first | decide | (intros; simp (disch := decide) only [↓Frame.ofCmdDomainSet, ↓Frame.goWrite, Frame.refl])) only [↓Frame.goWrite, Frame.refl] | split)

theorem execDrainComplete_frame (x1 : ℕ) {u : State} (h : u.held = false) :
    ∃ v, execDrainComplete x1 u = .next v ∧ Frame 0x2258037dd8 (u.at x1) v := by
  unfold execDrainComplete
  refine run_frame h _ _ (fun w => ?_)
  repeat' (first | simp (disch := first | decide | (intros; simp (disch := decide) only [↓Frame.drained, Frame.refl])) only [↓Frame.drained, Frame.refl] | split)

theorem execDrainTimeout_frame (x1 : ℕ) (x2 : ℕ) {u : State} (h : u.held = false) :
    ∃ v, execDrainTimeout x1 x2 u = .next v ∧ Frame 0x20100209d0 (u.at x1) v := by
  unfold execDrainTimeout
  refine run_frame h _ _ (fun w => ?_)
  repeat' (first | simp (disch := first | decide | (intros; simp (disch := decide) only [↓Frame.drainTimeout, Frame.refl])) only [↓Frame.drainTimeout, Frame.refl] | split)

theorem execDomainWakeDone_frame (x1 : ℕ) (x2 : ℕ) (x3 : Bool) {u : State} (h : u.held = false) :
    ∃ v, execDomainWakeDone x1 x2 x3 u = .next v ∧ Frame 0x3bfffffff8 (u.at x1) v := by
  unfold execDomainWakeDone
  refine run_frame h _ _ (fun w => ?_)
  repeat' (first | simp (disch := first | decide | (intros; simp (disch := decide) only [↓Frame.wakeDone, Frame.refl])) only [↓Frame.wakeDone, Frame.refl] | split)

theorem execArchiveRetain_frame (x1 : ℕ) {u : State} (h : u.held = false) :
    ∃ v, execArchiveRetain x1 u = .next v ∧ Frame 0x258017dd8 (u.at x1) v := by
  unfold execArchiveRetain
  refine run_frame h _ _ (fun w => ?_)
  repeat' (first | simp (disch := first | decide | (intros; simp (disch := decide) only [↓Frame.archiveIdle, Frame.refl])) only [↓Frame.archiveIdle, Frame.refl] | split)

theorem execDroop_frame (x1 : ℕ) (x2 : ℕ) (x3 : ℕ) {u : State} (h : u.held = false) :
    ∃ v, execDroop x1 x2 x3 u = .next v ∧ Frame 0x100288d0 (u.at x1) v := by
  unfold execDroop
  refine run_frame h _ _ (fun w => ?_)
  repeat' (first | simp (disch := first | decide | (intros; simp (disch := decide) only [↓Frame.supplyLevel, Frame.refl])) only [↓Frame.supplyLevel, Frame.refl] | split)

theorem execDroopLasting_frame (x1 : ℕ) (x2 : ℕ) {u : State} (h : u.held = false) :
    ∃ v, execDroopLasting x1 x2 u = .next v ∧ Frame 0x225807fdd8 (u.at x1) v := by
  unfold execDroopLasting
  refine run_frame h _ _ (fun w => ?_)
  repeat' (first | simp (disch := first | decide | (intros; simp (disch := decide) only [↓Frame.droopLasts, Frame.refl])) only [↓Frame.droopLasts, Frame.refl] | split)

theorem execPfwNChange_frame (x1 : ℕ) (x2 : Bool) {u : State} (h : u.held = false) :
    ∃ v, execPfwNChange x1 x2 u = .next v ∧ Frame 0x20010 (u.at x1) v := by
  unfold execPfwNChange
  refine run_frame h _ _ (fun w => ?_)
  repeat' (first | simp (disch := first | decide | (intros; simp (disch := decide) only [↓Frame.pfwLevel, Frame.refl])) only [↓Frame.pfwLevel, Frame.refl] | split)

theorem execPfwFall_frame (x1 : ℕ) {u : State} (h : u.held = false) :
    ∃ v, execPfwFall x1 u = .next v ∧ Frame 0x258037dd8 (u.at x1) v := by
  unfold execPfwFall
  refine run_frame h _ _ (fun w => ?_)
  repeat' (first | simp (disch := first | decide | (intros; simp (disch := decide) only [↓Frame.pfwFall, Frame.refl])) only [↓Frame.pfwFall, Frame.refl] | split)

theorem execFlushDone_frame (x1 : ℕ) (x2 : ℕ) {u : State} (h : u.held = false) :
    ∃ v, execFlushDone x1 x2 u = .next v ∧ Frame 0x267807ffd8 (u.at x1) v := by
  unfold execFlushDone
  refine run_frame h _ _ (fun w => ?_)
  repeat' (first | simp (disch := first | decide | (intros; simp (disch := decide) only [↓Frame.flushDone, Frame.refl])) only [↓Frame.flushDone, Frame.refl] | split)

theorem execPfwRecovered_frame (x1 : ℕ) {u : State} (h : u.held = false) :
    ∃ v, execPfwRecovered x1 u = .next v ∧ Frame 0x210060ad0 (u.at x1) v := by
  unfold execPfwRecovered
  refine run_frame h _ _ (fun w => ?_)
  repeat' (first | simp (disch := first | decide | (intros; simp (disch := decide) only [↓Frame.pfwRecovered, Frame.refl])) only [↓Frame.pfwRecovered, Frame.refl] | split)

theorem execClockLoss_frame (x1 : ℕ) (x2 : ℕ) (x3 : Option ℕ) {u : State} (h : u.held = false) :
    ∃ v, execClockLoss x1 x2 x3 u = .next v ∧ Frame 0xa00004850 (u.at x1) v := by
  unfold execClockLoss
  refine run_frame h _ _ (fun w => ?_)
  repeat' (first | simp (disch := first | decide | (intros; simp (disch := decide) only [↓Frame.clockLoss, Frame.refl])) only [↓Frame.clockLoss, Frame.refl] | split)

theorem execRelockDone_frame (x1 : ℕ) (x2 : ℕ) (x3 : Bool) {u : State} (h : u.held = false) :
    ∃ v, execRelockDone x1 x2 x3 u = .next v ∧ Frame 0x2a5807fdd8 (u.at x1) v := by
  unfold execRelockDone
  refine run_frame h _ _ (fun w => ?_)
  repeat' (first | simp (disch := first | decide | (intros; simp (disch := decide) only [↓Frame.relockDone, Frame.refl])) only [↓Frame.relockDone, Frame.refl] | split)

theorem execCanaryError_frame (x1 : ℕ) (x2 : ℕ) (x3 : ℕ) (x4 : ClockMeasure) {u : State} (h : u.held = false) :
    ∃ v, execCanaryError x1 x2 x3 x4 u = .next v ∧ Frame 0x18100008d0 (u.at x1) v := by
  unfold execCanaryError
  refine run_frame h _ _ (fun w => ?_)
  repeat' (first | simp (disch := first | decide | (intros; simp (disch := decide) only [↓Frame.canaryError, Frame.refl])) only [↓Frame.canaryError, Frame.refl] | split)

theorem execHourlyReplan_frame (x1 : ℕ) (x2 : ClockMeasure) {u : State} (h : u.held = false) :
    ∃ v, execHourlyReplan x1 x2 u = .next v ∧ Frame 0x18100008d0 (u.at x1) v := by
  unfold execHourlyReplan
  refine run_frame h _ _ (fun w => ?_)
  repeat' (first | simp (disch := first | decide | (intros; simp (disch := decide) only [↓Frame.hourlyReplan, Frame.refl])) only [↓Frame.hourlyReplan, Frame.refl] | split)

theorem execReplanMeasure_frame (x1 : ℕ) (x2 : ClockMeasure) {u : State} (h : u.held = false) :
    ∃ v, execReplanMeasure x1 x2 u = .next v ∧ Frame 0x18100008d0 (u.at x1) v := by
  unfold execReplanMeasure
  refine run_frame h _ _ (fun w => ?_)
  repeat' (first | simp (disch := first | decide | (intros; simp (disch := decide) only [↓Frame.replanMeasure, Frame.refl])) only [↓Frame.replanMeasure, Frame.refl] | split)

theorem execAvsCheck_frame (x1 : ℕ) (x2 : ℕ) (x3 : Bool) {u : State} (h : u.held = false) :
    ∃ v, execAvsCheck x1 x2 x3 u = .next v ∧ Frame 0x8100008d0 (u.at x1) v := by
  unfold execAvsCheck
  refine run_frame h _ _ (fun w => ?_)
  repeat' (first | simp (disch := first | decide | (intros; simp (disch := decide) only [↓Frame.avsCheck, Frame.refl])) only [↓Frame.avsCheck, Frame.refl] | split)

theorem execAgeForecast_frame (x1 : ℕ) {u : State} (h : u.held = false) :
    ∃ v, execAgeForecast x1 u = .next v ∧ Frame 0x18100008d0 (u.at x1) v := by
  unfold execAgeForecast
  refine run_frame h _ _ (fun w => ?_)
  repeat' (first | simp (disch := first | decide | (intros; simp (disch := decide) only [↓Frame.ageForecast, Frame.refl])) only [↓Frame.ageForecast, Frame.refl] | split)

theorem execReplan_frame (x1 : ℕ) (x2 : Path) (x3 : ClockMeasure) {u : State} (h : u.held = false) :
    ∃ v, execReplan x1 x2 x3 u = .next v ∧ Frame 0x18100208d0 (u.at x1) v := by
  unfold execReplan
  unfold command
  refine run_frame h _ _ (fun w => ?_)
  repeat' (first | simp (disch := first | decide | (intros; simp (disch := decide) only [↓Frame.ofCmdReplan, ↓Frame.goWrite, Frame.refl])) only [↓Frame.goWrite, Frame.refl] | split)

theorem execAvsSet_frame (x1 : ℕ) (x2 : Path) {u : State} (h : u.held = false) :
    ∃ v, execAvsSet x1 x2 u = .next v ∧ Frame 0x18100208d0 (u.at x1) v := by
  unfold execAvsSet
  unfold command
  refine run_frame h _ _ (fun w => ?_)
  repeat' (first | simp (disch := first | decide | (intros; simp (disch := decide) only [↓Frame.ofCmdAvsSet, ↓Frame.goWrite, Frame.refl])) only [↓Frame.goWrite, Frame.refl] | split)

theorem execPerstN_frame (x1 : ℕ) (x2 : Bool) (x3 : List Byte) (x4 : ℕ) {u : State} (h : u.held = false) :
    ∃ v, execPerstN x1 x2 x3 x4 u = .next v ∧ Frame 0x2258017dd8 (u.at x1) v := by
  unfold execPerstN
  refine run_frame h _ _ (fun w => ?_)
  repeat' (first | simp (disch := first | decide | (intros; simp (disch := decide) only [↓Frame.perstLevel, Frame.refl])) only [↓Frame.perstLevel, Frame.refl] | split)

theorem execPcieLinkUp_frame (x1 : ℕ) (x2 : ℕ) (x3 : ℕ) (x4 : Bool) {u : State} (h : u.held = false) :
    ∃ v, execPcieLinkUp x1 x2 x3 x4 u = .next v ∧ Frame 0x20100008d0 (u.at x1) v := by
  unfold execPcieLinkUp
  refine run_frame h _ _ (fun w => ?_)
  repeat' (first | simp (disch := first | decide | (intros; simp (disch := decide) only [↓Frame.linkTrained, Frame.refl])) only [↓Frame.linkTrained, Frame.refl] | split)

theorem execDState_frame (x1 : ℕ) (x2 : Bool) {u : State} (h : u.held = false) :
    ∃ v, execDState x1 x2 u = .next v ∧ Frame 0x100008d0 (u.at x1) v := by
  unfold execDState
  refine run_frame h _ _ (fun w => ?_)
  repeat' (first | simp (disch := first | decide | (intros; simp (disch := decide) only [↓Frame.powerState, Frame.refl])) only [↓Frame.powerState, Frame.refl] | split)

theorem execBar2Read_frame (x1 : ℕ) (x2 : ℕ) (x3 : ℕ) (x4 : Bool) {u : State} (h : u.held = false) :
    ∃ v, execBar2Read x1 x2 x3 x4 u = .next v ∧ Frame 0x100208d0 (u.at x1) v := by
  unfold execBar2Read
  refine run_frame h _ _ (fun w => ?_)
  repeat' (first | simp (disch := first | decide | (intros; simp (disch := decide) only [↓Frame.bar2Get, Frame.refl])) only [↓Frame.bar2Get, Frame.refl] | split)

theorem execBar2Write_frame (x1 : ℕ) (x2 : ℕ) (x3 : List Byte) {u : State} (h : u.held = false) :
    ∃ v, execBar2Write x1 x2 x3 u = .next v ∧ Frame 0x10020cd0 (u.at x1) v := by
  unfold execBar2Write
  refine run_frame h _ _ (fun w => ?_)
  repeat' (first | simp (disch := first | decide | (intros; simp (disch := decide) only [↓Frame.bar2Put, Frame.refl])) only [↓Frame.bar2Put, Frame.refl] | split)

theorem execMasterReclaim_frame (x1 : ℕ) {u : State} (h : u.held = false) :
    ∃ v, execMasterReclaim x1 u = .next v ∧ Frame 0x100208d0 (u.at x1) v := by
  unfold execMasterReclaim
  refine run_frame h _ _ (fun w => ?_)
  repeat' (first | simp (disch := first | decide | (intros; simp (disch := decide) only [↓Frame.access, ↓Frame.reclaimMaster, Frame.refl])) only [↓Frame.access, Frame.refl] | split)

theorem execMonHelp_frame (x1 : ℕ) {u : State} (h : u.held = false) :
    ∃ v, execMonHelp x1 u = .next v ∧ Frame 0x20100008d0 (u.at x1) v := by
  unfold execMonHelp
  refine run_frame h _ _ (fun w => ?_)
  repeat' (first | simp (disch := first | decide | (intros; simp (disch := decide) only [↓Frame.monLine, ↓Frame.monOk, Frame.refl])) only [↓Frame.monLine, Frame.refl] | split)

theorem execMonId_frame (x1 : ℕ) {u : State} (h : u.held = false) :
    ∃ v, execMonId x1 u = .next v ∧ Frame 0x20100008d0 (u.at x1) v := by
  unfold execMonId
  refine run_frame h _ _ (fun w => ?_)
  repeat' (first | simp (disch := first | decide | (intros; simp (disch := decide) only [↓Frame.monLine, ↓Frame.monOk, Frame.refl])) only [↓Frame.monLine, Frame.refl] | split)

theorem execMonRd_frame (x1 : ℕ) (x2 : ℕ) (x3 : ℕ) {u : State} (h : u.held = false) :
    ∃ v, execMonRd x1 x2 x3 u = .next v ∧ Frame 0x20100208f0 (u.at x1) v := by
  unfold execMonRd
  refine run_frame h _ _ (fun w => ?_)
  repeat' (first | simp (disch := first | decide | (intros; simp (disch := decide) only [↓Frame.monLine, ↓Frame.rdCmd, Frame.refl])) only [↓Frame.monLine, Frame.refl] | split)

theorem execMonSr_frame (x1 : ℕ) (x2 : ℕ) (x3 : ℕ) (x4 : Option ℕ) {u : State} (h : u.held = false) :
    ∃ v, execMonSr x1 x2 x3 x4 u = .next v ∧ Frame 0x20100208d0 (u.at x1) v := by
  unfold execMonSr
  refine run_frame h _ _ (fun w => ?_)
  repeat' (first | simp (disch := first | decide | (intros; simp (disch := decide) only [↓Frame.monLine, ↓Frame.srCmd, Frame.refl])) only [↓Frame.monLine, Frame.refl] | split)

theorem execMonWr_frame (x1 : ℕ) (x2 : ℕ) (x3 : ℕ) (x4 : CmdInput) {u : State} (h : u.held = false) :
    ∃ v, execMonWr x1 x2 x3 x4 u = .next v ∧ Frame 0x3bff2fffd8 (u.at x1) v := by
  unfold execMonWr
  refine run_frame h _ _ (fun w => ?_)
  repeat' (first | simp (disch := first | decide | (intros; simp (disch := decide) only [↓Frame.monMay, ↓Frame.wrCmd, Frame.refl])) only [↓Frame.monMay, Frame.refl] | split)

theorem execMonCmd_frame (x1 : ℕ) (x2 : ℕ) (x3 : ℕ) (x4 : List ℕ) (x5 : CmdInput) {u : State} (h : u.held = false) :
    ∃ v, execMonCmd x1 x2 x3 x4 x5 u = .next v ∧ Frame 0x3bff2fffd8 (u.at x1) v := by
  unfold execMonCmd
  refine run_frame h _ _ (fun w => ?_)
  repeat' (first | simp (disch := first | decide | (intros; simp (disch := decide) only [↓Frame.cmdCmd, ↓Frame.monMay, Frame.refl])) only [↓Frame.monMay, Frame.refl] | split)

theorem execMonMode_frame (x1 : ℕ) (x2 : Option ℕ) {u : State} (h : u.held = false) :
    ∃ v, execMonMode x1 x2 u = .next v ∧ Frame 0x3bff2fffd8 (u.at x1) v := by
  unfold execMonMode
  refine run_frame h _ _ (fun w => ?_)
  repeat' (first | simp (disch := first | decide | (intros; simp (disch := decide) only [↓Frame.modeCmd, Frame.refl])) only [↓Frame.modeCmd, Frame.refl] | split)

theorem execMonLedger_frame (x1 : ℕ) (x2 : Option ℕ) (x3 : Option ℕ) {u : State} (h : u.held = false) :
    ∃ v, execMonLedger x1 x2 x3 u = .next v ∧ Frame 0x2258037dd8 (u.at x1) v := by
  unfold execMonLedger
  refine run_frame h _ _ (fun w => ?_)
  repeat' (first | simp (disch := first | decide | (intros; simp (disch := decide) only [↓Frame.ledgerText, ↓Frame.monLine, Frame.refl])) only [↓Frame.monLine, Frame.refl] | split)

theorem execMonFault_frame (x1 : ℕ) {u : State} (h : u.held = false) :
    ∃ v, execMonFault x1 u = .next v ∧ Frame 0x20100008d0 (u.at x1) v := by
  unfold execMonFault
  refine run_frame h _ _ (fun w => ?_)
  repeat' (first | simp (disch := first | decide | (intros; simp (disch := decide) only [↓Frame.faultText, ↓Frame.monLine, Frame.refl])) only [↓Frame.monLine, Frame.refl] | split)

theorem execMonLoad_frame (x1 : ℕ) (x2 : ℕ) (x3 : ℕ) (x4 : ℕ) {u : State} (h : u.held = false) :
    ∃ v, execMonLoad x1 x2 x3 x4 u = .next v ∧ Frame 0x2258017dd8 (u.at x1) v := by
  unfold execMonLoad
  refine run_frame h _ _ (fun w => ?_)
  repeat' (first | simp (disch := first | decide | (intros; simp (disch := decide) only [↓Frame.loadCmd, ↓Frame.monOwn, Frame.refl])) only [↓Frame.monOwn, Frame.refl] | split)

theorem execMonResetWarm_frame (x1 : ℕ) {u : State} (h : u.held = false) :
    ∃ v, execMonResetWarm x1 u = .next v ∧ Frame 0x227807ffd8 (u.at x1) v := by
  unfold execMonResetWarm
  refine run_frame h _ _ (fun w => ?_)
  repeat' (first | simp (disch := first | decide | (intros; simp (disch := decide) only [↓Frame.monOwn, ↓Frame.resetCmd, Frame.refl])) only [↓Frame.monOwn, Frame.refl] | split)

theorem execMonTake_frame (x1 : ℕ) {u : State} (h : u.held = false) :
    ∃ v, execMonTake x1 u = .next v ∧ Frame 0x20100008d0 (u.at x1) v := by
  unfold execMonTake
  refine run_frame h _ _ (fun w => ?_)
  repeat' (first | simp (disch := first | decide | (intros; simp (disch := decide) only [↓Frame.monMay, ↓Frame.takeCmd, Frame.refl])) only [↓Frame.monMay, Frame.refl] | split)

theorem execMonGive_frame (x1 : ℕ) {u : State} (h : u.held = false) :
    ∃ v, execMonGive x1 u = .next v ∧ Frame 0x20100008d0 (u.at x1) v := by
  unfold execMonGive
  refine run_frame h _ _ (fun w => ?_)
  repeat' (first | simp (disch := first | decide | (intros; simp (disch := decide) only [↓Frame.giveCmd, ↓Frame.monLine, Frame.refl])) only [↓Frame.monLine, Frame.refl] | split)

theorem execMonBaud_frame (x1 : ℕ) (x2 : ℕ) {u : State} (h : u.held = false) :
    ∃ v, execMonBaud x1 x2 u = .next v ∧ Frame 0x20100008d0 (u.at x1) v := by
  unfold execMonBaud
  refine run_frame h _ _ (fun w => ?_)
  repeat' (first | simp (disch := first | decide | (intros; simp (disch := decide) only [↓Frame.baudCmd, ↓Frame.monLine, Frame.refl])) only [↓Frame.monLine, Frame.refl] | split)

theorem execMonLineDiscard_frame (x1 : ℕ) (x2 : Bool) {u : State} (h : u.held = false) :
    ∃ v, execMonLineDiscard x1 x2 u = .next v ∧ Frame 0x20100008d0 (u.at x1) v := by
  unfold execMonLineDiscard
  refine run_frame h _ _ (fun w => ?_)
  repeat' (first | simp (disch := first | decide | (intros; simp (disch := decide) only [↓Frame.lineDiscard, Frame.refl])) only [↓Frame.lineDiscard, Frame.refl] | split)

theorem execBaudChange_frame (x1 : ℕ) {u : State} (h : u.held = false) :
    ∃ v, execBaudChange x1 u = .next v ∧ Frame 0x20100008d0 (u.at x1) v := by
  unfold execBaudChange
  refine run_frame h _ _ (fun w => ?_)
  repeat' (first | simp (disch := first | decide | (intros; simp (disch := decide) only [↓Frame.baudChanged, Frame.refl])) only [↓Frame.baudChanged, Frame.refl] | split)

theorem execBaudRevert_frame (x1 : ℕ) {u : State} (h : u.held = false) :
    ∃ v, execBaudRevert x1 u = .next v ∧ Frame 0x20100008d0 (u.at x1) v := by
  unfold execBaudRevert
  refine run_frame h _ _ (fun w => ?_)
  repeat' (first | simp (disch := first | decide | (intros; simp (disch := decide) only [↓Frame.baudReverted, Frame.refl])) only [↓Frame.baudReverted, Frame.refl] | split)

theorem execUartBlock_frame (x1 : ℕ) (x2 : List Byte) (x3 : ℕ) {u : State} (h : u.held = false) :
    ∃ v, execUartBlock x1 x2 x3 u = .next v ∧ Frame 0x2258017dd8 (u.at x1) v := by
  unfold execUartBlock
  refine run_frame h _ _ (fun w => ?_)
  repeat' (first | simp (disch := first | decide | (intros; simp (disch := decide) only [↓Frame.uartTake, Frame.refl])) only [↓Frame.uartTake, Frame.refl] | split)

theorem execUartTimeout_frame (x1 : ℕ) {u : State} (h : u.held = false) :
    ∃ v, execUartTimeout x1 u = .next v ∧ Frame 0x2258017dd8 (u.at x1) v := by
  unfold execUartTimeout
  refine run_frame h _ _ (fun w => ?_)
  repeat' (first | simp (disch := first | decide | (intros; simp (disch := decide) only [↓Frame.uartSilent, Frame.refl])) only [↓Frame.uartSilent, Frame.refl] | split)

theorem execReadOnly_frame (x1 : ℕ) (x2 : Path) {u : State} (h : u.held = false) :
    ∃ v, execReadOnly x1 x2 u = .next v ∧ Frame 0x100208d0 (u.at x1) v := by
  unfold execReadOnly
  refine run_frame h _ _ (fun w => ?_)
  repeat' (first | simp (disch := first | decide | (intros; simp (disch := decide) only [↓Frame.access, ↓Frame.setReadOnly, Frame.refl])) only [↓Frame.access, Frame.refl] | split)

theorem execBypass_frame (x1 : ℕ) {u : State} (h : u.held = false) :
    ∃ v, execBypass x1 u = .next v ∧ Frame 0x2200004810 (u.at x1) v := by
  unfold execBypass
  refine run_frame h _ _ (fun w => ?_)
  repeat' (first | simp (disch := first | decide | (intros; simp (disch := decide) only [↓Frame.jtagLoad, Frame.refl])) only [↓Frame.jtagLoad, Frame.refl] | split)

theorem execIdcode_frame (x1 : ℕ) {u : State} (h : u.held = false) :
    ∃ v, execIdcode x1 u = .next v ∧ Frame 0x2200004810 (u.at x1) v := by
  unfold execIdcode
  refine run_frame h _ _ (fun w => ?_)
  repeat' (first | simp (disch := first | decide | (intros; simp (disch := decide) only [↓Frame.emit, ↓Frame.jtagLoad, Frame.refl])) only [↓Frame.emit, ↓Frame.jtagLoad, Frame.refl] | split)

theorem execSamplePreload_frame (x1 : ℕ) (x2 : ℕ) {u : State} (h : u.held = false) :
    ∃ v, execSamplePreload x1 x2 u = .next v ∧ Frame 0x2200004810 (u.at x1) v := by
  unfold execSamplePreload
  refine run_frame h _ _ (fun w => ?_)
  repeat' (first | simp (disch := first | decide | (intros; simp (disch := decide) only [↓Frame.emit, ↓Frame.jtagLoad, ↓Frame.setHost, Frame.refl])) only [↓Frame.emit, ↓Frame.jtagLoad, ↓Frame.setHost, Frame.refl] | split)

theorem execExtest_frame (x1 : ℕ) (x2 : ℕ) {u : State} (h : u.held = false) :
    ∃ v, execExtest x1 x2 u = .next v ∧ Frame 0x2200004810 (u.at x1) v := by
  unfold execExtest
  refine run_frame h _ _ (fun w => ?_)
  repeat' (first | simp (disch := first | decide | (intros; simp (disch := decide) only [↓Frame.jtagLoad, ↓Frame.setHost, Frame.refl])) only [↓Frame.jtagLoad, ↓Frame.setHost, Frame.refl] | split)

theorem execHighz_frame (x1 : ℕ) {u : State} (h : u.held = false) :
    ∃ v, execHighz x1 u = .next v ∧ Frame 0x2200004810 (u.at x1) v := by
  unfold execHighz
  refine run_frame h _ _ (fun w => ?_)
  repeat' (first | simp (disch := first | decide | (intros; simp (disch := decide) only [↓Frame.jtagLoad, Frame.refl])) only [↓Frame.jtagLoad, Frame.refl] | split)

theorem execClamp_frame (x1 : ℕ) {u : State} (h : u.held = false) :
    ∃ v, execClamp x1 u = .next v ∧ Frame 0x2200004810 (u.at x1) v := by
  unfold execClamp
  refine run_frame h _ _ (fun w => ?_)
  repeat' (first | simp (disch := first | decide | (intros; simp (disch := decide) only [↓Frame.jtagLoad, Frame.refl])) only [↓Frame.jtagLoad, Frame.refl] | split)

theorem execClaimStrobeEdge_frame (x1 : ℕ) {u : State} (h : u.held = false) :
    ∃ v, execClaimStrobeEdge x1 u = .next v ∧ Frame 0x2500149d0 (u.at x1) v := by
  unfold execClaimStrobeEdge
  refine run_frame h _ _ (fun w => ?_)
  repeat' (first | simp (disch := first | decide | (intros; simp (disch := decide) only [↓Frame.claimStrobeEdge, Frame.refl])) only [↓Frame.claimStrobeEdge, Frame.refl] | split)

theorem execInternalReset_frame (x1 : ℕ) {u : State} (h : u.held = false) :
    ∃ v, execInternalReset x1 u = .next v ∧ Frame 0x4802 (u.at x1) v := by
  unfold execInternalReset
  refine run_frame h _ _ (fun w => ?_)
  repeat' (first | simp (disch := first | decide | (intros; simp (disch := decide) only [↓Frame.enterReset, Frame.refl])) only [↓Frame.enterReset, Frame.refl] | split)

theorem execSurpriseLinkDown_frame (x1 : ℕ) (x2 : List Byte) (x3 : ℕ) {u : State} (h : u.held = false) :
    ∃ v, execSurpriseLinkDown x1 x2 x3 u = .next v ∧ Frame 0x2258017dd8 (u.at x1) v := by
  unfold execSurpriseLinkDown
  refine run_frame h _ _ (fun w => ?_)
  repeat' (first | simp (disch := first | decide | (intros; simp (disch := decide) only [↓Frame.surpriseDown, Frame.refl])) only [↓Frame.surpriseDown, Frame.refl] | split)

theorem execBlockLock_frame (x1 : ℕ) (x2 : ℕ) {u : State} (h : u.held = false) :
    ∃ v, execBlockLock x1 x2 u = .next v ∧ Frame 0x10000810 (u.at x1) v := by
  unfold execBlockLock
  refine run_frame h _ _ (fun w => ?_)
  repeat' (first | simp (disch := first | decide | (intros; simp (disch := decide) only [↓Frame.blockLock, Frame.refl])) only [↓Frame.blockLock, Frame.refl] | split)

theorem execLockLost_frame (x1 : ℕ) (x2 : ℕ) {u : State} (h : u.held = false) :
    ∃ v, execLockLost x1 x2 u = .next v ∧ Frame 0x225807fdd8 (u.at x1) v := by
  unfold execLockLost
  refine run_frame h _ _ (fun w => ?_)
  repeat' (first | simp (disch := first | decide | (intros; simp (disch := decide) only [↓Frame.lockLost, Frame.refl])) only [↓Frame.lockLost, Frame.refl] | split)

theorem execBadCell_frame (x1 : ℕ) (x2 : ℕ) {u : State} (h : u.held = false) :
    ∃ v, execBadCell x1 x2 u = .next v ∧ Frame 0x10000010 (u.at x1) v := by
  unfold execBadCell
  refine run_frame h _ _ (fun w => ?_)
  repeat' (first | simp (disch := first | decide | (intros; simp (disch := decide) only [↓Frame.badCell, Frame.refl])) only [↓Frame.badCell, Frame.refl] | split)

/-- In internal reset every command but the power-on reset leaves the state as it is (R426). -/
theorem exec_still {s : State} (h : s.held = true) (i : Instr) (hi : i.isPowerOn = false) : exec i s = .next s :=
  match i with
  | .registerWrite t path addr value whole x => show execRegisterWrite  t path addr value whole x s = .next s by unfold execRegisterWrite; exact run_still h _ _
  | .lowWordRead t addr whole => show execLowWordRead  t addr whole s = .next s by unfold execLowWordRead; exact run_still h _ _
  | .irqSet t path block value => show execIrqSet  t path block value s = .next s by unfold execIrqSet; exact run_still h _ _
  | .irqStatusWrite t path block enable value => show execIrqStatusWrite  t path block enable value s = .next s by unfold execIrqStatusWrite; exact run_still h _ _
  | .msixUnmask t path vector => show execMsixUnmask  t path vector s = .next s by unfold execMsixUnmask; exact run_still h _ _
  | .load t path => show execLoad  t path s = .next s by unfold execLoad command; exact run_still h _ _
  | .automaticBoot t => show execAutomaticBoot  t s = .next s by unfold execAutomaticBoot; exact run_still h _ _
  | .loadDone t object retried => show execLoadDone  t object retried s = .next s by unfold execLoadDone; exact run_still h _ _
  | .loadFail t object retried at' => show execLoadFail  t object retried at' s = .next s by unfold execLoadFail; exact run_still h _ _
  | .unload t path => show execUnload  t path s = .next s by unfold execUnload command; exact run_still h _ _
  | .loadCard t path => show execLoadCard  t path s = .next s by unfold execLoadCard command; exact run_still h _ _
  | .cardLoaded t object retried => show execCardLoaded  t object retried s = .next s by unfold execCardLoaded; exact run_still h _ _
  | .dropCard t path => show execDropCard  t path s = .next s by unfold execDropCard command; exact run_still h _ _
  | .patch t path => show execPatch  t path s = .next s by unfold execPatch command; exact run_still h _ _
  | .patchAccepted t object retried => show execPatchAccepted  t object retried s = .next s by unfold execPatchAccepted; exact run_still h _ _
  | .cancelPatch t path => show execCancelPatch  t path s = .next s by unfold execCancelPatch command; exact run_still h _ _
  | .imageWrite t path => show execImageWrite  t path s = .next s by unfold execImageWrite command; exact run_still h _ _
  | .imageErase t path => show execImageErase  t path s = .next s by unfold execImageErase command; exact run_still h _ _
  | .imageDone t bytes good => show execImageDone  t bytes good s = .next s by unfold execImageDone; exact run_still h _ _
  | .cardLock t path => show execCardLock  t path s = .next s by unfold execCardLock; exact run_still h _ _
  | .requireSigned t path => show execRequireSigned  t path s = .next s by unfold execRequireSigned; exact run_still h _ _
  | .stagingComplete t => show execStagingComplete  t s = .next s by unfold execStagingComplete; exact run_still h _ _
  | .switchSlot t => show execSwitchSlot  t s = .next s by unfold execSwitchSlot; exact run_still h _ _
  | .warmReset t path => show execWarmReset  t path s = .next s by unfold execWarmReset command; exact run_still h _ _
  | .wrstN t lowNs => show execWrstN  t lowNs s = .next s by unfold execWrstN; exact run_still h _ _
  | .warmDone t => show execWarmDone  t s = .next s by unfold execWarmDone; exact run_still h _ _
  | .requestM2 t path => show execRequestM2  t path s = .next s by unfold execRequestM2; exact run_still h _ _
  | .requestM3 t path => show execRequestM3  t path s = .next s by unfold execRequestM3; exact run_still h _ _
  | .requestM9 t path => show execRequestM9  t path s = .next s by unfold execRequestM9; exact run_still h _ _
  | .setHostOverload t path => show execSetHostOverload  t path s = .next s by unfold execSetHostOverload; exact run_still h _ _
  | .liftHostOverload t path => show execLiftHostOverload  t path s = .next s by unfold execLiftHostOverload; exact run_still h _ _
  | .powerOnReset .. => absurd hi (by simp [Instr.isPowerOn])
  | .timePllLock t => show execTimePllLock  t s = .next s by unfold execTimePllLock; exact run_still h _ _
  | .ptpMessage t port msg => show execPtpMessage  t port msg s = .next s by unfold execPtpMessage; exact run_still h _ _
  | .ptpTransmit t => show execPtpTransmit  t s = .next s by unfold execPtpTransmit; exact run_still h _ _
  | .sourceTimeout t source => show execSourceTimeout  t source s = .next s by unfold execSourceTimeout; exact run_still h _ _
  | .ppsEdge t stamp => show execPpsEdge  t stamp s = .next s by unfold execPpsEdge; exact run_still h _ _
  | .todSentence t utc ok => show execTodSentence  t utc ok s = .next s by unfold execTodSentence; exact run_still h _ _
  | .irigFrame t stamp ok ext year second localOffset quality leapPending leapDelete => show execIrigFrame  t stamp ok ext year second localOffset quality leapPending leapDelete s = .next s by unfold execIrigFrame; exact run_still h _ _
  | .crossFail t => show execCrossFail  t s = .next s by unfold execCrossFail; exact run_still h _ _
  | .crossAgree t => show execCrossAgree  t s = .next s by unfold execCrossAgree; exact run_still h _ _
  | .leapApplied t => show execLeapApplied  t s = .next s by unfold execLeapApplied; exact run_still h _ _
  | .ppsOEdge t => show execPpsOEdge  t s = .next s by unfold execPpsOEdge; exact run_still h _ _
  | .pulseEdge t n => show execPulseEdge  t n s = .next s by unfold execPulseEdge; exact run_still h _ _
  | .setGrid t path => show execSetGrid  t path s = .next s by unfold execSetGrid command; exact run_still h _ _
  | .setTest t path => show execSetTest  t path s = .next s by unfold execSetTest command; exact run_still h _ _
  | .pathAccept t path => show execPathAccept  t path s = .next s by unfold execPathAccept command; exact run_still h _ _
  | .clearAsym t path => show execClearAsym  t path s = .next s by unfold execClearAsym command; exact run_still h _ _
  | .setUtc t path => show execSetUtc  t path s = .next s by unfold execSetUtc command; exact run_still h _ _
  | .pulseArm t path => show execPulseArm  t path s = .next s by unfold execPulseArm command; exact run_still h _ _
  | .pulseDisarm t path => show execPulseDisarm  t path s = .next s by unfold execPulseDisarm command; exact run_still h _ _
  | .frameReceived t port bytes latched fcsOk => show execFrameReceived  t port bytes latched fcsOk s = .next s by unfold execFrameReceived; exact run_still h _ _
  | .linkUp t port since => show execLinkUp  t port since s = .next s by unfold execLinkUp; exact run_still h _ _
  | .linkDown t port detail inFrame => show execLinkDown  t port detail inFrame s = .next s by unfold execLinkDown; exact run_still h _ _
  | .prpSupervision t pair => show execPrpSupervision  t pair s = .next s by unfold execPrpSupervision; exact run_still h _ _
  | .prpForget t pair mac => show execPrpForget  t pair mac s = .next s by unfold execPrpForget; exact run_still h _ _
  | .hostFrameSend t => show execHostFrameSend  t s = .next s by unfold execHostFrameSend; exact run_still h _ _
  | .mcastWrite t path => show execMcastWrite  t path s = .next s by unfold execMcastWrite command; exact run_still h _ _
  | .mcastClear t path => show execMcastClear  t path s = .next s by unfold execMcastClear command; exact run_still h _ _
  | .linkRestart t path => show execLinkRestart  t path s = .next s by unfold execLinkRestart command; exact run_still h _ _
  | .prpFlush t path => show execPrpFlush  t path s = .next s by unfold execPrpFlush command; exact run_still h _ _
  | .c37DataFrame t => show execC37DataFrame  t s = .next s by unfold execC37DataFrame; exact run_still h _ _
  | .c37ConfigFrame t => show execC37ConfigFrame  t s = .next s by unfold execC37ConfigFrame; exact run_still h _ _
  | .c37HeaderFrame t => show execC37HeaderFrame  t s = .next s by unfold execC37HeaderFrame; exact run_still h _ _
  | .c37CommandFrame t => show execC37CommandFrame  t s = .next s by unfold execC37CommandFrame; exact run_still h _ _
  | .sessionPdu t => show execSessionPdu  t s = .next s by unfold execSessionPdu; exact run_still h _ _
  | .svFrame t => show execSvFrame  t s = .next s by unfold execSvFrame; exact run_still h _ _
  | .gooseMessage t => show execGooseMessage  t s = .next s by unfold execGooseMessage; exact run_still h _ _
  | .injectedFrame t => show execInjectedFrame  t s = .next s by unfold execInjectedFrame; exact run_still h _ _
  | .silenceTimeout t sid => show execSilenceTimeout  t sid s = .next s by unfold execSilenceTimeout; exact run_still h _ _
  | .gooseTalExpired t entry => show execGooseTalExpired  t entry s = .next s by unfold execGooseTalExpired; exact run_still h _ _
  | .dataOnRetry t sid => show execDataOnRetry  t sid s = .next s by unfold execDataOnRetry; exact run_still h _ _
  | .streamState t path => show execStreamState  t path s = .next s by unfold execStreamState command; exact run_still h _ _
  | .streamEnable t path => show execStreamEnable  t path s = .next s by unfold execStreamEnable command; exact run_still h _ _
  | .requestCfg t path => show execRequestCfg  t path s = .next s by unfold execRequestCfg command; exact run_still h _ _
  | .keyLoad t path => show execKeyLoad  t path s = .next s by unfold execKeyLoad command; exact run_still h _ _
  | .keyInvalidate t path => show execKeyInvalidate  t path s = .next s by unfold execKeyInvalidate command; exact run_still h _ _
  | .reedItem t fails => show execReedItem  t fails s = .next s by unfold execReedItem; exact run_still h _ _
  | .waveformSample t => show execWaveformSample  t s = .next s by unfold execWaveformSample; exact run_still h _ _
  | .threadState t path => show execThreadState  t path s = .next s by unfold execThreadState command; exact run_still h _ _
  | .estState t path => show execEstState  t path s = .next s by unfold execEstState command; exact run_still h _ _
  | .bankInfo t path => show execBankInfo  t path s = .next s by unfold execBankInfo command; exact run_still h _ _
  | .slotInstant t lattice => show execSlotInstant  t lattice s = .next s by unfold execSlotInstant; exact run_still h _ _
  | .loomWrite t fails => show execLoomWrite  t fails s = .next s by unfold execLoomWrite; exact run_still h _ _
  | .setDeadline t lattice => show execSetDeadline  t lattice s = .next s by unfold execSetDeadline; exact run_still h _ _
  | .closePipeline t checks upsets => show execClosePipeline  t checks upsets s = .next s by unfold execClosePipeline; exact run_still h _ _
  | .learnedRefresh t => show execLearnedRefresh  t s = .next s by unfold execLearnedRefresh; exact run_still h _ _
  | .overloadSet t backpressureMs => show execOverloadSet  t backpressureMs s = .next s by unfold execOverloadSet; exact run_still h _ _
  | .overloadClear t backpressureMs => show execOverloadClear  t backpressureMs s = .next s by unfold execOverloadClear; exact run_still h _ _
  | .readValue t path => show execReadValue  t path s = .next s by unfold execReadValue command; exact run_still h _ _
  | .quantile t path => show execQuantile  t path s = .next s by unfold execQuantile command; exact run_still h _ _
  | .histReset t path => show execHistReset  t path s = .next s by unfold execHistReset command; exact run_still h _ _
  | .weft t path => show execWeft  t path s = .next s by unfold execWeft command; exact run_still h _ _
  | .closeNow t path => show execCloseNow  t path s = .next s by unfold execCloseNow command; exact run_still h _ _
  | .trackerStale t tracker => show execTrackerStale  t tracker s = .next s by unfold execTrackerStale; exact run_still h _ _
  | .ckptArchive t fails => show execCkptArchive  t fails s = .next s by unfold execCkptArchive; exact run_still h _ _
  | .shapeReport t job => show execShapeReport  t job s = .next s by unfold execShapeReport; exact run_still h _ _
  | .trackerRead t path => show execTrackerRead  t path s = .next s by unfold execTrackerRead command; exact run_still h _ _
  | .spectrumRead t path => show execSpectrumRead  t path s = .next s by unfold execSpectrumRead command; exact run_still h _ _
  | .trackerReset t path => show execTrackerReset  t path s = .next s by unfold execTrackerReset command; exact run_still h _ _
  | .ckptSave t path => show execCkptSave  t path s = .next s by unfold execCkptSave command; exact run_still h _ _
  | .scTimeout t => show execScTimeout  t s = .next s by unfold execScTimeout; exact run_still h _ _
  | .areaRead t path => show execAreaRead  t path s = .next s by unfold execAreaRead command; exact run_still h _ _
  | .scStart t path => show execScStart  t path s = .next s by unfold execScStart command; exact run_still h _ _
  | .scStop t path => show execScStop  t path s = .next s by unfold execScStop command; exact run_still h _ _
  | .tieForce t path => show execTieForce  t path s = .next s by unfold execTieForce command; exact run_still h _ _
  | .gooseRepeat t cb => show execGooseRepeat  t cb s = .next s by unfold execGooseRepeat; exact run_still h _ _
  | .pinMismatch t pin high => show execPinMismatch  t pin high s = .next s by unfold execPinMismatch; exact run_still h _ _
  | .pointRead t path => show execPointRead  t path s = .next s by unfold execPointRead command; exact run_still h _ _
  | .resetLatch t path => show execResetLatch  t path s = .next s by unfold execResetLatch command; exact run_still h _ _
  | .pinTest t path => show execPinTest  t path s = .next s by unfold execPinTest command; exact run_still h _ _
  | .pinTestEnd t => show execPinTestEnd  t s = .next s by unfold execPinTestEnd; exact run_still h _ _
  | .laneResync t path => show execLaneResync  t path s = .next s by unfold execLaneResync command; exact run_still h _ _
  | .retryComplete t cls element' ok spent owner => show execRetryComplete  t cls element' ok spent owner s = .next s by unfold execRetryComplete; exact run_still h _ _
  | .configScan t element' fails => show execConfigScan  t element' fails s = .next s by unfold execConfigScan; exact run_still h _ _
  | .shadowScan t fails => show execShadowScan  t fails s = .next s by unfold execShadowScan; exact run_still h _ _
  | .scrub t inStacks find => show execScrub  t inStacks find s = .next s by unfold execScrub; exact run_still h _ _
  | .restored t element' => show execRestored  t element' s = .next s by unfold execRestored; exact run_still h _ _
  | .holdExpired t => show execHoldExpired  t s = .next s by unfold execHoldExpired; exact run_still h _ _
  | .elementRead t path => show execElementRead  t path s = .next s by unfold execElementRead command; exact run_still h _ _
  | .inject t path => show execInject  t path s = .next s by unfold execInject command; exact run_still h _ _
  | .restore t path => show execRestore  t path s = .next s by unfold execRestore command; exact run_still h _ _
  | .holdRelease t path => show execHoldRelease  t path s = .next s by unfold execHoldRelease command; exact run_still h _ _
  | .countersClear t path => show execCountersClear  t path s = .next s by unfold execCountersClear command; exact run_still h _ _
  | .partnerClaim t lane claim => show execPartnerClaim  t lane claim s = .next s by unfold execPartnerClaim; exact run_still h _ _
  | .partnerLost t => show execPartnerLost  t s = .next s by unfold execPartnerLost; exact run_still h _ _
  | .claimRaise t => show execClaimRaise  t s = .next s by unfold execClaimRaise; exact run_still h _ _
  | .intlkPull t high => show execIntlkPull  t high s = .next s by unfold execIntlkPull; exact run_still h _ _
  | .helloSend t => show execHelloSend  t s = .next s by unfold execHelloSend; exact run_still h _ _
  | .mirrorHello t content => show execMirrorHello  t content s = .next s by unfold execMirrorHello; exact run_still h _ _
  | .intentSend t os => show execIntentSend  t os s = .next s by unfold execIntentSend; exact run_still h _ _
  | .mirrorIntent t content => show execMirrorIntent  t content s = .next s by unfold execMirrorIntent; exact run_still h _ _
  | .mirrorLatch t content => show execMirrorLatch  t content s = .next s by unfold execMirrorLatch; exact run_still h _ _
  | .mirrorGoose t content => show execMirrorGoose  t content s = .next s by unfold execMirrorGoose; exact run_still h _ _
  | .mirrorEnergy t content => show execMirrorEnergy  t content s = .next s by unfold execMirrorEnergy; exact run_still h _ _
  | .mirrorLedger t content => show execMirrorLedger  t content s = .next s by unfold execMirrorLedger; exact run_still h _ _
  | .mirrorCkpt t content => show execMirrorCkpt  t content s = .next s by unfold execMirrorCkpt; exact run_still h _ _
  | .mirrorCapt t content => show execMirrorCapt  t content s = .next s by unfold execMirrorCapt; exact run_still h _ _
  | .mirrorFull t content => show execMirrorFull  t content s = .next s by unfold execMirrorFull; exact run_still h _ _
  | .energyMirrorSend t => show execEnergyMirrorSend  t s = .next s by unfold execEnergyMirrorSend; exact run_still h _ _
  | .ckptMirrorSend t => show execCkptMirrorSend  t s = .next s by unfold execCkptMirrorSend; exact run_still h _ _
  | .yield t path => show execYield  t path s = .next s by unfold execYield command; exact run_still h _ _
  | .yieldApplied t => show execYieldApplied  t s = .next s by unfold execYieldApplied; exact run_still h _ _
  | .reclaim t path => show execReclaim  t path s = .next s by unfold execReclaim command; exact run_still h _ _
  | .mirrorSync t path => show execMirrorSync  t path s = .next s by unfold execMirrorSync command; exact run_still h _ _
  | .trainCell t link bytes => show execTrainCell  t link bytes s = .next s by unfold execTrainCell; exact run_still h _ _
  | .heartbeatCell t link bytes => show execHeartbeatCell  t link bytes s = .next s by unfold execHeartbeatCell; exact run_still h _ _
  | .heartbeatSend t link => show execHeartbeatSend  t link s = .next s by unfold execHeartbeatSend; exact run_still h _ _
  | .linkSilent t link => show execLinkSilent  t link s = .next s by unfold execLinkSilent; exact run_still h _ _
  | .nakCell t link bytes => show execNakCell  t link bytes s = .next s by unfold execNakCell; exact run_still h _ _
  | .retransmit t link => show execRetransmit  t link s = .next s by unfold execRetransmit; exact run_still h _ _
  | .retryFail t link => show execRetryFail  t link s = .next s by unfold execRetryFail; exact run_still h _ _
  | .autoRestart t link => show execAutoRestart  t link s = .next s by unfold execAutoRestart; exact run_still h _ _
  | .bringupRetry t link => show execBringupRetry  t link s = .next s by unfold execBringupRetry; exact run_still h _ _
  | .cellTransmit t link => show execCellTransmit  t link s = .next s by unfold execCellTransmit; exact run_still h _ _
  | .slotHeadCell t link bytes => show execSlotHeadCell  t link bytes s = .next s by unfold execSlotHeadCell; exact run_still h _ _
  | .slotDataCell t link bytes => show execSlotDataCell  t link bytes s = .next s by unfold execSlotDataCell; exact run_still h _ _
  | .truncationTimeout t origin lattice => show execTruncationTimeout  t origin lattice s = .next s by unfold execTruncationTimeout; exact run_still h _ _
  | .armCell t link bytes => show execArmCell  t link bytes s = .next s by unfold execArmCell; exact run_still h _ _
  | .fireCell t link bytes => show execFireCell  t link bytes s = .next s by unfold execFireCell; exact run_still h _ _
  | .slvLinkRestart t path => show execSlvLinkRestart  t path s = .next s by unfold execSlvLinkRestart command; exact run_still h _ _
  | .linkHold t path => show execLinkHold  t path s = .next s by unfold execLinkHold command; exact run_still h _ _
  | .originRead t path => show execOriginRead  t path s = .next s by unfold execOriginRead command; exact run_still h _ _
  | .composeStart t os => show execComposeStart  t os s = .next s by unfold execComposeStart; exact run_still h _ _
  | .launch t os => show execLaunch  t os s = .next s by unfold execLaunch; exact run_still h _ _
  | .lateLaunch t os => show execLateLaunch  t os s = .next s by unfold execLateLaunch; exact run_still h _ _
  | .shuttleStreamEnable t path => show execShuttleStreamEnable  t path s = .next s by unfold execShuttleStreamEnable command; exact run_still h _ _
  | .cfgFetch t path => show execCfgFetch  t path s = .next s by unfold execCfgFetch command; exact run_still h _ _
  | .cmdSend t path => show execCmdSend  t path s = .next s by unfold execCmdSend command; exact run_still h _ _
  | .d2hCopy t q good => show execD2hCopy  t q good s = .next s by unfold execD2hCopy; exact run_still h _ _
  | .doorbell t path q value => show execDoorbell  t path q value s = .next s by unfold execDoorbell; exact run_still h _ _
  | .h2dFetch t q kind payload good => show execH2dFetch  t q kind payload good s = .next s by unfold execH2dFetch; exact run_still h _ _
  | .moderationTimeout t q => show execModerationTimeout  t q s = .next s by unfold execModerationTimeout; exact run_still h _ _
  | .queueFlush t path q => show execQueueFlush  t path q s = .next s by unfold execQueueFlush; exact run_still h _ _
  | .queueStart t path => show execQueueStart  t path s = .next s by unfold execQueueStart command; exact run_still h _ _
  | .queueStop t path => show execQueueStop  t path s = .next s by unfold execQueueStop command; exact run_still h _ _
  | .inputChange t => show execInputChange  t s = .next s by unfold execInputChange; exact run_still h _ _
  | .waveWaitEnd t region => show execWaveWaitEnd  t region s = .next s by unfold execWaveWaitEnd; exact run_still h _ _
  | .rearmDone t region => show execRearmDone  t region s = .next s by unfold execRearmDone; exact run_still h _ _
  | .arm t path => show execArm  t path s = .next s by unfold execArm command; exact run_still h _ _
  | .disarm t path => show execDisarm  t path s = .next s by unfold execDisarm command; exact run_still h _ _
  | .fire t path => show execFire  t path s = .next s by unfold execFire command; exact run_still h _ _
  | .trigSet t path => show execTrigSet  t path s = .next s by unfold execTrigSet command; exact run_still h _ _
  | .recordLock t path => show execRecordLock  t path s = .next s by unfold execRecordLock command; exact run_still h _ _
  | .recordUnlock t path => show execRecordUnlock  t path s = .next s by unfold execRecordUnlock command; exact run_still h _ _
  | .energySave t fails => show execEnergySave  t fails s = .next s by unfold execEnergySave; exact run_still h _ _
  | .epulsePhase t output => show execEpulsePhase  t output s = .next s by unfold execEpulsePhase; exact run_still h _ _
  | .intervalRead t path => show execIntervalRead  t path s = .next s by unfold execIntervalRead command; exact run_still h _ _
  | .peakReset t path => show execPeakReset  t path s = .next s by unfold execPeakReset command; exact run_still h _ _
  | .ledgerEvent t code source payload => show execLedgerEvent  t code source payload s = .next s by unfold execLedgerEvent; exact run_still h _ _
  | .coalesceClose t => show execCoalesceClose  t s = .next s by unfold execCoalesceClose; exact run_still h _ _
  | .recordWritten t fails => show execRecordWritten  t fails s = .next s by unfold execRecordWritten; exact run_still h _ _
  | .opSecondsSave t => show execOpSecondsSave  t s = .next s by unfold execOpSecondsSave; exact run_still h _ _
  | .read t path => show execRead  t path s = .next s by unfold execRead command; exact run_still h _ _
  | .ack t path => show execAck  t path s = .next s by unfold execAck command; exact run_still h _ _
  | .ledgerFlush t path => show execLedgerFlush  t path s = .next s by unfold execLedgerFlush command; exact run_still h _ _
  | .verify t path => show execVerify  t path s = .next s by unfold execVerify command; exact run_still h _ _
  | .nonce t path => show execNonce  t path s = .next s by unfold execNonce command; exact run_still h _ _
  | .nonceExpiry t => show execNonceExpiry  t s = .next s by unfold execNonceExpiry; exact run_still h _ _
  | .clear t path => show execClear  t path s = .next s by unfold execClear command; exact run_still h _ _
  | .clearDone t => show execClearDone  t s = .next s by unfold execClearDone; exact run_still h _ _
  | .keySet t path => show execKeySet  t path s = .next s by unfold execKeySet command; exact run_still h _ _
  | .keyChange t path => show execKeyChange  t path s = .next s by unfold execKeyChange command; exact run_still h _ _
  | .scanStart t path => show execScanStart  t path s = .next s by unfold execScanStart command; exact run_still h _ _
  | .scanStop t path blocks => show execScanStop  t path blocks s = .next s by unfold execScanStop command; exact run_still h _ _
  | .scanDone t engine bad => show execScanDone  t engine bad s = .next s by unfold execScanDone; exact run_still h _ _
  | .domainSet t path => show execDomainSet  t path s = .next s by unfold execDomainSet command; exact run_still h _ _
  | .drainComplete t => show execDrainComplete  t s = .next s by unfold execDrainComplete; exact run_still h _ _
  | .drainTimeout t transfers => show execDrainTimeout  t transfers s = .next s by unfold execDrainTimeout; exact run_still h _ _
  | .domainWakeDone t domain good => show execDomainWakeDone  t domain good s = .next s by unfold execDomainWakeDone; exact run_still h _ _
  | .archiveRetain t => show execArchiveRetain  t s = .next s by unfold execArchiveRetain; exact run_still h _ _
  | .droop t supply mv => show execDroop  t supply mv s = .next s by unfold execDroop; exact run_still h _ _
  | .droopLasting t supply => show execDroopLasting  t supply s = .next s by unfold execDroopLasting; exact run_still h _ _
  | .pfwNChange t low => show execPfwNChange  t low s = .next s by unfold execPfwNChange; exact run_still h _ _
  | .pfwFall t => show execPfwFall  t s = .next s by unfold execPfwFall; exact run_still h _ _
  | .flushDone t fails => show execFlushDone  t fails s = .next s by unfold execFlushDone; exact run_still h _ _
  | .pfwRecovered t => show execPfwRecovered  t s = .next s by unfold execPfwRecovered; exact run_still h _ _
  | .clockLoss t island wrong => show execClockLoss  t island wrong s = .next s by unfold execClockLoss; exact run_still h _ _
  | .relockDone t island ok => show execRelockDone  t island ok s = .next s by unfold execRelockDone; exact run_still h _ _
  | .canaryError t island canary m => show execCanaryError  t island canary m s = .next s by unfold execCanaryError; exact run_still h _ _
  | .hourlyReplan t m => show execHourlyReplan  t m s = .next s by unfold execHourlyReplan; exact run_still h _ _
  | .replanMeasure t m => show execReplanMeasure  t m s = .next s by unfold execReplanMeasure; exact run_still h _ _
  | .avsCheck t mv ack => show execAvsCheck  t mv ack s = .next s by unfold execAvsCheck; exact run_still h _ _
  | .ageForecast t => show execAgeForecast  t s = .next s by unfold execAgeForecast; exact run_still h _ _
  | .replan t path m => show execReplan  t path m s = .next s by unfold execReplan command; exact run_still h _ _
  | .avsSet t path => show execAvsSet  t path s = .next s by unfold execAvsSet command; exact run_still h _ _
  | .perstN t low object off => show execPerstN  t low object off s = .next s by unfold execPerstN; exact run_still h _ _
  | .pcieLinkUp t speed width busMaster => show execPcieLinkUp  t speed width busMaster s = .next s by unfold execPcieLinkUp; exact run_still h _ _
  | .dState t d3 => show execDState  t d3 s = .next s by unfold execDState; exact run_still h _ _
  | .bar2Read t addr len good => show execBar2Read  t addr len good s = .next s by unfold execBar2Read; exact run_still h _ _
  | .bar2Write t addr bytes => show execBar2Write  t addr bytes s = .next s by unfold execBar2Write; exact run_still h _ _
  | .masterReclaim t => show execMasterReclaim  t s = .next s by unfold execMasterReclaim; exact run_still h _ _
  | .monHelp t => show execMonHelp  t s = .next s by unfold execMonHelp; exact run_still h _ _
  | .monId t => show execMonId  t s = .next s by unfold execMonId; exact run_still h _ _
  | .monRd t addr n => show execMonRd  t addr n s = .next s by unfold execMonRd; exact run_still h _ _
  | .monSr t addr n bad => show execMonSr  t addr n bad s = .next s by unfold execMonSr; exact run_still h _ _
  | .monWr t addr value x => show execMonWr  t addr value x s = .next s by unfold execMonWr; exact run_still h _ _
  | .monCmd t block opcode args x => show execMonCmd  t block opcode args x s = .next s by unfold execMonCmd; exact run_still h _ _
  | .monMode t mode => show execMonMode  t mode s = .next s by unfold execMonMode; exact run_still h _ _
  | .monLedger t acc n => show execMonLedger  t acc n s = .next s by unfold execMonLedger; exact run_still h _ _
  | .monFault t => show execMonFault  t s = .next s by unfold execMonFault; exact run_still h _ _
  | .monLoad t source kind length => show execMonLoad  t source kind length s = .next s by unfold execMonLoad; exact run_still h _ _
  | .monResetWarm t => show execMonResetWarm  t s = .next s by unfold execMonResetWarm; exact run_still h _ _
  | .monTake t => show execMonTake  t s = .next s by unfold execMonTake; exact run_still h _ _
  | .monGive t => show execMonGive  t s = .next s by unfold execMonGive; exact run_still h _ _
  | .monBaud t rate => show execMonBaud  t rate s = .next s by unfold execMonBaud; exact run_still h _ _
  | .monLineDiscard t framing => show execMonLineDiscard  t framing s = .next s by unfold execMonLineDiscard; exact run_still h _ _
  | .baudChange t => show execBaudChange  t s = .next s by unfold execBaudChange; exact run_still h _ _
  | .baudRevert t => show execBaudRevert  t s = .next s by unfold execBaudRevert; exact run_still h _ _
  | .uartBlock t block crc => show execUartBlock  t block crc s = .next s by unfold execUartBlock; exact run_still h _ _
  | .uartTimeout t => show execUartTimeout  t s = .next s by unfold execUartTimeout; exact run_still h _ _
  | .readOnly t path => show execReadOnly  t path s = .next s by unfold execReadOnly; exact run_still h _ _
  | .bypass t => show execBypass  t s = .next s by unfold execBypass; exact run_still h _ _
  | .idcode t => show execIdcode  t s = .next s by unfold execIdcode; exact run_still h _ _
  | .samplePreload t value => show execSamplePreload  t value s = .next s by unfold execSamplePreload; exact run_still h _ _
  | .extest t value => show execExtest  t value s = .next s by unfold execExtest; exact run_still h _ _
  | .highz t => show execHighz  t s = .next s by unfold execHighz; exact run_still h _ _
  | .clamp t => show execClamp  t s = .next s by unfold execClamp; exact run_still h _ _
  | .claimStrobeEdge t => show execClaimStrobeEdge  t s = .next s by unfold execClaimStrobeEdge; exact run_still h _ _
  | .internalReset t => show execInternalReset  t s = .next s by unfold execInternalReset; exact run_still h _ _
  | .surpriseLinkDown t object off => show execSurpriseLinkDown  t object off s = .next s by unfold execSurpriseLinkDown; exact run_still h _ _
  | .blockLock t link => show execBlockLock  t link s = .next s by unfold execBlockLock; exact run_still h _ _
  | .lockLost t link => show execLockLost  t link s = .next s by unfold execLockLost; exact run_still h _ _
  | .badCell t link => show execBadCell  t link s = .next s by unfold execBadCell; exact run_still h _ _

/-- Every command but the power-on reset answers a next state that differs from the one at its time only in the parts listed for it. -/
theorem exec_frame {s : State} (h : s.held = false) (i : Instr) (hi : i.isPowerOn = false) :
    ∃ u, exec i s = .next u ∧ Frame (partSet i.writes) (s.at i.time) u :=
  match i with
  | .registerWrite t path addr value whole x => execRegisterWrite_frame t path addr value whole x h
  | .lowWordRead t addr whole => execLowWordRead_frame t addr whole h
  | .irqSet t path block value => execIrqSet_frame t path block value h
  | .irqStatusWrite t path block enable value => execIrqStatusWrite_frame t path block enable value h
  | .msixUnmask t path vector => execMsixUnmask_frame t path vector h
  | .load t path => execLoad_frame t path h
  | .automaticBoot t => execAutomaticBoot_frame t h
  | .loadDone t object retried => execLoadDone_frame t object retried h
  | .loadFail t object retried at' => execLoadFail_frame t object retried at' h
  | .unload t path => execUnload_frame t path h
  | .loadCard t path => execLoadCard_frame t path h
  | .cardLoaded t object retried => execCardLoaded_frame t object retried h
  | .dropCard t path => execDropCard_frame t path h
  | .patch t path => execPatch_frame t path h
  | .patchAccepted t object retried => execPatchAccepted_frame t object retried h
  | .cancelPatch t path => execCancelPatch_frame t path h
  | .imageWrite t path => execImageWrite_frame t path h
  | .imageErase t path => execImageErase_frame t path h
  | .imageDone t bytes good => execImageDone_frame t bytes good h
  | .cardLock t path => execCardLock_frame t path h
  | .requireSigned t path => execRequireSigned_frame t path h
  | .stagingComplete t => execStagingComplete_frame t h
  | .switchSlot t => execSwitchSlot_frame t h
  | .warmReset t path => execWarmReset_frame t path h
  | .wrstN t lowNs => execWrstN_frame t lowNs h
  | .warmDone t => execWarmDone_frame t h
  | .requestM2 t path => execRequestM2_frame t path h
  | .requestM3 t path => execRequestM3_frame t path h
  | .requestM9 t path => execRequestM9_frame t path h
  | .setHostOverload t path => execSetHostOverload_frame t path h
  | .liftHostOverload t path => execLiftHostOverload_frame t path h
  | .powerOnReset .. => absurd hi (by simp [Instr.isPowerOn])
  | .timePllLock t => execTimePllLock_frame t h
  | .ptpMessage t port msg => execPtpMessage_frame t port msg h
  | .ptpTransmit t => execPtpTransmit_frame t h
  | .sourceTimeout t source => execSourceTimeout_frame t source h
  | .ppsEdge t stamp => execPpsEdge_frame t stamp h
  | .todSentence t utc ok => execTodSentence_frame t utc ok h
  | .irigFrame t stamp ok ext year second localOffset quality leapPending leapDelete => execIrigFrame_frame t stamp ok ext year second localOffset quality leapPending leapDelete h
  | .crossFail t => execCrossFail_frame t h
  | .crossAgree t => execCrossAgree_frame t h
  | .leapApplied t => execLeapApplied_frame t h
  | .ppsOEdge t => execPpsOEdge_frame t h
  | .pulseEdge t n => execPulseEdge_frame t n h
  | .setGrid t path => execSetGrid_frame t path h
  | .setTest t path => execSetTest_frame t path h
  | .pathAccept t path => execPathAccept_frame t path h
  | .clearAsym t path => execClearAsym_frame t path h
  | .setUtc t path => execSetUtc_frame t path h
  | .pulseArm t path => execPulseArm_frame t path h
  | .pulseDisarm t path => execPulseDisarm_frame t path h
  | .frameReceived t port bytes latched fcsOk => execFrameReceived_frame t port bytes latched fcsOk h
  | .linkUp t port since => execLinkUp_frame t port since h
  | .linkDown t port detail inFrame => execLinkDown_frame t port detail inFrame h
  | .prpSupervision t pair => execPrpSupervision_frame t pair h
  | .prpForget t pair mac => execPrpForget_frame t pair mac h
  | .hostFrameSend t => execHostFrameSend_frame t h
  | .mcastWrite t path => execMcastWrite_frame t path h
  | .mcastClear t path => execMcastClear_frame t path h
  | .linkRestart t path => execLinkRestart_frame t path h
  | .prpFlush t path => execPrpFlush_frame t path h
  | .c37DataFrame t => execC37DataFrame_frame t h
  | .c37ConfigFrame t => execC37ConfigFrame_frame t h
  | .c37HeaderFrame t => execC37HeaderFrame_frame t h
  | .c37CommandFrame t => execC37CommandFrame_frame t h
  | .sessionPdu t => execSessionPdu_frame t h
  | .svFrame t => execSvFrame_frame t h
  | .gooseMessage t => execGooseMessage_frame t h
  | .injectedFrame t => execInjectedFrame_frame t h
  | .silenceTimeout t sid => execSilenceTimeout_frame t sid h
  | .gooseTalExpired t entry => execGooseTalExpired_frame t entry h
  | .dataOnRetry t sid => execDataOnRetry_frame t sid h
  | .streamState t path => execStreamState_frame t path h
  | .streamEnable t path => execStreamEnable_frame t path h
  | .requestCfg t path => execRequestCfg_frame t path h
  | .keyLoad t path => execKeyLoad_frame t path h
  | .keyInvalidate t path => execKeyInvalidate_frame t path h
  | .reedItem t fails => execReedItem_frame t fails h
  | .waveformSample t => execWaveformSample_frame t h
  | .threadState t path => execThreadState_frame t path h
  | .estState t path => execEstState_frame t path h
  | .bankInfo t path => execBankInfo_frame t path h
  | .slotInstant t lattice => execSlotInstant_frame t lattice h
  | .loomWrite t fails => execLoomWrite_frame t fails h
  | .setDeadline t lattice => execSetDeadline_frame t lattice h
  | .closePipeline t checks upsets => execClosePipeline_frame t checks upsets h
  | .learnedRefresh t => execLearnedRefresh_frame t h
  | .overloadSet t backpressureMs => execOverloadSet_frame t backpressureMs h
  | .overloadClear t backpressureMs => execOverloadClear_frame t backpressureMs h
  | .readValue t path => execReadValue_frame t path h
  | .quantile t path => execQuantile_frame t path h
  | .histReset t path => execHistReset_frame t path h
  | .weft t path => execWeft_frame t path h
  | .closeNow t path => execCloseNow_frame t path h
  | .trackerStale t tracker => execTrackerStale_frame t tracker h
  | .ckptArchive t fails => execCkptArchive_frame t fails h
  | .shapeReport t job => execShapeReport_frame t job h
  | .trackerRead t path => execTrackerRead_frame t path h
  | .spectrumRead t path => execSpectrumRead_frame t path h
  | .trackerReset t path => execTrackerReset_frame t path h
  | .ckptSave t path => execCkptSave_frame t path h
  | .scTimeout t => execScTimeout_frame t h
  | .areaRead t path => execAreaRead_frame t path h
  | .scStart t path => execScStart_frame t path h
  | .scStop t path => execScStop_frame t path h
  | .tieForce t path => execTieForce_frame t path h
  | .gooseRepeat t cb => execGooseRepeat_frame t cb h
  | .pinMismatch t pin high => execPinMismatch_frame t pin high h
  | .pointRead t path => execPointRead_frame t path h
  | .resetLatch t path => execResetLatch_frame t path h
  | .pinTest t path => execPinTest_frame t path h
  | .pinTestEnd t => execPinTestEnd_frame t h
  | .laneResync t path => execLaneResync_frame t path h
  | .retryComplete t cls element' ok spent owner => execRetryComplete_frame t cls element' ok spent owner h
  | .configScan t element' fails => execConfigScan_frame t element' fails h
  | .shadowScan t fails => execShadowScan_frame t fails h
  | .scrub t inStacks find => execScrub_frame t inStacks find h
  | .restored t element' => execRestored_frame t element' h
  | .holdExpired t => execHoldExpired_frame t h
  | .elementRead t path => execElementRead_frame t path h
  | .inject t path => execInject_frame t path h
  | .restore t path => execRestore_frame t path h
  | .holdRelease t path => execHoldRelease_frame t path h
  | .countersClear t path => execCountersClear_frame t path h
  | .partnerClaim t lane claim => execPartnerClaim_frame t lane claim h
  | .partnerLost t => execPartnerLost_frame t h
  | .claimRaise t => execClaimRaise_frame t h
  | .intlkPull t high => execIntlkPull_frame t high h
  | .helloSend t => execHelloSend_frame t h
  | .mirrorHello t content => execMirrorHello_frame t content h
  | .intentSend t os => execIntentSend_frame t os h
  | .mirrorIntent t content => execMirrorIntent_frame t content h
  | .mirrorLatch t content => execMirrorLatch_frame t content h
  | .mirrorGoose t content => execMirrorGoose_frame t content h
  | .mirrorEnergy t content => execMirrorEnergy_frame t content h
  | .mirrorLedger t content => execMirrorLedger_frame t content h
  | .mirrorCkpt t content => execMirrorCkpt_frame t content h
  | .mirrorCapt t content => execMirrorCapt_frame t content h
  | .mirrorFull t content => execMirrorFull_frame t content h
  | .energyMirrorSend t => execEnergyMirrorSend_frame t h
  | .ckptMirrorSend t => execCkptMirrorSend_frame t h
  | .yield t path => execYield_frame t path h
  | .yieldApplied t => execYieldApplied_frame t h
  | .reclaim t path => execReclaim_frame t path h
  | .mirrorSync t path => execMirrorSync_frame t path h
  | .trainCell t link bytes => execTrainCell_frame t link bytes h
  | .heartbeatCell t link bytes => execHeartbeatCell_frame t link bytes h
  | .heartbeatSend t link => execHeartbeatSend_frame t link h
  | .linkSilent t link => execLinkSilent_frame t link h
  | .nakCell t link bytes => execNakCell_frame t link bytes h
  | .retransmit t link => execRetransmit_frame t link h
  | .retryFail t link => execRetryFail_frame t link h
  | .autoRestart t link => execAutoRestart_frame t link h
  | .bringupRetry t link => execBringupRetry_frame t link h
  | .cellTransmit t link => execCellTransmit_frame t link h
  | .slotHeadCell t link bytes => execSlotHeadCell_frame t link bytes h
  | .slotDataCell t link bytes => execSlotDataCell_frame t link bytes h
  | .truncationTimeout t origin lattice => execTruncationTimeout_frame t origin lattice h
  | .armCell t link bytes => execArmCell_frame t link bytes h
  | .fireCell t link bytes => execFireCell_frame t link bytes h
  | .slvLinkRestart t path => execSlvLinkRestart_frame t path h
  | .linkHold t path => execLinkHold_frame t path h
  | .originRead t path => execOriginRead_frame t path h
  | .composeStart t os => execComposeStart_frame t os h
  | .launch t os => execLaunch_frame t os h
  | .lateLaunch t os => execLateLaunch_frame t os h
  | .shuttleStreamEnable t path => execShuttleStreamEnable_frame t path h
  | .cfgFetch t path => execCfgFetch_frame t path h
  | .cmdSend t path => execCmdSend_frame t path h
  | .d2hCopy t q good => execD2hCopy_frame t q good h
  | .doorbell t path q value => execDoorbell_frame t path q value h
  | .h2dFetch t q kind payload good => execH2dFetch_frame t q kind payload good h
  | .moderationTimeout t q => execModerationTimeout_frame t q h
  | .queueFlush t path q => execQueueFlush_frame t path q h
  | .queueStart t path => execQueueStart_frame t path h
  | .queueStop t path => execQueueStop_frame t path h
  | .inputChange t => execInputChange_frame t h
  | .waveWaitEnd t region => execWaveWaitEnd_frame t region h
  | .rearmDone t region => execRearmDone_frame t region h
  | .arm t path => execArm_frame t path h
  | .disarm t path => execDisarm_frame t path h
  | .fire t path => execFire_frame t path h
  | .trigSet t path => execTrigSet_frame t path h
  | .recordLock t path => execRecordLock_frame t path h
  | .recordUnlock t path => execRecordUnlock_frame t path h
  | .energySave t fails => execEnergySave_frame t fails h
  | .epulsePhase t output => execEpulsePhase_frame t output h
  | .intervalRead t path => execIntervalRead_frame t path h
  | .peakReset t path => execPeakReset_frame t path h
  | .ledgerEvent t code source payload => execLedgerEvent_frame t code source payload h
  | .coalesceClose t => execCoalesceClose_frame t h
  | .recordWritten t fails => execRecordWritten_frame t fails h
  | .opSecondsSave t => execOpSecondsSave_frame t h
  | .read t path => execRead_frame t path h
  | .ack t path => execAck_frame t path h
  | .ledgerFlush t path => execLedgerFlush_frame t path h
  | .verify t path => execVerify_frame t path h
  | .nonce t path => execNonce_frame t path h
  | .nonceExpiry t => execNonceExpiry_frame t h
  | .clear t path => execClear_frame t path h
  | .clearDone t => execClearDone_frame t h
  | .keySet t path => execKeySet_frame t path h
  | .keyChange t path => execKeyChange_frame t path h
  | .scanStart t path => execScanStart_frame t path h
  | .scanStop t path blocks => execScanStop_frame t path blocks h
  | .scanDone t engine bad => execScanDone_frame t engine bad h
  | .domainSet t path => execDomainSet_frame t path h
  | .drainComplete t => execDrainComplete_frame t h
  | .drainTimeout t transfers => execDrainTimeout_frame t transfers h
  | .domainWakeDone t domain good => execDomainWakeDone_frame t domain good h
  | .archiveRetain t => execArchiveRetain_frame t h
  | .droop t supply mv => execDroop_frame t supply mv h
  | .droopLasting t supply => execDroopLasting_frame t supply h
  | .pfwNChange t low => execPfwNChange_frame t low h
  | .pfwFall t => execPfwFall_frame t h
  | .flushDone t fails => execFlushDone_frame t fails h
  | .pfwRecovered t => execPfwRecovered_frame t h
  | .clockLoss t island wrong => execClockLoss_frame t island wrong h
  | .relockDone t island ok => execRelockDone_frame t island ok h
  | .canaryError t island canary m => execCanaryError_frame t island canary m h
  | .hourlyReplan t m => execHourlyReplan_frame t m h
  | .replanMeasure t m => execReplanMeasure_frame t m h
  | .avsCheck t mv ack => execAvsCheck_frame t mv ack h
  | .ageForecast t => execAgeForecast_frame t h
  | .replan t path m => execReplan_frame t path m h
  | .avsSet t path => execAvsSet_frame t path h
  | .perstN t low object off => execPerstN_frame t low object off h
  | .pcieLinkUp t speed width busMaster => execPcieLinkUp_frame t speed width busMaster h
  | .dState t d3 => execDState_frame t d3 h
  | .bar2Read t addr len good => execBar2Read_frame t addr len good h
  | .bar2Write t addr bytes => execBar2Write_frame t addr bytes h
  | .masterReclaim t => execMasterReclaim_frame t h
  | .monHelp t => execMonHelp_frame t h
  | .monId t => execMonId_frame t h
  | .monRd t addr n => execMonRd_frame t addr n h
  | .monSr t addr n bad => execMonSr_frame t addr n bad h
  | .monWr t addr value x => execMonWr_frame t addr value x h
  | .monCmd t block opcode args x => execMonCmd_frame t block opcode args x h
  | .monMode t mode => execMonMode_frame t mode h
  | .monLedger t acc n => execMonLedger_frame t acc n h
  | .monFault t => execMonFault_frame t h
  | .monLoad t source kind length => execMonLoad_frame t source kind length h
  | .monResetWarm t => execMonResetWarm_frame t h
  | .monTake t => execMonTake_frame t h
  | .monGive t => execMonGive_frame t h
  | .monBaud t rate => execMonBaud_frame t rate h
  | .monLineDiscard t framing => execMonLineDiscard_frame t framing h
  | .baudChange t => execBaudChange_frame t h
  | .baudRevert t => execBaudRevert_frame t h
  | .uartBlock t block crc => execUartBlock_frame t block crc h
  | .uartTimeout t => execUartTimeout_frame t h
  | .readOnly t path => execReadOnly_frame t path h
  | .bypass t => execBypass_frame t h
  | .idcode t => execIdcode_frame t h
  | .samplePreload t value => execSamplePreload_frame t value h
  | .extest t value => execExtest_frame t value h
  | .highz t => execHighz_frame t h
  | .clamp t => execClamp_frame t h
  | .claimStrobeEdge t => execClaimStrobeEdge_frame t h
  | .internalReset t => execInternalReset_frame t h
  | .surpriseLinkDown t object off => execSurpriseLinkDown_frame t object off h
  | .blockLock t link => execBlockLock_frame t link h
  | .lockLost t link => execLockLost_frame t link h
  | .badCell t link => execBadCell_frame t link h

/-- The same part by part. -/
theorem exec_same {i : Instr} {s u : State} (h : exec i s = .next u) (hs : s.held = false) (hi : i.isPowerOn = false) {p : Part}
    (hp : p ∉ i.writes) : p.same (s.at i.time) u := by
  obtain ⟨v, e, f⟩ := exec_frame hs i hi
  rw [h] at e
  cases e
  exact f p (partSet_not _ _ hp)

end Sys2Proof.Machine
end

