-- ==== Sys2Proof/Tests/Slice0.lean ====
section
/-!
SUPPORT. Sys2Proof/Tests/Slice0.lean: small tests. A theorem meets_<command> shows a state and operands that meet all the hypotheses of that
command's claim; a theorem test_<what> checks one fact against the spec's own words or figures.
-/

set_option maxRecDepth 16000

namespace Sys2Proof.Tests

open Machine

/-! States to start from. -/

/-- Every domain ON, in mode `m`. -/
def awake (m : Nat) : State := (State.reset.putReg R.POWER_DOMAIN_STATE 0).putReg R.GLOBAL_MODE m

/-- Zeros with fields written: offset, length, value. -/
def poke (len : Nat) (l : List (Nat × Nat × Nat)) : List Byte :=
  l.foldl (fun b x => b.take x.1 ++ leBytes x.2.1 x.2.2 ++ b.drop (x.1 + x.2.1)) (List.replicate len 0)

/-- A draft with these sections is in force. -/
def drafted (secs : List (Nat × List Byte)) (s : State) : State :=
  s.setDraft { s.draft with base := some { header := List.replicate 64 0, sections := secs, length := 64, signed := false, keySlot := 0 } }

def sent5 : SlvSent := { seq := 5, cell := { ty := 0x10 }, at' := 3 }

/-- Port `p` enabled at 10GBASE-R with its link up. -/
def linkedPort (p : Nat) (s : State) : State := (s.putFld (F.PORT_CFG_MODE p) 1).putReg (R.PORT_LINK p) 3
def shuttleBody (proto flags : Nat) : List Byte := poke 200 [(0, 4, 1), (16, 1, 5), (17, 1, flags), (18, 1, proto), (20, 2, 1), (16 + 0x10, 1, 8)]
def publishing (flags : Nat) (grid : Nat) (s : State) : State :=
  ((drafted [(2, poke 96 [(0x20, 1, 10)]), (0xE, shuttleBody 0 flags)] s).putFld F.PAIR_STATUS_HOLDING 1).setBases { grid := grid }
def oneSlot (y : SlotSt) (s : State) : State := s.setLoom { s.loom with lats := smPut s.loom.lats 0 { slots := [y] } }
def paired (s : State) : State := ((drafted [(2, poke 96 [(0x20, 1, 10), (0x10, 1, 1)]), (0xE, shuttleBody 0 1)] s).putFld F.PAIR_STATUS_HOLDING 1).putFld F.PAIR_STATUS_MIRROR_UP 1
def streamsBody (cls : Nat) : List Byte := poke 72 [(0, 1, 0), (4, 4, 5), (8, 1, cls), (10, 2, 99), (8 + 0x28, 3, 1000)]
/-- One stream entry: class, flags, ports all, id, hash 0, rate, blocks. -/
def streamEntry (cls flags id rate blocks frameSize sig : Nat) : List (Nat × Nat × Nat) :=
  [(0, 1, cls), (1, 1, 255), (2, 2, id), (0x18, 1, flags), (0x19, 1, 1), (0x1A, 2, blocks), (0x1E, 2, rate), (0x20, 4, 100), (0x24, 2, 2), (0x26, 2, 8), (0x28, 3, 1000), (0x2C, 4, sig), (0x30, 2, frameSize)]
def streams1 (l : List (Nat × Nat × Nat)) : List Byte := poke 72 ([(0, 1, 0), (4, 4, 5)] ++ l.map fun x => (8 + x.1, x.2))
def streamsBody2 (cls : Nat) : List Byte := streams1 (streamEntry cls 17 99 50 0 0 0)
def c37Streams : List Byte := streams1 (streamEntry 1 17 99 50 0 16 7)
def withCrc (l : List Byte) : List Byte := l ++ beBytes 2 (crc16 0xFFFF l)
def c37Head (ty len : Nat) : List Byte := [0xAA, BitVec.ofNat 8 (16 * ty + 1)] ++ beBytes 2 len ++ beBytes 2 99 ++ beBytes 4 7 ++ beBytes 4 0
def c37Data0 : List Byte := withCrc (c37Head 0 16)
def c37Cfg0 : List Byte := withCrc (c37Head 3 24 ++ beBytes 4 1000 ++ beBytes 2 0 ++ beBytes 2 50)
def c37Head0 : List Byte := withCrc (c37Head 1 18 ++ [65, 66])
def c37Cmd0 : List Byte := withCrc (c37Head 4 18 ++ [0, 2])
def c37Frame0 (port : Nat) (p : List Byte) : HedFrame := ⟨port, 500, false, 1, List.replicate 14 9, p, [1, 2, 3, 4], 4712⟩
def tlv (t : Nat) (l : List Byte) : List Byte := [BitVec.ofNat 8 t, BitVec.ofNat 8 l.length] ++ l
def asdu0 : List Byte := tlv 0x30 (tlv 0x80 [65] ++ tlv 0x82 (beBytes 2 7) ++ tlv 0x83 (beBytes 4 7) ++ tlv 0x84 (beBytes 4 7 ++ beBytes 4 0) ++ tlv 0x85 [2] ++ tlv 0x87 (List.replicate 16 3))
def pdu0 : List Byte := tlv 0x60 (tlv 0x80 [1] ++ tlv 0xA2 asdu0)
def sessPayload : List Byte :=
  [1, 0x40] ++ [0xA2, 0] ++ List.replicate 6 0 ++ beBytes 4 9 ++ beBytes 2 1 ++ List.replicate 4 0 ++ beBytes 2 100 ++ [0, 0] ++ beBytes 4 0 ++ [0] ++
    beBytes 4 0 ++ [0x82, 0] ++ beBytes 2 99 ++ beBytes 2 pdu0.length ++ pdu0 ++ [0x85, 0]
def sessFrame : HedFrame := ⟨0, 500, false, 2, List.replicate 14 9, sessPayload, [1, 2, 3, 4], 102⟩
def sessStreams : List Byte := streams1 (streamEntry 3 1 99 50 0 0 7)
def svFrame0 : HedFrame := ⟨0, 5000000000, false, 3, List.replicate 14 9, beBytes 2 99 ++ beBytes 2 100 ++ beBytes 4 0 ++ pdu0, [], 0⟩
def svStreams : List Byte := streams1 (streamEntry 4 1 99 4000 2 0 7)
def gooseEntry : List (Nat × Nat × Nat) := [(0, 1, 1), (1, 1, 255), (2, 2, 99), (4, 4, crc32c ones32 [65]), (0x10, 4, 7), (0x14, 4, 0x80000000)] ++ (List.range 16).map fun n => (0x18 + n, 1, 255)
def gooseStreams : List Byte := poke 72 ([(0, 1, 2), (4, 4, 5)] ++ gooseEntry.map fun x => (8 + x.1, x.2))
def goosePdu : List Byte := tlv 0x61 (tlv 0x80 [65] ++ tlv 0x81 (beBytes 2 1000) ++ tlv 0x84 (beBytes 4 7 ++ beBytes 4 0) ++ tlv 0x85 [3] ++ tlv 0x86 [4] ++ tlv 0x88 [7] ++ tlv 0xAB [])
def gooseFrame0 : HedFrame := ⟨0, 500, false, 0, List.replicate 14 9, beBytes 2 99 ++ beBytes 2 100 ++ beBytes 4 0 ++ goosePdu, [], 0⟩
def tieup1 : List Byte := poke 256 [(0xF0, 4, 1), (0x20, 1, 10), (0x21, 1, 1), (0x22, 2, 4), (0x24, 4, 100), (0x28, 2, 0)]
def loom1 : List Byte := poke 96 [(0, 1, 3), (32, 1, 3), (64, 1, 0), (65, 1, 1), (66, 1, 0)]
def cat1 : List Byte := poke 72 [(0, 1, 3), (4, 4, 7), (8, 1, 3), (9, 1, 0), (11, 1, 2), (14, 1, 3)]
def reedBody : List Byte := poke 200 [(2, 2, 1), (0x90, 2, 8)]
def slvBody (roles : List Nat) (root : Nat) : List Byte := poke 64 ([(0, 2, 7), (2, 1, root)] ++ roles.zipIdx.map fun x => (4 + x.2, 1, x.1))
/-- Link 1 with its role, in a state. -/
def linked (role st : Nat) (x : SlvLink) (s : State) : State :=
  ((drafted [(2, tieup1), (0x10, slvBody [0, role] 1), (9, loom1)] s).putReg R.SLV_STATUS (16 * st)).setSlv { links := [(1, x)] }
def aCell (ty aux1 aux2 origin : Nat) (body : List Byte) : List Byte := cellBytes { ty := ty, origin := origin, aux1 := aux1, aux2 := aux2, tag := 65536, body := body } false 0 0 0
def captBody1 (flags : Nat) : List Byte := poke 6200 [(128, 1, 0), (129, 1, flags), (128 + 16, 4, 0xFFFFFFFF), (1024 + 36, 4, 6)]
/-- Capture region 2 enabled, in a state. -/
def captRegion (flags : Nat) (x : CaptReg) (s : State) : State :=
  (drafted [(2, tieup1), (9, loom1), (0x11, captBody1 flags)] s).setCapt { regions := [(2, x)] }
def ring (q dir : Nat) (s : State) : State :=
  (((s.putReg (R.QUEUE_Qn_CFG q) (33 + 2 * dir)).putReg (R.QUEUE_Qn_HOST_SIZE q) 4096).putFld (F.QUEUE_Qn_CTRL_STATE q) 2)
/-- An ALARM section: point 7 enabled and latched on lattice 0, GOOSE block 2. -/
def alarmBody : List Byte := poke 400 [(0, 4, 1), (4, 4, 1), (16, 2, 7), (18, 1, 0x1D), (16 + 0x1F, 1, 3), (80, 1, 2), (81, 1, 1), (80 + 0x16, 2, 50)]
/-- Three lanes run, point 7 latched in each with an off run of 5. -/
def voting (laneBits : Nat) (s : State) : State :=
  let p : SMap PointSt := [(7, { raised := true, latched := true, offRun := 5, tag := 9 })]
  (drafted [(2, poke 256 [(0x20, 1, 10), (0x21, 1, laneBits)]), (0xD, alarmBody)] (s.putReg R.VOTE_STATUS 0)).setVote { laneA := { points := p }, laneB := { points := p }, laneC := { points := p } }
/-- An ISLE section: area 5, tie 3 from area 5 to area 6, check point 2 at tie 3. -/
def isleBody : List Byte := poke 200 [(2, 1, 1), (3, 1, 1), (4, 2, 1), (64, 1, 5), (96, 1, 3), (97, 1, 1), (98, 1, 5), (99, 1, 6), (128, 1, 2), (129, 1, 1), (130, 1, 3)]
def closing : State :=
  (voting 1 (awake 3)).setLoom { lats := [(0, { slots := [{ tag := 65536, opened := true, released := some 5 }] })], closeQ := [(0, 65536)] }
/-- A pair of mode `m` with its mirror link up on link 1, three lanes running. -/
def mirrored (m : Nat) (s : State) : State :=
  ((drafted [(2, poke 256 [(0x10, 1, m), (0x11, 1, 1), (0x20, 1, 10), (0x21, 1, 1)]), (0x10, slvBody [0, 4] 1)]
    ((s.putReg R.VOTE_STATUS 0).putReg R.SLV_STATUS 0x30)).putFld F.PAIR_STATUS_MIRROR_UP 1).putFld F.PAIR_CLAIM_BASE 8
/-- A module that does not hold, its mirror link up, with capture region 2 idle. -/
def mirroredCapt : State :=
  ((drafted [(2, poke 256 [(0xF0, 4, 1), (0x10, 1, 1), (0x11, 1, 1), (0x20, 1, 10), (0x21, 1, 1), (0x22, 2, 4), (0x24, 4, 100)]), (9, loom1),
    (0x10, slvBody [0, 4] 1), (0x11, captBody1 1)] (mirrored 1 (awake 4)))).setCapt { regions := [(2, { st := 1 })] }
/-- Record 4 stands in the Archive, and a line has been received. -/
def ledgered : State :=
  (((awake 3).setHost { lineAt := some 5 }).putReg R.POWER_DOMAIN_STATE 0).setLedger { (awake 3).ledger with next := 6, oldest := 2, dir := [(0, [2, 3, 4, 5])] }
/-- A card of `n` bytes comes over the UART. -/
def uartLoading (n : Nat) : State :=
  (((awake 3).putFld F.MONITOR_STATUS_LOADING 1).setHost { uart := some { kind := 1, card := 0, length := n, last := 5 } }).setDraft
    { (awake 3).draft with load := some { kind := .card, source := 4, address := 0, length := n, auto := false, start := 0 } }
/-- Staging holds 4,095 records. -/
def fullStaging : State :=
  (awake 3).setLedger { (awake 3).ledger with next := 4096, staging := (List.range 4095).map fun i => { newRecord (awake 3) 0x4802 i [] false with acc := i + 1 } }
/-- One closed record waits to be written. -/
def staged1Rec : LedRec := { newRecord (awake 3) 0x4801 7 [1, 2] false with acc := 1 }
def staged1 : State := (awake 3).setLedger { (awake 3).ledger with next := 2, staging := [{ staged1Rec with isOpen := false }] }
/-- A key is held, a nonce is out, and ARG0 and ARG1 hold the response for a purpose. -/
def authorised (purpose : Nat) (s : State) : State :=
  let k : List Byte := List.replicate 32 9
  let m := (hmacSha256 k ([0x43, 0x52, 0x58, 0x4C] ++ leBytes 1 purpose ++ leBytes 8 7)).take 8
  ((s.setLedger { s.ledger with key := some k, nonce := some ⟨7, 5⟩ }).putReg (hdr 24 0x44) (leNat (m.take 4))).putReg (hdr 24 0x48) (leNat (m.drop 4))
/-- Record 1 stands in the Archive. -/
def written1 : State :=
  ((awake 3).setArchive (memStore 0xFF [] (ledgerAddr 0) staged1Rec.full)).setLedger
    { (awake 3).ledger with next := 2, written := 1, dir := [(0, [1])], wrRec := 1 }
/-- Engine 2 scans eight bytes of the Archive and expects a value. -/
def scanArchive (want : Nat) : State :=
  ((((awake 3).putReg (R.CHECK_En_STATE 2) 1).putFld (F.CHECK_En_CFG_SPACE 2) 2).putReg (R.CHECK_En_LENGTH_LO 2) 8).putReg (R.CHECK_En_EXPECT_LO 2) want
/-- A length rounded up to 64 bytes (R36). -/
def up64 (n : Nat) : Nat := (n + 63) / 64 * 64
/-- An object of sections with header fields: header, table and bodies with their CRCs (R33, R34, R36, R39). -/
def buildObject (magic : List Byte) (fields : List (Nat × Nat × Nat)) (secs : List (Nat × List Byte)) : List Byte :=
  let r := secs.foldl (fun (a : List Byte × List Byte) x =>
    let i := a.1.length / 16
    let off := up64 (64 + 16 * secs.length) + a.2.length
    (a.1 ++ leBytes 1 x.1 ++ leBytes 1 i ++ leBytes 2 0 ++ leBytes 4 off ++ leBytes 4 x.2.length ++ leBytes 4 (crc32c (ones32 ^^^ i) x.2),
      a.2 ++ pad (up64 x.2.length) x.2)) ([], [])
  let total := up64 (64 + 16 * secs.length) + r.2.length
  let head := poke 60 ([(4, 2, 1), (6, 2, 64), (8, 4, total), (12, 2, secs.length), (16, 4, 0x8160)] ++ fields)
  let head := magic ++ head.drop 4
  head ++ leBytes 4 (crc32c ones32 head) ++ pad (up64 (64 + 16 * secs.length) - 64) r.1 ++ r.2
/-- A small draft: no network, no Reed, no Loom; four lattices closed; a queue region each. -/
def smallTieup : List Byte :=
  poke 320 ([0, 1, 5, 11, 12, 13, 14, 15].map (fun d => (d, 1, 1)) ++ (List.range 16).map (fun q => (0x60 + 2 * q, 2, 1)) ++
    (List.range 4).flatMap (fun l => [(0x20 + 16 * l, 1, 9), (0x22 + 16 * l, 2, 1)]))
def smallDraft : List Byte :=
  buildObject magicDraft [(0x18, 8, 0x77), (0x2C, 4, 1)] [(1, poke 16 []), (2, smallTieup), (4, poke 16 []), (0xD, poke 16 []), (0x13, poke 64 [])]
/-- A small card for mode 4 in slot 5, and a small patch, of that draft. -/
def smallCard : List Byte := buildObject magicCard [(0x30, 8, 0x77), (0x38, 1, 4), (0x39, 1, 5)] [(0xD, poke 16 [])]
def smallPatch : List Byte := buildObject magicCard [(0x30, 8, 0x77), (0x38, 1, 0xFF)] [(0xD, poke 16 [])]
/-- The small draft is in force. -/
def inForce (s : State) : State := (s.setDraft { s.draft with base := some (Obj.read smallDraft) }).putPair R.DRAFT_ID_LO 0x77
/-- A load of `n` bytes from the host. -/
def hostLoad (kind : LoadKind) (n : Nat) : LoadReq := { kind := kind, source := 0, address := 0, length := n, auto := false, start := 5 }
def loading (kind : LoadKind) (n : Nat) (s : State) : State := s.setDraft { s.draft with load := some (hostLoad kind n) }

/-- A state and a time meet the hypotheses of an event. -/
abbrev Met (i : Nat → Instr) (c : State → Prop) (s : State) (t : Nat) : Prop := (i t).wf = true ∧ s.held = false ∧ c (s.at t)

/-- A state, a time and a path meet the hypotheses of a command. -/
abbrev Taken (b op : Nat) (i : Nat → Path → Instr) (c : State → Prop) (s : State) (t : Nat) (p : Path) : Prop :=
  (i t p).wf = true ∧ s.Ready p b ∧ c (s.issued t p b op)

/-! Regs. -/

theorem meets_registerWrite : ∃ b, ∃ k, ∃ v : Word, ∃ path, ∃ x : CmdInput, (b < 16 ∧ k < 4) ∧ Met (.registerWrite · path (hdr b (0x44 + 4 * k)) v true x)
    (fun w => w.Reaches path (hdr b (0x44 + 4 * k)))
    (awake 3) 900 := ⟨9, 2, 0x12345, Path.host, {}, by decide⟩

theorem meets_registerWrite_2 : ∃ addr, ∃ v : Word, ∃ x : CmdInput, (addr < 2 ^ 25) ∧ Met (.registerWrite · .host addr v false x)
    (fun w => w.deaf .host = false)
    (awake 3) 900 := ⟨R.FAULT_STATUS, 5, {}, by decide⟩

theorem meets_lowWordRead : ∃ addr, (addr < 2 ^ 25 ∧ highWords addr = []) ∧ Met (.lowWordRead · addr true)
    (fun w => w.deaf .host = false ∧ w.regState addr = 0 ∧ w.defined addr = true ∧ smFind w.snaps (snapKey .host addr) = none)
    ((awake 3).putReg R.FAULT_LAST 9) 900 := ⟨R.FAULT_LAST, by decide⟩

theorem meets_irqSet : ∃ b, ∃ v : Word, (blockHeader b = true) ∧ Met (.irqSet · .host b v)
    (fun w => w.Reaches .host (hdr b 0x18))
    ((awake 3).setIrq [(9, { enable := 4 })]) 900 := ⟨9, 0xFFFFFFFF, by decide⟩

theorem meets_irqStatusWrite : ∃ b, ∃ v : Word, (blockHeader b = true) ∧ Met (.irqStatusWrite · .host b false v)
    (fun w => w.Reaches .host (hdr b 0x10))
    ((awake 3).setIrq [(9, { status := 6, enable := 4 })]) 900 := ⟨9, 2, by decide⟩

theorem meets_irqStatusWrite_2 : ∃ b, ∃ v : Word, (blockHeader b = true) ∧ Met (.irqStatusWrite · .host b true v)
    (fun w => w.Reaches .host (hdr b 0x14))
    ((awake 3).setIrq [(9, { status := 6, enable := 4 })]) 900 := ⟨9, 2, by decide⟩

theorem meets_msixUnmask : ∃ n, (n < 64) ∧ Met (.msixUnmask · .host n)
    (fun w => w.Reaches .host (R.HOST_MSIXn_CTRL n))
    (((awake 3).putReg (R.HOST_PBAn 1) 0x10).putReg (R.HOST_MSIXn_CTRL 36) 1) 900 := ⟨36, by decide⟩

theorem meets_requestM2 : ∃ path, Met (.requestM2 · path)
    (fun w => w.Reaches path R.GLOBAL_MODE_REQ ∧ 3 ≤ w.mode ∧ w.mode ≤ 9 ∧ w.draft.switch = none)
    (awake 3) 900 := ⟨Path.host, by decide⟩

theorem meets_requestM3 : ∃ path, Met (.requestM3 · path)
    (fun w => w.Reaches path R.GLOBAL_MODE_REQ ∧ w.mode = 2 ∧ w.draft.switch = none ∧ w.asleep = [] ∧ w.power.drain = none ∧
      w.isSet F.FAULT_STATUS_LASTING_ACTIVE = false ∧ (w.isSet F.TIME_STATUS_EVER_LOCKED = true ∨ w.freeStart = true))
    (((awake 2).putReg R.POWER_DOMAIN_STATE 0).putFld F.TIME_STATUS_EVER_LOCKED 1) 900 := ⟨Path.host, by decide⟩

theorem meets_requestM9 : ∃ path, Met (.requestM9 · path)
    (fun w => w.Reaches path R.GLOBAL_MODE_REQ ∧ w.mode = 2 ∧ w.draft.switch = none ∧ w.asleep = [] ∧ w.power.drain = none)
    ((awake 2).putReg R.POWER_DOMAIN_STATE 0) 900 := ⟨Path.host, by decide⟩

theorem meets_requestM9_2 : ∃ path, Met (.requestM9 · path)
    (fun w => w.Reaches path R.GLOBAL_MODE_REQ ∧ w.mode = 2 ∧ w.changing = false ∧ w.asleep ≠ [])
    (((awake 2).putReg R.POWER_DOMAIN_STATE 0x10).putReg R.DRAFT_DOMAINS 0xFFFF) 900 := ⟨Path.host, by decide⟩

theorem meets_requestM9_3 : ∃ path, Met (.requestM9 · path)
    (fun w => w.Reaches path R.GLOBAL_MODE_REQ ∧ 3 ≤ w.mode ∧ w.mode ≤ 8 ∧ w.draft.switch = none)
    (awake 3) 900 := ⟨Path.host, by decide⟩

theorem meets_setHostOverload : ∃ path, Met (.setHostOverload · path)
    (fun w => w.Reaches path R.GLOBAL_MODE_REQ ∧ 2 ≤ w.mode ∧ w.isSet F.DRAFT_MODE_COND_OVERLOAD_HOST = false)
    (awake 3) 900 := ⟨Path.host, by decide⟩

theorem meets_liftHostOverload : ∃ path, Met (.liftHostOverload · path)
    (fun w => w.Reaches path R.GLOBAL_MODE_REQ ∧ 2 ≤ w.mode ∧ w.isSet F.DRAFT_MODE_COND_OVERLOAD_HOST = true)
    ((awake 3).putReg R.DRAFT_MODE_COND 0x28) 900 := ⟨Path.host, by decide⟩

theorem meets_warmReset : Taken 0 1 .warmReset
    (fun w => w.arg 0 0 = 0x57525354 ∧ w.isSet F.POWER_STATUS_FLUSHING = false)
    ((awake 3).putReg (hdr 0 0x44) 0x57525354) 900 .host := by decide

theorem meets_warmReset_2 : Taken 0 1 .warmReset
    (fun w => w.arg 0 0 = 0x57525354 ∧ w.isSet F.POWER_STATUS_FLUSHING = true)
    (((awake 3).putReg (hdr 0 0x44) 0x57525354).putFld F.POWER_STATUS_FLUSHING 1) 900 .host := by decide

theorem meets_domainSet : Taken 26 1 .domainSet
    (fun w => w.arg 26 0 ≤ 15 ∧ w.arg 26 0 ≠ pdStacks ∧ w.arg 26 1 = 0 ∧ (w.domain (w.arg 26 0) = 1 ∨ w.domain (w.arg 26 0) = 2) ∧
      smFind w.power.waking (w.arg 26 0) = none)
    ((((awake 2).putReg R.POWER_DOMAIN_STATE 0x10).putReg (hdr 26 0x44) 2).putReg (hdr 26 0x48) 0) 900 .host := by decide

theorem meets_domainSet_2 : Taken 26 1 .domainSet
    (fun w => 2 ≤ w.arg 26 0 ∧ w.arg 26 0 ≤ 14 ∧ w.arg 26 0 ≠ pdStacks ∧ (w.arg 26 1 = 1 ∨ w.arg 26 1 = 2) ∧ w.mode = 2 ∧
      w.domain (w.arg 26 0) ≠ 3 ∧ w.domain (w.arg 26 0) ≠ w.arg 26 1)
    (((awake 2).putReg (hdr 26 0x44) 4).putReg (hdr 26 0x48) 2) 900 .host := by decide

theorem meets_masterReclaim : Met (.masterReclaim ·)
    (fun w => w.deaf .host = false ∧ w.regState R.HOST_MASTER = 0 ∧ w.boot.1 ≠ 3)
    ((awake 3).putFld F.HOST_MASTER_OWNER 1) 900 := by decide

theorem meets_readOnly : ∃ path, Met (.readOnly · path)
    (fun w => w.Reaches path R.MONITOR_CTRL)
    ((awake 3).putFld F.HOST_MASTER_OWNER 1) 900 := ⟨Path.monitor, by decide⟩

/-! Global. -/

theorem meets_internalReset : Met (.internalReset ·)
    (fun _ => True)
    (awake 3) 900 := by decide

theorem meets_wrstN : ∃ lowNs, (1000 ≤ lowNs) ∧ Met (.wrstN · lowNs)
    (fun w => w.isSet F.POWER_STATUS_FLUSHING = false)
    (awake 3) 900 := ⟨1000, by decide⟩

theorem meets_wrstN_2 : ∃ lowNs, (lowNs < 1000) ∧ Met (.wrstN · lowNs)
    (fun _ => True)
    (awake 3) 900 := ⟨999, by decide⟩

theorem meets_warmDone : Met (.warmDone ·)
    (fun w => w.power.warmAt.isSome = true ∧ w.power.stalled = [])
    ((((awake 3).putReg R.POWER_DOMAIN_STATE 0xA0A00).putReg R.DRAFT_DOMAINS 0xFFFF).setPower { warmAt := some 5 }) 900 := by decide

theorem meets_drainComplete : ∃ d, ∃ v, ∃ x, (2 ≤ d ∧ d ≤ 15 ∧ v < 3) ∧ Met (.drainComplete ·)
    (fun w => w.power.drain = some (d, v, x))
    (((awake 2).putReg (hdr 26 0x40) 0x80000001).setPower { drain := some (4, 2, 5) }) 900 := ⟨4, 2, 5, by decide⟩

theorem meets_drainTimeout : ∃ d, ∃ v, ∃ x, ∃ n, Met (.drainTimeout · n)
    (fun w => w.power.drain = some (d, v, x) ∧ x + 64000 ≤ w.bases.mono)
    (((awake 2).putReg (hdr 26 0x40) 0x80000001).setPower { drain := some (4, 2, 5) }) 64005 := ⟨4, 2, 5, 3, by decide⟩

theorem meets_domainWakeDone : ∃ d, ∃ x, ∃ c, (2 ≤ d ∧ d ≤ 15 ∧ (c = 0 ∨ c = 1)) ∧ Met (.domainWakeDone · d true)
    (fun w => smFind w.power.waking d = some (x, c) ∧ w.power.stalled = [] ∧ w.power.request = none)
    (((awake 2).putReg R.POWER_DOMAIN_STATE 0x100).setPower { waking := [(4, 5, 0)] }) 900 := ⟨4, 5, 0, by decide⟩

theorem meets_domainWakeDone_2 : ∃ d, ∃ x, ∃ c, (d ≤ 15 ∧ c < 2) ∧ Met (.domainWakeDone · d false)
    (fun w => smFind w.power.waking d = some (x, c) ∧ w.power.stalled = [] ∧ w.provingIn d = [])
    (((awake 2).putReg R.POWER_DOMAIN_STATE 0x100).setPower { waking := [(4, 5, 0)] }) 900 := ⟨4, 5, 0, by decide⟩

theorem meets_archiveRetain : Met (.archiveRetain ·)
    (fun w => w.domain pdArchive = 0 ∧ w.isSet F.POWER_CTRL_ARCHIVE_RETAIN = true ∧ w.power.archAt + 10000000 ≤ w.bases.mono ∧
      w.isSet F.POWER_STATUS_FLUSHING = false)
    ((awake 2).putFld F.POWER_CTRL_ARCHIVE_RETAIN 1) 10000005 := by decide

theorem meets_droop : ∃ n, ∃ mv, (n ≤ 6 ∧ mv < 65536) ∧ Met (.droop · n mv)
    (fun w => w.inRange n mv = false ∧ smFind w.power.droops n = none ∧ bit (w.fld F.POWER_STATUS_SUPPLY_OK) n = true)
    (awake 3) 900 := ⟨6, 3000, by decide⟩

theorem meets_droop_2 : ∃ n, ∃ mv, ∃ x, ∃ low, (n ≤ 6 ∧ mv < 65536) ∧ Met (.droop · n mv)
    (fun w => w.inRange n mv = true ∧ smFind w.power.droops n = some (x, low) ∧ w.bases.mono ≤ x + 10000)
    (((awake 3).putFld F.POWER_STATUS_SUPPLY_OK 0x3F).setPower { droops := [(6, 5, 2900)] }) 900 := ⟨6, 3300, 5, 2900, by decide⟩

theorem meets_droopLasting : ∃ n, ∃ x, ∃ low, (n ≤ 6) ∧ Met (.droopLasting · n)
    (fun w => smFind w.power.droops n = some (x, low) ∧ x + 10000 ≤ w.bases.mono ∧ w.provingIn 16 = [])
    (((awake 3).putFld F.POWER_STATUS_SUPPLY_OK 0x3F).setPower { droops := [(6, 5, 2900)] }) 10005 := ⟨6, 5, 2900, by decide⟩

theorem meets_pfwNChange : Met (.pfwNChange · true)
    (fun w => w.power.pfwLine.1 = false)
    (awake 3) 900 := by decide

theorem meets_pfwNChange_2 : Met (.pfwNChange · false)
    (fun w => w.power.pfwLine.1 = true)
    ((awake 3).setPower { pfwLine := (true, 500) }) 900 := by decide

theorem meets_pfwFall : Met (.pfwFall ·)
    (fun w => w.pfwLow = false ∧ w.power.pfwLine.1 = true ∧ w.power.pfwLine.2 + 1000 ≤ w.bases.mono ∧ w.draft.load = none)
    ((awake 3).setPower { pfwLine := (true, 500) }) 1500 := by decide

theorem meets_flushDone : ∃ x, Met (.flushDone · 0)
    (fun w => w.power.flushAt = some x ∧ w.power.warmHeld = none)
    (((awake 3).putFld F.POWER_STATUS_FLUSHING 1).setPower { flushAt := some 500, pfwLine := (true, 400) }) 7500 := ⟨500, by decide⟩

theorem meets_pfwRecovered : Met (.pfwRecovered ·)
    (fun w => w.pfwLow = true ∧ w.power.pfwLine.1 = false ∧ w.power.pfwLine.2 + 10000000 ≤ w.bases.mono ∧ w.power.flushAt = none ∧
      w.power.bootHeld = false)
    ((((awake 3).putFld F.POWER_STATUS_PFW_LOW 1).putFld F.POWER_STATUS_WRITE_PROTECT 1).setPower { pfwLine := (false, 500) }) 10000500 := by decide

/-! Host. -/

theorem meets_perstN : ∃ obj : List Byte, ∃ off, Met (.perstN · true obj off)
    (fun w => w.host.perst = true ∧ w.isSet F.HOST_STATUS_LINK_UP = true ∧ w.draft.load = none)
    (((ring 3 0 (awake 3)).putReg R.HOST_STATUS 0xA7).setHost { perst := true, downSince := none }) 900 := ⟨[], 0, by decide⟩

theorem meets_perstN_2 : ∃ obj : List Byte, ∃ off, Met (.perstN · false obj off)
    (fun w => w.host.perst = false)
    (awake 3) 900 := ⟨[], 0, by decide⟩

theorem meets_surpriseLinkDown : ∃ obj : List Byte, ∃ off, Met (.surpriseLinkDown · obj off)
    (fun w => w.isSet F.HOST_STATUS_LINK_UP = true ∧ w.draft.load = none)
    (((ring 3 0 (awake 3)).putReg R.HOST_STATUS 0xA7).setHost { perst := true, downSince := none }) 900 := ⟨[], 0, by decide⟩

theorem meets_pcieLinkUp : ∃ speed, ∃ width, ∃ bm, (1 ≤ speed ∧ speed ≤ 3 ∧ (width = 1 ∨ width = 2 ∨ width = 4)) ∧ Met (.pcieLinkUp · speed width bm)
    (fun w => w.host.perst = true ∧ w.domain pdHost = 0 ∧ w.isSet F.HOST_STATUS_LINK_UP = false)
    ((awake 3).setHost { perst := true }) 900 := ⟨3, 4, true, by decide⟩

theorem meets_dState : Met (.dState · true)
    (fun w => w.fld F.HOST_STATUS_D_STATE = 0)
    ((ring 3 0 (awake 3)).putReg R.HOST_STATUS 0xA7) 900 := by decide

theorem meets_dState_2 : Met (.dState · false)
    (fun w => w.fld F.HOST_STATUS_D_STATE = 3)
    ((ring 3 0 (awake 3)).putReg R.HOST_STATUS 0x3A7) 900 := by decide

theorem meets_bar2Read : ∃ addr, ∃ n, (addr + n ≤ 2 ^ 34 ∧ n ≤ 512) ∧ Met (.bar2Read · addr n true)
    (fun w => w.deaf .host = false ∧ w.noStacks = false ∧ w.domain pdStacks = 0)
    ((awake 3).setStk [(70, 5)]) 900 := ⟨68, 4, by decide⟩

theorem meets_bar2Write : ∃ addr, ∃ l : List Byte, (addr < 2 ^ 34) ∧ Met (.bar2Write · addr l)
    (fun w => w.deaf .host = false ∧ w.master .host = true ∧ w.noStacks = false ∧ w.inSpill addr l.length = true ∧ w.domain pdStacks = 0)
    (drafted [(2, poke 256 [(0xA8, 4, 1)])] (awake 3)) 900 := ⟨64 * 2 ^ 20 + 8, [7, 8], by decide⟩

theorem meets_bar2Write_2 : ∃ addr, ∃ l : List Byte, (addr < 2 ^ 34) ∧ Met (.bar2Write · addr l)
    (fun w => w.deaf .host = false ∧ w.master .host = true ∧ w.inSpill addr l.length = false)
    (drafted [(2, poke 256 [(0xA8, 4, 1)])] (awake 3)) 900 := ⟨8, [7, 8], by decide⟩

/-! Jtag. -/

theorem meets_bypass : Met (.bypass ·)
    (fun _ => True)
    (((awake 3).setHost { (awake 3).host with jtag := 3 }).setEnergy { pulses := [(1, { high := true })] }) 900 := by decide

theorem meets_idcode : Met (.idcode ·)
    (fun _ => True)
    (awake 3) 900 := by decide

theorem meets_samplePreload : ∃ value, (value < 2 ^ 20) ∧ Met (.samplePreload · value)
    (fun _ => True)
    (awake 3) 900 := ⟨0x5A5A5, by decide⟩

theorem meets_extest : ∃ value, (value < 2 ^ 20) ∧ Met (.extest · value)
    (fun _ => True)
    (awake 3) 900 := ⟨0x5A5A5, by decide⟩

theorem meets_highz : Met (.highz ·)
    (fun _ => True)
    (awake 3) 900 := by decide

theorem meets_clamp : Met (.clamp ·)
    (fun _ => True)
    ((awake 3).setHost { (awake 3).host with boundary := 0x5A5A5 }) 900 := by decide

/-! Monitor. -/

theorem meets_monHelp : Met (.monHelp ·)
    (fun w => w.isSet F.MONITOR_STATUS_LOADING = false ∧ w.power.warmAt = none)
    (awake 3) 900 := by decide

theorem meets_monId : Met (.monId ·)
    (fun w => w.isSet F.MONITOR_STATUS_LOADING = false ∧ w.power.warmAt = none)
    (awake 3) 900 := by decide

theorem meets_monRd : ∃ addr, ∃ n, (1 ≤ n ∧ n ≤ 64 ∧ addr % 4 = 0 ∧ addr + 4 * n ≤ 2 ^ 25) ∧ Met (.monRd · addr n)
    (fun w => w.isSet F.MONITOR_STATUS_LOADING = false ∧ w.power.warmAt = none ∧ w.snaps = [] ∧
      ∀ k : Nat, k < n → w.regState (addr + 4 * k) = 0)
    ((awake 3).putReg R.FAULT_LAST 5) 900 := ⟨R.FAULT_STATUS, 3, by decide⟩

theorem meets_monSr : ∃ addr, ∃ n, (1 ≤ n ∧ n ≤ 64 ∧ addr % 4 = 0 ∧ addr + 4 * n ≤ 2 ^ 34) ∧ Met (.monSr · addr n none)
    (fun w => w.isSet F.MONITOR_STATUS_LOADING = false ∧ w.power.warmAt = none ∧ w.noStacks = false ∧ w.domain pdStacks = 0)
    ((awake 3).setStk [(70, 5)]) 900 := ⟨68, 2, by decide⟩

theorem meets_monMode : Met (.monMode · none)
    (fun w => w.isSet F.MONITOR_STATUS_LOADING = false ∧ w.power.warmAt = none)
    ((awake 3).putFld F.MONITOR_STATUS_LOADING 0) 900 := by decide

theorem meets_monLedger : ∃ acc, ∃ b, ∃ f, Met (.monLedger · (some acc) (some 1))
    (fun w => w.isSet F.MONITOR_STATUS_LOADING = false ∧ w.power.warmAt = none ∧ w.monActive = true ∧ w.ledger.oldest ≤ acc ∧
      acc < w.ledger.next ∧ w.record acc = some (b, f) ∧ w.domain pdArchive = 0)
    (ledgered) 900 := ⟨4, List.replicate 64 0xFF, true, by decide⟩

theorem meets_monFault : Met (.monFault ·)
    (fun w => w.isSet F.MONITOR_STATUS_LOADING = false ∧ w.power.warmAt = none)
    ((awake 3).putReg R.FAULT_LAST 5) 900 := by decide

theorem meets_monLineDiscard : Met (.monLineDiscard · true)
    (fun w => w.isSet F.MONITOR_STATUS_LOADING = false)
    (awake 3) 900 := by decide

theorem meets_monLineDiscard_2 : Met (.monLineDiscard · false)
    (fun w => w.isSet F.MONITOR_STATUS_LOADING = false ∧ w.power.warmAt = none)
    (awake 3) 900 := by decide

theorem meets_monWr : ∃ b, ∃ k, ∃ v, ∃ x : CmdInput, (b < 16 ∧ k < 4 ∧ v < 2 ^ 32) ∧ Met (.monWr · (hdr b (0x44 + 4 * k)) v x)
    (fun w => w.isSet F.MONITOR_STATUS_LOADING = false ∧ w.power.warmAt = none ∧ w.isSet F.MONITOR_CTRL_READ_ONLY = false ∧
      w.master .monitor = true ∧ w.regState (hdr b (0x44 + 4 * k)) = 0)
    ((awake 3).putFld F.HOST_MASTER_OWNER 1) 900 := ⟨9, 2, 0x12345, {}, by decide⟩

theorem meets_monWr_2 : ∃ addr, ∃ v, ∃ x : CmdInput, (addr % 4 = 0 ∧ addr < 2 ^ 25 ∧ v < 2 ^ 32) ∧ Met (.monWr · addr v x)
    (fun w => w.isSet F.MONITOR_STATUS_LOADING = false ∧ w.power.warmAt = none ∧ w.isSet F.MONITOR_CTRL_READ_ONLY = false ∧
      w.master .monitor = false ∧ w.regState addr < 3)
    (awake 3) 900 := ⟨R.DRAFT_CTRL, 1, {}, by decide⟩

theorem meets_monCmd : ∃ e, ∃ x : CmdInput, (e < 65536 ∧ e / 256 ≤ 16) ∧ Met (.monCmd · 30 1 [e] x)
    (fun w => w.isSet F.MONITOR_STATUS_LOADING = false ∧ w.power.warmAt = none ∧ w.isSet F.MONITOR_CTRL_READ_ONLY = false ∧
      w.master .monitor = true ∧ w.regState (hdr 30 0x40) = 0 ∧ bits (w.regN (hdr 30 0x54)) 31 31 = 1)
    (((awake 3).putFld F.HOST_MASTER_OWNER 1).setFault { elems := [(0x801, { state := 1, transient := 4, lasting := 2 })] }) 900 := ⟨0x801, {}, by decide⟩

theorem meets_monMode_2 : ∃ n, (n ≤ 11) ∧ Met (.monMode · (some n))
    (fun w => w.isSet F.MONITOR_STATUS_LOADING = false ∧ w.power.warmAt = none ∧ w.isSet F.MONITOR_CTRL_READ_ONLY = false ∧
      w.master .monitor = true ∧ w.regState R.GLOBAL_MODE_REQ = 0)
    ((awake 2).putFld F.HOST_MASTER_OWNER 1) 900 := ⟨9, by decide⟩

theorem meets_monLoad : ∃ source, ∃ len, (1 ≤ source ∧ source ≤ 3 ∧ len ≤ 2 ^ 25) ∧ Met (.monLoad · source 0 len)
    (fun w => w.isSet F.MONITOR_STATUS_LOADING = false ∧ w.power.warmAt = none ∧ w.isSet F.MONITOR_CTRL_READ_ONLY = false ∧
      w.master .monitor = true ∧ w.pfwLow = false ∧ (w.mode = 0 ∨ w.mode = 2))
    ((awake 0).putFld F.HOST_MASTER_OWNER 1) 900 := ⟨1, 0, by decide⟩

theorem meets_monLoad_2 : ∃ kind, ∃ len, ((kind = 1 ∨ kind = 2) ∧ len ≤ 2 ^ 25) ∧ Met (.monLoad · 4 kind len)
    (fun w => w.isSet F.MONITOR_STATUS_LOADING = false ∧ w.power.warmAt = none ∧ w.isSet F.MONITOR_CTRL_READ_ONLY = false ∧
      w.master .monitor = true ∧ 2 ≤ w.mode ∧ w.mode ≤ 10 ∧ w.isSet F.DRAFT_CTRL_CARD_LOCK = false ∧ w.pfwLow = false ∧
      w.draft.load = none ∧ w.draft.patch = none)
    ((awake 3).putFld F.HOST_MASTER_OWNER 1) 900 := ⟨1, 2048, by decide⟩

theorem meets_monResetWarm : Met (.monResetWarm ·)
    (fun w => w.isSet F.MONITOR_STATUS_LOADING = false ∧ w.power.warmAt = none ∧ w.isSet F.MONITOR_CTRL_READ_ONLY = false ∧
      w.master .monitor = true ∧ w.isSet F.POWER_STATUS_FLUSHING = false)
    ((awake 3).putFld F.HOST_MASTER_OWNER 1) 900 := by decide

theorem meets_monTake : Met (.monTake ·)
    (fun w => w.isSet F.MONITOR_STATUS_LOADING = false ∧ w.power.warmAt = none ∧ w.isSet F.MONITOR_CTRL_READ_ONLY = false ∧
      (w.isSet F.HOST_MASTER_MON_ALLOW = true ∨ w.boot.1 = 3 ∨ ∃ x ∈ w.host.downSince.toList, x + 1000000000 ≤ w.bases.mono))
    ((awake 3).putFld F.HOST_MASTER_MON_ALLOW 1) 900 := by decide

theorem meets_monTake_2 : Met (.monTake ·)
    (fun w => w.isSet F.MONITOR_STATUS_LOADING = false ∧ w.power.warmAt = none ∧ w.isSet F.MONITOR_CTRL_READ_ONLY = false ∧
      w.isSet F.HOST_MASTER_MON_ALLOW = false ∧ w.boot.1 ≠ 3 ∧ ∀ x ∈ w.host.downSince.toList, w.bases.mono < x + 1000000000)
    ((awake 3).setHost { downSince := none }) 900 := by decide

theorem meets_monGive : Met (.monGive ·)
    (fun w => w.isSet F.MONITOR_STATUS_LOADING = false ∧ w.power.warmAt = none ∧ w.boot.1 ≠ 3)
    ((awake 3).putFld F.HOST_MASTER_OWNER 1) 900 := by decide

theorem meets_monBaud : ∃ rate, (rate ∈ [115200, 230400, 460800, 921600, 1500000, 3000000]) ∧ Met (.monBaud · rate)
    (fun w => w.isSet F.MONITOR_STATUS_LOADING = false ∧ w.power.warmAt = none)
    (awake 3) 900 := ⟨921600, by decide⟩

theorem meets_baudChange : ∃ rate, ∃ due, (rate < 2 ^ 32) ∧ Met (.baudChange ·)
    (fun w => w.host.baud = some (rate, due) ∧ due ≤ w.bases.mono)
    ((awake 3).setHost { baud := some (921600, 800) }) 900 := ⟨921600, 800, by decide⟩

theorem meets_baudRevert : ∃ tr, Met (.baudRevert ·)
    (fun w => w.host.trial = some tr ∧ tr + 10000000000 ≤ w.bases.mono)
    (((awake 3).putReg R.MONITOR_BAUD 921600).setHost { trial := some 5 }) 10000000005 := ⟨5, by decide⟩

theorem meets_uartBlock : ∃ l : List Byte, ∃ x : UartLoad, (l.length = 1024) ∧ Met (.uartBlock · l (crc32c 0xFFFFFFFF l))
    (fun w => w.uartLoad = some x ∧ x.bytes.length + 1024 < x.length)
    ((uartLoading 4096)) 900 := ⟨List.replicate 1024 0, { kind := 1, card := 0, length := 4096, last := 5 }, by decide +kernel⟩

theorem meets_uartBlock_2 : ∃ l : List Byte, ∃ x : UartLoad, (l.length = 1024) ∧ Met (.uartBlock · l (crc32c 0xFFFFFFFF l))
    (fun w => w.uartLoad = some x ∧ x.length ≠ 0 ∧ x.length ≤ x.bytes.length + 1024)
    ((uartLoading 512)) 900 := ⟨List.replicate 1024 0, { kind := 1, card := 0, length := 512, last := 5 }, by decide +kernel⟩

theorem meets_uartBlock_3 : ∃ l : List Byte, ∃ crc, ∃ x : UartLoad, (l.length ≠ 1024 ∨ crc ≠ crc32c 0xFFFFFFFF l) ∧ Met (.uartBlock · l crc)
    (fun w => w.uartLoad = some x ∧ x.failed = false)
    ((uartLoading 4096)) 900 := ⟨List.replicate 1024 0, 0, { kind := 1, card := 0, length := 4096, last := 5 }, by decide +kernel⟩

theorem meets_uartTimeout : ∃ x : UartLoad, Met (.uartTimeout ·)
    (fun w => w.uartLoad = some x ∧ x.last + 2000000000 ≤ w.bases.mono ∧ ∀ l ∈ w.draft.load.toList, l.kind ≠ .draft)
    ((uartLoading 4096)) 2000000005 := ⟨{ kind := 1, card := 0, length := 4096, last := 5 }, by decide⟩

/-! Draft. -/

theorem meets_load : Taken 1 1 .load
    (fun w => w.arg 1 0 ≤ 3 ∧ (w.mode = 0 ∨ w.mode = 2) ∧ w.boot.1 ≠ 3 ∧ w.pfwLow = false)
    ((drafted [] (awake 2)).putReg (hdr 1 0x50) 768) 900 .host := by decide

theorem meets_unload : Taken 1 2 .unload
    (fun w => w.mode = 2)
    (inForce (awake 2)) 900 .host := by decide

theorem meets_loadCard : Taken 1 3 .loadCard
    (fun w => w.arg 1 0 ≤ 3 ∧ 2 ≤ w.mode ∧ w.mode ≤ 10 ∧ w.isSet F.DRAFT_CTRL_CARD_LOCK = false ∧ w.pfwLow = false ∧ w.draft.load = none)
    ((inForce (awake 3)).putReg (hdr 1 0x50) 128) 900 .host := by decide

theorem meets_dropCard : Taken 1 4 .dropCard
    (fun w => w.arg 1 0 ≤ 15 ∧ 2 ≤ w.mode ∧ w.mode ≤ 10 ∧ w.isSet F.DRAFT_CTRL_CARD_LOCK = false ∧ w.slotInForce (w.arg 1 0) = false ∧
      w.slotPending (w.arg 1 0) = false)
    (((inForce (awake 3)).setDraft { (inForce (awake 3)).draft with cards := [(5, Obj.read smallCard)], recent := [5] }).putReg (hdr 1 0x44) 5) 900 .host := by decide

theorem meets_patch : Taken 1 5 .patch
    (fun w => w.arg 1 0 ≤ 3 ∧ 2 ≤ w.mode ∧ w.mode ≤ 10 ∧ w.isSet F.DRAFT_CTRL_CARD_LOCK = false ∧ w.pfwLow = false ∧ w.draft.load = none ∧
      w.draft.patch = none)
    ((inForce (awake 3)).putReg (hdr 1 0x50) 128) 900 .host := by decide

theorem meets_cancelPatch : ∃ o, ∃ tag, Taken 1 6 .cancelPatch
    (fun w => w.draft.patch = some (o, tag) ∧ w.now < w.instant 0 tag)
    ((inForce (awake 3)).setDraft { (inForce (awake 3)).draft with patch := some (Obj.read smallPatch, 65536) }) 900 .host := ⟨Obj.read smallPatch, 65536, by decide⟩

theorem meets_imageWrite : Taken 1 7 .imageWrite
    (fun w => w.arg 1 0 ≤ 1 ∧ 1 ≤ w.arg 1 3 ∧ w.arg 1 3 ≤ 2 ^ 25 ∧ w.pfwLow = false ∧ w.draft.imageWrite = none ∧
      w.imageState (1 - w.arg 1 0) ≠ 3 ∧ w.draft.load = none ∧ w.domain pdArchive = 0)
    (((awake 2).putReg (hdr 1 0x44) 1).putReg (hdr 1 0x50) 768) 900 .host := by decide

theorem meets_imageErase : Taken 1 8 .imageErase
    (fun w => w.arg 1 0 ≤ 1 ∧ w.mode ≠ 1 ∧ w.domain pdArchive = 0)
    ((((awake 2).setArchive [(2 ^ 25 + 5, 0), (2 ^ 26, 0)]).putReg R.DRAFT_IMAGES 5).putReg (hdr 1 0x44) 1) 900 .host := by decide

theorem meets_cardLock : ∃ path, Met (.cardLock · path)
    (fun w => w.Reaches path R.DRAFT_CTRL)
    (inForce (awake 3)) 900 := ⟨Path.host, by decide⟩

theorem meets_requireSigned : ∃ path, Met (.requireSigned · path)
    (fun w => w.Reaches path R.DRAFT_CTRL)
    (inForce (awake 3)) 900 := ⟨Path.host, by decide⟩

theorem meets_automaticBoot : Met (.automaticBoot ·)
    (fun w => w.power.boot = true ∧ w.mode = 0 ∧ w.pfwLow = false ∧ w.power.bootHeld = false ∧ w.power.warmAt = none ∧ w.boot.1 = 1 ∧
      w.imageState 0 = 1)
    ((((State.reset.putReg R.POWER_DOMAIN_STATE 0).putReg R.DRAFT_IMAGES 1).setBoot (1, 0, 0)).setPower { boot := true }) 900 := by decide

theorem meets_loadDone : ∃ o, ∃ l, (l.kind = .draft ∧ l.source = 0) ∧ Met (.loadDone · o [])
    (fun w => w.draft.load = some l ∧ w.checkDraft (o.take l.length).length (o.take l.length) = none)
    (loading .draft 768 (awake 1)) 900 := ⟨smallDraft, hostLoad .draft 768, by decide +kernel⟩

theorem meets_loadDone_2 : ∃ o, ∃ l, ∃ f : LoadFailure, (l.kind = .draft ∧ l.source = 0 ∧ l.auto = false ∧ f.reason < 16 ∧ f.sec < 256 ∧ f.off < 2 ^ 32) ∧ Met (.loadDone · o [])
    (fun w => w.draft.load = some l ∧ w.checkDraft (o.take l.length).length (o.take l.length) = some f)
    (loading .draft 700 (awake 1)) 900 := ⟨smallDraft, hostLoad .draft 700, ⟨4, 0xFF, 8⟩, by decide⟩

theorem meets_loadFail : ∃ o : List Byte, ∃ l, ∃ off, ∃ rt : List Nat, (l.kind = .draft ∧ l.source = 0 ∧ l.auto = false ∧ off < 2 ^ 32) ∧ Met (.loadFail · o rt (some off))
    (fun w => w.draft.load = some l)
    (loading .draft 768 (awake 1)) 900 := ⟨[], hostLoad .draft 768, 12, [], by decide⟩

theorem meets_cardLoaded : ∃ o, ∃ l, (l.kind = .card ∧ l.source = 0) ∧ Met (.cardLoaded · o [])
    (fun w => w.draft.load = some l ∧ w.cardVerdict (o.take l.length).length (o.take l.length) = none)
    (loading .card 192 (inForce (awake 3))) 900 := ⟨smallCard, hostLoad .card 192, by decide⟩

theorem meets_cardLoaded_2 : ∃ o, ∃ l, ∃ v, (l.kind = .card ∧ l.source = 0) ∧ Met (.cardLoaded · o [])
    (fun w => w.draft.load = some l ∧ w.cardVerdict (o.take l.length).length (o.take l.length) = some v)
    (loading .card 100 (inForce (awake 3))) 900 := ⟨smallCard, hostLoad .card 100, (3, 4), by decide⟩

theorem meets_patchAccepted : ∃ o, ∃ l, (l.kind = .patch ∧ l.source = 0) ∧ Met (.patchAccepted · o [])
    (fun w => w.draft.load = some l ∧ w.patchVerdict (o.take l.length).length l.slot (o.take l.length) = none)
    ((inForce (awake 3)).setDraft { (inForce (awake 3)).draft with load := some { hostLoad .patch 192 with slot := 131072 } }) 900 := ⟨smallPatch, { hostLoad .patch 192 with slot := 131072 }, by decide⟩

theorem meets_imageDone : ∃ l : List Byte, ∃ good, ∃ n, ∃ len, ∃ x, (n ≤ 1 ∧ len ≤ 2 ^ 25) ∧ Met (.imageDone · l good)
    (fun w => w.draft.imageWrite = some (n, len, x))
    (((awake 2).putReg R.DRAFT_IMAGES 13).setDraft { imageWrite := some (1, 3, 0) }) 900 := ⟨[1, 2, 3, 4], true, 1, 3, 0, by decide⟩

theorem meets_switchSlot : ∃ x : SwitchReq, (x.target ≤ 11) ∧ Met (.switchSlot ·)
    (fun w => w.draft.patch = none ∧ w.testStopped = false ∧ w.draft.switch = some x ∧ w.instant 0 x.slot ≤ w.now)
    ((inForce (awake 3)).setDraft { (inForce (awake 3)).draft with switch := some ⟨5, none, 65536, 5⟩ }) 1000000000 := ⟨⟨5, none, 65536, 5⟩, by decide⟩

theorem meets_switchSlot_2 : ∃ o, ∃ tag, Met (.switchSlot ·)
    (fun w => w.draft.patch = some (o, tag) ∧ w.draft.switch = none ∧ w.instant 0 tag ≤ w.now)
    ((inForce (awake 3)).setDraft { (inForce (awake 3)).draft with patch := some (Obj.read smallPatch, 65536) }) 1000000000 := ⟨Obj.read smallPatch, 65536, by decide⟩

theorem meets_switchSlot_3 : Met (.switchSlot ·)
    (fun w => (∀ p ∈ w.draft.patch.toList, w.now < w.instant 0 p.2) ∧ ∀ x ∈ w.draft.switch.toList, w.now < w.instant 0 x.slot)
    ((inForce (awake 3)).setDraft { (inForce (awake 3)).draft with switch := some ⟨5, none, 65536 * 9, 5⟩ }) 900 := by decide

theorem meets_stagingComplete : ∃ x : SwitchReq, (x.target ≤ 11) ∧ Met (.stagingComplete ·)
    (fun w => w.testStopped = true ∧ w.draft.switch = some x ∧ x.staged ≤ w.bases.mono)
    ((inForce (awake 9)).setDraft { (inForce (awake 9)).draft with switch := some ⟨2, none, 65536, 5⟩ }) 900 := ⟨⟨2, none, 65536, 5⟩, by decide⟩

/-! Time. -/

theorem meets_setGrid : Taken 3 1 .setGrid
    (fun w => w.mode = 2 ∨
      (w.mode < 2 ∧ w.isSet F.TIME_STATUS_EVER_LOCKED = false ∧ (w.servo = svFreerun ∨ w.servo = svAcquire)))
    (awake 2) 5000 .host := by decide

theorem meets_setTest : Taken 3 2 .setTest
    (fun w => w.isSet F.TIME_CTRL_TEST_RUN = false)
    (awake 2) 5000 .host := by decide

theorem meets_pathAccept : Taken 3 3 .pathAccept
    (fun w => w.servo = svSuspect ∧ w.arg 3 0 < 2)
    (((awake 5).putFld F.TIME_STATUS_SERVO 4).putReg (hdr 3 0x44) 1) 5000 .host := by decide

theorem meets_clearAsym : Taken 3 4 .clearAsym
    (fun w => w.mode = 2 ∨ w.mode = 9)
    ((awake 2).putReg R.TIME_ASYM_COMP 7) 5000 .host := by decide

theorem meets_setUtc : Taken 3 5 .setUtc
    (fun w => ∀ c ∈ ([1, 2, 3, 4, 5, 6, 7, 8, 10] : List Nat), w.qualified c = false)
    (((awake 2).putReg (hdr 3 0x44) 37).putReg (hdr 3 0x48) 3) 5000 .host := by decide

theorem meets_pulseArm : Taken 3 6 .pulseArm
    (fun w => w.arg 3 0 < 4 ∧ 8 ≤ w.regN (R.TIME_PULSEn_WIDTH (w.arg 3 0)) ∧
      (w.regN (R.TIME_PULSEn_PERIOD (w.arg 3 0)) = 0 →
        w.base (w.isSet (F.TIME_PULSEn_CTRL_BASE (w.arg 3 0))) ≤ w.pairAt (R.TIME_PULSEn_START_LO (w.arg 3 0))) ∧
      (w.regN (R.TIME_PULSEn_PERIOD (w.arg 3 0)) ≠ 0 → 100 ≤ w.regN (R.TIME_PULSEn_PERIOD (w.arg 3 0)) ∧
        w.regN (R.TIME_PULSEn_WIDTH (w.arg 3 0)) + 8 ≤ w.regN (R.TIME_PULSEn_PERIOD (w.arg 3 0))) ∧
      (smGet {} w.time.pulses (w.arg 3 0)).level = false)
    ((((awake 2).putReg (hdr 3 0x44) 1).putReg (R.TIME_PULSEn_WIDTH 1) 100).putReg (R.TIME_PULSEn_PERIOD 1) 1000) 5000 .host := by decide

theorem meets_pulseDisarm : Taken 3 7 .pulseDisarm
    (fun w => w.arg 3 0 < 4)
    ((awake 2).putReg (hdr 3 0x44) 1) 5000 .host := by decide

theorem meets_ptpMessage : ∃ port, ∃ cls, ∃ acc, ∃ steps, ∃ gm, ∃ inacc, (port < 8) ∧ Met (.ptpMessage · port (.announce 9 cls acc steps gm none false false inacc))
    (fun w => w.domain pdTime = 0 ∧ w.linkIsUp port = true ∧ bit (w.fld F.TIME_PTP_CFG_PORTS) port = true ∧ cls ≤ w.fld F.TIME_PTP_CFG_MAX_CLASS ∧
      w.isSet F.TIME_UTC_PENDING = false)
    (linkedPort 3 ((awake 2).putReg R.TIME_PTP_CFG 0xffffffff)) 900 := ⟨3, 6, 1, 2, 77, 5, by decide⟩

theorem meets_ptpMessage_2 : ∃ port, ∃ t1, ∃ t2, ∃ t3, ∃ t4, ∃ corr : Int, (port < 8) ∧ Met (.ptpMessage · port (.pdelay t1 t2 t3 t4 corr))
    (fun w => w.domain pdTime = 0 ∧ w.linkIsUp port = true ∧ bit (w.fld F.TIME_PTP_CFG_PORTS) port = true)
    (linkedPort 3 ((awake 2).putReg R.TIME_PTP_CFG 0xffffffff)) 900 := ⟨3, 10, 40, 50, 100, 6, by decide⟩

theorem meets_ptpMessage_3 : ∃ port, ∃ stamp, (port < 8) ∧ Met (.ptpMessage · port (.pdelayReq stamp))
    (fun w => w.domain pdTime = 0 ∧ w.linkIsUp port = true ∧ bit (w.fld F.TIME_PTP_CFG_PORTS) port = true)
    (linkedPort 3 ((awake 2).putReg R.TIME_PTP_CFG 0xffffffff)) 900 := ⟨3, 55, by decide⟩

theorem meets_ptpMessage_4 : ∃ port, ∃ origin, ∃ corr : Int, ∃ stamp, ∃ interval, (port < 8) ∧ Met (.ptpMessage · port (.sync origin corr stamp interval))
    (fun w => w.domain pdTime = 0 ∧ w.linkIsUp port = true ∧ bit (w.fld F.TIME_PTP_CFG_PORTS) port = true ∧
      bits (w.regN R.TIME_PTP_PORT_STATE) (4 * port + 3) (4 * port) = 9 ∧
      (w.src (port + 1)).clockClass ≤ w.fld F.TIME_PTP_CFG_MAX_CLASS ∧ w.fld F.TIME_STATUS_GRID_SOURCE ≠ port + 1 ∧
      (w.src (port + 1)).good < 9)
    (((linkedPort 3 ((awake 2).putReg R.TIME_PTP_CFG 0xffffffff)).putReg R.TIME_PTP_PORT_STATE 0x9999).putSrc 4 { clockClass := 6 }) 900 := ⟨3, 55, 3, 500, 1000, by decide⟩

theorem meets_ptpMessage_5 : ∃ port, ∃ origin, ∃ corr : Int, ∃ stamp, ∃ interval, (port < 8) ∧ Met (.ptpMessage · port (.sync origin corr stamp interval))
    (fun w => w.domain pdTime = 0 ∧ w.linkIsUp port = true ∧ bit (w.fld F.TIME_PTP_CFG_PORTS) port = true ∧
      bits (w.regN R.TIME_PTP_PORT_STATE) (4 * port + 3) (4 * port) = 9 ∧
      (w.src (port + 1)).clockClass ≤ w.fld F.TIME_PTP_CFG_MAX_CLASS ∧ w.fld F.TIME_STATUS_GRID_SOURCE = port + 1 ∧
      w.qualified (port + 1) = true ∧ (w.src (port + 1)).suspect = none ∧ w.servo = svLocked ∧ w.time.tooLarge = false ∧
      w.isSet F.TIME_CTRL_FORCE_HOLDOVER = false ∧ w.time.delays = [] ∧
      (w.rxStamp port stamp - ((origin : Int) + corr + (w.src (port + 1)).delay) - signed 32 (w.regN R.TIME_ASYM_COMP)).natAbs ≤ 10 ^ 9)
    (((((linkedPort 3 (((awake 2).putReg R.TIME_PTP_CFG 0xffffffff).putReg R.TIME_PTP_PORT_STATE 0x9999)).putSrc 4 { clockClass := 6 }).putFld F.TIME_STATUS_GRID_SOURCE 4).putFld F.TIME_STATUS_SERVO 2).putReg R.TIME_SOURCE_QUAL 16) 900 := ⟨3, 55, 3, 500, 1000, by decide⟩

theorem meets_sourceTimeout : ∃ c, (1 ≤ c ∧ c ≤ 8) ∧ Met (.sourceTimeout · c)
    (fun w => (w.src c).last + 3 * (w.src c).interval ≤ w.bases.mono)
    (((awake 2).putReg R.TIME_SOURCE_QUAL 16).putSrc 4 { last := 10, interval := 100, announce := 10 }) 9000 := ⟨4, by decide⟩

theorem meets_ppsEdge : ∃ stamp, Met (.ppsEdge · stamp)
    (fun w => w.domain pdTime = 0 ∧ w.isSet F.TIME_INPUT_CFG_PPS_EN = true ∧ 999999000 ≤ w.bases.mono - (w.src 9).edge ∧
      w.bases.mono - (w.src 9).edge ≤ 1000001000 ∧ 400000000 ≤ w.errorBound ∧ w.qualified 11 = false)
    ((((awake 2).putReg R.TIME_INPUT_CFG 0xffffffff).setBases {mono := 1000000000}).putSrc 9 {edge := 0}) 1000000500 := ⟨777, by decide⟩

theorem meets_todSentence : ∃ utc, Met (.todSentence · utc true)
    (fun w => w.domain pdTime = 0 ∧ w.isSet F.TIME_INPUT_CFG_TOD_EN = true ∧ (w.src 9).labelled = false ∧
      100000000 ≤ w.bases.mono - (w.src 9).edge ∧ w.bases.mono - (w.src 9).edge ≤ 900000000 ∧
      w.fld F.TIME_STATUS_GRID_SOURCE ≠ 9 ∧ (w.src 9).good < 9 ∧ 0 ≤ w.taiUtc)
    ((((awake 2).putReg R.TIME_INPUT_CFG 0xffffffff).setBases {mono := 1000000000}).putSrc 9 {edge := 900000000}) 1010000500 := ⟨777, by decide⟩

theorem meets_irigFrame : ∃ stamp, ∃ y, ∃ second, ∃ q, ∃ o : Int, (1970 ≤ y) ∧ Met (.irigFrame · stamp true true (some y) second o q false false)
    (fun w => w.domain pdTime = 0 ∧ w.isSet F.TIME_INPUT_CFG_IRIG_EN = true ∧ w.isSet F.TIME_UTC_PENDING = false ∧
      w.fld F.TIME_STATUS_GRID_SOURCE ≠ 10 ∧ (w.src 10).good < 9)
    ((((awake 2).putReg R.TIME_INPUT_CFG 0xffffffff).setBases {mono := 1000000000})) 1010000500 := ⟨5, 2024, 86, 4, 3600, by decide⟩

theorem meets_crossFail : Met .crossFail
    (fun w => w.time.crossSince.isSome = true ∧ w.time.crossSince.getD 0 + 1000000000 ≤ w.bases.mono ∧
      ∀ c : Nat, c < 12 → c ≠ w.fld F.TIME_STATUS_GRID_SOURCE → c ≠ w.fld F.TIME_STATUS_AUX_SOURCE → w.qualified c = false)
    (((((awake 2).putFld F.TIME_STATUS_GRID_SOURCE 4).putFld F.TIME_STATUS_AUX_SOURCE 5).putReg R.TIME_SOURCE_QUAL 48).setTime { crossSince := some 5 }) 1000000500 := by decide

theorem meets_crossAgree : Met .crossAgree
    (fun w => w.time.agreeSince.isSome = true ∧ w.time.agreeSince.getD 0 + 10000000000 ≤ w.bases.mono)
    ((((awake 2).setTime { agreeSince := some 5, crossOut := [4, 5] }).putSrc 4 {good := 11})) 10000000500 := by decide

theorem meets_leapApplied : Met .leapApplied
    (fun w => w.time.leapAt.isSome = true ∧ 1000000000 * w.time.leapAt.getD 0 ≤ w.bases.grid)
    (((awake 2).setTime { leapAt := some 5 }).setBases { mono := 9, grid := 5000000000 }) 10 := by decide

theorem meets_timePllLock : Met .timePllLock
    (fun w => w.domain pdTime = 0 ∧ w.ranked = [])
    ((awake 2)) 900 := by decide

theorem meets_timePllLock_2 : Met .timePllLock
    (fun w => w.domain pdTime = 0 ∧ w.ranked ≠ [] ∧ w.servo = svFreerun ∧ w.isSet F.TIME_CTRL_FORCE_HOLDOVER = false ∧
      w.time.tooLarge = false)
    ((((awake 2).putFld F.TIME_STATUS_GRID_SOURCE 4).putReg R.TIME_SOURCE_QUAL 16).putReg R.TIME_SOURCE_PRIO 4) 900 := by decide

theorem meets_ptpTransmit : Met .ptpTransmit
    (fun w => w.domain pdTime = 0)
    ((linkedPort 1 ((awake 2).putReg R.TIME_PTP_CFG 0xffffffff)).putReg R.TIME_PTP_PORT_STATE 0x6969) 900 := by decide

theorem meets_ppsOEdge : Met .ppsOEdge
    (fun w => w.domain pdTime = 0 ∧ w.time.ppsHigh = false ∧ w.time.ppsLast < w.bases.grid / 1000000000 ∧ w.scanned = false ∧
      (w.isSet F.TIME_PPS_O_CFG_GATE = true → w.servo ≠ svFreerun))
    (((awake 2).setBases { grid := 3000000000 }).putFld F.TIME_STATUS_SERVO 2) 5 := by decide

theorem meets_ppsOEdge_2 : Met .ppsOEdge
    (fun w => w.domain pdTime = 0 ∧ w.time.ppsHigh = true ∧ w.fld F.TIME_PPS_O_CFG_WIDTH ≤ w.bases.grid % 1000000000 ∧ w.scanned = false)
    (((awake 2).setBases { grid := 3900000000 }).setTime { ppsHigh := true, ppsLast := 3 }) 5 := by decide

theorem meets_pulseEdge : ∃ n, Met (.pulseEdge · n)
    (fun w => w.domain pdTime = 0 ∧ (smGet {} w.time.pulses n).level = false ∧ (smGet {} w.time.pulses n).armed = true ∧
      (smGet {} w.time.pulses n).next ≤ w.base (smGet {} w.time.pulses n).onTest ∧ w.scanned = false)
    (((awake 2).setBases { grid := 3900000000 }).setTime { pulses := smPut [] 2 {armed := true, next := 7, width := 9 } }) 5 := ⟨2, by decide⟩

theorem meets_pulseEdge_2 : ∃ n, Met (.pulseEdge · n)
    (fun w => w.domain pdTime = 0 ∧ (smGet {} w.time.pulses n).level = true ∧ (smGet {} w.time.pulses n).waiting = none ∧
      (smGet {} w.time.pulses n).next + (smGet {} w.time.pulses n).width ≤ w.base (smGet {} w.time.pulses n).onTest ∧
      (smGet {} w.time.pulses n).period ≠ 0 ∧ w.scanned = false)
    (((awake 2).setBases { grid := 3900000000 }).setTime { pulses := smPut [] 2 {armed := true, next := 7, width := 9, level := true, period := 50 } }) 5 := ⟨2, by decide⟩

/-! Ports. -/

theorem meets_mcastWrite : Taken 2 1 .mcastWrite
    (fun w => w.arg 2 0 < 256 ∧ 2 ≤ w.mode)
    (((awake 2).putReg (hdr 2 0x44) 7).putReg R.PORT_MCAST_STAGE0 0x80000100) 900 .host := by decide

theorem meets_mcastClear : Taken 2 2 .mcastClear
    (fun w => w.arg 2 0 < 256)
    (((awake 2).putReg (hdr 2 0x44) 7).putReg (R.PORT_MCASTn_W0 7) 0x80000100) 900 .host := by decide

theorem meets_linkRestart : Taken 2 3 .linkRestart
    (fun w => w.arg 2 0 < 8 ∧ w.domain (portDomain (w.arg 2 0)) ≠ 3)
    (((awake 2).putReg (hdr 2 0x44) 3).putReg (R.PORT_LINK 3) 7) 900 .host := by decide

theorem meets_prpFlush : Taken 2 4 .prpFlush
    (fun w => w.arg 2 0 < 8 ∧ w.arg 2 0 % 2 = 0)
    (((awake 2).putReg (hdr 2 0x44) 2).setPort { prp := [(1, [(7, {top := 1, window := 1, last := 5})])] }) 900 .host := by decide

theorem meets_frameReceived : ∃ p, ∃ bytes : List Byte, ∃ latched, (p < 8) ∧ Met (.frameReceived · p bytes latched false)
    (fun w => w.linkIsUp p = true ∧ w.bufferUse p + (bytes.length + 4) ≤ 512 * 1024)
    ((((awake 4).putFld (F.PORT_CFG_MODE 3) 1).putReg (R.PORT_LINK 3) 7)) 900 := ⟨3, List.replicate 60 0, 5, by decide⟩

theorem meets_frameReceived_2 : ∃ p, ∃ bytes : List Byte, ∃ latched, (p < 8) ∧ Met (.frameReceived · p bytes latched true)
    (fun w => w.linkIsUp p = true ∧ w.bufferUse p + (bytes.length + 4) ≤ 512 * 1024 ∧
      (bytes.length < 60 ∨ (if w.isSet (F.PORT_CFG_JUMBO p) then 9212 else 1518) < bytes.length))
    ((((awake 4).putFld (F.PORT_CFG_MODE 3) 1).putReg (R.PORT_LINK 3) 7)) 900 := ⟨3, List.replicate 50 0, 5, by decide⟩

theorem meets_frameReceived_3 : ∃ p, ∃ bytes : List Byte, ∃ latched, (p < 8 ∧ 60 ≤ bytes.length ∧ bytes.length ≤ 1518 ∧ beAt bytes 0 6 = 0xFFFFFFFFFFFF ∧ beAt bytes 12 2 = 0x88F7) ∧ Met (.frameReceived · p bytes latched true)
    (fun w => w.linkIsUp p = true ∧ w.bufferUse p + (bytes.length + 4) ≤ 512 * 1024 ∧ w.fld (F.PORT_CFG_VLAN_MODE p) = 0)
    ((((awake 4).putFld (F.PORT_CFG_MODE 3) 1).putReg (R.PORT_LINK 3) 7)) 900 := ⟨3, List.replicate 6 255 ++ List.replicate 6 1 ++ [0x88, 0xF7] ++ List.replicate 50 0, 5, by decide⟩

theorem meets_frameReceived_4 : ∃ p, ∃ bytes : List Byte, ∃ latched, (p < 8 ∧ 60 ≤ bytes.length ∧ bytes.length ≤ 1518 ∧ beAt bytes 0 6 = 0xFFFFFFFFFFFF ∧ beAt bytes 12 2 = 0x88BA) ∧ Met (.frameReceived · p bytes latched true)
    (fun w => w.linkIsUp p = true ∧ w.bufferUse p + (bytes.length + 4) ≤ 512 * 1024 ∧ w.fld (F.PORT_CFG_VLAN_MODE p) = 0 ∧
        w.inPrp p = false ∧ w.mcastValid = [] ∧ 3 ≤ w.mode ∧ w.mode ≤ 10 ∧ w.usedDomain pdHeddle = true)
    (((((awake 4).putFld (F.PORT_CFG_MODE 3) 1).putReg (R.PORT_LINK 3) 7).putReg R.DRAFT_DOMAINS 0xffff)) 900 := ⟨3, List.replicate 6 255 ++ List.replicate 6 1 ++ [0x88, 0xBA] ++ List.replicate 50 0, 5, by decide⟩

theorem meets_linkUp : ∃ p, ∃ since, Met (.linkUp · p since)
    (fun w => w.portOn p = true ∧ w.isSet (F.PORT_LINK_UP p) = false ∧ since + 10000000 ≤ w.bases.mono)
    (((awake 4).putFld (F.PORT_CFG_MODE 3) 1)) 20000000 := ⟨3, 5, by decide⟩

theorem meets_linkDown : ∃ p, ∃ detail, (p < 8) ∧ Met (.linkDown · p detail false)
    (fun w => w.isSet (F.PORT_LINK_UP p) = true)
    ((((awake 4).putFld (F.PORT_CFG_MODE 3) 1).putReg (R.PORT_LINK 3) 7)) 900 := ⟨3, 12, by decide⟩

theorem meets_prpSupervision : ∃ pair, (pair < 4) ∧ Met (.prpSupervision · pair)
    (fun w => w.inPrp (2 * pair) = true ∧ smFind w.port.supervised pair = none ∧ w.linkIsUp (2 * pair) = true ∧
      w.linkIsUp (2 * pair + 1) = true)
    ((((((awake 4).putFld (F.PORT_CFG_MODE 2) 1).putReg (R.PORT_LINK 2) 7).putFld (F.PORT_CFG_MODE 3) 1).putReg (R.PORT_LINK 3) 7).putFld (F.PORT_CFG_PRP 2) 1) 2000000000 := ⟨1, by decide⟩

theorem meets_prpForget : ∃ pair, ∃ mac, Met (.prpForget · pair mac)
    (fun w => (smFind (smGet [] w.port.prp pair) mac).isSome = true ∧
      ((smFind (smGet [] w.port.prp pair) mac).getD { top := 0, window := 0, last := 0 }).last +
        1000000 * w.fld (F.PORT_PRP_CFG_FORGET pair) ≤ w.bases.mono)
    ((awake 4).setPort { prp := [(1, [(7, {top := 1, window := 1, last := 5})])] }) 2000000000 := ⟨1, 7, by decide⟩

/-! Heddle. -/

theorem meets_streamState : Taken 4 1 .streamState
    (fun w => w.arg 4 0 ≤ 8191 ∧ stClass (w.stream (w.arg 4 0)) ≠ 0)
    ((drafted [(5, streamsBody 2)] (awake 3)).putReg (hdr 4 0x44) 5) 900 .host := by decide

theorem meets_streamEnable : Taken 4 2 .streamEnable
    (fun w => 2 ≤ w.mode ∧ w.mode ≤ 10 ∧ w.arg 4 0 ≤ 8191 ∧ stClass (w.stream (w.arg 4 0)) ≠ 0 ∧ w.arg 4 1 = 1 ∧
      stFlag (w.stream (w.arg 4 0)) 0 = true ∧ (w.streamSt (w.arg 4 0)).enabled = false)
    ((((drafted [(5, streamsBody2 2)] (awake 3)).putReg (hdr 4 0x44) 5).putReg (hdr 4 0x48) 1).putStream 5 { enabled := false }) 900 .host := by decide

theorem meets_streamEnable_2 : Taken 4 2 .streamEnable
    (fun w => 2 ≤ w.mode ∧ w.mode ≤ 10 ∧ w.arg 4 0 ≤ 8191 ∧ stClass (w.stream (w.arg 4 0)) ≠ 0 ∧ w.arg 4 1 = 0)
    (((drafted [(5, streamsBody2 2)] (awake 3)).putReg (hdr 4 0x44) 5)) 900 .host := by decide

theorem meets_requestCfg : Taken 4 3 .requestCfg
    (fun w => w.arg 4 0 ≤ 8191 ∧ (stClass (w.stream (w.arg 4 0)) = 1 ∨ stClass (w.stream (w.arg 4 0)) = 2) ∧
      (w.arg 4 1 = 2 ∨ w.arg 4 1 = 3) ∧ ∀ m ∈ (w.streamSt (w.arg 4 0)).cmdAt, m + 1000000000 ≤ w.bases.mono)
    ((((drafted [(5, streamsBody 2)] (awake 3)).putReg (hdr 4 0x44) 5).putReg (hdr 4 0x48) 2)) 900 .host := by decide

theorem meets_keyLoad : Taken 4 4 .keyLoad
    (fun w => w.arg 4 0 ≤ 63)
    ((((awake 3).putReg (hdr 4 0x44) 5).putReg (R.HEDDLE_KEY_STAGEn 0) 77).putReg (R.HEDDLE_KEY_STAGEn 5) 78) 900 .host := by decide

theorem meets_keyInvalidate : Taken 4 5 .keyInvalidate
    (fun w => w.arg 4 0 ≤ 63)
    ((((awake 3).putReg (hdr 4 0x44) 5).putReg (R.HEDDLE_KEY_STAGEn 0) 77)) 900 .host := by decide

theorem meets_c37DataFrame : ∃ f, ∃ sid, ∃ e, ∃ t, Met .c37DataFrame
    (fun w => (w.takeC37 [0] (fun f e => (w.c37Stamp f.payload e).1)).2 = some (f, sid, e, t) ∧ (w.streamSt sid).freed = none ∧
      beAt f.payload 1 1 % 16 = stVersion e ∧ f.payload.length = stFrameSize e ∧
      16 + (((List.range (stBlocks e)).map fun i => entryOf (w.cfgAt secStreams t) 1 (stFirstBlock e + i)).map blockBytes).sum =
        f.payload.length ∧
      (w.streamSt sid).judge (stRate e) t = 0 ∧ ((w.streamSt sid).st = 1 ∨ (w.streamSt sid).st = 3) ∧
      ∀ b ∈ frameBlocks ((List.range (stBlocks e)).map fun i => entryOf (w.cfgAt secStreams t) 1 (stFirstBlock e + i)) (stFirstTid e)
        (f.payload.drop 14), bit (beAt b.2.2 0 2) 10 = false)
    ((drafted [(5, c37Streams)] (awake 3)).setHedQ [c37Frame0 0 c37Data0]) 900 := ⟨c37Frame0 0 c37Data0, 5, entryOf c37Streams 0 5, 7000000000, by decide⟩

theorem meets_c37ConfigFrame : ∃ f, ∃ sid, ∃ e, ∃ t, ∃ sig, ∃ cnt, Met .c37ConfigFrame
    (fun w => (w.takeC37 [2, 3, 5] (fun f e => (w.c37Stamp f.payload e).1)).2 = some (f, sid, e, t) ∧
      cfgSignature f.c37Type f.payload = some (sig, cnt))
    (((drafted [(5, c37Streams)] (awake 3)).setHedQ [c37Frame0 0 c37Cfg0])) 900 := ⟨c37Frame0 0 c37Cfg0, 5, entryOf c37Streams 0 5, 7000000000, ((cfgSignature (c37Frame0 0 c37Cfg0).c37Type (c37Frame0 0 c37Cfg0).payload).getD (0, 0)).1, ((cfgSignature (c37Frame0 0 c37Cfg0).c37Type (c37Frame0 0 c37Cfg0).payload).getD (0, 0)).2, by decide⟩

theorem meets_c37HeaderFrame : ∃ f, ∃ sid, ∃ e, ∃ t, Met .c37HeaderFrame
    (fun w => (w.takeC37 [1] (fun f e => (w.c37Stamp f.payload e).1)).2 = some (f, sid, e, t) ∧
      w.isSet F.HEDDLE_CTRL_HEADER_TO_HOST = true ∧ w.queueIs (w.fld F.HEDDLE_QUEUES_CFG_QUEUE) 0 = true ∧
      (w.queue (w.fld F.HEDDLE_QUEUES_CFG_QUEUE)).level + packetSize (16 + f.payload.length) ≤
        w.queueSize (w.fld F.HEDDLE_QUEUES_CFG_QUEUE))
    (((((drafted [(5, c37Streams)] (awake 3)).setHedQ [c37Frame0 0 c37Head0]).putFld F.HEDDLE_CTRL_HEADER_TO_HOST 1).putReg R.HEDDLE_QUEUES 0x30303).putReg (R.QUEUE_Qn_CFG 3) 33) 900 := ⟨c37Frame0 0 c37Head0, 5, entryOf c37Streams 0 5, 7000000000, by decide⟩

theorem meets_c37CommandFrame : ∃ f, ∃ sid, ∃ e, ∃ t, Met .c37CommandFrame
    (fun w => (w.takeC37 [4, 6, 7] (fun f e => (w.c37Stamp f.payload e).1)).2 = some (f, sid, e, t))
    (((drafted [(5, c37Streams)] (awake 3)).setHedQ [c37Frame0 0 c37Cmd0])) 900 := ⟨c37Frame0 0 c37Cmd0, 5, entryOf c37Streams 0 5, 7000000000, by decide⟩

theorem meets_sessionPdu : ∃ f, ∃ rest : List HedFrame, ∃ sid, ∃ e, ∃ t, ∃ a, Met .sessionPdu
    (fun w => w.hedQ = f :: rest ∧ f.kind = 2 ∧ (readSession f.payload).id = 0xA2 ∧ (readSession f.payload).version = 1 ∧
      (readSession f.payload).tag = 0x82 ∧ (readSession f.payload).encrypt = 0 ∧ (readSession f.payload).auth = 0 ∧
      (readSession f.payload).simulated = false ∧ asdus (readSession f.payload).apdu = [a] ∧
      (w.setHedQ rest).findByStamp 3 (readSession f.payload).appid (svHash [a]) f (fun _ => w.utcTime ((berFind a 0x84).getD [])) =
        some (sid, e, t) ∧
      (berFind a 0x84).isSome = true ∧ w.streamState sid ≠ 0 ∧ stFlag e 2 = false ∧ (w.streamSt sid).freed = none ∧
      (w.streamSt sid).judge (stRate e) (w.utcTime ((berFind a 0x84).getD [])) = 0)
    ((drafted [(5, sessStreams)] (awake 3)).setHedQ [sessFrame]) 900 := ⟨sessFrame, [], 5, entryOf sessStreams 0 5, 7000000000, (asdus (readSession sessFrame.payload).apdu).headD [], by decide⟩

theorem meets_svFrame : ∃ f, ∃ rest : List HedFrame, ∃ sid, ∃ e, ∃ t, ∃ a, Met .svFrame
    (fun w => w.hedQ = f :: rest ∧ f.kind = 3 ∧ asdus (f.payload.drop 8) = [a] ∧
      (w.setHedQ rest).findByStamp 4 (beAt f.payload 0 2) (svHash [a]) f
        (fun e => svInstant f.stamp (max 1 (stRate e)) (beNat ((berFind a 0x82).getD []))) = some (sid, e, t) ∧
      w.streamState sid ≠ 0 ∧ bit (beAt f.payload 4 2) 15 = false ∧ beNat ((berFind a 0x82).getD []) < stRate e ∧
      8 * stBlocks e ≤ ((berFind a 0x87).getD []).length ∧ (w.streamSt sid).freed = none ∧
      (w.streamSt sid).judge (stRate e) (svInstant f.stamp (stRate e) (beNat ((berFind a 0x82).getD []))) = 0)
    ((drafted [(5, svStreams)] (awake 3)).setHedQ [svFrame0]) 900 := ⟨svFrame0, [], 5, entryOf svStreams 0 5, svInstant 5000000000 4000 7, (asdus (svFrame0.payload.drop 8)).headD [], by decide⟩

theorem meets_gooseMessage : ∃ f, ∃ rest : List HedFrame, ∃ i, ∃ e, ∃ pdu, Met .gooseMessage
    (fun w => w.hedQ = f :: rest ∧ f.kind = 0 ∧ berFind (ber (f.payload.drop 8)) 0x61 = some pdu ∧
      (tableOf (w.cfg secStreams) 2).find? (fun e => gooseMatches e.2 f (beAt f.payload 0 2)
        (crc32c ones32 ((berFind (ber pdu) 0x80).getD [])) (bit (beAt f.payload 4 2) 15)) = some (i, e) ∧
      beNat ((berFind (ber pdu) 0x88).getD []) = leAt e 0x10 4 ∧ smFind w.heddle.goose i = none)
    ((drafted [(5, gooseStreams)] (awake 3)).setHedQ [gooseFrame0]) 900 := ⟨gooseFrame0, [], 5, entryOf gooseStreams 2 5, (berFind (ber (gooseFrame0.payload.drop 8)) 0x61).getD [], by decide⟩

theorem meets_gooseTalExpired : ∃ i, ∃ g : GooseRx, Met (.gooseTalExpired · i)
    (fun w => smFind w.heddle.goose i = some g ∧ g.expired = false ∧ g.expires ≤ w.bases.mono)
    (((awake 3).setHeddle { goose := [(5, ⟨1, 2, 800, false⟩)] })) 900 := ⟨5, ⟨1, 2, 800, false⟩, by decide⟩

theorem meets_injectedFrame : ∃ q, ∃ k, ∃ p : List Byte, ∃ rest : List (Nat × List Byte), (leAt p 8 2 < 8192 ∧ leAt p 10 1 = 2 ∧ 8 ≤ leAt p 12 2 ∧ 16 + leAt p 12 2 ≤ p.length) ∧ Met .injectedFrame
    (fun w => 3 ≤ w.mode ∧ w.mode ≤ 10 ∧ w.consumerQueue F.HEDDLE_QUEUES_INJECT_QUEUE = some q ∧ (w.queue q).packets = (k, p) :: rest ∧
      stClass (w.stream (leAt p 8 2)) = 2 ∧ stFlag (w.stream (leAt p 8 2)) 0 = true)
    (((((drafted [(5, streamsBody2 2)] (awake 3)).putReg R.HEDDLE_QUEUES 0x30202).putReg (R.QUEUE_Qn_CFG 2) 35).setQueues [(2, { packets := [(1, poke 40 [(0, 8, 0), (8, 2, 5), (10, 1, 2), (12, 2, 9)])] })])) 900 := ⟨2, 1, poke 40 [(0, 8, 0), (8, 2, 5), (10, 1, 2), (12, 2, 9)], [], by decide⟩

theorem meets_silenceTimeout : ∃ sid, Met (.silenceTimeout · sid)
    (fun w => 3 ≤ w.mode ∧ w.mode ≤ 10 ∧ (w.streamState sid = 1 ∨ w.streamState sid = 2 ∨ w.streamState sid = 4) ∧
      ((w.streamSt sid).ref).getD w.heddle.start + w.silenceTime (w.stream sid) ≤ w.bases.mono)
    ((drafted [(5, streamsBody2 2)] (awake 3))) 999999999900 := ⟨5, by decide⟩

theorem meets_dataOnRetry : ∃ sid, Met (.dataOnRetry · sid)
    (fun w => (w.streamState sid = 1 ∨ w.streamState sid = 3) ∧ stFlag (w.stream sid) 4 = true ∧
      (stClass (w.stream sid) = 1 ∨ stClass (w.stream sid) = 2) ∧ ∀ m ∈ (w.streamSt sid).dataOn, m + 10000000000 ≤ w.bases.mono)
    ((drafted [(5, streamsBody2 2)] (awake 3))) 999999999900 := ⟨5, by decide⟩

/-! Reed. -/

theorem meets_threadState : Taken 5 1 .threadState
    (fun w => w.arg 5 0 < 2 ^ 17)
    (((awake 3).putReg (hdr 5 0x44) 5).setReed { threads := [(5, { taps := [⟨1, 2, 3, false⟩], lastQ := 9, lastTag := 7 })] }) 900 .host := by decide

theorem meets_estState : ∃ e, Taken 5 2 .estState
    (fun w => (reedEstimators (w.cfg secReed)).find? (fun e => esWid e == w.arg 5 0) = some e)
    ((drafted [(8, reedBody)] (awake 3)).putReg (hdr 5 0x44) 8) 900 .host := ⟨(reedEstimators reedBody).headD [], by decide⟩

theorem meets_bankInfo : Taken 5 3 .bankInfo
    (fun w => w.arg 5 0 ≤ 15)
    ((drafted [(8, reedBody)] (awake 3)).putReg (hdr 5 0x44) 0) 900 .host := by decide

theorem meets_reedItem : ∃ it, ∃ rest : List Item, ∃ fails, Met (.reedItem · fails)
    (fun w => w.reedQ = it :: rest ∧ w.shedSet (catSet (w.catAt it.time it.tid)) = true)
    ((drafted [(9, poke 32 [(1, 1, 4)])] (awake 3)).setReedQ [mkItem 7 8 1 500]) 900 := ⟨mkItem 7 8 1 500, [], 0, by decide⟩

theorem meets_reedItem_2 : ∃ it, ∃ rest : List Item, Met (.reedItem · 0)
    (fun w => w.reedQ = it :: rest ∧ it.code = checkCode it.word it.quality it.tid it.time ∧
      w.shedSet (catSet (w.catAt it.time it.tid)) = false ∧ (w.thread it.tid).taps = [] ∧
      0 < historyLength (catKernel (w.catAt it.time it.tid)) (catType (w.catAt it.time it.tid)))
    ((drafted [(6, [])] (awake 3)).setReedQ [mkItem 7 8 1 500]) 900 := ⟨mkItem 7 8 1 500, [], by decide⟩

theorem meets_waveformSample : ∃ x, ∃ rest : List WaveSample, ∃ sid, ∃ e, Met .waveformSample
    (fun w => w.waveQ = x :: rest ∧ w.widStream x.wid = some (sid, e) ∧ (w.wave x.wid).samples = [])
    ((drafted [(5, svStreams)] (awake 3)).setWaveQ [⟨8, 5000000000, 77, 1⟩]) 900 := ⟨WaveSample.mk 8 5000000000 77 1, [], 5, entryOf svStreams 0 5, by decide⟩

/-! Loom. -/

theorem meets_readValue : ∃ l, Taken 6 1 .readValue
    (fun w => w.latticeOf (w.arg 6 0) = some l ∧ w.arg 6 0 < 2 ^ 17 ∧ (w.arg 6 1 + 2 ^ 32 * w.arg 6 2) % 2 ^ 16 < w.rate l)
    (((drafted [(2, tieup1), (6, cat1), (9, [])] (awake 3)).putReg (hdr 6 0x44) 7).putReg (hdr 6 0x48) 5) 900 .host := ⟨0, by decide⟩

theorem meets_quantile : Taken 6 2 .quantile
    (fun w => w.arg 6 0 ≤ 8191 ∧ w.arg 6 1 ≤ 3)
    (((awake 3).putReg (hdr 6 0x44) 7).putReg (hdr 6 0x48) 2) 900 .host := by decide

theorem meets_histReset : Taken 6 3 .histReset
    (fun w => 2 ≤ w.mode ∧ w.mode ≤ 10 ∧ w.arg 6 0 ≤ 8191)
    (((awake 3).putReg (hdr 6 0x44) 7).setStk [(histAddrOf 7 3, 9#8)]) 900 .host := by decide

theorem meets_weft : ∃ x : Nat × Nat, ∃ l, Taken 6 4 .weft
    (fun w => w.arg 6 0 < 2 ^ 17 ∧ l < 4 ∧ smFind (smGet [] w.loom.weft l) (w.arg 6 0) = some x ∧
      ∀ k : Nat, k < l → smFind (smGet [] w.loom.weft k) (w.arg 6 0) = none)
    (((awake 3).putReg (hdr 6 0x44) 7).setLoom { weft := [(1, [(7, (3, 4))])] }) 900 .host := ⟨(3, 4), 1, by decide⟩

theorem meets_closeNow : ∃ y, ∃ n, ∃ e, Taken 6 5 .closeNow
    (fun w => w.mode = 9 ∧ w.arg 6 0 ≤ 3 ∧ w.domain pdLoom = 0 ∧ (w.lat (w.arg 6 0)).slots = [y] ∧
      (∀ k : Nat, k < 4 → k ≠ w.arg 6 0 → (w.lat k).slots = []) ∧ y.opened = true ∧ y.closed = none ∧ y.released = none ∧
      w.instant (w.arg 6 0) y.tag ≤ w.now ∧ bit (w.wiring (w.arg 6 0)) 0 = true ∧ y.shed = [] ∧
      w.liveSets (w.arg 6 0) y = [(n, e)] ∧ y.setClosed n = false)
    ((((drafted [(2, tieup1), (9, loom1)] (awake 9)).setBases { test := 1000000000 }).putReg (hdr 6 0x44) 0).setLoom { lats := [(0, { slots := [{ tag := 65536, opened := true, sets := [(2, ⟨2000000000, false, none⟩)] }] })] }) 900 .host := ⟨({ tag := 65536, opened := true, sets := [(2, ⟨2000000000, false, none⟩)] } : SlotSt), 2, setEntry loom1 2, by decide⟩

theorem meets_slotInstant : ∃ l, ∃ tag, (l < 4) ∧ Met (.slotInstant · l)
    (fun w => w.domain pdLoom = 0 ∧ (w.lat l).next = some tag ∧ (w.lat l).paused = false ∧ (w.lat l).slots = [] ∧
      w.instant l tag ≤ w.now ∧ w.now < w.instant l tag + (1000000000 * w.openSlots l) / max 1 (w.rate l) ∧ w.draft.switch = none)
    ((((drafted [(2, tieup1), (9, loom1)] (awake 3)).setBases { grid := 1000000000 })).setLoom { lats := [(0, { next := some 65536 })] }) 900 := ⟨0, 65536, by decide⟩

theorem meets_loomWrite : ∃ it, ∃ rest : List Item, ∃ nx, Met (.loomWrite · 0)
    (fun w => w.loomQ = it :: rest ∧ w.domain pdLoom = 0 ∧ it.code = checkCode it.word it.quality it.tid it.time ∧
      (∀ k < 4, (w.lat k).slots = [] ∧ (w.lat k).stepped = false) ∧ w.draft.switching = false ∧ catLattice (w.cat it.tid) = 0 ∧ w.draft.old = [] ∧
      catEmit (w.cat it.tid) = true ∧ it.time % 2 ^ 16 < w.rate 0 ∧ w.capacity 0 ≠ 0 ∧ (w.lat 0).next = some nx ∧ nx ≤ it.time ∧
      slotNumber (w.rate 0) it.time < slotNumber (w.rate 0) nx + w.openSlots 0 ∧ w.streamOf (w.cat it.tid) = none)
    (((((drafted [(2, tieup1), (6, cat1), (9, loom1)] (awake 3)).setBases { grid := 1000000000 })).setLoom { lats := [(0, { next := some 65536 })] }).setLoomQ [mkItem 7 8 1 65536]) 900 := ⟨mkItem 7 8 1 65536, [], 65536, by decide⟩

theorem meets_setDeadline : ∃ l, ∃ y, ∃ n, ∃ e, ∃ z, (l ≤ 3) ∧ Met (.setDeadline · l)
    (fun w => w.domain pdLoom = 0 ∧ (w.lat l).slots = [y] ∧ y.opened = true ∧ y.closed = none ∧ y.released = none ∧
      w.instant l y.tag ≤ w.now ∧ bit (w.wiring l) 0 = true ∧ y.shed = [] ∧ w.liveSets l y = [(n, e)] ∧ smFind y.sets n = some z ∧
      z.closed = none ∧ z.deadline ≤ w.now ∧ z.early = false)
    (((drafted [(2, tieup1), (9, loom1)] (awake 3)).setBases { grid := 3000000000 }).setLoom { lats := [(0, { slots := [{ tag := 65536, opened := true, sets := [(2, ⟨2000000000, false, none⟩)] }] })] }) 900 := ⟨0, ({ tag := 65536, opened := true, sets := [(2, ⟨2000000000, false, none⟩)] } : SlotSt), 2, setEntry loom1 2, (⟨2000000000, false, none⟩ : SetSlot), by decide⟩

theorem meets_learnedRefresh : Met .learnedRefresh
    (fun w => w.domain pdLoom = 0 ∧ w.loom.refreshed + 100000000 ≤ w.bases.mono)
    ((drafted [(2, tieup1), (9, loom1)] (awake 3))) 900000000 := by decide

theorem meets_overloadSet : ∃ ms, (0 < ms) ∧ Met (.overloadSet · ms)
    (fun w => w.domain pdLoom = 0 ∧ w.fld F.LOOM_OVERLOAD_CFG_BP_MS ≤ ms ∧ w.isSet F.LOOM_STATUS_OVERLOAD = false)
    (((drafted [(2, tieup1), (9, loom1)] (awake 3)).putFld F.LOOM_OVERLOAD_CFG_BP_MS 10)) 900000000 := ⟨20, by decide⟩

theorem meets_overloadClear : Met (.overloadClear · 0)
    (fun w => w.loomSecond.overloadCauses 0 = 0 ∧ w.isSet F.LOOM_STATUS_OVERLOAD = true ∧
      w.loom.causeAt + 1000000000 * w.fld F.LOOM_OVERLOAD_CFG_EXIT_S ≤ w.bases.mono)
    ((((drafted [(2, tieup1), (9, loom1)] (awake 3)).putFld F.LOOM_OVERLOAD_CFG_BP_MS 10).putFld F.LOOM_OVERLOAD_CFG_BACKLOG 5).putFld F.LOOM_STATUS_OVERLOAD 1) 9000000000000 := by decide

/-! Osc. -/

theorem meets_trackerRead : Taken 7 1 .trackerRead
    (fun w => 2 ≤ w.mode ∧ w.arg 7 0 ≤ 4095)
    (((awake 3).putReg (hdr 7 0x44) 5).putTracker 5 { st := 2, tag := 77, window := [(0, true)] }) 900 .host := by decide

theorem meets_spectrumRead : Taken 7 2 .spectrumRead
    (fun w => w.arg 7 0 ≤ 4095)
    (((awake 3).putReg (hdr 7 0x44) 5).putTracker 5 { st := 2, bins := [3] }) 900 .host := by decide

theorem meets_trackerReset : Taken 7 3 .trackerReset
    (fun w => 2 ≤ w.mode ∧ w.mode ≤ 10 ∧ w.arg 7 0 ≤ 4095 ∧ (w.tracker (w.arg 7 0)).st ≠ 0)
    (((awake 3).putReg (hdr 7 0x44) 5).putTracker 5 { st := 2, bins := [3], modes := [{ live := true, gen := 4 }] }) 900 .host := by decide

theorem meets_ckptSave : Taken 7 4 .ckptSave
    (fun w => 3 ≤ w.mode ∧ w.mode ≤ 10 ∧ w.pfwLow = false ∧ w.domain pdArchive ≠ 2)
    (((awake 3).setArchive [(5, 6#8), (125 * 2 ^ 20 + 3, 7#8)])) 900 .host := by decide

theorem meets_trackerStale : ∃ k, (k < 4096) ∧ Met (.trackerStale · k)
    (fun w => w.domain pdAna = 0 ∧ (w.tracker k).st ≠ 0 ∧ (w.tracker k).st ≠ 3 ∧ w.gapPassed (w.tracker k) = true)
    ((awake 3).putTracker 5 { st := 2, gap := 90, window := [(0, true)], modes := [{ live := true, gen := 3, p := 1 }] }) 900 := ⟨5, by decide +kernel⟩

theorem meets_ckptArchive : ∃ n, (n < 2) ∧ Met (.ckptArchive · n)
    (fun w => 3 ≤ w.mode ∧ w.mode ≤ 10 ∧ w.domain pdArchive = 0 ∧ w.pfwLow = false ∧ w.osc.archAt.getD 0 + 600000000000 ≤ w.bases.mono)
    ((awake 3).setArchive [(5, 6#8), (125 * 2 ^ 20 + 3, 7#8)]) 700000000000 := ⟨1, by decide⟩

theorem meets_ckptArchive_2 : ∃ n, (2 ≤ n) ∧ Met (.ckptArchive · n)
    (fun w => 3 ≤ w.mode ∧ w.mode ≤ 10 ∧ w.domain pdArchive = 0 ∧ w.pfwLow = false ∧ w.osc.archAt.getD 0 + 600000000000 ≤ w.bases.mono)
    ((awake 3).setArchive [(5, 6#8), (125 * 2 ^ 20 + 3, 7#8)]) 700000000000 := ⟨2, by decide⟩

theorem meets_shapeReport : ∃ n, (n < 64) ∧ Met (.shapeReport · n)
    (fun w => w.domain pdAna = 0 ∧ 3 ≤ w.mode ∧ w.mode ≤ 10 ∧ jeFlag (w.shapeJob n).entry 0 = true ∧
      w.stormOff (jeFlag (w.shapeJob n).entry 1) = false ∧ (w.shapeJob n).last + 1000000000 * jePeriod (w.shapeJob n).entry ≤ w.bases.mono ∧
      ((w.tracker (jeTracker (w.shapeJob n).entry)).modes.getD (jeMode (w.shapeJob n).entry) {}).live = true ∧ (w.shapeJob n).gen.isSome = true ∧
      jeTau (w.shapeJob n).entry ≤ ((w.bases.mono - (w.shapeJob n).since : Nat) : Rat) / (1000000000 : Nat) ∧
      w.queueIs (w.fld F.OSC_QUEUES_SHAPE_QUEUE) 0 = true ∧
      (w.queue (w.fld F.OSC_QUEUES_SHAPE_QUEUE)).level + packetSize (w.shapeRecord n).length ≤ w.queueSize (w.fld F.OSC_QUEUES_SHAPE_QUEUE))
    (((((awake 3).putReg R.OSC_QUEUES 3).putReg (R.QUEUE_Qn_CFG 3) 33).putShape 2 { entry := poke 64 [(1, 1, 1), (5, 1, 10)], gen := some 1 }).putTracker 0 { st := 2, modes := [{ live := true, gen := 1 }] }) 20000000000 := ⟨2, by decide +kernel⟩

theorem meets_shapeReport_2 : ∃ n, (n < 64) ∧ Met (.shapeReport · n)
    (fun w => w.domain pdAna = 0 ∧ 3 ≤ w.mode ∧ w.mode ≤ 10 ∧ jeFlag (w.shapeJob n).entry 0 = true ∧
      w.stormOff (jeFlag (w.shapeJob n).entry 1) = false ∧ (w.shapeJob n).last + 1000000000 * jePeriod (w.shapeJob n).entry ≤ w.bases.mono ∧
      (((w.tracker (jeTracker (w.shapeJob n).entry)).modes.getD (jeMode (w.shapeJob n).entry) {}).live = false ∨ (w.shapeJob n).gen = none ∨
        ((w.bases.mono - (w.shapeJob n).since : Nat) : Rat) / (1000000000 : Nat) < jeTau (w.shapeJob n).entry))
    ((awake 3).putShape 2 { entry := poke 64 [(1, 1, 1), (5, 1, 10)] }) 20000000000 := ⟨2, by decide⟩

theorem meets_shapeReport_3 : ∃ n, (n < 64) ∧ Met (.shapeReport · n)
    (fun w => w.domain pdAna = 0 ∧ 3 ≤ w.mode ∧ w.mode ≤ 10 ∧ jeFlag (w.shapeJob n).entry 0 = true ∧
      w.stormOff (jeFlag (w.shapeJob n).entry 1) = false ∧ (w.shapeJob n).last + 1000000000 * jePeriod (w.shapeJob n).entry ≤ w.bases.mono ∧
      ((w.tracker (jeTracker (w.shapeJob n).entry)).modes.getD (jeMode (w.shapeJob n).entry) {}).live = true ∧ (w.shapeJob n).gen.isSome = true ∧
      jeTau (w.shapeJob n).entry ≤ ((w.bases.mono - (w.shapeJob n).since : Nat) : Rat) / (1000000000 : Nat) ∧
      (w.queueIs (w.fld F.OSC_QUEUES_SHAPE_QUEUE) 0 = false ∨
        w.queueSize (w.fld F.OSC_QUEUES_SHAPE_QUEUE) < (w.queue (w.fld F.OSC_QUEUES_SHAPE_QUEUE)).level + packetSize (w.shapeRecord n).length))
    (((((awake 3).putReg R.OSC_QUEUES 3).putReg (R.QUEUE_Qn_CFG 3) 1).putShape 2 { entry := poke 64 [(1, 1, 1), (5, 1, 10)], gen := some 1 }).putTracker 0 { st := 2, modes := [{ live := true, gen := 1 }] }) 20000000000 := ⟨2, by decide +kernel⟩

/-! Isle. -/

theorem meets_areaRead : Taken 8 1 .areaRead
    (fun w => 2 ≤ w.mode ∧ w.arg 8 0 ≤ 63 ∧ (isAreas (w.cfg secIsle)).any (fun e => arNumber e == w.arg 8 0) = true)
    (((drafted [(0xC, isleBody)] (awake 3)).setIsle { areas := [(5, { freq := 9, angle := 7 })] }).putReg (hdr 8 0x44) 5) 900 .host := by decide

theorem meets_scStart : ∃ p, ∃ e, Taken 8 2 .scStart
    (fun w => (w.mode = 6 ∨ w.mode = 7) ∧ findPoint (w.cfg secIsle) (w.arg 8 0) = some p ∧ cpEnabled p = true ∧ w.isle.sc = none ∧
      findTie (w.cfg secIsle) (cpTie p) = some e ∧ 2 ≤ w.isle.g ∧ (w.tie (tiNumber e)).split = true ∧ w.groupOf (tiA e) ≠ w.groupOf (tiB e))
    (((drafted [(0xC, isleBody)] (awake 6)).setIsle { g := 2, ties := [(3, { split := true })], groups := [(5, 1), (6, 2)] }).putReg (hdr 8 0x44) 2) 900 .host := ⟨slice isleBody 128 32, slice isleBody 96 32, by decide⟩

theorem meets_scStop : Taken 8 3 .scStop
    (fun w => w.isle.sc.isSome = true)
    (((awake 6).setIsle { sc := some ⟨2, 5, 0, false⟩ }).putFld F.ISLE_STATUS_SC_ACTIVE 1) 900 .host := by decide

theorem meets_tieForce : ∃ e, Taken 8 4 .tieForce
    (fun w => w.mode = 9 ∧ findTie (w.cfg secIsle) (w.arg 8 0) = some e ∧ w.arg 8 1 ≤ 2 ∧ tiFlag e 0 = true)
    (((drafted [(0xC, isleBody)] (awake 9)).putReg (hdr 8 0x44) 3).putReg (hdr 8 0x48) 1) 900 .host := ⟨slice isleBody 96 32, by decide⟩

theorem meets_scTimeout : ∃ c, Met .scTimeout
    (fun w => w.isle.sc = some c ∧ w.isleRuns = false ∧ w.domain pdAna = 0 ∧ c.start + 1000000000 * w.fld F.ISLE_SC_TIMEOUT_S ≤ w.now)
    (((awake 6).setIsle { sc := some ⟨2, 5, 0, false⟩ }).putFld F.ISLE_STATUS_SC_ACTIVE 1) 9000000000000 := ⟨SyncCheck.mk 2 5 0 false, by decide⟩

theorem meets_scTimeout_2 : ∃ c, Met .scTimeout
    (fun w => w.isle.sc = some c ∧ w.isleRuns = true ∧ w.domain pdAna = 0 ∧ c.start + 1000000000 * w.fld F.ISLE_SC_TIMEOUT_S ≤ w.now)
    ((((awake 6).setIsle { sc := some ⟨2, 5, 0, false⟩, body := isleBody }).putFld F.ISLE_STATUS_SC_ACTIVE 1).setLoom { lats := [(0, { next := some 9 })] }) 9000000000000 := ⟨SyncCheck.mk 2 5 0 false, by decide⟩

/-! Vote. -/

theorem meets_pointRead : Taken 9 1 .pointRead
    (fun w => w.arg 9 0 ≤ 1023)
    ((voting 1 (awake 3)).putReg (hdr 9 0x44) 7) 900 .host := by decide

theorem meets_resetLatch : Taken 9 2 .resetLatch
    (fun w => 3 ≤ w.mode ∧ w.mode ≤ 9 ∧ w.holds = true ∧ w.arg 9 0 ≤ 1023 ∧ (w.leadLane.point (w.arg 9 0)).latched = true ∧
      ∃ e ∈ (w.alarmEntry (w.arg 9 0)).toList, apOff e ≤ (w.leadLane.point (w.arg 9 0)).offRun)
    (((voting 1 (awake 3)).putFld F.PAIR_STATUS_HOLDING 1).putReg (hdr 9 0x44) 7) 900 .host := by decide

theorem meets_pinTest : Taken 9 3 .pinTest
    (fun w => w.vote.test = none ∧ w.mode = 2 ∧ w.pairMode = 0 ∧ w.arg 9 0 ≤ 8 ∧ 1 ≤ w.arg 9 1 ∧ w.arg 9 1 ≤ 10000 ∧
      2 ≤ w.lanes.length ∧ w.scanned = false ∧ w.isSet F.FAULT_STATUS_PAD_HOLD = false ∧ w.energy.pulses = [])
    (((voting 1 (awake 2)).putReg (hdr 9 0x44) 3).putReg (hdr 9 0x48) 500) 900 .host := by decide

theorem meets_laneResync : Taken 9 4 .laneResync
    (fun w => w.mode = 9 ∧ w.arg 9 0 ≤ 2)
    (((awake 9).putReg (hdr 9 0x44) 2)) 900 .host := by decide

theorem meets_closePipeline : ∃ l, ∃ tag, ∃ rest : List (Nat × Nat), ∃ checks : List (Nat × Nat × Nat), ∃ upsets : List (Nat × Nat), (l < 4) ∧ Met (.closePipeline · checks upsets)
    (fun w => w.loom.closeQ = (l, tag) :: rest)
    (closing) 900 := ⟨0, 65536, [], [], [], by decide⟩

theorem meets_gooseRepeat : ∃ n, ∃ e, ∃ x, (n < 32) ∧ Met (.gooseRepeat · n)
    (fun w => (gooseEntries (w.cfg secAlarm)).find? (fun e => gbNumber e == n && gbEnabled e) = some e ∧ smFind w.vote.goose n = some x ∧
      x.next.isSome = true ∧ x.next.getD 0 ≤ w.bases.mono ∧ w.goosePublishes = true)
    (((voting 1 (awake 3)).putFld F.PAIR_STATUS_HOLDING 1).putGoose 2 { next := some 800, interval := 30, sqNum := 4 }) 900 := ⟨2, entryAt alarmBody 80 256 0, GooseTx.mk 1 4 [] 0 (some 800) 30, by decide⟩

theorem meets_pinMismatch : ∃ pin, (pin ≤ 8) ∧ Met (.pinMismatch · pin true)
    (fun w => 2 ≤ w.lanes.length ∧ bit w.majorityDrive pin = true)
    ((voting 1 (awake 3)).setVote { (voting 1 (awake 3)).vote with laneA := { drive := 8 }, laneB := { drive := 8 } }) 900 := ⟨3, by decide⟩

theorem meets_pinTestEnd : ∃ pin, Met .pinTestEnd
    (fun w => w.vote.test = some (pin, (w.vote.test.getD (0, 0)).2) ∧ (w.vote.test.getD (0, 0)).2 ≤ w.bases.mono ∧ w.drivable = false ∧
      w.scanned = false ∧ w.isSet F.FAULT_STATUS_PAD_HOLD = false ∧ w.energy.pulses = [])
    ((voting 1 (awake 2)).setVote { (voting 1 (awake 2)).vote with test := some (3, 800), sink := 8 }) 900 := ⟨3, by decide⟩

/-! Fault. -/

theorem meets_elementRead : Taken 30 1 .elementRead
    (fun w => w.arg 30 0 < 65536 ∧ w.arg 30 0 / 256 ≤ 16)
    (((awake 3).setFault { elems := [(0x801, { state := 1, transient := 4, lasting := 2 })] }).putReg (hdr 30 0x44) 0x801) 900 .host := by decide

theorem meets_inject : Taken 30 2 .inject
    (fun w => w.mode = 9 ∧ w.arg 30 0 ≤ 14 ∧ w.arg 30 0 ≠ fcSramSec ∧ w.arg 30 0 ≠ fcStacksSec ∧ w.arg 30 1 < 65536 ∧
      w.arg 30 1 / 256 ≤ 16 ∧ bit (w.arg 30 2) 0 = false)
    ((((awake 9).putReg (hdr 30 0x44) 8).putReg (hdr 30 0x48) 0x801).putReg (hdr 30 0x4C) 0) 900 .host := by decide

theorem meets_restore : Taken 30 3 .restore
    (fun w => (w.mode = 2 ∨ w.mode = 10) ∧ w.arg 30 0 < 65536 ∧ w.arg 30 0 / 256 < 16 ∧ (w.elem (w.arg 30 0)).state = 1 ∧
      (w.elem (w.arg 30 0)).recovery = true)
    (((awake 2).setFault { elems := [(0x801, { state := 1, recovery := true })] }).putReg (hdr 30 0x44) 0x801) 900 .host := by decide

theorem meets_holdRelease : Taken 30 4 .holdRelease
    (fun w => w.mode = 10 ∧ w.fault.holdSet.isSome = true)
    (((awake 10).setFault { holdSet := some 5 }).putReg R.FAULT_PAD_HOLD 0x55) 900 .host := by decide

theorem meets_countersClear : Taken 30 5 .countersClear
    (fun _ => True)
    ((awake 3).putReg R.FAULT_TRANSIENT 7) 900 .host := by decide

theorem meets_retryComplete : ∃ cls, ∃ e, ∃ spent, ∃ o, (cls ≤ 14 ∧ cls ≠ fcSramSec ∧ cls ≠ fcStacksSec ∧ e < 65536) ∧ Met (.retryComplete · cls e true spent o)
    (fun _ => True)
    (awake 3) 900 := ⟨8, 0x801, false, MemOwner.none, by decide⟩

theorem meets_retryComplete_2 : ∃ cls, ∃ e, ∃ spent, ∃ o, (cls = fcCfgScan ∧ e < 65536) ∧ Met (.retryComplete · cls e false spent o)
    (fun w => w.provingIn (e / 256) = [])
    (awake 3) 900 := ⟨8, 0x801, false, MemOwner.none, by decide⟩

theorem meets_configScan : ∃ e, (e < 65536) ∧ Met (.configScan · e 1)
    (fun _ => True)
    (awake 3) 900 := ⟨0x801, by decide⟩

theorem meets_shadowScan : Met (.shadowScan · 1)
    (fun w => w.draft.base.isSome = true)
    (drafted [] (awake 3)) 900 := by decide

theorem meets_scrub : ∃ inStacks, ∃ ms, Met (.scrub · inStacks (.pass ms))
    (fun _ => True)
    (awake 3) 900 := ⟨true, 77, by decide⟩

theorem meets_restored : ∃ e, ∃ since, (e / 256 < 12) ∧ Met (.restored · e)
    (fun w => (w.elem e).proving = some since ∧ since + w.restoreNs ≤ w.bases.mono ∧ w.isSet F.FAULT_STATUS_LASTING_ACTIVE = false)
    ((awake 10).setFault { elems := [(0x801, { state := 2, proving := some 5, recovery := true })] }) 900000000000000 := ⟨0x801, 5, by decide⟩

theorem meets_holdExpired : Met .holdExpired
    (fun w => w.fault.holdSet.isSome = true ∧ 1 ≤ w.fld F.FAULT_PAD_HOLD_LIMIT_S ∧
      w.fault.holdSet.getD 0 + 1000000000 * w.fld F.FAULT_PAD_HOLD_LIMIT_S ≤ w.bases.mono)
    ((((awake 10).setFault { holdSet := some 5 }).putReg R.FAULT_PAD_HOLD 0x55).putFld F.FAULT_PAD_HOLD_LIMIT_S 3) 900000000000000 := by decide

/-! Pair. -/

theorem meets_yield : Taken 10 1 .yield
    (fun w => w.pairMode = 2 ∧ w.holds = true ∧ w.intentsOut = false)
    ((mirrored 2 (awake 3)).putFld F.PAIR_STATUS_HOLDING 1) 900 .host := by decide

theorem meets_yield_2 : Taken 10 1 .yield
    (fun w => w.pairMode ≠ 0 ∧ w.holds = false)
    (mirrored 1 (awake 4)) 900 .host := by decide

theorem meets_reclaim : Taken 10 2 .reclaim
    (fun w => w.pairMode ≠ 0)
    (((mirrored 1 (awake 4)).putFld F.PAIR_STATUS_YIELD 1).setPair { yieldWait := some 5 }) 900 .host := by decide

theorem meets_mirrorSync : Taken 10 3 .mirrorSync
    (fun w => w.isSet F.PAIR_STATUS_MIRROR_UP = true ∧ w.holds = true ∧ w.fullBusy = false ∧ w.isSet F.PAIR_STATUS_DRAFT_MISMATCH = false)
    ((mirrored 1 (awake 3)).putFld F.PAIR_STATUS_HOLDING 1) 900 .host := by decide

theorem meets_partnerClaim : ∃ lane, ∃ claim, (lane ≤ 2) ∧ Met (.partnerClaim · lane claim)
    (fun _ => True)
    (mirrored 1 (awake 4)) 900 := ⟨2, 9, by decide⟩

theorem meets_partnerLost : Met .partnerLost
    (fun w => w.staleLanes ≠ [])
    ((mirrored 1 (awake 4)).setPair { viewA := { claim := 5, edge := some 10 } }) 90000 := by decide

theorem meets_claimStrobeEdge : Met .claimStrobeEdge
    (fun w => w.isSet F.PAIR_STATUS_CLAIM_MODE = false)
    (mirrored 1 (awake 3)) 90000 := by decide

theorem meets_claimRaise : ∃ v, ∃ since, (v < 16) ∧ Met .claimRaise
    (fun w => w.pairMode = 1 ∧ w.pair.raised = some (v, since) ∧ w.claim = v ∧
      since + 1000000 * w.fld F.PAIR_DEGRADE_RAISE_HOLD ≤ w.bases.mono)
    (((mirrored 1 (awake 3)).setPair { raised := some ((mirrored 1 (awake 3)).claim, 5) })) 90000000000 := ⟨(mirrored 1 (awake 3)).claim, 5, by decide⟩

theorem meets_intlkPull : ∃ h, Met (.intlkPull · true)
    (fun w => w.pairMode = 2 ∧ w.pair.pulled = false ∧ w.pair.lineHigh = some h ∧ w.claim ≠ 0 ∧
      h + (if w.isSet F.PAIR_STATUS_MODID then 8000 else 10000) ≤ w.bases.mono)
    ((mirrored 2 (awake 3)).setPair { lineHigh := some 5 }) 90000 := ⟨5, by decide⟩

theorem meets_yieldApplied : Met .yieldApplied
    (fun w => w.pair.yieldWait.isSome = true ∧ w.intentsOut = false)
    ((mirrored 2 (awake 3)).setPair { yieldWait := some 5, pulled := true }) 90000 := by decide

theorem meets_helloSend : Met .helloSend
    (fun w => w.pair.helloSent + 100000000 ≤ w.bases.mono ∧ w.mirrorReady = true)
    (mirrored 1 (awake 3)) 900000000 := by decide

theorem meets_ckptMirrorSend : Met .ckptMirrorSend
    (fun w => w.holds = true ∧ w.isSet F.PAIR_STATUS_MIRROR_UP = true ∧ w.isSet F.PAIR_STATUS_DRAFT_MISMATCH = false ∧
      w.domain pdAna = 0 ∧ w.pair.ckptAt.getD 0 + 1000000000 ≤ w.bases.mono)
    ((mirrored 1 (awake 3)).putFld F.PAIR_STATUS_HOLDING 1) 9000000000 := by decide

theorem meets_mirrorHello : ∃ c : List Byte, Met (.mirrorHello · c)
    (fun w => w.mirrorReady = true)
    (mirrored 1 (awake 4)) 900 := ⟨poke 12 [(0, 1, 1), (1, 8, 55), (9, 1, 1), (10, 1, 8), (11, 1, 1)], by decide⟩

theorem meets_mirrorIntent : ∃ c : List Byte, (leAt c 0 1 ≤ 63) ∧ Met (.mirrorIntent · c)
    (fun w => w.mirrorReady = true ∧ w.holds = false ∧ w.mirrorLink < 4)
    (mirrored 1 (awake 4)) 900 := ⟨poke 9 [(0, 1, 5), (1, 8, 65536)], by decide⟩

theorem meets_mirrorLatch : ∃ c : List Byte, (leAt c 0 2 ≤ 1023 ∧ leAt c 2 1 ≠ 0) ∧ Met (.mirrorLatch · c)
    (fun w => w.mirrorReady = true ∧ w.adopts = true)
    (mirrored 1 (awake 4)) 900 := ⟨poke 11 [(0, 2, 7), (2, 1, 1), (3, 8, 65536)], by decide⟩

theorem meets_mirrorGoose : ∃ c : List Byte, Met (.mirrorGoose · c)
    (fun w => w.mirrorReady = true ∧ w.adopts = true)
    (mirrored 1 (awake 4)) 900 := ⟨poke 5 [(0, 1, 7), (1, 4, 99)], by decide⟩

theorem meets_mirrorEnergy : ∃ c : List Byte, Met (.mirrorEnergy · c)
    (fun w => w.mirrorReady = true ∧ w.adopts = true)
    (mirrored 1 (awake 4)) 900 := ⟨poke 82 [(0, 2, 7), (2, 8, 65536), (10, 12, 5)], by decide⟩

theorem meets_mirrorLedger : ∃ c : List Byte, (c.length < 72) ∧ Met (.mirrorLedger · c)
    (fun w => w.mirrorReady = true ∧ w.adopts = true)
    ((mirrored 1 (awake 4)).setPair { mirror := { ledger := [{ LedRec.powerOn with acc := 3 }, { LedRec.powerOn with acc := 9 }] } }) 900 := ⟨poke 12 [(0, 6, 70), (6, 6, 5)], by decide⟩

theorem meets_mirrorCkpt : ∃ c : List Byte, (c.length = 256) ∧ Met (.mirrorCkpt · c)
    (fun w => w.mirrorReady = true ∧ w.adopts = true)
    (mirrored 1 (awake 4)) 900 := ⟨poke 256 [(0, 2, 7)], by decide⟩

theorem meets_mirrorCapt : ∃ c : List Byte, (leAt c 0 1 ≤ 15 ∧ leAt c 1 1 = 2) ∧ Met (.mirrorCapt · c)
    (fun w => w.mirrorReady = true ∧ w.adopts = true ∧ w.capturing = true ∧ ceEnabled (w.capEntry (leAt c 0 1)) = true ∧
      ((w.capReg (leAt c 0 1)).st = 1 ∨ (w.capReg (leAt c 0 1)).st = 6) ∧ w.mayArm (leAt c 0 1) (w.capEntry (leAt c 0 1)) = true)
    (mirroredCapt) 900 := ⟨poke 18 [(0, 1, 2), (1, 1, 2)], by decide⟩

theorem meets_mirrorFull : ∃ c : List Byte, (leAt c 0 2 = 1 ∧ leAt c 2 2 = 0 ∧ leAt c 4 2 = 0 ∧ leAt c 6 2 = 0 ∧ leAt c 8 2 ≤ 1023 ∧ leAt c 10 1 ≠ 0) ∧ Met (.mirrorFull · c)
    (fun w => w.mirrorReady = true ∧ w.adopts = true)
    (mirrored 1 (awake 4)) 900 := ⟨poke 19 [(0, 2, 1), (8, 2, 7), (10, 1, 1), (11, 8, 65536)], by decide⟩

/-! Slv. -/

theorem meets_slvLinkRestart : Taken 13 1 .slvLinkRestart
    (fun w => w.arg 13 0 ≤ 3 ∧ w.role (w.arg 13 0) ≠ 0)
    ((linked 1 3 {} (awake 3)).putReg (hdr 13 0x44) 1) 900 .host := by decide

theorem meets_linkHold : Taken 13 2 .linkHold
    (fun w => w.arg 13 0 ≤ 3 ∧ w.role (w.arg 13 0) ≠ 0)
    ((linked 1 3 {} (awake 3)).putReg (hdr 13 0x44) 1) 900 .host := by decide

theorem meets_originRead : ∃ tag, Taken 13 3 .originRead
    (fun w => w.lastTagOf (w.arg 13 0) (w.arg 13 1) = some tag)
    ((((awake 3).setSlv { origins := [(9, 1, 77)] }).putReg (hdr 13 0x44) 9).putReg (hdr 13 0x48) 1) 900 .host := ⟨77, by decide⟩

theorem meets_blockLock : ∃ n, (n ≤ 3) ∧ Met (.blockLock · n)
    (fun w => w.domain pdSlv = 0 ∧ w.linkState n = 1)
    (linked 1 1 {} (awake 3)) 900 := ⟨1, by decide⟩

theorem meets_lockLost : ∃ n, (n ≤ 3) ∧ Met (.lockLost · n)
    (fun w => w.domain pdSlv = 0 ∧ 1 ≤ w.linkState n ∧ w.linkState n ≤ 3)
    (linked 1 3 {} (awake 3)) 900 := ⟨1, by decide⟩

theorem meets_badCell : ∃ n, (n ≤ 3) ∧ Met (.badCell · n)
    (fun w => w.domain pdSlv = 0)
    (linked 1 3 {} (awake 3)) 900 := ⟨1, by decide⟩

theorem meets_trainCell : ∃ n, ∃ l, (n ≤ 3 ∧ cellValid l = true ∧ leAt l 0 1 = 1) ∧ Met (.trainCell · n l)
    (fun w => w.domain pdSlv = 0 ∧ w.role n ≠ 0 ∧ w.linkState n = 1 ∧ (w.link n).lock = true ∧ (readCell l).aux1 = peerRole (w.role n) ∧
      bits (readCell l).aux2 15 8 = 1 ∧ (w.link n).trains < 7)
    (linked 1 1 { lock := true } (awake 3)) 900 := ⟨1, aCell 1 2 256 9 [], by decide +kernel⟩

theorem meets_trainCell_2 : ∃ n, ∃ l, (n ≤ 3 ∧ cellValid l = true ∧ leAt l 0 1 = 1) ∧ Met (.trainCell · n l)
    (fun w => w.domain pdSlv = 0 ∧ w.role n ≠ 0 ∧ w.linkState n = 1 ∧ (w.link n).lock = true ∧ (readCell l).aux1 = peerRole (w.role n) ∧
      bits (readCell l).aux2 15 8 = 1 ∧ 7 ≤ (w.link n).trains ∧ (w.link n).acked = true)
    (linked 1 1 { lock := true, trains := 7, acked := true } (awake 3)) 900 := ⟨1, aCell 1 2 256 9 [], by decide +kernel⟩

theorem meets_heartbeatCell : ∃ n, ∃ l, (n ≤ 3 ∧ cellValid l = true ∧ leAt l 0 1 = 2 ∧ leAt (readCell l).body 8 8 ≠ 0) ∧ Met (.heartbeatCell · n l)
    (fun w => w.domain pdSlv = 0 ∧ w.role n ≠ 0 ∧ w.linkState n = 3)
    (linked 1 3 {} (awake 3)) 900000 := ⟨1, aCell 2 0 0 9 (leBytes 8 5 ++ leBytes 8 1000 ++ leBytes 4 100), by decide +kernel⟩

theorem meets_heartbeatSend : ∃ n, (n ≤ 3) ∧ Met (.heartbeatSend · n)
    (fun w => w.domain pdSlv = 0 ∧ (w.linkState n = 2 ∨ w.linkState n = 3) ∧
      ((w.link n).lastTx + 1000 ≤ w.bases.mono ∨ (w.link n).lastBeat + 100000 ≤ w.bases.mono))
    (linked 1 3 {} (awake 3)) 900000 := ⟨1, by decide⟩

theorem meets_linkSilent : ∃ n, (n ≤ 3) ∧ Met (.linkSilent · n)
    (fun w => w.domain pdSlv = 0 ∧ w.linkState n = 3 ∧ (w.link n).lastRx + 4000 ≤ w.bases.mono ∧ w.provingIn pdSlv = [])
    (linked 1 3 {} (awake 3)) 900000 := ⟨1, by decide⟩

theorem meets_autoRestart : ∃ n, (n ≤ 3) ∧ Met (.autoRestart · n)
    (fun w => w.domain pdSlv = 0 ∧ w.role n ≠ 0 ∧ w.linkState n = 4 ∧ w.isSet F.SLV_CTRL_AUTO_RESTART = true ∧
      w.fld (F.SLV_LINKn_STATE_CAUSE n) ≠ 3 ∧ (w.link n).since + 1000000 ≤ w.bases.mono)
    ((linked 1 4 {} (awake 3)).putFld F.SLV_CTRL_AUTO_RESTART 1) 90000000 := ⟨1, by decide⟩

theorem meets_bringupRetry : ∃ n, (n ≤ 3) ∧ Met (.bringupRetry · n)
    (fun w => w.domain pdSlv = 0 ∧ w.role n ≠ 0 ∧ (w.linkState n = 5 ∨ (w.linkState n = 4 ∧ w.fld (F.SLV_LINKn_STATE_CAUSE n) = 3)) ∧
      (w.link n).since + 1000000000 ≤ w.bases.mono)
    ((linked 1 5 {} (awake 3))) 90000000000 := ⟨1, by decide⟩

theorem meets_slotHeadCell : ∃ n, ∃ l, (n ≤ 3 ∧ cellValid l = true ∧ leAt l 0 1 = 0x10 ∧ bit (readCell l).flags 0 = false) ∧ Met (.slotHeadCell · n l)
    (fun w => w.domain pdSlv = 0 ∧ w.role n ≠ 0 ∧ w.role n ≠ 4 ∧ w.linkState n = 3 ∧ 2 ≤ w.mode ∧ w.mode ≤ 10 ∧
      cellSeq l = (w.link n).rxNext ∧ (w.link n).held = [])
    (linked 1 3 {} (awake 3)) 900000 := ⟨1, aCell 0x10 0 6 9 [], by decide +kernel⟩

theorem meets_slotDataCell : ∃ n, ∃ l, (n ≤ 3 ∧ cellValid l = true ∧ leAt l 0 1 = 0x11 ∧ bit (readCell l).flags 0 = false) ∧ Met (.slotDataCell · n l)
    (fun w => w.domain pdSlv = 0 ∧ w.role n ≠ 0 ∧ w.role n ≠ 4 ∧ w.linkState n = 3 ∧ 2 ≤ w.mode ∧ w.mode ≤ 10 ∧
      cellSeq l = (w.link n).rxNext ∧ (w.link n).held = [])
    ((linked 1 3 {} (awake 3))) 900000 := ⟨1, aCell 0x11 0 0 9 [], by decide +kernel⟩

theorem meets_armCell : ∃ n, ∃ l, (n ≤ 3 ∧ cellValid l = true ∧ leAt l 0 1 = 0x20 ∧ bit (readCell l).flags 0 = false) ∧ Met (.armCell · n l)
    (fun w => w.domain pdSlv = 0 ∧ w.role n ≠ 0 ∧ w.role n ≠ 4 ∧ w.linkState n = 3 ∧ 2 ≤ w.mode ∧ w.mode ≤ 10 ∧
      cellSeq l = (w.link n).rxNext ∧ (w.link n).held = [])
    ((linked 1 3 {} (awake 3))) 900000 := ⟨1, aCell 0x20 0 5 9 [], by decide +kernel⟩

theorem meets_fireCell : ∃ n, ∃ l, (n ≤ 3 ∧ cellValid l = true ∧ leAt l 0 1 = 0x21 ∧ bit (readCell l).flags 0 = false) ∧ Met (.fireCell · n l)
    (fun w => w.domain pdSlv = 0 ∧ w.role n ≠ 0 ∧ w.role n ≠ 4 ∧ w.linkState n = 3 ∧ 2 ≤ w.mode ∧ w.mode ≤ 10 ∧
      cellSeq l = (w.link n).rxNext ∧ (w.link n).held = [])
    ((linked 1 3 {} (awake 3))) 900000 := ⟨1, aCell 0x21 0 5 9 [], by decide +kernel⟩

theorem meets_nakCell : ∃ n, ∃ l, ∃ x, (n ≤ 3 ∧ cellValid l = true ∧ leAt l 0 1 = 3) ∧ Met (.nakCell · n l)
    (fun w => w.domain pdSlv = 0 ∧ w.role n ≠ 0 ∧ w.linkState n = 3 ∧ (w.link n).unacked = [x] ∧ x.again = none ∧
      x.seq = leAt l 0xC 4 % 65536 ∧ 32768 ≤ (leAt l 4 2 + 65536 - x.seq) % 65536)
    ((linked 1 3 { unacked := [sent5] } (awake 3))) 900000 := ⟨1, aCell 3 0 5 9 [], sent5, by decide +kernel⟩

theorem meets_retransmit : ∃ n, ∃ x, (n ≤ 3) ∧ Met (.retransmit · n)
    (fun w => w.domain pdSlv = 0 ∧ w.linkState n = 3 ∧ (w.link n).unacked = [x] ∧ x.again = none ∧ x.asked = false ∧
      x.at' + 4000 ≤ w.bases.mono)
    ((linked 1 3 { unacked := [sent5] } (awake 3))) 900000 := ⟨1, sent5, by decide⟩

theorem meets_retryFail : ∃ n, (n ≤ 3) ∧ Met (.retryFail · n)
    (fun w => w.domain pdSlv = 0 ∧ w.linkState n = 3 ∧
      (w.link n).unacked.any (fun u => u.again.any fun a => decide (a + 4000 ≤ w.bases.mono)) = true ∧ w.provingIn pdSlv = [])
    ((linked 1 3 { unacked := [{ sent5 with again := some 7 }] } (awake 3))) 900000 := ⟨1, by decide⟩

theorem meets_cellTransmit : ∃ n, (n ≤ 3) ∧ Met (.cellTransmit · n)
    (fun w => w.domain pdSlv = 0 ∧ w.linkState n = 1 ∧ (w.link n).lock = true ∧ (w.link n).lastTx + 1000 ≤ w.bases.mono)
    ((linked 1 1 { lock := true } (awake 3))) 900000 := ⟨1, by decide⟩

theorem meets_cellTransmit_2 : ∃ n, (n ≤ 3) ∧ Met (.cellTransmit · n)
    (fun w => w.domain pdSlv = 0 ∧ w.linkState n = 3 ∧ (w.link n).nak = true)
    ((linked 1 3 { nak := true, rxNext := 5 } (awake 3))) 900000 := ⟨1, by decide⟩

theorem meets_truncationTimeout : ∃ f, Met (.truncationTimeout · f.origin f.lattice)
    (fun w => w.slv.flows = [f] ∧ f.last + 100000000 ≤ w.bases.mono)
    ((awake 3).setSlv { flows := [⟨1, 9, 0, 65536, 6, 0, 5, false⟩] }) 900000000 := ⟨SlvFlow.mk 1 9 0 65536 6 0 5 false, by decide⟩

/-! Shuttle. -/

theorem meets_shuttleStreamEnable : Taken 11 1 .shuttleStreamEnable
    (fun w => 2 ≤ w.mode ∧ w.mode ≤ 10 ∧ w.arg 11 0 ≤ 63 ∧ (w.os (w.arg 11 0)).isSome = true ∧ w.arg 11 1 ≤ 1 ∧
      (w.arg 11 1 = 1 → osFlag ((w.os (w.arg 11 0)).getD []) 0 = true))
    (((publishing 1 1000000000 (awake 3)).putReg (hdr 11 0x44) 5).putReg (hdr 11 0x48) 1) 900 .host := by decide

theorem meets_cfgFetch : Taken 11 2 .cfgFetch
    (fun w => w.arg 11 0 ≤ 63 ∧ (w.os (w.arg 11 0)).isSome = true ∧ osProtocol ((w.os (w.arg 11 0)).getD []) ≤ 1 ∧
      osFlag ((w.os (w.arg 11 0)).getD []) 0 = true ∧ (w.osSt (w.arg 11 0)).enabled = true ∧ (w.arg 11 1 = 2 ∨ w.arg 11 1 = 3) ∧
      w.queueIs (w.fld F.SHUTTLE_QUEUES_CFG_QUEUE) 0 = true ∧
      (w.queue (w.fld F.SHUTTLE_QUEUES_CFG_QUEUE)).level +
        packetSize (16 + (w.cfgFrame ((w.os (w.arg 11 0)).getD []) (w.arg 11 1 == 3)).length) ≤
        w.queueSize (w.fld F.SHUTTLE_QUEUES_CFG_QUEUE))
    (((((publishing 1 1000000000 (awake 3)).putReg (hdr 11 0x44) 5).putReg (hdr 11 0x48) 2).putReg R.SHUTTLE_QUEUES 0x20300).putReg (R.QUEUE_Qn_CFG 3) 33) 900 .host := by decide

theorem meets_cmdSend : Taken 11 3 .cmdSend
    (fun w => w.arg 11 0 ≤ 8191 ∧ 1 ≤ w.arg 11 1 ∧ w.arg 11 1 ≤ 6 ∧
      (leAt (w.stream (w.arg 11 0)) 0 1 = 1 ∨ leAt (w.stream (w.arg 11 0)) 0 1 = 2) ∧
      ∀ m ∈ (w.streamSt (w.arg 11 0)).cmdAt, m + 1000000000 ≤ w.bases.mono)
    ((((drafted [(5, streamsBody 2)] (awake 3)).putReg (hdr 11 0x44) 5).putReg (hdr 11 0x48) 2)) 900 .host := by decide

theorem meets_composeStart : ∃ n, ∃ tag, ∃ e, (n ≤ 63) ∧ Met (.composeStart · n)
    (fun w => w.domain pdShuttle = 0 ∧ w.osNext n = some (tag, e) ∧ (w.osSt n).frame = none ∧ w.publishes n tag = true ∧
      w.launchTime e tag ≤ w.now + w.cLead ∧ osProtocol e ≤ 1 ∧
      ∃ y, (w.lat (osLattice e)).slot tag = some y ∧ y.released.isSome = true ∧ y.piped = true)
    (oneSlot { tag := 65536, opened := true, released := some 5, piped := true } (publishing 1 1000000000 (awake 3))) 900 := ⟨5, 65536, entryAt (shuttleBody 0 1) 16 128 0, by decide⟩

theorem meets_launch : ∃ n, ∃ tag, ∃ e, ∃ payload : List Byte, (n ≤ 63) ∧ Met (.launch · n)
    (fun w => w.domain pdShuttle = 0 ∧ w.osNext n = some (tag, e) ∧ w.launchTime e tag ≤ w.now ∧ w.mayLaunch n tag = true ∧
      w.isSet F.SHUTTLE_CTRL_HOLD_ALL = false ∧ w.needsIntent = false ∧ (w.osSt n).frame = some ⟨tag, payload, true, false⟩)
    ((oneSlot { tag := 65536, opened := true, released := some 5, piped := true } (publishing 1 1000000000 (awake 3))).putOs 5 { frame := some ⟨65536, [1, 2, 3], true, false⟩ }) 900 := ⟨5, 65536, entryAt (shuttleBody 0 1) 16 128 0, [1, 2, 3], by decide⟩

theorem meets_lateLaunch : ∃ n, ∃ tag, ∃ e, ∃ payload : List Byte, ∃ ready, (n ≤ 63) ∧ Met (.lateLaunch · n)
    (fun w => w.domain pdShuttle = 0 ∧ w.osNext n = some (tag, e) ∧ osFlag e 3 = true ∧ w.launchTime e tag ≤ w.now ∧
      w.now < w.launchTime e tag + (1000000000 * osDivider e) / max 1 (w.rate (osLattice e)) ∧ w.mayLaunch n tag = true ∧
      w.isSet F.SHUTTLE_CTRL_HOLD_ALL = false ∧ w.needsIntent = false ∧ (w.osSt n).frame = some ⟨tag, payload, ready, false⟩)
    ((oneSlot { tag := 65536, opened := true, released := some 5, piped := true } (publishing 9 1000000000 (awake 3))).putOs 5 { frame := some ⟨65536, [1, 2, 3], false, false⟩ }) 900 := ⟨5, 65536, entryAt (shuttleBody 0 9) 16 128 0, [1, 2, 3], false, by decide⟩

theorem meets_intentSend : ∃ n, ∃ tag, ∃ e, ∃ payload : List Byte, (n ≤ 63) ∧ Met (.intentSend · n)
    (fun w => w.domain pdShuttle = 0 ∧ w.osNext n = some (tag, e) ∧ w.launchTime e tag ≤ w.now + w.intentLead ∧ w.mayLaunch n tag = true ∧
      w.isSet F.SHUTTLE_CTRL_HOLD_ALL = false ∧ w.needsIntent = true ∧ (w.osSt n).frame = some ⟨tag, payload, true, false⟩)
    (((oneSlot { tag := 65536, opened := true, released := some 5, piped := true } (paired ((awake 3).setBases { grid := 1000000000 }))).putOs 5 { frame := some ⟨65536, [1, 2, 3], true, false⟩ })) 900 := ⟨5, 65536, entryAt (shuttleBody 0 1) 16 128 0, [1, 2, 3], by decide⟩

theorem meets_hostFrameSend : ∃ q, ∃ k, ∃ l : List Byte, ∃ rest : List (Nat × List Byte), (bit (leAt l 0 1) 3 = false) ∧ Met .hostFrameSend
    (fun w => w.consumerQueue F.PORT_SLOW_QUEUE_TX_QUEUE = some q ∧ (w.queue q).packets = (k, l) :: rest ∧
      w.portOn (leAt l 0 1 % 8) = true ∧ w.portTaken (leAt l 0 1 % 8) = false ∧ w.nextLaunch (leAt l 0 1 % 8) = none)
    (((((awake 3).putReg (R.QUEUE_Qn_CFG 2) 35).putFld F.PORT_SLOW_QUEUE_TX_QUEUE 2).setQueues [(2, { packets := [(1, [3, 0, 60, 0, 0, 0, 0, 0] ++ List.replicate 60 7)] })]).putFld (F.PORT_CFG_MODE 3) 1) 900 := ⟨2, 1, [3, 0, 60, 0, 0, 0, 0, 0] ++ List.replicate 60 7, [], by decide⟩

/-! Queue. -/

theorem meets_queueStart : Taken 12 1 .queueStart
    (fun w => w.arg 12 0 ≤ 31 ∧ 1 ≤ w.mode ∧ w.mode ≤ 10 ∧ w.isSet (F.QUEUE_Qn_CFG_ENABLE (w.arg 12 0)) = true ∧
      w.ringSet (w.arg 12 0) = true)
    (((ring 3 0 (awake 3)).putFld (F.QUEUE_Qn_CTRL_STATE 3) 0).putReg (hdr 12 0x44) 3) 900 .host := by decide

theorem meets_queueStop : Taken 12 2 .queueStop
    (fun w => w.arg 12 0 ≤ 31 ∧ w.isSet (F.QUEUE_Qn_CFG_ENABLE (w.arg 12 0)) = true)
    ((ring 3 0 (awake 3)).putReg (hdr 12 0x44) 3) 900 .host := by decide

theorem meets_queueFlush : ∃ q, ∃ path, (q ≤ 31) ∧ Met (.queueFlush · path q)
    (fun w => w.Reaches path (R.QUEUE_Qn_CTRL q) ∧ w.isSet (F.QUEUE_Qn_CFG_ENABLE q) = true)
    ((ring 3 1 (awake 3)).setQueues [(3, { packets := [(1, [5, 6])] })]) 900 := ⟨3, Path.host, by decide⟩

theorem meets_doorbell : ∃ q, ∃ v, ∃ path, (q ≤ 31 ∧ v < 2 ^ 32) ∧ Met (.doorbell · path q v)
    (fun w => w.Reaches path (R.QUEUE_Qn_DOORBELL q) ∧ w.ringSize q ≠ 0 ∧ v < 2 * w.ringSize q ∧ w.queueIs q 1 = true ∧
      ringSpan (w.ringSize q) (w.regN (R.QUEUE_Qn_DOORBELL q)) v ≤
        w.ringSize q - ringSpan (w.ringSize q) (w.regN (R.QUEUE_Qn_DEVICE_PTR q)) (w.regN (R.QUEUE_Qn_DOORBELL q)))
    ((ring 3 1 (awake 3))) 900 := ⟨3, 64, Path.host, by decide⟩

theorem meets_d2hCopy : ∃ q, ∃ seq, ∃ payload : List Byte, ∃ rest : List (Nat × List Byte), Met (.d2hCopy · q true)
    (fun w => w.dmaOn q 0 = true ∧ (w.queue q).packets = (seq, payload) :: rest ∧
      w.regN (R.QUEUE_Qn_DEVICE_PTR q) % w.ringSize q + packetSize payload.length ≤ w.ringSize q ∧
      ringSpan (w.ringSize q) (w.regN (R.QUEUE_Qn_DOORBELL q)) (w.regN (R.QUEUE_Qn_DEVICE_PTR q)) + packetSize payload.length ≤
        w.ringSize q)
    ((ring 3 0 (awake 3)).setQueues [(3, { packets := [(1, [5, 6])] })]) 900 := ⟨3, 1, [5, 6], [], by decide⟩

theorem meets_h2dFetch : ∃ q, ∃ payload : List Byte, Met (.h2dFetch · q 0 payload true)
    (fun w => w.dmaOn q 1 = true ∧
      packetSize payload.length ≤ ringSpan (w.ringSize q) (w.regN (R.QUEUE_Qn_DEVICE_PTR q)) (w.regN (R.QUEUE_Qn_DOORBELL q)) ∧
      w.regN (R.QUEUE_Qn_DEVICE_PTR q) % w.ringSize q + packetSize payload.length ≤ w.ringSize q ∧
      (w.queue q).level + packetSize payload.length ≤ w.queueSize q)
    (((ring 3 1 (awake 3)).putReg (R.QUEUE_Qn_DOORBELL 3) 64)) 900 := ⟨3, [5, 6], by decide⟩

theorem meets_moderationTimeout : ∃ q, ∃ m, (q ≤ 31) ∧ Met (.moderationTimeout · q)
    (fun w => (w.queue q).first = some m ∧ (w.queue q).counted ≠ 0 ∧ m + 1000 * w.fld (F.QUEUE_Qn_MODERATION_US q) ≤ w.bases.mono ∧
      w.isSet (F.HOST_MSIXn_CTRL_MASK (32 + q)) = true)
    ((ring 3 0 (awake 3)).setQueues [(3, { counted := 4, first := some 5 })]) 90000000000 := ⟨3, 5, by decide⟩

/-! Capt. -/

theorem meets_arm : Taken 14 1 .arm
    (fun w => w.capturing = true ∧ w.arg 14 0 ≤ 15 ∧ ceEnabled (w.capEntry (w.arg 14 0)) = true ∧
      ((w.capReg (w.arg 14 0)).st = 0 ∨ (w.capReg (w.arg 14 0)).st = 1 ∨ (w.capReg (w.arg 14 0)).st = 6) ∧
      w.mayArm (w.arg 14 0) (w.capEntry (w.arg 14 0)) = true)
    ((captRegion 1 { st := 1 } (awake 3)).putReg (hdr 14 0x44) 2) 900 .host := by decide

theorem meets_disarm : Taken 14 2 .disarm
    (fun w => w.arg 14 0 ≤ 15 ∧ ceEnabled (w.capEntry (w.arg 14 0)) = true ∧
      ((w.capReg (w.arg 14 0)).st = 2 ∨ (w.capReg (w.arg 14 0)).st = 6))
    ((captRegion 1 { st := 2 } (awake 3)).putReg (hdr 14 0x44) 2) 900 .host := by decide

theorem meets_disarm_2 : Taken 14 2 .disarm
    (fun w => w.arg 14 0 ≤ 15 ∧ ceEnabled (w.capEntry (w.arg 14 0)) = true ∧ 3 ≤ (w.capReg (w.arg 14 0)).st ∧
      (w.capReg (w.arg 14 0)).st ≤ 5)
    ((captRegion 1 { st := 4 } (awake 3)).putReg (hdr 14 0x44) 2) 900 .host := by decide

theorem meets_fire : Taken 14 3 .fire
    (fun w => w.capturing = true ∧ w.arg 14 0 ≤ 15 ∧ ceEnabled (w.capEntry (w.arg 14 0)) = true ∧ (w.capReg (w.arg 14 0)).st = 2 ∧
      (w.capReg (w.arg 14 0)).last = none)
    ((captRegion 1 { st := 2 } (awake 3)).putReg (hdr 14 0x44) 2) 900 .host := by decide

theorem meets_trigSet : Taken 14 4 .trigSet
    (fun w => w.capturing = true ∧ w.arg 14 0 ≤ 255 ∧ w.inputEntry (w.arg 14 0) % 16 = 6 ∧
      w.inputValue (w.arg 14 0) = !(w.arg 14 1 % 2 == 1))
    (((captRegion 1 { st := 2 } (awake 3)).putReg (hdr 14 0x44) 9).putReg (hdr 14 0x48) 1) 900 .host := by decide

theorem meets_recordLock : ∃ h, Taken 14 5 .recordLock
    (fun w => w.arg 14 0 ≤ 15 ∧ ceEnabled (w.capEntry (w.arg 14 0)) = true ∧ (w.capReg (w.arg 14 0)).st ≠ 3 ∧
      (w.capReg (w.arg 14 0)).st ≠ 4 ∧ (w.capReg (w.arg 14 0)).held = [h] ∧ h.seq = w.arg 14 1)
    (((captRegion 1 { st := 2, held := [⟨7, [1], false, 0, 0⟩] } (awake 3)).putReg (hdr 14 0x44) 2).putReg (hdr 14 0x48) 7) 900 .host := ⟨CaptHeld.mk 7 [1] false 0 0, by decide⟩

theorem meets_recordUnlock : ∃ h, Taken 14 6 .recordUnlock
    (fun w => w.arg 14 0 ≤ 15 ∧ ceEnabled (w.capEntry (w.arg 14 0)) = true ∧ (w.capReg (w.arg 14 0)).held = [h] ∧ h.seq = w.arg 14 1)
    (((captRegion 1 { st := 2, held := [⟨7, [1], true, 0, 0⟩] } (awake 3)).putReg (hdr 14 0x44) 2).putReg (hdr 14 0x48) 7) 900 .host := ⟨CaptHeld.mk 7 [1] true 0 0, by decide⟩

theorem meets_inputChange : ∃ c, ∃ rest : List InputEvent, (c.input < 256) ∧ Met .inputChange
    (fun w => w.inputQ = c :: rest ∧ w.domain pdStacks = 0 ∧ ∀ r : Nat, r < 16 → ceEnabled (w.capEntry r) = true → cePatterns (w.capEntry r) = [])
    ((captRegion 1 { st := 2 } (awake 3)).setInputQ [⟨9, true, 77⟩]) 900 := ⟨InputEvent.mk 9 true 77, [], by decide⟩

theorem meets_waveWaitEnd : ∃ r, (r ≤ 15) ∧ Met (.waveWaitEnd · r)
    (fun w => (w.capReg r).st = 4 ∧ w.domain pdStacks = 0 ∧ (w.capReg r).since + 1000000 * ceWait (w.capEntry r) ≤ w.bases.mono)
    ((captRegion 1 { st := 4 } (awake 3))) 9000000000000 := ⟨2, by decide⟩

theorem meets_rearmDone : ∃ r, ∃ o, (r ≤ 15) ∧ Met (.rearmDone · r)
    (fun w => (w.capReg r).st = 5 ∧ w.domain pdStacks = 0 ∧ (w.capReg r).rec' = some o ∧ (w.capReg r).held = [] ∧
      (w.capReg r).disarm = false ∧ ceFlag (w.capEntry r) 1 = false)
    ((captRegion 1 { st := 5, seq := 3, rec' := some { seq := 3, trig := 5, trigTag := 0, lastTag := 1, cause := 1, pattern := 255, origin := 0, event := 0, inputs := [], mode := 0, flags := 0 } } (awake 3))) 9000000000000 := ⟨2, ({ seq := 3, trig := 5, trigTag := 0, lastTag := 1, cause := 1, pattern := 255, origin := 0, event := 0, inputs := [], mode := 0, flags := 0 } : CaptOpen), by decide⟩

/-! Energy. -/

theorem meets_intervalRead : Taken 15 1 .intervalRead
    (fun w => w.arg 15 0 ≤ 2047 ∧ w.arg 15 1 ≤ 95 ∧ w.arg 15 1 < (w.flow (w.arg 15 0)).seq)
    ((((awake 3).setArchive [(ringAddr 7 9 + 5, 3#8)]).setEnergy { points := [(7, { seq := 9 })] }).putReg (hdr 15 0x44) 7) 900 .host := by decide

theorem meets_peakReset : Taken 15 2 .peakReset
    (fun w => 2 ≤ w.mode ∧ w.mode ≤ 10 ∧ (w.arg 15 0 ≤ 2047 ∨ w.arg 15 0 = 0xFFFF))
    (((awake 3).setEnergy { points := [(7, { seq := 9, peakP := 3, peakI := 4 }), (8, { peakP := 5 })] }).putReg (hdr 15 0x44) 7) 900 .host := by decide

theorem meets_energySave : Met (.energySave · 0)
    (fun w => 3 ≤ w.mode ∧ w.mode ≤ 10 ∧ w.domain pdArchive = 0 ∧ w.pfwLow = false ∧ w.energy.savedAt + 1000000000 ≤ w.bases.mono)
    ((awake 3).setEnergy { points := [(7, { seq := 9 })], savedAt := 5 }) 2000000000 := by decide

theorem meets_epulsePhase : ∃ n, ∃ e, (n < 4) ∧ Met (.epulsePhase · n)
    (fun w => (w.pulseOut n).high = true ∧ (w.pulseOut n).ends = some e ∧ e ≤ w.bases.mono)
    ((awake 3).setEnergy { pulses := [(2, { high := true, ends := some 50 })] }) 900 := ⟨2, 50, by decide⟩

theorem meets_energyMirrorSend : Met .energyMirrorSend
    (fun w => w.holds = true ∧ w.isSet F.PAIR_STATUS_MIRROR_UP = true ∧ w.isSet F.PAIR_STATUS_DRAFT_MISMATCH = false ∧
      w.pair.energyAt.getD 0 + 1000000000 ≤ w.bases.mono)
    ((((awake 3).setEnergy { points := [(7, { seq := 9 })] }).putFld F.PAIR_STATUS_HOLDING 1).putFld F.PAIR_STATUS_MIRROR_UP 1) 2000000000 := by decide

/-! Ledger. -/

theorem meets_ledgerEvent : ∃ code, ∃ src, ∃ p : List Byte, (code < 2 ^ 16 ∧ code % 2048 ≠ 0) ∧ Met (.ledgerEvent · code src p)
    (fun w => w.ledger.closed = false ∧ joinKind w code src p = 0 ∧ w.ledger.staging.length < 4095)
    (awake 3) 900 := ⟨0x4801, 7, [1, 2], by decide⟩

theorem meets_ledgerEvent_2 : ∃ code, ∃ src, ∃ p : List Byte, (code < 2 ^ 16 ∧ code % 2048 ≠ 0) ∧ Met (.ledgerEvent · code src p)
    (fun w => w.ledger.closed = false ∧ joinKind w code src p = 0 ∧ w.ledger.staging.length < 4095)
    (awake 3) 900 := ⟨0x4801, 7, List.replicate 20 5, by decide⟩

theorem meets_ledgerEvent_3 : ∃ code, ∃ src, ∃ p : List Byte, (code < 2 ^ 16 ∧ code % 2048 ≠ 0) ∧ Met (.ledgerEvent · code src p)
    (fun w => w.ledger.closed = false ∧ joinKind w code src p = 1)
    ((awake 3).event 0x4801 7 [1, 2]) 900 := ⟨0x4801, 7, [1, 2], by decide⟩

theorem meets_ledgerEvent_4 : ∃ code, ∃ src, ∃ p : List Byte, (code < 2 ^ 16 ∧ code % 2048 ≠ 0) ∧ Met (.ledgerEvent · code src p)
    (fun w => w.ledger.closed = false ∧ joinKind w code src p = 0 ∧ 4095 ≤ w.ledger.staging.length ∧ w.ledger.lost = none)
    (fullStaging) 900 := ⟨0x4801, 7, [1, 2], by decide +kernel⟩

theorem meets_coalesceClose : Met (.coalesceClose ·)
    (fun _ => True)
    ((awake 3).event 0x4801 7 [1, 2]) 9000000000 := by decide

theorem meets_recordWritten : ∃ r, Met (.recordWritten · 0)
    (fun w => w.ledger.first = some r ∧ r.isOpen = false ∧ w.isSet F.POWER_STATUS_WRITE_PROTECT = false ∧ w.domain pdArchive = 0 ∧
      w.ledger.lost = none ∧ r.acc < w.ledger.next)
    (staged1) 900 := ⟨{ staged1Rec with isOpen := false }, by decide⟩

theorem meets_opSecondsSave : Met (.opSecondsSave ·)
    (fun w => w.ledger.savedOp + 60 ≤ w.opSeconds ∧ w.isSet F.POWER_STATUS_WRITE_PROTECT = false ∧ w.pfwLow = false ∧
      w.domain pdArchive = 0)
    (awake 3) 60000000000 := by decide

theorem meets_nonceExpiry : ∃ n : Nonce, Met (.nonceExpiry ·)
    (fun w => w.ledger.nonce = some n ∧ n.issued + 60000000000 ≤ w.bases.mono)
    ((awake 3).setLedger { nonce := some ⟨7, 5⟩ }) 60000000005 := ⟨⟨7, 5⟩, by decide⟩

theorem meets_clearDone : Met (.clearDone ·)
    (fun w => w.ledger.clearing = true ∧ w.pfwLow = false)
    (((awake 2).setArchive [(64 * 2 ^ 20 + 5, 0)]).setLedger { clearing := true, oldest := 9, next := 10, dir := [(0, [1, 2]), (1, [9])] }) 900 := by decide

theorem meets_read : ∃ b, ∃ f, Taken 24 1 .read
    (fun w => w.ledger.oldest ≤ w.argAcc ∧ w.argAcc < w.ledger.next ∧ w.record w.argAcc = some (b, f) ∧ w.domain pdArchive = 0)
    ((ledgered.putReg (hdr 24 0x44) 4).putReg (hdr 24 0x48) 0) 900 .host := ⟨List.replicate 64 0xFF, true, by decide⟩

theorem meets_ledgerFlush : Taken 24 3 .ledgerFlush
    (fun _ => True)
    ((awake 3).event 0x4801 7 [1, 2]) 900 .host := by decide

theorem meets_nonce : Taken 24 5 .nonce
    (fun w => w.ledger.authLocked = false)
    (awake 3) 900 .host := by decide

theorem meets_clear : Taken 24 6 .clear
    (fun w => (w.mode = 2 ∨ w.mode = 9) ∧ w.pfwLow = false ∧ w.ledger.clearing = false ∧ w.responseOk 1 = true ∧ w.domain pdArchive = 0)
    (authorised 1 (awake 2)) 900 .host := by decide

theorem meets_keySet : Taken 24 7 .keySet
    (fun w => w.ledger.key = none ∧ w.stagedKey.all (fun b => b == 0) = false)
    ((awake 3).putReg (R.LEDGER_KEY_STAGEn 3) 77) 900 .host := by decide

theorem meets_keyChange : Taken 24 8 .keyChange
    (fun w => w.responseOk 2 = true ∧ w.stagedKey.all (fun b => b == 0) = false)
    ((authorised 2 (awake 3)).putReg (R.LEDGER_KEY_STAGEn 3) 77) 900 .host := by decide

theorem meets_ack : Taken 24 2 .ack
    (fun w => w.ledger.acked ≤ w.argAcc ∧ w.argAcc < w.ledger.written + 1)
    (((awake 3).setLedger { written := 9, next := 10, acked := 3 }).putReg (hdr 24 0x44) 9) 900 .host := by decide

theorem meets_recordWritten_2 : ∃ r, ∃ fails, (fails ≤ 1) ∧ Met (.recordWritten · fails)
    (fun w => w.ledger.first = some r ∧ r.isOpen = false ∧ w.isSet F.POWER_STATUS_WRITE_PROTECT = false ∧ w.domain pdArchive ≠ 2)
    (staged1) 900 := ⟨{ staged1Rec with isOpen := false }, 0, by decide⟩

theorem meets_verify : Taken 24 4 .verify
    (fun w => w.ledger.oldest ≤ w.argAcc ∧ w.argAcc ≤ w.ledger.written ∧ 1 ≤ w.arg 24 2 ∧ w.arg 24 2 ≤ 65536 ∧ w.domain pdArchive = 0)
    ((written1.putReg (hdr 24 0x44) 1).putReg (hdr 24 0x4C) 2) 900 .host := by decide

theorem meets_verify_2 : Taken 24 4 .verify
    (fun w => w.ledger.oldest ≤ w.argAcc ∧ w.argAcc ≤ w.ledger.written ∧ w.arg 24 2 = 1 ∧ w.domain pdArchive = 0 ∧
      (∃ p ∈ (w.ledger.find w.argAcc).toList, colophonOk (memRead 0xFF w.archive (ledgerAddr p.1 + 64 * p.2) 64) = false) ∧
      w.ledger.closed = false ∧ newest w.ledger.staging E.LEDGER_COLOPHON_FAIL noSource = none ∧ w.ledger.staging.length < 4095)
    (((ledgered.setLedger { ledgered.ledger with written := 5 }).putReg (hdr 24 0x44) 4).putReg (hdr 24 0x4C) 1) 900 .host := by decide

theorem meets_read_2 : ∃ p, Taken 24 1 .read
    (fun w => w.ledger.oldest ≤ w.argAcc ∧ w.argAcc < w.ledger.next ∧ w.ledger.find w.argAcc = some p ∧
      (w.ledger.staging ++ w.ledger.lost.toList).find? (fun r => r.acc == w.argAcc) = none ∧ w.domain pdArchive = 0)
    (((ledgered.putReg (hdr 24 0x44) 4).putReg (hdr 24 0x48) 0)) 900 .host := ⟨(0, 2), by decide⟩

/-! Check. -/

theorem meets_scanStart : Taken 25 1 .scanStart
    (fun w => w.arg 25 0 ≤ 3 ∧ w.scanning (w.arg 25 0) = false ∧ w.scanOk (w.arg 25 0) = true ∧
      ((w.scan (w.arg 25 0)).space = 1 → w.domain pdStacks < 2))
    (((awake 3).putReg (hdr 25 0x44) 2).putReg (R.CHECK_En_LENGTH_LO 2) 8) 900 .host := by decide

theorem meets_scanStop : ∃ blocks, Taken 25 2 (.scanStop · · blocks)
    (fun w => w.arg 25 0 ≤ 3 ∧ w.scanning (w.arg 25 0) = true)
    ((((awake 3).putReg (hdr 25 0x44) 2).putReg (R.CHECK_En_STATE 2) 1).putReg (R.CHECK_En_LENGTH_LO 2) 8) 900 .host := ⟨1, by decide⟩

theorem meets_scanDone : ∃ e, (e ≤ 3) ∧ Met (.scanDone · e none)
    (fun w => w.scanning e = true ∧ (w.scan e).space = 2 ∧ (w.scan e).table = false ∧ (w.scan e).fold = 0)
    (scanArchive 0) 900 := ⟨2, by decide⟩

theorem meets_scanDone_2 : ∃ e, ∃ a, (e ≤ 3 ∧ a < 2 ^ 34) ∧ Met (.scanDone · e (some a))
    (fun w => w.scanning e = true)
    (scanArchive 0) 900 := ⟨2, 4096, by decide⟩

/-! Clock. -/

theorem meets_clockLoss : ∃ i, (i ≤ 15) ∧ Met (.clockLoss · i none)
    (fun _ => True)
    (awake 3) 900 := ⟨7, by decide⟩

theorem meets_clockLoss_2 : ∃ i, ∃ x, Met (.clockLoss · i (some x))
    (fun _ => True)
    (awake 3) 900 := ⟨7, 3, by decide⟩

theorem meets_relockDone : ∃ i, (i ≤ 15) ∧ Met (.relockDone · i true)
    (fun w => (smFind w.clock.relock i).isSome = true)
    ((awake 3).setClock { relock := [(7, 5)] }) 900 := ⟨7, by decide⟩

theorem meets_relockDone_2 : ∃ i, (i ≤ 15) ∧ Met (.relockDone · i false)
    (fun w => (smFind w.clock.relock i).isSome = true ∧ w.provingIn (islandDomain i) = [])
    ((awake 3).setClock { relock := [(7, 5)] }) 900 := ⟨7, by decide⟩

theorem meets_canaryError : ∃ i, ∃ x, ∃ can, ∃ tj, ∃ slack, (i ≤ 15 ∧ x ≤ 15) ∧ Met (.canaryError · i can { slack := [(x, slack)], ring := [], tj := tj })
    (fun w => w.islandOn x = true ∧ 2 ≤ w.mode ∧ w.mode ≤ 10 ∧ w.pfwLow = false ∧ w.avsOpen = false ∧ w.clock.replan = none)
    (awake 3) 900 := ⟨7, 8, 2, 900, 700, by decide⟩

theorem meets_hourlyReplan : ∃ x, ∃ tj, ∃ slack, (x ≤ 15) ∧ Met (.hourlyReplan · { slack := [(x, slack)], ring := [], tj := tj })
    (fun w => w.clock.hourAt + 3600000000000 ≤ w.bases.mono ∧ w.islandOn x = true ∧ 2 ≤ w.mode ∧ w.mode ≤ 10 ∧ w.pfwLow = false ∧
      w.avsOpen = false ∧ w.clock.replan = none)
    (awake 3) 3600000000000 := ⟨8, 900, 700, by decide⟩

theorem meets_replanMeasure : ∃ tj, ∃ slack, ∃ r : Replan, (r.worst ≤ 15) ∧ Met (.replanMeasure · { slack := [(r.worst, slack)], ring := [], tj := tj })
    (fun w => w.clock.replan = some r ∧ w.clock.avsAt + 10000000 ≤ w.bases.mono ∧ w.clock.avs = none ∧ w.pfwLow = false ∧
      w.islandOn r.worst = true)
    ((awake 3).setClock { replan := some { hourly := false, worst := 8, old := 100, step := 10 } }) 10000000 := ⟨900, 700, { hourly := false, worst := 8, old := 100, step := 10 }, by decide⟩

theorem meets_avsCheck : ∃ mv, ∃ req, ∃ again, ∃ x, (mv < 65536 ∧ req ≤ mv + 15 ∧ mv ≤ req + 15) ∧ Met (.avsCheck · mv true)
    (fun w => w.clock.avs = some (req, again, x) ∧ x + 1000000 ≤ w.bases.mono)
    ((awake 3).setClock { avs := some (750, false, 5) }) 1000005 := ⟨760, 750, false, 5, by decide⟩

theorem meets_avsCheck_2 : ∃ mv, ∃ req, ∃ ack, ∃ x, ∃ addr, ∃ exp, ∃ pec, ((ack = true → mv + 15 < req ∨ req + 15 < mv)) ∧ Met (.avsCheck · mv ack)
    (fun w => w.clock.avs = some (req, false, x) ∧ x + 1000000 ≤ w.bases.mono ∧ w.ageing.target = some (addr, exp, pec))
    (((awake 3).setClock { avs := some (750, false, 5) }).setAgeing { (awake 3).ageing with target := some (0x40, 20, true) }) 1000005 := ⟨700, 750, true, 5, 0x40, 20, true, by decide⟩

theorem meets_avsCheck_3 : ∃ mv, ∃ req, ∃ ack, ∃ x, ((ack = true → mv + 15 < req ∨ req + 15 < mv)) ∧ Met (.avsCheck · mv ack)
    (fun w => w.clock.avs = some (req, true, x) ∧ x + 1000000 ≤ w.bases.mono)
    ((awake 3).setClock { avs := some (750, true, 5) }) 1000005 := ⟨700, 750, false, 5, by decide⟩

theorem meets_ageForecast : Met (.ageForecast ·)
    (fun w => w.clock.dayAt + 86400000000000 ≤ w.bases.mono)
    (awake 3) 86400000000000 := by decide

theorem meets_replan : ∃ x, ∃ tj, ∃ slack, (x ≤ 15) ∧ Taken 27 1 (.replan · · { slack := [(x, slack)], ring := [], tj := tj })
    (fun w => w.islandOn x = true ∧ 2 ≤ w.mode ∧ w.mode ≤ 10 ∧ w.pfwLow = false ∧ w.avsOpen = false ∧ w.clock.replan = none)
    (awake 3) 900 .host := ⟨8, 900, 700, by decide⟩

theorem meets_avsSet : Taken 27 2 .avsSet
    (fun w => w.mode = 2 ∧ w.avsOpen = true ∧ w.avsFloor ≤ w.arg 27 0 ∧ w.arg 27 0 ≤ w.avsCeil ∧ w.clock.replan = none ∧
      w.clock.avs = none ∧ w.arg 27 0 ≠ w.ageing.request)
    (((awake 2).putFld F.CLOCK_CTRL_AVS_EN 1).putReg (hdr 27 0x44) 800) 900 .host := by decide


/-! The claims of the whole machine. -/

theorem meets_StepRunsTheFrontCommand : (State.reset.setPending [.idcode 5]).pending = [.idcode 5] ∧ State.reset.pending = [] := by decide

theorem meets_EveryCommandKeepsTheOtherParts :
    (awake 3).held = false ∧ Instr.isPowerOn (.idcode 5) = false ∧ Part.loom ∉ Instr.writes (.idcode 5) := by decide

theorem meets_InternalResetIsKept : ∃ s u : State, s.InReset ∧ step s = .next u :=
  ⟨State.reset.setHeld true, State.reset.setHeld true, ⟨rfl, fun _ h => absurd h List.not_mem_nil⟩, rfl⟩

theorem meets_MemoriesStayCanonical : ∃ s u : State, s.MemoryOk ∧ step s = .next u :=
  ⟨State.reset, State.reset, ⟨by decide, by decide⟩, rfl⟩

theorem meets_MonoNeverMovesBackward : Instr.isPowerOn (.internalReset 900) = false ∧ State.reset.held = false ∧
    exec (.internalReset 900) State.reset = .next (State.enterReset (State.reset.at 900)) := ⟨rfl, rfl, rfl⟩

theorem meets_StrapsAndFusesStay : Instr.isPowerOn (.internalReset 900) = false ∧
    exec (.internalReset 900) State.reset = .next (State.enterReset (State.reset.at 900)) := ⟨rfl, rfl⟩

theorem meets_WriteWithoutMastershipIsRejected : ∃ addr, addr < 2 ^ 25 ∧ addr / 2 ^ 20 < 16 ∧ (awake 3).held = false ∧
    (awake 3).deaf .monitor = false ∧ (awake 3).regState addr = 0 ∧ (awake 3).mayWrite .monitor addr = false := ⟨hdr 15 0x44, by decide⟩

theorem meets_GoWhileBusyIsRejected :
    State.Reaches ((awake 3).putReg (hdr 1 0x54) 0) .host (hdr 1 0x40) ∧ bits (((awake 3).putReg (hdr 1 0x54) 0).regN (hdr 1 0x54)) 31 31 = 0 := by
  decide

theorem meets_WriteToADomainThatIsNotOn : ∃ addr, addr < 2 ^ 25 ∧
    ((awake 3).putReg R.POWER_DOMAIN_STATE (4 ^ 6)).regState addr = 1 ∧ ((awake 3).putReg R.POWER_DOMAIN_STATE (4 ^ 6)).mayWrite .host addr = true :=
  ⟨hdr 4 0x44, by decide⟩

theorem meets_WriteToADomainThatIsNotOn_2 : ∃ addr, addr < 2 ^ 25 ∧ ((awake 3).putReg R.POWER_DOMAIN_STATE (3 * 4 ^ 6)).regState addr = 3 :=
  ⟨hdr 4 0x44, by decide⟩

theorem meets_LowWordReadSnapshotsTheHighWord : ∃ addr, addr < 2 ^ 25 ∧ highWords addr = [addr + 4] ∧ (awake 3).deaf .host = false ∧
    (awake 3).regState addr = 0 ∧ (awake 3).defined addr = true := ⟨0x300100, by decide⟩

theorem meets_LowWordReadSnapshotsTheHighWord_2 : ∃ addr, addr < 2 ^ 25 ∧ highWords addr = [] ∧ (awake 3).regState addr = 0 ∧
    (awake 3).defined addr = true ∧ smFind (State.snaps ((awake 3).setSnaps [(snapKey .host addr, 9)])) (snapKey .host addr) = some 9 :=
  ⟨0x300104, by decide⟩

theorem meets_WritesFollowTheAccessCodes : ∃ r, regRow R.FAULT_LAST = some r ∧ State.Reaches (awake 3) .host R.FAULT_LAST ∧
    (awake 3).defined R.FAULT_LAST = true ∧ ((awake 3).windowWord (R.FAULT_LAST / 2 ^ 20) (R.FAULT_LAST % 2 ^ 20)).isSome = false ∧
    blockHeader (R.FAULT_LAST / 2 ^ 20) = true ∧ outOfRange R.FAULT_LAST 5 = false := by
  refine ⟨(regRow R.FAULT_LAST).get (by decide), ?_, by decide⟩
  simp

theorem meets_WritesFollowTheAccessCodes_2 : ∃ r, regRow R.FAULT_RESTORE_S = some r ∧ State.Reaches (awake 3) .host R.FAULT_RESTORE_S ∧
    (awake 3).defined R.FAULT_RESTORE_S = true ∧
    ((awake 3).windowWord (R.FAULT_RESTORE_S / 2 ^ 20) (R.FAULT_RESTORE_S % 2 ^ 20)).isSome = false ∧
    blockHeader (R.FAULT_RESTORE_S / 2 ^ 20) = true ∧ outOfRange R.FAULT_RESTORE_S 0 = true := by
  refine ⟨(regRow R.FAULT_RESTORE_S).get (by decide), ?_, by decide⟩
  simp

theorem meets_AckAndUnackedHigh : State.Ready (awake 3) .host 24 ∧
    ((awake 3).issued 900 .host 24 2).ledger.written + 1 ≤ (((awake 3).putReg (hdr 24 0x44) 7).issued 900 .host 24 2).argAcc := by decide

theorem meets_VerifyChecksColophons : State.Ready (awake 3) .host 24 ∧
    ((awake 3).issued 900 .host 24 4).ledger.written < (((awake 3).putReg (hdr 24 0x44) 7).issued 900 .host 24 4).argAcc := by decide

/-! Ill-formed commands, one for each check, and what the check refuses. -/

theorem test_ill_time : Instr.wf (.internalReset (2 ^ 64)) = false ∧ okTime (2 ^ 64) = false := by decide
theorem test_ill_number : Instr.wf (.linkUp 0 8 0) = false ∧ below 8 8 = false := by decide
theorem test_ill_cell : Instr.wf (.trainCell 0 1 (List.replicate 64 0)) = false ∧ okCell (List.replicate 64 0) = false := by decide
theorem test_ill_payload : Instr.wf (.ledgerEvent 0 1 2 (List.replicate 25 0)) = false ∧ okPayload (List.replicate 25 0) = false := by decide
theorem test_ill_count : Instr.wf (.monRd 0 4 65) = false ∧ okCount 65 = false := by decide
theorem test_ill_args : Instr.wf (.monCmd 0 1 1 [0, 0, 0, 0, 0] {}) = false ∧ okArgs [2 ^ 32] = false := by decide
theorem test_ill_block : Instr.wf (.uartBlock 0 [1] 0) = false ∧ okBlock [1] = false := by decide
theorem test_ill_source : Instr.wf (.monLoad 0 5 0 0) = false ∧ okSource 5 = false := by decide

/-! The spec's own figures. -/

/-- R14: the check code of the nine bytes "123456789". -/
theorem test_crc8_figure : crc8 [0x31, 0x32, 0x33, 0x34, 0x35, 0x36, 0x37, 0x38, 0x39] = 0xDF := by decide

/-- The example of R466: what the monitor prints of FAULT_STATUS. -/
theorem test_rd_line : rdLine 0x1E00100 0x022009FF = "OK 0x1E0_0100 0x0220_09FF" := by decide

/-- R461: IDCODE of silicon revision 2. -/
theorem test_idcode : State.idcode (State.reset.putReg 0 0x01000200) = 0x281603CB := by decide

/-- R475: WARM_RESET with any other ARG0 completes with BAD_ARG. -/
theorem test_warm_reset_word : (cmdWarmReset .host ((awake 3).putReg (hdr 0 0x44) 1)).status = 3 := by decide

/-- R70: MONO counts on while nothing else happens. -/
theorem test_mono : (State.at (awake 3) 900).bases.mono = 900 := by decide

end Sys2Proof.Tests
end

section
/-!
PROOFS. Sys2Proof/Proofs/LowWordRead.lean: what a read of BAR0 answers and what becomes of the snapshots of R6.
-/

namespace Sys2Proof.Machine

/-! A read of a register. -/

/-- R6: the read of a low word answers it and keeps the word above it. -/
theorem State.readReg_of_low {s : State} {path : Path} {addr : Nat} (h : highWords addr = [addr + 4]) :
    s.readReg path addr =
      (s.setSnaps (smPut s.snaps (snapKey path (addr + 4)) (BitVec.ofNat 32 (s.readWord (addr + 4)))), s.readWord addr) := by
  simp [State.readReg, h]

/-- R6: a kept word is answered in place of the register's own and is then forgotten. -/
theorem State.readReg_of_kept {s : State} {path : Path} {addr : Nat} {v : Word} (h : highWords addr = [])
    (hv : smFind s.snaps (snapKey path addr) = some v) :
    s.readReg path addr = (s.setSnaps (smDel s.snaps (snapKey path addr)), v.toNat) := by
  simp [State.readReg, h, hv]

/-- A read changes no register: of the state it touches the snapshots only. -/
theorem State.readReg_regs (s : State) (path : Path) (addr : Nat) : (s.readReg path addr).1.regs = s.regs := by
  unfold State.readReg
  split
  · split
    · exact State.setSnaps_regs ..
    · rfl
  · exact State.setSnaps_regs ..

/-! A read of the host. -/

@[simp] theorem State.emit_out (s : State) (o : Output) : (s.emit o).out = o :: s.out := State.setOut_out ..

/-- The state after a read of a register by the host that is answered. -/
def State.readByHost (s : State) (addr : Nat) : State :=
  (s.readReg .host addr).1.emit (.readData (leBytes 4 (s.readReg .host addr).2))

/-- A whole-word read is answered when the host is heard, the register's domain is ON and the address is defined. -/
theorem State.hostRead_eq_readByHost {s : State} {addr : Nat} (hdeaf : s.deaf .host = false) (hon : s.regState addr = 0)
    (hdef : s.defined addr = true) : s.hostRead addr true = s.readByHost addr := by
  simp [State.hostRead, State.answerRead, State.readByHost, hdeaf, hon, hdef]

theorem State.readByHost_sameRegs (s : State) (addr : Nat) : SameRegs s (s.readByHost addr) [] :=
  fun a _ => regN_congr ((State.emit_regs ..).trans (s.readReg_regs .host addr)) a

/-- LOW_WORD_READ outside internal reset is the host's read at its time; BAR0 is 32 MiB, so the offset stands as it is. -/
theorem exec_lowWordRead {s : State} {addr : Nat} (t : Nat) (haddr : addr < 2 ^ 25) (hheld : s.held = false)
    (hdeaf : (s.at t).deaf .host = false) (hon : (s.at t).regState addr = 0) (hdef : (s.at t).defined addr = true) :
    exec (.lowWordRead t addr true) s = .next ((s.at t).readByHost addr) := by
  change execLowWordRead t addr true s = _
  rw [execLowWordRead, run_next hheld, Nat.mod_eq_of_lt haddr, State.hostRead_eq_readByHost hdeaf hon hdef]

/-- The read of a low word by the host: it is answered, and the high word of that moment is kept. -/
theorem State.readByHost_of_low {s : State} {addr : Nat} (h : highWords addr = [addr + 4]) :
    (s.readByHost addr).out = .readData (leBytes 4 (s.readWord addr)) :: s.out ∧
      smFind (s.readByHost addr).snaps (snapKey .host (addr + 4)) = some (BitVec.ofNat 32 (s.readWord (addr + 4))) := by
  simp [State.readByHost, State.readReg_of_low h]

/-- The read of a kept word by the host: the kept word is answered and no longer kept. -/
theorem State.readByHost_of_kept {s : State} {addr : Nat} {v : Word} (h : highWords addr = [])
    (hv : smFind s.snaps (snapKey .host addr) = some v) :
    (s.readByHost addr).out = .readData (leBytes 4 v.toNat) :: s.out ∧
      smFind (s.readByHost addr).snaps (snapKey .host addr) = none := by
  simp [State.readByHost, State.readReg_of_kept h hv]

/-- Settles O11: both reads are the host's read at its time; the first keeps the high word, the second answers what is kept and drops it. -/
theorem lowWordReadSnapshotsTheHighWord : Obligations.LowWordReadSnapshotsTheHighWord := by
  unfold Obligations.LowWordReadSnapshotsTheHighWord
  constructor
  · rintro addr haddr hlow s t hheld ⟨hdeaf, hon, hdef⟩
    obtain ⟨hout, hsnap⟩ := State.readByHost_of_low (s := s.at t) hlow
    exact ⟨_, exec_lowWordRead t haddr hheld hdeaf hon hdef, hout, hsnap, State.readByHost_sameRegs _ _⟩
  · rintro addr v haddr hhigh s t hheld ⟨hdeaf, hon, hdef, hkept⟩
    obtain ⟨hout, hsnap⟩ := State.readByHost_of_kept hhigh hkept
    exact ⟨_, exec_lowWordRead t haddr hheld hdeaf hon hdef, hout, hsnap, State.readByHost_sameRegs _ _⟩

end Sys2Proof.Machine
end

section
/-!
PROOFS. Sys2Proof/Proofs/LedgerMarks.lean: what R410 compares, and which operations of the Ledger leave it alone.
-/

namespace Sys2Proof.Machine

/-- Is the cause UNACKED_HIGH set? -/
def State.unackedHigh (s : State) : Bool := (s.irqOf I.LEDGER_UNACKED_HIGH.1).status.getLsbD I.LEDGER_UNACKED_HIGH.2

/-- What R410 compares and shows is the same: the two watermarks, the threshold and the cause UNACKED_HIGH. -/
structure KeepsMarks (s u : State) : Prop where
  written : u.ledger.written = s.ledger.written
  acked : u.ledger.acked = s.ledger.acked
  threshold : u.regN R.LEDGER_UNACKED_TH = s.regN R.LEDGER_UNACKED_TH
  high : u.unackedHigh = s.unackedHigh

/-- What R410 compares is the same, and so are the places of the written records. -/
structure KeepsRing (s u : State) : Prop extends KeepsMarks s u where
  dir : u.ledger.dir = s.ledger.dir

/-! An interrupt cause. -/

/-- Of a block's status bits a raised cause sets its own, and no other bit of any block. -/
theorem State.raise_status (s : State) (c : Nat × Nat) (b : Nat) {n : Nat} (hn : n < 32) :
    ((s.raise c).irqOf b).status.getLsbD n = (((s.irqOf b).status.getLsbD n) || decide (c = (b, n))) := by
  obtain ⟨d, m⟩ := c
  have hirq : (s.raise (d, m)).irq = smPut s.irq d { s.irqOf d with
      status := (s.irqOf d).status ||| BitVec.ofNat 32 (2 ^ m), count := (s.irqOf d).count + 1 } := by
    unfold State.raise
    dsimp only
    split <;> simp
  unfold State.irqOf at hirq ⊢
  rw [hirq]
  by_cases hd : d = b
  · subst hd
    have hbit : (BitVec.ofNat 32 (2 ^ m)).getLsbD n = decide (m = n) := by
      simp only [BitVec.getLsbD_ofNat, Nat.testBit_two_pow, hn, decide_true, Bool.true_and]
    simp only [smGet_smPut_same, BitVec.getLsbD_or, hbit, Prod.mk.injEq, true_and]
  · simp [smGet_smPut_other _ _ _ hd, hd]

theorem State.raise_unackedHigh (s : State) (c : Nat × Nat) :
    (s.raise c).unackedHigh = (s.unackedHigh || decide (c = I.LEDGER_UNACKED_HIGH)) :=
  s.raise_status c _ (by decide)

/-! Operations that leave the marks and the ring alone. -/

theorem KeepsMarks.trans {s u v : State} (h : KeepsMarks s u) (k : KeepsMarks u v) : KeepsMarks s v :=
  ⟨k.written.trans h.written, k.acked.trans h.acked, k.threshold.trans h.threshold, k.high.trans h.high⟩

namespace KeepsRing

variable {s u v : State}

theorem refl (s : State) : KeepsRing s s := ⟨⟨rfl, rfl, rfl, rfl⟩, rfl⟩

/-- A write of another part of the state. -/
theorem other (h : KeepsRing s u) (hl : v.ledger = u.ledger) (hr : v.regs = u.regs) (hi : v.irq = u.irq) : KeepsRing s v where
  written := by rw [hl, h.written]
  acked := by rw [hl, h.acked]
  threshold := (regN_congr hr _).trans h.threshold
  high := by rw [← h.high, State.unackedHigh, State.unackedHigh, State.irqOf, State.irqOf, hi]
  dir := by rw [hl, h.dir]

theorem putReg (h : KeepsRing s u) {a : Nat} (v : Nat) (ha : a ≠ R.LEDGER_UNACKED_TH) : KeepsRing s (u.putReg a v) :=
  { h with threshold := (u.regN_putReg_other v ha).trans h.threshold }

theorem putFld (h : KeepsRing s u) {f : Fld} (v : Nat) (hf : f.addr ≠ R.LEDGER_UNACKED_TH) : KeepsRing s (u.putFld f v) :=
  h.putReg _ hf

theorem count (h : KeepsRing s u) {a : Nat} (n : Nat) (ha : a ≠ R.LEDGER_UNACKED_TH) : KeepsRing s (u.count a n) :=
  h.putReg _ ha

/-- A change of the Ledger in other places. -/
theorem setLedger (h : KeepsRing s u) {l : LedgerSt} (hw : l.written = u.ledger.written) (ha : l.acked = u.ledger.acked)
    (hd : l.dir = u.ledger.dir) : KeepsRing s (u.setLedger l) where
  written := hw.trans h.written
  acked := ha.trans h.acked
  threshold := (u.regN_setLedger _).trans h.threshold
  high := h.high
  dir := hd.trans h.dir

/-- Any cause but UNACKED_HIGH. -/
theorem raise (h : KeepsRing s u) (c : Nat × Nat) (hc : c ≠ I.LEDGER_UNACKED_HIGH) : KeepsRing s (u.raise c) where
  written := by rw [State.raise_ledger, h.written]
  acked := by rw [State.raise_ledger, h.acked]
  threshold := (u.regN_raise c (by simp only [R.HOST_PBAn, R.LEDGER_UNACKED_TH]; omega)).trans h.threshold
  high := by rw [State.raise_unackedHigh, h.high, decide_eq_false hc, Bool.or_false]
  dir := by rw [State.raise_ledger, h.dir]

theorem mirrorSend (h : KeepsRing s u) (k : Nat) (l : List Byte) : KeepsRing s (u.mirrorSend k l) where
  written := by rw [State.mirrorSend_ledger, h.written]
  acked := by rw [State.mirrorSend_ledger, h.acked]
  threshold := (u.regN_mirrorSend k l (by decide)).trans h.threshold
  high := by rw [← h.high, State.unackedHigh, State.unackedHigh, State.irqOf, State.irqOf, State.mirrorSend_irq]
  dir := by rw [State.mirrorSend_ledger, h.dir]

theorem mirrorRecord (h : KeepsRing s u) : KeepsRing s u.mirrorRecord := by
  unfold State.mirrorRecord
  split
  · exact h.mirrorSend _ _
  · exact h

/-- Both branches of a choice. -/
theorem ite {c : Prop} [Decidable c] (h : KeepsRing s u) (k : KeepsRing s v) : KeepsRing s (if c then u else v) := by
  split <;> assumption

/-! An event: whether it joins a record, is staged or is lost, only staging and the Ledger's counters change. -/

theorem lostEvent (h : KeepsRing s u) (code : Nat) : KeepsRing s (lostEvent u code) := by
  unfold Machine.lostEvent
  dsimp only
  split
  · refine raise ?_ I.LEDGER_LOST (by decide)
    exact h.setLedger rfl rfl rfl
  · split <;> exact h.setLedger rfl rfl rfl

theorem reportLoss (h : KeepsRing s u) (n tai e c : Nat) : KeepsRing s (u.reportLoss n tai e c) := by
  unfold State.reportLoss
  dsimp only
  split
  · refine raise ?_ I.LEDGER_LOST (by decide)
    exact h.setLedger rfl rfl rfl
  · exact h.setLedger rfl rfl rfl

theorem stageEvent (h : KeepsRing s u) {l : LedgerSt} (hw : l.written = u.ledger.written) (ha : l.acked = u.ledger.acked)
    (hd : l.dir = u.ledger.dir) (code src : Nat) (p : List Byte) (c : Bool) : KeepsRing s (u.stageEvent l code src p c) := by
  unfold State.stageEvent
  split
  · exact lostEvent (h.setLedger hw ha hd) _
  · exact mirrorRecord (h.setLedger hw ha hd)

theorem event (h : KeepsRing s u) (code src : Nat) (p : List Byte) : KeepsRing s (u.event code src p) := by
  unfold State.event
  split
  · exact h.setLedger rfl rfl rfl
  · split
    · exact h.setLedger rfl rfl rfl
    · exact h.stageEvent (l := u.ledger.counted.close code src) rfl rfl rfl _ _ _ _
    · exact h.stageEvent (l := u.ledger.counted) rfl rfl rfl _ _ _ _

theorem burst (h : KeepsRing s u) (code src : Nat) (p : List Byte) (n : Nat) : KeepsRing s (u.burst code src p n) := by
  refine event ?_ _ _ _
  exact h.setLedger rfl rfl rfl

theorem endBurst (h : KeepsRing s u) (code src : Nat) : KeepsRing s (u.endBurst code src) :=
  h.setLedger rfl rfl rfl

/-! A command's end. -/

theorem finish (h : KeepsRing s u) {b op : Nat} {r : CmdResult} (hr : r.state = u) : KeepsRing s (finish b op r) := by
  subst hr
  have hdr_ne : ∀ off, off < 0x100 → hdr b off ≠ R.LEDGER_UNACKED_TH := by
    intro off hoff
    simp only [hdr, R.LEDGER_UNACKED_TH]
    omega
  have hcmd := h.putReg (2 ^ 31 + op) (hdr_ne 0x40 (by decide))
  have hdone := (((h.putReg op (hdr_ne 0x40 (by decide))).putReg (2 ^ 31 + 2 ^ 16 * op + r.status) (hdr_ne 0x54 (by decide))).putReg r.r0
    (hdr_ne 0x58 (by decide))).putReg r.r1 (hdr_ne 0x5C (by decide))
  unfold Machine.finish
  split
  · exact hcmd.putReg _ (hdr_ne 0x54 (by decide))
  · dsimp only
    split
    · exact hdone.event _ _ _
    · exact hdone

end KeepsRing

/-- The header registers after a refusal: CMD, CMD_STATUS and the results are written, and the event that records it leaves them. -/
theorem finish_refuse_regN (b op st : Nat) (s : State) {off : Nat} (hoff : off < 0x200) (h4 : off % 4 = 0) :
    (finish b op (refuse s st)).regN (hdr b off) =
      ((((s.putReg (hdr b 0x40) op).putReg (hdr b 0x54) (2 ^ 31 + 2 ^ 16 * op + st)).putReg (hdr b 0x58) 0).putReg (hdr b 0x5C) 0).regN
        (hdr b off) := by
  have hnote := hdr_not_note b off hoff h4
  simp only [List.mem_cons, not_or] at hnote
  obtain ⟨hpba, hmirror, -⟩ := hnote
  unfold finish
  rw [if_neg (show ¬ (refuse s st).waits = true from Bool.false_ne_true)]
  dsimp only
  split
  · exact State.regN_event _ _ _ _ (Ne.symm hpba) (Ne.symm hmirror)
  · rfl

/-- A command that is refused: CMD_STATUS shows DONE with the status, the results read 0, and the Ledger's marks are as they were. -/
theorem refused_answers {b op st t : Nat} {s : State} {path : Path} {i : Nat → Path → Instr} {body : State → CmdResult}
    (he : exec (i t path) s = command t b op path body s) (hop : op < 256) (hst : st < 8) (hr : s.Ready path b)
    (hbody : body (s.issued t path b op) = refuse (s.issued t path b op) st) :
    Answers (exec (i t path) s) fun u =>
      u.regN (hdr b 0x54) = 2 ^ 31 + 2 ^ 16 * op + st ∧ u.results b = (0, 0) ∧ KeepsRing (s.issued t path b op) u := by
  refine ⟨finish b op (refuse (s.issued t path b op) st), ?_, ?_, ?_, (KeepsRing.refl _).finish rfl⟩
  · rw [he, command_ready hr t op body {}, hbody]
  · rw [finish_refuse_regN b op st _ (by decide) (by decide)]
    simp [State.regN_putReg, hdr]
    omega
  · rw [State.results, finish_refuse_regN b op st _ (by decide) (by decide), finish_refuse_regN b op st _ (by decide) (by decide)]
    simp [State.regN_putReg, hdr]

end Sys2Proof.Machine
end

section
/-!
PROOFS. Sys2Proof/Proofs/LedgerAck.lean: ACK, and UNACKED_HIGH at each write of a record (R410).
-/

namespace Sys2Proof.Machine

/-! ACK. -/

theorem cmdAck_of_inside {s : State} (h : s.ledger.acked ≤ s.argAcc ∧ s.argAcc < s.ledger.written + 1) :
    cmdAck s = ok (s.setLedger { s.ledger with acked := s.argAcc }) := by
  unfold cmdAck
  rw [if_neg (by omega)]

theorem cmdAck_of_outside {s : State} (h : s.argAcc < s.ledger.acked ∨ s.ledger.written + 1 ≤ s.argAcc) :
    cmdAck s = refuse s stBadArg := by
  unfold cmdAck
  rw [if_pos (by omega)]

/-- A command that changes nothing but the Ledger. -/
theorem finish_ok_setLedger (b op : Nat) (s : State) (l : LedgerSt) :
    (finish b op (ok (s.setLedger l))).ledger = l ∧ SameRegs s (finish b op (ok (s.setLedger l))) (cmdRegs b) := by
  refine ⟨?_, fun a ha => ?_⟩
  · rw [finish_ok rfl rfl]
    simp [ok]
  · rw [finish_regN rfl rfl ha]
    exact s.regN_setLedger a

/-! What a write of a record does before and after the record stands in the ring. -/

theorem State.setDomain_archive_on (s : State) : s.setDomain pdArchive 0 = if s.domain pdArchive = 0 then s else s.putDomain pdArchive 0 := by
  simp [State.setDomain, pdArchive, pdLaneC]

namespace KeepsRing

variable {s u : State}

theorem wakeArchive (h : KeepsRing s u) : KeepsRing s u.wakeArchive := by
  have hpower : KeepsRing s (u.setPower { u.power with archAt := u.bases.mono }) := h.other rfl rfl rfl
  have hdomain : ∀ {v : State}, KeepsRing s v → KeepsRing s (v.setDomain pdArchive 0) := by
    intro v hv
    rw [State.setDomain_archive_on]
    split
    · exact hv
    · exact hv.putReg _ (by decide)
  unfold State.wakeArchive
  dsimp only
  split
  · unfold State.showWoken State.domainEvent
    exact raise (((event (hdomain hpower) _ _ _).putReg _ (by decide)).count _ (by decide)) I.POWER_WOKEN (by decide)
  · exact hpower

theorem transientArchive (h : KeepsRing s u) (e : Nat) : KeepsRing s (u.transient fcArchive e) := by
  have helem : KeepsRing s (u.putElem e { u.elem e with transient := (u.elem e).transient + 1 }) := h.other rfl rfl rfl
  exact raise (event ((helem.count 1 (a := R.FAULT_TRANSIENT) (by decide)).count 1 (a := R.FAULT_ARCHIVE_RETRY) (by decide)) _ _ _)
    I.FAULT_TRANSIENT (by decide)

/-- The registers of a queue stand below those of the Ledger. -/
theorem putLevel (h : KeepsRing s u) {q : Nat} (hq : q < 32) (x : QueueSt) : KeepsRing s (u.putLevel q x) := by
  have hlevel : R.QUEUE_Qn_LEVEL q ≠ R.LEDGER_UNACKED_TH := by simp only [R.QUEUE_Qn_LEVEL, R.LEDGER_UNACKED_TH]; omega
  have hstatus : R.QUEUE_Qn_WM_STATUS q ≠ R.LEDGER_UNACKED_TH := by simp only [R.QUEUE_Qn_WM_STATUS, R.LEDGER_UNACKED_TH]; omega
  have hput : KeepsRing s (u.putQueue q x) := h.other rfl rfl rfl
  have hcross : ∀ {v : State} (c : Bool) (f g : Fld) (n : Nat), f.addr = R.QUEUE_Qn_WM_STATUS q → g.addr = R.QUEUE_Qn_WM_STATUS q →
      KeepsRing s v → KeepsRing s (if c = true then (v.putFld f 1).putFld g n else v) := by
    intro v c f g n hf hg hv
    exact ite ((hv.putFld _ (hf ▸ hstatus)).putFld _ (hg ▸ hstatus)) hv
  unfold State.putLevel
  dsimp only
  refine ite (raise ?_ I.QUEUE_WATERMARK (by decide)) ?_ <;>
    exact ((hcross _ _ _ _ rfl rfl (hcross _ _ _ _ rfl rfl (hput.putReg _ hlevel))).putFld _ hstatus).putFld _ hstatus

theorem commit (h : KeepsRing s u) {q : Nat} (hq : q < 32) (p : List Byte) : KeepsRing s (u.commit q p).1 := by
  have hlost : R.QUEUE_Qn_LOST q ≠ R.LEDGER_UNACKED_TH := by simp only [R.QUEUE_Qn_LOST, R.LEDGER_UNACKED_TH]; omega
  have hpackets : R.QUEUE_Qn_PACKETS q ≠ R.LEDGER_UNACKED_TH := by simp only [R.QUEUE_Qn_PACKETS, R.LEDGER_UNACKED_TH]; omega
  unfold State.commit
  split
  · exact h
  · dsimp only
    split
    · exact raise ((h.count 1 hlost).burst _ _ _ _) I.QUEUE_LOST (by decide)
    · exact count (endBurst (h.putLevel hq _) _ _) 1 hpackets

/-- The copy goes to a queue whose number has five bits. -/
theorem copyRecord (h : KeepsRing s u) (r : LedRec) : KeepsRing s (u.copyRecord r) := by
  have hq : u.fld F.LEDGER_QUEUES_COPY_QUEUE < 32 := bits_lt _ 4 0
  have hcommit := h.commit hq r.full
  unfold State.copyRecord
  split
  · exact h
  · dsimp only
    split
    · exact hcommit
    · exact hcommit.setLedger rfl rfl rfl

theorem unstage (h : KeepsRing s u) (acc : Nat) : KeepsRing s (u.unstage acc) := by
  unfold State.unstage
  dsimp only
  split
  · split
    · split
      · exact setLedger (setLedger h rfl rfl rfl) rfl rfl rfl
      · refine reportLoss ?_ _ _ _ _
        exact h.setLedger rfl rfl rfl
    · exact h.setLedger rfl rfl rfl
  · exact h.setLedger rfl rfl rfl

end KeepsRing

/-! The write itself moves the written watermark; of what R410 compares it changes nothing else. -/

/-- The state with another written watermark. -/
def State.setWritten (s : State) (n : Nat) : State := s.setLedger { s.ledger with written := n }

theorem KeepsMarks.setWritten {s u : State} (h : KeepsMarks s u) (n : Nat) : KeepsMarks (s.setWritten n) (u.setWritten n) where
  written := rfl
  acked := h.acked
  threshold := by simpa [State.setWritten] using h.threshold
  high := h.high

theorem KeepsMarks.eraseBlock {s u : State} (h : KeepsMarks s u) (b : Nat) : KeepsMarks s (u.eraseBlock b) := by
  have herased : ∀ x l, l.written = u.ledger.written → l.acked = u.ledger.acked → KeepsMarks s ((u.setArchive x).setLedger l) :=
    fun x l hw ha => ⟨hw.trans h.written, ha.trans h.acked, by simpa using h.threshold, h.high⟩
  unfold State.eraseBlock
  dsimp only
  split
  · exact herased _ _ rfl rfl
  · refine KeepsMarks.trans ?_ (((KeepsRing.refl _).event _ _ _).raise I.LEDGER_OVERWRITE (by decide)).toKeepsMarks
    exact herased _ _ rfl rfl

theorem State.openPlace_keepsMarks (s : State) : KeepsMarks s s.openPlace := by
  have h := (KeepsRing.refl s).toKeepsMarks
  unfold State.openPlace
  dsimp only
  split
  · exact h.eraseBlock _
  · split
    · exact h
    · refine KeepsMarks.eraseBlock (KeepsRing.toKeepsMarks ?_) _
      exact (KeepsRing.refl s).setLedger rfl rfl rfl

theorem State.putRecord_keepsMarks (s : State) (r : LedRec) : KeepsMarks (s.setWritten r.acc) (s.putRecord r) := by
  refine (s.openPlace_keepsMarks.setWritten r.acc).trans ?_
  unfold State.putRecord State.setWritten
  exact ⟨rfl, rfl, by simp, by simp [State.unackedHigh, State.irqOf]⟩

/-- A write whose read-back fails at most once puts the record at its place. -/
theorem State.writeRecord_keepsMarks (s : State) (r : LedRec) {fails : Nat} (hf : fails ≤ 1) :
    KeepsMarks (s.setWritten r.acc) (s.writeRecord r fails) := by
  have hopen := s.openPlace_keepsMarks
  unfold State.writeRecord
  dsimp only
  split
  · exact (hopen.setWritten _).trans (State.putRecord_keepsMarks _ r)
  · rw [if_pos (by omega)]
    refine ((hopen.trans ?_).setWritten _).trans (State.putRecord_keepsMarks _ r)
    refine (KeepsRing.transientArchive (KeepsRing.event ?_ _ _ _) _).toKeepsMarks
    exact (KeepsRing.refl _).setLedger rfl rfl rfl

/-- R410: after a write the cause is raised where the written number is at least the threshold above the acknowledged one. -/
theorem State.afterWrite_marks (s : State) :
    s.afterWrite.ledger = s.ledger ∧ s.afterWrite.unackedHigh =
      (decide (s.regN R.LEDGER_UNACKED_TH ≤ s.ledger.written - s.ledger.acked) || s.unackedHigh) := by
  have hsent := (KeepsRing.refl s).mirrorSend 5 (leBytes 6 s.ledger.next ++ leBytes 6 s.ledger.written)
  unfold State.afterWrite
  dsimp only
  rw [hsent.threshold, hsent.written, hsent.acked]
  split
  · next hle => simp [State.raise_unackedHigh, hle]
  · next hlt => simp [hsent.high, hlt]

/-- A record that may be written becomes the last written one, and the cause follows R410. -/
theorem State.recordWritten_marks {s : State} {r : LedRec} {fails : Nat} (hf : fails ≤ 1) (hfirst : s.ledger.first = some r)
    (hclosed : r.isOpen = false) (hprot : s.isSet F.POWER_STATUS_WRITE_PROTECT = false) (hon : s.domain pdArchive ≠ 2) :
    (s.recordWritten fails).ledger.written = r.acc ∧ (s.recordWritten fails).ledger.acked = s.ledger.acked ∧
      (s.recordWritten fails).unackedHigh =
        (decide (s.regN R.LEDGER_UNACKED_TH ≤ (s.recordWritten fails).ledger.written - (s.recordWritten fails).ledger.acked) ||
          s.unackedHigh) := by
  have hrun : s.recordWritten fails = (((s.wakeArchive.writeRecord r fails).unstage r.acc).copyRecord r).afterWrite := by
    simp [State.recordWritten, hfirst, hclosed, hprot, hon]
  have hwake := (KeepsRing.refl s).wakeArchive.toKeepsMarks
  have hkeeps : KeepsMarks (s.setWritten r.acc) (((s.wakeArchive.writeRecord r fails).unstage r.acc).copyRecord r) :=
    ((hwake.setWritten r.acc).trans (State.writeRecord_keepsMarks _ r hf)).trans
      (((KeepsRing.refl _).unstage r.acc).copyRecord r).toKeepsMarks
  obtain ⟨hledger, hhigh⟩ := State.afterWrite_marks (((s.wakeArchive.writeRecord r fails).unstage r.acc).copyRecord r)
  rw [hrun, hledger, hhigh, hkeeps.threshold, hkeeps.high]
  exact ⟨hkeeps.written, hkeeps.acked, by simp [State.setWritten, State.unackedHigh, State.irqOf]⟩

/-- Settles O57: ACK by its two cases, and RECORD_WRITTEN by what the write, the queue's copy and the message to the partner leave alone. -/
theorem ackAndUnackedHigh : Obligations.AckAndUnackedHigh := by
  unfold Obligations.AckAndUnackedHigh
  refine ⟨?_, ?_, ?_⟩
  · refine completes_ok (body := fun _ => cmdAck) (fun _ _ _ => rfl) (by decide) fun _ w hw => ⟨_, cmdAck_of_inside hw, ?_⟩
    exact finish_ok_setLedger 24 2 w _
  · intro s t path hready hout
    obtain ⟨u, hu, hstatus, -, hkeeps⟩ :=
      refused_answers (i := Instr.ack) (body := cmdAck) rfl (by decide) (by decide) hready (cmdAck_of_outside hout)
    exact ⟨u, hu, hstatus, hkeeps.acked⟩
  · intro r fails hf
    refine happens (f := fun s => s.recordWritten fails) (fun _ _ => rfl) ?_
    rintro w ⟨hfirst, hclosed, hprot, hon⟩
    exact State.recordWritten_marks hf hfirst hclosed hprot hon

end Sys2Proof.Machine
end

section
/-!
PROOFS. Sys2Proof/Proofs/LedgerVerify.lean: VERIFY, which checks the colophons of written records, and READ of one of them (R411).
-/

namespace Sys2Proof.Machine

/-! What VERIFY finds. -/

/-- Does the colophon of the written record `acc` fail? -/
def State.colophonFails (s : State) (acc : Nat) : Bool :=
  (s.ledger.find acc).any fun p => !colophonOk (memRead 0xFF s.archive (ledgerAddr p.1 + 64 * p.2) 64)

/-- How many records VERIFY checks: as many as asked for, and none beyond the written one. -/
def State.verifyCount (s : State) : Nat := min (s.arg 24 2) (s.ledger.written + 1 - s.argAcc)

/-- The failing records, by their distance from the first one checked. -/
def State.failures (s : State) : List Nat := (List.range s.verifyCount).filter fun i => s.colophonFails (s.argAcc + i)

/-- RESULT1 of VERIFY: the low word of the first failing number, or 0. -/
def State.firstFailure (s : State) : Nat := (s.failures.head?.map fun i => (s.argAcc + i) % 2 ^ 32).getD 0

/-- The state with a COLOPHON_FAIL event for each failing record. -/
def State.recordFailures (s : State) : State :=
  s.failures.foldl (fun u i => u.event E.LEDGER_COLOPHON_FAIL noSource (leBytes 6 (s.argAcc + i))) s.wakeArchive

theorem State.failures_length_lt (s : State) : s.failures.length < 2 ^ 32 :=
  calc s.failures.length ≤ (List.range s.verifyCount).length := List.length_filter_le _ _
    _ = s.verifyCount := List.length_range
    _ ≤ s.arg 24 2 := Nat.min_le_left _ _
    _ < 2 ^ 32 := regN_lt _ _

theorem State.firstFailure_eq_find (s : State) : s.firstFailure =
    (((List.range s.verifyCount).find? fun i => s.colophonFails (s.argAcc + i)).map fun i => (s.argAcc + i) % 2 ^ 32).getD 0 := by
  rw [State.firstFailure, State.failures, List.head?_filter]

theorem State.firstFailure_lt (s : State) : s.firstFailure < 2 ^ 32 := by
  unfold State.firstFailure
  cases s.failures.head? with
  | none => exact Nat.two_pow_pos 32
  | some i => exact Nat.mod_lt _ (by decide)

/-- Where only one record is to be checked and it fails, it is the one failure. -/
theorem State.failures_of_one {s : State} (hcount : s.verifyCount = 1) (hfail : s.colophonFails s.argAcc = true) : s.failures = [0] := by
  rw [State.failures, hcount]
  simp [List.range_one, hfail]

/-! The command. -/

/-- A start from the oldest number to the written one, with a count of 1 to 65,536, is taken. -/
theorem cmdVerify_of_inside {s : State} (hlo : s.ledger.oldest ≤ s.argAcc) (hhi : s.argAcc ≤ s.ledger.written) (hk : 1 ≤ s.arg 24 2)
    (hk' : s.arg 24 2 ≤ 65536) : cmdVerify s = { state := s.recordFailures, r0 := s.failures.length, r1 := s.firstFailure } := by
  unfold cmdVerify
  dsimp only
  rw [if_neg (by omega), List.filter_congr (q := fun i => s.colophonFails (s.argAcc + i)) ?_, CmdResult.mk.injEq]
  refine ⟨rfl, rfl, rfl, ?_, rfl⟩
  unfold State.firstFailure
  split
  · next hbad =>
    have hfail : s.failures = _ := hbad
    rw [hfail]
    rfl
  · next hbad =>
    have hnone : s.failures = [] := hbad
    rw [hnone]
    rfl
  · intro i _
    unfold State.colophonFails
    cases s.ledger.find (s.argAcc + i) <;> rfl

theorem cmdVerify_of_outside {s : State} (h : s.argAcc < s.ledger.oldest ∨ s.ledger.written < s.argAcc) :
    cmdVerify s = refuse s stBadArg := by
  unfold cmdVerify
  dsimp only
  rw [if_pos (by omega)]

/-! What the records of the failures change. -/

/-- An Archive that is ON is not woken. -/
theorem State.wakeArchive_of_on {s : State} (h : s.domain pdArchive = 0) :
    s.wakeArchive = s.setPower { s.power with archAt := s.bases.mono } := by
  have hon : (s.setPower { s.power with archAt := s.bases.mono }).domain pdArchive = 0 := by simpa [State.domain] using h
  unfold State.wakeArchive
  dsimp only
  rw [if_neg (by rw [hon]; decide)]

/-- Events, whatever their payloads, change no byte of the Archive, no place of a record and no register but their own. -/
theorem State.foldl_event_keeps {α : Type} (code src : Nat) (p : α → List Byte) (l : List α) (s : State) :
    (l.foldl (fun u x => u.event code src (p x)) s).archive = s.archive ∧
      (l.foldl (fun u x => u.event code src (p x)) s).ledger.dir = s.ledger.dir ∧
      SameRegs s (l.foldl (fun u x => u.event code src (p x)) s) eventRegs := by
  induction l generalizing s with
  | nil => exact ⟨rfl, rfl, fun _ _ => rfl⟩
  | cons x l ih =>
    obtain ⟨harchive, hdir, hregs⟩ := ih (s.event code src (p x))
    refine ⟨harchive.trans ((Keeps.refl s).event _ _ _).archive, hdir.trans ((KeepsRing.refl s).event _ _ _).dir, fun a ha => ?_⟩
    have hne := ha
    simp only [List.mem_cons, List.not_mem_nil, or_false, not_or] at hne
    exact (hregs a ha).trans (s.regN_event _ _ _ (Ne.symm hne.1) (Ne.symm hne.2))

theorem State.recordFailures_keeps {s : State} (hon : s.domain pdArchive = 0) :
    s.recordFailures.archive = s.archive ∧ s.recordFailures.ledger.dir = s.ledger.dir ∧ SameRegs s s.recordFailures eventRegs := by
  have h := State.foldl_event_keeps E.LEDGER_COLOPHON_FAIL noSource (fun i => leBytes 6 (s.argAcc + i)) s.failures s.wakeArchive
  rw [State.wakeArchive_of_on hon] at h
  unfold State.recordFailures
  rw [State.wakeArchive_of_on hon]
  obtain ⟨harchive, hdir, hregs⟩ := h
  exact ⟨harchive, hdir, fun a ha => (hregs a ha).trans (s.regN_setPower a)⟩

/-- An event that repeats no staged record is staged behind the others. -/
theorem State.event_staging {s : State} {code src : Nat} (p : List Byte) (hopen : s.ledger.closed = false)
    (hnew : newest s.ledger.staging code src = none) (hroom : s.ledger.staging.length < 4095) :
    (s.event code src p).ledger.staging = s.ledger.staging ++ [newRecord s code src p false] := by
  have hkind : joinKind s code src p = 0 := by simp [joinKind, hnew]
  have hfree : ¬ 4095 ≤ s.ledger.counted.staging.length := by simpa [LedgerSt.counted] using hroom
  unfold State.event
  rw [hopen, hkind, if_neg Bool.false_ne_true]
  change (s.stageEvent s.ledger.counted code src p false).ledger.staging = _
  rw [State.stageEvent, if_neg hfree, State.mirrorRecord_ledger]
  rfl

/-- What VERIFY leaves where it is taken: the two results, the Archive, the places of the records and every register but its own. -/
theorem finish_cmdVerify {s : State} (hlo : s.ledger.oldest ≤ s.argAcc) (hhi : s.argAcc ≤ s.ledger.written) (hk : 1 ≤ s.arg 24 2)
    (hk' : s.arg 24 2 ≤ 65536) (hon : s.domain pdArchive = 0) :
    (finish 24 4 (cmdVerify s)).results 24 = (s.failures.length, s.firstFailure) ∧
      (finish 24 4 (cmdVerify s)).archive = s.archive ∧ (finish 24 4 (cmdVerify s)).ledger = s.recordFailures.ledger ∧
      (finish 24 4 (cmdVerify s)).ledger.dir = s.ledger.dir ∧ SameRegs s (finish 24 4 (cmdVerify s)) (eventRegs ++ cmdRegs 24) := by
  obtain ⟨harchive, hdir, hregs⟩ := State.recordFailures_keeps hon
  have hledger : (finish 24 4 (cmdVerify s)).ledger = s.recordFailures.ledger := by
    rw [cmdVerify_of_inside hlo hhi hk hk', finish_ok rfl rfl]
    simp only [State.putReg_ledger]
  refine ⟨?_, ?_, hledger, hledger ▸ hdir, fun a ha => ?_⟩
  · rw [cmdVerify_of_inside hlo hhi hk hk', finish_results rfl rfl, Nat.mod_eq_of_lt s.failures_length_lt, Nat.mod_eq_of_lt s.firstFailure_lt]
  · rw [(finish_keeps _).archive, cmdVerify_of_inside hlo hhi hk hk']
    exact harchive
  · rw [List.mem_append, not_or] at ha
    rw [cmdVerify_of_inside hlo hhi hk hk', finish_regN rfl rfl ha.2]
    exact hregs a ha.1

/-- A VERIFY that is taken completes. -/
theorem cmdVerify_done {s : State} (hlo : s.ledger.oldest ≤ s.argAcc) (hhi : s.argAcc ≤ s.ledger.written) (hk : 1 ≤ s.arg 24 2)
    (hk' : s.arg 24 2 ≤ 65536) : (cmdVerify s).waits = false ∧ (cmdVerify s).status = 0 := by
  rw [cmdVerify_of_inside hlo hhi hk hk']
  exact ⟨rfl, rfl⟩

/-- The low word of the accession number in the arguments is ARG0. -/
theorem State.argAcc_low (s : State) : s.argAcc % 2 ^ 32 = s.arg 24 0 := by
  have hlt : s.arg 24 0 < 2 ^ 32 := regN_lt _ _
  unfold State.argAcc
  omega

/-- The one record checked fails: it is counted, named and recorded. -/
theorem finish_cmdVerify_one {s : State} (hlo : s.ledger.oldest ≤ s.argAcc) (hhi : s.argAcc ≤ s.ledger.written) (hk : s.arg 24 2 = 1)
    (hon : s.domain pdArchive = 0) (hfail : s.colophonFails s.argAcc = true) (hopen : s.ledger.closed = false)
    (hnew : newest s.ledger.staging E.LEDGER_COLOPHON_FAIL noSource = none) (hroom : s.ledger.staging.length < 4095) :
    (finish 24 4 (cmdVerify s)).results 24 = (1, s.arg 24 0) ∧ (finish 24 4 (cmdVerify s)).ledger.staging =
      s.ledger.staging ++ [newRecord s E.LEDGER_COLOPHON_FAIL noSource (leBytes 6 s.argAcc) false] := by
  have hone : s.failures = [0] := State.failures_of_one (by unfold State.verifyCount; omega) hfail
  obtain ⟨hresults, -, hledger, -, -⟩ := finish_cmdVerify hlo hhi (by omega) (by omega) hon
  constructor
  · rw [hresults, State.firstFailure, hone]
    exact congrArg (Prod.mk 1) s.argAcc_low
  · rw [hledger, State.recordFailures, hone, State.wakeArchive_of_on hon]
    exact State.event_staging _ hopen hnew hroom

/-! READ of a written record. -/

/-- Each of the registers that READ fills holds what was put there. -/
theorem regN_foldl_putReg_rec (f : Nat → Nat) (n : Nat) (s : State) {i : Nat} (hi : i < n) :
    ((List.range n).foldl (fun s i => s.putReg (R.LEDGER_RECn i) (f i)) s).regN (R.LEDGER_RECn i) = f i % 2 ^ 32 := by
  induction n with
  | zero => omega
  | succ n ih =>
    rw [List.range_succ, List.foldl_append, List.foldl_cons, List.foldl_nil]
    rcases Nat.lt_succ_iff_lt_or_eq.mp hi with hlt | rfl
    · rw [State.regN_putReg_other _ _ (by simp only [R.LEDGER_RECn]; omega), ih hlt]
    · exact State.regN_putReg_same _ _ _

theorem leNat_lt (l : List Byte) : leNat l < 256 ^ l.length := by
  induction l with
  | nil => exact Nat.one_pos
  | cons b l ih =>
    have hb : b.toNat < 256 := b.isLt
    rw [leNat, List.length_cons, pow_succ]
    omega

theorem leAt_lt (l : List Byte) (off n : Nat) : leAt l off n < 256 ^ n :=
  (leNat_lt _).trans_le (Nat.pow_le_pow_right (by decide) (List.length_take_le _ _))

/-- A record that is not staged and has its place in the ring is read from there. -/
theorem State.record_of_written {s : State} {acc : Nat} {p : Nat × Nat} (hplace : s.ledger.find acc = some p)
    (hunstaged : (s.ledger.staging ++ s.ledger.lost.toList).find? (fun r => r.acc == acc) = none) :
    s.record acc = some (memRead 0xFF s.archive (ledgerAddr p.1 + 64 * p.2) 64, true) := by
  simp [State.record, hplace, hunstaged]

/-- READ of a number in the ledger whose record is there. -/
theorem cmdRead_of_record {s : State} {b : List Byte} {written : Bool} (hlo : s.ledger.oldest ≤ s.argAcc) (hhi : s.argAcc < s.ledger.next)
    (hrecord : s.record s.argAcc = some (b, written)) : cmdRead s =
      { state := (List.range 16).foldl (fun s i => s.putReg (R.LEDGER_RECn i) (leAt b (4 * i) 4)) s.wakeArchive
        r0 := if written then 1 else 0 } := by
  unfold cmdRead
  dsimp only
  rw [if_neg (by omega), hrecord]

theorem finish_cmdRead_regN {s : State} {b : List Byte} {written : Bool} (hlo : s.ledger.oldest ≤ s.argAcc) (hhi : s.argAcc < s.ledger.next)
    (hrecord : s.record s.argAcc = some (b, written)) {i : Nat} (hi : i < 16) :
    (finish 24 1 (cmdRead s)).regN (R.LEDGER_RECn i) = leAt b (4 * i) 4 := by
  have hother : R.LEDGER_RECn i ∉ cmdRegs 24 := by
    simp only [R.LEDGER_RECn, hdr, List.mem_cons, List.not_mem_nil, or_false, not_or]
    omega
  rw [cmdRead_of_record hlo hhi hrecord, finish_regN rfl rfl hother]
  exact (regN_foldl_putReg_rec (fun i => leAt b (4 * i) 4) 16 s.wakeArchive hi).trans (Nat.mod_eq_of_lt (leAt_lt _ _ _))

/-- Settles O58: VERIFY by its start, inside the written records or outside, with the case of one failing record; and READ of a written
record, which never looks at the colophon. -/
theorem verifyChecksColophons : Obligations.VerifyChecksColophons := by
  unfold Obligations.VerifyChecksColophons
  refine ⟨?_, ?_, ?_, ?_⟩
  · refine completes (body := fun _ => cmdVerify) (fun _ _ _ => rfl) (by decide) ?_
    rintro - w ⟨hlo, hhi, hk, hk', hon⟩
    obtain ⟨hwaits, hstatus⟩ := cmdVerify_done hlo hhi hk hk'
    obtain ⟨hresults, harchive, -, hdir, hregs⟩ := finish_cmdVerify hlo hhi hk hk' hon
    rw [State.firstFailure_eq_find] at hresults
    exact ⟨hwaits, hstatus, hresults, harchive, hdir, hregs⟩
  · intro s t path hready hout
    obtain ⟨u, hu, hstatus, hresults, -⟩ :=
      refused_answers (i := Instr.verify) (body := cmdVerify) rfl (by decide) (by decide) hready (cmdVerify_of_outside hout)
    exact ⟨u, hu, hstatus, hresults⟩
  · refine completes (body := fun _ => cmdVerify) (fun _ _ _ => rfl) (by decide) ?_
    rintro - w ⟨hlo, hhi, hk, hon, ⟨p, hp, hbad⟩, hopen, hnew, hroom⟩
    have hplace : w.ledger.find w.argAcc = some p := Option.mem_toList.mp hp
    have hfail : w.colophonFails w.argAcc = true := by rw [State.colophonFails, hplace, Option.any_some, hbad, Bool.not_false]
    obtain ⟨hwaits, hstatus⟩ := cmdVerify_done hlo hhi (by omega) (by omega)
    exact ⟨hwaits, hstatus, finish_cmdVerify_one hlo hhi hk hon hfail hopen hnew hroom⟩
  · intro p
    refine completes (body := fun _ => cmdRead) (fun _ _ _ => rfl) (by decide) ?_
    rintro - w ⟨hlo, hhi, hplace, hunstaged, -⟩
    have hrecord := State.record_of_written hplace hunstaged
    have hread := cmdRead_of_record hlo hhi hrecord
    exact ⟨by rw [hread], by rw [hread], fun i hi => finish_cmdRead_regN hlo hhi hrecord hi⟩

end Sys2Proof.Machine
end

section
/-!
PROOFS of the family 'other'. They are elaborated one after another: side by side, together with
the text before them, they would need more memory than the check allows.
-/
set_option Elab.async false

section
/-!
PROOFS. Sys2Proof/Proofs/WholeMachine.lean: one step, what no command but the power-on reset writes, MONO, and the reset state.
-/

namespace Sys2Proof.Machine

/-! One step. -/

theorem step_of_pending {s : State} {c : Instr} {rest : List Instr} (h : s.pending = c :: rest) :
    step s = exec c (s.setPending rest) := by simp [step, h]

theorem step_of_empty {s : State} (h : s.pending = []) : step s = .next s := by simp [step, h]

/-- Settles O1: the two cases of the queue. -/
theorem stepRunsTheFrontCommand : Obligations.StepRunsTheFrontCommand :=
  ⟨fun _ _ _ h => step_of_pending h, fun _ h => step_of_empty h⟩

/-- Settles O2: the frame of each command, read part by part. -/
theorem everyCommandKeepsTheOtherParts : Obligations.EveryCommandKeepsTheOtherParts := by
  intro i s hs hi
  obtain ⟨u, hu, hframe⟩ := exec_frame hs i hi
  exact ⟨u, hu, fun p hp => hframe p (partSet_not _ _ hp)⟩

/-- A command that is no power-on reset, as `Instr.isPowerOn` decides it. -/
theorem isPowerOn_eq_false {i : Instr} (h : ∀ t bootSel modid claimMode pfwLow, i ≠ .powerOnReset t bootSel modid claimMode pfwLow) :
    i.isPowerOn = false := by
  cases i
  case powerOnReset => exact absurd rfl (h _ _ _ _ _)
  all_goals rfl

/-- Settles O3: what waits ahead of a power-on reset leaves the module as it is (R426), so only the queue gets shorter. -/
theorem internalResetIsKept : Obligations.InternalResetIsKept := by
  rintro s u ⟨hheld, hwait⟩ hstep
  cases hq : s.pending with
  | nil =>
    rw [step_of_empty hq] at hstep
    cases hstep
    exact ⟨hheld, hwait⟩
  | cons c rest =>
    rw [hq] at hwait
    rw [step_of_pending hq, exec_still (s := s.setPending rest) hheld c (isPowerOn_eq_false (hwait c List.mem_cons_self))] at hstep
    cases hstep
    exact ⟨hheld, fun d hd => hwait d (List.mem_cons_of_mem _ hd)⟩

/-! The time of a command. -/

theorem mono_not_mem_writes {i : Instr} (h : i.isPowerOn = false) : Part.mono ∉ i.writes := by
  cases i
  case powerOnReset => cases h
  all_goals exact of_decide_eq_true rfl

/-- MONO at a command's time: `t` while PD_TIME is ON, and the last step of 40 ns up to it while it is not (R70). -/
theorem State.at_mono (s : State) (t : Nat) :
    (s.at t).bases.mono = s.bases.mono + if s.domain pdTime = 0 then t - s.bases.mono else (t - s.bases.mono) / 40 * 40 := by
  unfold State.at advanceBases
  by_cases h : s.domain pdTime = 0 <;> simp [h]

theorem State.mono_le_at (s : State) (t : Nat) : s.bases.mono ≤ (s.at t).bases.mono := by rw [s.at_mono]; omega

theorem State.at_mono_le (s : State) (t : Nat) : (s.at t).bases.mono ≤ max s.bases.mono t := by rw [s.at_mono]; split <;> omega

theorem State.at_mono_of_on {s : State} (t : Nat) (h : s.domain pdTime = 0) : (s.at t).bases.mono = max s.bases.mono t := by
  rw [s.at_mono, if_pos h]; omega

/-- Settles O6: no such command writes MONO, so it stands where the command's time took it. -/
theorem monoNeverMovesBackward : Obligations.MonoNeverMovesBackward := by
  intro i s u hi hs hu
  have hmono : u.bases.mono = (s.at i.time).bases.mono := exec_same hu hs hi (mono_not_mem_writes hi)
  rw [hmono]
  exact ⟨s.mono_le_at _, s.at_mono_le _, s.at_mono_of_on _⟩

theorem boot_not_mem_writes {i : Instr} (h : i.isPowerOn = false) : Part.boot ∉ i.writes := by
  cases i
  case powerOnReset => cases h
  all_goals exact of_decide_eq_true rfl

theorem keyHashes_not_mem_writes (i : Instr) : Part.keyHashes ∉ i.writes := by
  cases i <;> exact of_decide_eq_true rfl

/-- Settles O7: in internal reset nothing changes; outside it no command but the power-on reset writes these parts. -/
theorem strapsAndFusesStay : Obligations.StrapsAndFusesStay := by
  intro i s u hi hu
  cases hs : s.held with
  | true =>
    rw [exec_still hs i hi] at hu
    cases hu
    exact ⟨rfl, rfl⟩
  | false => exact ⟨exec_same hu hs hi (boot_not_mem_writes hi), exec_same hu hs hi (keyHashes_not_mem_writes i)⟩


/-- At reset no register stands in the table, so each holds its reset value. -/
theorem State.reset_reg (a : Nat) : State.reset.reg a = RegMap.resetValue a := rfl

/-- CMD_STATUS of each block with the header resets to DONE. -/
theorem resetValue_cmdStatus : ∀ b : Fin 16, (RegMap.resetValue (hdr b 0x54)).toNat = 2 ^ 31 := by decide

/-- Settles O5: with no table of registers the reset values decide; both memories are empty. -/
theorem resetState : Obligations.ResetState :=
  ⟨State.reset_reg, rfl, reset_memory_wf, fun _ => ⟨rfl, rfl⟩, by decide, by decide, fun b hb => resetValue_cmdStatus ⟨b, hb⟩⟩

end Sys2Proof.Machine
end

section
/-!
PROOFS. Sys2Proof/Proofs/MemoryRules.lean: the canonical form of both memories: what leaves it, and the rules for operations given as functions.
-/

namespace Sys2Proof.Machine

/-- An operation that writes neither memory leaves their form as it is. -/
theorem memoryOk_iff {u v : State} (h : ∀ {s : State}, Frame 0xfffffff9ff s v ↔ Frame 0xfffffff9ff s u) : v.MemoryOk ↔ u.MemoryOk := by
  have hframe : Frame 0xfffffff9ff u v := h.mpr (Frame.refl _ _)
  have harchive : v.archive = u.archive := hframe .archive rfl
  have hstk : v.stk = u.stk := hframe .stk rfl
  unfold State.MemoryOk
  rw [harchive, hstk]

theorem memoryOk_ite {c : Prop} [Decidable c] {u v : State} : (if c then u else v).MemoryOk ↔ if c then u.MemoryOk else v.MemoryOk := by
  split <;> rfl

theorem State.MemoryOk.foldl {α : Type} {f : State → α → State} (h : ∀ u x, u.MemoryOk → (f u x).MemoryOk) {l : List α} :
    ∀ {u : State}, u.MemoryOk → (l.foldl f u).MemoryOk := by
  induction l with
  | nil => exact fun h => h
  | cons x l ih => exact fun hu => ih (h _ x hu)

theorem State.MemoryOk.noStk {u : State} (h : u.MemoryOk) : (u.setStk []).MemoryOk := ⟨h.1, rfl⟩
theorem State.MemoryOk.clearStk {u : State} {a n : Nat} (h : u.MemoryOk) : (u.setStk (memClear u.stk a n)).MemoryOk :=
  ⟨h.1, wf_memClear h.2 a n⟩
theorem State.MemoryOk.storeStk {u : State} {a : Nat} {l : List Byte} (h : u.MemoryOk) :
    (u.setStk (memStore (ramDefault 0) u.stk a l)).MemoryOk := ⟨h.1, wf_memStore (d := 0) l a h.2⟩
theorem State.MemoryOk.clearArchive {u : State} {a n : Nat} (h : u.MemoryOk) : (u.setArchive (memClear u.archive a n)).MemoryOk :=
  ⟨wf_memClear h.1 a n, h.2⟩
theorem State.MemoryOk.storeArchive {u : State} {a : Nat} {l : List Byte} (h : u.MemoryOk) :
    (u.setArchive (memStore 0xFF u.archive a l)).MemoryOk := ⟨wf_memStore (d := 0xFF) l a h.1, h.2⟩

theorem State.MemoryOk.foldlFst {α β : Type} {f : State × β → α → State × β} (h : ∀ u b x, u.MemoryOk → (f (u, b) x).1.MemoryOk)
    {l : List α} : ∀ {a : State × β}, a.1.MemoryOk → (l.foldl f a).1.MemoryOk := by
  induction l with
  | nil => exact fun h => h
  | cons x l ih => exact fun ha => ih (h _ _ x ha)

theorem Keeps.memoryOk {s u : State} (k : Keeps s u) (h : s.MemoryOk) : u.MemoryOk := by
  unfold State.MemoryOk
  rw [k.archive, k.stk]
  exact h

theorem State.MemoryOk.getD {u : State} {o : Option State} (ho : ∀ v, o = some v → v.MemoryOk) (h : u.MemoryOk) : (o.getD u).MemoryOk := by
  cases o with
  | none => exact h
  | some v => exact ho v rfl

theorem State.MemoryOk.onCell {u : State} {n : Nat} {l : List Byte} {types : List Nat} {f : State → State}
    (hf : ∀ w, w.MemoryOk → (f w).MemoryOk) (h : u.MemoryOk) : (u.onCell n l types f).MemoryOk := by
  unfold State.onCell
  split
  · exact h
  · split
    · exact (memoryOk_iff (Frame.badCell rfl)).mpr h
    · split
      · exact hf _ ((memoryOk_iff (Frame.cellHeard rfl)).mpr h)
      · exact h

theorem State.MemoryOk.issue {u : State} {b op : Nat} {path : Path} {body : State → CmdResult} (hb : ∀ w, w.MemoryOk → (body w).state.MemoryOk)
    (h : u.MemoryOk) : (issue b op path body u).MemoryOk := by
  unfold Machine.issue
  split
  · exact (memoryOk_iff (Frame.reject rfl)).mpr h
  · exact (finish_keeps _).memoryOk (hb _ h)

theorem State.MemoryOk.access {u : State} {path : Path} {addr v : Nat} {f : State → State} {x : CmdInput}
    (hf : ∀ w, w.MemoryOk → (f w).MemoryOk) (h : u.MemoryOk) : (u.access path addr v f x).MemoryOk := by
  unfold State.access
  split
  · exact h
  · split
    · split
      · exact hf _ ((memoryOk_iff (Frame.monNote rfl)).mpr h)
      · exact (memoryOk_iff (Frame.notMaster rfl)).mpr h
    · exact (memoryOk_iff (Frame.absentAccess rfl)).mpr h
    · exact (memoryOk_iff (Frame.noStacksAccess rfl)).mpr h
    · split
      · exact (memoryOk_iff (Frame.stall rfl)).mpr h
      · exact (memoryOk_iff (Frame.notMaster rfl)).mpr h

theorem State.MemoryOk.release {u : State} {d : Nat} {f : State → Stalled → State} (hf : ∀ w a, w.MemoryOk → (f w a).MemoryOk)
    (h : u.MemoryOk) : (u.release d f).MemoryOk :=
  State.MemoryOk.foldl hf ((memoryOk_iff (Frame.setPower rfl)).mpr h)

theorem State.MemoryOk.monLine {u : State} {f : State → State} (hf : ∀ w, w.MemoryOk → (f w).MemoryOk) (h : u.MemoryOk) :
    (u.monLine f).MemoryOk := by
  have hline : u.lineIn.MemoryOk := (memoryOk_iff (Frame.lineIn rfl)).mpr h
  unfold State.monLine
  split
  · exact h
  · dsimp only
    split
    · exact (memoryOk_iff (Frame.monErr rfl)).mpr hline
    · exact hf _ hline

theorem State.MemoryOk.monMay {u : State} {f : State → State} (hf : ∀ w, w.MemoryOk → (f w).MemoryOk) (h : u.MemoryOk) :
    (u.monMay f).MemoryOk :=
  State.MemoryOk.monLine (fun w hw => by
    split
    · exact (memoryOk_iff (Frame.monErr rfl)).mpr hw
    · exact hf w hw) h

theorem State.MemoryOk.monOwn {u : State} {f : State → State} (hf : ∀ w, w.MemoryOk → (f w).MemoryOk) (h : u.MemoryOk) :
    (u.monOwn f).MemoryOk :=
  State.MemoryOk.monMay (fun w hw => by
    split
    · exact hf w hw
    · exact (memoryOk_iff (Frame.monErr rfl)).mpr hw) h

theorem State.MemoryOk.thru {u v : State} (h : u.MemoryOk) (k : ∀ {s : State}, Frame 0xfffffff9ff s v ↔ Frame 0xfffffff9ff s u) :
    v.MemoryOk := (memoryOk_iff k).mpr h

theorem Frame.memoryOk {u v : State} (k : Frame 0xfffffff9ff u v) (h : u.MemoryOk) : v.MemoryOk :=
  ⟨(k .archive rfl : v.archive = u.archive) ▸ h.1, (k .stk rfl : v.stk = u.stk) ▸ h.2⟩

theorem State.MemoryOk.ite {c : Prop} [Decidable c] {u v : State} (hu : u.MemoryOk) (hv : v.MemoryOk) : (if c then u else v).MemoryOk := by
  split <;> assumption

end Sys2Proof.Machine
end

section
/-!
PROOFS. Sys2Proof/Proofs/MemoryOps.lean: every operation that writes the Archive or the Stacks, its own or through another, keeps their canonical form;
in the order in which the operations call each other.
-/

namespace Sys2Proof.Machine

theorem State.MemoryOk.setDomain {u : State} {x1 x2 : ℕ} (h : u.MemoryOk) : (State.setDomain u x1 x2).MemoryOk := by
  unfold State.setDomain
  simp only [h, ↓memoryOk_iff (Frame.linksLost rfl), ↓memoryOk_iff (Frame.portsLost rfl), ↓memoryOk_iff (Frame.putDomain rfl),
      ↓memoryOk_iff (Frame.putFld rfl), ↓memoryOk_iff (Frame.setLoom rfl), ↓memoryOk_iff (Frame.timeLeaves rfl),
      ↓memoryOk_iff (Frame.timeReturns rfl), ↓memoryOk_iff (Frame.updateHolding rfl), ↓memoryOk_iff (Frame.updatePins rfl),
      State.MemoryOk.noStk, ↓memoryOk_ite, ite_self]

theorem State.MemoryOk.powerDown {u : State} {x1 : List ℕ} (h : u.MemoryOk) : (State.powerDown u x1).MemoryOk := by
  unfold State.powerDown
  repeat' with_reducible first
    | simp only [*, ↓memoryOk_iff (Frame.domainEvent rfl), State.MemoryOk.setDomain, ↓memoryOk_ite, ite_self]
    | refine State.MemoryOk.foldl (fun w x hw => ?_) ?_

theorem State.MemoryOk.dropDraft {u : State} (h : u.MemoryOk) : (State.dropDraft u).MemoryOk := by
  unfold State.dropDraft
  repeat' with_reducible first
    | simp only [*, ↓memoryOk_iff (Frame.putDomain rfl), ↓memoryOk_iff (Frame.putFld rfl), ↓memoryOk_iff (Frame.putReg rfl),
        ↓memoryOk_iff (Frame.setDraft rfl), ↓memoryOk_iff (Frame.showSwitch rfl), ↓memoryOk_iff (Frame.updateHolding rfl),
        State.MemoryOk.powerDown, ↓memoryOk_ite, ite_self]
    | refine State.MemoryOk.foldl (fun w x hw => ?_) ?_

theorem State.MemoryOk.failLoad {u : State} {x1 x2 x3 : ℕ} (h : u.MemoryOk) : (State.failLoad u x1 x2 x3).MemoryOk := by
  unfold State.failLoad
  simp only [h, ↓memoryOk_iff (Frame.enterMode rfl), ↓memoryOk_iff (Frame.event rfl), ↓memoryOk_iff (Frame.putFld rfl),
      ↓memoryOk_iff (Frame.putReg rfl), ↓memoryOk_iff (Frame.raise rfl), State.MemoryOk.dropDraft]

theorem State.MemoryOk.abortLoad {u : State} (h : u.MemoryOk) : (State.abortLoad u).MemoryOk := by
  unfold State.abortLoad
  repeat' first | simp only [*, ↓memoryOk_iff (Frame.refuseObject rfl), ↓memoryOk_iff (Frame.setDraft rfl), State.MemoryOk.failLoad] | split

theorem State.MemoryOk.enterSafe {u : State} {x1 x2 : ℕ} (h : u.MemoryOk) : (State.enterSafe u x1 x2).MemoryOk := by
  unfold State.enterSafe
  simp only [h, ↓memoryOk_iff (Frame.beginFault rfl), ↓memoryOk_iff (Frame.count rfl), ↓memoryOk_iff (Frame.decideMode rfl),
      ↓memoryOk_iff (Frame.dropPending rfl), ↓memoryOk_iff (Frame.endHold rfl), ↓memoryOk_iff (Frame.event rfl),
      ↓memoryOk_iff (Frame.flushAll rfl), ↓memoryOk_iff (Frame.putFld rfl), ↓memoryOk_iff (Frame.raise rfl),
      ↓memoryOk_iff (Frame.setCause rfl), ↓memoryOk_iff (Frame.updatePins rfl), ↓memoryOk_iff (Frame.withdraw rfl),
      State.MemoryOk.powerDown]

theorem State.MemoryOk.restoreFailed {u : State} {x1 x2 : ℕ} (h : u.MemoryOk) : (State.restoreFailed u x1 x2).MemoryOk := by
  unfold State.restoreFailed
  simp only [h, ↓memoryOk_iff (Frame.restoreFails rfl), State.MemoryOk.enterSafe, ↓memoryOk_ite, ite_self]

theorem State.MemoryOk.failInLoad {u : State} (h : u.MemoryOk) : (State.failInLoad u).MemoryOk := by
  unfold State.failInLoad
  simp only [h, State.MemoryOk.failLoad, ↓memoryOk_ite, ite_self]

theorem State.MemoryOk.startRestore {u : State} {x1 : ℕ} (h : u.MemoryOk) : (State.startRestore u x1).MemoryOk := by
  unfold State.startRestore
  simp only [h, ↓memoryOk_iff (Frame.domainEvent rfl), ↓memoryOk_iff (Frame.setPower rfl), State.MemoryOk.setDomain, ↓memoryOk_ite,
      ite_self]

theorem State.MemoryOk.treatRecovery {u : State} {x1 x2 : ℕ} (h : u.MemoryOk) : (State.treatRecovery u x1 x2).MemoryOk := by
  unfold State.treatRecovery
  simp only [h, ↓memoryOk_iff (Frame.beginFault rfl), ↓memoryOk_iff (Frame.enterRecovery rfl), ↓memoryOk_iff (Frame.fence rfl),
      State.MemoryOk.failInLoad, State.MemoryOk.startRestore, ↓memoryOk_ite, ite_self]

theorem State.MemoryOk.treat {u : State} {x1 x2 x3 : ℕ} (h : u.MemoryOk) : (State.treat u x1 x2 x3).MemoryOk := by
  unfold State.treat
  simp only [h, ↓memoryOk_iff (Frame.count rfl), ↓memoryOk_iff (Frame.fence rfl), ↓memoryOk_iff (Frame.fenceFailed rfl),
      ↓memoryOk_iff (Frame.hostLinkDown rfl), State.MemoryOk.enterSafe, State.MemoryOk.failInLoad, State.MemoryOk.treatRecovery,
      ↓memoryOk_ite, ite_self]

theorem State.MemoryOk.lastingOn {u : State} {x1 x2 x3 : ℕ} (h : u.MemoryOk) : (State.lastingOn u x1 x2 x3).MemoryOk := by
  unfold State.lastingOn
  repeat' with_reducible first
    | assumption
    | simp only [↓memoryOk_iff (Frame.count rfl), ↓memoryOk_iff (Frame.countClass rfl), ↓memoryOk_iff (Frame.event rfl),
        ↓memoryOk_iff (Frame.putElem rfl), ↓memoryOk_iff (Frame.putPair rfl), ↓memoryOk_iff (Frame.putReg rfl),
        ↓memoryOk_iff (Frame.raise rfl), ↓memoryOk_iff (Frame.restoreFails rfl)]
    | refine State.MemoryOk.restoreFailed ?_
    | refine State.MemoryOk.treat ?_
    | refine State.MemoryOk.foldl (fun w x hw => ?_) ?_
    | split

theorem State.MemoryOk.lasting {u : State} {x1 x2 : ℕ} (h : u.MemoryOk) : (State.lasting u x1 x2).MemoryOk := by
  unfold State.lasting
  simp only [h, State.MemoryOk.lastingOn]

theorem State.MemoryOk.checkFailed {u : State} {x1 x2 x3 : ℕ} (h : u.MemoryOk) : (State.checkFailed u x1 x2 x3).MemoryOk := by
  unfold State.checkFailed
  simp only [h, ↓memoryOk_iff (Frame.setFault rfl), State.MemoryOk.lasting, State.MemoryOk.treat, ↓memoryOk_ite, ite_self]

theorem State.MemoryOk.checkedRead {u : State} {x1 x2 x3 x4 x5 x6 x7 x8 : ℕ} {x9 : ℕ × ℕ} {x10 : List Byte} (h : u.MemoryOk) :
    ((State.checkedRead u x1 x2 x3 x4 x5 x6 x7 x8 x9 x10).1).MemoryOk := by
  unfold State.checkedRead
  simp only [h, ↓memoryOk_iff (Frame.count rfl), ↓memoryOk_iff (Frame.event rfl), ↓memoryOk_iff (Frame.raise rfl),
      ↓memoryOk_iff (Frame.transient rfl), State.MemoryOk.checkFailed, apply_ite Prod.fst, ↓memoryOk_ite, ite_self]

theorem State.MemoryOk.isleRead {u : State} {x1 x2 x3 x4 : ℕ} {x5 : Checks} (h : u.MemoryOk) :
    ((State.isleRead u x1 x2 x3 x4 x5).1).MemoryOk := by
  unfold State.isleRead
  simp only [h, State.MemoryOk.checkedRead]

theorem State.MemoryOk.readMembers {u : State} {x1 x2 x3 : ℕ} {x4 : List (ℕ × ℚ)} {x5 : Checks} (h : u.MemoryOk) :
    ((State.readMembers u x1 x2 x3 x4 x5).1).MemoryOk := by
  unfold State.readMembers
  repeat' with_reducible first | simp only [*, State.MemoryOk.isleRead] | refine State.MemoryOk.foldlFst (fun w _ x hw => ?_) ?_

theorem State.MemoryOk.aggregate {u : State} {x1 : List Byte} {x2 x3 : ℕ} {x4 : List Byte} {x5 : Checks} (h : u.MemoryOk) :
    ((State.aggregate u x1 x2 x3 x4 x5)).MemoryOk := by
  unfold State.aggregate
  simp only [h, ↓memoryOk_iff (Frame.setIsle rfl), State.MemoryOk.readMembers]

theorem State.MemoryOk.archiveIdle {u : State} (h : u.MemoryOk) : (State.archiveIdle u).MemoryOk := by
  unfold State.archiveIdle
  simp only [h, ↓memoryOk_iff (Frame.domainEvent rfl), State.MemoryOk.setDomain, ↓memoryOk_ite, ite_self]

theorem State.MemoryOk.wakeArchive {u : State} (h : u.MemoryOk) : (State.wakeArchive u).MemoryOk := by
  unfold State.wakeArchive
  simp only [h, ↓memoryOk_iff (Frame.domainEvent rfl), ↓memoryOk_iff (Frame.setPower rfl), ↓memoryOk_iff (Frame.showWoken rfl),
      State.MemoryOk.setDomain, ↓memoryOk_ite, ite_self]

theorem State.MemoryOk.archiveWrite {u : State} {x1 : ℕ} (h : u.MemoryOk) : ((State.archiveWrite u x1).1).MemoryOk := by
  unfold State.archiveWrite
  simp only [h, ↓memoryOk_iff (Frame.transient rfl), State.MemoryOk.lasting, State.MemoryOk.wakeArchive, apply_ite Prod.fst, ↓memoryOk_ite,
      ite_self]

theorem State.MemoryOk.linkDown {u : State} {x1 x2 : ℕ} (h : u.MemoryOk) : (State.linkDown u x1 x2).MemoryOk := by
  unfold State.linkDown
  simp only [h, ↓memoryOk_iff (Frame.linkLost rfl), State.MemoryOk.lasting, ↓memoryOk_ite, ite_self]

theorem State.MemoryOk.askAgain {u : State} {x1 x2 : ℕ} (h : u.MemoryOk) : (State.askAgain u x1 x2).MemoryOk := by
  unfold State.askAgain
  repeat' first | simp only [*, ↓memoryOk_iff (Frame.putLink rfl), State.MemoryOk.linkDown] | split

theorem State.MemoryOk.stkStore {u : State} {x1 : ℕ} {x2 : List Byte} (h : u.MemoryOk) : (State.stkStore u x1 x2).MemoryOk := by
  unfold State.stkStore
  simp only [h, State.MemoryOk.storeStk]

theorem State.MemoryOk.bar2Put {u : State} {x1 : ℕ} {x2 : List Byte} (h : u.MemoryOk) : (State.bar2Put u x1 x2).MemoryOk := by
  unfold State.bar2Put
  simp only [h, ↓memoryOk_iff (Frame.hostErr rfl), ↓memoryOk_iff (Frame.stall rfl), State.MemoryOk.stkStore, ↓memoryOk_ite, ite_self]

theorem State.MemoryOk.beatCell {u : State} {x1 : ℕ} {x2 : List Byte} (h : u.MemoryOk) : (State.beatCell u x1 x2).MemoryOk := by
  unfold State.beatCell
  refine State.MemoryOk.onCell (fun w hw => ?_) h
  repeat' with_reducible first
    | assumption
    | simp only [↓memoryOk_iff (Frame.linkIsReady rfl), ↓memoryOk_iff (Frame.putFld rfl), ↓memoryOk_iff (Frame.putLink rfl), ↓memoryOk_ite,
        ite_self]
    | refine State.MemoryOk.linkDown ?_
    | split

theorem State.MemoryOk.beginLoad {u : State} {x1 : LoadReq} (h : u.MemoryOk) : (State.beginLoad u x1).MemoryOk := by
  unfold State.beginLoad
  simp only [h, ↓memoryOk_iff (Frame.endPinTest rfl), ↓memoryOk_iff (Frame.enterMode rfl), ↓memoryOk_iff (Frame.putFld rfl),
      ↓memoryOk_iff (Frame.setDraft rfl), ↓memoryOk_iff (Frame.stopAll rfl), State.MemoryOk.dropDraft]

theorem State.MemoryOk.draftFails {u : State} {x1 : LoadReq} {x2 : LoadFailure} (h : u.MemoryOk) :
    ((State.draftFails u x1 x2)).MemoryOk := by
  unfold State.draftFails
  simp only [h, ↓memoryOk_iff (Frame.event rfl), ↓memoryOk_iff (Frame.raise rfl), ↓memoryOk_iff (Frame.setDraft rfl),
      State.MemoryOk.failLoad, ↓memoryOk_ite, ite_self]

theorem State.MemoryOk.bootLoad {u : State} (h : u.MemoryOk) : (State.bootLoad u).MemoryOk := by
  unfold State.bootLoad
  simp only [h, ↓memoryOk_iff (Frame.setPower rfl), State.MemoryOk.beginLoad, State.MemoryOk.draftFails, ↓memoryOk_ite, ite_self]

theorem State.MemoryOk.eraseBlock {u : State} {x1 : ℕ} (h : u.MemoryOk) : (State.eraseBlock u x1).MemoryOk := by
  unfold State.eraseBlock
  simp only [h, ↓memoryOk_iff (Frame.event rfl), ↓memoryOk_iff (Frame.raise rfl), ↓memoryOk_iff (Frame.setLedger rfl),
      State.MemoryOk.clearArchive, ↓memoryOk_ite, ite_self]

theorem State.MemoryOk.openPlace {u : State} (h : u.MemoryOk) : (State.openPlace u).MemoryOk := by
  unfold State.openPlace
  simp only [h, ↓memoryOk_iff (Frame.setLedger rfl), State.MemoryOk.eraseBlock, ↓memoryOk_ite, ite_self]

theorem State.MemoryOk.fenceBlock {u : State} (h : u.MemoryOk) : (State.fenceBlock u).MemoryOk := by
  unfold State.fenceBlock
  simp only [h, ↓memoryOk_iff (Frame.event rfl), ↓memoryOk_iff (Frame.raise rfl), ↓memoryOk_iff (Frame.setLedger rfl),
      State.MemoryOk.lasting]

theorem State.MemoryOk.putRecord {u : State} {x1 : LedRec} (h : u.MemoryOk) : (State.putRecord u x1).MemoryOk := by
  unfold State.putRecord
  simp only [h, ↓memoryOk_iff (Frame.setLedger rfl), State.MemoryOk.openPlace, State.MemoryOk.storeArchive]

theorem State.MemoryOk.writeRecord {u : State} {x1 : LedRec} {x2 : ℕ} (h : u.MemoryOk) : (State.writeRecord u x1 x2).MemoryOk := by
  unfold State.writeRecord
  simp only [h, ↓memoryOk_iff (Frame.event rfl), ↓memoryOk_iff (Frame.setLedger rfl), ↓memoryOk_iff (Frame.transient rfl),
      State.MemoryOk.fenceBlock, State.MemoryOk.openPlace, State.MemoryOk.putRecord, ↓memoryOk_ite, ite_self]

theorem State.MemoryOk.writeAll {u : State} {x1 : ℕ} (h : u.MemoryOk) : (State.writeAll x1 u).MemoryOk := by
  induction x1 generalizing u with
  | zero => exact h
  | succ n ih =>
    unfold State.writeAll
    split
    · exact h
    · exact ih (((h.writeRecord.thru (Frame.unstage rfl)).thru (Frame.copyRecord rfl)).thru (Frame.afterWrite rfl))

theorem State.MemoryOk.writeStaging {u : State} (h : u.MemoryOk) : (State.writeStaging u).MemoryOk := by
  unfold State.writeStaging
  simp only [h, ↓memoryOk_iff (Frame.setLedger rfl), State.MemoryOk.writeAll]

theorem State.MemoryOk.captPut {u : State} {x1 : ℕ} {x2 : List Byte} (h : u.MemoryOk) : ((State.captPut u x1 x2).1).MemoryOk := by
  unfold State.captPut
  repeat' first | simp only [*, ↓memoryOk_iff (Frame.putCapt rfl), State.MemoryOk.stkStore] | split

theorem State.MemoryOk.captPutIn {r : Nat} {b : List Byte} {p : State × Bool} (h : p.1.MemoryOk) : (captPutIn r b p).1.MemoryOk := by
  obtain ⟨s, _ | _⟩ := p
  · exact h
  · exact h.captPut

theorem State.MemoryOk.takePageAt {u : State} {x1 x2 : ℕ} (h : u.MemoryOk) : (State.takePageAt u x1 x2).MemoryOk := by
  unfold State.takePageAt
  simp only [h, ↓memoryOk_iff (Frame.count rfl), ↓memoryOk_iff (Frame.putCapt rfl), State.MemoryOk.clearStk]

theorem State.MemoryOk.takeFound {u : State} {x1 : ℕ} {x2 : Option ℕ} (h : u.MemoryOk) : ((State.takeFound u x1 x2).1).MemoryOk := by
  unfold State.takeFound
  repeat' first | simp only [*, State.MemoryOk.takePageAt] | split

theorem State.MemoryOk.takePage {u : State} {x1 : ℕ} (h : u.MemoryOk) : ((State.takePage u x1).1).MemoryOk := by
  unfold State.takePage
  simp only [h, State.MemoryOk.takeFound]

theorem State.MemoryOk.captEntry {u : State} {x1 : ℕ} {x2 : List Byte} (h : u.MemoryOk) : ((State.captEntry u x1 x2).1).MemoryOk := by
  unfold State.captEntry
  refine State.MemoryOk.captPutIn ?_
  split
  · exact h.takePage
  · exact h

theorem State.MemoryOk.overrunGap {u : State} {x1 : ℕ} (h : u.MemoryOk) : (State.overrunGap u x1).MemoryOk := by
  unfold State.overrunGap
  repeat' first
    | simp only [*, ↓memoryOk_iff (Frame.count rfl), ↓memoryOk_iff (Frame.event rfl), ↓memoryOk_iff (Frame.putCapt rfl),
        ↓memoryOk_iff (Frame.raise rfl), State.MemoryOk.captEntry]
    | split

theorem State.MemoryOk.closeRecord {u : State} {x1 : ℕ} {x2 : Bool} (h : u.MemoryOk) : (State.closeRecord u x1 x2).MemoryOk := by
  unfold State.closeRecord
  repeat' first
    | simp only [*, ↓memoryOk_iff (Frame.count rfl), ↓memoryOk_iff (Frame.event rfl), ↓memoryOk_iff (Frame.putCapt rfl),
        ↓memoryOk_iff (Frame.putReg rfl), ↓memoryOk_iff (Frame.raise rfl), State.MemoryOk.overrunGap, State.MemoryOk.stkStore]
    | split

theorem State.MemoryOk.captAbort {u : State} {x1 : ℕ → Bool} (h : u.MemoryOk) : (State.captAbort u x1).MemoryOk := by
  unfold State.captAbort
  repeat' with_reducible first
    | simp only [*, State.MemoryOk.closeRecord, ↓memoryOk_ite, ite_self]
    | refine State.MemoryOk.foldl (fun w x hw => ?_) ?_

theorem State.MemoryOk.captWarm {u : State} (h : u.MemoryOk) : (State.captWarm u).MemoryOk := by
  unfold State.captWarm
  repeat' with_reducible first
    | simp only [*, ↓memoryOk_iff (Frame.captSwitch rfl), ↓memoryOk_iff (Frame.putCapt rfl), State.MemoryOk.captAbort, ↓memoryOk_ite,
        ite_self]
    | refine State.MemoryOk.foldl (fun w x hw => ?_) ?_

theorem State.MemoryOk.warmDomains {u : State} (h : u.MemoryOk) : (State.warmDomains u).MemoryOk := by
  unfold State.warmDomains
  repeat' with_reducible first
    | simp only [*, ↓memoryOk_iff (Frame.domainEvent rfl), State.MemoryOk.setDomain, ↓memoryOk_ite, ite_self]
    | refine State.MemoryOk.foldl (fun w x hw => ?_) ?_

theorem State.MemoryOk.warmMode {u : State} (h : u.MemoryOk) : (State.warmMode u).MemoryOk := by
  unfold State.warmMode
  simp only [h, ↓memoryOk_iff (Frame.enterRecovery rfl), ↓memoryOk_iff (Frame.putFld rfl), ↓memoryOk_iff (Frame.resetFields rfl),
      ↓memoryOk_iff (Frame.setFault rfl), ↓memoryOk_iff (Frame.setPower rfl), State.MemoryOk.abortLoad, ↓memoryOk_ite, ite_self]

theorem State.MemoryOk.warmBegin {u : State} {x1 : ℕ} (h : u.MemoryOk) : (State.warmBegin u x1).MemoryOk := by
  unfold State.warmBegin
  repeat' with_reducible first
    | assumption
    | simp only [↓memoryOk_iff (Frame.count rfl), ↓memoryOk_iff (Frame.endDrain rfl), ↓memoryOk_iff (Frame.endPinTest rfl),
        ↓memoryOk_iff (Frame.endRestores rfl), ↓memoryOk_iff (Frame.event rfl), ↓memoryOk_iff (Frame.flushAll rfl),
        ↓memoryOk_iff (Frame.putFld rfl), ↓memoryOk_iff (Frame.setDraft rfl), ↓memoryOk_iff (Frame.setHost rfl),
        ↓memoryOk_iff (Frame.setLedger rfl), ↓memoryOk_iff (Frame.setPair rfl), ↓memoryOk_iff (Frame.setPower rfl),
        ↓memoryOk_iff (Frame.updateHolding rfl)]
    | refine State.MemoryOk.captWarm ?_
    | refine State.MemoryOk.warmDomains ?_
    | refine State.MemoryOk.warmMode ?_
    | refine State.MemoryOk.writeStaging ?_
    | split

theorem State.MemoryOk.warmAsk {u : State} {x1 : ℕ} (h : u.MemoryOk) : (State.warmAsk u x1).MemoryOk := by
  unfold State.warmAsk
  simp only [h, ↓memoryOk_iff (Frame.setPower rfl), State.MemoryOk.warmBegin, ↓memoryOk_ite, ite_self]

theorem State.MemoryOk.ofCmdWarmReset {u : State} {x1 : Path} (h : u.MemoryOk) : ((cmdWarmReset x1 u).state).MemoryOk := by
  unfold cmdWarmReset
  simp only [h, State.MemoryOk.warmAsk, ok, refuse, apply_ite CmdResult.state, ↓memoryOk_ite, ite_self]

theorem State.MemoryOk.ofGlobalCommand {u : State} {x1 : Path} {x2 : ℕ} (h : u.MemoryOk) : ((globalCommand x1 x2 u).state).MemoryOk := by
  unfold globalCommand
  repeat' first | simp only [*, State.MemoryOk.ofCmdWarmReset, refuse] | split

theorem State.MemoryOk.ofCmdLoad {u : State} {x1 : Path} (h : u.MemoryOk) : ((cmdLoad x1 u).state).MemoryOk := by
  unfold cmdLoad
  simp only [h, State.MemoryOk.beginLoad, ok, refuse, apply_ite CmdResult.state, ↓memoryOk_ite, ite_self]

theorem State.MemoryOk.ofCmdUnload {u : State} (h : u.MemoryOk) : ((cmdUnload u).state).MemoryOk := by
  unfold cmdUnload
  simp only [h, ↓memoryOk_iff (Frame.endPinTest rfl), ↓memoryOk_iff (Frame.enterMode rfl), ↓memoryOk_iff (Frame.stopAll rfl),
      State.MemoryOk.dropDraft, ok, refuse, apply_ite CmdResult.state, ↓memoryOk_ite, ite_self]

theorem State.MemoryOk.ofCmdImageWrite {u : State} (h : u.MemoryOk) : ((cmdImageWrite u).state).MemoryOk := by
  unfold cmdImageWrite
  simp only [h, ↓memoryOk_iff (Frame.putImage rfl), ↓memoryOk_iff (Frame.setDraft rfl), State.MemoryOk.wakeArchive, ok, refuse,
      apply_ite CmdResult.state, ↓memoryOk_ite, ite_self]

theorem State.MemoryOk.ofCmdImageErase {u : State} (h : u.MemoryOk) : ((cmdImageErase u).state).MemoryOk := by
  unfold cmdImageErase
  repeat' first
    | simp only [*, ↓memoryOk_iff (Frame.putImage rfl), ↓memoryOk_iff (Frame.raise rfl), ↓memoryOk_iff (Frame.setDraft rfl),
        State.MemoryOk.wakeArchive, State.MemoryOk.clearArchive, ok, refuse]
    | split

theorem State.MemoryOk.ofDraftCommand {u : State} {x1 : Path} {x2 : ℕ} (h : u.MemoryOk) : ((draftCommand x1 x2 u).state).MemoryOk := by
  unfold draftCommand
  repeat' first
    | simp only [*, ↓memoryOk_iff (Frame.ofCmdCancelPatch rfl), ↓memoryOk_iff (Frame.ofCmdDropCard rfl),
        ↓memoryOk_iff (Frame.ofCmdLoadCard rfl), ↓memoryOk_iff (Frame.ofCmdPatch rfl), State.MemoryOk.ofCmdImageErase,
        State.MemoryOk.ofCmdImageWrite, State.MemoryOk.ofCmdLoad, State.MemoryOk.ofCmdUnload, refuse]
    | split

theorem State.MemoryOk.gapsBefore {u : State} {x1 x2 x3 : ℕ} (h : u.MemoryOk) : (State.gapsBefore u x1 x2 x3).MemoryOk := by
  unfold State.gapsBefore
  repeat' first | simp only [*, State.MemoryOk.captEntry, State.MemoryOk.overrunGap] | split

theorem State.MemoryOk.captClosing {u : State} {x1 x2 : ℕ} {x3 : CaptOpen} (h : u.MemoryOk) :
    ((State.captClosing u x1 x2 x3)).MemoryOk := by
  unfold State.captClosing
  simp only [h, ↓memoryOk_iff (Frame.captState rfl), State.MemoryOk.gapsBefore]

theorem State.MemoryOk.flushRuns {u : State} {x1 : ℕ} (h : u.MemoryOk) : (State.flushRuns u x1).MemoryOk := by
  unfold State.flushRuns
  repeat' with_reducible first
    | simp only [*, ↓memoryOk_iff (Frame.putCapt rfl), State.MemoryOk.captEntry]
    | refine State.MemoryOk.foldl (fun w x hw => ?_) ?_

theorem State.MemoryOk.captSlot {u : State} {x1 x2 x3 : ℕ} (h : u.MemoryOk) : (State.captSlot u x1 x2 x3).MemoryOk := by
  unfold State.captSlot
  repeat' with_reducible first
    | assumption
    | simp only [↓memoryOk_iff (Frame.putCapt rfl)]
    | refine State.MemoryOk.captClosing ?_
    | refine State.MemoryOk.captEntry ?_
    | refine State.MemoryOk.flushRuns ?_
    | refine State.MemoryOk.gapsBefore ?_
    | refine State.MemoryOk.foldl (fun w x hw => ?_) ?_
    | split

theorem State.MemoryOk.captRelease {u : State} {x1 x2 : ℕ} (h : u.MemoryOk) : (State.captRelease u x1 x2).MemoryOk := by
  unfold State.captRelease
  repeat' with_reducible first
    | simp only [*, ↓memoryOk_iff (Frame.pushInput rfl), State.MemoryOk.captSlot]
    | refine State.MemoryOk.foldl (fun w x hw => ?_) ?_
    | split

theorem State.MemoryOk.deliverSlot {u : State} {x1 x2 : ℕ} (h : u.MemoryOk) : (State.deliverSlot u x1 x2).MemoryOk := by
  unfold State.deliverSlot
  simp only [h, ↓memoryOk_iff (Frame.forwardSlot rfl), ↓memoryOk_iff (Frame.modSlot rfl), State.MemoryOk.captRelease]

theorem State.MemoryOk.deliverLattice {u : State} {x1 : ℕ} (h : u.MemoryOk) : (State.deliverLattice u x1).MemoryOk := by
  unfold State.deliverLattice
  repeat' with_reducible first
    | simp only [*, ↓memoryOk_iff (Frame.pruneSlots rfl), State.MemoryOk.deliverSlot]
    | refine State.MemoryOk.foldl (fun w x hw => ?_) ?_

theorem State.MemoryOk.stkPut {u : State} {x1 : ℕ × ℕ} {x2 x3 : ℕ} (h : u.MemoryOk) : (State.stkPut u x1 x2 x3).MemoryOk := by
  unfold State.stkPut
  simp only [h, State.MemoryOk.stkStore]

theorem State.MemoryOk.storeAt {u : State} {x1 : ℕ} {x2 : SlotSt} {x3 x4 x5 : ℕ} (h : u.MemoryOk) :
    ((State.storeAt u x1 x2 x3 x4 x5)).MemoryOk := by
  unfold State.storeAt
  simp only [h, State.MemoryOk.stkPut, ↓memoryOk_ite, ite_self]

theorem State.MemoryOk.storeValue {u : State} {x1 : ℕ} {x2 : SlotSt} {x3 x4 x5 : ℕ} (h : u.MemoryOk) :
    ((State.storeValue u x1 x2 x3 x4 x5)).MemoryOk := by
  unfold State.storeValue
  repeat' first | simp only [*, State.MemoryOk.storeAt] | split

theorem State.MemoryOk.settle {u : State} {x1 x2 : ℕ} {x3 : List Byte} {x4 : ℕ × List Byte} (h : u.MemoryOk) :
    ((State.settle u x1 x2 x3 x4)).MemoryOk := by
  unfold State.settle
  repeat' first | simp only [*, ↓memoryOk_iff (Frame.modSlot rfl), ↓memoryOk_iff (Frame.setLoom rfl), State.MemoryOk.storeValue] | split

theorem State.MemoryOk.settleComing {u : State} {x1 x2 x3 : ℕ} (h : u.MemoryOk) : (State.settleComing u x1 x2 x3).MemoryOk := by
  unfold State.settleComing
  repeat' first | simp only [*, ↓memoryOk_iff (Frame.modSlot rfl), State.MemoryOk.storeAt] | split

theorem State.MemoryOk.closeSet {u : State} {x1 x2 x3 : ℕ} {x4 : List Byte} {x5 : ℕ} (h : u.MemoryOk) :
    ((State.closeSet u x1 x2 x3 x4 x5)).MemoryOk := by
  unfold State.closeSet
  repeat' with_reducible first
    | simp only [*, ↓memoryOk_iff (Frame.count rfl), ↓memoryOk_iff (Frame.modSlot rfl), ↓memoryOk_iff (Frame.putReg rfl),
        State.MemoryOk.settle, State.MemoryOk.settleComing]
    | refine State.MemoryOk.foldl (fun w x hw => ?_) ?_

theorem State.MemoryOk.writeHeader {u : State} {x1 x2 : ℕ} (h : u.MemoryOk) : (State.writeHeader u x1 x2).MemoryOk := by
  unfold State.writeHeader
  repeat' first | simp only [*, State.MemoryOk.stkStore] | split

theorem State.MemoryOk.forceSlot {u : State} {x1 x2 : ℕ} (h : u.MemoryOk) : (State.forceSlot u x1 x2).MemoryOk := by
  unfold State.forceSlot
  repeat' with_reducible first
    | assumption
    | simp only [↓memoryOk_iff (Frame.modSlot rfl), ↓memoryOk_iff (Frame.recordForced rfl)]
    | refine State.MemoryOk.closeSet ?_
    | refine State.MemoryOk.writeHeader ?_
    | refine State.MemoryOk.foldl (fun w x hw => ?_) ?_
    | split

theorem State.MemoryOk.skipSlots {u : State} {x1 x2 : ℕ} {x3 : Bool} (h : u.MemoryOk) : (State.skipSlots u x1 x2 x3).MemoryOk := by
  unfold State.skipSlots
  repeat' with_reducible first
    | simp only [*, ↓memoryOk_iff (Frame.count rfl), ↓memoryOk_iff (Frame.event rfl), ↓memoryOk_iff (Frame.putLat rfl),
        ↓memoryOk_iff (Frame.raise rfl), State.MemoryOk.forceSlot]
    | refine State.MemoryOk.foldl (fun w x hw => ?_) ?_
    | split

theorem State.MemoryOk.takeStep {u : State} {x1 : ℕ} (h : u.MemoryOk) : (State.takeStep u x1).MemoryOk := by
  unfold State.takeStep
  repeat' first | simp only [*, ↓memoryOk_iff (Frame.putLat rfl), State.MemoryOk.skipSlots] | split

theorem State.MemoryOk.trySet {u : State} {x1 x2 : ℕ} {x3 : ℕ × List Byte} (h : u.MemoryOk) : (State.trySet u x1 x2 x3).MemoryOk := by
  unfold State.trySet
  repeat' first | simp only [*, State.MemoryOk.closeSet] | split

theorem State.MemoryOk.closeSlot {u : State} {x1 x2 : ℕ} (h : u.MemoryOk) : (State.closeSlot u x1 x2).MemoryOk := by
  unfold State.closeSlot
  repeat' with_reducible first
    | assumption
    | simp only [↓memoryOk_iff (Frame.modSlot rfl), ↓memoryOk_iff (Frame.putPair rfl), ↓memoryOk_iff (Frame.putReg rfl),
        ↓memoryOk_iff (Frame.recordForced rfl), ↓memoryOk_iff (Frame.setLoom rfl)]
    | refine State.MemoryOk.stkPut ?_
    | refine State.MemoryOk.storeValue ?_
    | refine State.MemoryOk.writeHeader ?_
    | refine State.MemoryOk.foldl (fun w x hw => ?_) ?_
    | split

theorem State.MemoryOk.releaseSlot {u : State} {x1 x2 : ℕ} (h : u.MemoryOk) : (State.releaseSlot u x1 x2).MemoryOk := by
  unfold State.releaseSlot
  simp only [h, ↓memoryOk_iff (Frame.modSlot rfl), ↓memoryOk_iff (Frame.putPair rfl), State.MemoryOk.writeHeader]

theorem State.MemoryOk.trySlotClose {u : State} {x1 x2 : ℕ} (h : u.MemoryOk) : (State.trySlotClose u x1 x2).MemoryOk := by
  unfold State.trySlotClose
  repeat' with_reducible first
    | assumption
    | simp only [↓memoryOk_ite]
    | refine State.MemoryOk.closeSlot ?_
    | refine State.MemoryOk.releaseSlot ?_
    | refine State.MemoryOk.trySet ?_
    | refine State.MemoryOk.foldl (fun w x hw => ?_) ?_
    | split

theorem State.MemoryOk.evalLattice {u : State} {x1 : ℕ} (h : u.MemoryOk) : (State.evalLattice u x1).MemoryOk := by
  unfold State.evalLattice
  repeat' with_reducible first
    | simp only [*, ↓memoryOk_iff (Frame.showLattice rfl), State.MemoryOk.takeStep, State.MemoryOk.trySlotClose]
    | refine State.MemoryOk.foldl (fun w x hw => ?_) ?_
    | split

theorem State.MemoryOk.loomRun {u : State} (h : u.MemoryOk) : (State.loomRun u).MemoryOk := by
  unfold State.loomRun
  repeat' with_reducible first
    | simp only [*, ↓memoryOk_iff (Frame.switchDone rfl), State.MemoryOk.deliverLattice, State.MemoryOk.evalLattice]
    | refine State.MemoryOk.foldl (fun w x hw => ?_) ?_
    | split

theorem State.MemoryOk.ofCmdStreamEnable {u : State} (h : u.MemoryOk) : ((cmdStreamEnable u).state).MemoryOk := by
  unfold cmdStreamEnable
  simp only [h, ↓memoryOk_iff (Frame.enterWaiting rfl), ↓memoryOk_iff (Frame.putStream rfl), ↓memoryOk_iff (Frame.reedDown rfl),
      State.MemoryOk.loomRun, ok, refuse, apply_ite CmdResult.state, ↓memoryOk_ite, ite_self]

theorem State.MemoryOk.ofHeddleCommand {u : State} {x1 : ℕ} (h : u.MemoryOk) : ((heddleCommand x1 u).state).MemoryOk := by
  unfold heddleCommand
  repeat' first
    | simp only [*, ↓memoryOk_iff (Frame.ofCmdKeyInvalidate rfl), ↓memoryOk_iff (Frame.ofCmdKeyLoad rfl),
        ↓memoryOk_iff (Frame.ofCmdRequestCfg rfl), ↓memoryOk_iff (Frame.ofCmdStreamState rfl), State.MemoryOk.ofCmdStreamEnable, refuse]
    | split

theorem State.MemoryOk.ofCmdHistReset {u : State} (h : u.MemoryOk) : ((cmdHistReset u).state).MemoryOk := by
  unfold cmdHistReset
  simp only [h, ↓memoryOk_iff (Frame.event rfl), State.MemoryOk.clearStk, ok, refuse, apply_ite CmdResult.state, ↓memoryOk_ite, ite_self]

theorem State.MemoryOk.ofCmdCloseNow {u : State} (h : u.MemoryOk) : ((cmdCloseNow u).state).MemoryOk := by
  unfold cmdCloseNow
  repeat' with_reducible first
    | assumption
    | simp only [↓memoryOk_iff (Frame.ofOk rfl), ↓memoryOk_iff (Frame.ofRefuse rfl)]
    | refine State.MemoryOk.forceSlot ?_
    | refine State.MemoryOk.loomRun ?_
    | refine State.MemoryOk.foldl (fun w x hw => ?_) ?_
    | split

theorem State.MemoryOk.ofLoomCommand {u : State} {x1 : ℕ} (h : u.MemoryOk) : ((loomCommand x1 u).state).MemoryOk := by
  unfold loomCommand
  repeat' first
    | simp only [*, ↓memoryOk_iff (Frame.ofCmdQuantile rfl), ↓memoryOk_iff (Frame.ofCmdReadValue rfl), ↓memoryOk_iff (Frame.ofCmdWeft rfl),
        State.MemoryOk.ofCmdCloseNow, State.MemoryOk.ofCmdHistReset, refuse]
    | split

theorem State.MemoryOk.writeCkpt {u : State} (h : u.MemoryOk) : (State.writeCkpt u).MemoryOk := by
  unfold State.writeCkpt
  repeat' with_reducible first
    | simp only [*, ↓memoryOk_iff (Frame.raise rfl), ↓memoryOk_iff (Frame.setOsc rfl), State.MemoryOk.clearArchive,
        State.MemoryOk.storeArchive]
    | refine State.MemoryOk.foldl (fun w x hw => ?_) ?_

theorem State.MemoryOk.ofCmdCkptSave {u : State} (h : u.MemoryOk) : ((cmdCkptSave u).state).MemoryOk := by
  unfold cmdCkptSave
  simp only [h, ↓memoryOk_iff (Frame.event rfl), State.MemoryOk.archiveWrite, State.MemoryOk.writeCkpt, ok, refuse,
      apply_ite CmdResult.state, ↓memoryOk_ite, ite_self]

theorem State.MemoryOk.ofOscCommand {u : State} {x1 : ℕ} (h : u.MemoryOk) : ((oscCommand x1 u).state).MemoryOk := by
  unfold oscCommand
  repeat' first
    | simp only [*, ↓memoryOk_iff (Frame.ofCmdSpectrumRead rfl), ↓memoryOk_iff (Frame.ofCmdTrackerRead rfl),
        ↓memoryOk_iff (Frame.ofCmdTrackerReset rfl), State.MemoryOk.ofCmdCkptSave, refuse]
    | split

theorem State.MemoryOk.ofCmdSlvLinkRestart {u : State} (h : u.MemoryOk) : ((cmdSlvLinkRestart u).state).MemoryOk := by
  unfold cmdSlvLinkRestart
  simp only [h, ↓memoryOk_iff (Frame.putLink rfl), ↓memoryOk_iff (Frame.startLink rfl), State.MemoryOk.linkDown, ok, refuse,
      apply_ite CmdResult.state, ↓memoryOk_ite, ite_self]

theorem State.MemoryOk.ofCmdLinkHold {u : State} (h : u.MemoryOk) : ((cmdLinkHold u).state).MemoryOk := by
  unfold cmdLinkHold
  simp only [h, ↓memoryOk_iff (Frame.putFld rfl), ↓memoryOk_iff (Frame.putLinkState rfl), State.MemoryOk.linkDown, ok, refuse,
      apply_ite CmdResult.state, ↓memoryOk_ite, ite_self]

theorem State.MemoryOk.ofSlvCommand {u : State} {x1 : ℕ} (h : u.MemoryOk) : ((slvCommand x1 u).state).MemoryOk := by
  unfold slvCommand
  repeat' first
    | simp only [*, ↓memoryOk_iff (Frame.ofCmdOriginRead rfl), State.MemoryOk.ofCmdLinkHold, State.MemoryOk.ofCmdSlvLinkRestart, refuse]
    | split

theorem State.MemoryOk.ofCmdRead {u : State} (h : u.MemoryOk) : ((cmdRead u).state).MemoryOk := by
  unfold cmdRead
  repeat' with_reducible first
    | simp only [*, ↓memoryOk_iff (Frame.ofRefuse rfl), ↓memoryOk_iff (Frame.putReg rfl), State.MemoryOk.wakeArchive]
    | refine State.MemoryOk.foldl (fun w x hw => ?_) ?_
    | split

theorem State.MemoryOk.ofCmdVerify {u : State} (h : u.MemoryOk) : ((cmdVerify u).state).MemoryOk := by
  unfold cmdVerify
  repeat' with_reducible first
    | simp only [*, ↓memoryOk_iff (Frame.event rfl), ↓memoryOk_iff (Frame.ofRefuse rfl), State.MemoryOk.wakeArchive]
    | refine State.MemoryOk.foldl (fun w x hw => ?_) ?_
    | split

theorem State.MemoryOk.clearLedger {u : State} {x1 : Path} (h : u.MemoryOk) : (State.clearLedger u x1).MemoryOk := by
  unfold State.clearLedger
  simp only [h, ↓memoryOk_iff (Frame.afterWrite rfl), ↓memoryOk_iff (Frame.copyRecord rfl), ↓memoryOk_iff (Frame.setLedger rfl),
      State.MemoryOk.putRecord, State.MemoryOk.writeStaging]

theorem State.MemoryOk.ofCmdClear {u : State} {x1 : Path} (h : u.MemoryOk) : ((cmdClear x1 u).state).MemoryOk := by
  unfold cmdClear
  simp only [h, ↓memoryOk_iff (Frame.authFailed rfl), State.MemoryOk.clearLedger, State.MemoryOk.wakeArchive, ok, refuse,
      apply_ite CmdResult.state, ↓memoryOk_ite, ite_self]

theorem State.MemoryOk.ofLedgerCommand {u : State} {x1 : Path} {x2 : ℕ} (h : u.MemoryOk) : ((ledgerCommand x1 x2 u).state).MemoryOk := by
  unfold ledgerCommand
  repeat' first
    | simp only [*, ↓memoryOk_iff (Frame.ofCmdAck rfl), ↓memoryOk_iff (Frame.ofCmdKeyChange rfl), ↓memoryOk_iff (Frame.ofCmdKeySet rfl),
        ↓memoryOk_iff (Frame.ofCmdLedgerFlush rfl), ↓memoryOk_iff (Frame.ofCmdNonce rfl), State.MemoryOk.ofCmdClear,
        State.MemoryOk.ofCmdRead, State.MemoryOk.ofCmdVerify, refuse]
    | split

theorem State.MemoryOk.wakeSpace {u : State} {x1 : ℕ} (h : u.MemoryOk) : (State.wakeSpace u x1).MemoryOk := by
  unfold State.wakeSpace
  simp only [h, ↓memoryOk_iff (Frame.setPower rfl), State.MemoryOk.wakeArchive, ↓memoryOk_ite, ite_self]

theorem State.MemoryOk.ofCmdScanStart {u : State} (h : u.MemoryOk) : ((cmdScanStart u).state).MemoryOk := by
  unfold cmdScanStart
  simp only [h, ↓memoryOk_iff (Frame.count rfl), ↓memoryOk_iff (Frame.putReg rfl), State.MemoryOk.wakeSpace, ok, refuse,
      apply_ite CmdResult.state, ↓memoryOk_ite, ite_self]

theorem State.MemoryOk.ofCheckCommand {u : State} {x1 : CmdInput} {x2 : ℕ} (h : u.MemoryOk) : ((checkCommand x1 x2 u).state).MemoryOk := by
  unfold checkCommand
  repeat' first | simp only [*, ↓memoryOk_iff (Frame.ofCmdScanStop rfl), State.MemoryOk.ofCmdScanStart, refuse] | split

theorem State.MemoryOk.loseEntry {u : State} {x1 x2 x3 : ℕ} (h : u.MemoryOk) : (State.loseEntry u x1 x2 x3).MemoryOk := by
  unfold State.loseEntry
  repeat' first | simp only [*, ↓memoryOk_iff (Frame.modSlot rfl), State.MemoryOk.storeValue] | split

theorem State.MemoryOk.captLost {u : State} {x1 x2 : ℕ} (h : u.MemoryOk) : (State.captLost u x1 x2).MemoryOk := by
  unfold State.captLost
  simp only [h, ↓memoryOk_iff (Frame.count rfl), ↓memoryOk_iff (Frame.event rfl), ↓memoryOk_iff (Frame.putCapt rfl),
      ↓memoryOk_iff (Frame.raise rfl), State.MemoryOk.stkStore, State.MemoryOk.clearStk, ↓memoryOk_ite, ite_self]

theorem State.MemoryOk.loseWord {u : State} {x1 : MemOwner} (h : u.MemoryOk) : (State.loseWord u x1).MemoryOk := by
  unfold State.loseWord
  repeat' first
    | simp only [*, ↓memoryOk_iff (Frame.clearJobs rfl), ↓memoryOk_iff (Frame.losePacket rfl), ↓memoryOk_iff (Frame.loseRecord rfl),
        ↓memoryOk_iff (Frame.putTracker rfl), ↓memoryOk_iff (Frame.setEnergy rfl), ↓memoryOk_iff (Frame.setFault rfl),
        ↓memoryOk_iff (Frame.setIsle rfl), ↓memoryOk_iff (Frame.setLane rfl), ↓memoryOk_iff (Frame.setReed rfl),
        ↓memoryOk_iff (Frame.showOsc rfl), ↓memoryOk_iff (Frame.updatePins rfl), State.MemoryOk.captLost, State.MemoryOk.loseEntry]
    | split

theorem State.MemoryOk.retryComplete {u : State} {x1 x2 : ℕ} {x3 x4 : Bool} {x5 : MemOwner} (h : u.MemoryOk) :
    ((State.retryComplete u x1 x2 x3 x4 x5)).MemoryOk := by
  unfold State.retryComplete
  simp only [h, ↓memoryOk_iff (Frame.countClass rfl), ↓memoryOk_iff (Frame.sourceLost rfl), ↓memoryOk_iff (Frame.transient rfl),
      State.MemoryOk.checkFailed, State.MemoryOk.lasting, State.MemoryOk.lastingOn, State.MemoryOk.linkDown, State.MemoryOk.loseWord,
      ↓memoryOk_ite, ite_self]

theorem State.MemoryOk.ofCmdInject {u : State} (h : u.MemoryOk) : ((cmdInject u).state).MemoryOk := by
  unfold cmdInject
  simp only [h, ↓memoryOk_iff (Frame.event rfl), State.MemoryOk.retryComplete, ok, refuse, apply_ite CmdResult.state, ↓memoryOk_ite,
      ite_self]

theorem State.MemoryOk.ofCmdRestore {u : State} (h : u.MemoryOk) : ((cmdRestore u).state).MemoryOk := by
  unfold cmdRestore
  simp only [h, ↓memoryOk_iff (Frame.putElem rfl), ↓memoryOk_iff (Frame.showFenced rfl), State.MemoryOk.startRestore, ok, refuse,
      apply_ite CmdResult.state, ↓memoryOk_ite, ite_self]

theorem State.MemoryOk.ofFaultCommand {u : State} {x1 : ℕ} (h : u.MemoryOk) : ((faultCommand x1 u).state).MemoryOk := by
  unfold faultCommand
  repeat' first
    | simp only [*, ↓memoryOk_iff (Frame.ofCmdCountersClear rfl), ↓memoryOk_iff (Frame.ofCmdElementRead rfl),
        ↓memoryOk_iff (Frame.ofCmdHoldRelease rfl), State.MemoryOk.ofCmdInject, State.MemoryOk.ofCmdRestore, refuse]
    | split

theorem State.MemoryOk.ofCommandOf {u : State} {x1 : Path} {x2 : CmdInput} {x3 x4 : ℕ} (h : u.MemoryOk) :
    ((commandOf x1 x2 x3 x4 u).state).MemoryOk := by
  unfold commandOf
  repeat' first
    | simp only [*, ↓memoryOk_iff (Frame.ofCaptCommand rfl), ↓memoryOk_iff (Frame.ofClockCommand rfl),
        ↓memoryOk_iff (Frame.ofEnergyCommand rfl), ↓memoryOk_iff (Frame.ofIsleCommand rfl), ↓memoryOk_iff (Frame.ofPairCommand rfl),
        ↓memoryOk_iff (Frame.ofPortCommand rfl), ↓memoryOk_iff (Frame.ofPowerCommand rfl), ↓memoryOk_iff (Frame.ofQueueCommand rfl),
        ↓memoryOk_iff (Frame.ofReedCommand rfl), ↓memoryOk_iff (Frame.ofShuttleCommand rfl), ↓memoryOk_iff (Frame.ofTimeCommand rfl),
        ↓memoryOk_iff (Frame.ofVoteCommand rfl), State.MemoryOk.ofCheckCommand, State.MemoryOk.ofDraftCommand,
        State.MemoryOk.ofFaultCommand, State.MemoryOk.ofGlobalCommand, State.MemoryOk.ofHeddleCommand, State.MemoryOk.ofLedgerCommand,
        State.MemoryOk.ofLoomCommand, State.MemoryOk.ofOscCommand, State.MemoryOk.ofSlvCommand, refuse]
    | split

theorem State.MemoryOk.writeCmd {u : State} {x1 : Path} {x2 : CmdInput} {x3 x4 : ℕ} (h : u.MemoryOk) :
    ((State.writeCmd u x1 x2 x3 x4)).MemoryOk := by
  unfold State.writeCmd
  split
  · exact h.issue fun w hw => hw.ofCommandOf
  · exact h.thru (Frame.putReg rfl)

theorem State.MemoryOk.writeReg {u : State} {x1 : Path} {x2 : CmdInput} {x3 x4 : ℕ} (h : u.MemoryOk) :
    ((State.writeReg u x1 x2 x3 x4)).MemoryOk := by
  unfold State.writeReg
  dsimp only
  repeat' with_reducible first
    | assumption
    | refine State.MemoryOk.ite ?_ ?_
    | simp only [↓memoryOk_iff (Frame.hostErr rfl), ↓memoryOk_iff (Frame.writeIrq rfl), ↓memoryOk_iff (Frame.writeIrqSet rfl),
        ↓memoryOk_iff (Frame.modeRequest rfl), ↓memoryOk_iff (Frame.writeMaster rfl), ↓memoryOk_iff (Frame.setReadOnly rfl),
        ↓memoryOk_iff (Frame.reject rfl), ↓memoryOk_iff (Frame.writeMask rfl), ↓memoryOk_iff (Frame.writeQueue rfl),
        ↓memoryOk_iff (Frame.afterWriteOf _ _ rfl), ↓memoryOk_iff (Frame.writeFields rfl)]
    | refine State.MemoryOk.writeCmd ?_
    | split

theorem State.MemoryOk.monWrite {u : State} {x : CmdInput} {addr v reply : Nat} {f : State → State}
    (hf : ∀ w, w.MemoryOk → (f w).MemoryOk) (h : u.MemoryOk) : (u.monWrite x addr v reply f).MemoryOk := by
  unfold State.monWrite
  split
  · exact (h.thru (Frame.absentAccess rfl)).thru (Frame.monErr rfl)
  · exact (h.thru (Frame.noStacksAccess rfl)).thru (Frame.monErr rfl)
  · split
    · exact (h.thru (Frame.notMaster rfl)).thru (Frame.monErr rfl)
    · split
      · exact hf _ (h.thru (Frame.monNote rfl)).writeReg
      · exact h.thru (Frame.stall rfl)

theorem State.MemoryOk.busWrite {u : State} {x1 : Path} {x2 : CmdInput} {x3 x4 : ℕ} {x5 : Bool} (h : u.MemoryOk) :
    ((State.busWrite u x1 x2 x3 x4 x5)).MemoryOk := by
  unfold State.busWrite
  split
  · exact h
  · split
    · exact h.thru (Frame.hostErr rfl)
    · exact h.access fun w hw => hw.writeReg

theorem State.MemoryOk.captLoad {u : State} (h : u.MemoryOk) : (State.captLoad u).MemoryOk := by
  unfold State.captLoad
  repeat' with_reducible first
    | simp only [*, ↓memoryOk_iff (Frame.putCapt rfl), ↓memoryOk_iff (Frame.putPair rfl), ↓memoryOk_iff (Frame.putReg rfl),
        ↓memoryOk_iff (Frame.setCapt rfl), State.MemoryOk.clearStk]
    | refine State.MemoryOk.foldl (fun w x hw => ?_) ?_

theorem State.MemoryOk.captSample {u : State} {x1 : WaveSample} {x2 : ℕ} (h : u.MemoryOk) : (State.captSample u x1 x2).MemoryOk := by
  unfold State.captSample
  repeat' first
    | simp only [*, ↓memoryOk_iff (Frame.putCapt rfl), State.MemoryOk.captEntry, State.MemoryOk.flushRuns, ↓memoryOk_ite, ite_self]
    | split

theorem State.MemoryOk.captStop {u : State} (h : u.MemoryOk) : (State.captStop u).MemoryOk := by
  unfold State.captStop
  repeat' with_reducible first
    | simp only [*, ↓memoryOk_iff (Frame.disarmRegion rfl), State.MemoryOk.closeRecord, ↓memoryOk_ite, ite_self]
    | refine State.MemoryOk.foldl (fun w x hw => ?_) ?_

theorem State.MemoryOk.captWave {u : State} {x1 : WaveSample} (h : u.MemoryOk) : (State.captWave u x1).MemoryOk := by
  unfold State.captWave
  repeat' with_reducible first | simp only [*, State.MemoryOk.captSample] | refine State.MemoryOk.foldl (fun w x hw => ?_) ?_ | split

theorem State.MemoryOk.putShadow {u : State} {x1 x2 : ℕ} {x3 : List Byte} (h : u.MemoryOk) : (State.putShadow u x1 x2 x3).MemoryOk := by
  unfold State.putShadow
  simp only [h, State.MemoryOk.stkStore, State.MemoryOk.clearStk]

theorem State.MemoryOk.changeConfig {u : State} {x1 : Option Obj} {x2 : Option ℕ} {x3 : ℕ} (h : u.MemoryOk) :
    ((State.changeConfig u x1 x2 x3)).MemoryOk := by
  unfold State.changeConfig
  lift_lets
  extract_lets base was newBase is before after regions s1 s2 d1 s3 s4 s5 s6 s7
  clear_value regions after before is newBase was base
  have h1 : s1.MemoryOk := h.captAbort
  have h2 : s2.MemoryOk := by
    simp only [s2]
    split
    · exact h1
    · exact h1.getD fun v hv => (((State.weftAfter_frame s1 before after x3 v hv).mono (n := 0xfffffff9ff) rfl).memoryOk h1)
  have h3 : s3.MemoryOk := h2.thru (Frame.setDraft rfl)
  have h4 : s4.MemoryOk := (h3.thru (Frame.putFld rfl)).thru (Frame.putFld rfl)
  have h5 : s5.MemoryOk := h4.thru (Frame.captSwitch rfl)
  have h6 : s6.MemoryOk := State.MemoryOk.foldl (fun w n hw => hw.thru (Frame.osChange rfl)) h5
  cases x1 with
  | none => exact h6
  | some o =>
    refine State.MemoryOk.foldl (fun w sid hw => hw.thru (Frame.patchStream rfl)) ?_
    simp only [s7]
    split
    · exact h6.putShadow
    · exact h6

theorem State.MemoryOk.forceAll {u : State} (h : u.MemoryOk) : (State.forceAll u).MemoryOk := by
  unfold State.forceAll
  repeat' with_reducible first
    | assumption
    | simp only [↓memoryOk_ite]
    | refine State.MemoryOk.forceSlot ?_
    | refine State.MemoryOk.loomRun ?_
    | refine State.MemoryOk.foldl (fun w x hw => ?_) ?_

theorem State.MemoryOk.stopPath {u : State} (h : u.MemoryOk) : (State.stopPath u).MemoryOk := by
  unfold State.stopPath
  simp only [h, ↓memoryOk_iff (Frame.reedStop rfl), ↓memoryOk_iff (Frame.setHedQ rfl), ↓memoryOk_iff (Frame.stopLattices rfl),
      State.MemoryOk.captStop]

theorem State.MemoryOk.stopAllPaths {u : State} (h : u.MemoryOk) : (State.stopAllPaths u).MemoryOk := by
  unfold State.stopAllPaths
  simp only [h, ↓memoryOk_iff (Frame.setInputQ rfl), ↓memoryOk_iff (Frame.setLoom rfl), ↓memoryOk_iff (Frame.setLoomQ rfl),
      ↓memoryOk_iff (Frame.setReedQ rfl), ↓memoryOk_iff (Frame.setWaveQ rfl), State.MemoryOk.powerDown, State.MemoryOk.stopPath]

theorem State.MemoryOk.changeMode {u : State} {x1 x2 : ℕ} (h : u.MemoryOk) : (State.changeMode u x1 x2).MemoryOk := by
  unfold State.changeMode
  simp only [h, ↓memoryOk_iff (Frame.endHold rfl), ↓memoryOk_iff (Frame.enterMode rfl), ↓memoryOk_iff (Frame.event rfl),
      ↓memoryOk_iff (Frame.putFld rfl), ↓memoryOk_iff (Frame.resetFields rfl), ↓memoryOk_iff (Frame.showEnergy rfl),
      ↓memoryOk_iff (Frame.showOsc rfl), ↓memoryOk_iff (Frame.showSets rfl), ↓memoryOk_iff (Frame.startLattices rfl),
      ↓memoryOk_iff (Frame.startPath rfl), ↓memoryOk_iff (Frame.updateHolding rfl), State.MemoryOk.forceAll, State.MemoryOk.stopAllPaths,
      State.MemoryOk.stopPath, ↓memoryOk_ite, ite_self]

theorem State.MemoryOk.ckptArchive {u : State} {x1 : ℕ} (h : u.MemoryOk) : (State.ckptArchive u x1).MemoryOk := by
  unfold State.ckptArchive
  simp only [h, State.MemoryOk.archiveWrite, State.MemoryOk.writeCkpt, ↓memoryOk_ite, ite_self]

theorem State.MemoryOk.clearBlocks {u : State} (h : u.MemoryOk) : (State.clearBlocks u).MemoryOk := by
  unfold State.clearBlocks
  simp only [h, ↓memoryOk_iff (Frame.setFault rfl), ↓memoryOk_iff (Frame.setHedQ rfl), ↓memoryOk_iff (Frame.setHeddle rfl),
      ↓memoryOk_iff (Frame.setInputQ rfl), ↓memoryOk_iff (Frame.setIsle rfl), ↓memoryOk_iff (Frame.setLoom rfl),
      ↓memoryOk_iff (Frame.setLoomQ rfl), ↓memoryOk_iff (Frame.setOsc rfl), ↓memoryOk_iff (Frame.setPair rfl),
      ↓memoryOk_iff (Frame.setReed rfl), ↓memoryOk_iff (Frame.setReedQ rfl), ↓memoryOk_iff (Frame.setVote rfl),
      ↓memoryOk_iff (Frame.setWaveQ rfl), State.MemoryOk.noStk]

theorem State.MemoryOk.clearDone {u : State} (h : u.MemoryOk) : (State.clearDone u).MemoryOk := by
  unfold State.clearDone
  repeat' with_reducible first
    | simp only [*, ↓memoryOk_iff (Frame.raise rfl), ↓memoryOk_iff (Frame.setLedger rfl), State.MemoryOk.clearArchive]
    | refine State.MemoryOk.foldl (fun w x hw => ?_) ?_
    | split

theorem State.MemoryOk.closeInterval {u : State} {x1 x2 x3 : ℕ} (h : u.MemoryOk) : (State.closeInterval u x1 x2 x3).MemoryOk := by
  unfold State.closeInterval
  simp only [h, ↓memoryOk_iff (Frame.burst rfl), ↓memoryOk_iff (Frame.commit rfl), ↓memoryOk_iff (Frame.count rfl),
      ↓memoryOk_iff (Frame.endBurst rfl), ↓memoryOk_iff (Frame.putFp rfl), ↓memoryOk_iff (Frame.raise rfl), State.MemoryOk.storeArchive,
      ↓memoryOk_ite, ite_self]

theorem State.MemoryOk.closeFrozen {u : State} {x1 : ℕ} (h : u.MemoryOk) : (State.closeFrozen u x1).MemoryOk := by
  unfold State.closeFrozen
  repeat' with_reducible first
    | simp only [*, ↓memoryOk_iff (Frame.putFp rfl), ↓memoryOk_iff (Frame.setEnergy rfl), State.MemoryOk.closeInterval]
    | refine State.MemoryOk.foldl (fun w x hw => ?_) ?_

theorem State.MemoryOk.writeDerived {u : State} {x1 x2 x3 x4 x5 x6 : ℕ} (h : u.MemoryOk) :
    ((State.writeDerived u x1 x2 x3 x4 x5 x6)).MemoryOk := by
  unfold State.writeDerived
  repeat' first
    | simp only [*, ↓memoryOk_iff (Frame.count rfl), ↓memoryOk_iff (Frame.modSlot rfl), State.MemoryOk.checkedRead,
        State.MemoryOk.storeValue]
    | split

theorem State.MemoryOk.deriveThread {u : State} {x1 x2 : ℕ} {x3 : List Byte} {x4 : Checks} (h : u.MemoryOk) :
    ((State.deriveThread u x1 x2 x3 x4)).MemoryOk := by
  unfold State.deriveThread
  repeat' with_reducible first
    | assumption
    | simp only [↓memoryOk_ite]
    | refine State.MemoryOk.checkedRead ?_
    | refine State.MemoryOk.writeDerived ?_
    | refine State.MemoryOk.foldlFst (fun w _ x hw => ?_) ?_
    | split

theorem State.MemoryOk.deriveSlot {u : State} {x1 x2 : ℕ} {x3 : Checks} (h : u.MemoryOk) : (State.deriveSlot u x1 x2 x3).MemoryOk := by
  unfold State.deriveSlot
  repeat' with_reducible first
    | assumption
    | simp only [↓memoryOk_iff (Frame.modSlot rfl)]
    | refine State.MemoryOk.deriveThread ?_
    | refine State.MemoryOk.storeValue ?_
    | refine State.MemoryOk.writeHeader ?_
    | refine State.MemoryOk.foldl (fun w x hw => ?_) ?_
    | split

theorem State.MemoryOk.flowConfig {u : State} {x1 : ℕ} {x2 : List Byte} (h : u.MemoryOk) : (State.flowConfig u x1 x2).MemoryOk := by
  unfold State.flowConfig
  simp only [h, ↓memoryOk_iff (Frame.putFp rfl), State.MemoryOk.closeInterval, ↓memoryOk_ite, ite_self]

theorem State.MemoryOk.flowReads {u : State} {x1 x2 : ℕ} {x3 : List Byte} {x4 : Checks} (h : u.MemoryOk) :
    ((State.flowReads u x1 x2 x3 x4).1).MemoryOk := by
  unfold State.flowReads
  repeat' with_reducible first
    | simp only [*, ↓memoryOk_iff (Frame.transient rfl), State.MemoryOk.checkFailed]
    | refine State.MemoryOk.foldlFst (fun w _ x hw => ?_) ?_
    | split

theorem State.MemoryOk.flowSlot {u : State} {x1 : List Byte} {x2 x3 x4 : ℕ} {x5 : List Byte} {x6 : Checks} (h : u.MemoryOk) :
    ((State.flowSlot u x1 x2 x3 x4 x5 x6)).MemoryOk := by
  unfold State.flowSlot
  extract_lets inst rate n next s1 x s2 x2 read s3
  have h1 : s1.MemoryOk := h.flowConfig
  refine State.MemoryOk.ite h1 ?_
  have h2 : s2.MemoryOk := by
    simp only [s2]
    repeat' with_reducible first | assumption | refine State.MemoryOk.closeInterval ?_ | split
  have h3 : s3.MemoryOk := h2.flowReads
  clear_value s3
  split
  · exact h3.thru (Frame.putFp rfl)
  · have h4 : ∀ y a, (((s3.putFp x4 y).keepTotals x4 x3).count a).MemoryOk := fun y a =>
      ((h3.thru (Frame.putFp rfl)).thru (Frame.keepTotals rfl)).thru (Frame.count rfl)
    split
    · exact (h4 _ _).closeInterval
    · exact h4 _ _

theorem State.MemoryOk.energySlot {u : State} {x1 x2 : ℕ} {x3 : Checks} (h : u.MemoryOk) : (State.energySlot u x1 x2 x3).MemoryOk := by
  unfold State.energySlot
  repeat' with_reducible first
    | simp only [*, ↓memoryOk_iff (Frame.energyRestored rfl), ↓memoryOk_iff (Frame.energyResume rfl), ↓memoryOk_iff (Frame.pulseSlot rfl),
        ↓memoryOk_iff (Frame.setEnergy rfl), State.MemoryOk.flowSlot]
    | refine State.MemoryOk.foldl (fun w x hw => ?_) ?_
    | split

theorem State.MemoryOk.isleReads {u : State} {x1 x2 : ℕ} {x3 : List (ℕ × ℕ)} {x4 : Checks} (h : u.MemoryOk) :
    ((State.isleReads u x1 x2 x3 x4).1).MemoryOk := by
  unfold State.isleReads
  repeat' with_reducible first
    | simp only [*, State.MemoryOk.isleRead, apply_ite Prod.fst, ↓memoryOk_ite, ite_self]
    | refine State.MemoryOk.foldlFst (fun w _ x hw => ?_) ?_

theorem State.MemoryOk.localFreq {u : State} {x1 : List Byte} {x2 x3 : ℕ} {x4 : Checks} (h : u.MemoryOk) :
    ((State.localFreq u x1 x2 x3 x4).1).MemoryOk := by
  unfold State.localFreq
  repeat' first | simp only [*, State.MemoryOk.isleRead] | split

theorem State.MemoryOk.isleSlot {u : State} {x1 x2 : ℕ} {x3 : Checks} (h : u.MemoryOk) : (State.isleSlot u x1 x2 x3).MemoryOk := by
  unfold State.isleSlot
  repeat' with_reducible first
    | assumption
    | simp only [↓memoryOk_iff (Frame.autoStart rfl), ↓memoryOk_iff (Frame.checkSlot rfl), ↓memoryOk_iff (Frame.count rfl),
        ↓memoryOk_iff (Frame.isleGroups rfl), ↓memoryOk_iff (Frame.isleSwitch rfl), ↓memoryOk_iff (Frame.setIsle rfl),
        ↓memoryOk_iff (Frame.showIsle rfl), ↓memoryOk_iff (Frame.tieSlot rfl)]
    | refine State.MemoryOk.aggregate ?_
    | refine State.MemoryOk.isleReads ?_
    | refine State.MemoryOk.localFreq ?_
    | refine State.MemoryOk.foldl (fun w x hw => ?_) ?_
    | refine State.MemoryOk.foldlFst (fun w _ x hw => ?_) ?_
    | split

theorem State.MemoryOk.probeSlot {u : State} {x1 x2 x3 : ℕ} {x4 : Checks} (h : u.MemoryOk) :
    ((State.probeSlot u x1 x2 x3 x4)).MemoryOk := by
  unfold State.probeSlot
  repeat' with_reducible first
    | assumption
    | simp only [↓memoryOk_iff (Frame.absentTap rfl), ↓memoryOk_iff (Frame.pastTap rfl), ↓memoryOk_iff (Frame.putProbe rfl),
        ↓memoryOk_iff (Frame.validTap rfl)]
    | refine State.MemoryOk.checkedRead ?_
    | refine State.MemoryOk.foldl (fun w x hw => ?_) ?_
    | split

theorem State.MemoryOk.storeSample {u : State} {x1 x2 : ℕ} (h : u.MemoryOk) : (State.storeSample u x1 x2).MemoryOk := by
  unfold State.storeSample
  repeat' with_reducible first
    | simp only [*, ↓memoryOk_iff (Frame.putTracker rfl), State.MemoryOk.stkStore]
    | refine State.MemoryOk.foldl (fun w x hw => ?_) ?_

theorem State.MemoryOk.trackerSample {u : State} {x1 x2 x3 x4 : ℕ} (h : u.MemoryOk) : (State.trackerSample u x1 x2 x3 x4).MemoryOk := by
  unfold State.trackerSample
  simp only [h, ↓memoryOk_iff (Frame.clearJobs rfl), ↓memoryOk_iff (Frame.count rfl), ↓memoryOk_iff (Frame.formRecord rfl),
      ↓memoryOk_iff (Frame.putTracker rfl), ↓memoryOk_iff (Frame.seedTracker rfl), ↓memoryOk_iff (Frame.trackerRun rfl),
      ↓memoryOk_iff (Frame.trackerTake rfl), State.MemoryOk.storeSample, ↓memoryOk_ite, ite_self]

theorem State.MemoryOk.trackerSlot {u : State} {x1 x2 x3 x4 : ℕ} (h : u.MemoryOk) : (State.trackerSlot u x1 x2 x3 x4).MemoryOk := by
  unfold State.trackerSlot
  repeat' with_reducible first
    | simp only [*, ↓memoryOk_iff (Frame.clearJobs rfl), ↓memoryOk_iff (Frame.jobSample rfl), ↓memoryOk_iff (Frame.putTracker rfl),
        ↓memoryOk_iff (Frame.trackerConfig rfl), State.MemoryOk.trackerSample]
    | refine State.MemoryOk.foldl (fun w x hw => ?_) ?_
    | split

theorem State.MemoryOk.oscSlot {u : State} {x1 x2 : ℕ} {x3 : Checks} (h : u.MemoryOk) : (State.oscSlot u x1 x2 x3).MemoryOk := by
  unfold State.oscSlot
  repeat' with_reducible first
    | assumption
    | simp only [↓memoryOk_iff (Frame.clearJobs rfl), ↓memoryOk_iff (Frame.presentRecord rfl), ↓memoryOk_iff (Frame.putTracker rfl),
        ↓memoryOk_iff (Frame.setOsc rfl), ↓memoryOk_iff (Frame.showOsc rfl), ↓memoryOk_ite, ite_self]
    | refine State.MemoryOk.probeSlot ?_
    | refine State.MemoryOk.trackerSlot ?_
    | refine State.MemoryOk.foldl (fun w x hw => ?_) ?_

theorem State.MemoryOk.formOf {u : State} {x1 x2 x3 : ℕ} {x4 : List Byte} {x5 : LaneSt} {x6 : Checks} (h : u.MemoryOk) :
    ((State.formOf u x1 x2 x3 x4 x5 x6).1).MemoryOk := by
  unfold State.formOf
  simp only [h, State.MemoryOk.checkedRead, apply_ite Prod.fst, ite_self]

theorem State.MemoryOk.laneEval {u : State} {x1 x2 x3 : ℕ} {x4 : List (List Byte)} {x5 : Checks} {x6 : List (ℕ × ℕ)} {x7 : Bool}
    (h : u.MemoryOk) : ((State.laneEval u x1 x2 x3 x4 x5 x6 x7).1).MemoryOk := by
  unfold State.laneEval
  repeat' with_reducible first
    | simp only [*, ↓memoryOk_iff (Frame.setLane rfl), State.MemoryOk.formOf, apply_ite Prod.fst, ↓memoryOk_ite, ite_self]
    | refine State.MemoryOk.foldlFst (fun w _ x hw => ?_) ?_

theorem State.MemoryOk.laneDiffers {u : State} {x1 x2 x3 x4 : ℕ} {x5 : Bool} (h : u.MemoryOk) :
    ((State.laneDiffers u x1 x2 x3 x4 x5)).MemoryOk := by
  unfold State.laneDiffers
  simp only [h, ↓memoryOk_iff (Frame.count rfl), ↓memoryOk_iff (Frame.event rfl), ↓memoryOk_iff (Frame.putFld rfl),
      ↓memoryOk_iff (Frame.raise rfl), ↓memoryOk_iff (Frame.setLane rfl), State.MemoryOk.lasting, ↓memoryOk_ite, ite_self]

theorem State.MemoryOk.noMajority {u : State} (h : u.MemoryOk) : (State.noMajority u).MemoryOk := by
  unfold State.noMajority
  simp only [h, ↓memoryOk_iff (Frame.event rfl), State.MemoryOk.lasting]

theorem State.MemoryOk.compareLanes {u : State} {x1 x2 : ℕ} {x3 : List (List Byte)} {x4 : List ℕ} (h : u.MemoryOk) :
    ((State.compareLanes u x1 x2 x3 x4)).MemoryOk := by
  unfold State.compareLanes
  repeat' with_reducible first
    | assumption
    | simp only [↓memoryOk_iff (Frame.laneAgrees rfl), ↓memoryOk_iff (Frame.putReg rfl)]
    | refine State.MemoryOk.laneDiffers ?_
    | refine State.MemoryOk.noMajority ?_
    | refine State.MemoryOk.foldl (fun w x hw => ?_) ?_
    | split

theorem State.MemoryOk.voteSlot {u : State} {x1 x2 : ℕ} {x3 : Checks} {x4 : List (ℕ × ℕ)} (h : u.MemoryOk) :
    ((State.voteSlot u x1 x2 x3 x4)).MemoryOk := by
  unfold State.voteSlot
  repeat' with_reducible first
    | assumption
    | simp only [↓memoryOk_iff (Frame.alarmConfig rfl), ↓memoryOk_iff (Frame.count rfl), ↓memoryOk_iff (Frame.gooseSlot rfl),
        ↓memoryOk_iff (Frame.putReg rfl), ↓memoryOk_iff (Frame.resyncLanes rfl), ↓memoryOk_iff (Frame.setVote rfl),
        ↓memoryOk_iff (Frame.showPoint rfl), ↓memoryOk_iff (Frame.transition rfl), ↓memoryOk_iff (Frame.updatePins rfl)]
    | refine State.MemoryOk.compareLanes ?_
    | refine State.MemoryOk.laneEval ?_
    | refine State.MemoryOk.foldl (fun w x hw => ?_) ?_
    | refine State.MemoryOk.foldlFst (fun w _ x hw => ?_) ?_
    | split

theorem State.MemoryOk.closePipeline {u : State} {x1 : Checks} {x2 : List (ℕ × ℕ)} (h : u.MemoryOk) :
    ((State.closePipeline u x1 x2)).MemoryOk := by
  unfold State.closePipeline
  repeat' with_reducible first
    | assumption
    | simp only [↓memoryOk_iff (Frame.isleInputs rfl), ↓memoryOk_iff (Frame.modSlot rfl), ↓memoryOk_iff (Frame.setLoom rfl),
        ↓memoryOk_iff (Frame.showLattice rfl)]
    | refine State.MemoryOk.deriveSlot ?_
    | refine State.MemoryOk.energySlot ?_
    | refine State.MemoryOk.isleSlot ?_
    | refine State.MemoryOk.loomRun ?_
    | refine State.MemoryOk.oscSlot ?_
    | refine State.MemoryOk.voteSlot ?_
    | split

theorem State.MemoryOk.cmdCmd {u : State} {x1 x2 : ℕ} {x3 : List ℕ} {x4 : CmdInput} (h : u.MemoryOk) :
    ((State.cmdCmd u x1 x2 x3 x4)).MemoryOk := by
  unfold State.cmdCmd
  dsimp only
  split
  · exact h.thru (Frame.monErr rfl)
  · split
    · exact h.thru (Frame.monRefuse rfl)
    · refine State.MemoryOk.monWrite (fun w hw => hw.thru (Frame.monAnswer rfl)) ?_
      split
      · exact h.thru (Frame.putArgs rfl)
      · exact h

theorem State.MemoryOk.coldStart {u : State} (h : u.MemoryOk) : (u.coldStart).MemoryOk := by
  exact ⟨h.1, rfl⟩

theorem State.MemoryOk.crossFail {u : State} (h : u.MemoryOk) : (State.crossFail u).MemoryOk := by
  unfold State.crossFail
  repeat' first
    | simp only [*, ↓memoryOk_iff (Frame.crossLost rfl), ↓memoryOk_iff (Frame.disqualify rfl), ↓memoryOk_iff (Frame.event rfl),
        ↓memoryOk_iff (Frame.raise rfl), ↓memoryOk_iff (Frame.setTime rfl), State.MemoryOk.lasting]
    | split

theorem State.MemoryOk.replay {u : State} {x1 : ℕ} (h : u.MemoryOk) : (State.replay u x1).MemoryOk := by
  unfold State.replay
  simp only [h, ↓memoryOk_iff (Frame.anaReplay rfl), ↓memoryOk_iff (Frame.heddleReplay rfl), ↓memoryOk_iff (Frame.laneReplay rfl),
      ↓memoryOk_iff (Frame.setLoomQ rfl), ↓memoryOk_iff (Frame.setReed rfl), ↓memoryOk_iff (Frame.setReedQ rfl),
      ↓memoryOk_iff (Frame.setWaveQ rfl), ↓memoryOk_iff (Frame.shuttleReplay rfl), ↓memoryOk_iff (Frame.startLinks rfl),
      ↓memoryOk_iff (Frame.updatePins rfl), State.MemoryOk.loomRun, ↓memoryOk_ite, ite_self]

theorem State.MemoryOk.domainWoken {u : State} {x1 x2 : ℕ} (h : u.MemoryOk) : (State.domainWoken u x1 x2).MemoryOk := by
  unfold State.domainWoken
  repeat' with_reducible first
    | simp only [*, ↓memoryOk_iff (Frame.domainEvent rfl), ↓memoryOk_iff (Frame.putElem rfl), ↓memoryOk_iff (Frame.setPower rfl),
        ↓memoryOk_iff (Frame.showWoken rfl), State.MemoryOk.replay, State.MemoryOk.setDomain]
    | refine State.MemoryOk.foldl (fun w x hw => ?_) ?_
    | split

theorem State.MemoryOk.drained {u : State} (h : u.MemoryOk) : (State.drained u).MemoryOk := by
  unfold State.drained
  repeat' first
    | simp only [*, ↓memoryOk_iff (Frame.domainEvent rfl), ↓memoryOk_iff (Frame.drainEnds rfl), ↓memoryOk_iff (Frame.requestDue rfl),
        ↓memoryOk_iff (Frame.setPower rfl), State.MemoryOk.setDomain]
    | split

theorem State.MemoryOk.droopLasts {u : State} {x1 : ℕ} (h : u.MemoryOk) : (State.droopLasts u x1).MemoryOk := by
  unfold State.droopLasts
  repeat' first
    | simp only [*, ↓memoryOk_iff (Frame.count rfl), ↓memoryOk_iff (Frame.droopEvent rfl), ↓memoryOk_iff (Frame.setPower rfl),
        State.MemoryOk.lasting]
    | split

theorem State.MemoryOk.loadLost {u : State} {x1 : LoadReq} {x2 : LoadFailure} (h : u.MemoryOk) : (State.loadLost u x1 x2).MemoryOk := by
  unfold State.loadLost
  repeat' first
    | simp only [*, ↓memoryOk_iff (Frame.refuseObject rfl), ↓memoryOk_iff (Frame.setDraft rfl), State.MemoryOk.draftFails]
    | split

theorem State.MemoryOk.loadUnread {u : State} {x1 : LoadReq} {x2 : List Byte} {x3 : List ℕ} {x4 : ℕ} (h : u.MemoryOk) :
    ((State.loadUnread u x1 x2 x3 x4)).MemoryOk := by
  unfold State.loadUnread
  simp only [h, ↓memoryOk_iff (Frame.retries rfl), State.MemoryOk.loadLost, ↓memoryOk_ite, ite_self]

theorem State.MemoryOk.dropDma {u : State} {x1 : List Byte} {x2 : ℕ} (h : u.MemoryOk) : (State.dropDma u x1 x2).MemoryOk := by
  unfold State.dropDma
  repeat' first | simp only [*, ↓memoryOk_iff (Frame.setDraft rfl), State.MemoryOk.loadUnread] | split

theorem State.MemoryOk.powerUsed {u : State} (h : u.MemoryOk) : (State.powerUsed u).MemoryOk := by
  unfold State.powerUsed
  repeat' with_reducible first
    | simp only [*, ↓memoryOk_iff (Frame.domainEvent rfl), ↓memoryOk_iff (Frame.putDomain rfl), State.MemoryOk.setDomain, ↓memoryOk_ite,
        ite_self]
    | refine State.MemoryOk.foldl (fun w x hw => ?_) ?_

theorem State.MemoryOk.energyLoad {u : State} (h : u.MemoryOk) : (State.energyLoad u).MemoryOk := by
  unfold State.energyLoad
  repeat' with_reducible first
    | simp only [*, ↓memoryOk_iff (Frame.event rfl), ↓memoryOk_iff (Frame.putReg rfl), ↓memoryOk_iff (Frame.setEnergy rfl),
        ↓memoryOk_iff (Frame.setSaves rfl), ↓memoryOk_iff (Frame.showEnergy rfl), State.MemoryOk.closeFrozen]
    | refine State.MemoryOk.foldl (fun w x hw => ?_) ?_
    | split

theorem State.MemoryOk.takeDraft {u : State} {x1 : LoadReq} {x2 : Obj} (h : u.MemoryOk) : (State.takeDraft u x1 x2).MemoryOk := by
  unfold State.takeDraft
  repeat' with_reducible first
    | assumption
    | simp only [↓memoryOk_iff (Frame.applyDevice rfl), ↓memoryOk_iff (Frame.assignWeft rfl), ↓memoryOk_iff (Frame.clearFault rfl),
        ↓memoryOk_iff (Frame.condition rfl), ↓memoryOk_iff (Frame.enterMode rfl), ↓memoryOk_iff (Frame.enterWaiting rfl),
        ↓memoryOk_iff (Frame.event rfl), ↓memoryOk_iff (Frame.loadPorts rfl), ↓memoryOk_iff (Frame.loadQueues rfl),
        ↓memoryOk_iff (Frame.loadTime rfl), ↓memoryOk_iff (Frame.oscReset rfl), ↓memoryOk_iff (Frame.putFld rfl),
        ↓memoryOk_iff (Frame.putReg rfl), ↓memoryOk_iff (Frame.raise rfl), ↓memoryOk_iff (Frame.resetFields rfl),
        ↓memoryOk_iff (Frame.setDraft rfl), ↓memoryOk_iff (Frame.showDraft rfl), ↓memoryOk_iff (Frame.showFenced rfl),
        ↓memoryOk_iff (Frame.showLattices rfl), ↓memoryOk_iff (Frame.showSets rfl), ↓memoryOk_iff (Frame.showSwitch rfl),
        ↓memoryOk_iff (Frame.shuttleLoad rfl), ↓memoryOk_iff (Frame.slvLoad rfl), ↓memoryOk_iff (Frame.updateHolding rfl), ↓memoryOk_ite,
        ite_self]
    | refine State.MemoryOk.captLoad ?_
    | refine State.MemoryOk.clearBlocks ?_
    | refine State.MemoryOk.energyLoad ?_
    | refine State.MemoryOk.powerUsed ?_
    | refine State.MemoryOk.foldl (fun w x hw => ?_) ?_

theorem State.MemoryOk.takeCard {u : State} {x1 : ℕ} {x2 : List Byte} (h : u.MemoryOk) : (State.takeCard u x1 x2).MemoryOk := by
  unfold State.takeCard
  repeat' first
    | simp only [*, ↓memoryOk_iff (Frame.event rfl), ↓memoryOk_iff (Frame.refuseObject rfl), ↓memoryOk_iff (Frame.refusedRequest rfl),
        ↓memoryOk_iff (Frame.setDraft rfl), ↓memoryOk_iff (Frame.showCards rfl), State.MemoryOk.putShadow]
    | split

theorem State.MemoryOk.takeCards {u : State} {x1 : ℕ} {x2 : List Byte} (h : u.MemoryOk) : (State.takeCards x1 u x2).MemoryOk := by
  induction x1 generalizing u x2 with
  | zero => exact h
  | succ n ih =>
    unfold State.takeCards
    split
    · exact h
    · exact ih h.takeCard

theorem State.MemoryOk.endLoad {u : State} {x1 : LoadReq} {x2 : List Byte} {x3 : List ℕ} (h : u.MemoryOk) :
    ((State.endLoad u x1 x2 x3)).MemoryOk := by
  unfold State.endLoad
  repeat' with_reducible first
    | assumption
    | simp only [↓memoryOk_iff (Frame.retries rfl), ↓memoryOk_iff (Frame.setDraft rfl), ↓memoryOk_iff (Frame.takePatch rfl)]
    | refine State.MemoryOk.draftFails ?_
    | refine State.MemoryOk.loadLost ?_
    | refine State.MemoryOk.putShadow ?_
    | refine State.MemoryOk.takeCard ?_
    | refine State.MemoryOk.takeCards ?_
    | refine State.MemoryOk.takeDraft ?_
    | refine State.MemoryOk.wakeArchive ?_
    | split

theorem State.MemoryOk.endpointReset {u : State} {x1 : ℕ} {x2 : List Byte} {x3 : ℕ} (h : u.MemoryOk) :
    ((State.endpointReset u x1 x2 x3)).MemoryOk := by
  unfold State.endpointReset
  simp only [h, ↓memoryOk_iff (Frame.hostLinkDown rfl), State.MemoryOk.dropDma]

theorem State.MemoryOk.storeSave {u : State} {x1 : ℕ} (h : u.MemoryOk) : (State.storeSave u x1).MemoryOk := by
  unfold State.storeSave
  repeat' with_reducible first | simp only [*, State.MemoryOk.storeArchive] | refine State.MemoryOk.foldl (fun w x hw => ?_) ?_

theorem State.MemoryOk.energySave {u : State} {x1 : ℕ} (h : u.MemoryOk) : (State.energySave u x1).MemoryOk := by
  unfold State.energySave
  simp only [h, ↓memoryOk_iff (Frame.count rfl), ↓memoryOk_iff (Frame.event rfl), ↓memoryOk_iff (Frame.putPair rfl),
      ↓memoryOk_iff (Frame.raise rfl), ↓memoryOk_iff (Frame.setEnergy rfl), ↓memoryOk_iff (Frame.setSaves rfl),
      ↓memoryOk_iff (Frame.showEnergy rfl), State.MemoryOk.archiveWrite, State.MemoryOk.storeSave, ↓memoryOk_ite, ite_self]

theorem State.MemoryOk.energyThaw {u : State} (h : u.MemoryOk) : (State.energyThaw u).MemoryOk := by
  unfold State.energyThaw
  repeat' first | simp only [*, ↓memoryOk_iff (Frame.putFld rfl), ↓memoryOk_iff (Frame.setEnergy rfl), State.MemoryOk.closeFrozen] | split

theorem State.MemoryOk.flushDone {u : State} {x1 : ℕ} (h : u.MemoryOk) : (State.flushDone u x1).MemoryOk := by
  unfold State.flushDone
  repeat' with_reducible first
    | assumption
    | simp only [↓memoryOk_iff (Frame.drive rfl), ↓memoryOk_iff (Frame.putFld rfl), ↓memoryOk_iff (Frame.putReg rfl),
        ↓memoryOk_iff (Frame.raise rfl), ↓memoryOk_iff (Frame.setLedger rfl), ↓memoryOk_iff (Frame.setPower rfl),
        ↓memoryOk_iff (Frame.setSaves rfl), ↓memoryOk_iff (Frame.transient rfl)]
    | refine State.MemoryOk.lasting ?_
    | refine State.MemoryOk.storeSave ?_
    | refine State.MemoryOk.wakeArchive ?_
    | refine State.MemoryOk.warmBegin ?_
    | refine State.MemoryOk.writeStaging ?_
    | split

theorem State.MemoryOk.histSample {u : State} {x1 : ℕ} {x2 : ℤ} (h : u.MemoryOk) : (State.histSample u x1 x2).MemoryOk := by
  unfold State.histSample
  repeat' with_reducible first | simp only [*, State.MemoryOk.stkStore] | refine State.MemoryOk.foldl (fun w x hw => ?_) ?_ | split

theorem State.MemoryOk.imageDone {u : State} {x1 : List Byte} {x2 : Bool} (h : u.MemoryOk) : (State.imageDone u x1 x2).MemoryOk := by
  unfold State.imageDone
  split
  · exact h
  · next n len _ _ =>
    have hstore : (u.setArchive (memStore (archiveDefault 0) (memClear u.archive (2 ^ 25 * n) (2 ^ 25)) (2 ^ 25 * n)
        (x1.take len))).MemoryOk := ⟨wf_memStore (d := archiveDefault 0) _ _ (wf_memClear h.1 _ _), h.2⟩
    simp only [↓memoryOk_iff (Frame.raise rfl), ↓memoryOk_iff (Frame.event rfl), ↓memoryOk_iff (Frame.putImage rfl),
      ↓memoryOk_iff (Frame.setDraft rfl), ↓memoryOk_ite, ite_self]
    exact hstore

theorem State.MemoryOk.ledgerText {u : State} {x1 x2 : Option ℕ} (h : u.MemoryOk) : (State.ledgerText u x1 x2).MemoryOk := by
  unfold State.ledgerText
  repeat' with_reducible first
    | simp only [*, ↓memoryOk_iff (Frame.monErr rfl), ↓memoryOk_iff (Frame.prompt rfl), ↓memoryOk_iff (Frame.say rfl),
        State.MemoryOk.wakeArchive]
    | refine State.MemoryOk.foldl (fun w x hw => ?_) ?_
    | split

theorem State.MemoryOk.linkSilent {u : State} {x1 : ℕ} (h : u.MemoryOk) : (State.linkSilent u x1).MemoryOk := by
  unfold State.linkSilent
  simp only [h, State.MemoryOk.linkDown, ↓memoryOk_ite, ite_self]

theorem State.MemoryOk.loadCmd {u : State} {x1 x2 x3 : ℕ} (h : u.MemoryOk) : (State.loadCmd u x1 x2 x3).MemoryOk := by
  unfold State.loadCmd
  simp only [h, ↓memoryOk_iff (Frame.monErr rfl), ↓memoryOk_iff (Frame.monNote rfl), ↓memoryOk_iff (Frame.monOk rfl),
      ↓memoryOk_iff (Frame.monRefuse rfl), ↓memoryOk_iff (Frame.putFld rfl), ↓memoryOk_iff (Frame.say rfl),
      ↓memoryOk_iff (Frame.setDraft rfl), ↓memoryOk_iff (Frame.setHost rfl), State.MemoryOk.beginLoad, ↓memoryOk_ite, ite_self]

theorem State.MemoryOk.loadFails {u : State} {x1 : LoadReq} {x2 : List Byte} {x3 : List ℕ} {x4 : Option ℕ} (h : u.MemoryOk) :
    ((State.loadFails u x1 x2 x3 x4)).MemoryOk := by
  unfold State.loadFails
  repeat' first | simp only [*, State.MemoryOk.endLoad, State.MemoryOk.loadUnread] | split

theorem State.MemoryOk.lockLost {u : State} {x1 : ℕ} (h : u.MemoryOk) : (State.lockLost u x1).MemoryOk := by
  unfold State.lockLost
  simp only [h, State.MemoryOk.linkDown, ↓memoryOk_ite, ite_self]

theorem State.MemoryOk.sampleLatency {u : State} {x1 x2 x3 : ℕ} {x4 : List Byte} (h : u.MemoryOk) :
    ((State.sampleLatency u x1 x2 x3 x4)).MemoryOk := by
  unfold State.sampleLatency
  repeat' first | simp only [*, State.MemoryOk.histSample] | split

theorem State.MemoryOk.writeLate {u : State} {x1 x2 x3 x4 x5 : ℕ} {x6 : List Byte} (h : u.MemoryOk) :
    ((State.writeLate u x1 x2 x3 x4 x5 x6)).MemoryOk := by
  unfold State.writeLate
  repeat' first
    | simp only [*, ↓memoryOk_iff (Frame.count rfl), ↓memoryOk_iff (Frame.lateBeyond rfl), ↓memoryOk_iff (Frame.lateCopy rfl),
        ↓memoryOk_iff (Frame.loomSecond rfl), ↓memoryOk_iff (Frame.modSlot rfl), ↓memoryOk_iff (Frame.setLoom rfl),
        State.MemoryOk.sampleLatency, State.MemoryOk.storeValue, State.MemoryOk.writeHeader, ↓memoryOk_ite]
    | split

theorem State.MemoryOk.writeOnTime {u : State} {x1 x2 x3 x4 x5 : ℕ} {x6 : List Byte} (h : u.MemoryOk) :
    ((State.writeOnTime u x1 x2 x3 x4 x5 x6)).MemoryOk := by
  unfold State.writeOnTime
  simp only [h, ↓memoryOk_iff (Frame.count rfl), ↓memoryOk_iff (Frame.loomSecond rfl), ↓memoryOk_iff (Frame.putSlot rfl),
      ↓memoryOk_iff (Frame.setLoom rfl), State.MemoryOk.sampleLatency, State.MemoryOk.storeValue, ↓memoryOk_ite, ite_self]

theorem State.MemoryOk.writeItem {u : State} {x1 x2 x3 x4 : ℕ} (h : u.MemoryOk) : (State.writeItem u x1 x2 x3 x4).MemoryOk := by
  unfold State.writeItem
  repeat' first
    | simp only [*, ↓memoryOk_iff (Frame.count rfl), ↓memoryOk_iff (Frame.event rfl), ↓memoryOk_iff (Frame.raise rfl),
        State.MemoryOk.writeLate, State.MemoryOk.writeOnTime]
    | split

theorem State.MemoryOk.settleFailed {u : State} {x1 x2 : ℕ} (h : u.MemoryOk) : (State.settleFailed u x1 x2).MemoryOk := by
  unfold State.settleFailed
  repeat' first | simp only [*, ↓memoryOk_iff (Frame.putSlot rfl), State.MemoryOk.storeValue] | split

theorem State.MemoryOk.loomWrite {u : State} {x1 : ℕ} (h : u.MemoryOk) : (State.loomWrite u x1).MemoryOk := by
  unfold State.loomWrite
  repeat' with_reducible first
    | assumption
    | simp only [↓memoryOk_iff (Frame.setFault rfl), ↓memoryOk_iff (Frame.setLoomQ rfl)]
    | refine State.MemoryOk.checkedRead ?_
    | refine State.MemoryOk.loomRun ?_
    | refine State.MemoryOk.settleFailed ?_
    | refine State.MemoryOk.writeItem ?_
    | split

theorem State.MemoryOk.makeRoom {u : State} {x1 x2 : ℕ} (h : u.MemoryOk) : (State.makeRoom u x1 x2).MemoryOk := by
  unfold State.makeRoom
  repeat' with_reducible first
    | assumption
    | simp only [↓memoryOk_ite]
    | refine State.MemoryOk.forceSlot ?_
    | refine State.MemoryOk.loomRun ?_
    | refine State.MemoryOk.foldl (fun w x hw => ?_) ?_

theorem State.MemoryOk.modeCmd {u : State} {x1 : Option ℕ} (h : u.MemoryOk) : (State.modeCmd u x1).MemoryOk := by
  unfold State.modeCmd
  split
  · exact h.monLine fun w hw => hw.thru (Frame.monOk rfl)
  · refine h.monMay fun w hw => ?_
    split
    · exact hw.thru (Frame.monErr rfl)
    · exact hw.monWrite fun v hv => hv.thru (Frame.modeReply rfl)

theorem State.MemoryOk.nakCell {u : State} {x1 : ℕ} {x2 : List Byte} (h : u.MemoryOk) : (State.nakCell u x1 x2).MemoryOk := by
  unfold State.nakCell
  refine State.MemoryOk.onCell (fun w hw => ?_) h
  split
  · exact hw.askAgain
  · exact hw

theorem State.MemoryOk.opSecondsSave {u : State} (h : u.MemoryOk) : (State.opSecondsSave u).MemoryOk := by
  unfold State.opSecondsSave
  simp only [h, ↓memoryOk_iff (Frame.setLedger rfl), State.MemoryOk.wakeArchive, ↓memoryOk_ite, ite_self]

theorem State.MemoryOk.perstLevel {u : State} {x1 : Bool} {x2 : List Byte} {x3 : ℕ} (h : u.MemoryOk) :
    ((State.perstLevel u x1 x2 x3)).MemoryOk := by
  unfold State.perstLevel
  simp only [h, ↓memoryOk_iff (Frame.setHost rfl), State.MemoryOk.endpointReset, ↓memoryOk_ite, ite_self]

theorem State.MemoryOk.pfwFall {u : State} (h : u.MemoryOk) : (State.pfwFall u).MemoryOk := by
  unfold State.pfwFall
  simp only [h, ↓memoryOk_iff (Frame.count rfl), ↓memoryOk_iff (Frame.energyFreeze rfl), ↓memoryOk_iff (Frame.event rfl),
      ↓memoryOk_iff (Frame.putFld rfl), ↓memoryOk_iff (Frame.putPair rfl), ↓memoryOk_iff (Frame.raise rfl),
      ↓memoryOk_iff (Frame.setDraft rfl), ↓memoryOk_iff (Frame.setPower rfl), ↓memoryOk_iff (Frame.stageFlushed rfl),
      State.MemoryOk.abortLoad, ↓memoryOk_ite, ite_self]

theorem State.MemoryOk.pfwRecovered {u : State} (h : u.MemoryOk) : (State.pfwRecovered u).MemoryOk := by
  unfold State.pfwRecovered
  simp only [h, ↓memoryOk_iff (Frame.drive rfl), ↓memoryOk_iff (Frame.event rfl), ↓memoryOk_iff (Frame.putFld rfl),
      ↓memoryOk_iff (Frame.raise rfl), ↓memoryOk_iff (Frame.reopenLedger rfl), ↓memoryOk_iff (Frame.setLedger rfl),
      ↓memoryOk_iff (Frame.setPower rfl), State.MemoryOk.energyThaw, ↓memoryOk_ite, ite_self]

theorem State.MemoryOk.powerOn {u : State} {x1 x2 x3 : ℕ} {x4 : Bool} (h : u.MemoryOk) : (State.powerOn u x1 x2 x3 x4).MemoryOk := by
  unfold State.powerOn
  simp only [h, ↓memoryOk_iff (Frame.avsRestore rfl), ↓memoryOk_iff (Frame.event rfl), ↓memoryOk_iff (Frame.ledgerStart rfl),
      ↓memoryOk_iff (Frame.startLow rfl), ↓memoryOk_iff (Frame.strap rfl), State.MemoryOk.coldStart, ↓memoryOk_ite, ite_self]

theorem State.MemoryOk.rearmDone {u : State} {x1 : ℕ} (h : u.MemoryOk) : (State.rearmDone u x1).MemoryOk := by
  unfold State.rearmDone
  simp only [h, ↓memoryOk_iff (Frame.captState rfl), ↓memoryOk_iff (Frame.disarmRegion rfl), ↓memoryOk_iff (Frame.event rfl),
      ↓memoryOk_iff (Frame.putReg rfl), ↓memoryOk_iff (Frame.raise rfl), State.MemoryOk.closeRecord, ↓memoryOk_ite, ite_self]

theorem State.MemoryOk.recordWritten {u : State} {x1 : ℕ} (h : u.MemoryOk) : (State.recordWritten u x1).MemoryOk := by
  unfold State.recordWritten
  repeat' first
    | simp only [*, ↓memoryOk_iff (Frame.afterWrite rfl), ↓memoryOk_iff (Frame.copyRecord rfl), ↓memoryOk_iff (Frame.unstage rfl),
        State.MemoryOk.wakeArchive, State.MemoryOk.writeRecord]
    | split

theorem State.MemoryOk.reedItem {u : State} {x1 : ℕ} (h : u.MemoryOk) : (State.reedItem u x1).MemoryOk := by
  unfold State.reedItem
  repeat' first
    | simp only [*, ↓memoryOk_iff (Frame.count rfl), ↓memoryOk_iff (Frame.enterTap rfl), ↓memoryOk_iff (Frame.reedLoad rfl),
        ↓memoryOk_iff (Frame.setReedQ rfl), State.MemoryOk.checkedRead]
    | split

theorem State.MemoryOk.relockDone {u : State} {x1 : ℕ} {x2 : Bool} (h : u.MemoryOk) : (State.relockDone u x1 x2).MemoryOk := by
  unfold State.relockDone
  simp only [h, ↓memoryOk_iff (Frame.count rfl), ↓memoryOk_iff (Frame.event rfl), ↓memoryOk_iff (Frame.laneClock rfl),
      ↓memoryOk_iff (Frame.putFld rfl), ↓memoryOk_iff (Frame.raise rfl), ↓memoryOk_iff (Frame.setClock rfl),
      ↓memoryOk_iff (Frame.transient rfl), State.MemoryOk.lasting, ↓memoryOk_ite, ite_self]

theorem State.MemoryOk.resetCmd {u : State} (h : u.MemoryOk) : (State.resetCmd u).MemoryOk := by
  unfold State.resetCmd
  simp only [h, ↓memoryOk_iff (Frame.monNote rfl), ↓memoryOk_iff (Frame.monOk rfl), State.MemoryOk.warmAsk]

theorem State.MemoryOk.retransmit {u : State} {x1 : ℕ} (h : u.MemoryOk) : (State.retransmit u x1).MemoryOk := by
  unfold State.retransmit
  repeat' first | simp only [*, State.MemoryOk.askAgain] | split

theorem State.MemoryOk.retryFail {u : State} {x1 : ℕ} (h : u.MemoryOk) : (State.retryFail u x1).MemoryOk := by
  unfold State.retryFail
  simp only [h, State.MemoryOk.linkDown, ↓memoryOk_ite, ite_self]

theorem State.MemoryOk.scanFails {u : State} {x1 x2 x3 : ℕ} (h : u.MemoryOk) : (State.scanFails u x1 x2 x3).MemoryOk := by
  unfold State.scanFails
  simp only [h, ↓memoryOk_iff (Frame.transient rfl), State.MemoryOk.lasting, ↓memoryOk_ite, ite_self]

theorem State.MemoryOk.scrub {u : State} {x1 : Bool} {x2 : ScrubFind} (h : u.MemoryOk) : (State.scrub u x1 x2).MemoryOk := by
  unfold State.scrub
  repeat' first
    | simp only [*, ↓memoryOk_iff (Frame.countClass rfl), ↓memoryOk_iff (Frame.putReg rfl), State.MemoryOk.retryComplete]
    | split

theorem State.MemoryOk.serve {u : State} {x1 : Stalled} (h : u.MemoryOk) : (State.serve u x1).MemoryOk := by
  unfold State.serve
  repeat' first
    | simp only [*, ↓memoryOk_iff (Frame.answerRead rfl), ↓memoryOk_iff (Frame.emit rfl), ↓memoryOk_iff (Frame.monAnswer rfl),
        ↓memoryOk_iff (Frame.monNote rfl), ↓memoryOk_iff (Frame.monRead rfl), ↓memoryOk_iff (Frame.monStacks rfl),
        ↓memoryOk_iff (Frame.say rfl), State.MemoryOk.stkStore, State.MemoryOk.writeReg]
    | split

theorem State.MemoryOk.setDeadline {u : State} {x1 : ℕ} (h : u.MemoryOk) : (State.setDeadline u x1).MemoryOk := by
  unfold State.setDeadline
  simp only [h, State.MemoryOk.deliverLattice, State.MemoryOk.evalLattice, ↓memoryOk_ite, ite_self]

theorem State.MemoryOk.slotStarts {u : State} {x1 : ℕ} (h : u.MemoryOk) : (State.slotStarts u x1).MemoryOk := by
  unfold State.slotStarts
  repeat' first
    | simp only [*, ↓memoryOk_iff (Frame.openSlot rfl), State.MemoryOk.loomRun, State.MemoryOk.makeRoom, State.MemoryOk.skipSlots,
        ↓memoryOk_ite, ite_self]
    | split

theorem State.MemoryOk.takeSwitch {u : State} {x1 : Option Obj} {x2 : Option SwitchReq} {x3 : ℕ} (h : u.MemoryOk) :
    ((State.takeSwitch u x1 x2 x3)).MemoryOk := by
  unfold State.takeSwitch
  repeat' with_reducible first
    | assumption
    | simp only [↓memoryOk_iff (Frame.count rfl), ↓memoryOk_iff (Frame.event rfl), ↓memoryOk_iff (Frame.putFld rfl),
        ↓memoryOk_iff (Frame.raise rfl), ↓memoryOk_iff (Frame.setDraft rfl), ↓memoryOk_iff (Frame.showSwitch rfl),
        ↓memoryOk_iff (Frame.switchDone rfl), ↓memoryOk_iff (Frame.updatePins rfl)]
    | refine State.MemoryOk.changeConfig ?_
    | refine State.MemoryOk.changeMode ?_
    | refine State.MemoryOk.loomRun ?_
    | split

theorem State.MemoryOk.stagingComplete {u : State} (h : u.MemoryOk) : (State.stagingComplete u).MemoryOk := by
  unfold State.stagingComplete
  repeat' first | simp only [*, State.MemoryOk.takeSwitch] | split

theorem State.MemoryOk.surpriseDown {u : State} {x1 : List Byte} {x2 : ℕ} (h : u.MemoryOk) : (State.surpriseDown u x1 x2).MemoryOk := by
  unfold State.surpriseDown
  simp only [h, State.MemoryOk.endpointReset, ↓memoryOk_ite, ite_self]

theorem State.MemoryOk.switchSlot {u : State} (h : u.MemoryOk) : (State.switchSlot u).MemoryOk := by
  unfold State.switchSlot
  repeat' first | simp only [*, State.MemoryOk.takeSwitch] | split

theorem State.MemoryOk.uartEnds {u : State} {x1 : UartLoad} {x2 : ℕ} (h : u.MemoryOk) : (State.uartEnds u x1 x2).MemoryOk := by
  unfold State.uartEnds
  repeat' first
    | simp only [*, ↓memoryOk_iff (Frame.event rfl), ↓memoryOk_iff (Frame.putFld rfl), ↓memoryOk_iff (Frame.setHost rfl),
        State.MemoryOk.loadUnread]
    | split

theorem State.MemoryOk.uartSilent {u : State} (h : u.MemoryOk) : (State.uartSilent u).MemoryOk := by
  unfold State.uartSilent
  repeat' first | simp only [*, ↓memoryOk_iff (Frame.uartIdle rfl), State.MemoryOk.uartEnds] | split

theorem State.MemoryOk.uartTake {u : State} {x1 : List Byte} {x2 : ℕ} (h : u.MemoryOk) : (State.uartTake u x1 x2).MemoryOk := by
  unfold State.uartTake
  repeat' first
    | simp only [*, ↓memoryOk_iff (Frame.emit rfl), ↓memoryOk_iff (Frame.setHost rfl), ↓memoryOk_iff (Frame.uartIdle rfl),
        State.MemoryOk.uartEnds]
    | split

theorem State.MemoryOk.wakeFails {u : State} {x1 x2 : ℕ} (h : u.MemoryOk) : (State.wakeFails u x1 x2).MemoryOk := by
  unfold State.wakeFails
  repeat' with_reducible first
    | simp only [*, ↓memoryOk_iff (Frame.setPower rfl), State.MemoryOk.lasting, State.MemoryOk.restoreFailed]
    | refine State.MemoryOk.foldl (fun w x hw => ?_) ?_
    | split

theorem State.MemoryOk.wakeDone {u : State} {x1 : ℕ} {x2 : Bool} (h : u.MemoryOk) : (State.wakeDone u x1 x2).MemoryOk := by
  unfold State.wakeDone
  split
  · exact h
  · split
    · exact (h.domainWoken.release fun w a hw => hw.serve).thru (Frame.requestDue rfl)
    · exact h.wakeFails.release fun w a hw => hw.thru (Frame.deny rfl)

theorem State.MemoryOk.warmEnd {u : State} (h : u.MemoryOk) : (State.warmEnd u).MemoryOk := by
  unfold State.warmEnd
  split
  · exact h
  · extract_lets s1 fault s2 power s3
    have h1 : s1.MemoryOk := State.MemoryOk.foldl (fun w d hw => hw.domainWoken) h
    have h2 : s2.MemoryOk := by
      simp only [s2]
      split
      · exact h1.thru (Frame.setFault rfl)
      · exact h1
    have h3 : s3.MemoryOk := (h2.thru (Frame.setPower rfl)).thru (Frame.raise rfl)
    refine State.MemoryOk.thru (State.MemoryOk.foldl (fun w d hw => ?_) h3) (Frame.updateHolding rfl)
    split
    · exact hw.release fun v a hv => hv.serve
    · exact hw

theorem State.MemoryOk.waveSample {u : State} (h : u.MemoryOk) : (State.waveSample u).MemoryOk := by
  unfold State.waveSample
  repeat' first
    | simp only [*, ↓memoryOk_iff (Frame.enterSample rfl), ↓memoryOk_iff (Frame.reedLoad rfl), ↓memoryOk_iff (Frame.runWave rfl),
        ↓memoryOk_iff (Frame.setWaveQ rfl), State.MemoryOk.captWave]
    | split

theorem State.MemoryOk.waveWaitEnd {u : State} {x1 : ℕ} (h : u.MemoryOk) : (State.waveWaitEnd u x1).MemoryOk := by
  unfold State.waveWaitEnd
  simp only [h, ↓memoryOk_iff (Frame.captState rfl), State.MemoryOk.flushRuns, ↓memoryOk_ite, ite_self]

theorem State.MemoryOk.wrCmd {u : State} {x1 x2 : ℕ} {x3 : CmdInput} (h : u.MemoryOk) : (State.wrCmd u x1 x2 x3).MemoryOk := by
  unfold State.wrCmd
  split
  · exact h.thru (Frame.monErr rfl)
  · exact h.monWrite fun w hw => hw.thru (Frame.monOk rfl)

theorem State.MemoryOk.wrstPulse {u : State} {x1 : ℕ} (h : u.MemoryOk) : (State.wrstPulse u x1).MemoryOk := by
  unfold State.wrstPulse
  simp only [h, State.MemoryOk.warmAsk, ↓memoryOk_ite, ite_self]

end Sys2Proof.Machine
end

section
/-!
PROOFS. Sys2Proof/Proofs/MemoryKept.lean: every command, and every step, keeps both memories in their canonical form.
-/

namespace Sys2Proof.Machine

theorem run_memoryOk (t : Nat) (f : State → State) {s u : State} (hf : ∀ w, w.MemoryOk → (f w).MemoryOk) (h : s.MemoryOk)
    (e : run t f s = .next u) : u.MemoryOk := by
  unfold run at e
  split at e
  · cases e
    exact h
  · cases e
    exact hf _ (h.thru (Frame.at rfl))

theorem command_memoryOk (t b op : Nat) (path : Path) (body : State → CmdResult) (x : CmdInput) {s u : State}
    (hb : ∀ w, w.MemoryOk → (body w).state.MemoryOk) (h : s.MemoryOk) (e : command t b op path body s x = .next u) : u.MemoryOk :=
  run_memoryOk t (fun s => s.goWrite b op path body x) (fun _ hw => State.MemoryOk.access (fun _ hv => hv.issue hb) hw) h e

theorem State.MemoryOk.loadEnds {u : State} {kind : LoadKind} {f : LoadReq → State → State} (hf : ∀ l w, w.MemoryOk → (f l w).MemoryOk)
    (h : u.MemoryOk) : (u.loadEnds kind f).MemoryOk := by
  unfold State.loadEnds
  split
  · exact h
  · split
    · exact ((hf _ _ h).thru (Frame.setHost rfl)).ite (hf _ _ h)
    · exact h

theorem exec_memoryOk_of_not_writes {i : Instr} {s u : State} (hs : s.held = false) (h : s.MemoryOk) (e : exec i s = .next u)
    (hi : i.isPowerOn = false) (ha : Part.archive ∉ i.writes) (hk : Part.stk ∉ i.writes) : u.MemoryOk := by
  have harchive : (s.at i.time).archive = u.archive := (exec_same e hs hi ha).symm
  have hstk : (s.at i.time).stk = u.stk := (exec_same e hs hi hk).symm
  have hat : (s.at i.time).MemoryOk := h.thru (Frame.at rfl)
  exact ⟨harchive ▸ hat.1, hstk ▸ hat.2⟩

/-- Every command but those below writes neither memory; each of those below runs an operation that keeps their form. -/
theorem exec_memoryOk {i : Instr} {s u : State} (hs : s.held = false) (h : s.MemoryOk) (e : exec i s = .next u) : u.MemoryOk := by
  cases i
  case powerOnReset => cases e; exact h.powerOn
  case loadFail t object retried at' =>
    refine run_memoryOk t (fun s => match s.draft.load with | none => s | some l => s.loadEnds l.kind (fun l s => s.loadFails l object retried at'))
      (fun w hw => ?_) h e
    cases w.draft.load with
    | none => exact hw
    | some l => exact State.MemoryOk.loadEnds (fun l v hv => hv.loadFails) hw
  case histReset t path => exact command_memoryOk t 6 3 path cmdHistReset {} (fun w hw => hw.ofCmdHistReset) h e
  case bar2Write t addr bytes => exact run_memoryOk t (·.bar2Put addr bytes) (fun w hw => hw.bar2Put) h e
  case rearmDone t region => exact run_memoryOk t (·.rearmDone region) (fun w hw => hw.rearmDone) h e
  case imageDone t bytes good => exact run_memoryOk t (·.imageDone bytes good) (fun w hw => hw.imageDone) h e
  case waveWaitEnd t region => exact run_memoryOk t (·.waveWaitEnd region) (fun w hw => hw.waveWaitEnd) h e
  case clearDone t => exact run_memoryOk t State.clearDone (fun w hw => hw.clearDone) h e
  case pfwRecovered t => exact run_memoryOk t State.pfwRecovered (fun w hw => hw.pfwRecovered) h e
  case setDeadline t lattice => exact run_memoryOk t (·.setDeadline lattice) (fun w hw => hw.setDeadline) h e
  case closeNow t path => exact command_memoryOk t 6 5 path cmdCloseNow {} (fun w hw => hw.ofCmdCloseNow) h e
  case slotInstant t lattice => exact run_memoryOk t (·.slotStarts lattice) (fun w hw => hw.slotStarts) h e
  case waveformSample t => exact run_memoryOk t State.waveSample (fun w hw => hw.waveSample) h e
  case silenceTimeout t sid => exact run_memoryOk t (fun s => (s.silence sid).loomRun) (fun w hw => (hw.thru (Frame.silence rfl)).loomRun) h e
  case c37ConfigFrame t => exact run_memoryOk t (fun s => (State.c37Config s).loomRun) (fun w hw => (hw.thru (Frame.c37Config rfl)).loomRun) h e
  case load t path => exact command_memoryOk t 1 1 path (cmdLoad path) {} (fun w hw => hw.ofCmdLoad) h e
  case automaticBoot t => exact run_memoryOk t State.bootLoad (fun w hw => hw.bootLoad) h e
  case unload t path => exact command_memoryOk t 1 2 path cmdUnload {} (fun w hw => hw.ofCmdUnload) h e
  case imageWrite t path => exact command_memoryOk t 1 7 path cmdImageWrite {} (fun w hw => hw.ofCmdImageWrite) h e
  case opSecondsSave t => exact run_memoryOk t State.opSecondsSave (fun w hw => hw.opSecondsSave) h e
  case read t path => exact command_memoryOk t 24 1 path cmdRead {} (fun w hw => hw.ofCmdRead) h e
  case verify t path => exact command_memoryOk t 24 4 path cmdVerify {} (fun w hw => hw.ofCmdVerify) h e
  case scanStart t path => exact command_memoryOk t 25 1 path cmdScanStart {} (fun w hw => hw.ofCmdScanStart) h e
  case pfwFall t => exact run_memoryOk t State.pfwFall (fun w hw => hw.pfwFall) h e
  case archiveRetain t => exact run_memoryOk t State.archiveIdle (fun w hw => hw.archiveIdle) h e
  case sessionPdu t => exact run_memoryOk t (fun s => (State.sessionPdu s).loomRun) (fun w hw => (hw.thru (Frame.sessionPdu rfl)).loomRun) h e
  case svFrame t => exact run_memoryOk t (fun s => (State.svFrame s).loomRun) (fun w hw => (hw.thru (Frame.svFrame rfl)).loomRun) h e
  case drainComplete t => exact run_memoryOk t State.drained (fun w hw => hw.drained) h e
  case monLedger t acc n =>
    exact run_memoryOk t (·.monLine (·.ledgerText acc n)) (fun w hw => State.MemoryOk.monLine (fun v hv => hv.ledgerText) hw) h e
  case streamEnable t path => exact command_memoryOk t 4 2 path cmdStreamEnable {} (fun w hw => hw.ofCmdStreamEnable) h e
  case restore t path => exact command_memoryOk t 30 3 path cmdRestore {} (fun w hw => hw.ofCmdRestore) h e
  case perstN t low object off => exact run_memoryOk t (·.perstLevel low object off) (fun w hw => hw.perstLevel) h e
  case monLoad t source kind length =>
    exact run_memoryOk t (·.monOwn (·.loadCmd source kind length)) (fun w hw => State.MemoryOk.monOwn (fun v hv => hv.loadCmd) hw) h e
  case uartBlock t block crc => exact run_memoryOk t (·.uartTake block crc) (fun w hw => hw.uartTake) h e
  case uartTimeout t => exact run_memoryOk t State.uartSilent (fun w hw => hw.uartSilent) h e
  case surpriseLinkDown t object off => exact run_memoryOk t (·.surpriseDown object off) (fun w hw => hw.surpriseDown) h e
  case imageErase t path => exact command_memoryOk t 1 8 path cmdImageErase {} (fun w hw => hw.ofCmdImageErase) h e
  case crossFail t => exact run_memoryOk t State.crossFail (fun w hw => hw.crossFail) h e
  case configScan t element' fails => exact run_memoryOk t (·.scanFails fcCfgScan element' fails) (fun w hw => hw.scanFails) h e
  case shadowScan t fails =>
    exact run_memoryOk t (fun s => if s.draft.base.isNone then s else s.scanFails fcShadow (element pdCtrl wholeDomain) fails) (fun w hw => hw.ite hw.scanFails) h e
  case heartbeatCell t link bytes => exact run_memoryOk t (·.beatCell link bytes) (fun w hw => hw.beatCell) h e
  case linkSilent t link => exact run_memoryOk t (·.linkSilent link) (fun w hw => hw.linkSilent) h e
  case nakCell t link bytes => exact run_memoryOk t (·.nakCell link bytes) (fun w hw => hw.nakCell) h e
  case retransmit t link => exact run_memoryOk t (·.retransmit link) (fun w hw => hw.retransmit) h e
  case retryFail t link => exact run_memoryOk t (·.retryFail link) (fun w hw => hw.retryFail) h e
  case slvLinkRestart t path => exact command_memoryOk t 13 1 path cmdSlvLinkRestart {} (fun w hw => hw.ofCmdSlvLinkRestart) h e
  case linkHold t path => exact command_memoryOk t 13 2 path cmdLinkHold {} (fun w hw => hw.ofCmdLinkHold) h e
  case droopLasting t supply => exact run_memoryOk t (·.droopLasts supply) (fun w hw => hw.droopLasts) h e
  case lockLost t link => exact run_memoryOk t (·.lockLost link) (fun w hw => hw.lockLost) h e
  case c37DataFrame t => exact run_memoryOk t (fun s => (State.c37Data s).loomRun) (fun w hw => (hw.thru (Frame.c37Data rfl)).loomRun) h e
  case relockDone t island ok => exact run_memoryOk t (·.relockDone island ok) (fun w hw => hw.relockDone) h e
  case recordWritten t fails => exact run_memoryOk t (·.recordWritten fails) (fun w hw => hw.recordWritten) h e
  case clear t path => exact command_memoryOk t 24 6 path (cmdClear path) {} (fun w hw => hw.ofCmdClear) h e
  case ckptArchive t fails => exact run_memoryOk t (·.ckptArchive fails) (fun w hw => hw.ckptArchive) h e
  case ckptSave t path => exact command_memoryOk t 7 4 path cmdCkptSave {} (fun w hw => hw.ofCmdCkptSave) h e
  case warmReset t path => exact command_memoryOk t 0 1 path (cmdWarmReset path) {} (fun w hw => hw.ofCmdWarmReset) h e
  case wrstN t lowNs => exact run_memoryOk t (·.wrstPulse lowNs) (fun w hw => hw.wrstPulse) h e
  case monResetWarm t => exact run_memoryOk t (·.monOwn State.resetCmd) (fun w hw => State.MemoryOk.monOwn (fun v hv => hv.resetCmd) hw) h e
  case energySave t fails => exact run_memoryOk t (·.energySave fails) (fun w hw => hw.energySave) h e
  case reedItem t fails => exact run_memoryOk t (·.reedItem fails) (fun w hw => hw.reedItem) h e
  case loomWrite t fails => exact run_memoryOk t (·.loomWrite fails) (fun w hw => hw.loomWrite) h e
  case flushDone t fails => exact run_memoryOk t (·.flushDone fails) (fun w hw => hw.flushDone) h e
  case retryComplete t cls element' ok spent owner =>
    exact run_memoryOk t (·.retryComplete cls element' ok spent owner) (fun w hw => hw.retryComplete) h e
  case scrub t inStacks find => exact run_memoryOk t (·.scrub inStacks find) (fun w hw => hw.scrub) h e
  case inject t path => exact command_memoryOk t 30 2 path cmdInject {} (fun w hw => hw.ofCmdInject) h e
  case closePipeline t checks upsets => exact run_memoryOk t (fun s => s.closePipeline checks upsets) (fun w hw => hw.closePipeline) h e
  case stagingComplete t => exact run_memoryOk t State.stagingComplete (fun w hw => hw.stagingComplete) h e
  case switchSlot t => exact run_memoryOk t State.switchSlot (fun w hw => hw.switchSlot) h e
  case registerWrite t path addr value whole x =>
    exact run_memoryOk t (·.busWrite path x (addr % 2 ^ 25) value.toNat whole) (fun w hw => hw.busWrite) h e
  case irqSet t path block value =>
    exact run_memoryOk t (fun s => if blockHeader block then s.busWrite path {} (hdr block 0x18) value.toNat true else s) (fun w hw => hw.busWrite.ite hw) h e
  case irqStatusWrite t path block enable value =>
    exact run_memoryOk t (fun s => if blockHeader block then s.busWrite path {} (hdr block (if enable then 0x14 else 0x10)) value.toNat true else s) (fun w hw => hw.busWrite.ite hw) h e
  case msixUnmask t path vector =>
    exact run_memoryOk t (fun s => if vector < 64 then s.busWrite path {} (R.HOST_MSIXn_CTRL vector) 0 true else s) (fun w hw => hw.busWrite.ite hw) h e
  case monWr t addr value x =>
    exact run_memoryOk t (·.monMay (·.wrCmd addr value x)) (fun w hw => State.MemoryOk.monMay (fun v hv => hv.wrCmd) hw) h e
  case monCmd t block opcode args x =>
    exact run_memoryOk t (·.monMay (·.cmdCmd block opcode args x)) (fun w hw => State.MemoryOk.monMay (fun v hv => hv.cmdCmd) hw) h e
  case monMode t mode => exact run_memoryOk t (·.modeCmd mode) (fun w hw => hw.modeCmd) h e
  case loadDone t object retried =>
    exact run_memoryOk t (·.loadEnds .draft (fun l s => s.endLoad l object retried)) (fun w hw => State.MemoryOk.loadEnds (fun l v hv => hv.endLoad) hw) h e
  case cardLoaded t object retried =>
    exact run_memoryOk t (·.loadEnds .card (fun l s => s.endLoad l object retried)) (fun w hw => State.MemoryOk.loadEnds (fun l v hv => hv.endLoad) hw) h e
  case patchAccepted t object retried =>
    exact run_memoryOk t (·.loadEnds .patch (fun l s => s.endLoad l object retried)) (fun w hw => State.MemoryOk.loadEnds (fun l v hv => hv.endLoad) hw) h e
  case warmDone t => exact run_memoryOk t State.warmEnd (fun w hw => hw.warmEnd) h e
  case domainWakeDone t d good => exact run_memoryOk t (·.wakeDone d good) (fun w hw => hw.wakeDone) h e
  all_goals exact exec_memoryOk_of_not_writes hs h e rfl (of_decide_eq_true rfl) (of_decide_eq_true rfl)

/-- Settles O4: each command keeps the form of both memories, the front of the queue as any other. -/
theorem memoriesStayCanonical : Obligations.MemoriesStayCanonical := by
  intro s u h e
  cases hpending : s.pending with
  | nil =>
    rw [step_of_empty hpending] at e
    cases e
    exact h
  | cons c rest =>
    rw [step_of_pending hpending] at e
    have hrest : (s.setPending rest).MemoryOk := h.thru (Frame.setPending rfl)
    by_cases hheld : (s.setPending rest).held = false
    · exact exec_memoryOk hheld hrest e
    · cases c
      case powerOnReset => cases e; exact hrest.powerOn
      all_goals
        rw [exec_still (by simpa using hheld) _ rfl] at e
        cases e
        exact hrest

end Sys2Proof.Machine
end

section
/-!
PROOFS. Sys2Proof/Proofs/RegisterFrames.lean: which registers each shared operation leaves as they are, and how a command's outcome on a
state written out is used.
-/

namespace Sys2Proof.Machine

/-! Which registers an operation leaves: a frame goes through every operation that writes only registers of its list. -/

section

variable {s u v : State} {l : List Nat}

theorem SameRegs.refl (s : State) (l : List Nat) : SameRegs s s l := fun _ _ => rfl

theorem SameRegs.trans (h : SameRegs s u l) (k : SameRegs u v l) : SameRegs s v l := fun a ha => (k a ha).trans (h a ha)

theorem SameRegs.mono {m : List Nat} (h : SameRegs s u l) (hl : l ⊆ m) : SameRegs s u m := fun a ha => h a fun hm => ha (hl hm)

theorem SameRegs.symm (h : SameRegs s u l) : SameRegs u s l := fun a ha => (h a ha).symm

theorem SameRegs.iff (h : SameRegs u v l) : SameRegs s v l ↔ SameRegs s u l := ⟨fun k => k.trans h.symm, fun k => k.trans h⟩

theorem SameRegs.of_regs (h : v.regs = u.regs) (l : List Nat) : SameRegs u v l := fun a _ => regN_congr h a

theorem SameRegs.fld (h : SameRegs s u l) {f : Fld} (hf : f.addr ∉ l) : u.fld f = s.fld f := by
  unfold State.fld
  rw [h _ hf]

theorem SameRegs.isSet (h : SameRegs s u l) {f : Fld} (hf : f.addr ∉ l) : u.isSet f = s.isSet f := by
  unfold State.isSet
  rw [h.fld hf]

theorem sameRegs_putReg_self (u : State) (a v : Nat) : SameRegs u (u.putReg a v) [a] := fun b hb =>
  State.regN_putReg_other u v fun h => hb (by simp [h])

theorem sameRegs_putReg {a v : Nat} (h : a ∈ l) : SameRegs s (u.putReg a v) l ↔ SameRegs s u l :=
  ((sameRegs_putReg_self u a v).mono (by simpa using h)).iff

theorem sameRegs_putFld {f : Fld} {v : Nat} (h : f.addr ∈ l) : SameRegs s (u.putFld f v) l ↔ SameRegs s u l := sameRegs_putReg h

theorem sameRegs_count {a n : Nat} (h : a ∈ l) : SameRegs s (u.count a n) l ↔ SameRegs s u l := sameRegs_putReg h

theorem sameRegs_countSat {a n : Nat} (h : a ∈ l) : SameRegs s (u.countSat a n) l ↔ SameRegs s u l := sameRegs_putReg h

theorem sameRegs_putPair {a v : Nat} (h : a ∈ l) (k : a + 4 ∈ l) : SameRegs s (u.putPair a v) l ↔ SameRegs s u l := by
  unfold State.putPair
  rw [sameRegs_putReg k, sameRegs_putReg h]

theorem sameRegs_signal {n : Nat} (h : R.HOST_PBAn (n / 32) ∈ l) : SameRegs s (u.signal n) l ↔ SameRegs s u l :=
  SameRegs.iff fun _ ha => State.regN_signal u n fun e => ha (e ▸ h)

theorem sameRegs_raise {c : Nat × Nat} (h : R.HOST_PBAn (c.1 / 32) ∈ l) : SameRegs s (u.raise c) l ↔ SameRegs s u l :=
  SameRegs.iff fun _ ha => State.regN_raise u c fun e => ha (e ▸ h)

theorem sameRegs_mirrorSend {k : Nat} {b : List Byte} (h : R.PAIR_MIRROR_SENT ∈ l) : SameRegs s (u.mirrorSend k b) l ↔ SameRegs s u l :=
  SameRegs.iff fun _ ha => State.regN_mirrorSend u k b fun e => ha (e ▸ h)

theorem sameRegs_event {code src : Nat} {p : List Byte} (h : R.HOST_PBAn 0 ∈ l) (k : R.PAIR_MIRROR_SENT ∈ l) :
    SameRegs s (u.event code src p) l ↔ SameRegs s u l :=
  SameRegs.iff fun _ ha => State.regN_event u code src p (fun e => ha (e ▸ h)) fun e => ha (e ▸ k)

theorem sameRegs_reject {p : Path} {addr : Nat} (h : hdr (addr / 2 ^ 20) 0x80 ∈ l) (k : hdr (addr / 2 ^ 20) 0x84 ∈ l) :
    SameRegs s (u.reject p addr) l ↔ SameRegs s u l :=
  SameRegs.iff fun _ ha => State.regN_reject u p addr (fun e => ha (e ▸ h)) fun e => ha (e ▸ k)

theorem sameRegs_foldl {α : Type} {f : State → α → State} {m : List α} (h : ∀ w x, x ∈ m → SameRegs w (f w x) l) :
    SameRegs s (m.foldl f u) l ↔ SameRegs s u l := by
  induction m generalizing u with
  | nil => rfl
  | cons x m ih =>
    rw [List.foldl_cons, ih fun w y hy => h w y (List.mem_cons_of_mem x hy)]
    exact (h u x List.mem_cons_self).iff

/-- DONE with status OK leaves every register but the four in which the command shows its outcome. -/
theorem sameRegs_finish_ok {b op : Nat} (h : hdr b 0x40 ∈ l) (h1 : hdr b 0x54 ∈ l) (h2 : hdr b 0x58 ∈ l) (h3 : hdr b 0x5C ∈ l) :
    SameRegs s (finish b op (ok u)) l ↔ SameRegs s u l := by
  rw [finish_ok rfl rfl, sameRegs_putReg h3, sameRegs_putReg h2, sameRegs_putReg h1, sameRegs_putReg h]
  rfl

@[simp] theorem sameRegs_emit {o : Output} : SameRegs s (u.emit o) l ↔ SameRegs s u l := (SameRegs.of_regs (State.emit_regs u o) l).iff
@[simp] theorem sameRegs_setPending {x : List Instr} : SameRegs s (u.setPending x) l ↔ SameRegs s u l := (SameRegs.of_regs (State.setPending_regs u x) l).iff
@[simp] theorem sameRegs_setHeld {x : Bool} : SameRegs s (u.setHeld x) l ↔ SameRegs s u l := (SameRegs.of_regs (State.setHeld_regs u x) l).iff
@[simp] theorem sameRegs_setBoot {x : Nat × Nat × Nat} : SameRegs s (u.setBoot x) l ↔ SameRegs s u l := (SameRegs.of_regs (State.setBoot_regs u x) l).iff
@[simp] theorem sameRegs_setBases {x : Bases} : SameRegs s (u.setBases x) l ↔ SameRegs s u l := (SameRegs.of_regs (State.setBases_regs u x) l).iff
@[simp] theorem sameRegs_setSnaps {x : SMap Word} : SameRegs s (u.setSnaps x) l ↔ SameRegs s u l := (SameRegs.of_regs (State.setSnaps_regs u x) l).iff
@[simp] theorem sameRegs_setIrq {x : SMap IrqBlk} : SameRegs s (u.setIrq x) l ↔ SameRegs s u l := (SameRegs.of_regs (State.setIrq_regs u x) l).iff
@[simp] theorem sameRegs_setLedger {x : LedgerSt} : SameRegs s (u.setLedger x) l ↔ SameRegs s u l := (SameRegs.of_regs (State.setLedger_regs u x) l).iff
@[simp] theorem sameRegs_setDraft {x : DraftSt} : SameRegs s (u.setDraft x) l ↔ SameRegs s u l := (SameRegs.of_regs (State.setDraft_regs u x) l).iff
@[simp] theorem sameRegs_setArchive {x : SMap Byte} : SameRegs s (u.setArchive x) l ↔ SameRegs s u l := (SameRegs.of_regs (State.setArchive_regs u x) l).iff
@[simp] theorem sameRegs_setStk {x : SMap Byte} : SameRegs s (u.setStk x) l ↔ SameRegs s u l := (SameRegs.of_regs (State.setStk_regs u x) l).iff
@[simp] theorem sameRegs_setOut {x : List Output} : SameRegs s (u.setOut x) l ↔ SameRegs s u l := (SameRegs.of_regs (State.setOut_regs u x) l).iff
@[simp] theorem sameRegs_setFreeCount {x : Nat} : SameRegs s (u.setFreeCount x) l ↔ SameRegs s u l := (SameRegs.of_regs (State.setFreeCount_regs u x) l).iff
@[simp] theorem sameRegs_setTime {x : TimeSt} : SameRegs s (u.setTime x) l ↔ SameRegs s u l := (SameRegs.of_regs (State.setTime_regs u x) l).iff
@[simp] theorem sameRegs_setVote {x : VoteSt} : SameRegs s (u.setVote x) l ↔ SameRegs s u l := (SameRegs.of_regs (State.setVote_regs u x) l).iff
@[simp] theorem sameRegs_setFault {x : FaultSt} : SameRegs s (u.setFault x) l ↔ SameRegs s u l := (SameRegs.of_regs (State.setFault_regs u x) l).iff
@[simp] theorem sameRegs_setPair {x : PairSt} : SameRegs s (u.setPair x) l ↔ SameRegs s u l := (SameRegs.of_regs (State.setPair_regs u x) l).iff
@[simp] theorem sameRegs_setPower {x : PowerSt} : SameRegs s (u.setPower x) l ↔ SameRegs s u l := (SameRegs.of_regs (State.setPower_regs u x) l).iff
@[simp] theorem sameRegs_setQueues {x : SMap QueueSt} : SameRegs s (u.setQueues x) l ↔ SameRegs s u l := (SameRegs.of_regs (State.setQueues_regs u x) l).iff
@[simp] theorem sameRegs_setPort {x : PortSt} : SameRegs s (u.setPort x) l ↔ SameRegs s u l := (SameRegs.of_regs (State.setPort_regs u x) l).iff
@[simp] theorem sameRegs_setHedQ {x : List HedFrame} : SameRegs s (u.setHedQ x) l ↔ SameRegs s u l := (SameRegs.of_regs (State.setHedQ_regs u x) l).iff
@[simp] theorem sameRegs_setHeddle {x : HeddleSt} : SameRegs s (u.setHeddle x) l ↔ SameRegs s u l := (SameRegs.of_regs (State.setHeddle_regs u x) l).iff
@[simp] theorem sameRegs_setReedQ {x : List Item} : SameRegs s (u.setReedQ x) l ↔ SameRegs s u l := (SameRegs.of_regs (State.setReedQ_regs u x) l).iff
@[simp] theorem sameRegs_setWaveQ {x : List WaveSample} : SameRegs s (u.setWaveQ x) l ↔ SameRegs s u l := (SameRegs.of_regs (State.setWaveQ_regs u x) l).iff
@[simp] theorem sameRegs_setInputQ {x : List InputEvent} : SameRegs s (u.setInputQ x) l ↔ SameRegs s u l := (SameRegs.of_regs (State.setInputQ_regs u x) l).iff
@[simp] theorem sameRegs_setReed {x : ReedSt} : SameRegs s (u.setReed x) l ↔ SameRegs s u l := (SameRegs.of_regs (State.setReed_regs u x) l).iff
@[simp] theorem sameRegs_setLoomQ {x : List Item} : SameRegs s (u.setLoomQ x) l ↔ SameRegs s u l := (SameRegs.of_regs (State.setLoomQ_regs u x) l).iff
@[simp] theorem sameRegs_setLoom {x : LoomSt} : SameRegs s (u.setLoom x) l ↔ SameRegs s u l := (SameRegs.of_regs (State.setLoom_regs u x) l).iff
@[simp] theorem sameRegs_setSlv {x : SlvSt} : SameRegs s (u.setSlv x) l ↔ SameRegs s u l := (SameRegs.of_regs (State.setSlv_regs u x) l).iff
@[simp] theorem sameRegs_setCapt {x : CaptSt} : SameRegs s (u.setCapt x) l ↔ SameRegs s u l := (SameRegs.of_regs (State.setCapt_regs u x) l).iff
@[simp] theorem sameRegs_setShuttle {x : ShuttleSt} : SameRegs s (u.setShuttle x) l ↔ SameRegs s u l := (SameRegs.of_regs (State.setShuttle_regs u x) l).iff
@[simp] theorem sameRegs_setOsc {x : OscSt} : SameRegs s (u.setOsc x) l ↔ SameRegs s u l := (SameRegs.of_regs (State.setOsc_regs u x) l).iff
@[simp] theorem sameRegs_setIsle {x : IsleSt} : SameRegs s (u.setIsle x) l ↔ SameRegs s u l := (SameRegs.of_regs (State.setIsle_regs u x) l).iff
@[simp] theorem sameRegs_setEnergy {x : EnergySt} : SameRegs s (u.setEnergy x) l ↔ SameRegs s u l := (SameRegs.of_regs (State.setEnergy_regs u x) l).iff
@[simp] theorem sameRegs_setSaves {x : EnergySaves} : SameRegs s (u.setSaves x) l ↔ SameRegs s u l := (SameRegs.of_regs (State.setSaves_regs u x) l).iff
@[simp] theorem sameRegs_setClock {x : ClockSt} : SameRegs s (u.setClock x) l ↔ SameRegs s u l := (SameRegs.of_regs (State.setClock_regs u x) l).iff
@[simp] theorem sameRegs_setAgeing {x : AgeSave} : SameRegs s (u.setAgeing x) l ↔ SameRegs s u l := (SameRegs.of_regs (State.setAgeing_regs u x) l).iff
@[simp] theorem sameRegs_setHost {x : HostSt} : SameRegs s (u.setHost x) l ↔ SameRegs s u l := (SameRegs.of_regs (State.setHost_regs u x) l).iff
@[simp] theorem sameRegs_setKeyHashes {x : SMap (List Byte)} : SameRegs s (u.setKeyHashes x) l ↔ SameRegs s u l := (SameRegs.of_regs (State.setKeyHashes_regs u x) l).iff

/-- Registers written one after another: each holds what is written to it. -/
theorem regN_foldl_putReg {α : Type} {a v : α → Nat} {m : List α} (inj : ∀ x ∈ m, ∀ y ∈ m, a x = a y → v x = v y) {x : α} (hx : x ∈ m) :
    (m.foldl (fun w y => w.putReg (a y) (v y)) u).regN (a x) = v x % 2 ^ 32 := by
  induction m using List.reverseRecOn with
  | nil => cases hx
  | append_singleton m y ih =>
    rw [List.foldl_concat, State.regN_putReg]
    split
    · next h => rw [inj y (by simp) x hx h]
    · next h =>
      refine ih (fun x hx y hy => inj x (List.mem_append_left _ hx) y (List.mem_append_left _ hy)) ?_
      rcases List.mem_append.mp hx with hx | hx
      · exact hx
      · exact absurd (by rw [List.mem_singleton.mp hx]) h

theorem sameRegs_foldl_putReg {α : Type} {a v : α → Nat} {m : List α} (h : ∀ x ∈ m, a x ∈ l) :
    SameRegs s (m.foldl (fun w y => w.putReg (a y) (v y)) u) l ↔ SameRegs s u l :=
  sameRegs_foldl fun w x hx => (sameRegs_putReg (h x hx)).mpr (SameRegs.refl w l)

end

/-! A command's outcome on a state written out. -/

/-- The outcome is a next state that passes a test. -/
def outcomePasses (o : Host.Outcome State Fault Refusal) (q : State → Bool) : Bool :=
  match o with
  | .next u => q u
  | _ => false

theorem Answers.passes {o : Host.Outcome State Fault Refusal} {p : State → Prop} (h : Answers o p) {q : State → Bool}
    (hq : outcomePasses o q = true) : ∃ u, p u ∧ q u = true := by
  obtain ⟨u, hu, hp⟩ := h
  rw [hu] at hq
  exact ⟨u, hp, hq⟩

/-- Every domain ON, in a mode: the state the counterexamples start from. -/
def everyDomainOn (mode : Nat) : State := (State.reset.putReg R.POWER_DOMAIN_STATE 0).putReg R.GLOBAL_MODE mode

end Sys2Proof.Machine
end

section
/-!
PROOFS. Sys2Proof/Proofs/PathWrites.lean: a register write that does not reach its register: without mastership, to a busy command, to a domain that is not ON.
-/

namespace Sys2Proof.Machine

/-! A host error (R457): its registers, and what it leaves. -/

section

variable {s u : State} {l : List Nat}

theorem sameRegs_hostErr {p : Path} {bar cause addr : Nat} (h1 : R.HOST_ERR_ADDR_LO ∈ l) (h2 : R.HOST_ERR_ADDR_LO + 4 ∈ l)
    (h3 : R.HOST_ERR_CAUSE ∈ l) (h4 : cause = 1 → R.HOST_BAD_ACCESS ∈ l) (h5 : cause = 2 → R.HOST_UNMAPPED ∈ l)
    (h6 : cause = 4 → R.HOST_NOT_MASTER ∈ l) (h7 : R.HOST_PBAn 0 ∈ l) (h8 : R.PAIR_MIRROR_SENT ∈ l) :
    SameRegs s (u.hostErr p bar cause addr) l ↔ SameRegs s u l := by
  unfold State.hostErr
  rw [sameRegs_raise h7, sameRegs_event h7 h8]
  split
  · rw [sameRegs_count (h4 ‹_›), sameRegs_putReg h3, sameRegs_putPair h1 h2]
  · split
    · rw [sameRegs_count (h5 ‹_›), sameRegs_putReg h3, sameRegs_putPair h1 h2]
    · split
      · rw [sameRegs_count (h6 ‹_›), sameRegs_putReg h3, sameRegs_putPair h1 h2]
      · rw [sameRegs_putReg h3, sameRegs_putPair h1 h2]

end

/-- The counter of a host error's cause, for the causes that count. -/
def errCounter (cause : Nat) : List Nat :=
  if cause = 1 then [R.HOST_BAD_ACCESS] else if cause = 2 then [R.HOST_UNMAPPED] else if cause = 4 then [R.HOST_NOT_MASTER] else []

theorem State.hostErr_eq (s : State) (p : Path) (bar cause addr : Nat) :
    s.hostErr p bar cause addr =
      ((((errCounter cause).foldl (fun w a => w.count a)
        ((s.putPair R.HOST_ERR_ADDR_LO addr).putReg R.HOST_ERR_CAUSE (2 ^ 8 * p.code + 2 ^ 4 * bar + cause))).event E.HOST_HOSTERR noSource
          (leBytes 1 cause ++ leBytes 1 p.code ++ leBytes 8 addr)).raise I.HOST_HOSTERR) := by
  unfold State.hostErr errCounter
  repeat' split
  all_goals rfl

theorem State.regN_hostErr_addr (s : State) (p : Path) {bar cause addr : Nat} (h : addr < 2 ^ 32) :
    (s.hostErr p bar cause addr).regN R.HOST_ERR_ADDR_LO = addr := by
  rw [State.hostErr_eq, State.regN_raise _ _ (by decide), State.regN_event _ _ _ _ (by decide) (by decide)]
  unfold errCounter State.putPair
  repeat' split
  all_goals
    simp (disch := decide) [State.regN_count_other, State.regN_putReg_other]
    omega

theorem path_code_le_one (p : Path) : p.code ≤ 1 := by cases p <;> decide

theorem State.regN_hostErr_cause (s : State) (p : Path) {bar cause addr : Nat} (hb : bar < 2 ^ 16) (hc : cause < 2 ^ 16) :
    (s.hostErr p bar cause addr).regN R.HOST_ERR_CAUSE = 2 ^ 8 * p.code + 2 ^ 4 * bar + cause := by
  have hp := path_code_le_one p
  have hlt : 2 ^ 8 * p.code + 2 ^ 4 * bar + cause < 2 ^ 32 := by omega
  rw [State.hostErr_eq, State.regN_raise _ _ (by decide), State.regN_event _ _ _ _ (by decide) (by decide)]
  unfold errCounter
  repeat' split
  all_goals
    simp (disch := decide) [State.regN_count_other]
    omega

theorem State.regN_hostErr_other (s : State) (p : Path) {bar cause addr a : Nat}
    (h : a ∉ [R.HOST_ERR_ADDR_LO, R.HOST_ERR_ADDR_LO + 4, R.HOST_ERR_CAUSE] ++ errCounter cause ++ eventRegs) :
    (s.hostErr p bar cause addr).regN a = s.regN a := by
  refine (sameRegs_hostErr ?_ ?_ ?_ ?_ ?_ ?_ ?_ ?_).mpr (SameRegs.refl s _) a h <;> simp +contextual [errCounter]

theorem State.regN_hostErr_notMaster (s : State) (p : Path) (bar addr : Nat) :
    (s.hostErr p bar 4 addr).regN R.HOST_NOT_MASTER = (s.regN R.HOST_NOT_MASTER + 1) % 2 ^ 32 := by
  rw [State.hostErr_eq, State.regN_raise _ _ (by decide), State.regN_event _ _ _ _ (by decide) (by decide)]
  simp (disch := decide) [errCounter, State.regN_putReg_other, State.regN_putPair_other]

/-! The access that is not carried out. -/

/-- The record of a rejected write: its place and its count (R457, R473). -/
theorem State.reject_eq {addr : Nat} (h : addr / 2 ^ 20 < 16) (s : State) (p : Path) :
    s.reject p addr = (s.putReg (hdr (addr / 2 ^ 20) 0x80) (2 ^ 31 * p.code + addr % 2 ^ 20)).count (hdr (addr / 2 ^ 20) 0x84) := by
  unfold State.reject
  rw [if_neg (by omega)]

theorem State.regN_reject_addr {addr : Nat} (h : addr / 2 ^ 20 < 16) (s : State) (p : Path) :
    (s.reject p addr).regN (hdr (addr / 2 ^ 20) 0x80) = 2 ^ 31 * p.code + addr % 2 ^ 20 := by
  have hp := path_code_le_one p
  rw [State.reject_eq h, State.regN_count_other _ _ (by simp [hdr]), State.regN_putReg_same, Nat.mod_eq_of_lt (by omega)]

theorem State.regN_reject_count {addr : Nat} (h : addr / 2 ^ 20 < 16) (s : State) (p : Path) :
    (s.reject p addr).regN (hdr (addr / 2 ^ 20) 0x84) = (s.regN (hdr (addr / 2 ^ 20) 0x84) + 1) % 2 ^ 32 := by
  rw [State.reject_eq h, State.regN_count_same, State.regN_putReg_other _ _ (by simp [hdr])]

/-- A header register of a block is no register of the host's error. -/
theorem hdr_not_hostErr {b off : Nat} (hb : b < 16) (h : off < 0x200) (cause : Nat) :
    hdr b off ∉ [R.HOST_ERR_ADDR_LO, R.HOST_ERR_ADDR_LO + 4, R.HOST_ERR_CAUSE] ++ errCounter cause ++ eventRegs := by
  unfold errCounter
  repeat' split
  all_goals
    simp [hdr, R.HOST_ERR_ADDR_LO, R.HOST_ERR_CAUSE, R.PAIR_MIRROR_SENT, R.HOST_PBAn, R.HOST_BAD_ACCESS, R.HOST_UNMAPPED, R.HOST_NOT_MASTER]
    omega

theorem exec_registerWrite {s : State} {path : Path} {addr : Nat} (hs : s.held = false) (ha : addr < 2 ^ 25) (hd : s.deaf path = false)
    (t : Nat) (value : Word) (x : CmdInput) :
    exec (.registerWrite t path addr value true x) s =
      .next ((s.at t).access path addr value.toNat (fun w => w.writeReg path x addr value.toNat) x) := by
  show run t (·.busWrite path x (addr % 2 ^ 25) value.toNat true) s = _
  rw [run_next hs, Nat.mod_eq_of_lt ha]
  unfold State.busWrite
  simp [hd]

/-- Settles O8: such a write reaches `notMaster`, which records and reports it. -/
theorem writeWithoutMastershipIsRejected : Obligations.WriteWithoutMastershipIsRejected := by
  intro s t path addr value x haddr hblock hheld hdeaf hon hno
  refine ⟨(s.at t).notMaster path addr, ?_, ?_⟩
  · rw [exec_registerWrite hheld haddr hdeaf]
    unfold State.access
    simp [hdeaf, hon, hno]
  have hdr80 := hdr_not_hostErr hblock (off := 0x80) (by decide) 4
  have hdr84 := hdr_not_hostErr hblock (off := 0x84) (by decide) 4
  have hnot : ∀ off, off < 0x200 → hdr (addr / 2 ^ 20) off ≠ R.HOST_NOT_MASTER := fun off h => by
    simp only [hdr, R.HOST_NOT_MASTER]; omega
  unfold State.notMaster
  refine ⟨?_, ?_, ?_, ?_, ?_, ?_, ?_⟩
  · rw [State.regN_hostErr_other _ _ hdr80, State.regN_reject_addr hblock]
  · rw [State.regN_hostErr_other _ _ hdr84, State.regN_reject_count hblock, State.regN_at]
  · exact State.regN_hostErr_addr _ _ (by omega)
  · exact State.regN_hostErr_cause _ _ (by decide) (by decide)
  · rw [State.regN_hostErr_notMaster, State.regN_reject _ _ _ (hnot _ (by decide)) (hnot _ (by decide)), State.regN_at]
  · rw [sameRegs_hostErr (by simp) (by simp) (by simp) (by simp) (by simp) (by simp) (by simp) (by simp),
      sameRegs_reject (by simp) (by simp)]
    exact fun a _ => State.regN_at s t a
  · have hf : Frame (partSet eventParts) (s.at t) (((s.at t).reject path addr).hostErr path 0 4 addr) := by
      simp (disch := decide) only [Frame.hostErr, Frame.reject, Frame.refl]
    exact fun p hp => hf p (partSet_not eventParts p hp)

/-! A command asked for (R473). -/

theorem tableWord_below {off base size n : Nat} {mask : List Byte → Nat → Nat} {entry : Nat → List Byte} (h : off < base) :
    tableWord off base size n mask entry = none := by
  unfold tableWord
  rw [if_neg (by omega)]

/-- The tables of a block's window stand above its registers. -/
theorem State.windowWord_none (s : State) (b : Nat) {off : Nat} (h : off < 0x10000) : s.windowWord b off = none := by
  unfold State.windowWord
  split
  all_goals simp (disch := omega) [tableWord_below]

theorem hdr_block {b off : Nat} (h : off < 2 ^ 20) : hdr b off / 2 ^ 20 = b := by simp only [hdr]; omega

theorem hdr_offset {b off : Nat} (h : off < 2 ^ 20) : hdr b off % 2 ^ 20 = off := by simp only [hdr]; omega

theorem regRow_cmd : ∀ b : Fin 16, (regRow (hdr b 0x40)).isSome = true := by decide

theorem State.defined_of_row {addr : Nat} (s : State) (h4 : addr % 4 = 0) (hb : blockHeader (addr / 2 ^ 20) = true)
    (hrow : (regRow addr).isSome = true) : s.defined addr = true := by
  unfold State.defined
  rw [hb, hrow]
  simp [h4]

theorem blockHeader_low {b : Nat} (h : b < 16) : blockHeader b = true := by simp [blockHeader]; omega

/-- A write of a block's CMD that is carried out. -/
theorem State.writeReg_cmd (s : State) (path : Path) (x : CmdInput) {b : Nat} (hb : b < 16) (v : Nat) :
    s.writeReg path x (hdr b 0x40) v = s.writeCmd path x b v := by
  have hdefined : s.defined (hdr b 0x40) = true :=
    s.defined_of_row (by simp only [hdr]; omega) (by rw [hdr_block (by decide)]; exact blockHeader_low hb) (regRow_cmd ⟨b, hb⟩)
  unfold State.writeReg
  rw [hdr_block (by decide), hdr_offset (by decide), hdefined]
  dsimp only
  rw [State.windowWord_none _ _ (by decide)]
  simp
  omega

theorem goWord_value {op : Nat} (h : op < 256) :
    (BitVec.ofNat 32 (goWord op)).toNat = goWord op ∧ bit (goWord op) 31 = true ∧ goWord op % 256 = op := by
  refine ⟨by simp [goWord]; omega, ?_, by simp [goWord]; omega⟩
  simp only [bit, goWord]
  rw [Nat.testBit_two_pow_add_eq, Nat.testBit_lt_two_pow (by omega)]
  rfl

/-- Settles O9: `issue` finds DONE at 0 and rejects. -/
theorem goWhileBusyIsRejected : Obligations.GoWhileBusyIsRejected := by
  intro s t path b op x hb hop hr hbusy
  obtain ⟨hvalue, hgo, hcode⟩ := goWord_value hop
  have hbusy' : bits ((s.asked t path (hdr b 0x40) (goWord op)).regN (hdr b 0x54)) 31 31 = 0 := by
    rw [State.regN_asked _ _ _ _ _ (hdr_not_note b 0x54 (by decide) (by decide)), hbusy]
  refine ⟨(s.asked t path (hdr b 0x40) (goWord op)).reject path (hdr b 0x40), ?_, ?_, ?_, ?_⟩
  · rw [exec_registerWrite hr.1 (by simp only [hdr]; omega) hr.2.1, access_reaches hr, hvalue, State.writeReg_cmd _ _ _ hb]
    unfold State.writeCmd issue
    rw [hgo, hcode, hbusy']
    rfl
  · have h := State.regN_reject_addr (addr := hdr b 0x40) (by rw [hdr_block (by decide)]; exact hb)
      (s.asked t path (hdr b 0x40) (goWord op)) path
    rwa [hdr_block (by decide), hdr_offset (by decide)] at h
  · have h := State.regN_reject_count (addr := hdr b 0x40) (by rw [hdr_block (by decide)]; exact hb)
      (s.asked t path (hdr b 0x40) (goWord op)) path
    rwa [hdr_block (by decide), State.regN_asked _ _ _ _ _ (hdr_not_note b 0x84 (by decide) (by decide))] at h
  · rw [sameRegs_reject (by rw [hdr_block (by decide)]; simp) (by rw [hdr_block (by decide)]; simp)]
    exact fun a ha => State.regN_asked _ _ _ _ _ fun h => ha (List.mem_append_right _ h)

/-! A domain that is not ON (R434). -/

theorem State.wakeDemand_waking (s : State) {d : Nat} (h : d ≠ pdCtrl) : (smFind (s.wakeDemand d).power.waking d).isSome = true := by
  unfold State.wakeDemand
  split
  · next hw => exact hw.resolve_left h
  · simp

theorem State.wakeDemand_stalled (s : State) (d : Nat) : (s.wakeDemand d).power.stalled = s.power.stalled := by
  unfold State.wakeDemand
  split <;> simp

theorem State.stall_power (s : State) (x : Stalled) :
    (s.stall x).power = { (s.wakeDemand x.domain).power with stalled := (s.wakeDemand x.domain).power.stalled ++ [x] } := by
  unfold State.stall
  dsimp only
  split <;> simp

theorem sameRegs_absentAccess {s u : State} {l : List Nat} {p : Path} {addr : Nat} (h : R.POWER_ABSENT_ACCESS ∈ l)
    (h1 : R.HOST_ERR_ADDR_LO ∈ l) (h2 : R.HOST_ERR_ADDR_LO + 4 ∈ l) (h3 : R.HOST_ERR_CAUSE ∈ l) (h4 : R.HOST_PBAn 0 ∈ l)
    (h5 : R.PAIR_MIRROR_SENT ∈ l) : SameRegs s (u.absentAccess p addr) l ↔ SameRegs s u l := by
  have herr : SameRegs s ((u.count R.POWER_ABSENT_ACCESS).hostErr p 0 0 addr) l ↔ SameRegs s u l := by
    rw [sameRegs_hostErr h1 h2 h3 (by simp) (by simp) (by simp) h4 h5, sameRegs_count h]
  unfold State.absentAccess
  dsimp only
  split
  · rw [sameRegs_emit, herr]
  · exact herr

theorem State.regN_absentAccess (s : State) (p : Path) (addr a : Nat) :
    (s.absentAccess p addr).regN a = ((s.count R.POWER_ABSENT_ACCESS).hostErr p 0 0 addr).regN a := by
  unfold State.absentAccess
  dsimp only
  split
  · rw [State.regN_emit]
  · rfl

/-- Settles O10: the access stalls, or finds the domain absent. -/
theorem writeToADomainThatIsNotOn : Obligations.WriteToADomainThatIsNotOn := by
  intro s t path addr value x haddr hheld hdeaf
  refine ⟨fun hasleep hmay => ?_, fun habsent => ?_⟩
  · refine ⟨(s.at t).stall { domain := regDomain addr, path := path, addr := addr, write := some value.toNat, x := x }, ?_, ?_, ?_⟩
    · rw [exec_registerWrite hheld haddr hdeaf]
      unfold State.access
      rcases hasleep with h | h <;> simp [hdeaf, h, hmay]
    · rw [State.stall_power, State.wakeDemand_stalled, State.at_power]
    · intro hd
      rw [State.stall_power]
      exact State.wakeDemand_waking _ hd
  · refine ⟨(s.at t).absentAccess path addr, ?_, ?_, ?_, ?_, ?_⟩
    · rw [exec_registerWrite hheld haddr hdeaf]
      unfold State.access
      simp [hdeaf, habsent]
    · rw [State.regN_absentAccess, State.regN_hostErr_other _ _ (by decide), State.regN_count_same, State.regN_at]
    · rw [State.regN_absentAccess, State.regN_hostErr_addr _ _ (by omega)]
    · rw [State.regN_absentAccess, State.regN_hostErr_cause _ _ (by decide) (by decide)]
      rfl
    · rw [sameRegs_absentAccess (by simp) (by simp) (by simp) (by simp) (by simp) (by simp)]
      exact fun a _ => State.regN_at s t a

end Sys2Proof.Machine
end

section
/-!
PROOFS. Sys2Proof/Proofs/Holding.lean: which registers a decision about the mode or about holding may write, and what it leaves of the pair's state.
-/

namespace Sys2Proof.Machine

/-! Registers that a decision about the mode and the output stage may write. -/

section

variable {s u v : State} {l m : List Nat}

/-- A frame goes through an operation that leaves all but a part of its list. -/
theorem SameRegs.thru (h : SameRegs u v m) (k : m ⊆ l) : SameRegs s v l ↔ SameRegs s u l := (h.mono k).iff

theorem SameRegs.ite {c : Prop} [Decidable c] (h : SameRegs s u l) (k : SameRegs s v l) : SameRegs s (if c then u else v) l := by
  split
  · exact h
  · exact k

end

/-- The registers that show a pending switch. -/
abbrev switchRegs : List Nat := [R.DRAFT_SWITCH_STATUS, R.DRAFT_SWITCH_SLOT_LO, R.DRAFT_SWITCH_SLOT_LO + 4, R.GLOBAL_STATUS]

/-- The registers that a condition of R63 may write. -/
abbrev condRegs : List Nat := R.DRAFT_MODE_COND :: switchRegs

theorem State.sameRegs_showSwitch (s : State) : SameRegs s s.showSwitch switchRegs := by
  unfold State.showSwitch
  split
  · dsimp only
    rw [sameRegs_putFld (by simp), sameRegs_putPair (by simp) (by simp), sameRegs_putFld (by simp), sameRegs_putFld (by simp)]
    exact SameRegs.refl s _
  · rw [sameRegs_putFld (by simp), sameRegs_putFld (by simp)]
    exact SameRegs.refl s _

theorem State.sameRegs_decideMode (s : State) (t : Nat) : SameRegs s (s.decideMode t) switchRegs := by
  have h : ∀ d, SameRegs s (s.setDraft d).showSwitch switchRegs := fun d => by
    rw [(State.sameRegs_showSwitch _).thru (List.Subset.refl _), sameRegs_setDraft]
    exact SameRegs.refl s _
  unfold State.decideMode
  dsimp only
  split
  · split <;> exact h _
  · split
    · exact SameRegs.refl s _
    · exact h _

theorem State.sameRegs_followConditions (s : State) : SameRegs s s.followConditions switchRegs := by
  unfold State.followConditions
  dsimp only
  repeat' split
  · exact SameRegs.refl s _
  · exact s.sameRegs_decideMode _
  · exact SameRegs.refl s _

theorem State.sameRegs_condition (s : State) (i : Nat) (v : Bool) : SameRegs s (s.condition i v) condRegs := by
  unfold State.condition
  dsimp only
  split
  · exact SameRegs.refl s _
  · rw [(State.sameRegs_followConditions _).thru (by simp), sameRegs_putReg (by simp)]
    exact SameRegs.refl s _

theorem State.sameRegs_resumeStream (s : State) (mirror : Bool) (instant : Nat) (e : List Byte) :
    SameRegs s (s.resumeStream mirror instant e) ([R.PAIR_STREAM_GAPS] ++ eventRegs) := by
  unfold State.resumeStream State.putOs
  dsimp only
  rw [sameRegs_setShuttle, sameRegs_foldl]
  · exact SameRegs.refl s _
  · intro w tag _
    rw [sameRegs_raise (by decide), sameRegs_event (by decide) (by decide), sameRegs_count (by decide)]
    exact SameRegs.refl w _

theorem State.sameRegs_resumeStreams (s : State) (mirror : Bool) (instant : Nat) :
    SameRegs s (s.resumeStreams mirror instant) ([R.PAIR_STREAM_GAPS] ++ eventRegs) := by
  unfold State.resumeStreams
  rw [sameRegs_foldl fun w e _ => w.sameRegs_resumeStream mirror instant e]
  exact SameRegs.refl s _

theorem State.sameRegs_adoptEnergy (s : State) : SameRegs s s.adoptEnergy eventRegs := by
  unfold State.adoptEnergy
  dsimp only
  split
  · exact SameRegs.refl s _
  · rw [sameRegs_raise (by decide), sameRegs_event (by decide) (by decide), sameRegs_setEnergy]
    exact SameRegs.refl s _

/-- The registers that the start and the end of holding may write beside those that show it. -/
abbrev turnRegs : List Nat :=
  [R.PAIR_TAKEOVER_LO, R.PAIR_TAKEOVER_LO + 4, R.PAIR_TAKEOVERS, R.PAIR_STREAM_GAPS, R.PAIR_RELEASES] ++ condRegs ++ eventRegs

theorem State.sameRegs_takeover (s : State) : SameRegs s s.takeover turnRegs := by
  unfold State.takeover
  split
  · exact SameRegs.refl s _
  · dsimp only
    rw [(State.sameRegs_condition _ _ _).thru (by simp), sameRegs_raise (by simp), (State.sameRegs_resumeStreams _ _ _).thru (by simp)]
    unfold State.adoptGoose
    rw [sameRegs_setVote, (State.sameRegs_adoptEnergy _).thru (by simp), sameRegs_event (by simp) (by simp), sameRegs_count (by simp),
      sameRegs_putPair (by simp) (by simp)]
    unfold State.adoptLedger
    dsimp only
    rw [sameRegs_setPair, sameRegs_setLedger]
    exact SameRegs.refl s _

theorem State.sameRegs_released (s : State) : SameRegs s s.released turnRegs := by
  have h : ∀ c : Nat, SameRegs s (((s.count R.PAIR_RELEASES).event E.PAIR_RELEASED noSource (leBytes 1 c)).raise I.PAIR_RELEASED) turnRegs :=
    fun c => by
      rw [sameRegs_raise (by simp), sameRegs_event (by simp) (by simp), sameRegs_count (by simp)]
      exact SameRegs.refl s _
  unfold State.released
  dsimp only
  refine SameRegs.ite (SameRegs.refl s _) (SameRegs.ite ?_ (h _))
  rw [(State.sameRegs_condition _ _ _).thru (by simp)]
  exact h _

/-! The output stage. The backlog of a pulse output stands at 0xF00140 or above, however it is numbered. -/

theorem State.regN_pulsesFollow (s : State) {a : Nat} (h : a < R.ENERGY_PULSEn_STATE 0) : s.pulsesFollow.regN a = s.regN a := by
  unfold State.pulsesFollow
  split
  · exact State.regN_setEnergy _ _
  · split
    · rfl
    · have hfold : ∀ (l : List (Nat × PulseOut)) (w : State), (l.foldl (fun s p =>
          if p.2.high then (s.putFld (F.ENERGY_PULSEn_STATE_BACKLOG p.1) 0).drive (.epulse p.1) false
          else s.putFld (F.ENERGY_PULSEn_STATE_BACKLOG p.1) 0) w).regN a = w.regN a := by
        intro l
        induction l with
        | nil => intro w; rfl
        | cons p l ih =>
          intro w
          have hp : (w.putFld (F.ENERGY_PULSEn_STATE_BACKLOG p.1) 0).regN a = w.regN a :=
            State.regN_putFld_other _ _ (by simp only [R.ENERGY_PULSEn_STATE] at h ⊢; omega)
          rw [List.foldl_cons, ih]
          split
          · rw [State.regN_drive, hp]
          · exact hp
      rw [State.regN_setEnergy]
      exact hfold _ _

theorem State.sameRegs_showBalls (s : State) (n : Nat) : SameRegs s (s.showBalls n) [] := by
  unfold State.showBalls
  rw [sameRegs_foldl]
  · exact SameRegs.refl s _
  · intro w x _
    split
    · rw [sameRegs_emit]; exact SameRegs.refl w _
    · exact SameRegs.refl w _

theorem State.regN_updatePins (s : State) {a : Nat} (h : a < R.ENERGY_PULSEn_STATE 0) (hv : a ∉ [R.VOTE_STATUS, R.VOTE_PIN_SENSE]) :
    s.updatePins.regN a = s.regN a := by
  have hrest : SameRegs s.pulsesFollow s.updatePins [R.VOTE_STATUS, R.VOTE_PIN_SENSE] := by
    unfold State.updatePins
    dsimp only
    rw [sameRegs_putReg (by simp), sameRegs_putFld (by simp), sameRegs_putFld (by simp), sameRegs_setVote,
      (State.sameRegs_showBalls _ _).thru (by simp)]
    exact SameRegs.refl _ _
  rw [hrest a hv, s.regN_pulsesFollow h]

/-! Holding. -/

/-- The registers after the lanes have decided whether the module holds. -/
def State.shownHolding (s : State) : State :=
  let v := s.vote
  let s := s.setVote { v with
    laneA := { v.laneA with holds := s.decides 0 }
    laneB := { v.laneB with holds := s.decides 1 }
    laneC := { v.laneC with holds := s.decides 2 } }
  let is := s.majority (·.holds)
  let s := s.putFld F.PAIR_STATUS_HOLDING (if is then 1 else 0)
  let s := s.putFld F.VOTE_STATUS_HOLDING (if is then 1 else 0)
  let s := s.putFld F.PAIR_STATUS_PARTNER_HOLDS (if s.partnerWins is then 1 else 0)
  let s := s.putFld F.PAIR_STATUS_PARTNER_LIVE (if s.partnerLive then 1 else 0)
  s.putFld F.PAIR_CLAIM_STATE_PARTNER (s.partnerClaim (s.lanes.headD 0))

/-- The decision is shown, then acted on, and the stage follows. -/
theorem State.updateHolding_eq (s : State) : ∃ starts ends : Bool, s.updateHolding =
    (if starts then s.shownHolding.takeover else if ends then s.shownHolding.released else s.shownHolding).updatePins := ⟨_, _, rfl⟩

theorem State.sameRegs_shownHolding (s : State) : SameRegs s s.shownHolding [R.PAIR_STATUS, R.VOTE_STATUS, R.PAIR_CLAIM_STATE] := by
  unfold State.shownHolding
  dsimp only
  rw [sameRegs_putFld (by simp), sameRegs_putFld (by simp), sameRegs_putFld (by simp), sameRegs_putFld (by simp), sameRegs_putFld (by simp),
    sameRegs_setVote]
  exact SameRegs.refl s _

theorem State.sameRegs_turn (s : State) (starts ends : Bool) :
    SameRegs s (if starts then s.takeover else if ends then s.released else s) turnRegs :=
  SameRegs.ite s.sameRegs_takeover (SameRegs.ite s.sameRegs_released (SameRegs.refl s _))

/-- The registers that a decision about holding may write, beside those of the pulse outputs. -/
abbrev holdRegs : List Nat := [R.PAIR_STATUS, R.VOTE_STATUS, R.PAIR_CLAIM_STATE, R.VOTE_PIN_SENSE] ++ turnRegs

theorem State.regN_updateHolding (s : State) {a : Nat} (h : a < R.ENERGY_PULSEn_STATE 0) (hl : a ∉ holdRegs) :
    s.updateHolding.regN a = s.regN a := by
  obtain ⟨starts, ends, heq⟩ := s.updateHolding_eq
  rw [List.mem_append, not_or] at hl
  obtain ⟨hown, hturn⟩ := hl
  simp only [List.mem_cons, List.not_mem_nil, or_false, not_or] at hown
  obtain ⟨h1, h2, h3, h4⟩ := hown
  rw [heq, State.regN_updatePins _ h (by simp [h2, h4]), s.shownHolding.sameRegs_turn starts ends a hturn,
    s.sameRegs_shownHolding a (by simp [h1, h2, h3])]

/-- PAIR_STATUS beside HOLDING, PARTNER_LIVE and PARTNER_HOLDS. -/
theorem State.fld_updateHolding (s : State) {f : Fld} (h : f.addr = R.PAIR_STATUS) (d : f.hi < 4 ∨ 6 < f.lo) :
    s.updateHolding.fld f = s.fld f := by
  obtain ⟨starts, ends, heq⟩ := s.updateHolding_eq
  have hpins : s.updateHolding.fld f = s.shownHolding.fld f := by
    unfold State.fld
    rw [heq, h, State.regN_updatePins _ (by decide) (by decide), s.shownHolding.sameRegs_turn starts ends _ (by decide)]
  have h6 : F.PAIR_STATUS_PARTNER_HOLDS.addr ≠ f.addr ∨ f.hi < 6 ∨ 6 < f.lo := by omega
  have h5 : F.PAIR_STATUS_PARTNER_LIVE.addr ≠ f.addr ∨ f.hi < 5 ∨ 5 < f.lo := by omega
  have h4 : F.PAIR_STATUS_HOLDING.addr ≠ f.addr ∨ f.hi < 4 ∨ 4 < f.lo := by omega
  rw [hpins]
  unfold State.shownHolding
  dsimp only
  rw [State.fld_putFld_apart _ _ _ _ (by decide) (Or.inl (by rw [h]; decide)), State.fld_putFld_apart _ _ _ _ (by decide) h5,
    State.fld_putFld_apart _ _ _ _ (by decide) h6, State.fld_putFld_apart _ _ _ _ (by decide) (Or.inl (by rw [h]; decide)),
    State.fld_putFld_apart _ _ _ _ (by decide) h4, State.fld_setVote]

theorem State.takeover_pair (s : State) : s.takeover.pair = { s.pair with mirror := s.takeover.pair.mirror } := by
  have hrest : s.pairMode ≠ 0 → Frame 0x2500049d0 s.adoptLedger s.takeover := fun h => by
    unfold State.takeover
    rw [if_neg h]
    dsimp only
    simp (disch := decide) only [Frame.condition, Frame.raise, Frame.resumeStreams, Frame.adoptGoose, Frame.adoptEnergy, Frame.event,
      Frame.count, Frame.putPair, Frame.refl]
  by_cases h : s.pairMode = 0
  · unfold State.takeover
    rw [if_pos h]
  · rw [show s.takeover.pair = s.adoptLedger.pair from hrest h .pair rfl]
    unfold State.adoptLedger
    simp

/-- The pair's own state: a takeover empties what the partner mirrored of its ledger, and nothing else changes. -/
theorem State.updateHolding_pair (s : State) :
    s.updateHolding.pair = { s.pair with mirror := s.updateHolding.pair.mirror } := by
  obtain ⟨starts, ends, heq⟩ := s.updateHolding_eq
  have hshown : s.shownHolding.pair = s.pair := by unfold State.shownHolding; simp
  have hpins : ∀ w : State, w.updatePins.pair = w.pair := fun w =>
    ((Frame.updatePins (m := 0x200004810) rfl).mpr (Frame.refl _ w)) .pair rfl
  have hreleased : ∀ w : State, w.released.pair = w.pair := fun w =>
    ((Frame.released (m := 0x100009d0) rfl).mpr (Frame.refl _ w)) .pair rfl
  rw [heq, hpins]
  split
  · rw [State.takeover_pair, hshown]
  · split
    · rw [hreleased, hshown]
    · rw [hshown]

end Sys2Proof.Machine
end

section
/-!
PROOFS. Sys2Proof/Proofs/PowerOn.lean: the power-on reset, and what an event leaves of the ledger.
-/

namespace Sys2Proof.Machine

/-! What an event leaves of the ledger. -/

/-- The ledger without what an event writes: what is staged, the next number and the counts. -/
def LedgerSt.kept (l : LedgerSt) : LedgerSt :=
  { l with staging := [], next := 0, lost := none, further := (0, 0, 0), cEvents := 0, cRecords := 0, cCoalesced := 0, cLost := 0 }

theorem lostEvent_kept (s : State) (code : Nat) : (lostEvent s code).ledger.kept = s.ledger.kept := by
  unfold lostEvent
  dsimp only
  split
  · rw [State.raise_ledger, State.setLedger_ledger]; rfl
  · split <;> rw [State.setLedger_ledger] <;> rfl

theorem State.stageEvent_kept (s : State) {l : LedgerSt} (h : l.kept = s.ledger.kept) (code src : Nat) (p : List Byte) (c : Bool) :
    (s.stageEvent l code src p c).ledger.kept = s.ledger.kept := by
  unfold State.stageEvent
  split
  · rw [lostEvent_kept, State.setLedger_ledger, h]
  · rw [State.mirrorRecord_ledger, State.setLedger_ledger, ← h]; rfl

theorem State.event_kept (s : State) (code src : Nat) (p : List Byte) : (s.event code src p).ledger.kept = s.ledger.kept := by
  unfold State.event
  split
  · rw [State.setLedger_ledger]; rfl
  · split
    · rw [State.setLedger_ledger]; rfl
    · exact s.stageEvent_kept (l := s.ledger.counted.close code src) rfl _ _ _ _
    · exact s.stageEvent_kept (l := s.ledger.counted) rfl _ _ _ _

theorem LedgerSt.kept_eq {l m : LedgerSt} (h : l.kept = m.kept) :
    l.powerCycles = m.powerCycles ∧ l.written = m.written ∧ l.key = m.key :=
  ⟨(congrArg LedgerSt.powerCycles h : l.kept.powerCycles = m.kept.powerCycles),
    (congrArg LedgerSt.written h : l.kept.written = m.kept.written), (congrArg LedgerSt.key h : l.kept.key = m.kept.key)⟩

theorem State.ledgerStart_kept (s : State) (bootSel : Nat) :
    (s.ledgerStart bootSel).ledger.powerCycles = (s.ledger.savedCycles + 1) % 2 ^ 24 ∧
      (s.ledgerStart bootSel).ledger.written = s.ledger.written ∧ (s.ledgerStart bootSel).ledger.key = s.ledger.key := by
  unfold State.ledgerStart
  dsimp only
  split
  · refine ⟨?_, ?_, ?_⟩
    · rw [(LedgerSt.kept_eq (State.event_kept _ _ _ _)).1, State.setLedger_ledger]
    · rw [(LedgerSt.kept_eq (State.event_kept _ _ _ _)).2.1, State.setLedger_ledger]
    · rw [(LedgerSt.kept_eq (State.event_kept _ _ _ _)).2.2, State.setLedger_ledger]
  · refine ⟨?_, ?_, ?_⟩
    · rw [(LedgerSt.kept_eq (State.event_kept _ _ _ _)).1, State.raise_ledger, State.setLedger_ledger, State.setLedger_ledger]
    · rw [(LedgerSt.kept_eq (State.event_kept _ _ _ _)).2.1, State.raise_ledger, State.setLedger_ledger, State.setLedger_ledger]
    · rw [(LedgerSt.kept_eq (State.event_kept _ _ _ _)).2.2, State.raise_ledger, State.setLedger_ledger, State.setLedger_ledger]

theorem sameRegs_ledgerStart {s u : State} {l : List Nat} {bootSel : Nat} (h : R.HOST_PBAn 0 ∈ l) (k : R.PAIR_MIRROR_SENT ∈ l) :
    SameRegs s (u.ledgerStart bootSel) l ↔ SameRegs s u l := by
  unfold State.ledgerStart
  dsimp only
  rw [sameRegs_event h k]
  split
  · rw [sameRegs_setLedger]
  · rw [sameRegs_raise h, sameRegs_setLedger, sameRegs_setLedger]

theorem sameRegs_avsRestore {s u : State} {l : List Nat} (h : R.CLOCK_AVS_WRITES ∈ l) : SameRegs s u.avsRestore l ↔ SameRegs s u l := by
  unfold State.avsRestore State.avsWrite
  split
  · rfl
  · dsimp only
    rw [sameRegs_emit, sameRegs_count h, sameRegs_setClock]

theorem State.avsRestore_ledger (s : State) : s.avsRestore.ledger = s.ledger := by
  unfold State.avsRestore State.avsWrite
  split <;> simp

/-! What stands before start-up. -/

theorem smFind_none_of_not_mem {α : Type} {m : SMap α} {a : Nat} (h : a ∉ m.map Prod.fst) : smFind m a = none := by
  induction m with
  | nil => rfl
  | cons e m ih =>
    simp only [List.map_cons, List.mem_cons, not_or] at h
    simp only [smFind, if_neg (Ne.symm h.1)]
    exact ih h.2

/-- Entries that hold what an address reads without them may go. -/
theorem getD_smFind_filter (d : Nat → Word) (a : Nat) {m : SMap Word} (h : (m.map Prod.fst).Nodup) :
    (smFind (m.filter fun e => e.2 != d e.1) a).getD (d a) = (smFind m a).getD (d a) := by
  induction m with
  | nil => rfl
  | cons e m ih =>
    obtain ⟨b, v⟩ := e
    obtain ⟨hb, hm⟩ := List.nodup_cons.mp (List.map_cons ▸ h)
    by_cases hv : v = d b
    · have hdrop : ((b, v) :: m).filter (fun e => e.2 != d e.1) = m.filter fun e => e.2 != d e.1 := by simp [List.filter, hv]
      rw [hdrop, ih hm]
      by_cases hba : b = a
      · subst hba
        rw [smFind_none_of_not_mem hb]
        simp [smFind, hv]
      · simp [smFind, hba]
    · have hkeep : ((b, v) :: m).filter (fun e => e.2 != d e.1) = (b, v) :: m.filter fun e => e.2 != d e.1 := by simp [hv]
      rw [hkeep]
      by_cases hba : b = a
      · simp [smFind, hba]
      · simpa only [smFind, if_neg hba] using ih hm

/-- The two registers a power-on reset takes from outside the registers. -/
theorem State.coldStart_reg (s : State) (a : Nat) :
    s.coldStart.reg a = if R.DRAFT_KEYS = a then BitVec.ofNat 32 (bits (s.regN R.DRAFT_KEYS) 8 0)
      else if R.DRAFT_IMAGES = a then BitVec.ofNat 32 (s.regN R.DRAFT_IMAGES) else RegMap.resetValue a := by
  have hlist : s.coldStart.regs = [(R.DRAFT_KEYS, BitVec.ofNat 32 (bits (s.regN R.DRAFT_KEYS) 8 0)),
      (R.DRAFT_IMAGES, BitVec.ofNat 32 (s.regN R.DRAFT_IMAGES))].filter (fun e => e.2 != RegMap.resetValue e.1) := rfl
  unfold State.reg
  have hkeys : [R.DRAFT_KEYS, R.DRAFT_IMAGES].Nodup := by decide
  rw [hlist, getD_smFind_filter RegMap.resetValue a (by exact hkeys)]
  simp only [smFind]
  repeat' split
  all_goals rfl

/-- The registers the straps show in. -/
theorem State.strap_regs (s : State) (bootSel modid claimMode : Nat) :
    (s.strap bootSel modid claimMode).fld F.PAIR_STATUS_MODID = modid % 2 ∧
      (s.strap bootSel modid claimMode).fld F.HOST_MASTER_OWNER = (if bootSel % 4 = 3 then 1 else 0) ∧
      SameRegs s (s.strap bootSel modid claimMode) [R.PAIR_STATUS, R.HOST_MASTER] := by
  unfold State.strap
  dsimp only
  refine ⟨?_, ?_, ?_⟩
  · rw [State.fld_setPower, State.fld_putFld_apart _ _ _ _ (by decide) (by decide), State.fld_putFld_apart _ _ _ _ (by decide) (by decide),
      State.fld_putFld_same _ _ _ (by decide)]
    rfl
  · rw [State.fld_setPower, State.fld_putFld_same _ _ _ (by decide)]
    split <;> rfl
  · rw [sameRegs_setPower, sameRegs_putFld (by simp), sameRegs_putFld (by simp), sameRegs_putFld (by simp), sameRegs_setBoot]
    exact SameRegs.refl s _

/-- What a power-on reset with `PFW_N` high does to the registers beside what stands before start-up. -/
theorem State.powerOn_regs (s : State) (bootSel modid claimMode : Nat) :
    SameRegs (s.coldStart.strap bootSel modid claimMode) (s.powerOn bootSel modid claimMode false) ([R.CLOCK_AVS_WRITES] ++ eventRegs) := by
  unfold State.powerOn
  dsimp only
  rw [if_neg (by decide), sameRegs_avsRestore (by simp)]
  split
  · rw [sameRegs_event (by simp) (by simp), sameRegs_ledgerStart (by simp) (by simp)]
    exact SameRegs.refl _ _
  · rw [sameRegs_ledgerStart (by simp) (by simp)]
    exact SameRegs.refl _ _

theorem State.powerOn_ledger (s : State) (bootSel modid claimMode : Nat) :
    (s.powerOn bootSel modid claimMode false).ledger.kept =
      ((s.coldStart.strap bootSel modid claimMode).ledgerStart (bootSel % 4)).ledger.kept := by
  unfold State.powerOn
  dsimp only
  rw [if_neg (by decide), State.avsRestore_ledger]
  split
  · rw [State.event_kept]
  · rfl

/-- The parts start-up leaves as they stand before it. -/
theorem State.powerOn_strap (s : State) (bootSel modid claimMode : Nat) :
    Frame 0x8100008d0 (s.coldStart.strap bootSel modid claimMode) (s.powerOn bootSel modid claimMode false) := by
  unfold State.powerOn
  dsimp only
  rw [if_neg (by decide)]
  simp (disch := decide) only [Frame.avsRestore, Frame.ledgerStart, Frame.event, Frame.ite, Frame.refl, ite_self]

theorem State.powerOn_frame (s : State) (bootSel modid claimMode : Nat) :
    Frame 0x8100208d4 s.coldStart (s.powerOn bootSel modid claimMode false) := by
  unfold State.powerOn
  dsimp only
  rw [if_neg (by decide)]
  simp (disch := decide) only [Frame.avsRestore, Frame.ledgerStart, Frame.event, Frame.strap, Frame.ite, Frame.refl, ite_self]

/-- Settles O13: what stands before start-up, the straps, and what start-up writes beside. -/
theorem powerOnResetRestarts : Obligations.PowerOnResetRestarts := by
  intro s t bootSel modid claimMode hboot hmodid hclaim
  have hframe := s.powerOn_frame bootSel modid claimMode
  have hregs := s.powerOn_regs bootSel modid claimMode
  obtain ⟨hid, howner, hstrap⟩ := s.coldStart.strap_regs bootSel modid claimMode
  obtain ⟨hcycles, hwritten, hkey⟩ := LedgerSt.kept_eq (s.powerOn_ledger bootSel modid claimMode)
  obtain ⟨hcycles', hwritten', hkey'⟩ := (s.coldStart.strap bootSel modid claimMode).ledgerStart_kept (bootSel % 4)
  have hledger : (s.coldStart.strap bootSel modid claimMode).ledger = s.ledger := by unfold State.strap; simp; rfl
  have hreg : ∀ a, a ∉ [R.PAIR_STATUS, R.HOST_MASTER, R.CLOCK_AVS_WRITES] ++ eventRegs →
      (s.powerOn bootSel modid claimMode false).reg a = s.coldStart.reg a := fun a ha => by
    simp only [List.mem_append, List.mem_cons, List.not_mem_nil, or_false, not_or] at ha
    obtain ⟨⟨h1, h2, h3⟩, h4, h5⟩ := ha
    exact BitVec.eq_of_toNat_eq ((hregs a (by simp [h3, h4, h5])).trans (hstrap a (by simp [h1, h2])))
  have hboot' : (s.powerOn bootSel modid claimMode false).boot = (bootSel, modid, claimMode) := by
    rw [show (s.powerOn bootSel modid claimMode false).boot = _ from s.powerOn_strap bootSel modid claimMode .boot rfl]
    unfold State.strap
    simp [Nat.mod_eq_of_lt hboot, Nat.mod_eq_of_lt hmodid, Nat.mod_eq_of_lt hclaim]
  have hpower : (s.powerOn bootSel modid claimMode false).power.boot = (bootSel == 1 || bootSel == 2) := by
    rw [show (s.powerOn bootSel modid claimMode false).power = _ from s.powerOn_strap bootSel modid claimMode .power rfl]
    unfold State.strap
    simp [Nat.mod_eq_of_lt hboot]
  have hmode : (s.powerOn bootSel modid claimMode false).mode = 0 := by
    unfold State.mode State.fld State.regN
    rw [hreg _ (by decide), s.coldStart_reg]
    rw [if_neg (by decide), if_neg (by decide)]
    decide
  refine ⟨s.powerOn bootSel modid claimMode false, rfl, hframe .held rfl, hmode, hframe .bases rfl, hboot', hframe .pending rfl, ?_, ?_,
    hframe .archive rfl, hframe .stk rfl, hframe .draft rfl, hframe .keyHashes rfl, ?_, ?_, ?_, hpower, ?_, ?_⟩
  · rw [hregs.fld (by decide), howner, Nat.mod_eq_of_lt hboot]
  · rw [hregs.fld (by decide), hid, Nat.mod_eq_of_lt hmodid]
  · rw [hcycles, hcycles', hledger]
  · rw [hwritten, hwritten', hledger]
  · rw [hkey, hkey', hledger]
  · have himages := hreg R.DRAFT_IMAGES (by decide)
    rw [s.coldStart_reg, if_neg (by decide), if_pos rfl] at himages
    unfold State.regN at himages ⊢
    rw [himages, BitVec.ofNat_toNat, BitVec.setWidth_eq]
  · intro a ha
    simp only [List.mem_append, List.mem_cons, List.not_mem_nil, or_false, not_or] at ha
    obtain ⟨⟨hkeys, himages, hpair, hmaster, havs⟩, hpba, hsent⟩ := ha
    rw [hreg a (by simp [hpair, hmaster, havs, hpba, hsent]), s.coldStart_reg, if_neg (Ne.symm hkeys), if_neg (Ne.symm himages)]

end Sys2Proof.Machine
end

section
/-!
PROOFS. Sys2Proof/Proofs/RegisterAccess.lean: plain registers, the interrupt causes and the vectors' masks, written and read.
-/

namespace Sys2Proof.Machine

/-! A register of fields that no other register stands for. -/

/-- A write of a register whose only effect is in its fields (R7, R8). -/
theorem State.writeReg_fields {s : State} {path : Path} {x : CmdInput} {addr v : Nat} {r : RegRow} (hd : s.defined addr = true)
    (hw : (s.windowWord (addr / 2 ^ 20) (addr % 2 ^ 20)).isSome = false) (hb : blockHeader (addr / 2 ^ 20) = true)
    (hq : addr / 2 ^ 20 = 12 → queueReg (addr % 2 ^ 20) = none) (hoff : addr % 2 ^ 20 ∉ [0x10, 0x14, 0x18, 0x40])
    (haddr : addr ∉ [R.GLOBAL_MODE_REQ, R.HOST_MASTER, R.MONITOR_CTRL]) (hin : outOfRange addr v = false)
    (hm : ¬(R.HOST_MSIXn_CTRL 0 ≤ addr ∧ addr < R.HOST_MSIXn_CTRL 64 ∧ addr % 16 = 12)) (hr : regRow addr = some r) :
    s.writeReg path x addr v =
      if addr / 2 ^ 20 = 12 then s.writeFields path addr v r else (s.writeFields path addr v r).afterWriteOf s addr := by
  simp only [List.mem_cons, List.not_mem_nil, or_false, not_or] at hoff haddr
  obtain ⟨h10, h14, h18, h40⟩ := hoff
  obtain ⟨hreq, hmaster, hctrl⟩ := haddr
  have hcat : decide (16 ≤ addr / 2 ^ 20 ∧ addr / 2 ^ 20 ≤ 23) = false := by
    simp only [blockHeader, Bool.or_eq_true, decide_eq_true_eq] at hb
    exact decide_eq_false (by omega)
  have hm' : ¬(R.HOST_MSIXn_CTRL 0 ≤ addr ∧ addr < R.HOST_MSIXn_CTRL 64 ∧ addr % 2 ^ 20 % 16 = 12) := fun h => hm ⟨h.1, h.2.1, by omega⟩
  unfold State.writeReg
  dsimp only
  rw [hd, hcat, hw, hin, hr, if_neg hm']
  simp only [h10, h14, h18, h40, hreq, hmaster, hctrl, or_self, if_false, Bool.not_true, Bool.or_false, Bool.false_eq_true]
  split
  · next h12 =>
    unfold State.writeQueue
    rw [hq h12]
  · rfl

/-! The argument registers of a block's commands (R473). -/

/-- The row of the argument registers: 32 bits to read and write. -/
def argRow : RegRow := ⟨0x44, 4, 4, [⟨31, 0, .rw, 0, .por, .free⟩]⟩

theorem regRow_arg : ∀ (b : Fin 16) (k : Fin 4), regRow (hdr b (0x44 + 4 * k)) = some argRow := by decide

/-- No register of an argument is of those whose write is an action of its own, and none has a range stated. -/
theorem arg_plain : ∀ (b : Fin 16) (k : Fin 4),
    hdr b (0x44 + 4 * k) ∉ [R.GLOBAL_MODE_REQ, R.HOST_MASTER, R.MONITOR_CTRL] ∧
      draftRanges.any (fun r => r.1 == hdr b (0x44 + 4 * k)) = false ∧
      hdr b (0x44 + 4 * k) ∉ [R.PAIR_CLAIM, R.PAIR_DEGRADE, R.VOTE_CTRL, R.TIME_SOURCE_PRIO, R.TIME_CTRL] ++ (List.range 8).map R.PORT_CFG := by
  decide

theorem outOfRange_of_no_range {addr : Nat} (h : draftRanges.any (fun r => r.1 == addr) = false) (v : Nat) : outOfRange addr v = false := by
  unfold outOfRange
  rw [List.any_eq_false] at h ⊢
  intro r hr
  simp [h r hr]

theorem State.portWritten_other (s old : State) {addr : Nat} (h : addr ∉ (List.range 8).map R.PORT_CFG) : s.portWritten old addr = s := by
  have hnone : (List.range 8).find? (fun p => addr == R.PORT_CFG p) = none := by
    rw [List.find?_eq_none]
    intro p hp hq
    exact h (List.mem_map.mpr ⟨p, hp, (of_decide_eq_true (by simpa using hq) : addr = R.PORT_CFG p).symm⟩)
  unfold State.portWritten
  rw [hnone]

/-- Which writes act beside their fields. -/
theorem State.afterWriteOf_other (s old : State) {addr : Nat}
    (h : addr ∉ [R.PAIR_CLAIM, R.PAIR_DEGRADE, R.VOTE_CTRL, R.TIME_SOURCE_PRIO, R.TIME_CTRL] ++ (List.range 8).map R.PORT_CFG) :
    s.afterWriteOf old addr = s := by
  rw [List.mem_append, not_or] at h
  simp only [List.mem_cons, List.not_mem_nil, or_false, not_or] at h
  obtain ⟨⟨h1, h2, h3, h4, h5⟩, hport⟩ := h
  unfold State.afterWriteOf
  simp only [h1, h2, h3, h4, h5, or_self, if_false]
  split
  · exact s.portWritten_other old hport
  · rfl

theorem State.writeFields_arg (s : State) (path : Path) (addr v : Nat) (h : v < 2 ^ 32) :
    s.writeFields path addr v argRow = s.putReg addr v := by
  have hlt := regN_lt s addr
  have hnew : withBits (s.regN addr) 31 0 (bits v 31 0) = v := by
    simp only [withBits, bits, Nat.shiftRight_zero]
    omega
  unfold State.writeFields
  simp [argRow, RegRow.locks, RegField.written, hnew]

theorem State.writeReg_arg (s : State) (path : Path) (x : CmdInput) {b k v : Nat} (hb : b < 16) (hk : k < 4) (hv : v < 2 ^ 32) :
    s.writeReg path x (hdr b (0x44 + 4 * k)) v = s.putReg (hdr b (0x44 + 4 * k)) v := by
  obtain ⟨hplain, hrange, hafter⟩ := arg_plain ⟨b, hb⟩ ⟨k, hk⟩
  have hrow := regRow_arg ⟨b, hb⟩ ⟨k, hk⟩
  have hblock : hdr b (0x44 + 4 * k) / 2 ^ 20 = b := hdr_block (by omega)
  have hoffset : hdr b (0x44 + 4 * k) % 2 ^ 20 = 0x44 + 4 * k := hdr_offset (by omega)
  have hheader : blockHeader (hdr b (0x44 + 4 * k) / 2 ^ 20) = true := by rw [hblock]; exact blockHeader_low hb
  rw [State.writeReg_fields (s.defined_of_row (by simp only [hdr]; omega) hheader (by rw [hrow]; rfl))
      (by rw [hblock, hoffset, s.windowWord_none b (by omega)]; rfl) hheader
      (fun _ => by rw [hoffset]; unfold queueReg; rw [if_neg (by omega)]) (by rw [hoffset]; simp; omega) hplain
      (outOfRange_of_no_range hrange v) (by simp only [hdr, R.HOST_MSIXn_CTRL]; omega) hrow,
    State.writeFields_arg _ _ _ _ hv]
  split
  · rfl
  · exact State.afterWriteOf_other _ _ hafter

/-! Interrupt causes (R452). -/

theorem regRow_irq : ∀ b : Fin 32, blockHeader b = true →
    (regRow (hdr b 0x10)).isSome = true ∧ (regRow (hdr b 0x14)).isSome = true ∧ (regRow (hdr b 0x18)).isSome = true := by decide

theorem blockHeader_lt {b : Nat} (h : blockHeader b = true) : b < 32 := by
  simp only [blockHeader, Bool.or_eq_true, decide_eq_true_eq] at h
  omega

theorem State.defined_irq (s : State) {b off : Nat} (h : blockHeader b = true) (hoff : off ∈ [0x10, 0x14, 0x18]) :
    s.defined (hdr b off) = true := by
  obtain ⟨h1, h2, h3⟩ := regRow_irq ⟨b, blockHeader_lt h⟩ h
  simp only [List.mem_cons, List.not_mem_nil, or_false] at hoff
  refine s.defined_of_row ?_ (by rw [hdr_block (by omega)]; exact h) ?_
  · simp only [hdr]; omega
  · rcases hoff with rfl | rfl | rfl <;> assumption

theorem State.writeReg_irq (s : State) (path : Path) (x : CmdInput) {b : Nat} (enable : Bool) (v : Nat) (h : blockHeader b = true) :
    s.writeReg path x (hdr b (if enable then 0x14 else 0x10)) v = s.writeIrq b enable v := by
  have hd : s.defined (hdr b (if enable then 0x14 else 0x10)) = true := s.defined_irq h (by cases enable <;> simp)
  have hcat : decide (16 ≤ b ∧ b ≤ 23) = false := by
    simp only [blockHeader, Bool.or_eq_true, decide_eq_true_eq] at h
    exact decide_eq_false (by omega)
  unfold State.writeReg
  rw [hdr_block (by split <;> decide), hdr_offset (by split <;> decide), hd]
  dsimp only
  rw [State.windowWord_none _ _ (by split <;> decide), hcat]
  cases enable <;> rfl

theorem State.writeReg_irqSet (s : State) (path : Path) (x : CmdInput) {b : Nat} (v : Nat) (h : blockHeader b = true) :
    s.writeReg path x (hdr b 0x18) v = s.writeIrqSet b v := by
  have hcat : decide (16 ≤ b ∧ b ≤ 23) = false := by
    simp only [blockHeader, Bool.or_eq_true, decide_eq_true_eq] at h
    exact decide_eq_false (by omega)
  unfold State.writeReg
  rw [hdr_block (by decide), hdr_offset (by decide), s.defined_irq h (by simp)]
  dsimp only
  rw [State.windowWord_none _ _ (by decide), hcat]
  rfl

/-- The block a cause raised belongs to. -/
theorem State.irqOf_raise (s : State) (b n : Nat) :
    (s.raise (b, n)).irqOf b =
      { s.irqOf b with status := (s.irqOf b).status ||| BitVec.ofNat 32 (2 ^ n), count := (s.irqOf b).count + 1 } := by
  have hirq : (s.raise (b, n)).irq = smPut s.irq b { s.irqOf b with
      status := (s.irqOf b).status ||| BitVec.ofNat 32 (2 ^ n), count := (s.irqOf b).count + 1 } := by
    unfold State.raise
    dsimp only
    split <;> simp
  unfold State.irqOf at hirq ⊢
  rw [hirq, smGet_smPut_same]

theorem State.mem_out_signal {s : State} {o : Output} (h : o ∈ s.out) (v : Nat) : o ∈ (s.signal v).out := by
  unfold State.signal
  split
  · simpa using h
  · split
    · simpa using Or.inr h
    · exact h

theorem State.mem_out_raise {s : State} {o : Output} (h : o ∈ s.out) (c : Nat × Nat) : o ∈ (s.raise c).out := by
  unfold State.raise
  dsimp only
  split
  · exact State.mem_out_signal (by simpa using h) _
  · simpa using h

/-- Causes of one block raised one after another, and what the registers of its vector were before. -/
theorem State.foldl_raise (b : Nat) (l : List Nat) : ∀ s : State,
    ((l.foldl (fun w i => w.raise (b, i)) s).irqOf b).status = l.foldl (fun a i => a ||| BitVec.ofNat 32 (2 ^ i)) (s.irqOf b).status ∧
      ((l.foldl (fun w i => w.raise (b, i)) s).irqOf b).enable = (s.irqOf b).enable ∧
      ((l.foldl (fun w i => w.raise (b, i)) s).irqOf b).count = (s.irqOf b).count + BitVec.ofNat 32 l.length := by
  induction l with
  | nil => intro s; simp
  | cons i l ih =>
    intro s
    obtain ⟨h1, h2, h3⟩ := ih (s.raise (b, i))
    rw [State.irqOf_raise] at h1 h2 h3
    refine ⟨h1, h2, h3.trans ?_⟩
    rw [List.length_cons, Nat.add_comm l.length 1, BitVec.ofNat_add, BitVec.add_assoc]
    rfl

/-- The status bits of causes raised one after another. -/
theorem getLsbD_foldl_or (l : List Nat) {n : Nat} (hn : n < 32) : ∀ w : Word,
    (l.foldl (fun a i => a ||| BitVec.ofNat 32 (2 ^ i)) w).getLsbD n = (w.getLsbD n || decide (n ∈ l)) := by
  induction l with
  | nil => intro w; simp
  | cons i l ih =>
    intro w
    rw [List.foldl_cons, ih, BitVec.getLsbD_or, BitVec.getLsbD_ofNat, Nat.testBit_two_pow]
    simp only [hn, decide_true, Bool.true_and, List.mem_cons, Bool.decide_or, Bool.or_assoc, eq_comm (a := i)]

theorem foldl_mem_out (b : Nat) (l : List Nat) {o : Output} : ∀ {s : State}, o ∈ s.out → o ∈ (l.foldl (fun w i => w.raise (b, i)) s).out := by
  induction l with
  | nil => exact id
  | cons i l ih => exact fun h => ih (State.mem_out_raise h (b, i))

/-- A raised cause leaves the vectors' masks and the power state. -/
theorem State.raise_gates (s : State) {b : Nat} (hb : b < 32) (n m : Nat) :
    (s.raise (b, n)).isSet (F.HOST_MSIXn_CTRL_MASK m) = s.isSet (F.HOST_MSIXn_CTRL_MASK m) ∧
      (s.raise (b, n)).fld F.HOST_STATUS_D_STATE = s.fld F.HOST_STATUS_D_STATE := by
  have hb0 : b / 32 = 0 := by omega
  constructor
  · unfold State.isSet
    rw [State.fld_raise _ _ (by simp only [hb0, R.HOST_PBAn, R.HOST_MSIXn_CTRL]; omega)]
  · exact State.fld_raise _ _ (by simp only [hb0]; decide)

/-- A block whose enabled causes were none signals its vector when one of them is raised. -/
theorem State.foldl_raise_signals {b : Nat} (hb : b < 32) (l : List Nat) : ∀ {s : State}, (s.irqOf b).pending = false →
    ((l.foldl (fun w i => w.raise (b, i)) s).irqOf b).pending = true → s.isSet (F.HOST_MSIXn_CTRL_MASK b) = false →
      s.fld F.HOST_STATUS_D_STATE = 0 → Output.msix b ∈ (l.foldl (fun w i => w.raise (b, i)) s).out := by
  induction l with
  | nil =>
    intro s h0 h1
    rw [List.foldl_nil, h0] at h1
    cases h1
  | cons i l ih =>
    intro s h0 h1 hmask hpower
    obtain ⟨hmask', hpower'⟩ := s.raise_gates hb i b
    cases hp : ((s.raise (b, i)).irqOf b).pending with
    | false => exact ih hp h1 (hmask'.trans hmask) (hpower'.trans hpower)
    | true =>
      refine foldl_mem_out b l ?_
      rw [State.irqOf_raise] at hp
      have hset : ∀ q, (s.setIrq q).isSet (F.HOST_MSIXn_CTRL_MASK b) = false := fun q => by simpa using hmask
      unfold State.raise
      dsimp only
      rw [hp, h0]
      unfold State.signal
      simp [hmask, hpower]

theorem State.awakeHost {s : State} {addr : Nat} (h : s.Reaches .host addr) : s.fld F.HOST_STATUS_D_STATE = 0 := by
  have hdeaf := h.2.1
  simpa [State.deaf, Path.code] using hdeaf

theorem State.busWrite_reaches {s : State} {path : Path} {addr : Nat} (h : s.Reaches path addr) (x : CmdInput) (v : Nat) :
    s.busWrite path x addr v true = (s.monNote path addr v).writeReg path x addr v := by
  obtain ⟨_, hdeaf, hon, hmay⟩ := h
  unfold State.busWrite State.access
  simp [hdeaf, hon, hmay]

theorem sameRegs_foldl_raise (s : State) {b : Nat} (hb : b < 32) (l : List Nat) :
    SameRegs s (l.foldl (fun w i => w.raise (b, i)) s) [R.HOST_PBAn 0] :=
  (sameRegs_foldl fun w i _ => (sameRegs_raise (by rw [show (b, i).1 / 32 = 0 by simp; omega]; simp)).mpr (SameRegs.refl w _)).mpr
    (SameRegs.refl s _)

theorem State.signal_out (s : State) (v : Nat) (h : s.fld F.HOST_STATUS_D_STATE = 0) :
    (s.signal v).out = if s.isSet (F.HOST_MSIXn_CTRL_MASK v) then s.out else .msix v :: s.out := by
  unfold State.signal
  split
  · simp
  · simp

theorem State.signal_pba {s : State} {v : Nat} (h : s.isSet (F.HOST_MSIXn_CTRL_MASK v) = true) :
    bit ((s.signal v).regN (R.HOST_PBAn (v / 32))) (v % 32) = true := by
  unfold State.signal
  rw [if_pos h, State.regN_putReg_same]
  unfold bit
  rw [Nat.testBit_mod_two_pow, Nat.testBit_or, Nat.testBit_two_pow_self]
  simp
  omega

/-- A write of IRQ_STATUS or IRQ_ENABLE: the block's causes, and its vector where one is then pending. -/
theorem State.writeIrq_effect {w : State} {b : Nat} (hb : b < 32) (hpower : w.fld F.HOST_STATUS_D_STATE = 0) (enable : Bool) (v : Nat)
    {j : IrqBlk} (hj : j = if enable then { w.irqOf b with enable := BitVec.ofNat 32 (v &&& definedCauses b) }
      else { w.irqOf b with status := (w.irqOf b).status &&& ~~~BitVec.ofNat 32 (v &&& definedCauses b) }) :
    (w.writeIrq b enable v).irqOf b = j ∧
      (((w.writeIrq b enable v).irqOf b).pending = true →
        if w.isSet (F.HOST_MSIXn_CTRL_MASK b) then bit ((w.writeIrq b enable v).regN (R.HOST_PBAn 0)) b = true
        else (w.writeIrq b enable v).out = .msix b :: w.out) ∧
      (((w.writeIrq b enable v).irqOf b).pending = false → (w.writeIrq b enable v).out = w.out) ∧
      SameRegs w (w.writeIrq b enable v) [R.HOST_PBAn 0] := by
  have hword : R.HOST_PBAn (b / 32) = R.HOST_PBAn 0 := by rw [Nat.div_eq_of_lt hb]
  have hplace : b % 32 = b := Nat.mod_eq_of_lt hb
  have hval : w.writeIrq b enable v = if j.pending then (w.setIrq (smPut w.irq b j)).signal b else w.setIrq (smPut w.irq b j) := by
    subst hj; rfl
  have hirq : (w.writeIrq b enable v).irqOf b = j := by
    unfold State.irqOf
    rw [hval]
    split <;> simp
  refine ⟨hirq, ?_, ?_, ?_⟩
  · intro hp
    rw [hirq] at hp
    rw [hval, if_pos hp]
    split
    · next hmask =>
      have h := State.signal_pba (s := w.setIrq (smPut w.irq b j)) (v := b) (by simpa using hmask)
      rwa [hword, hplace] at h
    · next hmask =>
      rw [State.signal_out _ _ (by simpa using hpower)]
      simp [hmask]
  · intro hp
    rw [hirq] at hp
    rw [hval, hp]
    simp
  · rw [hval]
    split
    · rw [sameRegs_signal (by rw [hword]; simp), sameRegs_setIrq]
      exact SameRegs.refl w _
    · rw [sameRegs_setIrq]
      exact SameRegs.refl w _

theorem or_defined_status (v c w : Word) :
    ((List.range 32).filter fun i => bit (v.toNat &&& c.toNat) i).foldl (fun a i => a ||| BitVec.ofNat 32 (2 ^ i)) w = w ||| (v &&& c) := by
  refine BitVec.eq_of_getLsbD_eq fun n hn => ?_
  rw [getLsbD_foldl_or _ hn, BitVec.getLsbD_or, BitVec.getLsbD_and]
  simp [hn, bit, BitVec.getLsbD]

/-! The vectors' masks. -/

theorem mask_plain : ∀ n : Fin 64, (regRow (R.HOST_MSIXn_CTRL n)).isSome = true ∧ outOfRange (R.HOST_MSIXn_CTRL n) 0 = false := by decide

theorem State.writeReg_mask (s : State) (path : Path) (x : CmdInput) {n : Nat} (hn : n < 64) :
    s.writeReg path x (R.HOST_MSIXn_CTRL n) 0 = s.writeMask n 0 := by
  obtain ⟨hrow, hrange⟩ := mask_plain ⟨n, hn⟩
  have hblock : R.HOST_MSIXn_CTRL n / 2 ^ 20 = 28 := by simp only [R.HOST_MSIXn_CTRL]; omega
  have hoffset : R.HOST_MSIXn_CTRL n % 2 ^ 20 = 0x1000C + 16 * n := by simp only [R.HOST_MSIXn_CTRL]; omega
  have hd : s.defined (R.HOST_MSIXn_CTRL n) = true :=
    s.defined_of_row (by simp only [R.HOST_MSIXn_CTRL]; omega) (by rw [hblock]; rfl) hrow
  have hspecial : R.HOST_MSIXn_CTRL n ≠ R.GLOBAL_MODE_REQ ∧ R.HOST_MSIXn_CTRL n ≠ R.HOST_MASTER ∧
      R.HOST_MSIXn_CTRL n ≠ R.MONITOR_CTRL := by
    simp only [R.HOST_MSIXn_CTRL, R.GLOBAL_MODE_REQ, R.HOST_MASTER, R.MONITOR_CTRL]; omega
  have hin : R.HOST_MSIXn_CTRL 0 ≤ R.HOST_MSIXn_CTRL n ∧ R.HOST_MSIXn_CTRL n < R.HOST_MSIXn_CTRL 64 ∧ (0x1000C + 16 * n) % 16 = 12 := by
    simp only [R.HOST_MSIXn_CTRL]; omega
  have hnumber : (0x1000C + 16 * n - 0x1000C) / 16 = n := by omega
  unfold State.writeReg
  rw [hblock, hoffset, hd]
  dsimp only
  rw [if_neg hspecial.1, if_neg hspecial.2.1, if_neg hspecial.2.2, hrange, if_pos hin, hnumber,
    if_neg (show ¬(0x1000C + 16 * n = 0x10 ∨ 0x1000C + 16 * n = 0x14) by omega), if_neg (show ¬(0x1000C + 16 * n = 0x18) by omega),
    if_neg (show ¬(0x1000C + 16 * n = 0x40) by omega)]
  rfl

theorem bit_clrBit (v n : Nat) : bit (clrBit v n) n = false := by
  unfold bit clrBit
  split
  · next h =>
    have hsum : v = 2 ^ n + (v - 2 ^ n) := by have hle := Nat.ge_two_pow_of_testBit h; omega
    rw [hsum, Nat.testBit_two_pow_add_eq] at h
    simpa using h
  · next h => simpa using h

theorem State.regN_hostErr_bad (s : State) (p : Path) (bar addr : Nat) :
    (s.hostErr p bar 1 addr).regN R.HOST_BAD_ACCESS = (s.regN R.HOST_BAD_ACCESS + 1) % 2 ^ 32 := by
  rw [State.hostErr_eq, State.regN_raise _ _ (by decide), State.regN_event _ _ _ _ (by decide) (by decide)]
  simp (disch := decide) [errCounter, State.regN_putReg_other, State.regN_putPair_other]

theorem State.pairAt_hostErr (s : State) (p : Path) {bar cause addr : Nat} (h : addr < 2 ^ 32) :
    (s.hostErr p bar cause addr).pairAt R.HOST_ERR_ADDR_LO = addr := by
  have hlow := s.regN_hostErr_addr p (bar := bar) (cause := cause) h
  have hhigh : (s.hostErr p bar cause addr).regN (R.HOST_ERR_ADDR_LO + 4) = 0 := by
    rw [State.hostErr_eq, State.regN_raise _ _ (by decide), State.regN_event _ _ _ _ (by decide) (by decide)]
    unfold errCounter State.putPair
    repeat' split
    all_goals
      simp (disch := decide) [State.regN_count_other, State.regN_putReg_other]
      omega
  unfold State.pairAt
  rw [hlow, hhigh, Nat.mul_zero, Nat.add_zero]

theorem State.readByHost_of_plain {s : State} {addr : Nat} (h : highWords addr = []) (hs : smFind s.snaps (snapKey .host addr) = none) :
    (s.readByHost addr).out = .readData (leBytes 4 (s.readWord addr)) :: s.out ∧ (s.readByHost addr).snaps = s.snaps := by
  simp [State.readByHost, State.readReg, h, hs]

theorem definedCauses_lt : ∀ b : Fin 32, definedCauses b < 2 ^ 32 := by decide

/-- The causes of a write, as a word. -/
theorem defined_word (v : Word) {b : Nat} (hb : b < 32) :
    BitVec.ofNat 32 (v.toNat &&& definedCauses b) = v &&& BitVec.ofNat 32 (definedCauses b) := by
  refine BitVec.eq_of_toNat_eq ?_
  rw [BitVec.toNat_and, BitVec.toNat_ofNat, BitVec.toNat_ofNat, Nat.mod_eq_of_lt (definedCauses_lt ⟨b, hb⟩),
    Nat.mod_eq_of_lt (lt_of_le_of_lt Nat.and_le_left v.isLt)]

/-- Unmasking of a vector: one that waited is signalled. -/
theorem State.writeMask_effect {w : State} {n : Nat} (hn : n < 64) (hpower : w.fld F.HOST_STATUS_D_STATE = 0) :
    (w.writeMask n 0).isSet (F.HOST_MSIXn_CTRL_MASK n) = false ∧
      bit ((w.writeMask n 0).regN (R.HOST_PBAn (n / 32))) (n % 32) = false ∧
      (w.writeMask n 0).out = (if bit (w.regN (R.HOST_PBAn (n / 32))) (n % 32) then [.msix n] else []) ++ w.out ∧
      SameRegs w (w.writeMask n 0) [R.HOST_MSIXn_CTRL n, R.HOST_PBAn (n / 32)] := by
  have hapart : R.HOST_MSIXn_CTRL n ≠ R.HOST_PBAn (n / 32) := by simp only [R.HOST_MSIXn_CTRL, R.HOST_PBAn]; omega
  have hpba : (w.putFld (F.HOST_MSIXn_CTRL_MASK n) 0).regN (R.HOST_PBAn (n / 32)) = w.regN (R.HOST_PBAn (n / 32)) :=
    State.regN_putFld_other _ _ hapart
  have hopen : ∀ v, ((w.putFld (F.HOST_MSIXn_CTRL_MASK n) 0).putReg (R.HOST_PBAn (n / 32)) v).isSet (F.HOST_MSIXn_CTRL_MASK n) = false := by
    intro v
    have h := State.isSet_putFld_zero w (F.HOST_MSIXn_CTRL_MASK n) (show 0 < 32 by decide)
    unfold State.isSet State.fld at h ⊢
    rwa [State.regN_putReg_other _ _ (Ne.symm hapart)]
  have hstate : ∀ v, ((w.putFld (F.HOST_MSIXn_CTRL_MASK n) 0).putReg (R.HOST_PBAn (n / 32)) v).fld F.HOST_STATUS_D_STATE = 0 := by
    intro v
    unfold State.fld at hpower ⊢
    rwa [State.regN_putReg_other _ _ (by simp only [R.HOST_PBAn, R.HOST_STATUS]; omega),
      State.regN_putFld_other _ _ (by simp only [R.HOST_MSIXn_CTRL, R.HOST_STATUS]; omega)]
  unfold State.writeMask
  dsimp only
  rw [hpba]
  cases hbit : bit (w.regN (R.HOST_PBAn (n / 32))) (n % 32) with
  | false =>
    rw [if_neg (by simp)]
    refine ⟨State.isSet_putFld_zero _ _ (show 0 < 32 by decide), by rw [hpba]; exact hbit, by simp, ?_⟩
    rw [sameRegs_putFld (by simp)]
    exact SameRegs.refl w _
  | true =>
    rw [if_pos (by simp)]
    have hval : ((w.putFld (F.HOST_MSIXn_CTRL_MASK n) 0).putReg (R.HOST_PBAn (n / 32))
          (clrBit (w.regN (R.HOST_PBAn (n / 32))) (n % 32))).signal n =
        ((w.putFld (F.HOST_MSIXn_CTRL_MASK n) 0).putReg (R.HOST_PBAn (n / 32))
          (clrBit (w.regN (R.HOST_PBAn (n / 32))) (n % 32))).emit (.msix n) := by
      unfold State.signal
      rw [hopen, if_neg (by decide), if_pos (hstate _)]
    rw [hval]
    refine ⟨by rw [State.isSet_emit, hopen], ?_, by simp, ?_⟩
    · have hlt : clrBit (w.regN (R.HOST_PBAn (n / 32))) (n % 32) < 2 ^ 32 := by
        have h := regN_lt w (R.HOST_PBAn (n / 32))
        have hle : clrBit (w.regN (R.HOST_PBAn (n / 32))) (n % 32) ≤ w.regN (R.HOST_PBAn (n / 32)) := by
          unfold clrBit
          split
          · exact Nat.sub_le _ _
          · exact le_rfl
        omega
      rw [State.regN_emit, State.regN_putReg_same, Nat.mod_eq_of_lt hlt]
      exact bit_clrBit _ _
    · rw [sameRegs_emit, sameRegs_putReg (by simp), sameRegs_putFld (by simp)]
      exact SameRegs.refl w _

/-- Settles O14, register by register. -/
theorem registerAccessHappens : Obligations.RegisterAccessHappens := by
  refine ⟨?arg, ?bad, ?low, ?set, ?status, ?enable, ?unmask⟩
  case arg =>
    rintro b k v path x ⟨hb, hk⟩
    have haddr : hdr b (0x44 + 4 * k) % 2 ^ 25 = hdr b (0x44 + 4 * k) := by simp only [hdr]; omega
    refine happens (f := fun w => w.busWrite path x (hdr b (0x44 + 4 * k) % 2 ^ 25) v.toNat true) (fun _ _ => rfl) fun w hw => ?_
    have hkeeps : Keeps w (w.monNote path (hdr b (0x44 + 4 * k)) v.toNat) := (Keeps.refl w).monNote _ _ _
    rw [haddr, State.busWrite_reaches hw, State.writeReg_arg _ _ _ hb hk v.isLt]
    refine ⟨?_, ?_, ?_, ?_⟩
    · rw [State.regN_putReg_same, Nat.mod_eq_of_lt v.isLt]
    · rw [State.putReg_archive, hkeeps.archive]
    · rw [State.putReg_stk, hkeeps.stk]
    · rw [sameRegs_putReg List.mem_cons_self]
      intro a ha
      simp only [List.mem_cons, List.not_mem_nil, or_false, not_or] at ha
      exact State.regN_monNote _ _ _ _ (Ne.symm ha.2.1) (Ne.symm ha.2.2.1) (Ne.symm ha.2.2.2)
  case bad =>
    intro addr v x haddr
    refine happens (f := fun w => w.busWrite .host x (addr % 2 ^ 25) v.toNat false) (fun _ _ => rfl) fun w hw => ?_
    have hval : w.busWrite .host x (addr % 2 ^ 25) v.toNat false = w.hostErr .host 0 1 addr := by
      unfold State.busWrite
      rw [Nat.mod_eq_of_lt haddr]
      simp [hw]
    rw [hval]
    refine ⟨w.pairAt_hostErr _ (by omega), w.regN_hostErr_cause _ (by decide) (by decide), w.regN_hostErr_bad _ _ _, ?_⟩
    rw [sameRegs_hostErr (by simp) (by simp) (by simp) (by simp) (by simp) (by simp) (by simp) (by simp)]
    exact SameRegs.refl w _
  case low =>
    rintro addr ⟨haddr, hhigh⟩ s t hheld ⟨hdeaf, hon, hdef, hsnap⟩
    refine ⟨(s.at t).readByHost addr, exec_lowWordRead t haddr hheld hdeaf hon hdef, ?_, ?_, State.readByHost_sameRegs _ _⟩
    · exact (State.readByHost_of_plain hhigh hsnap).1
    · exact (State.readByHost_of_plain hhigh hsnap).2
  case set =>
    intro b v hb
    have hlt := blockHeader_lt hb
    have haddr : hdr b 0x18 % 2 ^ 25 = hdr b 0x18 := by simp only [hdr]; omega
    refine happens (f := fun w => if blockHeader b then w.busWrite .host {} (hdr b 0x18) v.toNat true else w) (fun _ _ => rfl) fun w hw => ?_
    obtain ⟨hstatus, henable, hcount⟩ := State.foldl_raise b ((List.range 32).filter fun i => bit (v.toNat &&& definedCauses b) i) w
    have hdefined : (BitVec.ofNat 32 (definedCauses b)).toNat = definedCauses b :=
      Nat.mod_eq_of_lt (definedCauses_lt ⟨b, hlt⟩)
    rw [if_pos hb, State.busWrite_reaches hw, State.monNote_byHost, State.writeReg_irqSet _ _ _ _ hb]
    unfold State.writeIrqSet
    refine ⟨?_, henable, ?_, ?_, sameRegs_foldl_raise w hlt _⟩
    · rw [hstatus, ← or_defined_status, hdefined]
    · rw [hcount, BitVec.toNat_add, BitVec.toNat_ofNat, Nat.add_mod_mod]
      simp [bit, BitVec.getLsbD]
    · exact fun hp hmask => State.foldl_raise_signals hlt _ hp.1 hp.2 hmask (State.awakeHost hw)
  case status =>
    intro b v hb
    refine happens (f := fun w => if blockHeader b then w.busWrite .host {} (hdr b 0x10) v.toNat true else w) (fun _ _ => rfl) fun w hw => ?_
    rw [if_pos hb, State.busWrite_reaches hw, State.monNote_byHost]
    have h := w.writeReg_irq .host {} false v.toNat hb
    rw [if_neg (by decide)] at h
    rw [h]
    have hj := State.writeIrq_effect (blockHeader_lt hb) (State.awakeHost hw) false v.toNat rfl
    rwa [defined_word v (blockHeader_lt hb)] at hj
  case enable =>
    intro b v hb
    refine happens (f := fun w => if blockHeader b then w.busWrite .host {} (hdr b 0x14) v.toNat true else w) (fun _ _ => rfl) fun w hw => ?_
    rw [if_pos hb, State.busWrite_reaches hw, State.monNote_byHost]
    have h := w.writeReg_irq .host {} true v.toNat hb
    rw [if_pos (by decide)] at h
    rw [h]
    have hj := State.writeIrq_effect (blockHeader_lt hb) (State.awakeHost hw) true v.toNat rfl
    rwa [defined_word v (blockHeader_lt hb)] at hj
  case unmask =>
    intro n hn
    refine happens (f := fun w => if n < 64 then w.busWrite .host {} (R.HOST_MSIXn_CTRL n) 0 true else w) (fun _ _ => rfl) fun w hw => ?_
    rw [if_pos hn, State.busWrite_reaches hw, State.monNote_byHost, State.writeReg_mask _ _ _ hn]
    exact State.writeMask_effect hn (State.awakeHost hw)

end Sys2Proof.Machine
end

section
/-!
PROOFS. Sys2Proof/Proofs/ModeRequests.lean: a request for a mode that waits for its domains.
-/

namespace Sys2Proof.Machine

/-- The number of a pulse output whose register would stand where POWER_DOMAIN_STATE does. -/
def farPulse : Nat := (R.POWER_DOMAIN_STATE - R.ENERGY_PULSEn_STATE 0) / 4

/-- In M2 domain 8 is USED and OFF, a pin test runs, and the output of a number far out of range is still kept. -/
def pinTestInConfig : State :=
  let s := (((everyDomainOn 2).putFld F.DRAFT_DOMAINS_USED (2 ^ 8)).putDomain 8 2).setEnergy { pulses := [(farPulse, {})] }
  s.setVote { s.vote with test := some (0, 0) }

set_option maxRecDepth 16000 in
theorem requestM9_does_not_wait :
    outcomePasses (exec (.requestM9 900 .host) pinTestInConfig) (fun u => u.power.request == none) = true := by decide

set_option maxRecDepth 16000 in
/-- Refutes O15: a request for M9 ends the pin test first, and the outputs that then follow clear the upper half of the register that shows the
domains, where an output is kept whose number leads there; so the sleeping domain reads as ON, and the request does not wait. -/
theorem not_requestsHappen : ¬ Obligations.RequestsHappen := by
  intro h
  obtain ⟨_, _, _, hrequest, _⟩ := h
  obtain ⟨u, ⟨hwaits, _⟩, hnone⟩ := (hrequest .host pinTestInConfig 900 rfl (by decide)).passes requestM9_does_not_wait
  rw [hwaits] at hnone
  cases hnone

end Sys2Proof.Machine
end

section
/-!
PROOFS. Sys2Proof/Proofs/Supplies.lean: a lasting droop.
-/

namespace Sys2Proof.Machine

/-- The number at which the register of a pulse output would be `POWER_DROOP_LASTING`. -/
def pulseAtDroopLasting : Nat := (R.POWER_DROOP_LASTING - R.ENERGY_PULSEn_STATE 0) / 4

/-- A droop of supply 0 in M3, 65,536 lasting ones counted before it, and a pulse output left under that number. -/
def droopWithStrayPulse : State :=
  ((((everyDomainOn 3).putReg R.POWER_DROOP_LASTING 65536).setEnergy { pulses := [(pulseAtDroopLasting, {})] })).setPower
    { droops := [(0, 0, 700)] }

set_option maxRecDepth 16000 in
theorem droopLasting_with_stray_pulse :
    outcomePasses (exec (.droopLasting 20000 0) droopWithStrayPulse) (fun u => u.regN R.POWER_DROOP_LASTING == 1) = true := by decide

set_option maxRecDepth 16000 in
/-- Refutes O17: a lasting droop leads to SAFE, where the pulse outputs left are taken down, each with the backlog its register shows; from
every state is meant there, also one with an output under a number past the last, whose register is then the count of lasting droops. -/
theorem not_suppliesAndFlushHappen : ¬ Obligations.SuppliesAndFlushHappen := by
  intro h
  obtain ⟨_, _, hlasting, _⟩ := h
  obtain ⟨u, ⟨_, _, hcount, _⟩, hone⟩ :=
    (hlasting 0 0 700 (by decide) droopWithStrayPulse 20000 rfl (by decide)).passes droopLasting_with_stray_pulse
  have hnext : u.regN R.POWER_DROOP_LASTING = 65537 := by
    rw [hcount]
    decide
  rw [hnext] at hone
  cases hone

end Sys2Proof.Machine
end

section
/-!
PROOFS. Sys2Proof/Proofs/StacksWindow.lean: a read of the Stacks window past the last region.
-/

namespace Sys2Proof.Machine

/-- The address at which the regions of the Stacks begin, and end where none is given out. -/
def pastRegions : Nat := 64 * 2 ^ 20

/-- Without a draft no region of the Stacks is given out, and one byte of them is not 0. -/
def byteOutsideRegions : State := (everyDomainOn 3).setStk [(pastRegions, 5)]

set_option maxRecDepth 16000 in
theorem bar2Read_outside_regions :
    outcomePasses (exec (.bar2Read 900 pastRegions 1 true) byteOutsideRegions) (fun u => u.out.head? == some (.readData [0])) = true := by decide

set_option maxRecDepth 16000 in
/-- Refutes O18: a read through the Stacks window past the last region answers zeros, where the statement has what the Stacks hold there; from
every state is meant there, also one whose Stacks hold a byte outside every region. -/
theorem not_hostRuns : ¬ Obligations.HostRuns := by
  intro h
  obtain ⟨_, _, _, _, _, _, hread, _⟩ := h
  obtain ⟨u, ⟨⟨l, hl, _, hbyte⟩, _⟩, hzero⟩ :=
    (hread pastRegions 1 (by decide) byteOutsideRegions 900 rfl (by decide)).passes bar2Read_outside_regions
  rw [eq_of_beq hzero] at hl
  rw [List.mem_singleton.mp hl] at hbyte
  exact absurd (hbyte 0 (by decide)) (by decide)

end Sys2Proof.Machine
end

section
/-!
PROOFS. Sys2Proof/Proofs/BoundaryScan.lean: what the stage shows under BYPASS.
-/

namespace Sys2Proof.Machine

/-- The number at which the register of a pulse output would be `FAULT_PAD_HOLD`. -/
def pulseAtPadHold : Nat := (R.FAULT_PAD_HOLD - R.ENERGY_PULSEn_STATE 0) / 4

/-- The pad hold holds balls 0 and 2, and the module drives no pulses but has one left under that number. -/
def strayPulse : State :=
  (((everyDomainOn 3).putFld F.FAULT_STATUS_PAD_HOLD 1).putFld F.FAULT_PAD_HOLD_HELD 5).setEnergy { pulses := [(pulseAtPadHold, {})] }

set_option maxRecDepth 16000 in
theorem bypass_with_stray_pulse :
    outcomePasses (exec (.bypass 900) strayPulse) (fun u => u.vote.sink == 0) = true := by decide

set_option maxRecDepth 16000 in
/-- Refutes O19: the pulse outputs left are taken down before the stage follows the pad hold, each with the backlog its register shows; from
every state is meant there, also one with an output under a number past the last, whose register is then that of the balls held. -/
theorem not_boundaryScan : ¬ Obligations.BoundaryScan := by
  intro h
  obtain ⟨hbypass, _⟩ := h
  obtain ⟨u, ⟨_, hsink, _⟩, hzero⟩ := (hbypass strayPulse 900 rfl trivial).passes bypass_with_stray_pulse
  have hheld : u.vote.sink = 5 := by
    rw [hsink, if_pos (by decide)]
    decide
  rw [hheld] at hzero
  cases hzero

end Sys2Proof.Machine
end

section
/-!
PROOFS. Sys2Proof/Proofs/MonitorStacks.lean: what the monitor reads of the Stacks.
-/

namespace Sys2Proof.Machine

/-- Where the regions of the Stacks begin, and end where none is given out. -/
def spillStart : Nat := 64 * 2 ^ 20

/-- Without a draft no region of the Stacks is given out, and one byte of them is not 0. -/
def strayStackByte : State := (everyDomainOn 3).setStk [(spillStart, 5)]

set_option maxRecDepth 16000 in
theorem monSr_outside_regions :
    outcomePasses (exec (.monSr 900 spillStart 1 none) strayStackByte)
      (fun u => u.out[1]? == some (.uart ("OK 0x" ++ hexDigits 9 spillStart ++ " " ++ hexWord 0))) = true := by decide

set_option maxRecDepth 16000 in
/-- Refutes O20: `sr` reads as the Stacks window does, which answers zeros past the last region, where the statement has what the Stacks hold
there; from every state is meant there, also one whose Stacks hold a byte outside every region. -/
theorem not_monitorReads : ¬ Obligations.MonitorReads := by
  intro h
  obtain ⟨_, _, _, hsr, _⟩ := h
  obtain ⟨u, ⟨_, hwords, _⟩, hzero⟩ :=
    (hsr spillStart 1 (by decide) strayStackByte 900 rfl (by decide)).passes monSr_outside_regions
  rw [hwords 0 (by decide)] at hzero
  exact absurd hzero (by decide)

end Sys2Proof.Machine
end

section
/-!
PROOFS. Sys2Proof/Proofs/MonitorLines.lean: what the monitor's lines that write do.
-/

namespace Sys2Proof.Machine

/-- In M0, with the monitor as master and a slot number left in DRAFT_PATCH_SLOT. -/
def slotLeft : State := ((everyDomainOn 0).putFld F.HOST_MASTER_OWNER 1).putReg R.DRAFT_PATCH_SLOT_LO 5

set_option maxRecDepth 16000 in
theorem monLoad_takes_patchSlot :
    outcomePasses (exec (.monLoad 900 1 0 64) slotLeft) (fun u => u.draft.load.any fun l => l.slot == 5) = true := by decide

/-- Refutes O21: `load` by a monitor line keeps the slot in DRAFT_PATCH_SLOT with the load, where the statement has slot 0. -/
theorem not_monitorWrites : ¬ Obligations.MonitorWrites := by
  intro h
  obtain ⟨_, _, _, _, hload, _⟩ := h
  obtain ⟨u, ⟨_, _, _, hl, _⟩, hslot⟩ := (hload 1 64 (by decide) slotLeft 900 rfl (by decide)).passes monLoad_takes_patchSlot
  rw [hl] at hslot
  cases hslot

end Sys2Proof.Machine
end

section
/-!
PROOFS. Sys2Proof/Proofs/MonitorLoads.lean: the line rate on trial, and loads over the UART.
-/

namespace Sys2Proof.Machine

/-! What an event leaves of what has gone out. -/

theorem State.mem_out_mirrorSend {s : State} {o : Output} (h : o ∈ s.out) (k : Nat) (b : List Byte) : o ∈ (s.mirrorSend k b).out := by
  unfold State.mirrorSend
  split
  · simpa using Or.inr h
  · exact h

theorem State.mem_out_event {s : State} {o : Output} (h : o ∈ s.out) (code src : Nat) (p : List Byte) : o ∈ (s.event code src p).out := by
  have hlost : ∀ (w : State), o ∈ w.out → o ∈ (lostEvent w code).out := fun w hw => by
    unfold lostEvent
    dsimp only
    split
    · exact State.mem_out_raise (by simpa using hw) _
    · split <;> simpa using hw
  have hstage : ∀ (l : LedgerSt) (c : Bool), o ∈ (s.stageEvent l code src p c).out := fun l c => by
    unfold State.stageEvent
    split
    · exact hlost _ (by simpa using h)
    · unfold State.mirrorRecord
      split
      · exact State.mem_out_mirrorSend (by simpa using h) _ _
      · simpa using h
  unfold State.event
  split
  · simpa using h
  · split
    · simpa using h
    · exact hstage _ _
    · exact hstage _ _

/-! Lines (R462, R463). -/

/-- A line is received: the session goes on, or begins with a record of its own. -/
theorem State.lineIn_effect (s : State) :
    s.lineIn.host = { s.host with lineAt := some s.bases.mono, trial := none } ∧ s.lineIn.bases = s.bases ∧
      SameRegs s s.lineIn ([R.MONITOR_LINES, R.MONITOR_STATUS] ++ eventRegs) := by
  obtain ⟨v, hv, hhost, hbases, hregs⟩ : ∃ v : State, s.lineIn =
      (v.setHost { v.host with lineAt := some v.bases.mono, trial := none }).putFld F.MONITOR_STATUS_RATE_TRIAL 0 ∧
      v.host = s.host ∧ v.bases = s.bases ∧ SameRegs s v ([R.MONITOR_LINES, R.MONITOR_STATUS] ++ eventRegs) := by
    refine ⟨_, rfl, ?_⟩
    have hcount : SameRegs s (s.count R.MONITOR_LINES) ([R.MONITOR_LINES, R.MONITOR_STATUS] ++ eventRegs) :=
      (sameRegs_count (by simp)).mpr (SameRegs.refl s _)
    split
    · exact ⟨by simp, by simp, hcount⟩
    · refine ⟨by simp, by simp, ?_⟩
      rw [sameRegs_raise (by simp), sameRegs_event (by simp) (by simp)]
      exact hcount
  rw [hv]
  refine ⟨by simp [hhost, hbases], by simp [hbases], ?_⟩
  rw [sameRegs_putFld (by simp), sameRegs_setHost]
  exact hregs

/-- A line reaches its command unless a load runs or the module restarts. -/
theorem State.monLine_free {s : State} (hload : s.isSet F.MONITOR_STATUS_LOADING = false) (hwarm : s.power.warmAt = none) (f : State → State) :
    s.monLine f = f s.lineIn := by
  have hpower : s.lineIn.power = s.power := by
    have hframe : Frame 0x20100008d0 s s.lineIn := by
      unfold State.lineIn
      dsimp only
      simp (disch := decide) only [Frame.putFld, Frame.setHost, Frame.ite, Frame.raise, Frame.event, Frame.count, Frame.refl, ite_self]
    exact hframe .power rfl
  unfold State.monLine
  dsimp only
  rw [hload, if_neg Bool.false_ne_true, hpower, hwarm]
  rfl

/-! Loads over the UART (R466). -/

theorem State.uartLoad_running {s : State} {x : UartLoad} (h : s.uartLoad = some x) :
    s.isSet F.MONITOR_STATUS_LOADING = true ∧ ∃ l, s.draft.load = some l ∧ l.source = 4 := by
  unfold State.uartLoad at h
  split at h
  · next l hl =>
    split at h
    · next hc => exact ⟨hc.2, l, hl, hc.1⟩
    · cases h
  · cases h

/-- A block whose check value holds is kept and acknowledged. -/
def State.blockKept (s : State) (x : UartLoad) (l : List Byte) : State :=
  (s.setHost { s.host with uart := some { x with bytes := x.bytes ++ l, failed := false, last := s.bases.mono } }).emit (.uartByte 0x06)

theorem State.uartTake_good {s : State} {x : UartLoad} {l : List Byte} (h : s.uartLoad = some x) (hl : l.length = 1024) (hx : x.length ≠ 0) :
    s.uartTake l (crc32c 0xFFFFFFFF l) =
      if x.length ≤ (x.bytes ++ l).length then
        (s.blockKept x l).uartEnds { x with bytes := x.bytes ++ l, failed := false, last := s.bases.mono } 0
      else s.blockKept x l := by
  unfold State.uartTake
  rw [h]
  dsimp only
  rw [if_pos ⟨hl, rfl⟩, if_neg hx]
  rfl

/-- A block that fails for the first time is asked for again. -/
theorem State.uartTake_bad {s : State} {x : UartLoad} {l : List Byte} {crc : Nat} (h : s.uartLoad = some x) (hf : x.failed = false)
    (hbad : l.length ≠ 1024 ∨ crc ≠ crc32c 0xFFFFFFFF l) :
    s.uartTake l crc = (s.emit (.uartByte 0x15)).setHost { s.host with uart := some { x with failed := true, last := s.bases.mono } } := by
  unfold State.uartTake
  rw [h]
  dsimp only
  rw [if_neg (by tauto), hf, if_neg Bool.false_ne_true]
  simp

/-- A transfer that ends well leaves the load to be checked. -/
theorem State.uartEnds_received (s : State) (x : UartLoad) :
    (s.uartEnds x 0).host = s.host ∧ (s.uartEnds x 0).isSet F.MONITOR_STATUS_LOADING = false ∧ (s.uartEnds x 0).draft = s.draft ∧
      SameRegs s (s.uartEnds x 0) (R.MONITOR_STATUS :: eventRegs) ∧ ∀ o ∈ s.out, o ∈ (s.uartEnds x 0).out := by
  obtain ⟨p, hp⟩ : ∃ p : List Byte, s.uartEnds x 0 = (s.putFld F.MONITOR_STATUS_LOADING 0).event E.MONITOR_UART_LOAD noSource p := ⟨_, rfl⟩
  rw [hp]
  refine ⟨by simp, ?_, by simp, ?_, fun o ho => ?_⟩
  · unfold State.isSet
    rw [State.fld_event _ _ _ _ (by decide) (by decide), State.fld_putFld_same _ _ _ (by decide)]
    rfl
  · rw [sameRegs_event (by simp) (by simp), sameRegs_putFld (by simp)]
    exact SameRegs.refl s _
  · exact State.mem_out_event (by simpa using ho) _ _ _

/-- A card or a patch whose transfer ends in silence is given up. -/
theorem State.uartEnds_silent {s : State} (x : UartLoad) {l : LoadReq} (hload : s.draft.load = some l) (hsource : l.source = 4)
    (hkind : l.kind ≠ .draft) :
    (s.uartEnds x 2).host = { s.host with uart := none } ∧ (s.uartEnds x 2).isSet F.MONITOR_STATUS_LOADING = false ∧
      (s.uartEnds x 2).draft.load = none := by
  obtain ⟨p, hp⟩ : ∃ p : List Byte, p = leBytes 1 x.kind ++ leBytes 4 (min x.bytes.length x.length) ++ leBytes 1 2 := ⟨_, rfl⟩
  obtain ⟨v, hv⟩ : ∃ v : State, v = (s.putFld F.MONITOR_STATUS_LOADING 0).event E.MONITOR_UART_LOAD noSource p := ⟨_, rfl⟩
  have hvload : v.draft.load = some l := by rw [hv]; simpa using hload
  have hlost : ∃ f, v.loadUnread l x.bytes [] x.bytes.length = (v.setDraft { v.draft with load := none }).refuseObject stBadArg f 0 := by
    unfold State.loadUnread State.loadLost State.noImage State.retries
    rw [hsource]
    cases hk : l.kind with
    | draft => exact absurd hk hkind
    | card => exact ⟨_, rfl⟩
    | patch => exact ⟨_, rfl⟩
  obtain ⟨f, hf⟩ := hlost
  have hval : s.uartEnds x 2 = (v.loadUnread l x.bytes [] x.bytes.length).setHost { v.host with uart := none } := by
    unfold State.uartEnds
    dsimp only
    rw [if_neg (by decide), ← hp, ← hv, hvload]
  have hframe : Frame 0x100008d0 (v.setDraft { v.draft with load := none }) ((v.setDraft { v.draft with load := none }).refuseObject stBadArg f 0) := by
    simp (disch := decide) only [Frame.refuseObject, Frame.refl]
  have hvhost : v.host = s.host := by rw [hv]; simp
  rw [hval, hf]
  refine ⟨?_, ?_, ?_⟩
  · rw [State.setHost_host, hvhost]
  · have hcleared : v.fld F.MONITOR_STATUS_LOADING = 0 := by
      rw [hv, State.fld_event _ _ _ _ (by decide) (by decide), State.fld_putFld_same _ _ _ (by decide)]
      rfl
    rw [State.isSet_setHost]
    unfold State.isSet State.refuseObject
    rw [State.fld_raise _ _ (by decide), State.fld_event _ _ _ _ (by decide) (by decide), State.fld_setDraft, hcleared]
    rfl
  · rw [State.setHost_draft, hframe .draft rfl]
    simp

/-- Settles O22, event by event. -/
theorem monitorLineRateAndLoads : Obligations.MonitorLineRateAndLoads := by
  refine ⟨?baud, ?change, ?revert, ?block, ?last, ?bad, ?silent⟩
  case baud =>
    intro rate hrate
    refine happens (f := fun s => s.monLine (·.baudCmd rate)) (fun _ _ => rfl) fun w hw => ?_
    obtain ⟨hload, hwarm⟩ := hw
    obtain ⟨hhost, hbases, hregs⟩ := w.lineIn_effect
    have hknown : baudRates.contains rate = true := List.contains_iff_mem.mpr hrate
    have hval : w.monLine (·.baudCmd rate) =
        ((w.lineIn.setHost { w.lineIn.host with baud := some (rate, w.lineIn.bases.mono + 10000000) }).emit (.uart "OK")).emit (.uart "> ") := by
      rw [State.monLine_free hload hwarm]
      unfold State.baudCmd
      rw [if_pos hknown]
      rfl
    rw [hval]
    refine ⟨?_, ?_, ?_, ?_⟩
    · simp [hhost, hbases]
    · rw [State.regN_emit, State.regN_emit, State.regN_setHost, hregs _ (by decide)]
    · simp
    · rw [sameRegs_emit, sameRegs_emit, sameRegs_setHost]
      exact hregs
  case change =>
    intro rate due hrate
    refine happens (f := State.baudChanged) (fun _ _ => rfl) fun w hw => ?_
    obtain ⟨hbaud, hdue⟩ := hw
    obtain ⟨v, hv⟩ : ∃ v : State, v = w.event E.MONITOR_BAUD_CHANGE noSource (leBytes 4 (w.regN R.MONITOR_BAUD) ++ leBytes 4 rate) := ⟨_, rfl⟩
    have hval : w.baudChanged = ((v.putReg R.MONITOR_BAUD rate).putFld F.MONITOR_STATUS_RATE_TRIAL 1).setHost
        { w.host with baud := none, trial := some w.bases.mono } := by
      unfold State.baudChanged
      rw [hbaud]
      dsimp only
      rw [if_neg (by omega), hv]
      simp
    rw [hval]
    refine ⟨?_, ?_, by simp, ?_⟩
    · rw [State.regN_setHost, State.regN_putFld_other _ _ (by decide), State.regN_putReg_same, Nat.mod_eq_of_lt hrate]
    · rw [State.isSet_setHost]
      unfold State.isSet
      rw [State.fld_putFld_same _ _ _ (by decide)]
      rfl
    · rw [sameRegs_setHost, sameRegs_putFld (by simp), sameRegs_putReg (by simp), hv, sameRegs_event (by simp) (by simp)]
      exact SameRegs.refl w _
  case revert =>
    intro tr
    refine happens (f := State.baudReverted) (fun _ _ => rfl) fun w hw => ?_
    obtain ⟨htrial, hlate⟩ := hw
    obtain ⟨v, hv⟩ : ∃ v : State, v = (w.event E.MONITOR_BAUD_REVERT noSource (leBytes 4 (w.regN R.MONITOR_BAUD))).raise I.MONITOR_BAUD_REVERT :=
      ⟨_, rfl⟩
    have hval : w.baudReverted = ((v.putReg R.MONITOR_BAUD 115200).putFld F.MONITOR_STATUS_RATE_TRIAL 0).setHost { w.host with trial := none } := by
      unfold State.baudReverted
      rw [htrial]
      dsimp only
      rw [if_neg (by omega), hv]
      simp
    rw [hval]
    refine ⟨?_, ?_, by simp, ?_⟩
    · rw [State.regN_setHost, State.regN_putFld_other _ _ (by decide), State.regN_putReg_same, Nat.mod_eq_of_lt (by decide)]
    · rw [State.isSet_setHost]
      unfold State.isSet
      rw [State.fld_putFld_same _ _ _ (by decide)]
      rfl
    · rw [sameRegs_setHost, sameRegs_putFld (by simp), sameRegs_putReg (by simp), hv, sameRegs_raise (by simp), sameRegs_event (by simp) (by simp)]
      exact SameRegs.refl w _
  case block =>
    intro l x hl
    refine happens (f := fun s => s.uartTake l (crc32c 0xFFFFFFFF l)) (fun _ _ => rfl) fun w hw => ?_
    obtain ⟨hx, hmore⟩ := hw
    rw [State.uartTake_good hx hl (by omega), if_neg (by rw [List.length_append, hl]; omega)]
    unfold State.blockKept
    refine ⟨by simp, by simp, ?_, by simp, ?_⟩
    · rw [State.isSet_emit, State.isSet_setHost]
      exact (State.uartLoad_running hx).1
    · rw [sameRegs_emit, sameRegs_setHost]
      exact SameRegs.refl w _
  case last =>
    intro l x hl
    refine happens (f := fun s => s.uartTake l (crc32c 0xFFFFFFFF l)) (fun _ _ => rfl) fun w hw => ?_
    obtain ⟨hx, hsize, hall⟩ := hw
    rw [State.uartTake_good hx hl hsize, if_pos (by rw [List.length_append, hl]; exact hall)]
    obtain ⟨hhost, hloading, hdraft, hregs, hout⟩ :=
      (w.blockKept x l).uartEnds_received { x with bytes := x.bytes ++ l, failed := false, last := w.bases.mono }
    rw [hhost, hdraft]
    refine ⟨?_, hout _ ?_, hloading, ?_, ?_⟩
    · simp [State.blockKept]
    · simp [State.blockKept]
    · simp [State.blockKept]
    · rw [SameRegs.iff hregs]
      unfold State.blockKept
      rw [sameRegs_emit, sameRegs_setHost]
      exact SameRegs.refl w _
  case bad =>
    intro l crc x hbad
    refine happens (f := fun s => s.uartTake l crc) (fun _ _ => rfl) fun w hw => ?_
    obtain ⟨hx, hfirst⟩ := hw
    rw [State.uartTake_bad hx hfirst hbad]
    refine ⟨by simp, by simp, by simp, ?_⟩
    rw [sameRegs_setHost, sameRegs_emit]
    exact SameRegs.refl w _
  case silent =>
    intro x
    refine happens (f := State.uartSilent) (fun _ _ => rfl) fun w hw => ?_
    obtain ⟨hx, hlate, hkind⟩ := hw
    obtain ⟨_, l, hload, hsource⟩ := State.uartLoad_running hx
    have hval : w.uartSilent = w.uartEnds x 2 := by
      unfold State.uartSilent
      rw [hx]
      exact if_neg (by omega)
    rw [hval]
    exact State.uartEnds_silent x hload hsource (hkind l (by rw [hload]; simp))

end Sys2Proof.Machine
end

section
/-!
PROOFS. Sys2Proof/Proofs/TimeSources.lean: two barred sources that agree again.
-/

namespace Sys2Proof.Machine

/-- Ports 0 and 1 are barred and have agreed for 10 s; the path of port 0, which GRID follows and which is qualified, is suspect. -/
def suspectBarred : State :=
  let s := (((everyDomainOn 3).putReg R.TIME_SOURCE_PRIO 0x21).putReg R.TIME_SOURCE_QUAL (2 ^ 1)).putFld F.TIME_STATUS_GRID_SOURCE 1
  let s := (s.putFld F.TIME_STATUS_SERVO svSuspect).setBases { s.bases with mono := 10000000000 }
  s.setTime { s.time with src := [(1, { good := 10 }), (2, { good := 10 })], crossOut := [1, 2], agreeSince := some 0 }

set_option maxRecDepth 16000 in
theorem crossAgree_leaves_suspect :
    outcomePasses (exec (.crossAgree 10000000000) suspectBarred) (fun u => u.qualified 1 == false) = true := by decide

set_option maxRecDepth 16000 in
/-- Refutes O26: of two barred sources that agree again, the one that GRID follows on a suspect path is disqualified as soon as the other
qualifies (R83), where the statement has both qualified. -/
theorem not_timeSourcesHappen : ¬ Obligations.TimeSourcesHappen := by
  intro h
  obtain ⟨_, _, _, _, _, _, _, _, _, _, hagree, _⟩ := h
  obtain ⟨u, ⟨_, _, hall⟩, hgone⟩ := (hagree suspectBarred 10000000000 rfl (by decide)).passes crossAgree_leaves_suspect
  rw [hall 1 (by decide) (by decide) (by decide)] at hgone
  cases hgone

end Sys2Proof.Machine
end

section
/-!
PROOFS. Sys2Proof/Proofs/PortCommands.lean: the ports' commands.
-/

namespace Sys2Proof.Machine

/-- Entry 7 of the multicast table with a reserved bit of its second word standing at 1. -/
def reservedBitSet : State := ((everyDomainOn 2).putReg (hdr 2 0x44) 7).putReg (R.PORT_MCASTn_W0 7 + 4) 1

set_option maxRecDepth 16000 in
theorem mcastClear_clears_reserved :
    outcomePasses (exec (.mcastClear 900 .host) reservedBitSet) (fun u => u.regN (R.PORT_MCASTn_W0 7 + 4) == 0) = true := by decide

/-- Refutes O28: MCAST_CLEAR writes all eight words of its entry and leaves the reserved bits out, so that a second word with one set
changes too. -/
theorem not_portCommandsComplete : ¬ Obligations.PortCommandsComplete := by
  intro h
  obtain ⟨_, hclear, _⟩ := h
  obtain ⟨u, ⟨_, _, hsame⟩, hzero⟩ := (hclear reservedBitSet 900 .host (by decide) (by decide)).passes mcastClear_clears_reserved
  have hone := hsame (R.PORT_MCASTn_W0 7 + 4) (by decide)
  have hold : (reservedBitSet.issued 900 .host 2 2).regN (R.PORT_MCASTn_W0 7 + 4) = 1 := by decide
  rw [hone, hold] at hzero
  cases hzero

end Sys2Proof.Machine
end

section
/-!
PROOFS. Sys2Proof/Proofs/PortEvents.lean: frames and links at the ports.
-/

namespace Sys2Proof.Machine

/-- A sampled-value frame to every station. -/
def svBroadcast : List Byte := List.replicate 6 255 ++ List.replicate 6 1 ++ [0x88, 0xBA] ++ List.replicate 50 0

/-- Port 3 up in M4, with an entry of the multicast table that took every station's frames to the slow path and is valid no more. -/
def entryCleared : State :=
  ((((everyDomainOn 4).putFld (F.PORT_CFG_MODE 3) 1).putReg (R.PORT_LINK 3) 7).putReg R.DRAFT_DOMAINS 0xFFFF).setPort
    { mcastPast := [(2000, 0, [0x9000FF00, 0, 0xFFFFFFFF, 0xFFFF])] }

set_option maxRecDepth 16000 in
theorem frameReceived_by_old_table :
    outcomePasses (exec (.frameReceived 900 3 svBroadcast 5 true) entryCleared) (fun u => u.hedQ.isEmpty) = true := by decide

theorem insertFrame_isEmpty (q : List HedFrame) (f : HedFrame) : (insertFrame q f).isEmpty = false := by
  unfold insertFrame
  dsimp only
  split <;> simp

set_option maxRecDepth 16000 in
/-- Refutes O29: a frame is classified on the multicast table as its first byte found it (R101), so that an entry no longer valid can take
a sampled-value frame to the slow path, where the statement looks at the present table only. -/
theorem not_portEventsHappen : ¬ Obligations.PortEventsHappen := by
  intro h
  obtain ⟨_, _, _, hsv, _⟩ := h
  obtain ⟨u, ⟨hq, _⟩, hempty⟩ :=
    (hsv 3 svBroadcast 5 (by decide) entryCleared 900 rfl (by decide)).passes frameReceived_by_old_table
  rw [hq, insertFrame_isEmpty] at hempty
  cases hempty

end Sys2Proof.Machine
end

section
/-!
PROOFS. Sys2Proof/Proofs/HeddleCommands.lean: Heddle's commands.
-/

namespace Sys2Proof.Machine

/-- A STREAMS body whose only entry is a C37.118 stream, SID 5, enabled. -/
def oneStream : List Byte :=
  [0, 0, 0, 0, 5, 0, 0, 0] ++ [1] ++ List.replicate 23 0 ++ [1] ++ List.replicate 39 0

/-- A draft with that body is in force, and the stream's state is a number of more than 32 bits. -/
def wideStreamState : State :=
  (((everyDomainOn 3).putReg (hdr 4 0x44) 5).setDraft
    { base := some { header := [], sections := [(secStreams, oneStream)], length := 0, signed := false, keySlot := 0 } }).setHeddle
    { streams := [(5, { st := 2 ^ 32 })] }

set_option maxRecDepth 16000 in
theorem streamState_result_wraps :
    outcomePasses (exec (.streamState 900 .host) wideStreamState) (fun u => (u.results 4).1 == 0) = true := by decide

set_option maxRecDepth 16000 in
/-- Refutes O30: RESULT0 is a register of 32 bits, where the statement has the sum with the stream's state, a number without bound in the
model's state (the codes of R137 end at 5). -/
theorem not_heddleCommandsComplete : ¬ Obligations.HeddleCommandsComplete := by
  intro h
  obtain ⟨hstate, _⟩ := h
  obtain ⟨u, ⟨_, hr, _⟩, hzero⟩ := (hstate wideStreamState 900 .host (by decide) (by decide)).passes streamState_result_wraps
  have hsum : (u.results 4).1 = 2 ^ 32 := by
    rw [hr]
    decide
  rw [hsum] at hzero
  cases hzero

end Sys2Proof.Machine
end

section
/-!
PROOFS. Sys2Proof/Proofs/HeddleSessions.lean: IEC 61850 messages at Heddle's input.
-/

namespace Sys2Proof.Machine

/-- A STREAMS body whose only entry is a session stream, SID 5, ID 99, 50 frames a second, enabled. -/
def sessionStream : List Byte :=
  [0, 0, 0, 0, 5, 0, 0, 0] ++ [3, 255, 99, 0] ++ List.replicate 20 0 ++ [1, 1, 0, 0, 0, 0, 50, 0] ++ [100, 0, 0, 0, 2, 0, 8, 0, 232, 3] ++
    List.replicate 22 0

/-- A session PDU of that stream, SPDU number 9, neither encrypted nor signed, with one ASDU at second 7. -/
def sessionPayload : List Byte :=
  [1, 0x40, 0xA2, 0] ++ List.replicate 6 0 ++ [0, 0, 0, 9, 0, 1] ++ List.replicate 4 0 ++ [0, 100] ++ List.replicate 11 0 ++
    [0x82, 0, 0, 99, 0, 33, 0x60, 31, 0x80, 1, 1, 0xA2, 26, 0x30, 24, 0x82, 2, 0, 7, 0x83, 4, 0, 0, 0, 7, 0x84, 8, 0, 0, 0, 7, 0, 0, 0, 0,
      0x85, 1, 2, 0x87, 0, 0x85, 0]

def sessionFrame9 : HedFrame := ⟨0, 500, false, 2, List.replicate 14 9, sessionPayload, [1, 2, 3, 4], 102⟩

/-- The frame waits, and SPDU number 9 of its stream has been taken before. -/
def replayed : State :=
  (((everyDomainOn 3).setDraft
    { base := some { header := [], sections := [(secStreams, sessionStream)], length := 0, signed := false, keySlot := 0 } }).setHeddle
    { streams := [(5, { spdu := some 9 })] }).setHedQ [sessionFrame9]

set_option maxRecDepth 16000 in
theorem sessionPdu_replayed_dropped :
    outcomePasses (exec (.sessionPdu 900) replayed) (fun u => (u.streamSt 5).ref.isNone) = true := by decide

set_option maxRecDepth 16000 in
/-- Refutes O32: a session PDU whose SPDU number is not later than the last one taken is a replay and dropped (R128); the statement has no
hypothesis on that number. -/
theorem not_heddleIecHappens : ¬ Obligations.HeddleIecHappens := by
  intro h
  obtain ⟨hsession, _⟩ := h
  obtain ⟨u, ⟨_, href, _⟩, hnone⟩ :=
    (hsession sessionFrame9 [] 5 (entryOf sessionStream 0 5) 7000000000 ((asdus (readSession sessionPayload).apdu).headD []) replayed 900 rfl
      (by decide)).passes sessionPdu_replayed_dropped
  rw [href] at hnone
  cases hnone

end Sys2Proof.Machine
end

section
/-!
PROOFS. Sys2Proof/Proofs/Reed.lean: Reed's commands.
-/

namespace Sys2Proof.Machine

/-- A REED body whose only estimator is that of WID 8, in group 0. -/
def oneEstimator : List Byte := [0, 0, 1, 0] ++ List.replicate 140 0 ++ [8] ++ List.replicate 15 0

/-- A draft with that body is in force; the group has formed a frequency word and holds no frequency now. -/
def groupWithoutFreq : State :=
  (((everyDomainOn 3).putReg (hdr 5 0x44) 8).setDraft
    { base := some { header := [], sections := [(secReed, oneEstimator)], length := 0, signed := false, keySlot := 0 } }).setReed
    { groups := [(0, { last := 7 })] }

set_option maxRecDepth 16000 in
theorem estState_shows_last :
    outcomePasses (exec (.estState 900 .host) groupWithoutFreq) (fun u => (u.results 5).2 == 7) = true := by decide

set_option maxRecDepth 16000 in
/-- Refutes O33: EST_STATE shows the last frequency word the estimator's group formed (R173), where the statement has the frequency the
group holds now, which may be none. -/
theorem not_reedRuns : ¬ Obligations.ReedRuns := by
  intro h
  obtain ⟨_, hest, _⟩ := h
  obtain ⟨u, ⟨_, hr, _⟩, hseven⟩ :=
    (hest ((reedEstimators oneEstimator).headD []) groupWithoutFreq 900 .host (by decide) (by decide)).passes estState_shows_last
  rw [hr] at hseven
  exact absurd hseven (by decide)

end Sys2Proof.Machine
end

section
/-!
PROOFS. Sys2Proof/Proofs/LoomSlots.lean: slots open on the Loom's lattices.
-/

namespace Sys2Proof.Machine

/-- A TIE-UP body with lattice 0 at 50 slots a second and four slots open. -/
def fiftyASecond : List Byte := List.replicate 32 0 ++ [9, 1, 4, 0] ++ List.replicate 60 0

/-- GRID has been stepped to three slots and a half past the slot that lattice 0 was to open next. -/
def steppedPast : State :=
  (((everyDomainOn 3).setDraft
    { base := some { header := [], sections := [(secTieup, fiftyASecond)], length := 0, signed := false, keySlot := 0 } }).setBases
    { grid := 5070000000 }).setLoom { lats := [(0, { next := some (5 * 65536), stepped := true })] }

set_option maxRecDepth 16000 in
theorem slotInstant_skips_after_step :
    outcomePasses (exec (.slotInstant 900 0) steppedPast) (fun u => (u.lat 0).next == some (5 * 65536 + 4)) = true := by decide

set_option maxRecDepth 16000 in
/-- Refutes O35: at the slot instant after a step of GRID the lattice goes on at the first slot from now (R176), so that the slot it was to
open is skipped; the statement has no hypothesis that GRID was not stepped. -/
theorem not_loomEventsHappen : ¬ Obligations.LoomEventsHappen := by
  intro h
  obtain ⟨hslot, _⟩ := h
  obtain ⟨u, hnext, hskipped⟩ := (hslot 0 (5 * 65536) (by decide) steppedPast 900 rfl (by decide)).passes slotInstant_skips_after_step
  rw [hnext] at hskipped
  exact absurd hskipped (by decide)

end Sys2Proof.Machine
end

section
/-!
PROOFS. Sys2Proof/Proofs/VotePipeline.lean: what closes at VOTE.
-/

namespace Sys2Proof.Machine

/-- A TIE-UP body with lattice 0 at two slots a second. -/
def twoASecond : List Byte := List.replicate 32 0 ++ [1] ++ List.replicate 63 0

/-- An enabled tracker's entry on TID 0. -/
def trackerEntry0 : List Byte := [0, 0, 1] ++ List.replicate 29 0

/-- A slot of lattice 0 waits to be evaluated, with a tracker to read it, while a load is under way in M1. -/
def slotInLoad : State :=
  (((everyDomainOn 1).setDraft
    { base := some { header := [], sections := [(secTieup, twoASecond)], length := 0, signed := false, keySlot := 0 }
      load := some { kind := .draft, source := 0, address := 0, length := 0, auto := false, start := 0 } }).setOsc
    { trackers := [(0, { entry := trackerEntry0 })] }).setLoom { closeQ := [(0, 3 * 65536)] }

set_option maxRecDepth 16000 in
theorem closePipeline_loses_rate :
    outcomePasses (exec (.closePipeline 900 [(7, 0, 2)] []) slotInLoad) (fun u => smFind u.vote.last 0 == some 0) = true := by decide

set_option maxRecDepth 16000 in
/-- Refutes O40: a check value that fails twice while the mode is below M2 ends the load and drops the draft (R288), and with it the
lattice's rate, so that the slot number kept is not the one the statement forms with the rate before; from every state is meant there, also
one in which a closed slot waits in M1. -/
theorem not_voteEventsHappen : ¬ Obligations.VoteEventsHappen := by
  intro h
  obtain ⟨hclose, _⟩ := h
  obtain ⟨u, ⟨_, hlast, _⟩, hzero⟩ :=
    (hclose 0 (3 * 65536) [] [(7, 0, 2)] [] (by decide) slotInLoad 900 rfl (by decide)).passes closePipeline_loses_rate
  rw [hlast] at hzero
  exact absurd hzero (by decide)

end Sys2Proof.Machine
end

section
/-!
PROOFS. Sys2Proof/Proofs/FaultEvents.lean: the end of an element's restore.
-/

namespace Sys2Proof.Machine

/-- The element of domain 3 with the number 0. -/
def thirdElement : Nat := 3 * 256

/-- In M10 a fenced element of a lost clock has proved itself, and its island of the clock tree shows FENCED. -/
def lostClockProved : State :=
  ((everyDomainOn 10).putFld (F.CLOCK_ISLn_STATE_FENCED 4) 1).setFault
    { elems := [(thirdElement, { state := 2, cls := fcClockLoss, recovery := true, proving := some 0 })] }

set_option maxRecDepth 16000 in
theorem restored_clears_island_fenced :
    outcomePasses (exec (.restored 100000000000000 thirdElement) lostClockProved)
      (fun u => u.regN (R.CLOCK_ISLn_STATE 4) == 0) = true := by decide

set_option maxRecDepth 16000 in
/-- Refutes O42: the restore of an element that a lost clock fenced also clears FENCED of its island of the clock tree, a register the
statement does not list. -/
theorem not_faultEventsHappen : ¬ Obligations.FaultEventsHappen := by
  intro h
  obtain ⟨_, _, _, _, _, hrestored, _⟩ := h
  obtain ⟨u, ⟨_, _, _, hsame⟩, hzero⟩ :=
    (hrestored thirdElement 0 (by decide) lostClockProved 100000000000000 rfl (by decide)).passes restored_clears_island_fenced
  have hkept : u.regN (R.CLOCK_ISLn_STATE 4) = 2 ^ 30 := by
    rw [hsame _ (by decide)]
    decide
  rw [hkept] at hzero
  cases hzero

end Sys2Proof.Machine
end

section
/-!
PROOFS. Sys2Proof/Proofs/PairCommands.lean: YIELD, RECLAIM and MIRROR_SYNC.
-/

namespace Sys2Proof.Machine

/-! The outcome of a command whose body answers OK (R473). -/

/-- DONE with status OK leaves every part but the registers. -/
theorem frame_finish_ok (b op : Nat) (s : State) : Frame 0x10 s (finish b op (ok s)) := by
  rw [finish_ok rfl rfl]
  simp (disch := decide) only [Frame.putReg, Frame.refl, ok]

theorem finish_ok_pair (b op : Nat) (s : State) : (finish b op (ok s)).pair = s.pair := frame_finish_ok b op s .pair rfl

theorem finish_ok_fld {b op : Nat} (s : State) {f : Fld} (h : f.addr ∉ cmdRegs b) : (finish b op (ok s)).fld f = s.fld f := by
  unfold State.fld
  rw [finish_regN rfl rfl h]
  rfl

theorem finish_ok_isSet {b op : Nat} (s : State) {f : Fld} (h : f.addr ∉ cmdRegs b) : (finish b op (ok s)).isSet f = s.isSet f := by
  unfold State.isSet
  rw [finish_ok_fld s h]

/-! YIELD (R302). -/

theorem State.claim_of_yield {s : State} (h : s.isSet F.PAIR_STATUS_YIELD = true) (hw : s.pair.yieldWait = none) : s.claim = 0 := by
  unfold State.claim
  simp [h, hw]

/-- A section's body in force depends on the draft and on the card shown active (R56). -/
theorem State.cfg_congr {s u : State} (hd : u.draft = s.draft) (hr : u.regN R.DRAFT_CARDS = s.regN R.DRAFT_CARDS) (ty : Nat) :
    u.cfg ty = s.cfg ty := by
  unfold State.cfg State.activeCard State.isSet State.fld
  rw [hd, hr]

theorem State.pairMode_congr {s u : State} (hd : u.draft = s.draft) (hr : u.regN R.DRAFT_CARDS = s.regN R.DRAFT_CARDS) :
    u.pairMode = s.pairMode := by
  unfold State.pairMode
  rw [State.cfg_congr hd hr]

theorem State.interlock_yield {s : State} (hm : s.pairMode = 2) (hc : s.claim = 0) :
    s.interlock.pair.pulled = false ∧ s.interlock.pair.yieldWait = s.pair.yieldWait ∧ SameRegs s s.interlock [] := by
  unfold State.interlock
  rw [hm, hc]
  cases hp : s.pair.pulled with
  | false => exact ⟨by simpa using hp, by simp, SameRegs.refl s _⟩
  | true =>
    refine ⟨?_, ?_, fun a _ => ?_⟩ <;> simp

/-- A YIELD of the holder of an interlocked pair is applied at once. -/
theorem State.applyYield_interlocked {s : State} (hm : s.pairMode = 2) (hy : s.isSet F.PAIR_STATUS_YIELD = true) :
    s.applyYield.isSet F.PAIR_STATUS_YIELD = true ∧ s.applyYield.pair.yieldWait = none ∧ s.applyYield.pair.pulled = false := by
  have hm' : (s.setPair { s.pair with yieldWait := none }).pairMode = 2 := (State.pairMode_congr (by simp) (by simp)).trans hm
  obtain ⟨hpulled, hwait, hregs⟩ := State.interlock_yield hm' (State.claim_of_yield (by simpa using hy) (by simp))
  have hval : s.applyYield = (s.setPair { s.pair with yieldWait := none }).interlock.updateHolding := by
    unfold State.applyYield
    dsimp only
    rw [hm', if_neg (by decide)]
  rw [hval, State.updateHolding_pair]
  refine ⟨?_, ?_, hpulled⟩
  · unfold State.isSet
    rw [State.fld_updateHolding _ rfl (Or.inr (by decide))]
    have h := hregs.isSet (f := F.PAIR_STATUS_YIELD) (by simp)
    rw [State.isSet_setPair, hy] at h
    exact h
  · exact hwait.trans (by simp)

/-! MIRROR_SYNC (R310). -/

theorem State.mirrorSend_up {s : State} (hh : s.isSet F.PAIR_STATUS_HOLDING = true) (hu : s.isSet F.PAIR_STATUS_MIRROR_UP = true)
    (hd : s.isSet F.PAIR_STATUS_DRAFT_MISMATCH = false) (kind : Nat) (c : List Byte) :
    s.mirrorSend kind c =
      ((s.setSlv { s.slv with mirrorQ := s.slv.mirrorQ ++ [(kind, c)] }).count R.PAIR_MIRROR_SENT).emit (.mirror kind c) := by
  unfold State.mirrorSend
  simp [hh, hu, hd]

/-- Settles O43, command by command. -/
theorem pairCommandsComplete : Obligations.PairCommandsComplete := by
  refine ⟨?yieldHeld, ?yieldFree, ?reclaim, ?sync⟩
  case yieldHeld =>
    refine completes_ok (body := fun _ => cmdYield) (fun _ _ _ => rfl) (by decide) fun path w hw => ?_
    obtain ⟨hm, hholds, hout⟩ := hw
    obtain ⟨v, hv⟩ : ∃ v, v = (w.putFld F.PAIR_STATUS_YIELD 1).setPair { w.pair with yieldWait := some w.bases.mono } := ⟨_, rfl⟩
    have hm' : v.pairMode = 2 := by
      rw [← hm, hv]
      exact State.pairMode_congr (by simp) (by rw [State.regN_setPair, State.regN_putFld_other _ _ (by decide)])
    have hy : v.isSet F.PAIR_STATUS_YIELD = true := by
      rw [hv, State.isSet_setPair]
      exact State.isSet_putFld_one _ _ (by decide) (by decide)
    obtain ⟨hyield, hwait, hpulled⟩ := State.applyYield_interlocked hm' hy
    refine ⟨v.applyYield, ?_, ?_, ?_, ?_⟩
    · unfold cmdYield
      rw [if_neg (by omega), if_neg (by simp [hholds, hm])]
      have happlied : v.yieldApplied = v.applyYield := by
        have hnow : v.pair.yieldWait = some w.bases.mono := by rw [hv]; simp
        have hlaunched : v.intentsOut = false := by
          rw [← hout, hv]
          simp [State.intentsOut]
        unfold State.yieldApplied
        rw [hnow]
        simp [hlaunched]
      rw [← happlied, hv]
    · rw [finish_ok_isSet _ (by decide), hyield]
    · rw [finish_ok_pair, hwait]
    · rw [finish_ok_pair, hpulled]
  case yieldFree =>
    refine completes_ok (body := fun _ => cmdYield) (fun _ _ _ => rfl) (by decide) fun path w hw => ?_
    obtain ⟨hm, hholds⟩ := hw
    refine ⟨w, by unfold cmdYield; simp [hm, hholds], finish_ok_pair _ _ _, frame_finish_ok _ _ _ .vote rfl, ?_⟩
    rw [sameRegs_finish_ok (by simp) (by simp) (by simp) (by simp)]
    exact SameRegs.refl w _
  case reclaim =>
    refine completes_ok (body := fun _ => cmdReclaim) (fun _ _ _ => rfl) (by decide) fun path w hm => ?_
    refine ⟨_, by unfold cmdReclaim; rw [if_neg hm], ?_, ?_, ?_⟩
    · rw [finish_ok_isSet _ (by decide), State.isSet_setPair, State.isSet_putFld_zero _ _ (by decide)]
    · rw [finish_ok_pair]
      simp
    · rw [sameRegs_finish_ok (by simp) (by simp) (by simp) (by simp), sameRegs_setPair, sameRegs_putFld (by simp)]
      exact SameRegs.refl w _
  case sync =>
    refine completes_ok (body := fun _ => cmdMirrorSync) (fun _ _ _ => rfl) (by decide) fun path w hw => ?_
    obtain ⟨hup, hholds, hbusy, hmatch⟩ := hw
    have hsend := State.mirrorSend_up hholds hup hmatch 8 w.fullContent
    refine ⟨w.sendFull, by unfold cmdMirrorSync; simp [hup, hholds, hbusy], ?_, ?_, ?_⟩
    · rw [show (finish 10 3 (ok w.sendFull)).slv = w.sendFull.slv from frame_finish_ok _ _ _ .slv rfl]
      unfold State.sendFull
      rw [hsend]
      simp
    · rw [finish_ok_pair]
      unfold State.sendFull
      rw [hsend]
      simp
    · rw [sameRegs_finish_ok (by simp) (by simp) (by simp) (by simp)]
      unfold State.sendFull
      rw [sameRegs_mirrorSend (by simp)]
      exact SameRegs.refl w _

end Sys2Proof.Machine
end

section
/-!
PROOFS. Sys2Proof/Proofs/PairLines.lean: the claim wires, the strobe and the interlock line.
-/

namespace Sys2Proof.Machine

/-! The lanes' views of the partner. -/

theorem PairSt.view_setView (p : PairSt) {i j : Nat} (x : LaneView) (hi : i ≤ 2) (hj : j ≤ 2) :
    (p.setView i x).view j = if j = i then x else p.view j := by
  interval_cases i <;> interval_cases j <;> rfl

/-- A decision about holding leaves the lanes' views. -/
theorem State.view_updateHolding (s : State) (i : Nat) : s.updateHolding.pair.view i = s.pair.view i := by
  rw [State.updateHolding_pair]
  unfold PairSt.view
  split <;> rfl

theorem State.noteHolder_view (s : State) (i : Nat) : s.noteHolder.pair.view i = s.pair.view i := by
  unfold State.noteHolder
  split
  · rw [State.setPair_pair]
    unfold PairSt.view
    split <;> rfl
  · rfl

theorem State.partnerFound_pair (s : State) (c : Nat) : (s.partnerFound c).pair = s.pair :=
  ((Frame.partnerFound (m := 0x100008d0) rfl).mpr (Frame.refl _ s)) .pair rfl

theorem State.partnerClaimEdge_view (s : State) {lane i : Nat} (claim : Nat) (hl : lane ≤ 2) (hi : i ≤ 2) :
    (s.partnerClaimEdge lane claim).pair.view i =
      if i = lane then { claim := claim % 16, edge := some s.bases.mono } else s.pair.view i := by
  unfold State.partnerClaimEdge
  rw [if_neg (by omega)]
  dsimp only
  rw [State.view_updateHolding, State.noteHolder_view]
  split
  · rw [State.partnerFound_pair, State.setPair_pair, PairSt.view_setView _ _ hl hi]
  · rw [State.setPair_pair, PairSt.view_setView _ _ hl hi]

/-- The edges of lanes that are stale are taken back. -/
theorem State.foldl_edge (l : List Nat) (hl : ∀ j ∈ l, j ≤ 2) : ∀ (s : State) {i : Nat}, i ≤ 2 →
    (l.foldl (fun s i => s.setPair (s.pair.setView i { s.pair.view i with edge := none })) s).pair.view i =
      if i ∈ l then { s.pair.view i with edge := none } else s.pair.view i := by
  induction l with
  | nil => intro s i _; simp
  | cons j l ih =>
    intro s i hi
    have hj := hl j List.mem_cons_self
    rw [List.foldl_cons, ih (fun k hk => hl k (List.mem_cons_of_mem j hk)) _ hi, State.setPair_pair, PairSt.view_setView _ _ hj hi]
    by_cases h : i = j
    · subst h
      simp
    · simp [h]

theorem State.partnerLost_view {s : State} (h : s.staleLanes ≠ []) {i : Nat} (hi : i ≤ 2) :
    s.partnerLost.pair.view i = if s.staleLanes.contains i then { s.pair.view i with edge := none } else s.pair.view i := by
  have hl : ∀ j ∈ s.staleLanes, j ≤ 2 := fun j hj => by
    have h3 := (List.mem_filter.mp hj).1
    simp only [List.mem_cons, List.not_mem_nil, or_false] at h3
    omega
  have hfold := State.foldl_edge s.staleLanes hl s hi
  unfold State.partnerLost
  dsimp only
  rw [if_neg (by simpa using h), State.view_updateHolding]
  split
  · rw [State.setPair_pair]
    have hpair : ∀ w : State, (((w.count R.PAIR_STROBE_STALE).event E.PAIR_PARTNER_LOST noSource
        (leBytes 1 (s.pair.view (s.staleLanes.headD 0)).claim)).raise I.PAIR_PARTNER_LOST).pair = w.pair := fun w => by
      have hkeeps := (((Keeps.refl w).count R.PAIR_STROBE_STALE 1).event E.PAIR_PARTNER_LOST noSource
        (leBytes 1 (s.pair.view (s.staleLanes.headD 0)).claim)).raise I.PAIR_PARTNER_LOST
      exact hkeeps.pair
    rw [hpair]
    simpa [PairSt.view, List.contains_iff_mem] using hfold
  · simpa [List.contains_iff_mem] using hfold

/-! The module's own claim. -/

theorem State.toggleStrobe_pair (s : State) : s.toggleStrobe.pair = { s.pair with strobe := !s.pair.strobe } := by
  unfold State.toggleStrobe
  dsimp only
  split <;> simp

theorem State.sameRegs_toggleStrobe (s : State) : SameRegs s s.toggleStrobe [] := by
  unfold State.toggleStrobe
  dsimp only
  split
  · rw [sameRegs_setPair]
    exact SameRegs.refl s _
  · rw [sameRegs_emit, sameRegs_setPair]
    exact SameRegs.refl s _

theorem State.driveClaim_pair (s : State) (c cause : Nat) : (s.driveClaim c cause).pair = s.pair :=
  ((Frame.driveClaim (m := 0x100008d0) rfl).mpr (Frame.refl _ s)) .pair rfl

/-- What the claim's edge leaves of the pair's state. -/
theorem State.strobeClaim_pair (s : State) :
    s.strobeClaim.pair.strobe = s.pair.strobe ∧ s.strobeClaim.pair.yieldWait = s.pair.yieldWait := by
  unfold State.strobeClaim
  dsimp only
  repeat' split
  all_goals simp [State.driveClaim_pair]

theorem State.interlock_yieldWait (s : State) : s.interlock.pair.yieldWait = s.pair.yieldWait := by
  unfold State.interlock
  split <;> simp

/-- Settles O44, line by line. -/
theorem pairLinesHappen : Obligations.PairLinesHappen := by
  refine ⟨?claim, ?lost, ?edge, ?raise, ?pull, ?applied⟩
  case claim =>
    intro lane claim hlane
    refine happens (f := fun w => w.partnerClaimEdge lane claim) (fun _ _ => rfl) fun w _ => ⟨?_, fun i hi hne => ?_⟩
    · rw [State.partnerClaimEdge_view w claim hlane hlane, if_pos rfl]
    · rw [State.partnerClaimEdge_view w claim hlane hi, if_neg hne]
  case lost =>
    exact happens (fun _ _ => rfl) fun w hw i hi => State.partnerLost_view hw hi
  case edge =>
    refine happens (fun _ _ => rfl) fun w hw => ?_
    unfold State.claimStrobeEdge
    rw [hw, if_neg (by decide)]
    split
    · rw [State.updateHolding_pair, State.toggleStrobe_pair, w.strobeClaim_pair.1]
    · rw [State.toggleStrobe_pair]
  case raise =>
    intro v since hv
    refine happens (fun _ _ => rfl) fun w hw => ?_
    obtain ⟨hmode, hraised, hclaim, hwait⟩ := hw
    have hval : w.claimRaise = (((w.driveClaim v 1).putFld F.PAIR_CLAIM_STATE_PENDING 0).setPair
        { w.pair with raised := none, cmpAt := some (w.bases.mono + 1000) }).toggleStrobe := by
      unfold State.claimRaise
      rw [hraised]
      dsimp only
      rw [if_neg (by simp only [hmode, hclaim]; omega), State.putFld_pair, State.driveClaim_pair, State.putFld_bases,
        show (w.driveClaim v 1).bases = w.bases from ((Frame.driveClaim (m := 0x100008d0) rfl).mpr (Frame.refl _ w)) .bases rfl]
    rw [hval]
    refine ⟨?_, ?_, ?_, ?_⟩
    · rw [(State.sameRegs_toggleStrobe _).fld (by simp), State.fld_setPair,
        State.fld_putFld_apart _ _ _ _ (by decide) (Or.inr (by decide))]
      unfold State.driveClaim
      dsimp only
      rw [State.fld_event _ _ _ _ (by decide) (by decide), State.fld_putFld_same _ _ _ (by decide)]
      exact Nat.mod_eq_of_lt hv
    · rw [(State.sameRegs_toggleStrobe _).fld (by simp), State.fld_setPair, State.fld_putFld_same _ _ _ (by decide)]
      rfl
    · rw [State.toggleStrobe_pair]
      simp
    · rw [(State.sameRegs_toggleStrobe _).thru (by simp), sameRegs_setPair, sameRegs_putFld (by simp)]
      unfold State.driveClaim
      dsimp only
      rw [sameRegs_event (by simp) (by simp), sameRegs_putFld (by simp)]
      exact SameRegs.refl w _
  case pull =>
    intro h
    refine happens (f := fun w => w.intlkPull true) (fun _ _ => rfl) fun w hw => ?_
    obtain ⟨hmode, hfree, hline, hclaim, hwait⟩ := hw
    unfold State.intlkPull
    rw [if_neg (by simp [hmode, hfree]), if_neg (by decide), hline]
    dsimp only
    rw [if_neg (by split at hwait <;> simp_all), State.updateHolding_pair]
    simp
  case applied =>
    refine happens (fun _ _ => rfl) fun w hw => ?_
    obtain ⟨hwaits, hout⟩ := hw
    obtain ⟨t, ht⟩ := Option.isSome_iff_exists.mp hwaits
    unfold State.yieldApplied
    rw [ht]
    dsimp only
    rw [hout, if_neg (by simp)]
    unfold State.applyYield
    dsimp only
    rw [State.updateHolding_pair]
    split
    · rw [State.toggleStrobe_pair, (State.strobeClaim_pair _).2]
      simp
    · rw [State.interlock_yieldWait]
      simp

end Sys2Proof.Machine
end

section
/-!
PROOFS. Sys2Proof/Proofs/PairMirror.lean: HELLO and the state messages of the mirror link.
-/

namespace Sys2Proof.Machine

/-! A message over the mirror link (R316). -/

/-- The state in which the content of a message is handled: its cells are freed and counted. -/
def State.arrived (s : State) (content : List Byte) : State :=
  let n := s.mirrorLink % 4
  let parts := max 1 ((content.length + 95) / 96)
  let x := smGet {} s.slv.links n
  let x := { x with lastRx := s.bases.mono, rxNext := (x.rxNext + parts) % 65536, freed := (x.freed + parts) % 65536 }
  ((s.setSlv { s.slv with links := smPut s.slv.links n x }).count (R.SLV_LINKn_RX_CELLS n) parts).count R.PAIR_MIRROR_RECEIVED

theorem State.mirrorArrives_ready {s : State} (h : s.mirrorReady = true) (content : List Byte) (f : State → State) :
    s.mirrorArrives content f = f (s.arrived content) := by
  unfold State.mirrorArrives
  rw [h, if_neg (by decide)]
  rfl

theorem State.arrived_frame (s : State) (content : List Byte) : Frame 0x10000010 s (s.arrived content) := by
  unfold State.arrived
  dsimp only
  simp (disch := decide) only [Frame.count, Frame.setSlv, Frame.refl]

theorem State.sameRegs_arrived (s : State) (content : List Byte) :
    SameRegs s (s.arrived content) [R.SLV_LINKn_RX_CELLS (s.mirrorLink % 4), R.PAIR_MIRROR_RECEIVED] := by
  unfold State.arrived
  dsimp only
  rw [sameRegs_count (by simp), sameRegs_count (by simp), sameRegs_setSlv]
  exact SameRegs.refl s _

/-- The counters of cells received stand in the block of the Selvedge links. -/
theorem State.regN_arrived (s : State) (content : List Byte) {a : Nat} (h : a < R.SLV_LINKn_RX_CELLS 0) (hr : a ≠ R.PAIR_MIRROR_RECEIVED) :
    (s.arrived content).regN a = s.regN a := by
  refine s.sameRegs_arrived content a ?_
  simp only [List.mem_cons, List.not_mem_nil, or_false, not_or, R.SLV_LINKn_RX_CELLS] at h ⊢
  exact ⟨by omega, hr⟩

theorem State.regN_arrived_count (s : State) (content : List Byte) :
    (s.arrived content).regN R.PAIR_MIRROR_RECEIVED = (s.regN R.PAIR_MIRROR_RECEIVED + 1) % 2 ^ 32 := by
  unfold State.arrived
  dsimp only
  rw [State.regN_count_same, State.regN_count_other _ _ (by simp only [R.SLV_LINKn_RX_CELLS, R.PAIR_MIRROR_RECEIVED]; omega),
    State.regN_setSlv]

theorem State.fld_arrived (s : State) (content : List Byte) {f : Fld} (h : f.addr < R.SLV_LINKn_RX_CELLS 0) (hr : f.addr ≠ R.PAIR_MIRROR_RECEIVED) :
    (s.arrived content).fld f = s.fld f := by
  unfold State.fld
  rw [s.regN_arrived content h hr]

theorem State.isSet_arrived (s : State) (content : List Byte) {f : Fld} (h : f.addr < R.SLV_LINKn_RX_CELLS 0)
    (hr : f.addr ≠ R.PAIR_MIRROR_RECEIVED) : (s.arrived content).isSet f = s.isSet f := by
  unfold State.isSet
  rw [s.fld_arrived content h hr]

theorem State.cfg_arrived (s : State) (content : List Byte) (ty : Nat) : (s.arrived content).cfg ty = s.cfg ty :=
  State.cfg_congr (s.arrived_frame content .draft rfl) (s.regN_arrived content (by decide) (by decide)) ty

/-- A state message that is adopted is applied to the state in which it is handled (R305). -/
theorem State.adopt_ready {s : State} (h : s.mirrorReady = true) (ha : s.adopts = true) (content : List Byte)
    (f : State → List Byte → State) : s.adopt content f = f (s.arrived content) content := by
  unfold State.adopt
  rw [State.mirrorArrives_ready h]
  have hadopts : (s.arrived content).adopts = true := by
    unfold State.adopts at ha ⊢
    rw [s.isSet_arrived _ (by decide) (by decide), s.isSet_arrived _ (by decide) (by decide), s.isSet_arrived _ (by decide) (by decide)]
    exact ha
  rw [if_pos hadopts]

/-! HELLO (R295, R304). -/

theorem State.fld_driveClaim (s : State) (c cause : Nat) {f : Fld} (h : f.addr = R.PAIR_STATUS) : (s.driveClaim c cause).fld f = s.fld f := by
  unfold State.driveClaim
  dsimp only
  rw [State.fld_event _ _ _ _ (by rw [h]; decide) (by rw [h]; decide),
    State.fld_putFld_apart _ _ _ _ (by decide) (Or.inl (by rw [h]; decide))]

theorem State.regN_driveClaim (s : State) (c cause : Nat) {a : Nat} (h : a ∉ [R.PAIR_CLAIM_STATE] ++ eventRegs) :
    (s.driveClaim c cause).regN a = s.regN a := by
  unfold State.driveClaim
  dsimp only
  have hs : SameRegs s ((s.putFld F.PAIR_CLAIM_STATE_OWN c).event E.PAIR_CLAIM_CHANGED noSource
      (leBytes 1 (s.fld F.PAIR_CLAIM_STATE_OWN) ++ leBytes 1 c ++ leBytes 1 cause)) ([R.PAIR_CLAIM_STATE] ++ eventRegs) := by
    rw [sameRegs_event (by simp) (by simp), sameRegs_putFld (by simp)]
    exact SameRegs.refl s _
  exact hs a h

theorem State.sameRegs_drive (s : State) (b : Ball) (l : Bool) : SameRegs s (s.drive b l) [] := fun a _ => s.regN_drive b l a

/-- The claim falls and the line is released before the lanes decide again. -/
theorem State.withdraw_eq (s : State) : ∃ v : State, s.withdraw = v.updateHolding ∧ SameRegs s v ([R.PAIR_CLAIM_STATE] ++ eventRegs) ∧
    v.pair.hello = s.pair.hello := by
  have hclaim : ∀ (b : Bool), SameRegs s (if b then s.driveClaim 0 0 else s) ([R.PAIR_CLAIM_STATE] ++ eventRegs) ∧
      (if b then s.driveClaim 0 0 else s).pair = s.pair := fun b => by
    cases b
    · exact ⟨SameRegs.refl s _, rfl⟩
    · exact ⟨fun a ha => s.regN_driveClaim 0 0 ha, s.driveClaim_pair 0 0⟩
  have hhello : ∀ b : Bool, (if b then s.driveClaim 0 0 else s).pair.hello = s.pair.hello := fun b => congrArg PairSt.hello (hclaim b).2
  unfold State.withdraw
  split
  · exact ⟨s, rfl, SameRegs.refl s _, rfl⟩
  · dsimp only
    refine ⟨_, rfl, ?_, ?_⟩
    · refine SameRegs.ite ?_ ?_
      · rw [(State.sameRegs_drive _ _ _).thru (by simp), sameRegs_setPair, sameRegs_putFld (by simp), sameRegs_setPair]
        exact (hclaim _).1
      · rw [sameRegs_putFld (by simp), sameRegs_setPair]
        exact (hclaim _).1
    · refine iteInduction (motive := fun w : State => w.pair.hello = s.pair.hello) (fun _ => ?_) (fun _ => ?_)
      · rw [State.drive_pair, State.setPair_pair, State.putFld_pair, State.setPair_pair]
        exact hhello _
      · rw [State.putFld_pair, State.setPair_pair]
        exact hhello _

theorem State.regN_withdraw (s : State) {a : Nat} (h : a < R.ENERGY_PULSEn_STATE 0) (hl : a ∉ holdRegs) : s.withdraw.regN a = s.regN a := by
  obtain ⟨v, heq, hregs, _⟩ := s.withdraw_eq
  rw [heq, State.regN_updateHolding _ h hl, hregs a]
  intro ha
  have hsub : [R.PAIR_CLAIM_STATE] ++ eventRegs ⊆ holdRegs := by decide
  exact hl (hsub ha)

theorem State.fld_withdraw (s : State) {f : Fld} (h : f.addr = R.PAIR_STATUS) (d : f.hi < 4 ∨ 6 < f.lo) : s.withdraw.fld f = s.fld f := by
  obtain ⟨v, heq, hregs, _⟩ := s.withdraw_eq
  rw [heq, State.fld_updateHolding _ h d, hregs.fld (by rw [h]; decide)]

theorem State.withdraw_hello (s : State) : s.withdraw.pair.hello = s.pair.hello := by
  obtain ⟨v, heq, _, hhello⟩ := s.withdraw_eq
  rw [heq, State.updateHolding_pair, ← hhello]

/-- What the comparison of the MODID values leaves. -/
theorem State.modidClash_keeps (s : State) (modid : Nat) :
    (∀ f : Fld, f.addr = R.PAIR_STATUS → f.hi < 4 ∨ 10 < f.lo ∨ (f.lo = 7 ∧ f.hi = 7) → (s.modidClash modid).fld f = s.fld f) ∧
      (∀ a, a < R.ENERGY_PULSEn_STATE 0 → a ∉ holdRegs → (s.modidClash modid).regN a = s.regN a) ∧
      (s.modidClash modid).pair.hello = s.pair.hello := by
  unfold State.modidClash
  split
  · exact ⟨fun _ _ _ => rfl, fun _ _ _ => rfl, rfl⟩
  · dsimp only
    refine ⟨fun f hf hd => ?_, fun a ha hl => ?_, ?_⟩
    · rw [State.fld_withdraw _ hf (by omega), State.fld_raise _ _ (by rw [hf]; decide),
        State.fld_event _ _ _ _ (by rw [hf]; decide) (by rw [hf]; decide),
        State.fld_putFld_apart _ _ _ _ (by decide) (Or.inr (by simp only; omega))]
    · have hne : R.PAIR_STATUS ≠ a ∧ R.HOST_PBAn 0 ≠ a ∧ R.PAIR_MIRROR_SENT ≠ a := by
        refine ⟨?_, ?_, ?_⟩ <;> rintro rfl <;> exact hl (by decide)
      rw [State.regN_withdraw _ ha hl, State.regN_raise _ I.PAIR_MODID_CLASH hne.2.1, State.regN_event _ _ _ _ hne.2.1 hne.2.2,
        State.regN_putFld_other _ _ hne.1]
    · rw [State.withdraw_hello]
      exact congrArg PairSt.hello ((((Keeps.refl s).putFld F.PAIR_STATUS_MODID_CLASH 1).event E.PAIR_MODID_CLASH noSource
        (leBytes 1 modid)).raise I.PAIR_MODID_CLASH).pair

theorem State.draftCompare_keeps (s : State) (other : Nat) :
    (∀ f : Fld, f.addr = R.PAIR_STATUS → f.hi < 11 ∨ 11 < f.lo → (s.draftCompare other).fld f = s.fld f) ∧
      SameRegs s (s.draftCompare other) ([R.PAIR_STATUS] ++ eventRegs) ∧ (s.draftCompare other).pair = s.pair ∧
      (s.draftCompare other).isSet F.PAIR_STATUS_DRAFT_MISMATCH = (other != s.draftId) := by
  refine ⟨fun f hf hd => ?_, ?_, ((Frame.draftCompare (m := 0x100008d0) rfl).mpr (Frame.refl _ s)) .pair rfl, ?_⟩
  · unfold State.draftCompare
    split
    · rw [State.fld_putFld_apart _ _ _ _ (by decide) (Or.inr (by simp only; omega))]
    · split
      · rfl
      · rw [State.fld_raise _ _ (by rw [hf]; decide), State.fld_event _ _ _ _ (by rw [hf]; decide) (by rw [hf]; decide),
          State.fld_putFld_apart _ _ _ _ (by decide) (Or.inr (by simp only; omega))]
  · unfold State.draftCompare
    refine SameRegs.ite ?_ (SameRegs.ite (SameRegs.refl s _) ?_)
    · rw [sameRegs_putFld (by simp)]
      exact SameRegs.refl s _
    · rw [sameRegs_raise (by simp), sameRegs_event (by simp) (by simp), sameRegs_putFld (by simp)]
      exact SameRegs.refl s _
  · unfold State.draftCompare
    split
    · next h => rw [State.isSet_putFld_zero _ _ (by decide)]; simp [h]
    · next h =>
      split
      · next hset => rw [hset]; simp [h]
      · unfold State.isSet
        rw [State.fld_raise _ _ (by decide), State.fld_event _ _ _ _ (by decide) (by decide)]
        have hone := State.isSet_putFld_one s F.PAIR_STATUS_DRAFT_MISMATCH (by decide) (by decide)
        unfold State.isSet at hone
        rw [hone]
        simp [h]

theorem State.mirrorUp_keeps (s : State) :
    (∀ f : Fld, f.addr = R.PAIR_STATUS → f.hi < 7 ∨ 7 < f.lo → s.mirrorUp.fld f = s.fld f) ∧
      SameRegs s s.mirrorUp ([R.PAIR_STATUS] ++ eventRegs) ∧ s.mirrorUp.pair = s.pair ∧
      s.mirrorUp.isSet F.PAIR_STATUS_MIRROR_UP = true := by
  have hsend : ∀ w : State, SameRegs w w.sendFull eventRegs := fun w => by
    unfold State.sendFull
    rw [sameRegs_mirrorSend (by simp)]
    exact SameRegs.refl w _
  refine ⟨fun f hf hd => ?_, ?_, ((Frame.mirrorUp (m := 0x100008d0) rfl).mpr (Frame.refl _ s)) .pair rfl, ?_⟩
  · unfold State.mirrorUp
    split
    · rfl
    · dsimp only
      rw [(hsend _).fld (by rw [hf]; decide), State.fld_raise _ _ (by rw [hf]; decide),
        State.fld_event _ _ _ _ (by rw [hf]; decide) (by rw [hf]; decide),
        State.fld_putFld_apart _ _ _ _ (by decide) (Or.inr (by simp only; omega))]
  · unfold State.mirrorUp
    refine SameRegs.ite (SameRegs.refl s _) ?_
    dsimp only
    rw [(hsend _).thru (by simp), sameRegs_raise (by simp), sameRegs_event (by simp) (by simp), sameRegs_putFld (by simp)]
    exact SameRegs.refl s _
  · unfold State.mirrorUp
    split
    · next h => exact h
    · dsimp only
      unfold State.isSet
      rw [(hsend _).fld (by decide), State.fld_raise _ _ (by decide), State.fld_event _ _ _ _ (by decide) (by decide)]
      exact State.isSet_putFld_one s F.PAIR_STATUS_MIRROR_UP (by decide) (by decide)

/-- HELLO: what it says is kept, the partner is one that speaks, and the link is up. -/
theorem State.hello_effect (s : State) (c : List Byte) :
    (s.hello c).pair.hello = some (leAt c 0 1, leAt c 1 8, leAt c 9 1, leAt c 10 1, leAt c 11 1 != 0) ∧
      (s.hello c).fld F.PAIR_STATUS_PARTNER_KIND = 1 ∧ (s.hello c).isSet F.PAIR_STATUS_MIRROR_UP = true ∧
      (s.hello c).isSet F.PAIR_STATUS_DRAFT_MISMATCH = (leAt c 1 8 != s.draftId) ∧
      (s.hello c).regN R.PAIR_MIRROR_RECEIVED = s.regN R.PAIR_MIRROR_RECEIVED := by
  obtain ⟨v, hv⟩ : ∃ v, v = (s.setPair { s.pair with
    hello := some (leAt c 0 1, leAt c 1 8, leAt c 9 1, leAt c 10 1, leAt c 11 1 != 0) }).putFld F.PAIR_STATUS_PARTNER_KIND 1 := ⟨_, rfl⟩
  have hval : s.hello c = ((v.modidClash (leAt c 0 1)).draftCompare (leAt c 1 8)).mirrorUp := by rw [hv]; rfl
  have hregs : ∀ a, a ≠ R.PAIR_STATUS → v.regN a = s.regN a := fun a ha => by
    rw [hv, State.regN_putFld_other _ _ (Ne.symm ha), State.regN_setPair]
  obtain ⟨hclash, hclashRegs, hclashHello⟩ := v.modidClash_keeps (leAt c 0 1)
  obtain ⟨hcmp, hcmpRegs, hcmpPair, hcmpSet⟩ := (v.modidClash (leAt c 0 1)).draftCompare_keeps (leAt c 1 8)
  obtain ⟨hup, hupRegs, hupPair, hupSet⟩ := ((v.modidClash (leAt c 0 1)).draftCompare (leAt c 1 8)).mirrorUp_keeps
  have hid : (v.modidClash (leAt c 0 1)).draftId = s.draftId := by
    unfold State.draftId State.pairAt
    rw [hclashRegs _ (by decide) (by decide), hclashRegs _ (by decide) (by decide), hregs _ (by decide), hregs _ (by decide)]
  rw [hval]
  refine ⟨?_, ?_, hupSet, ?_, ?_⟩
  · rw [hupPair, hcmpPair, hclashHello, hv]
    simp
  · rw [hup _ rfl (by decide), hcmp _ rfl (by decide), hclash _ rfl (by decide), hv, State.fld_putFld_same _ _ _ (by decide)]
    rfl
  · unfold State.isSet at hcmpSet ⊢
    rw [hup _ rfl (by decide), hcmpSet, hid]
  · rw [hupRegs _ (by decide), hcmpRegs _ (by decide), hclashRegs _ (by decide) (by decide), hregs _ (by decide)]

/-! State messages (R305, R306). -/

theorem VoteSt.lane_setLane (v : VoteSt) {i j : Nat} (x : LaneSt) (hi : i ≤ 2) (hj : j ≤ 2) :
    (v.setLane i x).lane j = if j = i then x else v.lane j := by
  interval_cases i <;> interval_cases j <;> rfl

/-- The stage leaves the lanes' points. -/
theorem State.updatePins_points (s : State) (i : Nat) : (s.updatePins.vote.lane i).points = (s.vote.lane i).points := by
  have hbefore : ∀ n, (s.pulsesFollow.showBalls n).vote = s.vote := fun n =>
    ((Frame.showBalls (m := 0x200000810) rfl).mpr ((Frame.pulsesFollow (m := 0x200000810) rfl).mpr (Frame.refl _ s))) .vote rfl
  unfold State.updatePins
  dsimp only
  rw [State.putReg_vote, State.putFld_vote, State.putFld_vote, State.setVote_vote]
  unfold VoteSt.lane
  split <;> simp [hbefore]

theorem leAt_slice (l : List Byte) (o : Nat) {n i k : Nat} (h : i + k ≤ n) : leAt (slice l o n) i k = leAt l (o + i) k := by
  unfold leAt slice
  rw [List.drop_take, List.take_take, List.drop_drop, Nat.min_eq_left (by omega)]

/-- A latch of the holder is in every lane. -/
theorem State.takeLatch_point (s : State) {c : List Byte} {i : Nat} (hap : leAt c 0 2 ≤ 1023) (hon : leAt c 2 1 ≠ 0) (hi : i ∈ [0, 1, 2]) :
    ((s.takeLatch c).vote.lane i).point (leAt c 0 2) =
      { (s.vote.lane i).point (leAt c 0 2) with raised := true, latched := true, tag := leAt c 3 8 } := by
  have hshown : ∀ w : State, (w.showPoint (leAt c 0 2)).vote = w.vote := fun w =>
    ((Frame.showPoint (m := 0x10) rfl).mpr (Frame.refl _ w)) .vote rfl
  have h2 : i ≤ 2 := by
    simp only [List.mem_cons, List.not_mem_nil, or_false] at hi
    omega
  unfold State.takeLatch LaneSt.point
  dsimp only
  rw [if_neg (by omega), State.updatePins_points, hshown]
  simp only [List.mem_cons, List.not_mem_nil, or_false] at hi
  rcases hi with rfl | rfl | rfl <;> simp [State.setLane, VoteSt.setLane, VoteSt.lane, hon]

/-- One checkpoint of the holder. -/
theorem State.takeCkpt_one (s : State) {c : List Byte} (h : c.length = 256) :
    (s.takeCkpt c).pair =
        { s.pair with ckptAt := some s.bases.mono, mirror := { s.pair.mirror with ckpt := [(leAt c 0 2, slice c 0 256)] } } ∧
      (s.takeCkpt c).osc.partAt = some s.bases.mono := by
  have hset : (List.range (c.length / 256)).foldl (fun m i => smPut m (leAt c (256 * i) 2) (slice c (256 * i) 256)) [] =
      [(leAt c 0 2, slice c 0 256)] := by
    rw [h]
    rfl
  have hpair : ∀ w : State, w.seedFromPartner.pair = w.pair := fun w =>
    ((Frame.seedFromPartner (m := 0x1900008d0) rfl).mpr (Frame.refl _ w)) .pair rfl
  have hpart : ∀ w : State, w.seedFromPartner.osc.partAt = w.osc.partAt := fun w => by
    have hshow : ∀ (u : State) (n : Nat), (u.recordSeeding 1 n).showOsc.osc = u.osc := fun u n =>
      ((Frame.showOsc (m := 0x100008d0) rfl).mpr ((Frame.recordSeeding (m := 0x100008d0) rfl).mpr (Frame.refl _ u))) .osc rfl
    have hfold : ∀ (l : List Nat) (u : State), (l.foldl (fun s k => match s.partnerCkpt k with
        | some b => s.putTracker k { (s.tracker k).adopt b with begun := true }
        | none => s) u).osc.partAt = u.osc.partAt := by
      intro l
      induction l with
      | nil => intro u; rfl
      | cons k l ih =>
        intro u
        rw [List.foldl_cons, ih]
        split <;> simp [State.putTracker]
    unfold State.seedFromPartner
    dsimp only
    rw [hshow]
    exact hfold _ _
  unfold State.takeCkpt
  dsimp only
  rw [hset]
  refine ⟨?_, ?_⟩
  · rw [hpair]
    simp
  · rw [hpart]
    simp

/-! Regions of CAPT (R370, R379). -/

/-- Whether a region may be armed depends on the sections in force and on CAPT's own state. -/
theorem State.mayArm_congr {s u : State} (hd : u.draft = s.draft) (hr : u.regN R.DRAFT_CARDS = s.regN R.DRAFT_CARDS) (hc : u.capt = s.capt)
    (r : Nat) (e : List Byte) : u.mayArm r e = s.mayArm r e := by
  have hcfg : ∀ ty, u.cfg ty = s.cfg ty := State.cfg_congr hd hr
  simp only [State.mayArm, State.worstPages, State.slotBytes, State.rate, State.rateCode, State.capWids, State.widRate, State.widStream,
    State.roomPages, State.capReg, State.capPages, State.regionSize, hcfg, hd, hc]
  rfl

@[simp] theorem State.capReg_putCapt (s : State) (r : Nat) (x : CaptReg) : (s.putCapt r x).capReg r = x := by
  unfold State.putCapt State.capReg
  simp

theorem State.captState_capReg (s : State) (r st : Nat) : (s.captState r st).capReg r = { s.capReg r with st := st, since := s.bases.mono } := by
  unfold State.captState
  dsimp only
  have hsend : ∀ (w : State) (c : List Byte), (w.mirrorSend 7 c).capt = w.capt := fun w c =>
    ((Frame.mirrorSend (m := 0x10000810) rfl).mpr (Frame.refl _ w)) .capt rfl
  have hcap := s.capReg_putCapt r { s.capReg r with st := st, since := s.bases.mono }
  unfold State.capReg at hcap ⊢
  rw [hsend, hcap]

/-- A region that is idle or done is armed where it has room. -/
theorem State.armRegion_idle (s : State) {r cause : Nat} (he : ceEnabled (s.capEntry r) = true)
    (hst : (s.capReg r).st = 1 ∨ (s.capReg r).st = 6) (hroom : s.mayArm r (s.capEntry r) = true) :
    (s.armRegion r cause).2 = stOk ∧ ((s.armRegion r cause).1.capReg r).st = 2 ∧
      ((s.armRegion r cause).1.capReg r).held = (s.capReg r).held := by
  have hroom' : (s.putReg (R.CAPT_Rr_WORST r) (s.worstPages (s.capEntry r))).mayArm r (s.capEntry r) = true :=
    (State.mayArm_congr (by simp) (State.regN_putReg_other _ _ (by simp only [R.CAPT_Rr_WORST, R.DRAFT_CARDS]; omega)) (by simp) _ _).trans hroom
  have hevent : ∀ (w : State) (l : List Byte), ((w.event E.CAPT_ARMED r l).capReg r) = w.capReg r := fun w l => by
    unfold State.capReg
    rw [((Keeps.refl w).event E.CAPT_ARMED r l).capt]
  have hsend : ∀ (w : State) (b : List Byte), ((w.captSend 0x20 r b).1.capReg r) = w.capReg r := fun w b => by
    have hspread : ∀ (u : State) (c : SlvCell), (u.spread c none).capt = u.capt := fun u c =>
      ((Frame.spread (m := 0x10000010) rfl).mpr (Frame.refl _ u)) .capt rfl
    unfold State.captSend State.capReg
    split
    · dsimp only
      rw [hspread]
      simp
    · rfl
  unfold State.armRegion
  dsimp only
  rw [he, if_neg (by decide), if_neg (by omega), if_neg (by omega), hroom', if_neg (by decide)]
  refine ⟨rfl, ?_, ?_⟩
  · refine iteInduction (motive := fun w : State => (w.capReg r).st = 2) (fun _ => ?_) (fun _ => ?_)
    · rw [hsend, hevent, State.captState_capReg]
    · rw [hevent, State.captState_capReg]
  · refine iteInduction (motive := fun w : State => (w.capReg r).held = (s.capReg r).held) (fun _ => ?_) (fun _ => ?_)
    · rw [hsend, hevent, State.captState_capReg, State.capReg_putCapt]
    · rw [hevent, State.captState_capReg, State.capReg_putCapt]

/-- HELLO_SEND: a HELLO goes out when one is due. -/
def State.helloDue (s : State) : State := if s.bases.mono < s.pair.helloSent + 100000000 then s else s.sendHello

/-- What HELLO says of the module. -/
def State.helloContent (s : State) : List Byte :=
  leBytes 1 (s.fld F.PAIR_STATUS_MODID) ++ leBytes 8 s.draftId ++ leBytes 1 s.pairMode ++ leBytes 1 (s.fld F.PAIR_CLAIM_BASE) ++
    leBytes 1 (s.fld F.PAIR_STATUS_HOLDING)

theorem State.helloDue_ready {s : State} (h : s.pair.helloSent + 100000000 ≤ s.bases.mono) (hr : s.mirrorReady = true) :
    s.helloDue = (((s.setPair { s.pair with helloSent := s.bases.mono }).setSlv
      { s.slv with mirrorQ := s.slv.mirrorQ ++ [(0, s.helloContent)] }).count R.PAIR_MIRROR_SENT).emit (.mirror 0 s.helloContent) := by
  have hval : s.helloDue = s.sendHello := if_neg (by omega)
  rw [hval]
  unfold State.sendHello
  rw [hr, if_neg (by decide)]
  simp [State.helloContent]

/-- Settles O45, message by message. -/
theorem pairMirrorHappens : Obligations.PairMirrorHappens := by
  refine ⟨?helloSend, ?ckptSend, ?hello, ?intent, ?latch, ?goose, ?energy, ?ledger, ?ckpt, ?capt, ?full⟩
  case helloSend =>
    refine happens (f := State.helloDue) (fun _ _ => rfl) fun w hw => ?_
    obtain ⟨hdue, hready⟩ := hw
    rw [State.helloDue_ready hdue hready]
    refine ⟨by simp, by simp, ?_, ?_⟩
    · rw [State.regN_emit, State.regN_count_same, State.regN_setSlv, State.regN_setPair]
    · rw [sameRegs_emit, sameRegs_count (by simp), sameRegs_setSlv, sameRegs_setPair]
      exact SameRegs.refl w _
  case ckptSend =>
    refine happens (fun _ _ => rfl) fun w hw => ?_
    obtain ⟨hholds, hup, hmatch, hana, hdue⟩ := hw
    unfold State.ckptMirrorSend
    dsimp only
    rw [if_neg (by simp [hholds, hup, hana]; omega)]
    have hsend := State.mirrorSend_up (s := w.setPair { w.pair with ckptAt := some w.bases.mono }) (by simpa [State.holds] using hholds)
      (by simpa using hup) (by simpa using hmatch) 6 w.ckptSet.flatten
    refine ⟨?_, ?_, ?_⟩
    · rw [hsend]
      simp
    · rw [hsend]
      simp
    · rw [sameRegs_mirrorSend (by simp), sameRegs_setPair]
      exact SameRegs.refl w _
  case hello =>
    intro c
    refine happens (f := fun s => s.mirrorArrives c (·.hello c)) (fun _ _ => rfl) fun w hw => ?_
    rw [State.mirrorArrives_ready hw]
    obtain ⟨hhello, hkind, hup, hmatch, hcount⟩ := (w.arrived c).hello_effect c
    refine ⟨hhello, hkind, hup, ?_, by rw [hcount, State.regN_arrived_count]⟩
    rw [hmatch]
    unfold State.draftId State.pairAt
    rw [w.regN_arrived c (by decide) (by decide), w.regN_arrived c (by decide) (by decide)]
  case intent =>
    intro c hc
    refine happens (f := fun s => s.mirrorArrives c (·.takeIntent c)) (fun _ _ => rfl) fun w hw => ?_
    obtain ⟨hready, hholds, hlink⟩ := hw
    have hfree : ((w.arrived c).count R.PAIR_INTENTS_RECEIVED).holds = false := by
      unfold State.holds State.isSet at hholds ⊢
      rw [State.fld, State.regN_count_other _ _ (by decide)]
      exact (congrArg (· != 0) (w.fld_arrived c (f := F.PAIR_STATUS_HOLDING) (by decide) (by decide))).trans hholds
    have hval : (w.arrived c).takeIntent c =
        ((w.arrived c).count R.PAIR_INTENTS_RECEIVED).putPair (R.PAIR_OSn_INTENT_LO (leAt c 0 1)) (leAt c 1 8) := by
      unfold State.takeIntent
      dsimp only
      rw [if_neg (by simp [hfree]; omega)]
    rw [State.mirrorArrives_ready hready, hval]
    refine ⟨?_, ?_, ?_⟩
    · rw [State.pairAt_putPair]
      have hlt : leAt c 1 8 < 2 ^ 64 := lt_of_lt_of_eq (leAt_lt c 1 8) (by norm_num)
      exact Nat.mod_eq_of_lt hlt
    · rw [State.regN_putPair_other _ _ (by simp only [R.PAIR_OSn_INTENT_LO, R.PAIR_INTENTS_RECEIVED]; omega)
        (by simp only [R.PAIR_OSn_INTENT_LO, R.PAIR_INTENTS_RECEIVED]; omega), State.regN_count_same,
        w.regN_arrived c (by decide) (by decide)]
    · rw [sameRegs_putPair (by simp) (by simp), sameRegs_count (by simp)]
      refine (w.sameRegs_arrived c).mono ?_
      rw [Nat.mod_eq_of_lt hlink]
      simp
  case latch =>
    rintro c ⟨hap, hon⟩
    refine happens (f := fun s => s.adopt c State.takeLatch) (fun _ _ => rfl) fun w hw i hi => ?_
    rw [State.adopt_ready hw.1 hw.2, State.takeLatch_point _ hap hon hi, show (w.arrived c).vote = w.vote from w.arrived_frame c .vote rfl]
  case goose =>
    intro c
    refine happens (f := fun s => s.adopt c State.takeGoose) (fun _ _ => rfl) fun w hw => ?_
    rw [State.adopt_ready hw.1 hw.2, State.takeGoose, State.setPair_pair, show (w.arrived c).pair = w.pair from w.arrived_frame c .pair rfl]
  case energy =>
    intro c
    refine happens (f := fun s => s.adopt c State.takeEnergy) (fun _ _ => rfl) fun w hw => ?_
    rw [State.adopt_ready hw.1 hw.2, State.takeEnergy]
    dsimp only
    rw [State.setPair_pair, show (w.arrived c).bases = w.bases from w.arrived_frame c .bases rfl]
    exact ⟨rfl, smFind_smPut_same _ _ _⟩
  case ledger =>
    intro c hc
    refine happens (f := fun s => s.adopt c State.takeLedger) (fun _ _ => rfl) fun w hw => ?_
    rw [State.adopt_ready hw.1 hw.2, State.takeLedger]
    dsimp only
    rw [State.setPair_pair, if_pos hc, show (w.arrived c).pair = w.pair from w.arrived_frame c .pair rfl]
    simp
  case ckpt =>
    intro c hc
    refine happens (f := fun s => s.adopt c State.takeCkpt) (fun _ _ => rfl) fun w hw => ?_
    rw [State.adopt_ready hw.1 hw.2]
    obtain ⟨hpair, hpart⟩ := (w.arrived c).takeCkpt_one hc
    rw [show (w.arrived c).pair = w.pair from w.arrived_frame c .pair rfl] at hpair
    rw [show (w.arrived c).bases = w.bases from w.arrived_frame c .bases rfl] at hpair hpart
    exact ⟨hpair, hpart⟩
  case capt =>
    rintro c ⟨hr, hst⟩
    refine happens (f := fun s => s.adopt c State.takeCapt) (fun _ _ => rfl) fun w hw => ?_
    obtain ⟨hready, hadopts, hcapturing, henabled, hidle, hroom⟩ := hw
    have hentry : (w.arrived c).capEntry (leAt c 0 1) = w.capEntry (leAt c 0 1) := by
      unfold State.capEntry
      rw [w.cfg_arrived]
    have hreg : (w.arrived c).capReg (leAt c 0 1) = w.capReg (leAt c 0 1) := by
      unfold State.capReg
      rw [show (w.arrived c).capt = w.capt from w.arrived_frame c .capt rfl]
    have hon : (w.arrived c).capturing = true := by
      unfold State.capturing State.mode at hcapturing ⊢
      rwa [w.fld_arrived c (by decide) (by decide)]
    have hmay : (w.arrived c).mayArm (leAt c 0 1) (w.capEntry (leAt c 0 1)) = true :=
      (State.mayArm_congr (w.arrived_frame c .draft rfl) (w.regN_arrived c (by decide) (by decide)) (w.arrived_frame c .capt rfl) _ _).trans hroom
    have harm := (w.arrived c).armRegion_idle (cause := 2) (by rw [hentry]; exact henabled) (by rw [hreg]; exact hidle)
      (by rw [hentry]; exact hmay)
    rw [State.adopt_ready hready hadopts]
    have hval : (w.arrived c).takeCapt c = ((w.arrived c).armRegion (leAt c 0 1) 2).1 := by
      unfold State.takeCapt
      dsimp only
      rw [if_neg (by simp [hon, hentry, henabled]; omega), hst, if_neg (by decide), if_pos rfl, hreg, if_pos hidle]
    rw [hval, ← hreg]
    exact harm.2
  case full =>
    rintro c ⟨hnl, hng, hnc, hni, hap, hon⟩
    refine happens (f := fun s => s.adopt c State.takeFull) (fun _ _ => rfl) fun w hw i hi => ?_
    have hlatch := (w.arrived c).takeLatch_point (c := slice c 8 11) (i := i)
      (by rw [leAt_slice c 8 (by decide)]; exact hap) (by rw [leAt_slice c 8 (by decide)]; exact hon) hi
    rw [leAt_slice c 8 (by decide), leAt_slice c 8 (by decide), show (w.arrived c).vote = w.vote from w.arrived_frame c .vote rfl] at hlatch
    rw [State.adopt_ready hw.1 hw.2]
    have hval : (w.arrived c).takeFull c = (w.arrived c).takeLatch (slice c 8 11) := by
      unfold State.takeFull
      dsimp only
      rw [hnl, hng, hnc, hni]
      rfl
    rw [hval]
    exact hlatch

end Sys2Proof.Machine
end

section
/-!
PROOFS. Sys2Proof/Proofs/SlvCommands.lean: the Selvedge links restarted and held by software, and the origins read.
-/

namespace Sys2Proof.Machine

/-! A command that is taken finds its block's domain ON. -/

theorem State.regState_issued (s : State) (t : Nat) (path : Path) {b op : Nat} (a : Nat) :
    (s.issued t path b op).regState a = s.regState a := by
  have hreg : ∀ r, r ∉ noteRegs → (s.issued t path b op).regN r = s.regN r := fun r hr => s.regN_asked t path _ _ hr
  have hdomain : ∀ d, (s.issued t path b op).domain d = s.domain d := fun d => by
    unfold State.domain
    rw [hreg _ (by decide)]
  have hmode : (s.issued t path b op).mode = s.mode := by
    unfold State.mode State.fld
    rw [hreg _ (by decide)]
  have hpower : (s.issued t path b op).power = s.power :=
    (s.asked_keeps t path (hdr b 0x40) (goWord op)).power.trans (s.at_power t)
  unfold State.regState State.noStacks
  simp only [hdomain, hmode, hpower]

/-- A command whose body answers OK with a state, where the block's own domain matters. -/
theorem completes_ok_on {b op : Nat} {i : Nat → Path → Instr} {c : State → Prop} {e : State → State → Prop} {body : Path → State → CmdResult}
    (he : ∀ t path s, exec (i t path) s = command t b op path (body path) s) (hop : op < 256)
    (h : ∀ path w, w.regState (hdr b 0x40) = 0 → c w → ∃ u, body path w = ok u ∧ e w (finish b op (ok u))) : Completes b op i c e := by
  intro s t path hr hc
  obtain ⟨u, hbody, he'⟩ := h path _ ((s.regState_issued t path _).trans hr.1.2.2.1) hc
  refine ⟨_, (he t path s).trans (command_ready hr t op (body path) {}), ?_⟩
  rw [hbody]
  exact ⟨finish_doneOk rfl rfl hop, he'⟩

/-- Is a register's block in a domain of its own, the register answers as that domain stands. -/
theorem State.regState_domain {s : State} {addr d : Nat} (h : regDomain addr = d) (hs : d ≠ pdStacks) (hc : d ≠ pdCtrl) :
    s.regState addr = s.domain d := by
  unfold State.regState
  simp [h, hs, hc]

/-! The state of a link (R332). -/

theorem State.linkState_putLinkState (s : State) {n v : Nat} (hn : n ≤ 3) (hv : v < 16) : (s.putLinkState n v).linkState n = v := by
  unfold State.putLinkState State.linkState
  rw [State.regN_putReg_same, Nat.mod_eq_of_lt (withBits_lt _ _ _ _ _ (regN_lt s _) (by omega)), bits_withBits_same]
  rw [show 4 * n + 3 + 1 - 4 * n = 4 by omega]
  exact Nat.mod_eq_of_lt hv

theorem State.sameRegs_putLinkState (s : State) (n v : Nat) : SameRegs s (s.putLinkState n v) [R.SLV_STATUS] := by
  unfold State.putLinkState
  rw [sameRegs_putReg (by simp)]
  exact SameRegs.refl s _

theorem State.sameRegs_putLink (s : State) (n : Nat) (x : SlvLink) : SameRegs s (s.putLink n x) [R.SLV_LINKn_WINDOW n] := by
  unfold State.putLink
  dsimp only
  rw [sameRegs_putFld (by simp), sameRegs_putFld (by simp), sameRegs_setSlv]
  exact SameRegs.refl s _

@[simp] theorem State.link_putLink (s : State) (n : Nat) (x : SlvLink) : (s.putLink n x).link n = x := by
  unfold State.putLink State.link
  simp

theorem State.linkState_putLink (s : State) (n m : Nat) (x : SlvLink) : (s.putLink n x).linkState m = s.linkState m := by
  unfold State.linkState
  rw [s.sameRegs_putLink n x _ (by simp only [List.mem_singleton, R.SLV_STATUS, R.SLV_LINKn_WINDOW]; omega)]

/-! What a link's loss leaves. -/

/-- The registers that the loss of a link may write beside those that show the link. -/
abbrev lossRegs (n : Nat) : List Nat := [R.SLV_LINKn_DOWNS n, R.PAIR_STATUS, R.PAIR_MIRROR_DOWNS] ++ eventRegs

theorem State.sameRegs_mirrorLinkDown (s : State) (n : Nat) : SameRegs s (s.mirrorLinkDown n) ([R.PAIR_STATUS, R.PAIR_MIRROR_DOWNS] ++ eventRegs) := by
  unfold State.mirrorLinkDown
  refine SameRegs.ite (SameRegs.refl s _) ?_
  dsimp only
  refine SameRegs.ite ?_ ?_
  · rw [sameRegs_raise (by simp), sameRegs_event (by simp) (by simp), sameRegs_count (by simp), sameRegs_putFld (by simp), sameRegs_setPair,
      sameRegs_setSlv]
    exact SameRegs.refl s _
  · rw [sameRegs_setPair, sameRegs_setSlv]
    exact SameRegs.refl s _

/-- A loss is counted, recorded, raised where the link was up, and recorded as a hold where it is one. -/
def State.lossNoted (s : State) (n : Nat) (down held : List Byte) (was : Prop) [Decidable was] (hold : Bool) : State :=
  let s := (s.count (R.SLV_LINKn_DOWNS n)).event E.SLV_LINK_DOWN n down
  let s := if was then s.raise I.SLV_LINK_DOWN else s
  let s := if hold then s.event E.SLV_LINK_HELD n held else s
  s.mirrorLinkDown n

theorem State.sameRegs_lossNoted (s : State) (n : Nat) (down held : List Byte) (was : Prop) [Decidable was] (hold : Bool) :
    SameRegs s (s.lossNoted n down held was hold) (lossRegs n) := by
  have hdown : SameRegs s ((s.count (R.SLV_LINKn_DOWNS n)).event E.SLV_LINK_DOWN n down) (lossRegs n) := by
    rw [sameRegs_event (by simp) (by simp), sameRegs_count (by simp)]
    exact SameRegs.refl s _
  have hraised := SameRegs.ite (c := was) ((sameRegs_raise (c := I.SLV_LINK_DOWN) (by simp)).mpr hdown) hdown
  unfold State.lossNoted
  dsimp only
  rw [(State.sameRegs_mirrorLinkDown _ _).thru (by simp)]
  exact SameRegs.ite ((sameRegs_event (by simp) (by simp)).mpr hraised) hraised

/-- The loss of a link: its state and its cause are shown, then it is noted. -/
theorem State.linkLost_eq (s : State) (n cause : Nat) : ∃ (v : Nat) (x : SlvLink) (down held : List Byte) (was : Prop) (_ : Decidable was)
    (hold : Bool), s.linkLost n cause =
      (((s.putLinkState n v).putLink n x).putFld (F.SLV_LINKn_STATE_CAUSE n) cause).lossNoted n down held was hold :=
  ⟨_, _, _, _, _, _, _, rfl⟩

theorem State.linkLost_shown (s : State) (n cause : Nat) : ∃ v x,
    SameRegs (((s.putLinkState n v).putLink n x).putFld (F.SLV_LINKn_STATE_CAUSE n) cause) (s.linkLost n cause) (lossRegs n) := by
  obtain ⟨v, x, down, held, was, inst, hold, h⟩ := s.linkLost_eq n cause
  exact ⟨v, x, h ▸ State.sameRegs_lossNoted _ n down held was hold⟩

theorem State.sameRegs_linkLost (s : State) (n cause : Nat) :
    SameRegs s (s.linkLost n cause) ([R.SLV_STATUS, R.SLV_LINKn_WINDOW n, R.SLV_LINKn_STATE n] ++ lossRegs n) := by
  obtain ⟨v, x, h⟩ := s.linkLost_shown n cause
  rw [h.thru (by simp), sameRegs_putFld (by simp), (State.sameRegs_putLink _ _ _).thru (by simp),
    (State.sameRegs_putLinkState _ _ _).thru (by simp)]
  exact SameRegs.refl s _

theorem State.linkDown_restart (s : State) (n : Nat) : s.linkDown n 4 = s.linkLost n 4 := by
  unfold State.linkDown
  rw [if_neg (by decide)]

/-- A link lost because software restarts or holds it shows that cause. -/
theorem State.linkLost_cause (s : State) {n cause : Nat} (hn : n ≤ 3) (hc : cause < 16) : (s.linkLost n cause).fld (F.SLV_LINKn_STATE_CAUSE n) = cause := by
  obtain ⟨v, x, h⟩ := s.linkLost_shown n cause
  have hout : R.SLV_LINKn_STATE n ∉ lossRegs n := by
    simp only [List.mem_append, List.mem_cons, List.not_mem_nil, or_false, not_or, lossRegs, eventRegs, R.SLV_LINKn_STATE, R.SLV_LINKn_DOWNS, R.PAIR_STATUS,
      R.PAIR_MIRROR_DOWNS, R.HOST_PBAn, R.PAIR_MIRROR_SENT]
    omega
  rw [h.fld hout, State.fld_putFld_same _ _ _ (by simp)]
  exact Nat.mod_eq_of_lt hc

/-- A link lost keeps its role, its block's domain and the time. -/
theorem State.linkLost_keeps (s : State) {n : Nat} (hn : n ≤ 3) (cause : Nat) :
    (s.linkLost n cause).role n = s.role n ∧ (s.linkLost n cause).domain pdSlv = s.domain pdSlv ∧ (s.linkLost n cause).bases = s.bases := by
  have hframe : Frame 0x100108d0 s (s.linkLost n cause) := by simp (disch := decide) only [Frame.linkLost, Frame.refl]
  have hreg : ∀ a, a ∈ [R.DRAFT_CARDS, R.POWER_DOMAIN_STATE] → (s.linkLost n cause).regN a = s.regN a := fun a ha => by
    refine s.sameRegs_linkLost n cause a ?_
    interval_cases n <;> revert a <;> decide
  refine ⟨?_, ?_, hframe .bases rfl⟩
  · unfold State.role
    rw [State.cfg_congr (hframe .draft rfl) (hreg _ (by simp))]
  · unfold State.domain
    rw [hreg _ (by simp)]

theorem State.putLink_bases (s : State) (n : Nat) (x : SlvLink) : (s.putLink n x).bases = s.bases := by
  unfold State.putLink
  simp

theorem State.role_putLink (s : State) (n m : Nat) (x : SlvLink) : (s.putLink n x).role m = s.role m := by
  unfold State.role
  rw [State.cfg_congr (by unfold State.putLink; simp)
    (s.sameRegs_putLink n x _ (by simp only [R.DRAFT_CARDS, R.SLV_LINKn_WINDOW, List.mem_singleton]; omega))]

theorem State.domain_putLink (s : State) (n d : Nat) (x : SlvLink) : (s.putLink n x).domain d = s.domain d := by
  unfold State.domain
  rw [s.sameRegs_putLink n x _ (by simp only [R.POWER_DOMAIN_STATE, R.SLV_LINKn_WINDOW, List.mem_singleton]; omega)]

theorem finish_ok_linkState (op : Nat) (s : State) (n : Nat) : (finish 13 op (ok s)).linkState n = s.linkState n := by
  unfold State.linkState
  rw [finish_regN rfl rfl (by decide)]
  rfl

theorem finish_ok_link (op : Nat) (s : State) (n : Nat) : (finish 13 op (ok s)).link n = s.link n := by
  unfold State.link
  rw [show (finish 13 op (ok s)).slv = s.slv from frame_finish_ok _ _ _ .slv rfl]

/-- Settles O46, command by command. -/
theorem slvCommandsComplete : Obligations.SlvCommandsComplete := by
  refine ⟨?restart, ?hold, ?origin⟩
  case restart =>
    refine completes_ok_on (body := fun _ => cmdSlvLinkRestart) (fun _ _ _ => rfl) (by decide) fun path w hon hw => ?_
    obtain ⟨hn, hrole⟩ := hw
    obtain ⟨v, hv, hvrole, hvon, hvnow⟩ : ∃ v, (if 1 ≤ w.linkState (w.arg 13 0) ∧ w.linkState (w.arg 13 0) ≤ 3 then
        w.linkDown (w.arg 13 0) 4 else w) = v ∧ v.role (w.arg 13 0) = w.role (w.arg 13 0) ∧ v.domain pdSlv = w.domain pdSlv ∧
        v.bases = w.bases := by
      refine ⟨_, rfl, ?_⟩
      split
      · rw [State.linkDown_restart]
        exact w.linkLost_keeps hn 4
      · exact ⟨rfl, rfl, rfl⟩
    have hdomain : w.domain pdSlv = 0 := by
      rwa [State.regState_domain (d := pdSlv) rfl (by decide) (by decide)] at hon
    refine ⟨(v.putLink (w.arg 13 0) { v.link (w.arg 13 0) with downs := [] }).startLink (w.arg 13 0), ?_, ?_, ?_, ?_⟩
    · unfold cmdSlvLinkRestart
      dsimp only
      rw [if_neg (by omega), hv]
    all_goals
      unfold State.startLink
      rw [if_neg (by rw [State.role_putLink, hvrole, State.domain_putLink, hvon, hdomain]; simp [hrole])]
    · rw [finish_ok_linkState, State.linkState_putLink, State.linkState_putLinkState _ hn (by decide)]
    · rw [finish_ok_link, State.link_putLink, State.putLink_bases, hvnow]
    · rw [finish_ok_link, State.link_putLink, State.link_putLink]
  case hold =>
    refine completes_ok (body := fun _ => cmdLinkHold) (fun _ _ _ => rfl) (by decide) fun path w hw => ?_
    obtain ⟨hn, hrole⟩ := hw
    obtain ⟨v, hv, hcause⟩ : ∃ v, (if 1 ≤ w.linkState (w.arg 13 0) ∧ w.linkState (w.arg 13 0) ≤ 3 then w.linkDown (w.arg 13 0) 4
        else w.putFld (F.SLV_LINKn_STATE_CAUSE (w.arg 13 0)) 4) = v ∧ v.fld (F.SLV_LINKn_STATE_CAUSE (w.arg 13 0)) = 4 := by
      refine ⟨_, rfl, ?_⟩
      split
      · rw [State.linkDown_restart]
        exact w.linkLost_cause hn (by decide)
      · rw [State.fld_putFld_same _ _ _ (by simp)]
        rfl
    refine ⟨v.putLinkState (w.arg 13 0) 6, ?_, ?_, ?_⟩
    · unfold cmdLinkHold
      dsimp only
      rw [if_neg (by omega), hv]
    · rw [finish_ok_linkState, State.linkState_putLinkState _ hn (by decide)]
    · rw [finish_ok_fld _ (by simp only [cmdRegs, hdr, R.SLV_LINKn_STATE, List.mem_cons, List.not_mem_nil, or_false]; omega),
        (State.sameRegs_putLinkState _ _ _).fld (by simp only [R.SLV_LINKn_STATE, R.SLV_STATUS, List.mem_singleton]; omega), hcause]
  case origin =>
    intro tag
    refine completes (body := fun _ => cmdOriginRead) (fun _ _ _ => rfl) (by decide) fun path w hw => ?_
    unfold cmdOriginRead
    rw [hw]
    refine ⟨rfl, rfl, ?_, ?_, ?_⟩
    · rw [finish_results rfl rfl]
      simp
    · rw [finish_ok rfl rfl]
      simp
    · intro a ha
      exact finish_regN rfl rfl ha

end Sys2Proof.Machine
end

section
/-!
PROOFS. Sys2Proof/Proofs/SlvLinks.lean: what a cell that is not valid shows.
-/

namespace Sys2Proof.Machine

/-- Link 0 is in training, with a number in its window register that is not that of its window. -/
def windowStale : State := ((everyDomainOn 3).putReg R.SLV_STATUS 1).putReg (R.SLV_LINKn_WINDOW 0) 77

set_option maxRecDepth 16000 in
theorem badCell_shows_window :
    outcomePasses (exec (.badCell 900 0) windowStale) (fun u => u.regN (R.SLV_LINKn_WINDOW 0) != 77) = true := by decide

set_option maxRecDepth 16000 in
/-- Refutes O47: a cell that is not valid ends a link's run of TRAINs (R318), and with the link's state its window is shown again, a
register the statement does not list; from every state is meant there, also one whose window register holds another number. -/
theorem not_slvLinksHappen : ¬ Obligations.SlvLinksHappen := by
  intro h
  obtain ⟨_, _, hbad, _⟩ := h
  obtain ⟨u, ⟨_, hsame⟩, hshown⟩ := (hbad 0 (by decide) windowStale 900 rfl (by decide)).passes badCell_shows_window
  have hkept : u.regN (R.SLV_LINKn_WINDOW 0) = 77 := by
    rw [hsame _ (by decide)]
    decide
  rw [hkept] at hshown
  cases hshown

end Sys2Proof.Machine
end

section
/-!
PROOFS. Sys2Proof/Proofs/SlvCells.lean: a cell that comes back to its origin.
-/

namespace Sys2Proof.Machine

/-- A SELVEDGE body of device 9, no ROOT, whose link 1 is a DOWN link. -/
def deviceNine : List Byte := [9, 0, 0, 4, 0, 1, 0, 0] ++ List.replicate 88 0

/-- An ARM cell of device 9, with the number 5. -/
def ownArmCell : List Byte := cellBytes { ty := 0x20, origin := 9, aux2 := 5, tag := 65536 } false 0 0 0

/-- Link 1 of device 9 is UP in M3. -/
def ownCellDue : State :=
  ((everyDomainOn 3).setDraft
    { base := some { header := [], sections := [(secSlv, deviceNine)], length := 0, signed := false, keySlot := 0 } }).putReg
    R.SLV_STATUS (16 * 3)

set_option maxRecDepth 16000 in
theorem armCell_of_own_origin :
    outcomePasses (exec (.armCell 900 1 ownArmCell) ownCellDue) (fun u => u.slv.handled.isEmpty) = true := by decide +kernel

set_option maxRecDepth 16000 in
/-- Refutes O48: an ARM cell that comes back to the device it came from is neither handed to CAPT nor noted as handled (R329), where the
statement has it noted whatever its ORIGIN. -/
theorem not_slvCellsHappen : ¬ Obligations.SlvCellsHappen := by
  intro h
  obtain ⟨_, _, harm, _⟩ := h
  obtain ⟨u, ⟨_, _, hin⟩, hempty⟩ :=
    (harm 1 ownArmCell (by decide +kernel) ownCellDue 900 rfl (by decide +kernel)).passes armCell_of_own_origin
  rw [List.isEmpty_iff.mp hempty] at hin
  cases hin

end Sys2Proof.Machine
end

section
/-!
PROOFS. Sys2Proof/Proofs/FaultCommands.lean: elements read and restored, faults injected, the pad hold released and the counters cleared.
-/

namespace Sys2Proof.Machine

/-- DONE with status OK leaves every part but the registers, whatever results the command answers. -/
theorem frame_finish_done {b op : Nat} {r : CmdResult} (hw : r.waits = false) (hs : r.status = 0) : Frame 0x10 r.state (finish b op r) := by
  rw [finish_ok hw hs]
  simp (disch := decide) only [Frame.putReg, Frame.refl]

theorem sameRegs_finish_done {b op : Nat} {r : CmdResult} (hw : r.waits = false) (hs : r.status = 0) :
    SameRegs r.state (finish b op r) (cmdRegs b) := fun _ ha => finish_regN hw hs ha

/-! Elements and their counters (R276, R278). -/

theorem State.elem_congr {s u : State} (h : u.fault = s.fault) (e : Nat) : u.elem e = s.elem e := by
  unfold State.elem
  rw [h]

@[simp] theorem State.elem_putElem (s : State) (e : Nat) (x : ElemSt) : (s.putElem e x).elem e = x := by
  unfold State.putElem State.elem
  simp

/-- The counter of a class beside the one of all transients. -/
theorem State.sameRegs_countClass (s : State) (cls : Nat) : SameRegs s (s.countClass cls) (classCounter cls).toList := by
  unfold State.countClass
  split
  · next r h =>
    rw [h, sameRegs_count (by simp)]
    exact SameRegs.refl s _
  · exact SameRegs.refl s _

theorem State.regN_countClass (s : State) {cls r : Nat} (h : r ∈ (classCounter cls).toList) :
    (s.countClass cls).regN r = (s.regN r + 1) % 2 ^ 32 := by
  rw [Option.mem_toList] at h
  unfold State.countClass
  rw [Option.mem_def.mp h]
  exact State.regN_count_same s r 1

/-- The counters of classes are registers of FAULT other than the one of all transients. -/
theorem classCounter_apart {cls r : Nat} (hc : cls ≤ 14) (h : r ∈ (classCounter cls).toList) : r ∉ R.FAULT_TRANSIENT :: eventRegs ++ cmdRegs 30 := by
  interval_cases cls <;> revert r <;> decide

/-- A transient fault counts at its element, in all and in its class. -/
theorem State.transient_effect (s : State) {cls : Nat} (e : Nat) (hc : cls ≤ 14) :
    (s.transient cls e).elem e = { s.elem e with transient := (s.elem e).transient + 1 } ∧
      (s.transient cls e).regN R.FAULT_TRANSIENT = (s.regN R.FAULT_TRANSIENT + 1) % 2 ^ 32 ∧
      (∀ r ∈ (classCounter cls).toList, (s.transient cls e).regN r = (s.regN r + 1) % 2 ^ 32) ∧
      SameRegs s (s.transient cls e) (R.FAULT_TRANSIENT :: (classCounter cls).toList ++ eventRegs) := by
  obtain ⟨x, hx⟩ : ∃ x : ElemSt, x = { s.elem e with transient := (s.elem e).transient + 1 } := ⟨_, rfl⟩
  obtain ⟨v, hv⟩ : ∃ v : State, v = ((s.putElem e x).count R.FAULT_TRANSIENT).countClass cls := ⟨_, rfl⟩
  obtain ⟨p, hp⟩ : ∃ p : List Byte, s.transient cls e = (v.event E.FAULT_TRANSIENT e p).raise I.FAULT_TRANSIENT := ⟨_, by rw [hv, hx]; rfl⟩
  have hnoted : SameRegs v (s.transient cls e) eventRegs := by
    rw [hp, sameRegs_raise (by decide), sameRegs_event (by decide) (by decide)]
    exact SameRegs.refl v _
  have hfault : (s.transient cls e).fault = v.fault := by
    rw [hp]
    exact ((Frame.raise (m := 0x100008d0) rfl).mpr ((Frame.event rfl).mpr (Frame.refl _ v))) .fault rfl
  have hvfault : v.fault = (s.putElem e x).fault := by
    rw [hv]
    exact ((Frame.countClass (m := 0x10) rfl).mpr ((Frame.count rfl).mpr (Frame.refl _ _))) .fault rfl
  have hput : ∀ r, (s.putElem e x).regN r = s.regN r := fun r => State.regN_setFault s r
  have hother : ∀ r, r ∉ (classCounter cls).toList → v.regN r = ((s.putElem e x).count R.FAULT_TRANSIENT).regN r := fun r hr => by
    rw [hv, State.sameRegs_countClass _ _ _ hr]
  refine ⟨?_, ?_, fun r hr => ?_, ?_⟩
  · rw [State.elem_congr (hfault.trans hvfault), State.elem_putElem, hx]
  · rw [hnoted _ (by decide), hother _ fun hr => classCounter_apart hc hr (by simp), State.regN_count_same, hput]
  · have hapart := classCounter_apart hc hr
    simp only [List.mem_append, List.mem_cons, not_or] at hapart
    rw [hnoted r (by simp [hapart]), hv, State.regN_countClass _ hr, State.regN_count_other _ _ (Ne.symm hapart.1.1), hput]
  · refine SameRegs.trans (u := v) ?_ (hnoted.mono (by simp))
    rw [hv, (State.sameRegs_countClass _ _).thru (by simp), sameRegs_count (by simp)]
    exact fun r _ => hput r

/-! Restores (R288). -/

/-- A restore of a domain wakes it from now, and keeps what is known of the elements. -/
theorem State.startRestore_effect (s : State) {e : Nat} (h : e / 256 < 16) :
    (s.startRestore e).fault = s.fault ∧ smFind (s.startRestore e).power.waking (e / 256) = some (s.bases.mono, 2) := by
  obtain ⟨v, hv⟩ : ∃ v : State, v = (s.setDomain (e / 256) 2).domainEvent (e / 256) (s.domain (e / 256)) 2 2 := ⟨_, rfl⟩
  have hframe : Frame 0x258017dd8 s v := by rw [hv]; simp (disch := decide) only [Frame.domainEvent, Frame.setDomain, Frame.refl]
  have hmono : v.bases.mono = s.bases.mono := hframe .mono rfl
  have hval : s.startRestore e = v.setPower { v.power with waking := smPut v.power.waking (e / 256) (v.bases.mono, 2) } := by
    unfold State.startRestore
    dsimp only
    rw [if_neg (by omega), hv]
  rw [hval]
  constructor
  · rw [State.setPower_fault]
    exact hframe .fault rfl
  · rw [State.setPower_power, smFind_smPut_same, hmono]

/-! The pad hold (R286). -/

/-- A field that reads 0 reads 0 after any field is written 0. -/
theorem State.fld_zero_putFld {s : State} {f : Fld} (g : Fld) (h : s.fld f = 0) : (s.putFld g 0).fld f = 0 := by
  unfold State.putFld State.fld
  rw [State.regN_putReg]
  split
  · next ha =>
    have hzero : bits (s.regN g.addr) f.hi f.lo = 0 := by rw [ha]; exact h
    apply Nat.eq_of_testBit_eq
    intro i
    have hi := congrArg (fun n => n.testBit i) hzero
    simp only [bits_testBit, Nat.zero_testBit, Bool.and_eq_false_iff, decide_eq_false_iff_not] at hi
    rw [bits_testBit, Nat.testBit_mod_two_pow, withBits_testBit]
    simp only [Nat.zero_testBit]
    rcases hi with hi | hi
    · simp [hi]
    · split <;> simp [hi]
  · exact h

/-- The pulse outputs, wherever their numbers lead, only clear their backlogs when they end. -/
theorem State.fld_zero_pulsesFollow {s : State} {f : Fld} (h : s.fld f = 0) : s.pulsesFollow.fld f = 0 := by
  have hfold : ∀ (l : List (Nat × PulseOut)) (w : State), w.fld f = 0 → (l.foldl (fun s p =>
      if p.2.high then (s.putFld (F.ENERGY_PULSEn_STATE_BACKLOG p.1) 0).drive (.epulse p.1) false
      else s.putFld (F.ENERGY_PULSEn_STATE_BACKLOG p.1) 0) w).fld f = 0 := by
    intro l
    induction l with
    | nil => exact fun w hw => hw
    | cons p l ih =>
      intro w hw
      have hp := State.fld_zero_putFld (F.ENERGY_PULSEn_STATE_BACKLOG p.1) hw
      rw [List.foldl_cons]
      refine ih _ ?_
      split
      · unfold State.fld
        rw [State.regN_drive]
        exact hp
      · exact hp
  unfold State.pulsesFollow
  split
  · exact (State.fld_setEnergy _ f).trans h
  · split
    · exact h
    · exact (State.fld_setEnergy _ f).trans (hfold _ _ h)

/-- The output stage shows itself in two registers beside those of the pulse outputs. -/
theorem State.sameRegs_updatePins (s : State) : SameRegs s.pulsesFollow s.updatePins [R.VOTE_STATUS, R.VOTE_PIN_SENSE] := by
  unfold State.updatePins
  dsimp only
  rw [sameRegs_putReg (by simp), sameRegs_putFld (by simp), sameRegs_putFld (by simp), sameRegs_setVote,
    (State.sameRegs_showBalls _ _).thru (by simp)]
  exact SameRegs.refl _ _

theorem State.fld_zero_updatePins {s : State} {f : Fld} (hf : f.addr ∉ [R.VOTE_STATUS, R.VOTE_PIN_SENSE]) (h : s.fld f = 0) :
    s.updatePins.fld f = 0 := by
  rw [SameRegs.fld s.sameRegs_updatePins hf]
  exact State.fld_zero_pulsesFollow h

/-- A hold that ends leaves nothing held, and says so. -/
theorem State.endHold_effect {s : State} (cause : Nat) (h : s.fault.holdSet.isSome = true) :
    (s.endHold cause).fault = { s.fault with holdSet := none } ∧ (s.endHold cause).fld F.FAULT_STATUS_PAD_HOLD = 0 ∧
      (s.endHold cause).fld F.FAULT_PAD_HOLD_HELD = 0 := by
  obtain ⟨since, hsince⟩ := Option.isSome_iff_exists.mp h
  obtain ⟨p, hp⟩ : ∃ p : List Byte, s.endHold cause = ((((s.putFld F.FAULT_PAD_HOLD_HELD 0).putFld F.FAULT_STATUS_PAD_HOLD 0).setFault
      { s.fault with holdSet := none }).event E.FAULT_PAD_HOLD_RELEASED noSource p).updatePins := by
    refine ⟨leBytes 1 cause, ?_⟩
    unfold State.endHold
    rw [hsince]
    dsimp only
    simp
  obtain ⟨v, hv⟩ : ∃ v : State, v = (((s.putFld F.FAULT_PAD_HOLD_HELD 0).putFld F.FAULT_STATUS_PAD_HOLD 0).setFault
      { s.fault with holdSet := none }).event E.FAULT_PAD_HOLD_RELEASED noSource p := ⟨_, rfl⟩
  have hregs : SameRegs ((s.putFld F.FAULT_PAD_HOLD_HELD 0).putFld F.FAULT_STATUS_PAD_HOLD 0) v eventRegs := by
    rw [hv, sameRegs_event (by decide) (by decide), sameRegs_setFault]
    exact SameRegs.refl _ _
  rw [hp, ← hv]
  refine ⟨?_, State.fld_zero_updatePins (by decide) ?_, State.fld_zero_updatePins (by decide) ?_⟩
  · have hpins : v.updatePins.fault = v.fault := (Frame.updatePins (m := 0x200004810) rfl).mpr (Frame.refl _ v) .fault rfl
    have hevent : v.fault = (((s.putFld F.FAULT_PAD_HOLD_HELD 0).putFld F.FAULT_STATUS_PAD_HOLD 0).setFault
        { s.fault with holdSet := none }).fault := by
      rw [hv]
      exact (Frame.event (m := 0x100008d0) rfl).mpr (Frame.refl _ _) .fault rfl
    rw [hpins, hevent, State.setFault_fault]
  · rw [hregs.fld (by decide), State.fld_putFld_same _ _ _ (by decide)]
    rfl
  · rw [hregs.fld (by decide), State.fld_putFld_apart _ _ _ _ (by decide) (by decide), State.fld_putFld_same _ _ _ (by decide)]
    rfl

/-! The counters (R292). -/

/-- Registers that are each written 0 read 0. -/
theorem regN_zeroed {l : List Nat} {f : Nat → Nat} (s : State) {i : Nat} (h : i ∈ l) :
    (l.foldl (fun s i => s.putReg (f i) 0) s).regN (f i) = 0 := by
  induction l using List.reverseRecOn with
  | nil => cases h
  | append_singleton l j ih =>
    rw [List.foldl_concat, State.regN_putReg]
    split
    · rfl
    · next hne =>
      refine ih ((List.mem_append.mp h).resolve_right fun hj => hne ?_)
      rw [List.mem_singleton.mp hj]

theorem sameRegs_zeroed (l : List Nat) (f : Nat → Nat) (s : State) :
    SameRegs s (l.foldl (fun s i => s.putReg (f i) 0) s) (l.map f) := by
  rw [sameRegs_foldl]
  · exact SameRegs.refl s _
  · intro w i hi
    rw [sameRegs_putReg (List.mem_map_of_mem hi)]
    exact SameRegs.refl w _

theorem elementOk_eq {e : Nat} (h : e < 65536) (hd : e / 256 ≤ 16) : elementOk e = true := by
  unfold elementOk
  simp [h, hd]

/-- Settles O41, command by command. -/
theorem faultCommandsComplete : Obligations.FaultCommandsComplete := by
  refine ⟨?read, ?inject, ?restore, ?release, ?clear⟩
  case read =>
    refine completes (body := fun _ => cmdElementRead) (fun _ _ _ => rfl) (by decide) fun path w hw => ?_
    obtain ⟨he, hd⟩ := hw
    have hval : cmdElementRead w =
        { state := w
          r0 := (w.elem (w.arg 30 0)).state + 2 ^ 16 * min (w.elem (w.arg 30 0)).transient 65535
          r1 := sat32 (w.elem (w.arg 30 0)).lasting } := by
      unfold cmdElementRead
      dsimp only
      rw [elementOk_eq he hd]
      rfl
    have hsat : sat32 (w.elem (w.arg 30 0)).lasting % 2 ^ 32 = min (w.elem (w.arg 30 0)).lasting (2 ^ 32 - 1) := by
      unfold sat32
      omega
    rw [hval]
    refine ⟨rfl, rfl, ?_, frame_finish_done rfl rfl .fault rfl, sameRegs_finish_done rfl rfl⟩
    rw [finish_results rfl rfl, hsat]
  case inject =>
    refine completes_ok (body := fun _ => cmdInject) (fun _ _ _ => rfl) (by decide) fun path w hw => ?_
    obtain ⟨hmode, hcls, hsec, hstk, he, hd, hlasting⟩ := hw
    obtain ⟨v, hv⟩ : ∃ v : State, v = w.event E.FAULT_INJECTED (w.arg 30 1) (leBytes 1 (w.arg 30 0) ++ leBytes 2 (w.arg 30 1) ++ leBytes 1 0) :=
      ⟨_, rfl⟩
    have hregs : SameRegs w v eventRegs := by
      rw [hv, sameRegs_event (by decide) (by decide)]
      exact SameRegs.refl w _
    have helem : v.elem (w.arg 30 1) = w.elem (w.arg 30 1) := by
      refine State.elem_congr ?_ _
      rw [hv]
      exact (Frame.event (m := 0x100008d0) rfl).mpr (Frame.refl _ w) .fault rfl
    have hval : cmdInject w = ok (v.transient (w.arg 30 0) (w.arg 30 1)) := by
      unfold cmdInject
      dsimp only
      rw [if_neg (by omega), elementOk_eq he hd, if_neg (by simpa using hcls), hlasting, if_neg Bool.false_ne_true, ← hv]
      unfold State.retryComplete
      rw [if_neg (by omega), if_neg (by simp [hsec, hstk])]
      rfl
    obtain ⟨hcount, hall, hclass, hsame⟩ := v.transient_effect (w.arg 30 1) hcls
    refine ⟨_, hval, ?_, ?_, fun r hr => ?_, ?_⟩
    · rw [State.elem_congr (frame_finish_ok _ _ _ .fault rfl), hcount, helem]
    · rw [finish_regN rfl rfl (by decide)]
      exact hall.trans (by rw [hregs _ (by decide)])
    · have hapart := classCounter_apart hcls hr
      simp only [List.mem_append, List.mem_cons, not_or] at hapart
      rw [finish_regN rfl rfl (by simp only [List.mem_cons, not_or]; exact hapart.2)]
      exact (hclass r hr).trans (by rw [hregs r (by simp only [List.mem_cons, not_or]; exact hapart.1.2)])
    · rw [sameRegs_finish_ok (by simp) (by simp) (by simp) (by simp), hsame.thru (by intro r; simp; tauto)]
      exact hregs.mono (by intro r; simp; tauto)
  case restore =>
    refine completes_ok (body := fun _ => cmdRestore) (fun _ _ _ => rfl) (by decide) fun path w hw => ?_
    obtain ⟨hmode, he, hd, hfenced, hrecovery⟩ := hw
    obtain ⟨v, hv⟩ : ∃ v : State, v = (w.putElem (w.arg 30 0) { w.elem (w.arg 30 0) with state := 2, proving := none }).showFenced := ⟨_, rfl⟩
    have hval : cmdRestore w = ok (v.startRestore (w.arg 30 0)) := by
      unfold cmdRestore
      dsimp only
      rw [elementOk_eq he (by omega), if_neg (by decide), if_neg (by simp [hfenced, hrecovery]; omega), hv]
    have hput : v.elem (w.arg 30 0) = { w.elem (w.arg 30 0) with state := 2, proving := none } := by
      rw [hv, State.elem_congr ((Frame.showFenced (m := 0x10) rfl).mpr (Frame.refl _ _) .fault rfl), State.elem_putElem]
    have hmono : v.bases.mono = w.bases.mono := by
      have hframe : Frame 0x8010 w v := by rw [hv]; simp (disch := decide) only [Frame.showFenced, Frame.putElem, Frame.refl]
      exact hframe .mono rfl
    obtain ⟨hfault, hwaking⟩ := v.startRestore_effect hd
    have helem : (finish 30 3 (ok (v.startRestore (w.arg 30 0)))).elem (w.arg 30 0) = { w.elem (w.arg 30 0) with state := 2, proving := none } := by
      rw [State.elem_congr (frame_finish_ok _ _ _ .fault rfl), State.elem_congr hfault, hput]
    refine ⟨_, hval, by rw [helem], by rw [helem], ?_⟩
    rw [show (finish 30 3 (ok (v.startRestore (w.arg 30 0)))).power = (v.startRestore (w.arg 30 0)).power from
      frame_finish_ok _ _ _ .power rfl, hwaking, hmono]
  case release =>
    refine completes_ok (body := fun _ => cmdHoldRelease) (fun _ _ _ => rfl) (by decide) fun path w hw => ?_
    obtain ⟨hmode, hhold⟩ := hw
    obtain ⟨hfault, hshown, hheld⟩ := w.endHold_effect 2 hhold
    refine ⟨w.endHold 2, ?_, ?_, ?_, ?_⟩
    · unfold cmdHoldRelease
      rw [if_neg (by omega)]
    · exact (frame_finish_ok _ _ _ .fault rfl).trans hfault
    · rw [finish_ok_isSet _ (by decide)]
      unfold State.isSet
      rw [hshown]
      rfl
    · rw [finish_ok_fld _ (by decide), hheld]
  case clear =>
    refine completes_ok (body := fun _ => cmdCountersClear) (fun _ _ _ => rfl) (by decide) fun path w _ => ⟨_, rfl, fun i hi => ?_, ?_, ?_⟩
    · rw [finish_regN rfl rfl (by interval_cases i <;> decide)]
      exact regN_zeroed (f := fun i => R.FAULT_TRANSIENT + 4 * i) w (List.mem_range.mpr hi)
    · refine (frame_finish_ok _ _ _ .fault rfl).trans ?_
      have hfold : Frame 0x10 w ((List.range 14).foldl (fun s i => s.putReg (R.FAULT_TRANSIENT + 4 * i) 0) w) := by
        simp (disch := first | decide | (intros; simp (disch := decide) only [Frame.putReg, Frame.refl])) only [Frame.foldl, Frame.refl]
      exact hfold .fault rfl
    · rw [sameRegs_finish_ok (by simp) (by simp) (by simp) (by simp)]
      exact (sameRegs_zeroed _ _ w).mono fun r hr => List.mem_append_left _ (List.mem_append_left _ hr)

end Sys2Proof.Machine
end

section
/-!
PROOFS. Sys2Proof/Proofs/Queues.lean: The host queues: what a copy, a fetch, a flush and the moderation time leave in the ring and in the registers.
-/

namespace Sys2Proof.Machine

/-- A frame goes through a choice as it goes through both sides. -/
theorem sameRegs_ite {s u v : State} {l : List Nat} {c : Prop} [Decidable c] :
    SameRegs s (if c then u else v) l ↔ if c then SameRegs s u l else SameRegs s v l := by
  split <;> rfl

/-! A queue's storage (R356). -/

@[simp] theorem State.queue_putQueue (s : State) (q : Nat) (x : QueueSt) : (s.putQueue q x).queue q = x := by
  unfold State.putQueue State.queue
  simp

theorem State.queue_congr {s u : State} (h : u.queues = s.queues) (q : Nat) : u.queue q = s.queue q := by
  unfold State.queue
  rw [h]

/-- The registers that a change of a queue's storage may write. -/
abbrev levelRegs (q : Nat) : List Nat := [R.QUEUE_Qn_LEVEL q, R.QUEUE_Qn_WM_STATUS q, R.HOST_PBAn 0]

theorem State.sameRegs_putLevel (s : State) (q : Nat) (x : QueueSt) : SameRegs s (s.putLevel q x) (levelRegs q) := by
  unfold State.putLevel State.putQueue
  dsimp only
  simp (disch := simp) only [sameRegs_ite, sameRegs_raise, sameRegs_putFld, sameRegs_putReg, sameRegs_setQueues, SameRegs.refl, ite_self]

@[simp] theorem State.queue_putLevel (s : State) (q : Nat) (x : QueueSt) : (s.putLevel q x).queue q = x := by
  have hframe : Frame 0x850 (s.putQueue q x) (s.putLevel q x) := by
    unfold State.putLevel
    dsimp only
    simp (disch := decide) only [Frame.ite, Frame.raise, Frame.putFld, Frame.putReg, Frame.refl, ite_self]
  rw [State.queue_congr (hframe .queues rfl), State.queue_putQueue]

/-- A queue that counts a packet toward its signal keeps its storage. -/
theorem State.countPacket_effect (s : State) (q : Nat) :
    ((s.countPacket q).queue q).packets = (s.queue q).packets ∧ ((s.countPacket q).queue q).copied = (s.queue q).copied ∧
      SameRegs s (s.countPacket q) [R.HOST_PBAn ((32 + q) / 32)] := by
  have hsignal : ∀ w : State, (w.signal (32 + q)).queues = w.queues := fun w =>
    ((Frame.signal (m := 0x810) rfl).mpr (Frame.refl _ w)) .queues rfl
  unfold State.countPacket
  dsimp only
  split
  · rw [State.queue_congr (hsignal _), State.queue_putQueue]
    refine ⟨rfl, rfl, ?_⟩
    rw [sameRegs_signal (by simp)]
    exact SameRegs.of_regs (by unfold State.putQueue; simp) _
  · rw [State.queue_putQueue]
    exact ⟨rfl, rfl, SameRegs.of_regs (by unfold State.putQueue; simp) _⟩

theorem State.mem_out_countPacket {s : State} {o : Output} (h : o ∈ s.out) (q : Nat) : o ∈ (s.countPacket q).out := by
  unfold State.countPacket
  dsimp only
  split
  · exact State.mem_out_signal (by simpa [State.putQueue] using h) _
  · simpa [State.putQueue] using h

theorem State.mem_out_putLevel {s : State} {o : Output} (h : o ∈ s.out) (q : Nat) (x : QueueSt) : o ∈ (s.putLevel q x).out := by
  have hout : ∀ w : State, o ∈ w.out → ∀ f v, o ∈ (w.putFld f v).out := fun w hw f v => by simpa using hw
  have hboth : ∀ (c : Prop) [Decidable c] (u v : State), o ∈ u.out → o ∈ v.out → o ∈ (if c then u else v).out := fun c _ u v hu hv =>
    iteInduction (motive := fun w : State => o ∈ w.out) (fun _ => hu) (fun _ => hv)
  have hput : o ∈ ((s.putQueue q x).putReg (R.QUEUE_Qn_LEVEL q) x.level).out := by simpa [State.putQueue] using h
  unfold State.putLevel
  dsimp only
  refine hboth _ _ _ (State.mem_out_raise (hout _ (hout _ (hboth _ _ _ (hout _ (hout _ ?_ _ _) _ _) ?_) _ _) _ _) _)
    (hout _ (hout _ (hboth _ _ _ (hout _ (hout _ ?_ _ _) _ _) ?_) _ _) _ _)
  all_goals exact hboth _ _ _ (hout _ (hout _ hput _ _) _ _) hput

/-! A queue's state (R353). -/

theorem clrBit_le (v n : Nat) : clrBit v n ≤ v := by
  unfold clrBit
  split
  · exact Nat.sub_le _ _
  · exact le_rfl

theorem State.queueState_effect (s : State) {q st : Nat} (hq : q ≤ 31) (hst : st < 4) :
    (s.queueState q st).fld (F.QUEUE_Qn_CTRL_STATE q) = st ∧ SameRegs s (s.queueState q st) [R.QUEUE_Qn_CTRL q, R.QUEUE_STATUS] ∧
      (s.queueState q st).queues = s.queues ∧ (st ≠ 2 → bit ((s.queueState q st).regN R.QUEUE_STATUS) q = false) := by
  have hapart : R.QUEUE_STATUS ≠ R.QUEUE_Qn_CTRL q := by simp only [R.QUEUE_STATUS, R.QUEUE_Qn_CTRL]; omega
  unfold State.queueState
  dsimp only
  refine ⟨?_, ?_, by simp, fun h2 => ?_⟩
  · unfold State.fld
    rw [State.regN_putReg_other _ _ hapart]
    refine (State.fld_putFld_same s (F.QUEUE_Qn_CTRL_STATE q) st (show 2 < 32 by decide)).trans ?_
    exact Nat.mod_eq_of_lt hst
  · simp (disch := simp) only [sameRegs_putFld, sameRegs_putReg, SameRegs.refl]
  · have hlt := regN_lt (s.putFld (F.QUEUE_Qn_CTRL_STATE q) st) R.QUEUE_STATUS
    rw [if_neg h2, State.regN_putReg_same, Nat.mod_eq_of_lt (lt_of_le_of_lt (clrBit_le _ _) hlt)]
    exact bit_clrBit _ _

/-- A write by a path that reaches its register. -/
theorem State.access_of_reaches {s : State} {path : Path} {addr : Nat} (h : s.Reaches path addr) (v : Nat) (f : State → State)
    (x : CmdInput) : s.access path addr v f x = f (s.monNote path addr v) := by
  obtain ⟨_, hdeaf, hon, hmay⟩ := h
  unfold State.access
  simp [hdeaf, hon, hmay]

theorem State.sameRegs_monNote (s : State) (path : Path) (addr v : Nat) : SameRegs s (s.monNote path addr v) noteRegs := fun a ha => by
  simp only [List.mem_cons, List.not_mem_nil, or_false, not_or] at ha
  exact s.regN_monNote path addr v (Ne.symm ha.1) (Ne.symm ha.2.1) (Ne.symm ha.2.2)

/-- The registers of a queue are none of those that a write notes. -/
theorem queueReg_not_note {q off : Nat} (hq : q ≤ 31) (ho : off < 0x40) : 0xc01000 + off + 0x40 * q ∉ noteRegs := by
  simp only [List.mem_cons, List.not_mem_nil, or_false, R.HOST_PBAn, R.PAIR_MIRROR_SENT, R.MONITOR_WRITES]
  omega

/-- What is posted to an H2D queue is skipped, and the write-back follows where the queue may move packets (R357). -/
def State.ringsMet (s : State) (q : Nat) : State :=
  let host := s.regN (R.QUEUE_Qn_DOORBELL q)
  let s := if s.queueIs q 1 then s.putReg (R.QUEUE_Qn_DEVICE_PTR q) host else s
  if s.dmaOn q 1 then s.emit (.writeBack q host) else s

theorem State.ringsMet_queues (s : State) (q : Nat) : (s.ringsMet q).queues = s.queues := by
  unfold State.ringsMet
  dsimp only
  repeat' split
  all_goals simp

theorem State.ringsMet_regs (s : State) (q : Nat) : (s.ringsMet q).regs =
    (if s.queueIs q 1 then s.putReg (R.QUEUE_Qn_DEVICE_PTR q) (s.regN (R.QUEUE_Qn_DOORBELL q)) else s).regs := by
  unfold State.ringsMet
  dsimp only
  exact iteInduction (motive := fun w : State => w.regs = _) (fun _ => State.emit_regs _ _) (fun _ => rfl)

/-- A flush empties the storage, and the rings meet (R357). -/
theorem State.flushQueue_effect (s : State) {q : Nat} (hq : q ≤ 31) :
    ((s.flushQueue q).queue q).packets = [] ∧ (s.flushQueue q).isSet (F.QUEUE_Qn_CTRL_FLUSH q) = false ∧
      (s.queueIs q 1 = true → (s.flushQueue q).regN (R.QUEUE_Qn_DEVICE_PTR q) = s.regN (R.QUEUE_Qn_DOORBELL q)) := by
  obtain ⟨v, hv⟩ : ∃ v, v = s.putLevel q { s.queue q with packets := [] } := ⟨_, rfl⟩
  have hlevel : SameRegs s v (levelRegs q) := by rw [hv]; exact s.sameRegs_putLevel q _
  have hout : ∀ off, off ∈ [0x0, 0x1c, 0x20] → 0xc01000 + off + 0x40 * q ∉ levelRegs q := fun off h => by
    simp only [List.mem_cons, List.not_mem_nil, or_false, R.QUEUE_Qn_LEVEL, R.QUEUE_Qn_WM_STATUS, R.HOST_PBAn] at h ⊢
    omega
  have hdoorbell : v.regN (R.QUEUE_Qn_DOORBELL q) = s.regN (R.QUEUE_Qn_DOORBELL q) := hlevel _ (hout 0x1c (by simp))
  have hdir : v.queueIs q 1 = s.queueIs q 1 := by
    unfold State.queueIs State.isSet State.fld
    rw [hlevel _ (hout 0x0 (by simp))]
  have huq : (v.ringsMet q).queues = v.queues := v.ringsMet_queues q
  have hur := v.ringsMet_regs q
  have hu : s.flushQueue q = ((v.ringsMet q).putFld (F.QUEUE_Qn_CTRL_FLUSH q) 0).event E.QUEUE_FLUSHED q
      (leBytes 1 q ++ leBytes 4 (sat32 ((s.queue q).packets.foldl (fun a p => a + packetWords p) 0))) := by
    rw [hv]
    rfl
  have hctrl : ∀ a, a ∈ [R.QUEUE_Qn_CTRL q, R.QUEUE_Qn_DEVICE_PTR q] → R.HOST_PBAn 0 ≠ a ∧ R.PAIR_MIRROR_SENT ≠ a := fun a ha => by
    simp only [List.mem_cons, List.not_mem_nil, or_false, R.QUEUE_Qn_CTRL, R.QUEUE_Qn_DEVICE_PTR] at ha
    simp only [R.HOST_PBAn, R.PAIR_MIRROR_SENT]
    omega
  rw [hu]
  refine ⟨?_, ?_, fun hin => ?_⟩
  · rw [State.queue_congr ((((Keeps.refl _).putFld _ _).event _ _ _).queues.trans huq), hv, State.queue_putLevel]
  · unfold State.isSet
    rw [State.fld_event _ _ _ _ (hctrl _ (by simp)).1 (hctrl _ (by simp)).2]
    exact State.isSet_putFld_zero (v.ringsMet q) (F.QUEUE_Qn_CTRL_FLUSH q) (show 0 < 32 by decide)
  · rw [State.regN_event _ _ _ _ (hctrl _ (by simp)).1 (hctrl _ (by simp)).2,
      State.regN_putFld_other _ _ (by simp only [R.QUEUE_Qn_CTRL, R.QUEUE_Qn_DEVICE_PTR]; omega), regN_congr hur, hdir, if_pos hin,
      State.regN_putReg_same, Nat.mod_eq_of_lt (regN_lt _ _), hdoorbell]

/-- Settles O51, operation by operation. -/
theorem queuesRun : Obligations.QueuesRun := by
  refine ⟨?start, ?stop, ?flush, ?doorbell, ?copy, ?fetch, ?moderation⟩
  case start =>
    refine completes_ok (body := fun _ => cmdQueueStart) (fun _ _ _ => rfl) (by decide) fun path w hw => ?_
    obtain ⟨hq, hlow, hhigh, henable, hring⟩ := hw
    have hcmd : R.QUEUE_Qn_CTRL (w.arg 12 0) ∉ cmdRegs 12 := by
      simp only [List.mem_cons, List.not_mem_nil, or_false, hdr, R.QUEUE_Qn_CTRL]; omega
    have hbody : ∃ u, cmdQueueStart w = ok u ∧ u.fld (F.QUEUE_Qn_CTRL_STATE (w.arg 12 0)) = 2 ∧
        SameRegs w u [R.QUEUE_Qn_CTRL (w.arg 12 0), R.QUEUE_STATUS] := by
      unfold cmdQueueStart
      dsimp only
      rw [if_neg (by omega), if_neg (by simp [henable, hring]; omega)]
      split
      · next h => exact ⟨w, rfl, h, SameRegs.refl w _⟩
      · obtain ⟨hstate, hregs, _⟩ := w.queueState_effect (st := 2) hq (by decide)
        exact ⟨_, rfl, hstate, hregs⟩
    obtain ⟨u, hu, hstate, hregs⟩ := hbody
    refine ⟨u, hu, by rw [finish_ok_fld _ hcmd, hstate], ?_⟩
    rw [sameRegs_finish_ok (by simp) (by simp) (by simp) (by simp)]
    exact hregs.mono (by simp)
  case stop =>
    refine completes_ok (body := fun _ => cmdQueueStop) (fun _ _ _ => rfl) (by decide) fun path w hw => ?_
    obtain ⟨hq, henable⟩ := hw
    have hcmd : R.QUEUE_Qn_CTRL (w.arg 12 0) ∉ cmdRegs 12 := by
      simp only [List.mem_cons, List.not_mem_nil, or_false, hdr, R.QUEUE_Qn_CTRL]; omega
    obtain ⟨hstate, hregs, hqueues, hstopped⟩ := w.queueState_effect (st := 1) hq (by decide)
    refine ⟨w.queueState (w.arg 12 0) 1, ?_, ?_, ?_, ?_, ?_⟩
    · unfold cmdQueueStop
      dsimp only
      rw [if_neg (by omega), if_neg (by simp [henable])]
    · rw [finish_ok_fld _ hcmd, hstate]
    · rw [finish_regN rfl rfl (by decide)]
      exact hstopped (by decide)
    · rw [show (finish 12 2 (ok (w.queueState (w.arg 12 0) 1))).queues = (w.queueState (w.arg 12 0) 1).queues from
        frame_finish_ok _ _ _ .queues rfl, hqueues]
    · rw [sameRegs_finish_ok (by simp) (by simp) (by simp) (by simp)]
      exact hregs.mono (by simp)
  case flush =>
    intro q path hq
    refine happens (f := fun w => w.setFlush path q) (fun _ _ => rfl) fun w hw => ?_
    obtain ⟨hreach, henable⟩ := hw
    have hnote := w.sameRegs_monNote path (R.QUEUE_Qn_CTRL q) 1
    have henable' : (w.monNote path (R.QUEUE_Qn_CTRL q) 1).isSet (F.QUEUE_Qn_CFG_ENABLE q) = true := by
      rw [hnote.isSet (queueReg_not_note hq (off := 0x0) (by decide)), henable]
    have hdir : (w.monNote path (R.QUEUE_Qn_CTRL q) 1).queueIs q 1 = w.queueIs q 1 := by
      unfold State.queueIs State.isSet State.fld
      rw [hnote _ (queueReg_not_note hq (off := 0x0) (by decide))]
    obtain ⟨hempty, hflush, hmeet⟩ := (w.monNote path (R.QUEUE_Qn_CTRL q) 1).flushQueue_effect hq
    have hval : w.setFlush path q = (w.monNote path (R.QUEUE_Qn_CTRL q) 1).flushQueue q := by
      unfold State.setFlush
      rw [if_neg (by omega), State.access_of_reaches hreach, if_pos henable']
    rw [hval]
    refine ⟨hempty, hflush, fun hin => ?_⟩
    rw [hmeet (hdir.trans hin), hnote _ (queueReg_not_note hq (off := 0x1c) (by decide))]
  case doorbell =>
    rintro q v path ⟨hq, hv⟩
    refine happens (f := fun w => w.doorbell path q v) (fun _ _ => rfl) fun w hw => ?_
    obtain ⟨hreach, hsize, hlow, hdir, hroom⟩ := hw
    have hnote := w.sameRegs_monNote path (R.QUEUE_Qn_DOORBELL q) (v % 2 ^ 32)
    have hreg : ∀ off, off < 0x40 → (w.monNote path (R.QUEUE_Qn_DOORBELL q) (v % 2 ^ 32)).regN (0xc01000 + off + 0x40 * q) =
        w.regN (0xc01000 + off + 0x40 * q) := fun off ho => hnote _ (queueReg_not_note hq ho)
    have hval : w.doorbell path q v = (w.monNote path (R.QUEUE_Qn_DOORBELL q) (v % 2 ^ 32)).putReg (R.QUEUE_Qn_DOORBELL q) v := by
      unfold State.doorbell
      rw [if_neg (by omega), State.access_of_reaches hreach, Nat.mod_eq_of_lt hv]
      have hsize' : (w.monNote path (R.QUEUE_Qn_DOORBELL q) (v % 2 ^ 32)).ringSize q = w.ringSize q := hreg 0x10 (by decide)
      have hdir' : (w.monNote path (R.QUEUE_Qn_DOORBELL q) (v % 2 ^ 32)).queueIs q 1 = true := by
        rw [← hdir]
        unfold State.queueIs State.isSet State.fld
        rw [hnote _ (queueReg_not_note hq (off := 0x0) (by decide))]
      have hold : (w.monNote path (R.QUEUE_Qn_DOORBELL q) (v % 2 ^ 32)).regN (R.QUEUE_Qn_DOORBELL q) = w.regN (R.QUEUE_Qn_DOORBELL q) :=
        hreg 0x1c (by decide)
      have hdev : (w.monNote path (R.QUEUE_Qn_DOORBELL q) (v % 2 ^ 32)).regN (R.QUEUE_Qn_DEVICE_PTR q) = w.regN (R.QUEUE_Qn_DEVICE_PTR q) :=
        hreg 0x20 (by decide)
      rw [Nat.mod_eq_of_lt hv] at hsize' hdir' hold hdev
      unfold State.writeDoorbell
      dsimp only
      rw [hsize', if_neg hsize, hdir', if_pos rfl, hold, hdev, if_neg (by omega)]
    rw [hval]
    refine ⟨by rw [State.regN_putReg_same, Nat.mod_eq_of_lt hv], ?_⟩
    rw [sameRegs_putReg (by simp)]
    exact hnote.mono (by simp)
  case copy =>
    intro q seq payload rest
    refine happens (f := fun w => w.d2hCopy q true) (fun _ _ => rfl) fun w hw => ?_
    obtain ⟨hon, hpackets, hfits, hroom⟩ := hw
    have hq : q < 32 := by
      unfold State.dmaOn at hon
      simp only [Bool.and_eq_true, decide_eq_true_eq] at hon
      omega
    obtain ⟨v, hv⟩ : ∃ v : State, v = ((w.emit (.dma q (w.regN (R.QUEUE_Qn_DEVICE_PTR q) % w.ringSize q) (packetBytes seq payload))).putReg
        (R.QUEUE_Qn_DEVICE_PTR q) ((w.regN (R.QUEUE_Qn_DEVICE_PTR q) + packetSize payload.length) % (2 * w.ringSize q))).emit
          (.writeBack q ((w.regN (R.QUEUE_Qn_DEVICE_PTR q) + packetSize payload.length) % (2 * w.ringSize q) + 2 ^ 32 * seq)) := ⟨_, rfl⟩
    have hval : w.d2hCopy q true = (v.putLevel q { v.queue q with packets := rest, copied := seq }).countPacket q := by
      unfold State.d2hCopy
      rw [hon, hpackets]
      dsimp only
      have hrest : (if w.ringSize q < w.regN (R.QUEUE_Qn_DEVICE_PTR q) % w.ringSize q + packetSize payload.length then
          w.ringSize q - w.regN (R.QUEUE_Qn_DEVICE_PTR q) % w.ringSize q else 0) = 0 := if_neg (by omega)
      rw [if_neg (by decide), hrest, if_neg (by omega), if_neg (by decide), if_pos rfl, hv]
      simp only [Nat.add_zero, Nat.mod_mod]
    obtain ⟨hpack, hcopied, hcount⟩ := (v.putLevel q { v.queue q with packets := rest, copied := seq }).countPacket_effect q
    rw [hval]
    refine ⟨?_, ?_, ?_, ?_⟩
    · rw [hpack, State.queue_putLevel]
    · rw [hcopied, State.queue_putLevel]
    · rw [hcount _ (by simp only [List.mem_singleton, R.HOST_PBAn, R.QUEUE_Qn_DEVICE_PTR]; omega),
        State.sameRegs_putLevel _ _ _ _ (by simp only [List.mem_cons, List.not_mem_nil, or_false, R.QUEUE_Qn_LEVEL, R.QUEUE_Qn_WM_STATUS,
          R.HOST_PBAn, R.QUEUE_Qn_DEVICE_PTR]; omega), hv, State.regN_emit, State.regN_putReg_same]
    · exact State.mem_out_countPacket (State.mem_out_putLevel (by rw [hv]; simp) q _) q
  case fetch =>
    intro q payload
    refine happens (f := fun w => w.h2dFetch q 0 payload true) (fun _ _ => rfl) fun w hw => ?_
    obtain ⟨hon, hposted, hfits, hroom⟩ := hw
    have hq : q < 32 := by
      unfold State.dmaOn at hon
      simp only [Bool.and_eq_true, decide_eq_true_eq] at hon
      omega
    have hpos : 8 ≤ packetSize payload.length := by unfold packetSize; omega
    obtain ⟨v, hv⟩ : ∃ v : State, v = (((w.putLevel q { w.queue q with packets := (w.queue q).packets ++ [(0, payload)] }).count
        (R.QUEUE_Qn_PACKETS q)).putReg (R.QUEUE_Qn_DEVICE_PTR q) ((w.regN (R.QUEUE_Qn_DEVICE_PTR q) + packetSize payload.length) %
          (2 * w.ringSize q))).emit (.writeBack q ((w.regN (R.QUEUE_Qn_DEVICE_PTR q) + packetSize payload.length) % (2 * w.ringSize q))) :=
      ⟨_, rfl⟩
    have hval : w.h2dFetch q 0 payload true = v.countPacket q := by
      unfold State.h2dFetch
      dsimp only
      rw [hon, if_neg (by decide), if_neg (by omega), if_neg (by decide), if_neg (by decide), if_neg (by decide), if_neg (by omega),
        if_neg (by omega), hv]
    obtain ⟨hpack, _, hcount⟩ := v.countPacket_effect q
    rw [hval]
    refine ⟨?_, ?_, ?_⟩
    · have hqueue : v.queue q = { w.queue q with packets := (w.queue q).packets ++ [(0, payload)] } := by
        rw [← State.queue_putLevel w q { w.queue q with packets := (w.queue q).packets ++ [(0, payload)] }, hv]
        unfold State.queue
        simp
      rw [hpack, hqueue]
    · rw [hcount _ (by simp only [List.mem_singleton, R.HOST_PBAn, R.QUEUE_Qn_PACKETS]; omega), hv, State.regN_emit,
        State.regN_putReg_other _ _ (by simp only [R.QUEUE_Qn_DEVICE_PTR, R.QUEUE_Qn_PACKETS]; omega), State.regN_count_same,
        State.sameRegs_putLevel _ _ _ _ (by simp only [List.mem_cons, List.not_mem_nil, or_false, R.QUEUE_Qn_LEVEL, R.QUEUE_Qn_WM_STATUS,
          R.HOST_PBAn, R.QUEUE_Qn_PACKETS]; omega)]
    · rw [hcount _ (by simp only [List.mem_singleton, R.HOST_PBAn, R.QUEUE_Qn_DEVICE_PTR]; omega), hv, State.regN_emit,
        State.regN_putReg_same]
  case moderation =>
    intro q m hq
    refine happens (f := fun w => w.moderationTimeout q) (fun _ _ => rfl) fun w hw => ?_
    obtain ⟨hfirst, hcounted, hdue, hmask⟩ := hw
    obtain ⟨v, hv⟩ : ∃ v : State, v = w.putQueue q { w.queue q with counted := 0, first := none } := ⟨_, rfl⟩
    have hval : w.moderationTimeout q = v.signal (32 + q) := by
      unfold State.moderationTimeout
      dsimp only
      rw [hfirst]
      dsimp only
      rw [if_neg (by omega), hv]
    have hmask' : v.isSet (F.HOST_MSIXn_CTRL_MASK (32 + q)) = true := by
      rw [hv, ← hmask]
      unfold State.putQueue
      simp
    have hword : (32 + q) / 32 = 1 := by omega
    have hbit : (32 + q) % 32 = q := by omega
    have hqueue : (v.signal (32 + q)).queue q = { w.queue q with counted := 0, first := none } := by
      rw [State.queue_congr (((Frame.signal (m := 0x810) rfl).mpr (Frame.refl _ v)) .queues rfl), hv, State.queue_putQueue]
    have hpba := State.signal_pba hmask'
    rw [hword, hbit] at hpba
    rw [hval, hqueue]
    refine ⟨rfl, rfl, hpba, ?_⟩
    rw [sameRegs_signal (by rw [hword]; simp), hv]
    exact SameRegs.of_regs (by unfold State.putQueue; simp) _

end Sys2Proof.Machine
end

section
/-!
PROOFS. Sys2Proof/Proofs/ShuttleCommands.lean: output streams enabled, configuration frames fetched and commands sent to the input streams.
-/

namespace Sys2Proof.Machine

/-- What a queue can take is written behind what it holds, and counted (R354). -/
theorem State.commit_fits {s : State} {q : Nat} {payload : List Byte} (hq : q < 256) (hdir : s.queueIs q 0 = true)
    (hfits : (s.queue q).level + packetSize payload.length ≤ s.queueSize q) :
    (s.commit q payload).2 = true ∧
      ((s.commit q payload).1.queue q).packets = (s.queue q).packets ++ [((s.queue q).seq, payload)] ∧
      (s.commit q payload).1.regN (R.QUEUE_Qn_PACKETS q) = (s.regN (R.QUEUE_Qn_PACKETS q) + 1) % 2 ^ 32 := by
  obtain ⟨x, hx⟩ : ∃ x : QueueSt, x = { s.queue q with packets := (s.queue q).packets ++ [((s.queue q).seq, payload)]
                                                       seq := ((s.queue q).seq + 1) % 2 ^ 32 } := ⟨_, rfl⟩
  have hval : s.commit q payload = (((s.putLevel q x).endBurst E.QUEUE_LOST q).count (R.QUEUE_Qn_PACKETS q), true) := by
    unfold State.commit
    dsimp only
    rw [hdir, if_neg (by decide), if_neg (by omega), hx]
  have hqueues : (((s.putLevel q x).endBurst E.QUEUE_LOST q).count (R.QUEUE_Qn_PACKETS q)).queues = (s.putLevel q x).queues := by
    have hframe : Frame 0x100008d0 (s.putLevel q x) (((s.putLevel q x).endBurst E.QUEUE_LOST q).count (R.QUEUE_Qn_PACKETS q)) := by
      simp (disch := decide) only [Frame.count, Frame.endBurst, Frame.refl]
    exact hframe .queues rfl
  have hother : R.QUEUE_Qn_PACKETS q ∉ levelRegs q := by
    simp only [List.mem_cons, List.not_mem_nil, or_false, R.QUEUE_Qn_LEVEL, R.QUEUE_Qn_WM_STATUS, R.HOST_PBAn, R.QUEUE_Qn_PACKETS]
    omega
  have hburst : SameRegs s ((s.putLevel q x).endBurst E.QUEUE_LOST q) (levelRegs q) := by
    unfold State.endBurst
    rw [sameRegs_setLedger]
    exact s.sameRegs_putLevel q x
  rw [hval]
  refine ⟨rfl, ?_, ?_⟩
  · rw [State.queue_congr hqueues, State.queue_putLevel, hx]
  · rw [State.regN_count_same, hburst _ hother]

/-- A frame for the host goes to a queue that can take it. -/
theorem State.hostCopy_fits {s : State} {q : Nat} (tag n kind : Nat) {frame : List Byte} (hq : q < 256) (hdir : s.queueIs q 0 = true)
    (hfits : (s.queue q).level + packetSize (16 + frame.length) ≤ s.queueSize q) :
    ((s.hostCopy q tag n kind frame).queue q).packets = (s.queue q).packets ++ [((s.queue q).seq,
        leBytes 8 tag ++ leBytes 1 n ++ leBytes 1 kind ++ leBytes 2 frame.length ++ leBytes 4 0 ++ frame)] ∧
      (s.hostCopy q tag n kind frame).regN (R.QUEUE_Qn_PACKETS q) = (s.regN (R.QUEUE_Qn_PACKETS q) + 1) % 2 ^ 32 := by
  obtain ⟨p, hp⟩ : ∃ p : List Byte, p = leBytes 8 tag ++ leBytes 1 n ++ leBytes 1 kind ++ leBytes 2 frame.length ++ leBytes 4 0 ++ frame :=
    ⟨_, rfl⟩
  have hlen : p.length = 16 + frame.length := by
    rw [hp]
    simp [leBytes]
    omega
  obtain ⟨htaken, hpackets, hcount⟩ := s.commit_fits (payload := p) hq hdir (by rw [hlen]; exact hfits)
  have hval : s.hostCopy q tag n kind frame = (s.commit q p).1 := by
    unfold State.hostCopy
    dsimp only
    rw [← hp, htaken, if_pos rfl]
  rw [hval, ← hp]
  exact ⟨hpackets, hcount⟩

/-! Commands to input streams (R348). -/

@[simp] theorem State.streamSt_putStream (s : State) (sid : Nat) (x : StreamSt) : (s.putStream sid x).streamSt sid = x := by
  unfold State.putStream State.streamSt
  simp

/-- A command to a stream that has had none for a second is sent, and the stream keeps its time. -/
theorem State.sendCommand_free {s : State} {sid cmd : Nat} (h : ∀ m ∈ (s.streamSt sid).cmdAt, m + 1000000000 ≤ s.bases.mono) :
    ∃ u, s.sendCommand sid cmd = some u ∧ (u.streamSt sid).cmdAt = some s.bases.mono := by
  obtain ⟨v, hv⟩ : ∃ v : State, v = s.putStream sid { s.streamSt sid with cmdAt := some s.bases.mono } := ⟨_, rfl⟩
  have hsent : ∀ u : State, Frame 0x100c18d0 v u → (u.streamSt sid).cmdAt = some s.bases.mono := fun u hu => by
    have hsame : u.streamSt sid = v.streamSt sid := by
      unfold State.streamSt
      rw [show u.heddle = v.heddle from hu .heddle rfl]
    rw [hsame, hv, State.streamSt_putStream]
  unfold State.sendCommand
  dsimp only
  rw [if_neg, ← hv]
  rotate_left
  · cases hat : (s.streamSt sid).cmdAt with
    | none => exact Bool.false_ne_true
    | some m =>
      have := h m (by rw [hat]; rfl)
      simpa using this
  split
  · split
    · exact ⟨_, rfl, hsent _ (by simp (disch := decide) only [Frame.event, Frame.commit, Frame.refl])⟩
    · exact ⟨_, rfl, hsent _ (by simp (disch := decide) only [Frame.event, Frame.sendUdp, Frame.draw, Frame.refl])⟩
  · exact ⟨_, rfl, hsent _ (by simp (disch := decide) only [Frame.event, Frame.commit, Frame.refl])⟩

@[simp] theorem State.osSt_putOs (s : State) (n : Nat) (x : OsSt) : (s.putOs n x).osSt n = x := by
  unfold State.putOs State.osSt
  simp

/-- Settles O49, command by command. -/
theorem shuttleCommandsComplete : Obligations.ShuttleCommandsComplete := by
  refine ⟨?enable, ?fetch, ?send⟩
  case enable =>
    refine completes_ok (body := fun _ => cmdShuttleStreamEnable) (fun _ _ _ => rfl) (by decide) fun path w hw => ?_
    obtain ⟨hlo, hhi, hn, hsome, hv, hflag⟩ := hw
    obtain ⟨e, he⟩ := Option.isSome_iff_exists.mp hsome
    rw [he, Option.getD_some] at hflag
    refine ⟨w.putOs (w.arg 11 0) { w.osSt (w.arg 11 0) with enabled := w.arg 11 1 == 1 }, ?_, ?_, ?_⟩
    · unfold cmdShuttleStreamEnable
      dsimp only
      rw [if_neg (by omega), if_pos hn, he]
      dsimp only
      rw [if_neg (by omega), if_neg (fun h => by simp [hflag h.1] at h)]
    · have hshuttle := frame_finish_ok 11 1 (w.putOs (w.arg 11 0) { w.osSt (w.arg 11 0) with enabled := w.arg 11 1 == 1 }) .shuttle rfl
      unfold State.osSt at *
      rw [hshuttle]
      exact State.osSt_putOs w _ _
    · rw [sameRegs_finish_ok (by simp) (by simp) (by simp) (by simp)]
      unfold State.putOs
      rw [sameRegs_setShuttle]
      exact SameRegs.refl w _
  case fetch =>
    refine completes_ok (body := fun _ => cmdCfgFetch) (fun _ _ _ => rfl) (by decide) fun path w hw => ?_
    obtain ⟨hn, hsome, hprotocol, hflag, hen, hkind, hdir, hfits⟩ := hw
    obtain ⟨e, he⟩ := Option.isSome_iff_exists.mp hsome
    rw [he, Option.getD_some] at hprotocol hflag hfits
    rw [he, Option.getD_some]
    have hq : w.fld F.SHUTTLE_QUEUES_CFG_QUEUE < 256 := Nat.lt_of_lt_of_le (bits_lt _ _ _) (by decide)
    obtain ⟨hpackets, hcount⟩ := w.hostCopy_fits 0 (w.arg 11 0) (w.arg 11 1) hq hdir hfits
    have hpacketsReg : R.QUEUE_Qn_PACKETS (w.fld F.SHUTTLE_QUEUES_CFG_QUEUE) ∉ cmdRegs 11 := by
      simp only [List.mem_cons, List.not_mem_nil, or_false, R.QUEUE_Qn_PACKETS, hdr]
      omega
    refine ⟨w.hostCopy (w.fld F.SHUTTLE_QUEUES_CFG_QUEUE) 0 (w.arg 11 0) (w.arg 11 1) (w.cfgFrame e (w.arg 11 1 == 3)), ?_, ?_, ?_⟩
    · unfold cmdCfgFetch
      dsimp only
      rw [if_pos hn, he]
      dsimp only
      rw [if_neg (by simp [hflag, hen]; omega)]
    · rw [State.queue_congr (frame_finish_ok _ _ _ .queues rfl)]
      exact hpackets
    · rw [finish_regN rfl rfl hpacketsReg]
      exact hcount
  case send =>
    refine completes_ok (body := fun _ => cmdCmdSend) (fun _ _ _ => rfl) (by decide) fun path w hw => ?_
    obtain ⟨hsid, hlo, hhi, hcls, hfree⟩ := hw
    obtain ⟨u, hu, hat⟩ := w.sendCommand_free (cmd := w.arg 11 1) hfree
    refine ⟨u, ?_, ?_⟩
    · unfold cmdCmdSend
      dsimp only
      rw [if_neg (by omega), hu]
    · have hheddle := frame_finish_ok 11 3 u .heddle rfl
      unfold State.streamSt at hat ⊢
      rw [hheddle]
      exact hat

end Sys2Proof.Machine
end

section
/-!
PROOFS. Sys2Proof/Proofs/CaptCommands.lean: regions armed, disarmed and fired, and records locked.
-/

namespace Sys2Proof.Machine

/-! The registers that CAPT writes about a region. -/

/-- The registers that show a region. -/
abbrev regionRegs (r : Nat) : List Nat := [R.CAPT_Rr_STATE r, R.CAPT_Rr_FREE r, R.CAPT_Rr_OLDEST r, R.CAPT_STATUS]

/-- The registers that a request to the other modules of the cascade writes. -/
abbrev spreadRegs : List Nat := [R.SLV_LINKn_WINDOW 0, R.SLV_LINKn_WINDOW 1, R.SLV_LINKn_WINDOW 2, R.SLV_LINKn_WINDOW 3]

theorem State.sameRegs_putCapt (s : State) (r : Nat) (x : CaptReg) : SameRegs s (s.putCapt r x) (regionRegs r) := by
  unfold State.putCapt
  dsimp only
  simp (disch := simp) only [sameRegs_putFld, sameRegs_putReg, sameRegs_setCapt, SameRegs.refl]

theorem State.sameRegs_captState (s : State) (r st : Nat) : SameRegs s (s.captState r st) (R.PAIR_MIRROR_SENT :: regionRegs r) := by
  unfold State.captState
  dsimp only
  rw [sameRegs_mirrorSend (by simp), (State.sameRegs_putCapt _ _ _).thru (by simp)]
  exact SameRegs.refl s _

/-- A region's state stands in its register. -/
theorem State.fld_putCapt_state (s : State) (r : Nat) (x : CaptReg) :
    (s.putCapt r x).fld (F.CAPT_Rr_STATE_STATE r) = x.st % 8 := by
  have hother : ∀ a, a ∈ [R.CAPT_Rr_FREE r, R.CAPT_Rr_OLDEST r, R.CAPT_STATUS] → a ≠ R.CAPT_Rr_STATE r := fun a ha => by
    simp only [List.mem_cons, List.not_mem_nil, or_false, R.CAPT_Rr_FREE, R.CAPT_Rr_OLDEST, R.CAPT_STATUS] at ha
    simp only [R.CAPT_Rr_STATE]
    omega
  have hword : (s.putCapt r x).regN (R.CAPT_Rr_STATE r) = (2 ^ 16 * x.held.length + (x.held.filter (·.locked)).length * 16 + x.st) % 2 ^ 32 := by
    unfold State.putCapt
    dsimp only
    rw [State.regN_putFld_other _ _ (hother _ (by simp)), State.regN_putFld_other _ _ (hother _ (by simp)),
      State.regN_putReg_other _ _ (hother _ (by simp)), State.regN_putReg_other _ _ (hother _ (by simp)), State.regN_putReg_same]
  unfold State.fld
  rw [hword]
  have hbits : ∀ n : Nat, bits n 2 0 = n % 8 := fun n => rfl
  rw [hbits]
  omega

theorem State.fld_captState (s : State) {r : Nat} (hr : r ≤ 15) (st : Nat) : (s.captState r st).fld (F.CAPT_Rr_STATE_STATE r) = st % 8 := by
  have hsent : ∀ (w : State) (b : List Byte), (w.mirrorSend 7 b).fld (F.CAPT_Rr_STATE_STATE r) = w.fld (F.CAPT_Rr_STATE_STATE r) := fun w b => by
    refine SameRegs.fld (l := [R.PAIR_MIRROR_SENT]) ((sameRegs_mirrorSend (by simp)).mpr (SameRegs.refl w _)) ?_
    simp only [List.mem_singleton, R.PAIR_MIRROR_SENT, R.CAPT_Rr_STATE]
    omega
  unfold State.captState
  dsimp only
  rw [hsent, State.fld_putCapt_state]

theorem State.sameRegs_spread (s : State) (c : SlvCell) (n : Option Nat) : SameRegs s (s.spread c n) spreadRegs := by
  unfold State.spread
  rw [sameRegs_foldl]
  · exact SameRegs.refl s _
  · intro w n hn
    have hlink : n < 4 := by
      unfold State.linksUp at hn
      exact List.mem_range.mp (List.mem_filter.mp (List.mem_filter.mp hn).1).1
    refine (State.sameRegs_putLink w n _).mono fun a ha => ?_
    rw [List.mem_singleton] at ha
    interval_cases n <;> simp [ha]

theorem State.sameRegs_captSend (s : State) (ty r : Nat) (body : List Byte) :
    SameRegs s (s.captSend ty r body).1 (R.CAPT_REMOTE_TX :: spreadRegs) := by
  unfold State.captSend
  split
  · dsimp only
    rw [(State.sameRegs_spread _ _ _).thru (by simp), sameRegs_setSlv, sameRegs_count (by simp), sameRegs_setCapt]
    exact SameRegs.refl s _
  · exact SameRegs.refl s _

/-- A request leaves the regions and the time. -/
theorem State.capReg_captSend (s : State) (ty r n : Nat) (body : List Byte) : (s.captSend ty r body).1.capReg n = s.capReg n := by
  unfold State.captSend State.capReg
  split
  · dsimp only
    rw [show ∀ (u : State) (c : SlvCell), (u.spread c none).capt = u.capt from fun u c =>
      ((Frame.spread (m := 0x10000010) rfl).mpr (Frame.refl _ u)) .capt rfl]
    simp
  · rfl

theorem State.capReg_congr {s u : State} (h : u.capt = s.capt) (r : Nat) : u.capReg r = s.capReg r := by
  unfold State.capReg
  rw [h]

theorem State.capReg_event (s : State) (c n : Nat) (l : List Byte) (r : Nat) : (s.event c n l).capReg r = s.capReg r :=
  State.capReg_congr ((Keeps.refl s).event c n l).capt r

theorem State.bases_putCapt (s : State) (r : Nat) (x : CaptReg) : (s.putCapt r x).bases = s.bases :=
  ((Frame.putCapt (m := 0x20000010) rfl).mpr (Frame.refl _ s)) .bases rfl

/-! Arming and disarming (R370, R381). -/

/-- A region that is not busy and has room is armed, and its register shows it. -/
theorem State.armRegion_room (s : State) {r : Nat} (cause : Nat) (hr : r ≤ 15) (he : ceEnabled (s.capEntry r) = true)
    (hst : (s.capReg r).st = 0 ∨ (s.capReg r).st = 1 ∨ (s.capReg r).st = 6) (hroom : s.mayArm r (s.capEntry r) = true) :
    (s.armRegion r cause).2 = stOk ∧ ((s.armRegion r cause).1.capReg r).st = 2 ∧ ((s.armRegion r cause).1.capReg r).since = s.bases.mono ∧
      ((s.armRegion r cause).1.capReg r).held = (s.capReg r).held ∧ (s.armRegion r cause).1.fld (F.CAPT_Rr_STATE_STATE r) = 2 := by
  obtain ⟨v, hv⟩ : ∃ v : State, v = s.putReg (R.CAPT_Rr_WORST r) (s.worstPages (s.capEntry r)) := ⟨_, rfl⟩
  have hroom' : v.mayArm r (s.capEntry r) = true := by
    rw [hv]
    exact (State.mayArm_congr (by simp) (State.regN_putReg_other _ _ (by simp only [R.CAPT_Rr_WORST, R.DRAFT_CARDS]; omega)) (by simp) _ _).trans hroom
  have hvreg : v.capReg r = s.capReg r := by rw [hv]; exact State.capReg_congr (by simp) r
  have hvnow : v.bases = s.bases := by rw [hv]; simp
  obtain ⟨x, hx⟩ : ∃ x : CaptReg, x = { v.capReg r with segs := [], off := 2048, runs := [], stored := [], last := none, lost := []
                                                        missed := none, nexts := [], disarm := false } := ⟨_, rfl⟩
  obtain ⟨a, ha⟩ : ∃ a : State, a = ((v.putCapt r x).captState r 2).event E.CAPT_ARMED r (leBytes 1 r ++ leBytes 1 cause) := ⟨_, rfl⟩
  have hreg : a.capReg r = { x with st := 2, since := s.bases.mono } := by
    rw [ha, State.capReg_event, State.captState_capReg, State.capReg_putCapt, State.bases_putCapt, hvnow]
  have hshown : a.fld (F.CAPT_Rr_STATE_STATE r) = 2 := by
    rw [ha, State.fld_event _ _ _ _ (by simp only [R.HOST_PBAn, R.CAPT_Rr_STATE]; omega)
      (by simp only [R.PAIR_MIRROR_SENT, R.CAPT_Rr_STATE]; omega), State.fld_captState _ hr]
  have hsent : ∀ b : List Byte, (a.captSend 0x20 r b).1.fld (F.CAPT_Rr_STATE_STATE r) = 2 := fun b => by
    rw [(a.sameRegs_captSend 0x20 r b).fld, hshown]
    simp only [List.mem_cons, List.not_mem_nil, or_false, R.CAPT_REMOTE_TX, R.SLV_LINKn_WINDOW, R.CAPT_Rr_STATE]
    omega
  obtain ⟨b, hb⟩ : ∃ b : List Byte, s.armRegion r cause =
      (if cause = 0 ∧ ceFlag (s.capEntry r) 5 = true then (a.captSend 0x20 r b).1 else a, stOk) := by
    refine ⟨captBody a.now (ceGroup (s.capEntry r)) 1 0xFF a.inputBytes, ?_⟩
    unfold State.armRegion
    dsimp only
    rw [he, if_neg (by decide), if_neg (by omega), if_neg (by omega), ← hv, hroom', if_neg (by decide), ha, hx, hvreg]
  obtain ⟨u, hu, hureg, hushown⟩ : ∃ u, (if cause = 0 ∧ ceFlag (s.capEntry r) 5 = true then (a.captSend 0x20 r b).1 else a) = u ∧
      u.capReg r = { x with st := 2, since := s.bases.mono } ∧ u.fld (F.CAPT_Rr_STATE_STATE r) = 2 := by
    refine ⟨_, rfl, ?_⟩
    split
    · exact ⟨(a.capReg_captSend 0x20 r r b).trans hreg, hsent b⟩
    · exact ⟨hreg, hshown⟩
  rw [hb, hu]
  dsimp only
  rw [hureg, hushown, hx, hvreg]
  exact ⟨rfl, rfl, rfl, rfl, rfl⟩

theorem State.disarmRegion_capReg (s : State) (r cause : Nat) :
    ((s.disarmRegion r cause).capReg r).st = 1 ∧ ((s.disarmRegion r cause).capReg r).held = (s.capReg r).held := by
  unfold State.disarmRegion
  dsimp only
  rw [State.capReg_event, State.captState_capReg, State.capReg_putCapt]
  exact ⟨rfl, rfl⟩

/-! Triggers (R369). -/

/-- An armed region that nothing has been written to yet begins a record when it triggers. -/
theorem State.beginRecord_first (s : State) {r : Nat} (time cause pattern origin event : Nat) (hr : r ≤ 15) (hlast : (s.capReg r).last = none) :
    ((s.beginRecord r time cause pattern origin event).capReg r).st = 3 ∧
      ((s.beginRecord r time cause pattern origin event).capReg r).seq = ((s.capReg r).seq + 1) % 2 ^ 32 ∧
      (s.beginRecord r time cause pattern origin event).pairAt (R.CAPT_Rr_TRIG_LO r) = time % 2 ^ 64 ∧
      (s.beginRecord r time cause pattern origin event).regN R.CAPT_TRIGGERS = (s.regN R.CAPT_TRIGGERS + 1) % 2 ^ 32 := by
  obtain ⟨v, x, l, hv, hx, hval⟩ : ∃ (v : State) (x : CaptReg) (l : List Byte), SameRegs s v (R.CAPT_REMOTE_TX :: spreadRegs) ∧
      x.seq = ((s.capReg r).seq + 1) % 2 ^ 32 ∧
      s.beginRecord r time cause pattern origin event =
        (((((v.putCapt r x).putPair (R.CAPT_Rr_TRIG_LO r) time).count R.CAPT_TRIGGERS).event E.CAPT_CAPT_TRIGGERED r l).raise
          I.CAPT_TRIGGERED).captState r 3 := by
    unfold State.beginRecord
    dsimp only
    rw [hlast]
    dsimp only
    refine ⟨_, _, _, ?_, ?_, rfl⟩
    · split
      · exact s.sameRegs_captSend _ _ _
      · exact SameRegs.refl s _
    · rfl
  obtain ⟨p, hp⟩ : ∃ p : State, p = (v.putCapt r x).putPair (R.CAPT_Rr_TRIG_LO r) time := ⟨_, rfl⟩
  rw [← hp] at hval
  have hregs : SameRegs (p.count R.CAPT_TRIGGERS) (s.beginRecord r time cause pattern origin event) (regionRegs r ++ eventRegs) := by
    rw [hval, (State.sameRegs_captState _ _ _).thru (by simp), sameRegs_raise (by simp), sameRegs_event (by simp) (by simp)]
    exact SameRegs.refl _ _
  have hreg : (s.beginRecord r time cause pattern origin event).capReg r =
      { x with st := 3, since := ((p.count R.CAPT_TRIGGERS).event E.CAPT_CAPT_TRIGGERED r l |>.raise I.CAPT_TRIGGERED).bases.mono } := by
    have hkept : (((p.count R.CAPT_TRIGGERS).event E.CAPT_CAPT_TRIGGERED r l).raise I.CAPT_TRIGGERED).capReg r = x := by
      refine (State.capReg_congr ?_ r).trans (State.capReg_putCapt v r x)
      have hframe : Frame 0x100008d0 (v.putCapt r x) (((p.count R.CAPT_TRIGGERS).event E.CAPT_CAPT_TRIGGERED r l).raise I.CAPT_TRIGGERED) := by
        rw [hp]
        simp (disch := decide) only [Frame.raise, Frame.event, Frame.count, Frame.putPair, Frame.refl]
      exact hframe .capt rfl
    rw [hval, State.captState_capReg, hkept]
  have hapart : ∀ a, a ∈ [R.CAPT_Rr_TRIG_LO r, R.CAPT_Rr_TRIG_LO r + 4, R.CAPT_TRIGGERS] → a ∉ regionRegs r ++ eventRegs ∧
      a ∉ R.CAPT_REMOTE_TX :: spreadRegs := fun a ha => by
    simp only [List.mem_cons, List.not_mem_nil, or_false, List.mem_append, R.CAPT_Rr_TRIG_LO, R.CAPT_TRIGGERS, R.CAPT_Rr_STATE, R.CAPT_Rr_FREE,
      R.CAPT_Rr_OLDEST, R.CAPT_STATUS, R.HOST_PBAn, R.PAIR_MIRROR_SENT, R.CAPT_REMOTE_TX, R.SLV_LINKn_WINDOW] at ha ⊢
    omega
  have htrig : R.CAPT_TRIGGERS ≠ R.CAPT_Rr_TRIG_LO r ∧ R.CAPT_TRIGGERS ≠ R.CAPT_Rr_TRIG_LO r + 4 := by
    simp only [R.CAPT_Rr_TRIG_LO, R.CAPT_TRIGGERS]
    omega
  refine ⟨by rw [hreg], by rw [hreg]; exact hx, ?_, ?_⟩
  · have hpair : p.pairAt (R.CAPT_Rr_TRIG_LO r) = time % 2 ^ 64 := by rw [hp, State.pairAt_putPair]
    unfold State.pairAt at hpair ⊢
    rw [hregs _ (hapart _ (by simp)).1, hregs _ (hapart _ (by simp)).1, State.regN_count_other _ _ htrig.1, State.regN_count_other _ _ htrig.2]
    exact hpair
  · rw [hregs _ (hapart _ (by simp)).1, State.regN_count_same, hp, State.regN_putPair_other _ _ (Ne.symm htrig.1) (Ne.symm htrig.2),
      State.sameRegs_putCapt v r x _ (by have := (hapart R.CAPT_TRIGGERS (by simp)).1; simp only [List.mem_append, not_or] at this; exact this.1),
      hv _ (hapart _ (by simp)).2]

theorem finish_ok_capReg (op : Nat) (s : State) (r : Nat) : (finish 14 op (ok s)).capReg r = s.capReg r :=
  State.capReg_congr (frame_finish_ok _ _ _ .capt rfl) r

/-- Settles O52, command by command. -/
theorem captCommandsComplete : Obligations.CaptCommandsComplete := by
  refine ⟨?arm, ?disarm, ?disarmLater, ?fire, ?trigger, ?lock, ?unlock⟩
  case arm =>
    refine completes_ok (body := fun _ => cmdArm) (fun _ _ _ => rfl) (by decide) fun path w hw => ?_
    obtain ⟨hcapt, hr, he, hst, hroom⟩ := hw
    obtain ⟨hok, hstate, hsince, hheld, hshown⟩ := w.armRegion_room 0 hr he hst hroom
    refine ⟨(w.armRegion (w.arg 14 0) 0).1, ?_, ?_, ?_, ?_, ?_⟩
    · unfold cmdArm
      dsimp only
      rw [hcapt, if_neg (by decide), he, if_neg (by simp; omega), hok]
      rfl
    · rw [finish_ok_capReg, hstate]
    · rw [finish_ok_capReg, hsince]
    · rw [finish_ok_capReg, hheld]
    · rw [finish_ok_fld _ (by simp only [List.mem_cons, List.not_mem_nil, or_false, R.CAPT_Rr_STATE, hdr]; omega), hshown]
  case disarm =>
    refine completes_ok (body := fun _ => cmdDisarm) (fun _ _ _ => rfl) (by decide) fun path w hw => ?_
    obtain ⟨hr, he, hst⟩ := hw
    obtain ⟨hstate, hheld⟩ := w.disarmRegion_capReg (w.arg 14 0) 0
    refine ⟨w.disarmRegion (w.arg 14 0) 0, ?_, ?_, ?_⟩
    · unfold cmdDisarm
      dsimp only
      rw [he, if_neg (by simp; omega), if_neg (by omega), if_pos hst]
    · rw [finish_ok_capReg, hstate]
    · rw [finish_ok_capReg, hheld]
  case disarmLater =>
    refine completes_ok (body := fun _ => cmdDisarm) (fun _ _ _ => rfl) (by decide) fun path w hw => ?_
    obtain ⟨hr, he, hlo, hhi⟩ := hw
    refine ⟨w.putCapt (w.arg 14 0) { w.capReg (w.arg 14 0) with disarm := true }, ?_, ?_⟩
    · unfold cmdDisarm
      dsimp only
      rw [he, if_neg (by simp; omega), if_pos ⟨hlo, hhi⟩]
    · rw [finish_ok_capReg, State.capReg_putCapt]
  case fire =>
    refine completes_ok (body := fun _ => cmdFire) (fun _ _ _ => rfl) (by decide) fun path w hw => ?_
    obtain ⟨hcapt, hr, he, hst, hlast⟩ := hw
    obtain ⟨hstate, hseq, htrig, hcount⟩ := w.beginRecord_first w.now 1 0xFF w.deviceId 0 hr hlast
    refine ⟨w.beginRecord (w.arg 14 0) w.now 1 0xFF w.deviceId 0, ?_, ?_, ?_, ?_, ?_⟩
    · unfold cmdFire State.triggerRegion
      dsimp only
      rw [hcapt, if_neg (by decide), he, if_neg (by simp; omega), if_neg (by omega), if_pos hst]
    · rw [finish_ok_capReg, hstate]
    · rw [finish_ok_capReg, hseq]
    · unfold State.pairAt at htrig ⊢
      rw [finish_regN rfl rfl (by simp only [List.mem_cons, List.not_mem_nil, or_false, R.CAPT_Rr_TRIG_LO, hdr]; omega),
        finish_regN rfl rfl (by simp only [List.mem_cons, List.not_mem_nil, or_false, R.CAPT_Rr_TRIG_LO, hdr]; omega)]
      exact htrig
    · rw [finish_regN rfl rfl (by decide)]
      exact hcount
  case trigger =>
    refine completes_ok (body := fun _ => cmdTrigSet) (fun _ _ _ => rfl) (by decide) fun path w hw => ?_
    obtain ⟨hcapt, hi, hkind, hold⟩ := hw
    refine ⟨w.setInputQ (w.inputQ ++ [⟨w.arg 14 0, w.arg 14 1 % 2 == 1, w.now⟩]), ?_, ?_, ?_⟩
    · unfold cmdTrigSet State.pushInput
      dsimp only
      rw [hcapt, if_neg (by decide), if_neg (by omega), hold, if_neg (by simp)]
    · refine (frame_finish_ok _ _ _ .inputQ rfl).trans ?_
      simp
    · rw [sameRegs_finish_ok (by simp) (by simp) (by simp) (by simp), sameRegs_setInputQ]
      exact SameRegs.refl w _
  case lock =>
    intro h
    refine completes_ok (body := fun _ => cmdRecordLock) (fun _ _ _ => rfl) (by decide) fun path w hw => ?_
    obtain ⟨hr, he, h3, h4, hheld, hseq⟩ := hw
    cases hlocked : h.locked with
    | true =>
      refine ⟨w, ?_, ?_⟩
      · unfold cmdRecordLock
        dsimp only
        rw [he, if_neg (by simp; omega), if_neg (by omega), hheld]
        simp [hseq, hlocked]
      · rw [finish_ok_capReg, hheld, ← hlocked]
    | false =>
      refine ⟨w.putCapt (w.arg 14 0) { w.capReg (w.arg 14 0) with held := [{ h with locked := true }] }, ?_, ?_⟩
      · unfold cmdRecordLock
        dsimp only
        rw [he, if_neg (by simp; omega), if_neg (by omega), hheld]
        simp [hseq, hlocked]
      · rw [finish_ok_capReg, State.capReg_putCapt]
  case unlock =>
    intro h
    refine completes_ok (body := fun _ => cmdRecordUnlock) (fun _ _ _ => rfl) (by decide) fun path w hw => ?_
    obtain ⟨hr, he, hheld, hseq⟩ := hw
    refine ⟨w.putCapt (w.arg 14 0) { w.capReg (w.arg 14 0) with held := [{ h with locked := false }] }, ?_, ?_⟩
    · unfold cmdRecordUnlock
      dsimp only
      rw [he, if_neg (by simp; omega), hheld]
      simp [hseq]
    · rw [finish_ok_capReg, State.capReg_putCapt]

end Sys2Proof.Machine
end

section
/-!
PROOFS. Sys2Proof/Proofs/LedgerEvents.lean: how events are staged, joined and lost, how a record is written, and how the old epoch is erased.
-/

namespace Sys2Proof.Machine

/-! The newest record of a code and source (R403). -/

/-- Is a record one of a code and a source? -/
def ofSource (code src : Nat) (r : LedRec) : Bool := r.event == code && r.source == src % 2 ^ 16

/-- A list with its first record of a code and source changed. -/
def onFirst (code src : Nat) (f : LedRec → LedRec) : List LedRec → List LedRec
  | [] => []
  | r :: l => if ofSource code src r then f r :: l else r :: onFirst code src f l

theorem onNewest_eq (l : List LedRec) (code src : Nat) (f : LedRec → LedRec) :
    onNewest l code src f = (onFirst code src f l.reverse).reverse := by
  have hfold : ∀ (m : List LedRec) (acc : List LedRec) (b : Bool), (m.foldl (fun (acc : List LedRec × Bool) r =>
      if !acc.2 && r.event == code && r.source == src % 2 ^ 16 then (f r :: acc.1, true) else (r :: acc.1, acc.2)) (acc, b)).1 =
      (if b then m else onFirst code src f m).reverse ++ acc := by
    intro m
    induction m with
    | nil => intro acc b; cases b <;> rfl
    | cons r m ih =>
      intro acc b
      rw [List.foldl_cons]
      cases b with
      | true =>
        rw [if_neg (by simp), ih]
        simp
      | false =>
        cases hr : ofSource code src r with
        | true =>
          rw [if_pos (by simpa [ofSource] using hr), ih]
          simp [onFirst, hr]
        | false =>
          rw [if_neg (by simpa [ofSource] using hr), ih]
          simp [onFirst, hr]
  unfold onNewest
  rw [hfold]
  simp

theorem newest_eq (l : List LedRec) (code src : Nat) : newest l code src = l.reverse.find? (ofSource code src) := rfl

/-- A change that keeps something of every record keeps it of the list. -/
theorem onNewest_map {α : Type} {g : LedRec → α} {f : LedRec → LedRec} (h : ∀ r, g (f r) = g r) (l : List LedRec) (code src : Nat) :
    (onNewest l code src f).map g = l.map g := by
  have hfirst : ∀ m : List LedRec, (onFirst code src f m).map g = m.map g := by
    intro m
    induction m with
    | nil => rfl
    | cons r m ih =>
      unfold onFirst
      split
      · rw [List.map_cons, List.map_cons, h]
      · rw [List.map_cons, List.map_cons, ih]
  rw [onNewest_eq, List.map_reverse, hfirst, List.map_reverse, List.reverse_reverse]

theorem newest_onNewest {f : LedRec → LedRec} {code src : Nat} (h : ∀ r, ofSource code src (f r) = ofSource code src r) (l : List LedRec) :
    newest (onNewest l code src f) code src = (newest l code src).map f := by
  have hfirst : ∀ m : List LedRec, (onFirst code src f m).find? (ofSource code src) = (m.find? (ofSource code src)).map f := by
    intro m
    induction m with
    | nil => rfl
    | cons r m ih =>
      unfold onFirst
      cases hr : ofSource code src r with
      | true => rw [if_pos rfl, List.find?_cons_of_pos hr, List.find?_cons_of_pos ((h r).trans hr), Option.map_some]
      | false => rw [if_neg Bool.false_ne_true, List.find?_cons_of_neg (by simp [hr]), List.find?_cons_of_neg (by simp [hr]), ih]
  rw [newest_eq, newest_eq, onNewest_eq, List.reverse_reverse, hfirst]

/-! Numbers of the records that wait to be written: they only come to be from the next accession number on. -/

/-- The accession numbers of the staged records. -/
def LedgerSt.staged (l : LedgerSt) : List Nat := l.staging.map (·.acc)

/-- The numbers go on; none below the next one is new in staging, or new as the LOST record's. -/
def LedgerSt.Grows (l m : LedgerSt) : Prop :=
  l.next ≤ m.next ∧ (∀ n ∈ m.staged, n ∈ l.staged ∨ l.next ≤ n) ∧ ∀ n ∈ m.lost.map (·.acc), n ∈ l.lost.map (·.acc) ∨ l.next ≤ n

theorem LedgerSt.Grows.refl (l : LedgerSt) : l.Grows l := ⟨Nat.le_refl _, fun _ => Or.inl, fun _ => Or.inl⟩

theorem LedgerSt.Grows.trans {l m k : LedgerSt} (h : l.Grows m) (g : m.Grows k) : l.Grows k := by
  obtain ⟨hnext, hstaged, hlost⟩ := h
  obtain ⟨gnext, gstaged, glost⟩ := g
  refine ⟨hnext.trans gnext, fun n hn => ?_, fun n hn => ?_⟩
  · exact (gstaged n hn).elim (hstaged n) fun h => Or.inr (hnext.trans h)
  · exact (glost n hn).elim (hlost n) fun h => Or.inr (hnext.trans h)

theorem LedgerSt.Grows.of_eq {l m : LedgerSt} (hn : m.next = l.next) (hs : m.staged = l.staged)
    (hl : m.lost.map (·.acc) = l.lost.map (·.acc)) : l.Grows m :=
  ⟨hn.ge, fun _ h => Or.inl (hs ▸ h), fun _ h => Or.inl (hl ▸ h)⟩

theorem LedgerSt.Grows.stage {l m : LedgerSt} (h : l.Grows m) {r : LedRec} (hr : r.acc = m.next) : l.Grows (m.stage r) := by
  refine h.trans ⟨Nat.le_succ _, fun n hn => ?_, fun n hn => Or.inl hn⟩
  simp only [LedgerSt.staged, LedgerSt.stage, List.map_append, List.map_cons, List.map_nil, List.mem_append, List.mem_singleton] at hn
  exact hn.imp id fun h => (h.trans hr).ge

theorem lostEvent_grows (s : State) (code : Nat) : s.ledger.Grows (lostEvent s code).ledger := by
  unfold lostEvent
  dsimp only
  split
  · rw [State.raise_ledger, State.setLedger_ledger]
    refine ⟨Nat.le_succ _, fun n hn => Or.inl hn, fun n hn => Or.inr ?_⟩
    rw [Option.map_some, Option.mem_some_iff] at hn
    exact hn.le
  · next r hlost =>
    split <;> rw [State.setLedger_ledger]
    · exact LedgerSt.Grows.of_eq rfl rfl (by rw [hlost]; rfl)
    · exact LedgerSt.Grows.of_eq rfl rfl rfl

theorem State.stageEvent_grows (s : State) {l : LedgerSt} (h : s.ledger.Grows l) (hn : l.next = s.ledger.next) (code src : Nat) (p : List Byte)
    (c : Bool) : s.ledger.Grows (s.stageEvent l code src p c).ledger := by
  unfold State.stageEvent
  split
  · have hlost := lostEvent_grows (s.setLedger l) code
    rw [State.setLedger_ledger] at hlost
    exact h.trans hlost
  · rw [State.mirrorRecord_ledger, State.setLedger_ledger]
    exact h.stage hn.symm

theorem State.event_grows (s : State) (code src : Nat) (p : List Byte) : s.ledger.Grows (s.event code src p).ledger := by
  have hjoin : ∀ f : LedRec → LedRec, (∀ r, (f r).acc = r.acc) → ∀ l : LedgerSt, l.next = s.ledger.next → l.lost = s.ledger.lost →
      l.staging = onNewest s.ledger.staging code src f → s.ledger.Grows l := fun f hf l hn hl hs => by
    refine LedgerSt.Grows.of_eq hn ?_ (by rw [hl])
    unfold LedgerSt.staged
    rw [hs, onNewest_map hf]
  unfold State.event
  split
  · exact LedgerSt.Grows.of_eq rfl rfl rfl
  · split
    · exact hjoin (repeated s) (fun _ => rfl) _ rfl rfl rfl
    · exact s.stageEvent_grows (hjoin (fun r => { r with isOpen := false }) (fun _ => rfl) (s.ledger.counted.close code src) rfl rfl rfl) rfl _ _ _ _
    · exact s.stageEvent_grows (l := s.ledger.counted) (LedgerSt.Grows.of_eq rfl rfl rfl) rfl _ _ _ _

/-! What follows the write of a record leaves its place and its bytes (R406). -/

/-- Nothing is written to the Archive, the place of the last record is the same, and the numbers go on. -/
structure KeepsPlace (s u : State) : Prop where
  archive : u.archive = s.archive
  written : u.ledger.written = s.ledger.written
  block : u.ledger.wrBlock = s.ledger.wrBlock
  rec' : u.ledger.wrRec = s.ledger.wrRec
  grows : s.ledger.Grows u.ledger

namespace KeepsPlace

theorem of_ledger {s u : State} (ha : u.archive = s.archive) (hl : u.ledger = s.ledger) : KeepsPlace s u where
  archive := ha
  written := by rw [hl]
  block := by rw [hl]
  rec' := by rw [hl]
  grows := by rw [hl]; exact LedgerSt.Grows.refl _

/-- An operation that leaves the Ledger and the Archive. -/
theorem of_frame {s u : State} (h : Frame 0xfffffffd7f s u) : KeepsPlace s u := of_ledger (h .archive rfl) (h .ledger rfl)

theorem refl (s : State) : KeepsPlace s s := of_ledger rfl rfl

theorem trans {s u v : State} (h : KeepsPlace s u) (g : KeepsPlace u v) : KeepsPlace s v where
  archive := g.archive.trans h.archive
  written := g.written.trans h.written
  block := g.block.trans h.block
  rec' := g.rec'.trans h.rec'
  grows := h.grows.trans g.grows

theorem event (s : State) (code src : Nat) (p : List Byte) : KeepsPlace s (s.event code src p) where
  archive := ((Keeps.refl s).event code src p).archive
  written := (congrArg LedgerSt.written (s.event_kept code src p) : (s.event code src p).ledger.kept.written = s.ledger.kept.written)
  block := (congrArg LedgerSt.wrBlock (s.event_kept code src p) : (s.event code src p).ledger.kept.wrBlock = s.ledger.kept.wrBlock)
  rec' := (congrArg LedgerSt.wrRec (s.event_kept code src p) : (s.event code src p).ledger.kept.wrRec = s.ledger.kept.wrRec)
  grows := s.event_grows code src p

theorem setLedger (s : State) {l : LedgerSt} (hw : l.written = s.ledger.written) (hb : l.wrBlock = s.ledger.wrBlock)
    (hr : l.wrRec = s.ledger.wrRec) (hg : s.ledger.Grows l) : KeepsPlace s (s.setLedger l) where
  archive := by simp
  written := by rw [State.setLedger_ledger, hw]
  block := by rw [State.setLedger_ledger, hb]
  rec' := by rw [State.setLedger_ledger, hr]
  grows := by rw [State.setLedger_ledger]; exact hg

theorem raise (s : State) (c : Nat × Nat) : KeepsPlace s (s.raise c) :=
  of_frame ((Frame.raise rfl).mpr (Frame.refl _ s))

theorem burst (s : State) (code src : Nat) (p : List Byte) (n : Nat) : KeepsPlace s (s.burst code src p n) := by
  unfold State.burst
  refine KeepsPlace.trans ?_ (KeepsPlace.event _ _ _ _)
  exact KeepsPlace.setLedger s rfl rfl rfl (LedgerSt.Grows.of_eq rfl rfl rfl)

theorem commit (s : State) (q : Nat) (p : List Byte) : KeepsPlace s (s.commit q p).1 := by
  unfold State.commit
  split
  · exact refl s
  · dsimp only
    split
    · refine KeepsPlace.trans (of_frame (u := s.count (R.QUEUE_Qn_LOST q)) ?_) ((burst _ _ _ _ _).trans (raise _ _))
      exact (Frame.count rfl).mpr (Frame.refl _ s)
    · obtain ⟨x, hx⟩ : ∃ x : QueueSt, x = { s.queue q with packets := (s.queue q).packets ++ [((s.queue q).seq, p)]
                                                           seq := ((s.queue q).seq + 1) % 2 ^ 32 } := ⟨_, rfl⟩
      rw [← hx]
      have hlevel : KeepsPlace s (s.putLevel q x) := of_frame ((Frame.putLevel rfl).mpr (Frame.refl _ s))
      have hburst : KeepsPlace (s.putLevel q x) ((s.putLevel q x).endBurst E.QUEUE_LOST q) :=
        KeepsPlace.setLedger _ rfl rfl rfl (LedgerSt.Grows.of_eq rfl rfl rfl)
      exact (hlevel.trans hburst).trans (of_frame ((Frame.count rfl).mpr (Frame.refl _ _)))

theorem copyRecord (s : State) (r : LedRec) : KeepsPlace s (s.copyRecord r) := by
  have hcommit := commit s (s.fld F.LEDGER_QUEUES_COPY_QUEUE) r.full
  unfold State.copyRecord
  split
  · exact refl s
  · dsimp only
    split
    · exact hcommit
    · refine hcommit.trans ?_
      exact KeepsPlace.setLedger _ rfl rfl rfl (LedgerSt.Grows.of_eq rfl rfl rfl)

theorem afterWrite (s : State) : KeepsPlace s s.afterWrite := by
  refine of_ledger ?_ s.afterWrite_marks.1
  have hframe : Frame 0x10000850 s s.afterWrite := by
    unfold State.afterWrite
    dsimp only
    simp (disch := decide) only [Frame.ite, Frame.raise, Frame.mirrorSend, Frame.refl, ite_self]
  exact hframe .archive rfl

end KeepsPlace

/-- The place of the next record keeps the numbers that wait, but for the events of what it erases. -/
theorem State.eraseBlock_grows (s : State) (b : Nat) : s.ledger.Grows (s.eraseBlock b).ledger := by
  unfold State.eraseBlock
  dsimp only
  split
  · rw [State.setLedger_ledger]
    exact LedgerSt.Grows.of_eq rfl rfl rfl
  · rw [State.raise_ledger]
    refine LedgerSt.Grows.trans ?_ (State.event_grows _ _ _ _)
    rw [State.setLedger_ledger]
    exact LedgerSt.Grows.of_eq rfl rfl rfl

theorem State.openPlace_grows (s : State) : s.ledger.Grows s.openPlace.ledger := by
  unfold State.openPlace
  dsimp only
  split
  · exact s.eraseBlock_grows _
  · split
    · exact LedgerSt.Grows.refl _
    · refine LedgerSt.Grows.trans ?_ (State.eraseBlock_grows _ _)
      rw [State.setLedger_ledger]
      exact LedgerSt.Grows.of_eq rfl rfl rfl

/-- A number that leaves staging is not there, whether it was a staged record's or not; the LOST record of another number stays. -/
theorem State.unstage_gone {s : State} {acc : Nat} (h : ∀ x ∈ s.ledger.lost, x.acc ≠ acc) :
    acc ∉ (s.unstage acc).ledger.staged ∧ (s.unstage acc).ledger.next = s.ledger.next ∧ (s.unstage acc).archive = s.archive ∧
      (s.unstage acc).ledger.written = s.ledger.written ∧ (s.unstage acc).ledger.wrBlock = s.ledger.wrBlock ∧
      (s.unstage acc).ledger.wrRec = s.ledger.wrRec := by
  unfold State.unstage
  dsimp only
  cases hlost : s.ledger.lost with
  | none =>
    refine ⟨?_, rfl, by simp, rfl, rfl, rfl⟩
    simp [LedgerSt.staged]
  | some x =>
    have hx := h x (by rw [hlost]; rfl)
    dsimp only
    rw [if_neg hx]
    refine ⟨?_, rfl, by simp, rfl, rfl, rfl⟩
    simp [LedgerSt.staged]

/-- What is stored is read back. -/
theorem memRead_memStore (d : Byte) (m : SMap Byte) (a : Nat) (l : List Byte) : memRead d (memStore d m a l) a l.length = l := by
  have hread : ∀ (n : Nat) (M : SMap Byte) (b : Nat), memRead d M b n = (List.range n).map fun i => smGet d M (b + i) := by
    intro n
    induction n with
    | zero => intros; rfl
    | succ n ih =>
      intro M b
      rw [memRead, ih, List.range_succ_eq_map, List.map_cons, List.map_map]
      congr 1
      exact List.map_congr_left fun i _ => by simp only [Function.comp_apply, Nat.succ_eq_add_one]; congr 1; omega
  rw [hread]
  apply List.ext_getElem (by simp)
  intro i hi hl
  simp only [List.getElem_map, List.getElem_range, smGet_memStore]
  rw [if_pos (by omega), List.getD_eq_getElem _ _ (by omega)]
  simp

theorem length_full (r : LedRec) : r.full.length = 64 := by
  have hle : ∀ n v, (leBytes n v).length = n := fun n => by
    induction n with
    | zero => exact fun _ => rfl
    | succ n ih => exact fun v => by rw [leBytes, List.length_cons, ih]
  have hpad : ∀ n (l : List Byte), (pad n l).length = n := fun n l => by
    unfold pad
    simp
    omega
  unfold LedRec.full LedRec.bytes
  simp [hle, hpad]

/-- The lowest closed record, written at the first try: it stands at its place, and its number waits no more (R406). -/
theorem State.recordWritten_place {s : State} {r : LedRec} (hfirst : s.ledger.first = some r) (hclosed : r.isOpen = false)
    (hprot : s.isSet F.POWER_STATUS_WRITE_PROTECT = false) (hon : s.domain pdArchive = 0) (hlost : s.ledger.lost = none)
    (hnext : r.acc < s.ledger.next) :
    (s.recordWritten 0).ledger.written = r.acc ∧ 1 ≤ (s.recordWritten 0).ledger.wrRec ∧
      memRead 0xFF (s.recordWritten 0).archive
        (ledgerAddr (s.recordWritten 0).ledger.wrBlock + 64 * ((s.recordWritten 0).ledger.wrRec - 1)) 64 = r.full ∧
      ∀ x ∈ (s.recordWritten 0).ledger.staging, x.acc ≠ r.acc := by
  obtain ⟨v, hv⟩ : ∃ v : State, v = (s.setPower { s.power with archAt := s.bases.mono }).openPlace.openPlace := ⟨_, rfl⟩
  obtain ⟨p, hp⟩ : ∃ p : State, p = (v.setArchive (memStore 0xFF v.archive (ledgerAddr v.ledger.wrBlock + 64 * v.ledger.wrRec) r.full)).setLedger
      { v.ledger with dir := smMod [] v.ledger.dir v.ledger.wrBlock (· ++ [r.acc]), wrRec := v.ledger.wrRec + 1, written := r.acc } := ⟨_, rfl⟩
  have hrun : s.recordWritten 0 = ((p.unstage r.acc).copyRecord r).afterWrite := by
    unfold State.recordWritten
    rw [hfirst]
    dsimp only
    rw [if_neg (by simp [hclosed, hprot, hon]), State.wakeArchive_of_on hon, hp, hv]
    rfl
  have hgrown : s.ledger.Grows p.ledger := by
    have hopen : s.ledger.Grows v.ledger := by
      rw [hv]
      refine LedgerSt.Grows.trans ?_ ((State.openPlace_grows _).trans (State.openPlace_grows _))
      rw [State.setPower_ledger]
      exact LedgerSt.Grows.refl _
    rw [hp, State.setLedger_ledger]
    exact hopen.trans (LedgerSt.Grows.of_eq rfl rfl rfl)
  have hother : ∀ x ∈ p.ledger.lost, x.acc ≠ r.acc := fun x hx heq => by
    have hnew := hgrown.2.2 x.acc (Option.mem_map_of_mem _ hx)
    rw [hlost] at hnew
    rcases hnew with h | h
    · cases h
    · omega
  obtain ⟨hgone, hnumber, harchive, hwritten, hblock, hrec⟩ := State.unstage_gone hother
  have hafter : KeepsPlace (p.unstage r.acc) (s.recordWritten 0) := by
    rw [hrun]
    exact (KeepsPlace.copyRecord _ r).trans (KeepsPlace.afterWrite _)
  refine ⟨?_, ?_, ?_, ?_⟩
  · rw [hafter.written, hwritten, hp]
    rfl
  · rw [hafter.rec', hrec, hp, State.setLedger_ledger]
    exact Nat.succ_le_succ (Nat.zero_le _)
  · rw [hafter.archive, harchive, hafter.block, hblock, hafter.rec', hrec, hp, State.setLedger_ledger, State.setLedger_archive,
      State.setArchive_archive]
    dsimp only
    rw [Nat.add_sub_cancel]
    exact length_full r ▸ memRead_memStore 0xFF v.archive _ r.full
  · intro x hx heq
    have hnew := hafter.grows.2.1 x.acc (List.mem_map_of_mem hx)
    rw [heq, hnumber] at hnew
    have := hgrown.1
    rcases hnew with h | h
    · exact hgone h
    · omega

/-! Events (R402 to R404). -/

/-- An event of a block, by its code. -/
theorem happens_event {code src : Nat} {p : List Byte} {c : State → Prop} {e : State → State → Prop} (hcode : code < 2 ^ 16 ∧ code % 2048 ≠ 0)
    (h : ∀ w, c w → e w (w.event code src p)) : Happens (.ledgerEvent · code src p) c e := by
  refine happens (f := fun s => if code / 2 ^ 16 = 0 ∧ code % 2048 ≠ 0 then s.event code src p else s) (fun _ _ => rfl) fun w hw => ?_
  rw [if_pos ⟨Nat.div_eq_of_lt hcode.1, hcode.2⟩]
  exact h w hw

theorem State.event_new {s : State} {code src : Nat} {p : List Byte} (hopen : s.ledger.closed = false) (hkind : joinKind s code src p = 0)
    (hroom : s.ledger.staging.length < 4095) :
    s.event code src p = (s.setLedger (s.ledger.counted.stage (newRecord s code src p false))).mirrorRecord := by
  unfold State.event
  rw [hopen, if_neg Bool.false_ne_true, hkind]
  change s.stageEvent s.ledger.counted code src p false = _
  unfold State.stageEvent
  exact if_neg (by simpa [LedgerSt.counted] using hroom)

theorem State.event_joins {s : State} {code src : Nat} {p : List Byte} (hopen : s.ledger.closed = false) (hkind : joinKind s code src p = 1) :
    s.event code src p = s.setLedger (s.ledger.counted.join code src (repeated s)) := by
  unfold State.event
  rw [hopen, if_neg Bool.false_ne_true, hkind]
  rfl

theorem State.event_full {s : State} {code src : Nat} {p : List Byte} (hopen : s.ledger.closed = false) (hkind : joinKind s code src p = 0)
    (hfull : 4095 ≤ s.ledger.staging.length) : s.event code src p = lostEvent (s.setLedger s.ledger.counted) code := by
  unfold State.event
  rw [hopen, if_neg Bool.false_ne_true, hkind]
  change s.stageEvent s.ledger.counted code src p false = _
  unfold State.stageEvent
  exact if_pos (by simpa [LedgerSt.counted] using hfull)

/-! Clearing (R412). -/

/-- The blocks of the old epoch read as erased, whatever their order. -/
theorem erased_reads {l : List (Nat × List Nat)} (s : State) {x : Nat × List Nat} (hx : x ∈ l) {a : Nat}
    (h : ledgerAddr x.1 ≤ a ∧ a < ledgerAddr x.1 + 2048) :
    smGet 0xFF (l.foldl (fun s x => s.setArchive (memClear s.archive (ledgerAddr x.1) 2048)) s).archive a = 0xFF := by
  induction l using List.reverseRecOn with
  | nil => cases hx
  | append_singleton l y ih =>
    rw [List.foldl_concat, State.setArchive_archive, smGet_memClear]
    split
    · rfl
    · next hne =>
      refine ih ((List.mem_append.mp hx).resolve_right fun hy => hne ?_)
      rw [← List.mem_singleton.mp hy]
      exact h

/-- Settles O55, event by event. -/
theorem ledgerEventsHappen : Obligations.LedgerEventsHappen := by
  refine ⟨?staged, ?fields, ?joins, ?lost, ?closes, ?written, ?saved, ?nonce, ?cleared⟩
  case staged =>
    intro code src p hcode
    refine happens_event hcode fun w hw => ?_
    obtain ⟨hopen, hkind, hroom⟩ := hw
    rw [State.event_new hopen hkind hroom, State.mirrorRecord_ledger, State.setLedger_ledger]
    refine ⟨rfl, rfl, rfl, rfl, ?_, ?_⟩
    · have hframe : Frame 0x10000890 w ((w.setLedger (w.ledger.counted.stage (newRecord w code src p false))).mirrorRecord) := by
        simp (disch := decide) only [Frame.mirrorRecord, Frame.setLedger, Frame.refl]
      exact hframe .archive rfl
    · rw [← State.event_new hopen hkind hroom, sameRegs_event (by simp) (by simp)]
      exact SameRegs.refl w _
  case fields =>
    intro code src p hcode
    refine happens_event hcode fun w hw => ?_
    obtain ⟨hopen, hkind, hroom⟩ := hw
    rw [State.event_new hopen hkind hroom, State.mirrorRecord_ledger, State.setLedger_ledger]
    refine ⟨newRecord w code src p false, ?_, rfl, rfl, rfl, rfl, rfl, rfl, rfl, rfl, rfl, ?_, fun hlocked => if_pos hlocked⟩
    · simp [LedgerSt.stage]
    · unfold newRecord
      dsimp only
      cases w.isSet F.TIME_STATUS_EVER_LOCKED <;> cases w.onTest <;> rfl
  case joins =>
    intro code src p hcode
    refine happens_event hcode fun w hw => ?_
    obtain ⟨hopen, hkind⟩ := hw
    rw [State.event_joins hopen hkind, State.setLedger_ledger]
    refine ⟨rfl, ?_, newest_onNewest (f := repeated w) (fun _ => rfl) _, rfl, ?_⟩
    · have hacc := congrArg List.length (onNewest_map (g := (·.acc)) (f := repeated w) (fun _ => rfl) w.ledger.staging code src)
      rw [List.length_map, List.length_map] at hacc
      exact hacc
    · rw [sameRegs_setLedger]
      exact SameRegs.refl w _
  case lost =>
    intro code src p hcode
    refine happens_event hcode fun w hw => ?_
    obtain ⟨hopen, hkind, hfull, hlost⟩ := hw
    have hnone : (w.setLedger w.ledger.counted).ledger.lost = none := hlost
    rw [State.event_full hopen hkind hfull]
    unfold lostEvent
    dsimp only
    rw [hnone]
    dsimp only
    rw [State.raise_ledger, State.setLedger_ledger]
    exact ⟨rfl, rfl, rfl, rfl⟩
  case closes =>
    refine happens (f := State.coalesceClose) (fun _ _ => rfl) fun w _ => ?_
    unfold State.coalesceClose
    dsimp only
    rw [State.setLedger_ledger]
    refine ⟨?_, ?_, ?_⟩
    · dsimp only
      rw [List.map_map]
      refine List.map_congr_left fun r _ => ?_
      rw [Function.comp_apply]
      split <;> rfl
    · intro r hr hopen
      obtain ⟨y, _, rfl⟩ := List.mem_map.mp hr
      split at hopen
      · cases hopen
      · next hlate =>
        rw [if_neg hlate]
        omega
    · rw [sameRegs_setLedger]
      exact SameRegs.refl w _
  case written =>
    intro r
    refine happens (f := fun w => w.recordWritten 0) (fun _ _ => rfl) fun w hw => ?_
    obtain ⟨hfirst, hclosed, hprot, hon, hlost, hnext⟩ := hw
    exact State.recordWritten_place hfirst hclosed hprot hon hlost hnext
  case saved =>
    refine happens (f := State.opSecondsSave) (fun _ _ => rfl) fun w hw => ?_
    obtain ⟨hdue, hprot, hpfw, hon⟩ := hw
    unfold State.opSecondsSave
    rw [if_neg (by simp [hprot, hpfw]; omega), State.wakeArchive_of_on hon, State.setLedger_ledger, State.setPower_ledger]
    refine ⟨rfl, ?_⟩
    rw [sameRegs_setLedger, sameRegs_setPower]
    exact SameRegs.refl w _
  case nonce =>
    intro n
    refine happens (f := State.nonceExpiry) (fun _ _ => rfl) fun w hw => ?_
    obtain ⟨hnonce, hlate⟩ := hw
    unfold State.nonceExpiry
    rw [hnonce]
    dsimp only
    rw [if_neg (by omega), State.setLedger_ledger]
    refine ⟨rfl, ?_⟩
    rw [sameRegs_setLedger]
    exact SameRegs.refl w _
  case cleared =>
    refine happens (f := State.clearDone) (fun _ _ => rfl) fun w hw => ?_
    obtain ⟨hclearing, hpfw⟩ := hw
    obtain ⟨v, hv⟩ : ∃ v : State, v = (w.ledger.dir.filter fun x => x.2.all fun a => decide (a < w.ledger.oldest)).foldl
        (fun s x => s.setArchive (memClear s.archive (ledgerAddr x.1) 2048)) w := ⟨_, rfl⟩
    have hval : w.clearDone = (v.setLedger { w.ledger with
        clearing := false
        dir := w.ledger.dir.filter fun x => !x.2.all fun a => decide (a < w.ledger.oldest) }).raise I.LEDGER_CLEARED := by
      unfold State.clearDone
      dsimp only
      rw [if_neg (by simp [hclearing, hpfw]), hv]
    have harchive : w.clearDone.archive = v.archive := by
      rw [hval, show ∀ u : State, (u.raise I.LEDGER_CLEARED).archive = u.archive from fun u =>
        (Frame.raise (m := 0x850) rfl).mpr (Frame.refl _ u) .archive rfl]
      simp
    have hledger : w.clearDone.ledger = { w.ledger with
        clearing := false
        dir := w.ledger.dir.filter fun x => !x.2.all fun a => decide (a < w.ledger.oldest) } := by
      rw [hval, State.raise_ledger, State.setLedger_ledger]
    rw [hledger, harchive]
    refine ⟨rfl, ?_, fun x hx => ?_, rfl⟩
    · rw [hval, State.irqOf_raise]
      simp
    · split
      · next hold =>
        refine ⟨fun hmem => ?_, ?_⟩
        · have := (List.mem_filter.mp hmem).2
          rw [hold] at this
          cases this
        · have hread : ∀ (n : Nat) (b : Nat), ledgerAddr x.1 ≤ b → b + n ≤ ledgerAddr x.1 + 2048 →
              memRead 0xFF v.archive b n = List.replicate n 0xFF := by
            intro n
            induction n with
            | zero => intros; rfl
            | succ n ih =>
              intro b hlo hhi
              rw [memRead, ih (b + 1) (by omega) (by omega), hv, erased_reads w (List.mem_filter.mpr ⟨hx, hold⟩) ⟨hlo, by omega⟩]
              rfl
          exact hread 2048 _ (Nat.le_refl _) (Nat.le_refl _)
      · next hnew => exact List.mem_filter.mpr ⟨hx, by simpa using hnew⟩

end Sys2Proof.Machine
end

section
/-!
PROOFS. Sys2Proof/Proofs/LedgerClear.lean: an authorised clearing.
-/

namespace Sys2Proof.Machine

/-- The response to the nonce 7 for a clearing, under the key of 32 bytes 9. -/
def clearResponse : List Byte :=
  (hmacSha256 (List.replicate 32 9) ([0x43, 0x52, 0x58, 0x4C] ++ leBytes 1 1 ++ leBytes 8 7)).take 8

/-- In M2 a clearing is authorised, and the directory names a number above the next one in the block to be written. -/
def strayNumber : State :=
  (((everyDomainOn 2).setLedger
    { key := some (List.replicate 32 9), nonce := some ⟨7, 5⟩, dir := [(0, [100])] }).putReg (hdr 24 0x44)
      (leNat (clearResponse.take 4))).putReg (hdr 24 0x48) (leNat (clearResponse.drop 4))

set_option maxRecDepth 16000 in
theorem clear_moves_oldest_past_written :
    outcomePasses (exec (.clear 900 .host) strayNumber) (fun u => u.ledger.written != u.ledger.oldest) = true := by decide

set_option maxRecDepth 16000 in
/-- Refutes O56: CLEARED goes into a freshly erased block (R414), and the oldest number passes every number the directory has in it; from
every state is meant there, also one whose directory names a number above the next one. -/
theorem not_ledgerCommandsComplete : ¬ Obligations.LedgerCommandsComplete := by
  intro h
  obtain ⟨_, _, _, hclear, _⟩ := h
  obtain ⟨u, ⟨_, _, _, _, hoff⟩, hpast⟩ :=
    (hclear strayNumber 900 .host (by decide) (by decide)).passes clear_moves_oldest_past_written
  rw [hoff] at hpast
  simp at hpast

end Sys2Proof.Machine
end

section
/-!
PROOFS. Sys2Proof/Proofs/CheckScans.lean: a scan of a domain that drains.
-/

namespace Sys2Proof.Machine

/-- The Stacks' domain drains, and engine 0 is set to scan 8 bytes of the Stacks. -/
def drainingStacks : State :=
  (((everyDomainOn 3).putFld (F.CHECK_En_CFG_SPACE 0) 1).putReg (R.CHECK_En_LENGTH_LO 0) 8).setPower
    { drain := some (pdStacks, 1, 0) }

set_option maxRecDepth 16000 in
theorem scanStart_while_draining :
    outcomePasses (exec (.scanStart 900 .host) drainingStacks) (fun u => u.regN (R.CHECK_En_STATE 0) == 0) = true := by decide

set_option maxRecDepth 16000 in
/-- Refutes O59: no transfer from a domain that drains begins (R435), so that a scan of the Stacks is refused with BUSY while they do, where
the statement asks only that they are not OFF. -/
theorem not_checkScans : ¬ Obligations.CheckScans := by
  intro h
  obtain ⟨hstart, _⟩ := h
  obtain ⟨u, ⟨_, hstate, _⟩, hidle⟩ := (hstart drainingStacks 900 .host (by decide) (by decide)).passes scanStart_while_draining
  rw [show u.regN (R.CHECK_En_STATE 0) = 1 from hstate] at hidle
  cases hidle

end Sys2Proof.Machine
end

section
/-!
PROOFS. Sys2Proof/Proofs/ClockEvents.lean: what the loss of a clock shows.
-/

namespace Sys2Proof.Machine

/-- The register that shows the pins as they read back holds another word than the levels driven. -/
def pinSenseStale : State := (everyDomainOn 3).putReg R.VOTE_PIN_SENSE 0

set_option maxRecDepth 16000 in
theorem clockLoss_shows_pins :
    outcomePasses (exec (.clockLoss 900 13 none) pinSenseStale) (fun u => u.regN R.VOTE_PIN_SENSE != 0) = true := by decide

set_option maxRecDepth 16000 in
/-- Refutes O60: the loss of a lane's clock takes the lane's gates from the output stage (R261), whose registers then show its pins again,
and the statement lists none of them; from every state is meant there, also one whose pin register holds another word. -/
theorem not_clockRuns : ¬ Obligations.ClockRuns := by
  intro h
  obtain ⟨hloss, _⟩ := h
  obtain ⟨u, ⟨_, _, hsame⟩, hshown⟩ := (hloss 13 (by decide) pinSenseStale 900 rfl trivial).passes clockLoss_shows_pins
  have hkept : u.regN R.VOTE_PIN_SENSE = 0 := by
    rw [hsame _ (by decide)]
    decide
  rw [hkept] at hshown
  cases hshown

end Sys2Proof.Machine
end

section
/-!
PROOFS. Sys2Proof/Proofs/DraftCommands.lean: a draft that is dropped or loaded, cards, patches, images and DRAFT_CTRL.
-/

namespace Sys2Proof.Machine

/-! What a decision about the mode leaves of the draft. -/

/-- The draft but for the switch that waits. -/
def DraftSt.settled (d : DraftSt) : DraftSt := { d with switch := none }

/-- The draft but for its switch, and whether one is held, are the same. -/
structure SameDraft (s u : State) : Prop where
  draft : u.draft.settled = s.draft.settled
  held : u.fld F.GLOBAL_STATUS_DRAFT_HELD = s.fld F.GLOBAL_STATUS_DRAFT_HELD

namespace SameDraft

theorem refl (s : State) : SameDraft s s := ⟨rfl, rfl⟩

theorem trans {s u v : State} (h : SameDraft s u) (k : SameDraft u v) : SameDraft s v := ⟨k.draft.trans h.draft, k.held.trans h.held⟩

/-- An operation that leaves the draft and GLOBAL_STATUS. -/
theorem of_regs {s u : State} {l : List Nat} (h : u.draft = s.draft) (k : SameRegs s u l) (hl : R.GLOBAL_STATUS ∉ l) : SameDraft s u :=
  ⟨by rw [h], k.fld hl⟩

theorem ite {c : Prop} [Decidable c] {s u v : State} (h : SameDraft s u) (k : SameDraft s v) : SameDraft s (if c then u else v) := by
  split
  · exact h
  · exact k

theorem showSwitch (s : State) : SameDraft s s.showSwitch := by
  refine ⟨by rw [show s.showSwitch.draft = s.draft from (Frame.showSwitch (m := 0x10) rfl).mpr (Frame.refl _ s) .draft rfl], ?_⟩
  unfold State.showSwitch
  split
  · dsimp only
    rw [State.fld_putFld_apart _ _ _ _ (by decide) (by decide)]
    unfold State.putPair
    rw [State.fld_putReg_other _ _ (by decide), State.fld_putReg_other _ _ (by decide), State.fld_putFld_apart _ _ _ _ (by decide) (by decide),
      State.fld_putFld_apart _ _ _ _ (by decide) (by decide)]
  · rw [State.fld_putFld_apart _ _ _ _ (by decide) (by decide), State.fld_putFld_apart _ _ _ _ (by decide) (by decide)]

theorem setSwitch (s : State) (x : Option SwitchReq) : SameDraft s (s.setDraft { s.draft with switch := x }).showSwitch :=
  SameDraft.trans ⟨by rw [State.setDraft_draft]; rfl, State.fld_setDraft _ _⟩ (showSwitch _)

theorem decideMode (s : State) (t : Nat) : SameDraft s (s.decideMode t) := by
  unfold State.decideMode
  dsimp only
  split
  · exact ite (setSwitch s _) (setSwitch s _)
  · exact ite (refl s) (setSwitch s _)

theorem followConditions (s : State) : SameDraft s s.followConditions := by
  unfold State.followConditions
  dsimp only
  exact ite (ite (refl s) (decideMode s _)) (refl s)

theorem condition (s : State) (i : Nat) (v : Bool) : SameDraft s (s.condition i v) := by
  unfold State.condition
  dsimp only
  refine ite (refl s) (SameDraft.trans ?_ (followConditions _))
  exact of_regs (l := [R.DRAFT_MODE_COND]) (by simp) ((sameRegs_putReg (by simp)).mpr (SameRegs.refl s _)) (by decide)

/-- What the start of holding does before it follows the conditions. -/
theorem adopts (s : State) (instant : Nat) (p : List Byte) (mirror : Bool) :
    SameDraft s (((((((s.adoptLedger).putPair R.PAIR_TAKEOVER_LO instant).count R.PAIR_TAKEOVERS).event E.PAIR_TAKEOVER noSource p).adoptEnergy.adoptGoose).resumeStreams
      mirror instant).raise I.PAIR_TAKEOVER) := by
  refine of_regs (l := [R.PAIR_TAKEOVER_LO, R.PAIR_TAKEOVER_LO + 4, R.PAIR_TAKEOVERS, R.PAIR_STREAM_GAPS] ++ eventRegs) ?_ ?_ (by decide)
  · have hframe : Frame 0x2500148d0 s (((((((s.adoptLedger).putPair R.PAIR_TAKEOVER_LO instant).count R.PAIR_TAKEOVERS).event E.PAIR_TAKEOVER
        noSource p).adoptEnergy.adoptGoose).resumeStreams mirror instant).raise I.PAIR_TAKEOVER) := by
      simp (disch := decide) only [Frame.raise, Frame.resumeStreams, Frame.adoptGoose, Frame.adoptEnergy, Frame.event, Frame.count, Frame.putPair,
        Frame.adoptLedger, Frame.refl]
    exact hframe .draft rfl
  · unfold State.adoptGoose State.adoptLedger
    dsimp only
    rw [sameRegs_raise (by simp), (State.sameRegs_resumeStreams _ _ _).thru (by simp), sameRegs_setVote, (State.sameRegs_adoptEnergy _).thru (by simp),
      sameRegs_event (by simp) (by simp), sameRegs_count (by simp), sameRegs_putPair (by simp) (by simp), sameRegs_setPair, sameRegs_setLedger]
    exact SameRegs.refl s _

theorem takeover (s : State) : SameDraft s s.takeover := by
  unfold State.takeover
  refine ite (refl s) ?_
  exact (adopts s _ _ _).trans (condition _ _ _)

theorem released (s : State) : SameDraft s s.released := by
  have hnoted : ∀ p : List Byte, SameDraft s (((s.count R.PAIR_RELEASES).event E.PAIR_RELEASED noSource p).raise I.PAIR_RELEASED) := fun p =>
    of_regs (l := R.PAIR_RELEASES :: eventRegs) (by simp)
      (by rw [sameRegs_raise (by simp), sameRegs_event (by simp) (by simp), sameRegs_count (by simp)]; exact SameRegs.refl s _) (by decide)
  unfold State.released
  dsimp only
  exact ite (refl s) (ite ((hnoted _).trans (condition _ _ _)) (hnoted _))

theorem updatePins (s : State) : SameDraft s s.updatePins := by
  refine ⟨by rw [show s.updatePins.draft = s.draft from (Frame.updatePins (m := 0x200004810) rfl).mpr (Frame.refl _ s) .draft rfl], ?_⟩
  unfold State.fld
  rw [State.regN_updatePins _ (by decide) (by decide)]

theorem updateHolding (s : State) : SameDraft s s.updateHolding := by
  obtain ⟨starts, ends, heq⟩ := s.updateHolding_eq
  have hshown : SameDraft s s.shownHolding := by
    refine of_regs ?_ s.sameRegs_shownHolding (by decide)
    unfold State.shownHolding
    simp
  rw [heq]
  refine SameDraft.trans ?_ (updatePins _)
  exact ite (hshown.trans (takeover _)) (ite (hshown.trans (released _)) hshown)

end SameDraft

/-! What the domains leave of the draft. -/

/-- What a change of the servo tells the conditions (R63). -/
def State.servoTold (s : State) (v : Nat) : State :=
  let entering := (v == svHoldover || v == svSuspect)
  let s := if v = svLocked then s.raise I.TIME_LOCKED else if entering then s.raise I.TIME_LOST else s
  if entering || (v == svFreerun && decide (3 ≤ s.mode)) then s.condition 2 true else if v = svLocked then s.condition 2 false else s

theorem State.servoSignals_eq (s : State) (v : Nat) : ∃ (c : Prop) (_ : Decidable c),
    s.servoSignals v = if c then s.servoTold v else (s.servoTold v).updatePins := ⟨_, _, rfl⟩

theorem State.servoTold_settled (s : State) (v : Nat) : (s.servoTold v).draft.settled = s.draft.settled := by
  obtain ⟨w, hw, hraised⟩ : ∃ w : State, (if v = svLocked then s.raise I.TIME_LOCKED else if (v == svHoldover || v == svSuspect) then
      s.raise I.TIME_LOST else s) = w ∧ w.draft.settled = s.draft.settled := by
    refine ⟨_, rfl, ?_⟩
    split
    · simp
    · split <;> simp
  unfold State.servoTold
  dsimp only
  rw [hw]
  split
  · exact (SameDraft.condition w _ _).draft.trans hraised
  · split
    · exact (SameDraft.condition w _ _).draft.trans hraised
    · exact hraised

theorem State.setServo_settled (s : State) (v : Nat) : (s.setServo v).draft.settled = s.draft.settled := by
  have hsignals : ∀ w : State, (w.servoSignals v).draft.settled = w.draft.settled := fun w => by
    obtain ⟨c, inst, heq⟩ := w.servoSignals_eq v
    rw [heq]
    split
    · exact w.servoTold_settled v
    · exact (SameDraft.updatePins _).draft.trans (w.servoTold_settled v)
  unfold State.setServo
  dsimp only
  split
  · rfl
  · rw [hsignals]
    have hframe : ∀ p : List Byte, Frame 0x100038d0 s ((if v = svLocked then ((((s.servoSpan v).setTime (s.servoTime v)).draw).putFld
        F.TIME_STATUS_SERVO v).putFld F.TIME_STATUS_EVER_LOCKED 1 else (((s.servoSpan v).setTime (s.servoTime v)).draw).putFld
        F.TIME_STATUS_SERVO v).event E.TIME_SERVO_STATE noSource p) := fun p => by
      simp (disch := decide) only [Frame.event, Frame.ite, Frame.putFld, Frame.draw, Frame.setTime, Frame.servoSpan, Frame.refl, ite_self]
    exact congrArg DraftSt.settled (hframe _ .draft rfl)

theorem State.timeReturns_settled (s : State) : s.timeReturns.draft.settled = s.draft.settled := by
  unfold State.timeReturns
  split
  · dsimp only
    rw [State.setTime_draft, State.setServo_settled]
    simp
  · dsimp only
    rw [State.setServo_settled]
    simp

/-- A domain's state has changed: what TIME, the lanes and the stage do with it. -/
def State.domainShown (s : State) (d v : Nat) : State :=
  let s := if d = pdTime ∧ v = 0 then s.timeReturns else s
  if pdLaneA ≤ d ∧ d ≤ pdLaneC then
    (if v = 0 then (if s.laneState (d - 12) = 3 then s.putFld (laneFld (d - 12)) 0 else s)
     else (if s.laneState (d - 12) = 2 then s else s.putFld (laneFld (d - 12)) 3)).updateHolding
  else if d = pdAna then s.updatePins
  else s

theorem State.domainShown_settled (s : State) (d v : Nat) : (s.domainShown d v).draft.settled = s.draft.settled := by
  obtain ⟨w, hw, hreturned⟩ : ∃ w : State, (if d = pdTime ∧ v = 0 then s.timeReturns else s) = w ∧ w.draft.settled = s.draft.settled := by
    refine ⟨_, rfl, ?_⟩
    split
    · exact s.timeReturns_settled
    · rfl
  unfold State.domainShown
  dsimp only
  rw [hw]
  split
  · refine (SameDraft.updateHolding _).draft.trans ?_
    split
    · split
      · rw [State.putFld_draft]; exact hreturned
      · exact hreturned
    · split
      · exact hreturned
      · rw [State.putFld_draft]; exact hreturned
  · split
    · exact (SameDraft.updatePins w).draft.trans hreturned
    · exact hreturned

/-- A domain's state changes, after what leaves with it has left. -/
def State.domainLeft (s : State) (d v : Nat) : State :=
  let was := s.domain d
  let s := if d = pdTime ∧ was = 0 then s.timeLeaves else s
  let s := if d = pdSlv ∧ was = 0 then s.linksLost else s
  let s := if d = pdNetA ∧ was = 0 then s.portsLost 0 else if d = pdNetB ∧ was = 0 then s.portsLost 4 else s
  let s := if d = pdLoom ∧ was = 0 then
    s.setLoom { s.loom with lats := s.loom.lats.map (fun x => (x.1, { x.2 with paused := true })) } else s
  let s := if d = pdStacks ∧ v = 2 then s.setStk [] else s
  s.putDomain d v

theorem State.setDomain_eq (s : State) (d v : Nat) : s.setDomain d v = if s.domain d = v then s else (s.domainLeft d v).domainShown d v := rfl

theorem State.domainLeft_draft (s : State) (d v : Nat) : (s.domainLeft d v).draft = s.draft := by
  have hframe : Frame 0xfffffffeff s (s.domainLeft d v) := by
    unfold State.domainLeft
    dsimp only
    simp (disch := decide) only [Frame.putDomain, Frame.ite, Frame.setStk, Frame.setLoom, Frame.portsLost, Frame.linksLost, Frame.timeLeaves,
      Frame.refl, ite_self]
  exact hframe .draft rfl

/-- A change of a domain's state leaves the draft, but for the switch that waits. -/
theorem State.setDomain_settled (s : State) (d v : Nat) : (s.setDomain d v).draft.settled = s.draft.settled := by
  rw [State.setDomain_eq]
  split
  · rfl
  · rw [State.domainShown_settled, State.domainLeft_draft]

theorem State.powerDown_settled (s : State) (keep : List Nat) : (s.powerDown keep).draft.settled = s.draft.settled := by
  have hfold : ∀ (l : List Nat) (w : State), (l.foldl (fun s d =>
      if keep.contains d || s.domain d == 3 then s else (s.setDomain d 2).domainEvent d (s.domain d) 2 3) w).draft.settled = w.draft.settled := by
    intro l
    induction l with
    | nil => exact fun _ => rfl
    | cons d l ih =>
      intro w
      rw [List.foldl_cons, ih]
      split
      · rfl
      · have hevent : ∀ u : State, (u.domainEvent d (w.domain d) 2 3).draft = u.draft := fun u =>
          (Frame.domainEvent (m := 0x100008d0) rfl).mpr (Frame.refl _ u) .draft rfl
        rw [hevent, State.setDomain_settled]
  exact hfold _ s

/-! A draft that is dropped (R52). -/

/-- The registers a draft shows that are cleared when it is dropped. -/
abbrev draftShown : List Nat :=
  [R.DRAFT_CARDS, R.DRAFT_BIND0, R.DRAFT_BIND1, R.DRAFT_ID_LO, R.DRAFT_ID_HI, R.DRAFT_GENERATION, R.DRAFT_DOMAINS, R.DRAFT_MODE_COND]

/-- The state in which a dropped draft's registers have been cleared and its status is. -/
def State.draftCleared (s : State) : State :=
  let s := draftShown.foldl (fun s r => s.putReg r 0) s
  let s := ((s.putFld F.DRAFT_STATUS_SOURCE 0).putFld F.DRAFT_STATUS_SIGNED 0).putFld F.DRAFT_STATUS_IMAGE 0
  let s := (s.putFld F.DRAFT_STATUS_LOAD_STATE 0).putFld F.GLOBAL_STATUS_DRAFT_HELD 0
  s.putFld F.DRAFT_SWITCH_STATUS_PATCH_PENDING 0

theorem State.draftCleared_effect (s : State) :
    s.draftCleared.draft = s.draft ∧ (∀ r ∈ draftShown, s.draftCleared.regN r = 0) ∧ s.draftCleared.fld F.DRAFT_STATUS_LOAD_STATE = 0 ∧
      s.draftCleared.fld F.GLOBAL_STATUS_DRAFT_HELD = 0 := by
  obtain ⟨v, hv⟩ : ∃ v : State, v = draftShown.foldl (fun s r => s.putReg r 0) s := ⟨_, rfl⟩
  have hval : s.draftCleared = ((((((v.putFld F.DRAFT_STATUS_SOURCE 0).putFld F.DRAFT_STATUS_SIGNED 0).putFld F.DRAFT_STATUS_IMAGE 0).putFld
      F.DRAFT_STATUS_LOAD_STATE 0).putFld F.GLOBAL_STATUS_DRAFT_HELD 0).putFld F.DRAFT_SWITCH_STATUS_PATCH_PENDING 0) := by
    rw [hv]
    rfl
  rw [hval]
  refine ⟨?_, fun r hr => ?_, ?_, ?_⟩
  · rw [hv]
    simp [draftShown]
  · have hzero : v.regN r = 0 := by
      rw [hv]
      exact regN_zeroed (f := fun r => r) s hr
    have hapart : r ≠ R.DRAFT_STATUS ∧ r ≠ R.GLOBAL_STATUS ∧ r ≠ R.DRAFT_SWITCH_STATUS := by
      clear hzero
      revert r
      decide
    obtain ⟨h1, h2, h3⟩ := hapart
    rw [State.regN_putFld_other _ _ (Ne.symm h3), State.regN_putFld_other _ _ (Ne.symm h2), State.regN_putFld_other _ _ (Ne.symm h1),
      State.regN_putFld_other _ _ (Ne.symm h1), State.regN_putFld_other _ _ (Ne.symm h1), State.regN_putFld_other _ _ (Ne.symm h1), hzero]
  · rw [State.fld_putFld_apart _ _ _ _ (by decide) (by decide), State.fld_putFld_apart _ _ _ _ (by decide) (by decide),
      State.fld_putFld_same _ _ _ (by decide)]
    rfl
  · rw [State.fld_putFld_apart _ _ _ _ (by decide) (by decide), State.fld_putFld_same _ _ _ (by decide)]
    rfl

theorem State.dropDraft_eq (s : State) : ∃ w : State, w.draft.settled =
      ({ imageWrite := (s.powerDown []).draft.imageWrite, lastSwitch := (s.powerDown []).draft.lastSwitch
         modeNs := (s.powerDown []).draft.modeNs } : DraftSt).settled ∧
    s.dropDraft = w.draftCleared.showSwitch.updateHolding := by
  refine ⟨[2, 3, 4, 5, 6, 7, 8, 9, 10, 11, 12, 13, 14].foldl (fun s d => if s.domain d = 3 then s.putDomain d 2 else s)
    ((s.powerDown []).setDraft { imageWrite := (s.powerDown []).draft.imageWrite, lastSwitch := (s.powerDown []).draft.lastSwitch
                                 modeNs := (s.powerDown []).draft.modeNs }), ?_, rfl⟩
  have hfold : ∀ (l : List Nat) (w : State), (l.foldl (fun s d => if s.domain d = 3 then s.putDomain d 2 else s) w).draft = w.draft := by
    intro l
    induction l with
    | nil => exact fun _ => rfl
    | cons d l ih =>
      intro w
      rw [List.foldl_cons, ih]
      split
      · exact (Frame.putDomain (m := 0x10) rfl).mpr (Frame.refl _ w) .draft rfl
      · rfl
  rw [hfold, State.setDraft_draft]

/-- A dropped draft leaves no draft, no cards, no load and no identity; an image write goes on. -/
theorem State.dropDraft_effect (s : State) :
    s.dropDraft.draft.base = none ∧ s.dropDraft.draft.cards = [] ∧ s.dropDraft.draft.imageWrite = s.draft.imageWrite ∧ s.dropDraft.draftId = 0 ∧
      s.dropDraft.fld F.DRAFT_STATUS_LOAD_STATE = 0 ∧ s.dropDraft.fld F.GLOBAL_STATUS_DRAFT_HELD = 0 := by
  obtain ⟨w, hw, hval⟩ := s.dropDraft_eq
  obtain ⟨hdraft, hregs, hload, hheld⟩ := w.draftCleared_effect
  have hsame : SameDraft w.draftCleared s.dropDraft := by
    rw [hval]
    exact (SameDraft.showSwitch _).trans (SameDraft.updateHolding _)
  have hsettled : s.dropDraft.draft.settled = ({ imageWrite := (s.powerDown []).draft.imageWrite, lastSwitch := (s.powerDown []).draft.lastSwitch
                                                 modeNs := (s.powerDown []).draft.modeNs } : DraftSt).settled := by
    rw [hsame.draft, hdraft, hw]
  have hreg : ∀ r, r ∈ [R.DRAFT_ID_LO, R.DRAFT_ID_LO + 4, R.DRAFT_STATUS] → s.dropDraft.regN r = w.draftCleared.regN r := fun r hr => by
    rw [hval, State.regN_updateHolding _ (by revert r; decide) (by revert r; decide), State.sameRegs_showSwitch _ _ (by revert r; decide)]
  refine ⟨(congrArg DraftSt.base hsettled :), (congrArg DraftSt.cards hsettled :), ?_, ?_, ?_, ?_⟩
  · refine (congrArg DraftSt.imageWrite hsettled : _).trans ?_
    exact (congrArg DraftSt.imageWrite (s.powerDown_settled []) :)
  · unfold State.draftId State.pairAt
    rw [hreg _ (by simp), hreg _ (by simp), hregs _ (by simp), hregs _ (by decide)]
    rfl
  · unfold State.fld at hload ⊢
    rw [hreg _ (by simp)]
    exact hload
  · rw [hsame.held, hheld]

/-! Modes (R53). -/

/-- Entering a mode shows it, and leaves the draft but for the time spent in the modes. -/
theorem State.enterMode_effect (s : State) {m : Nat} (hm : m < 16) :
    (s.enterMode m).mode = m ∧ (∃ ns, (s.enterMode m).draft = { s.draft with modeNs := ns }) ∧
      (s.enterMode m).fld F.GLOBAL_STATUS_DRAFT_HELD = s.fld F.GLOBAL_STATUS_DRAFT_HELD ∧
      SameRegs s (s.enterMode m) [R.GLOBAL_MODE, R.GLOBAL_STATUS, R.GLOBAL_MODE_SINCE_LO, R.GLOBAL_MODE_SINCE_LO + 4, R.GLOBAL_MODE_CHANGES,
        R.HOST_PBAn 0] := by
  obtain ⟨ns, v, hval⟩ : ∃ (ns : SMap Nat) (v : Nat), s.enterMode m = ((((((s.setDraft { s.draft with modeNs := ns }).putReg R.GLOBAL_MODE
      (s.mode * 16 + m)).putFld F.GLOBAL_STATUS_MODE m).putFld F.GLOBAL_STATUS_SAFE (if m = 11 then 1 else 0)).putPair R.GLOBAL_MODE_SINCE_LO
      v).count R.GLOBAL_MODE_CHANGES).raise I.GLOBAL_MODE_CHANGE := ⟨_, _, rfl⟩
  rw [hval]
  refine ⟨?_, ⟨ns, by simp⟩, ?_, ?_⟩
  · have hmode : s.mode < 16 := bits_lt _ 3 0
    unfold State.mode State.fld
    rw [State.regN_raise _ _ (by decide), State.regN_count_other _ _ (by decide), State.regN_putPair_other _ _ (by decide) (by decide),
      State.regN_putFld_other _ _ (by decide), State.regN_putFld_other _ _ (by decide), State.regN_putReg_same]
    have hbits : ∀ n : Nat, bits n 3 0 = n % 16 := fun n => rfl
    rw [hbits]
    unfold State.mode at hmode
    unfold State.fld at hmode
    omega
  · rw [State.fld_raise _ _ (by decide)]
    unfold State.count State.putPair
    rw [State.fld_putReg_other _ _ (by decide), State.fld_putReg_other _ _ (by decide), State.fld_putReg_other _ _ (by decide), State.fld_putFld_apart _ _ _ _ (by decide) (by decide),
      State.fld_putFld_apart _ _ _ _ (by decide) (by decide), State.fld_putReg_other _ _ (by decide), State.fld_setDraft]
  · rw [sameRegs_raise (by simp), sameRegs_count (by simp), sameRegs_putPair (by simp) (by simp), sameRegs_putFld (by simp),
      sameRegs_putFld (by simp), sameRegs_putReg (by simp), sameRegs_setDraft]
    exact SameRegs.refl s _

/-- What goes before a draft is dropped leaves it. -/
theorem State.stopped_draft (s : State) : s.endPinTest.stopAll.draft = s.draft := by
  have hframe : Frame 0x200004810 s s.endPinTest.stopAll := by simp (disch := decide) only [Frame.stopAll, Frame.endPinTest, Frame.refl]
  exact hframe .draft rfl

/-- A load begins: nothing is held, and its request waits (R55). -/
theorem State.beginLoad_effect (s : State) (l : LoadReq) :
    (s.beginLoad l).mode = 1 ∧ (s.beginLoad l).draft.load = some l ∧ (s.beginLoad l).draft.base = none ∧ (s.beginLoad l).draft.cards = [] ∧
      (s.beginLoad l).fld F.DRAFT_STATUS_LOAD_STATE = 1 ∧ (s.beginLoad l).draftId = 0 ∧ (s.beginLoad l).fld F.GLOBAL_STATUS_DRAFT_HELD = 0 := by
  obtain ⟨v, hv⟩ : ∃ v : State, v = s.endPinTest.stopAll.dropDraft := ⟨_, rfl⟩
  obtain ⟨hbase, hcards, himage, hid, hload, hheld⟩ := s.endPinTest.stopAll.dropDraft_effect
  rw [← hv] at hbase hcards hid hheld
  obtain ⟨w, hw⟩ : ∃ w : State, w = (v.setDraft { v.draft with load := some l }).putFld F.DRAFT_STATUS_LOAD_STATE 1 := ⟨_, rfl⟩
  have hval : s.beginLoad l = w.enterMode 1 := by rw [hw, hv]; rfl
  obtain ⟨hmode, ⟨ns, hdraft⟩, hsameHeld, hregs⟩ := w.enterMode_effect (m := 1) (by decide)
  rw [hval]
  refine ⟨hmode, ?_, ?_, ?_, ?_, ?_, ?_⟩
  · rw [hdraft, hw]
    simp
  · rw [hdraft, hw]
    simpa using hbase
  · rw [hdraft, hw]
    simpa using hcards
  · rw [hregs.fld (by decide), hw, State.fld_putFld_same _ _ _ (by decide)]
    rfl
  · unfold State.draftId State.pairAt at hid ⊢
    rw [hregs _ (by decide), hregs _ (by decide), hw, State.regN_putFld_other _ _ (by decide), State.regN_putFld_other _ _ (by decide),
      State.regN_setDraft, State.regN_setDraft]
    exact hid
  · rw [hsameHeld, hw, State.fld_putFld_apart _ _ _ _ (by decide) (by decide), State.fld_setDraft, hheld]

theorem finish_ok_draft (op : Nat) (s : State) : (finish 1 op (ok s)).draft = s.draft := frame_finish_ok _ _ _ .draft rfl

theorem finish_ok_mode (op : Nat) (s : State) : (finish 1 op (ok s)).mode = s.mode := finish_ok_fld s (by decide)

theorem finish_ok_draftId (op : Nat) (s : State) : (finish 1 op (ok s)).draftId = s.draftId := by
  unfold State.draftId State.pairAt
  rw [finish_regN rfl rfl (by decide), finish_regN rfl rfl (by decide)]
  rfl

/-! Cards (R55). -/

/-- The bits of a number that is made of them. -/
theorem bitsOf_testBit (n : Nat) (f : Nat → Bool) (i : Nat) : (bitsOf n f).testBit i = (decide (i < n) && f i) := by
  have hlt : ∀ m, bitsOf m f < 2 ^ m := by
    intro m
    induction m with
    | zero => exact Nat.one_pos
    | succ m ih =>
      unfold bitsOf at ih ⊢
      rw [List.range_succ, List.foldl_concat, Nat.pow_succ]
      split <;> omega
  induction n with
  | zero => simp [bitsOf]
  | succ n ih =>
    have hstep : bitsOf (n + 1) f = if f n then bitsOf n f + 2 ^ n else bitsOf n f := by
      unfold bitsOf
      rw [List.range_succ, List.foldl_concat]
    rw [hstep]
    rcases Nat.lt_trichotomy i n with h | h | h
    · have hold : (bitsOf n f + 2 ^ n).testBit i = (bitsOf n f).testBit i := by
        rw [Nat.add_comm, Nat.testBit_two_pow_add_gt h]
      split
      · rw [hold, ih]
        simp [h, Nat.lt_succ_of_lt h]
      · rw [ih]
        simp [h, Nat.lt_succ_of_lt h]
    · subst h
      have hnew : (bitsOf i f + 2 ^ i).testBit i = true := by
        rw [Nat.add_comm, Nat.testBit_two_pow_add_eq, Nat.testBit_lt_two_pow (hlt i)]
        rfl
      split
      · next hf => rw [hnew]; simp [hf]
      · next hf => rw [Nat.testBit_lt_two_pow (hlt i)]; simp [hf]
    · have hout : ∀ x, x < 2 ^ (n + 1) → x.testBit i = false := fun x hx =>
        Nat.testBit_lt_two_pow (Nat.lt_of_lt_of_le hx (Nat.pow_le_pow_right (by omega) h))
      have hbound := hlt (n + 1)
      rw [hstep] at hbound
      rw [hout _ hbound]
      simp
      omega

/-- What shows the cards writes three registers, and shows which slots are held. -/
theorem State.showCards_effect (s : State) :
    s.showCards.draft = s.draft ∧ SameRegs s s.showCards [R.DRAFT_CARDS, R.DRAFT_BIND0, R.DRAFT_BIND1] ∧
      ∀ n < 16, bit (s.showCards.fld F.DRAFT_CARDS_HELD) n = (smFind s.draft.cards n).isSome := by
  obtain ⟨a, b, hval⟩ : ∃ a b : Nat, s.showCards = ((s.putReg R.DRAFT_BIND0 a).putReg R.DRAFT_BIND1 b).putFld F.DRAFT_CARDS_HELD
      (bitsOf 16 fun n => (smFind s.draft.cards n).isSome) := by
    unfold State.showCards
    dsimp only
    rw [State.putReg_draft, State.putReg_draft]
    exact ⟨_, _, rfl⟩
  rw [hval]
  refine ⟨by simp, ?_, fun n hn => ?_⟩
  · rw [sameRegs_putFld (by simp), sameRegs_putReg (by simp), sameRegs_putReg (by simp)]
    exact SameRegs.refl s _
  · rw [State.fld_putFld_same _ _ _ (by decide)]
    unfold bit
    rw [Nat.testBit_mod_two_pow, bitsOf_testBit]
    simp [hn]

/-! Images (R64). -/

/-- The state of one image is written without the other's. -/
theorem State.imageState_putImage (s : State) {n v : Nat} (hn : n ≤ 1) (hv : v < 4) :
    (s.putImage n v).imageState n = v ∧ (s.putImage n v).imageState (1 - n) = s.imageState (1 - n) := by
  have hword : (s.putImage n v).regN R.DRAFT_IMAGES = withBits (s.regN R.DRAFT_IMAGES) (2 * n + 1) (2 * n) v := by
    unfold State.putImage
    rw [State.regN_putReg_same, Nat.mod_eq_of_lt (withBits_lt _ _ _ _ _ (regN_lt s _) (by omega))]
  unfold State.imageState
  rw [hword]
  constructor
  · rw [bits_withBits_same, show 2 * n + 1 + 1 - 2 * n = 2 by omega]
    exact Nat.mod_eq_of_lt hv
  · exact bits_withBits_apart _ _ _ _ _ _ (by omega)

/-- Settles O23, command by command. -/
theorem draftCommandsComplete : Obligations.DraftCommandsComplete := by
  refine ⟨?load, ?unload, ?card, ?drop, ?patch, ?cancel, ?write, ?erase, ?lock, ?signed⟩
  case load =>
    refine completes_ok (body := cmdLoad) (fun _ _ _ => rfl) (by decide) fun path w hw => ?_
    obtain ⟨hsource, hmode, hboot, hpfw⟩ := hw
    obtain ⟨hm, hload, hbase, hcards, hstate, hid, hheld⟩ := w.beginLoad_effect (w.loadReq .draft)
    refine ⟨w.beginLoad (w.loadReq .draft), ?_, ?_, ?_, ?_, ?_, ?_, ?_, ?_⟩
    · unfold cmdLoad
      rw [if_neg (by omega), if_neg (by omega), hpfw, if_neg Bool.false_ne_true]
    · rw [finish_ok_mode, hm]
    · rw [finish_ok_draft, hload]
    · rw [finish_ok_draft, hbase]
    · rw [finish_ok_fld _ (by decide), hstate]
    · rw [finish_ok_draftId, hid]
    · rw [finish_ok_draft, hcards]
    · rw [finish_ok_isSet _ (by decide)]
      unfold State.isSet
      rw [hheld]
      rfl
  case unload =>
    refine completes_ok (body := fun _ => cmdUnload) (fun _ _ _ => rfl) (by decide) fun path w hw => ?_
    obtain ⟨hbase, hcards, himage, hid, hload, _⟩ := w.endPinTest.stopAll.dropDraft_effect
    obtain ⟨v, hv⟩ : ∃ v : State, v = w.endPinTest.stopAll.dropDraft := ⟨_, rfl⟩
    rw [← hv] at hbase hcards himage hid hload
    obtain ⟨hmode, ⟨ns, hdraft⟩, _, hregs⟩ := v.enterMode_effect (m := 0) (by decide)
    refine ⟨v.enterMode 0, ?_, ?_, ?_, ?_, ?_, ?_, ?_⟩
    · unfold cmdUnload
      rw [if_neg (by omega), hv]
    · rw [finish_ok_mode, hmode]
    · rw [finish_ok_draft, hdraft, hbase]
    · rw [finish_ok_draft, hdraft, hcards]
    · rw [finish_ok_fld _ (by decide), hregs.fld (by decide), hload]
    · rw [finish_ok_draftId]
      unfold State.draftId State.pairAt at hid ⊢
      rw [hregs _ (by decide), hregs _ (by decide)]
      exact hid
    · rw [finish_ok_draft, hdraft, himage, State.stopped_draft]
  case card =>
    refine completes_ok (body := fun _ => cmdLoadCard) (fun _ _ _ => rfl) (by decide) fun path w hw => ?_
    obtain ⟨hsource, hlo, hhi, hlock, hpfw, hfree⟩ := hw
    refine ⟨w.setDraft { w.draft with load := some (w.loadReq .card) }, ?_, ?_, ?_⟩
    · unfold cmdLoadCard State.cmdObject
      rw [if_neg (by omega), if_neg (by simp [hlock]; omega), if_neg (by simp [hpfw, hfree])]
    · rw [finish_ok_draft, State.setDraft_draft]
    · rw [sameRegs_finish_ok (by simp) (by simp) (by simp) (by simp), sameRegs_setDraft]
      exact SameRegs.refl w _
  case drop =>
    refine completes_ok (body := fun _ => cmdDropCard) (fun _ _ _ => rfl) (by decide) fun path w hw => ?_
    obtain ⟨hn, hlo, hhi, hlock, hforce, hpending⟩ := hw
    obtain ⟨v, hv⟩ : ∃ v : State, v = w.setDraft { w.draft with cards := smDel w.draft.cards (w.arg 1 0)
                                                                recent := w.draft.recent.filter fun m => m != w.arg 1 0 } := ⟨_, rfl⟩
    obtain ⟨hdraft, hregs, hheld⟩ := v.showCards_effect
    have hcards : v.draft.cards = smDel w.draft.cards (w.arg 1 0) := by rw [hv, State.setDraft_draft]
    refine ⟨v.showCards, ?_, ?_, ?_, fun n _ hne => ?_, ?_, ?_⟩
    · unfold cmdDropCard
      dsimp only
      rw [if_neg (by omega), if_neg (by simp [hlock, hforce, hpending]), hv]
    · rw [finish_ok_draft, hdraft, hcards, smFind_smDel_same]
    · rw [finish_ok_fld _ (by decide), hheld _ (by omega), hcards, smFind_smDel_same]
      rfl
    · rw [finish_ok_draft, hdraft, hcards, smFind_smDel, if_neg (Ne.symm hne)]
    · rw [finish_ok_draft, hdraft, hv, State.setDraft_draft]
    · rw [sameRegs_finish_ok (by simp) (by simp) (by simp) (by simp), hregs.thru (by simp), hv, sameRegs_setDraft]
      exact SameRegs.refl w _
  case patch =>
    refine completes_ok (body := fun _ => cmdPatch) (fun _ _ _ => rfl) (by decide) fun path w hw => ?_
    obtain ⟨hsource, hlo, hhi, hlock, hpfw, hfree, hnone⟩ := hw
    refine ⟨w.setDraft { w.draft with load := some (w.loadReq .patch) }, ?_, ?_, ?_⟩
    · unfold cmdPatch State.cmdObject
      rw [if_neg (by omega), if_neg (by simp [hlock]; omega), if_neg (by simp [hpfw, hfree, hnone])]
    · rw [finish_ok_draft, State.setDraft_draft]
    · rw [sameRegs_finish_ok (by simp) (by simp) (by simp) (by simp), sameRegs_setDraft]
      exact SameRegs.refl w _
  case cancel =>
    intro o tag
    refine completes_ok (body := fun _ => cmdCancelPatch) (fun _ _ _ => rfl) (by decide) fun path w hw => ?_
    obtain ⟨hpatch, hbefore⟩ := hw
    obtain ⟨v, hv⟩ : ∃ v : State, v = (w.setDraft { w.draft with patch := none }).putFld F.DRAFT_SWITCH_STATUS_PATCH_PENDING 0 := ⟨_, rfl⟩
    refine ⟨(v.event E.DRAFT_PATCH_DROPPED noSource (leBytes 8 tag)).raise I.DRAFT_PATCH_DROPPED, ?_, ?_, ?_, ?_, ?_⟩
    · unfold cmdCancelPatch
      rw [hpatch]
      dsimp only
      rw [if_neg (by omega), hv]
    · rw [finish_ok_draft, hv]
      simp
    · rw [finish_ok_isSet _ (by decide)]
      unfold State.isSet
      rw [State.fld_raise _ _ (by decide), State.fld_event _ _ _ _ (by decide) (by decide), hv, State.fld_putFld_same _ _ _ (by decide)]
      rfl
    · unfold State.irqOf
      rw [show (finish 1 6 (ok ((v.event E.DRAFT_PATCH_DROPPED noSource (leBytes 8 tag)).raise I.DRAFT_PATCH_DROPPED))).irq =
        ((v.event E.DRAFT_PATCH_DROPPED noSource (leBytes 8 tag)).raise I.DRAFT_PATCH_DROPPED).irq from frame_finish_ok _ _ _ .irq rfl]
      change ((State.raise _ (1, _)).irqOf 1).status.getLsbD _ = true
      rw [State.irqOf_raise]
      simp
    · rw [sameRegs_finish_ok (by simp) (by simp) (by simp) (by simp), sameRegs_raise (by simp), sameRegs_event (by simp) (by simp), hv,
        sameRegs_putFld (by simp), sameRegs_setDraft]
      exact SameRegs.refl w _
  case write =>
    refine completes_ok (body := fun _ => cmdImageWrite) (fun _ _ _ => rfl) (by decide) fun path w hw => ?_
    obtain ⟨hn, hlo, hhi, hpfw, hidle, hother, hload, hon⟩ := hw
    obtain ⟨v, hv⟩ : ∃ v : State, v = w.wakeArchive := ⟨_, rfl⟩
    rw [State.wakeArchive_of_on hon] at hv
    obtain ⟨hown, hkept⟩ := v.imageState_putImage (v := 3) hn (by decide)
    have hregs : ∀ a, v.regN a = w.regN a := fun a => by rw [hv, State.regN_setPower]
    have hstate : ∀ (u : State) (x : DraftSt) (i : Nat), (finish 1 7 (ok (u.setDraft x))).imageState i = u.imageState i := fun u x i => by
      unfold State.imageState
      rw [finish_regN rfl rfl (by decide)]
      exact congrArg (fun a => bits a _ _) (State.regN_setDraft _ _)
    refine ⟨(v.putImage (w.arg 1 0) 3).setDraft
      { v.draft with imageWrite := some (w.arg 1 0, w.arg 1 3, w.arg 1 1 + 2 ^ 32 * w.arg 1 2) }, ?_, ?_, ?_, ?_, ?_, ?_⟩
    · unfold cmdImageWrite
      dsimp only
      have hdraft : v.draft = w.draft := by rw [hv, State.setPower_draft]
      rw [if_neg (by omega), hload, if_neg (by simp [hpfw, hidle]; exact hother), State.wakeArchive_of_on hon, ← hv, hdraft, hload]
    · rw [hstate, hown]
    · rw [hstate, hkept]
      unfold State.imageState
      rw [hregs]
    · rw [finish_ok_draft, State.setDraft_draft, hv, State.setPower_draft]
    · refine (frame_finish_ok _ _ _ .archive rfl).trans ?_
      rw [hv]
      simp [State.putImage]
    · rw [sameRegs_finish_ok (by simp) (by simp) (by simp) (by simp), sameRegs_setDraft]
      unfold State.putImage
      rw [sameRegs_putReg (by simp), hv, sameRegs_setPower]
      exact SameRegs.refl w _
  case erase =>
    refine completes_ok (body := fun _ => cmdImageErase) (fun _ _ _ => rfl) (by decide) fun path w hw => ?_
    obtain ⟨hn, hmode, hon⟩ := hw
    obtain ⟨v, hv⟩ : ∃ v : State, v = w.wakeArchive := ⟨_, rfl⟩
    rw [State.wakeArchive_of_on hon] at hv
    have hregs : ∀ a, v.regN a = w.regN a := fun a => by rw [hv, State.regN_setPower]
    obtain ⟨hown, hkept⟩ := v.imageState_putImage (v := 0) hn (by decide)
    obtain ⟨x, hx⟩ : ∃ x : State, x = (v.putImage (w.arg 1 0) 0).setArchive (memClear v.archive (2 ^ 25 * w.arg 1 0) (2 ^ 25)) := ⟨_, rfl⟩
    obtain ⟨u, hu, hureg, huarch⟩ : ∃ u : State, (match x.draft.imageWrite with
        | some i => if i.1 = w.arg 1 0 then x.setDraft { x.draft with imageWrite := none } else x
        | none => x) = u ∧ u.regs = x.regs ∧ u.archive = x.archive := by
      refine ⟨_, rfl, ?_⟩
      split
      · split
        · exact ⟨State.setDraft_regs _ _, State.setDraft_archive _ _⟩
        · exact ⟨rfl, rfl⟩
      · exact ⟨rfl, rfl⟩
    have hstate : ∀ i, (finish 1 8 (ok (u.raise I.DRAFT_IMAGE_DONE))).imageState i = (v.putImage (w.arg 1 0) 0).imageState i := fun i => by
      unfold State.imageState
      rw [finish_regN rfl rfl (by decide)]
      change bits ((u.raise I.DRAFT_IMAGE_DONE).regN R.DRAFT_IMAGES) _ _ = _
      rw [State.regN_raise _ _ (by decide), regN_congr hureg, hx, State.regN_setArchive]
    refine ⟨u.raise I.DRAFT_IMAGE_DONE, ?_, ?_, ?_, ?_, fun a => ?_, ?_⟩
    · have harchive : (v.putImage (w.arg 1 0) 0).archive = v.archive := by simp [State.putImage]
      unfold cmdImageErase
      dsimp only
      rw [if_neg (by omega), if_neg hmode, State.wakeArchive_of_on hon, ← hv, harchive, ← hx, ← hu] <;> rfl
    · rw [hstate, hown]
    · rw [hstate, hkept]
      unfold State.imageState
      rw [hregs]
    · unfold State.irqOf
      rw [show (finish 1 8 (ok (u.raise I.DRAFT_IMAGE_DONE))).irq = (u.raise I.DRAFT_IMAGE_DONE).irq from frame_finish_ok _ _ _ .irq rfl]
      change ((State.raise u (1, _)).irqOf 1).status.getLsbD _ = true
      rw [State.irqOf_raise]
      simp
    · have harchive : (finish 1 8 (ok (u.raise I.DRAFT_IMAGE_DONE))).archive = memClear w.archive (2 ^ 25 * w.arg 1 0) (2 ^ 25) := by
        refine (frame_finish_ok _ _ _ .archive rfl).trans ?_
        rw [show (u.raise I.DRAFT_IMAGE_DONE).archive = u.archive from (Frame.raise (m := 0x850) rfl).mpr (Frame.refl _ u) .archive rfl, huarch, hx,
          State.setArchive_archive, hv, State.setPower_archive]
      rw [harchive, smGet_memClear]
      rfl
    · rw [sameRegs_finish_ok (by simp) (by simp) (by simp) (by simp), sameRegs_raise (by simp)]
      refine SameRegs.trans (u := x) ?_ (SameRegs.of_regs hureg _)
      rw [hx, sameRegs_setArchive]
      unfold State.putImage
      rw [sameRegs_putReg (by simp), hv, sameRegs_setPower]
      exact SameRegs.refl w _
  case lock =>
    intro path
    refine happens (f := fun s => s.setOnce path F.DRAFT_CTRL_CARD_LOCK) (fun _ _ => rfl) fun w hw => ?_
    have hnote := w.sameRegs_monNote path R.DRAFT_CTRL (2 ^ 1)
    have hval : w.setOnce path F.DRAFT_CTRL_CARD_LOCK = (w.monNote path R.DRAFT_CTRL (2 ^ 1)).putFld F.DRAFT_CTRL_CARD_LOCK 1 :=
      State.access_of_reaches hw _ _ _
    rw [hval]
    refine ⟨?_, ?_, ?_⟩
    · unfold State.isSet
      rw [State.fld_putFld_same _ _ _ (by decide)]
      rfl
    · unfold State.isSet
      rw [State.fld_putFld_apart _ _ _ _ (by decide) (by decide), hnote.fld (by decide)]
    · rw [sameRegs_putFld (by simp)]
      exact hnote.mono (by simp)
  case signed =>
    intro path
    refine happens (f := fun s => s.setOnce path F.DRAFT_CTRL_REQUIRE_SIGNED) (fun _ _ => rfl) fun w hw => ?_
    have hnote := w.sameRegs_monNote path R.DRAFT_CTRL (2 ^ 0)
    have hval : w.setOnce path F.DRAFT_CTRL_REQUIRE_SIGNED = (w.monNote path R.DRAFT_CTRL (2 ^ 0)).putFld F.DRAFT_CTRL_REQUIRE_SIGNED 1 :=
      State.access_of_reaches hw _ _ _
    rw [hval]
    refine ⟨?_, ?_, ?_⟩
    · unfold State.isSet
      rw [State.fld_putFld_same _ _ _ (by decide)]
      rfl
    · unfold State.isSet
      rw [State.fld_putFld_apart _ _ _ _ (by decide) (by decide), hnote.fld (by decide)]
    · rw [sameRegs_putFld (by simp)]
      exact hnote.mono (by simp)

end Sys2Proof.Machine
end

section
/-!
PROOFS. Sys2Proof/Proofs/TimeCommands.lean: TIME's commands: bases, paths, UTC and pulses.
-/

namespace Sys2Proof.Machine

/-! The servo acquires again (R75, R83). -/

/-- The servo acquires again: no condition and no interrupt cause comes with it. -/
theorem State.servoSignals_acquire (s : State) : s.servoSignals svAcquire = s := by
  unfold State.servoSignals
  simp [svAcquire, svHoldover, svSuspect, svFreerun, svLocked]

theorem State.setServo_acquire {s : State} (h : s.servo ≠ svAcquire) :
    (s.setServo svAcquire).servo = svAcquire ∧ (s.setServo svAcquire).time.delays = s.time.delays ∧
      SameRegs s (s.setServo svAcquire) (R.TIME_STATUS :: eventRegs) := by
  obtain ⟨v, hv⟩ : ∃ v : State, v = (((s.servoSpan svAcquire).setTime (s.servoTime svAcquire)).draw).putFld F.TIME_STATUS_SERVO svAcquire := ⟨_, rfl⟩
  have hspan : s.servoSpan svAcquire = s := rfl
  have hval : ∃ p, s.setServo svAcquire = v.event E.TIME_SERVO_STATE noSource p := by
    refine ⟨leBytes 1 s.servo ++ leBytes 1 svAcquire ++ leBytes 4 s.errorBound, ?_⟩
    unfold State.setServo
    dsimp only
    rw [if_neg h, State.servoSignals_acquire, ← hv]
    rfl
  have hdelays : (s.servoTime svAcquire).delays = s.time.delays := by
    unfold State.servoTime
    split <;> simp [svAcquire, svHoldover, svSuspect, svFreerun, svLocked]
  obtain ⟨p, hp⟩ := hval
  have htime : (v.event E.TIME_SERVO_STATE noSource p).time = v.time :=
    (Frame.event (m := 0x100008d0) rfl).mpr (Frame.refl _ v) .time rfl
  rw [hp]
  refine ⟨?_, ?_, ?_⟩
  · unfold State.servo
    rw [State.fld_event _ _ _ _ (by decide) (by decide), hv, State.fld_putFld_same _ _ _ (by decide)]
    rfl
  · rw [htime, hv]
    simpa using hdelays
  · rw [sameRegs_event (by simp) (by simp), hv, sameRegs_putFld (by simp), hspan]
    exact SameRegs.of_regs (by simp) _

/-! The leap second and the pulse outputs (R84, R87). -/

theorem satSigned32_lt (i : Int) : satSigned32 i < 2 ^ 32 := by
  unfold satSigned32 unsigned
  omega

theorem bits_one_of_bit {v i : Nat} (h : bit v i = true) : bits v i i = 1 := by
  unfold bit at h
  rw [Nat.testBit_eq_decide_div_mod_eq, decide_eq_true_eq] at h
  unfold bits
  rw [Nat.shiftRight_eq_div_pow, Nat.add_sub_cancel_left, Nat.pow_one, h]

theorem bits_zero_of_bit {v i : Nat} (h : ¬ bit v i = true) : bits v i i = 0 := by
  unfold bit at h
  rw [Nat.testBit_eq_decide_div_mod_eq, decide_eq_true_eq] at h
  unfold bits
  rw [Nat.shiftRight_eq_div_pow, Nat.add_sub_cancel_left, Nat.pow_one]
  omega

/-- A step of GRID leaves the other bases. -/
theorem State.stepGrid_bases (s : State) (goal : Nat) : (s.stepGrid goal).bases = { s.bases with grid := goal } := by
  obtain ⟨v, hv⟩ : ∃ v : State, v = s.setBases { s.bases with grid := goal } := ⟨_, rfl⟩
  have hframe : Frame 0x180028d0 v (s.stepGrid goal) := by
    unfold State.stepGrid
    dsimp only
    rw [← hv]
    simp (disch := decide) only [Frame.skipPulses, Frame.event, Frame.stepLattices, Frame.setTime, Frame.ite, Frame.refl, ite_self]
  rw [hframe .bases rfl, hv, State.setBases_bases]

/-- A leap second announced leaves the rest of TIME_UTC. -/
theorem State.announceLeap_effect {s : State} {source dir : Nat} :
    (s.announceLeap source dir).fld F.TIME_UTC_PENDING = 1 ∧
      ∀ f : Fld, f.addr = R.TIME_UTC → f.hi < 17 ∨ 18 < f.lo → (s.announceLeap source dir).fld f = s.fld f := by
  unfold State.announceLeap
  split
  next h =>
    refine ⟨?_, fun f _ _ => rfl⟩
    have hset : s.isSet F.TIME_UTC_PENDING = true := by simp_all
    have hlt : s.fld F.TIME_UTC_PENDING < 2 := bits_lt _ _ _
    have hne : s.fld F.TIME_UTC_PENDING ≠ 0 := by simpa [State.isSet] using hset
    omega
  next =>
    dsimp only
    refine ⟨?_, fun f hf hapart => ?_⟩
    · rw [State.fld_raise _ _ (by decide), State.fld_event _ _ _ _ (by decide) (by decide), State.fld_setTime,
        State.fld_putFld_apart _ _ _ _ (by decide) (by decide), State.fld_putFld_same _ _ _ (by decide)]
      rfl
    · rw [State.fld_raise _ _ (by rw [hf]; decide), State.fld_event _ _ _ _ (by rw [hf]; decide) (by rw [hf]; decide), State.fld_setTime,
        State.fld_putFld_apart _ _ _ _ (by decide) (by dsimp only; omega), State.fld_putFld_apart _ _ _ _ (by decide) (by dsimp only; omega)]

/-- A pulse takes its settings, and its ARMED bit follows. -/
theorem State.pulsePut_effect (s : State) {n : Nat} {p : PulseSt} (h : p.armed = true) :
    (s.pulsePut n p).isSet (F.TIME_PULSEn_CTRL_ARMED n) = true ∧ smFind (s.pulsePut n p).time.pulses n = some p ∧
      SameRegs s (s.pulsePut n p) [R.TIME_PULSEn_CTRL n] := by
  unfold State.pulsePut
  refine ⟨?_, ?_, ?_⟩
  · unfold State.isSet
    rw [State.fld_putFld_same _ _ _ (Nat.lt_succ_self 31), h]
    rfl
  · simp
  · dsimp only
    rw [sameRegs_putFld (by simp), sameRegs_setTime]
    exact SameRegs.refl s _

/-- Settles O25, command by command. -/
theorem timeCommandsComplete : Obligations.TimeCommandsComplete := by
  refine ⟨?grid, ?test, ?accept, ?clear, ?utc, ?arm, ?disarm⟩
  case grid =>
    refine completes_ok (body := fun _ => cmdSetGrid) (fun _ _ _ => rfl) (by decide) fun path w hw => ?_
    refine ⟨(w.stepGrid (w.arg64 3)).setTime { (w.stepGrid (w.arg64 3)).time with within := 0 }, ?_, ?_⟩
    · unfold cmdSetGrid
      dsimp only
      rw [if_pos]
      rcases hw with h | ⟨hm, he, hs⟩
      · exact .inl h
      · exact .inr ⟨by rcases hs with h | h <;> simp [he, h], by omega⟩
    · have hbases : (w.stepGrid (w.arg64 3)).bases = { w.bases with grid := w.arg64 3 } := State.stepGrid_bases w _
      rw [frame_finish_ok _ _ _ .bases rfl, State.setTime_bases, hbases]
  case test =>
    refine completes_ok (body := fun _ => cmdSetTest) (fun _ _ _ => rfl) (by decide) fun path w hw => ?_
    obtain ⟨v, hv⟩ : ∃ v : State, v = w.setBases { w.bases with test := w.arg64 3, testFrac := 0 } := ⟨_, rfl⟩
    obtain ⟨u, hu⟩ : ∃ u : State, u = if v.onTest then v.stepLattices (w.arg64 3 - w.bases.test) else v := ⟨_, rfl⟩
    refine ⟨if w.bases.test < w.arg64 3 then u.skipPulses true (w.arg64 3) else u, ?_, ?_⟩
    · unfold cmdSetTest
      dsimp only
      rw [if_neg (by simp [hw]), hu, hv]
    · have hframe : Frame 0x180028d0 v (if w.bases.test < w.arg64 3 then u.skipPulses true (w.arg64 3) else u) := by
        rw [hu]
        simp (disch := decide) only [Frame.skipPulses, Frame.stepLattices, Frame.ite, Frame.refl, ite_self]
      rw [frame_finish_ok _ _ _ .bases rfl, hframe .bases rfl, hv, State.setBases_bases]
  case accept =>
    refine completes_ok (body := fun _ => cmdPathAccept) (fun _ _ _ => rfl) (by decide) fun path w hw => ?_
    obtain ⟨hservo, harg⟩ := hw
    obtain ⟨c, hc⟩ : ∃ c, c = satSigned32 (signed 32 (w.regN R.TIME_ASYM_COMP) +
      if w.arg 3 0 = 1 then signed 32 (w.regN R.TIME_PATH_OFFSET) else 0) := ⟨_, rfl⟩
    obtain ⟨v, hv⟩ : ∃ v : State, v = (w.putReg R.TIME_ASYM_COMP c).setTime
      { (w.putReg R.TIME_ASYM_COMP c).time with delays := [], withheld := [] } := ⟨_, rfl⟩
    obtain ⟨u, hu⟩ : ∃ u : State, u = v.event E.TIME_PATH_CLEARED noSource (leBytes 1 (if w.arg 3 0 = 1 then 1 else 2) ++
      leBytes 4 (v.regN R.TIME_ASYM_COMP)) := ⟨_, rfl⟩
    have hregs : SameRegs v u eventRegs := by
      rw [hu, sameRegs_event (by simp) (by simp)]
      exact SameRegs.refl v _
    have hpast : u.servo ≠ svAcquire := by
      unfold State.servo
      rw [hregs.fld (by decide), hv, State.fld_setTime, State.fld_putReg_other _ _ (by decide)]
      unfold State.servo at hservo
      rw [hservo]
      decide
    obtain ⟨hacquire, hdelays, hkept⟩ := State.setServo_acquire hpast
    have htime : u.time = v.time := by
      rw [hu]
      exact (Frame.event (m := 0x100008d0) rfl).mpr (Frame.refl _ v) .time rfl
    refine ⟨u.setServo svAcquire, ?_, ?_, ?_, ?_⟩
    · unfold cmdPathAccept
      dsimp only
      rw [if_neg (fun h => by rw [hservo] at h; exact absurd h.1 (by decide)), if_neg (by simp [hservo]), if_neg (by omega), hu, hv, hc]
    · unfold State.servo at hacquire ⊢
      rw [finish_ok_fld _ (by decide), hacquire]
    · rw [frame_finish_ok _ _ _ .time rfl, hdelays, htime, hv]
      simp
    · rw [finish_regN rfl rfl (by decide)]
      rw [show (ok (u.setServo svAcquire)).state = u.setServo svAcquire from rfl, hkept _ (by decide), hregs _ (by decide), hv, State.regN_setTime,
        State.regN_putReg_same, hc, Nat.mod_eq_of_lt (satSigned32_lt _)]
  case clear =>
    refine completes_ok (body := fun _ => cmdClearAsym) (fun _ _ _ => rfl) (by decide) fun path w hw => ?_
    refine ⟨w.putReg R.TIME_ASYM_COMP 0, ?_, ?_, ?_⟩
    · unfold cmdClearAsym
      rw [if_pos hw]
    · rw [finish_regN rfl rfl (by decide)]
      exact State.regN_putReg_same _ _ _
    · rw [sameRegs_finish_ok (by simp) (by simp) (by simp) (by simp), sameRegs_putReg (by simp)]
      exact SameRegs.refl w _
  case utc =>
    refine completes_ok (body := fun _ => cmdSetUtc) (fun _ _ _ => rfl) (by decide) fun path w hw => ?_
    obtain ⟨v, hv⟩ : ∃ v : State, v = ((w.putFld F.TIME_UTC_TAI_UTC (w.arg 3 0 % 65536)).putFld F.TIME_UTC_SOURCE 3).putFld F.TIME_UTC_VALID 1 :=
      ⟨_, rfl⟩
    have hfree : (List.range 11).any (fun c => (decide (1 ≤ c ∧ c ≤ 8) || c == 10) && w.qualified c) = false := by
      rw [List.any_eq_false]
      intro c hc
      have hlt := List.mem_range.mp hc
      by_cases hkind : (1 ≤ c ∧ c ≤ 8) ∨ c = 10
      · have := hw c (by simp only [List.mem_cons, List.not_mem_nil, or_false]; omega)
        simp [this]
      · simp only [Bool.and_eq_true, Bool.or_eq_true, decide_eq_true_eq, beq_iff_eq]
        exact fun h => hkind h.1
    obtain ⟨hutc, hsource, hvalid⟩ : v.fld F.TIME_UTC_TAI_UTC = w.arg 3 0 % 65536 ∧ v.fld F.TIME_UTC_SOURCE = 3 ∧ v.fld F.TIME_UTC_VALID = 1 := by
      rw [hv]
      refine ⟨?_, ?_, ?_⟩
      · rw [State.fld_putFld_apart _ _ _ _ (by decide) (by decide), State.fld_putFld_apart _ _ _ _ (by decide) (by decide),
          State.fld_putFld_same _ _ _ (by decide)]
        exact Nat.mod_eq_of_lt (Nat.lt_of_lt_of_le (Nat.mod_lt _ (by decide)) (by decide))
      · rw [State.fld_putFld_apart _ _ _ _ (by decide) (by decide), State.fld_putFld_same _ _ _ (by decide)]
        rfl
      · rw [State.fld_putFld_same _ _ _ (by decide)]
        rfl
    by_cases hflag : bit (w.arg 3 1) 0 = true
    case pos =>
      obtain ⟨hpending, hkept⟩ := State.announceLeap_effect (s := v) (source := 0) (dir := bits (w.arg 3 1) 1 1)
      refine ⟨v.announceLeap 0 (bits (w.arg 3 1) 1 1), ?_, ?_, ?_, ?_, ?_⟩
      · unfold cmdSetUtc
        dsimp only
        rw [hfree, if_neg (by decide), if_pos hflag, ← hv]
      · rw [finish_ok_fld _ (by decide), hkept _ rfl (by decide), hutc]
      · rw [finish_ok_fld _ (by decide), hkept _ rfl (by decide), hsource]
      · rw [finish_ok_fld _ (by decide), hkept _ rfl (by decide), hvalid]
      · rw [finish_ok_fld _ (by decide), hpending]
        exact (bits_one_of_bit hflag).symm
    case neg =>
      refine ⟨(v.putFld F.TIME_UTC_PENDING 0).setTime { v.time with leapAt := none }, ?_, ?_, ?_, ?_, ?_⟩
      · unfold cmdSetUtc
        dsimp only
        rw [hfree, if_neg (by decide), if_neg hflag, ← hv]
      · rw [finish_ok_fld _ (by decide), State.fld_setTime, State.fld_putFld_apart _ _ _ _ (by decide) (by decide), hutc]
      · rw [finish_ok_fld _ (by decide), State.fld_setTime, State.fld_putFld_apart _ _ _ _ (by decide) (by decide), hsource]
      · rw [finish_ok_fld _ (by decide), State.fld_setTime, State.fld_putFld_apart _ _ _ _ (by decide) (by decide), hvalid]
      · rw [finish_ok_fld _ (by decide), State.fld_setTime, State.fld_putFld_same _ _ _ (by decide), bits_zero_of_bit hflag]
        rfl
  case arm =>
    refine completes_ok (body := fun _ => cmdPulseArm) (fun _ _ _ => rfl) (by decide) fun path w hw => ?_
    obtain ⟨hn, hwidth, hsingle, hperiodic, hlow⟩ := hw
    obtain ⟨n, hnum⟩ : ∃ n, n = w.arg 3 0 := ⟨_, rfl⟩
    rw [← hnum] at hn hwidth hsingle hperiodic hlow ⊢
    obtain ⟨p, hp⟩ : ∃ p, p = armPulse (w.base (w.isSet (F.TIME_PULSEn_CTRL_BASE n))) (w.isSet (F.TIME_PULSEn_CTRL_BASE n))
      (w.pairAt (R.TIME_PULSEn_START_LO n)) (w.regN (R.TIME_PULSEn_PERIOD n)) (w.regN (R.TIME_PULSEn_WIDTH n)) := ⟨_, rfl⟩
    have harmed : p.armed = true := by rw [hp]; rfl
    obtain ⟨hset, hfind, hregs⟩ := w.pulsePut_effect (n := n) harmed
    have hother : R.TIME_PULSEn_CTRL n ∉ cmdRegs 3 := by
      simp only [List.mem_cons, List.not_mem_nil, or_false, R.TIME_PULSEn_CTRL, hdr]
      omega
    refine ⟨w.pulsePut n p, ?_, ?_, ?_, ?_⟩
    · unfold cmdPulseArm
      dsimp only
      rw [← hnum, if_neg (by omega), if_neg, if_neg (by simp [hlow]), hp]
      rintro (⟨hne, hbad⟩ | hbad | ⟨h0, hpast⟩)
      · have := hperiodic hne
        omega
      · omega
      · have := hsingle h0
        omega
    · rw [finish_ok_isSet _ hother, hset]
    · rw [frame_finish_ok _ _ _ .time rfl, hfind, hp]
    · rw [sameRegs_finish_ok (by simp) (by simp) (by simp) (by simp)]
      exact hregs.mono (by simp)
  case disarm =>
    refine completes_ok (body := fun _ => cmdPulseDisarm) (fun _ _ _ => rfl) (by decide) fun path w hw => ?_
    obtain ⟨n, hnum⟩ : ∃ n, n = w.arg 3 0 := ⟨_, rfl⟩
    rw [← hnum] at hw ⊢
    obtain ⟨v, hv⟩ : ∃ v : State, v = if (smGet {} w.time.pulses n).level then w.drive (.pulse n) false else w := ⟨_, rfl⟩
    have hregs : SameRegs w v [] := by
      rw [hv]
      unfold State.drive
      split
      · split
        · exact SameRegs.refl w _
        · rw [sameRegs_emit]
          exact SameRegs.refl w _
      · exact SameRegs.refl w _
    have hother : R.TIME_PULSEn_CTRL n ∉ cmdRegs 3 := by
      simp only [List.mem_cons, List.not_mem_nil, or_false, R.TIME_PULSEn_CTRL, hdr]
      omega
    refine ⟨(v.setTime { v.time with pulses := smDel v.time.pulses n }).putFld (F.TIME_PULSEn_CTRL_ARMED n) 0, ?_, ?_, ?_, ?_⟩
    · unfold cmdPulseDisarm
      dsimp only
      rw [← hnum, if_neg (by omega), hv]
    · rw [finish_ok_isSet _ hother]
      unfold State.isSet
      rw [State.fld_putFld_same _ _ _ (Nat.lt_succ_self 31)]
      rfl
    · rw [frame_finish_ok _ _ _ .time rfl]
      simp
    · rw [sameRegs_finish_ok (by simp) (by simp) (by simp) (by simp), sameRegs_putFld (by simp), sameRegs_setTime]
      exact hregs.mono (by simp)

end Sys2Proof.Machine
end

section
/-!
PROOFS. Sys2Proof/Proofs/TimeOutputs.lean: TIME's outputs and its PLL.
-/

namespace Sys2Proof.Machine

/-! The servo enters a state (R75). -/

theorem State.servoTold_status (s : State) (v : Nat) : (s.servoTold v).regN R.TIME_STATUS = s.regN R.TIME_STATUS := by
  obtain ⟨w, hw⟩ : ∃ w : State, w = if v = svLocked then s.raise I.TIME_LOCKED else if (v == svHoldover || v == svSuspect) then
      s.raise I.TIME_LOST else s := ⟨_, rfl⟩
  have hraised : w.regN R.TIME_STATUS = s.regN R.TIME_STATUS := by
    rw [hw]
    split
    · rw [State.regN_raise _ _ (by decide)]
    · split
      · rw [State.regN_raise _ _ (by decide)]
      · rfl
  unfold State.servoTold
  dsimp only
  rw [← hw, ← hraised]
  split
  · exact State.sameRegs_condition w _ _ _ (by decide)
  · split
    · exact State.sameRegs_condition w _ _ _ (by decide)
    · rfl

theorem State.servoSignals_status (s : State) (v : Nat) : (s.servoSignals v).regN R.TIME_STATUS = s.regN R.TIME_STATUS := by
  obtain ⟨c, inst, heq⟩ := s.servoSignals_eq v
  rw [heq, ← s.servoTold_status v]
  split
  · rfl
  · exact State.regN_updatePins _ (by decide) (by decide)

/-- The servo shows the state it enters. -/
theorem State.servo_setServo (s : State) {v : Nat} (hv : v < 8) : (s.setServo v).servo = v := by
  unfold State.setServo
  dsimp only
  split
  next h => exact h
  next =>
    unfold State.servo State.fld
    rw [State.servoSignals_status]
    refine (State.fld_event (f := F.TIME_STATUS_SERVO) _ _ _ _ (by decide) (by decide)).trans ?_
    split
    · rw [State.fld_putFld_apart _ _ _ _ (by decide) (by decide), State.fld_putFld_same _ _ _ (by decide)]
      exact Nat.mod_eq_of_lt hv
    · rw [State.fld_putFld_same _ _ _ (by decide)]
      exact Nat.mod_eq_of_lt hv

/-- What the servo keeps on its way does not touch the PLL. -/
theorem State.servoTime_pll (s : State) (v : Nat) : (s.servoTime v).pllLocked = s.time.pllLocked := by
  unfold State.servoTime
  dsimp only
  repeat' split
  all_goals rfl

theorem State.setServo_pll (s : State) (v : Nat) : (s.setServo v).time.pllLocked = s.time.pllLocked := by
  unfold State.setServo
  dsimp only
  split
  · rfl
  · have hsignals : ∀ w : State, (w.servoSignals v).time = w.time := fun w =>
      (Frame.servoSignals (m := 0x200004950) rfl).mpr (Frame.refl _ w) .time rfl
    have hevent : ∀ (w : State) p, (w.event E.TIME_SERVO_STATE noSource p).time = w.time := fun w p =>
      (Frame.event (m := 0x100008d0) rfl).mpr (Frame.refl _ w) .time rfl
    rw [hsignals, hevent, ← State.servoTime_pll s v]
    split <;> simp

/-! GRID and AUX take their sources (R72). -/

/-- The registers that a change of source writes. -/
abbrev sourceRegs : List Nat := [R.TIME_STATUS, R.TIME_SOURCE_CHANGES, R.TIME_GM_QUALITY] ++ eventRegs

/-- A base moves to a source: its field shows it, the others of TIME_STATUS stay, and the PLL and the servo's hold are as they were. -/
theorem State.moveSource_effect (s : State) (base new : Nat) :
    (new < 16 → (s.moveSource base new).fld (if base = 0 then F.TIME_STATUS_GRID_SOURCE else F.TIME_STATUS_AUX_SOURCE) = new) ∧
    (∀ f : Fld, f.addr = R.TIME_STATUS → (f.hi < 4 ∨ 11 < f.lo ∨ (base ≠ 0 ∧ f.hi < 8)) → (s.moveSource base new).fld f = s.fld f) ∧
    SameRegs s (s.moveSource base new) sourceRegs ∧
    (s.moveSource base new).time.pllLocked = s.time.pllLocked ∧ (s.moveSource base new).time.tooLarge = s.time.tooLarge := by
  obtain ⟨g, hg⟩ : ∃ g : Fld, g = if base = 0 then F.TIME_STATUS_GRID_SOURCE else F.TIME_STATUS_AUX_SOURCE := ⟨_, rfl⟩
  have haddr : g.addr = R.TIME_STATUS := by rw [hg]; split <;> rfl
  have hhi : g.hi < 32 := by rw [hg]; split <;> decide
  have hwidth : g.hi + 1 - g.lo = 4 := by rw [hg]; split <;> rfl
  have hplace : (base = 0 ∧ g.lo = 4 ∧ g.hi = 7) ∨ (base ≠ 0 ∧ g.lo = 8 ∧ g.hi = 11) := by
    rw [hg]
    split
    next h => exact .inl ⟨h, rfl, rfl⟩
    next h => exact .inr ⟨h, rfl, rfl⟩
  unfold State.moveSource
  dsimp only
  rw [← hg]
  split
  next h => exact ⟨fun _ => h, fun _ _ _ => rfl, SameRegs.refl s _, rfl, rfl⟩
  next =>
    obtain ⟨v, hv⟩ : ∃ v : State, v = (s.putFld g new).count R.TIME_SOURCE_CHANGES := ⟨_, rfl⟩
    obtain ⟨w, hw⟩ : ∃ w : State, w = if base = 0 ∧ new ≠ 0 then
      (v.putFld ⟨R.TIME_GM_QUALITY, 7, 0⟩ (v.src new).clockClass).setTime { v.time with delays := [], withheld := [] } else v := ⟨_, rfl⟩
    have hother : ∀ f : Fld, f.addr = R.TIME_STATUS → w.fld f = (s.putFld g new).fld f := fun f hf => by
      have hcount : v.fld f = (s.putFld g new).fld f := by
        exact hv ▸ State.fld_putReg_other _ _ (by rw [hf]; decide)
      rw [hw, ← hcount]
      split
      · rw [State.fld_setTime, State.fld_putFld_apart _ _ _ _ (by decide) (.inl (by rw [hf]; decide))]
      · rfl
    have hsame : SameRegs s w sourceRegs := by
      have hcount : SameRegs s v sourceRegs := by
        rw [hv, sameRegs_count (by simp), sameRegs_putFld (by rw [haddr]; simp)]
        exact SameRegs.refl s _
      rw [hw]
      split
      · rw [sameRegs_setTime, sameRegs_putFld (by simp)]
        exact hcount
      · exact hcount
    have htime : w.time.pllLocked = s.time.pllLocked ∧ w.time.tooLarge = s.time.tooLarge := by
      rw [hw, hv]
      split <;> simp
    have hnoted : ∀ p, ((w.event E.TIME_SOURCE_CHANGE noSource p).raise I.TIME_SOURCE_CHANGE).time = w.time := fun p => by
      have hframe : Frame 0x100008d0 w ((w.event E.TIME_SOURCE_CHANGE noSource p).raise I.TIME_SOURCE_CHANGE) := by
        simp (disch := decide) only [Frame.raise, Frame.event, Frame.refl]
      exact hframe .time rfl
    have hfld : ∀ p (f : Fld), f.addr = R.TIME_STATUS → ((w.event E.TIME_SOURCE_CHANGE noSource p).raise I.TIME_SOURCE_CHANGE).fld f =
        (s.putFld g new).fld f := fun p f hf => by
      rw [State.fld_raise _ _ (by rw [hf]; decide), State.fld_event _ _ _ _ (by rw [hf]; decide) (by rw [hf]; decide), hother f hf]
    rw [← hv, ← hw]
    refine ⟨fun hnew => ?_, fun f hf hapart => ?_, ?_, ?_, ?_⟩
    · rw [hfld _ _ haddr, State.fld_putFld_same _ _ _ hhi, hwidth]
      exact Nat.mod_eq_of_lt hnew
    · rw [hfld _ _ hf, State.fld_putFld_apart _ _ _ _ hhi (.inr (by omega))]
    · rw [sameRegs_raise (by simp), sameRegs_event (by simp) (by simp)]
      exact hsame
    · rw [hnoted, htime.1]
    · rw [hnoted, htime.2]

/-- GRID takes the first of the qualified sources, or none. -/
theorem State.moveSources_effect (s : State) :
    s.moveSources.fld F.TIME_STATUS_GRID_SOURCE = s.ranked.getD 0 0 ∧ s.moveSources.servo = s.servo ∧
      SameRegs s s.moveSources sourceRegs ∧
      s.moveSources.time.pllLocked = s.time.pllLocked ∧ s.moveSources.time.tooLarge = s.time.tooLarge := by
  have hle : s.ranked.getD 0 0 ≤ 11 := by
    rw [List.getD_eq_getElem?_getD]
    cases h : s.ranked[0]? with
    | none => simp
    | some c =>
      have hmem := List.mem_of_getElem? h
      unfold State.ranked at hmem
      simp only [List.mem_filter, Bool.and_eq_true, decide_eq_true_eq] at hmem
      exact hmem.2.1.2
  obtain ⟨g, hg⟩ : ∃ g, g = s.ranked.getD 0 0 := ⟨_, rfl⟩
  rw [← hg] at hle ⊢
  obtain ⟨a, ha⟩ : ∃ a, s.moveSources = (s.moveSource 0 g).moveSource 1 a := ⟨_, by rw [hg]; rfl⟩
  obtain ⟨hshown, hkept, hregs, hpll, hlarge⟩ := s.moveSource_effect 0 g
  obtain ⟨-, hkept', hregs', hpll', hlarge'⟩ := (s.moveSource 0 g).moveSource_effect 1 a
  rw [ha]
  refine ⟨?_, ?_, hregs.trans hregs', hpll'.trans hpll, hlarge'.trans hlarge⟩
  · rw [hkept' _ rfl (.inr (.inr ⟨by decide, by decide⟩))]
    exact hshown (by omega)
  · unfold State.servo
    rw [hkept' _ rfl (.inl (by decide)), hkept _ rfl (.inl (by decide))]

/-! The sources once TIME's clock has locked (R70). -/

theorem State.moveSources_isSet (s : State) {f : Fld} (h : f.addr ∉ sourceRegs) : s.moveSources.isSet f = s.isSet f := by
  obtain ⟨-, -, hregs, -⟩ := s.moveSources_effect
  exact hregs.isSet h

/-- PATH_SUSPECT stays where the servo is in another state, and where no other source is qualified. -/
theorem State.leaveSuspect_stays {s : State} (h : s.servo ≠ svSuspect ∨ s.ranked = []) : s.leaveSuspect = s := by
  unfold State.leaveSuspect
  dsimp only
  rw [if_pos]
  rcases h with h | h
  · exact .inl h
  · exact .inr (.inr (by rw [h]; rfl))

/-- With no source to follow the servo acquires no more. -/
theorem State.select_none {s : State} (h : s.ranked = []) :
    (s.select true).time.pllLocked = s.time.pllLocked ∧ (s.select true).servo ≠ svAcquire := by
  obtain ⟨hgrid, -, -, hpll, -⟩ := s.moveSources_effect
  have hnone : s.moveSources.fld F.TIME_STATUS_GRID_SOURCE = 0 := by rw [hgrid, h]; rfl
  unfold State.select
  dsimp only
  rw [State.leaveSuspect_stays (.inr h), if_pos hnone]
  split
  next =>
    refine ⟨(State.setServo_pll _ _).trans hpll, ?_⟩
    split
    · rw [State.servo_setServo _ (by decide)]
      decide
    · rw [State.servo_setServo _ (by decide)]
      decide
  next hacquire =>
    split
    · refine ⟨(State.setServo_pll _ _).trans hpll, ?_⟩
      rw [State.servo_setServo _ (by decide)]
      decide
    · exact ⟨hpll, hacquire⟩

/-- A servo in FREERUN acquires the first source. -/
theorem State.select_some {s : State} (h : s.ranked ≠ []) (hservo : s.servo = svFreerun) (hforce : s.isSet F.TIME_CTRL_FORCE_HOLDOVER = false)
    (hlarge : s.time.tooLarge = false) (hpll : s.time.pllLocked = true) :
    (s.select true).time.pllLocked = true ∧ (s.select true).servo = svAcquire := by
  obtain ⟨hgrid, hservo', -, hpll', hlarge'⟩ := s.moveSources_effect
  have hforce' : s.moveSources.isSet F.TIME_CTRL_FORCE_HOLDOVER = false := (s.moveSources_isSet (by decide)).trans hforce
  have hnonzero : s.ranked.getD 0 0 ≠ 0 := by
    obtain ⟨c, l, hcons⟩ := List.exists_cons_of_ne_nil h
    have hmem : c ∈ s.ranked := by rw [hcons]; exact List.mem_cons_self
    unfold State.ranked at hmem
    simp only [List.mem_filter, Bool.and_eq_true, bne_iff_ne] at hmem
    rw [hcons]
    exact hmem.2.1.1
  have hval : s.select true = s.moveSources.setServo svAcquire := by
    unfold State.select
    dsimp only
    rw [State.leaveSuspect_stays (.inl (by rw [hservo]; decide)), hgrid, hservo', hpll', hlarge', hpll, hlarge, hforce', if_neg hnonzero,
      if_neg (by decide), if_pos ⟨.inl hservo, .inl rfl⟩]
  rw [hval]
  exact ⟨(State.setServo_pll _ _).trans (hpll'.trans hpll), State.servo_setServo _ (by decide)⟩

/-! Outputs. -/

theorem State.drive_free {s : State} (h : s.scanned = false) (b : Ball) (level : Bool) : s.drive b level = s.emit (.ball b level) := by
  unfold State.drive
  rw [h]
  rfl

/-- What a port sends each second (R74): Pdelay_Req always, and as master Sync with its Follow_Up and Announce. -/
def State.ptpMessages (s : State) (p : Nat) : List Output :=
  let message (kind time : Nat) : Output := .ptp p kind time s.masterClass (s.fld F.TIME_PTP_CFG_DOMAIN) (s.fld F.TIME_PTP_CFG_PROFILE)
  if !s.linkIsUp p || !bit (s.fld F.TIME_PTP_CFG_PORTS) p then []
  else if s.ptpMaster p then
    [message 11 s.bases.grid, message 8 (s.txStamp p s.bases.grid).toNat, message 0 s.bases.grid, message 2 s.bases.grid]
  else [message 2 s.bases.grid]

/-- A port's step of PTP_TRANSMIT. -/
def ptpPort (s : State) (p : Nat) : State :=
  if !s.linkIsUp p || !bit (s.fld F.TIME_PTP_CFG_PORTS) p then s
  else
    let s := s.emitPtp p 2 s.bases.grid
    if s.ptpMaster p then
      ((s.emitPtp p 0 s.bases.grid).emitPtp p 8 (s.txStamp p s.bases.grid).toNat).emitPtp p 11 s.bases.grid else s

theorem State.ptpTransmit_eq {s : State} (h : s.domain pdTime = 0) : s.ptpTransmit = (List.range 8).foldl ptpPort s := by
  unfold State.ptpTransmit
  rw [if_neg (by simp [h])]
  rfl

theorem State.emitPtp_setOut (s : State) (o : List Output) (p kind time : Nat) : (s.setOut o).emitPtp p kind time =
    s.setOut (.ptp p kind time s.masterClass (s.fld F.TIME_PTP_CFG_DOMAIN) (s.fld F.TIME_PTP_CFG_PROFILE) :: o) := rfl

theorem ptpPort_setOut (s : State) (o : List Output) (p : Nat) : ptpPort (s.setOut o) p = s.setOut (s.ptpMessages p ++ o) := by
  have hlink : (s.setOut o).linkIsUp p = s.linkIsUp p := rfl
  have hport : (s.setOut o).fld F.TIME_PTP_CFG_PORTS = s.fld F.TIME_PTP_CFG_PORTS := rfl
  have hmaster : ∀ o, (s.setOut o).ptpMaster p = s.ptpMaster p := fun _ => rfl
  have hbases : ∀ o, (s.setOut o).bases = s.bases := fun _ => rfl
  have hstamp : ∀ o n, (s.setOut o).txStamp p n = s.txStamp p n := fun _ _ => rfl
  unfold ptpPort State.ptpMessages
  simp only [hlink, hport, hbases, State.emitPtp_setOut, hmaster, hstamp]
  split
  · rfl
  · split <;> rfl

/-- PTP_TRANSMIT only adds the messages of every port to what has been sent. -/
theorem foldl_ptpPort (s : State) : ∀ (l : List Nat) (o : List Output),
    ∃ o', l.foldl ptpPort (s.setOut o) = s.setOut o' ∧ (∀ p ∈ l, s.ptpMessages p ⊆ o') ∧ o ⊆ o' := by
  intro l
  induction l with
  | nil => exact fun o => ⟨o, rfl, by simp, List.Subset.refl _⟩
  | cons p l ih =>
    intro o
    obtain ⟨o', heq, hports, hsub⟩ := ih (s.ptpMessages p ++ o)
    refine ⟨o', ?_, ?_, fun x hx => hsub (List.mem_append_right _ hx)⟩
    · rw [List.foldl_cons, ptpPort_setOut, heq]
    · rintro q (_ | ⟨_, hq⟩) x hx
      · exact hsub (List.mem_append_left _ hx)
      · exact hports q hq hx

theorem State.ptpMaster_of {s : State} {p : Nat} (hstate : s.ptpState p = 6) (hslave : s.isSet F.TIME_PTP_CFG_SLAVE_ONLY = false)
    (hordinary : s.isSet F.TIME_PTP_CFG_BOUNDARY = false → ∀ q ∈ List.range 8, s.ptpState q ≠ 9) : s.ptpMaster p = true := by
  unfold State.ptpMaster
  rw [hstate, hslave]
  cases hb : s.isSet F.TIME_PTP_CFG_BOUNDARY with
  | true => rfl
  | false => simpa using hordinary hb

/-- A periodic pulse that is high falls a width after it rose, and its next pulse is a period later. -/
theorem State.pulseEdge_falls {w : State} {n : Nat} {p : PulseSt} (hon : w.domain pdTime = 0) (hp : smGet {} w.time.pulses n = p)
    (hhigh : p.level = true) (hwaiting : p.waiting = none) (hdue : p.next + p.width ≤ w.base p.onTest) (hperiod : p.period ≠ 0)
    (hfree : w.scanned = false) :
    smGet {} (w.pulseEdge n).time.pulses n = { p with level := false, next := p.next + p.period } ∧
      (w.pulseEdge n).out = .ball (.pulse n) false :: w.out ∧ SameRegs w (w.pulseEdge n) [R.TIME_PULSEn_CTRL n] := by
  obtain ⟨q, hq⟩ : ∃ q : PulseSt, q = { p with level := false, next := p.next + p.period } := ⟨_, rfl⟩
  have hended : p.ended w.base = q := by
    unfold PulseSt.ended
    rw [hwaiting]
    dsimp only
    rw [if_neg hperiod, hq, hwaiting]
  have hplain : (w.pulsePut n q).scanned = false := by
    unfold State.scanned State.pulsePut at *
    simpa using hfree
  have hval : w.pulseEdge n = (w.pulsePut n q).emit (.ball (.pulse n) false) := by
    unfold State.pulseEdge
    dsimp only
    rw [if_neg (by simp [hon]), hp, if_pos hhigh, if_neg (by omega), hended, State.drive_free hplain]
  rw [hval, ← hq]
  refine ⟨?_, ?_, ?_⟩
  · unfold State.pulsePut
    simp
  · unfold State.pulsePut
    simp
  · rw [sameRegs_emit]
    unfold State.pulsePut
    dsimp only
    rw [sameRegs_putFld (by simp), sameRegs_setTime]
    exact SameRegs.refl w _

/-- Settles O27, event by event. -/
theorem timeOutputsHappen : Obligations.TimeOutputsHappen := by
  refine ⟨?unlocked, ?locked, ?transmit, ?ppsRise, ?ppsFall, fun n => ?rise, fun n => ?fall⟩
  case unlocked =>
    refine happens (f := State.pllLock) (fun _ _ => rfl) fun w hw => ?_
    obtain ⟨hon, hnone⟩ := hw
    have hval : w.pllLock = (w.setTime { w.time with pllLocked := true }).select true := if_neg (by simp [hon])
    obtain ⟨hpll, hservo⟩ := State.select_none (s := w.setTime { w.time with pllLocked := true }) hnone
    rw [hval]
    exact ⟨hpll, hservo⟩
  case locked =>
    refine happens (f := State.pllLock) (fun _ _ => rfl) fun w hw => ?_
    obtain ⟨hon, hsome, hservo, hforce, hlarge⟩ := hw
    have hval : w.pllLock = (w.setTime { w.time with pllLocked := true }).select true := if_neg (by simp [hon])
    rw [hval]
    exact State.select_some hsome hservo hforce hlarge rfl
  case transmit =>
    refine happens (f := State.ptpTransmit) (fun _ _ => rfl) fun w hon => ?_
    obtain ⟨o, heq, hports, -⟩ := foldl_ptpPort w (List.range 8) w.out
    have hval : w.ptpTransmit = w.setOut o := (State.ptpTransmit_eq hon).trans heq
    have hup : ∀ p, w.linkIsUp p = true → bit (w.fld F.TIME_PTP_CFG_PORTS) p = true →
        ¬(!w.linkIsUp p || !bit (w.fld F.TIME_PTP_CFG_PORTS) p) = true := fun p h1 h2 => by simp [h1, h2]
    rw [hval]
    refine ⟨fun p hp hlink hport => hports p hp ?_, fun p hp hlink hport hstate hslave hordinary => ?_, fun _ _ => rfl⟩
    · unfold State.ptpMessages
      dsimp only
      rw [if_neg (hup p hlink hport)]
      split <;> simp
    · have hall : w.ptpMessages p = _ := (if_neg (hup p hlink hport)).trans (if_pos (State.ptpMaster_of hstate hslave hordinary))
      exact ⟨hports p hp (by simp [hall]), hports p hp (by simp [hall]), hports p hp (by simp [hall])⟩
  case ppsRise =>
    refine happens (f := State.ppsOEdge) (fun _ _ => rfl) fun w hw => ?_
    obtain ⟨hon, hlow, hlast, hfree, hgate⟩ := hw
    have hopen : (!(w.isSet F.TIME_PPS_O_CFG_GATE && w.servo == svFreerun)) = true := by
      rw [Bool.not_eq_true', Bool.and_eq_false_iff, beq_eq_false_iff_ne, ← Bool.not_eq_true]
      exact imp_iff_not_or.mp hgate
    have hval : w.ppsOEdge = (w.setTime { w.time with ppsHigh := true, ppsLast := w.bases.grid / 1000000000 }).emit (.ball .pps true) := by
      unfold State.ppsOEdge
      dsimp only
      rw [if_neg (by simp [hon]), if_neg (by simp [hlow]), if_pos ⟨hlast, hopen⟩, State.drive_free (by exact hfree)]
    rw [hval, sameRegs_emit, sameRegs_setTime, State.emit_time, State.setTime_time, State.emit_out]
    exact ⟨rfl, by simp, SameRegs.refl w _⟩
  case ppsFall =>
    refine happens (f := State.ppsOEdge) (fun _ _ => rfl) fun w hw => ?_
    obtain ⟨hon, hhigh, hwidth, hfree⟩ := hw
    have hval : w.ppsOEdge = (w.setTime { w.time with ppsHigh := false }).emit (.ball .pps false) := by
      unfold State.ppsOEdge
      dsimp only
      rw [if_neg (by simp [hon]), if_pos hhigh, if_pos (.inl hwidth), State.drive_free (by exact hfree)]
    rw [hval, sameRegs_emit, sameRegs_setTime, State.emit_time, State.setTime_time, State.emit_out]
    exact ⟨rfl, by simp, SameRegs.refl w _⟩
  case rise =>
    refine happens (f := (·.pulseEdge n)) (fun _ _ => rfl) fun w hw => ?_
    obtain ⟨hon, hlow, harmed, hdue, hfree⟩ := hw
    have hval : w.pulseEdge n = (w.setTime { w.time with
        pulses := smPut w.time.pulses n { smGet {} w.time.pulses n with level := true } }).emit (.ball (.pulse n) true) := by
      unfold State.pulseEdge
      dsimp only
      rw [if_neg (by simp [hon]), if_neg (by simp [hlow]), if_pos ⟨harmed, hdue⟩, State.drive_free (by exact hfree)]
    dsimp only
    rw [hval]
    exact ⟨smGet_smPut_same _ _ _ _, rfl, fun _ _ => rfl⟩
  case fall =>
    refine happens (f := (·.pulseEdge n)) (fun _ _ => rfl) fun w hw => ?_
    obtain ⟨hon, hhigh, hwaiting, hdue, hperiod, hfree⟩ := hw
    exact State.pulseEdge_falls hon rfl hhigh hwaiting hdue hperiod hfree

end Sys2Proof.Machine
end

section
/-!
PROOFS. Sys2Proof/Proofs/IsleCommands.lean: areas, ties and the synchro-check.
-/

namespace Sys2Proof.Machine

/-! The synchro-check starts and ends (R247, R248). -/

/-- A started check is at its point from now on, and ISLE_STATUS shows it. -/
theorem State.startCheck_effect (s : State) (p cause : Nat) :
    (s.startCheck p cause).isle.sc = some ⟨p, s.now, 0, false⟩ ∧ (s.startCheck p cause).fld F.ISLE_STATUS_SC_ACTIVE = 1 ∧
      (s.startCheck p cause).fld F.ISLE_STATUS_SC_PERMIT = 0 := by
  obtain ⟨v, hv⟩ : ∃ v : State, v = s.setIsle { s.isle with
    sc := some ⟨p, s.now, 0, false⟩, expired := false, barred := if cause = 0 then s.isle.barred.filter (fun q => q != p) else s.isle.barred } :=
    ⟨_, rfl⟩
  obtain ⟨x, hx⟩ : ∃ x : State, x = (((v.putFld F.ISLE_STATUS_SC_ACTIVE 1).putFld F.ISLE_STATUS_SC_POINT p).putFld F.ISLE_STATUS_SC_PERMIT 0).putFld
    F.ISLE_SC_STATE_H 0 := ⟨_, rfl⟩
  obtain ⟨u, hu⟩ : ∃ u : State, u = x.event E.ISLE_SC_STARTED p (leBytes 1 p ++ leBytes 1 cause) := ⟨_, rfl⟩
  have hval : s.startCheck p cause = u.condition 1 true := by rw [hu, hx, hv]; rfl
  have hframe : Frame 0x100009d0 v (u.condition 1 true) := by
    rw [hu, hx]
    simp (disch := decide) only [Frame.condition, Frame.event, Frame.putFld, Frame.refl]
  have hkept : ∀ f : Fld, f.addr = R.ISLE_STATUS → (u.condition 1 true).fld f = x.fld f := fun f hf => by
    rw [(State.sameRegs_condition u 1 true).fld (by rw [hf]; decide), hu,
      State.fld_event _ _ _ _ (by rw [hf]; decide) (by rw [hf]; decide)]
  rw [hval]
  refine ⟨?_, ?_, ?_⟩
  · rw [hframe .isle rfl, hv, State.setIsle_isle]
  · rw [hkept _ rfl, hx, State.fld_putFld_apart _ _ _ _ (by decide) (by decide), State.fld_putFld_apart _ _ _ _ (by decide) (by decide),
      State.fld_putFld_apart _ _ _ _ (by decide) (by decide), State.fld_putFld_same _ _ _ (by decide)]
    rfl
  · rw [hkept _ rfl, hx, State.fld_putFld_apart _ _ _ _ (by decide) (by decide), State.fld_putFld_same _ _ _ (by decide)]
    rfl

/-- An ended check is gone, and the registers show why. -/
theorem State.endCheck_effect {s : State} {c : SyncCheck} (h : s.isle.sc = some c) {cause : Nat} (hcause : cause < 16) :
    (s.endCheck cause).isle.sc = none ∧ (s.endCheck cause).fld F.ISLE_STATUS_SC_ACTIVE = 0 ∧
      (s.endCheck cause).fld F.ISLE_STATUS_SC_PERMIT = 0 ∧ (s.endCheck cause).fld F.ISLE_SC_STATE_LAST_END = cause := by
  obtain ⟨v, hv⟩ : ∃ v : State, v = s.setIsle { s.isle with
    sc := none, barred := if cause = 2 ∨ cause = 3 then (c.point :: s.isle.barred).eraseDups else s.isle.barred, expired := false } := ⟨_, rfl⟩
  obtain ⟨x, hx⟩ : ∃ x : State, x = ((v.putFld F.ISLE_STATUS_SC_ACTIVE 0).putFld F.ISLE_STATUS_SC_PERMIT 0).putFld
    F.ISLE_SC_STATE_LAST_END cause := ⟨_, rfl⟩
  obtain ⟨u, hu⟩ : ∃ u : State, u = (x.event E.ISLE_SC_ENDED c.point (leBytes 1 c.point ++ leBytes 1 cause)).raise I.ISLE_SC_ENDED := ⟨_, rfl⟩
  have hval : s.endCheck cause = u.condition 1 false := by
    unfold State.endCheck
    rw [h, hu, hx, hv]
  have hframe : Frame 0x100009d0 v (u.condition 1 false) := by
    rw [hu, hx]
    simp (disch := decide) only [Frame.condition, Frame.raise, Frame.event, Frame.putFld, Frame.refl]
  have hkept : ∀ f : Fld, f.addr = R.ISLE_STATUS ∨ f.addr = R.ISLE_SC_STATE → (u.condition 1 false).fld f = x.fld f := fun f hf => by
    rw [(State.sameRegs_condition u 1 false).fld (by rcases hf with hf | hf <;> rw [hf] <;> decide), hu,
      State.fld_raise _ _ (by rcases hf with hf | hf <;> rw [hf] <;> decide),
      State.fld_event _ _ _ _ (by rcases hf with hf | hf <;> rw [hf] <;> decide) (by rcases hf with hf | hf <;> rw [hf] <;> decide)]
  rw [hval]
  refine ⟨?_, ?_, ?_, ?_⟩
  · rw [hframe .isle rfl, hv, State.setIsle_isle]
  · rw [hkept _ (.inl rfl), hx, State.fld_putFld_apart _ _ _ _ (by decide) (by decide),
      State.fld_putFld_apart _ _ _ _ (by decide) (by decide), State.fld_putFld_same _ _ _ (by decide)]
    rfl
  · rw [hkept _ (.inl rfl), hx, State.fld_putFld_apart _ _ _ _ (by decide) (by decide), State.fld_putFld_same _ _ _ (by decide)]
    rfl
  · rw [hkept _ (.inr rfl), hx, State.fld_putFld_same _ _ _ (by decide)]
    exact Nat.mod_eq_of_lt hcause

/-! The ties (R249). -/

/-- The registers of ISLE that show the groups and the ties. -/
abbrev isleMaps : List Nat := (List.range 16).map R.ISLE_GROUP_MAPn ++ (List.range 32).map R.ISLE_TIE_STATEn

/-- ISLE_STATUS shows whether a tie is forced. -/
theorem State.showIsle_forced (s : State) (b : List Byte) :
    (s.showIsle b).fld F.ISLE_STATUS_FORCED = if s.isle.ties.any (fun t => t.2.forced.isSome) then 1 else 0 := by
  obtain ⟨x, hx⟩ : ∃ x : State, x = (((s.putFld F.ISLE_STATUS_FORCED (if s.isle.ties.any (fun t => t.2.forced.isSome) then 1 else 0)).putFld
    F.ISLE_STATUS_GROUPS s.isle.g).putFld F.ISLE_STATUS_HOME_GROUP (s.groupOf (isHome b))).putFld F.ISLE_STATUS_ISLANDS
      (if 1 < s.isle.g then 1 else 0) := ⟨_, rfl⟩
  have hmaps : SameRegs x (s.showIsle b) isleMaps := by
    unfold State.showIsle
    dsimp only
    rw [sameRegs_foldl_putReg (fun n hn => List.mem_append_right _ (List.mem_map_of_mem hn)),
      sameRegs_foldl_putReg (fun n hn => List.mem_append_left _ (List.mem_map_of_mem hn)), hx]
    exact SameRegs.refl _ _
  rw [hmaps.fld (by decide), hx, State.fld_putFld_apart _ _ _ _ (by decide) (by decide), State.fld_putFld_apart _ _ _ _ (by decide) (by decide),
    State.fld_putFld_apart _ _ _ _ (by decide) (by decide), State.fld_putFld_same _ _ _ (by decide)]
  split <;> rfl

@[simp] theorem State.tie_putTie (s : State) (n : Nat) (x : TieSt) : (s.putTie n x).tie n = x := by
  unfold State.putTie State.tie
  simp

/-- A tie that is kept counts among those that may be forced. -/
theorem any_forced_of_smFind {m : SMap TieSt} {n : Nat} {x : TieSt} (h : smFind m n = some x) (hf : x.forced.isSome = true) :
    m.any (fun t => t.2.forced.isSome) = true := by
  induction m with
  | nil => cases h
  | cons t m ih =>
    unfold smFind at h
    rw [List.any_cons, Bool.or_eq_true]
    split at h
    · cases h
      exact .inl hf
    · exact .inr (ih h)

/-- Settles O38, command by command. -/
theorem isleCommandsComplete : Obligations.IsleCommandsComplete := by
  refine ⟨?area, fun p e => ?start, ?stop, fun e => ?force, fun c => ?ended, fun c => ?expired⟩
  case area =>
    refine completes_ok (body := fun _ => cmdAreaRead) (fun _ _ _ => rfl) (by decide) fun path w hw => ?_
    obtain ⟨hmode, harea, hlisted⟩ := hw
    obtain ⟨x, hx⟩ : ∃ x, x = w.area (w.arg 8 0) := ⟨_, rfl⟩
    obtain ⟨u, hu⟩ : ∃ u : State, u = ((((w.putReg R.ISLE_AREA_FREQ x.freq).putReg R.ISLE_AREA_ROCOF x.rocof).putReg R.ISLE_AREA_ANGLE x.angle).putReg
      R.ISLE_AREA_R x.r).putReg R.ISLE_AREA_QUALITY (2 ^ 16 * x.aq + x.fq) := ⟨_, rfl⟩
    rw [← hx]
    refine ⟨u, ?_, ?_, ?_, ?_, ?_, ?_, ?_⟩
    · unfold cmdAreaRead
      dsimp only
      rw [if_neg (by omega), if_neg (by rw [hlisted]; simp; omega), hu, hx]
    · rw [finish_regN rfl rfl (by decide)]
      change u.regN _ = _
      rw [hu, State.regN_putReg_other _ _ (by decide), State.regN_putReg_other _ _ (by decide), State.regN_putReg_other _ _ (by decide),
        State.regN_putReg_other _ _ (by decide), State.regN_putReg_same]
    · rw [finish_regN rfl rfl (by decide)]
      change u.regN _ = _
      rw [hu, State.regN_putReg_other _ _ (by decide), State.regN_putReg_other _ _ (by decide), State.regN_putReg_other _ _ (by decide),
        State.regN_putReg_same]
    · rw [finish_regN rfl rfl (by decide)]
      change u.regN _ = _
      rw [hu, State.regN_putReg_other _ _ (by decide), State.regN_putReg_other _ _ (by decide), State.regN_putReg_same]
    · rw [finish_regN rfl rfl (by decide)]
      change u.regN _ = _
      rw [hu, State.regN_putReg_other _ _ (by decide), State.regN_putReg_same]
    · rw [frame_finish_ok _ _ _ .isle rfl, hu]
      simp
    · rw [sameRegs_finish_ok (by simp) (by simp) (by simp) (by simp), hu, sameRegs_putReg (by simp), sameRegs_putReg (by simp),
        sameRegs_putReg (by simp), sameRegs_putReg (by simp), sameRegs_putReg (by simp)]
      exact SameRegs.refl w _
  case start =>
    refine completes_ok (body := fun _ => cmdScStart) (fun _ _ _ => rfl) (by decide) fun path w hw => ?_
    obtain ⟨hmode, hpoint, henabled, hnone, htie, hgroups, hsplit, hapart⟩ := hw
    obtain ⟨hsc, hactive, hpermit⟩ := w.startCheck_effect (w.arg 8 0) 0
    refine ⟨w.startCheck (w.arg 8 0) 0, ?_, ?_, ?_, ?_⟩
    · unfold cmdScStart
      dsimp only
      rw [if_neg (by omega), hpoint]
      dsimp only
      rw [if_neg (by simp [henabled]), if_neg (by simp [hnone]), htie]
      dsimp only
      rw [if_neg (by rw [hsplit]; simp; exact ⟨by omega, hapart⟩)]
    · rw [frame_finish_ok _ _ _ .isle rfl, hsc]
    · rw [finish_ok_isSet _ (by decide)]
      unfold State.isSet
      rw [hactive]
      rfl
    · rw [finish_ok_isSet _ (by decide)]
      unfold State.isSet
      rw [hpermit]
      rfl
  case stop =>
    refine completes_ok (body := fun _ => cmdScStop) (fun _ _ _ => rfl) (by decide) fun path w hw => ?_
    obtain ⟨c, hc⟩ := Option.isSome_iff_exists.mp hw
    obtain ⟨hsc, hactive, hpermit, hend⟩ := State.endCheck_effect hc (cause := 2) (by decide)
    refine ⟨w.endCheck 2, ?_, ?_, ?_, ?_, ?_⟩
    · unfold cmdScStop
      rw [if_neg (by simp [hc])]
    · rw [frame_finish_ok _ _ _ .isle rfl, hsc]
    · rw [finish_ok_isSet _ (by decide)]
      unfold State.isSet
      rw [hactive]
      rfl
    · rw [finish_ok_isSet _ (by decide)]
      unfold State.isSet
      rw [hpermit]
      rfl
    · rw [finish_ok_fld _ (by decide), hend]
  case force =>
    refine completes_ok (body := fun _ => cmdTieForce) (fun _ _ _ => rfl) (by decide) fun path w hw => ?_
    obtain ⟨hmode, htie, harg, hflag⟩ := hw
    obtain ⟨n, hn⟩ : ∃ n, n = w.arg 8 0 := ⟨_, rfl⟩
    obtain ⟨x, hx⟩ : ∃ x : TieSt, x = { w.tie n with forced := if w.arg 8 1 = 0 then none else some (w.arg 8 1 == 1) } := ⟨_, rfl⟩
    rw [← hn, ← hx]
    have hisle : ((w.putTie n x).showIsle (w.cfg secIsle)).isle = (w.putTie n x).isle :=
      (Frame.showIsle (m := 0x10) rfl).mpr (Frame.refl _ _) .isle rfl
    refine ⟨(w.putTie n x).showIsle (w.cfg secIsle), ?_, ?_, fun hforced => ?_⟩
    · unfold cmdTieForce
      dsimp only
      rw [if_neg (by omega), htie]
      dsimp only
      rw [if_neg (by rw [hflag]; simp; omega), ← hn, hx]
    · unfold State.tie
      rw [frame_finish_ok _ _ _ .isle rfl, hisle]
      exact State.tie_putTie w n x
    · have hfind : smFind (w.putTie n x).isle.ties n = some x := by
        unfold State.putTie
        simp
      rw [finish_ok_isSet _ (by decide)]
      unfold State.isSet
      rw [State.showIsle_forced, any_forced_of_smFind hfind (by rw [hx, if_neg hforced]; rfl)]
      rfl
  case ended =>
    refine happens (f := State.scTimeout) (fun _ _ => rfl) fun w hw => ?_
    obtain ⟨hc, hruns, hon, hdue⟩ := hw
    obtain ⟨hsc, hactive, hpermit, hend⟩ := State.endCheck_effect hc (cause := 3) (by decide)
    have hval : w.scTimeout = w.endCheck 3 := by
      unfold State.scTimeout
      rw [hc]
      dsimp only
      rw [if_neg (by rw [hon]; omega), if_neg (by simp [hruns])]
    rw [hval]
    unfold State.isSet
    exact ⟨hsc, by rw [hactive]; rfl, by rw [hpermit]; rfl, hend⟩
  case expired =>
    refine happens (f := State.scTimeout) (fun _ _ => rfl) fun w hw => ?_
    obtain ⟨hc, hruns, hon, hdue⟩ := hw
    have hval : w.scTimeout = w.setIsle { w.isle with expired := true } := by
      unfold State.scTimeout
      rw [hc]
      dsimp only
      rw [if_neg (by rw [hon]; omega), if_pos hruns]
    rw [hval, sameRegs_setIsle]
    exact ⟨by simp, SameRegs.refl w _⟩

end Sys2Proof.Machine
end

section
/-!
PROOFS. Sys2Proof/Proofs/VoteCommands.lean: points, latches, the pin test and the lanes.
-/

namespace Sys2Proof.Machine

/-! The lanes that run (R261). -/

/-- Which lanes run depends on the registers of their state and their domains, on the draft and on their clocks. -/
theorem State.laneRuns_congr {s u : State} {l : List Nat} (hregs : SameRegs s u l) (hv : R.VOTE_STATUS ∉ l) (hd : R.POWER_DOMAIN_STATE ∉ l)
    (hdraft : u.draft = s.draft) (hclock : u.clock = s.clock) (i : Nat) : u.laneRuns i = s.laneRuns i := by
  have hstate : u.laneState i = s.laneState i := by
    unfold State.laneState
    refine hregs.fld ?_
    unfold laneFld
    split <;> exact hv
  have hdomain : u.domain (12 + i) = s.domain (12 + i) := by
    unfold State.domain
    rw [hregs _ hd]
  unfold State.laneRuns
  rw [hstate, hdomain, hdraft, hclock]

/-- Of three lanes of which two run, each driving the same, the vote is what they drive. -/
theorem vote3_of_two {a b c : Bool} (h : 2 ≤ ([a, b, c].filter id).length) (x : Nat) :
    vote3 (if a then x else 0) (if b then x else 0) (if c then x else 0) = x := by
  unfold vote3
  cases a <;> cases b <;> cases c <;> simp at h ⊢

/-! The stage in a pin test (R272). -/

/-- In a pin test every lane that runs drives the pin under test alone. -/
theorem State.driveOf_tested {s : State} {pin t : Nat} (h : s.vote.test = some (pin, t)) (es : List (List Byte)) (i : Nat) :
    s.driveOf es i = if s.laneRuns i then 2 ^ pin else 0 := by
  unfold State.driveOf
  cases hr : s.laneRuns i with
  | true => simp [h]
  | false => simp

/-- With no pulse driven or waiting, and two lanes at work, the pin under test sinks and no other. -/
theorem State.updatePins_tested {s : State} {pin t : Nat} (h : s.vote.test = some (pin, t)) (hmode : s.mode = 2) (hpulses : s.energy.pulses = [])
    (hlanes : 2 ≤ s.lanes.length) (hscan : s.scanned = false) (hpad : s.isSet F.FAULT_STATUS_PAD_HOLD = false) :
    s.updatePins.vote.test = s.vote.test ∧ s.updatePins.vote.sink = 2 ^ pin ∧ SameRegs s s.updatePins [R.VOTE_STATUS, R.VOTE_PIN_SENSE] := by
  have hfollow : s.pulsesFollow = s := by
    have hoff : s.pulsesOn = false := by
      unfold State.pulsesOn
      simp [hmode]
    unfold State.pulsesFollow
    rw [hoff, hpulses]
    rfl
  have hjtag : s.host.jtag ≠ 4 := by
    unfold State.scanned at hscan
    rw [decide_eq_false_iff_not] at hscan
    omega
  obtain ⟨es, hes⟩ : ∃ es, es = alarmEntries (s.cfg secAlarm) := ⟨_, rfl⟩
  have hvote : vote3 (s.driveOf es 0) (s.driveOf es 1) (s.driveOf es 2) = 2 ^ pin := by
    rw [State.driveOf_tested h, State.driveOf_tested h, State.driveOf_tested h]
    refine vote3_of_two ?_ _
    unfold State.lanes at hlanes
    cases ha : s.laneRuns 0 <;> cases hb : s.laneRuns 1 <;> cases hc : s.laneRuns 2 <;> simp [ha, hb, hc] at hlanes ⊢
  have hshown : ∀ n, (s.showBalls n).vote = s.vote := fun n => (Frame.showBalls (m := 0x800) rfl).mpr (Frame.refl _ s) .vote rfl
  unfold State.updatePins
  dsimp only
  rw [hfollow, ← hes, hvote, hscan, hpad, if_neg hjtag, if_neg Bool.false_ne_true, if_neg Bool.false_ne_true]
  refine ⟨by simp [hshown], by simp, ?_⟩
  rw [sameRegs_putReg (by simp), sameRegs_putFld (by simp), sameRegs_putFld (by simp), sameRegs_setVote,
    (State.sameRegs_showBalls _ _).thru (by simp)]
  exact SameRegs.refl _ _

/-! Latches (R258). -/

/-- A point's latch is cleared in a lane. -/
def LaneSt.unlatch (x : LaneSt) (ap : Nat) : LaneSt := { x with points := smPut x.points ap { x.point ap with latched := false } }

theorem LaneSt.point_unlatch (x : LaneSt) (ap : Nat) : (x.unlatch ap).point ap = { x.point ap with latched := false } := by
  unfold LaneSt.unlatch LaneSt.point
  simp

/-- A latch of a point that the configuration names is cleared in every lane. -/
theorem State.resetLatch_lane {s : State} {ap : Nat} {e : List Byte} (he : s.alarmEntry ap = some e) (path : Path) {i : Nat}
    (hi : i ∈ ([0, 1, 2] : List Nat)) : (s.resetLatch path ap).vote.lane i = (s.vote.lane i).unlatch ap := by
  obtain ⟨v, hv⟩ : ∃ v : State, v = ((s.setLane 0 ((s.vote.lane 0).unlatch ap)).setLane 1 ((s.vote.lane 1).unlatch ap)).setLane 2
    ((s.vote.lane 2).unlatch ap) := ⟨_, rfl⟩
  obtain ⟨p, q, hval⟩ : ∃ p q, s.resetLatch path ap = ((v.event E.VOTE_LATCH_RESET ap p).mirrorSend 2 q).showPoint ap := by
    refine ⟨leBytes 2 ap ++ leBytes 1 path.code, leBytes 2 ap ++ leBytes 1 0 ++ leBytes 8 (s.leadLane.point ap).tag, ?_⟩
    unfold State.resetLatch
    rw [he, hv]
    rfl
  have hframe : Frame 0x100008d0 v (((v.event E.VOTE_LATCH_RESET ap p).mirrorSend 2 q).showPoint ap) := by
    simp (disch := decide) only [Frame.showPoint, Frame.mirrorSend, Frame.event, Frame.refl]
  rw [hval, hframe .vote rfl, hv]
  unfold State.setLane
  simp only [List.mem_cons, List.not_mem_nil, or_false] at hi
  rcases hi with rfl | rfl | rfl <;> simp [VoteSt.lane_setLane]

/-- Settles O39, command by command. -/
theorem voteCommandsComplete : Obligations.VoteCommandsComplete := by
  refine ⟨?point, ?latch, ?pin, ?lane⟩
  case point =>
    refine completes (body := fun _ => cmdPointRead) (fun _ _ _ => rfl) (by decide) fun path w hw => ?_
    have hval : cmdPointRead w = { state := w
                                   r0 := (if (w.leadLane.point (w.arg 9 0)).raised then 1 else 0) + (if (w.leadLane.point (w.arg 9 0)).latched then 2 else 0) +
                                     (if (w.leadLane.point (w.arg 9 0)).c then 4 else 0) + (if (w.leadLane.point (w.arg 9 0)).absent then 8 else 0) +
                                     2 ^ 8 * (w.leadLane.point (w.arg 9 0)).onRun + 2 ^ 16 * (w.leadLane.point (w.arg 9 0)).offRun +
                                     2 ^ 24 * (w.leadLane.point (w.arg 9 0)).absRun
                                   r1 := (w.leadLane.point (w.arg 9 0)).tag % 2 ^ 32 } := by
      unfold cmdPointRead
      dsimp only
      rw [if_neg (by omega)]
    rw [hval]
    refine ⟨rfl, rfl, ?_, frame_finish_done rfl rfl .vote rfl, sameRegs_finish_done rfl rfl⟩
    rw [finish_results rfl rfl, Nat.mod_mod]
  case latch =>
    refine completes_ok (body := cmdResetLatch) (fun _ _ _ => rfl) (by decide) fun path w hw => ?_
    obtain ⟨hlo, hhi, hholds, hap, hlatched, e, he, hoff⟩ := hw
    rw [Option.mem_toList] at he
    have hreset : w.resettable (w.arg 9 0) = true := by
      unfold State.resettable
      rw [he]
      simp [hlatched, hoff]
    refine ⟨w.resetLatch path (w.arg 9 0), ?_, fun i hi => ?_⟩
    · unfold cmdResetLatch
      dsimp only
      rw [if_neg (by simp [hholds]; omega), if_neg (by omega), if_neg (by omega), if_neg (by simp [hreset])]
    · rw [frame_finish_ok _ _ _ .vote rfl, State.resetLatch_lane he path hi, LaneSt.point_unlatch]
  case pin =>
    refine completes_ok (body := fun _ => cmdPinTest) (fun _ _ _ => rfl) (by decide) fun path w hw => ?_
    obtain ⟨hnone, hmode, hpair, hpin, hlo, hhi, hlanes, hscan, hpad, hpulses⟩ := hw
    obtain ⟨v, hv⟩ : ∃ v : State, v = w.setVote { w.vote with test := some (w.arg 9 0, w.bases.mono + 1000000 * w.arg 9 1) } := ⟨_, rfl⟩
    obtain ⟨u, hu⟩ : ∃ u : State, u = v.event E.VOTE_PIN_TEST (w.arg 9 0) (leBytes 1 (w.arg 9 0) ++ leBytes 4 (w.arg 9 1)) := ⟨_, rfl⟩
    have hframe : Frame 0x100008d0 v u := by
      rw [hu]
      simp (disch := decide) only [Frame.event, Frame.refl]
    have hregs : SameRegs w u eventRegs := by
      rw [hu, sameRegs_event (by simp) (by simp), hv, sameRegs_setVote]
      exact SameRegs.refl w _
    have htest : u.vote.test = some (w.arg 9 0, w.bases.mono + 1000000 * w.arg 9 1) := by
      rw [hframe .vote rfl, hv, State.setVote_vote]
    have hruns : u.lanes = w.lanes := by
      unfold State.lanes
      refine List.filter_congr fun i _ => State.laneRuns_congr hregs (by decide) (by decide) ?_ ?_ i
      · rw [hframe .draft rfl, hv, State.setVote_draft]
      · rw [hframe .clock rfl, hv, State.setVote_clock]
    obtain ⟨hkept, hsink, hpins⟩ := State.updatePins_tested htest
      (by unfold State.mode at hmode ⊢; rw [hregs.fld (by decide), hmode])
      (by rw [hframe .energy rfl, hv, State.setVote_energy, hpulses]) (by rw [hruns]; exact hlanes)
      (by unfold State.scanned at hscan ⊢; rw [hframe .host rfl, hv, State.setVote_host, hscan]) ((hregs.isSet (by decide)).trans hpad)
    refine ⟨u.updatePins, ?_, ?_, ?_, ?_⟩
    · unfold cmdPinTest
      dsimp only
      rw [if_neg (by simp [hnone]), if_neg (by simp [hmode, hpair]), if_neg (by omega), hu, hv]
    · rw [frame_finish_ok _ _ _ .vote rfl, hkept, htest]
    · rw [frame_finish_ok _ _ _ .vote rfl, hsink]
    · rw [sameRegs_finish_ok (by simp) (by simp) (by simp) (by simp)]
      exact (hregs.mono (by simp)).trans (hpins.mono (by simp))
  case lane =>
    refine completes_ok (body := fun _ => cmdLaneResync) (fun _ _ _ => rfl) (by decide) fun path w hw => ?_
    obtain ⟨hmode, hi⟩ := hw
    refine ⟨w.setLane (w.arg 9 0) { w.vote.lane (w.arg 9 0) with forced := [0, 1, 2, 3] }, ?_, ?_, ?_, ?_⟩
    · unfold cmdLaneResync
      dsimp only
      rw [if_neg (by omega), if_neg (by omega)]
    · rw [frame_finish_ok _ _ _ .vote rfl]
      unfold State.setLane
      rw [State.setVote_vote, VoteSt.lane_setLane _ _ hi hi, if_pos rfl]
    · rw [frame_finish_ok _ _ _ .vote rfl]
      unfold State.setLane
      rw [State.setVote_vote, VoteSt.lane_setLane _ _ hi hi, if_pos rfl]
    · rw [sameRegs_finish_ok (by simp) (by simp) (by simp) (by simp)]
      unfold State.setLane
      rw [sameRegs_setVote]
      exact SameRegs.refl w _

end Sys2Proof.Machine
end

section
/-!
PROOFS. Sys2Proof/Proofs/HeddleC37.lean: C37.118 frames taken from the front of Heddle's input.
-/

namespace Sys2Proof.Machine

/-! A frame is taken from the front of Heddle's input (R121). -/

/-- A frame that is for a stream leaves the input, and nothing else changes. -/
theorem State.takeC37_some {s : State} {types : List Nat} {stamp : HedFrame → List Byte → Nat} {x : HedFrame × Nat × List Byte × Nat}
    (h : (s.takeC37 types stamp).2 = some x) : s.takeC37 types stamp = (s.setHedQ s.hedQ.tail, some x) := by
  unfold State.takeC37 at h ⊢
  cases hq : s.hedQ with
  | nil => rw [hq] at h; cases h
  | cons f r =>
    rw [hq] at h
    dsimp only at h ⊢
    by_cases htype : (!f.isC37 || !types.contains f.c37Type) = true
    case pos => rw [if_pos htype] at h; cases h
    case neg =>
      rw [if_neg htype] at h ⊢
      by_cases hgood : (!c37Good f.payload) = true
      case pos => rw [if_pos hgood] at h; cases h
      case neg =>
        rw [if_neg hgood] at h ⊢
        cases hfind : (s.setHedQ r).findByStamp (if f.kind = 1 then 1 else 2) (beAt f.payload 4 2) 0 f (stamp f) with
        | none => rw [hfind] at h; cases h
        | some y =>
          obtain ⟨sid, e, t⟩ := y
          rw [hfind] at h
          dsimp only at h ⊢
          split at h
          · cases h
          next hon => rw [if_neg hon, ← h]; rfl

/-! The streams' states (R126). -/

theorem State.streamSt_congr {s u : State} (h : u.heddle = s.heddle) (sid : Nat) : u.streamSt sid = s.streamSt sid := by
  unfold State.streamSt
  rw [h]

theorem State.streamSt_setStream (s : State) (sid st : Nat) : (s.setStream sid st).streamSt sid = { s.streamSt sid with st := st } :=
  State.streamSt_putStream _ _ _

/-- A stream that is down or silent is up again. -/
theorem State.streamUp_streamSt {s : State} {sid : Nat} (h : (s.streamSt sid).st = 1 ∨ (s.streamSt sid).st = 3) :
    (s.streamUp sid).streamSt sid = { s.streamSt sid with st := 2 } := by
  unfold State.streamUp
  dsimp only
  rw [if_pos h, ← State.streamSt_setStream]
  refine State.streamSt_congr ?_ sid
  have hframe : ∀ p, Frame 0x100008d0 (s.setStream sid 2) (((s.setStream sid 2).event E.HEDDLE_STREAM_UP sid p).raise I.HEDDLE_STREAM_UP) := fun p => by
    simp (disch := decide) only [Frame.raise, Frame.event, Frame.refl]
  exact hframe _ .heddle rfl

/-- A configuration that does not match holds the stream; one that does releases it. -/
theorem State.judgeConfig_st (s : State) (sid received expected cnt : Nat) :
    (received ≠ expected → ((s.judgeConfig sid received expected cnt).streamSt sid).st = 5) ∧
      (received = expected → ((s.judgeConfig sid received expected cnt).streamSt sid).st ≠ 4 ∧
        ((s.judgeConfig sid received expected cnt).streamSt sid).st ≠ 5) := by
  have hevent : ∀ (w : State) c p, ((w.event c sid p).streamSt sid) = w.streamSt sid := fun w c p =>
    State.streamSt_congr ((Frame.event (m := 0x100008d0) rfl).mpr (Frame.refl _ w) .heddle rfl) sid
  have hraise : ∀ (w : State), ((w.raise I.HEDDLE_CFG_CHANGE).streamSt sid) = w.streamSt sid := fun w =>
    State.streamSt_congr (by simp) sid
  unfold State.judgeConfig
  dsimp only
  refine ⟨fun hne => ?_, fun he => ?_⟩
  · rw [if_neg hne]
    split
    next h => exact h
    next => rw [hraise, hevent, State.streamSt_setStream]
  · rw [if_pos he]
    split
    next =>
      rw [hevent, State.streamSt_setStream]
      exact (by decide : (2 : Nat) ≠ 4 ∧ (2 : Nat) ≠ 5)
    next h => exact ⟨fun h4 => h (.inl h4), fun h5 => h (.inr h5)⟩

theorem State.judge_st (s : State) (sid received expected cnt : Nat) :
    (s.judge sid received expected cnt).streamSt sid = (s.judgeConfig sid received expected cnt).streamSt sid := by
  unfold State.judge
  dsimp only
  split
  · refine State.streamSt_congr ?_ sid
    exact (Frame.reedDown (m := 0x160008d0) rfl).mpr (Frame.refl _ _) .heddle rfl
  · rfl

/-- A stamp that is taken stands among the stream's last ones (R125). -/
theorem StreamSt.accept_stamps {x : StreamSt} {rate stamp : Nat} (h : x.judge rate stamp = 0) (mono : Nat) (heard : Nat × List Byte × List Byte × Nat) :
    (x.accept rate stamp mono heard).stamps.contains stamp = true := by
  unfold StreamSt.judge at h
  have hfar : ¬(stamp < x.last ∧ 64 * 1000000000 < (x.last - stamp) * rate) := by
    intro hf
    split at h
    · cases h
    · exact absurd h (by decide)
  unfold StreamSt.accept
  simp only [List.contains_iff_mem, List.mem_filter, List.mem_cons, true_or, true_and, decide_eq_true_eq]
  split
  · simp
  · by_cases hlt : stamp < x.last
    · rw [Nat.max_eq_left hlt.le]
      omega
    · rw [Nat.max_eq_right (by omega), Nat.sub_self, Nat.zero_mul]
      omega

/-- A stream that nothing holds is handled as it is. -/
theorem State.underHold_free {s : State} {sid : Nat} (h : (s.streamSt sid).freed = none) (t : Nat) (f : State → State) :
    s.underHold sid t f = f s := by
  unfold State.underHold
  rw [h]

/-- What Heddle puts to the later stages leaves its input and its streams. -/
theorem frame_blocks_loomRun {s : State} {sid : Nat} {f : HedFrame} {frac t : Nat} (l : List ((List Byte × Nat × List Byte) × Nat)) :
    Frame 0x39440dd0 s (l.foldl (fun s b => s.blockItems sid f frac t b.2 b.1) s).loomRun := by
  rw [Frame.loomRun (by decide)]
  refine (Frame.foldl (fun u x => ?_) l s).mpr (Frame.refl _ s)
  exact (Frame.blockItems (by decide)).mpr (Frame.refl _ u)

/-- Settles O31, frame by frame. -/
theorem heddleC37Happens : Obligations.HeddleC37Happens := by
  refine ⟨fun f sid e t => ?data, fun f sid e t sig cnt => ?config, fun f sid e t => ?header, fun f sid e t => ?command⟩
  case data =>
    refine happens (f := fun s => s.c37Data.loomRun) (fun _ _ => rfl) fun w hw => ?_
    obtain ⟨htake, hfree, hversion, hlen, hlayout, hjudge, hst, hquiet⟩ := hw
    have htaken := State.takeC37_some htake
    obtain ⟨v, hv⟩ : ∃ v : State, v = w.setHedQ w.hedQ.tail := ⟨_, rfl⟩
    have hstream : v.streamSt sid = w.streamSt sid := State.streamSt_congr (by rw [hv]; simp) sid
    have hcfg : v.cfgAt secStreams t = w.cfgAt secStreams t := by rw [hv]; rfl
    obtain ⟨x, hx⟩ : ∃ x, x = ((w.streamSt sid).accept (stRate e) t w.bases.mono (f.port, slice f.bytes 6 6, f.srcIp, f.srcUdp)).frame
      w.bases.mono := ⟨_, rfl⟩
    obtain ⟨z, hz⟩ : ∃ z : State, z = ((if (v.c37Stamp f.payload e).2 then v.count R.HEDDLE_SNAP_MISS else v).putStream sid x).count
      R.HEDDLE_FRAMES_OK := ⟨_, rfl⟩
    have hzstream : z.streamSt sid = x := by
      rw [hz]
      exact (State.streamSt_congr (State.count_heddle _ _ _) sid).trans (State.streamSt_putStream _ _ _)
    have hzq : z.hedQ = w.hedQ.tail := by
      have hframe : Frame 0x200010 v z := by
        rw [hz]
        simp (disch := decide) only [Frame.count, Frame.putStream, Frame.ite, Frame.refl, ite_self]
      rw [hframe .hedQ rfl, hv, State.setHedQ_hedQ]
    have hzup : (z.streamUp sid).streamSt sid = { x with st := 2 } := by
      rw [State.streamUp_streamSt (by rw [hzstream, hx]; exact hst), hzstream]
    have hupq : (z.streamUp sid).hedQ = w.hedQ.tail := by
      rw [(Frame.streamUp (m := 0x102008d0) rfl).mpr (Frame.refl _ z) .hedQ rfl, hzq]
    obtain ⟨blocks, hblocks⟩ : ∃ l, l = frameBlocks ((List.range (stBlocks e)).map fun i =>
      entryOf (w.cfgAt secStreams t) 1 (stFirstBlock e + i)) (stFirstTid e) (f.payload.drop 14) := ⟨_, rfl⟩
    rw [← hblocks] at hquiet
    have hnone : blocks.any (fun b => bit (beAt b.2.2 0 2) 10) = false := by
      rw [List.any_eq_false]
      intro b hb
      rw [hquiet b hb]
      exact Bool.false_ne_true
    have hbases : (if (v.c37Stamp f.payload e).2 then v.count R.HEDDLE_SNAP_MISS else v).bases = w.bases := by
      rw [hv]
      split <;> simp
    have hval : w.c37Data = (blocks.zipIdx).foldl (fun s b => s.blockItems sid f (beAt f.payload 10 4) t b.2 b.1) (z.streamUp sid) := by
      unfold State.c37Data
      rw [htaken]
      dsimp only
      rw [← hv, hcfg, if_neg (by simpa using hversion), if_neg (by rw [hlen, hlayout, hlen]; simp), hstream, hjudge, if_neg (by decide),
        if_neg (by decide), ← hblocks]
      rw [hbases, ← hx, ← hz, State.underHold_free (by rw [hzstream, hx]; exact hfree), hnone, if_neg Bool.false_ne_true]
    have hframe : Frame 0x39440dd0 (z.streamUp sid) (w.c37Data).loomRun := by
      rw [hval]
      exact frame_blocks_loomRun _
    rw [hframe .hedQ rfl, State.streamSt_congr (hframe .heddle rfl) sid, hzup]
    refine ⟨hupq, rfl, ?_, ?_⟩
    · rw [hx]
      rfl
    · rw [hx]
      exact StreamSt.accept_stamps hjudge w.bases.mono (f.port, slice f.bytes 6 6, f.srcIp, f.srcUdp)
  case config =>
    refine happens (f := fun s => s.c37Config.loomRun) (fun _ _ => rfl) fun w hw => ?_
    obtain ⟨htake, hsig⟩ := hw
    obtain ⟨v, hv⟩ : ∃ v : State, v = (w.setHedQ w.hedQ.tail).cfgCopy sid f.c37Type f := ⟨_, rfl⟩
    obtain ⟨z, hz⟩ : ∃ z : State, z = v.putStream sid { v.streamSt sid with cfg3 := f.c37Type == 5 } := ⟨_, rfl⟩
    have hval : w.c37Config = z.judge sid sig (stCfgSig e) cnt := by
      unfold State.c37Config
      rw [State.takeC37_some htake]
      dsimp only
      rw [hsig, ← hv, ← hz]
    have hrun : Frame 0x39040dd0 w.c37Config w.c37Config.loomRun := (Frame.loomRun (by decide)).mpr (Frame.refl _ _)
    have hq : w.c37Config.hedQ = w.hedQ.tail := by
      have hframe : Frame 0x162408d0 (w.setHedQ w.hedQ.tail) w.c37Config := by
        rw [hval, hz, hv]
        simp (disch := decide) only [Frame.judge, Frame.putStream, Frame.cfgCopy, Frame.refl]
      rw [hframe .hedQ rfl, State.setHedQ_hedQ]
    obtain ⟨hdiffers, hmatches⟩ := z.judgeConfig_st sid sig (stCfgSig e) cnt
    rw [hrun .hedQ rfl, hq, State.streamSt_congr (hrun .heddle rfl) sid, hval, State.judge_st]
    exact ⟨rfl, hdiffers, hmatches⟩
  case header =>
    refine happens (f := State.c37Header) (fun _ _ => rfl) fun w hw => ?_
    obtain ⟨htake, hon, hdir, hfits⟩ := hw
    obtain ⟨v, hv⟩ : ∃ v : State, v = w.setHedQ w.hedQ.tail := ⟨_, rfl⟩
    obtain ⟨q, hq⟩ : ∃ q, q = w.fld F.HEDDLE_QUEUES_CFG_QUEUE := ⟨_, rfl⟩
    rw [← hq] at hdir hfits ⊢
    have hlt : q < 256 := by
      rw [hq]
      exact Nat.lt_of_lt_of_le (bits_lt _ _ _) (by decide)
    obtain ⟨d, hd⟩ : ∃ d : List Byte, d = leBytes 8 f.stamp ++ leBytes 2 sid ++ leBytes 1 f.port ++ leBytes 1 1 ++ leBytes 2 f.payload.length ++
      leBytes 2 0 := ⟨_, rfl⟩
    have hlen : (d ++ f.payload).length = 16 + f.payload.length := by
      rw [hd]
      simp [leBytes]
      omega
    obtain ⟨htaken, hpackets, -⟩ := v.commit_fits (payload := d ++ f.payload) hlt (by rw [hv]; exact hdir) (by rw [hlen, hv]; exact hfits)
    have hval : w.c37Header = (v.commit q (d ++ f.payload)).1 := by
      unfold State.c37Header
      rw [State.takeC37_some htake]
      dsimp only
      rw [← hv, if_pos (by rw [hv]; exact hon)]
      unfold State.cfgCopy
      dsimp only
      rw [← hd, show v.fld F.HEDDLE_QUEUES_CFG_QUEUE = q by rw [hq, hv]; rfl, htaken, if_pos rfl]
    have hqueue : v.queue q = w.queue q := by rw [hv]; rfl
    rw [hval, hpackets, hqueue, ← hd]
    refine ⟨?_, rfl⟩
    rw [(Frame.commit (m := 0x100408d0) rfl).mpr (Frame.refl _ v) .hedQ rfl, hv, State.setHedQ_hedQ]
  case command =>
    refine happens (f := State.c37Command) (fun _ _ => rfl) fun w htake => ?_
    have hval : w.c37Command = (w.setHedQ w.hedQ.tail).count R.HEDDLE_TYPE_DROP := by
      unfold State.c37Command
      rw [State.takeC37_some htake]
    rw [hval, sameRegs_count (by simp), sameRegs_setHedQ]
    exact ⟨by simp, State.regN_count_same _ _ _, SameRegs.refl w _⟩

end Sys2Proof.Machine
end

section
/-!
PROOFS. Sys2Proof/Proofs/OscEvents.lean: stale trackers, checkpoints and shape reports.
-/

namespace Sys2Proof.Machine

/-! Trackers (R216). -/

@[simp] theorem State.tracker_putTracker (s : State) (k : Nat) (x : OscTracker) : (s.putTracker k x).tracker k = x := by
  unfold State.putTracker State.tracker
  simp

theorem State.tracker_congr {s u : State} (h : u.osc.trackers = s.osc.trackers) (k : Nat) : u.tracker k = s.tracker k := by
  unfold State.tracker
  rw [h]

/-- A stale tracker has an empty window and its slots FREE, and it is counted. -/
theorem State.stale_effect (s : State) (k at' : Nat) :
    ((s.stale k at').tracker k).st = 3 ∧ ((s.stale k at').tracker k).window = [] ∧ ((s.stale k at').tracker k).modes = (s.tracker k).freed ∧
      (s.stale k at').regN R.OSC_STALE = (s.regN R.OSC_STALE + 1) % 2 ^ 32 := by
  obtain ⟨x, hx⟩ : ∃ x : OscTracker, x = { s.tracker k with st := 3, window := [], sinceHop := 0, modes := (s.tracker k).freed } := ⟨_, rfl⟩
  obtain ⟨v, hv⟩ : ∃ v : State, v = ((s.putTracker k x).clearJobs k).count R.OSC_STALE := ⟨_, rfl⟩
  obtain ⟨u, hu⟩ : ∃ u : State, u = (v.event E.OSC_TRACKER_STALE k (leBytes 2 k ++ leBytes 1 (s.tracker k).reason)).raise I.OSC_STALE := ⟨_, rfl⟩
  have hval : s.stale k at' = u.formRecord k at' := by rw [hu, hv, hx]; rfl
  have hv' : v.tracker k = x := by
    rw [hv]
    refine (State.tracker_congr ?_ k).trans (s.tracker_putTracker k x)
    unfold State.clearJobs
    simp
  have hframe : Frame 0x100008d0 v u := by
    rw [hu]
    simp (disch := decide) only [Frame.raise, Frame.event, Frame.refl]
  have hu' : u.tracker k = x := (State.tracker_congr (by rw [hframe .osc rfl]) k).trans hv'
  have hformed : (s.stale k at').tracker k = { x with coming := x.coming ++ [(⟨x.st, x.tag, x.modes.map (u.featureOf x)⟩, at')] } := by
    rw [hval]
    unfold State.formRecord
    dsimp only
    rw [State.tracker_putTracker, hu']
  rw [hformed]
  refine ⟨by rw [hx], by rw [hx], by rw [hx], ?_⟩
  have hregs : (u.formRecord k at').regN R.OSC_STALE = u.regN R.OSC_STALE := by
    unfold State.formRecord State.putTracker
    simp
  rw [hval, hregs, hu, State.regN_raise _ _ (by decide), State.regN_event _ _ _ _ (by decide) (by decide), hv, State.regN_count_same]
  unfold State.clearJobs State.putTracker
  simp

/-! Checkpoints in the Archive (R225). -/

/-- What a checkpoint holds depends on the trackers, the draft and GRID. -/
theorem State.ckptSet_congr {s u : State} {l : List Nat} (ho : u.osc = s.osc) (hb : u.bases = s.bases) (hr : SameRegs s u l)
    (hlo : R.DRAFT_ID_LO ∉ l) (hhi : R.DRAFT_ID_LO + 4 ∉ l) : u.ckptSet = s.ckptSet := by
  have hbytes : u.ckptBytes = s.ckptBytes := by
    have hid : u.draftId = s.draftId := by
      unfold State.draftId State.pairAt
      rw [hr _ hlo, hr _ hhi]
    funext k x
    unfold State.ckptBytes
    rw [hid, hb]
  unfold State.ckptSet
  rw [ho, hbytes]

/-- A set of checkpoints that is stored changes nothing below its MiB. -/
theorem foldl_storeCkpt_below (l : List (List Byte)) (s : State) {a : Nat} (h : a < 125 * 2 ^ 20) :
    smGet 0xFF (l.foldl (fun s b => s.setArchive (memStore 0xFF s.archive (ckptAddr (leAt b 0 2)) b)) s).archive a = smGet 0xFF s.archive a := by
  induction l generalizing s with
  | nil => rfl
  | cons b l ih =>
    rw [List.foldl_cons, ih, State.setArchive_archive, smGet_memStore, if_neg]
    unfold ckptAddr
    omega

/-- A set of one checkpoint stands where its tracker's number says. -/
theorem State.writeCkpt_effect (s : State) :
    s.writeCkpt.osc = { s.osc with archAt := some s.bases.mono } ∧
      (∀ b, s.ckptSet = [b] → memRead 0xFF s.writeCkpt.archive (ckptAddr (leAt b 0 2)) b.length = b) ∧
      ∀ a : Nat, a < 125 * 2 ^ 20 → smGet 0xFF s.writeCkpt.archive a = smGet 0xFF s.archive a := by
  obtain ⟨v, hv⟩ : ∃ v : State, v = s.setArchive (memClear s.archive (125 * 2 ^ 20) (2 ^ 20)) := ⟨_, rfl⟩
  obtain ⟨u, hu⟩ : ∃ u : State, u = s.ckptSet.foldl (fun s b => s.setArchive (memStore 0xFF s.archive (ckptAddr (leAt b 0 2)) b)) v := ⟨_, rfl⟩
  have hval : s.writeCkpt = (u.setOsc { u.osc with archAt := some u.bases.mono }).raise I.OSC_CKPT_DONE := by rw [hu, hv]; rfl
  have hframe : Frame 0x200 s u := by
    rw [hu, hv, Frame.foldl fun w b => (Frame.setArchive (m := 0x200) rfl).mpr (Frame.refl _ w)]
    exact (Frame.setArchive (m := 0x200) rfl).mpr (Frame.refl _ s)
  have harchive : s.writeCkpt.archive = u.archive := by rw [hval]; simp
  refine ⟨?_, fun b hb => ?_, fun a ha => ?_⟩
  · rw [hval, State.raise_osc, State.setOsc_osc, hframe .osc rfl, hframe .bases rfl]
  · rw [harchive, hu, hb]
    exact memRead_memStore _ _ _ _
  · rw [harchive, hu, foldl_storeCkpt_below _ _ ha, hv, State.setArchive_archive, smGet_memClear, if_neg (by omega)]

/-! Records for a queue that may not take them (R354). -/

theorem LedgerSt.bursts_of_kept {l m : LedgerSt} (h : l.kept = m.kept) : l.bursts = m.bursts :=
  (congrArg LedgerSt.bursts h : l.kept.bursts = m.kept.bursts)

@[simp] theorem State.bursts_event (s : State) (code src : Nat) (p : List Byte) : (s.event code src p).ledger.bursts = s.ledger.bursts :=
  LedgerSt.bursts_of_kept (s.event_kept code src p)

theorem State.bursts_burst (s : State) (code src : Nat) (head : List Byte) (n : Nat) : (s.burst code src head n).ledger.bursts =
    smPut s.ledger.bursts (burstKey code src) (smGet 0 s.ledger.bursts (burstKey code src) + n) := by
  unfold State.burst
  dsimp only
  rw [State.bursts_event, State.setLedger_ledger]

theorem sameRegs_burst {s u : State} {l : List Nat} {code src : Nat} {head : List Byte} {n : Nat} (h : R.HOST_PBAn 0 ∈ l)
    (k : R.PAIR_MIRROR_SENT ∈ l) : SameRegs s (u.burst code src head n) l ↔ SameRegs s u l := by
  unfold State.burst
  rw [sameRegs_event h k, sameRegs_setLedger]

/-- The registers that a record for a queue may write. -/
abbrev commitRegs (q : Nat) : List Nat := R.QUEUE_Qn_LOST q :: R.QUEUE_Qn_PACKETS q :: levelRegs q ++ eventRegs

theorem State.sameRegs_commit (s : State) (q : Nat) (payload : List Byte) : SameRegs s (s.commit q payload).1 (commitRegs q) := by
  unfold State.commit
  dsimp only
  split
  · exact SameRegs.refl s _
  · split
    · dsimp only
      rw [sameRegs_raise (by simp), sameRegs_burst (by simp) (by simp), sameRegs_count (by simp)]
      exact SameRegs.refl s _
    · dsimp only
      rw [sameRegs_count (by simp)]
      unfold State.endBurst
      rw [sameRegs_setLedger, (State.sameRegs_putLevel _ _ _).thru (by simp)]
      exact SameRegs.refl s _

/-- A register of OSC is none of a queue's. -/
theorem not_mem_commitRegs {q a : Nat} (h : a < 0x800000) : a ∉ commitRegs q := by
  simp only [List.mem_cons, List.mem_append, List.not_mem_nil, or_false, R.QUEUE_Qn_LOST, R.QUEUE_Qn_PACKETS, R.QUEUE_Qn_LEVEL,
    R.QUEUE_Qn_WM_STATUS, R.HOST_PBAn, R.PAIR_MIRROR_SENT]
  omega

/-- A queue that is not one to the host, or has no room, takes no record, and only its own burst grows. -/
theorem State.commit_refuses {s : State} {q : Nat} {payload : List Byte}
    (h : s.queueIs q 0 = false ∨ s.queueSize q < (s.queue q).level + packetSize payload.length) :
    (s.commit q payload).2 = false ∧
      ∀ k, k ≠ burstKey E.QUEUE_LOST q → smGet 0 (s.commit q payload).1.ledger.bursts k = smGet 0 s.ledger.bursts k := by
  unfold State.commit
  dsimp only
  by_cases hdir : s.queueIs q 0 = true
  case neg =>
    rw [if_pos (by simpa using hdir)]
    exact ⟨rfl, fun _ _ => rfl⟩
  case pos =>
    have hfull := h.resolve_left (by rw [hdir]; decide)
    rw [if_neg (by simp [hdir]), if_pos hfull]
    refine ⟨rfl, fun k hk => ?_⟩
    dsimp only
    rw [State.raise_ledger, State.bursts_burst, State.count_ledger]
    exact smGet_smPut_other _ _ _ fun e => hk e.symm

/-! Shape reports (R228). -/

@[simp] theorem State.shapeJob_putShape (s : State) (j : Nat) (x : ShapeJob) : (s.putShape j x).shapeJob j = x := by
  unfold State.putShape State.shapeJob
  simp

theorem State.shapeJob_congr {s u : State} (h : u.osc = s.osc) (j : Nat) : u.shapeJob j = s.shapeJob j := by
  unfold State.shapeJob
  rw [h]

/-- A job whose samples begin anew. -/
def ShapeJob.fresh (x : ShapeJob) : ShapeJob := { x with members := x.members.map (fun m => { m with absent := 0, samples := 0, orQ := 0 }) }

/-- The samples of a job begin anew. -/
def State.freshShape (s : State) (j : Nat) : State := s.putShape j (s.shapeJob j).fresh

/-- A job's report at its period has been taken up. -/
def State.shapeTaken (s : State) (j : Nat) : State := s.putShape j { s.shapeJob j with last := s.bases.mono }

/-- May the job's mode report: is its reference slot LIVE, and has it been for TAU (R228)? -/
def State.shapeReady (s : State) (j : Nat) : Bool :=
  ((s.tracker (jeTracker (s.shapeJob j).entry)).modes.getD (jeMode (s.shapeJob j).entry) {}).live && (s.shapeJob j).gen.isSome &&
    decide (jeTau (s.shapeJob j).entry ≤ ((s.bases.mono - (s.shapeJob j).since : Nat) : Rat) / (1000000000 : Nat))

/-- A job is due for a report: OSC runs, the job is enabled and not set aside, and its period is over. -/
structure State.ShapeDue (s : State) (j : Nat) : Prop where
  on : s.domain pdAna = 0
  mode : 3 ≤ s.mode ∧ s.mode ≤ 10
  enabled : jeFlag (s.shapeJob j).entry 0 = true
  wanted : s.stormOff (jeFlag (s.shapeJob j).entry 1) = false
  period : (s.shapeJob j).last + 1000000000 * jePeriod (s.shapeJob j).entry ≤ s.bases.mono

theorem jeFlag_nil (i : Nat) : jeFlag [] i = false := by
  unfold jeFlag
  rw [show leAt ([] : List Byte) 1 1 = 0 from rfl]
  exact Nat.zero_testBit i

/-- What a due job does (R228). -/
theorem State.shapeReport_due {s : State} {j : Nat} (h : s.ShapeDue j) : s.shapeReport j =
    if s.shapeReady j then
      let v := s.shapeTaken j
      let c := v.commit (s.fld F.OSC_QUEUES_SHAPE_QUEUE) (s.shapeRecord j)
      if c.2 then
        let u := (c.1.count R.OSC_SHAPE_RECORDS).endBurst E.OSC_SHAPE_QFULL j
        (u.draw.putShape j { u.shapeJob j with first := false }).freshShape j
      else (((c.1.count R.OSC_SHAPE_QFULL).raise I.OSC_SHAPE_QFULL).burst E.OSC_SHAPE_QFULL j (leBytes 1 j) 1).freshShape j
    else ((s.shapeTaken j).count R.OSC_SHAPE_SKIPPED).freshShape j := by
  have hentry : (s.shapeJob j).entry.isEmpty = false := by
    cases he : (s.shapeJob j).entry with
    | nil => have := h.enabled; rw [he, jeFlag_nil] at this; cases this
    | cons b l => rfl
  have hcapturing : s.capturing = true := decide_eq_true h.mode
  have hrecord : (s.shapeTaken j).shapeRecord j = s.shapeRecord j := by
    unfold State.shapeRecord State.shapeTaken
    rw [State.shapeJob_putShape]
    rfl
  have hopen : ¬(s.domain pdAna ≠ 0 ∨ (!s.capturing) = true ∨ (s.shapeJob j).entry.isEmpty = true ∨ (!jeFlag (s.shapeJob j).entry 0) = true ∨
      s.stormOff (jeFlag (s.shapeJob j).entry 1) = true ∨ s.bases.mono < (s.shapeJob j).last + 1000000000 * jePeriod (s.shapeJob j).entry) := by
    rw [h.on, hcapturing, hentry, h.enabled, h.wanted]
    have := h.period
    simp
    omega
  unfold State.shapeReport
  dsimp only
  rw [if_neg hopen]
  by_cases hready : s.shapeReady j = true
  case pos =>
    rw [if_pos hready]
    refine (if_neg (by rw [Bool.not_eq_true']; exact fun e => absurd (hready.symm.trans e) (by decide))).trans ?_
    rw [← hrecord]
    rfl
  case neg =>
    rw [if_neg hready]
    refine (if_pos (by rw [Bool.not_eq_true']; exact Bool.eq_false_iff.mpr hready)).trans ?_
    rfl

theorem State.freshShape_job (s : State) (j : Nat) : (s.freshShape j).shapeJob j = (s.shapeJob j).fresh := State.shapeJob_putShape _ _ _

theorem State.shapeTaken_job (s : State) (j : Nat) : (s.shapeTaken j).shapeJob j = { s.shapeJob j with last := s.bases.mono } :=
  State.shapeJob_putShape _ _ _

theorem sameRegs_freshShape {s u : State} {l : List Nat} {j : Nat} : SameRegs s (u.freshShape j) l ↔ SameRegs s u l := by
  unfold State.freshShape State.putShape
  rw [sameRegs_setOsc]

theorem sameRegs_shapeTaken {s u : State} {l : List Nat} {j : Nat} : SameRegs s (u.shapeTaken j) l ↔ SameRegs s u l := by
  unfold State.shapeTaken State.putShape
  rw [sameRegs_setOsc]

@[simp] theorem State.queueIs_shapeTaken (s : State) (j q dir : Nat) : (s.shapeTaken j).queueIs q dir = s.queueIs q dir := by
  unfold State.shapeTaken State.putShape State.queueIs
  simp

@[simp] theorem State.queueSize_shapeTaken (s : State) (j q : Nat) : (s.shapeTaken j).queueSize q = s.queueSize q := by
  unfold State.shapeTaken State.putShape State.queueSize
  simp

@[simp] theorem State.queue_shapeTaken (s : State) (j q : Nat) : (s.shapeTaken j).queue q = s.queue q := by
  unfold State.shapeTaken State.putShape State.queue
  simp

/-- A due and ready job whose queue has room reports (R228). -/
theorem State.shapeReport_reports {s : State} {j : Nat} (h : s.ShapeDue j) (hready : s.shapeReady j = true) {q : Nat}
    (hq : s.fld F.OSC_QUEUES_SHAPE_QUEUE = q) (hdir : s.queueIs q 0 = true)
    (hfits : (s.queue q).level + packetSize (s.shapeRecord j).length ≤ s.queueSize q) :
    ((s.shapeReport j).queue q).packets = (s.queue q).packets ++ [((s.queue q).seq, s.shapeRecord j)] ∧
      (s.shapeReport j).regN R.OSC_SHAPE_RECORDS = (s.regN R.OSC_SHAPE_RECORDS + 1) % 2 ^ 32 ∧
      (s.shapeReport j).regN R.OSC_SHAPE_SKIPPED = s.regN R.OSC_SHAPE_SKIPPED ∧
      (s.shapeReport j).shapeJob j = { (s.shapeJob j).fresh with last := s.bases.mono, first := false } := by
  have hlt : q < 256 := by
    rw [← hq]
    exact Nat.lt_of_lt_of_le (bits_lt _ _ _) (by decide)
  obtain ⟨c, hc⟩ : ∃ c, c = (s.shapeTaken j).commit q (s.shapeRecord j) := ⟨_, rfl⟩
  obtain ⟨htaken, hpackets, -⟩ := State.commit_fits (s := s.shapeTaken j) (payload := s.shapeRecord j) hlt (by simpa using hdir)
    (by simpa using hfits)
  rw [← hc, State.queue_shapeTaken] at hpackets
  rw [← hc] at htaken
  have hcosc : c.1.osc = (s.shapeTaken j).osc := by
    rw [hc]
    exact (Frame.commit (m := 0x100408d0) rfl).mpr (Frame.refl _ _) .osc rfl
  have hregs : SameRegs s c.1 (commitRegs q) := by
    rw [hc]
    exact (sameRegs_shapeTaken.mpr (SameRegs.refl s _)).trans (State.sameRegs_commit _ _ _)
  obtain ⟨u, hu⟩ : ∃ u : State, u = (c.1.count R.OSC_SHAPE_RECORDS).endBurst E.OSC_SHAPE_QFULL j := ⟨_, rfl⟩
  have hval : s.shapeReport j = (u.draw.putShape j { u.shapeJob j with first := false }).freshShape j := by
    rw [State.shapeReport_due h, if_pos hready]
    dsimp only
    rw [hq, ← hc, if_pos htaken, ← hu]
  have hjob : u.shapeJob j = { s.shapeJob j with last := s.bases.mono } := by
    rw [← State.shapeTaken_job]
    refine State.shapeJob_congr ?_ j
    rw [← hcosc, hu]
    unfold State.endBurst
    simp
  have hqueues : (s.shapeReport j).queues = c.1.queues := by
    rw [hval, hu]
    unfold State.freshShape State.putShape State.endBurst
    simp
  have hreg : ∀ a, (s.shapeReport j).regN a = (c.1.count R.OSC_SHAPE_RECORDS).regN a := fun a => by
    refine regN_congr ?_ a
    rw [hval, hu]
    unfold State.freshShape State.putShape State.endBurst
    simp
  refine ⟨by rw [State.queue_congr hqueues, hpackets], ?_, ?_, ?_⟩
  · rw [hreg, State.regN_count_same, hregs _ (not_mem_commitRegs (by decide))]
  · rw [hreg]
    exact (State.regN_putReg_other _ _ (by decide)).trans (hregs _ (not_mem_commitRegs (by decide)))
  · rw [hval, State.freshShape_job, State.shapeJob_putShape, hjob]
    rfl

theorem burstKey_queueLost (q j : Nat) : burstKey E.OSC_SHAPE_QFULL j ≠ burstKey E.QUEUE_LOST q := by
  simp only [burstKey, E.OSC_SHAPE_QFULL, E.QUEUE_LOST]
  omega

/-- A due and ready job whose queue takes no record counts that, also in its burst (R228). -/
theorem State.shapeReport_refused {s : State} {j : Nat} (h : s.ShapeDue j) (hready : s.shapeReady j = true) {q : Nat}
    (hq : s.fld F.OSC_QUEUES_SHAPE_QUEUE = q)
    (hrefused : s.queueIs q 0 = false ∨ s.queueSize q < (s.queue q).level + packetSize (s.shapeRecord j).length) :
    (s.shapeReport j).regN R.OSC_SHAPE_QFULL = (s.regN R.OSC_SHAPE_QFULL + 1) % 2 ^ 32 ∧
      (s.shapeReport j).regN R.OSC_SHAPE_RECORDS = s.regN R.OSC_SHAPE_RECORDS ∧
      smGet 0 (s.shapeReport j).ledger.bursts (burstKey E.OSC_SHAPE_QFULL j) = smGet 0 s.ledger.bursts (burstKey E.OSC_SHAPE_QFULL j) + 1 ∧
      (s.shapeReport j).shapeJob j = { (s.shapeJob j).fresh with last := s.bases.mono } := by
  obtain ⟨c, hc⟩ : ∃ c, c = (s.shapeTaken j).commit q (s.shapeRecord j) := ⟨_, rfl⟩
  obtain ⟨hnone, hbursts⟩ := State.commit_refuses (s := s.shapeTaken j) (q := q) (payload := s.shapeRecord j) (by simpa using hrefused)
  rw [← hc] at hnone hbursts
  have hledger : (s.shapeTaken j).ledger = s.ledger := by
    unfold State.shapeTaken State.putShape
    simp
  have hregs : SameRegs s c.1 (commitRegs q) := by
    rw [hc]
    exact (sameRegs_shapeTaken.mpr (SameRegs.refl s _)).trans (State.sameRegs_commit _ _ _)
  obtain ⟨v, hv⟩ : ∃ v : State, v = (c.1.count R.OSC_SHAPE_QFULL).raise I.OSC_SHAPE_QFULL := ⟨_, rfl⟩
  obtain ⟨u, hu⟩ : ∃ u : State, u = v.burst E.OSC_SHAPE_QFULL j (leBytes 1 j) 1 := ⟨_, rfl⟩
  have hval : s.shapeReport j = u.freshShape j := by
    rw [State.shapeReport_due h, if_pos hready]
    dsimp only
    rw [hq, ← hc, if_neg (by rw [hnone]; decide), ← hv, ← hu]
  have hosc : u.osc = (s.shapeTaken j).osc := by
    have hframe : Frame 0x100408d0 (s.shapeTaken j) u := by
      rw [hu, hv, hc]
      simp (disch := decide) only [Frame.burst, Frame.raise, Frame.count, Frame.commit, Frame.refl]
    exact hframe .osc rfl
  have hnoted : SameRegs (c.1.count R.OSC_SHAPE_QFULL) u eventRegs := by
    rw [hu, hv, sameRegs_burst (by simp) (by simp), sameRegs_raise (by simp)]
    exact SameRegs.refl _ _
  have hreg : ∀ a, a ∉ eventRegs → (s.shapeReport j).regN a = (c.1.count R.OSC_SHAPE_QFULL).regN a := fun a ha => by
    rw [hval, ← hnoted a ha]
    unfold State.freshShape State.putShape
    simp
  refine ⟨?_, ?_, ?_, ?_⟩
  · rw [hreg _ (by decide), State.regN_count_same, hregs _ (not_mem_commitRegs (by decide))]
  · rw [hreg _ (by decide)]
    exact (State.regN_putReg_other _ _ (by decide)).trans (hregs _ (not_mem_commitRegs (by decide)))
  · have hfresh : (s.shapeReport j).ledger = u.ledger := by
      rw [hval]
      unfold State.freshShape State.putShape
      simp
    rw [hfresh, hu, State.bursts_burst, smGet_smPut_same, hv, State.raise_ledger, State.count_ledger, hbursts _ (burstKey_queueLost q j), hledger]
  · rw [hval, State.freshShape_job, State.shapeJob_congr hosc, State.shapeTaken_job]
    rfl

/-- A write to the Archive that fails at most once changes nothing a checkpoint holds. -/
theorem State.archiveWrite_done {s : State} {n : Nat} (hn : n < 2) (hon : s.domain pdArchive = 0) :
    (s.archiveWrite n).2 = true ∧ Frame 0x100288d0 s (s.archiveWrite n).1 ∧
      SameRegs s (s.archiveWrite n).1 (R.FAULT_TRANSIENT :: (classCounter fcArchive).toList ++ eventRegs) := by
  obtain ⟨v, hv⟩ : ∃ v : State, v = s.setPower { s.power with archAt := s.bases.mono } := ⟨_, rfl⟩
  have hwake : s.wakeArchive = v := by rw [State.wakeArchive_of_on hon, hv]
  unfold State.archiveWrite
  dsimp only
  rw [hwake]
  have hpower : Frame 0x100288d0 s v := by
    rw [hv]
    exact (Frame.setPower (m := 0x100288d0) rfl).mpr (Frame.refl _ s)
  have hregs : SameRegs s v (R.FAULT_TRANSIENT :: (classCounter fcArchive).toList ++ eventRegs) := by
    rw [hv, sameRegs_setPower]
    exact SameRegs.refl s _
  split
  · exact ⟨rfl, hpower, hregs⟩
  · rw [if_pos (by omega)]
    obtain ⟨-, -, -, hsame⟩ := v.transient_effect (element pdArchive 0) (cls := fcArchive) (by decide)
    exact ⟨rfl, (Frame.transient (by decide)).mpr hpower, hregs.trans hsame⟩

/-- While checkpoints may be written, the due one is. -/
theorem State.ckptArchive_due {s : State} (hlo : 3 ≤ s.mode) (hhi : s.mode ≤ 10) (hon : s.domain pdArchive = 0) (hpfw : s.pfwLow = false)
    (hdue : s.osc.archAt.getD 0 + 600000000000 ≤ s.bases.mono) (n : Nat) :
    s.ckptArchive n = if (s.archiveWrite n).2 then (s.archiveWrite n).1.writeCkpt else (s.archiveWrite n).1 := by
  have hopen : s.ckptOpen = true := by
    unfold State.ckptOpen State.capturing
    rw [hon, hpfw]
    simp [hlo, hhi]
  unfold State.ckptArchive
  dsimp only
  rw [if_neg (by rw [hopen]; simp; omega)]

/-- Settles O37, event by event. -/
theorem oscEventsHappen : Obligations.OscEventsHappen := by
  refine ⟨fun k hk => ?stale, fun n hn => ?written, fun n hn => ?failed, fun n hn => ?reported, fun n hn => ?skipped, fun n hn => ?full⟩
  case stale =>
    refine happens (f := (·.trackerStale k)) (fun _ _ => rfl) fun w hw => ?_
    obtain ⟨hon, hfree, hnew, hgap⟩ := hw
    have hval : w.trackerStale k = (w.stale k w.bases.mono).showOsc := by
      unfold State.trackerStale
      dsimp only
      rw [if_neg (by simp [hon, hfree, hnew, hgap])]
    have hosc : (w.trackerStale k).osc = (w.stale k w.bases.mono).osc := by
      rw [hval]
      exact (Frame.showOsc (m := 0x10) rfl).mpr (Frame.refl _ _) .osc rfl
    have hframe : Frame 0x900008d0 w (w.trackerStale k) := by
      rw [hval]
      simp (disch := decide) only [Frame.showOsc, Frame.stale, Frame.refl]
    obtain ⟨hst, hwindow, hmodes, hcount⟩ := w.stale_effect k w.bases.mono
    rw [State.tracker_congr (congrArg OscSt.trackers hosc) k]
    refine ⟨hst, hwindow, hmodes, ?_, hframe .archive rfl⟩
    rw [hval, ← hcount]
    unfold State.showOsc
    rw [State.regN_putFld_other _ _ (by decide), State.regN_putFld_other _ _ (by decide)]
  case written =>
    refine happens (f := (·.ckptArchive n)) (fun _ _ => rfl) fun w hw => ?_
    obtain ⟨hlo, hhi, hon, hpfw, hdue⟩ := hw
    obtain ⟨hdone, hframe, hregs⟩ := w.archiveWrite_done hn hon
    obtain ⟨hosc, hread, hbelow⟩ := (w.archiveWrite n).1.writeCkpt_effect
    have hval : w.ckptArchive n = (w.archiveWrite n).1.writeCkpt := by rw [State.ckptArchive_due hlo hhi hon hpfw hdue, if_pos hdone]
    have hset : (w.archiveWrite n).1.ckptSet = w.ckptSet :=
      State.ckptSet_congr (hframe .osc rfl) (hframe .bases rfl) hregs (by decide) (by decide)
    rw [hval]
    refine ⟨?_, fun b _ hb => hread b (hset.trans hb), fun a ha => ?_⟩
    · rw [hosc, hframe .osc rfl, hframe .bases rfl]
    · rw [hbelow a ha, hframe .archive rfl]
  case failed =>
    refine happens (f := (·.ckptArchive n)) (fun _ _ => rfl) fun w hw => ?_
    obtain ⟨hlo, hhi, hon, hpfw, hdue⟩ := hw
    have hfailed : (w.archiveWrite n).2 = false := by
      unfold State.archiveWrite
      dsimp only
      rw [if_neg (by omega), if_neg (by omega)]
    have hval : w.ckptArchive n = (w.archiveWrite n).1 := by rw [State.ckptArchive_due hlo hhi hon hpfw hdue, if_neg (by rw [hfailed]; decide)]
    have hframe : Frame 0x225807fdd8 w (w.archiveWrite n).1 := (Frame.archiveWrite (by decide)).mpr (Frame.refl _ w)
    rw [hval]
    exact ⟨hframe .osc rfl, hframe .archive rfl⟩
  case reported =>
    refine happens (f := (·.shapeReport n)) (fun _ _ => rfl) fun w hw => ?_
    obtain ⟨hon, hlo, hhi, henabled, hwanted, hperiod, hlive, hgen, htau, hdir, hfits⟩ := hw
    have hready : w.shapeReady n = true := by
      unfold State.shapeReady
      rw [hlive, hgen, decide_eq_true htau]
      rfl
    obtain ⟨hpackets, hrecords, hskipped, hjob⟩ :=
      State.shapeReport_reports ⟨hon, ⟨hlo, hhi⟩, henabled, hwanted, hperiod⟩ hready rfl hdir hfits
    rw [hjob]
    exact ⟨hpackets, hrecords, hskipped, rfl, rfl, rfl⟩
  case skipped =>
    refine happens (f := (·.shapeReport n)) (fun _ _ => rfl) fun w hw => ?_
    obtain ⟨hon, hlo, hhi, henabled, hwanted, hperiod, hnot⟩ := hw
    have hready : w.shapeReady n = false := by
      unfold State.shapeReady
      rcases hnot with h | h | h
      · rw [h]
        rfl
      · rw [h]
        simp
      · rw [decide_eq_false (not_le.mpr h)]
        simp
    have hval : w.shapeReport n = ((w.shapeTaken n).count R.OSC_SHAPE_SKIPPED).freshShape n := by
      rw [State.shapeReport_due ⟨hon, ⟨hlo, hhi⟩, henabled, hwanted, hperiod⟩, if_neg (by rw [hready]; decide)]
    have hafter : (w.shapeReport n).shapeJob n = { (w.shapeJob n).fresh with last := w.bases.mono } := by
      rw [hval, State.freshShape_job, State.shapeJob_congr (s := w.shapeTaken n) (by simp), State.shapeTaken_job]
      rfl
    rw [hafter, hval, sameRegs_freshShape, sameRegs_count (by simp)]
    unfold State.freshShape State.shapeTaken State.putShape
    rw [sameRegs_setOsc]
    refine ⟨?_, by simp, by simp, rfl, rfl, SameRegs.refl w _⟩
    rw [State.regN_setOsc, State.regN_count_same, State.regN_setOsc]
  case full =>
    refine happens (f := (·.shapeReport n)) (fun _ _ => rfl) fun w hw => ?_
    obtain ⟨hon, hlo, hhi, henabled, hwanted, hperiod, hlive, hgen, htau, hrefused⟩ := hw
    have hready : w.shapeReady n = true := by
      unfold State.shapeReady
      rw [hlive, hgen, decide_eq_true htau]
      rfl
    obtain ⟨hfull, hrecords, hburst, hjob⟩ :=
      State.shapeReport_refused ⟨hon, ⟨hlo, hhi⟩, henabled, hwanted, hperiod⟩ hready rfl hrefused
    rw [hjob]
    exact ⟨hfull, hrecords, hburst, rfl⟩

end Sys2Proof.Machine
end

section
/-!
PROOFS. Sys2Proof/Proofs/ShuttleEvents.lean: frames composed, announced and launched, and frames of the host.
-/

namespace Sys2Proof.Machine

/-! What sending leaves of a stream's registers (R339). -/

/-- The registers that say what a stream has sent. -/
abbrev sentRegs (n : Nat) : List Nat := [R.SHUTTLE_OSn_LAST_LO n, R.SHUTTLE_OSn_LAST_LO n + 4, R.SHUTTLE_OSn_SENT n, R.SHUTTLE_OSn_LATE n]

/-- The registers that say what a stream has sent are the same. -/
def SameSent (n : Nat) (s u : State) : Prop := ∀ a ∈ sentRegs n, u.regN a = s.regN a

namespace SameSent

variable {n : Nat} {s u v : State}

theorem refl (n : Nat) (s : State) : SameSent n s s := fun _ _ => rfl

theorem trans (h : SameSent n s u) (k : SameSent n u v) : SameSent n s v := fun a ha => (k a ha).trans (h a ha)

theorem of_regs {l : List Nat} (h : SameRegs s u l) (hl : ∀ a ∈ sentRegs n, a ∉ l) : SameSent n s u := fun a ha => h a (hl a ha)

theorem foldl {α : Type} {f : State → α → State} {l : List α} (h : ∀ w, ∀ x ∈ l, SameSent n w (f w x)) : SameSent n s (l.foldl f s) := by
  induction l generalizing s with
  | nil => exact refl n s
  | cons x l ih => exact (h s x List.mem_cons_self).trans (ih fun w y hy => h w y (List.mem_cons_of_mem _ hy))

end SameSent

/-- A stream's registers stand between those of the ports and those of the queues. -/
theorem sentRegs_range {n a : Nat} (hn : n ≤ 63) (h : a ∈ sentRegs n) : 0xb01004 ≤ a ∧ a < 0xb01804 ∧ a ≠ R.SHUTTLE_OSn_SLIP_MAX n := by
  simp only [List.mem_cons, List.not_mem_nil, or_false, R.SHUTTLE_OSn_LAST_LO, R.SHUTTLE_OSn_SENT, R.SHUTTLE_OSn_LATE, R.SHUTTLE_OSn_SLIP_MAX] at h ⊢
  omega

theorem State.sameRegs_transmit (s : State) (p : Nat) (bytes : List Byte) :
    SameRegs s (s.transmit p bytes) [R.PORT_TX_FRAMES p, R.PORT_TX_OCTETS_LO p, R.PORT_TX_OCTETS_LO p + 4] := by
  unfold State.transmit
  dsimp only
  split
  · exact SameRegs.refl s _
  · rw [sameRegs_emit, sameRegs_putPair (by simp) (by simp), sameRegs_count (by simp)]
    exact SameRegs.refl s _

theorem State.sameSent_transmit {n p : Nat} (hn : n ≤ 63) (hp : p ≤ 8) (s : State) (bytes : List Byte) : SameSent n s (s.transmit p bytes) :=
  SameSent.of_regs (s.sameRegs_transmit p bytes) fun a ha => by
    obtain ⟨hlo, -, -⟩ := sentRegs_range hn ha
    simp only [List.mem_cons, List.not_mem_nil, or_false, R.PORT_TX_FRAMES, R.PORT_TX_OCTETS_LO]
    omega

theorem State.sameSent_send {n p : Nat} (hn : n ≤ 63) (hp : p < 8) (s : State) (prp : Bool) (bytes : List Byte) :
    SameSent n s (s.send p prp bytes) := by
  unfold State.send
  split
  · unfold State.transmitPrp
    dsimp only
    refine SameSent.trans ?_ ((State.sameSent_transmit hn (by omega) _ _).trans (State.sameSent_transmit hn (by omega) _ _))
    exact SameSent.of_regs (l := []) (by rw [sameRegs_setPort]; exact SameRegs.refl s _) (by simp)
  · exact s.sameSent_transmit hn (by omega) bytes

theorem State.sameSent_osSend {n : Nat} (hn : n ≤ 63) (s : State) (e payload : List Byte) : SameSent n s (s.osSend e payload) := by
  unfold State.osSend
  dsimp only
  refine SameSent.trans (u := s.draw) (SameSent.of_regs (l := []) (SameRegs.of_regs (by simp) _) (by simp)) ?_
  refine SameSent.foldl fun w p hp => ?_
  have hlt : p < 8 := List.mem_range.mp (List.mem_filter.mp hp).1
  unfold State.sendUdp
  exact SameSent.foldl fun v f _ => v.sameSent_send hn hlt true f

theorem State.sameSent_osSlip {n : Nat} (hn : n ≤ 63) (s : State) (e payload : List Byte) : SameSent n s (s.osSlip n e payload) := by
  unfold State.osSlip
  refine SameSent.foldl fun w p _ => ?_
  refine SameSent.of_regs (l := [R.SHUTTLE_OSn_SLIP_MAX n]) ?_ fun a ha => ?_
  · refine SameRegs.ite ?_ ?_
    · rw [sameRegs_putReg (by simp), sameRegs_setPort]
      exact SameRegs.refl w _
    · rw [sameRegs_setPort]
      exact SameRegs.refl w _
  · obtain ⟨-, -, hslip⟩ := sentRegs_range hn ha
    simpa using hslip

theorem State.sameRegs_hostCopy (s : State) (q tag n kind : Nat) (frame : List Byte) :
    SameRegs s (s.hostCopy q tag n kind frame) (R.SHUTTLE_COPY_QFULL :: commitRegs q) := by
  unfold State.hostCopy
  dsimp only
  split
  · exact (State.sameRegs_commit _ _ _).mono (by simp)
  · rw [sameRegs_raise (by simp), sameRegs_count (by simp)]
    exact (State.sameRegs_commit _ _ _).mono (by simp)

theorem State.sameSent_hostCopy {n : Nat} (hn : n ≤ 63) (s : State) (q tag n' kind : Nat) (frame : List Byte) :
    SameSent n s (s.hostCopy q tag n' kind frame) :=
  SameSent.of_regs (s.sameRegs_hostCopy q tag n' kind frame) fun a ha => by
    obtain ⟨hlo, hhi, -⟩ := sentRegs_range hn ha
    simp only [List.mem_cons, List.mem_append, List.not_mem_nil, or_false, R.SHUTTLE_COPY_QFULL, R.QUEUE_Qn_LOST, R.QUEUE_Qn_PACKETS,
      R.QUEUE_Qn_LEVEL, R.QUEUE_Qn_WM_STATUS, R.HOST_PBAn, R.PAIR_MIRROR_SENT]
    omega

theorem State.osSt_congr {s u : State} (h : u.shuttle = s.shuttle) (n : Nat) : u.osSt n = s.osSt n := by
  unfold State.osSt
  rw [h]

theorem State.sameSent_putOs {n : Nat} (s : State) (k : Nat) (x : OsSt) : SameSent n s (s.putOs k x) := by
  unfold State.putOs
  exact SameSent.of_regs (l := []) (by rw [sameRegs_setShuttle]; exact SameRegs.refl s _) (by simp)

/-- Configuration frames that follow a data frame leave what the stream has sent. -/
theorem State.osConfig_effect {n : Nat} (hn : n ≤ 63) (s : State) (tag : Nat) (e : List Byte) :
    SameSent n s (s.osConfig n tag e) ∧ ((s.osConfig n tag e).osSt n).frame = (s.osSt n).frame ∧
      ((s.osConfig n tag e).osSt n).cursor = (s.osSt n).cursor := by
  have hsend : ∀ (w : State) (l : List Byte), SameSent n w ((w.osSend e l).osSlip n e l) ∧ ((w.osSend e l).osSlip n e l).osSt n = w.osSt n :=
    fun w l => by
      refine ⟨(w.sameSent_osSend hn e l).trans (State.sameSent_osSlip hn _ e l), State.osSt_congr ?_ n⟩
      have hframe : Frame 0x81810 w ((w.osSend e l).osSlip n e l) := by
        simp (disch := decide) only [Frame.osSlip, Frame.osSend, Frame.refl]
      exact hframe .shuttle rfl
  unfold State.osConfig
  dsimp only
  split
  · exact ⟨SameSent.refl n s, rfl, rfl⟩
  · split
    · obtain ⟨v, hv⟩ : ∃ v : State, v = s.putOs n { s.osSt n with
          cfgDue := false, cfgMark := some (s.instant (osLattice e) tag / 1000000000 / max 1 (s.regN R.SHUTTLE_CFG_PERIOD % 65536)) } := ⟨_, rfl⟩
      have hsent : SameSent n s v := by rw [hv]; exact s.sameSent_putOs n _
      have hst : (v.osSt n).frame = (s.osSt n).frame ∧ (v.osSt n).cursor = (s.osSt n).cursor := by
        rw [hv, State.osSt_putOs]
        exact ⟨rfl, rfl⟩
      rw [← hv]
      obtain ⟨htwo, hstTwo⟩ := hsend v (v.cfgFrame e false)
      split
      · obtain ⟨hthree, hstThree⟩ := hsend ((v.osSend e (v.cfgFrame e false)).osSlip n e (v.cfgFrame e false))
          (((v.osSend e (v.cfgFrame e false)).osSlip n e (v.cfgFrame e false)).cfgFrame e true)
        rw [hstThree, hstTwo]
        exact ⟨(hsent.trans htwo).trans hthree, hst⟩
      · rw [hstTwo]
        exact ⟨hsent.trans htwo, hst⟩
    · exact ⟨SameSent.refl n s, rfl, rfl⟩

/-- A launched frame is the stream's last, it is counted, and the stream goes on behind it. -/
theorem State.osLaunch_effect {n : Nat} (hn : n ≤ 63) (s : State) (e : List Byte) (f : OsFrame) (late : Bool) :
    (s.osLaunch n e f late).pairAt (R.SHUTTLE_OSn_LAST_LO n) = f.tag % 2 ^ 64 ∧
      (s.osLaunch n e f late).regN (R.SHUTTLE_OSn_SENT n) = (s.regN (R.SHUTTLE_OSn_SENT n) + 1) % 2 ^ 32 ∧
      (late = true → (s.osLaunch n e f late).regN (R.SHUTTLE_OSn_LATE n) = (s.regN (R.SHUTTLE_OSn_LATE n) + 1) % 2 ^ 32) ∧
      ((s.osLaunch n e f late).osSt n).frame = none ∧ ((s.osLaunch n e f late).osSt n).cursor = f.tag := by
  obtain ⟨v, hv⟩ : ∃ v : State, v = (s.osSlip n e f.payload).osSend e f.payload := ⟨_, rfl⟩
  obtain ⟨u, hu⟩ : ∃ u : State, u = ((v.putPair (R.SHUTTLE_OSn_LAST_LO n) f.tag).count (R.SHUTTLE_OSn_SENT n)).count R.SHUTTLE_FRAMES := ⟨_, rfl⟩
  obtain ⟨w, hw⟩ : ∃ w : State, w = if late then (u.count (R.SHUTTLE_OSn_LATE n)).raise I.SHUTTLE_LATE else u := ⟨_, rfl⟩
  obtain ⟨x, hx⟩ : ∃ x : State, x = w.putOs n { w.osSt n with
      cursor := f.tag, frame := none, spdu := if osProtocol e = 2 then ((w.osSt n).spdu + 1) % 2 ^ 32 else (w.osSt n).spdu } := ⟨_, rfl⟩
  obtain ⟨y, hy⟩ : ∃ y : State, y = if osFlag e 2 ∧ osProtocol e ≤ 1 then
      x.hostCopy (x.fld F.SHUTTLE_QUEUES_COPY_QUEUE) f.tag n 0 f.payload else x := ⟨_, rfl⟩
  have hval : s.osLaunch n e f late = y.osConfig n f.tag e := by rw [hy, hx, hw, hu, hv]; rfl
  have hsv : SameSent n s v := by
    rw [hv]
    exact (s.sameSent_osSlip hn e _).trans (State.sameSent_osSend hn _ e _)
  have hxy : SameSent n x y ∧ y.osSt n = x.osSt n := by
    rw [hy]
    split
    · refine ⟨State.sameSent_hostCopy hn x _ _ _ _ _, State.osSt_congr ?_ n⟩
      exact (Frame.hostCopy (m := 0x100408d0) rfl).mpr (Frame.refl _ x) .shuttle rfl
    · exact ⟨SameSent.refl n x, rfl⟩
  have hwx : SameSent n w x := by
    rw [hx]
    exact w.sameSent_putOs n _
  obtain ⟨hconfig, hframe, hcursor⟩ := y.osConfig_effect hn f.tag e
  have hlater : SameSent n w (s.osLaunch n e f late) := by
    rw [hval]
    exact (hwx.trans hxy.1).trans hconfig
  have hlate : ∀ a ∈ sentRegs n, a ≠ R.SHUTTLE_OSn_LATE n → w.regN a = u.regN a := fun a ha hne => by
    rw [hw]
    split
    · rw [State.regN_raise _ _ (by obtain ⟨-, hhi, -⟩ := sentRegs_range hn ha; simp only [R.HOST_PBAn]; omega)]
      exact State.regN_putReg_other _ _ (Ne.symm hne)
    · rfl
  have hcounted : SameRegs (v.putPair (R.SHUTTLE_OSn_LAST_LO n) f.tag) u [R.SHUTTLE_OSn_SENT n, R.SHUTTLE_FRAMES] := by
    rw [hu, sameRegs_count (by simp), sameRegs_count (by simp)]
    exact SameRegs.refl _ _
  have hput : SameRegs v (v.putPair (R.SHUTTLE_OSn_LAST_LO n) f.tag) [R.SHUTTLE_OSn_LAST_LO n, R.SHUTTLE_OSn_LAST_LO n + 4] := by
    rw [sameRegs_putPair (by simp) (by simp)]
    exact SameRegs.refl _ _
  have hsent : u.regN (R.SHUTTLE_OSn_SENT n) = (v.regN (R.SHUTTLE_OSn_SENT n) + 1) % 2 ^ 32 := by
    rw [hu]
    refine (State.regN_putReg_other _ _ (by simp only [R.SHUTTLE_FRAMES, R.SHUTTLE_OSn_SENT]; omega)).trans ?_
    rw [State.regN_count_same, hput _ (by simp [R.SHUTTLE_OSn_SENT, R.SHUTTLE_OSn_LAST_LO]; omega)]
  refine ⟨?_, ?_, fun hl => ?_, ?_, ?_⟩
  · rw [← State.pairAt_putPair v (R.SHUTTLE_OSn_LAST_LO n) f.tag]
    unfold State.pairAt
    rw [hlater _ (by simp), hlater _ (by simp), hlate _ (by simp) (by simp only [R.SHUTTLE_OSn_LAST_LO, R.SHUTTLE_OSn_LATE]; omega),
      hlate _ (by simp) (by simp only [R.SHUTTLE_OSn_LAST_LO, R.SHUTTLE_OSn_LATE]; omega),
      hcounted _ (by simp [R.SHUTTLE_OSn_SENT, R.SHUTTLE_OSn_LAST_LO, R.SHUTTLE_FRAMES]; omega),
      hcounted _ (by simp [R.SHUTTLE_OSn_SENT, R.SHUTTLE_OSn_LAST_LO, R.SHUTTLE_FRAMES]; omega)]
  · rw [hlater _ (by simp), hlate _ (by simp) (by simp only [R.SHUTTLE_OSn_SENT, R.SHUTTLE_OSn_LATE]; omega), hsent, hsv _ (by simp)]
  · have hfar : R.SHUTTLE_OSn_LATE n ≠ R.HOST_PBAn (I.SHUTTLE_LATE.1 / 32) := by
      simp only [R.SHUTTLE_OSn_LATE, R.HOST_PBAn]
      omega
    rw [hlater _ (by simp), hw, if_pos hl, State.regN_raise _ _ hfar.symm, State.regN_count_same,
      hcounted _ (by simp [R.SHUTTLE_OSn_SENT, R.SHUTTLE_OSn_LATE, R.SHUTTLE_FRAMES]; omega),
      hput _ (by simp [R.SHUTTLE_OSn_LATE, R.SHUTTLE_OSn_LAST_LO]; omega), hsv _ (by simp)]
  · rw [hval, hframe, hxy.2, hx, State.osSt_putOs]
  · rw [hval, hcursor, hxy.2, hx, State.osSt_putOs]

/-! Host frames (R106). -/

/-- A register below those of the queues is none that shows a queue's level. -/
theorem not_mem_levelRegs {q a : Nat} (h : a < 0xc00000) : a ∉ levelRegs q := by
  simp only [List.mem_cons, List.not_mem_nil, or_false, R.QUEUE_Qn_LEVEL, R.QUEUE_Qn_WM_STATUS, R.HOST_PBAn]
  omega

/-- A port's link does not depend on what shows the queues' levels. -/
theorem State.linkIsUp_congr {s u : State} {q p : Nat} (h : SameRegs s u (levelRegs q)) (hp : p < 8) : u.linkIsUp p = s.linkIsUp p := by
  have hcfg : R.PORT_CFG p ∉ levelRegs q := not_mem_levelRegs (by simp only [R.PORT_CFG]; omega)
  have hlink : R.PORT_LINK p ∉ levelRegs q := not_mem_levelRegs (by simp only [R.PORT_LINK]; omega)
  have hdomain : R.POWER_DOMAIN_STATE ∉ levelRegs q := by
    simp only [List.mem_cons, List.not_mem_nil, or_false, R.QUEUE_Qn_LEVEL, R.QUEUE_Qn_WM_STATUS, R.HOST_PBAn, R.POWER_DOMAIN_STATE]
    omega
  unfold State.linkIsUp State.portOn State.domain
  rw [h.fld hcfg, h.isSet hlink, h _ hdomain]

theorem State.transmit_frames {s : State} {p : Nat} (h : s.linkIsUp p = true) (bytes : List Byte) :
    (s.transmit p bytes).regN (R.PORT_TX_FRAMES p) = (s.regN (R.PORT_TX_FRAMES p) + 1) % 2 ^ 32 := by
  unfold State.transmit
  dsimp only
  rw [if_neg (by simp [h]), State.regN_emit]
  unfold State.putPair
  rw [State.regN_putReg_other _ _ (by simp only [R.PORT_TX_FRAMES, R.PORT_TX_OCTETS_LO]; omega),
    State.regN_putReg_other _ _ (by simp only [R.PORT_TX_FRAMES, R.PORT_TX_OCTETS_LO]; omega), State.regN_count_same]

/-- Settles O50, event by event. -/
theorem shuttleEventsHappen : Obligations.ShuttleEventsHappen := by
  refine ⟨fun n tag e hn => ?compose, fun n tag e payload hn => ?launch, fun n tag e payload ready hn => ?late,
    fun n tag e payload hn => ?intent, fun q k l rest hprp => ?host⟩
  case compose =>
    refine happens (f := (·.composeStart n)) (fun _ _ => rfl) fun w hw => ?_
    obtain ⟨hon, hnext, hnone, hpub, hdue, hproto, y, hy, hreleased, hpiped⟩ := hw
    obtain ⟨x, hx⟩ : ∃ x : State, x = w.count R.SHUTTLE_SATURATED
      (w.dataFrame e tag (w.osRead (w.cfgAt secShuttle (w.instant (osLattice e) tag)) e tag)).2 := ⟨_, rfl⟩
    obtain ⟨r, hr⟩ : ∃ r : OsFrame, r = ⟨tag, (w.dataFrame e tag (w.osRead (w.cfgAt secShuttle (w.instant (osLattice e) tag)) e tag)).1,
      decide (w.now + w.readyLead ≤ w.launchTime e tag), false⟩ := ⟨_, rfl⟩
    have hval : w.composeStart n = x.putOs n { w.osSt n with frame := some r } := by
      unfold State.composeStart
      rw [hnext]
      dsimp only
      rw [hy]
      dsimp only
      rw [if_neg (by simp [hon, hnone, hpub, hreleased, hpiped]; omega)]
      unfold State.compose
      dsimp only
      rw [if_pos hproto, hx, hr]
    rw [hval]
    refine ⟨?_, ?_⟩
    · rw [State.osSt_putOs, hr]
      rfl
    · unfold State.putOs
      rw [sameRegs_setShuttle, hx, sameRegs_count (by simp)]
      exact SameRegs.refl w _
  case launch =>
    refine happens (f := (·.launch n)) (fun _ _ => rfl) fun w hw => ?_
    obtain ⟨hon, hnext, hdue, hmay, hhold, hneeds, hframe⟩ := hw
    have hval : w.launch n = w.osLaunch n e ⟨tag, payload, true, false⟩ false := by
      unfold State.launch
      rw [hnext]
      dsimp only
      rw [if_neg (by simp [hon]; omega), if_neg (by simp [hmay]), if_neg (by simp [hhold]), hframe]
      dsimp only
      rw [if_pos (by simp [hneeds])]
    obtain ⟨hlast, hsent, -, hempty, hcursor⟩ := w.osLaunch_effect hn e ⟨tag, payload, true, false⟩ false
    rw [hval]
    exact ⟨hlast, hsent, hempty, hcursor⟩
  case late =>
    refine happens (f := (·.lateLaunch n)) (fun _ _ => rfl) fun w hw => ?_
    obtain ⟨hon, hnext, hflag, hdue, hperiod, hmay, hhold, hneeds, hframe⟩ := hw
    have hval : w.lateLaunch n = w.osLaunch n e ⟨tag, payload, ready, false⟩ true := by
      unfold State.lateLaunch
      rw [hnext]
      dsimp only
      rw [if_neg (by simp [hon, hflag, hmay, hhold]; omega), hframe]
      dsimp only
      rw [if_neg (by simp), if_neg (by omega), if_neg (by simp [hneeds])]
    obtain ⟨hlast, -, hlate, hempty, hcursor⟩ := w.osLaunch_effect hn e ⟨tag, payload, ready, false⟩ true
    rw [hval]
    exact ⟨hlast, hlate rfl, hempty, hcursor⟩
  case intent =>
    refine happens (f := (·.intentSend n)) (fun _ _ => rfl) fun w hw => ?_
    obtain ⟨hon, hnext, hdue, hmay, hhold, hneeds, hframe⟩ := hw
    obtain ⟨x, hx⟩ : ∃ x : State, x = w.putOs n { w.osSt n with frame := some ⟨tag, payload, true, true⟩ } := ⟨_, rfl⟩
    obtain ⟨u, hu⟩ : ∃ u : State, u = (x.putPair (R.PAIR_OSn_INTENT_LO n) tag).count R.PAIR_INTENTS_SENT := ⟨_, rfl⟩
    have hval : w.intentSend n = u.mirrorSend 1 (leBytes 1 n ++ leBytes 8 tag) := by
      unfold State.intentSend
      rw [hnext]
      dsimp only
      rw [hframe]
      dsimp only
      rw [if_neg (by simp [hon, hneeds, hmay, hhold]; omega)]
      unfold State.osIntent
      rw [hu, hx]
    have hxregs : SameRegs w x [] := by
      rw [hx]
      unfold State.putOs
      rw [sameRegs_setShuttle]
      exact SameRegs.refl w _
    have huregs : SameRegs (x.putPair (R.PAIR_OSn_INTENT_LO n) tag) u [R.PAIR_INTENTS_SENT] := by
      rw [hu, sameRegs_count (by simp)]
      exact SameRegs.refl _ _
    have hsent : SameRegs u (w.intentSend n) [R.PAIR_MIRROR_SENT] := by
      rw [hval, sameRegs_mirrorSend (by simp)]
      exact SameRegs.refl u _
    have hshuttle : (w.intentSend n).shuttle = x.shuttle := by
      have hframe : Frame 0x10000810 x (w.intentSend n) := by
        rw [hval, hu]
        simp (disch := decide) only [Frame.mirrorSend, Frame.count, Frame.putPair, Frame.refl]
      exact hframe .shuttle rfl
    refine ⟨?_, ?_, ?_, ?_⟩
    · rw [State.osSt_congr hshuttle, hx, State.osSt_putOs]
    · rw [← State.pairAt_putPair x (R.PAIR_OSn_INTENT_LO n) tag]
      unfold State.pairAt
      rw [hsent _ (by simp [R.PAIR_OSn_INTENT_LO, R.PAIR_MIRROR_SENT]; omega), hsent _ (by simp [R.PAIR_OSn_INTENT_LO, R.PAIR_MIRROR_SENT]; omega),
        huregs _ (by simp [R.PAIR_OSn_INTENT_LO, R.PAIR_INTENTS_SENT]; omega),
        huregs _ (by simp [R.PAIR_OSn_INTENT_LO, R.PAIR_INTENTS_SENT]; omega)]
    · have hput : SameRegs x (x.putPair (R.PAIR_OSn_INTENT_LO n) tag) [R.PAIR_OSn_INTENT_LO n, R.PAIR_OSn_INTENT_LO n + 4] := by
        rw [sameRegs_putPair (by simp) (by simp)]
        exact SameRegs.refl _ _
      rw [hsent _ (by decide), hu, State.regN_count_same, hput _ (by simp [R.PAIR_OSn_INTENT_LO, R.PAIR_INTENTS_SENT]; omega),
        hxregs _ (by simp)]
    · rw [hval, sameRegs_mirrorSend (by simp), hu, sameRegs_count (by simp), sameRegs_putPair (by simp) (by simp)]
      exact hxregs.mono (by simp)
  case host =>
    refine happens (f := State.hostFrame) (fun _ _ => rfl) fun w hw => ?_
    obtain ⟨hqueue, hpackets, hon, htaken, hnext⟩ := hw
    obtain ⟨p, hp⟩ : ∃ p, p = leAt l 0 1 % 8 := ⟨_, rfl⟩
    rw [← hp] at hon htaken hnext ⊢
    have hlt : p < 8 := by omega
    obtain ⟨hmode, hdomain⟩ : w.fld (F.PORT_CFG_MODE p) ≠ 0 ∧ w.domain (portDomain p) = 0 := by
      unfold State.portOn at hon
      simp only [Bool.and_eq_true, bne_iff_ne, beq_iff_eq] at hon
      exact ⟨hon.1.2, hon.2⟩
    obtain ⟨b, hb⟩ : ∃ b, b = smPut w.port.busy p (w.now + w.lineTime p (lineBytes false (slice l 8 (leAt l 2 2))) + w.lineTime p 12) := ⟨_, rfl⟩
    obtain ⟨x, hx⟩ : ∃ x : State, x = w.setPort { w.port with busy := b } := ⟨_, rfl⟩
    have hval : w.hostFrame = (x.popPacket q).transmit p (slice l 8 (leAt l 2 2)) := by
      unfold State.hostFrame
      simp only [hqueue, hpackets]
      rewrite [hprp, ← hp, if_neg (by simp [hmode]), if_neg (by simp [hdomain]), if_neg (by simp [htaken]), if_neg (by simp [hnext]), hx, hb]
      rfl
    have hxqueue : x.queue q = w.queue q := State.queue_congr (s := w) (u := x) (by rw [hx]; simp) q
    have hpop : SameRegs w (x.popPacket q) (levelRegs q) := by
      have hport : SameRegs w x [] := by
        rw [hx, sameRegs_setPort]
        exact SameRegs.refl w _
      unfold State.popPacket
      rw [(State.sameRegs_putLevel _ _ _).thru (by simp)]
      exact hport.mono (List.nil_subset _)
    have hsent : Frame 0x810 (x.popPacket q) w.hostFrame := by
      rw [hval]
      exact (Frame.transmit (m := 0x810) rfl).mpr (Frame.refl _ _)
    refine ⟨?_, ?_, fun hlink => ?_⟩
    · rw [State.queue_congr (hsent .queues rfl)]
      unfold State.popPacket
      rw [State.queue_putLevel, hxqueue, hpackets]
      rfl
    · have hpopped : Frame 0x40850 x (x.popPacket q) := (Frame.popPacket (m := 0x40850) rfl).mpr (Frame.refl _ _)
      rw [hsent .port rfl, hpopped .port rfl, hx, State.setPort_port]
    · have hup : (x.popPacket q).linkIsUp p = true := (State.linkIsUp_congr hpop hlt).trans hlink
      rw [hval, State.transmit_frames hup, hpop _ (not_mem_levelRegs (by simp only [R.PORT_TX_FRAMES]; omega))]

end Sys2Proof.Machine
end

section
/-!
PROOFS. Sys2Proof/Proofs/SlotRelease.lean: a released slot leaves the registers below ISLE's.
-/

namespace Sys2Proof.Machine

/-! What capture and the Selvedge links do with a released slot leaves LOOM's registers. -/

/-- The registers below those of ISLE are the same. -/
def SameLow (s u : State) : Prop := ∀ a, a < 0x700000 → u.regN a = s.regN a

namespace SameLow

variable {s u v : State}

theorem refl (s : State) : SameLow s s := fun _ _ => rfl

theorem trans (h : SameLow s u) (k : SameLow u v) : SameLow s v := fun a ha => (k a ha).trans (h a ha)

theorem of_regs {l : List Nat} (h : SameRegs s u l) (hl : ∀ a ∈ l, 0x700000 ≤ a) : SameLow s u := fun a ha => h a fun hm => by
  have := hl a hm
  omega

theorem of_same (h : u.regs = s.regs) : SameLow s u := fun a _ => regN_congr h a

theorem ite {c : Prop} [Decidable c] (h : SameLow s u) (k : SameLow s v) : SameLow s (if c then u else v) := by
  split
  · exact h
  · exact k

theorem foldl {α : Type} {f : State → α → State} {l : List α} (h : ∀ w x, SameLow w (f w x)) : SameLow s (l.foldl f s) := by
  induction l generalizing s with
  | nil => exact refl s
  | cons x l ih => exact (h s x).trans ih

end SameLow

theorem eventRegs_high : ∀ a ∈ eventRegs, 0x700000 ≤ a := by decide

theorem State.sameLow_event (s : State) (code src : Nat) (p : List Byte) : SameLow s (s.event code src p) :=
  SameLow.of_regs ((sameRegs_event (by simp) (by simp)).mpr (SameRegs.refl s eventRegs)) eventRegs_high

theorem State.sameLow_raise (s : State) (c : Nat × Nat) : SameLow s (s.raise c) :=
  SameLow.of_regs (l := [R.HOST_PBAn (c.1 / 32)]) ((sameRegs_raise (by simp)).mpr (SameRegs.refl s _)) fun a ha => by
    rw [List.mem_singleton] at ha
    simp only [ha, R.HOST_PBAn]
    omega

theorem State.sameLow_count (s : State) {a : Nat} (n : Nat) (h : 0x700000 ≤ a) : SameLow s (s.count a n) :=
  SameLow.of_regs (l := [a]) ((sameRegs_count (by simp)).mpr (SameRegs.refl s _)) fun b hb => by
    rw [List.mem_singleton] at hb
    omega

theorem regionRegs_high (r : Nat) : ∀ a ∈ regionRegs r, 0x700000 ≤ a := by
  intro a ha
  simp only [List.mem_cons, List.not_mem_nil, or_false, R.CAPT_Rr_STATE, R.CAPT_Rr_FREE, R.CAPT_Rr_OLDEST, R.CAPT_STATUS] at ha
  omega

theorem State.sameLow_putCapt (s : State) (r : Nat) (x : CaptReg) : SameLow s (s.putCapt r x) :=
  SameLow.of_regs (s.sameRegs_putCapt r x) (regionRegs_high r)

theorem State.sameLow_captState (s : State) (r st : Nat) : SameLow s (s.captState r st) :=
  SameLow.of_regs (s.sameRegs_captState r st) fun a ha => by
    rcases List.mem_cons.mp ha with rfl | h
    · decide
    · exact regionRegs_high r a h

theorem State.sameLow_captPut (s : State) (r : Nat) (b : List Byte) : SameLow s (s.captPut r b).1 := by
  unfold State.captPut
  dsimp only
  split
  · exact SameLow.refl s
  · exact SameLow.trans (SameLow.of_same (by simp [State.stkStore])) (State.sameLow_putCapt _ _ _)

theorem State.sameLow_takePage (s : State) (r : Nat) : SameLow s (s.takePage r).1 := by
  unfold State.takePage
  cases s.freePage r with
  | none => exact SameLow.refl s
  | some p =>
    exact SameLow.trans (SameLow.trans (s.sameLow_count (a := R.CAPT_OVERWRITTEN) _ (by decide)) (SameLow.of_same (State.setStk_regs _ _)))
      (State.sameLow_putCapt _ _ _)

theorem State.sameLow_captEntry (s : State) (r : Nat) (b : List Byte) : SameLow s (s.captEntry r b).1 := by
  have hput : ∀ w : State × Bool, SameLow w.1 (captPutIn r b w).1 := fun w => by
    obtain ⟨v, taken⟩ := w
    cases taken with
    | false => exact SameLow.refl v
    | true => exact v.sameLow_captPut r b
  unfold State.captEntry
  refine SameLow.trans ?_ (hput _)
  split
  · exact s.sameLow_takePage r
  · exact SameLow.refl s

theorem State.sameLow_overrunGap (s : State) (r : Nat) : SameLow s (s.overrunGap r) := by
  unfold State.overrunGap
  split
  · exact SameLow.refl s
  · dsimp only
    refine SameLow.trans ?_ (State.sameLow_raise _ _)
    refine SameLow.trans ?_ (State.sameLow_event _ _ _ _)
    refine SameLow.trans ?_ (State.sameLow_count _ _ (by decide))
    exact (s.sameLow_captEntry r _).trans (State.sameLow_putCapt _ _ _)

theorem State.sameLow_gapsBefore (s : State) (r rate n : Nat) : SameLow s (s.gapsBefore r rate n) := by
  unfold State.gapsBefore
  dsimp only
  split
  · exact SameLow.ite ((s.sameLow_overrunGap r).trans (State.sameLow_captEntry _ _ _)) (s.sameLow_overrunGap r)
  · exact s.sameLow_overrunGap r

theorem State.sameLow_captClosing (s : State) (r rate : Nat) (o : CaptOpen) : SameLow s (s.captClosing r rate o) :=
  (s.sameLow_gapsBefore r rate _).trans (State.sameLow_captState _ _ _)

theorem State.sameLow_flushRuns (s : State) (r : Nat) : SameLow s (s.flushRuns r) := by
  unfold State.flushRuns
  exact (s.sameLow_putCapt r _).trans (SameLow.foldl fun w x => w.sameLow_captEntry r _)

/-- The values of a slot enter the region's page, each noted as stored. -/
def captValues (r : Nat) (due : List (Nat × Nat × Nat)) (s : State) : State :=
  due.foldl (fun s v =>
    let s := (s.captEntry r (valueEntryBytes v.2.2 v.1 v.2.1)).1
    s.putCapt r { s.capReg r with stored := smPut (s.capReg r).stored v.1 (v.2.1, v.2.2) }) s

theorem sameLow_captValues (r : Nat) (due : List (Nat × Nat × Nat)) (s : State) : SameLow s (captValues r due s) :=
  SameLow.foldl fun w _ => (w.sameLow_captEntry r _).trans (State.sameLow_putCapt _ _ _)

theorem State.sameLow_captSlot (s : State) (l tag r : Nat) : SameLow s (s.captSlot l tag r) := by
  unfold State.captSlot
  extract_lets e x rate n within gaps x₁ key keyed x₂ due entry filled x₃ counted stored x₄
  refine SameLow.ite (SameLow.refl s) (SameLow.ite ?_ ?_)
  · split
    · exact s.sameLow_captClosing r _ _
    · exact SameLow.refl s
  · have hkeyed : SameLow s keyed := (s.sameLow_gapsBefore r rate n).trans (SameLow.ite (State.sameLow_putCapt _ _ _) (SameLow.refl _))
    have hfilled : SameLow s filled := (hkeyed.trans (State.sameLow_captEntry _ _ _)).trans (sameLow_captValues r due entry.1)
    have hstored : SameLow s stored := SameLow.ite (hkeyed.trans (State.sameLow_putCapt _ _ _))
      ((hfilled.trans (State.sameLow_putCapt _ _ _)).trans (State.sameLow_flushRuns _ _))
    split
    · exact hstored.trans (State.sameLow_putCapt _ _ _)
    · exact SameLow.ite (hstored.trans (State.sameLow_captClosing _ _ _ _)) hstored

/-- What a released slot tells the trigger inputs of kind 4. -/
def captInput (l tag : Nat) (s : State) (i : Nat) : State :=
  let e := s.inputEntry i
  let tid := bits e 20 4
  if e % 16 = 4 ∧ catLattice (s.cat tid) = l then
    let v := s.readSlot l tag tid
    let b := bits e 24 21
    s.pushInput i (!bit v.2 qAbsent && bit v.1 (48 + b) && bit v.1 (32 + b)) (s.instant l tag)
  else s

theorem State.sameLow_captRelease (s : State) (l tag : Nat) : SameLow s (s.captRelease l tag) := by
  unfold State.captRelease
  split
  · exact SameLow.refl s
  · dsimp only
    have hinputs : ∀ (w : State) i v time, SameLow w (w.pushInput i v time) := fun w i v time => by
      unfold State.pushInput
      exact SameLow.ite (SameLow.refl w) (SameLow.of_same (by simp))
    have hall : SameLow s _ := SameLow.foldl (s := s) (l := List.range 256) (f := captInput l tag) fun w i => by
      unfold captInput
      exact SameLow.ite (hinputs w _ _ _) (SameLow.refl w)
    exact SameLow.ite (hall.trans (SameLow.foldl fun w r => w.sameLow_captSlot l tag r)) hall

theorem State.sameLow_commit (s : State) (q : Nat) (payload : List Byte) : SameLow s (s.commit q payload).1 :=
  SameLow.of_regs (s.sameRegs_commit q payload) fun a ha => by
    by_contra hlt
    exact not_mem_commitRegs (q := q) (show a < 0x800000 by omega) ha

theorem State.sameLow_toRx (s : State) (p : List Byte) : SameLow s (s.toRx p).1 := by
  unfold State.toRx
  dsimp only
  split
  · exact (s.sameLow_commit (s.fld F.SLV_QUEUES_RX_QUEUE) p).trans (SameLow.of_same (by unfold State.endBurst; simp))
  · refine SameLow.trans ?_ (State.sameLow_raise _ _)
    refine SameLow.trans ?_ (SameLow.of_regs ((sameRegs_burst (by simp) (by simp)).mpr (SameRegs.refl _ eventRegs)) eventRegs_high)
    exact SameLow.trans (s.sameLow_commit _ p) (State.sameLow_count _ _ (by decide))

theorem State.sameLow_deliverOwn (s : State) (l tag : Nat) (cells : List SlvCell) : SameLow s (s.deliverOwn l tag cells) := by
  unfold State.deliverOwn
  split
  · exact SameLow.refl s
  · dsimp only
    refine SameLow.ite ?_ (s.sameLow_toRx _)
    refine SameLow.trans ?_ (SameLow.foldl fun w c => w.sameLow_toRx _)
    exact SameLow.trans (s.sameLow_toRx _) (State.sameLow_count _ _ (by decide))

theorem State.sameLow_putLink (s : State) (n : Nat) (x : SlvLink) : SameLow s (s.putLink n x) :=
  SameLow.of_regs (s.sameRegs_putLink n x) fun a ha => by
    rw [List.mem_singleton] at ha
    simp only [ha, R.SLV_LINKn_WINDOW]
    omega

theorem State.sameLow_skipOwn (s : State) (n : Nat) : SameLow s (s.skipOwn n) := by
  unfold State.skipOwn
  dsimp only
  split
  · exact SameLow.refl s
  · refine SameLow.trans ?_ (State.sameLow_raise _ _)
    refine SameLow.trans ?_ (State.sameLow_event _ _ _ _)
    exact (s.sameLow_putLink n _).trans (State.sameLow_count _ _ (by decide))

theorem State.sameLow_forwardOne (s : State) (l tag : Nat) : SameLow s (s.forwardOne l tag) := by
  unfold State.forwardOne
  dsimp only
  refine SameLow.ite (s.sameLow_deliverOwn l tag _) (SameLow.ite ?_ ?_)
  · refine SameLow.trans ?_ (State.sameLow_raise _ _)
    refine SameLow.trans ?_ (State.sameLow_event _ _ _ _)
    exact SameLow.trans (SameLow.foldl fun w n => w.sameLow_putLink n _) (State.sameLow_count _ _ (by decide))
  · exact SameLow.foldl fun w n => SameLow.ite ((w.sameLow_putLink n _).trans (State.sameLow_skipOwn _ n)) (w.sameLow_putLink n _)

theorem State.sameLow_forwardSlot (s : State) (l tag : Nat) : SameLow s (s.forwardSlot l tag) := by
  have hslv : ∀ (w : State) (x : SlvSt), SameLow w (w.setSlv x) := fun w x => SameLow.of_same (by simp)
  unfold State.forwardSlot
  refine SameLow.ite (SameLow.refl s) (SameLow.ite ?_ (hslv s _))
  refine SameLow.trans ?_ (State.sameLow_forwardOne _ _ _)
  split
  · exact (hslv s _).trans (State.sameLow_forwardOne _ _ _)
  · exact SameLow.refl s

end Sys2Proof.Machine
end

section
/-!
PROOFS. Sys2Proof/Proofs/LoomCommands.lean: values, quantiles, histories and the weft read, and slots closed as forced.
-/

namespace Sys2Proof.Machine

/-! A lattice's slot and what its closure asks: the configuration, the time, LOOM's domain (R187, R189). -/

@[simp] theorem State.lat_putLat (s : State) (l : Nat) (x : LatSt) : (s.putLat l x).lat l = x := by
  unfold State.putLat State.lat
  simp

theorem State.lat_putLat_other (s : State) {l k : Nat} (x : LatSt) (h : k ≠ l) : (s.putLat l x).lat k = s.lat k := by
  unfold State.putLat State.lat
  rw [State.setLoom_loom, smGet_smPut_other _ _ _ (Ne.symm h)]

theorem State.lat_congr {s u : State} (h : u.loom.lats = s.loom.lats) (k : Nat) : u.lat k = s.lat k := by
  unfold State.lat
  rw [h]

/-- The registers that the closure of a slot asks, and those that say what has closed. -/
abbrev closureRegs : List Nat := [R.GLOBAL_MODE, R.DRAFT_CARDS, R.POWER_DOMAIN_STATE] ++
  [0, 1, 2, 3].flatMap fun l => [R.LOOM_Ln_FORCED l, R.LOOM_Ln_CLOSED_LO l, R.LOOM_Ln_CLOSED_LO l + 4]

theorem closureRegs_apart : ∀ a ∈ closureRegs, a < 0x610000 ∨ 0x700000 ≤ a := by decide

/-- No slot closes, and what a closure asks stays. -/
structure SameClosure (s u : State) : Prop where
  frame : Frame 0x18000cd0 s u
  regs : ∀ a ∈ closureRegs, u.regN a = s.regN a
  queue : u.loom.closeQ = s.loom.closeQ

namespace SameClosure

variable {s u v : State}

theorem refl (s : State) : SameClosure s s := ⟨Frame.refl _ s, fun _ _ => rfl, rfl⟩

theorem trans (h : SameClosure s u) (k : SameClosure u v) : SameClosure s v :=
  ⟨h.frame.trans k.frame, fun a ha => (k.regs a ha).trans (h.regs a ha), k.queue.trans h.queue⟩

theorem cfg (h : SameClosure s u) (ty : Nat) : u.cfg ty = s.cfg ty := State.cfg_congr (h.frame .draft rfl) (h.regs _ (by decide)) ty

theorem instant (h : SameClosure s u) (k tag : Nat) : u.instant k tag = s.instant k tag := by
  unfold State.instant State.rate State.rateCode
  rw [h.cfg, h.frame .draft rfl]

theorem now (h : SameClosure s u) : u.now = s.now := by
  unfold State.now State.onTest State.mode State.fld
  rw [h.frame .bases rfl, h.regs R.GLOBAL_MODE (by decide)]

theorem domain (h : SameClosure s u) (d : Nat) : u.domain d = s.domain d := by
  unfold State.domain
  rw [h.regs R.POWER_DOMAIN_STATE (by decide)]

theorem wiring (h : SameClosure s u) (k : Nat) : u.wiring k = s.wiring k := by
  unfold State.wiring
  rw [h.cfg]

theorem liveSets (h : SameClosure s u) {y z : SlotSt} (l : Nat) (ht : z.tag = y.tag) (hs : z.shed = y.shed) :
    u.liveSets l z = s.liveSets l y := by
  unfold State.liveSets State.latticeSets State.cfgAt State.rate State.rateCode
  rw [h.instant, h.frame .draft rfl, h.cfg, h.cfg, ht, hs]

end SameClosure

/-- Beside it, no other lattice changes. -/
structure OnlyOpen (l : Nat) (s u : State) : Prop extends SameClosure s u where
  others : ∀ k, k ≠ l → u.lat k = s.lat k

namespace OnlyOpen

variable {l : Nat} {s u v : State}

theorem refl (l : Nat) (s : State) : OnlyOpen l s s := ⟨SameClosure.refl s, fun _ _ => rfl⟩

theorem trans (h : OnlyOpen l s u) (k : OnlyOpen l u v) : OnlyOpen l s v :=
  ⟨h.toSameClosure.trans k.toSameClosure, fun j hj => (k.others j hj).trans (h.others j hj)⟩

theorem putLat (s : State) (l : Nat) (x : LatSt) : OnlyOpen l s (s.putLat l x) :=
  ⟨⟨(Frame.putLat (by decide)).mpr (Frame.refl _ s), fun _ _ => by unfold State.putLat; simp, by unfold State.putLat; simp⟩,
    fun _ hk => s.lat_putLat_other x hk⟩

theorem modSlot (s : State) (l tag : Nat) (f : SlotSt → SlotSt) : OnlyOpen l s (s.modSlot l tag f) := putLat s l _

/-- What only stores in the Stacks. -/
theorem stored (h : Frame 0x400 s u) : OnlyOpen l s u :=
  ⟨⟨fun p hp => h p (by revert hp; cases p <;> decide), fun a _ => regN_congr (h .regs rfl) a, by rw [h .loom rfl]⟩,
    fun k _ => State.lat_congr (by rw [h .loom rfl]) k⟩

theorem fills (s : State) (l : Nat) (x : SMap Nat) : OnlyOpen l s (s.setLoom { s.loom with fills := x }) :=
  ⟨⟨(Frame.setLoom (by decide)).mpr (Frame.refl _ s), fun _ _ => by simp, by simp⟩, fun k _ => State.lat_congr (by simp) k⟩

/-- What writes other registers and tells of it. -/
theorem of_regs (hf : Frame 0x100008d0 s u) {rs : List Nat} (hr : SameRegs s u rs) (hd : ∀ a ∈ closureRegs, a ∉ rs) : OnlyOpen l s u :=
  ⟨⟨fun p hp => hf p (by revert hp; cases p <;> decide), fun a ha => hr a (hd a ha), by rw [hf .loom rfl]⟩,
    fun k _ => State.lat_congr (by rw [hf .loom rfl]) k⟩

theorem putReg (s : State) (l : Nat) {a : Nat} (v : Nat) (h : a ∉ closureRegs) : OnlyOpen l s (s.putReg a v) :=
  of_regs ((Frame.putReg (by decide)).mpr (Frame.refl _ s)) (sameRegs_putReg_self s a v) fun b hb hm => h (List.mem_singleton.mp hm ▸ hb)

end OnlyOpen

/-! The only slot of a lattice, while it waits for its closure. -/

/-- The lattice has one slot, and of it `p` holds. -/
def OneSlot (l : Nat) (p : SlotSt → Prop) (s : State) : Prop := ∃ y, (s.lat l).slots = [y] ∧ p y

/-- The slot is open and no set of it is shed. -/
structure SlotSt.Due (tag : Nat) (y : SlotSt) : Prop where
  tag : y.tag = tag
  opened : y.opened = true
  closed : y.closed = none
  released : y.released = none
  shed : y.shed = []

/-- The slot is to close as forced. -/
structure SlotSt.Forced (tag : Nat) (y : SlotSt) : Prop extends y.Due tag where
  forced : y.forced = true

/-- The slot is to close as forced and its set has closed. -/
structure SlotSt.Ready (tag n : Nat) (y : SlotSt) : Prop extends y.Forced tag where
  shut : y.setClosed n = true

namespace OneSlot

variable {l tag : Nat} {p q : SlotSt → Prop} {s u : State}

theorem congr (h : OneSlot l p s) (hl : u.lat l = s.lat l) : OneSlot l p u := by
  unfold OneSlot
  rw [hl]
  exact h

theorem slot (h : OneSlot l p s) (hp : ∀ y, p y → y.tag = tag) : ∃ y, (s.lat l).slot tag = some y ∧ (s.lat l).slots = [y] ∧ p y := by
  obtain ⟨y, hy, hpy⟩ := h
  exact ⟨y, by unfold LatSt.slot; simp [hy, hp y hpy], hy, hpy⟩

theorem modSlot (h : OneSlot l p s) {f : SlotSt → SlotSt} (hp : ∀ y, p y → y.tag = tag ∧ q (f y)) : OneSlot l q (s.modSlot l tag f) := by
  obtain ⟨y, hy, hpy⟩ := h
  obtain ⟨ht, hq⟩ := hp y hpy
  refine ⟨f y, ?_, hq⟩
  unfold State.modSlot
  simp [hy, ht]

end OneSlot

/-- What leaves the lattice's only slot waiting and changes nothing that its closure asks. -/
structure Waits (l : Nat) (p : SlotSt → Prop) (s u : State) : Prop where
  only : OnlyOpen l s u
  slot : OneSlot l p u

namespace Waits

variable {l : Nat} {p q : SlotSt → Prop} {s u v : State}

theorem trans (h : Waits l p s u) (k : Waits l q u v) : Waits l q s v := ⟨h.only.trans k.only, k.slot⟩

theorem of_only (h : OneSlot l p s) (k : OnlyOpen l s u) (hl : u.loom.lats = s.loom.lats) : Waits l p s u := ⟨k, h.congr (State.lat_congr hl l)⟩

theorem stored (h : OneSlot l p s) (k : Frame 0x400 s u) : Waits l p s u := of_only h (OnlyOpen.stored k) (by rw [k .loom rfl])

theorem fills (h : OneSlot l p s) (x : SMap Nat) : Waits l p s (s.setLoom { s.loom with fills := x }) :=
  of_only h (OnlyOpen.fills s l x) (by simp)

theorem modSlot {tag : Nat} (h : OneSlot l p s) {f : SlotSt → SlotSt} (hp : ∀ y, p y → y.tag = tag ∧ q (f y)) :
    Waits l q s (s.modSlot l tag f) := ⟨OnlyOpen.modSlot s l tag f, h.modSlot hp⟩

theorem of_regs (h : OneSlot l p s) (hf : Frame 0x100008d0 s u) {rs : List Nat} (hr : SameRegs s u rs) (hd : ∀ a ∈ closureRegs, a ∉ rs) :
    Waits l p s u := of_only h (OnlyOpen.of_regs hf hr hd) (by rw [hf .loom rfl])

theorem foldl {α : Type} {f : State → α → State} (h : ∀ w x, OneSlot l p w → Waits l p w (f w x)) (xs : List α) (hs : OneSlot l p s) :
    Waits l p s (xs.foldl f s) := by
  induction xs generalizing s with
  | nil => exact ⟨OnlyOpen.refl l s, hs⟩
  | cons x xs ih =>
    have hx := h s x hs
    exact hx.trans (ih hx.slot)

end Waits

/-! A set closes. -/

theorem SlotSt.Forced.counted {tag : Nat} {y z : SlotSt} (h : y.Forced tag) (ht : z.tag = y.tag) (ho : z.opened = y.opened)
    (hc : z.closed = y.closed) (hr : z.released = y.released) (hs : z.shed = y.shed) (hf : z.forced = y.forced) : z.Forced tag :=
  ⟨⟨ht.trans h.tag, ho.trans h.opened, hc.trans h.closed, hr.trans h.released, hs.trans h.shed⟩, hf.trans h.forced⟩

theorem OneSlot.settle {s : State} {l tag : Nat} (h : OneSlot l (SlotSt.Forced tag) s) (e : List Byte) (t : Nat × List Byte) :
    Waits l (SlotSt.Forced tag) s (s.settle l tag e t) := by
  obtain ⟨y, hfind, -, -⟩ := h.slot fun _ hy => hy.tag
  unfold State.settle
  rw [hfind]
  dsimp -zeta only
  extract_lets loom v stored loom' filled
  split
  · exact Waits.fills h _
  · have hstored : Waits l (SlotSt.Forced tag) s stored := Waits.stored h ((Frame.storeValue (by decide)).mpr (Frame.refl _ s))
    have hfilled : Waits l (SlotSt.Forced tag) s filled := hstored.trans (Waits.fills hstored.slot _)
    refine hfilled.trans (Waits.modSlot hfilled.slot fun z hz => ⟨hz.tag, ?_⟩)
    split <;> exact hz.counted rfl rfl rfl rfl rfl rfl

theorem OneSlot.settleComing {s : State} {l tag : Nat} (h : OneSlot l (SlotSt.Forced tag) s) (tid : Nat) :
    Waits l (SlotSt.Forced tag) s (s.settleComing l tag tid) := by
  obtain ⟨y, hfind, -, -⟩ := h.slot fun _ hy => hy.tag
  unfold State.settleComing
  rw [hfind]
  dsimp -zeta only
  extract_lets stored
  have hstored : Waits l (SlotSt.Forced tag) s stored := by
    refine Waits.stored h ?_
    unfold stored
    split
    · exact (Frame.storeAt (by decide)).mpr (Frame.refl _ s)
    · exact Frame.refl _ s
  exact hstored.trans (Waits.modSlot hstored.slot fun z hz => ⟨hz.tag, hz.counted rfl rfl rfl rfl rfl rfl⟩)

/-- A set that closes for the only slot leaves it ready to close. -/
theorem OneSlot.closeSet {s : State} {l tag n : Nat} (h : OneSlot l (SlotSt.Forced tag) s) (hn : n < 256) (e : List Byte) (cause : Nat) :
    Waits l (SlotSt.Ready tag n) s (s.closeSet l tag n e cause) := by
  unfold State.closeSet
  extract_lets now inst settled coming shut counted
  have hsettled : Waits l (SlotSt.Forced tag) s settled := Waits.foldl (fun w t hw => hw.settle e t) _ h
  have hcoming : Waits l (SlotSt.Forced tag) s coming := hsettled.trans (Waits.foldl (fun w t hw => hw.settleComing t) _ hsettled.slot)
  have hshut : Waits l (SlotSt.Ready tag n) s shut := hcoming.trans (Waits.modSlot hcoming.slot fun z hz =>
    ⟨hz.tag, hz.counted rfl rfl rfl rfl rfl rfl, by unfold SlotSt.setClosed; simp⟩)
  refine hshut.trans (Waits.of_regs (rs := [R.LOOM_SETn_PRESENCE n, R.LOOM_SETn_DEADLINE n, R.LOOM_SETn_LAST_LAG n]) hshut.slot ?_ ?_ ?_)
  · simp (disch := decide) only [Frame.putReg, counted, Frame.count, Frame.refl]
  · rw [sameRegs_putReg (by simp)]
    unfold counted
    rw [sameRegs_count (by split <;> simp)]
    exact SameRegs.refl shut _
  · intro a ha hm
    have hapart := closureRegs_apart a ha
    simp only [List.mem_cons, List.not_mem_nil, or_false, R.LOOM_SETn_PRESENCE, R.LOOM_SETn_DEADLINE, R.LOOM_SETn_LAST_LAG] at hm
    omega

/-- The set closes if it has not. -/
theorem OneSlot.forceSet {s : State} {l tag n : Nat} (h : OneSlot l (SlotSt.Forced tag) s) (hn : n < 256) (e : List Byte) (x : SlotSt) :
    Waits l (SlotSt.Ready tag n) s (if (((s.lat l).slot tag).getD x).setClosed n then s else s.closeSet l tag n e 1) := by
  obtain ⟨y, hfind, hy, hforced⟩ := h.slot fun _ hy => hy.tag
  rw [hfind, Option.getD_some]
  split
  case isTrue hshut => exact ⟨OnlyOpen.refl l s, y, hy, hforced, hshut⟩
  case isFalse => exact h.closeSet hn e 1

/-- The slot is forced: its only set closes at once. -/
theorem OneSlot.forceSlot {s : State} {l tag n : Nat} {e : List Byte} (h : OneSlot l (SlotSt.Due tag) s) (hn : n < 256)
    (hsets : ∀ y : SlotSt, y.tag = tag → y.shed = [] → s.liveSets l y = [(n, e)]) : Waits l (SlotSt.Ready tag n) s (s.forceSlot l tag) := by
  unfold State.forceSlot
  extract_lets marked
  have hmarked : Waits l (SlotSt.Forced tag) s marked := Waits.modSlot h fun y hy =>
    ⟨hy.tag, ⟨hy.tag, hy.opened, hy.closed, hy.released, hy.shed⟩, rfl⟩
  obtain ⟨y, hfind, -, hy⟩ := hmarked.slot.slot fun _ hy => hy.tag
  rw [hfind]
  dsimp only
  rw [hy.closed, hmarked.only.liveSets (y := y) l rfl rfl, hsets y hy.tag hy.shed]
  exact hmarked.trans (hmarked.slot.forceSet hn e y)

/-! A lattice resumes after a step (R202). -/

/-- The lattice goes on at the slot `goal`, and the slots skipped are recorded. -/
def State.resumeAt (s : State) (l from' goal k : Nat) : State :=
  let s := s.putLat l { s.lat l with
    next := some goal, gap := true, paused := false, stepped := false
    slots := (s.lat l).slots.filter (fun y => y.opened || decide (goal ≤ y.tag)) }
  if k = 0 then s
  else ((s.count (R.LOOM_Ln_GAP_SLOTS l) k).event E.LOOM_SLOT_GAP l (leBytes 1 l ++ leBytes 8 from' ++ leBytes 4 (sat32 k))).raise I.LOOM_SLOT_GAP

theorem State.resumeAt_only (s : State) {l : Nat} (hl : l < 4) (from' goal k : Nat) : OnlyOpen l s (s.resumeAt l from' goal k) := by
  have happart : ∀ l < 4, ∀ a ∈ closureRegs, a ∉ [R.LOOM_Ln_GAP_SLOTS l, R.HOST_PBAn (I.LOOM_SLOT_GAP.1 / 32)] ++ eventRegs := by decide
  unfold State.resumeAt
  extract_lets lattice moved
  have hmoved : OnlyOpen l s moved := OnlyOpen.putLat s l _
  split
  · exact hmoved
  · refine hmoved.trans (OnlyOpen.of_regs ?_ ?_ (happart l hl))
    · simp (disch := decide) only [Frame.raise, Frame.event, Frame.count, Frame.refl]
    · rw [sameRegs_raise (by simp), sameRegs_event (by simp) (by simp), sameRegs_count (by simp)]
      exact SameRegs.refl _ _

theorem State.resumeAt_slots (s : State) (l from' goal k : Nat) :
    ((s.resumeAt l from' goal k).lat l).slots = (s.lat l).slots.filter (fun y => y.opened || decide (goal ≤ y.tag)) := by
  unfold State.resumeAt
  extract_lets lattice moved
  have hmoved : (moved.lat l).slots = (s.lat l).slots.filter (fun y => y.opened || decide (goal ≤ y.tag)) := by
    unfold moved
    rw [State.lat_putLat]
  split
  · exact hmoved
  · have hframe : Frame 0x100008d0 moved (((moved.count (R.LOOM_Ln_GAP_SLOTS l) k).event E.LOOM_SLOT_GAP l
        (leBytes 1 l ++ leBytes 8 from' ++ leBytes 4 (sat32 k))).raise I.LOOM_SLOT_GAP) := by
      simp (disch := decide) only [Frame.raise, Frame.event, Frame.count, Frame.refl]
    exact (congrArg LatSt.slots (State.lat_congr (by rw [hframe .loom rfl]) l)).trans hmoved

theorem State.skipSlots_eq (s : State) (l from' : Nat) (force : Bool) :
    s.skipSlots l from' force = (if force then ((s.lat l).slots.filter (fun y => y.opened && y.closed.isNone)).foldl (fun s y => s.forceSlot l y.tag) s
      else s).resumeAt l from' (firstSlotAt (s.rate l) s.now) (slotNumber (s.rate l) (firstSlotAt (s.rate l) s.now) - slotNumber (s.rate l) from') := rfl

/-- A step of the slot's own lattice leaves the slot ready. -/
theorem OneSlot.takeStep {s : State} {l tag n : Nat} {e : List Byte} (h : OneSlot l (SlotSt.Ready tag n) s) (hl : l < 4) (hn : n < 256)
    (hsets : ∀ y : SlotSt, y.tag = tag → y.shed = [] → s.liveSets l y = [(n, e)]) : Waits l (SlotSt.Ready tag n) s (s.takeStep l) := by
  obtain ⟨y, -, hy, hready⟩ := h.slot fun _ hy => hy.tag
  unfold State.takeStep
  dsimp only
  split
  · exact ⟨OnlyOpen.refl l s, h⟩
  · split
    · next from' _ =>
      have hforced : Waits l (SlotSt.Ready tag n) s (s.forceSlot l tag) := OneSlot.forceSlot ⟨y, hy, hready.toDue⟩ hn hsets
      obtain ⟨z, -, hz, hready'⟩ := hforced.slot.slot fun _ hy => hy.tag
      rw [State.skipSlots_eq, if_pos rfl, hy]
      simp only [List.filter_cons, List.filter_nil, hready.opened, hready.closed, Option.isNone_none, Bool.and_self, if_true, List.foldl_cons, List.foldl_nil,
        hready.tag]
      refine ⟨hforced.only.trans (State.resumeAt_only _ hl _ _ _), z, ?_, hready'⟩
      rw [State.resumeAt_slots, hz]
      simp [hready'.opened]
    · exact ⟨OnlyOpen.putLat s l _, y, by rw [State.lat_putLat]; exact hy, hready⟩

/-- A lattice without slots stays without. -/
theorem State.takeStep_idle {s : State} {l : Nat} (h : (s.lat l).slots = []) (hl : l < 4) :
    OnlyOpen l s (s.takeStep l) ∧ ((s.takeStep l).lat l).slots = [] := by
  unfold State.takeStep
  dsimp only
  split
  · exact ⟨OnlyOpen.refl l s, h⟩
  · split
    · rw [State.skipSlots_eq, if_pos rfl, h]
      exact ⟨State.resumeAt_only s hl _ _ _, by rw [State.resumeAt_slots]; simp [h]⟩
    · exact ⟨OnlyOpen.putLat s l _, by rw [State.lat_putLat]; exact h⟩

/-! A lattice that has no slots. -/

theorem State.showLattice_only (s : State) {l : Nat} (hl : l < 4) (k : Nat) : OnlyOpen k s (s.showLattice l) := by
  have happart : ∀ l < 4, R.LOOM_Ln_OPEN l ∉ closureRegs := by decide
  exact OnlyOpen.putReg s k _ (happart l hl)

theorem State.showLattice_loom (s : State) (l : Nat) : (s.showLattice l).loom = s.loom := by
  unfold State.showLattice
  simp

theorem State.pruneSlots_only (s : State) (l : Nat) : OnlyOpen l s (s.pruneSlots l) := OnlyOpen.putLat s l _

/-- A look at a lattice and at what it has released. -/
def loomStep (s : State) (l : Nat) : State := (s.evalLattice l).deliverLattice l

theorem loomStep_idle {s : State} {l : Nat} (h : (s.lat l).slots = []) (hl : l < 4) :
    OnlyOpen l s (loomStep s l) ∧ ((loomStep s l).lat l).slots = [] := by
  have heval : OnlyOpen l s (s.evalLattice l) ∧ ((s.evalLattice l).lat l).slots = [] := by
    unfold State.evalLattice
    split
    · exact ⟨OnlyOpen.refl l s, h⟩
    · obtain ⟨honly, hslots⟩ := State.takeStep_idle h hl
      dsimp only
      rw [hslots]
      exact ⟨honly.trans (State.showLattice_only _ hl l), by
        rw [State.lat_congr (by rw [State.showLattice_loom]) l]; exact hslots⟩
  obtain ⟨honly, hslots⟩ := heval
  unfold loomStep State.deliverLattice
  rw [hslots]
  refine ⟨honly.trans (State.pruneSlots_only _ l), ?_⟩
  unfold State.pruneSlots
  rw [State.lat_putLat, List.filter_nil, List.foldl_nil]
  dsimp only
  rw [hslots]
  rfl

/-! The slot closes (R189). -/

/-- The registers that say what has closed on a lattice. -/
abbrev closedRegs (l : Nat) : List Nat := [R.LOOM_Ln_FORCED l, R.LOOM_Ln_CLOSED_LO l, R.LOOM_Ln_CLOSED_LO l + 4]

/-- What says that a slot has closed stays, and so do the slots of other lattices. -/
structure AfterClose (l : Nat) (s u : State) : Prop where
  regs : ∀ a ∈ closedRegs l, u.regN a = s.regN a
  queue : u.loom.closeQ = s.loom.closeQ
  others : ∀ k, k ≠ l → (s.lat k).slots = [] → (u.lat k).slots = []

namespace AfterClose

variable {l : Nat} {s u v : State}

theorem refl (l : Nat) (s : State) : AfterClose l s s := ⟨fun _ _ => rfl, rfl, fun _ _ h => h⟩

theorem trans (h : AfterClose l s u) (k : AfterClose l u v) : AfterClose l s v :=
  ⟨fun a ha => (k.regs a ha).trans (h.regs a ha), k.queue.trans h.queue, fun j hj hs => k.others j hj (h.others j hj hs)⟩

theorem foldl {α : Type} {f : State → α → State} (h : ∀ w x, AfterClose l w (f w x)) (xs : List α) (s : State) : AfterClose l s (xs.foldl f s) := by
  induction xs generalizing s with
  | nil => exact refl l s
  | cons x xs ih => exact (h s x).trans (ih _)

theorem closedRegs_closure (hl : l < 4) : ∀ a ∈ closedRegs l, a ∈ closureRegs := by
  have h : ∀ l < 4, ∀ a ∈ closedRegs l, a ∈ closureRegs := by decide
  exact h l hl

theorem of_only (hl : l < 4) {k : Nat} (h : OnlyOpen k s u) (hk : k ≠ l → (u.lat k).slots = []) : AfterClose l s u :=
  ⟨fun a ha => h.regs a (closedRegs_closure hl a ha), h.queue, fun j hj hs => by
    by_cases e : j = k
    · subst e
      exact hk hj
    · rw [h.others j e]
      exact hs⟩

theorem of_same (hl : l < 4) (h : OnlyOpen l s u) : AfterClose l s u := of_only hl h fun e => absurd rfl e

theorem of_low (hl : l < 4) (h : SameLow s u) (hloom : u.loom = s.loom) : AfterClose l s u :=
  ⟨fun a ha => h a (by
    simp only [List.mem_cons, List.not_mem_nil, or_false, R.LOOM_Ln_FORCED, R.LOOM_Ln_CLOSED_LO] at ha
    omega), by rw [hloom], fun k _ hs => (congrArg LatSt.slots (State.lat_congr (by rw [hloom]) k)).trans hs⟩

theorem releaseSlot (hl : l < 4) (s : State) (tag : Nat) : AfterClose l s (s.releaseSlot l tag) := by
  have happart : ∀ l < 4, ∀ a ∈ closureRegs, a ∉ [R.LOOM_Ln_RELEASED_LO l, R.LOOM_Ln_RELEASED_LO l + 4] := by decide
  unfold State.releaseSlot
  extract_lets marked written
  have hmarked : OnlyOpen l s marked := OnlyOpen.modSlot s l tag _
  have hwritten : OnlyOpen l s written := hmarked.trans (OnlyOpen.stored ((Frame.writeHeader (by decide)).mpr (Frame.refl _ _)))
  refine of_same hl (hwritten.trans (OnlyOpen.of_regs (rs := [R.LOOM_Ln_RELEASED_LO l, R.LOOM_Ln_RELEASED_LO l + 4]) ?_ ?_ (happart l hl)))
  · unfold State.putPair
    simp (disch := decide) only [Frame.putReg, Frame.refl]
  · rw [sameRegs_putPair (by simp) (by simp)]
    exact SameRegs.refl _ _

theorem deliverSlot (hl : l < 4) (s : State) (tag : Nat) : AfterClose l s (s.deliverSlot l tag) := by
  unfold State.deliverSlot
  have hcapt : AfterClose l s (s.captRelease l tag) :=
    of_low hl (s.sameLow_captRelease l tag) ((Frame.captRelease (m := 0x31000cd0) rfl).mpr (Frame.refl _ s) .loom rfl)
  have hslv : AfterClose l s ((s.captRelease l tag).forwardSlot l tag) :=
    hcapt.trans (of_low hl (State.sameLow_forwardSlot _ l tag) ((Frame.forwardSlot (m := 0x100408d0) rfl).mpr (Frame.refl _ _) .loom rfl))
  exact hslv.trans (of_same hl (OnlyOpen.modSlot _ l tag _))

theorem deliverLattice (hl : l < 4) (s : State) : AfterClose l s (s.deliverLattice l) := by
  unfold State.deliverLattice
  have hstep : ∀ (w : State) (y : SlotSt), AfterClose l w (w.deliverSlot l y.tag) := fun w y => deliverSlot hl w y.tag
  have hall := foldl hstep ((s.lat l).slots.filter (fun y => y.released.isSome && y.piped && !y.passed)) s
  exact hall.trans (of_same hl (State.pruneSlots_only _ l))

theorem idle (hl : l < 4) {k : Nat} (hk : k < 4) (h : (s.lat k).slots = []) : AfterClose l s (loomStep s k) := by
  obtain ⟨honly, hslots⟩ := loomStep_idle h hk
  exact of_only hl honly fun _ => hslots

theorem switchDone (hl : l < 4) (s : State) : AfterClose l s s.switchDone := by
  refine of_low hl ?_ ((Frame.switchDone (m := 0x950) rfl).mpr (Frame.refl _ s) .loom rfl)
  unfold State.switchDone
  exact SameLow.ite (SameLow.trans (SameLow.of_same (by simp)) (State.sameLow_raise _ _)) (SameLow.refl s)

end AfterClose

/-- The slot has closed as forced, its alarm pipeline waits, and no other lattice has changed. -/
structure Closes (l tag : Nat) (s u : State) : Prop where
  forced : u.regN (R.LOOM_Ln_FORCED l) = (s.regN (R.LOOM_Ln_FORCED l) + 1) % 2 ^ 32
  shown : u.pairAt (R.LOOM_Ln_CLOSED_LO l) = tag % 2 ^ 64
  queue : u.loom.closeQ = s.loom.closeQ ++ [(l, tag)]
  others : ∀ k, k < 4 → k ≠ l → (s.lat k).slots = [] → (u.lat k).slots = []

theorem Closes.later {l tag : Nat} {s u v : State} (h : Closes l tag s u) (k : AfterClose l u v) : Closes l tag s v := by
  refine ⟨(k.regs _ (by simp)).trans h.forced, ?_, k.queue.trans h.queue, fun j h4 hj hs => k.others j hj (h.others j h4 hj hs)⟩
  unfold State.pairAt
  rw [k.regs _ (by simp), k.regs _ (by simp)]
  exact h.shown

theorem Closes.before {l tag : Nat} {s u v : State} (hl : l < 4) (k : SameClosure s u)
    (ho : ∀ j, j < 4 → j ≠ l → (s.lat j).slots = [] → (u.lat j).slots = []) (h : Closes l tag u v) : Closes l tag s v := by
  refine ⟨?_, h.shown, by rw [h.queue, k.queue], fun j h4 hj hs => h.others j h4 hj (ho j h4 hj hs)⟩
  rw [h.forced, k.regs _ (AfterClose.closedRegs_closure hl _ (by simp))]

/-- CLOSED and the lag are shown and the slot recorded as forced. -/
theorem State.recordForced_shown (s : State) {l : Nat} (hl : l < 4) (tag lag : Nat) {u : State}
    (hu : u = ((s.putPair (R.LOOM_Ln_CLOSED_LO l) tag).putReg (R.LOOM_Ln_CLOSE_LAG l) lag).recordForced l tag) :
    u.regN (R.LOOM_Ln_FORCED l) = (s.regN (R.LOOM_Ln_FORCED l) + 1) % 2 ^ 32 ∧ u.pairAt (R.LOOM_Ln_CLOSED_LO l) = tag % 2 ^ 64 ∧
      u.regN R.DRAFT_CARDS = s.regN R.DRAFT_CARDS := by
  have happart : ∀ l < 4, ∀ a ∈ R.DRAFT_CARDS :: closedRegs l, a ∉ R.HOST_PBAn (I.LOOM_FORCED_CLOSE.1 / 32) :: eventRegs := by decide
  have hnext : ∀ l < 4, R.LOOM_Ln_CLOSED_LO l ≠ R.LOOM_Ln_FORCED l ∧ R.LOOM_Ln_CLOSED_LO l + 4 ≠ R.LOOM_Ln_FORCED l ∧
      R.LOOM_Ln_CLOSE_LAG l ∉ R.DRAFT_CARDS :: closedRegs l ∧ R.DRAFT_CARDS ∉ closedRegs l := by decide
  obtain ⟨hlo, hhi, hlag, hcards⟩ := hnext l hl
  simp only [List.mem_cons, List.not_mem_nil, or_false, not_or] at hlag hcards
  obtain ⟨c, hc⟩ : ∃ c : State, c = ((s.putPair (R.LOOM_Ln_CLOSED_LO l) tag).putReg (R.LOOM_Ln_CLOSE_LAG l) lag).count (R.LOOM_Ln_FORCED l) := ⟨_, rfl⟩
  have htold : SameRegs c u (R.HOST_PBAn (I.LOOM_FORCED_CLOSE.1 / 32) :: eventRegs) := by
    rw [hu]
    unfold State.recordForced
    rw [← hc, sameRegs_raise (by simp), sameRegs_event (by simp) (by simp)]
    exact SameRegs.refl c _
  have hkept : ∀ a ∈ R.DRAFT_CARDS :: closedRegs l, u.regN a = c.regN a := fun a ha => htold a (happart l hl a ha)
  refine ⟨?_, ?_, ?_⟩
  · rw [hkept _ (by simp), hc, State.regN_count_same, State.regN_putReg_other _ _ hlag.2.1]
    unfold State.putPair
    rw [State.regN_putReg_other _ _ hhi, State.regN_putReg_other _ _ hlo]
  · unfold State.pairAt
    rw [hkept _ (by simp), hkept _ (by simp), hc]
    unfold State.count
    rw [State.regN_putReg_other _ _ (Ne.symm hlo), State.regN_putReg_other _ _ (Ne.symm hhi), State.regN_putReg_other _ _ hlag.2.2.1,
      State.regN_putReg_other _ _ hlag.2.2.2]
    exact State.pairAt_putPair _ _ _
  · rw [hkept _ (by simp), hc]
    unfold State.count State.putPair
    rw [State.regN_putReg_other _ _ (Ne.symm hcards.1), State.regN_putReg_other _ _ hlag.1, State.regN_putReg_other _ _ (Ne.symm hcards.2.2),
      State.regN_putReg_other _ _ (Ne.symm hcards.2.1)]

theorem OneSlot.closeSlot {s : State} {l tag n : Nat} (h : OneSlot l (SlotSt.Ready tag n) s) (hl : l < 4) (hwire : bit (s.wiring l) 0 = true) :
    Closes l tag s (s.closeSlot l tag) := by
  obtain ⟨y, hfind, -, hy⟩ := h.slot fun _ hy => hy.tag
  unfold State.closeSlot
  rw [hfind]
  dsimp -zeta only
  extract_lets now inst shed filled marked x' number past written shown lagged told loom
  have hfilled : Waits l (SlotSt.Ready tag n) s filled :=
    Waits.stored h ((Frame.foldl (fun u t => (Frame.storeValue (by decide)).mpr (Frame.refl _ u)) _ _).mpr (Frame.refl _ s))
  have hmarked : Waits l (fun z => z.forced = true ∧ z.tag = tag) s marked :=
    hfilled.trans (Waits.modSlot hfilled.slot fun z hz => ⟨hz.tag, hz.forced, hz.tag⟩)
  have hforced : x'.forced = true := by
    obtain ⟨z, hz, -, hp⟩ := hmarked.slot.slot fun _ hy => hy.2
    unfold x'
    rw [hz]
    exact hp.1
  have hwritten : OnlyOpen l s written := by
    refine (hmarked.only.trans (OnlyOpen.stored (u := past) ?_)).trans (OnlyOpen.stored ((Frame.writeHeader (by decide)).mpr (Frame.refl _ _)))
    refine (Frame.ite.mpr ?_)
    split
    · exact Frame.refl _ _
    · exact (Frame.foldl (fun u w => (Frame.stkPut (by decide)).mpr (Frame.refl _ u)) _ _).mpr (Frame.refl _ _)
  have htold : told = lagged.recordForced l tag := if_pos hforced
  obtain ⟨hcount, hpair, hcards⟩ := written.recordForced_shown hl tag (sat32 ((now - inst) / 1000)) htold
  have hframe : Frame 0x100008d0 written told := by
    rw [htold]
    unfold lagged shown State.putPair
    simp (disch := decide) only [Frame.recordForced, Frame.putReg, Frame.refl]
  have hloom : told.loom = written.loom := hframe .loom rfl
  have hwiring : bit (told.wiring l) 0 = true := by
    unfold State.wiring at hwire ⊢
    rw [State.cfg_congr (hframe .draft rfl) hcards, hwritten.cfg]
    exact hwire
  rw [if_pos hwiring]
  refine ⟨?_, ?_, ?_, fun k _ hk hs => ?_⟩
  · rw [regN_congr (State.setLoom_regs _ _), hcount, hwritten.regs _ (AfterClose.closedRegs_closure hl _ (by simp))]
  · unfold State.pairAt at hpair ⊢
    rw [regN_congr (State.setLoom_regs _ _), regN_congr (State.setLoom_regs _ _), hpair]
  · rw [State.setLoom_loom]
    exact congrArg (· ++ [(l, tag)]) ((congrArg LoomSt.closeQ hloom).trans hwritten.queue)
  · have hlats : told.loom.lats = written.loom.lats := congrArg LoomSt.lats hloom
    have hlat : (told.setLoom { loom with closeQ := told.loom.closeQ ++ [(l, tag)] }).lat k = written.lat k :=
      State.lat_congr (by rw [State.setLoom_loom]; exact hlats) k
    exact (congrArg LatSt.slots (hlat.trans (hwritten.others k hk))).trans hs

/-- The look at the slot finds its set closed and closes the slot. -/
theorem OneSlot.trySlotClose {s : State} {l tag n : Nat} {e : List Byte} (h : OneSlot l (SlotSt.Ready tag n) s) (hl : l < 4)
    (hwire : bit (s.wiring l) 0 = true) (hsets : ∀ y : SlotSt, y.tag = tag → y.shed = [] → s.liveSets l y = [(n, e)])
    (hdue : s.instant l tag ≤ s.now) : Closes l tag s (s.trySlotClose l tag) := by
  obtain ⟨y, hfind, hslots, hy⟩ := h.slot fun _ hy => hy.tag
  have htry : s.trySet l tag (n, e) = s := by
    have hshut := hy.shut
    unfold SlotSt.setClosed at hshut
    unfold State.trySet
    rw [hfind]
    dsimp only
    split at hshut
    case h_1 z hz =>
      rw [hz]
      dsimp only
      rw [if_pos hshut]
    case h_2 => cases hshut
  unfold State.trySlotClose
  rw [hfind]
  dsimp only
  rw [if_neg (by simp [hy.opened, hy.released]), hsets y hy.tag hy.shed, List.foldl_cons, List.foldl_nil, htry]
  have hclose : ((((s.lat l).slot tag).getD y).closed.isNone = true ∧
      (!(s.lat l).slots.any fun z => decide (z.tag < tag) && z.opened && z.closed.isNone) = true ∧
      ([(n, e)].all fun m => !lsGate m.2 || (((s.lat l).slot tag).getD y).setClosed m.1) = true ∧ s.instant l tag ≤ s.now) := by
    rw [hfind, hslots]
    exact ⟨by simp [hy.closed], by simp [hy.tag], by simp [hy.shut], hdue⟩
  rw [if_pos hclose]
  have hclosed := h.closeSlot hl hwire
  split
  · exact hclosed.later (AfterClose.releaseSlot hl _ tag)
  · exact hclosed

theorem Closes.of_waits {l tag : Nat} {p : SlotSt → Prop} {s u v : State} (hl : l < 4) (k : Waits l p s u) (h : Closes l tag u v) :
    Closes l tag s v := h.before hl k.only.toSameClosure fun j _ hj hs => by rw [k.only.others j hj]; exact hs

/-- A look at the slot's lattice closes the slot. -/
theorem OneSlot.loomStep {s : State} {l tag n : Nat} {e : List Byte} (h : OneSlot l (SlotSt.Ready tag n) s) (hl : l < 4) (hn : n < 256)
    (hwire : bit (s.wiring l) 0 = true) (hsets : ∀ y : SlotSt, y.tag = tag → y.shed = [] → s.liveSets l y = [(n, e)])
    (hdue : s.instant l tag ≤ s.now) (hon : s.domain pdLoom = 0) : Closes l tag s (loomStep s l) := by
  have hstep := h.takeStep hl hn hsets
  obtain ⟨y, -, hslots, hy⟩ := hstep.slot.slot fun _ hy => hy.tag
  have hclosed := hstep.slot.trySlotClose (e := e) hl (by rw [hstep.only.wiring]; exact hwire)
    (fun z ht hs => (hstep.only.liveSets (y := z) l rfl rfl).trans (hsets z ht hs))
    (by rw [hstep.only.instant, hstep.only.now]; exact hdue)
  have heval : Closes l tag s (s.evalLattice l) := by
    unfold State.evalLattice
    rw [if_neg (by simp [hon])]
    dsimp only
    rw [hslots, List.map_cons, List.map_nil, List.foldl_cons, List.foldl_nil, hy.tag]
    exact (Closes.of_waits hl hstep hclosed).later (AfterClose.of_same hl (State.showLattice_only _ hl l))
  exact heval.later (AfterClose.deliverLattice hl _)

/-! All lattices are looked at (R189). -/

/-- The lattices before and after one. -/
theorem lattices_split {l : Nat} (hl : l < 4) : ∃ before after : List Nat, [0, 1, 2, 3] = before ++ l :: after ∧
    (∀ k ∈ before, k < 4 ∧ k ≠ l) ∧ ∀ k ∈ after, k < 4 ∧ k ≠ l := by
  interval_cases l
  · exact ⟨[], [1, 2, 3], rfl, by decide, by decide⟩
  · exact ⟨[0], [2, 3], rfl, by decide, by decide⟩
  · exact ⟨[0, 1], [3], rfl, by decide, by decide⟩
  · exact ⟨[0, 1, 2], [], rfl, by decide, by decide⟩

/-- Lattices without slots, before the one whose slot waits. -/
theorem SameClosure.foldl_idle {l : Nat} {p : SlotSt → Prop} (ks : List Nat) (hk : ∀ k ∈ ks, k < 4 ∧ k ≠ l) {s : State}
    (hidle : ∀ k, k < 4 → k ≠ l → (s.lat k).slots = []) (h : OneSlot l p s) :
    SameClosure s (ks.foldl Machine.loomStep s) ∧ OneSlot l p (ks.foldl Machine.loomStep s) ∧
      ∀ k, k < 4 → k ≠ l → ((ks.foldl Machine.loomStep s).lat k).slots = [] := by
  induction ks generalizing s with
  | nil => exact ⟨SameClosure.refl s, h, hidle⟩
  | cons k ks ih =>
    obtain ⟨hk4, hkl⟩ := hk k (by simp)
    obtain ⟨honly, hslots⟩ := loomStep_idle (hidle k hk4 hkl) hk4
    have hidle' : ∀ j, j < 4 → j ≠ l → ((Machine.loomStep s k).lat j).slots = [] := fun j hj hjl => by
      by_cases e : j = k
      · rw [e]
        exact hslots
      · rw [honly.others j e]
        exact hidle j hj hjl
    obtain ⟨hsame, hone, hrest⟩ := ih (fun j hj => hk j (by simp [hj])) hidle' (h.congr (honly.others l (Ne.symm hkl)))
    exact ⟨honly.toSameClosure.trans hsame, hone, hrest⟩

theorem AfterClose.foldl_idle {l : Nat} (hl : l < 4) (ks : List Nat) (hk : ∀ k ∈ ks, k < 4 ∧ k ≠ l) {s : State}
    (hidle : ∀ k, k < 4 → k ≠ l → (s.lat k).slots = []) : AfterClose l s (ks.foldl Machine.loomStep s) := by
  induction ks generalizing s with
  | nil => exact AfterClose.refl l s
  | cons k ks ih =>
    obtain ⟨hk4, hkl⟩ := hk k (by simp)
    have hstep := AfterClose.idle hl hk4 (hidle k hk4 hkl)
    exact hstep.trans (ih (fun j hj => hk j (by simp [hj])) fun j hj hjl => hstep.others j hjl (hidle j hj hjl))

/-- With one slot waiting in all lattices, whose set has closed, the look at them closes it. -/
theorem OneSlot.loomRun {s : State} {l tag n : Nat} {e : List Byte} (h : OneSlot l (SlotSt.Ready tag n) s) (hl : l < 4) (hn : n < 256)
    (hidle : ∀ k, k < 4 → k ≠ l → (s.lat k).slots = [])
    (hwire : bit (s.wiring l) 0 = true) (hsets : ∀ y : SlotSt, y.tag = tag → y.shed = [] → s.liveSets l y = [(n, e)])
    (hdue : s.instant l tag ≤ s.now) (hon : s.domain pdLoom = 0) : Closes l tag s s.loomRun := by
  obtain ⟨before, after, hsplit, hbefore, hafter⟩ := lattices_split hl
  obtain ⟨hsame, hone, hrest⟩ := SameClosure.foldl_idle before hbefore hidle h
  have hstep := hone.loomStep hl hn (e := e) (by rw [hsame.wiring]; exact hwire)
    (fun z ht hs => (hsame.liveSets (y := z) l rfl rfl).trans (hsets z ht hs))
    (by rw [hsame.instant, hsame.now]; exact hdue) (by rw [hsame.domain]; exact hon)
  have hall : s.loomRun = ([0, 1, 2, 3].foldl Machine.loomStep s).switchDone := by
    unfold State.loomRun
    rw [if_neg (by simp [hon])]
    rfl
  rw [hall, hsplit, List.foldl_append, List.foldl_cons]
  have hafter := AfterClose.foldl_idle hl after hafter fun k hk hkl => hstep.others k hk hkl (hrest k hk hkl)
  exact (hstep.before hl hsame fun k hk hkl _ => hrest k hk hkl).later (hafter.trans (AfterClose.switchDone hl _))

/-! The commands. -/

/-- A slot that is due in the CLOSE_NOW of its lattice closes as forced. -/
theorem closeNow_effect {w : State} {y : SlotSt} {n : Nat} {e : List Byte} (hl : w.arg 6 0 < 4) (hon : w.domain pdLoom = 0)
    (hslots : (w.lat (w.arg 6 0)).slots = [y]) (hidle : ∀ k : Nat, k < 4 → k ≠ w.arg 6 0 → (w.lat k).slots = []) (hy : y.Due y.tag)
    (hdue : w.instant (w.arg 6 0) y.tag ≤ w.now) (hwire : bit (w.wiring (w.arg 6 0)) 0 = true) (hn : n < 256)
    (hsets : w.liveSets (w.arg 6 0) y = [(n, e)]) : Closes (w.arg 6 0) y.tag w (w.forceSlot (w.arg 6 0) y.tag).loomRun := by
  have hall : ∀ z : SlotSt, z.tag = y.tag → z.shed = [] → w.liveSets (w.arg 6 0) z = [(n, e)] := fun z ht hs =>
    ((SameClosure.refl w).liveSets _ ht (hs.trans hy.shed.symm)).trans hsets
  have hforced : Waits (w.arg 6 0) (SlotSt.Ready y.tag n) w (w.forceSlot (w.arg 6 0) y.tag) := OneSlot.forceSlot ⟨y, hslots, hy⟩ hn hall
  have hsame := hforced.only
  refine Closes.of_waits hl hforced (hforced.slot.loomRun hl hn (e := e) (fun k hk hkl => ?_) ?_ (fun z ht hs => ?_) ?_ ?_)
  · rw [hsame.others k hkl]
    exact hidle k hk hkl
  · rw [hsame.wiring]
    exact hwire
  · exact (hsame.liveSets (y := z) _ rfl rfl).trans (hall z ht hs)
  · rw [hsame.instant, hsame.now]
    exact hdue
  · rw [hsame.domain]
    exact hon

theorem State.liveSets_lt {s : State} {l n : Nat} {x : SlotSt} {e : List Byte} (h : (n, e) ∈ s.liveSets l x) : n < 256 := by
  unfold State.liveSets State.latticeSets at h
  have hmem := List.mem_of_mem_filter (List.mem_of_mem_filter h)
  obtain ⟨k, hk, he⟩ := List.mem_map.mp hmem
  cases he
  exact List.mem_range.mp hk

/-- The lattice on which a thread has its weft index, when it is on no lattice before. -/
theorem findSome_weft {s : State} {tid l : Nat} {x : Nat × Nat} (hl : l < 4) (hx : smFind (smGet [] s.loom.weft l) tid = some x)
    (hbefore : ∀ k : Nat, k < l → smFind (smGet [] s.loom.weft k) tid = none) :
    (List.range 4).findSome? (fun l => (smFind (smGet [] s.loom.weft l) tid).map (fun w => (l, w))) = some (l, x) := by
  rw [show List.range 4 = [0, 1, 2, 3] from rfl]
  interval_cases l
  · simp [hx]
  · simp [hx, hbefore 0]
  · simp [hx, hbefore 0, hbefore 1]
  · simp [hx, hbefore 0, hbefore 1, hbefore 2]

/-- Settles O34: a command that reads writes its results alone; the bytes of a histogram are cleared; and on CLOSE_NOW the slot is forced,
its set closes, and the look at the lattices that follows closes the slot, whatever its own lattice and the others do besides. -/
theorem loomCommandsComplete : Obligations.LoomCommandsComplete := by
  unfold Obligations.LoomCommandsComplete
  refine ⟨fun l => ?read, ?quantile, ?reset, fun x l => ?weft, fun y n e => ?close⟩
  case read =>
    refine completes (body := fun _ => cmdReadValue) (fun _ _ _ => rfl) (by decide) fun path w hw => ?_
    obtain ⟨hlattice, htid, htag⟩ := hw
    obtain ⟨v, hv⟩ : ∃ v, v = w.slotValue l (w.arg 6 1 + 2 ^ 32 * w.arg 6 2) (w.arg 6 0) := ⟨_, rfl⟩
    have hval : cmdReadValue w = { state := w.putReg R.LOOM_READ_QUALITY (2 ^ 16 * v.2.2 + v.2.1 % 2 ^ 16), r0 := v.1 % 2 ^ 32, r1 := v.1 / 2 ^ 32 } := by
      unfold cmdReadValue
      dsimp only
      rw [hlattice]
      dsimp only
      rw [if_neg (by omega), hv]
    rw [hval, ← hv]
    refine ⟨rfl, rfl, ?_, ?_, ?_⟩
    · rw [finish_results rfl rfl]
      dsimp only
      rw [Nat.mod_mod]
    · refine (frame_finish_done rfl rfl .loom rfl).trans ?_
      simp
    · refine SameRegs.trans ?_ ((sameRegs_finish_done rfl rfl).mono (by simp))
      exact (sameRegs_putReg_self w _ _).mono (by simp)
  case quantile =>
    refine completes (body := fun _ => cmdQuantile) (fun _ _ _ => rfl) (by decide) fun path w hw => ?_
    obtain ⟨hsid, hlevel⟩ := hw
    obtain ⟨q, hq⟩ : ∃ q, q = w.quantileOf (w.arg 6 0) (w.arg 6 1) := ⟨_, rfl⟩
    have hval : cmdQuantile w = { state := w, r0 := q.1.getD ones32, r1 := q.2 } := by
      unfold cmdQuantile
      dsimp only
      rw [if_neg (by omega), hq]
    rw [hval, ← hq]
    exact ⟨rfl, rfl, finish_results rfl rfl, frame_finish_done rfl rfl .stk rfl, frame_finish_done rfl rfl .archive rfl, sameRegs_finish_done rfl rfl⟩
  case reset =>
    refine completes_ok (body := fun _ => cmdHistReset) (fun _ _ _ => rfl) (by decide) fun path w hw => ?_
    obtain ⟨hlo, hhi, hsid⟩ := hw
    obtain ⟨v, hv⟩ : ∃ v : State, v = w.setStk (memClear w.stk (histAddrOf (w.arg 6 0) 0) 128) := ⟨_, rfl⟩
    refine ⟨v.event E.LOOM_HIST_RESET (w.arg 6 0) (leBytes 2 (w.arg 6 0)), ?_, fun a => ?_, ?_, ?_⟩
    · unfold cmdHistReset
      dsimp only
      rw [if_neg (by omega), if_neg (by omega), if_neg (by omega), ← hv]
    · rw [show (finish 6 3 (ok (v.event E.LOOM_HIST_RESET (w.arg 6 0) (leBytes 2 (w.arg 6 0))))).stk = v.stk from
          (frame_finish_ok _ _ _ .stk rfl).trans ((Frame.event (m := 0x100008d0) rfl).mpr (Frame.refl _ v) .stk rfl), hv, State.setStk_stk,
        smGet_memClear]
      rfl
    · rw [show (finish 6 3 (ok (v.event E.LOOM_HIST_RESET (w.arg 6 0) (leBytes 2 (w.arg 6 0))))).archive = v.archive from
          (frame_finish_ok _ _ _ .archive rfl).trans ((Frame.event (m := 0x100008d0) rfl).mpr (Frame.refl _ v) .archive rfl), hv,
        State.setStk_archive]
    · rw [sameRegs_finish_ok (by simp) (by simp) (by simp) (by simp), sameRegs_event (by simp) (by simp), hv, sameRegs_setStk]
      exact SameRegs.refl w _
  case weft =>
    refine completes (body := fun _ => cmdWeft) (fun _ _ _ => rfl) (by decide) fun path w hw => ?_
    obtain ⟨htid, hl, hx, hbefore⟩ := hw
    have hval : cmdWeft w = { state := w, r0 := 2 ^ 31 + 2 ^ 19 * l + x.1, r1 := x.2 % 2 ^ 32 } := by
      unfold cmdWeft
      dsimp only
      rw [if_neg (by omega), findSome_weft hl hx hbefore]
    rw [hval]
    refine ⟨rfl, rfl, ?_, frame_finish_done rfl rfl .loom rfl, sameRegs_finish_done rfl rfl⟩
    rw [finish_results rfl rfl]
    dsimp only
    rw [Nat.mod_mod]
  case close =>
    refine completes_ok (body := fun _ => cmdCloseNow) (fun _ _ _ => rfl) (by decide) fun path w hw => ?_
    obtain ⟨hmode, hlattice, hon, hslots, hidle, hopened, hclosed, hreleased, hdue, hwire, hshed, hsets, hshut⟩ := hw
    have hn : n < 256 := State.liveSets_lt (e := e) (by rw [hsets]; exact List.mem_singleton_self _)
    have hcloses := closeNow_effect (by omega) hon hslots hidle ⟨rfl, hopened, hclosed, hreleased, hshed⟩ hdue hwire hn hsets
    have hout : ∀ l, l ≤ 3 → ∀ a ∈ closedRegs l, a ∉ cmdRegs 6 := by
      have h : ∀ l < 4, ∀ a ∈ closedRegs l, a ∉ cmdRegs 6 := by decide
      exact fun l hl => h l (by omega)
    have hregs : ∀ a ∈ closedRegs (w.arg 6 0), (finish 6 5 (ok (w.forceSlot (w.arg 6 0) y.tag).loomRun)).regN a =
        (w.forceSlot (w.arg 6 0) y.tag).loomRun.regN a := fun a ha => finish_regN rfl rfl (hout _ hlattice a ha)
    refine ⟨(w.forceSlot (w.arg 6 0) y.tag).loomRun, ?_, ?_, ?_, ?_⟩
    · unfold cmdCloseNow
      dsimp only
      rw [if_neg (by omega), if_neg (by omega), hslots, List.filter_cons, if_pos (by simp [hopened, hclosed, hdue]), List.filter_nil,
        List.foldl_cons, List.foldl_nil]
    · unfold State.pairAt
      rw [hregs _ (by simp), hregs _ (by simp)]
      exact hcloses.shown
    · rw [hregs _ (by simp)]
      exact hcloses.forced
    · exact (congrArg LoomSt.closeQ (frame_finish_ok _ _ _ .loom rfl)).trans hcloses.queue

end Sys2Proof.Machine
end

section
/-!
PROOFS. Sys2Proof/Proofs/AccessCodes.lean: a write follows the access code of each field, and a locked field that would change is rejected.
-/

namespace Sys2Proof.Machine

/-! The fields of a register lie apart from each other, within its 32 bits. -/

/-- The fields lie in the word and no two of them share a bit. -/
def RegRow.apart (r : RegRow) : Bool :=
  r.fields.all (fun f => decide (f.lo ≤ f.hi ∧ f.hi < 32)) && decide (r.fields.Pairwise fun f g => f.hi < g.lo ∨ g.hi < f.lo)

theorem rows_apart : ∀ b : Fin 32, (RegMap.ofBlock b).all RegRow.apart = true := by decide

theorem header_apart : RegMap.header.all RegRow.apart = true := by decide

theorem ofBlock_none {b : Nat} (h : 31 ≤ b) : RegMap.ofBlock b = [] := by
  obtain ⟨k, rfl⟩ : ∃ k, b = k + 31 := ⟨b - 31, by omega⟩
  rfl

theorem bits_mod_word {v hi lo : Nat} (h : hi < 32) : bits (v % 2 ^ 32) hi lo = bits v hi lo := by
  apply Nat.eq_of_testBit_eq
  intro i
  rw [bits_testBit, bits_testBit, Nat.testBit_mod_two_pow]
  by_cases hi' : i < hi + 1 - lo
  · simp [hi', show lo + i < 32 by omega]
  · simp [hi']

/-- The row of an address has its fields apart. -/
theorem regRow_apart {addr : Nat} {r : RegRow} (h : regRow addr = some r) : r.apart = true := by
  unfold regRow at h
  dsimp only at h
  split at h
  next r' hfind =>
    cases h
    by_cases hb : addr / 2 ^ 20 < 32
    · exact List.all_eq_true.mp (rows_apart ⟨addr / 2 ^ 20, hb⟩) r (List.mem_of_find?_eq_some hfind)
    · rw [ofBlock_none (by omega)] at hfind
      cases hfind
  next =>
    split at h
    · cases h
    · exact List.all_eq_true.mp header_apart r (List.mem_of_find?_eq_some h)

/-- What a pass over fields that lie apart leaves in one of them is what its own step put there. -/
theorem bits_foldl_apart {step : Nat → RegField → Nat} {fs : List RegField}
    (hstep : ∀ (a : Nat) (f g : RegField), g.hi < f.lo ∨ f.hi < g.lo → bits (step a f) g.hi g.lo = bits a g.hi g.lo)
    (happart : fs.Pairwise fun f g => f.hi < g.lo ∨ g.hi < f.lo) {g : RegField} (hg : g ∈ fs) (w : Nat) :
    ∃ a, bits (fs.foldl step w) g.hi g.lo = bits (step a g) g.hi g.lo := by
  induction fs generalizing w with
  | nil => cases hg
  | cons f fs ih =>
    obtain ⟨hf, hrest⟩ := List.pairwise_cons.mp happart
    rcases List.mem_cons.mp hg with rfl | hmem
    · refine ⟨w, ?_⟩
      have hkeep : ∀ (l : List RegField), (∀ k ∈ l, g.hi < k.lo ∨ k.hi < g.lo) → ∀ a, bits (l.foldl step a) g.hi g.lo = bits a g.hi g.lo := by
        intro l
        induction l with
        | nil => exact fun _ _ => rfl
        | cons k l ihl =>
          intro hl a
          rw [List.foldl_cons, ihl (fun j hj => hl j (List.mem_cons_of_mem k hj)), hstep a k g (hl k List.mem_cons_self)]
      exact hkeep fs hf (step w g)
    · exact ih hrest hmem (step w f)

/-- What a write puts in a field fits in it. -/
theorem RegField.written_lt (f : RegField) (mode w v : Nat) : f.written mode w v < 2 ^ (f.hi + 1 - f.lo) := by
  have hw := bits_lt w f.hi f.lo
  have hv := bits_lt v f.hi f.lo
  unfold RegField.written
  dsimp only
  split
  · exact hw
  · exact hv
  · exact hv
  · omega
  · exact Nat.or_lt_two_pow hw hv
  · split
    · exact hw
    · exact hv

/-- Each field of a register written has what its access code gives it (R8). -/
theorem bits_written {r : RegRow} (h : r.apart = true) {f : RegField} (hf : f ∈ r.fields) (mode w v : Nat) :
    bits (r.fields.foldl (fun a f => withBits a f.hi f.lo (f.written mode w v)) w % 2 ^ 32) f.hi f.lo = f.written mode w v := by
  unfold RegRow.apart at h
  rw [Bool.and_eq_true, List.all_eq_true, decide_eq_true_eq] at h
  obtain ⟨hin, happart⟩ := h
  have hf' := of_decide_eq_true (hin f hf)
  obtain ⟨a, ha⟩ := bits_foldl_apart (step := fun a f => withBits a f.hi f.lo (f.written mode w v))
    (fun a f g hfg => bits_withBits_apart _ _ _ _ _ _ hfg) happart hf w
  rw [bits_mod_word hf'.2, ha, bits_withBits_same, Nat.mod_eq_of_lt (f.written_lt mode w v)]

/-- A WO field reads 0. -/
theorem bits_readable {r : RegRow} (h : r.apart = true) {f : RegField} (hf : f ∈ r.fields) (hwo : f.access = .wo) (w : Nat) :
    bits (r.readable w) f.hi f.lo = 0 := by
  unfold RegRow.apart at h
  rw [Bool.and_eq_true, decide_eq_true_eq] at h
  obtain ⟨a, ha⟩ := bits_foldl_apart (step := fun w f => if f.access = .wo then withBits w f.hi f.lo 0 else w) (fun a f g hfg => by
    split
    · exact bits_withBits_apart _ _ _ _ _ _ hfg
    · rfl) h.2 hf w
  unfold RegRow.readable
  rw [ha, if_pos hwo, bits_withBits_same, Nat.zero_mod]

/-! A write of the sources' priorities or of TIME_CTRL acts on the servo (R72, R75). -/

/-- The registers of TIME that the servo leaves as they are written. -/
abbrev timeKept : List Nat := [R.TIME_SOURCE_PRIO, R.TIME_CTRL, hdr 3 0x80, hdr 3 0x84]

/-- The registers written and those of the block's rejections stay. -/
def TimeKept (s u : State) : Prop := ∀ a ∈ timeKept, u.regN a = s.regN a

namespace TimeKept

variable {s u v : State}

theorem refl (s : State) : TimeKept s s := fun _ _ => rfl

theorem trans (h : TimeKept s u) (k : TimeKept u v) : TimeKept s v := fun a ha => (k a ha).trans (h a ha)

theorem of_regs {l : List Nat} (h : SameRegs s u l) (hl : ∀ a ∈ timeKept, a ∉ l) : TimeKept s u := fun a ha => h a (hl a ha)

theorem of_same (h : u.regs = s.regs) : TimeKept s u := fun a _ => regN_congr h a

theorem ite {c : Prop} [Decidable c] (h : TimeKept s u) (k : TimeKept s v) : TimeKept s (if c then u else v) := by
  split
  · exact h
  · exact k

theorem event (s : State) (code src : Nat) (p : List Byte) : TimeKept s (s.event code src p) :=
  of_regs ((sameRegs_event (by simp) (by simp)).mpr (SameRegs.refl s eventRegs)) (by decide)

theorem raise (s : State) {c : Nat × Nat} (h : c.1 < 32) : TimeKept s (s.raise c) :=
  of_regs (l := [R.HOST_PBAn 0]) ((sameRegs_raise (by rw [show c.1 / 32 = 0 by omega]; simp)).mpr (SameRegs.refl s _)) (by decide)

theorem putReg (s : State) {a : Nat} (x : Nat) (h : a ∉ timeKept) : TimeKept s (s.putReg a x) :=
  of_regs (sameRegs_putReg_self s a x) fun _ hb hm => h (List.mem_singleton.mp hm ▸ hb)

theorem condition (s : State) (i : Nat) (x : Bool) : TimeKept s (s.condition i x) := of_regs (s.sameRegs_condition i x) (by decide)

theorem updatePins (s : State) : TimeKept s s.updatePins := fun a ha => by
  have hlow : ∀ a ∈ timeKept, a < R.ENERGY_PULSEn_STATE 0 ∧ a ∉ [R.VOTE_STATUS, R.VOTE_PIN_SENSE] := by decide
  exact s.regN_updatePins (hlow a ha).1 (hlow a ha).2

theorem servoTold (s : State) (x : Nat) : TimeKept s (s.servoTold x) := by
  unfold State.servoTold
  extract_lets entering raised
  have hraised : TimeKept s raised := ite (raise s (by decide)) (ite (raise s (by decide)) (refl s))
  exact ite (hraised.trans (condition _ _ _)) (ite (hraised.trans (condition _ _ _)) hraised)

theorem servoSignals (s : State) (x : Nat) : TimeKept s (s.servoSignals x) := by
  obtain ⟨c, inst, heq⟩ := s.servoSignals_eq x
  rw [heq]
  exact ite (servoTold s x) ((servoTold s x).trans (updatePins _))

theorem servoSpan (s : State) (x : Nat) : TimeKept s (s.servoSpan x) := by
  unfold State.servoSpan
  split
  · exact putReg s _ (by decide)
  · exact refl s

theorem setServo (s : State) (x : Nat) : TimeKept s (s.setServo x) := by
  unfold State.setServo
  extract_lets old bound drawn shown locked
  have hdrawn : TimeKept s drawn := (servoSpan s x).trans (of_same (by unfold drawn State.draw; simp))
  have hshown : TimeKept s shown := hdrawn.trans (putReg _ _ (by decide))
  have hlocked : TimeKept s locked := ite (hshown.trans (putReg _ _ (by decide))) hshown
  exact ite (refl s) ((hlocked.trans (event _ _ _ _)).trans (servoSignals _ _))

theorem leaveSuspect (s : State) : TimeKept s s.leaveSuspect := by
  unfold State.leaveSuspect
  refine ite (refl s) ?_
  unfold State.clearQual
  refine TimeKept.trans ?_ (putReg _ _ (by decide))
  exact of_same (by unfold State.putSrc; simp)

theorem select (s : State) (fresh : Bool) : TimeKept s (s.select fresh) := by
  unfold State.select
  extract_lets was moved g v told
  have hmoved : TimeKept s moved := by
    obtain ⟨-, -, hregs, -⟩ := s.leaveSuspect.moveSources_effect
    exact (leaveSuspect s).trans (of_regs hregs (by decide))
  refine ite (ite (hmoved.trans (setServo _ _)) (ite (hmoved.trans (setServo _ _)) hmoved)) (ite hmoved ?_)
  exact ite (hmoved.trans (setServo _ _)) (ite ((hmoved.trans (event _ _ _ _)).trans (setServo _ _)) hmoved)

theorem timeWritten (s old : State) (addr : Nat) : TimeKept s (s.timeWritten old addr) := by
  unfold State.timeWritten
  exact ite (refl s) (ite (select s _) (ite (refl s) (ite (select s _) (ite (setServo s _) (refl s)))))

end TimeKept

/-! A write of a port's configuration acts on its link (R103). -/

/-- The registers that a port's link changes. -/
abbrev linkRegs (p : Nat) : List Nat := [R.PORT_RX_LAT_FIXED p, R.PORT_TX_LAT_FIXED p, R.PORT_LINK p, R.PORT_LINK_DOWNS p, R.PORT_STATUS] ++ eventRegs

theorem linkRegs_apart : ∀ p < 8, ∀ a ∈ [R.PORT_CFG p, hdr 2 0x80, hdr 2 0x84], a ∉ linkRegs p := by decide

theorem State.sameRegs_portLost (s : State) (p d : Nat) (hp : p < 8) : SameRegs s (s.portLost p d) (linkRegs p) := by
  unfold State.portLost
  dsimp only
  rw [sameRegs_raise (by have h : ∀ p < 8, R.HOST_PBAn ((I.PORT_LINK_CHANGE p).1 / 32) ∈ linkRegs p := by decide
                         exact h p hp),
    sameRegs_event (by simp) (by simp), sameRegs_putFld (by simp), sameRegs_count (by simp), sameRegs_putReg (by simp)]
  exact SameRegs.refl s _

theorem State.sameRegs_portWritten (s old : State) {p : Nat} (hp : p < 8) : SameRegs s (s.portWritten old (R.PORT_CFG p)) (linkRegs p) := by
  have hfind : (List.range 8).find? (fun q => R.PORT_CFG p == R.PORT_CFG q) = some p := by
    have h : ∀ p < 8, (List.range 8).find? (fun q => R.PORT_CFG p == R.PORT_CFG q) = some p := by decide
    exact h p hp
  have hlatency : SameRegs s (s.showLatency p) (linkRegs p) := by
    unfold State.showLatency
    dsimp only
    rw [sameRegs_putReg (by simp), sameRegs_putReg (by simp)]
    exact SameRegs.refl s _
  unfold State.portWritten
  rw [hfind]
  dsimp only
  split
  · exact SameRegs.refl s _
  · split
    · exact hlatency.trans (State.sameRegs_portLost _ p 0 hp)
    · rw [sameRegs_putReg (by simp)]
      exact hlatency

theorem State.windowWord_at (s : State) (t b off : Nat) : (s.at t).windowWord b off = s.windowWord b off := rfl

theorem State.defined_at (s : State) (t addr : Nat) : (s.at t).defined addr = s.defined addr := by
  unfold State.defined
  rw [State.windowWord_at]

/-- What a write acts on beside its fields leaves the register written and the block's record of rejections. -/
theorem State.afterWriteOf_kept (s old : State) {addr : Nat} (h : addr ∉ [R.PAIR_CLAIM, R.PAIR_DEGRADE, R.VOTE_CTRL]) :
    ∀ a ∈ [addr, hdr (addr / 2 ^ 20) 0x80, hdr (addr / 2 ^ 20) 0x84], (s.afterWriteOf old addr).regN a = s.regN a := by
  by_cases htime : addr ∈ [R.TIME_SOURCE_PRIO, R.TIME_CTRL]
  · have hval : s.afterWriteOf old addr = s.timeWritten old addr := by
      simp only [List.mem_cons, List.not_mem_nil, or_false] at htime
      unfold State.afterWriteOf
      rcases htime with rfl | rfl <;> rfl
    rw [hval]
    have hsub : ∀ c ∈ [R.TIME_SOURCE_PRIO, R.TIME_CTRL], ∀ a ∈ [c, hdr (c / 2 ^ 20) 0x80, hdr (c / 2 ^ 20) 0x84], a ∈ timeKept := by decide
    exact fun a ha => TimeKept.timeWritten s old addr a (hsub addr htime a ha)
  by_cases hport : addr ∈ (List.range 8).map R.PORT_CFG
  · obtain ⟨p, hp, rfl⟩ := List.mem_map.mp hport
    have hp8 : p < 8 := List.mem_range.mp hp
    have hblock : ∀ p < 8, R.PORT_CFG p / 2 ^ 20 = 2 ∧ R.PORT_CFG p ∉ [R.TIME_SOURCE_PRIO, R.TIME_CTRL] := by decide
    have hval : s.afterWriteOf old (R.PORT_CFG p) = s.portWritten old (R.PORT_CFG p) := by
      simp only [List.mem_cons, List.not_mem_nil, or_false, not_or] at h htime
      unfold State.afterWriteOf
      rw [if_neg (by simp only [h]; simp), if_neg (by simp only [htime]; simp), if_pos (hblock p hp8).1]
    rw [hval, (hblock p hp8).1]
    exact fun a ha => s.sameRegs_portWritten old hp8 a (linkRegs_apart p hp8 a ha)
  · rw [State.afterWriteOf_other]
    · exact fun _ _ => rfl
    · simp only [List.mem_append, List.mem_cons, List.not_mem_nil, or_false, not_or] at h htime hport ⊢
      exact ⟨⟨h.1, h.2.1, h.2.2, htime⟩, hport⟩

/-- A rejection shows the offset and counts (R473). -/
theorem State.reject_shows (s : State) (path : Path) {addr : Nat} (hb : blockHeader (addr / 2 ^ 20) = true) :
    (s.reject path addr).regN (hdr (addr / 2 ^ 20) 0x80) = 2 ^ 31 * path.code + addr % 2 ^ 20 ∧
      (s.reject path addr).regN (hdr (addr / 2 ^ 20) 0x84) = (s.regN (hdr (addr / 2 ^ 20) 0x84) + 1) % 2 ^ 32 ∧
      SameRegs s (s.reject path addr) [hdr (addr / 2 ^ 20) 0x80, hdr (addr / 2 ^ 20) 0x84] := by
  have hcode : path.code ≤ 1 := by cases path <;> decide
  have hne : hdr (addr / 2 ^ 20) 0x84 ≠ hdr (addr / 2 ^ 20) 0x80 := by simp [hdr]
  have hval : s.reject path addr = (s.putReg (hdr (addr / 2 ^ 20) 0x80) (2 ^ 31 * path.code + addr % 2 ^ 20)).count (hdr (addr / 2 ^ 20) 0x84) := by
    simp only [blockHeader, Bool.or_eq_true, decide_eq_true_eq] at hb
    unfold State.reject
    dsimp only
    rw [if_neg (by omega)]
  rw [hval]
  refine ⟨?_, ?_, ?_⟩
  · unfold State.count
    rw [State.regN_putReg_other _ _ hne, State.regN_putReg_same]
    omega
  · rw [State.regN_count_same, State.regN_putReg_other _ _ (Ne.symm hne)]
  · rw [sameRegs_count (by simp), sameRegs_putReg (by simp)]
    exact SameRegs.refl s _

/-- The fields are written, and nothing else but the record of a locked one that would have changed. -/
theorem State.writeFields_effect (s : State) (path : Path) {addr : Nat} (v : Nat) (r : RegRow) (hb : blockHeader (addr / 2 ^ 20) = true)
    (hapart : addr % 2 ^ 20 ∉ [0x80, 0x84]) :
    (s.writeFields path addr v r).regN addr = r.fields.foldl (fun a f => withBits a f.hi f.lo (f.written s.mode (s.regN addr) v)) (s.regN addr) % 2 ^ 32 ∧
      (if r.locks s.mode (s.regN addr) v then
          (s.writeFields path addr v r).regN (hdr (addr / 2 ^ 20) 0x80) = 2 ^ 31 * path.code + addr % 2 ^ 20 ∧
            (s.writeFields path addr v r).regN (hdr (addr / 2 ^ 20) 0x84) = (s.regN (hdr (addr / 2 ^ 20) 0x84) + 1) % 2 ^ 32
        else (s.writeFields path addr v r).regN (hdr (addr / 2 ^ 20) 0x84) = s.regN (hdr (addr / 2 ^ 20) 0x84)) ∧
      SameRegs s (s.writeFields path addr v r) [addr, hdr (addr / 2 ^ 20) 0x80, hdr (addr / 2 ^ 20) 0x84] := by
  have hne : addr ∉ [hdr (addr / 2 ^ 20) 0x80, hdr (addr / 2 ^ 20) 0x84] := by
    simp only [List.mem_cons, List.not_mem_nil, or_false, not_or, hdr] at hapart ⊢
    omega
  obtain ⟨new, hnew⟩ : ∃ new, new = r.fields.foldl (fun a f => withBits a f.hi f.lo (f.written s.mode (s.regN addr) v)) (s.regN addr) := ⟨_, rfl⟩
  obtain ⟨w, hw⟩ : ∃ w : State, w = s.putReg addr new := ⟨_, rfl⟩
  have hval : s.writeFields path addr v r = if r.locks s.mode (s.regN addr) v then w.reject path addr else w := by
    rw [hw, hnew]
    rfl
  have hwritten : w.regN addr = new % 2 ^ 32 := by rw [hw, State.regN_putReg_same]
  have hcount : w.regN (hdr (addr / 2 ^ 20) 0x84) = s.regN (hdr (addr / 2 ^ 20) 0x84) := by
    rw [hw, State.regN_putReg_other _ _ fun h => hne (List.mem_cons_of_mem _ (List.mem_singleton.mpr h))]
  have hsame : SameRegs s w [addr, hdr (addr / 2 ^ 20) 0x80, hdr (addr / 2 ^ 20) 0x84] := by
    rw [hw, sameRegs_putReg (by simp)]
    exact SameRegs.refl s _
  rw [hval, ← hnew]
  split
  next =>
    obtain ⟨hshown, hcounted, hrest⟩ := w.reject_shows path hb
    exact ⟨(hrest addr hne).trans hwritten, ⟨hshown, by rw [hcounted, hcount]⟩, hsame.trans (hrest.mono (by simp))⟩
  next => exact ⟨hwritten, hcount, hsame⟩

/-- A write of a value outside a range stated for a field is rejected (R473). -/
theorem State.writeReg_outOfRange {s : State} {path : Path} {x : CmdInput} {addr v : Nat} (hd : s.defined addr = true)
    (hw : (s.windowWord (addr / 2 ^ 20) (addr % 2 ^ 20)).isSome = false) (hb : blockHeader (addr / 2 ^ 20) = true)
    (hoff : addr % 2 ^ 20 ∉ [0x10, 0x14, 0x18, 0x40]) (haddr : addr ∉ [R.GLOBAL_MODE_REQ, R.HOST_MASTER, R.MONITOR_CTRL])
    (hout : outOfRange addr v = true) : s.writeReg path x addr v = s.reject path addr := by
  simp only [List.mem_cons, List.not_mem_nil, or_false, not_or] at hoff haddr
  obtain ⟨h10, h14, h18, h40⟩ := hoff
  obtain ⟨hreq, hmaster, hctrl⟩ := haddr
  have hcat : decide (16 ≤ addr / 2 ^ 20 ∧ addr / 2 ^ 20 ≤ 23) = false := by
    simp only [blockHeader, Bool.or_eq_true, decide_eq_true_eq] at hb
    exact decide_eq_false (by omega)
  unfold State.writeReg
  dsimp only
  rw [hd, hcat, hw, hout]
  simp only [h10, h14, h18, h40, hreq, hmaster, hctrl, or_self, if_false, if_true, Bool.not_true, Bool.or_false, Bool.false_eq_true]

/-- Settles O12: the fields of a row lie apart, so each has what its access code gives it, and what a write acts on beside them leaves the
register written and the record of rejections. -/
theorem writesFollowTheAccessCodes : Obligations.WritesFollowTheAccessCodes := by
  intro s t addr value x r hrow hreach hdef hwindow hblock h12 hoff hown hmask hrejects
  have haddr : addr < 2 ^ 25 := by
    simp only [blockHeader, Bool.or_eq_true, decide_eq_true_eq] at hblock
    omega
  have hexec : exec (.registerWrite t .host addr value true x) s = .next ((s.at t).writeReg .host x addr value.toNat) := by
    rw [exec_registerWrite hreach.1 haddr hreach.2.1, access_reaches hreach]
    unfold State.asked
    rw [State.monNote_byHost]
  have hplain : addr ∉ [R.GLOBAL_MODE_REQ, R.HOST_MASTER, R.MONITOR_CTRL] ∧ addr ∉ [R.PAIR_CLAIM, R.PAIR_DEGRADE, R.VOTE_CTRL] := by
    simp only [List.mem_cons, List.not_mem_nil, or_false, not_or] at hown ⊢
    exact ⟨⟨hown.1, hown.2.1, hown.2.2.1⟩, hown.2.2.2⟩
  have hdef' : (s.at t).defined addr = true := (s.defined_at t addr).trans hdef
  refine ⟨fun hout => ?range, fun hin => ?fields⟩
  case range =>
    obtain ⟨hshown, hcounted, hrest⟩ := (s.at t).reject_shows .host hblock
    refine ⟨_, hexec.trans (congrArg _ (State.writeReg_outOfRange hdef' hwindow hblock hoff hplain.1 hout)), ?_, ?_, hrest⟩
    · simpa [Path.code] using hshown
    · simpa using hcounted
  case fields =>
    obtain ⟨w, hw⟩ : ∃ w : State, w = (s.at t).writeFields .host addr value.toNat r := ⟨_, rfl⟩
    have hval : (s.at t).writeReg .host x addr value.toNat = w.afterWriteOf (s.at t) addr := by
      rw [State.writeReg_fields hdef' hwindow hblock (fun h => absurd h h12) hoff hplain.1 hin hmask hrow, if_neg h12, hw]
    obtain ⟨hnew, hlocked, hsame⟩ := (s.at t).writeFields_effect .host value.toNat r hblock hrejects
    rw [← hw, State.mode_at, State.regN_at] at hnew hlocked
    rw [← hw] at hsame
    have hkept := w.afterWriteOf_kept (s.at t) hplain.2
    have hreg : (w.afterWriteOf (s.at t) addr).regN addr = w.regN addr := hkept _ (by simp)
    have happart := regRow_apart hrow
    refine ⟨_, hexec.trans (congrArg _ hval), fun f hf => ?_, ?_, fun hother => ?_, fun f hf hwo => ?_⟩
    · rw [hreg, hnew, bits_written happart hf]
      rfl
    · change if r.locks s.mode (s.regN addr) value.toNat = true then _ else _
      rw [hkept _ (by simp), hkept _ (by simp)]
      split at hlocked
      next hbad =>
        rw [if_pos hbad]
        simpa [Path.code] using hlocked
      next hgood =>
        rw [if_neg hgood]
        simpa using hlocked
    · rw [State.afterWriteOf_other]
      · exact hsame
      · simp only [List.mem_append, List.mem_cons, List.not_mem_nil, or_false, not_or] at hother hplain ⊢
        exact ⟨⟨hplain.2.1, hplain.2.2.1, hplain.2.2.2, hother.1⟩, hother.2⟩
    · exact bits_readable happart hf hwo _

end Sys2Proof.Machine
end

section
/-!
PROOFS. Sys2Proof/Proofs/DraftLoads.lean: what a load does once the domains are as the draft uses them, and a load that leaves one ON.
-/

namespace Sys2Proof.Machine

/-! What a load does once the domains are as the draft uses them (R49). -/

/-- The registers of the domains' states, of the domains used and of the cards. -/
abbrev usedRegs : List Nat := [R.POWER_DOMAIN_STATE, R.DRAFT_DOMAINS, R.DRAFT_CARDS]

/-- The draft, its cards and the domains stay. -/
structure LoadKept (s u : State) : Prop where
  base : u.draft.base = s.draft.base
  cards : u.draft.cards = s.draft.cards
  regs : ∀ a ∈ usedRegs, u.regN a = s.regN a

/-- What a draft says of a pulse output is shown. -/
def energyOutput (b : List Byte) (s : State) (n : Nat) : State :=
  let o := 0x10 + 12 * n
  let w := leAt b o 2
  let s := s.putReg (R.ENERGY_PULSEn_CFG n) (2 ^ 28 * (leAt b (o + 2) 1 % 16) + (if bit w 15 then 2 ^ 27 else 0) + 2 ^ 16 * (w % 2048) + leAt b (o + 4) 2)
  s.putReg (R.ENERGY_PULSEn_K n) (leAt b (o + 8) 4)

/-- With nothing saved the meters start anew. -/
theorem State.energyLoad_of_none {s : State} (h : s.saves.newest = none) :
    s.energyLoad = ((List.range 4).foldl (energyOutput (s.cfg secEnergy)) (s.setEnergy {})).showEnergy := by
  unfold State.energyLoad
  have hnone : (s.setEnergy {}).saves.newest = none := (congrArg EnergySaves.newest (State.setEnergy_saves s {})).trans h
  dsimp only
  rw [hnone]
  rfl

theorem State.energyLoad_pulses {s : State} (h : s.saves.newest = none) : s.energyLoad.energy.pulses = [] := by
  have hstep : ∀ w n, Frame 0x10 w (energyOutput (s.cfg secEnergy) w n) := fun w n => by
    unfold energyOutput
    simp (disch := decide) only [Frame.putReg, Frame.refl]
  have hframe : Frame 0x10 (s.setEnergy {}) (((List.range 4).foldl (energyOutput (s.cfg secEnergy)) (s.setEnergy {})).showEnergy) := by
    rw [Frame.showEnergy (by decide), Frame.foldl hstep]
    exact Frame.refl _ _
  rw [State.energyLoad_of_none h, show (((List.range 4).foldl (energyOutput (s.cfg secEnergy)) (s.setEnergy {})).showEnergy).energy =
    (s.setEnergy {}).energy from hframe .energy rfl, State.setEnergy_energy]

namespace LoadKept

variable {s u v : State}

theorem refl (s : State) : LoadKept s s := ⟨rfl, rfl, fun _ _ => rfl⟩

theorem trans (h : LoadKept s u) (k : LoadKept u v) : LoadKept s v :=
  ⟨k.base.trans h.base, k.cards.trans h.cards, fun a ha => (k.regs a ha).trans (h.regs a ha)⟩

theorem of_regs (hd : u.draft = s.draft) {l : List Nat} (h : SameRegs s u l) (hl : ∀ a ∈ usedRegs, a ∉ l) : LoadKept s u :=
  ⟨by rw [hd], by rw [hd], fun a ha => h a (hl a ha)⟩

theorem of_same (hd : u.draft = s.draft) (h : u.regs = s.regs) : LoadKept s u := ⟨by rw [hd], by rw [hd], fun a _ => regN_congr h a⟩

theorem putReg (s : State) {a : Nat} (x : Nat) (h : a ∉ usedRegs) : LoadKept s (s.putReg a x) :=
  of_regs (State.putReg_draft s a x) (sameRegs_putReg_self s a x) fun _ hb hm => h (List.mem_singleton.mp hm ▸ hb)

theorem putPair (s : State) {a : Nat} (x : Nat) (h : a ∉ usedRegs) (h4 : a + 4 ∉ usedRegs) : LoadKept s (s.putPair a x) :=
  (putReg s _ h).trans (putReg _ _ h4)

theorem event (s : State) (code src : Nat) (p : List Byte) : LoadKept s (s.event code src p) :=
  of_regs (by simp) ((sameRegs_event (by simp) (by simp)).mpr (SameRegs.refl s eventRegs)) (by decide)

theorem raise (s : State) {c : Nat × Nat} (h : c.1 < 32) : LoadKept s (s.raise c) :=
  of_regs (l := [R.HOST_PBAn 0]) (by simp) ((sameRegs_raise (by rw [show c.1 / 32 = 0 by omega]; simp)).mpr (SameRegs.refl s _)) (by decide)

theorem ite {c : Prop} [Decidable c] (h : LoadKept s u) (k : LoadKept s v) : LoadKept s (if c then u else v) := by
  split
  · exact h
  · exact k

theorem foldl {α : Type} {f : State → α → State} {xs : List α} (h : ∀ w, ∀ x ∈ xs, LoadKept w (f w x)) : LoadKept s (xs.foldl f s) := by
  induction xs generalizing s with
  | nil => exact refl s
  | cons x xs ih => exact (h s x List.mem_cons_self).trans (ih fun w y hy => h w y (List.mem_cons_of_mem x hy))

theorem cfg (h : LoadKept s u) (ty : Nat) : u.cfg ty = s.cfg ty := by
  unfold State.cfg State.activeCard State.isSet State.fld
  rw [h.base, h.cards, h.regs R.DRAFT_CARDS (by decide)]

theorem pairMode (h : LoadKept s u) : u.pairMode = s.pairMode := by
  unfold State.pairMode
  rw [h.cfg]

theorem showFenced (s : State) : LoadKept s s.showFenced := (putReg s _ (by decide)).trans (putReg _ _ (by decide))

theorem clearFault (s : State) : LoadKept s s.clearFault := by
  unfold State.clearFault
  exact ite (((putReg s _ (by decide)).trans (event _ _ _ _)).trans (raise _ (by decide))) (refl s)

theorem lanes (s : State) : LoadKept s ([0, 1, 2].foldl (fun s i => s.putFld (laneFld i) 0) s) :=
  foldl fun w i hi => by
    have h : ∀ i ∈ [0, 1, 2], (laneFld i).addr ∉ usedRegs := by decide
    exact putReg w _ (h i hi)

theorem showLatency (s : State) {p : Nat} (h : p < 8) : LoadKept s (s.showLatency p) := by
  have hp : ∀ p < 8, R.PORT_RX_LAT_FIXED p ∉ usedRegs ∧ R.PORT_TX_LAT_FIXED p ∉ usedRegs := by decide
  exact (putReg s _ (hp p h).1).trans (putReg _ _ (hp p h).2)

/-- The multicast table is another part of the registers than the domains. -/
theorem clearTable (s : State) :
    LoadKept s ((s.setPort {}).setRegs (s.regs.filter (fun e => !decide (R.PORT_MCASTn_W0 0 ≤ e.1 ∧ e.1 < R.PORT_MCASTn_W0 256)))) := by
  refine ⟨by simp, by simp, fun a ha => ?_⟩
  have hout : ∀ a ∈ usedRegs, ¬(R.PORT_MCASTn_W0 0 ≤ a ∧ a < R.PORT_MCASTn_W0 256) := by decide
  have hkeep := hout a ha
  unfold State.regN State.reg
  rw [State.setRegs_regs, smFind_filter s.regs (fun k => !decide (R.PORT_MCASTn_W0 0 ≤ k ∧ k < R.PORT_MCASTn_W0 256)), if_pos (by simp [hkeep])]

theorem loadPorts (s : State) : LoadKept s s.loadPorts := by
  unfold State.loadPorts
  dsimp only
  refine LoadKept.trans (LoadKept.trans (clearTable s) (foldl fun w e _ => foldl fun w i hi => putReg w _ ?_)) (foldl fun w p hp => showLatency w (List.mem_range.mp hp))
  have hi8 := List.mem_range.mp hi
  have hhigh : ∀ a ∈ usedRegs, a < 0x280000 ∨ 0x282000 ≤ a := by decide
  intro hm
  have := hhigh _ hm
  simp only [R.PORT_MCASTn_W0] at this
  omega

theorem queueState (s : State) {q : Nat} (hq : q < 32) (st : Nat) : LoadKept s (s.queueState q st) := by
  have h : ∀ q < 32, R.QUEUE_Qn_CTRL q ∉ usedRegs := by decide
  exact (putReg s _ (h q hq)).trans (putReg _ _ (by decide))

theorem putLevel (s : State) {q : Nat} (hq : q < 32) (x : QueueSt) : LoadKept s (s.putLevel q x) := by
  have h : ∀ q < 32, ∀ a ∈ usedRegs, a ∉ levelRegs q := by decide
  exact of_regs ((Frame.putLevel (m := 0x40850) rfl).mpr (Frame.refl _ s) .draft rfl) (s.sameRegs_putLevel q x) (h q hq)

theorem loadQueues (s : State) : LoadKept s s.loadQueues := by
  have h : ∀ q < 32, R.QUEUE_Qn_CFG q ∉ usedRegs ∧ R.QUEUE_Qn_WATERMARK q ∉ usedRegs ∧ R.QUEUE_Qn_MODERATION q ∉ usedRegs ∧
      R.QUEUE_Qn_LEVEL q ∉ usedRegs := by decide
  unfold State.loadQueues
  refine LoadKept.trans (of_same (by simp) (by simp)) (foldl fun w q hq => ?_)
  have hq32 := List.mem_range.mp hq
  obtain ⟨hcfg, hmark, hmod, hlevel⟩ := h q hq32
  extract_lets e size on cfg mark mod state
  have hshown : LoadKept w state := (((putReg w _ hcfg).trans (putReg _ _ hmark)).trans (putReg _ _ hmod)).trans (queueState _ hq32 _)
  exact ite (hshown.trans (putLevel _ hq32 _)) (hshown.trans (putReg _ _ hlevel))

theorem showLattices (s : State) : LoadKept s s.showLattices := foldl fun w l hl => by
  have h : ∀ l < 4, R.LOOM_Ln_CFG l ∉ usedRegs ∧ R.LOOM_Ln_CAPACITY l ∉ usedRegs := by decide
  obtain ⟨hcfg, hcap⟩ := h l (List.mem_range.mp hl)
  exact (putReg w _ hcfg).trans (putReg _ _ hcap)

theorem showSets (s : State) : LoadKept s s.showSets := foldl fun w n hn => by
  have hhigh : ∀ a ∈ usedRegs, a < 0x610000 ∨ 0x612000 ≤ a := by decide
  have hn256 := List.mem_range.mp hn
  have hout : ∀ a, 0x610000 ≤ a → a < 0x612000 → a ∉ usedRegs := fun a hlo hhi hm => by
    have := hhigh a hm
    omega
  have hcfg := hout (R.LOOM_SETn_CFG n) (by simp only [R.LOOM_SETn_CFG]; omega) (by simp only [R.LOOM_SETn_CFG]; omega)
  have hmin := hout (R.LOOM_SETn_WAIT_MIN n) (by simp only [R.LOOM_SETn_WAIT_MIN]; omega) (by simp only [R.LOOM_SETn_WAIT_MIN]; omega)
  have hmax := hout (R.LOOM_SETn_WAIT_MAX n) (by simp only [R.LOOM_SETn_WAIT_MAX]; omega) (by simp only [R.LOOM_SETn_WAIT_MAX]; omega)
  have hguard := hout (R.LOOM_SETn_GUARD n) (by simp only [R.LOOM_SETn_GUARD]; omega) (by simp only [R.LOOM_SETn_GUARD]; omega)
  exact (((putReg w _ hcfg).trans (putReg _ _ hmin)).trans (putReg _ _ hmax)).trans (putReg _ _ hguard)

theorem captLoad (s : State) : LoadKept s s.captLoad := by
  have h : ∀ r < 16, R.CAPT_Rr_BASE_LO r ∉ usedRegs ∧ R.CAPT_Rr_BASE_LO r + 4 ∉ usedRegs ∧ R.CAPT_Rr_PAGES r ∉ usedRegs ∧
      ∀ a ∈ usedRegs, a ∉ regionRegs r := by decide
  unfold State.captLoad
  refine LoadKept.trans (of_same (by simp) (by simp)) (foldl fun w r hr => ?_)
  obtain ⟨hlo, hhi, hpages, hregion⟩ := h r (List.mem_range.mp hr)
  dsimp only
  refine LoadKept.trans ?_ (of_regs (by unfold State.putCapt; simp) (State.sameRegs_putCapt _ r _) hregion)
  refine LoadKept.trans ?_ (of_same (State.setStk_draft _ _) (State.setStk_regs _ _))
  exact (putPair w _ hlo hhi).trans (putReg _ _ hpages)

theorem shuttleLoad (s : State) (g : Nat) : LoadKept s (s.shuttleLoad g) := by
  have h : ∀ n < 64, (F.SHUTTLE_OSn_STATE_CFGCNT n).addr ∉ usedRegs := by decide
  unfold State.shuttleLoad
  exact LoadKept.trans (of_same (by simp) (by simp)) (foldl fun w n hn => putReg w _ (h n (List.mem_range.mp hn)))

theorem startLink (s : State) {n : Nat} (hn : n < 4) : LoadKept s (s.startLink n) := by
  have h : ∀ n < 4, ∀ a ∈ usedRegs, a ∉ [R.SLV_LINKn_WINDOW n] := by decide
  unfold State.startLink
  refine ite (refl s) (LoadKept.trans ?_ (of_regs (by unfold State.putLink; simp) (State.sameRegs_putLink _ n _) (h n hn)))
  exact putReg s _ (by decide)

theorem slvLoad (s : State) : LoadKept s s.slvLoad := by
  have h : ∀ n < 4, R.SLV_Ln_BUDGET n ∉ usedRegs ∧ (F.SLV_LINKn_STATE_ROLE n).addr ∉ usedRegs := by decide
  unfold State.slvLoad State.startLinks
  dsimp only
  refine LoadKept.trans ?_ (foldl fun w n hn => startLink w (List.mem_range.mp hn))
  refine LoadKept.trans ?_ (foldl fun w n hn => putReg w _ (h n (List.mem_range.mp hn)).2)
  refine LoadKept.trans ?_ (foldl fun w n hn => putReg w _ (h n (List.mem_range.mp hn)).1)
  refine LoadKept.trans ?_ (putReg _ _ (by decide))
  refine LoadKept.trans ?_ ((putReg _ _ (by decide)).trans (putReg _ _ (by decide)))
  refine LoadKept.trans ?_ ((putReg _ _ (by decide)).trans (putReg _ _ (by decide)))
  exact LoadKept.trans (of_same (by simp) (by simp)) (putReg _ _ (by decide))

theorem takeJobs (s : State) (l : List (Nat × List Byte)) (on : Nat → Bool) : LoadKept s (s.takeJobs l on) := by
  unfold State.takeJobs
  refine LoadKept.trans (of_same (by simp) (by simp)) (foldl fun w e _ => ?_)
  exact ite (refl w) (of_same (by unfold State.putShape; simp) (by unfold State.putShape; simp))

theorem oscReset (s : State) : LoadKept s s.oscReset := by
  unfold State.oscReset State.showOsc
  dsimp only
  refine LoadKept.trans ?_ (putReg _ _ (by decide))
  refine LoadKept.trans ?_ (putReg _ _ (by decide))
  refine LoadKept.trans ?_ (takeJobs _ _ _)
  exact of_same (by simp) (by simp)

theorem energyOutputs (s : State) (b : List Byte) : LoadKept s ((List.range 4).foldl (energyOutput b) s) := foldl fun w n hn => by
  have h : ∀ n < 4, R.ENERGY_PULSEn_CFG n ∉ usedRegs ∧ R.ENERGY_PULSEn_K n ∉ usedRegs := by decide
  obtain ⟨hcfg, hk⟩ := h n (List.mem_range.mp hn)
  exact (putReg w _ hcfg).trans (putReg _ _ hk)

theorem energyLoad {s : State} (h : s.saves.newest = none) : LoadKept s s.energyLoad := by
  rw [State.energyLoad_of_none h]
  unfold State.showEnergy
  dsimp only
  refine LoadKept.trans ?_ (putReg _ _ (by decide))
  refine LoadKept.trans ?_ (putReg _ _ (by decide))
  exact LoadKept.trans (of_same (State.setEnergy_draft _ _) (State.setEnergy_regs _ _)) (energyOutputs _ _)

theorem showSwitch (s : State) : LoadKept s s.showSwitch := by
  unfold State.showSwitch
  split
  · refine LoadKept.trans ?_ (putReg _ _ (by decide))
    refine LoadKept.trans ?_ (putPair _ _ (by decide) (by decide))
    exact (putReg s _ (by decide)).trans (putReg _ _ (by decide))
  · exact (putReg s _ (by decide)).trans (putReg _ _ (by decide))

theorem enterMode (s : State) (m : Nat) : LoadKept s (s.enterMode m) := by
  unfold State.enterMode
  extract_lets old spent draft noted mode shown safe since
  have hnoted : LoadKept s noted := ⟨by unfold noted; rw [State.setDraft_draft], by unfold noted; rw [State.setDraft_draft],
    fun a _ => regN_congr (State.setDraft_regs _ _) a⟩
  have hsafe : LoadKept s safe := ((hnoted.trans (putReg _ _ (by decide))).trans (putReg _ _ (by decide))).trans (putReg _ _ (by decide))
  refine LoadKept.trans ?_ (raise _ (by decide))
  refine LoadKept.trans ?_ (putReg _ _ (by decide))
  exact hsafe.trans (putPair _ _ (by decide) (by decide))

theorem shownHolding (s : State) : LoadKept s s.shownHolding :=
  of_regs (by unfold State.shownHolding; simp) s.sameRegs_shownHolding (by decide)

end LoadKept

/-- With no partner, and no pulse driven or waiting, the stage follows the lanes and no other register changes. -/
theorem LoadKept.updateHolding {s : State} (hpair : s.pairMode = 0) (hpulses : s.energy.pulses = []) (hmode : s.mode < 3) :
    LoadKept s s.updateHolding := by
  obtain ⟨starts, ends, heq⟩ := s.updateHolding_eq
  have hshown := LoadKept.shownHolding s
  have hpair' : s.shownHolding.pairMode = 0 := hshown.pairMode.trans hpair
  have htakeover : s.shownHolding.takeover = s.shownHolding := by
    unfold State.takeover
    rw [if_pos hpair']
  have hreleased : s.shownHolding.released = s.shownHolding := by
    unfold State.released
    rw [if_pos hpair']
  have hfollow : s.shownHolding.pulsesFollow = s.shownHolding := by
    have hmode' : s.shownHolding.mode = s.mode := s.sameRegs_shownHolding.fld (by decide)
    have hoff : s.shownHolding.pulsesOn = false := by
      unfold State.pulsesOn
      rw [hmode']
      simp
      omega
    have hnone : s.shownHolding.energy.pulses = [] := by
      rw [← hpulses]
      unfold State.shownHolding
      simp
    unfold State.pulsesFollow
    rw [hoff, hnone]
    rfl
  have hpins : LoadKept s.shownHolding s.shownHolding.updatePins := by
    refine LoadKept.of_regs ((Frame.updatePins (m := 0x200004810) rfl).mpr (Frame.refl _ _) .draft rfl) (l := [R.VOTE_STATUS, R.VOTE_PIN_SENSE]) ?_ (by decide)
    unfold State.updatePins
    rw [hfollow]
    dsimp only
    rw [sameRegs_putReg (by simp), sameRegs_putFld (by simp), sameRegs_putFld (by simp), sameRegs_setVote, (State.sameRegs_showBalls _ _).thru (by simp)]
    exact SameRegs.refl _ _
  rw [heq, htakeover, hreleased]
  refine hshown.trans ?_
  simpa using hpins

/-- A load from the domains' states on (R49). -/
def State.draftSettles (s : State) (l : LoadReq) (o : Obj) : State :=
  let s := ([0, 1, 2].foldl (fun s i => s.putFld (laneFld i) 0) s).showFenced.clearFault
  let s := s.loadPorts.loadQueues
  let s := (s.assignWeft.showLattices.showSets).captLoad
  let s := (s.shuttleLoad (ohGeneration o.header)).slvLoad
  let s := s.putFld F.ISLE_SC_TIMEOUT_S (if s.usedDomain pdAna then leAt (s.cfg secIsle) 0xA 2 else 0)
  let s := (s.oscReset.energyLoad.showSwitch).enterMode 2
  let s := (((tableOf (s.cfg secStreams) 0).filter (fun e => stEnabled e.2)).map (·.1)).foldl State.enterWaiting s
  let s := (if s.pairMode = 0 then s else s.condition 4 true).updateHolding
  let s := s.putReg R.DRAFT_LOAD_TIME (sat32 ((s.bases.mono - l.start) / 1000))
  (s.event E.DRAFT_LOAD_OK (s.fld F.DRAFT_STATUS_IMAGE) (leBytes 8 (ohDraftId o.header) ++ leBytes 1 (sourceCode l.source) ++
    leBytes 1 (s.fld F.DRAFT_STATUS_IMAGE) ++ leBytes 1 (if o.signed then 1 else 0))).raise I.DRAFT_LOAD_DONE

theorem streams_nil : ((tableOf [] 0).filter (fun e => stEnabled e.2)).map (·.1) = [] := by decide

/-- With nothing saved, no partner and no stream, what a load does after the domains leaves them as they are. -/
theorem State.draftSettles_kept {s : State} (l : LoadReq) (o : Obj) (hsaves : s.saves.newest = none) (hpair : s.pairMode = 0)
    (hstreams : s.cfg secStreams = []) : LoadKept s (s.draftSettles l o) := by
  unfold State.draftSettles
  extract_lets lanes ports capt links isle mode waits holds timed
  have hlanes : LoadKept s lanes := ((LoadKept.lanes s).trans (LoadKept.showFenced _)).trans (LoadKept.clearFault _)
  have hports : LoadKept s ports := (hlanes.trans (LoadKept.loadPorts _)).trans (LoadKept.loadQueues _)
  have hcapt : LoadKept s capt := (((hports.trans (LoadKept.of_same (by unfold State.assignWeft; simp) (by unfold State.assignWeft; simp))).trans
    (LoadKept.showLattices _)).trans (LoadKept.showSets _)).trans (LoadKept.captLoad _)
  have hlinks : LoadKept s links := (hcapt.trans (LoadKept.shuttleLoad _ _)).trans (LoadKept.slvLoad _)
  have hisle : LoadKept s isle := hlinks.trans (LoadKept.putReg _ _ (by decide))
  have hframe : Frame 0xF80C0CD0 s isle.oscReset := by
    unfold isle links capt ports lanes
    simp (disch := decide) only [Frame.oscReset, Frame.putFld, Frame.slvLoad, Frame.shuttleLoad, Frame.captLoad, Frame.showSets, Frame.showLattices,
      Frame.assignWeft, Frame.loadQueues, Frame.loadPorts, Frame.clearFault, Frame.showFenced, List.foldl_cons, List.foldl_nil, Frame.refl]
  have hnone : isle.oscReset.saves.newest = none := (congrArg EnergySaves.newest (hframe .saves rfl)).trans hsaves
  have hmode : LoadKept s mode := (((hisle.trans (LoadKept.oscReset _)).trans (LoadKept.energyLoad hnone)).trans (LoadKept.showSwitch _)).trans
    (LoadKept.enterMode _ _)
  have hwaits : waits = mode := by
    unfold waits
    rw [hmode.cfg, hstreams, streams_nil, List.foldl_nil]
  have hpulses : mode.energy.pulses = [] := by
    have hframe' : Frame 0x950 isle.oscReset.energyLoad mode := by
      unfold mode
      simp (disch := decide) only [Frame.enterMode, Frame.showSwitch, Frame.refl]
    rw [show mode.energy = isle.oscReset.energyLoad.energy from hframe' .energy rfl]
    exact State.energyLoad_pulses hnone
  have htwo : mode.mode = 2 := (State.enterMode_effect _ (by decide)).1
  have hholds : LoadKept s holds := by
    unfold holds
    rw [hwaits, if_pos (hmode.pairMode.trans hpair)]
    exact hmode.trans (LoadKept.updateHolding (hmode.pairMode.trans hpair) hpulses (by omega))
  refine LoadKept.trans ?_ (LoadKept.raise _ (by decide))
  refine LoadKept.trans ?_ (LoadKept.event _ _ _ _)
  exact hholds.trans (LoadKept.putReg _ _ (by decide))

theorem State.putShadow_regs (s : State) (a n : Nat) (l : List Byte) : (s.putShadow a n l).regs = s.regs := by
  unfold State.putShadow State.stkStore
  rw [State.setStk_regs, State.setStk_regs]

theorem exec_loadDone {s : State} (h : s.held = false) (t : Nat) (o : List Byte) :
    exec (.loadDone t o []) s = .next ((s.at t).loadEnds .draft (fun l s => s.endLoad l o [])) := by
  show run t (·.loadEnds .draft (fun l s => s.endLoad l o [])) s = _
  rw [run_next h]

/-- A draft from the host that passes every check is taken. -/
theorem State.loadEnds_draft {w : State} {l : LoadReq} {o : List Byte} (hload : w.draft.load = some l) (hkind : l.kind = .draft) (hsource : l.source = 0)
    (hcheck : w.checkDraft (o.take l.length).length (o.take l.length) = none) :
    w.loadEnds .draft (fun l s => s.endLoad l o []) = (w.takeDraft l (Obj.read ((o.take l.length).take (ohTotal (o.take l.length))))).putShadow 0 (2 ^ 25)
      ((o.take l.length).take (ohTotal (o.take l.length))) := by
  have hbytes : w.sourceBytes l o = o.take l.length := by
    unfold State.sourceBytes
    rw [hsource]
    rfl
  have himage : w.noImage l = false := by
    unfold State.noImage
    rw [hsource]
    rfl
  have hretries : w.retries l.source [] = w := rfl
  unfold State.loadEnds
  rw [hload]
  dsimp only
  rw [if_pos (by simp [hkind, hsource]), if_neg (by omega)]
  unfold State.endLoad
  rw [himage, if_neg (by decide), if_neg (by omega)]
  dsimp only
  rw [hbytes, hretries, hkind]
  dsimp only
  rw [if_neg (by omega), hcheck]
  dsimp only
  rw [if_neg (by omega)]

/-! The witness. -/

/-- A TIE-UP body that uses PD_CTRL, PD_HOST, PD_TIME, the Stacks, the lanes and the Archive, with a page per queue and no lattice open. -/
def lanesTieup : List Byte :=
  [1, 1, 0, 0, 0, 1, 0, 0, 0, 0, 0, 1, 1, 1, 1, 1] ++ List.replicate 16 0 ++
    (List.replicate 4 ([9, 0, 1, 0] ++ List.replicate 12 0)).flatten ++ (List.replicate 16 [1, 0]).flatten ++ List.replicate 192 0

/-- A draft of the five sections every draft has, with that tie-up, as bytes. -/
def lanesDraft : List Byte :=
  Obj.image
    { header := magicDraft ++ [1, 0, 64, 0] ++ List.replicate 8 0 ++ leBytes 4 0x8160 ++ List.replicate 4 0 ++ leBytes 8 0x77 ++
        List.replicate 12 0 ++ leBytes 4 1 ++ List.replicate 12 0
      sections := [(secDevice, List.replicate 16 0), (secTieup, lanesTieup), (secTime, List.replicate 16 0),
        (secAlarm, List.replicate 16 0), (secLedger, List.replicate 64 0)]
      length := 0, signed := false, keySlot := 0 }

/-- The host's load of that draft. -/
def lanesLoad : LoadReq := { kind := .draft, source := 0, address := 0, length := 768, auto := false, start := 0 }

/-- The number at which the register of a pulse output would be `POWER_DOMAIN_STATE`. -/
def pulseAtDomains : Nat := (R.POWER_DOMAIN_STATE - R.ENERGY_PULSEn_STATE 0) / 4

/-- The load is under way with lane A OFF, and a pulse output is left under that number. -/
def loadWithStrayPulse : State :=
  (((everyDomainOn 1).putDomain pdLaneA 2).setEnergy { pulses := [(pulseAtDomains, {})] }).setDraft { load := some lanesLoad }

/-- A load up to the domains' states (R49). -/
def State.draftPlaced (s : State) (l : LoadReq) (o : Obj) : State :=
  let s := s.setDraft { base := some o, imageWrite := s.draft.imageWrite }
  let s := s.resetFields (fun f => f.draftClass || f.modeClass)
  let s := (s.showDraft o l.source).clearBlocks
  let b := s.cfg secDevice
  let s := (placed b 16 8 (leAt b 0 4)).foldl (fun s e => s.applyDevice e.2) s
  s.loadTime

theorem State.takeDraft_eq (s : State) (l : LoadReq) (o : Obj) : s.takeDraft l o = (s.draftPlaced l o).powerUsed.draftSettles l o := rfl

/-- The draft as it is held. -/
def lanesHeld : Obj := Obj.read ((lanesDraft.take lanesLoad.length).take (ohTotal (lanesDraft.take lanesLoad.length)))

/-- The witness once the load has set the domains. -/
def loadPowered : State := ((loadWithStrayPulse.at 900).draftPlaced lanesLoad lanesHeld).powerUsed

theorem loadPowered_settles : (loadWithStrayPulse.at 900).takeDraft lanesLoad lanesHeld = loadPowered.draftSettles lanesLoad lanesHeld :=
  State.takeDraft_eq _ _ _

set_option maxRecDepth 16000 in
theorem lanesDraft_passes : (loadWithStrayPulse.at 900).checkDraft (lanesDraft.take lanesLoad.length).length (lanesDraft.take lanesLoad.length) = none := by
  decide +kernel

set_option maxRecDepth 16000 in
/-- The pulse output taken down as lane A comes ON has cleared the states of the domains above it. -/
theorem loadPowered_facts : (loadPowered.domain pdAna == 0 && !loadPowered.usedDomain pdAna && loadPowered.saves.newest.isNone &&
    loadPowered.pairMode == 0 && loadPowered.cfg secStreams == []) = true := by
  decide +kernel

/-- Refutes O24: as lane A comes ON at a load, the pulse outputs left are taken down, each with the backlog its register shows; from every state
is meant there, also one with an output under a number past the last, whose register then is that of the domains' states, and a domain that
the draft does not use reads ON. -/
theorem not_draftEventsHappen : ¬ Obligations.DraftEventsHappen := by
  intro h
  obtain ⟨-, hdone, -⟩ := h
  obtain ⟨u, hu, -, -, -, -, -, -, hdomains, -⟩ :=
    hdone lanesDraft lanesLoad (by decide) loadWithStrayPulse 900 rfl ⟨rfl, lanesDraft_passes⟩
  have hfacts := loadPowered_facts
  simp only [Bool.and_eq_true, beq_iff_eq, Bool.not_eq_true', Option.isNone_iff_eq_none] at hfacts
  obtain ⟨⟨⟨⟨hon, hunused⟩, hsaves⟩, hpair⟩, hstreams⟩ := hfacts
  have hkept := loadPowered.draftSettles_kept lanesLoad lanesHeld hsaves hpair hstreams
  have hend : u.regs = (loadPowered.draftSettles lanesLoad lanesHeld).regs := by
    have hnext := exec_loadDone (s := loadWithStrayPulse) rfl 900 lanesDraft
    have htaken := State.loadEnds_draft (w := loadWithStrayPulse.at 900) (l := lanesLoad) rfl rfl rfl lanesDraft_passes
    have hu' := Host.Outcome.next.inj (hu.symm.trans (hnext.trans (congrArg Host.Outcome.next htaken)))
    exact (congrArg State.regs hu').trans ((State.putShadow_regs _ _ _ _).trans (congrArg State.regs loadPowered_settles))
  have hana := hdomains pdAna (by decide)
  have hzero : u.domain pdAna = 0 := by
    rw [← hon]
    unfold State.domain
    rw [regN_congr hend, hkept.regs R.POWER_DOMAIN_STATE (by decide)]
  have hnot : u.usedDomain pdAna = false := by
    rw [← hunused]
    unfold State.usedDomain State.fld
    rw [regN_congr hend, hkept.regs R.DRAFT_DOMAINS (by decide)]
  rw [hzero, hnot] at hana
  exact absurd hana (by decide)

end Sys2Proof.Machine
end

end
